-- ==== Sys2Proof/Word.lean ====
section
/-! DEFINITION. The word types of the UH9600 (00_scope.md R6 to R10): bytes, register words, and the index types of
its ports, basins, engines, doors, lanes, dies, rails and belts. -/

namespace Sys2Proof

abbrev Byte := BitVec 8
abbrev Word := BitVec 32

/-- Ports P0 to P95, and the fuse channel of the same number (R10, 13). -/
abbrev Port := Fin 96
/-- Basins B0 to B15 (R26). -/
abbrev Basin := Fin 16
/-- Engines by global number 32n + L (R26). -/
abbrev Engine := Fin 512
/-- Mailbox doors (06). -/
abbrev Door := Fin 8
/-- Trunk lanes: 0 TA, 1 TB (R110). -/
abbrev LaneId := Fin 2
/-- Fuse dies FD0 and FD1. -/
abbrev Die := Fin 2
/-- Board rails (13). -/
abbrev RailId := Fin 8
/-- Belts, one per shaft (12). -/
abbrev Belt := Fin 16
/-- Inlets and outfalls. -/
abbrev Io := Fin 32
/-- Register access paths: 0 REGWIN, 1 firmware, 2 service port, 3 JTAG (R311). -/
abbrev RegPath := Fin 4
/-- A PLL in the bit order of CLK_CTL.PLL_EN (R65): 0 REF, 1 TIME, 2 ENG, 3 HS, 4-7 USB_0-3, 8 SRDS. -/
abbrev Pll := Fin 9
/-- A context identifier (07). -/
abbrev Cid := BitVec 20
/-- A belt position (R249). -/
abbrev Pos := BitVec 48

end Sys2Proof
end

