-- ==== Sys2Proof/Syntax.lean ====
section
/-! DEFINITION. The commands of the UH9600: one constructor of `Instr` per row of spec/opcode_table.json, with the
operands the manual gives that step. A door opcode names the request it executes (`ReqId`) and the decoded arguments of
its ARGS field; an event of the floor, the board or a timer names what it befalls and what was sensed. -/

namespace Sys2Proof

/-- A request held in a door's request ring, by the number of its acceptance over all doors (R144). -/
structure ReqId where
  door : Door
  ord : Nat
deriving DecidableEq, Repr

/-- A supply with an on-die monitor outside the always-on one (R59). -/
inductive Supply where
  | core | sram | srds | vdda | usb | io33 | io18 | vfd0 | vfd1
deriving DecidableEq, Repr

/-- A reset scope narrower than device, with its index (R67). -/
inductive Scope where
  | port (n : Port) | basin (b : Basin) | headspring | lane (l : LaneId)
deriving DecidableEq, Repr

/-- What the CONFIG component makes firmware do (R81): the register writes, in order, and the CW_REF it carries (R324).
The component's own byte format is not in the manual. -/
structure ConfigImage where
  writes : List (Nat × Word)
  cwRef : Word
  /-- R106: the 802.1Q tag of each lane, TA then TB; none for untagged frames. -/
  vlans : Option (BitVec 16) × Option (BitVec 16) := (none, none)
deriving DecidableEq, Repr

/-- An Ethernet frame as a lane receives it (R106, R107, R110, R111): its addresses, its 802.1Q tag if any, its EtherType and
the TTP fields. `length` is the header's LENGTH, `zero` its bytes 14 and 15, `payload` the bytes present, `crc` the CRC-32C that
follows them. -/
structure RxFrame where
  fcsOk : Bool
  dst : BitVec 48
  src : BitVec 48
  tag : Option (BitVec 16) := none
  etherType : BitVec 16
  ver : Byte
  typ : Byte
  id : BitVec 16
  seq : BitVec 32
  epoch : BitVec 16
  length : BitVec 16
  flags : BitVec 16
  zero : BitVec 16 := 0#16
  payload : List Byte
  crc : BitVec 32
deriving DecidableEq, Repr

/-- Why a lane was lost (R109, event LANE_DOWN). -/
inductive LossCause where
  | signal | blockLock | fec | remoteFault
deriving DecidableEq, Repr

/-- Current and output voltage of one channel as a fuse-link frame carries them (R289). -/
structure ChSample where
  ch : Port
  vOut : BitVec 16
  cur : BitVec 16
deriving DecidableEq, Repr

/-- A fuse-link frame each way that fails its CRC in one direction or in both (R18), and what the die samples with it. -/
structure BadLinkFrame where
  toBad : Bool
  fromBad : Bool
  chs : List ChSample
  rails : List (RailId × BitVec 16)
deriving DecidableEq, Repr

/-- Nominal and data bit timing of LINE_TIMING (R224), each value as the manual counts it. -/
structure BitTiming where
  brp : Nat
  tseg1 : Nat
  tseg2 : Nat
  sjw : Nat
deriving DecidableEq, Repr

/-- One endpoint of a configuration, as its descriptors give it (R171 step 3, R187). -/
structure EpDesc where
  addr : Byte
  xfer : Nat
  mult : Nat
  mps : Nat
  interval : Nat
  iface : Nat
  alt : Nat
deriving DecidableEq, Repr

/-- One interface of a configuration (R205, R207). -/
structure IfDesc where
  num : Nat
  alt : Nat
  cls : Byte
  sub : Byte
  proto : Byte
  /-- R205: the subordinate interface that the union functional descriptor of a communications interface names. -/
  union : Option Nat := none
deriving DecidableEq, Repr

/-- How an enumeration request ends (R171): what it returned, or a failure. -/
inductive EnumResult where
  | device (mps0 : Nat) (cls : Byte)
  | configHead (total : Nat)
  | config (value : Byte) (attrs : Byte) (eps : List EpDesc) (ifs : List IfDesc)
  | deviceFull (vid pid : BitVec 16) (desc : List Byte)
  | hubDesc (ports : Nat) (multiTt : Bool) (pwrGood : Nat)
  | done
  | stall
  | malformed
deriving DecidableEq, Repr

/-- What the device takes from a PTP Delay_Req (R123): the requesting port's identity and the correctionField. -/
structure DelayReq where
  port : BitVec 80
  corr : BitVec 64 := 0#64
deriving DecidableEq, Repr

/-- A level change at a digital input (R248, R266): the new level, and for how many samples it holds. -/
structure EdgeIn where
  high : Bool
  held : Nat
deriving DecidableEq, Repr

/-- A rising edge of a belt's Z input (R248, R252), and for how many samples its level holds. -/
structure ZEdgeIn where
  belt : Belt
  held : Nat
deriving DecidableEq, Repr

/-- A task of an engine and how long it has run, in ticks (R346): one of a port it carries, or of its role else. -/
structure TaskRun where
  engine : Engine
  port : Option Port
  ran : Nat
deriving DecidableEq, Repr

/-- A wake source's input (R335): its index, and whether the source's qualification was met in full. -/
structure WakeInput where
  index : Nat
  held : Bool := true
deriving DecidableEq, Repr

/-- The PID of a data packet (R190, R191). -/
inductive Pid where
  | data0 | data1 | data2 | mdata
deriving DecidableEq, Repr

/-- How a transaction on a drop's wire ends (R186, R189, R191): `ack` with the bytes and the PID of an IN's data packet; an OUT's
data is the device's own. -/
inductive TxResult where
  | ack (bytes : List Byte) (pid : Pid)
  | nak | nyet | stall | timeout | crcError
deriving DecidableEq, Repr

/-- What a hub's status report says about one of its ports (R174). -/
inductive HubChange where
  | connect (fullSpeed : Bool) (highSpeed : Bool)
  | disconnect
  | overCurrent
deriving DecidableEq, Repr

/-- A CAN frame as the controller receives it (R222, R229). -/
structure CanFrame where
  id : BitVec 29
  ide : Bool
  fdf : Bool
  brs : Bool
  data : List Byte
deriving DecidableEq, Repr

/-- What a line's controller receives (R222, R223, R229): a frame, or the protocol exception of a recessive res bit in it; `age` is
how many ticks ago RXD went dominant for its start-of-frame bit. -/
structure LineInput where
  frame : CanFrame
  exception : Bool := false
  age : Nat := 0
deriving DecidableEq, Repr

/-- How a frame in a TX buffer fares on the wire (R232, R233): `loopDelay` is the delay that the controller measures in an FD frame,
in ticks (R225). -/
inductive TxWire where
  | started | loopDelay (ticks : Nat) | lostArbitration | error | completed
deriving DecidableEq, Repr

/-- Which side of a frame the controller is on when it sees an error (R234). -/
inductive CanRole where
  | receiver | transmitter
deriving DecidableEq, Repr

/-- An error on the bus as ISO 11898-1 counts it (R234): an error of its own; one after or within an error flag (a dominant bit
there); one that the exceptions of the rules do not count. -/
inductive CanErr where
  | plain | flagged | exempt
deriving DecidableEq, Repr

/-- What is on a Type-C drop's CC balls when Rd has stood there for 150 ms (R167, R297): Rd's ball, and whether Ra is on the other. -/
structure RdSeen where
  onCc2 : Bool
  ra : Bool
deriving DecidableEq, Repr

/-- A template of TEMPLATE_LOAD (R255): KIND 1 line, KIND 2 drop. -/
inductive Template where
  | line (port : Port) (addr : Nat) (obj : Nat) (prio : Nat) (value : List Byte)
  | drop (port : Port) (dev : Cid) (gen : Byte) (ep : Byte) (data : List Byte)
deriving DecidableEq, Repr

/-- Operation of OUTFALL_SET (R264). -/
inductive OutOp where
  | set | clear | pulse
deriving DecidableEq, Repr

/-- A word read from a memory with ECC (R161, R163, R343). -/
inductive EccErr where
  | none | single (word : Nat) | double (word : Nat)
deriving DecidableEq, Repr

/-- Where a Reservoir error falls (R343). -/
inductive ResWhere where
  | body (queue : Nat) | header (queue : Nat) | microcode (active : Bool)
deriving DecidableEq, Repr

/-- A PD message other than Request, EPR_Mode, VCONN_Swap and Hard_Reset (R292, R305). -/
inductive PdMsg where
  | getSourceCap | getSourceCapExt | getStatus | getPpsStatus | getRevision | eprKeepAlive | softReset
  | bistCarrier | bistTestData | accept | wait | reject | notSupported | psRdy | unsupported
deriving DecidableEq, Repr

/-- How a standard or custom Bead command is addressed (ISO/IEC 15693 flags): to all, to the selected tag, to a UID. -/
inductive BeadMode where
  | nonAddressed | selected | addressed (uid : BitVec 64)
deriving DecidableEq, Repr

/-- A converter fault's cause (R295, event PD_CONV_FAULT). -/
inductive ConvFault where
  | noAck | status (word : BitVec 16) | busTimeout | voutMode
deriving DecidableEq, Repr

/-- A standard control request on the service port (R183, R311). -/
inductive SvcStdReq where
  | setAddress (a : Nat) | setConfiguration (c : Nat) | setRemoteWakeup | clearRemoteWakeup | busReset
deriving DecidableEq, Repr

/-- What ends the self-test, first run or reload a command waits for. -/
inductive StepEnd where
  | timedOut | failed
deriving DecidableEq, Repr

/-- The commands, one per row of spec/opcode_table.json, in its order. -/
inductive Instr where
  | vddAonPowerOn
  | supplyMonitorTrip (v : Supply)
  | supplyRecovered (v : Supply)
  | porstNLow
  | porstNRise (straps : BitVec 4)
  | firmwareBoot (locks : BitVec 9) (cfg : Option ConfigImage)
  | bootWatchdogExpiry
  | bootOkWrite (p : RegPath) (v : Word)
  | clkCtlPllEn (p : RegPath) (v : Word)
  | clkCtlSysSel (p : RegPath) (v : Word)
  | clkCtlRefEn (p : RegPath) (v : Word)
  | pllLock (g : Pll)
  | pllLockTimeout
  | refInQualified
  | refInLost
  | crystalFailure
  | crystalReturn
  | pllRefSlewEnd
  | pllUnlock (g : Pll)
  | pllRelock (g : Pll)
  | portReset (n : Port) (q : Option ReqId)
  | basinReset (b : Basin) (q : Option ReqId) (badCids : List Cid) (imageOk : Bool)
  | headspringReset (q : Option ReqId)
  | laneReset (l : LaneId) (q : Option ReqId)
  | deviceReset (q : Option ReqId)
  | resetDone (sc : Scope)
  | fuseLinkFrame (d : Die) (chs : List ChSample) (rails : List (RailId × BitVec 16))
  | fuseLinkBadFrame (d : Die) (x : BadLinkFrame)
  | fuseLinkResync (d : Die)
  | ttpFrameReceive (l : LaneId) (f : RxFrame)
  | mbxReqReceive (d : Door) (crcOk : Bool)
  | svcPortRequest (d : Door) (bytes : List Byte)
  | streamFrameReceive (id : BitVec 16) (crcOk : Bool)
  | regwinFrameReceive
  | swapReqReceive (l : LaneId)
  | swapAckReceive (l : LaneId)
  | echoReplyReceive (l : LaneId)
  | wakeFrameReceive (l : LaneId)
  | ptpDelayReqReceive (l : LaneId) (req : DelayReq) (seq : BitVec 16) (domain : Byte)
  | ptpAnnounceReceive (l : LaneId) (clockId : BitVec 64)
  | ptpSyncSend (l : LaneId)
  | ptpAnnounceSend (l : LaneId)
  | echoSend
  | laneUp (l : LaneId)
  | laneLossDeclared (l : LaneId) (cause : LossCause)
  | failoverComplete
  | laneBackTimer (l : LaneId)
  | laneDegradedWindow (l : LaneId) (late : Nat) (fecUncorrectable : Bool)
  | laneHealthy (l : LaneId)
  | swapTimerExpiry
  | reorderHoldExpiry (cls : Nat) (id : BitVec 16)
  | spillReplayEnd
  | eventFrameSend (d : Door)
  | mbxRspSend (d : Door)
  | streamFrameSend (id : BitVec 16)
  | noLaneAfterDeep
  | leaseExpiry (d : Door)
  | leaseWrite (p : RegPath) (v : Word)
  | rateWindowEnd (code src : Nat)
  | svcEventPoll
  | svcPortRemoteWake
  | svcHostResumeK
  | identify (q : ReqId)
  | doorClaim (q : ReqId) (owner : BitVec 64) (sub : BitVec 16)
  | doorRelease (q : ReqId)
  | doorKeepalive (q : ReqId)
  | eventAck (q : ReqId) (seq : BitVec 32)
  | eventRead (q : ReqId) (first : BitVec 32) (count : Nat)
  | subscribe (q : ReqId) (mask : BitVec 16)
  | culletRead (q : ReqId) (which count : Nat)
  | epochRead (q : ReqId) (kind first count : Nat)
  | roleMap (q : ReqId) (basin : Nat)
  | trunkStatus (q : ReqId)
  | trunkMode (q : ReqId) (pair prefTb : Bool)
  | trunkSwap (q : ReqId)
  | ptpSet (q : ReqId) (domain : Byte) (syncLog : Int) (annLog prio1 : Nat)
  | faultStatus (q : ReqId)
  | engineRelease (q : ReqId) (engine : Nat) (pass : Bool)
  | pwrStatus (q : ReqId)
  | pwrSet (q : ReqId) (ltr : BitVec 24) (stateMax : BitVec 2) (auto : Bool) (idleUs sleepS deepS : BitVec 16)
  | pwrWakeSet (q : ReqId) (w : Word)
  | pwrEnter (q : ReqId) (state : Nat)
  | pwrOff (q : ReqId) (confirm : BitVec 16)
  | railSet (q : ReqId) (rail : Nat) (cfg budget : Word)
  | railStatus (q : ReqId) (rail : Nat)
  | portMode (q : ReqId) (mode ch : Nat)
  | modeSequenceEnd (n : Port)
  | pinCfgSet (q : ReqId) (wiring : BitVec 2) (plain selPol : Bool)
  | chSet (q : ReqId) (state : Nat)
  | chConfig (q : ReqId) (cfg sense inrush limit susp : Word)
  | chCurve (q : ReqId) (points : List Word)
  | chStatus (q : ReqId)
  | chCmdOn (n : Port)
  | chCmdOff (n : Port)
  | chCmdSuspend (n : Port) (suspend : Bool)
  | pdStatus (q : ReqId)
  | pdCapsSet (q : ReqId) (caps limit timing : Word)
  | pdVconnSwap (q : ReqId)
  | pdHardReset (q : ReqId)
  | pdVout (q : ReqId) (target : BitVec 16)
  | pdCfgSet (q : ReqId) (w : Word)
  | dropStatus (q : ReqId)
  | dropEnumerate (q : ReqId) (route : BitVec 20) (configSel : BitVec 4)
  | dropReset (q : ReqId) (route : BitVec 20)
  | dropSuspend (q : ReqId)
  | dropResume (q : ReqId)
  | dropTree (q : ReqId) (first count : Nat)
  | dropSet (q : ReqId) (autoEnum rwakeEn : Bool) (speedMax : BitVec 2) (configSel : BitVec 4) (retry : BitVec 2)
      (suspBudget : BitVec 12)
  | dropControl (q : ReqId) (route : BitVec 20) (setup : List Byte) (timeoutMs : Nat) (out : List Byte)
  | weirSet (q : ReqId) (route : BitVec 20) (ep : Byte) (nakBudget weight : Byte)
  | sofStampOpen (q : ReqId) (cid : Cid) (gen : Byte) (div : Nat)
  | sofStampRead (q : ReqId)
  | dropSchedRead (q : ReqId) (first count : Nat)
  | svcBind (q : ReqId) (route : BitVec 20) (iface kind profile : Nat) (stream out : BitVec 16) (persist : Bool)
  | svcUnbind (q : ReqId) (route : BitVec 20) (iface : Nat) (dropRule : Bool)
  | svcList (q : ReqId) (first count : Nat)
  | lineStatus (q : ReqId)
  | lineTiming (q : ReqId) (nom dat : BitTiming) (tdco : Nat) (triple brs : Bool)
  | lineFilter (q : ReqId) (k : Nat) (id mask : Word)
  | lineSend (q : ReqId) (f : CanFrame)
  | lineCancel (q : ReqId) (buffer : Nat)
  | lineRecover (q : ReqId)
  | lineNodes (q : ReqId) (first count : Nat)
  | lineRead (q : ReqId) (obj : Nat)
  | lineWrite (q : ReqId) (obj : Nat) (value : List Byte) (prio : Nat)
  | lineObjCfg (q : ReqId) (obj : Nat) (report : BitVec 2)
  | lineNodeRemove (q : ReqId)
  | linePollSet (q : ReqId) (poll hold : Word)
  | pondStatus (q : ReqId)
  | quotaRead (q : ReqId) (first count : Nat)
  | quotaSet (q : ReqId) (quota holder : Nat)
  | ctxRead (q : ReqId) (cid : Nat)
  | ctxList (q : ReqId) (holder typ start count : Nat)
  | pondUnpoison (q : ReqId) (cid : Nat) (pass : Bool)
  | scrubSet (q : ReqId) (en : Bool) (interval : BitVec 16)
  | cacheStats (q : ReqId) (first count : Nat)
  | lowMarkSet (q : ReqId) (mark : BitVec 21)
  | markCreate (q : ReqId) (belt : Nat) (pos : Pos) (dir action : Nat) (mflags : Byte) (window : BitVec 16)
      (arg : Word) (portEpoch nodeEpoch : BitVec 16)
  | markConsider (cid : Cid)
  | markCancel (q : ReqId) (cid : Cid) (gen : Byte)
  | markRead (q : ReqId) (cid : Cid) (gen : Byte)
  | templateLoad (q : ReqId) (t : Template)
  | templateFree (q : ReqId) (cid : Cid) (gen : Byte)
  | beltStatus (q : ReqId) (belt : Nat)
  | beltSetPos (q : ReqId) (belt : Nat) (pos : Pos) (atZ : Nat)
  | timeRead (q : ReqId)
  | timeAck (q : ReqId)
  | outfallSet (q : ReqId) (o : Nat) (op : OutOp) (widthUs : Nat)
  | quote (q : ReqId) (nonce : List Byte)
  | logRead (q : ReqId) (seq : Word) (count : Nat)
  | logTrim (q : ReqId) (seq : Word) (nonce : List Byte)
  | certRead (q : ReqId) (which : Nat)
  | stageWrite (q : ReqId) (off : Nat) (data : List Byte)
  | stageErase (q : ReqId) (off : Nat)
  | handoff (q : ReqId) (bank : Nat)
  | handoffStepEnd
  | handoffStepTimeout (e : StepEnd)
  | firstRunCheckEnd
  | ucodeRoll (q : ReqId) (bank : Nat)
  | rollSwapPoint (b : Basin)
  | bootSet (q : ReqId) (bank once : Bool)
  | tablesApply (q : ReqId) (bank : Nat)
  | beadRead (q : ReqId) (block : Nat)
  | beadWrite (q : ReqId) (block : Nat) (data : List Byte)
  | beadStatus (q : ReqId)
  | regRead (q : ReqId) (addr count : Nat)
  | regWrite (q : ReqId) (addr : Nat) (data : List Word)
  | regModify (q : ReqId) (addr : Nat) (mask value : Word)
  | regKeyedWrite (q : ReqId) (addr : Nat) (value : Word)
  | cwPause (q : ReqId) (pause : Bool)
  | cwCommit (q : ReqId) (ref : Word)
  | cwStatus (q : ReqId)
  | keyUnlockWrite (p : RegPath) (v : Word)
  | keyUnlockLapse (p : RegPath)
  | registerWrite (p : RegPath) (addr : Nat) (v : Word)
  | aliasWrite (p : RegPath) (addr : Nat) (v : Word)
  | statusSeqClear (p : RegPath) (addr : Nat) (v : Word)
  | aonWriteApply
  | seiTimeLoRead (p : RegPath)
  | beltPosLoRead (p : RegPath) (b : Belt)
  | holderQuotaWrite (p : RegPath) (h : Fin 99) (v : Word)
  | lineTimingRegWrite (p : RegPath) (n : Port) (which : Fin 3) (v : Word)
  | measExtGo (p : RegPath) (v : Word)
  | attCtlGo (p : RegPath) (v : Word)
  | xspiRead (p : RegPath) (len : BitVec 9)
  | xspiProgram (p : RegPath) (len : BitVec 9)
  | xspiErase64k (p : RegPath)
  | xspiReadId (p : RegPath)
  | xspiOpEnd (ready : Bool) (fsr : Byte)
  | svcVendorRequest (write : Bool) (addr : Nat) (v : Word)
  | jtagRegAccess (write : Bool) (addr : Nat) (v : Word)
  | pondAlloc (h : Fin 99) (typ size : Nat)
  | contextFree (cid : Cid)
  | bulkFree (h : Fin 99) (typ : Nat)
  | waitListRetry (n : Port)
  | scrubStep (e : EccErr)
  | cacheWriteback (e : Engine)
  | directoryUe
  | directoryRebuildEnd (bad : List Cid)
  | dropPullupSeen (n : Port) (onDPlus : Bool)
  | dropPullupLost (n : Port)
  | debounceExpiry (n : Port)
  | deviceChirpK (n : Port) (endedByUs : Nat)
  | rootResetExpiry (n : Port)
  | enumRequestComplete (n : Port) (r : EnumResult)
  | enumWaitExpiry (n : Port)
  | controlStageTimeout (n : Port)
  | dropDisconnect (n : Port)
  | typecRdSeen (n : Port) (x : RdSeen)
  | typecRdLost (n : Port)
  | suspendIdleExpiry (n : Port)
  | overdrawCheck (n : Port) (avgMa : BitVec 12)
  | remoteWakeK (n : Port)
  | resumeKDone (n : Port)
  | resumeRecoveryDone (n : Port)
  | microframeBoundary (n : Port)
  | transactionComplete (n : Port) (route : BitVec 20) (ep : Byte) (r : TxResult)
  | hubStatusPoll (n : Port) (hub : BitVec 20) (port : Nat) (c : Option HubChange)
  | parisonTimeout (queue idx : Nat)
  | classMatch (n : Port) (route : BitVec 20)
  | hidReport (n : Port) (route : BitVec 20) (iface : Nat) (report : List Byte)
  | cdcBulkIn (n : Port) (route : BitVec 20) (iface : Nat) (data : List Byte)
  | serialState (n : Port) (route : BitVec 20) (iface : Nat) (st : BitVec 16)
  | printerJob (n : Port) (route : BitVec 20) (iface : Nat) (acked : Nat)
  | printerStatusPoll (n : Port) (route : BitVec 20) (iface : Nat) (pstat : Byte)
  | rawTransfer (n : Port) (route : BitVec 20) (iface : Nat) (data : List Byte) (isoErr : Bool)
  | gapMsExpiry (n : Port) (route : BitVec 20) (iface : Nat)
  | lineFrameReceive (n : Port) (f : LineInput)
  | rxq0FrameProcess (n : Port)
  | claim (n : Port) (serial : BitVec 64)
  | announce (n : Port) (addr : Nat) (seg sidx total : Nat) (entries : List (Nat × Nat × Nat × Nat))
  | objAnswer (n : Port) (addr obj : Nat) (write : Bool) (status : Nat) (value : List Byte)
  | report (n : Port) (addr obj : Nat) (value : List Byte) (sof : BitVec 64)
  | nodeRelease (n : Port) (addr : Nat) (serial : BitVec 64)
  | lineTxComplete (n : Port) (buf : Fin 32) (w : TxWire)
  | lineBusError (n : Port) (r : CanRole) (e : CanErr)
  | busOffEntry (n : Port)
  | lineBusOn (n : Port)
  | announceTimer (n : Port) (addr : Nat)
  | responseWindowEnd (n : Port) (addr : Nat)
  | requestTimeout (n : Port) (addr : Nat)
  | pollTimer (n : Port)
  | absentHoldExpiry (n : Port) (addr : Nat)
  | quarantineExpiry (n : Port) (addr : Nat)
  | timeFrameBoundary (n : Port)
  | timeFrameWithdraw (n : Port)
  | shaftEdge (b : Belt) (onB : Bool) (edge : EdgeIn) (aLeads : Bool)
  | shaftQuadError (b : Belt)
  | zEdge (z : ZEdgeIn)
  | beltStopTimeout (b : Belt)
  | armingCycle (b : Belt)
  | slotMatch (b : Belt) (cid : Cid)
  | markAction (b : Belt) (cid : Cid)
  | lateAction (b : Belt) (cid : Cid)
  | outfallPulseEnd (o : Io)
  | inletEdge (i : Io) (edge : EdgeIn)
  | ppsRise
  | ppsFall
  | calWindowEnd (period : BitVec 31)
  | inrushComplete (n : Port)
  | railSag (d : Die) (j : RailId)
  | railRecover (d : Die) (j : RailId)
  | holdLimit (n : Port)
  | inrushTimeout (n : Port)
  | fastTrip (n : Port) (peak : BitVec 16)
  | breakerTrip (n : Port) (point : Fin 8) (peak : BitVec 16)
  | retryDue (n : Port)
  | retryCountReset (n : Port)
  | fetFaultDetect (n : Port) (cur : BitVec 16)
  | railSenseMismatch (j : RailId)
  | railDrawWindow (j : RailId) (draw : BitVec 16)
  | shedGraceExpiry (j : RailId)
  | railBlockEnd (j : RailId)
  | vsafe5vReached (n : Port)
  | sourceCapsTimer (n : Port) (goodCrc : Bool)
  | pdRequest (n : Port) (obj cur mv : Nat) (epr : Bool)
  | pdMessage (n : Port) (m : PdMsg)
  | pdEprMode (n : Port) (enter : Bool)
  | vconnSwapReceive (n : Port)
  | hardResetReceive (n : Port)
  | acceptDelayExpiry (n : Port)
  | readVoutPoll (n : Port) (v : BitVec 16)
  | pmbusAlert (m : Fin 2) (n : Port) (statusWord : BitVec 16)
  | statusWordPoll (n : Port) (statusWord : BitVec 16)
  | converterFault (n : Port) (c : ConvFault)
  | eprKeepaliveTimeout (n : Port)
  | ppsRequestTimeout (n : Port)
  | vconnOvercurrent (n : Port) (ma : Nat)
  | cableDiscovery (n : Port) (answer : Option (Bool × Bool))
  | pdNextOpportunity (n : Port)
  | reducedRequestTimeout (n : Port)
  | vconnGiveTimeout (n : Port)
  | swapRetryWaitExpiry (n : Port)
  | swapNoAnswer (n : Port)
  | hardResetRecovery (n : Port)
  | errorRecoveryEnd (n : Port)
  | quietTimerExpiry (which : Fin 3)
  | idleWake (basin : Option Basin)
  | entryStepComplete
  | wakeRequest (source : Fin 10) (input : WakeInput)
  | lowPowerExitComplete (slowPeriods : Nat)
  | reservoirEccError (w : ResWhere) (double : Bool)
  | queuePtrMismatch (queue : Nat)
  | engineOverrun (t : TaskRun)
  | engineHang (t : TaskRun) (lost : List Cid)
  | engineParity (e : Engine) (lost : List Cid)
  | engineTakeover (e : Engine)
  | recoveryWindowEnd (ladder index : Nat)
  | lockstepMismatch
  | cwPassStart
  | cwPassEnd
  | cwPauseExpiry
  | cfgParityFailure (addr : Nat)
  | attestRecordWrite
  | snapshotWrite
  | beadCommitEnd (verified : Bool)
  | inventory (m : BeadMode) (mask : BitVec 64) (maskLen : Nat)
  | stayQuiet (m : BeadMode)
  | readSingleBlock (m : BeadMode) (block : Nat)
  | writeSingleBlock (m : BeadMode) (block : Nat) (data : BitVec 256)
  | lockBlock (m : BeadMode) (block : Nat)
  | readMultipleBlocks (m : BeadMode) (first count : Nat)
  | select (m : BeadMode)
  | resetToReady (m : BeadMode)
  | getSystemInformation (m : BeadMode)
  | getBlockSecurityStatus (m : BeadMode) (first count : Nat)
  | lockSession (m : BeadMode) (durationMs : Nat)
  | unlockSession (m : BeadMode)
  | readRecord (m : BeadMode) (recno : Nat)
  | getBeadStatus (m : BeadMode)
  | beadSessionExpiry
  | beadFieldLoss
  | streamOpen (q : ReqId) (id : BitVec 16) (port : Port) (depth weight : Nat)
  | streamClose (q : ReqId) (cid : Cid) (gen : Byte)
  | svcBusSuspend
  | svcStandardRequest (r : SvcStdReq)
  | lineBusRejoin (n : Port)
  | readerFieldPresent (powered : Bool)
  | statusBallLowTimeExpiry (alert : Bool)
  | microcodeReloadDone
  | serviceTableRebuildEnd
  | regAccessSessionChange (start : Bool)
deriving DecidableEq, Repr

end Sys2Proof
end

