-- ==== Sys2Proof/Config.lean ====
section
/-! DEFINITION. What one part fixes for itself and what the manual leaves open: constants without a body, so that no
proof can see a value. -/

namespace Sys2Proof.Config

/-- The 64-bit device serial from fuses (15, GLB_SERIAL; R93). -/
opaque serial : BitVec 64
/-- The grade of the part: true for UH9600-B1E (R1). -/
opaque gradeB1E : Bool
/-- The MAC address programmed at test, the same for both lanes (R107). -/
opaque mac : BitVec 48
/-- The UID of the Bead tag, which names the IC manufacturer (R363). -/
opaque beadUid : BitVec 64
/-- SHA-384 of the 128 KiB boot ROM (R81 step 1): the ROM's contents are not in the manual. -/
opaque romDigest : BitVec 384
/-- Whether the integrator key hash in OTP is programmed (R81 step 3). -/
opaque keyHashProgrammed : Bool
/-- The integrator key hash in OTP (R81 step 3). -/
opaque keyHash : BitVec 384
/-- ECDSA P-384 signature of a quote's bytes 0-479 by the attestation key (R92, R93). -/
opaque sign : List Byte → List Byte
/-- The DER certificates of R92: false the device certificate, true the intermediate one. -/
opaque certificate : Bool → List Byte
/-- The flash's JEDEC manufacturer and device ID (R104). -/
opaque jedecId : BitVec 32
/-- The opcodes of a stream open and a stream close: the manual names the operations but no numbers. -/
opaque opStreamOpen : BitVec 16
opaque opStreamClose : BitVec 16
/-- The opcodes of a door request for a reset (R70), by SCOPE code 1 to 5: the manual gives no numbers. -/
opaque opReset : Nat → BitVec 16
/-- How many bytes a part accepts ahead of use on a host-to-device stream: the manual gives no amount for its credit (R121). -/
opaque streamWindow : Nat
/-- The bytes of an event's payload values and of a response's data values, where the manual names the values but not their
widths (R136, R137): by event code and by opcode. -/
opaque packPayload : Nat → List Nat → List Byte
opaque packData : BitVec 16 → List Nat → List Byte
/-- The data blocks of Source_Capabilities_Extended and of Status, by port: the manual gives no values (R292). -/
opaque pdSourceCapsExt : Nat → List Byte
opaque pdStatusBlock : Nat → List Byte
/-- logMessageInterval of a Delay_Resp: the manual gives none (R123). -/
opaque delayRespLog : Byte
/-- The endpoints and interfaces of a configuration whose descriptors the part has not read, by VID, PID and value: the device's own
(R192, R194). -/
opaque configEps : BitVec 16 → BitVec 16 → Nat → List EpDesc
opaque configIfs : BitVec 16 → BitVec 16 → Nat → List IfDesc
/-- A free value: what the manual leaves open, drawn anew for each count of State.freeCtr. -/
opaque freeValue : Nat → BitVec 64

/-- The grade code of GLB_ID.GRADE and of the quote (15; R93). -/
def gradeCode : Nat := if gradeB1E then 2 else 1

end Sys2Proof.Config
end

