-- ==== Sys2Proof/Machine/Regs.lean ====
section
/-! DEFINITION. The register map (15_registers.md R308, R309): every register of the manual by name, its address, its
fields with access type, its value after a device-scope reset (R12), its configuration class and its clock domain.
The tables are those of the chapters named at each group of addresses. -/

namespace Sys2Proof.Machine

/-- Access types of R14 (00_scope.md); `seq` is the SEQ field of a status register, typed RS in the tables (R316). -/
inductive Acc where
  | rw | ro | wo | rs | k | rc | mc | seq
deriving DecidableEq, Repr

/-- A field NAME[hi:lo] of a register (R8). -/
structure Field where
  hi : Nat
  lo : Nat
  acc : Acc
deriving DecidableEq, Repr

/-- Where a register lives: the compute die, the always-on domain, or a fuse die (R319). -/
inductive Dom where
  | compute | aon | fuse
deriving DecidableEq, Repr

/-- The registers of the block map (R309), one constructor per register, indexed as the manual indexes it. -/
inductive Reg where
  | GLB_ID
  | GLB_SERIAL_LO
  | GLB_SERIAL_HI
  | GLB_STRAP
  | GLB_FAULT
  | GLB_FAULT_EN
  | GLB_ALERT_EN
  | GLB_SCRATCH
  | INT_QPTR
  | INT_RES
  | INT_CRC
  | ESC_LAST
  | ENG_CFG
  | ENG_QUAR (n : Fin 16)
  | ENG_BASIN (n : Fin 16)
  | MEAS (n : Fin 8) (k : Fin 12)
  | MEAS_EXT_DATA (n : Fin 12)
  | MEAS_EXT_CTL
  | BOOT_STATUS
  | BOOT_CTL
  | BOOT_OVR
  | ATT_NONCE (n : Fin 8)
  | ATT_CTL
  | ATT_QUOTE (n : Fin 144)
  | KEY_UNLOCK
  | KEY_STATUS
  | CLK_CTL
  | CLK_STATUS
  | RST_CMD
  | RST_CAUSE
  | CDC_OVR
  | CDC_WAKE_MODE
  | PWR_CTL
  | PWR_LTR
  | PWR_TIMER_0
  | PWR_TIMER_1
  | PWR_STATUS
  | PWR_REFUSE
  | PWR_WAKE_EN
  | PWR_WAKE_CAUSE
  | SEI_TIME_LO
  | SEI_TIME_HI
  | SEI_STATUS
  | SEI_UNCERT
  | SEI_CTL
  | OUTFALL_STATE
  | SEI_CAL
  | BELT_CTL (n : Fin 16)
  | BELT_POS_LO (n : Fin 16)
  | BELT_POS_HI (n : Fin 16)
  | BELT_RATE (n : Fin 16)
  | BELT_STATUS (n : Fin 16)
  | BELT_ZCFG (n : Fin 16)
  | BELT_ARM (n : Fin 16)
  | BELT_STOP (n : Fin 16)
  | INLET_CTL (n : Fin 32)
  | TRK_CTL
  | TRK_STATUS
  | TRK_CFG2
  | TRK_SPILL
  | TRK_WAKE_KEY
  | TRK_PEER_MAC_LO
  | TRK_PEER_MAC_HI
  | PTP_CTL
  | PTP_LAT (n : Fin 2)
  | TRK_ERR (n : Fin 2)
  | DOOR_STATUS (n : Fin 8)
  | DOOR_EVT (n : Fin 8)
  | MBX_CTL
  | POND_STATUS
  | POND_FREE
  | POND_WAIT
  | POND_POISONED
  | POND_LOW_MARK
  | POND_SCRUB
  | POND_ERR_CID
  | POND_CE_COUNT
  | POND_QSUM
  | HOLDER_QUOTA (h : Fin 99)
  | HOLDER_USED (h : Fin 99)
  | ENG_CACHE (n : Fin 512)
  | CW_CTL
  | CW_REF
  | CW_CALC
  | CW_STATUS
  | CW_PAR_ADDR
  | CW_BLK (n : Fin 12)
  | BEAD_STATUS
  | BEAD_CNT
  | SVC_STATUS
  | SVC_PROF_CTL (n : Fin 16)
  | SVC_PROF_TERM (n : Fin 16)
  | SVC_PROF_LINE (n : Fin 16)
  | XSPI_ADDR
  | XSPI_CMD
  | XSPI_STATUS
  | XSPI_DATA (n : Fin 64)
  | DROP_CTL (n : Fin 96)
  | DROP_STATUS (n : Fin 96)
  | DROP_SUSP (n : Fin 96)
  | DROP_SCHED (n : Fin 96)
  | DROP_FRAME (n : Fin 96)
  | DROP_WEIR (n : Fin 96)
  | DROP_XFER_ERR (n : Fin 96)
  | DROP_PARISON (n : Fin 96)
  | SVC_PORT (n : Fin 96)
  | PIN_CFG (n : Fin 96)
  | PD_CFG (n : Fin 96)
  | PD_CAPS (n : Fin 96)
  | PD_LIMIT (n : Fin 96)
  | PD_TIMING (n : Fin 96)
  | PD_STATUS (n : Fin 96)
  | PD_VOUT (n : Fin 96)
  | LINE_CTL (n : Fin 96)
  | LINE_NBT (n : Fin 96)
  | LINE_DBT (n : Fin 96)
  | LINE_TDC (n : Fin 96)
  | LINE_ERR (n : Fin 96)
  | LINE_WARN (n : Fin 96)
  | LINE_POLL (n : Fin 96)
  | LINE_HOLD (n : Fin 96)
  | LINE_CNT (n : Fin 96)
  | LINE_FLT_ID (n : Fin 96) (k : Fin 32)
  | LINE_FLT_MASK (n : Fin 96) (k : Fin 32)
  | CH_CMD (n : Fin 96)
  | CH_CFG (n : Fin 96)
  | CH_SENSE (n : Fin 96)
  | CH_INRUSH (n : Fin 96)
  | CH_LIMIT (n : Fin 96)
  | CH_SUSP (n : Fin 96)
  | CH_CURVE (n : Fin 96) (k : Fin 8)
  | CH_STATUS (n : Fin 96)
  | CH_MEAS (n : Fin 96)
  | RAIL_CFG (n : Fin 8)
  | RAIL_BUDGET (n : Fin 8)
  | RAIL_STATUS (n : Fin 8)
  | RAIL_MEAS (n : Fin 8)
deriving DecidableEq, Repr

/-- The register's byte address (R309). -/
def Reg.addr : Reg → Nat
  | .GLB_ID => 0x00000000
  | .GLB_SERIAL_LO => 0x00000004
  | .GLB_SERIAL_HI => 0x00000008
  | .GLB_STRAP => 0x0000000C
  | .GLB_FAULT => 0x00000010
  | .GLB_FAULT_EN => 0x00000014
  | .GLB_ALERT_EN => 0x00000018
  | .GLB_SCRATCH => 0x0000001C
  | .INT_QPTR => 0x00000020
  | .INT_RES => 0x00000024
  | .INT_CRC => 0x00000028
  | .ESC_LAST => 0x00000030
  | .ENG_CFG => 0x00000040
  | .ENG_QUAR n => 0x00000100 + 0x8 * n.val
  | .ENG_BASIN n => 0x00000104 + 0x8 * n.val
  | .MEAS n k => 0x00000400 + 0x30 * n.val + 0x4 * k.val
  | .MEAS_EXT_DATA n => 0x00000580 + 0x4 * n.val
  | .MEAS_EXT_CTL => 0x000005B0
  | .BOOT_STATUS => 0x000005C0
  | .BOOT_CTL => 0x000005C4
  | .BOOT_OVR => 0x000005C8
  | .ATT_NONCE n => 0x00000600 + 0x4 * n.val
  | .ATT_CTL => 0x00000620
  | .ATT_QUOTE n => 0x00000700 + 0x4 * n.val
  | .KEY_UNLOCK => 0x00010000
  | .KEY_STATUS => 0x00010004
  | .CLK_CTL => 0x00020000
  | .CLK_STATUS => 0x00020004
  | .RST_CMD => 0x00020010
  | .RST_CAUSE => 0x00020014
  | .CDC_OVR => 0x00020020
  | .CDC_WAKE_MODE => 0x00020024
  | .PWR_CTL => 0x00030000
  | .PWR_LTR => 0x00030004
  | .PWR_TIMER_0 => 0x00030008
  | .PWR_TIMER_1 => 0x0003000C
  | .PWR_STATUS => 0x00030010
  | .PWR_REFUSE => 0x00030014
  | .PWR_WAKE_EN => 0x00030020
  | .PWR_WAKE_CAUSE => 0x00030024
  | .SEI_TIME_LO => 0x00040000
  | .SEI_TIME_HI => 0x00040004
  | .SEI_STATUS => 0x00040008
  | .SEI_UNCERT => 0x0004000C
  | .SEI_CTL => 0x00040010
  | .OUTFALL_STATE => 0x00040014
  | .SEI_CAL => 0x00040018
  | .BELT_CTL n => 0x00040100 + 0x20 * n.val
  | .BELT_POS_LO n => 0x00040104 + 0x20 * n.val
  | .BELT_POS_HI n => 0x00040108 + 0x20 * n.val
  | .BELT_RATE n => 0x0004010C + 0x20 * n.val
  | .BELT_STATUS n => 0x00040110 + 0x20 * n.val
  | .BELT_ZCFG n => 0x00040114 + 0x20 * n.val
  | .BELT_ARM n => 0x00040118 + 0x20 * n.val
  | .BELT_STOP n => 0x0004011C + 0x20 * n.val
  | .INLET_CTL n => 0x00040400 + 0x4 * n.val
  | .TRK_CTL => 0x00050000
  | .TRK_STATUS => 0x00050004
  | .TRK_CFG2 => 0x00050008
  | .TRK_SPILL => 0x00050010
  | .TRK_WAKE_KEY => 0x00050018
  | .TRK_PEER_MAC_LO => 0x0005001C
  | .TRK_PEER_MAC_HI => 0x00050020
  | .PTP_CTL => 0x00050024
  | .PTP_LAT n => 0x00050028 + 0x4 * n.val
  | .TRK_ERR n => 0x00050030 + 0x4 * n.val
  | .DOOR_STATUS n => 0x00060000 + 0x10 * n.val
  | .DOOR_EVT n => 0x00060004 + 0x10 * n.val
  | .MBX_CTL => 0x00060100
  | .POND_STATUS => 0x00070000
  | .POND_FREE => 0x00070004
  | .POND_WAIT => 0x00070008
  | .POND_POISONED => 0x0007000C
  | .POND_LOW_MARK => 0x00070010
  | .POND_SCRUB => 0x00070014
  | .POND_ERR_CID => 0x00070018
  | .POND_CE_COUNT => 0x0007001C
  | .POND_QSUM => 0x00070020
  | .HOLDER_QUOTA h => 0x00070100 + 0x8 * h.val
  | .HOLDER_USED h => 0x00070104 + 0x8 * h.val
  | .ENG_CACHE n => 0x00071000 + 0x4 * n.val
  | .CW_CTL => 0x00080000
  | .CW_REF => 0x00080004
  | .CW_CALC => 0x00080008
  | .CW_STATUS => 0x0008000C
  | .CW_PAR_ADDR => 0x00080010
  | .CW_BLK n => 0x00080100 + 0x4 * n.val
  | .BEAD_STATUS => 0x00090000
  | .BEAD_CNT => 0x00090004
  | .SVC_STATUS => 0x000A0000
  | .SVC_PROF_CTL n => 0x000A0100 + 0x10 * n.val
  | .SVC_PROF_TERM n => 0x000A0104 + 0x10 * n.val
  | .SVC_PROF_LINE n => 0x000A0108 + 0x10 * n.val
  | .XSPI_ADDR => 0x000B0000
  | .XSPI_CMD => 0x000B0004
  | .XSPI_STATUS => 0x000B0008
  | .XSPI_DATA n => 0x000B0100 + 0x4 * n.val
  | .DROP_CTL n => 0x00100000 + 0x1000 * n.val
  | .DROP_STATUS n => 0x00100004 + 0x1000 * n.val
  | .DROP_SUSP n => 0x00100008 + 0x1000 * n.val
  | .DROP_SCHED n => 0x00100010 + 0x1000 * n.val
  | .DROP_FRAME n => 0x00100014 + 0x1000 * n.val
  | .DROP_WEIR n => 0x00100018 + 0x1000 * n.val
  | .DROP_XFER_ERR n => 0x0010001C + 0x1000 * n.val
  | .DROP_PARISON n => 0x00100020 + 0x1000 * n.val
  | .SVC_PORT n => 0x00100040 + 0x1000 * n.val
  | .PIN_CFG n => 0x001000FC + 0x1000 * n.val
  | .PD_CFG n => 0x00100100 + 0x1000 * n.val
  | .PD_CAPS n => 0x00100104 + 0x1000 * n.val
  | .PD_LIMIT n => 0x00100108 + 0x1000 * n.val
  | .PD_TIMING n => 0x0010010C + 0x1000 * n.val
  | .PD_STATUS n => 0x00100110 + 0x1000 * n.val
  | .PD_VOUT n => 0x00100114 + 0x1000 * n.val
  | .LINE_CTL n => 0x00100200 + 0x1000 * n.val
  | .LINE_NBT n => 0x00100204 + 0x1000 * n.val
  | .LINE_DBT n => 0x00100208 + 0x1000 * n.val
  | .LINE_TDC n => 0x0010020C + 0x1000 * n.val
  | .LINE_ERR n => 0x00100210 + 0x1000 * n.val
  | .LINE_WARN n => 0x00100214 + 0x1000 * n.val
  | .LINE_POLL n => 0x00100218 + 0x1000 * n.val
  | .LINE_HOLD n => 0x0010021C + 0x1000 * n.val
  | .LINE_CNT n => 0x00100220 + 0x1000 * n.val
  | .LINE_FLT_ID n k => 0x00100300 + 0x1000 * n.val + 0x8 * k.val
  | .LINE_FLT_MASK n k => 0x00100304 + 0x1000 * n.val + 0x8 * k.val
  | .CH_CMD n => 0x00180000 + 0x100 * n.val
  | .CH_CFG n => 0x00180004 + 0x100 * n.val
  | .CH_SENSE n => 0x00180008 + 0x100 * n.val
  | .CH_INRUSH n => 0x0018000C + 0x100 * n.val
  | .CH_LIMIT n => 0x00180010 + 0x100 * n.val
  | .CH_SUSP n => 0x00180014 + 0x100 * n.val
  | .CH_CURVE n k => 0x00180020 + 0x100 * n.val + 0x4 * k.val
  | .CH_STATUS n => 0x00180040 + 0x100 * n.val
  | .CH_MEAS n => 0x00180044 + 0x100 * n.val
  | .RAIL_CFG n => 0x00186000 + 0x100 * n.val
  | .RAIL_BUDGET n => 0x00186004 + 0x100 * n.val
  | .RAIL_STATUS n => 0x00186008 + 0x100 * n.val
  | .RAIL_MEAS n => 0x0018600C + 0x100 * n.val

namespace F

def GLB_ID_PART : Field := ⟨31, 16, .ro⟩
def GLB_ID_GRADE : Field := ⟨15, 12, .ro⟩
def GLB_ID_STEP : Field := ⟨7, 0, .ro⟩
def GLB_SERIAL_LO_LO : Field := ⟨31, 0, .ro⟩
def GLB_SERIAL_HI_HI : Field := ⟨31, 0, .ro⟩
def GLB_STRAP_TEST : Field := ⟨4, 4, .ro⟩
def GLB_STRAP_STRAP : Field := ⟨3, 0, .ro⟩
def GLB_FAULT_SEQ : Field := ⟨31, 24, .seq⟩
def GLB_FAULT_SRC : Field := ⟨23, 0, .rs⟩
def GLB_FAULT_EN_FAULT_EN : Field := ⟨23, 0, .k⟩
def GLB_ALERT_EN_ALERT_EN : Field := ⟨23, 0, .k⟩
def GLB_SCRATCH_SCRATCH : Field := ⟨31, 0, .rw⟩
def INT_QPTR_SEQ : Field := ⟨31, 24, .seq⟩
def INT_QPTR_COUNT : Field := ⟨23, 16, .ro⟩
def INT_QPTR_QUEUE : Field := ⟨15, 0, .ro⟩
def INT_RES_SEQ : Field := ⟨31, 24, .seq⟩
def INT_RES_UE : Field := ⟨23, 16, .ro⟩
def INT_RES_CE : Field := ⟨15, 0, .ro⟩
def INT_CRC_COUNT : Field := ⟨15, 0, .ro⟩
def ESC_LAST_SEQ : Field := ⟨31, 24, .seq⟩
def ESC_LAST_INDEX : Field := ⟨23, 16, .ro⟩
def ESC_LAST_LADDER : Field := ⟨15, 8, .ro⟩
def ESC_LAST_RUNG : Field := ⟨3, 0, .ro⟩
def ENG_CFG_POOL_BUDGET : Field := ⟨15, 0, .rw⟩
def ENG_QUAR_QUAR : Field := ⟨31, 0, .ro⟩
def ENG_BASIN_SEQ : Field := ⟨31, 24, .seq⟩
def ENG_BASIN_HELD : Field := ⟨8, 8, .ro⟩
def ENG_BASIN_SPARES : Field := ⟨7, 6, .ro⟩
def ENG_BASIN_WORKING : Field := ⟨5, 0, .ro⟩
def MEAS_MEAS : Field := ⟨31, 0, .ro⟩
def MEAS_EXT_DATA_DATA : Field := ⟨31, 0, .wo⟩
def MEAS_EXT_CTL_BUSY : Field := ⟨4, 4, .ro⟩
def MEAS_EXT_CTL_GO : Field := ⟨3, 3, .k⟩
def MEAS_EXT_CTL_INDEX : Field := ⟨2, 0, .k⟩
def BOOT_STATUS_SEQ : Field := ⟨31, 24, .seq⟩
def BOOT_STATUS_EXT_DENIED : Field := ⟨12, 12, .rs⟩
def BOOT_STATUS_DIG_MISMATCH : Field := ⟨11, 8, .ro⟩
def BOOT_STATUS_SIG : Field := ⟨7, 6, .ro⟩
def BOOT_STATUS_RECOVERY : Field := ⟨5, 5, .ro⟩
def BOOT_STATUS_FALLBACK : Field := ⟨4, 4, .ro⟩
def BOOT_STATUS_BANK : Field := ⟨3, 3, .ro⟩
def BOOT_STATUS_UBANK : Field := ⟨2, 2, .ro⟩
def BOOT_CTL_BOOT_OK : Field := ⟨0, 0, .k⟩
def BOOT_OVR_WR_PEND : Field := ⟨31, 31, .ro⟩
def BOOT_OVR_RECOVER : Field := ⟨4, 4, .mc⟩
def BOOT_OVR_WDT_FAILS : Field := ⟨3, 3, .mc⟩
def BOOT_OVR_ONCE : Field := ⟨2, 2, .k⟩
def BOOT_OVR_BANK : Field := ⟨1, 1, .k⟩
def BOOT_OVR_VALID : Field := ⟨0, 0, .k⟩
def ATT_NONCE_NONCE : Field := ⟨31, 0, .wo⟩
def ATT_CTL_ERR : Field := ⟨2, 2, .ro⟩
def ATT_CTL_DONE : Field := ⟨1, 1, .ro⟩
def ATT_CTL_GO : Field := ⟨0, 0, .k⟩
def ATT_QUOTE_QUOTE : Field := ⟨31, 0, .ro⟩
def KEY_UNLOCK_KEY : Field := ⟨15, 0, .wo⟩
def KEY_STATUS_SEQ : Field := ⟨31, 24, .seq⟩
def KEY_STATUS_BAD : Field := ⟨23, 16, .ro⟩
def KEY_STATUS_DENIED : Field := ⟨7, 4, .rs⟩
def KEY_STATUS_UNLOCKED : Field := ⟨3, 0, .ro⟩
def CLK_CTL_REF_EN : Field := ⟨10, 10, .rw⟩
def CLK_CTL_PLL_EN : Field := ⟨9, 1, .k⟩
def CLK_CTL_SYS_SEL : Field := ⟨0, 0, .k⟩
def CLK_STATUS_SEQ : Field := ⟨31, 24, .seq⟩
def CLK_STATUS_HOLDOVER : Field := ⟨14, 14, .ro⟩
def CLK_STATUS_XTAL_OK : Field := ⟨13, 13, .ro⟩
def CLK_STATUS_REF_QUAL : Field := ⟨12, 12, .ro⟩
def CLK_STATUS_LOCK : Field := ⟨9, 1, .ro⟩
def CLK_STATUS_UNLOCK_SEEN : Field := ⟨0, 0, .rs⟩
def RST_CMD_GO : Field := ⟨11, 11, .k⟩
def RST_CMD_SCOPE : Field := ⟨10, 8, .k⟩
def RST_CMD_INDEX : Field := ⟨6, 0, .k⟩
def RST_CAUSE_COUNT : Field := ⟨31, 16, .mc⟩
def RST_CAUSE_SUPPLY : Field := ⟨15, 8, .mc⟩
def RST_CAUSE_LAST : Field := ⟨3, 0, .mc⟩
def CDC_OVR_SEQ : Field := ⟨31, 24, .seq⟩
def CDC_OVR_AON : Field := ⟨23, 23, .rs⟩
def CDC_OVR_FLM : Field := ⟨22, 21, .rs⟩
def CDC_OVR_BEAD : Field := ⟨20, 20, .rs⟩
def CDC_OVR_SVC : Field := ⟨19, 19, .rs⟩
def CDC_OVR_HSP : Field := ⟨18, 18, .rs⟩
def CDC_OVR_SEICHE : Field := ⟨17, 17, .rs⟩
def CDC_OVR_TRUNK : Field := ⟨16, 16, .rs⟩
def CDC_OVR_BASIN : Field := ⟨15, 0, .rs⟩
def CDC_WAKE_MODE_WR_PEND : Field := ⟨31, 31, .ro⟩
def CDC_WAKE_MODE_AIN : Field := ⟨18, 18, .rw⟩
def CDC_WAKE_MODE_BASIN : Field := ⟨17, 2, .rw⟩
def CDC_WAKE_MODE_SVC : Field := ⟨1, 1, .rw⟩
def CDC_WAKE_MODE_TRUNK : Field := ⟨0, 0, .rw⟩
def PWR_CTL_STATE_MAX : Field := ⟨2, 1, .rw⟩
def PWR_CTL_AUTO : Field := ⟨0, 0, .rw⟩
def PWR_LTR_LTR : Field := ⟨23, 0, .rw⟩
def PWR_TIMER_0_SLEEP_S : Field := ⟨31, 16, .rw⟩
def PWR_TIMER_0_IDLE_US : Field := ⟨15, 0, .rw⟩
def PWR_TIMER_1_DEEP_S : Field := ⟨15, 0, .rw⟩
def PWR_STATUS_SEQ : Field := ⟨31, 24, .seq⟩
def PWR_STATUS_LAST : Field := ⟨6, 4, .ro⟩
def PWR_STATUS_STATE : Field := ⟨2, 0, .ro⟩
def PWR_REFUSE_COUNT : Field := ⟨31, 16, .ro⟩
def PWR_REFUSE_KIND : Field := ⟨15, 12, .ro⟩
def PWR_REFUSE_STAGE : Field := ⟨11, 9, .ro⟩
def PWR_REFUSE_INDEX : Field := ⟨6, 0, .ro⟩
def PWR_WAKE_EN_WR_PEND : Field := ⟨31, 31, .ro⟩
def PWR_WAKE_EN_AIN_TH : Field := ⟨15, 8, .rw⟩
def PWR_WAKE_EN_AIN_POL : Field := ⟨7, 7, .rw⟩
def PWR_WAKE_EN_AIN_EN : Field := ⟨6, 6, .rw⟩
def PWR_WAKE_EN_DROP_RWAKE : Field := ⟨5, 5, .rw⟩
def PWR_WAKE_EN_LINE_RXD : Field := ⟨4, 4, .rw⟩
def PWR_WAKE_EN_SVC_VBUS : Field := ⟨3, 3, .rw⟩
def PWR_WAKE_EN_SVC_RESUME : Field := ⟨2, 2, .rw⟩
def PWR_WAKE_EN_TRUNK_WAKE : Field := ⟨1, 1, .rw⟩
def PWR_WAKE_EN_TRUNK_SD : Field := ⟨0, 0, .rw⟩
def PWR_WAKE_CAUSE_INDEX : Field := ⟨15, 8, .mc⟩
def PWR_WAKE_CAUSE_SOURCE : Field := ⟨3, 0, .mc⟩
def SEI_TIME_LO_LO : Field := ⟨31, 0, .ro⟩
def SEI_TIME_HI_HI : Field := ⟨31, 0, .ro⟩
def SEI_STATUS_SEQ : Field := ⟨31, 24, .seq⟩
def SEI_STATUS_LATE_SEEN : Field := ⟨3, 3, .rs⟩
def SEI_STATUS_DEG_DEEP : Field := ⟨2, 2, .ro⟩
def SEI_STATUS_DEG_XTAL : Field := ⟨1, 1, .ro⟩
def SEI_STATUS_TIME_DEGRADED : Field := ⟨0, 0, .ro⟩
def SEI_UNCERT_UNCERT : Field := ⟨31, 0, .ro⟩
def SEI_CTL_PPS_EN : Field := ⟨31, 31, .rw⟩
def SEI_CTL_PPS_W : Field := ⟨30, 24, .rw⟩
def SEI_CTL_INLET_REC_EN : Field := ⟨23, 23, .rw⟩
def SEI_CTL_INLET_STREAM : Field := ⟨11, 0, .rw⟩
def OUTFALL_STATE_LEVEL : Field := ⟨31, 0, .ro⟩
def SEI_CAL_CAL_VALID : Field := ⟨31, 31, .ro⟩
def SEI_CAL_PERIOD : Field := ⟨30, 0, .ro⟩
def BELT_CTL_EN : Field := ⟨31, 31, .rw⟩
def BELT_CTL_TERM : Field := ⟨30, 30, .rw⟩
def BELT_CTL_DIR_INV : Field := ⟨29, 29, .rw⟩
def BELT_CTL_ZCHK : Field := ⟨28, 28, .rw⟩
def BELT_CTL_MODE : Field := ⟨27, 26, .rw⟩
def BELT_CTL_RATE_N : Field := ⟨19, 16, .rw⟩
def BELT_CTL_FILT : Field := ⟨3, 0, .rw⟩
def BELT_POS_LO_LO : Field := ⟨31, 0, .ro⟩
def BELT_POS_HI_HI : Field := ⟨15, 0, .ro⟩
def BELT_RATE_RATE : Field := ⟨31, 0, .ro⟩
def BELT_STATUS_SEQ : Field := ⟨31, 24, .seq⟩
def BELT_STATUS_ARMED : Field := ⟨22, 16, .ro⟩
def BELT_STATUS_Z_ERR : Field := ⟨4, 4, .rs⟩
def BELT_STATUS_QUAD_ERR : Field := ⟨3, 3, .rs⟩
def BELT_STATUS_DIR : Field := ⟨2, 2, .ro⟩
def BELT_STATUS_STOPPED : Field := ⟨1, 1, .ro⟩
def BELT_STATUS_POS_VALID : Field := ⟨0, 0, .ro⟩
def BELT_ZCFG_Z_PPR : Field := ⟨31, 16, .rw⟩
def BELT_ZCFG_Z_TOL : Field := ⟨7, 0, .rw⟩
def BELT_ARM_ARM_HORIZON : Field := ⟨23, 0, .rw⟩
def BELT_STOP_STOP_MS : Field := ⟨15, 0, .rw⟩
def INLET_CTL_EN : Field := ⟨31, 31, .rw⟩
def INLET_CTL_POL : Field := ⟨30, 30, .rw⟩
def INLET_CTL_BELT_EN : Field := ⟨29, 29, .rw⟩
def INLET_CTL_BELT : Field := ⟨27, 24, .rw⟩
def INLET_CTL_FILT : Field := ⟨23, 16, .rw⟩
def INLET_CTL_JAM : Field := ⟨15, 0, .rw⟩
def TRK_CTL_ETHERTYPE : Field := ⟨31, 16, .k⟩
def TRK_CTL_JUMBO : Field := ⟨8, 8, .rw⟩
def TRK_CTL_FEC_TB : Field := ⟨7, 7, .k⟩
def TRK_CTL_FEC_TA : Field := ⟨6, 6, .k⟩
def TRK_CTL_LANE_EN_TB : Field := ⟨5, 5, .rw⟩
def TRK_CTL_LANE_EN_TA : Field := ⟨4, 4, .rw⟩
def TRK_CTL_PREF_ACTIVE : Field := ⟨3, 3, .rw⟩
def TRK_CTL_MODE : Field := ⟨2, 2, .rw⟩
def TRK_STATUS_SEQ : Field := ⟨31, 24, .seq⟩
def TRK_STATUS_STATE : Field := ⟨19, 16, .ro⟩
def TRK_STATUS_DEGR_TB : Field := ⟨11, 11, .ro⟩
def TRK_STATUS_DEGR_TA : Field := ⟨10, 10, .ro⟩
def TRK_STATUS_ACTIVE : Field := ⟨9, 9, .ro⟩
def TRK_STATUS_SWAP_PEND : Field := ⟨8, 8, .ro⟩
def TRK_STATUS_UP_TB : Field := ⟨3, 3, .ro⟩
def TRK_STATUS_UP_TA : Field := ⟨2, 2, .ro⟩
def TRK_STATUS_TARN_SEEN : Field := ⟨1, 1, .rs⟩
def TRK_STATUS_FAILOVER_SEEN : Field := ⟨0, 0, .rs⟩
def TRK_CFG2_LAT_WARN : Field := ⟨31, 16, .rw⟩
def TRK_CFG2_REORDER_HOLD : Field := ⟨9, 0, .rw⟩
def TRK_SPILL_DROP : Field := ⟨31, 16, .ro⟩
def TRK_SPILL_USED : Field := ⟨15, 0, .ro⟩
def TRK_WAKE_KEY_KEY : Field := ⟨31, 0, .rw⟩
def TRK_PEER_MAC_LO_LO : Field := ⟨31, 0, .rw⟩
def TRK_PEER_MAC_HI_HI : Field := ⟨15, 0, .rw⟩
def PTP_CTL_PTP_EN : Field := ⟨31, 31, .rw⟩
def PTP_CTL_DOMAIN : Field := ⟨23, 16, .rw⟩
def PTP_CTL_SYNC_LOG : Field := ⟨15, 12, .rw⟩
def PTP_CTL_ANN_LOG : Field := ⟨11, 8, .rw⟩
def PTP_CTL_PRIORITY1 : Field := ⟨7, 0, .rw⟩
def PTP_LAT_TX_ADJ : Field := ⟨31, 16, .rw⟩
def PTP_LAT_RX_ADJ : Field := ⟨15, 0, .rw⟩
def TRK_ERR_CRC_ERR : Field := ⟨31, 16, .ro⟩
def TRK_ERR_FRAME_ERR : Field := ⟨15, 0, .ro⟩
def DOOR_STATUS_EPOCH : Field := ⟨31, 16, .ro⟩
def DOOR_STATUS_PATH : Field := ⟨15, 14, .ro⟩
def DOOR_STATUS_REQ_USED : Field := ⟨8, 0, .ro⟩
def DOOR_EVT_LOST : Field := ⟨31, 16, .ro⟩
def DOOR_EVT_EVT_USED : Field := ⟨12, 0, .ro⟩
def MBX_CTL_LEASE : Field := ⟨7, 0, .rw⟩
def POND_STATUS_SEQ : Field := ⟨31, 24, .seq⟩
def POND_STATUS_WAITLIST_FULL : Field := ⟨4, 4, .ro⟩
def POND_STATUS_UE_SEEN : Field := ⟨3, 3, .rs⟩
def POND_STATUS_CE_SEEN : Field := ⟨2, 2, .rs⟩
def POND_STATUS_EXHAUSTED : Field := ⟨1, 1, .ro⟩
def POND_STATUS_OVERCOMMIT : Field := ⟨0, 0, .ro⟩
def POND_FREE_FREE : Field := ⟨20, 0, .ro⟩
def POND_WAIT_RESERVED : Field := ⟨22, 16, .ro⟩
def POND_WAIT_WAITERS : Field := ⟨10, 0, .ro⟩
def POND_POISONED_COUNT : Field := ⟨20, 0, .ro⟩
def POND_LOW_MARK_LOW_MARK : Field := ⟨20, 0, .rw⟩
def POND_SCRUB_EN : Field := ⟨31, 31, .rw⟩
def POND_SCRUB_INTERVAL : Field := ⟨15, 0, .rw⟩
def POND_ERR_CID_SEQ : Field := ⟨31, 24, .seq⟩
def POND_ERR_CID_TYPE : Field := ⟨23, 20, .ro⟩
def POND_ERR_CID_CID : Field := ⟨19, 0, .ro⟩
def POND_CE_COUNT_COUNT : Field := ⟨31, 0, .ro⟩
def POND_QSUM_SUM : Field := ⟨26, 0, .ro⟩
def HOLDER_QUOTA_QUOTA : Field := ⟨20, 0, .rw⟩
def HOLDER_USED_OVER_QUOTA : Field := ⟨31, 31, .ro⟩
def HOLDER_USED_USED : Field := ⟨20, 0, .ro⟩
def ENG_CACHE_SPILLS : Field := ⟨31, 16, .ro⟩
def ENG_CACHE_RESIDENT : Field := ⟨6, 0, .ro⟩
def CW_CTL_PAUSE_MAX : Field := ⟨23, 16, .k⟩
def CW_CTL_FREEZE_EN : Field := ⟨2, 2, .k⟩
def CW_CTL_PAUSE : Field := ⟨1, 1, .k⟩
def CW_CTL_EN : Field := ⟨0, 0, .k⟩
def CW_REF_REF : Field := ⟨31, 0, .k⟩
def CW_CALC_CALC : Field := ⟨31, 0, .ro⟩
def CW_STATUS_SEQ : Field := ⟨31, 24, .seq⟩
def CW_STATUS_SKIPS : Field := ⟨23, 16, .ro⟩
def CW_STATUS_PAR_SEEN : Field := ⟨6, 6, .rs⟩
def CW_STATUS_MISMATCH_SEEN : Field := ⟨5, 5, .rs⟩
def CW_STATUS_FROZEN : Field := ⟨4, 4, .ro⟩
def CW_STATUS_MATCH : Field := ⟨3, 3, .ro⟩
def CW_STATUS_PAUSED : Field := ⟨2, 2, .ro⟩
def CW_STATUS_MODE : Field := ⟨0, 0, .ro⟩
def CW_PAR_ADDR_SEQ : Field := ⟨31, 24, .seq⟩
def CW_PAR_ADDR_ADDR : Field := ⟨23, 0, .ro⟩
def CW_BLK_CRC : Field := ⟨31, 0, .ro⟩
def BEAD_STATUS_SEQ : Field := ⟨31, 24, .seq⟩
def BEAD_STATUS_QUEUED : Field := ⟨11, 8, .ro⟩
def BEAD_STATUS_COMMIT : Field := ⟨2, 2, .ro⟩
def BEAD_STATUS_SESSION : Field := ⟨1, 1, .ro⟩
def BEAD_STATUS_FIELD : Field := ⟨0, 0, .ro⟩
def BEAD_CNT_SNAP_SEQ : Field := ⟨31, 16, .ro⟩
def BEAD_CNT_SNAP_LOST : Field := ⟨15, 8, .ro⟩
def BEAD_CNT_FIELD_BUSY : Field := ⟨7, 0, .ro⟩
def SVC_STATUS_SEQ : Field := ⟨31, 24, .seq⟩
def SVC_STATUS_BOUND : Field := ⟨23, 12, .ro⟩
def SVC_STATUS_PENDING : Field := ⟨11, 0, .ro⟩
def SVC_PROF_CTL_MODE : Field := ⟨31, 30, .rw⟩
def SVC_PROF_CTL_TERM_KEEP : Field := ⟨29, 29, .rw⟩
def SVC_PROF_CTL_SEQ2 : Field := ⟨28, 28, .rw⟩
def SVC_PROF_CTL_KEYMAP : Field := ⟨26, 24, .rw⟩
def SVC_PROF_CTL_GAP_MS : Field := ⟨23, 16, .rw⟩
def SVC_PROF_CTL_MAX_LEN : Field := ⟨12, 0, .rw⟩
def SVC_PROF_TERM_TERM : Field := ⟨31, 0, .rw⟩
def SVC_PROF_LINE_STOP : Field := ⟨31, 30, .rw⟩
def SVC_PROF_LINE_PARITY : Field := ⟨29, 27, .rw⟩
def SVC_PROF_LINE_DATA_BITS : Field := ⟨26, 23, .rw⟩
def SVC_PROF_LINE_RATE : Field := ⟨22, 0, .rw⟩
def XSPI_ADDR_ADDR : Field := ⟨25, 0, .rw⟩
def XSPI_CMD_GO : Field := ⟨31, 31, .k⟩
def XSPI_CMD_LEN : Field := ⟨16, 8, .rw⟩
def XSPI_CMD_OP : Field := ⟨3, 0, .rw⟩
def XSPI_STATUS_SEQ : Field := ⟨31, 24, .seq⟩
def XSPI_STATUS_FSR : Field := ⟨23, 16, .ro⟩
def XSPI_STATUS_ERR : Field := ⟨3, 2, .ro⟩
def XSPI_STATUS_DONE : Field := ⟨1, 1, .rs⟩
def XSPI_STATUS_BUSY : Field := ⟨0, 0, .ro⟩
def XSPI_DATA_DATA : Field := ⟨31, 0, .rw⟩
def DROP_CTL_CONFIG_SEL : Field := ⟨11, 8, .rw⟩
def DROP_CTL_ENUM_RETRY : Field := ⟨7, 6, .rw⟩
def DROP_CTL_SPEED_MAX : Field := ⟨5, 4, .rw⟩
def DROP_CTL_RWAKE_EN : Field := ⟨2, 2, .rw⟩
def DROP_CTL_AUTO_ENUM : Field := ⟨0, 0, .rw⟩
def DROP_STATUS_SEQ : Field := ⟨31, 24, .seq⟩
def DROP_STATUS_DEVICES : Field := ⟨23, 17, .ro⟩
def DROP_STATUS_SPEED : Field := ⟨15, 14, .ro⟩
def DROP_STATUS_DEPTH : Field := ⟨13, 11, .ro⟩
def DROP_STATUS_OVERDRAW_SEEN : Field := ⟨10, 10, .rs⟩
def DROP_STATUS_OC_SEEN : Field := ⟨9, 9, .rs⟩
def DROP_STATUS_WAKE_SEEN : Field := ⟨8, 8, .rs⟩
def DROP_STATUS_STATE : Field := ⟨3, 0, .ro⟩
def DROP_SUSP_MEASURED : Field := ⟨27, 16, .ro⟩
def DROP_SUSP_SUSP_BUDGET : Field := ⟨11, 0, .rw⟩
def DROP_SCHED_PERIODIC_EPS : Field := ⟨27, 16, .ro⟩
def DROP_SCHED_PEAK : Field := ⟨12, 0, .ro⟩
def DROP_FRAME_ALIGNED : Field := ⟨31, 31, .rw⟩
def DROP_FRAME_OFFSET : Field := ⟨26, 16, .ro⟩
def DROP_FRAME_UFRAME : Field := ⟨13, 11, .ro⟩
def DROP_FRAME_FRAME : Field := ⟨10, 0, .ro⟩
def DROP_WEIR_SLOW_LIMIT : Field := ⟨31, 16, .rw⟩
def DROP_WEIR_WEIGHT : Field := ⟨15, 8, .rw⟩
def DROP_WEIR_NAK_BUDGET : Field := ⟨7, 0, .rw⟩
def DROP_XFER_ERR_SEQ : Field := ⟨31, 24, .seq⟩
def DROP_XFER_ERR_SPLIT_ERR : Field := ⟨23, 16, .ro⟩
def DROP_XFER_ERR_TOGGLE_DROP : Field := ⟨15, 8, .ro⟩
def DROP_XFER_ERR_CRC_ERR : Field := ⟨7, 0, .ro⟩
def DROP_PARISON_PARISON_MAX : Field := ⟨15, 0, .rw⟩
def SVC_PORT_BELT_EN : Field := ⟨19, 16, .rw⟩
def SVC_PORT_BELTS : Field := ⟨15, 0, .rw⟩
def PIN_CFG_SEL_POL : Field := ⟨3, 3, .k⟩
def PIN_CFG_CONN : Field := ⟨2, 2, .k⟩
def PIN_CFG_WIRING : Field := ⟨1, 0, .k⟩
def PD_CFG_PD_EN : Field := ⟨31, 31, .rw⟩
def PD_CFG_PMB : Field := ⟨30, 30, .rw⟩
def PD_CFG_PEC : Field := ⟨29, 29, .rw⟩
def PD_CFG_POLICY : Field := ⟨28, 27, .rw⟩
def PD_CFG_ADDR : Field := ⟨6, 0, .rw⟩
def PD_CAPS_PPS_MAX : Field := ⟨23, 16, .rw⟩
def PD_CAPS_PPS_MIN : Field := ⟨15, 8, .rw⟩
def PD_CAPS_UNCONSTR : Field := ⟨7, 7, .rw⟩
def PD_CAPS_EPR : Field := ⟨6, 4, .rw⟩
def PD_CAPS_PPS : Field := ⟨3, 3, .rw⟩
def PD_CAPS_FIXED : Field := ⟨2, 0, .rw⟩
def PD_LIMIT_REDUCED_P : Field := ⟨31, 24, .rw⟩
def PD_LIMIT_PMAX : Field := ⟨23, 16, .rw⟩
def PD_LIMIT_IMAX : Field := ⟨7, 0, .rw⟩
def PD_TIMING_SWAP_RETRIES : Field := ⟨18, 16, .rw⟩
def PD_TIMING_SWAP_RETRY_WAIT : Field := ⟨15, 8, .rw⟩
def PD_TIMING_SLEW : Field := ⟨7, 0, .rw⟩
def PD_STATUS_SEQ : Field := ⟨31, 24, .seq⟩
def PD_STATUS_CABLE_EPR : Field := ⟨23, 23, .ro⟩
def PD_STATUS_CUR : Field := ⟨22, 16, .ro⟩
def PD_STATUS_HR_SEEN : Field := ⟨15, 15, .rs⟩
def PD_STATUS_CONV_FAULT : Field := ⟨14, 14, .rs⟩
def PD_STATUS_OBJ_POS : Field := ⟨13, 10, .ro⟩
def PD_STATUS_KIND : Field := ⟨9, 8, .ro⟩
def PD_STATUS_REDUCED : Field := ⟨7, 7, .ro⟩
def PD_STATUS_EPR_MODE : Field := ⟨6, 6, .ro⟩
def PD_STATUS_CABLE_5A : Field := ⟨5, 5, .ro⟩
def PD_STATUS_VCONN_SRC : Field := ⟨4, 4, .ro⟩
def PD_STATUS_STATE : Field := ⟨3, 0, .ro⟩
def PD_VOUT_MEASURED : Field := ⟨31, 16, .ro⟩
def PD_VOUT_TARGET : Field := ⟨15, 0, .ro⟩
def LINE_CTL_STREAM_EN : Field := ⟨31, 31, .rw⟩
def LINE_CTL_STREAM : Field := ⟨27, 16, .rw⟩
def LINE_CTL_LISTEN : Field := ⟨7, 7, .rw⟩
def LINE_CTL_BOFF_AUTO : Field := ⟨6, 6, .rw⟩
def LINE_CTL_STRANGER_KEEP : Field := ⟨5, 5, .rw⟩
def LINE_CTL_TRIPLE : Field := ⟨4, 4, .rw⟩
def LINE_CTL_BRS : Field := ⟨3, 3, .rw⟩
def LINE_CTL_TIME_EN : Field := ⟨2, 2, .rw⟩
def LINE_CTL_POLL_EN : Field := ⟨1, 1, .rw⟩
def LINE_NBT_SJW : Field := ⟨30, 24, .rw⟩
def LINE_NBT_TSEG1 : Field := ⟨23, 16, .rw⟩
def LINE_NBT_TSEG2 : Field := ⟨15, 9, .rw⟩
def LINE_NBT_BRP : Field := ⟨8, 0, .rw⟩
def LINE_DBT_SJW : Field := ⟨27, 24, .rw⟩
def LINE_DBT_TSEG1 : Field := ⟨20, 16, .rw⟩
def LINE_DBT_TSEG2 : Field := ⟨11, 8, .rw⟩
def LINE_DBT_BRP : Field := ⟨4, 0, .rw⟩
def LINE_TDC_TDC_ON : Field := ⟨23, 23, .ro⟩
def LINE_TDC_TDCV : Field := ⟨22, 16, .ro⟩
def LINE_TDC_TDCO : Field := ⟨6, 0, .rw⟩
def LINE_ERR_SEQ : Field := ⟨31, 24, .seq⟩
def LINE_ERR_STATE : Field := ⟨19, 18, .ro⟩
def LINE_ERR_WARN_B : Field := ⟨17, 17, .ro⟩
def LINE_ERR_WARN_A : Field := ⟨16, 16, .ro⟩
def LINE_ERR_REC : Field := ⟨15, 8, .ro⟩
def LINE_ERR_TEC : Field := ⟨7, 0, .ro⟩
def LINE_WARN_ERR_WARN_B : Field := ⟨15, 8, .rw⟩
def LINE_WARN_ERR_WARN_A : Field := ⟨7, 0, .rw⟩
def LINE_POLL_ADDR_QUAR : Field := ⟨31, 24, .rw⟩
def LINE_POLL_LOST_LIMIT : Field := ⟨23, 20, .rw⟩
def LINE_POLL_SLOW_LIMIT : Field := ⟨19, 16, .rw⟩
def LINE_POLL_POLL_MS : Field := ⟨15, 8, .rw⟩
def LINE_POLL_RESP : Field := ⟨7, 0, .rw⟩
def LINE_HOLD_ABSENT_HOLD : Field := ⟨15, 0, .rw⟩
def LINE_CNT_RXQ1_OVR : Field := ⟨31, 24, .ro⟩
def LINE_CNT_RXQ0_OVR : Field := ⟨23, 16, .ro⟩
def LINE_CNT_STRANGERS : Field := ⟨15, 0, .ro⟩
def LINE_FLT_ID_ACTION : Field := ⟨31, 30, .rw⟩
def LINE_FLT_ID_FDF : Field := ⟨29, 29, .rw⟩
def LINE_FLT_ID_ID : Field := ⟨28, 0, .rw⟩
def LINE_FLT_MASK_IDE : Field := ⟨31, 31, .rw⟩
def LINE_FLT_MASK_IDE_M : Field := ⟨30, 30, .rw⟩
def LINE_FLT_MASK_FDF_M : Field := ⟨29, 29, .rw⟩
def LINE_FLT_MASK_MASK : Field := ⟨28, 0, .rw⟩
def CH_CMD_CMD : Field := ⟨1, 0, .rw⟩
def CH_CFG_RETRY_DELAY : Field := ⟨19, 12, .rw⟩
def CH_CFG_RETRY_MAX : Field := ⟨11, 8, .rw⟩
def CH_CFG_RETRY_MODE : Field := ⟨7, 7, .rw⟩
def CH_CFG_PRIO : Field := ⟨6, 3, .rw⟩
def CH_CFG_RAIL : Field := ⟨2, 0, .rw⟩
def CH_SENSE_RSHUNT : Field := ⟨15, 0, .rw⟩
def CH_INRUSH_I_MAX : Field := ⟨31, 16, .rw⟩
def CH_INRUSH_INRUSH_MAX : Field := ⟨15, 8, .rw⟩
def CH_INRUSH_P_SOA : Field := ⟨6, 0, .rw⟩
def CH_LIMIT_SHORT_I : Field := ⟨31, 16, .rw⟩
def CH_LIMIT_I_NOM : Field := ⟨15, 0, .rw⟩
def CH_SUSP_SUSP_SHORT_I : Field := ⟨31, 16, .rw⟩
def CH_SUSP_SUSP_I_NOM : Field := ⟨15, 0, .rw⟩
def CH_CURVE_M : Field := ⟨31, 24, .rw⟩
def CH_CURVE_T : Field := ⟨23, 0, .rw⟩
def CH_STATUS_SEQ : Field := ⟨31, 24, .seq⟩
def CH_STATUS_HELD_BY : Field := ⟨23, 16, .mc⟩
def CH_STATUS_WR_PEND : Field := ⟨15, 15, .ro⟩
def CH_STATUS_FET_FAULT : Field := ⟨14, 14, .rs⟩
def CH_STATUS_LIMIT_CLAMP : Field := ⟨13, 13, .ro⟩
def CH_STATUS_RETRIES : Field := ⟨12, 9, .mc⟩
def CH_STATUS_POINT : Field := ⟨8, 6, .mc⟩
def CH_STATUS_CAUSE : Field := ⟨5, 3, .mc⟩
def CH_STATUS_PHASE : Field := ⟨2, 0, .mc⟩
def CH_MEAS_V_OUT : Field := ⟨31, 16, .mc⟩
def CH_MEAS_I : Field := ⟨15, 0, .mc⟩
def RAIL_CFG_EN : Field := ⟨31, 31, .rw⟩
def RAIL_CFG_UV_HOLD : Field := ⟨10, 0, .rw⟩
def RAIL_BUDGET_SHED_GRACE : Field := ⟨31, 24, .rw⟩
def RAIL_BUDGET_BUDGET : Field := ⟨15, 0, .rw⟩
def RAIL_STATUS_SEQ : Field := ⟨31, 24, .seq⟩
def RAIL_STATUS_MISMATCH : Field := ⟨19, 19, .rs⟩
def RAIL_STATUS_UV_FD1 : Field := ⟨18, 18, .mc⟩
def RAIL_STATUS_UV_FD0 : Field := ⟨17, 17, .mc⟩
def RAIL_STATUS_OVER : Field := ⟨16, 16, .mc⟩
def RAIL_STATUS_DRAW : Field := ⟨15, 0, .mc⟩
def RAIL_MEAS_V_FD1 : Field := ⟨31, 16, .mc⟩
def RAIL_MEAS_V_FD0 : Field := ⟨15, 0, .mc⟩

end F

/-- The fields of a register that are not reserved. Every bit outside them is of type RC (R318). -/
def Reg.fields : Reg → List Field
  | .GLB_ID =>
    [F.GLB_ID_PART, F.GLB_ID_GRADE, F.GLB_ID_STEP]
  | .GLB_SERIAL_LO =>
    [F.GLB_SERIAL_LO_LO]
  | .GLB_SERIAL_HI =>
    [F.GLB_SERIAL_HI_HI]
  | .GLB_STRAP =>
    [F.GLB_STRAP_TEST, F.GLB_STRAP_STRAP]
  | .GLB_FAULT =>
    [F.GLB_FAULT_SEQ, F.GLB_FAULT_SRC]
  | .GLB_FAULT_EN =>
    [F.GLB_FAULT_EN_FAULT_EN]
  | .GLB_ALERT_EN =>
    [F.GLB_ALERT_EN_ALERT_EN]
  | .GLB_SCRATCH =>
    [F.GLB_SCRATCH_SCRATCH]
  | .INT_QPTR =>
    [F.INT_QPTR_SEQ, F.INT_QPTR_COUNT, F.INT_QPTR_QUEUE]
  | .INT_RES =>
    [F.INT_RES_SEQ, F.INT_RES_UE, F.INT_RES_CE]
  | .INT_CRC =>
    [F.INT_CRC_COUNT]
  | .ESC_LAST =>
    [F.ESC_LAST_SEQ, F.ESC_LAST_INDEX, F.ESC_LAST_LADDER, F.ESC_LAST_RUNG]
  | .ENG_CFG =>
    [F.ENG_CFG_POOL_BUDGET]
  | .ENG_QUAR _ =>
    [F.ENG_QUAR_QUAR]
  | .ENG_BASIN _ =>
    [F.ENG_BASIN_SEQ, F.ENG_BASIN_HELD, F.ENG_BASIN_SPARES, F.ENG_BASIN_WORKING]
  | .MEAS _ _ =>
    [F.MEAS_MEAS]
  | .MEAS_EXT_DATA _ =>
    [F.MEAS_EXT_DATA_DATA]
  | .MEAS_EXT_CTL =>
    [F.MEAS_EXT_CTL_BUSY, F.MEAS_EXT_CTL_GO, F.MEAS_EXT_CTL_INDEX]
  | .BOOT_STATUS =>
    [F.BOOT_STATUS_SEQ, F.BOOT_STATUS_EXT_DENIED, F.BOOT_STATUS_DIG_MISMATCH, F.BOOT_STATUS_SIG, F.BOOT_STATUS_RECOVERY, F.BOOT_STATUS_FALLBACK, F.BOOT_STATUS_BANK, F.BOOT_STATUS_UBANK]
  | .BOOT_CTL =>
    [F.BOOT_CTL_BOOT_OK]
  | .BOOT_OVR =>
    [F.BOOT_OVR_WR_PEND, F.BOOT_OVR_RECOVER, F.BOOT_OVR_WDT_FAILS, F.BOOT_OVR_ONCE, F.BOOT_OVR_BANK, F.BOOT_OVR_VALID]
  | .ATT_NONCE _ =>
    [F.ATT_NONCE_NONCE]
  | .ATT_CTL =>
    [F.ATT_CTL_ERR, F.ATT_CTL_DONE, F.ATT_CTL_GO]
  | .ATT_QUOTE _ =>
    [F.ATT_QUOTE_QUOTE]
  | .KEY_UNLOCK =>
    [F.KEY_UNLOCK_KEY]
  | .KEY_STATUS =>
    [F.KEY_STATUS_SEQ, F.KEY_STATUS_BAD, F.KEY_STATUS_DENIED, F.KEY_STATUS_UNLOCKED]
  | .CLK_CTL =>
    [F.CLK_CTL_REF_EN, F.CLK_CTL_PLL_EN, F.CLK_CTL_SYS_SEL]
  | .CLK_STATUS =>
    [F.CLK_STATUS_SEQ, F.CLK_STATUS_HOLDOVER, F.CLK_STATUS_XTAL_OK, F.CLK_STATUS_REF_QUAL, F.CLK_STATUS_LOCK, F.CLK_STATUS_UNLOCK_SEEN]
  | .RST_CMD =>
    [F.RST_CMD_GO, F.RST_CMD_SCOPE, F.RST_CMD_INDEX]
  | .RST_CAUSE =>
    [F.RST_CAUSE_COUNT, F.RST_CAUSE_SUPPLY, F.RST_CAUSE_LAST]
  | .CDC_OVR =>
    [F.CDC_OVR_SEQ, F.CDC_OVR_AON, F.CDC_OVR_FLM, F.CDC_OVR_BEAD, F.CDC_OVR_SVC, F.CDC_OVR_HSP, F.CDC_OVR_SEICHE, F.CDC_OVR_TRUNK, F.CDC_OVR_BASIN]
  | .CDC_WAKE_MODE =>
    [F.CDC_WAKE_MODE_WR_PEND, F.CDC_WAKE_MODE_AIN, F.CDC_WAKE_MODE_BASIN, F.CDC_WAKE_MODE_SVC, F.CDC_WAKE_MODE_TRUNK]
  | .PWR_CTL =>
    [F.PWR_CTL_STATE_MAX, F.PWR_CTL_AUTO]
  | .PWR_LTR =>
    [F.PWR_LTR_LTR]
  | .PWR_TIMER_0 =>
    [F.PWR_TIMER_0_SLEEP_S, F.PWR_TIMER_0_IDLE_US]
  | .PWR_TIMER_1 =>
    [F.PWR_TIMER_1_DEEP_S]
  | .PWR_STATUS =>
    [F.PWR_STATUS_SEQ, F.PWR_STATUS_LAST, F.PWR_STATUS_STATE]
  | .PWR_REFUSE =>
    [F.PWR_REFUSE_COUNT, F.PWR_REFUSE_KIND, F.PWR_REFUSE_STAGE, F.PWR_REFUSE_INDEX]
  | .PWR_WAKE_EN =>
    [F.PWR_WAKE_EN_WR_PEND, F.PWR_WAKE_EN_AIN_TH, F.PWR_WAKE_EN_AIN_POL, F.PWR_WAKE_EN_AIN_EN, F.PWR_WAKE_EN_DROP_RWAKE, F.PWR_WAKE_EN_LINE_RXD, F.PWR_WAKE_EN_SVC_VBUS, F.PWR_WAKE_EN_SVC_RESUME, F.PWR_WAKE_EN_TRUNK_WAKE, F.PWR_WAKE_EN_TRUNK_SD]
  | .PWR_WAKE_CAUSE =>
    [F.PWR_WAKE_CAUSE_INDEX, F.PWR_WAKE_CAUSE_SOURCE]
  | .SEI_TIME_LO =>
    [F.SEI_TIME_LO_LO]
  | .SEI_TIME_HI =>
    [F.SEI_TIME_HI_HI]
  | .SEI_STATUS =>
    [F.SEI_STATUS_SEQ, F.SEI_STATUS_LATE_SEEN, F.SEI_STATUS_DEG_DEEP, F.SEI_STATUS_DEG_XTAL, F.SEI_STATUS_TIME_DEGRADED]
  | .SEI_UNCERT =>
    [F.SEI_UNCERT_UNCERT]
  | .SEI_CTL =>
    [F.SEI_CTL_PPS_EN, F.SEI_CTL_PPS_W, F.SEI_CTL_INLET_REC_EN, F.SEI_CTL_INLET_STREAM]
  | .OUTFALL_STATE =>
    [F.OUTFALL_STATE_LEVEL]
  | .SEI_CAL =>
    [F.SEI_CAL_CAL_VALID, F.SEI_CAL_PERIOD]
  | .BELT_CTL _ =>
    [F.BELT_CTL_EN, F.BELT_CTL_TERM, F.BELT_CTL_DIR_INV, F.BELT_CTL_ZCHK, F.BELT_CTL_MODE, F.BELT_CTL_RATE_N, F.BELT_CTL_FILT]
  | .BELT_POS_LO _ =>
    [F.BELT_POS_LO_LO]
  | .BELT_POS_HI _ =>
    [F.BELT_POS_HI_HI]
  | .BELT_RATE _ =>
    [F.BELT_RATE_RATE]
  | .BELT_STATUS _ =>
    [F.BELT_STATUS_SEQ, F.BELT_STATUS_ARMED, F.BELT_STATUS_Z_ERR, F.BELT_STATUS_QUAD_ERR, F.BELT_STATUS_DIR, F.BELT_STATUS_STOPPED, F.BELT_STATUS_POS_VALID]
  | .BELT_ZCFG _ =>
    [F.BELT_ZCFG_Z_PPR, F.BELT_ZCFG_Z_TOL]
  | .BELT_ARM _ =>
    [F.BELT_ARM_ARM_HORIZON]
  | .BELT_STOP _ =>
    [F.BELT_STOP_STOP_MS]
  | .INLET_CTL _ =>
    [F.INLET_CTL_EN, F.INLET_CTL_POL, F.INLET_CTL_BELT_EN, F.INLET_CTL_BELT, F.INLET_CTL_FILT, F.INLET_CTL_JAM]
  | .TRK_CTL =>
    [F.TRK_CTL_ETHERTYPE, F.TRK_CTL_JUMBO, F.TRK_CTL_FEC_TB, F.TRK_CTL_FEC_TA, F.TRK_CTL_LANE_EN_TB, F.TRK_CTL_LANE_EN_TA, F.TRK_CTL_PREF_ACTIVE, F.TRK_CTL_MODE]
  | .TRK_STATUS =>
    [F.TRK_STATUS_SEQ, F.TRK_STATUS_STATE, F.TRK_STATUS_DEGR_TB, F.TRK_STATUS_DEGR_TA, F.TRK_STATUS_ACTIVE, F.TRK_STATUS_SWAP_PEND, F.TRK_STATUS_UP_TB, F.TRK_STATUS_UP_TA, F.TRK_STATUS_TARN_SEEN, F.TRK_STATUS_FAILOVER_SEEN]
  | .TRK_CFG2 =>
    [F.TRK_CFG2_LAT_WARN, F.TRK_CFG2_REORDER_HOLD]
  | .TRK_SPILL =>
    [F.TRK_SPILL_DROP, F.TRK_SPILL_USED]
  | .TRK_WAKE_KEY =>
    [F.TRK_WAKE_KEY_KEY]
  | .TRK_PEER_MAC_LO =>
    [F.TRK_PEER_MAC_LO_LO]
  | .TRK_PEER_MAC_HI =>
    [F.TRK_PEER_MAC_HI_HI]
  | .PTP_CTL =>
    [F.PTP_CTL_PTP_EN, F.PTP_CTL_DOMAIN, F.PTP_CTL_SYNC_LOG, F.PTP_CTL_ANN_LOG, F.PTP_CTL_PRIORITY1]
  | .PTP_LAT _ =>
    [F.PTP_LAT_TX_ADJ, F.PTP_LAT_RX_ADJ]
  | .TRK_ERR _ =>
    [F.TRK_ERR_CRC_ERR, F.TRK_ERR_FRAME_ERR]
  | .DOOR_STATUS _ =>
    [F.DOOR_STATUS_EPOCH, F.DOOR_STATUS_PATH, F.DOOR_STATUS_REQ_USED]
  | .DOOR_EVT _ =>
    [F.DOOR_EVT_LOST, F.DOOR_EVT_EVT_USED]
  | .MBX_CTL =>
    [F.MBX_CTL_LEASE]
  | .POND_STATUS =>
    [F.POND_STATUS_SEQ, F.POND_STATUS_WAITLIST_FULL, F.POND_STATUS_UE_SEEN, F.POND_STATUS_CE_SEEN, F.POND_STATUS_EXHAUSTED, F.POND_STATUS_OVERCOMMIT]
  | .POND_FREE =>
    [F.POND_FREE_FREE]
  | .POND_WAIT =>
    [F.POND_WAIT_RESERVED, F.POND_WAIT_WAITERS]
  | .POND_POISONED =>
    [F.POND_POISONED_COUNT]
  | .POND_LOW_MARK =>
    [F.POND_LOW_MARK_LOW_MARK]
  | .POND_SCRUB =>
    [F.POND_SCRUB_EN, F.POND_SCRUB_INTERVAL]
  | .POND_ERR_CID =>
    [F.POND_ERR_CID_SEQ, F.POND_ERR_CID_TYPE, F.POND_ERR_CID_CID]
  | .POND_CE_COUNT =>
    [F.POND_CE_COUNT_COUNT]
  | .POND_QSUM =>
    [F.POND_QSUM_SUM]
  | .HOLDER_QUOTA _ =>
    [F.HOLDER_QUOTA_QUOTA]
  | .HOLDER_USED _ =>
    [F.HOLDER_USED_OVER_QUOTA, F.HOLDER_USED_USED]
  | .ENG_CACHE _ =>
    [F.ENG_CACHE_SPILLS, F.ENG_CACHE_RESIDENT]
  | .CW_CTL =>
    [F.CW_CTL_PAUSE_MAX, F.CW_CTL_FREEZE_EN, F.CW_CTL_PAUSE, F.CW_CTL_EN]
  | .CW_REF =>
    [F.CW_REF_REF]
  | .CW_CALC =>
    [F.CW_CALC_CALC]
  | .CW_STATUS =>
    [F.CW_STATUS_SEQ, F.CW_STATUS_SKIPS, F.CW_STATUS_PAR_SEEN, F.CW_STATUS_MISMATCH_SEEN, F.CW_STATUS_FROZEN, F.CW_STATUS_MATCH, F.CW_STATUS_PAUSED, F.CW_STATUS_MODE]
  | .CW_PAR_ADDR =>
    [F.CW_PAR_ADDR_SEQ, F.CW_PAR_ADDR_ADDR]
  | .CW_BLK _ =>
    [F.CW_BLK_CRC]
  | .BEAD_STATUS =>
    [F.BEAD_STATUS_SEQ, F.BEAD_STATUS_QUEUED, F.BEAD_STATUS_COMMIT, F.BEAD_STATUS_SESSION, F.BEAD_STATUS_FIELD]
  | .BEAD_CNT =>
    [F.BEAD_CNT_SNAP_SEQ, F.BEAD_CNT_SNAP_LOST, F.BEAD_CNT_FIELD_BUSY]
  | .SVC_STATUS =>
    [F.SVC_STATUS_SEQ, F.SVC_STATUS_BOUND, F.SVC_STATUS_PENDING]
  | .SVC_PROF_CTL _ =>
    [F.SVC_PROF_CTL_MODE, F.SVC_PROF_CTL_TERM_KEEP, F.SVC_PROF_CTL_SEQ2, F.SVC_PROF_CTL_KEYMAP, F.SVC_PROF_CTL_GAP_MS, F.SVC_PROF_CTL_MAX_LEN]
  | .SVC_PROF_TERM _ =>
    [F.SVC_PROF_TERM_TERM]
  | .SVC_PROF_LINE _ =>
    [F.SVC_PROF_LINE_STOP, F.SVC_PROF_LINE_PARITY, F.SVC_PROF_LINE_DATA_BITS, F.SVC_PROF_LINE_RATE]
  | .XSPI_ADDR =>
    [F.XSPI_ADDR_ADDR]
  | .XSPI_CMD =>
    [F.XSPI_CMD_GO, F.XSPI_CMD_LEN, F.XSPI_CMD_OP]
  | .XSPI_STATUS =>
    [F.XSPI_STATUS_SEQ, F.XSPI_STATUS_FSR, F.XSPI_STATUS_ERR, F.XSPI_STATUS_DONE, F.XSPI_STATUS_BUSY]
  | .XSPI_DATA _ =>
    [F.XSPI_DATA_DATA]
  | .DROP_CTL _ =>
    [F.DROP_CTL_CONFIG_SEL, F.DROP_CTL_ENUM_RETRY, F.DROP_CTL_SPEED_MAX, F.DROP_CTL_RWAKE_EN, F.DROP_CTL_AUTO_ENUM]
  | .DROP_STATUS _ =>
    [F.DROP_STATUS_SEQ, F.DROP_STATUS_DEVICES, F.DROP_STATUS_SPEED, F.DROP_STATUS_DEPTH, F.DROP_STATUS_OVERDRAW_SEEN, F.DROP_STATUS_OC_SEEN, F.DROP_STATUS_WAKE_SEEN, F.DROP_STATUS_STATE]
  | .DROP_SUSP _ =>
    [F.DROP_SUSP_MEASURED, F.DROP_SUSP_SUSP_BUDGET]
  | .DROP_SCHED _ =>
    [F.DROP_SCHED_PERIODIC_EPS, F.DROP_SCHED_PEAK]
  | .DROP_FRAME _ =>
    [F.DROP_FRAME_ALIGNED, F.DROP_FRAME_OFFSET, F.DROP_FRAME_UFRAME, F.DROP_FRAME_FRAME]
  | .DROP_WEIR _ =>
    [F.DROP_WEIR_SLOW_LIMIT, F.DROP_WEIR_WEIGHT, F.DROP_WEIR_NAK_BUDGET]
  | .DROP_XFER_ERR _ =>
    [F.DROP_XFER_ERR_SEQ, F.DROP_XFER_ERR_SPLIT_ERR, F.DROP_XFER_ERR_TOGGLE_DROP, F.DROP_XFER_ERR_CRC_ERR]
  | .DROP_PARISON _ =>
    [F.DROP_PARISON_PARISON_MAX]
  | .SVC_PORT _ =>
    [F.SVC_PORT_BELT_EN, F.SVC_PORT_BELTS]
  | .PIN_CFG _ =>
    [F.PIN_CFG_SEL_POL, F.PIN_CFG_CONN, F.PIN_CFG_WIRING]
  | .PD_CFG _ =>
    [F.PD_CFG_PD_EN, F.PD_CFG_PMB, F.PD_CFG_PEC, F.PD_CFG_POLICY, F.PD_CFG_ADDR]
  | .PD_CAPS _ =>
    [F.PD_CAPS_PPS_MAX, F.PD_CAPS_PPS_MIN, F.PD_CAPS_UNCONSTR, F.PD_CAPS_EPR, F.PD_CAPS_PPS, F.PD_CAPS_FIXED]
  | .PD_LIMIT _ =>
    [F.PD_LIMIT_REDUCED_P, F.PD_LIMIT_PMAX, F.PD_LIMIT_IMAX]
  | .PD_TIMING _ =>
    [F.PD_TIMING_SWAP_RETRIES, F.PD_TIMING_SWAP_RETRY_WAIT, F.PD_TIMING_SLEW]
  | .PD_STATUS _ =>
    [F.PD_STATUS_SEQ, F.PD_STATUS_CABLE_EPR, F.PD_STATUS_CUR, F.PD_STATUS_HR_SEEN, F.PD_STATUS_CONV_FAULT, F.PD_STATUS_OBJ_POS, F.PD_STATUS_KIND, F.PD_STATUS_REDUCED, F.PD_STATUS_EPR_MODE, F.PD_STATUS_CABLE_5A, F.PD_STATUS_VCONN_SRC, F.PD_STATUS_STATE]
  | .PD_VOUT _ =>
    [F.PD_VOUT_MEASURED, F.PD_VOUT_TARGET]
  | .LINE_CTL _ =>
    [F.LINE_CTL_STREAM_EN, F.LINE_CTL_STREAM, F.LINE_CTL_LISTEN, F.LINE_CTL_BOFF_AUTO, F.LINE_CTL_STRANGER_KEEP, F.LINE_CTL_TRIPLE, F.LINE_CTL_BRS, F.LINE_CTL_TIME_EN, F.LINE_CTL_POLL_EN]
  | .LINE_NBT _ =>
    [F.LINE_NBT_SJW, F.LINE_NBT_TSEG1, F.LINE_NBT_TSEG2, F.LINE_NBT_BRP]
  | .LINE_DBT _ =>
    [F.LINE_DBT_SJW, F.LINE_DBT_TSEG1, F.LINE_DBT_TSEG2, F.LINE_DBT_BRP]
  | .LINE_TDC _ =>
    [F.LINE_TDC_TDC_ON, F.LINE_TDC_TDCV, F.LINE_TDC_TDCO]
  | .LINE_ERR _ =>
    [F.LINE_ERR_SEQ, F.LINE_ERR_STATE, F.LINE_ERR_WARN_B, F.LINE_ERR_WARN_A, F.LINE_ERR_REC, F.LINE_ERR_TEC]
  | .LINE_WARN _ =>
    [F.LINE_WARN_ERR_WARN_B, F.LINE_WARN_ERR_WARN_A]
  | .LINE_POLL _ =>
    [F.LINE_POLL_ADDR_QUAR, F.LINE_POLL_LOST_LIMIT, F.LINE_POLL_SLOW_LIMIT, F.LINE_POLL_POLL_MS, F.LINE_POLL_RESP]
  | .LINE_HOLD _ =>
    [F.LINE_HOLD_ABSENT_HOLD]
  | .LINE_CNT _ =>
    [F.LINE_CNT_RXQ1_OVR, F.LINE_CNT_RXQ0_OVR, F.LINE_CNT_STRANGERS]
  | .LINE_FLT_ID _ _ =>
    [F.LINE_FLT_ID_ACTION, F.LINE_FLT_ID_FDF, F.LINE_FLT_ID_ID]
  | .LINE_FLT_MASK _ _ =>
    [F.LINE_FLT_MASK_IDE, F.LINE_FLT_MASK_IDE_M, F.LINE_FLT_MASK_FDF_M, F.LINE_FLT_MASK_MASK]
  | .CH_CMD _ =>
    [F.CH_CMD_CMD]
  | .CH_CFG _ =>
    [F.CH_CFG_RETRY_DELAY, F.CH_CFG_RETRY_MAX, F.CH_CFG_RETRY_MODE, F.CH_CFG_PRIO, F.CH_CFG_RAIL]
  | .CH_SENSE _ =>
    [F.CH_SENSE_RSHUNT]
  | .CH_INRUSH _ =>
    [F.CH_INRUSH_I_MAX, F.CH_INRUSH_INRUSH_MAX, F.CH_INRUSH_P_SOA]
  | .CH_LIMIT _ =>
    [F.CH_LIMIT_SHORT_I, F.CH_LIMIT_I_NOM]
  | .CH_SUSP _ =>
    [F.CH_SUSP_SUSP_SHORT_I, F.CH_SUSP_SUSP_I_NOM]
  | .CH_CURVE _ _ =>
    [F.CH_CURVE_M, F.CH_CURVE_T]
  | .CH_STATUS _ =>
    [F.CH_STATUS_SEQ, F.CH_STATUS_HELD_BY, F.CH_STATUS_WR_PEND, F.CH_STATUS_FET_FAULT, F.CH_STATUS_LIMIT_CLAMP, F.CH_STATUS_RETRIES, F.CH_STATUS_POINT, F.CH_STATUS_CAUSE, F.CH_STATUS_PHASE]
  | .CH_MEAS _ =>
    [F.CH_MEAS_V_OUT, F.CH_MEAS_I]
  | .RAIL_CFG _ =>
    [F.RAIL_CFG_EN, F.RAIL_CFG_UV_HOLD]
  | .RAIL_BUDGET _ =>
    [F.RAIL_BUDGET_SHED_GRACE, F.RAIL_BUDGET_BUDGET]
  | .RAIL_STATUS _ =>
    [F.RAIL_STATUS_SEQ, F.RAIL_STATUS_MISMATCH, F.RAIL_STATUS_UV_FD1, F.RAIL_STATUS_UV_FD0, F.RAIL_STATUS_OVER, F.RAIL_STATUS_DRAW]
  | .RAIL_MEAS _ =>
    [F.RAIL_MEAS_V_FD1, F.RAIL_MEAS_V_FD0]

/-- The value after a device-scope reset (R12). GLB_ID.GRADE is per grade and the serial is from fuses: constants of Config. -/
def Reg.resetWord : Reg → BitVec 32
  | .GLB_ID => 0x96000001#32 ||| ((BitVec.ofNat 32 Config.gradeCode) <<< 12)
  | .GLB_SERIAL_LO => Config.serial.extractLsb' 0 32
  | .GLB_SERIAL_HI => Config.serial.extractLsb' 32 32
  | .GLB_STRAP => 0x00000000#32
  | .GLB_FAULT => 0x00000000#32
  | .GLB_FAULT_EN => 0x0000328F#32
  | .GLB_ALERT_EN => 0x00FFCD70#32
  | .GLB_SCRATCH => 0x00000000#32
  | .INT_QPTR => 0x00000000#32
  | .INT_RES => 0x00000000#32
  | .INT_CRC => 0x00000000#32
  | .ESC_LAST => 0x00000000#32
  | .ENG_CFG => 0x00000032#32
  | .ENG_QUAR _ => 0x00000000#32
  | .ENG_BASIN _ => 0x000000A0#32
  | .MEAS _ _ => 0x00000000#32
  | .MEAS_EXT_DATA _ => 0x00000000#32
  | .MEAS_EXT_CTL => 0x00000000#32
  | .BOOT_STATUS => 0x00000000#32
  | .BOOT_CTL => 0x00000000#32
  | .BOOT_OVR => 0x00000000#32
  | .ATT_NONCE _ => 0x00000000#32
  | .ATT_CTL => 0x00000000#32
  | .ATT_QUOTE _ => 0x00000000#32
  | .KEY_UNLOCK => 0x00000000#32
  | .KEY_STATUS => 0x00000000#32
  | .CLK_CTL => 0x00000000#32
  | .CLK_STATUS => 0x00002000#32
  | .RST_CMD => 0x00000000#32
  | .RST_CAUSE => 0x00000000#32
  | .CDC_OVR => 0x00000000#32
  | .CDC_WAKE_MODE => 0x00000000#32
  | .PWR_CTL => 0x00000002#32
  | .PWR_LTR => 0x00000002#32
  | .PWR_TIMER_0 => 0x003C0064#32
  | .PWR_TIMER_1 => 0x00000258#32
  | .PWR_STATUS => 0x00000000#32
  | .PWR_REFUSE => 0x00000000#32
  | .PWR_WAKE_EN => 0x00005003#32
  | .PWR_WAKE_CAUSE => 0x00000000#32
  | .SEI_TIME_LO => 0x00000000#32
  | .SEI_TIME_HI => 0x00000000#32
  | .SEI_STATUS => 0x00000000#32
  | .SEI_UNCERT => 0x00000000#32
  | .SEI_CTL => 0x0A000000#32
  | .OUTFALL_STATE => 0x00000000#32
  | .SEI_CAL => 0x2FAF0800#32
  | .BELT_CTL _ => 0x00040001#32
  | .BELT_POS_LO _ => 0x00000000#32
  | .BELT_POS_HI _ => 0x00000000#32
  | .BELT_RATE _ => 0x00000000#32
  | .BELT_STATUS _ => 0x00000003#32
  | .BELT_ZCFG _ => 0x08000002#32
  | .BELT_ARM _ => 0x00010000#32
  | .BELT_STOP _ => 0x00000064#32
  | .INLET_CTL _ => 0x000A0000#32
  | .TRK_CTL => 0x88B50000#32
  | .TRK_STATUS => 0x00000000#32
  | .TRK_CFG2 => 0x7D00003C#32
  | .TRK_SPILL => 0x00000000#32
  | .TRK_WAKE_KEY => 0x00000000#32
  | .TRK_PEER_MAC_LO => 0x00000000#32
  | .TRK_PEER_MAC_HI => 0x00000000#32
  | .PTP_CTL => 0x0000D180#32
  | .PTP_LAT _ => 0x00000000#32
  | .TRK_ERR _ => 0x00000000#32
  | .DOOR_STATUS _ => 0x00000000#32
  | .DOOR_EVT _ => 0x00000000#32
  | .MBX_CTL => 0x0000000A#32
  | .POND_STATUS => 0x00000000#32
  | .POND_FREE => 0x00100000#32
  | .POND_WAIT => 0x00000000#32
  | .POND_POISONED => 0x00000000#32
  | .POND_LOW_MARK => 0x00004000#32
  | .POND_SCRUB => 0x800003E8#32
  | .POND_ERR_CID => 0x00000000#32
  | .POND_CE_COUNT => 0x00000000#32
  | .POND_QSUM => 0x00100000#32
  | .HOLDER_QUOTA h => if h.val < 96 then 0x2800#32 else if h.val = 96 then 0x8000#32 else 0x4000#32
  | .HOLDER_USED _ => 0x00000000#32
  | .ENG_CACHE _ => 0x00000000#32
  | .CW_CTL => 0x00640000#32
  | .CW_REF => 0x00000000#32
  | .CW_CALC => 0x00000000#32
  | .CW_STATUS => 0x00000000#32
  | .CW_PAR_ADDR => 0x00000000#32
  | .CW_BLK _ => 0x00000000#32
  | .BEAD_STATUS => 0x00000000#32
  | .BEAD_CNT => 0x00000000#32
  | .SVC_STATUS => 0x00000000#32
  | .SVC_PROF_CTL _ => 0x00320100#32
  | .SVC_PROF_TERM _ => 0x0000000D#32
  | .SVC_PROF_LINE _ => 0x04002580#32
  | .XSPI_ADDR => 0x00000000#32
  | .XSPI_CMD => 0x00010000#32
  | .XSPI_STATUS => 0x00000000#32
  | .XSPI_DATA _ => 0x00000000#32
  | .DROP_CTL _ => 0x000000C4#32
  | .DROP_STATUS _ => 0x0000C000#32
  | .DROP_SUSP _ => 0x00000019#32
  | .DROP_SCHED _ => 0x00000000#32
  | .DROP_FRAME _ => 0x80000000#32
  | .DROP_WEIR _ => 0x03E80104#32
  | .DROP_XFER_ERR _ => 0x00000000#32
  | .DROP_PARISON _ => 0x000001F4#32
  | .SVC_PORT _ => 0x00000000#32
  | .PIN_CFG _ => 0x00000000#32
  | .PD_CFG _ => 0x00000000#32
  | .PD_CAPS _ => 0x00D22107#32
  | .PD_LIMIT _ => 0x0F3C003C#32
  | .PD_TIMING _ => 0x0005640A#32
  | .PD_STATUS _ => 0x00000000#32
  | .PD_VOUT _ => 0x00000000#32
  | .LINE_CTL _ => 0x0000004E#32
  | .LINE_NBT _ => 0x1F7E3E00#32
  | .LINE_DBT _ => 0x091C0900#32
  | .LINE_TDC _ => 0x00800000#32
  | .LINE_ERR _ => 0x00000000#32
  | .LINE_WARN _ => 0x00008060#32
  | .LINE_POLL _ => 0x0A530A0A#32
  | .LINE_HOLD _ => 0x0000003C#32
  | .LINE_CNT _ => 0x00000000#32
  | .LINE_FLT_ID _ k => if k.val = 0 then 0x60000000#32 else 0#32
  | .LINE_FLT_MASK _ k => if k.val = 0 then 0xE0000000#32 else 0#32
  | .CH_CMD _ => 0x00000000#32
  | .CH_CFG _ => 0x00064340#32
  | .CH_SENSE _ => 0x00000000#32
  | .CH_INRUSH _ => 0x00C8640A#32
  | .CH_LIMIT _ => 0x03200032#32
  | .CH_SUSP _ => 0x0032000A#32
  | .CH_CURVE _ k => if k.val = 0 then 0x14002710#32 else 0#32
  | .CH_STATUS _ => 0x00FF0000#32
  | .CH_MEAS _ => 0x00000000#32
  | .RAIL_CFG _ => 0x00000000#32
  | .RAIL_BUDGET _ => 0x1400FFFF#32
  | .RAIL_STATUS _ => 0x00000000#32
  | .RAIL_MEAS _ => 0x00000000#32

/-- Configuration class (R321; each chapter says which of its registers are). -/
def Reg.cfg : Reg → Bool
  | .GLB_ID => false
  | .GLB_SERIAL_LO => false
  | .GLB_SERIAL_HI => false
  | .GLB_STRAP => false
  | .GLB_FAULT => false
  | .GLB_FAULT_EN => true
  | .GLB_ALERT_EN => true
  | .GLB_SCRATCH => false
  | .INT_QPTR => false
  | .INT_RES => false
  | .INT_CRC => false
  | .ESC_LAST => false
  | .ENG_CFG => true
  | .ENG_QUAR _ => false
  | .ENG_BASIN _ => false
  | .MEAS _ _ => false
  | .MEAS_EXT_DATA _ => false
  | .MEAS_EXT_CTL => false
  | .BOOT_STATUS => false
  | .BOOT_CTL => false
  | .BOOT_OVR => false
  | .ATT_NONCE _ => false
  | .ATT_CTL => false
  | .ATT_QUOTE _ => false
  | .KEY_UNLOCK => false
  | .KEY_STATUS => false
  | .CLK_CTL => false
  | .CLK_STATUS => false
  | .RST_CMD => false
  | .RST_CAUSE => false
  | .CDC_OVR => false
  | .CDC_WAKE_MODE => false
  | .PWR_CTL => true
  | .PWR_LTR => false
  | .PWR_TIMER_0 => false
  | .PWR_TIMER_1 => true
  | .PWR_STATUS => false
  | .PWR_REFUSE => false
  | .PWR_WAKE_EN => false
  | .PWR_WAKE_CAUSE => false
  | .SEI_TIME_LO => false
  | .SEI_TIME_HI => false
  | .SEI_STATUS => false
  | .SEI_UNCERT => false
  | .SEI_CTL => true
  | .OUTFALL_STATE => false
  | .SEI_CAL => false
  | .BELT_CTL _ => true
  | .BELT_POS_LO _ => false
  | .BELT_POS_HI _ => false
  | .BELT_RATE _ => false
  | .BELT_STATUS _ => false
  | .BELT_ZCFG _ => true
  | .BELT_ARM _ => true
  | .BELT_STOP _ => true
  | .INLET_CTL _ => true
  | .TRK_CTL => false
  | .TRK_STATUS => false
  | .TRK_CFG2 => false
  | .TRK_SPILL => false
  | .TRK_WAKE_KEY => false
  | .TRK_PEER_MAC_LO => false
  | .TRK_PEER_MAC_HI => false
  | .PTP_CTL => false
  | .PTP_LAT _ => false
  | .TRK_ERR _ => false
  | .DOOR_STATUS _ => false
  | .DOOR_EVT _ => false
  | .MBX_CTL => false
  | .POND_STATUS => false
  | .POND_FREE => false
  | .POND_WAIT => false
  | .POND_POISONED => false
  | .POND_LOW_MARK => true
  | .POND_SCRUB => true
  | .POND_ERR_CID => false
  | .POND_CE_COUNT => false
  | .POND_QSUM => false
  | .HOLDER_QUOTA _ => false
  | .HOLDER_USED _ => false
  | .ENG_CACHE _ => false
  | .CW_CTL => false
  | .CW_REF => false
  | .CW_CALC => false
  | .CW_STATUS => false
  | .CW_PAR_ADDR => false
  | .CW_BLK _ => false
  | .BEAD_STATUS => false
  | .BEAD_CNT => false
  | .SVC_STATUS => false
  | .SVC_PROF_CTL _ => true
  | .SVC_PROF_TERM _ => true
  | .SVC_PROF_LINE _ => true
  | .XSPI_ADDR => false
  | .XSPI_CMD => false
  | .XSPI_STATUS => false
  | .XSPI_DATA _ => false
  | .DROP_CTL _ => true
  | .DROP_STATUS _ => false
  | .DROP_SUSP _ => true
  | .DROP_SCHED _ => false
  | .DROP_FRAME _ => true
  | .DROP_WEIR _ => true
  | .DROP_XFER_ERR _ => false
  | .DROP_PARISON _ => true
  | .SVC_PORT _ => true
  | .PIN_CFG _ => false
  | .PD_CFG _ => true
  | .PD_CAPS _ => false
  | .PD_LIMIT _ => false
  | .PD_TIMING _ => false
  | .PD_STATUS _ => false
  | .PD_VOUT _ => false
  | .LINE_CTL _ => true
  | .LINE_NBT _ => true
  | .LINE_DBT _ => true
  | .LINE_TDC _ => true
  | .LINE_ERR _ => false
  | .LINE_WARN _ => true
  | .LINE_POLL _ => true
  | .LINE_HOLD _ => true
  | .LINE_CNT _ => false
  | .LINE_FLT_ID _ _ => true
  | .LINE_FLT_MASK _ _ => true
  | .CH_CMD _ => false
  | .CH_CFG _ => true
  | .CH_SENSE _ => true
  | .CH_INRUSH _ => true
  | .CH_LIMIT _ => true
  | .CH_SUSP _ => true
  | .CH_CURVE _ _ => true
  | .CH_STATUS _ => false
  | .CH_MEAS _ => false
  | .RAIL_CFG _ => true
  | .RAIL_BUDGET _ => false
  | .RAIL_STATUS _ => false
  | .RAIL_MEAS _ => false

/-- The domain a register lives in (R289, R319). -/
def Reg.dom : Reg → Dom
  | .GLB_ID => .compute
  | .GLB_SERIAL_LO => .compute
  | .GLB_SERIAL_HI => .compute
  | .GLB_STRAP => .compute
  | .GLB_FAULT => .compute
  | .GLB_FAULT_EN => .compute
  | .GLB_ALERT_EN => .compute
  | .GLB_SCRATCH => .compute
  | .INT_QPTR => .compute
  | .INT_RES => .compute
  | .INT_CRC => .compute
  | .ESC_LAST => .compute
  | .ENG_CFG => .compute
  | .ENG_QUAR _ => .compute
  | .ENG_BASIN _ => .compute
  | .MEAS _ _ => .compute
  | .MEAS_EXT_DATA _ => .compute
  | .MEAS_EXT_CTL => .compute
  | .BOOT_STATUS => .compute
  | .BOOT_CTL => .compute
  | .BOOT_OVR => .aon
  | .ATT_NONCE _ => .compute
  | .ATT_CTL => .compute
  | .ATT_QUOTE _ => .compute
  | .KEY_UNLOCK => .compute
  | .KEY_STATUS => .compute
  | .CLK_CTL => .compute
  | .CLK_STATUS => .compute
  | .RST_CMD => .compute
  | .RST_CAUSE => .aon
  | .CDC_OVR => .compute
  | .CDC_WAKE_MODE => .aon
  | .PWR_CTL => .compute
  | .PWR_LTR => .compute
  | .PWR_TIMER_0 => .compute
  | .PWR_TIMER_1 => .compute
  | .PWR_STATUS => .compute
  | .PWR_REFUSE => .compute
  | .PWR_WAKE_EN => .aon
  | .PWR_WAKE_CAUSE => .aon
  | .SEI_TIME_LO => .compute
  | .SEI_TIME_HI => .compute
  | .SEI_STATUS => .compute
  | .SEI_UNCERT => .compute
  | .SEI_CTL => .compute
  | .OUTFALL_STATE => .compute
  | .SEI_CAL => .compute
  | .BELT_CTL _ => .compute
  | .BELT_POS_LO _ => .compute
  | .BELT_POS_HI _ => .compute
  | .BELT_RATE _ => .compute
  | .BELT_STATUS _ => .compute
  | .BELT_ZCFG _ => .compute
  | .BELT_ARM _ => .compute
  | .BELT_STOP _ => .compute
  | .INLET_CTL _ => .compute
  | .TRK_CTL => .compute
  | .TRK_STATUS => .compute
  | .TRK_CFG2 => .compute
  | .TRK_SPILL => .compute
  | .TRK_WAKE_KEY => .compute
  | .TRK_PEER_MAC_LO => .compute
  | .TRK_PEER_MAC_HI => .compute
  | .PTP_CTL => .compute
  | .PTP_LAT _ => .compute
  | .TRK_ERR _ => .compute
  | .DOOR_STATUS _ => .compute
  | .DOOR_EVT _ => .compute
  | .MBX_CTL => .compute
  | .POND_STATUS => .compute
  | .POND_FREE => .compute
  | .POND_WAIT => .compute
  | .POND_POISONED => .compute
  | .POND_LOW_MARK => .compute
  | .POND_SCRUB => .compute
  | .POND_ERR_CID => .compute
  | .POND_CE_COUNT => .compute
  | .POND_QSUM => .compute
  | .HOLDER_QUOTA _ => .compute
  | .HOLDER_USED _ => .compute
  | .ENG_CACHE _ => .compute
  | .CW_CTL => .compute
  | .CW_REF => .compute
  | .CW_CALC => .compute
  | .CW_STATUS => .compute
  | .CW_PAR_ADDR => .compute
  | .CW_BLK _ => .compute
  | .BEAD_STATUS => .compute
  | .BEAD_CNT => .compute
  | .SVC_STATUS => .compute
  | .SVC_PROF_CTL _ => .compute
  | .SVC_PROF_TERM _ => .compute
  | .SVC_PROF_LINE _ => .compute
  | .XSPI_ADDR => .compute
  | .XSPI_CMD => .compute
  | .XSPI_STATUS => .compute
  | .XSPI_DATA _ => .compute
  | .DROP_CTL _ => .compute
  | .DROP_STATUS _ => .compute
  | .DROP_SUSP _ => .compute
  | .DROP_SCHED _ => .compute
  | .DROP_FRAME _ => .compute
  | .DROP_WEIR _ => .compute
  | .DROP_XFER_ERR _ => .compute
  | .DROP_PARISON _ => .compute
  | .SVC_PORT _ => .compute
  | .PIN_CFG _ => .compute
  | .PD_CFG _ => .compute
  | .PD_CAPS _ => .compute
  | .PD_LIMIT _ => .compute
  | .PD_TIMING _ => .compute
  | .PD_STATUS _ => .compute
  | .PD_VOUT _ => .compute
  | .LINE_CTL _ => .compute
  | .LINE_NBT _ => .compute
  | .LINE_DBT _ => .compute
  | .LINE_TDC _ => .compute
  | .LINE_ERR _ => .compute
  | .LINE_WARN _ => .compute
  | .LINE_POLL _ => .compute
  | .LINE_HOLD _ => .compute
  | .LINE_CNT _ => .compute
  | .LINE_FLT_ID _ _ => .compute
  | .LINE_FLT_MASK _ _ => .compute
  | .CH_CMD _ => .fuse
  | .CH_CFG _ => .fuse
  | .CH_SENSE _ => .fuse
  | .CH_INRUSH _ => .fuse
  | .CH_LIMIT _ => .fuse
  | .CH_SUSP _ => .fuse
  | .CH_CURVE _ _ => .fuse
  | .CH_STATUS _ => .fuse
  | .CH_MEAS _ => .fuse
  | .RAIL_CFG _ => .fuse
  | .RAIL_BUDGET _ => .fuse
  | .RAIL_STATUS _ => .fuse
  | .RAIL_MEAS _ => .fuse

/-- One row of the block map: registers at `base + s1 * i + s2 * j` for i < n1, j < n2, and their names. -/
structure RegFam where
  base : Nat
  s1 : Nat
  n1 : Nat
  s2 : Nat
  n2 : Nat
  reg : Nat → Nat → Reg

/-- The register of a family at an address, if it is one of the family's. -/
def RegFam.hit (f : RegFam) (a : Nat) : Option Reg :=
  if f.base ≤ a then
    let d := a - f.base
    let i := d / f.s1
    let j := (d % f.s1) / f.s2
    if i < f.n1 ∧ j < f.n2 ∧ (d % f.s1) % f.s2 = 0 then some (f.reg i j) else none
  else none

/-- Part 1 of the block map in ascending address order. -/
def regFams1 : List RegFam := [
  ⟨0x00000000, 4, 1, 4, 1, fun _ _ => .GLB_ID⟩,
  ⟨0x00000004, 4, 1, 4, 1, fun _ _ => .GLB_SERIAL_LO⟩,
  ⟨0x00000008, 4, 1, 4, 1, fun _ _ => .GLB_SERIAL_HI⟩,
  ⟨0x0000000C, 4, 1, 4, 1, fun _ _ => .GLB_STRAP⟩,
  ⟨0x00000010, 4, 1, 4, 1, fun _ _ => .GLB_FAULT⟩,
  ⟨0x00000014, 4, 1, 4, 1, fun _ _ => .GLB_FAULT_EN⟩,
  ⟨0x00000018, 4, 1, 4, 1, fun _ _ => .GLB_ALERT_EN⟩,
  ⟨0x0000001C, 4, 1, 4, 1, fun _ _ => .GLB_SCRATCH⟩,
  ⟨0x00000020, 4, 1, 4, 1, fun _ _ => .INT_QPTR⟩,
  ⟨0x00000024, 4, 1, 4, 1, fun _ _ => .INT_RES⟩,
  ⟨0x00000028, 4, 1, 4, 1, fun _ _ => .INT_CRC⟩,
  ⟨0x00000030, 4, 1, 4, 1, fun _ _ => .ESC_LAST⟩,
  ⟨0x00000040, 4, 1, 4, 1, fun _ _ => .ENG_CFG⟩,
  ⟨0x00000100, 0x8, 16, 4, 1, fun i _ => .ENG_QUAR (Fin.ofNat 16 i)⟩,
  ⟨0x00000104, 0x8, 16, 4, 1, fun i _ => .ENG_BASIN (Fin.ofNat 16 i)⟩,
  ⟨0x00000400, 0x30, 8, 0x4, 12, fun i j => .MEAS (Fin.ofNat 8 i) (Fin.ofNat 12 j)⟩,
  ⟨0x00000580, 0x4, 12, 4, 1, fun i _ => .MEAS_EXT_DATA (Fin.ofNat 12 i)⟩,
  ⟨0x000005B0, 4, 1, 4, 1, fun _ _ => .MEAS_EXT_CTL⟩,
  ⟨0x000005C0, 4, 1, 4, 1, fun _ _ => .BOOT_STATUS⟩,
  ⟨0x000005C4, 4, 1, 4, 1, fun _ _ => .BOOT_CTL⟩,
  ⟨0x000005C8, 4, 1, 4, 1, fun _ _ => .BOOT_OVR⟩,
  ⟨0x00000600, 0x4, 8, 4, 1, fun i _ => .ATT_NONCE (Fin.ofNat 8 i)⟩,
  ⟨0x00000620, 4, 1, 4, 1, fun _ _ => .ATT_CTL⟩,
  ⟨0x00000700, 0x4, 144, 4, 1, fun i _ => .ATT_QUOTE (Fin.ofNat 144 i)⟩,
  ⟨0x00010000, 4, 1, 4, 1, fun _ _ => .KEY_UNLOCK⟩,
  ⟨0x00010004, 4, 1, 4, 1, fun _ _ => .KEY_STATUS⟩,
  ⟨0x00020000, 4, 1, 4, 1, fun _ _ => .CLK_CTL⟩,
  ⟨0x00020004, 4, 1, 4, 1, fun _ _ => .CLK_STATUS⟩,
  ⟨0x00020010, 4, 1, 4, 1, fun _ _ => .RST_CMD⟩,
  ⟨0x00020014, 4, 1, 4, 1, fun _ _ => .RST_CAUSE⟩,
  ⟨0x00020020, 4, 1, 4, 1, fun _ _ => .CDC_OVR⟩,
  ⟨0x00020024, 4, 1, 4, 1, fun _ _ => .CDC_WAKE_MODE⟩,
  ⟨0x00030000, 4, 1, 4, 1, fun _ _ => .PWR_CTL⟩,
  ⟨0x00030004, 4, 1, 4, 1, fun _ _ => .PWR_LTR⟩,
  ⟨0x00030008, 4, 1, 4, 1, fun _ _ => .PWR_TIMER_0⟩,
  ⟨0x0003000C, 4, 1, 4, 1, fun _ _ => .PWR_TIMER_1⟩,
  ⟨0x00030010, 4, 1, 4, 1, fun _ _ => .PWR_STATUS⟩,
  ⟨0x00030014, 4, 1, 4, 1, fun _ _ => .PWR_REFUSE⟩,
  ⟨0x00030020, 4, 1, 4, 1, fun _ _ => .PWR_WAKE_EN⟩,
  ⟨0x00030024, 4, 1, 4, 1, fun _ _ => .PWR_WAKE_CAUSE⟩]

/-- Part 2 of the block map in ascending address order. -/
def regFams2 : List RegFam := [
  ⟨0x00040000, 4, 1, 4, 1, fun _ _ => .SEI_TIME_LO⟩,
  ⟨0x00040004, 4, 1, 4, 1, fun _ _ => .SEI_TIME_HI⟩,
  ⟨0x00040008, 4, 1, 4, 1, fun _ _ => .SEI_STATUS⟩,
  ⟨0x0004000C, 4, 1, 4, 1, fun _ _ => .SEI_UNCERT⟩,
  ⟨0x00040010, 4, 1, 4, 1, fun _ _ => .SEI_CTL⟩,
  ⟨0x00040014, 4, 1, 4, 1, fun _ _ => .OUTFALL_STATE⟩,
  ⟨0x00040018, 4, 1, 4, 1, fun _ _ => .SEI_CAL⟩,
  ⟨0x00040100, 0x20, 16, 4, 1, fun i _ => .BELT_CTL (Fin.ofNat 16 i)⟩,
  ⟨0x00040104, 0x20, 16, 4, 1, fun i _ => .BELT_POS_LO (Fin.ofNat 16 i)⟩,
  ⟨0x00040108, 0x20, 16, 4, 1, fun i _ => .BELT_POS_HI (Fin.ofNat 16 i)⟩,
  ⟨0x0004010C, 0x20, 16, 4, 1, fun i _ => .BELT_RATE (Fin.ofNat 16 i)⟩,
  ⟨0x00040110, 0x20, 16, 4, 1, fun i _ => .BELT_STATUS (Fin.ofNat 16 i)⟩,
  ⟨0x00040114, 0x20, 16, 4, 1, fun i _ => .BELT_ZCFG (Fin.ofNat 16 i)⟩,
  ⟨0x00040118, 0x20, 16, 4, 1, fun i _ => .BELT_ARM (Fin.ofNat 16 i)⟩,
  ⟨0x0004011C, 0x20, 16, 4, 1, fun i _ => .BELT_STOP (Fin.ofNat 16 i)⟩,
  ⟨0x00040400, 0x4, 32, 4, 1, fun i _ => .INLET_CTL (Fin.ofNat 32 i)⟩,
  ⟨0x00050000, 4, 1, 4, 1, fun _ _ => .TRK_CTL⟩,
  ⟨0x00050004, 4, 1, 4, 1, fun _ _ => .TRK_STATUS⟩,
  ⟨0x00050008, 4, 1, 4, 1, fun _ _ => .TRK_CFG2⟩,
  ⟨0x00050010, 4, 1, 4, 1, fun _ _ => .TRK_SPILL⟩,
  ⟨0x00050018, 4, 1, 4, 1, fun _ _ => .TRK_WAKE_KEY⟩,
  ⟨0x0005001C, 4, 1, 4, 1, fun _ _ => .TRK_PEER_MAC_LO⟩,
  ⟨0x00050020, 4, 1, 4, 1, fun _ _ => .TRK_PEER_MAC_HI⟩,
  ⟨0x00050024, 4, 1, 4, 1, fun _ _ => .PTP_CTL⟩,
  ⟨0x00050028, 0x4, 2, 4, 1, fun i _ => .PTP_LAT (Fin.ofNat 2 i)⟩,
  ⟨0x00050030, 0x4, 2, 4, 1, fun i _ => .TRK_ERR (Fin.ofNat 2 i)⟩,
  ⟨0x00060000, 0x10, 8, 4, 1, fun i _ => .DOOR_STATUS (Fin.ofNat 8 i)⟩,
  ⟨0x00060004, 0x10, 8, 4, 1, fun i _ => .DOOR_EVT (Fin.ofNat 8 i)⟩,
  ⟨0x00060100, 4, 1, 4, 1, fun _ _ => .MBX_CTL⟩,
  ⟨0x00070000, 4, 1, 4, 1, fun _ _ => .POND_STATUS⟩,
  ⟨0x00070004, 4, 1, 4, 1, fun _ _ => .POND_FREE⟩,
  ⟨0x00070008, 4, 1, 4, 1, fun _ _ => .POND_WAIT⟩,
  ⟨0x0007000C, 4, 1, 4, 1, fun _ _ => .POND_POISONED⟩,
  ⟨0x00070010, 4, 1, 4, 1, fun _ _ => .POND_LOW_MARK⟩,
  ⟨0x00070014, 4, 1, 4, 1, fun _ _ => .POND_SCRUB⟩,
  ⟨0x00070018, 4, 1, 4, 1, fun _ _ => .POND_ERR_CID⟩,
  ⟨0x0007001C, 4, 1, 4, 1, fun _ _ => .POND_CE_COUNT⟩,
  ⟨0x00070020, 4, 1, 4, 1, fun _ _ => .POND_QSUM⟩,
  ⟨0x00070100, 0x8, 99, 4, 1, fun i _ => .HOLDER_QUOTA (Fin.ofNat 99 i)⟩,
  ⟨0x00070104, 0x8, 99, 4, 1, fun i _ => .HOLDER_USED (Fin.ofNat 99 i)⟩]

/-- Part 3 of the block map in ascending address order. -/
def regFams3 : List RegFam := [
  ⟨0x00071000, 0x4, 512, 4, 1, fun i _ => .ENG_CACHE (Fin.ofNat 512 i)⟩,
  ⟨0x00080000, 4, 1, 4, 1, fun _ _ => .CW_CTL⟩,
  ⟨0x00080004, 4, 1, 4, 1, fun _ _ => .CW_REF⟩,
  ⟨0x00080008, 4, 1, 4, 1, fun _ _ => .CW_CALC⟩,
  ⟨0x0008000C, 4, 1, 4, 1, fun _ _ => .CW_STATUS⟩,
  ⟨0x00080010, 4, 1, 4, 1, fun _ _ => .CW_PAR_ADDR⟩,
  ⟨0x00080100, 0x4, 12, 4, 1, fun i _ => .CW_BLK (Fin.ofNat 12 i)⟩,
  ⟨0x00090000, 4, 1, 4, 1, fun _ _ => .BEAD_STATUS⟩,
  ⟨0x00090004, 4, 1, 4, 1, fun _ _ => .BEAD_CNT⟩,
  ⟨0x000A0000, 4, 1, 4, 1, fun _ _ => .SVC_STATUS⟩,
  ⟨0x000A0100, 0x10, 16, 4, 1, fun i _ => .SVC_PROF_CTL (Fin.ofNat 16 i)⟩,
  ⟨0x000A0104, 0x10, 16, 4, 1, fun i _ => .SVC_PROF_TERM (Fin.ofNat 16 i)⟩,
  ⟨0x000A0108, 0x10, 16, 4, 1, fun i _ => .SVC_PROF_LINE (Fin.ofNat 16 i)⟩,
  ⟨0x000B0000, 4, 1, 4, 1, fun _ _ => .XSPI_ADDR⟩,
  ⟨0x000B0004, 4, 1, 4, 1, fun _ _ => .XSPI_CMD⟩,
  ⟨0x000B0008, 4, 1, 4, 1, fun _ _ => .XSPI_STATUS⟩,
  ⟨0x000B0100, 0x4, 64, 4, 1, fun i _ => .XSPI_DATA (Fin.ofNat 64 i)⟩,
  ⟨0x00100000, 0x1000, 96, 4, 1, fun i _ => .DROP_CTL (Fin.ofNat 96 i)⟩,
  ⟨0x00100004, 0x1000, 96, 4, 1, fun i _ => .DROP_STATUS (Fin.ofNat 96 i)⟩,
  ⟨0x00100008, 0x1000, 96, 4, 1, fun i _ => .DROP_SUSP (Fin.ofNat 96 i)⟩,
  ⟨0x00100010, 0x1000, 96, 4, 1, fun i _ => .DROP_SCHED (Fin.ofNat 96 i)⟩,
  ⟨0x00100014, 0x1000, 96, 4, 1, fun i _ => .DROP_FRAME (Fin.ofNat 96 i)⟩,
  ⟨0x00100018, 0x1000, 96, 4, 1, fun i _ => .DROP_WEIR (Fin.ofNat 96 i)⟩,
  ⟨0x0010001C, 0x1000, 96, 4, 1, fun i _ => .DROP_XFER_ERR (Fin.ofNat 96 i)⟩,
  ⟨0x00100020, 0x1000, 96, 4, 1, fun i _ => .DROP_PARISON (Fin.ofNat 96 i)⟩,
  ⟨0x00100040, 0x1000, 96, 4, 1, fun i _ => .SVC_PORT (Fin.ofNat 96 i)⟩,
  ⟨0x001000FC, 0x1000, 96, 4, 1, fun i _ => .PIN_CFG (Fin.ofNat 96 i)⟩,
  ⟨0x00100100, 0x1000, 96, 4, 1, fun i _ => .PD_CFG (Fin.ofNat 96 i)⟩,
  ⟨0x00100104, 0x1000, 96, 4, 1, fun i _ => .PD_CAPS (Fin.ofNat 96 i)⟩,
  ⟨0x00100108, 0x1000, 96, 4, 1, fun i _ => .PD_LIMIT (Fin.ofNat 96 i)⟩,
  ⟨0x0010010C, 0x1000, 96, 4, 1, fun i _ => .PD_TIMING (Fin.ofNat 96 i)⟩,
  ⟨0x00100110, 0x1000, 96, 4, 1, fun i _ => .PD_STATUS (Fin.ofNat 96 i)⟩,
  ⟨0x00100114, 0x1000, 96, 4, 1, fun i _ => .PD_VOUT (Fin.ofNat 96 i)⟩,
  ⟨0x00100200, 0x1000, 96, 4, 1, fun i _ => .LINE_CTL (Fin.ofNat 96 i)⟩,
  ⟨0x00100204, 0x1000, 96, 4, 1, fun i _ => .LINE_NBT (Fin.ofNat 96 i)⟩,
  ⟨0x00100208, 0x1000, 96, 4, 1, fun i _ => .LINE_DBT (Fin.ofNat 96 i)⟩,
  ⟨0x0010020C, 0x1000, 96, 4, 1, fun i _ => .LINE_TDC (Fin.ofNat 96 i)⟩,
  ⟨0x00100210, 0x1000, 96, 4, 1, fun i _ => .LINE_ERR (Fin.ofNat 96 i)⟩,
  ⟨0x00100214, 0x1000, 96, 4, 1, fun i _ => .LINE_WARN (Fin.ofNat 96 i)⟩,
  ⟨0x00100218, 0x1000, 96, 4, 1, fun i _ => .LINE_POLL (Fin.ofNat 96 i)⟩]

/-- Part 4 of the block map in ascending address order. -/
def regFams4 : List RegFam := [
  ⟨0x0010021C, 0x1000, 96, 4, 1, fun i _ => .LINE_HOLD (Fin.ofNat 96 i)⟩,
  ⟨0x00100220, 0x1000, 96, 4, 1, fun i _ => .LINE_CNT (Fin.ofNat 96 i)⟩,
  ⟨0x00100300, 0x1000, 96, 0x8, 32, fun i j => .LINE_FLT_ID (Fin.ofNat 96 i) (Fin.ofNat 32 j)⟩,
  ⟨0x00100304, 0x1000, 96, 0x8, 32, fun i j => .LINE_FLT_MASK (Fin.ofNat 96 i) (Fin.ofNat 32 j)⟩,
  ⟨0x00180000, 0x100, 96, 4, 1, fun i _ => .CH_CMD (Fin.ofNat 96 i)⟩,
  ⟨0x00180004, 0x100, 96, 4, 1, fun i _ => .CH_CFG (Fin.ofNat 96 i)⟩,
  ⟨0x00180008, 0x100, 96, 4, 1, fun i _ => .CH_SENSE (Fin.ofNat 96 i)⟩,
  ⟨0x0018000C, 0x100, 96, 4, 1, fun i _ => .CH_INRUSH (Fin.ofNat 96 i)⟩,
  ⟨0x00180010, 0x100, 96, 4, 1, fun i _ => .CH_LIMIT (Fin.ofNat 96 i)⟩,
  ⟨0x00180014, 0x100, 96, 4, 1, fun i _ => .CH_SUSP (Fin.ofNat 96 i)⟩,
  ⟨0x00180020, 0x100, 96, 0x4, 8, fun i j => .CH_CURVE (Fin.ofNat 96 i) (Fin.ofNat 8 j)⟩,
  ⟨0x00180040, 0x100, 96, 4, 1, fun i _ => .CH_STATUS (Fin.ofNat 96 i)⟩,
  ⟨0x00180044, 0x100, 96, 4, 1, fun i _ => .CH_MEAS (Fin.ofNat 96 i)⟩,
  ⟨0x00186000, 0x100, 8, 4, 1, fun i _ => .RAIL_CFG (Fin.ofNat 8 i)⟩,
  ⟨0x00186004, 0x100, 8, 4, 1, fun i _ => .RAIL_BUDGET (Fin.ofNat 8 i)⟩,
  ⟨0x00186008, 0x100, 8, 4, 1, fun i _ => .RAIL_STATUS (Fin.ofNat 8 i)⟩,
  ⟨0x0018600C, 0x100, 8, 4, 1, fun i _ => .RAIL_MEAS (Fin.ofNat 8 i)⟩]

/-- The block map (R309). -/
def regFams : List RegFam := regFams1 ++ regFams2 ++ regFams3 ++ regFams4

/-- The register at a byte address; none where the address is unmapped (R309). -/
def Reg.ofAddr (a : Nat) : Option Reg := regFams.findSome? (fun f => f.hit a)

/-- Every register of one family, in address order. -/
def RegFam.all (f : RegFam) : List Reg :=
  (List.range f.n1).flatMap (fun i => (List.range f.n2).map (fun j => f.reg i j))

/-- A field's value in a word. -/
def fget (w : BitVec 32) (f : Field) : Nat := (w.extractLsb' f.lo (f.hi + 1 - f.lo)).toNat

/-- The mask of a field's bits. -/
def fmask (f : Field) : BitVec 32 := BitVec.ofNat 32 ((2 ^ (f.hi + 1 - f.lo) - 1) <<< f.lo)

/-- A word with one field replaced; the value is taken modulo the field's size. -/
def fset (w : BitVec 32) (f : Field) (v : Nat) : BitVec 32 :=
  (w &&& ~~~(fmask f)) ||| ((BitVec.ofNat 32 v <<< f.lo) &&& fmask f)

/-- The bits of a register whose fields have an access type satisfying `p`. -/
def Reg.maskOf (r : Reg) (p : Acc → Bool) : BitVec 32 :=
  r.fields.foldl (fun m f => if p f.acc then m ||| fmask f else m) 0#32

/-- The reserved bits of a register (R318). -/
def Reg.rcMask (r : Reg) : BitVec 32 := ~~~(r.maskOf (fun _ => true))

/-- A register holding any key-guarded field (R314). -/
def Reg.hasK (r : Reg) : Bool := r.fields.any (fun f => f.acc == .k)

end Sys2Proof.Machine
end

