-- ==== Sys2Proof/Machine/State.lean ====
section
/-! DEFINITION. The state of the UH9600 as plain data: the register file, the typed state of every block, and the queue
of commands that wait. Each field's comment names the rule of spec/ that gives it and its value after reset. -/

namespace Sys2Proof.Machine

/-! ### Doors, requests, responses and events (06) -/

/-- The path a door is claimed over (R128). -/
inductive Path where
  | trunk | svc
deriving DecidableEq, Repr

/-- The 64-byte request of R132. -/
structure Request where
  opcode : BitVec 16
  tag : BitVec 16
  doorEpoch : BitVec 16
  tgtKind : Nat
  flags : Byte
  tgtIndex : Nat
  tgtEpoch : BitVec 16
  args : List Byte
deriving DecidableEq, Repr

/-- Progress of a ring entry (R75, R133): pending, executing, or answered and waiting for transmission. -/
inductive ReqSt where
  | pending | executing | done
deriving DecidableEq, Repr

/-- A request-ring entry (R133): `num` is REQ_NUM (R136), `ord` the order of acceptance over all doors (R144), `bump`
says that its own acceptance incremented its target's epoch (R141), `path` is the path it arrived on. -/
structure ReqEntry where
  req : Request
  path : Path
  num : Nat
  ord : Nat
  bump : Bool
  st : ReqSt
deriving DecidableEq, Repr

/-- One part of a response (R136). `data` holds the named values of the opcode's response data, in the order of its
table; the part carries bytes 48 × part onward of them, `dataLen` of them valid where the manual gives sizes. `path`
is the path it leaves on; `frees` the ring entry whose response it ends (R133). -/
structure RspPart where
  path : Path
  frees : Option Nat
  opcode : BitVec 16
  tag : BitVec 16
  result : Nat
  parts : Nat
  part : Nat
  tgtEpoch : BitVec 16
  dataLen : Nat
  reqNum : Nat
  data : List Nat
deriving DecidableEq, Repr

/-- An event (R137). `payload` holds the named values of the code's payload, in the order of its table. -/
structure Event where
  code : Nat
  flags : Nat := 0
  srcKind : Nat := 0
  seq : BitVec 32 := 0#32
  time : BitVec 64 := 0#64
  index : Nat := 0
  epoch : BitVec 16 := 0#16
  result : Nat := 0
  payload : List Nat := []
deriving DecidableEq, Repr

/-- A cullet entry (R143). `item` holds the item's bytes where it has a byte layout. -/
structure Cullet where
  source : Nat
  result : Nat
  expected : BitVec 16
  current : BitVec 16
  time : BitVec 64
  item : List Byte
deriving DecidableEq, Repr

/-- The events dropped at a full ring and not yet reported (R139). -/
structure LostRun where
  first : BitVec 32
  last : BitVec 32
  count : Nat
deriving DecidableEq, Repr

/-- A DOOR_CLAIM with FORCE that waits for the end of the release it caused (R129, R131). -/
structure Takeover where
  req : ReqId
  owner : BitVec 64
  sub : BitVec 16
deriving DecidableEq, Repr

/-- One mailbox door (R128 to R143). -/
structure DoorSt where
  /-- R128; unclaimed at reset. -/
  path : Option Path := none
  /-- R129, 64 bits; 0 (DESIGN CHOICE, no rule reads it before a claim). -/
  owner : BitVec 64 := 0#64
  /-- R140, 16 bits; 0x0000. -/
  epoch : BitVec 16 := 0#16
  /-- R137, 16 bits; 0 (DESIGN CHOICE, set by DOOR_CLAIM). -/
  sub : BitVec 16 := 0#16
  /-- R130: the moment the lease period runs from. -/
  leaseFrom : Nat := 0
  /-- R131: a release that waits for executing requests, with its cause. -/
  releasing : Option Nat := none
  /-- R129: a forced claim that waits for the release: its request, OWNER and mask. -/
  takeover : Option Takeover := none
  /-- R131: the DOOR_RELEASE that made the release, answered once no other request executes. -/
  releaseReq : Option ReqId := none
  /-- R133: the request ring, 256 entries, oldest first; empty. -/
  reqs : List ReqEntry := []
  /-- R136: the response ring, 256 entries; empty. -/
  rsps : List RspPart := []
  /-- R136: parts that wait for a free entry; empty. -/
  rspWait : List RspPart := []
  /-- R138: the event ring, 4,096 entries; empty. -/
  evts : List Event := []
  /-- R336: events raised in Sleep or Deep sleep, which enter the ring after PWR_STATE. -/
  queued : List Event := []
  /-- R138: how many of the held events have been sent; 0. -/
  sent : Nat := 0
  /-- R137: the next event SEQ; 0. -/
  evtSeq : BitVec 32 := 0#32
  /-- R139: drops not yet reported; none. -/
  lost : Option LostRun := none
  /-- DOOR_EVT.LOST (06); 0. -/
  lostCount : Nat := 0
  /-- R345: the next event carries GAP. -/
  gapNext : Bool := false
  /-- R143: the cullet queue, 64 entries; empty. -/
  cullet : List Cullet := []
  /-- R143: items dropped at a full cullet queue; 0. -/
  culletLost : Nat := 0
  /-- R136: requests that entered the ring since the claim; 0. -/
  reqNum : Nat := 0
  /-- R133: requests ignored on the wrong path; 0. -/
  ignored : Nat := 0
deriving DecidableEq, Repr

/-- Where an event goes (R129, R131, R137, R143): to every subscribed door, to one door, to the door that made the
object while it is claimed, to every subscribed door but one, or to every claimed door but one. -/
inductive Route where
  | subs | door (d : Door) | owner (d : Option Door) | except (d : Door) | others (d : Door)
deriving DecidableEq, Repr

/-- An open rate-limit window (R378): the held-back occurrence and how many there were since the last posted event. -/
structure RateWin where
  code : Nat
  src : Nat
  interval : Nat
  ends : Nat
  held : Option Event
  count : Nat
  countPos : Option Nat
  route : Route
deriving DecidableEq, Repr

/-! ### Streams, records and services (09 R201 to R203, 10) -/

/-- STATE of a parison word (R201). -/
inductive RecSt where
  | opened | closed | cullet
deriving DecidableEq, Repr

/-- The 48-byte record header (R210); positions by belt slot. -/
structure RecHdr where
  time : BitVec 64
  kind : Nat
  rflags : Nat
  iface : Nat
  route : Nat
  bind : Nat
  belts : List Nat
  pos : List Pos
deriving DecidableEq, Repr

/-- A record in a stream's Reservoir queue (R201); `owner` is the port, route and interface of its producer. -/
structure Rec where
  st : RecSt
  flags : Nat
  src : Nat
  hdr : RecHdr
  data : List Byte
  openedAt : Nat
  owner : Nat × Nat × Nat
  /-- R200: a body without the service header (an SOF stamp record). -/
  raw : Bool := false
deriving DecidableEq, Repr

/-- An open stream (R114, R120, R121): its context, its opener, its queue and its host-to-device credit. -/
structure Strm where
  id : BitVec 16
  cid : Nat
  gen : Byte
  door : Door
  port : Port
  depth : Nat
  weight : Nat
  recs : List Rec
  weir : Bool
  /-- R121: host-to-device messages not yet consumed, oldest first. -/
  inbound : List (List Byte)
  received : Nat
  credit : Word
  overrun : Nat
  /-- R120: bytes that the round robin still owes the stream. -/
  deficit : Nat := 0
  /-- R163: closed, with records still to be sent. -/
  closed : Bool
  /-- R217: bytes of a job cut short that are still to arrive, and to be discarded. -/
  skip : Nat := 0
deriving DecidableEq, Repr

/-- A match rule (R208 table). -/
structure MatchRule where
  cls : Byte
  sub : Byte
  proto : Byte
  mask : Byte
  vid : BitVec 16
  pid : BitVec 16
  portFirst : Nat
  portLast : Nat
  kind : Nat
  profile : Nat
  stream : BitVec 16
  out : BitVec 16
deriving DecidableEq, Repr

/-- A binding rule kept by PERSIST (R207). -/
structure BindRule where
  port : Port
  route : BitVec 20
  iface : Nat
  kind : Nat
  profile : Nat
  stream : BitVec 16
  out : BitVec 16
  door : Option Door
deriving DecidableEq, Repr

/-- Why a binding is not in force: pending with its cause (event SVC_BIND_PENDING), or its set-up requests run (R208 step 3). -/
inductive PendCause where
  | pondFull | overQuota | noStream | headspring | setup
deriving DecidableEq, Repr

/-- A binding, in force or pending (R207, R208); the SERVICE body fields of 10 stand in its context. -/
structure Bind where
  port : Port
  route : BitVec 20
  iface : Nat
  kind : Nat
  profile : Nat
  stream : BitVec 16
  out : BitVec 16
  door : Option Door
  pending : Option PendCause
  cid : Nat
  gen : Byte
  prev : List Byte
  /-- R211, R219: SVC_PROF_CTL, SVC_PROF_TERM and keymap as captured at the record open. -/
  ctl : Word
  term : Word
  keys : List Byte
  /-- R211: the last data byte, for a terminator of two. -/
  lastByte : Option Byte
  discard : Bool
  lastData : Nat
  jobId : Nat
  jobLen : Nat
  jobAcked : Nat
  /-- R208: the set-up requests still to be sent, as SETUP packet and OUT data, and the SVC_BIND that waits for SVC_BOUND. -/
  setup : List (List Byte × List Byte) := []
  req : Option ReqId := none
  /-- R216: when GET_PORT_STATUS is next polled. -/
  pollAt : Nat := 0
deriving DecidableEq, Repr

/-- Service tables and bindings (R207, R213, R219). -/
structure SvcState where
  /-- R219: match rules in rule order; none. -/
  rules : List MatchRule := []
  /-- R207: binding rules, at most 256; none. -/
  bindRules : List BindRule := []
  /-- R213: keymaps loaded from a TABLES component, by index; none, so keymap 0 is the built-in one. -/
  keymaps : List (Nat × List Byte) := []
  /-- R219: CIDs of the table pages held in H_MGMT contexts; none. -/
  pages : List Nat := []
  /-- R163: service tables lost to an uncorrectable page, being rebuilt; no. -/
  rebuilding : Bool := false
  /-- R163: numbers of the table pages lost until the rebuild ends; none. -/
  lostPages : List Nat := []
  /-- The bank whose TABLES component was last applied (R163, R219). -/
  tablesBank : Option Nat := none
  binds : List Bind := []
  streams : List Strm := []
deriving DecidableEq, Repr

/-! ### Trunk (05) -/

/-- What a frame sent by the device carries: bytes, parts of a response, events, or bytes `first` onward of the records' bodies. -/
inductive TxBody where
  | bytes (b : List Byte)
  | rsps (r : List RspPart)
  | events (e : List Event)
  | records (r : List Rec) (first : Nat)
deriving DecidableEq, Repr

/-- A frame sent by the device (R110); `typ` 0 is a PTP message (R123). Its destination, 802.1Q tag and EtherType are those of
its lane at the sending (R106, R107). -/
structure TxFrame where
  typ : Nat
  id : Nat
  seq : BitVec 32
  epoch : BitVec 16
  flags : Nat
  length : Nat
  body : TxBody
  dst : BitVec 48 := 0#48
  tag : Option (BitVec 16) := none
  etherType : BitVec 16 := 0x88B5#16
deriving DecidableEq, Repr

/-- A device-sent sequence space (R114). -/
structure TxSpace where
  cls : Nat
  id : Nat
  next : BitVec 32
deriving DecidableEq, Repr

/-- A host-sent sequence space that is open (R114): last SEQ delivered, and the frames that wait in SEQ order, with the
moment and the lane of arrival. -/
structure RxSpace where
  cls : Nat
  id : Nat
  last : Option (BitVec 32)
  buf : List (Nat × LaneId × RxFrame)
deriving DecidableEq, Repr

/-- One lane (R106 to R118). UP and DEGR live in TRK_STATUS, error counts in TRK_ERR. -/
structure Lane where
  /-- R109: lost and not yet up again; a lane never up counts as lost. -/
  lost : Bool := true
  /-- R59, R66: held in lane-scope reset. -/
  held : Bool := false
  /-- R107: source of the most recent valid TTP frame; none. -/
  dest : Option (BitVec 48) := none
  /-- TRK_CTL.ETHERTYPE in force since the last lane-scope reset; 0x88B5. -/
  etherType : BitVec 16 := 0x88B5#16
  /-- TRK_CTL.FEC in force since the last lane-scope reset; off. -/
  fec : Bool := false
  /-- R106: the 802.1Q tag that configuration gives the lane; none. -/
  vlan : Option (BitVec 16) := none
  /-- R115: moments of the TTP CRC-32C failures of the last 1 ms, newest first; none. -/
  crcAt : List Nat := []
  /-- R120: the stream whose turn the transmitter's round robin stands at; none. -/
  turn : Option (BitVec 16) := none
  /-- R115: frames sent in the last 12 µs with the moment of sending, newest first; empty. -/
  hist : List (Nat × TxFrame) := []
  /-- R107: frames that wait for a destination; none. -/
  waiting : List TxFrame := []
  /-- R118: last ECHO round trip in ticks; 0. -/
  rtt : Nat := 0
  /-- R115: when a degraded lane counts as healthy; none. -/
  healthyAt : Option Nat := none
  /-- R117: when LANE_BACK is due; none. -/
  backAt : Option Nat := none
  /-- R123: Delay_Req of the present second and its start; 0. -/
  delayReqs : Nat := 0
  delayFrom : Nat := 0
  delayDropped : Nat := 0
  /-- R123: when the last Sync and the last Announce were sent; none. -/
  syncAt : Option Nat := none
  annAt : Option Nat := none
  /-- R123: sequence ids of Sync and Announce; 0 (DESIGN CHOICE). -/
  syncSeq : BitVec 16 := 0#16
  annSeq : BitVec 16 := 0#16
deriving DecidableEq, Repr

/-- A pending swap request of the device (R119). -/
structure SwapPend where
  lane : LaneId
  seq : BitVec 32
  deadline : Nat
  req : Option ReqId
deriving DecidableEq, Repr

/-- Tarn mode (R125): TIME and cause of entry, frames spilled since. -/
structure Tarn where
  entry : BitVec 64
  cause : Nat
deriving DecidableEq, Repr

/-- Frames of one space discarded at a full spill area (R126, R127). -/
structure SpillGap where
  cls : Nat
  id : Nat
  first : BitVec 32
  last : BitVec 32
deriving DecidableEq, Repr

/-- The trunk (05). Mode, degraded, up, active and swap bits live in TRK_CTL and TRK_STATUS. -/
structure Trunk where
  /-- R106: TA and TB. -/
  lanes : Vector Lane 2 := Vector.replicate 2 {}
  /-- R114: device-sent spaces that have sent; SEQ 0 elsewhere. -/
  tx : List TxSpace := []
  /-- R114: host-sent spaces that are open; none. -/
  rx : List RxSpace := []
  /-- R75: frames delivered in order and not yet taken; none. -/
  delivered : List (LaneId × RxFrame) := []
  /-- R116: the lane lost and the moment of its declaration, while failover runs. -/
  failover : Option (LaneId × Nat) := none
  /-- R116: when the last loss with the other lane up was declared: the recovery window's start; none. -/
  lossAt : Option Nat := none
  /-- R119: the swap request this side waits for. -/
  swap : Option SwapPend := none
  /-- R119: the lane that was active before the last swap and the moment of the swap; none. -/
  swapped : Option (LaneId × Nat) := none
  /-- R125: set while no lane is in service. -/
  tarn : Option Tarn := none
  /-- R126: the spill area, oldest first; empty. -/
  spill : List TxFrame := []
  /-- R351: spilling is stopped by its ladder. -/
  spillClosed : Bool := false
  /-- R126, R127: runs of frames that were discarded. -/
  gaps : List SpillGap := []
  /-- R126, R127: frames spilled since Tarn began. -/
  spilled : Nat := 0
  /-- R127: the lane on which the spill is being replayed, and the entry and exit ticks of the island that ended. -/
  replay : Option LaneId := none
  /-- R127: the begin and the end of the island time that TARN_EXIT reports. -/
  island : Option (BitVec 64 × BitVec 64) := none
  /-- R114: frames too far ahead of their space, discarded and counted. -/
  farAhead : Nat := 0
  /-- R336: by when a lane must be up after Deep sleep. -/
  laneBy : Option Nat := none
  /-- R123, R333: PTP paused. -/
  ptpPaused : Bool := false
deriving DecidableEq, Repr

/-- The service port as a USB device (R128, R183, R311). -/
structure SvcPort where
  address : Nat := 0
  config : Nat := 0
  suspendedAt : Option Nat := none
  rwake : Bool := false
  /-- R183: when remote-wake K was last driven from; none since the last resume. -/
  driving : Option Nat := none
deriving DecidableEq, Repr

/-! ### Clocks, resets, boot and firmware (03, 04) -/

/-- How far the device is after a device-scope reset (R65, R81, R85). -/
inductive Boot where
  | held | firmware | frcOnly | live | recovery
deriving DecidableEq, Repr

/-- A running reset narrower than device (R70): who waits for its RESET_DONE. -/
structure RunReset where
  sc : Scope
  waiters : List ReqId
  byReg : Bool
  /-- R69: CIDs whose cache entries failed parity. -/
  bad : List Nat
deriving DecidableEq, Repr

/-- What a pulse crossing carries (R71): a wake request, a write with a control event of its register and the word before, or
a remote-wake K of a drop. -/
inductive Carried where
  | wake (src idx : Nat) | write (r : Reg) (old : Word) | remoteWake (n : Port)
deriving DecidableEq, Repr

/-- A pulse crossing that is not at rest (R71 to R73): the bit of its owning block in CDC_OVR, its number in the block, what it
carries, and when its acknowledge returns; none while the destination's clock is stopped and the crossing holds the pulse. -/
structure Crossing where
  block : Nat
  num : Nat
  item : Carried
  ack : Option Nat
deriving DecidableEq, Repr

/-- Supplies, clocks and resets (03). LOCK, XTAL_OK, REF_QUAL and HOLDOVER live in CLK_STATUS; straps in GLB_STRAP. -/
structure Clk where
  /-- Model's own: elapsed ticks of 0.625 ns; 0 (DESIGN CHOICE). -/
  now : Nat := 0
  /-- R53, R70: level of PORST_N; low. -/
  porst : Bool := false
  /-- R59: supplies below threshold; none. -/
  trips : List Supply := []
  /-- R64, R66: PLL_REF is slewing back; no. -/
  slewing : Bool := false
  /-- R70: the resets under way. -/
  resets : List RunReset := []
  /-- R72, R73: the pulse crossings under way or held; none. -/
  cross : List Crossing := []
  /-- R74: the asynchronous wake crossings whose level stands; none. -/
  levels : List Nat := []
  /-- R67, R272: the always-on counter, in slow periods counted by Deep sleep; 0. -/
  aonCount : Nat := 0
  /-- R65, R81: where the boot stands. -/
  boot : Boot := .held
  /-- R84: the boot watchdog's deadline; off. -/
  wdt : Option Nat := none
  /-- R65: the PLL lock wait's deadline; none. -/
  lockBy : Option Nat := none
  /-- R66: Headspring runs on the FRC until relock. -/
  hsOnFrc : Bool := true
  /-- R356: FAULT_N driven until BOOT_OK; no. -/
  bootFault : Bool := false
  /-- R356: FAULT_N and ALERT_N held low until these moments; none. -/
  faultUntil : Option Nat := none
  /-- R356: when a pulse of ALERT_N ends. -/
  alertUntil : Option Nat := none
  /-- R356: FAULT_N is driven low. -/
  faultLow : Bool := false
  /-- R356: ALERT_N is driven low. -/
  alertLow : Bool := false
deriving DecidableEq, Repr

/-- The fuse link of one die (R17 to R19, R351). -/
structure FLink where
  /-- R19: bad or missing frames in a row to the die, and from it; 0. -/
  badTo : Nat := 0
  badFrom : Nat := 0
  /-- R18: microseconds that lost frames have added to the mirror's age; 0. -/
  age : Nat := 0
  hold : Bool := false
  rung : Nat := 1
  window : Option Nat := none
  /-- R59: the die is in reset for want of VFD. -/
  inReset : Bool := false
  /-- R17, R319: register writes queued, oldest first: register, word, and the bits that it writes. -/
  writes : List (Reg × Word × Word) := []
  /-- R18: the words that registers of the die read as where the mirror is older than the die; none. -/
  stale : List (Reg × Word) := []
deriving DecidableEq, Repr

/-- Headspring's presence (R25, R355). -/
inductive HsSt where
  | off | run | reset | held | stalled
deriving DecidableEq, Repr

/-- A handoff under way (R98): bank, step 1 to 5, digest and version of the new FW, the request to answer, and what the old
pair ran. -/
structure Handoff where
  bank : Nat
  step : Nat
  /-- When the step began. -/
  since : Nat
  digest : BitVec 384
  version : BitVec 64
  req : Option ReqId
  oldDigest : BitVec 384
  oldVersion : BitVec 64
deriving DecidableEq, Repr

/-- A basin's progress in a roll (R102, R103). -/
structure RollBasin where
  rolled : Nat
  complete : Bool
  stalled : Bool
  /-- The engines that run the new microcode. -/
  done : List Nat
deriving DecidableEq, Repr

/-- An open microcode roll (R101 to R103). -/
structure Roll where
  bank : Nat
  digest : BitVec 384
  version : BitVec 64
  basins : Vector RollBasin 16
deriving DecidableEq, Repr

/-- A measurement log entry (R89). -/
structure LogEntry where
  seq : Word
  kind : Nat
  meas : Nat
  detail : Nat
  time : BitVec 64
  version : BitVec 64
  digest : BitVec 384
deriving DecidableEq, Repr

/-- A half of the Reservoir microcode region (R78): the bundle it holds, with its version, FORMAT and digest. -/
structure Half where
  code : List Byte := []
  version : BitVec 64 := 0
  format : Nat := 0
  digest : BitVec 384 := 0
deriving DecidableEq, Repr

/-- A flash operation in the xSPI controller (R104); `req` is set for STAGE_WRITE and STAGE_ERASE, `since` is the moment of its
start. -/
structure XspiOp where
  op : Nat
  addr : Nat
  len : Nat
  data : List Byte
  req : Option ReqId
  since : Nat := 0
deriving DecidableEq, Repr

/-- Boot, measurement and firmware (04). -/
structure Fw where
  /-- R67, R355: what Headspring does. -/
  hs : HsSt := .off
  /-- R98: false pair A active, true pair B. -/
  pairB : Bool := false
  /-- R98: the handoff under way. -/
  handoff : Option Handoff := none
  /-- R102: the microcode roll under way. -/
  roll : Option Roll := none
  /-- R78: the active and the staging half of the microcode region; empty. -/
  active : Half := {}
  /-- R78: what the staging half holds. -/
  staging : Half := {}
  /-- R343: halves of the microcode region being reloaded: active, staging. -/
  reloadActive : Bool := false
  /-- R343: the staging half is to be loaded again from flash. -/
  reloadStaging : Bool := false
  /-- R87: MEAS_0 to MEAS_7; zero. -/
  meas : Vector (BitVec 384) 8 := Vector.replicate 8 0
  /-- R90: the registers as they were at the log's first entry or at its checkpoint; zero. -/
  base : Vector (BitVec 384) 8 := Vector.replicate 8 0
  /-- R98: digest of the firmware that runs. -/
  fwDigest : BitVec 384 := 0
  /-- R93: versions; 0. -/
  imageVersion : BitVec 64 := 0
  /-- R93: version of the firmware that runs. -/
  fwVersion : BitVec 64 := 0
  /-- R93: version of the microcode in force. -/
  ucodeVersion : BitVec 64 := 0
  /-- R93: version of the configuration in force. -/
  configVersion : BitVec 64 := 0
  /-- R93: version of the tables in force. -/
  tablesVersion : BitVec 64 := 0
  /-- R89: the log and the next SEQ; empty, 0. -/
  log : List LogEntry := []
  /-- R89: SEQ of the next entry. -/
  logNext : Word := 0
  /-- R90: the log begins with a checkpoint. -/
  logTrimmed : Bool := false
  /-- R104: the operation on the flash. -/
  xspi : Option XspiOp := none
  /-- R104: operations that wait for it. -/
  xspiQueue : List XspiOp := []
  /-- R96: the 576 bytes of ATT_QUOTE; zero. -/
  attQuote : List Byte := []
  /-- R76: the flash, 64 MiB; unlisted bytes are 0xFF (PRESUMED, erased NOR). -/
  flash : List Host.Cell := []
deriving DecidableEq, Repr

/-! ### Pond and engines (07, 17) -/

structure DevBody where
  /-- R187. -/
  route : BitVec 20
  /-- R187. -/
  addr : Nat
  /-- R187. -/
  speed : Nat
  /-- R187. -/
  state : Nat
  /-- R187. -/
  config : Nat
  /-- R187. -/
  desc : List Byte
deriving DecidableEq, Repr

/-- EP body (R187). -/
structure EpBody where
  ep : Byte
  xfer : Nat
  mult : Nat
  toggle : Bool
  halted : Bool
  slow : Bool
  active : Bool
  mps : Nat
  period : Nat
  phase : Nat
  iface : Nat
  alt : Nat
  stream : Option (Nat × Byte)
  nakBudget : Nat
  weight : Nat
  slowRun : Nat
  bytes : Nat
deriving DecidableEq, Repr

/-- NODE body (R239 table). -/
structure NodeBody where
  serial : BitVec 64
  addr : Nat
  nstate : Nat
  objCnt : Nat
  run : Nat
  missed : Nat
  annTry : Nat
  pollMs : Nat
  lastRx : BitVec 64
deriving DecidableEq, Repr

/-- OBJ body (R239 table). -/
structure ObjBody where
  obj : Nat
  access : Nat
  report : Nat
  writePend : Bool
  vlen : Nat
  otype : Nat
  value : List Byte
  time : BitVec 64
  rcount : Word
deriving DecidableEq, Repr

/-- MARK body (R254). -/
structure MarkBody where
  pos : Pos
  belt : Belt
  dir : Nat
  action : Nat
  mstate : Nat
  mflags : Byte
  window : BitVec 16
  arg : Word
  portEpoch : BitVec 16
  nodeEpoch : BitVec 16
  door : Door
deriving DecidableEq, Repr

/-- SERVICE body of a binding (R208 table). -/
structure SvcBody where
  kind : Nat
  state : Nat
  iface : Nat
  profile : Nat
  stream : Nat × Byte
  out : Option (Nat × Byte)
  fill : Nat
  keymap : Nat
  pstat : Byte
  rseq : Word
  job : Nat
deriving DecidableEq, Repr

/-- A context's BODY by type (R146). The STREAM body is not in the manual: it names the stream. -/
inductive Body where
  | zero
  | dev (b : DevBody)
  | ep (b : EpBody)
  | node (b : NodeBody)
  | obj (b : ObjBody)
  | mark (b : MarkBody)
  | stream (id : BitVec 16)
  | service (b : SvcBody)
  | template (t : Template)
  /-- A further context of a template (R255), by the CID of its first. -/
  | more (head : Nat)
  | page (index : Nat)
deriving DecidableEq, Repr

/-- A context (R146): TYPE 0xF and HOLDER 0xFF when FREE. -/
structure Ctx where
  typ : Nat := 0xF
  holder : Nat := 0xFF
  gen : Byte := 0#8
  parent : Nat := 0
  body : Body := .zero
  poisoned : Bool := false
deriving DecidableEq, Repr

/-- Who waits on the wait list (R156, R157). -/
inductive Waiting where
  | device (n : Port) (route : BitVec 20)
  | binding (n : Port) (route : BitVec 20) (iface : Nat)
deriving DecidableEq, Repr

structure Waiter where
  /-- R157. -/
  holder : Fin 99
  /-- R157. -/
  size : Nat
  /-- R157. -/
  who : Waiting
  /-- When a requester that a full list refused repeats its request (R157). -/
  retryAt : Nat := 0
deriving DecidableEq, Repr

/-- What waits for the end of a directory rebuild (R354), in order: a request for contexts, a bulk free by holder and type or of
CIDs, the group of a device's enumeration, and what follows a bulk free: the waiters of a subtree (R175 step 5), an event, the
answer of the request that caused it (R151). -/
inductive PondReq where
  | alloc (h : Fin 99) (typ size : Nat)
  | bulk (h : Fin 99) (typ : Nat)
  | free (cids : List Nat)
  | group (n : Port) (route : BitVec 20)
  | leave (n : Port) (route : BitVec 20)
  | post (code kind index : Nat) (payload : List Nat)
  | answer (q : ReqId) (res : Nat)
deriving DecidableEq, Repr

/-- What a damaged context belongs to (R351 ladder 0x5): a device tree, a node, or neither. -/
inductive UeGroup where
  | none | tree (n : Port) | node (n : Port) (addr : Nat)
deriving DecidableEq, Repr

/-- The window of an R163 action: the context, what it belongs to, and its end. -/
structure UeWin where
  cid : Nat
  group : UeGroup
  ends : Nat
deriving DecidableEq, Repr

/-- The Pond (07). Counts, quotas and marks live in its registers. -/
structure Pond where
  /-- R146: contexts that differ from a FREE one of GEN 0, by CID, rising. -/
  ctxs : List (Nat × Ctx) := []
  /-- R157: the wait list, at most 1,024; empty. -/
  waiters : List Waiter := []
  /-- R157: groups granted to waiters whose requesters have not resumed yet, with their CIDs. -/
  grants : List (Waiter × List Nat) := []
  /-- R149: the allocator's last answer to a bare request: result code and CIDs; none. -/
  lastAlloc : Nat × List Nat := (0, [])
  /-- R157: port engines refused by a full list. -/
  refused : List Waiter := []
  /-- R162: next CID to scrub; 0. -/
  scrub : Nat := 0
  /-- R158: POND_LOW may be posted. -/
  lowArmed : Bool := true
  /-- R354: a directory rebuild runs, and the requests that wait for its end, in order. -/
  rebuild : Bool := false
  /-- R354: requests that wait for the end of a rebuild. -/
  held : List PondReq := []
  /-- R351 ladder 0x5: the R163 actions in their 100 µs windows; none. -/
  ueOpen : List UeWin := []
deriving DecidableEq, Repr

/-- The role of an engine (R27). -/
inductive Role where
  | port (n : Port) | arming (b : Basin) | pool | spare | none
deriving DecidableEq, Repr

/-- An engine (R27, R140, R159, R346, R347). -/
structure EngineSt where
  role : Role := .pool
  /-- R204: further ports that the engine of a port carries once the pool is empty; none. -/
  also : List Port := []
  epoch : BitVec 16 := 0#16
  quar : Bool := false
  /-- R347: moments of the overruns in the last 1 ms. -/
  overruns : List Nat := []
  /-- R159: resident CIDs with their dirty marks, most recent first. -/
  cache : List (Nat × Bool) := []
  /-- R159: spills of the current 1 ms window, its number, and the spills of the window before it. -/
  spills : Nat := 0
  spillWin : Nat := 0
  spillsLast : Nat := 0
  /-- R347: quarantined, its role not yet taken, with the cause and the CIDs whose dirty entries were lost. -/
  handing : Option (Nat × List Nat) := none
  /-- R142: the engine epoch that its hand-over message carries. -/
  handEpoch : BitVec 16 := 0#16
  /-- R81, R102: SHA-384 of the microcode in its instruction memory; none before firmware has loaded it. -/
  ucode : Option (BitVec 384) := none
deriving DecidableEq, Repr

/-- A basin (R69, R328, R352). -/
structure BasinSt where
  inReset : Bool := false
  gated : Bool := false
  /-- R69: its reset loads the whole basin anew from the active half. -/
  loading : Bool := false
deriving DecidableEq, Repr

/-! ### Ports (01, 02, 08, 09, 11, 14) -/

/-- Port modes (R29). -/
inductive PMode where
  | off | drop | line
deriving DecidableEq, Repr

/-- A mode change accepted and not yet ended (R30, R51). `chan` is CH of the PORT_MODE; `edge` the moment of the edge on SEL_n and
STB_n, once it is fixed; `asked` says that firmware has carried the request out, and `started` that the port has left its mode. -/
structure ModeSeq where
  goal : PMode
  chan : Nat
  req : Option ReqId
  started : Bool
  edge : Option Nat := none
  asked : Bool := false
deriving DecidableEq, Repr

/-- A device of a drop's tree (R170 to R175). -/
structure Dev where
  route : BitVec 20
  addr : Nat
  speed : Nat
  vid : BitVec 16
  pid : BitVec 16
  cid : Nat
  gen : Byte
  configured : Bool
  waits : Bool
  selfPowered : Bool
  hubPorts : Nat
  multiTt : Bool
  ifs : List IfDesc
  eps : List EpDesc
  /-- Alternate settings in force that are not 0, by interface (R192). -/
  alts : List (Nat × Nat)
  config : Nat
  /-- The configuration value whose descriptors were read (R171). -/
  known : Nat
  /-- R174: a configured hub. -/
  hub : Bool := false
  /-- R172: CONFIG_SEL of its enumeration. -/
  sel : Nat := 0
  /-- R207: ENUM_DONE or a new setting whose class match has yet to run. -/
  matchDue : Bool := false
  /-- R174: the millisecond of a hub's last status poll and the ports read in it. -/
  polled : Nat × List Nat := (0, [])
deriving DecidableEq, Repr

/-- The enumeration in progress (R171): step 1 to 9, attempts made, what was read so far. -/
structure Enum where
  route : BitVec 20
  step : Nat
  attempt : Nat
  configSel : Nat
  speed : Nat
  isHub : Bool
  mps0 : Nat
  value : Nat
  attrs : Byte
  eps : List EpDesc
  ifs : List IfDesc
  cid : Nat
  gen : Byte
  addr : Nat
  vid : BitVec 16
  pid : BitVec 16
  waitUntil : Option Nat
  /-- R168: when the present request began. -/
  since : Nat
  req : Option ReqId
deriving DecidableEq, Repr

/-- A resume window (R181): host requests that joined, remote wake, power-state cause, and the moment K is driven from. -/
structure Resume where
  host : List ReqId
  remote : Bool
  power : Bool
  /-- R181, R182: when the root port begins to drive K. -/
  driveAt : Nat
  /-- R179: the channel is switched to ON, and K driven. -/
  on : Bool := false
deriving DecidableEq, Repr

/-- An admitted periodic endpoint (R185). -/
structure Sched where
  route : BitVec 20
  ep : Byte
  /-- In microframes of a high-speed root, else in frames. -/
  period : Nat
  phase : Nat
  cost : Nat
  /-- Byte times of the root segment by offset from the phase: one part, or the splits of R188. -/
  parts : List (Nat × Nat)
  /-- The transaction translator used (hub route and TT port), and the byte times on it. -/
  tt : Option (BitVec 20 × Nat)
deriving DecidableEq, Repr

/-- Who asked for a control transfer (R192, R208, R216, R189): a DROP_CONTROL, the set-up of the binding of an interface, the status
poll of a printer after a STALL, or the port engine for Clear_TT_Buffer of a hub's TT port. -/
inductive CtlBy where
  | door (q : ReqId) | setup (iface : Nat) | status (iface : Nat) | clearTt (port : Nat)
deriving DecidableEq, Repr

/-- The stages of a control transfer. -/
inductive CtlStage where
  | setup | data | status
deriving DecidableEq, Repr

/-- A control transfer in the port engine's queue (R186, R192 to R195). -/
structure Ctl where
  route : BitVec 20
  by_ : CtlBy
  setup : List Byte
  out : List Byte
  /-- The stage timeout in ticks, and when the present stage times out. -/
  span : Nat
  deadline : Nat
  stage : CtlStage := .setup
  /-- R193: its SETUP has been sent. -/
  held : Bool := false
  /-- R142: the port epoch that a service's request carries; none for a request that the door logic checked. -/
  epoch : Option (BitVec 16) := none
  /-- Bytes of `out` sent, IN data received so far. -/
  moved : Nat := 0
  inp : List Byte := []
  /-- R194: EP contexts granted for the new setting, its endpoints, and the places admitted for them (R185). -/
  added : List Nat := []
  eps : List EpDesc := []
  ifs : List IfDesc := []
  sched : List Sched := []
deriving DecidableEq, Repr

/-- A stream of SOF stamps (R200). -/
structure StampStream where
  cid : Nat
  gen : Byte
  div : Nat
deriving DecidableEq, Repr

/-- The stamp of a transfer's first transaction (R210): its tick, the positions of all belts, and whether time was degraded then
(R221). -/
structure XferStamp where
  time : BitVec 64
  pos : List Pos
  degraded : Bool
deriving DecidableEq, Repr

/-- A DROP_OUT transfer on its way to the port engine (R142, R255): the port epoch, the DEV reference, the endpoint and the data. -/
structure DropOut where
  epoch : BitVec 16
  cid : Nat
  gen : Byte
  ep : Byte
  data : List Byte
deriving DecidableEq, Repr

/-- An endpoint's transfer under way and the token-level counters that no register holds (R186, R191, R196). -/
structure EpRun where
  route : BitVec 20
  ep : Byte
  moved : Nat
  retries : Nat
  naks : Nat
  ping : Bool
  mismatches : Nat
  stopped : Bool
  /-- R196: the microframe in which it was last addressed. -/
  lastAt : Option Nat := none
  /-- R175: a transfer is under way. -/
  open_ : Bool := false
  /-- R210: the stamp of the first transaction of the transfer under way. -/
  stamp : Option XferStamp := none
  /-- R190: the next PID of an isochronous service interval. -/
  seq : Option Pid := none
  /-- R190, R218: IN transfers and service intervals of a RAW binding that have ended and wait for their record: the stamp, and whether
  the interval failed. -/
  ended : List (XferStamp × Bool) := []
deriving DecidableEq, Repr

/-- A periodic endpoint that the present microframe addresses (R184, R190): the transactions left, and the place in its splits
(R188), 0 for a start-split. -/
structure Token where
  route : BitVec 20
  ep : Byte
  left : Nat
  off : Nat
deriving DecidableEq, Repr

/-- A bulk endpoint in the deficit round robin (R184): its deficit in bytes, and whether its turn runs. -/
structure BulkTurn where
  route : BitVec 20
  ep : Byte
  deficit : Nat := 0
  on : Bool := false
deriving DecidableEq, Repr

/-- A start-split whose complete-split is outstanding (R188, R189): the endpoint, its translator, the microframe of the start-split,
and whether it is asynchronous. -/
structure Split where
  route : BitVec 20
  ep : Byte
  hub : BitVec 20
  port : Nat
  start : Nat
  async : Bool
deriving DecidableEq, Repr

/-- A transaction translator that is not at rest (R189): its failed splits in a row, and a stale buffer to be cleared. -/
structure TtSt where
  hub : BitVec 20
  port : Nat
  fails : Nat := 0
  stale : Option (BitVec 20 × Byte) := none
deriving DecidableEq, Repr

/-- A WEIR_SET on its way to the port engine (R142, R197): the port epoch, the EP reference, NAK_BUDGET and WEIGHT. -/
structure WeirMsg where
  epoch : BitVec 16
  cid : Nat
  gen : Byte
  budget : Nat
  weight : Nat
deriving DecidableEq, Repr

/-- A drop (08, 09). The root-port state lives in DROP_STATUS. -/
structure Drop where
  /-- R167: pull-up seen, true on D+. -/
  pullup : Option Bool := none
  /-- R168: the device chirp was answered. -/
  chirped : Bool := false
  /-- R169: SPEED_MAX as it stood at the start of the reset allows high speed. -/
  hsOk : Bool := true
  /-- R166, R168, R178, R179: end of the state's timer. -/
  until_ : Option Nat := none
  /-- R167: the CC ball with Rd, true CC2. -/
  rd : Option Bool := none
  /-- R297: the other CC ball presents Ra. -/
  ra : Bool := false
  /-- R199: moment of the last SOF. -/
  lastSof : Nat := 0
  /-- R170: the devices of the tree. -/
  devs : List Dev := []
  /-- R171: the enumeration under way. -/
  enum : Option Enum := none
  /-- R170: routes that wait to enumerate, in order of attach, with CONFIG_SEL and the request if any. -/
  enumQ : List (BitVec 20 × Nat × Option ReqId) := []
  /-- R179: the resume sequence under way. -/
  resume : Option Resume := none
  /-- R178: requests that the suspend under way answers. -/
  suspendReqs : List ReqId := []
  /-- R166: DROP_SUSPEND that waits for ACTIVE, DROP_RESUME that waits for SUSPENDED. -/
  suspendLater : List ReqId := []
  /-- R166: resumes that wait for SUSPENDED. -/
  resumeLater : List ReqId := []
  /-- R333: suspended by a device power-state entry. -/
  byPower : Bool := false
  /-- R178: when the average current of the suspended tree is held to its budget. -/
  overdrawAt : Option Nat := none
  /-- R199: alignment in force since the last root-port reset. -/
  aligned : Bool := true
  /-- R199: the aligned frame of the first SOF since that reset. -/
  frame0 : Option Nat := none
  /-- R185: the admitted periodic endpoints. -/
  sched : List Sched := []
  /-- R186: the transfers under way. -/
  runs : List EpRun := []
  /-- R186, R192: control transfers, in order. -/
  ctls : List Ctl := []
  /-- R200: the streams that carry stamps. -/
  stamps : List StampStream := []
  /-- R197: weir changes due at the next microframe. -/
  weirs : List WeirMsg := []
  /-- R166: events ignored. -/
  diag : Nat := 0
  /-- R255: DROP_OUT transfers due. -/
  outs : List DropOut := []
  /-- R198: the last microframe boundary acted on. -/
  lastM : Option Nat := none
  /-- R184: the microframe or frame whose schedule stands, the periodic endpoints that it still addresses, and the turns of control
  and bulk endpoints. -/
  slot : Option Nat := none
  /-- R184: what this microframe still owes. -/
  tokens : List Token := []
  /-- R184: round robin of the control endpoints. -/
  ctlRing : List (BitVec 20) := []
  /-- R184: round robin of the bulk endpoints. -/
  bulkRing : List BulkTurn := []
  /-- R188, R189: outstanding splits, translators that are not at rest. -/
  splits : List Split := []
  /-- R189: the transaction translators. -/
  tts : List TtSt := []
  /-- R190, R191: PID and length of the last data packet that the port engine sent or expected. -/
  wire : Option (Pid × Nat) := none
  /-- R200: OFFSET at the latest boundary. -/
  stampOff : Nat := 0
deriving DecidableEq, Repr

/-- What a TX buffer's frame is for (R232). -/
inductive TxFor where
  | time
  | assign (addr : Nat)
  | release (addr : Nat)
  | ulp (addr : Nat)
  | host (d : Door)
deriving DecidableEq, Repr

/-- A frame in a TX buffer (R232, R233). -/
structure TxBuf where
  frame : CanFrame
  use : TxFor
  started : Bool
  cancelled : Bool
  sof : BitVec 64
  /-- R222: the ESI bit that the attempt on the wire carries. -/
  esi : Bool := false
  /-- R225: the attempt's loop delay is longer than TDCV can hold. -/
  tooLong : Bool := false
deriving DecidableEq, Repr

/-- A received frame with its start-of-frame stamp (R223) and, in RXQ_1, its stranger cause (R229, R231). -/
structure RxCan where
  frame : CanFrame
  tick : BitVec 64
  cause : Nat
  /-- R23: the positions of the belts at that tick. -/
  pos : List Pos := []
deriving DecidableEq, Repr

/-- Who asked for a ULP request (R243). -/
inductive UlpBy where
  | door (q : ReqId) | mark | poll
deriving DecidableEq, Repr

/-- A ULP request to a node (R243). -/
structure Ulp where
  write : Bool
  obj : Nat
  value : List Byte
  prio : Nat
  origin : UlpBy
  sentAt : Option Nat
  late : Bool
deriving DecidableEq, Repr

/-- A node's run-time state beside its NODE context (R237, R241, R243). -/
structure NodeRt where
  addr : Nat
  cid : Nat
  gen : Byte
  annDue : Option Nat
  part : Option (Nat × List (Nat × Nat × Nat × Nat))
  out : Option Ulp
  queue : List Ulp
  absentAt : Option Nat
  restart : Bool
deriving DecidableEq, Repr

/-- A bit timing that waits (R224, R228), as register words, and the LINE_TIMING requests that it answers. -/
structure TimingSet where
  nbt : Word
  dbt : Word
  tdc : Word
  /-- TRIPLE and BRS of a LINE_TIMING. -/
  ctl : Option (Bool × Bool) := none
  reqs : List ReqId := []
deriving DecidableEq, Repr

/-- A line (11). Error counters live in LINE_ERR, counts in LINE_CNT. -/
structure Line where
  /-- R232: the buffers. -/
  tx : Vector (Option TxBuf) 32 := Vector.replicate 32 none
  /-- R233: final status of the last frame of a host buffer since the port entered LINE. -/
  lastTx : List (Nat × Nat) := []
  /-- R233: cancels whose frame has started. -/
  cancels : List (Nat × ReqId) := []
  /-- R230, R231. -/
  rxq0 : List RxCan := []
  /-- R230. -/
  rxq1 : List RxCan := []
  /-- R231: frames that passed the checks, in order. -/
  ulp : List RxCan := []
  /-- R228, R235: on the bus. -/
  joined : Bool := false
  /-- R234: TEC has gone above 255: bus-off follows. -/
  boffDue : Bool := false
  /-- R228: a timing that waits for the frame in progress. -/
  timing : Option TimingSet := none
  /-- R235, R351. -/
  held : Bool := false
  /-- R235: held off the bus by its ladder. -/
  isolated : Bool := false
  /-- R235: leaving that hold by LINE_RECOVER. -/
  fromHeld : Bool := false
  /-- R235: when the controller is back on the bus. -/
  busOnAt : Option Nat := none
  /-- R235: since when recovery counts. -/
  recFrom : Nat := 0
  /-- R235: bits of the recovery seen under earlier timings, and since when the timing in force counts. -/
  recBits : Nat := 0
  /-- R235: since when the recovery runs under the timing in force. -/
  recMark : Nat := 0
  /-- R235: moment of the last bus-off. -/
  offAt : Nat := 0
  /-- R235: requests that recovery answers. -/
  recoverReqs : List ReqId := []
  /-- R244: TSEQ of the next TIME frame. -/
  tseq : BitVec 16 := 0#16
  /-- R244: the tick of a TIME frame that waits in buffer 0. -/
  timeDue : Option Nat := none
  /-- R244: the TIME frame of a boundary at which the one before was on the wire. -/
  timeWait : Option CanFrame := none
  /-- R240: the nodes of the port. -/
  nodes : List NodeRt := []
  /-- R242: addresses in quarantine, and until when. -/
  quar : List (Nat × Nat) := []
  /-- R232: port-engine frames that wait for one of buffers 1 to 27. -/
  txWait : List (CanFrame × TxFor) := []
  /-- R242: removals whose started WRITE has no final status yet: address, cause, and the LINE_NODE_REMOVE to answer. -/
  lateRem : List (Nat × Nat × Option ReqId) := []
  /-- R243: answers discarded because no request waits for them. -/
  lateAns : Nat := 0
  /-- R243: poll periods since the port entered LINE. -/
  polls : Nat := 0
  /-- R243: since when the running poll period counts. -/
  polledAt : Nat := 0
  /-- R234: thresholds A and B are armed for their next warning. -/
  warnA : Bool := true
  /-- R234: the port may post its next warning. -/
  warnB : Bool := true
deriving DecidableEq, Repr

/-- VCONN swap states (R305). -/
inductive Swap where
  | idle | sent | retry | giving
deriving DecidableEq, Repr

/-- A PD contract, its candidate, or an offered object: position, current (50 mA), voltage (10 mV), KIND. -/
structure Contract where
  /-- R301: object position of the Request. -/
  pos : Nat
  /-- R301: its current. -/
  cur : Nat
  /-- R299: the voltage in units of 10 mV. -/
  mv10 : Nat
  /-- R299: the kind of the object. -/
  kind : Nat
deriving DecidableEq, Repr

/-- A PD message that the UH9600 sends, and its other signals on CC (R292, R301 to R306). -/
inductive PdOut where
  | sourceCaps (objects : List Nat) | eprSourceCaps (objects : List Nat) | eprFailed (cable : Bool)
  | accept | reject | wait | psRdy | notSupported | softReset | hardReset | vconnSwap | eprExit
  | eprEntered | discoverIdentity | sourceCapsExt (block : List Byte) | status (block : List Byte) | ppsStatus (v20 : Nat)
  | revision (major minor : Nat) | eprKeepAliveAck | bistCarrier | none
deriving DecidableEq, Repr

/-- A PMBus command that writes the converter (R293): voltages in 10 mV, the transition rate in 0.1 V/ms, the current limit in
mA. -/
inductive PmbOut where
  | operation (on : Bool) | clearFaults | voutMode | voutCommand (v : Nat) | transitionRate (r : Nat) | ocLimit (ma : Nat)
  | nineClocks
deriving DecidableEq, Repr

/-- A Request or EPR_Request that waits for its answer (R301), with the PD state it found. -/
structure PdRequest where
  obj : Nat
  cur : Nat
  mv : Nat
  epr : Bool
  found : Nat
deriving DecidableEq, Repr

/-- Power Delivery of a drop (14). STATE, contract and flags live in PD_STATUS, the target in PD_VOUT. -/
structure Pd where
  /-- R305: where a VCONN swap stands. -/
  swap : Swap := .idle
  /-- R305. -/
  swapTries : Nat := 0
  /-- R305: the PD_VCONN_SWAP to answer. -/
  swapReq : Option ReqId := none
  /-- R305: the UH9600 started it. -/
  swapByUs : Bool := false
  /-- R296, R305: a swap of the UH9600's own that waits for its opportunity. -/
  swapWanted : Bool := false
  /-- R305: the PD state to which the policy engine returns after a swap. -/
  swapFrom : Nat := 0
  /-- R305: when its present wait ends. -/
  swapUntil : Option Nat := none
  /-- R301: the Request that NEGOTIATING answers. -/
  request : Option PdRequest := none
  /-- R301: the last Source_Capabilities were received, a Request is awaited. -/
  capsAck : Bool := false
  /-- R301, R302: the target last accepted. -/
  accepted : Option Contract := none
  /-- R301: the contract in force. -/
  contract : Option Contract := none
  /-- R302, R304: the PD_VOUT to answer. -/
  voutReq : Option ReqId := none
  /-- R306: the PD_HARD_RESET to answer. -/
  hrReq : Option ReqId := none
  /-- R306: moments of the hard resets that its bound counts. -/
  hardResets : List Nat := []
  /-- R295: transactions with the converter in a row that received no acknowledge. -/
  noAcks : Nat := 0
  /-- R295: converter faults in a row. -/
  convFaults : Nat := 0
  /-- R301: capabilities sent in this state. -/
  sends : Nat := 0
  /-- R298: the cable has been discovered. -/
  cableKnown : Bool := false
  /-- R298. -/
  discovering : Bool := false
  /-- R298: Discover Identity messages sent, and when the last one went out. -/
  cableTries : Nat := 0
  cableAt : Nat := 0
  /-- R294: the target in force has been reached. -/
  reached : Bool := false
  /-- R293: when READ_VOUT and STATUS_WORD were last polled. -/
  readAt : Option Nat := none
  statusAt : Option Nat := none
  /-- R293: the last commands written to the converter, the newest last. -/
  pmb : List PmbOut := []
  /-- R294: the last reading lay within the band. -/
  inBand : Bool := false
  /-- R293, R295: OPERATION is written. -/
  converterOn : Bool := false
  /-- R301: when the timer of the present state ends. -/
  until_ : Option Nat := none
  /-- R300: capabilities are to be sent again. -/
  capsDue : Bool := false
  /-- R301: when the answer awaited is overdue. -/
  answerBy : Option Nat := none
  /-- R301: when the EPR keep-alive is overdue. -/
  keepAliveBy : Option Nat := none
  /-- R301: when the PPS Request timeout ends. -/
  ppsBy : Option Nat := none
  /-- The last message sent to the partner or the cable; none. -/
  sent : PdOut := .none
  /-- R300: since when the rail has room for the full offer. -/
  fullFrom : Option Nat := none
  /-- R306: MessageID of the next message on SOP, and on SOP'. -/
  msgId : Nat := 0
  cableMsgId : Nat := 0
  /-- R296: since when Rp stands at 1.5 A (SinkTxNG) under a contract. -/
  ngFrom : Option Nat := none
  /-- R296: no Rp is presented. -/
  rpOff : Bool := false
  /-- R301: the Request of the contract. -/
  rdo : Nat := 0
deriving DecidableEq, Repr

/-- A port (R29 to R35, R48 to R51, R140). -/
structure PortSt where
  mode : PMode := .off
  seqs : List ModeSeq := []
  epoch : BitVec 16 := 0#16
  /-- R48: SEL_n on the line side; STB_n driven low; R51: pull-downs on; R32: TXD driven. -/
  selLine : Bool := false
  stbLow : Bool := false
  pulldown : Bool := false
  txd : Bool := false
  /-- R140: node address epochs that differ from 0. -/
  nodeEpochs : List (Nat × BitVec 16) := []
  drop : Drop := {}
  line : Line := {}
  pd : Pd := {}
deriving DecidableEq, Repr

/-! ### Fuse channels and rails (13) -/

inductive Phase where
  | off | armed | inrush | hold | on | suspend | tripped
deriving DecidableEq, Repr

/-- A channel as its fuse die holds it (R278 to R285). -/
structure Chan where
  phase : Phase := .off
  /-- R316: the die's own SEQ of CH_STATUS. -/
  seq : Byte := 0#8
  cause : Nat := 0
  point : Nat := 0
  retries : Nat := 0
  heldBy : Nat := 0xFF
  vOut : BitVec 16 := 0#16
  cur : BitVec 16 := 0#16
  inrushFrom : Nat := 0
  inrushUsed : Nat := 0
  holdFrom : Nat := 0
  holdUsed : Nat := 0
  /-- R284: moments of the trips of the last 20 µs, newest first. -/
  trips : List Nat := []
  /-- R284: the channel that qualifies as HELD_BY of the running hold. -/
  holdCause : Option Port := none
  /-- R279, R283: the current that INRUSH and HOLD regulate to, in 10 mA; in HOLD the V_out that must not rise. -/
  limit : Nat := 0
  vMax : Option (BitVec 16) := none
  onSince : Option Nat := none
  offAt : Option Nat := none
  retryAt : Option Nat := none
  retryWaits : Bool := false
  fetFault : Bool := false
  limitClamp : Bool := false
  /-- R287, R353: a command ON that waits until its rail admits an inrush. -/
  onWaits : Bool := false
  /-- R280: the timers of the breaker's points in ticks, and the moment they stand for. -/
  timers : List Nat := []
  /-- R280: the moment that the breaker's timers stand for. -/
  timersAt : Nat := 0
deriving DecidableEq, Repr

/-- A rail (R275 to R288, R353). -/
structure Rail where
  v0 : BitVec 16 := 0#16
  v1 : BitVec 16 := 0#16
  /-- R283: since when FD0 and FD1 read the rail at or above UV_HOLD + 0.5 V. -/
  back0 : Option Nat := none
  back1 : Option Nat := none
  overB : Bool := false
  draw : BitVec 16 := 0#16
  graceAt : Option Nat := none
  blocked : Option Nat := none
  holdTrips : List Nat := []
  /-- R276: since when the two readings differ. -/
  differFrom : Option Nat := none
  /-- R276: the running difference has been reported. -/
  differTold : Bool := false
  /-- R277: the draw of the running window, summed over its ticks. -/
  sum : Nat := 0
  /-- R277: the moment that this sum stands for. -/
  sumAt : Nat := 0
  /-- R277: when the running window began. -/
  windowFrom : Nat := 0
deriving DecidableEq, Repr

/-! ### Seiche (12) -/

/-- An armed slot (R258, R261): its mark with its own copy of the body (R163) and, once matched, the tick; `delayed` for a
match latched in a basin reset. -/
structure Slot where
  cid : Nat
  gen : Byte
  mark : MarkBody
  hit : Option (BitVec 64)
  delayed : Bool
  /-- Its action has been carried out; the slot is released in the next cycle. -/
  acted : Bool
  /-- R163: its mark's context is uncorrectable; the slot fires from its copy. -/
  lost : Bool := false
deriving DecidableEq, Repr

/-- A mark handed to R262: its cause. -/
structure Late where
  cid : Nat
  gen : Byte
  cause : Nat
deriving DecidableEq, Repr

/-- A mark created and not yet considered (R256), with the late cause of a completing edge that has occurred meanwhile (R260). -/
structure Fresh where
  cid : Nat
  gen : Byte
  cause : Option Nat := none
deriving DecidableEq, Repr

/-- A belt (R248 to R260). Direction, STOPPED, POS_VALID and error bits live in BELT_STATUS, RATE in BELT_RATE. -/
structure BeltSt where
  /-- R249; 0. -/
  pos : Pos := 0#48
  /-- R251: ticks of the counted edges of the span, newest first. -/
  edges : List (BitVec 64) := []
  lastEdge : Nat := 0
  started : Bool := false
  /-- R23: the position before each change of the last 10 ms with the tick of the change, newest first. -/
  past : List (BitVec 64 × Pos) := []
  /-- R258: position at the start of the last arming cycle. -/
  cyclePos : Pos := 0#48
  /-- R258, R260: completing edges crossed since the last cycle, as (position, forward, arming was stopped). -/
  crossed : List (Pos × Bool × Bool) := []
  slots : List Slot := []
  late : List Late := []
  /-- R260: marks within reach that 64 nearer ones have kept from a slot at every cycle since they came within reach. -/
  passed : List Nat := []
  /-- R260: marks within reach that hold no slot and have held one since they came within reach. -/
  displaced : List Nat := []
  /-- R258, R263: matched marks whose slots are released and whose actions a pool engine has yet to carry out. -/
  tasks : List Slot := []
  /-- R258: the microsecond of the last arming cycle. -/
  lastCycle : Option Nat := none
  /-- R262: the microsecond of the last late actions, and how many of them it has seen. -/
  lateAt : Nat := 0
  /-- R262: late actions carried out in that microsecond. -/
  lateN : Nat := 0
  /-- R267: counted edges and changes of direction, in all. -/
  counted : Nat := 0
  turns : Nat := 0
  zRes : Option Nat := none
  /-- R253: sets that wait for a rising Z edge. -/
  zPend : List (Pos × ReqId) := []
  /-- R253: a rising Z edge accepted in this sample, with the sets it applies at the sample's end, after its counted edge. -/
  zDue : Option (List (Pos × ReqId)) := none
deriving DecidableEq, Repr

/-- An inlet edge with its stamp (R266). -/
structure InEdge where
  lead : Bool
  tick : BitVec 64
  pos : Option Pos
  /-- R268: the IFLAGS of this stamp. -/
  iflags : Nat
  /-- R267: counted edges and changes of direction of the belt before this edge. -/
  counted : Nat
  turns : Nat
deriving DecidableEq, Repr

/-- An inlet report (R267, R268). -/
structure InReport where
  case_ : Nat
  iflags : Nat
  length : Int
  lead : Option InEdge
  trail : Option InEdge
deriving DecidableEq, Repr

/-- An inlet (R266, R267): the edges that wait for its basin, the leading edge of an open report, whether this run's jam
was posted, and the last report made. -/
structure InletSt where
  edges : List InEdge := []
  open_ : Option InEdge := none
  jammed : Bool := false
  report : Option InReport := none
deriving DecidableEq, Repr

/-- An outfall (R264): latch and pulse end time. -/
structure OutfallSt where
  latch : Bool := false
  pulseEnd : BitVec 64 := 0#64
  /-- The tick of the last CLEAR, which wins over the tick's other actions. -/
  clearAt : Option (BitVec 64) := none
deriving DecidableEq, Repr

/-- Seiche (12). -/
structure Seiche where
  /-- R245, 64 bits; 0. -/
  time : BitVec 64 := 0#64
  /-- R246, R270: in Sleep the ticks passed since the last 25 MHz cycle, below 64. -/
  sleepRem : Nat := 0
  /-- R245: released by firmware. -/
  running : Bool := false
  /-- R248. -/
  belts : Vector BeltSt 16 := Vector.replicate 16 {}
  /-- R266. -/
  inlets : Vector InletSt 32 := Vector.replicate 32 {}
  /-- R264. -/
  outfalls : Vector OutfallSt 32 := Vector.replicate 32 {}
  /-- R256: marks created and not yet considered. -/
  fresh : List Fresh := []
  /-- R200: the latest SOF stamp: boundary tick and the 16 positions; 0 and none before the first. -/
  stampTime : BitVec 64 := 0#64
  /-- R200: positions latched for the stamp. -/
  stampPos : List Pos := []
  /-- R200: which belts they name. -/
  stampBelts : Nat := 0
  /-- R269: level of PPS_OUT. -/
  pps : Bool := false
  /-- R269: the tick at which PPS_OUT falls. -/
  ppsFallAt : BitVec 64 := 0#64
  /-- R271: since when calibration runs. -/
  calFrom : Nat := 0
  /-- R247: when SEI_UNCERT last grew. -/
  uncertFrom : Nat := 0
  /-- R272: TIME at Deep sleep entry. -/
  deepTime : BitVec 64 := 0#64
deriving DecidableEq, Repr

/-! ### Power states (16) -/

inductive PState where
  | run | idle | sleep | deep | off
deriving DecidableEq, Repr

/-- An entry under way (R333): target, the step that runs (2 to 6; 1 for Off, R338), the PWR_ENTER that asked for it. -/
structure Entry where
  target : PState
  step : Nat
  req : Option ReqId
deriving DecidableEq, Repr

/-- The power controller (16). -/
structure Pwr where
  /-- R327. -/
  st : PState := .run
  /-- R333: the entry under way. -/
  entry : Option Entry := none
  /-- R328, R330, R332: where the three timers run from, and which of two have expired. -/
  idleFrom : Nat := 0
  /-- R271: since when the device is in Run. -/
  runFrom : Nat := 0
  /-- R330, R334: where SLEEP_S runs from. -/
  sleepFrom : Nat := 0
  /-- R330, R334: where DEEP_S runs from. -/
  deepFrom : Nat := 0
  /-- R330: SLEEP_S has expired. -/
  sleepExp : Bool := false
  /-- R330: DEEP_S has expired. -/
  deepExp : Bool := false
  /-- R328: Headspring is gated. -/
  hsGated : Bool := false
  /-- R334, R335: the wake request that has reached the controller, source and INDEX, and its moment. -/
  wake : Option (Nat × Nat) := none
  /-- R335: the moment of the wake. -/
  wakeFrom : Nat := 0
  /-- R335: on the way back to Run. -/
  exiting : Bool := false
  /-- R333 step 5: image saved, lanes down, fuse dies in autonomous hold. -/
  retained : Bool := false
  /-- R333 step 2: when lines and drops fell silent. -/
  quietedAt : Nat := 0
  /-- R336 step 4: the 1 ms boundary from which lines go on after a return to Run. -/
  linesFrom : Nat := 0
  /-- R272, R336: TIME when Sleep was reached. -/
  enteredAt : BitVec 64 := 0#64
  /-- R337: fuse trips to be posted after Run is reached. -/
  tripsDue : List Event := []
deriving DecidableEq, Repr

/-! ### Bead (18) -/

/-- Who commits a block (R358). -/
inductive BeadBy where
  | field | door (q : ReqId) | hs
deriving DecidableEq, Repr

structure BeadCommit where
  /-- R359. -/
  block : Nat
  /-- R359: the 32 bytes to be. -/
  data : BitVec 256
  /-- R365: whose commit it is. -/
  writer : BeadBy
deriving DecidableEq, Repr

/-- What the tag last answered the field (R363): an error code, or data words. -/
inductive BeadAnswer where
  | silent | error (code : Nat) | data (blocks : List (BitVec 256)) | info (fields : List Nat)
deriving DecidableEq, Repr

/-- The Bead (18). Field, session, commit and counts live in BEAD_STATUS and BEAD_CNT. -/
structure BeadSt where
  /-- R358: 256 blocks of 32 bytes that are not zero, by number, rising; the IDENT blocks are read from constants. -/
  blocks : List (Nat × BitVec 256) := []
  /-- R363: INTEGRATOR blocks locked for good; none. -/
  locked : List Nat := []
  /-- R359: the commit in progress, and those that wait in order of arrival (R365); none. -/
  commit : Option BeadCommit := none
  /-- R365: commits that wait, in order of arrival. -/
  queue : List BeadCommit := []
  /-- R366: records that Headspring has yet to commit: an attestation record, snapshots with their SNAP_SEQ; none. -/
  qAttest : Option (List Byte) := none
  /-- R366: snapshots that Headspring has yet to commit, by SNAP_SEQ. -/
  qSnaps : List (Nat × List Byte) := []
  /-- R366: the first snapshot dropped in a session and how many; none. -/
  lost : Option (Nat × Nat) := none
  /-- R95, R362: records due and not yet written by Headspring. -/
  attestDue : Bool := false
  /-- R362: events whose snapshot is due. -/
  snapsDue : List Event := []
  /-- R362: moment of the last snapshot of each source (24 for ESCALATED); none. -/
  snapAt : List (Nat × Nat) := []
  /-- R366: the session's start and end, and the end of the last one; none. -/
  session : Option (Nat × Nat) := none
  /-- R366: end of the last session. -/
  lastEnd : Option Nat := none
  /-- R363: the tag is quiet, or selected (ISO/IEC 15693); no. -/
  quiet : Bool := false
  /-- R363: the tag is selected. -/
  selected : Bool := false
  /-- R363: the last answer to the field. -/
  answer : BeadAnswer := .silent
deriving DecidableEq, Repr

/-! ### Register fabric (15) and integrity (17) -/

/-- The answer a path last got from the fabric (R310, R311): value and status 0 done, 1 unmapped, 2 refused, 3 not performed. -/
structure FabAnswer where
  value : Word
  status : Nat
deriving DecidableEq, Repr

/-- The fabric (15). -/
structure Fabric where
  /-- R314, R315: per path, when its unlock lapses. -/
  unlock : Vector (Option Nat) 4 := Vector.replicate 4 none
  /-- R319: writes in flight to the always-on domain: register, value, mask of the bits it writes. -/
  aonq : List (Reg × Word × Word) := []
  /-- R319: PWR_WAKE_SET requests that wait for WR_PEND 0, with the word before. -/
  wakeSets : List (ReqId × Word) := []
  /-- R322: a pass runs; true once a covered register was written. -/
  pass : Option Bool := none
  /-- R322: whether the last completed pass matched; no pass has completed since EN was set or a pause ended. -/
  lastMatch : Option Bool := none
  /-- R322: no pass has completed since EN was set or a pause ended. -/
  freshPass : Bool := true
  /-- R324: when PAUSE was set. -/
  pausedAt : Nat := 0
  /-- R324: CW_COMMIT requests that wait for the next completed pass. -/
  commitReqs : List ReqId := []
  /-- R311: a JTAG session is open. -/
  jtag : Bool := false
  /-- R310, R311: the last answer of each path. -/
  answers : Vector FabAnswer 4 := Vector.replicate 4 ⟨0#32, 0⟩
deriving DecidableEq, Repr

/-- A recovery window of a ladder (R350, R351). -/
structure LadderWin where
  ladder : Nat
  index : Nat
  rung : Nat
  ends : Nat
  code : Nat
deriving DecidableEq, Repr

/-- The state of the part, but for the commands that wait. -/
structure Chip where
  /-- Registers that differ from their reset value, by address, rising (15 R308). -/
  regs : List (Reg × Word) := []
  clk : Clk := {}
  fl : Vector FLink 2 := Vector.replicate 2 {}
  fw : Fw := {}
  trunk : Trunk := {}
  doors : Vector DoorSt 8 := Vector.replicate 8 {}
  /-- R143: the device cullet queue, 256 entries. -/
  cullet : List Cullet := []
  culletLost : Nat := 0
  /-- R144: the next acceptance number. -/
  nextOrd : Nat := 0
  rates : List RateWin := []
  svcPort : SvcPort := {}
  pond : Pond := {}
  engines : Vector EngineSt 512 := Vector.replicate 512 {}
  basins : Vector BasinSt 16 := Vector.replicate 16 {}
  ports : Vector PortSt 96 := Vector.replicate 96 {}
  chans : Vector Chan 96 := Vector.replicate 96 {}
  rails : Vector Rail 8 := Vector.replicate 8 {}
  sei : Seiche := {}
  svc : SvcState := {}
  pwr : Pwr := {}
  bead : BeadSt := {}
  fab : Fabric := {}
  ladders : List LadderWin := []
  /-- Model's own: counter of free values drawn (Config.freeValue); 0. -/
  freeCtr : Nat := 0
deriving DecidableEq, Repr

/-- The state: the part, and the commands that wait for it, first in first out (block model). -/
structure State where
  chip : Chip := {}
  /-- Empty at reset. -/
  pending : List Instr := []
deriving DecidableEq, Repr

/-- Why the machine stops. -/
inductive Fault where
  /-- Raised by a register write that alters a reserved (RC) bit: R15 leaves the behaviour unspecified until the next
  device-scope reset. Safe: the model stops where the part goes on in some unspecified way. -/
  | rcAltered
deriving DecidableEq, Repr

/-- Why the model gives a command no meaning. -/
inductive Refusal where
  /-- Raised by an arm of exec whose command has no meaning in this model yet. Safe. -/
  | notModelled (mnemonic : String)
deriving DecidableEq, Repr

/-- The role of engine L of a basin after a device-scope reset (R27). -/
def roleAtReset (e : Nat) : Role :=
  let l := e % 32
  let b := e / 32
  if l < 6 then .port (Fin.ofNat 96 (6 * b + l))
  else if l = 6 then .arming (Fin.ofNat 16 b)
  else if l < 30 then .pool
  else .spare

/-- The engines after a device-scope reset (R27, R140). -/
def enginesAtReset : Vector EngineSt 512 := Vector.ofFn (fun e => { role := roleAtReset e.val })

/-- The machine right after a power-on reset, PORST_N low (R59, R70): every register at the value of its table, no
command waiting. -/
def State.reset : State := { chip := { engines := enginesAtReset } }

end Sys2Proof.Machine
end

