-- ==== Sys2Proof/Machine/Operands.lean ====
section
/-! DEFINITION. Operand forms: little-endian fields (R9), serial comparison (R376), CRC-32C (R110), CRC-16 (R236),
SHA-384 (R87), durations in ticks (R7), the request layout (R132), target indexes and saturation. -/

namespace Sys2Proof.Machine

/-- Microseconds in ticks of 0.625 ns (R7). -/
def us (n : Nat) : Nat := 1600 * n
/-- Milliseconds in ticks (R7). -/
def ms (n : Nat) : Nat := 1600000 * n
/-- Seconds in ticks (R7). -/
def sec (n : Nat) : Nat := 1600000000 * n

/-- A count that saturates at `n` bits. -/
def sat (n v : Nat) : Nat := min v (2 ^ n - 1)

/-- Clamp into a range of a register field. -/
def clampNat (lo hi v : Nat) : Nat := max lo (min hi v)

/-! ### Serial arithmetic (R376) -/

/-- How a carried value stands to the reference. -/
inductive Serial where
  | equal | ahead | behind
deriving DecidableEq, Repr

/-- R376: D = (V − C) mod 2^n; 0 equal, below half ahead, else behind. -/
def serial {n : Nat} (v c : BitVec n) : Serial :=
  let d := (v - c).toNat
  if d = 0 then .equal else if d < 2 ^ (n - 1) then .ahead else .behind

/-! ### Little-endian bytes (R9) -/

/-- The `n` low bytes of a value, little-endian. -/
def leBytes : Nat → Nat → List Byte
  | 0, _ => []
  | n + 1, v => BitVec.ofNat 8 v :: leBytes n (v / 256)

/-- The value of little-endian bytes. -/
def leVal : List Byte → Nat
  | [] => 0
  | b :: t => b.toNat + 256 * leVal t

/-- The value of big-endian bytes. -/
def beVal (l : List Byte) : Nat := l.foldl (fun a b => 256 * a + b.toNat) 0

/-- `n` bytes of a value, big-endian. -/
def beBytes (n v : Nat) : List Byte := (leBytes n v).reverse

/-- `n` bytes at an offset; bytes beyond the end read 0. -/
def bytesAt (l : List Byte) (off n : Nat) : List Byte :=
  let t := (l.drop off).take n
  t ++ List.replicate (n - t.length) 0#8

/-- A little-endian field of a layout. -/
def leAt (l : List Byte) (off n : Nat) : Nat := leVal (bytesAt l off n)

/-! ### Checks -/

/-- One bit step of the reflected CRC-32C (R110). -/
def crc32cBit (c : Word) : Word := if c.getLsbD 0 then (c >>> 1) ^^^ 0x82F63B78#32 else c >>> 1

/-- One byte of the CRC-32C. -/
def crc32cByte (c : Word) (b : Byte) : Word :=
  (List.range 8).foldl (fun a _ => crc32cBit a) (c ^^^ b.setWidth 32)

/-- CRC-32C (R110). -/
def crc32c (l : List Byte) : Word := (l.foldl crc32cByte 0xFFFFFFFF#32) ^^^ 0xFFFFFFFF#32

/-- One bit step of the CRC-16 of ULP (R236). -/
def crc16Bit (c : BitVec 16) : BitVec 16 := if c.getLsbD 15 then (c <<< 1) ^^^ 0x1021#16 else c <<< 1

/-- One byte of the CRC-16. -/
def crc16Byte (c : BitVec 16) (b : Byte) : BitVec 16 :=
  (List.range 8).foldl (fun a _ => crc16Bit a) (c ^^^ (b.setWidth 16 <<< 8))

/-- CRC-16 of ULP (R236): polynomial 0x1021, initial value 0xFFFF, no reflection. -/
def crc16 (l : List Byte) : BitVec 16 := l.foldl crc16Byte 0xFFFF#16

/-! ### SHA-384 (R87), the published function -/

/-- Round constants of SHA-512 and SHA-384, first half. -/
def shaK1 : List (BitVec 64) := [
  0x428a2f98d728ae22#64, 0x7137449123ef65cd#64, 0xb5c0fbcfec4d3b2f#64, 0xe9b5dba58189dbbc#64,
  0x3956c25bf348b538#64, 0x59f111f1b605d019#64, 0x923f82a4af194f9b#64, 0xab1c5ed5da6d8118#64,
  0xd807aa98a3030242#64, 0x12835b0145706fbe#64, 0x243185be4ee4b28c#64, 0x550c7dc3d5ffb4e2#64,
  0x72be5d74f27b896f#64, 0x80deb1fe3b1696b1#64, 0x9bdc06a725c71235#64, 0xc19bf174cf692694#64,
  0xe49b69c19ef14ad2#64, 0xefbe4786384f25e3#64, 0x0fc19dc68b8cd5b5#64, 0x240ca1cc77ac9c65#64,
  0x2de92c6f592b0275#64, 0x4a7484aa6ea6e483#64, 0x5cb0a9dcbd41fbd4#64, 0x76f988da831153b5#64,
  0x983e5152ee66dfab#64, 0xa831c66d2db43210#64, 0xb00327c898fb213f#64, 0xbf597fc7beef0ee4#64,
  0xc6e00bf33da88fc2#64, 0xd5a79147930aa725#64, 0x06ca6351e003826f#64, 0x142929670a0e6e70#64,
  0x27b70a8546d22ffc#64, 0x2e1b21385c26c926#64, 0x4d2c6dfc5ac42aed#64, 0x53380d139d95b3df#64,
  0x650a73548baf63de#64, 0x766a0abb3c77b2a8#64, 0x81c2c92e47edaee6#64, 0x92722c851482353b#64]

/-- Round constants, second half. -/
def shaK2 : List (BitVec 64) := [
  0xa2bfe8a14cf10364#64, 0xa81a664bbc423001#64, 0xc24b8b70d0f89791#64, 0xc76c51a30654be30#64,
  0xd192e819d6ef5218#64, 0xd69906245565a910#64, 0xf40e35855771202a#64, 0x106aa07032bbd1b8#64,
  0x19a4c116b8d2d0c8#64, 0x1e376c085141ab53#64, 0x2748774cdf8eeb99#64, 0x34b0bcb5e19b48a8#64,
  0x391c0cb3c5c95a63#64, 0x4ed8aa4ae3418acb#64, 0x5b9cca4f7763e373#64, 0x682e6ff3d6b2b8a3#64,
  0x748f82ee5defb2fc#64, 0x78a5636f43172f60#64, 0x84c87814a1f0ab72#64, 0x8cc702081a6439ec#64,
  0x90befffa23631e28#64, 0xa4506cebde82bde9#64, 0xbef9a3f7b2c67915#64, 0xc67178f2e372532b#64,
  0xca273eceea26619c#64, 0xd186b8c721c0c207#64, 0xeada7dd6cde0eb1e#64, 0xf57d4f7fee6ed178#64,
  0x06f067aa72176fba#64, 0x0a637dc5a2c898a6#64, 0x113f9804bef90dae#64, 0x1b710b35131c471b#64,
  0x28db77f523047d84#64, 0x32caab7b40c72493#64, 0x3c9ebe0a15c9bebc#64, 0x431d67c49c100d4c#64,
  0x4cc5d4becb3e42b6#64, 0x597f299cfc657e2a#64, 0x5fcb6fab3ad6faec#64, 0x6c44198c4a475817#64]

/-- The eight working words of SHA-384. -/
structure Sha where
  a : BitVec 64
  b : BitVec 64
  c : BitVec 64
  d : BitVec 64
  e : BitVec 64
  f : BitVec 64
  g : BitVec 64
  h : BitVec 64

/-- SHA-384's initial hash value. -/
def shaInit : Sha :=
  ⟨0xcbbb9d5dc1059ed8#64, 0x629a292a367cd507#64, 0x9159015a3070dd17#64, 0x152fecd8f70e5939#64,
   0x67332667ffc00b31#64, 0x8eb44a8768581511#64, 0xdb0c2e0d64f98fa7#64, 0x47b5481dbefa4fa4#64⟩

/-- One round. -/
def shaRound (s : Sha) (k w : BitVec 64) : Sha :=
  let s1 := s.e.rotateRight 14 ^^^ s.e.rotateRight 18 ^^^ s.e.rotateRight 41
  let t1 := s.h + s1 + ((s.e &&& s.f) ^^^ (~~~s.e &&& s.g)) + k + w
  let s0 := s.a.rotateRight 28 ^^^ s.a.rotateRight 34 ^^^ s.a.rotateRight 39
  let t2 := s0 + ((s.a &&& s.b) ^^^ (s.a &&& s.c) ^^^ (s.b &&& s.c))
  ⟨t1 + t2, s.a, s.b, s.c, s.d + t1, s.e, s.f, s.g⟩

/-- The next schedule word from the last 16, newest first. -/
def shaNext (l : List (BitVec 64)) : BitVec 64 :=
  let g i := l.getD i 0#64
  let x := g 14
  let y := g 1
  (y.rotateRight 19 ^^^ y.rotateRight 61 ^^^ (y >>> 6)) + g 6 +
    (x.rotateRight 1 ^^^ x.rotateRight 8 ^^^ (x >>> 7)) + g 15

/-- The 80 schedule words of a block, oldest first. -/
def shaSchedule (block : List Byte) : List (BitVec 64) :=
  let w0 := (List.range 16).map (fun i => BitVec.ofNat 64 (beVal (bytesAt block (8 * i) 8)))
  ((List.range 64).foldl (fun l _ => shaNext l :: l) w0.reverse).reverse

/-- One 128-byte block. -/
def shaBlock (s : Sha) (block : List Byte) : Sha :=
  let r := ((shaK1 ++ shaK2).zip (shaSchedule block)).foldl (fun s kw => shaRound s kw.1 kw.2) s
  ⟨s.a + r.a, s.b + r.b, s.c + r.c, s.d + r.d, s.e + r.e, s.f + r.f, s.g + r.g, s.h + r.h⟩

/-- SHA-384 of a byte string. -/
def sha384 (m : List Byte) : BitVec 384 :=
  let pad := (128 - (m.length + 17) % 128) % 128
  let p := m ++ [0x80#8] ++ List.replicate pad 0#8 ++ beBytes 16 (8 * m.length)
  let s := (List.range (p.length / 128)).foldl (fun s i => shaBlock s (bytesAt p (128 * i) 128)) shaInit
  s.a ++ s.b ++ s.c ++ s.d ++ s.e ++ s.f

/-- The 48 bytes of a digest in the published order. -/
def digestBytes (d : BitVec 384) : List Byte := beBytes 48 d.toNat

/-! ### Requests and targets (R132, R133) -/

/-- The fields of the 64 bytes of a request (R132). -/
def parseRequest (b : List Byte) : Request where
  opcode := BitVec.ofNat 16 (leAt b 0 2)
  tag := BitVec.ofNat 16 (leAt b 2 2)
  doorEpoch := BitVec.ofNat 16 (leAt b 4 2)
  tgtKind := leAt b 6 1
  flags := BitVec.ofNat 8 (leAt b 7 1)
  tgtIndex := leAt b 8 2
  tgtEpoch := BitVec.ofNat 16 (leAt b 10 2)
  args := bytesAt b 16 48

/-- The 64 bytes of a request (R132). -/
def requestBytes (r : Request) : List Byte :=
  leBytes 2 r.opcode.toNat ++ leBytes 2 r.tag.toNat ++ leBytes 2 r.doorEpoch.toNat ++ leBytes 1 r.tgtKind ++
    [r.flags] ++ leBytes 2 r.tgtIndex ++ leBytes 2 r.tgtEpoch.toNat ++ leBytes 4 0 ++ bytesAt r.args 0 48

/-- FENCE (R132). -/
def Request.fence (r : Request) : Bool := r.flags.getLsbD 0
/-- FORCE (R132). -/
def Request.force (r : Request) : Bool := r.flags.getLsbD 1

/-- The port of a node address index port × 128 + address (R132). -/
def nodePort (i : Nat) : Nat := i / 128
/-- The address of a node address index. -/
def nodeAddr (i : Nat) : Nat := i % 128
/-- The index of a node address (R132). -/
def nodeIndex (p a : Nat) : Nat := 128 * p + a

/-- Whether kind and index name a target (R133): in range for kinds 1 to 4. -/
def namesTarget (kind index : Nat) : Bool :=
  match kind with
  | 1 => index < 96
  | 2 => index < 512
  | 3 => nodePort index < 96 && 1 ≤ nodeAddr index && nodeAddr index ≤ 126
  | 4 => index < 8
  | _ => false

/-- Whether a request's kind and index name no target where 0 and 0 would say that it has none (R132, R133 item 3). -/
def badTarget (r : Request) : Bool := (r.tgtKind ≠ 0 || r.tgtIndex ≠ 0) && !namesTarget r.tgtKind r.tgtIndex

/-- Whether two targets are the same or one contains the other (R144 items 1 and 2). -/
def relatedTargets (k1 i1 k2 i2 : Nat) : Bool :=
  (k1 == k2 && i1 == i2) || (k1 == 1 && k2 == 3 && nodePort i2 == i1) || (k1 == 3 && k2 == 1 && nodePort i1 == i2)

/-! ### Result codes (R134) -/

def rOK : Nat := 0
def rWAIT : Nat := 1
def rBAD_EPOCH : Nat := 2
def rPOND_FULL : Nat := 3
def rOVER_QUOTA : Nat := 4
def rBAD_ARG : Nat := 5
def rNOT_SUPPORTED : Nat := 6
def rLOCKED : Nat := 7
def rROLE_CHANGED : Nat := 8
def rTIMEOUT : Nat := 9

/-! ### Lists -/

/-- The entry of an association list. -/
def lookupNat {α : Type} (l : List (Nat × α)) (k : Nat) : Option α :=
  match l with
  | [] => none
  | (j, v) :: t => if j = k then some v else lookupNat t k

/-- Replace or add the entry of a key; the keys of a canonical list rise. -/
def insertNat {α : Type} (l : List (Nat × α)) (k : Nat) (v : α) : List (Nat × α) :=
  match l with
  | [] => [(k, v)]
  | (j, w) :: t => if j < k then (j, w) :: insertNat t k v else if j = k then (k, v) :: t else (k, v) :: (j, w) :: t

/-- Remove the entry of a key. -/
def eraseNat {α : Type} (l : List (Nat × α)) (k : Nat) : List (Nat × α) := l.filter (fun p => p.1 != k)

/-- Replace the first element that satisfies `p`. -/
def updFirst {α : Type} (p : α → Bool) (f : α → α) : List α → List α
  | [] => []
  | a :: t => if p a then f a :: t else a :: updFirst p f t

/-- Remove the first element that satisfies `p`. -/
def dropFirst {α : Type} (p : α → Bool) : List α → List α
  | [] => []
  | a :: t => if p a then t else a :: dropFirst p t

/-- A natural as a bit. -/
def bitOf (b : Bool) : Nat := if b then 1 else 0

end Sys2Proof.Machine
end

