-- ==== Sys2Proof/Machine/Flags.lean ====
section
/-! DEFINITION. Registers and flags: the register file in its canonical form, fields, status registers with their SEQ
(R316), GLB_FAULT and the status balls (R326, R356). -/

namespace Sys2Proof.Machine

/-! ### The register file -/

/-- The stored word of a register: its entry, else its reset value (R12). -/
def regGet : List (Reg × Word) → Reg → Word
  | [], r => r.resetWord
  | (q, v) :: t, r => if q.addr = r.addr then v else regGet t r

/-- Store a word, keeping addresses rising and no entry equal to its reset value. -/
def regSet : List (Reg × Word) → Reg → Word → List (Reg × Word)
  | [], r, v => if v = r.resetWord then [] else [(r, v)]
  | (q, w) :: t, r, v =>
    if q.addr < r.addr then (q, w) :: regSet t r v
    else if q.addr = r.addr then (if v = r.resetWord then t else (r, v) :: t)
    else if v = r.resetWord then (q, w) :: t else (r, v) :: (q, w) :: t

/-- The canonical form: addresses strictly rising, no entry equal to its reset value. -/
def regsOk : List (Reg × Word) → Bool
  | [] => true
  | [(q, w)] => w != q.resetWord
  | (q, w) :: (r, v) :: t => w != q.resetWord && q.addr < r.addr && regsOk ((r, v) :: t)

/-- The stored word of a register. -/
def Chip.rd (c : Chip) (r : Reg) : Word := regGet c.regs r

/-- Store a word in a register. -/
def Chip.wr (c : Chip) (r : Reg) (v : Word) : Chip := { c with regs := regSet c.regs r v }

/-- A field of a stored register. -/
def Chip.get (c : Chip) (r : Reg) (f : Field) : Nat := fget (c.rd r) f

/-- A one-bit field. -/
def Chip.bit (c : Chip) (r : Reg) (f : Field) : Bool := c.get r f != 0

/-- Write one field. -/
def Chip.setF (c : Chip) (r : Reg) (f : Field) (v : Nat) : Chip := c.wr r (fset (c.rd r) f v)

/-- Write a one-bit field. -/
def Chip.setB (c : Chip) (r : Reg) (f : Field) (b : Bool) : Chip := c.setF r f (bitOf b)

/-- Add to a counter field that saturates. -/
def Chip.incSat (c : Chip) (r : Reg) (f : Field) (n : Nat := 1) : Chip :=
  c.setF r f (sat (f.hi + 1 - f.lo) (c.get r f + n))

/-- A field that reads 1 in place of 0 (the "0 reads as 1" of the register tables). -/
def Chip.getPos (c : Chip) (r : Reg) (f : Field) : Nat := max 1 (c.get r f)

/-! ### Status registers (R316) -/

/-- SEQ[31:24] of every status register. -/
def seqF : Field := ⟨31, 24, .seq⟩

/-- Advance SEQ by 1 modulo 256. -/
def Chip.bump (c : Chip) (r : Reg) : Chip := c.setF r seqF ((c.get r seqF + 1) % 256)

/-- Record an event: set the RS bit and advance SEQ, even when the bit is already set. -/
def Chip.record (c : Chip) (r : Reg) (f : Field) : Chip := (c.setF r f 1).bump r

/-- Write a status field in a register whose SEQ advances on each change. -/
def Chip.setSt (c : Chip) (r : Reg) (f : Field) (v : Nat) : Chip :=
  if c.get r f = v then c else (c.setF r f v).bump r

/-- Set or clear bit `i` of a field, advancing SEQ on a change. -/
def Chip.setStBit (c : Chip) (r : Reg) (f : Field) (i : Nat) (b : Bool) : Chip :=
  c.setSt r ⟨f.lo + i, f.lo + i, f.acc⟩ (bitOf b)

/-- One bit of a field. -/
def Chip.bitAt (c : Chip) (r : Reg) (f : Field) (i : Nat) : Bool := (c.rd r).getLsbD (f.lo + i)

/-! ### Vector entries -/

def Chip.updPort (c : Chip) (n : Port) (f : PortSt → PortSt) : Chip := { c with ports := c.ports.set n (f c.ports[n]) }
def Chip.updDoor (c : Chip) (d : Door) (f : DoorSt → DoorSt) : Chip := { c with doors := c.doors.set d (f c.doors[d]) }
def Chip.updEng (c : Chip) (e : Engine) (f : EngineSt → EngineSt) : Chip :=
  { c with engines := c.engines.set e (f c.engines[e]) }
def Chip.updBasin (c : Chip) (b : Basin) (f : BasinSt → BasinSt) : Chip :=
  { c with basins := c.basins.set b (f c.basins[b]) }
def Chip.updChan (c : Chip) (n : Port) (f : Chan → Chan) : Chip := { c with chans := c.chans.set n (f c.chans[n]) }
def Chip.updRail (c : Chip) (j : RailId) (f : Rail → Rail) : Chip := { c with rails := c.rails.set j (f c.rails[j]) }
def Chip.updLane (c : Chip) (l : LaneId) (f : Lane → Lane) : Chip :=
  { c with trunk := { c.trunk with lanes := c.trunk.lanes.set l (f c.trunk.lanes[l]) } }
def Chip.updFl (c : Chip) (d : Die) (f : FLink → FLink) : Chip := { c with fl := c.fl.set d (f c.fl[d]) }
def Chip.updBelt (c : Chip) (b : Belt) (f : BeltSt → BeltSt) : Chip :=
  { c with sei := { c.sei with belts := c.sei.belts.set b (f c.sei.belts[b]) } }
def Chip.updInlet (c : Chip) (i : Io) (f : InletSt → InletSt) : Chip :=
  { c with sei := { c.sei with inlets := c.sei.inlets.set i (f c.sei.inlets[i]) } }
def Chip.updOutfall (c : Chip) (o : Io) (f : OutfallSt → OutfallSt) : Chip :=
  { c with sei := { c.sei with outfalls := c.sei.outfalls.set o (f c.sei.outfalls[o]) } }
def Chip.updDrop (c : Chip) (n : Port) (f : Drop → Drop) : Chip := c.updPort n (fun p => { p with drop := f p.drop })
def Chip.updLine (c : Chip) (n : Port) (f : Line → Line) : Chip := c.updPort n (fun p => { p with line := f p.line })
def Chip.updPd (c : Chip) (n : Port) (f : Pd → Pd) : Chip := c.updPort n (fun p => { p with pd := f p.pd })
def Chip.updTrunk (c : Chip) (f : Trunk → Trunk) : Chip := { c with trunk := f c.trunk }
def Chip.updClk (c : Chip) (f : Clk → Clk) : Chip := { c with clk := f c.clk }
def Chip.updFw (c : Chip) (f : Fw → Fw) : Chip := { c with fw := f c.fw }
def Chip.updPond (c : Chip) (f : Pond → Pond) : Chip := { c with pond := f c.pond }
def Chip.updSvc (c : Chip) (f : SvcState → SvcState) : Chip := { c with svc := f c.svc }
def Chip.updPwr (c : Chip) (f : Pwr → Pwr) : Chip := { c with pwr := f c.pwr }
def Chip.updBead (c : Chip) (f : BeadSt → BeadSt) : Chip := { c with bead := f c.bead }
def Chip.updFab (c : Chip) (f : Fabric → Fabric) : Chip := { c with fab := f c.fab }
def Chip.updSei (c : Chip) (f : Seiche → Seiche) : Chip := { c with sei := f c.sei }

/-- Apply a step once for each element of a list. -/
def Chip.each {α : Type} (c : Chip) (l : List α) (f : Chip → α → Chip) : Chip := l.foldl f c

/-- Apply a step where a condition holds. -/
def Chip.when (c : Chip) (b : Bool) (f : Chip → Chip) : Chip := if b then f c else c

/-- Draw a free value: what the manual leaves open (Config.freeValue), anew each time. -/
def Chip.draw (c : Chip) : BitVec 64 × Chip := (Config.freeValue c.freeCtr, { c with freeCtr := c.freeCtr + 1 })

/-! ### Fault sources and status balls (R326, R356) -/

/-- Bits of GLB_FAULT.SRC (table *Fault sources*). -/
inductive FaultSrc where
  | xtal | pll | supply | cdc | cw | parity | key | pondUe | pondCe | queuePtr | engine | spares | fuseLink | fet
  | trip | rail | lane | tarn | handoff | boot | eventsLost | time | line | pd
deriving DecidableEq, Repr

/-- A source's bit number. -/
def FaultSrc.bit : FaultSrc → Nat
  | .xtal => 0 | .pll => 1 | .supply => 2 | .cdc => 3 | .cw => 4 | .parity => 5 | .key => 6 | .pondUe => 7
  | .pondCe => 8 | .queuePtr => 9 | .engine => 10 | .spares => 11 | .fuseLink => 12 | .fet => 13 | .trip => 14
  | .rail => 15 | .lane => 16 | .tarn => 17 | .handoff => 18 | .boot => 19 | .eventsLost => 20 | .time => 21
  | .line => 22 | .pd => 23

/-- FAULT_N asserted (R326, R356). -/
def Chip.faultOn (c : Chip) : Bool :=
  c.clk.bootFault || (c.get .GLB_FAULT F.GLB_FAULT_SRC &&& c.get .GLB_FAULT_EN F.GLB_FAULT_EN_FAULT_EN) != 0

/-- ALERT_N asserted (R326). -/
def Chip.alertOn (c : Chip) : Bool :=
  (c.get .GLB_FAULT F.GLB_FAULT_SRC &&& c.get .GLB_ALERT_EN F.GLB_ALERT_EN_ALERT_EN) != 0

/-- Bring both balls to their levels; a ball once low stays low for 10 µs (R356). In Sleep and deeper they hold (R339). -/
def Chip.balls (c : Chip) : Chip :=
  if c.pwr.st = .run ∨ c.pwr.st = .idle then
    let k := c.clk
    let f := c.faultOn
    let a := c.alertOn
    let fu := if f && !k.faultLow then some (k.now + us 10) else k.faultUntil
    let au := if a && !k.alertLow then some (k.now + us 10) else k.alertUntil
    { c with clk := { k with
        faultLow := f || fu.any (k.now < ·)
        faultUntil := fu
        alertLow := a || au.any (k.now < ·)
        alertUntil := au } }
  else c

/-- R362: a snapshot is due for an event, at most one per source per second. -/
def Chip.snapDue (c : Chip) (src : Nat) (e : Event) : Chip :=
  if (lookupNat c.bead.snapAt src).any (fun t => c.clk.now < t + sec 1) then c
  else c.updBead (fun b => { b with snapsDue := b.snapsDue ++ [e], snapAt := insertNat b.snapAt src c.clk.now })

/-- An occurrence of a fault source's condition (R326): its bit set, SEQ advanced, the balls driven, and a snapshot of
its event due where the source is enabled in FAULT_EN (R362). -/
def Chip.fault (c : Chip) (s : FaultSrc) (e : Event) : Chip :=
  let c := c.record .GLB_FAULT ⟨s.bit, s.bit, .rs⟩
  let c := if c.bitAt .GLB_FAULT_EN F.GLB_FAULT_EN_FAULT_EN s.bit then c.snapDue s.bit e else c
  c.balls

end Sys2Proof.Machine
end

