-- ==== Sys2Proof/Machine/Ops.lean ====
section
/-! DEFINITION. The shared operations over doors: events and their routing (R137 to R139, R378), epochs (R140), cullet
queues (R143), responses (R136), claim and release (R129 to R131), epoch checks (R141), start order (R144), and the frame
of a door request's execution. -/

namespace Sys2Proof.Machine

/-! ### Events -/

/-- The epoch of an object (R140); 0 for objects without one. Kinds as TGT_KIND and SRC_KIND. -/
def Chip.epochOf (c : Chip) (kind index : Nat) : BitVec 16 :=
  match kind with
  | 1 => if h : index < 96 then c.ports[index].epoch else 0#16
  | 2 => if h : index < 512 then c.engines[index].epoch else 0#16
  | 3 =>
    let p := nodePort index
    if h : p < 96 then (lookupNat c.ports[p].nodeEpochs (nodeAddr index)).getD 0#16 else 0#16
  | 4 => if h : index < 8 then c.doors[index].epoch else 0#16
  | _ => 0#16

/-- An event of this moment (R137). -/
def Chip.ev (c : Chip) (code kind index : Nat) (payload : List Nat) : Event :=
  { code := code, srcKind := kind, index := index, epoch := c.epochOf kind index, time := c.sei.time, payload := payload }

/-- An event with a result (R137: RESULT_VALID is FLAGS bit 2). -/
def Event.withResult (e : Event) (r : Nat) : Event := { e with flags := e.flags ||| 4, result := r }

/-- Put an event into a claimed door's ring, or drop it at 4,095 held entries (R139). -/
def DoorSt.put (d : DoorSt) (e : Event) : DoorSt :=
  if d.path.isNone then d
  else if 4095 ≤ d.evts.length then
    { d with
      evtSeq := d.evtSeq + 1
      lostCount := sat 16 (d.lostCount + 1)
      lost := some (match d.lost with
        | none => ⟨d.evtSeq, d.evtSeq, 1⟩
        | some r => { r with last := d.evtSeq, count := r.count + 1 }) }
  else
    { d with
      evtSeq := d.evtSeq + 1
      gapNext := false
      evts := d.evts ++ [{ e with seq := d.evtSeq, flags := if d.gapNext then e.flags ||| 1 else e.flags }] }

/-- Whether a door takes an event by its mask: bit (CODE >> 8) of SUBSCRIBE (R137). -/
def DoorSt.wants (d : DoorSt) (e : Event) : Bool := d.path.isSome && d.sub.getLsbD (e.code / 256)

/-- Whether door `i` receives an event on a route. -/
def Chip.routed (c : Chip) (r : Route) (e : Event) (i : Nat) (d : DoorSt) : Bool :=
  match r with
  | .subs => d.wants e
  | .door x => i == x.val && d.path.isSome
  | .owner none => d.wants e
  | .owner (some x) => if c.doors[x].path.isSome then i == x.val else d.wants e
  | .except x => i != x.val && d.wants e
  | .others x => i != x.val && d.path.isSome

/-- The device is in Sleep or Deep sleep. -/
def Chip.asleep (c : Chip) : Bool := c.pwr.st == .sleep || c.pwr.st == .deep

/-- A door takes an event into its ring; one raised in Sleep or Deep sleep waits for the return to Run (R336). -/
def DoorSt.take (d : DoorSt) (asleep : Bool) (e : Event) : DoorSt :=
  if asleep then { d with queued := d.queued ++ [e] } else d.put e

/-- Post an event on a route (R137). -/
def Chip.postR (c : Chip) (r : Route) (e : Event) : Chip :=
  { c with doors := c.doors.mapFinIdx (fun i d _ => if c.routed r e i d then d.take c.asleep e else d) }

/-- The events that waited in Sleep or Deep sleep enter the rings, in order (R336 step 2). -/
def Chip.releaseEvents (c : Chip) : Chip :=
  { c with doors := c.doors.map (fun d => d.queued.foldl DoorSt.put { d with queued := [] }) }

/-- Post an event to every subscribed door. -/
def Chip.post (c : Chip) (e : Event) : Chip := c.postR .subs e

/-- Post an event of an object made through a door (R137). -/
def Chip.postOwn (c : Chip) (d : Option Door) (e : Event) : Chip := c.postR (.owner d) e

/-- Post an event that sets a fault source (R326). -/
def Chip.postFault (c : Chip) (s : FaultSrc) (e : Event) : Chip := (c.fault s e).post e

/-- The payload with its count field replaced (R378). -/
def Event.withCount (e : Event) (pos : Option Nat) (n : Nat) : Event :=
  match pos with
  | none => e
  | some i => { e with payload := e.payload.set i n }

/-- Post an event at most once per interval for a source (R378): at once when no window is open, else held back. `n`
occurrences; `pos` the payload's count. -/
def Chip.postRateR (c : Chip) (route : Route) (interval src : Nat) (e : Event) (pos : Option Nat := none) (n : Nat := 1) :
    Chip :=
  let here (w : RateWin) : Bool := w.code == e.code && w.src == src
  match c.rates.find? here with
  | none =>
    let c := c.postR route (e.withCount pos n)
    let w : RateWin := { code := e.code, src := src, interval := interval, ends := c.clk.now + interval, held := none,
                         count := 0, countPos := pos, route := route }
    { c with rates := c.rates ++ [w] }
  | some _ =>
    { c with rates := updFirst here (fun w => { w with held := some e, count := w.count + n, route := route }) c.rates }

/-- `postRateR` to subscribed doors. -/
def Chip.postRate (c : Chip) (interval src : Nat) (e : Event) (pos : Option Nat := none) (n : Nat := 1) : Chip :=
  c.postRateR .subs interval src e pos n

/-- The end of a rate-limit window (R378): a held-back occurrence is posted MERGED and opens a new window. -/
def Chip.rateEnd (c : Chip) (code src : Nat) : Chip :=
  let here (w : RateWin) : Bool := w.code == code && w.src == src
  match c.rates.find? here with
  | none => c
  | some w =>
    if c.clk.now < w.ends then c
    else match w.held with
      | none => { c with rates := dropFirst here c.rates }
      | some e =>
        let c := c.postR w.route { e.withCount w.countPos w.count with flags := e.flags ||| 2 }
        { c with rates :=
            updFirst here (fun w => { w with held := none, count := 0, ends := c.clk.now + w.interval }) c.rates }

/-! ### Epochs (R140) -/

/-- EPOCH_CHANGED (0x0164): object kind, index, new epoch, bit "all node addresses". -/
def Chip.evEpoch (c : Chip) (kind index : Nat) (all : Bool) : Event :=
  c.ev 0x0164 kind index [kind, index, (c.epochOf kind index).toNat, bitOf all]

def Chip.bumpPort (c : Chip) (n : Port) : Chip :=
  let c := c.updPort n (fun p => { p with epoch := p.epoch + 1 })
  c.post (c.evEpoch 1 n false)

def Chip.bumpEngine (c : Chip) (e : Engine) : Chip :=
  let c := c.updEng e (fun s => { s with epoch := s.epoch + 1 })
  c.post (c.evEpoch 2 e false)

/-- The epoch of one node address increments. -/
def PortSt.bumpNode (p : PortSt) (a : Nat) : PortSt :=
  let v := (lookupNat p.nodeEpochs a).getD 0#16 + 1
  { p with nodeEpochs := if v = 0#16 then eraseNat p.nodeEpochs a else insertNat p.nodeEpochs a v }

def Chip.bumpNode (c : Chip) (n : Port) (a : Nat) : Chip :=
  let c := c.updPort n (fun p => p.bumpNode a)
  c.post (c.evEpoch 3 (nodeIndex n a) false)

/-- A port leaving LINE increments all of its node addresses 1 to 126 and posts one event (R140). -/
def Chip.bumpAllNodes (c : Chip) (n : Port) : Chip :=
  let c := c.updPort n (fun p => (List.range 126).foldl (fun p i => p.bumpNode (i + 1)) p)
  c.post (c.evEpoch 1 n true)

/-- A door epoch increments; its event never goes to that door (R140). -/
def Chip.bumpDoor (c : Chip) (d : Door) : Chip :=
  let c := c.updDoor d (fun s => { s with epoch := s.epoch + 1 })
  c.postR (.except d) (c.evEpoch 4 d false)

/-! ### Cullet queues (R143) -/

/-- An item into a door's cullet queue of 64. -/
def Chip.cullDoor (c : Chip) (d : Door) (source result : Nat) (expected current : BitVec 16) (item : List Byte) : Chip :=
  let s := c.doors[d]
  if 64 ≤ s.cullet.length then c.updDoor d (fun s => { s with culletLost := s.culletLost + 1 })
  else
    let first := s.cullet.isEmpty
    let c := c.updDoor d (fun s =>
      { s with cullet := s.cullet ++ [Cullet.mk source result expected current c.sei.time (bytesAt item 0 48)] })
    if first then c.postRateR (.door d) (ms 1) d.val (c.ev 0x0163 4 d [d.val, 1]) else c

/-- The code of the device queue in CULLET_POSTED's payload, whose numbers the manual does not give: 0xFF (DESIGN CHOICE, log entry
189). -/
def cullDevCode : Nat := 0xFF

/-- An item into the device cullet queue of 256; every entry posts CULLET_POSTED. -/
def Chip.cullDev (c : Chip) (source result : Nat) (expected current : BitVec 16) (item : List Byte) : Chip :=
  if 256 ≤ c.cullet.length then { c with culletLost := c.culletLost + 1 }
  else
    let c := { c with cullet := c.cullet ++ [Cullet.mk source result expected current c.sei.time (bytesAt item 0 48)] }
    c.postRate (ms 1) cullDevCode (c.ev 0x0163 0 0 [cullDevCode, c.cullet.length])

/-! ### The request ring and responses -/

/-- The ring entry of a request. -/
def Chip.entry? (c : Chip) (q : ReqId) : Option ReqEntry := c.doors[q.door].reqs.find? (fun e => e.ord == q.ord)

/-- Move a request to another progress state (R75). -/
def Chip.setReqSt (c : Chip) (q : ReqId) (st : ReqSt) : Chip :=
  c.updDoor q.door (fun d => { d with reqs := updFirst (fun e => e.ord == q.ord) (fun e => { e with st := st }) d.reqs })

/-- Response parts into the 256-entry ring, the rest as entries free (R136). -/
def DoorSt.push (d : DoorSt) (ps : List RspPart) : DoorSt :=
  let all := d.rspWait ++ ps
  let room := 256 - d.rsps.length
  { d with rsps := d.rsps ++ all.take room, rspWait := all.drop room }

/-- The leading parts of one response, at most `n`. -/
def oneResponse : Nat → List RspPart → List RspPart
  | 0, _ => []
  | _, [] => []
  | n + 1, p :: t => if p.part + 1 = p.parts then [p] else p :: oneResponse n t

/-- Parts leave the response ring; the last of a response frees its request entry (R133, R136). -/
def DoorSt.sendParts (s : DoorSt) (ps : List RspPart) : DoorSt :=
  let freed := ps.filterMap (·.frees)
  ({ s with rsps := ps.foldl (fun l p => dropFirst (· == p) l) s.rsps
            reqs := s.reqs.filter (fun e => !freed.contains e.ord) }).push []

/-- The doors are stalled: step 4 of a handoff, in which responses wait (R98, R100). -/
def Chip.doorStall (c : Chip) : Bool := c.fw.handoff.any (fun h => h.step == 4)

/-- The service port carries a door's requests, responses and events (R128): configured, its bus not suspended, the device
in Run or Idle, and no recovery boot (R85). -/
def Chip.svcLive (c : Chip) : Bool :=
  (c.pwr.st == .run || c.pwr.st == .idle) && c.clk.boot != .held && c.clk.boot != .recovery && c.svcPort.address != 0 &&
    c.svcPort.config != 0 && c.svcPort.suspendedAt.isNone

/-- The next response part of each door for the service port leaves its ring (R136). -/
def Chip.svcResponses (c : Chip) : Chip :=
  if c.svcLive && !c.doorStall then
    c.each (List.finRange 8) (fun c d =>
      match (c.doors[d]).rsps.find? (fun p => p.path == .svc) with
      | none => c
      | some p => c.updDoor d (fun x => x.sendParts [p]))
  else c

/-- The parts of a response of `nbytes` data bytes (R136). -/
def rspParts (path : Path) (frees : Option Nat) (r : Request) (result : Nat) (epoch : BitVec 16) (num : Nat)
    (data : List Nat) (nbytes : Nat) : List RspPart :=
  let n := max 1 ((nbytes + 47) / 48)
  (List.range n).map (fun i =>
    { path := path, frees := if i + 1 = n then frees else none, opcode := r.opcode, tag := r.tag, result := result,
      parts := n, part := i, tgtEpoch := epoch, dataLen := min 48 (nbytes - 48 * i), reqNum := num,
      data := data })

/-- The current epoch of a request's target, as a response carries it. -/
def Chip.tgtEpoch (c : Chip) (r : Request) : BitVec 16 :=
  if namesTarget r.tgtKind r.tgtIndex then c.epochOf r.tgtKind r.tgtIndex else 0#16

/-- A response made without a ring entry: WAIT or a cull at acceptance (R136). -/
def Chip.answerFree (c : Chip) (d : Door) (path : Path) (r : Request) (result : Nat) : Chip :=
  let num := if c.doors[d].path.isSome then c.doors[d].reqNum else 0
  c.updDoor d (fun s => s.push (rspParts path none r result (c.tgtEpoch r) num [] 0))

/-- Number of requests that execute on a door, those that wait for its release itself apart: the forced claim and the
DOOR_RELEASE (R131). -/
def DoorSt.executing (d : DoorSt) : Nat :=
  (d.reqs.filter (fun e => e.st == .executing && some e.ord != d.takeover.map (·.req.ord) &&
    some e.ord != d.releaseReq.map (·.ord))).length

/-- DOOR_CLAIMED and the door epoch at a claim (R129, R114): the door's own rings start anew. -/
def Chip.claimDoor (c : Chip) (d : Door) (path : Path) (owner : BitVec 64) (sub : BitVec 16) : Chip :=
  let c := c.updDoor d (fun s =>
    { s with
      path := some path, owner := owner, sub := sub, leaseFrom := c.clk.now, releasing := none, takeover := none, releaseReq := none
      evts := [], sent := 0, evtSeq := 0#32, lost := none, lostCount := 0, gapNext := false, reqNum := 0 })
  let c := c.bumpDoor d
  let c := c.postR (.except d) (c.ev 0x0160 4 d [d.val, (match path with | .trunk => 1 | .svc => 2), owner.toNat])
  if path = .trunk then
    c.updTrunk (fun t =>
      { t with rx := t.rx.filter (fun x => !(x.cls == 0 && x.id == d.val)) ++
          [{ cls := 0, id := d.val, last := none, buf := [] }] })
  else c

/-- Answer a request whose entry is given, on a door that is not being released. -/
def Chip.answerEntry (c : Chip) (q : ReqId) (e : ReqEntry) (result : Nat) (data : List Nat) (nbytes : Nat) : Chip :=
  let num := if c.doors[q.door].path.isSome then e.num else 0
  let c := c.setReqSt q .done
  c.updDoor q.door (fun s => s.push (rspParts e.path (some q.ord) e.req result (c.tgtEpoch e.req) num data nbytes))

/-- The door that makes a claim over a path refused (R129): the service port holds any door, or the path holds this one. -/
def Chip.claimBar (c : Chip) (p : Path) (d : Door) : Option Door :=
  if (c.doors[d]).path = some p then some d
  else match p with
    | .svc => (List.finRange 8).find? (fun x => (c.doors[x]).path == some .svc)
    | .trunk => none

/-- The answer to the DOOR_RELEASE that made a release: after every event of step 3, and the last on the door (R131, R144).
It is made before steps 4 to 6, under the door epoch and the REQ_NUM the door then has (DESIGN CHOICE, log entry 242). -/
def Chip.answerRelease (c : Chip) (d : Door) (result : Nat) : Chip :=
  match (c.doors[d]).releaseReq with
  | none => c
  | some q =>
    let c := match c.entry? q with
      | none => c
      | some e => c.answerEntry q e result [] 0
    c.updDoor d (fun s => { s with releaseReq := none })

/-- Steps 4 to 6 of a release, once no executing request is left (R131), with the answer to its DOOR_RELEASE before them;
then a forced claim that waited. The claim is refused where the service port has come to hold another door meanwhile (R129,
first case; DESIGN CHOICE that it is looked at again). -/
def Chip.finishRelease (c : Chip) (d : Door) : Chip :=
  let s := c.doors[d]
  match s.releasing with
  | none => c
  | some cause =>
    if s.executing ≠ 0 then c
    else
      let c := c.answerRelease d rOK
      let c := c.updDoor d (fun s =>
        { s with path := none, releasing := none, takeover := none, releaseReq := none, evts := [], sent := 0, lost := none, owner := 0#64,
                 sub := 0#16 })
      let c := c.bumpDoor d
      let c := c.postR (.others d) (c.ev 0x0161 4 d [d.val, cause])
      let c := c.updTrunk (fun t =>
        { t with rx := t.rx.filter (fun x => !(x.cls == 0 && x.id == d.val)) })
      match s.takeover with
      | none => c
      | some t =>
        match c.claimBar .svc d, c.entry? t.req with
        | some h, some e => c.answerEntry t.req { e with num := 0 } rLOCKED [h.val] 1
        | some _, none => c
        | none, e =>
          let c := c.claimDoor d .svc t.owner t.sub
          match e with
          | none => c
          | some e => c.answerEntry t.req { e with num := 0 } rOK
              [(c.doors[d].epoch).toNat, c.get .MBX_CTL F.MBX_CTL_LEASE] 3

/-- Answer an executing request (R136); on a door being released its response is discarded and its result culled (R131), but
for the DOOR_RELEASE itself and the forced claim that wait for the release. -/
def Chip.answer (c : Chip) (q : ReqId) (result : Nat) (data : List Nat := []) (nbytes : Nat := 0) : Chip :=
  match c.entry? q with
  | none => c
  | some e =>
    let s := c.doors[q.door]
    if e.st = .done then c
    else if s.releasing.isSome && s.releaseReq == some q then (c.answerRelease q.door result).finishRelease q.door
    else if s.releasing.isSome && (s.takeover.map (·.req) != some q) then
      let c := c.updDoor q.door (fun s => { s with reqs := s.reqs.filter (fun x => x.ord != q.ord) })
      let c := c.cullDoor q.door 1 result e.req.doorEpoch s.epoch (requestBytes e.req)
      c.finishRelease q.door
    else c.answerEntry q e result data nbytes

/-- Answer the request that waits for an operation, if a request asked for it. -/
def Chip.answerOpt (c : Chip) (q : Option ReqId) (result : Nat) (data : List Nat := []) (nbytes : Nat := 0) : Chip :=
  match q with
  | none => c
  | some q => c.answer q result data nbytes

/-- A mode change whose request will never run is no change any more (R30). -/
def Chip.dropSeq (c : Chip) (q : ReqId) (e : ReqEntry) : Chip :=
  if e.bump then
    c.updPort (Fin.ofNat 96 e.req.tgtIndex) (fun p =>
      { p with seqs := p.seqs.filter (fun m => m.started || m.req != some q) })
  else c

/-- Steps 1 and 2 of a release (R131): the door accepts nothing more, its pending requests are culled. -/
def Chip.beginRelease (c : Chip) (d : Door) (cause : Nat) (take : Option Takeover) : Chip :=
  let s := c.doors[d]
  let pend := s.reqs.filter (fun e => e.st == .pending)
  let c := c.updDoor d (fun s =>
    { s with releasing := some cause, takeover := take, reqs := s.reqs.filter (fun e => e.st != .pending) })
  c.each pend (fun c e =>
    (c.dropSeq ⟨d, e.ord⟩ e).cullDoor d 1 rROLE_CHANGED e.req.doorEpoch s.epoch (requestBytes e.req))

/-- Release a door (R131): steps 1 and 2, then steps 4 to 6 when no executing request is left. -/
def Chip.release (c : Chip) (d : Door) (cause : Nat) (take : Option Takeover := none) : Chip :=
  let s := c.doors[d]
  if s.path.isNone ∨ s.releasing.isSome then c else (c.beginRelease d cause take).finishRelease d

/-- The release that DOOR_RELEASE makes: the events of its culled and its executing requests come before its response (R144),
which is the last on the door (R131, log entry 242). -/
def Chip.releaseBy (c : Chip) (q : ReqId) : Chip :=
  match c.entry? q with
  | none => c
  | some _ =>
    let d := q.door
    if (c.doors[d]).path.isNone ∨ (c.doors[d]).releasing.isSome then c
    else ((c.beginRelease d 0 none).updDoor d (fun s => { s with releaseReq := some q })).finishRelease d

/-- EVENTS_LOST (0x0162) once a ring has fallen to 3,840 entries (R139). -/
def Chip.lostReport (c : Chip) (d : Door) : Chip :=
  let x := c.doors[d]
  match x.lost with
  | none => c
  | some r =>
    if 3840 < x.evts.length then c
    else
      let e := { c.ev 0x0162 4 d.val [r.first.toNat, r.last.toNat, min r.count 0xFFFFFF] with flags := 1 }
      let c := (c.updDoor d (fun x => { x with lost := none })).postR (.door d) e
      c.fault .eventsLost e

/-! ### Ports and basins -/

/-- The basin of a port (R26). -/
def basinOf (n : Port) : Basin := Fin.ofNat 16 (n.val / 6)

/-- No PLL clocks the device (R65): Headspring, or the boot ROM, runs on the FRC, and engines, ports, Seiche and trunk have no
clock. -/
def Chip.noPll (c : Chip) : Bool := c.clk.boot == .firmware || c.clk.boot == .frcOnly || c.clk.boot == .recovery

/-- Engines and Headspring are without a clock: in Sleep or deeper, or from step 3 of an entry (R333). -/
def Chip.dozing (c : Chip) : Bool := c.asleep || c.pwr.entry.any (fun e => 3 ≤ e.step)

/-- The engines of a port's basin run: firmware has released them (R65), no basin-scope reset, not held (R69, R352), and the power
state leaves them a clock (R327, R333). -/
def Chip.basinUp (c : Chip) (n : Port) : Bool :=
  c.clk.boot == .live && !(c.basins[basinOf n]).inReset && !c.dozing && c.pwr.st != .off

/-- An escalation (R350): ESC_LAST, ESCALATED (0x0184) with ladder, rung, index and first fault, and a snapshot (R362). -/
def Chip.escalate (c : Chip) (ladder rung index first : Nat) : Chip :=
  let c := c.setF .ESC_LAST F.ESC_LAST_INDEX index
  let c := c.setF .ESC_LAST F.ESC_LAST_LADDER ladder
  let c := (c.setF .ESC_LAST F.ESC_LAST_RUNG rung).bump .ESC_LAST
  let e := c.ev 0x0184 0 index [ladder, rung, index, first]
  (c.post e).snapDue 24 e

/-! ### Acceptance (R132, R133, R141) -/

/-- A carried epoch against the current one (R141): the result code of a mismatch. -/
def epochVerdict (v cur : BitVec 16) : Option Nat :=
  match serial v cur with
  | .equal => none
  | .behind => some rROLE_CHANGED
  | .ahead => some rBAD_EPOCH

/-- The first differing epoch of a request: DOOR_EPOCH, the TTP EPOCH, then TGT_EPOCH (R132). -/
def Chip.checkEpochs (c : Chip) (d : Door) (r : Request) (ttp : Option (BitVec 16)) (tgt : Bool) :
    Option (Nat × BitVec 16 × BitVec 16) :=
  let cur := c.doors[d].epoch
  let one (v w : BitVec 16) := (epochVerdict v w).map (fun x => (x, v, w))
  let t := c.tgtEpoch r
  (one r.doorEpoch cur).orElse (fun _ =>
    (ttp.bind (fun v => one v cur)).orElse (fun _ =>
      if tgt && namesTarget r.tgtKind r.tgtIndex then one r.tgtEpoch t else none))

/-- DOOR_CLAIM's opcode (06). -/
def opDOOR_CLAIM : BitVec 16 := 0x0102#16
/-- PORT_MODE's opcode (13). -/
def opPORT_MODE : BitVec 16 := 0x0301#16

/-- The mode PORT_MODE names, in its first argument byte: 0 OFF, 1 DROP, 2 LINE (13). -/
def modeOf (m : Nat) : Option PMode :=
  match m with
  | 0 => some .off
  | 1 => some .drop
  | 2 => some .line
  | _ => none

/-- WIRING admits a mode (R29): 0b00 none, 0b01 DROP, 0b10 LINE, 0b11 BOTH. -/
def Chip.wiringOk (c : Chip) (n : Port) (m : PMode) : Bool :=
  let w := c.get (.PIN_CFG n) F.PIN_CFG_WIRING
  match m with
  | .off => true
  | .drop => w % 2 == 1
  | .line => w / 2 == 1

/-- The port mode that the last accepted change will reach, else the mode in force (R30). -/
def PortSt.targetMode (p : PortSt) : PMode :=
  match p.seqs.getLast? with
  | some m => m.goal
  | none => p.mode

/-- A PORT_MODE that is a mode change (R30): its MODE and CH are valid, WIRING admits the mode (R29), and it names another
mode than the target mode. MODE and CH stand in the first two argument bytes. -/
def Chip.modeChange? (c : Chip) (r : Request) : Option (Port × PMode × Nat) :=
  if h : r.opcode = opPORT_MODE ∧ r.tgtKind = 1 ∧ r.tgtIndex < 96 then
    let n : Port := ⟨r.tgtIndex, h.2.2⟩
    match modeOf (leAt r.args 0 1) with
    | none => none
    | some m =>
      if leAt r.args 1 1 ≤ 2 ∧ c.wiringOk n m ∧ m ≠ (c.ports[n]).targetMode then some (n, m, leAt r.args 1 1) else none
  else none

/-- The engine clocks of gated basins start again. -/
def Chip.ungateBasins (c : Chip) : Chip :=
  if c.basins.any (·.gated) then { c with basins := c.basins.map (fun b => { b with gated := false }) } else c

/-- Activity ends the quiet interval (R330) and restarts gated clocks, Headspring's and those of basins (R328). -/
def Chip.active (c : Chip) : Chip :=
  let now := c.clk.now
  let c := c.updPwr (fun p =>
    { p with idleFrom := now, sleepFrom := now, deepFrom := now, sleepExp := false, deepExp := false, hsGated := false })
  if c.pwr.st = .idle then (c.updPwr (fun p => { p with st := .run, runFrom := now })).ungateBasins.setF .PWR_STATUS F.PWR_STATUS_STATE 0 else c

/-! ### Execution by firmware (R25, R135, R141, R144) -/

/-- Headspring is present (R25): it executes, and is not in steps 3 and 4 of a handoff (R98). -/
def Chip.hsPresent (c : Chip) : Bool := c.fw.hs == .run && !c.fw.handoff.any (fun h => h.step == 3 || h.step == 4)

/-- Firmware takes requests: Headspring present, the device in Run or Idle with its clocks on (R333). -/
def Chip.hsRuns (c : Chip) : Bool :=
  c.hsPresent && (c.pwr.st == .run || c.pwr.st == .idle) && !(c.pwr.entry.any (fun e => 3 ≤ e.step))

/-- An accepted request that has not completed. -/
def ReqEntry.open_ (e : ReqEntry) : Bool := e.st != .done

/-- Whether an earlier request holds a request back (R144 items 2 and 3). -/
def Chip.heldBack (c : Chip) (d : Door) (e : ReqEntry) : Bool :=
  let tgt := namesTarget e.req.tgtKind e.req.tgtIndex
  (e.req.fence && (c.doors[d]).reqs.any (fun x => x.ord < e.ord && x.open_)) ||
  (tgt && c.doors.any (fun s => s.reqs.any (fun x =>
    x.ord < e.ord && x.open_ && namesTarget x.req.tgtKind x.req.tgtIndex &&
      relatedTargets x.req.tgtKind x.req.tgtIndex e.req.tgtKind e.req.tgtIndex)))

/-- A request that firmware can take now. -/
def Chip.ready (c : Chip) (q : ReqId) (op : BitVec 16) : Option ReqEntry :=
  match c.entry? q with
  | none => none
  | some e => if e.st = .pending ∧ e.req.opcode = op ∧ c.hsRuns ∧ !c.heldBack q.door e then some e else none

/-- Firmware's own epoch check (R141): a DOOR_CLAIM and a request whose acceptance bumped its target are exempt. -/
def Chip.takeVerdict (c : Chip) (q : ReqId) (e : ReqEntry) : Option (Nat × BitVec 16 × BitVec 16) :=
  if e.req.opcode = opDOOR_CLAIM then none else c.checkEpochs q.door e.req none (!e.bump)

/-- Take a request from the ring and execute it (R141, R135). A request that cannot start yet stays as it is. -/
def Chip.serve (c : Chip) (q : ReqId) (op : BitVec 16) (kinds : List Nat) (body : ReqEntry → Chip → Chip) : Chip :=
  match c.ready q op with
  | none => c
  | some e =>
    match c.takeVerdict q e with
    | some (res, v, cur) =>
      (((c.dropSeq q e).cullDoor q.door 1 res v cur (requestBytes e.req)).setReqSt q .executing).answer q res
    | none =>
      let c := (c.setReqSt q .executing).active
      if badTarget e.req || !kinds.contains e.req.tgtKind then c.answer q rBAD_ARG
      else body e c

/-- `serve` for an opcode of target kind 1: the body gets the port. -/
def Chip.servePort (c : Chip) (q : ReqId) (op : BitVec 16) (body : Port → ReqEntry → Chip → Chip) : Chip :=
  c.serve q op [1] (fun e c => body (Fin.ofNat 96 e.req.tgtIndex) e c)

/-- `serve` for an opcode of target kind 3: the body gets the port and the node address. -/
def Chip.serveNode (c : Chip) (q : ReqId) (op : BitVec 16) (body : Port → Nat → ReqEntry → Chip → Chip) : Chip :=
  c.serve q op [3] (fun e c => body (Fin.ofNat 96 (nodePort e.req.tgtIndex)) (nodeAddr e.req.tgtIndex) e c)

/-- Configuration is frozen: requests that would write a configuration-class register are answered LOCKED (R323). -/
def Chip.frozen (c : Chip) : Bool := c.bit .CW_STATUS F.CW_STATUS_FROZEN

/-- The opcodes of the manual's tables, by family and low byte (R134, R135). -/
def knownOpcode (op : BitVec 16) : Bool :=
  let lo := op.toNat % 256
  let within (a b : Nat) : Bool := a ≤ lo && lo ≤ b
  match op.toNat / 256 with
  | 0x1 => within 0x01 0x0A || within 0x40 0x43 || within 0x80 0x81
  | 0x2 => within 0x01 0x05 || within 0x20 0x21
  | 0x3 => within 0x01 0x06 || within 0x10 0x15
  | 0x4 => within 0x01 0x0C
  | 0x5 => within 0x01 0x0C
  | 0x6 => within 0x01 0x09
  | 0x7 => within 0x01 0x0A
  | 0x8 => within 0x01 0x03
  | 0x9 => within 0x01 0x04 || within 0x10 0x11 || lo == 0x20 || lo == 0x30 || lo == 0x40 || lo == 0x50
  | 0xA => within 0x01 0x03
  | 0xB => within 0x01 0x04 || within 0x10 0x12
  | _ => false

/-- Firmware answers NOT_SUPPORTED to a startable request of an opcode that the manual does not have (R134), before it looks at the
target kind (DESIGN CHOICE, log entry 237). -/
def Chip.refuseUnknown (c : Chip) (q : ReqId) : Chip :=
  match c.entry? q with
  | none => c
  | some e =>
    if knownOpcode e.req.opcode ∨ e.req.opcode = Config.opStreamOpen ∨ e.req.opcode = Config.opStreamClose ∨
        (List.range 6).any (fun k => e.req.opcode == Config.opReset k) then c
    else c.serve q e.req.opcode [0, 1, 2, 3, 4] (fun _ c => c.answer q rNOT_SUPPORTED)

end Sys2Proof.Machine
end

