-- ==== Sys2Proof/Machine/Cross.lean ====
section
/-! DEFINITION. Clock-domain crossings (R71 to R74): pulses and their acknowledges, overruns, and what a crossing holds while
the clock of its destination is stopped. -/

namespace Sys2Proof.Machine

/-- Bits of CDC_OVR by block (03): basins at their number. -/
def cbTRUNK : Nat := 16
def cbSEICHE : Nat := 17
def cbAON : Nat := 23

/-- The clock of a block is stopped: without PLLs, or that of a basin while engines have none and while it is gated in Idle (R35,
R328, R333). -/
def Chip.blockStopped (c : Chip) (block : Nat) : Bool :=
  c.noPll || (block < 16 && (c.dozing || (c.basins[(Fin.ofNat 16 block : Basin)]).gated))

/-- A crossing is overrun (R72): the bit of its block in CDC_OVR, and CDC_OVERRUN (0x0205) with the block and the crossing's
number. -/
def Chip.cdcOverrun (c : Chip) (block num : Nat) : Chip :=
  let c := c.record .CDC_OVR ⟨block, block, .rs⟩
  c.postFault .cdc (c.ev 0x0205 0 0 [block, num])

/-- The pulses of a block, or of a part of it, that reset together with it (R67, R75). -/
def Chip.dropPulses (c : Chip) (p : Crossing → Bool) : Chip :=
  c.updClk (fun k => { k with cross := k.cross.filter (fun x => !p x) })

/-- A crossing internal to a port: its line control and its remote wake. -/
def Crossing.ofPort (x : Crossing) (n : Port) : Bool :=
  match x.item with
  | .write (.LINE_CTL m) _ => m == n
  | .remoteWake m => m == n
  | _ => false

/-- The acknowledge of the crossing's last pulse is still outstanding. -/
def Crossing.busy (x : Crossing) (now : Nat) : Bool :=
  match x.ack with
  | none => true
  | some t => now < t

/-- A pulse enters crossing `num` of a block (R71, R72): carried unless one is outstanding there. `span` is the time to its
acknowledge; with none the destination's clock is stopped and the crossing holds the pulse (R73). -/
def Chip.pulse (c : Chip) (block num : Nat) (item : Carried) (span : Option Nat) (carry : Chip → Chip) : Chip :=
  let here (x : Crossing) : Bool := x.block == block && x.num == num
  let now := c.clk.now
  if c.clk.cross.any (fun x => here x && x.busy now) then c.cdcOverrun block num
  else
    let x : Crossing := { block := block, num := num, item := item, ack := span.map (now + ·) }
    carry (c.updClk (fun k => { k with cross := k.cross.filter (fun y => !here y) ++ [x] }))

/-- The clock of a destination returns (R73): the pulses held by the crossings that satisfy `p` are delivered. -/
def Chip.deliverHeld (c : Chip) (p : Crossing → Bool) (act : Chip → Carried → Chip) : Chip :=
  let xs := c.clk.cross.filter (fun x => x.ack.isNone && p x)
  let c := c.updClk (fun k => { k with cross := k.cross.filter (fun x => !(x.ack.isNone && p x)) })
  c.each xs (fun c x => act c x.item)

/-- The bit of CDC_WAKE_MODE that sets the mode of a wake source's crossing; fuse trips have none and stay native. -/
def wakeModeBit (src idx : Nat) : Option Nat :=
  match src with
  | 2 => some 18
  | 3 => some 0
  | 4 => some 0
  | 5 => some 1
  | 6 => some 1
  | 7 => some (2 + idx / 6)
  | 8 => some (2 + idx / 6)
  | _ => none

/-- The number of a wake source's crossing in the always-on block (DESIGN CHOICE, log entry 166). -/
def wakeNum (src idx : Nat) : Nat := 128 * src + idx % 128

/-- A wake source's crossing is asynchronous (R74): WAKE_N's always, another's as CDC_WAKE_MODE sets it. -/
def Chip.wakeAsync (c : Chip) (src idx : Nat) : Bool :=
  src == 1 || (wakeModeBit src idx).any (fun k => (c.rd .CDC_WAKE_MODE).getLsbD k)

end Sys2Proof.Machine
end

