-- ==== Sys2Proof/Machine/Norm.lean ====
section
/-! DEFINITION. What register fields read as after a write: the clamps of the register tables ("0 reads as 1", "values
above 60 read as 60", …), and the write of a whole word that leaves RO, RS and SEQ bits as they are (R14, R316). -/

namespace Sys2Proof.Machine

/-- A field raised to 1 where it is 0. -/
def pos1 (f : Field) (w : Word) : Word := if fget w f = 0 then fset w f 1 else w

/-- A field clamped into a range. -/
def clampF (lo hi : Nat) (f : Field) (w : Word) : Word := fset w f (clampNat lo hi (fget w f))

/-- The word a register reads as after a write of `w`, by the notes of its table; MAX_LEN above 4,096 reads as 4,096 (DESIGN CHOICE,
log entry 240). -/
def normWord (r : Reg) (w : Word) : Word :=
  match r with
  | .MBX_CTL => clampF 0 60 F.MBX_CTL_LEASE w
  | .TRK_CFG2 => clampF 10 500 F.TRK_CFG2_REORDER_HOLD w
  | .POND_SCRUB => clampF 100 65535 F.POND_SCRUB_INTERVAL w
  | .DROP_CTL _ => if 2 ≤ fget w F.DROP_CTL_SPEED_MAX then fset w F.DROP_CTL_SPEED_MAX 0 else w
  | .DROP_WEIR _ => pos1 F.DROP_WEIR_NAK_BUDGET w
  | .DROP_PARISON _ => pos1 F.DROP_PARISON_PARISON_MAX w
  | .SVC_PROF_CTL _ =>
    clampF 1 4096 F.SVC_PROF_CTL_MAX_LEN (if fget w F.SVC_PROF_CTL_MODE = 3 then fset w F.SVC_PROF_CTL_MODE 0 else w)
  | .LINE_NBT _ => pos1 F.LINE_NBT_TSEG1 (pos1 F.LINE_NBT_TSEG2 w)
  | .LINE_POLL _ =>
    pos1 F.LINE_POLL_ADDR_QUAR (pos1 F.LINE_POLL_LOST_LIMIT (pos1 F.LINE_POLL_SLOW_LIMIT
      (pos1 F.LINE_POLL_POLL_MS (pos1 F.LINE_POLL_RESP w))))
  | .SEI_CTL => clampF 1 99 F.SEI_CTL_PPS_W w
  | .BELT_CTL _ =>
    let w := if fget w F.BELT_CTL_MODE = 3 then fset w F.BELT_CTL_MODE 0 else w
    clampF 0 8 F.BELT_CTL_RATE_N w
  | .BELT_ZCFG _ => pos1 F.BELT_ZCFG_Z_PPR w
  | .BELT_ARM _ => pos1 F.BELT_ARM_ARM_HORIZON w
  | .BELT_STOP _ => pos1 F.BELT_STOP_STOP_MS w
  | .CH_CFG _ => pos1 F.CH_CFG_RETRY_DELAY (pos1 F.CH_CFG_RETRY_MAX w)
  | .CH_INRUSH _ => clampF 1 200 F.CH_INRUSH_INRUSH_MAX (clampF 1 100 F.CH_INRUSH_P_SOA w)
  | .CH_LIMIT _ => pos1 F.CH_LIMIT_I_NOM w
  | .CH_SUSP _ => pos1 F.CH_SUSP_SUSP_I_NOM w
  | .CH_CURVE _ _ => pos1 F.CH_CURVE_T w
  | .RAIL_BUDGET _ => pos1 F.RAIL_BUDGET_SHED_GRACE w
  | .PD_CFG _ => if 2 ≤ fget w F.PD_CFG_POLICY then fset w F.PD_CFG_POLICY 0 else w
  | .PD_LIMIT _ =>
    clampF 3 255 F.PD_LIMIT_REDUCED_P (clampF 0 240 F.PD_LIMIT_PMAX (clampF 10 100 F.PD_LIMIT_IMAX w))
  | .PD_TIMING _ =>
    clampF 0 5 F.PD_TIMING_SWAP_RETRIES (pos1 F.PD_TIMING_SWAP_RETRY_WAIT (pos1 F.PD_TIMING_SLEW w))
  | .CW_CTL => pos1 F.CW_CTL_PAUSE_MAX w
  | .PWR_TIMER_0 => pos1 F.PWR_TIMER_0_IDLE_US (pos1 F.PWR_TIMER_0_SLEEP_S w)
  | .PWR_TIMER_1 => pos1 F.PWR_TIMER_1_DEEP_S w
  | .PWR_WAKE_EN => clampF 20 160 F.PWR_WAKE_EN_AIN_TH w
  | .ENG_CFG => pos1 F.ENG_CFG_POOL_BUDGET w
  | .GLB_FAULT_EN => w ||| 3#32
  | _ => w

/-- The bits a write can set: RW and K. -/
def Reg.rwMask (r : Reg) : Word := r.maskOf (fun a => a == .rw || a == .k)

/-- A write of a configuration-class register spoils a Clearwater pass that runs (R322). -/
def Chip.cfgWritten (c : Chip) (r : Reg) : Chip :=
  if r.cfg then c.updFab (fun x => { x with pass := x.pass.map (fun _ => true) }) else c

/-- Store the RW and K bits of a written word, as they then read. -/
def Chip.wrRW (c : Chip) (r : Reg) (w : Word) : Chip :=
  (c.cfgWritten r).wr r (normWord r ((c.rd r &&& ~~~r.rwMask) ||| (w &&& r.rwMask)))

/-- Write one RW or K field, as it then reads. -/
def Chip.setRW (c : Chip) (r : Reg) (f : Field) (v : Nat) : Chip :=
  (c.cfgWritten r).wr r (normWord r (fset (c.rd r) f v))

end Sys2Proof.Machine
end

