-- ==== Sys2Proof/Machine/PondOps.lean ====
section
/-! DEFINITION. The Pond (07): contexts by CID, the allocator's decision, frees, the wait list, pool events and the
engines' context caches. -/

namespace Sys2Proof.Machine

/-- Holders 96, 97 and 98 (R152). -/
def hMARK : Fin 99 := 96
def hSTREAM : Fin 99 := 97
def hMGMT : Fin 99 := 98
/-- The holder of a port (R152). -/
def hPort (n : Port) : Fin 99 := Fin.ofNat 99 n.val

/-- TYPE codes (R146). -/
def tDEV : Nat := 1
def tEP : Nat := 2
def tNODE : Nat := 3
def tOBJ : Nat := 4
def tMARK : Nat := 5
def tSTREAM : Nat := 6
def tSERVICE : Nat := 7
def tFREE : Nat := 0xF

/-- The number of contexts (R3). -/
def pondSize : Nat := 1048576

/-! ### Contexts -/

/-- A context; one never listed is FREE with GEN 0. -/
def Chip.ctx (c : Chip) (cid : Nat) : Ctx := (lookupNat c.pond.ctxs cid).getD {}

/-- Store a context; a FREE one of GEN 0 is not listed. -/
def Chip.setCtx (c : Chip) (cid : Nat) (x : Ctx) : Chip :=
  c.updPond (fun p => { p with ctxs := if x = {} then eraseNat p.ctxs cid else insertNat p.ctxs cid x })

/-- Change a context's BODY. -/
def Chip.setBody (c : Chip) (cid : Nat) (b : Body) : Chip := c.setCtx cid { c.ctx cid with body := b }

/-- A context reference: CID and GEN (R148). -/
def Chip.refOk (c : Chip) (cid : Nat) (gen : Byte) : Bool := (c.ctx cid).typ != tFREE && (c.ctx cid).gen == gen

/-- A context that can be granted (R149, R163). -/
def Ctx.grantable (x : Ctx) : Bool := x.typ == tFREE && !x.poisoned

/-- The `n` lowest-numbered grantable CIDs from `k` (R149); `fuel` is n plus the length of the list. -/
def lowestFree : Nat → Nat → Nat → List (Nat × Ctx) → List Nat
  | 0, _, _, _ => []
  | fuel + 1, n, k, l =>
    if n = 0 then []
    else match l with
      | [] => k :: lowestFree fuel (n - 1) (k + 1) []
      | (j, x) :: t =>
        if k < j then k :: lowestFree fuel (n - 1) (k + 1) l
        else if x.grantable then j :: lowestFree fuel (n - 1) (j + 1) t
        else lowestFree fuel n (j + 1) t

/-! ### Counters -/

def Chip.pFree (c : Chip) : Nat := c.get .POND_FREE F.POND_FREE_FREE
def Chip.pReserved (c : Chip) : Nat := c.get .POND_WAIT F.POND_WAIT_RESERVED
def Chip.quota (c : Chip) (h : Fin 99) : Nat := c.get (.HOLDER_QUOTA h) F.HOLDER_QUOTA_QUOTA
def Chip.used (c : Chip) (h : Fin 99) : Nat := c.get (.HOLDER_USED h) F.HOLDER_USED_USED
def Chip.overQuota (c : Chip) (h : Fin 99) : Bool := c.bit (.HOLDER_USED h) F.HOLDER_USED_OVER_QUOTA

/-- POND_EXHAUSTED and POND_LOW (R158). -/
def Chip.poolEvents (c : Chip) : Chip :=
  let free := c.pFree
  let low := c.get .POND_LOW_MARK F.POND_LOW_MARK_LOW_MARK
  let ex : Bool := free == c.pReserved
  let was := c.bit .POND_STATUS F.POND_STATUS_EXHAUSTED
  let c := c.setSt .POND_STATUS F.POND_STATUS_EXHAUSTED (bitOf ex)
  let c := if ex && !was then
      c.postRate (ms 1) 0 (c.ev 0x0601 0 0 [c.pond.waiters.length, (c.pond.waiters.head?.map (·.size)).getD 0])
    else c
  if c.pond.lowArmed && free < low then
    (c.postRate (ms 1) 0 (c.ev 0x0602 0 0 [free, low])).updPond (fun p => { p with lowArmed := false })
  else if !c.pond.lowArmed && 2 * low < free then c.updPond (fun p => { p with lowArmed := true })
  else c

/-- OVER_QUOTA of a holder after a change of its quota or use (R154): set by a quota at or below USED, cleared when USED
falls below the quota. -/
def Chip.quotaCheck (c : Chip) (h : Fin 99) (newQuota : Bool) : Chip :=
  let u := c.used h
  let q := c.quota h
  if newQuota && q ≤ u && !c.overQuota h then
    let c := c.setB (.HOLDER_USED h) F.HOLDER_USED_OVER_QUOTA true
    c.post (c.ev 0x0603 0 h.val [h.val, u, q])
  else if u < q && c.overQuota h then
    let c := c.setB (.HOLDER_USED h) F.HOLDER_USED_OVER_QUOTA false
    c.post (c.ev 0x0604 0 h.val [h.val, u, q])
  else c

/-- OVERCOMMIT follows the sum of the quotas (R153). -/
def Chip.overcommit (c : Chip) : Chip :=
  let sum := c.get .POND_QSUM F.POND_QSUM_SUM
  let on : Bool := pondSize < sum
  if on != c.bit .POND_STATUS F.POND_STATUS_OVERCOMMIT then
    let c := c.setSt .POND_STATUS F.POND_STATUS_OVERCOMMIT (bitOf on)
    c.post (c.ev 0x0605 0 0 [sum, bitOf on])
  else c

/-! ### Allocation (R147, R149, R150) -/

/-- What a request asks for: contexts of one TYPE and PARENT, or one DEV with its EP contexts (R149). -/
inductive Group where
  | of (typ : Nat) (parent : Nat := 0)
  | device
deriving DecidableEq, Repr

/-- TYPE and PARENT of a granted context, of a group whose first CID is `head` (R146). -/
def Group.word (g : Group) (head cid : Nat) : Nat × Nat :=
  match g with
  | .of typ parent => (typ, parent)
  | .device => if cid = head then (tDEV, 0) else (tEP, head)

/-- Write the granted contexts: GEN incremented, word 0 written, BODY zeroed (R147). -/
def Chip.grantCtxs (c : Chip) (h : Fin 99) (g : Group) (cids : List Nat) : Chip :=
  c.each cids (fun c cid =>
    let w := g.word (cids.headD 0) cid
    c.setCtx cid
      { typ := w.1, holder := h.val, gen := (c.ctx cid).gen + 1, parent := w.2, body := .zero, poisoned := false })

/-- Take `n` contexts for a holder, the decision apart: USED rises, FREE falls. -/
def Chip.take (c : Chip) (h : Fin 99) (g : Group) (n : Nat) : List Nat × Chip :=
  let cids := lowestFree (n + c.pond.ctxs.length) n 0 c.pond.ctxs
  let c := c.grantCtxs h g cids
  let c := c.setF (.HOLDER_USED h) F.HOLDER_USED_USED (c.used h + n)
  let c := c.setF .POND_FREE F.POND_FREE_FREE (c.pFree - n)
  (cids, c.poolEvents)

/-- The allocator's decision (R150): the result code of a request. -/
def Chip.allocVerdict (c : Chip) (h : Fin 99) (n : Nat) : Nat :=
  if c.quota h < c.used h + n then rOVER_QUOTA
  else if c.pFree - c.pReserved < n then rPOND_FULL
  else rOK

/-- A request of `n` contexts, 1 to 64 (R149, R150): the CIDs, or the refusal with every context as it was; any other size is BAD_ARG
(DESIGN CHOICE, log entry 66). -/
def Chip.alloc (c : Chip) (h : Fin 99) (g : Group) (n : Nat) : Except Nat (List Nat) × Chip :=
  let v := if n = 0 ∨ 64 < n then rBAD_ARG else c.allocVerdict h n
  if v = rOK then
    let (cids, c) := c.take h g n
    (.ok cids, c)
  else (.error v, c)

/-- Requests of 64 contexts and a last one of the rest (R149). Where one is refused the groups granted before it go back, so that
every context is as it was (R156). `fuel` bounds the requests. -/
def Chip.allocMany : Nat → Fin 99 → Group → Nat → List Nat → Chip → Except Nat (List Nat) × Chip
  | 0, _, _, _, got, c => (.ok got, c)
  | fuel + 1, h, g, n, got, c =>
    if n = 0 then (.ok got, c)
    else match c.alloc h g (min 64 n) with
      | (.ok cids, c) => Chip.allocMany fuel h g (n - 64) (got ++ cids) c
      | (.error v, c) => (.error v, c)

/-! ### The wait list (R156, R157) -/

/-- The wait-list length in POND_WAIT and WAITLIST_FULL. -/
def Chip.syncWaiters (c : Chip) : Chip :=
  let n := c.pond.waiters.length
  let c := c.setF .POND_WAIT F.POND_WAIT_WAITERS n
  c.setSt .POND_STATUS F.POND_STATUS_WAITLIST_FULL (bitOf (1024 ≤ n))

/-- The port of a waiter. -/
def Waiting.port : Waiting → Port
  | .device n _ => n
  | .binding n _ _ => n

/-- A refused requester joins the list, or posts POND_WAITLIST_FULL and repeats 100 ms later. -/
def Chip.waitJoin (c : Chip) (w : Waiter) : Chip :=
  if c.pond.waiters.any (fun x => x.who = w.who) then c
  else if c.pond.waiters.length < 1024 then
    (c.updPond (fun p => { p with waiters := p.waiters ++ [w], refused := p.refused.filter (fun x => x.who ≠ w.who) })).syncWaiters
  else
    let w := { w with retryAt := c.clk.now + ms 100 }
    let c := c.updPond (fun p => { p with refused := p.refused.filter (fun x => x.who ≠ w.who) ++ [w] })
    c.post (c.ev 0x0608 1 w.who.port.val [w.who.port.val])

/-- The device at a route of a port's tree. -/
def Chip.dev? (c : Chip) (n : Port) (route : BitVec 20) : Option Dev :=
  (c.ports[n]).drop.devs.find? (fun d => d.route == route)

/-- The group that a waiter asks for: a device's whole group, or the endpoints that an earlier one lacks; a binding's SERVICE
context, whose PARENT is the device. -/
def Chip.waitGroup (c : Chip) (w : Waiting) : Group :=
  match w with
  | .device .. =>
    (match c.pond.grants.find? (fun g => g.1.who == w) with
     | some (_, h :: _) => .of tEP h
     | _ => .device)
  | .binding n r _ => .of tSERVICE (((c.dev? n r).map (·.cid)).getD 0)

/-- The first waiter whose holder has room; one whose holder is over quota is passed over. -/
def Chip.nextWaiter (c : Chip) : Option Waiter :=
  c.pond.waiters.find? (fun w => !c.overQuota w.holder && c.used w.holder + w.size ≤ c.quota w.holder)

/-- Grant waiters from RESERVED while it covers the next one's size (R157). `fuel` bounds the grants. -/
def Chip.serveWaiters : Nat → Chip → Chip
  | 0, c => c.poolEvents
  | fuel + 1, c =>
    match c.nextWaiter with
    | none => (c.setF .POND_WAIT F.POND_WAIT_RESERVED 0).poolEvents
    | some w =>
      if c.pReserved < w.size ∨ c.pond.rebuild then c.poolEvents
      else
        let c := c.setF .POND_WAIT F.POND_WAIT_RESERVED (c.pReserved - w.size)
        let (cids, c) := c.take w.holder (c.waitGroup w.who) w.size
        let c := c.updPond (fun p =>
          { p with waiters := p.waiters.filter (fun x => x.who ≠ w.who), grants := p.grants ++ [(w, cids)] })
        Chip.serveWaiters fuel c.syncWaiters

/-- A freed context goes to RESERVED for the next waiter while the list is not empty (R157). -/
def Chip.reserveFreed (c : Chip) : Chip :=
  match c.nextWaiter with
  | none => c
  | some w =>
    let c := if c.pReserved < w.size then c.setF .POND_WAIT F.POND_WAIT_RESERVED (c.pReserved + 1) else c
    Chip.serveWaiters (c.pond.waiters.length + 1) c

/-- Waiters removed by a detach, an epoch change or a withdrawn binding (R157); their reservation passes on. -/
def Chip.dropWaiters (c : Chip) (gone : Waiting → Bool) : Chip :=
  if c.pond.waiters.any (fun w => gone w.who) || c.pond.refused.any (fun w => gone w.who) then
    let c := c.updPond (fun p =>
      { p with waiters := p.waiters.filter (fun w => !gone w.who), refused := p.refused.filter (fun w => !gone w.who) })
    Chip.serveWaiters (c.pond.waiters.length + 1) c.syncWaiters
  else c

/-! ### Frees (R151) -/

/-- The basins whose engines hold a context in a cache: its port's, its belt's, its stream's. -/
def Chip.cacheBasins (c : Chip) (cid : Nat) (x : Ctx) : List Nat :=
  if x.holder < 96 then [x.holder / 6]
  else match x.body with
    | .mark m => [m.belt.val]
    | .stream _ => ((c.svc.streams.filter (fun s => s.cid == cid)).map (fun s => s.port.val / 6)).take 1
    | _ => []

/-- A context that leaves its holder leaves the engines' caches (DESIGN CHOICE, log entry 202). -/
def Chip.evict (c : Chip) (cid : Nat) (x : Ctx) : Chip :=
  let here (e : Engine) : Bool := (c.engines[e]).cache.any (fun y => y.1 == cid)
  let es := ((c.cacheBasins cid x).flatMap (fun b => (List.range 32).map (fun l => (Fin.ofNat 512 (32 * b + l) : Engine)))).filter here
  c.each es (fun c e => c.updEng e (fun s => { s with cache := eraseNat s.cache cid }))

/-- Free a context: TYPE 0xF, HOLDER 0xFF, BODY zeroed, USED falls by one. A FREE one stays as it is. -/
def Chip.freeCtx (c : Chip) (cid : Nat) : Chip :=
  let x := c.ctx cid
  if x.typ = tFREE ∨ x.poisoned then c
  else
    let h : Fin 99 := Fin.ofNat 99 x.holder
    let c := (c.evict cid x).setCtx cid { gen := x.gen }
    let c := c.setF (.HOLDER_USED h) F.HOLDER_USED_USED (c.used h - 1)
    let c := c.setF .POND_FREE F.POND_FREE_FREE (c.pFree + 1)
    let c := c.quotaCheck h false
    c.reserveFreed.poolEvents

/-- The CIDs of the contexts that satisfy `p`, in order. -/
def Chip.cidsWhere (c : Chip) (p : Nat → Ctx → Bool) : List Nat :=
  (c.pond.ctxs.filter (fun x => x.2.typ != tFREE && !x.2.poisoned && p x.1 x.2)).map (·.1)

/-- A bulk free (R151); during a directory rebuild it waits (R354). -/
def Chip.bulkFree (c : Chip) (p : Nat → Ctx → Bool) : Chip :=
  if c.pond.rebuild then c.updPond (fun x => { x with held := x.held ++ [.free (c.cidsWhere p)] })
  else c.each (c.cidsWhere p) Chip.freeCtx

/-- What follows a bulk free waits with it (R151, R354). -/
def Chip.afterFree (c : Chip) (r : PondReq) (now : Chip → Chip) : Chip :=
  if c.pond.rebuild then c.updPond (fun x => { x with held := x.held ++ [r] }) else now c

/-- Poison a context (R163 steps 1 to 3): it leaves its holder and is never granted. RESERVED stays within FREE. -/
def Chip.poison (c : Chip) (cid : Nat) : Chip :=
  let x := c.ctx cid
  let c := (c.evict cid x).setCtx cid { typ := tFREE, holder := 0xFF, gen := x.gen, poisoned := true }
  let c := c.setF .POND_POISONED F.POND_POISONED_COUNT (c.get .POND_POISONED F.POND_POISONED_COUNT + 1)
  if x.typ = tFREE then
    let c := c.setF .POND_FREE F.POND_FREE_FREE (c.pFree - 1)
    (if c.pFree < c.pReserved then c.setF .POND_WAIT F.POND_WAIT_RESERVED c.pFree else c).poolEvents
  else
    let h : Fin 99 := Fin.ofNat 99 x.holder
    (c.setF (.HOLDER_USED h) F.HOLDER_USED_USED (c.used h - 1)).quotaCheck h false

/-- A new quota (R154): posts of the holder and of OVERCOMMIT follow. -/
def Chip.setQuota (c : Chip) (h : Fin 99) (q : Nat) : Chip :=
  let sum := c.get .POND_QSUM F.POND_QSUM_SUM + q - c.quota h
  let c := c.setF (.HOLDER_QUOTA h) F.HOLDER_QUOTA_QUOTA q
  let c := c.setF .POND_QSUM F.POND_QSUM_SUM sum
  ((c.quotaCheck h true).overcommit)

/-! ### Context caches (R159) -/

/-- An engine touches a context: it becomes the most recent entry; a 65th spills the least recent one. -/
def EngineSt.touch (e : EngineSt) (win cid : Nat) (dirty : Bool) : EngineSt :=
  let e := if e.spillWin = win then e
    else { e with spillsLast := if e.spillWin + 1 = win then e.spills else 0, spills := 0, spillWin := win }
  let was := (lookupNat e.cache cid).getD false
  let l := (cid, dirty || was) :: eraseNat e.cache cid
  if 64 < l.length then { e with cache := l.take 64, spills := sat 16 (e.spills + 1) } else { e with cache := l }

/-- The number of the 1 ms window of this moment. -/
def Chip.msWindow (c : Chip) : Nat := c.clk.now / ms 1

/-- Spills of the last completed 1 ms window (ENG_CACHE_e.SPILLS). -/
def EngineSt.spillsShown (e : EngineSt) (win : Nat) : Nat :=
  if e.spillWin = win then e.spillsLast else if e.spillWin + 1 = win then e.spills else 0

/-- Engine L of a basin (R26). -/
def engineAt (b l : Nat) : Engine := Fin.ofNat 512 (32 * b + l)

/-- The basin whose engines can hold a role (R26, R28). -/
def Role.basin : Role → Nat
  | .port n => n.val / 6
  | .arming b => b.val
  | _ => 0

/-- An engine serves its role: a quarantined one only while it is SLOW and its role not yet taken (R347). -/
def EngineSt.serves (e : EngineSt) : Bool := !e.quar || e.handing.any (fun h => h.1 == 0)

/-- The engine that serves the role of a port or an arming engine, in its own basin (R28). -/
def Chip.engineOf (c : Chip) (r : Role) : Option Engine :=
  ((List.range 32).map (engineAt r.basin)).find? (fun e =>
    (c.engines[e]).serves &&
    ((c.engines[e]).role = r || (match r with | .port n => (c.engines[e]).also.contains n | _ => false)))

/-- The engine of a role touches a context. -/
def Chip.touchBy (c : Chip) (r : Role) (cid : Nat) (dirty : Bool) : Chip :=
  match c.engineOf r with
  | none => c
  | some e => c.updEng e (fun s => s.touch c.msWindow cid dirty)

/-- The pool engine that works for a port's bindings and streams: the lowest-numbered of its basin (DESIGN CHOICE, log entry 202). -/
def Chip.poolEngine (c : Chip) (n : Port) : Option Engine :=
  ((List.range 32).map (engineAt (n.val / 6))).find? (fun e => (c.engines[e]).serves && (c.engines[e]).role = .pool)

/-- That pool engine touches a context. -/
def Chip.touchPool (c : Chip) (n : Port) (cid : Nat) (dirty : Bool) : Chip :=
  match c.poolEngine n with
  | none => c
  | some e => c.updEng e (fun s => s.touch c.msWindow cid dirty)

/-- A port engine writes a context's BODY: resident and dirty in its cache, visible within 1 µs (R159, R160). -/
def Chip.engWrite (c : Chip) (n : Port) (cid : Nat) (b : Body) : Chip := (c.setBody cid b).touchBy (.port n) cid true

end Sys2Proof.Machine
end

