-- ==== Sys2Proof/Machine/StreamOps.lean ====
section
/-! DEFINITION. Stream queues and records: the parison (R201 to R203), the record header and its stamp (R210), the queue's
fill and the weir (R120), stream contexts. -/

namespace Sys2Proof.Machine

/-! ### Streams -/

/-- An open stream by its TTP stream ID. -/
def Chip.strm? (c : Chip) (id : BitVec 16) : Option Strm := c.svc.streams.find? (fun s => s.id == id && !s.closed)

/-- An open stream by its STREAM reference (R148). -/
def Chip.strmRef? (c : Chip) (cid : Nat) (gen : Byte) : Option Strm :=
  c.svc.streams.find? (fun s => s.cid == cid && s.gen == gen && !s.closed && c.refOk cid gen)

/-- Change an open stream. -/
def Chip.updStrm (c : Chip) (id : BitVec 16) (f : Strm → Strm) : Chip :=
  c.updSvc (fun v => { v with streams := updFirst (fun s => s.id == id) f v.streams })

/-- Bytes a record takes in its queue: parison word and body, in whole 8-byte words (R201, R210). -/
def Rec.size (r : Rec) : Nat := 8 + (if r.raw then 0 else 48) + (r.data.length + 7) / 8 * 8

/-- Bytes held in a queue. -/
def Strm.fill (s : Strm) : Nat := s.recs.foldl (fun a r => a + r.size) 0

/-- The weir acts from 75 % of the depth until the queue falls below 50 % (R120). -/
def Strm.weirNext (s : Strm) : Strm :=
  if 3 * s.depth ≤ 4 * s.fill then { s with weir := true }
  else if 2 * s.fill < s.depth then { s with weir := false }
  else s

/-- STREAM_OVERRUN (0x014A), at most once per stream per millisecond, to the door that opened the stream: stream, direction
(0 to the host, 1 to the device), bytes discarded. -/
def Chip.evOverrun (c : Chip) (s : Strm) (dir bytes : Nat) : Chip :=
  c.postRateR (.owner (some s.door)) (ms 1) s.id.toNat (c.ev 0x014A 1 s.port.val [s.id.toNat, dir, bytes])

/-- Take `k` bytes from the front of the messages that wait in a host-to-device stream. -/
def eatBytes : Nat → List (List Byte) → List (List Byte)
  | _, [] => []
  | k, m :: t => if k < m.length then m.drop k :: t else eatBytes (k - m.length) t

/-- A message arrives in a host-to-device stream (R121): bytes of a job that was cut short are discarded (R217). -/
def Strm.arrive (s : Strm) (m : List Byte) : Strm :=
  if m.length ≤ s.skip then { s with skip := s.skip - m.length } else { s with inbound := s.inbound ++ [m.drop s.skip], skip := 0 }

/-- Bytes that wait in a host-to-device stream. -/
def Strm.waiting (s : Strm) : Nat := s.inbound.foldl (fun a m => a + m.length) 0

/-! ### Stamps and headers -/

/-- The belts of the enabled slots of a port, in slot order (SVC_PORT, R210). -/
def Chip.portBelts (c : Chip) (n : Port) : List Nat :=
  let w := c.rd (.SVC_PORT n)
  (List.range 4).filterMap (fun k =>
    if w.getLsbD (16 + k) then some ((w >>> (4 * k)).toNat % 16) else none)

/-- A belt's position at a tick of the last 10 ms (R23): that before the first change after the tick. -/
def BeltSt.posAt (x : BeltSt) (t : BitVec 64) : Pos := x.past.foldl (fun p e => if t < e.1 then e.2 else p) x.pos

/-- The history of a position that changes at a tick: the last 10 ms (R23; the span is a DESIGN CHOICE, log entry 201). -/
def BeltSt.pastNow (x : BeltSt) (t : BitVec 64) : List (BitVec 64 × Pos) :=
  (t, x.pos) :: x.past.takeWhile (fun e => (t - e.1).toNat < 16000000)

/-- The position of a belt by number at a tick. -/
def Chip.beltPos (c : Chip) (t : BitVec 64) (b : Nat) : Pos := (c.sei.belts[(Fin.ofNat 16 b : Belt)]).posAt t

/-- The positions of all 16 belts at a tick. -/
def Chip.allPos (c : Chip) (t : BitVec 64) : List Pos := (List.range 16).map (c.beltPos t)

/-- TIME_DEGRADED as records carry it (R210 RFLAGS bit 3). -/
def Chip.timeDegraded (c : Chip) : Bool := c.bit .SEI_STATUS F.SEI_STATUS_TIME_DEGRADED

/-- A record header stamped at a tick, with the positions of the port's belts (R210). -/
def Chip.recHdr (c : Chip) (n : Port) (time : BitVec 64) (kind rflags iface route bind : Nat) : RecHdr :=
  let bs := c.portBelts n
  { time := time, kind := kind, rflags := rflags ||| (if c.timeDegraded then 8 else 0), iface := iface, route := route,
    bind := bind, belts := bs, pos := bs.map (c.beltPos time) }

/-- A header whose positions were taken with its stamp, of all 16 belts; without them it stays as it is (R23). -/
def RecHdr.stamped (h : RecHdr) (pos : List Pos) : RecHdr :=
  if pos.isEmpty then h else { h with pos := h.belts.map (fun b => pos.getD b 0#48) }

/-- A context reference as a record carries it: CID and GEN (R210 BIND). -/
def bindRef (cid : Nat) (gen : Byte) : Nat := cid + 1048576 * gen.toNat

/-! ### Records -/

/-- SRC of a parison word: port and route tier (R201); the tier is the number of hub hops in the route. -/
def parisonSrc (n : Port) (route : BitVec 20) : Nat :=
  let tier := ((List.range 5).filter (fun i => (route >>> (4 * i)).toNat % 16 != 0)).length
  n.val + 256 * tier

/-- Open a record in a stream's queue, or refuse when the queue is full (R120, R201). -/
def Chip.openRec (c : Chip) (s : Strm) (src : Nat) (owner : Nat × Nat × Nat) (hdr : RecHdr) (data : List Byte) :
    Bool × Chip :=
  let r : Rec := { st := .opened, flags := 0, src := src, hdr := hdr, data := data, openedAt := c.clk.now, owner := owner }
  if s.depth < s.fill + r.size then
    (false, (c.updStrm s.id (fun s => { s with overrun := s.overrun + 1 })).evOverrun s 0 r.data.length)
  else (true, (c.updStrm s.id (fun s => Strm.weirNext { s with recs := s.recs ++ [r] })).touchPool s.port s.cid true)

/-- The open record of an owner. -/
def Rec.isOpenOf (owner : Nat × Nat × Nat) (r : Rec) : Bool := r.st == .opened && r.owner == owner

/-- Change the open record of an owner in a stream. -/
def Chip.updRec (c : Chip) (id : BitVec 16) (owner : Nat × Nat × Nat) (f : Rec → Rec) : Chip :=
  c.updStrm id (fun s => Strm.weirNext { s with recs := updFirst (Rec.isOpenOf owner) f s.recs })

/-- Close the open record of an owner, with RFLAGS added (R201). -/
def Chip.closeRec (c : Chip) (id : BitVec 16) (owner : Nat × Nat × Nat) (rflags : Nat) : Chip :=
  c.updRec id owner (fun r => { r with st := .closed, hdr := { r.hdr with rflags := r.hdr.rflags ||| rflags } })

/-- Parison FLAGS (R201). -/
def pfISO_ERR : Nat := 1
def pfTIMEOUT : Nat := 2
def pfOVERRUN : Nat := 4
def pfDETACH : Nat := 8

/-- Close every open record that satisfies `p` as CULLET, with the parison FLAGS of the cause (R203). -/
def Chip.culletRecs (c : Chip) (flags : Nat) (p : Rec → Bool) : Chip :=
  c.updSvc (fun v => { v with streams := v.streams.map (fun s =>
    { s with recs := s.recs.map (fun r =>
      if r.st == .opened && p r then { r with st := .cullet, flags := r.flags ||| flags } else r) }) })

/-- A whole record at once: opened and closed (R201). -/
def Chip.putRec (c : Chip) (s : Strm) (src : Nat) (hdr : RecHdr) (data : List Byte) (flags : Nat := 0) (raw : Bool := false) :
    Bool × Chip :=
  let r : Rec := { st := .closed, flags := flags, src := src, hdr := hdr, data := data, openedAt := c.clk.now,
                   owner := (0, 0, 0), raw := raw }
  if s.depth < s.fill + r.size then
    (false, (c.updStrm s.id (fun s => { s with overrun := s.overrun + 1 })).evOverrun s 0 r.data.length)
  else (true, ((c.updStrm s.id (fun s => Strm.weirNext { s with recs := s.recs ++ [r] })).touchPool s.port s.cid true).active)

end Sys2Proof.Machine
end

