-- ==== Sys2Proof/Machine/SvcOps.lean ====
section
/-! DEFINITION. Service bindings (10 R205 to R221): their making, their end, the pending ones, and the streams they use. -/

namespace Sys2Proof.Machine

/-! ### Devices of a drop -/

/-- Change the device at a route. -/
def Chip.updDev (c : Chip) (n : Port) (route : BitVec 20) (f : Dev → Dev) : Chip :=
  c.updDrop n (fun x => { x with devs := updFirst (fun d => d.route == route) f x.devs })

/-- The alternate setting of an interface in force. -/
def Dev.altOf (d : Dev) (i : Nat) : Nat := (lookupNat d.alts i).getD 0

/-- The interfaces in force: each in its alternate setting. -/
def Dev.ifaces (d : Dev) : List IfDesc := d.ifs.filter (fun i => i.alt == d.altOf i.num)

/-- An interface in force by number. -/
def Dev.iface? (d : Dev) (i : Nat) : Option IfDesc := d.ifaces.find? (fun x => x.num == i)

/-- The EP contexts of a device that satisfy `p`, with their bodies. -/
def Chip.epsOf (c : Chip) (cid : Nat) (p : EpBody → Bool) : List (Nat × EpBody) :=
  c.pond.ctxs.filterMap (fun x =>
    if x.2.typ == tEP && x.2.parent == cid then
      (match x.2.body with
       | .ep b => if p b then some (x.1, b) else none
       | _ => none)
    else none)

/-- The port engine rewrites the EP bodies of a device that satisfy `p`. -/
def Chip.updEps (c : Chip) (n : Port) (cid : Nat) (p : EpBody → Bool) (f : EpBody → EpBody) : Chip :=
  c.each (c.epsOf cid p) (fun c x => c.engWrite n x.1 (.ep (f x.2)))

/-- The DEV body of a context. -/
def Chip.devBody? (c : Chip) (cid : Nat) : Option DevBody :=
  match (c.ctx cid).body with
  | .dev b => some b
  | _ => none

/-! ### Kinds (R205) -/

def kHID : Nat := 1
def kCDC : Nat := 2
def kPRINTER : Nat := 3
def kRAW : Nat := 4

/-- The Data interface that the union functional descriptor of a communications interface names, in force. -/
def Dev.dataIf (d : Dev) (i : IfDesc) : Option Nat :=
  i.union.filter (fun j => (d.iface? j).any (fun x => x.cls == 0x0A#8))

/-- KIND of an SOF stamp's, a line object's and a CAN_RAW record stand with their producers. -/
def kindAccepts (kind : Nat) (i : IfDesc) (d : Dev) : Bool :=
  match kind with
  | 1 => i.cls == 3#8 && i.sub == 1#8 && i.proto == 1#8
  | 2 => i.cls == 2#8 && i.sub == 2#8 && (d.dataIf i).isSome
  | 3 => i.cls == 7#8 && i.sub == 1#8 && i.proto == 2#8
  | 4 => true
  | _ => false

/-- The interfaces a binding covers: one, and for CDC_ACM also the one that the union functional descriptor names. -/
def coveredIfs (kind i : Nat) (d : Dev) : List Nat :=
  if kind = kCDC then i :: ((d.iface? i).bind (fun x => x.union)).toList else [i]

/-! ### The list of bindings -/

/-- The binding that names a port, route and interface. -/
def Bind.is (n : Port) (route : BitVec 20) (i : Nat) (b : Bind) : Bool :=
  b.port == n && b.route == route && b.iface == i

def Chip.bind? (c : Chip) (n : Port) (route : BitVec 20) (i : Nat) : Option Bind := c.svc.binds.find? (Bind.is n route i)

/-- Change a binding. -/
def Chip.updBind (c : Chip) (b : Bind) (f : Bind → Bind) : Chip :=
  c.updSvc (fun v => { v with binds := updFirst (Bind.is b.port b.route b.iface) f v.binds })

/-- SVC_STATUS follows the list: SEQ advances once per change of bits 23:0. -/
def Chip.syncSvc (c : Chip) : Chip :=
  let pend := (c.svc.binds.filter (fun b => b.pending.isSome)).length
  let bound := c.svc.binds.length - pend
  let w := fset (fset (c.rd .SVC_STATUS) F.SVC_STATUS_BOUND bound) F.SVC_STATUS_PENDING pend
  if w = c.rd .SVC_STATUS then c else (c.wr .SVC_STATUS w).bump .SVC_STATUS

/-- The SERVICE body of a bound binding. -/
def Chip.svcBody (c : Chip) (b : Bind) : SvcBody :=
  match (c.ctx b.cid).body with
  | .service s => s
  | _ => { kind := b.kind, state := 1, iface := b.iface, profile := b.profile, stream := (0, 0#8), out := none, fill := 0,
           keymap := 0, pstat := 0#8, rseq := 0#32, job := 0 }

/-- Write a SERVICE body. -/
def Chip.updSvcBody (c : Chip) (b : Bind) (f : SvcBody → SvcBody) : Chip :=
  (c.setBody b.cid (.service (f (c.svcBody b)))).touchPool b.port b.cid true

/-- The key under which a binding's open record stands in its stream. -/
def Bind.key (b : Bind) : Nat × Nat × Nat := (b.port.val, b.route.toNat, b.iface)

/-- A service event: SRC_KIND 1, ROUTE first. -/
def Chip.evSvc (c : Chip) (code : Nat) (n : Port) (route : BitVec 20) (rest : List Nat) : Event :=
  c.ev code 1 n.val (route.toNat :: rest)

/-- The stream of a binding, while open. -/
def Chip.bindStream (c : Chip) (b : Bind) : Option Strm := c.strmRef? (c.svcBody b).stream.1 (c.svcBody b).stream.2

/-- The stream of a binding's OUT data, while open. -/
def Chip.bindOut (c : Chip) (b : Bind) : Option Strm := (c.svcBody b).out.bind (fun r => c.strmRef? r.1 r.2)

/-! ### The end of a binding (R209) -/

/-- Causes of SVC_UNBOUND in the order of its list. -/
def ubUNBIND : Nat := 0
def ubDETACH : Nat := 1
def ubSETTING : Nat := 2
def ubMODE : Nat := 3
def ubSTREAM : Nat := 4
def ubSETUP : Nat := 5

/-- The bytes of a printer record (R217). -/
def printerData (job acked pstat event : Nat) (id : List Byte) : List Byte :=
  leBytes 4 job ++ leBytes 4 acked ++ leBytes 1 pstat ++ leBytes 1 event ++ leBytes 6 0 ++ id

/-- A printer record: the event it reports is its stamp point (R210, R217). A full queue opens none. -/
def Chip.printerRec (c : Chip) (b : Bind) (event : Nat) (id : List Byte) : Chip :=
  match c.bindStream b with
  | none => c
  | some s =>
    let body := c.svcBody b
    let inJob : Bool := b.jobLen != 0
    let data := printerData (if inJob then b.jobId else 0) b.jobAcked body.pstat.toNat event id
    let h := c.recHdr b.port c.sei.time kPRINTER 0 b.iface b.route.toNat (bindRef b.cid b.gen)
    let r := c.putRec s (parisonSrc b.port b.route) h data
    if r.1 then r.2.updSvcBody b (fun x => { x with rseq := x.rseq + 1 }) else r.2

/-- The port status of a printer (R216, R217): a record at each change. -/
def Chip.printerStatus (c : Chip) (b : Bind) (pstat : Byte) : Chip :=
  if (c.svcBody b).pstat = pstat then c
  else (c.updSvcBody b (fun x => { x with pstat := pstat })).printerRec b 3 []

/-- A job cut short by the end of its binding: a record with EVENT 0x04, and the rest of the job leaves the stream, what has
arrived and what is still to arrive (R217). -/
def Chip.abortJob (c : Chip) (b : Bind) : Chip :=
  if b.kind = kPRINTER ∧ b.jobLen ≠ 0 then
    let c := c.printerRec b 4 []
    match c.bindOut b with
    | none => c
    | some o =>
      let left := (c.svcBody b).job
      c.updStrm o.id (fun s => { s with inbound := eatBytes left s.inbound, skip := s.skip + (left - s.waiting) })
  else c

/-- A printer acknowledged bytes of its job (R215, R217): they leave the stream, and the job's end is recorded. -/
def Chip.jobMoved (c : Chip) (b : Bind) (k : Nat) : Chip :=
  match c.bindOut b with
  | none => c
  | some o =>
    let left := (c.svcBody b).job
    let k := min k (min left o.waiting)
    if b.jobLen = 0 ∨ k = 0 then c
    else
      let c := c.updStrm o.id (fun s => { s with inbound := eatBytes k s.inbound })
      let b := { b with jobAcked := b.jobAcked + k }
      let c := c.updBind b (fun _ => b)
      let c := c.updSvcBody b (fun x => { x with job := left - k })
      if k = left then
        let c := c.printerRec b 2 []
        let c := c.updBind b (fun x => { x with jobLen := 0 })
        c.updSvcBody b (fun x => { x with state := 1 })
      else c.active

/-- A profile's index. -/
def Bind.prof (b : Bind) : Fin 16 := Fin.ofNat 16 b.profile

/-- The control transfers of a binding leave the queue of its port engine. -/
def Chip.dropCtls (c : Chip) (b : Bind) : Chip :=
  c.updDrop b.port (fun x => { x with ctls := x.ctls.filter (fun k =>
    !(k.route == b.route && (k.by_ == .setup b.iface || k.by_ == .status b.iface))) })

/-- The interfaces a binding covers on its device; of a device that is gone, its own. -/
def Chip.ifsOf (c : Chip) (b : Bind) : List Nat :=
  match c.dev? b.port b.route with
  | some d => coveredIfs b.kind b.iface d
  | none => [b.iface]

/-- The SVC_BIND that waits for SVC_BOUND is answered where the binding ends before (DESIGN CHOICE, log entry 194). -/
def Chip.bindReply (c : Chip) (b : Bind) (cause : Nat) : Chip :=
  c.answerOpt b.req (if cause = ubMODE then rROLE_CHANGED else rTIMEOUT)

/-- The end of a binding with its cause: the open record closed as CULLET, the context freed, SVC_UNBOUND posted. A pending
binding leaves without an event, and so does one whose set-up requests run, unless one of them failed (R208). The binding rule
stays. -/
def Chip.endBind (c : Chip) (b : Bind) (cause : Nat) : Chip :=
  match b.pending with
  | some .setup =>
    let c := (c.dropCtls b).freeCtx b.cid
    let c := c.updSvc (fun v => { v with binds := v.binds.filter (fun x => !Bind.is b.port b.route b.iface x) })
    let c := if cause = ubSETUP then c.postOwn b.door (c.evSvc 0x0802 b.port b.route [b.iface, cause]) else c
    (c.bindReply b cause).syncSvc
  | some _ =>
    let c := c.updSvc (fun v => { v with binds := v.binds.filter (fun x => !Bind.is b.port b.route b.iface x) })
    (c.dropWaiters (fun w => w == .binding b.port b.route b.iface)).syncSvc
  | none =>
    let c := c.abortJob b
    let c := c.culletRecs pfDETACH (fun r => r.owner == b.key)
    let ifs := c.ifsOf b
    let c := c.updEps b.port (c.ctx b.cid).parent (fun e => ifs.contains e.iface && e.stream.isSome)
      (fun e => { e with stream := none })
    let c := (c.dropCtls b).freeCtx b.cid
    let c := c.updSvc (fun v => { v with binds := v.binds.filter (fun x => !Bind.is b.port b.route b.iface x) })
    let c := c.postOwn b.door (c.evSvc 0x0802 b.port b.route [b.iface, cause])
    c.syncSvc

/-- End every binding that satisfies `p`. -/
def Chip.endBinds (c : Chip) (p : Bind → Bool) (cause : Nat) : Chip :=
  c.each (c.svc.binds.filter p) (fun c b => c.endBind b cause)

/-! ### Making a binding (R208) -/

/-- Cause codes of SVC_BIND_PENDING in the order of its list. -/
def PendCause.code : PendCause → Nat
  | .pondFull => 0
  | .overQuota => 1
  | .noStream => 2
  | .headspring => 3
  | .setup => 4

/-- A SETUP packet: bmRequestType, bRequest, wValue, wIndex, wLength. -/
def setupPkt (t r v i l : Nat) : List Byte := leBytes 1 t ++ leBytes 1 r ++ leBytes 2 v ++ leBytes 2 i ++ leBytes 2 l

/-- The line coding of a profile as CDC-ACM carries it (R214): rate, stop bits, parity, data bits. -/
def Chip.lineCoding (c : Chip) (p : Fin 16) : List Byte :=
  let g (f : Field) : Nat := c.get (.SVC_PROF_LINE p) f
  leBytes 4 (g F.SVC_PROF_LINE_RATE) ++ leBytes 1 (g F.SVC_PROF_LINE_STOP) ++ leBytes 1 (g F.SVC_PROF_LINE_PARITY) ++
    leBytes 1 (g F.SVC_PROF_LINE_DATA_BITS)

/-- The set-up requests of a kind, with their OUT data (R212, R214, R216): SET_PROTOCOL(boot) and SET_IDLE(0); SET_LINE_CODING and
SET_CONTROL_LINE_STATE with DTR and RTS; GET_DEVICE_ID. Their encodings are those of the USB class specifications (PRESUMED, log
entry 195). -/
def Chip.setupReqs (c : Chip) (b : Bind) (d : Dev) : List (List Byte × List Byte) :=
  if b.kind = kHID then [(setupPkt 0x21 0x0B 0 b.iface 0, []), (setupPkt 0x21 0x0A 0 b.iface 0, [])]
  else if b.kind = kCDC then
    [(setupPkt 0x21 0x20 0 b.iface 7, c.lineCoding (Fin.ofNat 16 b.profile)), (setupPkt 0x21 0x22 3 b.iface 0, [])]
  else if b.kind = kPRINTER then [(setupPkt 0xA1 0x00 0 (256 * b.iface + d.altOf b.iface) 1024, [])]
  else []

/-- GET_PORT_STATUS of a printer (R216). -/
def portStatusReq (iface : Nat) : List Byte := setupPkt 0xA1 0x01 0 iface 1

/-- A control transfer that a service asks its port engine for, 500 ms per stage, with the port epoch it expects (R142). -/
def Chip.svcCtl (c : Chip) (b : Bind) (by_ : CtlBy) (setup out : List Byte) : Chip :=
  let k : Ctl := { route := b.route, by_ := by_, setup := setup, out := out, span := ms 500, deadline := c.clk.now + ms 500,
                   epoch := some (c.ports[b.port]).epoch }
  c.updDrop b.port (fun x => { x with ctls := x.ctls ++ [k] })

/-- Step 4 of R208: the endpoints are ACTIVE for the service, SVC_BOUND. -/
def Chip.bindDone (c : Chip) (b : Bind) (d : Dev) : Chip :=
  let body := c.svcBody b
  let c := c.updBind b (fun x => { x with pending := none, req := none, pollAt := c.clk.now + ms 100 })
  let ifs := coveredIfs b.kind b.iface d
  let c := c.updEps b.port d.cid (fun e => ifs.contains e.iface && e.alt == d.altOf e.iface && e.ep.toNat % 16 != 0)
    (fun e => { e with active := true, stream := some body.stream })
  let c := c.postOwn b.door (c.evSvc 0x0801 b.port b.route [b.iface, b.kind, b.cid])
  (c.answerOpt b.req rOK [b.cid, b.gen.toNat] 4).syncSvc

/-- The next set-up request of a binding (R208 step 3), or its step 4. -/
def Chip.bindNext (c : Chip) (b : Bind) (d : Dev) : Chip :=
  match b.setup with
  | [] => c.bindDone b d
  | x :: t => (c.updBind b (fun y => { y with setup := t })).svcCtl b (.setup b.iface) x.1 x.2

/-- A set-up request of a binding has ended: with its IN data, or failed (R208). The device ID of a printer becomes a record with
EVENT 0x05 (R216). -/
def Chip.setupEnd (c : Chip) (n : Port) (d : Dev) (i : Nat) (inp : Option (List Byte)) : Chip :=
  match (c.bind? n d.route i).filter (fun b => b.pending == some .setup), inp with
  | none, _ => c
  | some b, none => c.endBind b ubSETUP
  | some b, some l => (if b.kind = kPRINTER then c.printerRec b 5 (l.drop 2) else c).bindNext b d

/-- The binding once its SERVICE context is granted: the context's body, then step 3 of R208. -/
def Chip.bindIn (c : Chip) (b : Bind) (d : Dev) (cid : Nat) (s : Strm) (o : Option Strm) : Chip :=
  let body : SvcBody :=
    { kind := b.kind, state := 1, iface := b.iface, profile := b.profile, stream := (s.cid, s.gen),
      out := o.map (fun x => (x.cid, x.gen)), fill := 0, keymap := 0, pstat := 0#8, rseq := 0#32, job := 0 }
  let c := c.setBody cid (.service body)
  let gen := (c.ctx cid).gen
  let b := { b with pending := some .setup, cid := cid, gen := gen, setup := c.setupReqs b d }
  ((c.updBind b (fun _ => b)).bindNext b d).syncSvc

/-- A binding stays or becomes pending with a cause: SVC_BIND_PENDING. -/
def Chip.pendBind (c : Chip) (b : Bind) (p : PendCause) : Chip :=
  let c := c.updBind b (fun x => { x with pending := some p })
  (c.postOwn b.door (c.evSvc 0x0803 b.port b.route [b.iface, p.code])).syncSvc

/-- The streams of a binding by TTP stream ID (R208 step 1): none while one named is not open. -/
def Chip.bindStreams (c : Chip) (b : Bind) : Option (Strm × Option Strm) :=
  match c.strm? b.stream with
  | none => none
  | some s =>
    if b.out = 0xFFFF#16 then some (s, none)
    else (c.strm? b.out).map (fun o => (s, some o))

/-- The waiter of a binding's SERVICE context. -/
def Bind.waiter (b : Bind) : Waiter := { holder := hPort b.port, size := 1, who := .binding b.port b.route b.iface }

/-- Try a binding that stands in the list as pending (R208). -/
def Chip.tryBind (c : Chip) (b : Bind) : Chip :=
  match c.dev? b.port b.route with
  | none => c.endBind b ubDETACH
  | some d =>
    match c.bindStreams b with
    | none => c.pendBind b .noStream
    | some (s, o) =>
      if c.pond.rebuild then (c.waitJoin b.waiter).pendBind b .pondFull
      else
        match c.alloc (hPort b.port) (.of tSERVICE d.cid) 1 with
        | (.ok (cid :: _), c) => c.bindIn b d cid s o
        | (.ok [], c) => c
        | (.error v, c) => (c.waitJoin b.waiter).pendBind b (if v = rOVER_QUOTA then .overQuota else .pondFull)

/-- A SERVICE context granted from the wait list (R157): the binding goes on, or returns it when it has gone, or while Headspring,
which makes new bindings, is absent (R20, R25). -/
def Chip.bindGranted (c : Chip) (n : Port) (route : BitVec 20) (i cid : Nat) : Chip :=
  match (c.bind? n route i).filter (fun b => b.pending.any (· != .setup)), c.dev? n route with
  | some b, some d =>
    if !c.hsRuns then (c.freeCtx cid).pendBind b .headspring
    else
      match c.bindStreams b with
      | some (s, o) => c.bindIn b d cid s o
      | none => (c.freeCtx cid).pendBind b .noStream
  | _, _ => c.freeCtx cid

/-- A new binding, not yet tried. -/
def newBind (n : Port) (route : BitVec 20) (i kind profile : Nat) (stream out : BitVec 16) (door : Option Door) : Bind :=
  { port := n, route := route, iface := i, kind := kind, profile := profile, stream := stream, out := out, door := door,
    pending := some .noStream, cid := 0, gen := 0#8, prev := List.replicate 8 0#8, ctl := 0#32, term := 0#32,
    keys := [], lastByte := none, discard := false, lastData := 0, jobId := 0, jobLen := 0, jobAcked := 0 }

/-- Room for another binding (R220): 32 per port, 3,072 in the device. -/
def Chip.bindRoom (c : Chip) (n : Port) : Bool :=
  (c.svc.binds.filter (fun b => b.port == n)).length < 32 && c.svc.binds.length < 3072

/-- Add a binding to the list and try it. -/
def Chip.addBind (c : Chip) (b : Bind) : Chip := (c.updSvc (fun v => { v with binds := v.binds ++ [b] })).tryBind b

/-- Retry the pending bindings of a cause. -/
def Chip.retryBinds (c : Chip) (p : Bind → Bool) : Chip :=
  c.each (c.svc.binds.filter (fun b => b.pending.isSome && p b)) (fun c b => c.tryBind b)

/-! ### Match rules (R207) -/

/-- A rule matches an interface of a device on a port. -/
def MatchRule.matches (r : MatchRule) (n : Port) (d : Dev) (i : IfDesc) : Bool :=
  let on (k : Nat) : Bool := r.mask.getLsbD k
  (!on 0 || r.cls == i.cls) && (!on 1 || r.sub == i.sub) && (!on 2 || r.proto == i.proto) &&
  (!on 3 || r.vid == d.vid) && (!on 4 || r.pid == d.pid) && r.portFirst ≤ n.val && n.val ≤ r.portLast

/-- The binding rule of an interface (R207). -/
def Chip.ruled (c : Chip) (n : Port) (d : Dev) (i : Nat) : Option BindRule :=
  c.svc.bindRules.find? (fun r => r.port == n && r.route == d.route && r.iface == i)

/-- The binding an interface gets by its binding rule, else by the first match rule (R207), which takes no interface that has a
binding rule of its own; none where its KIND does not accept the interface (R205), or where its PROFILE is beyond the limit (R220).
-/
def Chip.matchFor (c : Chip) (n : Port) (d : Dev) (i : IfDesc) : Option Bind :=
  match c.ruled n d i.num with
  | some r =>
    if kindAccepts r.kind i d then some (newBind n d.route i.num r.kind r.profile r.stream r.out r.door) else none
  | none =>
    ((c.svc.rules.find? (fun r => r.matches n d i)).filter (fun r =>
        kindAccepts r.kind i d && r.profile < 16 && (coveredIfs r.kind i.num d).all (fun j => (c.ruled n d j).isNone))).map (fun r =>
      newBind n d.route i.num r.kind r.profile r.stream r.out none)

/-- An interface that a binding already covers. -/
def Chip.covered (c : Chip) (n : Port) (d : Dev) (i : Nat) : Bool :=
  c.svc.binds.any (fun b => b.port == n && b.route == d.route && (coveredIfs b.kind b.iface d).contains i)

/-- The binding in force on an interface of a device (R206). -/
def Chip.bindOn (c : Chip) (n : Port) (d : Dev) (i : Nat) : Option Bind :=
  c.svc.binds.find? (fun b => b.port == n && b.route == d.route && b.pending.isNone && (coveredIfs b.kind b.iface d).contains i)

/-- A bulk endpoint has a transfer queued and its stream's weir lets it run (R120, R184, R214, R215, R218): a printer's OUT while a
job is under way. -/
def Chip.bulkQueued (c : Chip) (n : Port) (d : Dev) (b : EpBody) : Bool :=
  match c.bindOn n d b.iface with
  | none => false
  | some k =>
    if b.ep.getLsbD 7 then (c.bindStream k).any (fun s => !s.weir)
    else (c.bindOut k).any (fun s =>
      0 < s.waiting && (k.kind != kRAW || ((s.inbound.headD []).head? == some b.ep)) && (k.kind != kPRINTER || k.jobLen != 0))

/-- Class match of a device (R207), once after ENUM_DONE and after each new setting: each interface in force without a binding, those
with a binding rule first.
While Headspring is absent the bindings wait (R221); while the service tables are being rebuilt nothing is matched (R163). -/
def Chip.classMatch (c : Chip) (n : Port) (route : BitVec 20) : Chip :=
  match c.dev? n route with
  | none => c
  | some d =>
    if !d.configured || !d.matchDue || c.svc.rebuilding then c
    else (c.updDev n route (fun d => { d with matchDue := false })).each
      (d.ifaces.filter (fun i => (c.ruled n d i.num).isSome) ++ d.ifaces.filter (fun i => (c.ruled n d i.num).isNone)) (fun c i =>
      if c.covered n d i.num || !c.bindRoom n then c
      else match (c.matchFor n d i).filter (fun b => !(coveredIfs b.kind i.num d).any (fun j => c.covered n d j)) with
        | none => c
        | some b =>
          if c.hsRuns then c.addBind b
          else (c.updSvc (fun v => { v with binds := v.binds ++ [b] })).pendBind b .headspring)

/-- Class match of every configured device, where it waited. -/
def Chip.classMatchAll (c : Chip) : Chip :=
  c.each (List.finRange 96) (fun c n =>
    c.each ((c.ports[n]).drop.devs.map (·.route)) (fun c r => c.classMatch n r))

/-- Headspring is back: bindings that waited for it are tried (R221). -/
def Chip.bindsResume (c : Chip) : Chip := c.retryBinds (fun b => b.pending == some .headspring)

/-! ### Streams open and close (R114, R208, R209) -/

/-- A stream whose queue is closed leaves the list once its records have been sent. -/
def Chip.reapStreams (c : Chip) : Chip :=
  c.updSvc (fun v => { v with streams := v.streams.filter (fun x => !(x.closed && x.recs.isEmpty)) })

/-- A stream closes: bindings that use it end, its host-to-device sequence space closes, its context is freed; records
already queued are sent (R163). -/
def Chip.closeStream (c : Chip) (s : Strm) (free : Bool) : Chip :=
  let c := c.endBinds (fun b => b.stream == s.id || b.out == s.id) ubSTREAM
  let c := c.updTrunk (fun t => { t with rx := t.rx.filter (fun x => !(x.cls == 2 && x.id == s.id)) })
  let c := c.updStrm s.id (fun x =>
    { x with closed := true, inbound := [], recs := x.recs.map (fun r =>
        if r.st == .opened then { r with st := .cullet, flags := r.flags ||| pfDETACH } else r) })
  let c := if free then c.freeCtx s.cid else c
  c.reapStreams

end Sys2Proof.Machine
end

