-- ==== Sys2Proof/Machine/ChanBase.lean ====
section
/-! DEFINITION. Fuse channels as their dies hold them (13): CH_STATUS and its SEQ, the mirror (R18, R289), the parts' limits
(R273, R274), rails, and the SUSPEND profile (R177). -/

namespace Sys2Proof.Machine

/-- The die of a channel: FD0 for 0 to 47, FD1 for 48 to 95. -/
def fuseDie (n : Port) : Die := if n.val < 48 then 0 else 1

/-- PHASE codes of CH_STATUS. -/
def Phase.code : Phase → Nat
  | .off => 0
  | .armed => 1
  | .inrush => 2
  | .hold => 3
  | .on => 4
  | .suspend => 5
  | .tripped => 6

/-- CAUSE codes of CH_STATUS. -/
def caSHORT : Nat := 1
def caBREAKER : Nat := 2
def caTIMEOUT : Nat := 3
def caHOLD : Nat := 4

/-- CH_STATUS as the die holds it, WR_PEND apart. -/
def Chan.word (x : Chan) : Word :=
  let w := fset 0#32 F.CH_STATUS_PHASE x.phase.code
  let w := fset (fset w F.CH_STATUS_CAUSE x.cause) F.CH_STATUS_POINT x.point
  let w := fset (fset w F.CH_STATUS_RETRIES x.retries) F.CH_STATUS_LIMIT_CLAMP (bitOf x.limitClamp)
  let w := fset (fset w F.CH_STATUS_FET_FAULT (bitOf x.fetFault)) F.CH_STATUS_HELD_BY x.heldBy
  fset w seqF x.seq.toNat

/-- Change a channel in its die: SEQ advances on a change of bits 23:0. -/
def Chip.updCh (c : Chip) (n : Port) (f : Chan → Chan) : Chip :=
  c.updChan n (fun x => let y := f x; if y.word = x.word then y else { y with seq := x.seq + 1 })

/-- The mirror of a channel takes the die's values (R18). -/
def Chip.mirrorCh (c : Chip) (n : Port) : Chip :=
  let x := c.chans[n]
  let c := c.wr (.CH_STATUS n) x.word
  c.wr (.CH_MEAS n) (fset (fset 0#32 F.CH_MEAS_V_OUT x.vOut.toNat) F.CH_MEAS_I x.cur.toNat)

/-- A die takes commands: its link is up and it is not in reset (R19, R59); the link's clock comes from a PLL (R62, R65). -/
def Chip.dieUp (c : Chip) (d : Die) : Bool := !(c.fl[d]).hold && !(c.fl[d]).inReset && !c.noPll

/-- Frames to a die arrive: it takes commands, and the last frame sent to it was good (R18). -/
def Chip.dieHears (c : Chip) (d : Die) : Bool := c.dieUp d && (c.fl[d]).badTo == 0

/-- The rail of a channel (R275). -/
def Chip.railOf (c : Chip) (n : Port) : RailId := Fin.ofNat 8 (c.get (.CH_CFG n) F.CH_CFG_RAIL)

/-- The channels assigned to a rail. -/
def Chip.railChans (c : Chip) (j : RailId) : List Port := (List.finRange 96).filter (fun n => c.railOf n == j)

/-- A rail is in use. -/
def Chip.railEn (c : Chip) (j : RailId) : Bool := c.bit (.RAIL_CFG j) F.RAIL_CFG_EN

/-- The rail's draw exceeds its budget; 0xFFFF is no budget (R286, R287). -/
def Chip.overBudget (c : Chip) (j : RailId) : Bool :=
  let b := c.get (.RAIL_BUDGET j) F.RAIL_BUDGET_BUDGET
  b != 0xFFFF && b < (c.rails[j]).draw.toNat

/-- A blocked rail starts no inrush (R353). -/
def Chip.railBlocked (c : Chip) (j : RailId) : Bool := (c.rails[j]).blocked.isSome

/-- A rail's voltage as a die reads it (R16), in 10 mV. -/
def Chip.railV (c : Chip) (d : Die) (j : RailId) : Nat := (if d = 0 then (c.rails[j]).v0 else (c.rails[j]).v1).toNat

/-- UV_HOLD of a rail in 10 mV; the field is in units of 50 mV. -/
def Chip.uvHold (c : Chip) (j : RailId) : Nat := 5 * c.get (.RAIL_CFG j) F.RAIL_CFG_UV_HOLD

/-- A die reads a rail below UV_HOLD (R283); a UV_HOLD of 0 disables holding. -/
def Chip.railUv (c : Chip) (d : Die) (j : RailId) : Bool := c.railV d j < c.uvHold j

/-- The part limits of R273 for a shunt in 10 µΩ and currents in 10 mA: I_MAX within 75 mV, SHORT_I within 78 mV. -/
def partsOk (rshunt imax short : Nat) : Bool := imax * rshunt ≤ 750000 && short * rshunt ≤ 780000

/-- SHORT_I in force: clamped to the largest current that meets R273 (R274), in 10 mA. -/
def Chip.shortI (c : Chip) (n : Port) : Nat :=
  let rs := c.get (.CH_SENSE n) F.CH_SENSE_RSHUNT
  let i := c.get (.CH_LIMIT n) F.CH_LIMIT_SHORT_I
  if rs = 0 then i else min i (780000 / rs)

/-- I_MAX in force: clamped to the largest current that meets R273 (R274), in 10 mA. -/
def Chip.iMax (c : Chip) (n : Port) : Nat :=
  let rs := c.get (.CH_SENSE n) F.CH_SENSE_RSHUNT
  let i := c.get (.CH_INRUSH n) F.CH_INRUSH_I_MAX
  if rs = 0 then i else min i (750000 / rs)

/-- The current that INRUSH regulates to (R279), in 10 mA, from the die's own readings; the voltages are in 10 mV. -/
def Chip.inrushLimit (c : Chip) (n : Port) : Nat :=
  let drop := c.railV (fuseDie n) (c.railOf n) - (c.chans[n]).vOut.toNat
  if drop = 0 then c.iMax n
  else min (clampNat 1 100 (c.get (.CH_INRUSH n) F.CH_INRUSH_P_SOA) * 10000 / drop) (c.iMax n)

/-- The fast-trip threshold of the profile in force (R278, R280), in 10 mA. -/
def Chip.tripAtCur (c : Chip) (n : Port) : Nat :=
  if (c.chans[n]).phase = .suspend then c.get (.CH_SUSP n) F.CH_SUSP_SUSP_SHORT_I else c.shortI n

/-- The current of a channel is at or above the multiple of a used breaker point (R280): CH_MEAS and I_NOM are in 10 mA, SUSP_I_NOM
in mA. -/
def Chip.pointOver (c : Chip) (n : Port) (i : Fin 8) : Bool :=
  let x : Chan := c.chans[n]
  let m := c.get (.CH_CURVE n i) F.CH_CURVE_M
  let nom := if x.phase = .suspend then c.getPos (.CH_SUSP n) F.CH_SUSP_SUSP_I_NOM
    else 10 * c.getPos (.CH_LIMIT n) F.CH_LIMIT_I_NOM
  m != 0 && m * nom ≤ 160 * x.cur.toNat

/-- The timer of a breaker point at this moment, in ticks (R280): the current is the last sample's. -/
def Chip.pointTimer (c : Chip) (n : Port) (i : Fin 8) : Nat :=
  let x : Chan := c.chans[n]
  let t := x.timers.getD i.val 0
  let d := c.clk.now - x.timersAt
  if c.pointOver n i then t + d else t - d

/-- The breaker's timers move on to this moment, before a new sample counts (R280). -/
def Chip.breakerRun (c : Chip) (n : Port) : Chip :=
  let now := c.clk.now
  if (c.chans[n]).phase = .on ∨ (c.chans[n]).phase = .suspend then
    let ts := (List.finRange 8).map (c.pointTimer n)
    c.updChan n (fun x => { x with timers := ts, timersAt := now })
  else c

/-- The die regulates the current of a channel in INRUSH or HOLD (R279, R283). -/
def Chip.regulate (c : Chip) (n : Port) : Chip :=
  let i := c.inrushLimit n
  if (c.chans[n]).phase = .inrush ∨ (c.chans[n]).phase = .hold then c.updChan n (fun x => { x with limit := i }) else c

/-- A change of profile, or an entry to ON: the phase, and the breaker's timers restart from 0 (R280); the time in ON without a trip
begins or ends (R285). -/
def Chip.setProfile (c : Chip) (n : Port) (p : Phase) : Chip :=
  let now := c.clk.now
  c.updCh n (fun x =>
    { x with phase := p, timers := [], timersAt := now, onSince := if p = .on then some now else none })

/-- LIMIT_CLAMP follows the registers of a channel (R274). -/
def Chip.clampSync (c : Chip) (n : Port) : Chip :=
  let ok := partsOk (c.get (.CH_SENSE n) F.CH_SENSE_RSHUNT) (c.get (.CH_INRUSH n) F.CH_INRUSH_I_MAX)
    (c.get (.CH_LIMIT n) F.CH_LIMIT_SHORT_I)
  c.updCh n (fun x => { x with limitClamp := !ok })

/-- A channel event: SRC_KIND 7 with the port epoch. -/
def Chip.evCh (c : Chip) (code : Nat) (n : Port) (payload : List Nat) : Event :=
  { c.ev code 7 n.val payload with epoch := (c.ports[n]).epoch }

/-- A drop on a Type-C connector: mode DROP with CONN TYPEC and WIRING DROP (R48, R167). -/
def Chip.typeC (c : Chip) (n : Port) : Bool :=
  (c.ports[n]).mode == .drop && !c.bit (.PIN_CFG n) F.PIN_CFG_CONN && c.get (.PIN_CFG n) F.PIN_CFG_WIRING == 1

/-- One period of the slow oscillator, 30.5 µs, in ticks. -/
def slowPeriod : Nat := 48828

/-- A qualified wake request reaches the power controller (R334, R335, R337): with an entry under way it waits for the next
abort point or the end of the entry, in Sleep or deeper it starts the exit. Of two within one slow period the lower code
counts; a later one has no effect, and none during an exit that a refuser began (R334). -/
def Chip.wakeReq (c : Chip) (src idx : Nat) : Chip :=
  let now := c.clk.now
  let first : Bool := match c.pwr.wake with
    | none => true
    | some w => src < w.1 && now < c.pwr.wakeFrom + slowPeriod
  if first && (c.asleep || c.pwr.entry.isSome) && !(c.pwr.exiting && c.pwr.wake.isNone) then
    let from_ := if c.pwr.wake.isNone then now else c.pwr.wakeFrom
    let exit : Bool := c.asleep && c.pwr.entry.isNone
    let c := c.updPwr (fun p => { p with wake := some (src, idx), wakeFrom := from_, exiting := p.exiting || exit })
    c.wr .PWR_WAKE_CAUSE (fset (fset 0#32 F.PWR_WAKE_CAUSE_INDEX idx) F.PWR_WAKE_CAUSE_SOURCE src)
  else c

/-- A wake request crosses to the power controller (R74): through a native crossing, whose acknowledge takes one slow period, or as a
level in asynchronous mode, which stands until the device is back in Run and merges with a second request. -/
def Chip.wakeCross (c : Chip) (src idx : Nat) : Chip :=
  let num := wakeNum src idx
  if !(c.asleep || c.pwr.entry.isSome) then c
  else if c.wakeAsync src idx then
    if c.clk.levels.contains num then c
    else (c.updClk (fun k => { k with levels := k.levels ++ [num] })).wakeReq src idx
  else c.pulse cbAON num (.wake src idx) (some slowPeriod) (fun c => c.wakeReq src idx)

/-- A trip's event: at once, or after Run is reached from Sleep or Deep sleep (R337). A trip is a wake source (R335). -/
def Chip.postTrip (c : Chip) (n : Port) (e : Event) : Chip :=
  if c.asleep then (c.updPwr (fun p => { p with tripsDue := p.tripsDue ++ [e] })).wakeReq 9 n.val
  else (c.postFault .trip e).wakeReq 9 n.val

/-! ### Writes queued for a die (R17, R18, R289, R319) -/

/-- The channel of a channel register. -/
def fuseChan? : Reg → Option Port
  | .CH_CMD n => some n
  | .CH_CFG n => some n
  | .CH_SENSE n => some n
  | .CH_INRUSH n => some n
  | .CH_LIMIT n => some n
  | .CH_SUSP n => some n
  | .CH_CURVE n _ => some n
  | .CH_STATUS n => some n
  | .CH_MEAS n => some n
  | _ => none

/-- The die of a fuse-die register. The registers of the rails, which both dies use, travel on FD0's link (DESIGN CHOICE, log entry
226). -/
def regDie (r : Reg) : Die := ((fuseChan? r).map fuseDie).getD 0

/-- WR_PEND of a channel: a write is queued (R289). -/
def Chip.chPending (c : Chip) (n : Port) : Bool :=
  (c.fl[fuseDie n]).writes.any (fun x => fuseChan? x.1 == some n)

/-- WR_PEND of a channel has risen and fallen: SEQ of CH_STATUS counts both changes (R289), and the far side learns of them with the
write (R316). -/
def Chip.pendFell (c : Chip) (n : Port) : Chip :=
  let c := c.updChan n (fun x => { x with seq := x.seq + 2 })
  c.setF (.CH_STATUS n) seqF ((c.get (.CH_STATUS n) seqF + 2) % 256)

/-- The queue of a link is shortened to what `f` leaves of it. -/
def Chip.dropWrites (c : Chip) (d : Die) (f : List (Reg × Word × Word) → List (Reg × Word × Word)) : Chip :=
  let ns := ((c.fl[d]).writes.filterMap (fun x => fuseChan? x.1)).dedup
  let c := c.updFl d (fun l => { l with writes := f l.writes })
  c.each (ns.filter (fun n => !c.chPending n)) Chip.pendFell

/-- A register of a die is about to change while its frames to the compute die fail: the mirror keeps what it read (R18). -/
def Chip.keepStale (c : Chip) (r : Reg) : Chip :=
  let d := regDie r
  if (c.fl[d]).badFrom = 0 ∨ (c.fl[d]).stale.any (fun x => x.1 == r) then c
  else
    let w := c.rd r
    c.updFl d (fun l => { l with stale := l.stale ++ [(r, w)] })

/-- A register of a die as the mirror has it (R18, R289). -/
def Chip.mirrorWord (c : Chip) (r : Reg) : Word :=
  (((c.fl[regDie r]).stale.find? (fun x => x.1 == r)).map (·.2)).getD (c.rd r)

/-- CH_STATUS as it reads. -/
def Chip.chStatusWord (c : Chip) (n : Port) : Word :=
  let w := c.rd (.CH_STATUS n)
  if c.chPending n then fset (fset w F.CH_STATUS_WR_PEND 1) seqF ((fget w seqF + 1) % 256) else w

/-- Every bit of a word. -/
def allBits : Word := 0xFFFFFFFF#32

/-- The drop state machine's write of SUSPEND or ON to a channel that is on (R177, R278). It waits in its link behind older
writes of the same channel (R17) and while the die takes none (R18, R19). -/
def Chip.suspendCh (c : Chip) (n : Port) (sus : Bool) : Chip :=
  let d := fuseDie n
  let v : Word := if sus then 2#32 else 1#32
  let x : Chan := c.chans[n]
  if x.phase ≠ .on ∧ x.phase ≠ .suspend then c
  else if c.dieHears d && !c.chPending n then
    let c := c.keepStale (.CH_CMD n)
    (if x.phase = (if sus then .suspend else .on) then c
      else c.setProfile n (if sus then .suspend else .on)).wr (.CH_CMD n) v
  else c.updFl d (fun l => { l with writes := l.writes ++ [(.CH_CMD n, v, allBits)] })

/-- A SUSPEND that still waits in its link is withdrawn: the drop leaves the state that wrote it (R31, R177). -/
def Chip.dropSuspend (c : Chip) (n : Port) : Chip :=
  if c.chPending n then c.dropWrites (fuseDie n) (fun ws => ws.filter (fun x => !(x.1 == .CH_CMD n && x.2.1 == 2#32))) else c

end Sys2Proof.Machine
end

