-- ==== Sys2Proof/Machine/CtxBytes.lean ====
section
/-! DEFINITION. The 32 bytes of a context as CTX_READ and MARK_READ return them (07 R146, 09 R187, 10 R208, 11 R239, 12
R254, 10 R219). -/

namespace Sys2Proof.Machine

/-- Bytes of word 0 (R146). -/
def Ctx.head (x : Ctx) : List Byte := leBytes 1 x.typ ++ leBytes 1 x.holder ++ [x.gen] ++ leBytes 1 0 ++ leBytes 4 x.parent

/-- A context reference in 4 bytes: CID and GEN. -/
def refBytes (cid : Nat) (gen : Byte) : List Byte := leBytes 4 (cid + 1048576 * gen.toNat)

def DevBody.layout (b : DevBody) : List Byte :=
  leBytes 3 b.route.toNat ++ leBytes 1 b.addr ++ leBytes 1 (b.speed + 16 * b.state) ++ leBytes 1 b.config ++ bytesAt b.desc 0 18

def EpBody.layout (b : EpBody) : List Byte :=
  [b.ep] ++ leBytes 1 (b.xfer + 4 * (b.mult - 1) + 16 * bitOf b.toggle + 32 * bitOf b.halted + 64 * bitOf b.slow +
      128 * bitOf b.active) ++
    leBytes 2 (b.mps % 2048) ++ leBytes 1 b.period ++ leBytes 1 b.phase ++ leBytes 1 b.iface ++ leBytes 1 b.alt ++
    (match b.stream with
     | some r => refBytes r.1 r.2
     | none => leBytes 4 0) ++
    leBytes 1 b.nakBudget ++ leBytes 1 b.weight ++ leBytes 2 b.slowRun ++ leBytes 8 b.bytes

def NodeBody.layout (b : NodeBody) : List Byte :=
  leBytes 8 b.serial.toNat ++ leBytes 1 b.addr ++ leBytes 1 b.nstate ++ leBytes 1 b.objCnt ++ leBytes 1 b.run ++
    leBytes 1 b.missed ++ leBytes 1 b.annTry ++ leBytes 2 b.pollMs ++ leBytes 8 b.lastRx.toNat

def ObjBody.layout (b : ObjBody) : List Byte :=
  leBytes 1 b.obj ++ leBytes 1 (b.access % 8 + 8 * (b.report % 4) + 32 * bitOf b.writePend) ++ leBytes 1 b.vlen ++
    leBytes 1 b.otype ++ bytesAt b.value 0 8 ++ leBytes 8 b.time.toNat ++ leBytes 4 b.rcount.toNat

def MarkBody.layout (b : MarkBody) : List Byte :=
  leBytes 6 b.pos.toNat ++ leBytes 1 (b.belt.val + 16 * b.dir) ++ leBytes 1 b.action ++ leBytes 1 b.mstate ++ [b.mflags] ++
    leBytes 2 b.window.toNat ++ leBytes 4 b.arg.toNat ++ leBytes 2 b.portEpoch.toNat ++ leBytes 2 b.nodeEpoch.toNat ++
    leBytes 1 b.door.val ++ leBytes 3 0

def SvcBody.layout (b : SvcBody) : List Byte :=
  leBytes 1 b.kind ++ leBytes 1 b.state ++ leBytes 1 b.iface ++ leBytes 1 b.profile ++ refBytes b.stream.1 b.stream.2 ++
    (match b.out with
     | some r => refBytes r.1 r.2
     | none => leBytes 4 0) ++
    leBytes 2 b.fill ++ leBytes 1 b.keymap ++ [b.pstat] ++ leBytes 4 b.rseq.toNat ++ leBytes 4 b.job

/-- The 16 bytes of a match rule (10). -/
def MatchRule.layout (r : MatchRule) : List Byte :=
  [r.cls, r.sub, r.proto, r.mask] ++ leBytes 2 r.vid.toNat ++ leBytes 2 r.pid.toNat ++ leBytes 1 r.portFirst ++
    leBytes 1 r.portLast ++ leBytes 1 r.kind ++ leBytes 1 r.profile ++ leBytes 2 r.stream.toNat ++ leBytes 2 r.out.toNat

/-- Pages of a keymap, and the first page of the rules (R219: 22 per keymap, 43 for the rules, 24 data bytes each). -/
def keymapPages : Nat := 22
def rulePage0 : Nat := 8 * keymapPages

/-- The data bytes of a table page. -/
def Chip.pageBytes (c : Chip) (i : Nat) : List Byte :=
  if i < rulePage0 then bytesAt ((lookupNat c.svc.keymaps (i / keymapPages)).getD []) (24 * (i % keymapPages)) 24
  else bytesAt (c.svc.rules.flatMap MatchRule.layout) (24 * (i - rulePage0)) 24

/-- 24 free bytes: the layouts of a STREAM body and of a template are not in the manual. -/
def Chip.freeBytes (c : Chip) (n : Nat) : List Byte × Chip :=
  ((List.range n).map (fun i => (Config.freeValue (c.freeCtr + i)).setWidth 8), { c with freeCtr := c.freeCtr + n })

/-- The 24 bytes of a context's BODY. -/
def Chip.bodyBytes (c : Chip) (b : Body) : List Byte × Chip :=
  match b with
  | .zero => (List.replicate 24 0#8, c)
  | .dev x => (x.layout, c)
  | .ep x => (x.layout, c)
  | .node x => (x.layout, c)
  | .obj x => (x.layout, c)
  | .mark x => (x.layout, c)
  | .service x => (x.layout, c)
  | .page i => (c.pageBytes i, c)
  | .stream _ => c.freeBytes 24
  | .template _ => c.freeBytes 24
  | .more _ => c.freeBytes 24

/-- The 32 bytes of a context; a poisoned one's are what its damaged words give, free values. -/
def Chip.ctxBytes (c : Chip) (cid : Nat) : List Byte × Chip :=
  let x := c.ctx cid
  if x.poisoned then c.freeBytes 32
  else
    let (b, c) := c.bodyBytes x.body
    (x.head ++ b, c)

end Sys2Proof.Machine
end

