-- ==== Sys2Proof/Machine/Ecdsa.lean ====
section
/-! DEFINITION. ECDSA verification on the curve P-384 (R76, R81 step 3): the published function (FIPS 186-5), as the boot ROM
computes it. -/

namespace Sys2Proof.Machine

/-- The prime, the coefficient b (a is -3), the order and the base point of P-384. -/
def p384P : Nat := 2 ^ 384 - 2 ^ 128 - 2 ^ 96 + 2 ^ 32 - 1
def p384B : Nat :=
  0xb3312fa7e23ee7e4988e056be3f82d19181d9c6efe8141120314088f5013875ac656398d8a2ed19d2a85c8edd3ec2aef
def p384N : Nat :=
  0xffffffffffffffffffffffffffffffffffffffffffffffffc7634d81f4372ddf581a0db248b0a77aecec196accc52973
def p384G : Nat × Nat :=
  (0xaa87ca22be8b05378eb1c71ef320ad746e1d3b628ba79b9859f741e082542a385502f25dbf55296c3a545e3872760ab7,
   0x3617de4a96262c6f5d9e98bf9292dc29f8f41dbd289a147ce9da3113b5f0b8c00a60b1ce1d7e819d7a431d7c90ea0e5f)

/-- `a ^ e` modulo `m`, over the low `k` bits of `e`. -/
def powMod (m : Nat) : Nat → Nat → Nat → Nat
  | 0, _, _ => 1 % m
  | k + 1, a, e => (if e % 2 = 1 then a else 1) * powMod m k (a * a % m) (e / 2) % m

/-- The inverse modulo a 384-bit prime, by Fermat. -/
def invMod (m a : Nat) : Nat := powMod m 384 (a % m) (m - 2)

/-- A point of the curve; none is the point at infinity. -/
abbrev CurvePt := Option (Nat × Nat)

/-- Addition of points. -/
def curveAdd (x y : CurvePt) : CurvePt :=
  match x, y with
  | none, q => q
  | p, none => p
  | some (x1, y1), some (x2, y2) =>
    if x1 = x2 ∧ (y1 + y2) % p384P = 0 then none
    else
      let s := if x1 = x2 then (3 * x1 * x1 + (p384P - 3)) * invMod p384P (2 * y1) % p384P
        else (y2 + (p384P - y1)) * invMod p384P (x2 + (p384P - x1)) % p384P
      let x3 := (s * s + (p384P - x1) + (p384P - x2)) % p384P
      some (x3, (s * (x1 + (p384P - x3)) + (p384P - y1)) % p384P)

/-- `e` times a point, over the low `k` bits of `e`. -/
def curveMul : Nat → Nat → CurvePt → CurvePt
  | 0, _, _ => none
  | k + 1, e, q =>
    let r := curveMul k (e / 2) (curveAdd q q)
    if e % 2 = 1 then curveAdd q r else r

/-- The point of a SEC1 uncompressed public key of 97 bytes; none where it is no point of the curve. -/
def keyPoint (b : List Byte) : Option (Nat × Nat) :=
  let x := beVal (bytesAt b 1 48)
  let y := beVal (bytesAt b 49 48)
  if b.headD 0#8 = 4#8 ∧ x < p384P ∧ y < p384P ∧ y * y % p384P = (x * x * x + (p384P - 3) * x + p384B) % p384P then some (x, y)
  else none

/-- A signature r, s of 96 bytes over a message is valid under a public key. -/
def ecdsaValid (key sig msg : List Byte) : Bool :=
  let r := beVal (bytesAt sig 0 48)
  let s := beVal (bytesAt sig 48 48)
  match keyPoint key with
  | none => false
  | some q =>
    if r = 0 ∨ p384N ≤ r ∨ s = 0 ∨ p384N ≤ s then false
    else
      let w := invMod p384N s
      let e := (sha384 msg).toNat
      match curveAdd (curveMul 384 (e * w % p384N) (some p384G)) (curveMul 384 (r * w % p384N) (some q)) with
      | none => false
      | some (x, _) => x % p384N == r

end Sys2Proof.Machine
end

