-- ==== Sys2Proof/Machine/FwOps.lean ====
section
/-! DEFINITION. Operations of boot and firmware (04): the flash and its images, measurement and its log, quotes, the boot
ROM, the service tables (R219). -/

namespace Sys2Proof.Machine

/-! ### The flash (R76) -/

/-- The byte of an unlisted flash address: an erased NOR cell (PRESUMED). -/
def flashErased : Byte := 0xFF#8

/-- The stored byte of a flash address. -/
def flashGet : List Host.Cell → Nat → Byte
  | [], _ => flashErased
  | (j, v) :: t, a => if j = a then v else flashGet t a

/-- Store a byte, keeping addresses rising and no entry equal to an erased byte. -/
def flashSet : List Host.Cell → Nat → Byte → List Host.Cell
  | [], a, v => if v = flashErased then [] else [(a, v)]
  | (j, w) :: t, a, v =>
    if j < a then (j, w) :: flashSet t a v
    else if j = a then (if v = flashErased then t else (a, v) :: t)
    else if v = flashErased then (j, w) :: t else (a, v) :: (j, w) :: t

/-- The canonical form of the flash: addresses strictly rising, no entry of an erased byte. -/
def flashOk : List Host.Cell → Bool
  | [] => true
  | [(_, v)] => v != flashErased
  | (a, v) :: (b, w) :: t => v != flashErased && a < b && flashOk ((b, w) :: t)

/-- Bytes of the flash. -/
def Chip.flashBytes (c : Chip) (a n : Nat) : List Byte := (List.range n).map (fun i => flashGet c.fw.flash (a + i))

/-- A flash program clears bits of each byte (NOR, PRESUMED) from an address on. -/
def flashProgram (f : List Host.Cell) : Nat → List Byte → List Host.Cell
  | _, [] => f
  | a, b :: t => flashProgram (flashSet f a (flashGet f a &&& b)) (a + 1) t

/-- A flash erase of 64 KiB. -/
def flashErase (f : List Host.Cell) (a : Nat) : List Host.Cell := f.filter (fun x => x.1 < a || a + 65536 ≤ x.1)

/-! ### Images (R76 to R79) -/

/-- Component TYPE codes. -/
def cpFW : Nat := 1
def cpUCODE : Nat := 2
def cpCONFIG : Nat := 3
def cpTABLES : Nat := 4

/-- A component entry of the header (R76). -/
structure CompEnt where
  typ : Nat
  off : Nat
  len : Nat
  format : Nat
  version : BitVec 64
  digest : BitVec 384

/-- A well-formed header. -/
structure ImgHead where
  version : BitVec 64
  signed : Bool
  comps : List CompEnt

/-- The base address of a bank. -/
def bankBase (b : Nat) : Nat := 33554432 * (b % 2)

/-- The greatest length of a component (R77). -/
def compMax (typ : Nat) : Nat :=
  match typ with
  | 1 => 3145728
  | 2 => 2097152
  | _ => 1048576

/-- A component entry from its 80 bytes. -/
def compOf (b : List Byte) : CompEnt :=
  { typ := leAt b 0 1, off := leAt b 4 4, len := leAt b 8 4, format := leAt b 12 4, version := BitVec.ofNat 64 (leAt b 16 8)
    digest := BitVec.ofNat 384 (beVal (bytesAt b 24 48)) }

/-- Two components do not overlap. -/
def apart (x y : CompEnt) : Bool := x.off + x.len ≤ y.off || y.off + y.len ≤ x.off

/-- A component entry is in place (R79). -/
def compOk (x : CompEnt) : Bool :=
  1 ≤ x.typ && x.typ ≤ 4 && x.off + x.len ≤ 33554432 && x.len ≤ compMax x.typ

/-- The header of a bank, none where it is malformed (R79). -/
def Chip.header (c : Chip) (bank : Nat) : Option ImgHead :=
  let a := bankBase bank
  let h := c.flashBytes a 24
  let n := leAt h 6 2
  if leAt h 0 4 ≠ 0x49514855 ∨ leAt h 4 2 ≠ 1 ∨ n = 0 ∨ 4 < n then none
  else
    let comps := (List.range n).map (fun i => compOf (c.flashBytes (a + 24 + 80 * i) 80))
    let once (t : Nat) : Bool := (comps.filter (fun x => x.typ == t)).length ≤ 1
    let has (t : Nat) : Bool := comps.any (fun x => x.typ == t)
    if comps.all compOk && once 1 && once 2 && once 3 && once 4 && has 1 && has 2 &&
        comps.all (fun x => comps.all (fun y => x.typ == y.typ || apart x y)) &&
        leAt (c.flashBytes (a + 4092) 4) 0 4 == (crc32c (c.flashBytes a 4092)).toNat then
      some { version := BitVec.ofNat 64 (leAt h 8 8), signed := leAt h 16 4 % 2 == 1, comps := comps }
    else none

/-- A component of an image. -/
def ImgHead.comp? (h : ImgHead) (typ : Nat) : Option CompEnt := h.comps.find? (fun x => x.typ == typ)

/-- The bytes of a component. -/
def Chip.compBytes (c : Chip) (bank : Nat) (x : CompEnt) : List Byte := c.flashBytes (bankBase bank + x.off) x.len

/-! ### Measurement (R87 to R91) -/

/-- MEAS_i takes a digest: SHA-384 of MEAS_i and the digest (R87). -/
def measNext (m : Vector (BitVec 384) 8) (i : Nat) (d : BitVec 384) : Vector (BitVec 384) 8 :=
  m.set! i (sha384 (digestBytes (m[i]!) ++ digestBytes d))
def Chip.extend (c : Chip) (i : Nat) (d : BitVec 384) : Chip := c.updFw (fun f => { f with meas := measNext f.meas i d })

/-- The measurement registers after the log entries up to a SEQ, by replay (R89). -/
def Chip.measAt (c : Chip) (seq : Word) : Vector (BitVec 384) 8 :=
  (c.fw.log.filter (fun e => e.seq.toNat ≤ seq.toNat)).foldl (fun m e => if e.meas < 8 then measNext m e.meas e.digest else m)
    c.fw.base

/-- The log takes no further extend (R91). -/
def Chip.logFull (c : Chip) : Bool := 1024 ≤ c.fw.log.length

/-- Append a log entry (R89), which a full log does not take; LOG_FULL at 1,000 entries (R91); a Bead record is due (R95). -/
def Chip.logPut (c : Chip) (kind meas detail : Nat) (time version : BitVec 64) (d : BitVec 384) : Chip :=
  if c.logFull then c else
  let c := c.updFw (fun f =>
    { f with log := f.log ++ [⟨f.logNext, kind, meas, detail, time, version, d⟩], logNext := f.logNext + 1#32 })
  let c := c.updBead (fun b => { b with attestDue := true })
  let n := c.fw.log.length
  if n = 1000 then c.post (c.ev 0x0908 0 0 [n]) else c

/-- Extend a measurement register and log it; an extend that cannot be logged is refused (R88, R91). -/
def Chip.measure (c : Chip) (i kind : Nat) (time version : BitVec 64) (d : BitVec 384) : Chip :=
  if c.logFull then c else (c.extend i d).logPut kind i 0 time version d

/-- The end of a roll (R103), once every basin is done: the staging half becomes the active one. -/
def Chip.rollEnd (c : Chip) : Chip :=
  match c.fw.roll with
  | none => c
  | some r =>
    if r.basins.all (fun b => b.complete) then
      let c := c.updFw (fun f =>
        { f with roll := none, ucodeVersion := r.version, reloadActive := f.reloadStaging, reloadStaging := f.reloadActive
                 active := f.staging, staging := f.active })
      c.setSt .BOOT_STATUS F.BOOT_STATUS_UBANK r.bank
    else c

/-- Engines load the microcode of a half. -/
def Chip.loadEngines (c : Chip) (es : List Engine) (h : Half) : Chip :=
  c.each es (fun c e => c.updEng e (fun x => { x with ucode := some h.digest }))

/-- A basin's roll is done (R102): its spares are loaded anew, KIND 0x05, ROLL_BASIN_DONE (0x0905). The log entry
extends nothing, its DIGEST is 0 (DESIGN CHOICE, log entry 231). -/
def Chip.rollBasinDone (c : Chip) (b : Basin) (rolled : Nat) : Chip :=
  match c.fw.roll with
  | none => c
  | some r =>
    let x : RollBasin := { rolled := rolled, complete := true, stalled := false, done := [] }
    let c := c.updFw (fun f => { f with roll := some { r with basins := r.basins.set b x }, ucodeVersion := r.version })
    let c := c.loadEngines (((List.range 32).map (engineAt b.val)).filter (fun e => (c.engines[e]).role == .spare)) c.fw.staging
    let c := c.logPut 5 0xFF b.val c.sei.time r.version 0
    (c.post (c.ev 0x0905 0 b.val [b.val, r.version.toNat])).rollEnd

/-- The SEQ of the newest log entry, as a quote carries it. -/
def Chip.logCount (c : Chip) : Nat := (c.fw.logNext - 1#32).toNat

/-- Bytes 56 to 471 of a quote: the measurements given and the versions (R93, R95). -/
def Chip.quoteCoreOf (c : Chip) (m : Vector (BitVec 384) 8) : List Byte :=
  m.toList.flatMap digestBytes ++ leBytes 8 c.fw.fwVersion.toNat ++ leBytes 8 c.fw.ucodeVersion.toNat ++
    leBytes 8 c.fw.configVersion.toNat ++ leBytes 8 c.fw.tablesVersion.toNat

/-- Bytes 56 to 471 of a quote taken now. -/
def Chip.quoteCore (c : Chip) : List Byte := c.quoteCoreOf c.fw.meas

/-- A quote of 576 bytes (R93) over the measurements given, signed by the signing unit. -/
def Chip.quoteOf (c : Chip) (m : Vector (BitVec 384) 8) (nonce : List Byte) : List Byte :=
  let flags := bitOf c.fw.roll.isSome + 2 * bitOf (c.bit .BOOT_STATUS F.BOOT_STATUS_RECOVERY) + 4 * bitOf c.fw.logTrimmed +
    8 * bitOf (c.get .BOOT_STATUS F.BOOT_STATUS_DIG_MISMATCH != 0)
  let b := leBytes 2 1 ++ leBytes 2 flags ++ leBytes 4 c.logCount ++ bytesAt nonce 0 32 ++ leBytes 8 Config.serial.toNat ++
    leBytes 4 0x9600 ++ leBytes 4 Config.gradeCode ++ c.quoteCoreOf m ++ leBytes 8 c.sei.time.toNat
  b ++ bytesAt (Config.sign b) 0 96

/-- A quote of the measurements as they stand (R93). -/
def Chip.quoteBytes (c : Chip) (nonce : List Byte) : List Byte := c.quoteOf c.fw.meas nonce

/-- A quote built without firmware, in a recovery boot (R96). -/
def Chip.quoteRom (c : Chip) (nonce : List Byte) : List Byte :=
  let b := leBytes 2 1 ++ leBytes 2 2 ++ leBytes 4 0 ++ bytesAt nonce 0 32 ++ leBytes 8 Config.serial.toNat ++
    leBytes 4 0x9600 ++ leBytes 4 Config.gradeCode ++ c.fw.meas.toList.flatMap digestBytes ++ leBytes 8 0 ++ leBytes 8 0 ++
    leBytes 8 0 ++ leBytes 8 0 ++ leBytes 8 0
  b ++ bytesAt (Config.sign b) 0 96

/-! ### The boot ROM (R80, R81, R83, R85) -/

/-- A field of BOOT_STATUS. -/
def Chip.bootSt (c : Chip) (f : Field) (v : Nat) : Chip := c.setSt .BOOT_STATUS f v

/-- One occurrence of source BOOT before firmware runs (R326): SIG invalid or mismatch, FALLBACK, RECOVERY. -/
def Chip.bootFault (c : Chip) : Chip := c.fault .boot (c.ev 0x0901 0 0 [])

/-- The ROM enters recovery (R85): no fetch, the register window over the service port only. -/
def Chip.bootRecovery (c : Chip) : Chip :=
  let c := c.bootSt F.BOOT_STATUS_RECOVERY 1
  let c := c.updClk (fun k => { k with boot := .recovery, wdt := none })
  c.bootFault

/-- SIGNER_KEY has the hash in OTP: SHA-384 of its 97 bytes (PRESUMED, log entry 4: the manual names no hash function). -/
def keyHashMatches (key : List Byte) : Bool := sha384 key == Config.keyHash

/-- The SIG result of an image (R81 step 3, R83). Where the key misses the hash and the signature is invalid too, the key's code 0b11
is reported (DESIGN CHOICE, log entry 185: the manual gives no order). -/
def Chip.sigOf (c : Chip) (bank : Nat) (h : ImgHead) : Nat :=
  let a := bankBase bank
  let key := c.flashBytes (a + 440) 97
  if !h.signed || !Config.keyHashProgrammed then 0
  else if !keyHashMatches key then 3
  else if ecdsaValid key (c.flashBytes (a + 344) 96) (c.flashBytes a 344) then 1
  else 2

/-- Fetch and measure one component (R81 step 4): its digest extends its register, and a digest that differs from the
declared one marks it (R83), an occurrence of source BOOT (R326). -/
def Chip.fetchComp (c : Chip) (bank : Nat) (h : ImgHead) (typ : Nat) : Chip :=
  match h.comp? typ with
  | none => c
  | some x =>
    let code := c.compBytes bank x
    let d := sha384 code
    let c := c.measure typ 1 0#64 x.version d
    let c := if d = x.digest then c
      else (c.bootSt F.BOOT_STATUS_DIG_MISMATCH (c.get .BOOT_STATUS F.BOOT_STATUS_DIG_MISMATCH ||| 2 ^ (typ - 1))).fault .boot
        (c.ev 0x0907 0 0 [typ])
    c.updFw (fun f =>
      match typ with
      | 1 => { f with fwDigest := d, fwVersion := x.version }
      | 2 => { f with ucodeVersion := x.version, active := ⟨code, x.version, x.format, d⟩ }
      | _ => f)

/-- The image chosen is fetched; Headspring pair A is released and the boot watchdog starts (R81, R84). -/
def Chip.bootImage (c : Chip) (bank : Nat) (h : ImgHead) : Chip :=
  let c := (c.bootSt F.BOOT_STATUS_BANK bank).bootSt F.BOOT_STATUS_UBANK bank
  let sig := c.sigOf bank h
  let c := c.bootSt F.BOOT_STATUS_SIG sig
  let c := if 2 ≤ sig then c.bootFault else c
  let c := c.each [cpFW, cpUCODE, cpCONFIG, cpTABLES] (fun c t => c.fetchComp bank h t)
  let c := c.updFw (fun f => { f with imageVersion := h.version, pairB := false })
  let now := c.clk.now
  c.updClk (fun k => { k with boot := .firmware, wdt := some (now + sec 2) })

/-- The boot ROM from its start (R80, R81). -/
def Chip.bootRom (c : Chip) : Chip :=
  let c := c.updFw (fun f => { f with meas := Vector.replicate 8 0, base := Vector.replicate 8 0 })
  let c := c.measure 0 1 0#64 0#64 Config.romDigest
  let ovr (f : Field) : Bool := c.bit .BOOT_OVR f
  let strap (i : Nat) : Bool := c.bitAt .GLB_STRAP F.GLB_STRAP_STRAP i
  if strap 1 then c.bootRecovery
  else if ovr F.BOOT_OVR_RECOVER then
    ((c.setF .BOOT_OVR F.BOOT_OVR_RECOVER 0).setF .BOOT_OVR F.BOOT_OVR_WDT_FAILS 0).bootRecovery
  else
    let bank := if ovr F.BOOT_OVR_VALID then c.get .BOOT_OVR F.BOOT_OVR_BANK else bitOf (strap 0)
    let c := if ovr F.BOOT_OVR_VALID && ovr F.BOOT_OVR_ONCE then c.setF .BOOT_OVR F.BOOT_OVR_VALID 0 else c
    match c.header bank with
    | some h => c.bootImage bank h
    | none =>
      let c := (c.bootSt F.BOOT_STATUS_FALLBACK 1).bootFault
      match c.header (1 - bank) with
      | some h => c.bootImage (1 - bank) h
      | none => c.bootRecovery

/-! ### Service tables (R213, R219) -/

/-- A match rule from its 16 bytes (R207). -/
def ruleOf (b : List Byte) : MatchRule :=
  let at_ (i : Nat) : Byte := b.getD i 0#8
  { cls := at_ 0, sub := at_ 1, proto := at_ 2, mask := at_ 3, vid := BitVec.ofNat 16 (leAt b 4 2),
    pid := BitVec.ofNat 16 (leAt b 6 2), portFirst := leAt b 8 1, portLast := leAt b 9 1, kind := leAt b 10 1,
    profile := leAt b 11 1, stream := BitVec.ofNat 16 (leAt b 12 2), out := BitVec.ofNat 16 (leAt b 14 2) }

/-- The rules and keymaps of a TABLES component (R219); none where its counts are out of range or it is too short. -/
def tablesOf (b : List Byte) : Option (List MatchRule × List (Nat × List Byte)) :=
  let r := leAt b 0 2
  let k := leAt b 2 2
  if 64 < r ∨ 8 < k ∨ b.length < 8 + 16 * r + 512 * k then none
  else
    some ((List.range r).map (fun i => ruleOf (bytesAt b (8 + 16 * i) 16)),
          (List.range k).map (fun i => (i, bytesAt b (8 + 16 * r + 512 * i) 512)))

/-- The pages that tables take: 22 per keymap, and those of the rules (R219). -/
def tablePages (rules : List MatchRule) (maps : List (Nat × List Byte)) : List Nat :=
  maps.flatMap (fun m => (List.range keymapPages).map (fun j => keymapPages * m.1 + j)) ++
    (List.range ((16 * rules.length + 23) / 24)).map (fun j => rulePage0 + j)

/-- The number of a table page. -/
def Chip.pageOf (c : Chip) (cid : Nat) : Nat :=
  match (c.ctx cid).body with
  | .page i => i
  | _ => 0

/-- New tables in force: their pages allocated in H_MGMT, those of the rules and keymaps they replace freed, further keymaps
left as they stand (R213); a refusal leaves the old ones (R219). -/
def Chip.putTables (c : Chip) (bank : Nat) (rules : List MatchRule) (maps : List (Nat × List Byte)) : Except Nat Chip :=
  let pages := tablePages rules maps
  match Chip.allocMany pages.length hMGMT (.of tSERVICE) pages.length [] c with
  | (.error v, _) => .error v
  | (.ok cids, c) =>
    let stays (i : Nat) : Bool := maps.length * keymapPages ≤ i && i < rulePage0
    let old := c.svc.pages.filter (fun x => !stays (c.pageOf x))
    let kept := c.svc.pages.filter (fun x => stays (c.pageOf x))
    let c := c.each (cids.zip pages) (fun c x => c.setBody x.1 (.page x.2))
    let c := c.updSvc (fun v =>
      { v with rules := rules, pages := kept ++ cids, tablesBank := some bank, lostPages := v.lostPages.filter stays
               keymaps := maps.foldl (fun l m => insertNat l m.1 m.2) v.keymaps })
    .ok (c.each old Chip.freeCtx)

/-- The TABLES component of a bank applied, as TABLES_APPLY and the boot do, measured or not. -/
def Chip.applyTables (c : Chip) (bank : Nat) : Except Nat (CompEnt × Chip) :=
  match (c.header bank).bind (fun h => h.comp? cpTABLES) with
  | none => .error rBAD_ARG
  | some x =>
    match tablesOf (c.compBytes bank x) with
    | none => .error rBAD_ARG
    | some (r, m) =>
      match c.putTables bank r m with
      | .error v => .error v
      | .ok c => .ok (x, c.updFw (fun f => { f with tablesVersion := x.version }))

end Sys2Proof.Machine
end

