-- ==== Sys2Proof/Machine/BeadOps.lean ====
section
/-! DEFINITION. Operations of the Bead (18): its blocks, records and their generations (R358 to R362), commits (R359, R365),
Headspring's records and their queue (R366). -/

namespace Sys2Proof.Machine

/-! ### Blocks (R358) -/

/-- A block as 32 bytes. -/
def blockBytes (b : BitVec 256) : List Byte := leBytes 32 b.toNat

/-- A block from 32 bytes. -/
def blockOf (b : List Byte) : BitVec 256 := BitVec.ofNat 256 (leAt b 0 32)

/-- Block 0 of IDENT: SERIAL, PART, GRADE, STEP. -/
def identBlock : BitVec 256 :=
  blockOf (leBytes 8 Config.serial.toNat ++ leBytes 4 0x9600 ++ leBytes 4 Config.gradeCode ++ leBytes 1 1)

/-- The content of a block. -/
def BeadSt.block (b : BeadSt) (i : Nat) : BitVec 256 := if i = 0 then identBlock else (lookupNat b.blocks i).getD 0

/-- A block takes new content. -/
def BeadSt.putBlock (b : BeadSt) (i : Nat) (v : BitVec 256) : BeadSt :=
  { b with blocks := if v = 0 then eraseNat b.blocks i else insertNat b.blocks i v }

/-- The canonical form of the stored blocks: numbers rising, no block of zeros. -/
def blocksOk : List (Nat × BitVec 256) → Bool
  | [] => true
  | [(_, v)] => v != 0
  | (i, v) :: (j, w) :: t => v != 0 && i < j && blocksOk ((j, w) :: t)

/-- The INTEGRATOR region. -/
def beadOpen (i : Nat) : Bool := 64 ≤ i && i < 256

/-- First blocks of the records: the copies of the attestation record, the snapshot slots. -/
def attestBase (copyB : Bool) : Nat := if copyB then 5 else 2
def snapBase (k : Nat) : Nat := 16 + 6 * (k % 8)

/-! ### Records (R360 to R362) -/

/-- GEN of a block. -/
def BeadSt.gen (b : BeadSt) (i : Nat) : BitVec 16 := BitVec.ofNat 16 (leAt (blockBytes (b.block i)) 0 2)

/-- A record of `n` blocks is not torn: every block carries the same GEN. -/
def BeadSt.whole (b : BeadSt) (base n : Nat) : Bool := (List.range n).all (fun i => b.gen (base + i) == b.gen base)

/-- The data of a record. -/
def BeadSt.recData (b : BeadSt) (base n : Nat) : List Byte :=
  (List.range n).flatMap (fun i => bytesAt (blockBytes (b.block (base + i))) 4 28)

/-- The attestation copy a reader takes (R361): untorn, the later GEN; true is copy B. -/
def BeadSt.validCopy (b : BeadSt) (ok : Bool → Bool) : Option Bool :=
  let a := ok false && b.whole 2 3
  let z := ok true && b.whole 5 3
  match a, z with
  | true, true => some (serial (b.gen 5) (b.gen 2) == .ahead)
  | true, false => some false
  | false, true => some true
  | false, false => none

/-- SNAP_SEQ of a slot that holds a whole snapshot. -/
def BeadSt.slotSeq (b : BeadSt) (k : Nat) : Option (BitVec 16) :=
  let base := snapBase k
  if b.block base ≠ 0 && b.whole base 6 then some (BitVec.ofNat 16 (leAt (b.recData base 6) 0 4)) else none

/-- SNAP_SEQ as read from the Bead: one past the latest snapshot held; 0 where none is. -/
def BeadSt.nextSnap (b : BeadSt) : Nat :=
  let seqs := (List.range 8).filterMap b.slotSeq
  let last := seqs.foldl (fun (m : Option (BitVec 16)) x => match m with
    | none => some x
    | some y => some (if serial x y = .ahead then x else y)) none
  match last with
  | none => 0
  | some x => (x + 1#16).toNat

/-- The blocks of a record with a new GEN (R360). -/
def recordBlocks (base : Nat) (g : BitVec 16) (n : Nat) (data : List Byte) : List (Nat × BitVec 256) :=
  (List.range n).map (fun i =>
    (base + i, blockOf (leBytes 2 g.toNat ++ leBytes 1 i ++ leBytes 1 0 ++ bytesAt data (28 * i) 28)))

/-- The blocks of an attestation record: the other copy than a reader takes, one GEN later. -/
def BeadSt.attestBlocks (b : BeadSt) (data : List Byte) : List (Nat × BitVec 256) :=
  match b.validCopy (fun _ => true) with
  | none => recordBlocks 2 (b.gen 2 + 1) 3 data
  | some z => recordBlocks (attestBase (!z)) (b.gen (attestBase z) + 1) 3 data

/-- The blocks of a snapshot in its slot. -/
def BeadSt.snapBlocks (b : BeadSt) (seq : Nat) (data : List Byte) : List (Nat × BitVec 256) :=
  let base := snapBase seq
  recordBlocks base (b.gen base + 1) 6 data

/-! ### Commits (R359, R365) -/

/-- A commit is in progress on a block by a party that satisfies `p`. -/
def BeadSt.committing (b : BeadSt) (i : Nat) (p : BeadBy → Bool) : Bool :=
  b.commit.any (fun x => x.block == i && p x.writer)

/-- A commit on a block is in progress, or waits, by a party that satisfies `p`. -/
def BeadSt.writing (b : BeadSt) (i : Nat) (p : BeadBy → Bool) : Bool :=
  (b.commit.toList ++ b.queue).any (fun x => x.block == i && p x.writer)

/-- Headspring has commits in progress or waiting. -/
def BeadSt.hsBusy (b : BeadSt) : Bool := (b.commit.toList ++ b.queue).any (fun x => x.writer == .hs)

/-- Records queued by Headspring (BEAD_STATUS.QUEUED). -/
def BeadSt.queued (b : BeadSt) : Nat := b.qAttest.toList.length + b.qSnaps.length

/-- COMMIT and QUEUED follow. -/
def Chip.syncBead (c : Chip) : Chip :=
  (c.setSt .BEAD_STATUS F.BEAD_STATUS_COMMIT (bitOf c.bead.commit.isSome)).setSt .BEAD_STATUS F.BEAD_STATUS_QUEUED c.bead.queued

/-- Commits arrive: the first starts where none runs. -/
def Chip.commitAll (c : Chip) (l : List BeadCommit) : Chip :=
  (c.updBead (fun b =>
    let all := b.commit.toList ++ b.queue ++ l
    { b with commit := all.head?, queue := all.tail })).syncBead

/-- Headspring's next record starts once the last is committed and no session holds (R366): the attestation record, then the
snapshots in SNAP_SEQ order. -/
def Chip.hsNext (c : Chip) : Chip :=
  let b := c.bead
  if b.session.isSome || b.hsBusy then c.syncBead
  else
    let hs (l : List (Nat × BitVec 256)) : List BeadCommit := l.map (fun x => ⟨x.1, x.2, .hs⟩)
    match b.qAttest, b.qSnaps with
    | some d, _ => (c.updBead (fun b => { b with qAttest := none })).commitAll (hs (b.attestBlocks d))
    | none, (k, d) :: t => (c.updBead (fun b => { b with qSnaps := t })).commitAll (hs (b.snapBlocks k d))
    | none, [] => c.syncBead

end Sys2Proof.Machine
end

