-- ==== Sys2Proof/Machine/Run.lean ====
section
/-! DEFINITION. How a meaning acts on the state: on the part alone, the queue untouched. -/

namespace Sys2Proof.Machine

/-- Answer the next state, the part changed by `f`. -/
def State.run (s : State) (f : Chip → Chip) : Host.Outcome State Fault Refusal := .next { s with chip := f s.chip }

/-- Answer the next state, or the fault that `f` names. -/
def State.runE (s : State) (f : Chip → Except Fault Chip) : Host.Outcome State Fault Refusal :=
  match f s.chip with
  | .ok c => .next { s with chip := c }
  | .error e => .fault e

end Sys2Proof.Machine
end

