-- ==== Sys2Proof/Machine/SchedOps.lean ====
section
/-! DEFINITION. Routes of a drop's tree (08), and the admission of periodic endpoints (R185, R188). -/

namespace Sys2Proof.Machine

/-! ### Routes -/

/-- The number of hub hops of a route. -/
def routeDepth (r : BitVec 20) : Nat :=
  let nib (i : Nat) : Nat := (r >>> (4 * i)).toNat % 16
  if nib 0 = 0 then 0 else if nib 1 = 0 then 1 else if nib 2 = 0 then 2 else if nib 3 = 0 then 3
  else if nib 4 = 0 then 4 else 5

/-- A route lies at or below another. -/
def routeUnder (r x : BitVec 20) : Bool := x.toNat % 2 ^ (4 * routeDepth r) == r.toNat % 2 ^ (4 * routeDepth r)

/-- The route of the hub a device hangs on. -/
def routeParent (r : BitVec 20) : BitVec 20 := BitVec.ofNat 20 (r.toNat % 2 ^ (4 * (routeDepth r - 1)))

/-- The hub port a device hangs on. -/
def routePort (r : BitVec 20) : Nat := (r.toNat / 2 ^ (4 * (routeDepth r - 1))) % 16

/-- The route of a hub's port. -/
def routeChild (r : BitVec 20) (p : Nat) : BitVec 20 := BitVec.ofNat 20 (r.toNat + p * 2 ^ (4 * routeDepth r))

/-! ### Speeds -/

/-- Speed codes of DROP_STATUS. -/
def spLS : Nat := 0
def spFS : Nat := 1
def spHS : Nat := 2
def spNONE : Nat := 3

/-- The speed of a drop's root device. -/
def Chip.rootSpeed (c : Chip) (n : Port) : Nat := c.get (.DROP_STATUS n) F.DROP_STATUS_SPEED

/-- The hubs above a route, nearest first; `fuel` bounds the hops. -/
def Drop.hubsAbove (d : Drop) : Nat → BitVec 20 → List Dev
  | 0, _ => []
  | k + 1, r =>
    if routeDepth r = 0 then []
    else
      let p := routeParent r
      (d.devs.find? (fun x => x.route == p)).toList ++ d.hubsAbove k p

/-- The transaction translator of a full- or low-speed device: the nearest high-speed hub upstream, and its port where the
hub has one translator per port (R188). -/
def Drop.ttOf (d : Drop) (route : BitVec 20) (speed : Nat) : Option (BitVec 20 × Nat) :=
  if speed = spHS then none
  else
    ((d.hubsAbove 5 route).find? (fun h => h.speed == spHS)).map (fun h =>
      let down := BitVec.ofNat 20 (route.toNat % 2 ^ (4 * (routeDepth h.route + 1)))
      (h.route, if h.multiTt then routePort down else 0))

/-! ### Periodic admission -/

/-- Data byte times with bit stuffing: ⌈MPS × 7 / 6⌉. -/
def stuffed (n : Nat) : Nat := (n * 7 + 5) / 6

/-- The largest power of two not above `v`, at most 2^k. -/
def pow2Below : Nat → Nat → Nat
  | 0, _ => 1
  | k + 1, v => if 2 ^ (k + 1) ≤ v then 2 ^ (k + 1) else pow2Below k v

/-- log2 of a period in its own unit: microframes at high speed, frames else (R185, R187 PERIOD). -/
def periodLog (speed interval : Nat) : Nat :=
  if speed = spHS then min 15 (max 1 interval - 1) else Nat.log2 (pow2Below 5 interval)

/-- The cost of one transaction on its own segment (table *Periodic admission*). -/
def segCost (speed mps mult : Nat) : Nat :=
  if speed = spHS then (stuffed mps + 56) * max 1 mult
  else if speed = spFS then stuffed mps + 13
  else (stuffed mps + 13) * 8

/-- The byte times on the high-speed side of a split endpoint, by microframe offset (R188). -/
def splitParts (e : EpDesc) : List (Nat × Nat) :=
  let isIn := e.addr.getLsbD 7
  if e.xfer = 1 ∧ !isIn then
    (List.range ((e.mps + 187) / 188)).map (fun k => (k, 64 + stuffed (min 188 (e.mps - 188 * k))))
  else if isIn then [(0, 64), (2, 64 + stuffed e.mps), (3, 64), (4, 64)]
  else [(0, 64 + stuffed e.mps), (2, 64), (3, 64), (4, 64)]

/-- The load of the root segment in one microframe or frame. -/
def loadAt (l : List Sched) (m : Nat) : Nat :=
  l.foldl (fun a s => s.parts.foldl (fun b p => if m % s.period = (s.phase + p.1) % s.period then b + p.2 else b) a) 0

/-- The span after which a schedule repeats: the longest period. -/
def schedSpan (l : List Sched) : Nat := l.foldl (fun a s => max a s.period) 1

/-- The load of the busiest microframe or frame that an entry uses, itself among the list. -/
def busiest (l : List Sched) (s : Sched) : Nat :=
  let span := schedSpan l
  s.parts.foldl (fun a p =>
    (List.range (span / s.period)).foldl (fun b k => max b (loadAt l (s.phase + p.1 + k * s.period))) a) 0

/-- The load of the busiest microframe or frame of all (DROP_SCHED.PEAK). -/
def peakLoad (l : List Sched) : Nat := l.foldl (fun a s => max a (busiest l s)) 0

/-- The byte times that an entry takes on its translator in a microframe: from that of its start-split, at most 188 in each. -/
def Sched.ttPart (x : Sched) (m : Nat) : Nat :=
  (List.range ((x.cost + 187) / 188)).foldl (fun a k =>
    if m % x.period = (x.phase + k) % x.period then a + min 188 (x.cost - 188 * k) else a) 0

/-- The load of an entry's translator in microframe `m`. -/
def ttLoadAt (l : List Sched) (s : Sched) (m : Nat) : Nat :=
  l.foldl (fun a x => if x.tt = s.tt then a + x.ttPart m else a) 0

/-- The load of an entry's translator in frame `f`. -/
def ttFrameAt (l : List Sched) (s : Sched) (f : Nat) : Nat :=
  l.foldl (fun a x => if x.tt = s.tt ∧ f % (x.period / 8) = x.phase / 8 then a + x.cost else a) 0

/-- The load of an entry's translator in the busiest frame that the entry uses. -/
def ttLoad (l : List Sched) (s : Sched) : Nat :=
  (List.range (schedSpan l / s.period)).foldl (fun a k => max a (ttFrameAt l s ((s.phase + k * s.period) / 8))) 0

/-- A translator keeps its budget with an entry among the list: 1,128 byte times in each of its frames, 188 in each of the
microframes 0 to 5 (table *Periodic admission*). -/
def ttFits (l : List Sched) (s : Sched) : Bool :=
  let n := (s.cost + 187) / 188
  ttLoad l s ≤ 1128 && s.phase % 8 + n ≤ 6 &&
    (List.range (schedSpan l / s.period)).all (fun k =>
      (List.range n).all (fun j => ttLoadAt l s (s.phase + k * s.period + j) ≤ 188))

/-- The budget of the root segment (table *Periodic admission*). -/
def rootBudget (rootSpeed : Nat) : Nat := if rootSpeed = spHS then 6000 else 1350

/-- Admit one periodic endpoint (R185): the entry, or the demand, the budget left and the segment of a refusal. A split's phase is one
whose transaction ends within the translator's microframes 0 to 5, chosen by the load of the root segment (DESIGN CHOICE, log
entry 191). -/
def admitOne (rootSpeed : Nat) (l : List Sched) (route : BitVec 20) (speed : Nat) (tt : Option (BitVec 20 × Nat))
    (e : EpDesc) : Except (Nat × Nat × Nat) Sched :=
  let split : Bool := rootSpeed == spHS && tt.isSome
  let pl := periodLog speed e.interval
  let period := if split then 8 * 2 ^ pl else 2 ^ pl
  let cost := segCost speed e.mps e.mult
  let parts := if split then splitParts e else [(0, cost)]
  let mk (p : Nat) : Sched := { route := route, ep := e.addr, period := period, phase := p, cost := cost, parts := parts,
                                tt := if split then tt else none }
  let cand := (List.range period).filter (fun p => !split || p % 8 + (cost + 187) / 188 ≤ 6)
  let best := cand.foldl (fun (a : Option (Nat × Nat)) p =>
    let b := busiest (l ++ [mk p]) (mk p)
    match a with
    | none => some (p, b)
    | some (q, v) => if b < v then some (p, b) else some (q, v)) none
  match best with
  | none => .error (cost, 1128, 2)
  | some (p, b) =>
    let s := mk p
    let budget := rootBudget rootSpeed
    let own := parts.foldl (fun a x => max a x.2) 0
    if budget < b then .error (own, budget - (b - own), if rootSpeed = spHS then 0 else 1)
    else if split ∧ !ttFits (l ++ [s]) s then .error (cost, 1128 - ttLoad l s, 2)
    else .ok s

/-- An endpoint with a place in the periodic schedule: isochronous or interrupt. -/
def periodicEp (e : EpDesc) : Bool := e.xfer == 1 || e.xfer == 3

/-- The DROP_CONTROL behind a control transfer. -/
def Ctl.door? (k : Ctl) : Option ReqId :=
  match k.by_ with
  | .door q => some q
  | _ => none

/-- The same control transfer. -/
def Ctl.same (k y : Ctl) : Bool := y.route == k.route && y.by_ == k.by_

/-- The places admitted for settings that are on their way to their devices (R185, R194). -/
def Drop.reserved (d : Drop) : List Sched := d.ctls.flatMap (·.sched)

/-- Admit the endpoints of a setting, in order (R185). -/
def admitAll (rootSpeed : Nat) (l : List Sched) (route : BitVec 20) (speed : Nat) (tt : Option (BitVec 20 × Nat)) :
    List EpDesc → Except (Nat × Nat × Nat) (List Sched)
  | [] => .ok l
  | e :: t =>
    if periodicEp e then
      match admitOne rootSpeed l route speed tt e with
      | .error x => .error x
      | .ok s => admitAll rootSpeed (l ++ [s]) route speed tt t
    else admitAll rootSpeed l route speed tt t

/-- Store a drop's schedule: DROP_SCHED follows (09). -/
def Chip.setSched (c : Chip) (n : Port) (l : List Sched) : Chip :=
  let c := c.updDrop n (fun d => { d with sched := l })
  let c := c.setF (.DROP_SCHED n) F.DROP_SCHED_PERIODIC_EPS l.length
  c.setF (.DROP_SCHED n) F.DROP_SCHED_PEAK (peakLoad l)

/-- PERIODIC_OVERBOOK (0x040F). -/
def Chip.evOverbook (c : Chip) (n : Port) (route : BitVec 20) (x : Nat × Nat × Nat) : Chip :=
  c.post (c.ev 0x040F 1 n.val [route.toNat, x.1, x.2.1, x.2.2])

end Sys2Proof.Machine
end

