-- ==== Sys2Proof/Machine/DropOps.lean ====
section
/-! DEFINITION. Drops (08): root-port states, the removal of a subtree (R175), reset, enumeration, the wait list's grants
(R157, R172), suspend and resume (R178 to R182), and the loss of port power (R176). -/

namespace Sys2Proof.Machine

/-! ### Root-port states (R165) -/

def rsOFF : Nat := 0
def rsDISCONNECTED : Nat := 1
def rsDEBOUNCE : Nat := 2
def rsRESETTING : Nat := 3
def rsDEFAULT : Nat := 4
def rsENUMERATING : Nat := 5
def rsACTIVE : Nat := 6
def rsSUSPENDING : Nat := 7
def rsSUSPENDED : Nat := 8
def rsRESUMING : Nat := 9
def rsRECOVERY : Nat := 10
def rsPOWER_LOST : Nat := 11
def rsERROR : Nat := 12

/-- A drop's root-port state. -/
def Chip.root (c : Chip) (n : Port) : Nat := c.get (.DROP_STATUS n) F.DROP_STATUS_STATE

/-- Enter a root-port state. -/
def Chip.setRoot (c : Chip) (n : Port) (st : Nat) : Chip := c.setSt (.DROP_STATUS n) F.DROP_STATUS_STATE st

/-- The port is in DROP mode. -/
def Chip.isDrop (c : Chip) (n : Port) : Bool := (c.ports[n]).mode == .drop

/-- An event that the table does not list for the state: ignored and counted (R166). -/
def Chip.dropIgnore (c : Chip) (n : Port) : Chip := c.updDrop n (fun d => { d with diag := d.diag + 1 })

/-- DROP_STATUS.DEVICES and DEPTH follow the tree: one advance of SEQ per change. -/
def Chip.syncTree (c : Chip) (n : Port) : Chip :=
  let ds := (c.ports[n]).drop.devs
  let depth := ds.foldl (fun a d => if d.hubPorts ≠ 0 ∧ d.configured then max a (routeDepth d.route + 1) else a) 0
  let w := fset (fset (c.rd (.DROP_STATUS n)) F.DROP_STATUS_DEVICES ((ds.filter (·.configured)).length)) F.DROP_STATUS_DEPTH
    depth
  if w = c.rd (.DROP_STATUS n) then c else (c.wr (.DROP_STATUS n) w).bump (.DROP_STATUS n)

/-- Answer a list of requests. -/
def Chip.answers (c : Chip) (qs : List ReqId) (res : Nat) : Chip := c.each qs (fun c q => c.answer q res)

/-- SOF runs on a drop: state, engines and power state (R35, R69, R204). -/
def Chip.sofRuns (c : Chip) (n : Port) : Bool :=
  let st := c.root n
  c.isDrop n && (st == rsDEFAULT || st == rsENUMERATING || st == rsACTIVE || st == rsRECOVERY) && c.basinUp n &&
  (c.pwr.st == .run || c.pwr.st == .idle) && (c.engineOf (.port n)).isSome

/-! ### Removal (R175) -/

/-- TRANSFER_ABORTED (0x040A): route, endpoint, bytes moved. -/
def Chip.evAborted (c : Chip) (n : Port) (route : BitVec 20) (ep : Byte) (moved : Nat) : Chip :=
  c.post (c.ev 0x040A 1 n.val [route.toNat, ep.toNat, moved])

/-- CID of a device without contexts. -/
def noCid : Nat := 0xFFFFFFFF

/-- The contexts of a device: its DEV context, and those whose PARENT it is. -/
def Dev.owns (d : Dev) (n : Port) (cid : Nat) (x : Ctx) : Bool :=
  x.holder == n.val && d.cid != noCid &&
  ((x.typ == tDEV && cid == d.cid && x.gen == d.gen) || ((x.typ == tEP || x.typ == tSERVICE) && x.parent == d.cid))

/-- The key of an open record lies in a subtree. -/
def keyUnder (n : Port) (r : BitVec 20) (k : Nat × Nat × Nat) : Bool :=
  k.1 == n.val && routeUnder r (BitVec.ofNat 20 k.2.1)

/-- Open records of a subtree. -/
def Chip.openIn (c : Chip) (n : Port) (r : BitVec 20) : Nat :=
  c.svc.streams.foldl (fun a s => a + (s.recs.filter (fun x => x.st == .opened && !x.raw && keyUnder n r x.owner)).length) 0

/-- Contexts granted from the wait list to devices of a subtree and not used go back. -/
def Chip.dropGrants (c : Chip) (p : Waiting → Bool) : Chip :=
  let mine := c.pond.grants.filter (fun g => p g.1.who)
  let c := c.updPond (fun x => { x with grants := x.grants.filter (fun g => !p g.1.who) })
  c.each mine (fun c g => c.each g.2 Chip.freeCtx)

/-- A waiter belongs to a subtree. -/
def Waiting.under (n : Port) (r : BitVec 20) : Waiting → Bool
  | .device m x => m == n && routeUnder r x
  | .binding m x _ => m == n && routeUnder r x

/-- The waiters of a subtree leave the wait list, their grants go back (R157, R175 step 5). -/
def Chip.treeLeaves (c : Chip) (n : Port) (r : BitVec 20) : Chip :=
  (c.dropWaiters (fun w => w.under n r)).dropGrants (fun w => w.under n r)

/-- An event of a port that follows the bulk free before it (R175 step 6). -/
def Chip.treePost (c : Chip) (n : Port) (code : Nat) (payload : List Nat) : Chip :=
  c.afterFree (.post code 1 n.val payload) (fun c => c.post (c.ev code 1 n.val payload))

/-- The detach of a tree of the port waits for its bulk free: attach detection restarts only after it (R175). -/
def Chip.detaching (c : Chip) (n : Port) : Bool :=
  c.pond.held.any (fun x => match x with
    | .leave m _ => m == n
    | _ => false)

/-- The answer of a request whose detach waits for its bulk free comes after it (R151). -/
def Chip.answerAfter (c : Chip) (n : Port) (q : ReqId) (res : Nat) : Chip :=
  if c.detaching n then c.afterFree (.answer q res) (fun c => c.answer q res) else c.answer q res

/-- The endpoints of a device with an unfinished transfer (R175): one under way, one that a mark asked for, or a queued bulk
transfer. -/
def Chip.unfinished (c : Chip) (n : Port) (d : Dev) : List (BitVec 20 × Byte) :=
  let x := (c.ports[n]).drop
  ((c.epsOf d.cid (fun b => b.ep.toNat % 16 != 0 && (x.runs.any (fun r => r.route == d.route && r.ep == b.ep && r.open_) ||
    x.outs.any (fun o => o.cid == d.cid && o.gen == d.gen && o.ep == b.ep) || (b.xfer == 2 && b.active && c.bulkQueued n d b))))).map
    (fun e => (d.route, e.2.ep))

/-- Detach a subtree (R175, steps 1 to 6), its bindings ending with `cause`. -/
def Chip.detach (c : Chip) (n : Port) (r : BitVec 20) (cause : Nat := ubDETACH) : Chip :=
  let d := (c.ports[n]).drop
  let gone := d.devs.filter (fun x => routeUnder r x.route)
  let runs := d.runs.filter (fun x => routeUnder r x.route)
  let ctls := d.ctls.filter (fun x => routeUnder r x.route)
  let open_ := gone.flatMap (fun g => c.unfinished n g)
  let enums : List ReqId := (match d.enum with
    | some e => if routeUnder r e.route then e.req.toList else []
    | none => []) ++ (d.enumQ.filter (fun x => routeUnder r x.1)).flatMap (fun x => x.2.2.toList)
  let recs := c.openIn n r
  let c := c.updDrop n (fun d =>
    { d with
      devs := d.devs.filter (fun x => !routeUnder r x.route)
      runs := d.runs.filter (fun x => !routeUnder r x.route)
      ctls := d.ctls.filter (fun x => !routeUnder r x.route)
      enum := match d.enum with
        | some e => if routeUnder r e.route then none else some e
        | none => none
      enumQ := d.enumQ.filter (fun x => !routeUnder r x.1)
      outs := d.outs.filter (fun o => !gone.any (fun g => g.cid == o.cid && g.gen == o.gen))
      tokens := d.tokens.filter (fun x => !routeUnder r x.route)
      ctlRing := d.ctlRing.filter (fun x => !routeUnder r x)
      bulkRing := d.bulkRing.filter (fun x => !routeUnder r x.route)
      splits := d.splits.filter (fun x => !routeUnder r x.route)
      tts := d.tts.filter (fun x => !routeUnder r x.hub) })
  let c := c.setSched n ((c.ports[n]).drop.sched.filter (fun x => !routeUnder r x.route))
  let moved (x : BitVec 20 × Byte) : Nat := ((runs.find? (fun y => y.route == x.1 && y.ep == x.2)).map (·.moved)).getD 0
  let c := c.each open_ (fun c x => c.evAborted n x.1 x.2 (moved x))
  let c := c.each ctls (fun c x => (c.evAborted n x.route 0#8 (x.moved + x.inp.length)).answerOpt x.door? rTIMEOUT)
  let c := c.answers enums rTIMEOUT
  let c := c.culletRecs pfDETACH (fun x => !x.raw && keyUnder n r x.owner)
  let c := c.endBinds (fun b => b.port == n && routeUnder r b.route) cause
  let c := c.bulkFree (fun cid x => gone.any (fun g => g.owns n cid x))
  let c := c.syncTree n
  let c := c.afterFree (.leave n r) (fun c => c.treeLeaves n r)
  c.treePost n 0x0402 [r.toNat, gone.length, recs]

/-- Requests that a drop cannot finish any more. -/
def Chip.dropAnswerAll (c : Chip) (n : Port) (res : Nat) : Chip :=
  let d := (c.ports[n]).drop
  let qs := d.suspendReqs ++ d.suspendLater ++ d.resumeLater ++ (d.resume.elim [] (·.host))
  let c := c.updDrop n (fun d => { d with suspendReqs := [], suspendLater := [], resumeLater := [], resume := none })
  c.answers qs res

/-- A disconnect of the root device (R166, R175): the tree detached, then attach detection restarts. -/
def Chip.disconnectRoot (c : Chip) (n : Port) : Chip :=
  let c := c.detach n 0#20
  let c := c.dropAnswerAll n rTIMEOUT
  let c := c.setSt (.DROP_STATUS n) F.DROP_STATUS_SPEED spNONE
  let c := c.updDrop n (fun d => { d with pullup := none, until_ := none, chirped := false, byPower := false,
                                          overdrawAt := none })
  c.setRoot n rsDISCONNECTED

/-! ### Port power (R176) -/

/-- PORT_STATUS_CHANGE (0x0405): route, OVER_CURRENT and POWER_OFF bits, trip cause. -/
def Chip.evPortStatus (c : Chip) (n : Port) (route : BitVec 20) (bits cause : Nat) : Chip :=
  c.treePost n 0x0405 [route.toNat, bits, cause]

/-- The drop powers a device of its tree: one whose configuration says so, or one that is not configured yet (DESIGN CHOICE, log
entry 192). -/
def Drop.busPowered (d : Drop) : Bool := d.devs.isEmpty || d.devs.any (fun x => !x.configured || !x.selfPowered)

/-- The channel of a drop went to TRIPPED with a cause, or OFF under a tree that it powers (R31, R166, R176). A trip acts in every
state, those included that the table *Root-port state machine* does not list (DESIGN CHOICE, log entry 193). -/
def Chip.powerLost (c : Chip) (n : Port) (trip : Option Nat) : Chip :=
  if !c.isDrop n then c
  else
    let st := c.root n
    let oc := trip.isSome
    let c := if oc then c.record (.DROP_STATUS n) F.DROP_STATUS_OC_SEEN else c
    let tree : Bool := (decide (rsDEBOUNCE ≤ st ∧ st ≤ rsRECOVERY) || st == rsERROR) && (c.ports[n]).drop.busPowered
    if oc ∨ tree then
      let c := c.detach n 0#20
      let c := c.dropAnswerAll n rTIMEOUT
      let c := c.evPortStatus n 0#20 (if oc then 1 else 2) (trip.getD 0)
      let c := c.setSt (.DROP_STATUS n) F.DROP_STATUS_SPEED spNONE
      let c := c.updDrop n (fun d => { d with pullup := none, until_ := none, chirped := false, byPower := false,
                                              overdrawAt := none })
      c.setRoot n rsPOWER_LOST
    else if st = rsDISCONNECTED ∨ st = rsPOWER_LOST then c.dropIgnore n
    else c

/-- The channel is back to ON (R166, R176): attach detection starts; in any other state there is nothing to restart. -/
def Chip.powerBack (c : Chip) (n : Port) : Chip :=
  if !c.isDrop n then c
  else if c.root n = rsPOWER_LOST then c.setRoot n rsDISCONNECTED
  else c.dropIgnore n

/-! ### The tree's devices -/

/-- A device as it attaches. -/
def newDev (route : BitVec 20) (speed : Nat) (waits : Bool) : Dev :=
  { route := route, addr := 0, speed := speed, vid := 0#16, pid := 0#16, cid := noCid, gen := 0#8, configured := false,
    waits := waits, selfPowered := false, hubPorts := 0, multiTt := false, ifs := [], eps := [], alts := [], config := 0,
    known := 0 }

/-- Add a device, or put it in the place of the one at its route. -/
def Chip.putDev (c : Chip) (n : Port) (d : Dev) : Chip :=
  c.updDrop n (fun x => { x with devs := x.devs.filter (fun y => y.route != d.route) ++ [d] })

/-- ATTACH (0x0401): route, speed, with a result. -/
def Chip.evAttach (c : Chip) (n : Port) (route : BitVec 20) (speed res : Nat) : Chip :=
  c.post ((c.ev 0x0401 1 n.val [route.toNat, speed]).withResult res)

/-! ### Reset (R168) -/

/-- Drive SE0 on the root port for the reset time. -/
def Chip.startReset (c : Chip) (n : Port) : Chip :=
  let hs : Bool := c.get (.DROP_CTL n) F.DROP_CTL_SPEED_MAX == 0
  let al := c.bit (.DROP_FRAME n) F.DROP_FRAME_ALIGNED
  let c := c.updDrop n (fun d =>
    { d with until_ := some (c.clk.now + ms 50), chirped := false, hsOk := hs, aligned := al, frame0 := none })
  c.setRoot n rsRESETTING

/-! ### Enumeration (R170, R171) -/

/-- The enumeration of a device begins at step 1, after the reset recovery where one runs. -/
def Chip.startEnum (c : Chip) (n : Port) (route : BitVec 20) (sel : Nat) (wait : Nat) (attempt : Nat) (q : Option ReqId) :
    Chip :=
  let speed := match c.dev? n route with
    | some d => d.speed
    | none => c.rootSpeed n
  let e : Enum :=
    { route := route, step := 1, attempt := attempt, configSel := sel, speed := speed, isHub := false, mps0 := 0, value := 0,
      attrs := 0#8, eps := [], ifs := [], cid := noCid, gen := 0#8, addr := 0, vid := 0#16, pid := 0#16,
      waitUntil := if wait = 0 then none else some (c.clk.now + wait), since := c.clk.now, req := q }
  let c := c.updDev n route (fun d => { d with waits := false, sel := sel })
  let c := c.updDrop n (fun d => { d with enum := some e })
  if route = 0#20 then c.setRoot n rsENUMERATING else c

/-- The next device in order of attach, once none is being enumerated and the root device is in service. -/
def Chip.nextEnum (c : Chip) (n : Port) : Chip :=
  let d := (c.ports[n]).drop
  match d.enum, d.enumQ with
  | none, x :: t =>
    if c.root n = rsACTIVE then
      (c.updDrop n (fun d => { d with enumQ := t })).startEnum n x.1 x.2.1 (ms 10) 0 x.2.2
    else c
  | _, _ => c

/-- CONFIG_SEL of a drop (R171 step 2). -/
def Chip.configSel (c : Chip) (n : Port) : Nat := c.get (.DROP_CTL n) F.DROP_CTL_CONFIG_SEL

/-- Change the enumeration in progress. -/
def Chip.updEnum (c : Chip) (n : Port) (f : Enum → Enum) : Chip := c.updDrop n (fun d => { d with enum := d.enum.map f })

/-- What an enumeration attempt took goes back: its contexts, its places in the periodic schedule, the configuration. -/
def Chip.freeEnumCtxs (c : Chip) (n : Port) (e : Enum) : Chip :=
  if e.cid = noCid then c
  else
    let d : Dev := { newDev e.route 0 false with cid := e.cid, gen := e.gen }
    let c := c.bulkFree (fun cid x => d.owns n cid x)
    let c := c.updDev n e.route (fun d =>
      { newDev d.route d.speed d.waits with sel := d.sel })
    (c.setSched n ((c.ports[n]).drop.sched.filter (fun s => s.route != e.route))).syncTree n

/-- The last attempt failed: port disabled, device powered, ENUM_FAIL (R171). -/
def Chip.enumFail (c : Chip) (n : Port) (e : Enum) : Chip :=
  let c := c.freeEnumCtxs n e
  let c := c.updDrop n (fun d => { d with enum := none })
  let c := c.post (c.ev 0x0404 1 n.val [e.route.toNat, e.step, e.attempt + 1])
  let c := if e.route = 0#20 then c.setRoot n rsERROR else c
  let c := match e.req with
    | some q => if e.cid = noCid then c.answer q rTIMEOUT else c.afterFree (.answer q rTIMEOUT) (fun c => c.answer q rTIMEOUT)
    | none => c
  c.nextEnum n

/-- An attempt failed: the device is reset and step 1 runs again, up to ENUM_RETRY further attempts (R171). -/
def Chip.enumRetry (c : Chip) (n : Port) (e : Enum) : Chip :=
  if c.get (.DROP_CTL n) F.DROP_CTL_ENUM_RETRY ≤ e.attempt then c.enumFail n e
  else
    let c := c.freeEnumCtxs n e
    if e.route = 0#20 then
      (c.updDrop n (fun d => { d with enum := some { e with attempt := e.attempt + 1, cid := noCid } })).startReset n
    else c.startEnum n e.route e.configSel (ms 10) (e.attempt + 1) e.req

/-- TREE_LIMIT (0x040B): the device is refused, its hub port disabled, no context allocated (R173). -/
def Chip.treeLimit (c : Chip) (n : Port) (e : Enum) (cause : Nat) : Chip :=
  let c := c.post (c.ev 0x040B 1 n.val [e.route.toNat, cause])
  let c := c.updDrop n (fun d => { d with enum := none })
  (c.answerOpt e.req rBAD_ARG).nextEnum n

/-- The number and direction of an endpoint address: its other bits are reserved. -/
def epKey (a : Byte) : Byte := a &&& 0x8F#8

/-- Endpoint descriptors by number and direction alone; endpoint 0 has none. -/
def cleanEps (l : List EpDesc) : List EpDesc :=
  (l.map (fun e => { e with addr := epKey e.addr })).filter (fun e => e.addr.toNat % 16 != 0)

/-- The distinct endpoint numbers and directions of a configuration, all alternate settings included (R171 step 4): at most 30, so
that a device's group is 33 at most (R149). -/
def distinctEps (l : List EpDesc) : List EpDesc :=
  (cleanEps l).foldl (fun a e => if a.any (fun x => x.addr == e.addr) then a else a ++ [e]) []

/-- The group of a device: 1 DEV, 2 EP for endpoint 0, one EP per distinct endpoint. -/
def groupSize (e : Enum) : Nat := 3 + (distinctEps e.eps).length

/-- The endpoints as they are polled: the status change endpoint of a hub once per millisecond, whatever its bInterval (R174). -/
def hubEps (hub : Bool) (speed : Nat) (l : List EpDesc) : List EpDesc :=
  if hub then l.map (fun e => if e.xfer = 3 then { e with interval := if speed = spHS then 4 else 1 } else e) else l

/-- A new EP body with the defaults of DROP_WEIR (R187, R196). -/
def Chip.newEp (c : Chip) (n : Port) (speed : Nat) (e : EpDesc) : EpBody :=
  { ep := e.addr, xfer := e.xfer, mult := max 1 e.mult, toggle := false, halted := false, slow := false, active := false,
    mps := e.mps, period := if periodicEp e then periodLog speed e.interval else 0, phase := 0, iface := e.iface, alt := e.alt,
    stream := none, nakBudget := c.getPos (.DROP_WEIR n) F.DROP_WEIR_NAK_BUDGET,
    weight := c.getPos (.DROP_WEIR n) F.DROP_WEIR_WEIGHT, slowRun := 0, bytes := 0 }

/-- An endpoint-0 descriptor. -/
def ep0Desc (addr : Byte) (mps : Nat) : EpDesc :=
  { addr := addr, xfer := 0, mult := 1, mps := mps, interval := 0, iface := 0, alt := 0 }

/-- Step 4 granted: the contexts are filled, and step 5 begins. -/
def Chip.enumGranted (c : Chip) (n : Port) (e : Enum) (cids : List Nat) : Chip :=
  match cids with
  | [] => c
  | dev :: rest =>
    let c := c.dropWaiters (fun w => w == .device n e.route)
    let c := c.setBody dev
      (.dev { route := e.route, addr := 0, speed := e.speed, state := 0, config := 0, desc := List.replicate 18 0#8 })
    let eps := [ep0Desc 0x00#8 e.mps0, ep0Desc 0x80#8 e.mps0] ++ hubEps e.isHub e.speed (distinctEps e.eps)
    let c := c.each (rest.zip eps) (fun c x =>
      let b := c.newEp n e.speed x.2
      c.setBody x.1 (.ep (if x.2.addr.toNat % 16 = 0 then { b with active := true } else b)))
    let c := c.each cids (fun c x => c.touchBy (.port n) x true)
    let gen := (c.ctx dev).gen
    let c := c.updEnum n (fun e => { e with step := 5, cid := dev, gen := gen, since := c.clk.now })
    let c := c.updDev n e.route (fun d => { d with cid := dev, gen := gen })
    if e.route = 0#20 then c.setRoot n rsENUMERATING else c

/-- The waiter of a device's group. -/
def devWaiter (n : Port) (e : Enum) (size : Nat) : Waiter := { holder := hPort n, size := size, who := .device n e.route }

/-- Step 4 refused (R172): ATTACH with the result, the group on the wait list; a root device waits in DEFAULT, another one's
hub port is disabled and address 0 is free for others. -/
def Chip.enumRefused (c : Chip) (n : Port) (e : Enum) (size : Nat) (v : Nat) : Chip :=
  let c := c.waitJoin (devWaiter n e size)
  let c := (c.evAttach n e.route e.speed v).answerOpt e.req v
  if e.route = 0#20 then (c.updEnum n (fun e => { e with step := 4, req := none })).setRoot n rsDEFAULT
  else
    let c := c.updDrop n (fun d => { d with enum := none })
    (c.updDev n e.route (fun d => { d with waits := true })).nextEnum n

/-- Step 4 (R171): a group granted earlier is used as far as it fits, its surplus returned, a shortfall requested (R172); in a
directory rebuild the request waits (R354). -/
def Chip.enumGroup (c : Chip) (n : Port) (e : Enum) : Chip :=
  let need := groupSize e
  let mine := c.pond.grants.filter (fun g => g.1.who == .device n e.route)
  let held := mine.flatMap (·.2)
  let c := c.updPond (fun p => { p with grants := p.grants.filter (fun g => g.1.who != .device n e.route) })
  if need ≤ held.length then
    (c.each (held.drop need) Chip.freeCtx).enumGranted n e (held.take need)
  else if c.pond.rebuild then
    (c.updPond (fun p => { p with grants := p.grants ++ mine, held := p.held ++ [.group n e.route] })).updEnum n
      (fun e => { e with step := 4 })
  else
    let g : Group := match held with
      | [] => .device
      | h :: _ => .of tEP h
    match c.alloc (hPort n) g (need - held.length) with
    | (.ok cids, c) => c.enumGranted n e (held ++ cids)
    | (.error v, c) => (c.updPond (fun p => { p with grants := p.grants ++ mine })).enumRefused n e (need - held.length) v

/-- Step 3 done: tree limits, then step 4 (R171, R173). -/
def Chip.enumStep3 (c : Chip) (n : Port) (e : Enum) : Chip :=
  if e.isHub ∧ routeDepth e.route = 5 then c.treeLimit n e 0
  else if 127 ≤ ((c.ports[n]).drop.devs.filter (fun d => d.addr != 0)).length then c.treeLimit n e 1
  else c.enumGroup n e

/-- The lowest free address, 1 to 127 (R171 step 5). -/
def Drop.lowestAddr (d : Drop) : Nat :=
  (((List.range 127).map (· + 1)).find? (fun a => !d.devs.any (fun x => x.addr == a))).getD 127

/-- Step 6 done: before SetConfiguration the periodic endpoints are admitted (R185); a refusal ends the enumeration without
a retry. -/
def Chip.enumAdmit (c : Chip) (n : Port) (e : Enum) : Chip :=
  let d := (c.ports[n]).drop
  let rs := c.rootSpeed n
  let k := d.reserved.length
  match admitAll rs (d.reserved ++ d.sched) e.route e.speed (d.ttOf e.route e.speed)
      (hubEps e.isHub e.speed (e.eps.filter (fun x => x.alt == 0))) with
  | .error x => (c.evOverbook n e.route x).enumFail n { e with step := 7 }
  | .ok all_ =>
    let l := all_.drop k
    let c := c.setSched n l
    let c := c.updEps n e.cid (fun b => l.any (fun s => s.route == e.route && s.ep == b.ep)) (fun b =>
      { b with phase := ((l.find? (fun s => s.route == e.route && s.ep == b.ep)).map (·.phase)).getD 0 })
    c.updEnum n (fun e => { e with step := 7 })

/-- Write a device's DEV body. -/
def Chip.updDevBody (c : Chip) (n : Port) (cid : Nat) (f : DevBody → DevBody) : Chip :=
  match c.devBody? cid with
  | none => c
  | some b => c.engWrite n cid (.dev (f b))

/-- The endpoints of a configuration with its default settings: toggles DATA0, ACTIVE, no halt (R187, R191, R192). -/
def Chip.configEps (c : Chip) (n : Port) (cid : Nat) (on : Bool) : Chip :=
  c.updEps n cid (fun b => b.ep.toNat % 16 != 0) (fun b =>
    { b with toggle := false, halted := false, slow := false, slowRun := 0, active := on && b.alt == 0,
             bytes := if on then 0 else b.bytes })

/-- The enumeration is complete: ENUM_DONE, the root port ACTIVE, the request answered (R166, R171). -/
def Chip.enumDone (c : Chip) (n : Port) (e : Enum) : Chip :=
  let c := c.updDrop n (fun d => { d with enum := none })
  let c := (c.syncTree n).updDev n e.route (fun d => { d with matchDue := true })
  let c := c.post (c.ev 0x0403 1 n.val [e.route.toNat, e.addr, e.vid.toNat, e.pid.toNat, e.value])
  let c := if e.route = 0#20 then c.setRoot n rsACTIVE else c
  (c.answerOpt e.req rOK).nextEnum n

/-- Step 7 done: the configuration is in force. -/
def Chip.enumConfigured (c : Chip) (n : Port) (e : Enum) : Chip :=
  let c := c.updDevBody n e.cid (fun b => { b with config := e.value, state := 2 })
  let c := c.configEps n e.cid true
  let c := c.updDev n e.route (fun d =>
    { d with configured := true, vid := e.vid, pid := e.pid, selfPowered := e.attrs.getLsbD 6, ifs := e.ifs, eps := e.eps,
             alts := [], config := e.value, known := e.value, hub := e.isHub })
  if c.bit (.DROP_CTL n) F.DROP_CTL_RWAKE_EN ∧ e.attrs.getLsbD 5 then c.updEnum n (fun e => { e with step := 8 })
  else if e.isHub then c.updEnum n (fun e => { e with step := 9 })
  else c.enumDone n e

/-- A request of the enumeration completes or fails (R171). A hub with more than 15 ports gets one TREE_LIMIT, with the hub's own
route: no route names a port above 15 (DESIGN CHOICE, log entry 238). -/
def Chip.enumStep (c : Chip) (n : Port) (e : Enum) (r : EnumResult) : Chip :=
  match e.step, r with
  | 1, .device mps0 cls => c.updEnum n (fun e => { e with step := 2, mps0 := mps0, isHub := cls == 9#8 })
  | 2, .configHead _ => c.updEnum n (fun e => { e with step := 3 })
  | 3, .config value attrs eps ifs =>
    let e := { e with value := value.toNat, attrs := attrs, eps := cleanEps eps, ifs := ifs }
    (c.updEnum n (fun _ => e)).enumStep3 n e
  | 5, .done =>
    let a := (c.ports[n]).drop.lowestAddr
    let c := c.updDevBody n e.cid (fun b => { b with addr := a, state := 1 })
    let c := c.updDev n e.route (fun d => { d with addr := a })
    c.updEnum n (fun e => { e with step := 6, addr := a, waitUntil := some (c.clk.now + ms 2) })
  | 6, .deviceFull vid pid desc =>
    let c := c.updDevBody n e.cid (fun b => { b with desc := bytesAt desc 0 18 })
    let e := { e with vid := vid, pid := pid }
    (c.updEnum n (fun _ => e)).enumAdmit n e
  | 7, .done => c.enumConfigured n e
  | 8, .done => if e.isHub then c.updEnum n (fun e => { e with step := 9 }) else c.enumDone n e
  | 9, .hubDesc ports multi good =>
    let c := c.updDev n e.route (fun d => { d with hubPorts := min 15 ports, multiTt := multi })
    let c := if 15 < ports then c.post (c.ev 0x040B 1 n.val [e.route.toNat, 2]) else c
    let wait := ms (2 * good)
    if wait = 0 then c.enumDone n e else c.updEnum n (fun e => { e with waitUntil := some (c.clk.now + wait) })
  | _, _ => c.enumRetry n e

/-! ### Grants of the wait list (R157, R172) -/

/-- One round over the grants that their requesters have not taken. -/
def Chip.settleOnce (c : Chip) : Chip :=
  c.each c.pond.grants (fun c g =>
    match g.1.who with
    | .binding n r i =>
      let c := c.updPond (fun p => { p with grants := p.grants.filter (fun x => x.1.who != g.1.who) })
      c.bindGranted n r i (g.2.headD 0)
    | .device n r =>
      match (c.ports[n]).drop.enum with
      | some e =>
        if r = 0#20 ∧ e.route = 0#20 ∧ e.step = 4 then c.enumGroup n e else c
      | none =>
        match (c.dev? n r).filter (fun d => r != 0#20 && d.waits) with
        | some x =>
          ((c.updDev n r (fun d => { d with waits := false })).updDrop n (fun d =>
            { d with enumQ := d.enumQ ++ [(r, x.sel, none)] })).nextEnum n
        | none => c)

/-- Requesters granted by a free or a raised quota go on. -/
def Chip.settle (c : Chip) : Chip :=
  if c.pond.grants.isEmpty || c.pond.rebuild then c
  else c.each (List.range (c.pond.waiters.length + 2)) (fun c _ => c.settleOnce)

/-- Answer the next state, the part changed by `f` and the granted waiters served. -/
def State.runS (s : State) (f : Chip → Chip) : Host.Outcome State Fault Refusal := s.run (fun c => (f c).settle)

/-! ### Suspend and resume (R177 to R182) -/

/-- Begin to suspend an ACTIVE drop (R178). -/
def Chip.startSuspend (c : Chip) (n : Port) : Chip :=
  let t := (c.ports[n]).drop.lastSof
  (c.updDrop n (fun d => { d with until_ := some (t + ms 3) })).setRoot n rsSUSPENDING

/-- The first two steps of a resume sequence (R177, R179): the drop enters RESUMING with the channel to ON and K on the root port,
once their moment has come. -/
def Chip.driveK (c : Chip) (n : Port) : Chip :=
  match (c.ports[n]).drop.resume with
  | none => c
  | some r =>
    if r.on || c.clk.now < r.driveAt then c
    else
      let c := (c.suspendCh n false).updDrop n (fun d => { d with resume := some { r with on := true } })
      c.setRoot n rsRESUMING

/-- The window of a resume opens (R181): the drop stays in SUSPENDED until K is driven, 5 µs later (table *Suspend and resume timing*,
typical; DESIGN CHOICE, log entry 75). -/
def Chip.startResume (c : Chip) (n : Port) (host : List ReqId) (remote power : Bool) : Chip :=
  let at_ := c.clk.now + us 5
  c.updDrop n (fun d =>
    { d with resume := some { host := host, remote := remote, power := power, driveAt := at_ },
             until_ := some (at_ + ms 20), overdrawAt := none })

/-- The devices of a tree enter or leave the suspended state (R187). -/
def Chip.devsSuspended (c : Chip) (n : Port) (on : Bool) : Chip :=
  c.each ((c.ports[n]).drop.devs.filter (fun d => d.cid != noCid)) (fun c d =>
    c.updDevBody n d.cid (fun b => { b with state := if on then 3 else if d.configured then 2 else if d.addr = 0 then 0 else 1 }))

/-- SUSPENDED is reached: the channel at SUSPEND, SUSPENDED posted, requests answered; a held DROP_RESUME then runs. -/
def Chip.suspended (c : Chip) (n : Port) : Chip :=
  let d := (c.ports[n]).drop
  let c := c.suspendCh n true
  let c := c.devsSuspended n true
  let c := c.updDrop n (fun d =>
    { d with suspendReqs := [], resumeLater := [], until_ := none, overdrawAt := some (c.clk.now + ms 10) })
  let c := c.setRoot n rsSUSPENDED
  let c := c.post (c.ev 0x0406 1 n.val [(d.devs.filter (·.configured)).length])
  let c := c.answers d.suspendReqs rOK
  if d.resumeLater.isEmpty then c else c.startResume n d.resumeLater false false

/-- The end of the resume recovery (R179, R181): RESUMED, transfers released, requests answered. The stage timeouts of control
transfers, which stayed queued (R178), run anew. -/
def Chip.resumed (c : Chip) (n : Port) : Chip :=
  let d := (c.ports[n]).drop
  let r : Resume := d.resume.getD { host := [], remote := false, power := false, driveAt := 0 }
  let c := c.devsSuspended n false
  let now := c.clk.now
  let c := c.updDrop n (fun d =>
    { d with resume := none, until_ := none, resumeLater := [], byPower := false
             ctls := d.ctls.map (fun k => { k with deadline := now + k.span }) })
  let host : Bool := !r.host.isEmpty
  let e := c.ev 0x0407 1 n.val [bitOf host + 2 * bitOf r.remote + 4 * bitOf r.power]
  let c := c.post (if host && r.remote then { e with flags := e.flags ||| 2 } else e)
  let c := c.setRoot n rsACTIVE
  let c := c.answers (r.host ++ d.resumeLater) rOK
  let c := c.nextEnum n
  if d.suspendLater.isEmpty then c
  else
    (c.updDrop n (fun d => { d with suspendReqs := d.suspendLater, suspendLater := [] })).startSuspend n

/-- REMOTE_WAKE (0x0408) for route 0, with WAKE_SEEN (R180). -/
def Chip.evRemoteWake (c : Chip) (n : Port) (ignored : Bool) : Chip :=
  let c := c.record (.DROP_STATUS n) F.DROP_STATUS_WAKE_SEEN
  c.post (c.ev 0x0408 1 n.val [0, bitOf ignored])

/-- A qualified remote-wake K reaches the port engine (R166, R180 to R182): in SUSPENDED it starts a resume, inside an open window it
joins before the root port drives K, later it is not observable. -/
def Chip.remoteWake (c : Chip) (n : Port) : Chip :=
  let en := c.bit (.DROP_CTL n) F.DROP_CTL_RWAKE_EN
  let st := c.root n
  if !c.isDrop n then c
  else if st ≠ rsSUSPENDED then c.dropIgnore n
  else if !en then c.evRemoteWake n true
  else
    match (c.ports[n]).drop.resume with
    | none => (c.evRemoteWake n false).startResume n [] true false
    | some r =>
      if c.clk.now < r.driveAt ∧ !r.remote then
        (c.evRemoteWake n false).updDrop n (fun d => { d with resume := some { r with remote := true } })
      else c

/-- AUTO_ENUM was set (R166, R170): a root device that waits in DEFAULT is enumerated, once its reset recovery is over, and the
devices that wait behind hubs in their order. -/
def Chip.autoEnum (c : Chip) (n : Port) : Chip :=
  let left := ((c.ports[n]).drop.until_.getD 0) - c.clk.now
  let sel := c.configSel n
  if !c.isDrop n || !c.bit (.DROP_CTL n) F.DROP_CTL_AUTO_ENUM then c
  else if c.root n = rsDEFAULT then
    (if (c.ports[n]).drop.enum.isNone then c.startEnum n 0#20 sel left 0 none else c)
  else
    let ws := ((c.ports[n]).drop.devs.filter (fun d => d.waits && d.route != 0#20 &&
      !c.pond.waiters.any (fun w => w.who == .device n d.route))).map (·.route)
    let c := c.each ws (fun c r => (c.updDev n r (fun d => { d with waits := false })).updDrop n (fun d =>
      { d with enumQ := d.enumQ ++ [(r, sel, none)] }))
    c.nextEnum n

/-! ### Leaving DROP mode, port-scope reset (R34, R68) -/

/-- The drop side of a port that leaves DROP mode or is reset: bindings end, open records close as CULLET, DEV, EP and
SERVICE contexts are freed, requests under way are answered. The fuse channel keeps its state (R30, R51); a SUSPEND that still waits
in its link is withdrawn (R31). -/
def Chip.leaveDrop (c : Chip) (n : Port) (cause : Nat) : Chip :=
  let d := (c.ports[n]).drop
  let qs := (d.enum.elim [] (·.req.toList)) ++ d.enumQ.flatMap (fun x => x.2.2.toList) ++ d.ctls.flatMap (·.door?.toList)
  let c := c.answers qs rROLE_CHANGED
  let c := c.dropAnswerAll n rROLE_CHANGED
  let c := c.culletRecs pfDETACH (fun x => !x.raw && x.owner.1 == n.val)
  let c := c.endBinds (fun b => b.port == n) cause
  let c := c.bulkFree (fun _ x => x.holder == n.val && (x.typ == tDEV || x.typ == tEP || x.typ == tSERVICE))
  let c := c.dropSuspend n
  let mine (w : Waiting) : Bool := w.port == n
  let c := (c.dropWaiters mine).dropGrants mine
  let c := c.updDrop n (fun d => { diag := d.diag, lastSof := d.lastSof, rd := d.rd, ra := d.ra })
  let c := c.setSched n []
  let w := fset (fset (fset (fset (c.rd (.DROP_STATUS n)) F.DROP_STATUS_DEVICES 0) F.DROP_STATUS_DEPTH 0)
    F.DROP_STATUS_SPEED spNONE) F.DROP_STATUS_STATE rsOFF
  if w = c.rd (.DROP_STATUS n) then c else (c.wr (.DROP_STATUS n) w).bump (.DROP_STATUS n)

/-- A port enters DROP mode: attach detection starts (R51, R166). -/
def Chip.enterDrop (c : Chip) (n : Port) : Chip :=
  (c.updPort n (fun p => { p with pulldown := true })).setRoot n rsDISCONNECTED

end Sys2Proof.Machine
end

