-- ==== Sys2Proof/Machine/PdOps.lean ====
section
/-! DEFINITION. Power Delivery (14): which drops are PD drops (R291), the offered set (R299), targets and contracts (R294,
R301, R302), hard reset and error recovery (R306), VCONN swaps (R305), and what ends a contract (R307). -/

namespace Sys2Proof.Machine

/-- PD states (table *PD states*). -/
def pdOFF : Nat := 0
def pdWAIT_VBUS : Nat := 1
def pdSEND_CAPS : Nat := 2
def pdNO_PD : Nat := 3
def pdNEGOTIATING : Nat := 4
def pdTRANSITION : Nat := 5
def pdREADY : Nat := 6
def pdVCONN_SWAP : Nat := 7
def pdHARD_RESET : Nat := 8
def pdERROR_RECOVERY : Nat := 9
def pdDIRECT : Nat := 10

/-- A PD setting of a port meets the first two lines of R291. -/
def Chip.pdWired (c : Chip) (n : Port) : Bool :=
  c.get (.PIN_CFG n) F.PIN_CFG_WIRING == 1 && !c.bit (.PIN_CFG n) F.PIN_CFG_CONN

/-- Ports with PD_EN, and those of one master. -/
def Chip.pdEnabled (c : Chip) : List Port := (List.finRange 96).filter (fun n => c.bit (.PD_CFG n) F.PD_CFG_PD_EN)
def Chip.pdMaster (c : Chip) (n : Port) : Nat := c.get (.PD_CFG n) F.PD_CFG_PMB

/-- A port is a PD drop as configured (R291): of the PD drops of one master there are no more than 16. -/
def Chip.isPd (c : Chip) (n : Port) : Bool :=
  let on := c.pdEnabled
  on.contains n && c.pdWired n && on.length ≤ 32 && (on.filter (fun m => c.pdWired m && c.pdMaster m == c.pdMaster n)).length ≤ 16

def Chip.pdSt (c : Chip) (n : Port) : Nat := c.get (.PD_STATUS n) F.PD_STATUS_STATE
def Chip.setPd (c : Chip) (n : Port) (st : Nat) : Chip := c.setSt (.PD_STATUS n) F.PD_STATUS_STATE st

/-- Change several fields of a status register at once: SEQ advances once on a change. -/
def Chip.updSt (c : Chip) (r : Reg) (f : Word → Word) : Chip :=
  let w := f (c.rd r)
  if w = c.rd r then c else (c.wr r w).bump r

/-- Causes of PD_CONTRACT_END. -/
def ceDETACH : Nat := 0
def ceTRIP : Nat := 1
def ceOFF : Nat := 2
def ceHARD_RESET : Nat := 3
def ceMODE : Nat := 4
def ceCONVERTER : Nat := 5
def ceNO_PD : Nat := 6

/-- POLICY DIRECT (R304). -/
def Chip.pdDirect (c : Chip) (n : Port) : Bool := c.get (.PD_CFG n) F.PD_CFG_POLICY == 1

/-- A PD event: SRC_KIND 1. -/
def Chip.evPd (c : Chip) (code : Nat) (n : Port) (payload : List Nat) : Event := c.ev code 1 n.val payload

/-- A message is one of SOP' (R292). -/
def PdOut.toCable (m : PdOut) : Bool := m == .discoverIdentity

/-- A message goes out with its MessageID; Hard_Reset is signalling and has none. -/
def Chip.pdSend (c : Chip) (n : Port) (m : PdOut) : Chip :=
  c.updPd n (fun p =>
    { p with
      sent := m
      msgId := if m.toCable || m == .hardReset then p.msgId else (p.msgId + 1) % 8
      cableMsgId := if m.toCable then (p.cableMsgId + 1) % 8 else p.cableMsgId })

/-- Commands go to the converter (R293); the last eight are kept (log entry 213). -/
def Chip.pmbSend (c : Chip) (n : Port) (l : List PmbOut) : Chip :=
  c.updPd n (fun p => { p with pmb := (p.pmb ++ l).drop ((p.pmb ++ l).length - 8) })

/-! ### The offered set (R299, R300) -/

/-- KIND codes of a contract. -/
def pkSPR : Nat := 1
def pkPPS : Nat := 2
def pkEPR : Nat := 3

/-- The current of an object at a voltage in 10 mV: min(IMAX, cable limit, PMAX / V), floored to 50 mA; while reduced also
REDUCED_P / V. -/
def Chip.pdCurrent (c : Chip) (n : Port) (reduced : Bool) (v : Nat) : Nat :=
  let imax := clampNat 10 100 (c.get (.PD_LIMIT n) F.PD_LIMIT_IMAX)
  let cable := if c.bit (.PD_STATUS n) F.PD_STATUS_CABLE_5A then 100 else 60
  let i := min (min imax cable) (c.get (.PD_LIMIT n) F.PD_LIMIT_PMAX * 2000 / v)
  if reduced then min i (max 3 (c.get (.PD_LIMIT n) F.PD_LIMIT_REDUCED_P) * 2000 / v) else i

/-- Objects before their positions are given: (KIND, voltage in 10 mV), in ascending voltage. -/
def Chip.pdObjects (c : Chip) (n : Port) (reduced : Bool) : List (Nat × Nat) :=
  let w := c.rd (.PD_CAPS n)
  let pps := if w.getLsbD 3 then [(pkPPS, 10 * c.get (.PD_CAPS n) F.PD_CAPS_PPS_MAX)] else []
  let fixed := (if w.getLsbD 0 then [(pkSPR, 900)] else []) ++ (if w.getLsbD 1 then [(pkSPR, 1500)] else []) ++
    (if w.getLsbD 2 then [(pkSPR, 2000)] else [])
  let spr := fixed.filter (fun x => pps.all (fun p => x.2 ≤ p.2)) ++ pps ++
    fixed.filter (fun x => !pps.all (fun p => x.2 ≤ p.2))
  let epr := if c.bit (.PD_STATUS n) F.PD_STATUS_EPR_MODE && !reduced then
      (if w.getLsbD 4 then [(pkEPR, 2800)] else []) ++ (if w.getLsbD 5 then [(pkEPR, 3600)] else []) ++
      (if w.getLsbD 6 then [(pkEPR, 4800)] else [])
    else []
  spr ++ epr

/-- The offered set (R299): vSafe5V first; another object below 0.5 A is omitted. -/
def Chip.pdOffer (c : Chip) (n : Port) (reduced : Bool) : List Contract :=
  let objs := (c.pdObjects n reduced).filter (fun x => 10 ≤ c.pdCurrent n reduced x.2)
  let number (from_ : Nat) (l : List (Nat × Nat)) : List Contract :=
    l.zipIdx.map (fun x => { pos := x.2 + from_, cur := c.pdCurrent n reduced x.1.2, mv10 := x.1.2, kind := x.1.1 })
  number 1 ((pkSPR, 500) :: objs.filter (·.1 ≠ pkEPR)) ++ number 8 (objs.filter (·.1 = pkEPR))

/-- The 32-bit data object of an offered object (USB PD 3.1, PRESUMED, log entry 214): voltage in 50 mV and current in 10 mA; for
the APDO the greatest and least voltage in 100 mV and the current in 50 mA. The vSafe5V object carries the flags of R292: USB Suspend
Supported, Unconstrained Power, USB Communications Capable, EPR Mode Capable. -/
def Chip.pdo (c : Chip) (n : Port) (o : Contract) : Nat :=
  if o.kind = pkPPS then
    3 * 2 ^ 30 + (o.mv10 / 10) * 2 ^ 17 + c.get (.PD_CAPS n) F.PD_CAPS_PPS_MIN * 2 ^ 8 + o.cur
  else
    (o.mv10 / 5) * 2 ^ 10 + 5 * o.cur +
      (if o.pos = 1 then
        2 ^ 28 + c.get (.PD_CAPS n) F.PD_CAPS_UNCONSTR * 2 ^ 27 + 2 ^ 26 +
          (if c.get (.PD_CAPS n) F.PD_CAPS_EPR = 0 then 0 else 2 ^ 23)
      else 0)

/-- The data objects that go out: with EPR objects, those start at position 8 and empty positions are zero. -/
def Chip.pdWords (c : Chip) (n : Port) (reduced : Bool) : List Nat :=
  let l := c.pdOffer n reduced
  let spr := (l.filter (fun o => o.pos < 8)).map (c.pdo n)
  let epr := (l.filter (fun o => 8 ≤ o.pos)).map (c.pdo n)
  if epr.isEmpty then spr else spr ++ List.replicate (7 - spr.length) 0 ++ epr

/-- The reduced set is in force. -/
def Chip.pdReduced (c : Chip) (n : Port) : Bool := c.bit (.PD_STATUS n) F.PD_STATUS_REDUCED

/-- A contract is in an offered set: its object still stands there with enough current. -/
def Contract.offered (k : Contract) (l : List Contract) : Bool :=
  l.any (fun o => o.kind == k.kind && k.cur ≤ o.cur && (if k.kind = pkPPS then k.mv10 ≤ o.mv10 else o.mv10 == k.mv10))

/-- The set to offer follows the rail's budget (R300): reduced while it is over, the full one after 1 s within it. -/
def Chip.pdBudget (c : Chip) (n : Port) : Chip :=
  let full : Bool := !(c.rails[c.railOf n]).overB && (c.ports[n]).pd.fullFrom.all (fun t => t + sec 1 ≤ c.clk.now)
  c.setSt (.PD_STATUS n) F.PD_STATUS_REDUCED (bitOf !full)

/-- Rp goes to 1.5 A (SinkTxNG) ahead of an own sequence under a contract (R296). -/
def Chip.pdOwn (c : Chip) (n : Port) : Chip :=
  c.updPd n (fun p => if p.contract.isSome && p.ngFrom.isNone then { p with ngFrom := some c.clk.now } else p)

/-- An own sequence ends: Rp is back at 3.0 A (R296). -/
def Chip.pdOwnEnd (c : Chip) (n : Port) : Chip := c.updPd n (fun p => { p with ngFrom := none })

/-- Source_Capabilities, in EPR mode EPR_Source_Capabilities, go out: PD_CAPS_SENT (0x0312). -/
def Chip.pdCapsSent (c : Chip) (n : Port) : Chip :=
  let w := c.pdWords n (c.pdReduced n)
  let c := c.pdSend n (if c.bit (.PD_STATUS n) F.PD_STATUS_EPR_MODE then .eprSourceCaps w else .sourceCaps w)
  let c := c.updPd n (fun p => { p with capsDue := false })
  c.post (c.evPd 0x0312 n [bitOf (c.pdReduced n), (c.pdOffer n (c.pdReduced n)).length])

/-! ### Targets (R294, R302) -/

/-- A new target replaces the one in force. -/
def Chip.pdAim (c : Chip) (n : Port) (mv10 : Nat) : Chip :=
  let c := c.setF (.PD_VOUT n) F.PD_VOUT_TARGET mv10
  c.updPd n (fun p => { p with inBand := false, reached := false })

/-- Write VOUT_COMMAND (R302). -/
def Chip.pdTarget (c : Chip) (n : Port) (mv10 : Nat) : Chip := (c.pdAim n mv10).pmbSend n [.voutCommand mv10]

/-- SLEW in force (R302): 0 reads as 1. -/
def Chip.pdSlew (c : Chip) (n : Port) : Nat := c.getPos (.PD_TIMING n) F.PD_TIMING_SLEW

/-- The converter is configured (R293): VOUT_MODE read, VOUT_TRANSITION_RATE, IOUT_OC_FAULT_LIMIT at 1.1 × IMAX, CLEAR_FAULTS. -/
def Chip.pdConfigure (c : Chip) (n : Port) : Chip :=
  let imax := clampNat 10 100 (c.get (.PD_LIMIT n) F.PD_LIMIT_IMAX)
  c.pmbSend n [.voutMode, .transitionRate (c.pdSlew n), .ocLimit (55 * imax), .clearFaults]

/-- A reading lies within the band of a target: ±3 %, for PPS ±(3 % + 50 mV). -/
def inBand (pps : Bool) (target v : Nat) : Bool :=
  let tol := 3 * target + (if pps then 500 else 0)
  100 * v ≤ 100 * target + tol && 100 * target ≤ 100 * v + tol

/-- Converter on at vSafe5V (R293): configured, then OPERATION 0x80 and VOUT_COMMAND 5.0 V. -/
def Chip.pdConvOn (c : Chip) (n : Port) : Chip :=
  (((c.pdConfigure n).pmbSend n [.operation true]).pdTarget n 500).updPd n (fun p => { p with converterOn := true })

/-- Converter off: OPERATION 0x00, the target dropped, VCONN off. -/
def Chip.pdConvOff (c : Chip) (n : Port) : Chip :=
  let c := (c.pdAim n 0).pmbSend n [.operation false]
  let c := c.updPd n (fun p => { p with converterOn := false })
  c.setSt (.PD_STATUS n) F.PD_STATUS_VCONN_SRC 0

/-- Rp before a contract: 3.0 A when IMAX is 3 A or more, else 1.5 A (R296). -/
def Chip.rpIdle (c : Chip) (n : Port) : Bool := 60 ≤ c.get (.PD_LIMIT n) F.PD_LIMIT_IMAX

/-- Rp stands at 3.0 A (R296): by IMAX before a contract; under one, except ahead of and during own sequences. -/
def Chip.rp30 (c : Chip) (n : Port) : Bool :=
  let p := (c.ports[n]).pd
  if p.contract.isSome then p.ngFrom.isNone else c.rpIdle n

/-- No contract: the fields of PD_STATUS. -/
def Chip.pdNoContract (c : Chip) (n : Port) : Chip :=
  let c := c.updPd n (fun p =>
    { p with accepted := none, contract := none, request := none, capsAck := false, answerBy := none, keepAliveBy := none, ppsBy := none, capsDue := false,
             ngFrom := none, rdo := 0 })
  c.updSt (.PD_STATUS n) (fun w =>
    fset (fset (fset (fset (fset w F.PD_STATUS_CUR 0) F.PD_STATUS_OBJ_POS 0) F.PD_STATUS_KIND 0) F.PD_STATUS_EPR_MODE 0)
      F.PD_STATUS_REDUCED 0)

/-- PD_CONTRACT_END (0x0311). -/
def Chip.evContractEnd (c : Chip) (n : Port) (cause : Nat) : Chip := c.post (c.evPd 0x0311 n [cause])

/-- A contract is in force: PS_RDY, PD_CONTRACT (0x0310), READY. -/
def Chip.pdContract (c : Chip) (n : Port) (k : Contract) : Chip :=
  let c := c.pdSend n .psRdy
  let now := c.clk.now
  let c := c.updPd n (fun p =>
    { p with
      accepted := none, contract := some k, ngFrom := none
      answerBy := if k.offered (c.pdOffer n (c.pdReduced n)) then none else p.answerBy
      keepAliveBy := if c.bit (.PD_STATUS n) F.PD_STATUS_EPR_MODE then some (now + ms 900) else none
      ppsBy := if k.kind = pkPPS then some (now + sec 13) else none })
  let c := c.updSt (.PD_STATUS n) (fun w =>
    fset (fset (fset w F.PD_STATUS_CUR k.cur) F.PD_STATUS_OBJ_POS k.pos) F.PD_STATUS_KIND k.kind)
  let c := c.setPd n pdREADY
  c.post (c.evPd 0x0310 n [k.kind, k.pos, k.mv10, k.cur, bitOf (c.pdReduced n)])

/-! ### VCONN swap outcomes (R305) -/

/-- Outcomes of PD_VCONN_SWAP in the order of its list. -/
def soDONE : Nat := 0
def soREJECTED : Nat := 1
def soNOT_SUPPORTED : Nat := 2
def soEXHAUSTED : Nat := 3
def soSATISFIED : Nat := 4

/-- The door result of an outcome. -/
def swapResult (o : Nat) : Nat :=
  if o = soDONE ∨ o = soSATISFIED then rOK
  else if o = soREJECTED then rLOCKED
  else if o = soNOT_SUPPORTED then rNOT_SUPPORTED
  else rWAIT

/-- PD_VCONN_SWAP (0x0313), and the answer to its request. -/
def Chip.swapReport (c : Chip) (n : Port) (o : Nat) : Chip :=
  let p := (c.ports[n]).pd
  let c := c.updPd n (fun p => { p with swapReq := none })
  let c := c.post (c.evPd 0x0313 n [if p.swapByUs then 0 else 1, o, p.swapTries])
  c.answerOpt p.swapReq (swapResult o) [o] 1

/-- The swap table is back in IDLE: the policy engine returns to the state before the swap, Rp to 3.0 A. -/
def Chip.swapIdle (c : Chip) (n : Port) : Chip :=
  let c := (c.updPd n (fun p => { p with swap := .idle, swapUntil := none })).pdOwnEnd n
  if c.pdSt n = pdVCONN_SWAP then c.setPd n (c.ports[n]).pd.swapFrom else c

/-- A swap sequence runs from here on. -/
def Chip.swapRuns (c : Chip) (n : Port) : Chip :=
  let st := c.pdSt n
  if st = pdVCONN_SWAP then c else (c.updPd n (fun p => { p with swapFrom := st })).setPd n pdVCONN_SWAP

/-- Send VCONN_Swap (R305). -/
def Chip.swapSend (c : Chip) (n : Port) : Chip :=
  let c := (c.pdSend n .vconnSwap).updPd n (fun p =>
    { p with swap := .sent, swapWanted := false, swapUntil := some (c.clk.now + ms 30) })
  c.swapRuns n

/-- A swap sequence that ends for another reason: its request answered TIMEOUT. -/
def Chip.swapDrop (c : Chip) (n : Port) (res : Nat) : Chip :=
  let q := (c.ports[n]).pd.swapReq
  (c.updPd n (fun p =>
    { p with swap := .idle, swapWanted := false, swapUntil := none, swapReq := none })).answerOpt q res

/-- VCONN goes on or off (R297). -/
def Chip.vconn (c : Chip) (n : Port) (on : Bool) : Chip := c.setSt (.PD_STATUS n) F.PD_STATUS_VCONN_SRC (bitOf on)

/-- Requests of the PD engine that cannot finish any more. -/
def Chip.pdAnswerAll (c : Chip) (n : Port) (res : Nat) : Chip :=
  let p := (c.ports[n]).pd
  let c := c.swapDrop n res
  let c := c.updPd n (fun p => { p with voutReq := none, hrReq := none })
  (c.answerOpt p.voutReq res).answerOpt p.hrReq res

/-! ### Ends and restarts -/

/-- The converter supply or the connector went away (R307): target dropped, OPERATION 0x00, VCONN off, PD_CONTRACT_END, and
PD waits to restart as at attach. With STATE OFF a converter left on goes off with its supply. -/
def Chip.pdStop (c : Chip) (n : Port) (cause : Nat) : Chip :=
  let st := c.pdSt n
  if st = pdOFF then (if (c.ports[n]).pd.converterOn then c.pdConvOff n else c)
  else
    let c := c.pdConvOff n
    let c := c.pdAnswerAll n rTIMEOUT
    let c := c.pdNoContract n
    let c := c.updPd n (fun p =>
      { p with cableKnown := false, discovering := false, until_ := none, sends := 0, hardResets := [], convFaults := 0,
               rpOff := false, msgId := 0, cableMsgId := 0, readAt := none, statusAt := none })
    let c := c.updSt (.PD_STATUS n) (fun w => fset (fset w F.PD_STATUS_CABLE_5A 0) F.PD_STATUS_CABLE_EPR 0)
    (c.setPd n pdWAIT_VBUS).evContractEnd n cause

/-- The channel of a PD drop reaches ON (R293): the converter starts at vSafe5V. -/
def Chip.pdChannelOn (c : Chip) (n : Port) : Chip :=
  if c.isPd n ∧ c.isDrop n ∧ c.pdSt n = pdWAIT_VBUS then c.pdConvOn n else c

/-- VCONN goes to the CC ball that presents Ra, if one does (R297). -/
def Chip.vconnRa (c : Chip) (n : Port) : Chip :=
  if c.isPd n ∧ c.isDrop n ∧ (c.ports[n]).drop.ra then c.vconn n true else c

/-- The CC ball on which VCONN stands, CC2 or not: the one that does not carry Rd (R297). -/
def Chip.vconnBall (c : Chip) (n : Port) : Option Bool :=
  if c.bit (.PD_STATUS n) F.PD_STATUS_VCONN_SRC then (c.ports[n]).drop.rd.map (!·) else none

/-- Inrush starts on a PD drop (R297): VCONN on. -/
def Chip.pdInrush (c : Chip) (n : Port) : Chip := c.vconnRa n

/-- A port enters DROP mode: a PD drop waits for VBUS (R301); with its channel already ON the converter and VCONN go on (R293,
R297). -/
def Chip.pdEnter (c : Chip) (n : Port) : Chip :=
  if c.isPd n then
    let c := c.setPd n pdWAIT_VBUS
    if (c.chans[n]).phase = .on then (c.pdConvOn n).vconnRa n else c
  else c

/-- A port leaves DROP mode (R307): messaging stops, the target becomes 5.0 V, VCONN goes off, PD_CONTRACT_END. -/
def Chip.pdLeave (c : Chip) (n : Port) : Chip :=
  let st := c.pdSt n
  if st = pdOFF then c
  else
    let on := (c.ports[n]).pd.converterOn
    let c := c.pdAnswerAll n rROLE_CHANGED
    let c := c.pdNoContract n
    let c := if on then c.pdTarget n 500 else c
    let c := c.vconn n false
    let c := c.updPd n (fun p => { converterOn := p.converterOn, sent := p.sent, pmb := p.pmb })
    let c := c.updSt (.PD_STATUS n) (fun w =>
      fset (fset (fset w F.PD_STATUS_CABLE_5A 0) F.PD_STATUS_CABLE_EPR 0) F.PD_STATUS_STATE pdOFF)
    c.evContractEnd n ceMODE

/-! ### Hard reset and error recovery (R306) -/

/-- Causes in PD_HARD_RESET's payload (the manual gives no codes): request, received, converter, keep-alive, PPS, reduced
capabilities, VCONN, no Request, EPR_Mode Exit under an EPR contract. -/
def hcREQUEST : Nat := 0
def hcRECEIVED : Nat := 1
def hcCONVERTER : Nat := 2
def hcKEEPALIVE : Nat := 3
def hcPPS : Nat := 4
def hcREDUCED : Nat := 5
def hcVCONN : Nat := 6
def hcNO_REQUEST : Nat := 7
def hcEPR_EXIT : Nat := 8

/-- VBUS goes down for a hard reset or an error recovery: converter and VCONN off, the tree as at a channel turned OFF. -/
def Chip.pdDown (c : Chip) (n : Port) : Chip :=
  let c := c.pdConvOff n
  let c := c.swapDrop n rTIMEOUT
  let q := (c.ports[n]).pd.voutReq
  let c := (c.updPd n (fun p => { p with voutReq := none, sends := 0, discovering := false })).answerOpt q rTIMEOUT
  let c := c.pdNoContract n
  c.powerLost n none

/-- ERROR_RECOVERY: Rp removed for 25 ms, then as attach. -/
def Chip.errorRecovery (c : Chip) (n : Port) (cause : Nat) : Chip :=
  let c := c.evContractEnd n cause
  let c := c.pdDown n
  let c := c.updPd n (fun p => { p with rpOff := true, until_ := some (c.clk.now + ms 25) })
  c.setPd n pdERROR_RECOVERY

/-- A hard reset, sent or received (R306); the third within 10 s leads to ERROR_RECOVERY instead. Under POLICY DIRECT no message
goes out (R304). The recovery time starts once VBUS is below 0.8 V (`execReadVoutPoll`). -/
def Chip.hardReset (c : Chip) (n : Port) (sent : Bool) (cause : Nat) : Chip :=
  let now := c.clk.now
  let recent := ((c.ports[n]).pd.hardResets.filter (fun t => now < t + sec 10)) ++ [now]
  let c := c.updPd n (fun p => { p with hardResets := recent })
  if 3 ≤ recent.length then c.errorRecovery n ceHARD_RESET
  else
    let sent := sent && !c.pdDirect n
    let c := if sent then c.pdSend n .hardReset else c
    let c := c.record (.PD_STATUS n) F.PD_STATUS_HR_SEEN
    let c := c.post (c.evPd 0x0314 n [bitOf sent, cause])
    let c := c.evContractEnd n ceHARD_RESET
    let c := c.pdDown n
    let c := c.updPd n (fun p => { p with until_ := none })
    c.setPd n pdHARD_RESET

/-- The UH9600 works with a port's converter (R293): the PD engine runs, or the converter is left on after the port has left DROP
mode. -/
def Chip.pdBus (c : Chip) (n : Port) : Bool := c.pdSt n != pdOFF || (c.ports[n]).pd.converterOn

/-- A converter fault (R295): PD_CONV_FAULT, CONV_FAULT, then a hard reset; the second one leads to ERROR_RECOVERY. On a port that has
left DROP mode the converter goes off (DESIGN CHOICE, log entry 245). -/
def Chip.convFault (c : Chip) (n : Port) (status cause : Nat) : Chip :=
  if !c.pdBus n then c
  else
    let c := c.record (.PD_STATUS n) F.PD_STATUS_CONV_FAULT
    let c := c.postFault .pd (c.evPd 0x0315 n [status, cause])
    let k := (c.ports[n]).pd.convFaults + 1
    let c := c.updPd n (fun p => { p with convFaults := k, noAcks := 0 })
    if c.pdSt n = pdOFF then c.pdConvOff n
    else if 2 ≤ k then c.errorRecovery n ceCONVERTER else c.hardReset n true hcCONVERTER

/-- VBUS has to come back at vSafe5V with VCONN on, as at attach (R306 step 4). -/
def Chip.pdRestart (c : Chip) (n : Port) : Chip :=
  let c := c.updPd n (fun p => { p with rpOff := false, until_ := none, msgId := 0, cableMsgId := 0 })
  let c := c.setPd n pdWAIT_VBUS
  if (c.chans[n]).phase = .on ∨ (c.chans[n]).phase = .suspend then (c.pdConvOn n).vconnRa n else c

/-- Before more than 3 A or EPR is offered, the cable has to be known (R298). -/
def Chip.needsCable (c : Chip) (n : Port) : Bool :=
  !(c.ports[n]).pd.cableKnown &&
    (60 < c.get (.PD_LIMIT n) F.PD_LIMIT_IMAX || c.get (.PD_CAPS n) F.PD_CAPS_EPR != 0)

/-- Discover Identity goes out (R298). -/
def Chip.discoverSend (c : Chip) (n : Port) : Chip :=
  (c.pdSend n .discoverIdentity).updPd n (fun p =>
    { p with discovering := true, cableTries := p.cableTries + 1, cableAt := c.clk.now })

/-- Discover the cable, taking VCONN first where the UH9600 is not its source (R298). -/
def Chip.discover (c : Chip) (n : Port) : Chip :=
  let p := (c.ports[n]).pd
  if c.needsCable n && !p.discovering && p.swap == .idle then
    if c.bit (.PD_STATUS n) F.PD_STATUS_VCONN_SRC then (c.updPd n (fun p => { p with cableTries := 0 })).discoverSend n
    else (c.updPd n (fun p => { p with swapByUs := true, swapTries := 0 })).swapSend n
  else c

/-- PD_CAPS, PD_LIMIT or PD_TIMING changed (R293, R299): offered at the next opportunity; SLEW goes to the converter at each change of
PD_TIMING. -/
def Chip.pdChanged (c : Chip) (n : Port) (timing : Word) : Chip :=
  if c.isPd n ∧ c.isDrop n then
    let c := if c.pdDirect n then c else (c.updPd n (fun p => { p with capsDue := true })).pdOwn n
    if c.rd (.PD_TIMING n) = timing then c else c.pmbSend n [.transitionRate (c.pdSlew n)]
  else c

/-- A PD state in which messages go out, or their answers are awaited. -/
def pdTalks (st : Nat) : Bool := pdSEND_CAPS ≤ st && st ≤ pdVCONN_SWAP

/-- POLICY no longer fits the state of a PD drop in service (R304). -/
def Chip.pdMisfit (c : Chip) (n : Port) : Bool :=
  c.isPd n && (if c.pdDirect n then pdTalks (c.pdSt n) else c.pdSt n == pdDIRECT)

/-- PD_CFG or PIN_CFG changed (R291, R304): a drop that is no PD drop any more reads OFF, one that has become a PD drop starts; one
whose POLICY has changed in service ends as at a mode change and starts anew (DESIGN CHOICE, log entry 247). -/
def Chip.pdRecheck (c : Chip) : Chip :=
  let c := c.each ((List.finRange 96).filter c.pdMisfit) (fun c n => (c.pdLeave n).pdEnter n)
  let gone := (List.finRange 96).filter (fun n => c.pdSt n != pdOFF && !c.isPd n)
  let new := (List.finRange 96).filter (fun n => c.pdSt n == pdOFF && c.isPd n && c.isDrop n)
  (c.each gone Chip.pdLeave).each new Chip.pdEnter

/-- The rail of a PD drop went over or back within its budget (R300): the set to offer changes at the next opportunity. -/
def Chip.pdRail (c : Chip) (n : Port) (ov : Bool) : Chip :=
  if c.isPd n ∧ c.isDrop n ∧ !c.pdDirect n then
    if ov then (c.updPd n (fun p => { p with fullFrom := none, capsDue := p.capsDue || !c.pdReduced n })).pdOwn n
    else c.updPd n (fun p => { p with fullFrom := some c.clk.now, capsDue := p.capsDue || c.pdReduced n })
  else c

end Sys2Proof.Machine
end

