-- ==== Sys2Proof/Machine/ChanOps.lean ====
section
/-! DEFINITION. Fuse channels (13): the transitions of R278 with what they do to the drop and its PD contract (R176, R307),
inrush, holds, trips and retries, and the writes that a fuse die applies (R17, R289). -/

namespace Sys2Proof.Machine

/-! ### Turning on -/

/-- A channel can be turned on at all: a shunt is configured and its rail is in use (R274, R275). -/
def Chip.chReady (c : Chip) (n : Port) : Bool :=
  c.get (.CH_SENSE n) F.CH_SENSE_RSHUNT != 0 && c.railEn (c.railOf n)

/-- An inrush may start: the channel can be turned on (R274, R275), and its rail is neither over its budget nor blocked (R287,
R353). -/
def Chip.inrushOk (c : Chip) (n : Port) : Bool :=
  c.chReady n && !c.overBudget (c.railOf n) && !c.railBlocked (c.railOf n)

/-- The channel that qualifies as HELD_BY at a hold entry (R284): of the same rail, the earliest trip of the last 20 µs. -/
def Chip.tripBefore (c : Chip) (n : Port) : Option Port :=
  let now := c.clk.now
  let first (m : Port) : Option Nat := ((c.chans[m]).trips.filter (fun a => now ≤ a + us 20)).getLast?
  let best := (c.railChans (c.railOf n)).foldl (fun (b : Option (Port × Nat)) m =>
    match (if m = n then none else first m), b with
    | none, b => b
    | some a, none => some (m, a)
    | some a, some (k, v) => if a < v then some (m, a) else some (k, v)) none
  best.map (·.1)

/-- A hold begins (R283, R284): V_out must not rise any more. -/
def Chip.holdBegins (c : Chip) (n : Port) : Chip :=
  let now := c.clk.now
  let by_ := c.tripBefore n
  c.updChan n (fun x => { x with holdFrom := now, holdCause := by_, vMax := some x.vOut })

/-- A new inrush (R279); on a sagging rail it starts in HOLD (R283). -/
def Chip.startInrush (c : Chip) (n : Port) : Chip :=
  let uv := c.railUv (fuseDie n) (c.railOf n)
  let now := c.clk.now
  let c := c.updCh n (fun x =>
    { x with phase := if uv then .hold else .inrush, inrushFrom := now, inrushUsed := 0, holdUsed := 0, vMax := none,
             retryAt := none, retryWaits := false, offAt := none, onWaits := false })
  let c := if uv then c.holdBegins n else c
  (c.regulate n).pdInrush n

/-- A command ON as the die takes it: from OFF or TRIPPED, ARMED on a Type-C drop, else INRUSH. Where the rail admits no inrush it
waits, as ARMED channels do (R287, R353; DESIGN CHOICE, log entry 212). -/
def Chip.chOn (c : Chip) (n : Port) : Chip :=
  let x : Chan := c.chans[n]
  if c.chReady n ∧ (x.phase = .off ∨ x.phase = .tripped) then
    let c := if x.phase = .tripped then c.updCh n (fun x => { x with retries := 0 }) else c
    if c.typeC n then c.updCh n (fun x => { x with phase := .armed, retryAt := none, retryWaits := false })
    else if c.inrushOk n then c.startInrush n
    else c.updChan n (fun x => { x with onWaits := true, retryAt := none, retryWaits := false })
  else c

/-- Gate off by a command OFF, PORT_MODE with CH = 1, shedding or the loss of VFD: the drop and its contract follow. -/
def Chip.chOff (c : Chip) (n : Port) : Chip :=
  let x : Chan := c.chans[n]
  let c := c.updChan n (fun x => { x with onWaits := false })
  if x.phase = .off then c
  else
    let c := c.updCh n (fun x =>
      { x with phase := .off, retryAt := none, retryWaits := false, onSince := none, offAt := some c.clk.now })
    let c := c.updDrop n (fun d => { d with rd := none, ra := false })
    let c := c.powerLost n none
    c.pdStop n ceOFF

/-! ### Trips -/

/-- HELD_BY of the running hold (R284). -/
def Chan.heldByNow (x : Chan) : Nat := (x.holdCause.map (·.val)).getD 0xFF

/-- A channel has tripped: the holds on its rail that began up to 5 µs ago and that no earlier trip explains are held by it (R284). -/
def Chip.tripExplains (c : Chip) (n : Port) : Chip :=
  let now := c.clk.now
  let held (m : Port) : Bool :=
    let x : Chan := c.chans[m]
    m != n && x.phase == .hold && x.holdCause.isNone && now ≤ x.holdFrom + us 5
  c.each ((c.railChans (c.railOf n)).filter held) (fun c m => c.updChan m (fun x => { x with holdCause := some n }))

/-- A channel trips (R278): gate off, CH_TRIP, a retry planned (R285); then the drop (R176) and the contract (R307). -/
def Chip.trip (c : Chip) (n : Port) (cause point peak : Nat) : Chip :=
  let now := c.clk.now
  let delay := ms (10 * c.getPos (.CH_CFG n) F.CH_CFG_RETRY_DELAY)
  let c := c.updCh n (fun x =>
    { x with
      phase := .tripped, cause := cause, point := if cause = caBREAKER then point else x.point
      heldBy := if cause = caHOLD then x.heldByNow else x.heldBy
      trips := now :: x.trips.filter (fun a => now ≤ a + us 20), onSince := none, offAt := some now
      retryAt := some (now + delay), retryWaits := false, vMax := none })
  let c := c.tripExplains n
  let x := c.chans[n]
  let c := c.postTrip n (c.evCh 0x0301 n [cause, point, peak, x.vOut.toNat, x.heldBy, x.retries])
  let c := c.powerLost n (some cause)
  c.pdStop n ceTRIP

/-- RAIL_BLOCKED (0x0188). -/
def Chip.evRailBlocked (c : Chip) (j : RailId) (on : Bool) : Chip := c.post (c.ev 0x0188 8 j.val [j.val, bitOf on])

/-- The failed hold of an inrush (R283) on ladder 0x4 (R351): trip with INRUSH_HOLD; the third on a rail within 1 s blocks
the rail for 10 s (R353). -/
def Chip.holdTrip (c : Chip) (n : Port) : Chip :=
  let j := c.railOf n
  let now := c.clk.now
  let recent := ((c.rails[j]).holdTrips.filter (fun t => now < t + sec 1)) ++ [now]
  let c := c.trip n caHOLD 0 (c.chans[n]).cur.toNat
  let c := c.updRail j (fun r => { r with holdTrips := recent })
  if 3 ≤ recent.length ∧ (c.rails[j]).blocked.isNone then
    let c := c.escalate 4 3 j.val 0x0301
    let c := c.updRail j (fun r => { r with blocked := some (now + sec 10), holdTrips := [] })
    c.evRailBlocked j true
  else c.escalate 4 2 j.val 0x0302

/-! ### Retries and waiting starts (R285, R287) -/

/-- A tripped channel may retry: RETRY_MODE asks for it and RETRIES is below RETRY_MAX (R285). -/
def Chip.mayRetry (c : Chip) (n : Port) : Bool :=
  c.bit (.CH_CFG n) F.CH_CFG_RETRY_MODE && (c.chans[n]).retries < c.getPos (.CH_CFG n) F.CH_CFG_RETRY_MAX

/-- A retry (R285): RETRIES rises, CH_RETRY, a new inrush. -/
def Chip.retry (c : Chip) (n : Port) : Chip :=
  let x : Chan := c.chans[n]
  let c := c.updCh n (fun x => { x with retries := min 15 (x.retries + 1) })
  let c := c.post (c.evCh 0x0303 n [x.retries + 1, x.cause])
  c.startInrush n

/-- Retries, ARMED channels and commands ON that waited for a rail run once it admits an inrush. -/
def Chip.railWaiters (c : Chip) (j : RailId) : Chip :=
  c.each (c.railChans j) (fun c n =>
    let x : Chan := c.chans[n]
    if !c.inrushOk n || !c.dieUp (fuseDie n) then c
    else if x.phase = .tripped ∧ x.retryWaits ∧ c.mayRetry n then c.retry n
    else if x.onWaits then c.chOn n
    else if x.phase = .armed ∧ (c.ports[n]).drop.rd.isSome then c.startInrush n
    else c)

/-! ### Holds (R283) -/

/-- A channel in INRUSH enters HOLD: its inrush timer stops. -/
def Chip.enterHold (c : Chip) (n : Port) : Chip :=
  let now := c.clk.now
  let c := c.updCh n (fun x => { x with phase := .hold, inrushUsed := x.inrushUsed + (now - x.inrushFrom) })
  (c.holdBegins n).regulate n

/-- The rail is back: HOLD ends, CH_HOLD with HELD_BY, the held time and the inrush timer. -/
def Chip.leaveHold (c : Chip) (n : Port) : Chip :=
  let now := c.clk.now
  let x : Chan := c.chans[n]
  let h := x.heldByNow
  let c := c.updCh n (fun x =>
    { x with phase := .inrush, inrushFrom := now, holdUsed := x.holdUsed + (now - x.holdFrom), heldBy := h, vMax := none })
  (c.regulate n).post (c.evCh 0x0302 n [h, (now - x.holdFrom) / 1600, x.inrushUsed / 1600000])

/-! ### Writes that a die applies (R17, R289) -/

/-- CH_CMD as the die takes it: OFF, ON, SUSPEND of the drop state machine; 0b11 is ignored. While the drop is SUSPENDED an
ON leaves the channel at SUSPEND (R31). -/
def Chip.chCmd (c : Chip) (n : Port) (v : Nat) : Chip :=
  let x : Chan := c.chans[n]
  match v % 4 with
  | 0 => (c.wr (.CH_CMD n) 0#32).chOff n
  | 1 =>
    if x.phase = .suspend then
      if c.isDrop n ∧ c.root n = rsSUSPENDED then c
      else (c.wr (.CH_CMD n) 1#32).setProfile n .on
    else (c.wr (.CH_CMD n) 1#32).chOn n
  | 2 =>
    if x.phase = .on then (c.wr (.CH_CMD n) 2#32).setProfile n .suspend else c
  | _ => c

/-- A status clear at the far side (R316): the written SEQ against the register's own. -/
def seqMatch (written cur : Word) : Bool := fget written seqF == fget cur seqF

/-- A write of the bits `m` takes effect in its fuse die; a bit alias is carried out here, at the far side (R313). SUSPEND comes from
the drop state machine alone, which writes whole words. -/
def Chip.applyFuse (c : Chip) (r : Reg) (v m : Word) : Chip :=
  let w := (c.rd r &&& ~~~m) ||| (v &&& m)
  let c := c.keepStale r
  match r with
  | .CH_CMD n => if m = allBits ∨ fget w F.CH_CMD_CMD ≤ 1 then c.chCmd n (fget w F.CH_CMD_CMD) else c
  | .CH_CFG n =>
    let off : Bool := (c.chans[n]).phase == .off
    let w := if off then w else fset w F.CH_CFG_RAIL (c.get r F.CH_CFG_RAIL)
    c.wrRW r w
  | .CH_SENSE n => if (c.chans[n]).phase == .off then (c.wrRW r w).clampSync n else c
  | .CH_INRUSH n => (c.wrRW r w).clampSync n
  | .CH_LIMIT n => (c.wrRW r w).clampSync n
  | .CH_STATUS n =>
    let x : Chan := c.chans[n]
    if seqMatch w x.word && fget w F.CH_STATUS_FET_FAULT != 0 then c.updChan n (fun x => { x with fetFault := false }) else c
  | .RAIL_STATUS _ =>
    if seqMatch w (c.rd r) && fget w F.RAIL_STATUS_MISMATCH != 0 then c.setF r F.RAIL_STATUS_MISMATCH 0 else c
  | _ => c.wrRW r w

/-- A register write joins the queue of its link. -/
def Chip.fuseWrite (c : Chip) (r : Reg) (v m : Word) : Chip :=
  c.updFl (regDie r) (fun l => { l with writes := l.writes ++ [(r, v, m)] })

/-- A die takes up to `k` queued writes, in order, unless it holds or is in reset (R17 to R19). -/
def Chip.fuseTake (c : Chip) (d : Die) (k : Nat) : Chip :=
  if c.dieUp d then
    let ws := (c.fl[d]).writes.take k
    let ns := (ws.filterMap (fun x => fuseChan? x.1)).dedup
    let c := c.updFl d (fun l => { l with writes := l.writes.drop k })
    let c := c.each ws (fun c x => c.applyFuse x.1 x.2.1 x.2.2)
    c.each (ns.filter (fun n => !c.chPending n)) Chip.pendFell
  else c

/-- Firmware's own writes: it goes on when they have taken effect, after every write queued before (R17). While frames to the
die fail, and while it takes no command, they stay queued (R18, R19). -/
def Chip.fuseNow (c : Chip) (r : Reg) (w : Word) : Chip :=
  let c := c.fuseWrite r w allBits
  if c.dieHears (regDie r) then c.fuseTake (regDie r) (c.fl[regDie r]).writes.length else c

/-! ### A channel-on request (R290) -/

/-- Firmware's decision on a channel-on request, in its order. -/
def Chip.onVerdict (c : Chip) (n : Port) : Nat :=
  if c.get (.PIN_CFG n) F.PIN_CFG_WIRING = 0 ∨ !c.chReady n then rBAD_ARG
  else if c.overBudget (c.railOf n) then rOVER_QUOTA
  else if !c.dieUp (fuseDie n) then rWAIT
  else rOK

/-- A die's own reading of a rail reaches the mirror (R289). -/
def Chip.mirrorRail (c : Chip) (d : Die) (j : RailId) : Chip :=
  let c := c.setSt (.RAIL_STATUS j) (if d = 0 then F.RAIL_STATUS_UV_FD0 else F.RAIL_STATUS_UV_FD1) (bitOf (c.railUv d j))
  c.setF (.RAIL_MEAS j) (if d = 0 then F.RAIL_MEAS_V_FD0 else F.RAIL_MEAS_V_FD1) (c.railV d j)

/-- The power that a rail delivers by the mirrors (R277): its voltage as FD0 reads it, times the currents of its channels, in 0.1
mW. -/
def Chip.railPower (c : Chip) (j : RailId) : Nat :=
  c.get (.RAIL_MEAS j) F.RAIL_MEAS_V_FD0 * ((c.railChans j).map (fun n => c.get (.CH_MEAS n) F.CH_MEAS_I)).sum

/-- The sum of the running 1 ms window at this moment (R277). -/
def Chip.railSum (c : Chip) (j : RailId) : Nat :=
  (c.rails[j]).sum + c.railPower j * (c.clk.now - (c.rails[j]).sumAt)

/-- The sums of the rails move on to this moment, before the mirrors change (R277). -/
def Chip.railsRun (c : Chip) : Chip :=
  let now := c.clk.now
  c.each (List.finRange 8) (fun c j =>
    let s := c.railSum j
    c.updRail j (fun r => { r with sum := s, sumAt := now }))

/-- The draw of the window that ends at this moment, in 0.1 W (R277). -/
def Chip.railDraw (c : Chip) (j : RailId) : BitVec 16 :=
  let t := c.clk.now - (c.rails[j]).windowFrom
  BitVec.ofNat 16 (sat 16 ((if t = 0 then c.railPower j else c.railSum j / t) / 1000))

/-- The mirrored readings of an enabled rail differ by more than 2 % of the larger one (R276), and since when. -/
def Chip.railDiffer (c : Chip) (j : RailId) : Chip :=
  let now := c.clk.now
  let v0 := c.get (.RAIL_MEAS j) F.RAIL_MEAS_V_FD0
  let v1 := c.get (.RAIL_MEAS j) F.RAIL_MEAS_V_FD1
  let hi := max v0 v1
  let lo := min v0 v1
  if c.railEn j ∧ 2 * hi < 100 * (hi - lo) then c.updRail j (fun r => { r with differFrom := some (r.differFrom.getD now) })
  else c.updRail j (fun r => { r with differFrom := none, differTold := false })

/-- The channels of a die. -/
def dieChans (d : Die) : List Port := (List.finRange 96).filter (fun n => fuseDie n == d)

/-- The mirror of a die takes its values (R18): channels, rails, and the registers that it had kept older. -/
def Chip.mirrorDie (c : Chip) (d : Die) : Chip :=
  let c := c.railsRun.updFl d (fun l => { l with stale := [] })
  let c := c.each (dieChans d) Chip.mirrorCh
  c.each (List.finRange 8) (fun c j => (c.mirrorRail d j).railDiffer j)

/-- A sample of a die (R16, R280): rail voltages, then output voltages and currents of its own channels, whose breakers and
regulators go on from them. It needs no link. -/
def Chip.dieSample (c : Chip) (d : Die) (chs : List ChSample) (rails : List (RailId × BitVec 16)) : Chip :=
  let now := c.clk.now
  let c := c.each rails (fun c x =>
    let back (t : Option Nat) : Option Nat := if c.uvHold x.1 + 50 ≤ x.2.toNat then some (t.getD now) else none
    c.updRail x.1 (fun r =>
      if d = 0 then { r with v0 := x.2, back0 := back r.back0 } else { r with v1 := x.2, back1 := back r.back1 }))
  let c := c.each (chs.filter (fun x => fuseDie x.ch == d)) (fun c x =>
    (c.breakerRun x.ch).updChan x.ch (fun y => { y with vOut := x.vOut, cur := x.cur }))
  c.each (dieChans d) Chip.regulate

/-- A fuse die is reset for want of VFD (R59): every channel of it OFF, its queue of writes gone. -/
def Chip.dieReset (c : Chip) (d : Die) : Chip :=
  let c := c.dropWrites d (fun _ => [])
  let c := c.updFl d (fun l => { l with inReset := true, badTo := 0, badFrom := 0, age := 0 })
  c.each (dieChans d) (fun c n => (c.chOff n).wr (.CH_CMD n) 0#32)

end Sys2Proof.Machine
end

