-- ==== Sys2Proof/Machine/LineOps.lean ====
section
/-! DEFINITION. Lines (11): ULP frames, TX buffers and their cancel rule, nodes and their removal, requests, bus-off. -/

namespace Sys2Proof.Machine

/-! ### ULP frames (R236, R237) -/

/-- The smallest FD data length that holds `n` bytes. -/
def fdLength (n : Nat) : Nat :=
  if n ≤ 8 then n else if n ≤ 12 then 12 else if n ≤ 16 then 16 else if n ≤ 20 then 20 else if n ≤ 24 then 24
  else if n ≤ 32 then 32 else if n ≤ 48 then 48 else 64

/-- The fields of a ULP identifier. -/
def ulpId (prio kind src dst low : Nat) : BitVec 29 :=
  BitVec.ofNat 29 (prio * 67108864 + kind * 4194304 + src * 32768 + dst * 256 + low)

def ulpKind (i : BitVec 29) : Nat := (i.extractLsb' 22 4).toNat
def ulpSrc (i : BitVec 29) : Nat := (i.extractLsb' 15 7).toNat
def ulpDst (i : BitVec 29) : Nat := (i.extractLsb' 8 7).toNat
def ulpLow (i : BitVec 29) : Nat := (i.extractLsb' 0 8).toNat
def ulpSeg (i : BitVec 29) : Nat := (i.extractLsb' 0 2).toNat

/-- The CRC-16 of a ULP frame: over the identifier as 4 bytes and every data byte before the CRC (R236). -/
def ulpCrc (i : BitVec 29) (d : List Byte) : BitVec 16 := crc16 (leBytes 4 i.toNat ++ d)

/-- A ULP frame: content, padding to the smallest FD length at least 2 bytes longer, CRC-16 (R236). -/
def Chip.ulpFrame (c : Chip) (n : Port) (id : BitVec 29) (content : List Byte) : CanFrame :=
  let len := fdLength (content.length + 2)
  let d := bytesAt content 0 (len - 2)
  { id := id, ide := true, fdf := true, brs := c.bit (.LINE_CTL n) F.LINE_CTL_BRS, data := d ++ leBytes 2 (ulpCrc id d).toNat }

/-! ### TX buffers (R232, R233) -/

/-- Status codes of a TX buffer (R233). -/
def txDONE : Nat := 0
def txCANCELLED : Nat := 1
def txLATE : Nat := 2
def txNONE : Nat := 3

/-- The lowest free buffer of a range. -/
def Line.freeBuf (l : Line) (lo hi : Nat) : Option (Fin 32) :=
  ((List.finRange 32).filter (fun i => lo ≤ i.val && i.val ≤ hi)).find? (fun i => (l.tx[i]).isNone)

/-- A frame into a buffer. -/
def Line.setBuf (l : Line) (i : Fin 32) (b : Option TxBuf) : Line := { l with tx := l.tx.set i b }

/-- A port-engine frame into buffers 1 to 27; with all full it waits for one (R232). -/
def Chip.sendUlp (c : Chip) (n : Port) (f : CanFrame) (use : TxFor) : Chip :=
  c.updLine n (fun l =>
    match l.freeBuf 1 27 with
    | some i => l.setBuf i (some { frame := f, use := use, started := false, cancelled := false, sof := 0#64 })
    | none => { l with txWait := l.txWait ++ [(f, use)] })

/-- The first waiting port-engine frame takes a freed buffer. -/
def Line.refillOne (l : Line) : Line :=
  match l.txWait with
  | [] => l
  | (f, use) :: t =>
    match l.freeBuf 1 27 with
    | some i => { l.setBuf i (some { frame := f, use := use, started := false, cancelled := false, sof := 0#64 }) with txWait := t }
    | none => l

/-- Waiting port-engine frames take freed buffers, in order (R232). -/
def Line.refill (l : Line) : Line := l.txWait.foldl (fun l _ => l.refillOne) l

/-- A frame's place in arbitration: a standard identifier in bits 28:18 wins against the extended ones that begin with it. -/
def TxBuf.rank (b : TxBuf) : Nat :=
  2 * (if b.frame.ide then b.frame.id.toNat else b.frame.id.toNat * 262144) + bitOf b.frame.ide

/-- A frame of the line is on the wire. -/
def Line.sending (l : Line) : Bool := l.tx.any (fun b => b.any (·.started))

/-- The controller offers this buffer's frame: none is on the wire, and no pending one has a lower identifier, or an equal one in a
lower buffer (R232). -/
def Line.offers (l : Line) (i : Fin 32) : Bool :=
  !l.sending && (l.tx[i]).any (fun b => (List.finRange 32).all (fun j =>
    (l.tx[j]).all (fun x => b.rank < x.rank || (b.rank == x.rank && i.val ≤ j.val))))

/-- TX_STATUS (0x050C) of a host buffer: to the door that sent it, while claimed. -/
def Chip.evTxStatus (c : Chip) (n : Port) (d : Door) (buf st : Nat) (sof : BitVec 64) : Chip :=
  c.postOwn (some d) (c.ev 0x050C 1 n.val [buf, st, sof.toNat % 4294967296])

/-! ### Nodes -/

/-- The run-time state of the node at an address. -/
def Chip.node? (c : Chip) (n : Port) (a : Nat) : Option NodeRt := (c.ports[n]).line.nodes.find? (fun r => r.addr == a)

/-- A node's context body (R239). -/
def Chip.nodeBody (c : Chip) (r : NodeRt) : NodeBody :=
  match (c.ctx r.cid).body with
  | .node b => b
  | _ => { serial := 0, addr := r.addr, nstate := 0, objCnt := 0, run := 0, missed := 0, annTry := 0, pollMs := 0, lastRx := 0 }

/-- Change a node's context body. -/
def Chip.updNodeBody (c : Chip) (n : Port) (r : NodeRt) (f : NodeBody → NodeBody) : Chip :=
  c.engWrite n r.cid (.node (f (c.nodeBody r)))

/-- Change a node's run-time state. -/
def Chip.updNode (c : Chip) (n : Port) (a : Nat) (f : NodeRt → NodeRt) : Chip :=
  c.updLine n (fun l => { l with nodes := updFirst (fun r => r.addr == a) f l.nodes })

/-- NSTATE codes (R239). -/
def nsANNOUNCING : Nat := 1
def nsLIVE : Nat := 2
def nsSLOW : Nat := 3
def nsABSENT : Nat := 4

/-- The OBJ context of a node's object. -/
def Chip.objCid? (c : Chip) (r : NodeRt) (obj : Nat) : Option Nat :=
  (c.pond.ctxs.find? (fun x => x.2.typ == tOBJ && x.2.parent == r.cid &&
    (match x.2.body with | .obj b => b.obj == obj | _ => false))).map (·.1)

/-- An object's body. -/
def Chip.objBody? (c : Chip) (r : NodeRt) (obj : Nat) : Option (Nat × ObjBody) :=
  match c.objCid? r obj with
  | none => none
  | some cid => match (c.ctx cid).body with
    | .obj b => some (cid, b)
    | _ => none

/-- An event of a node address: SRC_KIND 3 (11). -/
def Chip.evNode (c : Chip) (code : Nat) (n : Port) (a : Nat) (payload : List Nat) : Event :=
  c.ev code 3 (nodeIndex n.val a) payload

/-- Removal causes in the order of NODE_REMOVED's list (11). -/
def remREQUEST : Nat := 0
def remRELEASE : Nat := 1
def remABSENT : Nat := 2
def remANNOUNCE : Nat := 3
def remRESTART : Nat := 4
def remPOND : Nat := 5
def remUNCORRECTABLE : Nat := 6

/-- NODE_REMOVED (0x0502): address, cause, late-cancel flag. -/
def Chip.evRemoved (c : Chip) (n : Port) (a cause : Nat) (late : Bool) : Chip :=
  c.post (c.evNode 0x0502 n a [a, cause, bitOf late])

/-- Answer the door requests among a node's ULP requests. -/
def Chip.answerUlps (c : Chip) (us : List Ulp) (res : Nat) : Chip :=
  c.each us (fun c u => match u.origin with | .door q => c.answer q res | _ => c)

/-- A buffer holds a frame of the node at an address. -/
def TxBuf.ofNode (a : Nat) (b : TxBuf) : Bool :=
  match b.use with
  | .assign x => x == a
  | .release x => x == a
  | .ulp x => x == a
  | _ => false

/-- Cancel a node's frames in buffers 1 to 27 (R233, R242 step 3): a started one ends with its attempt. -/
def Line.cancelNode (l : Line) (a : Nat) : Line :=
  { l with
    tx := l.tx.mapFinIdx (fun i b _ => match b with
      | some x => if 1 ≤ i && i ≤ 27 && x.ofNode a then (if x.started then some { x with cancelled := true } else none) else b
      | none => none)
    txWait := l.txWait.filter (fun w => match w.2 with
      | .assign x => x != a
      | .release x => x != a
      | .ulp x => x != a
      | _ => true) }

/-- A node's WRITE stands started in a buffer. -/
def Line.writeStarted (l : Line) (a : Nat) : Bool :=
  l.tx.any (fun b => match b with
    | some x => x.started && ulpKind x.frame.id == 6 && (match x.use with | .ulp y => y == a | _ => false)
    | none => false)

/-- Removal of a node in the order of R242; `own` when it came from the node's own RELEASE; `req` is answered at its end. -/
def Chip.removeNode (c : Chip) (n : Port) (a cause : Nat) (own : Bool) (req : Option ReqId) : Chip :=
  match c.node? n a with
  | none => c
  | some r =>
    let serial := (c.nodeBody r).serial
    let c := c.bumpNode n a
    let c := c.answerUlps (r.out.toList ++ r.queue) rROLE_CHANGED
    let late := (c.ports[n]).line.writeStarted a
    let c := c.updLine n (fun l => (l.cancelNode a).refill)
    let c := if own then c
      else c.sendUlp n (c.ulpFrame n (ulpId 1 9 0 a 0) (leBytes 8 serial.toNat ++ leBytes 1 cause)) (.release a)
    let c := c.bulkFree (fun _ x => x.typ == tOBJ && x.parent == r.cid)
    let c := c.freeCtx r.cid
    let hold := ms (10 * c.getPos (.LINE_POLL n) F.LINE_POLL_ADDR_QUAR)
    let c := c.updLine n (fun l =>
      { l with nodes := l.nodes.filter (fun x => x.addr != a), quar := insertNat l.quar a (c.clk.now + hold)
               lateRem := if late then l.lateRem ++ [(a, cause, req)] else l.lateRem })
    if late then c else (c.evRemoved n a cause false).answerOpt req rOK

/-! ### Assignment (R240, R241) -/

/-- The serial's holder on a port. -/
def Chip.nodeBySerial (c : Chip) (n : Port) (serial : BitVec 64) : Option NodeRt :=
  (c.ports[n]).line.nodes.find? (fun r => (c.nodeBody r).serial == serial)

/-- The lowest address neither assigned nor quarantined (R240 step 1). -/
def Line.freeAddr (l : Line) : Option Nat :=
  ((List.range 126).map (· + 1)).find? (fun a =>
    !(l.nodes.any (fun r => r.addr == a)) && (lookupNat l.quar a).isNone)

/-- Queue ASSIGN: the identifier's low byte is the serial's (R237). -/
def Chip.sendAssign (c : Chip) (n : Port) (serial : BitVec 64) (a : Nat) : Chip :=
  c.sendUlp n (c.ulpFrame n (ulpId 1 2 0 127 (serial.toNat % 256)) (leBytes 8 serial.toNat ++ leBytes 1 a)) (.assign a)

/-- CLAIM_REFUSED (0x050E) with its result. -/
def Chip.evClaimRefused (c : Chip) (n : Port) (serial : BitVec 64) (res : Nat) : Event :=
  (c.ev 0x050E 1 n.val [serial.toNat, res]).withResult res

/-- The poll period in force for a node state: eight times the set one in SLOW and ABSENT (R241). -/
def Chip.pollMs (c : Chip) (n : Port) (st : Nat) : Nat :=
  let p := c.getPos (.LINE_POLL n) F.LINE_POLL_POLL_MS
  if st = nsSLOW ∨ st = nsABSENT then 8 * p else p

/-- Give an address to the serial of a CLAIM stamped `tick` (R239, R240 steps 2 and 3). -/
def Chip.assignNode (c : Chip) (n : Port) (serial : BitVec 64) (a : Nat) (tick : BitVec 64) (restart : Bool) : Chip :=
  match c.alloc (hPort n) (.of tNODE) 1 with
  | (.ok (cid :: _), c) =>
    let body : NodeBody :=
      { serial := serial, addr := a, nstate := nsANNOUNCING, objCnt := 0, run := 0, missed := 0, annTry := 1,
        pollMs := c.pollMs n nsANNOUNCING, lastRx := tick }
    let c := c.engWrite n cid (.node body)
    let c := c.updLine n (fun l =>
      { l with quar := eraseNat l.quar a,
               nodes := l.nodes ++ [{ addr := a, cid := cid, gen := (c.ctx cid).gen, annDue := none, part := none,
                                      out := none, queue := [], absentAt := none, restart := restart }] })
    let c := c.bumpNode n a
    c.sendAssign n serial a
  | (.ok [], c) => c
  | (.error v, c) => c.postRate (sec 1) n.val (c.evClaimRefused n serial v)

/-! ### What a checked frame says (R231, R237) -/

/-- The first checked frame of a KIND from a source. -/
def Line.checked (l : Line) (kind src : Nat) : Option RxCan :=
  l.ulp.find? (fun x => ulpKind x.frame.id == kind && ulpSrc x.frame.id == src)

/-- A frame's content begins with these bytes at an offset, before its CRC-16. -/
def RxCan.holds (x : RxCan) (k : Nat) (v : List Byte) : Bool :=
  k + v.length + 2 ≤ x.frame.data.length && bytesAt x.frame.data k v.length == v

/-- A CLAIM or a RELEASE carries a SERIAL. -/
def RxCan.serialIs (x : RxCan) (serial : BitVec 64) : Bool := leAt x.frame.data 0 8 == serial.toNat

/-- The entries of an ANNOUNCE segment: OBJ, OTYPE, ACCESS, VLEN. -/
def RxCan.entries (x : RxCan) (k : Nat) : List (Nat × Nat × Nat × Nat) :=
  (List.range k).map (fun i =>
    (leAt x.frame.data (2 + 4 * i) 1, leAt x.frame.data (3 + 4 * i) 1, leAt x.frame.data (4 + 4 * i) 1,
      leAt x.frame.data (5 + 4 * i) 1))

/-- An ANNOUNCE carries a segment. -/
def RxCan.segmentIs (x : RxCan) (seg sidx total : Nat) (es : List (Nat × Nat × Nat × Nat)) : Bool :=
  ulpSeg x.frame.id == seg && leAt x.frame.data 0 1 == sidx && leAt x.frame.data 1 1 == total &&
    x.entries (min 15 (total - sidx)) == es

/-- A READ_RSP or a WRITE_ACK carries an object's STATUS, and a READ_RSP its value. -/
def RxCan.answerIs (x : RxCan) (obj status : Nat) (value : List Byte) : Bool :=
  ulpLow x.frame.id / 4 == obj && leAt x.frame.data 0 1 == status && x.holds 1 value

/-- A REPORT carries an object's value, stamped at its start of frame. -/
def RxCan.reportIs (x : RxCan) (obj : Nat) (value : List Byte) (sof : BitVec 64) : Bool :=
  ulpLow x.frame.id / 4 == obj && x.tick == sof && x.holds 0 value

/-- A CLAIM stamped `tick` (R240). -/
def Chip.claimNode (c : Chip) (n : Port) (serial : BitVec 64) (tick : BitVec 64) : Chip :=
  match c.nodeBySerial n serial with
  | some r =>
    if r.restart then c
    else (c.removeNode n r.addr remRESTART false none).assignNode n serial r.addr tick true
  | none =>
    match (c.ports[n]).line.freeAddr with
    | none => c.post (c.evClaimRefused n serial rBAD_ARG)
    | some a => c.assignNode n serial a tick false

/-! ### Requests (R243) -/

/-- The frame of a ULP request. -/
def Chip.ulpReqFrame (c : Chip) (n : Port) (a : Nat) (u : Ulp) : CanFrame :=
  if u.write then c.ulpFrame n (ulpId u.prio 6 0 a (4 * u.obj)) u.value
  else c.ulpFrame n (ulpId 3 4 0 a (4 * u.obj)) []

/-- Start a node's next queued request, if none is outstanding. -/
def Chip.startUlp (c : Chip) (n : Port) (a : Nat) : Chip :=
  match c.node? n a with
  | none => c
  | some r =>
    match r.out, r.queue with
    | none, u :: t =>
      let c := c.updNode n a (fun r => { r with out := some u, queue := t })
      c.sendUlp n (c.ulpReqFrame n a u) (.ulp a)
    | _, _ => c

/-- Queue a request to a node: at most 8 wait beside the outstanding one. `none` when there is no room. -/
def Chip.queueUlp (c : Chip) (n : Port) (a : Nat) (u : Ulp) : Option Chip :=
  match c.node? n a with
  | none => none
  | some r =>
    if r.out.isSome && 8 ≤ r.queue.length then none
    else
      let c := match u.write, c.objBody? r u.obj with
        | true, some (cid, b) => c.engWrite n cid (.obj { b with writePend := true })
        | _, _ => c
      some ((c.updNode n a (fun r => { r with queue := r.queue ++ [u] })).startUlp n a)

/-- The requests of a node that write an object: outstanding or queued. -/
def NodeRt.writes (r : NodeRt) (obj : Nat) : Bool := (r.out.toList ++ r.queue).any (fun u => u.write && u.obj == obj)

/-- WRITE_PEND of an object falls when the last WRITE to it has ended (R239). -/
def Chip.writeEnded (c : Chip) (n : Port) (a obj : Nat) : Chip :=
  match c.node? n a with
  | none => c
  | some r =>
    match c.objBody? r obj with
    | none => c
    | some (cid, b) => if b.writePend && !r.writes obj then c.engWrite n cid (.obj { b with writePend := false }) else c

/-- A new LINE_POLL is in force in every node (R239 POLL_MS, R241). -/
def Chip.pollSync (c : Chip) (n : Port) : Chip :=
  c.each (c.ports[n]).line.nodes (fun c r => c.updNodeBody n r (fun b => { b with pollMs := c.pollMs n b.nstate }))

/-- Enter SLOW, leave it, enter ABSENT or leave it: state, counters, poll period and event (R241). -/
def Chip.setNodeState (c : Chip) (n : Port) (a st : Nat) (code : Nat) (set : Bool) : Chip :=
  match c.node? n a with
  | none => c
  | some r =>
    let c := c.updNodeBody n r (fun b => { b with nstate := st, run := 0, pollMs := c.pollMs n st })
    let c := c.updNode n a (fun r => { r with absentAt := if st = nsABSENT then some c.clk.now else none })
    c.post (c.evNode code n a [a, bitOf set])

/-- Any valid frame from an address (R241, LAST_RX of R239). -/
def Chip.nodeHeard (c : Chip) (n : Port) (a : Nat) (tick : BitVec 64) : Chip :=
  match c.node? n a with
  | none => c
  | some r =>
    let st := (c.nodeBody r).nstate
    let c := c.updNodeBody n r (fun b => { b with lastRx := tick })
    if st = nsABSENT then
      let c := c.setNodeState n a nsLIVE 0x0504 false
      c.updNodeBody n r (fun b => { b with missed := 0 })
    else c

/-- An answer on time or late: RUN and the SLOW state (R241). -/
def Chip.nodeAnswered (c : Chip) (n : Port) (a : Nat) (late : Bool) : Chip :=
  match c.node? n a with
  | none => c
  | some r =>
    let b := c.nodeBody r
    let run := if (b.nstate = nsSLOW) = (late = false) then b.run + 1 else 0
    let c := c.updNodeBody n r (fun b => { b with run := run, missed := 0 })
    if b.nstate = nsLIVE ∧ c.getPos (.LINE_POLL n) F.LINE_POLL_SLOW_LIMIT ≤ run then c.setNodeState n a nsSLOW 0x0503 true
    else if b.nstate = nsSLOW ∧ 16 ≤ run then c.setNodeState n a nsLIVE 0x0503 false
    else c

/-- A request unanswered at its timeout (R241, R243). -/
def Chip.nodeMissed (c : Chip) (n : Port) (a : Nat) : Chip :=
  match c.node? n a with
  | none => c
  | some r =>
    let b := c.nodeBody r
    let m := min 255 (b.missed + 1)
    let c := c.updNodeBody n r (fun b => { b with missed := m })
    if (b.nstate = nsLIVE ∨ b.nstate = nsSLOW) ∧ c.getPos (.LINE_POLL n) F.LINE_POLL_LOST_LIMIT ≤ m then
      c.setNodeState n a nsABSENT 0x0504 true
    else c

/-- The door result of a ULP STATUS (R237); a status that the table does not list is answered BAD_ARG. -/
def ulpResult (st : Nat) : Nat :=
  match st with
  | 0 => rOK
  | 4 => rWAIT
  | _ => rBAD_ARG

/-! ### Strangers and foreign frames (R229 to R231) -/

/-- CAN_RAW data (R239): identifier with its flags, length, stranger cause, 2 zero bytes, the data bytes. -/
def canRawData (f : CanFrame) (cause : Nat) : List Byte :=
  leBytes 4 (f.id.toNat + 2147483648 * bitOf f.ide + 1073741824 * bitOf f.fdf + 536870912 * bitOf f.brs) ++
    leBytes 1 f.data.length ++ leBytes 1 cause ++ leBytes 2 0 ++ f.data

/-- The stream of a line's records, when enabled and open. -/
def Chip.lineStream (c : Chip) (n : Port) : Option Strm :=
  if c.bit (.LINE_CTL n) F.LINE_CTL_STREAM_EN then c.strm? (BitVec.ofNat 16 (c.get (.LINE_CTL n) F.LINE_CTL_STREAM)) else none

/-- LINE_RX_OVERRUN (0x050B) and its count in LINE_CNT (R230). -/
def Chip.rxOverrun (c : Chip) (n : Port) (queue : Nat) : Chip :=
  let c := c.incSat (.LINE_CNT n) (if queue = 0 then F.LINE_CNT_RXQ0_OVR else F.LINE_CNT_RXQ1_OVR)
  c.postRate (ms 1) (2 * n.val + queue) (c.ev 0x050B 1 n.val [queue, 1]) (some 1)

/-- A frame out of RXQ_1: a CAN_RAW record on the line stream, or discarded with STREAM_EN = 0 (R229). -/
def Chip.rxRecord (c : Chip) (n : Port) (x : RxCan) : Chip :=
  match c.lineStream n with
  | none => c
  | some s =>
    let h := (c.recHdr n x.tick 6 (if x.cause = 0 then 0 else 32) 0 0 0).stamped x.pos
    (c.putRec s n.val h (canRawData x.frame x.cause)).2

/-- A frame into RXQ_1. It waits there while its basin is in reset (R69, R352), at most 64 deep (R230). -/
def Chip.rxForeign (c : Chip) (n : Port) (x : RxCan) : Chip :=
  if c.basinUp n then c.rxRecord n x
  else if 64 ≤ (c.ports[n]).line.rxq1.length then c.rxOverrun n 1
  else c.updLine n (fun l => { l with rxq1 := l.rxq1 ++ [x] })

/-- RXQ_1 drains once its basin runs again (R229, R352). -/
def Chip.rxDrain (c : Chip) (n : Port) : Chip :=
  let q := (c.ports[n]).line.rxq1
  (c.each q (fun c x => c.rxRecord n x)).updLine n (fun l => { l with rxq1 := [] })

/-- A stranger (R231): counted, kept in RXQ_1 with STRANGER_KEEP, posted at most once per second per port. -/
def Chip.stranger (c : Chip) (n : Port) (x : RxCan) (cause : Nat) : Chip :=
  let c := c.incSat (.LINE_CNT n) F.LINE_CNT_STRANGERS
  let c := if c.bit (.LINE_CTL n) F.LINE_CTL_STRANGER_KEEP then c.rxForeign n { x with cause := cause } else c
  c.postRate (sec 1) n.val (c.ev 0x050A 1 n.val [cause, x.frame.id.toNat, 1]) (some 2)

/-! ### Error confinement (R234, R235) -/

/-- LINE_ERR.STATE codes. -/
def leACTIVE : Nat := 0
def lePASSIVE : Nat := 1
def leBUSOFF : Nat := 2
def leRECOVERING : Nat := 3

/-- A line is off the bus. -/
def Chip.lineOff (c : Chip) (n : Port) : Bool := leBUSOFF ≤ c.get (.LINE_ERR n) F.LINE_ERR_STATE

/-- Start the recovery of a bus-off (R235). -/
def Chip.startRecovery (c : Chip) (n : Port) : Chip :=
  let now := c.clk.now
  (c.setSt (.LINE_ERR n) F.LINE_ERR_STATE leRECOVERING).updLine n (fun l =>
    { l with recFrom := now, recBits := 0, recMark := now })

/-- The port is in LINE mode. -/
def Chip.isLine (c : Chip) (n : Port) : Bool := (c.ports[n]).mode == .line

/-- A counter rises to a threshold (R234); a threshold of 0 is off. -/
def risesTo (t old new : Nat) : Bool := t != 0 && old < t && t ≤ new

/-- WARN_A and WARN_B: a counter is at or above the threshold. A threshold re-arms when both counters are below it (R234). -/
def Chip.warnBits (c : Chip) (n : Port) : Chip :=
  let tec := c.get (.LINE_ERR n) F.LINE_ERR_TEC
  let rec_ := c.get (.LINE_ERR n) F.LINE_ERR_REC
  let a := c.get (.LINE_WARN n) F.LINE_WARN_ERR_WARN_A
  let b := c.get (.LINE_WARN n) F.LINE_WARN_ERR_WARN_B
  let onA : Bool := a != 0 && (a ≤ tec || a ≤ rec_)
  let onB : Bool := b != 0 && (b ≤ tec || b ≤ rec_)
  let c := c.setSt (.LINE_ERR n) F.LINE_ERR_WARN_A (bitOf onA)
  let c := c.setSt (.LINE_ERR n) F.LINE_ERR_WARN_B (bitOf onB)
  c.updLine n (fun l => { l with warnA := l.warnA || !onA, warnB := l.warnB || !onB })

/-- TEC and REC take new values (R234): LINE_ERR_WARN where one rises to an armed threshold. -/
def Chip.setCounters (c : Chip) (n : Port) (tec rec_ : Nat) : Chip :=
  let t := c.get (.LINE_ERR n) F.LINE_ERR_TEC
  let r := c.get (.LINE_ERR n) F.LINE_ERR_REC
  let a := c.get (.LINE_WARN n) F.LINE_WARN_ERR_WARN_A
  let b := c.get (.LINE_WARN n) F.LINE_WARN_ERR_WARN_B
  let l := (c.ports[n]).line
  let postA : Bool := l.warnA && (risesTo a t tec || risesTo a r rec_)
  let postB : Bool := l.warnB && (risesTo b t tec || risesTo b r rec_)
  let c := (c.setF (.LINE_ERR n) F.LINE_ERR_TEC tec).setF (.LINE_ERR n) F.LINE_ERR_REC rec_
  let c := c.updLine n (fun l => { l with warnA := l.warnA && !postA, warnB := l.warnB && !postB })
  let c := c.warnBits n
  let c := if postA then c.post (c.ev 0x0506 1 n.val [0, tec, rec_]) else c
  if postB then c.post (c.ev 0x0506 1 n.val [1, tec, rec_]) else c

/-- TEC and REC take new values, and error passive follows them (R234). -/
def Chip.countErrors (c : Chip) (n : Port) (tec rec_ : Nat) : Chip :=
  let c := c.setCounters n tec rec_
  let passive : Bool := 128 ≤ tec || 128 ≤ rec_
  let was : Bool := c.get (.LINE_ERR n) F.LINE_ERR_STATE == lePASSIVE
  if passive == was then c
  else
    let c := c.setSt (.LINE_ERR n) F.LINE_ERR_STATE (if passive then lePASSIVE else leACTIVE)
    c.post (c.ev 0x0507 1 n.val [bitOf passive, tec, rec_])

/-- What an error adds to TEC and REC (R234; ISO 11898-1: PRESUMED, log entry 229). -/
def errAdds : CanRole → CanErr → Nat × Nat
  | _, .exempt => (0, 0)
  | .receiver, .plain => (0, 1)
  | .receiver, .flagged => (0, 8)
  | .transmitter, _ => (8, 0)

/-- An error on the bus (R222, R234): with LISTEN = 1 TEC stands; above 255 it means bus-off. -/
def Chip.busError (c : Chip) (n : Port) (r : CanRole) (e : CanErr) : Chip :=
  let tec := c.get (.LINE_ERR n) F.LINE_ERR_TEC + (if c.bit (.LINE_CTL n) F.LINE_CTL_LISTEN then 0 else (errAdds r e).1)
  let c := c.countErrors n (min 255 tec) (min 255 (c.get (.LINE_ERR n) F.LINE_ERR_REC + (errAdds r e).2))
  if 255 < tec then c.updLine n (fun l => { l with boffDue := true }) else c

/-- A good reception (R222, R234; log entry 229): REC falls by one, and from above 127 to a value of 119 to 127 that ISO 11898-1
leaves open (free value). -/
def Chip.goodRx (c : Chip) (n : Port) : Chip :=
  let tec := c.get (.LINE_ERR n) F.LINE_ERR_TEC
  let r := c.get (.LINE_ERR n) F.LINE_ERR_REC
  if r = 0 then c
  else if r ≤ 127 then c.countErrors n tec (r - 1)
  else
    let (v, c) := c.draw
    c.countErrors n tec (119 + v.toNat % 9)

/-- A good transmission (R234; log entry 229): TEC falls by one. -/
def Chip.goodTx (c : Chip) (n : Port) : Chip :=
  let tec := c.get (.LINE_ERR n) F.LINE_ERR_TEC
  if tec = 0 then c else c.countErrors n (tec - 1) (c.get (.LINE_ERR n) F.LINE_ERR_REC)

/-- Frozen node timers move on by the time they stood still (R235). -/
def Line.shift (l : Line) (d : Nat) : Line :=
  { l with polledAt := l.polledAt + d, nodes := l.nodes.map (fun r =>
      { r with annDue := r.annDue.map (· + d), out := r.out.map (fun u => { u with sentAt := u.sentAt.map (· + d) }) }) }

/-! ### Bit timing (R225, R226, R228) -/

/-- CAN clock cycles of the arbitration bit, from LINE_NBT. -/
def Chip.nomCycles (c : Chip) (n : Port) : Nat :=
  (c.get (.LINE_NBT n) F.LINE_NBT_BRP + 1) *
    (3 + c.get (.LINE_NBT n) F.LINE_NBT_TSEG1 + c.get (.LINE_NBT n) F.LINE_NBT_TSEG2)

/-- CAN clock cycles of the data bit, from LINE_DBT. -/
def Chip.datCycles (c : Chip) (n : Port) : Nat :=
  (c.get (.LINE_DBT n) F.LINE_DBT_BRP + 1) *
    (3 + c.get (.LINE_DBT n) F.LINE_DBT_TSEG1 + c.get (.LINE_DBT n) F.LINE_DBT_TSEG2)

/-- TDC_ON while BRS = 1 and the data rate is 1 Mbit/s or more (R225). -/
def Chip.tdcOn (c : Chip) (n : Port) : Chip :=
  c.setB (.LINE_TDC n) F.LINE_TDC_TDC_ON (c.bit (.LINE_CTL n) F.LINE_CTL_BRS && c.datCycles n ≤ 80)

/-- Arbitration bits of the running recovery so far (R235): a bit lasts 20 ticks for each CAN clock cycle (R224). -/
def Chip.recoveryBits (c : Chip) (n : Port) : Nat :=
  let l := (c.ports[n]).line
  l.recBits + (c.clk.now - l.recMark) / (20 * c.nomCycles n)

/-- Step 2 of R228: the controller leaves the bus and applies the timing; LINE_TIMING is answered OK. -/
def Chip.applyTiming (c : Chip) (n : Port) (t : TimingSet) : Chip :=
  let now := c.clk.now
  let bits := c.recoveryBits n
  let c := c.wrRW (.LINE_NBT n) t.nbt
  let c := c.wrRW (.LINE_DBT n) t.dbt
  let c := c.wrRW (.LINE_TDC n) t.tdc
  let c := match t.ctl with
    | some (triple, brs) => (c.setB (.LINE_CTL n) F.LINE_CTL_TRIPLE triple).setB (.LINE_CTL n) F.LINE_CTL_BRS brs
    | none => c
  let c := (c.tdcOn n).updLine n (fun l => { l with timing := none, joined := false, recBits := bits, recMark := now })
  c.each t.reqs (fun c q => c.answer q rOK)

/-- The timing that is in force once what waits has been applied. -/
def Chip.timingSet (c : Chip) (n : Port) : TimingSet :=
  ((c.ports[n]).line.timing).getD { nbt := c.rd (.LINE_NBT n), dbt := c.rd (.LINE_DBT n), tdc := c.rd (.LINE_TDC n) }

/-- Ask for a timing: at once, or once the frame in progress completes (R228 step 1). -/
def Chip.askTiming (c : Chip) (n : Port) (t : TimingSet) : Chip :=
  if (c.ports[n]).line.sending && !c.lineOff n then c.updLine n (fun l => { l with timing := some t })
  else c.applyTiming n t

/-- A timing that waits is applied when no frame is on the wire. -/
def Chip.applyTimingDue (c : Chip) (n : Port) : Chip :=
  match (c.ports[n]).line.timing with
  | none => c
  | some t => if (c.ports[n]).line.sending then c else c.applyTiming n t

/-! ### Final statuses (R233) -/

/-- The TIME frame as it goes on the wire: TICK is its own start-of-frame tick (R244). -/
def Chip.timeFrame (c : Chip) (n : Port) (t : BitVec 64) (f : CanFrame) : CanFrame :=
  c.ulpFrame n f.id (leBytes 8 t.toNat ++ bytesAt f.data 8 3)

/-- A TIME frame that waited takes buffer 0 once the attempt of the one before has ended (R244). -/
def Line.nextTime (l : Line) : Line :=
  match l.timeWait, l.tx[(0 : Fin 32)] with
  | some f, b =>
    if b.any (·.started) then l
    else { l.setBuf 0 (some { frame := f, use := .time, started := false, cancelled := false, sof := 0#64 }) with timeWait := none }
  | none, _ => l

/-- The final status of a host frame: kept for the buffer, reported in TX_STATUS (FLAGS bit 3 for the ERROR flag). -/
def Chip.finishHostTx (c : Chip) (n : Port) (i : Fin 32) (st : Nat) (err : Bool) (b : TxBuf) : Chip :=
  match b.use with
  | .host d =>
    let c := c.updLine n (fun l => { l.setBuf i none with lastTx := insertNat l.lastTx i.val st })
    let e := c.ev 0x050C 1 n.val [i.val, st, b.sof.toNat % 4294967296]
    c.postOwn (some d) (if err then { e with flags := e.flags ||| 8 } else e)
  | _ => c.updLine n (fun l => l.setBuf i none)

/-- The edge on SEL_n and STB_n of the running mode change is fixed: 10 to 20 µs from now, the manual leaving the moment within these
bounds open (R51; free value, log entry 183). -/
def Chip.fixEdge (c : Chip) (n : Port) : Chip :=
  let (v, c) := c.draw
  let t := c.clk.now + us 10 + v.toNat % (us 10 + 1)
  c.updPort n (fun p => { p with seqs := p.seqs.modifyHead (fun m => { m with edge := some t }) })

/-- A change away from LINE has begun and no frame attempt is on the wire any more: TXD is high-impedance from now (R51). -/
def Chip.releaseTxd (c : Chip) (n : Port) : Chip :=
  let p := c.ports[n]
  if p.mode = .off ∧ p.txd ∧ p.seqs.head?.any (·.started) ∧ !p.line.sending then
    (c.updPort n (fun p => { p with txd := false })).fixEdge n
  else c

/-- A buffer's frame reaches its final status, which is reported (R233); waiting frames and timings follow. -/
def Chip.finishTx (c : Chip) (n : Port) (i : Fin 32) (st : Nat) (err : Bool) (b : TxBuf) : Chip :=
  let c := c.finishHostTx n i st err b
  let sent : Bool := st != txCANCELLED
  let c : Chip := match b.use with
    | .host _ =>
      let l : Line := (c.ports[n]).line
      let mine := l.cancels.filter (fun x => x.1 == i.val)
      let c := c.updLine n (fun l => { l with cancels := l.cancels.filter (fun x => x.1 != i.val) })
      c.each mine (fun c x => c.answer x.2 rOK [st] 1)
    | .assign a =>
      if b.cancelled then c
      else c.updNode n a (fun r => { r with annDue := if sent then some (c.clk.now + ms 10) else r.annDue, restart := false })
    | .ulp a =>
      let l : Line := (c.ports[n]).line
      match l.lateRem.find? (fun x => x.1 == a) with
      | some x =>
        if b.cancelled && ulpKind b.frame.id == 6 then
          ((c.updLine n (fun l => { l with lateRem := dropFirst (fun x => x.1 == a) l.lateRem })).evRemoved n a x.2.1
            (st == txLATE)).answerOpt x.2.2 rOK
        else c
      | none =>
        if sent && !b.cancelled then
          c.updNode n a (fun r => { r with out := r.out.map (fun u => { u with sentAt := some c.clk.now }) })
        else c
    | _ => c
  ((c.updLine n (fun l => l.refill.nextTime)).applyTimingDue n).releaseTxd n

/-- Cancel every TX frame at the start of a mode change away from LINE, or of the port's stop (R232). -/
def Chip.cancelAllTx (c : Chip) (n : Port) : Chip :=
  let c := c.updLine n (fun l => { l with txWait := [] })
  c.each (List.finRange 32) (fun c i =>
    match (c.ports[n]).line.tx[i] with
    | none => c
    | some b =>
      if b.started then c.updLine n (fun l => l.setBuf i (some { b with cancelled := true }))
      else
        let c := c.updLine n (fun l => l.setBuf i none)
        match b.use with
        | .host d =>
          let c := c.updLine n (fun l => { l with lastTx := insertNat l.lastTx i.val txCANCELLED })
          c.evTxStatus n d i.val txCANCELLED b.sof
        | _ => c)

/-- The line side of a port leaving LINE (R34, R140): requests answered, NODE and OBJ contexts freed, every node address
incremented in one step. -/
def Chip.leaveLine (c : Chip) (n : Port) : Chip :=
  let l := (c.ports[n]).line
  let c := c.each l.nodes (fun c r => c.answerUlps (r.out.toList ++ r.queue) rROLE_CHANGED)
  let c := c.each l.recoverReqs (fun c q => c.answer q rROLE_CHANGED)
  let c := c.bulkFree (fun _ x => x.holder == n.val && (x.typ == tNODE || x.typ == tOBJ))
  let c := c.bumpAllNodes n
  let c := c.wr (.LINE_ERR n) (fset (c.rd (.LINE_ERR n)) ⟨19, 0, .ro⟩ 0)
  c.updLine n (fun l => { tx := l.tx, cancels := l.cancels, tseq := l.tseq, lateRem := l.lateRem })

end Sys2Proof.Machine
end

