-- ==== Sys2Proof/Machine/ModeOps.lean ====
section
/-! DEFINITION. Mode changes of a port (R30, R34, R48, R51): their sequences, the balls, and what each mode frees. -/

namespace Sys2Proof.Machine

/-- A port enters LINE mode (R51): SEL_n to the line side, STB_n low, TXD driven recessive; the controller has yet to join
the bus. -/
def Chip.enterLine (c : Chip) (n : Port) : Chip :=
  let c := c.updLine n (fun l => { tseq := l.tseq, lateRem := l.lateRem, polledAt := c.clk.now })
  c.updPort n (fun p => { p with selLine := true, stbLow := true, txd := true })

/-- A mode change starts (R51, R290): with CH = 1 the channel goes OFF first, for which the change waits while the die takes no
command; the port leaves its mode and passes through OFF. Ports have no clock without PLLs (R65): the change waits. -/
def Chip.startMode (c : Chip) (n : Port) : Chip :=
  match (c.ports[n]).seqs with
  | [] => c
  | m :: t =>
    let c := if m.chan = 1 && !m.asked then c.fuseNow (.CH_CMD n) 0#32 else c
    let m := { m with asked := true }
    let c := c.updPort n (fun p => { p with seqs := m :: t })
    if m.started || c.noPll || (m.chan == 1 && (c.chans[n]).phase != .off) then c
    else
      let c := c.updPort n (fun p => { p with seqs := { m with started := true } :: t })
      match (c.ports[n]).mode with
      | .off => if m.goal = .line then c.fixEdge n else c
      | .drop =>
        let c := (c.leaveDrop n ubMODE).pdLeave n
        let c := c.updPort n (fun p => { p with mode := .off, pulldown := false })
        if m.goal = .line then c.fixEdge n else c
      | .line =>
        let c := (c.cancelAllTx n).leaveLine n
        (c.updPort n (fun p => { p with mode := .off, txd := true })).releaseTxd n

/-- The rows of a mode change can end (R51): to OFF with the edge on SEL_n and STB_n, else 100 µs after it; without one at once. -/
def ModeSeq.due (m : ModeSeq) (now : Nat) : Bool :=
  m.edge.all (fun t => (if m.goal = .off then t else t + us 100) ≤ now)

/-- The last step of a mode change's rows (R51): the new mode, its balls, CH = 2, the answer; the next change starts. It waits for the
bulk free of the mode left, which waits in a directory rebuild (R151, R354). -/
def Chip.endMode (c : Chip) (n : Port) : Chip :=
  match (c.ports[n]).seqs with
  | [] => c
  | m :: t =>
    if !m.started || (c.ports[n]).line.sending || !m.due c.clk.now || c.pond.rebuild then c
    else
      let c := c.updPort n (fun p => { p with seqs := t, mode := m.goal })
      let c : Chip := match m.goal with
        | .off => c.updPort n (fun p => { p with selLine := false, stbLow := false, txd := false, pulldown := false })
        | .drop =>
          let c := c.updPort n (fun p => { p with selLine := false, stbLow := false, txd := false })
          (c.enterDrop n).pdEnter n
        | .line => (c.updPort n (fun p => { p with pulldown := false })).enterLine n
      let c := if m.chan = 2 then c.fuseNow (.CH_CMD n) 1#32 else c
      (c.answerOpt m.req rOK).startMode n

end Sys2Proof.Machine
end

