-- ==== Sys2Proof/Machine/DropXfer.lean ====
section
/-! DEFINITION. Transfers on a drop (09): control requests passed through (R192 to R195), endpoint runs with toggles, NAK
budgets and retries (R186, R191, R196), SOF stamps (R200). -/

namespace Sys2Proof.Machine

/-! ### Control requests (R192 to R195) -/

/-- Fields of a SETUP packet. -/
def suType (b : List Byte) : Nat := leAt b 0 1
def suReq (b : List Byte) : Nat := leAt b 1 1
def suValue (b : List Byte) : Nat := leAt b 2 2
def suIndex (b : List Byte) : Nat := leAt b 4 2
def suLength (b : List Byte) : Nat := leAt b 6 2

/-- The requests of the table *Toggle resynchronisation*. -/
inductive Resync where
  | config (v : Nat) | iface (i alt : Nat) | clearHalt (ep : Nat) | other
deriving DecidableEq, Repr

/-- A request recognised from bmRequestType, bRequest and wValue (R192). -/
def resyncOf (b : List Byte) : Resync :=
  if suType b = 0 ∧ suReq b = 9 then .config (suValue b % 256)
  else if suType b = 1 ∧ suReq b = 11 then .iface (suIndex b % 256) (suValue b % 256)
  else if suType b = 2 ∧ suReq b = 1 ∧ suValue b = 0 then .clearHalt (suIndex b % 256)
  else .other

/-- The refusal of a request that is not passed through (table *Refused pass-through requests*). -/
def refusedCtl (hub : Bool) (b : List Byte) : Option Nat :=
  let t := suType b
  let r := suReq b
  let v := suValue b
  if t = 0 ∧ r = 5 then some rBAD_ARG
  else if t = 0 ∧ r = 3 ∧ v = 2 then some rBAD_ARG
  else if t = 0 ∧ (r = 3 ∨ r = 1) ∧ v = 1 then some rLOCKED
  else if hub ∧ t = 0x23 ∧ r = 3 ∧ (v = 4 ∨ v = 8 ∨ v = 2) then some rLOCKED
  else if hub ∧ t = 0x23 ∧ r = 1 ∧ (v = 1 ∨ v = 8) then some rLOCKED
  else none

/-- The endpoints and interfaces of a configuration of a device: those read at its enumeration; of another value the device's own, a
free value to the model (log entry 196). -/
def Dev.configOf (d : Dev) (v : Nat) : List EpDesc × List IfDesc :=
  if v = 0 then ([], []) else if v = d.known then (d.eps, d.ifs) else (Config.configEps d.vid d.pid v, Config.configIfs d.vid d.pid v)

/-- The endpoints that a new setting has; of a configuration with all alternate settings. -/
def Dev.settingEps (d : Dev) : Resync → List EpDesc
  | .config v => (d.configOf v).1
  | .iface i alt => d.eps.filter (fun e => e.iface == i && e.alt == alt)
  | _ => []

/-- The interfaces of a new configuration. -/
def Dev.settingIfs (d : Dev) : Resync → List IfDesc
  | .config v => (d.configOf v).2
  | _ => []

/-- The interfaces that a request affects. -/
def Resync.affects (r : Resync) (j : Nat) : Bool :=
  match r with
  | .config _ => true
  | .iface i _ => j == i
  | _ => false

/-- Whether the new setting is of this kind: one that changes endpoints (R194). -/
def Resync.sets : Resync → Bool
  | .config _ => true
  | .iface _ _ => true
  | _ => false

/-- A new setting puts an endpoint in force: of a configuration those of its default settings. -/
def Resync.inForce (r : Resync) (e : EpDesc) : Bool :=
  match r with
  | .config _ => e.alt == 0
  | _ => true

/-- A place of the periodic schedule belongs to an endpoint that a request affects. -/
def Dev.affected (d : Dev) (r : Resync) (s : Sched) : Bool :=
  s.route == d.route && d.eps.any (fun e => e.addr == s.ep && r.affects e.iface)

/-- Admit the endpoints of a new setting in place of the ones it replaces (R185): their places, or the refusal. -/
def Chip.admitNew (c : Chip) (n : Port) (d : Dev) (r : Resync) (eps : List EpDesc) : Except (Nat × Nat × Nat) (List Sched) :=
  let x := (c.ports[n]).drop
  let base := x.reserved ++ x.sched.filter (fun s => !d.affected r s)
  match admitAll (c.rootSpeed n) base d.route d.speed (x.ttOf d.route d.speed) (hubEps d.hub d.speed (eps.filter r.inForce)) with
  | .error e => .error e
  | .ok l => .ok (l.drop base.length)

/-- The endpoints of a setting that have no EP context yet. -/
def Chip.missingEps (c : Chip) (d : Dev) (eps : List EpDesc) : List EpDesc :=
  (distinctEps eps).filter (fun e => !(c.epsOf d.cid (fun b => b.ep == e.addr)).any (fun _ => true))

/-- A control transfer joins the drop's queue. -/
def Chip.pushCtl (c : Chip) (n : Port) (k : Ctl) : Chip := c.updDrop n (fun x => { x with ctls := x.ctls ++ [k] })

/-- A control request is accepted to the drop's queue (R194): bindings of the affected interfaces end, EP contexts that the
setting adds are requested, the setting is admitted and its places are held for it (R185). -/
def Chip.ctlStart (c : Chip) (n : Port) (d : Dev) (k : Ctl) : Chip :=
  let r := resyncOf k.setup
  if r.sets then
    let eps := d.settingEps r
    let c := c.endBinds (fun b => b.port == n && b.route == d.route && (coveredIfs b.kind b.iface d).any r.affects) ubSETTING
    let add := c.missingEps d eps
    let (res, c) := if add.isEmpty then (Except.ok [], c) else c.alloc (hPort n) (.of tEP d.cid) add.length
    match res with
    | .error v => c.answerOpt k.door? v
    | .ok cids =>
      match c.admitNew n d r eps with
      | .error x => ((c.each cids Chip.freeCtx).evOverbook n d.route x).answerOpt k.door? rBAD_ARG
      | .ok l => c.pushCtl n { k with added := cids, eps := eps, ifs := d.settingIfs r, sched := l }
  else c.pushCtl n k

/-- The runs of endpoints begin anew; what a microframe has counted stays. -/
def Chip.dropRuns (c : Chip) (n : Port) (p : EpRun → Bool) : Chip :=
  c.updDrop n (fun x => { x with runs := x.runs.map (fun r =>
    if p r then
      { route := r.route, ep := r.ep, moved := 0, retries := 0, naks := r.naks, ping := false, mismatches := 0, stopped := false,
        lastAt := r.lastAt, ended := r.ended }
    else r) })

/-- The device after a new setting; class match is due (R207). -/
def Dev.set (d : Dev) (r : Resync) (eps : List EpDesc) (ifs : List IfDesc) : Dev :=
  match r with
  | .config v =>
    let d := { d with config := v, configured := v != 0, alts := [], matchDue := true }
    if v = 0 then d else { d with known := v, eps := eps, ifs := ifs }
  | .iface i alt => { d with alts := if alt = 0 then eraseNat d.alts i else insertNat d.alts i alt, matchDue := true }
  | _ => d

/-- An EP body under a new setting (R187, R192): DATA0, not halted, its descriptor's values, its phase; BYTES run from the
configuration. -/
def EpBody.set (b : EpBody) (r : Resync) (speed : Nat) (e : EpDesc) (phase : Nat) : EpBody :=
  { b with
    toggle := false, halted := false, slow := false, slowRun := 0, stream := none, phase := phase
    xfer := e.xfer, mult := max 1 e.mult, mps := e.mps, period := if periodicEp e then periodLog speed e.interval else 0
    iface := e.iface, alt := e.alt, active := r.inForce e
    bytes := match r with
      | .config _ => 0
      | _ => b.bytes }

/-- The resynchronisation of R192, once the status stage completed with ACK. -/
def Chip.resync (c : Chip) (n : Port) (d : Dev) (k : Ctl) : Chip :=
  let r := resyncOf k.setup
  match r with
  | .clearHalt ep =>
    if ep % 16 = 0 then c
    else
      let c := c.updEps n d.cid (fun b => b.ep.toNat == ep) (fun b => { b with toggle := false, halted := false })
      c.dropRuns n (fun x => x.route == d.route && x.ep.toNat == ep)
  | .other => c
  | _ =>
    let eps := hubEps d.hub d.speed (distinctEps k.eps)
    let add := c.missingEps d eps
    let c := c.each (k.added.zip add) (fun c x => c.setBody x.1 (.ep (c.newEp n d.speed x.2)))
    let c := c.each (k.added.drop add.length) Chip.freeCtx
    let goneEps := (c.epsOf d.cid (fun b => b.ep.toNat % 16 != 0 && r.affects b.iface && !eps.any (fun e => e.addr == b.ep))).map
      (·.1)
    let c := c.each goneEps Chip.freeCtx
    let c := c.setSched n ((c.ports[n]).drop.sched.filter (fun s => !d.affected r s) ++ k.sched)
    let c := c.each eps (fun c e =>
      let ph := ((k.sched.find? (fun s => s.ep == e.addr)).map (·.phase)).getD 0
      c.updEps n d.cid (fun b => b.ep == e.addr) (fun b => b.set r d.speed e ph))
    let c := c.dropRuns n (fun x => x.route == d.route && x.ep.toNat % 16 != 0 && eps.any (fun e => e.addr == x.ep))
    let c := match r with
      | .config v => c.updDevBody n d.cid (fun b => { b with config := v, state := if v = 0 then 1 else 2 })
      | _ => c
    (c.updDev n d.route (fun x => x.set r k.eps k.ifs)).syncTree n

/-- The control transfer leaves the queue. -/
def Chip.popCtl (c : Chip) (n : Port) (k : Ctl) : Chip := c.updDrop n (fun x => { x with ctls := x.ctls.filter (fun y => !k.same y) })

/-- A translator's state, where it is not at rest. -/
def Drop.tt (d : Drop) (hub : BitVec 20) (port : Nat) : TtSt :=
  (d.tts.find? (fun t => t.hub == hub && t.port == port)).getD { hub := hub, port := port }

/-- Store a translator's state. -/
def Chip.putTt (c : Chip) (n : Port) (t : TtSt) : Chip :=
  let rest (x : Drop) : List TtSt := x.tts.filter (fun y => !(y.hub == t.hub && y.port == t.port))
  c.updDrop n (fun x => { x with tts := if t.fails = 0 ∧ t.stale = none then rest x else rest x ++ [t] })

/-- The stale buffer of a translator has been dealt with: splits to it go on (R189). -/
def Chip.ttCleared (c : Chip) (n : Port) (hub : BitVec 20) (port : Nat) : Chip :=
  c.putTt n { (c.ports[n]).drop.tt hub port with stale := none }

/-- What a control transfer that failed leaves: a DROP_CONTROL is answered TIMEOUT, a set-up request ends its binding (R208). -/
def Chip.ctlLost (c : Chip) (n : Port) (k : Ctl) : Chip :=
  match k.by_ with
  | .door q => c.answer q rTIMEOUT
  | .setup i =>
    match c.dev? n k.route with
    | none => c
    | some d => c.setupEnd n d i none
  | .status _ => c
  | .clearTt p => c.ttCleared n k.route p

/-- A control request that ran into a stage timeout (R192, 0x0408). -/
def Chip.ctlTimeout (c : Chip) (n : Port) (k : Ctl) : Chip := ((c.popCtl n k).each k.added Chip.freeCtx).ctlLost n k

/-- A control transfer has run: with its status stage acknowledged, or with a STALL. STATUS in a DROP_CONTROL's data: 0 the status
stage was acknowledged, 1 STALL (the manual gives no codes). -/
def Chip.ctlEnd (c : Chip) (n : Port) (k : Ctl) (stall : Bool) : Chip :=
  let c := c.popCtl n k
  match c.dev? n k.route with
  | none => c.answerOpt k.door? rBAD_ARG
  | some d =>
    match k.by_ with
    | .door q =>
      let c := if stall then c.each k.added Chip.freeCtx else c.resync n d k
      c.answer q rOK (bitOf stall :: k.inp.map (·.toNat)) (1 + k.inp.length)
    | .setup i => c.setupEnd n d i (if stall then none else some k.inp)
    | .status i =>
      match (c.bind? n k.route i).filter (fun b => b.pending.isNone && b.kind == kPRINTER), k.inp with
      | some b, x :: _ => if stall then c else c.printerStatus b x
      | _, _ => c
    | .clearTt p => c.ttCleared n k.route p

/-! ### Endpoint runs -/

/-- The run of an endpoint, made on first use. -/
def Drop.run (d : Drop) (route : BitVec 20) (ep : Byte) : EpRun :=
  (d.runs.find? (fun r => r.route == route && r.ep == ep)).getD
    { route := route, ep := ep, moved := 0, retries := 0, naks := 0, ping := false, mismatches := 0, stopped := false }

/-- Store a run. -/
def Chip.putRun (c : Chip) (n : Port) (r : EpRun) : Chip :=
  c.updDrop n (fun d => { d with runs := d.runs.filter (fun x => !(x.route == r.route && x.ep == r.ep)) ++ [r] })

/-- The EP context of an endpoint of a device. -/
def Chip.ep? (c : Chip) (cid : Nat) (ep : Byte) : Option (Nat × EpBody) := (c.epsOf cid (fun b => b.ep == ep)).head?

/-- The port engine holds the endpoints that a resynchronising request affects, from the sending of its SETUP on (R193). -/
def Drop.heldEp (d : Drop) (v : Dev) (b : EpBody) : Bool :=
  d.ctls.any (fun k => k.held && k.route == v.route && b.ep.toNat % 16 != 0 &&
    (match resyncOf k.setup with
     | .clearHalt e => b.ep.toNat == e
     | r => r.affects b.iface))

/-- An endpoint may receive a token: ACTIVE, not halted, not stopped, not held (R186, R187, R193). -/
def Chip.epOpen (c : Chip) (n : Port) (d : Dev) (b : EpBody) : Bool :=
  let x := (c.ports[n]).drop
  b.active && !b.halted && !(x.run d.route b.ep).stopped && !x.heldEp d b

/-- Its interface has a binding too, or it is a hub's (R206). -/
def Chip.tokenOk (c : Chip) (n : Port) (d : Dev) (b : EpBody) : Bool :=
  c.epOpen n d b && (d.hub || (c.bindOn n d b.iface).isSome)

/-- ENDPOINT_SLOW (0x040D). -/
def Chip.evSlow (c : Chip) (n : Port) (route : BitVec 20) (ep : Byte) (on : Bool) : Chip :=
  c.post (c.ev 0x040D 1 n.val [route.toNat, ep.toNat, bitOf on])

/-- The NAK budget in force: 1 while SLOW (R196). -/
def EpBody.budget (b : EpBody) : Nat := if b.slow then 1 else max 1 b.nakBudget

/-- The microframe of the grid (R198). -/
def Chip.microframe (c : Chip) : Nat := c.sei.time.toNat / 200000

/-- The microframe of a high-speed drop, the frame of another one (R198). -/
def Chip.slotNow (c : Chip) (n : Port) : Nat := c.sei.time.toNat / (if c.rootSpeed n = spHS then 200000 else 1600000)

/-- An endpoint has budget left in this microframe; a SLOW one is addressed once every 8 microframes (R196), its complete-splits
with their start-split (R188). -/
def Chip.paced (c : Chip) (n : Port) (d : Dev) (b : EpBody) : Bool :=
  let x := (c.ports[n]).drop
  let r := x.run d.route b.ep
  r.naks < b.budget &&
    (!b.slow || x.splits.any (fun s => s.route == d.route && s.ep == b.ep) || r.lastAt.all (fun m => m + 8 ≤ c.microframe))

/-- The stamp point of now: the tick, the positions of all belts, TIME_DEGRADED (R210, R221). -/
def Chip.stampNow (c : Chip) : XferStamp := ⟨c.sei.time, c.allPos c.sei.time, c.timeDegraded⟩

/-- A transfer or service interval of an endpoint ends, a failed one without data (R190); of a RAW binding's IN endpoint it waits for
its record (R218). -/
def Chip.xferEnds (c : Chip) (n : Port) (d : Dev) (b : EpBody) (bad : Bool) : Chip :=
  let r := (c.ports[n]).drop.run d.route b.ep
  let raw : Bool := b.ep.getLsbD 7 && (c.bindOn n d b.iface).any (fun k => k.kind == kRAW)
  c.putRun n { r with moved := 0, open_ := false, stamp := none, seq := none
                      ended := if raw then r.ended ++ [(r.stamp.getD c.stampNow, bad)] else r.ended }

/-- Data moved on an endpoint (R191, R196): bytes counted, SLOW cleared, the transfer at its end where it ends; a transfer's first
transaction is its stamp point (R210). -/
def Chip.epMoved (c : Chip) (n : Port) (d : Dev) (x : Nat × EpBody) (len : Nat) (flip ends : Bool) : Chip :=
  let b := x.2
  let c := c.engWrite n x.1 (.ep { b with toggle := if flip then !b.toggle else b.toggle, bytes := b.bytes + len,
                                          slow := b.slow && len == 0, slowRun := if len = 0 then b.slowRun else 0 })
  let c := if b.slow ∧ len ≠ 0 then c.evSlow n d.route b.ep false else c
  let r := (c.ports[n]).drop.run d.route b.ep
  let c := c.putRun n { r with moved := r.moved + len, retries := 0, ping := false, mismatches := 0, open_ := true
                               stamp := some (r.stamp.getD c.stampNow) }
  let c := if ends then c.xferEnds n d b false else c
  if len = 0 then c else c.active

/-- A NAK, or a NYET of an OUT endpoint (R186, R196). -/
def Chip.epNak (c : Chip) (n : Port) (d : Dev) (b : EpBody) (nak : Bool) : Chip :=
  let r := (c.ports[n]).drop.run d.route b.ep
  let out : Bool := !b.ep.getLsbD 7 && (b.xfer == 0 || b.xfer == 2) && d.speed == spHS
  c.putRun n { r with naks := if nak then r.naks + 1 else r.naks, ping := r.ping || out, open_ := true }

/-- The translator that a device's transactions go through on this drop (R188). -/
def Chip.ttHere (c : Chip) (n : Port) (d : Dev) : Option (BitVec 20 × Nat) :=
  if c.rootSpeed n = spHS then (c.ports[n]).drop.ttOf d.route d.speed else none

/-- Clear_TT_Buffer for an endpoint of a device, as USB 2.0 encodes it (PRESUMED, log entry 195). -/
def clearTtReq (d : Dev) (b : EpBody) (port : Nat) : List Byte :=
  let v := b.ep.toNat % 16 + 16 * d.addr + 2048 * (b.xfer % 4) + (if b.ep.getLsbD 7 then 32768 else 0)
  setupPkt 0x23 8 v (max 1 port) 0

/-- A failed split (R189): counted; the third in a row of any device of a translator leads to SPLIT_ERROR with the hub's route; a
control or bulk split leaves a stale buffer, which Clear_TT_Buffer clears before the next split to that translator. -/
def Chip.splitFailed (c : Chip) (n : Port) (d : Dev) (b : EpBody) (err : Nat) : Chip :=
  match c.ttHere n d with
  | none => c
  | some (hub, port) =>
    let c := c.incSat (.DROP_XFER_ERR n) F.DROP_XFER_ERR_SPLIT_ERR
    let t := (c.ports[n]).drop.tt hub port
    let async : Bool := b.xfer == 0 || b.xfer == 2
    let fresh : Bool := async && t.stale.isNone
    let c := c.putTt n { t with fails := if 3 ≤ t.fails + 1 then 0 else t.fails + 1
                                stale := if fresh then some (d.route, b.ep) else t.stale }
    let c := if fresh then
        c.pushCtl n { route := hub, by_ := .clearTt port, setup := clearTtReq d b port, out := [], span := ms 500,
                      deadline := c.clk.now + ms 500 }
      else c
    if 3 ≤ t.fails + 1 then (c.bump (.DROP_XFER_ERR n)).post (c.ev 0x0410 1 n.val [hub.toNat, port, err]) else c

/-- A split that worked ends the translator's run of failures. -/
def Chip.splitOk (c : Chip) (n : Port) (d : Dev) : Chip :=
  match c.ttHere n d with
  | none => c
  | some (hub, port) => c.putTt n { (c.ports[n]).drop.tt hub port with fails := 0 }

/-- A transaction that timed out or failed its CRC (R186): counted, retried up to 3 times, then the transfer ends and the
endpoint gets no further token. Of an isochronous one the service interval has failed (R190). -/
def Chip.epFailed (c : Chip) (n : Port) (d : Dev) (b : EpBody) (err : Nat) : Chip :=
  let c := c.incSat (.DROP_XFER_ERR n) F.DROP_XFER_ERR_CRC_ERR
  let c := c.splitFailed n d b err
  let r := (c.ports[n]).drop.run d.route b.ep
  if b.xfer = 1 then c.xferEnds n d b true
  else if r.retries < 3 then c.putRun n { r with retries := r.retries + 1, open_ := true }
  else (c.putRun n { r with moved := 0, retries := 0, stopped := true, open_ := false, stamp := none }).evAborted n d.route b.ep r.moved

/-! ### SOF stamps (R200) -/

/-- Belts in service, as a mask. -/
def Chip.beltMask (c : Chip) : Nat :=
  (List.finRange 16).foldl (fun a b => if c.bit (.BELT_CTL b) F.BELT_CTL_EN then a + 2 ^ b.val else a) 0

/-- The 112 bytes of the latest stamp, with the drop's offset at its boundary added to the frame number. -/
def Chip.stampBytes (c : Chip) (n : Port) : List Byte :=
  let t := c.sei.stampTime.toNat
  let off := (c.ports[n]).drop.stampOff
  let frame := (t / 1600000 + off) % 2048 + 2048 * ((t / 200000) % 8)
  leBytes 8 t ++ leBytes 2 frame ++ leBytes 2 c.sei.stampBelts ++ leBytes 4 0 ++
    (List.range 16).flatMap (fun b => leBytes 6 (c.sei.stampPos.getD b 0#48).toNat)

end Sys2Proof.Machine
end

