-- ==== Sys2Proof/Machine/DropWire.lean ====
section
/-! DEFINITION. What runs on a drop's wire (09): the schedule of a microframe (R184), SOF and its stamps (R198 to R200),
weirs (R196, R197), splits (R188, R189), transactions on control and data endpoints (R186, R190 to R193). -/

namespace Sys2Proof.Machine

/-! ### The microframe (R184, R198 to R200) -/

/-- The number of ports that the engine of a port carries (R204). -/
def Chip.portsCarried (c : Chip) (n : Port) : Nat :=
  match c.engineOf (.port n) with
  | none => 0
  | some e => 1 + (c.engines[e]).also.length

/-- Where an admitted endpoint falls due in microframe or frame `m`: its place in its splits, 0 for a whole transaction. With three
ports or more on an engine, periods below 8 microframes are served every 8 (R188, R204). -/
def Sched.dueAt (stretch : Bool) (m : Nat) (x : Sched) : Option Nat :=
  let p := if stretch && x.period < 8 then 8 else x.period
  (x.parts.find? (fun y => m % p == (x.phase + y.1) % p)).map (·.1)

/-- The periodic endpoints that microframe or frame `m` addresses, in the order of R184: isochronous, interrupt, splits, each in order
of admission; a high-bandwidth one with as many transactions as its MULT (R190). -/
def Chip.tokensFor (c : Chip) (n : Port) (m : Nat) : List Token :=
  let x := (c.ports[n]).drop
  let hs : Bool := c.rootSpeed n == spHS
  let stretch : Bool := hs && 3 ≤ c.portsCarried n
  let due := x.sched.filterMap (fun s =>
    match c.dev? n s.route, s.dueAt stretch m with
    | some d, some off => (c.ep? d.cid s.ep).map (fun e => (s.tt.isSome, e.2.xfer,
        ({ route := s.route, ep := s.ep, left := if hs && s.tt.isNone then max 1 e.2.mult else 1, off := off } : Token)))
    | _, _ => none)
  let pick (p : Bool × Nat × Token → Bool) : List Token := (due.filter p).map (·.2.2)
  pick (fun y => !y.1 && y.2.1 == 1) ++ pick (fun y => !y.1 && y.2.1 != 1) ++ pick (fun y => y.1)

/-- A periodic endpoint is held by a resynchronising request: its polls that fall due meanwhile are skipped (R193). -/
def Chip.tokenHeld (c : Chip) (n : Port) (t : Token) : Bool :=
  (c.dev? n t.route).any (fun d => (c.ep? d.cid t.ep).any (fun e => (c.ports[n]).drop.heldEp d e.2))

/-- Keep the turns of those that are still in a list, in their order, and put new ones behind them. -/
def renewRing {α : Type} (same : α → α → Bool) (ring now : List α) : List α :=
  ring.filter (fun x => now.any (same x)) ++ now.filter (fun x => !ring.any (same x))

/-- The same bulk endpoint. -/
def BulkTurn.same (x y : BulkTurn) : Bool := x.route == y.route && x.ep == y.ep

/-- The bulk endpoints with a transfer queued, in tree order (R184). -/
def Chip.bulkNow (c : Chip) (n : Port) : List BulkTurn :=
  (c.ports[n]).drop.devs.flatMap (fun d =>
    (c.epsOf d.cid (fun b => b.xfer == 2 && b.active && c.bulkQueued n d b)).map (fun e => { route := d.route, ep := e.2.ep }))

/-- The schedule of microframe or frame `m` (R184): its periodic endpoints, and the turns of control and bulk endpoints, which go on
from the one before. -/
def Chip.openSlot (c : Chip) (n : Port) (m : Nat) : Chip :=
  if c.sofRuns n ∧ c.root n = rsACTIVE then
    let ts := (c.tokensFor n m).filter (fun t => !c.tokenHeld n t)
    let bulk := c.bulkNow n
    c.updDrop n (fun d =>
      { d with slot := some m, tokens := ts, bulkRing := renewRing BulkTurn.same d.bulkRing bulk
               ctlRing := renewRing (· == ·) d.ctlRing (d.ctls.map (·.route)).eraseDups })
  else c.updDrop n (fun d => { d with slot := none, tokens := [], ctlRing := [], bulkRing := [] })

/-- NAK budgets at the end of a microframe (R196): an endpoint that spent its whole budget counts it, and is SLOW after
SLOW_LIMIT of them in a row. -/
def Chip.nakRound (c : Chip) (n : Port) : Chip :=
  let x := (c.ports[n]).drop
  let limit := c.get (.DROP_WEIR n) F.DROP_WEIR_SLOW_LIMIT
  let c := c.each x.devs (fun c d =>
    c.each (c.epsOf d.cid (fun b => b.xfer != 1)) (fun c e =>
      let b := e.2
      let spent : Bool := b.budget ≤ (x.run d.route b.ep).naks
      if spent && !b.slow then
        let k := sat 16 (b.slowRun + 1)
        let slow : Bool := limit ≤ k
        let c := c.engWrite n e.1 (.ep { b with slowRun := k, slow := slow })
        if slow then c.evSlow n d.route b.ep true else c
      else if !spent && b.slowRun ≠ 0 && !b.slow then c.engWrite n e.1 (.ep { b with slowRun := 0 })
      else c))
  c.updDrop n (fun d => { d with runs := d.runs.map (fun r => { r with naks := 0 }) })

/-- Isochronous service intervals that ended without their last packet have failed (R190). -/
def Chip.isoRound (c : Chip) (n : Port) : Chip :=
  c.each ((c.ports[n]).drop.runs.filter (·.seq.isSome)) (fun c r =>
    match c.dev? n r.route with
    | none => c
    | some d =>
      match c.ep? d.cid r.ep with
      | none => c
      | some e => c.xferEnds n d e.2 true)

/-- Weir changes reach the port engine (R197): one whose port epoch or EP reference no longer holds is culled (R142, R148). -/
def Chip.applyWeirs (c : Chip) (n : Port) : Chip :=
  let ws := (c.ports[n]).drop.weirs
  let c := c.updDrop n (fun d => { d with weirs := [] })
  c.each ws (fun c w =>
    let item := leBytes 4 (w.cid + 1048576 * w.gen.toNat) ++ leBytes 1 w.budget ++ leBytes 1 w.weight
    match epochVerdict w.epoch (c.ports[n]).epoch, (c.ctx w.cid).body with
    | some r, _ => c.cullDev 3 r w.epoch (c.ports[n]).epoch item
    | none, .ep b =>
      if c.refOk w.cid w.gen then c.engWrite n w.cid (.ep { b with nakBudget := w.budget, weight := w.weight })
      else c.cullDev 3 rROLE_CHANGED (w.gen.setWidth 16) ((c.ctx w.cid).gen.setWidth 16) item
    | none, _ => c.cullDev 3 rROLE_CHANGED (w.gen.setWidth 16) ((c.ctx w.cid).gen.setWidth 16) item)

/-- Seiche's stamp of a boundary tick: once per boundary, the belts in service and their positions at that tick (R200). -/
def Chip.takeStamp (c : Chip) (t : Nat) : Chip :=
  if c.sei.stampTime = BitVec.ofNat 64 t ∧ c.sei.stampPos ≠ [] then c
  else
    let at_ := BitVec.ofNat 64 t
    let pos : List Pos := (List.finRange 16).map (fun b =>
      if c.bit (.BELT_CTL b) F.BELT_CTL_EN then (c.sei.belts[b]).posAt at_ else 0#48)
    let mask := c.beltMask
    c.updSei (fun x => { x with stampTime := at_, stampPos := pos, stampBelts := mask })

/-- One stamp record to each stream of a drop that is due at microframe count `m` (R200); a stream whose reference no longer holds is
culled (R148). -/
def Chip.sendStamps (c : Chip) (n : Port) (m : Nat) : Chip :=
  c.each ((c.ports[n]).drop.stamps.filter (fun t => m % t.div == 0)) (fun c t =>
    match c.strmRef? t.cid t.gen with
    | none =>
      (c.updDrop n (fun d => { d with stamps := d.stamps.filter (fun x => x != t) })).cullDev 3 rROLE_CHANGED (t.gen.setWidth 16)
        ((c.ctx t.cid).gen.setWidth 16) (leBytes 4 (t.cid + 1048576 * t.gen.toNat))
    | some s =>
      let hdr : RecHdr := { time := c.sei.stampTime, kind := 0, rflags := 0, iface := 0, route := 0, bind := 0, belts := [],
                            pos := [] }
      (c.putRec s (parisonSrc n 0#20) hdr (c.stampBytes n) 0 true).2)

/-- SOF of a drop at a boundary (R198, R199): the frame number, its offset from the aligned one, the microframe index. -/
def Chip.sendSof (c : Chip) (n : Port) (t : Nat) : Chip :=
  let hs : Bool := c.rootSpeed n == spHS
  if hs || t % 1600000 = 0 then
    let aligned := t / 1600000 % 2048
    let d := (c.ports[n]).drop
    let base := d.frame0.getD aligned
    let frame := if d.aligned then aligned else (aligned + 2048 - base) % 2048
    let c := c.updDrop n (fun d => { d with lastSof := c.clk.now, frame0 := some base })
    let w := fset (fset (c.rd (.DROP_FRAME n)) F.DROP_FRAME_FRAME frame) F.DROP_FRAME_UFRAME
      (if hs then t / 200000 % 8 else 0)
    c.wr (.DROP_FRAME n) (fset w F.DROP_FRAME_OFFSET ((frame + 2048 - aligned) % 2048))
  else c

/-- The OFFSET that stamps add from this boundary on (R200): that of a drop that is not aligned. -/
def Chip.latchOffset (c : Chip) (n : Port) : Chip :=
  let off := c.get (.DROP_FRAME n) F.DROP_FRAME_OFFSET
  c.updDrop n (fun d => { d with stampOff := if d.aligned then 0 else off })

/-- A control transfer may start: a service's request carries the port epoch in force (R142). -/
def Chip.ctlEpoch (c : Chip) (n : Port) (k : Ctl) : Option (Nat × BitVec 16) :=
  if k.held then none
  else k.epoch.bind (fun v => (epochVerdict v (c.ports[n]).epoch).map (fun r => (r, v)))

/-- Transfers that a mark or a service asked for are culled where their port epoch (R142) or their DEV reference (R148) no longer
holds; a service's request has then failed. -/
def Chip.cullOuts (c : Chip) (n : Port) : Chip :=
  let x := (c.ports[n]).drop
  let cur := (c.ports[n]).epoch
  let gone := x.outs.filter (fun o => (epochVerdict o.epoch cur).isSome || !c.refOk o.cid o.gen)
  let c := c.updDrop n (fun d => { d with outs := d.outs.filter (fun o => !gone.contains o) })
  let c := c.each gone (fun c o =>
    match epochVerdict o.epoch cur with
    | some r => c.cullDev 3 r o.epoch cur o.data
    | none => c.cullDev 3 rROLE_CHANGED (o.gen.setWidth 16) ((c.ctx o.cid).gen.setWidth 16) o.data)
  c.each x.ctls (fun c k =>
    match c.ctlEpoch n k with
    | some (r, v) => (c.cullDev 3 r v cur k.setup).ctlTimeout n k
    | none => c)

/-- Periodic complete-splits that have had no answer by Y + 4 count as timeouts (R189). -/
def Chip.splitRound (c : Chip) (n : Port) (m : Nat) : Chip :=
  let late := (c.ports[n]).drop.splits.filter (fun s => !s.async && s.start + 4 < m)
  let c := c.updDrop n (fun d => { d with splits := d.splits.filter (fun s => !late.contains s) })
  c.each late (fun c s =>
    match c.dev? n s.route with
    | none => c
    | some d =>
      match c.ep? d.cid s.ep with
      | none => c
      | some e => c.epFailed n d e.2 0)

/-- The work of one grid boundary at tick `t` on a drop. -/
def Chip.boundary (c : Chip) (n : Port) (t : Nat) : Chip :=
  let m := t / 200000
  let c := (c.takeStamp t).updDrop n (fun d => { d with lastM := some m })
  let hs : Bool := c.rootSpeed n == spHS
  let c := if c.sofRuns n then c.sendSof n t else c
  let c := (c.latchOffset n).sendStamps n m
  let c := (((c.nakRound n).applyWeirs n).cullOuts n).splitRound n m
  if hs || t % 1600000 = 0 then (c.isoRound n).openSlot n (if hs then m else t / 1600000) else c

/-! ### What is addressed next (R184) -/

/-- The data stage of a control transfer reads from the device. -/
def Ctl.dataIn (k : Ctl) : Bool := 128 ≤ suType k.setup && suLength k.setup != 0

/-- A control transfer has a data stage. -/
def Ctl.hasData (k : Ctl) : Bool := k.dataIn || !k.out.isEmpty

/-- The half of endpoint 0 that a control transfer addresses next. -/
def Ctl.epNext (k : Ctl) : Byte :=
  let inp : Bool := match k.stage with
    | .setup => false
    | .data => k.dataIn
    | .status => !k.dataIn
  if inp then 0x80#8 else 0x00#8

/-- The outstanding split of an endpoint. -/
def Drop.splitOf (d : Drop) (route : BitVec 20) (ep : Byte) : Option Split :=
  d.splits.find? (fun s => s.route == route && s.ep == ep)

/-- An isochronous OUT endpoint uses start-splits only (R188). -/
def EpBody.isoOut (b : EpBody) : Bool := b.xfer == 1 && !b.ep.getLsbD 7

/-- A control or bulk endpoint behind a translator may be addressed (R188, R189): no stale buffer is there, and no other endpoint of
its kind has a split outstanding. -/
def Chip.asyncFree (c : Chip) (n : Port) (d : Dev) (b : EpBody) : Bool :=
  match c.ttHere n d with
  | none => true
  | some (hub, port) =>
    let x := (c.ports[n]).drop
    let ctl (e : Byte) : Bool := e.toNat % 16 == 0
    (x.tt hub port).stale.isNone &&
      x.splits.all (fun s => !(s.async && s.hub == hub && s.port == port && ctl s.ep == ctl b.ep) ||
        (s.route == d.route && s.ep == b.ep))

/-- A periodic endpoint that the microframe addresses can be given its token now. -/
def Chip.tokenLive (c : Chip) (n : Port) (t : Token) : Bool :=
  match c.dev? n t.route with
  | none => false
  | some d =>
    match c.ep? d.cid t.ep with
    | none => false
    | some e =>
      c.tokenOk n d e.2 && c.paced n d e.2 &&
      (match c.ttHere n d with
       | none => true
       | some (hub, port) =>
         let x := (c.ports[n]).drop
         if e.2.isoOut then
           (x.tt hub port).stale.isNone && (t.off = 0 || (x.run t.route t.ep).open_)
         else if t.off = 0 then (x.splitOf t.route t.ep).isNone && (x.tt hub port).stale.isNone
         else (x.splitOf t.route t.ep).isSome)

/-- The control transfer of a device that is under way, where its endpoint can be addressed now: not while endpoint 0 is stopped
(R186), nor with a port epoch that no longer holds (R142). -/
def Chip.ctlLive (c : Chip) (n : Port) (route : BitVec 20) : Option Ctl :=
  match (c.ports[n]).drop.ctls.find? (fun k => k.route == route), c.dev? n route with
  | some k, some d =>
    (match c.ep? d.cid k.epNext with
     | none => none
     | some e =>
       if c.paced n d e.2 && c.asyncFree n d e.2 && !((c.ports[n]).drop.run route 0x00#8).stopped && (c.ctlEpoch n k).isNone then some k
       else none)
  | _, _ => none

/-- A transfer that a mark asked for is for this endpoint. -/
def DropOut.to (o : DropOut) (d : Dev) (ep : Byte) : Bool := o.cid == d.cid && o.gen == d.gen && o.ep == ep

/-- The OUT endpoint of a transfer that a mark asked for (R255), where it can be addressed now: its interface has a binding (R206),
and its port epoch holds (R142). -/
def Chip.askedLive (c : Chip) (n : Port) (o : DropOut) : Option (BitVec 20 × Byte) :=
  match (c.ports[n]).drop.devs.find? (fun d => o.to d o.ep) with
  | none => none
  | some d =>
    match c.ep? d.cid o.ep with
    | none => none
    | some e =>
      if c.tokenOk n d e.2 && c.paced n d e.2 && c.asyncFree n d e.2 && (epochVerdict o.epoch (c.ports[n]).epoch).isNone then
        some (d.route, o.ep)
      else none

/-- A bulk endpoint can be addressed now. -/
def Chip.bulkLive (c : Chip) (n : Port) (t : BulkTurn) : Bool :=
  match c.dev? n t.route with
  | none => false
  | some d =>
    match c.ep? d.cid t.ep with
    | none => false
    | some e => c.tokenOk n d e.2 && c.bulkQueued n d e.2 && c.paced n d e.2 && c.asyncFree n d e.2

/-- Whose turn it is (R184): a periodic endpoint of the microframe, a control transfer, a transfer that a mark asked for, a bulk
endpoint. -/
inductive Turn where
  | periodic (t : Token) | control (k : Ctl) | asked | bulk (t : BulkTurn)
deriving DecidableEq, Repr

/-- The endpoint that the port engine addresses next (R184): the periodic ones of the microframe first, then control transfers, then
what a mark asked for (R255), then bulk. -/
def Chip.nextTurn (c : Chip) (n : Port) : Option (BitVec 20 × Byte × Turn) :=
  let x := (c.ports[n]).drop
  match x.tokens.find? (c.tokenLive n) with
  | some t => some (t.route, t.ep, .periodic t)
  | none =>
    match x.ctlRing.findSome? (c.ctlLive n) with
    | some k => some (k.route, k.epNext, .control k)
    | none =>
      match x.outs.findSome? (c.askedLive n) with
      | some (r, e) => some (r, e, .asked)
      | none => (x.bulkRing.find? (c.bulkLive n)).map (fun t => (t.route, t.ep, .bulk t))

/-! ### Data of OUT endpoints -/

/-- The transfer that a mark asked for on an endpoint. -/
def Chip.askedOut (c : Chip) (n : Port) (d : Dev) (b : EpBody) : Option (List Byte) :=
  ((c.ports[n]).drop.outs.find? (fun o => o.to d b.ep)).map (·.data)

/-- The bytes that an OUT endpoint's transfer has still to send (R121, R214, R215, R218, R255), from a RAW message behind its
endpoint byte. -/
def Chip.outRest (c : Chip) (n : Port) (d : Dev) (b : EpBody) : Nat :=
  match c.askedOut n d b with
  | some l => l.length
  | none =>
    match c.bindOn n d b.iface with
    | none => 0
    | some k =>
      match c.bindOut k with
      | none => 0
      | some o =>
        if k.kind = kCDC then o.waiting
        else if k.kind = kPRINTER then (if k.jobLen = 0 then 0 else min (c.svcBody k).job o.waiting)
        else
          match o.inbound with
          | (e :: m) :: _ => if e = b.ep then m.length else 0
          | _ => 0

/-- OUT data that was moved leaves the transfer a mark asked for, else the service's stream or job. -/
def Chip.outMoved (c : Chip) (n : Port) (d : Dev) (b : EpBody) (len : Nat) : Chip :=
  let mine (o : DropOut) : Bool := o.to d b.ep
  match c.askedOut n d b with
  | some l =>
    if l.length ≤ len then c.updDrop n (fun x => { x with outs := dropFirst mine x.outs })
    else c.updDrop n (fun x => { x with outs := updFirst mine (fun o => { o with data := o.data.drop len }) x.outs })
  | none =>
    match c.bindOn n d b.iface with
    | none => c
    | some k =>
      match c.bindOut k with
      | none => c
      | some o =>
        if k.kind = kCDC then c.updStrm o.id (fun s => { s with inbound := eatBytes len s.inbound })
        else if k.kind = kPRINTER then c.jobMoved k len
        else if k.kind = kRAW then
          c.updStrm o.id (fun s => { s with inbound :=
            match s.inbound with
            | (e :: m) :: t => if e != b.ep then (e :: m) :: t else if m.length ≤ len then t else (e :: m.drop len) :: t
            | l => l })
        else c

/-! ### Transactions -/

/-- The data PID of a toggle (R191). -/
def togglePid (t : Bool) : Pid := if t then .data1 else .data0

/-- The data packet that the port engine sent, or expected (R190, R191). -/
def Chip.wired (c : Chip) (n : Port) (p : Pid) (len : Nat) : Chip := c.updDrop n (fun x => { x with wire := some (p, len) })

/-- A transaction of a control transfer failed on the wire (R186): after the third retry the request is answered TIMEOUT, and
endpoint 0 gets no further token until the next DROP_CONTROL of the device (DESIGN CHOICE, log entry 239). -/
def Chip.ctlFail (c : Chip) (n : Port) (d : Dev) (x : Nat × EpBody) (k : Ctl) (err : Nat) : Chip :=
  let c := c.incSat (.DROP_XFER_ERR n) F.DROP_XFER_ERR_CRC_ERR
  let c := c.splitFailed n d x.2 err
  let r := (c.ports[n]).drop.run d.route x.2.ep
  if r.retries < 3 then c.putRun n { r with retries := r.retries + 1 }
  else
    let c := c.dropRuns n (fun y => y.route == d.route && y.ep.toNat % 16 == 0)
    let c := c.putRun n { (c.ports[n]).drop.run d.route 0x00#8 with stopped := true }
    (c.evAborted n d.route x.2.ep (k.moved + k.inp.length)).ctlTimeout n k

/-- The endpoint's next token is a PING (R186). -/
def Chip.pinging (c : Chip) (n : Port) (d : Dev) (b : EpBody) : Bool :=
  !b.ep.getLsbD 7 && ((c.ports[n]).drop.run d.route b.ep).ping

/-- A PING was acknowledged: data may be sent (R186). -/
def Chip.pingDone (c : Chip) (n : Port) (d : Dev) (b : EpBody) : Chip :=
  c.putRun n { (c.ports[n]).drop.run d.route b.ep with ping := false, retries := 0 }

/-- Change a control transfer; a new stage's timeout runs anew. -/
def Chip.ctlStage (c : Chip) (n : Port) (k : Ctl) (f : Ctl → Ctl) : Chip :=
  let now := c.clk.now
  let g (y : Ctl) : Ctl := if (f y).stage = y.stage then f y else { f y with deadline := now + y.span }
  c.updDrop n (fun x => { x with ctls := updFirst k.same g x.ctls })

/-- An IN whose PID does not match (R191): acknowledged and discarded, counted; the eighth in a row is reported. -/
def Chip.pidMismatch (c : Chip) (n : Port) (d : Dev) (b : EpBody) : Chip :=
  let c := c.incSat (.DROP_XFER_ERR n) F.DROP_XFER_ERR_TOGGLE_DROP
  let r := (c.ports[n]).drop.run d.route b.ep
  let c := c.putRun n { r with mismatches := r.mismatches + 1 }
  if r.mismatches + 1 = 8 then
    (c.bump (.DROP_XFER_ERR n)).post (c.ev 0x040E 1 n.val [d.route.toNat, b.ep.toNat, bitOf b.toggle])
  else c

/-- A STALL halts the endpoint (R186). -/
def Chip.epStall (c : Chip) (n : Port) (d : Dev) (x : Nat × EpBody) (moved : Nat) : Chip :=
  let c := c.engWrite n x.1 (.ep { x.2 with halted := true })
  let c := c.dropRuns n (fun y => y.route == d.route && y.ep == x.2.ep)
  c.post (c.ev 0x040C 1 n.val [d.route.toNat, x.2.ep.toNat, moved])

/-- One transaction of a control transfer on endpoint 0: SETUP, data and status stages (R186, R191 to R193). A STALL ends the
request; the halt that it leaves on endpoint 0 ends with the next SETUP (DESIGN CHOICE, log entry 197). -/
def Chip.ctlTransaction (c : Chip) (n : Port) (d : Dev) (x : Nat × EpBody) (k : Ctl) (r : TxResult) : Chip :=
  let b := x.2
  let inEp := b.ep.getLsbD 7
  let done (c : Chip) (stall : Bool) : Chip :=
    (c.dropRuns n (fun y => y.route == d.route && y.ep.toNat % 16 == 0)).ctlEnd n k stall
  match r with
  | .timeout => c.ctlFail n d x k 0
  | .crcError => c.ctlFail n d x k 1
  | .nak => (c.splitOk n d).epNak n d b true
  | .nyet => (c.splitOk n d).epNak n d b false
  | .stall => if k.stage = .setup then c else done ((c.splitOk n d).epStall n d x (k.moved + k.inp.length)) true
  | .ack bytes pid =>
    let c := c.splitOk n d
    match k.stage with
    | .setup =>
      let c := c.updEps n d.cid (fun b => b.ep.toNat % 16 == 0) (fun b => { b with toggle := true, halted := false })
      let c := c.putRun n { (c.ports[n]).drop.run d.route b.ep with retries := 0 }
      (c.wired n .data0 8).ctlStage n k (fun y => { y with stage := if k.hasData then .data else .status })
    | .data =>
      if c.pinging n d b then c.pingDone n d b
      else if inEp then
        let c := c.wired n (togglePid b.toggle) bytes.length
        if pid ≠ togglePid b.toggle then c.pidMismatch n d b
        else
          let got := (k.inp ++ bytes).take 1024
          let last : Bool := bytes.length < b.mps || suLength k.setup ≤ got.length
          (c.epMoved n d x bytes.length true last).ctlStage n k (fun y =>
            { y with inp := got, stage := if last then .status else .data })
      else
        let len := min b.mps (k.out.length - k.moved)
        let last : Bool := k.out.length ≤ k.moved + len
        ((c.wired n (togglePid b.toggle) len).epMoved n d x len true last).ctlStage n k (fun y =>
          { y with moved := k.moved + len, stage := if last then .status else .data })
    | .status =>
      if c.pinging n d b then c.pingDone n d b
      else
        let c := c.wired n .data1 0
        if inEp && pid != .data1 then c.pidMismatch n d b else done (c.epMoved n d x 0 true true) false

/-- The number of a data PID in the sequence that ends with DATA0 (R190). -/
def pidIndex : Pid → Nat
  | .data0 => 0
  | .data1 => 1
  | .data2 => 2
  | .mdata => 3

/-- The PID that follows in an isochronous IN interval (R190). -/
def pidAfter : Pid → Option Pid
  | .data2 => some .data1
  | .data1 => some .data0
  | _ => none

/-- A packet of an isochronous IN interval (R190): the sequence of its MULT, from the PID that names how many follow. -/
def Chip.isoIn (c : Chip) (n : Port) (d : Dev) (x : Nat × EpBody) (len : Nat) (pid : Pid) : Chip :=
  let b := x.2
  let r := (c.ports[n]).drop.run d.route b.ep
  let ok : Bool := match r.seq with
    | none => pidIndex pid < max 1 b.mult
    | some p => pid == p
  let c := (c.wired n (r.seq.getD pid) len).epMoved n d x len false (ok && pid == .data0)
  if !ok then c.xferEnds n d b true
  else if pid = .data0 then c
  else c.putRun n { (c.ports[n]).drop.run d.route b.ep with seq := pidAfter pid }

/-- The PID of an isochronous OUT packet (R190): MDATA before the last, then by the number of packets. -/
def isoOutPid (sent : Nat) (last : Bool) : Pid :=
  if !last then .mdata else if sent = 0 then .data0 else if sent = 1 then .data1 else .data2

/-- The bytes of an isochronous OUT packet: at most the packet size; behind a translator at most 188 in each of the microframes of its
start-splits (R188), `off` the one since the first. -/
def Chip.isoOutLen (c : Chip) (n : Port) (d : Dev) (b : EpBody) (off : Nat) : Nat :=
  if (c.ttHere n d).isSome then min (min 188 (b.mps - 188 * off)) (c.outRest n d b) else min b.mps (c.outRest n d b)

/-- A packet of an isochronous OUT interval (R190): one without data where the queue holds none; an interval carries one message
(DESIGN CHOICE, log entry 241). `left` transactions are left, `off` is
the place in its splits. -/
def Chip.isoOutPacket (c : Chip) (n : Port) (d : Dev) (x : Nat × EpBody) (left off : Nat) : Chip :=
  let b := x.2
  let rest := c.outRest n d b
  let len := c.isoOutLen n d b off
  let last : Bool := rest ≤ len || left ≤ 1
  let c := c.wired n (if (c.ttHere n d).isSome then .data0 else isoOutPid (max 1 b.mult - left) last) len
  (c.epMoved n d x len false (rest ≤ len)).outMoved n d b len

/-- An IN transfer ends with this packet (R186, R212, R218): at a short one, at MAX_LEN of a RAW binding, at each report of an
interrupt endpoint that a keyboard wedge, a CDC-ACM service or a hub's poll reads. -/
def Chip.inEnds (c : Chip) (n : Port) (d : Dev) (b : EpBody) (len : Nat) : Bool :=
  len < b.mps || (match c.bindOn n d b.iface with
    | none => true
    | some k =>
      if k.kind = kRAW then
        c.getPos (.SVC_PROF_CTL k.prof) F.SVC_PROF_CTL_MAX_LEN ≤ ((c.ports[n]).drop.run d.route b.ep).moved + len
      else b.xfer == 3)

/-- A STALL on a printer's bulk endpoint asks for GET_PORT_STATUS at once (R216). -/
def Chip.askStatus (c : Chip) (n : Port) (d : Dev) (b : EpBody) : Chip :=
  match (c.bindOn n d b.iface).filter (fun k => k.kind == kPRINTER) with
  | none => c
  | some k =>
    if (c.ports[n]).drop.ctls.any (fun y => y.route == d.route && y.by_ == .status k.iface) then c
    else c.svcCtl k (.status k.iface) (portStatusReq k.iface) []

/-- One transaction of a data endpoint (R186, R190, R191, R196); `left` and `off` are those of its token. -/
def Chip.dataTransaction (c : Chip) (n : Port) (d : Dev) (x : Nat × EpBody) (left off : Nat) (r : TxResult) : Chip :=
  let b := x.2
  let inEp := b.ep.getLsbD 7
  match r with
  | .ack bytes pid =>
    let c := c.splitOk n d
    if b.xfer = 1 then (if inEp then c.isoIn n d x bytes.length pid else c.isoOutPacket n d x left off)
    else if c.pinging n d b then c.pingDone n d b
    else
      let p := togglePid b.toggle
      if inEp then
        let c := c.wired n p bytes.length
        if pid ≠ p then c.pidMismatch n d b else c.epMoved n d x bytes.length true (c.inEnds n d b bytes.length)
      else
        let rest := c.outRest n d b
        let len := min b.mps rest
        ((c.wired n p len).epMoved n d x len true (rest ≤ len)).outMoved n d b len
  | .nak => (c.splitOk n d).epNak n d b true
  | .nyet => (c.splitOk n d).epNak n d b false
  | .stall => ((c.splitOk n d).epStall n d x ((c.ports[n]).drop.run d.route b.ep).moved).askStatus n d b
  | .timeout => c.epFailed n d b 0
  | .crcError => c.epFailed n d b 1

/-! ### Splits (R188, R189) -/

/-- What a transaction is on the wire: a whole one, a start-split that its hub took, a complete-split to be repeated, one that carried
a part of the data, the complete-split that ends the transaction. -/
inductive SplitStep where
  | whole | start | again | part | finish
deriving DecidableEq, Repr

/-- The place of a transaction in its split: of a periodic IN, MDATA says that a later complete-split carries more (R188). -/
def Chip.splitStep (c : Chip) (n : Port) (d : Dev) (b : EpBody) (r : TxResult) : SplitStep :=
  if (c.ttHere n d).isNone || b.isoOut then .whole
  else
    match (c.ports[n]).drop.splitOf d.route b.ep, r with
    | none, .ack _ _ => .start
    | none, _ => .whole
    | some s, .ack _ .mdata => if !s.async && c.microframe < s.start + 4 then .part else .finish
    | some s, .nyet => if !s.async && s.start + 4 ≤ c.microframe then .finish else .again
    | some _, _ => .finish

/-- The result that counts: a complete-split still unanswered at Y + 4 is a timeout, and so is a start-split that the hub neither
took nor refused with NAK. -/
def Chip.splitResult (c : Chip) (n : Port) (d : Dev) (b : EpBody) (r : TxResult) : TxResult :=
  if (c.ttHere n d).isNone || b.isoOut then r
  else
    match (c.ports[n]).drop.splitOf d.route b.ep, r with
    | none, .nyet => .timeout
    | none, .stall => .timeout
    | some _, .nyet => .timeout
    | _, r => r

/-- The split of an endpoint starts, or is no longer outstanding. -/
def Chip.splitMark (c : Chip) (n : Port) (d : Dev) (b : EpBody) (st : SplitStep) : Chip :=
  let m := c.microframe
  match st, c.ttHere n d with
  | .start, some (hub, port) =>
    let s : Split := { route := d.route, ep := b.ep, hub := hub, port := port, start := m, async := b.xfer == 0 || b.xfer == 2 }
    c.updDrop n (fun x => { x with splits := x.splits ++ [s] })
  | .finish, _ => c.updDrop n (fun x => { x with splits := x.splits.filter (fun s => !(s.route == d.route && s.ep == b.ep)) })
  | _, _ => c

/-- A part of a periodic IN's data came with a complete-split (R188). -/
def Chip.partMoved (c : Chip) (n : Port) (d : Dev) (x : Nat × EpBody) (r : TxResult) : Chip :=
  match r with
  | .ack bytes _ => (c.splitOk n d).epMoved n d x bytes.length false false
  | _ => c

/-! ### Turns (R184) -/

/-- A periodic endpoint has had its transaction: those before it have not run and are not run later; a high-bandwidth one goes on
while packets of its interval are to come (R190). -/
def Chip.periodicTurn (c : Chip) (n : Port) (t : Token) (more : Bool) : Chip :=
  let rest (l : List Token) : List Token := (l.dropWhile (fun y => y != t)).tail
  let again : List Token := if more && 1 < t.left then [{ t with left := t.left - 1 }] else []
  c.updDrop n (fun x => { x with tokens := again ++ rest x.tokens })

/-- The bytes of deficit that a weight unit gives per turn: 512, the largest bulk packet (DESIGN CHOICE, log entry 198). -/
def bulkQuantum : Nat := 512

/-- A bulk endpoint has moved `len` bytes, or none (R184): its turn goes on while its deficit holds another packet. -/
def Chip.bulkTurn (c : Chip) (n : Port) (t : BulkTurn) (b : EpBody) (moved : Option Nat) : Chip :=
  let rest (l : List BulkTurn) : List BulkTurn := l.filter (fun y => !t.same y)
  let before := if t.on then t.deficit else t.deficit + bulkQuantum * max 1 b.weight
  match moved with
  | none => c.updDrop n (fun x => { x with bulkRing := rest x.bulkRing ++ [{ t with deficit := 0, on := false }] })
  | some k =>
    let left := before - k
    if b.mps ≤ left then c.updDrop n (fun x => { x with bulkRing := { t with deficit := left, on := true } :: rest x.bulkRing })
    else c.updDrop n (fun x => { x with bulkRing := rest x.bulkRing ++ [{ t with deficit := left, on := false }] })

/-- A control endpoint has had a transaction (R184): its turn goes on within a stage. -/
def Chip.controlTurn (c : Chip) (n : Port) (k : Ctl) (acked : Bool) : Chip :=
  let stays : Bool := acked && (c.ports[n]).drop.ctls.any (fun y => k.same y && y.stage == k.stage)
  if stays then c
  else c.updDrop n (fun x => { x with ctlRing := x.ctlRing.filter (· != k.route) ++ [k.route] })

/-- More packets of a high-bandwidth interval are to come (R190): of an IN unless DATA0 or a short packet came, of an OUT while its
queue, of an isochronous one its message (log entry 241), holds data. -/
def Chip.moreToCome (c : Chip) (n : Port) (d : Dev) (b : EpBody) (r : TxResult) : Bool :=
  match r with
  | .ack bytes pid =>
    if !b.ep.getLsbD 7 then (if b.xfer = 1 then ((c.ports[n]).drop.run d.route b.ep).open_ else c.outRest n d b != 0)
    else if b.xfer = 1 then pid != .data0
    else b.mps ≤ bytes.length
  | _ => false

/-- The bytes that a transaction moved. -/
def Chip.bytesOf (c : Chip) (n : Port) (d : Dev) (b : EpBody) (r : TxResult) : Option Nat :=
  match r with
  | .ack bytes _ => some (if b.ep.getLsbD 7 then bytes.length else min b.mps (c.outRest n d b))
  | _ => none

/-- A transaction of the endpoint whose turn it is (R184): its place in a split, its effect, and the turns after it. -/
def Chip.transact (c : Chip) (n : Port) (d : Dev) (x : Nat × EpBody) (turn : Turn) (r : TxResult) : Chip :=
  let b := x.2
  let c := (c.touchBy (.port n) d.cid false).touchBy (.port n) x.1 false
  let st := c.splitStep n d b r
  let whole : Bool := st == .whole || st == .finish
  let r := c.splitResult n d b r
  let len := if whole then c.bytesOf n d b r else none
  let c := if st = .part then c.partMoved n d x r else c
  let c := c.putRun n { (c.ports[n]).drop.run d.route b.ep with lastAt := some c.microframe }
  let c := c.splitMark n d b st
  match turn with
  | .control k =>
    let c := c.ctlStage n k (fun y => { y with held := true })
    let c := c.updDrop n (fun y => { y with tokens := y.tokens.filter (fun t => !c.tokenHeld n t) })
    let c := if whole then c.ctlTransaction n d x { k with held := true } r else c
    c.controlTurn n k (len.isSome && whole)
  | .periodic t =>
    let c := if whole then c.dataTransaction n d x t.left t.off r else c
    c.periodicTurn n t (c.moreToCome n d b r)
  | .asked => if whole then c.dataTransaction n d x 1 0 r else c
  | .bulk t => (if whole then c.dataTransaction n d x 1 0 r else c).bulkTurn n t b len

end Sys2Proof.Machine
end

