-- ==== Sys2Proof/Machine/EngOps.lean ====
section
/-! DEFINITION. Engines (01, 17): roles and their moves (R28, R204), quarantine (R347), the registers of a basin's engines,
and the ladders that no other state holds (R350, R351). -/

namespace Sys2Proof.Machine

/-! ### Ladders (R350, R351) -/

/-- The open recovery window of a ladder on a resource. -/
def Chip.ladder? (c : Chip) (l i : Nat) : Option LadderWin :=
  c.ladders.find? (fun w => w.ladder == l && w.index == i && c.clk.now < w.ends)

/-- A fault opens or moves a ladder's window at a rung. -/
def Chip.openLadder (c : Chip) (l i rung span code : Nat) : Chip :=
  { c with ladders := c.ladders.filter (fun w => !(w.ladder == l && w.index == i)) ++ [⟨l, i, rung, c.clk.now + span, code⟩] }

/-- A ladder's window closes. -/
def Chip.closeLadder (c : Chip) (l i : Nat) : Chip :=
  { c with ladders := c.ladders.filter (fun w => !(w.ladder == l && w.index == i)) }

/-! ### The engines of a basin -/

/-- The engines of a basin, by local number. -/
def basinEngines (b : Nat) : List Engine := (List.range 32).map (engineAt b)

/-- Engines in service that satisfy `p`. -/
def Chip.enginesWith (c : Chip) (b : Nat) (p : EngineSt → Bool) : List Engine :=
  (basinEngines b).filter (fun e => !(c.engines[e]).quar && p (c.engines[e]))

/-- The spares of a basin. -/
def Chip.spares (c : Chip) (b : Nat) : List Engine := c.enginesWith b (fun x => x.role == .spare)
/-- The pool engines of a basin. -/
def Chip.poolOf (c : Chip) (b : Nat) : List Engine := c.enginesWith b (fun x => x.role == .pool)
/-- The port engines of a basin. -/
def Chip.portEngines (c : Chip) (b : Nat) : List Engine :=
  c.enginesWith b (fun x => match x.role with | .port _ => true | _ => false)

/-- ENG_BASIN follows the engines: one advance of SEQ per change (17). -/
def Chip.syncBasin (c : Chip) (b : Basin) : Chip :=
  let w := fset (fset (c.rd (.ENG_BASIN b)) F.ENG_BASIN_SPARES (min 2 (c.spares b.val).length)) F.ENG_BASIN_WORKING
    (c.enginesWith b.val (fun _ => true)).length
  if w = c.rd (.ENG_BASIN b) then c else (c.wr (.ENG_BASIN b) w).bump (.ENG_BASIN b)

/-- Codes of a role in a role map. -/
def Role.code : Role → Nat
  | .port _ => 0
  | .arming _ => 1
  | .pool => 2
  | .spare => 3
  | .none => 4

/-- The ports a role carries. -/
def Role.ports : Role → List Port
  | .port n => [n]
  | _ => []

/-- An engine's entry in the role map (R28): the role's code, and above it one bit for each port of its basin that it serves (DESIGN
CHOICE, log entry 188). -/
def EngineSt.mapCode (x : EngineSt) : Nat :=
  x.role.code + 8 * (x.role.ports ++ x.also).foldl (fun a n => a ||| 2 ^ (n.val % 6)) 0

/-- An engine takes a role (R28): its epoch increments (R140). -/
def Chip.giveRole (c : Chip) (e : Engine) (r : Role) (also : List Port) : Chip :=
  (c.updEng e (fun x => { x with role := r, also := also })).bumpEngine e

/-- Bulk figure of a drop in tenths of MB/s and whether its schedule is stretched (R204): ports on its engine, pool
engines. -/
def dropFigure (k pool : Nat) : Nat × Bool :=
  if k = 0 then (0, true)
  else if pool = 0 then (200 / k, 3 ≤ k)
  else if pool = 1 then (266, false)
  else (530, false)

/-- The figure of a drop now. -/
def Chip.dropFig (c : Chip) (n : Port) : Nat × Bool := dropFigure (c.portsCarried n) (c.poolOf (n.val / 6)).length

/-- Ports go to the port engines that carry fewest (R204); the engine the last one went to. -/
def Chip.spread (c : Chip) (b : Nat) (ps : List Port) : Option Engine × Chip :=
  ps.foldl (fun (r : Option Engine × Chip) n =>
    let c := r.2
    let es := c.portEngines b
    let load (e : Engine) : Nat := (c.engines[e]).also.length
    match es.find? (fun e => es.all (fun f => load e ≤ load f)) with
    | none => (none, c)
    | some e => (some e, (c.updEng e (fun x => { x with also := x.also ++ [n] })).bumpEngine e)) (none, c)

/-- A role without a spare goes to another engine of the basin (R204): from the pool, else a port engine for the arming
role, whose ports spread, else the ports spread. The successor. -/
def Chip.rehome (c : Chip) (b : Nat) (r : Role) (also : List Port) : Option Engine × Chip :=
  match r with
  | .port n =>
    (match c.poolOf b with
     | p :: _ => (some p, c.giveRole p r also)
     | [] => c.spread b (n :: also))
  | .arming _ =>
    (match c.poolOf b, c.portEngines b with
     | p :: _, _ => (some p, c.giveRole p r [])
     | [], p :: _ =>
       let ps := (c.engines[p]).role.ports ++ (c.engines[p]).also
       (some p, ((c.giveRole p r []).spread b ps).2)
     | [], [] => (none, c))
  | _ => (none, c)

/-- The role of a quarantined engine moves (R28, R204, R347 steps 3 and 5): ENGINE_QUARANTINED, SPARES_EXHAUSTED,
DROP_DEGRADED. A hand-over message whose engine epoch is no longer the engine's is culled (R142). -/
def Chip.takeOver (c : Chip) (e : Engine) : Chip :=
  match (c.engines[e]).handing with
  | none => c
  | some (cause, lost) =>
    let cur := (c.engines[e]).epoch
    match epochVerdict (c.engines[e]).handEpoch cur with
    | some res =>
      (c.updEng e (fun x => { x with handing := none })).cullDev 3 res (c.engines[e]).handEpoch cur (leBytes 2 e.val)
    | none =>
    let b : Basin := Fin.ofNat 16 (e.val / 32)
    let r := (c.engines[e]).role
    let also := (c.engines[e]).also
    let code := (c.engines[e]).mapCode
    let drops := ((List.range 6).map (fun i => (Fin.ofNat 96 (6 * b.val + i) : Port))).filter (fun n =>
      (c.ports[n]).mode == .drop)
    let own := r.ports ++ also
    let figs := drops.map (fun n => (n, dropFigure (if own.contains n then own.length else c.portsCarried n)
      ((c.poolOf b.val).length + (if r == .pool then 1 else 0))))
    let had := (c.spares b.val).length
    let inService : Bool := match r with | .spare => false | .none => false | _ => true
    let c := c.updEng e (fun x => { x with role := .none, also := [], handing := none })
    let c := if inService then c.bumpEngine e else c
    let (succ, c) : Option Engine × Chip :=
      if !inService then (none, c)
      else match c.spares b.val with
        | s :: _ => (some s, c.giveRole s r also)
        | [] => c.rehome b.val r also
    let c := c.syncBasin b
    let c := c.postFault .engine (c.ev 0x0181 2 e.val ([e.val, code, cause, (succ.map (·.val)).getD 0xFFFF] ++ lost))
    let c := if had ≠ 0 ∧ (c.spares b.val).isEmpty then c.postFault .spares (c.ev 0x0182 0 b.val [b.val]) else c
    c.each figs (fun c x =>
      let f := c.dropFig x.1
      if f = x.2 then c
      else c.post (c.ev 0x0412 1 x.1.val [c.portsCarried x.1, (c.poolOf b.val).length, f.1 / 10]))

/-- The records that an engine held open are closed as CULLET (R347 step 4): those of the bindings whose SERVICE contexts
stand in its cache. -/
def Chip.cullEngine (c : Chip) (e : Engine) (lost : List Nat) : Chip :=
  let cids := (c.engines[e]).cache.map (·.1) ++ lost
  let keys := (c.svc.binds.filter (fun b => b.pending.isNone && cids.contains b.cid)).map Bind.key
  c.culletRecs pfDETACH (fun r => keys.contains r.owner)

/-- An engine is quarantined (R347 steps 1 to 4): no new task, epoch, cache written back, records closed. Its role moves at
the take-over. -/
def Chip.quarantine (c : Chip) (e : Engine) (cause : Nat) (lost : List Nat) : Chip :=
  let b : Basin := Fin.ofNat 16 (e.val / 32)
  let c := c.cullEngine e lost
  let c := c.updEng e (fun x => { x with quar := true, overruns := [], cache := [], handing := some (cause, lost) })
  let c := c.bumpEngine e
  let c := c.updEng e (fun x => { x with handEpoch := x.epoch })
  let c := c.wr (.ENG_QUAR b) (c.rd (.ENG_QUAR b) ||| (1#32 <<< (e.val % 32)))
  c.syncBasin b

end Sys2Proof.Machine
end

