-- ==== Sys2Proof/Machine/SeicheOps.lean ====
section
/-! DEFINITION. Operations of Seiche (12): the time flags and SEI_UNCERT, outfalls, belts, marks and their actions, arming,
inlets. -/

namespace Sys2Proof.Machine

/-! ### Time (R245 to R247) -/

/-- TIME advances: firmware has released the Seiche clock and the device is not in Deep sleep or Off (R245, R246). -/
def Chip.seiRuns (c : Chip) : Bool := c.sei.running && c.pwr.st != .deep && c.pwr.st != .off

/-- The bound that SEI_UNCERT holds at this moment (R247): under XTAL it grows by 10 ppm of the time in holdover and by
20 ppm of the time on REF_IN; in the slew back it stands. -/
def Chip.uncert (c : Chip) : Nat :=
  let u := c.get .SEI_UNCERT F.SEI_UNCERT_UNCERT
  if c.bit .SEI_STATUS F.SEI_STATUS_DEG_XTAL then
    let ppm := if c.bit .CLK_STATUS F.CLK_STATUS_HOLDOVER then 10
      else if c.bit .CLK_STATUS F.CLK_STATUS_XTAL_OK then 0 else 20
    sat 32 (u + ((c.clk.now - c.sei.uncertFrom) * ppm + 999999) / 1000000)
  else u

/-- SEI_UNCERT takes the bound reached, and grows from here. -/
def Chip.settleUncert (c : Chip) : Chip :=
  let u := c.uncert
  let now := c.clk.now
  (c.setF .SEI_UNCERT F.SEI_UNCERT_UNCERT u).updSei (fun x => { x with uncertFrom := now })

/-- The causes of TIME_DEGRADED take new values; TIME_STATE when the flag is set or cleared (R247). -/
def Chip.degrade (c : Chip) (xtal deep : Bool) : Chip :=
  let c := c.settleUncert
  let was := c.timeDegraded
  let w := fset (fset (c.rd .SEI_STATUS) F.SEI_STATUS_DEG_XTAL (bitOf xtal)) F.SEI_STATUS_DEG_DEEP (bitOf deep)
  let w := fset w F.SEI_STATUS_TIME_DEGRADED (bitOf (xtal || deep))
  let c := if w = c.rd .SEI_STATUS then c else (c.wr .SEI_STATUS w).bump .SEI_STATUS
  if was = (xtal || deep) then c
  else
    let e := c.ev 0x0709 0 0 [bitOf xtal + 2 * bitOf deep, c.uncert]
    if xtal || deep then c.postFault .time e else c.post e

/-- The XTAL cause alone. -/
def Chip.degXtal (c : Chip) (on : Bool) : Chip := c.degrade on (c.bit .SEI_STATUS F.SEI_STATUS_DEG_DEEP)

/-! ### Outfalls (R264) -/

/-- The level of an outfall's ball: L, or a pulse whose end is ahead. -/
def Chip.outLevel (c : Chip) (o : Io) : Bool :=
  let x := c.sei.outfalls[o]
  x.latch || c.sei.time < x.pulseEnd

/-- An action on an outfall at a tick; a CLEAR of that tick wins. -/
def OutfallSt.act (x : OutfallSt) (t : BitVec 64) (op : OutOp) (width : Nat) : OutfallSt :=
  match op with
  | .clear => { latch := false, pulseEnd := 0#64, clearAt := some t }
  | .set => if x.clearAt = some t then x else { x with latch := true }
  | .pulse =>
    let e := t + BitVec.ofNat 64 (us width)
    if x.clearAt = some t then x else { x with pulseEnd := if x.pulseEnd < e then e else x.pulseEnd }

/-! ### Marks (R254 to R263) -/

/-- MSTATE codes (R254). -/
def msPENDING : Nat := 1
def msARMED : Nat := 2
def msFIRED : Nat := 3
def msFIRED_LATE : Nat := 4
def msEXPIRED : Nat := 5
def msCANCELLED : Nat := 6

/-- DIR of a mark admits travel in a direction: 1 forward, 2 reverse, 3 either. -/
def MarkBody.admits (m : MarkBody) (fwd : Bool) : Bool := if fwd then m.dir % 2 == 1 else 2 ≤ m.dir

/-- ACTION ends at an outfall ball. -/
def MarkBody.outfall (m : MarkBody) : Bool := 1 ≤ m.action && m.action ≤ 3
/-- MFLAGS bit 0. -/
def MarkBody.autoFree (m : MarkBody) : Bool := m.mflags.getLsbD 0
/-- MFLAGS bit 1. -/
def MarkBody.quiet (m : MarkBody) : Bool := m.mflags.getLsbD 1

/-- How far a mark lies ahead of a position, negative behind it; half the range lies behind (R376). -/
def MarkBody.ahead (m : MarkBody) (p : Pos) : Int := (m.pos - p).toInt

/-- The distance of a mark from a position (R259), by serial arithmetic. -/
def MarkBody.distance (m : MarkBody) (p : Pos) : Int :=
  if m.dir = 1 then m.ahead p else if m.dir = 2 then -m.ahead p else ((m.ahead p).natAbs : Int)

/-- The lateness of a mark at a position (R262): the count difference in the mark's direction. -/
def MarkBody.lateness (m : MarkBody) (p : Pos) : Int :=
  if m.dir = 1 then -m.ahead p else if m.dir = 2 then m.ahead p else ((m.ahead p).natAbs : Int)

/-- The mark in a context. -/
def Chip.mark? (c : Chip) (cid : Nat) (gen : Byte) : Option MarkBody :=
  if c.refOk cid gen then (match (c.ctx cid).body with | .mark m => some m | _ => none) else none

/-- The arming engine of a belt writes a mark's BODY (R254). -/
def Chip.setMark (c : Chip) (cid : Nat) (m : MarkBody) : Chip :=
  (c.setBody cid (.mark m)).touchBy (.arming m.belt) cid true

/-- Write MSTATE of a mark that is still there. -/
def Chip.mstate (c : Chip) (cid : Nat) (gen : Byte) (st : Nat) : Chip :=
  match c.mark? cid gen with
  | none => c
  | some m => c.setMark cid { m with mstate := st }

/-- A mark reaches a last state; AUTO_FREE frees its context (R257). -/
def Chip.endMark (c : Chip) (cid : Nat) (gen : Byte) (st : Nat) : Chip :=
  match c.mark? cid gen with
  | none => c
  | some m => (c.setMark cid { m with mstate := st }).when m.autoFree (fun c => c.freeCtx cid)

/-- The marks of a belt in the Pond, by CID, with their GEN. -/
def Chip.beltMarks (c : Chip) (b : Belt) : List (Nat × Byte × MarkBody) :=
  c.pond.ctxs.filterMap (fun x =>
    if x.2.typ = tMARK ∧ !x.2.poisoned then
      (match x.2.body with
       | .mark m => if m.belt = b then some (x.1, x.2.gen, m) else none
       | _ => none)
    else none)

/-- A mark event (12): SRC_KIND 6, the belt as INDEX, the tick it carries. -/
def Chip.evMark (c : Chip) (code : Nat) (m : MarkBody) (cid : Nat) (gen : Byte) (t : BitVec 64) (p : Pos) (x : Nat) : Event :=
  { c.ev code 6 m.belt.val [bindRef cid gen, p.toNat, x] with time := t }

/-- Post an event of a mark, with the result of its action if it has one, to the creating door (R137, R257). -/
def Chip.postMark (c : Chip) (m : MarkBody) (e : Event) (r : Option Nat) : Chip :=
  c.postOwn (some m.door) (match r with | none => e | some v => e.withResult v)

/-- The template a mark refers to (R148, R255), with its reference. -/
def Chip.template? (c : Chip) (arg : Word) : Option Template :=
  let cid := (arg.extractLsb' 0 20).toNat
  if c.refOk cid (arg.extractLsb' 20 8) then
    (match (c.ctx cid).body with | .template t => some t | _ => none)
  else none

/-- A mark's internal message that fails its check (R142): to the device cullet queue; the mark's result. -/
def Chip.cullMark (c : Chip) (m : MarkBody) (res : Nat) (v cur : BitVec 16) : Option Nat × Chip :=
  (some res, c.cullDev 3 res v cur m.layout)

/-- A carried epoch checked at the point of action (R142). -/
def Chip.markEpoch (c : Chip) (kind index : Nat) (v : BitVec 16) : Option (Nat × BitVec 16 × BitVec 16) :=
  (epochVerdict v (c.epochOf kind index)).map (fun r => (r, v, c.epochOf kind index))

/-- The action of a mark that does not end at an outfall (R255): its result where it has one. -/
def Chip.markActs (c : Chip) (m : MarkBody) : Option Nat × Chip :=
  if m.action = 4 ∨ m.action = 5 then
    let g : BitVec 16 := (m.arg.extractLsb' 20 8).setWidth 16
    match c.template? m.arg with
    | none => c.cullMark m rROLE_CHANGED g ((c.ctx (m.arg.extractLsb' 0 20).toNat).gen.setWidth 16)
    | some (.line n a obj prio value) =>
      match (c.markEpoch 1 n.val m.portEpoch).orElse (fun _ => c.markEpoch 3 (nodeIndex n.val a) m.nodeEpoch) with
      | some (r, v, cur) => c.cullMark m r v cur
      | none =>
        let u : Ulp := { write := true, obj := obj, value := value, prio := prio, origin := .mark, sentAt := none,
                         late := false }
        if (c.node? n a).isNone then (some rBAD_ARG, c)
        else match c.queueUlp n a u with
        | some c => (none, c)
        | none => (some rWAIT, c)
    | some (.drop n dev gen ep data) =>
      match c.markEpoch 1 n.val m.portEpoch with
      | some (r, v, cur) => c.cullMark m r v cur
      | none =>
        if c.refOk dev.toNat gen then
          (none, c.updDrop n (fun x => { x with outs := x.outs ++ [⟨m.portEpoch, dev.toNat, gen, ep, data⟩] }))
        else c.cullMark m rROLE_CHANGED (gen.setWidth 16) ((c.ctx dev.toNat).gen.setWidth 16)
  else (none, c)

/-- The outfall action of a mark at a tick (R255, R264). -/
def Chip.markOutfall (c : Chip) (m : MarkBody) (t : BitVec 64) : Chip :=
  let op : OutOp := if m.action = 1 then .set else if m.action = 2 then .clear else .pulse
  c.updOutfall (Fin.ofNat 32 (m.arg.toNat % 32)) (fun o => o.act t op (m.arg.toNat / 256))

/-- MARK_FIRED of a mark (R257, R263): posted unless QUIET and without a result; a TRUNK_EVENT's action is the event. -/
def Chip.fired (c : Chip) (m : MarkBody) (cid : Nat) (gen : Byte) (t : BitVec 64) (delayed : Bool) (r : Option Nat) : Chip :=
  if m.quiet && r.isNone && m.action != 6 then c
  else c.postMark m (c.evMark 0x0701 m cid gen t m.pos (bitOf delayed + 2 * bitOf m.autoFree)) r

/-- MARK_EXPIRED of a mark with its cause, and its last state (R257, R262). -/
def Chip.expire (c : Chip) (m : MarkBody) (cid : Nat) (gen : Byte) (cause : Nat) : Chip :=
  (c.postMark m (c.evMark 0x0703 m cid gen c.sei.time m.pos cause) none).endMark cid gen msEXPIRED

/-! ### Belts (R248 to R253) -/

/-- A belt in service. -/
def Chip.beltEn (c : Chip) (b : Belt) : Bool := c.bit (.BELT_CTL b) F.BELT_CTL_EN
/-- POS_VALID of a belt (R253). -/
def Chip.posValid (c : Chip) (b : Belt) : Bool := c.bit (.BELT_STATUS b) F.BELT_STATUS_POS_VALID

/-- A level of A, B or Z that has held for so many samples is accepted (R248); in Sleep FILT does not apply (R270). -/
def Chip.shaftHeld (c : Chip) (b : Belt) (held : Nat) : Bool :=
  c.pwr.st == .sleep || c.get (.BELT_CTL b) F.BELT_CTL_FILT ≤ held

/-- A level of an inlet that has held for so many samples is accepted (R266): FILT is in units of 100 ns. -/
def Chip.inletHeld (c : Chip) (i : Io) (held : Nat) : Bool := 160 * c.get (.INLET_CTL i) F.INLET_CTL_FILT ≤ held

/-- The arming engine of a basin works: the basin out of reset, the device awake (R258). -/
def Chip.armUp (c : Chip) (b : Belt) : Bool := !(c.basins[b]).inReset && !c.dozing && c.sei.running

/-- ARMED of BELT_STATUS: slots loaded. -/
def Chip.syncArmed (c : Chip) (b : Belt) : Chip :=
  c.setSt (.BELT_STATUS b) F.BELT_STATUS_ARMED (c.sei.belts[b]).slots.length

/-- A belt event (12). -/
def Chip.evBelt (c : Chip) (code : Nat) (b : Belt) (payload : List Nat) : Event := c.ev code 6 b.val payload

/-- Unload the slots of a belt that have not matched: their marks are PENDING again (R258). -/
def Chip.unloadBelt (c : Chip) (b : Belt) : Chip :=
  let out := (c.sei.belts[b]).slots.filter (fun x => x.hit.isNone)
  let c := c.updBelt b (fun x => { x with slots := x.slots.filter (fun s => s.hit.isSome) })
  (c.each out (fun c s => c.mstate s.cid s.gen msPENDING)).syncArmed b

/-- RATE restarts with the span: at STOPPED and at EN (R251). -/
def Chip.stopBelt (c : Chip) (b : Belt) : Chip :=
  let c := (c.wr (.BELT_RATE b) 0#32).setSt (.BELT_STATUS b) F.BELT_STATUS_STOPPED 1
  c.updBelt b (fun x => { x with edges := [], started := false })

/-- A write of BELT_CTL takes effect (R251, R252, R258): EN cleared stops the belt without an event and unloads its slots,
EN set restarts the span, ZCHK set takes a new residue. -/
def Chip.beltCtl (c : Chip) (b : Belt) (old : Word) : Chip :=
  let en := c.beltEn b
  let was := fget old F.BELT_CTL_EN != 0
  let c := if was && !en then (c.stopBelt b).unloadBelt b else c
  let c := if en && !was then c.updBelt b (fun x => { x with edges := [] }) else c
  if c.bit (.BELT_CTL b) F.BELT_CTL_ZCHK && fget old F.BELT_CTL_ZCHK = 0 then c.updBelt b (fun x => { x with zRes := none })
  else c

/-- Whether a jump of the position crosses a mark in the mark's direction (R265). -/
def MarkBody.jumped (m : MarkBody) (old new : Pos) : Bool :=
  let d := (new - old).toInt
  let fwd := (m.pos - old).toInt
  (m.admits true && 0 < fwd && fwd ≤ d) || (m.admits false && fwd < 0 && d ≤ fwd)

/-- A position set at this tick (R253, R265). -/
def Chip.setBeltPos (c : Chip) (b : Belt) (p : Pos) : Chip :=
  let old := (c.sei.belts[b]).pos
  let c := c.unloadBelt b
  let now := c.sei.time
  let c := c.updBelt b (fun x => { x with pos := p, past := x.pastNow now, zRes := none })
  let c := c.setSt (.BELT_STATUS b) F.BELT_STATUS_POS_VALID 1
  let late := (c.sei.belts[b]).late.map (·.cid)
  let gone := (c.beltMarks b).filter (fun x =>
    x.2.2.mstate == msPENDING && !late.contains x.1 && x.2.2.jumped old p)
  c.each gone (fun c x => c.expire x.2.2 x.1 x.2.1 4)

/-! ### Late marks (R258, R260, R262) -/

/-- A mark reached unarmed goes to R262. -/
def Chip.handLate (c : Chip) (b : Belt) (cid : Nat) (gen : Byte) (cause : Nat) : Chip :=
  c.updBelt b (fun x => { x with late := x.late ++ [⟨cid, gen, cause⟩] })

/-- Where a late mark's POS lies in the direction of travel, from the position on (R262). -/
def Chip.lateKey (c : Chip) (b : Belt) (x : Late) : Int :=
  let d : Int := ((c.mark? x.cid x.gen).map (fun m => m.ahead (c.sei.belts[b]).pos)).getD 0
  if c.bit (.BELT_STATUS b) F.BELT_STATUS_DIR then -d else d

/-- The late mark whose turn it is: the first by POS in the direction of travel (R262; log entry 119). -/
def Chip.lateFirst (c : Chip) (b : Belt) : Option Late :=
  (c.sei.belts[b]).late.foldl (fun a y =>
    match a with
    | none => some y
    | some x => if c.lateKey b y < c.lateKey b x then some y else some x) none

/-- Insert into a list sorted by distance, then CID. -/
def insertNear (x : Int × Nat × Byte × MarkBody) : List (Int × Nat × Byte × MarkBody) → List (Int × Nat × Byte × MarkBody)
  | [] => [x]
  | y :: t => if x.1 < y.1 ∨ (x.1 = y.1 ∧ x.2.1 < y.2.1) then x :: y :: t else y :: insertNear x t

/-- The PENDING and ARMED marks within reach of a belt, nearest first, ties by lower CID (R259). -/
def Chip.inReach (c : Chip) (b : Belt) : List (Int × Nat × Byte × MarkBody) :=
  let p := (c.sei.belts[b]).pos
  let far : Int := c.getPos (.BELT_ARM b) F.BELT_ARM_ARM_HORIZON
  let held := (c.sei.belts[b]).late.map (·.cid) ++ (c.sei.belts[b]).tasks.map (·.cid) ++
    ((c.sei.belts[b]).slots.filter (fun s => s.hit.isSome)).map (·.cid) ++ c.sei.fresh.map (·.cid)
  let ms := (c.beltMarks b).filter (fun x =>
    (x.2.2.mstate == msPENDING || x.2.2.mstate == msARMED) && !held.contains x.1 &&
    1 ≤ x.2.2.distance p && x.2.2.distance p ≤ far)
  ms.foldl (fun l x => insertNear (x.2.2.distance p, x) l) []

/-- Step 1 of an arming cycle: matched slots are released and their marks FIRED (R258). -/
def Chip.armRelease (c : Chip) (b : Belt) : Chip :=
  let due := (c.sei.belts[b]).slots.filter (fun s => s.hit.isSome && (s.acted || !s.mark.outfall))
  let c := c.updBelt b (fun x =>
    { x with slots := x.slots.filter (fun s => !(s.hit.isSome && (s.acted || !s.mark.outfall)))
             tasks := x.tasks ++ due.filter (fun s => !s.acted) })
  c.each due (fun c s => if s.acted then c.endMark s.cid s.gen msFIRED else c.mstate s.cid s.gen msFIRED)

/-- A mark's completing edge is among the crossed ones (R254); the first such tells whether arming was stopped (R260). -/
def MarkBody.crossedBy (m : MarkBody) (l : List (Pos × Bool × Bool)) : Option Bool :=
  (l.find? (fun e => e.1 == m.pos && m.admits e.2.1)).map (·.2.2)

/-- Step 2: marks crossed unarmed since the previous cycle are late, with their cause (R258, R260). A mark that has lost a slot to
nearer ones within reach is a load miss (DEDUCED, log entry 244). -/
def Chip.armCrossed (c : Chip) (b : Belt) : Chip :=
  let x := c.sei.belts[b]
  let held := x.late.map (·.cid) ++ x.slots.map (·.cid) ++ x.tasks.map (·.cid) ++ c.sei.fresh.map (·.cid)
  let ms := (c.beltMarks b).filter (fun m =>
    m.2.2.mstate == msPENDING && !held.contains m.1 && (m.2.2.crossedBy x.crossed).isSome)
  c.each ms (fun c m =>
    c.handLate b m.1 m.2.1
      (if m.2.2.crossedBy x.crossed = some true then 2 else if x.passed.contains m.1 then 0 else 1))

/-- Steps 3 and 4: the arming set of the 64 nearest; marks outside it are unloaded, its members loaded (R258, R259). A slot
whose mark's context was lost stays, to fire from its copy (R163). -/
def Chip.armLoad (c : Chip) (b : Belt) : Chip :=
  let l := c.inReach b
  let set := l.take 64
  let slots := (c.sei.belts[b]).slots
  let room := set.take (64 - (slots.filter (fun s => s.hit.isSome || s.lost)).length)
  let ids := room.map (fun x => x.2.1)
  let out := slots.filter (fun s => s.hit.isNone && !s.lost && !ids.contains s.cid)
  let new := room.filter (fun x => !slots.any (fun s => s.cid == x.2.1 && !s.lost))
  let kept := (l.filter (fun y => !ids.contains y.2.1)).map (fun y => y.2.1)
  let had (i : Nat) : Bool := (c.sei.belts[b]).displaced.contains i || slots.any (fun s => s.cid == i)
  let c := c.updBelt b (fun x =>
    { x with slots := x.slots.filter (fun s => s.hit.isSome || s.lost || ids.contains s.cid) ++
               new.map (fun y => ⟨y.2.1, y.2.2.1, y.2.2.2, none, false, false, false⟩)
             passed := kept.filter (fun i => !had i), displaced := kept.filter had })
  let c := c.each out (fun c s => c.mstate s.cid s.gen msPENDING)
  c.each new (fun c y => c.mstate y.2.1 y.2.2.1 msARMED)

/-! ### Inlets (R266 to R268) -/

/-- The belt of an inlet, if it stamps positions. -/
def Chip.inBelt (c : Chip) (i : Io) : Option Belt :=
  if c.bit (.INLET_CTL i) F.INLET_CTL_BELT_EN then some (Fin.ofNat 16 (c.get (.INLET_CTL i) F.INLET_CTL_BELT)) else none

/-- The basin that makes an inlet's records. -/
def Chip.inBasin (c : Chip) (i : Io) : Basin := (c.inBelt i).getD 0

/-- An edge of an inlet with its stamp. -/
def Chip.inStamp (c : Chip) (i : Io) (lead : Bool) : InEdge :=
  let b := c.inBelt i
  let noPos : Bool := match b with | none => true | some b => !c.posValid b
  { lead := lead, tick := c.sei.time, pos := b.map (fun b => (c.sei.belts[b]).pos)
    iflags := 2 * bitOf noPos + 4 * bitOf (c.pwr.st == .sleep) + 8 * bitOf c.timeDegraded
    counted := (b.map (fun b => (c.sei.belts[b]).counted)).getD 0
    turns := (b.map (fun b => (c.sei.belts[b]).turns)).getD 0 }

/-- The 40 bytes of an inlet record (R268). -/
def InReport.bytes (r : InReport) : List Byte :=
  let pos (e : Option InEdge) : Nat := ((e.bind (·.pos)).map (·.toNat)).getD 0
  let tick (e : Option InEdge) : Nat := (e.map (·.tick.toNat)).getD 0
  let len := if r.length < -2147483648 then -2147483648 else if 2147483647 < r.length then 2147483647 else r.length
  leBytes 1 r.case_ ++ leBytes 1 r.iflags ++ leBytes 2 0 ++ leBytes 4 (BitVec.ofInt 32 len).toNat ++
    leBytes 6 (pos r.lead) ++ leBytes 2 0 ++ leBytes 6 (pos r.trail) ++ leBytes 2 0 ++
    leBytes 8 (tick r.lead) ++ leBytes 8 (tick r.trail)

/-- A report is made, and its record where INLET_REC_EN asks for one (R267, R268). -/
def Chip.inReport (c : Chip) (i : Io) (r : InReport) : Chip :=
  let c := c.updInlet i (fun x => { x with report := some r })
  let first := r.lead.orElse (fun _ => r.trail)
  if !c.bit .SEI_CTL F.SEI_CTL_INLET_REC_EN then c
  else match c.strm? (BitVec.ofNat 16 (c.get .SEI_CTL F.SEI_CTL_INLET_STREAM)) with
  | none => c
  | some s =>
    let p := first.bind (·.pos)
    let hdr : RecHdr :=
      { time := (first.map (·.tick)).getD 0#64, kind := 7, rflags := (r.iflags / 8 % 2) * 8, iface := 0, route := i.val,
        bind := 0, belts := if p.isSome then (c.inBelt i).toList.map (·.val) else [], pos := p.toList }
    (c.putRec s 0 hdr r.bytes).2

/-- A pair or an orphan edge as a report (R267). -/
def inReportOf (lead trail : Option InEdge) : InReport :=
  match lead, trail with
  | some l, some t =>
    let len : Int := match l.pos, t.pos with | some p, some q => (q - p).toInt | _, _ => 0
    let fl := (l.iflags ||| t.iflags) ||| bitOf (l.turns != t.turns)
    if l.counted = t.counted then ⟨1, fl, 0, lead, trail⟩ else ⟨0, fl, len, lead, trail⟩
  | some l, none => ⟨3, l.iflags, 0, lead, none⟩
  | none, some t => ⟨2, t.iflags, 0, none, trail⟩
  | none, none => ⟨0, 0, 0, none, none⟩

/-- The basin takes one edge of an inlet (R267). -/
def Chip.inTake (c : Chip) (i : Io) (e : InEdge) : Chip :=
  let op := (c.sei.inlets[i]).open_
  if e.lead then
    let c := c.updInlet i (fun x => { x with open_ := some e, jammed := false })
    if op.isSome then c.inReport i (inReportOf op none) else c
  else
    let c := c.updInlet i (fun x => { x with open_ := none, jammed := false })
    c.inReport i (inReportOf op (some e))

/-- The basin takes the edges that wait, once it runs and the device is awake (R266, R270). -/
def Chip.inDrain (c : Chip) (i : Io) : Chip :=
  if (c.basins[c.inBasin i]).inReset || c.dozing then c
  else
    let es := (c.sei.inlets[i]).edges
    c.each es (fun c e => c.inTake i e) |>.updInlet i (fun x => { x with edges := [] })

/-- Every inlet's waiting edges. -/
def Chip.inDrainAll (c : Chip) : Chip := c.each (List.finRange 32) Chip.inDrain

/-- The exit from Deep sleep (R266, R267): a leading edge left open makes its ORPHAN_START, and every inlet is armed anew. -/
def Chip.inletsAnew (c : Chip) : Chip :=
  c.each (List.finRange 32) (fun c i =>
    let op := (c.sei.inlets[i]).open_
    let c := c.updInlet i (fun x => { x with open_ := none, jammed := false })
    if op.isSome then c.inReport i (inReportOf op none) else c)

/-- INLET_JAM of the inlets that watch a belt: once per blocked run that exceeds JAM × 16 counts (R267). -/
def Chip.jams (c : Chip) (b : Belt) : Chip :=
  let p := (c.sei.belts[b]).pos
  c.each (List.finRange 32) (fun c i =>
    let x := c.sei.inlets[i]
    let jam := c.get (.INLET_CTL i) F.INLET_CTL_JAM
    match x.open_.bind (·.pos) with
    | none => c
    | some l =>
      if c.inBelt i == some b && jam != 0 && !x.jammed && 16 * jam < (p - l).toInt.natAbs then
        (c.post (c.ev 0x0704 0 i.val [l.toNat])).updInlet i (fun x => { x with jammed := true })
      else c)

/-- A write of INLET_CTL takes effect: EN set arms the inlet anew (R266). -/
def Chip.inletCtl (c : Chip) (i : Io) (old : Word) : Chip :=
  if c.bit (.INLET_CTL i) F.INLET_CTL_EN && fget old F.INLET_CTL_EN = 0 then
    c.updInlet i (fun x => { x with edges := [], open_ := none, jammed := false })
  else c

end Sys2Proof.Machine
end

