-- ==== Sys2Proof/Machine/Wire.lean ====
section
/-! DEFINITION. The bytes on the wire (R9): events (R137), response parts (R136), parison words (R201), record headers (R210),
TTP frames and their Ethernet frames (R106, R107, R110). -/

namespace Sys2Proof.Machine

/-! ### Events and responses -/

/-- The widths in bytes of an event's payload values, for the codes whose tables give them: TARN_EXIT, EVENTS_LOST, HANDOFF_DONE,
TX_STATUS, TARN_ENTER, BOOT_REPORT, the mark events, OBJ_REPORT. -/
def payloadWidths (code : Nat) : Option (List Nat) :=
  match code with
  | 0x0147 => some [4, 4, 2]
  | 0x0162 => some [4, 4, 3]
  | 0x0902 => some [8, 1, 1, 1]
  | 0x050C => some [1, 1, 4]
  | 0x0146 => some [1]
  | 0x0901 => some [2, 8, 1]
  | 0x0701 => some [4, 6, 1]
  | 0x0702 => some [4, 6, 1]
  | 0x0703 => some [4, 6, 1]
  | 0x0505 => some (List.replicate 11 1)
  | _ => none

/-- Values in little-endian order, each at its width (R9). -/
def packed (ws l : List Nat) : List Byte := (ws.zip l).flatMap (fun x => leBytes x.1 x.2)

/-- The 11 PAYLOAD bytes of an event. Where the manual gives no widths the layout is the part's own (Config.packPayload). -/
def Event.payloadBytes (e : Event) : List Byte :=
  match payloadWidths e.code with
  | some ws => bytesAt (packed ws e.payload) 0 11
  | none => bytesAt (Config.packPayload e.code e.payload) 0 11

/-- The 32 bytes of an event (R137). -/
def Event.layout (e : Event) : List Byte :=
  leBytes 2 e.code ++ leBytes 1 e.flags ++ leBytes 1 e.srcKind ++ leBytes 4 e.seq.toNat ++ leBytes 8 e.time.toNat ++
    leBytes 2 e.index ++ leBytes 2 e.epoch.toNat ++ leBytes 1 e.result ++ e.payloadBytes

/-- The 64 bytes of a cullet entry (R143). -/
def Cullet.layout (x : Cullet) : List Byte :=
  leBytes 1 x.source ++ leBytes 1 x.result ++ leBytes 2 x.expected.toNat ++ leBytes 2 x.current.toNat ++ leBytes 2 0 ++
    leBytes 8 x.time.toNat ++ bytesAt x.item 0 48

/-- The 96 bytes of a log entry (R89); the digest stands in its published order (R9). -/
def LogEntry.layout (e : LogEntry) : List Byte :=
  leBytes 4 e.seq.toNat ++ leBytes 1 e.kind ++ leBytes 1 e.meas ++ leBytes 2 e.detail ++ leBytes 8 e.time.toNat ++
    leBytes 8 e.version.toNat ++ digestBytes e.digest ++ List.replicate 24 0#8

/-- The widths in bytes of a response's data values by opcode, where the manual states them: those of the first values, and the one
pattern that the rest repeats, if it has one. A register, a power data object and a CID of CTX_LIST are words of 4 bytes, TIME and
a tick 8, STATUS of a line answer 1 (DEDUCED, log entry 243). -/
def dataWidths (op : BitVec 16) (res : Nat) : List Nat × List Nat :=
  match op.toNat with
  | 0x0102 => (if res = rOK then [2] else [], [])
  | 0x0106 | 0x0108 | 0x0901 | 0x0902 | 0x0903 | 0x0904 | 0x0A01 | 0x040B | 0x0508 | 0x0509 => ([], [1])
  | 0x0605 | 0x0302 | 0x0304 | 0x0305 | 0x0306 | 0x0220 | 0x0201 | 0x0203 | 0x0310 | 0x0311 | 0x0315 | 0x0503 | 0x050C
  | 0x0B12 | 0x0180 | 0x0A03 | 0x0B11 => ([], [4])
  | 0x0608 => ([], [2, 2])
  | 0x0B01 => ([], if res = rOK then [4] else [])
  | 0x0109 => ([], [2])
  | 0x0602 => ([], [4, 3, 1])
  | 0x0604 => (List.replicate 32 1, [])
  | 0x0703 => (List.replicate 24 1, [])
  | 0x0708 => ([8, 4, 4], [])
  | 0x070A => ([8], [])
  | 0x0140 => ([4, 4, 4, 4], [])
  | 0x0221 | 0x0501 | 0x0401 => ([4, 4], [])
  | _ => ([], [])

/-- The data bytes of a response; the values whose widths the manual does not give are laid out as the part has them
(Config.packData). -/
def RspPart.dataBytes (p : RspPart) : List Byte :=
  let w := dataWidths p.opcode p.result
  let rest := p.data.drop w.1.length
  packed w.1 p.data ++
    (if w.2.isEmpty then Config.packData p.opcode rest else packed ((List.replicate rest.length w.2).flatten) rest)

/-- The 64 bytes of a response part (R136). -/
def RspPart.layout (p : RspPart) : List Byte :=
  leBytes 2 p.opcode.toNat ++ leBytes 2 p.tag.toNat ++ leBytes 1 p.result ++ leBytes 1 p.parts ++ leBytes 1 p.part ++ leBytes 1 0 ++
    leBytes 2 p.tgtEpoch.toNat ++ leBytes 2 p.dataLen ++ leBytes 4 p.reqNum ++
    bytesAt ((bytesAt p.dataBytes (48 * p.part) 48).take p.dataLen) 0 48

/-! ### Records -/

/-- STATE of a parison word (R201). -/
def RecSt.code : RecSt → Nat
  | .opened => 1
  | .closed => 2
  | .cullet => 3

/-- LENGTH of a parison: the body bytes, 48 and the data (R210), or the data alone. While a record is open it is 0: the producer
writes the word anew at close (DESIGN CHOICE, log entry 168). -/
def Rec.bodyLen (r : Rec) : Nat := (if r.raw then 0 else 48) + r.data.length

/-- The 8-byte parison word (R201). -/
def Rec.parison (r : Rec) : List Byte :=
  leBytes 1 r.st.code ++ leBytes 1 r.flags ++ leBytes 2 r.src ++ leBytes 4 (if r.st = .opened then 0 else r.bodyLen)

/-- The 48-byte record header (R210). -/
def RecHdr.layout (h : RecHdr) (dataLen : Nat) : List Byte :=
  leBytes 8 h.time.toNat ++ leBytes 1 h.kind ++ leBytes 1 h.rflags ++ leBytes 1 h.iface ++ leBytes 1 h.belts.length ++
    leBytes 4 h.route ++ leBytes 4 h.bind ++
    leBytes 2 ((List.range 4).foldl (fun a k => a + h.belts.getD k 0 * 16 ^ k) 0) ++ leBytes 2 dataLen ++
    (List.range 4).flatMap (fun k => leBytes 6 (h.pos.getD k 0#48).toNat)

/-- A record's body, padded with zeros to whole 8-byte words. -/
def Rec.body (r : Rec) : List Byte :=
  bytesAt ((if r.raw then [] else r.hdr.layout r.data.length) ++ r.data) 0 (r.size - 8)

/-! ### TTP frames (R110) -/

/-- The 16-byte TTP header. -/
def ttpHeader (ver typ id seq epoch length flags rest : Nat) : List Byte :=
  leBytes 1 ver ++ leBytes 1 typ ++ leBytes 2 id ++ leBytes 4 seq ++ leBytes 2 epoch ++ leBytes 2 length ++ leBytes 2 flags ++
    leBytes 2 rest

/-- The payload bytes of a sent frame. -/
def TxFrame.payload (f : TxFrame) : List Byte :=
  match f.body with
  | .bytes b => b
  | .rsps l => l.flatMap RspPart.layout
  | .events l => l.flatMap Event.layout
  | .records l first => bytesAt (l.flatMap Rec.body) first f.length

/-- The Ethernet payload of a sent frame: the TTP header, the payload, the CRC-32C over both and zeros up to 46 bytes (R110), or
the PTP message (R123). -/
def TxFrame.ttpBytes (f : TxFrame) : List Byte :=
  if f.typ = 0 then f.payload
  else
    let b := ttpHeader 1 f.typ f.id f.seq.toNat f.epoch.toNat f.length f.flags 0 ++ f.payload
    let b := b ++ leBytes 4 (crc32c b).toNat
    b ++ List.replicate (46 - b.length) 0#8

/-- The Ethernet frame without its FCS (R106, R107): destination, source, the lane's 802.1Q tag, EtherType, payload. -/
def TxFrame.layout (f : TxFrame) : List Byte :=
  beBytes 6 f.dst.toNat ++ beBytes 6 Config.mac.toNat ++
    (match f.tag with
     | some t => beBytes 2 0x8100 ++ beBytes 2 t.toNat
     | none => []) ++ beBytes 2 f.etherType.toNat ++ f.ttpBytes

/-- The PTP multicast address (R107). -/
def ptpMac : BitVec 48 := 0x011B19000000#48

/-! ### PTP messages (R123, R124), laid out as IEEE 1588-2019 has them (PRESUMED, log entry 169) -/

/-- messageType of the messages that a port sends. -/
def pkSYNC : Nat := 0
def pkFOLLOW_UP : Nat := 8
def pkDELAY_RESP : Nat := 9
def pkANNOUNCE : Nat := 11

/-- grandmasterIdentity and clockIdentity: the MAC address with 0xFFFE after its third octet. -/
def clockIdentity : BitVec 64 := Config.mac.extractLsb' 24 24 ++ 0xFFFE#16 ++ Config.mac.extractLsb' 0 24

/-- A PTP timestamp of a tick (R124): 48 bits of seconds, 32 of nanoseconds. -/
def ptpStamp (t : BitVec 64) : List Byte :=
  let r := t.toNat % 1600000000
  beBytes 6 (t.toNat / 1600000000) ++ beBytes 4 (r * 5 / 8)

/-- The remainder of a tick for correctionField, in units of 2^-16 ns (R124). -/
def ptpRest (t : BitVec 64) : Nat := t.toNat % 1600000000 * 5 % 8 * 8192

/-- A PTP message: the common header of 34 bytes, then its body. Port `l` has portNumber l + 1. -/
def ptpMsg (kind domain : Nat) (l : LaneId) (flags corr : Nat) (seq : BitVec 16) (log : Nat) (body : List Byte) : List Byte :=
  let ctl := if kind = pkSYNC then 0 else if kind = pkFOLLOW_UP then 2 else if kind = pkDELAY_RESP then 3 else 5
  beBytes 1 kind ++ beBytes 1 0x12 ++ beBytes 2 (34 + body.length) ++ beBytes 1 domain ++ beBytes 1 0 ++ beBytes 2 flags ++
    beBytes 8 corr ++ beBytes 4 0 ++ beBytes 8 clockIdentity.toNat ++ beBytes 2 (l.val + 1) ++ beBytes 2 seq.toNat ++ beBytes 1 ctl ++
    beBytes 1 log ++ body

end Sys2Proof.Machine

namespace Sys2Proof

/-- A received frame is addressed to the device: the PTP multicast address or its own (R107). -/
def RxFrame.toUs (f : RxFrame) : Bool := f.dst == Machine.ptpMac || f.dst == Config.mac

/-- The CRC-32C that a received frame's header and payload have (R110). -/
def RxFrame.crcOf (f : RxFrame) : BitVec 32 :=
  Machine.crc32c (Machine.ttpHeader f.ver.toNat f.typ.toNat f.id.toNat f.seq.toNat f.epoch.toNat f.length.toNat f.flags.toNat f.zero.toNat ++
    f.payload.take f.length.toNat)

/-- The CRC-32C that stands in a received frame is right (R110, R111). -/
def RxFrame.crcOk (f : RxFrame) : Bool := f.crc == f.crcOf

end Sys2Proof
end

