-- ==== Sys2Proof/Machine/TrunkOps.lean ====
section
/-! DEFINITION. Operations of the trunk (05): lanes and their status, frames and sequence spaces, the reorder buffer, the
transmit history, failover, swaps, Tarn mode. -/

namespace Sys2Proof.Machine

/-! ### Lanes -/

/-- The other lane. -/
def otherLane (l : LaneId) : LaneId := if l = 0 then 1 else 0

/-- A lane is up (R108). -/
def Chip.up (c : Chip) (l : LaneId) : Bool := c.bitAt .TRK_STATUS F.TRK_STATUS_UP_TA l.val
/-- A lane is degraded (R115). -/
def Chip.degraded (c : Chip) (l : LaneId) : Bool := c.bitAt .TRK_STATUS F.TRK_STATUS_DEGR_TA l.val
/-- A lane is up and past the wait of R117. -/
def Chip.inService (c : Chip) (l : LaneId) : Bool := c.up l && (c.trunk.lanes[l]).backAt.isNone
/-- The lane is released: LANE_EN_TA or LANE_EN_TB. -/
def Chip.laneEn (c : Chip) (l : LaneId) : Bool := c.bitAt .TRK_CTL F.TRK_CTL_LANE_EN_TA l.val
/-- MODE is PAIR (R115). -/
def Chip.pair (c : Chip) : Bool := c.bit .TRK_CTL F.TRK_CTL_MODE
/-- The PAIR active lane. -/
def Chip.active? (c : Chip) : LaneId := if c.bit .TRK_STATUS F.TRK_STATUS_ACTIVE then 1 else 0
/-- The trunk is in Tarn mode (R125). -/
def Chip.inTarn (c : Chip) : Bool := c.trunk.tarn.isSome
/-- The trunk transmits and receives TTP frames: the device is in Run or Idle. -/
def Chip.awake (c : Chip) : Bool := c.pwr.st == .run || c.pwr.st == .idle

/-- STATE of TRK_STATUS. -/
def Chip.trunkState (c : Chip) : Nat :=
  if c.inTarn then 5
  else match c.up 0, c.up 1 with
    | true, true => if c.pair then 2 else 1
    | true, false => 3
    | false, true => 4
    | false, false => 0

/-- STATE follows the lanes and the mode. -/
def Chip.syncTrunk (c : Chip) : Chip := c.setSt .TRK_STATUS F.TRK_STATUS_STATE c.trunkState

def Chip.setUp (c : Chip) (l : LaneId) (b : Bool) : Chip := c.setStBit .TRK_STATUS F.TRK_STATUS_UP_TA l.val b
def Chip.setDegr (c : Chip) (l : LaneId) (b : Bool) : Chip := c.setStBit .TRK_STATUS F.TRK_STATUS_DEGR_TA l.val b
def Chip.setActive (c : Chip) (l : LaneId) : Chip := c.setSt .TRK_STATUS F.TRK_STATUS_ACTIVE l.val

/-- A lane event (05): SRC_KIND 5. -/
def Chip.evLane (c : Chip) (code : Nat) (l : LaneId) (payload : List Nat) : Event := c.ev code 5 l.val payload

/-- A frame that fails a check of R111, counted. -/
def Chip.frameErr (c : Chip) (l : LaneId) : Chip := c.incSat (.TRK_ERR l) F.TRK_ERR_FRAME_ERR

/-! ### Sending (R110, R114, R115, R125, R126) -/

/-- TYPE codes. -/
def ttMBX_REQ : Nat := 1
def ttMBX_RSP : Nat := 2
def ttEVENT : Nat := 3
def ttSTREAM : Nat := 4
def ttREGWIN : Nat := 5
def ttLANE : Nat := 6
def ttWAKE : Nat := 7

/-- The sequence class of a TYPE (R110): 4 for LANE frames, per lane; 5 for WAKE, which has none. -/
def ttpClass (typ : Nat) : Nat :=
  match typ with
  | 1 => 0
  | 2 => 0
  | 3 => 1
  | 4 => 2
  | 5 => 3
  | 6 => 4
  | _ => 5

/-- FLAGS of a TTP frame. -/
def tfGAP : Nat := 1
def tfCREDIT : Nat := 2
def tfREPLAY : Nat := 4
def tfACK : Nat := 8
def tfMORE : Nat := 16

/-- The payload limit of a frame (R110). -/
def Chip.payloadMax (c : Chip) : Nat := if c.bit .TRK_CTL F.TRK_CTL_JUMBO then 8980 else 1480

/-- TRK_PEER_MAC is set. -/
def Chip.peerMac (c : Chip) : Bool :=
  c.rd .TRK_PEER_MAC_LO != 0#32 || c.get .TRK_PEER_MAC_HI F.TRK_PEER_MAC_HI_HI != 0

/-- A lane has a destination for TTP frames (R107). -/
def Chip.hasDest (c : Chip) (l : LaneId) : Bool := c.peerMac || (c.trunk.lanes[l]).dest.isSome

/-- The lane that carries a space (R115): in PAIR the active one, up, from the moment its role changed (R119); in DUAL by parity, off
a degraded lane where the other is up and not degraded; with one lane in service that one. -/
def Chip.laneOf (c : Chip) (cls id : Nat) : Option LaneId :=
  if c.pair && c.up c.active? then some c.active?
  else match c.inService 0, c.inService 1 with
  | true, true =>
      let l : LaneId := if (id + cls) % 2 = 0 then 0 else 1
      some (if c.degraded l && !c.degraded (otherLane l) then (otherLane l) else l)
  | true, false => some 0
  | false, true => some 1
  | false, false => none

/-- Frames of classes 0 to 2 spill: in Tarn mode (R125), and after Deep sleep until a lane is up (R336). -/
def Chip.spills (c : Chip) : Bool := c.inTarn || c.trunk.laneBy.isSome

/-- New frames of a space can be sent now: the device is awake, and they spill (R125, R336), else their lane has a
destination (R107) and no frame of the space waits behind the replay (R127) or for a destination. -/
def Chip.canSend (c : Chip) (cls id : Nat) : Bool :=
  c.awake &&
    (if c.spills then cls ≤ 2
     else
       match c.laneOf cls id with
       | none => false
       | some l => c.hasDest l && !c.trunk.spill.any (fun f => ttpClass f.typ == cls && f.id == id))

/-- The next SEQ of a device-sent space, taken (R114). -/
def Trunk.takeSeq (t : Trunk) (cls id : Nat) : BitVec 32 × Trunk :=
  match t.tx.find? (fun x => x.cls == cls && x.id == id) with
  | none => (0#32, { t with tx := t.tx ++ [⟨cls, id, 1#32⟩] })
  | some x =>
    (x.next, { t with tx := updFirst (fun x => x.cls == cls && x.id == id) (fun x => { x with next := x.next + 1 }) t.tx })

/-- Bytes of a frame in the spill area (R126). -/
def TxFrame.spillSize (f : TxFrame) : Nat := 8 + (f.length + 20 + 7) / 8 * 8

/-- Bytes held in the spill area. -/
def Trunk.spillUsed (t : Trunk) : Nat := t.spill.foldl (fun a f => a + f.spillSize) 0

/-- USED of TRK_SPILL, in units of 128 bytes. -/
def Chip.syncSpill (c : Chip) : Chip := c.setF .TRK_SPILL F.TRK_SPILL_USED ((c.trunk.spillUsed + 127) / 128)

/-- A discarded frame of a space, in its gap (R126, R127). -/
def addGap (l : List SpillGap) (cls id : Nat) (seq : BitVec 32) : List SpillGap :=
  if l.any (fun g => g.cls == cls && g.id == id) then
    updFirst (fun g => g.cls == cls && g.id == id)
      (fun g =>
        { g with first := if serial seq g.first = .behind then seq else g.first
                 last := if serial seq g.last = .ahead then seq else g.last }) l
  else l ++ [⟨cls, id, seq, seq⟩]

/-- A frame into the spill area, or discarded when it does not fit or spilling has stopped (R126, R351). -/
def Chip.spillFrame (c : Chip) (f : TxFrame) : Chip :=
  if c.trunk.spillClosed || 4194304 < c.trunk.spillUsed + f.spillSize then
    let c := c.incSat .TRK_SPILL F.TRK_SPILL_DROP
    c.updTrunk (fun t => { t with gaps := addGap t.gaps (ttpClass f.typ) f.id f.seq })
  else
    let after : Bool := c.trunk.gaps.any (fun g => g.cls == ttpClass f.typ && g.id == f.id && g.last + 1#32 == f.seq)
    let f := if after then { f with flags := f.flags ||| tfGAP } else f
    (c.updTrunk (fun t => { t with spill := t.spill ++ [f], spilled := t.spilled + 1 })).syncSpill

/-- The destination of a frame on a lane (R107): TRK_PEER_MAC, else the address last learned, else broadcast for LANE frames; PTP
messages go to their multicast address (R123). -/
def Chip.destOf (c : Chip) (l : LaneId) (typ : Nat) : BitVec 48 :=
  if typ = 0 then ptpMac
  else if c.peerMac then
    BitVec.ofNat 48 (beVal (leBytes 4 (c.rd .TRK_PEER_MAC_LO).toNat ++ leBytes 2 (c.get .TRK_PEER_MAC_HI F.TRK_PEER_MAC_HI_HI)))
  else (c.trunk.lanes[l]).dest.getD 0xFFFFFFFFFFFF#48

/-- A frame goes out on a lane, addressed and tagged as the lane is, and into its transmit history of 12 µs (R106, R107, R115). -/
def Chip.emit (c : Chip) (l : LaneId) (f : TxFrame) : Chip :=
  let now := c.clk.now
  let x := c.trunk.lanes[l]
  let f := { f with dst := c.destOf l f.typ, tag := x.vlan, etherType := if f.typ = 0 then 0x88F7#16 else x.etherType }
  c.updLane l (fun x => { x with hist := (now, f) :: x.hist.filter (fun h => now < h.1 + us 12) })

/-- A frame of a space is sent: its SEQ assigned, then spilled, held for a destination, or on its lane. -/
def Chip.sendFrame (c : Chip) (typ id flags : Nat) (epoch : BitVec 16) (length : Nat) (body : TxBody) : Chip :=
  let cls := ttpClass typ
  let (seq, t) := c.trunk.takeSeq cls id
  let c := c.updTrunk (fun _ => t)
  let f : TxFrame := { typ := typ, id := id, seq := seq, epoch := epoch, flags := flags, length := length, body := body }
  if c.spills then (if cls ≤ 2 then c.spillFrame f else c)
  else
    match c.laneOf cls id with
    | none => c
    | some l => if c.hasDest l then c.emit l f else c.updLane l (fun x => { x with waiting := x.waiting ++ [f] })

/-- Frames that waited for a destination are sent (R107). -/
def Chip.flushWaiting (c : Chip) (l : LaneId) : Chip :=
  if c.hasDest l then
    let w := (c.trunk.lanes[l]).waiting
    c.each w (fun c f => c.emit l f) |>.updLane l (fun x => { x with waiting := [] })
  else c

/-- Frames of spaces that wait for a destination on a lost lane move to the survivor (R116). -/
def Chip.moveWaiting (c : Chip) (l o : LaneId) : Chip :=
  let w := (c.trunk.lanes[l]).waiting.filter (fun f => ttpClass f.typ ≤ 3)
  let c := c.updLane l (fun x => { x with waiting := [] })
  (c.updLane o (fun x => { x with waiting := x.waiting ++ w })).flushWaiting o

/-- LANE SUB codes. -/
def lfSWAP_REQ : Nat := 2
def lfSWAP_ACK : Nat := 3
def lfLANE_LOST : Nat := 4
def lfLANE_BACK : Nat := 5
def lfECHO : Nat := 6
def lfECHO_REPLY : Nat := 7

/-- A LANE frame on a lane (R118); the SEQ it takes. -/
def Chip.sendLane (c : Chip) (l : LaneId) (sub lane status : Nat) (reqSeq : BitVec 32) (tick : BitVec 64) :
    BitVec 32 × Chip :=
  let (seq, t) := c.trunk.takeSeq 4 l.val
  let c := c.updTrunk (fun _ => t)
  let b := leBytes 1 sub ++ leBytes 1 lane ++ leBytes 1 status ++ leBytes 1 0 ++ leBytes 4 reqSeq.toNat ++ leBytes 8 tick.toNat
  (seq, c.emit l { typ := ttLANE, id := l.val, seq := seq, epoch := 0#16, flags := 0, length := 16, body := .bytes b })

/-- The WAKE frame with ACK (R122); without a destination it waits for one (R107). -/
def Chip.sendWakeAck (c : Chip) (l : LaneId) : Chip :=
  let f : TxFrame := { typ := ttWAKE, id := 0, seq := 0#32, epoch := 0#16, flags := tfACK, length := 4,
                       body := .bytes (leBytes 4 (c.rd .TRK_WAKE_KEY).toNat) }
  if c.hasDest l then c.emit l f else c.updLane l (fun x => { x with waiting := x.waiting ++ [f] })

/-! ### Swaps (R119) -/

/-- The lanes swap roles (R119): the old active lane and the moment are kept for the frames in flight. -/
def Chip.swapRoles (c : Chip) (l : LaneId) : Chip :=
  let old := c.active?
  let now := c.clk.now
  (if old = l then c else c.updTrunk (fun t => { t with swapped := some (old, now) })).setActive l

/-- A frame on lane `l` breaks the lane rule of PAIR (R115): the other lane is active and up, and `l` did not lose its role within
the last REORDER_HOLD, when frames may still be in flight (R119; DESIGN CHOICE, log entries 171, 172). -/
def Chip.offActive (c : Chip) (l : LaneId) : Bool :=
  let hold := us (c.get .TRK_CFG2 F.TRK_CFG2_REORDER_HOLD)
  c.pair && c.active? != l && c.up c.active? && !c.trunk.swapped.any (fun x => x.1 == l && c.clk.now < x.2 + hold)

/-- The pending swap of the device ends. -/
def Chip.endSwap (c : Chip) : Chip :=
  (c.updTrunk (fun t => { t with swap := none })).setSt .TRK_STATUS F.TRK_STATUS_SWAP_PEND 0

/-- The device asks for a swap on the active lane. -/
def Chip.askSwap (c : Chip) (q : Option ReqId) : Chip :=
  let nl := (otherLane c.active?)
  let (seq, c) := c.sendLane c.active? lfSWAP_REQ nl.val 0 0#32 0#64
  let now := c.clk.now
  let c := c.updTrunk (fun t => { t with swap := some ⟨nl, seq, now + ms 1, q⟩ })
  c.setSt .TRK_STATUS F.TRK_STATUS_SWAP_PEND 1

/-- A swap is abandoned by a lost lane, or withdrawn (R119): a TRUNK_SWAP that waits is answered TIMEOUT. -/
def Chip.dropSwap (c : Chip) : Chip :=
  match c.trunk.swap with
  | none => c
  | some s => (c.endSwap).answerOpt s.req rTIMEOUT

/-- The device can ask for a swap: PAIR, both lanes in service, no failover, no Tarn. -/
def Chip.swapOk (c : Chip) : Bool := c.pair && c.inService 0 && c.inService 1 && c.trunk.failover.isNone && !c.inTarn

/-- In PAIR a degraded active lane makes the device ask for a swap (R115, R119), whatever made it active or degraded, once the standby
is in service. -/
def Chip.swapDegraded (c : Chip) : Chip :=
  if c.swapOk && c.awake && c.degraded c.active? && c.trunk.swap.isNone then c.askSwap none else c

/-- A lane meets a condition of R115: 0 CRC-32C failures, 1 RS-FEC, 2 round trip. A swap that was refused or timed out is asked for
again when the active lane next meets a condition (DESIGN CHOICE, log entry 235). -/
def Chip.degradeLane (c : Chip) (l : LaneId) (cond : Nat) : Chip :=
  let now := c.clk.now
  let was := c.degraded l
  let c := (c.setDegr l true).updLane l (fun x => { x with healthyAt := some (now + sec 1) })
  (if was then c else c.postFault .lane (c.evLane 0x0145 l [l.val, cond])).swapDegraded

/-! ### Tarn mode (R125 to R127) -/

/-- Enter Tarn mode with its cause: frames that wait on the lanes spill, REGWIN responses are discarded. An island whose replay a new
loss cuts short gets no TARN_EXIT of its own: the next one names the new island's entry and counts (DESIGN CHOICE, log entry 233). -/
def Chip.enterTarn (c : Chip) (cause : Nat) : Chip :=
  if c.inTarn then c
  else
    let c := c.dropSwap
    let entry := c.sei.time
    let wait := ((c.trunk.lanes[(0 : LaneId)]).waiting ++ (c.trunk.lanes[(1 : LaneId)]).waiting).filter
      (fun f => ttpClass f.typ ≤ 2)
    let c := c.updTrunk (fun t =>
      { t with tarn := some ⟨entry, cause⟩, failover := none, lossAt := none, replay := none, spilled := 0
               lanes := t.lanes.map (fun x => { x with waiting := [] }) })
    let c := c.setF .TRK_SPILL F.TRK_SPILL_DROP 0
    let c := c.each wait Chip.spillFrame
    let c := (c.record .TRK_STATUS F.TRK_STATUS_TARN_SEEN).syncTrunk
    c.postFault .tarn (c.ev 0x0146 0 0 [cause])

/-- Tarn mode ends on a lane (R127 step 1): LANE_BACK, LANE_UP, the lane active in PAIR; the replay begins. The other lane, if
up, is in service after the wait of R117. -/
def Chip.leaveTarn (c : Chip) (l : LaneId) : Chip :=
  match c.trunk.tarn with
  | none => c
  | some x =>
    let now := c.sei.time
    let o := otherLane l
    let back := c.clk.now + ms 100
    let c := c.updTrunk (fun t => { t with tarn := none, replay := some l, island := some (x.entry, now) })
    let c := c.updLane l (fun x => { x with backAt := none })
    let c := if c.up o then c.updLane o (fun x => { x with backAt := some (x.backAt.getD back) }) else c
    let c := (c.sendLane l lfLANE_BACK l.val 0 0#32 0#64).2
    let c := if c.pair then c.setActive l else c
    (c.post (c.evLane 0x0141 l [l.val])).syncTrunk

/-- Frames of a list that fit into `room` bytes of the spill area, in order, and those that do not. -/
def fitSpill : Nat → List TxFrame → List TxFrame × List TxFrame
  | _, [] => ([], [])
  | room, f :: t =>
    if f.spillSize ≤ room then
      let x := fitSpill (room - f.spillSize) t
      (f :: x.1, x.2)
    else
      let x := fitSpill room t
      (x.1, f :: x.2)

/-- The first frame of a space after a gap carries GAP (R127 step 3). -/
def markGaps (gaps : List SpillGap) (l : List TxFrame) : List TxFrame :=
  l.map (fun f =>
    if gaps.any (fun g => g.cls == ttpClass f.typ && g.id == f.id && g.last + 1#32 == f.seq) then
      { f with flags := f.flags ||| tfGAP }
    else f)

/-- The frames of the 12 µs before the loss return to the front of the spill area (R127); those that do not fit are discarded
(R126; DESIGN CHOICE, log entry 173). -/
def Chip.respill (c : Chip) (l : LaneId) : Chip :=
  let now := c.clk.now
  let h := ((c.trunk.lanes[l]).hist.filter (fun h => now < h.1 + us 12 && 1 ≤ h.2.typ && ttpClass h.2.typ ≤ 2)).map (·.2)
  let (kept, lost) := fitSpill (4194304 - c.trunk.spillUsed) h.reverse
  let c := c.incSat .TRK_SPILL F.TRK_SPILL_DROP lost.length
  let c := c.updTrunk (fun t =>
    let gaps := lost.foldl (fun g f => addGap g (ttpClass f.typ) f.id f.seq) t.gaps
    { t with gaps := gaps, spill := (if lost.isEmpty then id else markGaps gaps) (kept ++ t.spill) })
  c.syncSpill

/-- The trunk fails over to lane `o` (R116, first row of the table); a replay under way goes on there (DESIGN CHOICE, log entry
173). Where `o` was in the wait of R117 the wait is dropped, and no LANE_BACK and no LANE_UP follow for it (DESIGN CHOICE, log entry
232). -/
def Chip.failOver (c : Chip) (l o : LaneId) : Chip :=
  let now := c.clk.now
  let c := c.updTrunk (fun t =>
    { t with failover := some (l, now), lossAt := some now, replay := t.replay.map (fun r => if r = l then o else r) })
  let c := c.updLane o (fun x => { x with backAt := none })
  let c := (c.sendLane o lfLANE_LOST l.val 0 0#32 0#64).2.moveWaiting l o
  let c := if c.pair then c.setActive o else c
  (c.record .TRK_STATUS F.TRK_STATUS_FAILOVER_SEEN).syncTrunk

/-- A failover runs, or its recovery window of 50 µs does (R116; log entry 176). -/
def Chip.inFailover (c : Chip) : Bool := c.trunk.failover.isSome || c.trunk.lossAt.any (fun t => c.clk.now < t + us 50)

/-- A lane that was up is lost (R109, R116, R125), with the cause of LANE_DOWN; `tarnCause` for a loss that is Tarn mode at
once. With both lanes lost in Sleep and deeper nothing follows until Run (R36). -/
def Chip.loseLane (c : Chip) (l : LaneId) (cause : Nat) (tarnCause : Option Nat) : Chip :=
  if !c.up l then c
  else
    let o := otherLane l
    let c := (c.setUp l false).updLane l (fun x => { x with lost := true, backAt := none })
    let c := c.postFault .lane (c.evLane 0x0140 l [l.val, cause])
    let c := c.dropSwap
    if c.inTarn then c.syncTrunk
    else if c.up o && tarnCause.isNone then c.failOver l o
    else if c.asleep then (c.updTrunk (fun t => { t with failover := none, lossAt := none })).syncTrunk
    else
      let again : Bool := c.trunk.replay == some l
      let c := if c.up o then c.syncTrunk
        else match tarnCause with
        | some k => c.enterTarn k
        | none => if c.inFailover then (c.escalate 1 2 l.val 0x0140).enterTarn 2 else c.enterTarn 1
      if again then c.respill l else c

/-! ### Receiving (R111, R114) -/

/-- The space of a host-sent frame. -/
def rxSpace (f : RxFrame) : Nat × Nat := (ttpClass f.typ.toNat, f.id.toNat)

/-- GAP of a received frame. -/
def rxGap (f : RxFrame) : Bool := f.flags.getLsbD 0

/-- Frames of a space that follow the last one without a gap, and the rest. -/
def runFrom : BitVec 32 → List (Nat × LaneId × RxFrame) → List (LaneId × RxFrame) × BitVec 32 × List (Nat × LaneId × RxFrame)
  | s, [] => ([], s, [])
  | s, x :: t =>
    if x.2.2.seq = s + 1#32 then
      let (r, e, u) := runFrom (s + 1#32) t
      (x.2 :: r, e, u)
    else ([], s, x :: t)

/-- Insert a waiting frame in SEQ order; one of a SEQ already held is dropped. -/
def bufInsert (x : Nat × LaneId × RxFrame) : List (Nat × LaneId × RxFrame) → List (Nat × LaneId × RxFrame)
  | [] => [x]
  | y :: t =>
    match serial x.2.2.seq y.2.2.seq with
    | .equal => y :: t
    | .behind => x :: y :: t
    | .ahead => y :: bufInsert x t

/-- Change an open host-sent space. -/
def Chip.updRx (c : Chip) (cls id : Nat) (f : RxSpace → RxSpace) : Chip :=
  c.updTrunk (fun t => { t with rx := updFirst (fun x => x.cls == cls && x.id == id) f t.rx })

/-- Deliver frames in order. -/
def Chip.deliver (c : Chip) (l : List (LaneId × RxFrame)) : Chip := c.updTrunk (fun t => { t with delivered := t.delivered ++ l })

/-- A space's frames that are next in order are delivered. -/
def Chip.drainRx (c : Chip) (cls id : Nat) : Chip :=
  match c.trunk.rx.find? (fun x => x.cls == cls && x.id == id) with
  | none => c
  | some x =>
    match x.last with
    | none => c
    | some s =>
      let (r, e, u) := runFrom s x.buf
      (c.updRx cls id (fun x => { x with last := some e, buf := u })).deliver r

/-- TTP_SEQ_GAP of a space (R114), at most once per space per millisecond. -/
def Chip.seqGap (c : Chip) (cls id : Nat) (seq : BitVec 32) : Chip :=
  c.postRate (ms 1) (65536 * cls + id) (c.ev 0x0149 0 0 [cls, id, seq.toNat])

/-- The missing number of a space is skipped, and delivery goes on (R114). -/
def Chip.skipRx (c : Chip) (cls id : Nat) : Chip :=
  match c.trunk.rx.find? (fun x => x.cls == cls && x.id == id) with
  | none => c
  | some x =>
    match x.last, x.buf with
    | some s, y :: _ =>
      let c := c.updRx cls id (fun x => { x with last := some (y.2.2.seq - 1#32) })
      (c.seqGap cls id (s + 1#32)).drainRx cls id
    | _, _ => c

/-- Bytes that wait in the reorder buffer of 512 KiB. -/
def Trunk.reorderUsed (t : Trunk) : Nat :=
  t.rx.foldl (fun a x => x.buf.foldl (fun a y => a + 20 + y.2.2.payload.length) a) 0

/-- The moment of the oldest waiting frame of a space. -/
def RxSpace.oldest (x : RxSpace) : Option Nat := (x.buf.map (·.1)).min?

/-- A full reorder buffer skips the space with the oldest waiting frame (R114). -/
def Chip.reorderFull (c : Chip) : Chip :=
  if 524288 < c.trunk.reorderUsed then
    let all := c.trunk.rx.filterMap (fun x => x.oldest.map (fun t => (t, x.cls, x.id)))
    match (all.map (·.1)).min? with
    | none => c
    | some t =>
      match all.find? (fun y => y.1 == t) with
      | none => c
      | some y => c.skipRx y.2.1 y.2.2
  else c

/-- A checked frame of a sequence space (R114). -/
def Chip.takeFrame (c : Chip) (l : LaneId) (f : RxFrame) : Chip :=
  let (cls, id) := (rxSpace f)
  match c.trunk.rx.find? (fun x => x.cls == cls && x.id == id) with
  | none => c.deliver [(l, f)]
  | some x =>
    match x.last with
    | none => (c.updRx cls id (fun x => { x with last := some f.seq })).deliver [(l, f)]
    | some s =>
      match serial f.seq s with
      | .ahead =>
        let d := (f.seq - s).toNat
        if rxGap f then
          let before := x.buf.filter (fun y => serial y.2.2.seq f.seq == .behind)
          let after := x.buf.filter (fun y => serial y.2.2.seq f.seq == .ahead)
          let c := c.updRx cls id (fun x => { x with last := some f.seq, buf := after })
          (c.deliver (before.map (·.2) ++ [(l, f)])).drainRx cls id
        else if d = 1 then
          ((c.updRx cls id (fun x => { x with last := some f.seq })).deliver [(l, f)]).drainRx cls id
        else if d ≤ 1024 then
          (c.updRx cls id (fun x => { x with buf := bufInsert (c.clk.now, l, f) x.buf })).reorderFull
        else c.updTrunk (fun t => { t with farAhead := t.farAhead + 1 })
      | _ => c

/-- Take the first delivered frame that satisfies `p`. -/
def Chip.takeDelivered (c : Chip) (p : LaneId → RxFrame → Bool) : Option ((LaneId × RxFrame) × Chip) :=
  match c.trunk.delivered.find? (fun x => p x.1 x.2) with
  | none => none
  | some x =>
    some (x, c.updTrunk (fun t => { t with delivered := dropFirst (fun y => p y.1 y.2) t.delivered }))

/-- A frame taken out of Reservoir with a wrong CRC-32C (R341): discarded, its SEQ missing under R114. -/
def Chip.crcInternal (c : Chip) (f : RxFrame) : Chip :=
  let (cls, id) := (rxSpace f)
  let c := c.incSat .INT_CRC F.INT_CRC_COUNT
  let c := c.postRate (ms 1) (65536 * cls + id) (c.ev 0x0186 0 0 [cls, id, f.seq.toNat])
  match c.trunk.rx.find? (fun x => x.cls == cls && x.id == id) with
  | none => c
  | some x =>
    if x.last = some f.seq then c.updRx cls id (fun x => { x with last := some (f.seq - 1#32) }) else c.seqGap cls id f.seq

/-- A frame fits its TYPE (R111). -/
def rxFits (f : RxFrame) (l : LaneId) : Bool :=
  let sub := leAt f.payload 0 1
  match f.typ.toNat with
  | 1 => f.id.toNat < 8 && f.length == 64#16
  | 4 => !f.flags.getLsbD 1
  | 5 => f.id == 0#16 && f.length.toNat % 12 == 0 && 1 ≤ f.length.toNat / 12 && f.length.toNat / 12 ≤ 64
  | 6 => f.id.toNat == l.val && f.length == 16#16 && (sub == 2 || sub == 3 || sub == 7)
  | 7 => f.id == 0#16 && f.length == 4#16
  | _ => false

/-! ### Lane-scope reset (R67) -/

/-- What a lane-scope reset does at its start: the lane goes down, its counters clear, ETHERTYPE and FEC take effect. -/
def Chip.resetLane (c : Chip) (l : LaneId) (tarnCause : Option Nat) : Chip :=
  let c := c.loseLane l 1 tarnCause
  let c := (c.wr (.TRK_ERR l) 0#32).setDegr l false
  let et := (c.rd .TRK_CTL).extractLsb' 16 16
  let fec := c.bitAt .TRK_CTL F.TRK_CTL_FEC_TA l.val
  c.updLane l (fun x =>
    { x with etherType := et, fec := fec, crcAt := [], healthyAt := none, backAt := none, delayReqs := 0 })

end Sys2Proof.Machine
end

