-- ==== Sys2Proof/Machine/ResetOps.lean ====
section
/-! DEFINITION. Reset scopes (03 R67 to R70, R75; 17 R351, R352, R355): what each resets at its start, what its end brings
back, and the absorption of a request for a running one. -/

namespace Sys2Proof.Machine

/-! ### Port scope (R68) -/

/-- The line side of a port-scope reset: the controller and the port engine's state start anew, NODE and OBJ contexts stay,
TXD is held recessive by the board until the controller joins the bus again. -/
def Chip.resetLine (c : Chip) (n : Port) : Chip :=
  let c := c.cancelAllTx n
  let c := c.each (List.finRange 32) (fun c i =>
    match (c.ports[n]).line.tx[i] with
    | none => c
    | some b => c.finishTx n i txCANCELLED false b)
  let l := (c.ports[n]).line
  let c := c.each l.nodes (fun c r => c.answerUlps (r.out.toList ++ r.queue) rTIMEOUT)
  let c := c.each l.recoverReqs (fun c q => c.answer q rROLE_CHANGED)
  let c := c.applyTimingDue n
  let c := c.wr (.LINE_ERR n) (fset (c.rd (.LINE_ERR n)) ⟨19, 0, .ro⟩ 0)
  let c := c.updPort n (fun p => { p with txd := false })
  c.updLine n (fun l =>
    { nodes := l.nodes.map (fun r => { r with out := none, queue := [], part := none, restart := false }), quar := l.quar, tseq := l.tseq,
      polls := l.polls, polledAt := c.clk.now })

/-- The drop side of a port-scope reset (R68, R166): the tree goes as on detach, through OFF; then a root-port reset is driven where
a pull-up is seen, and attach detection runs where none is (DESIGN CHOICE, log entry 179: there is no device to reset). -/
def Chip.resetDrop (c : Chip) (n : Port) : Chip :=
  let pull := (c.ports[n]).drop.pullup
  let c := (c.leaveDrop n ubDETACH).suspendCh n false
  let c := c.updDrop n (fun d => { d with pullup := pull })
  if pull.isSome then c.startReset n else c.setRoot n rsDISCONNECTED

/-- A port-scope reset (R68); the port's error counts are cleared (LINE_CNT, DROP_XFER_ERR). -/
def Chip.portReset (c : Chip) (n : Port) : Chip :=
  let c := (c.dropPulses (fun x => x.ofPort n)).wr (.LINE_CNT n) 0#32
  let c := c.wr (.DROP_XFER_ERR n) (fset (c.rd (.DROP_XFER_ERR n)) ⟨23, 0, .ro⟩ 0)
  let c := match (c.ports[n]).mode with
    | .off => c
    | .drop => c.resetDrop n
    | .line => c.resetLine n
  c.bumpPort n

/-! ### Basin scope (R69, R352) -/

/-- The ports of a basin. -/
def basinPorts (b : Basin) : List Port := (List.range 6).map (fun i => Fin.ofNat 96 (6 * b.val + i))

/-- A basin-scope reset begins: caches written back, open records closed, matches of its belt latched. -/
def Chip.basinDown (c : Chip) (b : Basin) : Chip :=
  let c := c.dropPulses (fun x => x.block == b.val)
  let c := c.each (basinEngines b.val) (fun c e => c.updEng e (fun x => { x with cache := [], overruns := [] }))
  let ps := (basinPorts b).map (·.val)
  let c := c.each (c.svc.binds.filter (fun b => ps.contains b.port.val && b.pending.isNone && (c.svcBody b).state == 2)) (fun c b =>
    c.updSvcBody b (fun x => { x with state := 1, fill := 0 }))
  let c := c.culletRecs pfDETACH (fun r => !r.raw && ps.contains r.owner.1)
  let c := c.updBelt b (fun x =>
    { x with
      tasks := x.tasks.map (fun s => { s with delayed := true })
      slots := x.slots.map (fun s => if s.hit.isSome && !s.acted && !s.mark.outfall then { s with delayed := true } else s) })
  let c := c.each (basinPorts b) (fun c n => c.updDrop n (fun d => { d with tokens := [], slot := none }))
  c.updBasin b (fun x => { x with inReset := true, gated := false })

/-- A basin's roll completes with the reload of the whole basin (R103). -/
def Chip.rollByReset (c : Chip) (b : Basin) : Chip :=
  match c.fw.roll with
  | none => c
  | some r =>
    if (r.basins[b]).complete then c else c.rollBasinDone b 30

/-- The basin restarts: a whole image is loaded anew from the active half (R69), or from the staging half during the basin's roll
(R103); roles of engines quarantined meanwhile move, edges and transfers resume. -/
def Chip.basinBack (c : Chip) (b : Basin) : Chip :=
  let rolls : Bool := c.fw.roll.any (fun r => !(r.basins[b]).complete)
  let was : Bool := (c.basins[b]).loading || rolls
  let half := if rolls then c.fw.staging else c.fw.active
  let c := c.updBasin b (fun x => { x with inReset := false, loading := false })
  let c := if was then c.loadEngines (basinEngines b.val) half else c
  let c := c.setSt (.ENG_BASIN b) F.ENG_BASIN_HELD 0
  let c := c.closeLadder 2 b.val
  let c := c.each (basinPorts b) Chip.rxDrain
  let c := c.each (basinEngines b.val) (fun c e => if (c.engines[e]).handing.isSome then c.takeOver e else c)
  (c.rollByReset b).inDrainAll

/-! ### Headspring scope (R67, R75, R355) -/

/-- Headspring goes away; a handoff under way is abandoned before its switch and reverted after it (R98, R99). -/
def Chip.hsDown (c : Chip) : Chip :=
  let c := c.updFw (fun f => { f with hs := .reset })
  match c.fw.handoff with
  | none => c
  | some h =>
    let c := c.updFw (fun f => { f with handoff := none })
    if h.step < 5 then c.postFault .handoff (c.ev 0x0903 0 0 [h.step, rTIMEOUT])
    else
      let c := c.updFw (fun f => { f with pairB := !f.pairB, fwDigest := h.oldDigest, fwVersion := h.oldVersion })
      let c := c.measure 1 3 c.sei.time h.oldVersion h.oldDigest
      c.postFault .handoff (c.ev 0x0904 0 0 [h.oldVersion.toNat])

/-- The pair's SRAM is loaded anew from the active bank, and measured (R86, R355). None where Headspring may execute nothing: in
recovery (R85), without a well-formed FW component, and where the log takes no extend of code that MEAS_1 does not hold yet (R86,
R91). -/
def Chip.hsReload (c : Chip) : Option Chip :=
  let bank := c.get .BOOT_STATUS F.BOOT_STATUS_BANK
  match (if c.clk.boot = .recovery then none else (c.header bank).bind (fun h => h.comp? cpFW)) with
  | none => none
  | some x =>
    let d := sha384 (c.compBytes bank x)
    if c.logFull && d != c.fw.fwDigest then none
    else
      let c := c.updFw (fun f => { f with fwDigest := d, fwVersion := x.version })
      some (c.measure 1 2 c.sei.time x.version d)

/-- Headspring is back: leases run anew (R130), and bindings that waited for it go on (R221). -/
def Chip.hsReturns (c : Chip) : Chip :=
  let c := c.each (List.finRange 8) (fun c d => c.updDoor d (fun s => { s with leaseFrom := c.clk.now }))
  c.bindsResume

/-- A forced claim that waited in a door and was executing is answered TIMEOUT and not made (R75); the release goes on. -/
def Chip.dropTakeover (c : Chip) (d : Door) : Chip :=
  match (c.doors[d]).takeover with
  | none => c
  | some t =>
    let c := match c.entry? t.req with
      | none => c
      | some e => c.answerEntry t.req e rTIMEOUT [] 0
    (c.updDoor d (fun s => { s with takeover := none })).finishRelease d

/-- Headspring is back from a reset: executing requests are answered TIMEOUT and not run again (R75); after a lockstep mismatch its
window of 1 s begins (R351). -/
def Chip.hsBack (c : Chip) : Chip :=
  match c.hsReload with
  | none => c.updFw (fun f => { f with hs := .off })
  | some c =>
    let c := c.updFw (fun f => { f with hs := .run })
    let c := if c.ladders.any (fun w => w.ladder == 8) then c.openLadder 8 0 1 (sec 1) 0x0187 else c
    let c := c.each (List.finRange 8) Chip.dropTakeover
    let c := c.each (List.finRange 8) (fun c d =>
      let es := (c.doors[d]).reqs.filter (fun e => e.st == .executing)
      c.each es (fun c e => c.answer ⟨d, e.ord⟩ rTIMEOUT))
    c.hsReturns

/-! ### Device scope (R67, R70) -/

/-- Supplies whose trip starts a device-scope reset (R59). -/
def supplyHolds : Supply → Bool
  | .srds => false
  | .vfd0 => false
  | .vfd1 => false
  | _ => true

/-- The die of a fuse supply. -/
def supplyDie? : Supply → Option Die
  | .vfd0 => some 0
  | .vfd1 => some 1
  | _ => none

/-- SUPPLY codes of RST_CAUSE. -/
def supplyCode : Supply → Nat
  | .core => 1
  | .sram => 2
  | .srds => 3
  | .vdda => 4
  | .usb => 5
  | .io33 => 6
  | .io18 => 7
  | .vfd0 => 8
  | .vfd1 => 9

/-- A Bead commit of the field stays across a reset, those of Headspring and of doors are lost. -/
def BeadCommit.stays (x : BeadCommit) : Bool := x.writer == .field

/-- The Bead across a reset: its memory, the field and a session stay (R365, R366). -/
def BeadSt.afterReset (b : BeadSt) : BeadSt :=
  let all := (b.commit.toList ++ b.queue).filter BeadCommit.stays
  { b with commit := all.head?, queue := all.tail, qAttest := none, qSnaps := [], lost := none, attestDue := false,
           snapsDue := [], snapAt := [] }

/-- The registers that stay across a device-scope reset: the always-on domain, the straps, and what the Bead keeps. -/
def Chip.regsAfterReset (c : Chip) : List (Reg × Word) :=
  let keep := c.regs.filter (fun x => x.1.dom == .aon)
  let keep := regSet keep .GLB_STRAP (fset 0#32 F.GLB_STRAP_STRAP (c.get .GLB_STRAP F.GLB_STRAP_STRAP))
  let st := fset (fset (fset 0#32 F.BEAD_STATUS_FIELD (c.get .BEAD_STATUS F.BEAD_STATUS_FIELD)) F.BEAD_STATUS_SESSION
    (c.get .BEAD_STATUS F.BEAD_STATUS_SESSION)) F.BEAD_STATUS_COMMIT (bitOf c.bead.afterReset.commit.isSome)
  let cnt := fset 0#32 F.BEAD_CNT_SNAP_SEQ c.bead.nextSnap
  regSet (regSet keep .BEAD_STATUS st) .BEAD_CNT cnt

/-- Everything outside the always-on domain at its reset value (R67). -/
def Chip.cleared (c : Chip) : Chip :=
  { engines := enginesAtReset
    regs := c.regsAfterReset
    clk := { now := c.clk.now, porst := c.clk.porst, trips := c.clk.trips, aonCount := c.clk.aonCount }
    fl := c.fl.map (fun l => { inReset := l.inReset })
    fw := { flash := c.fw.flash }
    trunk := { lanes := Vector.replicate 2 { held := c.clk.trips.contains .srds } }
    bead := c.bead.afterReset
    fab := { aonq := c.fab.aonq }
    nextOrd := c.nextOrd
    freeCtr := c.freeCtr }

/-- The held reset ends: the boot ROM starts once PORST_N is high and every supply is back in range (R59, R60). -/
def Chip.bootWhenReady (c : Chip) : Chip :=
  if c.clk.boot = .held ∧ c.clk.porst ∧ c.clk.trips = [] then c.bootRom.balls else c

/-- RST_CAUSE of a device-scope reset (03). -/
def Chip.rstCause (c : Chip) (cause supply : Nat) : Chip :=
  let w := c.rd .RST_CAUSE
  let w := fset (fset w F.RST_CAUSE_COUNT (sat 16 (fget w F.RST_CAUSE_COUNT + 1))) F.RST_CAUSE_LAST cause
  c.wr .RST_CAUSE (if supply = 0 then w else fset w F.RST_CAUSE_SUPPLY supply)

/-- A device-scope reset is running (R70): it is held, outside Off. -/
def Chip.inDeviceReset (c : Chip) : Bool := c.clk.boot == .held && c.pwr.st != .off

/-- A device-scope reset with its cause (R67, R70, R356): both fuse dies turn every channel off, FAULT_N is driven for
causes 0x2, 0x4 and 0x5, and the boot ROM starts as soon as it may. A running one absorbs the request. -/
def Chip.deviceReset (c : Chip) (cause supply : Nat) : Chip :=
  if c.inDeviceReset then c
  else
    let c := (c.rstCause cause supply).cleared
    let fault : Bool := cause == 2 || cause == 4 || cause == 5
    let c := (c.updClk (fun k => { k with bootFault := fault })).balls
    c.bootWhenReady

/-- A power-on reset (R59): the always-on domain included, RST_CAUSE cleared; the Bead's memory and the flash stay. -/
def Chip.powerOn (c : Chip) : Chip :=
  let b := c.regsAfterReset.filter (fun x => x.1 == .BEAD_STATUS || x.1 == .BEAD_CNT)
  { engines := enginesAtReset
    regs := b
    clk := { now := c.clk.now, porst := false, trips := [] }
    fw := { flash := c.fw.flash }
    bead := c.bead.afterReset
    nextOrd := c.nextOrd
    freeCtr := c.freeCtr }

/-! ### Requests for a reset (R70) -/

/-- SCOPE codes of RST_CMD and RESET_DONE. -/
def scopeCode : Scope → Nat
  | .port _ => 1
  | .basin _ => 2
  | .headspring => 3
  | .lane _ => 4

/-- The index of a scope. -/
def scopeIndex : Scope → Nat
  | .port n => n.val
  | .basin b => b.val
  | .headspring => 0
  | .lane l => l.val

/-- A reset narrower than device begins, or is absorbed into the running one of the same scope and index (R70), whose CIDs that
fail parity it adds to (R69). -/
def Chip.startScope (c : Chip) (sc : Scope) (q : Option ReqId) (byReg : Bool) (bad : List Nat) : Chip :=
  let running : Bool := c.clk.resets.any (fun r => r.sc == sc)
  if running then
    let add (r : RunReset) : RunReset :=
      { r with waiters := r.waiters ++ q.toList, byReg := r.byReg || byReg
               bad := r.bad ++ bad.filter (fun x => !r.bad.contains x) }
    c.updClk (fun k => { k with resets := updFirst (fun r => r.sc == sc) add k.resets })
  else
    let c := c.updClk (fun k => { k with resets := k.resets ++ [⟨sc, q.toList, byReg, bad⟩] })
    match sc with
    | .port n => c.portReset n
    | .basin b => c.basinDown b
    | .headspring => c.hsDown
    | .lane l => (c.resetLane l none).updLane l (fun x => { x with held := true })

/-- RESYNC_DONE (0x0208): the row of the table *Handshake crossings* and the index of the side that was reset. -/
def Chip.evResync (c : Chip) (row i : Nat) : Event := c.ev 0x0208 0 i [row, i]

/-- The lanes cannot run: VDD_SRDS is low (R59), or PLL_SRDS has lost lock after the switch to PLLs (R66). -/
def Chip.srdsDown (c : Chip) : Bool :=
  c.clk.trips.contains .srds ||
    (c.bit .CLK_CTL F.CLK_CTL_SYS_SEL && !c.bitAt .CLK_STATUS F.CLK_STATUS_LOCK 8)

/-- The USB PLL of a port's group has lost lock after the switch to PLLs (R66). -/
def Chip.usbDown (c : Chip) (n : Port) : Bool :=
  c.bit .CLK_CTL F.CLK_CTL_SYS_SEL && !c.bitAt .CLK_STATUS F.CLK_STATUS_LOCK (4 + n.val / 24)

/-- A basin's reset loads no half of the microcode region that is itself being reloaded (R69, R103, R343). -/
def Chip.canLoad (c : Chip) (b : Basin) : Bool :=
  !((c.basins[b]).loading && c.fw.reloadActive) &&
    !(c.fw.reloadStaging && c.fw.roll.any (fun r => !(r.basins[b]).complete))

/-- A running reset can complete: a drop's not while its PLL is unlocked (R66), a basin's not while it waits for microcode. -/
def Chip.mayEnd (c : Chip) (sc : Scope) : Bool :=
  match sc with
  | .port n => (c.ports[n]).mode != .drop || !c.usbDown n
  | .basin b => c.canLoad b
  | .lane _ => !c.srdsDown
  | .headspring => true

/-- A reset narrower than device completes (R70, R75): RESYNC_DONE of its handshake crossing, RESET_DONE, the requests it
absorbed answered, RST_CMD.GO clear. A port's waits for its bulk free (R151, R354). -/
def Chip.endScope (c : Chip) (sc : Scope) : Chip :=
  match c.clk.resets.find? (fun r => r.sc == sc && !(c.pond.rebuild && (sc matches .port _))) with
  | none => c
  | some r =>
    let c := c.updClk (fun k => { k with resets := k.resets.filter (fun x => x.sc != sc) })
    let c : Chip := match sc with
      | .port _ => c
      | .basin b => (c.basinBack b).post (c.evResync 0 b.val)
      | .headspring => (c.hsBack).post (c.evResync 1 0)
      | .lane l =>
        let held := c.srdsDown
        (c.updLane l (fun x => { x with held := held })).post (c.evResync 0 l.val)
    let c := if r.byReg then c.setF .RST_CMD F.RST_CMD_GO 0 else c
    let c := c.post (c.ev 0x0207 0 (scopeIndex sc) ([scopeCode sc, scopeIndex sc] ++ r.bad))
    c.each r.waiters (fun c q => c.answer q rOK)

/-! ### Faults of engines and of Headspring (R347, R350 to R352, R355) -/

/-- A basin is held (R352): a basin reset that does not end; requests that waited for its end are answered TIMEOUT. -/
def Chip.holdBasin (c : Chip) (b : Basin) : Chip :=
  let rs := c.clk.resets.filter (fun x => x.sc == .basin b)
  let c := c.updClk (fun k => { k with resets := k.resets.filter (fun x => x.sc != .basin b) })
  let c := c.each rs (fun c r =>
    let c := if r.byReg then c.setF .RST_CMD F.RST_CMD_GO 0 else c
    c.each r.waiters (fun c q => c.answer q rTIMEOUT))
  (c.basinDown b).setSt (.ENG_BASIN b) F.ENG_BASIN_HELD 1

/-- An engine's fault on ladder 0x2: quarantine; inside the window of the first, a basin-scope reset; inside that reset,
the basin is held. -/
def Chip.engineFault (c : Chip) (e : Engine) (cause : Nat) (lost : List Nat) : Chip :=
  if (c.engines[e]).quar then c
  else
    let b : Basin := Fin.ofNat 16 (e.val / 32)
    let w := c.ladder? 2 b.val
    let c := c.quarantine e cause lost
    match w with
    | none => c.openLadder 2 b.val 1 (us 200) 0x0181
    | some w =>
      if w.rung = 1 then
        let c := (c.openLadder 2 b.val 2 (us 250) w.code).escalate 2 2 b.val w.code
        c.startScope (.basin b) none false lost
      else ((c.closeLadder 2 b.val).escalate 2 3 b.val w.code).holdBasin b

end Sys2Proof.Machine
end

