-- ==== Sys2Proof/Machine/XspiOps.lean ====
section
/-! DEFINITION. The xSPI controller (R104, R105): one flash operation at a time, from registers and from firmware. -/

namespace Sys2Proof.Machine

/-- OP codes of the table *Flash operations*. -/
def xoREAD : Nat := 1
def xoPROGRAM : Nat := 2
def xoERASE : Nat := 3
def xoREAD_ID : Nat := 4

/-- ERR codes of XSPI_STATUS. -/
def xeNONE : Nat := 0
def xeTIMEOUT : Nat := 1
def xePROTECTED : Nat := 2
def xeBAD_ARG : Nat := 3

/-- The bank of a flash address. -/
def bankAt (a : Nat) : Nat := a / 33554432

/-- A bank that holds running code, outside a recovery boot (R97, R105). -/
def Chip.bankProtected (c : Chip) (b : Nat) : Bool :=
  !c.bit .BOOT_STATUS F.BOOT_STATUS_RECOVERY &&
    (b == c.get .BOOT_STATUS F.BOOT_STATUS_BANK || b == c.get .BOOT_STATUS F.BOOT_STATUS_UBANK)

/-- What an operation ends with before anything is sent to the flash; 0 where it runs (R104, R105); an ill-formed
operation on a protected bank ends with BAD_ARG (DESIGN CHOICE, log entry 234). -/
def Chip.xspiVerdict (c : Chip) (o : XspiOp) : Nat :=
  let lenOk : Bool := 1 ≤ o.len && o.len ≤ 256
  match o.op with
  | 1 => if lenOk && o.addr + o.len ≤ 67108864 then xeNONE else xeBAD_ARG
  | 2 =>
    if !lenOk || 256 < o.addr % 256 + o.len || 67108864 ≤ o.addr then xeBAD_ARG
    else if c.bankProtected (bankAt o.addr) then xePROTECTED else xeNONE
  | 3 =>
    if o.addr % 65536 ≠ 0 ∨ 67108864 ≤ o.addr then xeBAD_ARG
    else if c.bankProtected (bankAt o.addr) then xePROTECTED else xeNONE
  | 4 => xeNONE
  | _ => xeBAD_ARG

/-- The 256-byte buffer XSPI_DATA. -/
def Chip.xspiBuf (c : Chip) : List Byte := (List.finRange 64).flatMap (fun w => leBytes 4 (c.rd (.XSPI_DATA w)).toNat)

/-- Bytes into XSPI_DATA from byte 0. -/
def Chip.xspiPut (c : Chip) (b : List Byte) : Chip :=
  let all := b ++ c.xspiBuf.drop b.length
  c.each (List.finRange 64) (fun c w => c.wr (.XSPI_DATA w) (BitVec.ofNat 32 (leAt all (4 * w.val) 4)))

/-- The end of an operation: XSPI_STATUS, XSPI_CMD.GO of a register operation, the answer of a firmware one. -/
def Chip.xspiClose (c : Chip) (o : XspiOp) (err : Nat) (fsr : Option Byte) : Chip :=
  let c := (c.setF .XSPI_STATUS F.XSPI_STATUS_ERR err).setF .XSPI_STATUS F.XSPI_STATUS_BUSY 0
  let c := match fsr with
    | none => c
    | some b => c.setF .XSPI_STATUS F.XSPI_STATUS_FSR b.toNat
  let c := c.record .XSPI_STATUS F.XSPI_STATUS_DONE
  match o.req with
  | none => c.setF .XSPI_CMD F.XSPI_CMD_GO 0
  | some q => c.answer q (if err = xeNONE then rOK else if err = xeTIMEOUT then rTIMEOUT else if err = xePROTECTED then rLOCKED
      else rBAD_ARG)

/-- An operation starts, or ends before anything is sent. -/
def Chip.xspiBegin (c : Chip) (o : XspiOp) : Chip :=
  let v := c.xspiVerdict o
  if v ≠ xeNONE then c.xspiClose o v none
  else
    let now := c.clk.now
    (c.setF .XSPI_STATUS F.XSPI_STATUS_BUSY 1).updFw (fun f => { f with xspi := some { o with since := now } })

/-- The maximum time of an operation (R104, table *Flash operations*). -/
def xspiMax (op : Nat) : Nat :=
  match op with
  | 2 => ms 5
  | 3 => sec 3
  | _ => us 20

/-- An operation arrives: it starts, or waits in order of arrival. -/
def Chip.xspiIssue (c : Chip) (o : XspiOp) : Chip :=
  if c.fw.xspi.isSome then c.updFw (fun f => { f with xspiQueue := f.xspiQueue ++ [o] }) else c.xspiBegin o

/-- Waiting operations start until one runs. -/
def Chip.xspiNext (c : Chip) : Chip :=
  c.each c.fw.xspiQueue (fun c _ =>
    match c.fw.xspi, c.fw.xspiQueue with
    | none, o :: t => (c.updFw (fun f => { f with xspiQueue := t })).xspiBegin o
    | _, _ => c)

/-- What an operation does to the flash and the buffer. -/
def Chip.xspiDo (c : Chip) (o : XspiOp) : Chip :=
  match o.op with
  | 1 => c.xspiPut (c.flashBytes o.addr o.len)
  | 2 => c.updFw (fun f => { f with flash := flashProgram f.flash o.addr o.data })
  | 3 => c.updFw (fun f => { f with flash := flashErase f.flash o.addr })
  | 4 => c.wr (.XSPI_DATA 0) Config.jedecId
  | _ => c

/-- Store bytes in the flash as they stand. -/
def flashPut (f : List Host.Cell) : Nat → List Byte → List Host.Cell
  | _, [] => f
  | a, b :: t => flashPut (flashSet f a b) (a + 1) t

/-- An operation cut by its maximum time leaves free values where it was to act: the manual states no result. -/
def Chip.xspiCut (c : Chip) (o : XspiOp) : Chip :=
  match o.op with
  | 1 => let (b, c) := c.freeBytes o.len; c.xspiPut b
  | 2 => let (b, c) := c.freeBytes o.len; c.updFw (fun f => { f with flash := flashPut f.flash o.addr b })
  | 3 => let (b, c) := c.freeBytes 65536; c.updFw (fun f => { f with flash := flashPut f.flash o.addr b })
  | _ => let (b, c) := c.freeBytes 4; c.wr (.XSPI_DATA 0) (BitVec.ofNat 32 (leVal b))

/-- The flash is polled, with its status (R104): it reports ready within the operation's maximum time, or that time has passed.
While it is busy and the time lasts, the operation goes on. -/
def Chip.xspiEnd (c : Chip) (ready : Bool) (fsr : Byte) : Chip :=
  match c.fw.xspi with
  | none => c
  | some o =>
    let last := o.since + xspiMax o.op
    let late : Bool := if ready then last < c.clk.now else last ≤ c.clk.now
    if !ready && !late then c.setF .XSPI_STATUS F.XSPI_STATUS_FSR fsr.toNat
    else
      let c := c.updFw (fun f => { f with xspi := none })
      let c := if late then c.xspiCut o else c.xspiDo o
      (c.xspiClose o (if late then xeTIMEOUT else xeNONE) (some fsr)).xspiNext

end Sys2Proof.Machine
end

