-- ==== Sys2Proof/Machine/FabOps.lean ====
section
/-! DEFINITION. The register fabric (15): what a register reads as, the key guard (R314, R315), bit aliases (R313), status
clears (R316), writes to the always-on domain and to the fuse dies (R319), and what a write does beside storing a word. -/

namespace Sys2Proof.Machine

/-! ### Reading -/

/-- A path holds its unlock (R314). -/
def Chip.unlocked (c : Chip) (p : RegPath) : Bool := (c.fab.unlock[p]).any (fun t => c.clk.now < t)

/-- PATH of DOOR_STATUS. -/
def pathCode : Option Path → Nat
  | none => 0
  | some .trunk => 1
  | some .svc => 2

/-- Bytes 4w to 4w + 3 of a byte string, as a word. -/
def wordAt (b : List Byte) (w : Nat) : Word := BitVec.ofNat 32 (leAt b (4 * w) 4)

/-- A write to a register of the always-on domain is in flight. -/
def Chip.aonPending (c : Chip) (r : Reg) : Bool := c.fab.aonq.any (fun x => x.1 == r)

/-- The word a register holds at this moment, WO fields included: stored, or a view of the state (R12, R318, R319). -/
def Chip.liveWord (c : Chip) (r : Reg) : Word :=
  match r with
  | .GLB_ID => fset (c.rd r) F.GLB_ID_GRADE Config.gradeCode
  | .GLB_SERIAL_LO => Config.serial.extractLsb' 0 32
  | .GLB_SERIAL_HI => Config.serial.extractLsb' 32 32
  | .MEAS i w => wordAt (digestBytes (c.fw.meas[i])) w.val
  | .ATT_QUOTE w => wordAt c.fw.attQuote w.val
  | .BOOT_OVR => fset (c.rd r) F.BOOT_OVR_WR_PEND (bitOf (c.aonPending r))
  | .CDC_WAKE_MODE => fset (c.rd r) F.CDC_WAKE_MODE_WR_PEND (bitOf (c.aonPending r))
  | .PWR_WAKE_EN => fset (c.rd r) F.PWR_WAKE_EN_WR_PEND (bitOf (c.aonPending r))
  | .KEY_STATUS =>
    fset (c.rd r) F.KEY_STATUS_UNLOCKED ((List.finRange 4).foldl (fun a p => a + bitOf (c.unlocked p) * 2 ^ p.val) 0)
  | .SEI_TIME_LO => c.sei.time.extractLsb' 0 32
  | .SEI_UNCERT => BitVec.ofNat 32 c.uncert
  | .OUTFALL_STATE =>
    BitVec.ofNat 32 ((List.finRange 32).foldl (fun a o => a + bitOf (c.outLevel o) * 2 ^ o.val) 0)
  | .BELT_POS_LO b => (c.sei.belts[b]).pos.extractLsb' 0 32
  | .DOOR_STATUS d =>
    let s := c.doors[d]
    fset (fset (fset 0#32 F.DOOR_STATUS_EPOCH s.epoch.toNat) F.DOOR_STATUS_PATH (pathCode s.path)) F.DOOR_STATUS_REQ_USED
      s.reqs.length
  | .DOOR_EVT d =>
    let s := c.doors[d]
    fset (fset 0#32 F.DOOR_EVT_LOST s.lostCount) F.DOOR_EVT_EVT_USED s.evts.length
  | .ENG_CACHE e =>
    let x := c.engines[e]
    fset (fset 0#32 F.ENG_CACHE_SPILLS (sat 16 (x.spillsShown c.msWindow))) F.ENG_CACHE_RESIDENT x.cache.length
  | .CH_STATUS n => c.chStatusWord n
  | .CH_CMD _ => c.mirrorWord r
  | .CH_CFG _ => c.mirrorWord r
  | .CH_SENSE _ => c.mirrorWord r
  | .CH_INRUSH _ => c.mirrorWord r
  | .CH_LIMIT _ => c.mirrorWord r
  | .CH_SUSP _ => c.mirrorWord r
  | .CH_CURVE _ _ => c.mirrorWord r
  | .RAIL_CFG _ => c.mirrorWord r
  | .RAIL_BUDGET _ => c.mirrorWord r
  | .LINE_CTL n =>
    if 320 ≤ c.nomCycles n then c.rd r else fset (c.rd r) F.LINE_CTL_TRIPLE 0
  | _ => c.rd r

/-- The word that a read returns: WO fields read 0 (R14). -/
def Chip.readWord (c : Chip) (r : Reg) : Word := c.liveWord r &&& ~~~(r.maskOf (fun a => a == .wo))

/-- A read of the low half of a 64-bit or 48-bit value latches the high half (12). -/
def Chip.readLatch (c : Chip) (r : Reg) : Chip :=
  match r with
  | .SEI_TIME_LO => c.wr .SEI_TIME_HI (c.sei.time.extractLsb' 32 32)
  | .BELT_POS_LO b => c.wr (.BELT_POS_HI b) ((c.sei.belts[b]).pos.extractLsb' 32 16 |>.setWidth 32)
  | _ => c

/-- The register and bit of an alias word (R313); none outside the region and for an unmapped register. -/
def aliasBit (a : Nat) : Option (Reg × Nat) :=
  if 0x08000000 ≤ a ∧ a < 0x0C000000 ∧ a % 4 = 0 then
    let d := a - 0x08000000
    (Reg.ofAddr (d / 128 * 4)).map (fun r => (r, d % 128 / 4))
  else none

/-- STATUS of an access: done, unmapped, refused, not performed (R310, R312, R314). -/
def fsDONE : Nat := 0
def fsUNMAPPED : Nat := 1
def fsREFUSED : Nat := 2
def fsNONE : Nat := 3

/-- A path can reach the fabric (R311, R312). -/
def Chip.pathUp (c : Chip) (p : RegPath) : Bool :=
  c.awake && c.clk.boot != .held &&
    (match p.val with
     | 0 => (c.laneEn 0 || c.laneEn 1) && !c.noPll
     | 1 => c.fw.hs == .run || c.clk.boot == .firmware
     | 2 => c.svcPort.address != 0
     | _ => c.fab.jtag)

/-- A read by the fabric (R310, R313). -/
def Chip.fabRead (c : Chip) (a : Nat) : FabAnswer × Chip :=
  match Reg.ofAddr a with
  | some r => (⟨c.readWord r, fsDONE⟩, c.readLatch r)
  | none =>
    match aliasBit a with
    | some (r, b) => (⟨BitVec.ofNat 32 (bitOf ((c.readWord r).getLsbD b)), fsDONE⟩, c.readLatch r)
    | none => (⟨0#32, fsUNMAPPED⟩, c)

/-! ### The key (R314, R315) -/

/-- A refused write or a wrong key on a path: KEY_STATUS, GLB_FAULT source KEY, KEY_FAULT. -/
def Chip.keyFault (c : Chip) (p : RegPath) (refused : Bool) : Chip :=
  let c := if refused then c.record .KEY_STATUS ⟨4 + p.val, 4 + p.val, .rs⟩
    else (c.incSat .KEY_STATUS F.KEY_STATUS_BAD).bump .KEY_STATUS
  let e := c.ev 0x0B03 0 p.val [p.val, c.get .KEY_STATUS F.KEY_STATUS_BAD, bitOf refused + 2 * bitOf !refused]
  (c.fault .key e).postRate (sec 1) p.val e

/-- A path's unlock is taken, or lapses. -/
def Chip.lock (c : Chip) (p : RegPath) : Chip := c.updFab (fun f => { f with unlock := f.unlock.set p none })

/-- A write of KEY_UNLOCK by a path. -/
def Chip.keyWrite (c : Chip) (p : RegPath) (v : Word) : Chip :=
  if fget v F.KEY_UNLOCK_KEY = 0xC3A5 then
    let t := c.clk.now + ms 100
    c.updFab (fun f => { f with unlock := f.unlock.set p (some t) })
  else (c.lock p).keyFault p false

/-- A register whose write needs the key: it holds a K field, or is configuration class while FROZEN (R314, R323). -/
def Chip.guarded (c : Chip) (r : Reg) : Bool := r.hasK || (r.cfg && c.frozen)

/-! ### Effects of a changed register -/

/-- A door's lease has run out (R130); leases stop while Headspring is absent, a handoff's stall included (R25); in
Sleep and Deep sleep, which R25 does not name, they run on (DESIGN CHOICE, log entry 236). -/
def Chip.leaseDue (c : Chip) (d : Door) : Bool :=
  let s := c.doors[d]
  let l := c.get .MBX_CTL F.MBX_CTL_LEASE
  s.path.isSome && s.releasing.isNone && l != 0 && c.hsPresent && s.leaseFrom + sec l ≤ c.clk.now

/-- Every door whose lease has run out is released with cause LEASE. -/
def Chip.leaseSweep (c : Chip) : Chip :=
  c.each (List.finRange 8) (fun c d => if c.leaseDue d then c.release d 1 else c)

/-- PLL_REF has lost lock after the switch to PLLs: it holds its last frequency, whatever its references do (R66). -/
def Chip.refFree (c : Chip) : Bool :=
  c.bit .CLK_CTL F.CLK_CTL_SYS_SEL && !c.bitAt .CLK_STATUS F.CLK_STATUS_LOCK 0

/-- PLL_REF begins to slew back to the crystal, once it is locked (R63, R64, R66). -/
def Chip.refSlew (c : Chip) : Chip := if c.refFree then c else c.updClk (fun k => { k with slewing := true })

/-- CLK_CTL changed (R63 to R65): newly selected PLLs start their lock wait, deselected ones lose LOCK; Headspring's clock
follows SYS_SEL, a 1 before every enabled PLL reports lock included (DESIGN CHOICE, log entry 228); without REF_EN no reference
disciplines PLL_REF. -/
def Chip.clkCtl (c : Chip) (old : Word) : Chip :=
  let en := c.get .CLK_CTL F.CLK_CTL_PLL_EN
  let lock := c.get .CLK_STATUS F.CLK_STATUS_LOCK
  let newly := en &&& ((fget old F.CLK_CTL_PLL_EN) ^^^ 0x1FF)
  let c := c.setSt .CLK_STATUS F.CLK_STATUS_LOCK (lock &&& en)
  let now := c.clk.now
  let c := if newly ≠ 0 then c.updClk (fun k => { k with lockBy := some (now + ms 1) }) else c
  let frc : Bool := !c.bit .CLK_CTL F.CLK_CTL_SYS_SEL || !c.bitAt .CLK_STATUS F.CLK_STATUS_LOCK 3
  let c := c.updClk (fun k => { k with hsOnFrc := frc })
  if c.bit .CLK_CTL F.CLK_CTL_REF_EN || !c.bit .CLK_STATUS F.CLK_STATUS_REF_QUAL then c
  else
    let c := c.setSt .CLK_STATUS F.CLK_STATUS_REF_QUAL 0
    if c.bit .CLK_STATUS F.CLK_STATUS_XTAL_OK then c.refSlew
    else (c.settleUncert).setSt .CLK_STATUS F.CLK_STATUS_HOLDOVER 1

/-- The host-to-device REGWIN space opens when the first lane is released (R114). -/
def Chip.openRegwin (c : Chip) : Chip :=
  if c.trunk.rx.any (fun x => x.cls == 3) then c
  else c.updTrunk (fun t => { t with rx := t.rx ++ [{ cls := 3, id := 0, last := none, buf := [] }] })

/-- TRK_CTL changed (R115): a lane released or taken down, the mode and its active lane. -/
def Chip.trkCtl (c : Chip) (old : Word) : Chip :=
  let was (l : LaneId) : Bool := old.getLsbD (F.TRK_CTL_LANE_EN_TA.lo + l.val)
  let freed := (List.finRange 2).filter (fun l => c.laneEn l && !was l)
  let pref : LaneId := if c.bit .TRK_CTL F.TRK_CTL_PREF_ACTIVE then 1 else 0
  let c := if freed.isEmpty then c else c.openRegwin
  let c := c.each ((List.finRange 2).filter (fun l => !c.laneEn l && was l)) (fun c l => c.loseLane l 0 none)
  let toPair : Bool := c.pair && fget old F.TRK_CTL_MODE == 0
  let released : Bool := !freed.isEmpty && !was 0 && !was 1
  let c := if c.pair && (toPair || released) then c.setActive pref else c
  let c := if !c.pair && fget old F.TRK_CTL_MODE != 0 then c.dropSwap else c
  c.syncTrunk.swapDegraded

/-- Clearwater passes run (R322, R325, R333). -/
def Chip.cwRuns (c : Chip) : Bool :=
  c.bit .CW_CTL F.CW_CTL_EN && !c.bit .CW_CTL F.CW_CTL_PAUSE && !c.fab.jtag && c.awake && c.pwr.entry.isNone

/-- MODE and PAUSED of CW_STATUS follow; a pass that may run no longer is dropped. -/
def Chip.syncCw (c : Chip) : Chip :=
  let c := c.setB .CW_STATUS F.CW_STATUS_PAUSED (c.bit .CW_CTL F.CW_CTL_PAUSE)
  let c := c.setB .CW_STATUS F.CW_STATUS_MODE c.cwRuns
  if c.cwRuns then c else c.updFab (fun f => { f with pass := none })

/-- CW_CTL changed (R322, R324): the pause begins or ends, EN is set. -/
def Chip.cwCtl (c : Chip) (old : Word) : Chip :=
  let now := c.clk.now
  let en : Bool := c.bit .CW_CTL F.CW_CTL_EN && fget old F.CW_CTL_EN == 0
  let on : Bool := c.bit .CW_CTL F.CW_CTL_PAUSE && fget old F.CW_CTL_PAUSE == 0
  let off : Bool := !c.bit .CW_CTL F.CW_CTL_PAUSE && fget old F.CW_CTL_PAUSE != 0
  let c := if on then c.updFab (fun f => { f with pausedAt := now }) else c
  let c := if en || off then c.updFab (fun f => { f with freshPass := true }) else c
  c.syncCw

/-- BOOT_CTL.BOOT_OK is set (R84, R95, R356): the watchdog stops, WDT_FAILS clears, FAULT_N is released, a Bead record is
due. -/
def Chip.bootOk (c : Chip) : Chip :=
  let c := c.updClk (fun k => { k with wdt := none, bootFault := false })
  let c := c.setF .BOOT_OVR F.BOOT_OVR_WDT_FAILS 0
  (c.updBead (fun b => { b with attestDue := true })).balls

/-- What follows from a register's change from `old`, where its block has a clock. -/
def Chip.regAct (c : Chip) (r : Reg) (old : Word) : Chip :=
  match r with
  | .GLB_FAULT => c.balls
  | .GLB_FAULT_EN => c.balls
  | .GLB_ALERT_EN => c.balls
  | .BOOT_CTL => if c.bit .BOOT_CTL F.BOOT_CTL_BOOT_OK then c.bootOk else c
  | .MBX_CTL => c.leaseSweep
  | .CLK_CTL => c.clkCtl old
  | .TRK_CTL => c.trkCtl old
  | .TRK_PEER_MAC_LO => (c.flushWaiting 0).flushWaiting 1
  | .TRK_PEER_MAC_HI => (c.flushWaiting 0).flushWaiting 1
  | .BELT_CTL b => c.beltCtl b old
  | .INLET_CTL i => c.inletCtl i old
  | .LINE_CTL n => c.tdcOn n
  | .LINE_DBT n => c.tdcOn n
  | .LINE_POLL n => c.pollSync n
  | .CH_SENSE n => c.clampSync n
  | .CH_INRUSH n => c.clampSync n
  | .CH_LIMIT n => c.clampSync n
  | .LINE_WARN n => c.warnBits n
  | .POND_LOW_MARK => c.poolEvents
  | .CW_CTL => c.cwCtl old
  | .DROP_CTL n => if old.getLsbD 0 then c else c.autoEnum n
  | .PIN_CFG _ => c.pdRecheck
  | .PD_CFG _ => c.pdRecheck
  | .PD_CAPS n => c.pdChanged n (c.rd (.PD_TIMING n))
  | .PD_LIMIT n => c.pdChanged n (c.rd (.PD_TIMING n))
  | .PD_TIMING n => c.pdChanged n old
  | _ => c

/-- The crossing that carries the control event of a register's write to another clock domain: block and number (R71; the numbers
are a DESIGN CHOICE, log entry 166). -/
def Reg.crossing (r : Reg) : Option (Nat × Nat) :=
  match r with
  | .TRK_CTL => some (cbTRUNK, 0)
  | .BELT_CTL b => some (cbSEICHE, b.val)
  | .INLET_CTL i => some (cbSEICHE, 16 + i.val)
  | .LINE_CTL n => some (n.val / 6, n.val % 6)
  | _ => none

/-- What follows from a register's change from `old`: at once, or once the clock of its block returns; a second such write before is
an overrun (R72, R73). -/
def Chip.regEffect (c : Chip) (r : Reg) (old : Word) : Chip :=
  match r.crossing with
  | none => c.regAct r old
  | some (b, k) => if c.blockStopped b then c.pulse b k (.write r old) none id else c.regAct r old

/-! ### Writes with a meaning of their own -/

/-- The scope that RST_CMD names; none where SCOPE or INDEX is out of range. -/
def rstScope (v : Word) : Option Scope :=
  let i := fget v F.RST_CMD_INDEX
  match fget v F.RST_CMD_SCOPE with
  | 1 => if i < 96 then some (.port (Fin.ofNat 96 i)) else none
  | 2 => if i < 16 then some (.basin (Fin.ofNat 16 i)) else none
  | 3 => some .headspring
  | 4 => if i < 2 then some (.lane (Fin.ofNat 2 i)) else none
  | _ => none

/-- A write of RST_CMD (03, R70). -/
def Chip.rstCmd (c : Chip) (v : Word) : Chip :=
  let go : Bool := fget v F.RST_CMD_GO == 1
  let same : Bool := rstScope v == rstScope (c.rd .RST_CMD)
  match c.bit .RST_CMD F.RST_CMD_GO, rstScope v with
  | true, some sc => if go && same then c.startScope sc none true [] else c
  | true, none => c
  | false, some sc =>
    let c := c.wrRW .RST_CMD v
    if go then c.startScope sc none true [] else c
  | false, none =>
    if fget v F.RST_CMD_SCOPE = 5 then (if go then c.deviceReset 3 0 else c.wrRW .RST_CMD v) else c

/-- The digest in MEAS_EXT_DATA. -/
def Chip.extDigest (c : Chip) : BitVec 384 :=
  BitVec.ofNat 384 (beVal ((List.finRange 12).flatMap (fun w => leBytes 4 (c.rd (.MEAS_EXT_DATA w)).toNat)))

/-- KIND of the log entry of an extend by firmware or the register window (R87, R89). -/
def extKind (i : Nat) : Nat :=
  match i with
  | 3 => 8
  | 4 => 9
  | _ => 6

/-- The registers that a writer may extend (R88): MEAS_5 to MEAS_7 the window, MEAS_3 and up firmware. -/
def measAllowed (win : Bool) (i : Nat) : Bool := 5 ≤ i || (!win && 3 ≤ i)

/-- MEAS_EXT_CTL.GO (R87, R88, R91): the extend and its log entry, or EXT_DENIED. -/
def Chip.measExt (c : Chip) (win : Bool) (i : Nat) : Chip :=
  if measAllowed win i && c.fw.hs == .run && !c.logFull then c.measure i (extKind i) c.sei.time 0#64 c.extDigest
  else c.record .BOOT_STATUS F.BOOT_STATUS_EXT_DENIED

/-- A write of MEAS_EXT_CTL. One that names a register its writer may not extend is ignored, with EXT_DENIED (R88). -/
def Chip.measCtl (c : Chip) (win : Bool) (v : Word) : Chip :=
  let i := fget v F.MEAS_EXT_CTL_INDEX
  if measAllowed win i then
    let c := c.setF .MEAS_EXT_CTL F.MEAS_EXT_CTL_INDEX i
    if fget v F.MEAS_EXT_CTL_GO = 1 then c.measExt win i else c
  else c.record .BOOT_STATUS F.BOOT_STATUS_EXT_DENIED

/-- A write of ATT_CTL (R96): a quote in a recovery boot, ERR outside it. -/
def Chip.attCtl (c : Chip) (v : Word) : Chip :=
  if fget v F.ATT_CTL_GO = 0 then c
  else if c.bit .BOOT_STATUS F.BOOT_STATUS_RECOVERY then
    let nonce := (List.finRange 8).flatMap (fun w => leBytes 4 (c.rd (.ATT_NONCE w)).toNat)
    let b := c.quoteRom nonce
    ((c.updFw (fun f => { f with attQuote := b })).setF .ATT_CTL F.ATT_CTL_DONE 1).setF .ATT_CTL F.ATT_CTL_ERR 0
  else (c.setF .ATT_CTL F.ATT_CTL_ERR 1).setF .ATT_CTL F.ATT_CTL_DONE 0

/-- A write of XSPI_CMD (R104): GO starts an operation, unless one of the registers runs. -/
def Chip.xspiCmd (c : Chip) (v : Word) : Chip :=
  if c.bit .XSPI_CMD F.XSPI_CMD_GO then c
  else
    let c := c.wrRW .XSPI_CMD v
    if fget v F.XSPI_CMD_GO = 0 then c
    else
      let len := fget v F.XSPI_CMD_LEN
      c.xspiIssue { op := fget v F.XSPI_CMD_OP, addr := c.get .XSPI_ADDR F.XSPI_ADDR_ADDR, len := len,
                    data := c.xspiBuf.take len, req := none }

/-- A write of LINE_NBT, LINE_DBT or LINE_TDC (R228): unchecked; on a line it waits for the frame in progress. -/
def Chip.lineTimingWrite (c : Chip) (n : Port) (r : Reg) (v : Word) : Chip :=
  if c.isLine n then
    let t := c.timingSet n
    c.askTiming n (match r with
      | .LINE_NBT _ => { t with nbt := v }
      | .LINE_DBT _ => { t with dbt := v }
      | _ => { t with tdc := v })
  else (c.wrRW r v).tdcOn n

/-- The word that PTP_CTL takes: values out of range are ignored (05). -/
def Chip.ptpWord (c : Chip) (v : Word) : Word :=
  let s := fget v F.PTP_CTL_SYNC_LOG
  let v := if s = 0 ∨ 12 ≤ s then v else fset v F.PTP_CTL_SYNC_LOG (c.get .PTP_CTL F.PTP_CTL_SYNC_LOG)
  if fget v F.PTP_CTL_ANN_LOG ≤ 3 then v else fset v F.PTP_CTL_ANN_LOG (c.get .PTP_CTL F.PTP_CTL_ANN_LOG)

/-- A register of the compute die takes a written word. `win` says that it came through the register window. PIN_CFG is writable
in mode OFF: a port with a mode change queued or under way does not count as OFF (DESIGN CHOICE, log entry 180). -/
def Chip.putCompute (c : Chip) (p : RegPath) (win : Bool) (r : Reg) (v : Word) : Chip :=
  match r with
  | .KEY_UNLOCK => c.keyWrite p v
  | .RST_CMD => c.rstCmd v
  | .MEAS_EXT_CTL => c.measCtl win v
  | .ATT_CTL => c.attCtl v
  | .XSPI_CMD => c.xspiCmd v
  | .MEAS_EXT_DATA _ => c.wr r v
  | .ATT_NONCE _ => c.wr r v
  | .HOLDER_QUOTA h => if fget v F.HOLDER_QUOTA_QUOTA ≤ pondSize then c.setQuota h (fget v F.HOLDER_QUOTA_QUOTA) else c
  | .PIN_CFG n => if (c.ports[n]).mode = .off ∧ (c.ports[n]).seqs = [] then c.wrRW r v else c
  | .LINE_NBT n => c.lineTimingWrite n r v
  | .LINE_DBT n => c.lineTimingWrite n r v
  | .LINE_TDC n => c.lineTimingWrite n r v
  | .PTP_CTL => c.wrRW r (c.ptpWord v)
  | _ =>
    let old := c.rd r
    let clear := r.maskOf (fun a => a == .rs)
    let c := if r.fields.contains seqF && seqMatch v old then c.wr r (old &&& ~~~(v &&& clear)) else c
    (c.wrRW r v).regEffect r old

/-! ### The always-on domain and the fuse dies (R319) -/

/-- The oldest write in flight reaches the always-on domain; a PWR_WAKE_SET that waited is answered. -/
def Chip.aonApply (c : Chip) : Chip :=
  match c.fab.aonq with
  | [] => c
  | (r, v, m) :: t =>
    let c := c.updFab (fun f => { f with aonq := t })
    let c := c.wr r (normWord r ((c.rd r &&& ~~~m) ||| (v &&& m)))
    if c.aonPending .PWR_WAKE_EN then c
    else
      let w := c.fab.wakeSets
      let c := c.updFab (fun f => { f with wakeSets := [] })
      c.each w (fun c x => c.answer x.1 rOK [x.2.toNat] 4)

/-- A write joins the queue of 8 to the always-on domain; a full one drains an entry first. -/
def Chip.aonWrite (c : Chip) (r : Reg) (v m : Word) : Chip :=
  let c := if 8 ≤ c.fab.aonq.length then c.aonApply else c
  c.updFab (fun f => { f with aonq := f.aonq ++ [(r, v, m)] })

/-- What a write admitted by the guards does, by the register's domain. -/
def Chip.putReg (c : Chip) (p : RegPath) (win : Bool) (r : Reg) (v : Word) : Chip :=
  match r.dom with
  | .compute => c.putCompute p win r v
  | .aon => if r.rwMask = 0#32 then c else c.aonWrite r v r.rwMask
  | .fuse =>
    match r with
    | .CH_CMD _ => if fget v F.CH_CMD_CMD ≤ 1 then c.fuseWrite r v allBits else c
    | .CH_MEAS _ => c
    | .RAIL_MEAS _ => c
    | _ => (c.cfgWritten r).fuseWrite r v allBits

/-- The access type of one bit. -/
def Reg.accOf (r : Reg) (b : Nat) : Acc :=
  match r.fields.find? (fun f => f.lo ≤ b && b ≤ f.hi) with
  | some f => f.acc
  | none => .rc

/-- The word that an alias write changes a bit of: a timing that waits is written in its own words (R228). -/
def Chip.aliasBase (c : Chip) (r : Reg) : Word :=
  match r with
  | .LINE_NBT n => (c.timingSet n).nbt
  | .LINE_DBT n => (c.timingSet n).dbt
  | .LINE_TDC n => (c.timingSet n).tdc
  | _ => c.rd r

/-- An alias write of a bit admitted by the guards (R313). -/
def Chip.putBit (c : Chip) (p : RegPath) (win : Bool) (r : Reg) (b : Nat) (on : Bool) : Chip :=
  let f : Field := ⟨b, b, .rw⟩
  match r.dom with
  | .compute => c.putReg p win r (fset (c.aliasBase r) f (bitOf on))
  | .aon => c.aonWrite r (fset 0#32 f (bitOf on)) (fmask f)
  | .fuse => (c.cfgWritten r).fuseWrite r (fset 0#32 f (bitOf on)) (fmask f)

/-! ### Writes by a path -/

/-- A whole-word or alias write by a path (R310, R313, R314, R318): its STATUS. Altering a reserved bit is what R15 leaves
unspecified. -/
def Chip.fabWrite (c : Chip) (p : RegPath) (win : Bool) (a : Nat) (v : Word) : Except Fault (Nat × Chip) :=
  match Reg.ofAddr a with
  | some r =>
    let g := c.guarded r
    if g && !c.unlocked p then .ok (fsREFUSED, c.keyFault p true)
    else if (v ^^^ c.readWord r) &&& r.rcMask ≠ 0#32 then .error .rcAltered
    else
      let c := if g then c.lock p else c
      .ok (fsDONE, c.putReg p win r v)
  | none =>
    match aliasBit a with
    | none => .ok (fsUNMAPPED, c)
    | some (r, b) =>
      let acc := r.accOf b
      let g : Bool := acc == .k || (r.cfg && c.frozen)
      if g && !c.unlocked p then .ok (fsREFUSED, c.keyFault p true)
      else
        let c := if g then c.lock p else c
        if acc = .rw ∨ acc = .k then .ok (fsDONE, c.putBit p win r b (v.getLsbD 0)) else .ok (fsDONE, c)

/-- The fabric's answer to a path. -/
def Chip.fabAnswer (c : Chip) (p : RegPath) (x : FabAnswer) : Chip :=
  c.updFab (fun f => { f with answers := f.answers.set p x })

/-- A write by a path that waits for its answer (R311, R312). -/
def Chip.pathWrite (c : Chip) (p : RegPath) (a : Nat) (v : Word) : Except Fault Chip :=
  if c.pathUp p then
    match c.fabWrite p (p.val != 1) a v with
    | .error e => .error e
    | .ok (st, c) => .ok (c.fabAnswer p ⟨0#32, st⟩)
  else .ok (c.fabAnswer p ⟨0#32, fsNONE⟩)

/-- A read by a path. -/
def Chip.pathRead (c : Chip) (p : RegPath) (a : Nat) : Chip :=
  if c.pathUp p then
    let (x, c) := c.fabRead a
    c.fabAnswer p x
  else c.fabAnswer p ⟨0#32, fsNONE⟩

/-- Firmware writes a register of its own design at boot: reserved bits as read, the key written before (R315). -/
def Chip.fwWrite (c : Chip) (a : Nat) (v : Word) : Chip :=
  match Reg.ofAddr a with
  | none => c
  | some r =>
    let m := r.rcMask
    let w := (v &&& ~~~m) ||| (c.readWord r &&& m)
    match r.dom with
    | .fuse => c.fuseNow r w
    | _ => c.putReg 1 false r w

/-- Answer the next state with the granted waiters served, or the fault that `f` names. -/
def State.runES (s : State) (f : Chip → Except Fault Chip) : Host.Outcome State Fault Refusal :=
  s.runE (fun c => match f c with
    | .ok c => .ok c.settle
    | .error e => .error e)

end Sys2Proof.Machine
end

