-- ==== Sys2Proof/Machine/Bead.lean ====
section
/-! DEFINITION. The meanings of the Bead commands (18): door opcodes (R367), Headspring's records (R361, R362), the field's
commands in ISO/IEC 15693 (R363), sessions (R366). -/

namespace Sys2Proof.Machine

/-! ### Door opcodes (R365 to R367) -/

/-- `serve` for a Bead opcode: WAIT while a field session holds. -/
def Chip.serveBead (c : Chip) (q : ReqId) (op : BitVec 16) (body : ReqEntry → Chip → Chip) : Chip :=
  c.serve q op [0] (fun e c => if c.bead.session.isSome then c.answer q rWAIT else body e c)

/-- BEAD_READ. -/
def execBeadRead (q : ReqId) (block : Nat) (s : State) : Host.Outcome State Fault Refusal :=
  s.run fun c => c.serveBead q 0x0A01#16 fun _ c =>
    if 256 ≤ block then c.answer q rBAD_ARG
    else if c.bead.committing block (· == .field) then c.answer q rWAIT
    else c.answer q rOK ((blockBytes (c.bead.block block)).map (·.toNat)) 32

/-- BEAD_WRITE: over the service port only; answered after the commit. -/
def execBeadWrite (q : ReqId) (block : Nat) (data : List Byte) (s : State) : Host.Outcome State Fault Refusal :=
  s.run fun c => c.serveBead q 0x0A02#16 fun e c =>
    if e.path = .trunk then c.answer q rLOCKED
    else if 256 ≤ block ∨ data.length ≠ 32 then c.answer q rBAD_ARG
    else if !beadOpen block || c.bead.locked.contains block then c.answer q rLOCKED
    else if c.bead.writing block (· == .field) then c.answer q rWAIT
    else c.commitAll [⟨block, blockOf data, .door q⟩]

/-- BEAD_STATUS. -/
def execBeadStatus (q : ReqId) (s : State) : Host.Outcome State Fault Refusal :=
  s.run fun c => c.serveBead q 0x0A03#16 fun _ c =>
    c.answer q rOK [(c.rd .BEAD_STATUS).toNat, (c.rd .BEAD_CNT).toNat] 8

/-! ### Headspring's records -/

/-- Headspring writes records: present, its clock on. -/
def Chip.hsWrites (c : Chip) : Bool := c.fw.hs == .run && !c.dozing

/-- The 84 bytes of an attestation record (R361). -/
def Chip.attestData (c : Chip) : List Byte :=
  digestBytes (sha384 c.quoteCore) ++ leBytes 4 c.logCount ++ leBytes 8 c.sei.time.toNat ++
    leBytes 4 (c.readWord .BOOT_STATUS).toNat ++ leBytes 8 c.fw.fwVersion.toNat ++ List.replicate 12 0#8

/-- ATTEST_RECORD_WRITE (R95, R361, R366): a newer record replaces one that waits for the end of a session. -/
def execAttestRecordWrite (s : State) : Host.Outcome State Fault Refusal :=
  s.run fun c =>
    if !c.bead.attestDue || !c.hsWrites || (c.bead.session.isNone && c.bead.hsBusy) then c
    else
      let d := c.attestData
      (c.updBead (fun b => { b with attestDue := false, qAttest := some d })).hsNext

/-- The 32 bytes of an event in a snapshot (R137). Its SEQ, which each door counts for itself, is free. -/
def Chip.eventBytes (c : Chip) (e : Event) : List Byte × Chip :=
  let (q, c) := c.freeBytes 4
  (leBytes 2 e.code ++ leBytes 1 e.flags ++ leBytes 1 e.srcKind ++ q ++ leBytes 8 e.time.toNat ++ leBytes 2 e.index ++
    leBytes 2 e.epoch.toNat ++ leBytes 1 e.result ++ e.payloadBytes, c)

/-- The 168 bytes of a snapshot (R362). -/
def Chip.snapData (c : Chip) (seq : Nat) (e : Event) : List Byte × Chip :=
  let (b, c) := c.eventBytes e
  (leBytes 4 seq ++ leBytes 2 e.code ++ leBytes 2 e.index ++ leBytes 8 e.time.toNat ++
    leBytes 4 (c.readWord .GLB_FAULT).toNat ++ leBytes 4 (c.readWord .ESC_LAST).toNat ++
    leBytes 4 (c.readWord .RST_CAUSE).toNat ++ b ++ List.replicate 108 0#8, c)

/-- A snapshot beyond the eight that a session keeps: dropped and counted (R366). -/
def Chip.dropSnap (c : Chip) (seq : Nat) : Chip :=
  let c := c.incSat .BEAD_CNT F.BEAD_CNT_SNAP_LOST
  c.updBead (fun b => { b with lost := some (match b.lost with
    | none => (seq, 1)
    | some (f, n) => (f, n + 1)) })

/-- SNAPSHOT_WRITE (R362, R366): the next snapshot due. -/
def execSnapshotWrite (s : State) : Host.Outcome State Fault Refusal :=
  s.run fun c =>
    match c.bead.snapsDue with
    | [] => c
    | e :: t =>
      if !c.hsWrites || (c.bead.session.isNone && c.bead.hsBusy) then c
      else
        let seq := c.get .BEAD_CNT F.BEAD_CNT_SNAP_SEQ
        let (d, c) := c.snapData seq e
        let c := (c.updBead (fun b => { b with snapsDue := t })).setF .BEAD_CNT F.BEAD_CNT_SNAP_SEQ ((seq + 1) % 65536)
        if 8 ≤ c.bead.qSnaps.length then c.dropSnap seq
        else (c.updBead (fun b => { b with qSnaps := b.qSnaps ++ [(seq, d)] })).hsNext

/-- A reader field is present. -/
def Chip.field (c : Chip) : Bool := c.bit .BEAD_STATUS F.BEAD_STATUS_FIELD

/-- What the tag sends to the field. -/
def Chip.toField (c : Chip) (a : BeadAnswer) : Chip := c.updBead (fun b => { b with answer := a })

/-- Codes of BEAD_WRITE_FAIL's writer. -/
def BeadBy.code : BeadBy → Nat
  | .field => 0
  | .door _ => 1
  | .hs => 2

/-- The writer of a commit gets its answer. A failed verification is answered with a code that the manual does not state. -/
def Chip.commitAnswer (c : Chip) (w : BeadBy) (ok : Bool) : Chip :=
  let (v, c) := if ok then (0#64, c) else c.draw
  let code := v.toNat % 256
  match w with
  | .hs => c
  | .door q => c.answer q (if ok then rOK else code)
  | .field => if c.field then c.toField (if ok then .info [] else .error code) else c

/-- BEAD_COMMIT_END (R359): the block switches in whole, or keeps its content and is reported; the next commit starts. -/
def execBeadCommitEnd (verified : Bool) (s : State) : Host.Outcome State Fault Refusal :=
  s.run fun c =>
    match c.bead.commit with
    | none => c
    | some x =>
      let c := if verified then c.updBead (fun b => b.putBlock x.block x.data)
        else c.post (c.ev 0x0A03 0 0 [x.block, x.writer.code])
      let c := c.updBead (fun b => { b with commit := b.queue.head?, queue := b.queue.tail })
      (c.commitAnswer x.writer verified).hsNext

/-! ### The field (R363 to R365) -/

/-- Standard error codes: the option is not supported, the block is already locked, the block is locked (ISO/IEC 15693, PRESUMED). -/
def ieALREADY : Nat := 0x11
def ieLOCKED : Nat := 0x12
/-- Vendor error codes (R363). -/
def veBUSY : Nat := 0xA1
def vePROTECTED : Nat := 0xA2
def veNO_SESSION : Nat := 0xA3
def veTORN : Nat := 0xA4
def veBAD_RANGE : Nat := 0xA5
def veLOCK_GAP : Nat := 0xA6

/-- The tag executes a command of an addressing mode (ISO/IEC 15693): a quiet one only where it names its UID. -/
def Chip.hears (c : Chip) (m : BeadMode) : Bool :=
  c.field &&
    (match m with
     | .nonAddressed => !c.bead.quiet
     | .selected => c.bead.selected
     | .addressed u => u == Config.beadUid)

/-- A command of the field: one that is not for the tag gets no answer. -/
def Chip.asField (c : Chip) (m : BeadMode) (f : Chip → Chip) : Chip := if c.hears m then f c else c.toField .silent

/-- An error answer; 0xA1 is counted. -/
def Chip.fieldErr (c : Chip) (code : Nat) : Chip :=
  let c := if code = veBUSY then c.incSat .BEAD_CNT F.BEAD_CNT_FIELD_BUSY else c
  c.toField (.error code)

/-- A block is under the commit of another party (R365). -/
def Chip.busyBlock (c : Chip) (i : Nat) : Bool := c.bead.committing i (· != .field)

/-- INVENTORY: the UID, of a tag that is not quiet and whose UID the mask fits. -/
def execInventory (_m : BeadMode) (mask : BitVec 64) (maskLen : Nat) (s : State) : Host.Outcome State Fault Refusal :=
  s.run fun c =>
    let n := min maskLen 64
    let fits : Bool := Config.beadUid.toNat % 2 ^ n == mask.toNat % 2 ^ n
    if c.field && !c.bead.quiet && fits then c.toField (.info [Config.beadUid.toNat]) else c.toField .silent

/-- STAY_QUIET: addressed, without an answer. -/
def execStayQuiet (m : BeadMode) (s : State) : Host.Outcome State Fault Refusal :=
  s.run fun c =>
    if c.field ∧ m = .addressed Config.beadUid then
      (c.updBead (fun b => { b with quiet := true, selected := false })).toField .silent
    else c.toField .silent

/-- READ_SINGLE_BLOCK. -/
def execReadSingleBlock (m : BeadMode) (block : Nat) (s : State) : Host.Outcome State Fault Refusal :=
  s.run fun c => c.asField m fun c =>
    if 256 ≤ block then c.fieldErr veBAD_RANGE
    else if c.busyBlock block then c.fieldErr veBUSY
    else c.toField (.data [c.bead.block block])

/-- WRITE_SINGLE_BLOCK: INTEGRATOR only; answered after the commit. -/
def execWriteSingleBlock (m : BeadMode) (block : Nat) (data : BitVec 256) (s : State) : Host.Outcome State Fault Refusal :=
  s.run fun c => c.asField m fun c =>
    if 256 ≤ block then c.fieldErr veBAD_RANGE
    else if !beadOpen block then c.fieldErr vePROTECTED
    else if c.bead.locked.contains block then c.fieldErr ieLOCKED
    else if c.bead.writing block (· != .field) then c.fieldErr veBUSY
    else (c.toField .silent).commitAll [⟨block, data, .field⟩]

/-- LOCK_BLOCK: INTEGRATOR only, for good. -/
def execLockBlock (m : BeadMode) (block : Nat) (s : State) : Host.Outcome State Fault Refusal :=
  s.run fun c => c.asField m fun c =>
    if 256 ≤ block then c.fieldErr veBAD_RANGE
    else if !beadOpen block then c.fieldErr vePROTECTED
    else if c.bead.locked.contains block then c.fieldErr ieALREADY
    else if c.busyBlock block then c.fieldErr veBUSY
    else (c.updBead (fun b => { b with locked := block :: b.locked })).toField (.info [])

/-- READ_MULTIPLE_BLOCKS: 1 to 8 blocks. -/
def execReadMultipleBlocks (m : BeadMode) (first count : Nat) (s : State) : Host.Outcome State Fault Refusal :=
  s.run fun c => c.asField m fun c =>
    let is := (List.range count).map (first + ·)
    if count = 0 ∨ 8 < count ∨ 256 < first + count then c.fieldErr veBAD_RANGE
    else if is.any c.busyBlock then c.fieldErr veBUSY
    else c.toField (.data (is.map c.bead.block))

/-- SELECT: the tag named is selected; another UID ends a selection. -/
def execSelect (m : BeadMode) (s : State) : Host.Outcome State Fault Refusal :=
  s.run fun c =>
    match m with
    | .addressed u =>
      if !c.field then c.toField .silent
      else if u = Config.beadUid then
        (c.updBead (fun b => { b with quiet := false, selected := true })).toField (.info [])
      else (c.updBead (fun b => { b with selected := false })).toField .silent
    | _ => c.toField .silent

/-- RESET_TO_READY. -/
def execResetToReady (m : BeadMode) (s : State) : Host.Outcome State Fault Refusal :=
  s.run fun c => c.asField m fun c =>
    (c.updBead (fun b => { b with quiet := false, selected := false })).toField (.info [])

/-- GET_SYSTEM_INFORMATION: UID, 256 blocks of 32 bytes, no AFI and no DSFID. -/
def execGetSystemInformation (m : BeadMode) (s : State) : Host.Outcome State Fault Refusal :=
  s.run fun c => c.asField m fun c => c.toField (.info [Config.beadUid.toNat, 256, 32])

/-- GET_BLOCK_SECURITY_STATUS: 1 for a locked block; those of IDENT are locked for good. -/
def execGetBlockSecurityStatus (m : BeadMode) (first count : Nat) (s : State) : Host.Outcome State Fault Refusal :=
  s.run fun c => c.asField m fun c =>
    if count = 0 ∨ 256 < first + count then c.fieldErr veBAD_RANGE
    else c.toField (.info ((List.range count).map (fun i =>
      bitOf (first + i < 2 || c.bead.locked.contains (first + i)))))

/-- BEAD_SESSION (0x0A01). -/
def Chip.evSession (c : Chip) (on : Bool) (durMs : Nat) : Event := c.ev 0x0A01 0 0 [bitOf on, durMs, c.bead.queued]

/-- The end of a session (R366): BEAD_SESSION with the writes queued, BEAD_SNAP_LOST, then the queue is committed. -/
def Chip.endSession (c : Chip) : Chip :=
  match c.bead.session with
  | none => c
  | some (t, _) =>
    let now := c.clk.now
    let e := c.evSession false ((now - t) / ms 1)
    let l := c.bead.lost
    let c := (c.updBead (fun b => { b with session := none, lastEnd := some now, lost := none })).setSt .BEAD_STATUS
      F.BEAD_STATUS_SESSION 0
    let c := c.post e
    let c := match l with
      | none => c
      | some (f, n) => c.post (c.ev 0x0A02 0 0 [n, f])
    c.hsNext

/-- LOCK_SESSION: 1 to 2,000 ms; not within 500 ms of the end of the last session, nor inside one. -/
def execLockSession (m : BeadMode) (durationMs : Nat) (s : State) : Host.Outcome State Fault Refusal :=
  s.run fun c => c.asField m fun c =>
    let now := c.clk.now
    if durationMs = 0 ∨ 2000 < durationMs then c.fieldErr veBAD_RANGE
    else if c.bead.session.isSome || c.bead.lastEnd.any (fun t => now < t + ms 500) then c.fieldErr veLOCK_GAP
    else
      let c := (c.updBead (fun b => { b with session := some (now, now + ms durationMs) })).setSt .BEAD_STATUS
        F.BEAD_STATUS_SESSION 1
      (c.post (c.evSession true durationMs)).toField (.info [])

/-- UNLOCK_SESSION. -/
def execUnlockSession (m : BeadMode) (s : State) : Host.Outcome State Fault Refusal :=
  s.run fun c => c.asField m fun c =>
    if c.bead.session.isNone then c.fieldErr veNO_SESSION else (c.endSession).toField (.info [])

/-- Any block of a record is under the commit of another party. -/
def Chip.busyRec (c : Chip) (base n : Nat) : Bool := (List.range n).any (fun i => c.busyBlock (base + i))

/-- READ_RECORD's answer: the record's data, then GEN. -/
def Chip.recAnswer (c : Chip) (base n : Nat) : BeadAnswer :=
  .info ((c.bead.recData base n).map (·.toNat) ++ [(c.bead.gen base).toNat])

/-- READ_RECORD: 0 the attestation record, 1 to 8 the snapshot slots. -/
def execReadRecord (m : BeadMode) (recno : Nat) (s : State) : Host.Outcome State Fault Refusal :=
  s.run fun c => c.asField m fun c =>
    if 8 < recno then c.fieldErr veBAD_RANGE
    else if recno = 0 then
      match c.bead.validCopy (fun z => !c.busyRec (attestBase z) 3) with
      | some z => c.toField (c.recAnswer (attestBase z) 3)
      | none => c.fieldErr (if c.busyRec 2 6 then veBUSY else veTORN)
    else
      let base := snapBase (recno - 1)
      if c.busyRec base 6 then c.fieldErr veBUSY
      else if c.bead.whole base 6 then c.toField (c.recAnswer base 6)
      else c.fieldErr veTORN

/-- GET_BEAD_STATUS: device powered, session, SNAP_SEQ, queued writes. -/
def execGetBeadStatus (m : BeadMode) (s : State) : Host.Outcome State Fault Refusal :=
  s.run fun c => c.asField m fun c =>
    c.toField (.info [bitOf (c.clk.boot != .held), bitOf c.bead.session.isSome, c.get .BEAD_CNT F.BEAD_CNT_SNAP_SEQ,
      c.bead.queued])

/-- BEAD_SESSION_EXPIRY (R366). -/
def execBeadSessionExpiry (s : State) : Host.Outcome State Fault Refusal :=
  s.run fun c => if c.bead.session.any (fun x => x.2 ≤ c.clk.now) then c.endSession else c

/-- BEAD_FIELD_LOSS (R365, R366): a session ends; a commit in progress goes on. -/
def execBeadFieldLoss (s : State) : Host.Outcome State Fault Refusal :=
  s.run fun c =>
    let c := c.setSt .BEAD_STATUS F.BEAD_STATUS_FIELD 0
    ((c.endSession).updBead (fun b => { b with quiet := false, selected := false })).toField .silent

/-- READER_FIELD_PRESENT (R364): the tag is ready. The arbiter serves it from the field's power or the device's alike. -/
def execReaderFieldPresent (_powered : Bool) (s : State) : Host.Outcome State Fault Refusal :=
  s.run fun c =>
    if c.field then c
    else ((c.setSt .BEAD_STATUS F.BEAD_STATUS_FIELD 1).updBead (fun b => { b with quiet := false, selected := false })).toField
      .silent

end Sys2Proof.Machine
end

