-- ==== Sys2Proof/Machine/Accept.lean ====
section
/-! DEFINITION. The acceptance of a door request into its ring (R133, R141), and what an accepted mode change does at once. -/

namespace Sys2Proof.Machine

/-- The door logic on the arrival of a request (R133). An accepted mode change increments the port's epoch (R30), which takes the
port's waiters off the wait list (R157). -/
def Chip.accept (c : Chip) (d : Door) (path : Path) (r : Request) (ttp : Option (BitVec 16)) : Chip :=
  let s := c.doors[d]
  let claim := r.opcode = opDOOR_CLAIM
  let holder : Bool := s.path == some path
  if ¬claim ∧ (!holder || s.releasing.isSome) then c.updDoor d (fun s => { s with ignored := s.ignored + 1 })
  else
    let c := if holder && s.releasing.isNone then c.updDoor d (fun s => { s with leaseFrom := c.clk.now }) else c
    if 256 ≤ s.reqs.length then c.answerFree d path r rWAIT
    else
      match (if claim then none else c.checkEpochs d r ttp true) with
      | some (res, v, cur) => (c.cullDoor d 1 res v cur (requestBytes r)).answerFree d path r res
      | none =>
        let c := c.active
        let num := if ¬claim ∨ holder then s.reqNum + 1 else s.reqNum
        let ord := c.nextOrd
        let mc := c.modeChange? r
        let e : ReqEntry :=
          { req := r, path := path, num := if ¬claim ∨ holder then num else 0, ord := ord, bump := mc.isSome,
            st := .pending }
        let c := { c.updDoor d (fun s => { s with reqs := s.reqs ++ [e], reqNum := num }) with nextOrd := ord + 1 }
        match mc with
        | none => c
        | some (n, m, ch) =>
          let q : ReqId := ⟨d, ord⟩
          let c := (c.updPort n (fun p => { p with seqs := p.seqs ++ [⟨m, ch, some q, false, none, false⟩] })).bumpPort n
          c.dropWaiters (fun w => w.port == n)

end Sys2Proof.Machine
end

