-- ==== Sys2Proof/Machine/Door.lean ====
section
/-! DEFINITION. The meanings of the door commands (06, 05, 17): leases, the service port as a door's path (R128, R183), the
door opcodes 0x0101 to 0x010A, TRUNK_MODE, FAULT_STATUS and ENGINE_RELEASE. -/

namespace Sys2Proof.Machine

/-! ### Leases and rate limits -/

/-- LEASE_EXPIRY (R130). -/
def execLeaseExpiry (d : Door) (s : State) : Host.Outcome State Fault Refusal :=
  s.run fun c => if c.leaseDue d then c.release d 1 else c

/-- RATE_WINDOW_END (R378). -/
def execRateWindowEnd (code src : Nat) (s : State) : Host.Outcome State Fault Refusal :=
  s.run fun c => c.rateEnd code src

/-! ### The service port (R128, R138, R183, R311) -/

/-- The door claimed over a path that satisfies `p`. -/
def Chip.doorOn (c : Chip) (p : Path) : Option Door := (List.finRange 8).find? (fun d => (c.doors[d]).path == some p)

/-- SVC_PORT_REQUEST (R128): 64 bytes on the bulk OUT endpoint. A DOOR_CLAIM names its door in its arguments; one whose door
byte is above 7 goes to the door the command itself names (DESIGN CHOICE, log entry 165). -/
def execSvcPortRequest (d : Door) (bytes : List Byte) (s : State) : Host.Outcome State Fault Refusal :=
  s.runS fun c =>
    if !c.svcLive || bytes.length ≠ 64 then c
    else
      let r := parseRequest bytes
      let n := leAt r.args 10 1
      let d : Door := if r.opcode = opDOOR_CLAIM ∧ n < 8 then Fin.ofNat 8 n else d
      c.accept d .svc r none

/-- An event of the service port's door has not been sent (R138). -/
def Chip.svcEventDue (c : Chip) : Option Door :=
  (c.doorOn .svc).filter (fun d => (c.doors[d]).sent < (c.doors[d]).evts.length)

/-- SVC_EVENT_POLL (R138): the next event goes to the commissioning host; it stays in the ring. -/
def execSvcEventPoll (s : State) : Host.Outcome State Fault Refusal :=
  s.run fun c =>
    if !c.svcLive then c
    else match c.svcEventDue with
      | none => c
      | some d => c.updDoor d (fun x => { x with sent := x.sent + 1 })

/-- SVC_PORT_REMOTE_WAKE (R183): at the earliest 5 ms after the bus went into suspend. -/
def execSvcPortRemoteWake (s : State) : Host.Outcome State Fault Refusal :=
  s.run fun c =>
    let p := c.svcPort
    if c.awake && p.rwake && p.driving.isNone && p.suspendedAt.any (fun t => t + ms 5 ≤ c.clk.now) && c.svcEventDue.isSome then
      { c with svcPort := { p with driving := some c.clk.now } }
    else c

/-- Remote-wake K is driven on the service port, for 2.0 ms (R183). -/
def Chip.svcDriving (c : Chip) : Bool := c.svcPort.driving.any (fun t => c.clk.now < t + ms 2)

/-- SVC_HOST_RESUME_K (R183): the bus resumes; a request whose drive has not begun is satisfied. -/
def execSvcHostResumeK (s : State) : Host.Outcome State Fault Refusal :=
  s.run fun c =>
    let p := c.svcPort
    if p.suspendedAt.isNone then c
    else
      let due : Bool := c.awake && p.rwake && p.driving.isNone && c.svcEventDue.isSome
      let c := { c with svcPort := { p with suspendedAt := none, driving := none } }
      if due then c.post (c.ev 0x0170 0 0 [c.sei.time.toNat]) else c

/-- SVC_BUS_SUSPEND (R183): the time of suspend runs from the first. -/
def execSvcBusSuspend (s : State) : Host.Outcome State Fault Refusal :=
  s.run fun c =>
    let p := c.svcPort
    if p.suspendedAt.isSome then c else { c with svcPort := { p with suspendedAt := some c.clk.now } }

/-- SVC_STANDARD_REQUEST (R311). -/
def execSvcStandardRequest (r : SvcStdReq) (s : State) : Host.Outcome State Fault Refusal :=
  s.run fun c =>
    let p := c.svcPort
    let ok : Bool := c.awake && c.clk.boot != .held
    match r with
    | .busReset => { c with svcPort := {} }
    | .setAddress a => if ok && a ≤ 127 then { c with svcPort := { p with address := a, config := 0 } } else c
    | .setConfiguration k => if ok && p.address != 0 && k ≤ 1 then { c with svcPort := { p with config := k } } else c
    | .setRemoteWakeup => if ok && p.config != 0 then { c with svcPort := { p with rwake := true } } else c
    | .clearRemoteWakeup => if ok && p.config != 0 then { c with svcPort := { p with rwake := false } } else c

/-! ### Door opcodes -/

/-- IDENTIFY: serial, part number, grade, FW_VERSION, UCODE_VERSION. -/
def execIdentify (q : ReqId) (s : State) : Host.Outcome State Fault Refusal :=
  s.run fun c => c.serve q 0x0101#16 [0, 4] fun _ c =>
    c.answer q rOK [Config.serial.toNat, 0x9600, Config.gradeCode, c.fw.fwVersion.toNat, c.fw.ucodeVersion.toNat] 32

/-- The response to a DOOR_CLAIM carries REQ_NUM 0 (R136). -/
def Chip.answerClaim (c : Chip) (q : ReqId) (res : Nat) (data : List Nat) (n : Nat) : Chip :=
  match c.entry? q with
  | none => c
  | some e => c.answerEntry q { e with num := 0 } res data n

/-- A DOOR_CLAIM as firmware decides it (R129). -/
def Chip.claim (c : Chip) (q : ReqId) (e : ReqEntry) (owner : BitVec 64) (sub : BitVec 16) : Chip :=
  let d := q.door
  let x := c.doors[d]
  match c.claimBar e.path d with
  | some h => c.answerClaim q rLOCKED [h.val] 1
  | none =>
    match x.path with
    | none =>
      let c := c.claimDoor d e.path owner sub
      c.answerClaim q rOK [(c.doors[d]).epoch.toNat, c.get .MBX_CTL F.MBX_CTL_LEASE] 3
    | some p =>
      if e.req.force ∧ e.path = .svc then c.release d 2 (some ⟨q, owner, sub⟩)
      else c.answerClaim q rLOCKED [pathCode (some p), x.owner.toNat] 9

/-- DOOR_CLAIM (R129). A claim of a door that is being released waits for the end of the release (R131). -/
def execDoorClaim (q : ReqId) (owner : BitVec 64) (sub : BitVec 16) (s : State) : Host.Outcome State Fault Refusal :=
  s.run fun c =>
    if (c.doors[q.door]).releasing.isSome then c
    else c.serve q opDOOR_CLAIM [0, 4] (fun e c => c.claim q e owner sub)

/-- DOOR_RELEASE (R131): its response is the last on the door. -/
def execDoorRelease (q : ReqId) (s : State) : Host.Outcome State Fault Refusal :=
  s.run fun c => c.serve q 0x0103#16 [0, 4] fun _ c => c.releaseBy q

/-- DOOR_KEEPALIVE (R130): its arrival has restarted the lease period. -/
def execDoorKeepalive (q : ReqId) (s : State) : Host.Outcome State Fault Refusal :=
  s.run fun c => c.serve q 0x0104#16 [0, 4] fun _ c => c.answer q rOK

/-- The entries of a ring with SEQ up to `seq`, by serial comparison (R138, R376). -/
def ackedEvents (seq : BitVec 32) (l : List Event) : Nat := (l.takeWhile (fun e => serial e.seq seq != .ahead)).length

/-- EVENT_ACK (R138, R139). -/
def execEventAck (q : ReqId) (seq : BitVec 32) (s : State) : Host.Outcome State Fault Refusal :=
  s.run fun c => c.serve q 0x0105#16 [0, 4] fun _ c =>
    let c := c.updDoor q.door (fun x =>
      let k := ackedEvents seq x.evts
      { x with evts := x.evts.drop k, sent := x.sent - k })
    (c.lostReport q.door).answer q rOK

/-- EVENT_READ (R138): up to 48 entries still held, from a SEQ on. -/
def execEventRead (q : ReqId) (first : BitVec 32) (count : Nat) (s : State) : Host.Outcome State Fault Refusal :=
  s.run fun c => c.serve q 0x0106#16 [0, 4] fun _ c =>
    if 48 < count then c.answer q rBAD_ARG
    else
      let es := ((c.doors[q.door]).evts.filter (fun e => serial e.seq first != .behind)).take count
      c.answer q rOK ((es.flatMap Event.layout).map (·.toNat)) (32 * es.length)

/-- SUBSCRIBE (R137). -/
def execSubscribe (q : ReqId) (mask : BitVec 16) (s : State) : Host.Outcome State Fault Refusal :=
  s.run fun c => c.serve q 0x0107#16 [0, 4] fun _ c => (c.updDoor q.door (fun x => { x with sub := mask })).answer q rOK

/-- CULLET_READ (R143): 0 the door's queue, 1 the device's; the entries returned are removed. -/
def execCulletRead (q : ReqId) (which count : Nat) (s : State) : Host.Outcome State Fault Refusal :=
  s.run fun c => c.serve q 0x0108#16 [0, 4] fun _ c =>
    if 1 < which ∨ 24 < count then c.answer q rBAD_ARG
    else
      let own : Bool := which == 0
      let es := (if own then (c.doors[q.door]).cullet else c.cullet).take count
      let c := if own then c.updDoor q.door (fun x => { x with cullet := x.cullet.drop count })
        else { c with cullet := c.cullet.drop count }
      c.answer q rOK ((es.flatMap Cullet.layout).map (·.toNat)) (64 * es.length)

/-- EPOCH_READ (R140): up to 24 epochs from a first target on; an index without an epoch reads 0. -/
def execEpochRead (q : ReqId) (kind first count : Nat) (s : State) : Host.Outcome State Fault Refusal :=
  s.run fun c => c.serve q 0x0109#16 [0, 4] fun _ c =>
    if 24 < count ∨ !namesTarget kind first then c.answer q rBAD_ARG
    else c.answer q rOK ((List.range count).map (fun i => (c.epochOf kind (first + i)).toNat)) (2 * count)

/-- ROLE_MAP (R28): the 32 engines of a basin, and their roles with the ports they serve. -/
def execRoleMap (q : ReqId) (basin : Nat) (s : State) : Host.Outcome State Fault Refusal :=
  s.run fun c => c.serve q 0x010A#16 [0, 4] fun _ c =>
    if 16 ≤ basin then c.answer q rBAD_ARG
    else c.answer q rOK ((basinEngines basin).flatMap (fun e => [e.val, (c.engines[e]).mapCode])) 96

/-- TRUNK_MODE (R115): needs both lanes enabled. -/
def execTrunkMode (q : ReqId) (pair prefTb : Bool) (s : State) : Host.Outcome State Fault Refusal :=
  s.run fun c => c.serve q 0x0141#16 [0, 4] fun _ c =>
    if !c.laneEn 0 || !c.laneEn 1 then c.answer q rBAD_ARG
    else
      let old := c.rd .TRK_CTL
      let c := c.setB .TRK_CTL F.TRK_CTL_MODE pair
      let c := c.setB .TRK_CTL F.TRK_CTL_PREF_ACTIVE prefTb
      (c.trkCtl old).answer q rOK

/-! ### Integrity opcodes (17) -/

/-- FAULT_STATUS. -/
def execFaultStatus (q : ReqId) (s : State) : Host.Outcome State Fault Refusal :=
  s.run fun c => c.serve q 0x0180#16 [0] fun _ c =>
    let regs : List Reg := [.GLB_FAULT, .ESC_LAST, .INT_QPTR, .INT_RES, .INT_CRC] ++
      (List.finRange 16).flatMap (fun b => [Reg.ENG_QUAR b, Reg.ENG_BASIN b])
    c.answer q rOK (regs.map (fun r => (c.readWord r).toNat)) 148

/-- A quarantined engine returns as a spare (R348). -/
def Chip.releaseEngine (c : Chip) (e : Engine) : Chip :=
  let b : Basin := Fin.ofNat 16 (e.val / 32)
  let c := c.takeOver e
  let c := c.updEng e (fun x => { x with role := .spare, also := [], quar := false, overruns := [] })
  let c := c.wr (.ENG_QUAR b) (c.rd (.ENG_QUAR b) &&& ~~~(1#32 <<< (e.val % 32)))
  (c.syncBasin b).post (c.ev 0x0189 2 e.val [e.val])

/-- ENGINE_RELEASE (R348): `pass` is the result of its self-test. -/
def execEngineRelease (q : ReqId) (engine : Nat) (pass : Bool) (s : State) : Host.Outcome State Fault Refusal :=
  s.run fun c => c.serve q 0x0181#16 [0] fun _ c =>
    let e : Engine := Fin.ofNat 512 engine
    if 512 ≤ engine ∨ !(c.engines[e]).quar then c.answer q rBAD_ARG
    else if !pass then c.answer q rLOCKED
    else (c.releaseEngine e).answer q rOK

end Sys2Proof.Machine
end

