-- ==== Sys2Proof/Machine/Drop.lean ====
section
/-! DEFINITION. The meanings of the drop opcodes (08, 09): 0x0401 to 0x040C. -/

namespace Sys2Proof.Machine

/-- A drop opcode: refused with BAD_ARG on a port whose mode is not DROP. -/
def Chip.serveDrop (c : Chip) (q : ReqId) (op : BitVec 16) (body : Port → Chip → Chip) : Chip :=
  c.servePort q op fun n _ c => if c.isDrop n then body n c else c.answer q rBAD_ARG

/-- A request that the state table does not list for the state: ignored there, and answered BAD_ARG (R166). -/
def Chip.dropRefuse (c : Chip) (n : Port) (q : ReqId) : Chip := (c.dropIgnore n).answer q rBAD_ARG

/-- DROP_STATUS: DROP_STATUS, DROP_SUSP, the position of the drop's first waiter in the wait list, if any. -/
def execDropStatus (q : ReqId) (s : State) : Host.Outcome State Fault Refusal :=
  s.runS fun c => c.serveDrop q 0x0401#16 fun n c =>
    let regs := [(c.rd (.DROP_STATUS n)).toNat, (c.rd (.DROP_SUSP n)).toNat]
    match c.pond.waiters.findIdx? (fun w => w.who.port == n) with
    | some k => c.answer q rOK (regs ++ [k]) 10
    | none => c.answer q rOK regs 8

/-- What is left of the reset recovery of the root device (R168). -/
def Chip.recoveryLeft (c : Chip) (n : Port) : Nat := ((c.ports[n]).drop.until_.getD 0) - c.clk.now

/-- DROP_ENUMERATE (R166, R170, R172): the root device in DEFAULT is enumerated, a refused group is requested again, a root
device in ERROR is reset first; a waiting device behind a hub joins the order of enumeration. -/
def execDropEnumerate (q : ReqId) (route : BitVec 20) (configSel : BitVec 4) (s : State) :
    Host.Outcome State Fault Refusal :=
  s.runS fun c => c.serveDrop q 0x0402#16 fun n c =>
    let sel := configSel.toNat
    if route = 0#20 then
      if c.root n = rsDEFAULT then
        match (c.ports[n]).drop.enum with
        | none => c.startEnum n 0#20 sel (c.recoveryLeft n) 0 (some q)
        | some e =>
          if e.req.isSome then c.dropRefuse n q
          else if e.configSel = sel then
            let e := { e with req := some q }
            (c.updEnum n (fun _ => e)).enumGroup n e
          else c.startEnum n 0#20 sel 0 0 (some q)
      else if c.root n = rsERROR then
        let e : Enum :=
          { route := 0#20, step := 1, attempt := 0, configSel := sel, speed := 0, isHub := false, mps0 := 0, value := 0,
            attrs := 0#8, eps := [], ifs := [], cid := noCid, gen := 0#8, addr := 0, vid := 0#16, pid := 0#16,
            waitUntil := none, since := c.clk.now, req := some q }
        (c.updDrop n (fun d => { d with enum := some e })).startReset n
      else c.dropRefuse n q
    else if (c.dev? n route).any (·.waits) then
      let c := c.updDev n route (fun d => { d with waits := false })
      (c.updDrop n (fun d => { d with enumQ := d.enumQ ++ [(route, sel, some q)] })).nextEnum n
    else c.dropRefuse n q

/-- A device of the tree appears on a hub port: enumerated in its order with AUTO_ENUM, else it waits (R170). -/
def Chip.attachBelow (c : Chip) (n : Port) (route : BitVec 20) (speed : Nat) : Chip :=
  let auto_ := c.bit (.DROP_CTL n) F.DROP_CTL_AUTO_ENUM
  let c := c.putDev n (newDev route speed (!auto_))
  if auto_ then
    (c.updDrop n (fun d => { d with enumQ := d.enumQ ++ [(route, c.configSel n, none)] })).nextEnum n
  else c.evAttach n route speed rOK

/-- DROP_RESET (R166, R175): the subtree is detached and re-attaches; for the root device SE0 is driven. -/
def execDropReset (q : ReqId) (route : BitVec 20) (s : State) : Host.Outcome State Fault Refusal :=
  s.runS fun c => if c.pond.rebuild then c else c.serveDrop q 0x0403#16 fun n c =>
    let st := c.root n
    if route = 0#20 then
      if st = rsERROR then ((c.detach n 0#20).startReset n).answer q rOK
      else if rsDEFAULT ≤ st ∧ st ≤ rsRECOVERY then
        let c := (c.detach n 0#20).dropAnswerAll n rTIMEOUT
        let c := if st = rsSUSPENDED ∨ st = rsRESUMING then c.suspendCh n false else c
        let c := c.updDrop n (fun d => { d with byPower := false, overdrawAt := none })
        (c.startReset n).answer q rOK
      else c.dropRefuse n q
    else
      match c.dev? n route with
      | none => c.dropRefuse n q
      | some d => (((c.detach n route).attachBelow n route d.speed).nextEnum n).answer q rOK

/-- DROP_SUSPEND (R166, R178). -/
def execDropSuspend (q : ReqId) (s : State) : Host.Outcome State Fault Refusal :=
  s.runS fun c => c.serveDrop q 0x0404#16 fun n c =>
    let st := c.root n
    if st = rsACTIVE then (c.updDrop n (fun d => { d with suspendReqs := d.suspendReqs ++ [q] })).startSuspend n
    else if st = rsSUSPENDING ∨ (st = rsSUSPENDED ∧ (c.ports[n]).drop.resume.isNone) then c.answer q rOK
    else if st = rsSUSPENDED ∨ st = rsRESUMING ∨ st = rsRECOVERY then c.updDrop n (fun d => { d with suspendLater := d.suspendLater ++ [q] })
    else c.dropRefuse n q

/-- DROP_RESUME (R166, R179, R181). A DROP_SUSPEND that it ends before SUSPENDED is answered TIMEOUT (DESIGN CHOICE, log entry 199).
In RECOVERY the window is closed and the table lists no such event: refused (R166, R181). -/
def execDropResume (q : ReqId) (s : State) : Host.Outcome State Fault Refusal :=
  s.runS fun c => c.serveDrop q 0x0405#16 fun n c =>
    let st := c.root n
    let d := (c.ports[n]).drop
    let later (c : Chip) : Chip := c.updDrop n (fun d => { d with resumeLater := d.resumeLater ++ [q] })
    if st = rsACTIVE then c.answer q rOK
    else if st = rsSUSPENDING then
      if c.clk.now < d.lastSof + us 2500 then
        let c := c.updDrop n (fun d => { d with suspendReqs := [], until_ := none, byPower := false })
        (((c.setRoot n rsACTIVE).answers d.suspendReqs rTIMEOUT).answer q rOK).nextEnum n
      else later c
    else if st = rsSUSPENDED ∧ d.resume.isNone then c.startResume n [q] false false
    else if st = rsSUSPENDED ∨ st = rsRESUMING then
      c.updDrop n (fun d => { d with resume := d.resume.map (fun r => { r with host := r.host ++ [q] }) })
    else c.dropRefuse n q

/-- The state of a device in DROP_TREE: 0 default, 1 addressed, 2 configured, 3 suspended (R187), 4 waiting (R170). -/
def Chip.devState (c : Chip) (d : Dev) : Nat :=
  if d.waits then 4 else ((c.devBody? d.cid).map (·.state)).getD 0

/-- DROP_TREE: route, address, speed, VID, PID, CID, GEN and state of each device. -/
def execDropTree (q : ReqId) (first count : Nat) (s : State) : Host.Outcome State Fault Refusal :=
  s.runS fun c => c.serveDrop q 0x0406#16 fun n c =>
    if 8 < count then c.answer q rBAD_ARG
    else
      let ds := ((c.ports[n]).drop.devs.drop first).take count
      c.answer q rOK (ds.flatMap (fun d =>
        [d.route.toNat, d.addr, d.speed, d.vid.toNat, d.pid.toNat, d.cid, d.gen.toNat, c.devState d])) (16 * ds.length)

/-- DROP_SET (R169): the previous values. -/
def execDropSet (q : ReqId) (autoEnum rwakeEn : Bool) (speedMax : BitVec 2) (configSel : BitVec 4) (retry : BitVec 2)
    (suspBudget : BitVec 12) (s : State) : Host.Outcome State Fault Refusal :=
  s.runS fun c => c.serveDrop q 0x0407#16 fun n c =>
    if c.frozen then c.answer q rLOCKED
    else
      let prev := [(c.rd (.DROP_CTL n)).toNat, c.get (.DROP_SUSP n) F.DROP_SUSP_SUSP_BUDGET]
      let w := fset (fset (c.rd (.DROP_CTL n)) F.DROP_CTL_AUTO_ENUM (bitOf autoEnum)) F.DROP_CTL_RWAKE_EN (bitOf rwakeEn)
      let w := fset (fset w F.DROP_CTL_SPEED_MAX speedMax.toNat) F.DROP_CTL_CONFIG_SEL configSel.toNat
      let was := c.bit (.DROP_CTL n) F.DROP_CTL_AUTO_ENUM
      let c := c.wrRW (.DROP_CTL n) (fset w F.DROP_CTL_ENUM_RETRY retry.toNat)
      let c := (c.setRW (.DROP_SUSP n) F.DROP_SUSP_SUSP_BUDGET suspBudget.toNat).answer q rOK prev 6
      if was then c else c.autoEnum n

/-- DROP_CONTROL (R192 to R195): refused requests are not sent; the others join the drop's queue. -/
def execDropControl (q : ReqId) (route : BitVec 20) (setup : List Byte) (timeoutMs : Nat) (out : List Byte) (s : State) :
    Host.Outcome State Fault Refusal :=
  s.runS fun c => if c.pond.rebuild && (resyncOf setup).sets then c else c.serveDrop q 0x0408#16 fun n c =>
    match c.dev? n route with
    | none => c.answer q rBAD_ARG
    | some d =>
      if !d.configured || setup.length != 8 || 32 < out.length then c.answer q rBAD_ARG
      else
        match refusedCtl d.hub setup with
        | some v => c.answer q v
        | none =>
          let c := c.updDrop n (fun x => { x with runs := x.runs.map (fun r =>
            if r.route = route ∧ r.ep.toNat % 16 = 0 then { r with stopped := false } else r) })
          c.ctlStart n d { route := route, by_ := .door q, setup := setup, out := out, span := ms timeoutMs,
                           deadline := c.clk.now + ms timeoutMs }

/-- WEIR_SET (R197): the previous values; the change takes effect at the next microframe boundary. -/
def execWeirSet (q : ReqId) (route : BitVec 20) (ep nakBudget weight : Byte) (s : State) :
    Host.Outcome State Fault Refusal :=
  s.runS fun c => c.serveDrop q 0x0409#16 fun n c =>
    match (c.dev? n route).bind (fun d => c.ep? d.cid ep) with
    | none => c.answer q rBAD_ARG
    | some x =>
      if nakBudget = 0#8 ∨ weight = 0#8 then c.answer q rBAD_ARG
      else
        let w : WeirMsg := { epoch := (c.ports[n]).epoch, cid := x.1, gen := (c.ctx x.1).gen, budget := nakBudget.toNat,
                             weight := weight.toNat }
        let c := c.updDrop n (fun d => { d with weirs := d.weirs ++ [w] })
        c.answer q rOK [x.2.nakBudget, x.2.weight] 2

/-- SOF_STAMP_OPEN (R200): a stream of the requesting door, by a reference that holds (R148); STAMP_DIV 1 to 65,536, 0 taken as the
default of 8. -/
def execSofStampOpen (q : ReqId) (cid : Cid) (gen : Byte) (div : Nat) (s : State) : Host.Outcome State Fault Refusal :=
  s.runS fun c => c.serveDrop q 0x040A#16 fun n c =>
    match c.strmRef? cid.toNat gen with
    | none => c.answer q rROLE_CHANGED
    | some st =>
      if st.door ≠ q.door ∨ 65536 < div then c.answer q rBAD_ARG
      else
        let t : StampStream := { cid := cid.toNat, gen := gen, div := if div = 0 then 8 else div }
        (c.updDrop n (fun d => { d with stamps := d.stamps.filter (fun x => !(x.cid == t.cid && x.gen == t.gen)) ++ [t] })).answer
          q rOK

/-- SOF_STAMP_READ (R200): the latest stamp. -/
def execSofStampRead (q : ReqId) (s : State) : Host.Outcome State Fault Refusal :=
  s.runS fun c => c.serveDrop q 0x040B#16 fun n c => c.answer q rOK ((c.stampBytes n).map (·.toNat)) 112

/-- DROP_SCHED_READ: route, endpoint, PERIOD as its EP body has it, phase and cost of each admitted endpoint. -/
def execDropSchedRead (q : ReqId) (first count : Nat) (s : State) : Host.Outcome State Fault Refusal :=
  s.runS fun c => c.serveDrop q 0x040C#16 fun n c =>
    if 8 < count then c.answer q rBAD_ARG
    else
      let l := ((c.ports[n]).drop.sched.drop first).take count
      c.answer q rOK (l.flatMap (fun x =>
        [x.route.toNat, x.ep.toNat, Nat.log2 (if x.tt.isSome then x.period / 8 else x.period), x.phase, x.cost]))
        (12 * l.length)

end Sys2Proof.Machine
end

