-- ==== Sys2Proof/Machine/DropEvents.lean ====
section
/-! DEFINITION. The meanings of what happens on a drop (08, 09): its bus, its timers, its hubs, its transactions. A timer's
command acts only once its time has passed. -/

namespace Sys2Proof.Machine

/-- The end of a drop's state timer has passed. -/
def Chip.dropDue (c : Chip) (n : Port) : Bool := (c.ports[n]).drop.until_.any (· ≤ c.clk.now)

/-! ### Attach and reset (R166 to R169) -/

/-- A pull-up is seen (R166, R167): debounce of 100 ms. -/
def execDropPullupSeen (n : Port) (onDPlus : Bool) (s : State) : Host.Outcome State Fault Refusal :=
  s.runS fun c =>
    if !c.isDrop n || !c.basinUp n || c.detaching n then c
    else if c.root n = rsDISCONNECTED then
      (c.updDrop n (fun d => { d with pullup := some onDPlus, until_ := some (c.clk.now + ms 100) })).setRoot n rsDEBOUNCE
    else c.dropIgnore n

/-- The pull-up goes away during debounce (R166). -/
def execDropPullupLost (n : Port) (s : State) : Host.Outcome State Fault Refusal :=
  s.runS fun c =>
    if !c.isDrop n || !c.basinUp n then c
    else if c.root n = rsDEBOUNCE then
      (c.updDrop n (fun d => { d with pullup := none, until_ := none })).setRoot n rsDISCONNECTED
    else c.dropIgnore n

/-- The debounce ends: SE0 (R166). -/
def execDebounceExpiry (n : Port) (s : State) : Host.Outcome State Fault Refusal :=
  s.runS fun c => if c.isDrop n ∧ c.basinUp n ∧ c.root n = rsDEBOUNCE ∧ c.dropDue n then c.startReset n else c

/-- A device chirp K, ended `endedByUs` after the start of the reset (R168, R169): answered on a D+ pull-up where SPEED_MAX
allows high speed and the chirp ended within 7.0 ms. -/
def execDeviceChirpK (n : Port) (endedByUs : Nat) (s : State) : Host.Outcome State Fault Refusal :=
  s.runS fun c =>
    let d := (c.ports[n]).drop
    if !c.isDrop n then c
    else if c.root n ≠ rsRESETTING then c.dropIgnore n
    else if d.pullup = some true ∧ d.hsOk ∧ endedByUs ≤ 7000 then c.updDrop n (fun d => { d with chirped := true })
    else c

/-- The reset ends at the detected speed (R166, R168): DEFAULT, SOF; then enumeration, or ATTACH with OK (R170). -/
def execRootResetExpiry (n : Port) (s : State) : Host.Outcome State Fault Refusal :=
  s.runS fun c =>
    if !c.isDrop n ∨ c.root n ≠ rsRESETTING ∨ !c.dropDue n then c
    else
      let d := (c.ports[n]).drop
      let speed := if d.chirped then spHS else if d.pullup = some true then spFS else spLS
      let c := c.updDrop n (fun d => { d with until_ := some (c.clk.now + ms 10) })
      let w := fset (fset (c.rd (.DROP_STATUS n)) F.DROP_STATUS_SPEED speed) F.DROP_STATUS_STATE rsDEFAULT
      let c := (c.wr (.DROP_STATUS n) w).bump (.DROP_STATUS n)
      let auto_ := c.bit (.DROP_CTL n) F.DROP_CTL_AUTO_ENUM
      let c := c.putDev n (newDev 0#20 speed (!auto_ && d.enum.isNone))
      match d.enum with
      | some e => c.startEnum n 0#20 e.configSel (ms 10) e.attempt e.req
      | none =>
        if auto_ then c.startEnum n 0#20 (c.configSel n) (ms 10) 0 none else c.evAttach n 0#20 speed rOK

/-! ### Enumeration (R170 to R173) -/

/-- The enumeration in progress, where its requests can run. -/
def Chip.enumLive (c : Chip) (n : Port) : Option Enum :=
  if c.isDrop n ∧ (c.root n = rsENUMERATING ∨ c.root n = rsACTIVE) then (c.ports[n]).drop.enum else none

/-- A request of the enumeration completes or fails (R171); before a wait has ended there is none. -/
def execEnumRequestComplete (n : Port) (r : EnumResult) (s : State) : Host.Outcome State Fault Refusal :=
  s.runS fun c =>
    match c.enumLive n with
    | none => c
    | some e =>
      let now := c.clk.now
      if e.waitUntil.any (now < ·) ∨ (e.step = 9 ∧ e.waitUntil.isSome) ∨ e.step = 4 then c
      else
        let e := { e with waitUntil := none, since := now }
        let c := c.active
        (c.updEnum n (fun _ => e)).enumStep n e r

/-- A wait of the enumeration ends (R168): the reset recovery, the time after SetAddress, or the power-good time of a hub. -/
def execEnumWaitExpiry (n : Port) (s : State) : Host.Outcome State Fault Refusal :=
  s.runS fun c =>
    match c.enumLive n with
    | none => c
    | some e =>
      let now := c.clk.now
      if !e.waitUntil.any (· ≤ now) then c
      else
        let e := { e with waitUntil := none, since := now }
        let c := c.updEnum n (fun _ => e)
        if e.step = 9 then c.enumDone n e else c

/-- A stage of a control transfer times out: 500 ms for an enumeration request (R168, R171), the request's own TIMEOUT for a
DROP_CONTROL. On a drop that is suspended transfers stay queued (R178). -/
def execControlStageTimeout (n : Port) (s : State) : Host.Outcome State Fault Refusal :=
  s.runS fun c =>
    let now := c.clk.now
    let c : Chip := match c.enumLive n with
      | some e =>
        let from_ := max e.since (e.waitUntil.getD 0)
        if from_ + ms 500 ≤ now ∧ e.step ≠ 4 ∧ !(e.step = 9 ∧ e.waitUntil.isSome) then c.enumRetry n e else c
      | none => c
    if c.isDrop n && c.root n == rsACTIVE then
      c.each ((c.ports[n]).drop.ctls.filter (fun k => k.deadline ≤ now)) (fun c k => c.ctlTimeout n k)
    else c

/-! ### Removal (R175) and the connector (R167) -/

/-- A disconnect of the root device (R166, R175). -/
def execDropDisconnect (n : Port) (s : State) : Host.Outcome State Fault Refusal :=
  s.runS fun c =>
    let st := c.root n
    if !c.isDrop n || !c.basinUp n then c
    else if (rsDEBOUNCE ≤ st ∧ st ≤ rsRECOVERY) ∨ st = rsERROR then c.disconnectRoot n
    else c.dropIgnore n

/-- Rd is seen on one CC ball for 150 ms (R167, R278), with Ra on the other or none: an ARMED channel starts its inrush where its rail
admits one; on a channel already ON, VCONN goes to that Ra (R297). -/
def execTypecRdSeen (n : Port) (x : RdSeen) (s : State) : Host.Outcome State Fault Refusal :=
  s.runS fun c =>
    if !c.typeC n || (c.chans[n]).phase == .off then c
    else
      let c := c.updDrop n (fun d => { d with rd := some x.onCc2, ra := x.ra })
      if (c.chans[n]).phase = .armed ∧ c.inrushOk n ∧ c.dieUp (fuseDie n) then c.startInrush n
      else if (c.ports[n]).pd.converterOn then c.vconnRa n
      else c

/-- Rd is lost for 15 ms (R167, R278): VBUS off, the channel ARMED, a disconnect, the contract ended (R307). -/
def execTypecRdLost (n : Port) (s : State) : Host.Outcome State Fault Refusal :=
  s.runS fun c =>
    let x : Chan := c.chans[n]
    if !c.typeC n || (c.ports[n]).drop.rd.isNone then c
    else
      let c := c.updDrop n (fun d => { d with rd := none, ra := false })
      let on : Bool := x.phase == .inrush || x.phase == .hold || x.phase == .on || x.phase == .suspend
      let c := if on then
          c.updCh n (fun x => { x with phase := .armed, onSince := none, offAt := some c.clk.now })
        else c
      let st := c.root n
      let c := if (rsDEBOUNCE ≤ st ∧ st ≤ rsRECOVERY) ∨ st = rsERROR then c.disconnectRoot n else c
      c.pdStop n ceDETACH

/-! ### Suspend, resume, remote wake (R178 to R182) -/

/-- 3 ms since the last SOF (R166): SUSPENDED. -/
def execSuspendIdleExpiry (n : Port) (s : State) : Host.Outcome State Fault Refusal :=
  s.runS fun c => if c.isDrop n ∧ c.root n = rsSUSPENDING ∧ c.dropDue n then c.suspended n else c

/-- 10 ms after SUSPENDED (R178): the average current against SUSP_BUDGET. -/
def execOverdrawCheck (n : Port) (avgMa : BitVec 12) (s : State) : Host.Outcome State Fault Refusal :=
  s.runS fun c =>
    let d := (c.ports[n]).drop
    if !c.isDrop n ∨ c.root n ≠ rsSUSPENDED ∨ !d.overdrawAt.any (· ≤ c.clk.now) then c
    else
      let budget := c.get (.DROP_SUSP n) F.DROP_SUSP_SUSP_BUDGET
      let c := c.updDrop n (fun d => { d with overdrawAt := none })
      if budget < avgMa.toNat then
        let c := c.record (.DROP_STATUS n) F.DROP_STATUS_OVERDRAW_SEEN
        let c := c.setF (.DROP_SUSP n) F.DROP_SUSP_MEASURED avgMa.toNat
        c.post (c.ev 0x0409 1 n.val [avgMa.toNat, budget])
      else c

/-- Remote-wake K is qualified on the root port (R166, R180 to R182). While engines have no clock the crossing to the port engine
holds it (R73); in Sleep it is also the wake source's (R335). -/
def execRemoteWakeK (n : Port) (s : State) : Host.Outcome State Fault Refusal :=
  s.runS fun c =>
    if !c.isDrop n then c
    else if c.dozing then
      (if c.root n = rsSUSPENDED then c.pulse (n.val / 6) (6 + n.val % 6) (.remoteWake n) none id else c)
    else c.remoteWake n

/-- 20 ms of K are done (R166, R179): EOP, the window closes, RECOVERY. -/
def execResumeKDone (n : Port) (s : State) : Host.Outcome State Fault Refusal :=
  s.runS fun c =>
    if c.isDrop n ∧ c.root n = rsRESUMING ∧ c.dropDue n then
      ((c.driveK n).updDrop n (fun d => { d with until_ := some (c.clk.now + ms 10) })).setRoot n rsRECOVERY
    else c

/-- 10 ms since EOP (R166, R179): RESUMED, ACTIVE. -/
def execResumeRecoveryDone (n : Port) (s : State) : Host.Outcome State Fault Refusal :=
  s.runS fun c => if c.isDrop n ∧ c.root n = rsRECOVERY ∧ c.dropDue n then c.resumed n else c

/-! ### Microframes and transactions (R184 to R200) -/

/-- A grid boundary reaches a drop (R184, R198): the latest boundary of the Seiche tick, once. Seiche runs in Run and Idle
for it (R200). -/
def execMicroframeBoundary (n : Port) (s : State) : Host.Outcome State Fault Refusal :=
  s.runS fun c =>
    let m := c.sei.time.toNat / 200000
    if !c.isDrop n || !c.sei.running || c.dozing || (c.ports[n]).drop.lastM == some m then c
    else c.boundary n (m * 200000)

/-- Transactions run on a drop (R178, R184): it is ACTIVE, or is being suspended and no microframe boundary has come since, and the
schedule of the present microframe or frame stands. -/
def Chip.wireOpen (c : Chip) (n : Port) : Bool :=
  let x := (c.ports[n]).drop
  (if c.root n == rsSUSPENDING then
    x.lastM == some c.microframe && c.isDrop n && c.basinUp n && (c.pwr.st == .run || c.pwr.st == .idle) && (c.engineOf (.port n)).isSome
   else c.root n == rsACTIVE && c.sofRuns n) && x.slot == some (c.slotNow n)

/-- A transaction on the wire ends (R184, R186 to R191). Only the endpoint whose turn it is has one, in the microframe or frame whose
schedule stands. -/
def execTransactionComplete (n : Port) (route : BitVec 20) (ep : Byte) (r : TxResult) (s : State) :
    Host.Outcome State Fault Refusal :=
  s.runS fun c =>
    if !c.wireOpen n then c
    else
      match c.nextTurn n, c.dev? n route with
      | some (rt, e, turn), some d =>
        if rt ≠ route ∨ e ≠ ep then c
        else
          match c.ep? d.cid ep with
          | none => c
          | some x => c.transact n d x turn r
      | _, _ => c

/-- The millisecond of a drop's frame (R198). -/
def Chip.frameMs (c : Chip) : Nat := c.sei.time.toNat / 1600000

/-- The poll of a hub in the present millisecond has not read a port yet (R174). -/
def Dev.pollOpen (h : Dev) (f port : Nat) : Bool := h.polled.1 != f || !h.polled.2.contains port

/-- A port is read in the present millisecond's poll of a hub (R174). -/
def Chip.pollPort (c : Chip) (n : Port) (hub : BitVec 20) (port : Nat) : Chip :=
  let f := c.frameMs
  c.updDev n hub (fun h => { h with polled := (f, port :: if h.polled.1 = f then h.polled.2 else []) })

/-- The poll of a hub's status change endpoint, once per millisecond, finds a change on one of its ports (R174, R175); each port whose
bit is set is read once in a poll. -/
def execHubStatusPoll (n : Port) (hub : BitVec 20) (port : Nat) (ch : Option HubChange) (s : State) :
    Host.Outcome State Fault Refusal :=
  s.runS fun c =>
    match c.dev? n hub, ch with
    | some h, some x =>
      if !c.sofRuns n || c.root n != rsACTIVE || !h.configured || port == 0 || h.hubPorts < port || !h.pollOpen c.frameMs port then c
      else
        let c := c.pollPort n hub port
        let r := routeChild hub port
        match x with
        | .connect fs hs =>
          let c := if (c.dev? n r).isSome then c.detach n r else c
          (c.attachBelow n r (if hs then spHS else if fs then spFS else spLS)).nextEnum n
        | .disconnect => if (c.dev? n r).isSome then (c.detach n r).nextEnum n else c
        | .overCurrent => (c.record (.DROP_STATUS n) F.DROP_STATUS_OC_SEEN).evPortStatus n r 1 0
    | _, _ => c

/-- A record open for longer than PARISON_MAX of its drop (R203): closed as CULLET by the stream engine. -/
def execParisonTimeout (queue idx : Nat) (s : State) : Host.Outcome State Fault Refusal :=
  s.runS fun c =>
    match c.svc.streams.find? (fun t => t.id.toNat == queue) with
    | none => c
    | some t =>
      match t.recs[idx]? with
      | none => c
      | some r =>
        let p : Port := Fin.ofNat 96 (r.src % 128)
        let limit := ms (c.getPos (.DROP_PARISON p) F.DROP_PARISON_PARISON_MAX)
        if r.st = .opened ∧ r.openedAt + limit < c.clk.now then
          let recs := t.recs.set idx { r with st := .cullet, flags := r.flags ||| pfTIMEOUT }
          let c := c.updStrm t.id (fun t => { t with recs := recs })
          c.post (c.ev 0x0411 1 p.val [queue, p.val])
        else c

end Sys2Proof.Machine
end

