-- ==== Sys2Proof/Machine/Fabric.lean ====
section
/-! DEFINITION. The meanings of register accesses (15): the register window's frames (R113), the 0x0Bxx opcodes (R145), the
four paths (R311), the key (R314), aliases (R313), and the Clearwater check (R321 to R325). -/

namespace Sys2Proof.Machine

/-! ### Writes and reads by a path -/

/-- LEASE_WRITE: a write of MBX_CTL (R130). -/
def execLeaseWrite (p : RegPath) (v : Word) (s : State) : Host.Outcome State Fault Refusal :=
  s.runES fun c => c.pathWrite p (Reg.MBX_CTL).addr v

/-- KEY_UNLOCK_WRITE (R314). -/
def execKeyUnlockWrite (p : RegPath) (v : Word) (s : State) : Host.Outcome State Fault Refusal :=
  s.runES fun c => c.pathWrite p (Reg.KEY_UNLOCK).addr v

/-- KEY_UNLOCK_LAPSE (R314): an unused unlock lapses after 100 ms. -/
def execKeyUnlockLapse (p : RegPath) (s : State) : Host.Outcome State Fault Refusal :=
  s.run fun c => if (c.fab.unlock[p]).any (fun t => t ≤ c.clk.now) then c.lock p else c

/-- REGISTER_WRITE: a whole word (R310, R314, R318). -/
def execRegisterWrite (p : RegPath) (addr : Nat) (v : Word) (s : State) : Host.Outcome State Fault Refusal :=
  s.runES fun c => c.pathWrite p addr v

/-- ALIAS_WRITE: one bit through its alias word (R313). -/
def execAliasWrite (p : RegPath) (addr : Nat) (v : Word) (s : State) : Host.Outcome State Fault Refusal :=
  s.runES fun c => c.pathWrite p addr v

/-- STATUS_SEQ_CLEAR: a write of a status register (R316). -/
def execStatusSeqClear (p : RegPath) (addr : Nat) (v : Word) (s : State) : Host.Outcome State Fault Refusal :=
  s.runES fun c => c.pathWrite p addr v

/-- AON_WRITE_APPLY (R319). -/
def execAonWriteApply (s : State) : Host.Outcome State Fault Refusal := s.runS Chip.aonApply

/-- SEI_TIME_LO_READ (R245). -/
def execSeiTimeLoRead (p : RegPath) (s : State) : Host.Outcome State Fault Refusal :=
  s.run fun c => c.pathRead p (Reg.SEI_TIME_LO).addr

/-- BELT_POS_LO_READ (R249). -/
def execBeltPosLoRead (p : RegPath) (b : Belt) (s : State) : Host.Outcome State Fault Refusal :=
  s.run fun c => c.pathRead p (Reg.BELT_POS_LO b).addr

/-- HOLDER_QUOTA_WRITE (R154). -/
def execHolderQuotaWrite (p : RegPath) (h : Fin 99) (v : Word) (s : State) : Host.Outcome State Fault Refusal :=
  s.runES fun c => c.pathWrite p (Reg.HOLDER_QUOTA h).addr v

/-- The timing register of a line by number: LINE_NBT, LINE_DBT, LINE_TDC. -/
def timingReg (n : Port) (which : Fin 3) : Reg :=
  match which.val with
  | 0 => .LINE_NBT n
  | 1 => .LINE_DBT n
  | _ => .LINE_TDC n

/-- LINE_TIMING_REG_WRITE (R228). -/
def execLineTimingRegWrite (p : RegPath) (n : Port) (which : Fin 3) (v : Word) (s : State) :
    Host.Outcome State Fault Refusal :=
  s.runES fun c => c.pathWrite p (timingReg n which).addr v

/-- MEAS_EXT_GO: a write of MEAS_EXT_CTL (R87, R88). -/
def execMeasExtGo (p : RegPath) (v : Word) (s : State) : Host.Outcome State Fault Refusal :=
  s.runES fun c => c.pathWrite p (Reg.MEAS_EXT_CTL).addr v

/-- ATT_CTL_GO: a write of ATT_CTL (R96). -/
def execAttCtlGo (p : RegPath) (v : Word) (s : State) : Host.Outcome State Fault Refusal :=
  s.runES fun c => c.pathWrite p (Reg.ATT_CTL).addr v

/-- XSPI_CMD with an operation, its length and GO (R104). -/
def Chip.xspiWord (c : Chip) (op len : Nat) : Word :=
  fset (fset (fset (c.rd .XSPI_CMD) F.XSPI_CMD_OP op) F.XSPI_CMD_LEN len) F.XSPI_CMD_GO 1

/-- XSPI_READ. -/
def execXspiRead (p : RegPath) (len : BitVec 9) (s : State) : Host.Outcome State Fault Refusal :=
  s.runES fun c => c.pathWrite p (Reg.XSPI_CMD).addr (c.xspiWord xoREAD len.toNat)

/-- XSPI_PROGRAM. -/
def execXspiProgram (p : RegPath) (len : BitVec 9) (s : State) : Host.Outcome State Fault Refusal :=
  s.runES fun c => c.pathWrite p (Reg.XSPI_CMD).addr (c.xspiWord xoPROGRAM len.toNat)

/-- XSPI_ERASE_64K. -/
def execXspiErase64k (p : RegPath) (s : State) : Host.Outcome State Fault Refusal :=
  s.runES fun c => c.pathWrite p (Reg.XSPI_CMD).addr (c.xspiWord xoERASE (c.get .XSPI_CMD F.XSPI_CMD_LEN))

/-- XSPI_READ_ID. -/
def execXspiReadId (p : RegPath) (s : State) : Host.Outcome State Fault Refusal :=
  s.runES fun c => c.pathWrite p (Reg.XSPI_CMD).addr (c.xspiWord xoREAD_ID (c.get .XSPI_CMD F.XSPI_CMD_LEN))

/-- XSPI_OP_END (R104). -/
def execXspiOpEnd (ready : Bool) (fsr : Byte) (s : State) : Host.Outcome State Fault Refusal :=
  s.runS fun c => c.xspiEnd ready fsr

/-- SVC_VENDOR_REQUEST (R311): path 2. -/
def execSvcVendorRequest (write : Bool) (addr : Nat) (v : Word) (s : State) : Host.Outcome State Fault Refusal :=
  s.runES fun c => if write then c.pathWrite 2 addr v else .ok (c.pathRead 2 addr)

/-- JTAG_REG_ACCESS (R311, R312): path 3. -/
def execJtagRegAccess (write : Bool) (addr : Nat) (v : Word) (s : State) : Host.Outcome State Fault Refusal :=
  s.runES fun c => if write then c.pathWrite 3 addr v else .ok (c.pathRead 3 addr)

/-! ### The register window over the trunk (R112, R113) -/

/-- One 12-byte operation: the bytes of its response. DATA in the response to a write is the value written (DESIGN CHOICE, log entry
187: the manual gives DATA in a response as the value read). -/
def Chip.regwinOp (c : Chip) (b : List Byte) : Except Fault (List Byte × Chip) :=
  let a := leAt b 4 4
  let reply (st : Nat) (v : Word) : List Byte :=
    bytesAt b 0 1 ++ leBytes 1 st ++ leBytes 2 0 ++ leBytes 4 a ++ leBytes 4 v.toNat
  match leAt b 0 1 with
  | 1 =>
    let (x, c) := c.fabRead a
    .ok (reply x.status x.value, c)
  | 2 =>
    match c.fabWrite 0 true a (BitVec.ofNat 32 (leAt b 8 4)) with
    | .error e => .error e
    | .ok (st, c) => .ok (reply st (BitVec.ofNat 32 (leAt b 8 4)), c)
  | _ => .ok (reply fsREFUSED 0#32, c)

/-- The operations of a frame in order. -/
def Chip.regwinOps : Chip → List (List Byte) → Except Fault (List Byte × Chip)
  | c, [] => .ok ([], c)
  | c, b :: t =>
    match c.regwinOp b with
    | .error e => .error e
    | .ok (r, c) =>
      match Chip.regwinOps c t with
      | .error e => .error e
      | .ok (u, c) => .ok (r ++ u, c)

/-- REGWIN_FRAME_RECEIVE: the first delivered REGWIN frame is served, and answered with a frame of the same length. -/
def execRegwinFrameReceive (s : State) : Host.Outcome State Fault Refusal :=
  s.runES fun c =>
    match (if c.pathUp 0 then c.takeDelivered (fun _ f => f.typ.toNat == ttREGWIN) else none) with
    | none => .ok c
    | some ((_, f), c) =>
      let n := f.length.toNat / 12
      let ops := (List.range n).map (fun i => bytesAt f.payload (12 * i) 12)
      match c.active.regwinOps ops with
      | .error e => .error e
      | .ok (b, c) => .ok (c.sendFrame ttREGWIN 0 0 0#16 f.length.toNat (.bytes b))

/-! ### The 0x0Bxx opcodes (R145) -/

/-- `serve` for a body that may alter a reserved bit (R15). -/
def Chip.serveE (c : Chip) (q : ReqId) (op : BitVec 16) (body : Chip → Except Fault Chip) : Except Fault Chip :=
  match c.ready q op with
  | none => .ok c
  | some e =>
    match c.takeVerdict q e with
    | some _ => .ok (c.serve q op [0] (fun _ c => c))
    | none =>
      let c := (c.setReqSt q .executing).active
      if badTarget e.req || e.req.tgtKind ≠ 0 then .ok (c.answer q rBAD_ARG) else body c

/-- Read consecutive words: those read before the first unmapped one, and whether all were mapped. -/
def Chip.readWords : Nat → Nat → Chip → List Word × Bool × Chip
  | 0, _, c => ([], true, c)
  | n + 1, a, c =>
    let (x, c) := c.fabRead a
    if x.status ≠ fsDONE then ([], false, c)
    else
      let (l, ok, c) := Chip.readWords n (a + 4) c
      (x.value :: l, ok, c)

/-- REG_READ. -/
def execRegRead (q : ReqId) (addr count : Nat) (s : State) : Host.Outcome State Fault Refusal :=
  s.runS fun c => c.serve q 0x0B01#16 [0] fun _ c =>
    if count = 0 ∨ 12 < count then c.answer q rBAD_ARG
    else
      let (l, ok, c) := Chip.readWords count addr c
      if ok then c.answer q rOK (l.map (·.toNat)) (4 * count) else c.answer q rBAD_ARG [l.length] 1

/-- The result of a fabric STATUS for a 0x0Bxx opcode. -/
def regResult (st : Nat) : Nat := if st = fsDONE then rOK else if st = fsUNMAPPED then rBAD_ARG else rLOCKED

/-- The word that a write at an address, alias words included, gives MEAS_EXT_CTL; none where it leaves GO alone. -/
def Chip.extWord (c : Chip) (addr : Nat) (v : Word) : Option Word :=
  if addr = (Reg.MEAS_EXT_CTL).addr then some v
  else if aliasBit addr = some (.MEAS_EXT_CTL, F.MEAS_EXT_CTL_GO.lo) then
    some (fset (c.rd .MEAS_EXT_CTL) F.MEAS_EXT_CTL_GO (bitOf (v.getLsbD 0)))
  else none

/-- A write is an extend that the full log refuses (R91). -/
def Chip.extFull (c : Chip) (addr : Nat) (v : Word) : Bool :=
  (c.extWord addr v).any (fun w =>
    fget w F.MEAS_EXT_CTL_GO == 1 && measAllowed true (fget w F.MEAS_EXT_CTL_INDEX) && c.logFull)

/-- A write by firmware on path 1, as its request sees it: an extend on a full log is refused (R91). -/
def Chip.fwWord (c : Chip) (addr : Nat) (v : Word) : Except Fault (Nat × Chip) :=
  let full := c.extFull addr v
  match c.fabWrite 1 true addr v with
  | .error e => .error e
  | .ok (st, c) => .ok (if st = fsDONE ∧ full then fsREFUSED else st, c)

/-- Write words in address order up to the first refused or unmapped one: how many, and the STATUS that stopped. -/
def Chip.writeWords : List Word → Nat → Chip → Except Fault (Nat × Nat × Chip)
  | [], _, c => .ok (0, fsDONE, c)
  | v :: t, a, c =>
    match c.fwWord a v with
    | .error e => .error e
    | .ok (st, c) =>
      if st ≠ fsDONE then .ok (0, st, c)
      else
        match Chip.writeWords t (a + 4) c with
        | .error e => .error e
        | .ok (n, st, c) => .ok (n + 1, st, c)

/-- REG_WRITE. -/
def execRegWrite (q : ReqId) (addr : Nat) (data : List Word) (s : State) : Host.Outcome State Fault Refusal :=
  s.runES fun c => c.serveE q 0x0B02#16 fun c =>
    if data.length = 0 ∨ 10 < data.length then .ok (c.answer q rBAD_ARG)
    else
      match Chip.writeWords data addr c with
      | .error e => .error e
      | .ok (n, st, c) => .ok (c.answer q (regResult st) [n] 1)

/-- One write by path 1, answered: the number of words completed on a failure. -/
def Chip.writeAnswer (c : Chip) (q : ReqId) (addr : Nat) (v : Word) : Except Fault Chip :=
  match c.fwWord addr v with
  | .error e => .error e
  | .ok (st, c) => .ok (if st ≠ fsDONE then c.answer q (regResult st) [0] 1 else c.answer q rOK)

/-- REG_MODIFY. -/
def execRegModify (q : ReqId) (addr : Nat) (mask value : Word) (s : State) : Host.Outcome State Fault Refusal :=
  s.runES fun c => c.serveE q 0x0B03#16 fun c =>
    let (x, c) := c.fabRead addr
    if x.status ≠ fsDONE then .ok (c.answer q rBAD_ARG [0] 1)
    else c.writeAnswer q addr ((x.value &&& ~~~mask) ||| (value &&& mask))

/-- REG_KEYED_WRITE (R315): the key and the write, with no other access of path 1 between. -/
def execRegKeyedWrite (q : ReqId) (addr : Nat) (value : Word) (s : State) : Host.Outcome State Fault Refusal :=
  s.runES fun c => c.serveE q 0x0B04#16 fun c => (c.keyWrite 1 0xC3A5#32).writeAnswer q addr value

/-! ### The Clearwater check (R321 to R325) -/

/-- The configuration-class registers of a port, in ascending address order. -/
def cfgPort (n : Port) : List Reg :=
  [.DROP_CTL n, .DROP_SUSP n, .DROP_FRAME n, .DROP_WEIR n, .DROP_PARISON n, .SVC_PORT n, .PD_CFG n, .LINE_CTL n, .LINE_NBT n,
   .LINE_DBT n, .LINE_TDC n, .LINE_WARN n, .LINE_POLL n, .LINE_HOLD n] ++
    (List.finRange 32).flatMap (fun k => [.LINE_FLT_ID n k, .LINE_FLT_MASK n k])

/-- The configuration-class registers of a fuse channel. -/
def cfgChan (n : Port) : List Reg :=
  [.CH_CFG n, .CH_SENSE n, .CH_INRUSH n, .CH_LIMIT n, .CH_SUSP n] ++ (List.finRange 8).map (fun k => .CH_CURVE n k)

/-- The configuration-class registers of block k, in ascending address order (R321, CW_BLK_k). -/
def cfgBlock (k : Fin 12) : List Reg :=
  match k.val with
  | 0 => [.GLB_FAULT_EN, .GLB_ALERT_EN, .ENG_CFG]
  | 3 => [.PWR_CTL, .PWR_TIMER_1]
  | 4 =>
    .SEI_CTL :: (List.finRange 16).flatMap (fun b => [.BELT_CTL b, .BELT_ZCFG b, .BELT_ARM b, .BELT_STOP b]) ++
      (List.finRange 32).map (fun i => .INLET_CTL i)
  | 7 => [.POND_LOW_MARK, .POND_SCRUB]
  | 9 => (List.finRange 16).flatMap (fun p => [.SVC_PROF_CTL p, .SVC_PROF_TERM p, .SVC_PROF_LINE p])
  | 10 => (List.finRange 96).flatMap cfgPort
  | 11 => (List.finRange 96).flatMap cfgChan ++ (List.finRange 8).map (fun j => .RAIL_CFG j)
  | _ => []

/-- The 8 bytes a register contributes: its address and its value, RW and K bits alone. -/
def Chip.cwBytes (c : Chip) (r : Reg) : List Byte := leBytes 4 r.addr ++ leBytes 4 (c.readWord r &&& r.rwMask).toNat

/-- The CRC over a list of registers. -/
def Chip.cwCrc (c : Chip) (l : List Reg) : Word := crc32c (l.flatMap c.cwBytes)

/-- CW_CTL.PAUSE takes a value. -/
def Chip.setPause (c : Chip) (b : Bool) : Chip :=
  let old := c.rd .CW_CTL
  (c.setB .CW_CTL F.CW_CTL_PAUSE b).cwCtl old

/-- CW_PAUSE. -/
def execCwPause (q : ReqId) (pause : Bool) (s : State) : Host.Outcome State Fault Refusal :=
  s.runS fun c => c.serve q 0x0B10#16 [0] fun _ c =>
    let prev := c.get .CW_CTL F.CW_CTL_PAUSE
    (c.setPause pause).answer q rOK [prev] 1

/-- CW_COMMIT: steps 3 and 4 of R324, answered by the next completed pass. -/
def execCwCommit (q : ReqId) (ref : Word) (s : State) : Host.Outcome State Fault Refusal :=
  s.runS fun c => c.serve q 0x0B11#16 [0] fun _ c =>
    let c := (c.wr .CW_REF ref).setPause false
    c.updFab (fun f => { f with commitReqs := f.commitReqs ++ [q] })

/-- CW_STATUS. -/
def execCwStatus (q : ReqId) (s : State) : Host.Outcome State Fault Refusal :=
  s.runS fun c => c.serve q 0x0B12#16 [0] fun _ c =>
    let regs : List Reg := [.CW_STATUS, .CW_REF, .CW_CALC] ++ (List.finRange 12).map (fun k => .CW_BLK k)
    c.answer q rOK (regs.map (fun r => (c.readWord r).toNat)) 60

/-- CW_PASS_START: a pass starts at T mod 1,600,000 = 0 while passes run (R322). -/
def execCwPassStart (s : State) : Host.Outcome State Fault Refusal :=
  s.run fun c =>
    if c.cwRuns && c.sei.time.toNat % 1600000 == 0 && c.fab.pass.isNone then c.updFab (fun f => { f with pass := some false })
    else c

/-- The event of a Clearwater mismatch, entered or cleared. -/
def Chip.evCw (c : Chip) (on : Bool) : Event :=
  c.ev 0x0B01 0 0 [bitOf on, (c.rd .CW_CALC).toNat, (c.rd .CW_REF).toNat, c.get .CW_STATUS F.CW_STATUS_FROZEN]

/-- A completed pass that matches CW_REF. -/
def Chip.cwMatch (c : Chip) : Chip :=
  let after : Bool := c.fab.lastMatch == some false
  let c := c.setF .CW_STATUS F.CW_STATUS_SKIPS 0
  let c := (c.setF .CW_STATUS F.CW_STATUS_FROZEN 0).setF .CW_STATUS F.CW_STATUS_MATCH 1
  let c := c.updFab (fun f => { f with lastMatch := some true, freshPass := false })
  if after then c.post (c.evCw false) else c

/-- A completed pass that mismatches. -/
def Chip.cwMismatch (c : Chip) : Chip :=
  let start : Bool := c.fab.freshPass || c.fab.lastMatch != some false
  let c := c.setF .CW_STATUS F.CW_STATUS_MATCH 0
  let c := if c.bit .CW_CTL F.CW_CTL_FREEZE_EN then c.setF .CW_STATUS F.CW_STATUS_FROZEN 1 else c
  let c := c.updFab (fun f => { f with lastMatch := some false, freshPass := false })
  if start then
    let c := c.record .CW_STATUS F.CW_STATUS_MISMATCH_SEEN
    c.postFault .cw (c.evCw true)
  else c

/-- A pass completes (R321, R322, R324): CW_CALC and CW_BLK_k, the comparison, waiting CW_COMMIT requests answered. -/
def Chip.cwComplete (c : Chip) : Chip :=
  let sum := c.cwCrc ((List.finRange 12).flatMap cfgBlock)
  let crcs := (List.finRange 12).map (fun k => (k, c.cwCrc (cfgBlock k)))
  let c := c.each crcs (fun c x => c.wr (.CW_BLK x.1) x.2)
  let c := c.wr .CW_CALC sum
  let ok : Bool := sum == c.rd .CW_REF
  let c := if ok then c.cwMatch else c.cwMismatch
  let qs := c.fab.commitReqs
  let c := c.updFab (fun f => { f with pass := none, commitReqs := [] })
  c.each qs (fun c q => c.answer q (if ok then rOK else rBAD_ARG) [sum.toNat] 4)

/-- CW_PASS_END (R322): discarded after a write during the pass, and where a channel has WR_PEND = 1, which any queued write to the
channel sets (R289), or a rail's configuration word is queued; else completed. -/
def execCwPassEnd (s : State) : Host.Outcome State Fault Refusal :=
  s.runS fun c =>
    match c.fab.pass with
    | none => c
    | some written =>
      if written || c.fl.any (fun l => l.writes.any (fun x => x.1.cfg || (fuseChan? x.1).isSome)) then
        (c.incSat .CW_STATUS F.CW_STATUS_SKIPS).updFab (fun f => { f with pass := none })
      else c.cwComplete

/-- CW_PAUSE_EXPIRY (R324). -/
def execCwPauseExpiry (s : State) : Host.Outcome State Fault Refusal :=
  s.run fun c =>
    let max_ := 100 * c.getPos .CW_CTL F.CW_CTL_PAUSE_MAX
    if c.bit .CW_CTL F.CW_CTL_PAUSE && c.fab.pausedAt + ms max_ ≤ c.clk.now then
      (c.setPause false).post (c.ev 0x0B04 0 0 [max_])
    else c

/-- CFG_PARITY_FAILURE of the register at an address, while no passes run (R325). -/
def execCfgParityFailure (addr : Nat) (s : State) : Host.Outcome State Fault Refusal :=
  s.runS fun c =>
    match Reg.ofAddr addr with
    | none => c
    | some r =>
      if !r.cfg || c.cwRuns then c
      else
        let old := c.rd r
        let c := c.wr r ((old &&& ~~~r.rwMask) ||| (r.resetWord &&& r.rwMask))
        let c := (c.setF .CW_PAR_ADDR F.CW_PAR_ADDR_ADDR addr).bump .CW_PAR_ADDR
        let c := c.record .CW_STATUS F.CW_STATUS_PAR_SEEN
        (c.postFault .parity (c.ev 0x0B02 0 0 [addr, (r.resetWord &&& r.rwMask).toNat])).regEffect r old

/-- REG_ACCESS_SESSION_CHANGE (R312, R325). -/
def execRegAccessSessionChange (start : Bool) (s : State) : Host.Outcome State Fault Refusal :=
  s.run fun c =>
    if start && !c.awake then c
    else ((c.updFab (fun f => { f with jtag := start })).setB .GLB_STRAP F.GLB_STRAP_TEST start).syncCw

end Sys2Proof.Machine
end

