-- ==== Sys2Proof/Machine/Fw.lean ====
section
/-! DEFINITION. The meanings of the firmware and attestation commands (04): quotes, the measurement log, staging, the punty
handoff (R97 to R100), the microcode roll (R101 to R103), BOOT_SET, TABLES_APPLY (R219), the reload of a half (R343). -/

namespace Sys2Proof.Machine

/-! ### Attestation (R89 to R94) -/

/-- QUOTE (R93, R94). -/
def execQuote (q : ReqId) (nonce : List Byte) (s : State) : Host.Outcome State Fault Refusal :=
  s.run fun c => c.serve q 0x0901#16 [0, 2] fun _ c =>
    c.answer q rOK ((c.quoteBytes (bytesAt nonce 0 32)).map (·.toNat)) 576

/-- LOG_READ: up to 8 entries from a SEQ on. -/
def execLogRead (q : ReqId) (seq : Word) (count : Nat) (s : State) : Host.Outcome State Fault Refusal :=
  s.run fun c => c.serve q 0x0902#16 [0, 2] fun _ c =>
    if 8 < count then c.answer q rBAD_ARG
    else
      let es := (c.fw.log.filter (fun e => seq.toNat ≤ e.seq.toNat)).take count
      c.answer q rOK ((es.flatMap LogEntry.layout).map (·.toNat)) (96 * es.length)

/-- The log trimmed up to a SEQ with its quote (R90): the checkpoint takes a SEQ of its own and the place of what it
replaces. -/
def Chip.logTrim (c : Chip) (seq : Word) (quote : List Byte) : Chip :=
  let t := c.sei.time
  let m := c.measAt seq
  let c := c.updFw (fun f =>
    let e : LogEntry := ⟨f.logNext, 7, 0xFF, 0, t, 0#64, sha384 (quote.take 480)⟩
    { f with log := e :: f.log.filter (fun x => seq.toNat < x.seq.toNat), logNext := f.logNext + 1#32, logTrimmed := true, base := m })
  c.updBead (fun b => { b with attestDue := true })

/-- LOG_TRIM (R90): a SEQ that the log holds, or BAD_ARG. The quote is taken at that point: it carries the measurements as they stood
after the last entry removed, from which the remaining entries replay. -/
def execLogTrim (q : ReqId) (seq : Word) (nonce : List Byte) (s : State) : Host.Outcome State Fault Refusal :=
  s.run fun c => c.serve q 0x0903#16 [0, 2] fun _ c =>
    if !c.fw.log.any (fun e => e.seq == seq) then c.answer q rBAD_ARG
    else
      let b := c.quoteOf (c.measAt seq) (bytesAt nonce 0 32)
      (c.logTrim seq b).answer q rOK (b.map (·.toNat)) 576

/-- CERT_READ (R92): 0 the device certificate, 1 the intermediate one; a response carries at most 1,536 bytes (R136). -/
def execCertRead (q : ReqId) (which : Nat) (s : State) : Host.Outcome State Fault Refusal :=
  s.run fun c => c.serve q 0x0904#16 [0, 2] fun _ c =>
    if 1 < which then c.answer q rBAD_ARG
    else
      let b := (Config.certificate (which == 1)).take 1536
      c.answer q rOK (b.map (·.toNat)) b.length

/-! ### Staging (R97, R104) -/

/-- The staging bank: neither the active bank nor the microcode's; none while they differ. -/
def Chip.staging? (c : Chip) : Option Nat :=
  let b := c.get .BOOT_STATUS F.BOOT_STATUS_BANK
  if b = c.get .BOOT_STATUS F.BOOT_STATUS_UBANK then some (1 - b) else none

/-- STAGE_WRITE: 1 to 32 bytes at a flash offset, served with the other flash operations in order of arrival. -/
def execStageWrite (q : ReqId) (off : Nat) (data : List Byte) (s : State) : Host.Outcome State Fault Refusal :=
  s.run fun c => c.serve q 0x0910#16 [0, 2] fun _ c =>
    if data.isEmpty ∨ 32 < data.length ∨ 67108864 ≤ off then c.answer q rBAD_ARG
    else if c.staging? ≠ some (bankAt off) then c.answer q rLOCKED
    else c.xspiIssue { op := xoPROGRAM, addr := off, len := data.length, data := data, req := some q }

/-- STAGE_ERASE: a 64 KiB sector, by its flash offset. -/
def execStageErase (q : ReqId) (off : Nat) (s : State) : Host.Outcome State Fault Refusal :=
  s.run fun c => c.serve q 0x0911#16 [0, 2] fun _ c =>
    if 67108864 ≤ off ∨ off % 65536 ≠ 0 then c.answer q rBAD_ARG
    else if c.staging? ≠ some (bankAt off) then c.answer q rLOCKED
    else c.xspiIssue { op := xoERASE, addr := off, len := 0, data := [], req := some q }

/-! ### Punty handoff (R98 to R100) -/

/-- HANDOFF (R98): the staging bank with a well-formed header, or BAD_ARG; WAIT while a handoff runs (DESIGN CHOICE, log entry 186);
LOCKED on a full log (R91). -/
def execHandoff (q : ReqId) (bank : Nat) (s : State) : Host.Outcome State Fault Refusal :=
  s.run fun c => c.serve q 0x0920#16 [0, 2] fun _ c =>
    if c.staging? ≠ some bank then c.answer q rBAD_ARG
    else
      match (c.header bank).bind (fun h => h.comp? cpFW) with
      | none => c.answer q rBAD_ARG
      | some x =>
        if c.fw.handoff.isSome ∨ c.fw.roll.isSome then c.answer q rWAIT
        else if c.logFull then c.answer q rLOCKED
        else
          let now := c.clk.now
          let d := sha384 (c.compBytes bank x)
          c.updFw (fun f =>
            { f with handoff := some ⟨bank, 1, now, d, x.version, some q, f.fwDigest, f.fwVersion⟩ })

/-- Executing requests other than one. A DOOR_RELEASE or a forced claim that only waits for its door's other requests is none of
them (DESIGN CHOICE, log entry 242). -/
def Chip.executingBut (c : Chip) (q : Option ReqId) : Bool :=
  (List.finRange 8).any (fun d =>
    let s := c.doors[d]
    s.reqs.any (fun e =>
      let i : Option ReqId := some ⟨d, e.ord⟩
      e.st == .executing && i != q && i != s.releaseReq && i != s.takeover.map (·.req)))

/-- The next step of a handoff. -/
def Chip.handoffTo (c : Chip) (h : Handoff) (step : Nat) : Chip :=
  let now := c.clk.now
  c.updFw (fun f => { f with handoff := some { h with step := step, since := now } })

/-- The handoff is abandoned before its stall (R99). -/
def Chip.handoffAbort (c : Chip) (h : Handoff) (res : Nat) : Chip :=
  let c := c.updFw (fun f => { f with handoff := none })
  (c.postFault .handoff (c.ev 0x0903 0 0 [h.step, res])).answerOpt h.req res

/-- The stall of step 4 (R98): MEAS_1 takes D with KIND 0x02, and the pairs switch; leases run and bindings are made again (R25). A
log that has filled up leaves the pair unmeasured: it does not run (R86), the handoff is abandoned. -/
def Chip.handoffSwitch (c : Chip) (h : Handoff) : Chip :=
  if c.logFull then (c.handoffAbort h rBAD_ARG).hsReturns
  else
    let c := c.measure 1 2 c.sei.time h.version h.digest
    ((c.updFw (fun f => { f with pairB := !f.pairB, fwDigest := h.digest, fwVersion := h.version })).handoffTo h 5).hsReturns

/-- HANDOFF_STEP_END: steps 1 to 4. Step 3 lasts while a request other than the HANDOFF executes; a log that has filled up
meanwhile fails it. -/
def execHandoffStepEnd (s : State) : Host.Outcome State Fault Refusal :=
  s.run fun c =>
    match c.fw.handoff with
    | none => c
    | some h =>
      match h.step with
      | 1 => c.handoffTo h 2
      | 2 => c.handoffTo h 3
      | 3 => if c.executingBut h.req then c else if c.logFull then (c.handoffAbort h rBAD_ARG).hsReturns else c.handoffTo h 4
      | 4 => c.handoffSwitch h
      | _ => c

/-- The bound of a step in ticks (table *Handoff steps*). -/
def handoffBound (step : Nat) : Nat :=
  match step with
  | 1 => ms 10
  | 2 => ms 50
  | 3 => ms 10
  | 4 => us 20
  | _ => ms 50

/-- Step 5 fails (R99): the old pair runs again, MEAS_1 takes its digest with KIND 0x03. Headspring returns from the stall of the
switch: leases run anew (R130). -/
def Chip.handoffRevert (c : Chip) (h : Handoff) (res : Nat) : Chip :=
  let c := c.updFw (fun f =>
    { f with handoff := none, pairB := !f.pairB, fwDigest := h.oldDigest, fwVersion := h.oldVersion })
  let c := c.measure 1 3 c.sei.time h.oldVersion h.oldDigest
  ((c.postFault .handoff (c.ev 0x0904 0 0 [h.oldVersion.toNat])).answerOpt h.req res).hsReturns

/-- HANDOFF_STEP_TIMEOUT (R99): a step exceeds its bound, or fails. Step 4 has no failure. -/
def execHandoffStepTimeout (e : StepEnd) (s : State) : Host.Outcome State Fault Refusal :=
  s.run fun c =>
    match c.fw.handoff with
    | none => c
    | some h =>
      let due : Bool := e == .failed || h.since + handoffBound h.step ≤ c.clk.now
      let res := if e = .failed then rBAD_ARG else rTIMEOUT
      if !due || h.step = 4 then c
      else if h.step = 5 then c.handoffRevert h res
      else if h.step = 3 then (c.handoffAbort h res).hsReturns
      else c.handoffAbort h res

/-- BOOT_OVR as firmware or the handoff sequencer writes it: a bank, ONCE, VALID (R80, R99). -/
def Chip.bootOvr (c : Chip) (bank : Nat) (once : Bool) : Chip :=
  let w := fset (fset (fset 0#32 F.BOOT_OVR_BANK bank) F.BOOT_OVR_ONCE (bitOf once)) F.BOOT_OVR_VALID 1
  c.aonWrite .BOOT_OVR w (Reg.rwMask .BOOT_OVR)

/-- FIRST_RUN_CHECK_END (R99): HANDOFF_DONE, BANK and BOOT_OVR name the new bank. -/
def execFirstRunCheckEnd (s : State) : Host.Outcome State Fault Refusal :=
  s.run fun c =>
    match c.fw.handoff with
    | none => c
    | some h =>
      if h.step ≠ 5 then c
      else
        let c := c.updFw (fun f => { f with handoff := none })
        let c := c.post (c.ev 0x0902 0 0 (h.version.toNat :: ((digestBytes h.digest).take 3).map (·.toNat)))
        let c := c.setSt .BOOT_STATUS F.BOOT_STATUS_BANK h.bank
        (c.bootOvr h.bank false).answerOpt h.req rOK

/-- BOOT_SET (R80). -/
def execBootSet (q : ReqId) (bank once : Bool) (s : State) : Host.Outcome State Fault Refusal :=
  s.run fun c => c.serve q 0x0940#16 [0, 2] fun _ c => (c.bootOvr (bitOf bank) once).answer q rOK

/-! ### The microcode roll (R101 to R103) -/

/-- A basin without a spare does not roll (R103): ROLLOVER_STALLED (0x0906) with the roles rolled. -/
def Chip.rollStall (c : Chip) (b : Basin) : Chip :=
  match c.fw.roll with
  | none => c
  | some r =>
    let x := r.basins[b]
    let c := c.updFw (fun f => { f with roll := some { r with basins := r.basins.set b { x with stalled := true } } })
    c.postFault .spares (c.ev 0x0906 0 b.val [b.val, x.rolled])

/-- The basins that roll start, those without a spare stall. -/
def Chip.rollStart (c : Chip) : Chip :=
  c.each (List.finRange 16) (fun c b =>
    let wait : Bool := c.fw.roll.any (fun r => !(r.basins[b]).complete)
    if wait && (c.spares b.val).isEmpty && !(c.basins[b]).inReset then c.rollStall b else c)

/-- A fresh roll. -/
def rollOf (bank : Nat) (d : BitVec 384) (version : BitVec 64) : Roll :=
  { bank := bank, digest := d, version := version
    basins := Vector.replicate 16 { rolled := 0, complete := false, stalled := false, done := [] } }

/-- UCODE_ROLL (R101): names the active bank; the FORMAT of the running bundle; a second request takes up stalled basins
(R103). -/
def execUcodeRoll (q : ReqId) (bank : Nat) (s : State) : Host.Outcome State Fault Refusal :=
  s.run fun c => c.serve q 0x0930#16 [0, 2] fun _ c =>
    if bank ≠ c.get .BOOT_STATUS F.BOOT_STATUS_BANK then c.answer q rBAD_ARG
    else match c.fw.roll with
    | some r => if r.basins.any (fun b => b.stalled) then (c.rollStart).answer q rOK else c.answer q rWAIT
    | none =>
      if c.fw.handoff.isSome then c.answer q rWAIT
      else match (c.header bank).bind (fun h => h.comp? cpUCODE) with
      | none => c.answer q rBAD_ARG
      | some x =>
        if x.format ≠ c.fw.active.format then c.answer q rNOT_SUPPORTED
        else if c.logFull then c.answer q rLOCKED
        else
          let code := c.compBytes bank x
          let d := sha384 code
          let c := c.measure 2 4 c.sei.time x.version d
          ((c.updFw (fun f =>
            { f with roll := some (rollOf bank d x.version), staging := ⟨code, x.version, x.format, d⟩ })).rollStart).answer q rOK

/-- A spare, loaded from the staging half, takes the role of `e`, which is loaded and becomes a spare (R102). -/
def Chip.rollRole (c : Chip) (b : Basin) (e sp : Engine) : Chip :=
  let r := (c.engines[e]).role
  let also := (c.engines[e]).also
  let c := (c.updEng e (fun x => { x with role := .spare, also := [], cache := [] })).bumpEngine e
  let c := (c.giveRole sp r also).loadEngines [sp, e] c.fw.staging
  c.updFw (fun f => { f with
    roll := f.roll.map (fun r =>
      let x := r.basins[b]
      let x : RollBasin := { x with rolled := x.rolled + 1, stalled := false, done := sp.val :: e.val :: x.done }
      { r with basins := r.basins.set b x })
    ucodeVersion := (f.roll.map (·.version)).getD f.ucodeVersion })

/-- ROLL_SWAP_POINT (R102, R103): the swap point of the next role of a basin, in the order of its engines; the basin is done
after the last. It pauses while a quarantined engine's role moves, in a basin reset, and while the staging half is reloaded. -/
def execRollSwapPoint (b : Basin) (s : State) : Host.Outcome State Fault Refusal :=
  s.run fun c =>
    match c.fw.roll with
    | none => c
    | some r =>
      let x := r.basins[b]
      let moving : Bool := (basinEngines b.val).any (fun e => (c.engines[e]).handing.isSome)
      if x.complete || moving || (c.basins[b]).inReset || c.fw.reloadStaging || c.dozing then c
      else
        let todo := (c.enginesWith b.val (fun y => y.role != .spare && y.role != .none)).filter
          (fun e => !x.done.contains e.val)
        match todo, c.spares b.val with
        | [], _ => c.rollBasinDone b x.rolled
        | _ :: _, [] => if x.stalled then c else c.rollStall b
        | [e], sp :: _ => (c.rollRole b e sp).rollBasinDone b (x.rolled + 1)
        | e :: _, sp :: _ => c.rollRole b e sp

/-- MICROCODE_RELOAD_DONE (R343): engines may load from the half again. -/
def execMicrocodeReloadDone (s : State) : Host.Outcome State Fault Refusal :=
  s.run fun c => c.updFw (fun f =>
    if f.reloadActive then { f with reloadActive := false } else { f with reloadStaging := false })

/-! ### Service tables -/

/-- TABLES_APPLY (R213, R219): the component measured into MEAS_4 with KIND 0x09; a refusal leaves the old tables. During a
directory rebuild it waits (R354). -/
def execTablesApply (q : ReqId) (bank : Nat) (s : State) : Host.Outcome State Fault Refusal :=
  s.runS fun c => if c.pond.rebuild then c else c.serve q 0x0950#16 [0] fun _ c =>
    if 1 < bank then c.answer q rBAD_ARG
    else if c.logFull then c.answer q rLOCKED
    else match c.applyTables bank with
      | .error v => c.answer q v
      | .ok (x, c) => (c.measure 4 9 c.sei.time x.version (sha384 (c.compBytes bank x))).answer q rOK

end Sys2Proof.Machine
end

