-- ==== Sys2Proof/Machine/Integ.lean ====
section
/-! DEFINITION. The meanings of the integrity commands (17): Reservoir errors (R343), queue pointers (R344, R345), engines out
of service (R346, R347), recovery windows (R350, R351), the lockstep pair (R355), the low time of the balls (R356). -/

namespace Sys2Proof.Machine

/-! ### Queues (R343 to R345) -/

/-- What a queue id names (table *Queue ids*). -/
inductive QueueRef where
  | stream (id : Nat) | spill | request (d : Door) | response (d : Door) | event (d : Door) | cullet (d : Door) | device
deriving DecidableEq, Repr

/-- The queue of an id; none for an id outside the table. -/
def queueOf (q : Nat) : Option QueueRef :=
  if q < 0x2000 then some (.stream q)
  else if q = 0x2000 then some .spill
  else if q = 0x2140 then some .device
  else if 0x2100 ≤ q ∧ q < 0x2120 then
    let d : Door := Fin.ofNat 8 ((q - 0x2100) / 4)
    some (match q % 4 with
      | 0 => .request d
      | 1 => .response d
      | 2 => .event d
      | _ => .cullet d)
  else none

/-- Events of a door's ring are lost (R345): their SEQ is consumed, the next event carries GAP, EVENTS_LOST names them. -/
def Chip.loseEvents (c : Chip) (d : Door) (es : List Event) (keep : List Event) : Chip :=
  match es, es.getLast? with
  | a :: _, some z =>
    let run (r : Option LostRun) : LostRun := match r with
      | none => ⟨a.seq, z.seq, es.length⟩
      | some r => { r with first := a.seq, count := r.count + es.length }
    let c := c.updDoor d (fun x =>
      { x with evts := keep, sent := x.sent - es.length, gapNext := true, lost := some (run x.lost) })
    c.lostReport d
  | _, _ => c

/-- Requests that waited in a door's ring are lost without a response. -/
def Chip.loseRequests (c : Chip) (d : Door) (es : List ReqEntry) : Chip :=
  let c := c.each es (fun c e => c.dropSeq ⟨d, e.ord⟩ e)
  c.updDoor d (fun x => { x with reqs := x.reqs.filter (fun e => !es.any (fun y => y.ord == e.ord)) })

/-- Response parts of a door's ring are lost; requests whose responses they ended are complete. -/
def Chip.loseResponses (c : Chip) (d : Door) (ps : List RspPart) : Chip := c.updDoor d (fun x => x.sendParts ps)

/-- The requests of a ring that have not been taken. -/
def Chip.pendingReqs (c : Chip) (d : Door) : List ReqEntry := (c.doors[d]).reqs.filter (fun e => e.st == .pending)

/-- Items held in a queue. -/
def Chip.queueLen (c : Chip) (r : QueueRef) : Nat :=
  match r with
  | .stream id => ((c.svc.streams.find? (fun s => s.id.toNat == id)).map (fun s => s.recs.length)).getD 0
  | .spill => c.trunk.spill.length
  | .request d => (c.pendingReqs d).length
  | .response d => (c.doors[d]).rsps.length
  | .event d => (c.doors[d]).evts.length
  | .cullet d => (c.doors[d]).cullet.length
  | .device => c.cullet.length

/-- Frames of the spill area are lost: they count as discarded (R126, R345). -/
def Chip.loseSpill (c : Chip) (fs : List TxFrame) (keep : List TxFrame) : Chip :=
  let c := c.incSat .TRK_SPILL F.TRK_SPILL_DROP fs.length
  let c := c.updTrunk (fun t =>
    { t with spill := keep, gaps := fs.foldl (fun g f => addGap g (ttpClass f.typ) f.id f.seq) t.gaps })
  c.syncSpill

/-- What the loss of a queue's contents leaves behind (table *After a queue reset*). -/
def Chip.queueEmpty (c : Chip) (r : QueueRef) : Chip :=
  match r with
  | .stream id => (c.updStrm (BitVec.ofNat 16 id) (fun s => Strm.weirNext { s with recs := [] })).reapStreams
  | .spill => c.loseSpill c.trunk.spill []
  | .request d => c.loseRequests d (c.pendingReqs d)
  | .response d => c.loseResponses d (c.doors[d]).rsps
  | .event d => c.loseEvents d (c.doors[d]).evts []
  | .cullet d => c.updDoor d (fun x => { x with cullet := [] })
  | .device => { c with cullet := [] }

/-- A queue is closed, rung 2 of its ladder (R351): its stream closes, its door is released, or spilling stops. -/
def Chip.queueClose (c : Chip) (r : QueueRef) : Chip :=
  match r with
  | .stream id =>
    match c.strm? (BitVec.ofNat 16 id) with
    | none => c
    | some s => c.closeStream s true
  | .spill => c.updTrunk (fun t => { t with spillClosed := true })
  | .request d => c.release d 3
  | .response d => c.release d 3
  | .event d => c.release d 3
  | .cullet d => c.release d 3
  | .device => c

/-- The ladder of a queue (R351): its window of 10 ms; a second mismatch closes it, three queues reset the device. -/
def Chip.queueLadder (c : Chip) (q : Nat) (r : QueueRef) : Chip :=
  let again := (c.ladder? 7 q).isSome
  let c := c.openLadder 7 q (if again then 2 else 1) (ms 10) 0x0180
  let now := c.clk.now
  if 3 ≤ (c.ladders.filter (fun w => w.ladder == 7 && now < w.ends)).length then
    (c.escalate 7 3 (q % 256) 0x0180).deviceReset 4 0
  else if again then (c.escalate 7 2 (q % 256) 0x0180).queueClose r
  else c

/-- A queue is reset (R345). -/
def Chip.queueReset (c : Chip) (q : Nat) : Chip :=
  match queueOf q with
  | none => c
  | some r =>
    let n := c.queueLen r
    let w := fset (fset (c.rd .INT_QPTR) F.INT_QPTR_COUNT (sat 8 (c.get .INT_QPTR F.INT_QPTR_COUNT + 1))) F.INT_QPTR_QUEUE q
    let c := (c.wr .INT_QPTR w).bump .INT_QPTR
    let c := (c.queueEmpty r).postFault .queuePtr (c.ev 0x0180 0 0 [q, n])
    c.queueLadder q r

/-- QUEUE_PTR_MISMATCH. -/
def execQueuePtrMismatch (queue : Nat) (s : State) : Host.Outcome State Fault Refusal :=
  s.runS fun c => if c.clk.boot = .held then c else c.queueReset queue

/-- The first record of a queue that is not CULLET becomes one (R202). -/
def Strm.cullFirst (s : Strm) : Strm :=
  { s with recs := updFirst (fun r => r.st != .cullet) (fun r => { r with st := .cullet }) s.recs }

/-- The item at the head of a queue is skipped (R343). -/
def Chip.skipItem (c : Chip) (r : QueueRef) : Chip :=
  match r with
  | .stream id => c.updStrm (BitVec.ofNat 16 id) Strm.cullFirst
  | .spill => c.loseSpill (c.trunk.spill.take 1) (c.trunk.spill.drop 1)
  | .request d => c.loseRequests d ((c.pendingReqs d).take 1)
  | .response d => c.loseResponses d ((c.doors[d]).rsps.take 1)
  | .event d => c.loseEvents d ((c.doors[d]).evts.take 1) ((c.doors[d]).evts.drop 1)
  | .cullet d => c.updDoor d (fun x => { x with cullet := x.cullet.drop 1 })
  | .device => { c with cullet := c.cullet.drop 1 }

/-- RESERVOIR_ECC_ERROR (R343). A double-bit error in an item skips it, with RESERVOIR_UE (0x0185) and action 0; in a header
the queue is reset; in the microcode region the half is reloaded. -/
def execReservoirEccError (w : ResWhere) (double : Bool) (s : State) : Host.Outcome State Fault Refusal :=
  s.runS fun c =>
    if c.clk.boot = .held then c
    else if !double then c.incSat .INT_RES F.INT_RES_CE
    else
      let c := (c.incSat .INT_RES F.INT_RES_UE).bump .INT_RES
      match w with
      | .body q =>
        match queueOf q with
        | none => c
        | some r => (c.skipItem r).post (c.ev 0x0185 0 0 [q, 0])
      | .header q => c.queueReset q
      | .microcode true => c.updFw (fun f => { f with reloadActive := true })
      | .microcode false => c.updFw (fun f => { f with reloadStaging := f.roll.isSome })

/-! ### Engines (R346, R347) -/

/-- An engine executes tasks: firmware has released it, its basin out of reset, the device awake. -/
def Chip.engLive (c : Chip) (e : Engine) : Bool :=
  c.clk.boot == .live && !(c.basins[(Fin.ofNat 16 (e.val / 32) : Basin)]).inReset && !c.dozing && !(c.engines[e]).quar

/-- The task cycle budget of a port's tasks, in ticks (table *Task budgets*). -/
def Chip.portBudget (c : Chip) (n : Port) : Option Nat :=
  if c.isDrop n then some (if c.rootSpeed n = spHS then us 125 else ms 1)
  else if c.isLine n then some (us 2)
  else none

/-- The task cycle budget of a task, in ticks (table *Task budgets*): of the port it belongs to, which the engine carries by its
role or besides it (R204), or of the engine's role; none where there is no such task. -/
def Chip.taskBudget (c : Chip) (t : TaskRun) : Option Nat :=
  let x : EngineSt := c.engines[t.engine]
  match t.port, x.role with
  | some n, r => if (r.ports ++ x.also).contains n then c.portBudget n else none
  | none, .port _ => none
  | none, .arming _ => some (us 1)
  | none, .pool => some (us (c.getPos .ENG_CFG F.ENG_CFG_POOL_BUDGET))
  | none, .spare => none
  | none, .none => none

/-- ENGINE_OVERRUN: a task ran past its budget (R346); the third within 1 ms of the first quarantines, cause SLOW. -/
def execEngineOverrun (t : TaskRun) (s : State) : Host.Outcome State Fault Refusal :=
  s.runS fun c =>
    let e := t.engine
    if !c.engLive e || (c.taskBudget t).all (fun b => t.ran ≤ b) then c
    else
      let now := c.clk.now
      let l := now :: (c.engines[e]).overruns.filter (fun t => now ≤ t + ms 1)
      if 3 ≤ l.length then c.engineFault e 0 [] else c.updEng e (fun x => { x with overruns := l })

/-- ENGINE_HANG: a task reaches 16 times its budget; cause HANG, with the contexts whose dirty entries
were lost. -/
def execEngineHang (t : TaskRun) (lost : List Cid) (s : State) : Host.Outcome State Fault Refusal :=
  s.runS fun c =>
    let e := t.engine
    if c.engLive e && (c.taskBudget t).any (fun b => 16 * b ≤ t.ran) then c.engineFault e 1 (lost.map (·.toNat)) else c

/-- ENGINE_PARITY: cause PARITY; inside a basin reset it reaches rung 3 of the ladder. -/
def execEngineParity (e : Engine) (lost : List Cid) (s : State) : Host.Outcome State Fault Refusal :=
  s.runS fun c =>
    if c.clk.boot = .live ∧ !c.dozing ∧ !(c.basins[(Fin.ofNat 16 (e.val / 32) : Basin)].inReset &&
        (c.ladder? 2 (e.val / 32)).isNone) then c.engineFault e 2 (lost.map (·.toNat))
    else c

/-- ENGINE_TAKEOVER (R347 steps 3 and 5): the role moves; in a basin reset it moves at the restart. -/
def execEngineTakeover (e : Engine) (s : State) : Host.Outcome State Fault Refusal :=
  s.runS fun c =>
    if (c.basins[(Fin.ofNat 16 (e.val / 32) : Basin)]).inReset || c.dozing then c else c.takeOver e

/-! ### Recovery windows, the lockstep pair, the balls -/

/-- RECOVERY_WINDOW_END (R351): the resource is back on rung 1. -/
def execRecoveryWindowEnd (ladder index : Nat) (s : State) : Host.Outcome State Fault Refusal :=
  s.run fun c =>
    let now := c.clk.now
    let past (w : LadderWin) : Bool := w.ladder == ladder && w.index == index && w.ends ≤ now
    let c := if ladder = 8 ∧ c.fw.hs ≠ .run then c else { c with ladders := c.ladders.filter (fun w => !past w) }
    match ladder with
    | 3 =>
      let end_ (l : FLink) : FLink :=
        if l.window.any (· ≤ now) then { l with window := none, rung := if l.rung = 4 then 4 else 1 } else l
      if index < 2 then c.updFl (Fin.ofNat 2 index) end_ else c
    | 5 => c.updPond (fun p => { p with ueOpen := p.ueOpen.filter (fun w => !(w.cid == index && w.ends ≤ now)) })
    | _ => c

/-- LOCKSTEP_MISMATCH (R355): a Headspring-scope reset, and inside the 1 s from its return Headspring is held. -/
def execLockstepMismatch (s : State) : Host.Outcome State Fault Refusal :=
  s.runS fun c =>
    if c.fw.hs ≠ .run ∨ c.dozing then c
    else
      let pair := bitOf c.fw.pairB
      match c.ladder? 8 0 with
      | none =>
        let c := (c.openLadder 8 0 1 (sec 1) 0x0187).post (c.ev 0x0187 0 0 [pair, 0])
        c.startScope .headspring none false []
      | some _ =>
        let c := (c.closeLadder 8 0).escalate 8 2 0 0x0187
        let c := c.post (c.ev 0x0187 0 0 [pair, 1])
        (c.hsDown).updFw (fun f => { f with hs := .held })

/-- STATUS_BALL_LOW_TIME_EXPIRY (R356): the 10 µs of FAULT_N, or of ALERT_N, have passed. -/
def execStatusBallLowTimeExpiry (alert : Bool) (s : State) : Host.Outcome State Fault Refusal :=
  s.run fun c =>
    let now := c.clk.now
    let c := c.updClk (fun k =>
      if alert then { k with alertUntil := k.alertUntil.filter (now < ·) }
      else { k with faultUntil := k.faultUntil.filter (now < ·) })
    c.balls

end Sys2Proof.Machine
end

