-- ==== Sys2Proof/Machine/Line.lean ====
section
/-! DEFINITION. The meanings of the line commands (11): door opcodes 0x05xx, frames received and sent, node timers. -/

namespace Sys2Proof.Machine

/-! ### Door opcodes -/

/-- A line opcode of target kind 1: BAD_ARG on a port whose mode is not LINE. -/
def Chip.serveLine (c : Chip) (q : ReqId) (op : BitVec 16) (body : Port → ReqEntry → Chip → Chip) : Chip :=
  c.servePort q op (fun n e c => if c.isLine n then body n e c else c.answer q rBAD_ARG)

/-- A line opcode of target kind 3. -/
def Chip.serveAddr (c : Chip) (q : ReqId) (op : BitVec 16) (body : Port → Nat → Chip → Chip) : Chip :=
  c.serveNode q op (fun n a _ c => if c.isLine n then body n a c else c.answer q rBAD_ARG)

/-- Nodes of a port in a state. -/
def Chip.nodesIn (c : Chip) (n : Port) (st : Nat) : Nat :=
  ((c.ports[n]).line.nodes.filter (fun r => (c.nodeBody r).nstate == st)).length

/-- LINE_STATUS: LINE_ERR, LINE_CNT, TDCV, nodes per state. -/
def execLineStatus (q : ReqId) (s : State) : Host.Outcome State Fault Refusal :=
  s.runS fun c => c.serveLine q 0x0501#16 fun n _ c =>
    c.answer q rOK ([(c.rd (.LINE_ERR n)).toNat, (c.rd (.LINE_CNT n)).toNat, c.get (.LINE_TDC n) F.LINE_TDC_TDCV] ++
      [nsANNOUNCING, nsLIVE, nsSLOW, nsABSENT].map (c.nodesIn n)) 13

/-- Cycles of the 80 MHz CAN clock in one bit (R224). -/
def bitCycles (t : BitTiming) : Nat := t.brp * (1 + t.tseg1 + t.tseg2)

/-- The checks of R224 and R226 on a requested timing. -/
def timingOk (nom dat : BitTiming) (tdco : Nat) (triple : Bool) : Bool :=
  let within (lo hi v : Nat) : Bool := lo ≤ v && v ≤ hi
  within 1 512 nom.brp && within 2 256 nom.tseg1 && within 2 128 nom.tseg2 && within 1 128 nom.sjw &&
  nom.sjw ≤ nom.tseg2 &&
  within 1 32 dat.brp && within 1 32 dat.tseg1 && within 1 16 dat.tseg2 && within 1 16 dat.sjw && dat.sjw ≤ dat.tseg2 &&
  within 80 640 (bitCycles nom) && 16 ≤ bitCycles dat && bitCycles dat ≤ bitCycles nom && tdco ≤ 127 &&
  (!triple || 320 ≤ bitCycles nom)

/-- Words of LINE_NBT, LINE_DBT and LINE_TDC for a timing. -/
def timingWords (nom dat : BitTiming) (tdco : Nat) : Word × Word × Word :=
  let w := fset (fset (fset (fset 0#32 F.LINE_NBT_SJW (nom.sjw - 1)) F.LINE_NBT_TSEG1 (nom.tseg1 - 1)) F.LINE_NBT_TSEG2
    (nom.tseg2 - 1)) F.LINE_NBT_BRP (nom.brp - 1)
  let d := fset (fset (fset (fset 0#32 F.LINE_DBT_SJW (dat.sjw - 1)) F.LINE_DBT_TSEG1 (dat.tseg1 - 1)) F.LINE_DBT_TSEG2
    (dat.tseg2 - 1)) F.LINE_DBT_BRP (dat.brp - 1)
  (w, d, fset 0#32 F.LINE_TDC_TDCO tdco)

/-- LINE_TIMING (R224, R228): checked, applied once the frame in progress completes, answered when in force. -/
def execLineTiming (q : ReqId) (nom dat : BitTiming) (tdco : Nat) (triple brs : Bool) (s : State) :
    Host.Outcome State Fault Refusal :=
  s.runS fun c => c.serveLine q 0x0502#16 fun n _ c =>
    if c.frozen then c.answer q rLOCKED
    else if !timingOk nom dat tdco triple then c.answer q rBAD_ARG
    else
      let w := timingWords nom dat tdco
      c.askTiming n { nbt := w.1, dbt := w.2.1, tdc := w.2.2, ctl := some (triple, brs),
                         reqs := (c.timingSet n).reqs ++ [q] }

/-- LINE_FILTER: the previous words; the pair is written. -/
def execLineFilter (q : ReqId) (k : Nat) (id mask : Word) (s : State) : Host.Outcome State Fault Refusal :=
  s.runS fun c => c.serveLine q 0x0503#16 fun n _ c =>
    if c.frozen then c.answer q rLOCKED
    else if 32 ≤ k then c.answer q rBAD_ARG
    else
      let i : Fin 32 := Fin.ofNat 32 k
      let prev := [(c.rd (.LINE_FLT_ID n i)).toNat, (c.rd (.LINE_FLT_MASK n i)).toNat]
      ((c.wrRW (.LINE_FLT_ID n i) id).wrRW (.LINE_FLT_MASK n i) mask).answer q rOK prev 8

/-- A frame the controller can send (R222). -/
def canSendable (f : CanFrame) : Bool :=
  [0, 1, 2, 3, 4, 5, 6, 7, 8, 12, 16, 20, 24, 32, 48, 64].contains f.data.length && (f.fdf || f.data.length ≤ 8) &&
    (f.ide || f.id.toNat < 2048) && (f.fdf || !f.brs)

/-- LINE_SEND (R232, R233): into one of buffers 28 to 31, answered at once with its number; WAIT with all full. -/
def execLineSend (q : ReqId) (f : CanFrame) (s : State) : Host.Outcome State Fault Refusal :=
  s.runS fun c => c.serveLine q 0x0504#16 fun n _ c =>
    if !canSendable f then c.answer q rBAD_ARG
    else match (c.ports[n]).line.freeBuf 28 31 with
      | none => c.answer q rWAIT
      | some i =>
        (c.updLine n (fun l => l.setBuf i
          (some { frame := f, use := .host q.door, started := false, cancelled := false, sof := 0#64 }))).answer q rOK [i.val] 1

/-- LINE_CANCEL (R233): the Cancel rule; answered with the final status once it is final. -/
def execLineCancel (q : ReqId) (buffer : Nat) (s : State) : Host.Outcome State Fault Refusal :=
  s.runS fun c => c.serveLine q 0x0505#16 fun n _ c =>
    if buffer < 28 ∨ 31 < buffer then c.answer q rBAD_ARG
    else
      let i : Fin 32 := Fin.ofNat 32 buffer
      let l := (c.ports[n]).line
      match l.tx[i] with
      | none => c.answer q rOK [(lookupNat l.lastTx buffer).getD txNONE] 1
      | some b =>
        if b.started then
          c.updLine n (fun l => { l.setBuf i (some { b with cancelled := true }) with cancels := l.cancels ++ [(buffer, q)] })
        else c.finishHostTx n i txCANCELLED false b |>.answer q rOK [txCANCELLED] 1

/-- LINE_RECOVER (R235). -/
def execLineRecover (q : ReqId) (s : State) : Host.Outcome State Fault Refusal :=
  s.runS fun c => c.serveLine q 0x0506#16 fun n _ c =>
    let l := (c.ports[n]).line
    if l.isolated then c.answer q rLOCKED
    else if c.lineOff n then
      let c := c.updLine n (fun l => { l with recoverReqs := l.recoverReqs ++ [q] })
      if c.get (.LINE_ERR n) F.LINE_ERR_STATE = leBUSOFF then c.startRecovery n else c
    else c.answer q rOK

/-- LINE_NODES: per node address, epoch, SERIAL, NSTATE, OBJ_CNT, NODE CID and GEN. -/
def execLineNodes (q : ReqId) (first count : Nat) (s : State) : Host.Outcome State Fault Refusal :=
  s.runS fun c => c.serveLine q 0x0507#16 fun n _ c =>
    if 4 < count ∨ first < 1 ∨ 126 < first then c.answer q rBAD_ARG
    else
      let rs := ((List.range 126).map (· + 1)).filterMap (fun a => if first ≤ a then c.node? n a else none)
      let sel := rs.take count
      c.answer q rOK (sel.flatMap (fun r =>
        let b := c.nodeBody r
        [r.addr, (c.epochOf 3 (nodeIndex n.val r.addr)).toNat, b.serial.toNat, b.nstate, b.objCnt, r.cid, r.gen.toNat]))
        (17 * sel.length)

/-- LINE_READ (R243): a ULP READ queued; answered with STATUS and value. -/
def execLineRead (q : ReqId) (obj : Nat) (s : State) : Host.Outcome State Fault Refusal :=
  s.runS fun c => c.serveAddr q 0x0508#16 fun n a c =>
    if 64 ≤ obj ∨ (c.node? n a).isNone then c.answer q rBAD_ARG
    else match c.queueUlp n a { write := false, obj := obj, value := [], prio := 3, origin := .door q, sentAt := none, late := false } with
      | none => c.answer q rWAIT
      | some c => c

/-- LINE_WRITE (R243): a ULP WRITE queued; answered with STATUS. -/
def execLineWrite (q : ReqId) (obj : Nat) (value : List Byte) (prio : Nat) (s : State) : Host.Outcome State Fault Refusal :=
  s.runS fun c => c.serveAddr q 0x0509#16 fun n a c =>
    if 64 ≤ obj ∨ 8 ≤ prio ∨ value.length < 1 ∨ 40 < value.length ∨ (c.node? n a).isNone then c.answer q rBAD_ARG
    else match c.queueUlp n a { write := true, obj := obj, value := value, prio := prio, origin := .door q, sentAt := none, late := false } with
      | none => c.answer q rWAIT
      | some c => c

/-- LINE_OBJ_CFG: an object's REPORT delivery (R239). -/
def execLineObjCfg (q : ReqId) (obj : Nat) (report : BitVec 2) (s : State) : Host.Outcome State Fault Refusal :=
  s.runS fun c => c.serveAddr q 0x050A#16 fun n a c =>
    match (c.node? n a).bind (fun r => c.objBody? r obj) with
    | none => c.answer q rBAD_ARG
    | some (cid, b) => (c.engWrite n cid (.obj { b with report := report.toNat })).answer q rOK [b.report] 1

/-- LINE_NODE_REMOVE (R242). -/
def execLineNodeRemove (q : ReqId) (s : State) : Host.Outcome State Fault Refusal :=
  s.runS fun c => if c.pond.rebuild then c else c.serveAddr q 0x050B#16 fun n a c =>
    if (c.node? n a).isNone then c.answer q rBAD_ARG
    else c.removeNode n a remREQUEST false (some q)

/-- LINE_POLL_SET: previous LINE_POLL and LINE_HOLD values. -/
def execLinePollSet (q : ReqId) (poll hold : Word) (s : State) : Host.Outcome State Fault Refusal :=
  s.runS fun c => c.serveLine q 0x050C#16 fun n _ c =>
    if c.frozen then c.answer q rLOCKED
    else
      let prev := [(c.rd (.LINE_POLL n)).toNat, (c.rd (.LINE_HOLD n)).toNat]
      (((c.wrRW (.LINE_POLL n) poll).pollSync n).wrRW (.LINE_HOLD n) hold).answer q rOK prev 8

/-! ### Receiving -/

/-- The identifier as filters compare it: a standard identifier in bits 28:18. -/
def canFltId (f : CanFrame) : BitVec 29 := if f.ide then f.id else f.id <<< 18

/-- The action of a filter pair on a frame: 0 none, 1 RXQ_0, 2 RXQ_1, 3 discard (R229). -/
def Chip.filterAction (c : Chip) (n : Port) (f : CanFrame) (k : Fin 32) : Nat :=
  let i := c.rd (.LINE_FLT_ID n k)
  let m := c.rd (.LINE_FLT_MASK n k)
  let idOk := ((i.setWidth 29 ^^^ canFltId f) &&& m.setWidth 29) = 0
  let ideOk := fget m F.LINE_FLT_MASK_IDE_M = 0 ∨ fget m F.LINE_FLT_MASK_IDE = bitOf f.ide
  let fdfOk := fget m F.LINE_FLT_MASK_FDF_M = 0 ∨ fget i F.LINE_FLT_ID_FDF = bitOf f.fdf
  if idOk ∧ ideOk ∧ fdfOk then fget i F.LINE_FLT_ID_ACTION else 0

/-- The first enabled pair that matches decides (R229). -/
def Chip.filter (c : Chip) (n : Port) (f : CanFrame) : Option Nat :=
  ((List.finRange 32).map (c.filterAction n f)).find? (fun a => a != 0)

/-- A line's controller has its clock and is not silent (R35, R65, R327). -/
def Chip.lineClock (c : Chip) : Bool := !c.asleep && c.pwr.st != .off && !c.noPll

/-- A received frame answers a poll (R243, R330): a READ_RSP of object 0 from a node that no other request reads object 0 of. -/
def Chip.pollAnswer (c : Chip) (n : Port) (f : CanFrame) : Bool :=
  f.ide && f.fdf && ulpKind f.id == 5 && ulpSrc f.id != 0 && leAt f.data 0 1 == 0 &&
    (c.node? n (ulpSrc f.id)).any (fun r => !r.out.any (fun u => u.obj == 0 && !u.write && u.origin != .poll))

/-- A TX buffer's frame is a TIME frame or a poll, which leave the device quiet (R330). -/
def Chip.quietTx (c : Chip) (n : Port) (b : TxBuf) : Bool :=
  match b.use with
  | .time => true
  | .ulp a => (c.node? n a).any (fun r => r.out.any (fun u => u.origin == .poll))
  | _ => false

/-- A CAN frame is stamped and filtered (R223, R229, R230): at its end, with the tick and the positions of its start-of-frame bit.
The controller receives while it is on the bus. A recessive res bit is a protocol exception: the frame is counted in STRANGERS and
the controller integrates to the bus again (R222). A poll's answer leaves the device quiet (R330). -/
def execLineFrameReceive (n : Port) (f : LineInput) (s : State) : Host.Outcome State Fault Refusal :=
  s.runS fun c =>
    let exception := f.exception
    let sof := c.sei.time - BitVec.ofNat 64 f.age
    let f := f.frame
    let l := (c.ports[n]).line
    if !c.isLine n || !c.lineClock || !l.joined || c.lineOff n then c
    else if exception then
      (c.active.incSat (.LINE_CNT n) F.LINE_CNT_STRANGERS).updLine n (fun l => { l with joined := false })
    else
      let c := (if c.pollAnswer n f then c else c.active).goodRx n
      let x : RxCan := { frame := f, tick := sof, cause := 0, pos := c.allPos sof }
      match c.filter n f with
      | none => c.stranger n x 1
      | some 1 =>
        if 64 ≤ l.rxq0.length then c.rxOverrun n 0
        else (c.updLine n (fun l => { l with rxq0 := l.rxq0 ++ [x] })).updBasin (basinOf n) (fun b => { b with gated := false })
      | some 2 => c.rxForeign n x
      | some _ => c

/-- SRC and DST allowed for a KIND (table *ULP kinds*); kinds 0xA to 0xF are reserved. -/
def ulpPathOk (kind src dst : Nat) : Bool :=
  let node (a : Nat) : Bool := 1 ≤ a && a ≤ 126
  match kind with
  | 0 => src == 0 && dst == 127
  | 1 => src == 127 && dst == 0
  | 2 => src == 0 && dst == 127
  | 3 => node src && dst == 0
  | 4 => src == 0 && node dst
  | 5 => node src && dst == 0
  | 6 => src == 0 && node dst
  | 7 => node src && dst == 0
  | 8 => node src && dst == 0
  | 9 => (src == 0 && node dst) || (node src && dst == 0)
  | _ => false

/-- Check 0x4: data length, SEG, and the contents of CLAIM, ASSIGN and ANNOUNCE (R231, R237). -/
def ulpLengthOk (f : CanFrame) : Bool :=
  let kind := ulpKind f.id
  let len := f.data.length
  let seg0 := ulpSeg f.id == 0
  let low := ulpLow f.id == leAt f.data 0 1
  match kind with
  | 0 => 13 ≤ len && seg0
  | 1 => 11 ≤ len && low
  | 2 => 11 ≤ len && low
  | 3 =>
    let sidx := leAt f.data 0 1
    let total := leAt f.data 1 1
    1 ≤ total && total ≤ 64 && sidx < total && 2 + 4 * min 15 (total - sidx) + 2 ≤ len
  | 4 => 2 ≤ len && seg0
  | 5 => 3 ≤ len && seg0
  | 6 => 3 ≤ len && seg0
  | 7 => 3 ≤ len && seg0
  | 8 => 2 ≤ len && seg0
  | 9 => 11 ≤ len && seg0
  | _ => false

/-- The checks of R231 in their order; the cause of the first that fails. -/
def Chip.strangerCause (c : Chip) (n : Port) (f : CanFrame) : Option Nat :=
  let src := ulpSrc f.id
  let kind := ulpKind f.id
  let d := f.data.take (f.data.length - 2)
  if !(f.fdf && f.ide) then some 2
  else if !ulpPathOk kind src (ulpDst f.id) then some 3
  else if !ulpLengthOk f then some 4
  else if (ulpCrc f.id d).toNat ≠ leAt f.data (f.data.length - 2) 2 then some 5
  else if (lookupNat (c.ports[n]).line.quar src).isSome then some 7
  else if !((c.node? n src).isSome || (src == 127 && kind == 1)) then some 6
  else if kind == 9 && (c.node? n src).any (fun r => (c.nodeBody r).serial != BitVec.ofNat 64 (leAt f.data 0 8)) then some 8
  else none

/-- The port engine takes an RXQ_0 frame and checks it (R231); a frame that passes goes on to its KIND. -/
def execRxq0FrameProcess (n : Port) (s : State) : Host.Outcome State Fault Refusal :=
  s.runS fun c =>
    match (c.ports[n]).line.rxq0 with
    | [] => c
    | x :: t =>
      if !c.basinUp n then c
      else
        let c := c.updLine n (fun l => { l with rxq0 := t })
        let c := if x.frame.ide && x.frame.fdf && ulpSrc x.frame.id == 0 then
            c.postRate (sec 1) n.val (c.ev 0x050D 1 n.val [x.frame.id.toNat])
          else c
        match c.strangerCause n x.frame with
        | some cause => c.stranger n x cause
        | none => (c.nodeHeard n (ulpSrc x.frame.id) x.tick).updLine n (fun l => { l with ulp := l.ulp ++ [x] })

/-- The first checked frame of a KIND from a source is done with. -/
def Chip.takeUlp (c : Chip) (n : Port) (kind src : Nat) : Chip :=
  c.updLine n (fun l => { l with ulp := dropFirst (fun x => ulpKind x.frame.id == kind && ulpSrc x.frame.id == src) l.ulp })

/-- The port engine serves a line. -/
def Chip.lineServed (c : Chip) (n : Port) : Bool := c.isLine n && c.basinUp n

/-- CLAIM (R240); during a directory rebuild it waits (R354). -/
def execClaim (n : Port) (serial : BitVec 64) (s : State) : Host.Outcome State Fault Refusal :=
  s.runS fun c =>
    match (c.ports[n]).line.checked 1 127 with
    | none => c
    | some x => if c.lineServed n && !c.pond.rebuild && x.serialIs serial then (c.takeUlp n 1 127).claimNode n serial x.tick else c

/-- A complete announcement's check (R237): every OBJ in 0 to 63 once, object 0 present and readable, every VLEN ≤ 56. -/
def announceOk (es : List (Nat × Nat × Nat × Nat)) : Bool :=
  es.all (fun e => e.1 < 64 && e.2.2.2 ≤ 56) && (es.map (·.1)).Nodup && es.any (fun e => e.1 == 0 && e.2.2.1 % 2 == 1)

/-- The body of an announced object (R239): entries are OBJ, OTYPE, ACCESS, VLEN (R237). -/
def objAnnounced (e : Nat × Nat × Nat × Nat) : ObjBody :=
  { obj := e.1, access := e.2.2.1 % 8, report := 0, writePend := false, vlen := e.2.2.2, otype := e.2.1, value := [],
    time := 0#64, rcount := 0#32 }

/-- A complete announcement (R241): its OBJ group, NODE_ASSIGNED; or the node's removal when the group is refused. -/
def Chip.announced (c : Chip) (n : Port) (r : NodeRt) (es : List (Nat × Nat × Nat × Nat)) : Chip :=
  match c.alloc (hPort n) (.of tOBJ r.cid) es.length with
  | (.error _, c) => c.removeNode n r.addr remPOND false none
  | (.ok cids, c) =>
    let c := c.each (es.zip cids) (fun c p =>
      c.engWrite n p.2 (.obj (objAnnounced p.1)))
    let c := c.updNodeBody n r (fun b => { b with nstate := nsLIVE, objCnt := es.length, run := 0, missed := 0,
                                                  pollMs := c.pollMs n nsLIVE })
    let c := c.updNode n r.addr (fun r => { r with annDue := none, part := none })
    c.post (c.evNode 0x0501 n r.addr [r.addr, (c.nodeBody r).serial.toNat, es.length])

/-- ANNOUNCE (R237): segments assembled in order; a first segment starts anew. During a directory rebuild it waits (R354). -/
def execAnnounce (n : Port) (addr : Nat) (seg sidx total : Nat) (entries : List (Nat × Nat × Nat × Nat)) (s : State) :
    Host.Outcome State Fault Refusal :=
  s.runS fun c =>
    if !c.lineServed n || c.pond.rebuild || !((c.ports[n]).line.checked 3 addr).any (·.segmentIs seg sidx total entries) then c
    else
      let c := c.takeUlp n 3 addr
      match c.node? n addr with
      | none => c
      | some r =>
        if (c.nodeBody r).nstate ≠ nsANNOUNCING then c
        else
          let k := min 15 (total - sidx)
          let es := entries
          let last : Bool := sidx + k == total
          let agrees : Bool :=
            (seg == 0 && sidx == 0 && last) || (seg == 1 && sidx == 0 && !last) ||
            (seg == 2 && 0 < sidx && !last) || (seg == 3 && 0 < sidx && last)
          let held : List (Nat × Nat × Nat × Nat) := (r.part.map (·.2)).getD []
          let fits : Bool := agrees && es.length == k &&
            (seg < 2 || (r.part.any (fun p => p.1 == total) && held.length == sidx))
          if !fits then c.updNode n addr (fun r => { r with part := none })
          else
            let all := if seg < 2 then es else held ++ es
            if last then
              if announceOk all then c.announced n r all else c.updNode n addr (fun r => { r with part := none })
            else c.updNode n addr (fun r => { r with part := some (total, all) })

/-- Update an OBJ context (R239): value, time and count of updates. -/
def ObjBody.update (b : ObjBody) (value : List Byte) (t : BitVec 64) : ObjBody :=
  { b with value := value.take 8, vlen := value.length, time := t, rcount := b.rcount + 1 }

/-- RESP in ticks (LINE_POLL, units of 100 µs). -/
def Chip.respTicks (c : Chip) (n : Port) : Nat := us (100 * c.getPos (.LINE_POLL n) F.LINE_POLL_RESP)

/-- The moment that a line's response windows count to: they stand still in bus-off (R235). -/
def Chip.lineNow (c : Chip) (n : Port) : Nat := if c.lineOff n then (c.ports[n]).line.offAt else c.clk.now

/-- READ_RSP or WRITE_ACK (R239, R243): the outstanding request ends, the object is updated, the next request starts. An
answer that no request waits for is discarded and counted. -/
def execObjAnswer (n : Port) (addr obj : Nat) (write : Bool) (status : Nat) (value : List Byte) (s : State) :
    Host.Outcome State Fault Refusal :=
  s.runS fun c =>
    let kind := if write then 7 else 5
    if !c.lineServed n || !((c.ports[n]).line.checked kind addr).any (·.answerIs obj status (if write then [] else value)) then c
    else
      let c := c.takeUlp n kind addr
      match c.node? n addr with
      | none => c
      | some r =>
        match r.out with
        | none => c.updLine n (fun l => { l with lateAns := l.lateAns + 1 })
        | some u =>
          let age := c.lineNow n - u.sentAt.getD 0
          if u.write ≠ write ∨ u.obj ≠ obj ∨ u.sentAt.isNone ∨ 8 * c.respTicks n ≤ age then c.updLine n (fun l => { l with lateAns := l.lateAns + 1 })
          else
            let v := if write then u.value else value
            let c := match c.objBody? r obj with
              | none => c
              | some (cid, b) =>
                c.engWrite n cid (.obj (if status = 0 then b.update v c.sei.time
                  else { b with time := c.sei.time, rcount := b.rcount + 1 }))
            let c := (c.updNode n addr (fun r => { r with out := none })).writeEnded n addr obj
            let c := c.nodeAnswered n addr (u.late || c.respTicks n < age)
            let c := match u.origin with
              | .door q => c.answer q (ulpResult status) (if write then [status] else status :: value.map BitVec.toNat)
                  (if write then 1 else 1 + value.length)
              | _ => c
            c.startUlp n addr

/-- REPORT (R239): the object updated, then an event, a record, both or none. -/
def execReport (n : Port) (addr obj : Nat) (value : List Byte) (sof : BitVec 64) (s : State) : Host.Outcome State Fault Refusal :=
  s.runS fun c =>
    let x? := ((c.ports[n]).line.checked 8 addr).filter (fun x => c.lineServed n && x.reportIs obj value sof)
    match x? with
    | none => c
    | some x =>
      let c := c.takeUlp n 8 addr
      match c.node? n addr with
      | none => c
      | some r =>
        match c.objBody? r obj with
        | none => c
        | some (cid, b) =>
          let c := c.engWrite n cid (.obj (b.update value sof))
          let c := if b.report = 0 ∨ b.report = 2 then
              c.post { c.evNode 0x0505 n addr ([obj, value.length] ++ (bytesAt value 0 8).map BitVec.toNat ++ [bitOf (8 < value.length)]) with
                       time := sof }
            else c
          if b.report = 1 ∨ b.report = 2 then
            match c.lineStream n with
            | none => c
            | some st =>
              let hdr := (c.recHdr n sof 5 0 0 addr (bindRef r.cid r.gen)).stamped x.pos
              (c.putRec st n.val hdr (leBytes 1 obj ++ leBytes 1 value.length ++ leBytes 6 0 ++ value)).2
          else c

/-- RELEASE from a node (R241): removal; its SERIAL must be the node's (R231 check 0x8). -/
def execNodeRelease (n : Port) (addr : Nat) (serial : BitVec 64) (s : State) : Host.Outcome State Fault Refusal :=
  s.runS fun c =>
    if !c.lineServed n || !((c.ports[n]).line.checked 9 addr).any (·.serialIs serial) then c
    else
      let c := c.takeUlp n 9 addr
      match c.node? n addr with
      | none => c
      | some r => if (c.nodeBody r).serial = serial then c.removeNode n addr remRELEASE true none else c

/-! ### Transmitting and error confinement -/

/-- An attempt ends without its frame (R232, R233): it is retried, or a cancelled frame reaches its final status. -/
def Chip.attemptLost (c : Chip) (n : Port) (i : Fin 32) (b : TxBuf) (err : Bool) : Chip :=
  if b.cancelled then c.finishTx n i txCANCELLED err b
  else (c.updLine n (fun l => (l.setBuf i (some { b with started := false })).nextTime)).applyTimingDue n

/-- A TX buffer's frame on the wire (R225, R232, R233, R244). -/
def execLineTxComplete (n : Port) (buf : Fin 32) (w : TxWire) (s : State) : Host.Outcome State Fault Refusal :=
  s.runS fun c =>
    match (c.ports[n]).line.tx[buf] with
    | none => c
    | some b =>
      match w with
      | .started =>
        if !c.lineClock || !(c.ports[n]).line.joined || c.lineOff n || c.bit (.LINE_CTL n) F.LINE_CTL_LISTEN ||
            !(c.ports[n]).line.offers buf then c
        else
          let c := if c.quietTx n b then c else c.active
          let t := c.sei.time
          let f := match b.use with
            | .time => c.timeFrame n t b.frame
            | _ => b.frame
          let esi : Bool := b.frame.fdf && c.get (.LINE_ERR n) F.LINE_ERR_STATE == lePASSIVE
          c.updLine n (fun l =>
            { l.setBuf buf (some { b with frame := f, started := true, sof := t, esi := esi, tooLong := false }) with
              timeDue := if b.use = .time then none else l.timeDue })
      | .loopDelay ticks =>
        let cycles := (ticks + 19) / 20
        if b.started && b.frame.fdf then
          (c.setF (.LINE_TDC n) F.LINE_TDC_TDCV (min 127 cycles)).updLine n (fun l =>
            l.setBuf buf (some { b with tooLong := 127 < cycles }))
        else c
      | .lostArbitration => if b.started then c.attemptLost n buf b false else c
      | .error => if b.started then c.attemptLost n buf b true else c
      | .completed =>
        if !b.started then c
        else if b.tooLong then (c.busError n .transmitter .plain).attemptLost n buf b true
        else ((if c.quietTx n b then c else c.active).goodTx n).finishTx n buf (if b.cancelled then txLATE else txDONE) false b

/-- An error on the bus changes TEC or REC (R222, R234). -/
def execLineBusError (n : Port) (r : CanRole) (e : CanErr) (s : State) : Host.Outcome State Fault Refusal :=
  s.runS fun c => if !c.isLine n || !c.lineClock || c.lineOff n then c else c.busError n r e

/-- Bus-off, once TEC has gone above 255 (R234, R235, R351 ladder 0x9): timers freeze, the TIME frame is withdrawn; recovery starts,
is held, or the line is isolated. -/
def execBusOffEntry (n : Port) (s : State) : Host.Outcome State Fault Refusal :=
  s.runS fun c =>
    if !c.isLine n || c.lineOff n || !(c.ports[n]).line.boffDue then c
    else
      let l := (c.ports[n]).line
      let soon : Bool := l.busOnAt.any (fun t => c.clk.now < t + sec 1)
      let isolated := soon && l.fromHeld
      let held := soon && !l.fromHeld
      let now := c.clk.now
      let c := c.updLine n (fun l => { l.setBuf 0 none with timeDue := none, timeWait := none, boffDue := false })
      let c := (c.setCounters n 0xFF (c.get (.LINE_ERR n) F.LINE_ERR_REC)).setSt (.LINE_ERR n) F.LINE_ERR_STATE leBUSOFF
      let c := c.updLine n (fun l => { l with offAt := now, held := held, isolated := isolated })
      let c := (c.each (List.finRange 32) (fun c i =>
        match (c.ports[n]).line.tx[i] with
        | none => c
        | some b => if b.started then c.attemptLost n i b true else c)).applyTimingDue n
      let c := if isolated then c.updPort n (fun p => { p with txd := true, stbLow := false }) else c
      let c := c.postFault .line (c.ev 0x0508 1 n.val [bitOf held + 2 * bitOf isolated])
      let c := if isolated then c.escalate 9 3 n.val 0x0508 else if held then c.escalate 9 2 n.val 0x0508 else c
      if c.bit (.LINE_CTL n) F.LINE_CTL_BOFF_AUTO && !held && !isolated then c.startRecovery n else c

/-- Recovery completes, after 128 occurrences of 11 recessive bits at the least (R235): LINE_BUS_ON with its duration, frozen timers
resume, LINE_RECOVER answered. -/
def execLineBusOn (n : Port) (s : State) : Host.Outcome State Fault Refusal :=
  s.runS fun c =>
    if c.get (.LINE_ERR n) F.LINE_ERR_STATE ≠ leRECOVERING ∨ !c.isLine n ∨ c.recoveryBits n < 128 * 11 then c
    else
      let l := (c.ports[n]).line
      let c := (c.setCounters n 0 0).setSt (.LINE_ERR n) F.LINE_ERR_STATE leACTIVE
      let c := c.post (c.ev 0x0509 1 n.val [(c.clk.now - l.recFrom) / 1600])
      let c := c.updLine n (fun l =>
        { l.shift (c.clk.now - l.offAt) with busOnAt := some c.clk.now, fromHeld := l.held, held := false, recoverReqs := [] })
      c.each l.recoverReqs (fun c q => c.answer q rOK)

/-! ### Node timers -/

/-- The line is served, and the device in Run or Idle with no entry under way; after a return to Run from the next 1 ms boundary on
(R333, R336). -/
def Chip.lineRuns (c : Chip) (n : Port) : Bool :=
  c.lineServed n && (c.pwr.st == .run || c.pwr.st == .idle) && c.pwr.entry.isNone && c.pwr.linesFrom ≤ c.clk.now

/-- A node timer runs: it stands still while the line is off the bus (R235, R243). -/
def Chip.lineTimers (c : Chip) (n : Port) : Bool := c.lineRuns n && !c.lineOff n

/-- 10 ms without a complete ANNOUNCE (R241). -/
def execAnnounceTimer (n : Port) (addr : Nat) (s : State) : Host.Outcome State Fault Refusal :=
  s.runS fun c =>
    match c.node? n addr with
    | none => c
    | some r =>
      if !c.lineTimers n || !(r.annDue.any (· ≤ c.clk.now)) then c
      else
        let b := c.nodeBody r
        if b.annTry < 3 then
          let c := c.updNodeBody n r (fun b => { b with annTry := b.annTry + 1 })
          let c := c.updNode n addr (fun r => { r with annDue := none })
          c.sendAssign n b.serial addr
        else c.removeNode n addr remANNOUNCE false none

/-- The response window ends: a later answer is late (R243). -/
def execResponseWindowEnd (n : Port) (addr : Nat) (s : State) : Host.Outcome State Fault Refusal :=
  s.runS fun c =>
    if !c.lineTimers n then c
    else c.updNode n addr (fun r =>
      { r with out := r.out.map (fun u =>
          if u.sentAt.any (fun t => t + c.respTicks n ≤ c.clk.now) then { u with late := true } else u) })

/-- A request reaches 8 × RESP unanswered (R243): TIMEOUT, one more missed answer, the next request starts. -/
def execRequestTimeout (n : Port) (addr : Nat) (s : State) : Host.Outcome State Fault Refusal :=
  s.runS fun c =>
    match (c.node? n addr).bind (·.out) with
    | none => c
    | some u =>
      if !c.lineTimers n || !(u.sentAt.any (fun t => t + 8 * c.respTicks n ≤ c.clk.now)) then c
      else
        let c := (c.updNode n addr (fun r => { r with out := none })).writeEnded n addr u.obj
        let c := c.answerUlps [u] rTIMEOUT
        (c.nodeMissed n addr).startUlp n addr

/-- A poll period ends (R243): READ of object 0 to each assigned node whose own period is due and has no request
outstanding; nodes polled at eight times the period are due at every eighth. -/
def execPollTimer (n : Port) (s : State) : Host.Outcome State Fault Refusal :=
  s.runS fun c =>
    let period := ms (c.pollMs n nsLIVE)
    if !c.lineTimers n || !c.bit (.LINE_CTL n) F.LINE_CTL_POLL_EN || c.clk.now < (c.ports[n]).line.polledAt + period then c
    else
      let now := c.clk.now
      let c := c.updLine n (fun l => { l with polls := l.polls + 1, polledAt := now })
      let k := (c.ports[n]).line.polls
      c.each (c.ports[n]).line.nodes (fun c r =>
        let st := (c.nodeBody r).nstate
        let slow : Bool := st == nsSLOW || st == nsABSENT
        if (slow && k % 8 != 0) || r.out.isSome then c
        else
          let u : Ulp := { write := false, obj := 0, value := [], prio := 3, origin := .poll, sentAt := none, late := false }
          (c.updNode n r.addr (fun r => { r with out := some u })).sendUlp n (c.ulpReqFrame n r.addr u) (.ulp r.addr))

/-- ABSENT_HOLD elapses (R241); 0 means never. -/
def execAbsentHoldExpiry (n : Port) (addr : Nat) (s : State) : Host.Outcome State Fault Refusal :=
  s.runS fun c =>
    let hold := c.get (.LINE_HOLD n) F.LINE_HOLD_ABSENT_HOLD
    match c.node? n addr with
    | none => c
    | some r =>
      if hold ≠ 0 ∧ c.lineServed n ∧ r.absentAt.any (fun t => t + sec hold ≤ c.clk.now) then
        c.removeNode n addr remABSENT false none
      else c

/-- ADDR_QUAR ends (R242). -/
def execQuarantineExpiry (n : Port) (addr : Nat) (s : State) : Host.Outcome State Fault Refusal :=
  s.runS fun c =>
    if (lookupNat (c.ports[n]).line.quar addr).any (· ≤ c.clk.now) then
      c.updLine n (fun l => { l with quar := eraseNat l.quar addr })
    else c

/-! ### TIME frames (R244) -/

/-- At each tick with T mod 1,600,000 = 0, a TIME frame into buffer 0, in place of one that is not on the wire; behind one that is
on the wire it waits for the end of that attempt (DESIGN CHOICE, log entry 230). -/
def execTimeFrameBoundary (n : Port) (s : State) : Host.Outcome State Fault Refusal :=
  s.runS fun c =>
    if !c.lineRuns n || !c.bit (.LINE_CTL n) F.LINE_CTL_TIME_EN || c.sei.time.toNat % 1600000 != 0 then c
    else
      let q := (c.ports[n]).line.tseq
      let f := c.ulpFrame n (ulpId 0 0 0 127 0)
        (leBytes 8 c.sei.time.toNat ++ leBytes 2 q.toNat ++ leBytes 1 (bitOf c.timeDegraded))
      c.updLine n (fun l => { l with timeWait := some f, tseq := q + 1, timeDue := some (c.clk.now + us 500) }.nextTime)

/-- A TIME frame not started 500 µs after its boundary is withdrawn. -/
def execTimeFrameWithdraw (n : Port) (s : State) : Host.Outcome State Fault Refusal :=
  s.runS fun c =>
    let l := (c.ports[n]).line
    if !l.timeDue.any (· ≤ c.clk.now) then c
    else if l.timeWait.isSome then c.updLine n (fun l => { l with timeWait := none, timeDue := none })
    else c.updLine n (fun l => { l.setBuf 0 none with timeDue := none })

/-- After 11 recessive bits the controller joins the bus; TX buffers resume (R228, R68). -/
def execLineBusRejoin (n : Port) (s : State) : Host.Outcome State Fault Refusal :=
  s.runS fun c =>
    if c.isLine n && !(c.ports[n]).line.isolated then
      (c.updLine n (fun l => { l with joined := true })).updPort n (fun p => { p with txd := true })
    else c

end Sys2Proof.Machine
end

