-- ==== Sys2Proof/Machine/PdFam.lean ====
section
/-! DEFINITION. The meanings of the Power Delivery commands (14): opcodes 0x0310 to 0x0315, messages and timers of the
policy engine, the converter on PMBus. -/

namespace Sys2Proof.Machine

/-! ### Door opcodes -/

/-- A PD opcode: BAD_ARG on a drop that is not a PD drop, or not in DROP mode (R33). -/
def Chip.servePd (c : Chip) (q : ReqId) (op : BitVec 16) (body : Port → Chip → Chip) : Chip :=
  c.servePort q op fun n _ c => if c.isPd n && c.isDrop n then body n c else c.answer q rBAD_ARG

/-- PD_STATUS: PD_STATUS, PD_VOUT, the offered data objects, the RDO in force. -/
def execPdStatus (q : ReqId) (s : State) : Host.Outcome State Fault Refusal :=
  s.runS fun c => c.servePd q 0x0310#16 fun n c =>
    let offer := c.pdWords n (c.pdReduced n)
    c.answer q rOK ([(c.rd (.PD_STATUS n)).toNat, (c.rd (.PD_VOUT n)).toNat] ++ offer ++ [(c.ports[n]).pd.rdo])
      (12 + 4 * offer.length)

/-- PD_CAPS_SET: the previous words; offered at the next opportunity (R299, R300). -/
def execPdCapsSet (q : ReqId) (caps limit timing : Word) (s : State) : Host.Outcome State Fault Refusal :=
  s.runS fun c => c.servePd q 0x0311#16 fun n c =>
    let prev := [Reg.PD_CAPS n, .PD_LIMIT n, .PD_TIMING n].map (fun r => (c.rd r).toNat)
    let old := c.rd (.PD_TIMING n)
    let c := ((c.wrRW (.PD_CAPS n) caps).wrRW (.PD_LIMIT n) limit).wrRW (.PD_TIMING n) timing
    (c.pdChanged n old).answer q rOK prev 12

/-- A PD sequence runs (R307). -/
def pdBusy (st : Nat) : Bool :=
  st == pdNEGOTIATING || st == pdTRANSITION || st == pdVCONN_SWAP || st == pdHARD_RESET || st == pdERROR_RECOVERY

/-- A sequence of the PD engine runs or is about to (R307). -/
def Chip.pdRunning (c : Chip) (n : Port) : Bool :=
  let p := (c.ports[n]).pd
  pdBusy (c.pdSt n) || p.swap != .idle || p.swapWanted || p.discovering

/-- PD_VCONN_SWAP (R296, R305, R307): WAIT while a sequence runs; without a partner in service there is nothing to swap. VCONN_Swap
goes out at the next opportunity, 16 ms after Rp goes to SinkTxNG. -/
def execPdVconnSwap (q : ReqId) (s : State) : Host.Outcome State Fault Refusal :=
  s.runS fun c => c.servePd q 0x0312#16 fun n c =>
    let st := c.pdSt n
    if c.pdRunning n ∨ st = pdSEND_CAPS then c.answer q rWAIT
    else if st = pdREADY then
      (c.updPd n (fun p => { p with swapReq := some q, swapByUs := true, swapTries := 0, swapWanted := true })).pdOwn n
    else c.answer q rBAD_ARG

/-- PD_HARD_RESET (R306, R307): answered when VBUS is back at vSafe5V. -/
def execPdHardReset (q : ReqId) (s : State) : Host.Outcome State Fault Refusal :=
  s.runS fun c => c.servePd q 0x0313#16 fun n c =>
    let st := c.pdSt n
    if c.pdRunning n then c.answer q rWAIT
    else if st = pdREADY ∨ st = pdSEND_CAPS ∨ st = pdNO_PD then
      (c.updPd n (fun p => { p with hrReq := some q })).hardReset n true hcREQUEST
    else c.answer q rBAD_ARG

/-- PD_VOUT (R302, R304): only under POLICY DIRECT, 5.0 V to 48.0 V; a replaced one is answered with SUPERSEDED. -/
def execPdVout (q : ReqId) (target : BitVec 16) (s : State) : Host.Outcome State Fault Refusal :=
  s.runS fun c => c.servePd q 0x0314#16 fun n c =>
    if !c.pdDirect n || target.toNat < 500 || 4800 < target.toNat then c.answer q rBAD_ARG
    else if c.pdSt n ≠ pdDIRECT then c.answer q rWAIT
    else
      let c := c.answerOpt (c.ports[n]).pd.voutReq rOK [1, c.get (.PD_VOUT n) F.PD_VOUT_MEASURED] 3
      (c.updPd n (fun p => { p with voutReq := some q })).pdTarget n target.toNat

/-- PD_CFG_SET (R291): LOCKED outside mode OFF, BAD_ARG for a PD drop that breaks a condition; the previous word. -/
def execPdCfgSet (q : ReqId) (w : Word) (s : State) : Host.Outcome State Fault Refusal :=
  s.runS fun c => c.servePort q 0x0315#16 fun n _ c =>
    let prev := [(c.rd (.PD_CFG n)).toNat]
    if (c.ports[n]).mode ≠ .off ∨ !(c.ports[n]).seqs.isEmpty ∨ c.frozen then c.answer q rLOCKED
    else
      let c' := c.wrRW (.PD_CFG n) w
      if fget w F.PD_CFG_PD_EN = 1 ∧ !c'.isPd n then c.answer q rBAD_ARG else c'.pdRecheck.answer q rOK prev 4

/-! ### The converter (R293 to R295, R301, R302) -/

/-- The PD engine of a port runs and hears CC; in Sleep and deeper a message is lost (R307). -/
def Chip.pdLive (c : Chip) (n : Port) : Bool := c.isPd n && c.isDrop n && !c.dozing

/-- VBUS reaches vSafe5V under R294 (R301, R304, R306): DIRECT, or the capabilities timer starts; a tree whose power was away can
attach again, a PD_HARD_RESET is answered. -/
def execVsafe5vReached (n : Port) (s : State) : Host.Outcome State Fault Refusal :=
  s.runS fun c =>
    let p := (c.ports[n]).pd
    if !c.pdLive n ∨ c.pdSt n ≠ pdWAIT_VBUS ∨ !p.converterOn ∨ !p.reached then c
    else
      let c := c.powerBack n
      let c := c.updPd n (fun p => { p with hrReq := none, sends := 0, until_ := some (c.clk.now + ms 20) })
      let c := if c.pdDirect n then c.setPd n pdDIRECT else (c.setPd n pdSEND_CAPS).discover n
      c.answerOpt p.hrReq rOK

/-- SenderResponseTimer of USB PD 3.1 (PRESUMED, log entry 214): how long a Request is awaited. -/
def senderResponse : Nat := ms 30

/-- Source_Capabilities are sent or repeated (R301): every 150 ms up to 50 sends without GoodCRC. Capabilities that were received
and not answered by a Request end in Hard_Reset, as PD 3.1 requires (R306). -/
def execSourceCapsTimer (n : Port) (goodCrc : Bool) (s : State) : Host.Outcome State Fault Refusal :=
  s.runS fun c =>
    let p := (c.ports[n]).pd
    if !c.pdLive n ∨ c.pdSt n ≠ pdSEND_CAPS ∨ !p.until_.any (· ≤ c.clk.now) then c
    else if p.capsAck then c.hardReset n true hcNO_REQUEST
    else
      let c := (c.pdBudget n).pdCapsSent n
      let k := p.sends + 1
      let c := c.updPd n (fun p => 
        { p with sends := k, capsAck := goodCrc, until_ := some (c.clk.now + (if goodCrc then senderResponse else ms 150)) })
      if !goodCrc && 50 ≤ k then
        ((c.updPd n (fun p => { p with until_ := none })).setPd n pdNO_PD).evContractEnd n ceNO_PD
      else c

/-- The 32-bit RDO of a contract (USB PD 3.1, PRESUMED): position, then currents in 10 mA, or for PPS the voltage in 20 mV
and the current in 50 mA. -/
def rdoOf (k : Contract) : Nat :=
  if k.kind = pkPPS then k.pos * 2 ^ 28 + (k.mv10 / 2) * 2 ^ 9 + k.cur
  else k.pos * 2 ^ 28 + (5 * k.cur) * 2 ^ 10 + 5 * k.cur

/-- The contract that a Request asks for, where the offered set has its object and current (R299, R301). -/
def Chip.requested (c : Chip) (n : Port) (obj cur mv : Nat) (epr : Bool) : Option Contract :=
  match (c.pdOffer n (c.pdReduced n)).find? (fun o => o.pos == obj) with
  | none => none
  | some o =>
    if o.cur < cur ∨ (o.kind = pkEPR ∧ !epr) then none
    else if o.kind = pkPPS then
      if 100 * c.get (.PD_CAPS n) F.PD_CAPS_PPS_MIN ≤ mv ∧ mv ≤ 100 * c.get (.PD_CAPS n) F.PD_CAPS_PPS_MAX then
        some { o with cur := cur, mv10 := mv / 10 }
      else none
    else some { o with cur := cur }

/-- A Request or EPR_Request (R301, R303): Wait during a transition, a swap or a discovery; else it is received, NEGOTIATING, and
answered at the next tick (`pdDecide`; DESIGN CHOICE, log entry 222). -/
def execPdRequest (n : Port) (obj cur mv : Nat) (epr : Bool) (s : State) : Host.Outcome State Fault Refusal :=
  s.runS fun c =>
    let st := c.pdSt n
    if !c.pdLive n ∨ st = pdDIRECT then c
    else if st = pdTRANSITION ∨ st = pdVCONN_SWAP ∨ (c.ports[n]).pd.discovering then c.pdSend n .wait
    else if st = pdSEND_CAPS ∨ st = pdNO_PD ∨ st = pdREADY ∨ st = pdNEGOTIATING then
      let found := (((c.ports[n]).pd.request).map (·.found)).getD st
      (c.updPd n (fun p => { p with request := some ⟨obj, cur, mv, epr, found⟩ })).setPd n pdNEGOTIATING
    else c

/-- NEGOTIATING ends without a contract (R301): back to the state that the Request found; capabilities not yet agreed go out again. -/
def Chip.pdReturn (c : Chip) (n : Port) (r : PdRequest) : Chip :=
  let now := c.clk.now
  let c := c.updPd n (fun p =>
    { p with
      request := none, capsAck := false
      until_ := if r.found = pdSEND_CAPS then some (now + ms 150) else p.until_ })
  c.setPd n r.found

/-- The answer to a Request (R301): Reject, the contract in force standing, or Accept, TRANSITION. -/
def Chip.pdDecide (c : Chip) (n : Port) : Chip :=
  match (c.ports[n]).pd.request with
  | none => c
  | some r =>
    if !c.pdLive n then c
    else match c.requested n r.obj r.cur r.mv r.epr with
    | none => ((c.pdSend n .reject).pdOwnEnd n).pdReturn n r
    | some k =>
      let c := c.pdSend n .accept
      let now := c.clk.now
      let c := c.updPd n (fun p =>
        { p with request := none, capsAck := false, accepted := some k, until_ := some (now + ms 25), answerBy := none, ppsBy := none,
                 rdo := rdoOf k })
      c.setPd n pdTRANSITION

/-- Requests that wait for their answers. -/
def Chip.pdDecideAll (c : Chip) : Chip :=
  c.each ((List.finRange 96).filter (fun n => (c.ports[n]).pd.request.isSome)) Chip.pdDecide

/-- 25 ms after Accept: VOUT_COMMAND (R301). -/
def execAcceptDelayExpiry (n : Port) (s : State) : Host.Outcome State Fault Refusal :=
  s.runS fun c =>
    let p := (c.ports[n]).pd
    if !c.pdLive n ∨ c.pdSt n ≠ pdTRANSITION ∨ !p.until_.any (· ≤ c.clk.now) then c
    else match p.accepted with
      | none => c
      | some k => (c.updPd n (fun p => { p with until_ := none })).pdTarget n k.mv10

/-- READ_VOUT is due (R293): 1 ms after the last reading during a slew, 100 ms otherwise. -/
def Pd.readDue (p : Pd) (now : Nat) : Bool := p.readAt.all (fun t => t + ms (if p.reached then 100 else 1) ≤ now)

/-- READ_VOUT (R293, R294, R302): the second reading in a row within the band reaches the target. With the converter off, VBUS below
0.8 V starts the recovery time of a hard reset (R301). A reading that is not due is not made. After the port has left DROP mode the
converter is read on (R307). -/
def execReadVoutPoll (n : Port) (v : BitVec 16) (s : State) : Host.Outcome State Fault Refusal :=
  s.runS fun c =>
    let p := (c.ports[n]).pd
    if !c.pdBus n ∨ c.dozing ∨ !p.readDue c.clk.now then c
    else
      let c := c.setF (.PD_VOUT n) F.PD_VOUT_MEASURED v.toNat
      let now := c.clk.now
      let t := c.get (.PD_VOUT n) F.PD_VOUT_TARGET
      let pps : Bool := ((p.accepted.orElse (fun _ => p.contract)).map (·.kind)) == some pkPPS
      let ok : Bool := t != 0 && inBand pps t v.toNat
      let down : Bool := t == 0 && decide (v.toNat < 80)
      let c := c.updPd n (fun p =>
        { p with
          inBand := ok, readAt := some now, noAcks := 0
          reached := p.reached || down || (ok && p.inBand)
          until_ := if down && c.pdSt n == pdHARD_RESET && p.until_.isNone then some (now + ms 700) else p.until_ })
      if p.reached || !ok || !p.inBand then c
      else if c.pdSt n = pdTRANSITION ∧ p.until_.isNone then
        match p.accepted with
        | none => c
        | some k => c.pdContract n k
      else if c.pdSt n = pdDIRECT then
        (c.updPd n (fun p => { p with voutReq := none })).answerOpt p.voutReq rOK [0, v.toNat] 3
      else c

/-- A STATUS_WORD that reports a VOUT, IOUT, VIN or temperature fault (R295; bit places of PMBus 1.3, PRESUMED). -/
def statusFault (w : BitVec 16) : Bool := (w &&& 0xE03C#16) != 0#16

/-- A fault read from STATUS_WORD (R293, R295): CLEAR_FAULTS follows it. -/
def Chip.statusFaulty (c : Chip) (n : Port) (w : BitVec 16) : Chip :=
  if c.pdBus n then (c.pmbSend n [.clearFaults]).convFault n w.toNat 1 else c

/-- STATUS_WORD was read (R295). -/
def Chip.statusRead (c : Chip) (n : Port) (w : BitVec 16) : Chip :=
  let c := c.updPd n (fun p => { p with noAcks := 0 })
  if statusFault w then c.statusFaulty n w else c

/-- PMBx_ALERT_N falls: the converters of that master are read (R293). -/
def execPmbusAlert (m : Fin 2) (n : Port) (statusWord : BitVec 16) (s : State) : Host.Outcome State Fault Refusal :=
  s.runS fun c => if c.pdMaster n = m.val then c.statusRead n statusWord else c

/-- The 100 ms poll of STATUS_WORD (R293); one that is not due is not made. -/
def execStatusWordPoll (n : Port) (statusWord : BitVec 16) (s : State) : Host.Outcome State Fault Refusal :=
  s.runS fun c =>
    if (c.ports[n]).pd.statusAt.all (fun t => t + ms 100 ≤ c.clk.now) then
      (c.updPd n (fun p => { p with statusAt := some c.clk.now })).statusRead n statusWord
    else c

/-- What goes wrong with a converter (R295): a transaction without acknowledge is a fault at the third in a row; at a clock-low
timeout the master resets the bus with nine clocks. -/
def execConverterFault (n : Port) (f : ConvFault) (s : State) : Host.Outcome State Fault Refusal :=
  s.runS fun c =>
    if !c.pdBus n then c
    else match f with
      | .noAck =>
        let k := (c.ports[n]).pd.noAcks + 1
        let c := c.updPd n (fun p => { p with noAcks := k })
        if 3 ≤ k then c.convFault n 0 0 else c
      | .status w => if statusFault w then c.statusFaulty n w else c
      | .busTimeout => (c.pmbSend n [.nineClocks]).convFault n 0 2
      | .voutMode => c.convFault n 0 3

/-! ### Messages (R292, R299) -/

/-- VCONN taken by the UH9600: VCONN on, PS_RDY. -/
def Chip.takeVconn (c : Chip) (n : Port) : Chip := (c.vconn n true).pdSend n .psRdy

/-- A swap ends; a discovery that waits follows, under a contract at its own opportunity (R296, R298). -/
def Chip.swapOver (c : Chip) (n : Port) : Chip :=
  let c := c.swapIdle n
  if c.needsCable n then
    (if (c.ports[n]).pd.contract.isSome then c.pdOwn n else c.discover n)
  else c

/-- The UH9600 gives VCONN: 150 ms for the partner's PS_RDY (R305). A cable discovery that runs is broken off: it takes VCONN back
first (R298). -/
def Chip.giveVconn (c : Chip) (n : Port) : Chip :=
  (c.updPd n (fun p => { p with swap := .giving, discovering := false, swapUntil := some (c.clk.now + ms 150) })).swapRuns n

/-- The UH9600 is the VCONN source. -/
def Chip.vconnSrc (c : Chip) (n : Port) : Bool := c.bit (.PD_STATUS n) F.PD_STATUS_VCONN_SRC

/-- A discovery that cannot take VCONN ends: the cable counts as one that does not answer (R298, log entry 215). -/
def Chip.noDiscovery (c : Chip) (n : Port) : Chip :=
  if c.vconnSrc n then c else c.updPd n (fun p => { p with discovering := false, cableKnown := true })

/-- An answer to the UH9600's own VCONN_Swap (R305). -/
def Chip.swapAnswer (c : Chip) (n : Port) (m : PdMsg) : Chip :=
  let p := (c.ports[n]).pd
  if p.swap ≠ .sent then c
  else match m with
    | .accept =>
      if c.vconnSrc n then c.giveVconn n
      else ((c.takeVconn n).swapReport n soDONE).swapOver n
    | .wait =>
      if p.swapTries < min 5 (c.get (.PD_TIMING n) F.PD_TIMING_SWAP_RETRIES) then
        let w := ms (c.getPos (.PD_TIMING n) F.PD_TIMING_SWAP_RETRY_WAIT)
        c.updPd n (fun p => { p with swap := .retry, swapUntil := some (c.clk.now + w) })
      else ((c.swapReport n soEXHAUSTED).swapIdle n).noDiscovery n
    | .reject => ((c.swapReport n soREJECTED).swapIdle n).noDiscovery n
    | .notSupported => ((c.swapReport n soNOT_SUPPORTED).swapIdle n).noDiscovery n
    | _ => c

/-- Another PD message (R292): served, taken as an answer, or answered Not_Supported. -/
def execPdMessage (n : Port) (m : PdMsg) (s : State) : Host.Outcome State Fault Refusal :=
  s.runS fun c =>
    let st := c.pdSt n
    if !c.pdLive n ∨ st = pdOFF ∨ st = pdWAIT_VBUS ∨ st = pdDIRECT ∨ st = pdHARD_RESET ∨ st = pdERROR_RECOVERY then c
    else match m with
      | .getSourceCap => c.pdCapsSent n
      | .getSourceCapExt => c.pdSend n (.sourceCapsExt (Config.pdSourceCapsExt n.val))
      | .getStatus => c.pdSend n (.status (Config.pdStatusBlock n.val))
      | .getPpsStatus => c.pdSend n (.ppsStatus (c.get (.PD_VOUT n) F.PD_VOUT_MEASURED / 2))
      | .getRevision => c.pdSend n (.revision 3 1)
      | .eprKeepAlive =>
        if c.bit (.PD_STATUS n) F.PD_STATUS_EPR_MODE then
          (c.pdSend n .eprKeepAliveAck).updPd n (fun p => { p with keepAliveBy := some (c.clk.now + ms 900) })
        else c.pdSend n .notSupported
      | .softReset =>
        let c := (c.swapDrop n rTIMEOUT).swapIdle n
        let c := match (c.ports[n]).pd.request with
          | none => c
          | some r => c.pdReturn n r
        let c := (c.updPd n (fun p => { p with capsDue := true, discovering := false, msgId := 0 })).pdSend n .accept
        c.pdOwn n
      | .bistCarrier => if c.get (.PD_VOUT n) F.PD_VOUT_TARGET = 500 then c.pdSend n .bistCarrier else c
      | .bistTestData => c
      | .psRdy =>
        if (c.ports[n]).pd.swap = .giving then ((c.vconn n false).swapReport n soDONE).swapOver n else c
      | .unsupported => c.pdSend n .notSupported
      | m => c.swapAnswer n m

/-- Capabilities that the contract may no longer satisfy go out: 500 ms for a Request (R300). -/
def Chip.capsOut (c : Chip) (n : Port) : Chip :=
  let c := c.pdCapsSent n
  let bad : Bool := (c.ports[n]).pd.contract.any (fun k => !k.offered (c.pdOffer n (c.pdReduced n)))
  c.updPd n (fun p => { p with answerBy := if bad then some (c.clk.now + ms 500) else none })

/-- EPR mode ends (R299, R300). -/
def Chip.eprEnd (c : Chip) (n : Port) : Chip :=
  let c := c.setSt (.PD_STATUS n) F.PD_STATUS_EPR_MODE 0
  c.updPd n (fun p => { p with keepAliveBy := none })

/-- The contract in force is an EPR one. -/
def Chip.eprContract (c : Chip) (n : Port) : Bool := (c.ports[n]).pd.contract.any (fun k => k.kind == pkEPR)

/-- EPR_Mode Enter or Exit (R299). Enter is accepted in READY under its three conditions; else Enter Failed names the cable where it
is not EPR-capable, or the source (log entry 216). Exit under an EPR contract ends in Hard_Reset, as PD 3.1 requires (R306). -/
def execPdEprMode (n : Port) (enter : Bool) (s : State) : Host.Outcome State Fault Refusal :=
  s.runS fun c =>
    if !c.pdLive n ∨ c.pdDirect n ∨ !pdTalks (c.pdSt n) then c
    else if enter then
      if c.pdSt n = pdREADY ∧ c.get (.PD_CAPS n) F.PD_CAPS_EPR ≠ 0 ∧ c.bit (.PD_STATUS n) F.PD_STATUS_CABLE_EPR ∧ !c.pdReduced n then
        let c := (c.pdSend n .eprEntered).setSt (.PD_STATUS n) F.PD_STATUS_EPR_MODE 1
        let c := c.updPd n (fun p => { p with keepAliveBy := some (c.clk.now + ms 900) })
        c.capsOut n
      else c.pdSend n (.eprFailed (!c.bit (.PD_STATUS n) F.PD_STATUS_CABLE_EPR))
    else if c.pdSt n ≠ pdREADY ∨ !c.bit (.PD_STATUS n) F.PD_STATUS_EPR_MODE then c
    else if c.eprContract n then c.hardReset n true hcEPR_EXIT
    else (c.eprEnd n).capsOut n

/-- A set is to be offered (R300): a reduced one while the rail is over budget, the full one after 1 s within it, or one that is
due. -/
def Chip.capsWanted (c : Chip) (n : Port) : Bool :=
  let p := (c.ports[n]).pd
  if (c.rails[c.railOf n]).overB then !c.pdReduced n || p.capsDue
  else if c.pdReduced n then p.fullFrom.any (fun t => t + sec 1 ≤ c.clk.now)
  else p.capsDue

/-- Offer the set that the rail's budget allows (R300). While the rail is over budget an EPR contract is first ended with EPR_Mode
Exit: the implicit contract is left (DESIGN CHOICE, log entry 246), and the set follows at the next opportunity. -/
def Chip.offerSet (c : Chip) (n : Port) : Chip :=
  if (c.rails[c.railOf n]).overB && c.bit (.PD_STATUS n) F.PD_STATUS_EPR_MODE then
    let epr := c.eprContract n
    let c := (((c.eprEnd n).pdSend n .eprExit).updPd n (fun p => { p with capsDue := true }))
    if epr then
      c.updSt (.PD_STATUS n) (fun w => fset (fset (fset w F.PD_STATUS_CUR 0) F.PD_STATUS_OBJ_POS 0) F.PD_STATUS_KIND 0)
    else c
  else (c.pdBudget n).capsOut n

/-- The next opportunity (R296, R300): READY with no sequence running, 16 ms after Rp goes to SinkTxNG. A swap that was asked for goes
first, then a cable discovery, then capabilities. -/
def execPdNextOpportunity (n : Port) (s : State) : Host.Outcome State Fault Refusal :=
  s.runS fun c =>
    let p := (c.ports[n]).pd
    if !c.pdLive n ∨ c.pdSt n ≠ pdREADY ∨ p.swap ≠ .idle ∨ p.discovering then c
    else if !(p.swapWanted || c.needsCable n || c.capsWanted n) then c
    else match p.ngFrom with
      | none => c.pdOwn n
      | some t =>
        if c.clk.now < t + ms 16 then c
        else if p.swapWanted then c.swapSend n
        else if c.needsCable n then c.discover n
        else c.offerSet n

/-- No valid Request within 500 ms of capabilities that the contract is absent from: Hard_Reset (R300). -/
def execReducedRequestTimeout (n : Port) (s : State) : Host.Outcome State Fault Refusal :=
  s.runS fun c =>
    let p := (c.ports[n]).pd
    if !c.pdLive n ∨ c.pdSt n ≠ pdREADY ∨ !p.answerBy.any (· ≤ c.clk.now) then c
    else
      let c := c.updPd n (fun p => { p with answerBy := none })
      if p.contract.any (fun k => !k.offered (c.pdOffer n (c.pdReduced n))) then c.hardReset n true hcREDUCED else c

/-- EPR_KeepAlive times out (R301). -/
def execEprKeepaliveTimeout (n : Port) (s : State) : Host.Outcome State Fault Refusal :=
  s.runS fun c =>
    if c.pdLive n ∧ c.bit (.PD_STATUS n) F.PD_STATUS_EPR_MODE ∧ (c.ports[n]).pd.keepAliveBy.any (· ≤ c.clk.now) then
      c.hardReset n true hcKEEPALIVE
    else c

/-- The PPS Request times out (R301). -/
def execPpsRequestTimeout (n : Port) (s : State) : Host.Outcome State Fault Refusal :=
  s.runS fun c =>
    if c.pdLive n ∧ (c.ports[n]).pd.ppsBy.any (· ≤ c.clk.now) then c.hardReset n true hcPPS else c

/-! ### VCONN and the cable (R297, R298, R305) -/

/-- VCONN above 45 mA for 1 ms (R297): off, PD_VCONN_FAULT, the cable no longer counts as discovered. -/
def execVconnOvercurrent (n : Port) (ma : Nat) (s : State) : Host.Outcome State Fault Refusal :=
  s.runS fun c =>
    if !(c.isPd n && c.isDrop n) || !c.vconnSrc n || ma ≤ 45 then c
    else
      let c := c.updSt (.PD_STATUS n) (fun w =>
        fset (fset (fset w F.PD_STATUS_VCONN_SRC 0) F.PD_STATUS_CABLE_5A 0) F.PD_STATUS_CABLE_EPR 0)
      let c := c.updPd n (fun p =>
        { p with cableKnown := false, discovering := false, capsDue := p.capsDue || c.pdSt n == pdREADY })
      c.postFault .pd (c.evPd 0x0317 n [ma])

/-- What follows a Discover Identity (R298): with what the cable declares, its 5 A rating and EPR with 50 V; unanswered for 10 ms, it
is sent again, up to 20 times. -/
def execCableDiscovery (n : Port) (answer : Option (Bool × Bool)) (s : State) : Host.Outcome State Fault Refusal :=
  s.runS fun c =>
    if !c.pdLive n ∨ !(c.ports[n]).pd.discovering ∨ !c.vconnSrc n then c
    else if answer.isNone ∧ (c.ports[n]).pd.cableTries < 20 then
      if c.clk.now < (c.ports[n]).pd.cableAt + ms 10 then c else c.discoverSend n
    else
      let a := answer.getD (false, false)
      let c := c.updSt (.PD_STATUS n) (fun w =>
        fset (fset w F.PD_STATUS_CABLE_5A (bitOf a.1)) F.PD_STATUS_CABLE_EPR (bitOf a.2))
      let c := c.updPd n (fun p =>
        { p with cableKnown := true, discovering := false, capsDue := p.capsDue || c.pdSt n == pdREADY, ngFrom := none })
      let c := if c.pdSt n = pdREADY then c.pdOwn n else c
      c.post (c.evPd 0x0316 n [if a.1 then 100 else 60, bitOf a.2])

/-- VCONN_Swap from the partner (R305). -/
def execVconnSwapReceive (n : Port) (s : State) : Host.Outcome State Fault Refusal :=
  s.runS fun c =>
    let st := c.pdSt n
    if !c.pdLive n ∨ c.pdDirect n ∨ st = pdOFF ∨ st = pdWAIT_VBUS then c
    else
      let take (c : Chip) : Chip :=
        let c := c.pdSend n .accept
        if c.vconnSrc n then c.giveVconn n else (c.takeVconn n).swapOver n
      match (c.ports[n]).pd.swap with
      | .idle =>
        if st = pdTRANSITION ∨ st = pdNEGOTIATING ∨ st = pdHARD_RESET ∨ st = pdERROR_RECOVERY then c.pdSend n .wait
        else
          let c := if (c.ports[n]).pd.swapWanted then c.swapReport n soSATISFIED else c
          take (c.updPd n (fun p => { p with swapByUs := false, swapTries := 0, swapWanted := false }))
      | .sent => c.pdSend n .wait
      | .retry => take ((c.swapReport n soSATISFIED).updPd n (fun p => { p with swapByUs := false }))
      | .giving => c

/-- The partner's PS_RDY does not come within 150 ms (R305): Hard_Reset. -/
def execVconnGiveTimeout (n : Port) (s : State) : Host.Outcome State Fault Refusal :=
  s.runS fun c =>
    let p := (c.ports[n]).pd
    if c.pdLive n ∧ p.swap = .giving ∧ p.swapUntil.any (· ≤ c.clk.now) then c.hardReset n true hcVCONN else c

/-- SWAP_RETRY_WAIT ends (R305): VCONN_Swap again. -/
def execSwapRetryWaitExpiry (n : Port) (s : State) : Host.Outcome State Fault Refusal :=
  s.runS fun c =>
    let p := (c.ports[n]).pd
    if c.pdLive n ∧ p.swap = .retry ∧ p.swapUntil.any (· ≤ c.clk.now) then
      (c.updPd n (fun p => { p with swapTries := p.swapTries + 1 })).swapSend n
    else c

/-- No answer to VCONN_Swap in 30 ms (R305): Soft_Reset. -/
def execSwapNoAnswer (n : Port) (s : State) : Host.Outcome State Fault Refusal :=
  s.runS fun c =>
    let p := (c.ports[n]).pd
    if c.pdLive n ∧ p.swap = .sent ∧ p.swapUntil.any (· ≤ c.clk.now) then
      let c := (c.updPd n (fun p => { p with msgId := 0 })).pdSend n .softReset
      ((c.swapDrop n rTIMEOUT).swapIdle n).noDiscovery n
    else c

/-! ### Hard reset (R306) -/

/-- Hard_Reset from the partner (R306). -/
def execHardResetReceive (n : Port) (s : State) : Host.Outcome State Fault Refusal :=
  s.runS fun c =>
    let st := c.pdSt n
    if !c.pdLive n ∨ st = pdOFF ∨ st = pdWAIT_VBUS ∨ st = pdDIRECT ∨ st = pdHARD_RESET ∨ st = pdERROR_RECOVERY then c
    else c.hardReset n false hcRECEIVED

/-- The recovery time after a hard reset ends (R301, R306): vSafe5V with VCONN on. -/
def execHardResetRecovery (n : Port) (s : State) : Host.Outcome State Fault Refusal :=
  s.runS fun c =>
    if c.pdSt n = pdHARD_RESET ∧ (c.ports[n]).pd.until_.any (· ≤ c.clk.now) then c.pdRestart n else c

/-- Rp was removed for 25 ms (R301): then as attach. -/
def execErrorRecoveryEnd (n : Port) (s : State) : Host.Outcome State Fault Refusal :=
  s.runS fun c =>
    if c.pdSt n = pdERROR_RECOVERY ∧ (c.ports[n]).pd.until_.any (· ≤ c.clk.now) then c.pdRestart n else c

end Sys2Proof.Machine
end

