-- ==== Sys2Proof/Machine/PondFam.lean ====
section
/-! DEFINITION. The meanings of the Pond commands (07): opcodes 0x0601 to 0x0609, the bare allocator (R147 to R151), the
wait list's repeats (R157), the engines' write-backs (R159). -/

namespace Sys2Proof.Machine

/-! ### Door opcodes -/

/-- POND_STATUS. -/
def execPondStatus (q : ReqId) (s : State) : Host.Outcome State Fault Refusal :=
  s.runS fun c => c.serve q 0x0601#16 [0, 1] fun _ c =>
    c.answer q rOK [c.pFree, c.pReserved, c.get .POND_WAIT F.POND_WAIT_WAITERS, c.get .POND_POISONED F.POND_POISONED_COUNT,
      c.get .POND_QSUM F.POND_QSUM_SUM, c.get .POND_STATUS F.POND_STATUS_OVERCOMMIT, (c.rd .POND_CE_COUNT).toNat] 28

/-- QUOTA_READ: QUOTA, USED and OVER_QUOTA per holder, cut at holder 98. -/
def execQuotaRead (q : ReqId) (first count : Nat) (s : State) : Host.Outcome State Fault Refusal :=
  s.runS fun c => c.serve q 0x0602#16 [0, 1] fun _ c =>
    if 98 < first ∨ count = 0 ∨ 99 < count then c.answer q rBAD_ARG
    else
      let hs := ((List.finRange 99).drop first).take count
      c.answer q rOK (hs.flatMap (fun h => [c.quota h, c.used h, bitOf (c.overQuota h)])) (8 * hs.length)

/-- QUOTA_SET (R154): holder 96 to 98 with TGT_KIND 0, the port's own with TGT_KIND 1; the previous QUOTA and USED. -/
def execQuotaSet (q : ReqId) (quota holder : Nat) (s : State) : Host.Outcome State Fault Refusal :=
  s.runS fun c => c.serve q 0x0603#16 [0, 1] fun e c =>
    let h? : Option (Fin 99) :=
      if e.req.tgtKind = 1 then some (Fin.ofNat 99 e.req.tgtIndex)
      else if 96 ≤ holder ∧ holder ≤ 98 then some (Fin.ofNat 99 holder)
      else none
    match h? with
    | none => c.answer q rBAD_ARG
    | some h =>
      if pondSize < quota then c.answer q rBAD_ARG
      else
        let prev := [c.quota h, c.used h]
        (c.setQuota h quota).answer q rOK prev 8

/-- CTX_READ: the 32 context bytes, the directory entry (type and holder), the poison flag. -/
def execCtxRead (q : ReqId) (cid : Nat) (s : State) : Host.Outcome State Fault Refusal :=
  s.runS fun c => c.serve q 0x0604#16 [0, 1] fun _ c =>
    if pondSize ≤ cid then c.answer q rBAD_ARG
    else
      let x := c.ctx cid
      let (b, c) := c.ctxBytes cid
      c.answer q rOK (b.map (·.toNat) ++ [x.typ, x.holder, bitOf x.poisoned]) 35

/-- The CIDs of a holder and a type (0 any) from a start, in order, at most `count`, and the CID to continue with. FREE CIDs
belong to no holder. -/
def Chip.listCtx (c : Chip) (holder typ start count : Nat) : List Nat × Nat :=
  let l := ((c.pond.ctxs.filter (fun x =>
    start ≤ x.1 && x.2.typ != tFREE && x.2.holder == holder && (typ == 0 || x.2.typ == typ))).map (·.1)).take count
  (l, if l.length < count then pondSize else (l.getLast?.map (· + 1)).getD start)

/-- CTX_LIST. -/
def execCtxList (q : ReqId) (holder typ start count : Nat) (s : State) : Host.Outcome State Fault Refusal :=
  s.runS fun c => c.serve q 0x0605#16 [0, 1] fun _ c =>
    if 98 < holder ∨ 383 < count ∨ 7 < typ ∨ pondSize ≤ start then c.answer q rBAD_ARG
    else
      let r := c.listCtx holder typ start count
      c.answer q rOK (r.1 ++ [r.2]) (4 * r.1.length + 4)

/-- POND_UNPOISON (R164): `pass` is how the four patterns fare. -/
def execPondUnpoison (q : ReqId) (cid : Nat) (pass : Bool) (s : State) : Host.Outcome State Fault Refusal :=
  s.runS fun c => c.serve q 0x0606#16 [0, 1] fun _ c =>
    let x := c.ctx cid
    if pondSize ≤ cid ∨ !x.poisoned then c.answer q rBAD_ARG
    else if !pass then c.answer q rLOCKED
    else
      let c := c.setCtx cid { gen := x.gen }
      let c := c.setF .POND_POISONED F.POND_POISONED_COUNT (c.get .POND_POISONED F.POND_POISONED_COUNT - 1)
      let c := c.setF .POND_FREE F.POND_FREE_FREE (c.pFree + 1)
      (c.reserveFreed.poolEvents).answer q rOK

/-- SCRUB_SET; POND_SCRUB is configuration class (R155, R323). -/
def execScrubSet (q : ReqId) (en : Bool) (interval : BitVec 16) (s : State) : Host.Outcome State Fault Refusal :=
  s.runS fun c => c.serve q 0x0607#16 [0, 1] fun _ c =>
    if c.frozen then c.answer q rLOCKED
    else
      (c.wrRW .POND_SCRUB (fset (fset 0#32 F.POND_SCRUB_EN (bitOf en)) F.POND_SCRUB_INTERVAL interval.toNat)).answer q rOK

/-- CACHE_STATS: RESIDENT and SPILLS of each engine. -/
def execCacheStats (q : ReqId) (first count : Nat) (s : State) : Host.Outcome State Fault Refusal :=
  s.runS fun c => c.serve q 0x0608#16 [0, 1] fun _ c =>
    if 512 ≤ first ∨ 24 < count then c.answer q rBAD_ARG
    else
      let es := ((List.finRange 512).drop first).take count
      c.answer q rOK (es.flatMap (fun e =>
        [(c.engines[e]).cache.length, (c.engines[e]).spillsShown c.msWindow])) (4 * es.length)

/-- LOW_MARK_SET; POND_LOW_MARK is configuration class. -/
def execLowMarkSet (q : ReqId) (mark : BitVec 21) (s : State) : Host.Outcome State Fault Refusal :=
  s.runS fun c => c.serve q 0x0609#16 [0, 1] fun _ c =>
    if c.frozen then c.answer q rLOCKED
    else ((c.wrRW .POND_LOW_MARK (mark.setWidth 32)).poolEvents).answer q rOK

/-! ### The allocator -/

/-- A bare request of 1 to 64 contexts of a type (R147, R149, R150): its result code and CIDs are kept as the allocator's last
answer. During a directory rebuild it waits (R354). -/
def Chip.bareAlloc (c : Chip) (h : Fin 99) (typ size : Nat) : Chip :=
  if typ = 0 ∨ 7 < typ ∨ size = 0 ∨ 64 < size then c.updPond (fun p => { p with lastAlloc := (rBAD_ARG, []) })
  else
    match c.alloc h (.of typ) size with
    | (.ok cids, c) => c.updPond (fun p => { p with lastAlloc := (rOK, cids) })
    | (.error v, c) => c.updPond (fun p => { p with lastAlloc := (v, []) })

/-- POND_ALLOC. -/
def execPondAlloc (h : Fin 99) (typ size : Nat) (s : State) : Host.Outcome State Fault Refusal :=
  s.runS fun c =>
    if c.pond.rebuild then c.updPond (fun p => { p with held := p.held ++ [.alloc h typ size] })
    else c.bareAlloc h typ size

/-- An owner frees a context (R151). -/
def execContextFree (cid : Cid) (s : State) : Host.Outcome State Fault Refusal := s.runS fun c => c.freeCtx cid.toNat

/-- A bulk free by holder and type, 0 for any (R151). -/
def Chip.bareBulk (c : Chip) (h : Fin 99) (typ : Nat) : Chip :=
  c.bulkFree (fun _ x => x.holder == h.val && (typ == 0 || x.typ == typ))

/-- BULK_FREE; during a directory rebuild it waits (R354). -/
def execBulkFree (h : Fin 99) (typ : Nat) (s : State) : Host.Outcome State Fault Refusal :=
  s.runS fun c => if c.pond.rebuild then c.updPond (fun p => { p with held := p.held ++ [.bulk h typ] }) else c.bareBulk h typ

/-- A port engine refused by a full wait list repeats its request every 100 ms (R157): granted, or it joins the list, or
POND_WAITLIST_FULL again. -/
def execWaitListRetry (n : Port) (s : State) : Host.Outcome State Fault Refusal :=
  s.runS fun c => c.each (c.pond.refused.filter (fun w => w.who.port == n && w.retryAt ≤ c.clk.now)) (fun c w =>
    if c.pond.rebuild then c
    else match c.alloc w.holder (c.waitGroup w.who) w.size with
      | (.ok cids, c) => c.updPond (fun p =>
          { p with refused := p.refused.filter (fun x => x.who ≠ w.who), grants := p.grants ++ [(w, cids)] })
      | (.error _, c) => c.waitJoin w)

/-- An engine writes its dirty entries back (R159). -/
def execCacheWriteback (e : Engine) (s : State) : Host.Outcome State Fault Refusal :=
  s.run fun c => c.updEng e (fun x => { x with cache := x.cache.map (fun y => (y.1, false)) })

end Sys2Proof.Machine
end

