-- ==== Sys2Proof/Machine/PondUe.lean ====
section
/-! DEFINITION. Errors in the Pond (07 R161 to R163, 17 R350, R351, R354): corrected and uncorrectable contexts, their
actions, the directory's rebuild, the rebuild of the service tables. -/

namespace Sys2Proof.Machine

/-! ### What a context belongs to -/

/-- The route of the device that a DEV context, or the PARENT of an EP context, stands for: attached, being enumerated, or waiting
with its group granted. -/
def Chip.routeOfDev (c : Chip) (n : Port) (cid : Nat) : Option (BitVec 20) :=
  let d := (c.ports[n]).drop
  match d.devs.find? (fun x => x.cid == cid), d.enum.filter (fun e => e.cid == cid) with
  | some x, _ => some x.route
  | none, some e => some e.route
  | none, none =>
    match c.pond.grants.find? (fun g => g.2.contains cid) with
    | some (w, _) =>
      (match w.who with
       | .device m r => if m = n then some r else none
       | .binding .. => none)
    | none => none

/-- The node that a NODE context, or the PARENT of an OBJ context, stands for. -/
def Chip.nodeOfCid (c : Chip) (n : Port) (cid : Nat) : Option Nat :=
  ((c.ports[n]).line.nodes.find? (fun r => r.cid == cid)).map (·.addr)

/-- The port of a port holder. -/
def portHolder (h : Nat) : Option Port := if hh : h < 96 then some ⟨h, hh⟩ else none

/-- The group of a context. -/
def Chip.ueGroup (c : Chip) (cid : Nat) : UeGroup :=
  let x := c.ctx cid
  match portHolder x.holder with
  | none => .none
  | some n =>
    if x.typ = tDEV ∨ x.typ = tEP ∨ x.typ = tSERVICE then .tree n
    else
      let head := if x.typ = tNODE then cid else x.parent
      match c.nodeOfCid n head with
      | some a => .node n a
      | none => .none

/-- The port of a group. -/
def UeGroup.port? : UeGroup → Option Port
  | .none => Option.none
  | .tree n => some n
  | .node n _ => some n

/-- The window that a further error in the same context, tree or node strikes (R351 ladder 0x5). -/
def Chip.ueWin? (c : Chip) (cid : Nat) (g : UeGroup) : Option UeWin :=
  c.pond.ueOpen.find? (fun w => c.clk.now < w.ends && (w.cid == cid || (g != .none && w.group == g)))

/-! ### The actions of R163 -/

/-- Action codes of POND_UE, in the order of the table *Uncorrectable contexts*. -/
def ueAction (typ holder : Nat) : Nat :=
  if typ = tDEV ∨ typ = tEP then 0
  else if typ = tNODE ∨ typ = tOBJ then 1
  else if typ = tMARK then 2
  else if typ = tSTREAM then 3
  else if typ = tSERVICE then (if holder < 96 then 4 else 5)
  else 6

/-- A device is removed as on detach, and its port or hub port reset. -/
def Chip.ueDevice (c : Chip) (n : Port) (dev : Nat) : Chip :=
  match c.routeOfDev n dev with
  | none => c
  | some r =>
    let speed := match c.dev? n r with
      | some d => d.speed
      | none => spNONE
    let c := c.detach n r
    if r = 0#20 then c.startReset n else (c.attachBelow n r speed).nextEnum n

/-- Firmware requests a binding anew, once Headspring runs. -/
def Chip.bindAgain (c : Chip) (b : Bind) : Chip := if c.hsRuns then c.tryBind b else c.pendBind b .headspring

/-- A binding's SERVICE context is lost: the binding ends; one that is being set up, or has not taken its grant yet, is re-requested
by firmware. -/
def Chip.ueService (c : Chip) (cid : Nat) : Chip :=
  let c := c.endBinds (fun b => b.pending.isNone && b.cid == cid) ubUNBIND
  let c := c.each (c.svc.binds.filter (fun b => b.pending == some .setup && b.cid == cid)) (fun c b =>
    (c.dropCtls b).bindAgain { b with setup := [] })
  match c.pond.grants.find? (fun g => g.2.contains cid) with
  | some (w, _) =>
    (match w.who with
     | .binding n r i =>
       let c := c.updPond (fun p => { p with grants := p.grants.filter (fun g => g.1.who != w.who) })
       (match c.bind? n r i with
        | some b => c.bindAgain b
        | none => c)
     | _ => c)
  | none => c

/-- The slot of an armed mark keeps its copy, from which it fires. -/
def Chip.ueMark (c : Chip) (cid : Nat) (x : Ctx) : Chip :=
  match x.body with
  | .mark m => c.updBelt m.belt (fun y =>
      { y with slots := y.slots.map (fun s => if s.cid = cid ∧ s.gen = x.gen then { s with lost := true } else s) })
  | _ => c

/-- A table page or a template is lost. The further contexts of a template whose head is lost stay charged to H_MGMT
(DESIGN CHOICE, log entry 203). -/
def Chip.uePage (c : Chip) (cid : Nat) (b : Body) : Chip :=
  match b with
  | .page i =>
    c.updSvc (fun v =>
      { v with pages := v.pages.filter (· != cid), lostPages := v.lostPages ++ [i], rebuilding := true })
  | .more h =>
    match (c.ctx h).body with
    | .template _ => c.setBody h (.more h)
    | _ => c
  | _ => c

/-- The action for a context that was `x` before it was poisoned. -/
def Chip.ueAct (c : Chip) (cid : Nat) (x : Ctx) : Chip :=
  match ueAction x.typ x.holder, portHolder x.holder with
  | 0, some n => c.ueDevice n (if x.typ = tDEV then cid else x.parent)
  | 1, some n =>
    (match c.nodeOfCid n (if x.typ = tNODE then cid else x.parent) with
     | some a => c.removeNode n a remUNCORRECTABLE false none
     | none => c)
  | 3, _ =>
    (match c.svc.streams.find? (fun s => s.cid == cid && !s.closed) with
     | some s => c.closeStream s false
     | none => c)
  | 2, _ => c.ueMark cid x
  | 4, _ => c.ueService cid
  | 5, _ => c.uePage cid x.body
  | _, _ => c

/-- The doors that POND_UE goes to. -/
def Chip.ueRoute (c : Chip) (cid : Nat) (x : Ctx) : Route :=
  match x.body with
  | .mark m => .owner (some m.door)
  | _ =>
    match c.svc.streams.find? (fun s => s.cid == cid && !s.closed) with
    | some s => if x.typ = tSTREAM then .owner (some s.door) else .subs
    | none => .subs

/-- A second error inside the window of the first (R350, R351): ladder 0x5 rung 2. -/
def Chip.ueSecond (c : Chip) (w : UeWin) : Chip :=
  match w.group.port? with
  | none => c.escalate 5 2 0 0x0607
  | some n => (c.escalate 5 2 n.val 0x0607).startScope (.port n) none false []

/-- A double-bit error in a context (R163). -/
def Chip.pondUe (c : Chip) (cid : Nat) : Chip :=
  let x := c.ctx cid
  let g := c.ueGroup cid
  let w := c.ueWin? cid g
  let now := c.clk.now
  if x.poisoned then
    match w with
    | none => c
    | some w => (c.updPond (fun p => { p with ueOpen := p.ueOpen.filter (· != w) })).ueSecond w
  else
    let route := c.ueRoute cid x
    let e := c.ev 0x0607 0 0 [cid, x.typ, x.holder, ueAction x.typ x.holder]
    let c := c.poison cid
    let c := c.setF .POND_ERR_CID F.POND_ERR_CID_TYPE x.typ
    let c := (c.setF .POND_ERR_CID F.POND_ERR_CID_CID cid).bump .POND_ERR_CID
    let c := c.record .POND_STATUS F.POND_STATUS_UE_SEEN
    let c := (c.fault .pondUe e).postR route e
    match w with
    | some w => (c.updPond (fun p => { p with ueOpen := p.ueOpen.filter (· != w) })).ueSecond w
    | none =>
      let c := c.updPond (fun p =>
        { p with ueOpen := p.ueOpen.filter (fun w => now < w.ends) ++ [⟨cid, g, now + us 100⟩] })
      c.ueAct cid x

/-- A single-bit error (R161): corrected, counted, POND_CE at most once per second. -/
def Chip.pondCe (c : Chip) (cid word : Nat) : Chip :=
  let c := c.wr .POND_CE_COUNT (BitVec.ofNat 32 (sat 32 ((c.rd .POND_CE_COUNT).toNat + 1)))
  let c := c.record .POND_STATUS F.POND_STATUS_CE_SEEN
  let e := c.ev 0x0606 0 0 [cid, word, (c.rd .POND_CE_COUNT).toNat]
  (c.fault .pondCe e).postRate (sec 1) 0 e

/-- SCRUB_STEP (R162): the scrubber reads the next context in CID order. It stops with the engine clocks (R333). -/
def execScrubStep (e : EccErr) (s : State) : Host.Outcome State Fault Refusal :=
  s.runS fun c =>
    if !c.bit .POND_SCRUB F.POND_SCRUB_EN || !c.awake || c.dozing || c.clk.boot == .held then c
    else
      let cid := c.pond.scrub
      let c := c.updPond (fun p => { p with scrub := (cid + 1) % pondSize })
      match e with
      | .none => c
      | .single w => c.pondCe cid w
      | .double _ => c.pondUe cid

/-- DIRECTORY_UE (R354): a rebuild starts; a second error during it is a device-scope reset (R351 ladder 0x6). -/
def execDirectoryUe (s : State) : Host.Outcome State Fault Refusal :=
  s.runS fun c =>
    if c.pond.rebuild then (c.escalate 6 2 0 0x0607).deviceReset 4 0
    else c.updPond (fun p => { p with rebuild := true })

/-- What waited for the end of the rebuild goes on. -/
def Chip.runHeld (c : Chip) (r : PondReq) : Chip :=
  match r with
  | .alloc h typ size => c.bareAlloc h typ size
  | .bulk h typ => c.bareBulk h typ
  | .free cids => c.each cids Chip.freeCtx
  | .group n r =>
    match (c.ports[n]).drop.enum with
    | some e => if e.route = r ∧ e.step = 4 then c.enumGroup n e else c
    | none => c
  | .leave n r => c.treeLeaves n r
  | .post code kind index payload => c.post (c.ev code kind index payload)
  | .answer q res => c.answer q res

/-- DIRECTORY_REBUILD_END (R354): contexts whose word 0 is uncorrectable are poisoned; what waited goes on. -/
def execDirectoryRebuildEnd (bad : List Cid) (s : State) : Host.Outcome State Fault Refusal :=
  s.runS fun c =>
    if !c.pond.rebuild then c
    else
      let held := c.pond.held
      let c := c.updPond (fun p => { p with rebuild := false, held := [] })
      let c := c.each bad (fun c x => c.pondUe x.toNat)
      let c := c.each held Chip.runHeld
      Chip.serveWaiters (c.pond.waiters.length + 1) c

/-- SERVICE_TABLE_REBUILD_END (R163): new contexts hold the tables of the TABLES component last applied; class match goes
on. -/
def execServiceTableRebuildEnd (s : State) : Host.Outcome State Fault Refusal :=
  s.runS fun c =>
    match c.svc.rebuilding && c.hsRuns && !c.pond.rebuild, c.svc.tablesBank with
    | true, some bank =>
      (match c.applyTables bank with
       | .ok (_, c) => (c.updSvc (fun v => { v with rebuilding := false })).classMatchAll
       | .error _ => c)
    | _, _ => c

end Sys2Proof.Machine
end

