-- ==== Sys2Proof/Machine/PortPwr.lean ====
section
/-! DEFINITION. The meanings of the port power commands (13) and of the fuse link (R17 to R19): rails, channels, mode
changes. -/

namespace Sys2Proof.Machine

/-! ### Door opcodes -/

/-- RAIL_SET: the previous words; both registers written (R286). -/
def execRailSet (q : ReqId) (rail : Nat) (cfg budget : Word) (s : State) : Host.Outcome State Fault Refusal :=
  s.runS fun c => c.serve q 0x0220#16 [0] fun _ c =>
    if h : rail < 8 then
      let j : RailId := ⟨rail, h⟩
      let prev := [(c.rd (.RAIL_CFG j)).toNat, (c.rd (.RAIL_BUDGET j)).toNat]
      if c.frozen then c.answer q rLOCKED
      else if fget cfg F.RAIL_CFG_EN = 0 ∧ (c.railChans j).any (fun n => (c.chans[n]).phase != .off) then c.answer q rLOCKED
      else ((c.fuseNow (.RAIL_CFG j) cfg).fuseNow (.RAIL_BUDGET j) budget).answer q rOK prev 8
    else c.answer q rBAD_ARG

/-- RAIL_STATUS: RAIL_STATUS, RAIL_MEAS, the channels assigned. -/
def execRailStatus (q : ReqId) (rail : Nat) (s : State) : Host.Outcome State Fault Refusal :=
  s.runS fun c => c.serve q 0x0221#16 [0] fun _ c =>
    if h : rail < 8 then
      let j : RailId := ⟨rail, h⟩
      let on := (c.railChans j).map (·.val)
      c.answer q rOK ([(c.rd (.RAIL_STATUS j)).toNat, (c.rd (.RAIL_MEAS j)).toNat] ++ on) (8 + 12)
    else c.answer q rBAD_ARG

/-- PORT_MODE (R29, R30, R290): the channel part is decided first, a refused one changes nothing; then the change starts, or waits
for the one before it. A change to LINE that would leave the channel at SUSPEND is refused (R31). A PORT_MODE that names the target
mode is no change. -/
def execPortMode (q : ReqId) (mode ch : Nat) (s : State) : Host.Outcome State Fault Refusal :=
  s.runS fun c => c.servePort q opPORT_MODE fun n e c =>
    let drop (c : Chip) : Chip := c.updPort n (fun p => { p with seqs := p.seqs.filter (fun m => m.req != some q) })
    match modeOf mode with
    | none => (drop c).answer q rBAD_ARG
    | some m =>
      let v := if ch = 2 then c.onVerdict n else rOK
      let sus : Bool := e.bump && m == .line && ch != 1 && (c.chans[n]).phase == .suspend
      if 2 < ch ∨ !c.wiringOk n m ∨ sus then (drop c).answer q rBAD_ARG
      else if v ≠ rOK then (drop c).answer q v
      else if e.bump then c.startMode n
      else
        let c := if ch = 1 then c.fuseNow (.CH_CMD n) 0#32 else if ch = 2 then c.fuseNow (.CH_CMD n) 1#32 else c
        c.answerAfter n q rOK

/-- The last step of a mode change (R51). -/
def execModeSequenceEnd (n : Port) (s : State) : Host.Outcome State Fault Refusal := s.runS fun c => c.endMode n

/-- PIN_CFG_SET: the previous word; LOCKED outside mode OFF (R50). -/
def execPinCfgSet (q : ReqId) (wiring : BitVec 2) (plain selPol : Bool) (s : State) : Host.Outcome State Fault Refusal :=
  s.runS fun c => c.servePort q 0x0302#16 fun n _ c =>
    if (c.ports[n]).mode ≠ .off ∨ !(c.ports[n]).seqs.isEmpty then c.answer q rLOCKED
    else
      let w := fset (fset (fset 0#32 F.PIN_CFG_WIRING wiring.toNat) F.PIN_CFG_CONN (bitOf plain)) F.PIN_CFG_SEL_POL
        (bitOf selPol)
      (c.wrRW (.PIN_CFG n) w).answer q rOK [(c.rd (.PIN_CFG n)).toNat] 4

/-- CH_SET (R290): 0 OFF, 1 ON. -/
def execChSet (q : ReqId) (state : Nat) (s : State) : Host.Outcome State Fault Refusal :=
  s.runS fun c => c.servePort q 0x0303#16 fun n _ c =>
    match state with
    | 0 => (c.fuseNow (.CH_CMD n) 0#32).answerAfter n q rOK
    | 1 =>
      let v := c.onVerdict n
      if v = rOK then (c.fuseNow (.CH_CMD n) 1#32).answer q rOK else c.answer q v
    | _ => c.answer q rBAD_ARG

/-- CH_CONFIG (R274, R275): limits against RSHUNT; RAIL and RSHUNT change only while OFF; the previous words. -/
def execChConfig (q : ReqId) (cfg sense inrush limit susp : Word) (s : State) : Host.Outcome State Fault Refusal :=
  s.runS fun c => c.servePort q 0x0304#16 fun n _ c =>
    let prev := [Reg.CH_CFG n, .CH_SENSE n, .CH_INRUSH n, .CH_LIMIT n, .CH_SUSP n].map (fun r => (c.rd r).toNat)
    let moved : Bool := fget cfg F.CH_CFG_RAIL != c.get (.CH_CFG n) F.CH_CFG_RAIL ||
      fget sense F.CH_SENSE_RSHUNT != c.get (.CH_SENSE n) F.CH_SENSE_RSHUNT
    if c.frozen then c.answer q rLOCKED
    else if !partsOk (fget sense F.CH_SENSE_RSHUNT) (fget inrush F.CH_INRUSH_I_MAX) (fget limit F.CH_LIMIT_SHORT_I) then
      c.answer q rBAD_ARG
    else if moved ∧ (c.chans[n]).phase ≠ .off then c.answer q rLOCKED
    else
      let c := (c.fuseNow (.CH_CFG n) cfg).fuseNow (.CH_SENSE n) sense
      let c := ((c.fuseNow (.CH_INRUSH n) inrush).fuseNow (.CH_LIMIT n) limit).fuseNow (.CH_SUSP n) susp
      c.answer q rOK prev 20

/-- CH_CURVE: eight breaker points; the previous words. -/
def execChCurve (q : ReqId) (points : List Word) (s : State) : Host.Outcome State Fault Refusal :=
  s.runS fun c => c.servePort q 0x0305#16 fun n _ c =>
    let prev := (List.finRange 8).map (fun i => (c.rd (.CH_CURVE n i)).toNat)
    if c.frozen then c.answer q rLOCKED
    else if points.length ≠ 8 then c.answer q rBAD_ARG
    else (c.each (List.finRange 8) (fun c i => c.fuseNow (.CH_CURVE n i) (points.getD i.val 0#32))).answer q rOK prev 32

/-- CH_STATUS: CH_STATUS, CH_MEAS, RAIL_STATUS of the channel's rail. -/
def execChStatus (q : ReqId) (s : State) : Host.Outcome State Fault Refusal :=
  s.runS fun c => c.servePort q 0x0306#16 fun n _ c =>
    c.answer q rOK [(c.chStatusWord n).toNat, (c.rd (.CH_MEAS n)).toNat, (c.rd (.RAIL_STATUS (c.railOf n))).toNat] 12

/-! ### Commands at the die -/

/-- A write of ON to CH_CMD takes effect in the die (R278, R19). -/
def execChCmdOn (n : Port) (s : State) : Host.Outcome State Fault Refusal :=
  s.runS fun c => if c.dieUp (fuseDie n) then c.fuseNow (.CH_CMD n) 1#32 else c

/-- A write of OFF to CH_CMD takes effect in the die, behind the writes queued before it (R17). -/
def execChCmdOff (n : Port) (s : State) : Host.Outcome State Fault Refusal :=
  s.runS fun c => if c.dieUp (fuseDie n) then c.fuseNow (.CH_CMD n) 0#32 else c

/-- The drop state machine writes SUSPEND in SUSPENDED and ON at the start of RESUMING (R177). -/
def execChCmdSuspend (n : Port) (suspend : Bool) (s : State) : Host.Outcome State Fault Refusal :=
  s.runS fun c =>
    if c.isDrop n ∧ c.root n = (if suspend then rsSUSPENDED else rsRESUMING) then c.suspendCh n suspend else c

/-! ### The fuse link (R17 to R19, R351 ladder 0x3) -/

/-- The mode change of a port waits for its channel's OFF (R290). -/
def Chip.modeWaits (c : Chip) (n : Port) : Bool := ((c.ports[n]).seqs.head?).any (fun m => m.asked && !m.started)

/-- Ports of a die whose mode change waits for their channel's OFF go on (R290). -/
def Chip.modesGo (c : Chip) (d : Die) : Chip := c.each ((dieChans d).filter c.modeWaits) Chip.startMode

/-- One frame each way, as each direction fares (R17, R18, R319): up to 64 queued writes take effect, or are sent again in the next
frame; the die samples; the mirror is refreshed, or keeps its values and ages by 1 µs. In autonomous hold, and while the link has no
clock, the die only samples (R16, R19). -/
def Chip.linkFrame (c : Chip) (d : Die) (toBad fromBad : Bool) (chs : List ChSample) (rails : List (RailId × BitVec 16)) : Chip :=
  if (c.fl[d]).inReset then c
  else if !c.dieUp d then c.dieSample d chs rails
  else
    let c := c.updFl d (fun l =>
      { l with badTo := if toBad then l.badTo + 1 else 0, badFrom := if fromBad then l.badFrom + 1 else 0
               age := if fromBad then l.age + 1 else 0 })
    let c := if toBad then c else c.fuseTake d 64
    let c := c.dieSample d chs rails
    let c := if fromBad then c else c.mirrorDie d
    c.modesGo d

/-- FUSE_LINK_FRAME: a good frame each way (R17). -/
def execFuseLinkFrame (d : Die) (chs : List ChSample) (rails : List (RailId × BitVec 16)) (s : State) :
    Host.Outcome State Fault Refusal :=
  s.runS fun c => c.linkFrame d false false chs rails

/-- FUSE_LINK_HOLD (0x0183): die, bit 0 entered or left, bit 1 HELD. -/
def Chip.evFuseHold (c : Chip) (d : Die) (entered held : Bool) : Event :=
  c.ev 0x0183 0 d.val [d.val, bitOf entered + 2 * bitOf held]

/-- A die enters autonomous hold (R19). Within the window of a recovery the ladder of R351 is climbed. -/
def Chip.enterFuseHold (c : Chip) (d : Die) : Chip :=
  let l := c.fl[d]
  let inWindow : Bool := l.window.any (fun t => c.clk.now < t)
  let rung := if inWindow then min 4 (l.rung + 1) else 2
  let c := c.updFl d (fun l => { l with badTo := 0, badFrom := 0, hold := true, rung := rung, window := none })
  let c := c.postFault .fuseLink (c.evFuseHold d true (rung == 4))
  if rung = 2 then c.escalate 3 2 d.val 0x0183
  else if rung = 3 then c.escalate 3 3 d.val 0x0183
  else c

/-- FUSE_LINK_BAD_FRAME: a frame that fails in one direction or in both (R18); the eighth in a row in a direction holds the die
(R19). -/
def execFuseLinkBadFrame (d : Die) (x : BadLinkFrame) (s : State) : Host.Outcome State Fault Refusal :=
  s.runS fun c =>
    let c := c.linkFrame d x.toBad x.fromBad x.chs x.rails
    let l := c.fl[d]
    if (l.badTo < 8 && l.badFrom < 8) || l.hold then c else c.enterFuseHold d

/-- The handshake of the link completes (R19, R75): the hold ends unless the ladder holds the die until a device-scope reset;
a die out of reset has its link again. -/
def execFuseLinkResync (d : Die) (s : State) : Host.Outcome State Fault Refusal :=
  s.runS fun c =>
    let l := c.fl[d]
    if !l.hold || l.inReset || l.rung = 4 || c.pwr.retained then c
    else
      let c := c.updFl d (fun l => { l with hold := false, badTo := 0, badFrom := 0, age := 0, window := some (c.clk.now + ms 10) })
      let c := c.post (c.evFuseHold d false false)
      c.post (c.ev 0x0208 0 d.val [3, d.val])

/-! ### Channels -/

/-- V_rail − V_out has fallen to 0.3 V by the die's own readings (R278, R279): ON, fully enhanced; the drop and the converter start.
-/
def execInrushComplete (n : Port) (s : State) : Host.Outcome State Fault Refusal :=
  s.runS fun c =>
    let near : Bool := c.railV (fuseDie n) (c.railOf n) ≤ (c.chans[n]).vOut.toNat + 30
    if (c.chans[n]).phase ≠ .inrush ∨ !near then c else ((c.setProfile n .on).powerBack n).pdChannelOn n

/-- A die reads a rail below UV_HOLD, for the 1 µs of its sample (R283): its channels there in INRUSH hold. -/
def execRailSag (d : Die) (j : RailId) (s : State) : Host.Outcome State Fault Refusal :=
  s.runS fun c =>
    if !c.railUv d j then c
    else
      c.each ((c.railChans j).filter (fun n => fuseDie n == d)) (fun c n =>
        if (c.chans[n]).phase = .inrush then c.enterHold n else c)

/-- The die has read the rail at or above UV_HOLD + 0.5 V for 50 µs (R283): the holds of the die on it end. -/
def execRailRecover (d : Die) (j : RailId) (s : State) : Host.Outcome State Fault Refusal :=
  s.runS fun c =>
    let back := if d = 0 then (c.rails[j]).back0 else (c.rails[j]).back1
    if !back.any (fun t => t + us 50 ≤ c.clk.now) then c
    else
      c.each ((c.railChans j).filter (fun n => fuseDie n == d)) (fun c n =>
        if (c.chans[n]).phase = .hold then c.leaveHold n else c)

/-- The cumulative hold of an inrush passes 10 ms (R283). -/
def execHoldLimit (n : Port) (s : State) : Host.Outcome State Fault Refusal :=
  s.runS fun c =>
    let x : Chan := c.chans[n]
    if x.phase = .hold ∧ ms 10 < x.holdUsed + (c.clk.now - x.holdFrom) then c.holdTrip n else c

/-- The inrush timer reaches INRUSH_MAX (R279). -/
def execInrushTimeout (n : Port) (s : State) : Host.Outcome State Fault Refusal :=
  s.runS fun c =>
    let x : Chan := c.chans[n]
    let lim := ms (clampNat 1 200 (c.get (.CH_INRUSH n) F.CH_INRUSH_INRUSH_MAX))
    if x.phase = .inrush ∧ lim ≤ x.inrushUsed + (c.clk.now - x.inrushFrom) then c.trip n caTIMEOUT 0 x.cur.toNat else c

/-- The current reaches the fast-trip threshold of the profile in force (R278, R281); the peak is in 10 mA. -/
def execFastTrip (n : Port) (peak : BitVec 16) (s : State) : Host.Outcome State Fault Refusal :=
  s.runS fun c =>
    if peak.toNat < c.tripAtCur n then c else
    match (c.chans[n]).phase with
    | .inrush => c.trip n caSHORT 0 peak.toNat
    | .hold => c.trip n caSHORT 0 peak.toNat
    | .on => c.trip n caSHORT 0 peak.toNat
    | .suspend => c.trip n caSHORT 0 peak.toNat
    | _ => c

/-- A used breaker point reaches its time in ON or SUSPEND (R280). -/
def execBreakerTrip (n : Port) (point : Fin 8) (peak : BitVec 16) (s : State) : Host.Outcome State Fault Refusal :=
  s.runS fun c =>
    let x : Chan := c.chans[n]
    if (x.phase = .on ∨ x.phase = .suspend) ∧ c.get (.CH_CURVE n point) F.CH_CURVE_M ≠ 0 ∧
        us (100 * c.getPos (.CH_CURVE n point) F.CH_CURVE_T) ≤ c.pointTimer n point then
      c.trip n caBREAKER point.val peak.toNat
    else c

/-- RETRY_DELAY has passed (R285): a retry, which waits for the rail and for a die in autonomous hold. -/
def execRetryDue (n : Port) (s : State) : Host.Outcome State Fault Refusal :=
  s.runS fun c =>
    let x : Chan := c.chans[n]
    if x.phase ≠ .tripped ∨ !(x.retryAt.any (· ≤ c.clk.now)) ∨ !c.mayRetry n ∨ !c.dieUp (fuseDie n) then c
    else if !c.inrushOk n then c.updChan n (fun x => { x with retryWaits := true })
    else c.retry n

/-- 60 s in ON without a trip (R285). -/
def execRetryCountReset (n : Port) (s : State) : Host.Outcome State Fault Refusal :=
  s.runS fun c =>
    let x : Chan := c.chans[n]
    if x.phase = .on ∧ x.onSince.any (fun t => t + sec 60 ≤ c.clk.now) then c.updCh n (fun x => { x with retries := 0 }) else c

/-- Current persists with the gate off (R282): at or above 50 mA, or 2 % of I_NOM where larger, for 10 ms from 1 ms after the
gate went off; reported once for each time. The current is in units of 10 mA. -/
def execFetFaultDetect (n : Port) (cur : BitVec 16) (s : State) : Host.Outcome State Fault Refusal :=
  s.runS fun c =>
    let x : Chan := c.chans[n]
    let high : Bool := 5 ≤ cur.toNat && 2 * c.getPos (.CH_LIMIT n) F.CH_LIMIT_I_NOM ≤ 100 * cur.toNat
    if (x.phase = .off ∨ x.phase = .tripped ∨ x.phase = .armed) ∧ high ∧ x.offAt.any (fun t => t + ms 11 ≤ c.clk.now) then
      let c := c.updChan n (fun x => { x with fetFault := true, seq := x.seq + 1, offAt := none })
      c.postFault .fet (c.evCh 0x0305 n [cur.toNat])
    else c

/-! ### Rails -/

/-- The two readings of an enabled rail differ by more than 2 % for 10 ms (R276); MISMATCH and the event. -/
def execRailSenseMismatch (j : RailId) (s : State) : Host.Outcome State Fault Refusal :=
  s.runS fun c =>
    if !c.railEn j || (c.rails[j]).differTold || !(c.rails[j]).differFrom.any (fun t => t + ms 10 ≤ c.clk.now) then c
    else
      let c := c.updRail j (fun r => { r with differTold := true })
      let c := c.record (.RAIL_STATUS j) F.RAIL_STATUS_MISMATCH
      c.postFault .rail (c.ev 0x0221 8 j.val [c.get (.RAIL_MEAS j) F.RAIL_MEAS_V_FD0, c.get (.RAIL_MEAS j) F.RAIL_MEAS_V_FD1])

/-- The PD drops of a rail. -/
def Chip.railPd (c : Chip) (j : RailId) (ov : Bool) : Chip := c.each (c.railChans j) (fun c n => c.pdRail n ov)

/-- A 1 ms window of a rail ends with its draw (R277, R287, R288): the one that the mirrors give; no other can come. -/
def execRailDrawWindow (j : RailId) (draw : BitVec 16) (s : State) : Host.Outcome State Fault Refusal :=
  s.runS fun c =>
   if c.clk.now < (c.rails[j]).windowFrom + ms 1 ∨ draw ≠ c.railDraw j then c
   else
    let now := c.clk.now
    let c := c.updRail j (fun r => { r with draw := draw, sum := 0, sumAt := now, windowFrom := now })
    let c := c.setF (.RAIL_STATUS j) F.RAIL_STATUS_DRAW draw.toNat
    let was : Bool := (c.rails[j]).overB
    let ov := c.overBudget j
    let budget := c.get (.RAIL_BUDGET j) F.RAIL_BUDGET_BUDGET
    let c := c.updRail j (fun r => { r with overB := ov })
    let c := c.setSt (.RAIL_STATUS j) F.RAIL_STATUS_OVER (bitOf ov)
    if ov then
      if was then c
      else
        let grace := ms (100 * c.getPos (.RAIL_BUDGET j) F.RAIL_BUDGET_SHED_GRACE)
        let c := c.updRail j (fun r => { r with graceAt := some (c.clk.now + grace) })
        let c := c.postFault .rail (c.ev 0x0220 8 j.val [1, draw.toNat, budget])
        c.railPd j true
    else
      let c := c.updRail j (fun r => { r with graceAt := none })
      let c := if was then (c.post (c.ev 0x0220 8 j.val [0, draw.toNat, budget])).railPd j false else c
      c.railWaiters j

/-- The channel to shed (R288): of those not OFF the one with the highest PRIO, then with the highest number; PRIO 0 never. -/
def Chip.shedPick (c : Chip) (j : RailId) : Option Port :=
  (c.railChans j).foldl (fun b n =>
    let p := c.get (.CH_CFG n) F.CH_CFG_PRIO
    let x : Chan := c.chans[n]
    if p = 0 ∨ x.phase = .off then b
    else match b with
      | none => some n
      | some m => if c.get (.CH_CFG m) F.CH_CFG_PRIO ≤ p then some n else some m) none

/-- A grace period ends (R288): one channel OFF, CH_SHED, where there is one to shed; the next grace period starts. -/
def execShedGraceExpiry (j : RailId) (s : State) : Host.Outcome State Fault Refusal :=
  s.runS fun c =>
    if !((c.rails[j]).graceAt.any (· ≤ c.clk.now)) then c
    else
      let grace := ms (100 * c.getPos (.RAIL_BUDGET j) F.RAIL_BUDGET_SHED_GRACE)
      match c.shedPick j with
      | none => c.updRail j (fun r => { r with graceAt := some (c.clk.now + grace) })
      | some n =>
        let prio := c.get (.CH_CFG n) F.CH_CFG_PRIO
        let c := c.updRail j (fun r => { r with graceAt := some (c.clk.now + grace) })
        let e := c.evCh 0x0304 n [j.val, prio, (c.rails[j]).draw.toNat, c.get (.RAIL_BUDGET j) F.RAIL_BUDGET_BUDGET]
        let c := c.fuseNow (.CH_CMD n) 0#32
        c.post e

/-- A block of 10 s ends (R353): RAIL_BLOCKED, waiting retries run. -/
def execRailBlockEnd (j : RailId) (s : State) : Host.Outcome State Fault Refusal :=
  s.runS fun c =>
    if (c.rails[j]).blocked.any (· ≤ c.clk.now) then
      let c := c.updRail j (fun r => { r with blocked := none })
      (c.evRailBlocked j false).railWaiters j
    else c

end Sys2Proof.Machine
end

