-- ==== Sys2Proof/Machine/Power.lean ====
section
/-! DEFINITION. The meanings of the power commands (16): the timers and Idle (R328, R330), refusers (R331, R332), entry and its
abort points (R333, R334), wake and exit (R335 to R337), Off (R338). -/

namespace Sys2Proof.Machine

/-! ### Refusers (R331, R332) -/

/-- A mark lies within the tolerance horizon of a belt in service (R332). -/
def Chip.inHorizon (c : Chip) (b : Belt) : Bool :=
  let pos := (c.sei.belts[b]).pos
  let far : Int := c.getPos (.BELT_ARM b) F.BELT_ARM_ARM_HORIZON
  c.beltEn b && c.posValid b &&
    (c.beltMarks b).any (fun x =>
      let m := x.2.2
      m.mstate == msARMED || (m.mstate == msPENDING && 1 ≤ m.distance pos && m.distance pos ≤ far))

/-- A port is busy: its drop or its PD in a passing state, its line with frames or requests under way, or its channel in
INRUSH or HOLD. -/
def Chip.portBusy (c : Chip) (n : Port) : Bool :=
  let st := c.root n
  let pd := c.pdSt n
  let l := (c.ports[n]).line
  let ph := (c.chans[n]).phase
  (c.isDrop n && (st == rsDEBOUNCE || st == rsRESETTING || st == rsENUMERATING || st == rsRESUMING || st == rsRECOVERY ||
    (c.ports[n]).drop.resume.isSome)) ||
  (c.isPd n && (pd == pdNEGOTIATING || pd == pdTRANSITION || pd == pdVCONN_SWAP || pd == pdHARD_RESET)) ||
  (c.isLine n && ((List.finRange 32).any (fun i => i.val != 0 && (l.tx[i]).isSome) ||
    l.nodes.any (fun r => r.out.isSome || !r.queue.isEmpty))) ||
  ph == .inrush || ph == .hold

/-- A door holds an entry back; `but` is the PWR_ENTER being executed. -/
def Chip.doorBusy (c : Chip) (d : Door) (but : Option ReqId) : Bool :=
  let x := c.doors[d]
  x.reqs.any (fun e => some (⟨d, e.ord⟩ : ReqId) != but) || x.sent < x.evts.length ||
    (x.path == some .svc && c.svcPort.suspendedAt.isNone)

/-- The lane that a lane refuser names: lost in a failover, carrying the replay, else TA. -/
def Chip.laneRefuser (c : Chip) : Option Nat :=
  match c.trunk.failover, c.trunk.replay with
  | some (l, _), _ => some l.val
  | none, some l => some l.val
  | none, none => if c.inTarn || !c.trunk.spill.isEmpty then some 0 else none

/-- The first refuser in table order, KIND and INDEX; a wake request counts at abort points only. -/
def Chip.refuser (c : Chip) (abort : Bool) (but : Option ReqId) : Option (Nat × Nat) :=
  if c.fw.hs != .run || c.fw.handoff.isSome || c.fw.roll.isSome then some (5, 0)
  else match c.laneRefuser with
  | some l => some (3, l)
  | none =>
  match (List.finRange 16).find? c.inHorizon with
  | some b => some (4, b.val)
  | none =>
  match (List.finRange 16).find? (fun b => (c.basins[b]).inReset) with
  | some b => some (1, b.val)
  | none =>
  match (List.finRange 96).find? c.portBusy with
  | some n => some (2, n.val)
  | none =>
  match (List.finRange 8).find? (fun d => c.doorBusy d but) with
  | some d => some (6, d.val)
  | none => if abort then c.pwr.wake.map (fun w => (7, w.1)) else none

/-- Codes of the power states. -/
def PState.code : PState → Nat
  | .run => 0
  | .idle => 1
  | .sleep => 2
  | .deep => 3
  | .off => 4

/-- PWR_REFUSE and PWR_REFUSED (R331, R332) of a refusal or an abort. -/
def Chip.refused (c : Chip) (k : Nat × Nat) (stage : Nat) (target : PState) : Chip :=
  let n := sat 16 (c.get .PWR_REFUSE F.PWR_REFUSE_COUNT + 1)
  let w := fset (fset 0#32 F.PWR_REFUSE_COUNT n) F.PWR_REFUSE_KIND k.1
  let c := c.wr .PWR_REFUSE (fset (fset w F.PWR_REFUSE_STAGE stage) F.PWR_REFUSE_INDEX k.2)
  c.postRate (sec 1) 0 (c.ev 0x020A 0 0 [k.1, k.2, stage, target.code, n])

/-! ### Entry (R333) -/

/-- A line withdraws its TIME frame; one on the wire finishes. -/
def Chip.withdrawTime (c : Chip) (n : Port) : Chip :=
  c.updLine n (fun l =>
    let l := { l with timeWait := none, timeDue := none }
    if (l.tx[(0 : Fin 32)]).any (·.started) then l else l.setBuf 0 none)

/-- Step 2 begins: ACTIVE drops suspend, lines, PTP and Clearwater fall silent. -/
def Chip.entryQuiet (c : Chip) (target : PState) (req : Option ReqId) : Chip :=
  let now := c.clk.now
  let c := c.updPwr (fun p => { p with entry := some ⟨target, 2, req⟩, quietedAt := now, wake := none })
  let c := c.each ((List.finRange 96).filter (fun n => c.isDrop n && c.root n == rsACTIVE)) (fun c n =>
    (c.updDrop n (fun d => { d with byPower := true })).startSuspend n)
  let c := c.each ((List.finRange 96).filter (fun n => c.isLine n)) Chip.withdrawTime
  (c.updTrunk (fun t => { t with ptpPaused := true })).syncCw

/-- Step 2 has ended: no drop suspends any more, and every event has been transmitted or the step's 3.2 ms are over. -/
def Chip.quieted (c : Chip) : Bool :=
  !(List.finRange 96).any (fun n => c.isDrop n && c.root n == rsSUSPENDING) &&
    ((List.finRange 8).all (fun d => (c.doors[d]).evts.length ≤ (c.doors[d]).sent) ||
      c.pwr.quietedAt + us 3200 ≤ c.clk.now)

/-- Step 4 has ended: Sleep is reached; STB_n is released (R339), and no record is in progress (R35): an open one is closed as
CULLET (DESIGN CHOICE, log entry 181). TIME goes on in phase (R270). -/
def Chip.reachSleep (c : Chip) : Chip :=
  let t := c.sei.time
  let c := c.culletRecs 0 (fun _ => true)
  let c := c.each (List.finRange 16) Chip.unloadBelt
  let standby (p : PortSt) : PortSt := if p.mode = .line then { p with stbLow := false } else p
  let c := { c with ports := c.ports.map standby }
  (c.updSei (fun x => { x with sleepRem := t.toNat % 64 })).updPwr (fun p => { p with st := .sleep, enteredAt := t })

/-- Step 5: the fuse dies enter autonomous hold, the lanes are taken down, TIME is recorded. -/
def Chip.retain (c : Chip) : Chip :=
  let t := c.sei.time
  let held (l : FLink) : FLink := { l with hold := true }
  let down (l : Lane) : Lane := { l with lost := true, backAt := none, hist := [] }
  let c := { c with fl := c.fl.map held }
  let c := ((c.setUp 0 false).setUp 1 false).updTrunk (fun x => { x with lanes := x.lanes.map down })
  ((c.syncTrunk).updSei (fun x => { x with deepTime := t })).updPwr (fun p => { p with retained := true })

/-- A drop suspended by the power controller resumes (R334, R336). -/
def Chip.powerResume (c : Chip) : Chip :=
  c.each ((List.finRange 96).filter (fun n => c.isDrop n && (c.ports[n]).drop.byPower && c.root n == rsSUSPENDED &&
    (c.ports[n]).drop.resume.isNone))
    (fun c n => c.startResume n [] false true)

/-- The timeouts of contracts go on after Sleep, Deep sleep or an entry that was abandoned: contracts were held (R307). -/
def Chip.pdResume (c : Chip) : Chip :=
  let d := c.clk.now - c.pwr.quietedAt
  let later (t : Option Nat) : Option Nat := t.map (· + d)
  c.each ((List.finRange 96).filter (fun n => c.pdSt n != pdOFF)) (fun c n =>
    c.updPd n (fun p => { p with keepAliveBy := later p.keepAliveBy, ppsBy := later p.ppsBy, answerBy := later p.answerBy }))

/-- Lines go on at the next 1 ms boundary: their node counters resume there from the frozen values (R336). -/
def Chip.linesResume (c : Chip) : Chip :=
  let from_ := c.clk.now + (1600000 - c.sei.time.toNat % 1600000)
  let d := from_ - c.pwr.quietedAt
  let c := c.updPwr (fun p => { p with linesFrom := from_ })
  c.each ((List.finRange 96).filter (fun n => c.isLine n)) (fun c n =>
    (c.updPort n (fun p => { p with stbLow := true })).updLine n (fun l => l.shift d))

/-- The entry is abandoned at an abort point, STAGE 1 to 4 for A to D (R334). -/
def Chip.abortEntry (c : Chip) (e : Entry) (k : Nat × Nat) (stage : Nat) : Chip :=
  let c := c.refused k stage e.target
  let c := (c.updPwr (fun p => { p with entry := none })).updClk (fun k => { k with levels := [] })
  if 3 ≤ stage then c.updPwr (fun p => { p with exiting := true })
  else
    let c := (c.inDrainAll.linesResume.pdResume.powerResume).updPwr (fun p => { p with wake := none })
    (c.syncCw).active

/-- The next step, or the abort where a refuser is found. -/
def Chip.entryNext (c : Chip) (e : Entry) (stage step : Nat) : Chip :=
  match c.refuser true e.req with
  | some k => c.abortEntry e k stage
  | none => c.updPwr (fun p => { p with entry := some { e with step := step } })

/-- Begin an entry to Sleep or Deep sleep (R330 to R333). From Sleep it begins at abort point C. -/
def Chip.beginEntry (c : Chip) (target : PState) (req : Option ReqId) : Chip :=
  if c.pwr.st = .sleep then c.entryNext ⟨target, 5, req⟩ 3 5
  else
    match c.refuser false req with
    | some k =>
      let now := c.clk.now
      let c := c.updPwr (fun p =>
        if target = .deep then { p with deepFrom := now, deepExp := false } else { p with sleepFrom := now, sleepExp := false })
      (c.refused k 0 target).answerOpt req rLOCKED [k.1, k.2] 2
    | none => (c.answerOpt req rOK).entryQuiet target req

/-- The last step of an entry: a wake request that came during it starts the exit. -/
def Chip.entryDone (c : Chip) : Chip :=
  c.updPwr (fun p => { p with entry := none, exiting := p.exiting || p.wake.isSome })

/-- Off is reached (R338): everything outside the always-on domain is lost; a wake request that came during the entry takes
effect. -/
def Chip.reachOff (c : Chip) : Chip :=
  let w := c.pwr.wake
  let c := c.cleared
  let c := (c.updPwr (fun p => { p with st := .off })).updClk (fun k => { k with faultLow := false, alertLow := false })
  if w.isSome then c.deviceReset 6 0 else c

/-- The entry to Off goes on with its next step (R338). -/
def Chip.offNext (c : Chip) (e : Entry) : Chip := c.updPwr (fun p => { p with entry := some { e with step := e.step + 1 } })

/-- A step of the entry to Off ends (R338): the response has left, the Bead record is written, every channel is OFF, the lanes are
down. The first two wait at most until 20 ms after the response was made. -/
def Chip.offStep (c : Chip) (e : Entry) : Chip :=
  let late : Bool := c.pwr.quietedAt + ms 20 ≤ c.clk.now
  match e.step with
  | 1 => if e.req.any (fun q => (c.entry? q).isSome) && !late then c else c.offNext e
  | 2 => if (c.bead.attestDue || (c.bead.hsBusy && c.bead.session.isNone)) && !late then c else c.offNext e
  | 3 => (c.each (List.finRange 96) (fun c n => c.fuseNow (.CH_CMD n) 0#32)).offNext e
  | _ => (((c.setUp 0 false).setUp 1 false).syncTrunk).reachOff

/-- ENTRY_STEP_COMPLETE (R333, R334, R338). -/
def execEntryStepComplete (s : State) : Host.Outcome State Fault Refusal :=
  s.runS fun c =>
    match c.pwr.entry with
    | none => c
    | some e =>
      if e.target = .off then c.offStep e
      else
        match e.step with
        | 2 => if c.quieted then c.entryNext e 1 3 else c
        | 3 => c.entryNext e 2 4
        | 4 =>
          let c := c.reachSleep
          if e.target = .deep then c.entryNext e 3 5 else c.entryDone
        | 5 => (c.retain).entryNext e 4 6
        | _ => (c.updPwr (fun p => { p with st := .deep })).entryDone

/-! ### Timers (R328, R330) -/

/-- A wake crossing enabled in PWR_WAKE_EN is native (R74). -/
def Chip.nativeWake (c : Chip) : Bool :=
  let en (f : Field) : Bool := c.bit .PWR_WAKE_EN f
  let mode (f : Field) : Bool := c.bit .CDC_WAKE_MODE f
  ((en F.PWR_WAKE_EN_TRUNK_SD || en F.PWR_WAKE_EN_TRUNK_WAKE) && !mode F.CDC_WAKE_MODE_TRUNK) ||
  ((en F.PWR_WAKE_EN_SVC_RESUME || en F.PWR_WAKE_EN_SVC_VBUS) && !mode F.CDC_WAKE_MODE_SVC) ||
  ((en F.PWR_WAKE_EN_LINE_RXD || en F.PWR_WAKE_EN_DROP_RWAKE) &&
    c.get .CDC_WAKE_MODE F.CDC_WAKE_MODE_BASIN != 0xFFFF) ||
  (en F.PWR_WAKE_EN_AIN_EN && !mode F.CDC_WAKE_MODE_AIN)

/-- The target of an evaluation (R330); none for Idle. -/
def Chip.pwrTarget (c : Chip) : Option PState :=
  let more := if c.nativeWake then 31 else 0
  let ltr := c.get .PWR_LTR F.PWR_LTR_LTR
  let deepest := c.get .PWR_CTL F.PWR_CTL_STATE_MAX
  if c.pwr.deepExp && 4500 + more ≤ ltr && 3 ≤ deepest then some .deep
  else if c.pwr.sleepExp && 180 + more ≤ ltr && 2 ≤ deepest then some .sleep
  else none

/-- The power controller evaluates (R330): a target deeper than the present state begins an entry. -/
def Chip.evaluate (c : Chip) : Chip :=
  if !c.bit .PWR_CTL F.PWR_CTL_AUTO || c.pwr.entry.isSome || c.pwr.exiting then c
  else
    match c.pwrTarget with
    | none => c
    | some t => if c.pwr.st.code < t.code then c.beginEntry t none else c

/-- A basin can be gated (R35): its ports OFF or suspended, its belt with no armed slot, not in reset. -/
def Chip.canGate (c : Chip) (b : Basin) : Bool :=
  !(c.basins[b]).inReset && (c.sei.belts[b]).slots.isEmpty && (basinPorts b).all (fun n =>
    (c.ports[n]).mode == .off || (c.isDrop n && c.root n == rsSUSPENDED && (c.ports[n]).drop.resume.isNone))

/-- In Idle a basin's engine clocks are off exactly while it can be gated (R35, R328). -/
def Chip.gateBasins (c : Chip) : Chip :=
  c.each (List.finRange 16) (fun c b =>
    let g := c.canGate b
    if (c.basins[b]).gated == g then c else c.updBasin b (fun x => { x with gated := g }))

/-- Idle (R328): Headspring's clock stops, and those of the basins that can be gated. -/
def Chip.enterIdle (c : Chip) : Chip :=
  let c := c.updPwr (fun p => { p with st := .idle, hsGated := true })
  (c.setF .PWR_STATUS F.PWR_STATUS_STATE 1).gateBasins

/-- Firmware has nothing to do: no accepted request is open and no handoff runs. -/
def Chip.fwQuiet (c : Chip) : Bool :=
  c.fw.hs == .run && c.fw.handoff.isNone && !(c.doors.any (fun s => s.reqs.any (fun e => e.open_)))

/-- QUIET_TIMER_EXPIRY: 0 IDLE_US, 1 SLEEP_S, 2 DEEP_S. STATE_MAX Run keeps the device in Run. -/
def execQuietTimerExpiry (which : Fin 3) (s : State) : Host.Outcome State Fault Refusal :=
  s.runS fun c =>
    let p := c.pwr
    let now := c.clk.now
    match which.val with
    | 0 =>
      if c.awake && p.entry.isNone && 1 ≤ c.get .PWR_CTL F.PWR_CTL_STATE_MAX && c.fwQuiet &&
          p.idleFrom + us (c.getPos .PWR_TIMER_0 F.PWR_TIMER_0_IDLE_US) ≤ now then c.enterIdle
      else c
    | 1 =>
      if c.awake && !p.sleepExp && p.sleepFrom + sec (c.getPos .PWR_TIMER_0 F.PWR_TIMER_0_SLEEP_S) ≤ now then
        (c.updPwr (fun p => { p with sleepExp := true })).evaluate
      else c
    | _ =>
      if (c.awake || p.st == .sleep) && !p.deepExp && p.deepFrom + sec (c.getPos .PWR_TIMER_1 F.PWR_TIMER_1_DEEP_S) ≤ now then
        (c.updPwr (fun p => { p with deepExp := true })).evaluate
      else c

/-- IDLE_WAKE (R328): Headspring's clock, or a basin's clocks, start again. -/
def execIdleWake (basin : Option Basin) (s : State) : Host.Outcome State Fault Refusal :=
  s.run fun c =>
    match basin with
    | some b => c.updBasin b (fun x => { x with gated := false })
    | none =>
      if c.pwr.st = .idle then
        let now := c.clk.now
        let c := c.updPwr (fun p => { p with st := .run, hsGated := false, idleFrom := now, runFrom := now })
        c.ungateBasins.setF .PWR_STATUS F.PWR_STATUS_STATE 0
      else c

/-! ### Wake and exit (R335 to R338) -/

/-- A wake source is enabled and watched in the present state (table *Wake sources*). -/
def Chip.wakeOn (c : Chip) (src idx : Nat) : Bool :=
  let en (f : Field) : Bool := c.bit .PWR_WAKE_EN f
  let off : Bool := c.pwr.st == .off || c.pwr.entry.any (fun e => e.target == .off)
  let deep : Bool := c.pwr.st == .deep || c.pwr.retained || c.pwr.entry.any (fun e => 5 ≤ e.step)
  let n : Port := Fin.ofNat 96 idx
  match src with
  | 1 => true
  | 2 => en F.PWR_WAKE_EN_AIN_EN
  | 3 => !off && deep && en F.PWR_WAKE_EN_TRUNK_SD
  | 4 => !off && !deep && en F.PWR_WAKE_EN_TRUNK_WAKE
  | 5 => !off && en F.PWR_WAKE_EN_SVC_RESUME
  | 6 => !off && en F.PWR_WAKE_EN_SVC_VBUS
  | 7 => !off && en F.PWR_WAKE_EN_LINE_RXD && c.isLine n
  | 8 => !off && en F.PWR_WAKE_EN_DROP_RWAKE && c.isDrop n
  | 9 => !off
  | _ => false

/-- A wake source qualifies (R335): by the table's qualification, which an asynchronous crossing does not ask of the sources it
filters (R74); WAKE_N's is its own, and a WAKE frame must match (R122). -/
def Chip.wakeQualifies (c : Chip) (src idx : Nat) (held : Bool) : Bool := held || (src != 1 && src != 4 && c.wakeAsync src idx)

/-- WAKE_REQUEST (R74, R334, R335, R338): `input.held` says that the table's qualification was met. From Off a wake ends in a full
boot with RST_CAUSE.LAST 6. -/
def execWakeRequest (source : Fin 10) (input : WakeInput) (s : State) : Host.Outcome State Fault Refusal :=
  s.runS fun c =>
    if !c.wakeOn source.val input.index || !c.wakeQualifies source.val input.index input.held then c
    else if c.pwr.st = .off then
      let w := fset (fset 0#32 F.PWR_WAKE_CAUSE_INDEX input.index) F.PWR_WAKE_CAUSE_SOURCE source.val
      (c.wr .PWR_WAKE_CAUSE w).deviceReset 6 0
    else c.wakeCross source.val input.index

/-- Ticks of `n` slow periods by SEI_CAL (R272). -/
def Chip.slowTicks (c : Chip) (n : Nat) : Nat := n * c.get .SEI_CAL F.SEI_CAL_PERIOD / 16384

/-- Parts per million of the re-derived time (R272). -/
def Chip.deepPpm (c : Chip) : Nat := if c.bit .SEI_CAL F.SEI_CAL_CAL_VALID then 20 else 500

/-- TIME re-derived at the exit from Deep sleep, from the always-on counter's `n` periods (R272). -/
def Chip.deepRestart (c : Chip) (n : Nat) : Chip :=
  let t := c.sei.deepTime + BitVec.ofNat 64 (c.slowTicks n)
  (c.updSei (fun x => { x with time := t })).updClk (fun k => { k with aonCount := k.aonCount + n })

/-- TIME at the exit from Sleep: PLL_TIME resumes in phase, without a step (R270). -/
def Chip.sleepRestart (c : Chip) : Chip :=
  c.updSei (fun x => { x with time := (x.time &&& ~~~63#64) + BitVec.ofNat 64 x.sleepRem })

/-- What the exit from Deep sleep leaves of Seiche (R272, R339): UNCERT, the cause DEEP, belts without a valid position,
outfalls low. -/
def Chip.deepLosses (c : Chip) (n : Nat) : Chip :=
  let now := c.clk.now
  let u := 2 + (n * c.get .SEI_CAL F.SEI_CAL_PERIOD * c.deepPpm + 16384 * 1000000 - 1) / (16384 * 1000000)
  let c := c.settleUncert.setF .SEI_UNCERT F.SEI_UNCERT_UNCERT (sat 32 u)
  let c := c.updSei (fun x => { x with outfalls := Vector.replicate 32 {}, uncertFrom := now, calFrom := now })
  let c := c.degrade (c.bit .SEI_STATUS F.SEI_STATUS_DEG_XTAL) true
  c.each ((List.finRange 16).filter (fun b => c.beltEn b)) (fun c b => c.setSt (.BELT_STATUS b) F.BELT_STATUS_POS_VALID 0)

/-- The fuse dies whose links resynchronise at the exit: not in reset, not held by their ladder (R351). -/
def Chip.freeDies (c : Chip) : List Die := (List.finRange 2).filter (fun d => (c.fl[d]).rung != 4 && !(c.fl[d]).inReset)

/-- The trunk at the return to Run: after step 5 the lanes come up anew within 1 s (R336) and the crossings of the fuse links have
resumed (R75); from Sleep a WAKE frame with ACK on each up lane (R122), or Tarn mode where both are lost (R36). -/
def Chip.trunkBack (c : Chip) (retained : Bool) : Chip :=
  if retained then
    let by_ := c.clk.now + sec 1
    let c := c.updTrunk (fun t => { t with laneBy := some by_ })
    c.each c.freeDies (fun c d => c.post (c.evResync 3 d.val))
  else if !c.up 0 && !c.up 1 && (c.laneEn 0 || c.laneEn 1) then c.enterTarn 5
  else c.each ((List.finRange 2).filter (fun l => c.up l)) Chip.sendWakeAck

/-- A trip's event after the return to Run; after Deep sleep its tick is that of the restart, at 64-tick resolution. -/
def Chip.tripEvent (c : Chip) (deep : Bool) (e : Event) : Event :=
  if deep then { e with time := c.sei.time &&& ~~~63#64 } else e

/-- LOW_POWER_EXIT_COMPLETE (R334 to R337): the device is in Run again. -/
def execLowPowerExitComplete (slowPeriods : Nat) (s : State) : Host.Outcome State Fault Refusal :=
  s.runS fun c =>
    let p := c.pwr
    if !c.asleep || !p.exiting then c
    else
      let deep : Bool := p.st == .deep
      let c := if deep then c.deepRestart slowPeriods else c.sleepRestart
      let c := if p.retained then c.each c.freeDies (fun c d => c.updFl d (fun l => { l with hold := false, badTo := 0, badFrom := 0, age := 0 }))
        else c
      let now := c.clk.now
      let c := c.updPwr (fun p =>
        { p with st := .run, runFrom := now, wake := none, exiting := false, retained := false, tripsDue := [] })
      let c := c.updClk (fun k => { k with levels := [] })
      let w := fset (fset (c.rd .PWR_STATUS) F.PWR_STATUS_LAST p.st.code) F.PWR_STATUS_STATE 0
      let c := ((c.wr .PWR_STATUS w).bump .PWR_STATUS).active
      let src := p.wake.getD (0, 0)
      let c := c.post (c.ev 0x0209 0 0 [p.st.code, (c.sei.time - p.enteredAt).toNat, src.1, src.2])
      let c := if deep then c.deepLosses slowPeriods else c
      let c := (c.each p.tripsDue (fun c e => c.postFault .trip (c.tripEvent deep e))).releaseEvents
      let c := c.inDrainAll
      let c := (if deep then c.inletsAnew else c).powerResume
      ((c.linesResume.pdResume.trunkBack p.retained).syncCw).balls

/-! ### Power opcodes -/

/-- PWR_STATUS. -/
def execPwrStatus (q : ReqId) (s : State) : Host.Outcome State Fault Refusal :=
  s.run fun c => c.serve q 0x0201#16 [0] fun _ c =>
    c.answer q rOK ([Reg.PWR_STATUS, .PWR_REFUSE, .PWR_WAKE_CAUSE, .PWR_LTR].map (fun r => (c.readWord r).toNat)) 16

/-- PWR_SET (R330): the previous values. PWR_CTL and PWR_TIMER_1 are configuration class (R323). -/
def execPwrSet (q : ReqId) (ltr : BitVec 24) (stateMax : BitVec 2) (auto : Bool) (idleUs sleepS deepS : BitVec 16)
    (s : State) : Host.Outcome State Fault Refusal :=
  s.run fun c => c.serve q 0x0202#16 [0] fun _ c =>
    if c.frozen then c.answer q rLOCKED
    else
      let prev := [c.get .PWR_LTR F.PWR_LTR_LTR, c.get .PWR_CTL F.PWR_CTL_STATE_MAX, c.get .PWR_CTL F.PWR_CTL_AUTO,
        c.get .PWR_TIMER_0 F.PWR_TIMER_0_IDLE_US, c.get .PWR_TIMER_0 F.PWR_TIMER_0_SLEEP_S,
        c.get .PWR_TIMER_1 F.PWR_TIMER_1_DEEP_S]
      let c := c.setRW .PWR_LTR F.PWR_LTR_LTR ltr.toNat
      let c := (c.setRW .PWR_CTL F.PWR_CTL_STATE_MAX stateMax.toNat).setRW .PWR_CTL F.PWR_CTL_AUTO (bitOf auto)
      let c := c.setRW .PWR_TIMER_0 F.PWR_TIMER_0_IDLE_US idleUs.toNat
      let c := c.setRW .PWR_TIMER_0 F.PWR_TIMER_0_SLEEP_S sleepS.toNat
      (c.setRW .PWR_TIMER_1 F.PWR_TIMER_1_DEEP_S deepS.toNat).answer q rOK prev 11

/-- PWR_WAKE_SET (R319, R335): answered with the previous word once WR_PEND is 0. -/
def execPwrWakeSet (q : ReqId) (w : Word) (s : State) : Host.Outcome State Fault Refusal :=
  s.run fun c => c.serve q 0x0203#16 [0] fun _ c =>
    let prev := c.rd .PWR_WAKE_EN
    let c := c.aonWrite .PWR_WAKE_EN w (Reg.rwMask .PWR_WAKE_EN)
    c.updFab (fun f => { f with wakeSets := f.wakeSets ++ [(q, prev)] })

/-- PWR_ENTER (R330 to R333). One entry at a time. -/
def execPwrEnter (q : ReqId) (state : Nat) (s : State) : Host.Outcome State Fault Refusal :=
  s.runS fun c => c.serve q 0x0204#16 [0] fun _ c =>
    if (state ≠ 2 ∧ state ≠ 3) ∨ c.get .PWR_CTL F.PWR_CTL_STATE_MAX < state then c.answer q rBAD_ARG
    else if c.pwr.entry.isSome then c.answer q rWAIT
    else c.beginEntry (if state = 3 then .deep else .sleep) (some q)

/-- PWR_OFF (R338): the response is made and the Bead record due; the entry to Off begins. -/
def execPwrOff (q : ReqId) (confirm : BitVec 16) (s : State) : Host.Outcome State Fault Refusal :=
  s.runS fun c => c.serve q 0x0205#16 [0] fun _ c =>
    if confirm ≠ 0x0FF0#16 then c.answer q rBAD_ARG
    else if c.fw.handoff.isSome || c.fw.roll.isSome || c.pwr.entry.isSome then c.answer q rWAIT
    else
      let c := (c.answer q rOK).updBead (fun b => { b with attestDue := true })
      let now := c.clk.now
      c.updPwr (fun p => { p with entry := some ⟨.off, 1, some q⟩, quietedAt := now, wake := none })

end Sys2Proof.Machine
end

