-- ==== Sys2Proof/Machine/Reset.lean ====
section
/-! DEFINITION. The meanings of supplies, boot, clocks and resets (03, 04): power-on, supply monitors, PORST_N, the
firmware's boot and its watchdog, CLK_CTL, the reference clocks, the PLLs, and the five reset scopes. -/

namespace Sys2Proof.Machine

/-! ### Supplies (R59, R60) -/

/-- VDD_AON rises or trips its monitor: power-on reset (R59). -/
def execVddAonPowerOn (s : State) : Host.Outcome State Fault Refusal := s.run Chip.powerOn

/-- SUPPLY_LOW (0x0206): the supply's code, bit 0 entry or release. -/
def Chip.supplyLow (c : Chip) (v : Supply) (low : Bool) : Chip :=
  c.postFault .supply (c.ev 0x0206 0 (supplyCode v) [supplyCode v, bitOf low])

/-- Both lanes go into lane-scope reset and stay there, and the trunk enters Tarn mode with a cause (R59, R66). A lane-scope reset
that runs already absorbs its own (R70). -/
def Chip.srdsLost (c : Chip) (cause : Nat) : Chip :=
  let c := c.each [(0 : LaneId), 1] (fun c l => (c.loseLane l 1 (some cause)).startScope (.lane l) none false [])
  if c.asleep || !(c.laneEn 0 || c.laneEn 1) then c else c.enterTarn cause

/-- The lanes are released: the lane-scope resets that could not end until now complete (R59, R66, R70). -/
def Chip.srdsBack (c : Chip) : Chip :=
  if c.srdsDown then c
  else
    let c := (c.endScope (.lane 0)).endScope (.lane 1)
    c.updTrunk (fun t => { t with lanes := t.lanes.map (fun x => { x with held := false }) })

/-- A monitor trips (R59). In Off the other supplies may be removed (R60): the trip only holds the boot. -/
def execSupplyMonitorTrip (v : Supply) (s : State) : Host.Outcome State Fault Refusal :=
  s.runS fun c =>
    if c.clk.trips.contains v then c
    else
      let c := c.updClk (fun k => { k with trips := k.trips ++ [v] })
      if c.pwr.st = .off then c
      else if supplyHolds v then
        if c.clk.boot = .held then c.setF .RST_CAUSE F.RST_CAUSE_SUPPLY (supplyCode v) else c.deviceReset 2 (supplyCode v)
      else
        let c := c.setF .RST_CAUSE F.RST_CAUSE_SUPPLY (supplyCode v)
        match supplyDie? v with
        | some d => (c.dieReset d).supplyLow v true
        | none => (c.srdsLost 3).supplyLow v true

/-- A tripped supply has been back for 1 ms (R59): the boot starts, the lanes are released, or the die resynchronises. -/
def execSupplyRecovered (v : Supply) (s : State) : Host.Outcome State Fault Refusal :=
  s.runS fun c =>
    if !c.clk.trips.contains v then c
    else
      let c := c.updClk (fun k => { k with trips := k.trips.filter (· != v) })
      if c.pwr.st = .off then
        match supplyDie? v with
        | some d => c.updFl d (fun l => { l with inReset := false })
        | none => c
      else
        let c : Chip :=
          if supplyHolds v then c
          else match supplyDie? v with
            | some d =>
              let c := c.updFl d (fun l =>
                { l with inReset := false, badTo := 0, badFrom := 0, age := 0, hold := l.hold && l.rung == 4 })
              let c := c.each ((List.finRange 96).filter (fun n => fuseDie n == d)) Chip.mirrorCh
              c.post (c.evResync 3 d.val)
            | none => (c.srdsBack).supplyLow v false
        c.bootWhenReady

/-! ### PORST_N and boot (R70, R80 to R86) -/

/-- PORST_N goes low: a device-scope reset (R70), in Off too (DESIGN CHOICE, log entry 227); the boot waits for its rise. -/
def execPorstNLow (s : State) : Host.Outcome State Fault Refusal :=
  s.run fun c => if c.clk.porst then (c.updClk (fun k => { k with porst := false })).deviceReset 1 0 else c

/-- PORST_N rises: the straps are sampled (R52) and the boot ROM runs (R80, R81). -/
def execPorstNRise (straps : BitVec 4) (s : State) : Host.Outcome State Fault Refusal :=
  s.run fun c =>
    if c.clk.porst then c
    else
      let c := c.updClk (fun k => { k with porst := true })
      (c.setF .GLB_STRAP F.GLB_STRAP_STRAP straps.toNat).bootWhenReady

/-- PLL_UNLOCK (0x0204): a mask of the PLLs, in the bit order of LOCK. -/
def Chip.evUnlock (c : Chip) (mask : Nat) : Event := c.ev 0x0204 0 0 [mask]

/-- Firmware's reports after a boot: BOOT_REPORT, and DIGEST_MISMATCH of each component marked (R83), whose source was set when it was
measured (R326). -/
def Chip.bootReport (c : Chip) : Chip :=
  let w := c.rd .BOOT_STATUS
  let c := c.post (c.ev 0x0901 0 0 [w.toNat % 65536, c.fw.imageVersion.toNat, min 255 c.logCount])
  c.each [1, 2, 3, 4] (fun c t =>
    if w.getLsbD (F.BOOT_STATUS_DIG_MISMATCH.lo + t - 1) then c.post (c.ev 0x0907 0 0 [t]) else c)

/-- Firmware applies the configuration of its image (R81, R82): its register writes in order, then CW_REF and EN (R324). -/
def Chip.applyConfig (c : Chip) (cfg : Option ConfigImage) : Chip :=
  match (c.header (c.get .BOOT_STATUS F.BOOT_STATUS_BANK)).bind (fun h => h.comp? cpCONFIG) with
  | none => c
  | some x =>
    let c := c.updFw (fun f => { f with configVersion := x.version })
    match cfg with
    | none => c
    | some g =>
      let c := c.each g.writes (fun c w => c.fwWrite w.1 w.2)
      let c := c.updLane 0 (fun x => { x with vlan := g.vlans.1 })
      let c := c.updLane 1 (fun x => { x with vlan := g.vlans.2 })
      let c := c.fwWrite (Reg.CW_REF).addr g.cwRef
      c.fwWrite (Reg.CW_CTL).addr (fset (c.rd .CW_CTL) F.CW_CTL_EN 1)

/-- Firmware's boot (R65, R81): the PLLs are enabled, with `locks` those that lock in time; a failure leaves Headspring on
the FRC; else the switch, configuration, service tables, and the release of ports, Seiche and lanes. -/
def Chip.firmwareBoot (c : Chip) (locks : BitVec 9) (cfg : Option ConfigImage) : Chip :=
  let c := c.fwWrite (Reg.CLK_CTL).addr (fset (c.rd .CLK_CTL) F.CLK_CTL_PLL_EN 0x1FF)
  let c := (c.setSt .CLK_STATUS F.CLK_STATUS_LOCK locks.toNat).updClk (fun k => { k with lockBy := none })
  let c := c.updFw (fun f => { f with hs := .run })
  if locks.toNat ≠ 0x1FF then
    let c := c.updClk (fun k => { k with boot := .frcOnly })
    (c.postFault .pll (c.evUnlock (0x1FF - locks.toNat))).bootReport
  else
    let c := c.fwWrite (Reg.CLK_CTL).addr (fset (c.rd .CLK_CTL) F.CLK_CTL_SYS_SEL 1)
    let c := c.updClk (fun k => { k with boot := .live })
    let c := c.loadEngines (List.finRange 512) c.fw.active
    let c := c.applyConfig cfg
    let c : Chip := match c.applyTables (c.get .BOOT_STATUS F.BOOT_STATUS_BANK) with
      | .ok (_, c') => c'
      | .error _ => c
    let now := c.clk.now
    let c := c.updSei (fun x => { x with running := true, calFrom := now })
    let lanes := fset (fset (c.rd .TRK_CTL) F.TRK_CTL_LANE_EN_TA 1) F.TRK_CTL_LANE_EN_TB 1
    let c := c.fwWrite (Reg.TRK_CTL).addr lanes
    c.bootReport

/-- FIRMWARE_BOOT: only firmware that the ROM has just released boots. -/
def execFirmwareBoot (locks : BitVec 9) (cfg : Option ConfigImage) (s : State) : Host.Outcome State Fault Refusal :=
  s.runS fun c => if c.clk.boot = .firmware then c.firmwareBoot locks cfg else c

/-- BOOT_OVR after a watchdog expiry (R84): the other bank once, or recovery at the second failure. -/
def Chip.watchdogOvr (c : Chip) : Chip :=
  if c.bit .BOOT_OVR F.BOOT_OVR_WDT_FAILS then c.setF .BOOT_OVR F.BOOT_OVR_RECOVER 1
  else
    let other := 1 - c.get .BOOT_STATUS F.BOOT_STATUS_BANK
    let w := fset (fset (c.rd .BOOT_OVR) F.BOOT_OVR_WDT_FAILS 1) F.BOOT_OVR_BANK other
    c.wr .BOOT_OVR (fset (fset w F.BOOT_OVR_ONCE 1) F.BOOT_OVR_VALID 1)

/-- The boot watchdog expires (R84). -/
def execBootWatchdogExpiry (s : State) : Host.Outcome State Fault Refusal :=
  s.run fun c =>
    if c.clk.wdt.any (fun t => t ≤ c.clk.now) then (c.watchdogOvr).deviceReset 4 0 else c

/-- A write of BOOT_CTL (R84). -/
def execBootOkWrite (p : RegPath) (v : Word) (s : State) : Host.Outcome State Fault Refusal :=
  s.runE fun c => c.pathWrite p (Reg.BOOT_CTL).addr v

/-- A write of CLK_CTL that selects PLLs (R65). -/
def execClkCtlPllEn (p : RegPath) (v : Word) (s : State) : Host.Outcome State Fault Refusal :=
  s.runE fun c => c.pathWrite p (Reg.CLK_CTL).addr v

/-- A write of CLK_CTL that switches Headspring (R65). -/
def execClkCtlSysSel (p : RegPath) (v : Word) (s : State) : Host.Outcome State Fault Refusal :=
  s.runE fun c => c.pathWrite p (Reg.CLK_CTL).addr v

/-- A write of CLK_CTL that enables or disables REF_IN (R63). CLK_CTL holds K fields, so the key guards the word. -/
def execClkCtlRefEn (p : RegPath) (v : Word) (s : State) : Host.Outcome State Fault Refusal :=
  s.runE fun c => c.pathWrite p (Reg.CLK_CTL).addr v

/-! ### Reference clocks and PLLs (R62 to R66) -/

/-- A PLL is enabled. -/
def Chip.pllEn (c : Chip) (g : Pll) : Bool := c.bitAt .CLK_CTL F.CLK_CTL_PLL_EN g.val
/-- A PLL reports lock. -/
def Chip.locked (c : Chip) (g : Pll) : Bool := c.bitAt .CLK_STATUS F.CLK_STATUS_LOCK g.val
/-- The device runs on the PLLs. -/
def Chip.onPlls (c : Chip) : Bool := c.bit .CLK_CTL F.CLK_CTL_SYS_SEL

/-- An enabled PLL reports lock; the wait ends when all have (R65). -/
def execPllLock (g : Pll) (s : State) : Host.Outcome State Fault Refusal :=
  s.run fun c =>
    if !c.pllEn g || c.locked g || c.clk.lockBy.isNone then c
    else
      let c := c.setStBit .CLK_STATUS F.CLK_STATUS_LOCK g.val true
      if c.get .CLK_STATUS F.CLK_STATUS_LOCK = c.get .CLK_CTL F.CLK_CTL_PLL_EN then
        c.updClk (fun k => { k with lockBy := none })
      else c

/-- The lock wait of 1 ms ends (R65): PLL_UNLOCK names the PLLs; firmware stays on the FRC. -/
def execPllLockTimeout (s : State) : Host.Outcome State Fault Refusal :=
  s.run fun c =>
    let miss := c.get .CLK_CTL F.CLK_CTL_PLL_EN &&& (c.get .CLK_STATUS F.CLK_STATUS_LOCK ^^^ 0x1FF)
    if c.clk.lockBy.any (fun t => t ≤ c.clk.now) ∧ miss ≠ 0 then
      let boot : Boot := if c.clk.boot = .firmware then .frcOnly else c.clk.boot
      let hs : HsSt := if c.clk.boot = .firmware then .run else c.fw.hs
      let first : Bool := c.clk.boot == .firmware
      let c := (c.updClk (fun k => { k with lockBy := none, boot := boot })).updFw (fun f => { f with hs := hs })
      let c := c.postFault .pll (c.evUnlock miss)
      if first then c.bootReport else c
    else c

/-- REF_IN qualifies, measured against the crystal (R63). -/
def execRefInQualified (s : State) : Host.Outcome State Fault Refusal :=
  s.run fun c =>
    if c.bit .CLK_CTL F.CLK_CTL_REF_EN && c.bit .CLK_STATUS F.CLK_STATUS_XTAL_OK && !c.bit .CLK_STATUS F.CLK_STATUS_REF_QUAL then
      let c := c.setSt .CLK_STATUS F.CLK_STATUS_REF_QUAL 1
      c.post (c.ev 0x0201 0 0 [])
    else c

/-- REF_IN is lost (R63): back to the crystal, or holdover where the crystal has failed (R351 ladder 0xA rung 2). -/
def execRefInLost (s : State) : Host.Outcome State Fault Refusal :=
  s.run fun c =>
    if !c.bit .CLK_STATUS F.CLK_STATUS_REF_QUAL then c
    else
      let c := c.settleUncert
      let c := c.setSt .CLK_STATUS F.CLK_STATUS_REF_QUAL 0
      let c := if c.bit .CLK_STATUS F.CLK_STATUS_XTAL_OK then c.refSlew
        else (c.setSt .CLK_STATUS F.CLK_STATUS_HOLDOVER 1).escalate 0xA 2 0 0x0203
      c.post (c.ev 0x0202 0 0 [])

/-- No crystal edge for 2 µs (R64): REF_IN alone, or holdover; TIME_DEGRADED with cause XTAL. -/
def execCrystalFailure (s : State) : Host.Outcome State Fault Refusal :=
  s.run fun c =>
    if !c.bit .CLK_STATUS F.CLK_STATUS_XTAL_OK ∨ c.pwr.st = .deep ∨ c.pwr.st = .off then c
    else
      let c := c.settleUncert
      let hold := bitOf (!c.bit .CLK_STATUS F.CLK_STATUS_REF_QUAL || c.refFree)
      let w := fset (fset (c.rd .CLK_STATUS) F.CLK_STATUS_XTAL_OK 0) F.CLK_STATUS_HOLDOVER hold
      let c := (c.wr .CLK_STATUS w).bump .CLK_STATUS
      let c := c.updClk (fun k => { k with slewing := false })
      (c.postFault .xtal (c.ev 0x0203 0 0 [])).degXtal true

/-- The crystal returns; PLL_REF slews back (R64), once it is locked (R66). -/
def execCrystalReturn (s : State) : Host.Outcome State Fault Refusal :=
  s.run fun c =>
    if c.bit .CLK_STATUS F.CLK_STATUS_XTAL_OK then c
    else
      let c := c.settleUncert
      let w := fset (fset (c.rd .CLK_STATUS) F.CLK_STATUS_XTAL_OK 1) F.CLK_STATUS_HOLDOVER (bitOf c.refFree)
      ((c.wr .CLK_STATUS w).bump .CLK_STATUS).refSlew

/-- The slew ends: the cause XTAL clears (R64, R66, R247). -/
def execPllRefSlewEnd (s : State) : Host.Outcome State Fault Refusal :=
  s.run fun c =>
    if c.clk.slewing ∧ c.bit .CLK_STATUS F.CLK_STATUS_XTAL_OK ∧ !c.refFree then
      (c.updClk (fun k => { k with slewing := false })).degXtal false
    else c

/-- The scope of a PLL's loss of lock (R66). -/
def Chip.pllScope (c : Chip) (g : Pll) : Chip :=
  match g.val with
  | 0 =>
    let c := c.settleUncert.updClk (fun k => { k with slewing := false })
    (c.setSt .CLK_STATUS F.CLK_STATUS_HOLDOVER 1).degXtal true
  | 1 | 2 =>
    if c.bit .CLK_STATUS F.CLK_STATUS_XTAL_OK then c.deviceReset 5 0
    else (c.escalate 0xA 3 0 0x0203).deviceReset 4 0
  | 3 =>
    let c := c.updClk (fun k => { k with hsOnFrc := true })
    if c.fw.hs = .held then c else c.startScope .headspring none false []
  | 8 => c.srdsLost 4
  | k => c.each ((List.finRange 96).filter (fun n => n.val / 24 + 4 = k && c.isDrop n)) (fun c n =>
      c.startScope (.port n) none false [])

/-- A PLL loses lock after the switch (R66). -/
def execPllUnlock (g : Pll) (s : State) : Host.Outcome State Fault Refusal :=
  s.runS fun c =>
    if !c.onPlls || !c.locked g then c
    else
      let c := (c.setStBit .CLK_STATUS F.CLK_STATUS_LOCK g.val false).record .CLK_STATUS F.CLK_STATUS_UNLOCK_SEEN
      (c.postFault .pll (c.evUnlock (2 ^ g.val))).pllScope g

/-- A PLL relocks (R66): PLL_REF slews back to lock, the lanes are released, Headspring leaves the FRC; drops of the group
complete their resets. -/
def execPllRelock (g : Pll) (s : State) : Host.Outcome State Fault Refusal :=
  s.runS fun c =>
    if !c.onPlls || c.locked g || !c.pllEn g then c
    else
      let c := c.setStBit .CLK_STATUS F.CLK_STATUS_LOCK g.val true
      match g.val with
      | 0 =>
        let c := c.settleUncert
        (c.setSt .CLK_STATUS F.CLK_STATUS_HOLDOVER (bitOf (!c.bit .CLK_STATUS F.CLK_STATUS_XTAL_OK &&
          !c.bit .CLK_STATUS F.CLK_STATUS_REF_QUAL))).updClk (fun k => { k with slewing := true })
      | 3 => c.updClk (fun k => { k with hsOnFrc := false })
      | 8 => c.srdsBack
      | _ => c

/-! ### Reset scopes (R67 to R70) -/

/-- A reset asked for through a door, under the opcode that Config leaves open, or by a recovery step. -/
def Chip.askScope (c : Chip) (sc : Scope) (q : Option ReqId) (bad : List Nat) : Chip :=
  match q with
  | none => c.startScope sc none false bad
  | some q => c.serve q (Config.opReset (scopeCode sc)) [0, 1, 2, 3, 4] (fun _ c => c.startScope sc (some q) false bad)

/-- PORT_RESET (R68). -/
def execPortReset (n : Port) (q : Option ReqId) (s : State) : Host.Outcome State Fault Refusal :=
  s.runS fun c => c.askScope (.port n) q []

/-- BASIN_RESET (R69): the cache entries that fail parity are not written back and are reported; with a failed word of the
instruction memory the basin's image is loaded anew. One that a running reset absorbs adds what its own check found. -/
def execBasinReset (b : Basin) (q : Option ReqId) (badCids : List Cid) (imageOk : Bool) (s : State) :
    Host.Outcome State Fault Refusal :=
  s.runS fun c =>
    let c := c.askScope (.basin b) q (badCids.map (·.toNat))
    if imageOk || !(c.basins[b]).inReset then c else c.updBasin b (fun x => { x with loading := true })

/-- HEADSPRING_RESET (R67). -/
def execHeadspringReset (q : Option ReqId) (s : State) : Host.Outcome State Fault Refusal :=
  s.runS fun c => c.askScope .headspring q []

/-- LANE_RESET (R67). -/
def execLaneReset (l : LaneId) (q : Option ReqId) (s : State) : Host.Outcome State Fault Refusal :=
  s.runS fun c => c.askScope (.lane l) q []

/-- DEVICE_RESET (R67): by a door, with cause 0x3, or by a recovery step, with cause 0x4 (RST_CAUSE). -/
def execDeviceReset (q : Option ReqId) (s : State) : Host.Outcome State Fault Refusal :=
  s.run fun c =>
    match q with
    | none => c.deviceReset 4 0
    | some q => c.serve q (Config.opReset 5) [0, 1, 2, 3, 4] (fun _ c => c.deviceReset 3 0)

/-- RESET_DONE (R70). -/
def execResetDone (sc : Scope) (s : State) : Host.Outcome State Fault Refusal :=
  s.runS fun c => if c.mayEnd sc then c.endScope sc else c

end Sys2Proof.Machine
end

