-- ==== Sys2Proof/Machine/Seiche.lean ====
section
/-! DEFINITION. The commands of Seiche (12): the mark, template, belt, time and outfall opcodes, shaft and Z edges, arming,
mark actions, inlets, PPS_OUT and the calibration window. -/

namespace Sys2Proof.Machine

/-! ### Opcodes -/

/-- `serve` for a Seiche opcode, whose target kind is 0; one that allocates or frees in bulk waits for a directory rebuild
(R354). -/
def Chip.serveSei (c : Chip) (q : ReqId) (op : BitVec 16) (alloc : Bool) (body : Chip → Chip) : Chip :=
  if alloc && c.pond.rebuild then c else c.serve q op [0] (fun _ c => body c)

/-- The template in ARG has the KIND of the action (R256). -/
def Chip.kindOk (c : Chip) (action : Nat) (arg : Word) : Bool :=
  match action with
  | 4 => (match c.template? arg with | some (.line ..) => true | _ => false)
  | 5 => (match c.template? arg with | some (.drop ..) => true | _ => false)
  | _ => true

/-- The template reference in ARG of an action that has one no longer holds (R148). -/
def Chip.templateStale (c : Chip) (action : Nat) (arg : Word) : Bool :=
  (action == 4 || action == 5) && !c.refOk (arg.extractLsb' 0 20).toNat (arg.extractLsb' 20 8)

/-- MARK_CREATE (R148, R150, R256): a MARK context of H_MARK, PENDING, for the belt's arming engine to consider. -/
def execMarkCreate (q : ReqId) (belt : Nat) (pos : Pos) (dir action : Nat) (mflags : Byte) (window : BitVec 16)
    (arg : Word) (portEpoch nodeEpoch : BitVec 16) (s : State) : Host.Outcome State Fault Refusal :=
  s.runS fun c => c.serveSei q 0x0701#16 true fun c =>
    let b : Belt := Fin.ofNat 16 belt
    let out : Bool := 1 ≤ action && action ≤ 3
    if 16 ≤ belt ∨ !c.beltEn b ∨ dir = 0 ∨ 3 < dir ∨ action = 0 ∨ 6 < action ∨
        (out ∧ 32 ≤ arg.toNat % 256) ∨ (action = 3 ∧ arg.toNat / 256 = 0) then c.answer q rBAD_ARG
    else if c.templateStale action arg then c.answer q rROLE_CHANGED
    else if !c.kindOk action arg then c.answer q rBAD_ARG
    else
      match c.alloc hMARK (.of tMARK) 1 with
      | (.ok (cid :: _), c) =>
        let gen := (c.ctx cid).gen
        let m : MarkBody :=
          { pos := pos, belt := b, dir := dir, action := action, mstate := msPENDING, mflags := mflags &&& 3#8,
            window := window, arg := arg, portEpoch := portEpoch, nodeEpoch := nodeEpoch, door := q.door }
        let c := (c.setBody cid (.mark m)).updSei (fun x => { x with fresh := x.fresh ++ [{ cid := cid, gen := gen }] })
        c.answer q rOK [cid, gen.toNat] 4
      | (.ok [], c) => c.answer q rPOND_FULL
      | (.error v, c) => c.answer q v

/-- The arming engine considers a new mark (R256): one that lies behind is late with cause 3. One that does not lie behind and whose
completing edge has occurred since its creation gets no slot: it is late with cause 1, or 2 where arming was stopped then (R259,
R260). -/
def execMarkConsider (cid : Cid) (s : State) : Host.Outcome State Fault Refusal :=
  s.run fun c =>
    match c.sei.fresh.find? (fun x => x.cid == cid.toNat) with
    | none => c
    | some f =>
      let gone (c : Chip) : Chip := c.updSei (fun x => { x with fresh := x.fresh.filter (fun y => y.cid != cid.toNat) })
      match c.mark? cid.toNat f.gen with
      | none => gone c
      | some m =>
        if m.mstate ≠ msPENDING then gone c
        else if !c.armUp m.belt || !c.beltEn m.belt || !c.posValid m.belt then c
        else
          let c := gone c
          if m.distance (c.sei.belts[m.belt]).pos < 0 then c.handLate m.belt cid.toNat f.gen 3
          else match f.cause with
            | some k => c.handLate m.belt cid.toNat f.gen k
            | none => c

/-- Unload a mark's slot and forget it as late or new (R257). -/
def Chip.dropMark (c : Chip) (b : Belt) (cid : Nat) : Chip :=
  let c := c.updBelt b (fun x =>
    { x with slots := x.slots.filter (fun s => s.cid != cid || s.hit.isSome), late := x.late.filter (fun y => y.cid != cid) })
  (c.updSei (fun x => { x with fresh := x.fresh.filter (fun y => y.cid != cid) })).syncArmed b

/-- MARK_CANCEL (R257, R265): a mark that has not matched is CANCELLED, a match stands, a finished mark is freed. -/
def execMarkCancel (q : ReqId) (cid : Cid) (gen : Byte) (s : State) : Host.Outcome State Fault Refusal :=
  s.runS fun c => c.serveSei q 0x0702#16 false fun c =>
    match c.mark? cid.toNat gen with
    | none => c.answer q rROLE_CHANGED
    | some m =>
      let hit : Bool := ((c.sei.belts[m.belt]).slots ++ (c.sei.belts[m.belt]).tasks).any (fun x =>
        x.cid == cid.toNat && x.hit.isSome)
      if hit then c.answer q rOK [msFIRED] 1
      else if m.mstate = msPENDING ∨ m.mstate = msARMED then
        ((c.dropMark m.belt cid.toNat).endMark cid.toNat gen msCANCELLED).answer q rOK [msCANCELLED] 1
      else (c.freeCtx cid.toNat).answer q rOK [m.mstate] 1

/-- MARK_READ (R254, R259): the body and the distance from the present position. -/
def execMarkRead (q : ReqId) (cid : Cid) (gen : Byte) (s : State) : Host.Outcome State Fault Refusal :=
  s.run fun c => c.serveSei q 0x0703#16 false fun c =>
    match c.mark? cid.toNat gen with
    | none => c.answer q rROLE_CHANGED
    | some m =>
      c.answer q rOK (m.layout.map (·.toNat) ++ [(BitVec.ofInt 48 (m.distance (c.sei.belts[m.belt]).pos)).toNat]) 30

/-- What a template may hold (R255, R239). -/
def templateOk (t : Template) : Bool :=
  match t with
  | .line _ addr obj prio value => 1 ≤ addr && addr ≤ 126 && obj ≤ 63 && prio ≤ 7 && value.length ≤ 40
  | .drop _ _ _ ep data => !ep.getLsbD 7 && data.length ≤ 32

/-- The contexts a template takes, 1 to 3, of 24 bytes each: its fields and its value. -/
def templateSize (t : Template) : Nat :=
  match t with
  | .line _ _ _ _ value => max 1 ((5 + value.length + 23) / 24)
  | .drop _ _ _ _ data => max 1 ((7 + data.length + 23) / 24)

/-- TEMPLATE_LOAD (R255): 1 to 3 contexts of H_MGMT. -/
def execTemplateLoad (q : ReqId) (t : Template) (s : State) : Host.Outcome State Fault Refusal :=
  s.runS fun c => c.serveSei q 0x0704#16 true fun c =>
    if !templateOk t then c.answer q rBAD_ARG
    else
      match c.alloc hMGMT (.of tSERVICE) (templateSize t) with
      | (.ok (cid :: rest), c) =>
        let c := c.setBody cid (.template t)
        let c := c.each rest (fun c r => c.setBody r (.more cid))
        c.answer q rOK [cid, (c.ctx cid).gen.toNat] 4
      | (.ok [], c) => c.answer q rPOND_FULL
      | (.error v, c) => c.answer q v

/-- TEMPLATE_FREE (R255): its contexts are freed; marks that refer to it fail under R148. -/
def execTemplateFree (q : ReqId) (cid : Cid) (gen : Byte) (s : State) : Host.Outcome State Fault Refusal :=
  s.runS fun c => c.serveSei q 0x0705#16 true fun c =>
    let is : Bool := match (c.ctx cid.toNat).body with
      | .template _ => true
      | .more h => h == cid.toNat
      | _ => false
    if c.refOk cid.toNat gen && is then
      (c.bulkFree (fun i x => i == cid.toNat || x.body = .more cid.toNat)).answer q rOK
    else c.answer q rROLE_CHANGED

/-- BELT_STATUS: position, RATE, status, marks pending (R251), those in MSTATE PENDING (R254; DEDUCED, log entry 211). -/
def execBeltStatus (q : ReqId) (belt : Nat) (s : State) : Host.Outcome State Fault Refusal :=
  s.run fun c => c.serveSei q 0x0706#16 false fun c =>
    if 16 ≤ belt then c.answer q rBAD_ARG
    else
      let b : Belt := Fin.ofNat 16 belt
      let n := ((c.beltMarks b).filter (fun x => x.2.2.mstate == msPENDING)).length
      c.answer q rOK [(c.sei.belts[b]).pos.toNat, (c.rd (.BELT_RATE b)).toNat, (c.rd (.BELT_STATUS b)).toNat, n] 18

/-- BELT_SET_POS (R253): at once, or at the next rising Z edge, which then answers it. -/
def execBeltSetPos (q : ReqId) (belt : Nat) (pos : Pos) (atZ : Nat) (s : State) : Host.Outcome State Fault Refusal :=
  s.runS fun c => c.serveSei q 0x0707#16 false fun c =>
    let b : Belt := Fin.ofNat 16 belt
    if 16 ≤ belt ∨ 1 < atZ then c.answer q rBAD_ARG
    else if atZ = 1 then c.updBelt b (fun x => { x with zPend := x.zPend ++ [(pos, q)] })
    else (c.setBeltPos b pos).answer q rOK

/-- TIME_READ (R245): TIME, SEI_STATUS, SEI_UNCERT. -/
def execTimeRead (q : ReqId) (s : State) : Host.Outcome State Fault Refusal :=
  s.run fun c => c.serveSei q 0x0708#16 false fun c =>
    c.answer q rOK [c.sei.time.toNat, (c.rd .SEI_STATUS).toNat, c.uncert] 16

/-- TIME_ACK clears the DEEP cause and sets SEI_UNCERT to 0 (R247, R272). -/
def execTimeAck (q : ReqId) (s : State) : Host.Outcome State Fault Refusal :=
  s.run fun c => c.serveSei q 0x0709#16 false fun c =>
    let c := (c.settleUncert).setF .SEI_UNCERT F.SEI_UNCERT_UNCERT 0
    (c.degrade (c.bit .SEI_STATUS F.SEI_STATUS_DEG_XTAL) false).answer q rOK

/-- OUTFALL_SET (R264): the tick applied. -/
def execOutfallSet (q : ReqId) (o : Nat) (op : OutOp) (widthUs : Nat) (s : State) : Host.Outcome State Fault Refusal :=
  s.run fun c => c.serveSei q 0x070A#16 false fun c =>
    let t := c.sei.time
    if 32 ≤ o ∨ (op = .pulse ∧ (widthUs = 0 ∨ 16777215 < widthUs)) then c.answer q rBAD_ARG
    else (c.updOutfall (Fin.ofNat 32 o) (fun x => x.act t op widthUs)).answer q rOK [t.toNat] 8

/-! ### Shafts (R248 to R252) -/

/-- MODE counts this edge (R248): X4 every edge, X2 both edges of A, X1 rising edges of A. -/
def Chip.edgeCounts (c : Chip) (b : Belt) (onB rising : Bool) : Bool :=
  match c.get (.BELT_CTL b) F.BELT_CTL_MODE with
  | 1 => !onB
  | 2 => !onB && rising
  | _ => true

/-- RATE at a counted edge, from the ticks of the span's edges, newest first (R251). Two edges of one tick give no
interval: the value is free. -/
def Chip.rate (c : Chip) (b : Belt) (fwd : Bool) (es : List (BitVec 64)) : Chip :=
  let k := min (2 ^ c.get (.BELT_CTL b) F.BELT_CTL_RATE_N) (es.length - 1)
  match es with
  | [] => c
  | t :: _ =>
    let d := (t - es.getD k t).toNat
    if k = 0 then c.wr (.BELT_RATE b) 0#32
    else if d = 0 then
      let (v, c) := c.draw
      c.wr (.BELT_RATE b) (v.setWidth 32)
    else
      let r : Nat := 16 * k * 1600000000 / d
      c.wr (.BELT_RATE b) (BitVec.ofInt 32 (if fwd then (r : Int) else -(r : Int)))

/-- The slots whose mark this edge completes have matched, at this tick (R254, R261). -/
def BeltSt.hitSlots (x : BeltSt) (p : Pos) (fwd : Bool) (t : BitVec 64) (inReset : Bool) : BeltSt :=
  { x with slots := x.slots.map (fun s =>
      if s.hit.isNone && s.mark.pos == p && s.mark.admits fwd then
        { s with hit := some t, delayed := inReset && !s.mark.outfall }
      else s) }

/-- Marks not yet considered whose completing edge this is (R254): no slot will take them (R259). -/
def Chip.freshCrossed (c : Chip) (b : Belt) (p : Pos) (fwd stopped : Bool) : Chip :=
  let hit (f : Fresh) : Bool := f.cause.isNone && (c.mark? f.cid f.gen).any (fun m => m.belt == b && m.pos == p && m.admits fwd)
  c.updSei (fun x =>
    { x with fresh := x.fresh.map (fun f => if hit f then { f with cause := some (if stopped then 2 else 1) } else f) })

/-- A counted edge (R248 to R251, R254, R258, R261, R267). -/
def Chip.countEdge (c : Chip) (b : Belt) (fwd : Bool) : Chip :=
  let t := c.sei.time
  let now := c.clk.now
  let x := c.sei.belts[b]
  let other : Bool := c.bit (.BELT_STATUS b) F.BELT_STATUS_DIR == fwd
  let turn : Bool := x.started && other
  let p := if fwd then x.pos + 1#48 else x.pos - 1#48
  let es := (t :: (if turn then [] else x.edges)).take 257
  let valid := c.posValid b
  let stopped := !c.armUp b
  let c := if valid then c.freshCrossed b p fwd stopped else c
  let c := c.updBelt b (fun x =>
    { (if valid then x.hitSlots p fwd t (c.basins[b]).inReset else x) with
      pos := p, past := x.pastNow t, edges := es, lastEdge := now, started := true, counted := x.counted + 1
      turns := if other && x.counted != 0 then x.turns + 1 else x.turns
      crossed := if valid then x.crossed ++ [(p, fwd, stopped)] else x.crossed })
  let c := c.setSt (.BELT_STATUS b) F.BELT_STATUS_DIR (bitOf !fwd)
  let c := c.rate b fwd es
  let c := if c.bit (.BELT_STATUS b) F.BELT_STATUS_STOPPED then
      let c := c.setSt (.BELT_STATUS b) F.BELT_STATUS_STOPPED 0
      c.post (c.evBelt 0x0708 b [0, p.toNat])
    else c
  c.jams b

/-- A level change of A or B, at its first sample at the new level (R248): `aLeads` at this edge; DIR_INV
swaps the directions. -/
def execShaftEdge (b : Belt) (onB : Bool) (edge : EdgeIn) (aLeads : Bool) (s : State) : Host.Outcome State Fault Refusal :=
  s.run fun c =>
    if !c.beltEn b || !c.seiRuns || !c.shaftHeld b edge.held || !c.edgeCounts b onB edge.high then c
    else c.countEdge b (aLeads != c.bit (.BELT_CTL b) F.BELT_CTL_DIR_INV)

/-- A and B changed in one sample (R250); in Sleep the position is valid no longer (R270). -/
def execShaftQuadError (b : Belt) (s : State) : Host.Outcome State Fault Refusal :=
  s.run fun c =>
    if !c.beltEn b || !c.seiRuns then c
    else
      let c := c.record (.BELT_STATUS b) F.BELT_STATUS_QUAD_ERR
      let c := c.postRate (ms 1) b.val (c.evBelt 0x0706 b [1]) (some 0)
      if c.pwr.st = .sleep then c.setSt (.BELT_STATUS b) F.BELT_STATUS_POS_VALID 0 else c

/-- The signed difference of two residues, the nearest way round (R252). -/
def residueDiff (ppr now rec : Nat) : Int :=
  let d : Int := ((now : Int) - rec) % ppr
  if (ppr : Int) < 2 * d then d - ppr else d

/-- A rising Z edge is accepted in this sample (R248, R253), with the sets that wait for it; it takes effect at the sample's end
(`zTake`), after a counted edge of the same sample. -/
def execZEdge (z : ZEdgeIn) (s : State) : Host.Outcome State Fault Refusal :=
  s.runS fun c =>
    let b := z.belt
    if !c.beltEn b || !c.seiRuns || !c.shaftHeld b z.held then c
    else c.updBelt b (fun x => { x with zDue := some (x.zDue.getD [] ++ x.zPend), zPend := [] })

/-- The index check at an accepted rising Z edge (R252): the residue is recorded or compared. -/
def Chip.zCheck (c : Chip) (b : Belt) : Chip :=
  if !c.bit (.BELT_CTL b) F.BELT_CTL_ZCHK then c
  else
    let x := c.sei.belts[b]
    let ppr := c.getPos (.BELT_ZCFG b) F.BELT_ZCFG_Z_PPR
    let r := (x.pos.toInt % ppr).toNat
    match x.zRes with
    | none => c.updBelt b (fun x => { x with zRes := some r })
    | some r0 =>
      let d := residueDiff ppr r r0
      if d.natAbs ≤ c.get (.BELT_ZCFG b) F.BELT_ZCFG_Z_TOL then c
      else
        let c := c.record (.BELT_STATUS b) F.BELT_STATUS_Z_ERR
        c.post (c.evBelt 0x0707 b [(BitVec.ofInt 32 d).toNat, x.pos.toNat])

/-- The rising Z edge of a sample at its end (R252, R253): its sets apply in order over what the sample counted, then the index is
checked. -/
def Chip.zTake (c : Chip) (b : Belt) : Chip :=
  let ps := ((c.sei.belts[b]).zDue).getD []
  let c := c.each ps (fun c p => (c.setBeltPos b p.1).answer p.2 rOK)
  (c.updBelt b (fun x => { x with zDue := none })).zCheck b

/-- The rising Z edges that wait for the end of their sample. -/
def Chip.zTakeAll (c : Chip) : Chip :=
  c.each ((List.finRange 16).filter (fun b => (c.sei.belts[b]).zDue.isSome)) Chip.zTake

/-- STOP_MS passed without a counted edge (R251). -/
def execBeltStopTimeout (b : Belt) (s : State) : Host.Outcome State Fault Refusal :=
  s.run fun c =>
    let x := c.sei.belts[b]
    let due := x.lastEdge + ms (c.getPos (.BELT_STOP b) F.BELT_STOP_STOP_MS)
    if !c.beltEn b || !x.started || c.clk.now < due then c
    else
      let c := c.stopBelt b
      c.post (c.evBelt 0x0708 b [1, x.pos.toNat])

/-! ### Arming and actions (R256 to R263) -/

/-- One arming cycle of a belt (R258), once in a microsecond, at a tick with T mod 1,600 = 0. Where the engine's basin is in reset
its slots stay loaded; in Sleep, with EN = 0 and with POS_VALID = 0 they are unloaded. -/
def execArmingCycle (b : Belt) (s : State) : Host.Outcome State Fault Refusal :=
  s.runS fun c =>
    let k := c.sei.time.toNat / 1600
    if (c.sei.belts[b]).lastCycle = some k || c.sei.time.toNat % 1600 != 0 || !c.sei.running then c
    else if (c.basins[b]).inReset then c
    else if c.dozing then c.unloadBelt b
    else
      let c := c.armRelease b
      let c := if c.beltEn b && c.posValid b then (c.armCrossed b).armLoad b else c.unloadBelt b
      let c := c.updBelt b (fun x =>
        { x with crossed := [], cyclePos := x.pos, lastCycle := some k })
      c.syncArmed b

/-- A slot has matched its completing edge: an outfall action acts in that tick (R261, R264). -/
def execSlotMatch (b : Belt) (cid : Cid) (s : State) : Host.Outcome State Fault Refusal :=
  s.run fun c =>
    let here (x : Slot) : Bool := x.cid == cid.toNat && x.hit.isSome && !x.acted && x.mark.outfall
    match (c.sei.belts[b]).slots.find? here with
    | none => c
    | some x =>
      let t := x.hit.getD 0#64
      let c := c.updBelt b (fun y => { y with slots := updFirst here (fun z => { z with acted := true }) y.slots })
      (c.markOutfall x.mark t).fired x.mark x.cid x.gen t false none

/-- A pool engine carries out a matched action that does not end at an outfall (R255, R257, R263). -/
def execMarkAction (b : Belt) (cid : Cid) (s : State) : Host.Outcome State Fault Refusal :=
  s.runS fun c =>
    let here (x : Slot) : Bool := x.cid == cid.toNat && x.hit.isSome && !x.acted && !x.mark.outfall
    if (c.basins[b]).inReset || c.dozing then c
    else
      let y := c.sei.belts[b]
      match (y.tasks ++ y.slots).find? here with
      | none => c
      | some x =>
        let (r, c) := c.markActs x.mark
        let c := c.fired x.mark x.cid x.gen (x.hit.getD 0#64) x.delayed r
        if y.tasks.any here then
          (c.updBelt b (fun z => { z with tasks := dropFirst here z.tasks })).endMark x.cid x.gen msFIRED
        else c.updBelt b (fun z => { z with slots := updFirst here (fun s => { s with acted := true }) z.slots })

/-- WINDOW admits a mark's lateness at a position (R262); 0 is no limit. -/
def MarkBody.inWindow (m : MarkBody) (p : Pos) : Bool := m.window == 0#16 || m.lateness p ≤ (m.window.toNat : Int)

/-- A mark is late no more. -/
def BeltSt.dropLate (x : BeltSt) (cid : Nat) : BeltSt := { x with late := dropFirst (fun y => y.cid == cid) x.late }

/-- A late action takes one of the 32 places of this microsecond (R262). -/
def BeltSt.takeLate (x : BeltSt) (cid k : Nat) : BeltSt :=
  { x.dropLate cid with lateAt := k, lateN := if x.lateAt = k then x.lateN + 1 else 1 }

/-- A mark reached unarmed (R262): the first in order acts when WINDOW admits its lateness, else it expires; at most 32 of a belt in
one microsecond. -/
def execLateAction (b : Belt) (cid : Cid) (s : State) : Host.Outcome State Fault Refusal :=
  s.runS fun c =>
    let k := c.sei.time.toNat / 1600
    let p := (c.sei.belts[b]).pos
    let full : Bool := (c.sei.belts[b]).lateAt == k && 32 ≤ (c.sei.belts[b]).lateN
    if !c.armUp b || !c.beltEn b || !c.posValid b then c
    else match c.lateFirst b with
    | none => c
    | some x =>
      if x.cid ≠ cid.toNat then c
      else
        match c.mark? x.cid x.gen with
        | none => c.updBelt b (fun y => y.dropLate x.cid)
        | some m =>
          let t := c.sei.time
          if !m.inWindow p then (c.updBelt b (fun y => y.dropLate x.cid)).expire m x.cid x.gen x.cause
          else if full then c
          else
            let c := c.updBelt b (fun y => y.takeLate x.cid k)
            let (r, c) : Option Nat × Chip := if m.outfall then (none, c.markOutfall m t) else c.markActs m
            let c := if m.action = 6 then c.fired m x.cid x.gen t false r else c
            let c := c.record .SEI_STATUS F.SEI_STATUS_LATE_SEEN
            (c.postMark m (c.evMark 0x0702 m x.cid x.gen t p x.cause) r).endMark x.cid x.gen msFIRED_LATE

/-- A pulse has reached its end time (R264): the ball's level follows TIME, the pulse is over. -/
def execOutfallPulseEnd (o : Io) (s : State) : Host.Outcome State Fault Refusal :=
  s.run fun c =>
    let t := c.sei.time
    c.updOutfall o (fun x => if x.pulseEnd ≤ t then { x with pulseEnd := 0#64 } else x)

/-! ### Inlets, PPS_OUT, calibration -/

/-- A level change of an inlet, at its first sample at the new level (R266): stamped and queued; a 17th waiting edge is
dropped. -/
def execInletEdge (i : Io) (edge : EdgeIn) (s : State) : Host.Outcome State Fault Refusal :=
  s.run fun c =>
    if !c.bit (.INLET_CTL i) F.INLET_CTL_EN || !c.seiRuns || !c.inletHeld i edge.held then c
    else
      let lead : Bool := edge.high != c.bit (.INLET_CTL i) F.INLET_CTL_POL
      let e := c.inStamp i lead
      if 16 ≤ (c.sei.inlets[i]).edges.length then c.post (c.ev 0x0705 0 i.val [1])
      else (c.updInlet i (fun x => { x with edges := x.edges ++ [e] })).inDrain i

/-- PPS_OUT rises at a second of TIME (R269). -/
def execPpsRise (s : State) : Host.Outcome State Fault Refusal :=
  s.run fun c =>
    let t := c.sei.time
    if !c.bit .SEI_CTL F.SEI_CTL_PPS_EN || !c.seiRuns || t.toNat % 1600000000 ≠ 0 then c
    else
      let w := c.getPos .SEI_CTL F.SEI_CTL_PPS_W
      c.updSei (fun x => { x with pps := true, ppsFallAt := t + BitVec.ofNat 64 (ms 10 * w) })

/-- PPS_OUT falls PPS_W × 10 ms later (R269). -/
def execPpsFall (s : State) : Host.Outcome State Fault Refusal :=
  s.run fun c => c.updSei (fun x => if x.pps && x.ppsFallAt ≤ x.time then { x with pps := false } else x)

/-- A 1 s calibration window ends (R271); it lies in Run as a whole. -/
def execCalWindowEnd (period : BitVec 31) (s : State) : Host.Outcome State Fault Refusal :=
  s.run fun c =>
    let now := c.clk.now
    if c.pwr.st ≠ .run || now < max c.sei.calFrom c.pwr.runFrom + sec 1 || !c.sei.running then c
    else
      let w := fset (fset 0#32 F.SEI_CAL_CAL_VALID 1) F.SEI_CAL_PERIOD period.toNat
      (c.wr .SEI_CAL w).updSei (fun x => { x with calFrom := now })

end Sys2Proof.Machine
end

