-- ==== Sys2Proof/Machine/Svc.lean ====
section
/-! DEFINITION. The meanings of the class-service commands (10) and of stream open and close: bindings, framing (R211), the
keyboard wedge (R212), CDC-ACM (R214), printers (R215 to R217), RAW (R218). -/

namespace Sys2Proof.Machine

/-! ### Door opcodes -/

/-- A service opcode: BAD_ARG on a port whose mode is not DROP (R33). -/
def Chip.serveSvc (c : Chip) (q : ReqId) (op : BitVec 16) (body : Port → Chip → Chip) : Chip :=
  c.servePort q op fun n _ c => if c.isDrop n then body n c else c.answer q rBAD_ARG

/-- The result of an SVC_BIND whose binding pends; NO_STREAM and Headspring have no result code of their own: WAIT. -/
def PendCause.result : PendCause → Nat
  | .pondFull => rPOND_FULL
  | .overQuota => rOVER_QUOTA
  | _ => rWAIT

/-- SVC_BIND (R205 to R208, R220); while set-up requests run it waits for SVC_BOUND. -/
def execSvcBind (q : ReqId) (route : BitVec 20) (iface kind profile : Nat) (stream out : BitVec 16) (persist : Bool)
    (s : State) : Host.Outcome State Fault Refusal :=
  s.runS fun c => c.serveSvc q 0x0801#16 fun n c =>
    match c.dev? n route with
    | none => c.answer q rBAD_ARG
    | some d =>
      match d.iface? iface with
      | none => c.answer q rBAD_ARG
      | some i =>
        let rule : BindRule := { port := n, route := route, iface := iface, kind := kind, profile := profile, stream := stream,
                                 out := out, door := some q.door }
        let same (r : BindRule) : Bool := r.port == n && r.route == route && r.iface == iface
        let rules := c.svc.bindRules.filter (fun r => !same r)
        if !d.configured || 15 < profile then c.answer q rBAD_ARG
        else if !kindAccepts kind i d then c.answer q rNOT_SUPPORTED
        else if (coveredIfs kind iface d).any (fun j => c.covered n d j) then c.answer q rLOCKED
        else if !c.bindRoom n || (persist && 256 ≤ rules.length) then c.answer q rBAD_ARG
        else
          let c := if persist then c.updSvc (fun v => { v with bindRules := rules ++ [rule] }) else c
          let c := c.addBind (newBind n route iface kind profile stream out (some q.door))
          match c.bind? n route iface with
          | none => c.answer q rBAD_ARG
          | some b =>
            match b.pending with
            | none => c.answer q rOK [b.cid, b.gen.toNat] 4
            | some .setup => c.updBind b (fun x => { x with req := some q })
            | some p => c.answer q p.result [p.code] 1

/-- SVC_UNBIND (R209): the binding ends; DROP_RULE also drops its binding rule. -/
def execSvcUnbind (q : ReqId) (route : BitVec 20) (iface : Nat) (dropRule : Bool) (s : State) :
    Host.Outcome State Fault Refusal :=
  s.runS fun c => c.serveSvc q 0x0802#16 fun n c =>
    let same (r : BindRule) : Bool := r.port == n && r.route == route && r.iface == iface
    let ruled : Bool := dropRule && c.svc.bindRules.any same
    let c := if dropRule then c.updSvc (fun v => { v with bindRules := v.bindRules.filter (fun r => !same r) }) else c
    match c.bind? n route iface with
    | some b => (c.endBind b ubUNBIND).answer q rOK
    | none => c.answer q (if ruled then rOK else rBAD_ARG)

/-- SVC_LIST: route, interface, KIND, PROFILE, streams, STATE and RSEQ of each binding of the port; STATE 0 while pending. -/
def execSvcList (q : ReqId) (first count : Nat) (s : State) : Host.Outcome State Fault Refusal :=
  s.runS fun c => c.serveSvc q 0x0803#16 fun n c =>
    if 4 < count then c.answer q rBAD_ARG
    else
      let l := ((c.svc.binds.filter (fun b => b.port == n)).drop first).take count
      c.answer q rOK (l.flatMap (fun b =>
        let x := c.svcBody b
        [b.route.toNat, b.iface, b.kind, b.profile, b.stream.toNat, b.out.toNat,
         if b.pending.isSome then 0 else x.state, if b.pending.isSome then 0 else x.rseq.toNat])) (16 * l.length)

/-- The Reservoir's room for stream queues (R3, R78, R126): 16 MiB less the microcode region and the Tarn spill area. -/
def reservoirRoom : Nat := 8388608

/-- Another stream queue of a depth fits: at most 8,192 queues, within the room (R3). -/
def Chip.queueFits (c : Chip) (depth : Nat) : Bool :=
  c.svc.streams.length < 8192 && c.svc.streams.foldl (fun a s => a + s.depth) depth ≤ reservoirRoom

/-- A stream opens (R114, R152): a STREAM context of H_STREAM, the host-to-device space, the bindings that waited for it
(R208). An ID that is open is refused; one whose records are still being sent has to wait, and so has a queue for which the
Reservoir has no room (R3; the answer is a DESIGN CHOICE, log entry 200). -/
def execStreamOpen (q : ReqId) (id : BitVec 16) (port : Port) (depth weight : Nat) (s : State) :
    Host.Outcome State Fault Refusal :=
  s.runS fun c => if c.pond.rebuild then c else c.serve q Config.opStreamOpen [0, 1] fun _ c =>
    if id = 0xFFFF#16 ∨ depth = 0 then c.answer q rBAD_ARG
    else if (c.strm? id).isSome then c.answer q rLOCKED
    else if c.svc.streams.any (fun x => x.id == id) || !c.queueFits depth then c.answer q rWAIT
    else
      match c.alloc hSTREAM (.of tSTREAM) 1 with
      | (.ok (cid :: _), c) =>
        let c := c.setBody cid (.stream id)
        let gen := (c.ctx cid).gen
        let st : Strm :=
          { id := id, cid := cid, gen := gen, door := q.door, port := port, depth := depth, weight := max 1 weight, recs := [],
            weir := false, inbound := [], received := 0, credit := 0#32, overrun := 0, closed := false }
        let c := c.updSvc (fun v => { v with streams := v.streams ++ [st] })
        let c := c.updTrunk (fun t => { t with rx := t.rx ++ [{ cls := 2, id := id.toNat, last := none, buf := [] }] })
        let c := c.retryBinds (fun b => b.pending == some .noStream && (b.stream == id || b.out == id))
        c.answer q rOK [cid, gen.toNat] 4
      | (.ok [], c) => c.answer q rPOND_FULL
      | (.error v, c) => c.answer q v

/-- A stream closes (R114, R209), named by a valid reference of the requesting door. -/
def execStreamClose (q : ReqId) (cid : Cid) (gen : Byte) (s : State) : Host.Outcome State Fault Refusal :=
  s.runS fun c => c.serve q Config.opStreamClose [0, 1] fun _ c =>
    match c.strmRef? cid.toNat gen with
    | none => c.answer q rROLE_CHANGED
    | some x => if x.door = q.door then (c.closeStream x true).answer q rOK else c.answer q rBAD_ARG

/-- Class match of a device (R207), after ENUM_DONE or a new setting. -/
def execClassMatch (n : Port) (route : BitVec 20) (s : State) : Host.Outcome State Fault Refusal :=
  s.runS fun c => c.classMatch n route

/-! ### Framing (R211) -/

/-- The binding in force of a kind on an interface, while the engines of the port's basin run (R35, R69, R327). -/
def Chip.bound? (c : Chip) (n : Port) (route : BitVec 20) (i kind : Nat) : Option Bind :=
  (c.bind? n route i).filter (fun b => b.pending.isNone && b.kind == kind && c.basinUp n)

/-- The character of keymap 0 as built in, by layer and usage (table *Built-in keymap*). -/
def builtinKey (layer usage : Nat) : Nat :=
  if 2 ≤ layer then 0
  else
    let shift : Bool := layer == 1
    let at_ (l : List Nat) (k : Nat) : Nat := l.getD k 0
    if 0x04 ≤ usage ∧ usage ≤ 0x1D then (if shift then 0x41 else 0x61) + (usage - 0x04)
    else if 0x1E ≤ usage ∧ usage ≤ 0x26 then
      (if shift then at_ [0x21, 0x40, 0x23, 0x24, 0x25, 0x5E, 0x26, 0x2A, 0x28] (usage - 0x1E) else 0x31 + (usage - 0x1E))
    else if usage = 0x27 then (if shift then 0x29 else 0x30)
    else if usage = 0x28 then 0x0D
    else if usage = 0x2B then 0x09
    else if usage = 0x2C then 0x20
    else if 0x2D ≤ usage ∧ usage ≤ 0x31 then
      at_ (if shift then [0x5F, 0x2B, 0x7B, 0x7D, 0x7C] else [0x2D, 0x3D, 0x5B, 0x5D, 0x5C]) (usage - 0x2D)
    else if 0x33 ≤ usage ∧ usage ≤ 0x38 then
      at_ (if shift then [0x3A, 0x22, 0x7E, 0x3C, 0x3E, 0x3F] else [0x3B, 0x27, 0x60, 0x2C, 0x2E, 0x2F]) (usage - 0x33)
    else if 0x54 ≤ usage ∧ usage ≤ 0x57 then at_ [0x2F, 0x2A, 0x2D, 0x2B] (usage - 0x54)
    else if usage = 0x58 then 0x0D
    else if 0x59 ≤ usage ∧ usage ≤ 0x61 then 0x31 + (usage - 0x59)
    else if usage = 0x62 then 0x30
    else if usage = 0x63 then 0x2E
    else 0

/-- The 512 bytes of a keymap (R213): as loaded, the built-in one for keymap 0, else zeros; a key whose page is lost decodes
as unmapped until the rebuild ends (R163). -/
def Chip.keymap (c : Chip) (i : Nat) : List Byte :=
  match lookupNat c.svc.keymaps i with
  | some l => (List.range 512).map (fun k =>
      if c.svc.lostPages.contains (keymapPages * i + k / 24) then 0#8 else l.getD k 0#8)
  | none => if i = 0 then (List.range 512).map (fun k => BitVec.ofNat 8 (builtinKey (k / 128) (k % 128))) else []

/-- The open record of a binding. -/
def Chip.openOf (c : Chip) (b : Bind) : Option Rec :=
  (c.bindStream b).bind (fun s => s.recs.find? (Rec.isOpenOf b.key))

/-- Open the binding's record, capturing profile and keymap (R201, R210, R219); a full queue refuses it. -/
def Chip.openBindRec (c : Chip) (b : Bind) : Chip :=
  match c.bindStream b with
  | none => c
  | some s =>
    let ctl := c.rd (.SVC_PROF_CTL b.prof)
    let term := c.rd (.SVC_PROF_TERM b.prof)
    let km := fget ctl F.SVC_PROF_CTL_KEYMAP
    let h := c.recHdr b.port c.sei.time b.kind 0 b.iface b.route.toNat (bindRef b.cid b.gen)
    let (ok, c) := c.openRec s (parisonSrc b.port b.route) b.key h []
    if ok then
      let c := c.updBind b (fun x => { x with ctl := ctl, term := term, keys := c.keymap km, lastByte := none })
      (c.updSvcBody b (fun x => { x with state := 2, fill := 0, keymap := km, rseq := x.rseq + 1 })).active
    else c

/-- The binding as the list has it now. -/
def Chip.again (c : Chip) (b : Bind) : Bind := (c.bind? b.port b.route b.iface).getD b

/-- Close the binding's open record (R211). -/
def Chip.closeBindRec (c : Chip) (b : Bind) (rflags : Nat) (discard : Bool) : Chip :=
  let c := c.closeRec b.stream b.key rflags
  let c := c.updBind b (fun x => { x with discard := discard, lastByte := none })
  (c.updSvcBody b (fun x => { x with state := if discard then 3 else 1, fill := 0 })).active

/-- RFLAGS (R210). -/
def rfTRUNC : Nat := 1
def rfUNMAPPED : Nat := 2
def rfNO_TERM : Nat := 4
def rfROLLOVER : Nat := 16

/-- A byte completes a terminator: one of the used TERM bytes, or with SEQ2 the pair (R211). -/
def terminates (ctl term : Word) (last : Option Byte) (ch : Byte) : Bool :=
  let t (k : Nat) : Byte := (term >>> (8 * k)).setWidth 8
  if fget ctl F.SVC_PROF_CTL_SEQ2 = 1 then t 0 != 0#8 && t 1 != 0#8 && last == some (t 0) && ch == t 1
  else ch != 0#8 && (ch == t 0 || ch == t 1 || ch == t 2 || ch == t 3)

/-- Append bytes to the open record, or close it as CULLET at a full queue (R120, R203). -/
def Chip.appendRec (c : Chip) (b : Bind) (f : List Byte → List Byte) : Chip :=
  match c.bindStream b, c.openOf b with
  | some s, some r =>
    let r' := { r with data := f r.data }
    if s.depth < s.fill - r.size + r'.size then
      let c := c.culletRecs pfOVERRUN (fun x => x.owner == b.key)
      let c := (c.updStrm s.id (fun s => { s with overrun := s.overrun + 1 })).evOverrun s 0 (r'.data.length - r.data.length)
      c.updSvcBody b (fun x => { x with state := 1, fill := 0 })
    else
      let c := c.updRec s.id b.key (fun _ => r')
      c.updSvcBody b (fun x => { x with fill := r'.data.length })
  | _, _ => c

/-- One data byte of a binding under its framing (R211): while discarding, up to the next terminator. -/
def Chip.feed (c : Chip) (b0 : Bind) (ch : Byte) : Chip :=
  let b := c.again b0
  let c := c.updBind b (fun x => { x with lastData := c.clk.now })
  if b.discard then
    if fget b.ctl F.SVC_PROF_CTL_MODE ≠ 1 ∧ terminates b.ctl b.term b.lastByte ch then
      (c.updBind b (fun x => { x with discard := false, lastByte := none })).updSvcBody b (fun x => { x with state := 1 })
    else c.updBind b (fun x => { x with lastByte := some ch })
  else
    let c := if (c.openOf b).isNone then c.openBindRec b else c
    if (c.openOf b).isNone then c
    else
      let b := c.again b
      let mode := fget b.ctl F.SVC_PROF_CTL_MODE
      let max_ := max 1 (fget b.ctl F.SVC_PROF_CTL_MAX_LEN)
      let keep : Bool := fget b.ctl F.SVC_PROF_CTL_TERM_KEEP == 1
      let pair : Bool := fget b.ctl F.SVC_PROF_CTL_SEQ2 == 1
      if mode = 0 ∧ terminates b.ctl b.term b.lastByte ch then
        let c := if keep then c.appendRec b (fun l => l ++ [ch])
          else if pair then c.appendRec b (fun l => l.dropLast) else c
        if (c.openOf b).isSome then c.closeBindRec b 0 false else c
      else
        let c := (c.appendRec b (fun l => l ++ [ch])).updBind b (fun x => { x with lastByte := some ch })
        match c.openOf b with
        | none => c
        | some r =>
          if r.data.length < max_ then c
          else if mode = 1 then c.closeBindRec b 0 false
          else c.closeBindRec b rfTRUNC true

/-- RFLAGS set in the open record. -/
def Chip.flagRec (c : Chip) (b : Bind) (rflags : Nat) : Chip :=
  c.updRec b.stream b.key (fun r => { r with hdr := { r.hdr with rflags := r.hdr.rflags ||| rflags } })

/-- GAP_MS without data (R211): the open record closes with NO_TERM; not in MODE length, and not with GAP_MS 0. -/
def execGapMsExpiry (n : Port) (route : BitVec 20) (iface : Nat) (s : State) : Host.Outcome State Fault Refusal :=
  s.runS fun c =>
    match c.bind? n route iface with
    | none => c
    | some b =>
      let gap := fget b.ctl F.SVC_PROF_CTL_GAP_MS
      if !c.basinUp n ∨ (c.openOf b).isNone ∨ gap = 0 ∨ fget b.ctl F.SVC_PROF_CTL_MODE = 1 ∨ c.clk.now < b.lastData + ms gap then c
      else c.closeBindRec b rfNO_TERM false

/-! ### The keyboard wedge (R212) -/

/-- The layer of a modifier byte. -/
def hidLayer (m : Byte) : Nat := bitOf (m.getLsbD 1 || m.getLsbD 5) + 2 * bitOf (m.getLsbD 6)

/-- One key-down. -/
def Chip.keyDown (c : Chip) (b0 : Bind) (layer : Nat) (usage : Byte) : Chip :=
  let b := c.again b0
  let c := if !b.discard && (c.openOf b).isNone then c.openBindRec b else c
  let b := c.again b
  let ch := if usage.toNat ≤ 0x7F then b.keys.getD (128 * layer + usage.toNat) 0#8 else 0#8
  if ch = 0#8 then
    let c := c.updBind b (fun x => { x with lastData := c.clk.now })
    c.flagRec b rfUNMAPPED
  else c.feed b ch

/-- A boot report (R212). -/
def execHidReport (n : Port) (route : BitVec 20) (iface : Nat) (report : List Byte) (s : State) :
    Host.Outcome State Fault Refusal :=
  s.runS fun c =>
    match c.bound? n route iface kHID with
    | none => c
    | some b =>
      let rep := bytesAt report 0 8
      let slots := rep.drop 2
      if slots.all (fun k => k == 1#8) then
        let c := c.flagRec b rfROLLOVER
        c.postRateR (.owner b.door) (sec 1) (n.val + 128 * route.toNat + 134217728 * iface)
          (c.evSvc 0x0805 n route [iface])
      else
        let old := b.prev.drop 2
        let downs := slots.filter (fun k => k != 0#8 && !old.contains k)
        let c := c.each downs (fun c k => c.keyDown b (hidLayer (rep.headD 0#8)) k)
        c.updBind b (fun x => { x with prev := rep })

/-! ### CDC-ACM (R214) -/

/-- Bulk IN data, framed under R211. -/
def execCdcBulkIn (n : Port) (route : BitVec 20) (iface : Nat) (data : List Byte) (s : State) :
    Host.Outcome State Fault Refusal :=
  s.runS fun c =>
    match c.bound? n route iface kCDC with
    | none => c
    | some b => c.each data (fun c ch => c.feed b ch)

/-- A SERIAL_STATE notification. -/
def execSerialState (n : Port) (route : BitVec 20) (iface : Nat) (st : BitVec 16) (s : State) :
    Host.Outcome State Fault Refusal :=
  s.runS fun c =>
    match c.bound? n route iface kCDC with
    | none => c
    | some b => c.postOwn b.door (c.evSvc 0x0804 n route [st.toNat])

/-! ### Printers (R215 to R217) -/

/-- Start the next job of a printer whose header has arrived: JOB_ID and LENGTH, EVENT 0x01; an empty job ends at once. -/
def Chip.jobStart (c : Chip) (b : Bind) : Chip :=
  match c.bindOut b with
  | none => c
  | some o =>
    if b.jobLen ≠ 0 ∨ o.waiting < 8 then c
    else
      let h := o.inbound.flatten
      let len := leAt h 4 4
      let c := c.updStrm o.id (fun s => { s with inbound := eatBytes 8 s.inbound })
      let b' := { b with jobId := leAt h 0 4, jobLen := len, jobAcked := 0 }
      let c := c.updBind b (fun _ => b')
      let c := c.updSvcBody b (fun x => { x with job := len, state := if len = 0 then 1 else 4 })
      let c := c.printerRec { b' with jobLen := 1 } 1 []
      if len = 0 then c.printerRec { b' with jobLen := 1 } 2 [] else c

/-- The bulk OUT endpoint that a printer's job goes to. -/
def Chip.jobEp (c : Chip) (d : Dev) (b : Bind) : Option (Nat × EpBody) :=
  (c.epsOf d.cid (fun e => e.iface == b.iface && e.xfer == 2 && e.active && !e.ep.getLsbD 7)).head?

/-- PRINTER_JOB (R215, R217): a waiting job starts; with `acked` bytes acknowledged it runs on as bulk OUT transactions of its
endpoint, unless that is halted or stopped (R186, R191). -/
def execPrinterJob (n : Port) (route : BitVec 20) (iface : Nat) (acked : Nat) (s : State) :
    Host.Outcome State Fault Refusal :=
  s.runS fun c =>
    match c.bound? n route iface kPRINTER, c.dev? n route with
    | some b0, some d =>
      let c := c.jobStart b0
      let b := c.again b0
      match c.jobEp d b, c.bindOut b with
      | some x, some o =>
        let k := min acked (min (c.svcBody b).job o.waiting)
        if b.jobLen = 0 ∨ k = 0 ∨ x.2.mps = 0 ∨ !c.sofRuns n ∨ c.root n ≠ rsACTIVE ∨ !c.epOpen n d x.2 then c
        else
          let odd : Bool := (k + x.2.mps - 1) / x.2.mps % 2 == 1
          (c.epMoved n d x k odd (k == (c.svcBody b).job)).jobMoved b k
      | _, _ => c
    | _, _ => c

/-- PRINTER_STATUS_POLL (R216, R217): GET_PORT_STATUS every 100 ms, a record at each change. -/
def execPrinterStatusPoll (n : Port) (route : BitVec 20) (iface : Nat) (pstat : Byte) (s : State) :
    Host.Outcome State Fault Refusal :=
  s.runS fun c =>
    match c.bound? n route iface kPRINTER with
    | none => c
    | some b =>
      let now := c.clk.now
      if now < b.pollAt ∨ !c.sofRuns n ∨ c.root n ≠ rsACTIVE then c
      else (c.updBind b (fun x => { x with pollAt := now + ms 100 })).printerStatus b pstat

/-! ### RAW (R218) -/

/-- The IN endpoints in force of an interface. -/
def Chip.inEps (c : Chip) (d : Dev) (iface : Nat) : List EpBody :=
  (c.epsOf d.cid (fun e => e.iface == iface && e.active && e.ep.getLsbD 7)).map (·.2)

/-- The IN endpoint of a RAW binding's interface whose ended transfer was stamped first (R210), and that transfer. -/
def Chip.rawRun (c : Chip) (n : Port) (d : Dev) (iface : Nat) : Option (EpRun × XferStamp × Bool) :=
  let mine := (c.inEps d iface).map (·.ep)
  (c.ports[n]).drop.runs.foldl (fun a r =>
    if r.route = d.route && mine.contains r.ep then
      (match r.ended, a with
       | [], _ => a
       | x :: _, none => some (r, x)
       | x :: _, some y => if x.1.time.toNat < y.2.1.time.toNat then some (r, x) else a)
    else a) none

/-- A completed IN transfer, or an isochronous service interval: one record, stamped at the transfer's first transaction (R210,
R221), of the transfer up to MAX_LEN, of the whole interval (R218); a failed interval has no data and ISO_ERR (R190). -/
def execRawTransfer (n : Port) (route : BitVec 20) (iface : Nat) (data : List Byte) (isoErr : Bool) (s : State) :
    Host.Outcome State Fault Refusal :=
  s.runS fun c =>
    match c.bound? n route iface kRAW with
    | none => c
    | some b =>
      match c.bindStream b with
      | none => c
      | some t =>
        let len := c.getPos (.SVC_PROF_CTL b.prof) F.SVC_PROF_CTL_MAX_LEN
        let run := (c.dev? n route).bind (fun d => c.rawRun n d iface)
        let st := (run.map (·.2.1)).getD c.stampNow
        let isoErr := isoErr || run.any (·.2.2)
        let iso : Bool := (c.dev? n route).any (fun d =>
          (c.inEps d iface).any (fun e => e.xfer == 1 && run.all (fun r => r.1.ep == e.ep)))
        let c := match run with
          | none => c
          | some r => c.putRun n { r.1 with ended := r.1.ended.tail }
        let h := (c.recHdr n st.time kRAW 0 iface route.toNat (bindRef b.cid b.gen)).stamped st.pos
        let h := { h with rflags := if st.degraded then 8 else 0 }
        let r := c.putRec t (parisonSrc n route) h (if isoErr then [] else if iso then data.take 4096 else data.take len)
          (if isoErr then pfISO_ERR else 0)
        if r.1 then r.2.updSvcBody b (fun x => { x with rseq := x.rseq + 1 }) else r.2

end Sys2Proof.Machine
end

