-- ==== Sys2Proof/Machine/Trunk.lean ====
section
/-! DEFINITION. The meanings of the trunk's commands (05): frames received and sent, lanes, swaps, Tarn mode, PTP, and the
door opcodes 0x0140 to 0x0143. -/

namespace Sys2Proof.Machine

/-! ### Receiving (R107, R111, R115, R122) -/

/-- A valid TTP frame tells the lane its destination (R107). -/
def Chip.learn (c : Chip) (l : LaneId) (f : RxFrame) : Chip :=
  (c.updLane l (fun x => { x with dest := some f.src })).flushWaiting l

/-- The payload of a WAKE frame is TRK_WAKE_KEY (R122). -/
def Chip.wakeKey (c : Chip) (f : RxFrame) : Bool :=
  f.length == 4#16 && 4 ≤ f.payload.length && leAt f.payload 0 4 == (c.rd .TRK_WAKE_KEY).toNat

/-- A frame in Sleep (R122, R312): the matcher wakes the device on a WAKE frame for its own address; REGWIN frames are counted. -/
def Chip.frameAsleep (c : Chip) (l : LaneId) (f : RxFrame) : Chip :=
  let ours : Bool := f.toUs && f.etherType == (c.trunk.lanes[l]).etherType && f.ver == 1#8
  if ours && f.dst == Config.mac && f.typ.toNat == ttWAKE && c.wakeKey f && c.bit .PWR_WAKE_EN F.PWR_WAKE_EN_TRUNK_WAKE then c.wakeCross 4 l.val
  else if ours && f.typ.toNat == ttREGWIN then c.frameErr l
  else c

/-- A CRC-32C failure on a lane: counted, and its moment kept for the window of 1 ms (R111, R115). -/
def Chip.crcFail (c : Chip) (l : LaneId) : Chip :=
  let now := c.clk.now
  let c := c.incSat (.TRK_ERR l) F.TRK_ERR_CRC_ERR
  c.updLane l (fun x => { x with crcAt := (now :: x.crcAt.filter (fun t => now < t + ms 1)).take 16 })

/-- A frame in Run or Idle: the checks of R111 in their order, the lane rule of PAIR (R115), then its sequence space. A STREAM,
MBX_REQ or REGWIN frame ends the quiet interval (R330). -/
def Chip.frameAwake (c : Chip) (l : LaneId) (f : RxFrame) : Chip :=
  let t := f.typ.toNat
  if !f.fcsOk || !f.toUs || f.etherType != (c.trunk.lanes[l]).etherType || f.ver != 1#8 || t = 0 || ttWAKE < t then c.frameErr l
  else if c.payloadMax < f.length.toNat || f.payload.length < f.length.toNat then c.frameErr l
  else if !f.crcOk then c.crcFail l
  else if !rxFits f l then c.frameErr l
  else
    let c := c.learn l f
    let c := if t = ttMBX_REQ || t = ttSTREAM || t = ttREGWIN then c.active else c
    if t = ttLANE then c.deliver [(l, f)]
    else if c.offActive l then c.frameErr l
    else if t = ttWAKE then c.deliver [(l, f)]
    else c.takeFrame l f

/-- TTP_FRAME_RECEIVE. A message of EtherType 0x88F7 is PTP and no TTP frame: its FCS and its destination are checked as every
frame's are (R107, R111). Frames with an 802.1Q tag, of any VLAN, and without one are taken alike (DESIGN CHOICE, log entry 177). -/
def execTtpFrameReceive (l : LaneId) (f : RxFrame) (s : State) : Host.Outcome State Fault Refusal :=
  s.run fun c =>
    if !c.up l then c
    else if f.etherType == 0x88F7#16 then (if c.awake && (!f.fcsOk || !f.toUs) then c.frameErr l else c)
    else if c.pwr.st = .sleep then c.frameAsleep l f
    else if c.awake then c.frameAwake l f
    else c

/-- MBX_REQ_RECEIVE: the door logic takes the next delivered request of a door (R133); `crcOk` is the check of R341. -/
def execMbxReqReceive (d : Door) (crcOk : Bool) (s : State) : Host.Outcome State Fault Refusal :=
  s.runS fun c =>
    match (if c.awake then c.takeDelivered (fun _ f => f.typ.toNat == ttMBX_REQ && f.id.toNat == d.val) else none) with
    | none => c
    | some ((_, f), c) => if crcOk then c.accept d .trunk (parseRequest f.payload) (some f.epoch) else c.crcInternal f

/-- A STREAM frame of an open stream (R112, R121): its epoch, the credit, then its bytes. -/
def Chip.streamIn (c : Chip) (st : Strm) (f : RxFrame) : Chip :=
  let cur := (c.ports[st.port]).epoch
  let len := f.length.toNat
  let total := BitVec.ofNat 32 (st.received + len)
  if f.epoch ≠ cur then
    (c.cullDev 2 rROLE_CHANGED f.epoch cur f.payload).postOwn (some st.door)
      ((c.ev 0x014D 1 st.port.val [st.id.toNat, rROLE_CHANGED]).withResult rROLE_CHANGED)
  else if serial total st.credit == .ahead then c.evOverrun st 1 len
  else
    (c.updStrm st.id (fun x =>
      Strm.arrive { x with received := x.received + len } (f.payload.take len))).active

/-- A stream's basin is in reset: the trunk side of its crossings stops (R75). -/
def Chip.strmStopped (c : Chip) (id : BitVec 16) : Bool := (c.strm? id).any (fun st => (c.basins[basinOf st.port]).inReset)

/-- STREAM_FRAME_RECEIVE: a frame of a stream that is not open is ignored; in Tarn mode streams receive no data (R125), and while the
basin of the stream's port is in reset the frame waits (R75). -/
def execStreamFrameReceive (id : BitVec 16) (crcOk : Bool) (s : State) : Host.Outcome State Fault Refusal :=
  s.run fun c =>
    match (if c.awake && !c.inTarn && !c.strmStopped id then c.takeDelivered (fun _ f => f.typ.toNat == ttSTREAM && f.id == id) else none) with
    | none => c
    | some ((_, f), c) =>
      if !crcOk then c.crcInternal f
      else match c.strm? id with
        | none => c
        | some st => c.streamIn st f

/-- The next delivered LANE frame of a SUB on a lane. -/
def Chip.takeLane (c : Chip) (l : LaneId) (sub : Nat) : Option ((LaneId × RxFrame) × Chip) :=
  if c.awake then c.takeDelivered (fun x f => x == l && f.typ.toNat == ttLANE && leAt f.payload 0 1 == sub) else none

/-- What the device answers to a SWAP_REQ for a lane (R118, R119). -/
def Chip.swapVerdict (c : Chip) (lane : Nat) : Nat :=
  if !c.pair then 3
  else if c.trunk.failover.isSome || c.inTarn then 2
  else if lane < 2 && c.up (Fin.ofNat 2 lane) then 0
  else 1

/-- SWAP_DONE (0x0143): the active lane and a STATUS. -/
def Chip.swapDone (c : Chip) (st : Nat) : Chip := c.post (c.evLane 0x0143 c.active? [c.active?.val, st])

/-- SWAP_REQ_RECEIVE (R119): in PENDING the device's own request is withdrawn. In Tarn mode no LANE frame but ECHO is sent (R125), and
on a lane that is down none (R116): there the request goes unanswered (log entry 175). -/
def execSwapReqReceive (l : LaneId) (s : State) : Host.Outcome State Fault Refusal :=
  s.run fun c =>
    match c.takeLane l lfSWAP_REQ with
    | none => c
    | some ((_, f), c) =>
      let lane := leAt f.payload 1 1
      if c.inTarn || !c.up l then c
      else
      let v := c.swapVerdict lane
      let pend := c.trunk.swap.isSome
      let c := if v = 0 ∧ pend then c.dropSwap else c
      let c := (c.sendLane l lfSWAP_ACK l.val v f.seq 0#64).2
      if v ≠ 0 then c
      else
        let c := c.swapRoles (Fin.ofNat 2 lane)
        (if pend then c.post (c.evLane 0x0144 (Fin.ofNat 2 lane) [lane]) else c.swapDone 0).swapDegraded

/-- SWAP_ACK_RECEIVE (R119): only an answer to the pending request counts. -/
def execSwapAckReceive (l : LaneId) (s : State) : Host.Outcome State Fault Refusal :=
  s.run fun c =>
    match c.takeLane l lfSWAP_ACK with
    | none => c
    | some ((_, f), c) =>
      match c.trunk.swap with
      | none => c
      | some w =>
        let st := leAt f.payload 2 1
        if leAt f.payload 4 4 ≠ w.seq.toNat then c
        else
          let c := c.endSwap
          let c := if st = 0 then c.swapRoles w.lane else c
          let c := (c.swapDone st).answerOpt w.req (if st = 0 then rOK else rBAD_ARG)
          if st = 0 then c.swapDegraded else c

/-- ECHO_REPLY_RECEIVE (R115, R118, R127): the round trip; on an up lane it ends Tarn mode. -/
def execEchoReplyReceive (l : LaneId) (s : State) : Host.Outcome State Fault Refusal :=
  s.run fun c =>
    match c.takeLane l lfECHO_REPLY with
    | none => c
    | some ((_, f), c) =>
      let rtt := (c.sei.time - BitVec.ofNat 64 (leAt f.payload 8 8)).toNat
      let c := c.updLane l (fun x => { x with rtt := rtt })
      let c := if c.get .TRK_CFG2 F.TRK_CFG2_LAT_WARN < rtt then c.degradeLane l 2 else c
      if c.inTarn && c.up l then c.leaveTarn l else c

/-- WAKE_FRAME_RECEIVE in Run (R122). -/
def execWakeFrameReceive (l : LaneId) (s : State) : Host.Outcome State Fault Refusal :=
  s.run fun c =>
    match (if c.awake then c.takeDelivered (fun x f => x == l && f.typ.toNat == ttWAKE) else none) with
    | none => c
    | some ((_, f), c) => if c.wakeKey f then c.sendWakeAck l else c.frameErr l

/-! ### PTP (R123, R124) -/

/-- A PTP message goes out on a lane. -/
def Chip.sendPtp (c : Chip) (l : LaneId) (m : List Byte) : Chip :=
  c.emit l { typ := 0, id := l.val, seq := 0#32, epoch := 0#16, flags := 0, length := m.length, body := .bytes m }

/-- A lane's PTP port sends: enabled, the lane up, the device in Run or Idle, no Tarn mode (R123, R125). -/
def Chip.ptpOn (c : Chip) (l : LaneId) : Bool :=
  c.bit .PTP_CTL F.PTP_CTL_PTP_EN && c.up l && c.awake && !c.inTarn && c.pwr.entry.isNone && c.sei.running

def Chip.ptpDomain (c : Chip) : Nat := c.get .PTP_CTL F.PTP_CTL_DOMAIN

/-- SYNC_LOG as the byte logMessageInterval, and the interval in ticks: 2^SYNC_LOG s, SYNC_LOG -4 to 0 (R123). -/
def Chip.syncLog (c : Chip) : Nat :=
  let v := c.get .PTP_CTL F.PTP_CTL_SYNC_LOG
  if v < 8 then v else v + 240
def Chip.syncSpan (c : Chip) : Nat := sec 1 / 2 ^ ((256 - c.syncLog) % 256)

/-- A message of an interval is due: the first at once, the next an interval after the last (DESIGN CHOICE, log entry 178). -/
def Chip.ptpDue (c : Chip) (last : Option Nat) (span : Nat) : Bool := last.all (fun t => t + span ≤ c.clk.now)

/-- PTP_SYNC_SEND, at each Sync interval: Sync with twoStepFlag, and Follow_Up with the timestamp (R123, R124); PTP resumes with the
first Sync after a return to Run (R124). -/
def execPtpSyncSend (l : LaneId) (s : State) : Host.Outcome State Fault Refusal :=
  s.run fun c =>
    if !c.ptpOn l || !c.ptpDue (c.trunk.lanes[l]).syncAt c.syncSpan then c
    else
      let now := c.clk.now
      let seq := (c.trunk.lanes[l]).syncSeq
      let t := c.sei.time + BitVec.ofNat 64 (c.get (.PTP_LAT l) F.PTP_LAT_TX_ADJ)
      let c := c.updTrunk (fun x => { x with ptpPaused := false })
      let c := c.sendPtp l (ptpMsg pkSYNC c.ptpDomain l 0x0200 0 seq c.syncLog (List.replicate 10 0#8))
      let c := c.sendPtp l (ptpMsg pkFOLLOW_UP c.ptpDomain l 0 (ptpRest t) seq c.syncLog (ptpStamp t))
      c.updLane l (fun x => { x with syncSeq := x.syncSeq + 1, syncAt := some now })

/-- The body of an Announce (R123, table *Announce values*): originTimestamp 0, currentUtcOffset 0, priority 1, clock quality,
priority 2, grandmasterIdentity, stepsRemoved, timeSource. -/
def announceBody (prio1 : Nat) : List Byte :=
  List.replicate 10 0#8 ++ beBytes 2 0 ++ [0#8] ++ beBytes 1 prio1 ++ beBytes 1 248 ++ beBytes 1 0xFE ++ beBytes 2 0xFFFF ++
    beBytes 1 128 ++ beBytes 8 clockIdentity.toNat ++ beBytes 2 0 ++ beBytes 1 0xA0

/-- The flags of an Announce: ptpTimescale, currentUtcOffsetValid and timeTraceable FALSE, frequencyTraceable (bit 5) while REF_IN is
qualified. -/
def Chip.announceFlags (c : Chip) : Nat := 32 * c.get .CLK_STATUS F.CLK_STATUS_REF_QUAL

/-- PTP_ANNOUNCE_SEND, at each Announce interval of 2^ANN_LOG s. -/
def execPtpAnnounceSend (l : LaneId) (s : State) : Host.Outcome State Fault Refusal :=
  s.run fun c =>
    let log := c.get .PTP_CTL F.PTP_CTL_ANN_LOG
    if !c.ptpOn l || c.trunk.ptpPaused || !c.ptpDue (c.trunk.lanes[l]).annAt (sec 1 * 2 ^ log) then c
    else
      let now := c.clk.now
      let seq := (c.trunk.lanes[l]).annSeq
      let c := c.sendPtp l (ptpMsg pkANNOUNCE c.ptpDomain l c.announceFlags 0 seq log
        (announceBody (c.get .PTP_CTL F.PTP_CTL_PRIORITY1)))
      c.updLane l (fun x => { x with annSeq := x.annSeq + 1, annAt := some now })

/-- PTP_DELAY_REQ_RECEIVE (R123): a Delay_Resp, up to 1,024 per second on a port. -/
def execPtpDelayReqReceive (l : LaneId) (req : DelayReq) (seq : BitVec 16) (domain : Byte) (s : State) :
    Host.Outcome State Fault Refusal :=
  s.run fun c =>
    if !c.ptpOn l || c.trunk.ptpPaused || domain.toNat != c.ptpDomain then c
    else
      let now := c.clk.now
      let c := if (c.trunk.lanes[l]).delayFrom + sec 1 ≤ now then
          c.updLane l (fun x => { x with delayFrom := now, delayReqs := 0 })
        else c
      if 1024 ≤ (c.trunk.lanes[l]).delayReqs then c.updLane l (fun x => { x with delayDropped := x.delayDropped + 1 })
      else
        let t := c.sei.time - BitVec.ofNat 64 (c.get (.PTP_LAT l) F.PTP_LAT_RX_ADJ)
        let c := c.updLane l (fun x => { x with delayReqs := x.delayReqs + 1 })
        c.sendPtp l (ptpMsg pkDELAY_RESP c.ptpDomain l 0 (req.corr.toNat + ptpRest t) seq Config.delayRespLog.toNat
          (ptpStamp t ++ beBytes 10 req.port.toNat))

/-- PTP_ANNOUNCE_RECEIVE (R123): one from another source is discarded and reported at most once per second. -/
def execPtpAnnounceReceive (l : LaneId) (clockId : BitVec 64) (s : State) : Host.Outcome State Fault Refusal :=
  s.run fun c =>
    if !c.up l || !c.awake || clockId = clockIdentity then c
    else c.postRate (sec 1) 0 (c.evLane 0x014B l [l.val, clockId.toNat])

/-- ECHO_SEND (R118): on each up lane at T mod 1,600,000 = 0. -/
def execEchoSend (s : State) : Host.Outcome State Fault Refusal :=
  s.run fun c =>
    if !c.awake || !c.sei.running || c.sei.time.toNat % 1600000 ≠ 0 then c
    else c.each ((List.finRange 2).filter (fun l => c.up l)) (fun c l => (c.sendLane l lfECHO l.val 0 0#32 c.sei.time).2)

/-! ### Lanes (R108, R109, R115 to R117) -/

/-- A lane is up (R108). A lost lane waits 100 ms with the other lane up (R117); in Tarn mode an answered ECHO follows (R127); after
Deep sleep the spill area is replayed on it (R336). In PAIR the active lane stays the one that PREF_ACTIVE named at the release
(R115). -/
def Chip.laneUp (c : Chip) (l : LaneId) : Chip :=
  let o := otherLane l
  let now := c.clk.now
  let c := (c.setUp l true).updLane l (fun x =>
    { x with lost := false, backAt := if c.up o && x.lost then some (now + ms 100) else none })
  if c.inTarn || c.up o then c.syncTrunk.swapDegraded
  else
    let replay : Bool := c.trunk.laneBy.isSome && !(c.trunk.spill.isEmpty && c.trunk.gaps.isEmpty)
    let c := c.updTrunk (fun t => { t with laneBy := none, replay := if replay then some l else t.replay })
    c.syncTrunk

/-- LANE_UP: only a released lane outside lane-scope reset comes up; in Deep sleep and Off the lanes are down, and without PLLs the
lanes have no clock (R65). -/
def execLaneUp (l : LaneId) (s : State) : Host.Outcome State Fault Refusal :=
  s.run fun c =>
    if c.up l || !c.laneEn l || (c.trunk.lanes[l]).held || c.noPll || c.pwr.st == .deep || c.pwr.st == .off then c
    else c.laneUp l

/-- The order of the causes of LANE_DOWN. -/
def lossCode : LossCause → Nat
  | .signal => 0
  | .blockLock => 1
  | .fec => 2
  | .remoteFault => 3

/-- LANE_LOSS_DECLARED (R109, R116, R125). -/
def execLaneLossDeclared (l : LaneId) (cause : LossCause) (s : State) : Host.Outcome State Fault Refusal :=
  s.run fun c => c.loseLane l (lossCode cause) none

/-- FAILOVER_COMPLETE (R116): the lost lane's history of 12 µs on the survivor with REPLAY; without a destination there these frames
wait for one, ahead of those that wait already (R107). -/
def execFailoverComplete (s : State) : Host.Outcome State Fault Refusal :=
  s.run fun c =>
    match c.trunk.failover with
    | none => c
    | some (l, at_) =>
      let o := otherLane l
      let h := ((c.trunk.lanes[l]).hist.filter (fun x => at_ < x.1 + us 12 && 1 ≤ x.2.typ && ttpClass x.2.typ ≤ 3)).map (·.2)
      let again := h.reverse.map (fun f => { f with flags := f.flags ||| tfREPLAY })
      let c := c.updTrunk (fun t => { t with failover := none })
      if !c.up o then c
      else
        let c := if c.hasDest o then c.each again (fun c f => c.emit o f)
          else c.updLane o (fun x => { x with waiting := again ++ x.waiting })
        let c := c.updLane l (fun x => { x with hist := [] })
        c.post (c.evLane 0x0142 l [l.val, c.clk.now - at_])

/-- LANE_BACK_TIMER (R117). -/
def execLaneBackTimer (l : LaneId) (s : State) : Host.Outcome State Fault Refusal :=
  s.run fun c =>
    if c.awake && !c.inTarn && (c.trunk.lanes[l]).backAt.any (· ≤ c.clk.now) then
      let c := c.updLane l (fun x => { x with backAt := none })
      let c := c.each ((List.finRange 2).filter (fun x => c.up x)) (fun c x => (c.sendLane x lfLANE_BACK l.val 0 0#32 0#64).2)
      (c.post (c.evLane 0x0141 l [l.val])).swapDegraded
    else c

/-- LANE_DEGRADED_WINDOW (R115): 16 CRC-32C failures in the 1 ms window that ended `late` ticks ago, or an uncorrectable
codeword in it. -/
def execLaneDegradedWindow (l : LaneId) (late : Nat) (fecUncorrectable : Bool) (s : State) : Host.Outcome State Fault Refusal :=
  s.run fun c =>
    if !c.up l || !c.awake then c
    else if 16 ≤ ((c.trunk.lanes[l]).crcAt.filter (fun t => t + late ≤ c.clk.now ∧ c.clk.now < t + late + ms 1)).length then c.degradeLane l 0
    else if fecUncorrectable then c.degradeLane l 1
    else c

/-- LANE_HEALTHY (R115): 1 s without a condition. -/
def execLaneHealthy (l : LaneId) (s : State) : Host.Outcome State Fault Refusal :=
  s.run fun c =>
    if (c.trunk.lanes[l]).healthyAt.any (· ≤ c.clk.now) then
      (c.setDegr l false).updLane l (fun x => { x with healthyAt := none })
    else c

/-- SWAP_TIMER_EXPIRY (R119). -/
def execSwapTimerExpiry (s : State) : Host.Outcome State Fault Refusal :=
  s.run fun c =>
    match c.trunk.swap with
    | none => c
    | some w => if c.clk.now < w.deadline then c else (c.dropSwap).post (c.evLane 0x014C w.lane [w.lane.val])

/-- REORDER_HOLD_EXPIRY (R114). -/
def execReorderHoldExpiry (cls : Nat) (id : BitVec 16) (s : State) : Host.Outcome State Fault Refusal :=
  s.run fun c =>
    let hold := us (c.get .TRK_CFG2 F.TRK_CFG2_REORDER_HOLD)
    match c.trunk.rx.find? (fun x => x.cls == cls && x.id == id.toNat) with
    | none => c
    | some x => if x.oldest.any (fun t => t + hold ≤ c.clk.now) then c.skipRx cls id.toNat else c

/-! ### Sending (R110, R112, R120, R121, R126, R127) -/

/-- TARN_EXIT's payload: milliseconds, frames spilled, frames discarded. -/
def Chip.exitFields (c : Chip) (x : BitVec 64 × BitVec 64) : List Nat :=
  [(x.2 - x.1).toNat / 1600000, c.trunk.spilled, c.get .TRK_SPILL F.TRK_SPILL_DROP]

/-- SPILL_REPLAY_END (R127 steps 2 to 5, R336): the spill area has been sent with REPLAY. -/
def execSpillReplayEnd (s : State) : Host.Outcome State Fault Refusal :=
  s.run fun c =>
    match c.trunk.replay with
    | none => c
    | some l =>
      if !c.awake || !c.hasDest l then c
      else
        let sp := c.trunk.spill
        let gaps := c.trunk.gaps
        let isl := c.trunk.island
        let fields := isl.map c.exitFields
        let c := c.each sp (fun c f => c.emit l { f with flags := f.flags ||| tfREPLAY })
        let c := c.updTrunk (fun t =>
          { t with spill := [], gaps := [], replay := none, island := none, spillClosed := false })
        let c := c.syncSpill
        let c := c.each gaps (fun c g => c.post (c.ev 0x0148 0 0 [g.cls, g.id, g.first.toNat, g.last.toNat]))
        match isl, fields with
        | some x, some p =>
          c.each (List.finRange 8) (fun c d => c.postR (.door d) { c.ev 0x0147 0 0 p with time := x.2 })
        | _, _ => c

/-- NO_LANE_AFTER_DEEP (R336): Tarn mode with cause 0x6. -/
def execNoLaneAfterDeep (s : State) : Host.Outcome State Fault Refusal :=
  s.run fun c =>
    if c.trunk.laneBy.any (· ≤ c.clk.now) && !c.up 0 && !c.up 1 then
      (c.updTrunk (fun t => { t with laneBy := none })).enterTarn 6
    else c

/-- EVENT_FRAME_SEND (R137, R138): up to 32 events that have not been sent; they stay in the ring. -/
def execEventFrameSend (d : Door) (s : State) : Host.Outcome State Fault Refusal :=
  s.run fun c =>
    let x := c.doors[d]
    let es := (x.evts.drop x.sent).take 32
    if x.path ≠ some .trunk ∨ es.isEmpty ∨ !c.canSend 1 d.val then c
    else
      let c := c.sendFrame ttEVENT d.val 0 x.epoch (32 * es.length) (.events es)
      c.updDoor d (fun x => { x with sent := x.sent + es.length })

/-- MBX_RSP_SEND (R136): one response, as many of its 64-byte parts as the payload takes; MORE where parts remain. During a handoff's
stall responses wait (R100). -/
def execMbxRspSend (d : Door) (s : State) : Host.Outcome State Fault Refusal :=
  s.run fun c =>
    let x := c.doors[d]
    let ps := oneResponse (c.payloadMax / 64) (x.rsps.filter (fun p => p.path == .trunk))
    if ps.isEmpty ∨ !c.canSend 0 d.val ∨ c.doorStall then c
    else
      let more := if ps.getLast?.any (fun p => p.part + 1 < p.parts) then tfMORE else 0
      let c := c.sendFrame ttMBX_RSP d.val more x.epoch (64 * ps.length) (.rsps ps)
      c.updDoor d (fun x => x.sendParts ps)

/-- Bytes of a record in a frame: its body padded to whole 8-byte words. -/
def Rec.wire (r : Rec) : Nat := r.size - 8

/-- The records a frame takes from the head of a queue, and the queue after: CULLET records are skipped, an OPEN one stops
(R202). -/
def takeClosed (limit : Nat) : Nat → List Rec → List Rec × List Rec
  | _, [] => ([], [])
  | used, r :: t =>
    match r.st with
    | .cullet => takeClosed limit used t
    | .opened => ([], r :: t)
    | .closed =>
      if used = 0 ∨ used + r.wire ≤ limit then
        let x := takeClosed limit (used + r.wire) t
        (r :: x.1, x.2)
      else ([], r :: t)

/-- Records in one frame, or one long record over several frames with MORE (R112). -/
def Chip.sendRecs (c : Chip) (st : Strm) (rs : List Rec) : Chip :=
  let total := rs.foldl (fun a r => a + r.wire) 0
  let limit := c.payloadMax
  let n := (total + limit - 1) / limit
  let epoch := (c.ports[st.port]).epoch
  c.each (List.range n) (fun c i =>
    let more := if i + 1 = n then 0 else tfMORE
    c.sendFrame ttSTREAM st.id.toNat more epoch (min limit (total - limit * i)) (.records rs (limit * i)))

/-- The credit of a host-to-device stream: the bytes consumed and what the part accepts ahead (R121). -/
def Strm.creditNow (st : Strm) : Word := BitVec.ofNat 32 (st.received - st.waiting + Config.streamWindow)

/-- The credit of an open stream has grown, and a frame is due that says so (R121). -/
def Strm.creditDue (st : Strm) : Bool := !st.closed && serial st.creditNow st.credit == .ahead

/-- New credit, where it has grown (R121). -/
def Chip.sendCredit (c : Chip) (st : Strm) : Chip :=
  let w := st.creditNow
  if !st.creditDue then c
  else
    let c := c.active
    let c := c.sendFrame ttSTREAM st.id.toNat tfCREDIT (c.ports[st.port]).epoch 4 (.bytes (leBytes 4 w.toNat))
    c.updStrm st.id (fun x => { x with credit := w })

/-- A door has a mailbox or event frame that can be sent on a lane now. -/
def Chip.doorDue (c : Chip) (l : LaneId) (d : Door) : Bool :=
  let x := c.doors[d]
  (x.path == some .trunk && (x.evts.drop x.sent) != [] && c.canSend 1 d.val && c.laneOf 1 d.val == some l) ||
    (x.rsps.any (fun p => p.path == .trunk) && !c.doorStall && c.canSend 0 d.val && c.laneOf 0 d.val == some l)

/-- Bytes of the records that a stream's next frame carries. -/
def Chip.recNeed (c : Chip) (st : Strm) : Nat := (takeClosed c.payloadMax 0 st.recs).1.foldl (fun a r => a + r.wire) 0

/-- Bytes that a stream's next frame carries: its records, else its new credit; 0 where neither is ready. -/
def Chip.strmNeed (c : Chip) (st : Strm) : Nat :=
  if c.recNeed st != 0 then c.recNeed st else if st.creditDue then 4 else 0

/-- The streams with a frame ready for a lane, in the order of their opening. -/
def Chip.strmsReady (c : Chip) (l : LaneId) : List Strm :=
  c.svc.streams.filter (fun s => c.strmNeed s != 0 && c.canSend 2 s.id.toNat && c.laneOf 2 s.id.toNat == some l)

/-- What a stream gains at each of its turns: the payload limit, once per unit of its weight (R120; DESIGN CHOICE, log entry
174). -/
def Chip.quantum (c : Chip) (st : Strm) : Nat := c.payloadMax * max 1 st.weight

/-- How many further turns a stream needs before its deficit covers its next frame. -/
def Chip.turnsNeeded (c : Chip) (st : Strm) : Nat := (c.strmNeed st - st.deficit + c.quantum st - 1) / c.quantum st

/-- The deficit round robin of a lane (R120): the ready streams in the order of their turns from now, the one whose turn it is last,
each with the number of turns it takes before it sends; the stream whose turn it is sends at once while its deficit lasts. -/
def Chip.rounds (c : Chip) (l : LaneId) : List (Strm × Nat) :=
  let r := c.strmsReady l
  let here (s : Strm) : Bool := some s.id == (c.trunk.lanes[l]).turn
  let ring := match r.findIdx? here with
    | none => r
    | some i => r.drop (i + 1) ++ r.take (i + 1)
  ring.map (fun s => (s, if here s && c.strmNeed s ≤ s.deficit then 0 else max 1 (c.turnsNeeded s)))

/-- The stream that the round robin of a lane sends next, with the round of its turn. -/
def Chip.nextStrm (c : Chip) (l : LaneId) : Option (Strm × Nat) :=
  let rs := c.rounds l
  match (rs.map (·.2)).min? with
  | none => none
  | some k => rs.find? (fun x => x.2 == k)

/-- The round robin gives a lane's turn to a stream in round `k`: the streams up to it have had `k` turns, those behind it one
less. -/
def Chip.takeTurn (c : Chip) (l : LaneId) (id : BitVec 16) (k : Nat) : Chip :=
  let rs := (c.rounds l).map (fun x => (x.1.id, c.quantum x.1))
  let i := rs.findIdx (fun x => x.1 == id)
  let c := c.each rs.zipIdx (fun c x =>
    c.updStrm x.1.1 (fun s => { s with deficit := s.deficit + (if x.2 ≤ i then k else k - 1) * x.1.2 }))
  c.updLane l (fun x => { x with turn := some id })

/-- A stream's next frame may go out now (R120): no mailbox or event frame waits for its lane, and the round robin has come to it.
Frames that spill take no lane. -/
def Chip.strmTurn (c : Chip) (id : BitVec 16) : Option (Option (LaneId × Nat)) :=
  if c.spills then some none
  else match c.laneOf 2 id.toNat with
    | none => none
    | some l =>
      if (List.finRange 8).any (fun d => c.doorDue l d) then none
      else match c.nextStrm l with
        | some (s, k) => if s.id = id then some (some (l, k)) else none
        | none => none

/-- A stream's next frame is sent, its records or else its new credit, and its deficit pays for it; an empty queue keeps none. -/
def Chip.sendStrm (c : Chip) (st : Strm) (turn : Option (LaneId × Nat)) : Chip :=
  let (out, rest) := takeClosed c.payloadMax 0 st.recs
  let need := c.strmNeed st
  let c := match turn with
    | none => c
    | some (l, k) => c.takeTurn l st.id k
  let c := if c.recNeed st = 0 then c.sendCredit st else (c.sendRecs st out).active
  c.updStrm st.id (fun x => Strm.weirNext
    { x with recs := rest, deficit := if turn.isNone ∨ rest.isEmpty then 0 else x.deficit - need })

/-- STREAM_FRAME_SEND: the stream's next frame in its turn: its records (R112, R120), else new credit (R121). CULLET records at the
head of the queue are skipped (R202). -/
def execStreamFrameSend (id : BitVec 16) (s : State) : Host.Outcome State Fault Refusal :=
  s.run fun c =>
    match c.svc.streams.find? (fun x => x.id == id) with
    | none => c
    | some st =>
      if !c.canSend 2 id.toNat then c
      else
        match (if c.strmNeed st = 0 then some none else c.strmTurn id) with
          | none => c
          | some turn => (c.sendStrm st turn).reapStreams

/-! ### Door opcodes -/

/-- TRUNK_STATUS. -/
def execTrunkStatus (q : ReqId) (s : State) : Host.Outcome State Fault Refusal :=
  s.run fun c => c.serve q 0x0140#16 [0, 4] fun _ c =>
    c.answer q rOK [(c.rd .TRK_STATUS).toNat, (c.rd .TRK_SPILL).toNat, (c.rd (.TRK_ERR 0)).toNat, (c.rd (.TRK_ERR 1)).toNat,
      (c.trunk.lanes[(0 : LaneId)]).rtt, (c.trunk.lanes[(1 : LaneId)]).rtt] 24

/-- PTP_SET: every value in its range, or BAD_ARG. -/
def execPtpSet (q : ReqId) (domain : Byte) (syncLog : Int) (annLog prio1 : Nat) (s : State) :
    Host.Outcome State Fault Refusal :=
  s.run fun c => c.serve q 0x0143#16 [0, 4] fun _ c =>
    if syncLog < -4 ∨ 0 < syncLog ∨ 3 < annLog ∨ 255 < prio1 then c.answer q rBAD_ARG
    else
      let w := fset (c.rd .PTP_CTL) F.PTP_CTL_DOMAIN domain.toNat
      let w := fset w F.PTP_CTL_SYNC_LOG ((syncLog + 16).toNat % 16)
      let w := fset (fset w F.PTP_CTL_ANN_LOG annLog) F.PTP_CTL_PRIORITY1 prio1
      (c.wr .PTP_CTL w).answer q rOK

/-- TRUNK_SWAP (R119): answered when the swap ends. Without PAIR or both lanes in service it is BAD_ARG; while a swap is pending it
is answered WAIT, a case the opcode table does not have (DESIGN CHOICE, log entry 175). -/
def execTrunkSwap (q : ReqId) (s : State) : Host.Outcome State Fault Refusal :=
  s.run fun c => c.serve q 0x0142#16 [0, 4] fun _ c =>
    if !c.swapOk then c.answer q rBAD_ARG
    else if c.trunk.swap.isSome then c.answer q rWAIT
    else c.askSwap (some q)

end Sys2Proof.Machine
end

