-- ==== Sys2Proof/Machine/Dispatch.lean ====
section
/-! DEFINITION. One arm per command: a direct call of its meaning. -/

namespace Sys2Proof.Machine

/-- The effect of a command on everything but the queue (block model). -/
def exec (i : Instr) (s : State) : Host.Outcome State Fault Refusal :=
  match i with
  | .vddAonPowerOn => Sys2Proof.Machine.execVddAonPowerOn s
  | .supplyMonitorTrip v => Sys2Proof.Machine.execSupplyMonitorTrip v s
  | .supplyRecovered v => Sys2Proof.Machine.execSupplyRecovered v s
  | .porstNLow => Sys2Proof.Machine.execPorstNLow s
  | .porstNRise straps => Sys2Proof.Machine.execPorstNRise straps s
  | .firmwareBoot locks cfg => Sys2Proof.Machine.execFirmwareBoot locks cfg s
  | .bootWatchdogExpiry => Sys2Proof.Machine.execBootWatchdogExpiry s
  | .bootOkWrite p v => Sys2Proof.Machine.execBootOkWrite p v s
  | .clkCtlPllEn p v => Sys2Proof.Machine.execClkCtlPllEn p v s
  | .clkCtlSysSel p v => Sys2Proof.Machine.execClkCtlSysSel p v s
  | .clkCtlRefEn p v => Sys2Proof.Machine.execClkCtlRefEn p v s
  | .pllLock g => Sys2Proof.Machine.execPllLock g s
  | .pllLockTimeout => Sys2Proof.Machine.execPllLockTimeout s
  | .refInQualified => Sys2Proof.Machine.execRefInQualified s
  | .refInLost => Sys2Proof.Machine.execRefInLost s
  | .crystalFailure => Sys2Proof.Machine.execCrystalFailure s
  | .crystalReturn => Sys2Proof.Machine.execCrystalReturn s
  | .pllRefSlewEnd => Sys2Proof.Machine.execPllRefSlewEnd s
  | .pllUnlock g => Sys2Proof.Machine.execPllUnlock g s
  | .pllRelock g => Sys2Proof.Machine.execPllRelock g s
  | .portReset n q => Sys2Proof.Machine.execPortReset n q s
  | .basinReset b q badCids imageOk => Sys2Proof.Machine.execBasinReset b q badCids imageOk s
  | .headspringReset q => Sys2Proof.Machine.execHeadspringReset q s
  | .laneReset l q => Sys2Proof.Machine.execLaneReset l q s
  | .deviceReset q => Sys2Proof.Machine.execDeviceReset q s
  | .resetDone sc => Sys2Proof.Machine.execResetDone sc s
  | .fuseLinkFrame d chs rails => Sys2Proof.Machine.execFuseLinkFrame d chs rails s
  | .fuseLinkBadFrame d x => Sys2Proof.Machine.execFuseLinkBadFrame d x s
  | .fuseLinkResync d => Sys2Proof.Machine.execFuseLinkResync d s
  | .ttpFrameReceive l f => Sys2Proof.Machine.execTtpFrameReceive l f s
  | .mbxReqReceive d crcOk => Sys2Proof.Machine.execMbxReqReceive d crcOk s
  | .svcPortRequest d bytes => Sys2Proof.Machine.execSvcPortRequest d bytes s
  | .streamFrameReceive id crcOk => Sys2Proof.Machine.execStreamFrameReceive id crcOk s
  | .regwinFrameReceive => Sys2Proof.Machine.execRegwinFrameReceive s
  | .swapReqReceive l => Sys2Proof.Machine.execSwapReqReceive l s
  | .swapAckReceive l => Sys2Proof.Machine.execSwapAckReceive l s
  | .echoReplyReceive l => Sys2Proof.Machine.execEchoReplyReceive l s
  | .wakeFrameReceive l => Sys2Proof.Machine.execWakeFrameReceive l s
  | .ptpDelayReqReceive l req seq domain => Sys2Proof.Machine.execPtpDelayReqReceive l req seq domain s
  | .ptpAnnounceReceive l clockId => Sys2Proof.Machine.execPtpAnnounceReceive l clockId s
  | .ptpSyncSend l => Sys2Proof.Machine.execPtpSyncSend l s
  | .ptpAnnounceSend l => Sys2Proof.Machine.execPtpAnnounceSend l s
  | .echoSend => Sys2Proof.Machine.execEchoSend s
  | .laneUp l => Sys2Proof.Machine.execLaneUp l s
  | .laneLossDeclared l cause => Sys2Proof.Machine.execLaneLossDeclared l cause s
  | .failoverComplete => Sys2Proof.Machine.execFailoverComplete s
  | .laneBackTimer l => Sys2Proof.Machine.execLaneBackTimer l s
  | .laneDegradedWindow l late fecUncorrectable => Sys2Proof.Machine.execLaneDegradedWindow l late fecUncorrectable s
  | .laneHealthy l => Sys2Proof.Machine.execLaneHealthy l s
  | .swapTimerExpiry => Sys2Proof.Machine.execSwapTimerExpiry s
  | .reorderHoldExpiry cls id => Sys2Proof.Machine.execReorderHoldExpiry cls id s
  | .spillReplayEnd => Sys2Proof.Machine.execSpillReplayEnd s
  | .eventFrameSend d => Sys2Proof.Machine.execEventFrameSend d s
  | .mbxRspSend d => Sys2Proof.Machine.execMbxRspSend d s
  | .streamFrameSend id => Sys2Proof.Machine.execStreamFrameSend id s
  | .noLaneAfterDeep => Sys2Proof.Machine.execNoLaneAfterDeep s
  | .leaseExpiry d => Sys2Proof.Machine.execLeaseExpiry d s
  | .leaseWrite p v => Sys2Proof.Machine.execLeaseWrite p v s
  | .rateWindowEnd code src => Sys2Proof.Machine.execRateWindowEnd code src s
  | .svcEventPoll => Sys2Proof.Machine.execSvcEventPoll s
  | .svcPortRemoteWake => Sys2Proof.Machine.execSvcPortRemoteWake s
  | .svcHostResumeK => Sys2Proof.Machine.execSvcHostResumeK s
  | .identify q => Sys2Proof.Machine.execIdentify q s
  | .doorClaim q owner sub => Sys2Proof.Machine.execDoorClaim q owner sub s
  | .doorRelease q => Sys2Proof.Machine.execDoorRelease q s
  | .doorKeepalive q => Sys2Proof.Machine.execDoorKeepalive q s
  | .eventAck q seq => Sys2Proof.Machine.execEventAck q seq s
  | .eventRead q first count => Sys2Proof.Machine.execEventRead q first count s
  | .subscribe q mask => Sys2Proof.Machine.execSubscribe q mask s
  | .culletRead q which count => Sys2Proof.Machine.execCulletRead q which count s
  | .epochRead q kind first count => Sys2Proof.Machine.execEpochRead q kind first count s
  | .roleMap q basin => Sys2Proof.Machine.execRoleMap q basin s
  | .trunkStatus q => Sys2Proof.Machine.execTrunkStatus q s
  | .trunkMode q pair prefTb => Sys2Proof.Machine.execTrunkMode q pair prefTb s
  | .trunkSwap q => Sys2Proof.Machine.execTrunkSwap q s
  | .ptpSet q domain syncLog annLog prio1 => Sys2Proof.Machine.execPtpSet q domain syncLog annLog prio1 s
  | .faultStatus q => Sys2Proof.Machine.execFaultStatus q s
  | .engineRelease q engine pass => Sys2Proof.Machine.execEngineRelease q engine pass s
  | .pwrStatus q => Sys2Proof.Machine.execPwrStatus q s
  | .pwrSet q ltr stateMax auto idleUs sleepS deepS => Sys2Proof.Machine.execPwrSet q ltr stateMax auto idleUs sleepS deepS s
  | .pwrWakeSet q w => Sys2Proof.Machine.execPwrWakeSet q w s
  | .pwrEnter q state => Sys2Proof.Machine.execPwrEnter q state s
  | .pwrOff q confirm => Sys2Proof.Machine.execPwrOff q confirm s
  | .railSet q rail cfg budget => Sys2Proof.Machine.execRailSet q rail cfg budget s
  | .railStatus q rail => Sys2Proof.Machine.execRailStatus q rail s
  | .portMode q mode ch => Sys2Proof.Machine.execPortMode q mode ch s
  | .modeSequenceEnd n => Sys2Proof.Machine.execModeSequenceEnd n s
  | .pinCfgSet q wiring plain selPol => Sys2Proof.Machine.execPinCfgSet q wiring plain selPol s
  | .chSet q state => Sys2Proof.Machine.execChSet q state s
  | .chConfig q cfg sense inrush limit susp => Sys2Proof.Machine.execChConfig q cfg sense inrush limit susp s
  | .chCurve q points => Sys2Proof.Machine.execChCurve q points s
  | .chStatus q => Sys2Proof.Machine.execChStatus q s
  | .chCmdOn n => Sys2Proof.Machine.execChCmdOn n s
  | .chCmdOff n => Sys2Proof.Machine.execChCmdOff n s
  | .chCmdSuspend n suspend => Sys2Proof.Machine.execChCmdSuspend n suspend s
  | .pdStatus q => Sys2Proof.Machine.execPdStatus q s
  | .pdCapsSet q caps limit timing => Sys2Proof.Machine.execPdCapsSet q caps limit timing s
  | .pdVconnSwap q => Sys2Proof.Machine.execPdVconnSwap q s
  | .pdHardReset q => Sys2Proof.Machine.execPdHardReset q s
  | .pdVout q target => Sys2Proof.Machine.execPdVout q target s
  | .pdCfgSet q w => Sys2Proof.Machine.execPdCfgSet q w s
  | .dropStatus q => Sys2Proof.Machine.execDropStatus q s
  | .dropEnumerate q route configSel => Sys2Proof.Machine.execDropEnumerate q route configSel s
  | .dropReset q route => Sys2Proof.Machine.execDropReset q route s
  | .dropSuspend q => Sys2Proof.Machine.execDropSuspend q s
  | .dropResume q => Sys2Proof.Machine.execDropResume q s
  | .dropTree q first count => Sys2Proof.Machine.execDropTree q first count s
  | .dropSet q autoEnum rwakeEn speedMax configSel retry suspBudget => Sys2Proof.Machine.execDropSet q autoEnum rwakeEn speedMax configSel retry suspBudget s
  | .dropControl q route setup timeoutMs out => Sys2Proof.Machine.execDropControl q route setup timeoutMs out s
  | .weirSet q route ep nakBudget weight => Sys2Proof.Machine.execWeirSet q route ep nakBudget weight s
  | .sofStampOpen q cid gen div => Sys2Proof.Machine.execSofStampOpen q cid gen div s
  | .sofStampRead q => Sys2Proof.Machine.execSofStampRead q s
  | .dropSchedRead q first count => Sys2Proof.Machine.execDropSchedRead q first count s
  | .svcBind q route iface kind profile stream out persist => Sys2Proof.Machine.execSvcBind q route iface kind profile stream out persist s
  | .svcUnbind q route iface dropRule => Sys2Proof.Machine.execSvcUnbind q route iface dropRule s
  | .svcList q first count => Sys2Proof.Machine.execSvcList q first count s
  | .lineStatus q => Sys2Proof.Machine.execLineStatus q s
  | .lineTiming q nom dat tdco triple brs => Sys2Proof.Machine.execLineTiming q nom dat tdco triple brs s
  | .lineFilter q k id mask => Sys2Proof.Machine.execLineFilter q k id mask s
  | .lineSend q f => Sys2Proof.Machine.execLineSend q f s
  | .lineCancel q buffer => Sys2Proof.Machine.execLineCancel q buffer s
  | .lineRecover q => Sys2Proof.Machine.execLineRecover q s
  | .lineNodes q first count => Sys2Proof.Machine.execLineNodes q first count s
  | .lineRead q obj => Sys2Proof.Machine.execLineRead q obj s
  | .lineWrite q obj value prio => Sys2Proof.Machine.execLineWrite q obj value prio s
  | .lineObjCfg q obj report => Sys2Proof.Machine.execLineObjCfg q obj report s
  | .lineNodeRemove q => Sys2Proof.Machine.execLineNodeRemove q s
  | .linePollSet q poll hold => Sys2Proof.Machine.execLinePollSet q poll hold s
  | .pondStatus q => Sys2Proof.Machine.execPondStatus q s
  | .quotaRead q first count => Sys2Proof.Machine.execQuotaRead q first count s
  | .quotaSet q quota holder => Sys2Proof.Machine.execQuotaSet q quota holder s
  | .ctxRead q cid => Sys2Proof.Machine.execCtxRead q cid s
  | .ctxList q holder typ start count => Sys2Proof.Machine.execCtxList q holder typ start count s
  | .pondUnpoison q cid pass => Sys2Proof.Machine.execPondUnpoison q cid pass s
  | .scrubSet q en interval => Sys2Proof.Machine.execScrubSet q en interval s
  | .cacheStats q first count => Sys2Proof.Machine.execCacheStats q first count s
  | .lowMarkSet q mark => Sys2Proof.Machine.execLowMarkSet q mark s
  | .markCreate q belt pos dir action mflags window arg portEpoch nodeEpoch => Sys2Proof.Machine.execMarkCreate q belt pos dir action mflags window arg portEpoch nodeEpoch s
  | .markConsider cid => Sys2Proof.Machine.execMarkConsider cid s
  | .markCancel q cid gen => Sys2Proof.Machine.execMarkCancel q cid gen s
  | .markRead q cid gen => Sys2Proof.Machine.execMarkRead q cid gen s
  | .templateLoad q t => Sys2Proof.Machine.execTemplateLoad q t s
  | .templateFree q cid gen => Sys2Proof.Machine.execTemplateFree q cid gen s
  | .beltStatus q belt => Sys2Proof.Machine.execBeltStatus q belt s
  | .beltSetPos q belt pos atZ => Sys2Proof.Machine.execBeltSetPos q belt pos atZ s
  | .timeRead q => Sys2Proof.Machine.execTimeRead q s
  | .timeAck q => Sys2Proof.Machine.execTimeAck q s
  | .outfallSet q o op widthUs => Sys2Proof.Machine.execOutfallSet q o op widthUs s
  | .quote q nonce => Sys2Proof.Machine.execQuote q nonce s
  | .logRead q seq count => Sys2Proof.Machine.execLogRead q seq count s
  | .logTrim q seq nonce => Sys2Proof.Machine.execLogTrim q seq nonce s
  | .certRead q which => Sys2Proof.Machine.execCertRead q which s
  | .stageWrite q off data => Sys2Proof.Machine.execStageWrite q off data s
  | .stageErase q off => Sys2Proof.Machine.execStageErase q off s
  | .handoff q bank => Sys2Proof.Machine.execHandoff q bank s
  | .handoffStepEnd => Sys2Proof.Machine.execHandoffStepEnd s
  | .handoffStepTimeout e => Sys2Proof.Machine.execHandoffStepTimeout e s
  | .firstRunCheckEnd => Sys2Proof.Machine.execFirstRunCheckEnd s
  | .ucodeRoll q bank => Sys2Proof.Machine.execUcodeRoll q bank s
  | .rollSwapPoint b => Sys2Proof.Machine.execRollSwapPoint b s
  | .bootSet q bank once => Sys2Proof.Machine.execBootSet q bank once s
  | .tablesApply q bank => Sys2Proof.Machine.execTablesApply q bank s
  | .beadRead q block => Sys2Proof.Machine.execBeadRead q block s
  | .beadWrite q block data => Sys2Proof.Machine.execBeadWrite q block data s
  | .beadStatus q => Sys2Proof.Machine.execBeadStatus q s
  | .regRead q addr count => Sys2Proof.Machine.execRegRead q addr count s
  | .regWrite q addr data => Sys2Proof.Machine.execRegWrite q addr data s
  | .regModify q addr mask value => Sys2Proof.Machine.execRegModify q addr mask value s
  | .regKeyedWrite q addr value => Sys2Proof.Machine.execRegKeyedWrite q addr value s
  | .cwPause q pause => Sys2Proof.Machine.execCwPause q pause s
  | .cwCommit q ref => Sys2Proof.Machine.execCwCommit q ref s
  | .cwStatus q => Sys2Proof.Machine.execCwStatus q s
  | .keyUnlockWrite p v => Sys2Proof.Machine.execKeyUnlockWrite p v s
  | .keyUnlockLapse p => Sys2Proof.Machine.execKeyUnlockLapse p s
  | .registerWrite p addr v => Sys2Proof.Machine.execRegisterWrite p addr v s
  | .aliasWrite p addr v => Sys2Proof.Machine.execAliasWrite p addr v s
  | .statusSeqClear p addr v => Sys2Proof.Machine.execStatusSeqClear p addr v s
  | .aonWriteApply => Sys2Proof.Machine.execAonWriteApply s
  | .seiTimeLoRead p => Sys2Proof.Machine.execSeiTimeLoRead p s
  | .beltPosLoRead p b => Sys2Proof.Machine.execBeltPosLoRead p b s
  | .holderQuotaWrite p h v => Sys2Proof.Machine.execHolderQuotaWrite p h v s
  | .lineTimingRegWrite p n which v => Sys2Proof.Machine.execLineTimingRegWrite p n which v s
  | .measExtGo p v => Sys2Proof.Machine.execMeasExtGo p v s
  | .attCtlGo p v => Sys2Proof.Machine.execAttCtlGo p v s
  | .xspiRead p len => Sys2Proof.Machine.execXspiRead p len s
  | .xspiProgram p len => Sys2Proof.Machine.execXspiProgram p len s
  | .xspiErase64k p => Sys2Proof.Machine.execXspiErase64k p s
  | .xspiReadId p => Sys2Proof.Machine.execXspiReadId p s
  | .xspiOpEnd ready fsr => Sys2Proof.Machine.execXspiOpEnd ready fsr s
  | .svcVendorRequest write addr v => Sys2Proof.Machine.execSvcVendorRequest write addr v s
  | .jtagRegAccess write addr v => Sys2Proof.Machine.execJtagRegAccess write addr v s
  | .pondAlloc h typ size => Sys2Proof.Machine.execPondAlloc h typ size s
  | .contextFree cid => Sys2Proof.Machine.execContextFree cid s
  | .bulkFree h typ => Sys2Proof.Machine.execBulkFree h typ s
  | .waitListRetry n => Sys2Proof.Machine.execWaitListRetry n s
  | .scrubStep e => Sys2Proof.Machine.execScrubStep e s
  | .cacheWriteback e => Sys2Proof.Machine.execCacheWriteback e s
  | .directoryUe => Sys2Proof.Machine.execDirectoryUe s
  | .directoryRebuildEnd bad => Sys2Proof.Machine.execDirectoryRebuildEnd bad s
  | .dropPullupSeen n onDPlus => Sys2Proof.Machine.execDropPullupSeen n onDPlus s
  | .dropPullupLost n => Sys2Proof.Machine.execDropPullupLost n s
  | .debounceExpiry n => Sys2Proof.Machine.execDebounceExpiry n s
  | .deviceChirpK n endedByUs => Sys2Proof.Machine.execDeviceChirpK n endedByUs s
  | .rootResetExpiry n => Sys2Proof.Machine.execRootResetExpiry n s
  | .enumRequestComplete n r => Sys2Proof.Machine.execEnumRequestComplete n r s
  | .enumWaitExpiry n => Sys2Proof.Machine.execEnumWaitExpiry n s
  | .controlStageTimeout n => Sys2Proof.Machine.execControlStageTimeout n s
  | .dropDisconnect n => Sys2Proof.Machine.execDropDisconnect n s
  | .typecRdSeen n x => Sys2Proof.Machine.execTypecRdSeen n x s
  | .typecRdLost n => Sys2Proof.Machine.execTypecRdLost n s
  | .suspendIdleExpiry n => Sys2Proof.Machine.execSuspendIdleExpiry n s
  | .overdrawCheck n avgMa => Sys2Proof.Machine.execOverdrawCheck n avgMa s
  | .remoteWakeK n => Sys2Proof.Machine.execRemoteWakeK n s
  | .resumeKDone n => Sys2Proof.Machine.execResumeKDone n s
  | .resumeRecoveryDone n => Sys2Proof.Machine.execResumeRecoveryDone n s
  | .microframeBoundary n => Sys2Proof.Machine.execMicroframeBoundary n s
  | .transactionComplete n route ep r => Sys2Proof.Machine.execTransactionComplete n route ep r s
  | .hubStatusPoll n hub port c => Sys2Proof.Machine.execHubStatusPoll n hub port c s
  | .parisonTimeout queue idx => Sys2Proof.Machine.execParisonTimeout queue idx s
  | .classMatch n route => Sys2Proof.Machine.execClassMatch n route s
  | .hidReport n route iface report => Sys2Proof.Machine.execHidReport n route iface report s
  | .cdcBulkIn n route iface data => Sys2Proof.Machine.execCdcBulkIn n route iface data s
  | .serialState n route iface st => Sys2Proof.Machine.execSerialState n route iface st s
  | .printerJob n route iface acked => Sys2Proof.Machine.execPrinterJob n route iface acked s
  | .printerStatusPoll n route iface pstat => Sys2Proof.Machine.execPrinterStatusPoll n route iface pstat s
  | .rawTransfer n route iface data isoErr => Sys2Proof.Machine.execRawTransfer n route iface data isoErr s
  | .gapMsExpiry n route iface => Sys2Proof.Machine.execGapMsExpiry n route iface s
  | .lineFrameReceive n f => Sys2Proof.Machine.execLineFrameReceive n f s
  | .rxq0FrameProcess n => Sys2Proof.Machine.execRxq0FrameProcess n s
  | .claim n serial => Sys2Proof.Machine.execClaim n serial s
  | .announce n addr seg sidx total entries => Sys2Proof.Machine.execAnnounce n addr seg sidx total entries s
  | .objAnswer n addr obj write status value => Sys2Proof.Machine.execObjAnswer n addr obj write status value s
  | .report n addr obj value sof => Sys2Proof.Machine.execReport n addr obj value sof s
  | .nodeRelease n addr serial => Sys2Proof.Machine.execNodeRelease n addr serial s
  | .lineTxComplete n buf w => Sys2Proof.Machine.execLineTxComplete n buf w s
  | .lineBusError n r e => Sys2Proof.Machine.execLineBusError n r e s
  | .busOffEntry n => Sys2Proof.Machine.execBusOffEntry n s
  | .lineBusOn n => Sys2Proof.Machine.execLineBusOn n s
  | .announceTimer n addr => Sys2Proof.Machine.execAnnounceTimer n addr s
  | .responseWindowEnd n addr => Sys2Proof.Machine.execResponseWindowEnd n addr s
  | .requestTimeout n addr => Sys2Proof.Machine.execRequestTimeout n addr s
  | .pollTimer n => Sys2Proof.Machine.execPollTimer n s
  | .absentHoldExpiry n addr => Sys2Proof.Machine.execAbsentHoldExpiry n addr s
  | .quarantineExpiry n addr => Sys2Proof.Machine.execQuarantineExpiry n addr s
  | .timeFrameBoundary n => Sys2Proof.Machine.execTimeFrameBoundary n s
  | .timeFrameWithdraw n => Sys2Proof.Machine.execTimeFrameWithdraw n s
  | .shaftEdge b onB edge aLeads => Sys2Proof.Machine.execShaftEdge b onB edge aLeads s
  | .shaftQuadError b => Sys2Proof.Machine.execShaftQuadError b s
  | .zEdge z => Sys2Proof.Machine.execZEdge z s
  | .beltStopTimeout b => Sys2Proof.Machine.execBeltStopTimeout b s
  | .armingCycle b => Sys2Proof.Machine.execArmingCycle b s
  | .slotMatch b cid => Sys2Proof.Machine.execSlotMatch b cid s
  | .markAction b cid => Sys2Proof.Machine.execMarkAction b cid s
  | .lateAction b cid => Sys2Proof.Machine.execLateAction b cid s
  | .outfallPulseEnd o => Sys2Proof.Machine.execOutfallPulseEnd o s
  | .inletEdge k edge => Sys2Proof.Machine.execInletEdge k edge s
  | .ppsRise => Sys2Proof.Machine.execPpsRise s
  | .ppsFall => Sys2Proof.Machine.execPpsFall s
  | .calWindowEnd period => Sys2Proof.Machine.execCalWindowEnd period s
  | .inrushComplete n => Sys2Proof.Machine.execInrushComplete n s
  | .railSag d j => Sys2Proof.Machine.execRailSag d j s
  | .railRecover d j => Sys2Proof.Machine.execRailRecover d j s
  | .holdLimit n => Sys2Proof.Machine.execHoldLimit n s
  | .inrushTimeout n => Sys2Proof.Machine.execInrushTimeout n s
  | .fastTrip n peak => Sys2Proof.Machine.execFastTrip n peak s
  | .breakerTrip n point peak => Sys2Proof.Machine.execBreakerTrip n point peak s
  | .retryDue n => Sys2Proof.Machine.execRetryDue n s
  | .retryCountReset n => Sys2Proof.Machine.execRetryCountReset n s
  | .fetFaultDetect n cur => Sys2Proof.Machine.execFetFaultDetect n cur s
  | .railSenseMismatch j => Sys2Proof.Machine.execRailSenseMismatch j s
  | .railDrawWindow j draw => Sys2Proof.Machine.execRailDrawWindow j draw s
  | .shedGraceExpiry j => Sys2Proof.Machine.execShedGraceExpiry j s
  | .railBlockEnd j => Sys2Proof.Machine.execRailBlockEnd j s
  | .vsafe5vReached n => Sys2Proof.Machine.execVsafe5vReached n s
  | .sourceCapsTimer n goodCrc => Sys2Proof.Machine.execSourceCapsTimer n goodCrc s
  | .pdRequest n obj cur mv epr => Sys2Proof.Machine.execPdRequest n obj cur mv epr s
  | .pdMessage n m => Sys2Proof.Machine.execPdMessage n m s
  | .pdEprMode n enter => Sys2Proof.Machine.execPdEprMode n enter s
  | .vconnSwapReceive n => Sys2Proof.Machine.execVconnSwapReceive n s
  | .hardResetReceive n => Sys2Proof.Machine.execHardResetReceive n s
  | .acceptDelayExpiry n => Sys2Proof.Machine.execAcceptDelayExpiry n s
  | .readVoutPoll n v => Sys2Proof.Machine.execReadVoutPoll n v s
  | .pmbusAlert m n statusWord => Sys2Proof.Machine.execPmbusAlert m n statusWord s
  | .statusWordPoll n statusWord => Sys2Proof.Machine.execStatusWordPoll n statusWord s
  | .converterFault n c => Sys2Proof.Machine.execConverterFault n c s
  | .eprKeepaliveTimeout n => Sys2Proof.Machine.execEprKeepaliveTimeout n s
  | .ppsRequestTimeout n => Sys2Proof.Machine.execPpsRequestTimeout n s
  | .vconnOvercurrent n ma => Sys2Proof.Machine.execVconnOvercurrent n ma s
  | .cableDiscovery n answer => Sys2Proof.Machine.execCableDiscovery n answer s
  | .pdNextOpportunity n => Sys2Proof.Machine.execPdNextOpportunity n s
  | .reducedRequestTimeout n => Sys2Proof.Machine.execReducedRequestTimeout n s
  | .vconnGiveTimeout n => Sys2Proof.Machine.execVconnGiveTimeout n s
  | .swapRetryWaitExpiry n => Sys2Proof.Machine.execSwapRetryWaitExpiry n s
  | .swapNoAnswer n => Sys2Proof.Machine.execSwapNoAnswer n s
  | .hardResetRecovery n => Sys2Proof.Machine.execHardResetRecovery n s
  | .errorRecoveryEnd n => Sys2Proof.Machine.execErrorRecoveryEnd n s
  | .quietTimerExpiry which => Sys2Proof.Machine.execQuietTimerExpiry which s
  | .idleWake basin => Sys2Proof.Machine.execIdleWake basin s
  | .entryStepComplete => Sys2Proof.Machine.execEntryStepComplete s
  | .wakeRequest source input => Sys2Proof.Machine.execWakeRequest source input s
  | .lowPowerExitComplete slowPeriods => Sys2Proof.Machine.execLowPowerExitComplete slowPeriods s
  | .reservoirEccError w double => Sys2Proof.Machine.execReservoirEccError w double s
  | .queuePtrMismatch queue => Sys2Proof.Machine.execQueuePtrMismatch queue s
  | .engineOverrun t => Sys2Proof.Machine.execEngineOverrun t s
  | .engineHang t lost => Sys2Proof.Machine.execEngineHang t lost s
  | .engineParity e lost => Sys2Proof.Machine.execEngineParity e lost s
  | .engineTakeover e => Sys2Proof.Machine.execEngineTakeover e s
  | .recoveryWindowEnd ladder index => Sys2Proof.Machine.execRecoveryWindowEnd ladder index s
  | .lockstepMismatch => Sys2Proof.Machine.execLockstepMismatch s
  | .cwPassStart => Sys2Proof.Machine.execCwPassStart s
  | .cwPassEnd => Sys2Proof.Machine.execCwPassEnd s
  | .cwPauseExpiry => Sys2Proof.Machine.execCwPauseExpiry s
  | .cfgParityFailure addr => Sys2Proof.Machine.execCfgParityFailure addr s
  | .attestRecordWrite => Sys2Proof.Machine.execAttestRecordWrite s
  | .snapshotWrite => Sys2Proof.Machine.execSnapshotWrite s
  | .beadCommitEnd verified => Sys2Proof.Machine.execBeadCommitEnd verified s
  | .inventory m mask maskLen => Sys2Proof.Machine.execInventory m mask maskLen s
  | .stayQuiet m => Sys2Proof.Machine.execStayQuiet m s
  | .readSingleBlock m block => Sys2Proof.Machine.execReadSingleBlock m block s
  | .writeSingleBlock m block data => Sys2Proof.Machine.execWriteSingleBlock m block data s
  | .lockBlock m block => Sys2Proof.Machine.execLockBlock m block s
  | .readMultipleBlocks m first count => Sys2Proof.Machine.execReadMultipleBlocks m first count s
  | .select m => Sys2Proof.Machine.execSelect m s
  | .resetToReady m => Sys2Proof.Machine.execResetToReady m s
  | .getSystemInformation m => Sys2Proof.Machine.execGetSystemInformation m s
  | .getBlockSecurityStatus m first count => Sys2Proof.Machine.execGetBlockSecurityStatus m first count s
  | .lockSession m durationMs => Sys2Proof.Machine.execLockSession m durationMs s
  | .unlockSession m => Sys2Proof.Machine.execUnlockSession m s
  | .readRecord m recno => Sys2Proof.Machine.execReadRecord m recno s
  | .getBeadStatus m => Sys2Proof.Machine.execGetBeadStatus m s
  | .beadSessionExpiry => Sys2Proof.Machine.execBeadSessionExpiry s
  | .beadFieldLoss => Sys2Proof.Machine.execBeadFieldLoss s
  | .streamOpen q id port depth weight => Sys2Proof.Machine.execStreamOpen q id port depth weight s
  | .streamClose q cid gen => Sys2Proof.Machine.execStreamClose q cid gen s
  | .svcBusSuspend => Sys2Proof.Machine.execSvcBusSuspend s
  | .svcStandardRequest r => Sys2Proof.Machine.execSvcStandardRequest r s
  | .lineBusRejoin n => Sys2Proof.Machine.execLineBusRejoin n s
  | .readerFieldPresent powered => Sys2Proof.Machine.execReaderFieldPresent powered s
  | .statusBallLowTimeExpiry alert => Sys2Proof.Machine.execStatusBallLowTimeExpiry alert s
  | .microcodeReloadDone => Sys2Proof.Machine.execMicrocodeReloadDone s
  | .serviceTableRebuildEnd => Sys2Proof.Machine.execServiceTableRebuildEnd s
  | .regAccessSessionChange start => Sys2Proof.Machine.execRegAccessSessionChange start s

end Sys2Proof.Machine
end

