-- ==== Sys2Proof/Machine/Tick.lean ====
section
/-! DEFINITION. What passes with one tick of 0.625 ns while no command waits (DESIGN CHOICE, log entry 2). -/

namespace Sys2Proof.Machine

/-- What a pulse does at its destination (R71). -/
def Chip.carried (c : Chip) (x : Carried) : Chip :=
  match x with
  | .wake src idx => c.wakeReq src idx
  | .write r old => c.regAct r old
  | .remoteWake n => c.remoteWake n

/-- Pulses that crossings hold for blocks whose clock runs again are delivered (R73). -/
def Chip.deliverDue (c : Chip) : Chip :=
  if c.clk.cross.any (fun x => x.ack.isNone && !c.blockStopped x.block) then
    c.deliverHeld (fun x => !c.blockStopped x.block) Chip.carried
  else c

/-- Resume sequences whose K is due begin to drive it (R179). -/
def Chip.driveDue (c : Chip) : Chip :=
  c.each ((List.finRange 96).filter (fun n => (c.ports[n]).drop.resume.any (fun r => !r.on))) Chip.driveK

/-- The Seiche count of one tick (R246, R270): TIME advances by one in Run and Idle; in Sleep it takes the next multiple of 64 at each
25 MHz cycle, which is in phase with it. -/
def Seiche.step (x : Seiche) (st : PState) : Seiche :=
  match x.running, st with
  | true, .run => { x with time := x.time + 1 }
  | true, .idle => { x with time := x.time + 1 }
  | true, .sleep =>
    if x.sleepRem < 63 then { x with sleepRem := x.sleepRem + 1 }
    else { x with time := (x.time &&& ~~~63#64) + 64, sleepRem := 0 }
  | _, _ => x

/-- This tick is the last of a Seiche sample: every tick, and in Sleep the last of 64 (R246, R270). -/
def Chip.sampleEnds (c : Chip) : Bool := c.pwr.st != .sleep || 63 ≤ c.sei.sleepRem

/-- One tick: a Z edge of the sample that ends takes effect (R253, log entry 64); elapsed time and the Seiche count; crossings
deliver (R73), K is driven (R179), a PD Request is answered (R301), basins are gated in Idle as they become eligible (R35); firmware
refuses requests of unknown opcodes (R134), and response parts leave on the service port (R136). -/
def Chip.tick (c : Chip) : Chip :=
  let c := if c.sampleEnds then c.zTakeAll else c
  let now := c.clk.now + 1
  let c := c.updClk (fun k => { k with now := now })
  let st := c.pwr.st
  let c := c.updSei (fun x => x.step st)
  let c := c.deliverDue.driveDue.pdDecideAll
  let c := if c.pwr.st = .idle then c.gateBasins else c
  let c := c.each (List.finRange 8) (fun c d => c.each (c.doors[d]).reqs (fun c e => c.refuseUnknown ⟨d, e.ord⟩))
  c.svcResponses.settle

end Sys2Proof.Machine
end

