-- ==== Sys2Proof/Safety.lean ====
section
/-! DEFINITION. What counts as a safe run, and the terms the claims use: frames (what a command may change) and the canonical
forms of the register file, the flash and the Bead blocks. -/

namespace Sys2Proof

open Sys2Proof.Machine

/-- A step that answers a next state: neither a fault nor a refusal. -/
def Safe (s : State) : Prop := ∃ t, step s = .next t

/-- The canonical forms: registers, flash cells and Bead blocks in rising order, none at what an unlisted one reads as. -/
structure Canon (c : Chip) : Prop where
  regs : regsOk c.regs = true
  flash : flashOk c.fw.flash = true
  blocks : blocksOk c.bead.blocks = true

/-- The parts of the chip beside its register file, as Machine/State.lean names its fields; of `fw` the flash, of `bead` the
blocks and the locked ones, of `doors` the claims and request rings are parts of their own. -/
inductive Part where
  | clk | fl | flash | blocks | locked | reqs | fw | trunk | doors | cullet | ords | rates | svcPort | pond | engines | basins | ports | chans | rails | sei | svc | pwr | bead | fab | ladders | free
deriving DecidableEq, Repr

/-- What a command may change: parts of the chip, and registers. -/
structure Frame where
  parts : List Part
  regs : Reg → Bool

/-- Everything outside a frame reads in `b` as it reads in `a`. -/
structure Kept (f : Frame) (a b : Chip) : Prop where
  regs : ∀ r, f.regs r = false → b.rd r = a.rd r
  clk : Part.clk ∉ f.parts → b.clk = a.clk
  fl : Part.fl ∉ f.parts → b.fl = a.fl
  fw : Part.fw ∉ f.parts → b.fw = a.fw
  flash : Part.flash ∉ f.parts → b.fw.flash = a.fw.flash
  trunk : Part.trunk ∉ f.parts → b.trunk = a.trunk
  doors : Part.doors ∉ f.parts → b.doors = a.doors
  reqs : Part.reqs ∉ f.parts → ∀ d : Door, (b.doors[d]).reqs = (a.doors[d]).reqs ∧ (b.doors[d]).path = (a.doors[d]).path ∧
    (b.doors[d]).releasing = (a.doors[d]).releasing
  cullet : Part.cullet ∉ f.parts → b.cullet = a.cullet
  culletLost : Part.cullet ∉ f.parts → b.culletLost = a.culletLost
  nextOrd : Part.ords ∉ f.parts → b.nextOrd = a.nextOrd
  rates : Part.rates ∉ f.parts → b.rates = a.rates
  svcPort : Part.svcPort ∉ f.parts → b.svcPort = a.svcPort
  pond : Part.pond ∉ f.parts → b.pond = a.pond
  engines : Part.engines ∉ f.parts → b.engines = a.engines
  basins : Part.basins ∉ f.parts → b.basins = a.basins
  ports : Part.ports ∉ f.parts → b.ports = a.ports
  chans : Part.chans ∉ f.parts → b.chans = a.chans
  rails : Part.rails ∉ f.parts → b.rails = a.rails
  sei : Part.sei ∉ f.parts → b.sei = a.sei
  svc : Part.svc ∉ f.parts → b.svc = a.svc
  pwr : Part.pwr ∉ f.parts → b.pwr = a.pwr
  bead : Part.bead ∉ f.parts → b.bead = a.bead
  blocks : Part.blocks ∉ f.parts → b.bead.blocks = a.bead.blocks
  locked : Part.locked ∉ f.parts → b.bead.locked = a.bead.locked
  fab : Part.fab ∉ f.parts → b.fab = a.fab
  ladders : Part.ladders ∉ f.parts → b.ladders = a.ladders
  freeCtr : Part.free ∉ f.parts → b.freeCtr = a.freeCtr

/-! ### The frame of each command -/

/-- No register. -/
def noReg : Reg → Bool := fun _ => false
/-- Every register. -/
def anyReg : Reg → Bool := fun _ => true

/-- A frame with more parts and registers. -/
def Frame.more (f : Frame) (p : List Part) (r : Reg → Bool) : Frame := ⟨p ++ f.parts, fun x => r x || f.regs x⟩

/-- Nothing. -/
def frNone : Frame := ⟨[], noReg⟩
/-- What an event changes. -/
def frPost : Frame := ⟨[.doors, .rates], noReg⟩
/-- What taking and answering a request changes. -/
def frServe : Frame := ⟨[.trunk, .doors, .reqs, .rates, .basins, .ports, .pwr], (fun r => (r matches .PWR_STATUS))⟩
/-- What a fault source changes. -/
def frFault : Frame := ⟨[.clk, .doors, .bead], (fun r => (r matches .GLB_FAULT))⟩
/-- What granting contexts, and the requesters that go on, change. -/
def frPond : Frame := ⟨[.trunk, .doors, .reqs, .rates, .pond, .engines, .ports, .svc], (fun r =>
  (r matches .DROP_STATUS _) || (r matches .HOLDER_USED _) || (r matches .POND_FREE) || (r matches .POND_STATUS) ||
  (r matches .POND_WAIT) || (r matches .SVC_STATUS))⟩
/-- What a PD hard reset and the detach it may cause change. -/
def frPdDown : Frame := ⟨[.trunk, .doors, .reqs, .rates, .pond, .engines, .basins, .ports, .svc, .pwr], (fun r =>
  (r matches .DROP_SCHED _) || (r matches .DROP_STATUS _) || (r matches .HOLDER_USED _) || (r matches .PD_STATUS _) ||
  (r matches .PD_VOUT _) || (r matches .POND_FREE) || (r matches .POND_STATUS) || (r matches .POND_WAIT) ||
  (r matches .PWR_STATUS) || (r matches .SVC_STATUS))⟩
/-- What the resets narrower than the device change. -/
def frReset : Frame := ⟨[.clk, .fl, .fw, .trunk, .doors, .reqs, .rates, .pond, .engines, .basins, .ports, .chans,
  .sei, .svc, .pwr, .bead, .fab, .free], (fun r => (r matches .CH_CMD _) || (r matches .CH_STATUS _) ||
  (r matches .DROP_SCHED _) || (r matches .DROP_STATUS _) || (r matches .DROP_XFER_ERR _) || (r matches .ESC_LAST) ||
  (r matches .GLB_FAULT) || (r matches .HOLDER_USED _) || (r matches .LINE_CNT _) || (r matches .LINE_CTL _) ||
  (r matches .LINE_DBT _) || (r matches .LINE_ERR _) || (r matches .LINE_NBT _) || (r matches .LINE_TDC _) ||
  (r matches .POND_FREE) || (r matches .POND_STATUS) || (r matches .POND_WAIT) || (r matches .PWR_STATUS) ||
  (r matches .SVC_STATUS) || (r matches .TRK_ERR _) || (r matches .TRK_SPILL) || (r matches .TRK_STATUS))⟩
/-- Everything but the flash, the Bead memory, the acceptance number and the free values. -/
def frDevice : Frame := ⟨[.clk, .fl, .fw, .trunk, .doors, .reqs, .cullet, .rates, .svcPort, .pond, .engines, .basins,
  .ports, .chans, .rails, .sei, .svc, .pwr, .bead, .fab, .ladders], anyReg⟩
/-- What a write by a register path can reach. -/
def frWrite : Frame := ⟨[.clk, .fl, .fw, .trunk, .doors, .reqs, .cullet, .rates, .svcPort, .pond, .engines, .basins,
  .ports, .chans, .rails, .sei, .svc, .pwr, .bead, .fab, .ladders, .free], anyReg⟩

/-- What a command may change. -/
def frameOf : Instr → Frame
| .vddAonPowerOn => frDevice
| .supplyMonitorTrip _ => frWrite
| .supplyRecovered _ => frPond.more [.clk, .fl, .fw, .cullet, .basins, .sei, .pwr, .bead, .ladders] (fun r =>
      (r matches .BOOT_OVR) || (r matches .BOOT_STATUS) || (r matches .CH_MEAS _) || (r matches .CH_STATUS _) ||
      (r matches .ENG_BASIN _) || (r matches .GLB_FAULT) || (r matches .PWR_STATUS) || (r matches .RST_CMD))
| .porstNLow => frDevice
| .porstNRise _ => frFault.more [.fw] (fun r => (r matches .BOOT_OVR) || (r matches .BOOT_STATUS) ||
      (r matches .GLB_STRAP))
| .firmwareBoot _ _ => frWrite
| .bootWatchdogExpiry => frDevice
| .bootOkWrite _ _ => frWrite
| .clkCtlPllEn _ _ => frWrite
| .clkCtlSysSel _ _ => frWrite
| .clkCtlRefEn _ _ => frWrite
| .pllLock _ => frNone.more [.clk] (fun r => (r matches .CLK_STATUS))
| .pllLockTimeout => frFault.more [.fw] noReg
| .refInQualified => frNone.more [.doors] (fun r => (r matches .CLK_STATUS))
| .refInLost => frNone.more [.clk, .doors, .sei, .bead] (fun r => (r matches .CLK_STATUS) || (r matches .ESC_LAST) ||
      (r matches .SEI_UNCERT))
| .crystalFailure => frFault.more [.sei] (fun r => (r matches .CLK_STATUS) || (r matches .SEI_STATUS) ||
      (r matches .SEI_UNCERT))
| .crystalReturn => frNone.more [.clk, .sei] (fun r => (r matches .CLK_STATUS) || (r matches .SEI_UNCERT))
| .pllRefSlewEnd => frFault.more [.sei] (fun r => (r matches .SEI_STATUS) || (r matches .SEI_UNCERT))
| .pllUnlock _ => frWrite
| .pllRelock _ => frPond.more [.clk, .fw, .cullet, .basins, .sei, .pwr, .bead, .ladders] (fun r =>
      (r matches .BOOT_STATUS) || (r matches .CLK_STATUS) || (r matches .ENG_BASIN _) || (r matches .GLB_FAULT) ||
      (r matches .PWR_STATUS) || (r matches .RST_CMD) || (r matches .SEI_UNCERT))
| .portReset _ _ => frReset
| .basinReset _ _ _ _ => frReset
| .headspringReset _ => frReset
| .laneReset _ _ => frReset
| .deviceReset _ => frDevice
| .resetDone _ => frPond.more [.clk, .fw, .cullet, .basins, .sei, .pwr, .bead, .ladders] (fun r =>
      (r matches .BOOT_STATUS) || (r matches .ENG_BASIN _) || (r matches .GLB_FAULT) || (r matches .PWR_STATUS) ||
      (r matches .RST_CMD))
| .fuseLinkFrame _ _ _ => frPost.more [.fl, .trunk, .reqs, .pond, .engines, .basins, .ports, .chans, .rails, .svc,
      .pwr, .fab, .free] anyReg
| .fuseLinkBadFrame _ _ => frPost.more [.clk, .fl, .trunk, .reqs, .pond, .engines, .basins, .ports, .chans,
      .rails, .svc, .pwr, .bead, .fab, .free] anyReg
| .fuseLinkResync _ => frPond.more [.fl] noReg
| .ttpFrameReceive _ _ => frFault.more [.trunk, .rates, .basins, .pwr] (fun r => (r matches .CDC_OVR) ||
      (r matches .PWR_STATUS) || (r matches .PWR_WAKE_CAUSE) || (r matches .TRK_ERR _))
| .mbxReqReceive _ _ => frPond.more [.ords, .basins, .pwr] (fun r => (r matches .INT_CRC) || (r matches .PWR_STATUS))
| .svcPortRequest _ _ => frPond.more [.ords, .basins, .pwr] (fun r => (r matches .PWR_STATUS))
| .streamFrameReceive _ _ => frPost.more [.trunk, .cullet, .basins, .svc, .pwr] (fun r => (r matches .INT_CRC) ||
      (r matches .PWR_STATUS))
| .regwinFrameReceive => frWrite
| .swapReqReceive _ => frPost.more [.trunk, .reqs] (fun r => (r matches .TRK_STATUS))
| .swapAckReceive _ => frPost.more [.trunk, .reqs] (fun r => (r matches .TRK_STATUS))
| .echoReplyReceive _ => frFault.more [.trunk] (fun r => (r matches .TRK_STATUS))
| .wakeFrameReceive _ => frNone.more [.trunk] (fun r => (r matches .TRK_ERR _))
| .ptpDelayReqReceive _ _ _ _ => frNone.more [.trunk] noReg
| .ptpAnnounceReceive _ _ => frPost
| .ptpSyncSend _ => frNone.more [.trunk] noReg
| .ptpAnnounceSend _ => frNone.more [.trunk] noReg
| .echoSend => frNone.more [.trunk] noReg
| .laneUp _ => frNone.more [.trunk] (fun r => (r matches .TRK_STATUS))
| .laneLossDeclared _ _ => frFault.more [.trunk, .reqs, .rates] (fun r => (r matches .ESC_LAST) ||
      (r matches .TRK_SPILL) || (r matches .TRK_STATUS))
| .failoverComplete => frNone.more [.trunk, .doors] noReg
| .laneBackTimer _ => frNone.more [.trunk, .doors] (fun r => (r matches .TRK_STATUS))
| .laneDegradedWindow _ _ _ => frFault.more [.trunk] (fun r => (r matches .TRK_STATUS))
| .laneHealthy _ => frNone.more [.trunk] (fun r => (r matches .TRK_STATUS))
| .swapTimerExpiry => frPost.more [.trunk, .reqs] (fun r => (r matches .TRK_STATUS))
| .reorderHoldExpiry _ _ => frPost.more [.trunk] noReg
| .spillReplayEnd => frNone.more [.trunk, .doors] (fun r => (r matches .TRK_SPILL))
| .eventFrameSend _ => frNone.more [.trunk, .doors] (fun r => (r matches .TRK_SPILL))
| .mbxRspSend _ => frNone.more [.trunk, .doors, .reqs] (fun r => (r matches .TRK_SPILL))
| .streamFrameSend _ => frNone.more [.trunk, .basins, .svc, .pwr] (fun r => (r matches .PWR_STATUS) ||
      (r matches .TRK_SPILL))
| .noLaneAfterDeep => frFault.more [.trunk, .reqs, .rates] (fun r => (r matches .TRK_SPILL) ||
      (r matches .TRK_STATUS))
| .leaseExpiry _ => frPost.more [.trunk, .reqs, .ports] noReg
| .leaseWrite _ _ => frWrite
| .rateWindowEnd _ _ => frPost
| .svcEventPoll => frNone.more [.doors] noReg
| .svcPortRemoteWake => frNone.more [.svcPort] noReg
| .svcHostResumeK => frNone.more [.doors, .svcPort] noReg
| .identify _ => frServe
| .doorClaim _ _ _ => frServe
| .doorRelease _ => frServe
| .doorKeepalive _ => frServe
| .eventAck _ _ => frServe.more [.clk, .bead] (fun r => (r matches .GLB_FAULT))
| .eventRead _ _ _ => frServe
| .subscribe _ _ => frServe
| .culletRead _ _ _ => frServe.more [.cullet] noReg
| .epochRead _ _ _ _ => frServe
| .roleMap _ _ => frServe
| .trunkStatus _ => frServe
| .trunkMode _ _ _ => frServe.more [.clk, .bead] (fun r => (r matches .ESC_LAST) || (r matches .GLB_FAULT) ||
      (r matches .TRK_CTL) || (r matches .TRK_SPILL) || (r matches .TRK_STATUS))
| .trunkSwap _ => frServe.more [] (fun r => (r matches .TRK_STATUS))
| .ptpSet _ _ _ _ _ => frServe.more [] (fun r => (r matches .PTP_CTL))
| .faultStatus _ => frServe
| .engineRelease _ _ _ => frServe.more [.clk, .cullet, .engines, .bead] (fun r => (r matches .ENG_BASIN _) ||
      (r matches .ENG_QUAR _) || (r matches .GLB_FAULT))
| .pwrStatus _ => frServe
| .pwrSet _ _ _ _ _ _ _ => frServe.more [.fab] (fun r => (r matches .PWR_CTL) || (r matches .PWR_LTR) ||
      (r matches .PWR_TIMER_0) || (r matches .PWR_TIMER_1))
| .pwrWakeSet _ _ => frPost.more [.trunk, .reqs, .basins, .ports, .pwr, .fab] anyReg
| .pwrEnter _ _ => frPond.more [.clk, .basins, .sei, .pwr, .fab] (fun r => (r matches .CW_STATUS) ||
      (r matches .PWR_REFUSE) || (r matches .PWR_STATUS))
| .pwrOff _ _ => frPond.more [.basins, .pwr, .bead] (fun r => (r matches .PWR_STATUS))
| .railSet _ _ _ _ => frPost.more [.fl, .trunk, .reqs, .pond, .engines, .basins, .ports, .chans, .svc, .pwr, .fab]
      anyReg
| .railStatus _ _ => frPond.more [.basins, .pwr] (fun r => (r matches .PWR_STATUS))
| .portMode _ _ _ => frPost.more [.fl, .trunk, .reqs, .pond, .engines, .basins, .ports, .chans, .svc, .pwr, .fab,
      .free] anyReg
| .modeSequenceEnd _ => frPost.more [.fl, .trunk, .reqs, .pond, .engines, .basins, .ports, .chans, .svc, .pwr, .fab,
      .free] anyReg
| .pinCfgSet _ _ _ _ => frPond.more [.basins, .pwr, .fab] (fun r => (r matches .PIN_CFG _) || (r matches .PWR_STATUS))
| .chSet _ _ => frPost.more [.fl, .trunk, .reqs, .pond, .engines, .basins, .ports, .chans, .svc, .pwr, .fab] anyReg
| .chConfig _ _ _ _ _ _ => frPost.more [.fl, .trunk, .reqs, .pond, .engines, .basins, .ports, .chans, .svc, .pwr,
      .fab] anyReg
| .chCurve _ _ => frPost.more [.fl, .trunk, .reqs, .pond, .engines, .basins, .ports, .chans, .svc, .pwr, .fab] anyReg
| .chStatus _ => frPond.more [.basins, .pwr] (fun r => (r matches .PWR_STATUS))
| .chCmdOn _ => frPost.more [.fl, .trunk, .reqs, .pond, .engines, .basins, .ports, .chans, .svc, .pwr, .fab] anyReg
| .chCmdOff _ => frPost.more [.fl, .trunk, .reqs, .pond, .engines, .basins, .ports, .chans, .svc, .pwr, .fab] anyReg
| .chCmdSuspend _ _ => frPond.more [.fl, .chans] (fun r => (r matches .CH_CMD _))
| .pdStatus _ => frPond.more [.basins, .pwr] (fun r => (r matches .PWR_STATUS))
| .pdCapsSet _ _ _ _ => frPond.more [.basins, .pwr, .fab] (fun r => (r matches .PD_CAPS _) || (r matches .PD_LIMIT _)
      || (r matches .PD_TIMING _) || (r matches .PWR_STATUS))
| .pdVconnSwap _ => frPond.more [.basins, .pwr] (fun r => (r matches .PWR_STATUS))
| .pdHardReset _ => frPdDown
| .pdVout _ _ => frPond.more [.basins, .pwr] (fun r => (r matches .PD_VOUT _) || (r matches .PWR_STATUS))
| .pdCfgSet _ _ => frPond.more [.basins, .pwr, .fab] (fun r => (r matches .PD_CFG _) || (r matches .PD_STATUS _) ||
      (r matches .PD_VOUT _) || (r matches .PWR_STATUS))
| .dropStatus _ => frPond.more [.basins, .pwr] (fun r => (r matches .PWR_STATUS))
| .dropEnumerate _ _ _ => frPond.more [.basins, .pwr] (fun r => (r matches .PWR_STATUS))
| .dropReset _ _ => frPond.more [.fl, .basins, .chans, .pwr] (fun r => (r matches .CH_CMD _) ||
      (r matches .DROP_SCHED _) || (r matches .PWR_STATUS))
| .dropSuspend _ => frPond.more [.basins, .pwr] (fun r => (r matches .PWR_STATUS))
| .dropResume _ => frPond.more [.basins, .pwr] (fun r => (r matches .PWR_STATUS))
| .dropTree _ _ _ => frPond.more [.basins, .pwr] (fun r => (r matches .PWR_STATUS))
| .dropSet _ _ _ _ _ _ _ => frPond.more [.basins, .pwr, .fab] (fun r => (r matches .DROP_CTL _) ||
      (r matches .DROP_SUSP _) || (r matches .PWR_STATUS))
| .dropControl _ _ _ _ _ => frPond.more [.basins, .pwr] (fun r => (r matches .PWR_STATUS))
| .weirSet _ _ _ _ _ => frPond.more [.basins, .pwr] (fun r => (r matches .PWR_STATUS))
| .sofStampOpen _ _ _ _ => frPond.more [.basins, .pwr] (fun r => (r matches .PWR_STATUS))
| .sofStampRead _ => frPond.more [.basins, .pwr] (fun r => (r matches .PWR_STATUS))
| .dropSchedRead _ _ _ => frPond.more [.basins, .pwr] (fun r => (r matches .PWR_STATUS))
| .svcBind _ _ _ _ _ _ _ _ => frPond.more [.basins, .pwr] (fun r => (r matches .PWR_STATUS))
| .svcUnbind _ _ _ _ => frPond.more [.basins, .pwr] (fun r => (r matches .PWR_STATUS))
| .svcList _ _ _ => frPond.more [.basins, .pwr] (fun r => (r matches .PWR_STATUS))
| .lineStatus _ => frPond.more [.basins, .pwr] (fun r => (r matches .PWR_STATUS))
| .lineTiming _ _ _ _ _ _ => frPond.more [.basins, .pwr, .fab] (fun r => (r matches .LINE_CTL _) ||
      (r matches .LINE_DBT _) || (r matches .LINE_NBT _) || (r matches .LINE_TDC _) || (r matches .PWR_STATUS))
| .lineFilter _ _ _ _ => frPond.more [.basins, .pwr, .fab] (fun r => (r matches .LINE_FLT_ID _ _) ||
      (r matches .LINE_FLT_MASK _ _) || (r matches .PWR_STATUS))
| .lineSend _ _ => frPond.more [.basins, .pwr] (fun r => (r matches .PWR_STATUS))
| .lineCancel _ _ => frPond.more [.basins, .pwr] (fun r => (r matches .PWR_STATUS))
| .lineRecover _ => frPond.more [.basins, .pwr] (fun r => (r matches .LINE_ERR _) || (r matches .PWR_STATUS))
| .lineNodes _ _ _ => frPond.more [.basins, .pwr] (fun r => (r matches .PWR_STATUS))
| .lineRead _ _ => frPond.more [.basins, .pwr] (fun r => (r matches .PWR_STATUS))
| .lineWrite _ _ _ _ => frPond.more [.basins, .pwr] (fun r => (r matches .PWR_STATUS))
| .lineObjCfg _ _ _ => frPond.more [.basins, .pwr] (fun r => (r matches .PWR_STATUS))
| .lineNodeRemove _ => frPond.more [.basins, .pwr] (fun r => (r matches .PWR_STATUS))
| .linePollSet _ _ _ => frPond.more [.basins, .pwr, .fab] (fun r => (r matches .LINE_HOLD _) ||
      (r matches .LINE_POLL _) || (r matches .PWR_STATUS))
| .pondStatus _ => frPond.more [.basins, .pwr] (fun r => (r matches .PWR_STATUS))
| .quotaRead _ _ _ => frPond.more [.basins, .pwr] (fun r => (r matches .PWR_STATUS))
| .quotaSet _ _ _ => frPond.more [.basins, .pwr] (fun r => (r matches .HOLDER_QUOTA _) || (r matches .POND_QSUM) ||
      (r matches .PWR_STATUS))
| .ctxRead _ _ => frPond.more [.basins, .pwr, .free] (fun r => (r matches .PWR_STATUS))
| .ctxList _ _ _ _ _ => frPond.more [.basins, .pwr] (fun r => (r matches .PWR_STATUS))
| .pondUnpoison _ _ _ => frPond.more [.basins, .pwr] (fun r => (r matches .POND_POISONED) || (r matches .PWR_STATUS))
| .scrubSet _ _ _ => frPond.more [.basins, .pwr, .fab] (fun r => (r matches .POND_SCRUB) || (r matches .PWR_STATUS))
| .cacheStats _ _ _ => frPond.more [.basins, .pwr] (fun r => (r matches .PWR_STATUS))
| .lowMarkSet _ _ => frPond.more [.basins, .pwr, .fab] (fun r => (r matches .POND_LOW_MARK) ||
      (r matches .PWR_STATUS))
| .markCreate _ _ _ _ _ _ _ _ _ _ => frPond.more [.basins, .sei, .pwr] (fun r => (r matches .PWR_STATUS))
| .markConsider _ => frNone.more [.sei] noReg
| .markCancel _ _ _ => frPond.more [.basins, .sei, .pwr] (fun r => (r matches .BELT_STATUS _) ||
      (r matches .PWR_STATUS))
| .markRead _ _ _ => frServe
| .templateLoad _ _ => frPond.more [.basins, .pwr] (fun r => (r matches .PWR_STATUS))
| .templateFree _ _ _ => frPond.more [.basins, .pwr] (fun r => (r matches .PWR_STATUS))
| .beltStatus _ _ => frServe
| .beltSetPos _ _ _ _ => frPond.more [.basins, .sei, .pwr] (fun r => (r matches .BELT_STATUS _) ||
      (r matches .PWR_STATUS))
| .timeRead _ => frServe
| .timeAck _ => frServe.more [.clk, .sei, .bead] (fun r => (r matches .GLB_FAULT) || (r matches .SEI_STATUS) ||
      (r matches .SEI_UNCERT))
| .outfallSet _ _ _ _ => frServe.more [.sei] noReg
| .quote _ _ => frServe
| .logRead _ _ _ => frServe
| .logTrim _ _ _ => frServe.more [.fw, .bead] noReg
| .certRead _ _ => frServe
| .stageWrite _ _ _ => frServe.more [.fw] (fun r => (r matches .XSPI_CMD) || (r matches .XSPI_STATUS))
| .stageErase _ _ => frServe.more [.fw] (fun r => (r matches .XSPI_CMD) || (r matches .XSPI_STATUS))
| .handoff _ _ => frServe.more [.fw] noReg
| .handoffStepEnd => frServe.more [.clk, .fw, .pond, .engines, .svc, .bead] (fun r => (r matches .GLB_FAULT) ||
      (r matches .HOLDER_USED _) || (r matches .POND_FREE) || (r matches .POND_STATUS) || (r matches .POND_WAIT) ||
      (r matches .SVC_STATUS))
| .handoffStepTimeout _ => frServe.more [.clk, .fw, .pond, .engines, .svc, .bead] (fun r => (r matches .GLB_FAULT) ||
      (r matches .HOLDER_USED _) || (r matches .POND_FREE) || (r matches .POND_STATUS) || (r matches .POND_WAIT) ||
      (r matches .SVC_STATUS))
| .firstRunCheckEnd => frPost.more [.fw, .trunk, .reqs, .fab] anyReg
| .ucodeRoll _ _ => frServe.more [.clk, .fw, .bead] (fun r => (r matches .GLB_FAULT))
| .rollSwapPoint _ => frFault.more [.fw, .engines] (fun r => (r matches .BOOT_STATUS))
| .bootSet _ _ _ => frPost.more [.trunk, .reqs, .basins, .ports, .pwr, .fab] anyReg
| .tablesApply _ _ => frPond.more [.fw, .basins, .pwr, .bead] (fun r => (r matches .PWR_STATUS))
| .beadRead _ _ => frServe
| .beadWrite _ _ _ => frServe.more [.bead] (fun r => (r matches .BEAD_STATUS))
| .beadStatus _ => frServe
| .regRead _ _ _ => frPond.more [.basins, .pwr] (fun r => (r matches .BELT_POS_HI _) || (r matches .PWR_STATUS) ||
      (r matches .SEI_TIME_HI))
| .regWrite _ _ _ => frWrite
| .regModify _ _ _ _ => frWrite
| .regKeyedWrite _ _ _ => frWrite
| .cwPause _ _ => frPond.more [.basins, .pwr, .fab] (fun r => (r matches .CW_CTL) || (r matches .CW_STATUS) ||
      (r matches .PWR_STATUS))
| .cwCommit _ _ => frPond.more [.basins, .pwr, .fab] (fun r => (r matches .CW_CTL) || (r matches .CW_REF) ||
      (r matches .CW_STATUS) || (r matches .PWR_STATUS))
| .cwStatus _ => frPond.more [.basins, .pwr] (fun r => (r matches .PWR_STATUS))
| .keyUnlockWrite _ _ => frWrite
| .keyUnlockLapse _ => frNone.more [.fab] noReg
| .registerWrite _ _ _ => frWrite
| .aliasWrite _ _ _ => frWrite
| .statusSeqClear _ _ _ => frWrite
| .aonWriteApply => frPost.more [.trunk, .reqs, .pond, .engines, .ports, .svc, .fab] anyReg
| .seiTimeLoRead _ => frNone.more [.fab] (fun r => (r matches .BELT_POS_HI _) || (r matches .SEI_TIME_HI))
| .beltPosLoRead _ _ => frNone.more [.fab] (fun r => (r matches .BELT_POS_HI _) || (r matches .SEI_TIME_HI))
| .holderQuotaWrite _ _ _ => frWrite
| .lineTimingRegWrite _ _ _ _ => frWrite
| .measExtGo _ _ => frWrite
| .attCtlGo _ _ => frWrite
| .xspiRead _ _ => frWrite
| .xspiProgram _ _ => frWrite
| .xspiErase64k _ => frWrite
| .xspiReadId _ => frWrite
| .xspiOpEnd _ _ => frPond.more [.fw, .flash, .free] (fun r => (r matches .XSPI_CMD) || (r matches .XSPI_DATA _) ||
      (r matches .XSPI_STATUS))
| .svcVendorRequest _ _ _ => frWrite
| .jtagRegAccess _ _ _ => frWrite
| .pondAlloc _ _ _ => frPond
| .contextFree _ => frPond
| .bulkFree _ _ => frPond
| .waitListRetry _ => frPond
| .scrubStep _ => frReset.more [] (fun r => (r matches .POND_CE_COUNT) || (r matches .POND_ERR_CID) ||
      (r matches .POND_POISONED))
| .cacheWriteback _ => frNone.more [.engines] noReg
| .directoryUe => frDevice
| .directoryRebuildEnd _ => frReset.more [] (fun r => (r matches .POND_ERR_CID) || (r matches .POND_POISONED))
| .dropPullupSeen _ _ => frPond
| .dropPullupLost _ => frPond
| .debounceExpiry _ => frPond
| .deviceChirpK _ _ => frPond
| .rootResetExpiry _ => frPond
| .enumRequestComplete _ _ => frPond.more [.basins, .pwr] (fun r => (r matches .DROP_SCHED _) ||
      (r matches .PWR_STATUS))
| .enumWaitExpiry _ => frPond
| .controlStageTimeout _ => frPond.more [.basins, .pwr] (fun r => (r matches .DROP_SCHED _) ||
      (r matches .PWR_STATUS))
| .dropDisconnect _ => frPond.more [.basins, .pwr] (fun r => (r matches .DROP_SCHED _) || (r matches .PWR_STATUS))
| .typecRdSeen _ _ => frPond.more [.chans] (fun r => (r matches .PD_STATUS _))
| .typecRdLost _ => frPdDown.more [.chans] noReg
| .suspendIdleExpiry _ => frPond.more [.fl, .chans] (fun r => (r matches .CH_CMD _))
| .overdrawCheck _ _ => frPond.more [] (fun r => (r matches .DROP_SUSP _))
| .remoteWakeK _ => frPond.more [.clk, .bead] (fun r => (r matches .CDC_OVR) || (r matches .GLB_FAULT))
| .resumeKDone _ => frPond.more [.fl, .chans] (fun r => (r matches .CH_CMD _))
| .resumeRecoveryDone _ => frPond
| .microframeBoundary _ => frPond.more [.cullet, .basins, .sei, .pwr] (fun r => (r matches .DROP_FRAME _) ||
      (r matches .DROP_XFER_ERR _) || (r matches .PWR_STATUS))
| .transactionComplete _ _ _ _ => frPond.more [.basins, .pwr] (fun r => (r matches .DROP_SCHED _) ||
      (r matches .DROP_XFER_ERR _) || (r matches .PWR_STATUS))
| .hubStatusPoll _ _ _ _ => frPond.more [.basins, .pwr] (fun r => (r matches .DROP_SCHED _) ||
      (r matches .PWR_STATUS))
| .parisonTimeout _ _ => frPond
| .classMatch _ _ => frPond.more [.basins, .pwr] (fun r => (r matches .PWR_STATUS))
| .hidReport _ _ _ _ => frPond.more [.basins, .pwr] (fun r => (r matches .PWR_STATUS))
| .cdcBulkIn _ _ _ _ => frPond.more [.basins, .pwr] (fun r => (r matches .PWR_STATUS))
| .serialState _ _ _ _ => frPond
| .printerJob _ _ _ _ => frPond.more [.basins, .pwr] (fun r => (r matches .PWR_STATUS))
| .printerStatusPoll _ _ _ _ => frPond.more [.basins, .pwr] (fun r => (r matches .PWR_STATUS))
| .rawTransfer _ _ _ _ _ => frPond.more [.basins, .pwr] (fun r => (r matches .PWR_STATUS))
| .gapMsExpiry _ _ _ => frPond.more [.basins, .pwr] (fun r => (r matches .PWR_STATUS))
| .lineFrameReceive _ _ => frPond.more [.basins, .pwr, .free] (fun r => (r matches .LINE_CNT _) ||
      (r matches .LINE_ERR _) || (r matches .PWR_STATUS))
| .rxq0FrameProcess _ => frPond.more [.basins, .pwr] (fun r => (r matches .LINE_CNT _) || (r matches .PWR_STATUS))
| .claim _ _ => frPond
| .announce _ _ _ _ _ _ => frPond
| .objAnswer _ _ _ _ _ _ => frPond
| .report _ _ _ _ _ => frPond.more [.basins, .pwr] (fun r => (r matches .PWR_STATUS))
| .nodeRelease _ _ _ => frPond
| .lineTxComplete _ _ _ => frPond.more [.basins, .pwr, .fab, .free] (fun r => (r matches .LINE_CTL _) ||
      (r matches .LINE_DBT _) || (r matches .LINE_ERR _) || (r matches .LINE_NBT _) || (r matches .LINE_TDC _) ||
      (r matches .PWR_STATUS))
| .lineBusError _ _ _ => frPond.more [] (fun r => (r matches .LINE_ERR _))
| .busOffEntry _ => frPond.more [.clk, .bead, .fab, .free] (fun r => (r matches .ESC_LAST) || (r matches .GLB_FAULT)
      || (r matches .LINE_CTL _) || (r matches .LINE_DBT _) || (r matches .LINE_ERR _) || (r matches .LINE_NBT _) ||
      (r matches .LINE_TDC _))
| .lineBusOn _ => frPond.more [] (fun r => (r matches .LINE_ERR _))
| .announceTimer _ _ => frPond
| .responseWindowEnd _ _ => frPond
| .requestTimeout _ _ => frPond
| .pollTimer _ => frPond
| .absentHoldExpiry _ _ => frPond
| .quarantineExpiry _ _ => frPond
| .timeFrameBoundary _ => frPond
| .timeFrameWithdraw _ => frPond
| .shaftEdge _ _ _ _ => frNone.more [.doors, .sei, .free] (fun r => (r matches .BELT_RATE _) ||
      (r matches .BELT_STATUS _))
| .shaftQuadError _ => frPost.more [] (fun r => (r matches .BELT_STATUS _))
| .zEdge _ => frPond.more [.sei] noReg
| .beltStopTimeout _ => frNone.more [.doors, .sei] (fun r => (r matches .BELT_RATE _) || (r matches .BELT_STATUS _))
| .armingCycle _ => frPond.more [.sei] (fun r => (r matches .BELT_STATUS _))
| .slotMatch _ _ => frNone.more [.doors, .sei] noReg
| .markAction _ _ => frPond.more [.cullet, .sei] noReg
| .lateAction _ _ => frPond.more [.cullet, .sei] (fun r => (r matches .SEI_STATUS))
| .outfallPulseEnd _ => frNone.more [.sei] noReg
| .inletEdge _ _ => frPost.more [.engines, .basins, .sei, .svc, .pwr] (fun r => (r matches .PWR_STATUS))
| .ppsRise => frNone.more [.sei] noReg
| .ppsFall => frNone.more [.sei] noReg
| .calWindowEnd _ => frNone.more [.sei] (fun r => (r matches .SEI_CAL))
| .inrushComplete _ => frPond.more [.chans] (fun r => (r matches .PD_VOUT _))
| .railSag _ _ => frPond.more [.chans] noReg
| .railRecover _ _ => frPond.more [.chans] noReg
| .holdLimit _ => frPdDown.more [.clk, .chans, .rails, .bead] (fun r => (r matches .ESC_LAST) ||
      (r matches .GLB_FAULT) || (r matches .PWR_WAKE_CAUSE))
| .inrushTimeout _ => frPdDown.more [.clk, .chans, .bead] (fun r => (r matches .GLB_FAULT) ||
      (r matches .PWR_WAKE_CAUSE))
| .fastTrip _ _ => frPdDown.more [.clk, .chans, .bead] (fun r => (r matches .GLB_FAULT) ||
      (r matches .PWR_WAKE_CAUSE))
| .breakerTrip _ _ _ => frPdDown.more [.clk, .chans, .bead] (fun r => (r matches .GLB_FAULT) ||
      (r matches .PWR_WAKE_CAUSE))
| .retryDue _ => frPond.more [.chans] (fun r => (r matches .PD_STATUS _))
| .retryCountReset _ => frPond.more [.chans] noReg
| .fetFaultDetect _ _ => frPond.more [.clk, .chans, .bead] (fun r => (r matches .GLB_FAULT))
| .railSenseMismatch _ => frPond.more [.clk, .rails, .bead] (fun r => (r matches .GLB_FAULT) ||
      (r matches .RAIL_STATUS _))
| .railDrawWindow _ _ => frPond.more [.clk, .chans, .rails, .bead] (fun r => (r matches .GLB_FAULT) ||
      (r matches .PD_STATUS _) || (r matches .RAIL_STATUS _))
| .shedGraceExpiry _ => frPost.more [.fl, .trunk, .reqs, .pond, .engines, .basins, .ports, .chans, .rails, .svc, .pwr,
      .fab] anyReg
| .railBlockEnd _ => frPond.more [.chans, .rails] (fun r => (r matches .PD_STATUS _))
| .vsafe5vReached _ => frPond.more [] (fun r => (r matches .PD_STATUS _))
| .sourceCapsTimer _ _ => frPdDown
| .pdRequest _ _ _ _ _ => frPond.more [] (fun r => (r matches .PD_STATUS _))
| .pdMessage _ _ => frPond.more [] (fun r => (r matches .PD_STATUS _))
| .pdEprMode _ _ => frPdDown
| .vconnSwapReceive _ => frPond.more [] (fun r => (r matches .PD_STATUS _))
| .hardResetReceive _ => frPdDown
| .acceptDelayExpiry _ => frPond.more [] (fun r => (r matches .PD_VOUT _))
| .readVoutPoll _ _ => frPond.more [] (fun r => (r matches .PD_STATUS _) || (r matches .PD_VOUT _))
| .pmbusAlert _ _ _ => frPdDown.more [.clk, .bead] (fun r => (r matches .GLB_FAULT))
| .statusWordPoll _ _ => frPdDown.more [.clk, .bead] (fun r => (r matches .GLB_FAULT))
| .converterFault _ _ => frPdDown.more [.clk, .bead] (fun r => (r matches .GLB_FAULT))
| .eprKeepaliveTimeout _ => frPdDown
| .ppsRequestTimeout _ => frPdDown
| .vconnOvercurrent _ _ => frPond.more [.clk, .bead] (fun r => (r matches .GLB_FAULT) || (r matches .PD_STATUS _))
| .cableDiscovery _ _ => frPond.more [] (fun r => (r matches .PD_STATUS _))
| .pdNextOpportunity _ => frPond.more [] (fun r => (r matches .PD_STATUS _))
| .reducedRequestTimeout _ => frPdDown
| .vconnGiveTimeout _ => frPdDown
| .swapRetryWaitExpiry _ => frPond.more [] (fun r => (r matches .PD_STATUS _))
| .swapNoAnswer _ => frPond.more [] (fun r => (r matches .PD_STATUS _))
| .hardResetRecovery _ => frPond.more [] (fun r => (r matches .PD_STATUS _) || (r matches .PD_VOUT _))
| .errorRecoveryEnd _ => frPond.more [] (fun r => (r matches .PD_STATUS _) || (r matches .PD_VOUT _))
| .quietTimerExpiry _ => frPond.more [.clk, .basins, .sei, .pwr, .fab] (fun r => (r matches .CW_STATUS) ||
      (r matches .PWR_REFUSE) || (r matches .PWR_STATUS))
| .idleWake _ => frNone.more [.basins, .pwr] (fun r => (r matches .PWR_STATUS))
| .entryStepComplete => frDevice
| .wakeRequest _ _ => frDevice
| .lowPowerExitComplete _ => frPond.more [.clk, .fl, .basins, .sei, .pwr, .bead, .fab] (fun r =>
      (r matches .BELT_STATUS _) || (r matches .CW_STATUS) || (r matches .GLB_FAULT) || (r matches .PWR_STATUS) ||
      (r matches .SEI_STATUS) || (r matches .SEI_UNCERT) || (r matches .TRK_SPILL) || (r matches .TRK_STATUS))
| .reservoirEccError _ _ => frDevice
| .queuePtrMismatch _ => frDevice
| .engineOverrun _ => frReset.more [.ladders] (fun r => (r matches .ENG_BASIN _) || (r matches .ENG_QUAR _) ||
      (r matches .RST_CMD))
| .engineHang _ _ => frReset.more [.ladders] (fun r => (r matches .ENG_BASIN _) || (r matches .ENG_QUAR _) ||
      (r matches .RST_CMD))
| .engineParity _ _ => frReset.more [.ladders] (fun r => (r matches .ENG_BASIN _) || (r matches .ENG_QUAR _) ||
      (r matches .RST_CMD))
| .engineTakeover _ => frPond.more [.clk, .cullet, .bead] (fun r => (r matches .ENG_BASIN _) ||
      (r matches .GLB_FAULT))
| .recoveryWindowEnd _ _ => frNone.more [.fl, .pond, .ladders] noReg
| .lockstepMismatch => frReset.more [.ladders] noReg
| .cwPassStart => frNone.more [.fab] noReg
| .cwPassEnd => frPond.more [.clk, .bead, .fab] (fun r => (r matches .CW_BLK _) || (r matches .CW_CALC) ||
      (r matches .CW_STATUS) || (r matches .GLB_FAULT))
| .cwPauseExpiry => frNone.more [.doors, .fab] (fun r => (r matches .CW_CTL) || (r matches .CW_STATUS))
| .cfgParityFailure _ => frPost.more [.clk, .trunk, .reqs, .pond, .engines, .ports, .chans, .sei, .svc, .bead, .fab]
      anyReg
| .attestRecordWrite => frNone.more [.bead] (fun r => (r matches .BEAD_STATUS))
| .snapshotWrite => frNone.more [.bead, .free] (fun r => (r matches .BEAD_CNT) || (r matches .BEAD_STATUS))
| .beadCommitEnd _ => frPost.more [.trunk, .reqs, .bead, .blocks, .free] (fun r => (r matches .BEAD_STATUS))
| .inventory _ _ _ => frNone.more [.bead] noReg
| .stayQuiet _ => frNone.more [.bead] noReg
| .readSingleBlock _ _ => frNone.more [.bead] (fun r => (r matches .BEAD_CNT))
| .writeSingleBlock _ _ _ => frNone.more [.bead] (fun r => (r matches .BEAD_CNT) || (r matches .BEAD_STATUS))
| .lockBlock _ _ => frNone.more [.bead, .locked] (fun r => (r matches .BEAD_CNT))
| .readMultipleBlocks _ _ _ => frNone.more [.bead] (fun r => (r matches .BEAD_CNT))
| .select _ => frNone.more [.bead] noReg
| .resetToReady _ => frNone.more [.bead] noReg
| .getSystemInformation _ => frNone.more [.bead] noReg
| .getBlockSecurityStatus _ _ _ => frNone.more [.bead] (fun r => (r matches .BEAD_CNT))
| .lockSession _ _ => frNone.more [.doors, .bead] (fun r => (r matches .BEAD_CNT) || (r matches .BEAD_STATUS))
| .unlockSession _ => frNone.more [.doors, .bead] (fun r => (r matches .BEAD_CNT) || (r matches .BEAD_STATUS))
| .readRecord _ _ => frNone.more [.bead] (fun r => (r matches .BEAD_CNT))
| .getBeadStatus _ => frNone.more [.bead] noReg
| .beadSessionExpiry => frNone.more [.doors, .bead] (fun r => (r matches .BEAD_STATUS))
| .beadFieldLoss => frNone.more [.doors, .bead] (fun r => (r matches .BEAD_STATUS))
| .streamOpen _ _ _ _ _ => frPond.more [.basins, .pwr] (fun r => (r matches .PWR_STATUS))
| .streamClose _ _ _ => frPond.more [.basins, .pwr] (fun r => (r matches .PWR_STATUS))
| .svcBusSuspend => frNone.more [.svcPort] noReg
| .svcStandardRequest _ => frNone.more [.svcPort] noReg
| .lineBusRejoin _ => frPond
| .readerFieldPresent _ => frNone.more [.bead] (fun r => (r matches .BEAD_STATUS))
| .statusBallLowTimeExpiry _ => frNone.more [.clk] noReg
| .microcodeReloadDone => frNone.more [.fw] noReg
| .serviceTableRebuildEnd => frPond.more [.fw, .basins, .pwr] (fun r => (r matches .PWR_STATUS))
| .regAccessSessionChange _ => frNone.more [.fab] (fun r => (r matches .CW_STATUS) || (r matches .GLB_STRAP))

/-- A command, where it answers a next state, keeps everything outside its frame, and the queue as it is. -/
def Framed (i : Instr) : Prop := ∀ s t, exec i s = .next t → Kept (frameOf i) s.chip t.chip ∧ t.pending = s.pending

/-- A command completes in a state: exec answers a next state, the queue as it was, of whose chip `p` holds. -/
def Runs (i : Instr) (s : State) (p : Chip → Prop) : Prop :=
  ∃ t, exec i s = .next t ∧ t.pending = s.pending ∧ p t.chip

/-- Firmware can take the request of ring entry `e` for an opcode with these target kinds (R135, R141, R144): it may start,
no epoch differs, its target is valid, and its door is not being released (R131). -/
structure Startable (c : Chip) (q : ReqId) (op : BitVec 16) (kinds : List Nat) (e : ReqEntry) : Prop where
  ready : c.ready q op = some e
  epochs : c.takeVerdict q e = none
  target : badTarget e.req = false
  kind : kinds.contains e.req.tgtKind = true
  held : (c.doors[q.door]).releasing = none

/-- The request of entry `e` is answered (R136): its entry is done, and the ring or what waits for it holds a response part
with the request's opcode and tag, the result and the data. -/
def Answered (c : Chip) (q : ReqId) (e : ReqEntry) (result : Nat) (data : List Nat) : Prop :=
  (∃ x, c.entry? q = some x ∧ x.st = .done) ∧
  ∃ p ∈ (c.doors[q.door]).rsps ++ (c.doors[q.door]).rspWait,
    p.opcode = e.req.opcode ∧ p.tag = e.req.tag ∧ p.result = result ∧ p.data = data

/-- The chip as firmware executes the request of ring entry `q`: taken from the ring, the quiet interval ended (R135, R330). -/
def Taken (c : Chip) (q : ReqId) : Chip := (c.setReqSt q .executing).active

/-- A request on a port: firmware can take it, and it names the port. -/
structure ForPort (c : Chip) (q : ReqId) (op : BitVec 16) (n : Port) (e : ReqEntry) : Prop where
  can : Startable c q op [1] e
  port : e.req.tgtIndex = n.val

/-- A request on a node address of a port. -/
structure ForNode (c : Chip) (q : ReqId) (op : BitVec 16) (n : Port) (a : Nat) (e : ReqEntry) : Prop where
  can : Startable c q op [3] e
  port : nodePort e.req.tgtIndex = n.val
  addr : nodeAddr e.req.tgtIndex = a

/-- The PD state after a Hard_Reset: the third within 10 s leads to error recovery (R306). -/
def afterHardReset (c : Chip) (n : Port) : Nat :=
  if 2 ≤ ((c.ports[n]).pd.hardResets.filter (fun t => c.clk.now < t + sec 10)).length then pdERROR_RECOVERY else pdHARD_RESET

/-- No Power Delivery operation of a port holds this request for an answer of its own. -/
def PdFree (c : Chip) (q : ReqId) : Prop :=
  ∀ m : Port, (c.ports[m]).pd.voutReq ≠ some q ∧ (c.ports[m]).pd.hrReq ≠ some q ∧ (c.ports[m]).pd.swapReq ≠ some q

/-- The capabilities message of a port as it stands: EPR_Source_Capabilities in EPR mode (R299). -/
def capsMsg (c : Chip) (n : Port) : PdOut :=
  let w := c.pdWords n (c.pdReduced n)
  if c.bit (.PD_STATUS n) F.PD_STATUS_EPR_MODE then .eprSourceCaps w else .sourceCaps w

/-- A fuse die takes a write at once: its link is up, the last frame to it was good, and no write waits (R17 to R19). -/
def DieFree (c : Chip) (d : Die) : Prop := c.dieHears d = true ∧ (c.fl[d]).writes = []

/-- The sample of a channel of a die in a frame: the last one for it (R16). -/
structure Sampled (d : Die) (xs : List ChSample) (x : ChSample) : Prop where
  die : fuseDie x.ch = d
  last : (xs.filter (fun y => y.ch == x.ch)).getLast? = some x

/-- A binding in force of a kind on an interface, and the open stream that its records go to (R208). -/
structure BoundTo (c : Chip) (n : Port) (r : BitVec 20) (i kind : Nat) (b : Bind) (t : Strm) : Prop where
  bound : c.bound? n r i kind = some b
  strm : c.bindStream b = some t
  first : c.svc.streams.find? (fun x => x.id == b.stream) = some t

/-- The records of the stream of an ID. -/
def recsOf (c : Chip) (id : BitVec 16) : List Rec := ((c.svc.streams.find? (fun x => x.id == id)).map (·.recs)).getD []

/-- A path may write this word to this register (R310, R312, R314, R315): the path is up, it holds the key where one guards
the register, and the word leaves the reserved bits as they read (R15). -/
structure Writable (c : Chip) (p : RegPath) (r : Reg) (v : Word) : Prop where
  up : c.pathUp p = true
  key : c.guarded r = true → c.unlocked p = true
  reserved : (v ^^^ c.readWord r) &&& r.rcMask = 0#32

/-- A register of the compute die whose write stores its bits and has no further effect: no RS field, and no rule that gives
its write a meaning of its own. -/
def plainReg (r : Reg) : Bool :=
  r.dom == .compute && r.fields.all (fun f => f.acc != .rs) &&
  !((r matches .KEY_UNLOCK) || (r matches .RST_CMD) || (r matches .MEAS_EXT_CTL) || (r matches .ATT_CTL) ||
    (r matches .XSPI_CMD) || (r matches .MEAS_EXT_DATA _) || (r matches .ATT_NONCE _) || (r matches .HOLDER_QUOTA _) ||
    (r matches .PIN_CFG _) || (r matches .LINE_NBT _) || (r matches .LINE_DBT _) || (r matches .LINE_TDC _) ||
    (r matches .PTP_CTL) || (r matches .GLB_FAULT) || (r matches .GLB_FAULT_EN) || (r matches .GLB_ALERT_EN) ||
    (r matches .BOOT_CTL) || (r matches .MBX_CTL) || (r matches .CLK_CTL) || (r matches .TRK_CTL) ||
    (r matches .TRK_PEER_MAC_LO) || (r matches .TRK_PEER_MAC_HI) || (r matches .BELT_CTL _) || (r matches .INLET_CTL _) ||
    (r matches .LINE_CTL _) || (r matches .POND_LOW_MARK) || (r matches .CW_CTL))

/-- The word such a register holds after a write of `v` (R14): its RW and K bits, as the notes of its table make them read. -/
def written (c : Chip) (r : Reg) (v : Word) : Word := normWord r ((c.rd r &&& ~~~r.rwMask) ||| (v &&& r.rwMask))

end Sys2Proof
end

