-- ==== Sys2Proof/Certificates/Slice0/Obligations.lean ====
section
/-! DEFINITION. The statements for the provers: what each command completes with, rules over all commands, frames. -/

section

open Sys2Proof Sys2Proof.Machine

/-! ### Supplies, boot, clocks and resets (03, 04) -/

/-- Power-on, PORST_N, supplies, the boot and its watchdog, and a device-scope reset: what each leaves (R53, R59, R60, R65, R67,
R70, R81, R84). A running device-scope reset absorbs a further request. Clauses rest on these choices of the model: log entries 13, 20, 25, 26, 29, 177, 227. -/
def Obligations.SupplyAndBoot : Prop := ∀ s : State, Canon s.chip →
  Runs .vddAonPowerOn s (fun c => c.clk.boot = .held ∧ c.clk.porst = false ∧ c.clk.trips = [] ∧
    ∀ r, r ≠ .BEAD_STATUS → r ≠ .BEAD_CNT → c.rd r = r.resetWord) ∧
  (∀ v, s.chip.clk.trips.contains v = false → s.chip.pwr.st ≠ .off → supplyHolds v = true → s.chip.clk.boot ≠ .held →
    Runs (.supplyMonitorTrip v) s (fun c => c.clk.boot = .held ∧ c.clk.trips = s.chip.clk.trips ++ [v] ∧
      c.get .RST_CAUSE F.RST_CAUSE_SUPPLY = supplyCode v ∧ c.get .RST_CAUSE F.RST_CAUSE_LAST = 2)) ∧
  (∀ v, s.chip.clk.trips.contains v = true →
    Runs (.supplyRecovered v) s (fun c => c.clk.trips = s.chip.clk.trips.filter (· != v))) ∧
  (s.chip.clk.porst = true →
    Runs .porstNLow s (fun c => c.clk.boot = .held ∧ c.clk.porst = false ∧
      (s.chip.inDeviceReset = false → c.get .RST_CAUSE F.RST_CAUSE_LAST = 1) ∧
      (s.chip.inDeviceReset = true → c.rd .RST_CAUSE = s.chip.rd .RST_CAUSE))) ∧
  (∀ straps, s.chip.clk.porst = false →
    Runs (.porstNRise straps) s (fun c => c.clk.porst = true ∧ c.get .GLB_STRAP F.GLB_STRAP_STRAP = straps.toNat)) ∧
  (∀ locks cfg, s.chip.clk.boot = .firmware → locks ≠ 0x1FF#9 →
    Runs (.firmwareBoot locks cfg) s (fun c => c.clk.boot = .frcOnly ∧ c.fw.hs = .run)) ∧
  (∀ cfg, s.chip.clk.boot = .firmware → Runs (.firmwareBoot 0x1FF#9 cfg) s (fun c => c.sei.running = true)) ∧
  (s.chip.clk.boot = .firmware → Runs (.firmwareBoot 0x1FF#9 none) s (fun c =>
    c.bit .TRK_CTL F.TRK_CTL_LANE_EN_TA = true ∧ c.bit .TRK_CTL F.TRK_CTL_LANE_EN_TB = true)) ∧
  (s.chip.inDeviceReset = false →
    (∀ t, s.chip.clk.wdt = some t → t ≤ s.chip.clk.now →
      Runs .bootWatchdogExpiry s (fun c => c.get .RST_CAUSE F.RST_CAUSE_LAST = 4)) ∧
    Runs (.deviceReset none) s (fun c => c.get .RST_CAUSE F.RST_CAUSE_LAST = 4) ∧
    (∀ q e, Startable s.chip q (Config.opReset 5) [0, 1, 2, 3, 4] e →
      Runs (.deviceReset (some q)) s (fun c => c.get .RST_CAUSE F.RST_CAUSE_LAST = 3))) ∧
  (s.chip.inDeviceReset = true → Runs (.deviceReset none) s (fun c => c = s.chip))

/-- The reference clocks and the PLLs (R62 to R66, R247): what CLK_STATUS and the slew show afterwards. Clauses rest on these choices of the model: log entries 21, 22, 24, 25, 31, 228. -/
def Obligations.ReferenceClocks : Prop := ∀ s : State, Canon s.chip →
  (∀ g, s.chip.pllEn g = true → s.chip.locked g = false → s.chip.clk.lockBy.isSome = true →
    Runs (.pllLock g) s (fun c => c.locked g = true)) ∧
  (∀ t, s.chip.clk.lockBy = some t → t ≤ s.chip.clk.now →
    s.chip.get .CLK_CTL F.CLK_CTL_PLL_EN &&& (s.chip.get .CLK_STATUS F.CLK_STATUS_LOCK ^^^ 0x1FF) ≠ 0 →
    Runs .pllLockTimeout s (fun c => c.clk.lockBy = none ∧ c.bitAt .GLB_FAULT F.GLB_FAULT_SRC (FaultSrc.pll).bit = true ∧
      (s.chip.clk.boot = .firmware → c.clk.boot = .frcOnly))) ∧
  (s.chip.bit .CLK_CTL F.CLK_CTL_REF_EN = true → s.chip.bit .CLK_STATUS F.CLK_STATUS_XTAL_OK = true →
    s.chip.bit .CLK_STATUS F.CLK_STATUS_REF_QUAL = false →
    Runs .refInQualified s (fun c => c.bit .CLK_STATUS F.CLK_STATUS_REF_QUAL = true)) ∧
  (s.chip.bit .CLK_STATUS F.CLK_STATUS_REF_QUAL = true →
    Runs .refInLost s (fun c => c.bit .CLK_STATUS F.CLK_STATUS_REF_QUAL = false ∧
      (s.chip.bit .CLK_STATUS F.CLK_STATUS_XTAL_OK = false → c.bit .CLK_STATUS F.CLK_STATUS_HOLDOVER = true))) ∧
  (s.chip.bit .CLK_STATUS F.CLK_STATUS_XTAL_OK = true → s.chip.pwr.st ≠ .deep → s.chip.pwr.st ≠ .off →
    Runs .crystalFailure s (fun c => c.bit .CLK_STATUS F.CLK_STATUS_XTAL_OK = false ∧
      c.bitAt .GLB_FAULT F.GLB_FAULT_SRC (FaultSrc.xtal).bit = true)) ∧
  (s.chip.bit .CLK_STATUS F.CLK_STATUS_XTAL_OK = false →
    Runs .crystalReturn s (fun c => c.bit .CLK_STATUS F.CLK_STATUS_XTAL_OK = true ∧
      c.bit .CLK_STATUS F.CLK_STATUS_HOLDOVER = s.chip.refFree ∧
      c.clk.slewing = (s.chip.clk.slewing || !s.chip.refFree))) ∧
  (s.chip.clk.slewing = true → s.chip.bit .CLK_STATUS F.CLK_STATUS_XTAL_OK = true → s.chip.refFree = false →
    Runs .pllRefSlewEnd s (fun c => c.clk.slewing = false)) ∧
  (∀ g, s.chip.onPlls = true → s.chip.locked g = true → g.val = 0 ∨ 3 ≤ g.val →
    Runs (.pllUnlock g) s (fun c => c.locked g = false ∧ c.bit .CLK_STATUS F.CLK_STATUS_UNLOCK_SEEN = true)) ∧
  (∀ g, s.chip.inDeviceReset = false → s.chip.onPlls = true → s.chip.locked g = true → g.val = 1 ∨ g.val = 2 →
    Runs (.pllUnlock g) s (fun c => c.get .RST_CAUSE F.RST_CAUSE_LAST =
      if s.chip.bit .CLK_STATUS F.CLK_STATUS_XTAL_OK then 5 else 4)) ∧
  (∀ g, s.chip.onPlls = true → s.chip.locked g = false → s.chip.pllEn g = true →
    Runs (.pllRelock g) s (fun c => c.locked g = true))

/-- The reset scopes (R67 to R70): a request or a recovery step starts the reset of its scope, which runs until RESET_DONE. Clauses rest on these choices of the model: log entries 5, 28, 34, 65. -/
def Obligations.ResetScopes : Prop := ∀ s : State,
  (∀ n, Runs (.portReset n none) s (fun c => c.clk.resets.any (fun r => r.sc == .port n) = true)) ∧
  (∀ n q e, Startable s.chip q (Config.opReset 1) [0, 1, 2, 3, 4] e →
    Runs (.portReset n (some q)) s (fun c => c.clk.resets.any (fun r => r.sc == .port n && r.waiters.contains q) = true)) ∧
  (∀ b bad ok, Runs (.basinReset b none bad ok) s (fun c => c.clk.resets.any (fun r => r.sc == .basin b) = true)) ∧
  (∀ b q e bad ok, Startable s.chip q (Config.opReset 2) [0, 1, 2, 3, 4] e →
    Runs (.basinReset b (some q) bad ok) s (fun c => c.clk.resets.any (fun r => r.sc == .basin b && r.waiters.contains q) = true)) ∧
  Runs (.headspringReset none) s (fun c => c.clk.resets.any (fun r => r.sc == .headspring) = true) ∧
  (∀ q e, Startable s.chip q (Config.opReset 3) [0, 1, 2, 3, 4] e →
    Runs (.headspringReset (some q)) s (fun c => c.clk.resets.any (fun r => r.sc == .headspring && r.waiters.contains q) = true)) ∧
  (∀ l, Runs (.laneReset l none) s (fun c => c.clk.resets.any (fun r => r.sc == .lane l) = true)) ∧
  (∀ l q e, Startable s.chip q (Config.opReset 4) [0, 1, 2, 3, 4] e →
    Runs (.laneReset l (some q)) s (fun c => c.clk.resets.any (fun r => r.sc == .lane l && r.waiters.contains q) = true)) ∧
  (∀ sc, s.chip.pond.rebuild = false → s.chip.mayEnd sc = true → s.chip.clk.resets.any (fun r => r.sc == sc) = true →
    Runs (.resetDone sc) s (fun c => c.clk.resets.any (fun r => r.sc == sc) = false))

/-- Writes of BOOT_CTL and CLK_CTL by a path that may write them (R63, R65, R84, R310, R314). Clauses rest on these choices of the model: log entries 18, 23, 228. -/
def Obligations.BootAndClockWrites : Prop := ∀ s : State, Canon s.chip → s.chip.pond.grants = [] → ∀ p v,
  (Writable s.chip p .BOOT_CTL v → v.getLsbD F.BOOT_CTL_BOOT_OK.lo = true →
    Runs (.bootOkWrite p v) s (fun c => c.fab.answers[p] = ⟨0#32, fsDONE⟩ ∧ c.clk.wdt = none ∧ c.clk.bootFault = false ∧
      c.bit .BOOT_CTL F.BOOT_CTL_BOOT_OK = true)) ∧
  (Writable s.chip p .CLK_CTL v →
    Runs (.clkCtlPllEn p v) s (fun c => c.fab.answers[p] = ⟨0#32, fsDONE⟩ ∧
      c.get .CLK_CTL F.CLK_CTL_PLL_EN = fget v F.CLK_CTL_PLL_EN ∧ ∀ r, r ≠ .CLK_CTL → r ≠ .CLK_STATUS → r ≠ .SEI_UNCERT →
        c.rd r = s.chip.rd r)) ∧
  (Writable s.chip p .CLK_CTL v →
    Runs (.clkCtlSysSel p v) s (fun c => c.fab.answers[p] = ⟨0#32, fsDONE⟩ ∧
      c.get .CLK_CTL F.CLK_CTL_SYS_SEL = fget v F.CLK_CTL_SYS_SEL)) ∧
  (Writable s.chip p .CLK_CTL v →
    Runs (.clkCtlRefEn p v) s (fun c => c.fab.answers[p] = ⟨0#32, fsDONE⟩ ∧
      c.get .CLK_CTL F.CLK_CTL_REF_EN = fget v F.CLK_CTL_REF_EN))

/-! ### The trunk (05) -/

/-- Frames received (R107, R111, R114, R115, R122): a valid LANE or WAKE frame and the next frame of an open space are
delivered, a
bad one is counted, and each consumer takes the first delivered frame of its kind and acts on it (R118, R119, R121, R133). Clauses rest on these choices of the model: log entries 36, 43, 171, 172, 175. -/
def Obligations.TrunkReceiving : Prop := ∀ s : State, Canon s.chip →
  (∀ l f, s.chip.up l = true → s.chip.awake = true → f.fcsOk = true → f.toUs = true → f.crcOk = true → f.ver = 1#8 →
    f.etherType = (s.chip.trunk.lanes[l]).etherType → f.etherType ≠ 0x88F7#16 → f.length.toNat ≤ s.chip.payloadMax →
    f.length.toNat ≤ f.payload.length → f.typ = 6#8 ∨ f.typ = 7#8 → rxFits f l = true →
    (f.typ = 7#8 → s.chip.offActive l = false) →
    Runs (.ttpFrameReceive l f) s (fun c => c.trunk.delivered = s.chip.trunk.delivered ++ [(l, f)] ∧
      (c.trunk.lanes[l]).dest = some f.src)) ∧
  (∀ l f x, s.chip.up l = true → s.chip.awake = true → f.fcsOk = true → f.toUs = true → f.crcOk = true → f.ver = 1#8 →
    f.etherType = (s.chip.trunk.lanes[l]).etherType → f.etherType ≠ 0x88F7#16 → f.length.toNat ≤ s.chip.payloadMax →
    f.length.toNat ≤ f.payload.length → f.typ = 1#8 ∨ f.typ = 4#8 ∨ f.typ = 5#8 → rxFits f l = true →
    s.chip.offActive l = false → rxGap f = false →
    s.chip.trunk.rx.find? (fun y => y.cls == (rxSpace f).1 && y.id == (rxSpace f).2) = some x →
    x.last = some (f.seq - 1#32) → x.buf = [] →
    Runs (.ttpFrameReceive l f) s (fun c => c.trunk.delivered = s.chip.trunk.delivered ++ [(l, f)] ∧
      (c.trunk.rx.find? (fun y => y.cls == (rxSpace f).1 && y.id == (rxSpace f).2)).map (·.last) = some (some f.seq))) ∧
  (∀ l f, s.chip.up l = true → s.chip.awake = true → f.fcsOk = false → f.etherType ≠ 0x88F7#16 →
    Runs (.ttpFrameReceive l f) s (fun c => c.trunk.delivered = s.chip.trunk.delivered ∧
      c.get (.TRK_ERR l) F.TRK_ERR_FRAME_ERR = sat 16 (s.chip.get (.TRK_ERR l) F.TRK_ERR_FRAME_ERR + 1))) ∧
  (∀ d m f c₁, s.chip.awake = true →
    s.chip.takeDelivered (fun _ f => f.typ.toNat == ttMBX_REQ && f.id.toNat == d.val) = some ((m, f), c₁) →
    (s.chip.doors[d]).path = some .trunk → (s.chip.doors[d]).releasing = none → (s.chip.doors[d]).reqs.length < 256 →
    (parseRequest f.payload).opcode ≠ opDOOR_CLAIM → s.chip.checkEpochs d (parseRequest f.payload) (some f.epoch) true = none →
    s.chip.pond.grants = [] → s.chip.modeChange? (parseRequest f.payload) = none ∨ (s.chip.pond.waiters = [] ∧
      s.chip.pond.refused = []) →
    Runs (.mbxReqReceive d true) s (fun c => c.trunk.delivered = c₁.trunk.delivered ∧ c.nextOrd = s.chip.nextOrd + 1 ∧
      ∃ e, (c.doors[d]).reqs = (s.chip.doors[d]).reqs ++ [e] ∧ e.req = parseRequest f.payload ∧ e.st = .pending ∧
        e.ord = s.chip.nextOrd)) ∧
  (∀ id m f c₁ st, s.chip.awake = true → s.chip.inTarn = false → s.chip.strmStopped id = false →
    s.chip.takeDelivered (fun _ f => f.typ.toNat == ttSTREAM && f.id == id) = some ((m, f), c₁) →
    s.chip.svc.streams.find? (fun x => x.id == id) = some st → st.closed = false →
    f.epoch = (s.chip.ports[st.port]).epoch →
    serial (BitVec.ofNat 32 (st.received + f.length.toNat)) st.credit ≠ .ahead →
    Runs (.streamFrameReceive id true) s (fun c => c.trunk.delivered = c₁.trunk.delivered ∧
      c.svc.streams.find? (fun x => x.id == id) =
        some (Strm.arrive { st with received := st.received + f.length.toNat } (f.payload.take f.length.toNat)))) ∧
  (∀ l m f c₁, s.chip.takeLane l lfSWAP_REQ = some ((m, f), c₁) → s.chip.up l = true →
    s.chip.swapVerdict (leAt f.payload 1 1) = 0 → s.chip.degraded (Fin.ofNat 2 (leAt f.payload 1 1)) = false →
    Runs (.swapReqReceive l) s (fun c => c.active? = Fin.ofNat 2 (leAt f.payload 1 1) ∧
      c.bit .TRK_STATUS F.TRK_STATUS_SWAP_PEND = (s.chip.bit .TRK_STATUS F.TRK_STATUS_SWAP_PEND && s.chip.trunk.swap.isNone))) ∧
  (∀ l m f c₁ w, s.chip.takeLane l lfSWAP_ACK = some ((m, f), c₁) → s.chip.trunk.swap = some w →
    leAt f.payload 4 4 = w.seq.toNat → leAt f.payload 2 1 ≠ 0 ∨ s.chip.degraded w.lane = false →
    Runs (.swapAckReceive l) s (fun c => c.bit .TRK_STATUS F.TRK_STATUS_SWAP_PEND = false ∧
      c.active? = if leAt f.payload 2 1 = 0 then w.lane else s.chip.active?)) ∧
  (∀ l m f c₁, s.chip.takeLane l lfECHO_REPLY = some ((m, f), c₁) →
    (s.chip.sei.time - BitVec.ofNat 64 (leAt f.payload 8 8)).toNat ≤ s.chip.get .TRK_CFG2 F.TRK_CFG2_LAT_WARN →
    Runs (.echoReplyReceive l) s (fun c =>
      (c.trunk.lanes[l]).rtt = (s.chip.sei.time - BitVec.ofNat 64 (leAt f.payload 8 8)).toNat ∧
      (s.chip.up l = true → c.inTarn = false))) ∧
  (∀ l m f c₁, s.chip.awake = true →
    s.chip.takeDelivered (fun x f => x == l && f.typ.toNat == ttWAKE) = some ((m, f), c₁) → s.chip.wakeKey f = true →
    Runs (.wakeFrameReceive l) s (fun c => c.trunk.delivered = c₁.trunk.delivered ∧
      (s.chip.hasDest l = true → (c.trunk.lanes[l]).hist.head?.map (fun h => (h.2.typ, h.2.flags)) = some (ttWAKE, tfACK)) ∧
      (s.chip.hasDest l = false → ∃ f, (c.trunk.lanes[l]).waiting = (s.chip.trunk.lanes[l]).waiting ++ [f] ∧
        f.typ = ttWAKE ∧ f.flags = tfACK)))

/-- PTP and ECHO (R118, R123 to R125). Clauses rest on these choices of the model: log entries 37, 39, 169, 178. -/
def Obligations.TrunkPtp : Prop := ∀ s : State,
  (∀ l, s.chip.ptpOn l = true → s.chip.ptpDue (s.chip.trunk.lanes[l]).syncAt s.chip.syncSpan = true →
    Runs (.ptpSyncSend l) s (fun c =>
    (c.trunk.lanes[l]).syncSeq = (s.chip.trunk.lanes[l]).syncSeq + 1 ∧ c.trunk.ptpPaused = false ∧
    (c.trunk.lanes[l]).syncAt = some s.chip.clk.now ∧
      (c.trunk.lanes[l]).hist.head?.map (fun h => (h.2.dst, h.2.etherType, h.2.body)) =
      some (ptpMac, 0x88F7#16, .bytes (ptpMsg pkFOLLOW_UP s.chip.ptpDomain l 0
        (ptpRest (s.chip.sei.time + BitVec.ofNat 64 (s.chip.get (.PTP_LAT l) F.PTP_LAT_TX_ADJ))) (s.chip.trunk.lanes[l]).syncSeq s.chip.syncLog
        (ptpStamp (s.chip.sei.time + BitVec.ofNat 64 (s.chip.get (.PTP_LAT l) F.PTP_LAT_TX_ADJ))))))) ∧
  (∀ l, s.chip.ptpOn l = true → s.chip.trunk.ptpPaused = false →
    s.chip.ptpDue (s.chip.trunk.lanes[l]).annAt (sec 1 * 2 ^ s.chip.get .PTP_CTL F.PTP_CTL_ANN_LOG) = true →
      Runs (.ptpAnnounceSend l) s (fun c =>
    (c.trunk.lanes[l]).annSeq = (s.chip.trunk.lanes[l]).annSeq + 1 ∧
    (c.trunk.lanes[l]).annAt = some s.chip.clk.now ∧ (c.trunk.lanes[l]).hist.head?.map (fun h => h.2.body) =
      some (.bytes (ptpMsg pkANNOUNCE s.chip.ptpDomain l s.chip.announceFlags 0 (s.chip.trunk.lanes[l]).annSeq
        (s.chip.get .PTP_CTL F.PTP_CTL_ANN_LOG) (announceBody (s.chip.get .PTP_CTL F.PTP_CTL_PRIORITY1)))))) ∧
  (∀ l req seq dom, s.chip.ptpOn l = true → s.chip.trunk.ptpPaused = false → dom.toNat = s.chip.ptpDomain →
    (s.chip.trunk.lanes[l]).delayReqs < 1024 ∨ (s.chip.trunk.lanes[l]).delayFrom + sec 1 ≤ s.chip.clk.now →
    Runs (.ptpDelayReqReceive l req seq dom) s (fun c => (c.trunk.lanes[l]).hist.head?.map (fun h => h.2.body) =
      some (.bytes (ptpMsg pkDELAY_RESP s.chip.ptpDomain l 0
        (req.corr.toNat + ptpRest (s.chip.sei.time - BitVec.ofNat 64 (s.chip.get (.PTP_LAT l) F.PTP_LAT_RX_ADJ))) seq Config.delayRespLog.toNat
        (ptpStamp (s.chip.sei.time - BitVec.ofNat 64 (s.chip.get (.PTP_LAT l) F.PTP_LAT_RX_ADJ)) ++ beBytes 10 req.port.toNat))))) ∧
  (∀ l id, s.chip.up l = true → s.chip.awake = true → id ≠ clockIdentity →
    s.chip.rates.find? (fun w => w.code == 0x014B && w.src == 0) = none →
    Runs (.ptpAnnounceReceive l id) s (fun c => ∀ d : Door, (s.chip.doors[d]).path.isSome = true →
      (s.chip.doors[d]).sub.getLsbD 1 = true → (s.chip.doors[d]).evts.length < 4095 →
      ∃ e, (c.doors[d]).evts = (s.chip.doors[d]).evts ++ [e] ∧ e.code = 0x014B ∧ e.payload = [l.val, id.toNat])) ∧
  (s.chip.awake = true → s.chip.sei.running = true → s.chip.sei.time.toNat % 1600000 = 0 →
    Runs .echoSend s (fun c => ∀ l : LaneId, s.chip.up l = true →
      (c.trunk.lanes[l]).hist.head?.map (fun h => h.2.typ) = some ttLANE))

/-- Lanes (R108, R109, R114 to R119, R336). Clauses rest on these choices of the model: log entries 40, 42, 43, 44, 45, 48, 173, 176, 209, 232, 233, 235. -/
def Obligations.TrunkLanes : Prop := ∀ s : State, Canon s.chip →
  (∀ l, s.chip.up l = false → s.chip.laneEn l = true → (s.chip.trunk.lanes[l]).held = false → s.chip.noPll = false →
    s.chip.pwr.st ≠ .deep → s.chip.pwr.st ≠ .off → Runs (.laneUp l) s (fun c => c.up l = true ∧
      c.up (otherLane l) = s.chip.up (otherLane l))) ∧
  (∀ l k, s.chip.up l = true →
    Runs (.laneLossDeclared l k) s (fun c => c.up l = false ∧ c.up (otherLane l) = s.chip.up (otherLane l))) ∧
  (∀ l a, s.chip.trunk.failover = some (l, a) → s.chip.up (otherLane l) = true →
    Runs .failoverComplete s (fun c => c.trunk.failover = none ∧ (c.trunk.lanes[l]).hist = [])) ∧
  (∀ l t, s.chip.awake = true → s.chip.inTarn = false → (s.chip.trunk.lanes[l]).backAt = some t → t ≤ s.chip.clk.now →
    Runs (.laneBackTimer l) s (fun c => (c.trunk.lanes[l]).backAt = none)) ∧
  (∀ l n e, s.chip.up l = true → s.chip.awake = true →
    16 ≤ ((s.chip.trunk.lanes[l]).crcAt.filter (fun t => t + n ≤ s.chip.clk.now ∧ s.chip.clk.now < t + n + ms 1)).length ∨
      e = true →
    Runs (.laneDegradedWindow l n e) s (fun c => c.degraded l = true)) ∧
  (∀ l t, (s.chip.trunk.lanes[l]).healthyAt = some t → t ≤ s.chip.clk.now →
    Runs (.laneHealthy l) s (fun c => c.degraded l = false ∧ (c.trunk.lanes[l]).healthyAt = none)) ∧
  (∀ w, s.chip.trunk.swap = some w → w.deadline ≤ s.chip.clk.now →
    Runs .swapTimerExpiry s (fun c => c.bit .TRK_STATUS F.TRK_STATUS_SWAP_PEND = false ∧ c.active? = s.chip.active?)) ∧
  (∀ k id x t z y r, s.chip.trunk.rx.find? (fun x => x.cls == k && x.id == id.toNat) = some x → x.oldest = some t →
    t + us (s.chip.get .TRK_CFG2 F.TRK_CFG2_REORDER_HOLD) ≤ s.chip.clk.now → x.last = some z → x.buf = y :: r →
    Runs (.reorderHoldExpiry k id) s (fun c => ∃ more, c.trunk.delivered = s.chip.trunk.delivered ++ y.2 :: more)) ∧
  (∀ t, s.chip.trunk.laneBy = some t → t ≤ s.chip.clk.now → s.chip.up 0 = false → s.chip.up 1 = false →
    Runs .noLaneAfterDeep s (fun c => c.inTarn = true))

/-- Frames sent, and the trunk's door opcodes (R112, R115, R119, R123, R127, R136 to R138). Clauses rest on these choices of the model: log entries 6, 41, 55, 170, 174, 175. -/
def Obligations.TrunkSending : Prop := ∀ s : State, Canon s.chip →
  (∀ l, s.chip.trunk.replay = some l → s.chip.awake = true → s.chip.hasDest l = true →
    Runs .spillReplayEnd s (fun c => c.trunk.spill = [] ∧ c.trunk.gaps = [] ∧ c.trunk.replay = none)) ∧
  (∀ d, (s.chip.doors[d]).path = some .trunk → (s.chip.doors[d]).sent < (s.chip.doors[d]).evts.length →
    s.chip.canSend 1 d.val = true →
    Runs (.eventFrameSend d) s (fun c => (c.doors[d]).evts = (s.chip.doors[d]).evts ∧
      (c.doors[d]).sent = min ((s.chip.doors[d]).sent + 32) (s.chip.doors[d]).evts.length)) ∧
  (∀ d, oneResponse (s.chip.payloadMax / 64) ((s.chip.doors[d]).rsps.filter (fun p => p.path == .trunk)) ≠ [] →
    s.chip.canSend 0 d.val = true → s.chip.doorStall = false →
    Runs (.mbxRspSend d) s (fun c => c.doors[d] = (s.chip.doors[d]).sendParts
      (oneResponse (s.chip.payloadMax / 64) ((s.chip.doors[d]).rsps.filter (fun p => p.path == .trunk))))) ∧
  (∀ id st, s.chip.svc.streams.find? (fun x => x.id == id) = some st → st.closed = false → s.chip.canSend 2 id.toNat = true →
    s.chip.strmNeed st = 0 ∨ (s.chip.strmTurn id).isSome = true →
    Runs (.streamFrameSend id) s (fun c => (c.svc.streams.find? (fun x => x.id == id)).map (fun x => (x.recs, x.credit)) =
      some ((takeClosed s.chip.payloadMax 0 st.recs).2,
        if s.chip.recNeed st = 0 ∧ st.creditDue = true then st.creditNow else st.credit))) ∧
  (∀ q e, Startable s.chip q 0x0140#16 [0, 4] e →
    Runs (.trunkStatus q) s (fun c => Answered c q e rOK [(s.chip.rd .TRK_STATUS).toNat, (s.chip.rd .TRK_SPILL).toNat,
      (s.chip.rd (.TRK_ERR 0)).toNat, (s.chip.rd (.TRK_ERR 1)).toNat, (s.chip.trunk.lanes[(0 : LaneId)]).rtt,
      (s.chip.trunk.lanes[(1 : LaneId)]).rtt])) ∧
  (∀ q e dom sy an pr, Startable s.chip q 0x0143#16 [0, 4] e → -4 ≤ sy → sy ≤ 0 → an ≤ 3 → pr ≤ 255 →
    Runs (.ptpSet q dom sy an pr) s (fun c => Answered c q e rOK [] ∧
      c.get .PTP_CTL F.PTP_CTL_DOMAIN = dom.toNat ∧ c.get .PTP_CTL F.PTP_CTL_SYNC_LOG = (sy + 16).toNat % 16 ∧
      c.get .PTP_CTL F.PTP_CTL_ANN_LOG = an ∧ c.get .PTP_CTL F.PTP_CTL_PRIORITY1 = pr ∧
      c.get .PTP_CTL F.PTP_CTL_PTP_EN = s.chip.get .PTP_CTL F.PTP_CTL_PTP_EN)) ∧
  (∀ q e, Startable s.chip q 0x0142#16 [0, 4] e → s.chip.swapOk = true → s.chip.trunk.swap = none →
    Runs (.trunkSwap q) s (fun c => c.bit .TRK_STATUS F.TRK_STATUS_SWAP_PEND = true ∧
      c.trunk.swap.map (fun w => (w.lane, w.req)) = some (otherLane s.chip.active?, some q))) ∧
  (∀ q e, Startable s.chip q 0x0142#16 [0, 4] e → s.chip.swapOk = true → s.chip.trunk.swap.isSome = true →
    Runs (.trunkSwap q) s (fun c => Answered c q e rWAIT [])) ∧
  (∀ q e, Startable s.chip q 0x0142#16 [0, 4] e → s.chip.swapOk = false →
    Runs (.trunkSwap q) s (fun c => Answered c q e rBAD_ARG []))

/-! ### Doors (06) -/

/-- Leases, held-back events and the service port (R128, R130, R131, R133, R138, R183, R311, R378). Clauses rest on these choices of the model: log entries 51, 52, 53, 165, 236. -/
def Obligations.DoorUpkeep : Prop := ∀ s : State,
  (∀ d, s.chip.leaseDue d = true → (s.chip.doors[d]).executing = 0 →
    Runs (.leaseExpiry d) s (fun c => (c.doors[d]).path = none ∧ (c.doors[d]).epoch = (s.chip.doors[d]).epoch + 1 ∧
      (c.doors[d]).reqs = (s.chip.doors[d]).reqs.filter (fun e => e.st != .pending))) ∧
  (∀ d, s.chip.leaseDue d = true → (s.chip.doors[d]).executing ≠ 0 →
    Runs (.leaseExpiry d) s (fun c => (c.doors[d]).path = (s.chip.doors[d]).path ∧ (c.doors[d]).releasing = some 1 ∧
      (c.doors[d]).reqs = (s.chip.doors[d]).reqs.filter (fun e => e.st != .pending))) ∧
  (∀ k n w e, s.chip.rates.find? (fun w => w.code == k && w.src == n) = some w → w.ends ≤ s.chip.clk.now → w.held = some e →
    Runs (.rateWindowEnd k n) s (fun c => c.rates.find? (fun w => w.code == k && w.src == n) =
      some { w with held := none, count := 0, ends := s.chip.clk.now + w.interval })) ∧
  (∀ k n w, s.chip.rates.find? (fun w => w.code == k && w.src == n) = some w → w.ends ≤ s.chip.clk.now → w.held = none →
    Runs (.rateWindowEnd k n) s (fun c => c.rates = dropFirst (fun w => w.code == k && w.src == n) s.chip.rates)) ∧
  (∀ d b, s.chip.svcLive = true → b.length = 64 → (parseRequest b).opcode ≠ opDOOR_CLAIM →
    (s.chip.doors[d]).path = some .svc → (s.chip.doors[d]).releasing = none → (s.chip.doors[d]).reqs.length < 256 →
    s.chip.checkEpochs d (parseRequest b) none true = none →
    s.chip.pond.grants = [] → s.chip.modeChange? (parseRequest b) = none ∨ (s.chip.pond.waiters = [] ∧
      s.chip.pond.refused = []) →
    Runs (.svcPortRequest d b) s (fun c => c.nextOrd = s.chip.nextOrd + 1 ∧
      ∃ e, (c.doors[d]).reqs = (s.chip.doors[d]).reqs ++ [e] ∧
      e.req = parseRequest b ∧ e.st = .pending ∧ e.path = .svc ∧ e.ord = s.chip.nextOrd)) ∧
  (∀ d, s.chip.svcLive = true → s.chip.svcEventDue = some d →
    Runs .svcEventPoll s (fun c => (c.doors[d]).sent = (s.chip.doors[d]).sent + 1 ∧
      (c.doors[d]).evts = (s.chip.doors[d]).evts)) ∧
  (∀ t, s.chip.awake = true → s.chip.svcPort.rwake = true → s.chip.svcPort.driving = none →
    s.chip.svcPort.suspendedAt = some t → t + ms 5 ≤ s.chip.clk.now →
    s.chip.svcEventDue.isSome = true →
    Runs .svcPortRemoteWake s (fun c => c.svcPort = { s.chip.svcPort with driving := some s.chip.clk.now })) ∧
  (s.chip.svcPort.suspendedAt.isSome = true →
    Runs .svcHostResumeK s (fun c => c.svcPort = { s.chip.svcPort with suspendedAt := none, driving := none })) ∧
  (s.chip.svcPort.suspendedAt = none →
    Runs .svcBusSuspend s (fun c => c.svcPort = { s.chip.svcPort with suspendedAt := some s.chip.clk.now })) ∧
  Runs (.svcStandardRequest .busReset) s (fun c => c.svcPort = {}) ∧
  (s.chip.awake = true → s.chip.clk.boot ≠ .held →
    (∀ a, a ≤ 127 → Runs (.svcStandardRequest (.setAddress a)) s (fun c => c.svcPort.address = a ∧ c.svcPort.config = 0)) ∧
    (∀ k, k ≤ 1 → s.chip.svcPort.address ≠ 0 →
      Runs (.svcStandardRequest (.setConfiguration k)) s (fun c => c.svcPort.config = k)) ∧
    (s.chip.svcPort.config ≠ 0 → Runs (.svcStandardRequest .setRemoteWakeup) s (fun c => c.svcPort.rwake = true) ∧
      Runs (.svcStandardRequest .clearRemoteWakeup) s (fun c => c.svcPort.rwake = false)))

/-- Claim and release, events and cullet queues by request (R129, R131, R137, R138, R143). Clauses rest on these choices of the model: log entries 6, 54, 55, 56, 57, 237, 242. -/
def Obligations.DoorRequests : Prop := ∀ s : State,
  (∀ q e o m, Startable s.chip q opDOOR_CLAIM [0, 4] e → (s.chip.doors[q.door]).path = none →
    s.chip.claimBar e.path q.door = none →
    Runs (.doorClaim q o m) s (fun c => (c.doors[q.door]).path = some e.path ∧ (c.doors[q.door]).owner = o ∧
      (c.doors[q.door]).sub = m ∧ (c.doors[q.door]).epoch = (s.chip.doors[q.door]).epoch + 1 ∧
      Answered c q e rOK [((s.chip.doors[q.door]).epoch + 1).toNat, s.chip.get .MBX_CTL F.MBX_CTL_LEASE])) ∧
  (∀ q e o m h, Startable s.chip q opDOOR_CLAIM [0, 4] e → s.chip.claimBar e.path q.door = some h →
    Runs (.doorClaim q o m) s (fun c => (c.doors[q.door]).path = (s.chip.doors[q.door]).path ∧
      Answered c q e rLOCKED [h.val])) ∧
  (∀ q e, Startable s.chip q 0x0103#16 [0, 4] e → (s.chip.doors[q.door]).path.isSome = true →
    (s.chip.doors[q.door]).executing = 0 →
    Runs (.doorRelease q) s (fun c => (c.doors[q.door]).path = none ∧
      (c.doors[q.door]).epoch = (s.chip.doors[q.door]).epoch + 1 ∧
      Answered c q e rOK [])) ∧
  (∀ q e, Startable s.chip q 0x0103#16 [0, 4] e → (s.chip.doors[q.door]).path.isSome = true →
    (s.chip.doors[q.door]).executing ≠ 0 →
    Runs (.doorRelease q) s (fun c => (c.doors[q.door]).path = (s.chip.doors[q.door]).path ∧
      (c.doors[q.door]).releasing = some 0 ∧ (c.doors[q.door]).releaseReq = some q ∧
      (c.doors[q.door]).rsps = (s.chip.doors[q.door]).rsps)) ∧
  (∀ q e, Startable s.chip q 0x0104#16 [0, 4] e → Runs (.doorKeepalive q) s (fun c => Answered c q e rOK [])) ∧
  (∀ q e n, Startable s.chip q 0x0105#16 [0, 4] e →
    Runs (.eventAck q n) s (fun c => Answered c q e rOK [] ∧ ∃ more, (c.doors[q.door]).evts =
      (s.chip.doors[q.door]).evts.drop (ackedEvents n (s.chip.doors[q.door]).evts) ++ more)) ∧
  (∀ q e n k, Startable s.chip q 0x0106#16 [0, 4] e → k ≤ 48 →
    Runs (.eventRead q n k) s (fun c => Answered c q e rOK
      (((s.chip.doors[q.door]).evts.filter (fun x => serial x.seq n != .behind)).take k |>.flatMap Event.layout |>.map (·.toNat)))) ∧
  (∀ q e m, Startable s.chip q 0x0107#16 [0, 4] e →
    Runs (.subscribe q m) s (fun c => (c.doors[q.door]).sub = m ∧ Answered c q e rOK [])) ∧
  (∀ q e k, Startable s.chip q 0x0108#16 [0, 4] e → k ≤ 24 →
    Runs (.culletRead q 0 k) s (fun c => (c.doors[q.door]).cullet = (s.chip.doors[q.door]).cullet.drop k ∧
      Answered c q e rOK ((((s.chip.doors[q.door]).cullet.take k).flatMap Cullet.layout).map (·.toNat))) ∧
    Runs (.culletRead q 1 k) s (fun c => c.cullet = s.chip.cullet.drop k ∧
      Answered c q e rOK (((s.chip.cullet.take k).flatMap Cullet.layout).map (·.toNat)))) ∧
  (∀ q e n i k, Startable s.chip q 0x0109#16 [0, 4] e → k ≤ 24 → namesTarget n i = true →
    Runs (.epochRead q n i k) s (fun c => Answered c q e rOK ((List.range k).map (fun j => (s.chip.epochOf n (i + j)).toNat))))

/-- Identity, roles, the trunk mode and the integrity opcodes (R28, R115, R348). Clauses rest on these choices of the model: log entries 6, 58, 59, 188. -/
def Obligations.DoorInformation : Prop := ∀ s : State, Canon s.chip →
  (∀ q e, Startable s.chip q 0x0101#16 [0, 4] e → Runs (.identify q) s (fun c => Answered c q e rOK
    [Config.serial.toNat, 0x9600, Config.gradeCode, s.chip.fw.fwVersion.toNat, s.chip.fw.ucodeVersion.toNat])) ∧
  (∀ q e b, Startable s.chip q 0x010A#16 [0, 4] e → b < 16 → Runs (.roleMap q b) s (fun c => Answered c q e rOK
    ((basinEngines b).flatMap (fun x => [x.val, (s.chip.engines[x]).mapCode])))) ∧
  (∀ q e p t, Startable s.chip q 0x0141#16 [0, 4] e → s.chip.laneEn 0 = true → s.chip.laneEn 1 = true →
    Runs (.trunkMode q p t) s (fun c => c.pair = p ∧ c.bit .TRK_CTL F.TRK_CTL_PREF_ACTIVE = t ∧
      (s.chip.trunk.swap = none → Answered c q e rOK []))) ∧
  (∀ q e p t, Startable s.chip q 0x0141#16 [0, 4] e → s.chip.laneEn 0 = false ∨ s.chip.laneEn 1 = false →
    Runs (.trunkMode q p t) s (fun c => Answered c q e rBAD_ARG [] ∧ c.rd .TRK_CTL = s.chip.rd .TRK_CTL)) ∧
  (∀ q e, Startable s.chip q 0x0180#16 [0] e → Runs (.faultStatus q) s (fun c => Answered c q e rOK
    ((([.GLB_FAULT, .ESC_LAST, .INT_QPTR, .INT_RES, .INT_CRC] : List Reg) ++
      (List.finRange 16).flatMap (fun b => [Reg.ENG_QUAR b, Reg.ENG_BASIN b])).map (fun r => (s.chip.readWord r).toNat)))) ∧
  (∀ q e (x : Engine), Startable s.chip q 0x0181#16 [0] e → (s.chip.engines[x]).quar = true →
    Runs (.engineRelease q x.val true) s (fun c => Answered c q e rOK [] ∧ (c.engines[x]).quar = false ∧
      (c.engines[x]).role = .spare ∧ (c.rd (.ENG_QUAR (Fin.ofNat 16 (x.val / 32)))).getLsbD (x.val % 32) = false) ∧
    Runs (.engineRelease q x.val false) s (fun c => Answered c q e rLOCKED [] ∧ c.engines = s.chip.engines))

/-! ### Power states (16) -/

/-- The quiet timers, entry step by step, wake requests and the return to Run (R328, R330, R333 to R338). Clauses rest on these choices of the model: log entries 126, 127, 128, 131, 132, 133, 134, 182. -/
def Obligations.PowerStates : Prop := ∀ s : State, Canon s.chip → s.chip.pond.grants = [] →
  (∀ e, s.chip.pwr.entry = some e → e.target ≠ .off → e.step = 2 → s.chip.quieted = true → s.chip.refuser true e.req = none →
    Runs .entryStepComplete s (fun c => c.pwr.entry = some { e with step := 3 })) ∧
  (∀ e, s.chip.pwr.entry = some e → e.target ≠ .off → e.step = 3 → s.chip.refuser true e.req = none →
    Runs .entryStepComplete s (fun c => c.pwr.entry = some { e with step := 4 })) ∧
  (∀ e k, s.chip.pwr.entry = some e → e.target ≠ .off → e.step = 3 → s.chip.refuser true e.req = some k →
    Runs .entryStepComplete s (fun c => c.pwr.entry = none ∧ c.get .PWR_REFUSE F.PWR_REFUSE_KIND = k.1 % 16 ∧
      c.get .PWR_REFUSE F.PWR_REFUSE_STAGE = 2)) ∧
  (∀ e, s.chip.pwr.entry = some e → e.target = .sleep → e.step = 4 →
    Runs .entryStepComplete s (fun c => c.pwr.st = .sleep ∧ c.pwr.entry = none)) ∧
  (∀ e, s.chip.pwr.entry = some e → e.target ≠ .off → e.step = 6 →
    Runs .entryStepComplete s (fun c => c.pwr.st = .deep ∧ c.pwr.entry = none)) ∧
  (∀ e, s.chip.pwr.entry = some e → e.target = .off → e.step = 1 →
    e.req.all (fun q => (s.chip.entry? q).isNone) = true ∨ s.chip.pwr.quietedAt + ms 20 ≤ s.chip.clk.now →
    Runs .entryStepComplete s (fun c => c.pwr.entry = some { e with step := 2 })) ∧
  (∀ e, s.chip.pwr.entry = some e → e.target = .off → e.step = 2 →
    (s.chip.bead.attestDue = false ∧ s.chip.bead.hsBusy = false) ∨ s.chip.pwr.quietedAt + ms 20 ≤ s.chip.clk.now →
    Runs .entryStepComplete s (fun c => c.pwr.entry = some { e with step := 3 })) ∧
  (∀ e, s.chip.pwr.entry = some e → e.target = .off → e.step = 3 →
    (∀ d, s.chip.dieHears d = true ∧ (s.chip.fl[d]).writes = []) →
    Runs .entryStepComplete s (fun c => c.pwr.entry = some { e with step := 4 } ∧ ∀ n : Port, (c.chans[n]).phase = .off)) ∧
  (∀ e, s.chip.pwr.entry = some e → e.target = .off → e.step = 4 → s.chip.pwr.wake = none →
    Runs .entryStepComplete s (fun c => c.pwr.st = .off ∧ c.clk.faultLow = false ∧ c.up 0 = false ∧ c.up 1 = false)) ∧
  (s.chip.awake = true → s.chip.pwr.entry = none → 1 ≤ s.chip.get .PWR_CTL F.PWR_CTL_STATE_MAX → s.chip.fwQuiet = true →
    s.chip.pwr.idleFrom + us (s.chip.getPos .PWR_TIMER_0 F.PWR_TIMER_0_IDLE_US) ≤ s.chip.clk.now →
    Runs (.quietTimerExpiry 0) s (fun c => c.pwr.st = .idle ∧ c.pwr.hsGated = true ∧
      c.get .PWR_STATUS F.PWR_STATUS_STATE = 1)) ∧
  (s.chip.awake = true → s.chip.pwr.sleepExp = false → s.chip.bit .PWR_CTL F.PWR_CTL_AUTO = false →
    s.chip.pwr.sleepFrom + sec (s.chip.getPos .PWR_TIMER_0 F.PWR_TIMER_0_SLEEP_S) ≤ s.chip.clk.now →
    Runs (.quietTimerExpiry 1) s (fun c => c.pwr.sleepExp = true ∧ c.pwr.entry = s.chip.pwr.entry)) ∧
  (s.chip.awake = true → s.chip.pwr.deepExp = false → s.chip.bit .PWR_CTL F.PWR_CTL_AUTO = true → s.chip.pwr.entry = none →
    s.chip.pwr.exiting = false → (s.chip.updPwr (fun p => { p with deepExp := true })).pwrTarget = some .deep →
    (s.chip.updPwr (fun p => { p with deepExp := true })).refuser false none = none →
    s.chip.pwr.deepFrom + sec (s.chip.getPos .PWR_TIMER_1 F.PWR_TIMER_1_DEEP_S) ≤ s.chip.clk.now →
    Runs (.quietTimerExpiry 2) s (fun c => c.pwr.deepExp = true ∧ c.pwr.entry = some ⟨.deep, 2, none⟩)) ∧
  (∀ b, Runs (.idleWake (some b)) s (fun c => (c.basins[b]).gated = false)) ∧
  (s.chip.pwr.st = .idle → Runs (.idleWake none) s (fun c => c.pwr.st = .run ∧ c.pwr.hsGated = false ∧
    c.get .PWR_STATUS F.PWR_STATUS_STATE = 0)) ∧
  (∀ w i, s.chip.wakeOn w.val i.index = true → s.chip.wakeQualifies w.val i.index i.held = true →
    s.chip.asleep = true → s.chip.pwr.entry = none → s.chip.pwr.wake = none → s.chip.pwr.exiting = false →
    s.chip.clk.levels.contains (wakeNum w.val i.index) = false →
    s.chip.clk.cross.any (fun x => x.block == cbAON && x.num == wakeNum w.val i.index && x.busy s.chip.clk.now) = false →
    Runs (.wakeRequest w i) s (fun c => c.pwr.wake = some (w.val, i.index) ∧ c.pwr.exiting = true ∧
      c.get .PWR_WAKE_CAUSE F.PWR_WAKE_CAUSE_SOURCE = w.val)) ∧
  (∀ w i, s.chip.wakeOn w.val i.index = true → i.held = true → s.chip.asleep = true →
    s.chip.wakeAsync w.val i.index = false →
    s.chip.clk.cross.any (fun x => x.block == cbAON && x.num == wakeNum w.val i.index && x.busy s.chip.clk.now) = true →
    Runs (.wakeRequest w i) s (fun c => (c.rd .CDC_OVR).getLsbD cbAON = true ∧ c.pwr = s.chip.pwr)) ∧
  (∀ w i, s.chip.wakeOn w.val i.index = true → s.chip.wakeQualifies w.val i.index i.held = true → s.chip.pwr.st = .off →
    Runs (.wakeRequest w i) s (fun c => c.pwr.st = .run ∧ c.get .RST_CAUSE F.RST_CAUSE_LAST = 6)) ∧
  (∀ k, s.chip.asleep = true → s.chip.pwr.exiting = true →
    Runs (.lowPowerExitComplete k) s (fun c => c.pwr.st = .run ∧ c.pwr.exiting = false ∧ c.pwr.retained = false ∧
      c.get .PWR_STATUS F.PWR_STATUS_STATE = 0 ∧ c.get .PWR_STATUS F.PWR_STATUS_LAST = s.chip.pwr.st.code))

/-- The power opcodes (16): status and settings with their previous values, entry to Sleep, Deep sleep and Off (R330 to R333,
R335, R338). Clauses rest on these choices of the model: log entries 6, 16, 128, 130. -/
def Obligations.PowerRequests : Prop := ∀ s : State, Canon s.chip → s.chip.pond.grants = [] →
  (∀ q e, Startable s.chip q 0x0201#16 [0] e → Runs (.pwrStatus q) s (fun c => Answered c q e rOK
    ([Reg.PWR_STATUS, .PWR_REFUSE, .PWR_WAKE_CAUSE, .PWR_LTR].map (fun r => ((Taken s.chip q).readWord r).toNat)))) ∧
  (∀ q e l m a i sl d, Startable s.chip q 0x0202#16 [0] e → s.chip.frozen = false →
    Runs (.pwrSet q l m a i sl d) s (fun c => Answered c q e rOK [s.chip.get .PWR_LTR F.PWR_LTR_LTR,
        s.chip.get .PWR_CTL F.PWR_CTL_STATE_MAX, s.chip.get .PWR_CTL F.PWR_CTL_AUTO,
        s.chip.get .PWR_TIMER_0 F.PWR_TIMER_0_IDLE_US, s.chip.get .PWR_TIMER_0 F.PWR_TIMER_0_SLEEP_S,
        s.chip.get .PWR_TIMER_1 F.PWR_TIMER_1_DEEP_S] ∧
      c.get .PWR_LTR F.PWR_LTR_LTR = l.toNat ∧ c.get .PWR_CTL F.PWR_CTL_STATE_MAX = m.toNat ∧
      c.bit .PWR_CTL F.PWR_CTL_AUTO = a ∧ c.get .PWR_TIMER_0 F.PWR_TIMER_0_IDLE_US = max 1 i.toNat ∧
      c.get .PWR_TIMER_0 F.PWR_TIMER_0_SLEEP_S = max 1 sl.toNat ∧ c.get .PWR_TIMER_1 F.PWR_TIMER_1_DEEP_S = max 1 d.toNat)) ∧
  (∀ q e l m a i sl d, Startable s.chip q 0x0202#16 [0] e → s.chip.frozen = true →
    Runs (.pwrSet q l m a i sl d) s (fun c => Answered c q e rLOCKED [] ∧ c.rd .PWR_LTR = s.chip.rd .PWR_LTR)) ∧
  (∀ q e w, Startable s.chip q 0x0203#16 [0] e → s.chip.fab.aonq.length < 8 →
    Runs (.pwrWakeSet q w) s (fun c => c.fab.wakeSets = s.chip.fab.wakeSets ++ [(q, s.chip.rd .PWR_WAKE_EN)] ∧
      c.fab.aonq = s.chip.fab.aonq ++ [(.PWR_WAKE_EN, w, Reg.rwMask .PWR_WAKE_EN)])) ∧
  (∀ q e k, Startable s.chip q 0x0204#16 [0] e → k = 2 ∨ k = 3 → k ≤ s.chip.get .PWR_CTL F.PWR_CTL_STATE_MAX →
    s.chip.pwr.entry = none → s.chip.pwr.st ≠ .sleep → (Taken s.chip q).refuser false (some q) = none →
    Runs (.pwrEnter q k) s (fun c => Answered c q e rOK [] ∧
      c.pwr.entry = some ⟨if k = 3 then .deep else .sleep, 2, some q⟩)) ∧
  (∀ q e k x, Startable s.chip q 0x0204#16 [0] e → k = 2 ∨ k = 3 → k ≤ s.chip.get .PWR_CTL F.PWR_CTL_STATE_MAX →
    s.chip.pwr.entry = none → s.chip.pwr.st ≠ .sleep → (Taken s.chip q).refuser false (some q) = some x →
    Runs (.pwrEnter q k) s (fun c => Answered c q e rLOCKED [x.1, x.2] ∧ c.pwr.entry = none)) ∧
  (∀ q e, Startable s.chip q 0x0205#16 [0] e → s.chip.fw.handoff = none → s.chip.fw.roll = none → s.chip.pwr.entry = none →
    Runs (.pwrOff q 0x0FF0#16) s (fun c => Answered c q e rOK [] ∧ c.bead.attestDue = true ∧
      c.pwr.entry = some ⟨.off, 1, some q⟩ ∧ c.pwr.quietedAt = s.chip.clk.now ∧ c.chans = s.chip.chans)) ∧
  (∀ q e k, Startable s.chip q 0x0205#16 [0] e → k ≠ 0x0FF0#16 →
    Runs (.pwrOff q k) s (fun c => Answered c q e rBAD_ARG [] ∧ c.pwr.entry = s.chip.pwr.entry))

/-! ### Ports, channels and rails (13) -/

/-- The requests of 13 on rails, pins and channels (R29, R50, R274, R275, R286, R289, R290). Clauses rest on these choices of the model: log entries 6, 115, 180, 183. -/
def Obligations.PortRequests : Prop := ∀ s : State, Canon s.chip → s.chip.pond.grants = [] →
  (∀ q e (j : RailId) w b, Startable s.chip q 0x0220#16 [0] e → s.chip.frozen = false → DieFree s.chip 0 →
    fget w F.RAIL_CFG_EN = 1 →
    Runs (.railSet q j.val w b) s (fun c => c.railEn j = true ∧
      c.get (.RAIL_CFG j) F.RAIL_CFG_UV_HOLD = fget w F.RAIL_CFG_UV_HOLD ∧
      c.get (.RAIL_BUDGET j) F.RAIL_BUDGET_BUDGET = fget b F.RAIL_BUDGET_BUDGET ∧
      Answered c q e rOK [(s.chip.rd (.RAIL_CFG j)).toNat, (s.chip.rd (.RAIL_BUDGET j)).toNat])) ∧
  (∀ q e (j : RailId), Startable s.chip q 0x0221#16 [0] e → Runs (.railStatus q j.val) s (fun c => Answered c q e rOK
    ([(s.chip.rd (.RAIL_STATUS j)).toNat, (s.chip.rd (.RAIL_MEAS j)).toNat] ++ (s.chip.railChans j).map (·.val)))) ∧
  (∀ q n e k m, ForPort s.chip q opPORT_MODE n e → modeOf k = some m → s.chip.wiringOk n m = true → e.bump = false →
    Runs (.portMode q k 0) s (fun c => Answered c q e rOK [] ∧ (c.ports[n]).mode = (s.chip.ports[n]).mode)) ∧
  (∀ q n e k m x t, ForPort s.chip q opPORT_MODE n e → modeOf k = some m → s.chip.wiringOk n m = true → e.bump = true →
    (s.chip.ports[n]).mode = .off → (s.chip.ports[n]).seqs = x :: t → x.started = false → x.chan = 0 → s.chip.noPll = false →
    m ≠ .line ∨ (s.chip.chans[n]).phase ≠ .suspend →
    Runs (.portMode q k 0) s (fun c => (c.ports[n]).mode = .off ∧
      ∃ y, (c.ports[n]).seqs = y :: t ∧ y.started = true ∧ y.goal = x.goal ∧ y.req = x.req)) ∧
  (∀ q n e, ForPort s.chip q opPORT_MODE n e → e.bump = true → (s.chip.chans[n]).phase = .suspend →
    Runs (.portMode q 2 0) s (fun c => Answered c q e rBAD_ARG [] ∧ (c.ports[n]).mode = (s.chip.ports[n]).mode)) ∧
  (∀ n x, (s.chip.ports[n]).seqs = [x] → x.started = true → x.chan = 0 → (s.chip.ports[n]).line.sending = false →
    x.due s.chip.clk.now = true → s.chip.pond.rebuild = false →
    Runs (.modeSequenceEnd n) s (fun c => (c.ports[n]).mode = x.goal ∧ (c.ports[n]).seqs = [] ∧
      (c.ports[n]).selLine = (x.goal == .line) ∧ (c.ports[n]).stbLow = (x.goal == .line) ∧
        (c.ports[n]).txd = (x.goal == .line))) ∧
  (∀ q n e w p l, ForPort s.chip q 0x0302#16 n e → (s.chip.ports[n]).mode = .off → (s.chip.ports[n]).seqs = [] →
    Runs (.pinCfgSet q w p l) s (fun c => Answered c q e rOK [(s.chip.rd (.PIN_CFG n)).toNat] ∧
      c.get (.PIN_CFG n) F.PIN_CFG_WIRING = w.toNat ∧ c.bit (.PIN_CFG n) F.PIN_CFG_CONN = p ∧
      c.bit (.PIN_CFG n) F.PIN_CFG_SEL_POL = l)) ∧
  (∀ q n e w p l, ForPort s.chip q 0x0302#16 n e → (s.chip.ports[n]).mode ≠ .off →
    Runs (.pinCfgSet q w p l) s (fun c => Answered c q e rLOCKED [] ∧ c.rd (.PIN_CFG n) = s.chip.rd (.PIN_CFG n))) ∧
  (∀ q n e, ForPort s.chip q 0x0303#16 n e → DieFree s.chip (fuseDie n) →
    Runs (.chSet q 0) s (fun c => (c.chans[n]).phase = .off ∧ c.rd (.CH_CMD n) = 0#32)) ∧
  (∀ q n e, ForPort s.chip q 0x0303#16 n e → DieFree s.chip (fuseDie n) → s.chip.onVerdict n = rOK →
    (s.chip.chans[n]).phase = .off → s.chip.typeC n = true →
    Runs (.chSet q 1) s (fun c => Answered c q e rOK [] ∧ (c.chans[n]).phase = .armed)) ∧
  (∀ q n e, ForPort s.chip q 0x0303#16 n e → DieFree s.chip (fuseDie n) → s.chip.onVerdict n = rOK →
    (s.chip.chans[n]).phase = .off → s.chip.typeC n = false → s.chip.railBlocked (s.chip.railOf n) = false →
    Runs (.chSet q 1) s (fun c => Answered c q e rOK [] ∧ (c.chans[n]).phase =
      if s.chip.railUv (fuseDie n) (s.chip.railOf n) then .hold else .inrush)) ∧
  (∀ q n e g r i l u, ForPort s.chip q 0x0304#16 n e → DieFree s.chip (fuseDie n) → s.chip.frozen = false →
    partsOk (fget r F.CH_SENSE_RSHUNT) (fget i F.CH_INRUSH_I_MAX) (fget l F.CH_LIMIT_SHORT_I) = true →
    (s.chip.chans[n]).phase = .off →
    Runs (.chConfig q g r i l u) s (fun c => Answered c q e rOK
        ([Reg.CH_CFG n, .CH_SENSE n, .CH_INRUSH n, .CH_LIMIT n, .CH_SUSP n].map (fun r => (s.chip.rd r).toNat)) ∧
      c.get (.CH_CFG n) F.CH_CFG_RAIL = fget g F.CH_CFG_RAIL ∧
        c.get (.CH_SENSE n) F.CH_SENSE_RSHUNT = fget r F.CH_SENSE_RSHUNT ∧
      c.get (.CH_INRUSH n) F.CH_INRUSH_I_MAX = fget i F.CH_INRUSH_I_MAX ∧
      c.get (.CH_LIMIT n) F.CH_LIMIT_SHORT_I = fget l F.CH_LIMIT_SHORT_I)) ∧
  (∀ q n e ps, ForPort s.chip q 0x0305#16 n e → DieFree s.chip (fuseDie n) → s.chip.frozen = false → ps.length = 8 →
    Runs (.chCurve q ps) s (fun c => Answered c q e rOK ((List.finRange 8).map (fun i => (s.chip.rd (.CH_CURVE n i)).toNat)) ∧
      ∀ i : Fin 8, c.get (.CH_CURVE n i) F.CH_CURVE_M = fget (ps.getD i.val 0#32) F.CH_CURVE_M)) ∧
  (∀ q n e, ForPort s.chip q 0x0306#16 n e → Runs (.chStatus q) s (fun c => Answered c q e rOK
    [(s.chip.chStatusWord n).toNat, (s.chip.rd (.CH_MEAS n)).toNat, (s.chip.rd (.RAIL_STATUS (s.chip.railOf n))).toNat]))

/-- The fuse link (R17 to R19): a frame each way takes queued writes to the die, samples it and refreshes the mirror; a frame that
fails in a direction is counted there, the eighth in a row holds the die; the handshake ends the hold. Clauses rest on these choices of the model: log entries 115, 117, 219, 226. -/
def Obligations.FuseLink : Prop := ∀ s : State, Canon s.chip → s.chip.pond.grants = [] →
  (∀ d xs rs, DieFree s.chip d → (dieChans d).any s.chip.modeWaits = false →
    Runs (.fuseLinkFrame d xs rs) s (fun c => (c.fl[d]).badTo = 0 ∧ (c.fl[d]).badFrom = 0 ∧ (c.fl[d]).age = 0 ∧
      (c.fl[d]).writes = [] ∧ ∀ x, Sampled d xs x → (c.chans[x.ch]).vOut = x.vOut ∧ (c.chans[x.ch]).cur = x.cur ∧
        c.get (.CH_MEAS x.ch) F.CH_MEAS_V_OUT = x.vOut.toNat ∧ c.get (.CH_MEAS x.ch) F.CH_MEAS_I = x.cur.toNat)) ∧
  (∀ d xs rs n v, s.chip.dieHears d = true → (dieChans d).any s.chip.modeWaits = false → fuseDie n = d →
    (s.chip.fl[d]).writes = [(.CH_SUSP n, v, allBits)] →
    Runs (.fuseLinkFrame d xs rs) s (fun c => (c.fl[d]).writes = [] ∧ c.rd (.CH_SUSP n) =
      written s.chip (.CH_SUSP n) v)) ∧
  (∀ d xs rs, s.chip.dieUp d = false → (s.chip.fl[d]).inReset = false →
    Runs (.fuseLinkFrame d xs rs) s (fun c => c.fl = s.chip.fl ∧ c.regs = s.chip.regs ∧
      ∀ x, Sampled d xs x → (c.chans[x.ch]).vOut = x.vOut ∧ (c.chans[x.ch]).cur = x.cur)) ∧
  (∀ d xs rs, (s.chip.fl[d]).inReset = true → Runs (.fuseLinkFrame d xs rs) s (fun c => c = s.chip)) ∧
  (∀ d o, s.chip.dieUp d = true → (s.chip.fl[d]).writes = [] → (dieChans d).any s.chip.modeWaits = false →
    (o.toBad = true → (s.chip.fl[d]).badTo < 7) → (o.fromBad = true → (s.chip.fl[d]).badFrom < 7) →
    Runs (.fuseLinkBadFrame d o) s (fun c =>
      (c.fl[d]).badTo = (if o.toBad then (s.chip.fl[d]).badTo + 1 else 0) ∧
      (c.fl[d]).badFrom = (if o.fromBad then (s.chip.fl[d]).badFrom + 1 else 0) ∧
      (c.fl[d]).age = (if o.fromBad then (s.chip.fl[d]).age + 1 else 0) ∧ (c.fl[d]).hold = false ∧ (c.fl[d]).writes = [] ∧
      (∀ x, Sampled d o.chs x → (c.chans[x.ch]).vOut = x.vOut ∧ (c.chans[x.ch]).cur = x.cur) ∧
      (o.fromBad = true → c.regs = s.chip.regs))) ∧
  (∀ d o, s.chip.dieUp d = true → (s.chip.fl[d]).writes = [] → (dieChans d).any s.chip.modeWaits = false →
    (o.toBad = true ∧ 7 ≤ (s.chip.fl[d]).badTo) ∨ (o.fromBad = true ∧ 7 ≤ (s.chip.fl[d]).badFrom) →
    Runs (.fuseLinkBadFrame d o) s (fun c => (c.fl[d]).hold = true ∧ (c.fl[d]).badTo = 0 ∧ (c.fl[d]).badFrom = 0 ∧
      (c.fl[d]).writes = [] ∧ c.bitAt .GLB_FAULT F.GLB_FAULT_SRC (FaultSrc.fuseLink).bit = true)) ∧
  (∀ d o, s.chip.dieUp d = false → (s.chip.fl[d]).inReset = false → (s.chip.fl[d]).hold = true →
    Runs (.fuseLinkBadFrame d o) s (fun c => c.fl = s.chip.fl ∧ c.regs = s.chip.regs ∧
      ∀ x, Sampled d o.chs x → (c.chans[x.ch]).vOut = x.vOut ∧ (c.chans[x.ch]).cur = x.cur)) ∧
  (∀ d, (s.chip.fl[d]).hold = true → (s.chip.fl[d]).inReset = false → (s.chip.fl[d]).rung ≠ 4 → s.chip.pwr.retained = false →
    Runs (.fuseLinkResync d) s (fun c => (c.fl[d]).hold = false ∧ (c.fl[d]).badTo = 0 ∧ (c.fl[d]).badFrom = 0 ∧
      (c.fl[d]).age = 0 ∧ (c.fl[d]).writes = (s.chip.fl[d]).writes)) ∧
  (∀ d, (s.chip.fl[d]).hold = false ∨ (s.chip.fl[d]).inReset = true ∨ (s.chip.fl[d]).rung = 4 ∨ s.chip.pwr.retained = true →
    Runs (.fuseLinkResync d) s (fun c => c = s.chip))

/-- Commands ON, OFF and SUSPEND at a die, inrush, holds, trips and retries of a channel (R17, R177, R278 to R285). Clauses rest on these choices of the model: log entries 115, 210, 212, 219. -/
def Obligations.Channels : Prop := ∀ s : State, Canon s.chip → s.chip.pond.grants = [] →
  (∀ n, DieFree s.chip (fuseDie n) → s.chip.inrushOk n = true → s.chip.typeC n = false →
    (s.chip.chans[n]).phase = .off ∨ (s.chip.chans[n]).phase = .tripped →
    Runs (.chCmdOn n) s (fun c => (c.chans[n]).phase = (if s.chip.railUv (fuseDie n) (s.chip.railOf n) then .hold else .inrush) ∧
      (c.chans[n]).inrushFrom = s.chip.clk.now ∧ c.rd (.CH_CMD n) = 1#32)) ∧
  (∀ n, DieFree s.chip (fuseDie n) → s.chip.chReady n = true → s.chip.typeC n = true →
    (s.chip.chans[n]).phase = .off ∨ (s.chip.chans[n]).phase = .tripped →
    Runs (.chCmdOn n) s (fun c => (c.chans[n]).phase = .armed ∧ c.rd (.CH_CMD n) = 1#32)) ∧
  (∀ n, DieFree s.chip (fuseDie n) → s.chip.chReady n = true → s.chip.inrushOk n = false → s.chip.typeC n = false →
    (s.chip.chans[n]).phase = .off ∨ (s.chip.chans[n]).phase = .tripped →
    Runs (.chCmdOn n) s (fun c => (c.chans[n]).phase = (s.chip.chans[n]).phase ∧ (c.chans[n]).onWaits = true)) ∧
  (∀ n, DieFree s.chip (fuseDie n) →
    Runs (.chCmdOff n) s (fun c => (c.chans[n]).phase = .off ∧ c.rd (.CH_CMD n) = 0#32)) ∧
  (∀ n, s.chip.dieUp (fuseDie n) = true → (s.chip.fl[fuseDie n]).badTo ≠ 0 →
    Runs (.chCmdOn n) s (fun c => c.chans = s.chip.chans ∧
      (c.fl[fuseDie n]).writes = (s.chip.fl[fuseDie n]).writes ++ [(.CH_CMD n, 1#32, allBits)]) ∧
    Runs (.chCmdOff n) s (fun c => c.chans = s.chip.chans ∧
      (c.fl[fuseDie n]).writes = (s.chip.fl[fuseDie n]).writes ++ [(.CH_CMD n, 0#32, allBits)])) ∧
  (∀ n, s.chip.dieUp (fuseDie n) = false →
    Runs (.chCmdOn n) s (fun c => c = s.chip) ∧ Runs (.chCmdOff n) s (fun c => c = s.chip)) ∧
  (∀ n, s.chip.isDrop n = true → s.chip.root n = rsSUSPENDED → DieFree s.chip (fuseDie n) →
    (s.chip.chans[n]).phase = .on ∨ (s.chip.chans[n]).phase = .suspend →
    Runs (.chCmdSuspend n true) s (fun c => (c.chans[n]).phase = .suspend ∧ c.rd (.CH_CMD n) = 2#32)) ∧
  (∀ n, s.chip.isDrop n = true → s.chip.root n = rsRESUMING → DieFree s.chip (fuseDie n) →
    (s.chip.chans[n]).phase = .on ∨ (s.chip.chans[n]).phase = .suspend →
    Runs (.chCmdSuspend n false) s (fun c => (c.chans[n]).phase = .on ∧ c.rd (.CH_CMD n) = 1#32)) ∧
  (∀ n b, s.chip.isDrop n = false ∨ s.chip.root n ≠ (if b then rsSUSPENDED else rsRESUMING) →
    Runs (.chCmdSuspend n b) s (fun c => c = s.chip)) ∧
  (∀ n, (s.chip.chans[n]).phase = .inrush →
    s.chip.railV (fuseDie n) (s.chip.railOf n) ≤ (s.chip.chans[n]).vOut.toNat + 30 →
    Runs (.inrushComplete n) s (fun c => (c.chans[n]).phase = .on ∧ (c.chans[n]).onSince = some s.chip.clk.now)) ∧
  (∀ d j, s.chip.railUv d j = true →
    Runs (.railSag d j) s (fun c => ∀ n, s.chip.railOf n = j → fuseDie n = d →
      (s.chip.chans[n]).phase = .inrush → (c.chans[n]).phase = .hold)) ∧
  (∀ d j t, (if d = 0 then (s.chip.rails[j]).back0 else (s.chip.rails[j]).back1) = some t → t + us 50 ≤ s.chip.clk.now →
    Runs (.railRecover d j) s (fun c => ∀ n, s.chip.railOf n = j → fuseDie n = d →
      (s.chip.chans[n]).phase = .hold → (c.chans[n]).phase = .inrush)) ∧
  (∀ n, (s.chip.chans[n]).phase = .hold → ms 10 < (s.chip.chans[n]).holdUsed + (s.chip.clk.now - (s.chip.chans[n]).holdFrom) →
    Runs (.holdLimit n) s (fun c => (c.chans[n]).phase = .tripped ∧ (c.chans[n]).cause = caHOLD)) ∧
  (∀ n, (s.chip.chans[n]).phase = .inrush → ms (clampNat 1 200 (s.chip.get (.CH_INRUSH n) F.CH_INRUSH_INRUSH_MAX)) ≤
      (s.chip.chans[n]).inrushUsed + (s.chip.clk.now - (s.chip.chans[n]).inrushFrom) →
    Runs (.inrushTimeout n) s (fun c => (c.chans[n]).phase = .tripped ∧ (c.chans[n]).cause = caTIMEOUT)) ∧
  (∀ n k, s.chip.tripAtCur n ≤ k.toNat → (s.chip.chans[n]).phase = .inrush ∨ (s.chip.chans[n]).phase = .hold ∨ (s.chip.chans[n]).phase = .on ∨
      (s.chip.chans[n]).phase = .suspend →
    Runs (.fastTrip n k) s (fun c => (c.chans[n]).phase = .tripped ∧ (c.chans[n]).cause = caSHORT)) ∧
  (∀ n p k, (s.chip.chans[n]).phase = .on ∨ (s.chip.chans[n]).phase = .suspend → s.chip.get (.CH_CURVE n p) F.CH_CURVE_M ≠ 0 →
    us (100 * s.chip.getPos (.CH_CURVE n p) F.CH_CURVE_T) ≤ s.chip.pointTimer n p →
    Runs (.breakerTrip n p k) s (fun c => (c.chans[n]).phase = .tripped ∧ (c.chans[n]).cause = caBREAKER ∧
      (c.chans[n]).point = p.val)) ∧
  (∀ n t, (s.chip.chans[n]).phase = .tripped → (s.chip.chans[n]).retryAt = some t → t ≤ s.chip.clk.now →
    s.chip.mayRetry n = true → s.chip.dieUp (fuseDie n) = true → s.chip.inrushOk n = true → s.chip.railUv (fuseDie n) (s.chip.railOf n) = false →
    Runs (.retryDue n) s (fun c => (c.chans[n]).phase = .inrush ∧
      (c.chans[n]).retries = min 15 ((s.chip.chans[n]).retries + 1))) ∧
  (∀ n t, (s.chip.chans[n]).phase = .on → (s.chip.chans[n]).onSince = some t → t + sec 60 ≤ s.chip.clk.now →
    Runs (.retryCountReset n) s (fun c => (c.chans[n]).retries = 0 ∧ (c.chans[n]).phase = .on)) ∧
  (∀ n k t, (s.chip.chans[n]).phase = .off ∨ (s.chip.chans[n]).phase = .tripped ∨ (s.chip.chans[n]).phase = .armed →
    5 ≤ k.toNat →
    2 * s.chip.getPos (.CH_LIMIT n) F.CH_LIMIT_I_NOM ≤ 100 * k.toNat → (s.chip.chans[n]).offAt = some t →
    t + ms 11 ≤ s.chip.clk.now →
    Runs (.fetFaultDetect n k) s (fun c => (c.chans[n]).fetFault = true ∧
      c.bitAt .GLB_FAULT F.GLB_FAULT_SRC (FaultSrc.fet).bit = true))

/-- Rails: readings that differ, draw and budget, shedding and blocks (R276, R277, R287, R288, R353). Clauses rest on these choices of the model: log entry 218. -/
def Obligations.Rails : Prop := ∀ s : State, Canon s.chip → s.chip.pond.grants = [] →
  (∀ j t, s.chip.railEn j = true → (s.chip.rails[j]).differFrom = some t → t + ms 10 ≤ s.chip.clk.now →
    (s.chip.rails[j]).differTold = false → Runs (.railSenseMismatch j) s (fun c => c.bit (.RAIL_STATUS j) F.RAIL_STATUS_MISMATCH = true ∧
    c.bitAt .GLB_FAULT F.GLB_FAULT_SRC (FaultSrc.rail).bit = true)) ∧
  (∀ j d, (s.chip.rails[j]).windowFrom + ms 1 ≤ s.chip.clk.now → d = s.chip.railDraw j → Runs (.railDrawWindow j d) s (fun c => (c.rails[j]).draw = d ∧ c.get (.RAIL_STATUS j) F.RAIL_STATUS_DRAW = d.toNat ∧
    c.bit (.RAIL_STATUS j) F.RAIL_STATUS_OVER = (s.chip.get (.RAIL_BUDGET j) F.RAIL_BUDGET_BUDGET != 0xFFFF &&
      decide (s.chip.get (.RAIL_BUDGET j) F.RAIL_BUDGET_BUDGET < d.toNat)))) ∧
  (∀ j t n, (s.chip.rails[j]).graceAt = some t → t ≤ s.chip.clk.now → s.chip.shedPick j = some n → DieFree s.chip (fuseDie n) →
    Runs (.shedGraceExpiry j) s (fun c => (c.chans[n]).phase = .off ∧ (c.rails[j]).graceAt =
      some (s.chip.clk.now + ms (100 * s.chip.getPos (.RAIL_BUDGET j) F.RAIL_BUDGET_SHED_GRACE)))) ∧
  (∀ j t, (s.chip.rails[j]).blocked = some t → t ≤ s.chip.clk.now →
    Runs (.railBlockEnd j) s (fun c => (c.rails[j]).blocked = none))

/-! ### Power Delivery (14) -/

/-- The PD opcodes (R33, R291, R299, R302, R304 to R307). Clauses rest on these choices of the model: log entries 6, 112, 114, 214, 224. -/
def Obligations.PdRequests : Prop := ∀ s : State, Canon s.chip → s.chip.pond.grants = [] → ∀ q n e,
  (ForPort s.chip q 0x0310#16 n e → s.chip.isPd n = true → s.chip.isDrop n = true →
    Runs (.pdStatus q) s (fun c => Answered c q e rOK ([(s.chip.rd (.PD_STATUS n)).toNat, (s.chip.rd (.PD_VOUT n)).toNat] ++
      s.chip.pdWords n (s.chip.pdReduced n) ++ [(s.chip.ports[n]).pd.rdo]))) ∧
  (ForPort s.chip q 0x0310#16 n e → s.chip.isPd n = false ∨ s.chip.isDrop n = false →
    Runs (.pdStatus q) s (fun c => Answered c q e rBAD_ARG [])) ∧
  (∀ a l t, ForPort s.chip q 0x0311#16 n e → s.chip.isPd n = true → s.chip.isDrop n = true →
    Runs (.pdCapsSet q a l t) s (fun c => Answered c q e rOK
        ([Reg.PD_CAPS n, .PD_LIMIT n, .PD_TIMING n].map (fun r => (s.chip.rd r).toNat)) ∧
      c.get (.PD_CAPS n) F.PD_CAPS_PPS_MAX = fget a F.PD_CAPS_PPS_MAX ∧
        c.get (.PD_CAPS n) F.PD_CAPS_EPR = fget a F.PD_CAPS_EPR ∧
      c.get (.PD_LIMIT n) F.PD_LIMIT_IMAX = clampNat 10 100 (fget l F.PD_LIMIT_IMAX) ∧
      (s.chip.pdDirect n = false → (c.ports[n]).pd.capsDue = true))) ∧
  (ForPort s.chip q 0x0312#16 n e → s.chip.isPd n = true → s.chip.isDrop n = true → s.chip.pdSt n = pdREADY →
    s.chip.pdRunning n = false →
    Runs (.pdVconnSwap q) s (fun c => (c.ports[n]).pd.swapWanted = true ∧ (c.ports[n]).pd.swapReq = some q ∧
      (c.ports[n]).pd.swapByUs = true ∧
      (c.ports[n]).pd.ngFrom = if (s.chip.ports[n]).pd.contract.isSome && (s.chip.ports[n]).pd.ngFrom.isNone then
        some s.chip.clk.now else (s.chip.ports[n]).pd.ngFrom)) ∧
  (ForPort s.chip q 0x0312#16 n e → s.chip.isPd n = true → s.chip.isDrop n = true → s.chip.pdRunning n = true →
    Runs (.pdVconnSwap q) s (fun c => Answered c q e rWAIT [])) ∧
  (ForPort s.chip q 0x0313#16 n e → s.chip.isPd n = true → s.chip.isDrop n = true →
    s.chip.pdSt n = pdREADY ∨ s.chip.pdSt n = pdSEND_CAPS ∨ s.chip.pdSt n = pdNO_PD → s.chip.pdRunning n = false →
    Runs (.pdHardReset q) s (fun c => c.pdSt n = afterHardReset s.chip n ∧ c.get (.PD_VOUT n) F.PD_VOUT_TARGET = 0 ∧
      c.bit (.PD_STATUS n) F.PD_STATUS_VCONN_SRC = false)) ∧
  (ForPort s.chip q 0x0313#16 n e → s.chip.isPd n = true → s.chip.isDrop n = true → s.chip.pdRunning n = true →
    Runs (.pdHardReset q) s (fun c => Answered c q e rWAIT [])) ∧
  (∀ v, ForPort s.chip q 0x0314#16 n e → s.chip.isPd n = true → s.chip.isDrop n = true → s.chip.pdDirect n = true →
    s.chip.pdSt n = pdDIRECT → 500 ≤ v.toNat → v.toNat ≤ 4800 →
    Runs (.pdVout q v) s (fun c => c.get (.PD_VOUT n) F.PD_VOUT_TARGET = v.toNat ∧ (c.ports[n]).pd.voutReq = some q)) ∧
  (∀ w, ForPort s.chip q 0x0315#16 n e → (s.chip.ports[n]).mode = .off → (s.chip.ports[n]).seqs = [] → s.chip.frozen = false →
    fget w F.PD_CFG_PD_EN = 0 ∨ (s.chip.wrRW (.PD_CFG n) w).isPd n = true →
    Runs (.pdCfgSet q w) s (fun c =>
      (PdFree s.chip q → Answered c q e rOK [(s.chip.rd (.PD_CFG n)).toNat]) ∧
      c.get (.PD_CFG n) F.PD_CFG_PD_EN = fget w F.PD_CFG_PD_EN ∧ c.get (.PD_CFG n) F.PD_CFG_PMB = fget w F.PD_CFG_PMB))

/-- Contracts: capabilities, requests, transitions and the converter (R293 to R295, R299 to R304). Clauses rest on these choices of the model: log entries 110, 111, 213, 214, 222, 223, 245, 247. -/
def Obligations.PdContracts : Prop := ∀ s : State, Canon s.chip → s.chip.pond.grants = [] → ∀ n, s.chip.pdLive n = true →
  (s.chip.pdSt n = pdWAIT_VBUS → (s.chip.ports[n]).pd.converterOn = true → (s.chip.ports[n]).pd.reached = true →
    Runs (.vsafe5vReached n) s (fun c => c.pdSt n = if s.chip.pdDirect n then pdDIRECT else
      if s.chip.needsCable n && !(s.chip.ports[n]).pd.discovering && (s.chip.ports[n]).pd.swap == .idle && !s.chip.vconnSrc n then
        pdVCONN_SWAP else pdSEND_CAPS)) ∧
  (∀ t, s.chip.pdSt n = pdSEND_CAPS → (s.chip.ports[n]).pd.until_ = some t → t ≤ s.chip.clk.now →
    (s.chip.ports[n]).pd.capsAck = false →
    Runs (.sourceCapsTimer n true) s (fun c => (c.ports[n]).pd.sent = capsMsg c n ∧ (c.ports[n]).pd.capsAck = true ∧
      (c.ports[n]).pd.until_ = some (s.chip.clk.now + senderResponse) ∧
      (c.ports[n]).pd.sends = (s.chip.ports[n]).pd.sends + 1 ∧ c.pdSt n = pdSEND_CAPS) ∧
    Runs (.sourceCapsTimer n false) s (fun c => (c.ports[n]).pd.sends = (s.chip.ports[n]).pd.sends + 1 ∧
      c.pdSt n = (if 50 ≤ (s.chip.ports[n]).pd.sends + 1 then pdNO_PD else pdSEND_CAPS))) ∧
  (∀ t b, s.chip.pdSt n = pdSEND_CAPS → (s.chip.ports[n]).pd.until_ = some t → t ≤ s.chip.clk.now →
    (s.chip.ports[n]).pd.capsAck = true →
    Runs (.sourceCapsTimer n b) s (fun c => c.pdSt n = afterHardReset s.chip n)) ∧
  (∀ o i v x, s.chip.pdSt n = pdSEND_CAPS ∨ s.chip.pdSt n = pdNO_PD ∨ s.chip.pdSt n = pdREADY →
    (s.chip.ports[n]).pd.discovering = false → (s.chip.ports[n]).pd.request = none →
    Runs (.pdRequest n o i v x) s (fun c => c.pdSt n = pdNEGOTIATING ∧
      (c.ports[n]).pd.request = some ⟨o, i, v, x, s.chip.pdSt n⟩)) ∧
  (∀ r k, (s.chip.ports[n]).pd.request = some r → s.chip.requested n r.obj r.cur r.mv r.epr = some k →
    (s.chip.pdDecide n).pdSt n = pdTRANSITION ∧ ((s.chip.pdDecide n).ports[n]).pd.accepted = some k ∧
      ((s.chip.pdDecide n).ports[n]).pd.sent = .accept ∧ ((s.chip.pdDecide n).ports[n]).pd.request = none) ∧
  (∀ r, (s.chip.ports[n]).pd.request = some r → r.found ≤ pdDIRECT → s.chip.requested n r.obj r.cur r.mv r.epr = none →
    (s.chip.pdDecide n).pdSt n = r.found ∧ ((s.chip.pdDecide n).ports[n]).pd.sent = .reject ∧
      ((s.chip.pdDecide n).ports[n]).pd.contract = (s.chip.ports[n]).pd.contract ∧
      ((s.chip.pdDecide n).ports[n]).pd.request = none) ∧
  (∀ o i v x, s.chip.pdSt n = pdTRANSITION ∨ s.chip.pdSt n = pdVCONN_SWAP →
    Runs (.pdRequest n o i v x) s (fun c => c.pdSt n = s.chip.pdSt n ∧ (c.ports[n]).pd.sent = .wait)) ∧
  (∀ t k, s.chip.pdSt n = pdTRANSITION → (s.chip.ports[n]).pd.until_ = some t → t ≤ s.chip.clk.now →
    (s.chip.ports[n]).pd.accepted = some k →
    Runs (.acceptDelayExpiry n) s (fun c => c.get (.PD_VOUT n) F.PD_VOUT_TARGET = k.mv10 % 65536 ∧
      (c.ports[n]).pd.until_ = none ∧ c.pdSt n = pdTRANSITION)) ∧
  (∀ v k, (s.chip.ports[n]).pd.readDue s.chip.clk.now = true → (s.chip.ports[n]).pd.reached = false →
    (s.chip.ports[n]).pd.inBand = true → s.chip.pdSt n = pdTRANSITION →
    (s.chip.ports[n]).pd.until_ = none → (s.chip.ports[n]).pd.accepted = some k →
    s.chip.get (.PD_VOUT n) F.PD_VOUT_TARGET ≠ 0 →
    inBand (k.kind == pkPPS) (s.chip.get (.PD_VOUT n) F.PD_VOUT_TARGET) v.toNat = true →
    Runs (.readVoutPoll n v) s (fun c => c.get (.PD_VOUT n) F.PD_VOUT_MEASURED = v.toNat ∧ c.pdSt n = pdREADY ∧
      (c.ports[n]).pd.contract = some k)) ∧
  (∀ m w, s.chip.pdMaster n = m.val → statusFault w = true → s.chip.pdSt n ≠ pdOFF →
    Runs (.pmbusAlert m n w) s (fun c => c.bit (.PD_STATUS n) F.PD_STATUS_CONV_FAULT = true ∧
      c.pdSt n = (if 2 ≤ (s.chip.ports[n]).pd.convFaults + 1 then pdERROR_RECOVERY else afterHardReset s.chip n))) ∧
  (∀ w, statusFault w = true → s.chip.pdSt n ≠ pdOFF →
    (s.chip.ports[n]).pd.statusAt.all (fun t => t + ms 100 ≤ s.chip.clk.now) = true →
    Runs (.statusWordPoll n w) s (fun c => c.bit (.PD_STATUS n) F.PD_STATUS_CONV_FAULT = true)) ∧
  (s.chip.pdSt n ≠ pdOFF → (s.chip.ports[n]).pd.noAcks < 2 →
    Runs (.converterFault n .noAck) s (fun c => c.rd (.PD_STATUS n) = s.chip.rd (.PD_STATUS n) ∧
      (c.ports[n]).pd.noAcks = (s.chip.ports[n]).pd.noAcks + 1)) ∧
  (∀ f, s.chip.pdSt n ≠ pdOFF →
    (f = .noAck ∧ 2 ≤ (s.chip.ports[n]).pd.noAcks) ∨ f = .busTimeout ∨ f = .voutMode ∨ (∃ w, f = .status w ∧ statusFault w = true) →
    Runs (.converterFault n f) s (fun c => c.bit (.PD_STATUS n) F.PD_STATUS_CONV_FAULT = true ∧
      c.bitAt .GLB_FAULT F.GLB_FAULT_SRC (FaultSrc.pd).bit = true))

/-- Messages, reduced capabilities, EPR, VCONN and hard resets (R292, R297 to R301, R305, R306). Clauses rest on these choices of the model: log entries 112, 113, 114, 214, 215, 216, 221, 223, 224, 246. -/
def Obligations.PdMessages : Prop := ∀ s : State, Canon s.chip → s.chip.pond.grants = [] → ∀ n, s.chip.pdLive n = true →
  (s.chip.pdSt n = pdREADY →
    Runs (.pdMessage n .getSourceCap) s (fun c => (c.ports[n]).pd.sent = capsMsg s.chip n ∧ (c.ports[n]).pd.capsDue = false) ∧
    Runs (.pdMessage n .getStatus) s (fun c => (c.ports[n]).pd.sent = .status (Config.pdStatusBlock n.val)) ∧
    Runs (.pdMessage n .getSourceCapExt) s (fun c => (c.ports[n]).pd.sent = .sourceCapsExt (Config.pdSourceCapsExt n.val)) ∧
    Runs (.pdMessage n .getPpsStatus) s (fun c =>
      (c.ports[n]).pd.sent = .ppsStatus (s.chip.get (.PD_VOUT n) F.PD_VOUT_MEASURED / 2)) ∧
    Runs (.pdMessage n .getRevision) s (fun c => (c.ports[n]).pd.sent = .revision 3 1) ∧
    (s.chip.bit (.PD_STATUS n) F.PD_STATUS_EPR_MODE = true →
      Runs (.pdMessage n .eprKeepAlive) s (fun c => (c.ports[n]).pd.sent = .eprKeepAliveAck ∧
        (c.ports[n]).pd.keepAliveBy = some (s.chip.clk.now + ms 900))) ∧
    Runs (.pdMessage n .unsupported) s (fun c => (c.ports[n]).pd.sent = .notSupported) ∧
    Runs (.pdMessage n .softReset) s (fun c => (c.ports[n]).pd.sent = .accept ∧ (c.ports[n]).pd.capsDue = true ∧
      (c.ports[n]).pd.swap = .idle)) ∧
  (s.chip.pdSt n = pdREADY → s.chip.pdDirect n = false → s.chip.get (.PD_CAPS n) F.PD_CAPS_EPR ≠ 0 →
    s.chip.bit (.PD_STATUS n) F.PD_STATUS_CABLE_EPR = true →
    s.chip.pdReduced n = false →
    Runs (.pdEprMode n true) s (fun c => c.bit (.PD_STATUS n) F.PD_STATUS_EPR_MODE = true ∧
      (c.ports[n]).pd.sent = .eprSourceCaps (c.pdWords n false))) ∧
  (pdTalks (s.chip.pdSt n) = true → s.chip.pdDirect n = false →
    s.chip.pdSt n ≠ pdREADY ∨ s.chip.bit (.PD_STATUS n) F.PD_STATUS_CABLE_EPR = false →
    Runs (.pdEprMode n true) s (fun c =>
      (c.ports[n]).pd.sent = .eprFailed (!s.chip.bit (.PD_STATUS n) F.PD_STATUS_CABLE_EPR) ∧
      c.bit (.PD_STATUS n) F.PD_STATUS_EPR_MODE = s.chip.bit (.PD_STATUS n) F.PD_STATUS_EPR_MODE)) ∧
  (s.chip.pdSt n = pdREADY → s.chip.pdDirect n = false → s.chip.bit (.PD_STATUS n) F.PD_STATUS_EPR_MODE = true →
    s.chip.eprContract n = false →
    Runs (.pdEprMode n false) s (fun c => c.bit (.PD_STATUS n) F.PD_STATUS_EPR_MODE = false ∧ c.pdSt n = pdREADY)) ∧
  (s.chip.pdSt n = pdREADY → s.chip.pdDirect n = false → s.chip.bit (.PD_STATUS n) F.PD_STATUS_EPR_MODE = true →
    s.chip.eprContract n = true →
    Runs (.pdEprMode n false) s (fun c => c.pdSt n = afterHardReset s.chip n)) ∧
  (∀ t, s.chip.pdSt n = pdREADY → s.chip.pdRunning n = false → (s.chip.ports[n]).pd.ngFrom = some t → t + ms 16 ≤ s.chip.clk.now →
    s.chip.needsCable n = false → (s.chip.rails[s.chip.railOf n]).overB = true → s.chip.pdReduced n = false →
    Runs (.pdNextOpportunity n) s (fun c => c.bit (.PD_STATUS n) F.PD_STATUS_EPR_MODE = false ∧
      (s.chip.bit (.PD_STATUS n) F.PD_STATUS_EPR_MODE = false →
        c.pdReduced n = true ∧ (c.ports[n]).pd.sent = .sourceCaps (c.pdWords n true)) ∧
      (s.chip.bit (.PD_STATUS n) F.PD_STATUS_EPR_MODE = true →
        (c.ports[n]).pd.sent = .eprExit ∧ (c.ports[n]).pd.capsDue = true))) ∧
  (∀ t, s.chip.pdSt n = pdREADY → (s.chip.ports[n]).pd.swap = .idle → (s.chip.ports[n]).pd.discovering = false →
    (s.chip.ports[n]).pd.swapWanted = true → (s.chip.ports[n]).pd.ngFrom = some t → t + ms 16 ≤ s.chip.clk.now →
    Runs (.pdNextOpportunity n) s (fun c => c.pdSt n = pdVCONN_SWAP ∧ (c.ports[n]).pd.swap = .sent ∧
      (c.ports[n]).pd.sent = .vconnSwap ∧ (c.ports[n]).pd.swapWanted = false)) ∧
  (∀ t k, s.chip.pdSt n = pdREADY → (s.chip.ports[n]).pd.answerBy = some t → t ≤ s.chip.clk.now →
    (s.chip.ports[n]).pd.contract = some k → k.offered (s.chip.pdOffer n (s.chip.pdReduced n)) = false →
    Runs (.reducedRequestTimeout n) s (fun c => c.pdSt n = afterHardReset s.chip n)) ∧
  (∀ t, s.chip.bit (.PD_STATUS n) F.PD_STATUS_EPR_MODE = true → (s.chip.ports[n]).pd.keepAliveBy = some t → t ≤ s.chip.clk.now →
    Runs (.eprKeepaliveTimeout n) s (fun c => c.pdSt n = afterHardReset s.chip n)) ∧
  (∀ t, (s.chip.ports[n]).pd.ppsBy = some t → t ≤ s.chip.clk.now →
    Runs (.ppsRequestTimeout n) s (fun c => c.pdSt n = afterHardReset s.chip n)) ∧
  (∀ m, s.chip.vconnSrc n = true → 45 < m →
    Runs (.vconnOvercurrent n m) s (fun c => c.vconnSrc n = false ∧ (c.ports[n]).pd.cableKnown = false ∧
      c.bitAt .GLB_FAULT F.GLB_FAULT_SRC (FaultSrc.pd).bit = true)) ∧
  (∀ a, (s.chip.ports[n]).pd.discovering = true → s.chip.vconnSrc n = true →
    Runs (.cableDiscovery n (some a)) s (fun c => c.bit (.PD_STATUS n) F.PD_STATUS_CABLE_5A = a.1 ∧
      c.bit (.PD_STATUS n) F.PD_STATUS_CABLE_EPR = a.2 ∧ (c.ports[n]).pd.cableKnown = true)) ∧
  (s.chip.pdSt n = pdREADY → s.chip.pdDirect n = false → (s.chip.ports[n]).pd.swap = .idle → s.chip.vconnSrc n = true →
    Runs (.vconnSwapReceive n) s (fun c => (c.ports[n]).pd.swap = .giving ∧ c.pdSt n = pdVCONN_SWAP ∧
      (c.ports[n]).pd.sent = .accept)) ∧
  (s.chip.pdSt n = pdREADY → s.chip.pdDirect n = false → (s.chip.ports[n]).pd.swap = .idle → s.chip.vconnSrc n = false →
    Runs (.vconnSwapReceive n) s (fun c => c.vconnSrc n = true ∧ c.pdSt n = pdREADY)) ∧
  (∀ t, (s.chip.ports[n]).pd.swap = .giving → (s.chip.ports[n]).pd.swapUntil = some t → t ≤ s.chip.clk.now →
    Runs (.vconnGiveTimeout n) s (fun c => c.pdSt n = afterHardReset s.chip n)) ∧
  (∀ t, (s.chip.ports[n]).pd.swap = .retry → (s.chip.ports[n]).pd.swapUntil = some t → t ≤ s.chip.clk.now →
    Runs (.swapRetryWaitExpiry n) s (fun c => (c.ports[n]).pd.swap = .sent ∧ (c.ports[n]).pd.sent = .vconnSwap ∧
      (c.ports[n]).pd.swapTries = (s.chip.ports[n]).pd.swapTries + 1)) ∧
  (∀ t, (s.chip.ports[n]).pd.swap = .sent → (s.chip.ports[n]).pd.swapUntil = some t → t ≤ s.chip.clk.now →
    Runs (.swapNoAnswer n) s (fun c => (c.ports[n]).pd.swap = .idle ∧ (c.ports[n]).pd.sent = .softReset)) ∧
  (s.chip.pdSt n = pdREADY ∨ s.chip.pdSt n = pdTRANSITION →
    Runs (.hardResetReceive n) s (fun c => c.pdSt n = afterHardReset s.chip n)) ∧
  (∀ t, s.chip.pdSt n = pdHARD_RESET → (s.chip.ports[n]).pd.until_ = some t → t ≤ s.chip.clk.now →
    Runs (.hardResetRecovery n) s (fun c => c.pdSt n = pdWAIT_VBUS ∧ (c.ports[n]).pd.until_ = none)) ∧
  (∀ t, s.chip.pdSt n = pdERROR_RECOVERY → (s.chip.ports[n]).pd.until_ = some t → t ≤ s.chip.clk.now →
    Runs (.errorRecoveryEnd n) s (fun c => c.pdSt n = pdWAIT_VBUS ∧ (c.ports[n]).pd.rpOff = false))

/-! ### Drops (08, 09) -/

/-- The drop opcodes (R33, R166, R169, R170, R178, R179, R187, R192, R197, R200). Clauses rest on these choices of the model: log entries 6, 75, 76, 77, 84, 87, 88, 89, 90, 91, 199, 204. -/
def Obligations.DropRequests : Prop := ∀ s : State, Canon s.chip → s.chip.pond.grants = [] → ∀ q n e, s.chip.isDrop n = true →
  (ForPort s.chip q 0x0401#16 n e → Runs (.dropStatus q) s (fun c => Answered c q e rOK
    ([(s.chip.rd (.DROP_STATUS n)).toNat, (s.chip.rd (.DROP_SUSP n)).toNat] ++
      (s.chip.pond.waiters.findIdx? (fun w => w.who.port == n)).toList))) ∧
  (∀ k, ForPort s.chip q 0x0402#16 n e → s.chip.root n = rsDEFAULT → (s.chip.ports[n]).drop.enum = none →
    Runs (.dropEnumerate q 0#20 k) s (fun c => c.root n = rsENUMERATING ∧
      (c.ports[n]).drop.enum.map (fun x => (x.route, x.step, x.configSel, x.req)) = some (0#20, 1, k.toNat, some q))) ∧
  (∀ r d k, ForPort s.chip q 0x0402#16 n e → r ≠ 0#20 → s.chip.dev? n r = some d → d.waits = true → s.chip.root n = rsACTIVE →
    (s.chip.ports[n]).drop.enum = none → (s.chip.ports[n]).drop.enumQ = [] →
    Runs (.dropEnumerate q r k) s (fun c => (c.ports[n]).drop.enum.map (fun x => (x.route, x.step, x.configSel, x.req)) =
      some (r, 1, k.toNat, some q))) ∧
  (∀ k, ForPort s.chip q 0x0402#16 n e → s.chip.root n = rsACTIVE →
    Runs (.dropEnumerate q 0#20 k) s (fun c => Answered c q e rBAD_ARG [] ∧ c.root n = rsACTIVE)) ∧
  (ForPort s.chip q 0x0403#16 n e → s.chip.pond.waiters = [] → s.chip.pond.rebuild = false → s.chip.root n = rsACTIVE →
    Runs (.dropReset q 0#20) s (fun c => c.root n = rsRESETTING ∧
      (c.ports[n]).drop.devs.all (fun d => d.route != 0#20) = true)) ∧
  (ForPort s.chip q 0x0404#16 n e → s.chip.root n = rsACTIVE →
    Runs (.dropSuspend q) s (fun c => c.root n = rsSUSPENDING ∧
      (c.ports[n]).drop.suspendReqs = (s.chip.ports[n]).drop.suspendReqs ++ [q])) ∧
  (ForPort s.chip q 0x0404#16 n e → s.chip.root n = rsSUSPENDED → (s.chip.ports[n]).drop.resume = none →
    Runs (.dropSuspend q) s (fun c => Answered c q e rOK [])) ∧
  (ForPort s.chip q 0x0405#16 n e → s.chip.root n = rsSUSPENDED → (s.chip.ports[n]).drop.resume = none →
    Runs (.dropResume q) s (fun c => (c.ports[n]).drop.resume.map (fun r => (r.host, r.on, r.driveAt)) =
      some ([q], false, s.chip.clk.now + us 5))) ∧
  (ForPort s.chip q 0x0405#16 n e → s.chip.root n = rsACTIVE → Runs (.dropResume q) s (fun c => Answered c q e rOK [])) ∧
  (ForPort s.chip q 0x0405#16 n e → s.chip.root n = rsRECOVERY →
    Runs (.dropResume q) s (fun c => Answered c q e rBAD_ARG [] ∧ c.root n = rsRECOVERY)) ∧
  (∀ f k, ForPort s.chip q 0x0406#16 n e → k ≤ 8 → Runs (.dropTree q f k) s (fun c => Answered c q e rOK
    ((((s.chip.ports[n]).drop.devs.drop f).take k).flatMap (fun d =>
      [d.route.toNat, d.addr, d.speed, d.vid.toNat, d.pid.toNat, d.cid, d.gen.toNat, s.chip.devState d])))) ∧
  (∀ a w m g r b, ForPort s.chip q 0x0407#16 n e → s.chip.frozen = false →
    Runs (.dropSet q a w m g r b) s (fun c =>
      Answered c q e rOK [(s.chip.rd (.DROP_CTL n)).toNat, s.chip.get (.DROP_SUSP n) F.DROP_SUSP_SUSP_BUDGET] ∧
      c.bit (.DROP_CTL n) F.DROP_CTL_AUTO_ENUM = a ∧ c.bit (.DROP_CTL n) F.DROP_CTL_RWAKE_EN = w ∧
      c.get (.DROP_CTL n) F.DROP_CTL_SPEED_MAX = (if m.toNat < 2 then m.toNat else 0) ∧
      c.get (.DROP_CTL n) F.DROP_CTL_CONFIG_SEL = g.toNat ∧ c.get (.DROP_CTL n) F.DROP_CTL_ENUM_RETRY = r.toNat ∧
      c.get (.DROP_SUSP n) F.DROP_SUSP_SUSP_BUDGET = b.toNat)) ∧
  (∀ r d u t o, ForPort s.chip q 0x0408#16 n e → s.chip.dev? n r = some d → d.configured = true → u.length = 8 → o.length ≤ 32 →
    refusedCtl d.hub u = none → (resyncOf u).sets = false →
    Runs (.dropControl q r u t o) s (fun c => (c.ports[n]).drop.ctls = (s.chip.ports[n]).drop.ctls ++
      [{ route := r, by_ := .door q, setup := u, out := o, span := ms t, deadline := s.chip.clk.now + ms t }])) ∧
  (∀ r d u t o v, ForPort s.chip q 0x0408#16 n e → s.chip.dev? n r = some d → d.configured = true → u.length = 8 →
    o.length ≤ 32 → refusedCtl d.hub u = some v → s.chip.pond.rebuild = false →
    Runs (.dropControl q r u t o) s (fun c => Answered c q e v [] ∧ (c.ports[n]).drop.ctls = (s.chip.ports[n]).drop.ctls)) ∧
  (∀ r d p b w x, ForPort s.chip q 0x0409#16 n e → s.chip.dev? n r = some d → s.chip.ep? d.cid p = some x → b ≠ 0#8 → w ≠ 0#8 →
    Runs (.weirSet q r p b w) s (fun c => Answered c q e rOK [x.2.nakBudget, x.2.weight] ∧
      (c.ports[n]).drop.weirs = (s.chip.ports[n]).drop.weirs ++
        [{ epoch := (s.chip.ports[n]).epoch, cid := x.1, gen := (s.chip.ctx x.1).gen, budget := b.toNat, weight := w.toNat }])) ∧
  (∀ i g v st, ForPort s.chip q 0x040A#16 n e → s.chip.strmRef? i.toNat g = some st → st.door = q.door → v ≤ 65536 →
    Runs (.sofStampOpen q i g v) s (fun c => Answered c q e rOK [] ∧
      ⟨i.toNat, g, if v = 0 then 8 else v⟩ ∈ (c.ports[n]).drop.stamps)) ∧
  (ForPort s.chip q 0x040B#16 n e →
    Runs (.sofStampRead q) s (fun c => Answered c q e rOK ((s.chip.stampBytes n).map (·.toNat)))) ∧
  (∀ f k, ForPort s.chip q 0x040C#16 n e → k ≤ 8 → Runs (.dropSchedRead q f k) s (fun c => Answered c q e rOK
    ((((s.chip.ports[n]).drop.sched.drop f).take k).flatMap (fun x =>
      [x.route.toNat, x.ep.toNat, Nat.log2 (if x.tt.isSome then x.period / 8 else x.period), x.phase, x.cost]))))

/-- What happens on a drop's bus: attach, reset, enumeration, removal (R166 to R171, R175, R278). Clauses rest on these choices of the model: log entries 75, 76, 87, 91, 193, 238. -/
def Obligations.DropAttach : Prop := ∀ s : State, Canon s.chip → s.chip.pond.grants = [] → ∀ n, s.chip.isDrop n = true →
  (∀ b, s.chip.basinUp n = true → s.chip.detaching n = false → s.chip.root n = rsDISCONNECTED →
    Runs (.dropPullupSeen n b) s (fun c => c.root n = rsDEBOUNCE ∧ (c.ports[n]).drop.pullup = some b ∧
      (c.ports[n]).drop.until_ = some (s.chip.clk.now + ms 100))) ∧
  (s.chip.basinUp n = true → s.chip.root n = rsDEBOUNCE →
    Runs (.dropPullupLost n) s (fun c => c.root n = rsDISCONNECTED ∧ (c.ports[n]).drop.pullup = none)) ∧
  (s.chip.basinUp n = true → s.chip.root n = rsDEBOUNCE → s.chip.dropDue n = true →
    Runs (.debounceExpiry n) s (fun c => c.root n = rsRESETTING ∧ (c.ports[n]).drop.until_ = some (s.chip.clk.now + ms 50))) ∧
  (∀ k, s.chip.root n = rsRESETTING → (s.chip.ports[n]).drop.pullup = some true → (s.chip.ports[n]).drop.hsOk = true →
    k ≤ 7000 →
    Runs (.deviceChirpK n k) s (fun c => (c.ports[n]).drop.chirped = true ∧ c.root n = rsRESETTING)) ∧
  (s.chip.root n = rsRESETTING → s.chip.dropDue n = true → (s.chip.ports[n]).drop.enum = none →
    Runs (.rootResetExpiry n) s (fun c =>
      c.root n = (if s.chip.bit (.DROP_CTL n) F.DROP_CTL_AUTO_ENUM then rsENUMERATING else rsDEFAULT) ∧
      c.rootSpeed n = (if (s.chip.ports[n]).drop.chirped then spHS else if (s.chip.ports[n]).drop.pullup = some true then spFS
        else spLS) ∧
      (c.ports[n]).drop.enum.isSome = s.chip.bit (.DROP_CTL n) F.DROP_CTL_AUTO_ENUM)) ∧
  (∀ x k g, s.chip.enumLive n = some x → x.waitUntil = none → x.step = 1 →
    Runs (.enumRequestComplete n (.device k g)) s (fun c => (c.ports[n]).drop.enum =
      some { x with step := 2, mps0 := k, isHub := g == 9#8, since := s.chip.clk.now })) ∧
  (∀ x k, s.chip.enumLive n = some x → x.waitUntil = none → x.step = 2 →
    Runs (.enumRequestComplete n (.configHead k)) s (fun c => (c.ports[n]).drop.enum =
      some { x with step := 3, since := s.chip.clk.now })) ∧
  (∀ x t, s.chip.enumLive n = some x → x.waitUntil = some t → t ≤ s.chip.clk.now → x.step ≠ 9 →
    Runs (.enumWaitExpiry n) s (fun c => (c.ports[n]).drop.enum = some { x with waitUntil := none, since := s.chip.clk.now })) ∧
  (∀ k q, s.chip.enumLive n = none → s.chip.root n = rsACTIVE → (s.chip.ports[n]).drop.ctls = [k] → k.by_ = .door q → k.deadline ≤ s.chip.clk.now →
    k.added = [] →
    Runs (.controlStageTimeout n) s (fun c => (c.ports[n]).drop.ctls = [])) ∧
  (s.chip.basinUp n = true → s.chip.pond.waiters = [] → rsDEBOUNCE ≤ s.chip.root n → s.chip.root n ≤ rsRECOVERY →
    Runs (.dropDisconnect n) s (fun c => c.root n = rsDISCONNECTED ∧ (c.ports[n]).drop.pullup = none ∧
      c.rootSpeed n = spNONE)) ∧
  (∀ x, s.chip.typeC n = true → (s.chip.chans[n]).phase = .armed → s.chip.inrushOk n = true →
    s.chip.dieUp (fuseDie n) = true → s.chip.railUv (fuseDie n) (s.chip.railOf n) = false →
    Runs (.typecRdSeen n x) s (fun c => (c.chans[n]).phase = .inrush ∧ (c.ports[n]).drop.rd = some x.onCc2 ∧
      (c.ports[n]).drop.ra = x.ra ∧ (s.chip.isPd n = true → x.ra = true → c.vconnSrc n = true ∧ c.vconnBall n = some (!x.onCc2)))) ∧
  (s.chip.typeC n = true → (s.chip.ports[n]).drop.rd.isSome = true → (s.chip.chans[n]).phase = .on →
    Runs (.typecRdLost n) s (fun c => (c.chans[n]).phase = .armed))

/-- Suspend and resume of a drop, microframes, transactions and hubs (R174, R178 to R182, R186, R191, R198, R200, R203). Clauses rest on these choices of the model: log entries 75, 80, 82, 83, 85, 86, 197, 198, 208, 239, 241. -/
def Obligations.DropTraffic : Prop := ∀ s : State, Canon s.chip → s.chip.pond.grants = [] → ∀ n, s.chip.isDrop n = true →
  (s.chip.root n = rsSUSPENDING → s.chip.dropDue n = true → (s.chip.ports[n]).drop.resumeLater = [] →
    Runs (.suspendIdleExpiry n) s (fun c => c.root n = rsSUSPENDED ∧ (c.ports[n]).drop.suspendReqs = [] ∧
      (c.ports[n]).drop.overdrawAt = some (s.chip.clk.now + ms 10) ∧
      (DieFree s.chip (fuseDie n) → (s.chip.chans[n]).phase = .on → (c.chans[n]).phase = .suspend))) ∧
  (∀ a t, s.chip.root n = rsSUSPENDED → (s.chip.ports[n]).drop.overdrawAt = some t → t ≤ s.chip.clk.now →
    s.chip.get (.DROP_SUSP n) F.DROP_SUSP_SUSP_BUDGET < a.toNat →
    Runs (.overdrawCheck n a) s (fun c => c.bit (.DROP_STATUS n) F.DROP_STATUS_OVERDRAW_SEEN = true ∧
      c.get (.DROP_SUSP n) F.DROP_SUSP_MEASURED = a.toNat ∧ (c.ports[n]).drop.overdrawAt = none)) ∧
  (s.chip.root n = rsSUSPENDED → s.chip.dozing = false → s.chip.bit (.DROP_CTL n) F.DROP_CTL_RWAKE_EN = true →
    (s.chip.ports[n]).drop.resume = none →
    Runs (.remoteWakeK n) s (fun c => c.bit (.DROP_STATUS n) F.DROP_STATUS_WAKE_SEEN = true ∧
      (c.ports[n]).drop.resume.map (fun r => (r.remote, r.on, r.driveAt)) = some (true, false, s.chip.clk.now + us 5))) ∧
  (∀ r, (s.chip.ports[n]).drop.resume = some r → r.on = false → r.driveAt ≤ s.chip.clk.now →
    (s.chip.driveK n).root n = rsRESUMING ∧ ((s.chip.driveK n).ports[n]).drop.resume = some { r with on := true } ∧
    (DieFree s.chip (fuseDie n) → (s.chip.chans[n]).phase = .suspend → ((s.chip.driveK n).chans[n]).phase = .on)) ∧
  (s.chip.root n = rsSUSPENDED → s.chip.dozing = false → s.chip.bit (.DROP_CTL n) F.DROP_CTL_RWAKE_EN = false →
    Runs (.remoteWakeK n) s (fun c => c.root n = rsSUSPENDED ∧ c.bit (.DROP_STATUS n) F.DROP_STATUS_WAKE_SEEN = true)) ∧
  (s.chip.root n = rsRESUMING → s.chip.dropDue n = true →
    Runs (.resumeKDone n) s (fun c => c.root n = rsRECOVERY ∧ (c.ports[n]).drop.until_ = some (s.chip.clk.now + ms 10))) ∧
  (s.chip.root n = rsRECOVERY → s.chip.dropDue n = true → (s.chip.ports[n]).drop.suspendLater = [] →
    (s.chip.ports[n]).drop.enumQ = [] →
    Runs (.resumeRecoveryDone n) s (fun c => c.root n = rsACTIVE ∧ (c.ports[n]).drop.resume = none)) ∧
  (s.chip.sei.running = true → s.chip.dozing = false →
    (s.chip.ports[n]).drop.lastM ≠ some (s.chip.sei.time.toNat / 200000) →
    Runs (.microframeBoundary n) s (fun c => (c.ports[n]).drop.lastM = some (s.chip.sei.time.toNat / 200000) ∧
      c.sei.stampTime = BitVec.ofNat 64 (s.chip.sei.time.toNat / 200000 * 200000) ∧
      (s.chip.sofRuns n = true → s.chip.rootSpeed n = spHS → (s.chip.ports[n]).drop.aligned = true →
        c.get (.DROP_FRAME n) F.DROP_FRAME_FRAME = s.chip.sei.time.toNat / 200000 * 200000 / 1600000 % 2048 ∧
        c.get (.DROP_FRAME n) F.DROP_FRAME_UFRAME = s.chip.sei.time.toNat / 200000 % 8))) ∧
  (∀ r p d x b t, s.chip.sofRuns n = true → s.chip.root n = rsACTIVE → (s.chip.ports[n]).drop.slot = some (s.chip.slotNow n) →
    s.chip.nextTurn n = some (r, p, .bulk t) → s.chip.dev? n r = some d → s.chip.ttHere n d = none →
    s.chip.ep? d.cid p = some x → p.getLsbD 7 = true → x.2.ep = p → x.2.xfer = 2 →
    Runs (.transactionComplete n r p (.ack b (togglePid x.2.toggle))) s (fun c => (c.ctx x.1).body = .ep { x.2 with
      toggle := !x.2.toggle, bytes := x.2.bytes + b.length, slow := x.2.slow && b.length == 0,
      slowRun := if b.length = 0 then x.2.slowRun else 0 })) ∧
  (∀ h v p f g, s.chip.dev? n h = some v → s.chip.sofRuns n = true → s.chip.root n = rsACTIVE → v.configured = true → p ≠ 0 →
    p ≤ v.hubPorts → v.pollOpen s.chip.frameMs p = true → s.chip.dev? n (routeChild h p) = none →
      (s.chip.ports[n]).drop.enumQ = [] →
      s.chip.bit (.DROP_CTL n) F.DROP_CTL_AUTO_ENUM = false →
    Runs (.hubStatusPoll n h p (some (.connect f g))) s (fun c => (c.dev? n (routeChild h p)).map (fun d => (d.speed, d.waits)) =
      some (if g then spHS else if f then spFS else spLS, true))) ∧
  (∀ h v p, s.chip.dev? n h = some v → s.chip.sofRuns n = true → s.chip.root n = rsACTIVE → v.configured = true → p ≠ 0 →
    p ≤ v.hubPorts → v.pollOpen s.chip.frameMs p = true →
    Runs (.hubStatusPoll n h p (some .overCurrent)) s (fun c => c.bit (.DROP_STATUS n) F.DROP_STATUS_OC_SEEN = true)) ∧
  (∀ k i t r, s.chip.svc.streams.find? (fun t => t.id.toNat == k) = some t → t.recs[i]? = some r → r.st = .opened →
    r.openedAt + ms (s.chip.getPos (.DROP_PARISON (Fin.ofNat 96 (r.src % 128))) F.DROP_PARISON_PARISON_MAX) < s.chip.clk.now →
    Runs (.parisonTimeout k i) s (fun c => (c.svc.streams.find? (fun t => t.id.toNat == k)).map (·.recs) =
      some (t.recs.set i { r with st := .cullet, flags := r.flags ||| pfTIMEOUT })))

/-! ### Class services (10) and streams (R114) -/

/-- The service opcodes, and streams opened and closed (R114, R147, R205 to R209, R220). Clauses rest on these choices of the model: log entries 5, 6, 93, 96, 99, 100, 200. -/
def Obligations.SvcRequests : Prop := ∀ s : State, Canon s.chip → s.chip.pond.grants = [] → ∀ q e,
  (∀ n r d i x k p st o f t, ForPort s.chip q 0x0801#16 n e → s.chip.isDrop n = true → s.chip.dev? n r = some d →
    d.iface? i = some x → d.configured = true → p ≤ 15 → kindAccepts k x d = true →
    (coveredIfs k i d).any (fun j => s.chip.covered n d j) = false → s.chip.bindRoom n = true →
    f = false ∨ s.chip.svc.bindRules.length < 256 → s.chip.strm? st = some t → o = 0xFFFF#16 ∨ (s.chip.strm? o).isSome = true →
    s.chip.pond.rebuild = false → s.chip.allocVerdict (hPort n) 1 = rOK →
    Runs (.svcBind q r i k p st o f) s (fun c => ∃ b, c.bind? n r i = some b ∧
      (b.kind, b.profile, b.stream, b.door) = (k, p, st, some q.door) ∧
      (c.ctx b.cid).typ = tSERVICE ∧ (c.ctx b.cid).holder = n.val ∧
      (k = kRAW → b.pending = none ∧ Answered c q e rOK [b.cid, b.gen.toNat]) ∧
      (k ≠ kRAW → (b.pending, b.req) = (some .setup, some q) ∧
        ∃ y, (c.ports[n]).drop.ctls = (s.chip.ports[n]).drop.ctls ++ [y] ∧ (y.route, y.by_) = (r, .setup i)))) ∧
  (∀ n r d i x k p st o f, ForPort s.chip q 0x0801#16 n e → s.chip.isDrop n = true → s.chip.dev? n r = some d →
    d.iface? i = some x → d.configured = true → p ≤ 15 → kindAccepts k x d = true →
    (coveredIfs k i d).any (fun j => s.chip.covered n d j) = false → s.chip.bindRoom n = true →
    f = false ∨ s.chip.svc.bindRules.length < 256 → s.chip.strm? st = none →
    Runs (.svcBind q r i k p st o f) s (fun c => Answered c q e rWAIT [2] ∧
      (c.bind? n r i).map (·.pending) = some (some .noStream))) ∧
  (∀ n r d i x k p st o f, ForPort s.chip q 0x0801#16 n e → s.chip.isDrop n = true → s.chip.dev? n r = some d →
    d.iface? i = some x → d.configured = true → p ≤ 15 → kindAccepts k x d = true →
    (coveredIfs k i d).any (fun j => s.chip.covered n d j) = true →
    Runs (.svcBind q r i k p st o f) s (fun c => Answered c q e rLOCKED [] ∧ c.svc = s.chip.svc)) ∧
  (∀ n r i b f, ForPort s.chip q 0x0802#16 n e → s.chip.isDrop n = true → s.chip.pond.waiters = [] →
    s.chip.bind? n r i = some b → b.req = none →
    Runs (.svcUnbind q r i f) s (fun c => Answered c q e rOK [] ∧ c.bind? n r i = none ∧
      (b.pending = none → (s.chip.ctx b.cid).poisoned = false → (c.ctx b.cid).typ = tFREE))) ∧
  (∀ n f k, ForPort s.chip q 0x0803#16 n e → s.chip.isDrop n = true → k ≤ 4 →
    Runs (.svcList q f k) s (fun c => Answered c q e rOK ((((s.chip.svc.binds.filter (fun b => b.port == n)).drop f).take k).flatMap
      (fun b => [b.route.toNat, b.iface, b.kind, b.profile, b.stream.toNat, b.out.toNat,
        if b.pending.isSome then 0 else (s.chip.svcBody b).state, if b.pending.isSome then 0 else (s.chip.svcBody b).rseq.toNat])))) ∧
  (∀ id port depth w, Startable s.chip q Config.opStreamOpen [0, 1] e → s.chip.pond.rebuild = false → id ≠ 0xFFFF#16 →
    depth ≠ 0 →
    s.chip.svc.streams.any (fun x => x.id == id) = false → s.chip.svc.binds.all (fun b => b.pending != some .noStream) = true →
    s.chip.allocVerdict hSTREAM 1 = rOK → s.chip.queueFits depth = true →
    Runs (.streamOpen q id port depth w) s (fun c => ∃ x, c.strm? id = some x ∧
      (x.door, x.port, x.depth, x.recs, x.received) = (q.door, port, depth, [], 0) ∧
      Answered c q e rOK [x.cid, x.gen.toNat] ∧ (c.ctx x.cid).typ = tSTREAM ∧
      c.trunk.rx = s.chip.trunk.rx ++ [{ cls := 2, id := id.toNat, last := none, buf := [] }])) ∧
  (∀ cid g x, Startable s.chip q Config.opStreamClose [0, 1] e → s.chip.pond.waiters = [] →
    s.chip.strmRef? cid.toNat g = some x → x.door = q.door → s.chip.svc.binds.all (fun b => b.req.isNone) = true →
    Runs (.streamClose q cid g) s (fun c => Answered c q e rOK [] ∧
      c.trunk.rx = s.chip.trunk.rx.filter (fun y => !(y.cls == 2 && y.id == x.id)) ∧
      c.svc.binds.all (fun b => !(b.stream == x.id || b.out == x.id)) = true))

/-- What the devices of a drop send to their services (R190, R201, R207, R210 to R218). Clauses rest on these choices of the model: log entries 94, 95, 97, 98, 207. -/
def Obligations.SvcTraffic : Prop := ∀ s : State, Canon s.chip → s.chip.pond.grants = [] → ∀ n r i b t,
  (∀ d x m, s.chip.dev? n r = some d → d.configured = true → s.chip.svc.rebuilding = false → d.ifaces = [x] →
    d.matchDue = true →
    s.chip.covered n d x.num = false → s.chip.bindRoom n = true → kindAccepts m.kind x d = true →
    (coveredIfs m.kind x.num d).any (fun j => s.chip.covered n d j) = false → s.chip.svc.bindRules = [] →
    s.chip.svc.rules.find? (fun y => y.matches n d x) = some m → m.profile < 16 → s.chip.strm? m.stream = none →
    Runs (.classMatch n r) s (fun c => (c.bind? n r x.num).map (fun b => (b.kind, b.profile, b.stream, b.out, b.pending)) =
      some (m.kind, m.profile, m.stream, m.out, some (if s.chip.hsRuns then .noStream else .headspring)))) ∧
  (∀ rep, s.chip.bound? n r i kHID = some b → ((bytesAt rep 0 8).drop 2).all (fun k => k == 1#8) = false →
    Runs (.hidReport n r i rep) s (fun c => (c.bind? n r i).map (·.prev) = some (bytesAt rep 0 8))) ∧
  (∀ rep u ch x, BoundTo s.chip n r i kHID b t → s.chip.openOf b = some x → b.discard = false →
    ((bytesAt rep 0 8).drop 2).all (fun k => k == 1#8) = false →
    ((bytesAt rep 0 8).drop 2).filter (fun k => k != 0#8 && !(b.prev.drop 2).contains k) = [u] → u.toNat ≤ 0x7F →
    b.keys.getD (128 * hidLayer ((bytesAt rep 0 8).headD 0#8) + u.toNat) 0#8 = ch → ch ≠ 0#8 →
    terminates b.ctl b.term b.lastByte ch = false → x.data.length + 1 < fget b.ctl F.SVC_PROF_CTL_MAX_LEN →
    t.fill + 8 ≤ t.depth →
    Runs (.hidReport n r i rep) s (fun c => (c.openOf b).map (·.data) = some (x.data ++ [ch]))) ∧
  (∀ rep, BoundTo s.chip n r i kHID b t → ((bytesAt rep 0 8).drop 2).all (fun k => k == 1#8) = true →
    Runs (.hidReport n r i rep) s (fun c => recsOf c b.stream = updFirst (Rec.isOpenOf b.key)
      (fun x => { x with hdr := { x.hdr with rflags := x.hdr.rflags ||| rfROLLOVER } }) t.recs)) ∧
  (∀ ch x, BoundTo s.chip n r i kCDC b t → s.chip.openOf b = some x → b.discard = false →
    terminates b.ctl b.term b.lastByte ch = false → x.data.length + 1 < fget b.ctl F.SVC_PROF_CTL_MAX_LEN →
    t.fill + 8 ≤ t.depth →
    Runs (.cdcBulkIn n r i [ch]) s (fun c => (c.openOf b).map (·.data) = some (x.data ++ [ch]))) ∧
  (∀ ch x, BoundTo s.chip n r i kCDC b t → s.chip.openOf b = some x → b.discard = false →
    fget b.ctl F.SVC_PROF_CTL_MODE = 0 → terminates b.ctl b.term b.lastByte ch = true →
    fget b.ctl F.SVC_PROF_CTL_TERM_KEEP = 0 → fget b.ctl F.SVC_PROF_CTL_SEQ2 = 0 →
    Runs (.cdcBulkIn n r i [ch]) s (fun c => recsOf c b.stream =
      updFirst (Rec.isOpenOf b.key) (fun x => { x with st := .closed }) t.recs)) ∧
  (∀ st, s.chip.bound? n r i kCDC = some b →
    Runs (.serialState n r i st) s (fun c => c = s.chip.postOwn b.door (s.chip.evSvc 0x0804 n r [st.toNat]))) ∧
  (∀ a k o d x, s.chip.bound? n r i kPRINTER = some b → s.chip.bindOut b = some o → s.chip.dev? n r = some d →
    s.chip.jobEp d b = some x → x.2.mps ≠ 0 → x.1 ≠ b.cid → s.chip.epOpen n d x.2 = true → s.chip.sofRuns n = true →
    s.chip.root n = rsACTIVE →
    s.chip.svc.streams.find? (fun y => y.id == o.id) = some o → b.jobLen ≠ 0 →
    k = min a (min (s.chip.svcBody b).job o.waiting) → 0 < k → k < (s.chip.svcBody b).job →
    Runs (.printerJob n r i a) s (fun c => (c.svcBody b).job = (s.chip.svcBody b).job - k ∧
      (c.svc.streams.find? (fun y => y.id == o.id)).map (·.inbound) = some (eatBytes k o.inbound) ∧
      (c.bind? n r i).map (fun x => (x.jobLen, x.jobAcked)) = some (b.jobLen, b.jobAcked + k))) ∧
  (∀ p, BoundTo s.chip n r i kPRINTER b t → (s.chip.svcBody b).pstat ≠ p → t.fill + 72 ≤ t.depth →
    b.pollAt ≤ s.chip.clk.now → s.chip.sofRuns n = true → s.chip.root n = rsACTIVE →
    Runs (.printerStatusPoll n r i p) s (fun c => (c.svcBody b).pstat = p ∧
      ∃ x, recsOf c b.stream = t.recs ++ [x] ∧ x.st = .closed ∧ x.hdr.kind = kPRINTER ∧
        x.data = printerData (if b.jobLen = 0 then 0 else b.jobId) b.jobAcked p.toNat 3 [])) ∧
  (∀ p, s.chip.bound? n r i kPRINTER = some b → (s.chip.svcBody b).pstat = p →
    Runs (.printerStatusPoll n r i p) s (fun c => c.svc.streams = s.chip.svc.streams ∧ c.svcBody b = s.chip.svcBody b)) ∧
  (∀ p, s.chip.bound? n r i kPRINTER = some b → s.chip.clk.now < b.pollAt →
    Runs (.printerStatusPoll n r i p) s (fun c => c = s.chip)) ∧
  (∀ l, BoundTo s.chip n r i kRAW b t → l.length ≤ s.chip.getPos (.SVC_PROF_CTL b.prof) F.SVC_PROF_CTL_MAX_LEN →
    l.length ≤ 4096 → t.fill + 64 + l.length ≤ t.depth →
    ((s.chip.dev? n r).bind (fun d => s.chip.rawRun n d i)).any (·.2.2) = false →
    Runs (.rawTransfer n r i l false) s (fun c => (c.svcBody b).rseq = (s.chip.svcBody b).rseq + 1 ∧
      ∃ x, recsOf c b.stream = t.recs ++ [x] ∧ x.st = .closed ∧ x.flags = 0 ∧ x.hdr.kind = kRAW ∧ x.data = l ∧
        x.hdr.time = (((s.chip.dev? n r).bind (fun d => s.chip.rawRun n d i)).map (·.2.1.time)).getD s.chip.sei.time)) ∧
  (∀ l, BoundTo s.chip n r i kRAW b t → t.fill + 56 ≤ t.depth →
    Runs (.rawTransfer n r i l true) s (fun c => ∃ x, recsOf c b.stream = t.recs ++ [x] ∧ x.flags = pfISO_ERR ∧ x.data = [])) ∧
  (∀ x, BoundTo s.chip n r i b.kind b t → s.chip.openOf b = some x → fget b.ctl F.SVC_PROF_CTL_GAP_MS ≠ 0 →
    fget b.ctl F.SVC_PROF_CTL_MODE ≠ 1 → b.lastData + ms (fget b.ctl F.SVC_PROF_CTL_GAP_MS) ≤ s.chip.clk.now →
    Runs (.gapMsExpiry n r i) s (fun c => recsOf c b.stream = updFirst (Rec.isOpenOf b.key)
      (fun x => { x with st := .closed, hdr := { x.hdr with rflags := x.hdr.rflags ||| rfNO_TERM } }) t.recs))

/-! ### Lines (11) -/

/-- The line opcodes (R224, R226, R228, R229, R232, R233, R235, R239, R242, R243). Clauses rest on these choices of the model: log entries 6, 106, 108. -/
def Obligations.LineRequests : Prop := ∀ s : State, Canon s.chip → s.chip.pond.grants = [] → ∀ q n e, s.chip.isLine n = true →
  (ForPort s.chip q 0x0501#16 n e → Runs (.lineStatus q) s (fun c => Answered c q e rOK
    ([(s.chip.rd (.LINE_ERR n)).toNat, (s.chip.rd (.LINE_CNT n)).toNat, s.chip.get (.LINE_TDC n) F.LINE_TDC_TDCV] ++
      [nsANNOUNCING, nsLIVE, nsSLOW, nsABSENT].map (s.chip.nodesIn n)))) ∧
  (∀ nom dat o tr br, ForPort s.chip q 0x0502#16 n e → s.chip.frozen = false → timingOk nom dat o tr = true →
    (s.chip.ports[n]).line.sending = false ∨ s.chip.lineOff n = true →
    Runs (.lineTiming q nom dat o tr br) s (fun c => Answered c q e rOK [] ∧ (c.ports[n]).line.joined = false ∧
      c.get (.LINE_NBT n) F.LINE_NBT_BRP + 1 = nom.brp ∧ c.get (.LINE_NBT n) F.LINE_NBT_TSEG1 + 1 = nom.tseg1 ∧
      c.get (.LINE_NBT n) F.LINE_NBT_TSEG2 + 1 = nom.tseg2 ∧ c.get (.LINE_NBT n) F.LINE_NBT_SJW + 1 = nom.sjw ∧
      c.get (.LINE_DBT n) F.LINE_DBT_BRP + 1 = dat.brp ∧ c.get (.LINE_DBT n) F.LINE_DBT_TSEG1 + 1 = dat.tseg1 ∧
      c.get (.LINE_DBT n) F.LINE_DBT_TSEG2 + 1 = dat.tseg2 ∧ c.get (.LINE_DBT n) F.LINE_DBT_SJW + 1 = dat.sjw ∧
      c.get (.LINE_TDC n) F.LINE_TDC_TDCO = o ∧ c.bit (.LINE_CTL n) F.LINE_CTL_TRIPLE = tr ∧
      c.bit (.LINE_CTL n) F.LINE_CTL_BRS = br)) ∧
  (∀ nom dat o tr br, ForPort s.chip q 0x0502#16 n e → s.chip.frozen = false → timingOk nom dat o tr = true →
    (s.chip.ports[n]).line.sending = true → s.chip.lineOff n = false →
    Runs (.lineTiming q nom dat o tr br) s (fun c => (c.ports[n]).line.timing =
      some ⟨(timingWords nom dat o).1, (timingWords nom dat o).2.1, (timingWords nom dat o).2.2, some (tr, br),
        (s.chip.timingSet n).reqs ++ [q]⟩ ∧
      c.rd (.LINE_NBT n) = s.chip.rd (.LINE_NBT n) ∧ c.rd (.LINE_DBT n) = s.chip.rd (.LINE_DBT n))) ∧
  (∀ nom dat o tr br, ForPort s.chip q 0x0502#16 n e → s.chip.frozen = false → timingOk nom dat o tr = false →
    Runs (.lineTiming q nom dat o tr br) s (fun c => Answered c q e rBAD_ARG [] ∧
      c.rd (.LINE_NBT n) = s.chip.rd (.LINE_NBT n) ∧ c.rd (.LINE_DBT n) = s.chip.rd (.LINE_DBT n))) ∧
  (∀ (k : Fin 32) id m, ForPort s.chip q 0x0503#16 n e → s.chip.frozen = false →
    Runs (.lineFilter q k.val id m) s (fun c =>
      Answered c q e rOK [(s.chip.rd (.LINE_FLT_ID n k)).toNat, (s.chip.rd (.LINE_FLT_MASK n k)).toNat] ∧
      c.rd (.LINE_FLT_ID n k) = id ∧ c.rd (.LINE_FLT_MASK n k) = m)) ∧
  (∀ f i, ForPort s.chip q 0x0504#16 n e → canSendable f = true → (s.chip.ports[n]).line.freeBuf 28 31 = some i →
    Runs (.lineSend q f) s (fun c => Answered c q e rOK [i.val] ∧ (c.ports[n]).line.tx[i] =
      some { frame := f, use := .host q.door, started := false, cancelled := false, sof := 0#64 })) ∧
  (∀ f, ForPort s.chip q 0x0504#16 n e → canSendable f = true → (s.chip.ports[n]).line.freeBuf 28 31 = none →
    Runs (.lineSend q f) s (fun c => Answered c q e rWAIT [] ∧ (c.ports[n]).line.tx = (s.chip.ports[n]).line.tx)) ∧
  (∀ (i : Fin 32), ForPort s.chip q 0x0505#16 n e → 28 ≤ i.val → (s.chip.ports[n]).line.tx[i] = none →
    Runs (.lineCancel q i.val) s (fun c =>
      Answered c q e rOK [(lookupNat (s.chip.ports[n]).line.lastTx i.val).getD txNONE])) ∧
  (∀ (i : Fin 32) b, ForPort s.chip q 0x0505#16 n e → 28 ≤ i.val → (s.chip.ports[n]).line.tx[i] = some b → b.started = false →
    Runs (.lineCancel q i.val) s (fun c => Answered c q e rOK [txCANCELLED] ∧ (c.ports[n]).line.tx[i] = none)) ∧
  (∀ (i : Fin 32) b, ForPort s.chip q 0x0505#16 n e → 28 ≤ i.val → (s.chip.ports[n]).line.tx[i] = some b → b.started = true →
    Runs (.lineCancel q i.val) s (fun c => (c.ports[n]).line.tx[i] = some { b with cancelled := true } ∧
      (c.ports[n]).line.cancels = (s.chip.ports[n]).line.cancels ++ [(i.val, q)])) ∧
  (ForPort s.chip q 0x0506#16 n e → (s.chip.ports[n]).line.isolated = false → s.chip.lineOff n = true →
    Runs (.lineRecover q) s (fun c => c.get (.LINE_ERR n) F.LINE_ERR_STATE = leRECOVERING ∧
      (c.ports[n]).line.recoverReqs = (s.chip.ports[n]).line.recoverReqs ++ [q])) ∧
  (ForPort s.chip q 0x0506#16 n e → (s.chip.ports[n]).line.isolated = false → s.chip.lineOff n = false →
    Runs (.lineRecover q) s (fun c => Answered c q e rOK [])) ∧
  (ForPort s.chip q 0x0506#16 n e → (s.chip.ports[n]).line.isolated = true →
    Runs (.lineRecover q) s (fun c => Answered c q e rLOCKED [])) ∧
  (∀ f k, ForPort s.chip q 0x0507#16 n e → k ≤ 4 → 1 ≤ f → f ≤ 126 →
    Runs (.lineNodes q f k) s (fun c => Answered c q e rOK
      (((((List.range 126).map (· + 1)).filterMap (fun a => if f ≤ a then s.chip.node? n a else none)).take k).flatMap (fun r =>
        [r.addr, (s.chip.epochOf 3 (nodeIndex n.val r.addr)).toNat, (s.chip.nodeBody r).serial.toNat, (s.chip.nodeBody r).nstate,
          (s.chip.nodeBody r).objCnt, r.cid, r.gen.toNat])))) ∧
  (∀ p h, ForPort s.chip q 0x050C#16 n e → s.chip.frozen = false →
    Runs (.linePollSet q p h) s (fun c =>
      Answered c q e rOK [(s.chip.rd (.LINE_POLL n)).toNat, (s.chip.rd (.LINE_HOLD n)).toNat] ∧
      c.get (.LINE_POLL n) F.LINE_POLL_POLL_MS = max 1 (fget p F.LINE_POLL_POLL_MS) ∧
      c.get (.LINE_POLL n) F.LINE_POLL_RESP = max 1 (fget p F.LINE_POLL_RESP) ∧
      c.get (.LINE_POLL n) F.LINE_POLL_SLOW_LIMIT = max 1 (fget p F.LINE_POLL_SLOW_LIMIT) ∧
      c.get (.LINE_POLL n) F.LINE_POLL_LOST_LIMIT = max 1 (fget p F.LINE_POLL_LOST_LIMIT) ∧
      c.get (.LINE_POLL n) F.LINE_POLL_ADDR_QUAR = max 1 (fget p F.LINE_POLL_ADDR_QUAR) ∧
      c.get (.LINE_HOLD n) F.LINE_HOLD_ABSENT_HOLD = fget h F.LINE_HOLD_ABSENT_HOLD))

/-- Requests to the nodes of a line and their answers (R235, R237, R239, R241 to R243). Clauses rest on these choices of the model: log entries 6, 103, 104, 105, 107. -/
def Obligations.LineNodeRequests : Prop := ∀ s : State, Canon s.chip → s.chip.pond.grants = [] → ∀ n a r,
  s.chip.isLine n = true → s.chip.node? n a = some r →
  (∀ q e k i, ForNode s.chip q 0x0508#16 n a e → k < 64 → r.out = none → r.queue = [] →
    (s.chip.ports[n]).line.freeBuf 1 27 = some i →
    Runs (.lineRead q k) s (fun c => ∃ u, (c.node? n a).map (fun r => (r.out, r.queue)) = some (some u, []) ∧
      (u.write, u.obj, u.prio, u.origin, u.sentAt) = (false, k, 3, UlpBy.door q, none) ∧
      (c.ports[n]).line.tx[i] = some { frame := s.chip.ulpReqFrame n a u, use := .ulp a, started := false, cancelled := false,
                                       sof := 0#64 })) ∧
  (∀ q e k, ForNode s.chip q 0x0508#16 n a e → k < 64 → r.out.isSome = true → r.queue.length = 8 →
    Runs (.lineRead q k) s (fun c => Answered c q e rWAIT [] ∧ c.node? n a = some r)) ∧
  (∀ q e k v p i, ForNode s.chip q 0x0509#16 n a e → k < 64 → p < 8 → 1 ≤ v.length → v.length ≤ 40 → r.out = none →
    r.queue = [] →
    (s.chip.ports[n]).line.freeBuf 1 27 = some i →
    Runs (.lineWrite q k v p) s (fun c => ∃ u, (c.node? n a).map (fun r => (r.out, r.queue)) = some (some u, []) ∧
      (u.write, u.obj, u.value, u.prio, u.origin, u.sentAt) = (true, k, v, p, UlpBy.door q, none) ∧
      (c.ports[n]).line.tx[i] = some { frame := s.chip.ulpReqFrame n a u, use := .ulp a, started := false, cancelled := false,
                                       sof := 0#64 } ∧
      ∀ x, s.chip.objBody? r k = some x → (c.ctx x.1).body = .obj { x.2 with writePend := true })) ∧
  (∀ q e k g x, ForNode s.chip q 0x050A#16 n a e → s.chip.objBody? r k = some x →
    Runs (.lineObjCfg q k g) s (fun c => Answered c q e rOK [x.2.report] ∧
      (c.ctx x.1).body = .obj { x.2 with report := g.toNat })) ∧
  (∀ q e, ForNode s.chip q 0x050B#16 n a e → s.chip.pond.waiters = [] → s.chip.pond.rebuild = false →
    (s.chip.ports[n]).line.writeStarted a = false → (r.out.toList ++ r.queue).all (fun u => u.origin != .door q) = true →
    Runs (.lineNodeRemove q) s (fun c => Answered c q e rOK [] ∧ c.node? n a = none ∧
      c.epochOf 3 (nodeIndex n.val a) = s.chip.epochOf 3 (nodeIndex n.val a) + 1 ∧
      lookupNat (c.ports[n]).line.quar a =
        some (s.chip.clk.now + ms (10 * s.chip.getPos (.LINE_POLL n) F.LINE_POLL_ADDR_QUAR)))) ∧
  (∀ u q e w k st v t, s.chip.lineServed n = true →
    ((s.chip.ports[n]).line.checked (if w then 7 else 5) a).any (·.answerIs k st (if w then [] else v)) = true →
    r.out = some u → u.write = w → u.obj = k → u.sentAt = some t → s.chip.lineNow n - t < 8 * s.chip.respTicks n →
    u.origin = .door q → s.chip.entry? q = some e → e.st ≠ .done → (s.chip.doors[q.door]).releasing = none →
    Runs (.objAnswer n a k w st v) s (fun c => Answered c q e (ulpResult st) (if w then [st] else st :: v.map BitVec.toNat))) ∧
  (∀ u k v x t, s.chip.lineServed n = true →
    ((s.chip.ports[n]).line.checked 5 a).any (·.answerIs k 0 v) = true →
    r.out = some u → u.write = false → u.obj = k → u.sentAt = some t → s.chip.lineNow n - t < 8 * s.chip.respTicks n →
    s.chip.objBody? r k = some x → x.1 ≠ r.cid →
    Runs (.objAnswer n a k false 0 v) s (fun c => (c.ctx x.1).body = .obj { x.2.update v s.chip.sei.time with
      writePend := x.2.writePend && r.queue.any (fun u => u.write && u.obj == k) })) ∧
  (∀ k w st v, s.chip.lineServed n = true →
    ((s.chip.ports[n]).line.checked (if w then 7 else 5) a).any (·.answerIs k st (if w then [] else v)) = true → r.out = none →
    Runs (.objAnswer n a k w st v) s (fun c => (c.ports[n]).line.lateAns = (s.chip.ports[n]).line.lateAns + 1 ∧
      c.pond = s.chip.pond)) ∧
  (∀ k v t x, s.chip.lineServed n = true → ((s.chip.ports[n]).line.checked 8 a).any (·.reportIs k v t) = true →
    s.chip.objBody? r k = some x →
    Runs (.report n a k v t) s (fun c => (c.ctx x.1).body = .obj (x.2.update v t))) ∧
  (∀ k v t x st, s.chip.lineServed n = true → ((s.chip.ports[n]).line.checked 8 a).any (·.reportIs k v t) = true →
    s.chip.objBody? r k = some x → x.2.report = 1 ∨ x.2.report = 2 →
    s.chip.lineStream n = some st → s.chip.svc.streams.find? (fun y => y.id == st.id) = some st →
    st.fill + 72 + v.length ≤ st.depth →
    Runs (.report n a k v t) s (fun c => ∃ y, recsOf c st.id = st.recs ++ [y] ∧ y.st = .closed ∧ y.hdr.time = t ∧
      y.hdr.kind = 5 ∧ y.hdr.route = a ∧ y.data = leBytes 1 k ++ leBytes 1 v.length ++ leBytes 6 0 ++ v)) ∧
  (s.chip.lineServed n = true → s.chip.pond.waiters = [] →
    ((s.chip.ports[n]).line.checked 9 a).any (·.serialIs (s.chip.nodeBody r).serial) = true →
    Runs (.nodeRelease n a (s.chip.nodeBody r).serial) s (fun c => c.node? n a = none ∧
      c.epochOf 3 (nodeIndex n.val a) = s.chip.epochOf 3 (nodeIndex n.val a) + 1)) ∧
  (∀ u t, s.chip.lineTimers n = true → r.out = some u → u.sentAt = some t → t + s.chip.respTicks n ≤ s.chip.clk.now →
    Runs (.responseWindowEnd n a) s (fun c => (c.node? n a).bind (·.out) = some { u with late := true })) ∧
  (∀ u t, s.chip.lineTimers n = true → r.out = some u → u.sentAt = some t → t + 8 * s.chip.respTicks n ≤ s.chip.clk.now →
    r.queue = [] →
    Runs (.requestTimeout n a) s (fun c => (c.node? n a).map (·.out) = some none ∧
      (c.nodeBody r).missed = min 255 ((s.chip.nodeBody r).missed + 1) ∧
      ∀ q e, u.origin = .door q → s.chip.entry? q = some e → e.st ≠ .done → (s.chip.doors[q.door]).releasing = none →
        Answered c q e rTIMEOUT []))

/-- Nodes come and go, and their timers run (R237, R240 to R243). Clauses rest on these choices of the model: log entry 105. -/
def Obligations.LineNodes : Prop := ∀ s : State, Canon s.chip → s.chip.pond.grants = [] → ∀ n,
  (∀ ser a, s.chip.lineServed n = true → ((s.chip.ports[n]).line.checked 1 127).any (·.serialIs ser) = true →
    s.chip.pond.rebuild = false → s.chip.nodeBySerial n ser = none →
    (s.chip.ports[n]).line.freeAddr = some a → s.chip.allocVerdict (hPort n) 1 = rOK →
    Runs (.claim n ser) s (fun c => ∃ r, c.node? n a = some r ∧ (c.nodeBody r).serial = ser ∧
      (∀ x, (s.chip.ports[n]).line.checked 1 127 = some x → (c.nodeBody r).lastRx = x.tick) ∧
      (c.nodeBody r).nstate = nsANNOUNCING ∧ (c.nodeBody r).addr = a ∧
      c.epochOf 3 (nodeIndex n.val a) = s.chip.epochOf 3 (nodeIndex n.val a) + 1)) ∧
  (∀ ser, s.chip.lineServed n = true → ((s.chip.ports[n]).line.checked 1 127).any (·.serialIs ser) = true →
    s.chip.pond.rebuild = false → s.chip.nodeBySerial n ser = none →
    (s.chip.ports[n]).line.freeAddr = none →
    Runs (.claim n ser) s (fun c => (c.ports[n]).line.nodes = (s.chip.ports[n]).line.nodes)) ∧
  (∀ a r k es, s.chip.lineServed n = true → ((s.chip.ports[n]).line.checked 3 a).any (·.segmentIs 0 0 k es) = true →
    s.chip.pond.rebuild = false → s.chip.node? n a = some r →
    (s.chip.nodeBody r).nstate = nsANNOUNCING → 1 ≤ k → k ≤ 15 → es.length = k → announceOk es = true →
    s.chip.allocVerdict (hPort n) k = rOK →
    Runs (.announce n a 0 0 k es) s (fun c => (c.nodeBody r).nstate = nsLIVE ∧ (c.nodeBody r).objCnt = k ∧
      (c.node? n a).map (fun r => (r.annDue, r.part)) = some (none, none))) ∧
  (∀ a r k es, s.chip.lineServed n = true → ((s.chip.ports[n]).line.checked 3 a).any (·.segmentIs 1 0 k es) = true →
    s.chip.pond.rebuild = false → s.chip.node? n a = some r →
    (s.chip.nodeBody r).nstate = nsANNOUNCING → 15 < k → es.length = 15 →
    Runs (.announce n a 1 0 k es) s (fun c => (c.node? n a).map (·.part) = some (some (k, es)))) ∧
  (∀ a r t, s.chip.node? n a = some r → s.chip.lineTimers n = true → r.annDue = some t → t ≤ s.chip.clk.now →
    (s.chip.nodeBody r).annTry < 3 →
    Runs (.announceTimer n a) s (fun c => (c.nodeBody r).annTry = (s.chip.nodeBody r).annTry + 1 ∧
      (c.node? n a).map (·.annDue) = some none)) ∧
  (∀ a r t, s.chip.node? n a = some r → s.chip.lineTimers n = true → r.annDue = some t → t ≤ s.chip.clk.now →
    3 ≤ (s.chip.nodeBody r).annTry → s.chip.pond.waiters = [] →
    Runs (.announceTimer n a) s (fun c => c.node? n a = none)) ∧
  (∀ r, s.chip.lineTimers n = true → s.chip.bit (.LINE_CTL n) F.LINE_CTL_POLL_EN = true → (s.chip.ports[n]).line.nodes = [r] →
    r.out = none → (s.chip.nodeBody r).nstate ≠ nsSLOW → (s.chip.nodeBody r).nstate ≠ nsABSENT →
    (s.chip.ports[n]).line.polledAt + ms (s.chip.pollMs n nsLIVE) ≤ s.chip.clk.now →
    Runs (.pollTimer n) s (fun c => (c.ports[n]).line.polls = (s.chip.ports[n]).line.polls + 1 ∧
      (c.node? n r.addr).bind (·.out) = some ⟨false, 0, [], 3, .poll, none, false⟩)) ∧
  (∀ a r t, s.chip.node? n a = some r → s.chip.get (.LINE_HOLD n) F.LINE_HOLD_ABSENT_HOLD ≠ 0 → s.chip.lineServed n = true →
    r.absentAt = some t → t + sec (s.chip.get (.LINE_HOLD n) F.LINE_HOLD_ABSENT_HOLD) ≤ s.chip.clk.now →
    s.chip.pond.waiters = [] →
    Runs (.absentHoldExpiry n a) s (fun c => c.node? n a = none)) ∧
  (∀ a t, lookupNat (s.chip.ports[n]).line.quar a = some t → t ≤ s.chip.clk.now →
    Runs (.quarantineExpiry n a) s (fun c => lookupNat (c.ports[n]).line.quar a = none))

/-- The CAN controller of a line (R222, R223, R228 to R235, R244). Clauses rest on these choices of the model: log entries 106, 217, 229, 230. -/
def Obligations.LineWire : Prop := ∀ s : State, Canon s.chip → s.chip.pond.grants = [] → ∀ n,
  (∀ f g, s.chip.isLine n = true → s.chip.lineClock = true → (s.chip.ports[n]).line.joined = true → s.chip.lineOff n = false → s.chip.filter n f = none →
    Runs (.lineFrameReceive n ⟨f, false, g⟩) s (fun c => (c.ports[n]).line.rxq0 = (s.chip.ports[n]).line.rxq0 ∧
      c.get (.LINE_CNT n) F.LINE_CNT_STRANGERS = sat 16 (s.chip.get (.LINE_CNT n) F.LINE_CNT_STRANGERS + 1))) ∧
  (∀ f g, s.chip.isLine n = true → s.chip.lineClock = true → (s.chip.ports[n]).line.joined = true → s.chip.lineOff n = false → s.chip.filter n f = some 1 →
    (s.chip.ports[n]).line.rxq0.length < 64 →
    Runs (.lineFrameReceive n ⟨f, false, g⟩) s (fun c =>
      (c.ports[n]).line.rxq0 = (s.chip.ports[n]).line.rxq0 ++ [⟨f, s.chip.sei.time - BitVec.ofNat 64 g, 0,
        s.chip.allPos (s.chip.sei.time - BitVec.ofNat 64 g)⟩])) ∧
  (∀ f g, s.chip.isLine n = true → s.chip.lineClock = true → (s.chip.ports[n]).line.joined = true → s.chip.lineOff n = false → s.chip.filter n f = some 1 →
    64 ≤ (s.chip.ports[n]).line.rxq0.length →
    Runs (.lineFrameReceive n ⟨f, false, g⟩) s (fun c => (c.ports[n]).line.rxq0 = (s.chip.ports[n]).line.rxq0 ∧
      c.get (.LINE_CNT n) F.LINE_CNT_RXQ0_OVR = sat 8 (s.chip.get (.LINE_CNT n) F.LINE_CNT_RXQ0_OVR + 1))) ∧
  (∀ f g t, s.chip.isLine n = true → s.chip.lineClock = true → (s.chip.ports[n]).line.joined = true → s.chip.lineOff n = false →
    s.chip.filter n f = some 2 →
    s.chip.basinUp n = true → s.chip.lineStream n = some t → s.chip.svc.streams.find? (fun y => y.id == t.id) = some t →
    t.fill + 71 + f.data.length ≤ t.depth →
    Runs (.lineFrameReceive n ⟨f, false, g⟩) s (fun c => ∃ y, recsOf c t.id = t.recs ++ [y] ∧ y.hdr.kind = 6 ∧
      y.hdr.time = s.chip.sei.time - BitVec.ofNat 64 g ∧ y.data = canRawData f 0)) ∧
  (∀ f g, s.chip.isLine n = true → s.chip.lineClock = true → (s.chip.ports[n]).line.joined = true → s.chip.lineOff n = false →
    Runs (.lineFrameReceive n ⟨f, true, g⟩) s (fun c => (c.ports[n]).line.rxq0 = (s.chip.ports[n]).line.rxq0 ∧
      (c.ports[n]).line.joined = false ∧
      c.get (.LINE_CNT n) F.LINE_CNT_STRANGERS = sat 16 (s.chip.get (.LINE_CNT n) F.LINE_CNT_STRANGERS + 1))) ∧
  (∀ x l, (s.chip.ports[n]).line.rxq0 = x :: l → s.chip.basinUp n = true → s.chip.strangerCause n x.frame = none →
    Runs (.rxq0FrameProcess n) s (fun c => (c.ports[n]).line.rxq0 = l ∧
      (c.ports[n]).line.ulp = (s.chip.ports[n]).line.ulp ++ [x] ∧
      ∀ r, s.chip.node? n (ulpSrc x.frame.id) = some r → (c.nodeBody r).lastRx = x.tick)) ∧
  (∀ x l k, (s.chip.ports[n]).line.rxq0 = x :: l → s.chip.basinUp n = true → s.chip.strangerCause n x.frame = some k →
    Runs (.rxq0FrameProcess n) s (fun c => (c.ports[n]).line.rxq0 = l ∧
      (c.ports[n]).line.ulp = (s.chip.ports[n]).line.ulp ∧
      c.get (.LINE_CNT n) F.LINE_CNT_STRANGERS = sat 16 (s.chip.get (.LINE_CNT n) F.LINE_CNT_STRANGERS + 1))) ∧
  (∀ (i : Fin 32) b, (s.chip.ports[n]).line.tx[i] = some b → s.chip.lineClock = true → (s.chip.ports[n]).line.joined = true →
    s.chip.lineOff n = false → s.chip.bit (.LINE_CTL n) F.LINE_CTL_LISTEN = false → (s.chip.ports[n]).line.offers i = true →
    Runs (.lineTxComplete n i .started) s (fun c => (c.ports[n]).line.tx[i] = some { b with
      frame := if b.use = .time then s.chip.timeFrame n s.chip.sei.time b.frame else b.frame, started := true,
      sof := s.chip.sei.time, esi := b.frame.fdf && s.chip.get (.LINE_ERR n) F.LINE_ERR_STATE == lePASSIVE, tooLong := false })) ∧
  (∀ (i : Fin 32) b d, (s.chip.ports[n]).line.tx[i] = some b → b.started = true → b.frame.fdf = true →
    Runs (.lineTxComplete n i (.loopDelay d)) s (fun c => c.get (.LINE_TDC n) F.LINE_TDC_TDCV = min 127 ((d + 19) / 20) ∧
      (c.ports[n]).line.tx[i] = some { b with tooLong := decide (127 < (d + 19) / 20) })) ∧
  (∀ (i : Fin 32) b w, (s.chip.ports[n]).line.tx[i] = some b → w = .lostArbitration ∨ w = .error → b.started = true →
    b.cancelled = false → i.val ≠ 0 ∨ (s.chip.ports[n]).line.timeWait = none →
    Runs (.lineTxComplete n i w) s (fun c => (c.ports[n]).line.tx[i] = some { b with started := false })) ∧
  (∀ b w f, (s.chip.ports[n]).line.tx[(0 : Fin 32)] = some b → w = .lostArbitration ∨ w = .error → b.started = true →
    b.cancelled = false → (s.chip.ports[n]).line.timeWait = some f →
    Runs (.lineTxComplete n 0 w) s (fun c => (c.ports[n]).line.timeWait = none ∧ (c.ports[n]).line.tx[(0 : Fin 32)] =
      some { frame := f, use := .time, started := false, cancelled := false, sof := 0#64 })) ∧
  (∀ (i : Fin 32) b w, (s.chip.ports[n]).line.tx[i] = some b → w = .lostArbitration ∨ w = .error → b.started = true →
    b.cancelled = true →
    (s.chip.ports[n]).line.txWait = [] → (s.chip.ports[n]).line.timeWait = none →
    Runs (.lineTxComplete n i w) s (fun c => (c.ports[n]).line.tx[i] = none ∧
      ∀ d, b.use = .host d → lookupNat (c.ports[n]).line.lastTx i.val = some txCANCELLED)) ∧
  (∀ (i : Fin 32) b, (s.chip.ports[n]).line.tx[i] = some b → b.started = true → b.tooLong = false →
    (s.chip.ports[n]).line.txWait = [] → (s.chip.ports[n]).line.timeWait = none →
    Runs (.lineTxComplete n i .completed) s (fun c => (c.ports[n]).line.tx[i] = none ∧
      c.get (.LINE_ERR n) F.LINE_ERR_TEC = s.chip.get (.LINE_ERR n) F.LINE_ERR_TEC - 1 ∧
      ∀ d, b.use = .host d → lookupNat (c.ports[n]).line.lastTx i.val = some (if b.cancelled then txLATE else txDONE))) ∧
  (∀ o x t r, s.chip.isLine n = true → s.chip.lineClock = true → s.chip.lineOff n = false →
    t = s.chip.get (.LINE_ERR n) F.LINE_ERR_TEC + (if s.chip.bit (.LINE_CTL n) F.LINE_CTL_LISTEN then 0 else (errAdds o x).1) →
    r = s.chip.get (.LINE_ERR n) F.LINE_ERR_REC + (errAdds o x).2 →
    Runs (.lineBusError n o x) s (fun c => c.get (.LINE_ERR n) F.LINE_ERR_TEC = min 255 t ∧
      c.get (.LINE_ERR n) F.LINE_ERR_REC = min 255 r ∧
      (c.ports[n]).line.boffDue = ((s.chip.ports[n]).line.boffDue || decide (255 < t)) ∧
      c.get (.LINE_ERR n) F.LINE_ERR_STATE = (if 128 ≤ t ∨ 128 ≤ r then lePASSIVE else leACTIVE))) ∧
  (∀ b, s.chip.isLine n = true → s.chip.lineOff n = false → (s.chip.ports[n]).line.boffDue = true →
    b = (s.chip.ports[n]).line.busOnAt.any (fun t => s.chip.clk.now < t + sec 1) →
    Runs (.busOffEntry n) s (fun c => c.get (.LINE_ERR n) F.LINE_ERR_TEC = 255 ∧ (c.ports[n]).line.boffDue = false ∧
      c.get (.LINE_ERR n) F.LINE_ERR_REC = s.chip.get (.LINE_ERR n) F.LINE_ERR_REC ∧ (c.ports[n]).line.tx[(0 : Fin 32)] = none ∧
      (c.ports[n]).line.held = (b && !(s.chip.ports[n]).line.fromHeld) ∧
      (c.ports[n]).line.isolated = (b && (s.chip.ports[n]).line.fromHeld) ∧
      c.get (.LINE_ERR n) F.LINE_ERR_STATE =
        (if s.chip.bit (.LINE_CTL n) F.LINE_CTL_BOFF_AUTO && !b then leRECOVERING else leBUSOFF))) ∧
  (s.chip.get (.LINE_ERR n) F.LINE_ERR_STATE = leRECOVERING → s.chip.isLine n = true →
    128 * 11 ≤ s.chip.recoveryBits n →
    Runs (.lineBusOn n) s (fun c => c.get (.LINE_ERR n) F.LINE_ERR_STATE = leACTIVE ∧ c.get (.LINE_ERR n) F.LINE_ERR_TEC = 0 ∧
      c.get (.LINE_ERR n) F.LINE_ERR_REC = 0 ∧ (c.ports[n]).line.busOnAt = some s.chip.clk.now ∧
      (c.ports[n]).line.recoverReqs = [])) ∧
  (∀ f, s.chip.lineRuns n = true → s.chip.bit (.LINE_CTL n) F.LINE_CTL_TIME_EN = true → s.chip.sei.time.toNat % 1600000 = 0 →
    f = s.chip.ulpFrame n (ulpId 0 0 0 127 0) (leBytes 8 s.chip.sei.time.toNat ++
      leBytes 2 (s.chip.ports[n]).line.tseq.toNat ++ leBytes 1 (bitOf s.chip.timeDegraded)) →
    Runs (.timeFrameBoundary n) s (fun c => (c.ports[n]).line.tseq = (s.chip.ports[n]).line.tseq + 1 ∧
      (c.ports[n]).line.timeDue = some (s.chip.clk.now + us 500) ∧
      if ((s.chip.ports[n]).line.tx[(0 : Fin 32)]).any (·.started) = true then
        (c.ports[n]).line.tx[(0 : Fin 32)] = (s.chip.ports[n]).line.tx[(0 : Fin 32)] ∧ (c.ports[n]).line.timeWait = some f
      else (c.ports[n]).line.timeWait = none ∧ (c.ports[n]).line.tx[(0 : Fin 32)] =
        some ⟨f, .time, false, false, 0#64, false, false⟩)) ∧
  (∀ t b, (s.chip.ports[n]).line.timeDue = some t → t ≤ s.chip.clk.now → (s.chip.ports[n]).line.tx[(0 : Fin 32)] = some b →
    b.started = false → (s.chip.ports[n]).line.timeWait = none →
    Runs (.timeFrameWithdraw n) s (fun c => (c.ports[n]).line.tx[(0 : Fin 32)] = none ∧ (c.ports[n]).line.timeDue = none)) ∧
  (∀ t f, (s.chip.ports[n]).line.timeDue = some t → t ≤ s.chip.clk.now → (s.chip.ports[n]).line.timeWait = some f →
    Runs (.timeFrameWithdraw n) s (fun c => (c.ports[n]).line.timeWait = none ∧ (c.ports[n]).line.timeDue = none ∧
      (c.ports[n]).line.tx = (s.chip.ports[n]).line.tx)) ∧
  (s.chip.isLine n = true → (s.chip.ports[n]).line.isolated = false →
    Runs (.lineBusRejoin n) s (fun c => (c.ports[n]).line.joined = true ∧ (c.ports[n]).txd = true))

/-! ### The Pond (07) -/

/-- The Pond opcodes (R154, R155, R158, R159, R164). -/
def Obligations.PondRequests : Prop := ∀ s : State, Canon s.chip → s.chip.pond.grants = [] → ∀ q e,
  (Startable s.chip q 0x0601#16 [0, 1] e → Runs (.pondStatus q) s (fun c => Answered c q e rOK
    [s.chip.pFree, s.chip.pReserved, s.chip.get .POND_WAIT F.POND_WAIT_WAITERS, s.chip.get .POND_POISONED F.POND_POISONED_COUNT,
      s.chip.get .POND_QSUM F.POND_QSUM_SUM, s.chip.get .POND_STATUS F.POND_STATUS_OVERCOMMIT, (s.chip.rd .POND_CE_COUNT).toNat])) ∧
  (∀ f k, Startable s.chip q 0x0602#16 [0, 1] e → f ≤ 98 → 0 < k → k ≤ 99 →
    Runs (.quotaRead q f k) s (fun c => Answered c q e rOK ((((List.finRange 99).drop f).take k).flatMap (fun h =>
      [s.chip.quota h, s.chip.used h, bitOf (s.chip.overQuota h)])))) ∧
  (∀ h v w, Startable s.chip q 0x0603#16 [0, 1] e →
    (e.req.tgtKind = 1 ∧ h.val = e.req.tgtIndex) ∨ (e.req.tgtKind = 0 ∧ 96 ≤ w ∧ h.val = w) → v ≤ pondSize →
    s.chip.get .POND_QSUM F.POND_QSUM_SUM + v < 2 ^ 27 →
    Runs (.quotaSet q v w) s (fun c => Answered c q e rOK [s.chip.quota h, s.chip.used h] ∧ c.quota h = v ∧
      c.overQuota h = decide (v ≤ s.chip.used h) ∧
      c.get .POND_QSUM F.POND_QSUM_SUM = s.chip.get .POND_QSUM F.POND_QSUM_SUM + v - s.chip.quota h)) ∧
  (∀ i, Startable s.chip q 0x0604#16 [0, 1] e → i < pondSize →
    Runs (.ctxRead q i) s (fun c => Answered c q e rOK ((s.chip.ctxBytes i).1.map (·.toNat) ++
      [(s.chip.ctx i).typ, (s.chip.ctx i).holder, bitOf (s.chip.ctx i).poisoned]))) ∧
  (∀ h t f k, Startable s.chip q 0x0605#16 [0, 1] e → h ≤ 98 → k ≤ 383 → t ≤ 7 → f < pondSize →
    Runs (.ctxList q h t f k) s (fun c => Answered c q e rOK ((s.chip.listCtx h t f k).1 ++ [(s.chip.listCtx h t f k).2]))) ∧
  (∀ i, Startable s.chip q 0x0606#16 [0, 1] e → i < pondSize → (s.chip.ctx i).poisoned = true → s.chip.pond.waiters = [] →
    s.chip.pFree < pondSize →
    Runs (.pondUnpoison q i true) s (fun c => Answered c q e rOK [] ∧ c.ctx i = { gen := (s.chip.ctx i).gen } ∧
      c.pFree = s.chip.pFree + 1 ∧
      c.get .POND_POISONED F.POND_POISONED_COUNT = s.chip.get .POND_POISONED F.POND_POISONED_COUNT - 1)) ∧
  (∀ i, Startable s.chip q 0x0606#16 [0, 1] e → i < pondSize → (s.chip.ctx i).poisoned = true →
    Runs (.pondUnpoison q i false) s (fun c => Answered c q e rLOCKED [] ∧ c.pond = s.chip.pond)) ∧
  (∀ b v, Startable s.chip q 0x0607#16 [0, 1] e → s.chip.frozen = false →
    Runs (.scrubSet q b v) s (fun c => Answered c q e rOK [] ∧ c.bit .POND_SCRUB F.POND_SCRUB_EN = b ∧
      c.get .POND_SCRUB F.POND_SCRUB_INTERVAL = max 100 v.toNat)) ∧
  (∀ f k, Startable s.chip q 0x0608#16 [0, 1] e → f < 512 → k ≤ 24 →
    Runs (.cacheStats q f k) s (fun c => Answered c q e rOK ((((List.finRange 512).drop f).take k).flatMap (fun i =>
      [(s.chip.engines[i]).cache.length, (s.chip.engines[i]).spillsShown s.chip.msWindow])))) ∧
  (∀ v, Startable s.chip q 0x0609#16 [0, 1] e → s.chip.frozen = false →
    Runs (.lowMarkSet q v) s (fun c => Answered c q e rOK [] ∧ c.get .POND_LOW_MARK F.POND_LOW_MARK_LOW_MARK = v.toNat))

/-- The allocator, the wait list, the scrubber and the directory (R147 to R151, R157, R159, R161 to R163, R354). Clauses rest on these choices of the model: log entries 50, 65, 66, 69, 102. -/
def Obligations.PondService : Prop := ∀ s : State, Canon s.chip → s.chip.pond.grants = [] →
  (∀ h t k, 1 ≤ t → t ≤ 7 → 1 ≤ k → k ≤ 64 → s.chip.pond.rebuild = false → s.chip.allocVerdict h k = rOK →
    Runs (.pondAlloc h t k) s (fun c => ∃ l, c.pond.lastAlloc = (rOK, l) ∧ l.length = k ∧
      (∀ i ∈ l, (c.ctx i).typ = t ∧ (c.ctx i).holder = h.val ∧ (c.ctx i).body = .zero) ∧
      c.used h = s.chip.used h + k ∧ c.pFree = s.chip.pFree - k)) ∧
  (∀ h t k, 1 ≤ t → t ≤ 7 → 1 ≤ k → k ≤ 64 → s.chip.pond.rebuild = false → s.chip.allocVerdict h k ≠ rOK →
    Runs (.pondAlloc h t k) s (fun c => c.pond = { s.chip.pond with lastAlloc := (s.chip.allocVerdict h k, []) } ∧
      c.regs = s.chip.regs)) ∧
  (∀ h t k, s.chip.pond.rebuild = true →
    Runs (.pondAlloc h t k) s (fun c => c.pond = { s.chip.pond with held := s.chip.pond.held ++ [.alloc h t k] })) ∧
  (∀ (i : Cid) (h : Fin 99), (s.chip.ctx i.toNat).typ ≠ tFREE → (s.chip.ctx i.toNat).poisoned = false →
    s.chip.pond.waiters = [] →
    (s.chip.ctx i.toNat).holder = h.val → s.chip.pFree < pondSize →
    Runs (.contextFree i) s (fun c => c.ctx i.toNat = { gen := (s.chip.ctx i.toNat).gen } ∧ c.used h = s.chip.used h - 1 ∧
      c.pFree = s.chip.pFree + 1)) ∧
  (∀ h t, s.chip.pond.rebuild = false → s.chip.pond.waiters = [] → s.chip.pond.ctxs.Pairwise (fun a b => a.1 < b.1) →
    Runs (.bulkFree h t) s (fun c => ∀ i, c.ctx i =
      if (s.chip.ctx i).typ ≠ tFREE ∧ (s.chip.ctx i).poisoned = false ∧ (s.chip.ctx i).holder = h.val ∧
        (t = 0 ∨ (s.chip.ctx i).typ = t) then { gen := (s.chip.ctx i).gen } else s.chip.ctx i)) ∧
  (∀ h t, s.chip.pond.rebuild = true →
    Runs (.bulkFree h t) s (fun c => c.pond = { s.chip.pond with held := s.chip.pond.held ++ [.bulk h t] })) ∧
  (∀ n w, s.chip.pond.refused = [w] → s.chip.clk.now < w.retryAt → Runs (.waitListRetry n) s (fun c => c.pond = s.chip.pond)) ∧
  (∀ n w, s.chip.pond.refused = [w] → w.who.port = n → w.retryAt ≤ s.chip.clk.now → s.chip.pond.rebuild = false →
    s.chip.allocVerdict w.holder w.size ≠ rOK →
    s.chip.pond.waiters.any (fun x => x.who = w.who) = false → s.chip.pond.waiters.length < 1024 →
    Runs (.waitListRetry n) s (fun c => c.pond.waiters = s.chip.pond.waiters ++ [w] ∧ c.pond.refused = [])) ∧
  (∀ n r i h d b x t, s.chip.pond.refused = [⟨h, 1, .binding n r i, t⟩] → t ≤ s.chip.clk.now → s.chip.pond.rebuild = false → s.chip.pond.waiters = [] →
    s.chip.allocVerdict h 1 = rOK → s.chip.dev? n r = some d → s.chip.bind? n r i = some b →
      b.pending.any (· != .setup) = true →
    s.chip.bindStreams b = some x → s.chip.hsRuns = true →
    Runs (.waitListRetry n) s (fun c => c.pond.refused = [] ∧ (c.bind? n r i).map (·.pending) =
      some (if b.kind = kHID ∨ b.kind = kCDC ∨ b.kind = kPRINTER then some .setup else none))) ∧
  (∀ e, s.chip.bit .POND_SCRUB F.POND_SCRUB_EN = true → s.chip.awake = true → s.chip.dozing = false → s.chip.clk.boot ≠ .held →
    s.chip.pond.scrub < pondSize → (s.chip.ctx s.chip.pond.scrub).typ = tMARK ∨ (s.chip.ctx s.chip.pond.scrub).typ = tFREE →
    s.chip.ueWin? s.chip.pond.scrub (s.chip.ueGroup s.chip.pond.scrub) = none →
    Runs (.scrubStep e) s (fun c => c.pond.scrub = (s.chip.pond.scrub + 1) % pondSize ∧
      (∀ w, e = .single w → (c.rd .POND_CE_COUNT).toNat = sat 32 ((s.chip.rd .POND_CE_COUNT).toNat + 1) ∧
        c.bit .POND_STATUS F.POND_STATUS_CE_SEEN = true ∧ c.bitAt .GLB_FAULT F.GLB_FAULT_SRC 8 = true) ∧
      (∀ w, e = .double w → (c.ctx s.chip.pond.scrub).poisoned = true ∧
        ((s.chip.ctx s.chip.pond.scrub).poisoned = false →
          c.get .POND_ERR_CID F.POND_ERR_CID_CID = s.chip.pond.scrub ∧ c.bit .POND_STATUS F.POND_STATUS_UE_SEEN = true ∧
          c.bitAt .GLB_FAULT F.GLB_FAULT_SRC 7 = true)))) ∧
  (∀ e, Runs (.cacheWriteback e) s (fun c => (c.engines[e]).cache = (s.chip.engines[e]).cache.map (fun x => (x.1, false)))) ∧
  (s.chip.pond.rebuild = false → Runs .directoryUe s (fun c => c.pond = { s.chip.pond with rebuild := true })) ∧
  (∀ l, s.chip.pond.rebuild = true → Runs (.directoryRebuildEnd l) s (fun c => c.pond.rebuild = false)) ∧
  (∀ b x, s.chip.svc.rebuilding = true → s.chip.hsRuns = true → s.chip.pond.rebuild = false → s.chip.svc.tablesBank = some b →
    s.chip.applyTables b = .ok x →
    Runs .serviceTableRebuildEnd s (fun c => c.svc.rebuilding = false))

/-- The allocator gives the lowest-numbered contexts that are free and not poisoned (R149). Clauses rest on these choices of the model: log entry 66. -/
def Obligations.AllocatorGivesLowestFree : Prop := ∀ s : State, s.chip.pond.ctxs.Pairwise (fun a b => a.1 < b.1) →
  ∀ h t k, 1 ≤ t → t ≤ 7 → 1 ≤ k → k ≤ 64 → s.chip.pond.rebuild = false → s.chip.pond.grants = [] →
    s.chip.allocVerdict h k = rOK →
    Runs (.pondAlloc h t k) s (fun c => ∃ l, c.pond.lastAlloc = (rOK, l) ∧ l.length = k ∧ l.Pairwise (· < ·) ∧
      (∀ i ∈ l, (s.chip.ctx i).grantable = true ∧ (c.ctx i).gen = (s.chip.ctx i).gen + 1) ∧
      (∀ i, i ∉ l → c.ctx i = s.chip.ctx i) ∧
      (∀ i j, j ∈ l → i < j → i ∉ l → (s.chip.ctx i).grantable = false))

/-! ### Seiche (12) -/

/-- The Seiche opcodes (R245, R247, R251, R253 to R257, R259, R264, R265, R272). Clauses rest on these choices of the model: log entries 6, 71, 118, 211. -/
def Obligations.SeicheRequests : Prop := ∀ s : State, Canon s.chip → s.chip.pond.grants = [] → ∀ q e,
  (∀ (b : Belt) p d k f w a pe ne, Startable s.chip q 0x0701#16 [0] e → s.chip.pond.rebuild = false → s.chip.beltEn b = true →
    1 ≤ d → d ≤ 3 → 1 ≤ k → k ≤ 6 → (k ≤ 3 → a.toNat % 256 < 32) → (k = 3 → 256 ≤ a.toNat) → s.chip.kindOk k a = true →
    s.chip.allocVerdict hMARK 1 = rOK →
    Runs (.markCreate q b.val p d k f w a pe ne) s (fun c => ∃ i g, Answered c q e rOK [i, g.toNat] ∧
      c.mark? i g = some { pos := p, belt := b, dir := d, action := k, mstate := msPENDING, mflags := f &&& 3#8, window := w,
                           arg := a, portEpoch := pe, nodeEpoch := ne, door := q.door } ∧ ⟨i, g, none⟩ ∈ c.sei.fresh)) ∧
  (∀ (b : Belt) p d k f w a pe ne, Startable s.chip q 0x0701#16 [0] e → s.chip.pond.rebuild = false → s.chip.beltEn b = true →
    1 ≤ d → d ≤ 3 → k = 4 ∨ k = 5 → s.chip.templateStale k a = true →
    Runs (.markCreate q b.val p d k f w a pe ne) s (fun c => Answered c q e rROLE_CHANGED [] ∧ c.pond = s.chip.pond)) ∧
  (∀ i g m, Startable s.chip q 0x0702#16 [0] e → s.chip.pond.waiters = [] → s.chip.mark? i.toNat g = some m →
    ((s.chip.sei.belts[m.belt]).slots ++ (s.chip.sei.belts[m.belt]).tasks).any (fun x => x.cid == i.toNat && x.hit.isSome) = false →
    m.mstate = msPENDING ∨ m.mstate = msARMED → (s.chip.ctx i.toNat).poisoned = false →
    Runs (.markCancel q i g) s (fun c => Answered c q e rOK [msCANCELLED] ∧
      c.mark? i.toNat g = (if m.autoFree then none else some { m with mstate := msCANCELLED }) ∧
      (c.sei.belts[m.belt]).slots.all (fun x => x.cid != i.toNat || x.hit.isSome) = true)) ∧
  (∀ i g m, Startable s.chip q 0x0702#16 [0] e → s.chip.mark? i.toNat g = some m →
    ((s.chip.sei.belts[m.belt]).slots ++ (s.chip.sei.belts[m.belt]).tasks).any (fun x => x.cid == i.toNat && x.hit.isSome) = true →
    Runs (.markCancel q i g) s (fun c => Answered c q e rOK [msFIRED] ∧ c.mark? i.toNat g = some m)) ∧
  (∀ i g m, Startable s.chip q 0x0702#16 [0] e → s.chip.pond.waiters = [] → s.chip.mark? i.toNat g = some m →
    ((s.chip.sei.belts[m.belt]).slots ++ (s.chip.sei.belts[m.belt]).tasks).any (fun x => x.cid == i.toNat && x.hit.isSome) = false →
    msFIRED ≤ m.mstate → (s.chip.ctx i.toNat).poisoned = false →
    Runs (.markCancel q i g) s (fun c => Answered c q e rOK [m.mstate] ∧ (c.ctx i.toNat).typ = tFREE)) ∧
  (∀ i g m, Startable s.chip q 0x0703#16 [0] e → s.chip.mark? i.toNat g = some m →
    Runs (.markRead q i g) s (fun c => Answered c q e rOK (m.layout.map (·.toNat) ++
      [(BitVec.ofInt 48 (m.distance (s.chip.sei.belts[m.belt]).pos)).toNat]))) ∧
  (∀ t, Startable s.chip q 0x0704#16 [0] e → s.chip.pond.rebuild = false → templateOk t = true →
    s.chip.pond.ctxs.Pairwise (fun a b => a.1 < b.1) → s.chip.allocVerdict hMGMT (templateSize t) = rOK →
    Runs (.templateLoad q t) s (fun c => ∃ i g, Answered c q e rOK [i, g.toNat] ∧ (c.ctx i).body = .template t ∧
      c.refOk i g = true ∧ c.used hMGMT = s.chip.used hMGMT + templateSize t)) ∧
  (∀ i g t, Startable s.chip q 0x0705#16 [0] e → s.chip.pond.rebuild = false → s.chip.pond.waiters = [] →
    s.chip.refOk i.toNat g = true → (s.chip.ctx i.toNat).body = .template t → (s.chip.ctx i.toNat).poisoned = false →
    Runs (.templateFree q i g) s (fun c => Answered c q e rOK [] ∧ (c.ctx i.toNat).typ = tFREE)) ∧
  (∀ b : Belt, Startable s.chip q 0x0706#16 [0] e → Runs (.beltStatus q b.val) s (fun c => Answered c q e rOK
    [(s.chip.sei.belts[b]).pos.toNat, (s.chip.rd (.BELT_RATE b)).toNat, (s.chip.rd (.BELT_STATUS b)).toNat,
      ((s.chip.beltMarks b).filter (fun x => x.2.2.mstate == msPENDING)).length])) ∧
  (∀ (b : Belt) p, Startable s.chip q 0x0707#16 [0] e → s.chip.pond.waiters = [] →
    Runs (.beltSetPos q b.val p 0) s (fun c => Answered c q e rOK [] ∧ (c.sei.belts[b]).pos = p ∧ c.posValid b = true ∧
      (c.sei.belts[b]).zRes = none)) ∧
  (∀ (b : Belt) p, Startable s.chip q 0x0707#16 [0] e →
    Runs (.beltSetPos q b.val p 1) s (fun c => (c.sei.belts[b]).zPend = (s.chip.sei.belts[b]).zPend ++ [(p, q)] ∧
      (c.sei.belts[b]).pos = (s.chip.sei.belts[b]).pos)) ∧
  (Startable s.chip q 0x0708#16 [0] e → Runs (.timeRead q) s (fun c => Answered c q e rOK
    [s.chip.sei.time.toNat, (s.chip.rd .SEI_STATUS).toNat, s.chip.uncert])) ∧
  (Startable s.chip q 0x0709#16 [0] e → Runs (.timeAck q) s (fun c => Answered c q e rOK [] ∧
    c.bit .SEI_STATUS F.SEI_STATUS_DEG_DEEP = false ∧ c.timeDegraded = s.chip.bit .SEI_STATUS F.SEI_STATUS_DEG_XTAL ∧
    c.uncert = 0)) ∧
  (∀ (o : Io) k w, Startable s.chip q 0x070A#16 [0] e → k ≠ .pulse ∨ (1 ≤ w ∧ w ≤ 16777215) →
    Runs (.outfallSet q o.val k w) s (fun c => Answered c q e rOK [s.chip.sei.time.toNat] ∧
      c.sei.outfalls[o] = (s.chip.sei.outfalls[o]).act s.chip.sei.time k w))

/-- Shafts and Z edges (R248 to R253). Clauses rest on these choices of the model: log entries 64, 120, 220. -/
def Obligations.Shafts : Prop := ∀ s : State, Canon s.chip → ∀ b : Belt, s.chip.beltEn b = true →
  (∀ o r h a, s.chip.seiRuns = true → s.chip.shaftHeld b h = true → s.chip.edgeCounts b o r = true →
    Runs (.shaftEdge b o ⟨r, h⟩ a) s (fun c =>
      (c.sei.belts[b]).pos = (s.chip.sei.belts[b]).pos +
        (if a != s.chip.bit (.BELT_CTL b) F.BELT_CTL_DIR_INV then 1#48 else -1#48) ∧
      (c.sei.belts[b]).counted = (s.chip.sei.belts[b]).counted + 1 ∧ (c.sei.belts[b]).lastEdge = s.chip.clk.now ∧
      c.bit (.BELT_STATUS b) F.BELT_STATUS_DIR = (a == s.chip.bit (.BELT_CTL b) F.BELT_CTL_DIR_INV) ∧
      c.bit (.BELT_STATUS b) F.BELT_STATUS_STOPPED = false)) ∧
  (∀ o r h a x p, s.chip.seiRuns = true → s.chip.shaftHeld b h = true → s.chip.edgeCounts b o r = true →
    s.chip.posValid b = true → (s.chip.sei.belts[b]).slots = [x] → x.hit = none →
    p = (s.chip.sei.belts[b]).pos + (if a != s.chip.bit (.BELT_CTL b) F.BELT_CTL_DIR_INV then 1#48 else -1#48) →
    Runs (.shaftEdge b o ⟨r, h⟩ a) s (fun c => (c.sei.belts[b]).slots =
      if x.mark.pos = p ∧ x.mark.admits (a != s.chip.bit (.BELT_CTL b) F.BELT_CTL_DIR_INV) = true then
        [{ x with hit := some s.chip.sei.time, delayed := (s.chip.basins[b]).inReset && !x.mark.outfall }] else [x])) ∧
  (∀ o r h a, s.chip.edgeCounts b o r = false ∨ s.chip.shaftHeld b h = false →
    Runs (.shaftEdge b o ⟨r, h⟩ a) s (fun c => c = s.chip)) ∧
  (s.chip.seiRuns = true → Runs (.shaftQuadError b) s (fun c => c.bit (.BELT_STATUS b) F.BELT_STATUS_QUAD_ERR = true ∧
    c.posValid b = (s.chip.posValid b && s.chip.pwr.st != .sleep) ∧ (c.sei.belts[b]).pos = (s.chip.sei.belts[b]).pos)) ∧
  (∀ h, s.chip.pond.grants = [] → s.chip.seiRuns = true → s.chip.shaftHeld b h = true →
    Runs (.zEdge ⟨b, h⟩) s (fun c => (c.sei.belts[b]).zDue =
      some ((s.chip.sei.belts[b]).zDue.getD [] ++ (s.chip.sei.belts[b]).zPend) ∧ (c.sei.belts[b]).zPend = [] ∧
      (c.sei.belts[b]).pos = (s.chip.sei.belts[b]).pos)) ∧
  ((s.chip.sei.belts[b]).zDue = some [] → s.chip.bit (.BELT_CTL b) F.BELT_CTL_ZCHK = true → (s.chip.sei.belts[b]).zRes = none →
    ((s.chip.zTake b).sei.belts[b]).zDue = none ∧ ((s.chip.zTake b).sei.belts[b]).zRes =
      some ((s.chip.sei.belts[b]).pos.toInt % (s.chip.getPos (.BELT_ZCFG b) F.BELT_ZCFG_Z_PPR : Nat)).toNat) ∧
  (∀ r, (s.chip.sei.belts[b]).zDue = some [] → s.chip.bit (.BELT_CTL b) F.BELT_CTL_ZCHK = true → (s.chip.sei.belts[b]).zRes = some r →
    s.chip.get (.BELT_ZCFG b) F.BELT_ZCFG_Z_TOL < (residueDiff (s.chip.getPos (.BELT_ZCFG b) F.BELT_ZCFG_Z_PPR)
      ((s.chip.sei.belts[b]).pos.toInt % (s.chip.getPos (.BELT_ZCFG b) F.BELT_ZCFG_Z_PPR : Nat)).toNat r).natAbs →
    (s.chip.zTake b).bit (.BELT_STATUS b) F.BELT_STATUS_Z_ERR = true ∧
      ((s.chip.zTake b).sei.belts[b]).pos = (s.chip.sei.belts[b]).pos) ∧
  (∀ p q e, (s.chip.sei.belts[b]).zDue = some [(p, q)] → s.chip.entry? q = some e → e.st ≠ .done →
    (s.chip.doors[q.door]).releasing = none →
    ((s.chip.zTake b).sei.belts[b]).pos = p ∧ (s.chip.zTake b).posValid b = true ∧
      ((s.chip.zTake b).sei.belts[b]).zDue = none ∧ Answered (s.chip.zTake b) q e rOK []) ∧
  ((s.chip.sei.belts[b]).started = true →
    (s.chip.sei.belts[b]).lastEdge + ms (s.chip.getPos (.BELT_STOP b) F.BELT_STOP_STOP_MS) ≤ s.chip.clk.now →
    Runs (.beltStopTimeout b) s (fun c => c.bit (.BELT_STATUS b) F.BELT_STATUS_STOPPED = true ∧ c.rd (.BELT_RATE b) = 0#32 ∧
      (c.sei.belts[b]).edges = []))

/-- Marks arm, match and act (R254 to R263). Clauses rest on these choices of the model: log entries 118, 119, 122, 123, 203, 244. -/
def Obligations.Marks : Prop := ∀ s : State, Canon s.chip → s.chip.pond.grants = [] → ∀ b : Belt,
  (∀ (i : Cid) g m k, s.chip.sei.fresh = [⟨i.toNat, g, k⟩] → s.chip.mark? i.toNat g = some m → m.mstate = msPENDING →
    s.chip.armUp m.belt = true → s.chip.beltEn m.belt = true → s.chip.posValid m.belt = true →
      (s.chip.sei.belts[m.belt]).late = [] →
    Runs (.markConsider i) s (fun c => c.sei.fresh = [] ∧ (c.sei.belts[m.belt]).late =
      if m.distance (s.chip.sei.belts[m.belt]).pos < 0 then [⟨i.toNat, g, 3⟩]
      else (k.map (fun x => (⟨i.toNat, g, x⟩ : Late))).toList)) ∧
  (∀ i g m d, (s.chip.sei.belts[b]).lastCycle ≠ some (s.chip.sei.time.toNat / 1600) →
    s.chip.sei.time.toNat % 1600 = 0 → s.chip.armUp b = true →
    s.chip.beltEn b = true → s.chip.posValid b = true → (s.chip.sei.belts[b]).slots = [] → (s.chip.sei.belts[b]).crossed = [] →
    s.chip.inReach b = [(d, i, g, m)] → s.chip.mark? i g = some m →
    Runs (.armingCycle b) s (fun c => (c.sei.belts[b]).slots = [⟨i, g, m, none, false, false, false⟩] ∧
      (c.mark? i g).map (·.mstate) = some msARMED ∧ c.get (.BELT_STATUS b) F.BELT_STATUS_ARMED = 1 ∧
      (c.sei.belts[b]).lastCycle = some (s.chip.sei.time.toNat / 1600))) ∧
  ((s.chip.sei.belts[b]).lastCycle ≠ some (s.chip.sei.time.toNat / 1600) → s.chip.sei.time.toNat % 1600 = 0 →
    s.chip.sei.running = true →
    (s.chip.basins[b]).inReset = true →
    Runs (.armingCycle b) s (fun c => (c.sei.belts[b]).slots = (s.chip.sei.belts[b]).slots ∧
      (c.sei.belts[b]).lastCycle = (s.chip.sei.belts[b]).lastCycle)) ∧
  ((s.chip.sei.belts[b]).lastCycle ≠ some (s.chip.sei.time.toNat / 1600) → s.chip.sei.time.toNat % 1600 = 0 →
    s.chip.sei.running = true → (s.chip.basins[b]).inReset = false → s.chip.dozing = true →
    Runs (.armingCycle b) s (fun c => (c.sei.belts[b]).slots = (s.chip.sei.belts[b]).slots.filter (fun x => x.hit.isSome) ∧
      (c.sei.belts[b]).crossed = (s.chip.sei.belts[b]).crossed)) ∧
  (∀ (i : Cid) x t, (s.chip.sei.belts[b]).slots = [x] → x.cid = i.toNat → x.hit = some t → x.acted = false →
    x.mark.outfall = true →
    Runs (.slotMatch b i) s (fun c => (c.sei.belts[b]).slots = [{ x with acted := true }] ∧
      c.sei.outfalls[(Fin.ofNat 32 (x.mark.arg.toNat % 32) : Io)] =
        (s.chip.sei.outfalls[(Fin.ofNat 32 (x.mark.arg.toNat % 32) : Io)]).act t
          (if x.mark.action = 1 then .set else if x.mark.action = 2 then .clear else .pulse) (x.mark.arg.toNat / 256))) ∧
  (∀ (i : Cid) x m, (s.chip.sei.belts[b]).tasks = [x] → x.cid = i.toNat → x.hit.isSome = true → x.acted = false →
    x.mark.outfall = false → (s.chip.basins[b]).inReset = false → s.chip.dozing = false → s.chip.mark? x.cid x.gen = some m →
    m.autoFree = false →
    Runs (.markAction b i) s (fun c => (c.sei.belts[b]).tasks = [] ∧
      c.mark? x.cid x.gen = some { m with mstate := msFIRED })) ∧
  (∀ (i : Cid) x m n a o p v r, (s.chip.sei.belts[b]).tasks = [x] → x.cid = i.toNat → x.hit.isSome = true → x.acted = false →
    (s.chip.basins[b]).inReset = false → s.chip.dozing = false → s.chip.mark? x.cid x.gen = some m → m.autoFree = false →
    x.mark.action = 4 → s.chip.template? x.mark.arg = some (.line n a o p v) →
      s.chip.markEpoch 1 n.val x.mark.portEpoch = none →
    s.chip.markEpoch 3 (nodeIndex n.val a) x.mark.nodeEpoch = none → s.chip.node? n a = some r → r.out = none → r.queue = [] →
    Runs (.markAction b i) s (fun c => (c.node? n a).bind (·.out) = some ⟨true, o, v, p, .mark, none, false⟩)) ∧
  (∀ (i : Cid) x m n d g ep v, (s.chip.sei.belts[b]).tasks = [x] → x.cid = i.toNat → x.hit.isSome = true → x.acted = false →
    (s.chip.basins[b]).inReset = false → s.chip.dozing = false → s.chip.mark? x.cid x.gen = some m → m.autoFree = false →
    x.mark.action = 5 → s.chip.template? x.mark.arg = some (.drop n d g ep v) →
      s.chip.markEpoch 1 n.val x.mark.portEpoch = none →
    s.chip.refOk d.toNat g = true →
    Runs (.markAction b i) s (fun c => (c.ports[n]).drop.outs = (s.chip.ports[n]).drop.outs ++ [⟨x.mark.portEpoch, d.toNat, g, ep, v⟩])) ∧
  (∀ (i : Cid) x m, s.chip.lateFirst b = some x → x.cid = i.toNat → s.chip.armUp b = true → s.chip.beltEn b = true →
    s.chip.posValid b = true → s.chip.mark? x.cid x.gen = some m → m.autoFree = false →
    m.inWindow (s.chip.sei.belts[b]).pos = true →
    (s.chip.sei.belts[b]).lateAt ≠ s.chip.sei.time.toNat / 1600 ∨ (s.chip.sei.belts[b]).lateN < 32 →
    Runs (.lateAction b i) s (fun c => (c.sei.belts[b]).late =
        dropFirst (fun y => y.cid == x.cid) (s.chip.sei.belts[b]).late ∧
      c.mark? x.cid x.gen = some { m with mstate := msFIRED_LATE } ∧
      c.bit .SEI_STATUS F.SEI_STATUS_LATE_SEEN = true)) ∧
  (∀ (i : Cid) x m, s.chip.lateFirst b = some x → x.cid = i.toNat → s.chip.armUp b = true → s.chip.beltEn b = true →
    s.chip.posValid b = true → s.chip.mark? x.cid x.gen = some m → m.autoFree = false →
    m.inWindow (s.chip.sei.belts[b]).pos = false →
    Runs (.lateAction b i) s (fun c => (c.sei.belts[b]).late =
        dropFirst (fun y => y.cid == x.cid) (s.chip.sei.belts[b]).late ∧ c.mark? x.cid x.gen = some { m with mstate := msEXPIRED }))

/-- Inlets, outfall pulses, PPS_OUT and the calibration window (R264, R266, R267, R269, R271). Clauses rest on these choices of the model: log entries 124, 220. -/
def Obligations.SeicheIo : Prop := ∀ s : State, Canon s.chip →
  (∀ o : Io, (s.chip.sei.outfalls[o]).pulseEnd ≤ s.chip.sei.time →
    Runs (.outfallPulseEnd o) s (fun c => c.sei.outfalls[o] = { s.chip.sei.outfalls[o] with pulseEnd := 0#64 })) ∧
  (∀ (i : Io) h k, s.chip.bit (.INLET_CTL i) F.INLET_CTL_EN = true → s.chip.seiRuns = true → s.chip.inletHeld i k = true →
    (s.chip.sei.inlets[i]).edges.length < 16 → (s.chip.basins[s.chip.inBasin i]).inReset = true ∨ s.chip.dozing = true →
    Runs (.inletEdge i ⟨h, k⟩) s (fun c => (c.sei.inlets[i]).edges = (s.chip.sei.inlets[i]).edges ++
      [s.chip.inStamp i (h != s.chip.bit (.INLET_CTL i) F.INLET_CTL_POL)])) ∧
  (∀ (i : Io) h k, s.chip.bit (.INLET_CTL i) F.INLET_CTL_EN = true → s.chip.seiRuns = true → s.chip.inletHeld i k = true →
    16 ≤ (s.chip.sei.inlets[i]).edges.length → Runs (.inletEdge i ⟨h, k⟩) s (fun c => c.sei = s.chip.sei)) ∧
  (∀ (i : Io) h k, s.chip.bit (.INLET_CTL i) F.INLET_CTL_EN = true → s.chip.seiRuns = true → (s.chip.sei.inlets[i]).edges = [] →
    (s.chip.basins[s.chip.inBasin i]).inReset = false → s.chip.dozing = false →
    s.chip.inletHeld i k = true → (h != s.chip.bit (.INLET_CTL i) F.INLET_CTL_POL) = true →
    Runs (.inletEdge i ⟨h, k⟩) s (fun c => (c.sei.inlets[i]).edges = [] ∧
      (c.sei.inlets[i]).open_ = some (s.chip.inStamp i true))) ∧
  (∀ (i : Io) h k, s.chip.bit (.INLET_CTL i) F.INLET_CTL_EN = true → s.chip.seiRuns = true → (s.chip.sei.inlets[i]).edges = [] →
    (s.chip.basins[s.chip.inBasin i]).inReset = false → s.chip.dozing = false →
    s.chip.inletHeld i k = true → (h != s.chip.bit (.INLET_CTL i) F.INLET_CTL_POL) = false →
    Runs (.inletEdge i ⟨h, k⟩) s (fun c => (c.sei.inlets[i]).open_ = none ∧
      (c.sei.inlets[i]).report = some (inReportOf (s.chip.sei.inlets[i]).open_ (some (s.chip.inStamp i false))))) ∧
  (s.chip.bit .SEI_CTL F.SEI_CTL_PPS_EN = true → s.chip.seiRuns = true → s.chip.sei.time.toNat % 1600000000 = 0 →
    Runs .ppsRise s (fun c => c.sei.pps = true ∧
      c.sei.ppsFallAt = s.chip.sei.time + BitVec.ofNat 64 (ms 10 * s.chip.getPos .SEI_CTL F.SEI_CTL_PPS_W))) ∧
  (s.chip.sei.ppsFallAt ≤ s.chip.sei.time → Runs .ppsFall s (fun c => c.sei.pps = false)) ∧
  (∀ p, s.chip.pwr.st = .run → max s.chip.sei.calFrom s.chip.pwr.runFrom + sec 1 ≤ s.chip.clk.now → s.chip.sei.running = true →
    Runs (.calWindowEnd p) s (fun c => c.get .SEI_CAL F.SEI_CAL_PERIOD = p.toNat ∧
      c.bit .SEI_CAL F.SEI_CAL_CAL_VALID = true ∧ c.sei.calFrom = s.chip.clk.now))

/-! ### Firmware and attestation (04) -/

/-- The measurement and staging opcodes (R88 to R94, R97, R104). Clauses rest on these choices of the model: log entries 6, 135, 136, 137. -/
def Obligations.Attestation : Prop := ∀ s : State, Canon s.chip → ∀ q e,
  (∀ n, Startable s.chip q 0x0901#16 [0, 2] e →
    Runs (.quote q n) s (fun c => Answered c q e rOK ((s.chip.quoteBytes (bytesAt n 0 32)).map (·.toNat)))) ∧
  (∀ f k, Startable s.chip q 0x0902#16 [0, 2] e → k ≤ 8 →
    Runs (.logRead q f k) s (fun c => Answered c q e rOK
      ((((s.chip.fw.log.filter (fun x => f.toNat ≤ x.seq.toNat)).take k).flatMap LogEntry.layout).map (·.toNat)))) ∧
  (∀ f n, Startable s.chip q 0x0903#16 [0, 2] e → s.chip.fw.log.any (fun x => x.seq == f) = true →
    Runs (.logTrim q f n) s (fun c =>
      Answered c q e rOK ((s.chip.quoteOf (s.chip.measAt f) (bytesAt n 0 32)).map (·.toNat)) ∧
      c.fw.base = s.chip.measAt f ∧ c.fw.meas = s.chip.fw.meas ∧ c.fw.logTrimmed = true ∧ c.fw.logNext = s.chip.fw.logNext + 1 ∧
      c.fw.log.tail = s.chip.fw.log.filter (fun x => f.toNat < x.seq.toNat) ∧
      c.fw.log.head?.map (fun x => (x.seq, x.kind, x.digest)) =
        some (s.chip.fw.logNext, 7, sha384 ((s.chip.quoteOf (s.chip.measAt f) (bytesAt n 0 32)).take 480)))) ∧
  (∀ f n, Startable s.chip q 0x0903#16 [0, 2] e → s.chip.fw.log.any (fun x => x.seq == f) = false →
    Runs (.logTrim q f n) s (fun c => Answered c q e rBAD_ARG [] ∧ c.fw = s.chip.fw)) ∧
  (∀ w, Startable s.chip q 0x0904#16 [0, 2] e → w ≤ 1 →
    Runs (.certRead q w) s (fun c => Answered c q e rOK (((Config.certificate (w == 1)).take 1536).map (·.toNat)))) ∧
  (∀ a l, Startable s.chip q 0x0910#16 [0, 2] e → l ≠ [] → l.length ≤ 32 → a % 256 + l.length ≤ 256 → a < 67108864 →
    s.chip.staging? = some (bankAt a) → s.chip.fw.xspi = none →
    Runs (.stageWrite q a l) s (fun c => c.fw.xspi = some ⟨xoPROGRAM, a, l.length, l, some q, s.chip.clk.now⟩ ∧
      c.bit .XSPI_STATUS F.XSPI_STATUS_BUSY = true)) ∧
  (∀ a l, Startable s.chip q 0x0910#16 [0, 2] e → l ≠ [] → l.length ≤ 32 → a < 67108864 →
    s.chip.staging? = some (bankAt a) → s.chip.fw.xspi.isSome = true →
    Runs (.stageWrite q a l) s (fun c => c.fw.xspi = s.chip.fw.xspi ∧
      c.fw.xspiQueue = s.chip.fw.xspiQueue ++ [⟨xoPROGRAM, a, l.length, l, some q, 0⟩])) ∧
  (∀ a l, Startable s.chip q 0x0910#16 [0, 2] e → l ≠ [] → l.length ≤ 32 → a < 67108864 →
    s.chip.staging? ≠ some (bankAt a) →
    Runs (.stageWrite q a l) s (fun c => Answered c q e rLOCKED [] ∧ c.fw = s.chip.fw)) ∧
  (∀ a, Startable s.chip q 0x0911#16 [0, 2] e → a % 65536 = 0 → a < 67108864 →
    s.chip.staging? = some (bankAt a) → s.chip.fw.xspi = none →
    Runs (.stageErase q a) s (fun c => c.fw.xspi = some ⟨xoERASE, a, 0, [], some q, s.chip.clk.now⟩ ∧
      c.bit .XSPI_STATUS F.XSPI_STATUS_BUSY = true)) ∧
  (∀ a, Startable s.chip q 0x0911#16 [0, 2] e → a % 65536 = 0 → a < 67108864 → s.chip.staging? ≠ some (bankAt a) →
    Runs (.stageErase q a) s (fun c => Answered c q e rLOCKED [] ∧ c.fw = s.chip.fw))

/-- Punty handoffs, microcode rolls, the boot bank and the service tables (R80, R97 to R103, R219, R343). Clauses rest on these choices of the model: log entries 6, 138, 139, 140, 141, 142, 186, 231, 242. -/
def Obligations.FirmwareSwaps : Prop := ∀ s : State, Canon s.chip →
  (∀ q e b x, Startable s.chip q 0x0920#16 [0, 2] e → s.chip.fw.handoff = none → s.chip.fw.roll = none →
    s.chip.staging? = some b → (s.chip.header b).bind (fun h => h.comp? cpFW) = some x → s.chip.logFull = false →
    Runs (.handoff q b) s (fun c => c.fw.handoff = some ⟨b, 1, s.chip.clk.now, sha384 (s.chip.compBytes b x), x.version, some q,
      s.chip.fw.fwDigest, s.chip.fw.fwVersion⟩)) ∧
  (∀ q e b, Startable s.chip q 0x0920#16 [0, 2] e →
    s.chip.staging? ≠ some b ∨ (s.chip.header b).bind (fun h => h.comp? cpFW) = none →
    Runs (.handoff q b) s (fun c => Answered c q e rBAD_ARG [] ∧ c.fw = s.chip.fw)) ∧
  (∀ h, s.chip.fw.handoff = some h → h.step = 1 ∨ h.step = 2 ∨
    (h.step = 3 ∧ s.chip.executingBut h.req = false ∧ s.chip.logFull = false) →
    Runs .handoffStepEnd s (fun c => c.fw.handoff = some { h with step := h.step + 1, since := s.chip.clk.now })) ∧
  (∀ h, s.chip.fw.handoff = some h → h.step = 4 → s.chip.logFull = false →
    Runs .handoffStepEnd s (fun c => c.fw.handoff = some { h with step := 5, since := s.chip.clk.now } ∧
      c.fw.pairB = !s.chip.fw.pairB ∧ c.fw.fwDigest = h.digest ∧ c.fw.fwVersion = h.version ∧
      c.fw.meas[1]! = sha384 (digestBytes s.chip.fw.meas[1]! ++ digestBytes h.digest) ∧
      c.fw.log.getLast?.map (fun x => (x.kind, x.meas, x.digest)) = some (2, 1, h.digest))) ∧
  (∀ h q e r, s.chip.fw.handoff = some h → h.step < 4 → h.req = some q → s.chip.entry? q = some e → e.st ≠ .done →
    (s.chip.doors[q.door]).releasing = none → r = .failed ∨ h.since + handoffBound h.step ≤ s.chip.clk.now →
    Runs (.handoffStepTimeout r) s (fun c => c.fw.handoff = none ∧ c.fw.pairB = s.chip.fw.pairB ∧
      Answered c q e (if r = .failed then rBAD_ARG else rTIMEOUT) [])) ∧
  (∀ h r, s.chip.fw.handoff = some h → h.step = 5 → r = .failed ∨ h.since + handoffBound 5 ≤ s.chip.clk.now →
    Runs (.handoffStepTimeout r) s (fun c => c.fw.handoff = none ∧ c.fw.pairB = !s.chip.fw.pairB ∧
      c.fw.fwDigest = h.oldDigest ∧ c.fw.fwVersion = h.oldVersion)) ∧
  (∀ h, s.chip.fw.handoff = some h → h.step = 5 → h.bank ≤ 1 → s.chip.fab.aonq.length < 8 →
    Runs .firstRunCheckEnd s (fun c => c.fw.handoff = none ∧ c.get .BOOT_STATUS F.BOOT_STATUS_BANK = h.bank ∧
      ∃ v, c.fab.aonq = s.chip.fab.aonq ++ [(.BOOT_OVR, v, Reg.rwMask .BOOT_OVR)] ∧ fget v F.BOOT_OVR_BANK = h.bank ∧
        fget v F.BOOT_OVR_VALID = 1 ∧ fget v F.BOOT_OVR_ONCE = 0)) ∧
  (∀ q e x b, Startable s.chip q 0x0930#16 [0, 2] e → b = s.chip.get .BOOT_STATUS F.BOOT_STATUS_BANK →
    s.chip.fw.roll = none → s.chip.fw.handoff = none → (s.chip.header b).bind (fun h => h.comp? cpUCODE) = some x →
    x.format = s.chip.fw.active.format → s.chip.logFull = false →
    Runs (.ucodeRoll q b) s (fun c => Answered c q e rOK [] ∧
      c.fw.roll.map (fun r => (r.bank, r.digest, r.version)) = some (b, sha384 (s.chip.compBytes b x), x.version) ∧
      c.fw.meas[2]! = sha384 (digestBytes s.chip.fw.meas[2]! ++ digestBytes (sha384 (s.chip.compBytes b x))))) ∧
  (∀ b r i j l sp k, s.chip.fw.roll = some r → (r.basins[b]).complete = false →
    (basinEngines b.val).any (fun x => (s.chip.engines[x]).handing.isSome) = false → (s.chip.basins[b]).inReset = false →
    s.chip.fw.reloadStaging = false → s.chip.dozing = false →
    (s.chip.enginesWith b.val (fun y => y.role != .spare && y.role != .none)).filter
      (fun x => !(r.basins[b]).done.contains x.val) = i :: j :: l → s.chip.spares b.val = sp :: k →
    Runs (.rollSwapPoint b) s (fun c => (c.engines[sp]).role = (s.chip.engines[i]).role ∧ (c.engines[i]).role = .spare ∧
      (c.engines[i]).epoch = (s.chip.engines[i]).epoch + 1 ∧ c.fw.ucodeVersion = r.version ∧
      c.fw.roll.map (fun r => ((r.basins[b]).rolled, (r.basins[b]).complete)) = some ((r.basins[b]).rolled + 1, false))) ∧
  (∀ b r, s.chip.fw.roll = some r → (r.basins[b]).complete = false →
    (basinEngines b.val).any (fun x => (s.chip.engines[x]).handing.isSome) = false → (s.chip.basins[b]).inReset = false →
    s.chip.fw.reloadStaging = false → s.chip.dozing = false →
    (s.chip.enginesWith b.val (fun y => y.role != .spare && y.role != .none)).filter
      (fun x => !(r.basins[b]).done.contains x.val) = [] →
    Runs (.rollSwapPoint b) s (fun c => c.fw.roll.all (fun r => (r.basins[b]).complete) = true)) ∧
  (s.chip.fw.reloadActive = true → Runs .microcodeReloadDone s (fun c => c.fw = { s.chip.fw with reloadActive := false })) ∧
  (s.chip.fw.reloadActive = false → Runs .microcodeReloadDone s (fun c => c.fw = { s.chip.fw with reloadStaging := false })) ∧
  (∀ q e b o, Startable s.chip q 0x0940#16 [0, 2] e → s.chip.fab.aonq.length < 8 →
    Runs (.bootSet q b o) s (fun c => Answered c q e rOK [] ∧
      ∃ v, c.fab.aonq = s.chip.fab.aonq ++ [(.BOOT_OVR, v, Reg.rwMask .BOOT_OVR)] ∧ fget v F.BOOT_OVR_BANK = bitOf b ∧
        fget v F.BOOT_OVR_VALID = 1 ∧ fget v F.BOOT_OVR_ONCE = bitOf o)) ∧
  (∀ q e b x c₁, Startable s.chip q 0x0950#16 [0] e → s.chip.pond.grants = [] → s.chip.pond.waiters = [] →
    s.chip.pond.rebuild = false → b ≤ 1 → s.chip.logFull = false → (Taken s.chip q).applyTables b = .ok (x, c₁) →
    Runs (.tablesApply q b) s (fun c => Answered c q e rOK [] ∧ c.svc.rules = c₁.svc.rules ∧ c.svc.keymaps = c₁.svc.keymaps ∧
      c.fw.tablesVersion = x.version ∧
      c.fw.meas[4]! = sha384 (digestBytes s.chip.fw.meas[4]! ++ digestBytes (sha384 (s.chip.compBytes b x)))))

/-! ### The Bead (18) -/

/-- The Bead opcodes and Headspring's records (R359 to R362, R365 to R367). Clauses rest on these choices of the model: log entries 6, 12, 152, 155, 158. -/
def Obligations.BeadRequests : Prop := ∀ s : State, Canon s.chip →
  (∀ q e i, Startable s.chip q 0x0A01#16 [0] e → s.chip.bead.session = none → i < 256 →
    s.chip.bead.committing i (· == .field) = false →
    Runs (.beadRead q i) s (fun c => Answered c q e rOK ((blockBytes (s.chip.bead.block i)).map (·.toNat)))) ∧
  (∀ q e i, Startable s.chip q 0x0A01#16 [0] e → s.chip.bead.session.isSome = true →
    Runs (.beadRead q i) s (fun c => Answered c q e rWAIT [])) ∧
  (∀ q e i l, Startable s.chip q 0x0A02#16 [0] e → s.chip.bead.session = none → e.path = .svc → beadOpen i = true →
    s.chip.bead.locked.contains i = false → s.chip.bead.writing i (· == .field) = false → l.length = 32 →
    Runs (.beadWrite q i l) s (fun c => c.bead.commit.toList ++ c.bead.queue =
      s.chip.bead.commit.toList ++ s.chip.bead.queue ++ [⟨i, blockOf l, .door q⟩] ∧
      c.bit .BEAD_STATUS F.BEAD_STATUS_COMMIT = true)) ∧
  (∀ q e i l, Startable s.chip q 0x0A02#16 [0] e → s.chip.bead.session = none → e.path = .trunk →
    Runs (.beadWrite q i l) s (fun c => Answered c q e rLOCKED [] ∧ c.bead = s.chip.bead)) ∧
  (∀ q e i l, Startable s.chip q 0x0A02#16 [0] e → s.chip.bead.session = none → e.path = .svc → i < 256 → l.length = 32 →
    beadOpen i = false ∨ s.chip.bead.locked.contains i = true →
    Runs (.beadWrite q i l) s (fun c => Answered c q e rLOCKED [] ∧ c.bead = s.chip.bead)) ∧
  (∀ q e, Startable s.chip q 0x0A03#16 [0] e → s.chip.bead.session = none →
    Runs (.beadStatus q) s (fun c => Answered c q e rOK [(s.chip.rd .BEAD_STATUS).toNat, (s.chip.rd .BEAD_CNT).toNat])) ∧
  (s.chip.bead.attestDue = true → s.chip.hsWrites = true → s.chip.bead.session = none → s.chip.bead.hsBusy = false →
    Runs .attestRecordWrite s (fun c => c.bead.attestDue = false ∧ c.bead.commit.toList ++ c.bead.queue =
      s.chip.bead.commit.toList ++ s.chip.bead.queue ++
        (s.chip.bead.attestBlocks s.chip.attestData).map (fun x => ⟨x.1, x.2, .hs⟩))) ∧
  (s.chip.bead.attestDue = true → s.chip.hsWrites = true → s.chip.bead.session.isSome = true →
    Runs .attestRecordWrite s (fun c => c.bead.attestDue = false ∧ c.bead.qAttest = some s.chip.attestData ∧
      c.bead.commit = s.chip.bead.commit)) ∧
  (∀ x l, s.chip.bead.snapsDue = x :: l → s.chip.hsWrites = true → s.chip.bead.session.isSome = true →
    s.chip.bead.qSnaps.length < 8 →
    Runs .snapshotWrite s (fun c => c.bead.snapsDue = l ∧
      (∃ d, c.bead.qSnaps = s.chip.bead.qSnaps ++ [(s.chip.get .BEAD_CNT F.BEAD_CNT_SNAP_SEQ, d)] ∧ d.length = 168) ∧
      c.get .BEAD_CNT F.BEAD_CNT_SNAP_SEQ = (s.chip.get .BEAD_CNT F.BEAD_CNT_SNAP_SEQ + 1) % 65536)) ∧
  (∀ x l, s.chip.bead.snapsDue = x :: l → s.chip.hsWrites = true → s.chip.bead.session = none → s.chip.bead.hsBusy = false →
    s.chip.bead.qAttest = none → s.chip.bead.qSnaps = [] →
    Runs .snapshotWrite s (fun c => c.bead.snapsDue = l ∧ c.bead.qSnaps = [] ∧ ∃ d : List Byte, d.length = 168 ∧
      c.bead.commit.toList ++ c.bead.queue = s.chip.bead.commit.toList ++ s.chip.bead.queue ++
        (s.chip.bead.snapBlocks (s.chip.get .BEAD_CNT F.BEAD_CNT_SNAP_SEQ) d).map (fun x => ⟨x.1, x.2, .hs⟩))) ∧
  (∀ x, s.chip.bead.commit = some x → x.block ≠ 0 →
    Runs (.beadCommitEnd true) s (fun c => c.bead.block x.block = x.data ∧
      (∀ i, i ≠ x.block → c.bead.block i = s.chip.bead.block i) ∧
      ∀ q e, x.writer = .door q → s.chip.entry? q = some e → e.st ≠ .done → (s.chip.doors[q.door]).releasing = none →
        Answered c q e rOK [])) ∧
  (∀ x, s.chip.bead.commit = some x →
    Runs (.beadCommitEnd false) s (fun c => c.bead.blocks = s.chip.bead.blocks ∧
      (s.chip.bead.queue = [] → s.chip.bead.session.isSome = true → c.bead.commit = none)))

/-- The field's commands and sessions (R358, R361 to R366). Clauses rest on these choices of the model: log entries 12, 153, 157, 159, 160. -/
def Obligations.BeadField : Prop := ∀ s : State, Canon s.chip → ∀ m,
  (∀ k n, s.chip.field = true → s.chip.bead.quiet = false →
    Config.beadUid.toNat % 2 ^ (min n 64) = k.toNat % 2 ^ (min n 64) →
    Runs (.inventory m k n) s (fun c => c.bead.answer = .info [Config.beadUid.toNat])) ∧
  (s.chip.field = true → Runs (.stayQuiet (.addressed Config.beadUid)) s (fun c => c.bead.quiet = true ∧
    c.bead.selected = false ∧ c.bead.answer = .silent)) ∧
  (s.chip.field = true → Runs (.select (.addressed Config.beadUid)) s (fun c => c.bead.selected = true ∧ c.bead.quiet = false ∧
    c.bead.answer = .info [])) ∧
  (s.chip.hears m = true → Runs (.resetToReady m) s (fun c => c.bead.selected = false ∧ c.bead.quiet = false ∧
    c.bead.answer = .info [])) ∧
  (∀ i, s.chip.hears m = true → i < 256 → s.chip.busyBlock i = false →
    Runs (.readSingleBlock m i) s (fun c => c.bead.answer = .data [s.chip.bead.block i])) ∧
  (∀ i, s.chip.hears m = true → i < 256 → s.chip.busyBlock i = true →
    Runs (.readSingleBlock m i) s (fun c => c.bead.answer = .error veBUSY ∧
      c.get .BEAD_CNT F.BEAD_CNT_FIELD_BUSY = sat 8 (s.chip.get .BEAD_CNT F.BEAD_CNT_FIELD_BUSY + 1))) ∧
  (∀ i v, s.chip.hears m = true → beadOpen i = true → s.chip.bead.locked.contains i = false →
    s.chip.bead.writing i (· != .field) = false →
    Runs (.writeSingleBlock m i v) s (fun c => c.bead.commit.toList ++ c.bead.queue =
      s.chip.bead.commit.toList ++ s.chip.bead.queue ++ [⟨i, v, .field⟩] ∧ c.bead.answer = .silent)) ∧
  (∀ i v, s.chip.hears m = true → i < 256 → beadOpen i = false →
    Runs (.writeSingleBlock m i v) s (fun c => c.bead = { s.chip.bead with answer := .error vePROTECTED })) ∧
  (∀ i, s.chip.hears m = true → beadOpen i = true → s.chip.bead.locked.contains i = false → s.chip.busyBlock i = false →
    Runs (.lockBlock m i) s (fun c => c.bead.locked.contains i = true ∧ c.bead.answer = .info [])) ∧
  (∀ i k, s.chip.hears m = true → 1 ≤ k → k ≤ 8 → i + k ≤ 256 →
    ((List.range k).map (i + ·)).any s.chip.busyBlock = false →
    Runs (.readMultipleBlocks m i k) s (fun c => c.bead.answer = .data (((List.range k).map (i + ·)).map s.chip.bead.block))) ∧
  (s.chip.hears m = true → Runs (.getSystemInformation m) s (fun c =>
    c.bead.answer = .info [Config.beadUid.toNat, 256, 32])) ∧
  (∀ i k, s.chip.hears m = true → 1 ≤ k → i + k ≤ 256 →
    Runs (.getBlockSecurityStatus m i k) s (fun c => c.bead.answer = .info ((List.range k).map (fun j =>
      bitOf (i + j < 2 || s.chip.bead.locked.contains (i + j)))))) ∧
  (∀ d, s.chip.hears m = true → 1 ≤ d → d ≤ 2000 → s.chip.bead.session = none →
    s.chip.bead.lastEnd.any (fun t => s.chip.clk.now < t + ms 500) = false →
    Runs (.lockSession m d) s (fun c => c.bead.session = some (s.chip.clk.now, s.chip.clk.now + ms d) ∧
      c.bit .BEAD_STATUS F.BEAD_STATUS_SESSION = true ∧ c.bead.answer = .info [])) ∧
  (∀ d, s.chip.hears m = true → 1 ≤ d → d ≤ 2000 → s.chip.bead.session = none →
    s.chip.bead.lastEnd.any (fun t => s.chip.clk.now < t + ms 500) = true →
    Runs (.lockSession m d) s (fun c => c.bead.session = none ∧ c.bead.answer = .error veLOCK_GAP)) ∧
  (s.chip.hears m = true → s.chip.bead.session.isSome = true →
    Runs (.unlockSession m) s (fun c => c.bead.session = none ∧ c.bead.lastEnd = some s.chip.clk.now ∧
      c.bit .BEAD_STATUS F.BEAD_STATUS_SESSION = false ∧ c.bead.answer = .info [])) ∧
  (s.chip.hears m = true → s.chip.bead.session = none →
    Runs (.unlockSession m) s (fun c => c.bead.answer = .error veNO_SESSION)) ∧
  (∀ z, s.chip.hears m = true → s.chip.bead.validCopy (fun z => !s.chip.busyRec (attestBase z) 3) = some z →
    Runs (.readRecord m 0) s (fun c => c.bead.answer = s.chip.recAnswer (attestBase z) 3)) ∧
  (∀ k, s.chip.hears m = true → 1 ≤ k → k ≤ 8 → s.chip.busyRec (snapBase (k - 1)) 6 = false →
    s.chip.bead.whole (snapBase (k - 1)) 6 = true →
    Runs (.readRecord m k) s (fun c => c.bead.answer = s.chip.recAnswer (snapBase (k - 1)) 6)) ∧
  (s.chip.hears m = true → Runs (.getBeadStatus m) s (fun c => c.bead.answer = .info [bitOf (s.chip.clk.boot != .held),
    bitOf s.chip.bead.session.isSome, s.chip.get .BEAD_CNT F.BEAD_CNT_SNAP_SEQ, s.chip.bead.queued])) ∧
  (∀ x, s.chip.bead.session = some x → x.2 ≤ s.chip.clk.now →
    Runs .beadSessionExpiry s (fun c => c.bead.session = none ∧ c.bead.lastEnd = some s.chip.clk.now)) ∧
  Runs .beadFieldLoss s (fun c => c.field = false ∧ c.bead.session = none ∧ c.bead.quiet = false ∧ c.bead.selected = false ∧
    c.bead.answer = .silent) ∧
  (∀ b, s.chip.field = false →
    Runs (.readerFieldPresent b) s (fun c => c.field = true ∧ c.bead.quiet = false ∧ c.bead.selected = false))

/-! ### Registers, the four paths and the Clearwater check (04, 05, 15) -/

/-- Accesses of the register fabric by its paths (R113, R130, R154, R228, R245, R249, R310 to R316, R319): the answer of the
fabric, and the registers afterwards. Clauses rest on these choices of the model: log entries 17, 18, 53, 73, 240. -/
def Obligations.RegisterAccesses : Prop := ∀ s : State, Canon s.chip → s.chip.pond.grants = [] → ∀ p v,
  (∀ r, plainReg r = true → Writable s.chip p r v →
    Runs (.registerWrite p r.addr v) s (fun c => c.fab.answers[p] = ⟨0#32, fsDONE⟩ ∧ c.rd r = written s.chip r v)) ∧
  (∀ r, s.chip.pathUp p = true → s.chip.guarded r = true → s.chip.unlocked p = false →
    Runs (.registerWrite p r.addr v) s (fun c => c.fab.answers[p] = ⟨0#32, fsREFUSED⟩ ∧
      c.bitAt .KEY_STATUS F.KEY_STATUS_DENIED p.val = true ∧
      ∀ x, x ≠ .KEY_STATUS → x ≠ .GLB_FAULT → c.rd x = s.chip.rd x)) ∧
  (∀ a, s.chip.pathUp p = true → Reg.ofAddr a = none → aliasBit a = none →
    Runs (.registerWrite p a v) s (fun c => c.fab.answers[p] = ⟨0#32, fsUNMAPPED⟩ ∧ c.regs = s.chip.regs)) ∧
  (∀ a, s.chip.pathUp p = false →
    Runs (.registerWrite p a v) s (fun c => c.fab.answers[p] = ⟨0#32, fsNONE⟩ ∧ c.regs = s.chip.regs)) ∧
  (∀ a r b, aliasBit a = some (r, b) → plainReg r = true → r.accOf b = .rw → s.chip.pathUp p = true →
    (r.cfg && s.chip.frozen) = false →
    Runs (.aliasWrite p a v) s (fun c => c.fab.answers[p] = ⟨0#32, fsDONE⟩ ∧
      c.rd r = written s.chip r (fset (s.chip.rd r) ⟨b, b, .rw⟩ (bitOf (v.getLsbD 0))))) ∧
  (∀ a r b, aliasBit a = some (r, b) → r.accOf b = .ro → s.chip.pathUp p = true → (r.cfg && s.chip.frozen) = false →
    Runs (.aliasWrite p a v) s (fun c => c.fab.answers[p] = ⟨0#32, fsDONE⟩ ∧ c.regs = s.chip.regs)) ∧
  (∀ a r b, aliasBit a = some (r, b) → s.chip.pathUp p = true → r.cfg = true → s.chip.frozen = true → s.chip.unlocked p = false →
    Runs (.aliasWrite p a v) s (fun c => c.fab.answers[p] = ⟨0#32, fsREFUSED⟩ ∧ c.rd r = s.chip.rd r)) ∧
  (∀ r, r.dom = .compute → r.fields.contains seqF = true → r.rwMask = 0#32 → Writable s.chip p r v →
    Runs (.statusSeqClear p r.addr v) s (fun c => c.fab.answers[p] = ⟨0#32, fsDONE⟩ ∧
      c.rd r = if seqMatch v (s.chip.rd r) then s.chip.rd r &&& ~~~(v &&& r.maskOf (fun a => a == .rs))
        else s.chip.rd r)) ∧
  (Writable s.chip p .MBX_CTL v →
    Runs (.leaseWrite p v) s (fun c => c.fab.answers[p] = ⟨0#32, fsDONE⟩ ∧
      c.get .MBX_CTL F.MBX_CTL_LEASE = min 60 (fget v F.MBX_CTL_LEASE))) ∧
  (Writable s.chip p .KEY_UNLOCK v → fget v F.KEY_UNLOCK_KEY = 0xC3A5 →
    Runs (.keyUnlockWrite p v) s (fun c => c.fab.answers[p] = ⟨0#32, fsDONE⟩ ∧
      c.fab.unlock[p] = some (s.chip.clk.now + ms 100))) ∧
  (Writable s.chip p .KEY_UNLOCK v → fget v F.KEY_UNLOCK_KEY ≠ 0xC3A5 →
    Runs (.keyUnlockWrite p v) s (fun c => c.fab.unlock[p] = none ∧
      c.get .KEY_STATUS F.KEY_STATUS_BAD = min 255 (s.chip.get .KEY_STATUS F.KEY_STATUS_BAD + 1))) ∧
  (∀ t, s.chip.fab.unlock[p] = some t → t ≤ s.chip.clk.now →
    Runs (.keyUnlockLapse p) s (fun c => c.fab.unlock[p] = none)) ∧
  (∀ h, Writable s.chip p (.HOLDER_QUOTA h) v → fget v F.HOLDER_QUOTA_QUOTA ≤ pondSize →
    Runs (.holderQuotaWrite p h v) s (fun c => c.fab.answers[p] = ⟨0#32, fsDONE⟩ ∧
      c.quota h = fget v F.HOLDER_QUOTA_QUOTA)) ∧
  (∀ n w, Writable s.chip p (timingReg n w) v → s.chip.isLine n = false ∨
    ((s.chip.ports[n]).line.timing = none ∧ ((s.chip.ports[n]).line.sending = false ∨ s.chip.lineOff n = true)) →
    Runs (.lineTimingRegWrite p n w v) s (fun c => c.fab.answers[p] = ⟨0#32, fsDONE⟩ ∧
      c.rd (timingReg n w) &&& (timingReg n w).rwMask =
        written s.chip (timingReg n w) v &&& (timingReg n w).rwMask)) ∧
  (∀ n w, Writable s.chip p (timingReg n w) v → s.chip.isLine n = true → (s.chip.ports[n]).line.sending = true →
    s.chip.lineOff n = false →
    Runs (.lineTimingRegWrite p n w v) s (fun c => c.fab.answers[p] = ⟨0#32, fsDONE⟩ ∧ c.regs = s.chip.regs ∧
      ∃ t, (c.ports[n]).line.timing = some t ∧ [t.nbt, t.dbt, t.tdc][w.val]? = some v)) ∧
  (s.chip.pathUp p = true →
    Runs (.seiTimeLoRead p) s (fun c => c.fab.answers[p] = ⟨s.chip.sei.time.extractLsb' 0 32, fsDONE⟩ ∧
      c.rd .SEI_TIME_HI = s.chip.sei.time.extractLsb' 32 32)) ∧
  (∀ b, s.chip.pathUp p = true →
    Runs (.beltPosLoRead p b) s (fun c => c.fab.answers[p] = ⟨(s.chip.sei.belts[b]).pos.extractLsb' 0 32, fsDONE⟩ ∧
      c.rd (.BELT_POS_HI b) = ((s.chip.sei.belts[b]).pos.extractLsb' 32 16).setWidth 32)) ∧
  (∀ r w m l, s.chip.fab.aonq = (r, w, m) :: l →
    Runs .aonWriteApply s (fun c => c.fab.aonq = l ∧ c.rd r = normWord r ((s.chip.rd r &&& ~~~m) ||| (w &&& m)))) ∧
  (∀ a, s.chip.pathUp 2 = true →
    Runs (.svcVendorRequest false a v) s (fun c => c.fab.answers[(2 : RegPath)] = (s.chip.fabRead a).1)) ∧
  (∀ r, plainReg r = true → Writable s.chip 2 r v →
    Runs (.svcVendorRequest true r.addr v) s (fun c => c.fab.answers[(2 : RegPath)] = ⟨0#32, fsDONE⟩ ∧
      c.rd r = written s.chip r v)) ∧
  (∀ a, s.chip.pathUp 3 = true →
    Runs (.jtagRegAccess false a v) s (fun c => c.fab.answers[(3 : RegPath)] = (s.chip.fabRead a).1)) ∧
  (∀ r, plainReg r = true → Writable s.chip 3 r v →
    Runs (.jtagRegAccess true r.addr v) s (fun c => c.fab.answers[(3 : RegPath)] = ⟨0#32, fsDONE⟩ ∧
      c.rd r = written s.chip r v)) ∧
  (∀ b, s.chip.awake = true ∨ b = false →
    Runs (.regAccessSessionChange b) s (fun c => c.fab.jtag = b ∧ c.bit .GLB_STRAP F.GLB_STRAP_TEST = b)) ∧
  (∀ l f k, s.chip.pathUp 0 = true →
    s.chip.trunk.delivered.find? (fun x => x.2.typ.toNat == ttREGWIN) = some (l, f) → f.length.toNat = 12 →
    leAt f.payload 0 1 = 1 → s.chip.spills = false → s.chip.laneOf 3 0 = some k → s.chip.hasDest k = true →
    Runs .regwinFrameReceive s (fun c =>
      c.trunk.delivered = dropFirst (fun x => x.2.typ.toNat == ttREGWIN) s.chip.trunk.delivered ∧
      ((c.trunk.lanes[k]).hist.head?.map (fun h => (h.2.typ, h.2.length, h.2.body)) = some (ttREGWIN, 12,
        .bytes (bytesAt f.payload 0 1 ++ leBytes 1 (s.chip.active.fabRead (leAt f.payload 4 4)).1.status ++ leBytes 2 0 ++
          leBytes 4 (leAt f.payload 4 4) ++
          leBytes 4 (s.chip.active.fabRead (leAt f.payload 4 4)).1.value.toNat))))) ∧
  (∀ l f r, s.chip.pathUp 0 = true →
    s.chip.trunk.delivered.find? (fun x => x.2.typ.toNat == ttREGWIN) = some (l, f) → f.length.toNat = 12 →
    leAt f.payload 0 1 = 2 → leAt f.payload 4 4 = r.addr → plainReg r = true →
    Writable s.chip.active 0 r (BitVec.ofNat 32 (leAt f.payload 8 4)) →
    Runs .regwinFrameReceive s (fun c =>
      c.trunk.delivered = dropFirst (fun x => x.2.typ.toNat == ttREGWIN) s.chip.trunk.delivered ∧
      c.rd r = written s.chip.active r (BitVec.ofNat 32 (leAt f.payload 8 4))))

/-- The 0x0Bxx opcodes and the Clearwater check (R145, R315, R321 to R325): results, registers, and the passes. Clauses rest on these choices of the model: log entries 6, 15, 146. -/
def Obligations.RegisterRequests : Prop := ∀ s : State, Canon s.chip → s.chip.pond.grants = [] → ∀ q e,
  (∀ a k l c₁, Startable s.chip q 0x0B01#16 [0] e → k ≠ 0 → k ≤ 12 → (Taken s.chip q).readWords k a = (l, true, c₁) →
    Runs (.regRead q a k) s (fun c => Answered c q e rOK (l.map (·.toNat)))) ∧
  (∀ a k l c₁, Startable s.chip q 0x0B01#16 [0] e → k ≠ 0 → k ≤ 12 → (Taken s.chip q).readWords k a = (l, false, c₁) →
    Runs (.regRead q a k) s (fun c => Answered c q e rBAD_ARG [l.length])) ∧
  (∀ r v, Startable s.chip q 0x0B02#16 [0] e → plainReg r = true → Writable (Taken s.chip q) 1 r v →
    Runs (.regWrite q r.addr [v]) s (fun c => ((r matches .PD_CFG _) = false ∨ PdFree s.chip q → Answered c q e rOK [1]) ∧ c.rd r = written (Taken s.chip q) r v)) ∧
  (∀ r m v, Startable s.chip q 0x0B03#16 [0] e → plainReg r = true →
    Writable (Taken s.chip q) 1 r (((Taken s.chip q).readWord r &&& ~~~m) ||| (v &&& m)) →
    Runs (.regModify q r.addr m v) s (fun c => ((r matches .PD_CFG _) = false ∨ PdFree s.chip q → Answered c q e rOK []) ∧
      c.rd r = written (Taken s.chip q) r (((Taken s.chip q).readWord r &&& ~~~m) ||| (v &&& m)))) ∧
  (∀ r v, Startable s.chip q 0x0B04#16 [0] e → plainReg r = true →
    (v ^^^ (Taken s.chip q).readWord r) &&& r.rcMask = 0#32 →
    Runs (.regKeyedWrite q r.addr v) s (fun c => ((r matches .PD_CFG _) = false ∨ PdFree s.chip q → Answered c q e rOK []) ∧ c.rd r = written (Taken s.chip q) r v)) ∧
  (∀ b, Startable s.chip q 0x0B10#16 [0] e →
    Runs (.cwPause q b) s (fun c => Answered c q e rOK [s.chip.get .CW_CTL F.CW_CTL_PAUSE] ∧
      c.bit .CW_CTL F.CW_CTL_PAUSE = b ∧ c.bit .CW_STATUS F.CW_STATUS_PAUSED = b)) ∧
  (∀ w, Startable s.chip q 0x0B11#16 [0] e →
    Runs (.cwCommit q w) s (fun c => c.rd .CW_REF = w ∧ c.bit .CW_CTL F.CW_CTL_PAUSE = false ∧
      c.fab.commitReqs = s.chip.fab.commitReqs ++ [q])) ∧
  (Startable s.chip q 0x0B12#16 [0] e →
    Runs (.cwStatus q) s (fun c => Answered c q e rOK
      ((([.CW_STATUS, .CW_REF, .CW_CALC] : List Reg) ++ (List.finRange 12).map (fun k => Reg.CW_BLK k)).map
        (fun r => (s.chip.readWord r).toNat)))) ∧
  (s.chip.cwRuns = true → s.chip.sei.time.toNat % 1600000 = 0 → s.chip.fab.pass = none →
    Runs .cwPassStart s (fun c => c.fab.pass = some false)) ∧
  (s.chip.fab.pass = some false → s.chip.fl.any (fun l => l.writes.any (fun x => x.1.cfg || (fuseChan? x.1).isSome)) = false →
    Runs .cwPassEnd s (fun c => c.fab.pass = none ∧ c.fab.commitReqs = [] ∧
      c.rd .CW_CALC = s.chip.cwCrc ((List.finRange 12).flatMap cfgBlock) ∧
      (∀ k, c.rd (.CW_BLK k) = s.chip.cwCrc (cfgBlock k)) ∧
      (c.bit .CW_STATUS F.CW_STATUS_MATCH = true ↔ c.rd .CW_CALC = s.chip.rd .CW_REF) ∧
      (c.rd .CW_CALC = s.chip.rd .CW_REF →
        c.bit .CW_STATUS F.CW_STATUS_FROZEN = false ∧ c.get .CW_STATUS F.CW_STATUS_SKIPS = 0) ∧
      (c.rd .CW_CALC ≠ s.chip.rd .CW_REF → s.chip.bit .CW_CTL F.CW_CTL_FREEZE_EN = true →
        c.bit .CW_STATUS F.CW_STATUS_FROZEN = true))) ∧
  (s.chip.fab.pass = some true →
    Runs .cwPassEnd s (fun c => c.fab.pass = none ∧ c.rd .CW_CALC = s.chip.rd .CW_CALC ∧
      c.get .CW_STATUS F.CW_STATUS_SKIPS = min 255 (s.chip.get .CW_STATUS F.CW_STATUS_SKIPS + 1))) ∧
  (s.chip.bit .CW_CTL F.CW_CTL_PAUSE = true →
    s.chip.fab.pausedAt + ms (100 * s.chip.getPos .CW_CTL F.CW_CTL_PAUSE_MAX) ≤ s.chip.clk.now →
    Runs .cwPauseExpiry s (fun c => c.bit .CW_CTL F.CW_CTL_PAUSE = false)) ∧
  (∀ r, r.cfg = true → s.chip.cwRuns = false → plainReg r = true ∨ r.dom = .fuse →
    Runs (.cfgParityFailure r.addr) s (fun c => c.get .CW_PAR_ADDR F.CW_PAR_ADDR_ADDR = r.addr ∧
      c.bit .CW_STATUS F.CW_STATUS_PAR_SEEN = true ∧ c.rd r &&& r.rwMask = r.resetWord &&& r.rwMask ∧
      c.rd r &&& ~~~r.rwMask = s.chip.rd r &&& ~~~r.rwMask))

/-- The units behind registers of chapters 04 and 05 (R87, R88, R96, R104): MEAS_EXT_CTL, ATT_CTL and the xSPI controller. Clauses rest on these choices of the model: log entries 18, 145, 190, 234. -/
def Obligations.ExtendQuoteFlash : Prop := ∀ s : State, Canon s.chip → s.chip.pond.grants = [] → ∀ p,
  (∀ v, Writable s.chip p .MEAS_EXT_CTL v → fget v F.MEAS_EXT_CTL_GO = 1 → 5 ≤ fget v F.MEAS_EXT_CTL_INDEX →
    s.chip.fw.hs = .run → s.chip.logFull = false →
    Runs (.measExtGo p v) s (fun c => c.fab.answers[p] = ⟨0#32, fsDONE⟩ ∧
      c.fw.meas[fget v F.MEAS_EXT_CTL_INDEX]! =
        sha384 (digestBytes s.chip.fw.meas[fget v F.MEAS_EXT_CTL_INDEX]! ++ digestBytes s.chip.extDigest) ∧
      c.fw.log.getLast?.map (fun x => (x.kind, x.meas, x.digest)) =
        some (6, fget v F.MEAS_EXT_CTL_INDEX, s.chip.extDigest))) ∧
  (∀ v, p ≠ 1 → Writable s.chip p .MEAS_EXT_CTL v → fget v F.MEAS_EXT_CTL_GO = 1 → fget v F.MEAS_EXT_CTL_INDEX < 5 →
    Runs (.measExtGo p v) s (fun c => c.bit .BOOT_STATUS F.BOOT_STATUS_EXT_DENIED = true ∧ c.fw = s.chip.fw ∧
      c.get .MEAS_EXT_CTL F.MEAS_EXT_CTL_INDEX = s.chip.get .MEAS_EXT_CTL F.MEAS_EXT_CTL_INDEX)) ∧
  (∀ v, Writable s.chip p .ATT_CTL v → fget v F.ATT_CTL_GO = 1 → s.chip.bit .BOOT_STATUS F.BOOT_STATUS_RECOVERY = true →
    Runs (.attCtlGo p v) s (fun c => c.bit .ATT_CTL F.ATT_CTL_DONE = true ∧ c.bit .ATT_CTL F.ATT_CTL_ERR = false ∧
      c.fw.attQuote = s.chip.quoteRom ((List.finRange 8).flatMap (fun w => leBytes 4 (s.chip.rd (.ATT_NONCE w)).toNat)))) ∧
  (∀ v, Writable s.chip p .ATT_CTL v → fget v F.ATT_CTL_GO = 1 → s.chip.bit .BOOT_STATUS F.BOOT_STATUS_RECOVERY = false →
    Runs (.attCtlGo p v) s (fun c => c.bit .ATT_CTL F.ATT_CTL_DONE = false ∧ c.bit .ATT_CTL F.ATT_CTL_ERR = true ∧
      c.fw = s.chip.fw)) ∧
  (∀ (k : BitVec 9) o, o = ⟨xoREAD, s.chip.get .XSPI_ADDR F.XSPI_ADDR_ADDR, k.toNat, s.chip.xspiBuf.take k.toNat, none, s.chip.clk.now⟩ →
    Writable s.chip p .XSPI_CMD (s.chip.xspiWord xoREAD k.toNat) → s.chip.bit .XSPI_CMD F.XSPI_CMD_GO = false →
    s.chip.fw.xspi = none → s.chip.xspiVerdict o = xeNONE →
    Runs (.xspiRead p k) s (fun c => c.fab.answers[p] = ⟨0#32, fsDONE⟩ ∧ c.fw.xspi = some o ∧
      c.bit .XSPI_STATUS F.XSPI_STATUS_BUSY = true ∧ c.bit .XSPI_CMD F.XSPI_CMD_GO = true)) ∧
  (∀ (k : BitVec 9) o, o = ⟨xoPROGRAM, s.chip.get .XSPI_ADDR F.XSPI_ADDR_ADDR, k.toNat, s.chip.xspiBuf.take k.toNat, none, s.chip.clk.now⟩ →
    Writable s.chip p .XSPI_CMD (s.chip.xspiWord xoPROGRAM k.toNat) → s.chip.bit .XSPI_CMD F.XSPI_CMD_GO = false →
    s.chip.fw.xspi = none → s.chip.xspiVerdict o = xeNONE →
    Runs (.xspiProgram p k) s (fun c => c.fab.answers[p] = ⟨0#32, fsDONE⟩ ∧ c.fw.xspi = some o ∧
      c.bit .XSPI_STATUS F.XSPI_STATUS_BUSY = true)) ∧
  (∀ (k : BitVec 9) o, o = ⟨xoPROGRAM, s.chip.get .XSPI_ADDR F.XSPI_ADDR_ADDR, k.toNat, s.chip.xspiBuf.take k.toNat, none, s.chip.clk.now⟩ →
    Writable s.chip p .XSPI_CMD (s.chip.xspiWord xoPROGRAM k.toNat) → s.chip.bit .XSPI_CMD F.XSPI_CMD_GO = false →
    s.chip.fw.xspi = none → s.chip.xspiVerdict o ≠ xeNONE →
    Runs (.xspiProgram p k) s (fun c => c.fw = s.chip.fw ∧ c.get .XSPI_STATUS F.XSPI_STATUS_ERR = s.chip.xspiVerdict o ∧
      c.bit .XSPI_STATUS F.XSPI_STATUS_DONE = true ∧ c.bit .XSPI_CMD F.XSPI_CMD_GO = false)) ∧
  (∀ o, o.op = xoERASE → o.addr = s.chip.get .XSPI_ADDR F.XSPI_ADDR_ADDR → o.req = none →
    Writable s.chip p .XSPI_CMD (s.chip.xspiWord xoERASE (s.chip.get .XSPI_CMD F.XSPI_CMD_LEN)) →
    s.chip.bit .XSPI_CMD F.XSPI_CMD_GO = false → s.chip.fw.xspi = none → s.chip.xspiVerdict o = xeNONE →
    Runs (.xspiErase64k p) s (fun c => c.fab.answers[p] = ⟨0#32, fsDONE⟩ ∧
      c.fw.xspi.map (fun x => (x.op, x.addr, x.req)) = some (o.op, o.addr, o.req) ∧
      c.bit .XSPI_STATUS F.XSPI_STATUS_BUSY = true)) ∧
  (Writable s.chip p .XSPI_CMD (s.chip.xspiWord xoREAD_ID (s.chip.get .XSPI_CMD F.XSPI_CMD_LEN)) →
    s.chip.bit .XSPI_CMD F.XSPI_CMD_GO = false → s.chip.fw.xspi = none →
    Runs (.xspiReadId p) s (fun c => c.fab.answers[p] = ⟨0#32, fsDONE⟩ ∧
      c.fw.xspi.map (fun x => (x.op, x.req)) = some (xoREAD_ID, none) ∧
      c.bit .XSPI_STATUS F.XSPI_STATUS_BUSY = true)) ∧
  (∀ o y t b, s.chip.fw.xspi = some o → s.chip.fw.xspiQueue = [] →
    (y = true ∧ (t = true ↔ o.since + xspiMax o.op < s.chip.clk.now)) ∨
      (y = false ∧ t = true ∧ o.since + xspiMax o.op ≤ s.chip.clk.now) →
    Runs (.xspiOpEnd y b) s (fun c => c.fw.xspi = none ∧ c.bit .XSPI_STATUS F.XSPI_STATUS_BUSY = false ∧
      c.bit .XSPI_STATUS F.XSPI_STATUS_DONE = true ∧ c.get .XSPI_STATUS F.XSPI_STATUS_FSR = b.toNat ∧
      c.get .XSPI_STATUS F.XSPI_STATUS_ERR = (if t then xeTIMEOUT else xeNONE) ∧
      (t = false → o.op = xoREAD → o.len ≤ 256 → c.xspiBuf.take o.len = s.chip.flashBytes o.addr o.len) ∧
      (t = false → o.op = xoPROGRAM → c.fw.flash = flashProgram s.chip.fw.flash o.addr o.data) ∧
      (t = false → o.op = xoERASE → c.fw.flash = flashErase s.chip.fw.flash o.addr) ∧
      (t = false → o.op = xoREAD_ID → c.rd (.XSPI_DATA 0) = Config.jedecId) ∧
      (o.req = none → c.bit .XSPI_CMD F.XSPI_CMD_GO = false))) ∧
  (∀ o b q e, s.chip.fw.xspi = some o → s.chip.fw.xspiQueue = [] → o.req = some q → s.chip.entry? q = some e →
    e.st ≠ .done → (s.chip.doors[q.door]).releasing = none → s.chip.clk.now ≤ o.since + xspiMax o.op →
    Runs (.xspiOpEnd true b) s (fun c => Answered c q e rOK [])) ∧
  (∀ o b, s.chip.fw.xspi = some o → s.chip.clk.now < o.since + xspiMax o.op →
    Runs (.xspiOpEnd false b) s (fun c => c.fw = s.chip.fw ∧ c.get .XSPI_STATUS F.XSPI_STATUS_FSR = b.toNat ∧
      c.bit .XSPI_STATUS F.XSPI_STATUS_BUSY = s.chip.bit .XSPI_STATUS F.XSPI_STATUS_BUSY))

/-! ### Integrity (17) -/

/-- Reservoir errors, queue pointers, engines out of service, recovery windows, the lockstep pair and the balls (R343 to R347,
R351, R355, R356). Clauses rest on these choices of the model: log entries 32, 147, 148, 149, 150, 225. -/
def Obligations.Integrity : Prop := ∀ s : State, Canon s.chip → s.chip.pond.grants = [] → s.chip.pond.waiters = [] →
  (∀ w, s.chip.clk.boot ≠ .held →
    Runs (.reservoirEccError w false) s (fun c =>
      c.get .INT_RES F.INT_RES_CE = min 65535 (s.chip.get .INT_RES F.INT_RES_CE + 1) ∧
      ∀ r, r ≠ .INT_RES → c.rd r = s.chip.rd r)) ∧
  (∀ q r, s.chip.clk.boot ≠ .held → queueOf q = some r →
    Runs (.reservoirEccError (.body q) true) s (fun c =>
      c.get .INT_RES F.INT_RES_UE = min 255 (s.chip.get .INT_RES F.INT_RES_UE + 1) ∧
      (r = .device → c.cullet = s.chip.cullet.drop 1) ∧
      (r = .spill → c.trunk.spill = s.chip.trunk.spill.drop 1) ∧
      (∀ d, r = .cullet d → (c.doors[d]).cullet = (s.chip.doors[d]).cullet.drop 1))) ∧
  (∀ q r, s.chip.clk.boot ≠ .held → queueOf q = some r → s.chip.ladder? 7 q = none →
    (s.chip.ladders.filter (fun w => w.ladder == 7)).length < 2 →
    Runs (.reservoirEccError (.header q) true) s (fun c =>
      c.get .INT_RES F.INT_RES_UE = min 255 (s.chip.get .INT_RES F.INT_RES_UE + 1) ∧
      c.get .INT_QPTR F.INT_QPTR_QUEUE = q)) ∧
  (s.chip.clk.boot ≠ .held →
    Runs (.reservoirEccError (.microcode true) true) s (fun c => c.fw.reloadActive = true)) ∧
  (∀ q r, s.chip.clk.boot ≠ .held → queueOf q = some r → s.chip.ladder? 7 q = none →
    (s.chip.ladders.filter (fun w => w.ladder == 7)).length < 2 →
    Runs (.queuePtrMismatch q) s (fun c => c.get .INT_QPTR F.INT_QPTR_QUEUE = q ∧
      c.get .INT_QPTR F.INT_QPTR_COUNT = min 255 (s.chip.get .INT_QPTR F.INT_QPTR_COUNT + 1) ∧
      (c.ladder? 7 q).map (·.rung) = some 1 ∧
      (r = .device → c.cullet = []) ∧ (r = .spill → c.trunk.spill = []) ∧
      (∀ d, r = .cullet d → (c.doors[d]).cullet = []))) ∧
  (∀ e p k b, s.chip.engLive e = true → s.chip.taskBudget ⟨e, p, k⟩ = some b → b < k →
    ((s.chip.engines[e]).overruns.filter (fun t => s.chip.clk.now ≤ t + ms 1)).length < 2 →
    Runs (.engineOverrun ⟨e, p, k⟩) s (fun c => (c.engines[e]).quar = false ∧
      (c.engines[e]).overruns.head? = some s.chip.clk.now)) ∧
  (∀ e p k b, s.chip.engLive e = true → s.chip.taskBudget ⟨e, p, k⟩ = some b → b < k →
    2 ≤ ((s.chip.engines[e]).overruns.filter (fun t => s.chip.clk.now ≤ t + ms 1)).length →
    Runs (.engineOverrun ⟨e, p, k⟩) s (fun c => (c.engines[e]).quar = true ∧ (c.engines[e]).handing = some (0, []))) ∧
  (∀ e l p k b, s.chip.engLive e = true → s.chip.taskBudget ⟨e, p, k⟩ = some b → 16 * b ≤ k →
    Runs (.engineHang ⟨e, p, k⟩ l) s (fun c => (c.engines[e]).quar = true ∧
      (c.engines[e]).handing = some (1, l.map (·.toNat)) ∧
      (c.rd (.ENG_QUAR (Fin.ofNat 16 (e.val / 32)))).getLsbD (e.val % 32) = true)) ∧
  (∀ e l, s.chip.engLive e = true → s.chip.ladder? 2 (e.val / 32) = none →
    Runs (.engineParity e l) s (fun c => (c.engines[e]).quar = true ∧
      (c.engines[e]).handing = some (2, l.map (·.toNat)) ∧ (c.engines[e]).epoch = (s.chip.engines[e]).epoch + 1)) ∧
  (∀ e x r sp k, s.chip.dozing = false → (s.chip.basins[(Fin.ofNat 16 (e.val / 32) : Basin)]).inReset = false →
    (s.chip.engines[e]).handing = some x → (s.chip.engines[e]).role = r → r ≠ .spare → r ≠ .none →
    s.chip.spares (e.val / 32) = sp :: k → epochVerdict (s.chip.engines[e]).handEpoch (s.chip.engines[e]).epoch = none →
    Runs (.engineTakeover e) s (fun c => (c.engines[sp]).role = r ∧ (c.engines[e]).role = .none ∧
      (c.engines[e]).handing = none)) ∧
  (∀ e x v, s.chip.dozing = false → (s.chip.basins[(Fin.ofNat 16 (e.val / 32) : Basin)]).inReset = false →
    (s.chip.engines[e]).handing = some x → epochVerdict (s.chip.engines[e]).handEpoch (s.chip.engines[e]).epoch = some v →
    Runs (.engineTakeover e) s (fun c => (c.engines[e]).handing = none ∧ (c.engines[e]).role = (s.chip.engines[e]).role ∧
      (s.chip.cullet.length < 256 → c.cullet.getLast?.map (·.result) = some v))) ∧
  (∀ l i, l ≠ 8 ∨ s.chip.fw.hs = .run →
    Runs (.recoveryWindowEnd l i) s (fun c =>
      ∀ w ∈ c.ladders, w.ladder = l → w.index = i → s.chip.clk.now < w.ends)) ∧
  (s.chip.fw.hs = .run → s.chip.dozing = false → s.chip.ladder? 8 0 = none →
    Runs .lockstepMismatch s (fun c => c.clk.resets.any (fun r => r.sc == .headspring) = true ∧
      (c.ladder? 8 0).isSome = true)) ∧
  (∀ w, s.chip.fw.hs = .run → s.chip.dozing = false → s.chip.ladder? 8 0 = some w →
    Runs .lockstepMismatch s (fun c => c.fw.hs = .held)) ∧
  (∀ t, s.chip.pwr.st = .run ∨ s.chip.pwr.st = .idle → s.chip.clk.faultUntil = some t → t ≤ s.chip.clk.now →
    Runs (.statusBallLowTimeExpiry false) s (fun c => c.clk.faultLow = s.chip.faultOn)) ∧
  (∀ t, s.chip.pwr.st = .run ∨ s.chip.pwr.st = .idle → s.chip.clk.alertUntil = some t → t ≤ s.chip.clk.now →
    Runs (.statusBallLowTimeExpiry true) s (fun c => c.clk.alertLow = s.chip.alertOn))

/-! ### The step, the canonical forms, and rules over all commands -/

/-- The block's queue: step takes the command at the front and answers what exec answers on the state with the queue's
rest. Clauses rest on these choices of the model: log entry 1. -/
def Obligations.StepRunsFrontCommand : Prop := ∀ (i : Instr) (rest : List Instr) (s : State),
  step { s with pending := i :: rest } = exec i { s with pending := rest }

/-- With no command waiting, one tick of 0.625 ns passes (DESIGN CHOICE, log entry 2; R246 for the count of TIME in Run and
Idle): elapsed time rises by one, TIME by one while Seiche runs in Run or Idle and by none while it does not run, and the queue
stays empty. Where the tick has nothing else to do, no register, no context, no Bead block and nothing of the firmware changes:
no Z edge waits for the end of its sample (R253), no crossing holds a pulse (R73), no resume is to drive K (R179),
no PD Request waits (R301), no granted waiter is to be served (R157) and every waiting
request has an opcode of the manual (R134). Clauses rest on these choices of the model: log entries 2, 64, 222. -/
def Obligations.EmptyQueueTicks : Prop := ∀ s : State, s.pending = [] →
  ∃ t, step s = .next t ∧ t.pending = [] ∧ t.chip.clk.now = s.chip.clk.now + 1 ∧
    (s.chip.sei.running = true → s.chip.pwr.st = .run ∨ s.chip.pwr.st = .idle →
      t.chip.sei.time = s.chip.sei.time + 1) ∧
    (s.chip.sei.running = false → t.chip.sei.time = s.chip.sei.time) ∧
    ((∀ b : Belt, (s.chip.sei.belts[b]).zDue = none) → (∀ n : Port, (s.chip.ports[n]).pd.request = none) →
      (∀ x, x ∈ s.chip.clk.cross → x.ack.isSome = true) → (∀ n : Port, (s.chip.ports[n]).drop.resume = none) →
      s.chip.pond.grants = [] → (∀ (d : Door) e, e ∈ (s.chip.doors[d]).reqs → knownOpcode e.req.opcode = true) →
      t.chip.regs = s.chip.regs ∧ t.chip.fw = s.chip.fw ∧ t.chip.pond = s.chip.pond ∧ t.chip.bead = s.chip.bead)

/-- The state after reset is in canonical form, and no command waits. Clauses rest on these choices of the model: log entry 9. -/
def Obligations.ResetCanonical : Prop := Canon State.reset.chip ∧ State.reset.pending = []

/-- Every step keeps the canonical forms of the register file, the flash and the Bead blocks, in every state that has them. -/
def Obligations.StepKeepsCanonical : Prop := ∀ s t : State, Canon s.chip → step s = .next t → Canon t.chip

/-- The memories that outlive a reset change only at the end of their own operations (R104, R359, R363): the flash at
XSPI_OP_END, by a program or an erase of the operation in the controller, once it ends, and nowhere outside its range; a Bead
block at BEAD_COMMIT_END, and only the block of the commit in progress, verified; the locked blocks grow, and only at
LOCK_BLOCK. -/
def Obligations.LastingMemories : Prop := ∀ (i : Instr) (s t : State), exec i s = .next t →
  ((∀ d b, i ≠ .xspiOpEnd d b) → t.chip.fw.flash = s.chip.fw.flash) ∧
  (∀ d b, i = .xspiOpEnd d b → (∀ o, s.chip.fw.xspi = some o → o.op ≠ 2 ∧ o.op ≠ 3) → t.chip.fw.flash = s.chip.fw.flash) ∧
  (∀ b o, i = .xspiOpEnd false b → s.chip.fw.xspi = some o → s.chip.clk.now < o.since + xspiMax o.op →
    t.chip.fw.flash = s.chip.fw.flash) ∧
  (∀ d b o, i = .xspiOpEnd d b → s.chip.fw.xspi = some o →
    ∀ a, a < o.addr ∨ o.addr + max 65536 (max o.len o.data.length) ≤ a →
      flashGet t.chip.fw.flash a = flashGet s.chip.fw.flash a) ∧
  (i ≠ .beadCommitEnd true → t.chip.bead.blocks = s.chip.bead.blocks) ∧
  (i = .beadCommitEnd true → ∀ k, s.chip.bead.commit.any (fun x => x.block == k) = false →
    t.chip.bead.block k = s.chip.bead.block k) ∧
  (∀ k, k ∈ s.chip.bead.locked → k ∈ t.chip.bead.locked) ∧
  ((∀ m k, i ≠ .lockBlock m k) → t.chip.bead.locked = s.chip.bead.locked)

/-- No register, opcode or received message writes TIME or steps it (R245): every command leaves it, or resets the whole
device; the return from a low-power state, which re-derives TIME (R272), is the one exception. -/
def Obligations.TimeIsNeverWritten : Prop := ∀ (i : Instr) (s t : State), (∀ k, i ≠ .lowPowerExitComplete k) →
  exec i s = .next t → t.chip.sei.time = s.chip.sei.time ∨ t.chip.sei.time = 0

/-- A door whose ring holds fewer than 4,095 events puts a new one at the end with its own SEQ and GAP where events were lost
before it; a fuller ring drops it, its SEQ consumed and the drop counted (R137, R139). Clauses rest on these choices of the model: log entry 63. -/
def Obligations.EventsReachSubscribers : Prop := ∀ (c : Chip) (e : Event) (d : Door),
  ((c.doors[d]).path.isSome = true → (c.doors[d]).sub.getLsbD (e.code / 256) = true → (c.doors[d]).evts.length < 4095 →
    (((c.post e).doors[d]).evts = (c.doors[d]).evts ++
      [{ e with seq := (c.doors[d]).evtSeq, flags := if (c.doors[d]).gapNext then e.flags ||| 1 else e.flags }] ∧
      ((c.post e).doors[d]).evtSeq = (c.doors[d]).evtSeq + 1)) ∧
  ((c.doors[d]).path.isSome = true → (c.doors[d]).sub.getLsbD (e.code / 256) = true → 4095 ≤ (c.doors[d]).evts.length →
    (((c.post e).doors[d]).evts = (c.doors[d]).evts ∧ ((c.post e).doors[d]).evtSeq = (c.doors[d]).evtSeq + 1 ∧
      ((c.post e).doors[d]).lostCount = min 65535 ((c.doors[d]).lostCount + 1))) ∧
  ((c.doors[d]).path = none ∨ (c.doors[d]).sub.getLsbD (e.code / 256) = false → (c.post e).doors[d] = c.doors[d]) ∧
  { c.post e with doors := c.doors } = c

/-- The allocator's decision (R150): over the quota first, then what FREE less RESERVED cannot cover, else granted and
charged; a refusal leaves every context and USED as they were. -/
def Obligations.AllocatorDecidesInOrder : Prop := ∀ s : State, Canon s.chip → s.chip.pond.grants = [] →
  s.chip.pond.rebuild = false → ∀ h t k, 1 ≤ t → t ≤ 7 → 1 ≤ k → k ≤ 64 →
  (s.chip.quota h < s.chip.used h + k → Runs (.pondAlloc h t k) s (fun c =>
    c.pond.lastAlloc = (0x04, []) ∧ c.pond.ctxs = s.chip.pond.ctxs ∧ c.used h = s.chip.used h)) ∧
  (s.chip.used h + k ≤ s.chip.quota h → s.chip.pFree - s.chip.pReserved < k → Runs (.pondAlloc h t k) s (fun c =>
    c.pond.lastAlloc = (0x03, []) ∧ c.pond.ctxs = s.chip.pond.ctxs ∧ c.used h = s.chip.used h)) ∧
  (s.chip.used h + k ≤ s.chip.quota h → k ≤ s.chip.pFree - s.chip.pReserved → Runs (.pondAlloc h t k) s (fun c =>
    c.pond.lastAlloc.1 = 0 ∧ c.used h = s.chip.used h + k))

/-- Unmapped addresses (R310): a read returns 0, a write changes no register, and each path says so: STATUS 0x01 in the
register window, BAD_ARG for the 0x0Bxx opcodes, status 1 of the fabric on the service port, which stalls. -/
def Obligations.UnmappedAccesses : Prop := ∀ s : State, Canon s.chip → s.chip.pond.grants = [] →
  ∀ a, Reg.ofAddr a = none → aliasBit a = none →
  s.chip.fabRead a = (⟨0#32, 1⟩, s.chip) ∧
  (∀ p v, s.chip.pathUp p = true →
    Runs (.registerWrite p a v) s (fun c => c.fab.answers[p] = ⟨0#32, 1⟩ ∧ ∀ r, c.rd r = s.chip.rd r)) ∧
  (∀ w v, s.chip.pathUp 2 = true →
    Runs (.svcVendorRequest w a v) s (fun c => c.fab.answers[(2 : RegPath)] = ⟨0#32, 1⟩ ∧ ∀ r, c.rd r = s.chip.rd r)) ∧
  (∀ l f k, s.chip.pathUp 0 = true →
    s.chip.trunk.delivered.find? (fun x => x.2.typ.toNat == ttREGWIN) = some (l, f) → f.length.toNat = 12 →
    leAt f.payload 4 4 = a → leAt f.payload 0 1 = 1 ∨ leAt f.payload 0 1 = 2 → s.chip.spills = false →
    s.chip.laneOf 3 0 = some k → s.chip.hasDest k = true →
    Runs .regwinFrameReceive s (fun c => (∀ r, r ≠ .PWR_STATUS → c.rd r = s.chip.rd r) ∧
      ∃ b, (c.trunk.lanes[k]).hist.head?.map (fun h => (h.2.typ, h.2.length, h.2.body)) = some (ttREGWIN, 12, .bytes b) ∧
        leAt b 1 1 = 1)) ∧
  (∀ q e k, Startable s.chip q 0x0B01#16 [0] e → k ≠ 0 → k ≤ 12 →
    Runs (.regRead q a k) s (fun c => Answered c q e 0x05 [0])) ∧
  (∀ q e v, Startable s.chip q 0x0B02#16 [0] e →
    Runs (.regWrite q a [v]) s (fun c => Answered c q e 0x05 [0] ∧ ∀ r, r ≠ .PWR_STATUS → c.rd r = s.chip.rd r)) ∧
  (∀ q e m v, Startable s.chip q 0x0B03#16 [0] e →
    Runs (.regModify q a m v) s (fun c => Answered c q e 0x05 [0] ∧ ∀ r, r ≠ .PWR_STATUS → c.rd r = s.chip.rd r)) ∧
  (∀ q e v, Startable s.chip q 0x0B04#16 [0] e →
    Runs (.regKeyedWrite q a v) s (fun c => Answered c q e 0x05 [0] ∧ ∀ r, r ≠ .PWR_STATUS → c.rd r = s.chip.rd r))

/-! ### Frames -/

/-- The frames of the commands of supplies, boot, clocks, resets (03, 04) and integrity (17): each changes nothing outside its frame `frameOf`, which names its parts and
registers. -/
def Obligations.FrameResetIntegrity : Prop :=
  Framed .vddAonPowerOn ∧ (∀ a, Framed (.supplyMonitorTrip a)) ∧ (∀ a, Framed (.supplyRecovered a)) ∧ Framed .porstNLow ∧
  (∀ a, Framed (.porstNRise a)) ∧ (∀ a b, Framed (.firmwareBoot a b)) ∧ Framed .bootWatchdogExpiry ∧
  (∀ a b, Framed (.bootOkWrite a b)) ∧ (∀ a b, Framed (.clkCtlPllEn a b)) ∧ (∀ a b, Framed (.clkCtlSysSel a b)) ∧
  (∀ a b, Framed (.clkCtlRefEn a b)) ∧ (∀ a, Framed (.pllLock a)) ∧ Framed .pllLockTimeout ∧ Framed .refInQualified ∧
  Framed .refInLost ∧ Framed .crystalFailure ∧ Framed .crystalReturn ∧ Framed .pllRefSlewEnd ∧
  (∀ a, Framed (.pllUnlock a)) ∧ (∀ a, Framed (.pllRelock a)) ∧ (∀ a b, Framed (.portReset a b)) ∧
  (∀ a b c d, Framed (.basinReset a b c d)) ∧ (∀ a, Framed (.headspringReset a)) ∧ (∀ a b, Framed (.laneReset a b)) ∧
  (∀ a, Framed (.deviceReset a)) ∧ (∀ a, Framed (.resetDone a)) ∧ (∀ a b, Framed (.reservoirEccError a b)) ∧
  (∀ a, Framed (.queuePtrMismatch a)) ∧ (∀ a, Framed (.engineOverrun a)) ∧ (∀ a b, Framed (.engineHang a b)) ∧
  (∀ a b, Framed (.engineParity a b)) ∧ (∀ a, Framed (.engineTakeover a)) ∧ (∀ a b, Framed (.recoveryWindowEnd a b)) ∧
  Framed .lockstepMismatch ∧ (∀ a, Framed (.statusBallLowTimeExpiry a))

/-- The frames of the commands of the trunk (05) and the doors (06): each changes nothing outside its frame `frameOf`, which names its parts and
registers. -/
def Obligations.FrameTrunkDoor : Prop :=
  (∀ a b, Framed (.ttpFrameReceive a b)) ∧ (∀ a b, Framed (.mbxReqReceive a b)) ∧ (∀ a b, Framed (.svcPortRequest a b)) ∧
  (∀ a b, Framed (.streamFrameReceive a b)) ∧ (∀ a, Framed (.swapReqReceive a)) ∧ (∀ a, Framed (.swapAckReceive a)) ∧
  (∀ a, Framed (.echoReplyReceive a)) ∧ (∀ a, Framed (.wakeFrameReceive a)) ∧
  (∀ a b c d, Framed (.ptpDelayReqReceive a b c d)) ∧ (∀ a b, Framed (.ptpAnnounceReceive a b)) ∧
  (∀ a, Framed (.ptpSyncSend a)) ∧ (∀ a, Framed (.ptpAnnounceSend a)) ∧ Framed .echoSend ∧ (∀ a, Framed (.laneUp a)) ∧
  (∀ a b, Framed (.laneLossDeclared a b)) ∧ Framed .failoverComplete ∧ (∀ a, Framed (.laneBackTimer a)) ∧
  (∀ a b c, Framed (.laneDegradedWindow a b c)) ∧ (∀ a, Framed (.laneHealthy a)) ∧ Framed .swapTimerExpiry ∧
  (∀ a b, Framed (.reorderHoldExpiry a b)) ∧ Framed .spillReplayEnd ∧ (∀ a, Framed (.eventFrameSend a)) ∧
  (∀ a, Framed (.mbxRspSend a)) ∧ (∀ a, Framed (.streamFrameSend a)) ∧ Framed .noLaneAfterDeep ∧
  (∀ a, Framed (.leaseExpiry a)) ∧ (∀ a b, Framed (.rateWindowEnd a b)) ∧ Framed .svcEventPoll ∧ Framed .svcPortRemoteWake ∧
  Framed .svcHostResumeK ∧ (∀ a, Framed (.identify a)) ∧ (∀ a b c, Framed (.doorClaim a b c)) ∧
  (∀ a, Framed (.doorRelease a)) ∧ (∀ a, Framed (.doorKeepalive a)) ∧ (∀ a b, Framed (.eventAck a b)) ∧
  (∀ a b c, Framed (.eventRead a b c)) ∧ (∀ a b, Framed (.subscribe a b)) ∧ (∀ a b c, Framed (.culletRead a b c)) ∧
  (∀ a b c d, Framed (.epochRead a b c d)) ∧ (∀ a b, Framed (.roleMap a b)) ∧ (∀ a, Framed (.trunkStatus a)) ∧
  (∀ a b c, Framed (.trunkMode a b c)) ∧ (∀ a, Framed (.trunkSwap a)) ∧ (∀ a b c d e, Framed (.ptpSet a b c d e)) ∧
  (∀ a, Framed (.faultStatus a)) ∧ (∀ a b c, Framed (.engineRelease a b c)) ∧ Framed .svcBusSuspend ∧
  (∀ a, Framed (.svcStandardRequest a))

/-- The frames of the commands of power states (16), ports, channels, rails (13): each changes nothing outside its frame `frameOf`, which names its parts and
registers. -/
def Obligations.FramePower : Prop :=
  (∀ a b c, Framed (.fuseLinkFrame a b c)) ∧ (∀ a b, Framed (.fuseLinkBadFrame a b)) ∧ (∀ a, Framed (.fuseLinkResync a)) ∧
  (∀ a, Framed (.pwrStatus a)) ∧ (∀ a b c d e f g, Framed (.pwrSet a b c d e f g)) ∧ (∀ a b, Framed (.pwrWakeSet a b)) ∧
  (∀ a b, Framed (.pwrEnter a b)) ∧ (∀ a b, Framed (.pwrOff a b)) ∧ (∀ a b c d, Framed (.railSet a b c d)) ∧
  (∀ a b, Framed (.railStatus a b)) ∧ (∀ a b c, Framed (.portMode a b c)) ∧ (∀ a, Framed (.modeSequenceEnd a)) ∧
  (∀ a b c d, Framed (.pinCfgSet a b c d)) ∧ (∀ a b, Framed (.chSet a b)) ∧
  (∀ a b c d e f, Framed (.chConfig a b c d e f)) ∧ (∀ a b, Framed (.chCurve a b)) ∧ (∀ a, Framed (.chStatus a)) ∧
  (∀ a, Framed (.chCmdOn a)) ∧ (∀ a, Framed (.chCmdOff a)) ∧ (∀ a b, Framed (.chCmdSuspend a b)) ∧
  (∀ a, Framed (.inrushComplete a)) ∧ (∀ a b, Framed (.railSag a b)) ∧ (∀ a b, Framed (.railRecover a b)) ∧
  (∀ a, Framed (.holdLimit a)) ∧ (∀ a, Framed (.inrushTimeout a)) ∧ (∀ a b, Framed (.fastTrip a b)) ∧
  (∀ a b c, Framed (.breakerTrip a b c)) ∧ (∀ a, Framed (.retryDue a)) ∧ (∀ a, Framed (.retryCountReset a)) ∧
  (∀ a b, Framed (.fetFaultDetect a b)) ∧ (∀ a, Framed (.railSenseMismatch a)) ∧ (∀ a b, Framed (.railDrawWindow a b)) ∧
  (∀ a, Framed (.shedGraceExpiry a)) ∧ (∀ a, Framed (.railBlockEnd a)) ∧ (∀ a, Framed (.quietTimerExpiry a)) ∧
  (∀ a, Framed (.idleWake a)) ∧ Framed .entryStepComplete ∧ (∀ a b, Framed (.wakeRequest a b)) ∧
  (∀ a, Framed (.lowPowerExitComplete a))

/-- The frames of the commands of Power Delivery (14) and drops (08, 09): each changes nothing outside its frame `frameOf`, which names its parts and
registers. -/
def Obligations.FramePdDrop : Prop :=
  (∀ a, Framed (.pdStatus a)) ∧ (∀ a b c d, Framed (.pdCapsSet a b c d)) ∧ (∀ a, Framed (.pdVconnSwap a)) ∧
  (∀ a, Framed (.pdHardReset a)) ∧ (∀ a b, Framed (.pdVout a b)) ∧ (∀ a b, Framed (.pdCfgSet a b)) ∧
  (∀ a, Framed (.dropStatus a)) ∧ (∀ a b c, Framed (.dropEnumerate a b c)) ∧ (∀ a b, Framed (.dropReset a b)) ∧
  (∀ a, Framed (.dropSuspend a)) ∧ (∀ a, Framed (.dropResume a)) ∧ (∀ a b c, Framed (.dropTree a b c)) ∧
  (∀ a b c d e f g, Framed (.dropSet a b c d e f g)) ∧ (∀ a b c d e, Framed (.dropControl a b c d e)) ∧
  (∀ a b c d e, Framed (.weirSet a b c d e)) ∧ (∀ a b c d, Framed (.sofStampOpen a b c d)) ∧
  (∀ a, Framed (.sofStampRead a)) ∧ (∀ a b c, Framed (.dropSchedRead a b c)) ∧ (∀ a b, Framed (.dropPullupSeen a b)) ∧
  (∀ a, Framed (.dropPullupLost a)) ∧ (∀ a, Framed (.debounceExpiry a)) ∧ (∀ a b, Framed (.deviceChirpK a b)) ∧
  (∀ a, Framed (.rootResetExpiry a)) ∧ (∀ a b, Framed (.enumRequestComplete a b)) ∧ (∀ a, Framed (.enumWaitExpiry a)) ∧
  (∀ a, Framed (.controlStageTimeout a)) ∧ (∀ a, Framed (.dropDisconnect a)) ∧ (∀ a b, Framed (.typecRdSeen a b)) ∧
  (∀ a, Framed (.typecRdLost a)) ∧ (∀ a, Framed (.suspendIdleExpiry a)) ∧ (∀ a b, Framed (.overdrawCheck a b)) ∧
  (∀ a, Framed (.remoteWakeK a)) ∧ (∀ a, Framed (.resumeKDone a)) ∧ (∀ a, Framed (.resumeRecoveryDone a)) ∧
  (∀ a, Framed (.microframeBoundary a)) ∧ (∀ a b c d, Framed (.transactionComplete a b c d)) ∧
  (∀ a b c d, Framed (.hubStatusPoll a b c d)) ∧ (∀ a b, Framed (.parisonTimeout a b)) ∧ (∀ a, Framed (.vsafe5vReached a)) ∧
  (∀ a b, Framed (.sourceCapsTimer a b)) ∧ (∀ a b c d e, Framed (.pdRequest a b c d e)) ∧ (∀ a b, Framed (.pdMessage a b)) ∧
  (∀ a b, Framed (.pdEprMode a b)) ∧ (∀ a, Framed (.vconnSwapReceive a)) ∧ (∀ a, Framed (.hardResetReceive a)) ∧
  (∀ a, Framed (.acceptDelayExpiry a)) ∧ (∀ a b, Framed (.readVoutPoll a b)) ∧ (∀ a b c, Framed (.pmbusAlert a b c)) ∧
  (∀ a b, Framed (.statusWordPoll a b)) ∧ (∀ a b, Framed (.converterFault a b)) ∧ (∀ a, Framed (.eprKeepaliveTimeout a)) ∧
  (∀ a, Framed (.ppsRequestTimeout a)) ∧ (∀ a b, Framed (.vconnOvercurrent a b)) ∧ (∀ a b, Framed (.cableDiscovery a b)) ∧
  (∀ a, Framed (.pdNextOpportunity a)) ∧ (∀ a, Framed (.reducedRequestTimeout a)) ∧ (∀ a, Framed (.vconnGiveTimeout a)) ∧
  (∀ a, Framed (.swapRetryWaitExpiry a)) ∧ (∀ a, Framed (.swapNoAnswer a)) ∧ (∀ a, Framed (.hardResetRecovery a)) ∧
  (∀ a, Framed (.errorRecoveryEnd a))

/-- The frames of the commands of class services (10) and lines (11): each changes nothing outside its frame `frameOf`, which names its parts and
registers. -/
def Obligations.FrameServiceLine : Prop :=
  (∀ a b c d e f g h, Framed (.svcBind a b c d e f g h)) ∧ (∀ a b c d, Framed (.svcUnbind a b c d)) ∧
  (∀ a b c, Framed (.svcList a b c)) ∧ (∀ a, Framed (.lineStatus a)) ∧ (∀ a b c d e f, Framed (.lineTiming a b c d e f)) ∧
  (∀ a b c d, Framed (.lineFilter a b c d)) ∧ (∀ a b, Framed (.lineSend a b)) ∧ (∀ a b, Framed (.lineCancel a b)) ∧
  (∀ a, Framed (.lineRecover a)) ∧ (∀ a b c, Framed (.lineNodes a b c)) ∧ (∀ a b, Framed (.lineRead a b)) ∧
  (∀ a b c d, Framed (.lineWrite a b c d)) ∧ (∀ a b c, Framed (.lineObjCfg a b c)) ∧ (∀ a, Framed (.lineNodeRemove a)) ∧
  (∀ a b c, Framed (.linePollSet a b c)) ∧ (∀ a b, Framed (.classMatch a b)) ∧ (∀ a b c d, Framed (.hidReport a b c d)) ∧
  (∀ a b c d, Framed (.cdcBulkIn a b c d)) ∧ (∀ a b c d, Framed (.serialState a b c d)) ∧
  (∀ a b c d, Framed (.printerJob a b c d)) ∧ (∀ a b c d, Framed (.printerStatusPoll a b c d)) ∧
  (∀ a b c d e, Framed (.rawTransfer a b c d e)) ∧ (∀ a b c, Framed (.gapMsExpiry a b c)) ∧
  (∀ a b, Framed (.lineFrameReceive a b)) ∧ (∀ a, Framed (.rxq0FrameProcess a)) ∧ (∀ a b, Framed (.claim a b)) ∧
  (∀ a b c d e f, Framed (.announce a b c d e f)) ∧ (∀ a b c d e f, Framed (.objAnswer a b c d e f)) ∧
  (∀ a b c d e, Framed (.report a b c d e)) ∧ (∀ a b c, Framed (.nodeRelease a b c)) ∧
  (∀ a b c, Framed (.lineTxComplete a b c)) ∧ (∀ a b c, Framed (.lineBusError a b c)) ∧ (∀ a, Framed (.busOffEntry a)) ∧
  (∀ a, Framed (.lineBusOn a)) ∧ (∀ a b, Framed (.announceTimer a b)) ∧ (∀ a b, Framed (.responseWindowEnd a b)) ∧
  (∀ a b, Framed (.requestTimeout a b)) ∧ (∀ a, Framed (.pollTimer a)) ∧ (∀ a b, Framed (.absentHoldExpiry a b)) ∧
  (∀ a b, Framed (.quarantineExpiry a b)) ∧ (∀ a, Framed (.timeFrameBoundary a)) ∧ (∀ a, Framed (.timeFrameWithdraw a)) ∧
  (∀ a b c d e, Framed (.streamOpen a b c d e)) ∧ (∀ a b c, Framed (.streamClose a b c)) ∧ (∀ a, Framed (.lineBusRejoin a))

/-- The frames of the commands of the Pond (07) and Seiche (12): each changes nothing outside its frame `frameOf`, which names its parts and
registers. -/
def Obligations.FramePondSeiche : Prop :=
  (∀ a, Framed (.pondStatus a)) ∧ (∀ a b c, Framed (.quotaRead a b c)) ∧ (∀ a b c, Framed (.quotaSet a b c)) ∧
  (∀ a b, Framed (.ctxRead a b)) ∧ (∀ a b c d e, Framed (.ctxList a b c d e)) ∧ (∀ a b c, Framed (.pondUnpoison a b c)) ∧
  (∀ a b c, Framed (.scrubSet a b c)) ∧ (∀ a b c, Framed (.cacheStats a b c)) ∧ (∀ a b, Framed (.lowMarkSet a b)) ∧
  (∀ a b c d e f g h i j, Framed (.markCreate a b c d e f g h i j)) ∧ (∀ a, Framed (.markConsider a)) ∧
  (∀ a b c, Framed (.markCancel a b c)) ∧ (∀ a b c, Framed (.markRead a b c)) ∧ (∀ a b, Framed (.templateLoad a b)) ∧
  (∀ a b c, Framed (.templateFree a b c)) ∧ (∀ a b, Framed (.beltStatus a b)) ∧ (∀ a b c d, Framed (.beltSetPos a b c d)) ∧
  (∀ a, Framed (.timeRead a)) ∧ (∀ a, Framed (.timeAck a)) ∧ (∀ a b c d, Framed (.outfallSet a b c d)) ∧
  (∀ a b c, Framed (.pondAlloc a b c)) ∧ (∀ a, Framed (.contextFree a)) ∧ (∀ a b, Framed (.bulkFree a b)) ∧
  (∀ a, Framed (.waitListRetry a)) ∧ (∀ a, Framed (.scrubStep a)) ∧ (∀ a, Framed (.cacheWriteback a)) ∧
  Framed .directoryUe ∧ (∀ a, Framed (.directoryRebuildEnd a)) ∧ (∀ a b c d, Framed (.shaftEdge a b c d)) ∧
  (∀ a, Framed (.shaftQuadError a)) ∧ (∀ a, Framed (.zEdge a)) ∧ (∀ a, Framed (.beltStopTimeout a)) ∧
  (∀ a, Framed (.armingCycle a)) ∧ (∀ a b, Framed (.slotMatch a b)) ∧ (∀ a b, Framed (.markAction a b)) ∧
  (∀ a b, Framed (.lateAction a b)) ∧ (∀ a, Framed (.outfallPulseEnd a)) ∧ (∀ a b, Framed (.inletEdge a b)) ∧
  Framed .ppsRise ∧ Framed .ppsFall ∧ (∀ a, Framed (.calWindowEnd a)) ∧ Framed .serviceTableRebuildEnd

/-- The frames of the commands of firmware (04), the Bead (18) and registers (15): each changes nothing outside its frame `frameOf`, which names its parts and
registers. -/
def Obligations.FrameFirmwareBeadRegisters : Prop :=
  Framed .regwinFrameReceive ∧ (∀ a b, Framed (.leaseWrite a b)) ∧ (∀ a b, Framed (.quote a b)) ∧
  (∀ a b c, Framed (.logRead a b c)) ∧ (∀ a b c, Framed (.logTrim a b c)) ∧ (∀ a b, Framed (.certRead a b)) ∧
  (∀ a b c, Framed (.stageWrite a b c)) ∧ (∀ a b, Framed (.stageErase a b)) ∧ (∀ a b, Framed (.handoff a b)) ∧
  Framed .handoffStepEnd ∧ (∀ a, Framed (.handoffStepTimeout a)) ∧ Framed .firstRunCheckEnd ∧
  (∀ a b, Framed (.ucodeRoll a b)) ∧ (∀ a, Framed (.rollSwapPoint a)) ∧ (∀ a b c, Framed (.bootSet a b c)) ∧
  (∀ a b, Framed (.tablesApply a b)) ∧ (∀ a b, Framed (.beadRead a b)) ∧ (∀ a b c, Framed (.beadWrite a b c)) ∧
  (∀ a, Framed (.beadStatus a)) ∧ (∀ a b c, Framed (.regRead a b c)) ∧ (∀ a b c, Framed (.regWrite a b c)) ∧
  (∀ a b c d, Framed (.regModify a b c d)) ∧ (∀ a b c, Framed (.regKeyedWrite a b c)) ∧ (∀ a b, Framed (.cwPause a b)) ∧
  (∀ a b, Framed (.cwCommit a b)) ∧ (∀ a, Framed (.cwStatus a)) ∧ (∀ a b, Framed (.keyUnlockWrite a b)) ∧
  (∀ a, Framed (.keyUnlockLapse a)) ∧ (∀ a b c, Framed (.registerWrite a b c)) ∧ (∀ a b c, Framed (.aliasWrite a b c)) ∧
  (∀ a b c, Framed (.statusSeqClear a b c)) ∧ Framed .aonWriteApply ∧ (∀ a, Framed (.seiTimeLoRead a)) ∧
  (∀ a b, Framed (.beltPosLoRead a b)) ∧ (∀ a b c, Framed (.holderQuotaWrite a b c)) ∧
  (∀ a b c d, Framed (.lineTimingRegWrite a b c d)) ∧ (∀ a b, Framed (.measExtGo a b)) ∧ (∀ a b, Framed (.attCtlGo a b)) ∧
  (∀ a b, Framed (.xspiRead a b)) ∧ (∀ a b, Framed (.xspiProgram a b)) ∧ (∀ a, Framed (.xspiErase64k a)) ∧
  (∀ a, Framed (.xspiReadId a)) ∧ (∀ a b, Framed (.xspiOpEnd a b)) ∧ (∀ a b c, Framed (.svcVendorRequest a b c)) ∧
  (∀ a b c, Framed (.jtagRegAccess a b c)) ∧ Framed .cwPassStart ∧ Framed .cwPassEnd ∧ Framed .cwPauseExpiry ∧
  (∀ a, Framed (.cfgParityFailure a)) ∧ Framed .attestRecordWrite ∧ Framed .snapshotWrite ∧
  (∀ a, Framed (.beadCommitEnd a)) ∧ (∀ a b c, Framed (.inventory a b c)) ∧ (∀ a, Framed (.stayQuiet a)) ∧
  (∀ a b, Framed (.readSingleBlock a b)) ∧ (∀ a b c, Framed (.writeSingleBlock a b c)) ∧ (∀ a b, Framed (.lockBlock a b)) ∧
  (∀ a b c, Framed (.readMultipleBlocks a b c)) ∧ (∀ a, Framed (.select a)) ∧ (∀ a, Framed (.resetToReady a)) ∧
  (∀ a, Framed (.getSystemInformation a)) ∧ (∀ a b c, Framed (.getBlockSecurityStatus a b c)) ∧
  (∀ a b, Framed (.lockSession a b)) ∧ (∀ a, Framed (.unlockSession a)) ∧ (∀ a b, Framed (.readRecord a b)) ∧
  (∀ a, Framed (.getBeadStatus a)) ∧ Framed .beadSessionExpiry ∧ Framed .beadFieldLoss ∧
  (∀ a, Framed (.readerFieldPresent a)) ∧ Framed .microcodeReloadDone ∧ (∀ a, Framed (.regAccessSessionChange a))

end
end

