-- ==== Sys2Proof/Laws/Addr.lean ====
section
/-! SUPPORT. Register addresses (R309): no two registers share one. A register is read back from its address. -/

namespace Sys2Proof.Laws

open Sys2Proof.Machine

/-- Block of ENG_QUAR. -/
def inBlock0 (i o : Nat) : Reg :=
  match o with
  | 4 => .ENG_BASIN (Fin.ofNat 16 (i))
  | _ => .ENG_QUAR (Fin.ofNat 16 (i))

/-- Block of MEAS. -/
def inBlock1 (i o : Nat) : Reg :=
  .MEAS (Fin.ofNat 8 (i)) (Fin.ofNat 12 ((o - 0) / 4))

/-- Block of MEAS_EXT_DATA. -/
def inBlock2 (i _o : Nat) : Reg := .MEAS_EXT_DATA (Fin.ofNat 12 (i))

/-- Block of ATT_NONCE. -/
def inBlock3 (i _o : Nat) : Reg := .ATT_NONCE (Fin.ofNat 8 (i))

/-- Block of ATT_QUOTE. -/
def inBlock4 (i _o : Nat) : Reg := .ATT_QUOTE (Fin.ofNat 144 (i))

/-- Block of BELT_CTL. -/
def inBlock5 (i o : Nat) : Reg :=
  match o with
  | 4 => .BELT_POS_LO (Fin.ofNat 16 (i))
  | 8 => .BELT_POS_HI (Fin.ofNat 16 (i))
  | 12 => .BELT_RATE (Fin.ofNat 16 (i))
  | 16 => .BELT_STATUS (Fin.ofNat 16 (i))
  | 20 => .BELT_ZCFG (Fin.ofNat 16 (i))
  | 24 => .BELT_ARM (Fin.ofNat 16 (i))
  | 28 => .BELT_STOP (Fin.ofNat 16 (i))
  | _ => .BELT_CTL (Fin.ofNat 16 (i))

/-- Block of INLET_CTL. -/
def inBlock6 (i _o : Nat) : Reg := .INLET_CTL (Fin.ofNat 32 (i))

/-- Block of PTP_LAT. -/
def inBlock7 (i _o : Nat) : Reg := .PTP_LAT (Fin.ofNat 2 (i))

/-- Block of TRK_ERR. -/
def inBlock8 (i _o : Nat) : Reg := .TRK_ERR (Fin.ofNat 2 (i))

/-- Block of DOOR_STATUS. -/
def inBlock9 (i o : Nat) : Reg :=
  match o with
  | 4 => .DOOR_EVT (Fin.ofNat 8 (i))
  | _ => .DOOR_STATUS (Fin.ofNat 8 (i))

/-- Block of HOLDER_QUOTA. -/
def inBlock10 (i o : Nat) : Reg :=
  match o with
  | 4 => .HOLDER_USED (Fin.ofNat 99 (i))
  | _ => .HOLDER_QUOTA (Fin.ofNat 99 (i))

/-- Block of ENG_CACHE. -/
def inBlock11 (i _o : Nat) : Reg := .ENG_CACHE (Fin.ofNat 512 (i))

/-- Block of CW_BLK. -/
def inBlock12 (i _o : Nat) : Reg := .CW_BLK (Fin.ofNat 12 (i))

/-- Block of SVC_PROF_CTL. -/
def inBlock13 (i o : Nat) : Reg :=
  match o with
  | 4 => .SVC_PROF_TERM (Fin.ofNat 16 (i))
  | 8 => .SVC_PROF_LINE (Fin.ofNat 16 (i))
  | _ => .SVC_PROF_CTL (Fin.ofNat 16 (i))

/-- Block of XSPI_DATA. -/
def inBlock14 (i _o : Nat) : Reg := .XSPI_DATA (Fin.ofNat 64 (i))

/-- Block of DROP_CTL. -/
def inBlock15 (i o : Nat) : Reg :=
  match o with
  | 0 => .DROP_CTL (Fin.ofNat 96 (i))
  | 4 => .DROP_STATUS (Fin.ofNat 96 (i))
  | 8 => .DROP_SUSP (Fin.ofNat 96 (i))
  | 16 => .DROP_SCHED (Fin.ofNat 96 (i))
  | 20 => .DROP_FRAME (Fin.ofNat 96 (i))
  | 24 => .DROP_WEIR (Fin.ofNat 96 (i))
  | 28 => .DROP_XFER_ERR (Fin.ofNat 96 (i))
  | 32 => .DROP_PARISON (Fin.ofNat 96 (i))
  | 64 => .SVC_PORT (Fin.ofNat 96 (i))
  | 252 => .PIN_CFG (Fin.ofNat 96 (i))
  | 256 => .PD_CFG (Fin.ofNat 96 (i))
  | 260 => .PD_CAPS (Fin.ofNat 96 (i))
  | 264 => .PD_LIMIT (Fin.ofNat 96 (i))
  | 268 => .PD_TIMING (Fin.ofNat 96 (i))
  | 272 => .PD_STATUS (Fin.ofNat 96 (i))
  | 276 => .PD_VOUT (Fin.ofNat 96 (i))
  | 512 => .LINE_CTL (Fin.ofNat 96 (i))
  | 516 => .LINE_NBT (Fin.ofNat 96 (i))
  | 520 => .LINE_DBT (Fin.ofNat 96 (i))
  | 524 => .LINE_TDC (Fin.ofNat 96 (i))
  | 528 => .LINE_ERR (Fin.ofNat 96 (i))
  | 532 => .LINE_WARN (Fin.ofNat 96 (i))
  | 536 => .LINE_POLL (Fin.ofNat 96 (i))
  | 540 => .LINE_HOLD (Fin.ofNat 96 (i))
  | 544 => .LINE_CNT (Fin.ofNat 96 (i))
  | o => if o % 8 = 0 then .LINE_FLT_ID (Fin.ofNat 96 (i)) (Fin.ofNat 32 ((o - 768) / 8)) else .LINE_FLT_MASK (Fin.ofNat 96 (i)) (Fin.ofNat 32 ((o - 772) / 8))

/-- Block of CH_CMD. -/
def inBlock16 (i o : Nat) : Reg :=
  match o with
  | 0 => .CH_CMD (Fin.ofNat 96 (i))
  | 4 => .CH_CFG (Fin.ofNat 96 (i))
  | 8 => .CH_SENSE (Fin.ofNat 96 (i))
  | 12 => .CH_INRUSH (Fin.ofNat 96 (i))
  | 16 => .CH_LIMIT (Fin.ofNat 96 (i))
  | 20 => .CH_SUSP (Fin.ofNat 96 (i))
  | 64 => .CH_STATUS (Fin.ofNat 96 (i))
  | 68 => .CH_MEAS (Fin.ofNat 96 (i))
  | o => .CH_CURVE (Fin.ofNat 96 (i)) (Fin.ofNat 8 ((o - 32) / 4))

/-- Block of RAIL_CFG. -/
def inBlock17 (i o : Nat) : Reg :=
  match o with
  | 4 => .RAIL_BUDGET (Fin.ofNat 8 (i))
  | 8 => .RAIL_STATUS (Fin.ofNat 8 (i))
  | 12 => .RAIL_MEAS (Fin.ofNat 8 (i))
  | _ => .RAIL_CFG (Fin.ofNat 8 (i))

/-- A register that stands alone. -/
def alone (a : Nat) : Reg :=
  match a with
  | 0 => .GLB_ID
  | 4 => .GLB_SERIAL_LO
  | 8 => .GLB_SERIAL_HI
  | 12 => .GLB_STRAP
  | 16 => .GLB_FAULT
  | 20 => .GLB_FAULT_EN
  | 24 => .GLB_ALERT_EN
  | 28 => .GLB_SCRATCH
  | 32 => .INT_QPTR
  | 36 => .INT_RES
  | 40 => .INT_CRC
  | 48 => .ESC_LAST
  | 64 => .ENG_CFG
  | 1456 => .MEAS_EXT_CTL
  | 1472 => .BOOT_STATUS
  | 1476 => .BOOT_CTL
  | 1480 => .BOOT_OVR
  | 1568 => .ATT_CTL
  | 65536 => .KEY_UNLOCK
  | 65540 => .KEY_STATUS
  | 131072 => .CLK_CTL
  | 131076 => .CLK_STATUS
  | 131088 => .RST_CMD
  | 131092 => .RST_CAUSE
  | 131104 => .CDC_OVR
  | 131108 => .CDC_WAKE_MODE
  | 196608 => .PWR_CTL
  | 196612 => .PWR_LTR
  | 196616 => .PWR_TIMER_0
  | 196620 => .PWR_TIMER_1
  | 196624 => .PWR_STATUS
  | 196628 => .PWR_REFUSE
  | 196640 => .PWR_WAKE_EN
  | 196644 => .PWR_WAKE_CAUSE
  | 262144 => .SEI_TIME_LO
  | 262148 => .SEI_TIME_HI
  | 262152 => .SEI_STATUS
  | 262156 => .SEI_UNCERT
  | 262160 => .SEI_CTL
  | 262164 => .OUTFALL_STATE
  | 262168 => .SEI_CAL
  | 327680 => .TRK_CTL
  | 327684 => .TRK_STATUS
  | 327688 => .TRK_CFG2
  | 327696 => .TRK_SPILL
  | 327704 => .TRK_WAKE_KEY
  | 327708 => .TRK_PEER_MAC_LO
  | 327712 => .TRK_PEER_MAC_HI
  | 327716 => .PTP_CTL
  | 393472 => .MBX_CTL
  | 458752 => .POND_STATUS
  | 458756 => .POND_FREE
  | 458760 => .POND_WAIT
  | 458764 => .POND_POISONED
  | 458768 => .POND_LOW_MARK
  | 458772 => .POND_SCRUB
  | 458776 => .POND_ERR_CID
  | 458780 => .POND_CE_COUNT
  | 458784 => .POND_QSUM
  | 524288 => .CW_CTL
  | 524292 => .CW_REF
  | 524296 => .CW_CALC
  | 524300 => .CW_STATUS
  | 524304 => .CW_PAR_ADDR
  | 589824 => .BEAD_STATUS
  | 589828 => .BEAD_CNT
  | 655360 => .SVC_STATUS
  | 720896 => .XSPI_ADDR
  | 720900 => .XSPI_CMD
  | 720904 => .XSPI_STATUS
  | _ => .GLB_ID

/-- The register of an address. -/
def unaddr (a : Nat) : Reg :=
  if 256 ≤ a ∧ a < 384 then inBlock0 ((a - 256) / 8) ((a - 256) % 8) else
  if 1024 ≤ a ∧ a < 1408 then inBlock1 ((a - 1024) / 48) ((a - 1024) % 48) else
  if 1408 ≤ a ∧ a < 1456 then inBlock2 ((a - 1408) / 4) ((a - 1408) % 4) else
  if 1536 ≤ a ∧ a < 1568 then inBlock3 ((a - 1536) / 4) ((a - 1536) % 4) else
  if 1792 ≤ a ∧ a < 2368 then inBlock4 ((a - 1792) / 4) ((a - 1792) % 4) else
  if 262400 ≤ a ∧ a < 262912 then inBlock5 ((a - 262400) / 32) ((a - 262400) % 32) else
  if 263168 ≤ a ∧ a < 263296 then inBlock6 ((a - 263168) / 4) ((a - 263168) % 4) else
  if 327720 ≤ a ∧ a < 327728 then inBlock7 ((a - 327720) / 4) ((a - 327720) % 4) else
  if 327728 ≤ a ∧ a < 327736 then inBlock8 ((a - 327728) / 4) ((a - 327728) % 4) else
  if 393216 ≤ a ∧ a < 393344 then inBlock9 ((a - 393216) / 16) ((a - 393216) % 16) else
  if 459008 ≤ a ∧ a < 459800 then inBlock10 ((a - 459008) / 8) ((a - 459008) % 8) else
  if 462848 ≤ a ∧ a < 464896 then inBlock11 ((a - 462848) / 4) ((a - 462848) % 4) else
  if 524544 ≤ a ∧ a < 524592 then inBlock12 ((a - 524544) / 4) ((a - 524544) % 4) else
  if 655616 ≤ a ∧ a < 655872 then inBlock13 ((a - 655616) / 16) ((a - 655616) % 16) else
  if 721152 ≤ a ∧ a < 721408 then inBlock14 ((a - 721152) / 4) ((a - 721152) % 4) else
  if 1048576 ≤ a ∧ a < 1441792 then inBlock15 ((a - 1048576) / 4096) ((a - 1048576) % 4096) else
  if 1572864 ≤ a ∧ a < 1597440 then inBlock16 ((a - 1572864) / 256) ((a - 1572864) % 256) else
  if 1597440 ≤ a ∧ a < 1599488 then inBlock17 ((a - 1597440) / 256) ((a - 1597440) % 256) else
  alone a

theorem unaddr_inBlock0 (i o : Nat) (hi : i < 16) (ho : o < 8) : unaddr (256 + 8 * i + o) = inBlock0 i o := by
  have h1 : (256 + 8 * i + o - 256) / 8 = i := by omega
  have h2 : (256 + 8 * i + o - 256) % 8 = o := by omega
  unfold unaddr
  rw [if_pos (by omega), h1, h2]

theorem unaddr_inBlock1 (i o : Nat) (hi : i < 8) (ho : o < 48) : unaddr (1024 + 48 * i + o) = inBlock1 i o := by
  have h1 : (1024 + 48 * i + o - 1024) / 48 = i := by omega
  have h2 : (1024 + 48 * i + o - 1024) % 48 = o := by omega
  unfold unaddr
  repeat rw [if_neg (by omega)]
  rw [if_pos (by omega), h1, h2]

theorem unaddr_inBlock2 (i o : Nat) (hi : i < 12) (ho : o < 4) : unaddr (1408 + 4 * i + o) = inBlock2 i o := by
  have h1 : (1408 + 4 * i + o - 1408) / 4 = i := by omega
  have h2 : (1408 + 4 * i + o - 1408) % 4 = o := by omega
  unfold unaddr
  repeat rw [if_neg (by omega)]
  rw [if_pos (by omega), h1, h2]

theorem unaddr_inBlock3 (i o : Nat) (hi : i < 8) (ho : o < 4) : unaddr (1536 + 4 * i + o) = inBlock3 i o := by
  have h1 : (1536 + 4 * i + o - 1536) / 4 = i := by omega
  have h2 : (1536 + 4 * i + o - 1536) % 4 = o := by omega
  unfold unaddr
  repeat rw [if_neg (by omega)]
  rw [if_pos (by omega), h1, h2]

theorem unaddr_inBlock4 (i o : Nat) (hi : i < 144) (ho : o < 4) : unaddr (1792 + 4 * i + o) = inBlock4 i o := by
  have h1 : (1792 + 4 * i + o - 1792) / 4 = i := by omega
  have h2 : (1792 + 4 * i + o - 1792) % 4 = o := by omega
  unfold unaddr
  repeat rw [if_neg (by omega)]
  rw [if_pos (by omega), h1, h2]

theorem unaddr_inBlock5 (i o : Nat) (hi : i < 16) (ho : o < 32) : unaddr (262400 + 32 * i + o) = inBlock5 i o := by
  have h1 : (262400 + 32 * i + o - 262400) / 32 = i := by omega
  have h2 : (262400 + 32 * i + o - 262400) % 32 = o := by omega
  unfold unaddr
  repeat rw [if_neg (by omega)]
  rw [if_pos (by omega), h1, h2]

theorem unaddr_inBlock6 (i o : Nat) (hi : i < 32) (ho : o < 4) : unaddr (263168 + 4 * i + o) = inBlock6 i o := by
  have h1 : (263168 + 4 * i + o - 263168) / 4 = i := by omega
  have h2 : (263168 + 4 * i + o - 263168) % 4 = o := by omega
  unfold unaddr
  repeat rw [if_neg (by omega)]
  rw [if_pos (by omega), h1, h2]

theorem unaddr_inBlock7 (i o : Nat) (hi : i < 2) (ho : o < 4) : unaddr (327720 + 4 * i + o) = inBlock7 i o := by
  have h1 : (327720 + 4 * i + o - 327720) / 4 = i := by omega
  have h2 : (327720 + 4 * i + o - 327720) % 4 = o := by omega
  unfold unaddr
  repeat rw [if_neg (by omega)]
  rw [if_pos (by omega), h1, h2]

theorem unaddr_inBlock8 (i o : Nat) (hi : i < 2) (ho : o < 4) : unaddr (327728 + 4 * i + o) = inBlock8 i o := by
  have h1 : (327728 + 4 * i + o - 327728) / 4 = i := by omega
  have h2 : (327728 + 4 * i + o - 327728) % 4 = o := by omega
  unfold unaddr
  repeat rw [if_neg (by omega)]
  rw [if_pos (by omega), h1, h2]

theorem unaddr_inBlock9 (i o : Nat) (hi : i < 8) (ho : o < 16) : unaddr (393216 + 16 * i + o) = inBlock9 i o := by
  have h1 : (393216 + 16 * i + o - 393216) / 16 = i := by omega
  have h2 : (393216 + 16 * i + o - 393216) % 16 = o := by omega
  unfold unaddr
  repeat rw [if_neg (by omega)]
  rw [if_pos (by omega), h1, h2]

theorem unaddr_inBlock10 (i o : Nat) (hi : i < 99) (ho : o < 8) : unaddr (459008 + 8 * i + o) = inBlock10 i o := by
  have h1 : (459008 + 8 * i + o - 459008) / 8 = i := by omega
  have h2 : (459008 + 8 * i + o - 459008) % 8 = o := by omega
  unfold unaddr
  repeat rw [if_neg (by omega)]
  rw [if_pos (by omega), h1, h2]

theorem unaddr_inBlock11 (i o : Nat) (hi : i < 512) (ho : o < 4) : unaddr (462848 + 4 * i + o) = inBlock11 i o := by
  have h1 : (462848 + 4 * i + o - 462848) / 4 = i := by omega
  have h2 : (462848 + 4 * i + o - 462848) % 4 = o := by omega
  unfold unaddr
  repeat rw [if_neg (by omega)]
  rw [if_pos (by omega), h1, h2]

theorem unaddr_inBlock12 (i o : Nat) (hi : i < 12) (ho : o < 4) : unaddr (524544 + 4 * i + o) = inBlock12 i o := by
  have h1 : (524544 + 4 * i + o - 524544) / 4 = i := by omega
  have h2 : (524544 + 4 * i + o - 524544) % 4 = o := by omega
  unfold unaddr
  repeat rw [if_neg (by omega)]
  rw [if_pos (by omega), h1, h2]

theorem unaddr_inBlock13 (i o : Nat) (hi : i < 16) (ho : o < 16) : unaddr (655616 + 16 * i + o) = inBlock13 i o := by
  have h1 : (655616 + 16 * i + o - 655616) / 16 = i := by omega
  have h2 : (655616 + 16 * i + o - 655616) % 16 = o := by omega
  unfold unaddr
  repeat rw [if_neg (by omega)]
  rw [if_pos (by omega), h1, h2]

theorem unaddr_inBlock14 (i o : Nat) (hi : i < 64) (ho : o < 4) : unaddr (721152 + 4 * i + o) = inBlock14 i o := by
  have h1 : (721152 + 4 * i + o - 721152) / 4 = i := by omega
  have h2 : (721152 + 4 * i + o - 721152) % 4 = o := by omega
  unfold unaddr
  repeat rw [if_neg (by omega)]
  rw [if_pos (by omega), h1, h2]

theorem unaddr_inBlock15 (i o : Nat) (hi : i < 96) (ho : o < 4096) : unaddr (1048576 + 4096 * i + o) = inBlock15 i o := by
  have h1 : (1048576 + 4096 * i + o - 1048576) / 4096 = i := by omega
  have h2 : (1048576 + 4096 * i + o - 1048576) % 4096 = o := by omega
  unfold unaddr
  repeat rw [if_neg (by omega)]
  rw [if_pos (by omega), h1, h2]

theorem unaddr_inBlock16 (i o : Nat) (hi : i < 96) (ho : o < 256) : unaddr (1572864 + 256 * i + o) = inBlock16 i o := by
  have h1 : (1572864 + 256 * i + o - 1572864) / 256 = i := by omega
  have h2 : (1572864 + 256 * i + o - 1572864) % 256 = o := by omega
  unfold unaddr
  repeat rw [if_neg (by omega)]
  rw [if_pos (by omega), h1, h2]

theorem unaddr_inBlock17 (i o : Nat) (hi : i < 8) (ho : o < 256) : unaddr (1597440 + 256 * i + o) = inBlock17 i o := by
  have h1 : (1597440 + 256 * i + o - 1597440) / 256 = i := by omega
  have h2 : (1597440 + 256 * i + o - 1597440) % 256 = o := by omega
  unfold unaddr
  repeat rw [if_neg (by omega)]
  rw [if_pos (by omega), h1, h2]

@[simp] theorem ofNat_val {n : Nat} [NeZero n] (i : Fin n) : Fin.ofNat n i.val = i := Fin.ext (Nat.mod_eq_of_lt i.isLt)

/-- The address tells the register. -/
theorem unaddr_addr (r : Reg) : unaddr r.addr = r := by
  cases r
  case GLB_ID => rfl
  case GLB_SERIAL_LO => rfl
  case GLB_SERIAL_HI => rfl
  case GLB_STRAP => rfl
  case GLB_FAULT => rfl
  case GLB_FAULT_EN => rfl
  case GLB_ALERT_EN => rfl
  case GLB_SCRATCH => rfl
  case INT_QPTR => rfl
  case INT_RES => rfl
  case INT_CRC => rfl
  case ESC_LAST => rfl
  case ENG_CFG => rfl
  case ENG_QUAR i => exact (congrArg unaddr (by simp only [Reg.addr]; omega)).trans ((unaddr_inBlock0 i 0 i.isLt (by omega)).trans (by simp [inBlock0]))
  case ENG_BASIN i => exact (congrArg unaddr (by simp only [Reg.addr]; omega)).trans ((unaddr_inBlock0 i 4 i.isLt (by omega)).trans (by simp [inBlock0]))
  case MEAS i k =>
    have hk := k.isLt
    refine (congrArg unaddr (a₂ := 1024 + 48 * i.val + (0 + 4 * k.val)) (by simp only [Reg.addr]; omega)).trans ((unaddr_inBlock1 i.val (0 + 4 * k.val) i.isLt (by omega)).trans ?_)
    have e1 : (0 + 4 * k.val - 0) / 4 = k.val := by omega
    unfold inBlock1
    rw [e1]; simp
  case MEAS_EXT_DATA i => exact (congrArg unaddr (by simp only [Reg.addr]; omega)).trans ((unaddr_inBlock2 i 0 i.isLt (by omega)).trans (by simp [inBlock2]))
  case MEAS_EXT_CTL => rfl
  case BOOT_STATUS => rfl
  case BOOT_CTL => rfl
  case BOOT_OVR => rfl
  case ATT_NONCE i => exact (congrArg unaddr (by simp only [Reg.addr]; omega)).trans ((unaddr_inBlock3 i 0 i.isLt (by omega)).trans (by simp [inBlock3]))
  case ATT_CTL => rfl
  case ATT_QUOTE i => exact (congrArg unaddr (by simp only [Reg.addr]; omega)).trans ((unaddr_inBlock4 i 0 i.isLt (by omega)).trans (by simp [inBlock4]))
  case KEY_UNLOCK => rfl
  case KEY_STATUS => rfl
  case CLK_CTL => rfl
  case CLK_STATUS => rfl
  case RST_CMD => rfl
  case RST_CAUSE => rfl
  case CDC_OVR => rfl
  case CDC_WAKE_MODE => rfl
  case PWR_CTL => rfl
  case PWR_LTR => rfl
  case PWR_TIMER_0 => rfl
  case PWR_TIMER_1 => rfl
  case PWR_STATUS => rfl
  case PWR_REFUSE => rfl
  case PWR_WAKE_EN => rfl
  case PWR_WAKE_CAUSE => rfl
  case SEI_TIME_LO => rfl
  case SEI_TIME_HI => rfl
  case SEI_STATUS => rfl
  case SEI_UNCERT => rfl
  case SEI_CTL => rfl
  case OUTFALL_STATE => rfl
  case SEI_CAL => rfl
  case BELT_CTL i => exact (congrArg unaddr (by simp only [Reg.addr]; omega)).trans ((unaddr_inBlock5 i 0 i.isLt (by omega)).trans (by simp [inBlock5]))
  case BELT_POS_LO i => exact (congrArg unaddr (by simp only [Reg.addr]; omega)).trans ((unaddr_inBlock5 i 4 i.isLt (by omega)).trans (by simp [inBlock5]))
  case BELT_POS_HI i => exact (congrArg unaddr (by simp only [Reg.addr]; omega)).trans ((unaddr_inBlock5 i 8 i.isLt (by omega)).trans (by simp [inBlock5]))
  case BELT_RATE i => exact (congrArg unaddr (by simp only [Reg.addr]; omega)).trans ((unaddr_inBlock5 i 12 i.isLt (by omega)).trans (by simp [inBlock5]))
  case BELT_STATUS i => exact (congrArg unaddr (by simp only [Reg.addr]; omega)).trans ((unaddr_inBlock5 i 16 i.isLt (by omega)).trans (by simp [inBlock5]))
  case BELT_ZCFG i => exact (congrArg unaddr (by simp only [Reg.addr]; omega)).trans ((unaddr_inBlock5 i 20 i.isLt (by omega)).trans (by simp [inBlock5]))
  case BELT_ARM i => exact (congrArg unaddr (by simp only [Reg.addr]; omega)).trans ((unaddr_inBlock5 i 24 i.isLt (by omega)).trans (by simp [inBlock5]))
  case BELT_STOP i => exact (congrArg unaddr (by simp only [Reg.addr]; omega)).trans ((unaddr_inBlock5 i 28 i.isLt (by omega)).trans (by simp [inBlock5]))
  case INLET_CTL i => exact (congrArg unaddr (by simp only [Reg.addr]; omega)).trans ((unaddr_inBlock6 i 0 i.isLt (by omega)).trans (by simp [inBlock6]))
  case TRK_CTL => rfl
  case TRK_STATUS => rfl
  case TRK_CFG2 => rfl
  case TRK_SPILL => rfl
  case TRK_WAKE_KEY => rfl
  case TRK_PEER_MAC_LO => rfl
  case TRK_PEER_MAC_HI => rfl
  case PTP_CTL => rfl
  case PTP_LAT i => exact (congrArg unaddr (by simp only [Reg.addr]; omega)).trans ((unaddr_inBlock7 i 0 i.isLt (by omega)).trans (by simp [inBlock7]))
  case TRK_ERR i => exact (congrArg unaddr (by simp only [Reg.addr]; omega)).trans ((unaddr_inBlock8 i 0 i.isLt (by omega)).trans (by simp [inBlock8]))
  case DOOR_STATUS i => exact (congrArg unaddr (by simp only [Reg.addr]; omega)).trans ((unaddr_inBlock9 i 0 i.isLt (by omega)).trans (by simp [inBlock9]))
  case DOOR_EVT i => exact (congrArg unaddr (by simp only [Reg.addr]; omega)).trans ((unaddr_inBlock9 i 4 i.isLt (by omega)).trans (by simp [inBlock9]))
  case MBX_CTL => rfl
  case POND_STATUS => rfl
  case POND_FREE => rfl
  case POND_WAIT => rfl
  case POND_POISONED => rfl
  case POND_LOW_MARK => rfl
  case POND_SCRUB => rfl
  case POND_ERR_CID => rfl
  case POND_CE_COUNT => rfl
  case POND_QSUM => rfl
  case HOLDER_QUOTA i => exact (congrArg unaddr (by simp only [Reg.addr]; omega)).trans ((unaddr_inBlock10 i 0 i.isLt (by omega)).trans (by simp [inBlock10]))
  case HOLDER_USED i => exact (congrArg unaddr (by simp only [Reg.addr]; omega)).trans ((unaddr_inBlock10 i 4 i.isLt (by omega)).trans (by simp [inBlock10]))
  case ENG_CACHE i => exact (congrArg unaddr (by simp only [Reg.addr]; omega)).trans ((unaddr_inBlock11 i 0 i.isLt (by omega)).trans (by simp [inBlock11]))
  case CW_CTL => rfl
  case CW_REF => rfl
  case CW_CALC => rfl
  case CW_STATUS => rfl
  case CW_PAR_ADDR => rfl
  case CW_BLK i => exact (congrArg unaddr (by simp only [Reg.addr]; omega)).trans ((unaddr_inBlock12 i 0 i.isLt (by omega)).trans (by simp [inBlock12]))
  case BEAD_STATUS => rfl
  case BEAD_CNT => rfl
  case SVC_STATUS => rfl
  case SVC_PROF_CTL i => exact (congrArg unaddr (by simp only [Reg.addr]; omega)).trans ((unaddr_inBlock13 i 0 i.isLt (by omega)).trans (by simp [inBlock13]))
  case SVC_PROF_TERM i => exact (congrArg unaddr (by simp only [Reg.addr]; omega)).trans ((unaddr_inBlock13 i 4 i.isLt (by omega)).trans (by simp [inBlock13]))
  case SVC_PROF_LINE i => exact (congrArg unaddr (by simp only [Reg.addr]; omega)).trans ((unaddr_inBlock13 i 8 i.isLt (by omega)).trans (by simp [inBlock13]))
  case XSPI_ADDR => rfl
  case XSPI_CMD => rfl
  case XSPI_STATUS => rfl
  case XSPI_DATA i => exact (congrArg unaddr (by simp only [Reg.addr]; omega)).trans ((unaddr_inBlock14 i 0 i.isLt (by omega)).trans (by simp [inBlock14]))
  case DROP_CTL i => exact (congrArg unaddr (by simp only [Reg.addr]; omega)).trans ((unaddr_inBlock15 i 0 i.isLt (by omega)).trans (by simp [inBlock15]))
  case DROP_STATUS i => exact (congrArg unaddr (by simp only [Reg.addr]; omega)).trans ((unaddr_inBlock15 i 4 i.isLt (by omega)).trans (by simp [inBlock15]))
  case DROP_SUSP i => exact (congrArg unaddr (by simp only [Reg.addr]; omega)).trans ((unaddr_inBlock15 i 8 i.isLt (by omega)).trans (by simp [inBlock15]))
  case DROP_SCHED i => exact (congrArg unaddr (by simp only [Reg.addr]; omega)).trans ((unaddr_inBlock15 i 16 i.isLt (by omega)).trans (by simp [inBlock15]))
  case DROP_FRAME i => exact (congrArg unaddr (by simp only [Reg.addr]; omega)).trans ((unaddr_inBlock15 i 20 i.isLt (by omega)).trans (by simp [inBlock15]))
  case DROP_WEIR i => exact (congrArg unaddr (by simp only [Reg.addr]; omega)).trans ((unaddr_inBlock15 i 24 i.isLt (by omega)).trans (by simp [inBlock15]))
  case DROP_XFER_ERR i => exact (congrArg unaddr (by simp only [Reg.addr]; omega)).trans ((unaddr_inBlock15 i 28 i.isLt (by omega)).trans (by simp [inBlock15]))
  case DROP_PARISON i => exact (congrArg unaddr (by simp only [Reg.addr]; omega)).trans ((unaddr_inBlock15 i 32 i.isLt (by omega)).trans (by simp [inBlock15]))
  case SVC_PORT i => exact (congrArg unaddr (by simp only [Reg.addr]; omega)).trans ((unaddr_inBlock15 i 64 i.isLt (by omega)).trans (by simp [inBlock15]))
  case PIN_CFG i => exact (congrArg unaddr (by simp only [Reg.addr]; omega)).trans ((unaddr_inBlock15 i 252 i.isLt (by omega)).trans (by simp [inBlock15]))
  case PD_CFG i => exact (congrArg unaddr (by simp only [Reg.addr]; omega)).trans ((unaddr_inBlock15 i 256 i.isLt (by omega)).trans (by simp [inBlock15]))
  case PD_CAPS i => exact (congrArg unaddr (by simp only [Reg.addr]; omega)).trans ((unaddr_inBlock15 i 260 i.isLt (by omega)).trans (by simp [inBlock15]))
  case PD_LIMIT i => exact (congrArg unaddr (by simp only [Reg.addr]; omega)).trans ((unaddr_inBlock15 i 264 i.isLt (by omega)).trans (by simp [inBlock15]))
  case PD_TIMING i => exact (congrArg unaddr (by simp only [Reg.addr]; omega)).trans ((unaddr_inBlock15 i 268 i.isLt (by omega)).trans (by simp [inBlock15]))
  case PD_STATUS i => exact (congrArg unaddr (by simp only [Reg.addr]; omega)).trans ((unaddr_inBlock15 i 272 i.isLt (by omega)).trans (by simp [inBlock15]))
  case PD_VOUT i => exact (congrArg unaddr (by simp only [Reg.addr]; omega)).trans ((unaddr_inBlock15 i 276 i.isLt (by omega)).trans (by simp [inBlock15]))
  case LINE_CTL i => exact (congrArg unaddr (by simp only [Reg.addr]; omega)).trans ((unaddr_inBlock15 i 512 i.isLt (by omega)).trans (by simp [inBlock15]))
  case LINE_NBT i => exact (congrArg unaddr (by simp only [Reg.addr]; omega)).trans ((unaddr_inBlock15 i 516 i.isLt (by omega)).trans (by simp [inBlock15]))
  case LINE_DBT i => exact (congrArg unaddr (by simp only [Reg.addr]; omega)).trans ((unaddr_inBlock15 i 520 i.isLt (by omega)).trans (by simp [inBlock15]))
  case LINE_TDC i => exact (congrArg unaddr (by simp only [Reg.addr]; omega)).trans ((unaddr_inBlock15 i 524 i.isLt (by omega)).trans (by simp [inBlock15]))
  case LINE_ERR i => exact (congrArg unaddr (by simp only [Reg.addr]; omega)).trans ((unaddr_inBlock15 i 528 i.isLt (by omega)).trans (by simp [inBlock15]))
  case LINE_WARN i => exact (congrArg unaddr (by simp only [Reg.addr]; omega)).trans ((unaddr_inBlock15 i 532 i.isLt (by omega)).trans (by simp [inBlock15]))
  case LINE_POLL i => exact (congrArg unaddr (by simp only [Reg.addr]; omega)).trans ((unaddr_inBlock15 i 536 i.isLt (by omega)).trans (by simp [inBlock15]))
  case LINE_HOLD i => exact (congrArg unaddr (by simp only [Reg.addr]; omega)).trans ((unaddr_inBlock15 i 540 i.isLt (by omega)).trans (by simp [inBlock15]))
  case LINE_CNT i => exact (congrArg unaddr (by simp only [Reg.addr]; omega)).trans ((unaddr_inBlock15 i 544 i.isLt (by omega)).trans (by simp [inBlock15]))
  case LINE_FLT_ID i k =>
    have hk := k.isLt
    refine (congrArg unaddr (a₂ := 1048576 + 4096 * i.val + (768 + 8 * k.val)) (by simp only [Reg.addr]; omega)).trans ((unaddr_inBlock15 i.val (768 + 8 * k.val) i.isLt (by omega)).trans ?_)
    have e1 : (768 + 8 * k.val - 768) / 8 = k.val := by omega
    unfold inBlock15
    split <;> first | omega | skip
    rw [if_pos (by omega), e1]; simp
  case LINE_FLT_MASK i k =>
    have hk := k.isLt
    refine (congrArg unaddr (a₂ := 1048576 + 4096 * i.val + (772 + 8 * k.val)) (by simp only [Reg.addr]; omega)).trans ((unaddr_inBlock15 i.val (772 + 8 * k.val) i.isLt (by omega)).trans ?_)
    have e1 : (772 + 8 * k.val - 772) / 8 = k.val := by omega
    unfold inBlock15
    split <;> first | omega | skip
    rw [if_neg (by omega), e1]; simp
  case CH_CMD i => exact (congrArg unaddr (by simp only [Reg.addr]; omega)).trans ((unaddr_inBlock16 i 0 i.isLt (by omega)).trans (by simp [inBlock16]))
  case CH_CFG i => exact (congrArg unaddr (by simp only [Reg.addr]; omega)).trans ((unaddr_inBlock16 i 4 i.isLt (by omega)).trans (by simp [inBlock16]))
  case CH_SENSE i => exact (congrArg unaddr (by simp only [Reg.addr]; omega)).trans ((unaddr_inBlock16 i 8 i.isLt (by omega)).trans (by simp [inBlock16]))
  case CH_INRUSH i => exact (congrArg unaddr (by simp only [Reg.addr]; omega)).trans ((unaddr_inBlock16 i 12 i.isLt (by omega)).trans (by simp [inBlock16]))
  case CH_LIMIT i => exact (congrArg unaddr (by simp only [Reg.addr]; omega)).trans ((unaddr_inBlock16 i 16 i.isLt (by omega)).trans (by simp [inBlock16]))
  case CH_SUSP i => exact (congrArg unaddr (by simp only [Reg.addr]; omega)).trans ((unaddr_inBlock16 i 20 i.isLt (by omega)).trans (by simp [inBlock16]))
  case CH_CURVE i k =>
    have hk := k.isLt
    refine (congrArg unaddr (a₂ := 1572864 + 256 * i.val + (32 + 4 * k.val)) (by simp only [Reg.addr]; omega)).trans ((unaddr_inBlock16 i.val (32 + 4 * k.val) i.isLt (by omega)).trans ?_)
    have e1 : (32 + 4 * k.val - 32) / 4 = k.val := by omega
    unfold inBlock16
    split <;> first | omega | skip
    rw [e1]; simp
  case CH_STATUS i => exact (congrArg unaddr (by simp only [Reg.addr]; omega)).trans ((unaddr_inBlock16 i 64 i.isLt (by omega)).trans (by simp [inBlock16]))
  case CH_MEAS i => exact (congrArg unaddr (by simp only [Reg.addr]; omega)).trans ((unaddr_inBlock16 i 68 i.isLt (by omega)).trans (by simp [inBlock16]))
  case RAIL_CFG i => exact (congrArg unaddr (by simp only [Reg.addr]; omega)).trans ((unaddr_inBlock17 i 0 i.isLt (by omega)).trans (by simp [inBlock17]))
  case RAIL_BUDGET i => exact (congrArg unaddr (by simp only [Reg.addr]; omega)).trans ((unaddr_inBlock17 i 4 i.isLt (by omega)).trans (by simp [inBlock17]))
  case RAIL_STATUS i => exact (congrArg unaddr (by simp only [Reg.addr]; omega)).trans ((unaddr_inBlock17 i 8 i.isLt (by omega)).trans (by simp [inBlock17]))
  case RAIL_MEAS i => exact (congrArg unaddr (by simp only [Reg.addr]; omega)).trans ((unaddr_inBlock17 i 12 i.isLt (by omega)).trans (by simp [inBlock17]))

/-- No two registers share an address (R309). -/
theorem addr_inj {q r : Reg} (h : q.addr = r.addr) : q = r := by
  rw [← unaddr_addr q, h, unaddr_addr]

end Sys2Proof.Laws
end

