-- ==== Sys2Proof/Laws/Frame.lean ====
section
/-! SUPPORT. Frames and canonical forms: what each primitive of the state does to them. Each shared operation's lemma in the
files Frame*.lean says once which parts and registers it can change and that it keeps the canonical forms. -/

namespace Sys2Proof.Laws

open Sys2Proof.Machine

/-! ### The register file -/

theorem regGet_regSet_other (l : List (Reg × Word)) {r q : Reg} (v : Word) (h : q ≠ r) : regGet (regSet l r v) q = regGet l q := by
  have hne : r.addr ≠ q.addr := fun e => h (addr_inj e).symm
  induction l with
  | nil => unfold regSet; split <;> simp [regGet, hne]
  | cons p t ih =>
    unfold regSet
    split
    · simp only [regGet, ih]
    · split
      · next h2 =>
        have h3 : p.1.addr ≠ q.addr := h2 ▸ hne
        split <;> simp [regGet, hne, h3]
      · split <;> simp [regGet, hne]

/-- An entry of a canonical list, taken apart. -/
theorem regsOk_cons {q : Reg} {w : Word} {t : List (Reg × Word)} :
    regsOk ((q, w) :: t) = true ↔ w ≠ q.resetWord ∧ (∀ p ∈ t.head?, q.addr < p.1.addr) ∧ regsOk t = true := by
  cases t with
  | nil => simp [regsOk]
  | cons p t => obtain ⟨r, v⟩ := p; simp [regsOk, and_assoc]

theorem regSet_head (l : List (Reg × Word)) (r : Reg) (v : Word) (q : Reg) (hq : q.addr < r.addr)
    (h : ∀ p ∈ l.head?, q.addr < p.1.addr) (hl : regsOk l = true) : ∀ p ∈ (regSet l r v).head?, q.addr < p.1.addr := by
  cases l with
  | nil => unfold regSet; split <;> simp [hq]
  | cons p t =>
    obtain ⟨p, w⟩ := p
    have hp : q.addr < p.addr := h (p, w) (by simp)
    have ht : ∀ x ∈ t.head?, q.addr < x.1.addr := fun x hx => lt_trans hp ((regsOk_cons.1 hl).2.1 x hx)
    unfold regSet
    split
    · simp [hp]
    · split
      · split
        · exact ht
        · simp [hq]
      · split
        · simp [hp]
        · simp [hq]

/-- A register write keeps the canonical form. -/
theorem regsOk_regSet (l : List (Reg × Word)) (r : Reg) (v : Word) (h : regsOk l = true) : regsOk (regSet l r v) = true := by
  induction l with
  | nil => unfold regSet; split <;> simp_all [regsOk]
  | cons p t ih =>
    obtain ⟨q, w⟩ := p
    have hc := regsOk_cons.1 h
    unfold regSet
    split
    · next h1 => exact regsOk_cons.2 ⟨hc.1, regSet_head t r v q h1 hc.2.1 hc.2.2, ih hc.2.2⟩
    · split
      · next h2 =>
        split
        · exact hc.2.2
        · next h3 => exact regsOk_cons.2 ⟨h3, fun p hp => h2 ▸ hc.2.1 p hp, hc.2.2⟩
      · split
        · exact h
        · next h1 h2 h3 =>
          refine regsOk_cons.2 ⟨h3, ?_, h⟩
          intro p hp
          simp only [List.head?_cons, Option.mem_def, Option.some.injEq] at hp
          subst hp
          show r.addr < q.addr
          omega

theorem regGet_of_lt (l : List (Reg × Word)) (r : Reg) (h : ∀ p ∈ l.head?, r.addr < p.1.addr) (hl : regsOk l = true) :
    regGet l r = r.resetWord := by
  induction l with
  | nil => rfl
  | cons p t ih =>
    obtain ⟨q, w⟩ := p
    have hq : r.addr < q.addr := h (q, w) (by simp)
    have hc := regsOk_cons.1 hl
    rw [regGet, if_neg (by omega)]
    exact ih (fun x hx => lt_trans hq (hc.2.1 x hx)) hc.2.2

/-- A register reads as last written. -/
theorem regGet_regSet_same (l : List (Reg × Word)) (r : Reg) (v : Word) (h : regsOk l = true) :
    regGet (regSet l r v) r = v := by
  induction l with
  | nil => unfold regSet; split <;> simp_all [regGet]
  | cons p t ih =>
    obtain ⟨q, w⟩ := p
    have hc := regsOk_cons.1 h
    unfold regSet
    split
    · next h1 => rw [regGet, if_neg (by omega)]; exact ih hc.2.2
    · split
      · next h2 =>
        split
        · next h3 => rw [h3]; exact regGet_of_lt t r (fun p hp => h2 ▸ hc.2.1 p hp) hc.2.2
        · simp [regGet]
      · split
        · next h1 h2 h3 =>
          rw [h3, regGet, if_neg h2]
          exact regGet_of_lt t r (fun p hp => by have := hc.2.1 p hp; omega) hc.2.2
        · simp [regGet]

/-! ### The flash and the Bead -/

theorem flashOk_cons {a : Nat} {v : Byte} {t : List Host.Cell} :
    flashOk ((a, v) :: t) = true ↔ v ≠ flashErased ∧ (∀ p ∈ t.head?, a < p.1) ∧ flashOk t = true := by
  cases t with
  | nil => simp [flashOk]
  | cons p t => obtain ⟨b, u⟩ := p; simp [flashOk, and_assoc]

theorem flashSet_head (l : List Host.Cell) (a : Nat) (v : Byte) (j : Nat) (hj : j < a)
    (h : ∀ p ∈ l.head?, j < p.1) (hl : flashOk l = true) : ∀ p ∈ (flashSet l a v).head?, j < p.1 := by
  cases l with
  | nil => unfold flashSet; split <;> simp [hj]
  | cons p t =>
    obtain ⟨b, u⟩ := p
    have hb : j < b := h (b, u) (by simp)
    have ht : ∀ x ∈ t.head?, j < x.1 := fun x hx => lt_trans hb ((flashOk_cons.1 hl).2.1 x hx)
    unfold flashSet
    split
    · simp [hb]
    · split
      · split
        · exact ht
        · simp [hj]
      · split
        · simp [hb]
        · simp [hj]

/-- A flash byte write keeps the canonical form. -/
theorem flashOk_flashSet (l : List Host.Cell) (a : Nat) (v : Byte) (h : flashOk l = true) : flashOk (flashSet l a v) = true := by
  induction l with
  | nil => unfold flashSet; split <;> simp_all [flashOk]
  | cons p t ih =>
    obtain ⟨b, u⟩ := p
    have hc := flashOk_cons.1 h
    unfold flashSet
    split
    · next h1 => exact flashOk_cons.2 ⟨hc.1, flashSet_head t a v b h1 hc.2.1 hc.2.2, ih hc.2.2⟩
    · split
      · next h2 =>
        split
        · exact hc.2.2
        · next h3 => exact flashOk_cons.2 ⟨h3, fun p hp => h2 ▸ hc.2.1 p hp, hc.2.2⟩
      · split
        · exact h
        · next h1 h2 h3 =>
          refine flashOk_cons.2 ⟨h3, ?_, h⟩
          intro p hp
          simp only [List.head?_cons, Option.mem_def, Option.some.injEq] at hp
          subst hp
          show a < b
          omega

theorem flashOk_flashProgram (b : List Byte) : ∀ (f : List Host.Cell) (a : Nat), flashOk f = true → flashOk (flashProgram f a b) = true := by
  induction b with
  | nil => intro f a h; exact h
  | cons x t ih => intro f a h; exact ih _ _ (flashOk_flashSet _ _ _ h)

theorem flashOk_flashPut (b : List Byte) : ∀ (f : List Host.Cell) (a : Nat), flashOk f = true → flashOk (flashPut f a b) = true := by
  induction b with
  | nil => intro f a h; exact h
  | cons x t ih => intro f a h; exact ih _ _ (flashOk_flashSet _ _ _ h)

/-- The first of a filtered canonical list lies no lower than the first of the list. -/
theorem flash_filter_head (p : Host.Cell → Bool) (j : Nat) : ∀ t : List Host.Cell, flashOk t = true →
    (∀ x ∈ t.head?, j < x.1) → ∀ x ∈ (t.filter p).head?, j < x.1 := by
  intro t
  induction t with
  | nil => intro _ _ x hx; simp at hx
  | cons y t ih =>
    obtain ⟨b, u⟩ := y
    intro hl h x hx
    have hb : j < b := h (b, u) (by simp)
    rw [List.filter_cons] at hx
    split at hx
    · simp at hx; subst hx; exact hb
    · exact ih (flashOk_cons.1 hl).2.2 (fun z hz => lt_trans hb ((flashOk_cons.1 hl).2.1 z hz)) x hx

theorem flashOk_filter (p : Host.Cell → Bool) : ∀ t : List Host.Cell, flashOk t = true → flashOk (t.filter p) = true := by
  intro t
  induction t with
  | nil => intro h; exact h
  | cons y t ih =>
    obtain ⟨b, u⟩ := y
    intro h
    have hc := flashOk_cons.1 h
    rw [List.filter_cons]
    split
    · exact flashOk_cons.2 ⟨hc.1, flash_filter_head p b t hc.2.2 hc.2.1, ih hc.2.2⟩
    · exact ih hc.2.2

theorem flashOk_flashErase (f : List Host.Cell) (a : Nat) (h : flashOk f = true) : flashOk (flashErase f a) = true :=
  flashOk_filter _ f h

theorem blocksOk_cons {a : Nat} {v : BitVec 256} {t : List (Nat × BitVec 256)} :
    blocksOk ((a, v) :: t) = true ↔ v ≠ 0 ∧ (∀ p ∈ t.head?, a < p.1) ∧ blocksOk t = true := by
  cases t with
  | nil => simp [blocksOk]
  | cons p t => obtain ⟨b, u⟩ := p; simp [blocksOk, and_assoc]

theorem insertNat_head (l : List (Nat × BitVec 256)) (a : Nat) (v : BitVec 256) (j : Nat) (hj : j < a)
    (h : ∀ p ∈ l.head?, j < p.1) : ∀ p ∈ (insertNat l a v).head?, j < p.1 := by
  cases l with
  | nil => simp [insertNat, hj]
  | cons p t =>
    obtain ⟨b, u⟩ := p
    have hb : j < b := h (b, u) (by simp)
    unfold insertNat
    split
    · simp [hb]
    · split <;> simp [hj]

theorem blocksOk_insertNat (l : List (Nat × BitVec 256)) (a : Nat) (v : BitVec 256) (hv : v ≠ 0) (h : blocksOk l = true) :
    blocksOk (insertNat l a v) = true := by
  induction l with
  | nil => simpa [insertNat, blocksOk] using hv
  | cons p t ih =>
    obtain ⟨b, u⟩ := p
    have hc := blocksOk_cons.1 h
    unfold insertNat
    split
    · next h1 => exact blocksOk_cons.2 ⟨hc.1, insertNat_head t a v b h1 hc.2.1, ih hc.2.2⟩
    · split
      · next h2 => exact blocksOk_cons.2 ⟨hv, fun p hp => h2 ▸ hc.2.1 p hp, hc.2.2⟩
      · next h1 h2 =>
        refine blocksOk_cons.2 ⟨hv, ?_, h⟩
        intro p hp
        simp only [List.head?_cons, Option.mem_def, Option.some.injEq] at hp
        subst hp
        show a < b
        omega

theorem blocks_filter_head (p : Nat × BitVec 256 → Bool) (j : Nat) : ∀ t : List (Nat × BitVec 256), blocksOk t = true →
    (∀ x ∈ t.head?, j < x.1) → ∀ x ∈ (t.filter p).head?, j < x.1 := by
  intro t
  induction t with
  | nil => intro _ _ x hx; simp at hx
  | cons y t ih =>
    obtain ⟨b, u⟩ := y
    intro hl h x hx
    have hb : j < b := h (b, u) (by simp)
    rw [List.filter_cons] at hx
    split at hx
    · simp at hx; subst hx; exact hb
    · exact ih (blocksOk_cons.1 hl).2.2 (fun z hz => lt_trans hb ((blocksOk_cons.1 hl).2.1 z hz)) x hx

theorem blocksOk_filter (p : Nat × BitVec 256 → Bool) : ∀ t : List (Nat × BitVec 256), blocksOk t = true →
    blocksOk (t.filter p) = true := by
  intro t
  induction t with
  | nil => intro h; exact h
  | cons y t ih =>
    obtain ⟨b, u⟩ := y
    intro h
    have hc := blocksOk_cons.1 h
    rw [List.filter_cons]
    split
    · exact blocksOk_cons.2 ⟨hc.1, blocks_filter_head p b t hc.2.2 hc.2.1, ih hc.2.2⟩
    · exact ih hc.2.2

/-- A Bead commit keeps the canonical form. -/
theorem blocksOk_putBlock (b : BeadSt) (i : Nat) (v : BitVec 256) (h : blocksOk b.blocks = true) :
    blocksOk (b.putBlock i v).blocks = true := by
  unfold BeadSt.putBlock
  simp only
  split
  · exact blocksOk_filter _ _ h
  · next hv => exact blocksOk_insertNat _ _ _ hv h

/-! ### Frames -/

/-- From `a` to `b` only what the frame names may change, and the canonical forms are kept. -/
structure Fr (f : Frame) (a b : Chip) : Prop where
  kept : Kept f a b
  canon : Canon a → Canon b

theorem Fr.refl (f : Frame) (a : Chip) : Fr f a a :=
  ⟨by constructor <;> intros <;> first | rfl | exact ⟨rfl, rfl, rfl⟩, id⟩

theorem Fr.clk {f : Frame} {a c : Chip} (h : Fr f a c) (hp : Part.clk ∈ f.parts) (v : Clk) :
    Fr f a { c with clk := v } :=
  ⟨⟨h.kept.regs, (fun n => absurd hp n), h.kept.fl, h.kept.fw, h.kept.flash, h.kept.trunk, h.kept.doors, h.kept.reqs, h.kept.cullet, h.kept.culletLost, h.kept.nextOrd, h.kept.rates, h.kept.svcPort, h.kept.pond, h.kept.engines, h.kept.basins, h.kept.ports, h.kept.chans, h.kept.rails, h.kept.sei, h.kept.svc, h.kept.pwr, h.kept.bead, h.kept.blocks, h.kept.locked, h.kept.fab, h.kept.ladders, h.kept.freeCtr⟩, fun x => ⟨(h.canon x).regs, (h.canon x).flash, (h.canon x).blocks⟩⟩

theorem Fr.fl {f : Frame} {a c : Chip} (h : Fr f a c) (hp : Part.fl ∈ f.parts) (v : Vector FLink 2) :
    Fr f a { c with fl := v } :=
  ⟨⟨h.kept.regs, h.kept.clk, (fun n => absurd hp n), h.kept.fw, h.kept.flash, h.kept.trunk, h.kept.doors, h.kept.reqs, h.kept.cullet, h.kept.culletLost, h.kept.nextOrd, h.kept.rates, h.kept.svcPort, h.kept.pond, h.kept.engines, h.kept.basins, h.kept.ports, h.kept.chans, h.kept.rails, h.kept.sei, h.kept.svc, h.kept.pwr, h.kept.bead, h.kept.blocks, h.kept.locked, h.kept.fab, h.kept.ladders, h.kept.freeCtr⟩, fun x => ⟨(h.canon x).regs, (h.canon x).flash, (h.canon x).blocks⟩⟩

theorem Fr.fw {f : Frame} {a c : Chip} (h : Fr f a c) (hp : Part.fw ∈ f.parts) (v : Fw) (hv : v.flash = c.fw.flash) :
    Fr f a { c with fw := v } :=
  ⟨⟨h.kept.regs, h.kept.clk, h.kept.fl, (fun n => absurd hp n), (fun n => hv.trans (h.kept.flash n)), h.kept.trunk, h.kept.doors, h.kept.reqs, h.kept.cullet, h.kept.culletLost, h.kept.nextOrd, h.kept.rates, h.kept.svcPort, h.kept.pond, h.kept.engines, h.kept.basins, h.kept.ports, h.kept.chans, h.kept.rails, h.kept.sei, h.kept.svc, h.kept.pwr, h.kept.bead, h.kept.blocks, h.kept.locked, h.kept.fab, h.kept.ladders, h.kept.freeCtr⟩, fun x => ⟨(h.canon x).regs, hv ▸ (h.canon x).flash, (h.canon x).blocks⟩⟩

theorem Fr.fwFlash {f : Frame} {a c : Chip} (h : Fr f a c) (hp : Part.fw ∈ f.parts) (v : Fw) (hq : Part.flash ∈ f.parts) (hv : flashOk c.fw.flash = true → flashOk v.flash = true) :
    Fr f a { c with fw := v } :=
  ⟨⟨h.kept.regs, h.kept.clk, h.kept.fl, (fun n => absurd hp n), (fun n => absurd hq n), h.kept.trunk, h.kept.doors, h.kept.reqs, h.kept.cullet, h.kept.culletLost, h.kept.nextOrd, h.kept.rates, h.kept.svcPort, h.kept.pond, h.kept.engines, h.kept.basins, h.kept.ports, h.kept.chans, h.kept.rails, h.kept.sei, h.kept.svc, h.kept.pwr, h.kept.bead, h.kept.blocks, h.kept.locked, h.kept.fab, h.kept.ladders, h.kept.freeCtr⟩, fun x => ⟨(h.canon x).regs, hv (h.canon x).flash, (h.canon x).blocks⟩⟩

theorem Fr.trunk {f : Frame} {a c : Chip} (h : Fr f a c) (hp : Part.trunk ∈ f.parts) (v : Trunk) :
    Fr f a { c with trunk := v } :=
  ⟨⟨h.kept.regs, h.kept.clk, h.kept.fl, h.kept.fw, h.kept.flash, (fun n => absurd hp n), h.kept.doors, h.kept.reqs, h.kept.cullet, h.kept.culletLost, h.kept.nextOrd, h.kept.rates, h.kept.svcPort, h.kept.pond, h.kept.engines, h.kept.basins, h.kept.ports, h.kept.chans, h.kept.rails, h.kept.sei, h.kept.svc, h.kept.pwr, h.kept.bead, h.kept.blocks, h.kept.locked, h.kept.fab, h.kept.ladders, h.kept.freeCtr⟩, fun x => ⟨(h.canon x).regs, (h.canon x).flash, (h.canon x).blocks⟩⟩

theorem Fr.doors {f : Frame} {a c : Chip} (h : Fr f a c) (hp : Part.doors ∈ f.parts) (v : Vector DoorSt 8) (hv : ∀ d : Door, (v[d]).reqs = (c.doors[d]).reqs ∧ (v[d]).path = (c.doors[d]).path ∧
      (v[d]).releasing = (c.doors[d]).releasing) :
    Fr f a { c with doors := v } :=
  ⟨⟨h.kept.regs, h.kept.clk, h.kept.fl, h.kept.fw, h.kept.flash, h.kept.trunk, (fun n => absurd hp n), (fun n d => ⟨(hv d).1.trans (h.kept.reqs n d).1, (hv d).2.1.trans (h.kept.reqs n d).2.1, (hv d).2.2.trans (h.kept.reqs n d).2.2⟩), h.kept.cullet, h.kept.culletLost, h.kept.nextOrd, h.kept.rates, h.kept.svcPort, h.kept.pond, h.kept.engines, h.kept.basins, h.kept.ports, h.kept.chans, h.kept.rails, h.kept.sei, h.kept.svc, h.kept.pwr, h.kept.bead, h.kept.blocks, h.kept.locked, h.kept.fab, h.kept.ladders, h.kept.freeCtr⟩, fun x => ⟨(h.canon x).regs, (h.canon x).flash, (h.canon x).blocks⟩⟩

theorem Fr.doorsReqs {f : Frame} {a c : Chip} (h : Fr f a c) (hp : Part.doors ∈ f.parts) (v : Vector DoorSt 8) (hq : Part.reqs ∈ f.parts) :
    Fr f a { c with doors := v } :=
  ⟨⟨h.kept.regs, h.kept.clk, h.kept.fl, h.kept.fw, h.kept.flash, h.kept.trunk, (fun n => absurd hp n), (fun n => absurd hq n), h.kept.cullet, h.kept.culletLost, h.kept.nextOrd, h.kept.rates, h.kept.svcPort, h.kept.pond, h.kept.engines, h.kept.basins, h.kept.ports, h.kept.chans, h.kept.rails, h.kept.sei, h.kept.svc, h.kept.pwr, h.kept.bead, h.kept.blocks, h.kept.locked, h.kept.fab, h.kept.ladders, h.kept.freeCtr⟩, fun x => ⟨(h.canon x).regs, (h.canon x).flash, (h.canon x).blocks⟩⟩

theorem Fr.cullet {f : Frame} {a c : Chip} (h : Fr f a c) (hp : Part.cullet ∈ f.parts) (v : List Cullet) :
    Fr f a { c with cullet := v } :=
  ⟨⟨h.kept.regs, h.kept.clk, h.kept.fl, h.kept.fw, h.kept.flash, h.kept.trunk, h.kept.doors, h.kept.reqs, (fun n => absurd hp n), h.kept.culletLost, h.kept.nextOrd, h.kept.rates, h.kept.svcPort, h.kept.pond, h.kept.engines, h.kept.basins, h.kept.ports, h.kept.chans, h.kept.rails, h.kept.sei, h.kept.svc, h.kept.pwr, h.kept.bead, h.kept.blocks, h.kept.locked, h.kept.fab, h.kept.ladders, h.kept.freeCtr⟩, fun x => ⟨(h.canon x).regs, (h.canon x).flash, (h.canon x).blocks⟩⟩

theorem Fr.culletLost {f : Frame} {a c : Chip} (h : Fr f a c) (hp : Part.cullet ∈ f.parts) (v : Nat) :
    Fr f a { c with culletLost := v } :=
  ⟨⟨h.kept.regs, h.kept.clk, h.kept.fl, h.kept.fw, h.kept.flash, h.kept.trunk, h.kept.doors, h.kept.reqs, h.kept.cullet, (fun n => absurd hp n), h.kept.nextOrd, h.kept.rates, h.kept.svcPort, h.kept.pond, h.kept.engines, h.kept.basins, h.kept.ports, h.kept.chans, h.kept.rails, h.kept.sei, h.kept.svc, h.kept.pwr, h.kept.bead, h.kept.blocks, h.kept.locked, h.kept.fab, h.kept.ladders, h.kept.freeCtr⟩, fun x => ⟨(h.canon x).regs, (h.canon x).flash, (h.canon x).blocks⟩⟩

theorem Fr.nextOrd {f : Frame} {a c : Chip} (h : Fr f a c) (hp : Part.ords ∈ f.parts) (v : Nat) :
    Fr f a { c with nextOrd := v } :=
  ⟨⟨h.kept.regs, h.kept.clk, h.kept.fl, h.kept.fw, h.kept.flash, h.kept.trunk, h.kept.doors, h.kept.reqs, h.kept.cullet, h.kept.culletLost, (fun n => absurd hp n), h.kept.rates, h.kept.svcPort, h.kept.pond, h.kept.engines, h.kept.basins, h.kept.ports, h.kept.chans, h.kept.rails, h.kept.sei, h.kept.svc, h.kept.pwr, h.kept.bead, h.kept.blocks, h.kept.locked, h.kept.fab, h.kept.ladders, h.kept.freeCtr⟩, fun x => ⟨(h.canon x).regs, (h.canon x).flash, (h.canon x).blocks⟩⟩

theorem Fr.rates {f : Frame} {a c : Chip} (h : Fr f a c) (hp : Part.rates ∈ f.parts) (v : List RateWin) :
    Fr f a { c with rates := v } :=
  ⟨⟨h.kept.regs, h.kept.clk, h.kept.fl, h.kept.fw, h.kept.flash, h.kept.trunk, h.kept.doors, h.kept.reqs, h.kept.cullet, h.kept.culletLost, h.kept.nextOrd, (fun n => absurd hp n), h.kept.svcPort, h.kept.pond, h.kept.engines, h.kept.basins, h.kept.ports, h.kept.chans, h.kept.rails, h.kept.sei, h.kept.svc, h.kept.pwr, h.kept.bead, h.kept.blocks, h.kept.locked, h.kept.fab, h.kept.ladders, h.kept.freeCtr⟩, fun x => ⟨(h.canon x).regs, (h.canon x).flash, (h.canon x).blocks⟩⟩

theorem Fr.svcPort {f : Frame} {a c : Chip} (h : Fr f a c) (hp : Part.svcPort ∈ f.parts) (v : SvcPort) :
    Fr f a { c with svcPort := v } :=
  ⟨⟨h.kept.regs, h.kept.clk, h.kept.fl, h.kept.fw, h.kept.flash, h.kept.trunk, h.kept.doors, h.kept.reqs, h.kept.cullet, h.kept.culletLost, h.kept.nextOrd, h.kept.rates, (fun n => absurd hp n), h.kept.pond, h.kept.engines, h.kept.basins, h.kept.ports, h.kept.chans, h.kept.rails, h.kept.sei, h.kept.svc, h.kept.pwr, h.kept.bead, h.kept.blocks, h.kept.locked, h.kept.fab, h.kept.ladders, h.kept.freeCtr⟩, fun x => ⟨(h.canon x).regs, (h.canon x).flash, (h.canon x).blocks⟩⟩

theorem Fr.pond {f : Frame} {a c : Chip} (h : Fr f a c) (hp : Part.pond ∈ f.parts) (v : Pond) :
    Fr f a { c with pond := v } :=
  ⟨⟨h.kept.regs, h.kept.clk, h.kept.fl, h.kept.fw, h.kept.flash, h.kept.trunk, h.kept.doors, h.kept.reqs, h.kept.cullet, h.kept.culletLost, h.kept.nextOrd, h.kept.rates, h.kept.svcPort, (fun n => absurd hp n), h.kept.engines, h.kept.basins, h.kept.ports, h.kept.chans, h.kept.rails, h.kept.sei, h.kept.svc, h.kept.pwr, h.kept.bead, h.kept.blocks, h.kept.locked, h.kept.fab, h.kept.ladders, h.kept.freeCtr⟩, fun x => ⟨(h.canon x).regs, (h.canon x).flash, (h.canon x).blocks⟩⟩

theorem Fr.engines {f : Frame} {a c : Chip} (h : Fr f a c) (hp : Part.engines ∈ f.parts) (v : Vector EngineSt 512) :
    Fr f a { c with engines := v } :=
  ⟨⟨h.kept.regs, h.kept.clk, h.kept.fl, h.kept.fw, h.kept.flash, h.kept.trunk, h.kept.doors, h.kept.reqs, h.kept.cullet, h.kept.culletLost, h.kept.nextOrd, h.kept.rates, h.kept.svcPort, h.kept.pond, (fun n => absurd hp n), h.kept.basins, h.kept.ports, h.kept.chans, h.kept.rails, h.kept.sei, h.kept.svc, h.kept.pwr, h.kept.bead, h.kept.blocks, h.kept.locked, h.kept.fab, h.kept.ladders, h.kept.freeCtr⟩, fun x => ⟨(h.canon x).regs, (h.canon x).flash, (h.canon x).blocks⟩⟩

theorem Fr.basins {f : Frame} {a c : Chip} (h : Fr f a c) (hp : Part.basins ∈ f.parts) (v : Vector BasinSt 16) :
    Fr f a { c with basins := v } :=
  ⟨⟨h.kept.regs, h.kept.clk, h.kept.fl, h.kept.fw, h.kept.flash, h.kept.trunk, h.kept.doors, h.kept.reqs, h.kept.cullet, h.kept.culletLost, h.kept.nextOrd, h.kept.rates, h.kept.svcPort, h.kept.pond, h.kept.engines, (fun n => absurd hp n), h.kept.ports, h.kept.chans, h.kept.rails, h.kept.sei, h.kept.svc, h.kept.pwr, h.kept.bead, h.kept.blocks, h.kept.locked, h.kept.fab, h.kept.ladders, h.kept.freeCtr⟩, fun x => ⟨(h.canon x).regs, (h.canon x).flash, (h.canon x).blocks⟩⟩

theorem Fr.ports {f : Frame} {a c : Chip} (h : Fr f a c) (hp : Part.ports ∈ f.parts) (v : Vector PortSt 96) :
    Fr f a { c with ports := v } :=
  ⟨⟨h.kept.regs, h.kept.clk, h.kept.fl, h.kept.fw, h.kept.flash, h.kept.trunk, h.kept.doors, h.kept.reqs, h.kept.cullet, h.kept.culletLost, h.kept.nextOrd, h.kept.rates, h.kept.svcPort, h.kept.pond, h.kept.engines, h.kept.basins, (fun n => absurd hp n), h.kept.chans, h.kept.rails, h.kept.sei, h.kept.svc, h.kept.pwr, h.kept.bead, h.kept.blocks, h.kept.locked, h.kept.fab, h.kept.ladders, h.kept.freeCtr⟩, fun x => ⟨(h.canon x).regs, (h.canon x).flash, (h.canon x).blocks⟩⟩

theorem Fr.chans {f : Frame} {a c : Chip} (h : Fr f a c) (hp : Part.chans ∈ f.parts) (v : Vector Chan 96) :
    Fr f a { c with chans := v } :=
  ⟨⟨h.kept.regs, h.kept.clk, h.kept.fl, h.kept.fw, h.kept.flash, h.kept.trunk, h.kept.doors, h.kept.reqs, h.kept.cullet, h.kept.culletLost, h.kept.nextOrd, h.kept.rates, h.kept.svcPort, h.kept.pond, h.kept.engines, h.kept.basins, h.kept.ports, (fun n => absurd hp n), h.kept.rails, h.kept.sei, h.kept.svc, h.kept.pwr, h.kept.bead, h.kept.blocks, h.kept.locked, h.kept.fab, h.kept.ladders, h.kept.freeCtr⟩, fun x => ⟨(h.canon x).regs, (h.canon x).flash, (h.canon x).blocks⟩⟩

theorem Fr.rails {f : Frame} {a c : Chip} (h : Fr f a c) (hp : Part.rails ∈ f.parts) (v : Vector Rail 8) :
    Fr f a { c with rails := v } :=
  ⟨⟨h.kept.regs, h.kept.clk, h.kept.fl, h.kept.fw, h.kept.flash, h.kept.trunk, h.kept.doors, h.kept.reqs, h.kept.cullet, h.kept.culletLost, h.kept.nextOrd, h.kept.rates, h.kept.svcPort, h.kept.pond, h.kept.engines, h.kept.basins, h.kept.ports, h.kept.chans, (fun n => absurd hp n), h.kept.sei, h.kept.svc, h.kept.pwr, h.kept.bead, h.kept.blocks, h.kept.locked, h.kept.fab, h.kept.ladders, h.kept.freeCtr⟩, fun x => ⟨(h.canon x).regs, (h.canon x).flash, (h.canon x).blocks⟩⟩

theorem Fr.sei {f : Frame} {a c : Chip} (h : Fr f a c) (hp : Part.sei ∈ f.parts) (v : Seiche) :
    Fr f a { c with sei := v } :=
  ⟨⟨h.kept.regs, h.kept.clk, h.kept.fl, h.kept.fw, h.kept.flash, h.kept.trunk, h.kept.doors, h.kept.reqs, h.kept.cullet, h.kept.culletLost, h.kept.nextOrd, h.kept.rates, h.kept.svcPort, h.kept.pond, h.kept.engines, h.kept.basins, h.kept.ports, h.kept.chans, h.kept.rails, (fun n => absurd hp n), h.kept.svc, h.kept.pwr, h.kept.bead, h.kept.blocks, h.kept.locked, h.kept.fab, h.kept.ladders, h.kept.freeCtr⟩, fun x => ⟨(h.canon x).regs, (h.canon x).flash, (h.canon x).blocks⟩⟩

theorem Fr.svc {f : Frame} {a c : Chip} (h : Fr f a c) (hp : Part.svc ∈ f.parts) (v : SvcState) :
    Fr f a { c with svc := v } :=
  ⟨⟨h.kept.regs, h.kept.clk, h.kept.fl, h.kept.fw, h.kept.flash, h.kept.trunk, h.kept.doors, h.kept.reqs, h.kept.cullet, h.kept.culletLost, h.kept.nextOrd, h.kept.rates, h.kept.svcPort, h.kept.pond, h.kept.engines, h.kept.basins, h.kept.ports, h.kept.chans, h.kept.rails, h.kept.sei, (fun n => absurd hp n), h.kept.pwr, h.kept.bead, h.kept.blocks, h.kept.locked, h.kept.fab, h.kept.ladders, h.kept.freeCtr⟩, fun x => ⟨(h.canon x).regs, (h.canon x).flash, (h.canon x).blocks⟩⟩

theorem Fr.pwr {f : Frame} {a c : Chip} (h : Fr f a c) (hp : Part.pwr ∈ f.parts) (v : Pwr) :
    Fr f a { c with pwr := v } :=
  ⟨⟨h.kept.regs, h.kept.clk, h.kept.fl, h.kept.fw, h.kept.flash, h.kept.trunk, h.kept.doors, h.kept.reqs, h.kept.cullet, h.kept.culletLost, h.kept.nextOrd, h.kept.rates, h.kept.svcPort, h.kept.pond, h.kept.engines, h.kept.basins, h.kept.ports, h.kept.chans, h.kept.rails, h.kept.sei, h.kept.svc, (fun n => absurd hp n), h.kept.bead, h.kept.blocks, h.kept.locked, h.kept.fab, h.kept.ladders, h.kept.freeCtr⟩, fun x => ⟨(h.canon x).regs, (h.canon x).flash, (h.canon x).blocks⟩⟩

theorem Fr.bead {f : Frame} {a c : Chip} (h : Fr f a c) (hp : Part.bead ∈ f.parts) (v : BeadSt) (hv : v.blocks = c.bead.blocks ∧ v.locked = c.bead.locked) :
    Fr f a { c with bead := v } :=
  ⟨⟨h.kept.regs, h.kept.clk, h.kept.fl, h.kept.fw, h.kept.flash, h.kept.trunk, h.kept.doors, h.kept.reqs, h.kept.cullet, h.kept.culletLost, h.kept.nextOrd, h.kept.rates, h.kept.svcPort, h.kept.pond, h.kept.engines, h.kept.basins, h.kept.ports, h.kept.chans, h.kept.rails, h.kept.sei, h.kept.svc, h.kept.pwr, (fun n => absurd hp n), (fun n => hv.1.trans (h.kept.blocks n)), (fun n => hv.2.trans (h.kept.locked n)), h.kept.fab, h.kept.ladders, h.kept.freeCtr⟩, fun x => ⟨(h.canon x).regs, (h.canon x).flash, hv.1 ▸ (h.canon x).blocks⟩⟩

theorem Fr.beadBlocks {f : Frame} {a c : Chip} (h : Fr f a c) (hp : Part.bead ∈ f.parts) (v : BeadSt) (hq : Part.blocks ∈ f.parts) (hl : v.locked = c.bead.locked)
    (hv : blocksOk c.bead.blocks = true → blocksOk v.blocks = true) :
    Fr f a { c with bead := v } :=
  ⟨⟨h.kept.regs, h.kept.clk, h.kept.fl, h.kept.fw, h.kept.flash, h.kept.trunk, h.kept.doors, h.kept.reqs, h.kept.cullet, h.kept.culletLost, h.kept.nextOrd, h.kept.rates, h.kept.svcPort, h.kept.pond, h.kept.engines, h.kept.basins, h.kept.ports, h.kept.chans, h.kept.rails, h.kept.sei, h.kept.svc, h.kept.pwr, (fun n => absurd hp n), (fun n => absurd hq n), (fun n => hl.trans (h.kept.locked n)), h.kept.fab, h.kept.ladders, h.kept.freeCtr⟩, fun x => ⟨(h.canon x).regs, (h.canon x).flash, hv (h.canon x).blocks⟩⟩

theorem Fr.beadLocked {f : Frame} {a c : Chip} (h : Fr f a c) (hp : Part.bead ∈ f.parts) (v : BeadSt) (hq : Part.locked ∈ f.parts) (hl : v.blocks = c.bead.blocks) :
    Fr f a { c with bead := v } :=
  ⟨⟨h.kept.regs, h.kept.clk, h.kept.fl, h.kept.fw, h.kept.flash, h.kept.trunk, h.kept.doors, h.kept.reqs, h.kept.cullet, h.kept.culletLost, h.kept.nextOrd, h.kept.rates, h.kept.svcPort, h.kept.pond, h.kept.engines, h.kept.basins, h.kept.ports, h.kept.chans, h.kept.rails, h.kept.sei, h.kept.svc, h.kept.pwr, (fun n => absurd hp n), (fun n => hl.trans (h.kept.blocks n)), (fun n => absurd hq n), h.kept.fab, h.kept.ladders, h.kept.freeCtr⟩, fun x => ⟨(h.canon x).regs, (h.canon x).flash, hl ▸ (h.canon x).blocks⟩⟩

theorem Fr.fab {f : Frame} {a c : Chip} (h : Fr f a c) (hp : Part.fab ∈ f.parts) (v : Fabric) :
    Fr f a { c with fab := v } :=
  ⟨⟨h.kept.regs, h.kept.clk, h.kept.fl, h.kept.fw, h.kept.flash, h.kept.trunk, h.kept.doors, h.kept.reqs, h.kept.cullet, h.kept.culletLost, h.kept.nextOrd, h.kept.rates, h.kept.svcPort, h.kept.pond, h.kept.engines, h.kept.basins, h.kept.ports, h.kept.chans, h.kept.rails, h.kept.sei, h.kept.svc, h.kept.pwr, h.kept.bead, h.kept.blocks, h.kept.locked, (fun n => absurd hp n), h.kept.ladders, h.kept.freeCtr⟩, fun x => ⟨(h.canon x).regs, (h.canon x).flash, (h.canon x).blocks⟩⟩

theorem Fr.ladders {f : Frame} {a c : Chip} (h : Fr f a c) (hp : Part.ladders ∈ f.parts) (v : List LadderWin) :
    Fr f a { c with ladders := v } :=
  ⟨⟨h.kept.regs, h.kept.clk, h.kept.fl, h.kept.fw, h.kept.flash, h.kept.trunk, h.kept.doors, h.kept.reqs, h.kept.cullet, h.kept.culletLost, h.kept.nextOrd, h.kept.rates, h.kept.svcPort, h.kept.pond, h.kept.engines, h.kept.basins, h.kept.ports, h.kept.chans, h.kept.rails, h.kept.sei, h.kept.svc, h.kept.pwr, h.kept.bead, h.kept.blocks, h.kept.locked, h.kept.fab, (fun n => absurd hp n), h.kept.freeCtr⟩, fun x => ⟨(h.canon x).regs, (h.canon x).flash, (h.canon x).blocks⟩⟩

theorem Fr.freeCtr {f : Frame} {a c : Chip} (h : Fr f a c) (hp : Part.free ∈ f.parts) (v : Nat) :
    Fr f a { c with freeCtr := v } :=
  ⟨⟨h.kept.regs, h.kept.clk, h.kept.fl, h.kept.fw, h.kept.flash, h.kept.trunk, h.kept.doors, h.kept.reqs, h.kept.cullet, h.kept.culletLost, h.kept.nextOrd, h.kept.rates, h.kept.svcPort, h.kept.pond, h.kept.engines, h.kept.basins, h.kept.ports, h.kept.chans, h.kept.rails, h.kept.sei, h.kept.svc, h.kept.pwr, h.kept.bead, h.kept.blocks, h.kept.locked, h.kept.fab, h.kept.ladders, (fun n => absurd hp n)⟩, fun x => ⟨(h.canon x).regs, (h.canon x).flash, (h.canon x).blocks⟩⟩

theorem Fr.wr {f : Frame} {a c : Chip} (h : Fr f a c) {r : Reg} (hr : f.regs r = true) (v : Word) : Fr f a (c.wr r v) := by
  refine ⟨⟨?_, h.kept.clk, h.kept.fl, h.kept.fw, h.kept.flash, h.kept.trunk, h.kept.doors, h.kept.reqs, h.kept.cullet, h.kept.culletLost, h.kept.nextOrd, h.kept.rates, h.kept.svcPort, h.kept.pond, h.kept.engines, h.kept.basins, h.kept.ports, h.kept.chans, h.kept.rails, h.kept.sei, h.kept.svc, h.kept.pwr, h.kept.bead, h.kept.blocks, h.kept.locked, h.kept.fab, h.kept.ladders, h.kept.freeCtr⟩, fun x => ⟨regsOk_regSet _ _ _ (h.canon x).regs, (h.canon x).flash, (h.canon x).blocks⟩⟩
  intro q hq
  have hne : q ≠ r := fun e => by rw [e, hr] at hq; exact absurd hq (by decide)
  exact (regGet_regSet_other c.regs v hne).trans (h.kept.regs q hq)

/-- A loop keeps a frame that its body keeps. -/
theorem Fr.each {f : Frame} {a c : Chip} (h : Fr f a c) {α : Type} {l : List α} {g : Chip → α → Chip}
    (hg : ∀ c x, Fr f a c → Fr f a (g c x)) : Fr f a (c.each l g) := by
  unfold Chip.each
  induction l generalizing c with
  | nil => exact h
  | cons x t ih => exact ih (hg c x h)

theorem Fr.when {f : Frame} {a c : Chip} (h : Fr f a c) {b : Bool} {g : Chip → Chip} (hg : ∀ c, Fr f a c → Fr f a (g c)) :
    Fr f a (c.when b g) := by
  unfold Chip.when
  split
  · exact hg c h
  · exact h

theorem Fr.foldPair {f : Frame} {a : Chip} {α β : Type} {g : α × Chip → β → α × Chip} {l : List β} {r : α × Chip}
    (h : Fr f a r.2) (hg : ∀ r x, Fr f a r.2 → Fr f a (g r x).2) : Fr f a (l.foldl g r).2 := by
  induction l generalizing r with
  | nil => exact h
  | cons x t ih => exact ih (hg r x h)

theorem Fr.ofIte {f : Frame} {a c1 c2 : Chip} {α : Type} {p : Prop} [Decidable p] {v w : α} {g : α × Chip}
    (e : (if p then (v, c1) else g) = (w, c2)) (h1 : Fr f a c1) (h2 : ∀ u d, g = (u, d) → Fr f a d) : Fr f a c2 := by
  split at e
  · rw [Prod.mk.injEq] at e
    exact e.2 ▸ h1
  · exact h2 _ _ e

theorem Fr.draw {f : Frame} {a c : Chip} (h : Fr f a c) (hp : Part.free ∈ f.parts) : Fr f a c.draw.2 := h.freeCtr hp _

end Sys2Proof.Laws
end

