-- ==== Sys2Proof/Laws/FrameOps.lean ====
section
/-! SUPPORT. What the shared operations of Machine/Flags, Ops, Cross, Norm, PondOps, Accept, CtxBytes, StreamOps can change (frames), and that they keep the canonical
forms. -/

set_option linter.all false

namespace Sys2Proof.Laws

open Sys2Proof.Machine

/-! ### Machine/Flags.lean -/


theorem Chip.setF_fr {f : Frame} {a c : Chip} {r} {f_} {v_} (h : Fr f a c) (hr : f.regs r = true) :
    Fr f a (Chip.setF c r f_ v_) := by
  unfold Chip.setF
  repeat' first
    | with_reducible assumption
    | exact hr
    | with_reducible apply Fr.wr
    | intro _
    | split
    | (extract_lets +onlyGivenNames x; refine (fun hx : Fr f a x => ?_) ?_; (on_goal 1 => clear_value x); (on_goal 2 => subst x))
    | (extract_lets +onlyGivenNames x; refine (fun hx : Fr f a x.2 => ?_) ?_; (on_goal 1 => clear_value x); (on_goal 2 => subst x))
    | (extract_lets +onlyGivenNames x; clear_value x)
    | dsimp only

theorem Chip.setB_fr {f : Frame} {a c : Chip} {r} {f_} {b_} (h : Fr f a c) (hr : f.regs r = true) :
    Fr f a (Chip.setB c r f_ b_) := by
  unfold Chip.setB
  repeat' first
    | with_reducible assumption
    | exact hr
    | with_reducible apply Chip.setF_fr
    | intro _
    | split
    | (extract_lets +onlyGivenNames x; refine (fun hx : Fr f a x => ?_) ?_; (on_goal 1 => clear_value x); (on_goal 2 => subst x))
    | (extract_lets +onlyGivenNames x; refine (fun hx : Fr f a x.2 => ?_) ?_; (on_goal 1 => clear_value x); (on_goal 2 => subst x))
    | (extract_lets +onlyGivenNames x; clear_value x)
    | dsimp only

theorem Chip.incSat_fr {f : Frame} {a c : Chip} {r} {f_} {n_} (h : Fr f a c) (hr : f.regs r = true) :
    Fr f a (Chip.incSat c r f_ n_) := by
  unfold Chip.incSat
  repeat' first
    | with_reducible assumption
    | exact hr
    | with_reducible apply Chip.setF_fr
    | intro _
    | split
    | (extract_lets +onlyGivenNames x; refine (fun hx : Fr f a x => ?_) ?_; (on_goal 1 => clear_value x); (on_goal 2 => subst x))
    | (extract_lets +onlyGivenNames x; refine (fun hx : Fr f a x.2 => ?_) ?_; (on_goal 1 => clear_value x); (on_goal 2 => subst x))
    | (extract_lets +onlyGivenNames x; clear_value x)
    | dsimp only

theorem Chip.bump_fr {f : Frame} {a c : Chip} {r} (h : Fr f a c) (hr : f.regs r = true) :
    Fr f a (Chip.bump c r) := by
  unfold Chip.bump
  repeat' first
    | with_reducible assumption
    | exact hr
    | with_reducible apply Chip.setF_fr
    | intro _
    | split
    | (extract_lets +onlyGivenNames x; refine (fun hx : Fr f a x => ?_) ?_; (on_goal 1 => clear_value x); (on_goal 2 => subst x))
    | (extract_lets +onlyGivenNames x; refine (fun hx : Fr f a x.2 => ?_) ?_; (on_goal 1 => clear_value x); (on_goal 2 => subst x))
    | (extract_lets +onlyGivenNames x; clear_value x)
    | dsimp only

theorem Chip.record_fr {f : Frame} {a c : Chip} {r} {f_} (h : Fr f a c) (hr : f.regs r = true) :
    Fr f a (Chip.record c r f_) := by
  unfold Chip.record
  repeat' first
    | with_reducible assumption
    | exact hr
    | with_reducible apply Chip.bump_fr
    | with_reducible apply Chip.setF_fr
    | intro _
    | split
    | (extract_lets +onlyGivenNames x; refine (fun hx : Fr f a x => ?_) ?_; (on_goal 1 => clear_value x); (on_goal 2 => subst x))
    | (extract_lets +onlyGivenNames x; refine (fun hx : Fr f a x.2 => ?_) ?_; (on_goal 1 => clear_value x); (on_goal 2 => subst x))
    | (extract_lets +onlyGivenNames x; clear_value x)
    | dsimp only

theorem Chip.setSt_fr {f : Frame} {a c : Chip} {r} {f_} {v_} (h : Fr f a c) (hr : f.regs r = true) :
    Fr f a (Chip.setSt c r f_ v_) := by
  unfold Chip.setSt
  repeat' first
    | with_reducible assumption
    | exact hr
    | with_reducible apply Chip.bump_fr
    | with_reducible apply Chip.setF_fr
    | intro _
    | split
    | (extract_lets +onlyGivenNames x; refine (fun hx : Fr f a x => ?_) ?_; (on_goal 1 => clear_value x); (on_goal 2 => subst x))
    | (extract_lets +onlyGivenNames x; refine (fun hx : Fr f a x.2 => ?_) ?_; (on_goal 1 => clear_value x); (on_goal 2 => subst x))
    | (extract_lets +onlyGivenNames x; clear_value x)
    | dsimp only

theorem Chip.setStBit_fr {f : Frame} {a c : Chip} {r} {f_} {i_} {b_} (h : Fr f a c) (hr : f.regs r = true) :
    Fr f a (Chip.setStBit c r f_ i_ b_) := by
  unfold Chip.setStBit
  repeat' first
    | with_reducible assumption
    | exact hr
    | with_reducible apply Chip.setSt_fr
    | intro _
    | split
    | (extract_lets +onlyGivenNames x; refine (fun hx : Fr f a x => ?_) ?_; (on_goal 1 => clear_value x); (on_goal 2 => subst x))
    | (extract_lets +onlyGivenNames x; refine (fun hx : Fr f a x.2 => ?_) ?_; (on_goal 1 => clear_value x); (on_goal 2 => subst x))
    | (extract_lets +onlyGivenNames x; clear_value x)
    | dsimp only

theorem Chip.updPort_fr {f : Frame} {a c : Chip} {n_} {f_} (h : Fr f a c) (hp_ports : Part.ports ∈ f.parts) :
    Fr f a (Chip.updPort c n_ f_) := by
  unfold Chip.updPort
  repeat' first
    | with_reducible assumption
    | intro _
    | split
    | (extract_lets +onlyGivenNames x; refine (fun hx : Fr f a x => ?_) ?_; (on_goal 1 => clear_value x); (on_goal 2 => subst x))
    | (extract_lets +onlyGivenNames x; refine (fun hx : Fr f a x.2 => ?_) ?_; (on_goal 1 => clear_value x); (on_goal 2 => subst x))
    | (extract_lets +onlyGivenNames x; clear_value x)
    | with_reducible refine Fr.ports ?_ ?_ _
    | dsimp only

theorem Chip.updDoor_fr {f : Frame} {a c : Chip} {d : Door} {g : DoorSt → DoorSt} (h : Fr f a c) (hp_doors : Part.doors ∈ f.parts)
    (hv : ∀ s, (g s).reqs = s.reqs ∧ (g s).path = s.path ∧ (g s).releasing = s.releasing) : Fr f a (c.updDoor d g) := by
  refine h.doors hp_doors _ (fun k => ?_)
  by_cases e : d = k
  · subst e
    simpa using hv c.doors[d]
  · have e2 : d.val ≠ k.val := fun q => e (Fin.ext q)
    simp [e2]

/-- A change of a door's claim or request ring. -/
theorem Chip.updDoorReqs_fr {f : Frame} {a c : Chip} {d : Door} {g : DoorSt → DoorSt} (h : Fr f a c) (hp_doors : Part.doors ∈ f.parts)
    (hp_reqs : Part.reqs ∈ f.parts) : Fr f a (c.updDoor d g) := h.doorsReqs hp_doors _ hp_reqs

theorem DoorSt.put_same (d : DoorSt) (e : Event) : (d.put e).reqs = d.reqs ∧ (d.put e).path = d.path ∧ (d.put e).releasing = d.releasing := by
  unfold DoorSt.put
  split
  · exact ⟨rfl, rfl, rfl⟩
  · split <;> exact ⟨rfl, rfl, rfl⟩

theorem DoorSt.take_same (d : DoorSt) (z : Bool) (e : Event) :
    (d.take z e).reqs = d.reqs ∧ (d.take z e).path = d.path ∧ (d.take z e).releasing = d.releasing := by
  unfold DoorSt.take
  split
  · exact ⟨rfl, rfl, rfl⟩
  · exact DoorSt.put_same _ _

theorem DoorSt.puts_same (l : List Event) : ∀ d : DoorSt, (l.foldl DoorSt.put d).reqs = d.reqs ∧
    (l.foldl DoorSt.put d).path = d.path ∧ (l.foldl DoorSt.put d).releasing = d.releasing := by
  induction l with
  | nil => exact fun _ => ⟨rfl, rfl, rfl⟩
  | cons e t ih =>
    intro d
    have h1 := DoorSt.put_same d e
    have h2 := ih (d.put e)
    exact ⟨h2.1.trans h1.1, h2.2.1.trans h1.2.1, h2.2.2.trans h1.2.2⟩

theorem DoorSt.push_same (d : DoorSt) (p : List RspPart) :
    (d.push p).reqs = d.reqs ∧ (d.push p).path = d.path ∧ (d.push p).releasing = d.releasing := ⟨rfl, rfl, rfl⟩

theorem Chip.updEng_fr {f : Frame} {a c : Chip} {e_} {f_} (h : Fr f a c) (hp_engines : Part.engines ∈ f.parts) :
    Fr f a (Chip.updEng c e_ f_) := by
  unfold Chip.updEng
  repeat' first
    | with_reducible assumption
    | intro _
    | split
    | (extract_lets +onlyGivenNames x; refine (fun hx : Fr f a x => ?_) ?_; (on_goal 1 => clear_value x); (on_goal 2 => subst x))
    | (extract_lets +onlyGivenNames x; refine (fun hx : Fr f a x.2 => ?_) ?_; (on_goal 1 => clear_value x); (on_goal 2 => subst x))
    | (extract_lets +onlyGivenNames x; clear_value x)
    | with_reducible refine Fr.engines ?_ ?_ _
    | dsimp only

theorem Chip.updBasin_fr {f : Frame} {a c : Chip} {b_} {f_} (h : Fr f a c) (hp_basins : Part.basins ∈ f.parts) :
    Fr f a (Chip.updBasin c b_ f_) := by
  unfold Chip.updBasin
  repeat' first
    | with_reducible assumption
    | intro _
    | split
    | (extract_lets +onlyGivenNames x; refine (fun hx : Fr f a x => ?_) ?_; (on_goal 1 => clear_value x); (on_goal 2 => subst x))
    | (extract_lets +onlyGivenNames x; refine (fun hx : Fr f a x.2 => ?_) ?_; (on_goal 1 => clear_value x); (on_goal 2 => subst x))
    | (extract_lets +onlyGivenNames x; clear_value x)
    | with_reducible refine Fr.basins ?_ ?_ _
    | dsimp only

theorem Chip.updChan_fr {f : Frame} {a c : Chip} {n_} {f_} (h : Fr f a c) (hp_chans : Part.chans ∈ f.parts) :
    Fr f a (Chip.updChan c n_ f_) := by
  unfold Chip.updChan
  repeat' first
    | with_reducible assumption
    | intro _
    | split
    | (extract_lets +onlyGivenNames x; refine (fun hx : Fr f a x => ?_) ?_; (on_goal 1 => clear_value x); (on_goal 2 => subst x))
    | (extract_lets +onlyGivenNames x; refine (fun hx : Fr f a x.2 => ?_) ?_; (on_goal 1 => clear_value x); (on_goal 2 => subst x))
    | (extract_lets +onlyGivenNames x; clear_value x)
    | with_reducible refine Fr.chans ?_ ?_ _
    | dsimp only

theorem Chip.updRail_fr {f : Frame} {a c : Chip} {j_} {f_} (h : Fr f a c) (hp_rails : Part.rails ∈ f.parts) :
    Fr f a (Chip.updRail c j_ f_) := by
  unfold Chip.updRail
  repeat' first
    | with_reducible assumption
    | intro _
    | split
    | (extract_lets +onlyGivenNames x; refine (fun hx : Fr f a x => ?_) ?_; (on_goal 1 => clear_value x); (on_goal 2 => subst x))
    | (extract_lets +onlyGivenNames x; refine (fun hx : Fr f a x.2 => ?_) ?_; (on_goal 1 => clear_value x); (on_goal 2 => subst x))
    | (extract_lets +onlyGivenNames x; clear_value x)
    | with_reducible refine Fr.rails ?_ ?_ _
    | dsimp only

theorem Chip.updLane_fr {f : Frame} {a c : Chip} {l_} {f_} (h : Fr f a c) (hp_trunk : Part.trunk ∈ f.parts) :
    Fr f a (Chip.updLane c l_ f_) := by
  unfold Chip.updLane
  repeat' first
    | with_reducible assumption
    | intro _
    | split
    | (extract_lets +onlyGivenNames x; refine (fun hx : Fr f a x => ?_) ?_; (on_goal 1 => clear_value x); (on_goal 2 => subst x))
    | (extract_lets +onlyGivenNames x; refine (fun hx : Fr f a x.2 => ?_) ?_; (on_goal 1 => clear_value x); (on_goal 2 => subst x))
    | (extract_lets +onlyGivenNames x; clear_value x)
    | with_reducible refine Fr.trunk ?_ ?_ _
    | dsimp only

theorem Chip.updFl_fr {f : Frame} {a c : Chip} {d_} {f_} (h : Fr f a c) (hp_fl : Part.fl ∈ f.parts) :
    Fr f a (Chip.updFl c d_ f_) := by
  unfold Chip.updFl
  repeat' first
    | with_reducible assumption
    | intro _
    | split
    | (extract_lets +onlyGivenNames x; refine (fun hx : Fr f a x => ?_) ?_; (on_goal 1 => clear_value x); (on_goal 2 => subst x))
    | (extract_lets +onlyGivenNames x; refine (fun hx : Fr f a x.2 => ?_) ?_; (on_goal 1 => clear_value x); (on_goal 2 => subst x))
    | (extract_lets +onlyGivenNames x; clear_value x)
    | with_reducible refine Fr.fl ?_ ?_ _
    | dsimp only

theorem Chip.updBelt_fr {f : Frame} {a c : Chip} {b_} {f_} (h : Fr f a c) (hp_sei : Part.sei ∈ f.parts) :
    Fr f a (Chip.updBelt c b_ f_) := by
  unfold Chip.updBelt
  repeat' first
    | with_reducible assumption
    | intro _
    | split
    | (extract_lets +onlyGivenNames x; refine (fun hx : Fr f a x => ?_) ?_; (on_goal 1 => clear_value x); (on_goal 2 => subst x))
    | (extract_lets +onlyGivenNames x; refine (fun hx : Fr f a x.2 => ?_) ?_; (on_goal 1 => clear_value x); (on_goal 2 => subst x))
    | (extract_lets +onlyGivenNames x; clear_value x)
    | with_reducible refine Fr.sei ?_ ?_ _
    | dsimp only

theorem Chip.updInlet_fr {f : Frame} {a c : Chip} {i_} {f_} (h : Fr f a c) (hp_sei : Part.sei ∈ f.parts) :
    Fr f a (Chip.updInlet c i_ f_) := by
  unfold Chip.updInlet
  repeat' first
    | with_reducible assumption
    | intro _
    | split
    | (extract_lets +onlyGivenNames x; refine (fun hx : Fr f a x => ?_) ?_; (on_goal 1 => clear_value x); (on_goal 2 => subst x))
    | (extract_lets +onlyGivenNames x; refine (fun hx : Fr f a x.2 => ?_) ?_; (on_goal 1 => clear_value x); (on_goal 2 => subst x))
    | (extract_lets +onlyGivenNames x; clear_value x)
    | with_reducible refine Fr.sei ?_ ?_ _
    | dsimp only

theorem Chip.updOutfall_fr {f : Frame} {a c : Chip} {o_} {f_} (h : Fr f a c) (hp_sei : Part.sei ∈ f.parts) :
    Fr f a (Chip.updOutfall c o_ f_) := by
  unfold Chip.updOutfall
  repeat' first
    | with_reducible assumption
    | intro _
    | split
    | (extract_lets +onlyGivenNames x; refine (fun hx : Fr f a x => ?_) ?_; (on_goal 1 => clear_value x); (on_goal 2 => subst x))
    | (extract_lets +onlyGivenNames x; refine (fun hx : Fr f a x.2 => ?_) ?_; (on_goal 1 => clear_value x); (on_goal 2 => subst x))
    | (extract_lets +onlyGivenNames x; clear_value x)
    | with_reducible refine Fr.sei ?_ ?_ _
    | dsimp only

theorem Chip.updDrop_fr {f : Frame} {a c : Chip} {n_} {f_} (h : Fr f a c) (hp_ports : Part.ports ∈ f.parts) :
    Fr f a (Chip.updDrop c n_ f_) := by
  unfold Chip.updDrop
  repeat' first
    | with_reducible assumption
    | with_reducible apply Chip.updPort_fr
    | intro _
    | split
    | (extract_lets +onlyGivenNames x; refine (fun hx : Fr f a x => ?_) ?_; (on_goal 1 => clear_value x); (on_goal 2 => subst x))
    | (extract_lets +onlyGivenNames x; refine (fun hx : Fr f a x.2 => ?_) ?_; (on_goal 1 => clear_value x); (on_goal 2 => subst x))
    | (extract_lets +onlyGivenNames x; clear_value x)
    | dsimp only

theorem Chip.updLine_fr {f : Frame} {a c : Chip} {n_} {f_} (h : Fr f a c) (hp_ports : Part.ports ∈ f.parts) :
    Fr f a (Chip.updLine c n_ f_) := by
  unfold Chip.updLine
  repeat' first
    | with_reducible assumption
    | with_reducible apply Chip.updPort_fr
    | intro _
    | split
    | (extract_lets +onlyGivenNames x; refine (fun hx : Fr f a x => ?_) ?_; (on_goal 1 => clear_value x); (on_goal 2 => subst x))
    | (extract_lets +onlyGivenNames x; refine (fun hx : Fr f a x.2 => ?_) ?_; (on_goal 1 => clear_value x); (on_goal 2 => subst x))
    | (extract_lets +onlyGivenNames x; clear_value x)
    | dsimp only

theorem Chip.updPd_fr {f : Frame} {a c : Chip} {n_} {f_} (h : Fr f a c) (hp_ports : Part.ports ∈ f.parts) :
    Fr f a (Chip.updPd c n_ f_) := by
  unfold Chip.updPd
  repeat' first
    | with_reducible assumption
    | with_reducible apply Chip.updPort_fr
    | intro _
    | split
    | (extract_lets +onlyGivenNames x; refine (fun hx : Fr f a x => ?_) ?_; (on_goal 1 => clear_value x); (on_goal 2 => subst x))
    | (extract_lets +onlyGivenNames x; refine (fun hx : Fr f a x.2 => ?_) ?_; (on_goal 1 => clear_value x); (on_goal 2 => subst x))
    | (extract_lets +onlyGivenNames x; clear_value x)
    | dsimp only

theorem Chip.updTrunk_fr {f : Frame} {a c : Chip} {f_} (h : Fr f a c) (hp_trunk : Part.trunk ∈ f.parts) :
    Fr f a (Chip.updTrunk c f_) := by
  unfold Chip.updTrunk
  repeat' first
    | with_reducible assumption
    | intro _
    | split
    | (extract_lets +onlyGivenNames x; refine (fun hx : Fr f a x => ?_) ?_; (on_goal 1 => clear_value x); (on_goal 2 => subst x))
    | (extract_lets +onlyGivenNames x; refine (fun hx : Fr f a x.2 => ?_) ?_; (on_goal 1 => clear_value x); (on_goal 2 => subst x))
    | (extract_lets +onlyGivenNames x; clear_value x)
    | with_reducible refine Fr.trunk ?_ ?_ _
    | dsimp only

theorem Chip.updClk_fr {f : Frame} {a c : Chip} {f_} (h : Fr f a c) (hp_clk : Part.clk ∈ f.parts) :
    Fr f a (Chip.updClk c f_) := by
  unfold Chip.updClk
  repeat' first
    | with_reducible assumption
    | intro _
    | split
    | (extract_lets +onlyGivenNames x; refine (fun hx : Fr f a x => ?_) ?_; (on_goal 1 => clear_value x); (on_goal 2 => subst x))
    | (extract_lets +onlyGivenNames x; refine (fun hx : Fr f a x.2 => ?_) ?_; (on_goal 1 => clear_value x); (on_goal 2 => subst x))
    | (extract_lets +onlyGivenNames x; clear_value x)
    | with_reducible refine Fr.clk ?_ ?_ _
    | dsimp only

theorem Chip.updFw_fr {f : Frame} {a c : Chip} {g : Fw → Fw} (h : Fr f a c) (hp_fw : Part.fw ∈ f.parts)
    (hv : ∀ k, (g k).flash = k.flash) : Fr f a (c.updFw g) := h.fw hp_fw _ (hv _)

/-- A change of the flash itself. -/
theorem Chip.updFwFlash_fr {f : Frame} {a c : Chip} {g : Fw → Fw} (h : Fr f a c) (hp_fw : Part.fw ∈ f.parts)
    (hp_flash : Part.flash ∈ f.parts) (hv : ∀ k, flashOk k.flash = true → flashOk (g k).flash = true) : Fr f a (c.updFw g) :=
  h.fwFlash hp_fw _ hp_flash (hv _)

theorem Chip.updPond_fr {f : Frame} {a c : Chip} {f_} (h : Fr f a c) (hp_pond : Part.pond ∈ f.parts) :
    Fr f a (Chip.updPond c f_) := by
  unfold Chip.updPond
  repeat' first
    | with_reducible assumption
    | intro _
    | split
    | (extract_lets +onlyGivenNames x; refine (fun hx : Fr f a x => ?_) ?_; (on_goal 1 => clear_value x); (on_goal 2 => subst x))
    | (extract_lets +onlyGivenNames x; refine (fun hx : Fr f a x.2 => ?_) ?_; (on_goal 1 => clear_value x); (on_goal 2 => subst x))
    | (extract_lets +onlyGivenNames x; clear_value x)
    | with_reducible refine Fr.pond ?_ ?_ _
    | dsimp only

theorem Chip.updSvc_fr {f : Frame} {a c : Chip} {f_} (h : Fr f a c) (hp_svc : Part.svc ∈ f.parts) :
    Fr f a (Chip.updSvc c f_) := by
  unfold Chip.updSvc
  repeat' first
    | with_reducible assumption
    | intro _
    | split
    | (extract_lets +onlyGivenNames x; refine (fun hx : Fr f a x => ?_) ?_; (on_goal 1 => clear_value x); (on_goal 2 => subst x))
    | (extract_lets +onlyGivenNames x; refine (fun hx : Fr f a x.2 => ?_) ?_; (on_goal 1 => clear_value x); (on_goal 2 => subst x))
    | (extract_lets +onlyGivenNames x; clear_value x)
    | with_reducible refine Fr.svc ?_ ?_ _
    | dsimp only

theorem Chip.updPwr_fr {f : Frame} {a c : Chip} {f_} (h : Fr f a c) (hp_pwr : Part.pwr ∈ f.parts) :
    Fr f a (Chip.updPwr c f_) := by
  unfold Chip.updPwr
  repeat' first
    | with_reducible assumption
    | intro _
    | split
    | (extract_lets +onlyGivenNames x; refine (fun hx : Fr f a x => ?_) ?_; (on_goal 1 => clear_value x); (on_goal 2 => subst x))
    | (extract_lets +onlyGivenNames x; refine (fun hx : Fr f a x.2 => ?_) ?_; (on_goal 1 => clear_value x); (on_goal 2 => subst x))
    | (extract_lets +onlyGivenNames x; clear_value x)
    | with_reducible refine Fr.pwr ?_ ?_ _
    | dsimp only

theorem Chip.updBead_fr {f : Frame} {a c : Chip} {g : BeadSt → BeadSt} (h : Fr f a c) (hp_bead : Part.bead ∈ f.parts)
    (hv : ∀ k, (g k).blocks = k.blocks ∧ (g k).locked = k.locked) : Fr f a (c.updBead g) := h.bead hp_bead _ (hv _)

theorem Chip.updFab_fr {f : Frame} {a c : Chip} {f_} (h : Fr f a c) (hp_fab : Part.fab ∈ f.parts) :
    Fr f a (Chip.updFab c f_) := by
  unfold Chip.updFab
  repeat' first
    | with_reducible assumption
    | intro _
    | split
    | (extract_lets +onlyGivenNames x; refine (fun hx : Fr f a x => ?_) ?_; (on_goal 1 => clear_value x); (on_goal 2 => subst x))
    | (extract_lets +onlyGivenNames x; refine (fun hx : Fr f a x.2 => ?_) ?_; (on_goal 1 => clear_value x); (on_goal 2 => subst x))
    | (extract_lets +onlyGivenNames x; clear_value x)
    | with_reducible refine Fr.fab ?_ ?_ _
    | dsimp only

theorem Chip.updSei_fr {f : Frame} {a c : Chip} {f_} (h : Fr f a c) (hp_sei : Part.sei ∈ f.parts) :
    Fr f a (Chip.updSei c f_) := by
  unfold Chip.updSei
  repeat' first
    | with_reducible assumption
    | intro _
    | split
    | (extract_lets +onlyGivenNames x; refine (fun hx : Fr f a x => ?_) ?_; (on_goal 1 => clear_value x); (on_goal 2 => subst x))
    | (extract_lets +onlyGivenNames x; refine (fun hx : Fr f a x.2 => ?_) ?_; (on_goal 1 => clear_value x); (on_goal 2 => subst x))
    | (extract_lets +onlyGivenNames x; clear_value x)
    | with_reducible refine Fr.sei ?_ ?_ _
    | dsimp only



theorem Chip.draw_fr2 {f : Frame} {a c : Chip} (h : Fr f a c) (hp_free : Part.free ∈ f.parts) : Fr f a c.draw.2 := Fr.draw h hp_free

theorem Chip.draw_fr {f : Frame} {a c c' : Chip} {v : BitVec 64} (e : c.draw = (v, c')) (h : Fr f a c)
    (hp_free : Part.free ∈ f.parts) : Fr f a c' := by
  have := Fr.draw h hp_free
  rwa [e] at this

theorem Chip.balls_fr {f : Frame} {a c : Chip}  (h : Fr f a c) (hp_clk : Part.clk ∈ f.parts) :
    Fr f a (Chip.balls c) := by
  unfold Chip.balls
  repeat' first
    | with_reducible assumption
    | intro _
    | split
    | (extract_lets +onlyGivenNames x; refine (fun hx : Fr f a x => ?_) ?_; (on_goal 1 => clear_value x); (on_goal 2 => subst x))
    | (extract_lets +onlyGivenNames x; refine (fun hx : Fr f a x.2 => ?_) ?_; (on_goal 1 => clear_value x); (on_goal 2 => subst x))
    | (extract_lets +onlyGivenNames x; clear_value x)
    | with_reducible refine Fr.clk ?_ ?_ _
    | dsimp only

theorem Chip.snapDue_fr {f : Frame} {a c : Chip} {src_} {e_} (h : Fr f a c) (hp_bead : Part.bead ∈ f.parts) :
    Fr f a (Chip.snapDue c src_ e_) := by
  unfold Chip.snapDue
  repeat' first
    | with_reducible assumption
    | with_reducible apply Chip.updBead_fr
    | with_reducible exact fun _ => rfl
    | with_reducible exact fun _ => ⟨rfl, rfl⟩
    | with_reducible rfl
    | with_reducible exact ⟨rfl, rfl⟩
    | intro _
    | split
    | (extract_lets +onlyGivenNames x; refine (fun hx : Fr f a x => ?_) ?_; (on_goal 1 => clear_value x); (on_goal 2 => subst x))
    | (extract_lets +onlyGivenNames x; refine (fun hx : Fr f a x.2 => ?_) ?_; (on_goal 1 => clear_value x); (on_goal 2 => subst x))
    | (extract_lets +onlyGivenNames x; clear_value x)
    | dsimp only

theorem Chip.fault_fr {f : Frame} {a c : Chip} {s_} {e_} (h : Fr f a c) (hp_clk : Part.clk ∈ f.parts) (hp_bead : Part.bead ∈ f.parts) (hr_GLB_FAULT : f.regs .GLB_FAULT = true) :
    Fr f a (Chip.fault c s_ e_) := by
  unfold Chip.fault
  repeat' first
    | with_reducible assumption
    | with_reducible apply Chip.record_fr
    | with_reducible apply Chip.snapDue_fr
    | with_reducible apply Chip.balls_fr
    | intro _
    | split
    | (extract_lets +onlyGivenNames x; refine (fun hx : Fr f a x => ?_) ?_; (on_goal 1 => clear_value x); (on_goal 2 => subst x))
    | (extract_lets +onlyGivenNames x; refine (fun hx : Fr f a x.2 => ?_) ?_; (on_goal 1 => clear_value x); (on_goal 2 => subst x))
    | (extract_lets +onlyGivenNames x; clear_value x)
    | dsimp only

/-! ### Machine/Ops.lean -/

theorem Chip.postR_fr {f : Frame} {a c : Chip} {r_} {e_} (h : Fr f a c) (hp_doors : Part.doors ∈ f.parts) :
    Fr f a (Chip.postR c r_ e_) := by
  refine h.doors hp_doors _ (fun k => ?_)
  simp only [Fin.getElem_fin, Vector.getElem_mapFinIdx]
  split
  · exact DoorSt.take_same _ _ _
  · exact ⟨rfl, rfl, rfl⟩

theorem Chip.releaseEvents_fr {f : Frame} {a c : Chip} (h : Fr f a c) (hp_doors : Part.doors ∈ f.parts) :
    Fr f a (Chip.releaseEvents c) := by
  refine h.doors hp_doors _ (fun k => ?_)
  simp only [Fin.getElem_fin, Vector.getElem_map]
  exact DoorSt.puts_same _ _

theorem Chip.post_fr {f : Frame} {a c : Chip} {e_} (h : Fr f a c) (hp_doors : Part.doors ∈ f.parts) :
    Fr f a (Chip.post c e_) := by
  unfold Chip.post
  repeat' first
    | with_reducible assumption
    | with_reducible apply Chip.postR_fr
    | intro _
    | split
    | (extract_lets +onlyGivenNames x; refine (fun hx : Fr f a x => ?_) ?_; (on_goal 1 => clear_value x); (on_goal 2 => subst x))
    | (extract_lets +onlyGivenNames x; refine (fun hx : Fr f a x.2 => ?_) ?_; (on_goal 1 => clear_value x); (on_goal 2 => subst x))
    | (extract_lets +onlyGivenNames x; clear_value x)
    | dsimp only

theorem Chip.postOwn_fr {f : Frame} {a c : Chip} {d_} {e_} (h : Fr f a c) (hp_doors : Part.doors ∈ f.parts) :
    Fr f a (Chip.postOwn c d_ e_) := by
  unfold Chip.postOwn
  repeat' first
    | with_reducible assumption
    | with_reducible apply Chip.postR_fr
    | intro _
    | split
    | (extract_lets +onlyGivenNames x; refine (fun hx : Fr f a x => ?_) ?_; (on_goal 1 => clear_value x); (on_goal 2 => subst x))
    | (extract_lets +onlyGivenNames x; refine (fun hx : Fr f a x.2 => ?_) ?_; (on_goal 1 => clear_value x); (on_goal 2 => subst x))
    | (extract_lets +onlyGivenNames x; clear_value x)
    | dsimp only

theorem Chip.postFault_fr {f : Frame} {a c : Chip} {s_} {e_} (h : Fr f a c) (hp_clk : Part.clk ∈ f.parts) (hp_doors : Part.doors ∈ f.parts) (hp_bead : Part.bead ∈ f.parts) (hr_GLB_FAULT : f.regs .GLB_FAULT = true) :
    Fr f a (Chip.postFault c s_ e_) := by
  unfold Chip.postFault
  repeat' first
    | with_reducible assumption
    | with_reducible apply Chip.post_fr
    | with_reducible apply Chip.fault_fr
    | intro _
    | split
    | (extract_lets +onlyGivenNames x; refine (fun hx : Fr f a x => ?_) ?_; (on_goal 1 => clear_value x); (on_goal 2 => subst x))
    | (extract_lets +onlyGivenNames x; refine (fun hx : Fr f a x.2 => ?_) ?_; (on_goal 1 => clear_value x); (on_goal 2 => subst x))
    | (extract_lets +onlyGivenNames x; clear_value x)
    | dsimp only

theorem Chip.postRateR_fr {f : Frame} {a c : Chip} {route_} {interval_} {src_} {e_} {pos_} {n_} (h : Fr f a c) (hp_doors : Part.doors ∈ f.parts) (hp_rates : Part.rates ∈ f.parts) :
    Fr f a (Chip.postRateR c route_ interval_ src_ e_ pos_ n_) := by
  unfold Chip.postRateR
  repeat' first
    | with_reducible assumption
    | with_reducible apply Chip.postR_fr
    | intro _
    | split
    | (extract_lets +onlyGivenNames x; refine (fun hx : Fr f a x => ?_) ?_; (on_goal 1 => clear_value x); (on_goal 2 => subst x))
    | (extract_lets +onlyGivenNames x; refine (fun hx : Fr f a x.2 => ?_) ?_; (on_goal 1 => clear_value x); (on_goal 2 => subst x))
    | (extract_lets +onlyGivenNames x; clear_value x)
    | with_reducible refine Fr.rates ?_ ?_ _
    | dsimp only

theorem Chip.postRate_fr {f : Frame} {a c : Chip} {interval_} {src_} {e_} {pos_} {n_} (h : Fr f a c) (hp_doors : Part.doors ∈ f.parts) (hp_rates : Part.rates ∈ f.parts) :
    Fr f a (Chip.postRate c interval_ src_ e_ pos_ n_) := by
  unfold Chip.postRate
  repeat' first
    | with_reducible assumption
    | with_reducible apply Chip.postRateR_fr
    | intro _
    | split
    | (extract_lets +onlyGivenNames x; refine (fun hx : Fr f a x => ?_) ?_; (on_goal 1 => clear_value x); (on_goal 2 => subst x))
    | (extract_lets +onlyGivenNames x; refine (fun hx : Fr f a x.2 => ?_) ?_; (on_goal 1 => clear_value x); (on_goal 2 => subst x))
    | (extract_lets +onlyGivenNames x; clear_value x)
    | dsimp only

theorem Chip.rateEnd_fr {f : Frame} {a c : Chip} {code_} {src_} (h : Fr f a c) (hp_doors : Part.doors ∈ f.parts) (hp_rates : Part.rates ∈ f.parts) :
    Fr f a (Chip.rateEnd c code_ src_) := by
  unfold Chip.rateEnd
  repeat' first
    | with_reducible assumption
    | with_reducible apply Chip.postR_fr
    | intro _
    | split
    | (extract_lets +onlyGivenNames x; refine (fun hx : Fr f a x => ?_) ?_; (on_goal 1 => clear_value x); (on_goal 2 => subst x))
    | (extract_lets +onlyGivenNames x; refine (fun hx : Fr f a x.2 => ?_) ?_; (on_goal 1 => clear_value x); (on_goal 2 => subst x))
    | (extract_lets +onlyGivenNames x; clear_value x)
    | with_reducible refine Fr.rates ?_ ?_ _
    | dsimp only

theorem Chip.bumpPort_fr {f : Frame} {a c : Chip} {n_} (h : Fr f a c) (hp_doors : Part.doors ∈ f.parts) (hp_ports : Part.ports ∈ f.parts) :
    Fr f a (Chip.bumpPort c n_) := by
  unfold Chip.bumpPort
  repeat' first
    | with_reducible assumption
    | with_reducible apply Chip.updPort_fr
    | with_reducible apply Chip.post_fr
    | intro _
    | split
    | (extract_lets +onlyGivenNames x; refine (fun hx : Fr f a x => ?_) ?_; (on_goal 1 => clear_value x); (on_goal 2 => subst x))
    | (extract_lets +onlyGivenNames x; refine (fun hx : Fr f a x.2 => ?_) ?_; (on_goal 1 => clear_value x); (on_goal 2 => subst x))
    | (extract_lets +onlyGivenNames x; clear_value x)
    | dsimp only

theorem Chip.bumpEngine_fr {f : Frame} {a c : Chip} {e_} (h : Fr f a c) (hp_doors : Part.doors ∈ f.parts) (hp_engines : Part.engines ∈ f.parts) :
    Fr f a (Chip.bumpEngine c e_) := by
  unfold Chip.bumpEngine
  repeat' first
    | with_reducible assumption
    | with_reducible apply Chip.updEng_fr
    | with_reducible apply Chip.post_fr
    | intro _
    | split
    | (extract_lets +onlyGivenNames x; refine (fun hx : Fr f a x => ?_) ?_; (on_goal 1 => clear_value x); (on_goal 2 => subst x))
    | (extract_lets +onlyGivenNames x; refine (fun hx : Fr f a x.2 => ?_) ?_; (on_goal 1 => clear_value x); (on_goal 2 => subst x))
    | (extract_lets +onlyGivenNames x; clear_value x)
    | dsimp only

theorem Chip.bumpNode_fr {f : Frame} {a c : Chip} {n_} {a_} (h : Fr f a c) (hp_doors : Part.doors ∈ f.parts) (hp_ports : Part.ports ∈ f.parts) :
    Fr f a (Chip.bumpNode c n_ a_) := by
  unfold Chip.bumpNode
  repeat' first
    | with_reducible assumption
    | with_reducible apply Chip.updPort_fr
    | with_reducible apply Chip.post_fr
    | intro _
    | split
    | (extract_lets +onlyGivenNames x; refine (fun hx : Fr f a x => ?_) ?_; (on_goal 1 => clear_value x); (on_goal 2 => subst x))
    | (extract_lets +onlyGivenNames x; refine (fun hx : Fr f a x.2 => ?_) ?_; (on_goal 1 => clear_value x); (on_goal 2 => subst x))
    | (extract_lets +onlyGivenNames x; clear_value x)
    | dsimp only

theorem Chip.bumpAllNodes_fr {f : Frame} {a c : Chip} {n_} (h : Fr f a c) (hp_doors : Part.doors ∈ f.parts) (hp_ports : Part.ports ∈ f.parts) :
    Fr f a (Chip.bumpAllNodes c n_) := by
  unfold Chip.bumpAllNodes
  repeat' first
    | with_reducible assumption
    | with_reducible apply Chip.updPort_fr
    | with_reducible apply Chip.post_fr
    | intro _
    | split
    | (extract_lets +onlyGivenNames x; refine (fun hx : Fr f a x => ?_) ?_; (on_goal 1 => clear_value x); (on_goal 2 => subst x))
    | (extract_lets +onlyGivenNames x; refine (fun hx : Fr f a x.2 => ?_) ?_; (on_goal 1 => clear_value x); (on_goal 2 => subst x))
    | (extract_lets +onlyGivenNames x; clear_value x)
    | dsimp only

theorem Chip.bumpDoor_fr {f : Frame} {a c : Chip} {d_} (h : Fr f a c) (hp_doors : Part.doors ∈ f.parts) :
    Fr f a (Chip.bumpDoor c d_) := by
  unfold Chip.bumpDoor
  repeat' first
    | with_reducible assumption
    | with_reducible apply Chip.updDoor_fr
    | with_reducible apply Chip.postR_fr
    | with_reducible exact fun _ => ⟨rfl, rfl, rfl⟩
    | with_reducible exact fun _ => DoorSt.push_same _ _
    | intro _
    | split
    | (extract_lets +onlyGivenNames x; refine (fun hx : Fr f a x => ?_) ?_; (on_goal 1 => clear_value x); (on_goal 2 => subst x))
    | (extract_lets +onlyGivenNames x; refine (fun hx : Fr f a x.2 => ?_) ?_; (on_goal 1 => clear_value x); (on_goal 2 => subst x))
    | (extract_lets +onlyGivenNames x; clear_value x)
    | dsimp only

theorem Chip.cullDoor_fr {f : Frame} {a c : Chip} {d_} {source_} {result_} {expected_} {current_} {item_} (h : Fr f a c) (hp_doors : Part.doors ∈ f.parts) (hp_rates : Part.rates ∈ f.parts) :
    Fr f a (Chip.cullDoor c d_ source_ result_ expected_ current_ item_) := by
  unfold Chip.cullDoor
  repeat' first
    | with_reducible assumption
    | with_reducible apply Chip.updDoor_fr
    | with_reducible apply Chip.postRateR_fr
    | with_reducible exact fun _ => ⟨rfl, rfl, rfl⟩
    | with_reducible exact fun _ => DoorSt.push_same _ _
    | intro _
    | split
    | (extract_lets +onlyGivenNames x; refine (fun hx : Fr f a x => ?_) ?_; (on_goal 1 => clear_value x); (on_goal 2 => subst x))
    | (extract_lets +onlyGivenNames x; refine (fun hx : Fr f a x.2 => ?_) ?_; (on_goal 1 => clear_value x); (on_goal 2 => subst x))
    | (extract_lets +onlyGivenNames x; clear_value x)
    | dsimp only

theorem Chip.cullDev_fr {f : Frame} {a c : Chip} {source_} {result_} {expected_} {current_} {item_} (h : Fr f a c) (hp_doors : Part.doors ∈ f.parts) (hp_cullet : Part.cullet ∈ f.parts) (hp_rates : Part.rates ∈ f.parts) :
    Fr f a (Chip.cullDev c source_ result_ expected_ current_ item_) := by
  unfold Chip.cullDev
  repeat' first
    | with_reducible assumption
    | with_reducible apply Chip.postRate_fr
    | intro _
    | split
    | (extract_lets +onlyGivenNames x; refine (fun hx : Fr f a x => ?_) ?_; (on_goal 1 => clear_value x); (on_goal 2 => subst x))
    | (extract_lets +onlyGivenNames x; refine (fun hx : Fr f a x.2 => ?_) ?_; (on_goal 1 => clear_value x); (on_goal 2 => subst x))
    | (extract_lets +onlyGivenNames x; clear_value x)
    | with_reducible refine Fr.culletLost ?_ ?_ _
    | with_reducible refine Fr.cullet ?_ ?_ _
    | dsimp only

theorem Chip.setReqSt_fr {f : Frame} {a c : Chip} {q_} {st_} (h : Fr f a c) (hp_doors : Part.doors ∈ f.parts) (hp_reqs : Part.reqs ∈ f.parts) :
    Fr f a (Chip.setReqSt c q_ st_) := by
  unfold Chip.setReqSt
  repeat' first
    | with_reducible assumption
    | with_reducible apply Chip.updDoorReqs_fr
    | with_reducible exact fun _ => ⟨rfl, rfl, rfl⟩
    | with_reducible exact fun _ => DoorSt.push_same _ _
    | intro _
    | split
    | (extract_lets +onlyGivenNames x; refine (fun hx : Fr f a x => ?_) ?_; (on_goal 1 => clear_value x); (on_goal 2 => subst x))
    | (extract_lets +onlyGivenNames x; refine (fun hx : Fr f a x.2 => ?_) ?_; (on_goal 1 => clear_value x); (on_goal 2 => subst x))
    | (extract_lets +onlyGivenNames x; clear_value x)
    | dsimp only

theorem Chip.svcResponses_fr {f : Frame} {a c : Chip}  (h : Fr f a c) (hp_doors : Part.doors ∈ f.parts) (hp_reqs : Part.reqs ∈ f.parts) :
    Fr f a (Chip.svcResponses c) := by
  unfold Chip.svcResponses
  repeat' first
    | with_reducible assumption
    | with_reducible apply Fr.each
    | with_reducible apply Chip.updDoorReqs_fr
    | with_reducible exact fun _ => ⟨rfl, rfl, rfl⟩
    | with_reducible exact fun _ => DoorSt.push_same _ _
    | intro _
    | split
    | (extract_lets +onlyGivenNames x; refine (fun hx : Fr f a x => ?_) ?_; (on_goal 1 => clear_value x); (on_goal 2 => subst x))
    | (extract_lets +onlyGivenNames x; refine (fun hx : Fr f a x.2 => ?_) ?_; (on_goal 1 => clear_value x); (on_goal 2 => subst x))
    | (extract_lets +onlyGivenNames x; clear_value x)
    | dsimp only

theorem Chip.answerFree_fr {f : Frame} {a c : Chip} {d_} {path_} {r_} {result_} (h : Fr f a c) (hp_doors : Part.doors ∈ f.parts) :
    Fr f a (Chip.answerFree c d_ path_ r_ result_) := by
  unfold Chip.answerFree
  repeat' first
    | with_reducible assumption
    | with_reducible apply Chip.updDoor_fr
    | with_reducible exact fun _ => ⟨rfl, rfl, rfl⟩
    | with_reducible exact fun _ => DoorSt.push_same _ _
    | intro _
    | split
    | (extract_lets +onlyGivenNames x; refine (fun hx : Fr f a x => ?_) ?_; (on_goal 1 => clear_value x); (on_goal 2 => subst x))
    | (extract_lets +onlyGivenNames x; refine (fun hx : Fr f a x.2 => ?_) ?_; (on_goal 1 => clear_value x); (on_goal 2 => subst x))
    | (extract_lets +onlyGivenNames x; clear_value x)
    | dsimp only

theorem Chip.claimDoor_fr {f : Frame} {a c : Chip} {d_} {path_} {owner_} {sub_} (h : Fr f a c) (hp_trunk : Part.trunk ∈ f.parts) (hp_doors : Part.doors ∈ f.parts) (hp_reqs : Part.reqs ∈ f.parts) :
    Fr f a (Chip.claimDoor c d_ path_ owner_ sub_) := by
  unfold Chip.claimDoor
  repeat' first
    | with_reducible assumption
    | with_reducible apply Chip.updDoorReqs_fr
    | with_reducible apply Chip.bumpDoor_fr
    | with_reducible apply Chip.postR_fr
    | with_reducible apply Chip.updTrunk_fr
    | with_reducible exact fun _ => ⟨rfl, rfl, rfl⟩
    | with_reducible exact fun _ => DoorSt.push_same _ _
    | intro _
    | split
    | (extract_lets +onlyGivenNames x; refine (fun hx : Fr f a x => ?_) ?_; (on_goal 1 => clear_value x); (on_goal 2 => subst x))
    | (extract_lets +onlyGivenNames x; refine (fun hx : Fr f a x.2 => ?_) ?_; (on_goal 1 => clear_value x); (on_goal 2 => subst x))
    | (extract_lets +onlyGivenNames x; clear_value x)
    | dsimp only

theorem Chip.answerEntry_fr {f : Frame} {a c : Chip} {q_} {e_} {result_} {data_} {nbytes_} (h : Fr f a c) (hp_doors : Part.doors ∈ f.parts) (hp_reqs : Part.reqs ∈ f.parts) :
    Fr f a (Chip.answerEntry c q_ e_ result_ data_ nbytes_) := by
  unfold Chip.answerEntry
  repeat' first
    | with_reducible assumption
    | with_reducible apply Chip.setReqSt_fr
    | with_reducible apply Chip.updDoor_fr
    | with_reducible exact fun _ => ⟨rfl, rfl, rfl⟩
    | with_reducible exact fun _ => DoorSt.push_same _ _
    | intro _
    | split
    | (extract_lets +onlyGivenNames x; refine (fun hx : Fr f a x => ?_) ?_; (on_goal 1 => clear_value x); (on_goal 2 => subst x))
    | (extract_lets +onlyGivenNames x; refine (fun hx : Fr f a x.2 => ?_) ?_; (on_goal 1 => clear_value x); (on_goal 2 => subst x))
    | (extract_lets +onlyGivenNames x; clear_value x)
    | dsimp only

theorem Chip.answerRelease_fr {f : Frame} {a c : Chip} {d_} {result_} (h : Fr f a c) (hp_doors : Part.doors ∈ f.parts) (hp_reqs : Part.reqs ∈ f.parts) :
    Fr f a (Chip.answerRelease c d_ result_) := by
  unfold Chip.answerRelease
  repeat' first
    | with_reducible assumption
    | with_reducible apply Chip.answerEntry_fr
    | with_reducible apply Chip.updDoor_fr
    | with_reducible exact fun _ => ⟨rfl, rfl, rfl⟩
    | with_reducible exact fun _ => DoorSt.push_same _ _
    | intro _
    | split
    | (extract_lets +onlyGivenNames x; refine (fun hx : Fr f a x => ?_) ?_; (on_goal 1 => clear_value x); (on_goal 2 => subst x))
    | (extract_lets +onlyGivenNames x; refine (fun hx : Fr f a x.2 => ?_) ?_; (on_goal 1 => clear_value x); (on_goal 2 => subst x))
    | (extract_lets +onlyGivenNames x; clear_value x)
    | dsimp only

theorem Chip.finishRelease_fr {f : Frame} {a c : Chip} {d_} (h : Fr f a c) (hp_trunk : Part.trunk ∈ f.parts) (hp_doors : Part.doors ∈ f.parts) (hp_reqs : Part.reqs ∈ f.parts) :
    Fr f a (Chip.finishRelease c d_) := by
  unfold Chip.finishRelease
  repeat' first
    | with_reducible assumption
    | with_reducible apply Chip.answerRelease_fr
    | with_reducible apply Chip.updDoorReqs_fr
    | with_reducible apply Chip.bumpDoor_fr
    | with_reducible apply Chip.postR_fr
    | with_reducible apply Chip.updTrunk_fr
    | with_reducible apply Chip.answerEntry_fr
    | with_reducible apply Chip.claimDoor_fr
    | with_reducible exact fun _ => ⟨rfl, rfl, rfl⟩
    | with_reducible exact fun _ => DoorSt.push_same _ _
    | intro _
    | split
    | (extract_lets +onlyGivenNames x; refine (fun hx : Fr f a x => ?_) ?_; (on_goal 1 => clear_value x); (on_goal 2 => subst x))
    | (extract_lets +onlyGivenNames x; refine (fun hx : Fr f a x.2 => ?_) ?_; (on_goal 1 => clear_value x); (on_goal 2 => subst x))
    | (extract_lets +onlyGivenNames x; clear_value x)
    | dsimp only

theorem Chip.answer_fr {f : Frame} {a c : Chip} {q_} {result_} {data_} {nbytes_} (h : Fr f a c) (hp_trunk : Part.trunk ∈ f.parts) (hp_doors : Part.doors ∈ f.parts) (hp_reqs : Part.reqs ∈ f.parts) (hp_rates : Part.rates ∈ f.parts) :
    Fr f a (Chip.answer c q_ result_ data_ nbytes_) := by
  unfold Chip.answer
  repeat' first
    | with_reducible assumption
    | with_reducible apply Chip.finishRelease_fr
    | with_reducible apply Chip.answerRelease_fr
    | with_reducible apply Chip.updDoorReqs_fr
    | with_reducible apply Chip.cullDoor_fr
    | with_reducible apply Chip.answerEntry_fr
    | with_reducible exact fun _ => ⟨rfl, rfl, rfl⟩
    | with_reducible exact fun _ => DoorSt.push_same _ _
    | intro _
    | split
    | (extract_lets +onlyGivenNames x; refine (fun hx : Fr f a x => ?_) ?_; (on_goal 1 => clear_value x); (on_goal 2 => subst x))
    | (extract_lets +onlyGivenNames x; refine (fun hx : Fr f a x.2 => ?_) ?_; (on_goal 1 => clear_value x); (on_goal 2 => subst x))
    | (extract_lets +onlyGivenNames x; clear_value x)
    | dsimp only

theorem Chip.answerOpt_fr {f : Frame} {a c : Chip} {q_} {result_} {data_} {nbytes_} (h : Fr f a c) (hp_trunk : Part.trunk ∈ f.parts) (hp_doors : Part.doors ∈ f.parts) (hp_reqs : Part.reqs ∈ f.parts) (hp_rates : Part.rates ∈ f.parts) :
    Fr f a (Chip.answerOpt c q_ result_ data_ nbytes_) := by
  unfold Chip.answerOpt
  repeat' first
    | with_reducible assumption
    | with_reducible apply Chip.answer_fr
    | intro _
    | split
    | (extract_lets +onlyGivenNames x; refine (fun hx : Fr f a x => ?_) ?_; (on_goal 1 => clear_value x); (on_goal 2 => subst x))
    | (extract_lets +onlyGivenNames x; refine (fun hx : Fr f a x.2 => ?_) ?_; (on_goal 1 => clear_value x); (on_goal 2 => subst x))
    | (extract_lets +onlyGivenNames x; clear_value x)
    | dsimp only

theorem Chip.dropSeq_fr {f : Frame} {a c : Chip} {q_} {e_} (h : Fr f a c) (hp_ports : Part.ports ∈ f.parts) :
    Fr f a (Chip.dropSeq c q_ e_) := by
  unfold Chip.dropSeq
  repeat' first
    | with_reducible assumption
    | with_reducible apply Chip.updPort_fr
    | intro _
    | split
    | (extract_lets +onlyGivenNames x; refine (fun hx : Fr f a x => ?_) ?_; (on_goal 1 => clear_value x); (on_goal 2 => subst x))
    | (extract_lets +onlyGivenNames x; refine (fun hx : Fr f a x.2 => ?_) ?_; (on_goal 1 => clear_value x); (on_goal 2 => subst x))
    | (extract_lets +onlyGivenNames x; clear_value x)
    | dsimp only

theorem Chip.beginRelease_fr {f : Frame} {a c : Chip} {d_} {cause_} {take_} (h : Fr f a c) (hp_doors : Part.doors ∈ f.parts) (hp_reqs : Part.reqs ∈ f.parts) (hp_rates : Part.rates ∈ f.parts) (hp_ports : Part.ports ∈ f.parts) :
    Fr f a (Chip.beginRelease c d_ cause_ take_) := by
  unfold Chip.beginRelease
  repeat' first
    | with_reducible assumption
    | with_reducible apply Chip.updDoorReqs_fr
    | with_reducible apply Fr.each
    | with_reducible apply Chip.cullDoor_fr
    | with_reducible apply Chip.dropSeq_fr
    | with_reducible exact fun _ => ⟨rfl, rfl, rfl⟩
    | with_reducible exact fun _ => DoorSt.push_same _ _
    | intro _
    | split
    | (extract_lets +onlyGivenNames x; refine (fun hx : Fr f a x => ?_) ?_; (on_goal 1 => clear_value x); (on_goal 2 => subst x))
    | (extract_lets +onlyGivenNames x; refine (fun hx : Fr f a x.2 => ?_) ?_; (on_goal 1 => clear_value x); (on_goal 2 => subst x))
    | (extract_lets +onlyGivenNames x; clear_value x)
    | dsimp only

theorem Chip.release_fr {f : Frame} {a c : Chip} {d_} {cause_} {take_} (h : Fr f a c) (hp_trunk : Part.trunk ∈ f.parts) (hp_doors : Part.doors ∈ f.parts) (hp_reqs : Part.reqs ∈ f.parts) (hp_rates : Part.rates ∈ f.parts) (hp_ports : Part.ports ∈ f.parts) :
    Fr f a (Chip.release c d_ cause_ take_) := by
  unfold Chip.release
  repeat' first
    | with_reducible assumption
    | with_reducible apply Chip.finishRelease_fr
    | with_reducible apply Chip.beginRelease_fr
    | intro _
    | split
    | (extract_lets +onlyGivenNames x; refine (fun hx : Fr f a x => ?_) ?_; (on_goal 1 => clear_value x); (on_goal 2 => subst x))
    | (extract_lets +onlyGivenNames x; refine (fun hx : Fr f a x.2 => ?_) ?_; (on_goal 1 => clear_value x); (on_goal 2 => subst x))
    | (extract_lets +onlyGivenNames x; clear_value x)
    | dsimp only

theorem Chip.releaseBy_fr {f : Frame} {a c : Chip} {q_} (h : Fr f a c) (hp_trunk : Part.trunk ∈ f.parts) (hp_doors : Part.doors ∈ f.parts) (hp_reqs : Part.reqs ∈ f.parts) (hp_rates : Part.rates ∈ f.parts) (hp_ports : Part.ports ∈ f.parts) :
    Fr f a (Chip.releaseBy c q_) := by
  unfold Chip.releaseBy
  repeat' first
    | with_reducible assumption
    | with_reducible apply Chip.finishRelease_fr
    | with_reducible apply Chip.updDoor_fr
    | with_reducible apply Chip.beginRelease_fr
    | with_reducible exact fun _ => ⟨rfl, rfl, rfl⟩
    | with_reducible exact fun _ => DoorSt.push_same _ _
    | intro _
    | split
    | (extract_lets +onlyGivenNames x; refine (fun hx : Fr f a x => ?_) ?_; (on_goal 1 => clear_value x); (on_goal 2 => subst x))
    | (extract_lets +onlyGivenNames x; refine (fun hx : Fr f a x.2 => ?_) ?_; (on_goal 1 => clear_value x); (on_goal 2 => subst x))
    | (extract_lets +onlyGivenNames x; clear_value x)
    | dsimp only

theorem Chip.lostReport_fr {f : Frame} {a c : Chip} {d_} (h : Fr f a c) (hp_clk : Part.clk ∈ f.parts) (hp_doors : Part.doors ∈ f.parts) (hp_bead : Part.bead ∈ f.parts) (hr_GLB_FAULT : f.regs .GLB_FAULT = true) :
    Fr f a (Chip.lostReport c d_) := by
  unfold Chip.lostReport
  repeat' first
    | with_reducible assumption
    | with_reducible apply Chip.postR_fr
    | with_reducible apply Chip.updDoor_fr
    | with_reducible apply Chip.fault_fr
    | with_reducible exact fun _ => ⟨rfl, rfl, rfl⟩
    | with_reducible exact fun _ => DoorSt.push_same _ _
    | intro _
    | split
    | (extract_lets +onlyGivenNames x; refine (fun hx : Fr f a x => ?_) ?_; (on_goal 1 => clear_value x); (on_goal 2 => subst x))
    | (extract_lets +onlyGivenNames x; refine (fun hx : Fr f a x.2 => ?_) ?_; (on_goal 1 => clear_value x); (on_goal 2 => subst x))
    | (extract_lets +onlyGivenNames x; clear_value x)
    | dsimp only

theorem Chip.escalate_fr {f : Frame} {a c : Chip} {ladder_} {rung_} {index_} {first_} (h : Fr f a c) (hp_doors : Part.doors ∈ f.parts) (hp_bead : Part.bead ∈ f.parts) (hr_ESC_LAST : f.regs .ESC_LAST = true) :
    Fr f a (Chip.escalate c ladder_ rung_ index_ first_) := by
  unfold Chip.escalate
  repeat' first
    | with_reducible assumption
    | with_reducible apply Chip.setF_fr
    | with_reducible apply Chip.bump_fr
    | with_reducible apply Chip.snapDue_fr
    | with_reducible apply Chip.post_fr
    | intro _
    | split
    | (extract_lets +onlyGivenNames x; refine (fun hx : Fr f a x => ?_) ?_; (on_goal 1 => clear_value x); (on_goal 2 => subst x))
    | (extract_lets +onlyGivenNames x; refine (fun hx : Fr f a x.2 => ?_) ?_; (on_goal 1 => clear_value x); (on_goal 2 => subst x))
    | (extract_lets +onlyGivenNames x; clear_value x)
    | dsimp only

theorem Chip.ungateBasins_fr {f : Frame} {a c : Chip}  (h : Fr f a c) (hp_basins : Part.basins ∈ f.parts) :
    Fr f a (Chip.ungateBasins c) := by
  unfold Chip.ungateBasins
  repeat' first
    | with_reducible assumption
    | intro _
    | split
    | (extract_lets +onlyGivenNames x; refine (fun hx : Fr f a x => ?_) ?_; (on_goal 1 => clear_value x); (on_goal 2 => subst x))
    | (extract_lets +onlyGivenNames x; refine (fun hx : Fr f a x.2 => ?_) ?_; (on_goal 1 => clear_value x); (on_goal 2 => subst x))
    | (extract_lets +onlyGivenNames x; clear_value x)
    | with_reducible refine Fr.basins ?_ ?_ _
    | dsimp only

theorem Chip.active_fr {f : Frame} {a c : Chip}  (h : Fr f a c) (hp_basins : Part.basins ∈ f.parts) (hp_pwr : Part.pwr ∈ f.parts) (hr_PWR_STATUS : f.regs .PWR_STATUS = true) :
    Fr f a (Chip.active c) := by
  unfold Chip.active
  repeat' first
    | with_reducible assumption
    | with_reducible apply Chip.updPwr_fr
    | with_reducible apply Chip.setF_fr
    | with_reducible apply Chip.ungateBasins_fr
    | intro _
    | split
    | (extract_lets +onlyGivenNames x; refine (fun hx : Fr f a x => ?_) ?_; (on_goal 1 => clear_value x); (on_goal 2 => subst x))
    | (extract_lets +onlyGivenNames x; refine (fun hx : Fr f a x.2 => ?_) ?_; (on_goal 1 => clear_value x); (on_goal 2 => subst x))
    | (extract_lets +onlyGivenNames x; clear_value x)
    | dsimp only

theorem Chip.serve_fr {f : Frame} {a c : Chip} {q_} {op_} {kinds_} {body_} (h : Fr f a c) (hb_body : ∀ x0 x1, Fr f a x1 → Fr f a (body_ x0 x1)) (hp_trunk : Part.trunk ∈ f.parts) (hp_doors : Part.doors ∈ f.parts) (hp_reqs : Part.reqs ∈ f.parts) (hp_rates : Part.rates ∈ f.parts) (hp_basins : Part.basins ∈ f.parts) (hp_ports : Part.ports ∈ f.parts) (hp_pwr : Part.pwr ∈ f.parts) (hr_PWR_STATUS : f.regs .PWR_STATUS = true) :
    Fr f a (Chip.serve c q_ op_ kinds_ body_) := by
  unfold Chip.serve
  repeat' first
    | with_reducible assumption
    | with_reducible apply hb_body
    | with_reducible apply Chip.answer_fr
    | with_reducible apply Chip.setReqSt_fr
    | with_reducible apply Chip.cullDoor_fr
    | with_reducible apply Chip.dropSeq_fr
    | with_reducible apply Chip.active_fr
    | intro _
    | split
    | (extract_lets +onlyGivenNames x; refine (fun hx : Fr f a x => ?_) ?_; (on_goal 1 => clear_value x); (on_goal 2 => subst x))
    | (extract_lets +onlyGivenNames x; refine (fun hx : Fr f a x.2 => ?_) ?_; (on_goal 1 => clear_value x); (on_goal 2 => subst x))
    | (extract_lets +onlyGivenNames x; clear_value x)
    | dsimp only

theorem Chip.servePort_fr {f : Frame} {a c : Chip} {q_} {op_} {body_} (h : Fr f a c) (hb_body : ∀ x0 x1 x2, Fr f a x2 → Fr f a (body_ x0 x1 x2)) (hp_trunk : Part.trunk ∈ f.parts) (hp_doors : Part.doors ∈ f.parts) (hp_reqs : Part.reqs ∈ f.parts) (hp_rates : Part.rates ∈ f.parts) (hp_basins : Part.basins ∈ f.parts) (hp_ports : Part.ports ∈ f.parts) (hp_pwr : Part.pwr ∈ f.parts) (hr_PWR_STATUS : f.regs .PWR_STATUS = true) :
    Fr f a (Chip.servePort c q_ op_ body_) := by
  unfold Chip.servePort
  repeat' first
    | with_reducible assumption
    | with_reducible apply hb_body
    | with_reducible apply Chip.serve_fr
    | intro _
    | split
    | (extract_lets +onlyGivenNames x; refine (fun hx : Fr f a x => ?_) ?_; (on_goal 1 => clear_value x); (on_goal 2 => subst x))
    | (extract_lets +onlyGivenNames x; refine (fun hx : Fr f a x.2 => ?_) ?_; (on_goal 1 => clear_value x); (on_goal 2 => subst x))
    | (extract_lets +onlyGivenNames x; clear_value x)
    | dsimp only

theorem Chip.serveNode_fr {f : Frame} {a c : Chip} {q_} {op_} {body_} (h : Fr f a c) (hb_body : ∀ x0 x1 x2 x3, Fr f a x3 → Fr f a (body_ x0 x1 x2 x3)) (hp_trunk : Part.trunk ∈ f.parts) (hp_doors : Part.doors ∈ f.parts) (hp_reqs : Part.reqs ∈ f.parts) (hp_rates : Part.rates ∈ f.parts) (hp_basins : Part.basins ∈ f.parts) (hp_ports : Part.ports ∈ f.parts) (hp_pwr : Part.pwr ∈ f.parts) (hr_PWR_STATUS : f.regs .PWR_STATUS = true) :
    Fr f a (Chip.serveNode c q_ op_ body_) := by
  unfold Chip.serveNode
  repeat' first
    | with_reducible assumption
    | with_reducible apply hb_body
    | with_reducible apply Chip.serve_fr
    | intro _
    | split
    | (extract_lets +onlyGivenNames x; refine (fun hx : Fr f a x => ?_) ?_; (on_goal 1 => clear_value x); (on_goal 2 => subst x))
    | (extract_lets +onlyGivenNames x; refine (fun hx : Fr f a x.2 => ?_) ?_; (on_goal 1 => clear_value x); (on_goal 2 => subst x))
    | (extract_lets +onlyGivenNames x; clear_value x)
    | dsimp only

theorem Chip.refuseUnknown_fr {f : Frame} {a c : Chip} {q_} (h : Fr f a c) (hp_trunk : Part.trunk ∈ f.parts) (hp_doors : Part.doors ∈ f.parts) (hp_reqs : Part.reqs ∈ f.parts) (hp_rates : Part.rates ∈ f.parts) (hp_basins : Part.basins ∈ f.parts) (hp_ports : Part.ports ∈ f.parts) (hp_pwr : Part.pwr ∈ f.parts) (hr_PWR_STATUS : f.regs .PWR_STATUS = true) :
    Fr f a (Chip.refuseUnknown c q_) := by
  unfold Chip.refuseUnknown
  repeat' first
    | with_reducible assumption
    | with_reducible apply Chip.serve_fr
    | with_reducible apply Chip.answer_fr
    | intro _
    | split
    | (extract_lets +onlyGivenNames x; refine (fun hx : Fr f a x => ?_) ?_; (on_goal 1 => clear_value x); (on_goal 2 => subst x))
    | (extract_lets +onlyGivenNames x; refine (fun hx : Fr f a x.2 => ?_) ?_; (on_goal 1 => clear_value x); (on_goal 2 => subst x))
    | (extract_lets +onlyGivenNames x; clear_value x)
    | dsimp only

/-! ### Machine/Cross.lean -/

theorem Chip.cdcOverrun_fr {f : Frame} {a c : Chip} {block_} {num_} (h : Fr f a c) (hp_clk : Part.clk ∈ f.parts) (hp_doors : Part.doors ∈ f.parts) (hp_bead : Part.bead ∈ f.parts) (hr_CDC_OVR : f.regs .CDC_OVR = true) (hr_GLB_FAULT : f.regs .GLB_FAULT = true) :
    Fr f a (Chip.cdcOverrun c block_ num_) := by
  unfold Chip.cdcOverrun
  repeat' first
    | with_reducible assumption
    | with_reducible apply Chip.record_fr
    | with_reducible apply Chip.postFault_fr
    | intro _
    | split
    | (extract_lets +onlyGivenNames x; refine (fun hx : Fr f a x => ?_) ?_; (on_goal 1 => clear_value x); (on_goal 2 => subst x))
    | (extract_lets +onlyGivenNames x; refine (fun hx : Fr f a x.2 => ?_) ?_; (on_goal 1 => clear_value x); (on_goal 2 => subst x))
    | (extract_lets +onlyGivenNames x; clear_value x)
    | dsimp only

theorem Chip.dropPulses_fr {f : Frame} {a c : Chip} {p_} (h : Fr f a c) (hp_clk : Part.clk ∈ f.parts) :
    Fr f a (Chip.dropPulses c p_) := by
  unfold Chip.dropPulses
  repeat' first
    | with_reducible assumption
    | with_reducible apply Chip.updClk_fr
    | intro _
    | split
    | (extract_lets +onlyGivenNames x; refine (fun hx : Fr f a x => ?_) ?_; (on_goal 1 => clear_value x); (on_goal 2 => subst x))
    | (extract_lets +onlyGivenNames x; refine (fun hx : Fr f a x.2 => ?_) ?_; (on_goal 1 => clear_value x); (on_goal 2 => subst x))
    | (extract_lets +onlyGivenNames x; clear_value x)
    | dsimp only

theorem Chip.pulse_fr {f : Frame} {a c : Chip} {block_} {num_} {item_} {span_} {carry_} (h : Fr f a c) (hb_carry : ∀ x0, Fr f a x0 → Fr f a (carry_ x0)) (hp_clk : Part.clk ∈ f.parts) (hp_doors : Part.doors ∈ f.parts) (hp_bead : Part.bead ∈ f.parts) (hr_CDC_OVR : f.regs .CDC_OVR = true) (hr_GLB_FAULT : f.regs .GLB_FAULT = true) :
    Fr f a (Chip.pulse c block_ num_ item_ span_ carry_) := by
  unfold Chip.pulse
  repeat' first
    | with_reducible assumption
    | with_reducible apply hb_carry
    | with_reducible apply Chip.cdcOverrun_fr
    | with_reducible apply Chip.updClk_fr
    | intro _
    | split
    | (extract_lets +onlyGivenNames x; refine (fun hx : Fr f a x => ?_) ?_; (on_goal 1 => clear_value x); (on_goal 2 => subst x))
    | (extract_lets +onlyGivenNames x; refine (fun hx : Fr f a x.2 => ?_) ?_; (on_goal 1 => clear_value x); (on_goal 2 => subst x))
    | (extract_lets +onlyGivenNames x; clear_value x)
    | dsimp only

theorem Chip.deliverHeld_fr {f : Frame} {a c : Chip} {p_} {act_} (h : Fr f a c) (hb_act : ∀ x0 x1, Fr f a x0 → Fr f a (act_ x0 x1)) (hp_clk : Part.clk ∈ f.parts) :
    Fr f a (Chip.deliverHeld c p_ act_) := by
  unfold Chip.deliverHeld
  repeat' first
    | with_reducible assumption
    | with_reducible apply hb_act
    | with_reducible apply Chip.updClk_fr
    | with_reducible apply Fr.each
    | intro _
    | split
    | (extract_lets +onlyGivenNames x; refine (fun hx : Fr f a x => ?_) ?_; (on_goal 1 => clear_value x); (on_goal 2 => subst x))
    | (extract_lets +onlyGivenNames x; refine (fun hx : Fr f a x.2 => ?_) ?_; (on_goal 1 => clear_value x); (on_goal 2 => subst x))
    | (extract_lets +onlyGivenNames x; clear_value x)
    | dsimp only

/-! ### Machine/Norm.lean -/

theorem Chip.cfgWritten_fr {f : Frame} {a c : Chip} {r_} (h : Fr f a c) (hp_fab : Part.fab ∈ f.parts) :
    Fr f a (Chip.cfgWritten c r_) := by
  unfold Chip.cfgWritten
  repeat' first
    | with_reducible assumption
    | with_reducible apply Chip.updFab_fr
    | intro _
    | split
    | (extract_lets +onlyGivenNames x; refine (fun hx : Fr f a x => ?_) ?_; (on_goal 1 => clear_value x); (on_goal 2 => subst x))
    | (extract_lets +onlyGivenNames x; refine (fun hx : Fr f a x.2 => ?_) ?_; (on_goal 1 => clear_value x); (on_goal 2 => subst x))
    | (extract_lets +onlyGivenNames x; clear_value x)
    | dsimp only

theorem Chip.wrRW_fr {f : Frame} {a c : Chip} {r} {w_} (h : Fr f a c) (hp_fab : Part.fab ∈ f.parts) (hr : f.regs r = true) :
    Fr f a (Chip.wrRW c r w_) := by
  unfold Chip.wrRW
  repeat' first
    | with_reducible assumption
    | exact hr
    | with_reducible apply Fr.wr
    | with_reducible apply Chip.cfgWritten_fr
    | intro _
    | split
    | (extract_lets +onlyGivenNames x; refine (fun hx : Fr f a x => ?_) ?_; (on_goal 1 => clear_value x); (on_goal 2 => subst x))
    | (extract_lets +onlyGivenNames x; refine (fun hx : Fr f a x.2 => ?_) ?_; (on_goal 1 => clear_value x); (on_goal 2 => subst x))
    | (extract_lets +onlyGivenNames x; clear_value x)
    | dsimp only

theorem Chip.setRW_fr {f : Frame} {a c : Chip} {r} {f_} {v_} (h : Fr f a c) (hp_fab : Part.fab ∈ f.parts) (hr : f.regs r = true) :
    Fr f a (Chip.setRW c r f_ v_) := by
  unfold Chip.setRW
  repeat' first
    | with_reducible assumption
    | exact hr
    | with_reducible apply Fr.wr
    | with_reducible apply Chip.cfgWritten_fr
    | intro _
    | split
    | (extract_lets +onlyGivenNames x; refine (fun hx : Fr f a x => ?_) ?_; (on_goal 1 => clear_value x); (on_goal 2 => subst x))
    | (extract_lets +onlyGivenNames x; refine (fun hx : Fr f a x.2 => ?_) ?_; (on_goal 1 => clear_value x); (on_goal 2 => subst x))
    | (extract_lets +onlyGivenNames x; clear_value x)
    | dsimp only

/-! ### Machine/PondOps.lean -/

theorem Chip.setCtx_fr {f : Frame} {a c : Chip} {cid_} {x_} (h : Fr f a c) (hp_pond : Part.pond ∈ f.parts) :
    Fr f a (Chip.setCtx c cid_ x_) := by
  unfold Chip.setCtx
  repeat' first
    | with_reducible assumption
    | with_reducible apply Chip.updPond_fr
    | intro _
    | split
    | (extract_lets +onlyGivenNames x; refine (fun hx : Fr f a x => ?_) ?_; (on_goal 1 => clear_value x); (on_goal 2 => subst x))
    | (extract_lets +onlyGivenNames x; refine (fun hx : Fr f a x.2 => ?_) ?_; (on_goal 1 => clear_value x); (on_goal 2 => subst x))
    | (extract_lets +onlyGivenNames x; clear_value x)
    | dsimp only

theorem Chip.setBody_fr {f : Frame} {a c : Chip} {cid_} {b_} (h : Fr f a c) (hp_pond : Part.pond ∈ f.parts) :
    Fr f a (Chip.setBody c cid_ b_) := by
  unfold Chip.setBody
  repeat' first
    | with_reducible assumption
    | with_reducible apply Chip.setCtx_fr
    | intro _
    | split
    | (extract_lets +onlyGivenNames x; refine (fun hx : Fr f a x => ?_) ?_; (on_goal 1 => clear_value x); (on_goal 2 => subst x))
    | (extract_lets +onlyGivenNames x; refine (fun hx : Fr f a x.2 => ?_) ?_; (on_goal 1 => clear_value x); (on_goal 2 => subst x))
    | (extract_lets +onlyGivenNames x; clear_value x)
    | dsimp only

theorem Chip.poolEvents_fr {f : Frame} {a c : Chip}  (h : Fr f a c) (hp_doors : Part.doors ∈ f.parts) (hp_rates : Part.rates ∈ f.parts) (hp_pond : Part.pond ∈ f.parts) (hr_POND_STATUS : f.regs .POND_STATUS = true) :
    Fr f a (Chip.poolEvents c) := by
  unfold Chip.poolEvents
  repeat' first
    | with_reducible assumption
    | with_reducible apply Chip.setSt_fr
    | with_reducible apply Chip.postRate_fr
    | with_reducible apply Chip.updPond_fr
    | intro _
    | split
    | (extract_lets +onlyGivenNames x; refine (fun hx : Fr f a x => ?_) ?_; (on_goal 1 => clear_value x); (on_goal 2 => subst x))
    | (extract_lets +onlyGivenNames x; refine (fun hx : Fr f a x.2 => ?_) ?_; (on_goal 1 => clear_value x); (on_goal 2 => subst x))
    | (extract_lets +onlyGivenNames x; clear_value x)
    | dsimp only

theorem Chip.quotaCheck_fr {f : Frame} {a c : Chip} {h_} {newQuota_} (h : Fr f a c) (hp_doors : Part.doors ∈ f.parts) (hr_HOLDER_USED : ∀ n, f.regs (.HOLDER_USED n) = true) :
    Fr f a (Chip.quotaCheck c h_ newQuota_) := by
  unfold Chip.quotaCheck
  repeat' first
    | with_reducible assumption
    | with_reducible exact hr_HOLDER_USED _
    | with_reducible apply Chip.setB_fr
    | with_reducible apply Chip.post_fr
    | intro _
    | split
    | (extract_lets +onlyGivenNames x; refine (fun hx : Fr f a x => ?_) ?_; (on_goal 1 => clear_value x); (on_goal 2 => subst x))
    | (extract_lets +onlyGivenNames x; refine (fun hx : Fr f a x.2 => ?_) ?_; (on_goal 1 => clear_value x); (on_goal 2 => subst x))
    | (extract_lets +onlyGivenNames x; clear_value x)
    | dsimp only

theorem Chip.overcommit_fr {f : Frame} {a c : Chip}  (h : Fr f a c) (hp_doors : Part.doors ∈ f.parts) (hr_POND_STATUS : f.regs .POND_STATUS = true) :
    Fr f a (Chip.overcommit c) := by
  unfold Chip.overcommit
  repeat' first
    | with_reducible assumption
    | with_reducible apply Chip.setSt_fr
    | with_reducible apply Chip.post_fr
    | intro _
    | split
    | (extract_lets +onlyGivenNames x; refine (fun hx : Fr f a x => ?_) ?_; (on_goal 1 => clear_value x); (on_goal 2 => subst x))
    | (extract_lets +onlyGivenNames x; refine (fun hx : Fr f a x.2 => ?_) ?_; (on_goal 1 => clear_value x); (on_goal 2 => subst x))
    | (extract_lets +onlyGivenNames x; clear_value x)
    | dsimp only

theorem Chip.grantCtxs_fr {f : Frame} {a c : Chip} {h_} {g_} {cids_} (h : Fr f a c) (hp_pond : Part.pond ∈ f.parts) :
    Fr f a (Chip.grantCtxs c h_ g_ cids_) := by
  unfold Chip.grantCtxs
  repeat' first
    | with_reducible assumption
    | with_reducible apply Fr.each
    | with_reducible apply Chip.setCtx_fr
    | intro _
    | split
    | (extract_lets +onlyGivenNames x; refine (fun hx : Fr f a x => ?_) ?_; (on_goal 1 => clear_value x); (on_goal 2 => subst x))
    | (extract_lets +onlyGivenNames x; refine (fun hx : Fr f a x.2 => ?_) ?_; (on_goal 1 => clear_value x); (on_goal 2 => subst x))
    | (extract_lets +onlyGivenNames x; clear_value x)
    | dsimp only

theorem Chip.take_fr2 {f : Frame} {a c : Chip} {h_} {g_} {n_} (h : Fr f a c) (hp_doors : Part.doors ∈ f.parts) (hp_rates : Part.rates ∈ f.parts) (hp_pond : Part.pond ∈ f.parts) (hr_HOLDER_USED : ∀ n, f.regs (.HOLDER_USED n) = true) (hr_POND_FREE : f.regs .POND_FREE = true) (hr_POND_STATUS : f.regs .POND_STATUS = true) :
    Fr f a (Chip.take c h_ g_ n_).2 := by
  unfold Chip.take
  repeat' first
    | with_reducible assumption
    | with_reducible exact hr_HOLDER_USED _
    | with_reducible apply Chip.grantCtxs_fr
    | with_reducible apply Chip.setF_fr
    | with_reducible apply Chip.poolEvents_fr
    | intro _
    | split
    | (extract_lets +onlyGivenNames x; refine (fun hx : Fr f a x => ?_) ?_; (on_goal 1 => clear_value x); (on_goal 2 => subst x))
    | (extract_lets +onlyGivenNames x; refine (fun hx : Fr f a x.2 => ?_) ?_; (on_goal 1 => clear_value x); (on_goal 2 => subst x))
    | (extract_lets +onlyGivenNames x; clear_value x)
    | dsimp only

theorem Chip.take_fr {f : Frame} {a c c1 : Chip} {h_} {g_} {n_} {y1} (e : Chip.take c h_ g_ n_ = (y1, c1)) (h : Fr f a c) (hp_doors : Part.doors ∈ f.parts) (hp_rates : Part.rates ∈ f.parts) (hp_pond : Part.pond ∈ f.parts) (hr_HOLDER_USED : ∀ n, f.regs (.HOLDER_USED n) = true) (hr_POND_FREE : f.regs .POND_FREE = true) (hr_POND_STATUS : f.regs .POND_STATUS = true) :
    Fr f a c1 := by
  have key := Chip.take_fr2 (h_ := h_) (g_ := g_) (n_ := n_) h hp_doors hp_rates hp_pond hr_HOLDER_USED hr_POND_FREE hr_POND_STATUS
  rwa [e] at key

theorem Chip.alloc_fr2 {f : Frame} {a c : Chip} {h_} {g_} {n_} (h : Fr f a c) (hp_doors : Part.doors ∈ f.parts) (hp_rates : Part.rates ∈ f.parts) (hp_pond : Part.pond ∈ f.parts) (hr_HOLDER_USED : ∀ n, f.regs (.HOLDER_USED n) = true) (hr_POND_FREE : f.regs .POND_FREE = true) (hr_POND_STATUS : f.regs .POND_STATUS = true) :
    Fr f a (Chip.alloc c h_ g_ n_).2 := by
  unfold Chip.alloc
  repeat' first
    | with_reducible assumption
    | with_reducible exact hr_HOLDER_USED _
    | with_reducible refine Chip.take_fr ‹_› ?_ ?_ ?_ ?_ ?_ ?_ ?_
    | with_reducible apply Chip.take_fr2
    | with_reducible refine Fr.ofIte ‹_› ?_ ?_
    | intro _
    | split
    | (extract_lets +onlyGivenNames x; refine (fun hx : Fr f a x => ?_) ?_; (on_goal 1 => clear_value x); (on_goal 2 => subst x))
    | (extract_lets +onlyGivenNames x; refine (fun hx : Fr f a x.2 => ?_) ?_; (on_goal 1 => clear_value x); (on_goal 2 => subst x))
    | (extract_lets +onlyGivenNames x; clear_value x)
    | dsimp only

theorem Chip.alloc_fr {f : Frame} {a c c1 : Chip} {h_} {g_} {n_} {y1} (e : Chip.alloc c h_ g_ n_ = (y1, c1)) (h : Fr f a c) (hp_doors : Part.doors ∈ f.parts) (hp_rates : Part.rates ∈ f.parts) (hp_pond : Part.pond ∈ f.parts) (hr_HOLDER_USED : ∀ n, f.regs (.HOLDER_USED n) = true) (hr_POND_FREE : f.regs .POND_FREE = true) (hr_POND_STATUS : f.regs .POND_STATUS = true) :
    Fr f a c1 := by
  have key := Chip.alloc_fr2 (h_ := h_) (g_ := g_) (n_ := n_) h hp_doors hp_rates hp_pond hr_HOLDER_USED hr_POND_FREE hr_POND_STATUS
  rwa [e] at key

theorem Chip.allocMany_fr {f : Frame} {a c c1 : Chip} {k h g n got y} (e : Chip.allocMany k h g n got c = (y, c1)) (hc : Fr f a c)
    (hp_doors : Part.doors ∈ f.parts) (hp_rates : Part.rates ∈ f.parts) (hp_pond : Part.pond ∈ f.parts) (hr_HOLDER_USED : ∀ n, f.regs (.HOLDER_USED n) = true) (hr_POND_FREE : f.regs .POND_FREE = true) (hr_POND_STATUS : f.regs .POND_STATUS = true) : Fr f a c1 := by
  induction k generalizing c c1 n got y with
  | zero =>
    simp only [Chip.allocMany, Prod.mk.injEq] at e
    exact e.2 ▸ hc
  | succ k ih =>
    unfold Chip.allocMany at e
    split at e
    · exact (Prod.mk.inj e).2 ▸ hc
    · split at e
      · exact ih e (Chip.alloc_fr ‹_› hc hp_doors hp_rates hp_pond hr_HOLDER_USED hr_POND_FREE hr_POND_STATUS)
      · exact (Prod.mk.inj e).2 ▸ Chip.alloc_fr ‹_› hc hp_doors hp_rates hp_pond hr_HOLDER_USED hr_POND_FREE hr_POND_STATUS

theorem Chip.syncWaiters_fr {f : Frame} {a c : Chip}  (h : Fr f a c) (hr_POND_STATUS : f.regs .POND_STATUS = true) (hr_POND_WAIT : f.regs .POND_WAIT = true) :
    Fr f a (Chip.syncWaiters c) := by
  unfold Chip.syncWaiters
  repeat' first
    | with_reducible assumption
    | with_reducible apply Chip.setF_fr
    | with_reducible apply Chip.setSt_fr
    | intro _
    | split
    | (extract_lets +onlyGivenNames x; refine (fun hx : Fr f a x => ?_) ?_; (on_goal 1 => clear_value x); (on_goal 2 => subst x))
    | (extract_lets +onlyGivenNames x; refine (fun hx : Fr f a x.2 => ?_) ?_; (on_goal 1 => clear_value x); (on_goal 2 => subst x))
    | (extract_lets +onlyGivenNames x; clear_value x)
    | dsimp only

theorem Chip.waitJoin_fr {f : Frame} {a c : Chip} {w_} (h : Fr f a c) (hp_doors : Part.doors ∈ f.parts) (hp_pond : Part.pond ∈ f.parts) (hr_POND_STATUS : f.regs .POND_STATUS = true) (hr_POND_WAIT : f.regs .POND_WAIT = true) :
    Fr f a (Chip.waitJoin c w_) := by
  unfold Chip.waitJoin
  repeat' first
    | with_reducible assumption
    | with_reducible apply Chip.syncWaiters_fr
    | with_reducible apply Chip.updPond_fr
    | with_reducible apply Chip.post_fr
    | intro _
    | split
    | (extract_lets +onlyGivenNames x; refine (fun hx : Fr f a x => ?_) ?_; (on_goal 1 => clear_value x); (on_goal 2 => subst x))
    | (extract_lets +onlyGivenNames x; refine (fun hx : Fr f a x.2 => ?_) ?_; (on_goal 1 => clear_value x); (on_goal 2 => subst x))
    | (extract_lets +onlyGivenNames x; clear_value x)
    | dsimp only

theorem Chip.serveWaiters_fr {f : Frame} {a c : Chip} {n : Nat} (h : Fr f a c)
    (hp_doors : Part.doors ∈ f.parts) (hp_rates : Part.rates ∈ f.parts) (hp_pond : Part.pond ∈ f.parts) (hr_HOLDER_USED : ∀ n, f.regs (.HOLDER_USED n) = true) (hr_POND_FREE : f.regs .POND_FREE = true) (hr_POND_STATUS : f.regs .POND_STATUS = true) (hr_POND_WAIT : f.regs .POND_WAIT = true) : Fr f a (Chip.serveWaiters n c) := by
  induction n generalizing c with
  | zero => exact Chip.poolEvents_fr h hp_doors hp_rates hp_pond hr_POND_STATUS
  | succ n ih =>
    unfold Chip.serveWaiters
    repeat' first
      | assumption
      | exact hr_HOLDER_USED _
      | with_reducible apply ih
      | with_reducible apply Chip.setF_fr
      | with_reducible apply Chip.poolEvents_fr
      | with_reducible apply Chip.syncWaiters_fr
      | with_reducible apply Chip.updPond_fr
      | with_reducible apply Chip.take_fr2
      | with_reducible refine Chip.take_fr ‹_› ?_ ?_ ?_ ?_ ?_ ?_ ?_
      | split
      | extract_lets

theorem Chip.reserveFreed_fr {f : Frame} {a c : Chip}  (h : Fr f a c) (hp_doors : Part.doors ∈ f.parts) (hp_rates : Part.rates ∈ f.parts) (hp_pond : Part.pond ∈ f.parts) (hr_HOLDER_USED : ∀ n, f.regs (.HOLDER_USED n) = true) (hr_POND_FREE : f.regs .POND_FREE = true) (hr_POND_STATUS : f.regs .POND_STATUS = true) (hr_POND_WAIT : f.regs .POND_WAIT = true) :
    Fr f a (Chip.reserveFreed c) := by
  unfold Chip.reserveFreed
  repeat' first
    | with_reducible assumption
    | with_reducible exact hr_HOLDER_USED _
    | with_reducible apply Chip.setF_fr
    | with_reducible apply Chip.serveWaiters_fr
    | intro _
    | split
    | (extract_lets +onlyGivenNames x; refine (fun hx : Fr f a x => ?_) ?_; (on_goal 1 => clear_value x); (on_goal 2 => subst x))
    | (extract_lets +onlyGivenNames x; refine (fun hx : Fr f a x.2 => ?_) ?_; (on_goal 1 => clear_value x); (on_goal 2 => subst x))
    | (extract_lets +onlyGivenNames x; clear_value x)
    | dsimp only

theorem Chip.dropWaiters_fr {f : Frame} {a c : Chip} {gone_} (h : Fr f a c) (hp_doors : Part.doors ∈ f.parts) (hp_rates : Part.rates ∈ f.parts) (hp_pond : Part.pond ∈ f.parts) (hr_HOLDER_USED : ∀ n, f.regs (.HOLDER_USED n) = true) (hr_POND_FREE : f.regs .POND_FREE = true) (hr_POND_STATUS : f.regs .POND_STATUS = true) (hr_POND_WAIT : f.regs .POND_WAIT = true) :
    Fr f a (Chip.dropWaiters c gone_) := by
  unfold Chip.dropWaiters
  repeat' first
    | with_reducible assumption
    | with_reducible exact hr_HOLDER_USED _
    | with_reducible apply Chip.updPond_fr
    | with_reducible apply Chip.serveWaiters_fr
    | with_reducible apply Chip.syncWaiters_fr
    | intro _
    | split
    | (extract_lets +onlyGivenNames x; refine (fun hx : Fr f a x => ?_) ?_; (on_goal 1 => clear_value x); (on_goal 2 => subst x))
    | (extract_lets +onlyGivenNames x; refine (fun hx : Fr f a x.2 => ?_) ?_; (on_goal 1 => clear_value x); (on_goal 2 => subst x))
    | (extract_lets +onlyGivenNames x; clear_value x)
    | dsimp only

theorem Chip.evict_fr {f : Frame} {a c : Chip} {cid_} {x_} (h : Fr f a c) (hp_engines : Part.engines ∈ f.parts) :
    Fr f a (Chip.evict c cid_ x_) := by
  unfold Chip.evict
  repeat' first
    | with_reducible assumption
    | with_reducible apply Fr.each
    | with_reducible apply Chip.updEng_fr
    | intro _
    | split
    | (extract_lets +onlyGivenNames x; refine (fun hx : Fr f a x => ?_) ?_; (on_goal 1 => clear_value x); (on_goal 2 => subst x))
    | (extract_lets +onlyGivenNames x; refine (fun hx : Fr f a x.2 => ?_) ?_; (on_goal 1 => clear_value x); (on_goal 2 => subst x))
    | (extract_lets +onlyGivenNames x; clear_value x)
    | dsimp only

theorem Chip.freeCtx_fr {f : Frame} {a c : Chip} {cid_} (h : Fr f a c) (hp_doors : Part.doors ∈ f.parts) (hp_rates : Part.rates ∈ f.parts) (hp_pond : Part.pond ∈ f.parts) (hp_engines : Part.engines ∈ f.parts) (hr_HOLDER_USED : ∀ n, f.regs (.HOLDER_USED n) = true) (hr_POND_FREE : f.regs .POND_FREE = true) (hr_POND_STATUS : f.regs .POND_STATUS = true) (hr_POND_WAIT : f.regs .POND_WAIT = true) :
    Fr f a (Chip.freeCtx c cid_) := by
  unfold Chip.freeCtx
  repeat' first
    | with_reducible assumption
    | with_reducible exact hr_HOLDER_USED _
    | with_reducible apply Chip.setCtx_fr
    | with_reducible apply Chip.evict_fr
    | with_reducible apply Chip.setF_fr
    | with_reducible apply Chip.quotaCheck_fr
    | with_reducible apply Chip.poolEvents_fr
    | with_reducible apply Chip.reserveFreed_fr
    | intro _
    | split
    | (extract_lets +onlyGivenNames x; refine (fun hx : Fr f a x => ?_) ?_; (on_goal 1 => clear_value x); (on_goal 2 => subst x))
    | (extract_lets +onlyGivenNames x; refine (fun hx : Fr f a x.2 => ?_) ?_; (on_goal 1 => clear_value x); (on_goal 2 => subst x))
    | (extract_lets +onlyGivenNames x; clear_value x)
    | dsimp only

theorem Chip.bulkFree_fr {f : Frame} {a c : Chip} {p_} (h : Fr f a c) (hp_doors : Part.doors ∈ f.parts) (hp_rates : Part.rates ∈ f.parts) (hp_pond : Part.pond ∈ f.parts) (hp_engines : Part.engines ∈ f.parts) (hr_HOLDER_USED : ∀ n, f.regs (.HOLDER_USED n) = true) (hr_POND_FREE : f.regs .POND_FREE = true) (hr_POND_STATUS : f.regs .POND_STATUS = true) (hr_POND_WAIT : f.regs .POND_WAIT = true) :
    Fr f a (Chip.bulkFree c p_) := by
  unfold Chip.bulkFree
  repeat' first
    | with_reducible assumption
    | with_reducible exact hr_HOLDER_USED _
    | with_reducible apply Chip.updPond_fr
    | with_reducible apply Fr.each
    | with_reducible apply Chip.freeCtx_fr
    | intro _
    | split
    | (extract_lets +onlyGivenNames x; refine (fun hx : Fr f a x => ?_) ?_; (on_goal 1 => clear_value x); (on_goal 2 => subst x))
    | (extract_lets +onlyGivenNames x; refine (fun hx : Fr f a x.2 => ?_) ?_; (on_goal 1 => clear_value x); (on_goal 2 => subst x))
    | (extract_lets +onlyGivenNames x; clear_value x)
    | dsimp only

theorem Chip.afterFree_fr {f : Frame} {a c : Chip} {r_} {now_} (h : Fr f a c) (hb_now : ∀ x0, Fr f a x0 → Fr f a (now_ x0)) (hp_pond : Part.pond ∈ f.parts) :
    Fr f a (Chip.afterFree c r_ now_) := by
  unfold Chip.afterFree
  repeat' first
    | with_reducible assumption
    | with_reducible apply hb_now
    | with_reducible apply Chip.updPond_fr
    | intro _
    | split
    | (extract_lets +onlyGivenNames x; refine (fun hx : Fr f a x => ?_) ?_; (on_goal 1 => clear_value x); (on_goal 2 => subst x))
    | (extract_lets +onlyGivenNames x; refine (fun hx : Fr f a x.2 => ?_) ?_; (on_goal 1 => clear_value x); (on_goal 2 => subst x))
    | (extract_lets +onlyGivenNames x; clear_value x)
    | dsimp only

theorem Chip.poison_fr {f : Frame} {a c : Chip} {cid_} (h : Fr f a c) (hp_doors : Part.doors ∈ f.parts) (hp_rates : Part.rates ∈ f.parts) (hp_pond : Part.pond ∈ f.parts) (hp_engines : Part.engines ∈ f.parts) (hr_HOLDER_USED : ∀ n, f.regs (.HOLDER_USED n) = true) (hr_POND_FREE : f.regs .POND_FREE = true) (hr_POND_POISONED : f.regs .POND_POISONED = true) (hr_POND_STATUS : f.regs .POND_STATUS = true) (hr_POND_WAIT : f.regs .POND_WAIT = true) :
    Fr f a (Chip.poison c cid_) := by
  unfold Chip.poison
  repeat' first
    | with_reducible assumption
    | with_reducible exact hr_HOLDER_USED _
    | with_reducible apply Chip.setCtx_fr
    | with_reducible apply Chip.evict_fr
    | with_reducible apply Chip.setF_fr
    | with_reducible apply Chip.poolEvents_fr
    | with_reducible apply Chip.quotaCheck_fr
    | intro _
    | split
    | (extract_lets +onlyGivenNames x; refine (fun hx : Fr f a x => ?_) ?_; (on_goal 1 => clear_value x); (on_goal 2 => subst x))
    | (extract_lets +onlyGivenNames x; refine (fun hx : Fr f a x.2 => ?_) ?_; (on_goal 1 => clear_value x); (on_goal 2 => subst x))
    | (extract_lets +onlyGivenNames x; clear_value x)
    | dsimp only

theorem Chip.setQuota_fr {f : Frame} {a c : Chip} {h_} {q_} (h : Fr f a c) (hp_doors : Part.doors ∈ f.parts) (hr_HOLDER_QUOTA : ∀ n, f.regs (.HOLDER_QUOTA n) = true) (hr_HOLDER_USED : ∀ n, f.regs (.HOLDER_USED n) = true) (hr_POND_QSUM : f.regs .POND_QSUM = true) (hr_POND_STATUS : f.regs .POND_STATUS = true) :
    Fr f a (Chip.setQuota c h_ q_) := by
  unfold Chip.setQuota
  repeat' first
    | with_reducible assumption
    | with_reducible exact hr_HOLDER_QUOTA _
    | with_reducible exact hr_HOLDER_USED _
    | with_reducible apply Chip.setF_fr
    | with_reducible apply Chip.overcommit_fr
    | with_reducible apply Chip.quotaCheck_fr
    | intro _
    | split
    | (extract_lets +onlyGivenNames x; refine (fun hx : Fr f a x => ?_) ?_; (on_goal 1 => clear_value x); (on_goal 2 => subst x))
    | (extract_lets +onlyGivenNames x; refine (fun hx : Fr f a x.2 => ?_) ?_; (on_goal 1 => clear_value x); (on_goal 2 => subst x))
    | (extract_lets +onlyGivenNames x; clear_value x)
    | dsimp only

theorem Chip.touchBy_fr {f : Frame} {a c : Chip} {r_} {cid_} {dirty_} (h : Fr f a c) (hp_engines : Part.engines ∈ f.parts) :
    Fr f a (Chip.touchBy c r_ cid_ dirty_) := by
  unfold Chip.touchBy
  repeat' first
    | with_reducible assumption
    | with_reducible apply Chip.updEng_fr
    | intro _
    | split
    | (extract_lets +onlyGivenNames x; refine (fun hx : Fr f a x => ?_) ?_; (on_goal 1 => clear_value x); (on_goal 2 => subst x))
    | (extract_lets +onlyGivenNames x; refine (fun hx : Fr f a x.2 => ?_) ?_; (on_goal 1 => clear_value x); (on_goal 2 => subst x))
    | (extract_lets +onlyGivenNames x; clear_value x)
    | dsimp only

theorem Chip.touchPool_fr {f : Frame} {a c : Chip} {n_} {cid_} {dirty_} (h : Fr f a c) (hp_engines : Part.engines ∈ f.parts) :
    Fr f a (Chip.touchPool c n_ cid_ dirty_) := by
  unfold Chip.touchPool
  repeat' first
    | with_reducible assumption
    | with_reducible apply Chip.updEng_fr
    | intro _
    | split
    | (extract_lets +onlyGivenNames x; refine (fun hx : Fr f a x => ?_) ?_; (on_goal 1 => clear_value x); (on_goal 2 => subst x))
    | (extract_lets +onlyGivenNames x; refine (fun hx : Fr f a x.2 => ?_) ?_; (on_goal 1 => clear_value x); (on_goal 2 => subst x))
    | (extract_lets +onlyGivenNames x; clear_value x)
    | dsimp only

theorem Chip.engWrite_fr {f : Frame} {a c : Chip} {n_} {cid_} {b_} (h : Fr f a c) (hp_pond : Part.pond ∈ f.parts) (hp_engines : Part.engines ∈ f.parts) :
    Fr f a (Chip.engWrite c n_ cid_ b_) := by
  unfold Chip.engWrite
  repeat' first
    | with_reducible assumption
    | with_reducible apply Chip.touchBy_fr
    | with_reducible apply Chip.setBody_fr
    | intro _
    | split
    | (extract_lets +onlyGivenNames x; refine (fun hx : Fr f a x => ?_) ?_; (on_goal 1 => clear_value x); (on_goal 2 => subst x))
    | (extract_lets +onlyGivenNames x; refine (fun hx : Fr f a x.2 => ?_) ?_; (on_goal 1 => clear_value x); (on_goal 2 => subst x))
    | (extract_lets +onlyGivenNames x; clear_value x)
    | dsimp only

/-! ### Machine/Accept.lean -/

theorem Chip.accept_fr {f : Frame} {a c : Chip} {d_} {path_} {r_} {ttp_} (h : Fr f a c) (hp_doors : Part.doors ∈ f.parts) (hp_reqs : Part.reqs ∈ f.parts) (hp_ords : Part.ords ∈ f.parts) (hp_rates : Part.rates ∈ f.parts) (hp_pond : Part.pond ∈ f.parts) (hp_basins : Part.basins ∈ f.parts) (hp_ports : Part.ports ∈ f.parts) (hp_pwr : Part.pwr ∈ f.parts) (hr_HOLDER_USED : ∀ n, f.regs (.HOLDER_USED n) = true) (hr_POND_FREE : f.regs .POND_FREE = true) (hr_POND_STATUS : f.regs .POND_STATUS = true) (hr_POND_WAIT : f.regs .POND_WAIT = true) (hr_PWR_STATUS : f.regs .PWR_STATUS = true) :
    Fr f a (Chip.accept c d_ path_ r_ ttp_) := by
  unfold Chip.accept
  repeat' first
    | with_reducible assumption
    | with_reducible exact hr_HOLDER_USED _
    | with_reducible apply Chip.updDoorReqs_fr
    | with_reducible apply Chip.answerFree_fr
    | with_reducible apply Chip.cullDoor_fr
    | with_reducible apply Chip.active_fr
    | with_reducible apply Chip.bumpPort_fr
    | with_reducible apply Chip.updPort_fr
    | with_reducible apply Chip.dropWaiters_fr
    | with_reducible exact fun _ => ⟨rfl, rfl, rfl⟩
    | with_reducible exact fun _ => DoorSt.push_same _ _
    | intro _
    | split
    | (extract_lets +onlyGivenNames x; refine (fun hx : Fr f a x => ?_) ?_; (on_goal 1 => clear_value x); (on_goal 2 => subst x))
    | (extract_lets +onlyGivenNames x; refine (fun hx : Fr f a x.2 => ?_) ?_; (on_goal 1 => clear_value x); (on_goal 2 => subst x))
    | (extract_lets +onlyGivenNames x; clear_value x)
    | with_reducible refine Fr.nextOrd ?_ ?_ _
    | dsimp only

/-! ### Machine/CtxBytes.lean -/

theorem Chip.freeBytes_fr2 {f : Frame} {a c : Chip} {n_} (h : Fr f a c) (hp_free : Part.free ∈ f.parts) :
    Fr f a (Chip.freeBytes c n_).2 := by
  unfold Chip.freeBytes
  repeat' first
    | with_reducible assumption
    | intro _
    | split
    | (extract_lets +onlyGivenNames x; refine (fun hx : Fr f a x => ?_) ?_; (on_goal 1 => clear_value x); (on_goal 2 => subst x))
    | (extract_lets +onlyGivenNames x; refine (fun hx : Fr f a x.2 => ?_) ?_; (on_goal 1 => clear_value x); (on_goal 2 => subst x))
    | (extract_lets +onlyGivenNames x; clear_value x)
    | with_reducible refine Fr.freeCtr ?_ ?_ _
    | dsimp only

theorem Chip.freeBytes_fr {f : Frame} {a c c1 : Chip} {n_} {y1} (e : Chip.freeBytes c n_ = (y1, c1)) (h : Fr f a c) (hp_free : Part.free ∈ f.parts) :
    Fr f a c1 := by
  have key := Chip.freeBytes_fr2 (n_ := n_) h hp_free
  rwa [e] at key

theorem Chip.bodyBytes_fr2 {f : Frame} {a c : Chip} {b_} (h : Fr f a c) (hp_free : Part.free ∈ f.parts) :
    Fr f a (Chip.bodyBytes c b_).2 := by
  unfold Chip.bodyBytes
  repeat' first
    | with_reducible assumption
    | with_reducible refine Chip.freeBytes_fr ‹_› ?_ ?_
    | with_reducible apply Chip.freeBytes_fr2
    | with_reducible refine Fr.ofIte ‹_› ?_ ?_
    | intro _
    | split
    | (extract_lets +onlyGivenNames x; refine (fun hx : Fr f a x => ?_) ?_; (on_goal 1 => clear_value x); (on_goal 2 => subst x))
    | (extract_lets +onlyGivenNames x; refine (fun hx : Fr f a x.2 => ?_) ?_; (on_goal 1 => clear_value x); (on_goal 2 => subst x))
    | (extract_lets +onlyGivenNames x; clear_value x)
    | dsimp only

theorem Chip.bodyBytes_fr {f : Frame} {a c c1 : Chip} {b_} {y1} (e : Chip.bodyBytes c b_ = (y1, c1)) (h : Fr f a c) (hp_free : Part.free ∈ f.parts) :
    Fr f a c1 := by
  have key := Chip.bodyBytes_fr2 (b_ := b_) h hp_free
  rwa [e] at key

theorem Chip.ctxBytes_fr2 {f : Frame} {a c : Chip} {cid_} (h : Fr f a c) (hp_free : Part.free ∈ f.parts) :
    Fr f a (Chip.ctxBytes c cid_).2 := by
  unfold Chip.ctxBytes
  repeat' first
    | with_reducible assumption
    | with_reducible refine Chip.freeBytes_fr ‹_› ?_ ?_
    | with_reducible apply Chip.freeBytes_fr2
    | with_reducible refine Chip.bodyBytes_fr ‹_› ?_ ?_
    | with_reducible apply Chip.bodyBytes_fr2
    | with_reducible refine Fr.ofIte ‹_› ?_ ?_
    | intro _
    | split
    | (extract_lets +onlyGivenNames x; refine (fun hx : Fr f a x => ?_) ?_; (on_goal 1 => clear_value x); (on_goal 2 => subst x))
    | (extract_lets +onlyGivenNames x; refine (fun hx : Fr f a x.2 => ?_) ?_; (on_goal 1 => clear_value x); (on_goal 2 => subst x))
    | (extract_lets +onlyGivenNames x; clear_value x)
    | dsimp only

theorem Chip.ctxBytes_fr {f : Frame} {a c c1 : Chip} {cid_} {y1} (e : Chip.ctxBytes c cid_ = (y1, c1)) (h : Fr f a c) (hp_free : Part.free ∈ f.parts) :
    Fr f a c1 := by
  have key := Chip.ctxBytes_fr2 (cid_ := cid_) h hp_free
  rwa [e] at key

/-! ### Machine/StreamOps.lean -/

theorem Chip.updStrm_fr {f : Frame} {a c : Chip} {id_} {f_} (h : Fr f a c) (hp_svc : Part.svc ∈ f.parts) :
    Fr f a (Chip.updStrm c id_ f_) := by
  unfold Chip.updStrm
  repeat' first
    | with_reducible assumption
    | with_reducible apply Chip.updSvc_fr
    | intro _
    | split
    | (extract_lets +onlyGivenNames x; refine (fun hx : Fr f a x => ?_) ?_; (on_goal 1 => clear_value x); (on_goal 2 => subst x))
    | (extract_lets +onlyGivenNames x; refine (fun hx : Fr f a x.2 => ?_) ?_; (on_goal 1 => clear_value x); (on_goal 2 => subst x))
    | (extract_lets +onlyGivenNames x; clear_value x)
    | dsimp only

theorem Chip.evOverrun_fr {f : Frame} {a c : Chip} {s_} {dir_} {bytes_} (h : Fr f a c) (hp_doors : Part.doors ∈ f.parts) (hp_rates : Part.rates ∈ f.parts) :
    Fr f a (Chip.evOverrun c s_ dir_ bytes_) := by
  unfold Chip.evOverrun
  repeat' first
    | with_reducible assumption
    | with_reducible apply Chip.postRateR_fr
    | intro _
    | split
    | (extract_lets +onlyGivenNames x; refine (fun hx : Fr f a x => ?_) ?_; (on_goal 1 => clear_value x); (on_goal 2 => subst x))
    | (extract_lets +onlyGivenNames x; refine (fun hx : Fr f a x.2 => ?_) ?_; (on_goal 1 => clear_value x); (on_goal 2 => subst x))
    | (extract_lets +onlyGivenNames x; clear_value x)
    | dsimp only

theorem Chip.openRec_fr2 {f : Frame} {a c : Chip} {s_} {src_} {owner_} {hdr_} {data_} (h : Fr f a c) (hp_doors : Part.doors ∈ f.parts) (hp_rates : Part.rates ∈ f.parts) (hp_engines : Part.engines ∈ f.parts) (hp_svc : Part.svc ∈ f.parts) :
    Fr f a (Chip.openRec c s_ src_ owner_ hdr_ data_).2 := by
  unfold Chip.openRec
  repeat' first
    | with_reducible assumption
    | with_reducible apply Chip.evOverrun_fr
    | with_reducible apply Chip.updStrm_fr
    | with_reducible apply Chip.touchPool_fr
    | intro _
    | split
    | (extract_lets +onlyGivenNames x; refine (fun hx : Fr f a x => ?_) ?_; (on_goal 1 => clear_value x); (on_goal 2 => subst x))
    | (extract_lets +onlyGivenNames x; refine (fun hx : Fr f a x.2 => ?_) ?_; (on_goal 1 => clear_value x); (on_goal 2 => subst x))
    | (extract_lets +onlyGivenNames x; clear_value x)
    | dsimp only

theorem Chip.openRec_fr {f : Frame} {a c c1 : Chip} {s_} {src_} {owner_} {hdr_} {data_} {y1} (e : Chip.openRec c s_ src_ owner_ hdr_ data_ = (y1, c1)) (h : Fr f a c) (hp_doors : Part.doors ∈ f.parts) (hp_rates : Part.rates ∈ f.parts) (hp_engines : Part.engines ∈ f.parts) (hp_svc : Part.svc ∈ f.parts) :
    Fr f a c1 := by
  have key := Chip.openRec_fr2 (s_ := s_) (src_ := src_) (owner_ := owner_) (hdr_ := hdr_) (data_ := data_) h hp_doors hp_rates hp_engines hp_svc
  rwa [e] at key

theorem Chip.updRec_fr {f : Frame} {a c : Chip} {id_} {owner_} {f_} (h : Fr f a c) (hp_svc : Part.svc ∈ f.parts) :
    Fr f a (Chip.updRec c id_ owner_ f_) := by
  unfold Chip.updRec
  repeat' first
    | with_reducible assumption
    | with_reducible apply Chip.updStrm_fr
    | intro _
    | split
    | (extract_lets +onlyGivenNames x; refine (fun hx : Fr f a x => ?_) ?_; (on_goal 1 => clear_value x); (on_goal 2 => subst x))
    | (extract_lets +onlyGivenNames x; refine (fun hx : Fr f a x.2 => ?_) ?_; (on_goal 1 => clear_value x); (on_goal 2 => subst x))
    | (extract_lets +onlyGivenNames x; clear_value x)
    | dsimp only

theorem Chip.closeRec_fr {f : Frame} {a c : Chip} {id_} {owner_} {rflags_} (h : Fr f a c) (hp_svc : Part.svc ∈ f.parts) :
    Fr f a (Chip.closeRec c id_ owner_ rflags_) := by
  unfold Chip.closeRec
  repeat' first
    | with_reducible assumption
    | with_reducible apply Chip.updRec_fr
    | intro _
    | split
    | (extract_lets +onlyGivenNames x; refine (fun hx : Fr f a x => ?_) ?_; (on_goal 1 => clear_value x); (on_goal 2 => subst x))
    | (extract_lets +onlyGivenNames x; refine (fun hx : Fr f a x.2 => ?_) ?_; (on_goal 1 => clear_value x); (on_goal 2 => subst x))
    | (extract_lets +onlyGivenNames x; clear_value x)
    | dsimp only

theorem Chip.culletRecs_fr {f : Frame} {a c : Chip} {flags_} {p_} (h : Fr f a c) (hp_svc : Part.svc ∈ f.parts) :
    Fr f a (Chip.culletRecs c flags_ p_) := by
  unfold Chip.culletRecs
  repeat' first
    | with_reducible assumption
    | with_reducible apply Chip.updSvc_fr
    | intro _
    | split
    | (extract_lets +onlyGivenNames x; refine (fun hx : Fr f a x => ?_) ?_; (on_goal 1 => clear_value x); (on_goal 2 => subst x))
    | (extract_lets +onlyGivenNames x; refine (fun hx : Fr f a x.2 => ?_) ?_; (on_goal 1 => clear_value x); (on_goal 2 => subst x))
    | (extract_lets +onlyGivenNames x; clear_value x)
    | dsimp only

theorem Chip.putRec_fr2 {f : Frame} {a c : Chip} {s_} {src_} {hdr_} {data_} {flags_} {raw_} (h : Fr f a c) (hp_doors : Part.doors ∈ f.parts) (hp_rates : Part.rates ∈ f.parts) (hp_engines : Part.engines ∈ f.parts) (hp_basins : Part.basins ∈ f.parts) (hp_svc : Part.svc ∈ f.parts) (hp_pwr : Part.pwr ∈ f.parts) (hr_PWR_STATUS : f.regs .PWR_STATUS = true) :
    Fr f a (Chip.putRec c s_ src_ hdr_ data_ flags_ raw_).2 := by
  unfold Chip.putRec
  repeat' first
    | with_reducible assumption
    | with_reducible apply Chip.evOverrun_fr
    | with_reducible apply Chip.updStrm_fr
    | with_reducible apply Chip.active_fr
    | with_reducible apply Chip.touchPool_fr
    | intro _
    | split
    | (extract_lets +onlyGivenNames x; refine (fun hx : Fr f a x => ?_) ?_; (on_goal 1 => clear_value x); (on_goal 2 => subst x))
    | (extract_lets +onlyGivenNames x; refine (fun hx : Fr f a x.2 => ?_) ?_; (on_goal 1 => clear_value x); (on_goal 2 => subst x))
    | (extract_lets +onlyGivenNames x; clear_value x)
    | dsimp only

theorem Chip.putRec_fr {f : Frame} {a c c1 : Chip} {s_} {src_} {hdr_} {data_} {flags_} {raw_} {y1} (e : Chip.putRec c s_ src_ hdr_ data_ flags_ raw_ = (y1, c1)) (h : Fr f a c) (hp_doors : Part.doors ∈ f.parts) (hp_rates : Part.rates ∈ f.parts) (hp_engines : Part.engines ∈ f.parts) (hp_basins : Part.basins ∈ f.parts) (hp_svc : Part.svc ∈ f.parts) (hp_pwr : Part.pwr ∈ f.parts) (hr_PWR_STATUS : f.regs .PWR_STATUS = true) :
    Fr f a c1 := by
  have key := Chip.putRec_fr2 (s_ := s_) (src_ := src_) (hdr_ := hdr_) (data_ := data_) (flags_ := flags_) (raw_ := raw_) h hp_doors hp_rates hp_engines hp_basins hp_svc hp_pwr hr_PWR_STATUS
  rwa [e] at key

end Sys2Proof.Laws
end

