-- ==== Sys2Proof/Laws/FrameSvc.lean ====
section
/-! SUPPORT. What the shared operations of Machine/SvcOps, ChanBase, FwOps, BeadOps, SchedOps, DropOps can change (frames), and that they keep the canonical
forms. -/

set_option linter.all false

namespace Sys2Proof.Laws

open Sys2Proof.Machine

/-! ### Machine/SvcOps.lean -/

theorem Chip.updDev_fr {f : Frame} {a c : Chip} {n_} {route_} {f_} (h : Fr f a c) (hp_ports : Part.ports ∈ f.parts) :
    Fr f a (Chip.updDev c n_ route_ f_) := by
  unfold Chip.updDev
  repeat' first
    | with_reducible assumption
    | with_reducible apply Chip.updDrop_fr
    | intro _
    | split
    | (extract_lets +onlyGivenNames x; refine (fun hx : Fr f a x => ?_) ?_; (on_goal 1 => clear_value x); (on_goal 2 => subst x))
    | (extract_lets +onlyGivenNames x; refine (fun hx : Fr f a x.2 => ?_) ?_; (on_goal 1 => clear_value x); (on_goal 2 => subst x))
    | (extract_lets +onlyGivenNames x; clear_value x)
    | dsimp only

theorem Chip.updEps_fr {f : Frame} {a c : Chip} {n_} {cid_} {p_} {f_} (h : Fr f a c) (hp_pond : Part.pond ∈ f.parts) (hp_engines : Part.engines ∈ f.parts) :
    Fr f a (Chip.updEps c n_ cid_ p_ f_) := by
  unfold Chip.updEps
  repeat' first
    | with_reducible assumption
    | with_reducible apply Fr.each
    | with_reducible apply Chip.engWrite_fr
    | intro _
    | split
    | (extract_lets +onlyGivenNames x; refine (fun hx : Fr f a x => ?_) ?_; (on_goal 1 => clear_value x); (on_goal 2 => subst x))
    | (extract_lets +onlyGivenNames x; refine (fun hx : Fr f a x.2 => ?_) ?_; (on_goal 1 => clear_value x); (on_goal 2 => subst x))
    | (extract_lets +onlyGivenNames x; clear_value x)
    | dsimp only

theorem Chip.updBind_fr {f : Frame} {a c : Chip} {b_} {f_} (h : Fr f a c) (hp_svc : Part.svc ∈ f.parts) :
    Fr f a (Chip.updBind c b_ f_) := by
  unfold Chip.updBind
  repeat' first
    | with_reducible assumption
    | with_reducible apply Chip.updSvc_fr
    | intro _
    | split
    | (extract_lets +onlyGivenNames x; refine (fun hx : Fr f a x => ?_) ?_; (on_goal 1 => clear_value x); (on_goal 2 => subst x))
    | (extract_lets +onlyGivenNames x; refine (fun hx : Fr f a x.2 => ?_) ?_; (on_goal 1 => clear_value x); (on_goal 2 => subst x))
    | (extract_lets +onlyGivenNames x; clear_value x)
    | dsimp only

theorem Chip.syncSvc_fr {f : Frame} {a c : Chip}  (h : Fr f a c) (hr_SVC_STATUS : f.regs .SVC_STATUS = true) :
    Fr f a (Chip.syncSvc c) := by
  unfold Chip.syncSvc
  repeat' first
    | with_reducible assumption
    | with_reducible apply Chip.bump_fr
    | with_reducible apply Fr.wr
    | intro _
    | split
    | (extract_lets +onlyGivenNames x; refine (fun hx : Fr f a x => ?_) ?_; (on_goal 1 => clear_value x); (on_goal 2 => subst x))
    | (extract_lets +onlyGivenNames x; refine (fun hx : Fr f a x.2 => ?_) ?_; (on_goal 1 => clear_value x); (on_goal 2 => subst x))
    | (extract_lets +onlyGivenNames x; clear_value x)
    | dsimp only

theorem Chip.updSvcBody_fr {f : Frame} {a c : Chip} {b_} {f_} (h : Fr f a c) (hp_pond : Part.pond ∈ f.parts) (hp_engines : Part.engines ∈ f.parts) :
    Fr f a (Chip.updSvcBody c b_ f_) := by
  unfold Chip.updSvcBody
  repeat' first
    | with_reducible assumption
    | with_reducible apply Chip.touchPool_fr
    | with_reducible apply Chip.setBody_fr
    | intro _
    | split
    | (extract_lets +onlyGivenNames x; refine (fun hx : Fr f a x => ?_) ?_; (on_goal 1 => clear_value x); (on_goal 2 => subst x))
    | (extract_lets +onlyGivenNames x; refine (fun hx : Fr f a x.2 => ?_) ?_; (on_goal 1 => clear_value x); (on_goal 2 => subst x))
    | (extract_lets +onlyGivenNames x; clear_value x)
    | dsimp only

theorem Chip.printerRec_fr {f : Frame} {a c : Chip} {b_} {event_} {id_} (h : Fr f a c) (hp_doors : Part.doors ∈ f.parts) (hp_rates : Part.rates ∈ f.parts) (hp_pond : Part.pond ∈ f.parts) (hp_engines : Part.engines ∈ f.parts) (hp_basins : Part.basins ∈ f.parts) (hp_svc : Part.svc ∈ f.parts) (hp_pwr : Part.pwr ∈ f.parts) (hr_PWR_STATUS : f.regs .PWR_STATUS = true) :
    Fr f a (Chip.printerRec c b_ event_ id_) := by
  unfold Chip.printerRec
  repeat' first
    | with_reducible assumption
    | with_reducible refine Chip.putRec_fr ‹_› ?_ ?_ ?_ ?_ ?_ ?_ ?_ ?_
    | with_reducible apply Chip.putRec_fr2
    | with_reducible apply Chip.updSvcBody_fr
    | with_reducible refine Fr.ofIte ‹_› ?_ ?_
    | intro _
    | split
    | (extract_lets +onlyGivenNames x; refine (fun hx : Fr f a x => ?_) ?_; (on_goal 1 => clear_value x); (on_goal 2 => subst x))
    | (extract_lets +onlyGivenNames x; refine (fun hx : Fr f a x.2 => ?_) ?_; (on_goal 1 => clear_value x); (on_goal 2 => subst x))
    | (extract_lets +onlyGivenNames x; clear_value x)
    | dsimp only

theorem Chip.printerStatus_fr {f : Frame} {a c : Chip} {b_} {pstat_} (h : Fr f a c) (hp_doors : Part.doors ∈ f.parts) (hp_rates : Part.rates ∈ f.parts) (hp_pond : Part.pond ∈ f.parts) (hp_engines : Part.engines ∈ f.parts) (hp_basins : Part.basins ∈ f.parts) (hp_svc : Part.svc ∈ f.parts) (hp_pwr : Part.pwr ∈ f.parts) (hr_PWR_STATUS : f.regs .PWR_STATUS = true) :
    Fr f a (Chip.printerStatus c b_ pstat_) := by
  unfold Chip.printerStatus
  repeat' first
    | with_reducible assumption
    | with_reducible apply Chip.printerRec_fr
    | with_reducible apply Chip.updSvcBody_fr
    | intro _
    | split
    | (extract_lets +onlyGivenNames x; refine (fun hx : Fr f a x => ?_) ?_; (on_goal 1 => clear_value x); (on_goal 2 => subst x))
    | (extract_lets +onlyGivenNames x; refine (fun hx : Fr f a x.2 => ?_) ?_; (on_goal 1 => clear_value x); (on_goal 2 => subst x))
    | (extract_lets +onlyGivenNames x; clear_value x)
    | dsimp only

theorem Chip.abortJob_fr {f : Frame} {a c : Chip} {b_} (h : Fr f a c) (hp_doors : Part.doors ∈ f.parts) (hp_rates : Part.rates ∈ f.parts) (hp_pond : Part.pond ∈ f.parts) (hp_engines : Part.engines ∈ f.parts) (hp_basins : Part.basins ∈ f.parts) (hp_svc : Part.svc ∈ f.parts) (hp_pwr : Part.pwr ∈ f.parts) (hr_PWR_STATUS : f.regs .PWR_STATUS = true) :
    Fr f a (Chip.abortJob c b_) := by
  unfold Chip.abortJob
  repeat' first
    | with_reducible assumption
    | with_reducible apply Chip.printerRec_fr
    | with_reducible apply Chip.updStrm_fr
    | intro _
    | split
    | (extract_lets +onlyGivenNames x; refine (fun hx : Fr f a x => ?_) ?_; (on_goal 1 => clear_value x); (on_goal 2 => subst x))
    | (extract_lets +onlyGivenNames x; refine (fun hx : Fr f a x.2 => ?_) ?_; (on_goal 1 => clear_value x); (on_goal 2 => subst x))
    | (extract_lets +onlyGivenNames x; clear_value x)
    | dsimp only

theorem Chip.jobMoved_fr {f : Frame} {a c : Chip} {b_} {k_} (h : Fr f a c) (hp_doors : Part.doors ∈ f.parts) (hp_rates : Part.rates ∈ f.parts) (hp_pond : Part.pond ∈ f.parts) (hp_engines : Part.engines ∈ f.parts) (hp_basins : Part.basins ∈ f.parts) (hp_svc : Part.svc ∈ f.parts) (hp_pwr : Part.pwr ∈ f.parts) (hr_PWR_STATUS : f.regs .PWR_STATUS = true) :
    Fr f a (Chip.jobMoved c b_ k_) := by
  unfold Chip.jobMoved
  repeat' first
    | with_reducible assumption
    | with_reducible apply Chip.updStrm_fr
    | with_reducible apply Chip.updBind_fr
    | with_reducible apply Chip.updSvcBody_fr
    | with_reducible apply Chip.printerRec_fr
    | with_reducible apply Chip.active_fr
    | intro _
    | split
    | (extract_lets +onlyGivenNames x; refine (fun hx : Fr f a x => ?_) ?_; (on_goal 1 => clear_value x); (on_goal 2 => subst x))
    | (extract_lets +onlyGivenNames x; refine (fun hx : Fr f a x.2 => ?_) ?_; (on_goal 1 => clear_value x); (on_goal 2 => subst x))
    | (extract_lets +onlyGivenNames x; clear_value x)
    | dsimp only

theorem Chip.dropCtls_fr {f : Frame} {a c : Chip} {b_} (h : Fr f a c) (hp_ports : Part.ports ∈ f.parts) :
    Fr f a (Chip.dropCtls c b_) := by
  unfold Chip.dropCtls
  repeat' first
    | with_reducible assumption
    | with_reducible apply Chip.updDrop_fr
    | intro _
    | split
    | (extract_lets +onlyGivenNames x; refine (fun hx : Fr f a x => ?_) ?_; (on_goal 1 => clear_value x); (on_goal 2 => subst x))
    | (extract_lets +onlyGivenNames x; refine (fun hx : Fr f a x.2 => ?_) ?_; (on_goal 1 => clear_value x); (on_goal 2 => subst x))
    | (extract_lets +onlyGivenNames x; clear_value x)
    | dsimp only

theorem Chip.bindReply_fr {f : Frame} {a c : Chip} {b_} {cause_} (h : Fr f a c) (hp_trunk : Part.trunk ∈ f.parts) (hp_doors : Part.doors ∈ f.parts) (hp_reqs : Part.reqs ∈ f.parts) (hp_rates : Part.rates ∈ f.parts) :
    Fr f a (Chip.bindReply c b_ cause_) := by
  unfold Chip.bindReply
  repeat' first
    | with_reducible assumption
    | with_reducible apply Chip.answerOpt_fr
    | intro _
    | split
    | (extract_lets +onlyGivenNames x; refine (fun hx : Fr f a x => ?_) ?_; (on_goal 1 => clear_value x); (on_goal 2 => subst x))
    | (extract_lets +onlyGivenNames x; refine (fun hx : Fr f a x.2 => ?_) ?_; (on_goal 1 => clear_value x); (on_goal 2 => subst x))
    | (extract_lets +onlyGivenNames x; clear_value x)
    | dsimp only

theorem Chip.endBind_fr {f : Frame} {a c : Chip} {b_} {cause_} (h : Fr f a c) (hp_trunk : Part.trunk ∈ f.parts) (hp_doors : Part.doors ∈ f.parts) (hp_reqs : Part.reqs ∈ f.parts) (hp_rates : Part.rates ∈ f.parts) (hp_pond : Part.pond ∈ f.parts) (hp_engines : Part.engines ∈ f.parts) (hp_basins : Part.basins ∈ f.parts) (hp_ports : Part.ports ∈ f.parts) (hp_svc : Part.svc ∈ f.parts) (hp_pwr : Part.pwr ∈ f.parts) (hr_HOLDER_USED : ∀ n, f.regs (.HOLDER_USED n) = true) (hr_POND_FREE : f.regs .POND_FREE = true) (hr_POND_STATUS : f.regs .POND_STATUS = true) (hr_POND_WAIT : f.regs .POND_WAIT = true) (hr_PWR_STATUS : f.regs .PWR_STATUS = true) (hr_SVC_STATUS : f.regs .SVC_STATUS = true) :
    Fr f a (Chip.endBind c b_ cause_) := by
  unfold Chip.endBind
  repeat' first
    | with_reducible assumption
    | with_reducible exact hr_HOLDER_USED _
    | with_reducible apply Chip.freeCtx_fr
    | with_reducible apply Chip.dropCtls_fr
    | with_reducible apply Chip.updSvc_fr
    | with_reducible apply Chip.postOwn_fr
    | with_reducible apply Chip.syncSvc_fr
    | with_reducible apply Chip.bindReply_fr
    | with_reducible apply Chip.dropWaiters_fr
    | with_reducible apply Chip.abortJob_fr
    | with_reducible apply Chip.culletRecs_fr
    | with_reducible apply Chip.updEps_fr
    | intro _
    | split
    | (extract_lets +onlyGivenNames x; refine (fun hx : Fr f a x => ?_) ?_; (on_goal 1 => clear_value x); (on_goal 2 => subst x))
    | (extract_lets +onlyGivenNames x; refine (fun hx : Fr f a x.2 => ?_) ?_; (on_goal 1 => clear_value x); (on_goal 2 => subst x))
    | (extract_lets +onlyGivenNames x; clear_value x)
    | dsimp only

theorem Chip.endBinds_fr {f : Frame} {a c : Chip} {p_} {cause_} (h : Fr f a c) (hp_trunk : Part.trunk ∈ f.parts) (hp_doors : Part.doors ∈ f.parts) (hp_reqs : Part.reqs ∈ f.parts) (hp_rates : Part.rates ∈ f.parts) (hp_pond : Part.pond ∈ f.parts) (hp_engines : Part.engines ∈ f.parts) (hp_basins : Part.basins ∈ f.parts) (hp_ports : Part.ports ∈ f.parts) (hp_svc : Part.svc ∈ f.parts) (hp_pwr : Part.pwr ∈ f.parts) (hr_HOLDER_USED : ∀ n, f.regs (.HOLDER_USED n) = true) (hr_POND_FREE : f.regs .POND_FREE = true) (hr_POND_STATUS : f.regs .POND_STATUS = true) (hr_POND_WAIT : f.regs .POND_WAIT = true) (hr_PWR_STATUS : f.regs .PWR_STATUS = true) (hr_SVC_STATUS : f.regs .SVC_STATUS = true) :
    Fr f a (Chip.endBinds c p_ cause_) := by
  unfold Chip.endBinds
  repeat' first
    | with_reducible assumption
    | with_reducible exact hr_HOLDER_USED _
    | with_reducible apply Fr.each
    | with_reducible apply Chip.endBind_fr
    | intro _
    | split
    | (extract_lets +onlyGivenNames x; refine (fun hx : Fr f a x => ?_) ?_; (on_goal 1 => clear_value x); (on_goal 2 => subst x))
    | (extract_lets +onlyGivenNames x; refine (fun hx : Fr f a x.2 => ?_) ?_; (on_goal 1 => clear_value x); (on_goal 2 => subst x))
    | (extract_lets +onlyGivenNames x; clear_value x)
    | dsimp only

theorem Chip.svcCtl_fr {f : Frame} {a c : Chip} {b_} {by__} {setup_} {out_} (h : Fr f a c) (hp_ports : Part.ports ∈ f.parts) :
    Fr f a (Chip.svcCtl c b_ by__ setup_ out_) := by
  unfold Chip.svcCtl
  repeat' first
    | with_reducible assumption
    | with_reducible apply Chip.updDrop_fr
    | intro _
    | split
    | (extract_lets +onlyGivenNames x; refine (fun hx : Fr f a x => ?_) ?_; (on_goal 1 => clear_value x); (on_goal 2 => subst x))
    | (extract_lets +onlyGivenNames x; refine (fun hx : Fr f a x.2 => ?_) ?_; (on_goal 1 => clear_value x); (on_goal 2 => subst x))
    | (extract_lets +onlyGivenNames x; clear_value x)
    | dsimp only

theorem Chip.bindDone_fr {f : Frame} {a c : Chip} {b_} {d_} (h : Fr f a c) (hp_trunk : Part.trunk ∈ f.parts) (hp_doors : Part.doors ∈ f.parts) (hp_reqs : Part.reqs ∈ f.parts) (hp_rates : Part.rates ∈ f.parts) (hp_pond : Part.pond ∈ f.parts) (hp_engines : Part.engines ∈ f.parts) (hp_svc : Part.svc ∈ f.parts) (hr_SVC_STATUS : f.regs .SVC_STATUS = true) :
    Fr f a (Chip.bindDone c b_ d_) := by
  unfold Chip.bindDone
  repeat' first
    | with_reducible assumption
    | with_reducible apply Chip.updBind_fr
    | with_reducible apply Chip.updEps_fr
    | with_reducible apply Chip.postOwn_fr
    | with_reducible apply Chip.syncSvc_fr
    | with_reducible apply Chip.answerOpt_fr
    | intro _
    | split
    | (extract_lets +onlyGivenNames x; refine (fun hx : Fr f a x => ?_) ?_; (on_goal 1 => clear_value x); (on_goal 2 => subst x))
    | (extract_lets +onlyGivenNames x; refine (fun hx : Fr f a x.2 => ?_) ?_; (on_goal 1 => clear_value x); (on_goal 2 => subst x))
    | (extract_lets +onlyGivenNames x; clear_value x)
    | dsimp only

theorem Chip.bindNext_fr {f : Frame} {a c : Chip} {b_} {d_} (h : Fr f a c) (hp_trunk : Part.trunk ∈ f.parts) (hp_doors : Part.doors ∈ f.parts) (hp_reqs : Part.reqs ∈ f.parts) (hp_rates : Part.rates ∈ f.parts) (hp_pond : Part.pond ∈ f.parts) (hp_engines : Part.engines ∈ f.parts) (hp_ports : Part.ports ∈ f.parts) (hp_svc : Part.svc ∈ f.parts) (hr_SVC_STATUS : f.regs .SVC_STATUS = true) :
    Fr f a (Chip.bindNext c b_ d_) := by
  unfold Chip.bindNext
  repeat' first
    | with_reducible assumption
    | with_reducible apply Chip.bindDone_fr
    | with_reducible apply Chip.svcCtl_fr
    | with_reducible apply Chip.updBind_fr
    | intro _
    | split
    | (extract_lets +onlyGivenNames x; refine (fun hx : Fr f a x => ?_) ?_; (on_goal 1 => clear_value x); (on_goal 2 => subst x))
    | (extract_lets +onlyGivenNames x; refine (fun hx : Fr f a x.2 => ?_) ?_; (on_goal 1 => clear_value x); (on_goal 2 => subst x))
    | (extract_lets +onlyGivenNames x; clear_value x)
    | dsimp only

theorem Chip.setupEnd_fr {f : Frame} {a c : Chip} {n_} {d_} {i_} {inp_} (h : Fr f a c) (hp_trunk : Part.trunk ∈ f.parts) (hp_doors : Part.doors ∈ f.parts) (hp_reqs : Part.reqs ∈ f.parts) (hp_rates : Part.rates ∈ f.parts) (hp_pond : Part.pond ∈ f.parts) (hp_engines : Part.engines ∈ f.parts) (hp_basins : Part.basins ∈ f.parts) (hp_ports : Part.ports ∈ f.parts) (hp_svc : Part.svc ∈ f.parts) (hp_pwr : Part.pwr ∈ f.parts) (hr_HOLDER_USED : ∀ n, f.regs (.HOLDER_USED n) = true) (hr_POND_FREE : f.regs .POND_FREE = true) (hr_POND_STATUS : f.regs .POND_STATUS = true) (hr_POND_WAIT : f.regs .POND_WAIT = true) (hr_PWR_STATUS : f.regs .PWR_STATUS = true) (hr_SVC_STATUS : f.regs .SVC_STATUS = true) :
    Fr f a (Chip.setupEnd c n_ d_ i_ inp_) := by
  unfold Chip.setupEnd
  repeat' first
    | with_reducible assumption
    | with_reducible exact hr_HOLDER_USED _
    | with_reducible apply Chip.endBind_fr
    | with_reducible apply Chip.bindNext_fr
    | with_reducible apply Chip.printerRec_fr
    | intro _
    | split
    | (extract_lets +onlyGivenNames x; refine (fun hx : Fr f a x => ?_) ?_; (on_goal 1 => clear_value x); (on_goal 2 => subst x))
    | (extract_lets +onlyGivenNames x; refine (fun hx : Fr f a x.2 => ?_) ?_; (on_goal 1 => clear_value x); (on_goal 2 => subst x))
    | (extract_lets +onlyGivenNames x; clear_value x)
    | dsimp only

theorem Chip.bindIn_fr {f : Frame} {a c : Chip} {b_} {d_} {cid_} {s_} {o_} (h : Fr f a c) (hp_trunk : Part.trunk ∈ f.parts) (hp_doors : Part.doors ∈ f.parts) (hp_reqs : Part.reqs ∈ f.parts) (hp_rates : Part.rates ∈ f.parts) (hp_pond : Part.pond ∈ f.parts) (hp_engines : Part.engines ∈ f.parts) (hp_ports : Part.ports ∈ f.parts) (hp_svc : Part.svc ∈ f.parts) (hr_SVC_STATUS : f.regs .SVC_STATUS = true) :
    Fr f a (Chip.bindIn c b_ d_ cid_ s_ o_) := by
  unfold Chip.bindIn
  repeat' first
    | with_reducible assumption
    | with_reducible apply Chip.setBody_fr
    | with_reducible apply Chip.syncSvc_fr
    | with_reducible apply Chip.bindNext_fr
    | with_reducible apply Chip.updBind_fr
    | intro _
    | split
    | (extract_lets +onlyGivenNames x; refine (fun hx : Fr f a x => ?_) ?_; (on_goal 1 => clear_value x); (on_goal 2 => subst x))
    | (extract_lets +onlyGivenNames x; refine (fun hx : Fr f a x.2 => ?_) ?_; (on_goal 1 => clear_value x); (on_goal 2 => subst x))
    | (extract_lets +onlyGivenNames x; clear_value x)
    | dsimp only

theorem Chip.pendBind_fr {f : Frame} {a c : Chip} {b_} {p_} (h : Fr f a c) (hp_doors : Part.doors ∈ f.parts) (hp_svc : Part.svc ∈ f.parts) (hr_SVC_STATUS : f.regs .SVC_STATUS = true) :
    Fr f a (Chip.pendBind c b_ p_) := by
  unfold Chip.pendBind
  repeat' first
    | with_reducible assumption
    | with_reducible apply Chip.updBind_fr
    | with_reducible apply Chip.syncSvc_fr
    | with_reducible apply Chip.postOwn_fr
    | intro _
    | split
    | (extract_lets +onlyGivenNames x; refine (fun hx : Fr f a x => ?_) ?_; (on_goal 1 => clear_value x); (on_goal 2 => subst x))
    | (extract_lets +onlyGivenNames x; refine (fun hx : Fr f a x.2 => ?_) ?_; (on_goal 1 => clear_value x); (on_goal 2 => subst x))
    | (extract_lets +onlyGivenNames x; clear_value x)
    | dsimp only

theorem Chip.tryBind_fr {f : Frame} {a c : Chip} {b_} (h : Fr f a c) (hp_trunk : Part.trunk ∈ f.parts) (hp_doors : Part.doors ∈ f.parts) (hp_reqs : Part.reqs ∈ f.parts) (hp_rates : Part.rates ∈ f.parts) (hp_pond : Part.pond ∈ f.parts) (hp_engines : Part.engines ∈ f.parts) (hp_basins : Part.basins ∈ f.parts) (hp_ports : Part.ports ∈ f.parts) (hp_svc : Part.svc ∈ f.parts) (hp_pwr : Part.pwr ∈ f.parts) (hr_HOLDER_USED : ∀ n, f.regs (.HOLDER_USED n) = true) (hr_POND_FREE : f.regs .POND_FREE = true) (hr_POND_STATUS : f.regs .POND_STATUS = true) (hr_POND_WAIT : f.regs .POND_WAIT = true) (hr_PWR_STATUS : f.regs .PWR_STATUS = true) (hr_SVC_STATUS : f.regs .SVC_STATUS = true) :
    Fr f a (Chip.tryBind c b_) := by
  unfold Chip.tryBind
  repeat' first
    | with_reducible assumption
    | with_reducible exact hr_HOLDER_USED _
    | with_reducible apply Chip.endBind_fr
    | with_reducible apply Chip.pendBind_fr
    | with_reducible apply Chip.waitJoin_fr
    | with_reducible refine Chip.alloc_fr ‹_› ?_ ?_ ?_ ?_ ?_ ?_ ?_
    | with_reducible apply Chip.alloc_fr2
    | with_reducible apply Chip.bindIn_fr
    | with_reducible refine Fr.ofIte ‹_› ?_ ?_
    | intro _
    | split
    | (extract_lets +onlyGivenNames x; refine (fun hx : Fr f a x => ?_) ?_; (on_goal 1 => clear_value x); (on_goal 2 => subst x))
    | (extract_lets +onlyGivenNames x; refine (fun hx : Fr f a x.2 => ?_) ?_; (on_goal 1 => clear_value x); (on_goal 2 => subst x))
    | (extract_lets +onlyGivenNames x; clear_value x)
    | dsimp only

theorem Chip.bindGranted_fr {f : Frame} {a c : Chip} {n_} {route_} {i_} {cid_} (h : Fr f a c) (hp_trunk : Part.trunk ∈ f.parts) (hp_doors : Part.doors ∈ f.parts) (hp_reqs : Part.reqs ∈ f.parts) (hp_rates : Part.rates ∈ f.parts) (hp_pond : Part.pond ∈ f.parts) (hp_engines : Part.engines ∈ f.parts) (hp_ports : Part.ports ∈ f.parts) (hp_svc : Part.svc ∈ f.parts) (hr_HOLDER_USED : ∀ n, f.regs (.HOLDER_USED n) = true) (hr_POND_FREE : f.regs .POND_FREE = true) (hr_POND_STATUS : f.regs .POND_STATUS = true) (hr_POND_WAIT : f.regs .POND_WAIT = true) (hr_SVC_STATUS : f.regs .SVC_STATUS = true) :
    Fr f a (Chip.bindGranted c n_ route_ i_ cid_) := by
  unfold Chip.bindGranted
  repeat' first
    | with_reducible assumption
    | with_reducible exact hr_HOLDER_USED _
    | with_reducible apply Chip.pendBind_fr
    | with_reducible apply Chip.freeCtx_fr
    | with_reducible apply Chip.bindIn_fr
    | intro _
    | split
    | (extract_lets +onlyGivenNames x; refine (fun hx : Fr f a x => ?_) ?_; (on_goal 1 => clear_value x); (on_goal 2 => subst x))
    | (extract_lets +onlyGivenNames x; refine (fun hx : Fr f a x.2 => ?_) ?_; (on_goal 1 => clear_value x); (on_goal 2 => subst x))
    | (extract_lets +onlyGivenNames x; clear_value x)
    | dsimp only

theorem Chip.addBind_fr {f : Frame} {a c : Chip} {b_} (h : Fr f a c) (hp_trunk : Part.trunk ∈ f.parts) (hp_doors : Part.doors ∈ f.parts) (hp_reqs : Part.reqs ∈ f.parts) (hp_rates : Part.rates ∈ f.parts) (hp_pond : Part.pond ∈ f.parts) (hp_engines : Part.engines ∈ f.parts) (hp_basins : Part.basins ∈ f.parts) (hp_ports : Part.ports ∈ f.parts) (hp_svc : Part.svc ∈ f.parts) (hp_pwr : Part.pwr ∈ f.parts) (hr_HOLDER_USED : ∀ n, f.regs (.HOLDER_USED n) = true) (hr_POND_FREE : f.regs .POND_FREE = true) (hr_POND_STATUS : f.regs .POND_STATUS = true) (hr_POND_WAIT : f.regs .POND_WAIT = true) (hr_PWR_STATUS : f.regs .PWR_STATUS = true) (hr_SVC_STATUS : f.regs .SVC_STATUS = true) :
    Fr f a (Chip.addBind c b_) := by
  unfold Chip.addBind
  repeat' first
    | with_reducible assumption
    | with_reducible exact hr_HOLDER_USED _
    | with_reducible apply Chip.tryBind_fr
    | with_reducible apply Chip.updSvc_fr
    | intro _
    | split
    | (extract_lets +onlyGivenNames x; refine (fun hx : Fr f a x => ?_) ?_; (on_goal 1 => clear_value x); (on_goal 2 => subst x))
    | (extract_lets +onlyGivenNames x; refine (fun hx : Fr f a x.2 => ?_) ?_; (on_goal 1 => clear_value x); (on_goal 2 => subst x))
    | (extract_lets +onlyGivenNames x; clear_value x)
    | dsimp only

theorem Chip.retryBinds_fr {f : Frame} {a c : Chip} {p_} (h : Fr f a c) (hp_trunk : Part.trunk ∈ f.parts) (hp_doors : Part.doors ∈ f.parts) (hp_reqs : Part.reqs ∈ f.parts) (hp_rates : Part.rates ∈ f.parts) (hp_pond : Part.pond ∈ f.parts) (hp_engines : Part.engines ∈ f.parts) (hp_basins : Part.basins ∈ f.parts) (hp_ports : Part.ports ∈ f.parts) (hp_svc : Part.svc ∈ f.parts) (hp_pwr : Part.pwr ∈ f.parts) (hr_HOLDER_USED : ∀ n, f.regs (.HOLDER_USED n) = true) (hr_POND_FREE : f.regs .POND_FREE = true) (hr_POND_STATUS : f.regs .POND_STATUS = true) (hr_POND_WAIT : f.regs .POND_WAIT = true) (hr_PWR_STATUS : f.regs .PWR_STATUS = true) (hr_SVC_STATUS : f.regs .SVC_STATUS = true) :
    Fr f a (Chip.retryBinds c p_) := by
  unfold Chip.retryBinds
  repeat' first
    | with_reducible assumption
    | with_reducible exact hr_HOLDER_USED _
    | with_reducible apply Fr.each
    | with_reducible apply Chip.tryBind_fr
    | intro _
    | split
    | (extract_lets +onlyGivenNames x; refine (fun hx : Fr f a x => ?_) ?_; (on_goal 1 => clear_value x); (on_goal 2 => subst x))
    | (extract_lets +onlyGivenNames x; refine (fun hx : Fr f a x.2 => ?_) ?_; (on_goal 1 => clear_value x); (on_goal 2 => subst x))
    | (extract_lets +onlyGivenNames x; clear_value x)
    | dsimp only

theorem Chip.classMatch_fr {f : Frame} {a c : Chip} {n_} {route_} (h : Fr f a c) (hp_trunk : Part.trunk ∈ f.parts) (hp_doors : Part.doors ∈ f.parts) (hp_reqs : Part.reqs ∈ f.parts) (hp_rates : Part.rates ∈ f.parts) (hp_pond : Part.pond ∈ f.parts) (hp_engines : Part.engines ∈ f.parts) (hp_basins : Part.basins ∈ f.parts) (hp_ports : Part.ports ∈ f.parts) (hp_svc : Part.svc ∈ f.parts) (hp_pwr : Part.pwr ∈ f.parts) (hr_HOLDER_USED : ∀ n, f.regs (.HOLDER_USED n) = true) (hr_POND_FREE : f.regs .POND_FREE = true) (hr_POND_STATUS : f.regs .POND_STATUS = true) (hr_POND_WAIT : f.regs .POND_WAIT = true) (hr_PWR_STATUS : f.regs .PWR_STATUS = true) (hr_SVC_STATUS : f.regs .SVC_STATUS = true) :
    Fr f a (Chip.classMatch c n_ route_) := by
  unfold Chip.classMatch
  repeat' first
    | with_reducible assumption
    | with_reducible exact hr_HOLDER_USED _
    | with_reducible apply Fr.each
    | with_reducible apply Chip.updDev_fr
    | with_reducible apply Chip.addBind_fr
    | with_reducible apply Chip.pendBind_fr
    | with_reducible apply Chip.updSvc_fr
    | intro _
    | split
    | (extract_lets +onlyGivenNames x; refine (fun hx : Fr f a x => ?_) ?_; (on_goal 1 => clear_value x); (on_goal 2 => subst x))
    | (extract_lets +onlyGivenNames x; refine (fun hx : Fr f a x.2 => ?_) ?_; (on_goal 1 => clear_value x); (on_goal 2 => subst x))
    | (extract_lets +onlyGivenNames x; clear_value x)
    | dsimp only

theorem Chip.classMatchAll_fr {f : Frame} {a c : Chip}  (h : Fr f a c) (hp_trunk : Part.trunk ∈ f.parts) (hp_doors : Part.doors ∈ f.parts) (hp_reqs : Part.reqs ∈ f.parts) (hp_rates : Part.rates ∈ f.parts) (hp_pond : Part.pond ∈ f.parts) (hp_engines : Part.engines ∈ f.parts) (hp_basins : Part.basins ∈ f.parts) (hp_ports : Part.ports ∈ f.parts) (hp_svc : Part.svc ∈ f.parts) (hp_pwr : Part.pwr ∈ f.parts) (hr_HOLDER_USED : ∀ n, f.regs (.HOLDER_USED n) = true) (hr_POND_FREE : f.regs .POND_FREE = true) (hr_POND_STATUS : f.regs .POND_STATUS = true) (hr_POND_WAIT : f.regs .POND_WAIT = true) (hr_PWR_STATUS : f.regs .PWR_STATUS = true) (hr_SVC_STATUS : f.regs .SVC_STATUS = true) :
    Fr f a (Chip.classMatchAll c) := by
  unfold Chip.classMatchAll
  repeat' first
    | with_reducible assumption
    | with_reducible exact hr_HOLDER_USED _
    | with_reducible apply Fr.each
    | with_reducible apply Chip.classMatch_fr
    | intro _
    | split
    | (extract_lets +onlyGivenNames x; refine (fun hx : Fr f a x => ?_) ?_; (on_goal 1 => clear_value x); (on_goal 2 => subst x))
    | (extract_lets +onlyGivenNames x; refine (fun hx : Fr f a x.2 => ?_) ?_; (on_goal 1 => clear_value x); (on_goal 2 => subst x))
    | (extract_lets +onlyGivenNames x; clear_value x)
    | dsimp only

theorem Chip.bindsResume_fr {f : Frame} {a c : Chip}  (h : Fr f a c) (hp_trunk : Part.trunk ∈ f.parts) (hp_doors : Part.doors ∈ f.parts) (hp_reqs : Part.reqs ∈ f.parts) (hp_rates : Part.rates ∈ f.parts) (hp_pond : Part.pond ∈ f.parts) (hp_engines : Part.engines ∈ f.parts) (hp_basins : Part.basins ∈ f.parts) (hp_ports : Part.ports ∈ f.parts) (hp_svc : Part.svc ∈ f.parts) (hp_pwr : Part.pwr ∈ f.parts) (hr_HOLDER_USED : ∀ n, f.regs (.HOLDER_USED n) = true) (hr_POND_FREE : f.regs .POND_FREE = true) (hr_POND_STATUS : f.regs .POND_STATUS = true) (hr_POND_WAIT : f.regs .POND_WAIT = true) (hr_PWR_STATUS : f.regs .PWR_STATUS = true) (hr_SVC_STATUS : f.regs .SVC_STATUS = true) :
    Fr f a (Chip.bindsResume c) := by
  unfold Chip.bindsResume
  repeat' first
    | with_reducible assumption
    | with_reducible exact hr_HOLDER_USED _
    | with_reducible apply Chip.retryBinds_fr
    | intro _
    | split
    | (extract_lets +onlyGivenNames x; refine (fun hx : Fr f a x => ?_) ?_; (on_goal 1 => clear_value x); (on_goal 2 => subst x))
    | (extract_lets +onlyGivenNames x; refine (fun hx : Fr f a x.2 => ?_) ?_; (on_goal 1 => clear_value x); (on_goal 2 => subst x))
    | (extract_lets +onlyGivenNames x; clear_value x)
    | dsimp only

theorem Chip.reapStreams_fr {f : Frame} {a c : Chip}  (h : Fr f a c) (hp_svc : Part.svc ∈ f.parts) :
    Fr f a (Chip.reapStreams c) := by
  unfold Chip.reapStreams
  repeat' first
    | with_reducible assumption
    | with_reducible apply Chip.updSvc_fr
    | intro _
    | split
    | (extract_lets +onlyGivenNames x; refine (fun hx : Fr f a x => ?_) ?_; (on_goal 1 => clear_value x); (on_goal 2 => subst x))
    | (extract_lets +onlyGivenNames x; refine (fun hx : Fr f a x.2 => ?_) ?_; (on_goal 1 => clear_value x); (on_goal 2 => subst x))
    | (extract_lets +onlyGivenNames x; clear_value x)
    | dsimp only

theorem Chip.closeStream_fr {f : Frame} {a c : Chip} {s_} {free_} (h : Fr f a c) (hp_trunk : Part.trunk ∈ f.parts) (hp_doors : Part.doors ∈ f.parts) (hp_reqs : Part.reqs ∈ f.parts) (hp_rates : Part.rates ∈ f.parts) (hp_pond : Part.pond ∈ f.parts) (hp_engines : Part.engines ∈ f.parts) (hp_basins : Part.basins ∈ f.parts) (hp_ports : Part.ports ∈ f.parts) (hp_svc : Part.svc ∈ f.parts) (hp_pwr : Part.pwr ∈ f.parts) (hr_HOLDER_USED : ∀ n, f.regs (.HOLDER_USED n) = true) (hr_POND_FREE : f.regs .POND_FREE = true) (hr_POND_STATUS : f.regs .POND_STATUS = true) (hr_POND_WAIT : f.regs .POND_WAIT = true) (hr_PWR_STATUS : f.regs .PWR_STATUS = true) (hr_SVC_STATUS : f.regs .SVC_STATUS = true) :
    Fr f a (Chip.closeStream c s_ free_) := by
  unfold Chip.closeStream
  repeat' first
    | with_reducible assumption
    | with_reducible exact hr_HOLDER_USED _
    | with_reducible apply Chip.endBinds_fr
    | with_reducible apply Chip.updTrunk_fr
    | with_reducible apply Chip.updStrm_fr
    | with_reducible apply Chip.freeCtx_fr
    | with_reducible apply Chip.reapStreams_fr
    | intro _
    | split
    | (extract_lets +onlyGivenNames x; refine (fun hx : Fr f a x => ?_) ?_; (on_goal 1 => clear_value x); (on_goal 2 => subst x))
    | (extract_lets +onlyGivenNames x; refine (fun hx : Fr f a x.2 => ?_) ?_; (on_goal 1 => clear_value x); (on_goal 2 => subst x))
    | (extract_lets +onlyGivenNames x; clear_value x)
    | dsimp only

/-! ### Machine/ChanBase.lean -/

theorem Chip.updCh_fr {f : Frame} {a c : Chip} {n_} {f_} (h : Fr f a c) (hp_chans : Part.chans ∈ f.parts) :
    Fr f a (Chip.updCh c n_ f_) := by
  unfold Chip.updCh
  repeat' first
    | with_reducible assumption
    | with_reducible apply Chip.updChan_fr
    | intro _
    | split
    | (extract_lets +onlyGivenNames x; refine (fun hx : Fr f a x => ?_) ?_; (on_goal 1 => clear_value x); (on_goal 2 => subst x))
    | (extract_lets +onlyGivenNames x; refine (fun hx : Fr f a x.2 => ?_) ?_; (on_goal 1 => clear_value x); (on_goal 2 => subst x))
    | (extract_lets +onlyGivenNames x; clear_value x)
    | dsimp only

theorem Chip.mirrorCh_fr {f : Frame} {a c : Chip} {n_} (h : Fr f a c) (hr_CH_MEAS : ∀ n, f.regs (.CH_MEAS n) = true) (hr_CH_STATUS : ∀ n, f.regs (.CH_STATUS n) = true) :
    Fr f a (Chip.mirrorCh c n_) := by
  unfold Chip.mirrorCh
  repeat' first
    | with_reducible assumption
    | with_reducible exact hr_CH_MEAS _
    | with_reducible exact hr_CH_STATUS _
    | with_reducible apply Fr.wr
    | intro _
    | split
    | (extract_lets +onlyGivenNames x; refine (fun hx : Fr f a x => ?_) ?_; (on_goal 1 => clear_value x); (on_goal 2 => subst x))
    | (extract_lets +onlyGivenNames x; refine (fun hx : Fr f a x.2 => ?_) ?_; (on_goal 1 => clear_value x); (on_goal 2 => subst x))
    | (extract_lets +onlyGivenNames x; clear_value x)
    | dsimp only

theorem Chip.breakerRun_fr {f : Frame} {a c : Chip} {n_} (h : Fr f a c) (hp_chans : Part.chans ∈ f.parts) :
    Fr f a (Chip.breakerRun c n_) := by
  unfold Chip.breakerRun
  repeat' first
    | with_reducible assumption
    | with_reducible apply Chip.updChan_fr
    | intro _
    | split
    | (extract_lets +onlyGivenNames x; refine (fun hx : Fr f a x => ?_) ?_; (on_goal 1 => clear_value x); (on_goal 2 => subst x))
    | (extract_lets +onlyGivenNames x; refine (fun hx : Fr f a x.2 => ?_) ?_; (on_goal 1 => clear_value x); (on_goal 2 => subst x))
    | (extract_lets +onlyGivenNames x; clear_value x)
    | dsimp only

theorem Chip.regulate_fr {f : Frame} {a c : Chip} {n_} (h : Fr f a c) (hp_chans : Part.chans ∈ f.parts) :
    Fr f a (Chip.regulate c n_) := by
  unfold Chip.regulate
  repeat' first
    | with_reducible assumption
    | with_reducible apply Chip.updChan_fr
    | intro _
    | split
    | (extract_lets +onlyGivenNames x; refine (fun hx : Fr f a x => ?_) ?_; (on_goal 1 => clear_value x); (on_goal 2 => subst x))
    | (extract_lets +onlyGivenNames x; refine (fun hx : Fr f a x.2 => ?_) ?_; (on_goal 1 => clear_value x); (on_goal 2 => subst x))
    | (extract_lets +onlyGivenNames x; clear_value x)
    | dsimp only

theorem Chip.setProfile_fr {f : Frame} {a c : Chip} {n_} {p_} (h : Fr f a c) (hp_chans : Part.chans ∈ f.parts) :
    Fr f a (Chip.setProfile c n_ p_) := by
  unfold Chip.setProfile
  repeat' first
    | with_reducible assumption
    | with_reducible apply Chip.updCh_fr
    | intro _
    | split
    | (extract_lets +onlyGivenNames x; refine (fun hx : Fr f a x => ?_) ?_; (on_goal 1 => clear_value x); (on_goal 2 => subst x))
    | (extract_lets +onlyGivenNames x; refine (fun hx : Fr f a x.2 => ?_) ?_; (on_goal 1 => clear_value x); (on_goal 2 => subst x))
    | (extract_lets +onlyGivenNames x; clear_value x)
    | dsimp only

theorem Chip.clampSync_fr {f : Frame} {a c : Chip} {n_} (h : Fr f a c) (hp_chans : Part.chans ∈ f.parts) :
    Fr f a (Chip.clampSync c n_) := by
  unfold Chip.clampSync
  repeat' first
    | with_reducible assumption
    | with_reducible apply Chip.updCh_fr
    | intro _
    | split
    | (extract_lets +onlyGivenNames x; refine (fun hx : Fr f a x => ?_) ?_; (on_goal 1 => clear_value x); (on_goal 2 => subst x))
    | (extract_lets +onlyGivenNames x; refine (fun hx : Fr f a x.2 => ?_) ?_; (on_goal 1 => clear_value x); (on_goal 2 => subst x))
    | (extract_lets +onlyGivenNames x; clear_value x)
    | dsimp only

theorem Chip.wakeReq_fr {f : Frame} {a c : Chip} {src_} {idx_} (h : Fr f a c) (hp_pwr : Part.pwr ∈ f.parts) (hr_PWR_WAKE_CAUSE : f.regs .PWR_WAKE_CAUSE = true) :
    Fr f a (Chip.wakeReq c src_ idx_) := by
  unfold Chip.wakeReq
  repeat' first
    | with_reducible assumption
    | with_reducible apply Chip.updPwr_fr
    | with_reducible apply Fr.wr
    | intro _
    | split
    | (extract_lets +onlyGivenNames x; refine (fun hx : Fr f a x => ?_) ?_; (on_goal 1 => clear_value x); (on_goal 2 => subst x))
    | (extract_lets +onlyGivenNames x; refine (fun hx : Fr f a x.2 => ?_) ?_; (on_goal 1 => clear_value x); (on_goal 2 => subst x))
    | (extract_lets +onlyGivenNames x; clear_value x)
    | dsimp only

theorem Chip.wakeCross_fr {f : Frame} {a c : Chip} {src_} {idx_} (h : Fr f a c) (hp_clk : Part.clk ∈ f.parts) (hp_doors : Part.doors ∈ f.parts) (hp_pwr : Part.pwr ∈ f.parts) (hp_bead : Part.bead ∈ f.parts) (hr_CDC_OVR : f.regs .CDC_OVR = true) (hr_GLB_FAULT : f.regs .GLB_FAULT = true) (hr_PWR_WAKE_CAUSE : f.regs .PWR_WAKE_CAUSE = true) :
    Fr f a (Chip.wakeCross c src_ idx_) := by
  unfold Chip.wakeCross
  repeat' first
    | with_reducible assumption
    | with_reducible apply Chip.wakeReq_fr
    | with_reducible apply Chip.updClk_fr
    | with_reducible apply Chip.pulse_fr
    | exact fun _ h => h
    | intro _
    | split
    | (extract_lets +onlyGivenNames x; refine (fun hx : Fr f a x => ?_) ?_; (on_goal 1 => clear_value x); (on_goal 2 => subst x))
    | (extract_lets +onlyGivenNames x; refine (fun hx : Fr f a x.2 => ?_) ?_; (on_goal 1 => clear_value x); (on_goal 2 => subst x))
    | (extract_lets +onlyGivenNames x; clear_value x)
    | dsimp only

theorem Chip.postTrip_fr {f : Frame} {a c : Chip} {n_} {e_} (h : Fr f a c) (hp_clk : Part.clk ∈ f.parts) (hp_doors : Part.doors ∈ f.parts) (hp_pwr : Part.pwr ∈ f.parts) (hp_bead : Part.bead ∈ f.parts) (hr_GLB_FAULT : f.regs .GLB_FAULT = true) (hr_PWR_WAKE_CAUSE : f.regs .PWR_WAKE_CAUSE = true) :
    Fr f a (Chip.postTrip c n_ e_) := by
  unfold Chip.postTrip
  repeat' first
    | with_reducible assumption
    | with_reducible apply Chip.wakeReq_fr
    | with_reducible apply Chip.updPwr_fr
    | with_reducible apply Chip.postFault_fr
    | intro _
    | split
    | (extract_lets +onlyGivenNames x; refine (fun hx : Fr f a x => ?_) ?_; (on_goal 1 => clear_value x); (on_goal 2 => subst x))
    | (extract_lets +onlyGivenNames x; refine (fun hx : Fr f a x.2 => ?_) ?_; (on_goal 1 => clear_value x); (on_goal 2 => subst x))
    | (extract_lets +onlyGivenNames x; clear_value x)
    | dsimp only

theorem Chip.pendFell_fr {f : Frame} {a c : Chip} {n_} (h : Fr f a c) (hp_chans : Part.chans ∈ f.parts) (hr_CH_STATUS : ∀ n, f.regs (.CH_STATUS n) = true) :
    Fr f a (Chip.pendFell c n_) := by
  unfold Chip.pendFell
  repeat' first
    | with_reducible assumption
    | with_reducible exact hr_CH_STATUS _
    | with_reducible apply Chip.updChan_fr
    | with_reducible apply Chip.setF_fr
    | intro _
    | split
    | (extract_lets +onlyGivenNames x; refine (fun hx : Fr f a x => ?_) ?_; (on_goal 1 => clear_value x); (on_goal 2 => subst x))
    | (extract_lets +onlyGivenNames x; refine (fun hx : Fr f a x.2 => ?_) ?_; (on_goal 1 => clear_value x); (on_goal 2 => subst x))
    | (extract_lets +onlyGivenNames x; clear_value x)
    | dsimp only

theorem Chip.dropWrites_fr {f : Frame} {a c : Chip} {d_} {f_} (h : Fr f a c) (hp_fl : Part.fl ∈ f.parts) (hp_chans : Part.chans ∈ f.parts) (hr_CH_STATUS : ∀ n, f.regs (.CH_STATUS n) = true) :
    Fr f a (Chip.dropWrites c d_ f_) := by
  unfold Chip.dropWrites
  repeat' first
    | with_reducible assumption
    | with_reducible exact hr_CH_STATUS _
    | with_reducible apply Chip.updFl_fr
    | with_reducible apply Fr.each
    | with_reducible apply Chip.pendFell_fr
    | intro _
    | split
    | (extract_lets +onlyGivenNames x; refine (fun hx : Fr f a x => ?_) ?_; (on_goal 1 => clear_value x); (on_goal 2 => subst x))
    | (extract_lets +onlyGivenNames x; refine (fun hx : Fr f a x.2 => ?_) ?_; (on_goal 1 => clear_value x); (on_goal 2 => subst x))
    | (extract_lets +onlyGivenNames x; clear_value x)
    | dsimp only

theorem Chip.keepStale_fr {f : Frame} {a c : Chip} {r_} (h : Fr f a c) (hp_fl : Part.fl ∈ f.parts) :
    Fr f a (Chip.keepStale c r_) := by
  unfold Chip.keepStale
  repeat' first
    | with_reducible assumption
    | with_reducible apply Chip.updFl_fr
    | intro _
    | split
    | (extract_lets +onlyGivenNames x; refine (fun hx : Fr f a x => ?_) ?_; (on_goal 1 => clear_value x); (on_goal 2 => subst x))
    | (extract_lets +onlyGivenNames x; refine (fun hx : Fr f a x.2 => ?_) ?_; (on_goal 1 => clear_value x); (on_goal 2 => subst x))
    | (extract_lets +onlyGivenNames x; clear_value x)
    | dsimp only

theorem Chip.suspendCh_fr {f : Frame} {a c : Chip} {n_} {sus_} (h : Fr f a c) (hp_fl : Part.fl ∈ f.parts) (hp_chans : Part.chans ∈ f.parts) (hr_CH_CMD : ∀ n, f.regs (.CH_CMD n) = true) :
    Fr f a (Chip.suspendCh c n_ sus_) := by
  unfold Chip.suspendCh
  repeat' first
    | with_reducible assumption
    | with_reducible exact hr_CH_CMD _
    | with_reducible apply Chip.keepStale_fr
    | with_reducible apply Fr.wr
    | with_reducible apply Chip.setProfile_fr
    | with_reducible apply Chip.updFl_fr
    | intro _
    | split
    | (extract_lets +onlyGivenNames x; refine (fun hx : Fr f a x => ?_) ?_; (on_goal 1 => clear_value x); (on_goal 2 => subst x))
    | (extract_lets +onlyGivenNames x; refine (fun hx : Fr f a x.2 => ?_) ?_; (on_goal 1 => clear_value x); (on_goal 2 => subst x))
    | (extract_lets +onlyGivenNames x; clear_value x)
    | dsimp only

theorem Chip.dropSuspend_fr {f : Frame} {a c : Chip} {n_} (h : Fr f a c) (hp_fl : Part.fl ∈ f.parts) (hp_chans : Part.chans ∈ f.parts) (hr_CH_STATUS : ∀ n, f.regs (.CH_STATUS n) = true) :
    Fr f a (Chip.dropSuspend c n_) := by
  unfold Chip.dropSuspend
  repeat' first
    | with_reducible assumption
    | with_reducible exact hr_CH_STATUS _
    | with_reducible apply Chip.dropWrites_fr
    | intro _
    | split
    | (extract_lets +onlyGivenNames x; refine (fun hx : Fr f a x => ?_) ?_; (on_goal 1 => clear_value x); (on_goal 2 => subst x))
    | (extract_lets +onlyGivenNames x; refine (fun hx : Fr f a x.2 => ?_) ?_; (on_goal 1 => clear_value x); (on_goal 2 => subst x))
    | (extract_lets +onlyGivenNames x; clear_value x)
    | dsimp only

/-! ### Machine/FwOps.lean -/

theorem Chip.extend_fr {f : Frame} {a c : Chip} {i_} {d_} (h : Fr f a c) (hp_fw : Part.fw ∈ f.parts) :
    Fr f a (Chip.extend c i_ d_) := by
  unfold Chip.extend
  repeat' first
    | with_reducible assumption
    | with_reducible apply Chip.updFw_fr
    | with_reducible exact fun _ => rfl
    | with_reducible exact fun _ => ⟨rfl, rfl⟩
    | with_reducible rfl
    | with_reducible exact ⟨rfl, rfl⟩
    | intro _
    | split
    | (extract_lets +onlyGivenNames x; refine (fun hx : Fr f a x => ?_) ?_; (on_goal 1 => clear_value x); (on_goal 2 => subst x))
    | (extract_lets +onlyGivenNames x; refine (fun hx : Fr f a x.2 => ?_) ?_; (on_goal 1 => clear_value x); (on_goal 2 => subst x))
    | (extract_lets +onlyGivenNames x; clear_value x)
    | dsimp only

theorem Chip.logPut_fr {f : Frame} {a c : Chip} {kind_} {meas_} {detail_} {time_} {version_} {d_} (h : Fr f a c) (hp_fw : Part.fw ∈ f.parts) (hp_doors : Part.doors ∈ f.parts) (hp_bead : Part.bead ∈ f.parts) :
    Fr f a (Chip.logPut c kind_ meas_ detail_ time_ version_ d_) := by
  unfold Chip.logPut
  repeat' first
    | with_reducible assumption
    | with_reducible apply Chip.updFw_fr
    | with_reducible apply Chip.updBead_fr
    | with_reducible apply Chip.post_fr
    | with_reducible exact fun _ => rfl
    | with_reducible exact fun _ => ⟨rfl, rfl⟩
    | with_reducible rfl
    | with_reducible exact ⟨rfl, rfl⟩
    | intro _
    | split
    | (extract_lets +onlyGivenNames x; refine (fun hx : Fr f a x => ?_) ?_; (on_goal 1 => clear_value x); (on_goal 2 => subst x))
    | (extract_lets +onlyGivenNames x; refine (fun hx : Fr f a x.2 => ?_) ?_; (on_goal 1 => clear_value x); (on_goal 2 => subst x))
    | (extract_lets +onlyGivenNames x; clear_value x)
    | dsimp only

theorem Chip.measure_fr {f : Frame} {a c : Chip} {i_} {kind_} {time_} {version_} {d_} (h : Fr f a c) (hp_fw : Part.fw ∈ f.parts) (hp_doors : Part.doors ∈ f.parts) (hp_bead : Part.bead ∈ f.parts) :
    Fr f a (Chip.measure c i_ kind_ time_ version_ d_) := by
  unfold Chip.measure
  repeat' first
    | with_reducible assumption
    | with_reducible apply Chip.logPut_fr
    | with_reducible apply Chip.extend_fr
    | intro _
    | split
    | (extract_lets +onlyGivenNames x; refine (fun hx : Fr f a x => ?_) ?_; (on_goal 1 => clear_value x); (on_goal 2 => subst x))
    | (extract_lets +onlyGivenNames x; refine (fun hx : Fr f a x.2 => ?_) ?_; (on_goal 1 => clear_value x); (on_goal 2 => subst x))
    | (extract_lets +onlyGivenNames x; clear_value x)
    | dsimp only

theorem Chip.rollEnd_fr {f : Frame} {a c : Chip}  (h : Fr f a c) (hp_fw : Part.fw ∈ f.parts) (hr_BOOT_STATUS : f.regs .BOOT_STATUS = true) :
    Fr f a (Chip.rollEnd c) := by
  unfold Chip.rollEnd
  repeat' first
    | with_reducible assumption
    | with_reducible apply Chip.updFw_fr
    | with_reducible apply Chip.setSt_fr
    | with_reducible exact fun _ => rfl
    | with_reducible exact fun _ => ⟨rfl, rfl⟩
    | with_reducible rfl
    | with_reducible exact ⟨rfl, rfl⟩
    | intro _
    | split
    | (extract_lets +onlyGivenNames x; refine (fun hx : Fr f a x => ?_) ?_; (on_goal 1 => clear_value x); (on_goal 2 => subst x))
    | (extract_lets +onlyGivenNames x; refine (fun hx : Fr f a x.2 => ?_) ?_; (on_goal 1 => clear_value x); (on_goal 2 => subst x))
    | (extract_lets +onlyGivenNames x; clear_value x)
    | dsimp only

theorem Chip.loadEngines_fr {f : Frame} {a c : Chip} {es_} {h_} (h : Fr f a c) (hp_engines : Part.engines ∈ f.parts) :
    Fr f a (Chip.loadEngines c es_ h_) := by
  unfold Chip.loadEngines
  repeat' first
    | with_reducible assumption
    | with_reducible apply Fr.each
    | with_reducible apply Chip.updEng_fr
    | intro _
    | split
    | (extract_lets +onlyGivenNames x; refine (fun hx : Fr f a x => ?_) ?_; (on_goal 1 => clear_value x); (on_goal 2 => subst x))
    | (extract_lets +onlyGivenNames x; refine (fun hx : Fr f a x.2 => ?_) ?_; (on_goal 1 => clear_value x); (on_goal 2 => subst x))
    | (extract_lets +onlyGivenNames x; clear_value x)
    | dsimp only

theorem Chip.rollBasinDone_fr {f : Frame} {a c : Chip} {b_} {rolled_} (h : Fr f a c) (hp_fw : Part.fw ∈ f.parts) (hp_doors : Part.doors ∈ f.parts) (hp_engines : Part.engines ∈ f.parts) (hp_bead : Part.bead ∈ f.parts) (hr_BOOT_STATUS : f.regs .BOOT_STATUS = true) :
    Fr f a (Chip.rollBasinDone c b_ rolled_) := by
  unfold Chip.rollBasinDone
  repeat' first
    | with_reducible assumption
    | with_reducible apply Chip.updFw_fr
    | with_reducible apply Chip.loadEngines_fr
    | with_reducible apply Chip.logPut_fr
    | with_reducible apply Chip.rollEnd_fr
    | with_reducible apply Chip.post_fr
    | with_reducible exact fun _ => rfl
    | with_reducible exact fun _ => ⟨rfl, rfl⟩
    | with_reducible rfl
    | with_reducible exact ⟨rfl, rfl⟩
    | intro _
    | split
    | (extract_lets +onlyGivenNames x; refine (fun hx : Fr f a x => ?_) ?_; (on_goal 1 => clear_value x); (on_goal 2 => subst x))
    | (extract_lets +onlyGivenNames x; refine (fun hx : Fr f a x.2 => ?_) ?_; (on_goal 1 => clear_value x); (on_goal 2 => subst x))
    | (extract_lets +onlyGivenNames x; clear_value x)
    | dsimp only

theorem Chip.bootSt_fr {f : Frame} {a c : Chip} {f_} {v_} (h : Fr f a c) (hr_BOOT_STATUS : f.regs .BOOT_STATUS = true) :
    Fr f a (Chip.bootSt c f_ v_) := by
  unfold Chip.bootSt
  repeat' first
    | with_reducible assumption
    | with_reducible apply Chip.setSt_fr
    | intro _
    | split
    | (extract_lets +onlyGivenNames x; refine (fun hx : Fr f a x => ?_) ?_; (on_goal 1 => clear_value x); (on_goal 2 => subst x))
    | (extract_lets +onlyGivenNames x; refine (fun hx : Fr f a x.2 => ?_) ?_; (on_goal 1 => clear_value x); (on_goal 2 => subst x))
    | (extract_lets +onlyGivenNames x; clear_value x)
    | dsimp only

theorem Chip.bootFault_fr {f : Frame} {a c : Chip}  (h : Fr f a c) (hp_clk : Part.clk ∈ f.parts) (hp_bead : Part.bead ∈ f.parts) (hr_GLB_FAULT : f.regs .GLB_FAULT = true) :
    Fr f a (Chip.bootFault c) := by
  unfold Chip.bootFault
  repeat' first
    | with_reducible assumption
    | with_reducible apply Chip.fault_fr
    | intro _
    | split
    | (extract_lets +onlyGivenNames x; refine (fun hx : Fr f a x => ?_) ?_; (on_goal 1 => clear_value x); (on_goal 2 => subst x))
    | (extract_lets +onlyGivenNames x; refine (fun hx : Fr f a x.2 => ?_) ?_; (on_goal 1 => clear_value x); (on_goal 2 => subst x))
    | (extract_lets +onlyGivenNames x; clear_value x)
    | dsimp only

theorem Chip.bootRecovery_fr {f : Frame} {a c : Chip}  (h : Fr f a c) (hp_clk : Part.clk ∈ f.parts) (hp_bead : Part.bead ∈ f.parts) (hr_BOOT_STATUS : f.regs .BOOT_STATUS = true) (hr_GLB_FAULT : f.regs .GLB_FAULT = true) :
    Fr f a (Chip.bootRecovery c) := by
  unfold Chip.bootRecovery
  repeat' first
    | with_reducible assumption
    | with_reducible apply Chip.bootSt_fr
    | with_reducible apply Chip.updClk_fr
    | with_reducible apply Chip.bootFault_fr
    | intro _
    | split
    | (extract_lets +onlyGivenNames x; refine (fun hx : Fr f a x => ?_) ?_; (on_goal 1 => clear_value x); (on_goal 2 => subst x))
    | (extract_lets +onlyGivenNames x; refine (fun hx : Fr f a x.2 => ?_) ?_; (on_goal 1 => clear_value x); (on_goal 2 => subst x))
    | (extract_lets +onlyGivenNames x; clear_value x)
    | dsimp only

theorem Chip.fetchComp_fr {f : Frame} {a c : Chip} {bank_} {h_} {typ_} (h : Fr f a c) (hp_clk : Part.clk ∈ f.parts) (hp_fw : Part.fw ∈ f.parts) (hp_doors : Part.doors ∈ f.parts) (hp_bead : Part.bead ∈ f.parts) (hr_BOOT_STATUS : f.regs .BOOT_STATUS = true) (hr_GLB_FAULT : f.regs .GLB_FAULT = true) :
    Fr f a (Chip.fetchComp c bank_ h_ typ_) := by
  unfold Chip.fetchComp
  repeat' first
    | with_reducible assumption
    | with_reducible apply Chip.measure_fr
    | with_reducible apply Chip.fault_fr
    | with_reducible apply Chip.bootSt_fr
    | with_reducible apply Chip.updFw_fr
    | with_reducible exact fun _ => rfl
    | with_reducible exact fun _ => ⟨rfl, rfl⟩
    | with_reducible rfl
    | with_reducible exact ⟨rfl, rfl⟩
    | intro _
    | split
    | (extract_lets +onlyGivenNames x; refine (fun hx : Fr f a x => ?_) ?_; (on_goal 1 => clear_value x); (on_goal 2 => subst x))
    | (extract_lets +onlyGivenNames x; refine (fun hx : Fr f a x.2 => ?_) ?_; (on_goal 1 => clear_value x); (on_goal 2 => subst x))
    | (extract_lets +onlyGivenNames x; clear_value x)
    | dsimp only

theorem Chip.bootImage_fr {f : Frame} {a c : Chip} {bank_} {h_} (h : Fr f a c) (hp_clk : Part.clk ∈ f.parts) (hp_fw : Part.fw ∈ f.parts) (hp_doors : Part.doors ∈ f.parts) (hp_bead : Part.bead ∈ f.parts) (hr_BOOT_STATUS : f.regs .BOOT_STATUS = true) (hr_GLB_FAULT : f.regs .GLB_FAULT = true) :
    Fr f a (Chip.bootImage c bank_ h_) := by
  unfold Chip.bootImage
  repeat' first
    | with_reducible assumption
    | with_reducible apply Chip.bootSt_fr
    | with_reducible apply Chip.bootFault_fr
    | with_reducible apply Fr.each
    | with_reducible apply Chip.fetchComp_fr
    | with_reducible apply Chip.updFw_fr
    | with_reducible apply Chip.updClk_fr
    | with_reducible exact fun _ => rfl
    | with_reducible exact fun _ => ⟨rfl, rfl⟩
    | with_reducible rfl
    | with_reducible exact ⟨rfl, rfl⟩
    | intro _
    | split
    | (extract_lets +onlyGivenNames x; refine (fun hx : Fr f a x => ?_) ?_; (on_goal 1 => clear_value x); (on_goal 2 => subst x))
    | (extract_lets +onlyGivenNames x; refine (fun hx : Fr f a x.2 => ?_) ?_; (on_goal 1 => clear_value x); (on_goal 2 => subst x))
    | (extract_lets +onlyGivenNames x; clear_value x)
    | dsimp only

theorem Chip.bootRom_fr {f : Frame} {a c : Chip}  (h : Fr f a c) (hp_clk : Part.clk ∈ f.parts) (hp_fw : Part.fw ∈ f.parts) (hp_doors : Part.doors ∈ f.parts) (hp_bead : Part.bead ∈ f.parts) (hr_BOOT_OVR : f.regs .BOOT_OVR = true) (hr_BOOT_STATUS : f.regs .BOOT_STATUS = true) (hr_GLB_FAULT : f.regs .GLB_FAULT = true) :
    Fr f a (Chip.bootRom c) := by
  unfold Chip.bootRom
  repeat' first
    | with_reducible assumption
    | with_reducible apply Chip.updFw_fr
    | with_reducible apply Chip.measure_fr
    | with_reducible apply Chip.bootRecovery_fr
    | with_reducible apply Chip.setF_fr
    | with_reducible apply Chip.bootImage_fr
    | with_reducible apply Chip.bootFault_fr
    | with_reducible apply Chip.bootSt_fr
    | with_reducible exact fun _ => rfl
    | with_reducible exact fun _ => ⟨rfl, rfl⟩
    | with_reducible rfl
    | with_reducible exact ⟨rfl, rfl⟩
    | intro _
    | split
    | (extract_lets +onlyGivenNames x; refine (fun hx : Fr f a x => ?_) ?_; (on_goal 1 => clear_value x); (on_goal 2 => subst x))
    | (extract_lets +onlyGivenNames x; refine (fun hx : Fr f a x.2 => ?_) ?_; (on_goal 1 => clear_value x); (on_goal 2 => subst x))
    | (extract_lets +onlyGivenNames x; clear_value x)
    | dsimp only

theorem Chip.putTables_fr {f : Frame} {a c c' : Chip} {bank rules maps} (e : c.putTables bank rules maps = .ok c') (h : Fr f a c)
    (hp_doors : Part.doors ∈ f.parts) (hp_rates : Part.rates ∈ f.parts) (hp_pond : Part.pond ∈ f.parts) (hp_engines : Part.engines ∈ f.parts) (hp_svc : Part.svc ∈ f.parts) (hr_HOLDER_USED : ∀ n, f.regs (.HOLDER_USED n) = true) (hr_POND_FREE : f.regs .POND_FREE = true) (hr_POND_STATUS : f.regs .POND_STATUS = true) (hr_POND_WAIT : f.regs .POND_WAIT = true) : Fr f a c' := by
  unfold Chip.putTables at e
  simp only at e
  split at e
  · exact absurd e (by simp)
  · simp only [Except.ok.injEq] at e
    subst e
    repeat' first
      | assumption
      | exact hr_DROP_STATUS _
      | exact hr_HOLDER_USED _
      | with_reducible apply Fr.each
      | with_reducible apply Chip.freeCtx_fr
      | with_reducible apply Chip.updSvc_fr
      | with_reducible apply Chip.setBody_fr
      | with_reducible refine Chip.allocMany_fr ‹_› ?_ ?_ ?_ ?_ ?_ ?_ ?_
      | intro _

theorem Chip.applyTables_fr {f : Frame} {a c c' : Chip} {bank y} (e : c.applyTables bank = .ok (y, c')) (h : Fr f a c)
    (hp_fw : Part.fw ∈ f.parts) (hp_doors : Part.doors ∈ f.parts) (hp_rates : Part.rates ∈ f.parts) (hp_pond : Part.pond ∈ f.parts) (hp_engines : Part.engines ∈ f.parts) (hp_svc : Part.svc ∈ f.parts) (hr_HOLDER_USED : ∀ n, f.regs (.HOLDER_USED n) = true) (hr_POND_FREE : f.regs .POND_FREE = true) (hr_POND_STATUS : f.regs .POND_STATUS = true) (hr_POND_WAIT : f.regs .POND_WAIT = true) : Fr f a c' := by
  unfold Chip.applyTables at e
  split at e
  · exact absurd e (by simp)
  · split at e
    · exact absurd e (by simp)
    · split at e
      · exact absurd e (by simp)
      · simp only [Except.ok.injEq, Prod.mk.injEq] at e
        obtain ⟨_, rfl⟩ := e
        refine Chip.updFw_fr ?_ ‹_› (fun _ => rfl)
        exact Chip.putTables_fr ‹_› h ‹_› ‹_› ‹_› ‹_› ‹_› hr_HOLDER_USED hr_POND_FREE hr_POND_STATUS hr_POND_WAIT

/-! ### Machine/BeadOps.lean -/

theorem Chip.syncBead_fr {f : Frame} {a c : Chip}  (h : Fr f a c) (hr_BEAD_STATUS : f.regs .BEAD_STATUS = true) :
    Fr f a (Chip.syncBead c) := by
  unfold Chip.syncBead
  repeat' first
    | with_reducible assumption
    | with_reducible apply Chip.setSt_fr
    | intro _
    | split
    | (extract_lets +onlyGivenNames x; refine (fun hx : Fr f a x => ?_) ?_; (on_goal 1 => clear_value x); (on_goal 2 => subst x))
    | (extract_lets +onlyGivenNames x; refine (fun hx : Fr f a x.2 => ?_) ?_; (on_goal 1 => clear_value x); (on_goal 2 => subst x))
    | (extract_lets +onlyGivenNames x; clear_value x)
    | dsimp only

theorem Chip.commitAll_fr {f : Frame} {a c : Chip} {l_} (h : Fr f a c) (hp_bead : Part.bead ∈ f.parts) (hr_BEAD_STATUS : f.regs .BEAD_STATUS = true) :
    Fr f a (Chip.commitAll c l_) := by
  unfold Chip.commitAll
  repeat' first
    | with_reducible assumption
    | with_reducible apply Chip.syncBead_fr
    | with_reducible apply Chip.updBead_fr
    | with_reducible exact fun _ => rfl
    | with_reducible exact fun _ => ⟨rfl, rfl⟩
    | with_reducible rfl
    | with_reducible exact ⟨rfl, rfl⟩
    | intro _
    | split
    | (extract_lets +onlyGivenNames x; refine (fun hx : Fr f a x => ?_) ?_; (on_goal 1 => clear_value x); (on_goal 2 => subst x))
    | (extract_lets +onlyGivenNames x; refine (fun hx : Fr f a x.2 => ?_) ?_; (on_goal 1 => clear_value x); (on_goal 2 => subst x))
    | (extract_lets +onlyGivenNames x; clear_value x)
    | dsimp only

theorem Chip.hsNext_fr {f : Frame} {a c : Chip}  (h : Fr f a c) (hp_bead : Part.bead ∈ f.parts) (hr_BEAD_STATUS : f.regs .BEAD_STATUS = true) :
    Fr f a (Chip.hsNext c) := by
  unfold Chip.hsNext
  repeat' first
    | with_reducible assumption
    | with_reducible apply Chip.syncBead_fr
    | with_reducible apply Chip.commitAll_fr
    | with_reducible apply Chip.updBead_fr
    | with_reducible exact fun _ => rfl
    | with_reducible exact fun _ => ⟨rfl, rfl⟩
    | with_reducible rfl
    | with_reducible exact ⟨rfl, rfl⟩
    | intro _
    | split
    | (extract_lets +onlyGivenNames x; refine (fun hx : Fr f a x => ?_) ?_; (on_goal 1 => clear_value x); (on_goal 2 => subst x))
    | (extract_lets +onlyGivenNames x; refine (fun hx : Fr f a x.2 => ?_) ?_; (on_goal 1 => clear_value x); (on_goal 2 => subst x))
    | (extract_lets +onlyGivenNames x; clear_value x)
    | dsimp only

/-! ### Machine/SchedOps.lean -/

theorem Chip.setSched_fr {f : Frame} {a c : Chip} {n_} {l_} (h : Fr f a c) (hp_ports : Part.ports ∈ f.parts) (hr_DROP_SCHED : ∀ n, f.regs (.DROP_SCHED n) = true) :
    Fr f a (Chip.setSched c n_ l_) := by
  unfold Chip.setSched
  repeat' first
    | with_reducible assumption
    | with_reducible exact hr_DROP_SCHED _
    | with_reducible apply Chip.updDrop_fr
    | with_reducible apply Chip.setF_fr
    | intro _
    | split
    | (extract_lets +onlyGivenNames x; refine (fun hx : Fr f a x => ?_) ?_; (on_goal 1 => clear_value x); (on_goal 2 => subst x))
    | (extract_lets +onlyGivenNames x; refine (fun hx : Fr f a x.2 => ?_) ?_; (on_goal 1 => clear_value x); (on_goal 2 => subst x))
    | (extract_lets +onlyGivenNames x; clear_value x)
    | dsimp only

theorem Chip.evOverbook_fr {f : Frame} {a c : Chip} {n_} {route_} {x_} (h : Fr f a c) (hp_doors : Part.doors ∈ f.parts) :
    Fr f a (Chip.evOverbook c n_ route_ x_) := by
  unfold Chip.evOverbook
  repeat' first
    | with_reducible assumption
    | with_reducible apply Chip.post_fr
    | intro _
    | split
    | (extract_lets +onlyGivenNames x; refine (fun hx : Fr f a x => ?_) ?_; (on_goal 1 => clear_value x); (on_goal 2 => subst x))
    | (extract_lets +onlyGivenNames x; refine (fun hx : Fr f a x.2 => ?_) ?_; (on_goal 1 => clear_value x); (on_goal 2 => subst x))
    | (extract_lets +onlyGivenNames x; clear_value x)
    | dsimp only

/-! ### Machine/DropOps.lean -/

theorem Chip.setRoot_fr {f : Frame} {a c : Chip} {n_} {st_} (h : Fr f a c) (hr_DROP_STATUS : ∀ n, f.regs (.DROP_STATUS n) = true) :
    Fr f a (Chip.setRoot c n_ st_) := by
  unfold Chip.setRoot
  repeat' first
    | with_reducible assumption
    | with_reducible exact hr_DROP_STATUS _
    | with_reducible apply Chip.setSt_fr
    | intro _
    | split
    | (extract_lets +onlyGivenNames x; refine (fun hx : Fr f a x => ?_) ?_; (on_goal 1 => clear_value x); (on_goal 2 => subst x))
    | (extract_lets +onlyGivenNames x; refine (fun hx : Fr f a x.2 => ?_) ?_; (on_goal 1 => clear_value x); (on_goal 2 => subst x))
    | (extract_lets +onlyGivenNames x; clear_value x)
    | dsimp only

theorem Chip.dropIgnore_fr {f : Frame} {a c : Chip} {n_} (h : Fr f a c) (hp_ports : Part.ports ∈ f.parts) :
    Fr f a (Chip.dropIgnore c n_) := by
  unfold Chip.dropIgnore
  repeat' first
    | with_reducible assumption
    | with_reducible apply Chip.updDrop_fr
    | intro _
    | split
    | (extract_lets +onlyGivenNames x; refine (fun hx : Fr f a x => ?_) ?_; (on_goal 1 => clear_value x); (on_goal 2 => subst x))
    | (extract_lets +onlyGivenNames x; refine (fun hx : Fr f a x.2 => ?_) ?_; (on_goal 1 => clear_value x); (on_goal 2 => subst x))
    | (extract_lets +onlyGivenNames x; clear_value x)
    | dsimp only

theorem Chip.syncTree_fr {f : Frame} {a c : Chip} {n_} (h : Fr f a c) (hr_DROP_STATUS : ∀ n, f.regs (.DROP_STATUS n) = true) :
    Fr f a (Chip.syncTree c n_) := by
  unfold Chip.syncTree
  repeat' first
    | with_reducible assumption
    | with_reducible exact hr_DROP_STATUS _
    | with_reducible apply Chip.bump_fr
    | with_reducible apply Fr.wr
    | intro _
    | split
    | (extract_lets +onlyGivenNames x; refine (fun hx : Fr f a x => ?_) ?_; (on_goal 1 => clear_value x); (on_goal 2 => subst x))
    | (extract_lets +onlyGivenNames x; refine (fun hx : Fr f a x.2 => ?_) ?_; (on_goal 1 => clear_value x); (on_goal 2 => subst x))
    | (extract_lets +onlyGivenNames x; clear_value x)
    | dsimp only

theorem Chip.answers_fr {f : Frame} {a c : Chip} {qs_} {res_} (h : Fr f a c) (hp_trunk : Part.trunk ∈ f.parts) (hp_doors : Part.doors ∈ f.parts) (hp_reqs : Part.reqs ∈ f.parts) (hp_rates : Part.rates ∈ f.parts) :
    Fr f a (Chip.answers c qs_ res_) := by
  unfold Chip.answers
  repeat' first
    | with_reducible assumption
    | with_reducible apply Fr.each
    | with_reducible apply Chip.answer_fr
    | intro _
    | split
    | (extract_lets +onlyGivenNames x; refine (fun hx : Fr f a x => ?_) ?_; (on_goal 1 => clear_value x); (on_goal 2 => subst x))
    | (extract_lets +onlyGivenNames x; refine (fun hx : Fr f a x.2 => ?_) ?_; (on_goal 1 => clear_value x); (on_goal 2 => subst x))
    | (extract_lets +onlyGivenNames x; clear_value x)
    | dsimp only

theorem Chip.evAborted_fr {f : Frame} {a c : Chip} {n_} {route_} {ep_} {moved_} (h : Fr f a c) (hp_doors : Part.doors ∈ f.parts) :
    Fr f a (Chip.evAborted c n_ route_ ep_ moved_) := by
  unfold Chip.evAborted
  repeat' first
    | with_reducible assumption
    | with_reducible apply Chip.post_fr
    | intro _
    | split
    | (extract_lets +onlyGivenNames x; refine (fun hx : Fr f a x => ?_) ?_; (on_goal 1 => clear_value x); (on_goal 2 => subst x))
    | (extract_lets +onlyGivenNames x; refine (fun hx : Fr f a x.2 => ?_) ?_; (on_goal 1 => clear_value x); (on_goal 2 => subst x))
    | (extract_lets +onlyGivenNames x; clear_value x)
    | dsimp only

theorem Chip.dropGrants_fr {f : Frame} {a c : Chip} {p_} (h : Fr f a c) (hp_doors : Part.doors ∈ f.parts) (hp_rates : Part.rates ∈ f.parts) (hp_pond : Part.pond ∈ f.parts) (hp_engines : Part.engines ∈ f.parts) (hr_HOLDER_USED : ∀ n, f.regs (.HOLDER_USED n) = true) (hr_POND_FREE : f.regs .POND_FREE = true) (hr_POND_STATUS : f.regs .POND_STATUS = true) (hr_POND_WAIT : f.regs .POND_WAIT = true) :
    Fr f a (Chip.dropGrants c p_) := by
  unfold Chip.dropGrants
  repeat' first
    | with_reducible assumption
    | with_reducible exact hr_HOLDER_USED _
    | with_reducible apply Chip.updPond_fr
    | with_reducible apply Fr.each
    | with_reducible apply Chip.freeCtx_fr
    | intro _
    | split
    | (extract_lets +onlyGivenNames x; refine (fun hx : Fr f a x => ?_) ?_; (on_goal 1 => clear_value x); (on_goal 2 => subst x))
    | (extract_lets +onlyGivenNames x; refine (fun hx : Fr f a x.2 => ?_) ?_; (on_goal 1 => clear_value x); (on_goal 2 => subst x))
    | (extract_lets +onlyGivenNames x; clear_value x)
    | dsimp only

theorem Chip.treeLeaves_fr {f : Frame} {a c : Chip} {n_} {r_} (h : Fr f a c) (hp_doors : Part.doors ∈ f.parts) (hp_rates : Part.rates ∈ f.parts) (hp_pond : Part.pond ∈ f.parts) (hp_engines : Part.engines ∈ f.parts) (hr_HOLDER_USED : ∀ n, f.regs (.HOLDER_USED n) = true) (hr_POND_FREE : f.regs .POND_FREE = true) (hr_POND_STATUS : f.regs .POND_STATUS = true) (hr_POND_WAIT : f.regs .POND_WAIT = true) :
    Fr f a (Chip.treeLeaves c n_ r_) := by
  unfold Chip.treeLeaves
  repeat' first
    | with_reducible assumption
    | with_reducible exact hr_HOLDER_USED _
    | with_reducible apply Chip.dropGrants_fr
    | with_reducible apply Chip.dropWaiters_fr
    | intro _
    | split
    | (extract_lets +onlyGivenNames x; refine (fun hx : Fr f a x => ?_) ?_; (on_goal 1 => clear_value x); (on_goal 2 => subst x))
    | (extract_lets +onlyGivenNames x; refine (fun hx : Fr f a x.2 => ?_) ?_; (on_goal 1 => clear_value x); (on_goal 2 => subst x))
    | (extract_lets +onlyGivenNames x; clear_value x)
    | dsimp only

theorem Chip.treePost_fr {f : Frame} {a c : Chip} {n_} {code_} {payload_} (h : Fr f a c) (hp_doors : Part.doors ∈ f.parts) (hp_pond : Part.pond ∈ f.parts) :
    Fr f a (Chip.treePost c n_ code_ payload_) := by
  unfold Chip.treePost
  repeat' first
    | with_reducible assumption
    | with_reducible apply Chip.afterFree_fr
    | with_reducible apply Chip.post_fr
    | intro _
    | split
    | (extract_lets +onlyGivenNames x; refine (fun hx : Fr f a x => ?_) ?_; (on_goal 1 => clear_value x); (on_goal 2 => subst x))
    | (extract_lets +onlyGivenNames x; refine (fun hx : Fr f a x.2 => ?_) ?_; (on_goal 1 => clear_value x); (on_goal 2 => subst x))
    | (extract_lets +onlyGivenNames x; clear_value x)
    | dsimp only

theorem Chip.answerAfter_fr {f : Frame} {a c : Chip} {n_} {q_} {res_} (h : Fr f a c) (hp_trunk : Part.trunk ∈ f.parts) (hp_doors : Part.doors ∈ f.parts) (hp_reqs : Part.reqs ∈ f.parts) (hp_rates : Part.rates ∈ f.parts) (hp_pond : Part.pond ∈ f.parts) :
    Fr f a (Chip.answerAfter c n_ q_ res_) := by
  unfold Chip.answerAfter
  repeat' first
    | with_reducible assumption
    | with_reducible apply Chip.afterFree_fr
    | with_reducible apply Chip.answer_fr
    | intro _
    | split
    | (extract_lets +onlyGivenNames x; refine (fun hx : Fr f a x => ?_) ?_; (on_goal 1 => clear_value x); (on_goal 2 => subst x))
    | (extract_lets +onlyGivenNames x; refine (fun hx : Fr f a x.2 => ?_) ?_; (on_goal 1 => clear_value x); (on_goal 2 => subst x))
    | (extract_lets +onlyGivenNames x; clear_value x)
    | dsimp only

theorem Chip.detach_fr {f : Frame} {a c : Chip} {n_} {r_} {cause_} (h : Fr f a c) (hp_trunk : Part.trunk ∈ f.parts) (hp_doors : Part.doors ∈ f.parts) (hp_reqs : Part.reqs ∈ f.parts) (hp_rates : Part.rates ∈ f.parts) (hp_pond : Part.pond ∈ f.parts) (hp_engines : Part.engines ∈ f.parts) (hp_basins : Part.basins ∈ f.parts) (hp_ports : Part.ports ∈ f.parts) (hp_svc : Part.svc ∈ f.parts) (hp_pwr : Part.pwr ∈ f.parts) (hr_DROP_SCHED : ∀ n, f.regs (.DROP_SCHED n) = true) (hr_DROP_STATUS : ∀ n, f.regs (.DROP_STATUS n) = true) (hr_HOLDER_USED : ∀ n, f.regs (.HOLDER_USED n) = true) (hr_POND_FREE : f.regs .POND_FREE = true) (hr_POND_STATUS : f.regs .POND_STATUS = true) (hr_POND_WAIT : f.regs .POND_WAIT = true) (hr_PWR_STATUS : f.regs .PWR_STATUS = true) (hr_SVC_STATUS : f.regs .SVC_STATUS = true) :
    Fr f a (Chip.detach c n_ r_ cause_) := by
  unfold Chip.detach
  repeat' first
    | with_reducible assumption
    | with_reducible exact hr_DROP_SCHED _
    | with_reducible exact hr_DROP_STATUS _
    | with_reducible exact hr_HOLDER_USED _
    | with_reducible apply Chip.updDrop_fr
    | with_reducible apply Chip.setSched_fr
    | with_reducible apply Fr.each
    | with_reducible apply Chip.evAborted_fr
    | with_reducible apply Chip.answerOpt_fr
    | with_reducible apply Chip.answers_fr
    | with_reducible apply Chip.culletRecs_fr
    | with_reducible apply Chip.endBinds_fr
    | with_reducible apply Chip.bulkFree_fr
    | with_reducible apply Chip.syncTree_fr
    | with_reducible apply Chip.afterFree_fr
    | with_reducible apply Chip.treeLeaves_fr
    | with_reducible apply Chip.treePost_fr
    | intro _
    | split
    | (extract_lets +onlyGivenNames x; refine (fun hx : Fr f a x => ?_) ?_; (on_goal 1 => clear_value x); (on_goal 2 => subst x))
    | (extract_lets +onlyGivenNames x; refine (fun hx : Fr f a x.2 => ?_) ?_; (on_goal 1 => clear_value x); (on_goal 2 => subst x))
    | (extract_lets +onlyGivenNames x; clear_value x)
    | dsimp only

theorem Chip.dropAnswerAll_fr {f : Frame} {a c : Chip} {n_} {res_} (h : Fr f a c) (hp_trunk : Part.trunk ∈ f.parts) (hp_doors : Part.doors ∈ f.parts) (hp_reqs : Part.reqs ∈ f.parts) (hp_rates : Part.rates ∈ f.parts) (hp_ports : Part.ports ∈ f.parts) :
    Fr f a (Chip.dropAnswerAll c n_ res_) := by
  unfold Chip.dropAnswerAll
  repeat' first
    | with_reducible assumption
    | with_reducible apply Chip.updDrop_fr
    | with_reducible apply Chip.answers_fr
    | intro _
    | split
    | (extract_lets +onlyGivenNames x; refine (fun hx : Fr f a x => ?_) ?_; (on_goal 1 => clear_value x); (on_goal 2 => subst x))
    | (extract_lets +onlyGivenNames x; refine (fun hx : Fr f a x.2 => ?_) ?_; (on_goal 1 => clear_value x); (on_goal 2 => subst x))
    | (extract_lets +onlyGivenNames x; clear_value x)
    | dsimp only

theorem Chip.disconnectRoot_fr {f : Frame} {a c : Chip} {n_} (h : Fr f a c) (hp_trunk : Part.trunk ∈ f.parts) (hp_doors : Part.doors ∈ f.parts) (hp_reqs : Part.reqs ∈ f.parts) (hp_rates : Part.rates ∈ f.parts) (hp_pond : Part.pond ∈ f.parts) (hp_engines : Part.engines ∈ f.parts) (hp_basins : Part.basins ∈ f.parts) (hp_ports : Part.ports ∈ f.parts) (hp_svc : Part.svc ∈ f.parts) (hp_pwr : Part.pwr ∈ f.parts) (hr_DROP_SCHED : ∀ n, f.regs (.DROP_SCHED n) = true) (hr_DROP_STATUS : ∀ n, f.regs (.DROP_STATUS n) = true) (hr_HOLDER_USED : ∀ n, f.regs (.HOLDER_USED n) = true) (hr_POND_FREE : f.regs .POND_FREE = true) (hr_POND_STATUS : f.regs .POND_STATUS = true) (hr_POND_WAIT : f.regs .POND_WAIT = true) (hr_PWR_STATUS : f.regs .PWR_STATUS = true) (hr_SVC_STATUS : f.regs .SVC_STATUS = true) :
    Fr f a (Chip.disconnectRoot c n_) := by
  unfold Chip.disconnectRoot
  repeat' first
    | with_reducible assumption
    | with_reducible exact hr_DROP_SCHED _
    | with_reducible exact hr_DROP_STATUS _
    | with_reducible exact hr_HOLDER_USED _
    | with_reducible apply Chip.detach_fr
    | with_reducible apply Chip.dropAnswerAll_fr
    | with_reducible apply Chip.setSt_fr
    | with_reducible apply Chip.updDrop_fr
    | with_reducible apply Chip.setRoot_fr
    | intro _
    | split
    | (extract_lets +onlyGivenNames x; refine (fun hx : Fr f a x => ?_) ?_; (on_goal 1 => clear_value x); (on_goal 2 => subst x))
    | (extract_lets +onlyGivenNames x; refine (fun hx : Fr f a x.2 => ?_) ?_; (on_goal 1 => clear_value x); (on_goal 2 => subst x))
    | (extract_lets +onlyGivenNames x; clear_value x)
    | dsimp only

theorem Chip.evPortStatus_fr {f : Frame} {a c : Chip} {n_} {route_} {bits_} {cause_} (h : Fr f a c) (hp_doors : Part.doors ∈ f.parts) (hp_pond : Part.pond ∈ f.parts) :
    Fr f a (Chip.evPortStatus c n_ route_ bits_ cause_) := by
  unfold Chip.evPortStatus
  repeat' first
    | with_reducible assumption
    | with_reducible apply Chip.treePost_fr
    | intro _
    | split
    | (extract_lets +onlyGivenNames x; refine (fun hx : Fr f a x => ?_) ?_; (on_goal 1 => clear_value x); (on_goal 2 => subst x))
    | (extract_lets +onlyGivenNames x; refine (fun hx : Fr f a x.2 => ?_) ?_; (on_goal 1 => clear_value x); (on_goal 2 => subst x))
    | (extract_lets +onlyGivenNames x; clear_value x)
    | dsimp only

theorem Chip.powerLost_fr {f : Frame} {a c : Chip} {n_} {trip_} (h : Fr f a c) (hp_trunk : Part.trunk ∈ f.parts) (hp_doors : Part.doors ∈ f.parts) (hp_reqs : Part.reqs ∈ f.parts) (hp_rates : Part.rates ∈ f.parts) (hp_pond : Part.pond ∈ f.parts) (hp_engines : Part.engines ∈ f.parts) (hp_basins : Part.basins ∈ f.parts) (hp_ports : Part.ports ∈ f.parts) (hp_svc : Part.svc ∈ f.parts) (hp_pwr : Part.pwr ∈ f.parts) (hr_DROP_SCHED : ∀ n, f.regs (.DROP_SCHED n) = true) (hr_DROP_STATUS : ∀ n, f.regs (.DROP_STATUS n) = true) (hr_HOLDER_USED : ∀ n, f.regs (.HOLDER_USED n) = true) (hr_POND_FREE : f.regs .POND_FREE = true) (hr_POND_STATUS : f.regs .POND_STATUS = true) (hr_POND_WAIT : f.regs .POND_WAIT = true) (hr_PWR_STATUS : f.regs .PWR_STATUS = true) (hr_SVC_STATUS : f.regs .SVC_STATUS = true) :
    Fr f a (Chip.powerLost c n_ trip_) := by
  unfold Chip.powerLost
  repeat' first
    | with_reducible assumption
    | with_reducible exact hr_DROP_SCHED _
    | with_reducible exact hr_DROP_STATUS _
    | with_reducible exact hr_HOLDER_USED _
    | with_reducible apply Chip.record_fr
    | with_reducible apply Chip.detach_fr
    | with_reducible apply Chip.dropAnswerAll_fr
    | with_reducible apply Chip.evPortStatus_fr
    | with_reducible apply Chip.setSt_fr
    | with_reducible apply Chip.updDrop_fr
    | with_reducible apply Chip.setRoot_fr
    | with_reducible apply Chip.dropIgnore_fr
    | intro _
    | split
    | (extract_lets +onlyGivenNames x; refine (fun hx : Fr f a x => ?_) ?_; (on_goal 1 => clear_value x); (on_goal 2 => subst x))
    | (extract_lets +onlyGivenNames x; refine (fun hx : Fr f a x.2 => ?_) ?_; (on_goal 1 => clear_value x); (on_goal 2 => subst x))
    | (extract_lets +onlyGivenNames x; clear_value x)
    | dsimp only

theorem Chip.powerBack_fr {f : Frame} {a c : Chip} {n_} (h : Fr f a c) (hp_ports : Part.ports ∈ f.parts) (hr_DROP_STATUS : ∀ n, f.regs (.DROP_STATUS n) = true) :
    Fr f a (Chip.powerBack c n_) := by
  unfold Chip.powerBack
  repeat' first
    | with_reducible assumption
    | with_reducible exact hr_DROP_STATUS _
    | with_reducible apply Chip.setRoot_fr
    | with_reducible apply Chip.dropIgnore_fr
    | intro _
    | split
    | (extract_lets +onlyGivenNames x; refine (fun hx : Fr f a x => ?_) ?_; (on_goal 1 => clear_value x); (on_goal 2 => subst x))
    | (extract_lets +onlyGivenNames x; refine (fun hx : Fr f a x.2 => ?_) ?_; (on_goal 1 => clear_value x); (on_goal 2 => subst x))
    | (extract_lets +onlyGivenNames x; clear_value x)
    | dsimp only

theorem Chip.putDev_fr {f : Frame} {a c : Chip} {n_} {d_} (h : Fr f a c) (hp_ports : Part.ports ∈ f.parts) :
    Fr f a (Chip.putDev c n_ d_) := by
  unfold Chip.putDev
  repeat' first
    | with_reducible assumption
    | with_reducible apply Chip.updDrop_fr
    | intro _
    | split
    | (extract_lets +onlyGivenNames x; refine (fun hx : Fr f a x => ?_) ?_; (on_goal 1 => clear_value x); (on_goal 2 => subst x))
    | (extract_lets +onlyGivenNames x; refine (fun hx : Fr f a x.2 => ?_) ?_; (on_goal 1 => clear_value x); (on_goal 2 => subst x))
    | (extract_lets +onlyGivenNames x; clear_value x)
    | dsimp only

theorem Chip.evAttach_fr {f : Frame} {a c : Chip} {n_} {route_} {speed_} {res_} (h : Fr f a c) (hp_doors : Part.doors ∈ f.parts) :
    Fr f a (Chip.evAttach c n_ route_ speed_ res_) := by
  unfold Chip.evAttach
  repeat' first
    | with_reducible assumption
    | with_reducible apply Chip.post_fr
    | intro _
    | split
    | (extract_lets +onlyGivenNames x; refine (fun hx : Fr f a x => ?_) ?_; (on_goal 1 => clear_value x); (on_goal 2 => subst x))
    | (extract_lets +onlyGivenNames x; refine (fun hx : Fr f a x.2 => ?_) ?_; (on_goal 1 => clear_value x); (on_goal 2 => subst x))
    | (extract_lets +onlyGivenNames x; clear_value x)
    | dsimp only

theorem Chip.startReset_fr {f : Frame} {a c : Chip} {n_} (h : Fr f a c) (hp_ports : Part.ports ∈ f.parts) (hr_DROP_STATUS : ∀ n, f.regs (.DROP_STATUS n) = true) :
    Fr f a (Chip.startReset c n_) := by
  unfold Chip.startReset
  repeat' first
    | with_reducible assumption
    | with_reducible exact hr_DROP_STATUS _
    | with_reducible apply Chip.updDrop_fr
    | with_reducible apply Chip.setRoot_fr
    | intro _
    | split
    | (extract_lets +onlyGivenNames x; refine (fun hx : Fr f a x => ?_) ?_; (on_goal 1 => clear_value x); (on_goal 2 => subst x))
    | (extract_lets +onlyGivenNames x; refine (fun hx : Fr f a x.2 => ?_) ?_; (on_goal 1 => clear_value x); (on_goal 2 => subst x))
    | (extract_lets +onlyGivenNames x; clear_value x)
    | dsimp only

theorem Chip.startEnum_fr {f : Frame} {a c : Chip} {n_} {route_} {sel_} {wait_} {attempt_} {q_} (h : Fr f a c) (hp_ports : Part.ports ∈ f.parts) (hr_DROP_STATUS : ∀ n, f.regs (.DROP_STATUS n) = true) :
    Fr f a (Chip.startEnum c n_ route_ sel_ wait_ attempt_ q_) := by
  unfold Chip.startEnum
  repeat' first
    | with_reducible assumption
    | with_reducible exact hr_DROP_STATUS _
    | with_reducible apply Chip.updDev_fr
    | with_reducible apply Chip.updDrop_fr
    | with_reducible apply Chip.setRoot_fr
    | intro _
    | split
    | (extract_lets +onlyGivenNames x; refine (fun hx : Fr f a x => ?_) ?_; (on_goal 1 => clear_value x); (on_goal 2 => subst x))
    | (extract_lets +onlyGivenNames x; refine (fun hx : Fr f a x.2 => ?_) ?_; (on_goal 1 => clear_value x); (on_goal 2 => subst x))
    | (extract_lets +onlyGivenNames x; clear_value x)
    | dsimp only

theorem Chip.nextEnum_fr {f : Frame} {a c : Chip} {n_} (h : Fr f a c) (hp_ports : Part.ports ∈ f.parts) (hr_DROP_STATUS : ∀ n, f.regs (.DROP_STATUS n) = true) :
    Fr f a (Chip.nextEnum c n_) := by
  unfold Chip.nextEnum
  repeat' first
    | with_reducible assumption
    | with_reducible exact hr_DROP_STATUS _
    | with_reducible apply Chip.startEnum_fr
    | with_reducible apply Chip.updDrop_fr
    | intro _
    | split
    | (extract_lets +onlyGivenNames x; refine (fun hx : Fr f a x => ?_) ?_; (on_goal 1 => clear_value x); (on_goal 2 => subst x))
    | (extract_lets +onlyGivenNames x; refine (fun hx : Fr f a x.2 => ?_) ?_; (on_goal 1 => clear_value x); (on_goal 2 => subst x))
    | (extract_lets +onlyGivenNames x; clear_value x)
    | dsimp only

theorem Chip.updEnum_fr {f : Frame} {a c : Chip} {n_} {f_} (h : Fr f a c) (hp_ports : Part.ports ∈ f.parts) :
    Fr f a (Chip.updEnum c n_ f_) := by
  unfold Chip.updEnum
  repeat' first
    | with_reducible assumption
    | with_reducible apply Chip.updDrop_fr
    | intro _
    | split
    | (extract_lets +onlyGivenNames x; refine (fun hx : Fr f a x => ?_) ?_; (on_goal 1 => clear_value x); (on_goal 2 => subst x))
    | (extract_lets +onlyGivenNames x; refine (fun hx : Fr f a x.2 => ?_) ?_; (on_goal 1 => clear_value x); (on_goal 2 => subst x))
    | (extract_lets +onlyGivenNames x; clear_value x)
    | dsimp only

theorem Chip.freeEnumCtxs_fr {f : Frame} {a c : Chip} {n_} {e_} (h : Fr f a c) (hp_doors : Part.doors ∈ f.parts) (hp_rates : Part.rates ∈ f.parts) (hp_pond : Part.pond ∈ f.parts) (hp_engines : Part.engines ∈ f.parts) (hp_ports : Part.ports ∈ f.parts) (hr_DROP_SCHED : ∀ n, f.regs (.DROP_SCHED n) = true) (hr_DROP_STATUS : ∀ n, f.regs (.DROP_STATUS n) = true) (hr_HOLDER_USED : ∀ n, f.regs (.HOLDER_USED n) = true) (hr_POND_FREE : f.regs .POND_FREE = true) (hr_POND_STATUS : f.regs .POND_STATUS = true) (hr_POND_WAIT : f.regs .POND_WAIT = true) :
    Fr f a (Chip.freeEnumCtxs c n_ e_) := by
  unfold Chip.freeEnumCtxs
  repeat' first
    | with_reducible assumption
    | with_reducible exact hr_DROP_SCHED _
    | with_reducible exact hr_DROP_STATUS _
    | with_reducible exact hr_HOLDER_USED _
    | with_reducible apply Chip.bulkFree_fr
    | with_reducible apply Chip.updDev_fr
    | with_reducible apply Chip.syncTree_fr
    | with_reducible apply Chip.setSched_fr
    | intro _
    | split
    | (extract_lets +onlyGivenNames x; refine (fun hx : Fr f a x => ?_) ?_; (on_goal 1 => clear_value x); (on_goal 2 => subst x))
    | (extract_lets +onlyGivenNames x; refine (fun hx : Fr f a x.2 => ?_) ?_; (on_goal 1 => clear_value x); (on_goal 2 => subst x))
    | (extract_lets +onlyGivenNames x; clear_value x)
    | dsimp only

theorem Chip.enumFail_fr {f : Frame} {a c : Chip} {n_} {e_} (h : Fr f a c) (hp_trunk : Part.trunk ∈ f.parts) (hp_doors : Part.doors ∈ f.parts) (hp_reqs : Part.reqs ∈ f.parts) (hp_rates : Part.rates ∈ f.parts) (hp_pond : Part.pond ∈ f.parts) (hp_engines : Part.engines ∈ f.parts) (hp_ports : Part.ports ∈ f.parts) (hr_DROP_SCHED : ∀ n, f.regs (.DROP_SCHED n) = true) (hr_DROP_STATUS : ∀ n, f.regs (.DROP_STATUS n) = true) (hr_HOLDER_USED : ∀ n, f.regs (.HOLDER_USED n) = true) (hr_POND_FREE : f.regs .POND_FREE = true) (hr_POND_STATUS : f.regs .POND_STATUS = true) (hr_POND_WAIT : f.regs .POND_WAIT = true) :
    Fr f a (Chip.enumFail c n_ e_) := by
  unfold Chip.enumFail
  repeat' first
    | with_reducible assumption
    | with_reducible exact hr_DROP_SCHED _
    | with_reducible exact hr_DROP_STATUS _
    | with_reducible exact hr_HOLDER_USED _
    | with_reducible apply Chip.freeEnumCtxs_fr
    | with_reducible apply Chip.updDrop_fr
    | with_reducible apply Chip.post_fr
    | with_reducible apply Chip.setRoot_fr
    | with_reducible apply Chip.answer_fr
    | with_reducible apply Chip.afterFree_fr
    | with_reducible apply Chip.nextEnum_fr
    | intro _
    | split
    | (extract_lets +onlyGivenNames x; refine (fun hx : Fr f a x => ?_) ?_; (on_goal 1 => clear_value x); (on_goal 2 => subst x))
    | (extract_lets +onlyGivenNames x; refine (fun hx : Fr f a x.2 => ?_) ?_; (on_goal 1 => clear_value x); (on_goal 2 => subst x))
    | (extract_lets +onlyGivenNames x; clear_value x)
    | dsimp only

theorem Chip.enumRetry_fr {f : Frame} {a c : Chip} {n_} {e_} (h : Fr f a c) (hp_trunk : Part.trunk ∈ f.parts) (hp_doors : Part.doors ∈ f.parts) (hp_reqs : Part.reqs ∈ f.parts) (hp_rates : Part.rates ∈ f.parts) (hp_pond : Part.pond ∈ f.parts) (hp_engines : Part.engines ∈ f.parts) (hp_ports : Part.ports ∈ f.parts) (hr_DROP_SCHED : ∀ n, f.regs (.DROP_SCHED n) = true) (hr_DROP_STATUS : ∀ n, f.regs (.DROP_STATUS n) = true) (hr_HOLDER_USED : ∀ n, f.regs (.HOLDER_USED n) = true) (hr_POND_FREE : f.regs .POND_FREE = true) (hr_POND_STATUS : f.regs .POND_STATUS = true) (hr_POND_WAIT : f.regs .POND_WAIT = true) :
    Fr f a (Chip.enumRetry c n_ e_) := by
  unfold Chip.enumRetry
  repeat' first
    | with_reducible assumption
    | with_reducible exact hr_DROP_SCHED _
    | with_reducible exact hr_DROP_STATUS _
    | with_reducible exact hr_HOLDER_USED _
    | with_reducible apply Chip.enumFail_fr
    | with_reducible apply Chip.freeEnumCtxs_fr
    | with_reducible apply Chip.startReset_fr
    | with_reducible apply Chip.updDrop_fr
    | with_reducible apply Chip.startEnum_fr
    | intro _
    | split
    | (extract_lets +onlyGivenNames x; refine (fun hx : Fr f a x => ?_) ?_; (on_goal 1 => clear_value x); (on_goal 2 => subst x))
    | (extract_lets +onlyGivenNames x; refine (fun hx : Fr f a x.2 => ?_) ?_; (on_goal 1 => clear_value x); (on_goal 2 => subst x))
    | (extract_lets +onlyGivenNames x; clear_value x)
    | dsimp only

theorem Chip.treeLimit_fr {f : Frame} {a c : Chip} {n_} {e_} {cause_} (h : Fr f a c) (hp_trunk : Part.trunk ∈ f.parts) (hp_doors : Part.doors ∈ f.parts) (hp_reqs : Part.reqs ∈ f.parts) (hp_rates : Part.rates ∈ f.parts) (hp_ports : Part.ports ∈ f.parts) (hr_DROP_STATUS : ∀ n, f.regs (.DROP_STATUS n) = true) :
    Fr f a (Chip.treeLimit c n_ e_ cause_) := by
  unfold Chip.treeLimit
  repeat' first
    | with_reducible assumption
    | with_reducible exact hr_DROP_STATUS _
    | with_reducible apply Chip.post_fr
    | with_reducible apply Chip.updDrop_fr
    | with_reducible apply Chip.nextEnum_fr
    | with_reducible apply Chip.answerOpt_fr
    | intro _
    | split
    | (extract_lets +onlyGivenNames x; refine (fun hx : Fr f a x => ?_) ?_; (on_goal 1 => clear_value x); (on_goal 2 => subst x))
    | (extract_lets +onlyGivenNames x; refine (fun hx : Fr f a x.2 => ?_) ?_; (on_goal 1 => clear_value x); (on_goal 2 => subst x))
    | (extract_lets +onlyGivenNames x; clear_value x)
    | dsimp only

theorem Chip.enumGranted_fr {f : Frame} {a c : Chip} {n_} {e_} {cids_} (h : Fr f a c) (hp_doors : Part.doors ∈ f.parts) (hp_rates : Part.rates ∈ f.parts) (hp_pond : Part.pond ∈ f.parts) (hp_engines : Part.engines ∈ f.parts) (hp_ports : Part.ports ∈ f.parts) (hr_DROP_STATUS : ∀ n, f.regs (.DROP_STATUS n) = true) (hr_HOLDER_USED : ∀ n, f.regs (.HOLDER_USED n) = true) (hr_POND_FREE : f.regs .POND_FREE = true) (hr_POND_STATUS : f.regs .POND_STATUS = true) (hr_POND_WAIT : f.regs .POND_WAIT = true) :
    Fr f a (Chip.enumGranted c n_ e_ cids_) := by
  unfold Chip.enumGranted
  repeat' first
    | with_reducible assumption
    | with_reducible exact hr_DROP_STATUS _
    | with_reducible exact hr_HOLDER_USED _
    | with_reducible apply Chip.dropWaiters_fr
    | with_reducible apply Chip.setBody_fr
    | with_reducible apply Fr.each
    | with_reducible apply Chip.touchBy_fr
    | with_reducible apply Chip.updEnum_fr
    | with_reducible apply Chip.updDev_fr
    | with_reducible apply Chip.setRoot_fr
    | intro _
    | split
    | (extract_lets +onlyGivenNames x; refine (fun hx : Fr f a x => ?_) ?_; (on_goal 1 => clear_value x); (on_goal 2 => subst x))
    | (extract_lets +onlyGivenNames x; refine (fun hx : Fr f a x.2 => ?_) ?_; (on_goal 1 => clear_value x); (on_goal 2 => subst x))
    | (extract_lets +onlyGivenNames x; clear_value x)
    | dsimp only

theorem Chip.enumRefused_fr {f : Frame} {a c : Chip} {n_} {e_} {size_} {v_} (h : Fr f a c) (hp_trunk : Part.trunk ∈ f.parts) (hp_doors : Part.doors ∈ f.parts) (hp_reqs : Part.reqs ∈ f.parts) (hp_rates : Part.rates ∈ f.parts) (hp_pond : Part.pond ∈ f.parts) (hp_ports : Part.ports ∈ f.parts) (hr_DROP_STATUS : ∀ n, f.regs (.DROP_STATUS n) = true) (hr_POND_STATUS : f.regs .POND_STATUS = true) (hr_POND_WAIT : f.regs .POND_WAIT = true) :
    Fr f a (Chip.enumRefused c n_ e_ size_ v_) := by
  unfold Chip.enumRefused
  repeat' first
    | with_reducible assumption
    | with_reducible exact hr_DROP_STATUS _
    | with_reducible apply Chip.waitJoin_fr
    | with_reducible apply Chip.answerOpt_fr
    | with_reducible apply Chip.evAttach_fr
    | with_reducible apply Chip.setRoot_fr
    | with_reducible apply Chip.updEnum_fr
    | with_reducible apply Chip.updDrop_fr
    | with_reducible apply Chip.nextEnum_fr
    | with_reducible apply Chip.updDev_fr
    | intro _
    | split
    | (extract_lets +onlyGivenNames x; refine (fun hx : Fr f a x => ?_) ?_; (on_goal 1 => clear_value x); (on_goal 2 => subst x))
    | (extract_lets +onlyGivenNames x; refine (fun hx : Fr f a x.2 => ?_) ?_; (on_goal 1 => clear_value x); (on_goal 2 => subst x))
    | (extract_lets +onlyGivenNames x; clear_value x)
    | dsimp only

theorem Chip.enumGroup_fr {f : Frame} {a c : Chip} {n_} {e_} (h : Fr f a c) (hp_trunk : Part.trunk ∈ f.parts) (hp_doors : Part.doors ∈ f.parts) (hp_reqs : Part.reqs ∈ f.parts) (hp_rates : Part.rates ∈ f.parts) (hp_pond : Part.pond ∈ f.parts) (hp_engines : Part.engines ∈ f.parts) (hp_ports : Part.ports ∈ f.parts) (hr_DROP_STATUS : ∀ n, f.regs (.DROP_STATUS n) = true) (hr_HOLDER_USED : ∀ n, f.regs (.HOLDER_USED n) = true) (hr_POND_FREE : f.regs .POND_FREE = true) (hr_POND_STATUS : f.regs .POND_STATUS = true) (hr_POND_WAIT : f.regs .POND_WAIT = true) :
    Fr f a (Chip.enumGroup c n_ e_) := by
  unfold Chip.enumGroup
  repeat' first
    | with_reducible assumption
    | with_reducible exact hr_DROP_STATUS _
    | with_reducible exact hr_HOLDER_USED _
    | with_reducible apply Chip.updPond_fr
    | with_reducible apply Chip.enumGranted_fr
    | with_reducible apply Fr.each
    | with_reducible apply Chip.freeCtx_fr
    | with_reducible apply Chip.updEnum_fr
    | with_reducible refine Chip.alloc_fr ‹_› ?_ ?_ ?_ ?_ ?_ ?_ ?_
    | with_reducible apply Chip.alloc_fr2
    | with_reducible apply Chip.enumRefused_fr
    | with_reducible refine Fr.ofIte ‹_› ?_ ?_
    | intro _
    | split
    | (extract_lets +onlyGivenNames x; refine (fun hx : Fr f a x => ?_) ?_; (on_goal 1 => clear_value x); (on_goal 2 => subst x))
    | (extract_lets +onlyGivenNames x; refine (fun hx : Fr f a x.2 => ?_) ?_; (on_goal 1 => clear_value x); (on_goal 2 => subst x))
    | (extract_lets +onlyGivenNames x; clear_value x)
    | dsimp only

theorem Chip.enumStep3_fr {f : Frame} {a c : Chip} {n_} {e_} (h : Fr f a c) (hp_trunk : Part.trunk ∈ f.parts) (hp_doors : Part.doors ∈ f.parts) (hp_reqs : Part.reqs ∈ f.parts) (hp_rates : Part.rates ∈ f.parts) (hp_pond : Part.pond ∈ f.parts) (hp_engines : Part.engines ∈ f.parts) (hp_ports : Part.ports ∈ f.parts) (hr_DROP_STATUS : ∀ n, f.regs (.DROP_STATUS n) = true) (hr_HOLDER_USED : ∀ n, f.regs (.HOLDER_USED n) = true) (hr_POND_FREE : f.regs .POND_FREE = true) (hr_POND_STATUS : f.regs .POND_STATUS = true) (hr_POND_WAIT : f.regs .POND_WAIT = true) :
    Fr f a (Chip.enumStep3 c n_ e_) := by
  unfold Chip.enumStep3
  repeat' first
    | with_reducible assumption
    | with_reducible exact hr_DROP_STATUS _
    | with_reducible exact hr_HOLDER_USED _
    | with_reducible apply Chip.treeLimit_fr
    | with_reducible apply Chip.enumGroup_fr
    | intro _
    | split
    | (extract_lets +onlyGivenNames x; refine (fun hx : Fr f a x => ?_) ?_; (on_goal 1 => clear_value x); (on_goal 2 => subst x))
    | (extract_lets +onlyGivenNames x; refine (fun hx : Fr f a x.2 => ?_) ?_; (on_goal 1 => clear_value x); (on_goal 2 => subst x))
    | (extract_lets +onlyGivenNames x; clear_value x)
    | dsimp only

theorem Chip.enumAdmit_fr {f : Frame} {a c : Chip} {n_} {e_} (h : Fr f a c) (hp_trunk : Part.trunk ∈ f.parts) (hp_doors : Part.doors ∈ f.parts) (hp_reqs : Part.reqs ∈ f.parts) (hp_rates : Part.rates ∈ f.parts) (hp_pond : Part.pond ∈ f.parts) (hp_engines : Part.engines ∈ f.parts) (hp_ports : Part.ports ∈ f.parts) (hr_DROP_SCHED : ∀ n, f.regs (.DROP_SCHED n) = true) (hr_DROP_STATUS : ∀ n, f.regs (.DROP_STATUS n) = true) (hr_HOLDER_USED : ∀ n, f.regs (.HOLDER_USED n) = true) (hr_POND_FREE : f.regs .POND_FREE = true) (hr_POND_STATUS : f.regs .POND_STATUS = true) (hr_POND_WAIT : f.regs .POND_WAIT = true) :
    Fr f a (Chip.enumAdmit c n_ e_) := by
  unfold Chip.enumAdmit
  repeat' first
    | with_reducible assumption
    | with_reducible exact hr_DROP_SCHED _
    | with_reducible exact hr_DROP_STATUS _
    | with_reducible exact hr_HOLDER_USED _
    | with_reducible apply Chip.enumFail_fr
    | with_reducible apply Chip.evOverbook_fr
    | with_reducible apply Chip.setSched_fr
    | with_reducible apply Chip.updEps_fr
    | with_reducible apply Chip.updEnum_fr
    | intro _
    | split
    | (extract_lets +onlyGivenNames x; refine (fun hx : Fr f a x => ?_) ?_; (on_goal 1 => clear_value x); (on_goal 2 => subst x))
    | (extract_lets +onlyGivenNames x; refine (fun hx : Fr f a x.2 => ?_) ?_; (on_goal 1 => clear_value x); (on_goal 2 => subst x))
    | (extract_lets +onlyGivenNames x; clear_value x)
    | dsimp only

theorem Chip.updDevBody_fr {f : Frame} {a c : Chip} {n_} {cid_} {f_} (h : Fr f a c) (hp_pond : Part.pond ∈ f.parts) (hp_engines : Part.engines ∈ f.parts) :
    Fr f a (Chip.updDevBody c n_ cid_ f_) := by
  unfold Chip.updDevBody
  repeat' first
    | with_reducible assumption
    | with_reducible apply Chip.engWrite_fr
    | intro _
    | split
    | (extract_lets +onlyGivenNames x; refine (fun hx : Fr f a x => ?_) ?_; (on_goal 1 => clear_value x); (on_goal 2 => subst x))
    | (extract_lets +onlyGivenNames x; refine (fun hx : Fr f a x.2 => ?_) ?_; (on_goal 1 => clear_value x); (on_goal 2 => subst x))
    | (extract_lets +onlyGivenNames x; clear_value x)
    | dsimp only

theorem Chip.configEps_fr {f : Frame} {a c : Chip} {n_} {cid_} {on_} (h : Fr f a c) (hp_pond : Part.pond ∈ f.parts) (hp_engines : Part.engines ∈ f.parts) :
    Fr f a (Chip.configEps c n_ cid_ on_) := by
  unfold Chip.configEps
  repeat' first
    | with_reducible assumption
    | with_reducible apply Chip.updEps_fr
    | intro _
    | split
    | (extract_lets +onlyGivenNames x; refine (fun hx : Fr f a x => ?_) ?_; (on_goal 1 => clear_value x); (on_goal 2 => subst x))
    | (extract_lets +onlyGivenNames x; refine (fun hx : Fr f a x.2 => ?_) ?_; (on_goal 1 => clear_value x); (on_goal 2 => subst x))
    | (extract_lets +onlyGivenNames x; clear_value x)
    | dsimp only

theorem Chip.enumDone_fr {f : Frame} {a c : Chip} {n_} {e_} (h : Fr f a c) (hp_trunk : Part.trunk ∈ f.parts) (hp_doors : Part.doors ∈ f.parts) (hp_reqs : Part.reqs ∈ f.parts) (hp_rates : Part.rates ∈ f.parts) (hp_ports : Part.ports ∈ f.parts) (hr_DROP_STATUS : ∀ n, f.regs (.DROP_STATUS n) = true) :
    Fr f a (Chip.enumDone c n_ e_) := by
  unfold Chip.enumDone
  repeat' first
    | with_reducible assumption
    | with_reducible exact hr_DROP_STATUS _
    | with_reducible apply Chip.updDrop_fr
    | with_reducible apply Chip.updDev_fr
    | with_reducible apply Chip.syncTree_fr
    | with_reducible apply Chip.post_fr
    | with_reducible apply Chip.setRoot_fr
    | with_reducible apply Chip.nextEnum_fr
    | with_reducible apply Chip.answerOpt_fr
    | intro _
    | split
    | (extract_lets +onlyGivenNames x; refine (fun hx : Fr f a x => ?_) ?_; (on_goal 1 => clear_value x); (on_goal 2 => subst x))
    | (extract_lets +onlyGivenNames x; refine (fun hx : Fr f a x.2 => ?_) ?_; (on_goal 1 => clear_value x); (on_goal 2 => subst x))
    | (extract_lets +onlyGivenNames x; clear_value x)
    | dsimp only

theorem Chip.enumConfigured_fr {f : Frame} {a c : Chip} {n_} {e_} (h : Fr f a c) (hp_trunk : Part.trunk ∈ f.parts) (hp_doors : Part.doors ∈ f.parts) (hp_reqs : Part.reqs ∈ f.parts) (hp_rates : Part.rates ∈ f.parts) (hp_pond : Part.pond ∈ f.parts) (hp_engines : Part.engines ∈ f.parts) (hp_ports : Part.ports ∈ f.parts) (hr_DROP_STATUS : ∀ n, f.regs (.DROP_STATUS n) = true) :
    Fr f a (Chip.enumConfigured c n_ e_) := by
  unfold Chip.enumConfigured
  repeat' first
    | with_reducible assumption
    | with_reducible exact hr_DROP_STATUS _
    | with_reducible apply Chip.updDevBody_fr
    | with_reducible apply Chip.configEps_fr
    | with_reducible apply Chip.updDev_fr
    | with_reducible apply Chip.updEnum_fr
    | with_reducible apply Chip.enumDone_fr
    | intro _
    | split
    | (extract_lets +onlyGivenNames x; refine (fun hx : Fr f a x => ?_) ?_; (on_goal 1 => clear_value x); (on_goal 2 => subst x))
    | (extract_lets +onlyGivenNames x; refine (fun hx : Fr f a x.2 => ?_) ?_; (on_goal 1 => clear_value x); (on_goal 2 => subst x))
    | (extract_lets +onlyGivenNames x; clear_value x)
    | dsimp only

theorem Chip.enumStep_fr {f : Frame} {a c : Chip} {n_} {e_} {r_} (h : Fr f a c) (hp_trunk : Part.trunk ∈ f.parts) (hp_doors : Part.doors ∈ f.parts) (hp_reqs : Part.reqs ∈ f.parts) (hp_rates : Part.rates ∈ f.parts) (hp_pond : Part.pond ∈ f.parts) (hp_engines : Part.engines ∈ f.parts) (hp_ports : Part.ports ∈ f.parts) (hr_DROP_SCHED : ∀ n, f.regs (.DROP_SCHED n) = true) (hr_DROP_STATUS : ∀ n, f.regs (.DROP_STATUS n) = true) (hr_HOLDER_USED : ∀ n, f.regs (.HOLDER_USED n) = true) (hr_POND_FREE : f.regs .POND_FREE = true) (hr_POND_STATUS : f.regs .POND_STATUS = true) (hr_POND_WAIT : f.regs .POND_WAIT = true) :
    Fr f a (Chip.enumStep c n_ e_ r_) := by
  unfold Chip.enumStep
  repeat' first
    | with_reducible assumption
    | with_reducible exact hr_DROP_SCHED _
    | with_reducible exact hr_DROP_STATUS _
    | with_reducible exact hr_HOLDER_USED _
    | with_reducible apply Chip.updEnum_fr
    | with_reducible apply Chip.enumStep3_fr
    | with_reducible apply Chip.updDevBody_fr
    | with_reducible apply Chip.updDev_fr
    | with_reducible apply Chip.enumAdmit_fr
    | with_reducible apply Chip.enumConfigured_fr
    | with_reducible apply Chip.enumDone_fr
    | with_reducible apply Chip.post_fr
    | with_reducible apply Chip.enumRetry_fr
    | intro _
    | split
    | (extract_lets +onlyGivenNames x; refine (fun hx : Fr f a x => ?_) ?_; (on_goal 1 => clear_value x); (on_goal 2 => subst x))
    | (extract_lets +onlyGivenNames x; refine (fun hx : Fr f a x.2 => ?_) ?_; (on_goal 1 => clear_value x); (on_goal 2 => subst x))
    | (extract_lets +onlyGivenNames x; clear_value x)
    | dsimp only

theorem Chip.settleOnce_fr {f : Frame} {a c : Chip}  (h : Fr f a c) (hp_trunk : Part.trunk ∈ f.parts) (hp_doors : Part.doors ∈ f.parts) (hp_reqs : Part.reqs ∈ f.parts) (hp_rates : Part.rates ∈ f.parts) (hp_pond : Part.pond ∈ f.parts) (hp_engines : Part.engines ∈ f.parts) (hp_ports : Part.ports ∈ f.parts) (hp_svc : Part.svc ∈ f.parts) (hr_DROP_STATUS : ∀ n, f.regs (.DROP_STATUS n) = true) (hr_HOLDER_USED : ∀ n, f.regs (.HOLDER_USED n) = true) (hr_POND_FREE : f.regs .POND_FREE = true) (hr_POND_STATUS : f.regs .POND_STATUS = true) (hr_POND_WAIT : f.regs .POND_WAIT = true) (hr_SVC_STATUS : f.regs .SVC_STATUS = true) :
    Fr f a (Chip.settleOnce c) := by
  unfold Chip.settleOnce
  repeat' first
    | with_reducible assumption
    | with_reducible exact hr_DROP_STATUS _
    | with_reducible exact hr_HOLDER_USED _
    | with_reducible apply Fr.each
    | with_reducible apply Chip.updPond_fr
    | with_reducible apply Chip.bindGranted_fr
    | with_reducible apply Chip.enumGroup_fr
    | with_reducible apply Chip.nextEnum_fr
    | with_reducible apply Chip.updDrop_fr
    | with_reducible apply Chip.updDev_fr
    | intro _
    | split
    | (extract_lets +onlyGivenNames x; refine (fun hx : Fr f a x => ?_) ?_; (on_goal 1 => clear_value x); (on_goal 2 => subst x))
    | (extract_lets +onlyGivenNames x; refine (fun hx : Fr f a x.2 => ?_) ?_; (on_goal 1 => clear_value x); (on_goal 2 => subst x))
    | (extract_lets +onlyGivenNames x; clear_value x)
    | dsimp only

theorem Chip.settle_fr {f : Frame} {a c : Chip}  (h : Fr f a c) (hp_trunk : Part.trunk ∈ f.parts) (hp_doors : Part.doors ∈ f.parts) (hp_reqs : Part.reqs ∈ f.parts) (hp_rates : Part.rates ∈ f.parts) (hp_pond : Part.pond ∈ f.parts) (hp_engines : Part.engines ∈ f.parts) (hp_ports : Part.ports ∈ f.parts) (hp_svc : Part.svc ∈ f.parts) (hr_DROP_STATUS : ∀ n, f.regs (.DROP_STATUS n) = true) (hr_HOLDER_USED : ∀ n, f.regs (.HOLDER_USED n) = true) (hr_POND_FREE : f.regs .POND_FREE = true) (hr_POND_STATUS : f.regs .POND_STATUS = true) (hr_POND_WAIT : f.regs .POND_WAIT = true) (hr_SVC_STATUS : f.regs .SVC_STATUS = true) :
    Fr f a (Chip.settle c) := by
  unfold Chip.settle
  repeat' first
    | with_reducible assumption
    | with_reducible exact hr_DROP_STATUS _
    | with_reducible exact hr_HOLDER_USED _
    | with_reducible apply Fr.each
    | with_reducible apply Chip.settleOnce_fr
    | intro _
    | split
    | (extract_lets +onlyGivenNames x; refine (fun hx : Fr f a x => ?_) ?_; (on_goal 1 => clear_value x); (on_goal 2 => subst x))
    | (extract_lets +onlyGivenNames x; refine (fun hx : Fr f a x.2 => ?_) ?_; (on_goal 1 => clear_value x); (on_goal 2 => subst x))
    | (extract_lets +onlyGivenNames x; clear_value x)
    | dsimp only

theorem Chip.startSuspend_fr {f : Frame} {a c : Chip} {n_} (h : Fr f a c) (hp_ports : Part.ports ∈ f.parts) (hr_DROP_STATUS : ∀ n, f.regs (.DROP_STATUS n) = true) :
    Fr f a (Chip.startSuspend c n_) := by
  unfold Chip.startSuspend
  repeat' first
    | with_reducible assumption
    | with_reducible exact hr_DROP_STATUS _
    | with_reducible apply Chip.setRoot_fr
    | with_reducible apply Chip.updDrop_fr
    | intro _
    | split
    | (extract_lets +onlyGivenNames x; refine (fun hx : Fr f a x => ?_) ?_; (on_goal 1 => clear_value x); (on_goal 2 => subst x))
    | (extract_lets +onlyGivenNames x; refine (fun hx : Fr f a x.2 => ?_) ?_; (on_goal 1 => clear_value x); (on_goal 2 => subst x))
    | (extract_lets +onlyGivenNames x; clear_value x)
    | dsimp only

theorem Chip.driveK_fr {f : Frame} {a c : Chip} {n_} (h : Fr f a c) (hp_fl : Part.fl ∈ f.parts) (hp_ports : Part.ports ∈ f.parts) (hp_chans : Part.chans ∈ f.parts) (hr_CH_CMD : ∀ n, f.regs (.CH_CMD n) = true) (hr_DROP_STATUS : ∀ n, f.regs (.DROP_STATUS n) = true) :
    Fr f a (Chip.driveK c n_) := by
  unfold Chip.driveK
  repeat' first
    | with_reducible assumption
    | with_reducible exact hr_CH_CMD _
    | with_reducible exact hr_DROP_STATUS _
    | with_reducible apply Chip.updDrop_fr
    | with_reducible apply Chip.suspendCh_fr
    | with_reducible apply Chip.setRoot_fr
    | intro _
    | split
    | (extract_lets +onlyGivenNames x; refine (fun hx : Fr f a x => ?_) ?_; (on_goal 1 => clear_value x); (on_goal 2 => subst x))
    | (extract_lets +onlyGivenNames x; refine (fun hx : Fr f a x.2 => ?_) ?_; (on_goal 1 => clear_value x); (on_goal 2 => subst x))
    | (extract_lets +onlyGivenNames x; clear_value x)
    | dsimp only

theorem Chip.startResume_fr {f : Frame} {a c : Chip} {n_} {host_} {remote_} {power_} (h : Fr f a c) (hp_ports : Part.ports ∈ f.parts) :
    Fr f a (Chip.startResume c n_ host_ remote_ power_) := by
  unfold Chip.startResume
  repeat' first
    | with_reducible assumption
    | with_reducible apply Chip.updDrop_fr
    | intro _
    | split
    | (extract_lets +onlyGivenNames x; refine (fun hx : Fr f a x => ?_) ?_; (on_goal 1 => clear_value x); (on_goal 2 => subst x))
    | (extract_lets +onlyGivenNames x; refine (fun hx : Fr f a x.2 => ?_) ?_; (on_goal 1 => clear_value x); (on_goal 2 => subst x))
    | (extract_lets +onlyGivenNames x; clear_value x)
    | dsimp only

theorem Chip.devsSuspended_fr {f : Frame} {a c : Chip} {n_} {on_} (h : Fr f a c) (hp_pond : Part.pond ∈ f.parts) (hp_engines : Part.engines ∈ f.parts) :
    Fr f a (Chip.devsSuspended c n_ on_) := by
  unfold Chip.devsSuspended
  repeat' first
    | with_reducible assumption
    | with_reducible apply Fr.each
    | with_reducible apply Chip.updDevBody_fr
    | intro _
    | split
    | (extract_lets +onlyGivenNames x; refine (fun hx : Fr f a x => ?_) ?_; (on_goal 1 => clear_value x); (on_goal 2 => subst x))
    | (extract_lets +onlyGivenNames x; refine (fun hx : Fr f a x.2 => ?_) ?_; (on_goal 1 => clear_value x); (on_goal 2 => subst x))
    | (extract_lets +onlyGivenNames x; clear_value x)
    | dsimp only

theorem Chip.suspended_fr {f : Frame} {a c : Chip} {n_} (h : Fr f a c) (hp_fl : Part.fl ∈ f.parts) (hp_trunk : Part.trunk ∈ f.parts) (hp_doors : Part.doors ∈ f.parts) (hp_reqs : Part.reqs ∈ f.parts) (hp_rates : Part.rates ∈ f.parts) (hp_pond : Part.pond ∈ f.parts) (hp_engines : Part.engines ∈ f.parts) (hp_ports : Part.ports ∈ f.parts) (hp_chans : Part.chans ∈ f.parts) (hr_CH_CMD : ∀ n, f.regs (.CH_CMD n) = true) (hr_DROP_STATUS : ∀ n, f.regs (.DROP_STATUS n) = true) :
    Fr f a (Chip.suspended c n_) := by
  unfold Chip.suspended
  repeat' first
    | with_reducible assumption
    | with_reducible exact hr_CH_CMD _
    | with_reducible exact hr_DROP_STATUS _
    | with_reducible apply Chip.suspendCh_fr
    | with_reducible apply Chip.devsSuspended_fr
    | with_reducible apply Chip.updDrop_fr
    | with_reducible apply Chip.setRoot_fr
    | with_reducible apply Chip.post_fr
    | with_reducible apply Chip.answers_fr
    | with_reducible apply Chip.startResume_fr
    | intro _
    | split
    | (extract_lets +onlyGivenNames x; refine (fun hx : Fr f a x => ?_) ?_; (on_goal 1 => clear_value x); (on_goal 2 => subst x))
    | (extract_lets +onlyGivenNames x; refine (fun hx : Fr f a x.2 => ?_) ?_; (on_goal 1 => clear_value x); (on_goal 2 => subst x))
    | (extract_lets +onlyGivenNames x; clear_value x)
    | dsimp only

theorem Chip.resumed_fr {f : Frame} {a c : Chip} {n_} (h : Fr f a c) (hp_trunk : Part.trunk ∈ f.parts) (hp_doors : Part.doors ∈ f.parts) (hp_reqs : Part.reqs ∈ f.parts) (hp_rates : Part.rates ∈ f.parts) (hp_pond : Part.pond ∈ f.parts) (hp_engines : Part.engines ∈ f.parts) (hp_ports : Part.ports ∈ f.parts) (hr_DROP_STATUS : ∀ n, f.regs (.DROP_STATUS n) = true) :
    Fr f a (Chip.resumed c n_) := by
  unfold Chip.resumed
  repeat' first
    | with_reducible assumption
    | with_reducible exact hr_DROP_STATUS _
    | with_reducible apply Chip.devsSuspended_fr
    | with_reducible apply Chip.updDrop_fr
    | with_reducible apply Chip.post_fr
    | with_reducible apply Chip.setRoot_fr
    | with_reducible apply Chip.answers_fr
    | with_reducible apply Chip.nextEnum_fr
    | with_reducible apply Chip.startSuspend_fr
    | intro _
    | split
    | (extract_lets +onlyGivenNames x; refine (fun hx : Fr f a x => ?_) ?_; (on_goal 1 => clear_value x); (on_goal 2 => subst x))
    | (extract_lets +onlyGivenNames x; refine (fun hx : Fr f a x.2 => ?_) ?_; (on_goal 1 => clear_value x); (on_goal 2 => subst x))
    | (extract_lets +onlyGivenNames x; clear_value x)
    | dsimp only

theorem Chip.evRemoteWake_fr {f : Frame} {a c : Chip} {n_} {ignored_} (h : Fr f a c) (hp_doors : Part.doors ∈ f.parts) (hr_DROP_STATUS : ∀ n, f.regs (.DROP_STATUS n) = true) :
    Fr f a (Chip.evRemoteWake c n_ ignored_) := by
  unfold Chip.evRemoteWake
  repeat' first
    | with_reducible assumption
    | with_reducible exact hr_DROP_STATUS _
    | with_reducible apply Chip.record_fr
    | with_reducible apply Chip.post_fr
    | intro _
    | split
    | (extract_lets +onlyGivenNames x; refine (fun hx : Fr f a x => ?_) ?_; (on_goal 1 => clear_value x); (on_goal 2 => subst x))
    | (extract_lets +onlyGivenNames x; refine (fun hx : Fr f a x.2 => ?_) ?_; (on_goal 1 => clear_value x); (on_goal 2 => subst x))
    | (extract_lets +onlyGivenNames x; clear_value x)
    | dsimp only

theorem Chip.remoteWake_fr {f : Frame} {a c : Chip} {n_} (h : Fr f a c) (hp_doors : Part.doors ∈ f.parts) (hp_ports : Part.ports ∈ f.parts) (hr_DROP_STATUS : ∀ n, f.regs (.DROP_STATUS n) = true) :
    Fr f a (Chip.remoteWake c n_) := by
  unfold Chip.remoteWake
  repeat' first
    | with_reducible assumption
    | with_reducible exact hr_DROP_STATUS _
    | with_reducible apply Chip.dropIgnore_fr
    | with_reducible apply Chip.evRemoteWake_fr
    | with_reducible apply Chip.startResume_fr
    | with_reducible apply Chip.updDrop_fr
    | intro _
    | split
    | (extract_lets +onlyGivenNames x; refine (fun hx : Fr f a x => ?_) ?_; (on_goal 1 => clear_value x); (on_goal 2 => subst x))
    | (extract_lets +onlyGivenNames x; refine (fun hx : Fr f a x.2 => ?_) ?_; (on_goal 1 => clear_value x); (on_goal 2 => subst x))
    | (extract_lets +onlyGivenNames x; clear_value x)
    | dsimp only

theorem Chip.autoEnum_fr {f : Frame} {a c : Chip} {n_} (h : Fr f a c) (hp_ports : Part.ports ∈ f.parts) (hr_DROP_STATUS : ∀ n, f.regs (.DROP_STATUS n) = true) :
    Fr f a (Chip.autoEnum c n_) := by
  unfold Chip.autoEnum
  repeat' first
    | with_reducible assumption
    | with_reducible exact hr_DROP_STATUS _
    | with_reducible apply Chip.startEnum_fr
    | with_reducible apply Fr.each
    | with_reducible apply Chip.updDrop_fr
    | with_reducible apply Chip.updDev_fr
    | with_reducible apply Chip.nextEnum_fr
    | intro _
    | split
    | (extract_lets +onlyGivenNames x; refine (fun hx : Fr f a x => ?_) ?_; (on_goal 1 => clear_value x); (on_goal 2 => subst x))
    | (extract_lets +onlyGivenNames x; refine (fun hx : Fr f a x.2 => ?_) ?_; (on_goal 1 => clear_value x); (on_goal 2 => subst x))
    | (extract_lets +onlyGivenNames x; clear_value x)
    | dsimp only

theorem Chip.leaveDrop_fr {f : Frame} {a c : Chip} {n_} {cause_} (h : Fr f a c) (hp_fl : Part.fl ∈ f.parts) (hp_trunk : Part.trunk ∈ f.parts) (hp_doors : Part.doors ∈ f.parts) (hp_reqs : Part.reqs ∈ f.parts) (hp_rates : Part.rates ∈ f.parts) (hp_pond : Part.pond ∈ f.parts) (hp_engines : Part.engines ∈ f.parts) (hp_basins : Part.basins ∈ f.parts) (hp_ports : Part.ports ∈ f.parts) (hp_chans : Part.chans ∈ f.parts) (hp_svc : Part.svc ∈ f.parts) (hp_pwr : Part.pwr ∈ f.parts) (hr_CH_STATUS : ∀ n, f.regs (.CH_STATUS n) = true) (hr_DROP_SCHED : ∀ n, f.regs (.DROP_SCHED n) = true) (hr_DROP_STATUS : ∀ n, f.regs (.DROP_STATUS n) = true) (hr_HOLDER_USED : ∀ n, f.regs (.HOLDER_USED n) = true) (hr_POND_FREE : f.regs .POND_FREE = true) (hr_POND_STATUS : f.regs .POND_STATUS = true) (hr_POND_WAIT : f.regs .POND_WAIT = true) (hr_PWR_STATUS : f.regs .PWR_STATUS = true) (hr_SVC_STATUS : f.regs .SVC_STATUS = true) :
    Fr f a (Chip.leaveDrop c n_ cause_) := by
  unfold Chip.leaveDrop
  repeat' first
    | with_reducible assumption
    | with_reducible exact hr_CH_STATUS _
    | with_reducible exact hr_DROP_SCHED _
    | with_reducible exact hr_DROP_STATUS _
    | with_reducible exact hr_HOLDER_USED _
    | with_reducible apply Chip.answers_fr
    | with_reducible apply Chip.dropAnswerAll_fr
    | with_reducible apply Chip.culletRecs_fr
    | with_reducible apply Chip.endBinds_fr
    | with_reducible apply Chip.bulkFree_fr
    | with_reducible apply Chip.dropSuspend_fr
    | with_reducible apply Chip.dropGrants_fr
    | with_reducible apply Chip.dropWaiters_fr
    | with_reducible apply Chip.updDrop_fr
    | with_reducible apply Chip.setSched_fr
    | with_reducible apply Chip.bump_fr
    | with_reducible apply Fr.wr
    | intro _
    | split
    | (extract_lets +onlyGivenNames x; refine (fun hx : Fr f a x => ?_) ?_; (on_goal 1 => clear_value x); (on_goal 2 => subst x))
    | (extract_lets +onlyGivenNames x; refine (fun hx : Fr f a x.2 => ?_) ?_; (on_goal 1 => clear_value x); (on_goal 2 => subst x))
    | (extract_lets +onlyGivenNames x; clear_value x)
    | dsimp only

theorem Chip.enterDrop_fr {f : Frame} {a c : Chip} {n_} (h : Fr f a c) (hp_ports : Part.ports ∈ f.parts) (hr_DROP_STATUS : ∀ n, f.regs (.DROP_STATUS n) = true) :
    Fr f a (Chip.enterDrop c n_) := by
  unfold Chip.enterDrop
  repeat' first
    | with_reducible assumption
    | with_reducible exact hr_DROP_STATUS _
    | with_reducible apply Chip.setRoot_fr
    | with_reducible apply Chip.updPort_fr
    | intro _
    | split
    | (extract_lets +onlyGivenNames x; refine (fun hx : Fr f a x => ?_) ?_; (on_goal 1 => clear_value x); (on_goal 2 => subst x))
    | (extract_lets +onlyGivenNames x; refine (fun hx : Fr f a x.2 => ?_) ?_; (on_goal 1 => clear_value x); (on_goal 2 => subst x))
    | (extract_lets +onlyGivenNames x; clear_value x)
    | dsimp only

end Sys2Proof.Laws
end

