-- ==== Sys2Proof/Laws/FramePort.lean ====
section
/-! SUPPORT. What the shared operations of Machine/PdOps, ChanOps, LineOps, ModeOps, DropXfer, DropWire can change (frames), and that they keep the canonical
forms. -/

set_option linter.all false

namespace Sys2Proof.Laws

open Sys2Proof.Machine

/-! ### Machine/PdOps.lean -/

theorem Chip.setPd_fr {f : Frame} {a c : Chip} {n_} {st_} (h : Fr f a c) (hr_PD_STATUS : ∀ n, f.regs (.PD_STATUS n) = true) :
    Fr f a (Chip.setPd c n_ st_) := by
  unfold Chip.setPd
  repeat' first
    | with_reducible assumption
    | with_reducible exact hr_PD_STATUS _
    | with_reducible apply Chip.setSt_fr
    | intro _
    | split
    | (extract_lets +onlyGivenNames x; refine (fun hx : Fr f a x => ?_) ?_; (on_goal 1 => clear_value x); (on_goal 2 => subst x))
    | (extract_lets +onlyGivenNames x; refine (fun hx : Fr f a x.2 => ?_) ?_; (on_goal 1 => clear_value x); (on_goal 2 => subst x))
    | (extract_lets +onlyGivenNames x; clear_value x)
    | dsimp only

theorem Chip.updSt_fr {f : Frame} {a c : Chip} {r} {f_} (h : Fr f a c) (hr : f.regs r = true) :
    Fr f a (Chip.updSt c r f_) := by
  unfold Chip.updSt
  repeat' first
    | with_reducible assumption
    | exact hr
    | with_reducible apply Chip.bump_fr
    | with_reducible apply Fr.wr
    | intro _
    | split
    | (extract_lets +onlyGivenNames x; refine (fun hx : Fr f a x => ?_) ?_; (on_goal 1 => clear_value x); (on_goal 2 => subst x))
    | (extract_lets +onlyGivenNames x; refine (fun hx : Fr f a x.2 => ?_) ?_; (on_goal 1 => clear_value x); (on_goal 2 => subst x))
    | (extract_lets +onlyGivenNames x; clear_value x)
    | dsimp only

theorem Chip.pdSend_fr {f : Frame} {a c : Chip} {n_} {m_} (h : Fr f a c) (hp_ports : Part.ports ∈ f.parts) :
    Fr f a (Chip.pdSend c n_ m_) := by
  unfold Chip.pdSend
  repeat' first
    | with_reducible assumption
    | with_reducible apply Chip.updPd_fr
    | intro _
    | split
    | (extract_lets +onlyGivenNames x; refine (fun hx : Fr f a x => ?_) ?_; (on_goal 1 => clear_value x); (on_goal 2 => subst x))
    | (extract_lets +onlyGivenNames x; refine (fun hx : Fr f a x.2 => ?_) ?_; (on_goal 1 => clear_value x); (on_goal 2 => subst x))
    | (extract_lets +onlyGivenNames x; clear_value x)
    | dsimp only

theorem Chip.pmbSend_fr {f : Frame} {a c : Chip} {n_} {l_} (h : Fr f a c) (hp_ports : Part.ports ∈ f.parts) :
    Fr f a (Chip.pmbSend c n_ l_) := by
  unfold Chip.pmbSend
  repeat' first
    | with_reducible assumption
    | with_reducible apply Chip.updPd_fr
    | intro _
    | split
    | (extract_lets +onlyGivenNames x; refine (fun hx : Fr f a x => ?_) ?_; (on_goal 1 => clear_value x); (on_goal 2 => subst x))
    | (extract_lets +onlyGivenNames x; refine (fun hx : Fr f a x.2 => ?_) ?_; (on_goal 1 => clear_value x); (on_goal 2 => subst x))
    | (extract_lets +onlyGivenNames x; clear_value x)
    | dsimp only

theorem Chip.pdBudget_fr {f : Frame} {a c : Chip} {n_} (h : Fr f a c) (hr_PD_STATUS : ∀ n, f.regs (.PD_STATUS n) = true) :
    Fr f a (Chip.pdBudget c n_) := by
  unfold Chip.pdBudget
  repeat' first
    | with_reducible assumption
    | with_reducible exact hr_PD_STATUS _
    | with_reducible apply Chip.setSt_fr
    | intro _
    | split
    | (extract_lets +onlyGivenNames x; refine (fun hx : Fr f a x => ?_) ?_; (on_goal 1 => clear_value x); (on_goal 2 => subst x))
    | (extract_lets +onlyGivenNames x; refine (fun hx : Fr f a x.2 => ?_) ?_; (on_goal 1 => clear_value x); (on_goal 2 => subst x))
    | (extract_lets +onlyGivenNames x; clear_value x)
    | dsimp only

theorem Chip.pdOwn_fr {f : Frame} {a c : Chip} {n_} (h : Fr f a c) (hp_ports : Part.ports ∈ f.parts) :
    Fr f a (Chip.pdOwn c n_) := by
  unfold Chip.pdOwn
  repeat' first
    | with_reducible assumption
    | with_reducible apply Chip.updPd_fr
    | intro _
    | split
    | (extract_lets +onlyGivenNames x; refine (fun hx : Fr f a x => ?_) ?_; (on_goal 1 => clear_value x); (on_goal 2 => subst x))
    | (extract_lets +onlyGivenNames x; refine (fun hx : Fr f a x.2 => ?_) ?_; (on_goal 1 => clear_value x); (on_goal 2 => subst x))
    | (extract_lets +onlyGivenNames x; clear_value x)
    | dsimp only

theorem Chip.pdOwnEnd_fr {f : Frame} {a c : Chip} {n_} (h : Fr f a c) (hp_ports : Part.ports ∈ f.parts) :
    Fr f a (Chip.pdOwnEnd c n_) := by
  unfold Chip.pdOwnEnd
  repeat' first
    | with_reducible assumption
    | with_reducible apply Chip.updPd_fr
    | intro _
    | split
    | (extract_lets +onlyGivenNames x; refine (fun hx : Fr f a x => ?_) ?_; (on_goal 1 => clear_value x); (on_goal 2 => subst x))
    | (extract_lets +onlyGivenNames x; refine (fun hx : Fr f a x.2 => ?_) ?_; (on_goal 1 => clear_value x); (on_goal 2 => subst x))
    | (extract_lets +onlyGivenNames x; clear_value x)
    | dsimp only

theorem Chip.pdCapsSent_fr {f : Frame} {a c : Chip} {n_} (h : Fr f a c) (hp_doors : Part.doors ∈ f.parts) (hp_ports : Part.ports ∈ f.parts) :
    Fr f a (Chip.pdCapsSent c n_) := by
  unfold Chip.pdCapsSent
  repeat' first
    | with_reducible assumption
    | with_reducible apply Chip.pdSend_fr
    | with_reducible apply Chip.updPd_fr
    | with_reducible apply Chip.post_fr
    | intro _
    | split
    | (extract_lets +onlyGivenNames x; refine (fun hx : Fr f a x => ?_) ?_; (on_goal 1 => clear_value x); (on_goal 2 => subst x))
    | (extract_lets +onlyGivenNames x; refine (fun hx : Fr f a x.2 => ?_) ?_; (on_goal 1 => clear_value x); (on_goal 2 => subst x))
    | (extract_lets +onlyGivenNames x; clear_value x)
    | dsimp only

theorem Chip.pdAim_fr {f : Frame} {a c : Chip} {n_} {mv10_} (h : Fr f a c) (hp_ports : Part.ports ∈ f.parts) (hr_PD_VOUT : ∀ n, f.regs (.PD_VOUT n) = true) :
    Fr f a (Chip.pdAim c n_ mv10_) := by
  unfold Chip.pdAim
  repeat' first
    | with_reducible assumption
    | with_reducible exact hr_PD_VOUT _
    | with_reducible apply Chip.setF_fr
    | with_reducible apply Chip.updPd_fr
    | intro _
    | split
    | (extract_lets +onlyGivenNames x; refine (fun hx : Fr f a x => ?_) ?_; (on_goal 1 => clear_value x); (on_goal 2 => subst x))
    | (extract_lets +onlyGivenNames x; refine (fun hx : Fr f a x.2 => ?_) ?_; (on_goal 1 => clear_value x); (on_goal 2 => subst x))
    | (extract_lets +onlyGivenNames x; clear_value x)
    | dsimp only

theorem Chip.pdTarget_fr {f : Frame} {a c : Chip} {n_} {mv10_} (h : Fr f a c) (hp_ports : Part.ports ∈ f.parts) (hr_PD_VOUT : ∀ n, f.regs (.PD_VOUT n) = true) :
    Fr f a (Chip.pdTarget c n_ mv10_) := by
  unfold Chip.pdTarget
  repeat' first
    | with_reducible assumption
    | with_reducible exact hr_PD_VOUT _
    | with_reducible apply Chip.pmbSend_fr
    | with_reducible apply Chip.pdAim_fr
    | intro _
    | split
    | (extract_lets +onlyGivenNames x; refine (fun hx : Fr f a x => ?_) ?_; (on_goal 1 => clear_value x); (on_goal 2 => subst x))
    | (extract_lets +onlyGivenNames x; refine (fun hx : Fr f a x.2 => ?_) ?_; (on_goal 1 => clear_value x); (on_goal 2 => subst x))
    | (extract_lets +onlyGivenNames x; clear_value x)
    | dsimp only

theorem Chip.pdConfigure_fr {f : Frame} {a c : Chip} {n_} (h : Fr f a c) (hp_ports : Part.ports ∈ f.parts) :
    Fr f a (Chip.pdConfigure c n_) := by
  unfold Chip.pdConfigure
  repeat' first
    | with_reducible assumption
    | with_reducible apply Chip.pmbSend_fr
    | intro _
    | split
    | (extract_lets +onlyGivenNames x; refine (fun hx : Fr f a x => ?_) ?_; (on_goal 1 => clear_value x); (on_goal 2 => subst x))
    | (extract_lets +onlyGivenNames x; refine (fun hx : Fr f a x.2 => ?_) ?_; (on_goal 1 => clear_value x); (on_goal 2 => subst x))
    | (extract_lets +onlyGivenNames x; clear_value x)
    | dsimp only

theorem Chip.pdConvOn_fr {f : Frame} {a c : Chip} {n_} (h : Fr f a c) (hp_ports : Part.ports ∈ f.parts) (hr_PD_VOUT : ∀ n, f.regs (.PD_VOUT n) = true) :
    Fr f a (Chip.pdConvOn c n_) := by
  unfold Chip.pdConvOn
  repeat' first
    | with_reducible assumption
    | with_reducible exact hr_PD_VOUT _
    | with_reducible apply Chip.updPd_fr
    | with_reducible apply Chip.pdTarget_fr
    | with_reducible apply Chip.pmbSend_fr
    | with_reducible apply Chip.pdConfigure_fr
    | intro _
    | split
    | (extract_lets +onlyGivenNames x; refine (fun hx : Fr f a x => ?_) ?_; (on_goal 1 => clear_value x); (on_goal 2 => subst x))
    | (extract_lets +onlyGivenNames x; refine (fun hx : Fr f a x.2 => ?_) ?_; (on_goal 1 => clear_value x); (on_goal 2 => subst x))
    | (extract_lets +onlyGivenNames x; clear_value x)
    | dsimp only

theorem Chip.pdConvOff_fr {f : Frame} {a c : Chip} {n_} (h : Fr f a c) (hp_ports : Part.ports ∈ f.parts) (hr_PD_STATUS : ∀ n, f.regs (.PD_STATUS n) = true) (hr_PD_VOUT : ∀ n, f.regs (.PD_VOUT n) = true) :
    Fr f a (Chip.pdConvOff c n_) := by
  unfold Chip.pdConvOff
  repeat' first
    | with_reducible assumption
    | with_reducible exact hr_PD_STATUS _
    | with_reducible exact hr_PD_VOUT _
    | with_reducible apply Chip.pmbSend_fr
    | with_reducible apply Chip.pdAim_fr
    | with_reducible apply Chip.updPd_fr
    | with_reducible apply Chip.setSt_fr
    | intro _
    | split
    | (extract_lets +onlyGivenNames x; refine (fun hx : Fr f a x => ?_) ?_; (on_goal 1 => clear_value x); (on_goal 2 => subst x))
    | (extract_lets +onlyGivenNames x; refine (fun hx : Fr f a x.2 => ?_) ?_; (on_goal 1 => clear_value x); (on_goal 2 => subst x))
    | (extract_lets +onlyGivenNames x; clear_value x)
    | dsimp only

theorem Chip.pdNoContract_fr {f : Frame} {a c : Chip} {n_} (h : Fr f a c) (hp_ports : Part.ports ∈ f.parts) (hr_PD_STATUS : ∀ n, f.regs (.PD_STATUS n) = true) :
    Fr f a (Chip.pdNoContract c n_) := by
  unfold Chip.pdNoContract
  repeat' first
    | with_reducible assumption
    | with_reducible exact hr_PD_STATUS _
    | with_reducible apply Chip.updPd_fr
    | with_reducible apply Chip.updSt_fr
    | intro _
    | split
    | (extract_lets +onlyGivenNames x; refine (fun hx : Fr f a x => ?_) ?_; (on_goal 1 => clear_value x); (on_goal 2 => subst x))
    | (extract_lets +onlyGivenNames x; refine (fun hx : Fr f a x.2 => ?_) ?_; (on_goal 1 => clear_value x); (on_goal 2 => subst x))
    | (extract_lets +onlyGivenNames x; clear_value x)
    | dsimp only

theorem Chip.evContractEnd_fr {f : Frame} {a c : Chip} {n_} {cause_} (h : Fr f a c) (hp_doors : Part.doors ∈ f.parts) :
    Fr f a (Chip.evContractEnd c n_ cause_) := by
  unfold Chip.evContractEnd
  repeat' first
    | with_reducible assumption
    | with_reducible apply Chip.post_fr
    | intro _
    | split
    | (extract_lets +onlyGivenNames x; refine (fun hx : Fr f a x => ?_) ?_; (on_goal 1 => clear_value x); (on_goal 2 => subst x))
    | (extract_lets +onlyGivenNames x; refine (fun hx : Fr f a x.2 => ?_) ?_; (on_goal 1 => clear_value x); (on_goal 2 => subst x))
    | (extract_lets +onlyGivenNames x; clear_value x)
    | dsimp only

theorem Chip.pdContract_fr {f : Frame} {a c : Chip} {n_} {k_} (h : Fr f a c) (hp_doors : Part.doors ∈ f.parts) (hp_ports : Part.ports ∈ f.parts) (hr_PD_STATUS : ∀ n, f.regs (.PD_STATUS n) = true) :
    Fr f a (Chip.pdContract c n_ k_) := by
  unfold Chip.pdContract
  repeat' first
    | with_reducible assumption
    | with_reducible exact hr_PD_STATUS _
    | with_reducible apply Chip.pdSend_fr
    | with_reducible apply Chip.updPd_fr
    | with_reducible apply Chip.updSt_fr
    | with_reducible apply Chip.setPd_fr
    | with_reducible apply Chip.post_fr
    | intro _
    | split
    | (extract_lets +onlyGivenNames x; refine (fun hx : Fr f a x => ?_) ?_; (on_goal 1 => clear_value x); (on_goal 2 => subst x))
    | (extract_lets +onlyGivenNames x; refine (fun hx : Fr f a x.2 => ?_) ?_; (on_goal 1 => clear_value x); (on_goal 2 => subst x))
    | (extract_lets +onlyGivenNames x; clear_value x)
    | dsimp only

theorem Chip.swapReport_fr {f : Frame} {a c : Chip} {n_} {o_} (h : Fr f a c) (hp_trunk : Part.trunk ∈ f.parts) (hp_doors : Part.doors ∈ f.parts) (hp_reqs : Part.reqs ∈ f.parts) (hp_rates : Part.rates ∈ f.parts) (hp_ports : Part.ports ∈ f.parts) :
    Fr f a (Chip.swapReport c n_ o_) := by
  unfold Chip.swapReport
  repeat' first
    | with_reducible assumption
    | with_reducible apply Chip.updPd_fr
    | with_reducible apply Chip.post_fr
    | with_reducible apply Chip.answerOpt_fr
    | intro _
    | split
    | (extract_lets +onlyGivenNames x; refine (fun hx : Fr f a x => ?_) ?_; (on_goal 1 => clear_value x); (on_goal 2 => subst x))
    | (extract_lets +onlyGivenNames x; refine (fun hx : Fr f a x.2 => ?_) ?_; (on_goal 1 => clear_value x); (on_goal 2 => subst x))
    | (extract_lets +onlyGivenNames x; clear_value x)
    | dsimp only

theorem Chip.swapIdle_fr {f : Frame} {a c : Chip} {n_} (h : Fr f a c) (hp_ports : Part.ports ∈ f.parts) (hr_PD_STATUS : ∀ n, f.regs (.PD_STATUS n) = true) :
    Fr f a (Chip.swapIdle c n_) := by
  unfold Chip.swapIdle
  repeat' first
    | with_reducible assumption
    | with_reducible exact hr_PD_STATUS _
    | with_reducible apply Chip.pdOwnEnd_fr
    | with_reducible apply Chip.updPd_fr
    | with_reducible apply Chip.setPd_fr
    | intro _
    | split
    | (extract_lets +onlyGivenNames x; refine (fun hx : Fr f a x => ?_) ?_; (on_goal 1 => clear_value x); (on_goal 2 => subst x))
    | (extract_lets +onlyGivenNames x; refine (fun hx : Fr f a x.2 => ?_) ?_; (on_goal 1 => clear_value x); (on_goal 2 => subst x))
    | (extract_lets +onlyGivenNames x; clear_value x)
    | dsimp only

theorem Chip.swapRuns_fr {f : Frame} {a c : Chip} {n_} (h : Fr f a c) (hp_ports : Part.ports ∈ f.parts) (hr_PD_STATUS : ∀ n, f.regs (.PD_STATUS n) = true) :
    Fr f a (Chip.swapRuns c n_) := by
  unfold Chip.swapRuns
  repeat' first
    | with_reducible assumption
    | with_reducible exact hr_PD_STATUS _
    | with_reducible apply Chip.setPd_fr
    | with_reducible apply Chip.updPd_fr
    | intro _
    | split
    | (extract_lets +onlyGivenNames x; refine (fun hx : Fr f a x => ?_) ?_; (on_goal 1 => clear_value x); (on_goal 2 => subst x))
    | (extract_lets +onlyGivenNames x; refine (fun hx : Fr f a x.2 => ?_) ?_; (on_goal 1 => clear_value x); (on_goal 2 => subst x))
    | (extract_lets +onlyGivenNames x; clear_value x)
    | dsimp only

theorem Chip.swapSend_fr {f : Frame} {a c : Chip} {n_} (h : Fr f a c) (hp_ports : Part.ports ∈ f.parts) (hr_PD_STATUS : ∀ n, f.regs (.PD_STATUS n) = true) :
    Fr f a (Chip.swapSend c n_) := by
  unfold Chip.swapSend
  repeat' first
    | with_reducible assumption
    | with_reducible exact hr_PD_STATUS _
    | with_reducible apply Chip.updPd_fr
    | with_reducible apply Chip.pdSend_fr
    | with_reducible apply Chip.swapRuns_fr
    | intro _
    | split
    | (extract_lets +onlyGivenNames x; refine (fun hx : Fr f a x => ?_) ?_; (on_goal 1 => clear_value x); (on_goal 2 => subst x))
    | (extract_lets +onlyGivenNames x; refine (fun hx : Fr f a x.2 => ?_) ?_; (on_goal 1 => clear_value x); (on_goal 2 => subst x))
    | (extract_lets +onlyGivenNames x; clear_value x)
    | dsimp only

theorem Chip.swapDrop_fr {f : Frame} {a c : Chip} {n_} {res_} (h : Fr f a c) (hp_trunk : Part.trunk ∈ f.parts) (hp_doors : Part.doors ∈ f.parts) (hp_reqs : Part.reqs ∈ f.parts) (hp_rates : Part.rates ∈ f.parts) (hp_ports : Part.ports ∈ f.parts) :
    Fr f a (Chip.swapDrop c n_ res_) := by
  unfold Chip.swapDrop
  repeat' first
    | with_reducible assumption
    | with_reducible apply Chip.answerOpt_fr
    | with_reducible apply Chip.updPd_fr
    | intro _
    | split
    | (extract_lets +onlyGivenNames x; refine (fun hx : Fr f a x => ?_) ?_; (on_goal 1 => clear_value x); (on_goal 2 => subst x))
    | (extract_lets +onlyGivenNames x; refine (fun hx : Fr f a x.2 => ?_) ?_; (on_goal 1 => clear_value x); (on_goal 2 => subst x))
    | (extract_lets +onlyGivenNames x; clear_value x)
    | dsimp only

theorem Chip.vconn_fr {f : Frame} {a c : Chip} {n_} {on_} (h : Fr f a c) (hr_PD_STATUS : ∀ n, f.regs (.PD_STATUS n) = true) :
    Fr f a (Chip.vconn c n_ on_) := by
  unfold Chip.vconn
  repeat' first
    | with_reducible assumption
    | with_reducible exact hr_PD_STATUS _
    | with_reducible apply Chip.setSt_fr
    | intro _
    | split
    | (extract_lets +onlyGivenNames x; refine (fun hx : Fr f a x => ?_) ?_; (on_goal 1 => clear_value x); (on_goal 2 => subst x))
    | (extract_lets +onlyGivenNames x; refine (fun hx : Fr f a x.2 => ?_) ?_; (on_goal 1 => clear_value x); (on_goal 2 => subst x))
    | (extract_lets +onlyGivenNames x; clear_value x)
    | dsimp only

theorem Chip.pdAnswerAll_fr {f : Frame} {a c : Chip} {n_} {res_} (h : Fr f a c) (hp_trunk : Part.trunk ∈ f.parts) (hp_doors : Part.doors ∈ f.parts) (hp_reqs : Part.reqs ∈ f.parts) (hp_rates : Part.rates ∈ f.parts) (hp_ports : Part.ports ∈ f.parts) :
    Fr f a (Chip.pdAnswerAll c n_ res_) := by
  unfold Chip.pdAnswerAll
  repeat' first
    | with_reducible assumption
    | with_reducible apply Chip.swapDrop_fr
    | with_reducible apply Chip.updPd_fr
    | with_reducible apply Chip.answerOpt_fr
    | intro _
    | split
    | (extract_lets +onlyGivenNames x; refine (fun hx : Fr f a x => ?_) ?_; (on_goal 1 => clear_value x); (on_goal 2 => subst x))
    | (extract_lets +onlyGivenNames x; refine (fun hx : Fr f a x.2 => ?_) ?_; (on_goal 1 => clear_value x); (on_goal 2 => subst x))
    | (extract_lets +onlyGivenNames x; clear_value x)
    | dsimp only

theorem Chip.pdStop_fr {f : Frame} {a c : Chip} {n_} {cause_} (h : Fr f a c) (hp_trunk : Part.trunk ∈ f.parts) (hp_doors : Part.doors ∈ f.parts) (hp_reqs : Part.reqs ∈ f.parts) (hp_rates : Part.rates ∈ f.parts) (hp_ports : Part.ports ∈ f.parts) (hr_PD_STATUS : ∀ n, f.regs (.PD_STATUS n) = true) (hr_PD_VOUT : ∀ n, f.regs (.PD_VOUT n) = true) :
    Fr f a (Chip.pdStop c n_ cause_) := by
  unfold Chip.pdStop
  repeat' first
    | with_reducible assumption
    | with_reducible exact hr_PD_STATUS _
    | with_reducible exact hr_PD_VOUT _
    | with_reducible apply Chip.pdConvOff_fr
    | with_reducible apply Chip.pdAnswerAll_fr
    | with_reducible apply Chip.pdNoContract_fr
    | with_reducible apply Chip.updPd_fr
    | with_reducible apply Chip.updSt_fr
    | with_reducible apply Chip.evContractEnd_fr
    | with_reducible apply Chip.setPd_fr
    | intro _
    | split
    | (extract_lets +onlyGivenNames x; refine (fun hx : Fr f a x => ?_) ?_; (on_goal 1 => clear_value x); (on_goal 2 => subst x))
    | (extract_lets +onlyGivenNames x; refine (fun hx : Fr f a x.2 => ?_) ?_; (on_goal 1 => clear_value x); (on_goal 2 => subst x))
    | (extract_lets +onlyGivenNames x; clear_value x)
    | dsimp only

theorem Chip.pdChannelOn_fr {f : Frame} {a c : Chip} {n_} (h : Fr f a c) (hp_ports : Part.ports ∈ f.parts) (hr_PD_VOUT : ∀ n, f.regs (.PD_VOUT n) = true) :
    Fr f a (Chip.pdChannelOn c n_) := by
  unfold Chip.pdChannelOn
  repeat' first
    | with_reducible assumption
    | with_reducible exact hr_PD_VOUT _
    | with_reducible apply Chip.pdConvOn_fr
    | intro _
    | split
    | (extract_lets +onlyGivenNames x; refine (fun hx : Fr f a x => ?_) ?_; (on_goal 1 => clear_value x); (on_goal 2 => subst x))
    | (extract_lets +onlyGivenNames x; refine (fun hx : Fr f a x.2 => ?_) ?_; (on_goal 1 => clear_value x); (on_goal 2 => subst x))
    | (extract_lets +onlyGivenNames x; clear_value x)
    | dsimp only

theorem Chip.vconnRa_fr {f : Frame} {a c : Chip} {n_} (h : Fr f a c) (hr_PD_STATUS : ∀ n, f.regs (.PD_STATUS n) = true) :
    Fr f a (Chip.vconnRa c n_) := by
  unfold Chip.vconnRa
  repeat' first
    | with_reducible assumption
    | with_reducible exact hr_PD_STATUS _
    | with_reducible apply Chip.vconn_fr
    | intro _
    | split
    | (extract_lets +onlyGivenNames x; refine (fun hx : Fr f a x => ?_) ?_; (on_goal 1 => clear_value x); (on_goal 2 => subst x))
    | (extract_lets +onlyGivenNames x; refine (fun hx : Fr f a x.2 => ?_) ?_; (on_goal 1 => clear_value x); (on_goal 2 => subst x))
    | (extract_lets +onlyGivenNames x; clear_value x)
    | dsimp only

theorem Chip.pdInrush_fr {f : Frame} {a c : Chip} {n_} (h : Fr f a c) (hr_PD_STATUS : ∀ n, f.regs (.PD_STATUS n) = true) :
    Fr f a (Chip.pdInrush c n_) := by
  unfold Chip.pdInrush
  repeat' first
    | with_reducible assumption
    | with_reducible exact hr_PD_STATUS _
    | with_reducible apply Chip.vconnRa_fr
    | intro _
    | split
    | (extract_lets +onlyGivenNames x; refine (fun hx : Fr f a x => ?_) ?_; (on_goal 1 => clear_value x); (on_goal 2 => subst x))
    | (extract_lets +onlyGivenNames x; refine (fun hx : Fr f a x.2 => ?_) ?_; (on_goal 1 => clear_value x); (on_goal 2 => subst x))
    | (extract_lets +onlyGivenNames x; clear_value x)
    | dsimp only

theorem Chip.pdEnter_fr {f : Frame} {a c : Chip} {n_} (h : Fr f a c) (hp_ports : Part.ports ∈ f.parts) (hr_PD_STATUS : ∀ n, f.regs (.PD_STATUS n) = true) (hr_PD_VOUT : ∀ n, f.regs (.PD_VOUT n) = true) :
    Fr f a (Chip.pdEnter c n_) := by
  unfold Chip.pdEnter
  repeat' first
    | with_reducible assumption
    | with_reducible exact hr_PD_STATUS _
    | with_reducible exact hr_PD_VOUT _
    | with_reducible apply Chip.setPd_fr
    | with_reducible apply Chip.vconnRa_fr
    | with_reducible apply Chip.pdConvOn_fr
    | intro _
    | split
    | (extract_lets +onlyGivenNames x; refine (fun hx : Fr f a x => ?_) ?_; (on_goal 1 => clear_value x); (on_goal 2 => subst x))
    | (extract_lets +onlyGivenNames x; refine (fun hx : Fr f a x.2 => ?_) ?_; (on_goal 1 => clear_value x); (on_goal 2 => subst x))
    | (extract_lets +onlyGivenNames x; clear_value x)
    | dsimp only

theorem Chip.pdLeave_fr {f : Frame} {a c : Chip} {n_} (h : Fr f a c) (hp_trunk : Part.trunk ∈ f.parts) (hp_doors : Part.doors ∈ f.parts) (hp_reqs : Part.reqs ∈ f.parts) (hp_rates : Part.rates ∈ f.parts) (hp_ports : Part.ports ∈ f.parts) (hr_PD_STATUS : ∀ n, f.regs (.PD_STATUS n) = true) (hr_PD_VOUT : ∀ n, f.regs (.PD_VOUT n) = true) :
    Fr f a (Chip.pdLeave c n_) := by
  unfold Chip.pdLeave
  repeat' first
    | with_reducible assumption
    | with_reducible exact hr_PD_STATUS _
    | with_reducible exact hr_PD_VOUT _
    | with_reducible apply Chip.pdAnswerAll_fr
    | with_reducible apply Chip.pdNoContract_fr
    | with_reducible apply Chip.pdTarget_fr
    | with_reducible apply Chip.vconn_fr
    | with_reducible apply Chip.updPd_fr
    | with_reducible apply Chip.updSt_fr
    | with_reducible apply Chip.evContractEnd_fr
    | intro _
    | split
    | (extract_lets +onlyGivenNames x; refine (fun hx : Fr f a x => ?_) ?_; (on_goal 1 => clear_value x); (on_goal 2 => subst x))
    | (extract_lets +onlyGivenNames x; refine (fun hx : Fr f a x.2 => ?_) ?_; (on_goal 1 => clear_value x); (on_goal 2 => subst x))
    | (extract_lets +onlyGivenNames x; clear_value x)
    | dsimp only

theorem Chip.pdDown_fr {f : Frame} {a c : Chip} {n_} (h : Fr f a c) (hp_trunk : Part.trunk ∈ f.parts) (hp_doors : Part.doors ∈ f.parts) (hp_reqs : Part.reqs ∈ f.parts) (hp_rates : Part.rates ∈ f.parts) (hp_pond : Part.pond ∈ f.parts) (hp_engines : Part.engines ∈ f.parts) (hp_basins : Part.basins ∈ f.parts) (hp_ports : Part.ports ∈ f.parts) (hp_svc : Part.svc ∈ f.parts) (hp_pwr : Part.pwr ∈ f.parts) (hr_DROP_SCHED : ∀ n, f.regs (.DROP_SCHED n) = true) (hr_DROP_STATUS : ∀ n, f.regs (.DROP_STATUS n) = true) (hr_HOLDER_USED : ∀ n, f.regs (.HOLDER_USED n) = true) (hr_PD_STATUS : ∀ n, f.regs (.PD_STATUS n) = true) (hr_PD_VOUT : ∀ n, f.regs (.PD_VOUT n) = true) (hr_POND_FREE : f.regs .POND_FREE = true) (hr_POND_STATUS : f.regs .POND_STATUS = true) (hr_POND_WAIT : f.regs .POND_WAIT = true) (hr_PWR_STATUS : f.regs .PWR_STATUS = true) (hr_SVC_STATUS : f.regs .SVC_STATUS = true) :
    Fr f a (Chip.pdDown c n_) := by
  unfold Chip.pdDown
  repeat' first
    | with_reducible assumption
    | with_reducible exact hr_DROP_SCHED _
    | with_reducible exact hr_DROP_STATUS _
    | with_reducible exact hr_HOLDER_USED _
    | with_reducible exact hr_PD_STATUS _
    | with_reducible exact hr_PD_VOUT _
    | with_reducible apply Chip.pdConvOff_fr
    | with_reducible apply Chip.swapDrop_fr
    | with_reducible apply Chip.answerOpt_fr
    | with_reducible apply Chip.updPd_fr
    | with_reducible apply Chip.pdNoContract_fr
    | with_reducible apply Chip.powerLost_fr
    | intro _
    | split
    | (extract_lets +onlyGivenNames x; refine (fun hx : Fr f a x => ?_) ?_; (on_goal 1 => clear_value x); (on_goal 2 => subst x))
    | (extract_lets +onlyGivenNames x; refine (fun hx : Fr f a x.2 => ?_) ?_; (on_goal 1 => clear_value x); (on_goal 2 => subst x))
    | (extract_lets +onlyGivenNames x; clear_value x)
    | dsimp only

theorem Chip.errorRecovery_fr {f : Frame} {a c : Chip} {n_} {cause_} (h : Fr f a c) (hp_trunk : Part.trunk ∈ f.parts) (hp_doors : Part.doors ∈ f.parts) (hp_reqs : Part.reqs ∈ f.parts) (hp_rates : Part.rates ∈ f.parts) (hp_pond : Part.pond ∈ f.parts) (hp_engines : Part.engines ∈ f.parts) (hp_basins : Part.basins ∈ f.parts) (hp_ports : Part.ports ∈ f.parts) (hp_svc : Part.svc ∈ f.parts) (hp_pwr : Part.pwr ∈ f.parts) (hr_DROP_SCHED : ∀ n, f.regs (.DROP_SCHED n) = true) (hr_DROP_STATUS : ∀ n, f.regs (.DROP_STATUS n) = true) (hr_HOLDER_USED : ∀ n, f.regs (.HOLDER_USED n) = true) (hr_PD_STATUS : ∀ n, f.regs (.PD_STATUS n) = true) (hr_PD_VOUT : ∀ n, f.regs (.PD_VOUT n) = true) (hr_POND_FREE : f.regs .POND_FREE = true) (hr_POND_STATUS : f.regs .POND_STATUS = true) (hr_POND_WAIT : f.regs .POND_WAIT = true) (hr_PWR_STATUS : f.regs .PWR_STATUS = true) (hr_SVC_STATUS : f.regs .SVC_STATUS = true) :
    Fr f a (Chip.errorRecovery c n_ cause_) := by
  unfold Chip.errorRecovery
  repeat' first
    | with_reducible assumption
    | with_reducible exact hr_DROP_SCHED _
    | with_reducible exact hr_DROP_STATUS _
    | with_reducible exact hr_HOLDER_USED _
    | with_reducible exact hr_PD_STATUS _
    | with_reducible exact hr_PD_VOUT _
    | with_reducible apply Chip.evContractEnd_fr
    | with_reducible apply Chip.pdDown_fr
    | with_reducible apply Chip.updPd_fr
    | with_reducible apply Chip.setPd_fr
    | intro _
    | split
    | (extract_lets +onlyGivenNames x; refine (fun hx : Fr f a x => ?_) ?_; (on_goal 1 => clear_value x); (on_goal 2 => subst x))
    | (extract_lets +onlyGivenNames x; refine (fun hx : Fr f a x.2 => ?_) ?_; (on_goal 1 => clear_value x); (on_goal 2 => subst x))
    | (extract_lets +onlyGivenNames x; clear_value x)
    | dsimp only

theorem Chip.hardReset_fr {f : Frame} {a c : Chip} {n_} {sent_} {cause_} (h : Fr f a c) (hp_trunk : Part.trunk ∈ f.parts) (hp_doors : Part.doors ∈ f.parts) (hp_reqs : Part.reqs ∈ f.parts) (hp_rates : Part.rates ∈ f.parts) (hp_pond : Part.pond ∈ f.parts) (hp_engines : Part.engines ∈ f.parts) (hp_basins : Part.basins ∈ f.parts) (hp_ports : Part.ports ∈ f.parts) (hp_svc : Part.svc ∈ f.parts) (hp_pwr : Part.pwr ∈ f.parts) (hr_DROP_SCHED : ∀ n, f.regs (.DROP_SCHED n) = true) (hr_DROP_STATUS : ∀ n, f.regs (.DROP_STATUS n) = true) (hr_HOLDER_USED : ∀ n, f.regs (.HOLDER_USED n) = true) (hr_PD_STATUS : ∀ n, f.regs (.PD_STATUS n) = true) (hr_PD_VOUT : ∀ n, f.regs (.PD_VOUT n) = true) (hr_POND_FREE : f.regs .POND_FREE = true) (hr_POND_STATUS : f.regs .POND_STATUS = true) (hr_POND_WAIT : f.regs .POND_WAIT = true) (hr_PWR_STATUS : f.regs .PWR_STATUS = true) (hr_SVC_STATUS : f.regs .SVC_STATUS = true) :
    Fr f a (Chip.hardReset c n_ sent_ cause_) := by
  unfold Chip.hardReset
  repeat' first
    | with_reducible assumption
    | with_reducible exact hr_DROP_SCHED _
    | with_reducible exact hr_DROP_STATUS _
    | with_reducible exact hr_HOLDER_USED _
    | with_reducible exact hr_PD_STATUS _
    | with_reducible exact hr_PD_VOUT _
    | with_reducible apply Chip.updPd_fr
    | with_reducible apply Chip.errorRecovery_fr
    | with_reducible apply Chip.pdSend_fr
    | with_reducible apply Chip.record_fr
    | with_reducible apply Chip.post_fr
    | with_reducible apply Chip.evContractEnd_fr
    | with_reducible apply Chip.pdDown_fr
    | with_reducible apply Chip.setPd_fr
    | intro _
    | split
    | (extract_lets +onlyGivenNames x; refine (fun hx : Fr f a x => ?_) ?_; (on_goal 1 => clear_value x); (on_goal 2 => subst x))
    | (extract_lets +onlyGivenNames x; refine (fun hx : Fr f a x.2 => ?_) ?_; (on_goal 1 => clear_value x); (on_goal 2 => subst x))
    | (extract_lets +onlyGivenNames x; clear_value x)
    | dsimp only

theorem Chip.convFault_fr {f : Frame} {a c : Chip} {n_} {status_} {cause_} (h : Fr f a c) (hp_clk : Part.clk ∈ f.parts) (hp_trunk : Part.trunk ∈ f.parts) (hp_doors : Part.doors ∈ f.parts) (hp_reqs : Part.reqs ∈ f.parts) (hp_rates : Part.rates ∈ f.parts) (hp_pond : Part.pond ∈ f.parts) (hp_engines : Part.engines ∈ f.parts) (hp_basins : Part.basins ∈ f.parts) (hp_ports : Part.ports ∈ f.parts) (hp_svc : Part.svc ∈ f.parts) (hp_pwr : Part.pwr ∈ f.parts) (hp_bead : Part.bead ∈ f.parts) (hr_DROP_SCHED : ∀ n, f.regs (.DROP_SCHED n) = true) (hr_DROP_STATUS : ∀ n, f.regs (.DROP_STATUS n) = true) (hr_GLB_FAULT : f.regs .GLB_FAULT = true) (hr_HOLDER_USED : ∀ n, f.regs (.HOLDER_USED n) = true) (hr_PD_STATUS : ∀ n, f.regs (.PD_STATUS n) = true) (hr_PD_VOUT : ∀ n, f.regs (.PD_VOUT n) = true) (hr_POND_FREE : f.regs .POND_FREE = true) (hr_POND_STATUS : f.regs .POND_STATUS = true) (hr_POND_WAIT : f.regs .POND_WAIT = true) (hr_PWR_STATUS : f.regs .PWR_STATUS = true) (hr_SVC_STATUS : f.regs .SVC_STATUS = true) :
    Fr f a (Chip.convFault c n_ status_ cause_) := by
  unfold Chip.convFault
  repeat' first
    | with_reducible assumption
    | with_reducible exact hr_DROP_SCHED _
    | with_reducible exact hr_DROP_STATUS _
    | with_reducible exact hr_HOLDER_USED _
    | with_reducible exact hr_PD_STATUS _
    | with_reducible exact hr_PD_VOUT _
    | with_reducible apply Chip.record_fr
    | with_reducible apply Chip.postFault_fr
    | with_reducible apply Chip.updPd_fr
    | with_reducible apply Chip.pdConvOff_fr
    | with_reducible apply Chip.errorRecovery_fr
    | with_reducible apply Chip.hardReset_fr
    | intro _
    | split
    | (extract_lets +onlyGivenNames x; refine (fun hx : Fr f a x => ?_) ?_; (on_goal 1 => clear_value x); (on_goal 2 => subst x))
    | (extract_lets +onlyGivenNames x; refine (fun hx : Fr f a x.2 => ?_) ?_; (on_goal 1 => clear_value x); (on_goal 2 => subst x))
    | (extract_lets +onlyGivenNames x; clear_value x)
    | dsimp only

theorem Chip.pdRestart_fr {f : Frame} {a c : Chip} {n_} (h : Fr f a c) (hp_ports : Part.ports ∈ f.parts) (hr_PD_STATUS : ∀ n, f.regs (.PD_STATUS n) = true) (hr_PD_VOUT : ∀ n, f.regs (.PD_VOUT n) = true) :
    Fr f a (Chip.pdRestart c n_) := by
  unfold Chip.pdRestart
  repeat' first
    | with_reducible assumption
    | with_reducible exact hr_PD_STATUS _
    | with_reducible exact hr_PD_VOUT _
    | with_reducible apply Chip.updPd_fr
    | with_reducible apply Chip.setPd_fr
    | with_reducible apply Chip.vconnRa_fr
    | with_reducible apply Chip.pdConvOn_fr
    | intro _
    | split
    | (extract_lets +onlyGivenNames x; refine (fun hx : Fr f a x => ?_) ?_; (on_goal 1 => clear_value x); (on_goal 2 => subst x))
    | (extract_lets +onlyGivenNames x; refine (fun hx : Fr f a x.2 => ?_) ?_; (on_goal 1 => clear_value x); (on_goal 2 => subst x))
    | (extract_lets +onlyGivenNames x; clear_value x)
    | dsimp only

theorem Chip.discoverSend_fr {f : Frame} {a c : Chip} {n_} (h : Fr f a c) (hp_ports : Part.ports ∈ f.parts) :
    Fr f a (Chip.discoverSend c n_) := by
  unfold Chip.discoverSend
  repeat' first
    | with_reducible assumption
    | with_reducible apply Chip.updPd_fr
    | with_reducible apply Chip.pdSend_fr
    | intro _
    | split
    | (extract_lets +onlyGivenNames x; refine (fun hx : Fr f a x => ?_) ?_; (on_goal 1 => clear_value x); (on_goal 2 => subst x))
    | (extract_lets +onlyGivenNames x; refine (fun hx : Fr f a x.2 => ?_) ?_; (on_goal 1 => clear_value x); (on_goal 2 => subst x))
    | (extract_lets +onlyGivenNames x; clear_value x)
    | dsimp only

theorem Chip.discover_fr {f : Frame} {a c : Chip} {n_} (h : Fr f a c) (hp_ports : Part.ports ∈ f.parts) (hr_PD_STATUS : ∀ n, f.regs (.PD_STATUS n) = true) :
    Fr f a (Chip.discover c n_) := by
  unfold Chip.discover
  repeat' first
    | with_reducible assumption
    | with_reducible exact hr_PD_STATUS _
    | with_reducible apply Chip.discoverSend_fr
    | with_reducible apply Chip.updPd_fr
    | with_reducible apply Chip.swapSend_fr
    | intro _
    | split
    | (extract_lets +onlyGivenNames x; refine (fun hx : Fr f a x => ?_) ?_; (on_goal 1 => clear_value x); (on_goal 2 => subst x))
    | (extract_lets +onlyGivenNames x; refine (fun hx : Fr f a x.2 => ?_) ?_; (on_goal 1 => clear_value x); (on_goal 2 => subst x))
    | (extract_lets +onlyGivenNames x; clear_value x)
    | dsimp only

theorem Chip.pdChanged_fr {f : Frame} {a c : Chip} {n_} {timing_} (h : Fr f a c) (hp_ports : Part.ports ∈ f.parts) :
    Fr f a (Chip.pdChanged c n_ timing_) := by
  unfold Chip.pdChanged
  repeat' first
    | with_reducible assumption
    | with_reducible apply Chip.pdOwn_fr
    | with_reducible apply Chip.updPd_fr
    | with_reducible apply Chip.pmbSend_fr
    | intro _
    | split
    | (extract_lets +onlyGivenNames x; refine (fun hx : Fr f a x => ?_) ?_; (on_goal 1 => clear_value x); (on_goal 2 => subst x))
    | (extract_lets +onlyGivenNames x; refine (fun hx : Fr f a x.2 => ?_) ?_; (on_goal 1 => clear_value x); (on_goal 2 => subst x))
    | (extract_lets +onlyGivenNames x; clear_value x)
    | dsimp only

theorem Chip.pdRecheck_fr {f : Frame} {a c : Chip}  (h : Fr f a c) (hp_trunk : Part.trunk ∈ f.parts) (hp_doors : Part.doors ∈ f.parts) (hp_reqs : Part.reqs ∈ f.parts) (hp_rates : Part.rates ∈ f.parts) (hp_ports : Part.ports ∈ f.parts) (hr_PD_STATUS : ∀ n, f.regs (.PD_STATUS n) = true) (hr_PD_VOUT : ∀ n, f.regs (.PD_VOUT n) = true) :
    Fr f a (Chip.pdRecheck c) := by
  unfold Chip.pdRecheck
  repeat' first
    | with_reducible assumption
    | with_reducible exact hr_PD_STATUS _
    | with_reducible exact hr_PD_VOUT _
    | with_reducible apply Fr.each
    | with_reducible apply Chip.pdEnter_fr
    | with_reducible apply Chip.pdLeave_fr
    | intro _
    | split
    | (extract_lets +onlyGivenNames x; refine (fun hx : Fr f a x => ?_) ?_; (on_goal 1 => clear_value x); (on_goal 2 => subst x))
    | (extract_lets +onlyGivenNames x; refine (fun hx : Fr f a x.2 => ?_) ?_; (on_goal 1 => clear_value x); (on_goal 2 => subst x))
    | (extract_lets +onlyGivenNames x; clear_value x)
    | dsimp only

theorem Chip.pdRail_fr {f : Frame} {a c : Chip} {n_} {ov_} (h : Fr f a c) (hp_ports : Part.ports ∈ f.parts) :
    Fr f a (Chip.pdRail c n_ ov_) := by
  unfold Chip.pdRail
  repeat' first
    | with_reducible assumption
    | with_reducible apply Chip.pdOwn_fr
    | with_reducible apply Chip.updPd_fr
    | intro _
    | split
    | (extract_lets +onlyGivenNames x; refine (fun hx : Fr f a x => ?_) ?_; (on_goal 1 => clear_value x); (on_goal 2 => subst x))
    | (extract_lets +onlyGivenNames x; refine (fun hx : Fr f a x.2 => ?_) ?_; (on_goal 1 => clear_value x); (on_goal 2 => subst x))
    | (extract_lets +onlyGivenNames x; clear_value x)
    | dsimp only

/-! ### Machine/ChanOps.lean -/

theorem Chip.holdBegins_fr {f : Frame} {a c : Chip} {n_} (h : Fr f a c) (hp_chans : Part.chans ∈ f.parts) :
    Fr f a (Chip.holdBegins c n_) := by
  unfold Chip.holdBegins
  repeat' first
    | with_reducible assumption
    | with_reducible apply Chip.updChan_fr
    | intro _
    | split
    | (extract_lets +onlyGivenNames x; refine (fun hx : Fr f a x => ?_) ?_; (on_goal 1 => clear_value x); (on_goal 2 => subst x))
    | (extract_lets +onlyGivenNames x; refine (fun hx : Fr f a x.2 => ?_) ?_; (on_goal 1 => clear_value x); (on_goal 2 => subst x))
    | (extract_lets +onlyGivenNames x; clear_value x)
    | dsimp only

theorem Chip.startInrush_fr {f : Frame} {a c : Chip} {n_} (h : Fr f a c) (hp_chans : Part.chans ∈ f.parts) (hr_PD_STATUS : ∀ n, f.regs (.PD_STATUS n) = true) :
    Fr f a (Chip.startInrush c n_) := by
  unfold Chip.startInrush
  repeat' first
    | with_reducible assumption
    | with_reducible exact hr_PD_STATUS _
    | with_reducible apply Chip.updCh_fr
    | with_reducible apply Chip.holdBegins_fr
    | with_reducible apply Chip.pdInrush_fr
    | with_reducible apply Chip.regulate_fr
    | intro _
    | split
    | (extract_lets +onlyGivenNames x; refine (fun hx : Fr f a x => ?_) ?_; (on_goal 1 => clear_value x); (on_goal 2 => subst x))
    | (extract_lets +onlyGivenNames x; refine (fun hx : Fr f a x.2 => ?_) ?_; (on_goal 1 => clear_value x); (on_goal 2 => subst x))
    | (extract_lets +onlyGivenNames x; clear_value x)
    | dsimp only

theorem Chip.chOn_fr {f : Frame} {a c : Chip} {n_} (h : Fr f a c) (hp_chans : Part.chans ∈ f.parts) (hr_PD_STATUS : ∀ n, f.regs (.PD_STATUS n) = true) :
    Fr f a (Chip.chOn c n_) := by
  unfold Chip.chOn
  repeat' first
    | with_reducible assumption
    | with_reducible exact hr_PD_STATUS _
    | with_reducible apply Chip.updCh_fr
    | with_reducible apply Chip.startInrush_fr
    | with_reducible apply Chip.updChan_fr
    | intro _
    | split
    | (extract_lets +onlyGivenNames x; refine (fun hx : Fr f a x => ?_) ?_; (on_goal 1 => clear_value x); (on_goal 2 => subst x))
    | (extract_lets +onlyGivenNames x; refine (fun hx : Fr f a x.2 => ?_) ?_; (on_goal 1 => clear_value x); (on_goal 2 => subst x))
    | (extract_lets +onlyGivenNames x; clear_value x)
    | dsimp only

theorem Chip.chOff_fr {f : Frame} {a c : Chip} {n_} (h : Fr f a c) (hp_trunk : Part.trunk ∈ f.parts) (hp_doors : Part.doors ∈ f.parts) (hp_reqs : Part.reqs ∈ f.parts) (hp_rates : Part.rates ∈ f.parts) (hp_pond : Part.pond ∈ f.parts) (hp_engines : Part.engines ∈ f.parts) (hp_basins : Part.basins ∈ f.parts) (hp_ports : Part.ports ∈ f.parts) (hp_chans : Part.chans ∈ f.parts) (hp_svc : Part.svc ∈ f.parts) (hp_pwr : Part.pwr ∈ f.parts) (hr_DROP_SCHED : ∀ n, f.regs (.DROP_SCHED n) = true) (hr_DROP_STATUS : ∀ n, f.regs (.DROP_STATUS n) = true) (hr_HOLDER_USED : ∀ n, f.regs (.HOLDER_USED n) = true) (hr_PD_STATUS : ∀ n, f.regs (.PD_STATUS n) = true) (hr_PD_VOUT : ∀ n, f.regs (.PD_VOUT n) = true) (hr_POND_FREE : f.regs .POND_FREE = true) (hr_POND_STATUS : f.regs .POND_STATUS = true) (hr_POND_WAIT : f.regs .POND_WAIT = true) (hr_PWR_STATUS : f.regs .PWR_STATUS = true) (hr_SVC_STATUS : f.regs .SVC_STATUS = true) :
    Fr f a (Chip.chOff c n_) := by
  unfold Chip.chOff
  repeat' first
    | with_reducible assumption
    | with_reducible exact hr_DROP_SCHED _
    | with_reducible exact hr_DROP_STATUS _
    | with_reducible exact hr_HOLDER_USED _
    | with_reducible exact hr_PD_STATUS _
    | with_reducible exact hr_PD_VOUT _
    | with_reducible apply Chip.updChan_fr
    | with_reducible apply Chip.updCh_fr
    | with_reducible apply Chip.updDrop_fr
    | with_reducible apply Chip.powerLost_fr
    | with_reducible apply Chip.pdStop_fr
    | intro _
    | split
    | (extract_lets +onlyGivenNames x; refine (fun hx : Fr f a x => ?_) ?_; (on_goal 1 => clear_value x); (on_goal 2 => subst x))
    | (extract_lets +onlyGivenNames x; refine (fun hx : Fr f a x.2 => ?_) ?_; (on_goal 1 => clear_value x); (on_goal 2 => subst x))
    | (extract_lets +onlyGivenNames x; clear_value x)
    | dsimp only

theorem Chip.tripExplains_fr {f : Frame} {a c : Chip} {n_} (h : Fr f a c) (hp_chans : Part.chans ∈ f.parts) :
    Fr f a (Chip.tripExplains c n_) := by
  unfold Chip.tripExplains
  repeat' first
    | with_reducible assumption
    | with_reducible apply Fr.each
    | with_reducible apply Chip.updChan_fr
    | intro _
    | split
    | (extract_lets +onlyGivenNames x; refine (fun hx : Fr f a x => ?_) ?_; (on_goal 1 => clear_value x); (on_goal 2 => subst x))
    | (extract_lets +onlyGivenNames x; refine (fun hx : Fr f a x.2 => ?_) ?_; (on_goal 1 => clear_value x); (on_goal 2 => subst x))
    | (extract_lets +onlyGivenNames x; clear_value x)
    | dsimp only

theorem Chip.trip_fr {f : Frame} {a c : Chip} {n_} {cause_} {point_} {peak_} (h : Fr f a c) (hp_clk : Part.clk ∈ f.parts) (hp_trunk : Part.trunk ∈ f.parts) (hp_doors : Part.doors ∈ f.parts) (hp_reqs : Part.reqs ∈ f.parts) (hp_rates : Part.rates ∈ f.parts) (hp_pond : Part.pond ∈ f.parts) (hp_engines : Part.engines ∈ f.parts) (hp_basins : Part.basins ∈ f.parts) (hp_ports : Part.ports ∈ f.parts) (hp_chans : Part.chans ∈ f.parts) (hp_svc : Part.svc ∈ f.parts) (hp_pwr : Part.pwr ∈ f.parts) (hp_bead : Part.bead ∈ f.parts) (hr_DROP_SCHED : ∀ n, f.regs (.DROP_SCHED n) = true) (hr_DROP_STATUS : ∀ n, f.regs (.DROP_STATUS n) = true) (hr_GLB_FAULT : f.regs .GLB_FAULT = true) (hr_HOLDER_USED : ∀ n, f.regs (.HOLDER_USED n) = true) (hr_PD_STATUS : ∀ n, f.regs (.PD_STATUS n) = true) (hr_PD_VOUT : ∀ n, f.regs (.PD_VOUT n) = true) (hr_POND_FREE : f.regs .POND_FREE = true) (hr_POND_STATUS : f.regs .POND_STATUS = true) (hr_POND_WAIT : f.regs .POND_WAIT = true) (hr_PWR_STATUS : f.regs .PWR_STATUS = true) (hr_PWR_WAKE_CAUSE : f.regs .PWR_WAKE_CAUSE = true) (hr_SVC_STATUS : f.regs .SVC_STATUS = true) :
    Fr f a (Chip.trip c n_ cause_ point_ peak_) := by
  unfold Chip.trip
  repeat' first
    | with_reducible assumption
    | with_reducible exact hr_DROP_SCHED _
    | with_reducible exact hr_DROP_STATUS _
    | with_reducible exact hr_HOLDER_USED _
    | with_reducible exact hr_PD_STATUS _
    | with_reducible exact hr_PD_VOUT _
    | with_reducible apply Chip.updCh_fr
    | with_reducible apply Chip.tripExplains_fr
    | with_reducible apply Chip.postTrip_fr
    | with_reducible apply Chip.powerLost_fr
    | with_reducible apply Chip.pdStop_fr
    | intro _
    | split
    | (extract_lets +onlyGivenNames x; refine (fun hx : Fr f a x => ?_) ?_; (on_goal 1 => clear_value x); (on_goal 2 => subst x))
    | (extract_lets +onlyGivenNames x; refine (fun hx : Fr f a x.2 => ?_) ?_; (on_goal 1 => clear_value x); (on_goal 2 => subst x))
    | (extract_lets +onlyGivenNames x; clear_value x)
    | dsimp only

theorem Chip.evRailBlocked_fr {f : Frame} {a c : Chip} {j_} {on_} (h : Fr f a c) (hp_doors : Part.doors ∈ f.parts) :
    Fr f a (Chip.evRailBlocked c j_ on_) := by
  unfold Chip.evRailBlocked
  repeat' first
    | with_reducible assumption
    | with_reducible apply Chip.post_fr
    | intro _
    | split
    | (extract_lets +onlyGivenNames x; refine (fun hx : Fr f a x => ?_) ?_; (on_goal 1 => clear_value x); (on_goal 2 => subst x))
    | (extract_lets +onlyGivenNames x; refine (fun hx : Fr f a x.2 => ?_) ?_; (on_goal 1 => clear_value x); (on_goal 2 => subst x))
    | (extract_lets +onlyGivenNames x; clear_value x)
    | dsimp only

theorem Chip.holdTrip_fr {f : Frame} {a c : Chip} {n_} (h : Fr f a c) (hp_clk : Part.clk ∈ f.parts) (hp_trunk : Part.trunk ∈ f.parts) (hp_doors : Part.doors ∈ f.parts) (hp_reqs : Part.reqs ∈ f.parts) (hp_rates : Part.rates ∈ f.parts) (hp_pond : Part.pond ∈ f.parts) (hp_engines : Part.engines ∈ f.parts) (hp_basins : Part.basins ∈ f.parts) (hp_ports : Part.ports ∈ f.parts) (hp_chans : Part.chans ∈ f.parts) (hp_rails : Part.rails ∈ f.parts) (hp_svc : Part.svc ∈ f.parts) (hp_pwr : Part.pwr ∈ f.parts) (hp_bead : Part.bead ∈ f.parts) (hr_DROP_SCHED : ∀ n, f.regs (.DROP_SCHED n) = true) (hr_DROP_STATUS : ∀ n, f.regs (.DROP_STATUS n) = true) (hr_ESC_LAST : f.regs .ESC_LAST = true) (hr_GLB_FAULT : f.regs .GLB_FAULT = true) (hr_HOLDER_USED : ∀ n, f.regs (.HOLDER_USED n) = true) (hr_PD_STATUS : ∀ n, f.regs (.PD_STATUS n) = true) (hr_PD_VOUT : ∀ n, f.regs (.PD_VOUT n) = true) (hr_POND_FREE : f.regs .POND_FREE = true) (hr_POND_STATUS : f.regs .POND_STATUS = true) (hr_POND_WAIT : f.regs .POND_WAIT = true) (hr_PWR_STATUS : f.regs .PWR_STATUS = true) (hr_PWR_WAKE_CAUSE : f.regs .PWR_WAKE_CAUSE = true) (hr_SVC_STATUS : f.regs .SVC_STATUS = true) :
    Fr f a (Chip.holdTrip c n_) := by
  unfold Chip.holdTrip
  repeat' first
    | with_reducible assumption
    | with_reducible exact hr_DROP_SCHED _
    | with_reducible exact hr_DROP_STATUS _
    | with_reducible exact hr_HOLDER_USED _
    | with_reducible exact hr_PD_STATUS _
    | with_reducible exact hr_PD_VOUT _
    | with_reducible apply Chip.trip_fr
    | with_reducible apply Chip.updRail_fr
    | with_reducible apply Chip.escalate_fr
    | with_reducible apply Chip.evRailBlocked_fr
    | intro _
    | split
    | (extract_lets +onlyGivenNames x; refine (fun hx : Fr f a x => ?_) ?_; (on_goal 1 => clear_value x); (on_goal 2 => subst x))
    | (extract_lets +onlyGivenNames x; refine (fun hx : Fr f a x.2 => ?_) ?_; (on_goal 1 => clear_value x); (on_goal 2 => subst x))
    | (extract_lets +onlyGivenNames x; clear_value x)
    | dsimp only

theorem Chip.retry_fr {f : Frame} {a c : Chip} {n_} (h : Fr f a c) (hp_doors : Part.doors ∈ f.parts) (hp_chans : Part.chans ∈ f.parts) (hr_PD_STATUS : ∀ n, f.regs (.PD_STATUS n) = true) :
    Fr f a (Chip.retry c n_) := by
  unfold Chip.retry
  repeat' first
    | with_reducible assumption
    | with_reducible exact hr_PD_STATUS _
    | with_reducible apply Chip.updCh_fr
    | with_reducible apply Chip.post_fr
    | with_reducible apply Chip.startInrush_fr
    | intro _
    | split
    | (extract_lets +onlyGivenNames x; refine (fun hx : Fr f a x => ?_) ?_; (on_goal 1 => clear_value x); (on_goal 2 => subst x))
    | (extract_lets +onlyGivenNames x; refine (fun hx : Fr f a x.2 => ?_) ?_; (on_goal 1 => clear_value x); (on_goal 2 => subst x))
    | (extract_lets +onlyGivenNames x; clear_value x)
    | dsimp only

theorem Chip.railWaiters_fr {f : Frame} {a c : Chip} {j_} (h : Fr f a c) (hp_doors : Part.doors ∈ f.parts) (hp_chans : Part.chans ∈ f.parts) (hr_PD_STATUS : ∀ n, f.regs (.PD_STATUS n) = true) :
    Fr f a (Chip.railWaiters c j_) := by
  unfold Chip.railWaiters
  repeat' first
    | with_reducible assumption
    | with_reducible exact hr_PD_STATUS _
    | with_reducible apply Fr.each
    | with_reducible apply Chip.retry_fr
    | with_reducible apply Chip.chOn_fr
    | with_reducible apply Chip.startInrush_fr
    | intro _
    | split
    | (extract_lets +onlyGivenNames x; refine (fun hx : Fr f a x => ?_) ?_; (on_goal 1 => clear_value x); (on_goal 2 => subst x))
    | (extract_lets +onlyGivenNames x; refine (fun hx : Fr f a x.2 => ?_) ?_; (on_goal 1 => clear_value x); (on_goal 2 => subst x))
    | (extract_lets +onlyGivenNames x; clear_value x)
    | dsimp only

theorem Chip.enterHold_fr {f : Frame} {a c : Chip} {n_} (h : Fr f a c) (hp_chans : Part.chans ∈ f.parts) :
    Fr f a (Chip.enterHold c n_) := by
  unfold Chip.enterHold
  repeat' first
    | with_reducible assumption
    | with_reducible apply Chip.updCh_fr
    | with_reducible apply Chip.regulate_fr
    | with_reducible apply Chip.holdBegins_fr
    | intro _
    | split
    | (extract_lets +onlyGivenNames x; refine (fun hx : Fr f a x => ?_) ?_; (on_goal 1 => clear_value x); (on_goal 2 => subst x))
    | (extract_lets +onlyGivenNames x; refine (fun hx : Fr f a x.2 => ?_) ?_; (on_goal 1 => clear_value x); (on_goal 2 => subst x))
    | (extract_lets +onlyGivenNames x; clear_value x)
    | dsimp only

theorem Chip.leaveHold_fr {f : Frame} {a c : Chip} {n_} (h : Fr f a c) (hp_doors : Part.doors ∈ f.parts) (hp_chans : Part.chans ∈ f.parts) :
    Fr f a (Chip.leaveHold c n_) := by
  unfold Chip.leaveHold
  repeat' first
    | with_reducible assumption
    | with_reducible apply Chip.updCh_fr
    | with_reducible apply Chip.post_fr
    | with_reducible apply Chip.regulate_fr
    | intro _
    | split
    | (extract_lets +onlyGivenNames x; refine (fun hx : Fr f a x => ?_) ?_; (on_goal 1 => clear_value x); (on_goal 2 => subst x))
    | (extract_lets +onlyGivenNames x; refine (fun hx : Fr f a x.2 => ?_) ?_; (on_goal 1 => clear_value x); (on_goal 2 => subst x))
    | (extract_lets +onlyGivenNames x; clear_value x)
    | dsimp only

theorem Chip.chCmd_fr {f : Frame} {a c : Chip} {n_} {v_} (h : Fr f a c) (hp_trunk : Part.trunk ∈ f.parts) (hp_doors : Part.doors ∈ f.parts) (hp_reqs : Part.reqs ∈ f.parts) (hp_rates : Part.rates ∈ f.parts) (hp_pond : Part.pond ∈ f.parts) (hp_engines : Part.engines ∈ f.parts) (hp_basins : Part.basins ∈ f.parts) (hp_ports : Part.ports ∈ f.parts) (hp_chans : Part.chans ∈ f.parts) (hp_svc : Part.svc ∈ f.parts) (hp_pwr : Part.pwr ∈ f.parts) (hr_CH_CMD : ∀ n, f.regs (.CH_CMD n) = true) (hr_DROP_SCHED : ∀ n, f.regs (.DROP_SCHED n) = true) (hr_DROP_STATUS : ∀ n, f.regs (.DROP_STATUS n) = true) (hr_HOLDER_USED : ∀ n, f.regs (.HOLDER_USED n) = true) (hr_PD_STATUS : ∀ n, f.regs (.PD_STATUS n) = true) (hr_PD_VOUT : ∀ n, f.regs (.PD_VOUT n) = true) (hr_POND_FREE : f.regs .POND_FREE = true) (hr_POND_STATUS : f.regs .POND_STATUS = true) (hr_POND_WAIT : f.regs .POND_WAIT = true) (hr_PWR_STATUS : f.regs .PWR_STATUS = true) (hr_SVC_STATUS : f.regs .SVC_STATUS = true) :
    Fr f a (Chip.chCmd c n_ v_) := by
  unfold Chip.chCmd
  repeat' first
    | with_reducible assumption
    | with_reducible exact hr_CH_CMD _
    | with_reducible exact hr_DROP_SCHED _
    | with_reducible exact hr_DROP_STATUS _
    | with_reducible exact hr_HOLDER_USED _
    | with_reducible exact hr_PD_STATUS _
    | with_reducible exact hr_PD_VOUT _
    | with_reducible apply Chip.chOff_fr
    | with_reducible apply Fr.wr
    | with_reducible apply Chip.setProfile_fr
    | with_reducible apply Chip.chOn_fr
    | intro _
    | split
    | (extract_lets +onlyGivenNames x; refine (fun hx : Fr f a x => ?_) ?_; (on_goal 1 => clear_value x); (on_goal 2 => subst x))
    | (extract_lets +onlyGivenNames x; refine (fun hx : Fr f a x.2 => ?_) ?_; (on_goal 1 => clear_value x); (on_goal 2 => subst x))
    | (extract_lets +onlyGivenNames x; clear_value x)
    | dsimp only

theorem Chip.applyFuse_fr {f : Frame} {a c : Chip} {r_} {v_} {m_} (h : Fr f a c) (hp_fl : Part.fl ∈ f.parts) (hp_trunk : Part.trunk ∈ f.parts) (hp_doors : Part.doors ∈ f.parts) (hp_reqs : Part.reqs ∈ f.parts) (hp_rates : Part.rates ∈ f.parts) (hp_pond : Part.pond ∈ f.parts) (hp_engines : Part.engines ∈ f.parts) (hp_basins : Part.basins ∈ f.parts) (hp_ports : Part.ports ∈ f.parts) (hp_chans : Part.chans ∈ f.parts) (hp_svc : Part.svc ∈ f.parts) (hp_pwr : Part.pwr ∈ f.parts) (hp_fab : Part.fab ∈ f.parts) (hall : ∀ r, f.regs r = true) :
    Fr f a (Chip.applyFuse c r_ v_ m_) := by
  unfold Chip.applyFuse
  repeat' first
    | with_reducible assumption
    | with_reducible exact hall _
    | with_reducible exact fun _ => hall _
    | with_reducible exact fun _ _ => hall _
    | with_reducible apply Chip.keepStale_fr
    | with_reducible apply Chip.chCmd_fr
    | with_reducible apply Chip.wrRW_fr
    | with_reducible apply Chip.clampSync_fr
    | with_reducible apply Chip.updChan_fr
    | with_reducible apply Chip.setF_fr
    | intro _
    | split
    | (extract_lets +onlyGivenNames x; refine (fun hx : Fr f a x => ?_) ?_; (on_goal 1 => clear_value x); (on_goal 2 => subst x))
    | (extract_lets +onlyGivenNames x; refine (fun hx : Fr f a x.2 => ?_) ?_; (on_goal 1 => clear_value x); (on_goal 2 => subst x))
    | (extract_lets +onlyGivenNames x; clear_value x)
    | dsimp only

theorem Chip.fuseWrite_fr {f : Frame} {a c : Chip} {r_} {v_} {m_} (h : Fr f a c) (hp_fl : Part.fl ∈ f.parts) (hall : ∀ r, f.regs r = true) :
    Fr f a (Chip.fuseWrite c r_ v_ m_) := by
  unfold Chip.fuseWrite
  repeat' first
    | with_reducible assumption
    | with_reducible exact hall _
    | with_reducible exact fun _ => hall _
    | with_reducible exact fun _ _ => hall _
    | with_reducible apply Chip.updFl_fr
    | intro _
    | split
    | (extract_lets +onlyGivenNames x; refine (fun hx : Fr f a x => ?_) ?_; (on_goal 1 => clear_value x); (on_goal 2 => subst x))
    | (extract_lets +onlyGivenNames x; refine (fun hx : Fr f a x.2 => ?_) ?_; (on_goal 1 => clear_value x); (on_goal 2 => subst x))
    | (extract_lets +onlyGivenNames x; clear_value x)
    | dsimp only

theorem Chip.fuseTake_fr {f : Frame} {a c : Chip} {d_} {k_} (h : Fr f a c) (hp_fl : Part.fl ∈ f.parts) (hp_trunk : Part.trunk ∈ f.parts) (hp_doors : Part.doors ∈ f.parts) (hp_reqs : Part.reqs ∈ f.parts) (hp_rates : Part.rates ∈ f.parts) (hp_pond : Part.pond ∈ f.parts) (hp_engines : Part.engines ∈ f.parts) (hp_basins : Part.basins ∈ f.parts) (hp_ports : Part.ports ∈ f.parts) (hp_chans : Part.chans ∈ f.parts) (hp_svc : Part.svc ∈ f.parts) (hp_pwr : Part.pwr ∈ f.parts) (hp_fab : Part.fab ∈ f.parts) (hall : ∀ r, f.regs r = true) :
    Fr f a (Chip.fuseTake c d_ k_) := by
  unfold Chip.fuseTake
  repeat' first
    | with_reducible assumption
    | with_reducible exact hall _
    | with_reducible exact fun _ => hall _
    | with_reducible exact fun _ _ => hall _
    | with_reducible apply Chip.updFl_fr
    | with_reducible apply Fr.each
    | with_reducible apply Chip.applyFuse_fr
    | with_reducible apply Chip.pendFell_fr
    | intro _
    | split
    | (extract_lets +onlyGivenNames x; refine (fun hx : Fr f a x => ?_) ?_; (on_goal 1 => clear_value x); (on_goal 2 => subst x))
    | (extract_lets +onlyGivenNames x; refine (fun hx : Fr f a x.2 => ?_) ?_; (on_goal 1 => clear_value x); (on_goal 2 => subst x))
    | (extract_lets +onlyGivenNames x; clear_value x)
    | dsimp only

theorem Chip.fuseNow_fr {f : Frame} {a c : Chip} {r_} {w_} (h : Fr f a c) (hp_fl : Part.fl ∈ f.parts) (hp_trunk : Part.trunk ∈ f.parts) (hp_doors : Part.doors ∈ f.parts) (hp_reqs : Part.reqs ∈ f.parts) (hp_rates : Part.rates ∈ f.parts) (hp_pond : Part.pond ∈ f.parts) (hp_engines : Part.engines ∈ f.parts) (hp_basins : Part.basins ∈ f.parts) (hp_ports : Part.ports ∈ f.parts) (hp_chans : Part.chans ∈ f.parts) (hp_svc : Part.svc ∈ f.parts) (hp_pwr : Part.pwr ∈ f.parts) (hp_fab : Part.fab ∈ f.parts) (hall : ∀ r, f.regs r = true) :
    Fr f a (Chip.fuseNow c r_ w_) := by
  unfold Chip.fuseNow
  repeat' first
    | with_reducible assumption
    | with_reducible exact hall _
    | with_reducible exact fun _ => hall _
    | with_reducible exact fun _ _ => hall _
    | with_reducible apply Chip.fuseWrite_fr
    | with_reducible apply Chip.fuseTake_fr
    | intro _
    | split
    | (extract_lets +onlyGivenNames x; refine (fun hx : Fr f a x => ?_) ?_; (on_goal 1 => clear_value x); (on_goal 2 => subst x))
    | (extract_lets +onlyGivenNames x; refine (fun hx : Fr f a x.2 => ?_) ?_; (on_goal 1 => clear_value x); (on_goal 2 => subst x))
    | (extract_lets +onlyGivenNames x; clear_value x)
    | dsimp only

theorem Chip.mirrorRail_fr {f : Frame} {a c : Chip} {d_} {j_} (h : Fr f a c) (hr_RAIL_MEAS : ∀ n, f.regs (.RAIL_MEAS n) = true) (hr_RAIL_STATUS : ∀ n, f.regs (.RAIL_STATUS n) = true) :
    Fr f a (Chip.mirrorRail c d_ j_) := by
  unfold Chip.mirrorRail
  repeat' first
    | with_reducible assumption
    | with_reducible exact hr_RAIL_MEAS _
    | with_reducible exact hr_RAIL_STATUS _
    | with_reducible apply Chip.setSt_fr
    | with_reducible apply Chip.setF_fr
    | intro _
    | split
    | (extract_lets +onlyGivenNames x; refine (fun hx : Fr f a x => ?_) ?_; (on_goal 1 => clear_value x); (on_goal 2 => subst x))
    | (extract_lets +onlyGivenNames x; refine (fun hx : Fr f a x.2 => ?_) ?_; (on_goal 1 => clear_value x); (on_goal 2 => subst x))
    | (extract_lets +onlyGivenNames x; clear_value x)
    | dsimp only

theorem Chip.railsRun_fr {f : Frame} {a c : Chip}  (h : Fr f a c) (hp_rails : Part.rails ∈ f.parts) :
    Fr f a (Chip.railsRun c) := by
  unfold Chip.railsRun
  repeat' first
    | with_reducible assumption
    | with_reducible apply Fr.each
    | with_reducible apply Chip.updRail_fr
    | intro _
    | split
    | (extract_lets +onlyGivenNames x; refine (fun hx : Fr f a x => ?_) ?_; (on_goal 1 => clear_value x); (on_goal 2 => subst x))
    | (extract_lets +onlyGivenNames x; refine (fun hx : Fr f a x.2 => ?_) ?_; (on_goal 1 => clear_value x); (on_goal 2 => subst x))
    | (extract_lets +onlyGivenNames x; clear_value x)
    | dsimp only

theorem Chip.railDiffer_fr {f : Frame} {a c : Chip} {j_} (h : Fr f a c) (hp_rails : Part.rails ∈ f.parts) :
    Fr f a (Chip.railDiffer c j_) := by
  unfold Chip.railDiffer
  repeat' first
    | with_reducible assumption
    | with_reducible apply Chip.updRail_fr
    | intro _
    | split
    | (extract_lets +onlyGivenNames x; refine (fun hx : Fr f a x => ?_) ?_; (on_goal 1 => clear_value x); (on_goal 2 => subst x))
    | (extract_lets +onlyGivenNames x; refine (fun hx : Fr f a x.2 => ?_) ?_; (on_goal 1 => clear_value x); (on_goal 2 => subst x))
    | (extract_lets +onlyGivenNames x; clear_value x)
    | dsimp only

theorem Chip.mirrorDie_fr {f : Frame} {a c : Chip} {d_} (h : Fr f a c) (hp_fl : Part.fl ∈ f.parts) (hp_rails : Part.rails ∈ f.parts) (hr_CH_MEAS : ∀ n, f.regs (.CH_MEAS n) = true) (hr_CH_STATUS : ∀ n, f.regs (.CH_STATUS n) = true) (hr_RAIL_MEAS : ∀ n, f.regs (.RAIL_MEAS n) = true) (hr_RAIL_STATUS : ∀ n, f.regs (.RAIL_STATUS n) = true) :
    Fr f a (Chip.mirrorDie c d_) := by
  unfold Chip.mirrorDie
  repeat' first
    | with_reducible assumption
    | with_reducible exact hr_CH_MEAS _
    | with_reducible exact hr_CH_STATUS _
    | with_reducible exact hr_RAIL_MEAS _
    | with_reducible exact hr_RAIL_STATUS _
    | with_reducible apply Chip.updFl_fr
    | with_reducible apply Chip.railsRun_fr
    | with_reducible apply Fr.each
    | with_reducible apply Chip.mirrorCh_fr
    | with_reducible apply Chip.railDiffer_fr
    | with_reducible apply Chip.mirrorRail_fr
    | intro _
    | split
    | (extract_lets +onlyGivenNames x; refine (fun hx : Fr f a x => ?_) ?_; (on_goal 1 => clear_value x); (on_goal 2 => subst x))
    | (extract_lets +onlyGivenNames x; refine (fun hx : Fr f a x.2 => ?_) ?_; (on_goal 1 => clear_value x); (on_goal 2 => subst x))
    | (extract_lets +onlyGivenNames x; clear_value x)
    | dsimp only

theorem Chip.dieSample_fr {f : Frame} {a c : Chip} {d_} {chs_} {rails_} (h : Fr f a c) (hp_chans : Part.chans ∈ f.parts) (hp_rails : Part.rails ∈ f.parts) :
    Fr f a (Chip.dieSample c d_ chs_ rails_) := by
  unfold Chip.dieSample
  repeat' first
    | with_reducible assumption
    | with_reducible apply Fr.each
    | with_reducible apply Chip.updRail_fr
    | with_reducible apply Chip.updChan_fr
    | with_reducible apply Chip.breakerRun_fr
    | with_reducible apply Chip.regulate_fr
    | intro _
    | split
    | (extract_lets +onlyGivenNames x; refine (fun hx : Fr f a x => ?_) ?_; (on_goal 1 => clear_value x); (on_goal 2 => subst x))
    | (extract_lets +onlyGivenNames x; refine (fun hx : Fr f a x.2 => ?_) ?_; (on_goal 1 => clear_value x); (on_goal 2 => subst x))
    | (extract_lets +onlyGivenNames x; clear_value x)
    | dsimp only

theorem Chip.dieReset_fr {f : Frame} {a c : Chip} {d_} (h : Fr f a c) (hp_fl : Part.fl ∈ f.parts) (hp_trunk : Part.trunk ∈ f.parts) (hp_doors : Part.doors ∈ f.parts) (hp_reqs : Part.reqs ∈ f.parts) (hp_rates : Part.rates ∈ f.parts) (hp_pond : Part.pond ∈ f.parts) (hp_engines : Part.engines ∈ f.parts) (hp_basins : Part.basins ∈ f.parts) (hp_ports : Part.ports ∈ f.parts) (hp_chans : Part.chans ∈ f.parts) (hp_svc : Part.svc ∈ f.parts) (hp_pwr : Part.pwr ∈ f.parts) (hr_CH_CMD : ∀ n, f.regs (.CH_CMD n) = true) (hr_CH_STATUS : ∀ n, f.regs (.CH_STATUS n) = true) (hr_DROP_SCHED : ∀ n, f.regs (.DROP_SCHED n) = true) (hr_DROP_STATUS : ∀ n, f.regs (.DROP_STATUS n) = true) (hr_HOLDER_USED : ∀ n, f.regs (.HOLDER_USED n) = true) (hr_PD_STATUS : ∀ n, f.regs (.PD_STATUS n) = true) (hr_PD_VOUT : ∀ n, f.regs (.PD_VOUT n) = true) (hr_POND_FREE : f.regs .POND_FREE = true) (hr_POND_STATUS : f.regs .POND_STATUS = true) (hr_POND_WAIT : f.regs .POND_WAIT = true) (hr_PWR_STATUS : f.regs .PWR_STATUS = true) (hr_SVC_STATUS : f.regs .SVC_STATUS = true) :
    Fr f a (Chip.dieReset c d_) := by
  unfold Chip.dieReset
  repeat' first
    | with_reducible assumption
    | with_reducible exact hr_CH_CMD _
    | with_reducible exact hr_CH_STATUS _
    | with_reducible exact hr_DROP_SCHED _
    | with_reducible exact hr_DROP_STATUS _
    | with_reducible exact hr_HOLDER_USED _
    | with_reducible exact hr_PD_STATUS _
    | with_reducible exact hr_PD_VOUT _
    | with_reducible apply Chip.dropWrites_fr
    | with_reducible apply Chip.updFl_fr
    | with_reducible apply Fr.each
    | with_reducible apply Fr.wr
    | with_reducible apply Chip.chOff_fr
    | intro _
    | split
    | (extract_lets +onlyGivenNames x; refine (fun hx : Fr f a x => ?_) ?_; (on_goal 1 => clear_value x); (on_goal 2 => subst x))
    | (extract_lets +onlyGivenNames x; refine (fun hx : Fr f a x.2 => ?_) ?_; (on_goal 1 => clear_value x); (on_goal 2 => subst x))
    | (extract_lets +onlyGivenNames x; clear_value x)
    | dsimp only

/-! ### Machine/LineOps.lean -/

theorem Chip.sendUlp_fr {f : Frame} {a c : Chip} {n_} {f_} {use_} (h : Fr f a c) (hp_ports : Part.ports ∈ f.parts) :
    Fr f a (Chip.sendUlp c n_ f_ use_) := by
  unfold Chip.sendUlp
  repeat' first
    | with_reducible assumption
    | with_reducible apply Chip.updLine_fr
    | intro _
    | split
    | (extract_lets +onlyGivenNames x; refine (fun hx : Fr f a x => ?_) ?_; (on_goal 1 => clear_value x); (on_goal 2 => subst x))
    | (extract_lets +onlyGivenNames x; refine (fun hx : Fr f a x.2 => ?_) ?_; (on_goal 1 => clear_value x); (on_goal 2 => subst x))
    | (extract_lets +onlyGivenNames x; clear_value x)
    | dsimp only

theorem Chip.evTxStatus_fr {f : Frame} {a c : Chip} {n_} {d_} {buf_} {st_} {sof_} (h : Fr f a c) (hp_doors : Part.doors ∈ f.parts) :
    Fr f a (Chip.evTxStatus c n_ d_ buf_ st_ sof_) := by
  unfold Chip.evTxStatus
  repeat' first
    | with_reducible assumption
    | with_reducible apply Chip.postOwn_fr
    | intro _
    | split
    | (extract_lets +onlyGivenNames x; refine (fun hx : Fr f a x => ?_) ?_; (on_goal 1 => clear_value x); (on_goal 2 => subst x))
    | (extract_lets +onlyGivenNames x; refine (fun hx : Fr f a x.2 => ?_) ?_; (on_goal 1 => clear_value x); (on_goal 2 => subst x))
    | (extract_lets +onlyGivenNames x; clear_value x)
    | dsimp only

theorem Chip.updNodeBody_fr {f : Frame} {a c : Chip} {n_} {r_} {f_} (h : Fr f a c) (hp_pond : Part.pond ∈ f.parts) (hp_engines : Part.engines ∈ f.parts) :
    Fr f a (Chip.updNodeBody c n_ r_ f_) := by
  unfold Chip.updNodeBody
  repeat' first
    | with_reducible assumption
    | with_reducible apply Chip.engWrite_fr
    | intro _
    | split
    | (extract_lets +onlyGivenNames x; refine (fun hx : Fr f a x => ?_) ?_; (on_goal 1 => clear_value x); (on_goal 2 => subst x))
    | (extract_lets +onlyGivenNames x; refine (fun hx : Fr f a x.2 => ?_) ?_; (on_goal 1 => clear_value x); (on_goal 2 => subst x))
    | (extract_lets +onlyGivenNames x; clear_value x)
    | dsimp only

theorem Chip.updNode_fr {f : Frame} {a c : Chip} {n_} {a_} {f_} (h : Fr f a c) (hp_ports : Part.ports ∈ f.parts) :
    Fr f a (Chip.updNode c n_ a_ f_) := by
  unfold Chip.updNode
  repeat' first
    | with_reducible assumption
    | with_reducible apply Chip.updLine_fr
    | intro _
    | split
    | (extract_lets +onlyGivenNames x; refine (fun hx : Fr f a x => ?_) ?_; (on_goal 1 => clear_value x); (on_goal 2 => subst x))
    | (extract_lets +onlyGivenNames x; refine (fun hx : Fr f a x.2 => ?_) ?_; (on_goal 1 => clear_value x); (on_goal 2 => subst x))
    | (extract_lets +onlyGivenNames x; clear_value x)
    | dsimp only

theorem Chip.evRemoved_fr {f : Frame} {a c : Chip} {n_} {a_} {cause_} {late_} (h : Fr f a c) (hp_doors : Part.doors ∈ f.parts) :
    Fr f a (Chip.evRemoved c n_ a_ cause_ late_) := by
  unfold Chip.evRemoved
  repeat' first
    | with_reducible assumption
    | with_reducible apply Chip.post_fr
    | intro _
    | split
    | (extract_lets +onlyGivenNames x; refine (fun hx : Fr f a x => ?_) ?_; (on_goal 1 => clear_value x); (on_goal 2 => subst x))
    | (extract_lets +onlyGivenNames x; refine (fun hx : Fr f a x.2 => ?_) ?_; (on_goal 1 => clear_value x); (on_goal 2 => subst x))
    | (extract_lets +onlyGivenNames x; clear_value x)
    | dsimp only

theorem Chip.answerUlps_fr {f : Frame} {a c : Chip} {us_} {res_} (h : Fr f a c) (hp_trunk : Part.trunk ∈ f.parts) (hp_doors : Part.doors ∈ f.parts) (hp_reqs : Part.reqs ∈ f.parts) (hp_rates : Part.rates ∈ f.parts) :
    Fr f a (Chip.answerUlps c us_ res_) := by
  unfold Chip.answerUlps
  repeat' first
    | with_reducible assumption
    | with_reducible apply Fr.each
    | with_reducible apply Chip.answer_fr
    | intro _
    | split
    | (extract_lets +onlyGivenNames x; refine (fun hx : Fr f a x => ?_) ?_; (on_goal 1 => clear_value x); (on_goal 2 => subst x))
    | (extract_lets +onlyGivenNames x; refine (fun hx : Fr f a x.2 => ?_) ?_; (on_goal 1 => clear_value x); (on_goal 2 => subst x))
    | (extract_lets +onlyGivenNames x; clear_value x)
    | dsimp only

theorem Chip.removeNode_fr {f : Frame} {a c : Chip} {n_} {a_} {cause_} {own_} {req_} (h : Fr f a c) (hp_trunk : Part.trunk ∈ f.parts) (hp_doors : Part.doors ∈ f.parts) (hp_reqs : Part.reqs ∈ f.parts) (hp_rates : Part.rates ∈ f.parts) (hp_pond : Part.pond ∈ f.parts) (hp_engines : Part.engines ∈ f.parts) (hp_ports : Part.ports ∈ f.parts) (hr_HOLDER_USED : ∀ n, f.regs (.HOLDER_USED n) = true) (hr_POND_FREE : f.regs .POND_FREE = true) (hr_POND_STATUS : f.regs .POND_STATUS = true) (hr_POND_WAIT : f.regs .POND_WAIT = true) :
    Fr f a (Chip.removeNode c n_ a_ cause_ own_ req_) := by
  unfold Chip.removeNode
  repeat' first
    | with_reducible assumption
    | with_reducible exact hr_HOLDER_USED _
    | with_reducible apply Chip.bumpNode_fr
    | with_reducible apply Chip.answerUlps_fr
    | with_reducible apply Chip.updLine_fr
    | with_reducible apply Chip.sendUlp_fr
    | with_reducible apply Chip.bulkFree_fr
    | with_reducible apply Chip.freeCtx_fr
    | with_reducible apply Chip.answerOpt_fr
    | with_reducible apply Chip.evRemoved_fr
    | intro _
    | split
    | (extract_lets +onlyGivenNames x; refine (fun hx : Fr f a x => ?_) ?_; (on_goal 1 => clear_value x); (on_goal 2 => subst x))
    | (extract_lets +onlyGivenNames x; refine (fun hx : Fr f a x.2 => ?_) ?_; (on_goal 1 => clear_value x); (on_goal 2 => subst x))
    | (extract_lets +onlyGivenNames x; clear_value x)
    | dsimp only

theorem Chip.sendAssign_fr {f : Frame} {a c : Chip} {n_} {serial_} {a_} (h : Fr f a c) (hp_ports : Part.ports ∈ f.parts) :
    Fr f a (Chip.sendAssign c n_ serial_ a_) := by
  unfold Chip.sendAssign
  repeat' first
    | with_reducible assumption
    | with_reducible apply Chip.sendUlp_fr
    | intro _
    | split
    | (extract_lets +onlyGivenNames x; refine (fun hx : Fr f a x => ?_) ?_; (on_goal 1 => clear_value x); (on_goal 2 => subst x))
    | (extract_lets +onlyGivenNames x; refine (fun hx : Fr f a x.2 => ?_) ?_; (on_goal 1 => clear_value x); (on_goal 2 => subst x))
    | (extract_lets +onlyGivenNames x; clear_value x)
    | dsimp only

theorem Chip.assignNode_fr {f : Frame} {a c : Chip} {n_} {serial_} {a_} {tick_} {restart_} (h : Fr f a c) (hp_doors : Part.doors ∈ f.parts) (hp_rates : Part.rates ∈ f.parts) (hp_pond : Part.pond ∈ f.parts) (hp_engines : Part.engines ∈ f.parts) (hp_ports : Part.ports ∈ f.parts) (hr_HOLDER_USED : ∀ n, f.regs (.HOLDER_USED n) = true) (hr_POND_FREE : f.regs .POND_FREE = true) (hr_POND_STATUS : f.regs .POND_STATUS = true) :
    Fr f a (Chip.assignNode c n_ serial_ a_ tick_ restart_) := by
  unfold Chip.assignNode
  repeat' first
    | with_reducible assumption
    | with_reducible exact hr_HOLDER_USED _
    | with_reducible refine Chip.alloc_fr ‹_› ?_ ?_ ?_ ?_ ?_ ?_ ?_
    | with_reducible apply Chip.alloc_fr2
    | with_reducible apply Chip.engWrite_fr
    | with_reducible apply Chip.updLine_fr
    | with_reducible apply Chip.bumpNode_fr
    | with_reducible apply Chip.sendAssign_fr
    | with_reducible apply Chip.postRate_fr
    | with_reducible refine Fr.ofIte ‹_› ?_ ?_
    | intro _
    | split
    | (extract_lets +onlyGivenNames x; refine (fun hx : Fr f a x => ?_) ?_; (on_goal 1 => clear_value x); (on_goal 2 => subst x))
    | (extract_lets +onlyGivenNames x; refine (fun hx : Fr f a x.2 => ?_) ?_; (on_goal 1 => clear_value x); (on_goal 2 => subst x))
    | (extract_lets +onlyGivenNames x; clear_value x)
    | dsimp only

theorem Chip.claimNode_fr {f : Frame} {a c : Chip} {n_} {serial_} {tick_} (h : Fr f a c) (hp_trunk : Part.trunk ∈ f.parts) (hp_doors : Part.doors ∈ f.parts) (hp_reqs : Part.reqs ∈ f.parts) (hp_rates : Part.rates ∈ f.parts) (hp_pond : Part.pond ∈ f.parts) (hp_engines : Part.engines ∈ f.parts) (hp_ports : Part.ports ∈ f.parts) (hr_HOLDER_USED : ∀ n, f.regs (.HOLDER_USED n) = true) (hr_POND_FREE : f.regs .POND_FREE = true) (hr_POND_STATUS : f.regs .POND_STATUS = true) (hr_POND_WAIT : f.regs .POND_WAIT = true) :
    Fr f a (Chip.claimNode c n_ serial_ tick_) := by
  unfold Chip.claimNode
  repeat' first
    | with_reducible assumption
    | with_reducible exact hr_HOLDER_USED _
    | with_reducible apply Chip.assignNode_fr
    | with_reducible apply Chip.removeNode_fr
    | with_reducible apply Chip.post_fr
    | intro _
    | split
    | (extract_lets +onlyGivenNames x; refine (fun hx : Fr f a x => ?_) ?_; (on_goal 1 => clear_value x); (on_goal 2 => subst x))
    | (extract_lets +onlyGivenNames x; refine (fun hx : Fr f a x.2 => ?_) ?_; (on_goal 1 => clear_value x); (on_goal 2 => subst x))
    | (extract_lets +onlyGivenNames x; clear_value x)
    | dsimp only

theorem Chip.startUlp_fr {f : Frame} {a c : Chip} {n_} {a_} (h : Fr f a c) (hp_ports : Part.ports ∈ f.parts) :
    Fr f a (Chip.startUlp c n_ a_) := by
  unfold Chip.startUlp
  repeat' first
    | with_reducible assumption
    | with_reducible apply Chip.updNode_fr
    | with_reducible apply Chip.sendUlp_fr
    | intro _
    | split
    | (extract_lets +onlyGivenNames x; refine (fun hx : Fr f a x => ?_) ?_; (on_goal 1 => clear_value x); (on_goal 2 => subst x))
    | (extract_lets +onlyGivenNames x; refine (fun hx : Fr f a x.2 => ?_) ?_; (on_goal 1 => clear_value x); (on_goal 2 => subst x))
    | (extract_lets +onlyGivenNames x; clear_value x)
    | dsimp only

theorem Chip.queueUlp_fr {f : Frame} {a c c' : Chip} {n k u} (e : c.queueUlp n k u = some c') (h : Fr f a c)
    (hp_pond : Part.pond ∈ f.parts) (hp_engines : Part.engines ∈ f.parts) (hp_ports : Part.ports ∈ f.parts) : Fr f a c' := by
  unfold Chip.queueUlp at e
  split at e
  · exact absurd e (by simp)
  · split at e
    · exact absurd e (by simp)
    · simp only [Option.some.injEq] at e
      subst e
      repeat' first
        | assumption
        | exact hr_DROP_STATUS _
        | exact hr_HOLDER_USED _
        | with_reducible apply Chip.startUlp_fr
        | with_reducible apply Chip.updNode_fr
        | with_reducible apply Chip.engWrite_fr
        | split

theorem Chip.writeEnded_fr {f : Frame} {a c : Chip} {n_} {a_} {obj_} (h : Fr f a c) (hp_pond : Part.pond ∈ f.parts) (hp_engines : Part.engines ∈ f.parts) :
    Fr f a (Chip.writeEnded c n_ a_ obj_) := by
  unfold Chip.writeEnded
  repeat' first
    | with_reducible assumption
    | with_reducible apply Chip.engWrite_fr
    | intro _
    | split
    | (extract_lets +onlyGivenNames x; refine (fun hx : Fr f a x => ?_) ?_; (on_goal 1 => clear_value x); (on_goal 2 => subst x))
    | (extract_lets +onlyGivenNames x; refine (fun hx : Fr f a x.2 => ?_) ?_; (on_goal 1 => clear_value x); (on_goal 2 => subst x))
    | (extract_lets +onlyGivenNames x; clear_value x)
    | dsimp only

theorem Chip.pollSync_fr {f : Frame} {a c : Chip} {n_} (h : Fr f a c) (hp_pond : Part.pond ∈ f.parts) (hp_engines : Part.engines ∈ f.parts) :
    Fr f a (Chip.pollSync c n_) := by
  unfold Chip.pollSync
  repeat' first
    | with_reducible assumption
    | with_reducible apply Fr.each
    | with_reducible apply Chip.updNodeBody_fr
    | intro _
    | split
    | (extract_lets +onlyGivenNames x; refine (fun hx : Fr f a x => ?_) ?_; (on_goal 1 => clear_value x); (on_goal 2 => subst x))
    | (extract_lets +onlyGivenNames x; refine (fun hx : Fr f a x.2 => ?_) ?_; (on_goal 1 => clear_value x); (on_goal 2 => subst x))
    | (extract_lets +onlyGivenNames x; clear_value x)
    | dsimp only

theorem Chip.setNodeState_fr {f : Frame} {a c : Chip} {n_} {a_} {st_} {code_} {set_} (h : Fr f a c) (hp_doors : Part.doors ∈ f.parts) (hp_pond : Part.pond ∈ f.parts) (hp_engines : Part.engines ∈ f.parts) (hp_ports : Part.ports ∈ f.parts) :
    Fr f a (Chip.setNodeState c n_ a_ st_ code_ set_) := by
  unfold Chip.setNodeState
  repeat' first
    | with_reducible assumption
    | with_reducible apply Chip.updNodeBody_fr
    | with_reducible apply Chip.updNode_fr
    | with_reducible apply Chip.post_fr
    | intro _
    | split
    | (extract_lets +onlyGivenNames x; refine (fun hx : Fr f a x => ?_) ?_; (on_goal 1 => clear_value x); (on_goal 2 => subst x))
    | (extract_lets +onlyGivenNames x; refine (fun hx : Fr f a x.2 => ?_) ?_; (on_goal 1 => clear_value x); (on_goal 2 => subst x))
    | (extract_lets +onlyGivenNames x; clear_value x)
    | dsimp only

theorem Chip.nodeHeard_fr {f : Frame} {a c : Chip} {n_} {a_} {tick_} (h : Fr f a c) (hp_doors : Part.doors ∈ f.parts) (hp_pond : Part.pond ∈ f.parts) (hp_engines : Part.engines ∈ f.parts) (hp_ports : Part.ports ∈ f.parts) :
    Fr f a (Chip.nodeHeard c n_ a_ tick_) := by
  unfold Chip.nodeHeard
  repeat' first
    | with_reducible assumption
    | with_reducible apply Chip.updNodeBody_fr
    | with_reducible apply Chip.setNodeState_fr
    | intro _
    | split
    | (extract_lets +onlyGivenNames x; refine (fun hx : Fr f a x => ?_) ?_; (on_goal 1 => clear_value x); (on_goal 2 => subst x))
    | (extract_lets +onlyGivenNames x; refine (fun hx : Fr f a x.2 => ?_) ?_; (on_goal 1 => clear_value x); (on_goal 2 => subst x))
    | (extract_lets +onlyGivenNames x; clear_value x)
    | dsimp only

theorem Chip.nodeAnswered_fr {f : Frame} {a c : Chip} {n_} {a_} {late_} (h : Fr f a c) (hp_doors : Part.doors ∈ f.parts) (hp_pond : Part.pond ∈ f.parts) (hp_engines : Part.engines ∈ f.parts) (hp_ports : Part.ports ∈ f.parts) :
    Fr f a (Chip.nodeAnswered c n_ a_ late_) := by
  unfold Chip.nodeAnswered
  repeat' first
    | with_reducible assumption
    | with_reducible apply Chip.updNodeBody_fr
    | with_reducible apply Chip.setNodeState_fr
    | intro _
    | split
    | (extract_lets +onlyGivenNames x; refine (fun hx : Fr f a x => ?_) ?_; (on_goal 1 => clear_value x); (on_goal 2 => subst x))
    | (extract_lets +onlyGivenNames x; refine (fun hx : Fr f a x.2 => ?_) ?_; (on_goal 1 => clear_value x); (on_goal 2 => subst x))
    | (extract_lets +onlyGivenNames x; clear_value x)
    | dsimp only

theorem Chip.nodeMissed_fr {f : Frame} {a c : Chip} {n_} {a_} (h : Fr f a c) (hp_doors : Part.doors ∈ f.parts) (hp_pond : Part.pond ∈ f.parts) (hp_engines : Part.engines ∈ f.parts) (hp_ports : Part.ports ∈ f.parts) :
    Fr f a (Chip.nodeMissed c n_ a_) := by
  unfold Chip.nodeMissed
  repeat' first
    | with_reducible assumption
    | with_reducible apply Chip.updNodeBody_fr
    | with_reducible apply Chip.setNodeState_fr
    | intro _
    | split
    | (extract_lets +onlyGivenNames x; refine (fun hx : Fr f a x => ?_) ?_; (on_goal 1 => clear_value x); (on_goal 2 => subst x))
    | (extract_lets +onlyGivenNames x; refine (fun hx : Fr f a x.2 => ?_) ?_; (on_goal 1 => clear_value x); (on_goal 2 => subst x))
    | (extract_lets +onlyGivenNames x; clear_value x)
    | dsimp only

theorem Chip.rxOverrun_fr {f : Frame} {a c : Chip} {n_} {queue_} (h : Fr f a c) (hp_doors : Part.doors ∈ f.parts) (hp_rates : Part.rates ∈ f.parts) (hr_LINE_CNT : ∀ n, f.regs (.LINE_CNT n) = true) :
    Fr f a (Chip.rxOverrun c n_ queue_) := by
  unfold Chip.rxOverrun
  repeat' first
    | with_reducible assumption
    | with_reducible exact hr_LINE_CNT _
    | with_reducible apply Chip.incSat_fr
    | with_reducible apply Chip.postRate_fr
    | intro _
    | split
    | (extract_lets +onlyGivenNames x; refine (fun hx : Fr f a x => ?_) ?_; (on_goal 1 => clear_value x); (on_goal 2 => subst x))
    | (extract_lets +onlyGivenNames x; refine (fun hx : Fr f a x.2 => ?_) ?_; (on_goal 1 => clear_value x); (on_goal 2 => subst x))
    | (extract_lets +onlyGivenNames x; clear_value x)
    | dsimp only

theorem Chip.rxRecord_fr {f : Frame} {a c : Chip} {n_} {x_} (h : Fr f a c) (hp_doors : Part.doors ∈ f.parts) (hp_rates : Part.rates ∈ f.parts) (hp_engines : Part.engines ∈ f.parts) (hp_basins : Part.basins ∈ f.parts) (hp_svc : Part.svc ∈ f.parts) (hp_pwr : Part.pwr ∈ f.parts) (hr_PWR_STATUS : f.regs .PWR_STATUS = true) :
    Fr f a (Chip.rxRecord c n_ x_) := by
  unfold Chip.rxRecord
  repeat' first
    | with_reducible assumption
    | with_reducible refine Chip.putRec_fr ‹_› ?_ ?_ ?_ ?_ ?_ ?_ ?_ ?_
    | with_reducible apply Chip.putRec_fr2
    | with_reducible refine Fr.ofIte ‹_› ?_ ?_
    | intro _
    | split
    | (extract_lets +onlyGivenNames x; refine (fun hx : Fr f a x => ?_) ?_; (on_goal 1 => clear_value x); (on_goal 2 => subst x))
    | (extract_lets +onlyGivenNames x; refine (fun hx : Fr f a x.2 => ?_) ?_; (on_goal 1 => clear_value x); (on_goal 2 => subst x))
    | (extract_lets +onlyGivenNames x; clear_value x)
    | dsimp only

theorem Chip.rxForeign_fr {f : Frame} {a c : Chip} {n_} {x_} (h : Fr f a c) (hp_doors : Part.doors ∈ f.parts) (hp_rates : Part.rates ∈ f.parts) (hp_engines : Part.engines ∈ f.parts) (hp_basins : Part.basins ∈ f.parts) (hp_ports : Part.ports ∈ f.parts) (hp_svc : Part.svc ∈ f.parts) (hp_pwr : Part.pwr ∈ f.parts) (hr_LINE_CNT : ∀ n, f.regs (.LINE_CNT n) = true) (hr_PWR_STATUS : f.regs .PWR_STATUS = true) :
    Fr f a (Chip.rxForeign c n_ x_) := by
  unfold Chip.rxForeign
  repeat' first
    | with_reducible assumption
    | with_reducible exact hr_LINE_CNT _
    | with_reducible apply Chip.rxRecord_fr
    | with_reducible apply Chip.rxOverrun_fr
    | with_reducible apply Chip.updLine_fr
    | intro _
    | split
    | (extract_lets +onlyGivenNames x; refine (fun hx : Fr f a x => ?_) ?_; (on_goal 1 => clear_value x); (on_goal 2 => subst x))
    | (extract_lets +onlyGivenNames x; refine (fun hx : Fr f a x.2 => ?_) ?_; (on_goal 1 => clear_value x); (on_goal 2 => subst x))
    | (extract_lets +onlyGivenNames x; clear_value x)
    | dsimp only

theorem Chip.rxDrain_fr {f : Frame} {a c : Chip} {n_} (h : Fr f a c) (hp_doors : Part.doors ∈ f.parts) (hp_rates : Part.rates ∈ f.parts) (hp_engines : Part.engines ∈ f.parts) (hp_basins : Part.basins ∈ f.parts) (hp_ports : Part.ports ∈ f.parts) (hp_svc : Part.svc ∈ f.parts) (hp_pwr : Part.pwr ∈ f.parts) (hr_PWR_STATUS : f.regs .PWR_STATUS = true) :
    Fr f a (Chip.rxDrain c n_) := by
  unfold Chip.rxDrain
  repeat' first
    | with_reducible assumption
    | with_reducible apply Chip.updLine_fr
    | with_reducible apply Fr.each
    | with_reducible apply Chip.rxRecord_fr
    | intro _
    | split
    | (extract_lets +onlyGivenNames x; refine (fun hx : Fr f a x => ?_) ?_; (on_goal 1 => clear_value x); (on_goal 2 => subst x))
    | (extract_lets +onlyGivenNames x; refine (fun hx : Fr f a x.2 => ?_) ?_; (on_goal 1 => clear_value x); (on_goal 2 => subst x))
    | (extract_lets +onlyGivenNames x; clear_value x)
    | dsimp only

theorem Chip.stranger_fr {f : Frame} {a c : Chip} {n_} {x_} {cause_} (h : Fr f a c) (hp_doors : Part.doors ∈ f.parts) (hp_rates : Part.rates ∈ f.parts) (hp_engines : Part.engines ∈ f.parts) (hp_basins : Part.basins ∈ f.parts) (hp_ports : Part.ports ∈ f.parts) (hp_svc : Part.svc ∈ f.parts) (hp_pwr : Part.pwr ∈ f.parts) (hr_LINE_CNT : ∀ n, f.regs (.LINE_CNT n) = true) (hr_PWR_STATUS : f.regs .PWR_STATUS = true) :
    Fr f a (Chip.stranger c n_ x_ cause_) := by
  unfold Chip.stranger
  repeat' first
    | with_reducible assumption
    | with_reducible exact hr_LINE_CNT _
    | with_reducible apply Chip.incSat_fr
    | with_reducible apply Chip.rxForeign_fr
    | with_reducible apply Chip.postRate_fr
    | intro _
    | split
    | (extract_lets +onlyGivenNames x; refine (fun hx : Fr f a x => ?_) ?_; (on_goal 1 => clear_value x); (on_goal 2 => subst x))
    | (extract_lets +onlyGivenNames x; refine (fun hx : Fr f a x.2 => ?_) ?_; (on_goal 1 => clear_value x); (on_goal 2 => subst x))
    | (extract_lets +onlyGivenNames x; clear_value x)
    | dsimp only

theorem Chip.startRecovery_fr {f : Frame} {a c : Chip} {n_} (h : Fr f a c) (hp_ports : Part.ports ∈ f.parts) (hr_LINE_ERR : ∀ n, f.regs (.LINE_ERR n) = true) :
    Fr f a (Chip.startRecovery c n_) := by
  unfold Chip.startRecovery
  repeat' first
    | with_reducible assumption
    | with_reducible exact hr_LINE_ERR _
    | with_reducible apply Chip.updLine_fr
    | with_reducible apply Chip.setSt_fr
    | intro _
    | split
    | (extract_lets +onlyGivenNames x; refine (fun hx : Fr f a x => ?_) ?_; (on_goal 1 => clear_value x); (on_goal 2 => subst x))
    | (extract_lets +onlyGivenNames x; refine (fun hx : Fr f a x.2 => ?_) ?_; (on_goal 1 => clear_value x); (on_goal 2 => subst x))
    | (extract_lets +onlyGivenNames x; clear_value x)
    | dsimp only

theorem Chip.warnBits_fr {f : Frame} {a c : Chip} {n_} (h : Fr f a c) (hp_ports : Part.ports ∈ f.parts) (hr_LINE_ERR : ∀ n, f.regs (.LINE_ERR n) = true) :
    Fr f a (Chip.warnBits c n_) := by
  unfold Chip.warnBits
  repeat' first
    | with_reducible assumption
    | with_reducible exact hr_LINE_ERR _
    | with_reducible apply Chip.setSt_fr
    | with_reducible apply Chip.updLine_fr
    | intro _
    | split
    | (extract_lets +onlyGivenNames x; refine (fun hx : Fr f a x => ?_) ?_; (on_goal 1 => clear_value x); (on_goal 2 => subst x))
    | (extract_lets +onlyGivenNames x; refine (fun hx : Fr f a x.2 => ?_) ?_; (on_goal 1 => clear_value x); (on_goal 2 => subst x))
    | (extract_lets +onlyGivenNames x; clear_value x)
    | dsimp only

theorem Chip.setCounters_fr {f : Frame} {a c : Chip} {n_} {tec_} {rec__} (h : Fr f a c) (hp_doors : Part.doors ∈ f.parts) (hp_ports : Part.ports ∈ f.parts) (hr_LINE_ERR : ∀ n, f.regs (.LINE_ERR n) = true) :
    Fr f a (Chip.setCounters c n_ tec_ rec__) := by
  unfold Chip.setCounters
  repeat' first
    | with_reducible assumption
    | with_reducible exact hr_LINE_ERR _
    | with_reducible apply Chip.setF_fr
    | with_reducible apply Chip.updLine_fr
    | with_reducible apply Chip.warnBits_fr
    | with_reducible apply Chip.post_fr
    | intro _
    | split
    | (extract_lets +onlyGivenNames x; refine (fun hx : Fr f a x => ?_) ?_; (on_goal 1 => clear_value x); (on_goal 2 => subst x))
    | (extract_lets +onlyGivenNames x; refine (fun hx : Fr f a x.2 => ?_) ?_; (on_goal 1 => clear_value x); (on_goal 2 => subst x))
    | (extract_lets +onlyGivenNames x; clear_value x)
    | dsimp only

theorem Chip.countErrors_fr {f : Frame} {a c : Chip} {n_} {tec_} {rec__} (h : Fr f a c) (hp_doors : Part.doors ∈ f.parts) (hp_ports : Part.ports ∈ f.parts) (hr_LINE_ERR : ∀ n, f.regs (.LINE_ERR n) = true) :
    Fr f a (Chip.countErrors c n_ tec_ rec__) := by
  unfold Chip.countErrors
  repeat' first
    | with_reducible assumption
    | with_reducible exact hr_LINE_ERR _
    | with_reducible apply Chip.setCounters_fr
    | with_reducible apply Chip.setSt_fr
    | with_reducible apply Chip.post_fr
    | intro _
    | split
    | (extract_lets +onlyGivenNames x; refine (fun hx : Fr f a x => ?_) ?_; (on_goal 1 => clear_value x); (on_goal 2 => subst x))
    | (extract_lets +onlyGivenNames x; refine (fun hx : Fr f a x.2 => ?_) ?_; (on_goal 1 => clear_value x); (on_goal 2 => subst x))
    | (extract_lets +onlyGivenNames x; clear_value x)
    | dsimp only

theorem Chip.busError_fr {f : Frame} {a c : Chip} {n_} {r_} {e_} (h : Fr f a c) (hp_doors : Part.doors ∈ f.parts) (hp_ports : Part.ports ∈ f.parts) (hr_LINE_ERR : ∀ n, f.regs (.LINE_ERR n) = true) :
    Fr f a (Chip.busError c n_ r_ e_) := by
  unfold Chip.busError
  repeat' first
    | with_reducible assumption
    | with_reducible exact hr_LINE_ERR _
    | with_reducible apply Chip.countErrors_fr
    | with_reducible apply Chip.updLine_fr
    | intro _
    | split
    | (extract_lets +onlyGivenNames x; refine (fun hx : Fr f a x => ?_) ?_; (on_goal 1 => clear_value x); (on_goal 2 => subst x))
    | (extract_lets +onlyGivenNames x; refine (fun hx : Fr f a x.2 => ?_) ?_; (on_goal 1 => clear_value x); (on_goal 2 => subst x))
    | (extract_lets +onlyGivenNames x; clear_value x)
    | dsimp only

theorem Chip.goodRx_fr {f : Frame} {a c : Chip} {n_} (h : Fr f a c) (hp_doors : Part.doors ∈ f.parts) (hp_ports : Part.ports ∈ f.parts) (hp_free : Part.free ∈ f.parts) (hr_LINE_ERR : ∀ n, f.regs (.LINE_ERR n) = true) :
    Fr f a (Chip.goodRx c n_) := by
  unfold Chip.goodRx
  repeat' first
    | with_reducible assumption
    | with_reducible exact hr_LINE_ERR _
    | with_reducible apply Chip.countErrors_fr
    | with_reducible refine Chip.draw_fr ‹_› ?_ ?_
    | with_reducible apply Chip.draw_fr2
    | with_reducible refine Fr.ofIte ‹_› ?_ ?_
    | intro _
    | split
    | (extract_lets +onlyGivenNames x; refine (fun hx : Fr f a x => ?_) ?_; (on_goal 1 => clear_value x); (on_goal 2 => subst x))
    | (extract_lets +onlyGivenNames x; refine (fun hx : Fr f a x.2 => ?_) ?_; (on_goal 1 => clear_value x); (on_goal 2 => subst x))
    | (extract_lets +onlyGivenNames x; clear_value x)
    | dsimp only

theorem Chip.goodTx_fr {f : Frame} {a c : Chip} {n_} (h : Fr f a c) (hp_doors : Part.doors ∈ f.parts) (hp_ports : Part.ports ∈ f.parts) (hr_LINE_ERR : ∀ n, f.regs (.LINE_ERR n) = true) :
    Fr f a (Chip.goodTx c n_) := by
  unfold Chip.goodTx
  repeat' first
    | with_reducible assumption
    | with_reducible exact hr_LINE_ERR _
    | with_reducible apply Chip.countErrors_fr
    | intro _
    | split
    | (extract_lets +onlyGivenNames x; refine (fun hx : Fr f a x => ?_) ?_; (on_goal 1 => clear_value x); (on_goal 2 => subst x))
    | (extract_lets +onlyGivenNames x; refine (fun hx : Fr f a x.2 => ?_) ?_; (on_goal 1 => clear_value x); (on_goal 2 => subst x))
    | (extract_lets +onlyGivenNames x; clear_value x)
    | dsimp only

theorem Chip.tdcOn_fr {f : Frame} {a c : Chip} {n_} (h : Fr f a c) (hr_LINE_TDC : ∀ n, f.regs (.LINE_TDC n) = true) :
    Fr f a (Chip.tdcOn c n_) := by
  unfold Chip.tdcOn
  repeat' first
    | with_reducible assumption
    | with_reducible exact hr_LINE_TDC _
    | with_reducible apply Chip.setB_fr
    | intro _
    | split
    | (extract_lets +onlyGivenNames x; refine (fun hx : Fr f a x => ?_) ?_; (on_goal 1 => clear_value x); (on_goal 2 => subst x))
    | (extract_lets +onlyGivenNames x; refine (fun hx : Fr f a x.2 => ?_) ?_; (on_goal 1 => clear_value x); (on_goal 2 => subst x))
    | (extract_lets +onlyGivenNames x; clear_value x)
    | dsimp only

theorem Chip.applyTiming_fr {f : Frame} {a c : Chip} {n_} {t_} (h : Fr f a c) (hp_trunk : Part.trunk ∈ f.parts) (hp_doors : Part.doors ∈ f.parts) (hp_reqs : Part.reqs ∈ f.parts) (hp_rates : Part.rates ∈ f.parts) (hp_ports : Part.ports ∈ f.parts) (hp_fab : Part.fab ∈ f.parts) (hr_LINE_CTL : ∀ n, f.regs (.LINE_CTL n) = true) (hr_LINE_DBT : ∀ n, f.regs (.LINE_DBT n) = true) (hr_LINE_NBT : ∀ n, f.regs (.LINE_NBT n) = true) (hr_LINE_TDC : ∀ n, f.regs (.LINE_TDC n) = true) :
    Fr f a (Chip.applyTiming c n_ t_) := by
  unfold Chip.applyTiming
  repeat' first
    | with_reducible assumption
    | with_reducible exact hr_LINE_CTL _
    | with_reducible exact hr_LINE_DBT _
    | with_reducible exact hr_LINE_NBT _
    | with_reducible exact hr_LINE_TDC _
    | with_reducible apply Chip.wrRW_fr
    | with_reducible apply Chip.setB_fr
    | with_reducible apply Chip.updLine_fr
    | with_reducible apply Chip.tdcOn_fr
    | with_reducible apply Fr.each
    | with_reducible apply Chip.answer_fr
    | intro _
    | split
    | (extract_lets +onlyGivenNames x; refine (fun hx : Fr f a x => ?_) ?_; (on_goal 1 => clear_value x); (on_goal 2 => subst x))
    | (extract_lets +onlyGivenNames x; refine (fun hx : Fr f a x.2 => ?_) ?_; (on_goal 1 => clear_value x); (on_goal 2 => subst x))
    | (extract_lets +onlyGivenNames x; clear_value x)
    | dsimp only

theorem Chip.askTiming_fr {f : Frame} {a c : Chip} {n_} {t_} (h : Fr f a c) (hp_trunk : Part.trunk ∈ f.parts) (hp_doors : Part.doors ∈ f.parts) (hp_reqs : Part.reqs ∈ f.parts) (hp_rates : Part.rates ∈ f.parts) (hp_ports : Part.ports ∈ f.parts) (hp_fab : Part.fab ∈ f.parts) (hr_LINE_CTL : ∀ n, f.regs (.LINE_CTL n) = true) (hr_LINE_DBT : ∀ n, f.regs (.LINE_DBT n) = true) (hr_LINE_NBT : ∀ n, f.regs (.LINE_NBT n) = true) (hr_LINE_TDC : ∀ n, f.regs (.LINE_TDC n) = true) :
    Fr f a (Chip.askTiming c n_ t_) := by
  unfold Chip.askTiming
  repeat' first
    | with_reducible assumption
    | with_reducible exact hr_LINE_CTL _
    | with_reducible exact hr_LINE_DBT _
    | with_reducible exact hr_LINE_NBT _
    | with_reducible exact hr_LINE_TDC _
    | with_reducible apply Chip.updLine_fr
    | with_reducible apply Chip.applyTiming_fr
    | intro _
    | split
    | (extract_lets +onlyGivenNames x; refine (fun hx : Fr f a x => ?_) ?_; (on_goal 1 => clear_value x); (on_goal 2 => subst x))
    | (extract_lets +onlyGivenNames x; refine (fun hx : Fr f a x.2 => ?_) ?_; (on_goal 1 => clear_value x); (on_goal 2 => subst x))
    | (extract_lets +onlyGivenNames x; clear_value x)
    | dsimp only

theorem Chip.applyTimingDue_fr {f : Frame} {a c : Chip} {n_} (h : Fr f a c) (hp_trunk : Part.trunk ∈ f.parts) (hp_doors : Part.doors ∈ f.parts) (hp_reqs : Part.reqs ∈ f.parts) (hp_rates : Part.rates ∈ f.parts) (hp_ports : Part.ports ∈ f.parts) (hp_fab : Part.fab ∈ f.parts) (hr_LINE_CTL : ∀ n, f.regs (.LINE_CTL n) = true) (hr_LINE_DBT : ∀ n, f.regs (.LINE_DBT n) = true) (hr_LINE_NBT : ∀ n, f.regs (.LINE_NBT n) = true) (hr_LINE_TDC : ∀ n, f.regs (.LINE_TDC n) = true) :
    Fr f a (Chip.applyTimingDue c n_) := by
  unfold Chip.applyTimingDue
  repeat' first
    | with_reducible assumption
    | with_reducible exact hr_LINE_CTL _
    | with_reducible exact hr_LINE_DBT _
    | with_reducible exact hr_LINE_NBT _
    | with_reducible exact hr_LINE_TDC _
    | with_reducible apply Chip.applyTiming_fr
    | intro _
    | split
    | (extract_lets +onlyGivenNames x; refine (fun hx : Fr f a x => ?_) ?_; (on_goal 1 => clear_value x); (on_goal 2 => subst x))
    | (extract_lets +onlyGivenNames x; refine (fun hx : Fr f a x.2 => ?_) ?_; (on_goal 1 => clear_value x); (on_goal 2 => subst x))
    | (extract_lets +onlyGivenNames x; clear_value x)
    | dsimp only

theorem Chip.finishHostTx_fr {f : Frame} {a c : Chip} {n_} {i_} {st_} {err_} {b_} (h : Fr f a c) (hp_doors : Part.doors ∈ f.parts) (hp_ports : Part.ports ∈ f.parts) :
    Fr f a (Chip.finishHostTx c n_ i_ st_ err_ b_) := by
  unfold Chip.finishHostTx
  repeat' first
    | with_reducible assumption
    | with_reducible apply Chip.updLine_fr
    | with_reducible apply Chip.postOwn_fr
    | intro _
    | split
    | (extract_lets +onlyGivenNames x; refine (fun hx : Fr f a x => ?_) ?_; (on_goal 1 => clear_value x); (on_goal 2 => subst x))
    | (extract_lets +onlyGivenNames x; refine (fun hx : Fr f a x.2 => ?_) ?_; (on_goal 1 => clear_value x); (on_goal 2 => subst x))
    | (extract_lets +onlyGivenNames x; clear_value x)
    | dsimp only

theorem Chip.fixEdge_fr {f : Frame} {a c : Chip} {n_} (h : Fr f a c) (hp_ports : Part.ports ∈ f.parts) (hp_free : Part.free ∈ f.parts) :
    Fr f a (Chip.fixEdge c n_) := by
  unfold Chip.fixEdge
  repeat' first
    | with_reducible assumption
    | with_reducible refine Chip.draw_fr ‹_› ?_ ?_
    | with_reducible apply Chip.draw_fr2
    | with_reducible apply Chip.updPort_fr
    | with_reducible refine Fr.ofIte ‹_› ?_ ?_
    | intro _
    | split
    | (extract_lets +onlyGivenNames x; refine (fun hx : Fr f a x => ?_) ?_; (on_goal 1 => clear_value x); (on_goal 2 => subst x))
    | (extract_lets +onlyGivenNames x; refine (fun hx : Fr f a x.2 => ?_) ?_; (on_goal 1 => clear_value x); (on_goal 2 => subst x))
    | (extract_lets +onlyGivenNames x; clear_value x)
    | dsimp only

theorem Chip.releaseTxd_fr {f : Frame} {a c : Chip} {n_} (h : Fr f a c) (hp_ports : Part.ports ∈ f.parts) (hp_free : Part.free ∈ f.parts) :
    Fr f a (Chip.releaseTxd c n_) := by
  unfold Chip.releaseTxd
  repeat' first
    | with_reducible assumption
    | with_reducible apply Chip.fixEdge_fr
    | with_reducible apply Chip.updPort_fr
    | intro _
    | split
    | (extract_lets +onlyGivenNames x; refine (fun hx : Fr f a x => ?_) ?_; (on_goal 1 => clear_value x); (on_goal 2 => subst x))
    | (extract_lets +onlyGivenNames x; refine (fun hx : Fr f a x.2 => ?_) ?_; (on_goal 1 => clear_value x); (on_goal 2 => subst x))
    | (extract_lets +onlyGivenNames x; clear_value x)
    | dsimp only

theorem Chip.finishTx_fr {f : Frame} {a c : Chip} {n_} {i_} {st_} {err_} {b_} (h : Fr f a c) (hp_trunk : Part.trunk ∈ f.parts) (hp_doors : Part.doors ∈ f.parts) (hp_reqs : Part.reqs ∈ f.parts) (hp_rates : Part.rates ∈ f.parts) (hp_ports : Part.ports ∈ f.parts) (hp_fab : Part.fab ∈ f.parts) (hp_free : Part.free ∈ f.parts) (hr_LINE_CTL : ∀ n, f.regs (.LINE_CTL n) = true) (hr_LINE_DBT : ∀ n, f.regs (.LINE_DBT n) = true) (hr_LINE_NBT : ∀ n, f.regs (.LINE_NBT n) = true) (hr_LINE_TDC : ∀ n, f.regs (.LINE_TDC n) = true) :
    Fr f a (Chip.finishTx c n_ i_ st_ err_ b_) := by
  unfold Chip.finishTx
  repeat' first
    | with_reducible assumption
    | with_reducible exact hr_LINE_CTL _
    | with_reducible exact hr_LINE_DBT _
    | with_reducible exact hr_LINE_NBT _
    | with_reducible exact hr_LINE_TDC _
    | with_reducible apply Chip.finishHostTx_fr
    | with_reducible apply Chip.updLine_fr
    | with_reducible apply Fr.each
    | with_reducible apply Chip.answer_fr
    | with_reducible apply Chip.updNode_fr
    | with_reducible apply Chip.answerOpt_fr
    | with_reducible apply Chip.evRemoved_fr
    | with_reducible apply Chip.releaseTxd_fr
    | with_reducible apply Chip.applyTimingDue_fr
    | intro _
    | split
    | (extract_lets +onlyGivenNames x; refine (fun hx : Fr f a x => ?_) ?_; (on_goal 1 => clear_value x); (on_goal 2 => subst x))
    | (extract_lets +onlyGivenNames x; refine (fun hx : Fr f a x.2 => ?_) ?_; (on_goal 1 => clear_value x); (on_goal 2 => subst x))
    | (extract_lets +onlyGivenNames x; clear_value x)
    | dsimp only

theorem Chip.cancelAllTx_fr {f : Frame} {a c : Chip} {n_} (h : Fr f a c) (hp_doors : Part.doors ∈ f.parts) (hp_ports : Part.ports ∈ f.parts) :
    Fr f a (Chip.cancelAllTx c n_) := by
  unfold Chip.cancelAllTx
  repeat' first
    | with_reducible assumption
    | with_reducible apply Chip.updLine_fr
    | with_reducible apply Fr.each
    | with_reducible apply Chip.evTxStatus_fr
    | intro _
    | split
    | (extract_lets +onlyGivenNames x; refine (fun hx : Fr f a x => ?_) ?_; (on_goal 1 => clear_value x); (on_goal 2 => subst x))
    | (extract_lets +onlyGivenNames x; refine (fun hx : Fr f a x.2 => ?_) ?_; (on_goal 1 => clear_value x); (on_goal 2 => subst x))
    | (extract_lets +onlyGivenNames x; clear_value x)
    | dsimp only

theorem Chip.leaveLine_fr {f : Frame} {a c : Chip} {n_} (h : Fr f a c) (hp_trunk : Part.trunk ∈ f.parts) (hp_doors : Part.doors ∈ f.parts) (hp_reqs : Part.reqs ∈ f.parts) (hp_rates : Part.rates ∈ f.parts) (hp_pond : Part.pond ∈ f.parts) (hp_engines : Part.engines ∈ f.parts) (hp_ports : Part.ports ∈ f.parts) (hr_HOLDER_USED : ∀ n, f.regs (.HOLDER_USED n) = true) (hr_LINE_ERR : ∀ n, f.regs (.LINE_ERR n) = true) (hr_POND_FREE : f.regs .POND_FREE = true) (hr_POND_STATUS : f.regs .POND_STATUS = true) (hr_POND_WAIT : f.regs .POND_WAIT = true) :
    Fr f a (Chip.leaveLine c n_) := by
  unfold Chip.leaveLine
  repeat' first
    | with_reducible assumption
    | with_reducible exact hr_HOLDER_USED _
    | with_reducible exact hr_LINE_ERR _
    | with_reducible apply Fr.each
    | with_reducible apply Chip.answerUlps_fr
    | with_reducible apply Chip.answer_fr
    | with_reducible apply Chip.bulkFree_fr
    | with_reducible apply Chip.bumpAllNodes_fr
    | with_reducible apply Fr.wr
    | with_reducible apply Chip.updLine_fr
    | intro _
    | split
    | (extract_lets +onlyGivenNames x; refine (fun hx : Fr f a x => ?_) ?_; (on_goal 1 => clear_value x); (on_goal 2 => subst x))
    | (extract_lets +onlyGivenNames x; refine (fun hx : Fr f a x.2 => ?_) ?_; (on_goal 1 => clear_value x); (on_goal 2 => subst x))
    | (extract_lets +onlyGivenNames x; clear_value x)
    | dsimp only

/-! ### Machine/ModeOps.lean -/

theorem Chip.enterLine_fr {f : Frame} {a c : Chip} {n_} (h : Fr f a c) (hp_ports : Part.ports ∈ f.parts) :
    Fr f a (Chip.enterLine c n_) := by
  unfold Chip.enterLine
  repeat' first
    | with_reducible assumption
    | with_reducible apply Chip.updLine_fr
    | with_reducible apply Chip.updPort_fr
    | intro _
    | split
    | (extract_lets +onlyGivenNames x; refine (fun hx : Fr f a x => ?_) ?_; (on_goal 1 => clear_value x); (on_goal 2 => subst x))
    | (extract_lets +onlyGivenNames x; refine (fun hx : Fr f a x.2 => ?_) ?_; (on_goal 1 => clear_value x); (on_goal 2 => subst x))
    | (extract_lets +onlyGivenNames x; clear_value x)
    | dsimp only

theorem Chip.startMode_fr {f : Frame} {a c : Chip} {n_} (h : Fr f a c) (hp_fl : Part.fl ∈ f.parts) (hp_trunk : Part.trunk ∈ f.parts) (hp_doors : Part.doors ∈ f.parts) (hp_reqs : Part.reqs ∈ f.parts) (hp_rates : Part.rates ∈ f.parts) (hp_pond : Part.pond ∈ f.parts) (hp_engines : Part.engines ∈ f.parts) (hp_basins : Part.basins ∈ f.parts) (hp_ports : Part.ports ∈ f.parts) (hp_chans : Part.chans ∈ f.parts) (hp_svc : Part.svc ∈ f.parts) (hp_pwr : Part.pwr ∈ f.parts) (hp_fab : Part.fab ∈ f.parts) (hp_free : Part.free ∈ f.parts) (hall : ∀ r, f.regs r = true) :
    Fr f a (Chip.startMode c n_) := by
  unfold Chip.startMode
  repeat' first
    | with_reducible assumption
    | with_reducible exact hall _
    | with_reducible exact fun _ => hall _
    | with_reducible exact fun _ _ => hall _
    | with_reducible apply Chip.fuseNow_fr
    | with_reducible apply Chip.updPort_fr
    | with_reducible apply Chip.fixEdge_fr
    | with_reducible apply Chip.pdLeave_fr
    | with_reducible apply Chip.leaveDrop_fr
    | with_reducible apply Chip.leaveLine_fr
    | with_reducible apply Chip.cancelAllTx_fr
    | with_reducible apply Chip.releaseTxd_fr
    | intro _
    | split
    | (extract_lets +onlyGivenNames x; refine (fun hx : Fr f a x => ?_) ?_; (on_goal 1 => clear_value x); (on_goal 2 => subst x))
    | (extract_lets +onlyGivenNames x; refine (fun hx : Fr f a x.2 => ?_) ?_; (on_goal 1 => clear_value x); (on_goal 2 => subst x))
    | (extract_lets +onlyGivenNames x; clear_value x)
    | dsimp only

theorem Chip.endMode_fr {f : Frame} {a c : Chip} {n_} (h : Fr f a c) (hp_fl : Part.fl ∈ f.parts) (hp_trunk : Part.trunk ∈ f.parts) (hp_doors : Part.doors ∈ f.parts) (hp_reqs : Part.reqs ∈ f.parts) (hp_rates : Part.rates ∈ f.parts) (hp_pond : Part.pond ∈ f.parts) (hp_engines : Part.engines ∈ f.parts) (hp_basins : Part.basins ∈ f.parts) (hp_ports : Part.ports ∈ f.parts) (hp_chans : Part.chans ∈ f.parts) (hp_svc : Part.svc ∈ f.parts) (hp_pwr : Part.pwr ∈ f.parts) (hp_fab : Part.fab ∈ f.parts) (hp_free : Part.free ∈ f.parts) (hall : ∀ r, f.regs r = true) :
    Fr f a (Chip.endMode c n_) := by
  unfold Chip.endMode
  repeat' first
    | with_reducible assumption
    | with_reducible exact hall _
    | with_reducible exact fun _ => hall _
    | with_reducible exact fun _ _ => hall _
    | with_reducible apply Chip.updPort_fr
    | with_reducible apply Chip.pdEnter_fr
    | with_reducible apply Chip.enterDrop_fr
    | with_reducible apply Chip.enterLine_fr
    | with_reducible apply Chip.fuseNow_fr
    | with_reducible apply Chip.startMode_fr
    | with_reducible apply Chip.answerOpt_fr
    | intro _
    | split
    | (extract_lets +onlyGivenNames x; refine (fun hx : Fr f a x => ?_) ?_; (on_goal 1 => clear_value x); (on_goal 2 => subst x))
    | (extract_lets +onlyGivenNames x; refine (fun hx : Fr f a x.2 => ?_) ?_; (on_goal 1 => clear_value x); (on_goal 2 => subst x))
    | (extract_lets +onlyGivenNames x; clear_value x)
    | dsimp only

/-! ### Machine/DropXfer.lean -/

theorem Chip.pushCtl_fr {f : Frame} {a c : Chip} {n_} {k_} (h : Fr f a c) (hp_ports : Part.ports ∈ f.parts) :
    Fr f a (Chip.pushCtl c n_ k_) := by
  unfold Chip.pushCtl
  repeat' first
    | with_reducible assumption
    | with_reducible apply Chip.updDrop_fr
    | intro _
    | split
    | (extract_lets +onlyGivenNames x; refine (fun hx : Fr f a x => ?_) ?_; (on_goal 1 => clear_value x); (on_goal 2 => subst x))
    | (extract_lets +onlyGivenNames x; refine (fun hx : Fr f a x.2 => ?_) ?_; (on_goal 1 => clear_value x); (on_goal 2 => subst x))
    | (extract_lets +onlyGivenNames x; clear_value x)
    | dsimp only

theorem Chip.ctlStart_fr {f : Frame} {a c : Chip} {n_} {d_} {k_} (h : Fr f a c) (hp_trunk : Part.trunk ∈ f.parts) (hp_doors : Part.doors ∈ f.parts) (hp_reqs : Part.reqs ∈ f.parts) (hp_rates : Part.rates ∈ f.parts) (hp_pond : Part.pond ∈ f.parts) (hp_engines : Part.engines ∈ f.parts) (hp_basins : Part.basins ∈ f.parts) (hp_ports : Part.ports ∈ f.parts) (hp_svc : Part.svc ∈ f.parts) (hp_pwr : Part.pwr ∈ f.parts) (hr_HOLDER_USED : ∀ n, f.regs (.HOLDER_USED n) = true) (hr_POND_FREE : f.regs .POND_FREE = true) (hr_POND_STATUS : f.regs .POND_STATUS = true) (hr_POND_WAIT : f.regs .POND_WAIT = true) (hr_PWR_STATUS : f.regs .PWR_STATUS = true) (hr_SVC_STATUS : f.regs .SVC_STATUS = true) :
    Fr f a (Chip.ctlStart c n_ d_ k_) := by
  unfold Chip.ctlStart
  repeat' first
    | with_reducible assumption
    | with_reducible exact hr_HOLDER_USED _
    | with_reducible apply Chip.endBinds_fr
    | with_reducible refine Chip.alloc_fr ‹_› ?_ ?_ ?_ ?_ ?_ ?_ ?_
    | with_reducible apply Chip.alloc_fr2
    | with_reducible apply Chip.answerOpt_fr
    | with_reducible apply Chip.evOverbook_fr
    | with_reducible apply Fr.each
    | with_reducible apply Chip.freeCtx_fr
    | with_reducible apply Chip.pushCtl_fr
    | with_reducible refine Fr.ofIte ‹_› ?_ ?_
    | intro _
    | split
    | (extract_lets +onlyGivenNames x; refine (fun hx : Fr f a x => ?_) ?_; (on_goal 1 => clear_value x); (on_goal 2 => subst x))
    | (extract_lets +onlyGivenNames x; refine (fun hx : Fr f a x.2 => ?_) ?_; (on_goal 1 => clear_value x); (on_goal 2 => subst x))
    | (extract_lets +onlyGivenNames x; clear_value x)
    | dsimp only

theorem Chip.dropRuns_fr {f : Frame} {a c : Chip} {n_} {p_} (h : Fr f a c) (hp_ports : Part.ports ∈ f.parts) :
    Fr f a (Chip.dropRuns c n_ p_) := by
  unfold Chip.dropRuns
  repeat' first
    | with_reducible assumption
    | with_reducible apply Chip.updDrop_fr
    | intro _
    | split
    | (extract_lets +onlyGivenNames x; refine (fun hx : Fr f a x => ?_) ?_; (on_goal 1 => clear_value x); (on_goal 2 => subst x))
    | (extract_lets +onlyGivenNames x; refine (fun hx : Fr f a x.2 => ?_) ?_; (on_goal 1 => clear_value x); (on_goal 2 => subst x))
    | (extract_lets +onlyGivenNames x; clear_value x)
    | dsimp only

theorem Chip.resync_fr {f : Frame} {a c : Chip} {n_} {d_} {k_} (h : Fr f a c) (hp_doors : Part.doors ∈ f.parts) (hp_rates : Part.rates ∈ f.parts) (hp_pond : Part.pond ∈ f.parts) (hp_engines : Part.engines ∈ f.parts) (hp_ports : Part.ports ∈ f.parts) (hr_DROP_SCHED : ∀ n, f.regs (.DROP_SCHED n) = true) (hr_DROP_STATUS : ∀ n, f.regs (.DROP_STATUS n) = true) (hr_HOLDER_USED : ∀ n, f.regs (.HOLDER_USED n) = true) (hr_POND_FREE : f.regs .POND_FREE = true) (hr_POND_STATUS : f.regs .POND_STATUS = true) (hr_POND_WAIT : f.regs .POND_WAIT = true) :
    Fr f a (Chip.resync c n_ d_ k_) := by
  unfold Chip.resync
  repeat' first
    | with_reducible assumption
    | with_reducible exact hr_DROP_SCHED _
    | with_reducible exact hr_DROP_STATUS _
    | with_reducible exact hr_HOLDER_USED _
    | with_reducible apply Chip.updEps_fr
    | with_reducible apply Chip.dropRuns_fr
    | with_reducible apply Fr.each
    | with_reducible apply Chip.setBody_fr
    | with_reducible apply Chip.freeCtx_fr
    | with_reducible apply Chip.setSched_fr
    | with_reducible apply Chip.updDevBody_fr
    | with_reducible apply Chip.syncTree_fr
    | with_reducible apply Chip.updDev_fr
    | intro _
    | split
    | (extract_lets +onlyGivenNames x; refine (fun hx : Fr f a x => ?_) ?_; (on_goal 1 => clear_value x); (on_goal 2 => subst x))
    | (extract_lets +onlyGivenNames x; refine (fun hx : Fr f a x.2 => ?_) ?_; (on_goal 1 => clear_value x); (on_goal 2 => subst x))
    | (extract_lets +onlyGivenNames x; clear_value x)
    | dsimp only

theorem Chip.popCtl_fr {f : Frame} {a c : Chip} {n_} {k_} (h : Fr f a c) (hp_ports : Part.ports ∈ f.parts) :
    Fr f a (Chip.popCtl c n_ k_) := by
  unfold Chip.popCtl
  repeat' first
    | with_reducible assumption
    | with_reducible apply Chip.updDrop_fr
    | intro _
    | split
    | (extract_lets +onlyGivenNames x; refine (fun hx : Fr f a x => ?_) ?_; (on_goal 1 => clear_value x); (on_goal 2 => subst x))
    | (extract_lets +onlyGivenNames x; refine (fun hx : Fr f a x.2 => ?_) ?_; (on_goal 1 => clear_value x); (on_goal 2 => subst x))
    | (extract_lets +onlyGivenNames x; clear_value x)
    | dsimp only

theorem Chip.putTt_fr {f : Frame} {a c : Chip} {n_} {t_} (h : Fr f a c) (hp_ports : Part.ports ∈ f.parts) :
    Fr f a (Chip.putTt c n_ t_) := by
  unfold Chip.putTt
  repeat' first
    | with_reducible assumption
    | with_reducible apply Chip.updDrop_fr
    | intro _
    | split
    | (extract_lets +onlyGivenNames x; refine (fun hx : Fr f a x => ?_) ?_; (on_goal 1 => clear_value x); (on_goal 2 => subst x))
    | (extract_lets +onlyGivenNames x; refine (fun hx : Fr f a x.2 => ?_) ?_; (on_goal 1 => clear_value x); (on_goal 2 => subst x))
    | (extract_lets +onlyGivenNames x; clear_value x)
    | dsimp only

theorem Chip.ttCleared_fr {f : Frame} {a c : Chip} {n_} {hub_} {port_} (h : Fr f a c) (hp_ports : Part.ports ∈ f.parts) :
    Fr f a (Chip.ttCleared c n_ hub_ port_) := by
  unfold Chip.ttCleared
  repeat' first
    | with_reducible assumption
    | with_reducible apply Chip.putTt_fr
    | intro _
    | split
    | (extract_lets +onlyGivenNames x; refine (fun hx : Fr f a x => ?_) ?_; (on_goal 1 => clear_value x); (on_goal 2 => subst x))
    | (extract_lets +onlyGivenNames x; refine (fun hx : Fr f a x.2 => ?_) ?_; (on_goal 1 => clear_value x); (on_goal 2 => subst x))
    | (extract_lets +onlyGivenNames x; clear_value x)
    | dsimp only

theorem Chip.ctlLost_fr {f : Frame} {a c : Chip} {n_} {k_} (h : Fr f a c) (hp_trunk : Part.trunk ∈ f.parts) (hp_doors : Part.doors ∈ f.parts) (hp_reqs : Part.reqs ∈ f.parts) (hp_rates : Part.rates ∈ f.parts) (hp_pond : Part.pond ∈ f.parts) (hp_engines : Part.engines ∈ f.parts) (hp_basins : Part.basins ∈ f.parts) (hp_ports : Part.ports ∈ f.parts) (hp_svc : Part.svc ∈ f.parts) (hp_pwr : Part.pwr ∈ f.parts) (hr_HOLDER_USED : ∀ n, f.regs (.HOLDER_USED n) = true) (hr_POND_FREE : f.regs .POND_FREE = true) (hr_POND_STATUS : f.regs .POND_STATUS = true) (hr_POND_WAIT : f.regs .POND_WAIT = true) (hr_PWR_STATUS : f.regs .PWR_STATUS = true) (hr_SVC_STATUS : f.regs .SVC_STATUS = true) :
    Fr f a (Chip.ctlLost c n_ k_) := by
  unfold Chip.ctlLost
  repeat' first
    | with_reducible assumption
    | with_reducible exact hr_HOLDER_USED _
    | with_reducible apply Chip.answer_fr
    | with_reducible apply Chip.setupEnd_fr
    | with_reducible apply Chip.ttCleared_fr
    | intro _
    | split
    | (extract_lets +onlyGivenNames x; refine (fun hx : Fr f a x => ?_) ?_; (on_goal 1 => clear_value x); (on_goal 2 => subst x))
    | (extract_lets +onlyGivenNames x; refine (fun hx : Fr f a x.2 => ?_) ?_; (on_goal 1 => clear_value x); (on_goal 2 => subst x))
    | (extract_lets +onlyGivenNames x; clear_value x)
    | dsimp only

theorem Chip.ctlTimeout_fr {f : Frame} {a c : Chip} {n_} {k_} (h : Fr f a c) (hp_trunk : Part.trunk ∈ f.parts) (hp_doors : Part.doors ∈ f.parts) (hp_reqs : Part.reqs ∈ f.parts) (hp_rates : Part.rates ∈ f.parts) (hp_pond : Part.pond ∈ f.parts) (hp_engines : Part.engines ∈ f.parts) (hp_basins : Part.basins ∈ f.parts) (hp_ports : Part.ports ∈ f.parts) (hp_svc : Part.svc ∈ f.parts) (hp_pwr : Part.pwr ∈ f.parts) (hr_HOLDER_USED : ∀ n, f.regs (.HOLDER_USED n) = true) (hr_POND_FREE : f.regs .POND_FREE = true) (hr_POND_STATUS : f.regs .POND_STATUS = true) (hr_POND_WAIT : f.regs .POND_WAIT = true) (hr_PWR_STATUS : f.regs .PWR_STATUS = true) (hr_SVC_STATUS : f.regs .SVC_STATUS = true) :
    Fr f a (Chip.ctlTimeout c n_ k_) := by
  unfold Chip.ctlTimeout
  repeat' first
    | with_reducible assumption
    | with_reducible exact hr_HOLDER_USED _
    | with_reducible apply Chip.ctlLost_fr
    | with_reducible apply Fr.each
    | with_reducible apply Chip.popCtl_fr
    | with_reducible apply Chip.freeCtx_fr
    | intro _
    | split
    | (extract_lets +onlyGivenNames x; refine (fun hx : Fr f a x => ?_) ?_; (on_goal 1 => clear_value x); (on_goal 2 => subst x))
    | (extract_lets +onlyGivenNames x; refine (fun hx : Fr f a x.2 => ?_) ?_; (on_goal 1 => clear_value x); (on_goal 2 => subst x))
    | (extract_lets +onlyGivenNames x; clear_value x)
    | dsimp only

theorem Chip.ctlEnd_fr {f : Frame} {a c : Chip} {n_} {k_} {stall_} (h : Fr f a c) (hp_trunk : Part.trunk ∈ f.parts) (hp_doors : Part.doors ∈ f.parts) (hp_reqs : Part.reqs ∈ f.parts) (hp_rates : Part.rates ∈ f.parts) (hp_pond : Part.pond ∈ f.parts) (hp_engines : Part.engines ∈ f.parts) (hp_basins : Part.basins ∈ f.parts) (hp_ports : Part.ports ∈ f.parts) (hp_svc : Part.svc ∈ f.parts) (hp_pwr : Part.pwr ∈ f.parts) (hr_DROP_SCHED : ∀ n, f.regs (.DROP_SCHED n) = true) (hr_DROP_STATUS : ∀ n, f.regs (.DROP_STATUS n) = true) (hr_HOLDER_USED : ∀ n, f.regs (.HOLDER_USED n) = true) (hr_POND_FREE : f.regs .POND_FREE = true) (hr_POND_STATUS : f.regs .POND_STATUS = true) (hr_POND_WAIT : f.regs .POND_WAIT = true) (hr_PWR_STATUS : f.regs .PWR_STATUS = true) (hr_SVC_STATUS : f.regs .SVC_STATUS = true) :
    Fr f a (Chip.ctlEnd c n_ k_ stall_) := by
  unfold Chip.ctlEnd
  repeat' first
    | with_reducible assumption
    | with_reducible exact hr_DROP_SCHED _
    | with_reducible exact hr_DROP_STATUS _
    | with_reducible exact hr_HOLDER_USED _
    | with_reducible apply Chip.popCtl_fr
    | with_reducible apply Chip.answerOpt_fr
    | with_reducible apply Fr.each
    | with_reducible apply Chip.freeCtx_fr
    | with_reducible apply Chip.resync_fr
    | with_reducible apply Chip.answer_fr
    | with_reducible apply Chip.setupEnd_fr
    | with_reducible apply Chip.printerStatus_fr
    | with_reducible apply Chip.ttCleared_fr
    | intro _
    | split
    | (extract_lets +onlyGivenNames x; refine (fun hx : Fr f a x => ?_) ?_; (on_goal 1 => clear_value x); (on_goal 2 => subst x))
    | (extract_lets +onlyGivenNames x; refine (fun hx : Fr f a x.2 => ?_) ?_; (on_goal 1 => clear_value x); (on_goal 2 => subst x))
    | (extract_lets +onlyGivenNames x; clear_value x)
    | dsimp only

theorem Chip.putRun_fr {f : Frame} {a c : Chip} {n_} {r_} (h : Fr f a c) (hp_ports : Part.ports ∈ f.parts) :
    Fr f a (Chip.putRun c n_ r_) := by
  unfold Chip.putRun
  repeat' first
    | with_reducible assumption
    | with_reducible apply Chip.updDrop_fr
    | intro _
    | split
    | (extract_lets +onlyGivenNames x; refine (fun hx : Fr f a x => ?_) ?_; (on_goal 1 => clear_value x); (on_goal 2 => subst x))
    | (extract_lets +onlyGivenNames x; refine (fun hx : Fr f a x.2 => ?_) ?_; (on_goal 1 => clear_value x); (on_goal 2 => subst x))
    | (extract_lets +onlyGivenNames x; clear_value x)
    | dsimp only

theorem Chip.evSlow_fr {f : Frame} {a c : Chip} {n_} {route_} {ep_} {on_} (h : Fr f a c) (hp_doors : Part.doors ∈ f.parts) :
    Fr f a (Chip.evSlow c n_ route_ ep_ on_) := by
  unfold Chip.evSlow
  repeat' first
    | with_reducible assumption
    | with_reducible apply Chip.post_fr
    | intro _
    | split
    | (extract_lets +onlyGivenNames x; refine (fun hx : Fr f a x => ?_) ?_; (on_goal 1 => clear_value x); (on_goal 2 => subst x))
    | (extract_lets +onlyGivenNames x; refine (fun hx : Fr f a x.2 => ?_) ?_; (on_goal 1 => clear_value x); (on_goal 2 => subst x))
    | (extract_lets +onlyGivenNames x; clear_value x)
    | dsimp only

theorem Chip.xferEnds_fr {f : Frame} {a c : Chip} {n_} {d_} {b_} {bad_} (h : Fr f a c) (hp_ports : Part.ports ∈ f.parts) :
    Fr f a (Chip.xferEnds c n_ d_ b_ bad_) := by
  unfold Chip.xferEnds
  repeat' first
    | with_reducible assumption
    | with_reducible apply Chip.putRun_fr
    | intro _
    | split
    | (extract_lets +onlyGivenNames x; refine (fun hx : Fr f a x => ?_) ?_; (on_goal 1 => clear_value x); (on_goal 2 => subst x))
    | (extract_lets +onlyGivenNames x; refine (fun hx : Fr f a x.2 => ?_) ?_; (on_goal 1 => clear_value x); (on_goal 2 => subst x))
    | (extract_lets +onlyGivenNames x; clear_value x)
    | dsimp only

theorem Chip.epMoved_fr {f : Frame} {a c : Chip} {n_} {d_} {x_} {len_} {flip_} {ends_} (h : Fr f a c) (hp_doors : Part.doors ∈ f.parts) (hp_pond : Part.pond ∈ f.parts) (hp_engines : Part.engines ∈ f.parts) (hp_basins : Part.basins ∈ f.parts) (hp_ports : Part.ports ∈ f.parts) (hp_pwr : Part.pwr ∈ f.parts) (hr_PWR_STATUS : f.regs .PWR_STATUS = true) :
    Fr f a (Chip.epMoved c n_ d_ x_ len_ flip_ ends_) := by
  unfold Chip.epMoved
  repeat' first
    | with_reducible assumption
    | with_reducible apply Chip.engWrite_fr
    | with_reducible apply Chip.evSlow_fr
    | with_reducible apply Chip.putRun_fr
    | with_reducible apply Chip.xferEnds_fr
    | with_reducible apply Chip.active_fr
    | intro _
    | split
    | (extract_lets +onlyGivenNames x; refine (fun hx : Fr f a x => ?_) ?_; (on_goal 1 => clear_value x); (on_goal 2 => subst x))
    | (extract_lets +onlyGivenNames x; refine (fun hx : Fr f a x.2 => ?_) ?_; (on_goal 1 => clear_value x); (on_goal 2 => subst x))
    | (extract_lets +onlyGivenNames x; clear_value x)
    | dsimp only

theorem Chip.epNak_fr {f : Frame} {a c : Chip} {n_} {d_} {b_} {nak_} (h : Fr f a c) (hp_ports : Part.ports ∈ f.parts) :
    Fr f a (Chip.epNak c n_ d_ b_ nak_) := by
  unfold Chip.epNak
  repeat' first
    | with_reducible assumption
    | with_reducible apply Chip.putRun_fr
    | intro _
    | split
    | (extract_lets +onlyGivenNames x; refine (fun hx : Fr f a x => ?_) ?_; (on_goal 1 => clear_value x); (on_goal 2 => subst x))
    | (extract_lets +onlyGivenNames x; refine (fun hx : Fr f a x.2 => ?_) ?_; (on_goal 1 => clear_value x); (on_goal 2 => subst x))
    | (extract_lets +onlyGivenNames x; clear_value x)
    | dsimp only

theorem Chip.splitFailed_fr {f : Frame} {a c : Chip} {n_} {d_} {b_} {err_} (h : Fr f a c) (hp_doors : Part.doors ∈ f.parts) (hp_ports : Part.ports ∈ f.parts) (hr_DROP_XFER_ERR : ∀ n, f.regs (.DROP_XFER_ERR n) = true) :
    Fr f a (Chip.splitFailed c n_ d_ b_ err_) := by
  unfold Chip.splitFailed
  repeat' first
    | with_reducible assumption
    | with_reducible exact hr_DROP_XFER_ERR _
    | with_reducible apply Chip.incSat_fr
    | with_reducible apply Chip.putTt_fr
    | with_reducible apply Chip.pushCtl_fr
    | with_reducible apply Chip.post_fr
    | with_reducible apply Chip.bump_fr
    | intro _
    | split
    | (extract_lets +onlyGivenNames x; refine (fun hx : Fr f a x => ?_) ?_; (on_goal 1 => clear_value x); (on_goal 2 => subst x))
    | (extract_lets +onlyGivenNames x; refine (fun hx : Fr f a x.2 => ?_) ?_; (on_goal 1 => clear_value x); (on_goal 2 => subst x))
    | (extract_lets +onlyGivenNames x; clear_value x)
    | dsimp only

theorem Chip.splitOk_fr {f : Frame} {a c : Chip} {n_} {d_} (h : Fr f a c) (hp_ports : Part.ports ∈ f.parts) :
    Fr f a (Chip.splitOk c n_ d_) := by
  unfold Chip.splitOk
  repeat' first
    | with_reducible assumption
    | with_reducible apply Chip.putTt_fr
    | intro _
    | split
    | (extract_lets +onlyGivenNames x; refine (fun hx : Fr f a x => ?_) ?_; (on_goal 1 => clear_value x); (on_goal 2 => subst x))
    | (extract_lets +onlyGivenNames x; refine (fun hx : Fr f a x.2 => ?_) ?_; (on_goal 1 => clear_value x); (on_goal 2 => subst x))
    | (extract_lets +onlyGivenNames x; clear_value x)
    | dsimp only

theorem Chip.epFailed_fr {f : Frame} {a c : Chip} {n_} {d_} {b_} {err_} (h : Fr f a c) (hp_doors : Part.doors ∈ f.parts) (hp_ports : Part.ports ∈ f.parts) (hr_DROP_XFER_ERR : ∀ n, f.regs (.DROP_XFER_ERR n) = true) :
    Fr f a (Chip.epFailed c n_ d_ b_ err_) := by
  unfold Chip.epFailed
  repeat' first
    | with_reducible assumption
    | with_reducible exact hr_DROP_XFER_ERR _
    | with_reducible apply Chip.incSat_fr
    | with_reducible apply Chip.splitFailed_fr
    | with_reducible apply Chip.xferEnds_fr
    | with_reducible apply Chip.putRun_fr
    | with_reducible apply Chip.evAborted_fr
    | intro _
    | split
    | (extract_lets +onlyGivenNames x; refine (fun hx : Fr f a x => ?_) ?_; (on_goal 1 => clear_value x); (on_goal 2 => subst x))
    | (extract_lets +onlyGivenNames x; refine (fun hx : Fr f a x.2 => ?_) ?_; (on_goal 1 => clear_value x); (on_goal 2 => subst x))
    | (extract_lets +onlyGivenNames x; clear_value x)
    | dsimp only

/-! ### Machine/DropWire.lean -/

theorem Chip.openSlot_fr {f : Frame} {a c : Chip} {n_} {m_} (h : Fr f a c) (hp_ports : Part.ports ∈ f.parts) :
    Fr f a (Chip.openSlot c n_ m_) := by
  unfold Chip.openSlot
  repeat' first
    | with_reducible assumption
    | with_reducible apply Chip.updDrop_fr
    | intro _
    | split
    | (extract_lets +onlyGivenNames x; refine (fun hx : Fr f a x => ?_) ?_; (on_goal 1 => clear_value x); (on_goal 2 => subst x))
    | (extract_lets +onlyGivenNames x; refine (fun hx : Fr f a x.2 => ?_) ?_; (on_goal 1 => clear_value x); (on_goal 2 => subst x))
    | (extract_lets +onlyGivenNames x; clear_value x)
    | dsimp only

theorem Chip.nakRound_fr {f : Frame} {a c : Chip} {n_} (h : Fr f a c) (hp_doors : Part.doors ∈ f.parts) (hp_pond : Part.pond ∈ f.parts) (hp_engines : Part.engines ∈ f.parts) (hp_ports : Part.ports ∈ f.parts) :
    Fr f a (Chip.nakRound c n_) := by
  unfold Chip.nakRound
  repeat' first
    | with_reducible assumption
    | with_reducible apply Fr.each
    | with_reducible apply Chip.engWrite_fr
    | with_reducible apply Chip.evSlow_fr
    | with_reducible apply Chip.updDrop_fr
    | intro _
    | split
    | (extract_lets +onlyGivenNames x; refine (fun hx : Fr f a x => ?_) ?_; (on_goal 1 => clear_value x); (on_goal 2 => subst x))
    | (extract_lets +onlyGivenNames x; refine (fun hx : Fr f a x.2 => ?_) ?_; (on_goal 1 => clear_value x); (on_goal 2 => subst x))
    | (extract_lets +onlyGivenNames x; clear_value x)
    | dsimp only

theorem Chip.isoRound_fr {f : Frame} {a c : Chip} {n_} (h : Fr f a c) (hp_ports : Part.ports ∈ f.parts) :
    Fr f a (Chip.isoRound c n_) := by
  unfold Chip.isoRound
  repeat' first
    | with_reducible assumption
    | with_reducible apply Fr.each
    | with_reducible apply Chip.xferEnds_fr
    | intro _
    | split
    | (extract_lets +onlyGivenNames x; refine (fun hx : Fr f a x => ?_) ?_; (on_goal 1 => clear_value x); (on_goal 2 => subst x))
    | (extract_lets +onlyGivenNames x; refine (fun hx : Fr f a x.2 => ?_) ?_; (on_goal 1 => clear_value x); (on_goal 2 => subst x))
    | (extract_lets +onlyGivenNames x; clear_value x)
    | dsimp only

theorem Chip.applyWeirs_fr {f : Frame} {a c : Chip} {n_} (h : Fr f a c) (hp_doors : Part.doors ∈ f.parts) (hp_cullet : Part.cullet ∈ f.parts) (hp_rates : Part.rates ∈ f.parts) (hp_pond : Part.pond ∈ f.parts) (hp_engines : Part.engines ∈ f.parts) (hp_ports : Part.ports ∈ f.parts) :
    Fr f a (Chip.applyWeirs c n_) := by
  unfold Chip.applyWeirs
  repeat' first
    | with_reducible assumption
    | with_reducible apply Chip.updDrop_fr
    | with_reducible apply Fr.each
    | with_reducible apply Chip.cullDev_fr
    | with_reducible apply Chip.engWrite_fr
    | intro _
    | split
    | (extract_lets +onlyGivenNames x; refine (fun hx : Fr f a x => ?_) ?_; (on_goal 1 => clear_value x); (on_goal 2 => subst x))
    | (extract_lets +onlyGivenNames x; refine (fun hx : Fr f a x.2 => ?_) ?_; (on_goal 1 => clear_value x); (on_goal 2 => subst x))
    | (extract_lets +onlyGivenNames x; clear_value x)
    | dsimp only

theorem Chip.takeStamp_fr {f : Frame} {a c : Chip} {t_} (h : Fr f a c) (hp_sei : Part.sei ∈ f.parts) :
    Fr f a (Chip.takeStamp c t_) := by
  unfold Chip.takeStamp
  repeat' first
    | with_reducible assumption
    | with_reducible apply Chip.updSei_fr
    | intro _
    | split
    | (extract_lets +onlyGivenNames x; refine (fun hx : Fr f a x => ?_) ?_; (on_goal 1 => clear_value x); (on_goal 2 => subst x))
    | (extract_lets +onlyGivenNames x; refine (fun hx : Fr f a x.2 => ?_) ?_; (on_goal 1 => clear_value x); (on_goal 2 => subst x))
    | (extract_lets +onlyGivenNames x; clear_value x)
    | dsimp only

theorem Chip.sendStamps_fr {f : Frame} {a c : Chip} {n_} {m_} (h : Fr f a c) (hp_doors : Part.doors ∈ f.parts) (hp_cullet : Part.cullet ∈ f.parts) (hp_rates : Part.rates ∈ f.parts) (hp_engines : Part.engines ∈ f.parts) (hp_basins : Part.basins ∈ f.parts) (hp_ports : Part.ports ∈ f.parts) (hp_svc : Part.svc ∈ f.parts) (hp_pwr : Part.pwr ∈ f.parts) (hr_PWR_STATUS : f.regs .PWR_STATUS = true) :
    Fr f a (Chip.sendStamps c n_ m_) := by
  unfold Chip.sendStamps
  repeat' first
    | with_reducible assumption
    | with_reducible apply Fr.each
    | with_reducible apply Chip.cullDev_fr
    | with_reducible apply Chip.updDrop_fr
    | with_reducible refine Chip.putRec_fr ‹_› ?_ ?_ ?_ ?_ ?_ ?_ ?_ ?_
    | with_reducible apply Chip.putRec_fr2
    | with_reducible refine Fr.ofIte ‹_› ?_ ?_
    | intro _
    | split
    | (extract_lets +onlyGivenNames x; refine (fun hx : Fr f a x => ?_) ?_; (on_goal 1 => clear_value x); (on_goal 2 => subst x))
    | (extract_lets +onlyGivenNames x; refine (fun hx : Fr f a x.2 => ?_) ?_; (on_goal 1 => clear_value x); (on_goal 2 => subst x))
    | (extract_lets +onlyGivenNames x; clear_value x)
    | dsimp only

theorem Chip.sendSof_fr {f : Frame} {a c : Chip} {n_} {t_} (h : Fr f a c) (hp_ports : Part.ports ∈ f.parts) (hr_DROP_FRAME : ∀ n, f.regs (.DROP_FRAME n) = true) :
    Fr f a (Chip.sendSof c n_ t_) := by
  unfold Chip.sendSof
  repeat' first
    | with_reducible assumption
    | with_reducible exact hr_DROP_FRAME _
    | with_reducible apply Chip.updDrop_fr
    | with_reducible apply Fr.wr
    | intro _
    | split
    | (extract_lets +onlyGivenNames x; refine (fun hx : Fr f a x => ?_) ?_; (on_goal 1 => clear_value x); (on_goal 2 => subst x))
    | (extract_lets +onlyGivenNames x; refine (fun hx : Fr f a x.2 => ?_) ?_; (on_goal 1 => clear_value x); (on_goal 2 => subst x))
    | (extract_lets +onlyGivenNames x; clear_value x)
    | dsimp only

theorem Chip.latchOffset_fr {f : Frame} {a c : Chip} {n_} (h : Fr f a c) (hp_ports : Part.ports ∈ f.parts) :
    Fr f a (Chip.latchOffset c n_) := by
  unfold Chip.latchOffset
  repeat' first
    | with_reducible assumption
    | with_reducible apply Chip.updDrop_fr
    | intro _
    | split
    | (extract_lets +onlyGivenNames x; refine (fun hx : Fr f a x => ?_) ?_; (on_goal 1 => clear_value x); (on_goal 2 => subst x))
    | (extract_lets +onlyGivenNames x; refine (fun hx : Fr f a x.2 => ?_) ?_; (on_goal 1 => clear_value x); (on_goal 2 => subst x))
    | (extract_lets +onlyGivenNames x; clear_value x)
    | dsimp only

theorem Chip.cullOuts_fr {f : Frame} {a c : Chip} {n_} (h : Fr f a c) (hp_trunk : Part.trunk ∈ f.parts) (hp_doors : Part.doors ∈ f.parts) (hp_reqs : Part.reqs ∈ f.parts) (hp_cullet : Part.cullet ∈ f.parts) (hp_rates : Part.rates ∈ f.parts) (hp_pond : Part.pond ∈ f.parts) (hp_engines : Part.engines ∈ f.parts) (hp_basins : Part.basins ∈ f.parts) (hp_ports : Part.ports ∈ f.parts) (hp_svc : Part.svc ∈ f.parts) (hp_pwr : Part.pwr ∈ f.parts) (hr_HOLDER_USED : ∀ n, f.regs (.HOLDER_USED n) = true) (hr_POND_FREE : f.regs .POND_FREE = true) (hr_POND_STATUS : f.regs .POND_STATUS = true) (hr_POND_WAIT : f.regs .POND_WAIT = true) (hr_PWR_STATUS : f.regs .PWR_STATUS = true) (hr_SVC_STATUS : f.regs .SVC_STATUS = true) :
    Fr f a (Chip.cullOuts c n_) := by
  unfold Chip.cullOuts
  repeat' first
    | with_reducible assumption
    | with_reducible exact hr_HOLDER_USED _
    | with_reducible apply Chip.updDrop_fr
    | with_reducible apply Fr.each
    | with_reducible apply Chip.cullDev_fr
    | with_reducible apply Chip.ctlTimeout_fr
    | intro _
    | split
    | (extract_lets +onlyGivenNames x; refine (fun hx : Fr f a x => ?_) ?_; (on_goal 1 => clear_value x); (on_goal 2 => subst x))
    | (extract_lets +onlyGivenNames x; refine (fun hx : Fr f a x.2 => ?_) ?_; (on_goal 1 => clear_value x); (on_goal 2 => subst x))
    | (extract_lets +onlyGivenNames x; clear_value x)
    | dsimp only

theorem Chip.splitRound_fr {f : Frame} {a c : Chip} {n_} {m_} (h : Fr f a c) (hp_doors : Part.doors ∈ f.parts) (hp_ports : Part.ports ∈ f.parts) (hr_DROP_XFER_ERR : ∀ n, f.regs (.DROP_XFER_ERR n) = true) :
    Fr f a (Chip.splitRound c n_ m_) := by
  unfold Chip.splitRound
  repeat' first
    | with_reducible assumption
    | with_reducible exact hr_DROP_XFER_ERR _
    | with_reducible apply Chip.updDrop_fr
    | with_reducible apply Fr.each
    | with_reducible apply Chip.epFailed_fr
    | intro _
    | split
    | (extract_lets +onlyGivenNames x; refine (fun hx : Fr f a x => ?_) ?_; (on_goal 1 => clear_value x); (on_goal 2 => subst x))
    | (extract_lets +onlyGivenNames x; refine (fun hx : Fr f a x.2 => ?_) ?_; (on_goal 1 => clear_value x); (on_goal 2 => subst x))
    | (extract_lets +onlyGivenNames x; clear_value x)
    | dsimp only

theorem Chip.boundary_fr {f : Frame} {a c : Chip} {n_} {t_} (h : Fr f a c) (hp_trunk : Part.trunk ∈ f.parts) (hp_doors : Part.doors ∈ f.parts) (hp_reqs : Part.reqs ∈ f.parts) (hp_cullet : Part.cullet ∈ f.parts) (hp_rates : Part.rates ∈ f.parts) (hp_pond : Part.pond ∈ f.parts) (hp_engines : Part.engines ∈ f.parts) (hp_basins : Part.basins ∈ f.parts) (hp_ports : Part.ports ∈ f.parts) (hp_sei : Part.sei ∈ f.parts) (hp_svc : Part.svc ∈ f.parts) (hp_pwr : Part.pwr ∈ f.parts) (hr_DROP_FRAME : ∀ n, f.regs (.DROP_FRAME n) = true) (hr_DROP_XFER_ERR : ∀ n, f.regs (.DROP_XFER_ERR n) = true) (hr_HOLDER_USED : ∀ n, f.regs (.HOLDER_USED n) = true) (hr_POND_FREE : f.regs .POND_FREE = true) (hr_POND_STATUS : f.regs .POND_STATUS = true) (hr_POND_WAIT : f.regs .POND_WAIT = true) (hr_PWR_STATUS : f.regs .PWR_STATUS = true) (hr_SVC_STATUS : f.regs .SVC_STATUS = true) :
    Fr f a (Chip.boundary c n_ t_) := by
  unfold Chip.boundary
  repeat' first
    | with_reducible assumption
    | with_reducible exact hr_DROP_FRAME _
    | with_reducible exact hr_DROP_XFER_ERR _
    | with_reducible exact hr_HOLDER_USED _
    | with_reducible apply Chip.updDrop_fr
    | with_reducible apply Chip.takeStamp_fr
    | with_reducible apply Chip.sendSof_fr
    | with_reducible apply Chip.sendStamps_fr
    | with_reducible apply Chip.latchOffset_fr
    | with_reducible apply Chip.splitRound_fr
    | with_reducible apply Chip.cullOuts_fr
    | with_reducible apply Chip.applyWeirs_fr
    | with_reducible apply Chip.nakRound_fr
    | with_reducible apply Chip.openSlot_fr
    | with_reducible apply Chip.isoRound_fr
    | intro _
    | split
    | (extract_lets +onlyGivenNames x; refine (fun hx : Fr f a x => ?_) ?_; (on_goal 1 => clear_value x); (on_goal 2 => subst x))
    | (extract_lets +onlyGivenNames x; refine (fun hx : Fr f a x.2 => ?_) ?_; (on_goal 1 => clear_value x); (on_goal 2 => subst x))
    | (extract_lets +onlyGivenNames x; clear_value x)
    | dsimp only

theorem Chip.outMoved_fr {f : Frame} {a c : Chip} {n_} {d_} {b_} {len_} (h : Fr f a c) (hp_doors : Part.doors ∈ f.parts) (hp_rates : Part.rates ∈ f.parts) (hp_pond : Part.pond ∈ f.parts) (hp_engines : Part.engines ∈ f.parts) (hp_basins : Part.basins ∈ f.parts) (hp_ports : Part.ports ∈ f.parts) (hp_svc : Part.svc ∈ f.parts) (hp_pwr : Part.pwr ∈ f.parts) (hr_PWR_STATUS : f.regs .PWR_STATUS = true) :
    Fr f a (Chip.outMoved c n_ d_ b_ len_) := by
  unfold Chip.outMoved
  repeat' first
    | with_reducible assumption
    | with_reducible apply Chip.updDrop_fr
    | with_reducible apply Chip.updStrm_fr
    | with_reducible apply Chip.jobMoved_fr
    | intro _
    | split
    | (extract_lets +onlyGivenNames x; refine (fun hx : Fr f a x => ?_) ?_; (on_goal 1 => clear_value x); (on_goal 2 => subst x))
    | (extract_lets +onlyGivenNames x; refine (fun hx : Fr f a x.2 => ?_) ?_; (on_goal 1 => clear_value x); (on_goal 2 => subst x))
    | (extract_lets +onlyGivenNames x; clear_value x)
    | dsimp only

theorem Chip.wired_fr {f : Frame} {a c : Chip} {n_} {p_} {len_} (h : Fr f a c) (hp_ports : Part.ports ∈ f.parts) :
    Fr f a (Chip.wired c n_ p_ len_) := by
  unfold Chip.wired
  repeat' first
    | with_reducible assumption
    | with_reducible apply Chip.updDrop_fr
    | intro _
    | split
    | (extract_lets +onlyGivenNames x; refine (fun hx : Fr f a x => ?_) ?_; (on_goal 1 => clear_value x); (on_goal 2 => subst x))
    | (extract_lets +onlyGivenNames x; refine (fun hx : Fr f a x.2 => ?_) ?_; (on_goal 1 => clear_value x); (on_goal 2 => subst x))
    | (extract_lets +onlyGivenNames x; clear_value x)
    | dsimp only

theorem Chip.ctlFail_fr {f : Frame} {a c : Chip} {n_} {d_} {x_} {k_} {err_} (h : Fr f a c) (hp_trunk : Part.trunk ∈ f.parts) (hp_doors : Part.doors ∈ f.parts) (hp_reqs : Part.reqs ∈ f.parts) (hp_rates : Part.rates ∈ f.parts) (hp_pond : Part.pond ∈ f.parts) (hp_engines : Part.engines ∈ f.parts) (hp_basins : Part.basins ∈ f.parts) (hp_ports : Part.ports ∈ f.parts) (hp_svc : Part.svc ∈ f.parts) (hp_pwr : Part.pwr ∈ f.parts) (hr_DROP_XFER_ERR : ∀ n, f.regs (.DROP_XFER_ERR n) = true) (hr_HOLDER_USED : ∀ n, f.regs (.HOLDER_USED n) = true) (hr_POND_FREE : f.regs .POND_FREE = true) (hr_POND_STATUS : f.regs .POND_STATUS = true) (hr_POND_WAIT : f.regs .POND_WAIT = true) (hr_PWR_STATUS : f.regs .PWR_STATUS = true) (hr_SVC_STATUS : f.regs .SVC_STATUS = true) :
    Fr f a (Chip.ctlFail c n_ d_ x_ k_ err_) := by
  unfold Chip.ctlFail
  repeat' first
    | with_reducible assumption
    | with_reducible exact hr_DROP_XFER_ERR _
    | with_reducible exact hr_HOLDER_USED _
    | with_reducible apply Chip.incSat_fr
    | with_reducible apply Chip.splitFailed_fr
    | with_reducible apply Chip.putRun_fr
    | with_reducible apply Chip.dropRuns_fr
    | with_reducible apply Chip.ctlTimeout_fr
    | with_reducible apply Chip.evAborted_fr
    | intro _
    | split
    | (extract_lets +onlyGivenNames x; refine (fun hx : Fr f a x => ?_) ?_; (on_goal 1 => clear_value x); (on_goal 2 => subst x))
    | (extract_lets +onlyGivenNames x; refine (fun hx : Fr f a x.2 => ?_) ?_; (on_goal 1 => clear_value x); (on_goal 2 => subst x))
    | (extract_lets +onlyGivenNames x; clear_value x)
    | dsimp only

theorem Chip.pingDone_fr {f : Frame} {a c : Chip} {n_} {d_} {b_} (h : Fr f a c) (hp_ports : Part.ports ∈ f.parts) :
    Fr f a (Chip.pingDone c n_ d_ b_) := by
  unfold Chip.pingDone
  repeat' first
    | with_reducible assumption
    | with_reducible apply Chip.putRun_fr
    | intro _
    | split
    | (extract_lets +onlyGivenNames x; refine (fun hx : Fr f a x => ?_) ?_; (on_goal 1 => clear_value x); (on_goal 2 => subst x))
    | (extract_lets +onlyGivenNames x; refine (fun hx : Fr f a x.2 => ?_) ?_; (on_goal 1 => clear_value x); (on_goal 2 => subst x))
    | (extract_lets +onlyGivenNames x; clear_value x)
    | dsimp only

theorem Chip.ctlStage_fr {f : Frame} {a c : Chip} {n_} {k_} {f_} (h : Fr f a c) (hp_ports : Part.ports ∈ f.parts) :
    Fr f a (Chip.ctlStage c n_ k_ f_) := by
  unfold Chip.ctlStage
  repeat' first
    | with_reducible assumption
    | with_reducible apply Chip.updDrop_fr
    | intro _
    | split
    | (extract_lets +onlyGivenNames x; refine (fun hx : Fr f a x => ?_) ?_; (on_goal 1 => clear_value x); (on_goal 2 => subst x))
    | (extract_lets +onlyGivenNames x; refine (fun hx : Fr f a x.2 => ?_) ?_; (on_goal 1 => clear_value x); (on_goal 2 => subst x))
    | (extract_lets +onlyGivenNames x; clear_value x)
    | dsimp only

theorem Chip.pidMismatch_fr {f : Frame} {a c : Chip} {n_} {d_} {b_} (h : Fr f a c) (hp_doors : Part.doors ∈ f.parts) (hp_ports : Part.ports ∈ f.parts) (hr_DROP_XFER_ERR : ∀ n, f.regs (.DROP_XFER_ERR n) = true) :
    Fr f a (Chip.pidMismatch c n_ d_ b_) := by
  unfold Chip.pidMismatch
  repeat' first
    | with_reducible assumption
    | with_reducible exact hr_DROP_XFER_ERR _
    | with_reducible apply Chip.incSat_fr
    | with_reducible apply Chip.putRun_fr
    | with_reducible apply Chip.post_fr
    | with_reducible apply Chip.bump_fr
    | intro _
    | split
    | (extract_lets +onlyGivenNames x; refine (fun hx : Fr f a x => ?_) ?_; (on_goal 1 => clear_value x); (on_goal 2 => subst x))
    | (extract_lets +onlyGivenNames x; refine (fun hx : Fr f a x.2 => ?_) ?_; (on_goal 1 => clear_value x); (on_goal 2 => subst x))
    | (extract_lets +onlyGivenNames x; clear_value x)
    | dsimp only

theorem Chip.epStall_fr {f : Frame} {a c : Chip} {n_} {d_} {x_} {moved_} (h : Fr f a c) (hp_doors : Part.doors ∈ f.parts) (hp_pond : Part.pond ∈ f.parts) (hp_engines : Part.engines ∈ f.parts) (hp_ports : Part.ports ∈ f.parts) :
    Fr f a (Chip.epStall c n_ d_ x_ moved_) := by
  unfold Chip.epStall
  repeat' first
    | with_reducible assumption
    | with_reducible apply Chip.engWrite_fr
    | with_reducible apply Chip.dropRuns_fr
    | with_reducible apply Chip.post_fr
    | intro _
    | split
    | (extract_lets +onlyGivenNames x; refine (fun hx : Fr f a x => ?_) ?_; (on_goal 1 => clear_value x); (on_goal 2 => subst x))
    | (extract_lets +onlyGivenNames x; refine (fun hx : Fr f a x.2 => ?_) ?_; (on_goal 1 => clear_value x); (on_goal 2 => subst x))
    | (extract_lets +onlyGivenNames x; clear_value x)
    | dsimp only

theorem Chip.ctlTransaction_fr {f : Frame} {a c : Chip} {n_} {d_} {x_} {k_} {r_} (h : Fr f a c) (hp_trunk : Part.trunk ∈ f.parts) (hp_doors : Part.doors ∈ f.parts) (hp_reqs : Part.reqs ∈ f.parts) (hp_rates : Part.rates ∈ f.parts) (hp_pond : Part.pond ∈ f.parts) (hp_engines : Part.engines ∈ f.parts) (hp_basins : Part.basins ∈ f.parts) (hp_ports : Part.ports ∈ f.parts) (hp_svc : Part.svc ∈ f.parts) (hp_pwr : Part.pwr ∈ f.parts) (hr_DROP_SCHED : ∀ n, f.regs (.DROP_SCHED n) = true) (hr_DROP_STATUS : ∀ n, f.regs (.DROP_STATUS n) = true) (hr_DROP_XFER_ERR : ∀ n, f.regs (.DROP_XFER_ERR n) = true) (hr_HOLDER_USED : ∀ n, f.regs (.HOLDER_USED n) = true) (hr_POND_FREE : f.regs .POND_FREE = true) (hr_POND_STATUS : f.regs .POND_STATUS = true) (hr_POND_WAIT : f.regs .POND_WAIT = true) (hr_PWR_STATUS : f.regs .PWR_STATUS = true) (hr_SVC_STATUS : f.regs .SVC_STATUS = true) :
    Fr f a (Chip.ctlTransaction c n_ d_ x_ k_ r_) := by
  unfold Chip.ctlTransaction
  repeat' first
    | with_reducible assumption
    | with_reducible exact hr_DROP_SCHED _
    | with_reducible exact hr_DROP_STATUS _
    | with_reducible exact hr_DROP_XFER_ERR _
    | with_reducible exact hr_HOLDER_USED _
    | with_reducible apply Chip.ctlEnd_fr
    | with_reducible apply Chip.dropRuns_fr
    | with_reducible apply Chip.ctlFail_fr
    | with_reducible apply Chip.epNak_fr
    | with_reducible apply Chip.splitOk_fr
    | with_reducible apply Chip.epStall_fr
    | with_reducible apply Chip.updEps_fr
    | with_reducible apply Chip.putRun_fr
    | with_reducible apply Chip.ctlStage_fr
    | with_reducible apply Chip.wired_fr
    | with_reducible apply Chip.pingDone_fr
    | with_reducible apply Chip.pidMismatch_fr
    | with_reducible apply Chip.epMoved_fr
    | intro _
    | split
    | (extract_lets +onlyGivenNames x; refine (fun hx : Fr f a x => ?_) ?_; (on_goal 1 => clear_value x); (on_goal 2 => subst x))
    | (extract_lets +onlyGivenNames x; refine (fun hx : Fr f a x.2 => ?_) ?_; (on_goal 1 => clear_value x); (on_goal 2 => subst x))
    | (extract_lets +onlyGivenNames x; subst x)
    | dsimp only

theorem Chip.isoIn_fr {f : Frame} {a c : Chip} {n_} {d_} {x_} {len_} {pid_} (h : Fr f a c) (hp_doors : Part.doors ∈ f.parts) (hp_pond : Part.pond ∈ f.parts) (hp_engines : Part.engines ∈ f.parts) (hp_basins : Part.basins ∈ f.parts) (hp_ports : Part.ports ∈ f.parts) (hp_pwr : Part.pwr ∈ f.parts) (hr_PWR_STATUS : f.regs .PWR_STATUS = true) :
    Fr f a (Chip.isoIn c n_ d_ x_ len_ pid_) := by
  unfold Chip.isoIn
  repeat' first
    | with_reducible assumption
    | with_reducible apply Chip.epMoved_fr
    | with_reducible apply Chip.wired_fr
    | with_reducible apply Chip.xferEnds_fr
    | with_reducible apply Chip.putRun_fr
    | intro _
    | split
    | (extract_lets +onlyGivenNames x; refine (fun hx : Fr f a x => ?_) ?_; (on_goal 1 => clear_value x); (on_goal 2 => subst x))
    | (extract_lets +onlyGivenNames x; refine (fun hx : Fr f a x.2 => ?_) ?_; (on_goal 1 => clear_value x); (on_goal 2 => subst x))
    | (extract_lets +onlyGivenNames x; clear_value x)
    | dsimp only

theorem Chip.isoOutPacket_fr {f : Frame} {a c : Chip} {n_} {d_} {x_} {left_} {off_} (h : Fr f a c) (hp_doors : Part.doors ∈ f.parts) (hp_rates : Part.rates ∈ f.parts) (hp_pond : Part.pond ∈ f.parts) (hp_engines : Part.engines ∈ f.parts) (hp_basins : Part.basins ∈ f.parts) (hp_ports : Part.ports ∈ f.parts) (hp_svc : Part.svc ∈ f.parts) (hp_pwr : Part.pwr ∈ f.parts) (hr_PWR_STATUS : f.regs .PWR_STATUS = true) :
    Fr f a (Chip.isoOutPacket c n_ d_ x_ left_ off_) := by
  unfold Chip.isoOutPacket
  repeat' first
    | with_reducible assumption
    | with_reducible apply Chip.wired_fr
    | with_reducible apply Chip.outMoved_fr
    | with_reducible apply Chip.epMoved_fr
    | intro _
    | split
    | (extract_lets +onlyGivenNames x; refine (fun hx : Fr f a x => ?_) ?_; (on_goal 1 => clear_value x); (on_goal 2 => subst x))
    | (extract_lets +onlyGivenNames x; refine (fun hx : Fr f a x.2 => ?_) ?_; (on_goal 1 => clear_value x); (on_goal 2 => subst x))
    | (extract_lets +onlyGivenNames x; clear_value x)
    | dsimp only

theorem Chip.askStatus_fr {f : Frame} {a c : Chip} {n_} {d_} {b_} (h : Fr f a c) (hp_ports : Part.ports ∈ f.parts) :
    Fr f a (Chip.askStatus c n_ d_ b_) := by
  unfold Chip.askStatus
  repeat' first
    | with_reducible assumption
    | with_reducible apply Chip.svcCtl_fr
    | intro _
    | split
    | (extract_lets +onlyGivenNames x; refine (fun hx : Fr f a x => ?_) ?_; (on_goal 1 => clear_value x); (on_goal 2 => subst x))
    | (extract_lets +onlyGivenNames x; refine (fun hx : Fr f a x.2 => ?_) ?_; (on_goal 1 => clear_value x); (on_goal 2 => subst x))
    | (extract_lets +onlyGivenNames x; clear_value x)
    | dsimp only

theorem Chip.dataTransaction_fr {f : Frame} {a c : Chip} {n_} {d_} {x_} {left_} {off_} {r_} (h : Fr f a c) (hp_doors : Part.doors ∈ f.parts) (hp_rates : Part.rates ∈ f.parts) (hp_pond : Part.pond ∈ f.parts) (hp_engines : Part.engines ∈ f.parts) (hp_basins : Part.basins ∈ f.parts) (hp_ports : Part.ports ∈ f.parts) (hp_svc : Part.svc ∈ f.parts) (hp_pwr : Part.pwr ∈ f.parts) (hr_DROP_XFER_ERR : ∀ n, f.regs (.DROP_XFER_ERR n) = true) (hr_PWR_STATUS : f.regs .PWR_STATUS = true) :
    Fr f a (Chip.dataTransaction c n_ d_ x_ left_ off_ r_) := by
  unfold Chip.dataTransaction
  repeat' first
    | with_reducible assumption
    | with_reducible exact hr_DROP_XFER_ERR _
    | with_reducible apply Chip.splitOk_fr
    | with_reducible apply Chip.isoIn_fr
    | with_reducible apply Chip.isoOutPacket_fr
    | with_reducible apply Chip.pingDone_fr
    | with_reducible apply Chip.wired_fr
    | with_reducible apply Chip.pidMismatch_fr
    | with_reducible apply Chip.epMoved_fr
    | with_reducible apply Chip.outMoved_fr
    | with_reducible apply Chip.epNak_fr
    | with_reducible apply Chip.askStatus_fr
    | with_reducible apply Chip.epStall_fr
    | with_reducible apply Chip.epFailed_fr
    | intro _
    | split
    | (extract_lets +onlyGivenNames x; refine (fun hx : Fr f a x => ?_) ?_; (on_goal 1 => clear_value x); (on_goal 2 => subst x))
    | (extract_lets +onlyGivenNames x; refine (fun hx : Fr f a x.2 => ?_) ?_; (on_goal 1 => clear_value x); (on_goal 2 => subst x))
    | (extract_lets +onlyGivenNames x; clear_value x)
    | dsimp only

theorem Chip.splitMark_fr {f : Frame} {a c : Chip} {n_} {d_} {b_} {st_} (h : Fr f a c) (hp_ports : Part.ports ∈ f.parts) :
    Fr f a (Chip.splitMark c n_ d_ b_ st_) := by
  unfold Chip.splitMark
  repeat' first
    | with_reducible assumption
    | with_reducible apply Chip.updDrop_fr
    | intro _
    | split
    | (extract_lets +onlyGivenNames x; refine (fun hx : Fr f a x => ?_) ?_; (on_goal 1 => clear_value x); (on_goal 2 => subst x))
    | (extract_lets +onlyGivenNames x; refine (fun hx : Fr f a x.2 => ?_) ?_; (on_goal 1 => clear_value x); (on_goal 2 => subst x))
    | (extract_lets +onlyGivenNames x; clear_value x)
    | dsimp only

theorem Chip.partMoved_fr {f : Frame} {a c : Chip} {n_} {d_} {x_} {r_} (h : Fr f a c) (hp_doors : Part.doors ∈ f.parts) (hp_pond : Part.pond ∈ f.parts) (hp_engines : Part.engines ∈ f.parts) (hp_basins : Part.basins ∈ f.parts) (hp_ports : Part.ports ∈ f.parts) (hp_pwr : Part.pwr ∈ f.parts) (hr_PWR_STATUS : f.regs .PWR_STATUS = true) :
    Fr f a (Chip.partMoved c n_ d_ x_ r_) := by
  unfold Chip.partMoved
  repeat' first
    | with_reducible assumption
    | with_reducible apply Chip.epMoved_fr
    | with_reducible apply Chip.splitOk_fr
    | intro _
    | split
    | (extract_lets +onlyGivenNames x; refine (fun hx : Fr f a x => ?_) ?_; (on_goal 1 => clear_value x); (on_goal 2 => subst x))
    | (extract_lets +onlyGivenNames x; refine (fun hx : Fr f a x.2 => ?_) ?_; (on_goal 1 => clear_value x); (on_goal 2 => subst x))
    | (extract_lets +onlyGivenNames x; clear_value x)
    | dsimp only

theorem Chip.periodicTurn_fr {f : Frame} {a c : Chip} {n_} {t_} {more_} (h : Fr f a c) (hp_ports : Part.ports ∈ f.parts) :
    Fr f a (Chip.periodicTurn c n_ t_ more_) := by
  unfold Chip.periodicTurn
  repeat' first
    | with_reducible assumption
    | with_reducible apply Chip.updDrop_fr
    | intro _
    | split
    | (extract_lets +onlyGivenNames x; refine (fun hx : Fr f a x => ?_) ?_; (on_goal 1 => clear_value x); (on_goal 2 => subst x))
    | (extract_lets +onlyGivenNames x; refine (fun hx : Fr f a x.2 => ?_) ?_; (on_goal 1 => clear_value x); (on_goal 2 => subst x))
    | (extract_lets +onlyGivenNames x; clear_value x)
    | dsimp only

theorem Chip.bulkTurn_fr {f : Frame} {a c : Chip} {n_} {t_} {b_} {moved_} (h : Fr f a c) (hp_ports : Part.ports ∈ f.parts) :
    Fr f a (Chip.bulkTurn c n_ t_ b_ moved_) := by
  unfold Chip.bulkTurn
  repeat' first
    | with_reducible assumption
    | with_reducible apply Chip.updDrop_fr
    | intro _
    | split
    | (extract_lets +onlyGivenNames x; refine (fun hx : Fr f a x => ?_) ?_; (on_goal 1 => clear_value x); (on_goal 2 => subst x))
    | (extract_lets +onlyGivenNames x; refine (fun hx : Fr f a x.2 => ?_) ?_; (on_goal 1 => clear_value x); (on_goal 2 => subst x))
    | (extract_lets +onlyGivenNames x; clear_value x)
    | dsimp only

theorem Chip.controlTurn_fr {f : Frame} {a c : Chip} {n_} {k_} {acked_} (h : Fr f a c) (hp_ports : Part.ports ∈ f.parts) :
    Fr f a (Chip.controlTurn c n_ k_ acked_) := by
  unfold Chip.controlTurn
  repeat' first
    | with_reducible assumption
    | with_reducible apply Chip.updDrop_fr
    | intro _
    | split
    | (extract_lets +onlyGivenNames x; refine (fun hx : Fr f a x => ?_) ?_; (on_goal 1 => clear_value x); (on_goal 2 => subst x))
    | (extract_lets +onlyGivenNames x; refine (fun hx : Fr f a x.2 => ?_) ?_; (on_goal 1 => clear_value x); (on_goal 2 => subst x))
    | (extract_lets +onlyGivenNames x; clear_value x)
    | dsimp only

theorem Chip.transact_fr {f : Frame} {a c : Chip} {n_} {d_} {x_} {turn_} {r_} (h : Fr f a c) (hp_trunk : Part.trunk ∈ f.parts) (hp_doors : Part.doors ∈ f.parts) (hp_reqs : Part.reqs ∈ f.parts) (hp_rates : Part.rates ∈ f.parts) (hp_pond : Part.pond ∈ f.parts) (hp_engines : Part.engines ∈ f.parts) (hp_basins : Part.basins ∈ f.parts) (hp_ports : Part.ports ∈ f.parts) (hp_svc : Part.svc ∈ f.parts) (hp_pwr : Part.pwr ∈ f.parts) (hr_DROP_SCHED : ∀ n, f.regs (.DROP_SCHED n) = true) (hr_DROP_STATUS : ∀ n, f.regs (.DROP_STATUS n) = true) (hr_DROP_XFER_ERR : ∀ n, f.regs (.DROP_XFER_ERR n) = true) (hr_HOLDER_USED : ∀ n, f.regs (.HOLDER_USED n) = true) (hr_POND_FREE : f.regs .POND_FREE = true) (hr_POND_STATUS : f.regs .POND_STATUS = true) (hr_POND_WAIT : f.regs .POND_WAIT = true) (hr_PWR_STATUS : f.regs .PWR_STATUS = true) (hr_SVC_STATUS : f.regs .SVC_STATUS = true) :
    Fr f a (Chip.transact c n_ d_ x_ turn_ r_) := by
  unfold Chip.transact
  repeat' first
    | with_reducible assumption
    | with_reducible exact hr_DROP_SCHED _
    | with_reducible exact hr_DROP_STATUS _
    | with_reducible exact hr_DROP_XFER_ERR _
    | with_reducible exact hr_HOLDER_USED _
    | with_reducible apply Chip.touchBy_fr
    | with_reducible apply Chip.partMoved_fr
    | with_reducible apply Chip.putRun_fr
    | with_reducible apply Chip.splitMark_fr
    | with_reducible apply Chip.ctlStage_fr
    | with_reducible apply Chip.updDrop_fr
    | with_reducible apply Chip.ctlTransaction_fr
    | with_reducible apply Chip.controlTurn_fr
    | with_reducible apply Chip.dataTransaction_fr
    | with_reducible apply Chip.periodicTurn_fr
    | with_reducible apply Chip.bulkTurn_fr
    | intro _
    | split
    | (extract_lets +onlyGivenNames x; refine (fun hx : Fr f a x => ?_) ?_; (on_goal 1 => clear_value x); (on_goal 2 => subst x))
    | (extract_lets +onlyGivenNames x; refine (fun hx : Fr f a x.2 => ?_) ?_; (on_goal 1 => clear_value x); (on_goal 2 => subst x))
    | (extract_lets +onlyGivenNames x; clear_value x)
    | dsimp only

end Sys2Proof.Laws
end

