-- ==== Sys2Proof/Laws/FrameUnits.lean ====
section
/-! SUPPORT. What the shared operations of Machine/EngOps, TrunkOps, SeicheOps, ResetOps, XspiOps, FabOps can change (frames), and that they keep the canonical
forms. -/

set_option linter.all false

namespace Sys2Proof.Laws

open Sys2Proof.Machine

/-! ### Machine/EngOps.lean -/

theorem Chip.openLadder_fr {f : Frame} {a c : Chip} {l_} {i_} {rung_} {span_} {code_} (h : Fr f a c) (hp_ladders : Part.ladders ∈ f.parts) :
    Fr f a (Chip.openLadder c l_ i_ rung_ span_ code_) := by
  unfold Chip.openLadder
  repeat' first
    | with_reducible assumption
    | intro _
    | split
    | (extract_lets +onlyGivenNames x; refine (fun hx : Fr f a x => ?_) ?_; (on_goal 1 => clear_value x); (on_goal 2 => subst x))
    | (extract_lets +onlyGivenNames x; refine (fun hx : Fr f a x.2 => ?_) ?_; (on_goal 1 => clear_value x); (on_goal 2 => subst x))
    | (extract_lets +onlyGivenNames x; clear_value x)
    | with_reducible refine Fr.ladders ?_ ?_ _
    | dsimp only

theorem Chip.closeLadder_fr {f : Frame} {a c : Chip} {l_} {i_} (h : Fr f a c) (hp_ladders : Part.ladders ∈ f.parts) :
    Fr f a (Chip.closeLadder c l_ i_) := by
  unfold Chip.closeLadder
  repeat' first
    | with_reducible assumption
    | intro _
    | split
    | (extract_lets +onlyGivenNames x; refine (fun hx : Fr f a x => ?_) ?_; (on_goal 1 => clear_value x); (on_goal 2 => subst x))
    | (extract_lets +onlyGivenNames x; refine (fun hx : Fr f a x.2 => ?_) ?_; (on_goal 1 => clear_value x); (on_goal 2 => subst x))
    | (extract_lets +onlyGivenNames x; clear_value x)
    | with_reducible refine Fr.ladders ?_ ?_ _
    | dsimp only

theorem Chip.syncBasin_fr {f : Frame} {a c : Chip} {b_} (h : Fr f a c) (hr_ENG_BASIN : ∀ n, f.regs (.ENG_BASIN n) = true) :
    Fr f a (Chip.syncBasin c b_) := by
  unfold Chip.syncBasin
  repeat' first
    | with_reducible assumption
    | with_reducible exact hr_ENG_BASIN _
    | with_reducible apply Chip.bump_fr
    | with_reducible apply Fr.wr
    | intro _
    | split
    | (extract_lets +onlyGivenNames x; refine (fun hx : Fr f a x => ?_) ?_; (on_goal 1 => clear_value x); (on_goal 2 => subst x))
    | (extract_lets +onlyGivenNames x; refine (fun hx : Fr f a x.2 => ?_) ?_; (on_goal 1 => clear_value x); (on_goal 2 => subst x))
    | (extract_lets +onlyGivenNames x; clear_value x)
    | dsimp only

theorem Chip.giveRole_fr {f : Frame} {a c : Chip} {e_} {r_} {also_} (h : Fr f a c) (hp_doors : Part.doors ∈ f.parts) (hp_engines : Part.engines ∈ f.parts) :
    Fr f a (Chip.giveRole c e_ r_ also_) := by
  unfold Chip.giveRole
  repeat' first
    | with_reducible assumption
    | with_reducible apply Chip.bumpEngine_fr
    | with_reducible apply Chip.updEng_fr
    | intro _
    | split
    | (extract_lets +onlyGivenNames x; refine (fun hx : Fr f a x => ?_) ?_; (on_goal 1 => clear_value x); (on_goal 2 => subst x))
    | (extract_lets +onlyGivenNames x; refine (fun hx : Fr f a x.2 => ?_) ?_; (on_goal 1 => clear_value x); (on_goal 2 => subst x))
    | (extract_lets +onlyGivenNames x; clear_value x)
    | dsimp only

theorem Chip.spread_fr2 {f : Frame} {a c : Chip} {b_} {ps_} (h : Fr f a c) (hp_doors : Part.doors ∈ f.parts) (hp_engines : Part.engines ∈ f.parts) :
    Fr f a (Chip.spread c b_ ps_).2 := by
  unfold Chip.spread
  repeat' first
    | with_reducible assumption
    | with_reducible apply Chip.bumpEngine_fr
    | with_reducible apply Chip.updEng_fr
    | with_reducible apply Fr.foldPair
    | intro _
    | split
    | (extract_lets +onlyGivenNames x; refine (fun hx : Fr f a x => ?_) ?_; (on_goal 1 => clear_value x); (on_goal 2 => subst x))
    | (extract_lets +onlyGivenNames x; refine (fun hx : Fr f a x.2 => ?_) ?_; (on_goal 1 => clear_value x); (on_goal 2 => subst x))
    | (extract_lets +onlyGivenNames x; clear_value x)
    | dsimp only

theorem Chip.spread_fr {f : Frame} {a c c1 : Chip} {b_} {ps_} {y1} (e : Chip.spread c b_ ps_ = (y1, c1)) (h : Fr f a c) (hp_doors : Part.doors ∈ f.parts) (hp_engines : Part.engines ∈ f.parts) :
    Fr f a c1 := by
  have key := Chip.spread_fr2 (b_ := b_) (ps_ := ps_) h hp_doors hp_engines
  rwa [e] at key

theorem Chip.rehome_fr2 {f : Frame} {a c : Chip} {b_} {r_} {also_} (h : Fr f a c) (hp_doors : Part.doors ∈ f.parts) (hp_engines : Part.engines ∈ f.parts) :
    Fr f a (Chip.rehome c b_ r_ also_).2 := by
  unfold Chip.rehome
  repeat' first
    | with_reducible assumption
    | with_reducible apply Chip.giveRole_fr
    | with_reducible refine Chip.spread_fr ‹_› ?_ ?_ ?_
    | with_reducible apply Chip.spread_fr2
    | with_reducible refine Fr.ofIte ‹_› ?_ ?_
    | intro _
    | split
    | (extract_lets +onlyGivenNames x; refine (fun hx : Fr f a x => ?_) ?_; (on_goal 1 => clear_value x); (on_goal 2 => subst x))
    | (extract_lets +onlyGivenNames x; refine (fun hx : Fr f a x.2 => ?_) ?_; (on_goal 1 => clear_value x); (on_goal 2 => subst x))
    | (extract_lets +onlyGivenNames x; clear_value x)
    | dsimp only

theorem Chip.rehome_fr {f : Frame} {a c c1 : Chip} {b_} {r_} {also_} {y1} (e : Chip.rehome c b_ r_ also_ = (y1, c1)) (h : Fr f a c) (hp_doors : Part.doors ∈ f.parts) (hp_engines : Part.engines ∈ f.parts) :
    Fr f a c1 := by
  have key := Chip.rehome_fr2 (b_ := b_) (r_ := r_) (also_ := also_) h hp_doors hp_engines
  rwa [e] at key

theorem Chip.takeOver_fr {f : Frame} {a c : Chip} {e_} (h : Fr f a c) (hp_clk : Part.clk ∈ f.parts) (hp_doors : Part.doors ∈ f.parts) (hp_cullet : Part.cullet ∈ f.parts) (hp_rates : Part.rates ∈ f.parts) (hp_engines : Part.engines ∈ f.parts) (hp_bead : Part.bead ∈ f.parts) (hr_ENG_BASIN : ∀ n, f.regs (.ENG_BASIN n) = true) (hr_GLB_FAULT : f.regs .GLB_FAULT = true) :
    Fr f a (Chip.takeOver c e_) := by
  unfold Chip.takeOver
  repeat' first
    | with_reducible assumption
    | with_reducible exact hr_ENG_BASIN _
    | with_reducible apply Chip.cullDev_fr
    | with_reducible apply Chip.updEng_fr
    | with_reducible apply Chip.bumpEngine_fr
    | with_reducible apply Chip.giveRole_fr
    | with_reducible refine Chip.rehome_fr ‹_› ?_ ?_ ?_
    | with_reducible apply Chip.rehome_fr2
    | with_reducible apply Chip.syncBasin_fr
    | with_reducible apply Chip.postFault_fr
    | with_reducible apply Fr.each
    | with_reducible apply Chip.post_fr
    | with_reducible refine Fr.ofIte ‹_› ?_ ?_
    | intro _
    | split
    | (extract_lets +onlyGivenNames x; refine (fun hx : Fr f a x => ?_) ?_; (on_goal 1 => clear_value x); (on_goal 2 => subst x))
    | (extract_lets +onlyGivenNames x; refine (fun hx : Fr f a x.2 => ?_) ?_; (on_goal 1 => clear_value x); (on_goal 2 => subst x))
    | (extract_lets +onlyGivenNames x; clear_value x)
    | dsimp only

theorem Chip.cullEngine_fr {f : Frame} {a c : Chip} {e_} {lost_} (h : Fr f a c) (hp_svc : Part.svc ∈ f.parts) :
    Fr f a (Chip.cullEngine c e_ lost_) := by
  unfold Chip.cullEngine
  repeat' first
    | with_reducible assumption
    | with_reducible apply Chip.culletRecs_fr
    | intro _
    | split
    | (extract_lets +onlyGivenNames x; refine (fun hx : Fr f a x => ?_) ?_; (on_goal 1 => clear_value x); (on_goal 2 => subst x))
    | (extract_lets +onlyGivenNames x; refine (fun hx : Fr f a x.2 => ?_) ?_; (on_goal 1 => clear_value x); (on_goal 2 => subst x))
    | (extract_lets +onlyGivenNames x; clear_value x)
    | dsimp only

theorem Chip.quarantine_fr {f : Frame} {a c : Chip} {e_} {cause_} {lost_} (h : Fr f a c) (hp_doors : Part.doors ∈ f.parts) (hp_engines : Part.engines ∈ f.parts) (hp_svc : Part.svc ∈ f.parts) (hr_ENG_BASIN : ∀ n, f.regs (.ENG_BASIN n) = true) (hr_ENG_QUAR : ∀ n, f.regs (.ENG_QUAR n) = true) :
    Fr f a (Chip.quarantine c e_ cause_ lost_) := by
  unfold Chip.quarantine
  repeat' first
    | with_reducible assumption
    | with_reducible exact hr_ENG_BASIN _
    | with_reducible exact hr_ENG_QUAR _
    | with_reducible apply Chip.cullEngine_fr
    | with_reducible apply Chip.updEng_fr
    | with_reducible apply Chip.bumpEngine_fr
    | with_reducible apply Fr.wr
    | with_reducible apply Chip.syncBasin_fr
    | intro _
    | split
    | (extract_lets +onlyGivenNames x; refine (fun hx : Fr f a x => ?_) ?_; (on_goal 1 => clear_value x); (on_goal 2 => subst x))
    | (extract_lets +onlyGivenNames x; refine (fun hx : Fr f a x.2 => ?_) ?_; (on_goal 1 => clear_value x); (on_goal 2 => subst x))
    | (extract_lets +onlyGivenNames x; clear_value x)
    | dsimp only

/-! ### Machine/TrunkOps.lean -/

theorem Chip.syncTrunk_fr {f : Frame} {a c : Chip}  (h : Fr f a c) (hr_TRK_STATUS : f.regs .TRK_STATUS = true) :
    Fr f a (Chip.syncTrunk c) := by
  unfold Chip.syncTrunk
  repeat' first
    | with_reducible assumption
    | with_reducible apply Chip.setSt_fr
    | intro _
    | split
    | (extract_lets +onlyGivenNames x; refine (fun hx : Fr f a x => ?_) ?_; (on_goal 1 => clear_value x); (on_goal 2 => subst x))
    | (extract_lets +onlyGivenNames x; refine (fun hx : Fr f a x.2 => ?_) ?_; (on_goal 1 => clear_value x); (on_goal 2 => subst x))
    | (extract_lets +onlyGivenNames x; clear_value x)
    | dsimp only

theorem Chip.setUp_fr {f : Frame} {a c : Chip} {l_} {b_} (h : Fr f a c) (hr_TRK_STATUS : f.regs .TRK_STATUS = true) :
    Fr f a (Chip.setUp c l_ b_) := by
  unfold Chip.setUp
  repeat' first
    | with_reducible assumption
    | with_reducible apply Chip.setStBit_fr
    | intro _
    | split
    | (extract_lets +onlyGivenNames x; refine (fun hx : Fr f a x => ?_) ?_; (on_goal 1 => clear_value x); (on_goal 2 => subst x))
    | (extract_lets +onlyGivenNames x; refine (fun hx : Fr f a x.2 => ?_) ?_; (on_goal 1 => clear_value x); (on_goal 2 => subst x))
    | (extract_lets +onlyGivenNames x; clear_value x)
    | dsimp only

theorem Chip.setDegr_fr {f : Frame} {a c : Chip} {l_} {b_} (h : Fr f a c) (hr_TRK_STATUS : f.regs .TRK_STATUS = true) :
    Fr f a (Chip.setDegr c l_ b_) := by
  unfold Chip.setDegr
  repeat' first
    | with_reducible assumption
    | with_reducible apply Chip.setStBit_fr
    | intro _
    | split
    | (extract_lets +onlyGivenNames x; refine (fun hx : Fr f a x => ?_) ?_; (on_goal 1 => clear_value x); (on_goal 2 => subst x))
    | (extract_lets +onlyGivenNames x; refine (fun hx : Fr f a x.2 => ?_) ?_; (on_goal 1 => clear_value x); (on_goal 2 => subst x))
    | (extract_lets +onlyGivenNames x; clear_value x)
    | dsimp only

theorem Chip.setActive_fr {f : Frame} {a c : Chip} {l_} (h : Fr f a c) (hr_TRK_STATUS : f.regs .TRK_STATUS = true) :
    Fr f a (Chip.setActive c l_) := by
  unfold Chip.setActive
  repeat' first
    | with_reducible assumption
    | with_reducible apply Chip.setSt_fr
    | intro _
    | split
    | (extract_lets +onlyGivenNames x; refine (fun hx : Fr f a x => ?_) ?_; (on_goal 1 => clear_value x); (on_goal 2 => subst x))
    | (extract_lets +onlyGivenNames x; refine (fun hx : Fr f a x.2 => ?_) ?_; (on_goal 1 => clear_value x); (on_goal 2 => subst x))
    | (extract_lets +onlyGivenNames x; clear_value x)
    | dsimp only

theorem Chip.frameErr_fr {f : Frame} {a c : Chip} {l_} (h : Fr f a c) (hr_TRK_ERR : ∀ n, f.regs (.TRK_ERR n) = true) :
    Fr f a (Chip.frameErr c l_) := by
  unfold Chip.frameErr
  repeat' first
    | with_reducible assumption
    | with_reducible exact hr_TRK_ERR _
    | with_reducible apply Chip.incSat_fr
    | intro _
    | split
    | (extract_lets +onlyGivenNames x; refine (fun hx : Fr f a x => ?_) ?_; (on_goal 1 => clear_value x); (on_goal 2 => subst x))
    | (extract_lets +onlyGivenNames x; refine (fun hx : Fr f a x.2 => ?_) ?_; (on_goal 1 => clear_value x); (on_goal 2 => subst x))
    | (extract_lets +onlyGivenNames x; clear_value x)
    | dsimp only

theorem Chip.syncSpill_fr {f : Frame} {a c : Chip}  (h : Fr f a c) (hr_TRK_SPILL : f.regs .TRK_SPILL = true) :
    Fr f a (Chip.syncSpill c) := by
  unfold Chip.syncSpill
  repeat' first
    | with_reducible assumption
    | with_reducible apply Chip.setF_fr
    | intro _
    | split
    | (extract_lets +onlyGivenNames x; refine (fun hx : Fr f a x => ?_) ?_; (on_goal 1 => clear_value x); (on_goal 2 => subst x))
    | (extract_lets +onlyGivenNames x; refine (fun hx : Fr f a x.2 => ?_) ?_; (on_goal 1 => clear_value x); (on_goal 2 => subst x))
    | (extract_lets +onlyGivenNames x; clear_value x)
    | dsimp only

theorem Chip.spillFrame_fr {f : Frame} {a c : Chip} {f_} (h : Fr f a c) (hp_trunk : Part.trunk ∈ f.parts) (hr_TRK_SPILL : f.regs .TRK_SPILL = true) :
    Fr f a (Chip.spillFrame c f_) := by
  unfold Chip.spillFrame
  repeat' first
    | with_reducible assumption
    | with_reducible apply Chip.incSat_fr
    | with_reducible apply Chip.updTrunk_fr
    | with_reducible apply Chip.syncSpill_fr
    | intro _
    | split
    | (extract_lets +onlyGivenNames x; refine (fun hx : Fr f a x => ?_) ?_; (on_goal 1 => clear_value x); (on_goal 2 => subst x))
    | (extract_lets +onlyGivenNames x; refine (fun hx : Fr f a x.2 => ?_) ?_; (on_goal 1 => clear_value x); (on_goal 2 => subst x))
    | (extract_lets +onlyGivenNames x; clear_value x)
    | dsimp only

theorem Chip.emit_fr {f : Frame} {a c : Chip} {l_} {f_} (h : Fr f a c) (hp_trunk : Part.trunk ∈ f.parts) :
    Fr f a (Chip.emit c l_ f_) := by
  unfold Chip.emit
  repeat' first
    | with_reducible assumption
    | with_reducible apply Chip.updLane_fr
    | intro _
    | split
    | (extract_lets +onlyGivenNames x; refine (fun hx : Fr f a x => ?_) ?_; (on_goal 1 => clear_value x); (on_goal 2 => subst x))
    | (extract_lets +onlyGivenNames x; refine (fun hx : Fr f a x.2 => ?_) ?_; (on_goal 1 => clear_value x); (on_goal 2 => subst x))
    | (extract_lets +onlyGivenNames x; clear_value x)
    | dsimp only

theorem Chip.sendFrame_fr {f : Frame} {a c : Chip} {typ_} {id_} {flags_} {epoch_} {length_} {body_} (h : Fr f a c) (hp_trunk : Part.trunk ∈ f.parts) (hr_TRK_SPILL : f.regs .TRK_SPILL = true) :
    Fr f a (Chip.sendFrame c typ_ id_ flags_ epoch_ length_ body_) := by
  unfold Chip.sendFrame
  repeat' first
    | with_reducible assumption
    | with_reducible apply Chip.updTrunk_fr
    | with_reducible apply Chip.spillFrame_fr
    | with_reducible apply Chip.emit_fr
    | with_reducible apply Chip.updLane_fr
    | intro _
    | split
    | (extract_lets +onlyGivenNames x; refine (fun hx : Fr f a x => ?_) ?_; (on_goal 1 => clear_value x); (on_goal 2 => subst x))
    | (extract_lets +onlyGivenNames x; refine (fun hx : Fr f a x.2 => ?_) ?_; (on_goal 1 => clear_value x); (on_goal 2 => subst x))
    | (extract_lets +onlyGivenNames x; clear_value x)
    | dsimp only

theorem Chip.flushWaiting_fr {f : Frame} {a c : Chip} {l_} (h : Fr f a c) (hp_trunk : Part.trunk ∈ f.parts) :
    Fr f a (Chip.flushWaiting c l_) := by
  unfold Chip.flushWaiting
  repeat' first
    | with_reducible assumption
    | with_reducible apply Chip.updLane_fr
    | with_reducible apply Fr.each
    | with_reducible apply Chip.emit_fr
    | intro _
    | split
    | (extract_lets +onlyGivenNames x; refine (fun hx : Fr f a x => ?_) ?_; (on_goal 1 => clear_value x); (on_goal 2 => subst x))
    | (extract_lets +onlyGivenNames x; refine (fun hx : Fr f a x.2 => ?_) ?_; (on_goal 1 => clear_value x); (on_goal 2 => subst x))
    | (extract_lets +onlyGivenNames x; clear_value x)
    | dsimp only

theorem Chip.moveWaiting_fr {f : Frame} {a c : Chip} {l_} {o_} (h : Fr f a c) (hp_trunk : Part.trunk ∈ f.parts) :
    Fr f a (Chip.moveWaiting c l_ o_) := by
  unfold Chip.moveWaiting
  repeat' first
    | with_reducible assumption
    | with_reducible apply Chip.updLane_fr
    | with_reducible apply Chip.flushWaiting_fr
    | intro _
    | split
    | (extract_lets +onlyGivenNames x; refine (fun hx : Fr f a x => ?_) ?_; (on_goal 1 => clear_value x); (on_goal 2 => subst x))
    | (extract_lets +onlyGivenNames x; refine (fun hx : Fr f a x.2 => ?_) ?_; (on_goal 1 => clear_value x); (on_goal 2 => subst x))
    | (extract_lets +onlyGivenNames x; clear_value x)
    | dsimp only

theorem Chip.sendLane_fr2 {f : Frame} {a c : Chip} {l_} {sub_} {lane_} {status_} {reqSeq_} {tick_} (h : Fr f a c) (hp_trunk : Part.trunk ∈ f.parts) :
    Fr f a (Chip.sendLane c l_ sub_ lane_ status_ reqSeq_ tick_).2 := by
  unfold Chip.sendLane
  repeat' first
    | with_reducible assumption
    | with_reducible apply Chip.updTrunk_fr
    | with_reducible apply Chip.emit_fr
    | intro _
    | split
    | (extract_lets +onlyGivenNames x; refine (fun hx : Fr f a x => ?_) ?_; (on_goal 1 => clear_value x); (on_goal 2 => subst x))
    | (extract_lets +onlyGivenNames x; refine (fun hx : Fr f a x.2 => ?_) ?_; (on_goal 1 => clear_value x); (on_goal 2 => subst x))
    | (extract_lets +onlyGivenNames x; clear_value x)
    | dsimp only

theorem Chip.sendLane_fr {f : Frame} {a c c1 : Chip} {l_} {sub_} {lane_} {status_} {reqSeq_} {tick_} {y1} (e : Chip.sendLane c l_ sub_ lane_ status_ reqSeq_ tick_ = (y1, c1)) (h : Fr f a c) (hp_trunk : Part.trunk ∈ f.parts) :
    Fr f a c1 := by
  have key := Chip.sendLane_fr2 (l_ := l_) (sub_ := sub_) (lane_ := lane_) (status_ := status_) (reqSeq_ := reqSeq_) (tick_ := tick_) h hp_trunk
  rwa [e] at key

theorem Chip.sendWakeAck_fr {f : Frame} {a c : Chip} {l_} (h : Fr f a c) (hp_trunk : Part.trunk ∈ f.parts) :
    Fr f a (Chip.sendWakeAck c l_) := by
  unfold Chip.sendWakeAck
  repeat' first
    | with_reducible assumption
    | with_reducible apply Chip.emit_fr
    | with_reducible apply Chip.updLane_fr
    | intro _
    | split
    | (extract_lets +onlyGivenNames x; refine (fun hx : Fr f a x => ?_) ?_; (on_goal 1 => clear_value x); (on_goal 2 => subst x))
    | (extract_lets +onlyGivenNames x; refine (fun hx : Fr f a x.2 => ?_) ?_; (on_goal 1 => clear_value x); (on_goal 2 => subst x))
    | (extract_lets +onlyGivenNames x; clear_value x)
    | dsimp only

theorem Chip.swapRoles_fr {f : Frame} {a c : Chip} {l_} (h : Fr f a c) (hp_trunk : Part.trunk ∈ f.parts) (hr_TRK_STATUS : f.regs .TRK_STATUS = true) :
    Fr f a (Chip.swapRoles c l_) := by
  unfold Chip.swapRoles
  repeat' first
    | with_reducible assumption
    | with_reducible apply Chip.setActive_fr
    | with_reducible apply Chip.updTrunk_fr
    | intro _
    | split
    | (extract_lets +onlyGivenNames x; refine (fun hx : Fr f a x => ?_) ?_; (on_goal 1 => clear_value x); (on_goal 2 => subst x))
    | (extract_lets +onlyGivenNames x; refine (fun hx : Fr f a x.2 => ?_) ?_; (on_goal 1 => clear_value x); (on_goal 2 => subst x))
    | (extract_lets +onlyGivenNames x; clear_value x)
    | dsimp only

theorem Chip.endSwap_fr {f : Frame} {a c : Chip}  (h : Fr f a c) (hp_trunk : Part.trunk ∈ f.parts) (hr_TRK_STATUS : f.regs .TRK_STATUS = true) :
    Fr f a (Chip.endSwap c) := by
  unfold Chip.endSwap
  repeat' first
    | with_reducible assumption
    | with_reducible apply Chip.setSt_fr
    | with_reducible apply Chip.updTrunk_fr
    | intro _
    | split
    | (extract_lets +onlyGivenNames x; refine (fun hx : Fr f a x => ?_) ?_; (on_goal 1 => clear_value x); (on_goal 2 => subst x))
    | (extract_lets +onlyGivenNames x; refine (fun hx : Fr f a x.2 => ?_) ?_; (on_goal 1 => clear_value x); (on_goal 2 => subst x))
    | (extract_lets +onlyGivenNames x; clear_value x)
    | dsimp only

theorem Chip.askSwap_fr {f : Frame} {a c : Chip} {q_} (h : Fr f a c) (hp_trunk : Part.trunk ∈ f.parts) (hr_TRK_STATUS : f.regs .TRK_STATUS = true) :
    Fr f a (Chip.askSwap c q_) := by
  unfold Chip.askSwap
  repeat' first
    | with_reducible assumption
    | with_reducible refine Chip.sendLane_fr ‹_› ?_ ?_
    | with_reducible apply Chip.sendLane_fr2
    | with_reducible apply Chip.updTrunk_fr
    | with_reducible apply Chip.setSt_fr
    | with_reducible refine Fr.ofIte ‹_› ?_ ?_
    | intro _
    | split
    | (extract_lets +onlyGivenNames x; refine (fun hx : Fr f a x => ?_) ?_; (on_goal 1 => clear_value x); (on_goal 2 => subst x))
    | (extract_lets +onlyGivenNames x; refine (fun hx : Fr f a x.2 => ?_) ?_; (on_goal 1 => clear_value x); (on_goal 2 => subst x))
    | (extract_lets +onlyGivenNames x; clear_value x)
    | dsimp only

theorem Chip.dropSwap_fr {f : Frame} {a c : Chip}  (h : Fr f a c) (hp_trunk : Part.trunk ∈ f.parts) (hp_doors : Part.doors ∈ f.parts) (hp_reqs : Part.reqs ∈ f.parts) (hp_rates : Part.rates ∈ f.parts) (hr_TRK_STATUS : f.regs .TRK_STATUS = true) :
    Fr f a (Chip.dropSwap c) := by
  unfold Chip.dropSwap
  repeat' first
    | with_reducible assumption
    | with_reducible apply Chip.answerOpt_fr
    | with_reducible apply Chip.endSwap_fr
    | intro _
    | split
    | (extract_lets +onlyGivenNames x; refine (fun hx : Fr f a x => ?_) ?_; (on_goal 1 => clear_value x); (on_goal 2 => subst x))
    | (extract_lets +onlyGivenNames x; refine (fun hx : Fr f a x.2 => ?_) ?_; (on_goal 1 => clear_value x); (on_goal 2 => subst x))
    | (extract_lets +onlyGivenNames x; clear_value x)
    | dsimp only

theorem Chip.swapDegraded_fr {f : Frame} {a c : Chip}  (h : Fr f a c) (hp_trunk : Part.trunk ∈ f.parts) (hr_TRK_STATUS : f.regs .TRK_STATUS = true) :
    Fr f a (Chip.swapDegraded c) := by
  unfold Chip.swapDegraded
  repeat' first
    | with_reducible assumption
    | with_reducible apply Chip.askSwap_fr
    | intro _
    | split
    | (extract_lets +onlyGivenNames x; refine (fun hx : Fr f a x => ?_) ?_; (on_goal 1 => clear_value x); (on_goal 2 => subst x))
    | (extract_lets +onlyGivenNames x; refine (fun hx : Fr f a x.2 => ?_) ?_; (on_goal 1 => clear_value x); (on_goal 2 => subst x))
    | (extract_lets +onlyGivenNames x; clear_value x)
    | dsimp only

theorem Chip.degradeLane_fr {f : Frame} {a c : Chip} {l_} {cond_} (h : Fr f a c) (hp_clk : Part.clk ∈ f.parts) (hp_trunk : Part.trunk ∈ f.parts) (hp_doors : Part.doors ∈ f.parts) (hp_bead : Part.bead ∈ f.parts) (hr_GLB_FAULT : f.regs .GLB_FAULT = true) (hr_TRK_STATUS : f.regs .TRK_STATUS = true) :
    Fr f a (Chip.degradeLane c l_ cond_) := by
  unfold Chip.degradeLane
  repeat' first
    | with_reducible assumption
    | with_reducible apply Chip.updLane_fr
    | with_reducible apply Chip.setDegr_fr
    | with_reducible apply Chip.swapDegraded_fr
    | with_reducible apply Chip.postFault_fr
    | intro _
    | split
    | (extract_lets +onlyGivenNames x; refine (fun hx : Fr f a x => ?_) ?_; (on_goal 1 => clear_value x); (on_goal 2 => subst x))
    | (extract_lets +onlyGivenNames x; refine (fun hx : Fr f a x.2 => ?_) ?_; (on_goal 1 => clear_value x); (on_goal 2 => subst x))
    | (extract_lets +onlyGivenNames x; clear_value x)
    | dsimp only

theorem Chip.enterTarn_fr {f : Frame} {a c : Chip} {cause_} (h : Fr f a c) (hp_clk : Part.clk ∈ f.parts) (hp_trunk : Part.trunk ∈ f.parts) (hp_doors : Part.doors ∈ f.parts) (hp_reqs : Part.reqs ∈ f.parts) (hp_rates : Part.rates ∈ f.parts) (hp_bead : Part.bead ∈ f.parts) (hr_GLB_FAULT : f.regs .GLB_FAULT = true) (hr_TRK_SPILL : f.regs .TRK_SPILL = true) (hr_TRK_STATUS : f.regs .TRK_STATUS = true) :
    Fr f a (Chip.enterTarn c cause_) := by
  unfold Chip.enterTarn
  repeat' first
    | with_reducible assumption
    | with_reducible apply Chip.dropSwap_fr
    | with_reducible apply Chip.updTrunk_fr
    | with_reducible apply Chip.setF_fr
    | with_reducible apply Fr.each
    | with_reducible apply Chip.spillFrame_fr
    | with_reducible apply Chip.syncTrunk_fr
    | with_reducible apply Chip.record_fr
    | with_reducible apply Chip.postFault_fr
    | intro _
    | split
    | (extract_lets +onlyGivenNames x; refine (fun hx : Fr f a x => ?_) ?_; (on_goal 1 => clear_value x); (on_goal 2 => subst x))
    | (extract_lets +onlyGivenNames x; refine (fun hx : Fr f a x.2 => ?_) ?_; (on_goal 1 => clear_value x); (on_goal 2 => subst x))
    | (extract_lets +onlyGivenNames x; clear_value x)
    | dsimp only

theorem Chip.leaveTarn_fr {f : Frame} {a c : Chip} {l_} (h : Fr f a c) (hp_trunk : Part.trunk ∈ f.parts) (hp_doors : Part.doors ∈ f.parts) (hr_TRK_STATUS : f.regs .TRK_STATUS = true) :
    Fr f a (Chip.leaveTarn c l_) := by
  unfold Chip.leaveTarn
  repeat' first
    | with_reducible assumption
    | with_reducible apply Chip.updTrunk_fr
    | with_reducible apply Chip.updLane_fr
    | with_reducible refine Chip.sendLane_fr ‹_› ?_ ?_
    | with_reducible apply Chip.sendLane_fr2
    | with_reducible apply Chip.setActive_fr
    | with_reducible apply Chip.syncTrunk_fr
    | with_reducible apply Chip.post_fr
    | with_reducible refine Fr.ofIte ‹_› ?_ ?_
    | intro _
    | split
    | (extract_lets +onlyGivenNames x; refine (fun hx : Fr f a x => ?_) ?_; (on_goal 1 => clear_value x); (on_goal 2 => subst x))
    | (extract_lets +onlyGivenNames x; refine (fun hx : Fr f a x.2 => ?_) ?_; (on_goal 1 => clear_value x); (on_goal 2 => subst x))
    | (extract_lets +onlyGivenNames x; clear_value x)
    | dsimp only

theorem Chip.respill_fr {f : Frame} {a c : Chip} {l_} (h : Fr f a c) (hp_trunk : Part.trunk ∈ f.parts) (hr_TRK_SPILL : f.regs .TRK_SPILL = true) :
    Fr f a (Chip.respill c l_) := by
  unfold Chip.respill
  repeat' first
    | with_reducible assumption
    | with_reducible apply Chip.incSat_fr
    | with_reducible apply Chip.updTrunk_fr
    | with_reducible apply Chip.syncSpill_fr
    | intro _
    | split
    | (extract_lets +onlyGivenNames x; refine (fun hx : Fr f a x => ?_) ?_; (on_goal 1 => clear_value x); (on_goal 2 => subst x))
    | (extract_lets +onlyGivenNames x; refine (fun hx : Fr f a x.2 => ?_) ?_; (on_goal 1 => clear_value x); (on_goal 2 => subst x))
    | (extract_lets +onlyGivenNames x; clear_value x)
    | dsimp only

theorem Chip.failOver_fr {f : Frame} {a c : Chip} {l_} {o_} (h : Fr f a c) (hp_trunk : Part.trunk ∈ f.parts) (hr_TRK_STATUS : f.regs .TRK_STATUS = true) :
    Fr f a (Chip.failOver c l_ o_) := by
  unfold Chip.failOver
  repeat' first
    | with_reducible assumption
    | with_reducible apply Chip.updTrunk_fr
    | with_reducible apply Chip.updLane_fr
    | with_reducible apply Chip.moveWaiting_fr
    | with_reducible refine Chip.sendLane_fr ‹_› ?_ ?_
    | with_reducible apply Chip.sendLane_fr2
    | with_reducible apply Chip.setActive_fr
    | with_reducible apply Chip.syncTrunk_fr
    | with_reducible apply Chip.record_fr
    | with_reducible refine Fr.ofIte ‹_› ?_ ?_
    | intro _
    | split
    | (extract_lets +onlyGivenNames x; refine (fun hx : Fr f a x => ?_) ?_; (on_goal 1 => clear_value x); (on_goal 2 => subst x))
    | (extract_lets +onlyGivenNames x; refine (fun hx : Fr f a x.2 => ?_) ?_; (on_goal 1 => clear_value x); (on_goal 2 => subst x))
    | (extract_lets +onlyGivenNames x; clear_value x)
    | dsimp only

theorem Chip.loseLane_fr {f : Frame} {a c : Chip} {l_} {cause_} {tarnCause_} (h : Fr f a c) (hp_clk : Part.clk ∈ f.parts) (hp_trunk : Part.trunk ∈ f.parts) (hp_doors : Part.doors ∈ f.parts) (hp_reqs : Part.reqs ∈ f.parts) (hp_rates : Part.rates ∈ f.parts) (hp_bead : Part.bead ∈ f.parts) (hr_ESC_LAST : f.regs .ESC_LAST = true) (hr_GLB_FAULT : f.regs .GLB_FAULT = true) (hr_TRK_SPILL : f.regs .TRK_SPILL = true) (hr_TRK_STATUS : f.regs .TRK_STATUS = true) :
    Fr f a (Chip.loseLane c l_ cause_ tarnCause_) := by
  unfold Chip.loseLane
  repeat' first
    | with_reducible assumption
    | with_reducible apply Chip.updLane_fr
    | with_reducible apply Chip.setUp_fr
    | with_reducible apply Chip.postFault_fr
    | with_reducible apply Chip.dropSwap_fr
    | with_reducible apply Chip.syncTrunk_fr
    | with_reducible apply Chip.failOver_fr
    | with_reducible apply Chip.updTrunk_fr
    | with_reducible apply Chip.enterTarn_fr
    | with_reducible apply Chip.escalate_fr
    | with_reducible apply Chip.respill_fr
    | intro _
    | split
    | (extract_lets +onlyGivenNames x; refine (fun hx : Fr f a x => ?_) ?_; (on_goal 1 => clear_value x); (on_goal 2 => subst x))
    | (extract_lets +onlyGivenNames x; refine (fun hx : Fr f a x.2 => ?_) ?_; (on_goal 1 => clear_value x); (on_goal 2 => subst x))
    | (extract_lets +onlyGivenNames x; clear_value x)
    | dsimp only

theorem Chip.updRx_fr {f : Frame} {a c : Chip} {cls_} {id_} {f_} (h : Fr f a c) (hp_trunk : Part.trunk ∈ f.parts) :
    Fr f a (Chip.updRx c cls_ id_ f_) := by
  unfold Chip.updRx
  repeat' first
    | with_reducible assumption
    | with_reducible apply Chip.updTrunk_fr
    | intro _
    | split
    | (extract_lets +onlyGivenNames x; refine (fun hx : Fr f a x => ?_) ?_; (on_goal 1 => clear_value x); (on_goal 2 => subst x))
    | (extract_lets +onlyGivenNames x; refine (fun hx : Fr f a x.2 => ?_) ?_; (on_goal 1 => clear_value x); (on_goal 2 => subst x))
    | (extract_lets +onlyGivenNames x; clear_value x)
    | dsimp only

theorem Chip.deliver_fr {f : Frame} {a c : Chip} {l_} (h : Fr f a c) (hp_trunk : Part.trunk ∈ f.parts) :
    Fr f a (Chip.deliver c l_) := by
  unfold Chip.deliver
  repeat' first
    | with_reducible assumption
    | with_reducible apply Chip.updTrunk_fr
    | intro _
    | split
    | (extract_lets +onlyGivenNames x; refine (fun hx : Fr f a x => ?_) ?_; (on_goal 1 => clear_value x); (on_goal 2 => subst x))
    | (extract_lets +onlyGivenNames x; refine (fun hx : Fr f a x.2 => ?_) ?_; (on_goal 1 => clear_value x); (on_goal 2 => subst x))
    | (extract_lets +onlyGivenNames x; clear_value x)
    | dsimp only

theorem Chip.drainRx_fr {f : Frame} {a c : Chip} {cls_} {id_} (h : Fr f a c) (hp_trunk : Part.trunk ∈ f.parts) :
    Fr f a (Chip.drainRx c cls_ id_) := by
  unfold Chip.drainRx
  repeat' first
    | with_reducible assumption
    | with_reducible apply Chip.deliver_fr
    | with_reducible apply Chip.updRx_fr
    | intro _
    | split
    | (extract_lets +onlyGivenNames x; refine (fun hx : Fr f a x => ?_) ?_; (on_goal 1 => clear_value x); (on_goal 2 => subst x))
    | (extract_lets +onlyGivenNames x; refine (fun hx : Fr f a x.2 => ?_) ?_; (on_goal 1 => clear_value x); (on_goal 2 => subst x))
    | (extract_lets +onlyGivenNames x; clear_value x)
    | dsimp only

theorem Chip.seqGap_fr {f : Frame} {a c : Chip} {cls_} {id_} {seq_} (h : Fr f a c) (hp_doors : Part.doors ∈ f.parts) (hp_rates : Part.rates ∈ f.parts) :
    Fr f a (Chip.seqGap c cls_ id_ seq_) := by
  unfold Chip.seqGap
  repeat' first
    | with_reducible assumption
    | with_reducible apply Chip.postRate_fr
    | intro _
    | split
    | (extract_lets +onlyGivenNames x; refine (fun hx : Fr f a x => ?_) ?_; (on_goal 1 => clear_value x); (on_goal 2 => subst x))
    | (extract_lets +onlyGivenNames x; refine (fun hx : Fr f a x.2 => ?_) ?_; (on_goal 1 => clear_value x); (on_goal 2 => subst x))
    | (extract_lets +onlyGivenNames x; clear_value x)
    | dsimp only

theorem Chip.skipRx_fr {f : Frame} {a c : Chip} {cls_} {id_} (h : Fr f a c) (hp_trunk : Part.trunk ∈ f.parts) (hp_doors : Part.doors ∈ f.parts) (hp_rates : Part.rates ∈ f.parts) :
    Fr f a (Chip.skipRx c cls_ id_) := by
  unfold Chip.skipRx
  repeat' first
    | with_reducible assumption
    | with_reducible apply Chip.updRx_fr
    | with_reducible apply Chip.drainRx_fr
    | with_reducible apply Chip.seqGap_fr
    | intro _
    | split
    | (extract_lets +onlyGivenNames x; refine (fun hx : Fr f a x => ?_) ?_; (on_goal 1 => clear_value x); (on_goal 2 => subst x))
    | (extract_lets +onlyGivenNames x; refine (fun hx : Fr f a x.2 => ?_) ?_; (on_goal 1 => clear_value x); (on_goal 2 => subst x))
    | (extract_lets +onlyGivenNames x; clear_value x)
    | dsimp only

theorem Chip.reorderFull_fr {f : Frame} {a c : Chip}  (h : Fr f a c) (hp_trunk : Part.trunk ∈ f.parts) (hp_doors : Part.doors ∈ f.parts) (hp_rates : Part.rates ∈ f.parts) :
    Fr f a (Chip.reorderFull c) := by
  unfold Chip.reorderFull
  repeat' first
    | with_reducible assumption
    | with_reducible apply Chip.skipRx_fr
    | intro _
    | split
    | (extract_lets +onlyGivenNames x; refine (fun hx : Fr f a x => ?_) ?_; (on_goal 1 => clear_value x); (on_goal 2 => subst x))
    | (extract_lets +onlyGivenNames x; refine (fun hx : Fr f a x.2 => ?_) ?_; (on_goal 1 => clear_value x); (on_goal 2 => subst x))
    | (extract_lets +onlyGivenNames x; clear_value x)
    | dsimp only

theorem Chip.takeFrame_fr {f : Frame} {a c : Chip} {l_} {f_} (h : Fr f a c) (hp_trunk : Part.trunk ∈ f.parts) (hp_doors : Part.doors ∈ f.parts) (hp_rates : Part.rates ∈ f.parts) :
    Fr f a (Chip.takeFrame c l_ f_) := by
  unfold Chip.takeFrame
  repeat' first
    | with_reducible assumption
    | with_reducible apply Chip.deliver_fr
    | with_reducible apply Chip.updRx_fr
    | with_reducible apply Chip.drainRx_fr
    | with_reducible apply Chip.reorderFull_fr
    | with_reducible apply Chip.updTrunk_fr
    | intro _
    | split
    | (extract_lets +onlyGivenNames x; refine (fun hx : Fr f a x => ?_) ?_; (on_goal 1 => clear_value x); (on_goal 2 => subst x))
    | (extract_lets +onlyGivenNames x; refine (fun hx : Fr f a x.2 => ?_) ?_; (on_goal 1 => clear_value x); (on_goal 2 => subst x))
    | (extract_lets +onlyGivenNames x; clear_value x)
    | dsimp only

theorem Chip.takeDelivered_fr {f : Frame} {a c c' : Chip} {p} {y} (e : c.takeDelivered p = some (y, c')) (h : Fr f a c)
    (hp_trunk : Part.trunk ∈ f.parts) : Fr f a c' := by
  unfold Chip.takeDelivered at e
  split at e
  · exact absurd e (by simp)
  · simp only [Option.some.injEq, Prod.mk.injEq] at e
    obtain ⟨_, rfl⟩ := e
    exact Chip.updTrunk_fr h ‹_›

theorem Chip.crcInternal_fr {f : Frame} {a c : Chip} {f_} (h : Fr f a c) (hp_trunk : Part.trunk ∈ f.parts) (hp_doors : Part.doors ∈ f.parts) (hp_rates : Part.rates ∈ f.parts) (hr_INT_CRC : f.regs .INT_CRC = true) :
    Fr f a (Chip.crcInternal c f_) := by
  unfold Chip.crcInternal
  repeat' first
    | with_reducible assumption
    | with_reducible apply Chip.incSat_fr
    | with_reducible apply Chip.postRate_fr
    | with_reducible apply Chip.updRx_fr
    | with_reducible apply Chip.seqGap_fr
    | intro _
    | split
    | (extract_lets +onlyGivenNames x; refine (fun hx : Fr f a x => ?_) ?_; (on_goal 1 => clear_value x); (on_goal 2 => subst x))
    | (extract_lets +onlyGivenNames x; refine (fun hx : Fr f a x.2 => ?_) ?_; (on_goal 1 => clear_value x); (on_goal 2 => subst x))
    | (extract_lets +onlyGivenNames x; clear_value x)
    | dsimp only

theorem Chip.resetLane_fr {f : Frame} {a c : Chip} {l_} {tarnCause_} (h : Fr f a c) (hp_clk : Part.clk ∈ f.parts) (hp_trunk : Part.trunk ∈ f.parts) (hp_doors : Part.doors ∈ f.parts) (hp_reqs : Part.reqs ∈ f.parts) (hp_rates : Part.rates ∈ f.parts) (hp_bead : Part.bead ∈ f.parts) (hr_ESC_LAST : f.regs .ESC_LAST = true) (hr_GLB_FAULT : f.regs .GLB_FAULT = true) (hr_TRK_ERR : ∀ n, f.regs (.TRK_ERR n) = true) (hr_TRK_SPILL : f.regs .TRK_SPILL = true) (hr_TRK_STATUS : f.regs .TRK_STATUS = true) :
    Fr f a (Chip.resetLane c l_ tarnCause_) := by
  unfold Chip.resetLane
  repeat' first
    | with_reducible assumption
    | with_reducible exact hr_TRK_ERR _
    | with_reducible apply Chip.loseLane_fr
    | with_reducible apply Chip.setDegr_fr
    | with_reducible apply Fr.wr
    | with_reducible apply Chip.updLane_fr
    | intro _
    | split
    | (extract_lets +onlyGivenNames x; refine (fun hx : Fr f a x => ?_) ?_; (on_goal 1 => clear_value x); (on_goal 2 => subst x))
    | (extract_lets +onlyGivenNames x; refine (fun hx : Fr f a x.2 => ?_) ?_; (on_goal 1 => clear_value x); (on_goal 2 => subst x))
    | (extract_lets +onlyGivenNames x; clear_value x)
    | dsimp only

/-! ### Machine/SeicheOps.lean -/

theorem Chip.settleUncert_fr {f : Frame} {a c : Chip}  (h : Fr f a c) (hp_sei : Part.sei ∈ f.parts) (hr_SEI_UNCERT : f.regs .SEI_UNCERT = true) :
    Fr f a (Chip.settleUncert c) := by
  unfold Chip.settleUncert
  repeat' first
    | with_reducible assumption
    | with_reducible apply Chip.updSei_fr
    | with_reducible apply Chip.setF_fr
    | intro _
    | split
    | (extract_lets +onlyGivenNames x; refine (fun hx : Fr f a x => ?_) ?_; (on_goal 1 => clear_value x); (on_goal 2 => subst x))
    | (extract_lets +onlyGivenNames x; refine (fun hx : Fr f a x.2 => ?_) ?_; (on_goal 1 => clear_value x); (on_goal 2 => subst x))
    | (extract_lets +onlyGivenNames x; clear_value x)
    | dsimp only

theorem Chip.degrade_fr {f : Frame} {a c : Chip} {xtal_} {deep_} (h : Fr f a c) (hp_clk : Part.clk ∈ f.parts) (hp_doors : Part.doors ∈ f.parts) (hp_sei : Part.sei ∈ f.parts) (hp_bead : Part.bead ∈ f.parts) (hr_GLB_FAULT : f.regs .GLB_FAULT = true) (hr_SEI_STATUS : f.regs .SEI_STATUS = true) (hr_SEI_UNCERT : f.regs .SEI_UNCERT = true) :
    Fr f a (Chip.degrade c xtal_ deep_) := by
  unfold Chip.degrade
  repeat' first
    | with_reducible assumption
    | with_reducible apply Chip.settleUncert_fr
    | with_reducible apply Chip.bump_fr
    | with_reducible apply Fr.wr
    | with_reducible apply Chip.postFault_fr
    | with_reducible apply Chip.post_fr
    | intro _
    | split
    | (extract_lets +onlyGivenNames x; refine (fun hx : Fr f a x => ?_) ?_; (on_goal 1 => clear_value x); (on_goal 2 => subst x))
    | (extract_lets +onlyGivenNames x; refine (fun hx : Fr f a x.2 => ?_) ?_; (on_goal 1 => clear_value x); (on_goal 2 => subst x))
    | (extract_lets +onlyGivenNames x; clear_value x)
    | dsimp only

theorem Chip.degXtal_fr {f : Frame} {a c : Chip} {on_} (h : Fr f a c) (hp_clk : Part.clk ∈ f.parts) (hp_doors : Part.doors ∈ f.parts) (hp_sei : Part.sei ∈ f.parts) (hp_bead : Part.bead ∈ f.parts) (hr_GLB_FAULT : f.regs .GLB_FAULT = true) (hr_SEI_STATUS : f.regs .SEI_STATUS = true) (hr_SEI_UNCERT : f.regs .SEI_UNCERT = true) :
    Fr f a (Chip.degXtal c on_) := by
  unfold Chip.degXtal
  repeat' first
    | with_reducible assumption
    | with_reducible apply Chip.degrade_fr
    | intro _
    | split
    | (extract_lets +onlyGivenNames x; refine (fun hx : Fr f a x => ?_) ?_; (on_goal 1 => clear_value x); (on_goal 2 => subst x))
    | (extract_lets +onlyGivenNames x; refine (fun hx : Fr f a x.2 => ?_) ?_; (on_goal 1 => clear_value x); (on_goal 2 => subst x))
    | (extract_lets +onlyGivenNames x; clear_value x)
    | dsimp only

theorem Chip.setMark_fr {f : Frame} {a c : Chip} {cid_} {m_} (h : Fr f a c) (hp_pond : Part.pond ∈ f.parts) (hp_engines : Part.engines ∈ f.parts) :
    Fr f a (Chip.setMark c cid_ m_) := by
  unfold Chip.setMark
  repeat' first
    | with_reducible assumption
    | with_reducible apply Chip.touchBy_fr
    | with_reducible apply Chip.setBody_fr
    | intro _
    | split
    | (extract_lets +onlyGivenNames x; refine (fun hx : Fr f a x => ?_) ?_; (on_goal 1 => clear_value x); (on_goal 2 => subst x))
    | (extract_lets +onlyGivenNames x; refine (fun hx : Fr f a x.2 => ?_) ?_; (on_goal 1 => clear_value x); (on_goal 2 => subst x))
    | (extract_lets +onlyGivenNames x; clear_value x)
    | dsimp only

theorem Chip.mstate_fr {f : Frame} {a c : Chip} {cid_} {gen_} {st_} (h : Fr f a c) (hp_pond : Part.pond ∈ f.parts) (hp_engines : Part.engines ∈ f.parts) :
    Fr f a (Chip.mstate c cid_ gen_ st_) := by
  unfold Chip.mstate
  repeat' first
    | with_reducible assumption
    | with_reducible apply Chip.setMark_fr
    | intro _
    | split
    | (extract_lets +onlyGivenNames x; refine (fun hx : Fr f a x => ?_) ?_; (on_goal 1 => clear_value x); (on_goal 2 => subst x))
    | (extract_lets +onlyGivenNames x; refine (fun hx : Fr f a x.2 => ?_) ?_; (on_goal 1 => clear_value x); (on_goal 2 => subst x))
    | (extract_lets +onlyGivenNames x; clear_value x)
    | dsimp only

theorem Chip.endMark_fr {f : Frame} {a c : Chip} {cid_} {gen_} {st_} (h : Fr f a c) (hp_doors : Part.doors ∈ f.parts) (hp_rates : Part.rates ∈ f.parts) (hp_pond : Part.pond ∈ f.parts) (hp_engines : Part.engines ∈ f.parts) (hr_HOLDER_USED : ∀ n, f.regs (.HOLDER_USED n) = true) (hr_POND_FREE : f.regs .POND_FREE = true) (hr_POND_STATUS : f.regs .POND_STATUS = true) (hr_POND_WAIT : f.regs .POND_WAIT = true) :
    Fr f a (Chip.endMark c cid_ gen_ st_) := by
  unfold Chip.endMark
  repeat' first
    | with_reducible assumption
    | with_reducible exact hr_HOLDER_USED _
    | with_reducible apply Fr.when
    | with_reducible apply Chip.setMark_fr
    | with_reducible apply Chip.freeCtx_fr
    | intro _
    | split
    | (extract_lets +onlyGivenNames x; refine (fun hx : Fr f a x => ?_) ?_; (on_goal 1 => clear_value x); (on_goal 2 => subst x))
    | (extract_lets +onlyGivenNames x; refine (fun hx : Fr f a x.2 => ?_) ?_; (on_goal 1 => clear_value x); (on_goal 2 => subst x))
    | (extract_lets +onlyGivenNames x; clear_value x)
    | dsimp only

theorem Chip.postMark_fr {f : Frame} {a c : Chip} {m_} {e_} {r_} (h : Fr f a c) (hp_doors : Part.doors ∈ f.parts) :
    Fr f a (Chip.postMark c m_ e_ r_) := by
  unfold Chip.postMark
  repeat' first
    | with_reducible assumption
    | with_reducible apply Chip.postOwn_fr
    | intro _
    | split
    | (extract_lets +onlyGivenNames x; refine (fun hx : Fr f a x => ?_) ?_; (on_goal 1 => clear_value x); (on_goal 2 => subst x))
    | (extract_lets +onlyGivenNames x; refine (fun hx : Fr f a x.2 => ?_) ?_; (on_goal 1 => clear_value x); (on_goal 2 => subst x))
    | (extract_lets +onlyGivenNames x; clear_value x)
    | dsimp only

theorem Chip.cullMark_fr2 {f : Frame} {a c : Chip} {m_} {res_} {v_} {cur_} (h : Fr f a c) (hp_doors : Part.doors ∈ f.parts) (hp_cullet : Part.cullet ∈ f.parts) (hp_rates : Part.rates ∈ f.parts) :
    Fr f a (Chip.cullMark c m_ res_ v_ cur_).2 := by
  unfold Chip.cullMark
  repeat' first
    | with_reducible assumption
    | with_reducible apply Chip.cullDev_fr
    | intro _
    | split
    | (extract_lets +onlyGivenNames x; refine (fun hx : Fr f a x => ?_) ?_; (on_goal 1 => clear_value x); (on_goal 2 => subst x))
    | (extract_lets +onlyGivenNames x; refine (fun hx : Fr f a x.2 => ?_) ?_; (on_goal 1 => clear_value x); (on_goal 2 => subst x))
    | (extract_lets +onlyGivenNames x; clear_value x)
    | dsimp only

theorem Chip.cullMark_fr {f : Frame} {a c c1 : Chip} {m_} {res_} {v_} {cur_} {y1} (e : Chip.cullMark c m_ res_ v_ cur_ = (y1, c1)) (h : Fr f a c) (hp_doors : Part.doors ∈ f.parts) (hp_cullet : Part.cullet ∈ f.parts) (hp_rates : Part.rates ∈ f.parts) :
    Fr f a c1 := by
  have key := Chip.cullMark_fr2 (m_ := m_) (res_ := res_) (v_ := v_) (cur_ := cur_) h hp_doors hp_cullet hp_rates
  rwa [e] at key

theorem Chip.markActs_fr2 {f : Frame} {a c : Chip} {m_} (h : Fr f a c) (hp_doors : Part.doors ∈ f.parts) (hp_cullet : Part.cullet ∈ f.parts) (hp_rates : Part.rates ∈ f.parts) (hp_pond : Part.pond ∈ f.parts) (hp_engines : Part.engines ∈ f.parts) (hp_ports : Part.ports ∈ f.parts) :
    Fr f a (Chip.markActs c m_).2 := by
  unfold Chip.markActs
  repeat' first
    | with_reducible assumption
    | with_reducible refine Chip.cullMark_fr ‹_› ?_ ?_ ?_ ?_
    | with_reducible apply Chip.cullMark_fr2
    | with_reducible refine Chip.queueUlp_fr ‹_› ?_ ?_ ?_ ?_
    | with_reducible apply Chip.updDrop_fr
    | with_reducible refine Fr.ofIte ‹_› ?_ ?_
    | intro _
    | split
    | (extract_lets +onlyGivenNames x; refine (fun hx : Fr f a x => ?_) ?_; (on_goal 1 => clear_value x); (on_goal 2 => subst x))
    | (extract_lets +onlyGivenNames x; refine (fun hx : Fr f a x.2 => ?_) ?_; (on_goal 1 => clear_value x); (on_goal 2 => subst x))
    | (extract_lets +onlyGivenNames x; clear_value x)
    | dsimp only

theorem Chip.markActs_fr {f : Frame} {a c c1 : Chip} {m_} {y1} (e : Chip.markActs c m_ = (y1, c1)) (h : Fr f a c) (hp_doors : Part.doors ∈ f.parts) (hp_cullet : Part.cullet ∈ f.parts) (hp_rates : Part.rates ∈ f.parts) (hp_pond : Part.pond ∈ f.parts) (hp_engines : Part.engines ∈ f.parts) (hp_ports : Part.ports ∈ f.parts) :
    Fr f a c1 := by
  have key := Chip.markActs_fr2 (m_ := m_) h hp_doors hp_cullet hp_rates hp_pond hp_engines hp_ports
  rwa [e] at key

theorem Chip.markOutfall_fr {f : Frame} {a c : Chip} {m_} {t_} (h : Fr f a c) (hp_sei : Part.sei ∈ f.parts) :
    Fr f a (Chip.markOutfall c m_ t_) := by
  unfold Chip.markOutfall
  repeat' first
    | with_reducible assumption
    | with_reducible apply Chip.updOutfall_fr
    | intro _
    | split
    | (extract_lets +onlyGivenNames x; refine (fun hx : Fr f a x => ?_) ?_; (on_goal 1 => clear_value x); (on_goal 2 => subst x))
    | (extract_lets +onlyGivenNames x; refine (fun hx : Fr f a x.2 => ?_) ?_; (on_goal 1 => clear_value x); (on_goal 2 => subst x))
    | (extract_lets +onlyGivenNames x; clear_value x)
    | dsimp only

theorem Chip.fired_fr {f : Frame} {a c : Chip} {m_} {cid_} {gen_} {t_} {delayed_} {r_} (h : Fr f a c) (hp_doors : Part.doors ∈ f.parts) :
    Fr f a (Chip.fired c m_ cid_ gen_ t_ delayed_ r_) := by
  unfold Chip.fired
  repeat' first
    | with_reducible assumption
    | with_reducible apply Chip.postMark_fr
    | intro _
    | split
    | (extract_lets +onlyGivenNames x; refine (fun hx : Fr f a x => ?_) ?_; (on_goal 1 => clear_value x); (on_goal 2 => subst x))
    | (extract_lets +onlyGivenNames x; refine (fun hx : Fr f a x.2 => ?_) ?_; (on_goal 1 => clear_value x); (on_goal 2 => subst x))
    | (extract_lets +onlyGivenNames x; clear_value x)
    | dsimp only

theorem Chip.expire_fr {f : Frame} {a c : Chip} {m_} {cid_} {gen_} {cause_} (h : Fr f a c) (hp_doors : Part.doors ∈ f.parts) (hp_rates : Part.rates ∈ f.parts) (hp_pond : Part.pond ∈ f.parts) (hp_engines : Part.engines ∈ f.parts) (hr_HOLDER_USED : ∀ n, f.regs (.HOLDER_USED n) = true) (hr_POND_FREE : f.regs .POND_FREE = true) (hr_POND_STATUS : f.regs .POND_STATUS = true) (hr_POND_WAIT : f.regs .POND_WAIT = true) :
    Fr f a (Chip.expire c m_ cid_ gen_ cause_) := by
  unfold Chip.expire
  repeat' first
    | with_reducible assumption
    | with_reducible exact hr_HOLDER_USED _
    | with_reducible apply Chip.endMark_fr
    | with_reducible apply Chip.postMark_fr
    | intro _
    | split
    | (extract_lets +onlyGivenNames x; refine (fun hx : Fr f a x => ?_) ?_; (on_goal 1 => clear_value x); (on_goal 2 => subst x))
    | (extract_lets +onlyGivenNames x; refine (fun hx : Fr f a x.2 => ?_) ?_; (on_goal 1 => clear_value x); (on_goal 2 => subst x))
    | (extract_lets +onlyGivenNames x; clear_value x)
    | dsimp only

theorem Chip.syncArmed_fr {f : Frame} {a c : Chip} {b_} (h : Fr f a c) (hr_BELT_STATUS : ∀ n, f.regs (.BELT_STATUS n) = true) :
    Fr f a (Chip.syncArmed c b_) := by
  unfold Chip.syncArmed
  repeat' first
    | with_reducible assumption
    | with_reducible exact hr_BELT_STATUS _
    | with_reducible apply Chip.setSt_fr
    | intro _
    | split
    | (extract_lets +onlyGivenNames x; refine (fun hx : Fr f a x => ?_) ?_; (on_goal 1 => clear_value x); (on_goal 2 => subst x))
    | (extract_lets +onlyGivenNames x; refine (fun hx : Fr f a x.2 => ?_) ?_; (on_goal 1 => clear_value x); (on_goal 2 => subst x))
    | (extract_lets +onlyGivenNames x; clear_value x)
    | dsimp only

theorem Chip.unloadBelt_fr {f : Frame} {a c : Chip} {b_} (h : Fr f a c) (hp_pond : Part.pond ∈ f.parts) (hp_engines : Part.engines ∈ f.parts) (hp_sei : Part.sei ∈ f.parts) (hr_BELT_STATUS : ∀ n, f.regs (.BELT_STATUS n) = true) :
    Fr f a (Chip.unloadBelt c b_) := by
  unfold Chip.unloadBelt
  repeat' first
    | with_reducible assumption
    | with_reducible exact hr_BELT_STATUS _
    | with_reducible apply Chip.updBelt_fr
    | with_reducible apply Chip.syncArmed_fr
    | with_reducible apply Fr.each
    | with_reducible apply Chip.mstate_fr
    | intro _
    | split
    | (extract_lets +onlyGivenNames x; refine (fun hx : Fr f a x => ?_) ?_; (on_goal 1 => clear_value x); (on_goal 2 => subst x))
    | (extract_lets +onlyGivenNames x; refine (fun hx : Fr f a x.2 => ?_) ?_; (on_goal 1 => clear_value x); (on_goal 2 => subst x))
    | (extract_lets +onlyGivenNames x; clear_value x)
    | dsimp only

theorem Chip.stopBelt_fr {f : Frame} {a c : Chip} {b_} (h : Fr f a c) (hp_sei : Part.sei ∈ f.parts) (hr_BELT_RATE : ∀ n, f.regs (.BELT_RATE n) = true) (hr_BELT_STATUS : ∀ n, f.regs (.BELT_STATUS n) = true) :
    Fr f a (Chip.stopBelt c b_) := by
  unfold Chip.stopBelt
  repeat' first
    | with_reducible assumption
    | with_reducible exact hr_BELT_RATE _
    | with_reducible exact hr_BELT_STATUS _
    | with_reducible apply Chip.setSt_fr
    | with_reducible apply Fr.wr
    | with_reducible apply Chip.updBelt_fr
    | intro _
    | split
    | (extract_lets +onlyGivenNames x; refine (fun hx : Fr f a x => ?_) ?_; (on_goal 1 => clear_value x); (on_goal 2 => subst x))
    | (extract_lets +onlyGivenNames x; refine (fun hx : Fr f a x.2 => ?_) ?_; (on_goal 1 => clear_value x); (on_goal 2 => subst x))
    | (extract_lets +onlyGivenNames x; clear_value x)
    | dsimp only

theorem Chip.beltCtl_fr {f : Frame} {a c : Chip} {b_} {old_} (h : Fr f a c) (hp_pond : Part.pond ∈ f.parts) (hp_engines : Part.engines ∈ f.parts) (hp_sei : Part.sei ∈ f.parts) (hr_BELT_RATE : ∀ n, f.regs (.BELT_RATE n) = true) (hr_BELT_STATUS : ∀ n, f.regs (.BELT_STATUS n) = true) :
    Fr f a (Chip.beltCtl c b_ old_) := by
  unfold Chip.beltCtl
  repeat' first
    | with_reducible assumption
    | with_reducible exact hr_BELT_RATE _
    | with_reducible exact hr_BELT_STATUS _
    | with_reducible apply Chip.unloadBelt_fr
    | with_reducible apply Chip.stopBelt_fr
    | with_reducible apply Chip.updBelt_fr
    | intro _
    | split
    | (extract_lets +onlyGivenNames x; refine (fun hx : Fr f a x => ?_) ?_; (on_goal 1 => clear_value x); (on_goal 2 => subst x))
    | (extract_lets +onlyGivenNames x; refine (fun hx : Fr f a x.2 => ?_) ?_; (on_goal 1 => clear_value x); (on_goal 2 => subst x))
    | (extract_lets +onlyGivenNames x; clear_value x)
    | dsimp only

theorem Chip.setBeltPos_fr {f : Frame} {a c : Chip} {b_} {p_} (h : Fr f a c) (hp_doors : Part.doors ∈ f.parts) (hp_rates : Part.rates ∈ f.parts) (hp_pond : Part.pond ∈ f.parts) (hp_engines : Part.engines ∈ f.parts) (hp_sei : Part.sei ∈ f.parts) (hr_BELT_STATUS : ∀ n, f.regs (.BELT_STATUS n) = true) (hr_HOLDER_USED : ∀ n, f.regs (.HOLDER_USED n) = true) (hr_POND_FREE : f.regs .POND_FREE = true) (hr_POND_STATUS : f.regs .POND_STATUS = true) (hr_POND_WAIT : f.regs .POND_WAIT = true) :
    Fr f a (Chip.setBeltPos c b_ p_) := by
  unfold Chip.setBeltPos
  repeat' first
    | with_reducible assumption
    | with_reducible exact hr_BELT_STATUS _
    | with_reducible exact hr_HOLDER_USED _
    | with_reducible apply Chip.unloadBelt_fr
    | with_reducible apply Chip.updBelt_fr
    | with_reducible apply Chip.setSt_fr
    | with_reducible apply Fr.each
    | with_reducible apply Chip.expire_fr
    | intro _
    | split
    | (extract_lets +onlyGivenNames x; refine (fun hx : Fr f a x => ?_) ?_; (on_goal 1 => clear_value x); (on_goal 2 => subst x))
    | (extract_lets +onlyGivenNames x; refine (fun hx : Fr f a x.2 => ?_) ?_; (on_goal 1 => clear_value x); (on_goal 2 => subst x))
    | (extract_lets +onlyGivenNames x; clear_value x)
    | dsimp only

theorem Chip.handLate_fr {f : Frame} {a c : Chip} {b_} {cid_} {gen_} {cause_} (h : Fr f a c) (hp_sei : Part.sei ∈ f.parts) :
    Fr f a (Chip.handLate c b_ cid_ gen_ cause_) := by
  unfold Chip.handLate
  repeat' first
    | with_reducible assumption
    | with_reducible apply Chip.updBelt_fr
    | intro _
    | split
    | (extract_lets +onlyGivenNames x; refine (fun hx : Fr f a x => ?_) ?_; (on_goal 1 => clear_value x); (on_goal 2 => subst x))
    | (extract_lets +onlyGivenNames x; refine (fun hx : Fr f a x.2 => ?_) ?_; (on_goal 1 => clear_value x); (on_goal 2 => subst x))
    | (extract_lets +onlyGivenNames x; clear_value x)
    | dsimp only

theorem Chip.armRelease_fr {f : Frame} {a c : Chip} {b_} (h : Fr f a c) (hp_doors : Part.doors ∈ f.parts) (hp_rates : Part.rates ∈ f.parts) (hp_pond : Part.pond ∈ f.parts) (hp_engines : Part.engines ∈ f.parts) (hp_sei : Part.sei ∈ f.parts) (hr_HOLDER_USED : ∀ n, f.regs (.HOLDER_USED n) = true) (hr_POND_FREE : f.regs .POND_FREE = true) (hr_POND_STATUS : f.regs .POND_STATUS = true) (hr_POND_WAIT : f.regs .POND_WAIT = true) :
    Fr f a (Chip.armRelease c b_) := by
  unfold Chip.armRelease
  repeat' first
    | with_reducible assumption
    | with_reducible exact hr_HOLDER_USED _
    | with_reducible apply Chip.updBelt_fr
    | with_reducible apply Fr.each
    | with_reducible apply Chip.endMark_fr
    | with_reducible apply Chip.mstate_fr
    | intro _
    | split
    | (extract_lets +onlyGivenNames x; refine (fun hx : Fr f a x => ?_) ?_; (on_goal 1 => clear_value x); (on_goal 2 => subst x))
    | (extract_lets +onlyGivenNames x; refine (fun hx : Fr f a x.2 => ?_) ?_; (on_goal 1 => clear_value x); (on_goal 2 => subst x))
    | (extract_lets +onlyGivenNames x; clear_value x)
    | dsimp only

theorem Chip.armCrossed_fr {f : Frame} {a c : Chip} {b_} (h : Fr f a c) (hp_sei : Part.sei ∈ f.parts) :
    Fr f a (Chip.armCrossed c b_) := by
  unfold Chip.armCrossed
  repeat' first
    | with_reducible assumption
    | with_reducible apply Fr.each
    | with_reducible apply Chip.handLate_fr
    | intro _
    | split
    | (extract_lets +onlyGivenNames x; refine (fun hx : Fr f a x => ?_) ?_; (on_goal 1 => clear_value x); (on_goal 2 => subst x))
    | (extract_lets +onlyGivenNames x; refine (fun hx : Fr f a x.2 => ?_) ?_; (on_goal 1 => clear_value x); (on_goal 2 => subst x))
    | (extract_lets +onlyGivenNames x; clear_value x)
    | dsimp only

theorem Chip.armLoad_fr {f : Frame} {a c : Chip} {b_} (h : Fr f a c) (hp_pond : Part.pond ∈ f.parts) (hp_engines : Part.engines ∈ f.parts) (hp_sei : Part.sei ∈ f.parts) :
    Fr f a (Chip.armLoad c b_) := by
  unfold Chip.armLoad
  repeat' first
    | with_reducible assumption
    | with_reducible apply Chip.updBelt_fr
    | with_reducible apply Fr.each
    | with_reducible apply Chip.mstate_fr
    | intro _
    | split
    | (extract_lets +onlyGivenNames x; refine (fun hx : Fr f a x => ?_) ?_; (on_goal 1 => clear_value x); (on_goal 2 => subst x))
    | (extract_lets +onlyGivenNames x; refine (fun hx : Fr f a x.2 => ?_) ?_; (on_goal 1 => clear_value x); (on_goal 2 => subst x))
    | (extract_lets +onlyGivenNames x; clear_value x)
    | dsimp only

theorem Chip.inReport_fr {f : Frame} {a c : Chip} {i_} {r_} (h : Fr f a c) (hp_doors : Part.doors ∈ f.parts) (hp_rates : Part.rates ∈ f.parts) (hp_engines : Part.engines ∈ f.parts) (hp_basins : Part.basins ∈ f.parts) (hp_sei : Part.sei ∈ f.parts) (hp_svc : Part.svc ∈ f.parts) (hp_pwr : Part.pwr ∈ f.parts) (hr_PWR_STATUS : f.regs .PWR_STATUS = true) :
    Fr f a (Chip.inReport c i_ r_) := by
  unfold Chip.inReport
  repeat' first
    | with_reducible assumption
    | with_reducible apply Chip.updInlet_fr
    | with_reducible refine Chip.putRec_fr ‹_› ?_ ?_ ?_ ?_ ?_ ?_ ?_ ?_
    | with_reducible apply Chip.putRec_fr2
    | with_reducible refine Fr.ofIte ‹_› ?_ ?_
    | intro _
    | split
    | (extract_lets +onlyGivenNames x; refine (fun hx : Fr f a x => ?_) ?_; (on_goal 1 => clear_value x); (on_goal 2 => subst x))
    | (extract_lets +onlyGivenNames x; refine (fun hx : Fr f a x.2 => ?_) ?_; (on_goal 1 => clear_value x); (on_goal 2 => subst x))
    | (extract_lets +onlyGivenNames x; clear_value x)
    | dsimp only

theorem Chip.inTake_fr {f : Frame} {a c : Chip} {i_} {e_} (h : Fr f a c) (hp_doors : Part.doors ∈ f.parts) (hp_rates : Part.rates ∈ f.parts) (hp_engines : Part.engines ∈ f.parts) (hp_basins : Part.basins ∈ f.parts) (hp_sei : Part.sei ∈ f.parts) (hp_svc : Part.svc ∈ f.parts) (hp_pwr : Part.pwr ∈ f.parts) (hr_PWR_STATUS : f.regs .PWR_STATUS = true) :
    Fr f a (Chip.inTake c i_ e_) := by
  unfold Chip.inTake
  repeat' first
    | with_reducible assumption
    | with_reducible apply Chip.updInlet_fr
    | with_reducible apply Chip.inReport_fr
    | intro _
    | split
    | (extract_lets +onlyGivenNames x; refine (fun hx : Fr f a x => ?_) ?_; (on_goal 1 => clear_value x); (on_goal 2 => subst x))
    | (extract_lets +onlyGivenNames x; refine (fun hx : Fr f a x.2 => ?_) ?_; (on_goal 1 => clear_value x); (on_goal 2 => subst x))
    | (extract_lets +onlyGivenNames x; clear_value x)
    | dsimp only

theorem Chip.inDrain_fr {f : Frame} {a c : Chip} {i_} (h : Fr f a c) (hp_doors : Part.doors ∈ f.parts) (hp_rates : Part.rates ∈ f.parts) (hp_engines : Part.engines ∈ f.parts) (hp_basins : Part.basins ∈ f.parts) (hp_sei : Part.sei ∈ f.parts) (hp_svc : Part.svc ∈ f.parts) (hp_pwr : Part.pwr ∈ f.parts) (hr_PWR_STATUS : f.regs .PWR_STATUS = true) :
    Fr f a (Chip.inDrain c i_) := by
  unfold Chip.inDrain
  repeat' first
    | with_reducible assumption
    | with_reducible apply Chip.updInlet_fr
    | with_reducible apply Fr.each
    | with_reducible apply Chip.inTake_fr
    | intro _
    | split
    | (extract_lets +onlyGivenNames x; refine (fun hx : Fr f a x => ?_) ?_; (on_goal 1 => clear_value x); (on_goal 2 => subst x))
    | (extract_lets +onlyGivenNames x; refine (fun hx : Fr f a x.2 => ?_) ?_; (on_goal 1 => clear_value x); (on_goal 2 => subst x))
    | (extract_lets +onlyGivenNames x; clear_value x)
    | dsimp only

theorem Chip.inDrainAll_fr {f : Frame} {a c : Chip}  (h : Fr f a c) (hp_doors : Part.doors ∈ f.parts) (hp_rates : Part.rates ∈ f.parts) (hp_engines : Part.engines ∈ f.parts) (hp_basins : Part.basins ∈ f.parts) (hp_sei : Part.sei ∈ f.parts) (hp_svc : Part.svc ∈ f.parts) (hp_pwr : Part.pwr ∈ f.parts) (hr_PWR_STATUS : f.regs .PWR_STATUS = true) :
    Fr f a (Chip.inDrainAll c) := by
  unfold Chip.inDrainAll
  repeat' first
    | with_reducible assumption
    | with_reducible apply Fr.each
    | with_reducible apply Chip.inDrain_fr
    | intro _
    | split
    | (extract_lets +onlyGivenNames x; refine (fun hx : Fr f a x => ?_) ?_; (on_goal 1 => clear_value x); (on_goal 2 => subst x))
    | (extract_lets +onlyGivenNames x; refine (fun hx : Fr f a x.2 => ?_) ?_; (on_goal 1 => clear_value x); (on_goal 2 => subst x))
    | (extract_lets +onlyGivenNames x; clear_value x)
    | dsimp only

theorem Chip.inletsAnew_fr {f : Frame} {a c : Chip}  (h : Fr f a c) (hp_doors : Part.doors ∈ f.parts) (hp_rates : Part.rates ∈ f.parts) (hp_engines : Part.engines ∈ f.parts) (hp_basins : Part.basins ∈ f.parts) (hp_sei : Part.sei ∈ f.parts) (hp_svc : Part.svc ∈ f.parts) (hp_pwr : Part.pwr ∈ f.parts) (hr_PWR_STATUS : f.regs .PWR_STATUS = true) :
    Fr f a (Chip.inletsAnew c) := by
  unfold Chip.inletsAnew
  repeat' first
    | with_reducible assumption
    | with_reducible apply Fr.each
    | with_reducible apply Chip.updInlet_fr
    | with_reducible apply Chip.inReport_fr
    | intro _
    | split
    | (extract_lets +onlyGivenNames x; refine (fun hx : Fr f a x => ?_) ?_; (on_goal 1 => clear_value x); (on_goal 2 => subst x))
    | (extract_lets +onlyGivenNames x; refine (fun hx : Fr f a x.2 => ?_) ?_; (on_goal 1 => clear_value x); (on_goal 2 => subst x))
    | (extract_lets +onlyGivenNames x; clear_value x)
    | dsimp only

theorem Chip.jams_fr {f : Frame} {a c : Chip} {b_} (h : Fr f a c) (hp_doors : Part.doors ∈ f.parts) (hp_sei : Part.sei ∈ f.parts) :
    Fr f a (Chip.jams c b_) := by
  unfold Chip.jams
  repeat' first
    | with_reducible assumption
    | with_reducible apply Fr.each
    | with_reducible apply Chip.updInlet_fr
    | with_reducible apply Chip.post_fr
    | intro _
    | split
    | (extract_lets +onlyGivenNames x; refine (fun hx : Fr f a x => ?_) ?_; (on_goal 1 => clear_value x); (on_goal 2 => subst x))
    | (extract_lets +onlyGivenNames x; refine (fun hx : Fr f a x.2 => ?_) ?_; (on_goal 1 => clear_value x); (on_goal 2 => subst x))
    | (extract_lets +onlyGivenNames x; clear_value x)
    | dsimp only

theorem Chip.inletCtl_fr {f : Frame} {a c : Chip} {i_} {old_} (h : Fr f a c) (hp_sei : Part.sei ∈ f.parts) :
    Fr f a (Chip.inletCtl c i_ old_) := by
  unfold Chip.inletCtl
  repeat' first
    | with_reducible assumption
    | with_reducible apply Chip.updInlet_fr
    | intro _
    | split
    | (extract_lets +onlyGivenNames x; refine (fun hx : Fr f a x => ?_) ?_; (on_goal 1 => clear_value x); (on_goal 2 => subst x))
    | (extract_lets +onlyGivenNames x; refine (fun hx : Fr f a x.2 => ?_) ?_; (on_goal 1 => clear_value x); (on_goal 2 => subst x))
    | (extract_lets +onlyGivenNames x; clear_value x)
    | dsimp only

/-! ### Machine/ResetOps.lean -/

theorem Chip.resetLine_fr {f : Frame} {a c : Chip} {n_} (h : Fr f a c) (hp_trunk : Part.trunk ∈ f.parts) (hp_doors : Part.doors ∈ f.parts) (hp_reqs : Part.reqs ∈ f.parts) (hp_rates : Part.rates ∈ f.parts) (hp_ports : Part.ports ∈ f.parts) (hp_fab : Part.fab ∈ f.parts) (hp_free : Part.free ∈ f.parts) (hr_LINE_CTL : ∀ n, f.regs (.LINE_CTL n) = true) (hr_LINE_DBT : ∀ n, f.regs (.LINE_DBT n) = true) (hr_LINE_ERR : ∀ n, f.regs (.LINE_ERR n) = true) (hr_LINE_NBT : ∀ n, f.regs (.LINE_NBT n) = true) (hr_LINE_TDC : ∀ n, f.regs (.LINE_TDC n) = true) :
    Fr f a (Chip.resetLine c n_) := by
  unfold Chip.resetLine
  repeat' first
    | with_reducible assumption
    | with_reducible exact hr_LINE_CTL _
    | with_reducible exact hr_LINE_DBT _
    | with_reducible exact hr_LINE_ERR _
    | with_reducible exact hr_LINE_NBT _
    | with_reducible exact hr_LINE_TDC _
    | with_reducible apply Chip.cancelAllTx_fr
    | with_reducible apply Fr.each
    | with_reducible apply Chip.finishTx_fr
    | with_reducible apply Chip.answerUlps_fr
    | with_reducible apply Chip.answer_fr
    | with_reducible apply Chip.applyTimingDue_fr
    | with_reducible apply Fr.wr
    | with_reducible apply Chip.updPort_fr
    | with_reducible apply Chip.updLine_fr
    | intro _
    | split
    | (extract_lets +onlyGivenNames x; refine (fun hx : Fr f a x => ?_) ?_; (on_goal 1 => clear_value x); (on_goal 2 => subst x))
    | (extract_lets +onlyGivenNames x; refine (fun hx : Fr f a x.2 => ?_) ?_; (on_goal 1 => clear_value x); (on_goal 2 => subst x))
    | (extract_lets +onlyGivenNames x; clear_value x)
    | dsimp only

theorem Chip.resetDrop_fr {f : Frame} {a c : Chip} {n_} (h : Fr f a c) (hp_fl : Part.fl ∈ f.parts) (hp_trunk : Part.trunk ∈ f.parts) (hp_doors : Part.doors ∈ f.parts) (hp_reqs : Part.reqs ∈ f.parts) (hp_rates : Part.rates ∈ f.parts) (hp_pond : Part.pond ∈ f.parts) (hp_engines : Part.engines ∈ f.parts) (hp_basins : Part.basins ∈ f.parts) (hp_ports : Part.ports ∈ f.parts) (hp_chans : Part.chans ∈ f.parts) (hp_svc : Part.svc ∈ f.parts) (hp_pwr : Part.pwr ∈ f.parts) (hr_CH_CMD : ∀ n, f.regs (.CH_CMD n) = true) (hr_CH_STATUS : ∀ n, f.regs (.CH_STATUS n) = true) (hr_DROP_SCHED : ∀ n, f.regs (.DROP_SCHED n) = true) (hr_DROP_STATUS : ∀ n, f.regs (.DROP_STATUS n) = true) (hr_HOLDER_USED : ∀ n, f.regs (.HOLDER_USED n) = true) (hr_POND_FREE : f.regs .POND_FREE = true) (hr_POND_STATUS : f.regs .POND_STATUS = true) (hr_POND_WAIT : f.regs .POND_WAIT = true) (hr_PWR_STATUS : f.regs .PWR_STATUS = true) (hr_SVC_STATUS : f.regs .SVC_STATUS = true) :
    Fr f a (Chip.resetDrop c n_) := by
  unfold Chip.resetDrop
  repeat' first
    | with_reducible assumption
    | with_reducible exact hr_CH_CMD _
    | with_reducible exact hr_CH_STATUS _
    | with_reducible exact hr_DROP_SCHED _
    | with_reducible exact hr_DROP_STATUS _
    | with_reducible exact hr_HOLDER_USED _
    | with_reducible apply Chip.suspendCh_fr
    | with_reducible apply Chip.leaveDrop_fr
    | with_reducible apply Chip.updDrop_fr
    | with_reducible apply Chip.startReset_fr
    | with_reducible apply Chip.setRoot_fr
    | intro _
    | split
    | (extract_lets +onlyGivenNames x; refine (fun hx : Fr f a x => ?_) ?_; (on_goal 1 => clear_value x); (on_goal 2 => subst x))
    | (extract_lets +onlyGivenNames x; refine (fun hx : Fr f a x.2 => ?_) ?_; (on_goal 1 => clear_value x); (on_goal 2 => subst x))
    | (extract_lets +onlyGivenNames x; clear_value x)
    | dsimp only

theorem Chip.portReset_fr {f : Frame} {a c : Chip} {n_} (h : Fr f a c) (hp_clk : Part.clk ∈ f.parts) (hp_fl : Part.fl ∈ f.parts) (hp_trunk : Part.trunk ∈ f.parts) (hp_doors : Part.doors ∈ f.parts) (hp_reqs : Part.reqs ∈ f.parts) (hp_rates : Part.rates ∈ f.parts) (hp_pond : Part.pond ∈ f.parts) (hp_engines : Part.engines ∈ f.parts) (hp_basins : Part.basins ∈ f.parts) (hp_ports : Part.ports ∈ f.parts) (hp_chans : Part.chans ∈ f.parts) (hp_svc : Part.svc ∈ f.parts) (hp_pwr : Part.pwr ∈ f.parts) (hp_fab : Part.fab ∈ f.parts) (hp_free : Part.free ∈ f.parts) (hr_CH_CMD : ∀ n, f.regs (.CH_CMD n) = true) (hr_CH_STATUS : ∀ n, f.regs (.CH_STATUS n) = true) (hr_DROP_SCHED : ∀ n, f.regs (.DROP_SCHED n) = true) (hr_DROP_STATUS : ∀ n, f.regs (.DROP_STATUS n) = true) (hr_DROP_XFER_ERR : ∀ n, f.regs (.DROP_XFER_ERR n) = true) (hr_HOLDER_USED : ∀ n, f.regs (.HOLDER_USED n) = true) (hr_LINE_CNT : ∀ n, f.regs (.LINE_CNT n) = true) (hr_LINE_CTL : ∀ n, f.regs (.LINE_CTL n) = true) (hr_LINE_DBT : ∀ n, f.regs (.LINE_DBT n) = true) (hr_LINE_ERR : ∀ n, f.regs (.LINE_ERR n) = true) (hr_LINE_NBT : ∀ n, f.regs (.LINE_NBT n) = true) (hr_LINE_TDC : ∀ n, f.regs (.LINE_TDC n) = true) (hr_POND_FREE : f.regs .POND_FREE = true) (hr_POND_STATUS : f.regs .POND_STATUS = true) (hr_POND_WAIT : f.regs .POND_WAIT = true) (hr_PWR_STATUS : f.regs .PWR_STATUS = true) (hr_SVC_STATUS : f.regs .SVC_STATUS = true) :
    Fr f a (Chip.portReset c n_) := by
  unfold Chip.portReset
  repeat' first
    | with_reducible assumption
    | with_reducible exact hr_CH_CMD _
    | with_reducible exact hr_CH_STATUS _
    | with_reducible exact hr_DROP_SCHED _
    | with_reducible exact hr_DROP_STATUS _
    | with_reducible exact hr_DROP_XFER_ERR _
    | with_reducible exact hr_HOLDER_USED _
    | with_reducible exact hr_LINE_CNT _
    | with_reducible exact hr_LINE_CTL _
    | with_reducible exact hr_LINE_DBT _
    | with_reducible exact hr_LINE_ERR _
    | with_reducible exact hr_LINE_NBT _
    | with_reducible exact hr_LINE_TDC _
    | with_reducible apply Fr.wr
    | with_reducible apply Chip.dropPulses_fr
    | with_reducible apply Chip.resetDrop_fr
    | with_reducible apply Chip.resetLine_fr
    | with_reducible apply Chip.bumpPort_fr
    | intro _
    | split
    | (extract_lets +onlyGivenNames x; refine (fun hx : Fr f a x => ?_) ?_; (on_goal 1 => clear_value x); (on_goal 2 => subst x))
    | (extract_lets +onlyGivenNames x; refine (fun hx : Fr f a x.2 => ?_) ?_; (on_goal 1 => clear_value x); (on_goal 2 => subst x))
    | (extract_lets +onlyGivenNames x; clear_value x)
    | dsimp only

theorem Chip.basinDown_fr {f : Frame} {a c : Chip} {b_} (h : Fr f a c) (hp_clk : Part.clk ∈ f.parts) (hp_pond : Part.pond ∈ f.parts) (hp_engines : Part.engines ∈ f.parts) (hp_basins : Part.basins ∈ f.parts) (hp_ports : Part.ports ∈ f.parts) (hp_sei : Part.sei ∈ f.parts) (hp_svc : Part.svc ∈ f.parts) :
    Fr f a (Chip.basinDown c b_) := by
  unfold Chip.basinDown
  repeat' first
    | with_reducible assumption
    | with_reducible apply Chip.dropPulses_fr
    | with_reducible apply Fr.each
    | with_reducible apply Chip.updEng_fr
    | with_reducible apply Chip.updSvcBody_fr
    | with_reducible apply Chip.culletRecs_fr
    | with_reducible apply Chip.updBelt_fr
    | with_reducible apply Chip.updDrop_fr
    | with_reducible apply Chip.updBasin_fr
    | intro _
    | split
    | (extract_lets +onlyGivenNames x; refine (fun hx : Fr f a x => ?_) ?_; (on_goal 1 => clear_value x); (on_goal 2 => subst x))
    | (extract_lets +onlyGivenNames x; refine (fun hx : Fr f a x.2 => ?_) ?_; (on_goal 1 => clear_value x); (on_goal 2 => subst x))
    | (extract_lets +onlyGivenNames x; clear_value x)
    | dsimp only

theorem Chip.rollByReset_fr {f : Frame} {a c : Chip} {b_} (h : Fr f a c) (hp_fw : Part.fw ∈ f.parts) (hp_doors : Part.doors ∈ f.parts) (hp_engines : Part.engines ∈ f.parts) (hp_bead : Part.bead ∈ f.parts) (hr_BOOT_STATUS : f.regs .BOOT_STATUS = true) :
    Fr f a (Chip.rollByReset c b_) := by
  unfold Chip.rollByReset
  repeat' first
    | with_reducible assumption
    | with_reducible apply Chip.rollBasinDone_fr
    | intro _
    | split
    | (extract_lets +onlyGivenNames x; refine (fun hx : Fr f a x => ?_) ?_; (on_goal 1 => clear_value x); (on_goal 2 => subst x))
    | (extract_lets +onlyGivenNames x; refine (fun hx : Fr f a x.2 => ?_) ?_; (on_goal 1 => clear_value x); (on_goal 2 => subst x))
    | (extract_lets +onlyGivenNames x; clear_value x)
    | dsimp only

theorem Chip.basinBack_fr {f : Frame} {a c : Chip} {b_} (h : Fr f a c) (hp_clk : Part.clk ∈ f.parts) (hp_fw : Part.fw ∈ f.parts) (hp_doors : Part.doors ∈ f.parts) (hp_cullet : Part.cullet ∈ f.parts) (hp_rates : Part.rates ∈ f.parts) (hp_engines : Part.engines ∈ f.parts) (hp_basins : Part.basins ∈ f.parts) (hp_ports : Part.ports ∈ f.parts) (hp_sei : Part.sei ∈ f.parts) (hp_svc : Part.svc ∈ f.parts) (hp_pwr : Part.pwr ∈ f.parts) (hp_bead : Part.bead ∈ f.parts) (hp_ladders : Part.ladders ∈ f.parts) (hr_BOOT_STATUS : f.regs .BOOT_STATUS = true) (hr_ENG_BASIN : ∀ n, f.regs (.ENG_BASIN n) = true) (hr_GLB_FAULT : f.regs .GLB_FAULT = true) (hr_PWR_STATUS : f.regs .PWR_STATUS = true) :
    Fr f a (Chip.basinBack c b_) := by
  unfold Chip.basinBack
  repeat' first
    | with_reducible assumption
    | with_reducible exact hr_ENG_BASIN _
    | with_reducible apply Chip.updBasin_fr
    | with_reducible apply Chip.loadEngines_fr
    | with_reducible apply Chip.setSt_fr
    | with_reducible apply Chip.closeLadder_fr
    | with_reducible apply Fr.each
    | with_reducible apply Chip.rxDrain_fr
    | with_reducible apply Chip.takeOver_fr
    | with_reducible apply Chip.inDrainAll_fr
    | with_reducible apply Chip.rollByReset_fr
    | intro _
    | split
    | (extract_lets +onlyGivenNames x; refine (fun hx : Fr f a x => ?_) ?_; (on_goal 1 => clear_value x); (on_goal 2 => subst x))
    | (extract_lets +onlyGivenNames x; refine (fun hx : Fr f a x.2 => ?_) ?_; (on_goal 1 => clear_value x); (on_goal 2 => subst x))
    | (extract_lets +onlyGivenNames x; clear_value x)
    | dsimp only

theorem Chip.hsDown_fr {f : Frame} {a c : Chip}  (h : Fr f a c) (hp_clk : Part.clk ∈ f.parts) (hp_fw : Part.fw ∈ f.parts) (hp_doors : Part.doors ∈ f.parts) (hp_bead : Part.bead ∈ f.parts) (hr_GLB_FAULT : f.regs .GLB_FAULT = true) :
    Fr f a (Chip.hsDown c) := by
  unfold Chip.hsDown
  repeat' first
    | with_reducible assumption
    | with_reducible apply Chip.updFw_fr
    | with_reducible apply Chip.postFault_fr
    | with_reducible apply Chip.measure_fr
    | with_reducible exact fun _ => rfl
    | with_reducible exact fun _ => ⟨rfl, rfl⟩
    | with_reducible rfl
    | with_reducible exact ⟨rfl, rfl⟩
    | intro _
    | split
    | (extract_lets +onlyGivenNames x; refine (fun hx : Fr f a x => ?_) ?_; (on_goal 1 => clear_value x); (on_goal 2 => subst x))
    | (extract_lets +onlyGivenNames x; refine (fun hx : Fr f a x.2 => ?_) ?_; (on_goal 1 => clear_value x); (on_goal 2 => subst x))
    | (extract_lets +onlyGivenNames x; clear_value x)
    | dsimp only

theorem Chip.hsReload_fr {f : Frame} {a c c' : Chip} (e : c.hsReload = some c') (h : Fr f a c)
    (hp_fw : Part.fw ∈ f.parts) (hp_doors : Part.doors ∈ f.parts) (hp_bead : Part.bead ∈ f.parts) : Fr f a c' := by
  unfold Chip.hsReload at e
  simp only at e
  split at e
  · exact absurd e (by simp)
  · split at e
    · exact absurd e (by simp)
    · simp only [Option.some.injEq] at e
      subst e
      refine Chip.measure_fr (Chip.updFw_fr h ‹_› (fun _ => rfl)) hp_fw hp_doors hp_bead

theorem Chip.hsReturns_fr {f : Frame} {a c : Chip}  (h : Fr f a c) (hp_trunk : Part.trunk ∈ f.parts) (hp_doors : Part.doors ∈ f.parts) (hp_reqs : Part.reqs ∈ f.parts) (hp_rates : Part.rates ∈ f.parts) (hp_pond : Part.pond ∈ f.parts) (hp_engines : Part.engines ∈ f.parts) (hp_basins : Part.basins ∈ f.parts) (hp_ports : Part.ports ∈ f.parts) (hp_svc : Part.svc ∈ f.parts) (hp_pwr : Part.pwr ∈ f.parts) (hr_HOLDER_USED : ∀ n, f.regs (.HOLDER_USED n) = true) (hr_POND_FREE : f.regs .POND_FREE = true) (hr_POND_STATUS : f.regs .POND_STATUS = true) (hr_POND_WAIT : f.regs .POND_WAIT = true) (hr_PWR_STATUS : f.regs .PWR_STATUS = true) (hr_SVC_STATUS : f.regs .SVC_STATUS = true) :
    Fr f a (Chip.hsReturns c) := by
  unfold Chip.hsReturns
  repeat' first
    | with_reducible assumption
    | with_reducible exact hr_HOLDER_USED _
    | with_reducible apply Fr.each
    | with_reducible apply Chip.updDoor_fr
    | with_reducible apply Chip.bindsResume_fr
    | with_reducible exact fun _ => ⟨rfl, rfl, rfl⟩
    | with_reducible exact fun _ => DoorSt.push_same _ _
    | intro _
    | split
    | (extract_lets +onlyGivenNames x; refine (fun hx : Fr f a x => ?_) ?_; (on_goal 1 => clear_value x); (on_goal 2 => subst x))
    | (extract_lets +onlyGivenNames x; refine (fun hx : Fr f a x.2 => ?_) ?_; (on_goal 1 => clear_value x); (on_goal 2 => subst x))
    | (extract_lets +onlyGivenNames x; clear_value x)
    | dsimp only

theorem Chip.dropTakeover_fr {f : Frame} {a c : Chip} {d_} (h : Fr f a c) (hp_trunk : Part.trunk ∈ f.parts) (hp_doors : Part.doors ∈ f.parts) (hp_reqs : Part.reqs ∈ f.parts) :
    Fr f a (Chip.dropTakeover c d_) := by
  unfold Chip.dropTakeover
  repeat' first
    | with_reducible assumption
    | with_reducible apply Chip.answerEntry_fr
    | with_reducible apply Chip.finishRelease_fr
    | with_reducible apply Chip.updDoor_fr
    | with_reducible exact fun _ => ⟨rfl, rfl, rfl⟩
    | with_reducible exact fun _ => DoorSt.push_same _ _
    | intro _
    | split
    | (extract_lets +onlyGivenNames x; refine (fun hx : Fr f a x => ?_) ?_; (on_goal 1 => clear_value x); (on_goal 2 => subst x))
    | (extract_lets +onlyGivenNames x; refine (fun hx : Fr f a x.2 => ?_) ?_; (on_goal 1 => clear_value x); (on_goal 2 => subst x))
    | (extract_lets +onlyGivenNames x; clear_value x)
    | dsimp only

theorem Chip.hsBack_fr {f : Frame} {a c : Chip}  (h : Fr f a c) (hp_fw : Part.fw ∈ f.parts) (hp_trunk : Part.trunk ∈ f.parts) (hp_doors : Part.doors ∈ f.parts) (hp_reqs : Part.reqs ∈ f.parts) (hp_rates : Part.rates ∈ f.parts) (hp_pond : Part.pond ∈ f.parts) (hp_engines : Part.engines ∈ f.parts) (hp_basins : Part.basins ∈ f.parts) (hp_ports : Part.ports ∈ f.parts) (hp_svc : Part.svc ∈ f.parts) (hp_pwr : Part.pwr ∈ f.parts) (hp_bead : Part.bead ∈ f.parts) (hp_ladders : Part.ladders ∈ f.parts) (hr_HOLDER_USED : ∀ n, f.regs (.HOLDER_USED n) = true) (hr_POND_FREE : f.regs .POND_FREE = true) (hr_POND_STATUS : f.regs .POND_STATUS = true) (hr_POND_WAIT : f.regs .POND_WAIT = true) (hr_PWR_STATUS : f.regs .PWR_STATUS = true) (hr_SVC_STATUS : f.regs .SVC_STATUS = true) :
    Fr f a (Chip.hsBack c) := by
  unfold Chip.hsBack
  repeat' first
    | with_reducible assumption
    | with_reducible exact hr_HOLDER_USED _
    | with_reducible refine Chip.hsReload_fr ‹_› ?_ ?_ ?_ ?_
    | with_reducible apply Chip.updFw_fr
    | with_reducible apply Chip.openLadder_fr
    | with_reducible apply Fr.each
    | with_reducible apply Chip.dropTakeover_fr
    | with_reducible apply Chip.answer_fr
    | with_reducible apply Chip.hsReturns_fr
    | with_reducible exact fun _ => rfl
    | with_reducible exact fun _ => ⟨rfl, rfl⟩
    | with_reducible rfl
    | with_reducible exact ⟨rfl, rfl⟩
    | intro _
    | split
    | (extract_lets +onlyGivenNames x; refine (fun hx : Fr f a x => ?_) ?_; (on_goal 1 => clear_value x); (on_goal 2 => subst x))
    | (extract_lets +onlyGivenNames x; refine (fun hx : Fr f a x.2 => ?_) ?_; (on_goal 1 => clear_value x); (on_goal 2 => subst x))
    | (extract_lets +onlyGivenNames x; clear_value x)
    | dsimp only

theorem regsOk_filter (p : Reg × Word → Bool) : ∀ t : List (Reg × Word), regsOk t = true → regsOk (t.filter p) = true := by
  have head : ∀ (j : Nat) (t : List (Reg × Word)), regsOk t = true → (∀ x ∈ t.head?, j < x.1.addr) →
      ∀ x ∈ (t.filter p).head?, j < x.1.addr := by
    intro j t
    induction t with
    | nil => intro _ _ x hx; simp at hx
    | cons y t ih =>
      obtain ⟨b, u⟩ := y
      intro hl h x hx
      have hb : j < b.addr := h (b, u) (by simp)
      rw [List.filter_cons] at hx
      split at hx
      · simp at hx; subst hx; exact hb
      · exact ih (regsOk_cons.1 hl).2.2 (fun z hz => lt_trans hb ((regsOk_cons.1 hl).2.1 z hz)) x hx
  intro t
  induction t with
  | nil => intro h; exact h
  | cons y t ih =>
    obtain ⟨b, u⟩ := y
    intro h
    have hc := regsOk_cons.1 h
    rw [List.filter_cons]
    split
    · exact regsOk_cons.2 ⟨hc.1, head b.addr t hc.2.2 hc.2.1, ih hc.2.2⟩
    · exact ih hc.2.2

theorem regsOk_afterReset (c : Chip) (h : regsOk c.regs = true) : regsOk c.regsAfterReset = true :=
  regsOk_regSet _ _ _ (regsOk_regSet _ _ _ (regsOk_regSet _ _ _ (regsOk_filter _ _ h)))

theorem Chip.cleared_fr {f : Frame} {a c : Chip} (h : Fr f a c) (hp_clk : Part.clk ∈ f.parts) (hp_fl : Part.fl ∈ f.parts) (hp_fw : Part.fw ∈ f.parts) (hp_trunk : Part.trunk ∈ f.parts) (hp_doors : Part.doors ∈ f.parts) (hp_reqs : Part.reqs ∈ f.parts) (hp_cullet : Part.cullet ∈ f.parts) (hp_rates : Part.rates ∈ f.parts) (hp_svcPort : Part.svcPort ∈ f.parts) (hp_pond : Part.pond ∈ f.parts) (hp_engines : Part.engines ∈ f.parts) (hp_basins : Part.basins ∈ f.parts) (hp_ports : Part.ports ∈ f.parts) (hp_chans : Part.chans ∈ f.parts) (hp_rails : Part.rails ∈ f.parts) (hp_sei : Part.sei ∈ f.parts) (hp_svc : Part.svc ∈ f.parts) (hp_pwr : Part.pwr ∈ f.parts) (hp_bead : Part.bead ∈ f.parts) (hp_fab : Part.fab ∈ f.parts) (hp_ladders : Part.ladders ∈ f.parts) (hall : ∀ r, f.regs r = true) :
    Fr f a (Chip.cleared c) :=
  ⟨⟨fun r hr => absurd (hall r) (by simp [hr]), (fun n => absurd hp_clk n), (fun n => absurd hp_fl n), (fun n => absurd hp_fw n), h.kept.flash, (fun n => absurd hp_trunk n), (fun n => absurd hp_doors n), (fun n => absurd hp_reqs n), (fun n => absurd hp_cullet n), (fun n => absurd hp_cullet n), h.kept.nextOrd, (fun n => absurd hp_rates n), (fun n => absurd hp_svcPort n), (fun n => absurd hp_pond n), (fun n => absurd hp_engines n), (fun n => absurd hp_basins n), (fun n => absurd hp_ports n), (fun n => absurd hp_chans n), (fun n => absurd hp_rails n), (fun n => absurd hp_sei n), (fun n => absurd hp_svc n), (fun n => absurd hp_pwr n), (fun n => absurd hp_bead n), h.kept.blocks, h.kept.locked, (fun n => absurd hp_fab n), (fun n => absurd hp_ladders n), h.kept.freeCtr⟩, fun x => ⟨regsOk_afterReset c (h.canon x).regs, (h.canon x).flash, (h.canon x).blocks⟩⟩

theorem Chip.bootWhenReady_fr {f : Frame} {a c : Chip}  (h : Fr f a c) (hp_clk : Part.clk ∈ f.parts) (hp_fw : Part.fw ∈ f.parts) (hp_doors : Part.doors ∈ f.parts) (hp_bead : Part.bead ∈ f.parts) (hr_BOOT_OVR : f.regs .BOOT_OVR = true) (hr_BOOT_STATUS : f.regs .BOOT_STATUS = true) (hr_GLB_FAULT : f.regs .GLB_FAULT = true) :
    Fr f a (Chip.bootWhenReady c) := by
  unfold Chip.bootWhenReady
  repeat' first
    | with_reducible assumption
    | with_reducible apply Chip.balls_fr
    | with_reducible apply Chip.bootRom_fr
    | intro _
    | split
    | (extract_lets +onlyGivenNames x; refine (fun hx : Fr f a x => ?_) ?_; (on_goal 1 => clear_value x); (on_goal 2 => subst x))
    | (extract_lets +onlyGivenNames x; refine (fun hx : Fr f a x.2 => ?_) ?_; (on_goal 1 => clear_value x); (on_goal 2 => subst x))
    | (extract_lets +onlyGivenNames x; clear_value x)
    | dsimp only

theorem Chip.rstCause_fr {f : Frame} {a c : Chip} {cause_} {supply_} (h : Fr f a c) (hr_RST_CAUSE : f.regs .RST_CAUSE = true) :
    Fr f a (Chip.rstCause c cause_ supply_) := by
  unfold Chip.rstCause
  repeat' first
    | with_reducible assumption
    | with_reducible apply Fr.wr
    | intro _
    | split
    | (extract_lets +onlyGivenNames x; refine (fun hx : Fr f a x => ?_) ?_; (on_goal 1 => clear_value x); (on_goal 2 => subst x))
    | (extract_lets +onlyGivenNames x; refine (fun hx : Fr f a x.2 => ?_) ?_; (on_goal 1 => clear_value x); (on_goal 2 => subst x))
    | (extract_lets +onlyGivenNames x; clear_value x)
    | dsimp only

theorem Chip.deviceReset_fr {f : Frame} {a c : Chip} {cause_} {supply_} (h : Fr f a c) (hp_clk : Part.clk ∈ f.parts) (hp_fl : Part.fl ∈ f.parts) (hp_fw : Part.fw ∈ f.parts) (hp_trunk : Part.trunk ∈ f.parts) (hp_doors : Part.doors ∈ f.parts) (hp_reqs : Part.reqs ∈ f.parts) (hp_cullet : Part.cullet ∈ f.parts) (hp_rates : Part.rates ∈ f.parts) (hp_svcPort : Part.svcPort ∈ f.parts) (hp_pond : Part.pond ∈ f.parts) (hp_engines : Part.engines ∈ f.parts) (hp_basins : Part.basins ∈ f.parts) (hp_ports : Part.ports ∈ f.parts) (hp_chans : Part.chans ∈ f.parts) (hp_rails : Part.rails ∈ f.parts) (hp_sei : Part.sei ∈ f.parts) (hp_svc : Part.svc ∈ f.parts) (hp_pwr : Part.pwr ∈ f.parts) (hp_bead : Part.bead ∈ f.parts) (hp_fab : Part.fab ∈ f.parts) (hp_ladders : Part.ladders ∈ f.parts) (hall : ∀ r, f.regs r = true) :
    Fr f a (Chip.deviceReset c cause_ supply_) := by
  unfold Chip.deviceReset
  repeat' first
    | with_reducible assumption
    | with_reducible exact hall _
    | with_reducible exact fun _ => hall _
    | with_reducible exact fun _ _ => hall _
    | with_reducible apply Chip.cleared_fr
    | with_reducible apply Chip.rstCause_fr
    | with_reducible apply Chip.balls_fr
    | with_reducible apply Chip.updClk_fr
    | with_reducible apply Chip.bootWhenReady_fr
    | intro _
    | split
    | (extract_lets +onlyGivenNames x; refine (fun hx : Fr f a x => ?_) ?_; (on_goal 1 => clear_value x); (on_goal 2 => subst x))
    | (extract_lets +onlyGivenNames x; refine (fun hx : Fr f a x.2 => ?_) ?_; (on_goal 1 => clear_value x); (on_goal 2 => subst x))
    | (extract_lets +onlyGivenNames x; clear_value x)
    | dsimp only

theorem Chip.powerOn_fr {f : Frame} {a c : Chip} (h : Fr f a c) (hp_clk : Part.clk ∈ f.parts) (hp_fl : Part.fl ∈ f.parts) (hp_fw : Part.fw ∈ f.parts) (hp_trunk : Part.trunk ∈ f.parts) (hp_doors : Part.doors ∈ f.parts) (hp_reqs : Part.reqs ∈ f.parts) (hp_cullet : Part.cullet ∈ f.parts) (hp_rates : Part.rates ∈ f.parts) (hp_svcPort : Part.svcPort ∈ f.parts) (hp_pond : Part.pond ∈ f.parts) (hp_engines : Part.engines ∈ f.parts) (hp_basins : Part.basins ∈ f.parts) (hp_ports : Part.ports ∈ f.parts) (hp_chans : Part.chans ∈ f.parts) (hp_rails : Part.rails ∈ f.parts) (hp_sei : Part.sei ∈ f.parts) (hp_svc : Part.svc ∈ f.parts) (hp_pwr : Part.pwr ∈ f.parts) (hp_bead : Part.bead ∈ f.parts) (hp_fab : Part.fab ∈ f.parts) (hp_ladders : Part.ladders ∈ f.parts) (hall : ∀ r, f.regs r = true) :
    Fr f a (Chip.powerOn c) :=
  ⟨⟨fun r hr => absurd (hall r) (by simp [hr]), (fun n => absurd hp_clk n), (fun n => absurd hp_fl n), (fun n => absurd hp_fw n), h.kept.flash, (fun n => absurd hp_trunk n), (fun n => absurd hp_doors n), (fun n => absurd hp_reqs n), (fun n => absurd hp_cullet n), (fun n => absurd hp_cullet n), h.kept.nextOrd, (fun n => absurd hp_rates n), (fun n => absurd hp_svcPort n), (fun n => absurd hp_pond n), (fun n => absurd hp_engines n), (fun n => absurd hp_basins n), (fun n => absurd hp_ports n), (fun n => absurd hp_chans n), (fun n => absurd hp_rails n), (fun n => absurd hp_sei n), (fun n => absurd hp_svc n), (fun n => absurd hp_pwr n), (fun n => absurd hp_bead n), h.kept.blocks, h.kept.locked, (fun n => absurd hp_fab n), (fun n => absurd hp_ladders n), h.kept.freeCtr⟩, fun x => ⟨regsOk_filter _ _ (regsOk_afterReset c (h.canon x).regs), (h.canon x).flash, (h.canon x).blocks⟩⟩

theorem Chip.startScope_fr {f : Frame} {a c : Chip} {sc_} {q_} {byReg_} {bad_} (h : Fr f a c) (hp_clk : Part.clk ∈ f.parts) (hp_fl : Part.fl ∈ f.parts) (hp_fw : Part.fw ∈ f.parts) (hp_trunk : Part.trunk ∈ f.parts) (hp_doors : Part.doors ∈ f.parts) (hp_reqs : Part.reqs ∈ f.parts) (hp_rates : Part.rates ∈ f.parts) (hp_pond : Part.pond ∈ f.parts) (hp_engines : Part.engines ∈ f.parts) (hp_basins : Part.basins ∈ f.parts) (hp_ports : Part.ports ∈ f.parts) (hp_chans : Part.chans ∈ f.parts) (hp_sei : Part.sei ∈ f.parts) (hp_svc : Part.svc ∈ f.parts) (hp_pwr : Part.pwr ∈ f.parts) (hp_bead : Part.bead ∈ f.parts) (hp_fab : Part.fab ∈ f.parts) (hp_free : Part.free ∈ f.parts) (hr_CH_CMD : ∀ n, f.regs (.CH_CMD n) = true) (hr_CH_STATUS : ∀ n, f.regs (.CH_STATUS n) = true) (hr_DROP_SCHED : ∀ n, f.regs (.DROP_SCHED n) = true) (hr_DROP_STATUS : ∀ n, f.regs (.DROP_STATUS n) = true) (hr_DROP_XFER_ERR : ∀ n, f.regs (.DROP_XFER_ERR n) = true) (hr_ESC_LAST : f.regs .ESC_LAST = true) (hr_GLB_FAULT : f.regs .GLB_FAULT = true) (hr_HOLDER_USED : ∀ n, f.regs (.HOLDER_USED n) = true) (hr_LINE_CNT : ∀ n, f.regs (.LINE_CNT n) = true) (hr_LINE_CTL : ∀ n, f.regs (.LINE_CTL n) = true) (hr_LINE_DBT : ∀ n, f.regs (.LINE_DBT n) = true) (hr_LINE_ERR : ∀ n, f.regs (.LINE_ERR n) = true) (hr_LINE_NBT : ∀ n, f.regs (.LINE_NBT n) = true) (hr_LINE_TDC : ∀ n, f.regs (.LINE_TDC n) = true) (hr_POND_FREE : f.regs .POND_FREE = true) (hr_POND_STATUS : f.regs .POND_STATUS = true) (hr_POND_WAIT : f.regs .POND_WAIT = true) (hr_PWR_STATUS : f.regs .PWR_STATUS = true) (hr_SVC_STATUS : f.regs .SVC_STATUS = true) (hr_TRK_ERR : ∀ n, f.regs (.TRK_ERR n) = true) (hr_TRK_SPILL : f.regs .TRK_SPILL = true) (hr_TRK_STATUS : f.regs .TRK_STATUS = true) :
    Fr f a (Chip.startScope c sc_ q_ byReg_ bad_) := by
  unfold Chip.startScope
  repeat' first
    | with_reducible assumption
    | with_reducible exact hr_CH_CMD _
    | with_reducible exact hr_CH_STATUS _
    | with_reducible exact hr_DROP_SCHED _
    | with_reducible exact hr_DROP_STATUS _
    | with_reducible exact hr_DROP_XFER_ERR _
    | with_reducible exact hr_HOLDER_USED _
    | with_reducible exact hr_LINE_CNT _
    | with_reducible exact hr_LINE_CTL _
    | with_reducible exact hr_LINE_DBT _
    | with_reducible exact hr_LINE_ERR _
    | with_reducible exact hr_LINE_NBT _
    | with_reducible exact hr_LINE_TDC _
    | with_reducible exact hr_TRK_ERR _
    | with_reducible apply Chip.updClk_fr
    | with_reducible apply Chip.portReset_fr
    | with_reducible apply Chip.basinDown_fr
    | with_reducible apply Chip.hsDown_fr
    | with_reducible apply Chip.updLane_fr
    | with_reducible apply Chip.resetLane_fr
    | intro _
    | split
    | (extract_lets +onlyGivenNames x; refine (fun hx : Fr f a x => ?_) ?_; (on_goal 1 => clear_value x); (on_goal 2 => subst x))
    | (extract_lets +onlyGivenNames x; refine (fun hx : Fr f a x.2 => ?_) ?_; (on_goal 1 => clear_value x); (on_goal 2 => subst x))
    | (extract_lets +onlyGivenNames x; clear_value x)
    | dsimp only

theorem Chip.endScope_fr {f : Frame} {a c : Chip} {sc_} (h : Fr f a c) (hp_clk : Part.clk ∈ f.parts) (hp_fw : Part.fw ∈ f.parts) (hp_trunk : Part.trunk ∈ f.parts) (hp_doors : Part.doors ∈ f.parts) (hp_reqs : Part.reqs ∈ f.parts) (hp_cullet : Part.cullet ∈ f.parts) (hp_rates : Part.rates ∈ f.parts) (hp_pond : Part.pond ∈ f.parts) (hp_engines : Part.engines ∈ f.parts) (hp_basins : Part.basins ∈ f.parts) (hp_ports : Part.ports ∈ f.parts) (hp_sei : Part.sei ∈ f.parts) (hp_svc : Part.svc ∈ f.parts) (hp_pwr : Part.pwr ∈ f.parts) (hp_bead : Part.bead ∈ f.parts) (hp_ladders : Part.ladders ∈ f.parts) (hr_BOOT_STATUS : f.regs .BOOT_STATUS = true) (hr_ENG_BASIN : ∀ n, f.regs (.ENG_BASIN n) = true) (hr_GLB_FAULT : f.regs .GLB_FAULT = true) (hr_HOLDER_USED : ∀ n, f.regs (.HOLDER_USED n) = true) (hr_POND_FREE : f.regs .POND_FREE = true) (hr_POND_STATUS : f.regs .POND_STATUS = true) (hr_POND_WAIT : f.regs .POND_WAIT = true) (hr_PWR_STATUS : f.regs .PWR_STATUS = true) (hr_RST_CMD : f.regs .RST_CMD = true) (hr_SVC_STATUS : f.regs .SVC_STATUS = true) :
    Fr f a (Chip.endScope c sc_) := by
  unfold Chip.endScope
  repeat' first
    | with_reducible assumption
    | with_reducible exact hr_ENG_BASIN _
    | with_reducible exact hr_HOLDER_USED _
    | with_reducible apply Chip.updClk_fr
    | with_reducible apply Chip.post_fr
    | with_reducible apply Chip.basinBack_fr
    | with_reducible apply Chip.hsBack_fr
    | with_reducible apply Chip.updLane_fr
    | with_reducible apply Chip.setF_fr
    | with_reducible apply Fr.each
    | with_reducible apply Chip.answer_fr
    | intro _
    | split
    | (extract_lets +onlyGivenNames x; refine (fun hx : Fr f a x => ?_) ?_; (on_goal 1 => clear_value x); (on_goal 2 => subst x))
    | (extract_lets +onlyGivenNames x; refine (fun hx : Fr f a x.2 => ?_) ?_; (on_goal 1 => clear_value x); (on_goal 2 => subst x))
    | (extract_lets +onlyGivenNames x; clear_value x)
    | dsimp only

theorem Chip.holdBasin_fr {f : Frame} {a c : Chip} {b_} (h : Fr f a c) (hp_clk : Part.clk ∈ f.parts) (hp_trunk : Part.trunk ∈ f.parts) (hp_doors : Part.doors ∈ f.parts) (hp_reqs : Part.reqs ∈ f.parts) (hp_rates : Part.rates ∈ f.parts) (hp_pond : Part.pond ∈ f.parts) (hp_engines : Part.engines ∈ f.parts) (hp_basins : Part.basins ∈ f.parts) (hp_ports : Part.ports ∈ f.parts) (hp_sei : Part.sei ∈ f.parts) (hp_svc : Part.svc ∈ f.parts) (hr_ENG_BASIN : ∀ n, f.regs (.ENG_BASIN n) = true) (hr_RST_CMD : f.regs .RST_CMD = true) :
    Fr f a (Chip.holdBasin c b_) := by
  unfold Chip.holdBasin
  repeat' first
    | with_reducible assumption
    | with_reducible exact hr_ENG_BASIN _
    | with_reducible apply Chip.updClk_fr
    | with_reducible apply Fr.each
    | with_reducible apply Chip.setF_fr
    | with_reducible apply Chip.answer_fr
    | with_reducible apply Chip.setSt_fr
    | with_reducible apply Chip.basinDown_fr
    | intro _
    | split
    | (extract_lets +onlyGivenNames x; refine (fun hx : Fr f a x => ?_) ?_; (on_goal 1 => clear_value x); (on_goal 2 => subst x))
    | (extract_lets +onlyGivenNames x; refine (fun hx : Fr f a x.2 => ?_) ?_; (on_goal 1 => clear_value x); (on_goal 2 => subst x))
    | (extract_lets +onlyGivenNames x; clear_value x)
    | dsimp only

theorem Chip.engineFault_fr {f : Frame} {a c : Chip} {e_} {cause_} {lost_} (h : Fr f a c) (hp_clk : Part.clk ∈ f.parts) (hp_fl : Part.fl ∈ f.parts) (hp_fw : Part.fw ∈ f.parts) (hp_trunk : Part.trunk ∈ f.parts) (hp_doors : Part.doors ∈ f.parts) (hp_reqs : Part.reqs ∈ f.parts) (hp_rates : Part.rates ∈ f.parts) (hp_pond : Part.pond ∈ f.parts) (hp_engines : Part.engines ∈ f.parts) (hp_basins : Part.basins ∈ f.parts) (hp_ports : Part.ports ∈ f.parts) (hp_chans : Part.chans ∈ f.parts) (hp_sei : Part.sei ∈ f.parts) (hp_svc : Part.svc ∈ f.parts) (hp_pwr : Part.pwr ∈ f.parts) (hp_bead : Part.bead ∈ f.parts) (hp_fab : Part.fab ∈ f.parts) (hp_ladders : Part.ladders ∈ f.parts) (hp_free : Part.free ∈ f.parts) (hr_CH_CMD : ∀ n, f.regs (.CH_CMD n) = true) (hr_CH_STATUS : ∀ n, f.regs (.CH_STATUS n) = true) (hr_DROP_SCHED : ∀ n, f.regs (.DROP_SCHED n) = true) (hr_DROP_STATUS : ∀ n, f.regs (.DROP_STATUS n) = true) (hr_DROP_XFER_ERR : ∀ n, f.regs (.DROP_XFER_ERR n) = true) (hr_ENG_BASIN : ∀ n, f.regs (.ENG_BASIN n) = true) (hr_ENG_QUAR : ∀ n, f.regs (.ENG_QUAR n) = true) (hr_ESC_LAST : f.regs .ESC_LAST = true) (hr_GLB_FAULT : f.regs .GLB_FAULT = true) (hr_HOLDER_USED : ∀ n, f.regs (.HOLDER_USED n) = true) (hr_LINE_CNT : ∀ n, f.regs (.LINE_CNT n) = true) (hr_LINE_CTL : ∀ n, f.regs (.LINE_CTL n) = true) (hr_LINE_DBT : ∀ n, f.regs (.LINE_DBT n) = true) (hr_LINE_ERR : ∀ n, f.regs (.LINE_ERR n) = true) (hr_LINE_NBT : ∀ n, f.regs (.LINE_NBT n) = true) (hr_LINE_TDC : ∀ n, f.regs (.LINE_TDC n) = true) (hr_POND_FREE : f.regs .POND_FREE = true) (hr_POND_STATUS : f.regs .POND_STATUS = true) (hr_POND_WAIT : f.regs .POND_WAIT = true) (hr_PWR_STATUS : f.regs .PWR_STATUS = true) (hr_RST_CMD : f.regs .RST_CMD = true) (hr_SVC_STATUS : f.regs .SVC_STATUS = true) (hr_TRK_ERR : ∀ n, f.regs (.TRK_ERR n) = true) (hr_TRK_SPILL : f.regs .TRK_SPILL = true) (hr_TRK_STATUS : f.regs .TRK_STATUS = true) :
    Fr f a (Chip.engineFault c e_ cause_ lost_) := by
  unfold Chip.engineFault
  repeat' first
    | with_reducible assumption
    | with_reducible exact hr_CH_CMD _
    | with_reducible exact hr_CH_STATUS _
    | with_reducible exact hr_DROP_SCHED _
    | with_reducible exact hr_DROP_STATUS _
    | with_reducible exact hr_DROP_XFER_ERR _
    | with_reducible exact hr_ENG_BASIN _
    | with_reducible exact hr_ENG_QUAR _
    | with_reducible exact hr_HOLDER_USED _
    | with_reducible exact hr_LINE_CNT _
    | with_reducible exact hr_LINE_CTL _
    | with_reducible exact hr_LINE_DBT _
    | with_reducible exact hr_LINE_ERR _
    | with_reducible exact hr_LINE_NBT _
    | with_reducible exact hr_LINE_TDC _
    | with_reducible exact hr_TRK_ERR _
    | with_reducible apply Chip.quarantine_fr
    | with_reducible apply Chip.openLadder_fr
    | with_reducible apply Chip.escalate_fr
    | with_reducible apply Chip.startScope_fr
    | with_reducible apply Chip.holdBasin_fr
    | with_reducible apply Chip.closeLadder_fr
    | intro _
    | split
    | (extract_lets +onlyGivenNames x; refine (fun hx : Fr f a x => ?_) ?_; (on_goal 1 => clear_value x); (on_goal 2 => subst x))
    | (extract_lets +onlyGivenNames x; refine (fun hx : Fr f a x.2 => ?_) ?_; (on_goal 1 => clear_value x); (on_goal 2 => subst x))
    | (extract_lets +onlyGivenNames x; clear_value x)
    | dsimp only

/-! ### Machine/XspiOps.lean -/

theorem Chip.xspiPut_fr {f : Frame} {a c : Chip} {b_} (h : Fr f a c) (hr_XSPI_DATA : ∀ n, f.regs (.XSPI_DATA n) = true) :
    Fr f a (Chip.xspiPut c b_) := by
  unfold Chip.xspiPut
  repeat' first
    | with_reducible assumption
    | with_reducible exact hr_XSPI_DATA _
    | with_reducible apply Fr.each
    | with_reducible apply Fr.wr
    | with_reducible exact flashOk_flashProgram _ _ _ ‹_›
    | with_reducible exact flashOk_flashErase _ _ ‹_›
    | with_reducible exact flashOk_flashPut _ _ _ ‹_›
    | intro _
    | split
    | (extract_lets +onlyGivenNames x; refine (fun hx : Fr f a x => ?_) ?_; (on_goal 1 => clear_value x); (on_goal 2 => subst x))
    | (extract_lets +onlyGivenNames x; refine (fun hx : Fr f a x.2 => ?_) ?_; (on_goal 1 => clear_value x); (on_goal 2 => subst x))
    | (extract_lets +onlyGivenNames x; clear_value x)
    | dsimp only

theorem Chip.xspiClose_fr {f : Frame} {a c : Chip} {o_} {err_} {fsr_} (h : Fr f a c) (hp_trunk : Part.trunk ∈ f.parts) (hp_doors : Part.doors ∈ f.parts) (hp_reqs : Part.reqs ∈ f.parts) (hp_rates : Part.rates ∈ f.parts) (hr_XSPI_CMD : f.regs .XSPI_CMD = true) (hr_XSPI_STATUS : f.regs .XSPI_STATUS = true) :
    Fr f a (Chip.xspiClose c o_ err_ fsr_) := by
  unfold Chip.xspiClose
  repeat' first
    | with_reducible assumption
    | with_reducible apply Chip.setF_fr
    | with_reducible apply Chip.record_fr
    | with_reducible apply Chip.answer_fr
    | with_reducible exact flashOk_flashProgram _ _ _ ‹_›
    | with_reducible exact flashOk_flashErase _ _ ‹_›
    | with_reducible exact flashOk_flashPut _ _ _ ‹_›
    | intro _
    | split
    | (extract_lets +onlyGivenNames x; refine (fun hx : Fr f a x => ?_) ?_; (on_goal 1 => clear_value x); (on_goal 2 => subst x))
    | (extract_lets +onlyGivenNames x; refine (fun hx : Fr f a x.2 => ?_) ?_; (on_goal 1 => clear_value x); (on_goal 2 => subst x))
    | (extract_lets +onlyGivenNames x; clear_value x)
    | dsimp only

theorem Chip.xspiBegin_fr {f : Frame} {a c : Chip} {o_} (h : Fr f a c) (hp_fw : Part.fw ∈ f.parts) (hp_trunk : Part.trunk ∈ f.parts) (hp_doors : Part.doors ∈ f.parts) (hp_reqs : Part.reqs ∈ f.parts) (hp_rates : Part.rates ∈ f.parts) (hr_XSPI_CMD : f.regs .XSPI_CMD = true) (hr_XSPI_STATUS : f.regs .XSPI_STATUS = true) :
    Fr f a (Chip.xspiBegin c o_) := by
  unfold Chip.xspiBegin
  repeat' first
    | with_reducible assumption
    | with_reducible apply Chip.xspiClose_fr
    | with_reducible apply Chip.updFw_fr
    | with_reducible apply Chip.setF_fr
    | with_reducible exact fun _ => rfl
    | with_reducible exact fun _ => ⟨rfl, rfl⟩
    | with_reducible rfl
    | with_reducible exact ⟨rfl, rfl⟩
    | with_reducible exact flashOk_flashProgram _ _ _ ‹_›
    | with_reducible exact flashOk_flashErase _ _ ‹_›
    | with_reducible exact flashOk_flashPut _ _ _ ‹_›
    | intro _
    | split
    | (extract_lets +onlyGivenNames x; refine (fun hx : Fr f a x => ?_) ?_; (on_goal 1 => clear_value x); (on_goal 2 => subst x))
    | (extract_lets +onlyGivenNames x; refine (fun hx : Fr f a x.2 => ?_) ?_; (on_goal 1 => clear_value x); (on_goal 2 => subst x))
    | (extract_lets +onlyGivenNames x; clear_value x)
    | dsimp only

theorem Chip.xspiIssue_fr {f : Frame} {a c : Chip} {o_} (h : Fr f a c) (hp_fw : Part.fw ∈ f.parts) (hp_trunk : Part.trunk ∈ f.parts) (hp_doors : Part.doors ∈ f.parts) (hp_reqs : Part.reqs ∈ f.parts) (hp_rates : Part.rates ∈ f.parts) (hr_XSPI_CMD : f.regs .XSPI_CMD = true) (hr_XSPI_STATUS : f.regs .XSPI_STATUS = true) :
    Fr f a (Chip.xspiIssue c o_) := by
  unfold Chip.xspiIssue
  repeat' first
    | with_reducible assumption
    | with_reducible apply Chip.updFw_fr
    | with_reducible apply Chip.xspiBegin_fr
    | with_reducible exact fun _ => rfl
    | with_reducible exact fun _ => ⟨rfl, rfl⟩
    | with_reducible rfl
    | with_reducible exact ⟨rfl, rfl⟩
    | with_reducible exact flashOk_flashProgram _ _ _ ‹_›
    | with_reducible exact flashOk_flashErase _ _ ‹_›
    | with_reducible exact flashOk_flashPut _ _ _ ‹_›
    | intro _
    | split
    | (extract_lets +onlyGivenNames x; refine (fun hx : Fr f a x => ?_) ?_; (on_goal 1 => clear_value x); (on_goal 2 => subst x))
    | (extract_lets +onlyGivenNames x; refine (fun hx : Fr f a x.2 => ?_) ?_; (on_goal 1 => clear_value x); (on_goal 2 => subst x))
    | (extract_lets +onlyGivenNames x; clear_value x)
    | dsimp only

theorem Chip.xspiNext_fr {f : Frame} {a c : Chip}  (h : Fr f a c) (hp_fw : Part.fw ∈ f.parts) (hp_trunk : Part.trunk ∈ f.parts) (hp_doors : Part.doors ∈ f.parts) (hp_reqs : Part.reqs ∈ f.parts) (hp_rates : Part.rates ∈ f.parts) (hr_XSPI_CMD : f.regs .XSPI_CMD = true) (hr_XSPI_STATUS : f.regs .XSPI_STATUS = true) :
    Fr f a (Chip.xspiNext c) := by
  unfold Chip.xspiNext
  repeat' first
    | with_reducible assumption
    | with_reducible apply Fr.each
    | with_reducible apply Chip.xspiBegin_fr
    | with_reducible apply Chip.updFw_fr
    | with_reducible exact fun _ => rfl
    | with_reducible exact fun _ => ⟨rfl, rfl⟩
    | with_reducible rfl
    | with_reducible exact ⟨rfl, rfl⟩
    | with_reducible exact flashOk_flashProgram _ _ _ ‹_›
    | with_reducible exact flashOk_flashErase _ _ ‹_›
    | with_reducible exact flashOk_flashPut _ _ _ ‹_›
    | intro _
    | split
    | (extract_lets +onlyGivenNames x; refine (fun hx : Fr f a x => ?_) ?_; (on_goal 1 => clear_value x); (on_goal 2 => subst x))
    | (extract_lets +onlyGivenNames x; refine (fun hx : Fr f a x.2 => ?_) ?_; (on_goal 1 => clear_value x); (on_goal 2 => subst x))
    | (extract_lets +onlyGivenNames x; clear_value x)
    | dsimp only

theorem Chip.xspiDo_fr {f : Frame} {a c : Chip} {o_} (h : Fr f a c) (hp_fw : Part.fw ∈ f.parts) (hp_flash : Part.flash ∈ f.parts) (hr_XSPI_DATA : ∀ n, f.regs (.XSPI_DATA n) = true) :
    Fr f a (Chip.xspiDo c o_) := by
  unfold Chip.xspiDo
  repeat' first
    | with_reducible assumption
    | with_reducible exact hr_XSPI_DATA _
    | with_reducible apply Chip.xspiPut_fr
    | with_reducible apply Chip.updFwFlash_fr
    | with_reducible apply Fr.wr
    | with_reducible exact flashOk_flashProgram _ _ _ ‹_›
    | with_reducible exact flashOk_flashErase _ _ ‹_›
    | with_reducible exact flashOk_flashPut _ _ _ ‹_›
    | intro _
    | split
    | (extract_lets +onlyGivenNames x; refine (fun hx : Fr f a x => ?_) ?_; (on_goal 1 => clear_value x); (on_goal 2 => subst x))
    | (extract_lets +onlyGivenNames x; refine (fun hx : Fr f a x.2 => ?_) ?_; (on_goal 1 => clear_value x); (on_goal 2 => subst x))
    | (extract_lets +onlyGivenNames x; clear_value x)
    | dsimp only

theorem Chip.xspiCut_fr {f : Frame} {a c : Chip} {o_} (h : Fr f a c) (hp_fw : Part.fw ∈ f.parts) (hp_flash : Part.flash ∈ f.parts) (hp_free : Part.free ∈ f.parts) (hr_XSPI_DATA : ∀ n, f.regs (.XSPI_DATA n) = true) :
    Fr f a (Chip.xspiCut c o_) := by
  unfold Chip.xspiCut
  repeat' first
    | with_reducible assumption
    | with_reducible exact hr_XSPI_DATA _
    | with_reducible refine Chip.freeBytes_fr ‹_› ?_ ?_
    | with_reducible apply Chip.freeBytes_fr2
    | with_reducible apply Chip.xspiPut_fr
    | with_reducible apply Chip.updFwFlash_fr
    | with_reducible apply Fr.wr
    | with_reducible refine Fr.ofIte ‹_› ?_ ?_
    | with_reducible exact flashOk_flashProgram _ _ _ ‹_›
    | with_reducible exact flashOk_flashErase _ _ ‹_›
    | with_reducible exact flashOk_flashPut _ _ _ ‹_›
    | intro _
    | split
    | (extract_lets +onlyGivenNames x; refine (fun hx : Fr f a x => ?_) ?_; (on_goal 1 => clear_value x); (on_goal 2 => subst x))
    | (extract_lets +onlyGivenNames x; refine (fun hx : Fr f a x.2 => ?_) ?_; (on_goal 1 => clear_value x); (on_goal 2 => subst x))
    | (extract_lets +onlyGivenNames x; clear_value x)
    | dsimp only

theorem Chip.xspiEnd_fr {f : Frame} {a c : Chip} {ready_} {fsr_} (h : Fr f a c) (hp_fw : Part.fw ∈ f.parts) (hp_flash : Part.flash ∈ f.parts) (hp_trunk : Part.trunk ∈ f.parts) (hp_doors : Part.doors ∈ f.parts) (hp_reqs : Part.reqs ∈ f.parts) (hp_rates : Part.rates ∈ f.parts) (hp_free : Part.free ∈ f.parts) (hr_XSPI_CMD : f.regs .XSPI_CMD = true) (hr_XSPI_DATA : ∀ n, f.regs (.XSPI_DATA n) = true) (hr_XSPI_STATUS : f.regs .XSPI_STATUS = true) :
    Fr f a (Chip.xspiEnd c ready_ fsr_) := by
  unfold Chip.xspiEnd
  repeat' first
    | with_reducible assumption
    | with_reducible exact hr_XSPI_DATA _
    | with_reducible apply Chip.setF_fr
    | with_reducible apply Chip.updFw_fr
    | with_reducible apply Chip.xspiCut_fr
    | with_reducible apply Chip.xspiDo_fr
    | with_reducible apply Chip.xspiNext_fr
    | with_reducible apply Chip.xspiClose_fr
    | with_reducible exact fun _ => rfl
    | with_reducible exact fun _ => ⟨rfl, rfl⟩
    | with_reducible rfl
    | with_reducible exact ⟨rfl, rfl⟩
    | with_reducible exact flashOk_flashProgram _ _ _ ‹_›
    | with_reducible exact flashOk_flashErase _ _ ‹_›
    | with_reducible exact flashOk_flashPut _ _ _ ‹_›
    | intro _
    | split
    | (extract_lets +onlyGivenNames x; refine (fun hx : Fr f a x => ?_) ?_; (on_goal 1 => clear_value x); (on_goal 2 => subst x))
    | (extract_lets +onlyGivenNames x; refine (fun hx : Fr f a x.2 => ?_) ?_; (on_goal 1 => clear_value x); (on_goal 2 => subst x))
    | (extract_lets +onlyGivenNames x; clear_value x)
    | dsimp only

/-! ### Machine/FabOps.lean -/

theorem Chip.readLatch_fr {f : Frame} {a c : Chip} {r_} (h : Fr f a c) (hr_BELT_POS_HI : ∀ n, f.regs (.BELT_POS_HI n) = true) (hr_SEI_TIME_HI : f.regs .SEI_TIME_HI = true) :
    Fr f a (Chip.readLatch c r_) := by
  unfold Chip.readLatch
  repeat' first
    | with_reducible assumption
    | with_reducible exact hr_BELT_POS_HI _
    | with_reducible apply Fr.wr
    | intro _
    | split
    | (extract_lets +onlyGivenNames x; refine (fun hx : Fr f a x => ?_) ?_; (on_goal 1 => clear_value x); (on_goal 2 => subst x))
    | (extract_lets +onlyGivenNames x; refine (fun hx : Fr f a x.2 => ?_) ?_; (on_goal 1 => clear_value x); (on_goal 2 => subst x))
    | (extract_lets +onlyGivenNames x; clear_value x)
    | dsimp only

theorem Chip.fabRead_fr2 {f : Frame} {a c : Chip} {a_} (h : Fr f a c) (hr_BELT_POS_HI : ∀ n, f.regs (.BELT_POS_HI n) = true) (hr_SEI_TIME_HI : f.regs .SEI_TIME_HI = true) :
    Fr f a (Chip.fabRead c a_).2 := by
  unfold Chip.fabRead
  repeat' first
    | with_reducible assumption
    | with_reducible exact hr_BELT_POS_HI _
    | with_reducible apply Chip.readLatch_fr
    | intro _
    | split
    | (extract_lets +onlyGivenNames x; refine (fun hx : Fr f a x => ?_) ?_; (on_goal 1 => clear_value x); (on_goal 2 => subst x))
    | (extract_lets +onlyGivenNames x; refine (fun hx : Fr f a x.2 => ?_) ?_; (on_goal 1 => clear_value x); (on_goal 2 => subst x))
    | (extract_lets +onlyGivenNames x; clear_value x)
    | dsimp only

theorem Chip.fabRead_fr {f : Frame} {a c c1 : Chip} {a_} {y1} (e : Chip.fabRead c a_ = (y1, c1)) (h : Fr f a c) (hr_BELT_POS_HI : ∀ n, f.regs (.BELT_POS_HI n) = true) (hr_SEI_TIME_HI : f.regs .SEI_TIME_HI = true) :
    Fr f a c1 := by
  have key := Chip.fabRead_fr2 (a_ := a_) h hr_BELT_POS_HI hr_SEI_TIME_HI
  rwa [e] at key

theorem Chip.keyFault_fr {f : Frame} {a c : Chip} {p_} {refused_} (h : Fr f a c) (hp_clk : Part.clk ∈ f.parts) (hp_doors : Part.doors ∈ f.parts) (hp_rates : Part.rates ∈ f.parts) (hp_bead : Part.bead ∈ f.parts) (hr_GLB_FAULT : f.regs .GLB_FAULT = true) (hr_KEY_STATUS : f.regs .KEY_STATUS = true) :
    Fr f a (Chip.keyFault c p_ refused_) := by
  unfold Chip.keyFault
  repeat' first
    | with_reducible assumption
    | with_reducible apply Chip.record_fr
    | with_reducible apply Chip.bump_fr
    | with_reducible apply Chip.incSat_fr
    | with_reducible apply Chip.postRate_fr
    | with_reducible apply Chip.fault_fr
    | intro _
    | split
    | (extract_lets +onlyGivenNames x; refine (fun hx : Fr f a x => ?_) ?_; (on_goal 1 => clear_value x); (on_goal 2 => subst x))
    | (extract_lets +onlyGivenNames x; refine (fun hx : Fr f a x.2 => ?_) ?_; (on_goal 1 => clear_value x); (on_goal 2 => subst x))
    | (extract_lets +onlyGivenNames x; clear_value x)
    | dsimp only

theorem Chip.lock_fr {f : Frame} {a c : Chip} {p_} (h : Fr f a c) (hp_fab : Part.fab ∈ f.parts) :
    Fr f a (Chip.lock c p_) := by
  unfold Chip.lock
  repeat' first
    | with_reducible assumption
    | with_reducible apply Chip.updFab_fr
    | intro _
    | split
    | (extract_lets +onlyGivenNames x; refine (fun hx : Fr f a x => ?_) ?_; (on_goal 1 => clear_value x); (on_goal 2 => subst x))
    | (extract_lets +onlyGivenNames x; refine (fun hx : Fr f a x.2 => ?_) ?_; (on_goal 1 => clear_value x); (on_goal 2 => subst x))
    | (extract_lets +onlyGivenNames x; clear_value x)
    | dsimp only

theorem Chip.keyWrite_fr {f : Frame} {a c : Chip} {p_} {v_} (h : Fr f a c) (hp_clk : Part.clk ∈ f.parts) (hp_doors : Part.doors ∈ f.parts) (hp_rates : Part.rates ∈ f.parts) (hp_bead : Part.bead ∈ f.parts) (hp_fab : Part.fab ∈ f.parts) (hr_GLB_FAULT : f.regs .GLB_FAULT = true) (hr_KEY_STATUS : f.regs .KEY_STATUS = true) :
    Fr f a (Chip.keyWrite c p_ v_) := by
  unfold Chip.keyWrite
  repeat' first
    | with_reducible assumption
    | with_reducible apply Chip.updFab_fr
    | with_reducible apply Chip.keyFault_fr
    | with_reducible apply Chip.lock_fr
    | intro _
    | split
    | (extract_lets +onlyGivenNames x; refine (fun hx : Fr f a x => ?_) ?_; (on_goal 1 => clear_value x); (on_goal 2 => subst x))
    | (extract_lets +onlyGivenNames x; refine (fun hx : Fr f a x.2 => ?_) ?_; (on_goal 1 => clear_value x); (on_goal 2 => subst x))
    | (extract_lets +onlyGivenNames x; clear_value x)
    | dsimp only

theorem Chip.leaseSweep_fr {f : Frame} {a c : Chip}  (h : Fr f a c) (hp_trunk : Part.trunk ∈ f.parts) (hp_doors : Part.doors ∈ f.parts) (hp_reqs : Part.reqs ∈ f.parts) (hp_rates : Part.rates ∈ f.parts) (hp_ports : Part.ports ∈ f.parts) :
    Fr f a (Chip.leaseSweep c) := by
  unfold Chip.leaseSweep
  repeat' first
    | with_reducible assumption
    | with_reducible apply Fr.each
    | with_reducible apply Chip.release_fr
    | intro _
    | split
    | (extract_lets +onlyGivenNames x; refine (fun hx : Fr f a x => ?_) ?_; (on_goal 1 => clear_value x); (on_goal 2 => subst x))
    | (extract_lets +onlyGivenNames x; refine (fun hx : Fr f a x.2 => ?_) ?_; (on_goal 1 => clear_value x); (on_goal 2 => subst x))
    | (extract_lets +onlyGivenNames x; clear_value x)
    | dsimp only

theorem Chip.refSlew_fr {f : Frame} {a c : Chip}  (h : Fr f a c) (hp_clk : Part.clk ∈ f.parts) :
    Fr f a (Chip.refSlew c) := by
  unfold Chip.refSlew
  repeat' first
    | with_reducible assumption
    | with_reducible apply Chip.updClk_fr
    | intro _
    | split
    | (extract_lets +onlyGivenNames x; refine (fun hx : Fr f a x => ?_) ?_; (on_goal 1 => clear_value x); (on_goal 2 => subst x))
    | (extract_lets +onlyGivenNames x; refine (fun hx : Fr f a x.2 => ?_) ?_; (on_goal 1 => clear_value x); (on_goal 2 => subst x))
    | (extract_lets +onlyGivenNames x; clear_value x)
    | dsimp only

theorem Chip.clkCtl_fr {f : Frame} {a c : Chip} {old_} (h : Fr f a c) (hp_clk : Part.clk ∈ f.parts) (hp_sei : Part.sei ∈ f.parts) (hr_CLK_STATUS : f.regs .CLK_STATUS = true) (hr_SEI_UNCERT : f.regs .SEI_UNCERT = true) :
    Fr f a (Chip.clkCtl c old_) := by
  unfold Chip.clkCtl
  repeat' first
    | with_reducible assumption
    | with_reducible apply Chip.setSt_fr
    | with_reducible apply Chip.updClk_fr
    | with_reducible apply Chip.refSlew_fr
    | with_reducible apply Chip.settleUncert_fr
    | intro _
    | split
    | (extract_lets +onlyGivenNames x; refine (fun hx : Fr f a x => ?_) ?_; (on_goal 1 => clear_value x); (on_goal 2 => subst x))
    | (extract_lets +onlyGivenNames x; refine (fun hx : Fr f a x.2 => ?_) ?_; (on_goal 1 => clear_value x); (on_goal 2 => subst x))
    | (extract_lets +onlyGivenNames x; clear_value x)
    | dsimp only

theorem Chip.openRegwin_fr {f : Frame} {a c : Chip}  (h : Fr f a c) (hp_trunk : Part.trunk ∈ f.parts) :
    Fr f a (Chip.openRegwin c) := by
  unfold Chip.openRegwin
  repeat' first
    | with_reducible assumption
    | with_reducible apply Chip.updTrunk_fr
    | intro _
    | split
    | (extract_lets +onlyGivenNames x; refine (fun hx : Fr f a x => ?_) ?_; (on_goal 1 => clear_value x); (on_goal 2 => subst x))
    | (extract_lets +onlyGivenNames x; refine (fun hx : Fr f a x.2 => ?_) ?_; (on_goal 1 => clear_value x); (on_goal 2 => subst x))
    | (extract_lets +onlyGivenNames x; clear_value x)
    | dsimp only

theorem Chip.trkCtl_fr {f : Frame} {a c : Chip} {old_} (h : Fr f a c) (hp_clk : Part.clk ∈ f.parts) (hp_trunk : Part.trunk ∈ f.parts) (hp_doors : Part.doors ∈ f.parts) (hp_reqs : Part.reqs ∈ f.parts) (hp_rates : Part.rates ∈ f.parts) (hp_bead : Part.bead ∈ f.parts) (hr_ESC_LAST : f.regs .ESC_LAST = true) (hr_GLB_FAULT : f.regs .GLB_FAULT = true) (hr_TRK_SPILL : f.regs .TRK_SPILL = true) (hr_TRK_STATUS : f.regs .TRK_STATUS = true) :
    Fr f a (Chip.trkCtl c old_) := by
  unfold Chip.trkCtl
  repeat' first
    | with_reducible assumption
    | with_reducible apply Chip.openRegwin_fr
    | with_reducible apply Fr.each
    | with_reducible apply Chip.loseLane_fr
    | with_reducible apply Chip.setActive_fr
    | with_reducible apply Chip.dropSwap_fr
    | with_reducible apply Chip.swapDegraded_fr
    | with_reducible apply Chip.syncTrunk_fr
    | intro _
    | split
    | (extract_lets +onlyGivenNames x; refine (fun hx : Fr f a x => ?_) ?_; (on_goal 1 => clear_value x); (on_goal 2 => subst x))
    | (extract_lets +onlyGivenNames x; refine (fun hx : Fr f a x.2 => ?_) ?_; (on_goal 1 => clear_value x); (on_goal 2 => subst x))
    | (extract_lets +onlyGivenNames x; clear_value x)
    | dsimp only

theorem Chip.syncCw_fr {f : Frame} {a c : Chip}  (h : Fr f a c) (hp_fab : Part.fab ∈ f.parts) (hr_CW_STATUS : f.regs .CW_STATUS = true) :
    Fr f a (Chip.syncCw c) := by
  unfold Chip.syncCw
  repeat' first
    | with_reducible assumption
    | with_reducible apply Chip.setB_fr
    | with_reducible apply Chip.updFab_fr
    | intro _
    | split
    | (extract_lets +onlyGivenNames x; refine (fun hx : Fr f a x => ?_) ?_; (on_goal 1 => clear_value x); (on_goal 2 => subst x))
    | (extract_lets +onlyGivenNames x; refine (fun hx : Fr f a x.2 => ?_) ?_; (on_goal 1 => clear_value x); (on_goal 2 => subst x))
    | (extract_lets +onlyGivenNames x; clear_value x)
    | dsimp only

theorem Chip.cwCtl_fr {f : Frame} {a c : Chip} {old_} (h : Fr f a c) (hp_fab : Part.fab ∈ f.parts) (hr_CW_STATUS : f.regs .CW_STATUS = true) :
    Fr f a (Chip.cwCtl c old_) := by
  unfold Chip.cwCtl
  repeat' first
    | with_reducible assumption
    | with_reducible apply Chip.updFab_fr
    | with_reducible apply Chip.syncCw_fr
    | intro _
    | split
    | (extract_lets +onlyGivenNames x; refine (fun hx : Fr f a x => ?_) ?_; (on_goal 1 => clear_value x); (on_goal 2 => subst x))
    | (extract_lets +onlyGivenNames x; refine (fun hx : Fr f a x.2 => ?_) ?_; (on_goal 1 => clear_value x); (on_goal 2 => subst x))
    | (extract_lets +onlyGivenNames x; clear_value x)
    | dsimp only

theorem Chip.bootOk_fr {f : Frame} {a c : Chip}  (h : Fr f a c) (hp_clk : Part.clk ∈ f.parts) (hp_bead : Part.bead ∈ f.parts) (hr_BOOT_OVR : f.regs .BOOT_OVR = true) :
    Fr f a (Chip.bootOk c) := by
  unfold Chip.bootOk
  repeat' first
    | with_reducible assumption
    | with_reducible apply Chip.updClk_fr
    | with_reducible apply Chip.setF_fr
    | with_reducible apply Chip.balls_fr
    | with_reducible apply Chip.updBead_fr
    | with_reducible exact fun _ => rfl
    | with_reducible exact fun _ => ⟨rfl, rfl⟩
    | with_reducible rfl
    | with_reducible exact ⟨rfl, rfl⟩
    | intro _
    | split
    | (extract_lets +onlyGivenNames x; refine (fun hx : Fr f a x => ?_) ?_; (on_goal 1 => clear_value x); (on_goal 2 => subst x))
    | (extract_lets +onlyGivenNames x; refine (fun hx : Fr f a x.2 => ?_) ?_; (on_goal 1 => clear_value x); (on_goal 2 => subst x))
    | (extract_lets +onlyGivenNames x; clear_value x)
    | dsimp only

theorem Chip.regAct_fr {f : Frame} {a c : Chip} {r_} {old_} (h : Fr f a c) (hp_clk : Part.clk ∈ f.parts) (hp_trunk : Part.trunk ∈ f.parts) (hp_doors : Part.doors ∈ f.parts) (hp_reqs : Part.reqs ∈ f.parts) (hp_rates : Part.rates ∈ f.parts) (hp_pond : Part.pond ∈ f.parts) (hp_engines : Part.engines ∈ f.parts) (hp_ports : Part.ports ∈ f.parts) (hp_chans : Part.chans ∈ f.parts) (hp_sei : Part.sei ∈ f.parts) (hp_bead : Part.bead ∈ f.parts) (hp_fab : Part.fab ∈ f.parts) (hr_BELT_RATE : ∀ n, f.regs (.BELT_RATE n) = true) (hr_BELT_STATUS : ∀ n, f.regs (.BELT_STATUS n) = true) (hr_BOOT_OVR : f.regs .BOOT_OVR = true) (hr_CLK_STATUS : f.regs .CLK_STATUS = true) (hr_CW_STATUS : f.regs .CW_STATUS = true) (hr_DROP_STATUS : ∀ n, f.regs (.DROP_STATUS n) = true) (hr_ESC_LAST : f.regs .ESC_LAST = true) (hr_GLB_FAULT : f.regs .GLB_FAULT = true) (hr_LINE_ERR : ∀ n, f.regs (.LINE_ERR n) = true) (hr_LINE_TDC : ∀ n, f.regs (.LINE_TDC n) = true) (hr_PD_STATUS : ∀ n, f.regs (.PD_STATUS n) = true) (hr_PD_VOUT : ∀ n, f.regs (.PD_VOUT n) = true) (hr_POND_STATUS : f.regs .POND_STATUS = true) (hr_SEI_UNCERT : f.regs .SEI_UNCERT = true) (hr_TRK_SPILL : f.regs .TRK_SPILL = true) (hr_TRK_STATUS : f.regs .TRK_STATUS = true) :
    Fr f a (Chip.regAct c r_ old_) := by
  unfold Chip.regAct
  repeat' first
    | with_reducible assumption
    | with_reducible exact hr_BELT_RATE _
    | with_reducible exact hr_BELT_STATUS _
    | with_reducible exact hr_DROP_STATUS _
    | with_reducible exact hr_LINE_ERR _
    | with_reducible exact hr_LINE_TDC _
    | with_reducible exact hr_PD_STATUS _
    | with_reducible exact hr_PD_VOUT _
    | with_reducible apply Chip.balls_fr
    | with_reducible apply Chip.bootOk_fr
    | with_reducible apply Chip.leaseSweep_fr
    | with_reducible apply Chip.clkCtl_fr
    | with_reducible apply Chip.trkCtl_fr
    | with_reducible apply Chip.flushWaiting_fr
    | with_reducible apply Chip.beltCtl_fr
    | with_reducible apply Chip.inletCtl_fr
    | with_reducible apply Chip.tdcOn_fr
    | with_reducible apply Chip.pollSync_fr
    | with_reducible apply Chip.clampSync_fr
    | with_reducible apply Chip.warnBits_fr
    | with_reducible apply Chip.poolEvents_fr
    | with_reducible apply Chip.cwCtl_fr
    | with_reducible apply Chip.autoEnum_fr
    | with_reducible apply Chip.pdRecheck_fr
    | with_reducible apply Chip.pdChanged_fr
    | intro _
    | split
    | (extract_lets +onlyGivenNames x; refine (fun hx : Fr f a x => ?_) ?_; (on_goal 1 => clear_value x); (on_goal 2 => subst x))
    | (extract_lets +onlyGivenNames x; refine (fun hx : Fr f a x.2 => ?_) ?_; (on_goal 1 => clear_value x); (on_goal 2 => subst x))
    | (extract_lets +onlyGivenNames x; clear_value x)
    | dsimp only

theorem Chip.regEffect_fr {f : Frame} {a c : Chip} {r_} {old_} (h : Fr f a c) (hp_clk : Part.clk ∈ f.parts) (hp_trunk : Part.trunk ∈ f.parts) (hp_doors : Part.doors ∈ f.parts) (hp_reqs : Part.reqs ∈ f.parts) (hp_rates : Part.rates ∈ f.parts) (hp_pond : Part.pond ∈ f.parts) (hp_engines : Part.engines ∈ f.parts) (hp_ports : Part.ports ∈ f.parts) (hp_chans : Part.chans ∈ f.parts) (hp_sei : Part.sei ∈ f.parts) (hp_bead : Part.bead ∈ f.parts) (hp_fab : Part.fab ∈ f.parts) (hall : ∀ r, f.regs r = true) :
    Fr f a (Chip.regEffect c r_ old_) := by
  unfold Chip.regEffect
  repeat' first
    | with_reducible assumption
    | with_reducible exact hall _
    | with_reducible exact fun _ => hall _
    | with_reducible exact fun _ _ => hall _
    | with_reducible apply Chip.regAct_fr
    | with_reducible apply Chip.pulse_fr
    | exact fun _ h => h
    | intro _
    | split
    | (extract_lets +onlyGivenNames x; refine (fun hx : Fr f a x => ?_) ?_; (on_goal 1 => clear_value x); (on_goal 2 => subst x))
    | (extract_lets +onlyGivenNames x; refine (fun hx : Fr f a x.2 => ?_) ?_; (on_goal 1 => clear_value x); (on_goal 2 => subst x))
    | (extract_lets +onlyGivenNames x; clear_value x)
    | dsimp only

theorem Chip.rstCmd_fr {f : Frame} {a c : Chip} {v_} (h : Fr f a c) (hp_clk : Part.clk ∈ f.parts) (hp_fl : Part.fl ∈ f.parts) (hp_fw : Part.fw ∈ f.parts) (hp_trunk : Part.trunk ∈ f.parts) (hp_doors : Part.doors ∈ f.parts) (hp_reqs : Part.reqs ∈ f.parts) (hp_cullet : Part.cullet ∈ f.parts) (hp_rates : Part.rates ∈ f.parts) (hp_svcPort : Part.svcPort ∈ f.parts) (hp_pond : Part.pond ∈ f.parts) (hp_engines : Part.engines ∈ f.parts) (hp_basins : Part.basins ∈ f.parts) (hp_ports : Part.ports ∈ f.parts) (hp_chans : Part.chans ∈ f.parts) (hp_rails : Part.rails ∈ f.parts) (hp_sei : Part.sei ∈ f.parts) (hp_svc : Part.svc ∈ f.parts) (hp_pwr : Part.pwr ∈ f.parts) (hp_bead : Part.bead ∈ f.parts) (hp_fab : Part.fab ∈ f.parts) (hp_ladders : Part.ladders ∈ f.parts) (hp_free : Part.free ∈ f.parts) (hall : ∀ r, f.regs r = true) :
    Fr f a (Chip.rstCmd c v_) := by
  unfold Chip.rstCmd
  repeat' first
    | with_reducible assumption
    | with_reducible exact hall _
    | with_reducible exact fun _ => hall _
    | with_reducible exact fun _ _ => hall _
    | with_reducible apply Chip.startScope_fr
    | with_reducible apply Chip.wrRW_fr
    | with_reducible apply Chip.deviceReset_fr
    | intro _
    | split
    | (extract_lets +onlyGivenNames x; refine (fun hx : Fr f a x => ?_) ?_; (on_goal 1 => clear_value x); (on_goal 2 => subst x))
    | (extract_lets +onlyGivenNames x; refine (fun hx : Fr f a x.2 => ?_) ?_; (on_goal 1 => clear_value x); (on_goal 2 => subst x))
    | (extract_lets +onlyGivenNames x; clear_value x)
    | dsimp only

theorem Chip.measExt_fr {f : Frame} {a c : Chip} {win_} {i_} (h : Fr f a c) (hp_fw : Part.fw ∈ f.parts) (hp_doors : Part.doors ∈ f.parts) (hp_bead : Part.bead ∈ f.parts) (hr_BOOT_STATUS : f.regs .BOOT_STATUS = true) :
    Fr f a (Chip.measExt c win_ i_) := by
  unfold Chip.measExt
  repeat' first
    | with_reducible assumption
    | with_reducible apply Chip.measure_fr
    | with_reducible apply Chip.record_fr
    | intro _
    | split
    | (extract_lets +onlyGivenNames x; refine (fun hx : Fr f a x => ?_) ?_; (on_goal 1 => clear_value x); (on_goal 2 => subst x))
    | (extract_lets +onlyGivenNames x; refine (fun hx : Fr f a x.2 => ?_) ?_; (on_goal 1 => clear_value x); (on_goal 2 => subst x))
    | (extract_lets +onlyGivenNames x; clear_value x)
    | dsimp only

theorem Chip.measCtl_fr {f : Frame} {a c : Chip} {win_} {v_} (h : Fr f a c) (hp_fw : Part.fw ∈ f.parts) (hp_doors : Part.doors ∈ f.parts) (hp_bead : Part.bead ∈ f.parts) (hr_BOOT_STATUS : f.regs .BOOT_STATUS = true) (hr_MEAS_EXT_CTL : f.regs .MEAS_EXT_CTL = true) :
    Fr f a (Chip.measCtl c win_ v_) := by
  unfold Chip.measCtl
  repeat' first
    | with_reducible assumption
    | with_reducible apply Chip.setF_fr
    | with_reducible apply Chip.measExt_fr
    | with_reducible apply Chip.record_fr
    | intro _
    | split
    | (extract_lets +onlyGivenNames x; refine (fun hx : Fr f a x => ?_) ?_; (on_goal 1 => clear_value x); (on_goal 2 => subst x))
    | (extract_lets +onlyGivenNames x; refine (fun hx : Fr f a x.2 => ?_) ?_; (on_goal 1 => clear_value x); (on_goal 2 => subst x))
    | (extract_lets +onlyGivenNames x; clear_value x)
    | dsimp only

theorem Chip.attCtl_fr {f : Frame} {a c : Chip} {v_} (h : Fr f a c) (hp_fw : Part.fw ∈ f.parts) (hr_ATT_CTL : f.regs .ATT_CTL = true) :
    Fr f a (Chip.attCtl c v_) := by
  unfold Chip.attCtl
  repeat' first
    | with_reducible assumption
    | with_reducible apply Chip.setF_fr
    | with_reducible apply Chip.updFw_fr
    | with_reducible exact fun _ => rfl
    | with_reducible exact fun _ => ⟨rfl, rfl⟩
    | with_reducible rfl
    | with_reducible exact ⟨rfl, rfl⟩
    | intro _
    | split
    | (extract_lets +onlyGivenNames x; refine (fun hx : Fr f a x => ?_) ?_; (on_goal 1 => clear_value x); (on_goal 2 => subst x))
    | (extract_lets +onlyGivenNames x; refine (fun hx : Fr f a x.2 => ?_) ?_; (on_goal 1 => clear_value x); (on_goal 2 => subst x))
    | (extract_lets +onlyGivenNames x; clear_value x)
    | dsimp only

theorem Chip.xspiCmd_fr {f : Frame} {a c : Chip} {v_} (h : Fr f a c) (hp_fw : Part.fw ∈ f.parts) (hp_trunk : Part.trunk ∈ f.parts) (hp_doors : Part.doors ∈ f.parts) (hp_reqs : Part.reqs ∈ f.parts) (hp_rates : Part.rates ∈ f.parts) (hp_fab : Part.fab ∈ f.parts) (hr_XSPI_CMD : f.regs .XSPI_CMD = true) (hr_XSPI_STATUS : f.regs .XSPI_STATUS = true) :
    Fr f a (Chip.xspiCmd c v_) := by
  unfold Chip.xspiCmd
  repeat' first
    | with_reducible assumption
    | with_reducible apply Chip.wrRW_fr
    | with_reducible apply Chip.xspiIssue_fr
    | with_reducible exact flashOk_flashProgram _ _ _ ‹_›
    | with_reducible exact flashOk_flashErase _ _ ‹_›
    | with_reducible exact flashOk_flashPut _ _ _ ‹_›
    | intro _
    | split
    | (extract_lets +onlyGivenNames x; refine (fun hx : Fr f a x => ?_) ?_; (on_goal 1 => clear_value x); (on_goal 2 => subst x))
    | (extract_lets +onlyGivenNames x; refine (fun hx : Fr f a x.2 => ?_) ?_; (on_goal 1 => clear_value x); (on_goal 2 => subst x))
    | (extract_lets +onlyGivenNames x; clear_value x)
    | dsimp only

theorem Chip.lineTimingWrite_fr {f : Frame} {a c : Chip} {n_} {r} {v_} (h : Fr f a c) (hp_trunk : Part.trunk ∈ f.parts) (hp_doors : Part.doors ∈ f.parts) (hp_reqs : Part.reqs ∈ f.parts) (hp_rates : Part.rates ∈ f.parts) (hp_ports : Part.ports ∈ f.parts) (hp_fab : Part.fab ∈ f.parts) (hr : f.regs r = true) (hr_LINE_CTL : ∀ n, f.regs (.LINE_CTL n) = true) (hr_LINE_DBT : ∀ n, f.regs (.LINE_DBT n) = true) (hr_LINE_NBT : ∀ n, f.regs (.LINE_NBT n) = true) (hr_LINE_TDC : ∀ n, f.regs (.LINE_TDC n) = true) :
    Fr f a (Chip.lineTimingWrite c n_ r v_) := by
  unfold Chip.lineTimingWrite
  repeat' first
    | with_reducible assumption
    | exact hr
    | with_reducible exact hr_LINE_CTL _
    | with_reducible exact hr_LINE_DBT _
    | with_reducible exact hr_LINE_NBT _
    | with_reducible exact hr_LINE_TDC _
    | with_reducible apply Chip.askTiming_fr
    | with_reducible apply Chip.tdcOn_fr
    | with_reducible apply Chip.wrRW_fr
    | intro _
    | split
    | (extract_lets +onlyGivenNames x; refine (fun hx : Fr f a x => ?_) ?_; (on_goal 1 => clear_value x); (on_goal 2 => subst x))
    | (extract_lets +onlyGivenNames x; refine (fun hx : Fr f a x.2 => ?_) ?_; (on_goal 1 => clear_value x); (on_goal 2 => subst x))
    | (extract_lets +onlyGivenNames x; clear_value x)
    | dsimp only

theorem Chip.putCompute_fr {f : Frame} {a c : Chip} {p_} {win_} {r_} {v_} (h : Fr f a c) (hp_clk : Part.clk ∈ f.parts) (hp_fl : Part.fl ∈ f.parts) (hp_fw : Part.fw ∈ f.parts) (hp_trunk : Part.trunk ∈ f.parts) (hp_doors : Part.doors ∈ f.parts) (hp_reqs : Part.reqs ∈ f.parts) (hp_cullet : Part.cullet ∈ f.parts) (hp_rates : Part.rates ∈ f.parts) (hp_svcPort : Part.svcPort ∈ f.parts) (hp_pond : Part.pond ∈ f.parts) (hp_engines : Part.engines ∈ f.parts) (hp_basins : Part.basins ∈ f.parts) (hp_ports : Part.ports ∈ f.parts) (hp_chans : Part.chans ∈ f.parts) (hp_rails : Part.rails ∈ f.parts) (hp_sei : Part.sei ∈ f.parts) (hp_svc : Part.svc ∈ f.parts) (hp_pwr : Part.pwr ∈ f.parts) (hp_bead : Part.bead ∈ f.parts) (hp_fab : Part.fab ∈ f.parts) (hp_ladders : Part.ladders ∈ f.parts) (hp_free : Part.free ∈ f.parts) (hall : ∀ r, f.regs r = true) :
    Fr f a (Chip.putCompute c p_ win_ r_ v_) := by
  unfold Chip.putCompute
  repeat' first
    | with_reducible assumption
    | with_reducible exact hall _
    | with_reducible exact fun _ => hall _
    | with_reducible exact fun _ _ => hall _
    | with_reducible apply Chip.keyWrite_fr
    | with_reducible apply Chip.rstCmd_fr
    | with_reducible apply Chip.measCtl_fr
    | with_reducible apply Chip.attCtl_fr
    | with_reducible apply Chip.xspiCmd_fr
    | with_reducible apply Fr.wr
    | with_reducible apply Chip.setQuota_fr
    | with_reducible apply Chip.wrRW_fr
    | with_reducible apply Chip.lineTimingWrite_fr
    | with_reducible apply Chip.regEffect_fr
    | intro _
    | split
    | (extract_lets +onlyGivenNames x; refine (fun hx : Fr f a x => ?_) ?_; (on_goal 1 => clear_value x); (on_goal 2 => subst x))
    | (extract_lets +onlyGivenNames x; refine (fun hx : Fr f a x.2 => ?_) ?_; (on_goal 1 => clear_value x); (on_goal 2 => subst x))
    | (extract_lets +onlyGivenNames x; clear_value x)
    | dsimp only

theorem Chip.aonApply_fr {f : Frame} {a c : Chip}  (h : Fr f a c) (hp_trunk : Part.trunk ∈ f.parts) (hp_doors : Part.doors ∈ f.parts) (hp_reqs : Part.reqs ∈ f.parts) (hp_rates : Part.rates ∈ f.parts) (hp_fab : Part.fab ∈ f.parts) (hall : ∀ r, f.regs r = true) :
    Fr f a (Chip.aonApply c) := by
  unfold Chip.aonApply
  repeat' first
    | with_reducible assumption
    | with_reducible exact hall _
    | with_reducible exact fun _ => hall _
    | with_reducible exact fun _ _ => hall _
    | with_reducible apply Chip.updFab_fr
    | with_reducible apply Fr.wr
    | with_reducible apply Fr.each
    | with_reducible apply Chip.answer_fr
    | intro _
    | split
    | (extract_lets +onlyGivenNames x; refine (fun hx : Fr f a x => ?_) ?_; (on_goal 1 => clear_value x); (on_goal 2 => subst x))
    | (extract_lets +onlyGivenNames x; refine (fun hx : Fr f a x.2 => ?_) ?_; (on_goal 1 => clear_value x); (on_goal 2 => subst x))
    | (extract_lets +onlyGivenNames x; clear_value x)
    | dsimp only

theorem Chip.aonWrite_fr {f : Frame} {a c : Chip} {r_} {v_} {m_} (h : Fr f a c) (hp_trunk : Part.trunk ∈ f.parts) (hp_doors : Part.doors ∈ f.parts) (hp_reqs : Part.reqs ∈ f.parts) (hp_rates : Part.rates ∈ f.parts) (hp_fab : Part.fab ∈ f.parts) (hall : ∀ r, f.regs r = true) :
    Fr f a (Chip.aonWrite c r_ v_ m_) := by
  unfold Chip.aonWrite
  repeat' first
    | with_reducible assumption
    | with_reducible exact hall _
    | with_reducible exact fun _ => hall _
    | with_reducible exact fun _ _ => hall _
    | with_reducible apply Chip.aonApply_fr
    | with_reducible apply Chip.updFab_fr
    | intro _
    | split
    | (extract_lets +onlyGivenNames x; refine (fun hx : Fr f a x => ?_) ?_; (on_goal 1 => clear_value x); (on_goal 2 => subst x))
    | (extract_lets +onlyGivenNames x; refine (fun hx : Fr f a x.2 => ?_) ?_; (on_goal 1 => clear_value x); (on_goal 2 => subst x))
    | (extract_lets +onlyGivenNames x; clear_value x)
    | dsimp only

theorem Chip.putReg_fr {f : Frame} {a c : Chip} {p_} {win_} {r_} {v_} (h : Fr f a c) (hp_clk : Part.clk ∈ f.parts) (hp_fl : Part.fl ∈ f.parts) (hp_fw : Part.fw ∈ f.parts) (hp_trunk : Part.trunk ∈ f.parts) (hp_doors : Part.doors ∈ f.parts) (hp_reqs : Part.reqs ∈ f.parts) (hp_cullet : Part.cullet ∈ f.parts) (hp_rates : Part.rates ∈ f.parts) (hp_svcPort : Part.svcPort ∈ f.parts) (hp_pond : Part.pond ∈ f.parts) (hp_engines : Part.engines ∈ f.parts) (hp_basins : Part.basins ∈ f.parts) (hp_ports : Part.ports ∈ f.parts) (hp_chans : Part.chans ∈ f.parts) (hp_rails : Part.rails ∈ f.parts) (hp_sei : Part.sei ∈ f.parts) (hp_svc : Part.svc ∈ f.parts) (hp_pwr : Part.pwr ∈ f.parts) (hp_bead : Part.bead ∈ f.parts) (hp_fab : Part.fab ∈ f.parts) (hp_ladders : Part.ladders ∈ f.parts) (hp_free : Part.free ∈ f.parts) (hall : ∀ r, f.regs r = true) :
    Fr f a (Chip.putReg c p_ win_ r_ v_) := by
  unfold Chip.putReg
  repeat' first
    | with_reducible assumption
    | with_reducible exact hall _
    | with_reducible exact fun _ => hall _
    | with_reducible exact fun _ _ => hall _
    | with_reducible apply Chip.putCompute_fr
    | with_reducible apply Chip.aonWrite_fr
    | with_reducible apply Chip.fuseWrite_fr
    | with_reducible apply Chip.cfgWritten_fr
    | intro _
    | split
    | (extract_lets +onlyGivenNames x; refine (fun hx : Fr f a x => ?_) ?_; (on_goal 1 => clear_value x); (on_goal 2 => subst x))
    | (extract_lets +onlyGivenNames x; refine (fun hx : Fr f a x.2 => ?_) ?_; (on_goal 1 => clear_value x); (on_goal 2 => subst x))
    | (extract_lets +onlyGivenNames x; clear_value x)
    | dsimp only

theorem Chip.putBit_fr {f : Frame} {a c : Chip} {p_} {win_} {r_} {b_} {on_} (h : Fr f a c) (hp_clk : Part.clk ∈ f.parts) (hp_fl : Part.fl ∈ f.parts) (hp_fw : Part.fw ∈ f.parts) (hp_trunk : Part.trunk ∈ f.parts) (hp_doors : Part.doors ∈ f.parts) (hp_reqs : Part.reqs ∈ f.parts) (hp_cullet : Part.cullet ∈ f.parts) (hp_rates : Part.rates ∈ f.parts) (hp_svcPort : Part.svcPort ∈ f.parts) (hp_pond : Part.pond ∈ f.parts) (hp_engines : Part.engines ∈ f.parts) (hp_basins : Part.basins ∈ f.parts) (hp_ports : Part.ports ∈ f.parts) (hp_chans : Part.chans ∈ f.parts) (hp_rails : Part.rails ∈ f.parts) (hp_sei : Part.sei ∈ f.parts) (hp_svc : Part.svc ∈ f.parts) (hp_pwr : Part.pwr ∈ f.parts) (hp_bead : Part.bead ∈ f.parts) (hp_fab : Part.fab ∈ f.parts) (hp_ladders : Part.ladders ∈ f.parts) (hp_free : Part.free ∈ f.parts) (hall : ∀ r, f.regs r = true) :
    Fr f a (Chip.putBit c p_ win_ r_ b_ on_) := by
  unfold Chip.putBit
  repeat' first
    | with_reducible assumption
    | with_reducible exact hall _
    | with_reducible exact fun _ => hall _
    | with_reducible exact fun _ _ => hall _
    | with_reducible apply Chip.putReg_fr
    | with_reducible apply Chip.aonWrite_fr
    | with_reducible apply Chip.fuseWrite_fr
    | with_reducible apply Chip.cfgWritten_fr
    | intro _
    | split
    | (extract_lets +onlyGivenNames x; refine (fun hx : Fr f a x => ?_) ?_; (on_goal 1 => clear_value x); (on_goal 2 => subst x))
    | (extract_lets +onlyGivenNames x; refine (fun hx : Fr f a x.2 => ?_) ?_; (on_goal 1 => clear_value x); (on_goal 2 => subst x))
    | (extract_lets +onlyGivenNames x; clear_value x)
    | dsimp only

theorem Chip.fabWrite_fr {f : Frame} {a c c' : Chip} {p win x v y} (e : c.fabWrite p win x v = .ok (y, c')) (h : Fr f a c)
    (hp_clk : Part.clk ∈ f.parts) (hp_fl : Part.fl ∈ f.parts) (hp_fw : Part.fw ∈ f.parts) (hp_trunk : Part.trunk ∈ f.parts) (hp_doors : Part.doors ∈ f.parts) (hp_reqs : Part.reqs ∈ f.parts) (hp_cullet : Part.cullet ∈ f.parts) (hp_rates : Part.rates ∈ f.parts) (hp_svcPort : Part.svcPort ∈ f.parts) (hp_pond : Part.pond ∈ f.parts) (hp_engines : Part.engines ∈ f.parts) (hp_basins : Part.basins ∈ f.parts) (hp_ports : Part.ports ∈ f.parts) (hp_chans : Part.chans ∈ f.parts) (hp_rails : Part.rails ∈ f.parts) (hp_sei : Part.sei ∈ f.parts) (hp_svc : Part.svc ∈ f.parts) (hp_pwr : Part.pwr ∈ f.parts) (hp_bead : Part.bead ∈ f.parts) (hp_fab : Part.fab ∈ f.parts) (hp_ladders : Part.ladders ∈ f.parts) (hp_free : Part.free ∈ f.parts) (hall : ∀ r, f.regs r = true) : Fr f a c' := by
  unfold Chip.fabWrite at e
  simp only at e
  repeat' split at e
  all_goals first
    | (obtain ⟨_, rfl⟩ := Prod.mk.inj (Except.ok.inj e)
       repeat' first
         | assumption
         | exact hall _
         | exact fun _ => hall _
         | exact fun _ _ => hall _
         | with_reducible apply Chip.keyFault_fr
         | with_reducible apply Chip.putReg_fr
         | with_reducible apply Chip.putBit_fr
         | with_reducible apply Chip.lock_fr
         | split)
    | cases e

theorem Chip.fabAnswer_fr {f : Frame} {a c : Chip} {p_} {x_} (h : Fr f a c) (hp_fab : Part.fab ∈ f.parts) :
    Fr f a (Chip.fabAnswer c p_ x_) := by
  unfold Chip.fabAnswer
  repeat' first
    | with_reducible assumption
    | with_reducible apply Chip.updFab_fr
    | intro _
    | split
    | (extract_lets +onlyGivenNames x; refine (fun hx : Fr f a x => ?_) ?_; (on_goal 1 => clear_value x); (on_goal 2 => subst x))
    | (extract_lets +onlyGivenNames x; refine (fun hx : Fr f a x.2 => ?_) ?_; (on_goal 1 => clear_value x); (on_goal 2 => subst x))
    | (extract_lets +onlyGivenNames x; clear_value x)
    | dsimp only

theorem Chip.pathWrite_fr {f : Frame} {a c c' : Chip} {p x v} (e : c.pathWrite p x v = .ok c') (h : Fr f a c)
    (hp_clk : Part.clk ∈ f.parts) (hp_fl : Part.fl ∈ f.parts) (hp_fw : Part.fw ∈ f.parts) (hp_trunk : Part.trunk ∈ f.parts) (hp_doors : Part.doors ∈ f.parts) (hp_reqs : Part.reqs ∈ f.parts) (hp_cullet : Part.cullet ∈ f.parts) (hp_rates : Part.rates ∈ f.parts) (hp_svcPort : Part.svcPort ∈ f.parts) (hp_pond : Part.pond ∈ f.parts) (hp_engines : Part.engines ∈ f.parts) (hp_basins : Part.basins ∈ f.parts) (hp_ports : Part.ports ∈ f.parts) (hp_chans : Part.chans ∈ f.parts) (hp_rails : Part.rails ∈ f.parts) (hp_sei : Part.sei ∈ f.parts) (hp_svc : Part.svc ∈ f.parts) (hp_pwr : Part.pwr ∈ f.parts) (hp_bead : Part.bead ∈ f.parts) (hp_fab : Part.fab ∈ f.parts) (hp_ladders : Part.ladders ∈ f.parts) (hp_free : Part.free ∈ f.parts) (hall : ∀ r, f.regs r = true) : Fr f a c' := by
  unfold Chip.pathWrite at e
  split at e
  · split at e
    · exact absurd e (by simp)
    · simp only [Except.ok.injEq] at e
      subst e
      refine Chip.fabAnswer_fr ?_ ‹_›
      refine Chip.fabWrite_fr ‹_› h ‹_› ‹_› ‹_› ‹_› ‹_› ‹_› ‹_› ‹_› ‹_› ‹_› ‹_› ‹_› ‹_› ‹_› ‹_› ‹_› ‹_› ‹_› ‹_› ‹_› ‹_› ‹_› hall
  · simp only [Except.ok.injEq] at e
    subst e
    exact Chip.fabAnswer_fr h ‹_›

theorem Chip.pathRead_fr {f : Frame} {a c : Chip} {p_} {a_} (h : Fr f a c) (hp_fab : Part.fab ∈ f.parts) (hr_BELT_POS_HI : ∀ n, f.regs (.BELT_POS_HI n) = true) (hr_SEI_TIME_HI : f.regs .SEI_TIME_HI = true) :
    Fr f a (Chip.pathRead c p_ a_) := by
  unfold Chip.pathRead
  repeat' first
    | with_reducible assumption
    | with_reducible exact hr_BELT_POS_HI _
    | with_reducible refine Chip.fabRead_fr ‹_› ?_ ?_ ?_
    | with_reducible apply Chip.fabRead_fr2
    | with_reducible apply Chip.fabAnswer_fr
    | with_reducible refine Fr.ofIte ‹_› ?_ ?_
    | intro _
    | split
    | (extract_lets +onlyGivenNames x; refine (fun hx : Fr f a x => ?_) ?_; (on_goal 1 => clear_value x); (on_goal 2 => subst x))
    | (extract_lets +onlyGivenNames x; refine (fun hx : Fr f a x.2 => ?_) ?_; (on_goal 1 => clear_value x); (on_goal 2 => subst x))
    | (extract_lets +onlyGivenNames x; clear_value x)
    | dsimp only

theorem Chip.fwWrite_fr {f : Frame} {a c : Chip} {a_} {v_} (h : Fr f a c) (hp_clk : Part.clk ∈ f.parts) (hp_fl : Part.fl ∈ f.parts) (hp_fw : Part.fw ∈ f.parts) (hp_trunk : Part.trunk ∈ f.parts) (hp_doors : Part.doors ∈ f.parts) (hp_reqs : Part.reqs ∈ f.parts) (hp_cullet : Part.cullet ∈ f.parts) (hp_rates : Part.rates ∈ f.parts) (hp_svcPort : Part.svcPort ∈ f.parts) (hp_pond : Part.pond ∈ f.parts) (hp_engines : Part.engines ∈ f.parts) (hp_basins : Part.basins ∈ f.parts) (hp_ports : Part.ports ∈ f.parts) (hp_chans : Part.chans ∈ f.parts) (hp_rails : Part.rails ∈ f.parts) (hp_sei : Part.sei ∈ f.parts) (hp_svc : Part.svc ∈ f.parts) (hp_pwr : Part.pwr ∈ f.parts) (hp_bead : Part.bead ∈ f.parts) (hp_fab : Part.fab ∈ f.parts) (hp_ladders : Part.ladders ∈ f.parts) (hp_free : Part.free ∈ f.parts) (hall : ∀ r, f.regs r = true) :
    Fr f a (Chip.fwWrite c a_ v_) := by
  unfold Chip.fwWrite
  repeat' first
    | with_reducible assumption
    | with_reducible exact hall _
    | with_reducible exact fun _ => hall _
    | with_reducible exact fun _ _ => hall _
    | with_reducible apply Chip.fuseNow_fr
    | with_reducible apply Chip.putReg_fr
    | intro _
    | split
    | (extract_lets +onlyGivenNames x; refine (fun hx : Fr f a x => ?_) ?_; (on_goal 1 => clear_value x); (on_goal 2 => subst x))
    | (extract_lets +onlyGivenNames x; refine (fun hx : Fr f a x.2 => ?_) ?_; (on_goal 1 => clear_value x); (on_goal 2 => subst x))
    | (extract_lets +onlyGivenNames x; clear_value x)
    | dsimp only

end Sys2Proof.Laws
end

