-- ==== Sys2Proof/Laws/FrameFam.lean ====
section
/-! SUPPORT. What the shared operations of Machine/Bead, Door, Drop, DropEvents, Fabric, Fw, Integ, Line, PdFam, PondFam, PondUe, PortPwr, Power, Reset, Seiche, Svc, Trunk, Tick can change (frames), and that they keep the canonical
forms. -/

set_option linter.all false

namespace Sys2Proof.Laws

open Sys2Proof.Machine

/-! ### Machine/Bead.lean -/

theorem Chip.serveBead_fr {f : Frame} {a c : Chip} {q_} {op_} {body_} (h : Fr f a c) (hb_body : ∀ x0 x1, Fr f a x1 → Fr f a (body_ x0 x1)) (hp_trunk : Part.trunk ∈ f.parts) (hp_doors : Part.doors ∈ f.parts) (hp_reqs : Part.reqs ∈ f.parts) (hp_rates : Part.rates ∈ f.parts) (hp_basins : Part.basins ∈ f.parts) (hp_ports : Part.ports ∈ f.parts) (hp_pwr : Part.pwr ∈ f.parts) (hr_PWR_STATUS : f.regs .PWR_STATUS = true) :
    Fr f a (Chip.serveBead c q_ op_ body_) := by
  unfold Chip.serveBead
  repeat' first
    | with_reducible assumption
    | with_reducible apply hb_body
    | with_reducible apply Chip.serve_fr
    | with_reducible apply Chip.answer_fr
    | intro _
    | split
    | (extract_lets +onlyGivenNames x; refine (fun hx : Fr f a x => ?_) ?_; (on_goal 1 => clear_value x); (on_goal 2 => subst x))
    | (extract_lets +onlyGivenNames x; refine (fun hx : Fr f a x.2 => ?_) ?_; (on_goal 1 => clear_value x); (on_goal 2 => subst x))
    | (extract_lets +onlyGivenNames x; clear_value x)
    | dsimp only

theorem Chip.eventBytes_fr2 {f : Frame} {a c : Chip} {e_} (h : Fr f a c) (hp_free : Part.free ∈ f.parts) :
    Fr f a (Chip.eventBytes c e_).2 := by
  unfold Chip.eventBytes
  repeat' first
    | with_reducible assumption
    | with_reducible refine Chip.freeBytes_fr ‹_› ?_ ?_
    | with_reducible apply Chip.freeBytes_fr2
    | with_reducible refine Fr.ofIte ‹_› ?_ ?_
    | intro _
    | split
    | (extract_lets +onlyGivenNames x; refine (fun hx : Fr f a x => ?_) ?_; (on_goal 1 => clear_value x); (on_goal 2 => subst x))
    | (extract_lets +onlyGivenNames x; refine (fun hx : Fr f a x.2 => ?_) ?_; (on_goal 1 => clear_value x); (on_goal 2 => subst x))
    | (extract_lets +onlyGivenNames x; clear_value x)
    | dsimp only

theorem Chip.eventBytes_fr {f : Frame} {a c c1 : Chip} {e_} {y1} (e : Chip.eventBytes c e_ = (y1, c1)) (h : Fr f a c) (hp_free : Part.free ∈ f.parts) :
    Fr f a c1 := by
  have key := Chip.eventBytes_fr2 (e_ := e_) h hp_free
  rwa [e] at key

theorem Chip.snapData_fr2 {f : Frame} {a c : Chip} {seq_} {e_} (h : Fr f a c) (hp_free : Part.free ∈ f.parts) :
    Fr f a (Chip.snapData c seq_ e_).2 := by
  unfold Chip.snapData
  repeat' first
    | with_reducible assumption
    | with_reducible refine Chip.eventBytes_fr ‹_› ?_ ?_
    | with_reducible apply Chip.eventBytes_fr2
    | with_reducible refine Fr.ofIte ‹_› ?_ ?_
    | intro _
    | split
    | (extract_lets +onlyGivenNames x; refine (fun hx : Fr f a x => ?_) ?_; (on_goal 1 => clear_value x); (on_goal 2 => subst x))
    | (extract_lets +onlyGivenNames x; refine (fun hx : Fr f a x.2 => ?_) ?_; (on_goal 1 => clear_value x); (on_goal 2 => subst x))
    | (extract_lets +onlyGivenNames x; clear_value x)
    | dsimp only

theorem Chip.snapData_fr {f : Frame} {a c c1 : Chip} {seq_} {e_} {y1} (e : Chip.snapData c seq_ e_ = (y1, c1)) (h : Fr f a c) (hp_free : Part.free ∈ f.parts) :
    Fr f a c1 := by
  have key := Chip.snapData_fr2 (seq_ := seq_) (e_ := e_) h hp_free
  rwa [e] at key

theorem Chip.dropSnap_fr {f : Frame} {a c : Chip} {seq_} (h : Fr f a c) (hp_bead : Part.bead ∈ f.parts) (hr_BEAD_CNT : f.regs .BEAD_CNT = true) :
    Fr f a (Chip.dropSnap c seq_) := by
  unfold Chip.dropSnap
  repeat' first
    | with_reducible assumption
    | with_reducible apply Chip.incSat_fr
    | with_reducible apply Chip.updBead_fr
    | with_reducible exact fun _ => rfl
    | with_reducible exact fun _ => ⟨rfl, rfl⟩
    | with_reducible rfl
    | with_reducible exact ⟨rfl, rfl⟩
    | intro _
    | split
    | (extract_lets +onlyGivenNames x; refine (fun hx : Fr f a x => ?_) ?_; (on_goal 1 => clear_value x); (on_goal 2 => subst x))
    | (extract_lets +onlyGivenNames x; refine (fun hx : Fr f a x.2 => ?_) ?_; (on_goal 1 => clear_value x); (on_goal 2 => subst x))
    | (extract_lets +onlyGivenNames x; clear_value x)
    | dsimp only

theorem Chip.toField_fr {f : Frame} {a c : Chip} {a_} (h : Fr f a c) (hp_bead : Part.bead ∈ f.parts) :
    Fr f a (Chip.toField c a_) := by
  unfold Chip.toField
  repeat' first
    | with_reducible assumption
    | with_reducible apply Chip.updBead_fr
    | with_reducible exact fun _ => rfl
    | with_reducible exact fun _ => ⟨rfl, rfl⟩
    | with_reducible rfl
    | with_reducible exact ⟨rfl, rfl⟩
    | intro _
    | split
    | (extract_lets +onlyGivenNames x; refine (fun hx : Fr f a x => ?_) ?_; (on_goal 1 => clear_value x); (on_goal 2 => subst x))
    | (extract_lets +onlyGivenNames x; refine (fun hx : Fr f a x.2 => ?_) ?_; (on_goal 1 => clear_value x); (on_goal 2 => subst x))
    | (extract_lets +onlyGivenNames x; clear_value x)
    | dsimp only

theorem Chip.commitAnswer_fr {f : Frame} {a c : Chip} {w_} {ok_} (h : Fr f a c) (hp_trunk : Part.trunk ∈ f.parts) (hp_doors : Part.doors ∈ f.parts) (hp_reqs : Part.reqs ∈ f.parts) (hp_rates : Part.rates ∈ f.parts) (hp_bead : Part.bead ∈ f.parts) (hp_free : Part.free ∈ f.parts) :
    Fr f a (Chip.commitAnswer c w_ ok_) := by
  unfold Chip.commitAnswer
  repeat' first
    | with_reducible assumption
    | with_reducible refine Chip.draw_fr ‹_› ?_ ?_
    | with_reducible apply Chip.draw_fr2
    | with_reducible apply Chip.answer_fr
    | with_reducible apply Chip.toField_fr
    | with_reducible refine Fr.ofIte ‹_› ?_ ?_
    | intro _
    | split
    | (extract_lets +onlyGivenNames x; refine (fun hx : Fr f a x => ?_) ?_; (on_goal 1 => clear_value x); (on_goal 2 => subst x))
    | (extract_lets +onlyGivenNames x; refine (fun hx : Fr f a x.2 => ?_) ?_; (on_goal 1 => clear_value x); (on_goal 2 => subst x))
    | (extract_lets +onlyGivenNames x; clear_value x)
    | dsimp only

theorem Chip.asField_fr {f : Frame} {a c : Chip} {m_} {f_} (h : Fr f a c) (hb_f : ∀ x0, Fr f a x0 → Fr f a (f_ x0)) (hp_bead : Part.bead ∈ f.parts) :
    Fr f a (Chip.asField c m_ f_) := by
  unfold Chip.asField
  repeat' first
    | with_reducible assumption
    | with_reducible apply hb_f
    | with_reducible apply Chip.toField_fr
    | intro _
    | split
    | (extract_lets +onlyGivenNames x; refine (fun hx : Fr f a x => ?_) ?_; (on_goal 1 => clear_value x); (on_goal 2 => subst x))
    | (extract_lets +onlyGivenNames x; refine (fun hx : Fr f a x.2 => ?_) ?_; (on_goal 1 => clear_value x); (on_goal 2 => subst x))
    | (extract_lets +onlyGivenNames x; clear_value x)
    | dsimp only

theorem Chip.fieldErr_fr {f : Frame} {a c : Chip} {code_} (h : Fr f a c) (hp_bead : Part.bead ∈ f.parts) (hr_BEAD_CNT : f.regs .BEAD_CNT = true) :
    Fr f a (Chip.fieldErr c code_) := by
  unfold Chip.fieldErr
  repeat' first
    | with_reducible assumption
    | with_reducible apply Chip.incSat_fr
    | with_reducible apply Chip.toField_fr
    | intro _
    | split
    | (extract_lets +onlyGivenNames x; refine (fun hx : Fr f a x => ?_) ?_; (on_goal 1 => clear_value x); (on_goal 2 => subst x))
    | (extract_lets +onlyGivenNames x; refine (fun hx : Fr f a x.2 => ?_) ?_; (on_goal 1 => clear_value x); (on_goal 2 => subst x))
    | (extract_lets +onlyGivenNames x; clear_value x)
    | dsimp only

theorem Chip.endSession_fr {f : Frame} {a c : Chip}  (h : Fr f a c) (hp_doors : Part.doors ∈ f.parts) (hp_bead : Part.bead ∈ f.parts) (hr_BEAD_STATUS : f.regs .BEAD_STATUS = true) :
    Fr f a (Chip.endSession c) := by
  unfold Chip.endSession
  repeat' first
    | with_reducible assumption
    | with_reducible apply Chip.setSt_fr
    | with_reducible apply Chip.updBead_fr
    | with_reducible apply Chip.post_fr
    | with_reducible apply Chip.hsNext_fr
    | with_reducible exact fun _ => rfl
    | with_reducible exact fun _ => ⟨rfl, rfl⟩
    | with_reducible rfl
    | with_reducible exact ⟨rfl, rfl⟩
    | intro _
    | split
    | (extract_lets +onlyGivenNames x; refine (fun hx : Fr f a x => ?_) ?_; (on_goal 1 => clear_value x); (on_goal 2 => subst x))
    | (extract_lets +onlyGivenNames x; refine (fun hx : Fr f a x.2 => ?_) ?_; (on_goal 1 => clear_value x); (on_goal 2 => subst x))
    | (extract_lets +onlyGivenNames x; clear_value x)
    | dsimp only

/-! ### Machine/Door.lean -/

theorem Chip.answerClaim_fr {f : Frame} {a c : Chip} {q_} {res_} {data_} {n_} (h : Fr f a c) (hp_doors : Part.doors ∈ f.parts) (hp_reqs : Part.reqs ∈ f.parts) :
    Fr f a (Chip.answerClaim c q_ res_ data_ n_) := by
  unfold Chip.answerClaim
  repeat' first
    | with_reducible assumption
    | with_reducible apply Chip.answerEntry_fr
    | intro _
    | split
    | (extract_lets +onlyGivenNames x; refine (fun hx : Fr f a x => ?_) ?_; (on_goal 1 => clear_value x); (on_goal 2 => subst x))
    | (extract_lets +onlyGivenNames x; refine (fun hx : Fr f a x.2 => ?_) ?_; (on_goal 1 => clear_value x); (on_goal 2 => subst x))
    | (extract_lets +onlyGivenNames x; clear_value x)
    | dsimp only

theorem Chip.claim_fr {f : Frame} {a c : Chip} {q_} {e_} {owner_} {sub_} (h : Fr f a c) (hp_trunk : Part.trunk ∈ f.parts) (hp_doors : Part.doors ∈ f.parts) (hp_reqs : Part.reqs ∈ f.parts) (hp_rates : Part.rates ∈ f.parts) (hp_ports : Part.ports ∈ f.parts) :
    Fr f a (Chip.claim c q_ e_ owner_ sub_) := by
  unfold Chip.claim
  repeat' first
    | with_reducible assumption
    | with_reducible apply Chip.answerClaim_fr
    | with_reducible apply Chip.claimDoor_fr
    | with_reducible apply Chip.release_fr
    | intro _
    | split
    | (extract_lets +onlyGivenNames x; refine (fun hx : Fr f a x => ?_) ?_; (on_goal 1 => clear_value x); (on_goal 2 => subst x))
    | (extract_lets +onlyGivenNames x; refine (fun hx : Fr f a x.2 => ?_) ?_; (on_goal 1 => clear_value x); (on_goal 2 => subst x))
    | (extract_lets +onlyGivenNames x; clear_value x)
    | dsimp only

theorem Chip.releaseEngine_fr {f : Frame} {a c : Chip} {e_} (h : Fr f a c) (hp_clk : Part.clk ∈ f.parts) (hp_doors : Part.doors ∈ f.parts) (hp_cullet : Part.cullet ∈ f.parts) (hp_rates : Part.rates ∈ f.parts) (hp_engines : Part.engines ∈ f.parts) (hp_bead : Part.bead ∈ f.parts) (hr_ENG_BASIN : ∀ n, f.regs (.ENG_BASIN n) = true) (hr_ENG_QUAR : ∀ n, f.regs (.ENG_QUAR n) = true) (hr_GLB_FAULT : f.regs .GLB_FAULT = true) :
    Fr f a (Chip.releaseEngine c e_) := by
  unfold Chip.releaseEngine
  repeat' first
    | with_reducible assumption
    | with_reducible exact hr_ENG_BASIN _
    | with_reducible exact hr_ENG_QUAR _
    | with_reducible apply Chip.takeOver_fr
    | with_reducible apply Chip.updEng_fr
    | with_reducible apply Fr.wr
    | with_reducible apply Chip.post_fr
    | with_reducible apply Chip.syncBasin_fr
    | intro _
    | split
    | (extract_lets +onlyGivenNames x; refine (fun hx : Fr f a x => ?_) ?_; (on_goal 1 => clear_value x); (on_goal 2 => subst x))
    | (extract_lets +onlyGivenNames x; refine (fun hx : Fr f a x.2 => ?_) ?_; (on_goal 1 => clear_value x); (on_goal 2 => subst x))
    | (extract_lets +onlyGivenNames x; clear_value x)
    | dsimp only

/-! ### Machine/Drop.lean -/

theorem Chip.serveDrop_fr {f : Frame} {a c : Chip} {q_} {op_} {body_} (h : Fr f a c) (hb_body : ∀ x0 x1, Fr f a x1 → Fr f a (body_ x0 x1)) (hp_trunk : Part.trunk ∈ f.parts) (hp_doors : Part.doors ∈ f.parts) (hp_reqs : Part.reqs ∈ f.parts) (hp_rates : Part.rates ∈ f.parts) (hp_basins : Part.basins ∈ f.parts) (hp_ports : Part.ports ∈ f.parts) (hp_pwr : Part.pwr ∈ f.parts) (hr_PWR_STATUS : f.regs .PWR_STATUS = true) :
    Fr f a (Chip.serveDrop c q_ op_ body_) := by
  unfold Chip.serveDrop
  repeat' first
    | with_reducible assumption
    | with_reducible apply hb_body
    | with_reducible apply Chip.servePort_fr
    | with_reducible apply Chip.answer_fr
    | intro _
    | split
    | (extract_lets +onlyGivenNames x; refine (fun hx : Fr f a x => ?_) ?_; (on_goal 1 => clear_value x); (on_goal 2 => subst x))
    | (extract_lets +onlyGivenNames x; refine (fun hx : Fr f a x.2 => ?_) ?_; (on_goal 1 => clear_value x); (on_goal 2 => subst x))
    | (extract_lets +onlyGivenNames x; clear_value x)
    | dsimp only

theorem Chip.dropRefuse_fr {f : Frame} {a c : Chip} {n_} {q_} (h : Fr f a c) (hp_trunk : Part.trunk ∈ f.parts) (hp_doors : Part.doors ∈ f.parts) (hp_reqs : Part.reqs ∈ f.parts) (hp_rates : Part.rates ∈ f.parts) (hp_ports : Part.ports ∈ f.parts) :
    Fr f a (Chip.dropRefuse c n_ q_) := by
  unfold Chip.dropRefuse
  repeat' first
    | with_reducible assumption
    | with_reducible apply Chip.answer_fr
    | with_reducible apply Chip.dropIgnore_fr
    | intro _
    | split
    | (extract_lets +onlyGivenNames x; refine (fun hx : Fr f a x => ?_) ?_; (on_goal 1 => clear_value x); (on_goal 2 => subst x))
    | (extract_lets +onlyGivenNames x; refine (fun hx : Fr f a x.2 => ?_) ?_; (on_goal 1 => clear_value x); (on_goal 2 => subst x))
    | (extract_lets +onlyGivenNames x; clear_value x)
    | dsimp only

theorem Chip.attachBelow_fr {f : Frame} {a c : Chip} {n_} {route_} {speed_} (h : Fr f a c) (hp_doors : Part.doors ∈ f.parts) (hp_ports : Part.ports ∈ f.parts) (hr_DROP_STATUS : ∀ n, f.regs (.DROP_STATUS n) = true) :
    Fr f a (Chip.attachBelow c n_ route_ speed_) := by
  unfold Chip.attachBelow
  repeat' first
    | with_reducible assumption
    | with_reducible exact hr_DROP_STATUS _
    | with_reducible apply Chip.putDev_fr
    | with_reducible apply Chip.nextEnum_fr
    | with_reducible apply Chip.updDrop_fr
    | with_reducible apply Chip.evAttach_fr
    | intro _
    | split
    | (extract_lets +onlyGivenNames x; refine (fun hx : Fr f a x => ?_) ?_; (on_goal 1 => clear_value x); (on_goal 2 => subst x))
    | (extract_lets +onlyGivenNames x; refine (fun hx : Fr f a x.2 => ?_) ?_; (on_goal 1 => clear_value x); (on_goal 2 => subst x))
    | (extract_lets +onlyGivenNames x; clear_value x)
    | dsimp only

/-! ### Machine/DropEvents.lean -/

theorem Chip.pollPort_fr {f : Frame} {a c : Chip} {n_} {hub_} {port_} (h : Fr f a c) (hp_ports : Part.ports ∈ f.parts) :
    Fr f a (Chip.pollPort c n_ hub_ port_) := by
  unfold Chip.pollPort
  repeat' first
    | with_reducible assumption
    | with_reducible apply Chip.updDev_fr
    | intro _
    | split
    | (extract_lets +onlyGivenNames x; refine (fun hx : Fr f a x => ?_) ?_; (on_goal 1 => clear_value x); (on_goal 2 => subst x))
    | (extract_lets +onlyGivenNames x; refine (fun hx : Fr f a x.2 => ?_) ?_; (on_goal 1 => clear_value x); (on_goal 2 => subst x))
    | (extract_lets +onlyGivenNames x; clear_value x)
    | dsimp only

/-! ### Machine/Fabric.lean -/

theorem Chip.regwinOp_fr {f : Frame} {a c c' : Chip} {b y} (e : c.regwinOp b = .ok (y, c')) (h : Fr f a c)
    (hp_clk : Part.clk ∈ f.parts) (hp_fl : Part.fl ∈ f.parts) (hp_fw : Part.fw ∈ f.parts) (hp_trunk : Part.trunk ∈ f.parts) (hp_doors : Part.doors ∈ f.parts) (hp_reqs : Part.reqs ∈ f.parts) (hp_cullet : Part.cullet ∈ f.parts) (hp_rates : Part.rates ∈ f.parts) (hp_svcPort : Part.svcPort ∈ f.parts) (hp_pond : Part.pond ∈ f.parts) (hp_engines : Part.engines ∈ f.parts) (hp_basins : Part.basins ∈ f.parts) (hp_ports : Part.ports ∈ f.parts) (hp_chans : Part.chans ∈ f.parts) (hp_rails : Part.rails ∈ f.parts) (hp_sei : Part.sei ∈ f.parts) (hp_svc : Part.svc ∈ f.parts) (hp_pwr : Part.pwr ∈ f.parts) (hp_bead : Part.bead ∈ f.parts) (hp_fab : Part.fab ∈ f.parts) (hp_ladders : Part.ladders ∈ f.parts) (hp_free : Part.free ∈ f.parts) (hall : ∀ r, f.regs r = true) : Fr f a c' := by
  unfold Chip.regwinOp at e
  simp only at e
  split at e
  · simp only [Except.ok.injEq, Prod.mk.injEq] at e
    obtain ⟨_, rfl⟩ := e
    exact Chip.fabRead_fr2 h (fun _ => hall _) (hall _)
  · split at e
    · exact absurd e (by simp)
    · simp only [Except.ok.injEq, Prod.mk.injEq] at e
      obtain ⟨_, rfl⟩ := e
      exact Chip.fabWrite_fr ‹_› h ‹_› ‹_› ‹_› ‹_› ‹_› ‹_› ‹_› ‹_› ‹_› ‹_› ‹_› ‹_› ‹_› ‹_› ‹_› ‹_› ‹_› ‹_› ‹_› ‹_› ‹_› ‹_› hall
  · simp only [Except.ok.injEq, Prod.mk.injEq] at e
    obtain ⟨_, rfl⟩ := e
    exact h

theorem Chip.regwinOps_fr {f : Frame} {a c c' : Chip} {l y} (e : Chip.regwinOps c l = .ok (y, c')) (h : Fr f a c)
    (hp_clk : Part.clk ∈ f.parts) (hp_fl : Part.fl ∈ f.parts) (hp_fw : Part.fw ∈ f.parts) (hp_trunk : Part.trunk ∈ f.parts) (hp_doors : Part.doors ∈ f.parts) (hp_reqs : Part.reqs ∈ f.parts) (hp_cullet : Part.cullet ∈ f.parts) (hp_rates : Part.rates ∈ f.parts) (hp_svcPort : Part.svcPort ∈ f.parts) (hp_pond : Part.pond ∈ f.parts) (hp_engines : Part.engines ∈ f.parts) (hp_basins : Part.basins ∈ f.parts) (hp_ports : Part.ports ∈ f.parts) (hp_chans : Part.chans ∈ f.parts) (hp_rails : Part.rails ∈ f.parts) (hp_sei : Part.sei ∈ f.parts) (hp_svc : Part.svc ∈ f.parts) (hp_pwr : Part.pwr ∈ f.parts) (hp_bead : Part.bead ∈ f.parts) (hp_fab : Part.fab ∈ f.parts) (hp_ladders : Part.ladders ∈ f.parts) (hp_free : Part.free ∈ f.parts) (hall : ∀ r, f.regs r = true) : Fr f a c' := by
  induction l generalizing c y c' with
  | nil =>
    simp only [Chip.regwinOps, Except.ok.injEq, Prod.mk.injEq] at e
    obtain ⟨_, rfl⟩ := e
    exact h
  | cons b t ih =>
    unfold Chip.regwinOps at e
    split at e
    · exact absurd e (by simp)
    · next r c1 h1 =>
      split at e
      · exact absurd e (by simp)
      · next u c2 h2 =>
        simp only [Except.ok.injEq, Prod.mk.injEq] at e
        obtain ⟨_, rfl⟩ := e
        exact ih h2 (Chip.regwinOp_fr h1 h ‹_› ‹_› ‹_› ‹_› ‹_› ‹_› ‹_› ‹_› ‹_› ‹_› ‹_› ‹_› ‹_› ‹_› ‹_› ‹_› ‹_› ‹_› ‹_› ‹_› ‹_› ‹_› hall)

theorem Chip.serveE_fr {f : Frame} {a c c' : Chip} {q op body} (e : c.serveE q op body = .ok c') (h : Fr f a c)
    (hb : ∀ c c', body c = .ok c' → Fr f a c → Fr f a c') (hp_trunk : Part.trunk ∈ f.parts) (hp_doors : Part.doors ∈ f.parts) (hp_reqs : Part.reqs ∈ f.parts) (hp_rates : Part.rates ∈ f.parts) (hp_basins : Part.basins ∈ f.parts) (hp_ports : Part.ports ∈ f.parts) (hp_pwr : Part.pwr ∈ f.parts) (hr_PWR_STATUS : f.regs .PWR_STATUS = true) : Fr f a c' := by
  unfold Chip.serveE at e
  split at e
  · simp only [Except.ok.injEq] at e
    subst e
    exact h
  · split at e
    · simp only [Except.ok.injEq] at e
      subst e
      repeat' first
        | assumption
        | exact fun _ _ h => h
        | with_reducible apply Chip.serve_fr
    · simp only at e
      split at e
      · simp only [Except.ok.injEq] at e
        subst e
        repeat' first
          | assumption
          | with_reducible apply Chip.answer_fr
          | with_reducible apply Chip.active_fr
          | with_reducible apply Chip.setReqSt_fr
      · refine hb _ _ e ?_
        repeat' first
          | assumption
          | with_reducible apply Chip.active_fr
          | with_reducible apply Chip.setReqSt_fr

theorem Chip.readWords_fr {f : Frame} {a c c' : Chip} {n x l ok} (e : Chip.readWords n x c = (l, ok, c')) (h : Fr f a c)
    (hr_BELT_POS_HI : ∀ n, f.regs (.BELT_POS_HI n) = true) (hr_SEI_TIME_HI : f.regs .SEI_TIME_HI = true) : Fr f a c' := by
  induction n generalizing c c' x l ok with
  | zero =>
    simp only [Chip.readWords, Prod.mk.injEq] at e
    obtain ⟨_, _, rfl⟩ := e
    exact h
  | succ n ih =>
    have h1 := Chip.fabRead_fr2 (a_ := x) h hr_BELT_POS_HI hr_SEI_TIME_HI
    unfold Chip.readWords at e
    simp only at e
    split at e
    · simp only [Prod.mk.injEq] at e
      obtain ⟨_, _, rfl⟩ := e
      exact h1
    · simp only [Prod.mk.injEq] at e
      obtain ⟨_, _, rfl⟩ := e
      exact ih rfl h1

theorem Chip.fwWord_fr {f : Frame} {a c c' : Chip} {x v y} (e : c.fwWord x v = .ok (y, c')) (h : Fr f a c)
    (hp_clk : Part.clk ∈ f.parts) (hp_fl : Part.fl ∈ f.parts) (hp_fw : Part.fw ∈ f.parts) (hp_trunk : Part.trunk ∈ f.parts) (hp_doors : Part.doors ∈ f.parts) (hp_reqs : Part.reqs ∈ f.parts) (hp_cullet : Part.cullet ∈ f.parts) (hp_rates : Part.rates ∈ f.parts) (hp_svcPort : Part.svcPort ∈ f.parts) (hp_pond : Part.pond ∈ f.parts) (hp_engines : Part.engines ∈ f.parts) (hp_basins : Part.basins ∈ f.parts) (hp_ports : Part.ports ∈ f.parts) (hp_chans : Part.chans ∈ f.parts) (hp_rails : Part.rails ∈ f.parts) (hp_sei : Part.sei ∈ f.parts) (hp_svc : Part.svc ∈ f.parts) (hp_pwr : Part.pwr ∈ f.parts) (hp_bead : Part.bead ∈ f.parts) (hp_fab : Part.fab ∈ f.parts) (hp_ladders : Part.ladders ∈ f.parts) (hp_free : Part.free ∈ f.parts) (hall : ∀ r, f.regs r = true) : Fr f a c' := by
  unfold Chip.fwWord at e
  split at e
  · exact absurd e (by simp)
  · next st c1 h1 =>
    have h2 := Chip.fabWrite_fr h1 h ‹_› ‹_› ‹_› ‹_› ‹_› ‹_› ‹_› ‹_› ‹_› ‹_› ‹_› ‹_› ‹_› ‹_› ‹_› ‹_› ‹_› ‹_› ‹_› ‹_› ‹_› ‹_› hall
    simp only [Except.ok.injEq, Prod.mk.injEq] at e
    obtain ⟨_, rfl⟩ := e
    exact h2

theorem Chip.writeWords_fr {f : Frame} {a c c' : Chip} {l x i j} (e : Chip.writeWords l x c = .ok (i, j, c')) (h : Fr f a c)
    (hp_clk : Part.clk ∈ f.parts) (hp_fl : Part.fl ∈ f.parts) (hp_fw : Part.fw ∈ f.parts) (hp_trunk : Part.trunk ∈ f.parts) (hp_doors : Part.doors ∈ f.parts) (hp_reqs : Part.reqs ∈ f.parts) (hp_cullet : Part.cullet ∈ f.parts) (hp_rates : Part.rates ∈ f.parts) (hp_svcPort : Part.svcPort ∈ f.parts) (hp_pond : Part.pond ∈ f.parts) (hp_engines : Part.engines ∈ f.parts) (hp_basins : Part.basins ∈ f.parts) (hp_ports : Part.ports ∈ f.parts) (hp_chans : Part.chans ∈ f.parts) (hp_rails : Part.rails ∈ f.parts) (hp_sei : Part.sei ∈ f.parts) (hp_svc : Part.svc ∈ f.parts) (hp_pwr : Part.pwr ∈ f.parts) (hp_bead : Part.bead ∈ f.parts) (hp_fab : Part.fab ∈ f.parts) (hp_ladders : Part.ladders ∈ f.parts) (hp_free : Part.free ∈ f.parts) (hall : ∀ r, f.regs r = true) : Fr f a c' := by
  induction l generalizing c c' x i j with
  | nil =>
    simp only [Chip.writeWords, Except.ok.injEq, Prod.mk.injEq] at e
    obtain ⟨_, _, rfl⟩ := e
    exact h
  | cons v t ih =>
    unfold Chip.writeWords at e
    split at e
    · exact absurd e (by simp)
    · next st c1 h1 =>
      have h2 := Chip.fwWord_fr h1 h ‹_› ‹_› ‹_› ‹_› ‹_› ‹_› ‹_› ‹_› ‹_› ‹_› ‹_› ‹_› ‹_› ‹_› ‹_› ‹_› ‹_› ‹_› ‹_› ‹_› ‹_› ‹_› hall
      split at e
      · simp only [Except.ok.injEq, Prod.mk.injEq] at e
        obtain ⟨_, _, rfl⟩ := e
        exact h2
      · split at e
        · exact absurd e (by simp)
        · next h3 =>
          simp only [Except.ok.injEq, Prod.mk.injEq] at e
          obtain ⟨_, _, rfl⟩ := e
          exact ih h3 h2

theorem Chip.writeAnswer_fr {f : Frame} {a c c' : Chip} {q x v} (e : c.writeAnswer q x v = .ok c') (h : Fr f a c)
    (hp_clk : Part.clk ∈ f.parts) (hp_fl : Part.fl ∈ f.parts) (hp_fw : Part.fw ∈ f.parts) (hp_trunk : Part.trunk ∈ f.parts) (hp_doors : Part.doors ∈ f.parts) (hp_reqs : Part.reqs ∈ f.parts) (hp_cullet : Part.cullet ∈ f.parts) (hp_rates : Part.rates ∈ f.parts) (hp_svcPort : Part.svcPort ∈ f.parts) (hp_pond : Part.pond ∈ f.parts) (hp_engines : Part.engines ∈ f.parts) (hp_basins : Part.basins ∈ f.parts) (hp_ports : Part.ports ∈ f.parts) (hp_chans : Part.chans ∈ f.parts) (hp_rails : Part.rails ∈ f.parts) (hp_sei : Part.sei ∈ f.parts) (hp_svc : Part.svc ∈ f.parts) (hp_pwr : Part.pwr ∈ f.parts) (hp_bead : Part.bead ∈ f.parts) (hp_fab : Part.fab ∈ f.parts) (hp_ladders : Part.ladders ∈ f.parts) (hp_free : Part.free ∈ f.parts) (hall : ∀ r, f.regs r = true) : Fr f a c' := by
  unfold Chip.writeAnswer at e
  split at e
  · exact absurd e (by simp)
  · next st c1 h1 =>
    have h2 := Chip.fwWord_fr h1 h ‹_› ‹_› ‹_› ‹_› ‹_› ‹_› ‹_› ‹_› ‹_› ‹_› ‹_› ‹_› ‹_› ‹_› ‹_› ‹_› ‹_› ‹_› ‹_› ‹_› ‹_› ‹_› hall
    simp only [Except.ok.injEq] at e
    subst e
    (repeat' split) <;> exact Chip.answer_fr h2 ‹_› ‹_› ‹_› ‹_›

theorem Chip.setPause_fr {f : Frame} {a c : Chip} {b_} (h : Fr f a c) (hp_fab : Part.fab ∈ f.parts) (hr_CW_CTL : f.regs .CW_CTL = true) (hr_CW_STATUS : f.regs .CW_STATUS = true) :
    Fr f a (Chip.setPause c b_) := by
  unfold Chip.setPause
  repeat' first
    | with_reducible assumption
    | with_reducible apply Chip.cwCtl_fr
    | with_reducible apply Chip.setB_fr
    | intro _
    | split
    | (extract_lets +onlyGivenNames x; refine (fun hx : Fr f a x => ?_) ?_; (on_goal 1 => clear_value x); (on_goal 2 => subst x))
    | (extract_lets +onlyGivenNames x; refine (fun hx : Fr f a x.2 => ?_) ?_; (on_goal 1 => clear_value x); (on_goal 2 => subst x))
    | (extract_lets +onlyGivenNames x; clear_value x)
    | dsimp only

theorem Chip.cwMatch_fr {f : Frame} {a c : Chip}  (h : Fr f a c) (hp_doors : Part.doors ∈ f.parts) (hp_fab : Part.fab ∈ f.parts) (hr_CW_STATUS : f.regs .CW_STATUS = true) :
    Fr f a (Chip.cwMatch c) := by
  unfold Chip.cwMatch
  repeat' first
    | with_reducible assumption
    | with_reducible apply Chip.setF_fr
    | with_reducible apply Chip.updFab_fr
    | with_reducible apply Chip.post_fr
    | intro _
    | split
    | (extract_lets +onlyGivenNames x; refine (fun hx : Fr f a x => ?_) ?_; (on_goal 1 => clear_value x); (on_goal 2 => subst x))
    | (extract_lets +onlyGivenNames x; refine (fun hx : Fr f a x.2 => ?_) ?_; (on_goal 1 => clear_value x); (on_goal 2 => subst x))
    | (extract_lets +onlyGivenNames x; clear_value x)
    | dsimp only

theorem Chip.cwMismatch_fr {f : Frame} {a c : Chip}  (h : Fr f a c) (hp_clk : Part.clk ∈ f.parts) (hp_doors : Part.doors ∈ f.parts) (hp_bead : Part.bead ∈ f.parts) (hp_fab : Part.fab ∈ f.parts) (hr_CW_STATUS : f.regs .CW_STATUS = true) (hr_GLB_FAULT : f.regs .GLB_FAULT = true) :
    Fr f a (Chip.cwMismatch c) := by
  unfold Chip.cwMismatch
  repeat' first
    | with_reducible assumption
    | with_reducible apply Chip.setF_fr
    | with_reducible apply Chip.updFab_fr
    | with_reducible apply Chip.record_fr
    | with_reducible apply Chip.postFault_fr
    | intro _
    | split
    | (extract_lets +onlyGivenNames x; refine (fun hx : Fr f a x => ?_) ?_; (on_goal 1 => clear_value x); (on_goal 2 => subst x))
    | (extract_lets +onlyGivenNames x; refine (fun hx : Fr f a x.2 => ?_) ?_; (on_goal 1 => clear_value x); (on_goal 2 => subst x))
    | (extract_lets +onlyGivenNames x; clear_value x)
    | dsimp only

theorem Chip.cwComplete_fr {f : Frame} {a c : Chip}  (h : Fr f a c) (hp_clk : Part.clk ∈ f.parts) (hp_trunk : Part.trunk ∈ f.parts) (hp_doors : Part.doors ∈ f.parts) (hp_reqs : Part.reqs ∈ f.parts) (hp_rates : Part.rates ∈ f.parts) (hp_bead : Part.bead ∈ f.parts) (hp_fab : Part.fab ∈ f.parts) (hr_CW_BLK : ∀ n, f.regs (.CW_BLK n) = true) (hr_CW_CALC : f.regs .CW_CALC = true) (hr_CW_STATUS : f.regs .CW_STATUS = true) (hr_GLB_FAULT : f.regs .GLB_FAULT = true) :
    Fr f a (Chip.cwComplete c) := by
  unfold Chip.cwComplete
  repeat' first
    | with_reducible assumption
    | with_reducible exact hr_CW_BLK _
    | with_reducible apply Fr.each
    | with_reducible apply Fr.wr
    | with_reducible apply Chip.cwMatch_fr
    | with_reducible apply Chip.cwMismatch_fr
    | with_reducible apply Chip.updFab_fr
    | with_reducible apply Chip.answer_fr
    | intro _
    | split
    | (extract_lets +onlyGivenNames x; refine (fun hx : Fr f a x => ?_) ?_; (on_goal 1 => clear_value x); (on_goal 2 => subst x))
    | (extract_lets +onlyGivenNames x; refine (fun hx : Fr f a x.2 => ?_) ?_; (on_goal 1 => clear_value x); (on_goal 2 => subst x))
    | (extract_lets +onlyGivenNames x; clear_value x)
    | dsimp only

/-! ### Machine/Fw.lean -/

theorem Chip.logTrim_fr {f : Frame} {a c : Chip} {seq_} {quote_} (h : Fr f a c) (hp_fw : Part.fw ∈ f.parts) (hp_bead : Part.bead ∈ f.parts) :
    Fr f a (Chip.logTrim c seq_ quote_) := by
  unfold Chip.logTrim
  repeat' first
    | with_reducible assumption
    | with_reducible apply Chip.updFw_fr
    | with_reducible apply Chip.updBead_fr
    | with_reducible exact fun _ => rfl
    | with_reducible exact fun _ => ⟨rfl, rfl⟩
    | with_reducible rfl
    | with_reducible exact ⟨rfl, rfl⟩
    | intro _
    | split
    | (extract_lets +onlyGivenNames x; refine (fun hx : Fr f a x => ?_) ?_; (on_goal 1 => clear_value x); (on_goal 2 => subst x))
    | (extract_lets +onlyGivenNames x; refine (fun hx : Fr f a x.2 => ?_) ?_; (on_goal 1 => clear_value x); (on_goal 2 => subst x))
    | (extract_lets +onlyGivenNames x; clear_value x)
    | dsimp only

theorem Chip.handoffTo_fr {f : Frame} {a c : Chip} {h_} {step_} (h : Fr f a c) (hp_fw : Part.fw ∈ f.parts) :
    Fr f a (Chip.handoffTo c h_ step_) := by
  unfold Chip.handoffTo
  repeat' first
    | with_reducible assumption
    | with_reducible apply Chip.updFw_fr
    | with_reducible exact fun _ => rfl
    | with_reducible exact fun _ => ⟨rfl, rfl⟩
    | with_reducible rfl
    | with_reducible exact ⟨rfl, rfl⟩
    | intro _
    | split
    | (extract_lets +onlyGivenNames x; refine (fun hx : Fr f a x => ?_) ?_; (on_goal 1 => clear_value x); (on_goal 2 => subst x))
    | (extract_lets +onlyGivenNames x; refine (fun hx : Fr f a x.2 => ?_) ?_; (on_goal 1 => clear_value x); (on_goal 2 => subst x))
    | (extract_lets +onlyGivenNames x; clear_value x)
    | dsimp only

theorem Chip.handoffAbort_fr {f : Frame} {a c : Chip} {h_} {res_} (h : Fr f a c) (hp_clk : Part.clk ∈ f.parts) (hp_fw : Part.fw ∈ f.parts) (hp_trunk : Part.trunk ∈ f.parts) (hp_doors : Part.doors ∈ f.parts) (hp_reqs : Part.reqs ∈ f.parts) (hp_rates : Part.rates ∈ f.parts) (hp_bead : Part.bead ∈ f.parts) (hr_GLB_FAULT : f.regs .GLB_FAULT = true) :
    Fr f a (Chip.handoffAbort c h_ res_) := by
  unfold Chip.handoffAbort
  repeat' first
    | with_reducible assumption
    | with_reducible apply Chip.updFw_fr
    | with_reducible apply Chip.answerOpt_fr
    | with_reducible apply Chip.postFault_fr
    | with_reducible exact fun _ => rfl
    | with_reducible exact fun _ => ⟨rfl, rfl⟩
    | with_reducible rfl
    | with_reducible exact ⟨rfl, rfl⟩
    | intro _
    | split
    | (extract_lets +onlyGivenNames x; refine (fun hx : Fr f a x => ?_) ?_; (on_goal 1 => clear_value x); (on_goal 2 => subst x))
    | (extract_lets +onlyGivenNames x; refine (fun hx : Fr f a x.2 => ?_) ?_; (on_goal 1 => clear_value x); (on_goal 2 => subst x))
    | (extract_lets +onlyGivenNames x; clear_value x)
    | dsimp only

theorem Chip.handoffSwitch_fr {f : Frame} {a c : Chip} {h_} (h : Fr f a c) (hp_clk : Part.clk ∈ f.parts) (hp_fw : Part.fw ∈ f.parts) (hp_trunk : Part.trunk ∈ f.parts) (hp_doors : Part.doors ∈ f.parts) (hp_reqs : Part.reqs ∈ f.parts) (hp_rates : Part.rates ∈ f.parts) (hp_pond : Part.pond ∈ f.parts) (hp_engines : Part.engines ∈ f.parts) (hp_basins : Part.basins ∈ f.parts) (hp_ports : Part.ports ∈ f.parts) (hp_svc : Part.svc ∈ f.parts) (hp_pwr : Part.pwr ∈ f.parts) (hp_bead : Part.bead ∈ f.parts) (hr_GLB_FAULT : f.regs .GLB_FAULT = true) (hr_HOLDER_USED : ∀ n, f.regs (.HOLDER_USED n) = true) (hr_POND_FREE : f.regs .POND_FREE = true) (hr_POND_STATUS : f.regs .POND_STATUS = true) (hr_POND_WAIT : f.regs .POND_WAIT = true) (hr_PWR_STATUS : f.regs .PWR_STATUS = true) (hr_SVC_STATUS : f.regs .SVC_STATUS = true) :
    Fr f a (Chip.handoffSwitch c h_) := by
  unfold Chip.handoffSwitch
  repeat' first
    | with_reducible assumption
    | with_reducible exact hr_HOLDER_USED _
    | with_reducible apply Chip.hsReturns_fr
    | with_reducible apply Chip.handoffAbort_fr
    | with_reducible apply Chip.measure_fr
    | with_reducible apply Chip.handoffTo_fr
    | with_reducible apply Chip.updFw_fr
    | with_reducible exact fun _ => rfl
    | with_reducible exact fun _ => ⟨rfl, rfl⟩
    | with_reducible rfl
    | with_reducible exact ⟨rfl, rfl⟩
    | intro _
    | split
    | (extract_lets +onlyGivenNames x; refine (fun hx : Fr f a x => ?_) ?_; (on_goal 1 => clear_value x); (on_goal 2 => subst x))
    | (extract_lets +onlyGivenNames x; refine (fun hx : Fr f a x.2 => ?_) ?_; (on_goal 1 => clear_value x); (on_goal 2 => subst x))
    | (extract_lets +onlyGivenNames x; clear_value x)
    | dsimp only

theorem Chip.handoffRevert_fr {f : Frame} {a c : Chip} {h_} {res_} (h : Fr f a c) (hp_clk : Part.clk ∈ f.parts) (hp_fw : Part.fw ∈ f.parts) (hp_trunk : Part.trunk ∈ f.parts) (hp_doors : Part.doors ∈ f.parts) (hp_reqs : Part.reqs ∈ f.parts) (hp_rates : Part.rates ∈ f.parts) (hp_pond : Part.pond ∈ f.parts) (hp_engines : Part.engines ∈ f.parts) (hp_basins : Part.basins ∈ f.parts) (hp_ports : Part.ports ∈ f.parts) (hp_svc : Part.svc ∈ f.parts) (hp_pwr : Part.pwr ∈ f.parts) (hp_bead : Part.bead ∈ f.parts) (hr_GLB_FAULT : f.regs .GLB_FAULT = true) (hr_HOLDER_USED : ∀ n, f.regs (.HOLDER_USED n) = true) (hr_POND_FREE : f.regs .POND_FREE = true) (hr_POND_STATUS : f.regs .POND_STATUS = true) (hr_POND_WAIT : f.regs .POND_WAIT = true) (hr_PWR_STATUS : f.regs .PWR_STATUS = true) (hr_SVC_STATUS : f.regs .SVC_STATUS = true) :
    Fr f a (Chip.handoffRevert c h_ res_) := by
  unfold Chip.handoffRevert
  repeat' first
    | with_reducible assumption
    | with_reducible exact hr_HOLDER_USED _
    | with_reducible apply Chip.updFw_fr
    | with_reducible apply Chip.measure_fr
    | with_reducible apply Chip.hsReturns_fr
    | with_reducible apply Chip.answerOpt_fr
    | with_reducible apply Chip.postFault_fr
    | with_reducible exact fun _ => rfl
    | with_reducible exact fun _ => ⟨rfl, rfl⟩
    | with_reducible rfl
    | with_reducible exact ⟨rfl, rfl⟩
    | intro _
    | split
    | (extract_lets +onlyGivenNames x; refine (fun hx : Fr f a x => ?_) ?_; (on_goal 1 => clear_value x); (on_goal 2 => subst x))
    | (extract_lets +onlyGivenNames x; refine (fun hx : Fr f a x.2 => ?_) ?_; (on_goal 1 => clear_value x); (on_goal 2 => subst x))
    | (extract_lets +onlyGivenNames x; clear_value x)
    | dsimp only

theorem Chip.bootOvr_fr {f : Frame} {a c : Chip} {bank_} {once_} (h : Fr f a c) (hp_trunk : Part.trunk ∈ f.parts) (hp_doors : Part.doors ∈ f.parts) (hp_reqs : Part.reqs ∈ f.parts) (hp_rates : Part.rates ∈ f.parts) (hp_fab : Part.fab ∈ f.parts) (hall : ∀ r, f.regs r = true) :
    Fr f a (Chip.bootOvr c bank_ once_) := by
  unfold Chip.bootOvr
  repeat' first
    | with_reducible assumption
    | with_reducible exact hall _
    | with_reducible exact fun _ => hall _
    | with_reducible exact fun _ _ => hall _
    | with_reducible apply Chip.aonWrite_fr
    | intro _
    | split
    | (extract_lets +onlyGivenNames x; refine (fun hx : Fr f a x => ?_) ?_; (on_goal 1 => clear_value x); (on_goal 2 => subst x))
    | (extract_lets +onlyGivenNames x; refine (fun hx : Fr f a x.2 => ?_) ?_; (on_goal 1 => clear_value x); (on_goal 2 => subst x))
    | (extract_lets +onlyGivenNames x; clear_value x)
    | dsimp only

theorem Chip.rollStall_fr {f : Frame} {a c : Chip} {b_} (h : Fr f a c) (hp_clk : Part.clk ∈ f.parts) (hp_fw : Part.fw ∈ f.parts) (hp_doors : Part.doors ∈ f.parts) (hp_bead : Part.bead ∈ f.parts) (hr_GLB_FAULT : f.regs .GLB_FAULT = true) :
    Fr f a (Chip.rollStall c b_) := by
  unfold Chip.rollStall
  repeat' first
    | with_reducible assumption
    | with_reducible apply Chip.updFw_fr
    | with_reducible apply Chip.postFault_fr
    | with_reducible exact fun _ => rfl
    | with_reducible exact fun _ => ⟨rfl, rfl⟩
    | with_reducible rfl
    | with_reducible exact ⟨rfl, rfl⟩
    | intro _
    | split
    | (extract_lets +onlyGivenNames x; refine (fun hx : Fr f a x => ?_) ?_; (on_goal 1 => clear_value x); (on_goal 2 => subst x))
    | (extract_lets +onlyGivenNames x; refine (fun hx : Fr f a x.2 => ?_) ?_; (on_goal 1 => clear_value x); (on_goal 2 => subst x))
    | (extract_lets +onlyGivenNames x; clear_value x)
    | dsimp only

theorem Chip.rollStart_fr {f : Frame} {a c : Chip}  (h : Fr f a c) (hp_clk : Part.clk ∈ f.parts) (hp_fw : Part.fw ∈ f.parts) (hp_doors : Part.doors ∈ f.parts) (hp_bead : Part.bead ∈ f.parts) (hr_GLB_FAULT : f.regs .GLB_FAULT = true) :
    Fr f a (Chip.rollStart c) := by
  unfold Chip.rollStart
  repeat' first
    | with_reducible assumption
    | with_reducible apply Fr.each
    | with_reducible apply Chip.rollStall_fr
    | intro _
    | split
    | (extract_lets +onlyGivenNames x; refine (fun hx : Fr f a x => ?_) ?_; (on_goal 1 => clear_value x); (on_goal 2 => subst x))
    | (extract_lets +onlyGivenNames x; refine (fun hx : Fr f a x.2 => ?_) ?_; (on_goal 1 => clear_value x); (on_goal 2 => subst x))
    | (extract_lets +onlyGivenNames x; clear_value x)
    | dsimp only

theorem Chip.rollRole_fr {f : Frame} {a c : Chip} {b_} {e_} {sp_} (h : Fr f a c) (hp_fw : Part.fw ∈ f.parts) (hp_doors : Part.doors ∈ f.parts) (hp_engines : Part.engines ∈ f.parts) :
    Fr f a (Chip.rollRole c b_ e_ sp_) := by
  unfold Chip.rollRole
  repeat' first
    | with_reducible assumption
    | with_reducible apply Chip.bumpEngine_fr
    | with_reducible apply Chip.updEng_fr
    | with_reducible apply Chip.loadEngines_fr
    | with_reducible apply Chip.giveRole_fr
    | with_reducible apply Chip.updFw_fr
    | with_reducible exact fun _ => rfl
    | with_reducible exact fun _ => ⟨rfl, rfl⟩
    | with_reducible rfl
    | with_reducible exact ⟨rfl, rfl⟩
    | intro _
    | split
    | (extract_lets +onlyGivenNames x; refine (fun hx : Fr f a x => ?_) ?_; (on_goal 1 => clear_value x); (on_goal 2 => subst x))
    | (extract_lets +onlyGivenNames x; refine (fun hx : Fr f a x.2 => ?_) ?_; (on_goal 1 => clear_value x); (on_goal 2 => subst x))
    | (extract_lets +onlyGivenNames x; clear_value x)
    | dsimp only

/-! ### Machine/Integ.lean -/

theorem Chip.loseEvents_fr {f : Frame} {a c : Chip} {d_} {es_} {keep_} (h : Fr f a c) (hp_clk : Part.clk ∈ f.parts) (hp_doors : Part.doors ∈ f.parts) (hp_bead : Part.bead ∈ f.parts) (hr_GLB_FAULT : f.regs .GLB_FAULT = true) :
    Fr f a (Chip.loseEvents c d_ es_ keep_) := by
  unfold Chip.loseEvents
  repeat' first
    | with_reducible assumption
    | with_reducible apply Chip.updDoor_fr
    | with_reducible apply Chip.lostReport_fr
    | with_reducible exact fun _ => ⟨rfl, rfl, rfl⟩
    | with_reducible exact fun _ => DoorSt.push_same _ _
    | intro _
    | split
    | (extract_lets +onlyGivenNames x; refine (fun hx : Fr f a x => ?_) ?_; (on_goal 1 => clear_value x); (on_goal 2 => subst x))
    | (extract_lets +onlyGivenNames x; refine (fun hx : Fr f a x.2 => ?_) ?_; (on_goal 1 => clear_value x); (on_goal 2 => subst x))
    | (extract_lets +onlyGivenNames x; clear_value x)
    | dsimp only

theorem Chip.loseRequests_fr {f : Frame} {a c : Chip} {d_} {es_} (h : Fr f a c) (hp_doors : Part.doors ∈ f.parts) (hp_reqs : Part.reqs ∈ f.parts) (hp_ports : Part.ports ∈ f.parts) :
    Fr f a (Chip.loseRequests c d_ es_) := by
  unfold Chip.loseRequests
  repeat' first
    | with_reducible assumption
    | with_reducible apply Fr.each
    | with_reducible apply Chip.dropSeq_fr
    | with_reducible apply Chip.updDoorReqs_fr
    | with_reducible exact fun _ => ⟨rfl, rfl, rfl⟩
    | with_reducible exact fun _ => DoorSt.push_same _ _
    | intro _
    | split
    | (extract_lets +onlyGivenNames x; refine (fun hx : Fr f a x => ?_) ?_; (on_goal 1 => clear_value x); (on_goal 2 => subst x))
    | (extract_lets +onlyGivenNames x; refine (fun hx : Fr f a x.2 => ?_) ?_; (on_goal 1 => clear_value x); (on_goal 2 => subst x))
    | (extract_lets +onlyGivenNames x; clear_value x)
    | dsimp only

theorem Chip.loseResponses_fr {f : Frame} {a c : Chip} {d_} {ps_} (h : Fr f a c) (hp_doors : Part.doors ∈ f.parts) (hp_reqs : Part.reqs ∈ f.parts) :
    Fr f a (Chip.loseResponses c d_ ps_) := by
  unfold Chip.loseResponses
  repeat' first
    | with_reducible assumption
    | with_reducible apply Chip.updDoorReqs_fr
    | with_reducible exact fun _ => ⟨rfl, rfl, rfl⟩
    | with_reducible exact fun _ => DoorSt.push_same _ _
    | intro _
    | split
    | (extract_lets +onlyGivenNames x; refine (fun hx : Fr f a x => ?_) ?_; (on_goal 1 => clear_value x); (on_goal 2 => subst x))
    | (extract_lets +onlyGivenNames x; refine (fun hx : Fr f a x.2 => ?_) ?_; (on_goal 1 => clear_value x); (on_goal 2 => subst x))
    | (extract_lets +onlyGivenNames x; clear_value x)
    | dsimp only

theorem Chip.loseSpill_fr {f : Frame} {a c : Chip} {fs_} {keep_} (h : Fr f a c) (hp_trunk : Part.trunk ∈ f.parts) (hr_TRK_SPILL : f.regs .TRK_SPILL = true) :
    Fr f a (Chip.loseSpill c fs_ keep_) := by
  unfold Chip.loseSpill
  repeat' first
    | with_reducible assumption
    | with_reducible apply Chip.incSat_fr
    | with_reducible apply Chip.updTrunk_fr
    | with_reducible apply Chip.syncSpill_fr
    | intro _
    | split
    | (extract_lets +onlyGivenNames x; refine (fun hx : Fr f a x => ?_) ?_; (on_goal 1 => clear_value x); (on_goal 2 => subst x))
    | (extract_lets +onlyGivenNames x; refine (fun hx : Fr f a x.2 => ?_) ?_; (on_goal 1 => clear_value x); (on_goal 2 => subst x))
    | (extract_lets +onlyGivenNames x; clear_value x)
    | dsimp only

theorem Chip.queueEmpty_fr {f : Frame} {a c : Chip} {r_} (h : Fr f a c) (hp_clk : Part.clk ∈ f.parts) (hp_trunk : Part.trunk ∈ f.parts) (hp_doors : Part.doors ∈ f.parts) (hp_reqs : Part.reqs ∈ f.parts) (hp_cullet : Part.cullet ∈ f.parts) (hp_ports : Part.ports ∈ f.parts) (hp_svc : Part.svc ∈ f.parts) (hp_bead : Part.bead ∈ f.parts) (hr_GLB_FAULT : f.regs .GLB_FAULT = true) (hr_TRK_SPILL : f.regs .TRK_SPILL = true) :
    Fr f a (Chip.queueEmpty c r_) := by
  unfold Chip.queueEmpty
  repeat' first
    | with_reducible assumption
    | with_reducible apply Chip.reapStreams_fr
    | with_reducible apply Chip.updStrm_fr
    | with_reducible apply Chip.loseSpill_fr
    | with_reducible apply Chip.loseRequests_fr
    | with_reducible apply Chip.loseResponses_fr
    | with_reducible apply Chip.loseEvents_fr
    | with_reducible apply Chip.updDoor_fr
    | with_reducible exact fun _ => ⟨rfl, rfl, rfl⟩
    | with_reducible exact fun _ => DoorSt.push_same _ _
    | intro _
    | split
    | (extract_lets +onlyGivenNames x; refine (fun hx : Fr f a x => ?_) ?_; (on_goal 1 => clear_value x); (on_goal 2 => subst x))
    | (extract_lets +onlyGivenNames x; refine (fun hx : Fr f a x.2 => ?_) ?_; (on_goal 1 => clear_value x); (on_goal 2 => subst x))
    | (extract_lets +onlyGivenNames x; clear_value x)
    | with_reducible refine Fr.cullet ?_ ?_ _
    | dsimp only

theorem Chip.queueClose_fr {f : Frame} {a c : Chip} {r_} (h : Fr f a c) (hp_trunk : Part.trunk ∈ f.parts) (hp_doors : Part.doors ∈ f.parts) (hp_reqs : Part.reqs ∈ f.parts) (hp_rates : Part.rates ∈ f.parts) (hp_pond : Part.pond ∈ f.parts) (hp_engines : Part.engines ∈ f.parts) (hp_basins : Part.basins ∈ f.parts) (hp_ports : Part.ports ∈ f.parts) (hp_svc : Part.svc ∈ f.parts) (hp_pwr : Part.pwr ∈ f.parts) (hr_HOLDER_USED : ∀ n, f.regs (.HOLDER_USED n) = true) (hr_POND_FREE : f.regs .POND_FREE = true) (hr_POND_STATUS : f.regs .POND_STATUS = true) (hr_POND_WAIT : f.regs .POND_WAIT = true) (hr_PWR_STATUS : f.regs .PWR_STATUS = true) (hr_SVC_STATUS : f.regs .SVC_STATUS = true) :
    Fr f a (Chip.queueClose c r_) := by
  unfold Chip.queueClose
  repeat' first
    | with_reducible assumption
    | with_reducible exact hr_HOLDER_USED _
    | with_reducible apply Chip.closeStream_fr
    | with_reducible apply Chip.updTrunk_fr
    | with_reducible apply Chip.release_fr
    | intro _
    | split
    | (extract_lets +onlyGivenNames x; refine (fun hx : Fr f a x => ?_) ?_; (on_goal 1 => clear_value x); (on_goal 2 => subst x))
    | (extract_lets +onlyGivenNames x; refine (fun hx : Fr f a x.2 => ?_) ?_; (on_goal 1 => clear_value x); (on_goal 2 => subst x))
    | (extract_lets +onlyGivenNames x; clear_value x)
    | dsimp only

theorem Chip.queueLadder_fr {f : Frame} {a c : Chip} {q_} {r_} (h : Fr f a c) (hp_clk : Part.clk ∈ f.parts) (hp_fl : Part.fl ∈ f.parts) (hp_fw : Part.fw ∈ f.parts) (hp_trunk : Part.trunk ∈ f.parts) (hp_doors : Part.doors ∈ f.parts) (hp_reqs : Part.reqs ∈ f.parts) (hp_cullet : Part.cullet ∈ f.parts) (hp_rates : Part.rates ∈ f.parts) (hp_svcPort : Part.svcPort ∈ f.parts) (hp_pond : Part.pond ∈ f.parts) (hp_engines : Part.engines ∈ f.parts) (hp_basins : Part.basins ∈ f.parts) (hp_ports : Part.ports ∈ f.parts) (hp_chans : Part.chans ∈ f.parts) (hp_rails : Part.rails ∈ f.parts) (hp_sei : Part.sei ∈ f.parts) (hp_svc : Part.svc ∈ f.parts) (hp_pwr : Part.pwr ∈ f.parts) (hp_bead : Part.bead ∈ f.parts) (hp_fab : Part.fab ∈ f.parts) (hp_ladders : Part.ladders ∈ f.parts) (hall : ∀ r, f.regs r = true) :
    Fr f a (Chip.queueLadder c q_ r_) := by
  unfold Chip.queueLadder
  repeat' first
    | with_reducible assumption
    | with_reducible exact hall _
    | with_reducible exact fun _ => hall _
    | with_reducible exact fun _ _ => hall _
    | with_reducible apply Chip.openLadder_fr
    | with_reducible apply Chip.deviceReset_fr
    | with_reducible apply Chip.escalate_fr
    | with_reducible apply Chip.queueClose_fr
    | intro _
    | split
    | (extract_lets +onlyGivenNames x; refine (fun hx : Fr f a x => ?_) ?_; (on_goal 1 => clear_value x); (on_goal 2 => subst x))
    | (extract_lets +onlyGivenNames x; refine (fun hx : Fr f a x.2 => ?_) ?_; (on_goal 1 => clear_value x); (on_goal 2 => subst x))
    | (extract_lets +onlyGivenNames x; clear_value x)
    | dsimp only

theorem Chip.queueReset_fr {f : Frame} {a c : Chip} {q_} (h : Fr f a c) (hp_clk : Part.clk ∈ f.parts) (hp_fl : Part.fl ∈ f.parts) (hp_fw : Part.fw ∈ f.parts) (hp_trunk : Part.trunk ∈ f.parts) (hp_doors : Part.doors ∈ f.parts) (hp_reqs : Part.reqs ∈ f.parts) (hp_cullet : Part.cullet ∈ f.parts) (hp_rates : Part.rates ∈ f.parts) (hp_svcPort : Part.svcPort ∈ f.parts) (hp_pond : Part.pond ∈ f.parts) (hp_engines : Part.engines ∈ f.parts) (hp_basins : Part.basins ∈ f.parts) (hp_ports : Part.ports ∈ f.parts) (hp_chans : Part.chans ∈ f.parts) (hp_rails : Part.rails ∈ f.parts) (hp_sei : Part.sei ∈ f.parts) (hp_svc : Part.svc ∈ f.parts) (hp_pwr : Part.pwr ∈ f.parts) (hp_bead : Part.bead ∈ f.parts) (hp_fab : Part.fab ∈ f.parts) (hp_ladders : Part.ladders ∈ f.parts) (hall : ∀ r, f.regs r = true) :
    Fr f a (Chip.queueReset c q_) := by
  unfold Chip.queueReset
  repeat' first
    | with_reducible assumption
    | with_reducible exact hall _
    | with_reducible exact fun _ => hall _
    | with_reducible exact fun _ _ => hall _
    | with_reducible apply Chip.bump_fr
    | with_reducible apply Fr.wr
    | with_reducible apply Chip.postFault_fr
    | with_reducible apply Chip.queueEmpty_fr
    | with_reducible apply Chip.queueLadder_fr
    | intro _
    | split
    | (extract_lets +onlyGivenNames x; refine (fun hx : Fr f a x => ?_) ?_; (on_goal 1 => clear_value x); (on_goal 2 => subst x))
    | (extract_lets +onlyGivenNames x; refine (fun hx : Fr f a x.2 => ?_) ?_; (on_goal 1 => clear_value x); (on_goal 2 => subst x))
    | (extract_lets +onlyGivenNames x; clear_value x)
    | dsimp only

theorem Chip.skipItem_fr {f : Frame} {a c : Chip} {r_} (h : Fr f a c) (hp_clk : Part.clk ∈ f.parts) (hp_trunk : Part.trunk ∈ f.parts) (hp_doors : Part.doors ∈ f.parts) (hp_reqs : Part.reqs ∈ f.parts) (hp_cullet : Part.cullet ∈ f.parts) (hp_ports : Part.ports ∈ f.parts) (hp_svc : Part.svc ∈ f.parts) (hp_bead : Part.bead ∈ f.parts) (hr_GLB_FAULT : f.regs .GLB_FAULT = true) (hr_TRK_SPILL : f.regs .TRK_SPILL = true) :
    Fr f a (Chip.skipItem c r_) := by
  unfold Chip.skipItem
  repeat' first
    | with_reducible assumption
    | with_reducible apply Chip.updStrm_fr
    | with_reducible apply Chip.loseSpill_fr
    | with_reducible apply Chip.loseRequests_fr
    | with_reducible apply Chip.loseResponses_fr
    | with_reducible apply Chip.loseEvents_fr
    | with_reducible apply Chip.updDoor_fr
    | with_reducible exact fun _ => ⟨rfl, rfl, rfl⟩
    | with_reducible exact fun _ => DoorSt.push_same _ _
    | intro _
    | split
    | (extract_lets +onlyGivenNames x; refine (fun hx : Fr f a x => ?_) ?_; (on_goal 1 => clear_value x); (on_goal 2 => subst x))
    | (extract_lets +onlyGivenNames x; refine (fun hx : Fr f a x.2 => ?_) ?_; (on_goal 1 => clear_value x); (on_goal 2 => subst x))
    | (extract_lets +onlyGivenNames x; clear_value x)
    | with_reducible refine Fr.cullet ?_ ?_ _
    | dsimp only

/-! ### Machine/Line.lean -/

theorem Chip.serveLine_fr {f : Frame} {a c : Chip} {q_} {op_} {body_} (h : Fr f a c) (hb_body : ∀ x0 x1 x2, Fr f a x2 → Fr f a (body_ x0 x1 x2)) (hp_trunk : Part.trunk ∈ f.parts) (hp_doors : Part.doors ∈ f.parts) (hp_reqs : Part.reqs ∈ f.parts) (hp_rates : Part.rates ∈ f.parts) (hp_basins : Part.basins ∈ f.parts) (hp_ports : Part.ports ∈ f.parts) (hp_pwr : Part.pwr ∈ f.parts) (hr_PWR_STATUS : f.regs .PWR_STATUS = true) :
    Fr f a (Chip.serveLine c q_ op_ body_) := by
  unfold Chip.serveLine
  repeat' first
    | with_reducible assumption
    | with_reducible apply hb_body
    | with_reducible apply Chip.servePort_fr
    | with_reducible apply Chip.answer_fr
    | intro _
    | split
    | (extract_lets +onlyGivenNames x; refine (fun hx : Fr f a x => ?_) ?_; (on_goal 1 => clear_value x); (on_goal 2 => subst x))
    | (extract_lets +onlyGivenNames x; refine (fun hx : Fr f a x.2 => ?_) ?_; (on_goal 1 => clear_value x); (on_goal 2 => subst x))
    | (extract_lets +onlyGivenNames x; clear_value x)
    | dsimp only

theorem Chip.serveAddr_fr {f : Frame} {a c : Chip} {q_} {op_} {body_} (h : Fr f a c) (hb_body : ∀ x0 x1 x2, Fr f a x2 → Fr f a (body_ x0 x1 x2)) (hp_trunk : Part.trunk ∈ f.parts) (hp_doors : Part.doors ∈ f.parts) (hp_reqs : Part.reqs ∈ f.parts) (hp_rates : Part.rates ∈ f.parts) (hp_basins : Part.basins ∈ f.parts) (hp_ports : Part.ports ∈ f.parts) (hp_pwr : Part.pwr ∈ f.parts) (hr_PWR_STATUS : f.regs .PWR_STATUS = true) :
    Fr f a (Chip.serveAddr c q_ op_ body_) := by
  unfold Chip.serveAddr
  repeat' first
    | with_reducible assumption
    | with_reducible apply hb_body
    | with_reducible apply Chip.serveNode_fr
    | with_reducible apply Chip.answer_fr
    | intro _
    | split
    | (extract_lets +onlyGivenNames x; refine (fun hx : Fr f a x => ?_) ?_; (on_goal 1 => clear_value x); (on_goal 2 => subst x))
    | (extract_lets +onlyGivenNames x; refine (fun hx : Fr f a x.2 => ?_) ?_; (on_goal 1 => clear_value x); (on_goal 2 => subst x))
    | (extract_lets +onlyGivenNames x; clear_value x)
    | dsimp only

theorem Chip.takeUlp_fr {f : Frame} {a c : Chip} {n_} {kind_} {src_} (h : Fr f a c) (hp_ports : Part.ports ∈ f.parts) :
    Fr f a (Chip.takeUlp c n_ kind_ src_) := by
  unfold Chip.takeUlp
  repeat' first
    | with_reducible assumption
    | with_reducible apply Chip.updLine_fr
    | intro _
    | split
    | (extract_lets +onlyGivenNames x; refine (fun hx : Fr f a x => ?_) ?_; (on_goal 1 => clear_value x); (on_goal 2 => subst x))
    | (extract_lets +onlyGivenNames x; refine (fun hx : Fr f a x.2 => ?_) ?_; (on_goal 1 => clear_value x); (on_goal 2 => subst x))
    | (extract_lets +onlyGivenNames x; clear_value x)
    | dsimp only

theorem Chip.announced_fr {f : Frame} {a c : Chip} {n_} {r_} {es_} (h : Fr f a c) (hp_trunk : Part.trunk ∈ f.parts) (hp_doors : Part.doors ∈ f.parts) (hp_reqs : Part.reqs ∈ f.parts) (hp_rates : Part.rates ∈ f.parts) (hp_pond : Part.pond ∈ f.parts) (hp_engines : Part.engines ∈ f.parts) (hp_ports : Part.ports ∈ f.parts) (hr_HOLDER_USED : ∀ n, f.regs (.HOLDER_USED n) = true) (hr_POND_FREE : f.regs .POND_FREE = true) (hr_POND_STATUS : f.regs .POND_STATUS = true) (hr_POND_WAIT : f.regs .POND_WAIT = true) :
    Fr f a (Chip.announced c n_ r_ es_) := by
  unfold Chip.announced
  repeat' first
    | with_reducible assumption
    | with_reducible exact hr_HOLDER_USED _
    | with_reducible refine Chip.alloc_fr ‹_› ?_ ?_ ?_ ?_ ?_ ?_ ?_
    | with_reducible apply Chip.alloc_fr2
    | with_reducible apply Chip.removeNode_fr
    | with_reducible apply Fr.each
    | with_reducible apply Chip.engWrite_fr
    | with_reducible apply Chip.updNodeBody_fr
    | with_reducible apply Chip.updNode_fr
    | with_reducible apply Chip.post_fr
    | with_reducible refine Fr.ofIte ‹_› ?_ ?_
    | intro _
    | split
    | (extract_lets +onlyGivenNames x; refine (fun hx : Fr f a x => ?_) ?_; (on_goal 1 => clear_value x); (on_goal 2 => subst x))
    | (extract_lets +onlyGivenNames x; refine (fun hx : Fr f a x.2 => ?_) ?_; (on_goal 1 => clear_value x); (on_goal 2 => subst x))
    | (extract_lets +onlyGivenNames x; clear_value x)
    | dsimp only

theorem Chip.attemptLost_fr {f : Frame} {a c : Chip} {n_} {i_} {b_} {err_} (h : Fr f a c) (hp_trunk : Part.trunk ∈ f.parts) (hp_doors : Part.doors ∈ f.parts) (hp_reqs : Part.reqs ∈ f.parts) (hp_rates : Part.rates ∈ f.parts) (hp_ports : Part.ports ∈ f.parts) (hp_fab : Part.fab ∈ f.parts) (hp_free : Part.free ∈ f.parts) (hr_LINE_CTL : ∀ n, f.regs (.LINE_CTL n) = true) (hr_LINE_DBT : ∀ n, f.regs (.LINE_DBT n) = true) (hr_LINE_NBT : ∀ n, f.regs (.LINE_NBT n) = true) (hr_LINE_TDC : ∀ n, f.regs (.LINE_TDC n) = true) :
    Fr f a (Chip.attemptLost c n_ i_ b_ err_) := by
  unfold Chip.attemptLost
  repeat' first
    | with_reducible assumption
    | with_reducible exact hr_LINE_CTL _
    | with_reducible exact hr_LINE_DBT _
    | with_reducible exact hr_LINE_NBT _
    | with_reducible exact hr_LINE_TDC _
    | with_reducible apply Chip.finishTx_fr
    | with_reducible apply Chip.applyTimingDue_fr
    | with_reducible apply Chip.updLine_fr
    | intro _
    | split
    | (extract_lets +onlyGivenNames x; refine (fun hx : Fr f a x => ?_) ?_; (on_goal 1 => clear_value x); (on_goal 2 => subst x))
    | (extract_lets +onlyGivenNames x; refine (fun hx : Fr f a x.2 => ?_) ?_; (on_goal 1 => clear_value x); (on_goal 2 => subst x))
    | (extract_lets +onlyGivenNames x; clear_value x)
    | dsimp only

/-! ### Machine/PdFam.lean -/

theorem Chip.servePd_fr {f : Frame} {a c : Chip} {q_} {op_} {body_} (h : Fr f a c) (hb_body : ∀ x0 x1, Fr f a x1 → Fr f a (body_ x0 x1)) (hp_trunk : Part.trunk ∈ f.parts) (hp_doors : Part.doors ∈ f.parts) (hp_reqs : Part.reqs ∈ f.parts) (hp_rates : Part.rates ∈ f.parts) (hp_basins : Part.basins ∈ f.parts) (hp_ports : Part.ports ∈ f.parts) (hp_pwr : Part.pwr ∈ f.parts) (hr_PWR_STATUS : f.regs .PWR_STATUS = true) :
    Fr f a (Chip.servePd c q_ op_ body_) := by
  unfold Chip.servePd
  repeat' first
    | with_reducible assumption
    | with_reducible apply hb_body
    | with_reducible apply Chip.servePort_fr
    | with_reducible apply Chip.answer_fr
    | intro _
    | split
    | (extract_lets +onlyGivenNames x; refine (fun hx : Fr f a x => ?_) ?_; (on_goal 1 => clear_value x); (on_goal 2 => subst x))
    | (extract_lets +onlyGivenNames x; refine (fun hx : Fr f a x.2 => ?_) ?_; (on_goal 1 => clear_value x); (on_goal 2 => subst x))
    | (extract_lets +onlyGivenNames x; clear_value x)
    | dsimp only

theorem Chip.pdReturn_fr {f : Frame} {a c : Chip} {n_} {r_} (h : Fr f a c) (hp_ports : Part.ports ∈ f.parts) (hr_PD_STATUS : ∀ n, f.regs (.PD_STATUS n) = true) :
    Fr f a (Chip.pdReturn c n_ r_) := by
  unfold Chip.pdReturn
  repeat' first
    | with_reducible assumption
    | with_reducible exact hr_PD_STATUS _
    | with_reducible apply Chip.updPd_fr
    | with_reducible apply Chip.setPd_fr
    | intro _
    | split
    | (extract_lets +onlyGivenNames x; refine (fun hx : Fr f a x => ?_) ?_; (on_goal 1 => clear_value x); (on_goal 2 => subst x))
    | (extract_lets +onlyGivenNames x; refine (fun hx : Fr f a x.2 => ?_) ?_; (on_goal 1 => clear_value x); (on_goal 2 => subst x))
    | (extract_lets +onlyGivenNames x; clear_value x)
    | dsimp only

theorem Chip.pdDecide_fr {f : Frame} {a c : Chip} {n_} (h : Fr f a c) (hp_ports : Part.ports ∈ f.parts) (hr_PD_STATUS : ∀ n, f.regs (.PD_STATUS n) = true) :
    Fr f a (Chip.pdDecide c n_) := by
  unfold Chip.pdDecide
  repeat' first
    | with_reducible assumption
    | with_reducible exact hr_PD_STATUS _
    | with_reducible apply Chip.pdReturn_fr
    | with_reducible apply Chip.pdOwnEnd_fr
    | with_reducible apply Chip.pdSend_fr
    | with_reducible apply Chip.updPd_fr
    | with_reducible apply Chip.setPd_fr
    | intro _
    | split
    | (extract_lets +onlyGivenNames x; refine (fun hx : Fr f a x => ?_) ?_; (on_goal 1 => clear_value x); (on_goal 2 => subst x))
    | (extract_lets +onlyGivenNames x; refine (fun hx : Fr f a x.2 => ?_) ?_; (on_goal 1 => clear_value x); (on_goal 2 => subst x))
    | (extract_lets +onlyGivenNames x; clear_value x)
    | dsimp only

theorem Chip.pdDecideAll_fr {f : Frame} {a c : Chip}  (h : Fr f a c) (hp_ports : Part.ports ∈ f.parts) (hr_PD_STATUS : ∀ n, f.regs (.PD_STATUS n) = true) :
    Fr f a (Chip.pdDecideAll c) := by
  unfold Chip.pdDecideAll
  repeat' first
    | with_reducible assumption
    | with_reducible exact hr_PD_STATUS _
    | with_reducible apply Fr.each
    | with_reducible apply Chip.pdDecide_fr
    | intro _
    | split
    | (extract_lets +onlyGivenNames x; refine (fun hx : Fr f a x => ?_) ?_; (on_goal 1 => clear_value x); (on_goal 2 => subst x))
    | (extract_lets +onlyGivenNames x; refine (fun hx : Fr f a x.2 => ?_) ?_; (on_goal 1 => clear_value x); (on_goal 2 => subst x))
    | (extract_lets +onlyGivenNames x; clear_value x)
    | dsimp only

theorem Chip.statusFaulty_fr {f : Frame} {a c : Chip} {n_} {w_} (h : Fr f a c) (hp_clk : Part.clk ∈ f.parts) (hp_trunk : Part.trunk ∈ f.parts) (hp_doors : Part.doors ∈ f.parts) (hp_reqs : Part.reqs ∈ f.parts) (hp_rates : Part.rates ∈ f.parts) (hp_pond : Part.pond ∈ f.parts) (hp_engines : Part.engines ∈ f.parts) (hp_basins : Part.basins ∈ f.parts) (hp_ports : Part.ports ∈ f.parts) (hp_svc : Part.svc ∈ f.parts) (hp_pwr : Part.pwr ∈ f.parts) (hp_bead : Part.bead ∈ f.parts) (hr_DROP_SCHED : ∀ n, f.regs (.DROP_SCHED n) = true) (hr_DROP_STATUS : ∀ n, f.regs (.DROP_STATUS n) = true) (hr_GLB_FAULT : f.regs .GLB_FAULT = true) (hr_HOLDER_USED : ∀ n, f.regs (.HOLDER_USED n) = true) (hr_PD_STATUS : ∀ n, f.regs (.PD_STATUS n) = true) (hr_PD_VOUT : ∀ n, f.regs (.PD_VOUT n) = true) (hr_POND_FREE : f.regs .POND_FREE = true) (hr_POND_STATUS : f.regs .POND_STATUS = true) (hr_POND_WAIT : f.regs .POND_WAIT = true) (hr_PWR_STATUS : f.regs .PWR_STATUS = true) (hr_SVC_STATUS : f.regs .SVC_STATUS = true) :
    Fr f a (Chip.statusFaulty c n_ w_) := by
  unfold Chip.statusFaulty
  repeat' first
    | with_reducible assumption
    | with_reducible exact hr_DROP_SCHED _
    | with_reducible exact hr_DROP_STATUS _
    | with_reducible exact hr_HOLDER_USED _
    | with_reducible exact hr_PD_STATUS _
    | with_reducible exact hr_PD_VOUT _
    | with_reducible apply Chip.convFault_fr
    | with_reducible apply Chip.pmbSend_fr
    | intro _
    | split
    | (extract_lets +onlyGivenNames x; refine (fun hx : Fr f a x => ?_) ?_; (on_goal 1 => clear_value x); (on_goal 2 => subst x))
    | (extract_lets +onlyGivenNames x; refine (fun hx : Fr f a x.2 => ?_) ?_; (on_goal 1 => clear_value x); (on_goal 2 => subst x))
    | (extract_lets +onlyGivenNames x; clear_value x)
    | dsimp only

theorem Chip.statusRead_fr {f : Frame} {a c : Chip} {n_} {w_} (h : Fr f a c) (hp_clk : Part.clk ∈ f.parts) (hp_trunk : Part.trunk ∈ f.parts) (hp_doors : Part.doors ∈ f.parts) (hp_reqs : Part.reqs ∈ f.parts) (hp_rates : Part.rates ∈ f.parts) (hp_pond : Part.pond ∈ f.parts) (hp_engines : Part.engines ∈ f.parts) (hp_basins : Part.basins ∈ f.parts) (hp_ports : Part.ports ∈ f.parts) (hp_svc : Part.svc ∈ f.parts) (hp_pwr : Part.pwr ∈ f.parts) (hp_bead : Part.bead ∈ f.parts) (hr_DROP_SCHED : ∀ n, f.regs (.DROP_SCHED n) = true) (hr_DROP_STATUS : ∀ n, f.regs (.DROP_STATUS n) = true) (hr_GLB_FAULT : f.regs .GLB_FAULT = true) (hr_HOLDER_USED : ∀ n, f.regs (.HOLDER_USED n) = true) (hr_PD_STATUS : ∀ n, f.regs (.PD_STATUS n) = true) (hr_PD_VOUT : ∀ n, f.regs (.PD_VOUT n) = true) (hr_POND_FREE : f.regs .POND_FREE = true) (hr_POND_STATUS : f.regs .POND_STATUS = true) (hr_POND_WAIT : f.regs .POND_WAIT = true) (hr_PWR_STATUS : f.regs .PWR_STATUS = true) (hr_SVC_STATUS : f.regs .SVC_STATUS = true) :
    Fr f a (Chip.statusRead c n_ w_) := by
  unfold Chip.statusRead
  repeat' first
    | with_reducible assumption
    | with_reducible exact hr_DROP_SCHED _
    | with_reducible exact hr_DROP_STATUS _
    | with_reducible exact hr_HOLDER_USED _
    | with_reducible exact hr_PD_STATUS _
    | with_reducible exact hr_PD_VOUT _
    | with_reducible apply Chip.updPd_fr
    | with_reducible apply Chip.statusFaulty_fr
    | intro _
    | split
    | (extract_lets +onlyGivenNames x; refine (fun hx : Fr f a x => ?_) ?_; (on_goal 1 => clear_value x); (on_goal 2 => subst x))
    | (extract_lets +onlyGivenNames x; refine (fun hx : Fr f a x.2 => ?_) ?_; (on_goal 1 => clear_value x); (on_goal 2 => subst x))
    | (extract_lets +onlyGivenNames x; clear_value x)
    | dsimp only

theorem Chip.takeVconn_fr {f : Frame} {a c : Chip} {n_} (h : Fr f a c) (hp_ports : Part.ports ∈ f.parts) (hr_PD_STATUS : ∀ n, f.regs (.PD_STATUS n) = true) :
    Fr f a (Chip.takeVconn c n_) := by
  unfold Chip.takeVconn
  repeat' first
    | with_reducible assumption
    | with_reducible exact hr_PD_STATUS _
    | with_reducible apply Chip.pdSend_fr
    | with_reducible apply Chip.vconn_fr
    | intro _
    | split
    | (extract_lets +onlyGivenNames x; refine (fun hx : Fr f a x => ?_) ?_; (on_goal 1 => clear_value x); (on_goal 2 => subst x))
    | (extract_lets +onlyGivenNames x; refine (fun hx : Fr f a x.2 => ?_) ?_; (on_goal 1 => clear_value x); (on_goal 2 => subst x))
    | (extract_lets +onlyGivenNames x; clear_value x)
    | dsimp only

theorem Chip.swapOver_fr {f : Frame} {a c : Chip} {n_} (h : Fr f a c) (hp_ports : Part.ports ∈ f.parts) (hr_PD_STATUS : ∀ n, f.regs (.PD_STATUS n) = true) :
    Fr f a (Chip.swapOver c n_) := by
  unfold Chip.swapOver
  repeat' first
    | with_reducible assumption
    | with_reducible exact hr_PD_STATUS _
    | with_reducible apply Chip.swapIdle_fr
    | with_reducible apply Chip.pdOwn_fr
    | with_reducible apply Chip.discover_fr
    | intro _
    | split
    | (extract_lets +onlyGivenNames x; refine (fun hx : Fr f a x => ?_) ?_; (on_goal 1 => clear_value x); (on_goal 2 => subst x))
    | (extract_lets +onlyGivenNames x; refine (fun hx : Fr f a x.2 => ?_) ?_; (on_goal 1 => clear_value x); (on_goal 2 => subst x))
    | (extract_lets +onlyGivenNames x; clear_value x)
    | dsimp only

theorem Chip.giveVconn_fr {f : Frame} {a c : Chip} {n_} (h : Fr f a c) (hp_ports : Part.ports ∈ f.parts) (hr_PD_STATUS : ∀ n, f.regs (.PD_STATUS n) = true) :
    Fr f a (Chip.giveVconn c n_) := by
  unfold Chip.giveVconn
  repeat' first
    | with_reducible assumption
    | with_reducible exact hr_PD_STATUS _
    | with_reducible apply Chip.swapRuns_fr
    | with_reducible apply Chip.updPd_fr
    | intro _
    | split
    | (extract_lets +onlyGivenNames x; refine (fun hx : Fr f a x => ?_) ?_; (on_goal 1 => clear_value x); (on_goal 2 => subst x))
    | (extract_lets +onlyGivenNames x; refine (fun hx : Fr f a x.2 => ?_) ?_; (on_goal 1 => clear_value x); (on_goal 2 => subst x))
    | (extract_lets +onlyGivenNames x; clear_value x)
    | dsimp only

theorem Chip.noDiscovery_fr {f : Frame} {a c : Chip} {n_} (h : Fr f a c) (hp_ports : Part.ports ∈ f.parts) :
    Fr f a (Chip.noDiscovery c n_) := by
  unfold Chip.noDiscovery
  repeat' first
    | with_reducible assumption
    | with_reducible apply Chip.updPd_fr
    | intro _
    | split
    | (extract_lets +onlyGivenNames x; refine (fun hx : Fr f a x => ?_) ?_; (on_goal 1 => clear_value x); (on_goal 2 => subst x))
    | (extract_lets +onlyGivenNames x; refine (fun hx : Fr f a x.2 => ?_) ?_; (on_goal 1 => clear_value x); (on_goal 2 => subst x))
    | (extract_lets +onlyGivenNames x; clear_value x)
    | dsimp only

theorem Chip.swapAnswer_fr {f : Frame} {a c : Chip} {n_} {m_} (h : Fr f a c) (hp_trunk : Part.trunk ∈ f.parts) (hp_doors : Part.doors ∈ f.parts) (hp_reqs : Part.reqs ∈ f.parts) (hp_rates : Part.rates ∈ f.parts) (hp_ports : Part.ports ∈ f.parts) (hr_PD_STATUS : ∀ n, f.regs (.PD_STATUS n) = true) :
    Fr f a (Chip.swapAnswer c n_ m_) := by
  unfold Chip.swapAnswer
  repeat' first
    | with_reducible assumption
    | with_reducible exact hr_PD_STATUS _
    | with_reducible apply Chip.giveVconn_fr
    | with_reducible apply Chip.swapOver_fr
    | with_reducible apply Chip.swapReport_fr
    | with_reducible apply Chip.takeVconn_fr
    | with_reducible apply Chip.updPd_fr
    | with_reducible apply Chip.noDiscovery_fr
    | with_reducible apply Chip.swapIdle_fr
    | intro _
    | split
    | (extract_lets +onlyGivenNames x; refine (fun hx : Fr f a x => ?_) ?_; (on_goal 1 => clear_value x); (on_goal 2 => subst x))
    | (extract_lets +onlyGivenNames x; refine (fun hx : Fr f a x.2 => ?_) ?_; (on_goal 1 => clear_value x); (on_goal 2 => subst x))
    | (extract_lets +onlyGivenNames x; clear_value x)
    | dsimp only

theorem Chip.capsOut_fr {f : Frame} {a c : Chip} {n_} (h : Fr f a c) (hp_doors : Part.doors ∈ f.parts) (hp_ports : Part.ports ∈ f.parts) :
    Fr f a (Chip.capsOut c n_) := by
  unfold Chip.capsOut
  repeat' first
    | with_reducible assumption
    | with_reducible apply Chip.pdCapsSent_fr
    | with_reducible apply Chip.updPd_fr
    | intro _
    | split
    | (extract_lets +onlyGivenNames x; refine (fun hx : Fr f a x => ?_) ?_; (on_goal 1 => clear_value x); (on_goal 2 => subst x))
    | (extract_lets +onlyGivenNames x; refine (fun hx : Fr f a x.2 => ?_) ?_; (on_goal 1 => clear_value x); (on_goal 2 => subst x))
    | (extract_lets +onlyGivenNames x; clear_value x)
    | dsimp only

theorem Chip.eprEnd_fr {f : Frame} {a c : Chip} {n_} (h : Fr f a c) (hp_ports : Part.ports ∈ f.parts) (hr_PD_STATUS : ∀ n, f.regs (.PD_STATUS n) = true) :
    Fr f a (Chip.eprEnd c n_) := by
  unfold Chip.eprEnd
  repeat' first
    | with_reducible assumption
    | with_reducible exact hr_PD_STATUS _
    | with_reducible apply Chip.setSt_fr
    | with_reducible apply Chip.updPd_fr
    | intro _
    | split
    | (extract_lets +onlyGivenNames x; refine (fun hx : Fr f a x => ?_) ?_; (on_goal 1 => clear_value x); (on_goal 2 => subst x))
    | (extract_lets +onlyGivenNames x; refine (fun hx : Fr f a x.2 => ?_) ?_; (on_goal 1 => clear_value x); (on_goal 2 => subst x))
    | (extract_lets +onlyGivenNames x; clear_value x)
    | dsimp only

theorem Chip.offerSet_fr {f : Frame} {a c : Chip} {n_} (h : Fr f a c) (hp_doors : Part.doors ∈ f.parts) (hp_ports : Part.ports ∈ f.parts) (hr_PD_STATUS : ∀ n, f.regs (.PD_STATUS n) = true) :
    Fr f a (Chip.offerSet c n_) := by
  unfold Chip.offerSet
  repeat' first
    | with_reducible assumption
    | with_reducible exact hr_PD_STATUS _
    | with_reducible apply Chip.updPd_fr
    | with_reducible apply Chip.pdSend_fr
    | with_reducible apply Chip.eprEnd_fr
    | with_reducible apply Chip.updSt_fr
    | with_reducible apply Chip.capsOut_fr
    | with_reducible apply Chip.pdBudget_fr
    | intro _
    | split
    | (extract_lets +onlyGivenNames x; refine (fun hx : Fr f a x => ?_) ?_; (on_goal 1 => clear_value x); (on_goal 2 => subst x))
    | (extract_lets +onlyGivenNames x; refine (fun hx : Fr f a x.2 => ?_) ?_; (on_goal 1 => clear_value x); (on_goal 2 => subst x))
    | (extract_lets +onlyGivenNames x; clear_value x)
    | dsimp only

/-! ### Machine/PondFam.lean -/

theorem Chip.bareAlloc_fr {f : Frame} {a c : Chip} {h_} {typ_} {size_} (h : Fr f a c) (hp_doors : Part.doors ∈ f.parts) (hp_rates : Part.rates ∈ f.parts) (hp_pond : Part.pond ∈ f.parts) (hr_HOLDER_USED : ∀ n, f.regs (.HOLDER_USED n) = true) (hr_POND_FREE : f.regs .POND_FREE = true) (hr_POND_STATUS : f.regs .POND_STATUS = true) :
    Fr f a (Chip.bareAlloc c h_ typ_ size_) := by
  unfold Chip.bareAlloc
  repeat' first
    | with_reducible assumption
    | with_reducible exact hr_HOLDER_USED _
    | with_reducible apply Chip.updPond_fr
    | with_reducible refine Chip.alloc_fr ‹_› ?_ ?_ ?_ ?_ ?_ ?_ ?_
    | with_reducible apply Chip.alloc_fr2
    | with_reducible refine Fr.ofIte ‹_› ?_ ?_
    | intro _
    | split
    | (extract_lets +onlyGivenNames x; refine (fun hx : Fr f a x => ?_) ?_; (on_goal 1 => clear_value x); (on_goal 2 => subst x))
    | (extract_lets +onlyGivenNames x; refine (fun hx : Fr f a x.2 => ?_) ?_; (on_goal 1 => clear_value x); (on_goal 2 => subst x))
    | (extract_lets +onlyGivenNames x; clear_value x)
    | dsimp only

theorem Chip.bareBulk_fr {f : Frame} {a c : Chip} {h_} {typ_} (h : Fr f a c) (hp_doors : Part.doors ∈ f.parts) (hp_rates : Part.rates ∈ f.parts) (hp_pond : Part.pond ∈ f.parts) (hp_engines : Part.engines ∈ f.parts) (hr_HOLDER_USED : ∀ n, f.regs (.HOLDER_USED n) = true) (hr_POND_FREE : f.regs .POND_FREE = true) (hr_POND_STATUS : f.regs .POND_STATUS = true) (hr_POND_WAIT : f.regs .POND_WAIT = true) :
    Fr f a (Chip.bareBulk c h_ typ_) := by
  unfold Chip.bareBulk
  repeat' first
    | with_reducible assumption
    | with_reducible exact hr_HOLDER_USED _
    | with_reducible apply Chip.bulkFree_fr
    | intro _
    | split
    | (extract_lets +onlyGivenNames x; refine (fun hx : Fr f a x => ?_) ?_; (on_goal 1 => clear_value x); (on_goal 2 => subst x))
    | (extract_lets +onlyGivenNames x; refine (fun hx : Fr f a x.2 => ?_) ?_; (on_goal 1 => clear_value x); (on_goal 2 => subst x))
    | (extract_lets +onlyGivenNames x; clear_value x)
    | dsimp only

/-! ### Machine/PondUe.lean -/

theorem Chip.ueDevice_fr {f : Frame} {a c : Chip} {n_} {dev_} (h : Fr f a c) (hp_trunk : Part.trunk ∈ f.parts) (hp_doors : Part.doors ∈ f.parts) (hp_reqs : Part.reqs ∈ f.parts) (hp_rates : Part.rates ∈ f.parts) (hp_pond : Part.pond ∈ f.parts) (hp_engines : Part.engines ∈ f.parts) (hp_basins : Part.basins ∈ f.parts) (hp_ports : Part.ports ∈ f.parts) (hp_svc : Part.svc ∈ f.parts) (hp_pwr : Part.pwr ∈ f.parts) (hr_DROP_SCHED : ∀ n, f.regs (.DROP_SCHED n) = true) (hr_DROP_STATUS : ∀ n, f.regs (.DROP_STATUS n) = true) (hr_HOLDER_USED : ∀ n, f.regs (.HOLDER_USED n) = true) (hr_POND_FREE : f.regs .POND_FREE = true) (hr_POND_STATUS : f.regs .POND_STATUS = true) (hr_POND_WAIT : f.regs .POND_WAIT = true) (hr_PWR_STATUS : f.regs .PWR_STATUS = true) (hr_SVC_STATUS : f.regs .SVC_STATUS = true) :
    Fr f a (Chip.ueDevice c n_ dev_) := by
  unfold Chip.ueDevice
  repeat' first
    | with_reducible assumption
    | with_reducible exact hr_DROP_SCHED _
    | with_reducible exact hr_DROP_STATUS _
    | with_reducible exact hr_HOLDER_USED _
    | with_reducible apply Chip.detach_fr
    | with_reducible apply Chip.startReset_fr
    | with_reducible apply Chip.nextEnum_fr
    | with_reducible apply Chip.attachBelow_fr
    | intro _
    | split
    | (extract_lets +onlyGivenNames x; refine (fun hx : Fr f a x => ?_) ?_; (on_goal 1 => clear_value x); (on_goal 2 => subst x))
    | (extract_lets +onlyGivenNames x; refine (fun hx : Fr f a x.2 => ?_) ?_; (on_goal 1 => clear_value x); (on_goal 2 => subst x))
    | (extract_lets +onlyGivenNames x; clear_value x)
    | dsimp only

theorem Chip.bindAgain_fr {f : Frame} {a c : Chip} {b_} (h : Fr f a c) (hp_trunk : Part.trunk ∈ f.parts) (hp_doors : Part.doors ∈ f.parts) (hp_reqs : Part.reqs ∈ f.parts) (hp_rates : Part.rates ∈ f.parts) (hp_pond : Part.pond ∈ f.parts) (hp_engines : Part.engines ∈ f.parts) (hp_basins : Part.basins ∈ f.parts) (hp_ports : Part.ports ∈ f.parts) (hp_svc : Part.svc ∈ f.parts) (hp_pwr : Part.pwr ∈ f.parts) (hr_HOLDER_USED : ∀ n, f.regs (.HOLDER_USED n) = true) (hr_POND_FREE : f.regs .POND_FREE = true) (hr_POND_STATUS : f.regs .POND_STATUS = true) (hr_POND_WAIT : f.regs .POND_WAIT = true) (hr_PWR_STATUS : f.regs .PWR_STATUS = true) (hr_SVC_STATUS : f.regs .SVC_STATUS = true) :
    Fr f a (Chip.bindAgain c b_) := by
  unfold Chip.bindAgain
  repeat' first
    | with_reducible assumption
    | with_reducible exact hr_HOLDER_USED _
    | with_reducible apply Chip.tryBind_fr
    | with_reducible apply Chip.pendBind_fr
    | intro _
    | split
    | (extract_lets +onlyGivenNames x; refine (fun hx : Fr f a x => ?_) ?_; (on_goal 1 => clear_value x); (on_goal 2 => subst x))
    | (extract_lets +onlyGivenNames x; refine (fun hx : Fr f a x.2 => ?_) ?_; (on_goal 1 => clear_value x); (on_goal 2 => subst x))
    | (extract_lets +onlyGivenNames x; clear_value x)
    | dsimp only

theorem Chip.ueService_fr {f : Frame} {a c : Chip} {cid_} (h : Fr f a c) (hp_trunk : Part.trunk ∈ f.parts) (hp_doors : Part.doors ∈ f.parts) (hp_reqs : Part.reqs ∈ f.parts) (hp_rates : Part.rates ∈ f.parts) (hp_pond : Part.pond ∈ f.parts) (hp_engines : Part.engines ∈ f.parts) (hp_basins : Part.basins ∈ f.parts) (hp_ports : Part.ports ∈ f.parts) (hp_svc : Part.svc ∈ f.parts) (hp_pwr : Part.pwr ∈ f.parts) (hr_HOLDER_USED : ∀ n, f.regs (.HOLDER_USED n) = true) (hr_POND_FREE : f.regs .POND_FREE = true) (hr_POND_STATUS : f.regs .POND_STATUS = true) (hr_POND_WAIT : f.regs .POND_WAIT = true) (hr_PWR_STATUS : f.regs .PWR_STATUS = true) (hr_SVC_STATUS : f.regs .SVC_STATUS = true) :
    Fr f a (Chip.ueService c cid_) := by
  unfold Chip.ueService
  repeat' first
    | with_reducible assumption
    | with_reducible exact hr_HOLDER_USED _
    | with_reducible apply Chip.endBinds_fr
    | with_reducible apply Fr.each
    | with_reducible apply Chip.bindAgain_fr
    | with_reducible apply Chip.dropCtls_fr
    | with_reducible apply Chip.updPond_fr
    | intro _
    | split
    | (extract_lets +onlyGivenNames x; refine (fun hx : Fr f a x => ?_) ?_; (on_goal 1 => clear_value x); (on_goal 2 => subst x))
    | (extract_lets +onlyGivenNames x; refine (fun hx : Fr f a x.2 => ?_) ?_; (on_goal 1 => clear_value x); (on_goal 2 => subst x))
    | (extract_lets +onlyGivenNames x; clear_value x)
    | dsimp only

theorem Chip.ueMark_fr {f : Frame} {a c : Chip} {cid_} {x_} (h : Fr f a c) (hp_sei : Part.sei ∈ f.parts) :
    Fr f a (Chip.ueMark c cid_ x_) := by
  unfold Chip.ueMark
  repeat' first
    | with_reducible assumption
    | with_reducible apply Chip.updBelt_fr
    | intro _
    | split
    | (extract_lets +onlyGivenNames x; refine (fun hx : Fr f a x => ?_) ?_; (on_goal 1 => clear_value x); (on_goal 2 => subst x))
    | (extract_lets +onlyGivenNames x; refine (fun hx : Fr f a x.2 => ?_) ?_; (on_goal 1 => clear_value x); (on_goal 2 => subst x))
    | (extract_lets +onlyGivenNames x; clear_value x)
    | dsimp only

theorem Chip.uePage_fr {f : Frame} {a c : Chip} {cid_} {b_} (h : Fr f a c) (hp_pond : Part.pond ∈ f.parts) (hp_svc : Part.svc ∈ f.parts) :
    Fr f a (Chip.uePage c cid_ b_) := by
  unfold Chip.uePage
  repeat' first
    | with_reducible assumption
    | with_reducible apply Chip.updSvc_fr
    | with_reducible apply Chip.setBody_fr
    | intro _
    | split
    | (extract_lets +onlyGivenNames x; refine (fun hx : Fr f a x => ?_) ?_; (on_goal 1 => clear_value x); (on_goal 2 => subst x))
    | (extract_lets +onlyGivenNames x; refine (fun hx : Fr f a x.2 => ?_) ?_; (on_goal 1 => clear_value x); (on_goal 2 => subst x))
    | (extract_lets +onlyGivenNames x; clear_value x)
    | dsimp only

theorem Chip.ueAct_fr {f : Frame} {a c : Chip} {cid_} {x_} (h : Fr f a c) (hp_trunk : Part.trunk ∈ f.parts) (hp_doors : Part.doors ∈ f.parts) (hp_reqs : Part.reqs ∈ f.parts) (hp_rates : Part.rates ∈ f.parts) (hp_pond : Part.pond ∈ f.parts) (hp_engines : Part.engines ∈ f.parts) (hp_basins : Part.basins ∈ f.parts) (hp_ports : Part.ports ∈ f.parts) (hp_sei : Part.sei ∈ f.parts) (hp_svc : Part.svc ∈ f.parts) (hp_pwr : Part.pwr ∈ f.parts) (hr_DROP_SCHED : ∀ n, f.regs (.DROP_SCHED n) = true) (hr_DROP_STATUS : ∀ n, f.regs (.DROP_STATUS n) = true) (hr_HOLDER_USED : ∀ n, f.regs (.HOLDER_USED n) = true) (hr_POND_FREE : f.regs .POND_FREE = true) (hr_POND_STATUS : f.regs .POND_STATUS = true) (hr_POND_WAIT : f.regs .POND_WAIT = true) (hr_PWR_STATUS : f.regs .PWR_STATUS = true) (hr_SVC_STATUS : f.regs .SVC_STATUS = true) :
    Fr f a (Chip.ueAct c cid_ x_) := by
  unfold Chip.ueAct
  repeat' first
    | with_reducible assumption
    | with_reducible exact hr_DROP_SCHED _
    | with_reducible exact hr_DROP_STATUS _
    | with_reducible exact hr_HOLDER_USED _
    | with_reducible apply Chip.ueDevice_fr
    | with_reducible apply Chip.removeNode_fr
    | with_reducible apply Chip.closeStream_fr
    | with_reducible apply Chip.ueMark_fr
    | with_reducible apply Chip.ueService_fr
    | with_reducible apply Chip.uePage_fr
    | intro _
    | split
    | (extract_lets +onlyGivenNames x; refine (fun hx : Fr f a x => ?_) ?_; (on_goal 1 => clear_value x); (on_goal 2 => subst x))
    | (extract_lets +onlyGivenNames x; refine (fun hx : Fr f a x.2 => ?_) ?_; (on_goal 1 => clear_value x); (on_goal 2 => subst x))
    | (extract_lets +onlyGivenNames x; clear_value x)
    | dsimp only

theorem Chip.ueSecond_fr {f : Frame} {a c : Chip} {w_} (h : Fr f a c) (hp_clk : Part.clk ∈ f.parts) (hp_fl : Part.fl ∈ f.parts) (hp_fw : Part.fw ∈ f.parts) (hp_trunk : Part.trunk ∈ f.parts) (hp_doors : Part.doors ∈ f.parts) (hp_reqs : Part.reqs ∈ f.parts) (hp_rates : Part.rates ∈ f.parts) (hp_pond : Part.pond ∈ f.parts) (hp_engines : Part.engines ∈ f.parts) (hp_basins : Part.basins ∈ f.parts) (hp_ports : Part.ports ∈ f.parts) (hp_chans : Part.chans ∈ f.parts) (hp_sei : Part.sei ∈ f.parts) (hp_svc : Part.svc ∈ f.parts) (hp_pwr : Part.pwr ∈ f.parts) (hp_bead : Part.bead ∈ f.parts) (hp_fab : Part.fab ∈ f.parts) (hp_free : Part.free ∈ f.parts) (hr_CH_CMD : ∀ n, f.regs (.CH_CMD n) = true) (hr_CH_STATUS : ∀ n, f.regs (.CH_STATUS n) = true) (hr_DROP_SCHED : ∀ n, f.regs (.DROP_SCHED n) = true) (hr_DROP_STATUS : ∀ n, f.regs (.DROP_STATUS n) = true) (hr_DROP_XFER_ERR : ∀ n, f.regs (.DROP_XFER_ERR n) = true) (hr_ESC_LAST : f.regs .ESC_LAST = true) (hr_GLB_FAULT : f.regs .GLB_FAULT = true) (hr_HOLDER_USED : ∀ n, f.regs (.HOLDER_USED n) = true) (hr_LINE_CNT : ∀ n, f.regs (.LINE_CNT n) = true) (hr_LINE_CTL : ∀ n, f.regs (.LINE_CTL n) = true) (hr_LINE_DBT : ∀ n, f.regs (.LINE_DBT n) = true) (hr_LINE_ERR : ∀ n, f.regs (.LINE_ERR n) = true) (hr_LINE_NBT : ∀ n, f.regs (.LINE_NBT n) = true) (hr_LINE_TDC : ∀ n, f.regs (.LINE_TDC n) = true) (hr_POND_FREE : f.regs .POND_FREE = true) (hr_POND_STATUS : f.regs .POND_STATUS = true) (hr_POND_WAIT : f.regs .POND_WAIT = true) (hr_PWR_STATUS : f.regs .PWR_STATUS = true) (hr_SVC_STATUS : f.regs .SVC_STATUS = true) (hr_TRK_ERR : ∀ n, f.regs (.TRK_ERR n) = true) (hr_TRK_SPILL : f.regs .TRK_SPILL = true) (hr_TRK_STATUS : f.regs .TRK_STATUS = true) :
    Fr f a (Chip.ueSecond c w_) := by
  unfold Chip.ueSecond
  repeat' first
    | with_reducible assumption
    | with_reducible exact hr_CH_CMD _
    | with_reducible exact hr_CH_STATUS _
    | with_reducible exact hr_DROP_SCHED _
    | with_reducible exact hr_DROP_STATUS _
    | with_reducible exact hr_DROP_XFER_ERR _
    | with_reducible exact hr_HOLDER_USED _
    | with_reducible exact hr_LINE_CNT _
    | with_reducible exact hr_LINE_CTL _
    | with_reducible exact hr_LINE_DBT _
    | with_reducible exact hr_LINE_ERR _
    | with_reducible exact hr_LINE_NBT _
    | with_reducible exact hr_LINE_TDC _
    | with_reducible exact hr_TRK_ERR _
    | with_reducible apply Chip.escalate_fr
    | with_reducible apply Chip.startScope_fr
    | intro _
    | split
    | (extract_lets +onlyGivenNames x; refine (fun hx : Fr f a x => ?_) ?_; (on_goal 1 => clear_value x); (on_goal 2 => subst x))
    | (extract_lets +onlyGivenNames x; refine (fun hx : Fr f a x.2 => ?_) ?_; (on_goal 1 => clear_value x); (on_goal 2 => subst x))
    | (extract_lets +onlyGivenNames x; clear_value x)
    | dsimp only

theorem Chip.pondUe_fr {f : Frame} {a c : Chip} {cid_} (h : Fr f a c) (hp_clk : Part.clk ∈ f.parts) (hp_fl : Part.fl ∈ f.parts) (hp_fw : Part.fw ∈ f.parts) (hp_trunk : Part.trunk ∈ f.parts) (hp_doors : Part.doors ∈ f.parts) (hp_reqs : Part.reqs ∈ f.parts) (hp_rates : Part.rates ∈ f.parts) (hp_pond : Part.pond ∈ f.parts) (hp_engines : Part.engines ∈ f.parts) (hp_basins : Part.basins ∈ f.parts) (hp_ports : Part.ports ∈ f.parts) (hp_chans : Part.chans ∈ f.parts) (hp_sei : Part.sei ∈ f.parts) (hp_svc : Part.svc ∈ f.parts) (hp_pwr : Part.pwr ∈ f.parts) (hp_bead : Part.bead ∈ f.parts) (hp_fab : Part.fab ∈ f.parts) (hp_free : Part.free ∈ f.parts) (hr_CH_CMD : ∀ n, f.regs (.CH_CMD n) = true) (hr_CH_STATUS : ∀ n, f.regs (.CH_STATUS n) = true) (hr_DROP_SCHED : ∀ n, f.regs (.DROP_SCHED n) = true) (hr_DROP_STATUS : ∀ n, f.regs (.DROP_STATUS n) = true) (hr_DROP_XFER_ERR : ∀ n, f.regs (.DROP_XFER_ERR n) = true) (hr_ESC_LAST : f.regs .ESC_LAST = true) (hr_GLB_FAULT : f.regs .GLB_FAULT = true) (hr_HOLDER_USED : ∀ n, f.regs (.HOLDER_USED n) = true) (hr_LINE_CNT : ∀ n, f.regs (.LINE_CNT n) = true) (hr_LINE_CTL : ∀ n, f.regs (.LINE_CTL n) = true) (hr_LINE_DBT : ∀ n, f.regs (.LINE_DBT n) = true) (hr_LINE_ERR : ∀ n, f.regs (.LINE_ERR n) = true) (hr_LINE_NBT : ∀ n, f.regs (.LINE_NBT n) = true) (hr_LINE_TDC : ∀ n, f.regs (.LINE_TDC n) = true) (hr_POND_ERR_CID : f.regs .POND_ERR_CID = true) (hr_POND_FREE : f.regs .POND_FREE = true) (hr_POND_POISONED : f.regs .POND_POISONED = true) (hr_POND_STATUS : f.regs .POND_STATUS = true) (hr_POND_WAIT : f.regs .POND_WAIT = true) (hr_PWR_STATUS : f.regs .PWR_STATUS = true) (hr_SVC_STATUS : f.regs .SVC_STATUS = true) (hr_TRK_ERR : ∀ n, f.regs (.TRK_ERR n) = true) (hr_TRK_SPILL : f.regs .TRK_SPILL = true) (hr_TRK_STATUS : f.regs .TRK_STATUS = true) :
    Fr f a (Chip.pondUe c cid_) := by
  unfold Chip.pondUe
  repeat' first
    | with_reducible assumption
    | with_reducible exact hr_CH_CMD _
    | with_reducible exact hr_CH_STATUS _
    | with_reducible exact hr_DROP_SCHED _
    | with_reducible exact hr_DROP_STATUS _
    | with_reducible exact hr_DROP_XFER_ERR _
    | with_reducible exact hr_HOLDER_USED _
    | with_reducible exact hr_LINE_CNT _
    | with_reducible exact hr_LINE_CTL _
    | with_reducible exact hr_LINE_DBT _
    | with_reducible exact hr_LINE_ERR _
    | with_reducible exact hr_LINE_NBT _
    | with_reducible exact hr_LINE_TDC _
    | with_reducible exact hr_TRK_ERR _
    | with_reducible apply Chip.ueSecond_fr
    | with_reducible apply Chip.updPond_fr
    | with_reducible apply Chip.poison_fr
    | with_reducible apply Chip.setF_fr
    | with_reducible apply Chip.bump_fr
    | with_reducible apply Chip.record_fr
    | with_reducible apply Chip.postR_fr
    | with_reducible apply Chip.fault_fr
    | with_reducible apply Chip.ueAct_fr
    | intro _
    | split
    | (extract_lets +onlyGivenNames x; refine (fun hx : Fr f a x => ?_) ?_; (on_goal 1 => clear_value x); (on_goal 2 => subst x))
    | (extract_lets +onlyGivenNames x; refine (fun hx : Fr f a x.2 => ?_) ?_; (on_goal 1 => clear_value x); (on_goal 2 => subst x))
    | (extract_lets +onlyGivenNames x; clear_value x)
    | dsimp only

theorem Chip.pondCe_fr {f : Frame} {a c : Chip} {cid_} {word_} (h : Fr f a c) (hp_clk : Part.clk ∈ f.parts) (hp_doors : Part.doors ∈ f.parts) (hp_rates : Part.rates ∈ f.parts) (hp_bead : Part.bead ∈ f.parts) (hr_GLB_FAULT : f.regs .GLB_FAULT = true) (hr_POND_CE_COUNT : f.regs .POND_CE_COUNT = true) (hr_POND_STATUS : f.regs .POND_STATUS = true) :
    Fr f a (Chip.pondCe c cid_ word_) := by
  unfold Chip.pondCe
  repeat' first
    | with_reducible assumption
    | with_reducible apply Fr.wr
    | with_reducible apply Chip.record_fr
    | with_reducible apply Chip.postRate_fr
    | with_reducible apply Chip.fault_fr
    | intro _
    | split
    | (extract_lets +onlyGivenNames x; refine (fun hx : Fr f a x => ?_) ?_; (on_goal 1 => clear_value x); (on_goal 2 => subst x))
    | (extract_lets +onlyGivenNames x; refine (fun hx : Fr f a x.2 => ?_) ?_; (on_goal 1 => clear_value x); (on_goal 2 => subst x))
    | (extract_lets +onlyGivenNames x; clear_value x)
    | dsimp only

theorem Chip.runHeld_fr {f : Frame} {a c : Chip} {r_} (h : Fr f a c) (hp_trunk : Part.trunk ∈ f.parts) (hp_doors : Part.doors ∈ f.parts) (hp_reqs : Part.reqs ∈ f.parts) (hp_rates : Part.rates ∈ f.parts) (hp_pond : Part.pond ∈ f.parts) (hp_engines : Part.engines ∈ f.parts) (hp_ports : Part.ports ∈ f.parts) (hr_DROP_STATUS : ∀ n, f.regs (.DROP_STATUS n) = true) (hr_HOLDER_USED : ∀ n, f.regs (.HOLDER_USED n) = true) (hr_POND_FREE : f.regs .POND_FREE = true) (hr_POND_STATUS : f.regs .POND_STATUS = true) (hr_POND_WAIT : f.regs .POND_WAIT = true) :
    Fr f a (Chip.runHeld c r_) := by
  unfold Chip.runHeld
  repeat' first
    | with_reducible assumption
    | with_reducible exact hr_DROP_STATUS _
    | with_reducible exact hr_HOLDER_USED _
    | with_reducible apply Chip.bareAlloc_fr
    | with_reducible apply Chip.bareBulk_fr
    | with_reducible apply Fr.each
    | with_reducible apply Chip.freeCtx_fr
    | with_reducible apply Chip.enumGroup_fr
    | with_reducible apply Chip.treeLeaves_fr
    | with_reducible apply Chip.post_fr
    | with_reducible apply Chip.answer_fr
    | intro _
    | split
    | (extract_lets +onlyGivenNames x; refine (fun hx : Fr f a x => ?_) ?_; (on_goal 1 => clear_value x); (on_goal 2 => subst x))
    | (extract_lets +onlyGivenNames x; refine (fun hx : Fr f a x.2 => ?_) ?_; (on_goal 1 => clear_value x); (on_goal 2 => subst x))
    | (extract_lets +onlyGivenNames x; clear_value x)
    | dsimp only

/-! ### Machine/PortPwr.lean -/

theorem Chip.modesGo_fr {f : Frame} {a c : Chip} {d_} (h : Fr f a c) (hp_fl : Part.fl ∈ f.parts) (hp_trunk : Part.trunk ∈ f.parts) (hp_doors : Part.doors ∈ f.parts) (hp_reqs : Part.reqs ∈ f.parts) (hp_rates : Part.rates ∈ f.parts) (hp_pond : Part.pond ∈ f.parts) (hp_engines : Part.engines ∈ f.parts) (hp_basins : Part.basins ∈ f.parts) (hp_ports : Part.ports ∈ f.parts) (hp_chans : Part.chans ∈ f.parts) (hp_svc : Part.svc ∈ f.parts) (hp_pwr : Part.pwr ∈ f.parts) (hp_fab : Part.fab ∈ f.parts) (hp_free : Part.free ∈ f.parts) (hall : ∀ r, f.regs r = true) :
    Fr f a (Chip.modesGo c d_) := by
  unfold Chip.modesGo
  repeat' first
    | with_reducible assumption
    | with_reducible exact hall _
    | with_reducible exact fun _ => hall _
    | with_reducible exact fun _ _ => hall _
    | with_reducible apply Fr.each
    | with_reducible apply Chip.startMode_fr
    | intro _
    | split
    | (extract_lets +onlyGivenNames x; refine (fun hx : Fr f a x => ?_) ?_; (on_goal 1 => clear_value x); (on_goal 2 => subst x))
    | (extract_lets +onlyGivenNames x; refine (fun hx : Fr f a x.2 => ?_) ?_; (on_goal 1 => clear_value x); (on_goal 2 => subst x))
    | (extract_lets +onlyGivenNames x; clear_value x)
    | dsimp only

theorem Chip.linkFrame_fr {f : Frame} {a c : Chip} {d_} {toBad_} {fromBad_} {chs_} {rails_} (h : Fr f a c) (hp_fl : Part.fl ∈ f.parts) (hp_trunk : Part.trunk ∈ f.parts) (hp_doors : Part.doors ∈ f.parts) (hp_reqs : Part.reqs ∈ f.parts) (hp_rates : Part.rates ∈ f.parts) (hp_pond : Part.pond ∈ f.parts) (hp_engines : Part.engines ∈ f.parts) (hp_basins : Part.basins ∈ f.parts) (hp_ports : Part.ports ∈ f.parts) (hp_chans : Part.chans ∈ f.parts) (hp_rails : Part.rails ∈ f.parts) (hp_svc : Part.svc ∈ f.parts) (hp_pwr : Part.pwr ∈ f.parts) (hp_fab : Part.fab ∈ f.parts) (hp_free : Part.free ∈ f.parts) (hall : ∀ r, f.regs r = true) :
    Fr f a (Chip.linkFrame c d_ toBad_ fromBad_ chs_ rails_) := by
  unfold Chip.linkFrame
  repeat' first
    | with_reducible assumption
    | with_reducible exact hall _
    | with_reducible exact fun _ => hall _
    | with_reducible exact fun _ _ => hall _
    | with_reducible apply Chip.dieSample_fr
    | with_reducible apply Chip.updFl_fr
    | with_reducible apply Chip.fuseTake_fr
    | with_reducible apply Chip.mirrorDie_fr
    | with_reducible apply Chip.modesGo_fr
    | intro _
    | split
    | (extract_lets +onlyGivenNames x; refine (fun hx : Fr f a x => ?_) ?_; (on_goal 1 => clear_value x); (on_goal 2 => subst x))
    | (extract_lets +onlyGivenNames x; refine (fun hx : Fr f a x.2 => ?_) ?_; (on_goal 1 => clear_value x); (on_goal 2 => subst x))
    | (extract_lets +onlyGivenNames x; clear_value x)
    | dsimp only

theorem Chip.enterFuseHold_fr {f : Frame} {a c : Chip} {d_} (h : Fr f a c) (hp_clk : Part.clk ∈ f.parts) (hp_fl : Part.fl ∈ f.parts) (hp_doors : Part.doors ∈ f.parts) (hp_bead : Part.bead ∈ f.parts) (hr_ESC_LAST : f.regs .ESC_LAST = true) (hr_GLB_FAULT : f.regs .GLB_FAULT = true) :
    Fr f a (Chip.enterFuseHold c d_) := by
  unfold Chip.enterFuseHold
  repeat' first
    | with_reducible assumption
    | with_reducible apply Chip.updFl_fr
    | with_reducible apply Chip.postFault_fr
    | with_reducible apply Chip.escalate_fr
    | intro _
    | split
    | (extract_lets +onlyGivenNames x; refine (fun hx : Fr f a x => ?_) ?_; (on_goal 1 => clear_value x); (on_goal 2 => subst x))
    | (extract_lets +onlyGivenNames x; refine (fun hx : Fr f a x.2 => ?_) ?_; (on_goal 1 => clear_value x); (on_goal 2 => subst x))
    | (extract_lets +onlyGivenNames x; clear_value x)
    | dsimp only

theorem Chip.railPd_fr {f : Frame} {a c : Chip} {j_} {ov_} (h : Fr f a c) (hp_ports : Part.ports ∈ f.parts) :
    Fr f a (Chip.railPd c j_ ov_) := by
  unfold Chip.railPd
  repeat' first
    | with_reducible assumption
    | with_reducible apply Fr.each
    | with_reducible apply Chip.pdRail_fr
    | intro _
    | split
    | (extract_lets +onlyGivenNames x; refine (fun hx : Fr f a x => ?_) ?_; (on_goal 1 => clear_value x); (on_goal 2 => subst x))
    | (extract_lets +onlyGivenNames x; refine (fun hx : Fr f a x.2 => ?_) ?_; (on_goal 1 => clear_value x); (on_goal 2 => subst x))
    | (extract_lets +onlyGivenNames x; clear_value x)
    | dsimp only

/-! ### Machine/Power.lean -/

theorem Chip.refused_fr {f : Frame} {a c : Chip} {k_} {stage_} {target_} (h : Fr f a c) (hp_doors : Part.doors ∈ f.parts) (hp_rates : Part.rates ∈ f.parts) (hr_PWR_REFUSE : f.regs .PWR_REFUSE = true) :
    Fr f a (Chip.refused c k_ stage_ target_) := by
  unfold Chip.refused
  repeat' first
    | with_reducible assumption
    | with_reducible apply Fr.wr
    | with_reducible apply Chip.postRate_fr
    | intro _
    | split
    | (extract_lets +onlyGivenNames x; refine (fun hx : Fr f a x => ?_) ?_; (on_goal 1 => clear_value x); (on_goal 2 => subst x))
    | (extract_lets +onlyGivenNames x; refine (fun hx : Fr f a x.2 => ?_) ?_; (on_goal 1 => clear_value x); (on_goal 2 => subst x))
    | (extract_lets +onlyGivenNames x; clear_value x)
    | dsimp only

theorem Chip.withdrawTime_fr {f : Frame} {a c : Chip} {n_} (h : Fr f a c) (hp_ports : Part.ports ∈ f.parts) :
    Fr f a (Chip.withdrawTime c n_) := by
  unfold Chip.withdrawTime
  repeat' first
    | with_reducible assumption
    | with_reducible apply Chip.updLine_fr
    | intro _
    | split
    | (extract_lets +onlyGivenNames x; refine (fun hx : Fr f a x => ?_) ?_; (on_goal 1 => clear_value x); (on_goal 2 => subst x))
    | (extract_lets +onlyGivenNames x; refine (fun hx : Fr f a x.2 => ?_) ?_; (on_goal 1 => clear_value x); (on_goal 2 => subst x))
    | (extract_lets +onlyGivenNames x; clear_value x)
    | dsimp only

theorem Chip.entryQuiet_fr {f : Frame} {a c : Chip} {target_} {req_} (h : Fr f a c) (hp_trunk : Part.trunk ∈ f.parts) (hp_ports : Part.ports ∈ f.parts) (hp_pwr : Part.pwr ∈ f.parts) (hp_fab : Part.fab ∈ f.parts) (hr_CW_STATUS : f.regs .CW_STATUS = true) (hr_DROP_STATUS : ∀ n, f.regs (.DROP_STATUS n) = true) :
    Fr f a (Chip.entryQuiet c target_ req_) := by
  unfold Chip.entryQuiet
  repeat' first
    | with_reducible assumption
    | with_reducible exact hr_DROP_STATUS _
    | with_reducible apply Chip.updPwr_fr
    | with_reducible apply Fr.each
    | with_reducible apply Chip.startSuspend_fr
    | with_reducible apply Chip.updDrop_fr
    | with_reducible apply Chip.withdrawTime_fr
    | with_reducible apply Chip.syncCw_fr
    | with_reducible apply Chip.updTrunk_fr
    | intro _
    | split
    | (extract_lets +onlyGivenNames x; refine (fun hx : Fr f a x => ?_) ?_; (on_goal 1 => clear_value x); (on_goal 2 => subst x))
    | (extract_lets +onlyGivenNames x; refine (fun hx : Fr f a x.2 => ?_) ?_; (on_goal 1 => clear_value x); (on_goal 2 => subst x))
    | (extract_lets +onlyGivenNames x; clear_value x)
    | dsimp only

theorem Chip.reachSleep_fr {f : Frame} {a c : Chip}  (h : Fr f a c) (hp_pond : Part.pond ∈ f.parts) (hp_engines : Part.engines ∈ f.parts) (hp_ports : Part.ports ∈ f.parts) (hp_sei : Part.sei ∈ f.parts) (hp_svc : Part.svc ∈ f.parts) (hp_pwr : Part.pwr ∈ f.parts) (hr_BELT_STATUS : ∀ n, f.regs (.BELT_STATUS n) = true) :
    Fr f a (Chip.reachSleep c) := by
  unfold Chip.reachSleep
  repeat' first
    | with_reducible assumption
    | with_reducible exact hr_BELT_STATUS _
    | with_reducible apply Chip.culletRecs_fr
    | with_reducible apply Fr.each
    | with_reducible apply Chip.unloadBelt_fr
    | with_reducible apply Chip.updPwr_fr
    | with_reducible apply Chip.updSei_fr
    | intro _
    | split
    | (extract_lets +onlyGivenNames x; refine (fun hx : Fr f a x => ?_) ?_; (on_goal 1 => clear_value x); (on_goal 2 => subst x))
    | (extract_lets +onlyGivenNames x; refine (fun hx : Fr f a x.2 => ?_) ?_; (on_goal 1 => clear_value x); (on_goal 2 => subst x))
    | (extract_lets +onlyGivenNames x; clear_value x)
    | with_reducible refine Fr.ports ?_ ?_ _
    | dsimp only

theorem Chip.retain_fr {f : Frame} {a c : Chip}  (h : Fr f a c) (hp_fl : Part.fl ∈ f.parts) (hp_trunk : Part.trunk ∈ f.parts) (hp_sei : Part.sei ∈ f.parts) (hp_pwr : Part.pwr ∈ f.parts) (hr_TRK_STATUS : f.regs .TRK_STATUS = true) :
    Fr f a (Chip.retain c) := by
  unfold Chip.retain
  repeat' first
    | with_reducible assumption
    | with_reducible apply Chip.updTrunk_fr
    | with_reducible apply Chip.setUp_fr
    | with_reducible apply Chip.updPwr_fr
    | with_reducible apply Chip.updSei_fr
    | with_reducible apply Chip.syncTrunk_fr
    | intro _
    | split
    | (extract_lets +onlyGivenNames x; refine (fun hx : Fr f a x => ?_) ?_; (on_goal 1 => clear_value x); (on_goal 2 => subst x))
    | (extract_lets +onlyGivenNames x; refine (fun hx : Fr f a x.2 => ?_) ?_; (on_goal 1 => clear_value x); (on_goal 2 => subst x))
    | (extract_lets +onlyGivenNames x; clear_value x)
    | with_reducible refine Fr.fl ?_ ?_ _
    | dsimp only

theorem Chip.powerResume_fr {f : Frame} {a c : Chip}  (h : Fr f a c) (hp_ports : Part.ports ∈ f.parts) :
    Fr f a (Chip.powerResume c) := by
  unfold Chip.powerResume
  repeat' first
    | with_reducible assumption
    | with_reducible apply Fr.each
    | with_reducible apply Chip.startResume_fr
    | intro _
    | split
    | (extract_lets +onlyGivenNames x; refine (fun hx : Fr f a x => ?_) ?_; (on_goal 1 => clear_value x); (on_goal 2 => subst x))
    | (extract_lets +onlyGivenNames x; refine (fun hx : Fr f a x.2 => ?_) ?_; (on_goal 1 => clear_value x); (on_goal 2 => subst x))
    | (extract_lets +onlyGivenNames x; clear_value x)
    | dsimp only

theorem Chip.pdResume_fr {f : Frame} {a c : Chip}  (h : Fr f a c) (hp_ports : Part.ports ∈ f.parts) :
    Fr f a (Chip.pdResume c) := by
  unfold Chip.pdResume
  repeat' first
    | with_reducible assumption
    | with_reducible apply Fr.each
    | with_reducible apply Chip.updPd_fr
    | intro _
    | split
    | (extract_lets +onlyGivenNames x; refine (fun hx : Fr f a x => ?_) ?_; (on_goal 1 => clear_value x); (on_goal 2 => subst x))
    | (extract_lets +onlyGivenNames x; refine (fun hx : Fr f a x.2 => ?_) ?_; (on_goal 1 => clear_value x); (on_goal 2 => subst x))
    | (extract_lets +onlyGivenNames x; clear_value x)
    | dsimp only

theorem Chip.linesResume_fr {f : Frame} {a c : Chip}  (h : Fr f a c) (hp_ports : Part.ports ∈ f.parts) (hp_pwr : Part.pwr ∈ f.parts) :
    Fr f a (Chip.linesResume c) := by
  unfold Chip.linesResume
  repeat' first
    | with_reducible assumption
    | with_reducible apply Chip.updPwr_fr
    | with_reducible apply Fr.each
    | with_reducible apply Chip.updLine_fr
    | with_reducible apply Chip.updPort_fr
    | intro _
    | split
    | (extract_lets +onlyGivenNames x; refine (fun hx : Fr f a x => ?_) ?_; (on_goal 1 => clear_value x); (on_goal 2 => subst x))
    | (extract_lets +onlyGivenNames x; refine (fun hx : Fr f a x.2 => ?_) ?_; (on_goal 1 => clear_value x); (on_goal 2 => subst x))
    | (extract_lets +onlyGivenNames x; clear_value x)
    | dsimp only

theorem Chip.abortEntry_fr {f : Frame} {a c : Chip} {e_} {k_} {stage_} (h : Fr f a c) (hp_clk : Part.clk ∈ f.parts) (hp_doors : Part.doors ∈ f.parts) (hp_rates : Part.rates ∈ f.parts) (hp_engines : Part.engines ∈ f.parts) (hp_basins : Part.basins ∈ f.parts) (hp_ports : Part.ports ∈ f.parts) (hp_sei : Part.sei ∈ f.parts) (hp_svc : Part.svc ∈ f.parts) (hp_pwr : Part.pwr ∈ f.parts) (hp_fab : Part.fab ∈ f.parts) (hr_CW_STATUS : f.regs .CW_STATUS = true) (hr_PWR_REFUSE : f.regs .PWR_REFUSE = true) (hr_PWR_STATUS : f.regs .PWR_STATUS = true) :
    Fr f a (Chip.abortEntry c e_ k_ stage_) := by
  unfold Chip.abortEntry
  repeat' first
    | with_reducible assumption
    | with_reducible apply Chip.refused_fr
    | with_reducible apply Chip.updClk_fr
    | with_reducible apply Chip.updPwr_fr
    | with_reducible apply Chip.powerResume_fr
    | with_reducible apply Chip.pdResume_fr
    | with_reducible apply Chip.linesResume_fr
    | with_reducible apply Chip.inDrainAll_fr
    | with_reducible apply Chip.active_fr
    | with_reducible apply Chip.syncCw_fr
    | intro _
    | split
    | (extract_lets +onlyGivenNames x; refine (fun hx : Fr f a x => ?_) ?_; (on_goal 1 => clear_value x); (on_goal 2 => subst x))
    | (extract_lets +onlyGivenNames x; refine (fun hx : Fr f a x.2 => ?_) ?_; (on_goal 1 => clear_value x); (on_goal 2 => subst x))
    | (extract_lets +onlyGivenNames x; clear_value x)
    | dsimp only

theorem Chip.entryNext_fr {f : Frame} {a c : Chip} {e_} {stage_} {step_} (h : Fr f a c) (hp_clk : Part.clk ∈ f.parts) (hp_doors : Part.doors ∈ f.parts) (hp_rates : Part.rates ∈ f.parts) (hp_engines : Part.engines ∈ f.parts) (hp_basins : Part.basins ∈ f.parts) (hp_ports : Part.ports ∈ f.parts) (hp_sei : Part.sei ∈ f.parts) (hp_svc : Part.svc ∈ f.parts) (hp_pwr : Part.pwr ∈ f.parts) (hp_fab : Part.fab ∈ f.parts) (hr_CW_STATUS : f.regs .CW_STATUS = true) (hr_PWR_REFUSE : f.regs .PWR_REFUSE = true) (hr_PWR_STATUS : f.regs .PWR_STATUS = true) :
    Fr f a (Chip.entryNext c e_ stage_ step_) := by
  unfold Chip.entryNext
  repeat' first
    | with_reducible assumption
    | with_reducible apply Chip.abortEntry_fr
    | with_reducible apply Chip.updPwr_fr
    | intro _
    | split
    | (extract_lets +onlyGivenNames x; refine (fun hx : Fr f a x => ?_) ?_; (on_goal 1 => clear_value x); (on_goal 2 => subst x))
    | (extract_lets +onlyGivenNames x; refine (fun hx : Fr f a x.2 => ?_) ?_; (on_goal 1 => clear_value x); (on_goal 2 => subst x))
    | (extract_lets +onlyGivenNames x; clear_value x)
    | dsimp only

theorem Chip.beginEntry_fr {f : Frame} {a c : Chip} {target_} {req_} (h : Fr f a c) (hp_clk : Part.clk ∈ f.parts) (hp_trunk : Part.trunk ∈ f.parts) (hp_doors : Part.doors ∈ f.parts) (hp_reqs : Part.reqs ∈ f.parts) (hp_rates : Part.rates ∈ f.parts) (hp_engines : Part.engines ∈ f.parts) (hp_basins : Part.basins ∈ f.parts) (hp_ports : Part.ports ∈ f.parts) (hp_sei : Part.sei ∈ f.parts) (hp_svc : Part.svc ∈ f.parts) (hp_pwr : Part.pwr ∈ f.parts) (hp_fab : Part.fab ∈ f.parts) (hr_CW_STATUS : f.regs .CW_STATUS = true) (hr_DROP_STATUS : ∀ n, f.regs (.DROP_STATUS n) = true) (hr_PWR_REFUSE : f.regs .PWR_REFUSE = true) (hr_PWR_STATUS : f.regs .PWR_STATUS = true) :
    Fr f a (Chip.beginEntry c target_ req_) := by
  unfold Chip.beginEntry
  repeat' first
    | with_reducible assumption
    | with_reducible exact hr_DROP_STATUS _
    | with_reducible apply Chip.entryNext_fr
    | with_reducible apply Chip.updPwr_fr
    | with_reducible apply Chip.answerOpt_fr
    | with_reducible apply Chip.refused_fr
    | with_reducible apply Chip.entryQuiet_fr
    | intro _
    | split
    | (extract_lets +onlyGivenNames x; refine (fun hx : Fr f a x => ?_) ?_; (on_goal 1 => clear_value x); (on_goal 2 => subst x))
    | (extract_lets +onlyGivenNames x; refine (fun hx : Fr f a x.2 => ?_) ?_; (on_goal 1 => clear_value x); (on_goal 2 => subst x))
    | (extract_lets +onlyGivenNames x; clear_value x)
    | dsimp only

theorem Chip.entryDone_fr {f : Frame} {a c : Chip}  (h : Fr f a c) (hp_pwr : Part.pwr ∈ f.parts) :
    Fr f a (Chip.entryDone c) := by
  unfold Chip.entryDone
  repeat' first
    | with_reducible assumption
    | with_reducible apply Chip.updPwr_fr
    | intro _
    | split
    | (extract_lets +onlyGivenNames x; refine (fun hx : Fr f a x => ?_) ?_; (on_goal 1 => clear_value x); (on_goal 2 => subst x))
    | (extract_lets +onlyGivenNames x; refine (fun hx : Fr f a x.2 => ?_) ?_; (on_goal 1 => clear_value x); (on_goal 2 => subst x))
    | (extract_lets +onlyGivenNames x; clear_value x)
    | dsimp only

theorem Chip.reachOff_fr {f : Frame} {a c : Chip}  (h : Fr f a c) (hp_clk : Part.clk ∈ f.parts) (hp_fl : Part.fl ∈ f.parts) (hp_fw : Part.fw ∈ f.parts) (hp_trunk : Part.trunk ∈ f.parts) (hp_doors : Part.doors ∈ f.parts) (hp_reqs : Part.reqs ∈ f.parts) (hp_cullet : Part.cullet ∈ f.parts) (hp_rates : Part.rates ∈ f.parts) (hp_svcPort : Part.svcPort ∈ f.parts) (hp_pond : Part.pond ∈ f.parts) (hp_engines : Part.engines ∈ f.parts) (hp_basins : Part.basins ∈ f.parts) (hp_ports : Part.ports ∈ f.parts) (hp_chans : Part.chans ∈ f.parts) (hp_rails : Part.rails ∈ f.parts) (hp_sei : Part.sei ∈ f.parts) (hp_svc : Part.svc ∈ f.parts) (hp_pwr : Part.pwr ∈ f.parts) (hp_bead : Part.bead ∈ f.parts) (hp_fab : Part.fab ∈ f.parts) (hp_ladders : Part.ladders ∈ f.parts) (hall : ∀ r, f.regs r = true) :
    Fr f a (Chip.reachOff c) := by
  unfold Chip.reachOff
  repeat' first
    | with_reducible assumption
    | with_reducible exact hall _
    | with_reducible exact fun _ => hall _
    | with_reducible exact fun _ _ => hall _
    | with_reducible apply Chip.cleared_fr
    | with_reducible apply Chip.updClk_fr
    | with_reducible apply Chip.updPwr_fr
    | with_reducible apply Chip.deviceReset_fr
    | intro _
    | split
    | (extract_lets +onlyGivenNames x; refine (fun hx : Fr f a x => ?_) ?_; (on_goal 1 => clear_value x); (on_goal 2 => subst x))
    | (extract_lets +onlyGivenNames x; refine (fun hx : Fr f a x.2 => ?_) ?_; (on_goal 1 => clear_value x); (on_goal 2 => subst x))
    | (extract_lets +onlyGivenNames x; clear_value x)
    | dsimp only

theorem Chip.offNext_fr {f : Frame} {a c : Chip} {e_} (h : Fr f a c) (hp_pwr : Part.pwr ∈ f.parts) :
    Fr f a (Chip.offNext c e_) := by
  unfold Chip.offNext
  repeat' first
    | with_reducible assumption
    | with_reducible apply Chip.updPwr_fr
    | intro _
    | split
    | (extract_lets +onlyGivenNames x; refine (fun hx : Fr f a x => ?_) ?_; (on_goal 1 => clear_value x); (on_goal 2 => subst x))
    | (extract_lets +onlyGivenNames x; refine (fun hx : Fr f a x.2 => ?_) ?_; (on_goal 1 => clear_value x); (on_goal 2 => subst x))
    | (extract_lets +onlyGivenNames x; clear_value x)
    | dsimp only

theorem Chip.offStep_fr {f : Frame} {a c : Chip} {e_} (h : Fr f a c) (hp_clk : Part.clk ∈ f.parts) (hp_fl : Part.fl ∈ f.parts) (hp_fw : Part.fw ∈ f.parts) (hp_trunk : Part.trunk ∈ f.parts) (hp_doors : Part.doors ∈ f.parts) (hp_reqs : Part.reqs ∈ f.parts) (hp_cullet : Part.cullet ∈ f.parts) (hp_rates : Part.rates ∈ f.parts) (hp_svcPort : Part.svcPort ∈ f.parts) (hp_pond : Part.pond ∈ f.parts) (hp_engines : Part.engines ∈ f.parts) (hp_basins : Part.basins ∈ f.parts) (hp_ports : Part.ports ∈ f.parts) (hp_chans : Part.chans ∈ f.parts) (hp_rails : Part.rails ∈ f.parts) (hp_sei : Part.sei ∈ f.parts) (hp_svc : Part.svc ∈ f.parts) (hp_pwr : Part.pwr ∈ f.parts) (hp_bead : Part.bead ∈ f.parts) (hp_fab : Part.fab ∈ f.parts) (hp_ladders : Part.ladders ∈ f.parts) (hall : ∀ r, f.regs r = true) :
    Fr f a (Chip.offStep c e_) := by
  unfold Chip.offStep
  repeat' first
    | with_reducible assumption
    | with_reducible exact hall _
    | with_reducible exact fun _ => hall _
    | with_reducible exact fun _ _ => hall _
    | with_reducible apply Chip.offNext_fr
    | with_reducible apply Fr.each
    | with_reducible apply Chip.fuseNow_fr
    | with_reducible apply Chip.reachOff_fr
    | with_reducible apply Chip.syncTrunk_fr
    | with_reducible apply Chip.setUp_fr
    | intro _
    | split
    | (extract_lets +onlyGivenNames x; refine (fun hx : Fr f a x => ?_) ?_; (on_goal 1 => clear_value x); (on_goal 2 => subst x))
    | (extract_lets +onlyGivenNames x; refine (fun hx : Fr f a x.2 => ?_) ?_; (on_goal 1 => clear_value x); (on_goal 2 => subst x))
    | (extract_lets +onlyGivenNames x; clear_value x)
    | dsimp only

theorem Chip.evaluate_fr {f : Frame} {a c : Chip}  (h : Fr f a c) (hp_clk : Part.clk ∈ f.parts) (hp_trunk : Part.trunk ∈ f.parts) (hp_doors : Part.doors ∈ f.parts) (hp_reqs : Part.reqs ∈ f.parts) (hp_rates : Part.rates ∈ f.parts) (hp_engines : Part.engines ∈ f.parts) (hp_basins : Part.basins ∈ f.parts) (hp_ports : Part.ports ∈ f.parts) (hp_sei : Part.sei ∈ f.parts) (hp_svc : Part.svc ∈ f.parts) (hp_pwr : Part.pwr ∈ f.parts) (hp_fab : Part.fab ∈ f.parts) (hr_CW_STATUS : f.regs .CW_STATUS = true) (hr_DROP_STATUS : ∀ n, f.regs (.DROP_STATUS n) = true) (hr_PWR_REFUSE : f.regs .PWR_REFUSE = true) (hr_PWR_STATUS : f.regs .PWR_STATUS = true) :
    Fr f a (Chip.evaluate c) := by
  unfold Chip.evaluate
  repeat' first
    | with_reducible assumption
    | with_reducible exact hr_DROP_STATUS _
    | with_reducible apply Chip.beginEntry_fr
    | intro _
    | split
    | (extract_lets +onlyGivenNames x; refine (fun hx : Fr f a x => ?_) ?_; (on_goal 1 => clear_value x); (on_goal 2 => subst x))
    | (extract_lets +onlyGivenNames x; refine (fun hx : Fr f a x.2 => ?_) ?_; (on_goal 1 => clear_value x); (on_goal 2 => subst x))
    | (extract_lets +onlyGivenNames x; clear_value x)
    | dsimp only

theorem Chip.gateBasins_fr {f : Frame} {a c : Chip}  (h : Fr f a c) (hp_basins : Part.basins ∈ f.parts) :
    Fr f a (Chip.gateBasins c) := by
  unfold Chip.gateBasins
  repeat' first
    | with_reducible assumption
    | with_reducible apply Fr.each
    | with_reducible apply Chip.updBasin_fr
    | intro _
    | split
    | (extract_lets +onlyGivenNames x; refine (fun hx : Fr f a x => ?_) ?_; (on_goal 1 => clear_value x); (on_goal 2 => subst x))
    | (extract_lets +onlyGivenNames x; refine (fun hx : Fr f a x.2 => ?_) ?_; (on_goal 1 => clear_value x); (on_goal 2 => subst x))
    | (extract_lets +onlyGivenNames x; clear_value x)
    | dsimp only

theorem Chip.enterIdle_fr {f : Frame} {a c : Chip}  (h : Fr f a c) (hp_basins : Part.basins ∈ f.parts) (hp_pwr : Part.pwr ∈ f.parts) (hr_PWR_STATUS : f.regs .PWR_STATUS = true) :
    Fr f a (Chip.enterIdle c) := by
  unfold Chip.enterIdle
  repeat' first
    | with_reducible assumption
    | with_reducible apply Chip.updPwr_fr
    | with_reducible apply Chip.gateBasins_fr
    | with_reducible apply Chip.setF_fr
    | intro _
    | split
    | (extract_lets +onlyGivenNames x; refine (fun hx : Fr f a x => ?_) ?_; (on_goal 1 => clear_value x); (on_goal 2 => subst x))
    | (extract_lets +onlyGivenNames x; refine (fun hx : Fr f a x.2 => ?_) ?_; (on_goal 1 => clear_value x); (on_goal 2 => subst x))
    | (extract_lets +onlyGivenNames x; clear_value x)
    | dsimp only

theorem Chip.deepRestart_fr {f : Frame} {a c : Chip} {n_} (h : Fr f a c) (hp_clk : Part.clk ∈ f.parts) (hp_sei : Part.sei ∈ f.parts) :
    Fr f a (Chip.deepRestart c n_) := by
  unfold Chip.deepRestart
  repeat' first
    | with_reducible assumption
    | with_reducible apply Chip.updClk_fr
    | with_reducible apply Chip.updSei_fr
    | intro _
    | split
    | (extract_lets +onlyGivenNames x; refine (fun hx : Fr f a x => ?_) ?_; (on_goal 1 => clear_value x); (on_goal 2 => subst x))
    | (extract_lets +onlyGivenNames x; refine (fun hx : Fr f a x.2 => ?_) ?_; (on_goal 1 => clear_value x); (on_goal 2 => subst x))
    | (extract_lets +onlyGivenNames x; clear_value x)
    | dsimp only

theorem Chip.sleepRestart_fr {f : Frame} {a c : Chip}  (h : Fr f a c) (hp_sei : Part.sei ∈ f.parts) :
    Fr f a (Chip.sleepRestart c) := by
  unfold Chip.sleepRestart
  repeat' first
    | with_reducible assumption
    | with_reducible apply Chip.updSei_fr
    | intro _
    | split
    | (extract_lets +onlyGivenNames x; refine (fun hx : Fr f a x => ?_) ?_; (on_goal 1 => clear_value x); (on_goal 2 => subst x))
    | (extract_lets +onlyGivenNames x; refine (fun hx : Fr f a x.2 => ?_) ?_; (on_goal 1 => clear_value x); (on_goal 2 => subst x))
    | (extract_lets +onlyGivenNames x; clear_value x)
    | dsimp only

theorem Chip.deepLosses_fr {f : Frame} {a c : Chip} {n_} (h : Fr f a c) (hp_clk : Part.clk ∈ f.parts) (hp_doors : Part.doors ∈ f.parts) (hp_sei : Part.sei ∈ f.parts) (hp_bead : Part.bead ∈ f.parts) (hr_BELT_STATUS : ∀ n, f.regs (.BELT_STATUS n) = true) (hr_GLB_FAULT : f.regs .GLB_FAULT = true) (hr_SEI_STATUS : f.regs .SEI_STATUS = true) (hr_SEI_UNCERT : f.regs .SEI_UNCERT = true) :
    Fr f a (Chip.deepLosses c n_) := by
  unfold Chip.deepLosses
  repeat' first
    | with_reducible assumption
    | with_reducible exact hr_BELT_STATUS _
    | with_reducible apply Chip.setF_fr
    | with_reducible apply Chip.settleUncert_fr
    | with_reducible apply Chip.updSei_fr
    | with_reducible apply Chip.degrade_fr
    | with_reducible apply Fr.each
    | with_reducible apply Chip.setSt_fr
    | intro _
    | split
    | (extract_lets +onlyGivenNames x; refine (fun hx : Fr f a x => ?_) ?_; (on_goal 1 => clear_value x); (on_goal 2 => subst x))
    | (extract_lets +onlyGivenNames x; refine (fun hx : Fr f a x.2 => ?_) ?_; (on_goal 1 => clear_value x); (on_goal 2 => subst x))
    | (extract_lets +onlyGivenNames x; clear_value x)
    | dsimp only

theorem Chip.trunkBack_fr {f : Frame} {a c : Chip} {retained_} (h : Fr f a c) (hp_clk : Part.clk ∈ f.parts) (hp_trunk : Part.trunk ∈ f.parts) (hp_doors : Part.doors ∈ f.parts) (hp_reqs : Part.reqs ∈ f.parts) (hp_rates : Part.rates ∈ f.parts) (hp_bead : Part.bead ∈ f.parts) (hr_GLB_FAULT : f.regs .GLB_FAULT = true) (hr_TRK_SPILL : f.regs .TRK_SPILL = true) (hr_TRK_STATUS : f.regs .TRK_STATUS = true) :
    Fr f a (Chip.trunkBack c retained_) := by
  unfold Chip.trunkBack
  repeat' first
    | with_reducible assumption
    | with_reducible apply Chip.updTrunk_fr
    | with_reducible apply Fr.each
    | with_reducible apply Chip.post_fr
    | with_reducible apply Chip.enterTarn_fr
    | with_reducible apply Chip.sendWakeAck_fr
    | intro _
    | split
    | (extract_lets +onlyGivenNames x; refine (fun hx : Fr f a x => ?_) ?_; (on_goal 1 => clear_value x); (on_goal 2 => subst x))
    | (extract_lets +onlyGivenNames x; refine (fun hx : Fr f a x.2 => ?_) ?_; (on_goal 1 => clear_value x); (on_goal 2 => subst x))
    | (extract_lets +onlyGivenNames x; clear_value x)
    | dsimp only

/-! ### Machine/Reset.lean -/

theorem Chip.supplyLow_fr {f : Frame} {a c : Chip} {v_} {low_} (h : Fr f a c) (hp_clk : Part.clk ∈ f.parts) (hp_doors : Part.doors ∈ f.parts) (hp_bead : Part.bead ∈ f.parts) (hr_GLB_FAULT : f.regs .GLB_FAULT = true) :
    Fr f a (Chip.supplyLow c v_ low_) := by
  unfold Chip.supplyLow
  repeat' first
    | with_reducible assumption
    | with_reducible apply Chip.postFault_fr
    | intro _
    | split
    | (extract_lets +onlyGivenNames x; refine (fun hx : Fr f a x => ?_) ?_; (on_goal 1 => clear_value x); (on_goal 2 => subst x))
    | (extract_lets +onlyGivenNames x; refine (fun hx : Fr f a x.2 => ?_) ?_; (on_goal 1 => clear_value x); (on_goal 2 => subst x))
    | (extract_lets +onlyGivenNames x; clear_value x)
    | dsimp only

theorem Chip.srdsLost_fr {f : Frame} {a c : Chip} {cause_} (h : Fr f a c) (hp_clk : Part.clk ∈ f.parts) (hp_fl : Part.fl ∈ f.parts) (hp_fw : Part.fw ∈ f.parts) (hp_trunk : Part.trunk ∈ f.parts) (hp_doors : Part.doors ∈ f.parts) (hp_reqs : Part.reqs ∈ f.parts) (hp_rates : Part.rates ∈ f.parts) (hp_pond : Part.pond ∈ f.parts) (hp_engines : Part.engines ∈ f.parts) (hp_basins : Part.basins ∈ f.parts) (hp_ports : Part.ports ∈ f.parts) (hp_chans : Part.chans ∈ f.parts) (hp_sei : Part.sei ∈ f.parts) (hp_svc : Part.svc ∈ f.parts) (hp_pwr : Part.pwr ∈ f.parts) (hp_bead : Part.bead ∈ f.parts) (hp_fab : Part.fab ∈ f.parts) (hp_free : Part.free ∈ f.parts) (hr_CH_CMD : ∀ n, f.regs (.CH_CMD n) = true) (hr_CH_STATUS : ∀ n, f.regs (.CH_STATUS n) = true) (hr_DROP_SCHED : ∀ n, f.regs (.DROP_SCHED n) = true) (hr_DROP_STATUS : ∀ n, f.regs (.DROP_STATUS n) = true) (hr_DROP_XFER_ERR : ∀ n, f.regs (.DROP_XFER_ERR n) = true) (hr_ESC_LAST : f.regs .ESC_LAST = true) (hr_GLB_FAULT : f.regs .GLB_FAULT = true) (hr_HOLDER_USED : ∀ n, f.regs (.HOLDER_USED n) = true) (hr_LINE_CNT : ∀ n, f.regs (.LINE_CNT n) = true) (hr_LINE_CTL : ∀ n, f.regs (.LINE_CTL n) = true) (hr_LINE_DBT : ∀ n, f.regs (.LINE_DBT n) = true) (hr_LINE_ERR : ∀ n, f.regs (.LINE_ERR n) = true) (hr_LINE_NBT : ∀ n, f.regs (.LINE_NBT n) = true) (hr_LINE_TDC : ∀ n, f.regs (.LINE_TDC n) = true) (hr_POND_FREE : f.regs .POND_FREE = true) (hr_POND_STATUS : f.regs .POND_STATUS = true) (hr_POND_WAIT : f.regs .POND_WAIT = true) (hr_PWR_STATUS : f.regs .PWR_STATUS = true) (hr_SVC_STATUS : f.regs .SVC_STATUS = true) (hr_TRK_ERR : ∀ n, f.regs (.TRK_ERR n) = true) (hr_TRK_SPILL : f.regs .TRK_SPILL = true) (hr_TRK_STATUS : f.regs .TRK_STATUS = true) :
    Fr f a (Chip.srdsLost c cause_) := by
  unfold Chip.srdsLost
  repeat' first
    | with_reducible assumption
    | with_reducible exact hr_CH_CMD _
    | with_reducible exact hr_CH_STATUS _
    | with_reducible exact hr_DROP_SCHED _
    | with_reducible exact hr_DROP_STATUS _
    | with_reducible exact hr_DROP_XFER_ERR _
    | with_reducible exact hr_HOLDER_USED _
    | with_reducible exact hr_LINE_CNT _
    | with_reducible exact hr_LINE_CTL _
    | with_reducible exact hr_LINE_DBT _
    | with_reducible exact hr_LINE_ERR _
    | with_reducible exact hr_LINE_NBT _
    | with_reducible exact hr_LINE_TDC _
    | with_reducible exact hr_TRK_ERR _
    | with_reducible apply Fr.each
    | with_reducible apply Chip.startScope_fr
    | with_reducible apply Chip.loseLane_fr
    | with_reducible apply Chip.enterTarn_fr
    | intro _
    | split
    | (extract_lets +onlyGivenNames x; refine (fun hx : Fr f a x => ?_) ?_; (on_goal 1 => clear_value x); (on_goal 2 => subst x))
    | (extract_lets +onlyGivenNames x; refine (fun hx : Fr f a x.2 => ?_) ?_; (on_goal 1 => clear_value x); (on_goal 2 => subst x))
    | (extract_lets +onlyGivenNames x; clear_value x)
    | dsimp only

theorem Chip.srdsBack_fr {f : Frame} {a c : Chip}  (h : Fr f a c) (hp_clk : Part.clk ∈ f.parts) (hp_fw : Part.fw ∈ f.parts) (hp_trunk : Part.trunk ∈ f.parts) (hp_doors : Part.doors ∈ f.parts) (hp_reqs : Part.reqs ∈ f.parts) (hp_cullet : Part.cullet ∈ f.parts) (hp_rates : Part.rates ∈ f.parts) (hp_pond : Part.pond ∈ f.parts) (hp_engines : Part.engines ∈ f.parts) (hp_basins : Part.basins ∈ f.parts) (hp_ports : Part.ports ∈ f.parts) (hp_sei : Part.sei ∈ f.parts) (hp_svc : Part.svc ∈ f.parts) (hp_pwr : Part.pwr ∈ f.parts) (hp_bead : Part.bead ∈ f.parts) (hp_ladders : Part.ladders ∈ f.parts) (hr_BOOT_STATUS : f.regs .BOOT_STATUS = true) (hr_ENG_BASIN : ∀ n, f.regs (.ENG_BASIN n) = true) (hr_GLB_FAULT : f.regs .GLB_FAULT = true) (hr_HOLDER_USED : ∀ n, f.regs (.HOLDER_USED n) = true) (hr_POND_FREE : f.regs .POND_FREE = true) (hr_POND_STATUS : f.regs .POND_STATUS = true) (hr_POND_WAIT : f.regs .POND_WAIT = true) (hr_PWR_STATUS : f.regs .PWR_STATUS = true) (hr_RST_CMD : f.regs .RST_CMD = true) (hr_SVC_STATUS : f.regs .SVC_STATUS = true) :
    Fr f a (Chip.srdsBack c) := by
  unfold Chip.srdsBack
  repeat' first
    | with_reducible assumption
    | with_reducible exact hr_ENG_BASIN _
    | with_reducible exact hr_HOLDER_USED _
    | with_reducible apply Chip.endScope_fr
    | with_reducible apply Chip.updTrunk_fr
    | intro _
    | split
    | (extract_lets +onlyGivenNames x; refine (fun hx : Fr f a x => ?_) ?_; (on_goal 1 => clear_value x); (on_goal 2 => subst x))
    | (extract_lets +onlyGivenNames x; refine (fun hx : Fr f a x.2 => ?_) ?_; (on_goal 1 => clear_value x); (on_goal 2 => subst x))
    | (extract_lets +onlyGivenNames x; clear_value x)
    | dsimp only

theorem Chip.bootReport_fr {f : Frame} {a c : Chip}  (h : Fr f a c) (hp_doors : Part.doors ∈ f.parts) :
    Fr f a (Chip.bootReport c) := by
  unfold Chip.bootReport
  repeat' first
    | with_reducible assumption
    | with_reducible apply Chip.post_fr
    | with_reducible apply Fr.each
    | intro _
    | split
    | (extract_lets +onlyGivenNames x; refine (fun hx : Fr f a x => ?_) ?_; (on_goal 1 => clear_value x); (on_goal 2 => subst x))
    | (extract_lets +onlyGivenNames x; refine (fun hx : Fr f a x.2 => ?_) ?_; (on_goal 1 => clear_value x); (on_goal 2 => subst x))
    | (extract_lets +onlyGivenNames x; clear_value x)
    | dsimp only

theorem Chip.applyConfig_fr {f : Frame} {a c : Chip} {cfg_} (h : Fr f a c) (hp_clk : Part.clk ∈ f.parts) (hp_fl : Part.fl ∈ f.parts) (hp_fw : Part.fw ∈ f.parts) (hp_trunk : Part.trunk ∈ f.parts) (hp_doors : Part.doors ∈ f.parts) (hp_reqs : Part.reqs ∈ f.parts) (hp_cullet : Part.cullet ∈ f.parts) (hp_rates : Part.rates ∈ f.parts) (hp_svcPort : Part.svcPort ∈ f.parts) (hp_pond : Part.pond ∈ f.parts) (hp_engines : Part.engines ∈ f.parts) (hp_basins : Part.basins ∈ f.parts) (hp_ports : Part.ports ∈ f.parts) (hp_chans : Part.chans ∈ f.parts) (hp_rails : Part.rails ∈ f.parts) (hp_sei : Part.sei ∈ f.parts) (hp_svc : Part.svc ∈ f.parts) (hp_pwr : Part.pwr ∈ f.parts) (hp_bead : Part.bead ∈ f.parts) (hp_fab : Part.fab ∈ f.parts) (hp_ladders : Part.ladders ∈ f.parts) (hp_free : Part.free ∈ f.parts) (hall : ∀ r, f.regs r = true) :
    Fr f a (Chip.applyConfig c cfg_) := by
  unfold Chip.applyConfig
  repeat' first
    | with_reducible assumption
    | with_reducible exact hall _
    | with_reducible exact fun _ => hall _
    | with_reducible exact fun _ _ => hall _
    | with_reducible apply Chip.updFw_fr
    | with_reducible apply Fr.each
    | with_reducible apply Chip.fwWrite_fr
    | with_reducible apply Chip.updLane_fr
    | with_reducible exact fun _ => rfl
    | with_reducible exact fun _ => ⟨rfl, rfl⟩
    | with_reducible rfl
    | with_reducible exact ⟨rfl, rfl⟩
    | intro _
    | split
    | (extract_lets +onlyGivenNames x; refine (fun hx : Fr f a x => ?_) ?_; (on_goal 1 => clear_value x); (on_goal 2 => subst x))
    | (extract_lets +onlyGivenNames x; refine (fun hx : Fr f a x.2 => ?_) ?_; (on_goal 1 => clear_value x); (on_goal 2 => subst x))
    | (extract_lets +onlyGivenNames x; clear_value x)
    | dsimp only

theorem Chip.firmwareBoot_fr {f : Frame} {a c : Chip} {locks_} {cfg_} (h : Fr f a c) (hp_clk : Part.clk ∈ f.parts) (hp_fl : Part.fl ∈ f.parts) (hp_fw : Part.fw ∈ f.parts) (hp_trunk : Part.trunk ∈ f.parts) (hp_doors : Part.doors ∈ f.parts) (hp_reqs : Part.reqs ∈ f.parts) (hp_cullet : Part.cullet ∈ f.parts) (hp_rates : Part.rates ∈ f.parts) (hp_svcPort : Part.svcPort ∈ f.parts) (hp_pond : Part.pond ∈ f.parts) (hp_engines : Part.engines ∈ f.parts) (hp_basins : Part.basins ∈ f.parts) (hp_ports : Part.ports ∈ f.parts) (hp_chans : Part.chans ∈ f.parts) (hp_rails : Part.rails ∈ f.parts) (hp_sei : Part.sei ∈ f.parts) (hp_svc : Part.svc ∈ f.parts) (hp_pwr : Part.pwr ∈ f.parts) (hp_bead : Part.bead ∈ f.parts) (hp_fab : Part.fab ∈ f.parts) (hp_ladders : Part.ladders ∈ f.parts) (hp_free : Part.free ∈ f.parts) (hall : ∀ r, f.regs r = true) :
    Fr f a (Chip.firmwareBoot c locks_ cfg_) := by
  unfold Chip.firmwareBoot
  repeat' first
    | with_reducible assumption
    | with_reducible exact hall _
    | with_reducible exact fun _ => hall _
    | with_reducible exact fun _ _ => hall _
    | with_reducible apply Chip.fwWrite_fr
    | with_reducible apply Chip.updClk_fr
    | with_reducible apply Chip.setSt_fr
    | with_reducible apply Chip.updFw_fr
    | with_reducible apply Chip.bootReport_fr
    | with_reducible apply Chip.postFault_fr
    | with_reducible apply Chip.loadEngines_fr
    | with_reducible apply Chip.applyConfig_fr
    | with_reducible refine Chip.applyTables_fr ‹_› ?_ ?_ ?_ ?_ ?_ ?_ ?_ ?_ ?_ ?_ ?_
    | with_reducible apply Chip.updSei_fr
    | with_reducible exact fun _ => rfl
    | with_reducible exact fun _ => ⟨rfl, rfl⟩
    | with_reducible rfl
    | with_reducible exact ⟨rfl, rfl⟩
    | intro _
    | split
    | (extract_lets +onlyGivenNames x; refine (fun hx : Fr f a x => ?_) ?_; (on_goal 1 => clear_value x); (on_goal 2 => subst x))
    | (extract_lets +onlyGivenNames x; refine (fun hx : Fr f a x.2 => ?_) ?_; (on_goal 1 => clear_value x); (on_goal 2 => subst x))
    | (extract_lets +onlyGivenNames x; clear_value x)
    | dsimp only

theorem Chip.watchdogOvr_fr {f : Frame} {a c : Chip}  (h : Fr f a c) (hr_BOOT_OVR : f.regs .BOOT_OVR = true) :
    Fr f a (Chip.watchdogOvr c) := by
  unfold Chip.watchdogOvr
  repeat' first
    | with_reducible assumption
    | with_reducible apply Chip.setF_fr
    | with_reducible apply Fr.wr
    | intro _
    | split
    | (extract_lets +onlyGivenNames x; refine (fun hx : Fr f a x => ?_) ?_; (on_goal 1 => clear_value x); (on_goal 2 => subst x))
    | (extract_lets +onlyGivenNames x; refine (fun hx : Fr f a x.2 => ?_) ?_; (on_goal 1 => clear_value x); (on_goal 2 => subst x))
    | (extract_lets +onlyGivenNames x; clear_value x)
    | dsimp only

theorem Chip.pllScope_fr {f : Frame} {a c : Chip} {g_} (h : Fr f a c) (hp_clk : Part.clk ∈ f.parts) (hp_fl : Part.fl ∈ f.parts) (hp_fw : Part.fw ∈ f.parts) (hp_trunk : Part.trunk ∈ f.parts) (hp_doors : Part.doors ∈ f.parts) (hp_reqs : Part.reqs ∈ f.parts) (hp_cullet : Part.cullet ∈ f.parts) (hp_rates : Part.rates ∈ f.parts) (hp_svcPort : Part.svcPort ∈ f.parts) (hp_pond : Part.pond ∈ f.parts) (hp_engines : Part.engines ∈ f.parts) (hp_basins : Part.basins ∈ f.parts) (hp_ports : Part.ports ∈ f.parts) (hp_chans : Part.chans ∈ f.parts) (hp_rails : Part.rails ∈ f.parts) (hp_sei : Part.sei ∈ f.parts) (hp_svc : Part.svc ∈ f.parts) (hp_pwr : Part.pwr ∈ f.parts) (hp_bead : Part.bead ∈ f.parts) (hp_fab : Part.fab ∈ f.parts) (hp_ladders : Part.ladders ∈ f.parts) (hp_free : Part.free ∈ f.parts) (hall : ∀ r, f.regs r = true) :
    Fr f a (Chip.pllScope c g_) := by
  unfold Chip.pllScope
  repeat' first
    | with_reducible assumption
    | with_reducible exact hall _
    | with_reducible exact fun _ => hall _
    | with_reducible exact fun _ _ => hall _
    | with_reducible apply Chip.updClk_fr
    | with_reducible apply Chip.settleUncert_fr
    | with_reducible apply Chip.degXtal_fr
    | with_reducible apply Chip.setSt_fr
    | with_reducible apply Chip.deviceReset_fr
    | with_reducible apply Chip.escalate_fr
    | with_reducible apply Chip.startScope_fr
    | with_reducible apply Chip.srdsLost_fr
    | with_reducible apply Fr.each
    | intro _
    | split
    | (extract_lets +onlyGivenNames x; refine (fun hx : Fr f a x => ?_) ?_; (on_goal 1 => clear_value x); (on_goal 2 => subst x))
    | (extract_lets +onlyGivenNames x; refine (fun hx : Fr f a x.2 => ?_) ?_; (on_goal 1 => clear_value x); (on_goal 2 => subst x))
    | (extract_lets +onlyGivenNames x; clear_value x)
    | dsimp only

theorem Chip.askScope_fr {f : Frame} {a c : Chip} {sc_} {q_} {bad_} (h : Fr f a c) (hp_clk : Part.clk ∈ f.parts) (hp_fl : Part.fl ∈ f.parts) (hp_fw : Part.fw ∈ f.parts) (hp_trunk : Part.trunk ∈ f.parts) (hp_doors : Part.doors ∈ f.parts) (hp_reqs : Part.reqs ∈ f.parts) (hp_rates : Part.rates ∈ f.parts) (hp_pond : Part.pond ∈ f.parts) (hp_engines : Part.engines ∈ f.parts) (hp_basins : Part.basins ∈ f.parts) (hp_ports : Part.ports ∈ f.parts) (hp_chans : Part.chans ∈ f.parts) (hp_sei : Part.sei ∈ f.parts) (hp_svc : Part.svc ∈ f.parts) (hp_pwr : Part.pwr ∈ f.parts) (hp_bead : Part.bead ∈ f.parts) (hp_fab : Part.fab ∈ f.parts) (hp_free : Part.free ∈ f.parts) (hr_CH_CMD : ∀ n, f.regs (.CH_CMD n) = true) (hr_CH_STATUS : ∀ n, f.regs (.CH_STATUS n) = true) (hr_DROP_SCHED : ∀ n, f.regs (.DROP_SCHED n) = true) (hr_DROP_STATUS : ∀ n, f.regs (.DROP_STATUS n) = true) (hr_DROP_XFER_ERR : ∀ n, f.regs (.DROP_XFER_ERR n) = true) (hr_ESC_LAST : f.regs .ESC_LAST = true) (hr_GLB_FAULT : f.regs .GLB_FAULT = true) (hr_HOLDER_USED : ∀ n, f.regs (.HOLDER_USED n) = true) (hr_LINE_CNT : ∀ n, f.regs (.LINE_CNT n) = true) (hr_LINE_CTL : ∀ n, f.regs (.LINE_CTL n) = true) (hr_LINE_DBT : ∀ n, f.regs (.LINE_DBT n) = true) (hr_LINE_ERR : ∀ n, f.regs (.LINE_ERR n) = true) (hr_LINE_NBT : ∀ n, f.regs (.LINE_NBT n) = true) (hr_LINE_TDC : ∀ n, f.regs (.LINE_TDC n) = true) (hr_POND_FREE : f.regs .POND_FREE = true) (hr_POND_STATUS : f.regs .POND_STATUS = true) (hr_POND_WAIT : f.regs .POND_WAIT = true) (hr_PWR_STATUS : f.regs .PWR_STATUS = true) (hr_SVC_STATUS : f.regs .SVC_STATUS = true) (hr_TRK_ERR : ∀ n, f.regs (.TRK_ERR n) = true) (hr_TRK_SPILL : f.regs .TRK_SPILL = true) (hr_TRK_STATUS : f.regs .TRK_STATUS = true) :
    Fr f a (Chip.askScope c sc_ q_ bad_) := by
  unfold Chip.askScope
  repeat' first
    | with_reducible assumption
    | with_reducible exact hr_CH_CMD _
    | with_reducible exact hr_CH_STATUS _
    | with_reducible exact hr_DROP_SCHED _
    | with_reducible exact hr_DROP_STATUS _
    | with_reducible exact hr_DROP_XFER_ERR _
    | with_reducible exact hr_HOLDER_USED _
    | with_reducible exact hr_LINE_CNT _
    | with_reducible exact hr_LINE_CTL _
    | with_reducible exact hr_LINE_DBT _
    | with_reducible exact hr_LINE_ERR _
    | with_reducible exact hr_LINE_NBT _
    | with_reducible exact hr_LINE_TDC _
    | with_reducible exact hr_TRK_ERR _
    | with_reducible apply Chip.startScope_fr
    | with_reducible apply Chip.serve_fr
    | intro _
    | split
    | (extract_lets +onlyGivenNames x; refine (fun hx : Fr f a x => ?_) ?_; (on_goal 1 => clear_value x); (on_goal 2 => subst x))
    | (extract_lets +onlyGivenNames x; refine (fun hx : Fr f a x.2 => ?_) ?_; (on_goal 1 => clear_value x); (on_goal 2 => subst x))
    | (extract_lets +onlyGivenNames x; clear_value x)
    | dsimp only

/-! ### Machine/Seiche.lean -/

theorem Chip.serveSei_fr {f : Frame} {a c : Chip} {q_} {op_} {alloc_} {body_} (h : Fr f a c) (hb_body : ∀ x0, Fr f a x0 → Fr f a (body_ x0)) (hp_trunk : Part.trunk ∈ f.parts) (hp_doors : Part.doors ∈ f.parts) (hp_reqs : Part.reqs ∈ f.parts) (hp_rates : Part.rates ∈ f.parts) (hp_basins : Part.basins ∈ f.parts) (hp_ports : Part.ports ∈ f.parts) (hp_pwr : Part.pwr ∈ f.parts) (hr_PWR_STATUS : f.regs .PWR_STATUS = true) :
    Fr f a (Chip.serveSei c q_ op_ alloc_ body_) := by
  unfold Chip.serveSei
  repeat' first
    | with_reducible assumption
    | with_reducible apply hb_body
    | with_reducible apply Chip.serve_fr
    | intro _
    | split
    | (extract_lets +onlyGivenNames x; refine (fun hx : Fr f a x => ?_) ?_; (on_goal 1 => clear_value x); (on_goal 2 => subst x))
    | (extract_lets +onlyGivenNames x; refine (fun hx : Fr f a x.2 => ?_) ?_; (on_goal 1 => clear_value x); (on_goal 2 => subst x))
    | (extract_lets +onlyGivenNames x; clear_value x)
    | dsimp only

theorem Chip.dropMark_fr {f : Frame} {a c : Chip} {b_} {cid_} (h : Fr f a c) (hp_sei : Part.sei ∈ f.parts) (hr_BELT_STATUS : ∀ n, f.regs (.BELT_STATUS n) = true) :
    Fr f a (Chip.dropMark c b_ cid_) := by
  unfold Chip.dropMark
  repeat' first
    | with_reducible assumption
    | with_reducible exact hr_BELT_STATUS _
    | with_reducible apply Chip.updBelt_fr
    | with_reducible apply Chip.syncArmed_fr
    | with_reducible apply Chip.updSei_fr
    | intro _
    | split
    | (extract_lets +onlyGivenNames x; refine (fun hx : Fr f a x => ?_) ?_; (on_goal 1 => clear_value x); (on_goal 2 => subst x))
    | (extract_lets +onlyGivenNames x; refine (fun hx : Fr f a x.2 => ?_) ?_; (on_goal 1 => clear_value x); (on_goal 2 => subst x))
    | (extract_lets +onlyGivenNames x; clear_value x)
    | dsimp only

theorem Chip.rate_fr {f : Frame} {a c : Chip} {b_} {fwd_} {es_} (h : Fr f a c) (hp_free : Part.free ∈ f.parts) (hr_BELT_RATE : ∀ n, f.regs (.BELT_RATE n) = true) :
    Fr f a (Chip.rate c b_ fwd_ es_) := by
  unfold Chip.rate
  repeat' first
    | with_reducible assumption
    | with_reducible exact hr_BELT_RATE _
    | with_reducible apply Fr.wr
    | with_reducible refine Chip.draw_fr ‹_› ?_ ?_
    | with_reducible apply Chip.draw_fr2
    | with_reducible refine Fr.ofIte ‹_› ?_ ?_
    | intro _
    | split
    | (extract_lets +onlyGivenNames x; refine (fun hx : Fr f a x => ?_) ?_; (on_goal 1 => clear_value x); (on_goal 2 => subst x))
    | (extract_lets +onlyGivenNames x; refine (fun hx : Fr f a x.2 => ?_) ?_; (on_goal 1 => clear_value x); (on_goal 2 => subst x))
    | (extract_lets +onlyGivenNames x; clear_value x)
    | dsimp only

theorem Chip.freshCrossed_fr {f : Frame} {a c : Chip} {b_} {p_} {fwd_} {stopped_} (h : Fr f a c) (hp_sei : Part.sei ∈ f.parts) :
    Fr f a (Chip.freshCrossed c b_ p_ fwd_ stopped_) := by
  unfold Chip.freshCrossed
  repeat' first
    | with_reducible assumption
    | with_reducible apply Chip.updSei_fr
    | intro _
    | split
    | (extract_lets +onlyGivenNames x; refine (fun hx : Fr f a x => ?_) ?_; (on_goal 1 => clear_value x); (on_goal 2 => subst x))
    | (extract_lets +onlyGivenNames x; refine (fun hx : Fr f a x.2 => ?_) ?_; (on_goal 1 => clear_value x); (on_goal 2 => subst x))
    | (extract_lets +onlyGivenNames x; clear_value x)
    | dsimp only

theorem Chip.countEdge_fr {f : Frame} {a c : Chip} {b_} {fwd_} (h : Fr f a c) (hp_doors : Part.doors ∈ f.parts) (hp_sei : Part.sei ∈ f.parts) (hp_free : Part.free ∈ f.parts) (hr_BELT_RATE : ∀ n, f.regs (.BELT_RATE n) = true) (hr_BELT_STATUS : ∀ n, f.regs (.BELT_STATUS n) = true) :
    Fr f a (Chip.countEdge c b_ fwd_) := by
  unfold Chip.countEdge
  repeat' first
    | with_reducible assumption
    | with_reducible exact hr_BELT_RATE _
    | with_reducible exact hr_BELT_STATUS _
    | with_reducible apply Chip.freshCrossed_fr
    | with_reducible apply Chip.updBelt_fr
    | with_reducible apply Chip.setSt_fr
    | with_reducible apply Chip.rate_fr
    | with_reducible apply Chip.post_fr
    | with_reducible apply Chip.jams_fr
    | intro _
    | split
    | (extract_lets +onlyGivenNames x; refine (fun hx : Fr f a x => ?_) ?_; (on_goal 1 => clear_value x); (on_goal 2 => subst x))
    | (extract_lets +onlyGivenNames x; refine (fun hx : Fr f a x.2 => ?_) ?_; (on_goal 1 => clear_value x); (on_goal 2 => subst x))
    | (extract_lets +onlyGivenNames x; clear_value x)
    | dsimp only

theorem Chip.zCheck_fr {f : Frame} {a c : Chip} {b_} (h : Fr f a c) (hp_doors : Part.doors ∈ f.parts) (hp_sei : Part.sei ∈ f.parts) (hr_BELT_STATUS : ∀ n, f.regs (.BELT_STATUS n) = true) :
    Fr f a (Chip.zCheck c b_) := by
  unfold Chip.zCheck
  repeat' first
    | with_reducible assumption
    | with_reducible exact hr_BELT_STATUS _
    | with_reducible apply Chip.updBelt_fr
    | with_reducible apply Chip.record_fr
    | with_reducible apply Chip.post_fr
    | intro _
    | split
    | (extract_lets +onlyGivenNames x; refine (fun hx : Fr f a x => ?_) ?_; (on_goal 1 => clear_value x); (on_goal 2 => subst x))
    | (extract_lets +onlyGivenNames x; refine (fun hx : Fr f a x.2 => ?_) ?_; (on_goal 1 => clear_value x); (on_goal 2 => subst x))
    | (extract_lets +onlyGivenNames x; clear_value x)
    | dsimp only

theorem Chip.zTake_fr {f : Frame} {a c : Chip} {b_} (h : Fr f a c) (hp_trunk : Part.trunk ∈ f.parts) (hp_doors : Part.doors ∈ f.parts) (hp_reqs : Part.reqs ∈ f.parts) (hp_rates : Part.rates ∈ f.parts) (hp_pond : Part.pond ∈ f.parts) (hp_engines : Part.engines ∈ f.parts) (hp_sei : Part.sei ∈ f.parts) (hr_BELT_STATUS : ∀ n, f.regs (.BELT_STATUS n) = true) (hr_HOLDER_USED : ∀ n, f.regs (.HOLDER_USED n) = true) (hr_POND_FREE : f.regs .POND_FREE = true) (hr_POND_STATUS : f.regs .POND_STATUS = true) (hr_POND_WAIT : f.regs .POND_WAIT = true) :
    Fr f a (Chip.zTake c b_) := by
  unfold Chip.zTake
  repeat' first
    | with_reducible assumption
    | with_reducible exact hr_BELT_STATUS _
    | with_reducible exact hr_HOLDER_USED _
    | with_reducible apply Fr.each
    | with_reducible apply Chip.answer_fr
    | with_reducible apply Chip.setBeltPos_fr
    | with_reducible apply Chip.zCheck_fr
    | with_reducible apply Chip.updBelt_fr
    | intro _
    | split
    | (extract_lets +onlyGivenNames x; refine (fun hx : Fr f a x => ?_) ?_; (on_goal 1 => clear_value x); (on_goal 2 => subst x))
    | (extract_lets +onlyGivenNames x; refine (fun hx : Fr f a x.2 => ?_) ?_; (on_goal 1 => clear_value x); (on_goal 2 => subst x))
    | (extract_lets +onlyGivenNames x; clear_value x)
    | dsimp only

theorem Chip.zTakeAll_fr {f : Frame} {a c : Chip}  (h : Fr f a c) (hp_trunk : Part.trunk ∈ f.parts) (hp_doors : Part.doors ∈ f.parts) (hp_reqs : Part.reqs ∈ f.parts) (hp_rates : Part.rates ∈ f.parts) (hp_pond : Part.pond ∈ f.parts) (hp_engines : Part.engines ∈ f.parts) (hp_sei : Part.sei ∈ f.parts) (hr_BELT_STATUS : ∀ n, f.regs (.BELT_STATUS n) = true) (hr_HOLDER_USED : ∀ n, f.regs (.HOLDER_USED n) = true) (hr_POND_FREE : f.regs .POND_FREE = true) (hr_POND_STATUS : f.regs .POND_STATUS = true) (hr_POND_WAIT : f.regs .POND_WAIT = true) :
    Fr f a (Chip.zTakeAll c) := by
  unfold Chip.zTakeAll
  repeat' first
    | with_reducible assumption
    | with_reducible exact hr_BELT_STATUS _
    | with_reducible exact hr_HOLDER_USED _
    | with_reducible apply Fr.each
    | with_reducible apply Chip.zTake_fr
    | intro _
    | split
    | (extract_lets +onlyGivenNames x; refine (fun hx : Fr f a x => ?_) ?_; (on_goal 1 => clear_value x); (on_goal 2 => subst x))
    | (extract_lets +onlyGivenNames x; refine (fun hx : Fr f a x.2 => ?_) ?_; (on_goal 1 => clear_value x); (on_goal 2 => subst x))
    | (extract_lets +onlyGivenNames x; clear_value x)
    | dsimp only

/-! ### Machine/Svc.lean -/

theorem Chip.serveSvc_fr {f : Frame} {a c : Chip} {q_} {op_} {body_} (h : Fr f a c) (hb_body : ∀ x0 x1, Fr f a x1 → Fr f a (body_ x0 x1)) (hp_trunk : Part.trunk ∈ f.parts) (hp_doors : Part.doors ∈ f.parts) (hp_reqs : Part.reqs ∈ f.parts) (hp_rates : Part.rates ∈ f.parts) (hp_basins : Part.basins ∈ f.parts) (hp_ports : Part.ports ∈ f.parts) (hp_pwr : Part.pwr ∈ f.parts) (hr_PWR_STATUS : f.regs .PWR_STATUS = true) :
    Fr f a (Chip.serveSvc c q_ op_ body_) := by
  unfold Chip.serveSvc
  repeat' first
    | with_reducible assumption
    | with_reducible apply hb_body
    | with_reducible apply Chip.servePort_fr
    | with_reducible apply Chip.answer_fr
    | intro _
    | split
    | (extract_lets +onlyGivenNames x; refine (fun hx : Fr f a x => ?_) ?_; (on_goal 1 => clear_value x); (on_goal 2 => subst x))
    | (extract_lets +onlyGivenNames x; refine (fun hx : Fr f a x.2 => ?_) ?_; (on_goal 1 => clear_value x); (on_goal 2 => subst x))
    | (extract_lets +onlyGivenNames x; clear_value x)
    | dsimp only

theorem Chip.openBindRec_fr {f : Frame} {a c : Chip} {b_} (h : Fr f a c) (hp_doors : Part.doors ∈ f.parts) (hp_rates : Part.rates ∈ f.parts) (hp_pond : Part.pond ∈ f.parts) (hp_engines : Part.engines ∈ f.parts) (hp_basins : Part.basins ∈ f.parts) (hp_svc : Part.svc ∈ f.parts) (hp_pwr : Part.pwr ∈ f.parts) (hr_PWR_STATUS : f.regs .PWR_STATUS = true) :
    Fr f a (Chip.openBindRec c b_) := by
  unfold Chip.openBindRec
  repeat' first
    | with_reducible assumption
    | with_reducible refine Chip.openRec_fr ‹_› ?_ ?_ ?_ ?_ ?_
    | with_reducible apply Chip.openRec_fr2
    | with_reducible apply Chip.updBind_fr
    | with_reducible apply Chip.active_fr
    | with_reducible apply Chip.updSvcBody_fr
    | with_reducible refine Fr.ofIte ‹_› ?_ ?_
    | intro _
    | split
    | (extract_lets +onlyGivenNames x; refine (fun hx : Fr f a x => ?_) ?_; (on_goal 1 => clear_value x); (on_goal 2 => subst x))
    | (extract_lets +onlyGivenNames x; refine (fun hx : Fr f a x.2 => ?_) ?_; (on_goal 1 => clear_value x); (on_goal 2 => subst x))
    | (extract_lets +onlyGivenNames x; clear_value x)
    | dsimp only

theorem Chip.closeBindRec_fr {f : Frame} {a c : Chip} {b_} {rflags_} {discard_} (h : Fr f a c) (hp_pond : Part.pond ∈ f.parts) (hp_engines : Part.engines ∈ f.parts) (hp_basins : Part.basins ∈ f.parts) (hp_svc : Part.svc ∈ f.parts) (hp_pwr : Part.pwr ∈ f.parts) (hr_PWR_STATUS : f.regs .PWR_STATUS = true) :
    Fr f a (Chip.closeBindRec c b_ rflags_ discard_) := by
  unfold Chip.closeBindRec
  repeat' first
    | with_reducible assumption
    | with_reducible apply Chip.closeRec_fr
    | with_reducible apply Chip.updBind_fr
    | with_reducible apply Chip.active_fr
    | with_reducible apply Chip.updSvcBody_fr
    | intro _
    | split
    | (extract_lets +onlyGivenNames x; refine (fun hx : Fr f a x => ?_) ?_; (on_goal 1 => clear_value x); (on_goal 2 => subst x))
    | (extract_lets +onlyGivenNames x; refine (fun hx : Fr f a x.2 => ?_) ?_; (on_goal 1 => clear_value x); (on_goal 2 => subst x))
    | (extract_lets +onlyGivenNames x; clear_value x)
    | dsimp only

theorem Chip.appendRec_fr {f : Frame} {a c : Chip} {b_} {f_} (h : Fr f a c) (hp_doors : Part.doors ∈ f.parts) (hp_rates : Part.rates ∈ f.parts) (hp_pond : Part.pond ∈ f.parts) (hp_engines : Part.engines ∈ f.parts) (hp_svc : Part.svc ∈ f.parts) :
    Fr f a (Chip.appendRec c b_ f_) := by
  unfold Chip.appendRec
  repeat' first
    | with_reducible assumption
    | with_reducible apply Chip.culletRecs_fr
    | with_reducible apply Chip.evOverrun_fr
    | with_reducible apply Chip.updStrm_fr
    | with_reducible apply Chip.updSvcBody_fr
    | with_reducible apply Chip.updRec_fr
    | intro _
    | split
    | (extract_lets +onlyGivenNames x; refine (fun hx : Fr f a x => ?_) ?_; (on_goal 1 => clear_value x); (on_goal 2 => subst x))
    | (extract_lets +onlyGivenNames x; refine (fun hx : Fr f a x.2 => ?_) ?_; (on_goal 1 => clear_value x); (on_goal 2 => subst x))
    | (extract_lets +onlyGivenNames x; clear_value x)
    | dsimp only

theorem Chip.feed_fr {f : Frame} {a c : Chip} {b0_} {ch_} (h : Fr f a c) (hp_doors : Part.doors ∈ f.parts) (hp_rates : Part.rates ∈ f.parts) (hp_pond : Part.pond ∈ f.parts) (hp_engines : Part.engines ∈ f.parts) (hp_basins : Part.basins ∈ f.parts) (hp_svc : Part.svc ∈ f.parts) (hp_pwr : Part.pwr ∈ f.parts) (hr_PWR_STATUS : f.regs .PWR_STATUS = true) :
    Fr f a (Chip.feed c b0_ ch_) := by
  unfold Chip.feed
  repeat' first
    | with_reducible assumption
    | with_reducible apply Chip.updBind_fr
    | with_reducible apply Chip.updSvcBody_fr
    | with_reducible apply Chip.openBindRec_fr
    | with_reducible apply Chip.appendRec_fr
    | with_reducible apply Chip.closeBindRec_fr
    | intro _
    | split
    | (extract_lets +onlyGivenNames x; refine (fun hx : Fr f a x => ?_) ?_; (on_goal 1 => clear_value x); (on_goal 2 => subst x))
    | (extract_lets +onlyGivenNames x; refine (fun hx : Fr f a x.2 => ?_) ?_; (on_goal 1 => clear_value x); (on_goal 2 => subst x))
    | (extract_lets +onlyGivenNames x; clear_value x)
    | dsimp only

theorem Chip.flagRec_fr {f : Frame} {a c : Chip} {b_} {rflags_} (h : Fr f a c) (hp_svc : Part.svc ∈ f.parts) :
    Fr f a (Chip.flagRec c b_ rflags_) := by
  unfold Chip.flagRec
  repeat' first
    | with_reducible assumption
    | with_reducible apply Chip.updRec_fr
    | intro _
    | split
    | (extract_lets +onlyGivenNames x; refine (fun hx : Fr f a x => ?_) ?_; (on_goal 1 => clear_value x); (on_goal 2 => subst x))
    | (extract_lets +onlyGivenNames x; refine (fun hx : Fr f a x.2 => ?_) ?_; (on_goal 1 => clear_value x); (on_goal 2 => subst x))
    | (extract_lets +onlyGivenNames x; clear_value x)
    | dsimp only

theorem Chip.keyDown_fr {f : Frame} {a c : Chip} {b0_} {layer_} {usage_} (h : Fr f a c) (hp_doors : Part.doors ∈ f.parts) (hp_rates : Part.rates ∈ f.parts) (hp_pond : Part.pond ∈ f.parts) (hp_engines : Part.engines ∈ f.parts) (hp_basins : Part.basins ∈ f.parts) (hp_svc : Part.svc ∈ f.parts) (hp_pwr : Part.pwr ∈ f.parts) (hr_PWR_STATUS : f.regs .PWR_STATUS = true) :
    Fr f a (Chip.keyDown c b0_ layer_ usage_) := by
  unfold Chip.keyDown
  repeat' first
    | with_reducible assumption
    | with_reducible apply Chip.openBindRec_fr
    | with_reducible apply Chip.updBind_fr
    | with_reducible apply Chip.flagRec_fr
    | with_reducible apply Chip.feed_fr
    | intro _
    | split
    | (extract_lets +onlyGivenNames x; refine (fun hx : Fr f a x => ?_) ?_; (on_goal 1 => clear_value x); (on_goal 2 => subst x))
    | (extract_lets +onlyGivenNames x; refine (fun hx : Fr f a x.2 => ?_) ?_; (on_goal 1 => clear_value x); (on_goal 2 => subst x))
    | (extract_lets +onlyGivenNames x; clear_value x)
    | dsimp only

theorem Chip.jobStart_fr {f : Frame} {a c : Chip} {b_} (h : Fr f a c) (hp_doors : Part.doors ∈ f.parts) (hp_rates : Part.rates ∈ f.parts) (hp_pond : Part.pond ∈ f.parts) (hp_engines : Part.engines ∈ f.parts) (hp_basins : Part.basins ∈ f.parts) (hp_svc : Part.svc ∈ f.parts) (hp_pwr : Part.pwr ∈ f.parts) (hr_PWR_STATUS : f.regs .PWR_STATUS = true) :
    Fr f a (Chip.jobStart c b_) := by
  unfold Chip.jobStart
  repeat' first
    | with_reducible assumption
    | with_reducible apply Chip.updStrm_fr
    | with_reducible apply Chip.updBind_fr
    | with_reducible apply Chip.updSvcBody_fr
    | with_reducible apply Chip.printerRec_fr
    | intro _
    | split
    | (extract_lets +onlyGivenNames x; refine (fun hx : Fr f a x => ?_) ?_; (on_goal 1 => clear_value x); (on_goal 2 => subst x))
    | (extract_lets +onlyGivenNames x; refine (fun hx : Fr f a x.2 => ?_) ?_; (on_goal 1 => clear_value x); (on_goal 2 => subst x))
    | (extract_lets +onlyGivenNames x; clear_value x)
    | dsimp only

/-! ### Machine/Trunk.lean -/

theorem Chip.learn_fr {f : Frame} {a c : Chip} {l_} {f_} (h : Fr f a c) (hp_trunk : Part.trunk ∈ f.parts) :
    Fr f a (Chip.learn c l_ f_) := by
  unfold Chip.learn
  repeat' first
    | with_reducible assumption
    | with_reducible apply Chip.flushWaiting_fr
    | with_reducible apply Chip.updLane_fr
    | intro _
    | split
    | (extract_lets +onlyGivenNames x; refine (fun hx : Fr f a x => ?_) ?_; (on_goal 1 => clear_value x); (on_goal 2 => subst x))
    | (extract_lets +onlyGivenNames x; refine (fun hx : Fr f a x.2 => ?_) ?_; (on_goal 1 => clear_value x); (on_goal 2 => subst x))
    | (extract_lets +onlyGivenNames x; clear_value x)
    | dsimp only

theorem Chip.frameAsleep_fr {f : Frame} {a c : Chip} {l_} {f_} (h : Fr f a c) (hp_clk : Part.clk ∈ f.parts) (hp_doors : Part.doors ∈ f.parts) (hp_pwr : Part.pwr ∈ f.parts) (hp_bead : Part.bead ∈ f.parts) (hr_CDC_OVR : f.regs .CDC_OVR = true) (hr_GLB_FAULT : f.regs .GLB_FAULT = true) (hr_PWR_WAKE_CAUSE : f.regs .PWR_WAKE_CAUSE = true) (hr_TRK_ERR : ∀ n, f.regs (.TRK_ERR n) = true) :
    Fr f a (Chip.frameAsleep c l_ f_) := by
  unfold Chip.frameAsleep
  repeat' first
    | with_reducible assumption
    | with_reducible exact hr_TRK_ERR _
    | with_reducible apply Chip.wakeCross_fr
    | with_reducible apply Chip.frameErr_fr
    | intro _
    | split
    | (extract_lets +onlyGivenNames x; refine (fun hx : Fr f a x => ?_) ?_; (on_goal 1 => clear_value x); (on_goal 2 => subst x))
    | (extract_lets +onlyGivenNames x; refine (fun hx : Fr f a x.2 => ?_) ?_; (on_goal 1 => clear_value x); (on_goal 2 => subst x))
    | (extract_lets +onlyGivenNames x; clear_value x)
    | dsimp only

theorem Chip.crcFail_fr {f : Frame} {a c : Chip} {l_} (h : Fr f a c) (hp_trunk : Part.trunk ∈ f.parts) (hr_TRK_ERR : ∀ n, f.regs (.TRK_ERR n) = true) :
    Fr f a (Chip.crcFail c l_) := by
  unfold Chip.crcFail
  repeat' first
    | with_reducible assumption
    | with_reducible exact hr_TRK_ERR _
    | with_reducible apply Chip.incSat_fr
    | with_reducible apply Chip.updLane_fr
    | intro _
    | split
    | (extract_lets +onlyGivenNames x; refine (fun hx : Fr f a x => ?_) ?_; (on_goal 1 => clear_value x); (on_goal 2 => subst x))
    | (extract_lets +onlyGivenNames x; refine (fun hx : Fr f a x.2 => ?_) ?_; (on_goal 1 => clear_value x); (on_goal 2 => subst x))
    | (extract_lets +onlyGivenNames x; clear_value x)
    | dsimp only

theorem Chip.frameAwake_fr {f : Frame} {a c : Chip} {l_} {f_} (h : Fr f a c) (hp_trunk : Part.trunk ∈ f.parts) (hp_doors : Part.doors ∈ f.parts) (hp_rates : Part.rates ∈ f.parts) (hp_basins : Part.basins ∈ f.parts) (hp_pwr : Part.pwr ∈ f.parts) (hr_PWR_STATUS : f.regs .PWR_STATUS = true) (hr_TRK_ERR : ∀ n, f.regs (.TRK_ERR n) = true) :
    Fr f a (Chip.frameAwake c l_ f_) := by
  unfold Chip.frameAwake
  repeat' first
    | with_reducible assumption
    | with_reducible exact hr_TRK_ERR _
    | with_reducible apply Chip.frameErr_fr
    | with_reducible apply Chip.crcFail_fr
    | with_reducible apply Chip.learn_fr
    | with_reducible apply Chip.active_fr
    | with_reducible apply Chip.deliver_fr
    | with_reducible apply Chip.takeFrame_fr
    | intro _
    | split
    | (extract_lets +onlyGivenNames x; refine (fun hx : Fr f a x => ?_) ?_; (on_goal 1 => clear_value x); (on_goal 2 => subst x))
    | (extract_lets +onlyGivenNames x; refine (fun hx : Fr f a x.2 => ?_) ?_; (on_goal 1 => clear_value x); (on_goal 2 => subst x))
    | (extract_lets +onlyGivenNames x; clear_value x)
    | dsimp only

theorem Chip.streamIn_fr {f : Frame} {a c : Chip} {st_} {f_} (h : Fr f a c) (hp_doors : Part.doors ∈ f.parts) (hp_cullet : Part.cullet ∈ f.parts) (hp_rates : Part.rates ∈ f.parts) (hp_basins : Part.basins ∈ f.parts) (hp_svc : Part.svc ∈ f.parts) (hp_pwr : Part.pwr ∈ f.parts) (hr_PWR_STATUS : f.regs .PWR_STATUS = true) :
    Fr f a (Chip.streamIn c st_ f_) := by
  unfold Chip.streamIn
  repeat' first
    | with_reducible assumption
    | with_reducible apply Chip.postOwn_fr
    | with_reducible apply Chip.cullDev_fr
    | with_reducible apply Chip.evOverrun_fr
    | with_reducible apply Chip.active_fr
    | with_reducible apply Chip.updStrm_fr
    | intro _
    | split
    | (extract_lets +onlyGivenNames x; refine (fun hx : Fr f a x => ?_) ?_; (on_goal 1 => clear_value x); (on_goal 2 => subst x))
    | (extract_lets +onlyGivenNames x; refine (fun hx : Fr f a x.2 => ?_) ?_; (on_goal 1 => clear_value x); (on_goal 2 => subst x))
    | (extract_lets +onlyGivenNames x; clear_value x)
    | dsimp only

theorem Chip.takeLane_fr {f : Frame} {a c c' : Chip} {l sub} {y} (e : c.takeLane l sub = some (y, c')) (h : Fr f a c)
    (hp_trunk : Part.trunk ∈ f.parts) : Fr f a c' := by
  unfold Chip.takeLane at e
  split at e
  · exact Chip.takeDelivered_fr e h ‹_›
  · exact absurd e (by simp)

theorem Chip.swapDone_fr {f : Frame} {a c : Chip} {st_} (h : Fr f a c) (hp_doors : Part.doors ∈ f.parts) :
    Fr f a (Chip.swapDone c st_) := by
  unfold Chip.swapDone
  repeat' first
    | with_reducible assumption
    | with_reducible apply Chip.post_fr
    | intro _
    | split
    | (extract_lets +onlyGivenNames x; refine (fun hx : Fr f a x => ?_) ?_; (on_goal 1 => clear_value x); (on_goal 2 => subst x))
    | (extract_lets +onlyGivenNames x; refine (fun hx : Fr f a x.2 => ?_) ?_; (on_goal 1 => clear_value x); (on_goal 2 => subst x))
    | (extract_lets +onlyGivenNames x; clear_value x)
    | dsimp only

theorem Chip.sendPtp_fr {f : Frame} {a c : Chip} {l_} {m_} (h : Fr f a c) (hp_trunk : Part.trunk ∈ f.parts) :
    Fr f a (Chip.sendPtp c l_ m_) := by
  unfold Chip.sendPtp
  repeat' first
    | with_reducible assumption
    | with_reducible apply Chip.emit_fr
    | intro _
    | split
    | (extract_lets +onlyGivenNames x; refine (fun hx : Fr f a x => ?_) ?_; (on_goal 1 => clear_value x); (on_goal 2 => subst x))
    | (extract_lets +onlyGivenNames x; refine (fun hx : Fr f a x.2 => ?_) ?_; (on_goal 1 => clear_value x); (on_goal 2 => subst x))
    | (extract_lets +onlyGivenNames x; clear_value x)
    | dsimp only

theorem Chip.laneUp_fr {f : Frame} {a c : Chip} {l_} (h : Fr f a c) (hp_trunk : Part.trunk ∈ f.parts) (hr_TRK_STATUS : f.regs .TRK_STATUS = true) :
    Fr f a (Chip.laneUp c l_) := by
  unfold Chip.laneUp
  repeat' first
    | with_reducible assumption
    | with_reducible apply Chip.updLane_fr
    | with_reducible apply Chip.setUp_fr
    | with_reducible apply Chip.swapDegraded_fr
    | with_reducible apply Chip.syncTrunk_fr
    | with_reducible apply Chip.updTrunk_fr
    | intro _
    | split
    | (extract_lets +onlyGivenNames x; refine (fun hx : Fr f a x => ?_) ?_; (on_goal 1 => clear_value x); (on_goal 2 => subst x))
    | (extract_lets +onlyGivenNames x; refine (fun hx : Fr f a x.2 => ?_) ?_; (on_goal 1 => clear_value x); (on_goal 2 => subst x))
    | (extract_lets +onlyGivenNames x; clear_value x)
    | dsimp only

theorem Chip.sendRecs_fr {f : Frame} {a c : Chip} {st_} {rs_} (h : Fr f a c) (hp_trunk : Part.trunk ∈ f.parts) (hr_TRK_SPILL : f.regs .TRK_SPILL = true) :
    Fr f a (Chip.sendRecs c st_ rs_) := by
  unfold Chip.sendRecs
  repeat' first
    | with_reducible assumption
    | with_reducible apply Fr.each
    | with_reducible apply Chip.sendFrame_fr
    | intro _
    | split
    | (extract_lets +onlyGivenNames x; refine (fun hx : Fr f a x => ?_) ?_; (on_goal 1 => clear_value x); (on_goal 2 => subst x))
    | (extract_lets +onlyGivenNames x; refine (fun hx : Fr f a x.2 => ?_) ?_; (on_goal 1 => clear_value x); (on_goal 2 => subst x))
    | (extract_lets +onlyGivenNames x; clear_value x)
    | dsimp only

theorem Chip.sendCredit_fr {f : Frame} {a c : Chip} {st_} (h : Fr f a c) (hp_trunk : Part.trunk ∈ f.parts) (hp_basins : Part.basins ∈ f.parts) (hp_svc : Part.svc ∈ f.parts) (hp_pwr : Part.pwr ∈ f.parts) (hr_PWR_STATUS : f.regs .PWR_STATUS = true) (hr_TRK_SPILL : f.regs .TRK_SPILL = true) :
    Fr f a (Chip.sendCredit c st_) := by
  unfold Chip.sendCredit
  repeat' first
    | with_reducible assumption
    | with_reducible apply Chip.active_fr
    | with_reducible apply Chip.sendFrame_fr
    | with_reducible apply Chip.updStrm_fr
    | intro _
    | split
    | (extract_lets +onlyGivenNames x; refine (fun hx : Fr f a x => ?_) ?_; (on_goal 1 => clear_value x); (on_goal 2 => subst x))
    | (extract_lets +onlyGivenNames x; refine (fun hx : Fr f a x.2 => ?_) ?_; (on_goal 1 => clear_value x); (on_goal 2 => subst x))
    | (extract_lets +onlyGivenNames x; clear_value x)
    | dsimp only

theorem Chip.takeTurn_fr {f : Frame} {a c : Chip} {l_} {id_} {k_} (h : Fr f a c) (hp_trunk : Part.trunk ∈ f.parts) (hp_svc : Part.svc ∈ f.parts) :
    Fr f a (Chip.takeTurn c l_ id_ k_) := by
  unfold Chip.takeTurn
  repeat' first
    | with_reducible assumption
    | with_reducible apply Fr.each
    | with_reducible apply Chip.updStrm_fr
    | with_reducible apply Chip.updLane_fr
    | intro _
    | split
    | (extract_lets +onlyGivenNames x; refine (fun hx : Fr f a x => ?_) ?_; (on_goal 1 => clear_value x); (on_goal 2 => subst x))
    | (extract_lets +onlyGivenNames x; refine (fun hx : Fr f a x.2 => ?_) ?_; (on_goal 1 => clear_value x); (on_goal 2 => subst x))
    | (extract_lets +onlyGivenNames x; clear_value x)
    | dsimp only

theorem Chip.sendStrm_fr {f : Frame} {a c : Chip} {st_} {turn_} (h : Fr f a c) (hp_trunk : Part.trunk ∈ f.parts) (hp_basins : Part.basins ∈ f.parts) (hp_svc : Part.svc ∈ f.parts) (hp_pwr : Part.pwr ∈ f.parts) (hr_PWR_STATUS : f.regs .PWR_STATUS = true) (hr_TRK_SPILL : f.regs .TRK_SPILL = true) :
    Fr f a (Chip.sendStrm c st_ turn_) := by
  unfold Chip.sendStrm
  repeat' first
    | with_reducible assumption
    | with_reducible apply Chip.takeTurn_fr
    | with_reducible apply Chip.sendCredit_fr
    | with_reducible apply Chip.active_fr
    | with_reducible apply Chip.sendRecs_fr
    | with_reducible apply Chip.updStrm_fr
    | intro _
    | split
    | (extract_lets +onlyGivenNames x; refine (fun hx : Fr f a x => ?_) ?_; (on_goal 1 => clear_value x); (on_goal 2 => subst x))
    | (extract_lets +onlyGivenNames x; refine (fun hx : Fr f a x.2 => ?_) ?_; (on_goal 1 => clear_value x); (on_goal 2 => subst x))
    | (extract_lets +onlyGivenNames x; clear_value x)
    | dsimp only

/-! ### Machine/Tick.lean -/

theorem Chip.carried_fr {f : Frame} {a c : Chip} {x_} (h : Fr f a c) (hp_clk : Part.clk ∈ f.parts) (hp_trunk : Part.trunk ∈ f.parts) (hp_doors : Part.doors ∈ f.parts) (hp_reqs : Part.reqs ∈ f.parts) (hp_rates : Part.rates ∈ f.parts) (hp_pond : Part.pond ∈ f.parts) (hp_engines : Part.engines ∈ f.parts) (hp_ports : Part.ports ∈ f.parts) (hp_chans : Part.chans ∈ f.parts) (hp_sei : Part.sei ∈ f.parts) (hp_pwr : Part.pwr ∈ f.parts) (hp_bead : Part.bead ∈ f.parts) (hp_fab : Part.fab ∈ f.parts) (hr_BELT_RATE : ∀ n, f.regs (.BELT_RATE n) = true) (hr_BELT_STATUS : ∀ n, f.regs (.BELT_STATUS n) = true) (hr_BOOT_OVR : f.regs .BOOT_OVR = true) (hr_CLK_STATUS : f.regs .CLK_STATUS = true) (hr_CW_STATUS : f.regs .CW_STATUS = true) (hr_DROP_STATUS : ∀ n, f.regs (.DROP_STATUS n) = true) (hr_ESC_LAST : f.regs .ESC_LAST = true) (hr_GLB_FAULT : f.regs .GLB_FAULT = true) (hr_LINE_ERR : ∀ n, f.regs (.LINE_ERR n) = true) (hr_LINE_TDC : ∀ n, f.regs (.LINE_TDC n) = true) (hr_PD_STATUS : ∀ n, f.regs (.PD_STATUS n) = true) (hr_PD_VOUT : ∀ n, f.regs (.PD_VOUT n) = true) (hr_POND_STATUS : f.regs .POND_STATUS = true) (hr_PWR_WAKE_CAUSE : f.regs .PWR_WAKE_CAUSE = true) (hr_SEI_UNCERT : f.regs .SEI_UNCERT = true) (hr_TRK_SPILL : f.regs .TRK_SPILL = true) (hr_TRK_STATUS : f.regs .TRK_STATUS = true) :
    Fr f a (Chip.carried c x_) := by
  unfold Chip.carried
  repeat' first
    | with_reducible assumption
    | with_reducible exact hr_BELT_RATE _
    | with_reducible exact hr_BELT_STATUS _
    | with_reducible exact hr_DROP_STATUS _
    | with_reducible exact hr_LINE_ERR _
    | with_reducible exact hr_LINE_TDC _
    | with_reducible exact hr_PD_STATUS _
    | with_reducible exact hr_PD_VOUT _
    | with_reducible apply Chip.wakeReq_fr
    | with_reducible apply Chip.regAct_fr
    | with_reducible apply Chip.remoteWake_fr
    | intro _
    | split
    | (extract_lets +onlyGivenNames x; refine (fun hx : Fr f a x => ?_) ?_; (on_goal 1 => clear_value x); (on_goal 2 => subst x))
    | (extract_lets +onlyGivenNames x; refine (fun hx : Fr f a x.2 => ?_) ?_; (on_goal 1 => clear_value x); (on_goal 2 => subst x))
    | (extract_lets +onlyGivenNames x; clear_value x)
    | dsimp only

theorem Chip.deliverDue_fr {f : Frame} {a c : Chip}  (h : Fr f a c) (hp_clk : Part.clk ∈ f.parts) (hp_trunk : Part.trunk ∈ f.parts) (hp_doors : Part.doors ∈ f.parts) (hp_reqs : Part.reqs ∈ f.parts) (hp_rates : Part.rates ∈ f.parts) (hp_pond : Part.pond ∈ f.parts) (hp_engines : Part.engines ∈ f.parts) (hp_ports : Part.ports ∈ f.parts) (hp_chans : Part.chans ∈ f.parts) (hp_sei : Part.sei ∈ f.parts) (hp_pwr : Part.pwr ∈ f.parts) (hp_bead : Part.bead ∈ f.parts) (hp_fab : Part.fab ∈ f.parts) (hr_BELT_RATE : ∀ n, f.regs (.BELT_RATE n) = true) (hr_BELT_STATUS : ∀ n, f.regs (.BELT_STATUS n) = true) (hr_BOOT_OVR : f.regs .BOOT_OVR = true) (hr_CLK_STATUS : f.regs .CLK_STATUS = true) (hr_CW_STATUS : f.regs .CW_STATUS = true) (hr_DROP_STATUS : ∀ n, f.regs (.DROP_STATUS n) = true) (hr_ESC_LAST : f.regs .ESC_LAST = true) (hr_GLB_FAULT : f.regs .GLB_FAULT = true) (hr_LINE_ERR : ∀ n, f.regs (.LINE_ERR n) = true) (hr_LINE_TDC : ∀ n, f.regs (.LINE_TDC n) = true) (hr_PD_STATUS : ∀ n, f.regs (.PD_STATUS n) = true) (hr_PD_VOUT : ∀ n, f.regs (.PD_VOUT n) = true) (hr_POND_STATUS : f.regs .POND_STATUS = true) (hr_PWR_WAKE_CAUSE : f.regs .PWR_WAKE_CAUSE = true) (hr_SEI_UNCERT : f.regs .SEI_UNCERT = true) (hr_TRK_SPILL : f.regs .TRK_SPILL = true) (hr_TRK_STATUS : f.regs .TRK_STATUS = true) :
    Fr f a (Chip.deliverDue c) := by
  unfold Chip.deliverDue
  repeat' first
    | with_reducible assumption
    | with_reducible exact hr_BELT_RATE _
    | with_reducible exact hr_BELT_STATUS _
    | with_reducible exact hr_DROP_STATUS _
    | with_reducible exact hr_LINE_ERR _
    | with_reducible exact hr_LINE_TDC _
    | with_reducible exact hr_PD_STATUS _
    | with_reducible exact hr_PD_VOUT _
    | with_reducible apply Chip.deliverHeld_fr
    | with_reducible apply Chip.carried_fr
    | intro _
    | split
    | (extract_lets +onlyGivenNames x; refine (fun hx : Fr f a x => ?_) ?_; (on_goal 1 => clear_value x); (on_goal 2 => subst x))
    | (extract_lets +onlyGivenNames x; refine (fun hx : Fr f a x.2 => ?_) ?_; (on_goal 1 => clear_value x); (on_goal 2 => subst x))
    | (extract_lets +onlyGivenNames x; clear_value x)
    | dsimp only

theorem Chip.driveDue_fr {f : Frame} {a c : Chip}  (h : Fr f a c) (hp_fl : Part.fl ∈ f.parts) (hp_ports : Part.ports ∈ f.parts) (hp_chans : Part.chans ∈ f.parts) (hr_CH_CMD : ∀ n, f.regs (.CH_CMD n) = true) (hr_DROP_STATUS : ∀ n, f.regs (.DROP_STATUS n) = true) :
    Fr f a (Chip.driveDue c) := by
  unfold Chip.driveDue
  repeat' first
    | with_reducible assumption
    | with_reducible exact hr_CH_CMD _
    | with_reducible exact hr_DROP_STATUS _
    | with_reducible apply Fr.each
    | with_reducible apply Chip.driveK_fr
    | intro _
    | split
    | (extract_lets +onlyGivenNames x; refine (fun hx : Fr f a x => ?_) ?_; (on_goal 1 => clear_value x); (on_goal 2 => subst x))
    | (extract_lets +onlyGivenNames x; refine (fun hx : Fr f a x.2 => ?_) ?_; (on_goal 1 => clear_value x); (on_goal 2 => subst x))
    | (extract_lets +onlyGivenNames x; clear_value x)
    | dsimp only

theorem Chip.tick_fr {f : Frame} {a c : Chip}  (h : Fr f a c) (hp_clk : Part.clk ∈ f.parts) (hp_fl : Part.fl ∈ f.parts) (hp_trunk : Part.trunk ∈ f.parts) (hp_doors : Part.doors ∈ f.parts) (hp_reqs : Part.reqs ∈ f.parts) (hp_rates : Part.rates ∈ f.parts) (hp_pond : Part.pond ∈ f.parts) (hp_engines : Part.engines ∈ f.parts) (hp_basins : Part.basins ∈ f.parts) (hp_ports : Part.ports ∈ f.parts) (hp_chans : Part.chans ∈ f.parts) (hp_sei : Part.sei ∈ f.parts) (hp_svc : Part.svc ∈ f.parts) (hp_pwr : Part.pwr ∈ f.parts) (hp_bead : Part.bead ∈ f.parts) (hp_fab : Part.fab ∈ f.parts) (hr_BELT_RATE : ∀ n, f.regs (.BELT_RATE n) = true) (hr_BELT_STATUS : ∀ n, f.regs (.BELT_STATUS n) = true) (hr_BOOT_OVR : f.regs .BOOT_OVR = true) (hr_CH_CMD : ∀ n, f.regs (.CH_CMD n) = true) (hr_CLK_STATUS : f.regs .CLK_STATUS = true) (hr_CW_STATUS : f.regs .CW_STATUS = true) (hr_DROP_STATUS : ∀ n, f.regs (.DROP_STATUS n) = true) (hr_ESC_LAST : f.regs .ESC_LAST = true) (hr_GLB_FAULT : f.regs .GLB_FAULT = true) (hr_HOLDER_USED : ∀ n, f.regs (.HOLDER_USED n) = true) (hr_LINE_ERR : ∀ n, f.regs (.LINE_ERR n) = true) (hr_LINE_TDC : ∀ n, f.regs (.LINE_TDC n) = true) (hr_PD_STATUS : ∀ n, f.regs (.PD_STATUS n) = true) (hr_PD_VOUT : ∀ n, f.regs (.PD_VOUT n) = true) (hr_POND_FREE : f.regs .POND_FREE = true) (hr_POND_STATUS : f.regs .POND_STATUS = true) (hr_POND_WAIT : f.regs .POND_WAIT = true) (hr_PWR_STATUS : f.regs .PWR_STATUS = true) (hr_PWR_WAKE_CAUSE : f.regs .PWR_WAKE_CAUSE = true) (hr_SEI_UNCERT : f.regs .SEI_UNCERT = true) (hr_SVC_STATUS : f.regs .SVC_STATUS = true) (hr_TRK_SPILL : f.regs .TRK_SPILL = true) (hr_TRK_STATUS : f.regs .TRK_STATUS = true) :
    Fr f a (Chip.tick c) := by
  unfold Chip.tick
  repeat' first
    | with_reducible assumption
    | with_reducible exact hr_BELT_RATE _
    | with_reducible exact hr_BELT_STATUS _
    | with_reducible exact hr_CH_CMD _
    | with_reducible exact hr_DROP_STATUS _
    | with_reducible exact hr_HOLDER_USED _
    | with_reducible exact hr_LINE_ERR _
    | with_reducible exact hr_LINE_TDC _
    | with_reducible exact hr_PD_STATUS _
    | with_reducible exact hr_PD_VOUT _
    | with_reducible apply Chip.zTakeAll_fr
    | with_reducible apply Chip.updClk_fr
    | with_reducible apply Chip.updSei_fr
    | with_reducible apply Chip.pdDecideAll_fr
    | with_reducible apply Chip.driveDue_fr
    | with_reducible apply Chip.deliverDue_fr
    | with_reducible apply Chip.gateBasins_fr
    | with_reducible apply Fr.each
    | with_reducible apply Chip.refuseUnknown_fr
    | with_reducible apply Chip.settle_fr
    | with_reducible apply Chip.svcResponses_fr
    | intro _
    | split
    | (extract_lets +onlyGivenNames x; refine (fun hx : Fr f a x => ?_) ?_; (on_goal 1 => clear_value x); (on_goal 2 => subst x))
    | (extract_lets +onlyGivenNames x; refine (fun hx : Fr f a x.2 => ?_) ?_; (on_goal 1 => clear_value x); (on_goal 2 => subst x))
    | (extract_lets +onlyGivenNames x; clear_value x)
    | dsimp only

end Sys2Proof.Laws
end

