-- ==== Sys2Proof/Laws/State.lean ====
section
/-! SUPPORT. What each update of the state leaves and what it changes: one lemma per field per update. -/

namespace Sys2Proof.Laws

open Sys2Proof.Machine

/-! ### wr -/

@[simp] theorem wr_regs (c : Chip) (r : Reg) (v : Word) : (c.wr r v).regs = regSet c.regs r v := rfl
@[simp] theorem wr_clk (c : Chip) (r : Reg) (v : Word) : (c.wr r v).clk = c.clk := rfl
@[simp] theorem wr_fl (c : Chip) (r : Reg) (v : Word) : (c.wr r v).fl = c.fl := rfl
@[simp] theorem wr_fw (c : Chip) (r : Reg) (v : Word) : (c.wr r v).fw = c.fw := rfl
@[simp] theorem wr_trunk (c : Chip) (r : Reg) (v : Word) : (c.wr r v).trunk = c.trunk := rfl
@[simp] theorem wr_doors (c : Chip) (r : Reg) (v : Word) : (c.wr r v).doors = c.doors := rfl
@[simp] theorem wr_cullet (c : Chip) (r : Reg) (v : Word) : (c.wr r v).cullet = c.cullet := rfl
@[simp] theorem wr_culletLost (c : Chip) (r : Reg) (v : Word) : (c.wr r v).culletLost = c.culletLost := rfl
@[simp] theorem wr_nextOrd (c : Chip) (r : Reg) (v : Word) : (c.wr r v).nextOrd = c.nextOrd := rfl
@[simp] theorem wr_rates (c : Chip) (r : Reg) (v : Word) : (c.wr r v).rates = c.rates := rfl
@[simp] theorem wr_svcPort (c : Chip) (r : Reg) (v : Word) : (c.wr r v).svcPort = c.svcPort := rfl
@[simp] theorem wr_pond (c : Chip) (r : Reg) (v : Word) : (c.wr r v).pond = c.pond := rfl
@[simp] theorem wr_engines (c : Chip) (r : Reg) (v : Word) : (c.wr r v).engines = c.engines := rfl
@[simp] theorem wr_basins (c : Chip) (r : Reg) (v : Word) : (c.wr r v).basins = c.basins := rfl
@[simp] theorem wr_ports (c : Chip) (r : Reg) (v : Word) : (c.wr r v).ports = c.ports := rfl
@[simp] theorem wr_chans (c : Chip) (r : Reg) (v : Word) : (c.wr r v).chans = c.chans := rfl
@[simp] theorem wr_rails (c : Chip) (r : Reg) (v : Word) : (c.wr r v).rails = c.rails := rfl
@[simp] theorem wr_sei (c : Chip) (r : Reg) (v : Word) : (c.wr r v).sei = c.sei := rfl
@[simp] theorem wr_svc (c : Chip) (r : Reg) (v : Word) : (c.wr r v).svc = c.svc := rfl
@[simp] theorem wr_pwr (c : Chip) (r : Reg) (v : Word) : (c.wr r v).pwr = c.pwr := rfl
@[simp] theorem wr_bead (c : Chip) (r : Reg) (v : Word) : (c.wr r v).bead = c.bead := rfl
@[simp] theorem wr_fab (c : Chip) (r : Reg) (v : Word) : (c.wr r v).fab = c.fab := rfl
@[simp] theorem wr_ladders (c : Chip) (r : Reg) (v : Word) : (c.wr r v).ladders = c.ladders := rfl
@[simp] theorem wr_freeCtr (c : Chip) (r : Reg) (v : Word) : (c.wr r v).freeCtr = c.freeCtr := rfl

/-! ### updPort -/

@[simp] theorem updPort_regs (c : Chip) (n : Port) (f : PortSt → PortSt) : (c.updPort n f).regs = c.regs := rfl
@[simp] theorem updPort_clk (c : Chip) (n : Port) (f : PortSt → PortSt) : (c.updPort n f).clk = c.clk := rfl
@[simp] theorem updPort_fl (c : Chip) (n : Port) (f : PortSt → PortSt) : (c.updPort n f).fl = c.fl := rfl
@[simp] theorem updPort_fw (c : Chip) (n : Port) (f : PortSt → PortSt) : (c.updPort n f).fw = c.fw := rfl
@[simp] theorem updPort_trunk (c : Chip) (n : Port) (f : PortSt → PortSt) : (c.updPort n f).trunk = c.trunk := rfl
@[simp] theorem updPort_doors (c : Chip) (n : Port) (f : PortSt → PortSt) : (c.updPort n f).doors = c.doors := rfl
@[simp] theorem updPort_cullet (c : Chip) (n : Port) (f : PortSt → PortSt) : (c.updPort n f).cullet = c.cullet := rfl
@[simp] theorem updPort_culletLost (c : Chip) (n : Port) (f : PortSt → PortSt) : (c.updPort n f).culletLost = c.culletLost := rfl
@[simp] theorem updPort_nextOrd (c : Chip) (n : Port) (f : PortSt → PortSt) : (c.updPort n f).nextOrd = c.nextOrd := rfl
@[simp] theorem updPort_rates (c : Chip) (n : Port) (f : PortSt → PortSt) : (c.updPort n f).rates = c.rates := rfl
@[simp] theorem updPort_svcPort (c : Chip) (n : Port) (f : PortSt → PortSt) : (c.updPort n f).svcPort = c.svcPort := rfl
@[simp] theorem updPort_pond (c : Chip) (n : Port) (f : PortSt → PortSt) : (c.updPort n f).pond = c.pond := rfl
@[simp] theorem updPort_engines (c : Chip) (n : Port) (f : PortSt → PortSt) : (c.updPort n f).engines = c.engines := rfl
@[simp] theorem updPort_basins (c : Chip) (n : Port) (f : PortSt → PortSt) : (c.updPort n f).basins = c.basins := rfl
@[simp] theorem updPort_ports (c : Chip) (n : Port) (f : PortSt → PortSt) : (c.updPort n f).ports = c.ports.set n (f c.ports[n]) := rfl
@[simp] theorem updPort_chans (c : Chip) (n : Port) (f : PortSt → PortSt) : (c.updPort n f).chans = c.chans := rfl
@[simp] theorem updPort_rails (c : Chip) (n : Port) (f : PortSt → PortSt) : (c.updPort n f).rails = c.rails := rfl
@[simp] theorem updPort_sei (c : Chip) (n : Port) (f : PortSt → PortSt) : (c.updPort n f).sei = c.sei := rfl
@[simp] theorem updPort_svc (c : Chip) (n : Port) (f : PortSt → PortSt) : (c.updPort n f).svc = c.svc := rfl
@[simp] theorem updPort_pwr (c : Chip) (n : Port) (f : PortSt → PortSt) : (c.updPort n f).pwr = c.pwr := rfl
@[simp] theorem updPort_bead (c : Chip) (n : Port) (f : PortSt → PortSt) : (c.updPort n f).bead = c.bead := rfl
@[simp] theorem updPort_fab (c : Chip) (n : Port) (f : PortSt → PortSt) : (c.updPort n f).fab = c.fab := rfl
@[simp] theorem updPort_ladders (c : Chip) (n : Port) (f : PortSt → PortSt) : (c.updPort n f).ladders = c.ladders := rfl
@[simp] theorem updPort_freeCtr (c : Chip) (n : Port) (f : PortSt → PortSt) : (c.updPort n f).freeCtr = c.freeCtr := rfl
@[simp] theorem updPort_rd (c : Chip) (n : Port) (f : PortSt → PortSt) (q : Reg) : (c.updPort n f).rd q = c.rd q := rfl
@[simp] theorem updPort_get (c : Chip) (n : Port) (f : PortSt → PortSt) (q : Reg) (x : Field) : (c.updPort n f).get q x = c.get q x := rfl

/-! ### updDoor -/

@[simp] theorem updDoor_regs (c : Chip) (d : Door) (f : DoorSt → DoorSt) : (c.updDoor d f).regs = c.regs := rfl
@[simp] theorem updDoor_clk (c : Chip) (d : Door) (f : DoorSt → DoorSt) : (c.updDoor d f).clk = c.clk := rfl
@[simp] theorem updDoor_fl (c : Chip) (d : Door) (f : DoorSt → DoorSt) : (c.updDoor d f).fl = c.fl := rfl
@[simp] theorem updDoor_fw (c : Chip) (d : Door) (f : DoorSt → DoorSt) : (c.updDoor d f).fw = c.fw := rfl
@[simp] theorem updDoor_trunk (c : Chip) (d : Door) (f : DoorSt → DoorSt) : (c.updDoor d f).trunk = c.trunk := rfl
@[simp] theorem updDoor_doors (c : Chip) (d : Door) (f : DoorSt → DoorSt) : (c.updDoor d f).doors = c.doors.set d (f c.doors[d]) := rfl
@[simp] theorem updDoor_cullet (c : Chip) (d : Door) (f : DoorSt → DoorSt) : (c.updDoor d f).cullet = c.cullet := rfl
@[simp] theorem updDoor_culletLost (c : Chip) (d : Door) (f : DoorSt → DoorSt) : (c.updDoor d f).culletLost = c.culletLost := rfl
@[simp] theorem updDoor_nextOrd (c : Chip) (d : Door) (f : DoorSt → DoorSt) : (c.updDoor d f).nextOrd = c.nextOrd := rfl
@[simp] theorem updDoor_rates (c : Chip) (d : Door) (f : DoorSt → DoorSt) : (c.updDoor d f).rates = c.rates := rfl
@[simp] theorem updDoor_svcPort (c : Chip) (d : Door) (f : DoorSt → DoorSt) : (c.updDoor d f).svcPort = c.svcPort := rfl
@[simp] theorem updDoor_pond (c : Chip) (d : Door) (f : DoorSt → DoorSt) : (c.updDoor d f).pond = c.pond := rfl
@[simp] theorem updDoor_engines (c : Chip) (d : Door) (f : DoorSt → DoorSt) : (c.updDoor d f).engines = c.engines := rfl
@[simp] theorem updDoor_basins (c : Chip) (d : Door) (f : DoorSt → DoorSt) : (c.updDoor d f).basins = c.basins := rfl
@[simp] theorem updDoor_ports (c : Chip) (d : Door) (f : DoorSt → DoorSt) : (c.updDoor d f).ports = c.ports := rfl
@[simp] theorem updDoor_chans (c : Chip) (d : Door) (f : DoorSt → DoorSt) : (c.updDoor d f).chans = c.chans := rfl
@[simp] theorem updDoor_rails (c : Chip) (d : Door) (f : DoorSt → DoorSt) : (c.updDoor d f).rails = c.rails := rfl
@[simp] theorem updDoor_sei (c : Chip) (d : Door) (f : DoorSt → DoorSt) : (c.updDoor d f).sei = c.sei := rfl
@[simp] theorem updDoor_svc (c : Chip) (d : Door) (f : DoorSt → DoorSt) : (c.updDoor d f).svc = c.svc := rfl
@[simp] theorem updDoor_pwr (c : Chip) (d : Door) (f : DoorSt → DoorSt) : (c.updDoor d f).pwr = c.pwr := rfl
@[simp] theorem updDoor_bead (c : Chip) (d : Door) (f : DoorSt → DoorSt) : (c.updDoor d f).bead = c.bead := rfl
@[simp] theorem updDoor_fab (c : Chip) (d : Door) (f : DoorSt → DoorSt) : (c.updDoor d f).fab = c.fab := rfl
@[simp] theorem updDoor_ladders (c : Chip) (d : Door) (f : DoorSt → DoorSt) : (c.updDoor d f).ladders = c.ladders := rfl
@[simp] theorem updDoor_freeCtr (c : Chip) (d : Door) (f : DoorSt → DoorSt) : (c.updDoor d f).freeCtr = c.freeCtr := rfl
@[simp] theorem updDoor_rd (c : Chip) (d : Door) (f : DoorSt → DoorSt) (q : Reg) : (c.updDoor d f).rd q = c.rd q := rfl
@[simp] theorem updDoor_get (c : Chip) (d : Door) (f : DoorSt → DoorSt) (q : Reg) (x : Field) : (c.updDoor d f).get q x = c.get q x := rfl

/-! ### updEng -/

@[simp] theorem updEng_regs (c : Chip) (e : Engine) (f : EngineSt → EngineSt) : (c.updEng e f).regs = c.regs := rfl
@[simp] theorem updEng_clk (c : Chip) (e : Engine) (f : EngineSt → EngineSt) : (c.updEng e f).clk = c.clk := rfl
@[simp] theorem updEng_fl (c : Chip) (e : Engine) (f : EngineSt → EngineSt) : (c.updEng e f).fl = c.fl := rfl
@[simp] theorem updEng_fw (c : Chip) (e : Engine) (f : EngineSt → EngineSt) : (c.updEng e f).fw = c.fw := rfl
@[simp] theorem updEng_trunk (c : Chip) (e : Engine) (f : EngineSt → EngineSt) : (c.updEng e f).trunk = c.trunk := rfl
@[simp] theorem updEng_doors (c : Chip) (e : Engine) (f : EngineSt → EngineSt) : (c.updEng e f).doors = c.doors := rfl
@[simp] theorem updEng_cullet (c : Chip) (e : Engine) (f : EngineSt → EngineSt) : (c.updEng e f).cullet = c.cullet := rfl
@[simp] theorem updEng_culletLost (c : Chip) (e : Engine) (f : EngineSt → EngineSt) : (c.updEng e f).culletLost = c.culletLost := rfl
@[simp] theorem updEng_nextOrd (c : Chip) (e : Engine) (f : EngineSt → EngineSt) : (c.updEng e f).nextOrd = c.nextOrd := rfl
@[simp] theorem updEng_rates (c : Chip) (e : Engine) (f : EngineSt → EngineSt) : (c.updEng e f).rates = c.rates := rfl
@[simp] theorem updEng_svcPort (c : Chip) (e : Engine) (f : EngineSt → EngineSt) : (c.updEng e f).svcPort = c.svcPort := rfl
@[simp] theorem updEng_pond (c : Chip) (e : Engine) (f : EngineSt → EngineSt) : (c.updEng e f).pond = c.pond := rfl
@[simp] theorem updEng_engines (c : Chip) (e : Engine) (f : EngineSt → EngineSt) : (c.updEng e f).engines = c.engines.set e (f c.engines[e]) := rfl
@[simp] theorem updEng_basins (c : Chip) (e : Engine) (f : EngineSt → EngineSt) : (c.updEng e f).basins = c.basins := rfl
@[simp] theorem updEng_ports (c : Chip) (e : Engine) (f : EngineSt → EngineSt) : (c.updEng e f).ports = c.ports := rfl
@[simp] theorem updEng_chans (c : Chip) (e : Engine) (f : EngineSt → EngineSt) : (c.updEng e f).chans = c.chans := rfl
@[simp] theorem updEng_rails (c : Chip) (e : Engine) (f : EngineSt → EngineSt) : (c.updEng e f).rails = c.rails := rfl
@[simp] theorem updEng_sei (c : Chip) (e : Engine) (f : EngineSt → EngineSt) : (c.updEng e f).sei = c.sei := rfl
@[simp] theorem updEng_svc (c : Chip) (e : Engine) (f : EngineSt → EngineSt) : (c.updEng e f).svc = c.svc := rfl
@[simp] theorem updEng_pwr (c : Chip) (e : Engine) (f : EngineSt → EngineSt) : (c.updEng e f).pwr = c.pwr := rfl
@[simp] theorem updEng_bead (c : Chip) (e : Engine) (f : EngineSt → EngineSt) : (c.updEng e f).bead = c.bead := rfl
@[simp] theorem updEng_fab (c : Chip) (e : Engine) (f : EngineSt → EngineSt) : (c.updEng e f).fab = c.fab := rfl
@[simp] theorem updEng_ladders (c : Chip) (e : Engine) (f : EngineSt → EngineSt) : (c.updEng e f).ladders = c.ladders := rfl
@[simp] theorem updEng_freeCtr (c : Chip) (e : Engine) (f : EngineSt → EngineSt) : (c.updEng e f).freeCtr = c.freeCtr := rfl
@[simp] theorem updEng_rd (c : Chip) (e : Engine) (f : EngineSt → EngineSt) (q : Reg) : (c.updEng e f).rd q = c.rd q := rfl
@[simp] theorem updEng_get (c : Chip) (e : Engine) (f : EngineSt → EngineSt) (q : Reg) (x : Field) : (c.updEng e f).get q x = c.get q x := rfl

/-! ### updBasin -/

@[simp] theorem updBasin_regs (c : Chip) (b : Basin) (f : BasinSt → BasinSt) : (c.updBasin b f).regs = c.regs := rfl
@[simp] theorem updBasin_clk (c : Chip) (b : Basin) (f : BasinSt → BasinSt) : (c.updBasin b f).clk = c.clk := rfl
@[simp] theorem updBasin_fl (c : Chip) (b : Basin) (f : BasinSt → BasinSt) : (c.updBasin b f).fl = c.fl := rfl
@[simp] theorem updBasin_fw (c : Chip) (b : Basin) (f : BasinSt → BasinSt) : (c.updBasin b f).fw = c.fw := rfl
@[simp] theorem updBasin_trunk (c : Chip) (b : Basin) (f : BasinSt → BasinSt) : (c.updBasin b f).trunk = c.trunk := rfl
@[simp] theorem updBasin_doors (c : Chip) (b : Basin) (f : BasinSt → BasinSt) : (c.updBasin b f).doors = c.doors := rfl
@[simp] theorem updBasin_cullet (c : Chip) (b : Basin) (f : BasinSt → BasinSt) : (c.updBasin b f).cullet = c.cullet := rfl
@[simp] theorem updBasin_culletLost (c : Chip) (b : Basin) (f : BasinSt → BasinSt) : (c.updBasin b f).culletLost = c.culletLost := rfl
@[simp] theorem updBasin_nextOrd (c : Chip) (b : Basin) (f : BasinSt → BasinSt) : (c.updBasin b f).nextOrd = c.nextOrd := rfl
@[simp] theorem updBasin_rates (c : Chip) (b : Basin) (f : BasinSt → BasinSt) : (c.updBasin b f).rates = c.rates := rfl
@[simp] theorem updBasin_svcPort (c : Chip) (b : Basin) (f : BasinSt → BasinSt) : (c.updBasin b f).svcPort = c.svcPort := rfl
@[simp] theorem updBasin_pond (c : Chip) (b : Basin) (f : BasinSt → BasinSt) : (c.updBasin b f).pond = c.pond := rfl
@[simp] theorem updBasin_engines (c : Chip) (b : Basin) (f : BasinSt → BasinSt) : (c.updBasin b f).engines = c.engines := rfl
@[simp] theorem updBasin_basins (c : Chip) (b : Basin) (f : BasinSt → BasinSt) : (c.updBasin b f).basins = c.basins.set b (f c.basins[b]) := rfl
@[simp] theorem updBasin_ports (c : Chip) (b : Basin) (f : BasinSt → BasinSt) : (c.updBasin b f).ports = c.ports := rfl
@[simp] theorem updBasin_chans (c : Chip) (b : Basin) (f : BasinSt → BasinSt) : (c.updBasin b f).chans = c.chans := rfl
@[simp] theorem updBasin_rails (c : Chip) (b : Basin) (f : BasinSt → BasinSt) : (c.updBasin b f).rails = c.rails := rfl
@[simp] theorem updBasin_sei (c : Chip) (b : Basin) (f : BasinSt → BasinSt) : (c.updBasin b f).sei = c.sei := rfl
@[simp] theorem updBasin_svc (c : Chip) (b : Basin) (f : BasinSt → BasinSt) : (c.updBasin b f).svc = c.svc := rfl
@[simp] theorem updBasin_pwr (c : Chip) (b : Basin) (f : BasinSt → BasinSt) : (c.updBasin b f).pwr = c.pwr := rfl
@[simp] theorem updBasin_bead (c : Chip) (b : Basin) (f : BasinSt → BasinSt) : (c.updBasin b f).bead = c.bead := rfl
@[simp] theorem updBasin_fab (c : Chip) (b : Basin) (f : BasinSt → BasinSt) : (c.updBasin b f).fab = c.fab := rfl
@[simp] theorem updBasin_ladders (c : Chip) (b : Basin) (f : BasinSt → BasinSt) : (c.updBasin b f).ladders = c.ladders := rfl
@[simp] theorem updBasin_freeCtr (c : Chip) (b : Basin) (f : BasinSt → BasinSt) : (c.updBasin b f).freeCtr = c.freeCtr := rfl
@[simp] theorem updBasin_rd (c : Chip) (b : Basin) (f : BasinSt → BasinSt) (q : Reg) : (c.updBasin b f).rd q = c.rd q := rfl
@[simp] theorem updBasin_get (c : Chip) (b : Basin) (f : BasinSt → BasinSt) (q : Reg) (x : Field) : (c.updBasin b f).get q x = c.get q x := rfl

/-! ### updChan -/

@[simp] theorem updChan_regs (c : Chip) (n : Port) (f : Chan → Chan) : (c.updChan n f).regs = c.regs := rfl
@[simp] theorem updChan_clk (c : Chip) (n : Port) (f : Chan → Chan) : (c.updChan n f).clk = c.clk := rfl
@[simp] theorem updChan_fl (c : Chip) (n : Port) (f : Chan → Chan) : (c.updChan n f).fl = c.fl := rfl
@[simp] theorem updChan_fw (c : Chip) (n : Port) (f : Chan → Chan) : (c.updChan n f).fw = c.fw := rfl
@[simp] theorem updChan_trunk (c : Chip) (n : Port) (f : Chan → Chan) : (c.updChan n f).trunk = c.trunk := rfl
@[simp] theorem updChan_doors (c : Chip) (n : Port) (f : Chan → Chan) : (c.updChan n f).doors = c.doors := rfl
@[simp] theorem updChan_cullet (c : Chip) (n : Port) (f : Chan → Chan) : (c.updChan n f).cullet = c.cullet := rfl
@[simp] theorem updChan_culletLost (c : Chip) (n : Port) (f : Chan → Chan) : (c.updChan n f).culletLost = c.culletLost := rfl
@[simp] theorem updChan_nextOrd (c : Chip) (n : Port) (f : Chan → Chan) : (c.updChan n f).nextOrd = c.nextOrd := rfl
@[simp] theorem updChan_rates (c : Chip) (n : Port) (f : Chan → Chan) : (c.updChan n f).rates = c.rates := rfl
@[simp] theorem updChan_svcPort (c : Chip) (n : Port) (f : Chan → Chan) : (c.updChan n f).svcPort = c.svcPort := rfl
@[simp] theorem updChan_pond (c : Chip) (n : Port) (f : Chan → Chan) : (c.updChan n f).pond = c.pond := rfl
@[simp] theorem updChan_engines (c : Chip) (n : Port) (f : Chan → Chan) : (c.updChan n f).engines = c.engines := rfl
@[simp] theorem updChan_basins (c : Chip) (n : Port) (f : Chan → Chan) : (c.updChan n f).basins = c.basins := rfl
@[simp] theorem updChan_ports (c : Chip) (n : Port) (f : Chan → Chan) : (c.updChan n f).ports = c.ports := rfl
@[simp] theorem updChan_chans (c : Chip) (n : Port) (f : Chan → Chan) : (c.updChan n f).chans = c.chans.set n (f c.chans[n]) := rfl
@[simp] theorem updChan_rails (c : Chip) (n : Port) (f : Chan → Chan) : (c.updChan n f).rails = c.rails := rfl
@[simp] theorem updChan_sei (c : Chip) (n : Port) (f : Chan → Chan) : (c.updChan n f).sei = c.sei := rfl
@[simp] theorem updChan_svc (c : Chip) (n : Port) (f : Chan → Chan) : (c.updChan n f).svc = c.svc := rfl
@[simp] theorem updChan_pwr (c : Chip) (n : Port) (f : Chan → Chan) : (c.updChan n f).pwr = c.pwr := rfl
@[simp] theorem updChan_bead (c : Chip) (n : Port) (f : Chan → Chan) : (c.updChan n f).bead = c.bead := rfl
@[simp] theorem updChan_fab (c : Chip) (n : Port) (f : Chan → Chan) : (c.updChan n f).fab = c.fab := rfl
@[simp] theorem updChan_ladders (c : Chip) (n : Port) (f : Chan → Chan) : (c.updChan n f).ladders = c.ladders := rfl
@[simp] theorem updChan_freeCtr (c : Chip) (n : Port) (f : Chan → Chan) : (c.updChan n f).freeCtr = c.freeCtr := rfl
@[simp] theorem updChan_rd (c : Chip) (n : Port) (f : Chan → Chan) (q : Reg) : (c.updChan n f).rd q = c.rd q := rfl
@[simp] theorem updChan_get (c : Chip) (n : Port) (f : Chan → Chan) (q : Reg) (x : Field) : (c.updChan n f).get q x = c.get q x := rfl

/-! ### updRail -/

@[simp] theorem updRail_regs (c : Chip) (j : RailId) (f : Rail → Rail) : (c.updRail j f).regs = c.regs := rfl
@[simp] theorem updRail_clk (c : Chip) (j : RailId) (f : Rail → Rail) : (c.updRail j f).clk = c.clk := rfl
@[simp] theorem updRail_fl (c : Chip) (j : RailId) (f : Rail → Rail) : (c.updRail j f).fl = c.fl := rfl
@[simp] theorem updRail_fw (c : Chip) (j : RailId) (f : Rail → Rail) : (c.updRail j f).fw = c.fw := rfl
@[simp] theorem updRail_trunk (c : Chip) (j : RailId) (f : Rail → Rail) : (c.updRail j f).trunk = c.trunk := rfl
@[simp] theorem updRail_doors (c : Chip) (j : RailId) (f : Rail → Rail) : (c.updRail j f).doors = c.doors := rfl
@[simp] theorem updRail_cullet (c : Chip) (j : RailId) (f : Rail → Rail) : (c.updRail j f).cullet = c.cullet := rfl
@[simp] theorem updRail_culletLost (c : Chip) (j : RailId) (f : Rail → Rail) : (c.updRail j f).culletLost = c.culletLost := rfl
@[simp] theorem updRail_nextOrd (c : Chip) (j : RailId) (f : Rail → Rail) : (c.updRail j f).nextOrd = c.nextOrd := rfl
@[simp] theorem updRail_rates (c : Chip) (j : RailId) (f : Rail → Rail) : (c.updRail j f).rates = c.rates := rfl
@[simp] theorem updRail_svcPort (c : Chip) (j : RailId) (f : Rail → Rail) : (c.updRail j f).svcPort = c.svcPort := rfl
@[simp] theorem updRail_pond (c : Chip) (j : RailId) (f : Rail → Rail) : (c.updRail j f).pond = c.pond := rfl
@[simp] theorem updRail_engines (c : Chip) (j : RailId) (f : Rail → Rail) : (c.updRail j f).engines = c.engines := rfl
@[simp] theorem updRail_basins (c : Chip) (j : RailId) (f : Rail → Rail) : (c.updRail j f).basins = c.basins := rfl
@[simp] theorem updRail_ports (c : Chip) (j : RailId) (f : Rail → Rail) : (c.updRail j f).ports = c.ports := rfl
@[simp] theorem updRail_chans (c : Chip) (j : RailId) (f : Rail → Rail) : (c.updRail j f).chans = c.chans := rfl
@[simp] theorem updRail_rails (c : Chip) (j : RailId) (f : Rail → Rail) : (c.updRail j f).rails = c.rails.set j (f c.rails[j]) := rfl
@[simp] theorem updRail_sei (c : Chip) (j : RailId) (f : Rail → Rail) : (c.updRail j f).sei = c.sei := rfl
@[simp] theorem updRail_svc (c : Chip) (j : RailId) (f : Rail → Rail) : (c.updRail j f).svc = c.svc := rfl
@[simp] theorem updRail_pwr (c : Chip) (j : RailId) (f : Rail → Rail) : (c.updRail j f).pwr = c.pwr := rfl
@[simp] theorem updRail_bead (c : Chip) (j : RailId) (f : Rail → Rail) : (c.updRail j f).bead = c.bead := rfl
@[simp] theorem updRail_fab (c : Chip) (j : RailId) (f : Rail → Rail) : (c.updRail j f).fab = c.fab := rfl
@[simp] theorem updRail_ladders (c : Chip) (j : RailId) (f : Rail → Rail) : (c.updRail j f).ladders = c.ladders := rfl
@[simp] theorem updRail_freeCtr (c : Chip) (j : RailId) (f : Rail → Rail) : (c.updRail j f).freeCtr = c.freeCtr := rfl
@[simp] theorem updRail_rd (c : Chip) (j : RailId) (f : Rail → Rail) (q : Reg) : (c.updRail j f).rd q = c.rd q := rfl
@[simp] theorem updRail_get (c : Chip) (j : RailId) (f : Rail → Rail) (q : Reg) (x : Field) : (c.updRail j f).get q x = c.get q x := rfl

/-! ### updLane -/

@[simp] theorem updLane_regs (c : Chip) (l : LaneId) (f : Lane → Lane) : (c.updLane l f).regs = c.regs := rfl
@[simp] theorem updLane_clk (c : Chip) (l : LaneId) (f : Lane → Lane) : (c.updLane l f).clk = c.clk := rfl
@[simp] theorem updLane_fl (c : Chip) (l : LaneId) (f : Lane → Lane) : (c.updLane l f).fl = c.fl := rfl
@[simp] theorem updLane_fw (c : Chip) (l : LaneId) (f : Lane → Lane) : (c.updLane l f).fw = c.fw := rfl
@[simp] theorem updLane_doors (c : Chip) (l : LaneId) (f : Lane → Lane) : (c.updLane l f).doors = c.doors := rfl
@[simp] theorem updLane_cullet (c : Chip) (l : LaneId) (f : Lane → Lane) : (c.updLane l f).cullet = c.cullet := rfl
@[simp] theorem updLane_culletLost (c : Chip) (l : LaneId) (f : Lane → Lane) : (c.updLane l f).culletLost = c.culletLost := rfl
@[simp] theorem updLane_nextOrd (c : Chip) (l : LaneId) (f : Lane → Lane) : (c.updLane l f).nextOrd = c.nextOrd := rfl
@[simp] theorem updLane_rates (c : Chip) (l : LaneId) (f : Lane → Lane) : (c.updLane l f).rates = c.rates := rfl
@[simp] theorem updLane_svcPort (c : Chip) (l : LaneId) (f : Lane → Lane) : (c.updLane l f).svcPort = c.svcPort := rfl
@[simp] theorem updLane_pond (c : Chip) (l : LaneId) (f : Lane → Lane) : (c.updLane l f).pond = c.pond := rfl
@[simp] theorem updLane_engines (c : Chip) (l : LaneId) (f : Lane → Lane) : (c.updLane l f).engines = c.engines := rfl
@[simp] theorem updLane_basins (c : Chip) (l : LaneId) (f : Lane → Lane) : (c.updLane l f).basins = c.basins := rfl
@[simp] theorem updLane_ports (c : Chip) (l : LaneId) (f : Lane → Lane) : (c.updLane l f).ports = c.ports := rfl
@[simp] theorem updLane_chans (c : Chip) (l : LaneId) (f : Lane → Lane) : (c.updLane l f).chans = c.chans := rfl
@[simp] theorem updLane_rails (c : Chip) (l : LaneId) (f : Lane → Lane) : (c.updLane l f).rails = c.rails := rfl
@[simp] theorem updLane_sei (c : Chip) (l : LaneId) (f : Lane → Lane) : (c.updLane l f).sei = c.sei := rfl
@[simp] theorem updLane_svc (c : Chip) (l : LaneId) (f : Lane → Lane) : (c.updLane l f).svc = c.svc := rfl
@[simp] theorem updLane_pwr (c : Chip) (l : LaneId) (f : Lane → Lane) : (c.updLane l f).pwr = c.pwr := rfl
@[simp] theorem updLane_bead (c : Chip) (l : LaneId) (f : Lane → Lane) : (c.updLane l f).bead = c.bead := rfl
@[simp] theorem updLane_fab (c : Chip) (l : LaneId) (f : Lane → Lane) : (c.updLane l f).fab = c.fab := rfl
@[simp] theorem updLane_ladders (c : Chip) (l : LaneId) (f : Lane → Lane) : (c.updLane l f).ladders = c.ladders := rfl
@[simp] theorem updLane_freeCtr (c : Chip) (l : LaneId) (f : Lane → Lane) : (c.updLane l f).freeCtr = c.freeCtr := rfl
@[simp] theorem updLane_rd (c : Chip) (l : LaneId) (f : Lane → Lane) (q : Reg) : (c.updLane l f).rd q = c.rd q := rfl
@[simp] theorem updLane_get (c : Chip) (l : LaneId) (f : Lane → Lane) (q : Reg) (x : Field) : (c.updLane l f).get q x = c.get q x := rfl

/-! ### updFl -/

@[simp] theorem updFl_regs (c : Chip) (d : Die) (f : FLink → FLink) : (c.updFl d f).regs = c.regs := rfl
@[simp] theorem updFl_clk (c : Chip) (d : Die) (f : FLink → FLink) : (c.updFl d f).clk = c.clk := rfl
@[simp] theorem updFl_fl (c : Chip) (d : Die) (f : FLink → FLink) : (c.updFl d f).fl = c.fl.set d (f c.fl[d]) := rfl
@[simp] theorem updFl_fw (c : Chip) (d : Die) (f : FLink → FLink) : (c.updFl d f).fw = c.fw := rfl
@[simp] theorem updFl_trunk (c : Chip) (d : Die) (f : FLink → FLink) : (c.updFl d f).trunk = c.trunk := rfl
@[simp] theorem updFl_doors (c : Chip) (d : Die) (f : FLink → FLink) : (c.updFl d f).doors = c.doors := rfl
@[simp] theorem updFl_cullet (c : Chip) (d : Die) (f : FLink → FLink) : (c.updFl d f).cullet = c.cullet := rfl
@[simp] theorem updFl_culletLost (c : Chip) (d : Die) (f : FLink → FLink) : (c.updFl d f).culletLost = c.culletLost := rfl
@[simp] theorem updFl_nextOrd (c : Chip) (d : Die) (f : FLink → FLink) : (c.updFl d f).nextOrd = c.nextOrd := rfl
@[simp] theorem updFl_rates (c : Chip) (d : Die) (f : FLink → FLink) : (c.updFl d f).rates = c.rates := rfl
@[simp] theorem updFl_svcPort (c : Chip) (d : Die) (f : FLink → FLink) : (c.updFl d f).svcPort = c.svcPort := rfl
@[simp] theorem updFl_pond (c : Chip) (d : Die) (f : FLink → FLink) : (c.updFl d f).pond = c.pond := rfl
@[simp] theorem updFl_engines (c : Chip) (d : Die) (f : FLink → FLink) : (c.updFl d f).engines = c.engines := rfl
@[simp] theorem updFl_basins (c : Chip) (d : Die) (f : FLink → FLink) : (c.updFl d f).basins = c.basins := rfl
@[simp] theorem updFl_ports (c : Chip) (d : Die) (f : FLink → FLink) : (c.updFl d f).ports = c.ports := rfl
@[simp] theorem updFl_chans (c : Chip) (d : Die) (f : FLink → FLink) : (c.updFl d f).chans = c.chans := rfl
@[simp] theorem updFl_rails (c : Chip) (d : Die) (f : FLink → FLink) : (c.updFl d f).rails = c.rails := rfl
@[simp] theorem updFl_sei (c : Chip) (d : Die) (f : FLink → FLink) : (c.updFl d f).sei = c.sei := rfl
@[simp] theorem updFl_svc (c : Chip) (d : Die) (f : FLink → FLink) : (c.updFl d f).svc = c.svc := rfl
@[simp] theorem updFl_pwr (c : Chip) (d : Die) (f : FLink → FLink) : (c.updFl d f).pwr = c.pwr := rfl
@[simp] theorem updFl_bead (c : Chip) (d : Die) (f : FLink → FLink) : (c.updFl d f).bead = c.bead := rfl
@[simp] theorem updFl_fab (c : Chip) (d : Die) (f : FLink → FLink) : (c.updFl d f).fab = c.fab := rfl
@[simp] theorem updFl_ladders (c : Chip) (d : Die) (f : FLink → FLink) : (c.updFl d f).ladders = c.ladders := rfl
@[simp] theorem updFl_freeCtr (c : Chip) (d : Die) (f : FLink → FLink) : (c.updFl d f).freeCtr = c.freeCtr := rfl
@[simp] theorem updFl_rd (c : Chip) (d : Die) (f : FLink → FLink) (q : Reg) : (c.updFl d f).rd q = c.rd q := rfl
@[simp] theorem updFl_get (c : Chip) (d : Die) (f : FLink → FLink) (q : Reg) (x : Field) : (c.updFl d f).get q x = c.get q x := rfl

/-! ### updBelt -/

@[simp] theorem updBelt_regs (c : Chip) (b : Belt) (f : BeltSt → BeltSt) : (c.updBelt b f).regs = c.regs := rfl
@[simp] theorem updBelt_clk (c : Chip) (b : Belt) (f : BeltSt → BeltSt) : (c.updBelt b f).clk = c.clk := rfl
@[simp] theorem updBelt_fl (c : Chip) (b : Belt) (f : BeltSt → BeltSt) : (c.updBelt b f).fl = c.fl := rfl
@[simp] theorem updBelt_fw (c : Chip) (b : Belt) (f : BeltSt → BeltSt) : (c.updBelt b f).fw = c.fw := rfl
@[simp] theorem updBelt_trunk (c : Chip) (b : Belt) (f : BeltSt → BeltSt) : (c.updBelt b f).trunk = c.trunk := rfl
@[simp] theorem updBelt_doors (c : Chip) (b : Belt) (f : BeltSt → BeltSt) : (c.updBelt b f).doors = c.doors := rfl
@[simp] theorem updBelt_cullet (c : Chip) (b : Belt) (f : BeltSt → BeltSt) : (c.updBelt b f).cullet = c.cullet := rfl
@[simp] theorem updBelt_culletLost (c : Chip) (b : Belt) (f : BeltSt → BeltSt) : (c.updBelt b f).culletLost = c.culletLost := rfl
@[simp] theorem updBelt_nextOrd (c : Chip) (b : Belt) (f : BeltSt → BeltSt) : (c.updBelt b f).nextOrd = c.nextOrd := rfl
@[simp] theorem updBelt_rates (c : Chip) (b : Belt) (f : BeltSt → BeltSt) : (c.updBelt b f).rates = c.rates := rfl
@[simp] theorem updBelt_svcPort (c : Chip) (b : Belt) (f : BeltSt → BeltSt) : (c.updBelt b f).svcPort = c.svcPort := rfl
@[simp] theorem updBelt_pond (c : Chip) (b : Belt) (f : BeltSt → BeltSt) : (c.updBelt b f).pond = c.pond := rfl
@[simp] theorem updBelt_engines (c : Chip) (b : Belt) (f : BeltSt → BeltSt) : (c.updBelt b f).engines = c.engines := rfl
@[simp] theorem updBelt_basins (c : Chip) (b : Belt) (f : BeltSt → BeltSt) : (c.updBelt b f).basins = c.basins := rfl
@[simp] theorem updBelt_ports (c : Chip) (b : Belt) (f : BeltSt → BeltSt) : (c.updBelt b f).ports = c.ports := rfl
@[simp] theorem updBelt_chans (c : Chip) (b : Belt) (f : BeltSt → BeltSt) : (c.updBelt b f).chans = c.chans := rfl
@[simp] theorem updBelt_rails (c : Chip) (b : Belt) (f : BeltSt → BeltSt) : (c.updBelt b f).rails = c.rails := rfl
@[simp] theorem updBelt_svc (c : Chip) (b : Belt) (f : BeltSt → BeltSt) : (c.updBelt b f).svc = c.svc := rfl
@[simp] theorem updBelt_pwr (c : Chip) (b : Belt) (f : BeltSt → BeltSt) : (c.updBelt b f).pwr = c.pwr := rfl
@[simp] theorem updBelt_bead (c : Chip) (b : Belt) (f : BeltSt → BeltSt) : (c.updBelt b f).bead = c.bead := rfl
@[simp] theorem updBelt_fab (c : Chip) (b : Belt) (f : BeltSt → BeltSt) : (c.updBelt b f).fab = c.fab := rfl
@[simp] theorem updBelt_ladders (c : Chip) (b : Belt) (f : BeltSt → BeltSt) : (c.updBelt b f).ladders = c.ladders := rfl
@[simp] theorem updBelt_freeCtr (c : Chip) (b : Belt) (f : BeltSt → BeltSt) : (c.updBelt b f).freeCtr = c.freeCtr := rfl
@[simp] theorem updBelt_rd (c : Chip) (b : Belt) (f : BeltSt → BeltSt) (q : Reg) : (c.updBelt b f).rd q = c.rd q := rfl
@[simp] theorem updBelt_get (c : Chip) (b : Belt) (f : BeltSt → BeltSt) (q : Reg) (x : Field) : (c.updBelt b f).get q x = c.get q x := rfl

/-! ### updInlet -/

@[simp] theorem updInlet_regs (c : Chip) (i : Io) (f : InletSt → InletSt) : (c.updInlet i f).regs = c.regs := rfl
@[simp] theorem updInlet_clk (c : Chip) (i : Io) (f : InletSt → InletSt) : (c.updInlet i f).clk = c.clk := rfl
@[simp] theorem updInlet_fl (c : Chip) (i : Io) (f : InletSt → InletSt) : (c.updInlet i f).fl = c.fl := rfl
@[simp] theorem updInlet_fw (c : Chip) (i : Io) (f : InletSt → InletSt) : (c.updInlet i f).fw = c.fw := rfl
@[simp] theorem updInlet_trunk (c : Chip) (i : Io) (f : InletSt → InletSt) : (c.updInlet i f).trunk = c.trunk := rfl
@[simp] theorem updInlet_doors (c : Chip) (i : Io) (f : InletSt → InletSt) : (c.updInlet i f).doors = c.doors := rfl
@[simp] theorem updInlet_cullet (c : Chip) (i : Io) (f : InletSt → InletSt) : (c.updInlet i f).cullet = c.cullet := rfl
@[simp] theorem updInlet_culletLost (c : Chip) (i : Io) (f : InletSt → InletSt) : (c.updInlet i f).culletLost = c.culletLost := rfl
@[simp] theorem updInlet_nextOrd (c : Chip) (i : Io) (f : InletSt → InletSt) : (c.updInlet i f).nextOrd = c.nextOrd := rfl
@[simp] theorem updInlet_rates (c : Chip) (i : Io) (f : InletSt → InletSt) : (c.updInlet i f).rates = c.rates := rfl
@[simp] theorem updInlet_svcPort (c : Chip) (i : Io) (f : InletSt → InletSt) : (c.updInlet i f).svcPort = c.svcPort := rfl
@[simp] theorem updInlet_pond (c : Chip) (i : Io) (f : InletSt → InletSt) : (c.updInlet i f).pond = c.pond := rfl
@[simp] theorem updInlet_engines (c : Chip) (i : Io) (f : InletSt → InletSt) : (c.updInlet i f).engines = c.engines := rfl
@[simp] theorem updInlet_basins (c : Chip) (i : Io) (f : InletSt → InletSt) : (c.updInlet i f).basins = c.basins := rfl
@[simp] theorem updInlet_ports (c : Chip) (i : Io) (f : InletSt → InletSt) : (c.updInlet i f).ports = c.ports := rfl
@[simp] theorem updInlet_chans (c : Chip) (i : Io) (f : InletSt → InletSt) : (c.updInlet i f).chans = c.chans := rfl
@[simp] theorem updInlet_rails (c : Chip) (i : Io) (f : InletSt → InletSt) : (c.updInlet i f).rails = c.rails := rfl
@[simp] theorem updInlet_svc (c : Chip) (i : Io) (f : InletSt → InletSt) : (c.updInlet i f).svc = c.svc := rfl
@[simp] theorem updInlet_pwr (c : Chip) (i : Io) (f : InletSt → InletSt) : (c.updInlet i f).pwr = c.pwr := rfl
@[simp] theorem updInlet_bead (c : Chip) (i : Io) (f : InletSt → InletSt) : (c.updInlet i f).bead = c.bead := rfl
@[simp] theorem updInlet_fab (c : Chip) (i : Io) (f : InletSt → InletSt) : (c.updInlet i f).fab = c.fab := rfl
@[simp] theorem updInlet_ladders (c : Chip) (i : Io) (f : InletSt → InletSt) : (c.updInlet i f).ladders = c.ladders := rfl
@[simp] theorem updInlet_freeCtr (c : Chip) (i : Io) (f : InletSt → InletSt) : (c.updInlet i f).freeCtr = c.freeCtr := rfl
@[simp] theorem updInlet_rd (c : Chip) (i : Io) (f : InletSt → InletSt) (q : Reg) : (c.updInlet i f).rd q = c.rd q := rfl
@[simp] theorem updInlet_get (c : Chip) (i : Io) (f : InletSt → InletSt) (q : Reg) (x : Field) : (c.updInlet i f).get q x = c.get q x := rfl

/-! ### updOutfall -/

@[simp] theorem updOutfall_regs (c : Chip) (o : Io) (f : OutfallSt → OutfallSt) : (c.updOutfall o f).regs = c.regs := rfl
@[simp] theorem updOutfall_clk (c : Chip) (o : Io) (f : OutfallSt → OutfallSt) : (c.updOutfall o f).clk = c.clk := rfl
@[simp] theorem updOutfall_fl (c : Chip) (o : Io) (f : OutfallSt → OutfallSt) : (c.updOutfall o f).fl = c.fl := rfl
@[simp] theorem updOutfall_fw (c : Chip) (o : Io) (f : OutfallSt → OutfallSt) : (c.updOutfall o f).fw = c.fw := rfl
@[simp] theorem updOutfall_trunk (c : Chip) (o : Io) (f : OutfallSt → OutfallSt) : (c.updOutfall o f).trunk = c.trunk := rfl
@[simp] theorem updOutfall_doors (c : Chip) (o : Io) (f : OutfallSt → OutfallSt) : (c.updOutfall o f).doors = c.doors := rfl
@[simp] theorem updOutfall_cullet (c : Chip) (o : Io) (f : OutfallSt → OutfallSt) : (c.updOutfall o f).cullet = c.cullet := rfl
@[simp] theorem updOutfall_culletLost (c : Chip) (o : Io) (f : OutfallSt → OutfallSt) : (c.updOutfall o f).culletLost = c.culletLost := rfl
@[simp] theorem updOutfall_nextOrd (c : Chip) (o : Io) (f : OutfallSt → OutfallSt) : (c.updOutfall o f).nextOrd = c.nextOrd := rfl
@[simp] theorem updOutfall_rates (c : Chip) (o : Io) (f : OutfallSt → OutfallSt) : (c.updOutfall o f).rates = c.rates := rfl
@[simp] theorem updOutfall_svcPort (c : Chip) (o : Io) (f : OutfallSt → OutfallSt) : (c.updOutfall o f).svcPort = c.svcPort := rfl
@[simp] theorem updOutfall_pond (c : Chip) (o : Io) (f : OutfallSt → OutfallSt) : (c.updOutfall o f).pond = c.pond := rfl
@[simp] theorem updOutfall_engines (c : Chip) (o : Io) (f : OutfallSt → OutfallSt) : (c.updOutfall o f).engines = c.engines := rfl
@[simp] theorem updOutfall_basins (c : Chip) (o : Io) (f : OutfallSt → OutfallSt) : (c.updOutfall o f).basins = c.basins := rfl
@[simp] theorem updOutfall_ports (c : Chip) (o : Io) (f : OutfallSt → OutfallSt) : (c.updOutfall o f).ports = c.ports := rfl
@[simp] theorem updOutfall_chans (c : Chip) (o : Io) (f : OutfallSt → OutfallSt) : (c.updOutfall o f).chans = c.chans := rfl
@[simp] theorem updOutfall_rails (c : Chip) (o : Io) (f : OutfallSt → OutfallSt) : (c.updOutfall o f).rails = c.rails := rfl
@[simp] theorem updOutfall_svc (c : Chip) (o : Io) (f : OutfallSt → OutfallSt) : (c.updOutfall o f).svc = c.svc := rfl
@[simp] theorem updOutfall_pwr (c : Chip) (o : Io) (f : OutfallSt → OutfallSt) : (c.updOutfall o f).pwr = c.pwr := rfl
@[simp] theorem updOutfall_bead (c : Chip) (o : Io) (f : OutfallSt → OutfallSt) : (c.updOutfall o f).bead = c.bead := rfl
@[simp] theorem updOutfall_fab (c : Chip) (o : Io) (f : OutfallSt → OutfallSt) : (c.updOutfall o f).fab = c.fab := rfl
@[simp] theorem updOutfall_ladders (c : Chip) (o : Io) (f : OutfallSt → OutfallSt) : (c.updOutfall o f).ladders = c.ladders := rfl
@[simp] theorem updOutfall_freeCtr (c : Chip) (o : Io) (f : OutfallSt → OutfallSt) : (c.updOutfall o f).freeCtr = c.freeCtr := rfl
@[simp] theorem updOutfall_rd (c : Chip) (o : Io) (f : OutfallSt → OutfallSt) (q : Reg) : (c.updOutfall o f).rd q = c.rd q := rfl
@[simp] theorem updOutfall_get (c : Chip) (o : Io) (f : OutfallSt → OutfallSt) (q : Reg) (x : Field) : (c.updOutfall o f).get q x = c.get q x := rfl

/-! ### updDrop -/

@[simp] theorem updDrop_regs (c : Chip) (n : Port) (f : Drop → Drop) : (c.updDrop n f).regs = c.regs := rfl
@[simp] theorem updDrop_clk (c : Chip) (n : Port) (f : Drop → Drop) : (c.updDrop n f).clk = c.clk := rfl
@[simp] theorem updDrop_fl (c : Chip) (n : Port) (f : Drop → Drop) : (c.updDrop n f).fl = c.fl := rfl
@[simp] theorem updDrop_fw (c : Chip) (n : Port) (f : Drop → Drop) : (c.updDrop n f).fw = c.fw := rfl
@[simp] theorem updDrop_trunk (c : Chip) (n : Port) (f : Drop → Drop) : (c.updDrop n f).trunk = c.trunk := rfl
@[simp] theorem updDrop_doors (c : Chip) (n : Port) (f : Drop → Drop) : (c.updDrop n f).doors = c.doors := rfl
@[simp] theorem updDrop_cullet (c : Chip) (n : Port) (f : Drop → Drop) : (c.updDrop n f).cullet = c.cullet := rfl
@[simp] theorem updDrop_culletLost (c : Chip) (n : Port) (f : Drop → Drop) : (c.updDrop n f).culletLost = c.culletLost := rfl
@[simp] theorem updDrop_nextOrd (c : Chip) (n : Port) (f : Drop → Drop) : (c.updDrop n f).nextOrd = c.nextOrd := rfl
@[simp] theorem updDrop_rates (c : Chip) (n : Port) (f : Drop → Drop) : (c.updDrop n f).rates = c.rates := rfl
@[simp] theorem updDrop_svcPort (c : Chip) (n : Port) (f : Drop → Drop) : (c.updDrop n f).svcPort = c.svcPort := rfl
@[simp] theorem updDrop_pond (c : Chip) (n : Port) (f : Drop → Drop) : (c.updDrop n f).pond = c.pond := rfl
@[simp] theorem updDrop_engines (c : Chip) (n : Port) (f : Drop → Drop) : (c.updDrop n f).engines = c.engines := rfl
@[simp] theorem updDrop_basins (c : Chip) (n : Port) (f : Drop → Drop) : (c.updDrop n f).basins = c.basins := rfl
@[simp] theorem updDrop_chans (c : Chip) (n : Port) (f : Drop → Drop) : (c.updDrop n f).chans = c.chans := rfl
@[simp] theorem updDrop_rails (c : Chip) (n : Port) (f : Drop → Drop) : (c.updDrop n f).rails = c.rails := rfl
@[simp] theorem updDrop_sei (c : Chip) (n : Port) (f : Drop → Drop) : (c.updDrop n f).sei = c.sei := rfl
@[simp] theorem updDrop_svc (c : Chip) (n : Port) (f : Drop → Drop) : (c.updDrop n f).svc = c.svc := rfl
@[simp] theorem updDrop_pwr (c : Chip) (n : Port) (f : Drop → Drop) : (c.updDrop n f).pwr = c.pwr := rfl
@[simp] theorem updDrop_bead (c : Chip) (n : Port) (f : Drop → Drop) : (c.updDrop n f).bead = c.bead := rfl
@[simp] theorem updDrop_fab (c : Chip) (n : Port) (f : Drop → Drop) : (c.updDrop n f).fab = c.fab := rfl
@[simp] theorem updDrop_ladders (c : Chip) (n : Port) (f : Drop → Drop) : (c.updDrop n f).ladders = c.ladders := rfl
@[simp] theorem updDrop_freeCtr (c : Chip) (n : Port) (f : Drop → Drop) : (c.updDrop n f).freeCtr = c.freeCtr := rfl
@[simp] theorem updDrop_rd (c : Chip) (n : Port) (f : Drop → Drop) (q : Reg) : (c.updDrop n f).rd q = c.rd q := rfl
@[simp] theorem updDrop_get (c : Chip) (n : Port) (f : Drop → Drop) (q : Reg) (x : Field) : (c.updDrop n f).get q x = c.get q x := rfl

/-! ### updLine -/

@[simp] theorem updLine_regs (c : Chip) (n : Port) (f : Line → Line) : (c.updLine n f).regs = c.regs := rfl
@[simp] theorem updLine_clk (c : Chip) (n : Port) (f : Line → Line) : (c.updLine n f).clk = c.clk := rfl
@[simp] theorem updLine_fl (c : Chip) (n : Port) (f : Line → Line) : (c.updLine n f).fl = c.fl := rfl
@[simp] theorem updLine_fw (c : Chip) (n : Port) (f : Line → Line) : (c.updLine n f).fw = c.fw := rfl
@[simp] theorem updLine_trunk (c : Chip) (n : Port) (f : Line → Line) : (c.updLine n f).trunk = c.trunk := rfl
@[simp] theorem updLine_doors (c : Chip) (n : Port) (f : Line → Line) : (c.updLine n f).doors = c.doors := rfl
@[simp] theorem updLine_cullet (c : Chip) (n : Port) (f : Line → Line) : (c.updLine n f).cullet = c.cullet := rfl
@[simp] theorem updLine_culletLost (c : Chip) (n : Port) (f : Line → Line) : (c.updLine n f).culletLost = c.culletLost := rfl
@[simp] theorem updLine_nextOrd (c : Chip) (n : Port) (f : Line → Line) : (c.updLine n f).nextOrd = c.nextOrd := rfl
@[simp] theorem updLine_rates (c : Chip) (n : Port) (f : Line → Line) : (c.updLine n f).rates = c.rates := rfl
@[simp] theorem updLine_svcPort (c : Chip) (n : Port) (f : Line → Line) : (c.updLine n f).svcPort = c.svcPort := rfl
@[simp] theorem updLine_pond (c : Chip) (n : Port) (f : Line → Line) : (c.updLine n f).pond = c.pond := rfl
@[simp] theorem updLine_engines (c : Chip) (n : Port) (f : Line → Line) : (c.updLine n f).engines = c.engines := rfl
@[simp] theorem updLine_basins (c : Chip) (n : Port) (f : Line → Line) : (c.updLine n f).basins = c.basins := rfl
@[simp] theorem updLine_chans (c : Chip) (n : Port) (f : Line → Line) : (c.updLine n f).chans = c.chans := rfl
@[simp] theorem updLine_rails (c : Chip) (n : Port) (f : Line → Line) : (c.updLine n f).rails = c.rails := rfl
@[simp] theorem updLine_sei (c : Chip) (n : Port) (f : Line → Line) : (c.updLine n f).sei = c.sei := rfl
@[simp] theorem updLine_svc (c : Chip) (n : Port) (f : Line → Line) : (c.updLine n f).svc = c.svc := rfl
@[simp] theorem updLine_pwr (c : Chip) (n : Port) (f : Line → Line) : (c.updLine n f).pwr = c.pwr := rfl
@[simp] theorem updLine_bead (c : Chip) (n : Port) (f : Line → Line) : (c.updLine n f).bead = c.bead := rfl
@[simp] theorem updLine_fab (c : Chip) (n : Port) (f : Line → Line) : (c.updLine n f).fab = c.fab := rfl
@[simp] theorem updLine_ladders (c : Chip) (n : Port) (f : Line → Line) : (c.updLine n f).ladders = c.ladders := rfl
@[simp] theorem updLine_freeCtr (c : Chip) (n : Port) (f : Line → Line) : (c.updLine n f).freeCtr = c.freeCtr := rfl
@[simp] theorem updLine_rd (c : Chip) (n : Port) (f : Line → Line) (q : Reg) : (c.updLine n f).rd q = c.rd q := rfl
@[simp] theorem updLine_get (c : Chip) (n : Port) (f : Line → Line) (q : Reg) (x : Field) : (c.updLine n f).get q x = c.get q x := rfl

/-! ### updPd -/

@[simp] theorem updPd_regs (c : Chip) (n : Port) (f : Pd → Pd) : (c.updPd n f).regs = c.regs := rfl
@[simp] theorem updPd_clk (c : Chip) (n : Port) (f : Pd → Pd) : (c.updPd n f).clk = c.clk := rfl
@[simp] theorem updPd_fl (c : Chip) (n : Port) (f : Pd → Pd) : (c.updPd n f).fl = c.fl := rfl
@[simp] theorem updPd_fw (c : Chip) (n : Port) (f : Pd → Pd) : (c.updPd n f).fw = c.fw := rfl
@[simp] theorem updPd_trunk (c : Chip) (n : Port) (f : Pd → Pd) : (c.updPd n f).trunk = c.trunk := rfl
@[simp] theorem updPd_doors (c : Chip) (n : Port) (f : Pd → Pd) : (c.updPd n f).doors = c.doors := rfl
@[simp] theorem updPd_cullet (c : Chip) (n : Port) (f : Pd → Pd) : (c.updPd n f).cullet = c.cullet := rfl
@[simp] theorem updPd_culletLost (c : Chip) (n : Port) (f : Pd → Pd) : (c.updPd n f).culletLost = c.culletLost := rfl
@[simp] theorem updPd_nextOrd (c : Chip) (n : Port) (f : Pd → Pd) : (c.updPd n f).nextOrd = c.nextOrd := rfl
@[simp] theorem updPd_rates (c : Chip) (n : Port) (f : Pd → Pd) : (c.updPd n f).rates = c.rates := rfl
@[simp] theorem updPd_svcPort (c : Chip) (n : Port) (f : Pd → Pd) : (c.updPd n f).svcPort = c.svcPort := rfl
@[simp] theorem updPd_pond (c : Chip) (n : Port) (f : Pd → Pd) : (c.updPd n f).pond = c.pond := rfl
@[simp] theorem updPd_engines (c : Chip) (n : Port) (f : Pd → Pd) : (c.updPd n f).engines = c.engines := rfl
@[simp] theorem updPd_basins (c : Chip) (n : Port) (f : Pd → Pd) : (c.updPd n f).basins = c.basins := rfl
@[simp] theorem updPd_chans (c : Chip) (n : Port) (f : Pd → Pd) : (c.updPd n f).chans = c.chans := rfl
@[simp] theorem updPd_rails (c : Chip) (n : Port) (f : Pd → Pd) : (c.updPd n f).rails = c.rails := rfl
@[simp] theorem updPd_sei (c : Chip) (n : Port) (f : Pd → Pd) : (c.updPd n f).sei = c.sei := rfl
@[simp] theorem updPd_svc (c : Chip) (n : Port) (f : Pd → Pd) : (c.updPd n f).svc = c.svc := rfl
@[simp] theorem updPd_pwr (c : Chip) (n : Port) (f : Pd → Pd) : (c.updPd n f).pwr = c.pwr := rfl
@[simp] theorem updPd_bead (c : Chip) (n : Port) (f : Pd → Pd) : (c.updPd n f).bead = c.bead := rfl
@[simp] theorem updPd_fab (c : Chip) (n : Port) (f : Pd → Pd) : (c.updPd n f).fab = c.fab := rfl
@[simp] theorem updPd_ladders (c : Chip) (n : Port) (f : Pd → Pd) : (c.updPd n f).ladders = c.ladders := rfl
@[simp] theorem updPd_freeCtr (c : Chip) (n : Port) (f : Pd → Pd) : (c.updPd n f).freeCtr = c.freeCtr := rfl
@[simp] theorem updPd_rd (c : Chip) (n : Port) (f : Pd → Pd) (q : Reg) : (c.updPd n f).rd q = c.rd q := rfl
@[simp] theorem updPd_get (c : Chip) (n : Port) (f : Pd → Pd) (q : Reg) (x : Field) : (c.updPd n f).get q x = c.get q x := rfl

/-! ### updTrunk -/

@[simp] theorem updTrunk_regs (c : Chip) (f : Trunk → Trunk) : (c.updTrunk f).regs = c.regs := rfl
@[simp] theorem updTrunk_clk (c : Chip) (f : Trunk → Trunk) : (c.updTrunk f).clk = c.clk := rfl
@[simp] theorem updTrunk_fl (c : Chip) (f : Trunk → Trunk) : (c.updTrunk f).fl = c.fl := rfl
@[simp] theorem updTrunk_fw (c : Chip) (f : Trunk → Trunk) : (c.updTrunk f).fw = c.fw := rfl
@[simp] theorem updTrunk_trunk (c : Chip) (f : Trunk → Trunk) : (c.updTrunk f).trunk = f c.trunk := rfl
@[simp] theorem updTrunk_doors (c : Chip) (f : Trunk → Trunk) : (c.updTrunk f).doors = c.doors := rfl
@[simp] theorem updTrunk_cullet (c : Chip) (f : Trunk → Trunk) : (c.updTrunk f).cullet = c.cullet := rfl
@[simp] theorem updTrunk_culletLost (c : Chip) (f : Trunk → Trunk) : (c.updTrunk f).culletLost = c.culletLost := rfl
@[simp] theorem updTrunk_nextOrd (c : Chip) (f : Trunk → Trunk) : (c.updTrunk f).nextOrd = c.nextOrd := rfl
@[simp] theorem updTrunk_rates (c : Chip) (f : Trunk → Trunk) : (c.updTrunk f).rates = c.rates := rfl
@[simp] theorem updTrunk_svcPort (c : Chip) (f : Trunk → Trunk) : (c.updTrunk f).svcPort = c.svcPort := rfl
@[simp] theorem updTrunk_pond (c : Chip) (f : Trunk → Trunk) : (c.updTrunk f).pond = c.pond := rfl
@[simp] theorem updTrunk_engines (c : Chip) (f : Trunk → Trunk) : (c.updTrunk f).engines = c.engines := rfl
@[simp] theorem updTrunk_basins (c : Chip) (f : Trunk → Trunk) : (c.updTrunk f).basins = c.basins := rfl
@[simp] theorem updTrunk_ports (c : Chip) (f : Trunk → Trunk) : (c.updTrunk f).ports = c.ports := rfl
@[simp] theorem updTrunk_chans (c : Chip) (f : Trunk → Trunk) : (c.updTrunk f).chans = c.chans := rfl
@[simp] theorem updTrunk_rails (c : Chip) (f : Trunk → Trunk) : (c.updTrunk f).rails = c.rails := rfl
@[simp] theorem updTrunk_sei (c : Chip) (f : Trunk → Trunk) : (c.updTrunk f).sei = c.sei := rfl
@[simp] theorem updTrunk_svc (c : Chip) (f : Trunk → Trunk) : (c.updTrunk f).svc = c.svc := rfl
@[simp] theorem updTrunk_pwr (c : Chip) (f : Trunk → Trunk) : (c.updTrunk f).pwr = c.pwr := rfl
@[simp] theorem updTrunk_bead (c : Chip) (f : Trunk → Trunk) : (c.updTrunk f).bead = c.bead := rfl
@[simp] theorem updTrunk_fab (c : Chip) (f : Trunk → Trunk) : (c.updTrunk f).fab = c.fab := rfl
@[simp] theorem updTrunk_ladders (c : Chip) (f : Trunk → Trunk) : (c.updTrunk f).ladders = c.ladders := rfl
@[simp] theorem updTrunk_freeCtr (c : Chip) (f : Trunk → Trunk) : (c.updTrunk f).freeCtr = c.freeCtr := rfl
@[simp] theorem updTrunk_rd (c : Chip) (f : Trunk → Trunk) (q : Reg) : (c.updTrunk f).rd q = c.rd q := rfl
@[simp] theorem updTrunk_get (c : Chip) (f : Trunk → Trunk) (q : Reg) (x : Field) : (c.updTrunk f).get q x = c.get q x := rfl

/-! ### updClk -/

@[simp] theorem updClk_regs (c : Chip) (f : Clk → Clk) : (c.updClk f).regs = c.regs := rfl
@[simp] theorem updClk_clk (c : Chip) (f : Clk → Clk) : (c.updClk f).clk = f c.clk := rfl
@[simp] theorem updClk_fl (c : Chip) (f : Clk → Clk) : (c.updClk f).fl = c.fl := rfl
@[simp] theorem updClk_fw (c : Chip) (f : Clk → Clk) : (c.updClk f).fw = c.fw := rfl
@[simp] theorem updClk_trunk (c : Chip) (f : Clk → Clk) : (c.updClk f).trunk = c.trunk := rfl
@[simp] theorem updClk_doors (c : Chip) (f : Clk → Clk) : (c.updClk f).doors = c.doors := rfl
@[simp] theorem updClk_cullet (c : Chip) (f : Clk → Clk) : (c.updClk f).cullet = c.cullet := rfl
@[simp] theorem updClk_culletLost (c : Chip) (f : Clk → Clk) : (c.updClk f).culletLost = c.culletLost := rfl
@[simp] theorem updClk_nextOrd (c : Chip) (f : Clk → Clk) : (c.updClk f).nextOrd = c.nextOrd := rfl
@[simp] theorem updClk_rates (c : Chip) (f : Clk → Clk) : (c.updClk f).rates = c.rates := rfl
@[simp] theorem updClk_svcPort (c : Chip) (f : Clk → Clk) : (c.updClk f).svcPort = c.svcPort := rfl
@[simp] theorem updClk_pond (c : Chip) (f : Clk → Clk) : (c.updClk f).pond = c.pond := rfl
@[simp] theorem updClk_engines (c : Chip) (f : Clk → Clk) : (c.updClk f).engines = c.engines := rfl
@[simp] theorem updClk_basins (c : Chip) (f : Clk → Clk) : (c.updClk f).basins = c.basins := rfl
@[simp] theorem updClk_ports (c : Chip) (f : Clk → Clk) : (c.updClk f).ports = c.ports := rfl
@[simp] theorem updClk_chans (c : Chip) (f : Clk → Clk) : (c.updClk f).chans = c.chans := rfl
@[simp] theorem updClk_rails (c : Chip) (f : Clk → Clk) : (c.updClk f).rails = c.rails := rfl
@[simp] theorem updClk_sei (c : Chip) (f : Clk → Clk) : (c.updClk f).sei = c.sei := rfl
@[simp] theorem updClk_svc (c : Chip) (f : Clk → Clk) : (c.updClk f).svc = c.svc := rfl
@[simp] theorem updClk_pwr (c : Chip) (f : Clk → Clk) : (c.updClk f).pwr = c.pwr := rfl
@[simp] theorem updClk_bead (c : Chip) (f : Clk → Clk) : (c.updClk f).bead = c.bead := rfl
@[simp] theorem updClk_fab (c : Chip) (f : Clk → Clk) : (c.updClk f).fab = c.fab := rfl
@[simp] theorem updClk_ladders (c : Chip) (f : Clk → Clk) : (c.updClk f).ladders = c.ladders := rfl
@[simp] theorem updClk_freeCtr (c : Chip) (f : Clk → Clk) : (c.updClk f).freeCtr = c.freeCtr := rfl
@[simp] theorem updClk_rd (c : Chip) (f : Clk → Clk) (q : Reg) : (c.updClk f).rd q = c.rd q := rfl
@[simp] theorem updClk_get (c : Chip) (f : Clk → Clk) (q : Reg) (x : Field) : (c.updClk f).get q x = c.get q x := rfl

/-! ### updFw -/

@[simp] theorem updFw_regs (c : Chip) (f : Fw → Fw) : (c.updFw f).regs = c.regs := rfl
@[simp] theorem updFw_clk (c : Chip) (f : Fw → Fw) : (c.updFw f).clk = c.clk := rfl
@[simp] theorem updFw_fl (c : Chip) (f : Fw → Fw) : (c.updFw f).fl = c.fl := rfl
@[simp] theorem updFw_fw (c : Chip) (f : Fw → Fw) : (c.updFw f).fw = f c.fw := rfl
@[simp] theorem updFw_trunk (c : Chip) (f : Fw → Fw) : (c.updFw f).trunk = c.trunk := rfl
@[simp] theorem updFw_doors (c : Chip) (f : Fw → Fw) : (c.updFw f).doors = c.doors := rfl
@[simp] theorem updFw_cullet (c : Chip) (f : Fw → Fw) : (c.updFw f).cullet = c.cullet := rfl
@[simp] theorem updFw_culletLost (c : Chip) (f : Fw → Fw) : (c.updFw f).culletLost = c.culletLost := rfl
@[simp] theorem updFw_nextOrd (c : Chip) (f : Fw → Fw) : (c.updFw f).nextOrd = c.nextOrd := rfl
@[simp] theorem updFw_rates (c : Chip) (f : Fw → Fw) : (c.updFw f).rates = c.rates := rfl
@[simp] theorem updFw_svcPort (c : Chip) (f : Fw → Fw) : (c.updFw f).svcPort = c.svcPort := rfl
@[simp] theorem updFw_pond (c : Chip) (f : Fw → Fw) : (c.updFw f).pond = c.pond := rfl
@[simp] theorem updFw_engines (c : Chip) (f : Fw → Fw) : (c.updFw f).engines = c.engines := rfl
@[simp] theorem updFw_basins (c : Chip) (f : Fw → Fw) : (c.updFw f).basins = c.basins := rfl
@[simp] theorem updFw_ports (c : Chip) (f : Fw → Fw) : (c.updFw f).ports = c.ports := rfl
@[simp] theorem updFw_chans (c : Chip) (f : Fw → Fw) : (c.updFw f).chans = c.chans := rfl
@[simp] theorem updFw_rails (c : Chip) (f : Fw → Fw) : (c.updFw f).rails = c.rails := rfl
@[simp] theorem updFw_sei (c : Chip) (f : Fw → Fw) : (c.updFw f).sei = c.sei := rfl
@[simp] theorem updFw_svc (c : Chip) (f : Fw → Fw) : (c.updFw f).svc = c.svc := rfl
@[simp] theorem updFw_pwr (c : Chip) (f : Fw → Fw) : (c.updFw f).pwr = c.pwr := rfl
@[simp] theorem updFw_bead (c : Chip) (f : Fw → Fw) : (c.updFw f).bead = c.bead := rfl
@[simp] theorem updFw_fab (c : Chip) (f : Fw → Fw) : (c.updFw f).fab = c.fab := rfl
@[simp] theorem updFw_ladders (c : Chip) (f : Fw → Fw) : (c.updFw f).ladders = c.ladders := rfl
@[simp] theorem updFw_freeCtr (c : Chip) (f : Fw → Fw) : (c.updFw f).freeCtr = c.freeCtr := rfl
@[simp] theorem updFw_rd (c : Chip) (f : Fw → Fw) (q : Reg) : (c.updFw f).rd q = c.rd q := rfl
@[simp] theorem updFw_get (c : Chip) (f : Fw → Fw) (q : Reg) (x : Field) : (c.updFw f).get q x = c.get q x := rfl

/-! ### updPond -/

@[simp] theorem updPond_regs (c : Chip) (f : Pond → Pond) : (c.updPond f).regs = c.regs := rfl
@[simp] theorem updPond_clk (c : Chip) (f : Pond → Pond) : (c.updPond f).clk = c.clk := rfl
@[simp] theorem updPond_fl (c : Chip) (f : Pond → Pond) : (c.updPond f).fl = c.fl := rfl
@[simp] theorem updPond_fw (c : Chip) (f : Pond → Pond) : (c.updPond f).fw = c.fw := rfl
@[simp] theorem updPond_trunk (c : Chip) (f : Pond → Pond) : (c.updPond f).trunk = c.trunk := rfl
@[simp] theorem updPond_doors (c : Chip) (f : Pond → Pond) : (c.updPond f).doors = c.doors := rfl
@[simp] theorem updPond_cullet (c : Chip) (f : Pond → Pond) : (c.updPond f).cullet = c.cullet := rfl
@[simp] theorem updPond_culletLost (c : Chip) (f : Pond → Pond) : (c.updPond f).culletLost = c.culletLost := rfl
@[simp] theorem updPond_nextOrd (c : Chip) (f : Pond → Pond) : (c.updPond f).nextOrd = c.nextOrd := rfl
@[simp] theorem updPond_rates (c : Chip) (f : Pond → Pond) : (c.updPond f).rates = c.rates := rfl
@[simp] theorem updPond_svcPort (c : Chip) (f : Pond → Pond) : (c.updPond f).svcPort = c.svcPort := rfl
@[simp] theorem updPond_pond (c : Chip) (f : Pond → Pond) : (c.updPond f).pond = f c.pond := rfl
@[simp] theorem updPond_engines (c : Chip) (f : Pond → Pond) : (c.updPond f).engines = c.engines := rfl
@[simp] theorem updPond_basins (c : Chip) (f : Pond → Pond) : (c.updPond f).basins = c.basins := rfl
@[simp] theorem updPond_ports (c : Chip) (f : Pond → Pond) : (c.updPond f).ports = c.ports := rfl
@[simp] theorem updPond_chans (c : Chip) (f : Pond → Pond) : (c.updPond f).chans = c.chans := rfl
@[simp] theorem updPond_rails (c : Chip) (f : Pond → Pond) : (c.updPond f).rails = c.rails := rfl
@[simp] theorem updPond_sei (c : Chip) (f : Pond → Pond) : (c.updPond f).sei = c.sei := rfl
@[simp] theorem updPond_svc (c : Chip) (f : Pond → Pond) : (c.updPond f).svc = c.svc := rfl
@[simp] theorem updPond_pwr (c : Chip) (f : Pond → Pond) : (c.updPond f).pwr = c.pwr := rfl
@[simp] theorem updPond_bead (c : Chip) (f : Pond → Pond) : (c.updPond f).bead = c.bead := rfl
@[simp] theorem updPond_fab (c : Chip) (f : Pond → Pond) : (c.updPond f).fab = c.fab := rfl
@[simp] theorem updPond_ladders (c : Chip) (f : Pond → Pond) : (c.updPond f).ladders = c.ladders := rfl
@[simp] theorem updPond_freeCtr (c : Chip) (f : Pond → Pond) : (c.updPond f).freeCtr = c.freeCtr := rfl
@[simp] theorem updPond_rd (c : Chip) (f : Pond → Pond) (q : Reg) : (c.updPond f).rd q = c.rd q := rfl
@[simp] theorem updPond_get (c : Chip) (f : Pond → Pond) (q : Reg) (x : Field) : (c.updPond f).get q x = c.get q x := rfl

/-! ### updSvc -/

@[simp] theorem updSvc_regs (c : Chip) (f : SvcState → SvcState) : (c.updSvc f).regs = c.regs := rfl
@[simp] theorem updSvc_clk (c : Chip) (f : SvcState → SvcState) : (c.updSvc f).clk = c.clk := rfl
@[simp] theorem updSvc_fl (c : Chip) (f : SvcState → SvcState) : (c.updSvc f).fl = c.fl := rfl
@[simp] theorem updSvc_fw (c : Chip) (f : SvcState → SvcState) : (c.updSvc f).fw = c.fw := rfl
@[simp] theorem updSvc_trunk (c : Chip) (f : SvcState → SvcState) : (c.updSvc f).trunk = c.trunk := rfl
@[simp] theorem updSvc_doors (c : Chip) (f : SvcState → SvcState) : (c.updSvc f).doors = c.doors := rfl
@[simp] theorem updSvc_cullet (c : Chip) (f : SvcState → SvcState) : (c.updSvc f).cullet = c.cullet := rfl
@[simp] theorem updSvc_culletLost (c : Chip) (f : SvcState → SvcState) : (c.updSvc f).culletLost = c.culletLost := rfl
@[simp] theorem updSvc_nextOrd (c : Chip) (f : SvcState → SvcState) : (c.updSvc f).nextOrd = c.nextOrd := rfl
@[simp] theorem updSvc_rates (c : Chip) (f : SvcState → SvcState) : (c.updSvc f).rates = c.rates := rfl
@[simp] theorem updSvc_svcPort (c : Chip) (f : SvcState → SvcState) : (c.updSvc f).svcPort = c.svcPort := rfl
@[simp] theorem updSvc_pond (c : Chip) (f : SvcState → SvcState) : (c.updSvc f).pond = c.pond := rfl
@[simp] theorem updSvc_engines (c : Chip) (f : SvcState → SvcState) : (c.updSvc f).engines = c.engines := rfl
@[simp] theorem updSvc_basins (c : Chip) (f : SvcState → SvcState) : (c.updSvc f).basins = c.basins := rfl
@[simp] theorem updSvc_ports (c : Chip) (f : SvcState → SvcState) : (c.updSvc f).ports = c.ports := rfl
@[simp] theorem updSvc_chans (c : Chip) (f : SvcState → SvcState) : (c.updSvc f).chans = c.chans := rfl
@[simp] theorem updSvc_rails (c : Chip) (f : SvcState → SvcState) : (c.updSvc f).rails = c.rails := rfl
@[simp] theorem updSvc_sei (c : Chip) (f : SvcState → SvcState) : (c.updSvc f).sei = c.sei := rfl
@[simp] theorem updSvc_svc (c : Chip) (f : SvcState → SvcState) : (c.updSvc f).svc = f c.svc := rfl
@[simp] theorem updSvc_pwr (c : Chip) (f : SvcState → SvcState) : (c.updSvc f).pwr = c.pwr := rfl
@[simp] theorem updSvc_bead (c : Chip) (f : SvcState → SvcState) : (c.updSvc f).bead = c.bead := rfl
@[simp] theorem updSvc_fab (c : Chip) (f : SvcState → SvcState) : (c.updSvc f).fab = c.fab := rfl
@[simp] theorem updSvc_ladders (c : Chip) (f : SvcState → SvcState) : (c.updSvc f).ladders = c.ladders := rfl
@[simp] theorem updSvc_freeCtr (c : Chip) (f : SvcState → SvcState) : (c.updSvc f).freeCtr = c.freeCtr := rfl
@[simp] theorem updSvc_rd (c : Chip) (f : SvcState → SvcState) (q : Reg) : (c.updSvc f).rd q = c.rd q := rfl
@[simp] theorem updSvc_get (c : Chip) (f : SvcState → SvcState) (q : Reg) (x : Field) : (c.updSvc f).get q x = c.get q x := rfl

/-! ### updPwr -/

@[simp] theorem updPwr_regs (c : Chip) (f : Pwr → Pwr) : (c.updPwr f).regs = c.regs := rfl
@[simp] theorem updPwr_clk (c : Chip) (f : Pwr → Pwr) : (c.updPwr f).clk = c.clk := rfl
@[simp] theorem updPwr_fl (c : Chip) (f : Pwr → Pwr) : (c.updPwr f).fl = c.fl := rfl
@[simp] theorem updPwr_fw (c : Chip) (f : Pwr → Pwr) : (c.updPwr f).fw = c.fw := rfl
@[simp] theorem updPwr_trunk (c : Chip) (f : Pwr → Pwr) : (c.updPwr f).trunk = c.trunk := rfl
@[simp] theorem updPwr_doors (c : Chip) (f : Pwr → Pwr) : (c.updPwr f).doors = c.doors := rfl
@[simp] theorem updPwr_cullet (c : Chip) (f : Pwr → Pwr) : (c.updPwr f).cullet = c.cullet := rfl
@[simp] theorem updPwr_culletLost (c : Chip) (f : Pwr → Pwr) : (c.updPwr f).culletLost = c.culletLost := rfl
@[simp] theorem updPwr_nextOrd (c : Chip) (f : Pwr → Pwr) : (c.updPwr f).nextOrd = c.nextOrd := rfl
@[simp] theorem updPwr_rates (c : Chip) (f : Pwr → Pwr) : (c.updPwr f).rates = c.rates := rfl
@[simp] theorem updPwr_svcPort (c : Chip) (f : Pwr → Pwr) : (c.updPwr f).svcPort = c.svcPort := rfl
@[simp] theorem updPwr_pond (c : Chip) (f : Pwr → Pwr) : (c.updPwr f).pond = c.pond := rfl
@[simp] theorem updPwr_engines (c : Chip) (f : Pwr → Pwr) : (c.updPwr f).engines = c.engines := rfl
@[simp] theorem updPwr_basins (c : Chip) (f : Pwr → Pwr) : (c.updPwr f).basins = c.basins := rfl
@[simp] theorem updPwr_ports (c : Chip) (f : Pwr → Pwr) : (c.updPwr f).ports = c.ports := rfl
@[simp] theorem updPwr_chans (c : Chip) (f : Pwr → Pwr) : (c.updPwr f).chans = c.chans := rfl
@[simp] theorem updPwr_rails (c : Chip) (f : Pwr → Pwr) : (c.updPwr f).rails = c.rails := rfl
@[simp] theorem updPwr_sei (c : Chip) (f : Pwr → Pwr) : (c.updPwr f).sei = c.sei := rfl
@[simp] theorem updPwr_svc (c : Chip) (f : Pwr → Pwr) : (c.updPwr f).svc = c.svc := rfl
@[simp] theorem updPwr_pwr (c : Chip) (f : Pwr → Pwr) : (c.updPwr f).pwr = f c.pwr := rfl
@[simp] theorem updPwr_bead (c : Chip) (f : Pwr → Pwr) : (c.updPwr f).bead = c.bead := rfl
@[simp] theorem updPwr_fab (c : Chip) (f : Pwr → Pwr) : (c.updPwr f).fab = c.fab := rfl
@[simp] theorem updPwr_ladders (c : Chip) (f : Pwr → Pwr) : (c.updPwr f).ladders = c.ladders := rfl
@[simp] theorem updPwr_freeCtr (c : Chip) (f : Pwr → Pwr) : (c.updPwr f).freeCtr = c.freeCtr := rfl
@[simp] theorem updPwr_rd (c : Chip) (f : Pwr → Pwr) (q : Reg) : (c.updPwr f).rd q = c.rd q := rfl
@[simp] theorem updPwr_get (c : Chip) (f : Pwr → Pwr) (q : Reg) (x : Field) : (c.updPwr f).get q x = c.get q x := rfl

/-! ### updBead -/

@[simp] theorem updBead_regs (c : Chip) (f : BeadSt → BeadSt) : (c.updBead f).regs = c.regs := rfl
@[simp] theorem updBead_clk (c : Chip) (f : BeadSt → BeadSt) : (c.updBead f).clk = c.clk := rfl
@[simp] theorem updBead_fl (c : Chip) (f : BeadSt → BeadSt) : (c.updBead f).fl = c.fl := rfl
@[simp] theorem updBead_fw (c : Chip) (f : BeadSt → BeadSt) : (c.updBead f).fw = c.fw := rfl
@[simp] theorem updBead_trunk (c : Chip) (f : BeadSt → BeadSt) : (c.updBead f).trunk = c.trunk := rfl
@[simp] theorem updBead_doors (c : Chip) (f : BeadSt → BeadSt) : (c.updBead f).doors = c.doors := rfl
@[simp] theorem updBead_cullet (c : Chip) (f : BeadSt → BeadSt) : (c.updBead f).cullet = c.cullet := rfl
@[simp] theorem updBead_culletLost (c : Chip) (f : BeadSt → BeadSt) : (c.updBead f).culletLost = c.culletLost := rfl
@[simp] theorem updBead_nextOrd (c : Chip) (f : BeadSt → BeadSt) : (c.updBead f).nextOrd = c.nextOrd := rfl
@[simp] theorem updBead_rates (c : Chip) (f : BeadSt → BeadSt) : (c.updBead f).rates = c.rates := rfl
@[simp] theorem updBead_svcPort (c : Chip) (f : BeadSt → BeadSt) : (c.updBead f).svcPort = c.svcPort := rfl
@[simp] theorem updBead_pond (c : Chip) (f : BeadSt → BeadSt) : (c.updBead f).pond = c.pond := rfl
@[simp] theorem updBead_engines (c : Chip) (f : BeadSt → BeadSt) : (c.updBead f).engines = c.engines := rfl
@[simp] theorem updBead_basins (c : Chip) (f : BeadSt → BeadSt) : (c.updBead f).basins = c.basins := rfl
@[simp] theorem updBead_ports (c : Chip) (f : BeadSt → BeadSt) : (c.updBead f).ports = c.ports := rfl
@[simp] theorem updBead_chans (c : Chip) (f : BeadSt → BeadSt) : (c.updBead f).chans = c.chans := rfl
@[simp] theorem updBead_rails (c : Chip) (f : BeadSt → BeadSt) : (c.updBead f).rails = c.rails := rfl
@[simp] theorem updBead_sei (c : Chip) (f : BeadSt → BeadSt) : (c.updBead f).sei = c.sei := rfl
@[simp] theorem updBead_svc (c : Chip) (f : BeadSt → BeadSt) : (c.updBead f).svc = c.svc := rfl
@[simp] theorem updBead_pwr (c : Chip) (f : BeadSt → BeadSt) : (c.updBead f).pwr = c.pwr := rfl
@[simp] theorem updBead_bead (c : Chip) (f : BeadSt → BeadSt) : (c.updBead f).bead = f c.bead := rfl
@[simp] theorem updBead_fab (c : Chip) (f : BeadSt → BeadSt) : (c.updBead f).fab = c.fab := rfl
@[simp] theorem updBead_ladders (c : Chip) (f : BeadSt → BeadSt) : (c.updBead f).ladders = c.ladders := rfl
@[simp] theorem updBead_freeCtr (c : Chip) (f : BeadSt → BeadSt) : (c.updBead f).freeCtr = c.freeCtr := rfl
@[simp] theorem updBead_rd (c : Chip) (f : BeadSt → BeadSt) (q : Reg) : (c.updBead f).rd q = c.rd q := rfl
@[simp] theorem updBead_get (c : Chip) (f : BeadSt → BeadSt) (q : Reg) (x : Field) : (c.updBead f).get q x = c.get q x := rfl

/-! ### updFab -/

@[simp] theorem updFab_regs (c : Chip) (f : Fabric → Fabric) : (c.updFab f).regs = c.regs := rfl
@[simp] theorem updFab_clk (c : Chip) (f : Fabric → Fabric) : (c.updFab f).clk = c.clk := rfl
@[simp] theorem updFab_fl (c : Chip) (f : Fabric → Fabric) : (c.updFab f).fl = c.fl := rfl
@[simp] theorem updFab_fw (c : Chip) (f : Fabric → Fabric) : (c.updFab f).fw = c.fw := rfl
@[simp] theorem updFab_trunk (c : Chip) (f : Fabric → Fabric) : (c.updFab f).trunk = c.trunk := rfl
@[simp] theorem updFab_doors (c : Chip) (f : Fabric → Fabric) : (c.updFab f).doors = c.doors := rfl
@[simp] theorem updFab_cullet (c : Chip) (f : Fabric → Fabric) : (c.updFab f).cullet = c.cullet := rfl
@[simp] theorem updFab_culletLost (c : Chip) (f : Fabric → Fabric) : (c.updFab f).culletLost = c.culletLost := rfl
@[simp] theorem updFab_nextOrd (c : Chip) (f : Fabric → Fabric) : (c.updFab f).nextOrd = c.nextOrd := rfl
@[simp] theorem updFab_rates (c : Chip) (f : Fabric → Fabric) : (c.updFab f).rates = c.rates := rfl
@[simp] theorem updFab_svcPort (c : Chip) (f : Fabric → Fabric) : (c.updFab f).svcPort = c.svcPort := rfl
@[simp] theorem updFab_pond (c : Chip) (f : Fabric → Fabric) : (c.updFab f).pond = c.pond := rfl
@[simp] theorem updFab_engines (c : Chip) (f : Fabric → Fabric) : (c.updFab f).engines = c.engines := rfl
@[simp] theorem updFab_basins (c : Chip) (f : Fabric → Fabric) : (c.updFab f).basins = c.basins := rfl
@[simp] theorem updFab_ports (c : Chip) (f : Fabric → Fabric) : (c.updFab f).ports = c.ports := rfl
@[simp] theorem updFab_chans (c : Chip) (f : Fabric → Fabric) : (c.updFab f).chans = c.chans := rfl
@[simp] theorem updFab_rails (c : Chip) (f : Fabric → Fabric) : (c.updFab f).rails = c.rails := rfl
@[simp] theorem updFab_sei (c : Chip) (f : Fabric → Fabric) : (c.updFab f).sei = c.sei := rfl
@[simp] theorem updFab_svc (c : Chip) (f : Fabric → Fabric) : (c.updFab f).svc = c.svc := rfl
@[simp] theorem updFab_pwr (c : Chip) (f : Fabric → Fabric) : (c.updFab f).pwr = c.pwr := rfl
@[simp] theorem updFab_bead (c : Chip) (f : Fabric → Fabric) : (c.updFab f).bead = c.bead := rfl
@[simp] theorem updFab_fab (c : Chip) (f : Fabric → Fabric) : (c.updFab f).fab = f c.fab := rfl
@[simp] theorem updFab_ladders (c : Chip) (f : Fabric → Fabric) : (c.updFab f).ladders = c.ladders := rfl
@[simp] theorem updFab_freeCtr (c : Chip) (f : Fabric → Fabric) : (c.updFab f).freeCtr = c.freeCtr := rfl
@[simp] theorem updFab_rd (c : Chip) (f : Fabric → Fabric) (q : Reg) : (c.updFab f).rd q = c.rd q := rfl
@[simp] theorem updFab_get (c : Chip) (f : Fabric → Fabric) (q : Reg) (x : Field) : (c.updFab f).get q x = c.get q x := rfl

/-! ### updSei -/

@[simp] theorem updSei_regs (c : Chip) (f : Seiche → Seiche) : (c.updSei f).regs = c.regs := rfl
@[simp] theorem updSei_clk (c : Chip) (f : Seiche → Seiche) : (c.updSei f).clk = c.clk := rfl
@[simp] theorem updSei_fl (c : Chip) (f : Seiche → Seiche) : (c.updSei f).fl = c.fl := rfl
@[simp] theorem updSei_fw (c : Chip) (f : Seiche → Seiche) : (c.updSei f).fw = c.fw := rfl
@[simp] theorem updSei_trunk (c : Chip) (f : Seiche → Seiche) : (c.updSei f).trunk = c.trunk := rfl
@[simp] theorem updSei_doors (c : Chip) (f : Seiche → Seiche) : (c.updSei f).doors = c.doors := rfl
@[simp] theorem updSei_cullet (c : Chip) (f : Seiche → Seiche) : (c.updSei f).cullet = c.cullet := rfl
@[simp] theorem updSei_culletLost (c : Chip) (f : Seiche → Seiche) : (c.updSei f).culletLost = c.culletLost := rfl
@[simp] theorem updSei_nextOrd (c : Chip) (f : Seiche → Seiche) : (c.updSei f).nextOrd = c.nextOrd := rfl
@[simp] theorem updSei_rates (c : Chip) (f : Seiche → Seiche) : (c.updSei f).rates = c.rates := rfl
@[simp] theorem updSei_svcPort (c : Chip) (f : Seiche → Seiche) : (c.updSei f).svcPort = c.svcPort := rfl
@[simp] theorem updSei_pond (c : Chip) (f : Seiche → Seiche) : (c.updSei f).pond = c.pond := rfl
@[simp] theorem updSei_engines (c : Chip) (f : Seiche → Seiche) : (c.updSei f).engines = c.engines := rfl
@[simp] theorem updSei_basins (c : Chip) (f : Seiche → Seiche) : (c.updSei f).basins = c.basins := rfl
@[simp] theorem updSei_ports (c : Chip) (f : Seiche → Seiche) : (c.updSei f).ports = c.ports := rfl
@[simp] theorem updSei_chans (c : Chip) (f : Seiche → Seiche) : (c.updSei f).chans = c.chans := rfl
@[simp] theorem updSei_rails (c : Chip) (f : Seiche → Seiche) : (c.updSei f).rails = c.rails := rfl
@[simp] theorem updSei_sei (c : Chip) (f : Seiche → Seiche) : (c.updSei f).sei = f c.sei := rfl
@[simp] theorem updSei_svc (c : Chip) (f : Seiche → Seiche) : (c.updSei f).svc = c.svc := rfl
@[simp] theorem updSei_pwr (c : Chip) (f : Seiche → Seiche) : (c.updSei f).pwr = c.pwr := rfl
@[simp] theorem updSei_bead (c : Chip) (f : Seiche → Seiche) : (c.updSei f).bead = c.bead := rfl
@[simp] theorem updSei_fab (c : Chip) (f : Seiche → Seiche) : (c.updSei f).fab = c.fab := rfl
@[simp] theorem updSei_ladders (c : Chip) (f : Seiche → Seiche) : (c.updSei f).ladders = c.ladders := rfl
@[simp] theorem updSei_freeCtr (c : Chip) (f : Seiche → Seiche) : (c.updSei f).freeCtr = c.freeCtr := rfl
@[simp] theorem updSei_rd (c : Chip) (f : Seiche → Seiche) (q : Reg) : (c.updSei f).rd q = c.rd q := rfl
@[simp] theorem updSei_get (c : Chip) (f : Seiche → Seiche) (q : Reg) (x : Field) : (c.updSei f).get q x = c.get q x := rfl

/-! ### An entry that an update sets, and the others -/

@[simp] theorem updPort_same (c : Chip) (n : Port) (f : PortSt → PortSt) : (c.updPort n f).ports[n] = f c.ports[n] := by
  simp
theorem updPort_other (c : Chip) {n m : Port} (f : PortSt → PortSt) (h : n ≠ m) : (c.updPort n f).ports[m] = c.ports[m] := by
  have : n.val ≠ m.val := fun e => h (Fin.ext e)
  simp [this]
@[simp] theorem updDrop_same (c : Chip) (n : Port) (f : Drop → Drop) : ((c.updDrop n f).ports[n]).drop = f (c.ports[n]).drop := by
  simp [Chip.updDrop]
@[simp] theorem updLine_same (c : Chip) (n : Port) (f : Line → Line) : ((c.updLine n f).ports[n]).line = f (c.ports[n]).line := by
  simp [Chip.updLine]
@[simp] theorem updPd_same (c : Chip) (n : Port) (f : Pd → Pd) : ((c.updPd n f).ports[n]).pd = f (c.ports[n]).pd := by
  simp [Chip.updPd]
@[simp] theorem updChan_same (c : Chip) (n : Port) (f : Chan → Chan) : (c.updChan n f).chans[n] = f c.chans[n] := by simp
@[simp] theorem updDoor_same (c : Chip) (d : Door) (f : DoorSt → DoorSt) : (c.updDoor d f).doors[d] = f c.doors[d] := by simp
@[simp] theorem updRail_same (c : Chip) (j : RailId) (f : Rail → Rail) : (c.updRail j f).rails[j] = f c.rails[j] := by simp
@[simp] theorem updBelt_same (c : Chip) (b : Belt) (f : BeltSt → BeltSt) : (c.updBelt b f).sei.belts[b] = f c.sei.belts[b] := by
  simp [Chip.updBelt]
@[simp] theorem updLane_same (c : Chip) (l : LaneId) (f : Lane → Lane) : (c.updLane l f).trunk.lanes[l] = f c.trunk.lanes[l] := by
  simp [Chip.updLane]
@[simp] theorem updOutfall_same (c : Chip) (o : Io) (f : OutfallSt → OutfallSt) :
    (c.updOutfall o f).sei.outfalls[o] = f c.sei.outfalls[o] := by
  simp [Chip.updOutfall]

end Sys2Proof.Laws
end

