-- ==== Sys2Proof/Laws/Regs.lean ====
section
/-! SUPPORT. Registers and fields: what reads as what after a write (R12, R316). -/

namespace Sys2Proof.Laws

open Sys2Proof.Machine

/-! ### Fields of a word -/

/-- A field inside the word. -/
abbrev Field.fits (f : Field) : Prop := f.lo ≤ f.hi ∧ f.hi < 32

theorem testBit_fmask (f : Field) (h : Field.fits f) (i : Nat) :
    (fmask f).toNat.testBit i = (decide (f.lo ≤ i) && decide (i ≤ f.hi)) := by
  obtain ⟨h1, h2⟩ := h
  have hb : (2 ^ (f.hi + 1 - f.lo) - 1) <<< f.lo < 2 ^ 32 := by
    rw [Nat.shiftLeft_eq]
    calc (2 ^ (f.hi + 1 - f.lo) - 1) * 2 ^ f.lo < 2 ^ (f.hi + 1 - f.lo) * 2 ^ f.lo :=
          Nat.mul_lt_mul_of_pos_right (Nat.sub_lt (Nat.two_pow_pos _) (by decide)) (Nat.two_pow_pos _)
      _ = 2 ^ (f.hi + 1) := by rw [← pow_add]; congr 1; omega
      _ ≤ 2 ^ 32 := Nat.pow_le_pow_right (by decide) (by omega)
  unfold fmask
  rw [BitVec.toNat_ofNat, Nat.mod_eq_of_lt hb, Nat.testBit_shiftLeft, Nat.testBit_two_pow_sub_one]
  by_cases a : f.lo ≤ i <;> by_cases b : i ≤ f.hi <;> simp [a, b] <;> omega

theorem getLsbD_fmask (f : Field) (h : Field.fits f) (i : Nat) :
    (fmask f).getLsbD i = (decide (f.lo ≤ i) && decide (i ≤ f.hi)) := testBit_fmask f h i

theorem getLsbD_fset (w : Word) (f : Field) (v i : Nat) (h : Field.fits f) (hi : i < 32) :
    (fset w f v).getLsbD i = if f.lo ≤ i ∧ i ≤ f.hi then v.testBit (i - f.lo) else w.getLsbD i := by
  unfold fset
  simp only [BitVec.getLsbD_or, BitVec.getLsbD_and, BitVec.getLsbD_not, getLsbD_fmask f h, BitVec.getLsbD_shiftLeft,
    BitVec.getLsbD_ofNat]
  by_cases a : f.lo ≤ i
  · by_cases b : i ≤ f.hi
    · have c : i - f.lo < 32 := by omega
      have d : ¬ i < f.lo := by omega
      simp [a, b, c, d, hi]
    · simp [a, b, hi]
  · have : i < f.lo := by omega
    simp [a, hi]

/-- A field reads as written, to its width. -/
theorem fget_fset_same (w : Word) (f : Field) (v : Nat) (h : Field.fits f) :
    fget (fset w f v) f = v % 2 ^ (f.hi + 1 - f.lo) := by
  obtain ⟨h1, h2⟩ := h
  apply Nat.eq_of_testBit_eq
  intro i
  unfold fget
  rw [BitVec.testBit_toNat, BitVec.getLsbD_extractLsb', Nat.testBit_mod_two_pow]
  by_cases a : i < f.hi + 1 - f.lo
  · rw [getLsbD_fset _ _ _ _ ⟨h1, h2⟩ (by omega)]
    have b : f.lo ≤ f.lo + i ∧ f.lo + i ≤ f.hi := by omega
    simp [a, b]
  · simp [a]

/-- A field apart from the one written reads as before. -/
theorem fget_fset_other (w : Word) (f g : Field) (v : Nat) (h : Field.fits f) (hg : g.hi < 32)
    (hd : f.hi < g.lo ∨ g.hi < f.lo) : fget (fset w f v) g = fget w g := by
  unfold fget
  congr 1
  ext i hi
  rw [BitVec.getElem_extractLsb', BitVec.getElem_extractLsb', getLsbD_fset _ _ _ _ h (by omega), if_neg (by omega)]

/-! ### Registers -/

theorem rd_wr_same (c : Chip) (h : Canon c) (r : Reg) (v : Word) : (c.wr r v).rd r = v := regGet_regSet_same _ _ _ h.regs

@[simp] theorem rd_wr_other (c : Chip) {r q : Reg} (v : Word) (h : q ≠ r) : (c.wr r v).rd q = c.rd q :=
  regGet_regSet_other _ _ h

@[simp] theorem rd_setF_other (c : Chip) {r q : Reg} (f : Field) (v : Nat) (h : q ≠ r) : (c.setF r f v).rd q = c.rd q :=
  rd_wr_other c _ h

theorem canon_wr {c : Chip} (h : Canon c) (r : Reg) (v : Word) : Canon (c.wr r v) :=
  ⟨regsOk_regSet _ _ _ h.regs, h.flash, h.blocks⟩

theorem canon_setF {c : Chip} (h : Canon c) (r : Reg) (f : Field) (v : Nat) : Canon (c.setF r f v) := canon_wr h _ _

theorem canon_bump {c : Chip} (h : Canon c) (r : Reg) : Canon (c.bump r) := canon_setF h _ _ _

theorem canon_setSt {c : Chip} (h : Canon c) (r : Reg) (f : Field) (v : Nat) : Canon (c.setSt r f v) := by
  unfold Chip.setSt
  split
  · exact h
  · exact canon_bump (canon_setF h _ _ _) _

theorem get_setF_same (c : Chip) (h : Canon c) (r : Reg) (f : Field) (v : Nat) (hf : Field.fits f) :
    (c.setF r f v).get r f = v % 2 ^ (f.hi + 1 - f.lo) := by
  unfold Chip.get Chip.setF
  rw [rd_wr_same c h, fget_fset_same _ _ _ hf]

theorem get_setF_field (c : Chip) (h : Canon c) (r : Reg) (f g : Field) (v : Nat) (hf : Field.fits f) (hg : g.hi < 32)
    (hd : f.hi < g.lo ∨ g.hi < f.lo) : (c.setF r f v).get r g = c.get r g := by
  unfold Chip.get Chip.setF
  rw [rd_wr_same c h, fget_fset_other _ _ _ _ hf hg hd]

/-- SEQ's advance leaves the other fields. -/
theorem get_bump (c : Chip) (h : Canon c) (r : Reg) (g : Field) (hg : g.hi < 24) : (c.bump r).get r g = c.get r g :=
  get_setF_field c h r _ g _ (by decide) (by omega) (by simp only [seqF]; omega)

/-- A status field reads as set (R316). -/
theorem get_setSt_same (c : Chip) (h : Canon c) (r : Reg) (f : Field) (v : Nat) (hf : Field.fits f) (hs : f.hi < 24)
    (hv : v < 2 ^ (f.hi + 1 - f.lo)) : (c.setSt r f v).get r f = v := by
  unfold Chip.setSt
  split
  · assumption
  · rw [get_bump _ (canon_setF h _ _ _) _ _ hs, get_setF_same c h _ _ _ hf, Nat.mod_eq_of_lt hv]

theorem rd_setSt_other (c : Chip) {r q : Reg} (f : Field) (v : Nat) (h : q ≠ r) : (c.setSt r f v).rd q = c.rd q := by
  unfold Chip.setSt Chip.bump
  split
  · rfl
  · rw [rd_setF_other _ _ _ h, rd_setF_other _ _ _ h]

end Sys2Proof.Laws
end

