-- ==== Sys2Proof/Laws/Answer.lean ====
section
/-! SUPPORT. Requests (06): taking one that may start, and answering it. -/

namespace Sys2Proof.Laws

open Sys2Proof.Machine

theorem mem_updFirst {α : Type} (p : α → Bool) (f : α → α) (l : List α) (x : α) (h : l.find? p = some x) (hp : p (f x) = true) :
    (updFirst p f l).find? p = some (f x) := by
  induction l with
  | nil => simp at h
  | cons y t ih =>
    unfold updFirst
    by_cases hy : p y = true
    · rw [List.find?_cons_of_pos hy] at h
      cases h
      simp [hy, hp]
    · rw [List.find?_cons_of_neg hy] at h
      simp [hy, ih h]

/-- Moving an entry to another state. -/
theorem entry_setReqSt (c : Chip) (q : ReqId) (st : ReqSt) (e : ReqEntry) (h : c.entry? q = some e) :
    (c.setReqSt q st).entry? q = some { e with st := st } := by
  unfold Chip.entry? Chip.setReqSt
  rw [updDoor_same]
  exact mem_updFirst _ _ _ e h (by
    have := List.find?_some h
    exact this)

theorem entry_ord {c : Chip} {q : ReqId} {e : ReqEntry} (h : c.entry? q = some e) : e.ord = q.ord := by
  have := List.find?_some h
  simpa using this

@[simp] theorem setReqSt_releasing (c : Chip) (q : ReqId) (st : ReqSt) (d : Door) :
    ((c.setReqSt q st).doors[d]).releasing = (c.doors[d]).releasing := by
  unfold Chip.setReqSt
  by_cases h : q.door = d
  · subst h; simp
  · have : q.door.val ≠ d.val := fun e => h (Fin.ext e)
    simp [this]

/-- A request that may start is taken and executed. -/
theorem serve_start {c : Chip} {q : ReqId} {op : BitVec 16} {kinds : List Nat} {e : ReqEntry} (h : Startable c q op kinds e)
    (body : ReqEntry → Chip → Chip) : c.serve q op kinds body = body e ((c.setReqSt q .executing).active) := by
  unfold Chip.serve
  rw [h.ready]
  simp only [h.epochs]
  rw [if_neg]
  rw [h.target, h.kind]
  decide

theorem ready_entry {c : Chip} {q : ReqId} {op : BitVec 16} {e : ReqEntry} (h : c.ready q op = some e) :
    c.entry? q = some e ∧ e.st = .pending ∧ e.req.opcode = op := by
  unfold Chip.ready at h
  split at h
  · exact absurd h (by simp)
  · next x hx =>
    split at h
    · next hc => cases h; exact ⟨hx, hc.1, hc.2.1⟩
    · exact absurd h (by simp)

theorem rspParts_mem (path : Path) (frees : Option Nat) (r : Request) (result : Nat) (ep : BitVec 16) (num : Nat) (data : List Nat)
    (n : Nat) : ∃ p ∈ rspParts path frees r result ep num data n,
      p.opcode = r.opcode ∧ p.tag = r.tag ∧ p.result = result ∧ p.data = data := by
  refine ⟨_, List.mem_map.2 ⟨0, List.mem_range.2 (by omega), rfl⟩, rfl, rfl, rfl, rfl⟩

theorem mem_push (d : DoorSt) (ps : List RspPart) (p : RspPart) (h : p ∈ ps) : p ∈ (d.push ps).rsps ++ (d.push ps).rspWait := by
  unfold DoorSt.push
  simp only [List.append_assoc, List.take_append_drop]
  simp [h]

/-- An executing request on a door that is not being released gets its response (R136). -/
theorem answer_answered {c : Chip} {q : ReqId} {x : ReqEntry} (hx : c.entry? q = some x) (hs : x.st ≠ .done)
    (hr : (c.doors[q.door]).releasing = none) (result : Nat) (data : List Nat) (n : Nat) (e : ReqEntry) (he : x.req = e.req) :
    Answered (c.answer q result data n) q e result data := by
  unfold Chip.answer
  rw [hx]
  simp only [hr, Option.isSome_none, Bool.false_and, Bool.false_eq_true, if_false, if_neg hs]
  unfold Chip.answerEntry
  constructor
  · refine ⟨{ x with st := .done }, ?_, rfl⟩
    unfold Chip.entry?
    rw [updDoor_same]
    exact entry_setReqSt c q .done x hx
  · rw [updDoor_same]
    rw [← he]
    obtain ⟨p, hp, h⟩ := rspParts_mem x.path (some q.ord) x.req result ((c.setReqSt q .done).tgtEpoch x.req)
      (if c.doors[q.door].path.isSome then x.num else 0) data n
    exact ⟨p, mem_push _ _ p hp, h⟩

/-- A request that may start is answered by an opcode that keeps the request rings until it answers. -/
theorem startable_answered {c d : Chip} {q : ReqId} {op : BitVec 16} {kinds : List Nat} {e : ReqEntry} (h : Startable c q op kinds e)
    {f : Frame} (hf : Fr f ((c.setReqSt q .executing).active) d) (hq : Part.reqs ∉ f.parts) (result : Nat) (data : List Nat) (n : Nat) :
    Answered (d.answer q result data n) q e result data := by
  have h0 := (ready_entry h.ready).1
  have h1 := entry_setReqSt c q .executing e h0
  have ha : Fr ⟨[.basins, .pwr], fun r => r matches .PWR_STATUS⟩ (c.setReqSt q .executing) ((c.setReqSt q .executing).active) :=
    Chip.active_fr (Fr.refl _ _) (by decide) (by decide) rfl
  have k1 := ha.kept.reqs (by decide) q.door
  have k2 := hf.kept.reqs hq q.door
  have hx : d.entry? q = some { e with st := .executing } := by
    rw [← h1]
    unfold Chip.entry?
    rw [k2.1, k1.1]
  refine answer_answered hx (by simp) ?_ result data n e rfl
  rw [k2.2.2, k1.2.2, setReqSt_releasing, h.held]

end Sys2Proof.Laws
end

