-- ==== Sys2Proof/Laws/PerInstr.lean ====
section
/-! SUPPORT. Laws of every command as syntax: no word of the opcode table spells it, whatever its operands (no row of
spec/opcode_table.json gives bits). -/

namespace Sys2Proof.Laws

/-- No word spells the command. -/
def NoWord.Statement (i : Instr) : Prop := ∀ nbits w, decodeTableWord nbits w ≠ some i

theorem NoWord.any (i : Instr) : NoWord.Statement i := fun _ _ h => nomatch h

theorem NoWord.vddAonPowerOn : NoWord.Statement .vddAonPowerOn := NoWord.any _
theorem NoWord.supplyMonitorTrip (x0 : Supply) :
    NoWord.Statement (.supplyMonitorTrip x0) := NoWord.any _
theorem NoWord.supplyRecovered (x0 : Supply) :
    NoWord.Statement (.supplyRecovered x0) := NoWord.any _
theorem NoWord.porstNLow : NoWord.Statement .porstNLow := NoWord.any _
theorem NoWord.porstNRise (x0 : BitVec 4) :
    NoWord.Statement (.porstNRise x0) := NoWord.any _
theorem NoWord.firmwareBoot (x0 : BitVec 9) (x1 : Option ConfigImage) :
    NoWord.Statement (.firmwareBoot x0 x1) := NoWord.any _
theorem NoWord.bootWatchdogExpiry : NoWord.Statement .bootWatchdogExpiry := NoWord.any _
theorem NoWord.bootOkWrite (x0 : RegPath) (x1 : Word) :
    NoWord.Statement (.bootOkWrite x0 x1) := NoWord.any _
theorem NoWord.clkCtlPllEn (x0 : RegPath) (x1 : Word) :
    NoWord.Statement (.clkCtlPllEn x0 x1) := NoWord.any _
theorem NoWord.clkCtlSysSel (x0 : RegPath) (x1 : Word) :
    NoWord.Statement (.clkCtlSysSel x0 x1) := NoWord.any _
theorem NoWord.clkCtlRefEn (x0 : RegPath) (x1 : Word) :
    NoWord.Statement (.clkCtlRefEn x0 x1) := NoWord.any _
theorem NoWord.pllLock (x0 : Pll) :
    NoWord.Statement (.pllLock x0) := NoWord.any _
theorem NoWord.pllLockTimeout : NoWord.Statement .pllLockTimeout := NoWord.any _
theorem NoWord.refInQualified : NoWord.Statement .refInQualified := NoWord.any _
theorem NoWord.refInLost : NoWord.Statement .refInLost := NoWord.any _
theorem NoWord.crystalFailure : NoWord.Statement .crystalFailure := NoWord.any _
theorem NoWord.crystalReturn : NoWord.Statement .crystalReturn := NoWord.any _
theorem NoWord.pllRefSlewEnd : NoWord.Statement .pllRefSlewEnd := NoWord.any _
theorem NoWord.pllUnlock (x0 : Pll) :
    NoWord.Statement (.pllUnlock x0) := NoWord.any _
theorem NoWord.pllRelock (x0 : Pll) :
    NoWord.Statement (.pllRelock x0) := NoWord.any _
theorem NoWord.portReset (x0 : Port) (x1 : Option ReqId) :
    NoWord.Statement (.portReset x0 x1) := NoWord.any _
theorem NoWord.basinReset (x0 : Basin) (x1 : Option ReqId) (x2 : List Cid) (x3 : Bool) :
    NoWord.Statement (.basinReset x0 x1 x2 x3) := NoWord.any _
theorem NoWord.headspringReset (x0 : Option ReqId) :
    NoWord.Statement (.headspringReset x0) := NoWord.any _
theorem NoWord.laneReset (x0 : LaneId) (x1 : Option ReqId) :
    NoWord.Statement (.laneReset x0 x1) := NoWord.any _
theorem NoWord.deviceReset (x0 : Option ReqId) :
    NoWord.Statement (.deviceReset x0) := NoWord.any _
theorem NoWord.resetDone (x0 : Scope) :
    NoWord.Statement (.resetDone x0) := NoWord.any _
theorem NoWord.fuseLinkFrame (x0 : Die) (x1 : List ChSample) (x2 : List (RailId × BitVec 16)) :
    NoWord.Statement (.fuseLinkFrame x0 x1 x2) := NoWord.any _
theorem NoWord.fuseLinkBadFrame (x0 : Die) (x1 : BadLinkFrame) :
    NoWord.Statement (.fuseLinkBadFrame x0 x1) := NoWord.any _
theorem NoWord.fuseLinkResync (x0 : Die) :
    NoWord.Statement (.fuseLinkResync x0) := NoWord.any _
theorem NoWord.ttpFrameReceive (x0 : LaneId) (x1 : RxFrame) :
    NoWord.Statement (.ttpFrameReceive x0 x1) := NoWord.any _
theorem NoWord.mbxReqReceive (x0 : Door) (x1 : Bool) :
    NoWord.Statement (.mbxReqReceive x0 x1) := NoWord.any _
theorem NoWord.svcPortRequest (x0 : Door) (x1 : List Byte) :
    NoWord.Statement (.svcPortRequest x0 x1) := NoWord.any _
theorem NoWord.streamFrameReceive (x0 : BitVec 16) (x1 : Bool) :
    NoWord.Statement (.streamFrameReceive x0 x1) := NoWord.any _
theorem NoWord.regwinFrameReceive : NoWord.Statement .regwinFrameReceive := NoWord.any _
theorem NoWord.swapReqReceive (x0 : LaneId) :
    NoWord.Statement (.swapReqReceive x0) := NoWord.any _
theorem NoWord.swapAckReceive (x0 : LaneId) :
    NoWord.Statement (.swapAckReceive x0) := NoWord.any _
theorem NoWord.echoReplyReceive (x0 : LaneId) :
    NoWord.Statement (.echoReplyReceive x0) := NoWord.any _
theorem NoWord.wakeFrameReceive (x0 : LaneId) :
    NoWord.Statement (.wakeFrameReceive x0) := NoWord.any _
theorem NoWord.ptpDelayReqReceive (x0 : LaneId) (x1 : DelayReq) (x2 : BitVec 16) (x3 : Byte) :
    NoWord.Statement (.ptpDelayReqReceive x0 x1 x2 x3) := NoWord.any _
theorem NoWord.ptpAnnounceReceive (x0 : LaneId) (x1 : BitVec 64) :
    NoWord.Statement (.ptpAnnounceReceive x0 x1) := NoWord.any _
theorem NoWord.ptpSyncSend (x0 : LaneId) :
    NoWord.Statement (.ptpSyncSend x0) := NoWord.any _
theorem NoWord.ptpAnnounceSend (x0 : LaneId) :
    NoWord.Statement (.ptpAnnounceSend x0) := NoWord.any _
theorem NoWord.echoSend : NoWord.Statement .echoSend := NoWord.any _
theorem NoWord.laneUp (x0 : LaneId) :
    NoWord.Statement (.laneUp x0) := NoWord.any _
theorem NoWord.laneLossDeclared (x0 : LaneId) (x1 : LossCause) :
    NoWord.Statement (.laneLossDeclared x0 x1) := NoWord.any _
theorem NoWord.failoverComplete : NoWord.Statement .failoverComplete := NoWord.any _
theorem NoWord.laneBackTimer (x0 : LaneId) :
    NoWord.Statement (.laneBackTimer x0) := NoWord.any _
theorem NoWord.laneDegradedWindow (x0 : LaneId) (x1 : Nat) (x2 : Bool) :
    NoWord.Statement (.laneDegradedWindow x0 x1 x2) := NoWord.any _
theorem NoWord.laneHealthy (x0 : LaneId) :
    NoWord.Statement (.laneHealthy x0) := NoWord.any _
theorem NoWord.swapTimerExpiry : NoWord.Statement .swapTimerExpiry := NoWord.any _
theorem NoWord.reorderHoldExpiry (x0 : Nat) (x1 : BitVec 16) :
    NoWord.Statement (.reorderHoldExpiry x0 x1) := NoWord.any _
theorem NoWord.spillReplayEnd : NoWord.Statement .spillReplayEnd := NoWord.any _
theorem NoWord.eventFrameSend (x0 : Door) :
    NoWord.Statement (.eventFrameSend x0) := NoWord.any _
theorem NoWord.mbxRspSend (x0 : Door) :
    NoWord.Statement (.mbxRspSend x0) := NoWord.any _
theorem NoWord.streamFrameSend (x0 : BitVec 16) :
    NoWord.Statement (.streamFrameSend x0) := NoWord.any _
theorem NoWord.noLaneAfterDeep : NoWord.Statement .noLaneAfterDeep := NoWord.any _
theorem NoWord.leaseExpiry (x0 : Door) :
    NoWord.Statement (.leaseExpiry x0) := NoWord.any _
theorem NoWord.leaseWrite (x0 : RegPath) (x1 : Word) :
    NoWord.Statement (.leaseWrite x0 x1) := NoWord.any _
theorem NoWord.rateWindowEnd (x0 : Nat) (x1 : Nat) :
    NoWord.Statement (.rateWindowEnd x0 x1) := NoWord.any _
theorem NoWord.svcEventPoll : NoWord.Statement .svcEventPoll := NoWord.any _
theorem NoWord.svcPortRemoteWake : NoWord.Statement .svcPortRemoteWake := NoWord.any _
theorem NoWord.svcHostResumeK : NoWord.Statement .svcHostResumeK := NoWord.any _
theorem NoWord.identify (x0 : ReqId) :
    NoWord.Statement (.identify x0) := NoWord.any _
theorem NoWord.doorClaim (x0 : ReqId) (x1 : BitVec 64) (x2 : BitVec 16) :
    NoWord.Statement (.doorClaim x0 x1 x2) := NoWord.any _
theorem NoWord.doorRelease (x0 : ReqId) :
    NoWord.Statement (.doorRelease x0) := NoWord.any _
theorem NoWord.doorKeepalive (x0 : ReqId) :
    NoWord.Statement (.doorKeepalive x0) := NoWord.any _
theorem NoWord.eventAck (x0 : ReqId) (x1 : BitVec 32) :
    NoWord.Statement (.eventAck x0 x1) := NoWord.any _
theorem NoWord.eventRead (x0 : ReqId) (x1 : BitVec 32) (x2 : Nat) :
    NoWord.Statement (.eventRead x0 x1 x2) := NoWord.any _
theorem NoWord.subscribe (x0 : ReqId) (x1 : BitVec 16) :
    NoWord.Statement (.subscribe x0 x1) := NoWord.any _
theorem NoWord.culletRead (x0 : ReqId) (x1 : Nat) (x2 : Nat) :
    NoWord.Statement (.culletRead x0 x1 x2) := NoWord.any _
theorem NoWord.epochRead (x0 : ReqId) (x1 : Nat) (x2 : Nat) (x3 : Nat) :
    NoWord.Statement (.epochRead x0 x1 x2 x3) := NoWord.any _
theorem NoWord.roleMap (x0 : ReqId) (x1 : Nat) :
    NoWord.Statement (.roleMap x0 x1) := NoWord.any _
theorem NoWord.trunkStatus (x0 : ReqId) :
    NoWord.Statement (.trunkStatus x0) := NoWord.any _
theorem NoWord.trunkMode (x0 : ReqId) (x1 : Bool) (x2 : Bool) :
    NoWord.Statement (.trunkMode x0 x1 x2) := NoWord.any _
theorem NoWord.trunkSwap (x0 : ReqId) :
    NoWord.Statement (.trunkSwap x0) := NoWord.any _
theorem NoWord.ptpSet (x0 : ReqId) (x1 : Byte) (x2 : Int) (x3 : Nat) (x4 : Nat) :
    NoWord.Statement (.ptpSet x0 x1 x2 x3 x4) := NoWord.any _
theorem NoWord.faultStatus (x0 : ReqId) :
    NoWord.Statement (.faultStatus x0) := NoWord.any _
theorem NoWord.engineRelease (x0 : ReqId) (x1 : Nat) (x2 : Bool) :
    NoWord.Statement (.engineRelease x0 x1 x2) := NoWord.any _
theorem NoWord.pwrStatus (x0 : ReqId) :
    NoWord.Statement (.pwrStatus x0) := NoWord.any _
theorem NoWord.pwrSet (x0 : ReqId) (x1 : BitVec 24) (x2 : BitVec 2) (x3 : Bool) (x4 : BitVec 16) (x5 : BitVec 16) (x6 : BitVec 16) :
    NoWord.Statement (.pwrSet x0 x1 x2 x3 x4 x5 x6) := NoWord.any _
theorem NoWord.pwrWakeSet (x0 : ReqId) (x1 : Word) :
    NoWord.Statement (.pwrWakeSet x0 x1) := NoWord.any _
theorem NoWord.pwrEnter (x0 : ReqId) (x1 : Nat) :
    NoWord.Statement (.pwrEnter x0 x1) := NoWord.any _
theorem NoWord.pwrOff (x0 : ReqId) (x1 : BitVec 16) :
    NoWord.Statement (.pwrOff x0 x1) := NoWord.any _
theorem NoWord.railSet (x0 : ReqId) (x1 : Nat) (x2 : Word) (x3 : Word) :
    NoWord.Statement (.railSet x0 x1 x2 x3) := NoWord.any _
theorem NoWord.railStatus (x0 : ReqId) (x1 : Nat) :
    NoWord.Statement (.railStatus x0 x1) := NoWord.any _
theorem NoWord.portMode (x0 : ReqId) (x1 : Nat) (x2 : Nat) :
    NoWord.Statement (.portMode x0 x1 x2) := NoWord.any _
theorem NoWord.modeSequenceEnd (x0 : Port) :
    NoWord.Statement (.modeSequenceEnd x0) := NoWord.any _
theorem NoWord.pinCfgSet (x0 : ReqId) (x1 : BitVec 2) (x2 : Bool) (x3 : Bool) :
    NoWord.Statement (.pinCfgSet x0 x1 x2 x3) := NoWord.any _
theorem NoWord.chSet (x0 : ReqId) (x1 : Nat) :
    NoWord.Statement (.chSet x0 x1) := NoWord.any _
theorem NoWord.chConfig (x0 : ReqId) (x1 : Word) (x2 : Word) (x3 : Word) (x4 : Word) (x5 : Word) :
    NoWord.Statement (.chConfig x0 x1 x2 x3 x4 x5) := NoWord.any _
theorem NoWord.chCurve (x0 : ReqId) (x1 : List Word) :
    NoWord.Statement (.chCurve x0 x1) := NoWord.any _
theorem NoWord.chStatus (x0 : ReqId) :
    NoWord.Statement (.chStatus x0) := NoWord.any _
theorem NoWord.chCmdOn (x0 : Port) :
    NoWord.Statement (.chCmdOn x0) := NoWord.any _
theorem NoWord.chCmdOff (x0 : Port) :
    NoWord.Statement (.chCmdOff x0) := NoWord.any _
theorem NoWord.chCmdSuspend (x0 : Port) (x1 : Bool) :
    NoWord.Statement (.chCmdSuspend x0 x1) := NoWord.any _
theorem NoWord.pdStatus (x0 : ReqId) :
    NoWord.Statement (.pdStatus x0) := NoWord.any _
theorem NoWord.pdCapsSet (x0 : ReqId) (x1 : Word) (x2 : Word) (x3 : Word) :
    NoWord.Statement (.pdCapsSet x0 x1 x2 x3) := NoWord.any _
theorem NoWord.pdVconnSwap (x0 : ReqId) :
    NoWord.Statement (.pdVconnSwap x0) := NoWord.any _
theorem NoWord.pdHardReset (x0 : ReqId) :
    NoWord.Statement (.pdHardReset x0) := NoWord.any _
theorem NoWord.pdVout (x0 : ReqId) (x1 : BitVec 16) :
    NoWord.Statement (.pdVout x0 x1) := NoWord.any _
theorem NoWord.pdCfgSet (x0 : ReqId) (x1 : Word) :
    NoWord.Statement (.pdCfgSet x0 x1) := NoWord.any _
theorem NoWord.dropStatus (x0 : ReqId) :
    NoWord.Statement (.dropStatus x0) := NoWord.any _
theorem NoWord.dropEnumerate (x0 : ReqId) (x1 : BitVec 20) (x2 : BitVec 4) :
    NoWord.Statement (.dropEnumerate x0 x1 x2) := NoWord.any _
theorem NoWord.dropReset (x0 : ReqId) (x1 : BitVec 20) :
    NoWord.Statement (.dropReset x0 x1) := NoWord.any _
theorem NoWord.dropSuspend (x0 : ReqId) :
    NoWord.Statement (.dropSuspend x0) := NoWord.any _
theorem NoWord.dropResume (x0 : ReqId) :
    NoWord.Statement (.dropResume x0) := NoWord.any _
theorem NoWord.dropTree (x0 : ReqId) (x1 : Nat) (x2 : Nat) :
    NoWord.Statement (.dropTree x0 x1 x2) := NoWord.any _
theorem NoWord.dropSet (x0 : ReqId) (x1 : Bool) (x2 : Bool) (x3 : BitVec 2) (x4 : BitVec 4) (x5 : BitVec 2) (x6 : BitVec 12) :
    NoWord.Statement (.dropSet x0 x1 x2 x3 x4 x5 x6) := NoWord.any _
theorem NoWord.dropControl (x0 : ReqId) (x1 : BitVec 20) (x2 : List Byte) (x3 : Nat) (x4 : List Byte) :
    NoWord.Statement (.dropControl x0 x1 x2 x3 x4) := NoWord.any _
theorem NoWord.weirSet (x0 : ReqId) (x1 : BitVec 20) (x2 : Byte) (x3 : Byte) (x4 : Byte) :
    NoWord.Statement (.weirSet x0 x1 x2 x3 x4) := NoWord.any _
theorem NoWord.sofStampOpen (x0 : ReqId) (x1 : Cid) (x2 : Byte) (x3 : Nat) :
    NoWord.Statement (.sofStampOpen x0 x1 x2 x3) := NoWord.any _
theorem NoWord.sofStampRead (x0 : ReqId) :
    NoWord.Statement (.sofStampRead x0) := NoWord.any _
theorem NoWord.dropSchedRead (x0 : ReqId) (x1 : Nat) (x2 : Nat) :
    NoWord.Statement (.dropSchedRead x0 x1 x2) := NoWord.any _
theorem NoWord.svcBind (x0 : ReqId) (x1 : BitVec 20) (x2 : Nat) (x3 : Nat) (x4 : Nat) (x5 : BitVec 16) (x6 : BitVec 16) (x7 : Bool) :
    NoWord.Statement (.svcBind x0 x1 x2 x3 x4 x5 x6 x7) := NoWord.any _
theorem NoWord.svcUnbind (x0 : ReqId) (x1 : BitVec 20) (x2 : Nat) (x3 : Bool) :
    NoWord.Statement (.svcUnbind x0 x1 x2 x3) := NoWord.any _
theorem NoWord.svcList (x0 : ReqId) (x1 : Nat) (x2 : Nat) :
    NoWord.Statement (.svcList x0 x1 x2) := NoWord.any _
theorem NoWord.lineStatus (x0 : ReqId) :
    NoWord.Statement (.lineStatus x0) := NoWord.any _
theorem NoWord.lineTiming (x0 : ReqId) (x1 : BitTiming) (x2 : BitTiming) (x3 : Nat) (x4 : Bool) (x5 : Bool) :
    NoWord.Statement (.lineTiming x0 x1 x2 x3 x4 x5) := NoWord.any _
theorem NoWord.lineFilter (x0 : ReqId) (x1 : Nat) (x2 : Word) (x3 : Word) :
    NoWord.Statement (.lineFilter x0 x1 x2 x3) := NoWord.any _
theorem NoWord.lineSend (x0 : ReqId) (x1 : CanFrame) :
    NoWord.Statement (.lineSend x0 x1) := NoWord.any _
theorem NoWord.lineCancel (x0 : ReqId) (x1 : Nat) :
    NoWord.Statement (.lineCancel x0 x1) := NoWord.any _
theorem NoWord.lineRecover (x0 : ReqId) :
    NoWord.Statement (.lineRecover x0) := NoWord.any _
theorem NoWord.lineNodes (x0 : ReqId) (x1 : Nat) (x2 : Nat) :
    NoWord.Statement (.lineNodes x0 x1 x2) := NoWord.any _
theorem NoWord.lineRead (x0 : ReqId) (x1 : Nat) :
    NoWord.Statement (.lineRead x0 x1) := NoWord.any _
theorem NoWord.lineWrite (x0 : ReqId) (x1 : Nat) (x2 : List Byte) (x3 : Nat) :
    NoWord.Statement (.lineWrite x0 x1 x2 x3) := NoWord.any _
theorem NoWord.lineObjCfg (x0 : ReqId) (x1 : Nat) (x2 : BitVec 2) :
    NoWord.Statement (.lineObjCfg x0 x1 x2) := NoWord.any _
theorem NoWord.lineNodeRemove (x0 : ReqId) :
    NoWord.Statement (.lineNodeRemove x0) := NoWord.any _
theorem NoWord.linePollSet (x0 : ReqId) (x1 : Word) (x2 : Word) :
    NoWord.Statement (.linePollSet x0 x1 x2) := NoWord.any _
theorem NoWord.pondStatus (x0 : ReqId) :
    NoWord.Statement (.pondStatus x0) := NoWord.any _
theorem NoWord.quotaRead (x0 : ReqId) (x1 : Nat) (x2 : Nat) :
    NoWord.Statement (.quotaRead x0 x1 x2) := NoWord.any _
theorem NoWord.quotaSet (x0 : ReqId) (x1 : Nat) (x2 : Nat) :
    NoWord.Statement (.quotaSet x0 x1 x2) := NoWord.any _
theorem NoWord.ctxRead (x0 : ReqId) (x1 : Nat) :
    NoWord.Statement (.ctxRead x0 x1) := NoWord.any _
theorem NoWord.ctxList (x0 : ReqId) (x1 : Nat) (x2 : Nat) (x3 : Nat) (x4 : Nat) :
    NoWord.Statement (.ctxList x0 x1 x2 x3 x4) := NoWord.any _
theorem NoWord.pondUnpoison (x0 : ReqId) (x1 : Nat) (x2 : Bool) :
    NoWord.Statement (.pondUnpoison x0 x1 x2) := NoWord.any _
theorem NoWord.scrubSet (x0 : ReqId) (x1 : Bool) (x2 : BitVec 16) :
    NoWord.Statement (.scrubSet x0 x1 x2) := NoWord.any _
theorem NoWord.cacheStats (x0 : ReqId) (x1 : Nat) (x2 : Nat) :
    NoWord.Statement (.cacheStats x0 x1 x2) := NoWord.any _
theorem NoWord.lowMarkSet (x0 : ReqId) (x1 : BitVec 21) :
    NoWord.Statement (.lowMarkSet x0 x1) := NoWord.any _
theorem NoWord.markCreate (x0 : ReqId) (x1 : Nat) (x2 : Pos) (x3 : Nat) (x4 : Nat) (x5 : Byte) (x6 : BitVec 16) (x7 : Word) (x8 : BitVec 16) (x9 : BitVec 16) :
    NoWord.Statement (.markCreate x0 x1 x2 x3 x4 x5 x6 x7 x8 x9) := NoWord.any _
theorem NoWord.markConsider (x0 : Cid) :
    NoWord.Statement (.markConsider x0) := NoWord.any _
theorem NoWord.markCancel (x0 : ReqId) (x1 : Cid) (x2 : Byte) :
    NoWord.Statement (.markCancel x0 x1 x2) := NoWord.any _
theorem NoWord.markRead (x0 : ReqId) (x1 : Cid) (x2 : Byte) :
    NoWord.Statement (.markRead x0 x1 x2) := NoWord.any _
theorem NoWord.templateLoad (x0 : ReqId) (x1 : Template) :
    NoWord.Statement (.templateLoad x0 x1) := NoWord.any _
theorem NoWord.templateFree (x0 : ReqId) (x1 : Cid) (x2 : Byte) :
    NoWord.Statement (.templateFree x0 x1 x2) := NoWord.any _
theorem NoWord.beltStatus (x0 : ReqId) (x1 : Nat) :
    NoWord.Statement (.beltStatus x0 x1) := NoWord.any _
theorem NoWord.beltSetPos (x0 : ReqId) (x1 : Nat) (x2 : Pos) (x3 : Nat) :
    NoWord.Statement (.beltSetPos x0 x1 x2 x3) := NoWord.any _
theorem NoWord.timeRead (x0 : ReqId) :
    NoWord.Statement (.timeRead x0) := NoWord.any _
theorem NoWord.timeAck (x0 : ReqId) :
    NoWord.Statement (.timeAck x0) := NoWord.any _
theorem NoWord.outfallSet (x0 : ReqId) (x1 : Nat) (x2 : OutOp) (x3 : Nat) :
    NoWord.Statement (.outfallSet x0 x1 x2 x3) := NoWord.any _
theorem NoWord.quote (x0 : ReqId) (x1 : List Byte) :
    NoWord.Statement (.quote x0 x1) := NoWord.any _
theorem NoWord.logRead (x0 : ReqId) (x1 : Word) (x2 : Nat) :
    NoWord.Statement (.logRead x0 x1 x2) := NoWord.any _
theorem NoWord.logTrim (x0 : ReqId) (x1 : Word) (x2 : List Byte) :
    NoWord.Statement (.logTrim x0 x1 x2) := NoWord.any _
theorem NoWord.certRead (x0 : ReqId) (x1 : Nat) :
    NoWord.Statement (.certRead x0 x1) := NoWord.any _
theorem NoWord.stageWrite (x0 : ReqId) (x1 : Nat) (x2 : List Byte) :
    NoWord.Statement (.stageWrite x0 x1 x2) := NoWord.any _
theorem NoWord.stageErase (x0 : ReqId) (x1 : Nat) :
    NoWord.Statement (.stageErase x0 x1) := NoWord.any _
theorem NoWord.handoff (x0 : ReqId) (x1 : Nat) :
    NoWord.Statement (.handoff x0 x1) := NoWord.any _
theorem NoWord.handoffStepEnd : NoWord.Statement .handoffStepEnd := NoWord.any _
theorem NoWord.handoffStepTimeout (x0 : StepEnd) :
    NoWord.Statement (.handoffStepTimeout x0) := NoWord.any _
theorem NoWord.firstRunCheckEnd : NoWord.Statement .firstRunCheckEnd := NoWord.any _
theorem NoWord.ucodeRoll (x0 : ReqId) (x1 : Nat) :
    NoWord.Statement (.ucodeRoll x0 x1) := NoWord.any _
theorem NoWord.rollSwapPoint (x0 : Basin) :
    NoWord.Statement (.rollSwapPoint x0) := NoWord.any _
theorem NoWord.bootSet (x0 : ReqId) (x1 : Bool) (x2 : Bool) :
    NoWord.Statement (.bootSet x0 x1 x2) := NoWord.any _
theorem NoWord.tablesApply (x0 : ReqId) (x1 : Nat) :
    NoWord.Statement (.tablesApply x0 x1) := NoWord.any _
theorem NoWord.beadRead (x0 : ReqId) (x1 : Nat) :
    NoWord.Statement (.beadRead x0 x1) := NoWord.any _
theorem NoWord.beadWrite (x0 : ReqId) (x1 : Nat) (x2 : List Byte) :
    NoWord.Statement (.beadWrite x0 x1 x2) := NoWord.any _
theorem NoWord.beadStatus (x0 : ReqId) :
    NoWord.Statement (.beadStatus x0) := NoWord.any _
theorem NoWord.regRead (x0 : ReqId) (x1 : Nat) (x2 : Nat) :
    NoWord.Statement (.regRead x0 x1 x2) := NoWord.any _
theorem NoWord.regWrite (x0 : ReqId) (x1 : Nat) (x2 : List Word) :
    NoWord.Statement (.regWrite x0 x1 x2) := NoWord.any _
theorem NoWord.regModify (x0 : ReqId) (x1 : Nat) (x2 : Word) (x3 : Word) :
    NoWord.Statement (.regModify x0 x1 x2 x3) := NoWord.any _
theorem NoWord.regKeyedWrite (x0 : ReqId) (x1 : Nat) (x2 : Word) :
    NoWord.Statement (.regKeyedWrite x0 x1 x2) := NoWord.any _
theorem NoWord.cwPause (x0 : ReqId) (x1 : Bool) :
    NoWord.Statement (.cwPause x0 x1) := NoWord.any _
theorem NoWord.cwCommit (x0 : ReqId) (x1 : Word) :
    NoWord.Statement (.cwCommit x0 x1) := NoWord.any _
theorem NoWord.cwStatus (x0 : ReqId) :
    NoWord.Statement (.cwStatus x0) := NoWord.any _
theorem NoWord.keyUnlockWrite (x0 : RegPath) (x1 : Word) :
    NoWord.Statement (.keyUnlockWrite x0 x1) := NoWord.any _
theorem NoWord.keyUnlockLapse (x0 : RegPath) :
    NoWord.Statement (.keyUnlockLapse x0) := NoWord.any _
theorem NoWord.registerWrite (x0 : RegPath) (x1 : Nat) (x2 : Word) :
    NoWord.Statement (.registerWrite x0 x1 x2) := NoWord.any _
theorem NoWord.aliasWrite (x0 : RegPath) (x1 : Nat) (x2 : Word) :
    NoWord.Statement (.aliasWrite x0 x1 x2) := NoWord.any _
theorem NoWord.statusSeqClear (x0 : RegPath) (x1 : Nat) (x2 : Word) :
    NoWord.Statement (.statusSeqClear x0 x1 x2) := NoWord.any _
theorem NoWord.aonWriteApply : NoWord.Statement .aonWriteApply := NoWord.any _
theorem NoWord.seiTimeLoRead (x0 : RegPath) :
    NoWord.Statement (.seiTimeLoRead x0) := NoWord.any _
theorem NoWord.beltPosLoRead (x0 : RegPath) (x1 : Belt) :
    NoWord.Statement (.beltPosLoRead x0 x1) := NoWord.any _
theorem NoWord.holderQuotaWrite (x0 : RegPath) (x1 : Fin 99) (x2 : Word) :
    NoWord.Statement (.holderQuotaWrite x0 x1 x2) := NoWord.any _
theorem NoWord.lineTimingRegWrite (x0 : RegPath) (x1 : Port) (x2 : Fin 3) (x3 : Word) :
    NoWord.Statement (.lineTimingRegWrite x0 x1 x2 x3) := NoWord.any _
theorem NoWord.measExtGo (x0 : RegPath) (x1 : Word) :
    NoWord.Statement (.measExtGo x0 x1) := NoWord.any _
theorem NoWord.attCtlGo (x0 : RegPath) (x1 : Word) :
    NoWord.Statement (.attCtlGo x0 x1) := NoWord.any _
theorem NoWord.xspiRead (x0 : RegPath) (x1 : BitVec 9) :
    NoWord.Statement (.xspiRead x0 x1) := NoWord.any _
theorem NoWord.xspiProgram (x0 : RegPath) (x1 : BitVec 9) :
    NoWord.Statement (.xspiProgram x0 x1) := NoWord.any _
theorem NoWord.xspiErase64k (x0 : RegPath) :
    NoWord.Statement (.xspiErase64k x0) := NoWord.any _
theorem NoWord.xspiReadId (x0 : RegPath) :
    NoWord.Statement (.xspiReadId x0) := NoWord.any _
theorem NoWord.xspiOpEnd (x0 : Bool) (x1 : Byte) :
    NoWord.Statement (.xspiOpEnd x0 x1) := NoWord.any _
theorem NoWord.svcVendorRequest (x0 : Bool) (x1 : Nat) (x2 : Word) :
    NoWord.Statement (.svcVendorRequest x0 x1 x2) := NoWord.any _
theorem NoWord.jtagRegAccess (x0 : Bool) (x1 : Nat) (x2 : Word) :
    NoWord.Statement (.jtagRegAccess x0 x1 x2) := NoWord.any _
theorem NoWord.pondAlloc (x0 : Fin 99) (x1 : Nat) (x2 : Nat) :
    NoWord.Statement (.pondAlloc x0 x1 x2) := NoWord.any _
theorem NoWord.contextFree (x0 : Cid) :
    NoWord.Statement (.contextFree x0) := NoWord.any _
theorem NoWord.bulkFree (x0 : Fin 99) (x1 : Nat) :
    NoWord.Statement (.bulkFree x0 x1) := NoWord.any _
theorem NoWord.waitListRetry (x0 : Port) :
    NoWord.Statement (.waitListRetry x0) := NoWord.any _
theorem NoWord.scrubStep (x0 : EccErr) :
    NoWord.Statement (.scrubStep x0) := NoWord.any _
theorem NoWord.cacheWriteback (x0 : Engine) :
    NoWord.Statement (.cacheWriteback x0) := NoWord.any _
theorem NoWord.directoryUe : NoWord.Statement .directoryUe := NoWord.any _
theorem NoWord.directoryRebuildEnd (x0 : List Cid) :
    NoWord.Statement (.directoryRebuildEnd x0) := NoWord.any _
theorem NoWord.dropPullupSeen (x0 : Port) (x1 : Bool) :
    NoWord.Statement (.dropPullupSeen x0 x1) := NoWord.any _
theorem NoWord.dropPullupLost (x0 : Port) :
    NoWord.Statement (.dropPullupLost x0) := NoWord.any _
theorem NoWord.debounceExpiry (x0 : Port) :
    NoWord.Statement (.debounceExpiry x0) := NoWord.any _
theorem NoWord.deviceChirpK (x0 : Port) (x1 : Nat) :
    NoWord.Statement (.deviceChirpK x0 x1) := NoWord.any _
theorem NoWord.rootResetExpiry (x0 : Port) :
    NoWord.Statement (.rootResetExpiry x0) := NoWord.any _
theorem NoWord.enumRequestComplete (x0 : Port) (x1 : EnumResult) :
    NoWord.Statement (.enumRequestComplete x0 x1) := NoWord.any _
theorem NoWord.enumWaitExpiry (x0 : Port) :
    NoWord.Statement (.enumWaitExpiry x0) := NoWord.any _
theorem NoWord.controlStageTimeout (x0 : Port) :
    NoWord.Statement (.controlStageTimeout x0) := NoWord.any _
theorem NoWord.dropDisconnect (x0 : Port) :
    NoWord.Statement (.dropDisconnect x0) := NoWord.any _
theorem NoWord.typecRdSeen (x0 : Port) (x1 : RdSeen) :
    NoWord.Statement (.typecRdSeen x0 x1) := NoWord.any _
theorem NoWord.typecRdLost (x0 : Port) :
    NoWord.Statement (.typecRdLost x0) := NoWord.any _
theorem NoWord.suspendIdleExpiry (x0 : Port) :
    NoWord.Statement (.suspendIdleExpiry x0) := NoWord.any _
theorem NoWord.overdrawCheck (x0 : Port) (x1 : BitVec 12) :
    NoWord.Statement (.overdrawCheck x0 x1) := NoWord.any _
theorem NoWord.remoteWakeK (x0 : Port) :
    NoWord.Statement (.remoteWakeK x0) := NoWord.any _
theorem NoWord.resumeKDone (x0 : Port) :
    NoWord.Statement (.resumeKDone x0) := NoWord.any _
theorem NoWord.resumeRecoveryDone (x0 : Port) :
    NoWord.Statement (.resumeRecoveryDone x0) := NoWord.any _
theorem NoWord.microframeBoundary (x0 : Port) :
    NoWord.Statement (.microframeBoundary x0) := NoWord.any _
theorem NoWord.transactionComplete (x0 : Port) (x1 : BitVec 20) (x2 : Byte) (x3 : TxResult) :
    NoWord.Statement (.transactionComplete x0 x1 x2 x3) := NoWord.any _
theorem NoWord.hubStatusPoll (x0 : Port) (x1 : BitVec 20) (x2 : Nat) (x3 : Option HubChange) :
    NoWord.Statement (.hubStatusPoll x0 x1 x2 x3) := NoWord.any _
theorem NoWord.parisonTimeout (x0 : Nat) (x1 : Nat) :
    NoWord.Statement (.parisonTimeout x0 x1) := NoWord.any _
theorem NoWord.classMatch (x0 : Port) (x1 : BitVec 20) :
    NoWord.Statement (.classMatch x0 x1) := NoWord.any _
theorem NoWord.hidReport (x0 : Port) (x1 : BitVec 20) (x2 : Nat) (x3 : List Byte) :
    NoWord.Statement (.hidReport x0 x1 x2 x3) := NoWord.any _
theorem NoWord.cdcBulkIn (x0 : Port) (x1 : BitVec 20) (x2 : Nat) (x3 : List Byte) :
    NoWord.Statement (.cdcBulkIn x0 x1 x2 x3) := NoWord.any _
theorem NoWord.serialState (x0 : Port) (x1 : BitVec 20) (x2 : Nat) (x3 : BitVec 16) :
    NoWord.Statement (.serialState x0 x1 x2 x3) := NoWord.any _
theorem NoWord.printerJob (x0 : Port) (x1 : BitVec 20) (x2 : Nat) (x3 : Nat) :
    NoWord.Statement (.printerJob x0 x1 x2 x3) := NoWord.any _
theorem NoWord.printerStatusPoll (x0 : Port) (x1 : BitVec 20) (x2 : Nat) (x3 : Byte) :
    NoWord.Statement (.printerStatusPoll x0 x1 x2 x3) := NoWord.any _
theorem NoWord.rawTransfer (x0 : Port) (x1 : BitVec 20) (x2 : Nat) (x3 : List Byte) (x4 : Bool) :
    NoWord.Statement (.rawTransfer x0 x1 x2 x3 x4) := NoWord.any _
theorem NoWord.gapMsExpiry (x0 : Port) (x1 : BitVec 20) (x2 : Nat) :
    NoWord.Statement (.gapMsExpiry x0 x1 x2) := NoWord.any _
theorem NoWord.lineFrameReceive (x0 : Port) (x1 : LineInput) :
    NoWord.Statement (.lineFrameReceive x0 x1) := NoWord.any _
theorem NoWord.rxq0FrameProcess (x0 : Port) :
    NoWord.Statement (.rxq0FrameProcess x0) := NoWord.any _
theorem NoWord.claim (x0 : Port) (x1 : BitVec 64) :
    NoWord.Statement (.claim x0 x1) := NoWord.any _
theorem NoWord.announce (x0 : Port) (x1 : Nat) (x2 : Nat) (x3 : Nat) (x4 : Nat) (x5 : List (Nat × Nat × Nat × Nat)) :
    NoWord.Statement (.announce x0 x1 x2 x3 x4 x5) := NoWord.any _
theorem NoWord.objAnswer (x0 : Port) (x1 : Nat) (x2 : Nat) (x3 : Bool) (x4 : Nat) (x5 : List Byte) :
    NoWord.Statement (.objAnswer x0 x1 x2 x3 x4 x5) := NoWord.any _
theorem NoWord.report (x0 : Port) (x1 : Nat) (x2 : Nat) (x3 : List Byte) (x4 : BitVec 64) :
    NoWord.Statement (.report x0 x1 x2 x3 x4) := NoWord.any _
theorem NoWord.nodeRelease (x0 : Port) (x1 : Nat) (x2 : BitVec 64) :
    NoWord.Statement (.nodeRelease x0 x1 x2) := NoWord.any _
theorem NoWord.lineTxComplete (x0 : Port) (x1 : Fin 32) (x2 : TxWire) :
    NoWord.Statement (.lineTxComplete x0 x1 x2) := NoWord.any _
theorem NoWord.lineBusError (x0 : Port) (x1 : CanRole) (x2 : CanErr) :
    NoWord.Statement (.lineBusError x0 x1 x2) := NoWord.any _
theorem NoWord.busOffEntry (x0 : Port) :
    NoWord.Statement (.busOffEntry x0) := NoWord.any _
theorem NoWord.lineBusOn (x0 : Port) :
    NoWord.Statement (.lineBusOn x0) := NoWord.any _
theorem NoWord.announceTimer (x0 : Port) (x1 : Nat) :
    NoWord.Statement (.announceTimer x0 x1) := NoWord.any _
theorem NoWord.responseWindowEnd (x0 : Port) (x1 : Nat) :
    NoWord.Statement (.responseWindowEnd x0 x1) := NoWord.any _
theorem NoWord.requestTimeout (x0 : Port) (x1 : Nat) :
    NoWord.Statement (.requestTimeout x0 x1) := NoWord.any _
theorem NoWord.pollTimer (x0 : Port) :
    NoWord.Statement (.pollTimer x0) := NoWord.any _
theorem NoWord.absentHoldExpiry (x0 : Port) (x1 : Nat) :
    NoWord.Statement (.absentHoldExpiry x0 x1) := NoWord.any _
theorem NoWord.quarantineExpiry (x0 : Port) (x1 : Nat) :
    NoWord.Statement (.quarantineExpiry x0 x1) := NoWord.any _
theorem NoWord.timeFrameBoundary (x0 : Port) :
    NoWord.Statement (.timeFrameBoundary x0) := NoWord.any _
theorem NoWord.timeFrameWithdraw (x0 : Port) :
    NoWord.Statement (.timeFrameWithdraw x0) := NoWord.any _
theorem NoWord.shaftEdge (x0 : Belt) (x1 : Bool) (x2 : EdgeIn) (x3 : Bool) :
    NoWord.Statement (.shaftEdge x0 x1 x2 x3) := NoWord.any _
theorem NoWord.shaftQuadError (x0 : Belt) :
    NoWord.Statement (.shaftQuadError x0) := NoWord.any _
theorem NoWord.zEdge (x0 : ZEdgeIn) :
    NoWord.Statement (.zEdge x0) := NoWord.any _
theorem NoWord.beltStopTimeout (x0 : Belt) :
    NoWord.Statement (.beltStopTimeout x0) := NoWord.any _
theorem NoWord.armingCycle (x0 : Belt) :
    NoWord.Statement (.armingCycle x0) := NoWord.any _
theorem NoWord.slotMatch (x0 : Belt) (x1 : Cid) :
    NoWord.Statement (.slotMatch x0 x1) := NoWord.any _
theorem NoWord.markAction (x0 : Belt) (x1 : Cid) :
    NoWord.Statement (.markAction x0 x1) := NoWord.any _
theorem NoWord.lateAction (x0 : Belt) (x1 : Cid) :
    NoWord.Statement (.lateAction x0 x1) := NoWord.any _
theorem NoWord.outfallPulseEnd (x0 : Io) :
    NoWord.Statement (.outfallPulseEnd x0) := NoWord.any _
theorem NoWord.inletEdge (x0 : Io) (x1 : EdgeIn) :
    NoWord.Statement (.inletEdge x0 x1) := NoWord.any _
theorem NoWord.ppsRise : NoWord.Statement .ppsRise := NoWord.any _
theorem NoWord.ppsFall : NoWord.Statement .ppsFall := NoWord.any _
theorem NoWord.calWindowEnd (x0 : BitVec 31) :
    NoWord.Statement (.calWindowEnd x0) := NoWord.any _
theorem NoWord.inrushComplete (x0 : Port) :
    NoWord.Statement (.inrushComplete x0) := NoWord.any _
theorem NoWord.railSag (x0 : Die) (x1 : RailId) :
    NoWord.Statement (.railSag x0 x1) := NoWord.any _
theorem NoWord.railRecover (x0 : Die) (x1 : RailId) :
    NoWord.Statement (.railRecover x0 x1) := NoWord.any _
theorem NoWord.holdLimit (x0 : Port) :
    NoWord.Statement (.holdLimit x0) := NoWord.any _
theorem NoWord.inrushTimeout (x0 : Port) :
    NoWord.Statement (.inrushTimeout x0) := NoWord.any _
theorem NoWord.fastTrip (x0 : Port) (x1 : BitVec 16) :
    NoWord.Statement (.fastTrip x0 x1) := NoWord.any _
theorem NoWord.breakerTrip (x0 : Port) (x1 : Fin 8) (x2 : BitVec 16) :
    NoWord.Statement (.breakerTrip x0 x1 x2) := NoWord.any _
theorem NoWord.retryDue (x0 : Port) :
    NoWord.Statement (.retryDue x0) := NoWord.any _
theorem NoWord.retryCountReset (x0 : Port) :
    NoWord.Statement (.retryCountReset x0) := NoWord.any _
theorem NoWord.fetFaultDetect (x0 : Port) (x1 : BitVec 16) :
    NoWord.Statement (.fetFaultDetect x0 x1) := NoWord.any _
theorem NoWord.railSenseMismatch (x0 : RailId) :
    NoWord.Statement (.railSenseMismatch x0) := NoWord.any _
theorem NoWord.railDrawWindow (x0 : RailId) (x1 : BitVec 16) :
    NoWord.Statement (.railDrawWindow x0 x1) := NoWord.any _
theorem NoWord.shedGraceExpiry (x0 : RailId) :
    NoWord.Statement (.shedGraceExpiry x0) := NoWord.any _
theorem NoWord.railBlockEnd (x0 : RailId) :
    NoWord.Statement (.railBlockEnd x0) := NoWord.any _
theorem NoWord.vsafe5vReached (x0 : Port) :
    NoWord.Statement (.vsafe5vReached x0) := NoWord.any _
theorem NoWord.sourceCapsTimer (x0 : Port) (x1 : Bool) :
    NoWord.Statement (.sourceCapsTimer x0 x1) := NoWord.any _
theorem NoWord.pdRequest (x0 : Port) (x1 : Nat) (x2 : Nat) (x3 : Nat) (x4 : Bool) :
    NoWord.Statement (.pdRequest x0 x1 x2 x3 x4) := NoWord.any _
theorem NoWord.pdMessage (x0 : Port) (x1 : PdMsg) :
    NoWord.Statement (.pdMessage x0 x1) := NoWord.any _
theorem NoWord.pdEprMode (x0 : Port) (x1 : Bool) :
    NoWord.Statement (.pdEprMode x0 x1) := NoWord.any _
theorem NoWord.vconnSwapReceive (x0 : Port) :
    NoWord.Statement (.vconnSwapReceive x0) := NoWord.any _
theorem NoWord.hardResetReceive (x0 : Port) :
    NoWord.Statement (.hardResetReceive x0) := NoWord.any _
theorem NoWord.acceptDelayExpiry (x0 : Port) :
    NoWord.Statement (.acceptDelayExpiry x0) := NoWord.any _
theorem NoWord.readVoutPoll (x0 : Port) (x1 : BitVec 16) :
    NoWord.Statement (.readVoutPoll x0 x1) := NoWord.any _
theorem NoWord.pmbusAlert (x0 : Fin 2) (x1 : Port) (x2 : BitVec 16) :
    NoWord.Statement (.pmbusAlert x0 x1 x2) := NoWord.any _
theorem NoWord.statusWordPoll (x0 : Port) (x1 : BitVec 16) :
    NoWord.Statement (.statusWordPoll x0 x1) := NoWord.any _
theorem NoWord.converterFault (x0 : Port) (x1 : ConvFault) :
    NoWord.Statement (.converterFault x0 x1) := NoWord.any _
theorem NoWord.eprKeepaliveTimeout (x0 : Port) :
    NoWord.Statement (.eprKeepaliveTimeout x0) := NoWord.any _
theorem NoWord.ppsRequestTimeout (x0 : Port) :
    NoWord.Statement (.ppsRequestTimeout x0) := NoWord.any _
theorem NoWord.vconnOvercurrent (x0 : Port) (x1 : Nat) :
    NoWord.Statement (.vconnOvercurrent x0 x1) := NoWord.any _
theorem NoWord.cableDiscovery (x0 : Port) (x1 : Option (Bool × Bool)) :
    NoWord.Statement (.cableDiscovery x0 x1) := NoWord.any _
theorem NoWord.pdNextOpportunity (x0 : Port) :
    NoWord.Statement (.pdNextOpportunity x0) := NoWord.any _
theorem NoWord.reducedRequestTimeout (x0 : Port) :
    NoWord.Statement (.reducedRequestTimeout x0) := NoWord.any _
theorem NoWord.vconnGiveTimeout (x0 : Port) :
    NoWord.Statement (.vconnGiveTimeout x0) := NoWord.any _
theorem NoWord.swapRetryWaitExpiry (x0 : Port) :
    NoWord.Statement (.swapRetryWaitExpiry x0) := NoWord.any _
theorem NoWord.swapNoAnswer (x0 : Port) :
    NoWord.Statement (.swapNoAnswer x0) := NoWord.any _
theorem NoWord.hardResetRecovery (x0 : Port) :
    NoWord.Statement (.hardResetRecovery x0) := NoWord.any _
theorem NoWord.errorRecoveryEnd (x0 : Port) :
    NoWord.Statement (.errorRecoveryEnd x0) := NoWord.any _
theorem NoWord.quietTimerExpiry (x0 : Fin 3) :
    NoWord.Statement (.quietTimerExpiry x0) := NoWord.any _
theorem NoWord.idleWake (x0 : Option Basin) :
    NoWord.Statement (.idleWake x0) := NoWord.any _
theorem NoWord.entryStepComplete : NoWord.Statement .entryStepComplete := NoWord.any _
theorem NoWord.wakeRequest (x0 : Fin 10) (x1 : WakeInput) :
    NoWord.Statement (.wakeRequest x0 x1) := NoWord.any _
theorem NoWord.lowPowerExitComplete (x0 : Nat) :
    NoWord.Statement (.lowPowerExitComplete x0) := NoWord.any _
theorem NoWord.reservoirEccError (x0 : ResWhere) (x1 : Bool) :
    NoWord.Statement (.reservoirEccError x0 x1) := NoWord.any _
theorem NoWord.queuePtrMismatch (x0 : Nat) :
    NoWord.Statement (.queuePtrMismatch x0) := NoWord.any _
theorem NoWord.engineOverrun (x0 : TaskRun) :
    NoWord.Statement (.engineOverrun x0) := NoWord.any _
theorem NoWord.engineHang (x0 : TaskRun) (x1 : List Cid) :
    NoWord.Statement (.engineHang x0 x1) := NoWord.any _
theorem NoWord.engineParity (x0 : Engine) (x1 : List Cid) :
    NoWord.Statement (.engineParity x0 x1) := NoWord.any _
theorem NoWord.engineTakeover (x0 : Engine) :
    NoWord.Statement (.engineTakeover x0) := NoWord.any _
theorem NoWord.recoveryWindowEnd (x0 : Nat) (x1 : Nat) :
    NoWord.Statement (.recoveryWindowEnd x0 x1) := NoWord.any _
theorem NoWord.lockstepMismatch : NoWord.Statement .lockstepMismatch := NoWord.any _
theorem NoWord.cwPassStart : NoWord.Statement .cwPassStart := NoWord.any _
theorem NoWord.cwPassEnd : NoWord.Statement .cwPassEnd := NoWord.any _
theorem NoWord.cwPauseExpiry : NoWord.Statement .cwPauseExpiry := NoWord.any _
theorem NoWord.cfgParityFailure (x0 : Nat) :
    NoWord.Statement (.cfgParityFailure x0) := NoWord.any _
theorem NoWord.attestRecordWrite : NoWord.Statement .attestRecordWrite := NoWord.any _
theorem NoWord.snapshotWrite : NoWord.Statement .snapshotWrite := NoWord.any _
theorem NoWord.beadCommitEnd (x0 : Bool) :
    NoWord.Statement (.beadCommitEnd x0) := NoWord.any _
theorem NoWord.inventory (x0 : BeadMode) (x1 : BitVec 64) (x2 : Nat) :
    NoWord.Statement (.inventory x0 x1 x2) := NoWord.any _
theorem NoWord.stayQuiet (x0 : BeadMode) :
    NoWord.Statement (.stayQuiet x0) := NoWord.any _
theorem NoWord.readSingleBlock (x0 : BeadMode) (x1 : Nat) :
    NoWord.Statement (.readSingleBlock x0 x1) := NoWord.any _
theorem NoWord.writeSingleBlock (x0 : BeadMode) (x1 : Nat) (x2 : BitVec 256) :
    NoWord.Statement (.writeSingleBlock x0 x1 x2) := NoWord.any _
theorem NoWord.lockBlock (x0 : BeadMode) (x1 : Nat) :
    NoWord.Statement (.lockBlock x0 x1) := NoWord.any _
theorem NoWord.readMultipleBlocks (x0 : BeadMode) (x1 : Nat) (x2 : Nat) :
    NoWord.Statement (.readMultipleBlocks x0 x1 x2) := NoWord.any _
theorem NoWord.select (x0 : BeadMode) :
    NoWord.Statement (.select x0) := NoWord.any _
theorem NoWord.resetToReady (x0 : BeadMode) :
    NoWord.Statement (.resetToReady x0) := NoWord.any _
theorem NoWord.getSystemInformation (x0 : BeadMode) :
    NoWord.Statement (.getSystemInformation x0) := NoWord.any _
theorem NoWord.getBlockSecurityStatus (x0 : BeadMode) (x1 : Nat) (x2 : Nat) :
    NoWord.Statement (.getBlockSecurityStatus x0 x1 x2) := NoWord.any _
theorem NoWord.lockSession (x0 : BeadMode) (x1 : Nat) :
    NoWord.Statement (.lockSession x0 x1) := NoWord.any _
theorem NoWord.unlockSession (x0 : BeadMode) :
    NoWord.Statement (.unlockSession x0) := NoWord.any _
theorem NoWord.readRecord (x0 : BeadMode) (x1 : Nat) :
    NoWord.Statement (.readRecord x0 x1) := NoWord.any _
theorem NoWord.getBeadStatus (x0 : BeadMode) :
    NoWord.Statement (.getBeadStatus x0) := NoWord.any _
theorem NoWord.beadSessionExpiry : NoWord.Statement .beadSessionExpiry := NoWord.any _
theorem NoWord.beadFieldLoss : NoWord.Statement .beadFieldLoss := NoWord.any _
theorem NoWord.streamOpen (x0 : ReqId) (x1 : BitVec 16) (x2 : Port) (x3 : Nat) (x4 : Nat) :
    NoWord.Statement (.streamOpen x0 x1 x2 x3 x4) := NoWord.any _
theorem NoWord.streamClose (x0 : ReqId) (x1 : Cid) (x2 : Byte) :
    NoWord.Statement (.streamClose x0 x1 x2) := NoWord.any _
theorem NoWord.svcBusSuspend : NoWord.Statement .svcBusSuspend := NoWord.any _
theorem NoWord.svcStandardRequest (x0 : SvcStdReq) :
    NoWord.Statement (.svcStandardRequest x0) := NoWord.any _
theorem NoWord.lineBusRejoin (x0 : Port) :
    NoWord.Statement (.lineBusRejoin x0) := NoWord.any _
theorem NoWord.readerFieldPresent (x0 : Bool) :
    NoWord.Statement (.readerFieldPresent x0) := NoWord.any _
theorem NoWord.statusBallLowTimeExpiry (x0 : Bool) :
    NoWord.Statement (.statusBallLowTimeExpiry x0) := NoWord.any _
theorem NoWord.microcodeReloadDone : NoWord.Statement .microcodeReloadDone := NoWord.any _
theorem NoWord.serviceTableRebuildEnd : NoWord.Statement .serviceTableRebuildEnd := NoWord.any _
theorem NoWord.regAccessSessionChange (x0 : Bool) :
    NoWord.Statement (.regAccessSessionChange x0) := NoWord.any _

end Sys2Proof.Laws
end

