-- ==== Sys2Proof/Machine/Balls.lean ====
section
/-! DEFINITION. The levels of the balls (R48, R51, R53, R339): what the state of the part puts on them. Column *PORST_N low* of the
table *Ball states* holds while a device-scope reset is held, column *Boot* until the configuration stands (DEDUCED, log entry
184). -/

namespace Sys2Proof.Machine

/-- A ball: high-impedance or floating, driven low or high, pulled down, a Type-C CC function, or an input. -/
inductive Ball where
  | float | low | high | pulldown | cc | input
deriving DecidableEq, Repr

/-- Columns of the table *Ball states*. -/
inductive BallCol where
  | held | boot | deep | off | on
deriving DecidableEq, Repr

/-- The column that holds now. -/
def Chip.ballCol (c : Chip) : BallCol :=
  match c.pwr.st with
  | .off => .off
  | .deep => .deep
  | _ => match c.clk.boot with
    | .held => .held
    | .live => .on
    | _ => .boot

/-- SEL_n stands at the line side: that of the mode in force, and from the edge on that of the change under way (R51). -/
def Chip.selSide (c : Chip) (n : Port) : Bool :=
  let p := c.ports[n]
  match p.seqs.head? with
  | some m => if m.edge.any (· ≤ c.clk.now) then m.goal == .line else p.selLine
  | none => p.selLine

/-- STB_n is driven low: in LINE mode in Run and Idle (R48), changed with SEL_n (R51). -/
def Chip.stbSide (c : Chip) (n : Port) : Bool :=
  let p := c.ports[n]
  (c.pwr.st == .run || c.pwr.st == .idle) &&
    (match p.seqs.head? with
     | some m => if m.edge.any (· ≤ c.clk.now) then m.goal == .line else p.stbLow
     | none => p.stbLow)

/-- The CC balls are CC1 and CC2 (R48): WIRING is DROP and CONN is TYPEC. -/
def Chip.ccWired (c : Chip) (n : Port) : Bool :=
  c.get (.PIN_CFG n) F.PIN_CFG_WIRING == 1 && !c.bit (.PIN_CFG n) F.PIN_CFG_CONN

/-- CC1_n (R48): Rp and CC logic on a Type-C drop; else SEL_n, an open drain released on the line side and driven low otherwise, or
the reverse with SEL_POL = 1. -/
def Chip.cc1Ball (c : Chip) (n : Port) : Ball :=
  match c.ballCol with
  | .held | .boot | .off => .float
  | .deep | .on =>
    if c.ccWired n then .cc
    else if c.selSide n == c.bit (.PIN_CFG n) F.PIN_CFG_SEL_POL then .low
    else .float

/-- CC2_n (R48): CC logic on a Type-C drop, else STB_n, an open drain. -/
def Chip.cc2Ball (c : Chip) (n : Port) : Ball :=
  match c.ballCol with
  | .held | .boot | .off => .float
  | .deep => if c.ccWired n then .cc else .float
  | .on => if c.ccWired n then .cc else if c.stbSide n then .low else .float

/-- PDP_n: on a drop the PHY with its pull-downs, on a line TXD, driven recessive (high) or with a frame, or high-impedance (R32). -/
def Chip.pdpBall (c : Chip) (n : Port) : Ball :=
  let p := c.ports[n]
  match c.ballCol with
  | .held | .boot | .off => .float
  | .deep => if p.pulldown then .pulldown else .float
  | .on => if p.pulldown then .pulldown else if p.txd then .high else .float

/-- PDN_n: on a drop the PHY with its pull-downs, on a line RXD. -/
def Chip.pdnBall (c : Chip) (n : Port) : Ball :=
  let p := c.ports[n]
  match c.ballCol with
  | .held | .boot | .off => .float
  | .deep => if p.pulldown then .pulldown else .float
  | .on => if p.pulldown then .pulldown else if p.selLine then .input else .float

/-- The channel's FET is on. -/
def Chan.gateOn (x : Chan) : Bool := x.phase == .inrush || x.phase == .hold || x.phase == .on || x.phase == .suspend

/-- GATE_n: driven to SRC_n, or above it for an FET that is on; floating in Off. -/
def Chip.gateBall (c : Chip) (n : Port) : Ball :=
  match c.ballCol with
  | .off => .float
  | _ => if (c.chans[n]).gateOn then .high else .low

/-- OUTFALL_n (R53, R339). -/
def Chip.outfallBall (c : Chip) (o : Io) : Ball :=
  match c.ballCol with
  | .held | .deep | .off => .float
  | .boot => .low
  | .on => if c.outLevel o then .high else .low

/-- PPS_OUT (R53, R269). -/
def Chip.ppsBall (c : Chip) : Ball :=
  match c.ballCol with
  | .held | .deep | .off => .float
  | .boot => .low
  | .on => if c.sei.pps then .high else .low

/-- FAULT_N and ALERT_N, open drains (R339, R356). -/
def Chip.faultBall (c : Chip) : Ball := if c.clk.faultLow then .low else .float
def Chip.alertBall (c : Chip) : Ball := if c.clk.alertLow then .low else .float

end Sys2Proof.Machine
end

