-- ==== Sys2Proof/WellFormed.lean ====
section
/-! DEFINITION. Well-formed commands: operands whose length or range the manual fixes and no operand type does. -/

namespace Sys2Proof

/-- The data lengths of a CAN FD frame (ISO 11898-1, R222). -/
def fdLengths : List Nat := [0, 1, 2, 3, 4, 5, 6, 7, 8, 12, 16, 20, 24, 32, 48, 64]

/-- A CAN frame as the controller can receive or send it: an FD length, at most 8 bytes in a classic frame, an 11-bit
identifier unless extended, a rate switch only in an FD frame (R222). -/
def CanFrame.wf (f : CanFrame) : Bool :=
  fdLengths.contains f.data.length && (f.fdf || f.data.length ≤ 8) && (f.ide || f.id.toNat < 2048) && (f.fdf || !f.brs)

/-- The operand checks of a command. -/
def Instr.wf : Instr → Bool
  | .svcPortRequest _ bytes => bytes.length == 64
  | .quote _ nonce => nonce.length == 32
  | .logTrim _ _ nonce => nonce.length == 32
  | .chCurve _ points => points.length == 8
  | .beadWrite _ _ data => data.length == 32
  | .dropControl _ _ setup _ _ => setup.length == 8
  | .hidReport _ _ _ r => r.length == 8
  | .lineSend _ f => f.wf
  | .lineFrameReceive _ f => f.frame.wf
  | .fuseLinkFrame _ chs rails => chs.length ≤ 48 && rails.length ≤ 8
  | _ => true

end Sys2Proof
end

