-- ==== Sys2Proof/Tests/Slice0.lean ====
section
/-! SUPPORT. Tests: a small state per purpose, values the manual prints, ill-formed commands, and for each statement
states that meet its hypotheses, clause by clause. -/

namespace Sys2Proof.Tests

set_option Elab.async false

open Sys2Proof.Machine

/-- Fields written one after the other. -/
def fields (c : Chip) (l : List (Reg × Field × Nat)) : Chip := l.foldl (fun c x => c.setF x.1 x.2.1 x.2.2) c

/-- The part in Run, booted, both lanes up in PAIR, on its PLLs. -/
def live : Chip :=
  fields
    { State.reset.chip with
      clk := { now := 10000000000000, porst := true, boot := .live, hsOnFrc := false }
      fw := { hs := .run }
      trunk := { lanes := Vector.replicate 2 { lost := false, dest := some 0x020000000001#48 } }
      sei := { time := 1600000000#64, running := true } }
    [(.CLK_CTL, F.CLK_CTL_PLL_EN, 0x1FF), (.CLK_CTL, F.CLK_CTL_SYS_SEL, 1), (.CLK_STATUS, F.CLK_STATUS_LOCK, 0x1FF),
     (.CLK_STATUS, F.CLK_STATUS_XTAL_OK, 1), (.TRK_CTL, F.TRK_CTL_LANE_EN_TA, 1), (.TRK_CTL, F.TRK_CTL_LANE_EN_TB, 1), 
     (.TRK_STATUS, F.TRK_STATUS_UP_TA, 1), (.TRK_STATUS, F.TRK_STATUS_UP_TB, 1)]

/-- A state of this part, no command waiting. -/
def at_ (c : Chip) : State := { chip := c }

/-- A pending request. -/
def entry (op : BitVec 16) (kind index : Nat) : ReqEntry :=
  { req := { opcode := op, tag := 7#16, doorEpoch := 0#16, tgtKind := kind, flags := 0#8, tgtIndex := index, tgtEpoch := 0#16,
             args := [] }
    path := .trunk, num := 1, ord := 5, bump := false, st := .pending }

/-- The request of `entry`. -/
def q0 : ReqId := ⟨0, 5⟩

/-- Door 0, claimed over the trunk, holds one pending request. -/
def ask (op : BitVec 16) (kind index : Nat) (c : Chip) : Chip :=
  c.updDoor 0 (fun d => { d with path := some .trunk, sub := 0xFFFF#16, reqs := [entry op kind index] })

/-- A path holds its unlock. -/
def key (p : RegPath) (c : Chip) : Chip :=
  c.updFab (fun f => { f with unlock := f.unlock.set p (some 10000001000000) })

/-- The power controller with an entry under way. -/
def entering (t : PState) (k : Nat) (c : Chip) : Chip := c.updPwr (fun p => { p with entry := some ⟨t, k, none⟩ })

/-- Door 0 claimed over a path. -/
def held0 (p : Path) (c : Chip) : Chip := c.updDoor 0 (fun d => { d with path := some p, sub := 0xFFFF#16 })

/-- A frame that a lane receives. -/
def frame (typ : Byte) (id : BitVec 16) (seq : BitVec 32) (b : List Byte) : RxFrame :=
  let f : RxFrame :=
    { fcsOk := true, dst := ptpMac, src := 2#48, etherType := 0x88B5#16, ver := 1#8, typ := typ, id := id, seq := seq,
      epoch := 0#16, length := BitVec.ofNat 16 b.length, flags := 0#16, payload := b, crc := 0#32 }
  { f with crc := f.crcOf }

/-- A delivered frame. -/
def got (l : LaneId) (f : RxFrame) (c : Chip) : Chip := c.updTrunk (fun t => { t with delivered := [(l, f)] })

/-- A stream of door 0 on port 0. -/
def strm0 : Strm :=
  { id := 3#16, cid := 40, gen := 1#8, door := 0, port := 0, depth := 4096, weight := 1, recs := [], weir := false, inbound := [],
    received := 0, credit := 2#32, overrun := 0, closed := false }

/-- A response part. -/
def part0 : RspPart :=
  { path := .trunk, frees := none, opcode := 0x0104#16, tag := 0#16, result := 0, parts := 1, part := 0, tgtEpoch := 0#16,
    dataLen := 0, reqNum := 1, data := [] }

/-- Interfaces of a device: a boot keyboard, a printer, a CDC pair. -/
def ifHid : IfDesc := ⟨0, 0, 3#8, 1#8, 1#8, none⟩
def ifPrn : IfDesc := ⟨1, 0, 7#8, 1#8, 2#8, none⟩
def ifCdc : IfDesc := ⟨2, 0, 2#8, 2#8, 0#8, some 3⟩
def ifDat : IfDesc := ⟨3, 0, 0x0A#8, 0#8, 0#8, none⟩

/-- The device at the root of a tree. -/
def dev0 : Dev :=
  { route := 0#20, addr := 1, speed := 0, vid := 1#16, pid := 2#16, cid := 20, gen := 1#8, configured := true, waits := false
    selfPowered := false, hubPorts := 4, multiTt := false, ifs := [ifHid, ifPrn, ifCdc, ifDat], eps := [], alts := [], config := 1,
    known := 1 }

/-- A bulk IN endpoint. -/
def ep0 : EpBody :=
  { ep := 0x81#8, xfer := 2, mult := 1, toggle := true, halted := false, slow := false, active := true, mps := 512, period := 0,
    phase := 0, iface := 0, alt := 0, stream := none, nakBudget := 8, weight := 1, slowRun := 0, bytes := 0 }

/-- An enumeration of the root device. -/
def enum0 : Enum :=
  { route := 0#20, step := 1, attempt := 1, configSel := 0, speed := 0, isHub := false, mps0 := 64, value := 0, attrs := 0#8,
    eps := [], ifs := [], cid := 0, gen := 0#8, addr := 0, vid := 0#16, pid := 0#16, waitUntil := none, since := 0, req := none }

/-- A control transfer. -/
def ctl0 : Ctl :=
  { route := 0#20, by_ := .door ⟨0, 5⟩, setup := [], out := [], span := 1, deadline := 0, held := true }

/-- An open record of port 3. -/
def rec0 : Rec :=
  { st := .opened, flags := 0, src := 3,
    hdr := { time := 0#64, kind := 1, rflags := 0, iface := 0, route := 0, bind := 0, belts := [], pos := [] },
    data := [], openedAt := 0, owner := (3, 0, 0) }

/-- A binding of port 3, and its SERVICE body. -/
def bind0 : Bind :=
  { port := 3, route := 0#20, iface := 0, kind := kHID, profile := 0, stream := 3#16, out := 0xFFFF#16, door := some 0,
    pending := none, cid := 30, gen := 1#8, prev := [0#8, 0#8, 0#8, 0#8, 0#8, 0#8, 0#8, 0#8], ctl := 0#32, term := 0#32, keys := [],
    lastByte := none, discard := false, lastData := 0, jobId := 0, jobLen := 0, jobAcked := 0 }
def sbody0 : SvcBody :=
  { kind := kHID, state := 2, iface := 0, profile := 0, stream := (40, 1#8), out := none, fill := 0, keymap := 0, pstat := 0#8,
    rseq := 0#32, job := 0 }

/-- The contexts of that device, its endpoint, its binding and its stream; the endpoint's turn. -/
def bulkCtxs : List (Nat × Ctx) :=
  [(20, { typ := tDEV, holder := 3, gen := 1#8 }), (21, { typ := tEP, holder := 3, gen := 1#8, parent := 20, body := .ep ep0 }),
   (30, { typ := tSERVICE, holder := 3, gen := 1#8, parent := 20, body := .service sbody0 }),
   (40, { typ := tSTREAM, holder := 97, gen := 1#8, body := .stream 3#16 })]
def bulk0 : BulkTurn := { route := 0#20, ep := 0x81#8 }

/-- A match rule that fits every boot keyboard. -/
def rule0 : MatchRule :=
  { cls := 3#8, sub := 1#8, proto := 1#8, mask := 7#8, vid := 0#16, pid := 0#16, portFirst := 0, portLast := 95, kind := kHID,
    profile := 0, stream := 3#16, out := 0xFFFF#16 }

/-- The open record of that binding. -/
def rec1 : Rec := { rec0 with owner := bind0.key }

/-- A classic CAN frame, and a buffer that holds it. -/
def can0 : CanFrame := ⟨5#29, false, false, false, [1#8]⟩
def txb0 : TxBuf := { frame := can0, use := .ulp 9, started := false, cancelled := false, sof := 0#64 }

/-- A ULP read of object 7, on its way. -/
def ulp0 : Ulp :=
  { write := false, obj := 7, value := [], prio := 4, origin := .poll, sentAt := some 9999999999999, late := false }

/-- The node of address 9, its NODE body, and its object 7. -/
def node0 : NodeRt :=
  { addr := 9, cid := 29, gen := 1#8, annDue := none, part := none, out := none, queue := [], absentAt := none, restart := false }
def nbody0 : NodeBody :=
  { serial := 99#64, addr := 9, nstate := nsLIVE, objCnt := 1, run := 0, missed := 0, annTry := 1, pollMs := 100, lastRx := 0#64 }
def obj0 : ObjBody :=
  { obj := 7, access := 3, report := 0, writePend := false, vlen := 4, otype := 1, value := [], time := 0#64, rcount := 0#32 }

/-- A frame of that node that passes every check: REPORT of object 7. -/
def rx0 : RxCan :=
  { frame := { id := ulpId 4 8 9 0 28, ide := true, fdf := true, brs := false,
               data := (List.replicate 10 1#8) ++ leBytes 2 (ulpCrc (ulpId 4 8 9 0 28) (List.replicate 10 1#8)).toNat },
    tick := 5#64, cause := 0 }

/-- A checked ULP frame of a source: its KIND, the identifier's low byte, and its content. -/
def rxu (kind src low : Nat) (d : List Byte) : RxCan :=
  { frame := { id := ulpId 4 kind src 0 low, ide := true, fdf := true, brs := false, data := d ++ [0#8, 0#8] },
    tick := 1599999999#64, cause := 0 }

/-- A mark of belt 15 at position 100, event only. -/
def mark0 : MarkBody :=
  { pos := 100#48, belt := 15, dir := 1, action := 6, mstate := msPENDING, mflags := 0#8, window := 0#16, arg := 0#32,
    portEpoch := 0#16, nodeEpoch := 0#16, door := 0 }

/-- Bytes from an address on. -/
def cellsAt (a : Nat) (l : List Byte) : List Host.Cell := l.zipIdx.map (fun x => (a + x.2, x.1))

/-- An image of three components at bank 0: a header, the CRC-32C of its 4,092 bytes, a TABLES component of one rule. -/
def img : List Host.Cell :=
  cellsAt 0 [85, 72, 81, 73, 1, 0, 3, 0] ++
  cellsAt 24 [1] ++
  cellsAt 28 [0, 16, 0, 0, 4, 0, 0, 0] ++
  cellsAt 104 [2] ++
  cellsAt 108 [0, 32, 0, 0, 4, 0, 0, 0] ++
  cellsAt 184 [4] ++
  cellsAt 188 [0, 48, 0, 0, 24, 0, 0, 0] ++
  cellsAt 4092 [192, 44, 139, 254] ++
  cellsAt 12288 [1, 0, 0, 0]

/-- Canon and the other conditions from what the kernel can decide. -/
theorem canon {c : Chip} (h : regsOk c.regs = true ∧ flashOk c.fw.flash = true ∧ blocksOk c.bead.blocks = true) : Canon c :=
  ⟨h.1, h.2.1, h.2.2⟩
theorem start {c : Chip} {q : ReqId} {op : BitVec 16} {k : List Nat} {e : ReqEntry}
    (h : c.ready q op = some e ∧ c.takeVerdict q e = none ∧ badTarget e.req = false ∧ k.contains e.req.tgtKind = true ∧
      (c.doors[q.door]).releasing = none) : Startable c q op k e := ⟨h.1, h.2.1, h.2.2.1, h.2.2.2.1, h.2.2.2.2⟩
theorem forPort {c : Chip} {q : ReqId} {op : BitVec 16} {n : Port} {e : ReqEntry}
    (h : (c.ready q op = some e ∧ c.takeVerdict q e = none ∧ badTarget e.req = false ∧ [1].contains e.req.tgtKind = true ∧
      (c.doors[q.door]).releasing = none) ∧ e.req.tgtIndex = n.val) : ForPort c q op n e := ⟨start h.1, h.2⟩
theorem forNode {c : Chip} {q : ReqId} {op : BitVec 16} {n : Port} {a : Nat} {e : ReqEntry}
    (h : (c.ready q op = some e ∧ c.takeVerdict q e = none ∧ badTarget e.req = false ∧ [3].contains e.req.tgtKind = true ∧
      (c.doors[q.door]).releasing = none) ∧ nodePort e.req.tgtIndex = n.val ∧ nodeAddr e.req.tgtIndex = a) :
    ForNode c q op n a e := ⟨start h.1, h.2.1, h.2.2⟩
theorem dieFree {c : Chip} {d : Die} (h : c.dieHears d = true ∧ (c.fl[d]).writes = []) : DieFree c d := h
theorem boundTo {c : Chip} {n : Port} {r : BitVec 20} {i kind : Nat} {b : Bind} {t : Strm}
    (h : c.bound? n r i kind = some b ∧ c.bindStream b = some t ∧ c.svc.streams.find? (fun x => x.id == b.stream) = some t) :
    BoundTo c n r i kind b t := ⟨h.1, h.2.1, h.2.2⟩
theorem writable {c : Chip} {p : RegPath} {r : Reg} {v : Word}
    (h : c.pathUp p = true ∧ (c.guarded r = true → c.unlocked p = true) ∧ (v ^^^ c.readWord r) &&& r.rcMask = 0#32) :
    Writable c p r v := ⟨h.1, h.2.1, h.2.2⟩

/-- The same request, whatever the number of its opcode: one that the manual names without a number. -/
theorem startAny (op : BitVec 16) (k : List Nat) (hk : k.contains 0 = true) :
    Startable (ask op 0 0 live) q0 op k (entry op 0 0) := by
  have h1 : (ask op 0 0 live).hsRuns = true := rfl
  have h2 : (ask op 0 0 live).entry? q0 = some (entry op 0 0) := rfl
  have h3 : (ask op 0 0 live).heldBack q0.door (entry op 0 0) = false := by
    simp [Chip.heldBack, entry, namesTarget, Request.fence]
  have h4 : (ask op 0 0 live).checkEpochs q0.door (entry op 0 0).req none true = none := by
    simp only [Chip.checkEpochs, entry]; with_unfolding_all rfl
  refine ⟨?_, ?_, rfl, hk, rfl⟩
  · simp [Chip.ready, h2, h3, h1]; exact ⟨rfl, rfl⟩
  · simp only [Chip.takeVerdict]; split
    · rfl
    · exact h4
/-- The same with a stream open. -/
theorem startStrm (op : BitVec 16) (k : List Nat) (hk : k.contains 0 = true) :
    Startable (ask op 0 0 ((live.updPond (fun k => { k with ctxs := bulkCtxs })).updSvc (fun k => { k with streams := [strm0] }))) q0 op k (entry op 0 0) := by
  have h1 : (ask op 0 0 ((live.updPond (fun k => { k with ctxs := bulkCtxs })).updSvc (fun k => { k with streams := [strm0] }))).hsRuns = true := rfl
  have h2 : (ask op 0 0 ((live.updPond (fun k => { k with ctxs := bulkCtxs })).updSvc (fun k => { k with streams := [strm0] }))).entry? q0 = some (entry op 0 0) := rfl
  have h3 : (ask op 0 0 ((live.updPond (fun k => { k with ctxs := bulkCtxs })).updSvc (fun k => { k with streams := [strm0] }))).heldBack q0.door (entry op 0 0) = false := by
    simp [Chip.heldBack, entry, namesTarget, Request.fence]
  have h4 : (ask op 0 0 ((live.updPond (fun k => { k with ctxs := bulkCtxs })).updSvc (fun k => { k with streams := [strm0] }))).checkEpochs q0.door (entry op 0 0).req none
      true = none := by
    simp only [Chip.checkEpochs, entry]; with_unfolding_all rfl
  refine ⟨?_, ?_, rfl, hk, rfl⟩
  · simp [Chip.ready, h2, h3, h1]; exact ⟨rfl, rfl⟩
  · simp only [Chip.takeVerdict]; split
    · rfl
    · exact h4

theorem not_self (x : BitVec 64) : ~~~x ≠ x := by
  intro h
  have := congrArg (fun y => BitVec.getLsbD y 0) h
  simp at this

/-- The value of an answer that is one. -/
def okOf {α : Type} : (e : Except Nat α) → e.isOk = true → α
  | .ok a, _ => a
theorem okOf_eq {α : Type} (e : Except Nat α) (h : e.isOk = true) : e = .ok (okOf e h) := by
  cases e with
  | ok a => rfl
  | error v => cases h

/-- The first bytes of that bank, and their CRC-32C in parts that the kernel evaluates one by one. -/
def imgBytes (n : Nat) : List Byte := (List.range n).map (fun i => flashGet img (bankBase 0 + i))
/-- CRC-32C byte by byte, each value evaluated before the next byte. -/
def crcRun : List Byte → Nat → Nat
  | [], c => c
  | b :: t, c =>
    match (crc32cByte (BitVec.ofNat 32 c) b).toNat with
    | 0 => crcRun t 0
    | n + 1 => crcRun t (n + 1)
theorem crcRun_eq (l : List Byte) (x : Word) : l.foldl crc32cByte x = BitVec.ofNat 32 (crcRun l x.toNat) := by
  induction l generalizing x with
  | nil => simp [crcRun]
  | cons b t ih =>
    have e : crcRun (b :: t) x.toNat = crcRun t (crc32cByte x b).toNat := by
      simp only [crcRun, BitVec.ofNat_toNat, BitVec.setWidth_eq]
      split <;> rename_i h <;> rw [h]
    rw [List.foldl_cons, ih, e]
theorem imgBytes_next (n : Nat) (x y : Word) (h : (imgBytes n).foldl crc32cByte 0xFFFFFFFF#32 = x)
    (g : crcRun ((List.range 341).map (fun i => flashGet img (bankBase 0 + (n + i)))) x.toNat = y.toNat) :
    (imgBytes (n + 341)).foldl crc32cByte 0xFFFFFFFF#32 = y := by
  have e : imgBytes (n + 341) = imgBytes n ++ (List.range 341).map (fun i => flashGet img (bankBase 0 + (n + i))) := by
    simp [imgBytes, List.range_add, Function.comp_def]
  rw [e, List.foldl_append, h, crcRun_eq, g, BitVec.ofNat_toNat, BitVec.setWidth_eq]
theorem img_crc0 : (imgBytes 0).foldl crc32cByte 0xFFFFFFFF#32 = 0xFFFFFFFF#32 := rfl
theorem img_crc1 : (imgBytes 341).foldl crc32cByte 0xFFFFFFFF#32 = 0xD9403ED9#32 :=
  imgBytes_next 0 _ _ img_crc0 (by decide +kernel)
theorem img_crc2 : (imgBytes 682).foldl crc32cByte 0xFFFFFFFF#32 = 0x75BBC954#32 :=
  imgBytes_next 341 _ _ img_crc1 (by decide +kernel)
theorem img_crc3 : (imgBytes 1023).foldl crc32cByte 0xFFFFFFFF#32 = 0xD157D6AF#32 :=
  imgBytes_next 682 _ _ img_crc2 (by decide +kernel)
theorem img_crc4 : (imgBytes 1364).foldl crc32cByte 0xFFFFFFFF#32 = 0x6B14C8DD#32 :=
  imgBytes_next 1023 _ _ img_crc3 (by decide +kernel)
theorem img_crc5 : (imgBytes 1705).foldl crc32cByte 0xFFFFFFFF#32 = 0x48C9C522#32 :=
  imgBytes_next 1364 _ _ img_crc4 (by decide +kernel)
theorem img_crc6 : (imgBytes 2046).foldl crc32cByte 0xFFFFFFFF#32 = 0xDC71BC7E#32 :=
  imgBytes_next 1705 _ _ img_crc5 (by decide +kernel)
theorem img_crc7 : (imgBytes 2387).foldl crc32cByte 0xFFFFFFFF#32 = 0x00093959#32 :=
  imgBytes_next 2046 _ _ img_crc6 (by decide +kernel)
theorem img_crc8 : (imgBytes 2728).foldl crc32cByte 0xFFFFFFFF#32 = 0x73B3B6DF#32 :=
  imgBytes_next 2387 _ _ img_crc7 (by decide +kernel)
theorem img_crc9 : (imgBytes 3069).foldl crc32cByte 0xFFFFFFFF#32 = 0xADE99220#32 :=
  imgBytes_next 2728 _ _ img_crc8 (by decide +kernel)
theorem img_crc10 : (imgBytes 3410).foldl crc32cByte 0xFFFFFFFF#32 = 0x040272FC#32 :=
  imgBytes_next 3069 _ _ img_crc9 (by decide +kernel)
theorem img_crc11 : (imgBytes 3751).foldl crc32cByte 0xFFFFFFFF#32 = 0x8CC56C85#32 :=
  imgBytes_next 3410 _ _ img_crc10 (by decide +kernel)
theorem img_crc12 : (imgBytes 4092).foldl crc32cByte 0xFFFFFFFF#32 = 0x0174D33F#32 :=
  imgBytes_next 3751 _ _ img_crc11 (by decide +kernel)
theorem img_crc : crc32c (imgBytes 4092) = 0xFE8B2CC0#32 := by rw [crc32c, img_crc12]; rfl
/-- Its header. -/
def imgHead : ImgHead :=
  { version := BitVec.ofNat 64 (leAt (imgBytes 24) 8 8), signed := leAt (imgBytes 24) 16 4 % 2 == 1
    comps := (List.range (leAt (imgBytes 24) 6 2)).map (fun i =>
      compOf ((List.range 80).map (fun j => flashGet img (bankBase 0 + 24 + 80 * i + j)))) }
theorem img_head (c : Chip) (h : c.fw.flash = img) : c.header 0 = some imgHead := by
  have e (n : Nat) : c.flashBytes (bankBase 0) n = imgBytes n := by rw [Chip.flashBytes, h]; rfl
  simp only [Chip.header, e, img_crc]
  simp only [Chip.flashBytes, h]
  rw [if_neg (by decide +kernel), if_pos (by decide +kernel)]
  rfl
/-- Its FW and TABLES components. -/
def imgFw : CompEnt := (imgHead.comp? cpFW).get (by decide +kernel)
def imgUcode : CompEnt := (imgHead.comp? cpUCODE).get (by decide +kernel)
def imgTab : CompEnt := (imgHead.comp? cpTABLES).get (by decide +kernel)
theorem img_fw (c : Chip) (h : c.fw.flash = img) : (c.header 0).bind (fun x => x.comp? cpFW) = some imgFw := by
  rw [img_head c h]; exact (Option.some_get (x := imgHead.comp? cpFW) (by decide +kernel)).symm
theorem img_ucode (c : Chip) (h : c.fw.flash = img) : (c.header 0).bind (fun x => x.comp? cpUCODE) = some imgUcode := by
  rw [img_head c h]; exact (Option.some_get (x := imgHead.comp? cpUCODE) (by decide +kernel)).symm
theorem img_tab (c : Chip) (h : c.fw.flash = img) : (c.header 0).bind (fun x => x.comp? cpTABLES) = some imgTab := by
  rw [img_head c h]; exact (Option.some_get (x := imgHead.comp? cpTABLES) (by decide +kernel)).symm
/-- Tables of the image go into force where the allocator has room. -/
theorem img_apply (c : Chip) (h : c.fw.flash = img)
    (t : (tablesOf (c.compBytes 0 imgTab)).map (fun x => (c.putTables 0 x.1 x.2).isOk) = some true) :
    (c.applyTables 0).isOk = true := by
  obtain ⟨⟨r, m⟩, hx, g⟩ := Option.map_eq_some_iff.mp t
  simp only [Chip.applyTables, img_tab c h, hx]
  revert g
  cases c.putTables 0 r m with
  | ok y => exact fun _ => rfl
  | error v => exact id
theorem okEx {α β : Type} {e : Except Nat (α × β)} (h : e.isOk = true) : ∃ x y, e = .ok (x, y) := by
  cases e with
  | ok a => exact ⟨a.1, a.2, rfl⟩
  | error v => cases h
/-- A request for those tables. -/
def sTab : Chip := ask 0x0950#16 0 0 (live.updFw (fun k => { k with flash := img }))
theorem tab_flash : (Taken sTab q0).fw.flash = img := by with_unfolding_all rfl
theorem tab_put :
    (tablesOf ((Taken sTab q0).compBytes 0 imgTab)).map (fun x => ((Taken sTab q0).putTables 0 x.1 x.2).isOk) = some true := by
  decide +kernel
theorem tab_ok : ((Taken sTab q0).applyTables 0).isOk = true := img_apply _ tab_flash tab_put

/-! ### Ill-formed commands are refused by `Instr.wf` -/

theorem test_wf_request_length : Instr.wf (.svcPortRequest 0 (List.replicate 63 0#8)) = false := by decide
theorem test_wf_quote_nonce : Instr.wf (.quote q0 (List.replicate 31 0#8)) = false := by decide
theorem test_wf_trim_nonce : Instr.wf (.logTrim q0 0#32 []) = false := by decide
theorem test_wf_curve_points : Instr.wf (.chCurve q0 (List.replicate 9 0#32)) = false := by decide
theorem test_wf_block_length : Instr.wf (.beadWrite q0 0 (List.replicate 33 0#8)) = false := by decide
theorem test_wf_setup_length : Instr.wf (.dropControl q0 0#20 (List.replicate 7 0#8) 0 []) = false := by decide
theorem test_wf_report_length : Instr.wf (.hidReport 0 0#20 0 (List.replicate 9 0#8)) = false := by decide
theorem test_wf_fd_length : Instr.wf (.lineSend q0 ⟨5#29, false, true, false, List.replicate 9 0#8⟩) = false := by decide
theorem test_wf_classic_length : Instr.wf (.lineSend q0 ⟨5#29, false, false, false, List.replicate 12 0#8⟩) = false := by decide
theorem test_wf_base_id : Instr.wf (.lineFrameReceive 40 ⟨⟨2048#29, false, false, false, []⟩, false, 0⟩) = false := by decide +kernel
theorem test_wf_classic_brs : Instr.wf (.lineFrameReceive 40 ⟨⟨5#29, false, false, true, []⟩, false, 0⟩) = false := by decide +kernel
theorem test_wf_link_rails : Instr.wf (.fuseLinkFrame 0 [] (List.replicate 9 (0, 0#16))) = false := by decide
theorem test_wf_link_channels : Instr.wf (.fuseLinkFrame 0 (List.replicate 49 ⟨0, 0#16, 0#16⟩) []) = false := by decide

/-! ### Values the manual prints -/

/-- The part after a command that answers a next state. -/
def after (i : Instr) (c : Chip) : Option Chip :=
  match exec i (at_ c) with
  | .next t => some t.chip
  | _ => none

/-- The check value of 05 over "123456789". -/
theorem test_crc32c_check : crc32c [0x31#8, 0x32#8, 0x33#8, 0x34#8, 0x35#8, 0x36#8, 0x37#8, 0x38#8, 0x39#8] = 0xE3069283#32 := by
  decide +kernel
/-- The check value of 11 over "123456789". -/
theorem test_crc16_check : crc16 [0x31#8, 0x32#8, 0x33#8, 0x34#8, 0x35#8, 0x36#8, 0x37#8, 0x38#8, 0x39#8] = 0x29B1#16 := by
  decide +kernel
/-- FIPS 180-4: SHA-384 of "abc". -/
theorem test_sha384_abc : sha384 [0x61#8, 0x62#8, 0x63#8] =
    0xCB00753F45A35E8BB5A03D699AC65007272C32AB0EDED1631A8B605A43FF5BED8086072BA1E7CC2358BAECA134C825A7#384 := by
  decide +kernel
/-- 09, the example: an interrupt IN of 8 bytes costs 66 byte times at high speed. -/
theorem test_interrupt_cost : segCost spHS 8 1 = 66 := by decide +kernel
/-- 05, the example: T = 1,600,000,003 is 1 s, 1 ns and 57,344 of correction. -/
theorem test_ptp_stamp : ptpStamp 1600000003#64 = beBytes 6 1 ++ beBytes 4 1 ∧ ptpRest 1600000003#64 = 57344 := by decide +kernel

/-! ### One step -/

/-- A flash operation that has just begun, at 0x10000. -/
def withXspi (op : Nat) : Chip :=
  live.updFw (fun k => { k with xspi := some { op := op, addr := 65536, len := 1, data := [], req := none, since := live.clk.now } })

/-- The position wraps below zero (R249). -/
theorem test_belt_wraps :
    (after (.shaftEdge 3 false ⟨true, 63⟩ false) (fields live [(.BELT_CTL 3, F.BELT_CTL_EN, 1)])).map (fun c => (c.sei.belts[3]).pos) =
      some (0xFFFFFFFFFFFF#48) := by decide +kernel
/-- TIME rises by one a tick in Run, and stands while Seiche does not run (R246). -/
theorem test_idle_tick : (live.tick).sei.time = 1600000001#64 ∧ (State.reset.chip.tick).sei.time = 0#64 := by decide +kernel
/-- A holder at its quota gets OVER_QUOTA (R150). -/
theorem test_alloc_refused :
    (after (.pondAlloc 3 1 1) (fields live [(.HOLDER_QUOTA 3, F.HOLDER_QUOTA_QUOTA, 0)])).map (fun c => c.pond.lastAlloc) =
      some (0x04, []) := by decide +kernel
/-- Without the unlock a write of a keyed register changes nothing and answers REFUSED (R312). -/
theorem test_locked_write :
    (after (.registerWrite 0 (Reg.addr .GLB_FAULT_EN) 0xFFFFFF#32) live).map
      (fun c => (c.fab.answers[(0 : RegPath)], c.rd .GLB_FAULT_EN == live.rd .GLB_FAULT_EN)) = some (⟨0#32, 2⟩, true) := by
  decide +kernel
/-- R104: a flash that reports ready within the operation's maximum time ends it with no error; one still busy after it ends it
with TIMEOUT. -/
theorem test_flash_bound :
    (after (.xspiOpEnd true 0#8) (withXspi 2)).map (fun c => (c.fw.xspi.isNone, c.get .XSPI_STATUS F.XSPI_STATUS_ERR)) =
      some (true, 0) ∧
    (after (.xspiOpEnd false 0#8) ((withXspi 2).updClk (fun k => { k with now := k.now + ms 5 }))).map
      (fun c => (c.fw.xspi.isNone, c.get .XSPI_STATUS F.XSPI_STATUS_ERR == 0)) = some (true, false) := by decide +kernel
/-- R65: with every PLL in lock the firmware's boot starts Seiche; with one missing the device runs on the free-running clock. -/
theorem test_firmware_boot :
    (after (.firmwareBoot 0x1FF#9 none) (State.reset.chip.updClk (fun k => { k with boot := .firmware }))).map
      (fun c => (c.clk.boot == .live, c.sei.running)) = some (true, true) ∧
    (after (.firmwareBoot 0x1FE#9 none) (State.reset.chip.updClk (fun k => { k with boot := .firmware }))).map
      (fun c => (c.clk.boot == .frcOnly, c.sei.running)) = some (true, false) := by decide +kernel
/-! ### States that meet the hypotheses of the statements -/

/-- The hypotheses of each clause of `Obligations.SupplyAndBoot` are met. -/
theorem witness_SupplyAndBoot :
  (∃ s : State, Canon s.chip) ∧
  (∃ s : State, ∃ v : Supply, Canon s.chip ∧ s.chip.clk.trips.contains v = false ∧ s.chip.pwr.st ≠ .off ∧ supplyHolds v = true ∧ s.chip.clk.boot ≠
    .held) ∧
  (∃ s : State, ∃ v : Supply, Canon s.chip ∧ s.chip.clk.trips.contains v = true) ∧
  (∃ s : State, Canon s.chip ∧ s.chip.clk.porst = true) ∧
  (∃ s : State, Canon s.chip ∧ s.chip.clk.porst = false) ∧
  (∃ s : State, ∃ locks : BitVec 9, Canon s.chip ∧ s.chip.clk.boot = .firmware ∧ locks ≠ 0x1FF#9) ∧
  (∃ s : State, Canon s.chip ∧ s.chip.clk.boot = .firmware) ∧
  (∃ s : State, Canon s.chip ∧ s.chip.clk.boot = .firmware) ∧
  (∃ s : State, ∃ t, Canon s.chip ∧ s.chip.inDeviceReset = false ∧ s.chip.clk.wdt = some t ∧ t ≤ s.chip.clk.now) ∧
  (∃ s : State, Canon s.chip ∧ s.chip.inDeviceReset = false) ∧
  (∃ s : State, ∃ q, ∃ e, Canon s.chip ∧ Startable s.chip q (Config.opReset 5) [0, 1, 2, 3, 4] e ∧ s.chip.inDeviceReset = false) ∧
  (∃ s : State, Canon s.chip ∧ s.chip.inDeviceReset = true) :=
  ⟨⟨(at_ live), canon (by decide +kernel)⟩,
  ⟨(at_ live), .vdda, canon (by decide +kernel), by decide +kernel⟩,
  ⟨(at_ (live.updClk (fun k => { k with trips := [.usb, .vdda] }))), .vdda, canon (by decide +kernel), by decide +kernel⟩,
  ⟨(at_ live), canon (by decide +kernel), by decide +kernel⟩,
  ⟨(at_ State.reset.chip), canon (by decide +kernel), by decide +kernel⟩,
  ⟨(at_ (live.updClk (fun k => { k with boot := .firmware }))), 0x0FF#9, canon (by decide +kernel), by decide +kernel⟩,
  ⟨(at_ (live.updClk (fun k => { k with boot := .firmware }))), canon (by decide +kernel), by decide +kernel⟩,
  ⟨(at_ (live.updClk (fun k => { k with boot := .firmware }))), canon (by decide +kernel), by decide +kernel⟩,
  ⟨(at_ (live.updClk (fun k => { k with wdt := some 10000000000000 }))), 10000000000000, canon (by decide +kernel), by decide +kernel⟩,
  ⟨(at_ live), canon (by decide +kernel), by decide +kernel⟩,
  ⟨(at_ (ask (Config.opReset 5) 0 0 live)), q0, (entry (Config.opReset 5) 0 0), canon (by decide +kernel), startAny _ _ (by decide), by
    decide +kernel⟩,
  ⟨(at_ (live.updClk (fun k => { k with boot := .held }))), canon (by decide +kernel), by decide +kernel⟩⟩

/-- The hypotheses of each clause of `Obligations.ReferenceClocks` are met. -/
theorem witness_ReferenceClocks :
  (∃ s : State, ∃ g : Pll, Canon s.chip ∧ s.chip.pllEn g = true ∧ s.chip.locked g = false ∧ s.chip.clk.lockBy.isSome = true) ∧
  (∃ s : State, ∃ t, Canon s.chip ∧ s.chip.clk.lockBy = some t ∧ t ≤ s.chip.clk.now ∧ s.chip.get .CLK_CTL F.CLK_CTL_PLL_EN &&& (s.chip.get
    .CLK_STATUS F.CLK_STATUS_LOCK ^^^ 0x1FF) ≠ 0) ∧
  (∃ s : State, Canon s.chip ∧ s.chip.bit .CLK_CTL F.CLK_CTL_REF_EN = true ∧ s.chip.bit .CLK_STATUS F.CLK_STATUS_XTAL_OK = true ∧ s.chip.bit
    .CLK_STATUS F.CLK_STATUS_REF_QUAL = false) ∧
  (∃ s : State, Canon s.chip ∧ s.chip.bit .CLK_STATUS F.CLK_STATUS_REF_QUAL = true) ∧
  (∃ s : State, Canon s.chip ∧ s.chip.bit .CLK_STATUS F.CLK_STATUS_XTAL_OK = true ∧ s.chip.pwr.st ≠ .deep ∧ s.chip.pwr.st ≠ .off) ∧
  (∃ s : State, Canon s.chip ∧ s.chip.bit .CLK_STATUS F.CLK_STATUS_XTAL_OK = false) ∧
  (∃ s : State, Canon s.chip ∧ s.chip.clk.slewing = true ∧ s.chip.bit .CLK_STATUS F.CLK_STATUS_XTAL_OK = true ∧ s.chip.refFree = false) ∧
  (∃ s : State, ∃ g : Pll, Canon s.chip ∧ s.chip.onPlls = true ∧ s.chip.locked g = true ∧ (g.val = 0 ∨ 3 ≤ g.val)) ∧
  (∃ s : State, ∃ g : Pll, Canon s.chip ∧ s.chip.inDeviceReset = false ∧ s.chip.onPlls = true ∧ s.chip.locked g = true ∧ (g.val = 1 ∨ g.val = 2)) ∧
  (∃ s : State, ∃ g : Pll, Canon s.chip ∧ s.chip.onPlls = true ∧ s.chip.locked g = false ∧ s.chip.pllEn g = true) :=
  ⟨⟨(at_ ((fields live [(.CLK_STATUS, F.CLK_STATUS_LOCK, 0x0FF)]).updClk (fun k => { k with lockBy := some 10000000000001 }))), 8, canon (by
    decide +kernel), by decide +kernel⟩,
  ⟨(at_ ((fields live [(.CLK_STATUS, F.CLK_STATUS_LOCK, 0x0FF)]).updClk (fun k => { k with lockBy := some 10000000000000 }))), 10000000000000, canon
    (by decide +kernel), by decide +kernel⟩,
  ⟨(at_ (fields live [(.CLK_CTL, F.CLK_CTL_REF_EN, 1)])), canon (by decide +kernel), by decide +kernel⟩,
  ⟨(at_ (fields live [(.CLK_CTL, F.CLK_CTL_REF_EN, 1), (.CLK_STATUS, F.CLK_STATUS_REF_QUAL, 1), (.CLK_STATUS, F.CLK_STATUS_XTAL_OK, 0)])), canon (by
    decide +kernel), by decide +kernel⟩,
  ⟨(at_ live), canon (by decide +kernel), by decide +kernel⟩,
  ⟨(at_ (fields live [(.CLK_STATUS, F.CLK_STATUS_XTAL_OK, 0), (.CLK_STATUS, F.CLK_STATUS_HOLDOVER, 1)])), canon (by decide +kernel), by
    decide +kernel⟩,
  ⟨(at_ (live.updClk (fun k => { k with slewing := true }))), canon (by decide +kernel), by decide +kernel⟩,
  ⟨(at_ live), 3, canon (by decide +kernel), by decide +kernel⟩,
  ⟨(at_ live), 2, canon (by decide +kernel), by decide +kernel⟩,
  ⟨(at_ (fields live [(.CLK_STATUS, F.CLK_STATUS_LOCK, 0x1FE)])), 0, canon (by decide +kernel), by decide +kernel⟩⟩

/-- The hypotheses of each clause of `Obligations.ResetScopes` are met. -/
theorem witness_ResetScopes :
  (∃ s : State, ∃ q, ∃ e, Startable s.chip q (Config.opReset 1) [0, 1, 2, 3, 4] e) ∧
  (∃ s : State, ∃ q, ∃ e, Startable s.chip q (Config.opReset 2) [0, 1, 2, 3, 4] e) ∧
  (∃ s : State, ∃ q, ∃ e, Startable s.chip q (Config.opReset 3) [0, 1, 2, 3, 4] e) ∧
  (∃ s : State, ∃ q, ∃ e, Startable s.chip q (Config.opReset 4) [0, 1, 2, 3, 4] e) ∧
  (∃ s : State, ∃ sc : Scope, s.chip.pond.rebuild = false ∧ s.chip.mayEnd sc = true ∧ s.chip.clk.resets.any (fun r => r.sc == sc) = true) :=
  ⟨⟨(at_ (ask (Config.opReset 1) 0 0 live)), q0, (entry (Config.opReset 1) 0 0), startAny _ _ (by decide)⟩,
  ⟨(at_ (ask (Config.opReset 2) 0 0 live)), q0, (entry (Config.opReset 2) 0 0), startAny _ _ (by decide)⟩,
  ⟨(at_ (ask (Config.opReset 3) 0 0 live)), q0, (entry (Config.opReset 3) 0 0), startAny _ _ (by decide)⟩,
  ⟨(at_ (ask (Config.opReset 4) 0 0 live)), q0, (entry (Config.opReset 4) 0 0), startAny _ _ (by decide)⟩,
  ⟨(at_ (live.updClk (fun k => { k with resets := [⟨.port 95, [], true, []⟩] }))), (.port 95), by decide +kernel⟩⟩

/-- The hypotheses of each clause of `Obligations.BootAndClockWrites` are met. -/
theorem witness_BootAndClockWrites :
  (∃ s : State, ∃ p : RegPath, ∃ v : Word, Canon s.chip ∧ Writable s.chip p .BOOT_CTL v ∧ s.chip.pond.grants = [] ∧ v.getLsbD F.BOOT_CTL_BOOT_OK.lo =
    true) ∧
  (∃ s : State, ∃ p : RegPath, ∃ v : Word, Canon s.chip ∧ Writable s.chip p .CLK_CTL v ∧ s.chip.pond.grants = []) ∧
  (∃ s : State, ∃ p : RegPath, ∃ v : Word, Canon s.chip ∧ Writable s.chip p .CLK_CTL v ∧ s.chip.pond.grants = []) ∧
  (∃ s : State, ∃ p : RegPath, ∃ v : Word, Canon s.chip ∧ Writable s.chip p .CLK_CTL v ∧ s.chip.pond.grants = []) :=
  ⟨⟨(at_ (key 0 live)), 0, 1#32, canon (by decide +kernel), writable (by decide +kernel), by decide +kernel⟩,
  ⟨(at_ (key 1 live)), 1, ((at_ (key 1 live)).chip.rd .CLK_CTL), canon (by decide +kernel), writable (by decide +kernel), by decide +kernel⟩,
  ⟨(at_ (key 2 {live with svcPort := { address := 5 }})), 2, (fset ((at_ (key 2 {live with svcPort := { address := 5 }})).chip.rd .CLK_CTL)
    F.CLK_CTL_SYS_SEL 0), canon (by decide +kernel), writable (by decide +kernel), by decide +kernel⟩,
  ⟨(at_ (key 0 live)), 0, (fset ((at_ (key 0 live)).chip.rd .CLK_CTL) F.CLK_CTL_REF_EN 1), canon (by decide +kernel), writable (by decide +kernel),
    by decide +kernel⟩⟩

/-- The hypotheses of each clause of `Obligations.TrunkReceiving` are met. -/
theorem witness_TrunkReceiving :
  (∃ s : State, ∃ l : LaneId, ∃ f : RxFrame, Canon s.chip ∧ s.chip.up l = true ∧ s.chip.awake = true ∧ f.fcsOk = true ∧ f.toUs = true ∧ f.crcOk =
    true ∧ f.ver = 1#8 ∧ f.etherType = (s.chip.trunk.lanes[l]).etherType ∧ f.etherType ≠ 0x88F7#16 ∧ f.length.toNat ≤ s.chip.payloadMax ∧
    f.length.toNat ≤ f.payload.length ∧ (f.typ = 6#8 ∨ f.typ = 7#8) ∧ rxFits f l = true ∧ ((f.typ = 7#8 → s.chip.offActive l = false))) ∧
  (∃ s : State, ∃ l : LaneId, ∃ f : RxFrame, ∃ x, Canon s.chip ∧ s.chip.trunk.rx.find? (fun y => y.cls == (rxSpace f).1 && y.id == (rxSpace f).2) =
    some x ∧ s.chip.up l = true ∧ s.chip.awake = true ∧ f.fcsOk = true ∧ f.toUs = true ∧ f.crcOk = true ∧ f.ver = 1#8 ∧ f.etherType =
    (s.chip.trunk.lanes[l]).etherType ∧ f.etherType ≠ 0x88F7#16 ∧ f.length.toNat ≤ s.chip.payloadMax ∧ f.length.toNat ≤ f.payload.length ∧ (f.typ =
    1#8 ∨ f.typ = 4#8 ∨ f.typ = 5#8) ∧ rxFits f l = true ∧ s.chip.offActive l = false ∧ rxGap f = false ∧ x.last = some (f.seq - 1#32) ∧ x.buf = []) ∧
  (∃ s : State, ∃ l : LaneId, ∃ f : RxFrame, Canon s.chip ∧ s.chip.up l = true ∧ s.chip.awake = true ∧ f.fcsOk = false ∧ f.etherType ≠ 0x88F7#16) ∧
  (∃ s : State, ∃ d : Door, ∃ m, ∃ f, ∃ c₁, Canon s.chip ∧ s.chip.takeDelivered (fun _ f => f.typ.toNat == ttMBX_REQ && f.id.toNat == d.val) = some
    ((m, f), c₁) ∧ s.chip.awake = true ∧ (s.chip.doors[d]).path = some .trunk ∧ (s.chip.doors[d]).releasing = none ∧ (s.chip.doors[d]).reqs.length <
    256 ∧ (parseRequest f.payload).opcode ≠ opDOOR_CLAIM ∧ s.chip.checkEpochs d (parseRequest f.payload) (some f.epoch) true = none ∧
    s.chip.pond.grants = [] ∧ (s.chip.modeChange? (parseRequest f.payload) = none ∨ (s.chip.pond.waiters = [] ∧ s.chip.pond.refused = []))) ∧
  (∃ s : State, ∃ id : BitVec 16, ∃ m, ∃ f, ∃ c₁, ∃ st, Canon s.chip ∧ s.chip.takeDelivered (fun _ f => f.typ.toNat == ttSTREAM && f.id == id) = some
    ((m, f), c₁) ∧ s.chip.svc.streams.find? (fun x => x.id == id) = some st ∧ s.chip.awake = true ∧ s.chip.inTarn = false ∧ s.chip.strmStopped id =
    false ∧ st.closed = false ∧ f.epoch = (s.chip.ports[st.port]).epoch ∧ serial (BitVec.ofNat 32 (st.received + f.length.toNat)) st.credit ≠ .ahead) ∧
  (∃ s : State, ∃ l : LaneId, ∃ m, ∃ f, ∃ c₁, Canon s.chip ∧ s.chip.takeLane l lfSWAP_REQ = some ((m, f), c₁) ∧ s.chip.up l = true ∧
    s.chip.swapVerdict (leAt f.payload 1 1) = 0 ∧ s.chip.degraded (Fin.ofNat 2 (leAt f.payload 1 1)) = false) ∧
  (∃ s : State, ∃ l : LaneId, ∃ m, ∃ f, ∃ c₁, ∃ w, Canon s.chip ∧ s.chip.takeLane l lfSWAP_ACK = some ((m, f), c₁) ∧ s.chip.trunk.swap = some w ∧
    leAt f.payload 4 4 = w.seq.toNat ∧ (leAt f.payload 2 1 ≠ 0 ∨ s.chip.degraded w.lane = false)) ∧
  (∃ s : State, ∃ l : LaneId, ∃ m, ∃ f, ∃ c₁, Canon s.chip ∧ s.chip.takeLane l lfECHO_REPLY = some ((m, f), c₁) ∧ (s.chip.sei.time - BitVec.ofNat 64
    (leAt f.payload 8 8)).toNat ≤ s.chip.get .TRK_CFG2 F.TRK_CFG2_LAT_WARN) ∧
  (∃ s : State, ∃ l : LaneId, ∃ m, ∃ f, ∃ c₁, Canon s.chip ∧ s.chip.takeDelivered (fun x f => x == l && f.typ.toNat == ttWAKE) = some ((m, f), c₁) ∧
    s.chip.awake = true ∧ s.chip.wakeKey f = true) :=
  ⟨⟨(at_ live), 0, (frame 6#8 0#16 0#32 (leBytes 1 2 ++ List.replicate 15 0#8)), canon (by decide +kernel), by decide +kernel⟩,
  ⟨(at_ (live.updTrunk (fun k => { k with rx := [⟨3, 0, some 4#32, []⟩] }))), 0, (frame 5#8 0#16 5#32 (List.replicate 12 1#8)), (((at_ (live.updTrunk
    (fun k => { k with rx := [⟨3, 0, some 4#32, []⟩] }))).chip.trunk.rx.find? (fun y => y.cls == (rxSpace (frame 5#8 0#16 5#32 (List.replicate 12
    1#8))).1 && y.id == (rxSpace (frame 5#8 0#16 5#32 (List.replicate 12 1#8))).2)).get (by decide +kernel)), canon (by decide +kernel),
    (Option.some_get (by decide +kernel)).symm, by decide +kernel⟩,
  ⟨(at_ live), 1, ({ frame 5#8 0#16 5#32 [] with fcsOk := false }), canon (by decide +kernel), by decide +kernel⟩,
  ⟨(at_ (got 0 (frame 1#8 0#16 0#32 (leBytes 2 0x0104 ++ List.replicate 62 0#8)) (held0 .trunk live))), (0 : Door), (((at_ (got 0 (frame 1#8 0#16
    0#32 (leBytes 2 0x0104 ++ List.replicate 62 0#8)) (held0 .trunk live))).chip.takeDelivered (fun _ f => f.typ.toNat == ttMBX_REQ && f.id.toNat ==
    (0 : Door).val)).get (by decide +kernel)).1.1, (((at_ (got 0 (frame 1#8 0#16 0#32 (leBytes 2 0x0104 ++ List.replicate 62 0#8)) (held0 .trunk
    live))).chip.takeDelivered (fun _ f => f.typ.toNat == ttMBX_REQ && f.id.toNat == (0 : Door).val)).get (by decide +kernel)).1.2, (((at_ (got 0
    (frame 1#8 0#16 0#32 (leBytes 2 0x0104 ++ List.replicate 62 0#8)) (held0 .trunk live))).chip.takeDelivered (fun _ f => f.typ.toNat == ttMBX_REQ
    && f.id.toNat == (0 : Door).val)).get (by decide +kernel)).2, canon (by decide +kernel), (Option.some_get (by decide +kernel)).symm, by
    decide +kernel⟩,
  ⟨(at_ ((got 0 (frame 4#8 3#16 0#32 [1#8, 2#8]) live).updSvc (fun k => { k with streams := [strm0] }))), 3#16, (((at_ ((got 0 (frame 4#8 3#16 0#32
    [1#8, 2#8]) live).updSvc (fun k => { k with streams := [strm0] }))).chip.takeDelivered (fun _ f => f.typ.toNat == ttSTREAM && f.id == 3#16)).get
    (by decide +kernel)).1.1, (((at_ ((got 0 (frame 4#8 3#16 0#32 [1#8, 2#8]) live).updSvc (fun k => { k with streams := [strm0] }))).chip.takeDelivered
    (fun _ f => f.typ.toNat == ttSTREAM && f.id == 3#16)).get (by decide +kernel)).1.2, (((at_ ((got 0 (frame 4#8 3#16 0#32 [1#8, 2#8]) live).updSvc
    (fun k => { k with streams := [strm0] }))).chip.takeDelivered (fun _ f => f.typ.toNat == ttSTREAM && f.id == 3#16)).get (by decide +kernel)).2,
    (((at_ ((got 0 (frame 4#8 3#16 0#32 [1#8, 2#8]) live).updSvc (fun k => { k with streams := [strm0] }))).chip.svc.streams.find? (fun x => x.id ==
    3#16)).get (by decide +kernel)), canon (by decide +kernel), (Option.some_get (by decide +kernel)).symm, (Option.some_get (by
    decide +kernel)).symm, by decide +kernel⟩,
  ⟨(at_ (got 1 (frame 6#8 1#16 0#32 [2#8, 1#8, 0#8, 0#8]) (fields live [(.TRK_CTL, F.TRK_CTL_MODE, 1)]))), 1, (((at_ (got 1 (frame 6#8 1#16 0#32
    [2#8, 1#8, 0#8, 0#8]) (fields live [(.TRK_CTL, F.TRK_CTL_MODE, 1)]))).chip.takeLane 1 lfSWAP_REQ).get (by decide +kernel)).1.1, (((at_ (got 1
    (frame 6#8 1#16 0#32 [2#8, 1#8, 0#8, 0#8]) (fields live [(.TRK_CTL, F.TRK_CTL_MODE, 1)]))).chip.takeLane 1 lfSWAP_REQ).get (by
    decide +kernel)).1.2, (((at_ (got 1 (frame 6#8 1#16 0#32 [2#8, 1#8, 0#8, 0#8]) (fields live [(.TRK_CTL, F.TRK_CTL_MODE, 1)]))).chip.takeLane 1
    lfSWAP_REQ).get (by decide +kernel)).2, canon (by decide +kernel), (Option.some_get (by decide +kernel)).symm, by decide +kernel⟩,
  ⟨(at_ ((got 0 (frame 6#8 0#16 0#32 [3#8, 0#8, 0#8, 0#8, 9#8, 0#8, 0#8, 0#8]) live).updTrunk (fun k => { k with swap := some ⟨1, 9#32, 10000000000001, none⟩ }))),
    0, (((at_ ((got 0 (frame 6#8 0#16 0#32 [3#8, 0#8, 0#8, 0#8, 9#8, 0#8, 0#8, 0#8]) live).updTrunk (fun k => { k with swap := some ⟨1, 9#32, 10000000000001, none⟩ }))).chip.takeLane
    0 lfSWAP_ACK).get (by decide +kernel)).1.1, (((at_ ((got 0 (frame 6#8 0#16 0#32 [3#8, 0#8, 0#8, 0#8, 9#8, 0#8, 0#8, 0#8]) live).updTrunk (fun k
    => { k with swap := some ⟨1, 9#32, 10000000000001, none⟩ }))).chip.takeLane 0 lfSWAP_ACK).get (by decide +kernel)).1.2, (((at_ ((got 0 (frame 6#8
    0#16 0#32 [3#8, 0#8, 0#8, 0#8, 9#8, 0#8, 0#8, 0#8]) live).updTrunk (fun k => { k with swap := some ⟨1, 9#32, 10000000000001, none⟩ }))).chip.takeLane
    0 lfSWAP_ACK).get (by decide +kernel)).2, (((at_ ((got 0 (frame 6#8 0#16 0#32 [3#8, 0#8, 0#8, 0#8, 9#8, 0#8, 0#8, 0#8]) live).updTrunk (fun k =>
    { k with swap := some ⟨1, 9#32, 10000000000001, none⟩ }))).chip.trunk.swap).get (by decide +kernel)), canon (by decide +kernel), (Option.some_get
    (by decide +kernel)).symm, (Option.some_get (by decide +kernel)).symm, by decide +kernel⟩,
  ⟨(at_ (got 0 (frame 6#8 0#16 0#32 (7#8 :: List.replicate 7 0#8 ++ leBytes 8 1600000000)) live)), 0, (((at_ (got 0 (frame 6#8 0#16 0#32 (7#8 ::
    List.replicate 7 0#8 ++ leBytes 8 1600000000)) live)).chip.takeLane 0 lfECHO_REPLY).get (by decide +kernel)).1.1, (((at_ (got 0 (frame 6#8 0#16
    0#32 (7#8 :: List.replicate 7 0#8 ++ leBytes 8 1600000000)) live)).chip.takeLane 0 lfECHO_REPLY).get (by decide +kernel)).1.2, (((at_ (got 0
    (frame 6#8 0#16 0#32 (7#8 :: List.replicate 7 0#8 ++ leBytes 8 1600000000)) live)).chip.takeLane 0 lfECHO_REPLY).get (by decide +kernel)).2,
    canon (by decide +kernel), (Option.some_get (by decide +kernel)).symm, by decide +kernel⟩,
  ⟨(at_ (got 0 (frame 7#8 0#16 0#32 [0#8, 0#8, 0#8, 0#8]) live)), 0, (((at_ (got 0 (frame 7#8 0#16 0#32 [0#8, 0#8, 0#8, 0#8])
    live)).chip.takeDelivered (fun x f => x == 0 && f.typ.toNat == ttWAKE)).get (by decide +kernel)).1.1, (((at_ (got 0 (frame 7#8 0#16 0#32 [0#8,
    0#8, 0#8, 0#8]) live)).chip.takeDelivered (fun x f => x == 0 && f.typ.toNat == ttWAKE)).get (by decide +kernel)).1.2, (((at_ (got 0 (frame 7#8
    0#16 0#32 [0#8, 0#8, 0#8, 0#8]) live)).chip.takeDelivered (fun x f => x == 0 && f.typ.toNat == ttWAKE)).get (by decide +kernel)).2, canon (by
    decide +kernel), (Option.some_get (by decide +kernel)).symm, by decide +kernel⟩⟩

/-- The hypotheses of each clause of `Obligations.TrunkPtp` are met. -/
theorem witness_TrunkPtp :
  (∃ s : State, ∃ l : LaneId, s.chip.ptpOn l = true ∧ s.chip.ptpDue (s.chip.trunk.lanes[l]).syncAt s.chip.syncSpan = true) ∧
  (∃ s : State, ∃ l : LaneId, s.chip.ptpOn l = true ∧ s.chip.trunk.ptpPaused = false ∧ s.chip.ptpDue (s.chip.trunk.lanes[l]).annAt (sec 1 * 2 ^
    s.chip.get .PTP_CTL F.PTP_CTL_ANN_LOG) = true) ∧
  (∃ s : State, ∃ l : LaneId, ∃ dom : Byte, s.chip.ptpOn l = true ∧ s.chip.trunk.ptpPaused = false ∧ dom.toNat = s.chip.ptpDomain ∧
    ((s.chip.trunk.lanes[l]).delayReqs < 1024 ∨ (s.chip.trunk.lanes[l]).delayFrom + sec 1 ≤ s.chip.clk.now)) ∧
  (∃ s : State, ∃ l : LaneId, ∃ id : BitVec 64, id ≠ clockIdentity ∧ s.chip.up l = true ∧ s.chip.awake = true ∧ s.chip.rates.find? (fun w => w.code
    == 0x014B && w.src == 0) = none) ∧
  (∃ s : State, s.chip.awake = true ∧ s.chip.sei.running = true ∧ s.chip.sei.time.toNat % 1600000 = 0) :=
  ⟨⟨(at_ (fields live [(.PTP_CTL, F.PTP_CTL_PTP_EN, 1)])), (1 : LaneId), by decide +kernel⟩,
  ⟨(at_ (fields live [(.PTP_CTL, F.PTP_CTL_PTP_EN, 1)])), 1, by decide +kernel⟩,
  ⟨(at_ ((fields live [(.PTP_CTL, F.PTP_CTL_PTP_EN, 1)]).updTrunk (fun k => { k with lanes := k.lanes.map (fun x => { x with delayReqs := 1023 }) }))),
    0, (BitVec.ofNat 8 (at_ ((fields live [(.PTP_CTL, F.PTP_CTL_PTP_EN, 1)]).updTrunk (fun k => { k with lanes := k.lanes.map (fun x => { x with delayReqs := 1023 }) }))).chip.ptpDomain),
    by decide +kernel⟩,
  ⟨(at_ (held0 .trunk live)), 0, (~~~clockIdentity), not_self _, by decide +kernel⟩,
  ⟨(at_ live), by decide +kernel⟩⟩

/-- The hypotheses of each clause of `Obligations.TrunkLanes` are met. -/
theorem witness_TrunkLanes :
  (∃ s : State, ∃ l : LaneId, Canon s.chip ∧ s.chip.up l = false ∧ s.chip.laneEn l = true ∧ (s.chip.trunk.lanes[l]).held = false ∧ s.chip.noPll =
    false ∧ s.chip.pwr.st ≠ .deep ∧ s.chip.pwr.st ≠ .off) ∧
  (∃ s : State, ∃ l : LaneId, Canon s.chip ∧ s.chip.up l = true) ∧
  (∃ s : State, ∃ l, ∃ a, Canon s.chip ∧ s.chip.trunk.failover = some (l, a) ∧ s.chip.up (otherLane l) = true) ∧
  (∃ s : State, ∃ l : LaneId, ∃ t, Canon s.chip ∧ s.chip.awake = true ∧ s.chip.inTarn = false ∧ (s.chip.trunk.lanes[l]).backAt = some t ∧ t ≤
    s.chip.clk.now) ∧
  (∃ s : State, ∃ l : LaneId, ∃ n : Nat, ∃ e : Bool, Canon s.chip ∧ s.chip.up l = true ∧ s.chip.awake = true ∧ (16 ≤
    ((s.chip.trunk.lanes[l]).crcAt.filter (fun t => t + n ≤ s.chip.clk.now ∧ s.chip.clk.now < t + n + ms 1)).length ∨ e = true)) ∧
  (∃ s : State, ∃ l : LaneId, ∃ t, Canon s.chip ∧ (s.chip.trunk.lanes[l]).healthyAt = some t ∧ t ≤ s.chip.clk.now) ∧
  (∃ s : State, ∃ w, Canon s.chip ∧ s.chip.trunk.swap = some w ∧ w.deadline ≤ s.chip.clk.now) ∧
  (∃ s : State, ∃ k : Nat, ∃ id : BitVec 16, ∃ x, ∃ t, ∃ z, ∃ y, ∃ r, Canon s.chip ∧ s.chip.trunk.rx.find? (fun x => x.cls == k && x.id == id.toNat)
    = some x ∧ x.last = some z ∧ x.buf = y :: r ∧ x.oldest = some t ∧ t + us (s.chip.get .TRK_CFG2 F.TRK_CFG2_REORDER_HOLD) ≤ s.chip.clk.now) ∧
  (∃ s : State, ∃ t, Canon s.chip ∧ s.chip.trunk.laneBy = some t ∧ t ≤ s.chip.clk.now ∧ s.chip.up 0 = false ∧ s.chip.up 1 = false) :=
  ⟨⟨(at_ (fields live [(.TRK_STATUS, F.TRK_STATUS_UP_TB, 0)])), 1, canon (by decide +kernel), by decide +kernel⟩,
  ⟨(at_ live), 1, canon (by decide +kernel), by decide +kernel⟩,
  ⟨(at_ (live.updTrunk (fun k => { k with failover := some (0, 9) }))), (0 : LaneId), 9, canon (by decide +kernel), by decide +kernel⟩,
  ⟨(at_ (live.updLane 1 (fun x => { x with backAt := some 10000000000000 }))), 1, 10000000000000, canon (by decide +kernel), by decide +kernel⟩,
  ⟨(at_ (live.updLane 0 (fun x => { x with crcAt := List.replicate 16 9999999999999 }))), 0, 0, false, canon (by decide +kernel), by decide +kernel⟩,
  ⟨(at_ (live.updLane 0 (fun x => { x with healthyAt := some 10000000000000 }))), 0, 10000000000000, canon (by decide +kernel), by decide +kernel⟩,
  ⟨(at_ (live.updTrunk (fun k => { k with swap := some ⟨1, 9#32, 10000000000000, none⟩ }))), (((at_ (live.updTrunk (fun k => { k with swap := some ⟨1, 9#32, 10000000000000, none⟩ }))).chip.trunk.swap).get
    (by decide +kernel)), canon (by decide +kernel), (Option.some_get (by decide +kernel)).symm, by decide +kernel⟩,
  ⟨(at_ (live.updTrunk (fun k => { k with rx := [⟨0, 2, some 4#32, [(9999999000000, 0, frame 1#8 2#16 7#32 [])]⟩] }))), 0, 2#16, (((at_
    (live.updTrunk (fun k => { k with rx := [⟨0, 2, some 4#32, [(9999999000000, 0, frame 1#8 2#16 7#32 [])]⟩] }))).chip.trunk.rx.find? (fun x =>
    x.cls == 0 && x.id == (2#16).toNat)).get (by decide +kernel)), 9999999000000, (((((at_ (live.updTrunk (fun k => { k with rx := [⟨0, 2, some 4#32, [(9999999000000, 0, frame 1#8 2#16 7#32 [])]⟩] }))).chip.trunk.rx.find?
    (fun x => x.cls == 0 && x.id == (2#16).toNat)).get (by decide +kernel)).last).get (by decide +kernel)), (((((at_ (live.updTrunk (fun k => { k with rx := [⟨0, 2, some 4#32, [(9999999000000, 0, frame 1#8 2#16 7#32 [])]⟩] }))).chip.trunk.rx.find?
    (fun x => x.cls == 0 && x.id == (2#16).toNat)).get (by decide +kernel)).buf).head (by decide +kernel)), (((((at_ (live.updTrunk (fun k => { k with rx := [⟨0, 2, some 4#32, [(9999999000000, 0, frame 1#8 2#16 7#32 [])]⟩] }))).chip.trunk.rx.find?
    (fun x => x.cls == 0 && x.id == (2#16).toNat)).get (by decide +kernel)).buf).tail), canon (by decide +kernel), (Option.some_get (by
    decide +kernel)).symm, (Option.some_get (by decide +kernel)).symm, (List.cons_head_tail (by decide +kernel)).symm, by decide +kernel⟩,
  ⟨(at_ ((fields live [(.TRK_STATUS, F.TRK_STATUS_UP_TA, 0), (.TRK_STATUS, F.TRK_STATUS_UP_TB, 0)]).updTrunk (fun k => { k with laneBy := some 10000000000000 }))),
    10000000000000, canon (by decide +kernel), by decide +kernel⟩⟩

/-- The hypotheses of each clause of `Obligations.TrunkSending` are met. -/
theorem witness_TrunkSending :
  (∃ s : State, ∃ l, Canon s.chip ∧ s.chip.trunk.replay = some l ∧ s.chip.awake = true ∧ s.chip.hasDest l = true) ∧
  (∃ s : State, ∃ d : Door, Canon s.chip ∧ (s.chip.doors[d]).path = some .trunk ∧ (s.chip.doors[d]).sent < (s.chip.doors[d]).evts.length ∧
    s.chip.canSend 1 d.val = true) ∧
  (∃ s : State, ∃ d : Door, Canon s.chip ∧ oneResponse (s.chip.payloadMax / 64) ((s.chip.doors[d]).rsps.filter (fun p => p.path == .trunk)) ≠ [] ∧
    s.chip.canSend 0 d.val = true ∧ s.chip.doorStall = false) ∧
  (∃ s : State, ∃ id : BitVec 16, ∃ st, Canon s.chip ∧ s.chip.svc.streams.find? (fun x => x.id == id) = some st ∧ st.closed = false ∧ s.chip.canSend
    2 id.toNat = true ∧ (s.chip.strmNeed st = 0 ∨ (s.chip.strmTurn id).isSome = true)) ∧
  (∃ s : State, ∃ q : ReqId, ∃ e, Canon s.chip ∧ Startable s.chip q 0x0140#16 [0, 4] e) ∧
  (∃ s : State, ∃ q : ReqId, ∃ e, ∃ sy : Int, ∃ an : Nat, ∃ pr : Nat, Canon s.chip ∧ Startable s.chip q 0x0143#16 [0, 4] e ∧ -4 ≤ sy ∧ sy ≤ 0 ∧ an ≤
    3 ∧ pr ≤ 255) ∧
  (∃ s : State, ∃ q : ReqId, ∃ e, Canon s.chip ∧ Startable s.chip q 0x0142#16 [0, 4] e ∧ s.chip.swapOk = true ∧ s.chip.trunk.swap = none) ∧
  (∃ s : State, ∃ q : ReqId, ∃ e, Canon s.chip ∧ Startable s.chip q 0x0142#16 [0, 4] e ∧ s.chip.swapOk = true ∧ s.chip.trunk.swap.isSome = true) ∧
  (∃ s : State, ∃ q : ReqId, ∃ e, Canon s.chip ∧ Startable s.chip q 0x0142#16 [0, 4] e ∧ s.chip.swapOk = false) :=
  ⟨⟨(at_ (live.updTrunk (fun k => { k with replay := some 1 }))), 1, canon (by decide +kernel), by decide +kernel⟩,
  ⟨(at_ ((held0 .trunk live).updDoor 0 (fun x => { x with evts := [{ code := 0x0145 }] }))), (0 : Door), canon (by decide +kernel), by
    decide +kernel⟩,
  ⟨(at_ ((held0 .trunk live).updDoor 0 (fun x => { x with rsps := [part0] }))), (0 : Door), canon (by decide +kernel), by decide +kernel⟩,
  ⟨(at_ (live.updSvc (fun k => { k with streams := [{ strm0 with recs := [{ rec0 with st := .closed }] }] }))), 3#16, (((at_ (live.updSvc (fun k => { k with streams := [{ strm0 with recs := [{ rec0 with st := .closed }] }] }))).chip.svc.streams.find?
    (fun x => x.id == 3#16)).get (by decide +kernel)), canon (by decide +kernel), (Option.some_get (by decide +kernel)).symm, by decide +kernel⟩,
  ⟨(at_ (ask 0x0140#16 0 0 live)), q0, (entry 0x0140#16 0 0), canon (by decide +kernel), start (by decide +kernel)⟩,
  ⟨(at_ (ask 0x0143#16 0 0 live)), q0, (entry 0x0143#16 0 0), (-4), 3, 255, canon (by decide +kernel), start (by decide +kernel), by decide +kernel⟩,
  ⟨(at_ (ask 0x0142#16 0 0 (fields live [(.TRK_CTL, F.TRK_CTL_MODE, 1)]))), q0, (entry 0x0142#16 0 0), canon (by decide +kernel), start (by
    decide +kernel), by decide +kernel⟩,
  ⟨(at_ (ask 0x0142#16 0 0 ((fields live [(.TRK_CTL, F.TRK_CTL_MODE, 1)]).updTrunk (fun k => { k with swap := some ⟨1, 9#32, 10000000000001, none⟩ })))),
    q0, (entry 0x0142#16 0 0), canon (by decide +kernel), start (by decide +kernel), by decide +kernel⟩,
  ⟨(at_ (ask 0x0142#16 0 0 live)), q0, (entry 0x0142#16 0 0), canon (by decide +kernel), start (by decide +kernel), by decide +kernel⟩⟩

/-- The hypotheses of each clause of `Obligations.DoorUpkeep` are met. -/
theorem witness_DoorUpkeep :
  (∃ s : State, ∃ d : Door, s.chip.leaseDue d = true ∧ (s.chip.doors[d]).executing = 0) ∧
  (∃ s : State, ∃ d : Door, s.chip.leaseDue d = true ∧ (s.chip.doors[d]).executing ≠ 0) ∧
  (∃ s : State, ∃ k : Nat, ∃ n : Nat, ∃ w, ∃ e, s.chip.rates.find? (fun w => w.code == k && w.src == n) = some w ∧ w.held = some e ∧ w.ends ≤
    s.chip.clk.now) ∧
  (∃ s : State, ∃ k : Nat, ∃ n : Nat, ∃ w, s.chip.rates.find? (fun w => w.code == k && w.src == n) = some w ∧ w.ends ≤ s.chip.clk.now ∧ w.held =
    none) ∧
  (∃ s : State, ∃ d : Door, ∃ b : List Byte, s.chip.svcLive = true ∧ b.length = 64 ∧ (parseRequest b).opcode ≠ opDOOR_CLAIM ∧ (s.chip.doors[d]).path
    = some .svc ∧ (s.chip.doors[d]).releasing = none ∧ (s.chip.doors[d]).reqs.length < 256 ∧ s.chip.checkEpochs d (parseRequest b) none true = none ∧
    s.chip.pond.grants = [] ∧ (s.chip.modeChange? (parseRequest b) = none ∨ (s.chip.pond.waiters = [] ∧ s.chip.pond.refused = []))) ∧
  (∃ s : State, ∃ d, s.chip.svcLive = true ∧ s.chip.svcEventDue = some d) ∧
  (∃ s : State, ∃ t, s.chip.awake = true ∧ s.chip.svcPort.rwake = true ∧ s.chip.svcPort.driving = none ∧ s.chip.svcPort.suspendedAt = some t ∧ t + ms
    5 ≤ s.chip.clk.now ∧ s.chip.svcEventDue.isSome = true) ∧
  (∃ s : State, s.chip.svcPort.suspendedAt.isSome = true) ∧
  (∃ s : State, s.chip.svcPort.suspendedAt = none) ∧
  (∃ s : State, ∃ a, s.chip.awake = true ∧ s.chip.clk.boot ≠ .held ∧ a ≤ 127) ∧
  (∃ s : State, ∃ k, s.chip.awake = true ∧ s.chip.clk.boot ≠ .held ∧ k ≤ 1 ∧ s.chip.svcPort.address ≠ 0) ∧
  (∃ s : State, s.chip.awake = true ∧ s.chip.clk.boot ≠ .held ∧ s.chip.svcPort.config ≠ 0) ∧
  (∃ s : State, s.chip.awake = true ∧ s.chip.clk.boot ≠ .held ∧ s.chip.svcPort.config ≠ 0) :=
  ⟨⟨(at_ (fields (held0 .trunk live) [(.MBX_CTL, F.MBX_CTL_LEASE, 60)])), 0, by decide +kernel⟩,
  ⟨(at_ ((fields (held0 .trunk live) [(.MBX_CTL, F.MBX_CTL_LEASE, 60)]).updDoor 0 (fun x => { x with reqs := [{ entry 0x0101#16 0 0 with st := .executing }] }))),
    0, by decide +kernel⟩,
  ⟨(at_ ({held0 .trunk live with rates := [⟨0x0145, 3, 5, 10000000000000, some { code := 0x0145 }, 1, none, .subs⟩]})), 0x0145, 3, (((at_ ({held0 .trunk live with rates := [⟨0x0145, 3, 5, 10000000000000, some { code := 0x0145 }, 1, none, .subs⟩]})).chip.rates.find?
    (fun w => w.code == 0x0145 && w.src == 3)).get (by decide +kernel)), (((((at_ ({held0 .trunk live with rates := [⟨0x0145, 3, 5, 10000000000000, some { code := 0x0145 }, 1, none, .subs⟩]})).chip.rates.find?
    (fun w => w.code == 0x0145 && w.src == 3)).get (by decide +kernel)).held).get (by decide +kernel)), (Option.some_get (by decide +kernel)).symm,
    (Option.some_get (by decide +kernel)).symm, by decide +kernel⟩,
  ⟨(at_ ({live with rates := [⟨0x0145, 3, 5, 10000000000000, none, 0, none, .subs⟩]})), 0x0145, 3, (((at_ ({live with rates := [⟨0x0145, 3, 5, 10000000000000, none, 0, none, .subs⟩]})).chip.rates.find?
    (fun w => w.code == 0x0145 && w.src == 3)).get (by decide +kernel)), (Option.some_get (by decide +kernel)).symm, by decide +kernel⟩,
  ⟨(at_ (held0 .svc {live with svcPort := { address := 5, config := 1 }})), 0, (leBytes 2 0x0104 ++ List.replicate 62 0#8), by decide +kernel⟩,
  ⟨(at_ ((held0 .svc {live with svcPort := { address := 5, config := 1 }}).updDoor 0 (fun x => { x with evts := [{ code := 0x0145 }] }))), 0, by
    decide +kernel⟩,
  ⟨(at_ ((held0 .svc {live with svcPort := { address := 5, config := 1, rwake := true, suspendedAt := some (10000000000000 - ms 5) }}).updDoor 0 (fun
    x => { x with evts := [{ code := 0x0145 }] }))), (10000000000000 - ms 5), by decide +kernel⟩,
  ⟨(at_ ({live with svcPort := { suspendedAt := some 4 }})), by decide +kernel⟩,
  ⟨(at_ live), by decide +kernel⟩,
  ⟨(at_ live), 127, by decide +kernel⟩,
  ⟨(at_ ({live with svcPort := { address := 5, config := 1 }})), 1, by decide +kernel⟩,
  ⟨(at_ ({live with svcPort := { address := 5, config := 1 }})), by decide +kernel⟩,
  ⟨(at_ ({live with svcPort := { address := 5, config := 1 }})), by decide +kernel⟩⟩

/-- The hypotheses of each clause of `Obligations.DoorRequests` are met. -/
theorem witness_DoorRequests :
  (∃ s : State, ∃ q : ReqId, ∃ e, Startable s.chip q opDOOR_CLAIM [0, 4] e ∧ (s.chip.doors[q.door]).path = none ∧ s.chip.claimBar e.path q.door =
    none) ∧
  (∃ s : State, ∃ q : ReqId, ∃ e, ∃ h, Startable s.chip q opDOOR_CLAIM [0, 4] e ∧ s.chip.claimBar e.path q.door = some h) ∧
  (∃ s : State, ∃ q : ReqId, ∃ e, Startable s.chip q 0x0103#16 [0, 4] e ∧ (s.chip.doors[q.door]).path.isSome = true ∧
    (s.chip.doors[q.door]).executing = 0) ∧
  (∃ s : State, ∃ q : ReqId, ∃ e, Startable s.chip q 0x0103#16 [0, 4] e ∧ (s.chip.doors[q.door]).path.isSome = true ∧
    (s.chip.doors[q.door]).executing ≠ 0) ∧
  (∃ s : State, ∃ q : ReqId, ∃ e, Startable s.chip q 0x0104#16 [0, 4] e) ∧
  (∃ s : State, ∃ q : ReqId, ∃ e, Startable s.chip q 0x0105#16 [0, 4] e) ∧
  (∃ s : State, ∃ q : ReqId, ∃ e, ∃ k : Nat, Startable s.chip q 0x0106#16 [0, 4] e ∧ k ≤ 48) ∧
  (∃ s : State, ∃ q : ReqId, ∃ e, Startable s.chip q 0x0107#16 [0, 4] e) ∧
  (∃ s : State, ∃ q : ReqId, ∃ e, ∃ k : Nat, Startable s.chip q 0x0108#16 [0, 4] e ∧ k ≤ 24) ∧
  (∃ s : State, ∃ q : ReqId, ∃ e, ∃ k : Nat, Startable s.chip q 0x0108#16 [0, 4] e ∧ k ≤ 24) ∧
  (∃ s : State, ∃ q : ReqId, ∃ e, ∃ n : Nat, ∃ i : Nat, ∃ k : Nat, Startable s.chip q 0x0109#16 [0, 4] e ∧ k ≤ 24 ∧ namesTarget n i = true) :=
  ⟨⟨(at_ ({ask opDOOR_CLAIM 0 0 live with doors := (ask opDOOR_CLAIM 0 0 live).doors.map (fun x => { x with path := none })})), q0, (entry
    opDOOR_CLAIM 0 0), start (by decide +kernel), by decide +kernel⟩,
  ⟨(at_ (ask opDOOR_CLAIM 0 0 live)), q0, (entry opDOOR_CLAIM 0 0), 0, start (by decide +kernel), by decide +kernel⟩,
  ⟨(at_ (ask 0x0103#16 0 0 live)), q0, (entry 0x0103#16 0 0), start (by decide +kernel), by decide +kernel⟩,
  ⟨(at_ ((ask 0x0103#16 0 0 live).updDoor 0 (fun d => { d with reqs := d.reqs ++ [{ entry 0x0101#16 0 0 with ord := 6, st := .executing }] }))), q0,
    (entry 0x0103#16 0 0), start (by decide +kernel), by decide +kernel⟩,
  ⟨(at_ (ask 0x0104#16 0 0 live)), q0, (entry 0x0104#16 0 0), start (by decide +kernel)⟩,
  ⟨(at_ (ask 0x0105#16 0 0 live)), q0, (entry 0x0105#16 0 0), start (by decide +kernel)⟩,
  ⟨(at_ (ask 0x0106#16 0 0 live)), q0, (entry 0x0106#16 0 0), 48, start (by decide +kernel), by decide +kernel⟩,
  ⟨(at_ (ask 0x0107#16 0 0 live)), q0, (entry 0x0107#16 0 0), start (by decide +kernel)⟩,
  ⟨(at_ (ask 0x0108#16 0 0 live)), q0, (entry 0x0108#16 0 0), 24, start (by decide +kernel), by decide +kernel⟩,
  ⟨(at_ (ask 0x0108#16 0 0 live)), q0, (entry 0x0108#16 0 0), 24, start (by decide +kernel), by decide +kernel⟩,
  ⟨(at_ (ask 0x0109#16 0 0 live)), q0, (entry 0x0109#16 0 0), 1, 95, 24, start (by decide +kernel), by decide +kernel⟩⟩

/-- The hypotheses of each clause of `Obligations.DoorInformation` are met. -/
theorem witness_DoorInformation :
  (∃ s : State, ∃ q : ReqId, ∃ e, Canon s.chip ∧ Startable s.chip q 0x0101#16 [0, 4] e) ∧
  (∃ s : State, ∃ q : ReqId, ∃ e, ∃ b : Nat, Canon s.chip ∧ Startable s.chip q 0x010A#16 [0, 4] e ∧ b < 16) ∧
  (∃ s : State, ∃ q : ReqId, ∃ e, Canon s.chip ∧ Startable s.chip q 0x0141#16 [0, 4] e ∧ s.chip.laneEn 0 = true ∧ s.chip.laneEn 1 = true) ∧
  (∃ s : State, ∃ q : ReqId, ∃ e, Canon s.chip ∧ Startable s.chip q 0x0141#16 [0, 4] e ∧ (s.chip.laneEn 0 = false ∨ s.chip.laneEn 1 = false)) ∧
  (∃ s : State, ∃ q : ReqId, ∃ e, Canon s.chip ∧ Startable s.chip q 0x0180#16 [0] e) ∧
  (∃ s : State, ∃ q : ReqId, ∃ e, ∃ x : Engine, Canon s.chip ∧ Startable s.chip q 0x0181#16 [0] e ∧ (s.chip.engines[x]).quar = true) ∧
  (∃ s : State, ∃ q : ReqId, ∃ e, ∃ x : Engine, Canon s.chip ∧ Startable s.chip q 0x0181#16 [0] e ∧ (s.chip.engines[x]).quar = true) :=
  ⟨⟨(at_ (ask 0x0101#16 0 0 live)), q0, (entry 0x0101#16 0 0), canon (by decide +kernel), start (by decide +kernel)⟩,
  ⟨(at_ (ask 0x010A#16 0 0 live)), q0, (entry 0x010A#16 0 0), 15, canon (by decide +kernel), start (by decide +kernel), by decide +kernel⟩,
  ⟨(at_ (ask 0x0141#16 0 0 live)), q0, (entry 0x0141#16 0 0), canon (by decide +kernel), start (by decide +kernel), by decide +kernel⟩,
  ⟨(at_ (ask 0x0141#16 0 0 (fields live [(.TRK_CTL, F.TRK_CTL_LANE_EN_TB, 0)]))), q0, (entry 0x0141#16 0 0), canon (by decide +kernel), start (by
    decide +kernel), by decide +kernel⟩,
  ⟨(at_ (ask 0x0180#16 0 0 live)), q0, (entry 0x0180#16 0 0), canon (by decide +kernel), start (by decide +kernel)⟩,
  ⟨(at_ (ask 0x0181#16 0 0 (live.updEng 511 (fun x => { x with quar := true })))), q0, (entry 0x0181#16 0 0), 511, canon (by decide +kernel), start
    (by decide +kernel), by decide +kernel⟩,
  ⟨(at_ (ask 0x0181#16 0 0 (live.updEng 511 (fun x => { x with quar := true })))), q0, (entry 0x0181#16 0 0), 511, canon (by decide +kernel), start
    (by decide +kernel), by decide +kernel⟩⟩

/-- The hypotheses of each clause of `Obligations.PowerStates` are met. -/
theorem witness_PowerStates :
  (∃ s : State, ∃ e, Canon s.chip ∧ s.chip.pwr.entry = some e ∧ s.chip.pond.grants = [] ∧ e.target ≠ .off ∧ e.step = 2 ∧ s.chip.quieted = true ∧
    s.chip.refuser true e.req = none) ∧
  (∃ s : State, ∃ e, Canon s.chip ∧ s.chip.pwr.entry = some e ∧ s.chip.pond.grants = [] ∧ e.target ≠ .off ∧ e.step = 3 ∧ s.chip.refuser true e.req =
    none) ∧
  (∃ s : State, ∃ e, ∃ k, Canon s.chip ∧ s.chip.pwr.entry = some e ∧ s.chip.pond.grants = [] ∧ e.target ≠ .off ∧ e.step = 3 ∧ s.chip.refuser true
    e.req = some k) ∧
  (∃ s : State, ∃ e, Canon s.chip ∧ s.chip.pwr.entry = some e ∧ s.chip.pond.grants = [] ∧ e.target = .sleep ∧ e.step = 4) ∧
  (∃ s : State, ∃ e, Canon s.chip ∧ s.chip.pwr.entry = some e ∧ s.chip.pond.grants = [] ∧ e.target ≠ .off ∧ e.step = 6) ∧
  (∃ s : State, ∃ e, Canon s.chip ∧ s.chip.pwr.entry = some e ∧ s.chip.pond.grants = [] ∧ e.target = .off ∧ e.step = 1 ∧ (e.req.all (fun q =>
    (s.chip.entry? q).isNone) = true ∨ s.chip.pwr.quietedAt + ms 20 ≤ s.chip.clk.now)) ∧
  (∃ s : State, ∃ e, Canon s.chip ∧ s.chip.pwr.entry = some e ∧ s.chip.pond.grants = [] ∧ e.target = .off ∧ e.step = 2 ∧ ((s.chip.bead.attestDue =
    false ∧ s.chip.bead.hsBusy = false) ∨ s.chip.pwr.quietedAt + ms 20 ≤ s.chip.clk.now)) ∧
  (∃ s : State, ∃ e, Canon s.chip ∧ s.chip.pwr.entry = some e ∧ s.chip.pond.grants = [] ∧ e.target = .off ∧ e.step = 3 ∧ (∀ d, s.chip.dieHears d =
    true ∧ (s.chip.fl[d]).writes = [])) ∧
  (∃ s : State, ∃ e, Canon s.chip ∧ s.chip.pwr.entry = some e ∧ s.chip.pond.grants = [] ∧ e.target = .off ∧ e.step = 4 ∧ s.chip.pwr.wake = none) ∧
  (∃ s : State, Canon s.chip ∧ s.chip.pond.grants = [] ∧ s.chip.awake = true ∧ s.chip.pwr.entry = none ∧ 1 ≤ s.chip.get .PWR_CTL F.PWR_CTL_STATE_MAX
    ∧ s.chip.fwQuiet = true ∧ s.chip.pwr.idleFrom + us (s.chip.getPos .PWR_TIMER_0 F.PWR_TIMER_0_IDLE_US) ≤ s.chip.clk.now) ∧
  (∃ s : State, Canon s.chip ∧ s.chip.pond.grants = [] ∧ s.chip.awake = true ∧ s.chip.pwr.sleepExp = false ∧ s.chip.bit .PWR_CTL F.PWR_CTL_AUTO =
    false ∧ s.chip.pwr.sleepFrom + sec (s.chip.getPos .PWR_TIMER_0 F.PWR_TIMER_0_SLEEP_S) ≤ s.chip.clk.now) ∧
  (∃ s : State, Canon s.chip ∧ s.chip.pond.grants = [] ∧ s.chip.awake = true ∧ s.chip.pwr.deepExp = false ∧ s.chip.bit .PWR_CTL F.PWR_CTL_AUTO = true
    ∧ s.chip.pwr.entry = none ∧ s.chip.pwr.exiting = false ∧ (s.chip.updPwr (fun p => { p with deepExp := true })).pwrTarget = some .deep ∧
    (s.chip.updPwr (fun p => { p with deepExp := true })).refuser false none = none ∧ s.chip.pwr.deepFrom + sec (s.chip.getPos .PWR_TIMER_1
    F.PWR_TIMER_1_DEEP_S) ≤ s.chip.clk.now) ∧
  (∃ s : State, Canon s.chip ∧ s.chip.pond.grants = []) ∧
  (∃ s : State, Canon s.chip ∧ s.chip.pond.grants = [] ∧ s.chip.pwr.st = .idle) ∧
  (∃ s : State, ∃ w : Fin 10, ∃ i : WakeInput, Canon s.chip ∧ s.chip.pond.grants = [] ∧ s.chip.wakeOn w.val i.index = true ∧ s.chip.wakeQualifies
    w.val i.index i.held = true ∧ s.chip.asleep = true ∧ s.chip.pwr.entry = none ∧ s.chip.pwr.wake = none ∧ s.chip.pwr.exiting = false ∧
    s.chip.clk.levels.contains (wakeNum w.val i.index) = false ∧ s.chip.clk.cross.any (fun x => x.block == cbAON && x.num == wakeNum w.val i.index &&
    x.busy s.chip.clk.now) = false) ∧
  (∃ s : State, ∃ w : Fin 10, ∃ i : WakeInput, Canon s.chip ∧ s.chip.pond.grants = [] ∧ s.chip.wakeOn w.val i.index = true ∧ i.held = true ∧
    s.chip.asleep = true ∧ s.chip.wakeAsync w.val i.index = false ∧ s.chip.clk.cross.any (fun x => x.block == cbAON && x.num == wakeNum w.val i.index
    && x.busy s.chip.clk.now) = true) ∧
  (∃ s : State, ∃ w : Fin 10, ∃ i : WakeInput, Canon s.chip ∧ s.chip.pond.grants = [] ∧ s.chip.wakeOn w.val i.index = true ∧ s.chip.wakeQualifies
    w.val i.index i.held = true ∧ s.chip.pwr.st = .off) ∧
  (∃ s : State, Canon s.chip ∧ s.chip.pond.grants = [] ∧ s.chip.asleep = true ∧ s.chip.pwr.exiting = true) :=
  ⟨⟨(at_ (entering .deep 2 live)), (((at_ (entering .deep 2 live)).chip.pwr.entry).get (by decide +kernel)), canon (by decide +kernel),
    (Option.some_get (by decide +kernel)).symm, by decide +kernel⟩,
  ⟨(at_ (entering .sleep 3 live)), (((at_ (entering .sleep 3 live)).chip.pwr.entry).get (by decide +kernel)), canon (by decide +kernel),
    (Option.some_get (by decide +kernel)).symm, by decide +kernel⟩,
  ⟨(at_ (entering .sleep 3 {live with fw := {}})), (((at_ (entering .sleep 3 {live with fw := {}})).chip.pwr.entry).get (by decide +kernel)), (5, 0),
    canon (by decide +kernel), (Option.some_get (by decide +kernel)).symm, by decide +kernel⟩,
  ⟨(at_ (entering .sleep 4 live)), (((at_ (entering .sleep 4 live)).chip.pwr.entry).get (by decide +kernel)), canon (by decide +kernel),
    (Option.some_get (by decide +kernel)).symm, by decide +kernel⟩,
  ⟨(at_ (entering .deep 6 live)), (((at_ (entering .deep 6 live)).chip.pwr.entry).get (by decide +kernel)), canon (by decide +kernel),
    (Option.some_get (by decide +kernel)).symm, by decide +kernel⟩,
  ⟨(at_ (entering .off 1 live)), (((at_ (entering .off 1 live)).chip.pwr.entry).get (by decide +kernel)), canon (by decide +kernel), (Option.some_get
    (by decide +kernel)).symm, by decide +kernel⟩,
  ⟨(at_ (entering .off 2 live)), (((at_ (entering .off 2 live)).chip.pwr.entry).get (by decide +kernel)), canon (by decide +kernel), (Option.some_get
    (by decide +kernel)).symm, by decide +kernel⟩,
  ⟨(at_ (entering .off 3 live)), (((at_ (entering .off 3 live)).chip.pwr.entry).get (by decide +kernel)), canon (by decide +kernel), (Option.some_get
    (by decide +kernel)).symm, by decide +kernel⟩,
  ⟨(at_ (entering .off 4 live)), (((at_ (entering .off 4 live)).chip.pwr.entry).get (by decide +kernel)), canon (by decide +kernel), (Option.some_get
    (by decide +kernel)).symm, by decide +kernel⟩,
  ⟨(at_ (fields live [(.PWR_CTL, F.PWR_CTL_STATE_MAX, 1)])), canon (by decide +kernel), by decide +kernel⟩,
  ⟨(at_ (fields live [(.PWR_CTL, F.PWR_CTL_AUTO, 0)])), canon (by decide +kernel), by decide +kernel⟩,
  ⟨(at_ (fields live [(.PWR_CTL, F.PWR_CTL_AUTO, 1), (.PWR_CTL, F.PWR_CTL_STATE_MAX, 3), (.PWR_LTR, F.PWR_LTR_LTR, 4531)])), canon (by
    decide +kernel), by decide +kernel⟩,
  ⟨(at_ (live.updBasin 15 (fun x => { x with gated := true }))), canon (by decide +kernel), by decide +kernel⟩,
  ⟨(at_ (live.updPwr (fun k => { k with st := .idle }))), canon (by decide +kernel), by decide +kernel⟩,
  ⟨(at_ (live.updPwr (fun k => { k with st := .sleep }))), 1, ({ index := 0 }), canon (by decide +kernel), by decide +kernel⟩,
  ⟨(at_ ({(live.updPwr (fun k => { k with st := .sleep })) with clk := { live.clk with cross := [⟨cbAON, wakeNum 9 0, .wake 9 0, some 10000000000001⟩] }})),
    9, ({ index := 0 }), canon (by decide +kernel), by decide +kernel⟩,
  ⟨(at_ (live.updPwr (fun k => { k with st := .off }))), 1, ({ index := 0 }), canon (by decide +kernel), by decide +kernel⟩,
  ⟨(at_ (live.updPwr (fun k => { k with st := .sleep, exiting := true }))), canon (by decide +kernel), by decide +kernel⟩⟩

/-- The hypotheses of each clause of `Obligations.PowerRequests` are met. -/
theorem witness_PowerRequests :
  (∃ s : State, ∃ q : ReqId, ∃ e, Canon s.chip ∧ Startable s.chip q 0x0201#16 [0] e ∧ s.chip.pond.grants = []) ∧
  (∃ s : State, ∃ q : ReqId, ∃ e, Canon s.chip ∧ Startable s.chip q 0x0202#16 [0] e ∧ s.chip.pond.grants = [] ∧ s.chip.frozen = false) ∧
  (∃ s : State, ∃ q : ReqId, ∃ e, Canon s.chip ∧ Startable s.chip q 0x0202#16 [0] e ∧ s.chip.pond.grants = [] ∧ s.chip.frozen = true) ∧
  (∃ s : State, ∃ q : ReqId, ∃ e, Canon s.chip ∧ Startable s.chip q 0x0203#16 [0] e ∧ s.chip.pond.grants = [] ∧ s.chip.fab.aonq.length < 8) ∧
  (∃ s : State, ∃ q : ReqId, ∃ e, ∃ k : Nat, Canon s.chip ∧ Startable s.chip q 0x0204#16 [0] e ∧ s.chip.pond.grants = [] ∧ (k = 2 ∨ k = 3) ∧ k ≤
    s.chip.get .PWR_CTL F.PWR_CTL_STATE_MAX ∧ s.chip.pwr.entry = none ∧ s.chip.pwr.st ≠ .sleep ∧ (Taken s.chip q).refuser false (some q) = none) ∧
  (∃ s : State, ∃ q : ReqId, ∃ e, ∃ k : Nat, ∃ x, Canon s.chip ∧ Startable s.chip q 0x0204#16 [0] e ∧ s.chip.pond.grants = [] ∧ (k = 2 ∨ k = 3) ∧ k ≤
    s.chip.get .PWR_CTL F.PWR_CTL_STATE_MAX ∧ s.chip.pwr.entry = none ∧ s.chip.pwr.st ≠ .sleep ∧ (Taken s.chip q).refuser false (some q) = some x) ∧
  (∃ s : State, ∃ q : ReqId, ∃ e, Canon s.chip ∧ Startable s.chip q 0x0205#16 [0] e ∧ s.chip.pond.grants = [] ∧ s.chip.fw.handoff = none ∧
    s.chip.fw.roll = none ∧ s.chip.pwr.entry = none) ∧
  (∃ s : State, ∃ q : ReqId, ∃ e, ∃ k : BitVec 16, Canon s.chip ∧ Startable s.chip q 0x0205#16 [0] e ∧ s.chip.pond.grants = [] ∧ k ≠ 0x0FF0#16) :=
  ⟨⟨(at_ (ask 0x0201#16 0 0 live)), q0, (entry 0x0201#16 0 0), canon (by decide +kernel), start (by decide +kernel), by decide +kernel⟩,
  ⟨(at_ (ask 0x0202#16 0 0 live)), q0, (entry 0x0202#16 0 0), canon (by decide +kernel), start (by decide +kernel), by decide +kernel⟩,
  ⟨(at_ (ask 0x0202#16 0 0 (fields live [(.CW_STATUS, F.CW_STATUS_FROZEN, 1)]))), q0, (entry 0x0202#16 0 0), canon (by decide +kernel), start (by
    decide +kernel), by decide +kernel⟩,
  ⟨(at_ (ask 0x0203#16 0 0 (live.updFab (fun k => { k with aonq := List.replicate 7 (.PWR_WAKE_EN, 0#32, 0#32) })))), q0, (entry 0x0203#16 0 0),
    canon (by decide +kernel), start (by decide +kernel), by decide +kernel⟩,
  ⟨(at_ (ask 0x0204#16 0 0 (fields live [(.PWR_CTL, F.PWR_CTL_STATE_MAX, 3)]))), q0, (entry 0x0204#16 0 0), 3, canon (by decide +kernel), start (by
    decide +kernel), by decide +kernel⟩,
  ⟨(at_ (ask 0x0204#16 0 0 (fields (live.updBasin 4 (fun x => { x with inReset := true })) [(.PWR_CTL, F.PWR_CTL_STATE_MAX, 3)]))), q0, (entry
    0x0204#16 0 0), 2, (1, 4), canon (by decide +kernel), start (by decide +kernel), by decide +kernel⟩,
  ⟨(at_ (ask 0x0205#16 0 0 live)), q0, (entry 0x0205#16 0 0), canon (by decide +kernel), start (by decide +kernel), by decide +kernel⟩,
  ⟨(at_ (ask 0x0205#16 0 0 live)), q0, (entry 0x0205#16 0 0), 0#16, canon (by decide +kernel), start (by decide +kernel), by decide +kernel⟩⟩

/-- The hypotheses of each clause of `Obligations.PortRequests` are met. -/
theorem witness_PortRequests :
  (∃ s : State, ∃ q : ReqId, ∃ e, ∃ w : Word, Canon s.chip ∧ Startable s.chip q 0x0220#16 [0] e ∧ DieFree s.chip 0 ∧ s.chip.pond.grants = [] ∧
    s.chip.frozen = false ∧ fget w F.RAIL_CFG_EN = 1) ∧
  (∃ s : State, ∃ q : ReqId, ∃ e, Canon s.chip ∧ Startable s.chip q 0x0221#16 [0] e ∧ s.chip.pond.grants = []) ∧
  (∃ s : State, ∃ q : ReqId, ∃ n : Port, ∃ e, ∃ k : Nat, ∃ m, Canon s.chip ∧ ForPort s.chip q opPORT_MODE n e ∧ s.chip.pond.grants = [] ∧ modeOf k =
    some m ∧ s.chip.wiringOk n m = true ∧ e.bump = false) ∧
  (∃ s : State, ∃ q : ReqId, ∃ n : Port, ∃ e, ∃ k : Nat, ∃ m, ∃ x, ∃ t, Canon s.chip ∧ ForPort s.chip q opPORT_MODE n e ∧ s.chip.pond.grants = [] ∧
    modeOf k = some m ∧ s.chip.wiringOk n m = true ∧ e.bump = true ∧ (s.chip.ports[n]).mode = .off ∧ (s.chip.ports[n]).seqs = x :: t ∧ x.started =
    false ∧ x.chan = 0 ∧ s.chip.noPll = false ∧ (m ≠ .line ∨ (s.chip.chans[n]).phase ≠ .suspend)) ∧
  (∃ s : State, ∃ q : ReqId, ∃ n : Port, ∃ e, Canon s.chip ∧ ForPort s.chip q opPORT_MODE n e ∧ s.chip.pond.grants = [] ∧ e.bump = true ∧
    (s.chip.chans[n]).phase = .suspend) ∧
  (∃ s : State, ∃ n : Port, ∃ x, Canon s.chip ∧ s.chip.pond.grants = [] ∧ (s.chip.ports[n]).seqs = [x] ∧ x.started = true ∧ x.chan = 0 ∧
    (s.chip.ports[n]).line.sending = false ∧ x.due s.chip.clk.now = true ∧ s.chip.pond.rebuild = false) ∧
  (∃ s : State, ∃ q : ReqId, ∃ n : Port, ∃ e, Canon s.chip ∧ ForPort s.chip q 0x0302#16 n e ∧ s.chip.pond.grants = [] ∧ (s.chip.ports[n]).mode = .off
    ∧ (s.chip.ports[n]).seqs = []) ∧
  (∃ s : State, ∃ q : ReqId, ∃ n : Port, ∃ e, Canon s.chip ∧ ForPort s.chip q 0x0302#16 n e ∧ s.chip.pond.grants = [] ∧ (s.chip.ports[n]).mode ≠
    .off) ∧
  (∃ s : State, ∃ q : ReqId, ∃ n : Port, ∃ e, Canon s.chip ∧ ForPort s.chip q 0x0303#16 n e ∧ DieFree s.chip (fuseDie n) ∧ s.chip.pond.grants = []) ∧
  (∃ s : State, ∃ q : ReqId, ∃ n : Port, ∃ e, Canon s.chip ∧ ForPort s.chip q 0x0303#16 n e ∧ DieFree s.chip (fuseDie n) ∧ s.chip.pond.grants = [] ∧
    s.chip.onVerdict n = rOK ∧ (s.chip.chans[n]).phase = .off ∧ s.chip.typeC n = true) ∧
  (∃ s : State, ∃ q : ReqId, ∃ n : Port, ∃ e, Canon s.chip ∧ ForPort s.chip q 0x0303#16 n e ∧ DieFree s.chip (fuseDie n) ∧ s.chip.pond.grants = [] ∧
    s.chip.onVerdict n = rOK ∧ (s.chip.chans[n]).phase = .off ∧ s.chip.typeC n = false ∧ s.chip.railBlocked (s.chip.railOf n) = false) ∧
  (∃ s : State, ∃ q : ReqId, ∃ n : Port, ∃ e, ∃ r : Word, ∃ i : Word, ∃ l : Word, Canon s.chip ∧ ForPort s.chip q 0x0304#16 n e ∧ DieFree s.chip
    (fuseDie n) ∧ s.chip.pond.grants = [] ∧ s.chip.frozen = false ∧ partsOk (fget r F.CH_SENSE_RSHUNT) (fget i F.CH_INRUSH_I_MAX) (fget l
    F.CH_LIMIT_SHORT_I) = true ∧ (s.chip.chans[n]).phase = .off) ∧
  (∃ s : State, ∃ q : ReqId, ∃ n : Port, ∃ e, ∃ ps : List Word, Canon s.chip ∧ ForPort s.chip q 0x0305#16 n e ∧ DieFree s.chip (fuseDie n) ∧
    s.chip.pond.grants = [] ∧ s.chip.frozen = false ∧ ps.length = 8) ∧
  (∃ s : State, ∃ q : ReqId, ∃ n : Port, ∃ e, Canon s.chip ∧ ForPort s.chip q 0x0306#16 n e ∧ s.chip.pond.grants = []) :=
  ⟨⟨(at_ (ask 0x0220#16 0 0 live)), q0, (entry 0x0220#16 0 0), (fset 0#32 F.RAIL_CFG_EN 1), canon (by decide +kernel), start (by decide +kernel),
    dieFree (by decide +kernel), by decide +kernel⟩,
  ⟨(at_ (ask 0x0221#16 0 0 live)), q0, (entry 0x0221#16 0 0), canon (by decide +kernel), start (by decide +kernel), by decide +kernel⟩,
  ⟨(at_ (ask opPORT_MODE 1 ((50 : Port)).val (fields live [(.PIN_CFG 50, F.PIN_CFG_WIRING, 3), (.CH_SENSE 50, F.CH_SENSE_RSHUNT, 1000), (.RAIL_CFG 0,
    F.RAIL_CFG_EN, 1), (.CH_CFG 50, F.CH_CFG_PRIO, 3)]))), q0, 50, (entry opPORT_MODE 1 ((50 : Port)).val), 1, PMode.drop, canon (by decide +kernel),
    forPort (by decide +kernel), by decide +kernel⟩,
  ⟨(at_ ((ask opPORT_MODE 1 ((50 : Port)).val ((fields live [(.PIN_CFG 50, F.PIN_CFG_WIRING, 3), (.CH_SENSE 50, F.CH_SENSE_RSHUNT, 1000), (.RAIL_CFG
    0, F.RAIL_CFG_EN, 1), (.CH_CFG 50, F.CH_CFG_PRIO, 3)]).updPort 50 (fun k => { k with seqs := [⟨.line, 0, some q0, false, none, false⟩] }))).updDoor
    0 (fun d => { d with reqs := d.reqs.map (fun x => { x with bump := true }) }))), q0, 50, ({ entry opPORT_MODE 1 50 with bump := true }), 2,
    PMode.line, (⟨.line, 0, some q0, false, none, false⟩ : ModeSeq), ([] : List ModeSeq), canon (by decide +kernel), forPort (by decide +kernel), by
    decide +kernel⟩,
  ⟨(at_ ((ask opPORT_MODE 1 ((50 : Port)).val ((fields live [(.PIN_CFG 50, F.PIN_CFG_WIRING, 3), (.CH_SENSE 50, F.CH_SENSE_RSHUNT, 1000), (.RAIL_CFG
    0, F.RAIL_CFG_EN, 1), (.CH_CFG 50, F.CH_CFG_PRIO, 3)]).updChan 50 (fun k => { k with phase := .suspend }))).updDoor 0 (fun d => { d with reqs := d.reqs.map (fun x => { x with bump := true }) }))),
    q0, 50, ({ entry opPORT_MODE 1 50 with bump := true }), canon (by decide +kernel), forPort (by decide +kernel), by decide +kernel⟩,
  ⟨(at_ ((fields live [(.PIN_CFG 50, F.PIN_CFG_WIRING, 3), (.CH_SENSE 50, F.CH_SENSE_RSHUNT, 1000), (.RAIL_CFG 0, F.RAIL_CFG_EN, 1), (.CH_CFG 50,
    F.CH_CFG_PRIO, 3)]).updPort 50 (fun k => { k with seqs := [⟨.line, 0, none, true, none, false⟩] }))), 50, (⟨.line, 0, none, true, none, false⟩ :
    ModeSeq), canon (by decide +kernel), by decide +kernel⟩,
  ⟨(at_ (ask 0x0302#16 1 ((95 : Port)).val live)), q0, 95, (entry 0x0302#16 1 ((95 : Port)).val), canon (by decide +kernel), forPort (by
    decide +kernel), by decide +kernel⟩,
  ⟨(at_ (ask 0x0302#16 1 ((95 : Port)).val (live.updPort 95 (fun k => { k with mode := .drop })))), q0, 95, (entry 0x0302#16 1 ((95 : Port)).val),
    canon (by decide +kernel), forPort (by decide +kernel), by decide +kernel⟩,
  ⟨(at_ (ask 0x0303#16 1 ((50 : Port)).val (fields live [(.PIN_CFG 50, F.PIN_CFG_WIRING, 3), (.CH_SENSE 50, F.CH_SENSE_RSHUNT, 1000), (.RAIL_CFG 0,
    F.RAIL_CFG_EN, 1), (.CH_CFG 50, F.CH_CFG_PRIO, 3)]))), q0, 50, (entry 0x0303#16 1 ((50 : Port)).val), canon (by decide +kernel), forPort (by
    decide +kernel), dieFree (by decide +kernel), by decide +kernel⟩,
  ⟨(at_ (ask 0x0303#16 1 ((50 : Port)).val ((fields live [(.PIN_CFG 50, F.PIN_CFG_WIRING, 1), (.CH_SENSE 50, F.CH_SENSE_RSHUNT, 1000), (.RAIL_CFG 0,
    F.RAIL_CFG_EN, 1)]).updPort 50 (fun k => { k with mode := .drop })))), q0, 50, (entry 0x0303#16 1 ((50 : Port)).val), canon (by decide +kernel),
    forPort (by decide +kernel), dieFree (by decide +kernel), by decide +kernel⟩,
  ⟨(at_ (ask 0x0303#16 1 ((50 : Port)).val (fields live [(.PIN_CFG 50, F.PIN_CFG_WIRING, 3), (.CH_SENSE 50, F.CH_SENSE_RSHUNT, 1000), (.RAIL_CFG 0,
    F.RAIL_CFG_EN, 1), (.CH_CFG 50, F.CH_CFG_PRIO, 3)]))), q0, 50, (entry 0x0303#16 1 ((50 : Port)).val), canon (by decide +kernel), forPort (by
    decide +kernel), dieFree (by decide +kernel), by decide +kernel⟩,
  ⟨(at_ (ask 0x0304#16 1 ((50 : Port)).val (fields live [(.PIN_CFG 50, F.PIN_CFG_WIRING, 3), (.CH_SENSE 50, F.CH_SENSE_RSHUNT, 1000), (.RAIL_CFG 0,
    F.RAIL_CFG_EN, 1), (.CH_CFG 50, F.CH_CFG_PRIO, 3)]))), q0, 50, (entry 0x0304#16 1 ((50 : Port)).val), (fset 0#32 F.CH_SENSE_RSHUNT 1000), (fset
    0#32 F.CH_INRUSH_I_MAX 750), (fset 0#32 F.CH_LIMIT_SHORT_I 780), canon (by decide +kernel), forPort (by decide +kernel), dieFree (by
    decide +kernel), by decide +kernel⟩,
  ⟨(at_ (ask 0x0305#16 1 ((50 : Port)).val (fields live [(.PIN_CFG 50, F.PIN_CFG_WIRING, 3), (.CH_SENSE 50, F.CH_SENSE_RSHUNT, 1000), (.RAIL_CFG 0,
    F.RAIL_CFG_EN, 1), (.CH_CFG 50, F.CH_CFG_PRIO, 3)]))), q0, 50, (entry 0x0305#16 1 ((50 : Port)).val), (List.replicate 8 0x10001#32), canon (by
    decide +kernel), forPort (by decide +kernel), dieFree (by decide +kernel), by decide +kernel⟩,
  ⟨(at_ (ask 0x0306#16 1 ((50 : Port)).val (fields live [(.PIN_CFG 50, F.PIN_CFG_WIRING, 3), (.CH_SENSE 50, F.CH_SENSE_RSHUNT, 1000), (.RAIL_CFG 0,
    F.RAIL_CFG_EN, 1), (.CH_CFG 50, F.CH_CFG_PRIO, 3)]))), q0, 50, (entry 0x0306#16 1 ((50 : Port)).val), canon (by decide +kernel), forPort (by
    decide +kernel), by decide +kernel⟩⟩

/-- The hypotheses of each clause of `Obligations.FuseLink` are met. -/
theorem witness_FuseLink :
  (∃ s : State, ∃ d : Die, Canon s.chip ∧ DieFree s.chip d ∧ s.chip.pond.grants = [] ∧ (dieChans d).any s.chip.modeWaits = false) ∧
  (∃ s : State, ∃ d : Die, ∃ n : Port, ∃ v, Canon s.chip ∧ s.chip.pond.grants = [] ∧ s.chip.dieHears d = true ∧ (dieChans d).any s.chip.modeWaits =
    false ∧ fuseDie n = d ∧ (s.chip.fl[d]).writes = [(.CH_SUSP n, v, allBits)]) ∧
  (∃ s : State, ∃ d : Die, Canon s.chip ∧ s.chip.pond.grants = [] ∧ s.chip.dieUp d = false ∧ (s.chip.fl[d]).inReset = false) ∧
  (∃ s : State, ∃ d : Die, Canon s.chip ∧ s.chip.pond.grants = [] ∧ (s.chip.fl[d]).inReset = true) ∧
  (∃ s : State, ∃ d : Die, ∃ o : BadLinkFrame, Canon s.chip ∧ s.chip.pond.grants = [] ∧ s.chip.dieUp d = true ∧ (s.chip.fl[d]).writes = [] ∧
    (dieChans d).any s.chip.modeWaits = false ∧ ((o.toBad = true → (s.chip.fl[d]).badTo < 7)) ∧ ((o.fromBad = true → (s.chip.fl[d]).badFrom < 7))) ∧
  (∃ s : State, ∃ d : Die, ∃ o : BadLinkFrame, Canon s.chip ∧ s.chip.pond.grants = [] ∧ s.chip.dieUp d = true ∧ (s.chip.fl[d]).writes = [] ∧
    (dieChans d).any s.chip.modeWaits = false ∧ ((o.toBad = true ∧ 7 ≤ (s.chip.fl[d]).badTo) ∨ (o.fromBad = true ∧ 7 ≤ (s.chip.fl[d]).badFrom))) ∧
  (∃ s : State, ∃ d : Die, Canon s.chip ∧ s.chip.pond.grants = [] ∧ s.chip.dieUp d = false ∧ (s.chip.fl[d]).inReset = false ∧ (s.chip.fl[d]).hold =
    true) ∧
  (∃ s : State, ∃ d : Die, Canon s.chip ∧ s.chip.pond.grants = [] ∧ (s.chip.fl[d]).hold = true ∧ (s.chip.fl[d]).inReset = false ∧ (s.chip.fl[d]).rung
    ≠ 4 ∧ s.chip.pwr.retained = false) ∧
  (∃ s : State, ∃ d : Die, Canon s.chip ∧ s.chip.pond.grants = [] ∧ ((s.chip.fl[d]).hold = false ∨ (s.chip.fl[d]).inReset = true ∨
    (s.chip.fl[d]).rung = 4 ∨ s.chip.pwr.retained = true)) :=
  ⟨⟨(at_ (live.updFl 1 (fun k => { k with badFrom := 2, age := 2 }))), 1, canon (by decide +kernel), dieFree (by decide +kernel), by decide +kernel⟩,
  ⟨(at_ (live.updFl 1 (fun k => { k with badFrom := 2, writes := [(.CH_SUSP 95, 7#32, allBits)] }))), 1, 95, 7#32, canon (by decide +kernel), by
    decide +kernel⟩,
  ⟨(at_ (live.updFl 1 (fun k => { k with hold := true }))), 1, canon (by decide +kernel), by decide +kernel⟩,
  ⟨(at_ (live.updFl 1 (fun k => { k with inReset := true }))), 1, canon (by decide +kernel), by decide +kernel⟩,
  ⟨(at_ (live.updFl 1 (fun k => { k with badTo := 6, badFrom := 3, age := 2 }))), 1, ({ toBad := true, fromBad := false, chs := ([⟨95, 7#16, 8#16⟩] : List ChSample), rails := ([(0, 5#16)] : List (RailId × BitVec 16)) }),
    canon (by decide +kernel), by decide +kernel⟩,
  ⟨(at_ (live.updFl 1 (fun k => { k with badTo := 2, badFrom := 7 }))), 1, ({ toBad := false, fromBad := true, chs := ([⟨95, 7#16, 8#16⟩] : List ChSample), rails := ([(0, 5#16)] : List (RailId × BitVec 16)) }),
    canon (by decide +kernel), by decide +kernel⟩,
  ⟨(at_ (live.updFl 1 (fun k => { k with hold := true }))), 1, canon (by decide +kernel), by decide +kernel⟩,
  ⟨(at_ (live.updFl 1 (fun k => { k with hold := true, writes := [(.CH_SUSP 95, 7#32, allBits)] }))), 1, canon (by decide +kernel), by
    decide +kernel⟩,
  ⟨(at_ (live.updFl 1 (fun k => { k with hold := true, inReset := true }))), 1, canon (by decide +kernel), by decide +kernel⟩⟩

/-- The hypotheses of each clause of `Obligations.Channels` are met. -/
theorem witness_Channels :
  (∃ s : State, ∃ n : Port, Canon s.chip ∧ DieFree s.chip (fuseDie n) ∧ s.chip.pond.grants = [] ∧ s.chip.inrushOk n = true ∧ s.chip.typeC n = false ∧
    ((s.chip.chans[n]).phase = .off ∨ (s.chip.chans[n]).phase = .tripped)) ∧
  (∃ s : State, ∃ n : Port, Canon s.chip ∧ DieFree s.chip (fuseDie n) ∧ s.chip.pond.grants = [] ∧ s.chip.chReady n = true ∧ s.chip.typeC n = true ∧
    ((s.chip.chans[n]).phase = .off ∨ (s.chip.chans[n]).phase = .tripped)) ∧
  (∃ s : State, ∃ n : Port, Canon s.chip ∧ DieFree s.chip (fuseDie n) ∧ s.chip.pond.grants = [] ∧ s.chip.chReady n = true ∧ s.chip.inrushOk n = false
    ∧ s.chip.typeC n = false ∧ ((s.chip.chans[n]).phase = .off ∨ (s.chip.chans[n]).phase = .tripped)) ∧
  (∃ s : State, ∃ n : Port, Canon s.chip ∧ DieFree s.chip (fuseDie n) ∧ s.chip.pond.grants = []) ∧
  (∃ s : State, ∃ n : Port, Canon s.chip ∧ s.chip.pond.grants = [] ∧ s.chip.dieUp (fuseDie n) = true ∧ (s.chip.fl[fuseDie n]).badTo ≠ 0) ∧
  (∃ s : State, ∃ n : Port, Canon s.chip ∧ s.chip.pond.grants = [] ∧ s.chip.dieUp (fuseDie n) = true ∧ (s.chip.fl[fuseDie n]).badTo ≠ 0) ∧
  (∃ s : State, ∃ n : Port, Canon s.chip ∧ s.chip.pond.grants = [] ∧ s.chip.dieUp (fuseDie n) = false) ∧
  (∃ s : State, ∃ n : Port, Canon s.chip ∧ s.chip.pond.grants = [] ∧ s.chip.dieUp (fuseDie n) = false) ∧
  (∃ s : State, ∃ n : Port, Canon s.chip ∧ DieFree s.chip (fuseDie n) ∧ s.chip.pond.grants = [] ∧ s.chip.isDrop n = true ∧ s.chip.root n =
    rsSUSPENDED ∧ ((s.chip.chans[n]).phase = .on ∨ (s.chip.chans[n]).phase = .suspend)) ∧
  (∃ s : State, ∃ n : Port, Canon s.chip ∧ DieFree s.chip (fuseDie n) ∧ s.chip.pond.grants = [] ∧ s.chip.isDrop n = true ∧ s.chip.root n = rsRESUMING
    ∧ ((s.chip.chans[n]).phase = .on ∨ (s.chip.chans[n]).phase = .suspend)) ∧
  (∃ s : State, ∃ n : Port, ∃ b : Bool, Canon s.chip ∧ s.chip.pond.grants = [] ∧ (s.chip.isDrop n = false ∨ s.chip.root n ≠ (if b then rsSUSPENDED
    else rsRESUMING))) ∧
  (∃ s : State, ∃ n : Port, Canon s.chip ∧ s.chip.pond.grants = [] ∧ (s.chip.chans[n]).phase = .inrush ∧ s.chip.railV (fuseDie n) (s.chip.railOf n) ≤
    (s.chip.chans[n]).vOut.toNat + 30) ∧
  (∃ s : State, ∃ d : Die, ∃ j : RailId, Canon s.chip ∧ s.chip.pond.grants = [] ∧ s.chip.railUv d j = true) ∧
  (∃ s : State, ∃ d : Die, ∃ j : RailId, ∃ t, Canon s.chip ∧ s.chip.pond.grants = [] ∧ (if d = 0 then (s.chip.rails[j]).back0 else
    (s.chip.rails[j]).back1) = some t ∧ t + us 50 ≤ s.chip.clk.now) ∧
  (∃ s : State, ∃ n : Port, Canon s.chip ∧ s.chip.pond.grants = [] ∧ (s.chip.chans[n]).phase = .hold ∧ ms 10 < (s.chip.chans[n]).holdUsed +
    (s.chip.clk.now - (s.chip.chans[n]).holdFrom)) ∧
  (∃ s : State, ∃ n : Port, Canon s.chip ∧ s.chip.pond.grants = [] ∧ (s.chip.chans[n]).phase = .inrush ∧ ms (clampNat 1 200 (s.chip.get (.CH_INRUSH
    n) F.CH_INRUSH_INRUSH_MAX)) ≤ (s.chip.chans[n]).inrushUsed + (s.chip.clk.now - (s.chip.chans[n]).inrushFrom)) ∧
  (∃ s : State, ∃ n : Port, ∃ k : BitVec 16, Canon s.chip ∧ s.chip.pond.grants = [] ∧ s.chip.tripAtCur n ≤ k.toNat ∧ ((s.chip.chans[n]).phase =
    .inrush ∨ (s.chip.chans[n]).phase = .hold ∨ (s.chip.chans[n]).phase = .on ∨ (s.chip.chans[n]).phase = .suspend)) ∧
  (∃ s : State, ∃ n : Port, ∃ p : Fin 8, Canon s.chip ∧ s.chip.pond.grants = [] ∧ ((s.chip.chans[n]).phase = .on ∨ (s.chip.chans[n]).phase =
    .suspend) ∧ s.chip.get (.CH_CURVE n p) F.CH_CURVE_M ≠ 0 ∧ us (100 * s.chip.getPos (.CH_CURVE n p) F.CH_CURVE_T) ≤ s.chip.pointTimer n p) ∧
  (∃ s : State, ∃ n : Port, ∃ t, Canon s.chip ∧ s.chip.pond.grants = [] ∧ (s.chip.chans[n]).phase = .tripped ∧ (s.chip.chans[n]).retryAt = some t ∧ t
    ≤ s.chip.clk.now ∧ s.chip.mayRetry n = true ∧ s.chip.dieUp (fuseDie n) = true ∧ s.chip.inrushOk n = true ∧ s.chip.railUv (fuseDie n)
    (s.chip.railOf n) = false) ∧
  (∃ s : State, ∃ n : Port, ∃ t, Canon s.chip ∧ s.chip.pond.grants = [] ∧ (s.chip.chans[n]).phase = .on ∧ (s.chip.chans[n]).onSince = some t ∧ t +
    sec 60 ≤ s.chip.clk.now) ∧
  (∃ s : State, ∃ n : Port, ∃ k : BitVec 16, ∃ t, Canon s.chip ∧ s.chip.pond.grants = [] ∧ ((s.chip.chans[n]).phase = .off ∨ (s.chip.chans[n]).phase
    = .tripped ∨ (s.chip.chans[n]).phase = .armed) ∧ 5 ≤ k.toNat ∧ 2 * s.chip.getPos (.CH_LIMIT n) F.CH_LIMIT_I_NOM ≤ 100 * k.toNat ∧
    (s.chip.chans[n]).offAt = some t ∧ t + ms 11 ≤ s.chip.clk.now) :=
  ⟨⟨(at_ (fields live [(.PIN_CFG 50, F.PIN_CFG_WIRING, 3), (.CH_SENSE 50, F.CH_SENSE_RSHUNT, 1000), (.RAIL_CFG 0, F.RAIL_CFG_EN, 1), (.CH_CFG 50,
    F.CH_CFG_PRIO, 3)])), 50, canon (by decide +kernel), dieFree (by decide +kernel), by decide +kernel⟩,
  ⟨(at_ ((fields live [(.PIN_CFG 50, F.PIN_CFG_WIRING, 1), (.CH_SENSE 50, F.CH_SENSE_RSHUNT, 1000), (.RAIL_CFG 0, F.RAIL_CFG_EN, 1)]).updPort 50 (fun
    k => { k with mode := .drop }))), 50, canon (by decide +kernel), dieFree (by decide +kernel), by decide +kernel⟩,
  ⟨(at_ (((fields live [(.PIN_CFG 50, F.PIN_CFG_WIRING, 3), (.CH_SENSE 50, F.CH_SENSE_RSHUNT, 1000), (.RAIL_CFG 0, F.RAIL_CFG_EN, 1), (.CH_CFG 50,
    F.CH_CFG_PRIO, 3)]).updRail 0 (fun k => { k with blocked := some 10000000000000 })).updChan 50 (fun k => { k with phase := .off }))), 50, canon
    (by decide +kernel), dieFree (by decide +kernel), by decide +kernel⟩,
  ⟨(at_ ((fields live [(.PIN_CFG 50, F.PIN_CFG_WIRING, 3), (.CH_SENSE 50, F.CH_SENSE_RSHUNT, 1000), (.RAIL_CFG 0, F.RAIL_CFG_EN, 1), (.CH_CFG 50,
    F.CH_CFG_PRIO, 3)]).updChan 50 (fun k => { k with phase := .on }))), 50, canon (by decide +kernel), dieFree (by decide +kernel), by
    decide +kernel⟩,
  ⟨(at_ (fields (live.updFl 1 (fun k => { k with badTo := 1 })) [(.PIN_CFG 50, F.PIN_CFG_WIRING, 3), (.CH_SENSE 50, F.CH_SENSE_RSHUNT, 1000),
    (.RAIL_CFG 0, F.RAIL_CFG_EN, 1), (.CH_CFG 50, F.CH_CFG_PRIO, 3)])), 50, canon (by decide +kernel), by decide +kernel⟩,
  ⟨(at_ (fields (live.updFl 1 (fun k => { k with badTo := 1 })) [(.PIN_CFG 50, F.PIN_CFG_WIRING, 3), (.CH_SENSE 50, F.CH_SENSE_RSHUNT, 1000),
    (.RAIL_CFG 0, F.RAIL_CFG_EN, 1), (.CH_CFG 50, F.CH_CFG_PRIO, 3)])), 50, canon (by decide +kernel), by decide +kernel⟩,
  ⟨(at_ (live.updFl 1 (fun k => { k with hold := true }))), 50, canon (by decide +kernel), by decide +kernel⟩,
  ⟨(at_ (live.updFl 1 (fun k => { k with hold := true }))), 50, canon (by decide +kernel), by decide +kernel⟩,
  ⟨(at_ (((fields live [(.DROP_STATUS 50, F.DROP_STATUS_STATE, 8)]).updChan 50 (fun k => { k with phase := .on })).updPort 50 (fun k => { k with mode := .drop }))),
    50, canon (by decide +kernel), dieFree (by decide +kernel), by decide +kernel⟩,
  ⟨(at_ (((fields live [(.DROP_STATUS 50, F.DROP_STATUS_STATE, 9)]).updChan 50 (fun k => { k with phase := .suspend })).updPort 50 (fun k => { k with mode := .drop }))),
    50, canon (by decide +kernel), dieFree (by decide +kernel), by decide +kernel⟩,
  ⟨(at_ (live.updChan 50 (fun k => { k with phase := .suspend }))), 50, true, canon (by decide +kernel), by decide +kernel⟩,
  ⟨(at_ ((fields (live.updRail 0 (fun k => { k with v0 := 500#16, v1 := 500#16 })) [(.PIN_CFG 50, F.PIN_CFG_WIRING, 3), (.CH_SENSE 50,
    F.CH_SENSE_RSHUNT, 1000), (.RAIL_CFG 0, F.RAIL_CFG_EN, 1), (.CH_CFG 50, F.CH_CFG_PRIO, 3)]).updChan 50 (fun k => { k with phase := .inrush, vOut := 470#16 }))),
    50, canon (by decide +kernel), by decide +kernel⟩,
  ⟨(at_ (fields (live.updChan 50 (fun k => { k with phase := .on })) [(.RAIL_CFG 0, F.RAIL_CFG_UV_HOLD, 40)])), (1 : Die), (0 : RailId), canon (by
    decide +kernel), by decide +kernel⟩,
  ⟨(at_ ((live.updRail 0 (fun k => { k with back1 := some (10000000000000 - us 50) })).updChan 50 (fun k => { k with phase := .hold }))), (1 : Die),
    (0 : RailId), (10000000000000 - us 50), canon (by decide +kernel), by decide +kernel⟩,
  ⟨(at_ (live.updChan 50 (fun k => { k with phase := .hold, holdFrom := 10000000000000 - ms 10, holdUsed := 1 }))), 50, canon (by decide +kernel), by
    decide +kernel⟩,
  ⟨(at_ (live.updChan 50 (fun k => { k with phase := .inrush, inrushFrom := 10000000000000 - ms 200 }))), 50, canon (by decide +kernel), by
    decide +kernel⟩,
  ⟨(at_ (live.updChan 50 (fun k => { k with phase := .suspend }))), 50, 0xFFFF#16, canon (by decide +kernel), by decide +kernel⟩,
  ⟨(at_ (fields (live.updChan 50 (fun k => { k with phase := .on, cur := 0xFFFF#16, timersAt := 10000000000000 - us 300 })) [(.CH_CURVE 50 7,
    F.CH_CURVE_M, 40), (.CH_CURVE 50 7, F.CH_CURVE_T, 3)])), 50, 7, canon (by decide +kernel), by decide +kernel⟩,
  ⟨(at_ ((fields live [(.PIN_CFG 50, F.PIN_CFG_WIRING, 3), (.CH_SENSE 50, F.CH_SENSE_RSHUNT, 1000), (.RAIL_CFG 0, F.RAIL_CFG_EN, 1), (.CH_CFG 50,
    F.CH_CFG_RETRY_MODE, 1), (.CH_CFG 50, F.CH_CFG_RETRY_MAX, 3)]).updChan 50 (fun k => { k with phase := .tripped, retryAt := some 10000000000000 }))),
    50, 10000000000000, canon (by decide +kernel), by decide +kernel⟩,
  ⟨(at_ ((fields live [(.PIN_CFG 50, F.PIN_CFG_WIRING, 3), (.CH_SENSE 50, F.CH_SENSE_RSHUNT, 1000), (.RAIL_CFG 0, F.RAIL_CFG_EN, 1), (.CH_CFG 50,
    F.CH_CFG_PRIO, 3)]).updChan 50 (fun k => { k with phase := .on, onSince := some (10000000000000 - sec 60), retries := 2 }))), 50, (10000000000000
    - sec 60), canon (by decide +kernel), by decide +kernel⟩,
  ⟨(at_ ((fields live [(.CH_LIMIT 50, F.CH_LIMIT_I_NOM, 250)]).updChan 50 (fun k => { k with phase := .tripped, offAt := some (10000000000000 - ms 11) }))),
    50, 5#16, (10000000000000 - ms 11), canon (by decide +kernel), by decide +kernel⟩⟩

/-- The hypotheses of each clause of `Obligations.Rails` are met. -/
theorem witness_Rails :
  (∃ s : State, ∃ j : RailId, ∃ t, Canon s.chip ∧ s.chip.pond.grants = [] ∧ s.chip.railEn j = true ∧ (s.chip.rails[j]).differFrom = some t ∧ t + ms
    10 ≤ s.chip.clk.now ∧ (s.chip.rails[j]).differTold = false) ∧
  (∃ s : State, ∃ j : RailId, ∃ d : BitVec 16, Canon s.chip ∧ s.chip.pond.grants = [] ∧ (s.chip.rails[j]).windowFrom + ms 1 ≤ s.chip.clk.now ∧ d =
    s.chip.railDraw j) ∧
  (∃ s : State, ∃ j : RailId, ∃ t, ∃ n : Port, Canon s.chip ∧ DieFree s.chip (fuseDie n) ∧ s.chip.pond.grants = [] ∧ (s.chip.rails[j]).graceAt = some
    t ∧ t ≤ s.chip.clk.now ∧ s.chip.shedPick j = some n) ∧
  (∃ s : State, ∃ j : RailId, ∃ t, Canon s.chip ∧ s.chip.pond.grants = [] ∧ (s.chip.rails[j]).blocked = some t ∧ t ≤ s.chip.clk.now) :=
  ⟨⟨(at_ ((fields live [(.PIN_CFG 50, F.PIN_CFG_WIRING, 3), (.CH_SENSE 50, F.CH_SENSE_RSHUNT, 1000), (.RAIL_CFG 0, F.RAIL_CFG_EN, 1), (.CH_CFG 50,
    F.CH_CFG_PRIO, 3)]).updRail 0 (fun k => { k with differFrom := some (10000000000000 - ms 10) }))), (0 : RailId), (10000000000000 - ms 10), canon
    (by decide +kernel), by decide +kernel⟩,
  ⟨(at_ ((fields live [(.PIN_CFG 50, F.PIN_CFG_WIRING, 3), (.CH_SENSE 50, F.CH_SENSE_RSHUNT, 1000), (.RAIL_CFG 0, F.RAIL_CFG_EN, 1), (.CH_CFG 50,
    F.CH_CFG_PRIO, 3)]).updRail 0 (fun k => { k with windowFrom := 10000000000000 - ms 1, sum := 0 }))), (0 : RailId), ((at_ ((fields live [(.PIN_CFG
    50, F.PIN_CFG_WIRING, 3), (.CH_SENSE 50, F.CH_SENSE_RSHUNT, 1000), (.RAIL_CFG 0, F.RAIL_CFG_EN, 1), (.CH_CFG 50, F.CH_CFG_PRIO, 3)]).updRail 0
    (fun k => { k with windowFrom := 10000000000000 - ms 1, sum := 0 }))).chip.railDraw 0), canon (by decide +kernel), by decide +kernel⟩,
  ⟨(at_ (((fields live [(.PIN_CFG 50, F.PIN_CFG_WIRING, 3), (.CH_SENSE 50, F.CH_SENSE_RSHUNT, 1000), (.RAIL_CFG 0, F.RAIL_CFG_EN, 1), (.CH_CFG 50,
    F.CH_CFG_PRIO, 3)]).updRail 0 (fun k => { k with graceAt := some 10000000000000, draw := 7#16 })).updChan 50 (fun k => { k with phase := .on }))),
    (0 : RailId), 10000000000000, 50, canon (by decide +kernel), dieFree (by decide +kernel), by decide +kernel⟩,
  ⟨(at_ ((fields live [(.PIN_CFG 50, F.PIN_CFG_WIRING, 3), (.CH_SENSE 50, F.CH_SENSE_RSHUNT, 1000), (.RAIL_CFG 0, F.RAIL_CFG_EN, 1), (.CH_CFG 50,
    F.CH_CFG_PRIO, 3)]).updRail 0 (fun k => { k with blocked := some 10000000000000 }))), (0 : RailId), 10000000000000, canon (by decide +kernel), by
    decide +kernel⟩⟩

/-- The hypotheses of each clause of `Obligations.PdRequests` are met. -/
theorem witness_PdRequests :
  (∃ s : State, ∃ q : ReqId, ∃ n : Port, ∃ e, Canon s.chip ∧ ForPort s.chip q 0x0310#16 n e ∧ s.chip.pond.grants = [] ∧ s.chip.isPd n = true ∧
    s.chip.isDrop n = true) ∧
  (∃ s : State, ∃ q : ReqId, ∃ n : Port, ∃ e, Canon s.chip ∧ ForPort s.chip q 0x0310#16 n e ∧ s.chip.pond.grants = [] ∧ (s.chip.isPd n = false ∨
    s.chip.isDrop n = false)) ∧
  (∃ s : State, ∃ q : ReqId, ∃ n : Port, ∃ e, Canon s.chip ∧ ForPort s.chip q 0x0311#16 n e ∧ s.chip.pond.grants = [] ∧ s.chip.isPd n = true ∧
    s.chip.isDrop n = true) ∧
  (∃ s : State, ∃ q : ReqId, ∃ n : Port, ∃ e, Canon s.chip ∧ ForPort s.chip q 0x0312#16 n e ∧ s.chip.pond.grants = [] ∧ s.chip.isPd n = true ∧
    s.chip.isDrop n = true ∧ s.chip.pdSt n = pdREADY ∧ s.chip.pdRunning n = false) ∧
  (∃ s : State, ∃ q : ReqId, ∃ n : Port, ∃ e, Canon s.chip ∧ ForPort s.chip q 0x0312#16 n e ∧ s.chip.pond.grants = [] ∧ s.chip.isPd n = true ∧
    s.chip.isDrop n = true ∧ s.chip.pdRunning n = true) ∧
  (∃ s : State, ∃ q : ReqId, ∃ n : Port, ∃ e, Canon s.chip ∧ ForPort s.chip q 0x0313#16 n e ∧ s.chip.pond.grants = [] ∧ s.chip.isPd n = true ∧
    s.chip.isDrop n = true ∧ (s.chip.pdSt n = pdREADY ∨ s.chip.pdSt n = pdSEND_CAPS ∨ s.chip.pdSt n = pdNO_PD) ∧ s.chip.pdRunning n = false) ∧
  (∃ s : State, ∃ q : ReqId, ∃ n : Port, ∃ e, Canon s.chip ∧ ForPort s.chip q 0x0313#16 n e ∧ s.chip.pond.grants = [] ∧ s.chip.isPd n = true ∧
    s.chip.isDrop n = true ∧ s.chip.pdRunning n = true) ∧
  (∃ s : State, ∃ q : ReqId, ∃ n : Port, ∃ e, ∃ v : BitVec 16, Canon s.chip ∧ ForPort s.chip q 0x0314#16 n e ∧ s.chip.pond.grants = [] ∧ s.chip.isPd
    n = true ∧ s.chip.isDrop n = true ∧ s.chip.pdDirect n = true ∧ s.chip.pdSt n = pdDIRECT ∧ 500 ≤ v.toNat ∧ v.toNat ≤ 4800) ∧
  (∃ s : State, ∃ q : ReqId, ∃ n : Port, ∃ e, ∃ w : Word, Canon s.chip ∧ ForPort s.chip q 0x0315#16 n e ∧ s.chip.pond.grants = [] ∧
    (s.chip.ports[n]).mode = .off ∧ (s.chip.ports[n]).seqs = [] ∧ s.chip.frozen = false ∧ (fget w F.PD_CFG_PD_EN = 0 ∨ (s.chip.wrRW (.PD_CFG n)
    w).isPd n = true)) :=
  ⟨⟨(at_ (ask 0x0310#16 1 ((3 : Port)).val ((fields live [(.PIN_CFG 3, F.PIN_CFG_WIRING, 1), (.PD_CFG 3, F.PD_CFG_PD_EN, 1), (.PD_CFG 3,
    F.PD_CFG_POLICY, 0), (.PD_STATUS 3, F.PD_STATUS_STATE, pdREADY)]).updPort 3 (fun k => { k with mode := .drop, pd := {  } })))), q0, 3, (entry
    0x0310#16 1 ((3 : Port)).val), canon (by decide +kernel), forPort (by decide +kernel), by decide +kernel⟩,
  ⟨(at_ (ask 0x0310#16 1 ((3 : Port)).val live)), q0, 3, (entry 0x0310#16 1 ((3 : Port)).val), canon (by decide +kernel), forPort (by
    decide +kernel), by decide +kernel⟩,
  ⟨(at_ (ask 0x0311#16 1 ((3 : Port)).val ((fields live [(.PIN_CFG 3, F.PIN_CFG_WIRING, 1), (.PD_CFG 3, F.PD_CFG_PD_EN, 1), (.PD_CFG 3,
    F.PD_CFG_POLICY, 0), (.PD_STATUS 3, F.PD_STATUS_STATE, pdREADY)]).updPort 3 (fun k => { k with mode := .drop, pd := {  } })))), q0, 3, (entry
    0x0311#16 1 ((3 : Port)).val), canon (by decide +kernel), forPort (by decide +kernel), by decide +kernel⟩,
  ⟨(at_ (ask 0x0312#16 1 ((3 : Port)).val ((fields live [(.PIN_CFG 3, F.PIN_CFG_WIRING, 1), (.PD_CFG 3, F.PD_CFG_PD_EN, 1), (.PD_CFG 3,
    F.PD_CFG_POLICY, 0), (.PD_STATUS 3, F.PD_STATUS_STATE, pdREADY)]).updPort 3 (fun k => { k with mode := .drop, pd := {  } })))), q0, 3, (entry
    0x0312#16 1 ((3 : Port)).val), canon (by decide +kernel), forPort (by decide +kernel), by decide +kernel⟩,
  ⟨(at_ (ask 0x0312#16 1 ((3 : Port)).val ((fields live [(.PIN_CFG 3, F.PIN_CFG_WIRING, 1), (.PD_CFG 3, F.PD_CFG_PD_EN, 1), (.PD_CFG 3,
    F.PD_CFG_POLICY, 0), (.PD_STATUS 3, F.PD_STATUS_STATE, pdTRANSITION)]).updPort 3 (fun k => { k with mode := .drop, pd := {  } })))), q0, 3,
    (entry 0x0312#16 1 ((3 : Port)).val), canon (by decide +kernel), forPort (by decide +kernel), by decide +kernel⟩,
  ⟨(at_ (ask 0x0313#16 1 ((3 : Port)).val ((fields live [(.PIN_CFG 3, F.PIN_CFG_WIRING, 1), (.PD_CFG 3, F.PD_CFG_PD_EN, 1), (.PD_CFG 3,
    F.PD_CFG_POLICY, 0), (.PD_STATUS 3, F.PD_STATUS_STATE, pdNO_PD)]).updPort 3 (fun k => { k with mode := .drop, pd := {  } })))), q0, 3, (entry
    0x0313#16 1 ((3 : Port)).val), canon (by decide +kernel), forPort (by decide +kernel), by decide +kernel⟩,
  ⟨(at_ (ask 0x0313#16 1 ((3 : Port)).val ((fields live [(.PIN_CFG 3, F.PIN_CFG_WIRING, 1), (.PD_CFG 3, F.PD_CFG_PD_EN, 1), (.PD_CFG 3,
    F.PD_CFG_POLICY, 0), (.PD_STATUS 3, F.PD_STATUS_STATE, pdREADY)]).updPort 3 (fun k => { k with mode := .drop, pd := { swap := .sent } })))), q0,
    3, (entry 0x0313#16 1 ((3 : Port)).val), canon (by decide +kernel), forPort (by decide +kernel), by decide +kernel⟩,
  ⟨(at_ (ask 0x0314#16 1 ((3 : Port)).val ((fields live [(.PIN_CFG 3, F.PIN_CFG_WIRING, 1), (.PD_CFG 3, F.PD_CFG_PD_EN, 1), (.PD_CFG 3,
    F.PD_CFG_POLICY, 1), (.PD_STATUS 3, F.PD_STATUS_STATE, pdDIRECT)]).updPort 3 (fun k => { k with mode := .drop, pd := {  } })))), q0, 3, (entry
    0x0314#16 1 ((3 : Port)).val), 4800#16, canon (by decide +kernel), forPort (by decide +kernel), by decide +kernel⟩,
  ⟨(at_ (ask 0x0315#16 1 ((3 : Port)).val (fields live [(.PIN_CFG 3, F.PIN_CFG_WIRING, 1)]))), q0, 3, (entry 0x0315#16 1 ((3 : Port)).val), (fset
    0#32 F.PD_CFG_PD_EN 1), canon (by decide +kernel), forPort (by decide +kernel), by decide +kernel⟩⟩

/-- The hypotheses of each clause of `Obligations.PdContracts` are met. -/
theorem witness_PdContracts :
  (∃ s : State, ∃ n : Port, Canon s.chip ∧ s.chip.pond.grants = [] ∧ s.chip.pdLive n = true ∧ s.chip.pdSt n = pdWAIT_VBUS ∧
    (s.chip.ports[n]).pd.converterOn = true ∧ (s.chip.ports[n]).pd.reached = true) ∧
  (∃ s : State, ∃ n : Port, ∃ t, Canon s.chip ∧ s.chip.pond.grants = [] ∧ s.chip.pdLive n = true ∧ s.chip.pdSt n = pdSEND_CAPS ∧
    (s.chip.ports[n]).pd.until_ = some t ∧ t ≤ s.chip.clk.now ∧ (s.chip.ports[n]).pd.capsAck = false) ∧
  (∃ s : State, ∃ n : Port, ∃ t, Canon s.chip ∧ s.chip.pond.grants = [] ∧ s.chip.pdLive n = true ∧ s.chip.pdSt n = pdSEND_CAPS ∧
    (s.chip.ports[n]).pd.until_ = some t ∧ t ≤ s.chip.clk.now ∧ (s.chip.ports[n]).pd.capsAck = false) ∧
  (∃ s : State, ∃ n : Port, ∃ t, Canon s.chip ∧ s.chip.pond.grants = [] ∧ s.chip.pdLive n = true ∧ s.chip.pdSt n = pdSEND_CAPS ∧
    (s.chip.ports[n]).pd.until_ = some t ∧ t ≤ s.chip.clk.now ∧ (s.chip.ports[n]).pd.capsAck = true) ∧
  (∃ s : State, ∃ n : Port, Canon s.chip ∧ s.chip.pond.grants = [] ∧ s.chip.pdLive n = true ∧ (s.chip.pdSt n = pdSEND_CAPS ∨ s.chip.pdSt n = pdNO_PD
    ∨ s.chip.pdSt n = pdREADY) ∧ (s.chip.ports[n]).pd.discovering = false ∧ (s.chip.ports[n]).pd.request = none) ∧
  (∃ s : State, ∃ n : Port, ∃ r, ∃ k, Canon s.chip ∧ (s.chip.ports[n]).pd.request = some r ∧ s.chip.requested n r.obj r.cur r.mv r.epr = some k ∧
    s.chip.pond.grants = [] ∧ s.chip.pdLive n = true) ∧
  (∃ s : State, ∃ n : Port, ∃ r, ∃ k, Canon s.chip ∧ (s.chip.ports[n]).pd.request = some r ∧ s.chip.requested n r.obj r.cur r.mv r.epr = some k ∧
    s.chip.pond.grants = [] ∧ s.chip.pdLive n = true) ∧
  (∃ s : State, ∃ n : Port, ∃ r, ∃ k, Canon s.chip ∧ (s.chip.ports[n]).pd.request = some r ∧ s.chip.requested n r.obj r.cur r.mv r.epr = some k ∧
    s.chip.pond.grants = [] ∧ s.chip.pdLive n = true) ∧
  (∃ s : State, ∃ n : Port, ∃ r, ∃ k, Canon s.chip ∧ (s.chip.ports[n]).pd.request = some r ∧ s.chip.requested n r.obj r.cur r.mv r.epr = some k ∧
    s.chip.pond.grants = [] ∧ s.chip.pdLive n = true) ∧
  (∃ s : State, ∃ n : Port, ∃ r, Canon s.chip ∧ (s.chip.ports[n]).pd.request = some r ∧ s.chip.pond.grants = [] ∧ s.chip.pdLive n = true ∧ r.found ≤
    pdDIRECT ∧ s.chip.requested n r.obj r.cur r.mv r.epr = none) ∧
  (∃ s : State, ∃ n : Port, ∃ r, Canon s.chip ∧ (s.chip.ports[n]).pd.request = some r ∧ s.chip.pond.grants = [] ∧ s.chip.pdLive n = true ∧ r.found ≤
    pdDIRECT ∧ s.chip.requested n r.obj r.cur r.mv r.epr = none) ∧
  (∃ s : State, ∃ n : Port, ∃ r, Canon s.chip ∧ (s.chip.ports[n]).pd.request = some r ∧ s.chip.pond.grants = [] ∧ s.chip.pdLive n = true ∧ r.found ≤
    pdDIRECT ∧ s.chip.requested n r.obj r.cur r.mv r.epr = none) ∧
  (∃ s : State, ∃ n : Port, ∃ r, Canon s.chip ∧ (s.chip.ports[n]).pd.request = some r ∧ s.chip.pond.grants = [] ∧ s.chip.pdLive n = true ∧ r.found ≤
    pdDIRECT ∧ s.chip.requested n r.obj r.cur r.mv r.epr = none) ∧
  (∃ s : State, ∃ n : Port, Canon s.chip ∧ s.chip.pond.grants = [] ∧ s.chip.pdLive n = true ∧ (s.chip.pdSt n = pdTRANSITION ∨ s.chip.pdSt n =
    pdVCONN_SWAP)) ∧
  (∃ s : State, ∃ n : Port, ∃ t, ∃ k, Canon s.chip ∧ (s.chip.ports[n]).pd.accepted = some k ∧ s.chip.pond.grants = [] ∧ s.chip.pdLive n = true ∧
    s.chip.pdSt n = pdTRANSITION ∧ (s.chip.ports[n]).pd.until_ = some t ∧ t ≤ s.chip.clk.now) ∧
  (∃ s : State, ∃ n : Port, ∃ v : BitVec 16, ∃ k, Canon s.chip ∧ (s.chip.ports[n]).pd.accepted = some k ∧ s.chip.pond.grants = [] ∧ s.chip.pdLive n =
    true ∧ (s.chip.ports[n]).pd.readDue s.chip.clk.now = true ∧ (s.chip.ports[n]).pd.reached = false ∧ (s.chip.ports[n]).pd.inBand = true ∧
    s.chip.pdSt n = pdTRANSITION ∧ (s.chip.ports[n]).pd.until_ = none ∧ s.chip.get (.PD_VOUT n) F.PD_VOUT_TARGET ≠ 0 ∧ inBand (k.kind == pkPPS)
    (s.chip.get (.PD_VOUT n) F.PD_VOUT_TARGET) v.toNat = true) ∧
  (∃ s : State, ∃ n : Port, ∃ m : Fin 2, ∃ w : BitVec 16, Canon s.chip ∧ s.chip.pond.grants = [] ∧ s.chip.pdLive n = true ∧ s.chip.pdMaster n = m.val
    ∧ statusFault w = true ∧ s.chip.pdSt n ≠ pdOFF) ∧
  (∃ s : State, ∃ n : Port, ∃ w : BitVec 16, Canon s.chip ∧ s.chip.pond.grants = [] ∧ s.chip.pdLive n = true ∧ statusFault w = true ∧ s.chip.pdSt n ≠
    pdOFF ∧ (s.chip.ports[n]).pd.statusAt.all (fun t => t + ms 100 ≤ s.chip.clk.now) = true) ∧
  (∃ s : State, ∃ n : Port, Canon s.chip ∧ s.chip.pond.grants = [] ∧ s.chip.pdLive n = true ∧ s.chip.pdSt n ≠ pdOFF ∧ (s.chip.ports[n]).pd.noAcks <
    2) ∧
  (∃ s : State, ∃ n : Port, ∃ f : ConvFault, Canon s.chip ∧ s.chip.pond.grants = [] ∧ s.chip.pdLive n = true ∧ s.chip.pdSt n ≠ pdOFF ∧ ((f = .noAck ∧
    2 ≤ (s.chip.ports[n]).pd.noAcks) ∨ f = .busTimeout ∨ f = .voutMode ∨ (∃ w, f = .status w ∧ statusFault w = true))) :=
  ⟨⟨(at_ ((fields live [(.PIN_CFG 3, F.PIN_CFG_WIRING, 1), (.PD_CFG 3, F.PD_CFG_PD_EN, 1), (.PD_CFG 3, F.PD_CFG_POLICY, 0), (.PD_STATUS 3,
    F.PD_STATUS_STATE, pdWAIT_VBUS), (.PD_CAPS 3, F.PD_CAPS_EPR, 1)]).updPort 3 (fun k => { k with mode := .drop, pd := { converterOn := true, reached := true } }))),
    3, canon (by decide +kernel), by decide +kernel⟩,
  ⟨(at_ ((fields live [(.PIN_CFG 3, F.PIN_CFG_WIRING, 1), (.PD_CFG 3, F.PD_CFG_PD_EN, 1), (.PD_CFG 3, F.PD_CFG_POLICY, 0), (.PD_STATUS 3,
    F.PD_STATUS_STATE, pdSEND_CAPS)]).updPort 3 (fun k => { k with mode := .drop, pd := { until_ := some 10000000000000 } }))), 3, 10000000000000,
    canon (by decide +kernel), by decide +kernel⟩,
  ⟨(at_ ((fields live [(.PIN_CFG 3, F.PIN_CFG_WIRING, 1), (.PD_CFG 3, F.PD_CFG_PD_EN, 1), (.PD_CFG 3, F.PD_CFG_POLICY, 0), (.PD_STATUS 3,
    F.PD_STATUS_STATE, pdSEND_CAPS)]).updPort 3 (fun k => { k with mode := .drop, pd := { until_ := some 10000000000000 } }))), 3, 10000000000000,
    canon (by decide +kernel), by decide +kernel⟩,
  ⟨(at_ ((fields live [(.PIN_CFG 3, F.PIN_CFG_WIRING, 1), (.PD_CFG 3, F.PD_CFG_PD_EN, 1), (.PD_CFG 3, F.PD_CFG_POLICY, 0), (.PD_STATUS 3,
    F.PD_STATUS_STATE, pdSEND_CAPS)]).updPort 3 (fun k => { k with mode := .drop, pd := { until_ := some 10000000000000, capsAck := true } }))), 3,
    10000000000000, canon (by decide +kernel), by decide +kernel⟩,
  ⟨(at_ ((fields live [(.PIN_CFG 3, F.PIN_CFG_WIRING, 1), (.PD_CFG 3, F.PD_CFG_PD_EN, 1), (.PD_CFG 3, F.PD_CFG_POLICY, 0), (.PD_STATUS 3,
    F.PD_STATUS_STATE, pdREADY), (.PD_LIMIT 3, F.PD_LIMIT_PMAX, 60), (.PD_LIMIT 3, F.PD_LIMIT_IMAX, 60)]).updPort 3 (fun k => { k with mode := .drop, pd := {  } }))),
    3, canon (by decide +kernel), by decide +kernel⟩,
  ⟨(at_ ((fields live [(.PIN_CFG 3, F.PIN_CFG_WIRING, 1), (.PD_CFG 3, F.PD_CFG_PD_EN, 1), (.PD_CFG 3, F.PD_CFG_POLICY, 0), (.PD_STATUS 3,
    F.PD_STATUS_STATE, pdNEGOTIATING), (.PD_LIMIT 3, F.PD_LIMIT_PMAX, 60), (.PD_LIMIT 3, F.PD_LIMIT_IMAX, 60)]).updPort 3 (fun k => { k with mode := .drop, pd := { request := some ⟨1, 20, 0, false, pdREADY⟩ } }))),
    3, ((((at_ ((fields live [(.PIN_CFG 3, F.PIN_CFG_WIRING, 1), (.PD_CFG 3, F.PD_CFG_PD_EN, 1), (.PD_CFG 3, F.PD_CFG_POLICY, 0), (.PD_STATUS 3,
    F.PD_STATUS_STATE, pdNEGOTIATING), (.PD_LIMIT 3, F.PD_LIMIT_PMAX, 60), (.PD_LIMIT 3, F.PD_LIMIT_IMAX, 60)]).updPort 3 (fun k => { k with mode := .drop, pd := { request := some ⟨1, 20, 0, false, pdREADY⟩ } }))).chip.ports[3]).pd.request).get
    (by decide +kernel)), (((at_ ((fields live [(.PIN_CFG 3, F.PIN_CFG_WIRING, 1), (.PD_CFG 3, F.PD_CFG_PD_EN, 1), (.PD_CFG 3, F.PD_CFG_POLICY, 0),
    (.PD_STATUS 3, F.PD_STATUS_STATE, pdNEGOTIATING), (.PD_LIMIT 3, F.PD_LIMIT_PMAX, 60), (.PD_LIMIT 3, F.PD_LIMIT_IMAX, 60)]).updPort 3 (fun k => { k with mode := .drop, pd := { request := some ⟨1, 20, 0, false, pdREADY⟩ } }))).chip.requested
    3 ((((at_ ((fields live [(.PIN_CFG 3, F.PIN_CFG_WIRING, 1), (.PD_CFG 3, F.PD_CFG_PD_EN, 1), (.PD_CFG 3, F.PD_CFG_POLICY, 0), (.PD_STATUS 3,
    F.PD_STATUS_STATE, pdNEGOTIATING), (.PD_LIMIT 3, F.PD_LIMIT_PMAX, 60), (.PD_LIMIT 3, F.PD_LIMIT_IMAX, 60)]).updPort 3 (fun k => { k with mode := .drop, pd := { request := some ⟨1, 20, 0, false, pdREADY⟩ } }))).chip.ports[3]).pd.request).get
    (by decide +kernel)).obj ((((at_ ((fields live [(.PIN_CFG 3, F.PIN_CFG_WIRING, 1), (.PD_CFG 3, F.PD_CFG_PD_EN, 1), (.PD_CFG 3, F.PD_CFG_POLICY,
    0), (.PD_STATUS 3, F.PD_STATUS_STATE, pdNEGOTIATING), (.PD_LIMIT 3, F.PD_LIMIT_PMAX, 60), (.PD_LIMIT 3, F.PD_LIMIT_IMAX, 60)]).updPort 3 (fun k
    => { k with mode := .drop, pd := { request := some ⟨1, 20, 0, false, pdREADY⟩ } }))).chip.ports[3]).pd.request).get (by decide +kernel)).cur
    ((((at_ ((fields live [(.PIN_CFG 3, F.PIN_CFG_WIRING, 1), (.PD_CFG 3, F.PD_CFG_PD_EN, 1), (.PD_CFG 3, F.PD_CFG_POLICY, 0), (.PD_STATUS 3,
    F.PD_STATUS_STATE, pdNEGOTIATING), (.PD_LIMIT 3, F.PD_LIMIT_PMAX, 60), (.PD_LIMIT 3, F.PD_LIMIT_IMAX, 60)]).updPort 3 (fun k => { k with mode := .drop, pd := { request := some ⟨1, 20, 0, false, pdREADY⟩ } }))).chip.ports[3]).pd.request).get
    (by decide +kernel)).mv ((((at_ ((fields live [(.PIN_CFG 3, F.PIN_CFG_WIRING, 1), (.PD_CFG 3, F.PD_CFG_PD_EN, 1), (.PD_CFG 3, F.PD_CFG_POLICY,
    0), (.PD_STATUS 3, F.PD_STATUS_STATE, pdNEGOTIATING), (.PD_LIMIT 3, F.PD_LIMIT_PMAX, 60), (.PD_LIMIT 3, F.PD_LIMIT_IMAX, 60)]).updPort 3 (fun k
    => { k with mode := .drop, pd := { request := some ⟨1, 20, 0, false, pdREADY⟩ } }))).chip.ports[3]).pd.request).get (by decide +kernel)).epr).get
    (by decide +kernel)), canon (by decide +kernel), (Option.some_get (by decide +kernel)).symm, (Option.some_get (by decide +kernel)).symm, by
    decide +kernel⟩,
  ⟨(at_ ((fields live [(.PIN_CFG 3, F.PIN_CFG_WIRING, 1), (.PD_CFG 3, F.PD_CFG_PD_EN, 1), (.PD_CFG 3, F.PD_CFG_POLICY, 0), (.PD_STATUS 3,
    F.PD_STATUS_STATE, pdNEGOTIATING), (.PD_LIMIT 3, F.PD_LIMIT_PMAX, 60), (.PD_LIMIT 3, F.PD_LIMIT_IMAX, 60)]).updPort 3 (fun k => { k with mode := .drop, pd := { request := some ⟨1, 20, 0, false, pdREADY⟩ } }))),
    3, ((((at_ ((fields live [(.PIN_CFG 3, F.PIN_CFG_WIRING, 1), (.PD_CFG 3, F.PD_CFG_PD_EN, 1), (.PD_CFG 3, F.PD_CFG_POLICY, 0), (.PD_STATUS 3,
    F.PD_STATUS_STATE, pdNEGOTIATING), (.PD_LIMIT 3, F.PD_LIMIT_PMAX, 60), (.PD_LIMIT 3, F.PD_LIMIT_IMAX, 60)]).updPort 3 (fun k => { k with mode := .drop, pd := { request := some ⟨1, 20, 0, false, pdREADY⟩ } }))).chip.ports[3]).pd.request).get
    (by decide +kernel)), (((at_ ((fields live [(.PIN_CFG 3, F.PIN_CFG_WIRING, 1), (.PD_CFG 3, F.PD_CFG_PD_EN, 1), (.PD_CFG 3, F.PD_CFG_POLICY, 0),
    (.PD_STATUS 3, F.PD_STATUS_STATE, pdNEGOTIATING), (.PD_LIMIT 3, F.PD_LIMIT_PMAX, 60), (.PD_LIMIT 3, F.PD_LIMIT_IMAX, 60)]).updPort 3 (fun k => { k with mode := .drop, pd := { request := some ⟨1, 20, 0, false, pdREADY⟩ } }))).chip.requested
    3 ((((at_ ((fields live [(.PIN_CFG 3, F.PIN_CFG_WIRING, 1), (.PD_CFG 3, F.PD_CFG_PD_EN, 1), (.PD_CFG 3, F.PD_CFG_POLICY, 0), (.PD_STATUS 3,
    F.PD_STATUS_STATE, pdNEGOTIATING), (.PD_LIMIT 3, F.PD_LIMIT_PMAX, 60), (.PD_LIMIT 3, F.PD_LIMIT_IMAX, 60)]).updPort 3 (fun k => { k with mode := .drop, pd := { request := some ⟨1, 20, 0, false, pdREADY⟩ } }))).chip.ports[3]).pd.request).get
    (by decide +kernel)).obj ((((at_ ((fields live [(.PIN_CFG 3, F.PIN_CFG_WIRING, 1), (.PD_CFG 3, F.PD_CFG_PD_EN, 1), (.PD_CFG 3, F.PD_CFG_POLICY,
    0), (.PD_STATUS 3, F.PD_STATUS_STATE, pdNEGOTIATING), (.PD_LIMIT 3, F.PD_LIMIT_PMAX, 60), (.PD_LIMIT 3, F.PD_LIMIT_IMAX, 60)]).updPort 3 (fun k
    => { k with mode := .drop, pd := { request := some ⟨1, 20, 0, false, pdREADY⟩ } }))).chip.ports[3]).pd.request).get (by decide +kernel)).cur
    ((((at_ ((fields live [(.PIN_CFG 3, F.PIN_CFG_WIRING, 1), (.PD_CFG 3, F.PD_CFG_PD_EN, 1), (.PD_CFG 3, F.PD_CFG_POLICY, 0), (.PD_STATUS 3,
    F.PD_STATUS_STATE, pdNEGOTIATING), (.PD_LIMIT 3, F.PD_LIMIT_PMAX, 60), (.PD_LIMIT 3, F.PD_LIMIT_IMAX, 60)]).updPort 3 (fun k => { k with mode := .drop, pd := { request := some ⟨1, 20, 0, false, pdREADY⟩ } }))).chip.ports[3]).pd.request).get
    (by decide +kernel)).mv ((((at_ ((fields live [(.PIN_CFG 3, F.PIN_CFG_WIRING, 1), (.PD_CFG 3, F.PD_CFG_PD_EN, 1), (.PD_CFG 3, F.PD_CFG_POLICY,
    0), (.PD_STATUS 3, F.PD_STATUS_STATE, pdNEGOTIATING), (.PD_LIMIT 3, F.PD_LIMIT_PMAX, 60), (.PD_LIMIT 3, F.PD_LIMIT_IMAX, 60)]).updPort 3 (fun k
    => { k with mode := .drop, pd := { request := some ⟨1, 20, 0, false, pdREADY⟩ } }))).chip.ports[3]).pd.request).get (by decide +kernel)).epr).get
    (by decide +kernel)), canon (by decide +kernel), (Option.some_get (by decide +kernel)).symm, (Option.some_get (by decide +kernel)).symm, by
    decide +kernel⟩,
  ⟨(at_ ((fields live [(.PIN_CFG 3, F.PIN_CFG_WIRING, 1), (.PD_CFG 3, F.PD_CFG_PD_EN, 1), (.PD_CFG 3, F.PD_CFG_POLICY, 0), (.PD_STATUS 3,
    F.PD_STATUS_STATE, pdNEGOTIATING), (.PD_LIMIT 3, F.PD_LIMIT_PMAX, 60), (.PD_LIMIT 3, F.PD_LIMIT_IMAX, 60)]).updPort 3 (fun k => { k with mode := .drop, pd := { request := some ⟨1, 20, 0, false, pdREADY⟩ } }))),
    3, ((((at_ ((fields live [(.PIN_CFG 3, F.PIN_CFG_WIRING, 1), (.PD_CFG 3, F.PD_CFG_PD_EN, 1), (.PD_CFG 3, F.PD_CFG_POLICY, 0), (.PD_STATUS 3,
    F.PD_STATUS_STATE, pdNEGOTIATING), (.PD_LIMIT 3, F.PD_LIMIT_PMAX, 60), (.PD_LIMIT 3, F.PD_LIMIT_IMAX, 60)]).updPort 3 (fun k => { k with mode := .drop, pd := { request := some ⟨1, 20, 0, false, pdREADY⟩ } }))).chip.ports[3]).pd.request).get
    (by decide +kernel)), (((at_ ((fields live [(.PIN_CFG 3, F.PIN_CFG_WIRING, 1), (.PD_CFG 3, F.PD_CFG_PD_EN, 1), (.PD_CFG 3, F.PD_CFG_POLICY, 0),
    (.PD_STATUS 3, F.PD_STATUS_STATE, pdNEGOTIATING), (.PD_LIMIT 3, F.PD_LIMIT_PMAX, 60), (.PD_LIMIT 3, F.PD_LIMIT_IMAX, 60)]).updPort 3 (fun k => { k with mode := .drop, pd := { request := some ⟨1, 20, 0, false, pdREADY⟩ } }))).chip.requested
    3 ((((at_ ((fields live [(.PIN_CFG 3, F.PIN_CFG_WIRING, 1), (.PD_CFG 3, F.PD_CFG_PD_EN, 1), (.PD_CFG 3, F.PD_CFG_POLICY, 0), (.PD_STATUS 3,
    F.PD_STATUS_STATE, pdNEGOTIATING), (.PD_LIMIT 3, F.PD_LIMIT_PMAX, 60), (.PD_LIMIT 3, F.PD_LIMIT_IMAX, 60)]).updPort 3 (fun k => { k with mode := .drop, pd := { request := some ⟨1, 20, 0, false, pdREADY⟩ } }))).chip.ports[3]).pd.request).get
    (by decide +kernel)).obj ((((at_ ((fields live [(.PIN_CFG 3, F.PIN_CFG_WIRING, 1), (.PD_CFG 3, F.PD_CFG_PD_EN, 1), (.PD_CFG 3, F.PD_CFG_POLICY,
    0), (.PD_STATUS 3, F.PD_STATUS_STATE, pdNEGOTIATING), (.PD_LIMIT 3, F.PD_LIMIT_PMAX, 60), (.PD_LIMIT 3, F.PD_LIMIT_IMAX, 60)]).updPort 3 (fun k
    => { k with mode := .drop, pd := { request := some ⟨1, 20, 0, false, pdREADY⟩ } }))).chip.ports[3]).pd.request).get (by decide +kernel)).cur
    ((((at_ ((fields live [(.PIN_CFG 3, F.PIN_CFG_WIRING, 1), (.PD_CFG 3, F.PD_CFG_PD_EN, 1), (.PD_CFG 3, F.PD_CFG_POLICY, 0), (.PD_STATUS 3,
    F.PD_STATUS_STATE, pdNEGOTIATING), (.PD_LIMIT 3, F.PD_LIMIT_PMAX, 60), (.PD_LIMIT 3, F.PD_LIMIT_IMAX, 60)]).updPort 3 (fun k => { k with mode := .drop, pd := { request := some ⟨1, 20, 0, false, pdREADY⟩ } }))).chip.ports[3]).pd.request).get
    (by decide +kernel)).mv ((((at_ ((fields live [(.PIN_CFG 3, F.PIN_CFG_WIRING, 1), (.PD_CFG 3, F.PD_CFG_PD_EN, 1), (.PD_CFG 3, F.PD_CFG_POLICY,
    0), (.PD_STATUS 3, F.PD_STATUS_STATE, pdNEGOTIATING), (.PD_LIMIT 3, F.PD_LIMIT_PMAX, 60), (.PD_LIMIT 3, F.PD_LIMIT_IMAX, 60)]).updPort 3 (fun k
    => { k with mode := .drop, pd := { request := some ⟨1, 20, 0, false, pdREADY⟩ } }))).chip.ports[3]).pd.request).get (by decide +kernel)).epr).get
    (by decide +kernel)), canon (by decide +kernel), (Option.some_get (by decide +kernel)).symm, (Option.some_get (by decide +kernel)).symm, by
    decide +kernel⟩,
  ⟨(at_ ((fields live [(.PIN_CFG 3, F.PIN_CFG_WIRING, 1), (.PD_CFG 3, F.PD_CFG_PD_EN, 1), (.PD_CFG 3, F.PD_CFG_POLICY, 0), (.PD_STATUS 3,
    F.PD_STATUS_STATE, pdNEGOTIATING), (.PD_LIMIT 3, F.PD_LIMIT_PMAX, 60), (.PD_LIMIT 3, F.PD_LIMIT_IMAX, 60)]).updPort 3 (fun k => { k with mode := .drop, pd := { request := some ⟨1, 20, 0, false, pdREADY⟩ } }))),
    3, ((((at_ ((fields live [(.PIN_CFG 3, F.PIN_CFG_WIRING, 1), (.PD_CFG 3, F.PD_CFG_PD_EN, 1), (.PD_CFG 3, F.PD_CFG_POLICY, 0), (.PD_STATUS 3,
    F.PD_STATUS_STATE, pdNEGOTIATING), (.PD_LIMIT 3, F.PD_LIMIT_PMAX, 60), (.PD_LIMIT 3, F.PD_LIMIT_IMAX, 60)]).updPort 3 (fun k => { k with mode := .drop, pd := { request := some ⟨1, 20, 0, false, pdREADY⟩ } }))).chip.ports[3]).pd.request).get
    (by decide +kernel)), (((at_ ((fields live [(.PIN_CFG 3, F.PIN_CFG_WIRING, 1), (.PD_CFG 3, F.PD_CFG_PD_EN, 1), (.PD_CFG 3, F.PD_CFG_POLICY, 0),
    (.PD_STATUS 3, F.PD_STATUS_STATE, pdNEGOTIATING), (.PD_LIMIT 3, F.PD_LIMIT_PMAX, 60), (.PD_LIMIT 3, F.PD_LIMIT_IMAX, 60)]).updPort 3 (fun k => { k with mode := .drop, pd := { request := some ⟨1, 20, 0, false, pdREADY⟩ } }))).chip.requested
    3 ((((at_ ((fields live [(.PIN_CFG 3, F.PIN_CFG_WIRING, 1), (.PD_CFG 3, F.PD_CFG_PD_EN, 1), (.PD_CFG 3, F.PD_CFG_POLICY, 0), (.PD_STATUS 3,
    F.PD_STATUS_STATE, pdNEGOTIATING), (.PD_LIMIT 3, F.PD_LIMIT_PMAX, 60), (.PD_LIMIT 3, F.PD_LIMIT_IMAX, 60)]).updPort 3 (fun k => { k with mode := .drop, pd := { request := some ⟨1, 20, 0, false, pdREADY⟩ } }))).chip.ports[3]).pd.request).get
    (by decide +kernel)).obj ((((at_ ((fields live [(.PIN_CFG 3, F.PIN_CFG_WIRING, 1), (.PD_CFG 3, F.PD_CFG_PD_EN, 1), (.PD_CFG 3, F.PD_CFG_POLICY,
    0), (.PD_STATUS 3, F.PD_STATUS_STATE, pdNEGOTIATING), (.PD_LIMIT 3, F.PD_LIMIT_PMAX, 60), (.PD_LIMIT 3, F.PD_LIMIT_IMAX, 60)]).updPort 3 (fun k
    => { k with mode := .drop, pd := { request := some ⟨1, 20, 0, false, pdREADY⟩ } }))).chip.ports[3]).pd.request).get (by decide +kernel)).cur
    ((((at_ ((fields live [(.PIN_CFG 3, F.PIN_CFG_WIRING, 1), (.PD_CFG 3, F.PD_CFG_PD_EN, 1), (.PD_CFG 3, F.PD_CFG_POLICY, 0), (.PD_STATUS 3,
    F.PD_STATUS_STATE, pdNEGOTIATING), (.PD_LIMIT 3, F.PD_LIMIT_PMAX, 60), (.PD_LIMIT 3, F.PD_LIMIT_IMAX, 60)]).updPort 3 (fun k => { k with mode := .drop, pd := { request := some ⟨1, 20, 0, false, pdREADY⟩ } }))).chip.ports[3]).pd.request).get
    (by decide +kernel)).mv ((((at_ ((fields live [(.PIN_CFG 3, F.PIN_CFG_WIRING, 1), (.PD_CFG 3, F.PD_CFG_PD_EN, 1), (.PD_CFG 3, F.PD_CFG_POLICY,
    0), (.PD_STATUS 3, F.PD_STATUS_STATE, pdNEGOTIATING), (.PD_LIMIT 3, F.PD_LIMIT_PMAX, 60), (.PD_LIMIT 3, F.PD_LIMIT_IMAX, 60)]).updPort 3 (fun k
    => { k with mode := .drop, pd := { request := some ⟨1, 20, 0, false, pdREADY⟩ } }))).chip.ports[3]).pd.request).get (by decide +kernel)).epr).get
    (by decide +kernel)), canon (by decide +kernel), (Option.some_get (by decide +kernel)).symm, (Option.some_get (by decide +kernel)).symm, by
    decide +kernel⟩,
  ⟨(at_ ((fields live [(.PIN_CFG 3, F.PIN_CFG_WIRING, 1), (.PD_CFG 3, F.PD_CFG_PD_EN, 1), (.PD_CFG 3, F.PD_CFG_POLICY, 0), (.PD_STATUS 3,
    F.PD_STATUS_STATE, pdNEGOTIATING)]).updPort 3 (fun k => { k with mode := .drop, pd := { request := some ⟨9, 20, 0, false, pdREADY⟩ } }))), 3,
    ((((at_ ((fields live [(.PIN_CFG 3, F.PIN_CFG_WIRING, 1), (.PD_CFG 3, F.PD_CFG_PD_EN, 1), (.PD_CFG 3, F.PD_CFG_POLICY, 0), (.PD_STATUS 3,
    F.PD_STATUS_STATE, pdNEGOTIATING)]).updPort 3 (fun k => { k with mode := .drop, pd := { request := some ⟨9, 20, 0, false, pdREADY⟩ } }))).chip.ports[3]).pd.request).get
    (by decide +kernel)), canon (by decide +kernel), (Option.some_get (by decide +kernel)).symm, by decide +kernel⟩,
  ⟨(at_ ((fields live [(.PIN_CFG 3, F.PIN_CFG_WIRING, 1), (.PD_CFG 3, F.PD_CFG_PD_EN, 1), (.PD_CFG 3, F.PD_CFG_POLICY, 0), (.PD_STATUS 3,
    F.PD_STATUS_STATE, pdNEGOTIATING)]).updPort 3 (fun k => { k with mode := .drop, pd := { request := some ⟨9, 20, 0, false, pdREADY⟩ } }))), 3,
    ((((at_ ((fields live [(.PIN_CFG 3, F.PIN_CFG_WIRING, 1), (.PD_CFG 3, F.PD_CFG_PD_EN, 1), (.PD_CFG 3, F.PD_CFG_POLICY, 0), (.PD_STATUS 3,
    F.PD_STATUS_STATE, pdNEGOTIATING)]).updPort 3 (fun k => { k with mode := .drop, pd := { request := some ⟨9, 20, 0, false, pdREADY⟩ } }))).chip.ports[3]).pd.request).get
    (by decide +kernel)), canon (by decide +kernel), (Option.some_get (by decide +kernel)).symm, by decide +kernel⟩,
  ⟨(at_ ((fields live [(.PIN_CFG 3, F.PIN_CFG_WIRING, 1), (.PD_CFG 3, F.PD_CFG_PD_EN, 1), (.PD_CFG 3, F.PD_CFG_POLICY, 0), (.PD_STATUS 3,
    F.PD_STATUS_STATE, pdNEGOTIATING)]).updPort 3 (fun k => { k with mode := .drop, pd := { request := some ⟨9, 20, 0, false, pdREADY⟩ } }))), 3,
    ((((at_ ((fields live [(.PIN_CFG 3, F.PIN_CFG_WIRING, 1), (.PD_CFG 3, F.PD_CFG_PD_EN, 1), (.PD_CFG 3, F.PD_CFG_POLICY, 0), (.PD_STATUS 3,
    F.PD_STATUS_STATE, pdNEGOTIATING)]).updPort 3 (fun k => { k with mode := .drop, pd := { request := some ⟨9, 20, 0, false, pdREADY⟩ } }))).chip.ports[3]).pd.request).get
    (by decide +kernel)), canon (by decide +kernel), (Option.some_get (by decide +kernel)).symm, by decide +kernel⟩,
  ⟨(at_ ((fields live [(.PIN_CFG 3, F.PIN_CFG_WIRING, 1), (.PD_CFG 3, F.PD_CFG_PD_EN, 1), (.PD_CFG 3, F.PD_CFG_POLICY, 0), (.PD_STATUS 3,
    F.PD_STATUS_STATE, pdNEGOTIATING)]).updPort 3 (fun k => { k with mode := .drop, pd := { request := some ⟨9, 20, 0, false, pdREADY⟩ } }))), 3,
    ((((at_ ((fields live [(.PIN_CFG 3, F.PIN_CFG_WIRING, 1), (.PD_CFG 3, F.PD_CFG_PD_EN, 1), (.PD_CFG 3, F.PD_CFG_POLICY, 0), (.PD_STATUS 3,
    F.PD_STATUS_STATE, pdNEGOTIATING)]).updPort 3 (fun k => { k with mode := .drop, pd := { request := some ⟨9, 20, 0, false, pdREADY⟩ } }))).chip.ports[3]).pd.request).get
    (by decide +kernel)), canon (by decide +kernel), (Option.some_get (by decide +kernel)).symm, by decide +kernel⟩,
  ⟨(at_ ((fields live [(.PIN_CFG 3, F.PIN_CFG_WIRING, 1), (.PD_CFG 3, F.PD_CFG_PD_EN, 1), (.PD_CFG 3, F.PD_CFG_POLICY, 0), (.PD_STATUS 3,
    F.PD_STATUS_STATE, pdTRANSITION)]).updPort 3 (fun k => { k with mode := .drop, pd := {  } }))), 3, canon (by decide +kernel), by decide +kernel⟩,
  ⟨(at_ ((fields live [(.PIN_CFG 3, F.PIN_CFG_WIRING, 1), (.PD_CFG 3, F.PD_CFG_PD_EN, 1), (.PD_CFG 3, F.PD_CFG_POLICY, 0), (.PD_STATUS 3,
    F.PD_STATUS_STATE, pdTRANSITION)]).updPort 3 (fun k => { k with mode := .drop, pd := { until_ := some 10000000000000, accepted := some ⟨1, 60, 500, pkSPR⟩ } }))),
    3, 10000000000000, ((((at_ ((fields live [(.PIN_CFG 3, F.PIN_CFG_WIRING, 1), (.PD_CFG 3, F.PD_CFG_PD_EN, 1), (.PD_CFG 3, F.PD_CFG_POLICY, 0),
    (.PD_STATUS 3, F.PD_STATUS_STATE, pdTRANSITION)]).updPort 3 (fun k => { k with mode := .drop, pd := { until_ := some 10000000000000, accepted := some ⟨1, 60, 500, pkSPR⟩ } }))).chip.ports[3]).pd.accepted).get
    (by decide +kernel)), canon (by decide +kernel), (Option.some_get (by decide +kernel)).symm, by decide +kernel⟩,
  ⟨(at_ ((fields live [(.PIN_CFG 3, F.PIN_CFG_WIRING, 1), (.PD_CFG 3, F.PD_CFG_PD_EN, 1), (.PD_CFG 3, F.PD_CFG_POLICY, 0), (.PD_STATUS 3,
    F.PD_STATUS_STATE, pdTRANSITION), (.PD_VOUT 3, F.PD_VOUT_TARGET, 500)]).updPort 3 (fun k => { k with mode := .drop, pd := { converterOn := true, inBand := true, accepted := some ⟨1, 60, 500, pkSPR⟩ } }))),
    3, 500#16, ((((at_ ((fields live [(.PIN_CFG 3, F.PIN_CFG_WIRING, 1), (.PD_CFG 3, F.PD_CFG_PD_EN, 1), (.PD_CFG 3, F.PD_CFG_POLICY, 0), (.PD_STATUS
    3, F.PD_STATUS_STATE, pdTRANSITION), (.PD_VOUT 3, F.PD_VOUT_TARGET, 500)]).updPort 3 (fun k => { k with mode := .drop, pd := { converterOn := true, inBand := true, accepted := some ⟨1, 60, 500, pkSPR⟩ } }))).chip.ports[3]).pd.accepted).get
    (by decide +kernel)), canon (by decide +kernel), (Option.some_get (by decide +kernel)).symm, by decide +kernel⟩,
  ⟨(at_ ((fields live [(.PIN_CFG 3, F.PIN_CFG_WIRING, 1), (.PD_CFG 3, F.PD_CFG_PD_EN, 1), (.PD_CFG 3, F.PD_CFG_POLICY, 0), (.PD_STATUS 3,
    F.PD_STATUS_STATE, pdREADY), (.PD_CFG 3, F.PD_CFG_PMB, 1)]).updPort 3 (fun k => { k with mode := .drop, pd := {  } }))), 3, 1, 0x8000#16, canon
    (by decide +kernel), by decide +kernel⟩,
  ⟨(at_ ((fields live [(.PIN_CFG 3, F.PIN_CFG_WIRING, 1), (.PD_CFG 3, F.PD_CFG_PD_EN, 1), (.PD_CFG 3, F.PD_CFG_POLICY, 0), (.PD_STATUS 3,
    F.PD_STATUS_STATE, pdREADY)]).updPort 3 (fun k => { k with mode := .drop, pd := {  } }))), 3, 0x0004#16, canon (by decide +kernel), by
    decide +kernel⟩,
  ⟨(at_ ((fields live [(.PIN_CFG 3, F.PIN_CFG_WIRING, 1), (.PD_CFG 3, F.PD_CFG_PD_EN, 1), (.PD_CFG 3, F.PD_CFG_POLICY, 0), (.PD_STATUS 3,
    F.PD_STATUS_STATE, pdREADY)]).updPort 3 (fun k => { k with mode := .drop, pd := { noAcks := 1 } }))), 3, canon (by decide +kernel), by
    decide +kernel⟩,
  ⟨(at_ ((fields live [(.PIN_CFG 3, F.PIN_CFG_WIRING, 1), (.PD_CFG 3, F.PD_CFG_PD_EN, 1), (.PD_CFG 3, F.PD_CFG_POLICY, 0), (.PD_STATUS 3,
    F.PD_STATUS_STATE, pdREADY)]).updPort 3 (fun k => { k with mode := .drop, pd := { noAcks := 2 } }))), 3, .noAck, canon (by decide +kernel), by
    decide +kernel⟩⟩

/-- The hypotheses of each clause of `Obligations.PdMessages` are met. -/
theorem witness_PdMessages :
  (∃ s : State, ∃ n : Port, Canon s.chip ∧ s.chip.pond.grants = [] ∧ s.chip.pdLive n = true ∧ s.chip.pdSt n = pdREADY) ∧
  (∃ s : State, ∃ n : Port, Canon s.chip ∧ s.chip.pond.grants = [] ∧ s.chip.pdLive n = true ∧ s.chip.pdSt n = pdREADY) ∧
  (∃ s : State, ∃ n : Port, Canon s.chip ∧ s.chip.pond.grants = [] ∧ s.chip.pdLive n = true ∧ s.chip.pdSt n = pdREADY) ∧
  (∃ s : State, ∃ n : Port, Canon s.chip ∧ s.chip.pond.grants = [] ∧ s.chip.pdLive n = true ∧ s.chip.pdSt n = pdREADY) ∧
  (∃ s : State, ∃ n : Port, Canon s.chip ∧ s.chip.pond.grants = [] ∧ s.chip.pdLive n = true ∧ s.chip.pdSt n = pdREADY) ∧
  (∃ s : State, ∃ n : Port, Canon s.chip ∧ s.chip.pond.grants = [] ∧ s.chip.pdLive n = true ∧ s.chip.pdSt n = pdREADY ∧ s.chip.bit (.PD_STATUS n)
    F.PD_STATUS_EPR_MODE = true) ∧
  (∃ s : State, ∃ n : Port, Canon s.chip ∧ s.chip.pond.grants = [] ∧ s.chip.pdLive n = true ∧ s.chip.pdSt n = pdREADY) ∧
  (∃ s : State, ∃ n : Port, Canon s.chip ∧ s.chip.pond.grants = [] ∧ s.chip.pdLive n = true ∧ s.chip.pdSt n = pdREADY) ∧
  (∃ s : State, ∃ n : Port, Canon s.chip ∧ s.chip.pond.grants = [] ∧ s.chip.pdLive n = true ∧ s.chip.pdSt n = pdREADY ∧ s.chip.pdDirect n = false ∧
    s.chip.get (.PD_CAPS n) F.PD_CAPS_EPR ≠ 0 ∧ s.chip.bit (.PD_STATUS n) F.PD_STATUS_CABLE_EPR = true ∧ s.chip.pdReduced n = false) ∧
  (∃ s : State, ∃ n : Port, Canon s.chip ∧ s.chip.pond.grants = [] ∧ s.chip.pdLive n = true ∧ pdTalks (s.chip.pdSt n) = true ∧ s.chip.pdDirect n =
    false ∧ (s.chip.pdSt n ≠ pdREADY ∨ s.chip.bit (.PD_STATUS n) F.PD_STATUS_CABLE_EPR = false)) ∧
  (∃ s : State, ∃ n : Port, Canon s.chip ∧ s.chip.pond.grants = [] ∧ s.chip.pdLive n = true ∧ s.chip.pdSt n = pdREADY ∧ s.chip.pdDirect n = false ∧
    s.chip.bit (.PD_STATUS n) F.PD_STATUS_EPR_MODE = true ∧ s.chip.eprContract n = false) ∧
  (∃ s : State, ∃ n : Port, Canon s.chip ∧ s.chip.pond.grants = [] ∧ s.chip.pdLive n = true ∧ s.chip.pdSt n = pdREADY ∧ s.chip.pdDirect n = false ∧
    s.chip.bit (.PD_STATUS n) F.PD_STATUS_EPR_MODE = true ∧ s.chip.eprContract n = true) ∧
  (∃ s : State, ∃ n : Port, ∃ t, Canon s.chip ∧ s.chip.pond.grants = [] ∧ s.chip.pdLive n = true ∧ s.chip.pdSt n = pdREADY ∧ s.chip.pdRunning n =
    false ∧ (s.chip.ports[n]).pd.ngFrom = some t ∧ t + ms 16 ≤ s.chip.clk.now ∧ s.chip.needsCable n = false ∧ (s.chip.rails[s.chip.railOf n]).overB =
    true ∧ s.chip.pdReduced n = false) ∧
  (∃ s : State, ∃ n : Port, ∃ t, Canon s.chip ∧ s.chip.pond.grants = [] ∧ s.chip.pdLive n = true ∧ s.chip.pdSt n = pdREADY ∧
    (s.chip.ports[n]).pd.swap = .idle ∧ (s.chip.ports[n]).pd.discovering = false ∧ (s.chip.ports[n]).pd.swapWanted = true ∧
    (s.chip.ports[n]).pd.ngFrom = some t ∧ t + ms 16 ≤ s.chip.clk.now) ∧
  (∃ s : State, ∃ n : Port, ∃ t, ∃ k, Canon s.chip ∧ (s.chip.ports[n]).pd.contract = some k ∧ s.chip.pond.grants = [] ∧ s.chip.pdLive n = true ∧
    s.chip.pdSt n = pdREADY ∧ (s.chip.ports[n]).pd.answerBy = some t ∧ t ≤ s.chip.clk.now ∧ k.offered (s.chip.pdOffer n (s.chip.pdReduced n)) =
    false) ∧
  (∃ s : State, ∃ n : Port, ∃ t, Canon s.chip ∧ s.chip.pond.grants = [] ∧ s.chip.pdLive n = true ∧ s.chip.bit (.PD_STATUS n) F.PD_STATUS_EPR_MODE =
    true ∧ (s.chip.ports[n]).pd.keepAliveBy = some t ∧ t ≤ s.chip.clk.now) ∧
  (∃ s : State, ∃ n : Port, ∃ t, Canon s.chip ∧ s.chip.pond.grants = [] ∧ s.chip.pdLive n = true ∧ (s.chip.ports[n]).pd.ppsBy = some t ∧ t ≤
    s.chip.clk.now) ∧
  (∃ s : State, ∃ n : Port, ∃ m : Nat, Canon s.chip ∧ s.chip.pond.grants = [] ∧ s.chip.pdLive n = true ∧ s.chip.vconnSrc n = true ∧ 45 < m) ∧
  (∃ s : State, ∃ n : Port, Canon s.chip ∧ s.chip.pond.grants = [] ∧ s.chip.pdLive n = true ∧ (s.chip.ports[n]).pd.discovering = true ∧
    s.chip.vconnSrc n = true) ∧
  (∃ s : State, ∃ n : Port, Canon s.chip ∧ s.chip.pond.grants = [] ∧ s.chip.pdLive n = true ∧ s.chip.pdSt n = pdREADY ∧ s.chip.pdDirect n = false ∧
    (s.chip.ports[n]).pd.swap = .idle ∧ s.chip.vconnSrc n = true) ∧
  (∃ s : State, ∃ n : Port, Canon s.chip ∧ s.chip.pond.grants = [] ∧ s.chip.pdLive n = true ∧ s.chip.pdSt n = pdREADY ∧ s.chip.pdDirect n = false ∧
    (s.chip.ports[n]).pd.swap = .idle ∧ s.chip.vconnSrc n = false) ∧
  (∃ s : State, ∃ n : Port, ∃ t, Canon s.chip ∧ s.chip.pond.grants = [] ∧ s.chip.pdLive n = true ∧ (s.chip.ports[n]).pd.swap = .giving ∧
    (s.chip.ports[n]).pd.swapUntil = some t ∧ t ≤ s.chip.clk.now) ∧
  (∃ s : State, ∃ n : Port, ∃ t, Canon s.chip ∧ s.chip.pond.grants = [] ∧ s.chip.pdLive n = true ∧ (s.chip.ports[n]).pd.swap = .retry ∧
    (s.chip.ports[n]).pd.swapUntil = some t ∧ t ≤ s.chip.clk.now) ∧
  (∃ s : State, ∃ n : Port, ∃ t, Canon s.chip ∧ s.chip.pond.grants = [] ∧ s.chip.pdLive n = true ∧ (s.chip.ports[n]).pd.swap = .sent ∧
    (s.chip.ports[n]).pd.swapUntil = some t ∧ t ≤ s.chip.clk.now) ∧
  (∃ s : State, ∃ n : Port, Canon s.chip ∧ s.chip.pond.grants = [] ∧ s.chip.pdLive n = true ∧ (s.chip.pdSt n = pdREADY ∨ s.chip.pdSt n =
    pdTRANSITION)) ∧
  (∃ s : State, ∃ n : Port, ∃ t, Canon s.chip ∧ s.chip.pond.grants = [] ∧ s.chip.pdLive n = true ∧ s.chip.pdSt n = pdHARD_RESET ∧
    (s.chip.ports[n]).pd.until_ = some t ∧ t ≤ s.chip.clk.now) ∧
  (∃ s : State, ∃ n : Port, ∃ t, Canon s.chip ∧ s.chip.pond.grants = [] ∧ s.chip.pdLive n = true ∧ s.chip.pdSt n = pdERROR_RECOVERY ∧
    (s.chip.ports[n]).pd.until_ = some t ∧ t ≤ s.chip.clk.now) :=
  ⟨⟨(at_ ((fields live [(.PIN_CFG 3, F.PIN_CFG_WIRING, 1), (.PD_CFG 3, F.PD_CFG_PD_EN, 1), (.PD_CFG 3, F.PD_CFG_POLICY, 0), (.PD_STATUS 3,
    F.PD_STATUS_STATE, pdREADY)]).updPort 3 (fun k => { k with mode := .drop, pd := {  } }))), 3, canon (by decide +kernel), by decide +kernel⟩,
  ⟨(at_ ((fields live [(.PIN_CFG 3, F.PIN_CFG_WIRING, 1), (.PD_CFG 3, F.PD_CFG_PD_EN, 1), (.PD_CFG 3, F.PD_CFG_POLICY, 0), (.PD_STATUS 3,
    F.PD_STATUS_STATE, pdREADY)]).updPort 3 (fun k => { k with mode := .drop, pd := {  } }))), 3, canon (by decide +kernel), by decide +kernel⟩,
  ⟨(at_ ((fields live [(.PIN_CFG 3, F.PIN_CFG_WIRING, 1), (.PD_CFG 3, F.PD_CFG_PD_EN, 1), (.PD_CFG 3, F.PD_CFG_POLICY, 0), (.PD_STATUS 3,
    F.PD_STATUS_STATE, pdREADY)]).updPort 3 (fun k => { k with mode := .drop, pd := {  } }))), 3, canon (by decide +kernel), by decide +kernel⟩,
  ⟨(at_ ((fields live [(.PIN_CFG 3, F.PIN_CFG_WIRING, 1), (.PD_CFG 3, F.PD_CFG_PD_EN, 1), (.PD_CFG 3, F.PD_CFG_POLICY, 0), (.PD_STATUS 3,
    F.PD_STATUS_STATE, pdREADY)]).updPort 3 (fun k => { k with mode := .drop, pd := {  } }))), 3, canon (by decide +kernel), by decide +kernel⟩,
  ⟨(at_ ((fields live [(.PIN_CFG 3, F.PIN_CFG_WIRING, 1), (.PD_CFG 3, F.PD_CFG_PD_EN, 1), (.PD_CFG 3, F.PD_CFG_POLICY, 0), (.PD_STATUS 3,
    F.PD_STATUS_STATE, pdREADY)]).updPort 3 (fun k => { k with mode := .drop, pd := {  } }))), 3, canon (by decide +kernel), by decide +kernel⟩,
  ⟨(at_ ((fields live [(.PIN_CFG 3, F.PIN_CFG_WIRING, 1), (.PD_CFG 3, F.PD_CFG_PD_EN, 1), (.PD_CFG 3, F.PD_CFG_POLICY, 0), (.PD_STATUS 3,
    F.PD_STATUS_STATE, pdREADY), (.PD_STATUS 3, F.PD_STATUS_EPR_MODE, 1)]).updPort 3 (fun k => { k with mode := .drop, pd := {  } }))), 3, canon (by
    decide +kernel), by decide +kernel⟩,
  ⟨(at_ ((fields live [(.PIN_CFG 3, F.PIN_CFG_WIRING, 1), (.PD_CFG 3, F.PD_CFG_PD_EN, 1), (.PD_CFG 3, F.PD_CFG_POLICY, 0), (.PD_STATUS 3,
    F.PD_STATUS_STATE, pdREADY)]).updPort 3 (fun k => { k with mode := .drop, pd := {  } }))), 3, canon (by decide +kernel), by decide +kernel⟩,
  ⟨(at_ ((fields live [(.PIN_CFG 3, F.PIN_CFG_WIRING, 1), (.PD_CFG 3, F.PD_CFG_PD_EN, 1), (.PD_CFG 3, F.PD_CFG_POLICY, 0), (.PD_STATUS 3,
    F.PD_STATUS_STATE, pdREADY)]).updPort 3 (fun k => { k with mode := .drop, pd := { swap := .retry } }))), 3, canon (by decide +kernel), by
    decide +kernel⟩,
  ⟨(at_ ((fields live [(.PIN_CFG 3, F.PIN_CFG_WIRING, 1), (.PD_CFG 3, F.PD_CFG_PD_EN, 1), (.PD_CFG 3, F.PD_CFG_POLICY, 0), (.PD_STATUS 3,
    F.PD_STATUS_STATE, pdREADY), (.PD_CAPS 3, F.PD_CAPS_EPR, 1), (.PD_STATUS 3, F.PD_STATUS_CABLE_EPR, 1)]).updPort 3 (fun k => { k with mode := .drop, pd := {  } }))),
    3, canon (by decide +kernel), by decide +kernel⟩,
  ⟨(at_ ((fields live [(.PIN_CFG 3, F.PIN_CFG_WIRING, 1), (.PD_CFG 3, F.PD_CFG_PD_EN, 1), (.PD_CFG 3, F.PD_CFG_POLICY, 0), (.PD_STATUS 3,
    F.PD_STATUS_STATE, pdSEND_CAPS)]).updPort 3 (fun k => { k with mode := .drop, pd := {  } }))), 3, canon (by decide +kernel), by decide +kernel⟩,
  ⟨(at_ ((fields live [(.PIN_CFG 3, F.PIN_CFG_WIRING, 1), (.PD_CFG 3, F.PD_CFG_PD_EN, 1), (.PD_CFG 3, F.PD_CFG_POLICY, 0), (.PD_STATUS 3,
    F.PD_STATUS_STATE, pdREADY), (.PD_STATUS 3, F.PD_STATUS_EPR_MODE, 1)]).updPort 3 (fun k => { k with mode := .drop, pd := {  } }))), 3, canon (by
    decide +kernel), by decide +kernel⟩,
  ⟨(at_ ((fields live [(.PIN_CFG 3, F.PIN_CFG_WIRING, 1), (.PD_CFG 3, F.PD_CFG_PD_EN, 1), (.PD_CFG 3, F.PD_CFG_POLICY, 0), (.PD_STATUS 3,
    F.PD_STATUS_STATE, pdREADY), (.PD_STATUS 3, F.PD_STATUS_EPR_MODE, 1)]).updPort 3 (fun k => { k with mode := .drop, pd := { contract := some ⟨1, 60, 500, pkEPR⟩ } }))),
    3, canon (by decide +kernel), by decide +kernel⟩,
  ⟨(at_ (((fields live [(.PIN_CFG 3, F.PIN_CFG_WIRING, 1), (.PD_CFG 3, F.PD_CFG_PD_EN, 1), (.PD_CFG 3, F.PD_CFG_POLICY, 0), (.PD_STATUS 3,
    F.PD_STATUS_STATE, pdREADY)]).updPort 3 (fun k => { k with mode := .drop, pd := { ngFrom := some (10000000000000 - ms 16), cableKnown := true, contract := some ⟨1, 60, 500, pkSPR⟩ } })).updRail
    0 (fun k => { k with overB := true }))), 3, (10000000000000 - ms 16), canon (by decide +kernel), by decide +kernel⟩,
  ⟨(at_ ((fields live [(.PIN_CFG 3, F.PIN_CFG_WIRING, 1), (.PD_CFG 3, F.PD_CFG_PD_EN, 1), (.PD_CFG 3, F.PD_CFG_POLICY, 0), (.PD_STATUS 3,
    F.PD_STATUS_STATE, pdREADY)]).updPort 3 (fun k => { k with mode := .drop, pd := { ngFrom := some (10000000000000 - ms 16), swapWanted := true, contract := some ⟨1, 60, 500, pkSPR⟩ } }))),
    3, (10000000000000 - ms 16), canon (by decide +kernel), by decide +kernel⟩,
  ⟨(at_ ((fields live [(.PIN_CFG 3, F.PIN_CFG_WIRING, 1), (.PD_CFG 3, F.PD_CFG_PD_EN, 1), (.PD_CFG 3, F.PD_CFG_POLICY, 0), (.PD_STATUS 3,
    F.PD_STATUS_STATE, pdREADY)]).updPort 3 (fun k => { k with mode := .drop, pd := { answerBy := some 10000000000000, contract := some ⟨2, 60, 1234, pkSPR⟩ } }))),
    3, 10000000000000, ((((at_ ((fields live [(.PIN_CFG 3, F.PIN_CFG_WIRING, 1), (.PD_CFG 3, F.PD_CFG_PD_EN, 1), (.PD_CFG 3, F.PD_CFG_POLICY, 0),
    (.PD_STATUS 3, F.PD_STATUS_STATE, pdREADY)]).updPort 3 (fun k => { k with mode := .drop, pd := { answerBy := some 10000000000000, contract := some ⟨2, 60, 1234, pkSPR⟩ } }))).chip.ports[3]).pd.contract).get
    (by decide +kernel)), canon (by decide +kernel), (Option.some_get (by decide +kernel)).symm, by decide +kernel⟩,
  ⟨(at_ ((fields live [(.PIN_CFG 3, F.PIN_CFG_WIRING, 1), (.PD_CFG 3, F.PD_CFG_PD_EN, 1), (.PD_CFG 3, F.PD_CFG_POLICY, 0), (.PD_STATUS 3,
    F.PD_STATUS_STATE, pdREADY), (.PD_STATUS 3, F.PD_STATUS_EPR_MODE, 1)]).updPort 3 (fun k => { k with mode := .drop, pd := { keepAliveBy := some 10000000000000 } }))),
    3, 10000000000000, canon (by decide +kernel), by decide +kernel⟩,
  ⟨(at_ ((fields live [(.PIN_CFG 3, F.PIN_CFG_WIRING, 1), (.PD_CFG 3, F.PD_CFG_PD_EN, 1), (.PD_CFG 3, F.PD_CFG_POLICY, 0), (.PD_STATUS 3,
    F.PD_STATUS_STATE, pdREADY)]).updPort 3 (fun k => { k with mode := .drop, pd := { ppsBy := some 10000000000000 } }))), 3, 10000000000000, canon
    (by decide +kernel), by decide +kernel⟩,
  ⟨(at_ ((fields live [(.PIN_CFG 3, F.PIN_CFG_WIRING, 1), (.PD_CFG 3, F.PD_CFG_PD_EN, 1), (.PD_CFG 3, F.PD_CFG_POLICY, 0), (.PD_STATUS 3,
    F.PD_STATUS_STATE, pdREADY), (.PD_STATUS 3, F.PD_STATUS_VCONN_SRC, 1)]).updPort 3 (fun k => { k with mode := .drop, pd := {  } }))), 3, 46, canon
    (by decide +kernel), by decide +kernel⟩,
  ⟨(at_ ((fields live [(.PIN_CFG 3, F.PIN_CFG_WIRING, 1), (.PD_CFG 3, F.PD_CFG_PD_EN, 1), (.PD_CFG 3, F.PD_CFG_POLICY, 0), (.PD_STATUS 3,
    F.PD_STATUS_STATE, pdREADY), (.PD_STATUS 3, F.PD_STATUS_VCONN_SRC, 1)]).updPort 3 (fun k => { k with mode := .drop, pd := { discovering := true } }))),
    3, canon (by decide +kernel), by decide +kernel⟩,
  ⟨(at_ ((fields live [(.PIN_CFG 3, F.PIN_CFG_WIRING, 1), (.PD_CFG 3, F.PD_CFG_PD_EN, 1), (.PD_CFG 3, F.PD_CFG_POLICY, 0), (.PD_STATUS 3,
    F.PD_STATUS_STATE, pdREADY), (.PD_STATUS 3, F.PD_STATUS_VCONN_SRC, 1)]).updPort 3 (fun k => { k with mode := .drop, pd := {  } }))), 3, canon (by
    decide +kernel), by decide +kernel⟩,
  ⟨(at_ ((fields live [(.PIN_CFG 3, F.PIN_CFG_WIRING, 1), (.PD_CFG 3, F.PD_CFG_PD_EN, 1), (.PD_CFG 3, F.PD_CFG_POLICY, 0), (.PD_STATUS 3,
    F.PD_STATUS_STATE, pdREADY), (.PD_STATUS 3, F.PD_STATUS_VCONN_SRC, 0)]).updPort 3 (fun k => { k with mode := .drop, pd := {  } }))), 3, canon (by
    decide +kernel), by decide +kernel⟩,
  ⟨(at_ ((fields live [(.PIN_CFG 3, F.PIN_CFG_WIRING, 1), (.PD_CFG 3, F.PD_CFG_PD_EN, 1), (.PD_CFG 3, F.PD_CFG_POLICY, 0), (.PD_STATUS 3,
    F.PD_STATUS_STATE, pdVCONN_SWAP)]).updPort 3 (fun k => { k with mode := .drop, pd := { swap := .giving, swapUntil := some 10000000000000 } }))),
    3, 10000000000000, canon (by decide +kernel), by decide +kernel⟩,
  ⟨(at_ ((fields live [(.PIN_CFG 3, F.PIN_CFG_WIRING, 1), (.PD_CFG 3, F.PD_CFG_PD_EN, 1), (.PD_CFG 3, F.PD_CFG_POLICY, 0), (.PD_STATUS 3,
    F.PD_STATUS_STATE, pdREADY)]).updPort 3 (fun k => { k with mode := .drop, pd := { swap := .retry, swapUntil := some 10000000000000 } }))), 3,
    10000000000000, canon (by decide +kernel), by decide +kernel⟩,
  ⟨(at_ ((fields live [(.PIN_CFG 3, F.PIN_CFG_WIRING, 1), (.PD_CFG 3, F.PD_CFG_PD_EN, 1), (.PD_CFG 3, F.PD_CFG_POLICY, 0), (.PD_STATUS 3,
    F.PD_STATUS_STATE, pdVCONN_SWAP)]).updPort 3 (fun k => { k with mode := .drop, pd := { swap := .sent, swapUntil := some 10000000000000 } }))), 3,
    10000000000000, canon (by decide +kernel), by decide +kernel⟩,
  ⟨(at_ ((fields live [(.PIN_CFG 3, F.PIN_CFG_WIRING, 1), (.PD_CFG 3, F.PD_CFG_PD_EN, 1), (.PD_CFG 3, F.PD_CFG_POLICY, 0), (.PD_STATUS 3,
    F.PD_STATUS_STATE, pdTRANSITION)]).updPort 3 (fun k => { k with mode := .drop, pd := {  } }))), 3, canon (by decide +kernel), by decide +kernel⟩,
  ⟨(at_ ((fields live [(.PIN_CFG 3, F.PIN_CFG_WIRING, 1), (.PD_CFG 3, F.PD_CFG_PD_EN, 1), (.PD_CFG 3, F.PD_CFG_POLICY, 0), (.PD_STATUS 3,
    F.PD_STATUS_STATE, pdHARD_RESET)]).updPort 3 (fun k => { k with mode := .drop, pd := { until_ := some 10000000000000 } }))), 3, 10000000000000,
    canon (by decide +kernel), by decide +kernel⟩,
  ⟨(at_ ((fields live [(.PIN_CFG 3, F.PIN_CFG_WIRING, 1), (.PD_CFG 3, F.PD_CFG_PD_EN, 1), (.PD_CFG 3, F.PD_CFG_POLICY, 0), (.PD_STATUS 3,
    F.PD_STATUS_STATE, pdERROR_RECOVERY)]).updPort 3 (fun k => { k with mode := .drop, pd := { until_ := some 10000000000000 } }))), 3,
    10000000000000, canon (by decide +kernel), by decide +kernel⟩⟩

/-- The hypotheses of each clause of `Obligations.DropRequests` are met. -/
theorem witness_DropRequests :
  (∃ s : State, ∃ q : ReqId, ∃ n : Port, ∃ e, Canon s.chip ∧ ForPort s.chip q 0x0401#16 n e ∧ s.chip.pond.grants = [] ∧ s.chip.isDrop n = true) ∧
  (∃ s : State, ∃ q : ReqId, ∃ n : Port, ∃ e, Canon s.chip ∧ ForPort s.chip q 0x0402#16 n e ∧ s.chip.pond.grants = [] ∧ s.chip.isDrop n = true ∧
    s.chip.root n = rsDEFAULT ∧ (s.chip.ports[n]).drop.enum = none) ∧
  (∃ s : State, ∃ q : ReqId, ∃ n : Port, ∃ e, ∃ r : BitVec 20, ∃ d, Canon s.chip ∧ ForPort s.chip q 0x0402#16 n e ∧ s.chip.pond.grants = [] ∧
    s.chip.isDrop n = true ∧ r ≠ 0#20 ∧ s.chip.dev? n r = some d ∧ d.waits = true ∧ s.chip.root n = rsACTIVE ∧ (s.chip.ports[n]).drop.enum = none ∧
    (s.chip.ports[n]).drop.enumQ = []) ∧
  (∃ s : State, ∃ q : ReqId, ∃ n : Port, ∃ e, Canon s.chip ∧ ForPort s.chip q 0x0402#16 n e ∧ s.chip.pond.grants = [] ∧ s.chip.isDrop n = true ∧
    s.chip.root n = rsACTIVE) ∧
  (∃ s : State, ∃ q : ReqId, ∃ n : Port, ∃ e, Canon s.chip ∧ ForPort s.chip q 0x0403#16 n e ∧ s.chip.pond.grants = [] ∧ s.chip.isDrop n = true ∧
    s.chip.pond.waiters = [] ∧ s.chip.pond.rebuild = false ∧ s.chip.root n = rsACTIVE) ∧
  (∃ s : State, ∃ q : ReqId, ∃ n : Port, ∃ e, Canon s.chip ∧ ForPort s.chip q 0x0404#16 n e ∧ s.chip.pond.grants = [] ∧ s.chip.isDrop n = true ∧
    s.chip.root n = rsACTIVE) ∧
  (∃ s : State, ∃ q : ReqId, ∃ n : Port, ∃ e, Canon s.chip ∧ ForPort s.chip q 0x0404#16 n e ∧ s.chip.pond.grants = [] ∧ s.chip.isDrop n = true ∧
    s.chip.root n = rsSUSPENDED ∧ (s.chip.ports[n]).drop.resume = none) ∧
  (∃ s : State, ∃ q : ReqId, ∃ n : Port, ∃ e, Canon s.chip ∧ ForPort s.chip q 0x0405#16 n e ∧ s.chip.pond.grants = [] ∧ s.chip.isDrop n = true ∧
    s.chip.root n = rsSUSPENDED ∧ (s.chip.ports[n]).drop.resume = none) ∧
  (∃ s : State, ∃ q : ReqId, ∃ n : Port, ∃ e, Canon s.chip ∧ ForPort s.chip q 0x0405#16 n e ∧ s.chip.pond.grants = [] ∧ s.chip.isDrop n = true ∧
    s.chip.root n = rsACTIVE) ∧
  (∃ s : State, ∃ q : ReqId, ∃ n : Port, ∃ e, Canon s.chip ∧ ForPort s.chip q 0x0405#16 n e ∧ s.chip.pond.grants = [] ∧ s.chip.isDrop n = true ∧
    s.chip.root n = rsRECOVERY) ∧
  (∃ s : State, ∃ q : ReqId, ∃ n : Port, ∃ e, ∃ k : Nat, Canon s.chip ∧ ForPort s.chip q 0x0406#16 n e ∧ s.chip.pond.grants = [] ∧ s.chip.isDrop n =
    true ∧ k ≤ 8) ∧
  (∃ s : State, ∃ q : ReqId, ∃ n : Port, ∃ e, Canon s.chip ∧ ForPort s.chip q 0x0407#16 n e ∧ s.chip.pond.grants = [] ∧ s.chip.isDrop n = true ∧
    s.chip.frozen = false) ∧
  (∃ s : State, ∃ q : ReqId, ∃ n : Port, ∃ e, ∃ r : BitVec 20, ∃ d, ∃ u : List Byte, ∃ o : List Byte, Canon s.chip ∧ ForPort s.chip q 0x0408#16 n e ∧
    s.chip.pond.grants = [] ∧ s.chip.isDrop n = true ∧ s.chip.dev? n r = some d ∧ d.configured = true ∧ u.length = 8 ∧ o.length ≤ 32 ∧ refusedCtl
    d.hub u = none ∧ (resyncOf u).sets = false) ∧
  (∃ s : State, ∃ q : ReqId, ∃ n : Port, ∃ e, ∃ r : BitVec 20, ∃ d, ∃ u : List Byte, ∃ o : List Byte, ∃ v, Canon s.chip ∧ ForPort s.chip q 0x0408#16
    n e ∧ s.chip.pond.grants = [] ∧ s.chip.isDrop n = true ∧ s.chip.dev? n r = some d ∧ d.configured = true ∧ u.length = 8 ∧ o.length ≤ 32 ∧
    refusedCtl d.hub u = some v ∧ s.chip.pond.rebuild = false) ∧
  (∃ s : State, ∃ q : ReqId, ∃ n : Port, ∃ e, ∃ r : BitVec 20, ∃ d, ∃ p : Byte, ∃ b : Byte, ∃ w : Byte, ∃ x, Canon s.chip ∧ ForPort s.chip q
    0x0409#16 n e ∧ s.chip.pond.grants = [] ∧ s.chip.isDrop n = true ∧ s.chip.dev? n r = some d ∧ s.chip.ep? d.cid p = some x ∧ b ≠ 0#8 ∧ w ≠ 0#8) ∧
  (∃ s : State, ∃ q : ReqId, ∃ n : Port, ∃ e, ∃ i : Cid, ∃ g : Byte, ∃ v : Nat, ∃ st, Canon s.chip ∧ ForPort s.chip q 0x040A#16 n e ∧
    s.chip.pond.grants = [] ∧ s.chip.isDrop n = true ∧ s.chip.strmRef? i.toNat g = some st ∧ st.door = q.door ∧ v ≤ 65536) ∧
  (∃ s : State, ∃ q : ReqId, ∃ n : Port, ∃ e, Canon s.chip ∧ ForPort s.chip q 0x040B#16 n e ∧ s.chip.pond.grants = [] ∧ s.chip.isDrop n = true) ∧
  (∃ s : State, ∃ q : ReqId, ∃ n : Port, ∃ e, ∃ k : Nat, Canon s.chip ∧ ForPort s.chip q 0x040C#16 n e ∧ s.chip.pond.grants = [] ∧ s.chip.isDrop n =
    true ∧ k ≤ 8) :=
  ⟨⟨(at_ (ask 0x0401#16 1 ((3 : Port)).val ((fields live [(.DROP_STATUS 3, F.DROP_STATUS_STATE, rsACTIVE)]).updPort 3 (fun k => { k with mode := .drop, drop := { devs := [dev0] } })))),
    q0, 3, (entry 0x0401#16 1 ((3 : Port)).val), canon (by decide +kernel), forPort (by decide +kernel), by decide +kernel⟩,
  ⟨(at_ (ask 0x0402#16 1 ((3 : Port)).val ((fields live [(.DROP_STATUS 3, F.DROP_STATUS_STATE, rsDEFAULT)]).updPort 3 (fun k => { k with mode := .drop, drop := {  } })))),
    q0, 3, (entry 0x0402#16 1 ((3 : Port)).val), canon (by decide +kernel), forPort (by decide +kernel), by decide +kernel⟩,
  ⟨(at_ (ask 0x0402#16 1 ((3 : Port)).val ((fields live [(.DROP_STATUS 3, F.DROP_STATUS_STATE, rsACTIVE)]).updPort 3 (fun k => { k with mode := .drop, drop := { devs := [dev0, { dev0 with route := 1#20, waits := true }] } })))),
    q0, 3, (entry 0x0402#16 1 ((3 : Port)).val), 1#20, ({ dev0 with route := 1#20, waits := true }), canon (by decide +kernel), forPort (by
    decide +kernel), by decide +kernel⟩,
  ⟨(at_ (ask 0x0402#16 1 ((3 : Port)).val ((fields live [(.DROP_STATUS 3, F.DROP_STATUS_STATE, rsACTIVE)]).updPort 3 (fun k => { k with mode := .drop, drop := { devs := [dev0] } })))),
    q0, 3, (entry 0x0402#16 1 ((3 : Port)).val), canon (by decide +kernel), forPort (by decide +kernel), by decide +kernel⟩,
  ⟨(at_ (ask 0x0403#16 1 ((3 : Port)).val ((fields live [(.DROP_STATUS 3, F.DROP_STATUS_STATE, rsACTIVE)]).updPort 3 (fun k => { k with mode := .drop, drop := {  } })))),
    q0, 3, (entry 0x0403#16 1 ((3 : Port)).val), canon (by decide +kernel), forPort (by decide +kernel), by decide +kernel⟩,
  ⟨(at_ (ask 0x0404#16 1 ((3 : Port)).val ((fields live [(.DROP_STATUS 3, F.DROP_STATUS_STATE, rsACTIVE)]).updPort 3 (fun k => { k with mode := .drop, drop := {  } })))),
    q0, 3, (entry 0x0404#16 1 ((3 : Port)).val), canon (by decide +kernel), forPort (by decide +kernel), by decide +kernel⟩,
  ⟨(at_ (ask 0x0404#16 1 ((3 : Port)).val ((fields live [(.DROP_STATUS 3, F.DROP_STATUS_STATE, rsSUSPENDED)]).updPort 3 (fun k => { k with mode := .drop, drop := {  } })))),
    q0, 3, (entry 0x0404#16 1 ((3 : Port)).val), canon (by decide +kernel), forPort (by decide +kernel), by decide +kernel⟩,
  ⟨(at_ (ask 0x0405#16 1 ((3 : Port)).val ((fields live [(.DROP_STATUS 3, F.DROP_STATUS_STATE, rsSUSPENDED)]).updPort 3 (fun k => { k with mode := .drop, drop := {  } })))),
    q0, 3, (entry 0x0405#16 1 ((3 : Port)).val), canon (by decide +kernel), forPort (by decide +kernel), by decide +kernel⟩,
  ⟨(at_ (ask 0x0405#16 1 ((3 : Port)).val ((fields live [(.DROP_STATUS 3, F.DROP_STATUS_STATE, rsACTIVE)]).updPort 3 (fun k => { k with mode := .drop, drop := {  } })))),
    q0, 3, (entry 0x0405#16 1 ((3 : Port)).val), canon (by decide +kernel), forPort (by decide +kernel), by decide +kernel⟩,
  ⟨(at_ (ask 0x0405#16 1 ((3 : Port)).val ((fields live [(.DROP_STATUS 3, F.DROP_STATUS_STATE, rsRECOVERY)]).updPort 3 (fun k => { k with mode := .drop, drop := {  } })))),
    q0, 3, (entry 0x0405#16 1 ((3 : Port)).val), canon (by decide +kernel), forPort (by decide +kernel), by decide +kernel⟩,
  ⟨(at_ (ask 0x0406#16 1 ((3 : Port)).val ((fields live [(.DROP_STATUS 3, F.DROP_STATUS_STATE, rsACTIVE)]).updPort 3 (fun k => { k with mode := .drop, drop := { devs := [dev0] } })))),
    q0, 3, (entry 0x0406#16 1 ((3 : Port)).val), 8, canon (by decide +kernel), forPort (by decide +kernel), by decide +kernel⟩,
  ⟨(at_ (ask 0x0407#16 1 ((3 : Port)).val ((fields live [(.DROP_STATUS 3, F.DROP_STATUS_STATE, rsACTIVE)]).updPort 3 (fun k => { k with mode := .drop, drop := {  } })))),
    q0, 3, (entry 0x0407#16 1 ((3 : Port)).val), canon (by decide +kernel), forPort (by decide +kernel), by decide +kernel⟩,
  ⟨(at_ (ask 0x0408#16 1 ((3 : Port)).val ((fields live [(.DROP_STATUS 3, F.DROP_STATUS_STATE, rsACTIVE)]).updPort 3 (fun k => { k with mode := .drop, drop := { devs := [dev0] } })))),
    q0, 3, (entry 0x0408#16 1 ((3 : Port)).val), 0#20, dev0, ([0x80#8, 6#8, 0#8, 1#8, 0#8, 0#8, 18#8, 0#8]), ([]), canon (by decide +kernel), forPort
    (by decide +kernel), by decide +kernel⟩,
  ⟨(at_ (ask 0x0408#16 1 ((3 : Port)).val ((fields live [(.DROP_STATUS 3, F.DROP_STATUS_STATE, rsACTIVE)]).updPort 3 (fun k => { k with mode := .drop, drop := { devs := [dev0] } })))),
    q0, 3, (entry 0x0408#16 1 ((3 : Port)).val), 0#20, dev0, ([0#8, 5#8, 0#8, 1#8, 0#8, 0#8, 0#8, 0#8]), ([]), rBAD_ARG, canon (by decide +kernel),
    forPort (by decide +kernel), by decide +kernel⟩,
  ⟨(at_ (ask 0x0409#16 1 ((3 : Port)).val ((fields (live.updPond (fun k => { k with ctxs := [(20, { typ := tDEV, holder := 3, gen := 1#8, body := .dev { route := 0#20, addr := 1, speed := 0, state := 1, config := 1, desc := [] } }), (21, { typ := tEP, holder := 3, gen := 1#8, parent := 20, body := .ep ep0 })] }))
    [(.DROP_STATUS 3, F.DROP_STATUS_STATE, rsACTIVE)]).updPort 3 (fun k => { k with mode := .drop, drop := { devs := [dev0] } })))), q0, 3, (entry
    0x0409#16 1 ((3 : Port)).val), 0#20, dev0, 0x81#8, 255#8, 1#8, (21, ep0), canon (by decide +kernel), forPort (by decide +kernel), by
    decide +kernel⟩,
  ⟨(at_ (ask 0x040A#16 1 ((3 : Port)).val ((fields ((live.updPond (fun k => { k with ctxs := bulkCtxs })).updSvc (fun k => { k with streams := [strm0] }))
    [(.DROP_STATUS 3, F.DROP_STATUS_STATE, rsACTIVE)]).updPort 3 (fun k => { k with mode := .drop, drop := {  } })))), q0, 3, (entry 0x040A#16 1 ((3
    : Port)).val), 40#20, 1#8, 65536, strm0, canon (by decide +kernel), forPort (by decide +kernel), by decide +kernel⟩,
  ⟨(at_ (ask 0x040B#16 1 ((3 : Port)).val ((fields live [(.DROP_STATUS 3, F.DROP_STATUS_STATE, rsACTIVE)]).updPort 3 (fun k => { k with mode := .drop, drop := {  } })))),
    q0, 3, (entry 0x040B#16 1 ((3 : Port)).val), canon (by decide +kernel), forPort (by decide +kernel), by decide +kernel⟩,
  ⟨(at_ (ask 0x040C#16 1 ((3 : Port)).val ((fields live [(.DROP_STATUS 3, F.DROP_STATUS_STATE, rsACTIVE)]).updPort 3 (fun k => { k with mode := .drop, drop := {  } })))),
    q0, 3, (entry 0x040C#16 1 ((3 : Port)).val), 8, canon (by decide +kernel), forPort (by decide +kernel), by decide +kernel⟩⟩

/-- The hypotheses of each clause of `Obligations.DropAttach` are met. -/
theorem witness_DropAttach :
  (∃ s : State, ∃ n : Port, Canon s.chip ∧ s.chip.pond.grants = [] ∧ s.chip.isDrop n = true ∧ s.chip.basinUp n = true ∧ s.chip.detaching n = false ∧
    s.chip.root n = rsDISCONNECTED) ∧
  (∃ s : State, ∃ n : Port, Canon s.chip ∧ s.chip.pond.grants = [] ∧ s.chip.isDrop n = true ∧ s.chip.basinUp n = true ∧ s.chip.root n = rsDEBOUNCE) ∧
  (∃ s : State, ∃ n : Port, Canon s.chip ∧ s.chip.pond.grants = [] ∧ s.chip.isDrop n = true ∧ s.chip.basinUp n = true ∧ s.chip.root n = rsDEBOUNCE ∧
    s.chip.dropDue n = true) ∧
  (∃ s : State, ∃ n : Port, ∃ k : Nat, Canon s.chip ∧ s.chip.pond.grants = [] ∧ s.chip.isDrop n = true ∧ s.chip.root n = rsRESETTING ∧
    (s.chip.ports[n]).drop.pullup = some true ∧ (s.chip.ports[n]).drop.hsOk = true ∧ k ≤ 7000) ∧
  (∃ s : State, ∃ n : Port, Canon s.chip ∧ s.chip.pond.grants = [] ∧ s.chip.isDrop n = true ∧ s.chip.root n = rsRESETTING ∧ s.chip.dropDue n = true ∧
    (s.chip.ports[n]).drop.enum = none) ∧
  (∃ s : State, ∃ n : Port, ∃ x, Canon s.chip ∧ s.chip.enumLive n = some x ∧ s.chip.pond.grants = [] ∧ s.chip.isDrop n = true ∧ x.waitUntil = none ∧
    x.step = 1) ∧
  (∃ s : State, ∃ n : Port, ∃ x, Canon s.chip ∧ s.chip.enumLive n = some x ∧ s.chip.pond.grants = [] ∧ s.chip.isDrop n = true ∧ x.waitUntil = none ∧
    x.step = 2) ∧
  (∃ s : State, ∃ n : Port, ∃ x, ∃ t, Canon s.chip ∧ s.chip.enumLive n = some x ∧ s.chip.pond.grants = [] ∧ s.chip.isDrop n = true ∧ x.waitUntil =
    some t ∧ t ≤ s.chip.clk.now ∧ x.step ≠ 9) ∧
  (∃ s : State, ∃ n : Port, ∃ k, ∃ q, Canon s.chip ∧ s.chip.pond.grants = [] ∧ s.chip.isDrop n = true ∧ s.chip.enumLive n = none ∧ s.chip.root n =
    rsACTIVE ∧ (s.chip.ports[n]).drop.ctls = [k] ∧ k.by_ = .door q ∧ k.deadline ≤ s.chip.clk.now ∧ k.added = []) ∧
  (∃ s : State, ∃ n : Port, Canon s.chip ∧ s.chip.pond.grants = [] ∧ s.chip.isDrop n = true ∧ s.chip.basinUp n = true ∧ s.chip.pond.waiters = [] ∧
    rsDEBOUNCE ≤ s.chip.root n ∧ s.chip.root n ≤ rsRECOVERY) ∧
  (∃ s : State, ∃ n : Port, Canon s.chip ∧ s.chip.pond.grants = [] ∧ s.chip.isDrop n = true ∧ s.chip.typeC n = true ∧ (s.chip.chans[n]).phase =
    .armed ∧ s.chip.inrushOk n = true ∧ s.chip.dieUp (fuseDie n) = true ∧ s.chip.railUv (fuseDie n) (s.chip.railOf n) = false) ∧
  (∃ s : State, ∃ n : Port, Canon s.chip ∧ s.chip.pond.grants = [] ∧ s.chip.isDrop n = true ∧ s.chip.typeC n = true ∧
    (s.chip.ports[n]).drop.rd.isSome = true ∧ (s.chip.chans[n]).phase = .on) :=
  ⟨⟨(at_ ((fields live [(.DROP_STATUS 3, F.DROP_STATUS_STATE, rsDISCONNECTED)]).updPort 3 (fun k => { k with mode := .drop, drop := {  } }))), 3,
    canon (by decide +kernel), by decide +kernel⟩,
  ⟨(at_ ((fields live [(.DROP_STATUS 3, F.DROP_STATUS_STATE, rsDEBOUNCE)]).updPort 3 (fun k => { k with mode := .drop, drop := {  } }))), 3, canon
    (by decide +kernel), by decide +kernel⟩,
  ⟨(at_ ((fields live [(.DROP_STATUS 3, F.DROP_STATUS_STATE, rsDEBOUNCE)]).updPort 3 (fun k => { k with mode := .drop, drop := { until_ := some 10000000000000 } }))),
    3, canon (by decide +kernel), by decide +kernel⟩,
  ⟨(at_ ((fields live [(.DROP_STATUS 3, F.DROP_STATUS_STATE, rsRESETTING)]).updPort 3 (fun k => { k with mode := .drop, drop := { pullup := some true } }))),
    3, 7000, canon (by decide +kernel), by decide +kernel⟩,
  ⟨(at_ ((fields live [(.DROP_STATUS 3, F.DROP_STATUS_STATE, rsRESETTING)]).updPort 3 (fun k => { k with mode := .drop, drop := { until_ := some 10000000000000 } }))),
    3, canon (by decide +kernel), by decide +kernel⟩,
  ⟨(at_ ((fields live [(.DROP_STATUS 3, F.DROP_STATUS_STATE, rsENUMERATING)]).updPort 3 (fun k => { k with mode := .drop, drop := { enum := some { enum0 with step := 1 } } }))),
    3, (((at_ ((fields live [(.DROP_STATUS 3, F.DROP_STATUS_STATE, rsENUMERATING)]).updPort 3 (fun k => { k with mode := .drop, drop := { enum := some { enum0 with step := 1 } } }))).chip.enumLive
    3).get (by decide +kernel)), canon (by decide +kernel), (Option.some_get (by decide +kernel)).symm, by decide +kernel⟩,
  ⟨(at_ ((fields live [(.DROP_STATUS 3, F.DROP_STATUS_STATE, rsENUMERATING)]).updPort 3 (fun k => { k with mode := .drop, drop := { enum := some { enum0 with step := 2 } } }))),
    3, (((at_ ((fields live [(.DROP_STATUS 3, F.DROP_STATUS_STATE, rsENUMERATING)]).updPort 3 (fun k => { k with mode := .drop, drop := { enum := some { enum0 with step := 2 } } }))).chip.enumLive
    3).get (by decide +kernel)), canon (by decide +kernel), (Option.some_get (by decide +kernel)).symm, by decide +kernel⟩,
  ⟨(at_ ((fields live [(.DROP_STATUS 3, F.DROP_STATUS_STATE, rsENUMERATING)]).updPort 3 (fun k => { k with mode := .drop, drop := { enum := some { enum0 with step := 2, waitUntil := some 10000000000000 } } }))),
    3, (((at_ ((fields live [(.DROP_STATUS 3, F.DROP_STATUS_STATE, rsENUMERATING)]).updPort 3 (fun k => { k with mode := .drop, drop := { enum := some { enum0 with step := 2, waitUntil := some 10000000000000 } } }))).chip.enumLive
    3).get (by decide +kernel)), 10000000000000, canon (by decide +kernel), (Option.some_get (by decide +kernel)).symm, by decide +kernel⟩,
  ⟨(at_ ((fields live [(.DROP_STATUS 3, F.DROP_STATUS_STATE, rsACTIVE)]).updPort 3 (fun k => { k with mode := .drop, drop := { ctls := [{ ctl0 with deadline := 10000000000000 }] } }))),
    3, ((((at_ ((fields live [(.DROP_STATUS 3, F.DROP_STATUS_STATE, rsACTIVE)]).updPort 3 (fun k => { k with mode := .drop, drop := { ctls := [{ ctl0 with deadline := 10000000000000 }] } }))).chip.ports[3]).drop.ctls).head
    (by decide +kernel)), (⟨0, 5⟩), canon (by decide +kernel), by decide +kernel⟩,
  ⟨(at_ ((fields live [(.DROP_STATUS 3, F.DROP_STATUS_STATE, rsRECOVERY)]).updPort 3 (fun k => { k with mode := .drop, drop := { devs := [dev0] } }))),
    3, canon (by decide +kernel), by decide +kernel⟩,
  ⟨(at_ (((fields live [(.PIN_CFG 3, F.PIN_CFG_WIRING, 1), (.CH_SENSE 3, F.CH_SENSE_RSHUNT, 1000), (.RAIL_CFG 0, F.RAIL_CFG_EN, 1), (.DROP_STATUS 3,
    F.DROP_STATUS_STATE, 1)]).updChan 3 (fun k => { k with phase := .armed })).updPort 3 (fun k => { k with mode := .drop }))), 3, canon (by
    decide +kernel), by decide +kernel⟩,
  ⟨(at_ (((fields live [(.PIN_CFG 3, F.PIN_CFG_WIRING, 1), (.CH_SENSE 3, F.CH_SENSE_RSHUNT, 1000), (.RAIL_CFG 0, F.RAIL_CFG_EN, 1), (.DROP_STATUS 3,
    F.DROP_STATUS_STATE, 1)]).updChan 3 (fun k => { k with phase := .on })).updPort 3 (fun k => { k with mode := .drop, drop := { rd := some true } }))),
    3, canon (by decide +kernel), by decide +kernel⟩⟩

/-- The hypotheses of each clause of `Obligations.DropTraffic` are met. -/
theorem witness_DropTraffic :
  (∃ s : State, ∃ n : Port, Canon s.chip ∧ s.chip.pond.grants = [] ∧ s.chip.isDrop n = true ∧ s.chip.root n = rsSUSPENDING ∧ s.chip.dropDue n = true
    ∧ (s.chip.ports[n]).drop.resumeLater = []) ∧
  (∃ s : State, ∃ n : Port, ∃ a : BitVec 12, ∃ t, Canon s.chip ∧ s.chip.pond.grants = [] ∧ s.chip.isDrop n = true ∧ s.chip.root n = rsSUSPENDED ∧
    (s.chip.ports[n]).drop.overdrawAt = some t ∧ t ≤ s.chip.clk.now ∧ s.chip.get (.DROP_SUSP n) F.DROP_SUSP_SUSP_BUDGET < a.toNat) ∧
  (∃ s : State, ∃ n : Port, Canon s.chip ∧ s.chip.pond.grants = [] ∧ s.chip.isDrop n = true ∧ s.chip.root n = rsSUSPENDED ∧ s.chip.dozing = false ∧
    s.chip.bit (.DROP_CTL n) F.DROP_CTL_RWAKE_EN = true ∧ (s.chip.ports[n]).drop.resume = none) ∧
  (∃ s : State, ∃ n : Port, ∃ r, Canon s.chip ∧ (s.chip.ports[n]).drop.resume = some r ∧ s.chip.pond.grants = [] ∧ s.chip.isDrop n = true ∧ r.on =
    false ∧ r.driveAt ≤ s.chip.clk.now) ∧
  (∃ s : State, ∃ n : Port, ∃ r, Canon s.chip ∧ (s.chip.ports[n]).drop.resume = some r ∧ s.chip.pond.grants = [] ∧ s.chip.isDrop n = true ∧ r.on =
    false ∧ r.driveAt ≤ s.chip.clk.now) ∧
  (∃ s : State, ∃ n : Port, ∃ r, Canon s.chip ∧ (s.chip.ports[n]).drop.resume = some r ∧ DieFree s.chip (fuseDie n) ∧ s.chip.pond.grants = [] ∧
    s.chip.isDrop n = true ∧ r.on = false ∧ r.driveAt ≤ s.chip.clk.now ∧ (s.chip.chans[n]).phase = .suspend) ∧
  (∃ s : State, ∃ n : Port, Canon s.chip ∧ s.chip.pond.grants = [] ∧ s.chip.isDrop n = true ∧ s.chip.root n = rsSUSPENDED ∧ s.chip.dozing = false ∧
    s.chip.bit (.DROP_CTL n) F.DROP_CTL_RWAKE_EN = false) ∧
  (∃ s : State, ∃ n : Port, Canon s.chip ∧ s.chip.pond.grants = [] ∧ s.chip.isDrop n = true ∧ s.chip.root n = rsRESUMING ∧ s.chip.dropDue n = true) ∧
  (∃ s : State, ∃ n : Port, Canon s.chip ∧ s.chip.pond.grants = [] ∧ s.chip.isDrop n = true ∧ s.chip.root n = rsRECOVERY ∧ s.chip.dropDue n = true ∧
    (s.chip.ports[n]).drop.suspendLater = [] ∧ (s.chip.ports[n]).drop.enumQ = []) ∧
  (∃ s : State, ∃ n : Port, Canon s.chip ∧ s.chip.pond.grants = [] ∧ s.chip.isDrop n = true ∧ s.chip.sei.running = true ∧ s.chip.dozing = false ∧
    (s.chip.ports[n]).drop.lastM ≠ some (s.chip.sei.time.toNat / 200000)) ∧
  (∃ s : State, ∃ n : Port, ∃ r : BitVec 20, ∃ p : Byte, ∃ d, ∃ x, ∃ t, Canon s.chip ∧ s.chip.pond.grants = [] ∧ s.chip.isDrop n = true ∧
    s.chip.sofRuns n = true ∧ s.chip.root n = rsACTIVE ∧ (s.chip.ports[n]).drop.slot = some (s.chip.slotNow n) ∧ s.chip.nextTurn n = some (r, p,
    .bulk t) ∧ s.chip.dev? n r = some d ∧ s.chip.ttHere n d = none ∧ s.chip.ep? d.cid p = some x ∧ p.getLsbD 7 = true ∧ x.2.ep = p ∧ x.2.xfer = 2) ∧
  (∃ s : State, ∃ n : Port, ∃ h : BitVec 20, ∃ v, ∃ p : Nat, Canon s.chip ∧ s.chip.pond.grants = [] ∧ s.chip.isDrop n = true ∧ s.chip.dev? n h = some
    v ∧ s.chip.sofRuns n = true ∧ s.chip.root n = rsACTIVE ∧ v.configured = true ∧ p ≠ 0 ∧ p ≤ v.hubPorts ∧ v.pollOpen s.chip.frameMs p = true ∧
    s.chip.dev? n (routeChild h p) = none ∧ (s.chip.ports[n]).drop.enumQ = [] ∧ s.chip.bit (.DROP_CTL n) F.DROP_CTL_AUTO_ENUM = false) ∧
  (∃ s : State, ∃ n : Port, ∃ h : BitVec 20, ∃ v, ∃ p : Nat, Canon s.chip ∧ s.chip.pond.grants = [] ∧ s.chip.isDrop n = true ∧ s.chip.dev? n h = some
    v ∧ s.chip.sofRuns n = true ∧ s.chip.root n = rsACTIVE ∧ v.configured = true ∧ p ≠ 0 ∧ p ≤ v.hubPorts ∧ v.pollOpen s.chip.frameMs p = true) ∧
  (∃ s : State, ∃ n : Port, ∃ k : Nat, ∃ i : Nat, ∃ t, ∃ r, Canon s.chip ∧ s.chip.pond.grants = [] ∧ s.chip.isDrop n = true ∧
    s.chip.svc.streams.find? (fun t => t.id.toNat == k) = some t ∧ t.recs[i]? = some r ∧ r.st = .opened ∧ r.openedAt + ms (s.chip.getPos
    (.DROP_PARISON (Fin.ofNat 96 (r.src % 128))) F.DROP_PARISON_PARISON_MAX) < s.chip.clk.now) :=
  ⟨⟨(at_ ((fields live [(.DROP_STATUS 3, F.DROP_STATUS_STATE, rsSUSPENDING)]).updPort 3 (fun k => { k with mode := .drop, drop := { until_ := some 10000000000000 } }))),
    3, canon (by decide +kernel), by decide +kernel⟩,
  ⟨(at_ ((fields live [(.DROP_STATUS 3, F.DROP_STATUS_STATE, rsSUSPENDED)]).updPort 3 (fun k => { k with mode := .drop, drop := { overdrawAt := some 10000000000000 } }))),
    3, 4095#12, 10000000000000, canon (by decide +kernel), by decide +kernel⟩,
  ⟨(at_ ((fields live [(.DROP_STATUS 3, F.DROP_STATUS_STATE, rsSUSPENDED), (.DROP_CTL 3, F.DROP_CTL_RWAKE_EN, 1)]).updPort 3 (fun k => { k with mode := .drop, drop := {  } }))),
    3, canon (by decide +kernel), by decide +kernel⟩,
  ⟨(at_ ((((fields live [(.DROP_STATUS 3, F.DROP_STATUS_STATE, rsSUSPENDED)]).updPort 3 (fun k => { k with mode := .drop, drop := { resume := some ⟨[], true, false, 10000000000000, false⟩ } })).updChan
    3 (fun k => { k with phase := .suspend })).updPort 3 (fun k => { k with mode := .drop }))), 3, ((((at_ ((((fields live [(.DROP_STATUS 3,
    F.DROP_STATUS_STATE, rsSUSPENDED)]).updPort 3 (fun k => { k with mode := .drop, drop := { resume := some ⟨[], true, false, 10000000000000, false⟩ } })).updChan
    3 (fun k => { k with phase := .suspend })).updPort 3 (fun k => { k with mode := .drop }))).chip.ports[3]).drop.resume).get (by decide +kernel)),
    canon (by decide +kernel), (Option.some_get (by decide +kernel)).symm, by decide +kernel⟩,
  ⟨(at_ ((((fields live [(.DROP_STATUS 3, F.DROP_STATUS_STATE, rsSUSPENDED)]).updPort 3 (fun k => { k with mode := .drop, drop := { resume := some ⟨[], true, false, 10000000000000, false⟩ } })).updChan
    3 (fun k => { k with phase := .suspend })).updPort 3 (fun k => { k with mode := .drop }))), 3, ((((at_ ((((fields live [(.DROP_STATUS 3,
    F.DROP_STATUS_STATE, rsSUSPENDED)]).updPort 3 (fun k => { k with mode := .drop, drop := { resume := some ⟨[], true, false, 10000000000000, false⟩ } })).updChan
    3 (fun k => { k with phase := .suspend })).updPort 3 (fun k => { k with mode := .drop }))).chip.ports[3]).drop.resume).get (by decide +kernel)),
    canon (by decide +kernel), (Option.some_get (by decide +kernel)).symm, by decide +kernel⟩,
  ⟨(at_ ((((fields live [(.DROP_STATUS 3, F.DROP_STATUS_STATE, rsSUSPENDED)]).updPort 3 (fun k => { k with mode := .drop, drop := { resume := some ⟨[], true, false, 10000000000000, false⟩ } })).updChan
    3 (fun k => { k with phase := .suspend })).updPort 3 (fun k => { k with mode := .drop }))), 3, ((((at_ ((((fields live [(.DROP_STATUS 3,
    F.DROP_STATUS_STATE, rsSUSPENDED)]).updPort 3 (fun k => { k with mode := .drop, drop := { resume := some ⟨[], true, false, 10000000000000, false⟩ } })).updChan
    3 (fun k => { k with phase := .suspend })).updPort 3 (fun k => { k with mode := .drop }))).chip.ports[3]).drop.resume).get (by decide +kernel)),
    canon (by decide +kernel), (Option.some_get (by decide +kernel)).symm, dieFree (by decide +kernel), by decide +kernel⟩,
  ⟨(at_ ((fields live [(.DROP_STATUS 3, F.DROP_STATUS_STATE, rsSUSPENDED), (.DROP_CTL 3, F.DROP_CTL_RWAKE_EN, 0)]).updPort 3 (fun k => { k with mode := .drop, drop := {  } }))),
    3, canon (by decide +kernel), by decide +kernel⟩,
  ⟨(at_ ((fields live [(.DROP_STATUS 3, F.DROP_STATUS_STATE, rsRESUMING)]).updPort 3 (fun k => { k with mode := .drop, drop := { until_ := some 10000000000000 } }))),
    3, canon (by decide +kernel), by decide +kernel⟩,
  ⟨(at_ ((fields live [(.DROP_STATUS 3, F.DROP_STATUS_STATE, rsRECOVERY)]).updPort 3 (fun k => { k with mode := .drop, drop := { until_ := some 10000000000000 } }))),
    3, canon (by decide +kernel), by decide +kernel⟩,
  ⟨(at_ ((fields live [(.DROP_STATUS 3, F.DROP_STATUS_STATE, rsACTIVE)]).updPort 3 (fun k => { k with mode := .drop, drop := {  } }))), 3, canon (by
    decide +kernel), by decide +kernel⟩,
  ⟨(at_ ((fields ((live.updPond (fun k => { k with ctxs := bulkCtxs })).updSvc (fun k => { k with streams := [strm0], binds := [bind0] }))
    [(.DROP_STATUS 3, F.DROP_STATUS_STATE, rsACTIVE)]).updPort 3 (fun k => { k with mode := .drop, drop := { devs := [dev0], slot := some 1000, bulkRing := [bulk0] } }))),
    3, 0#20, 0x81#8, dev0, (21, ep0), bulk0, canon (by decide +kernel), by decide +kernel⟩,
  ⟨(at_ ((fields live [(.DROP_STATUS 3, F.DROP_STATUS_STATE, rsACTIVE)]).updPort 3 (fun k => { k with mode := .drop, drop := { devs := [dev0] } }))),
    3, 0#20, dev0, 4, canon (by decide +kernel), by decide +kernel⟩,
  ⟨(at_ ((fields live [(.DROP_STATUS 3, F.DROP_STATUS_STATE, rsACTIVE)]).updPort 3 (fun k => { k with mode := .drop, drop := { devs := [dev0] } }))),
    3, 0#20, dev0, 1, canon (by decide +kernel), by decide +kernel⟩,
  ⟨(at_ ((fields (live.updSvc (fun k => { k with streams := [{ strm0 with recs := [rec0] }] })) [(.DROP_STATUS 3, F.DROP_STATUS_STATE,
    rsACTIVE)]).updPort 3 (fun k => { k with mode := .drop, drop := {  } }))), 3, 3, 0, ({ strm0 with recs := [rec0] }), rec0, canon (by
    decide +kernel), by decide +kernel⟩⟩

/-- The hypotheses of each clause of `Obligations.SvcRequests` are met. -/
theorem witness_SvcRequests :
  (∃ s : State, ∃ q : ReqId, ∃ e, ∃ n : Port, ∃ r : BitVec 20, ∃ d, ∃ i : Nat, ∃ x, ∃ k : Nat, ∃ p : Nat, ∃ st : BitVec 16, ∃ o : BitVec 16, ∃ f :
    Bool, ∃ t, Canon s.chip ∧ ForPort s.chip q 0x0801#16 n e ∧ s.chip.pond.grants = [] ∧ s.chip.isDrop n = true ∧ s.chip.dev? n r = some d ∧ d.iface?
    i = some x ∧ d.configured = true ∧ p ≤ 15 ∧ kindAccepts k x d = true ∧ (coveredIfs k i d).any (fun j => s.chip.covered n d j) = false ∧
    s.chip.bindRoom n = true ∧ (f = false ∨ s.chip.svc.bindRules.length < 256) ∧ s.chip.strm? st = some t ∧ (o = 0xFFFF#16 ∨ (s.chip.strm? o).isSome
    = true) ∧ s.chip.pond.rebuild = false ∧ s.chip.allocVerdict (hPort n) 1 = rOK) ∧
  (∃ s : State, ∃ q : ReqId, ∃ e, ∃ n : Port, ∃ r : BitVec 20, ∃ d, ∃ i : Nat, ∃ x, ∃ k : Nat, ∃ p : Nat, ∃ st : BitVec 16, ∃ f : Bool, Canon s.chip
    ∧ ForPort s.chip q 0x0801#16 n e ∧ s.chip.pond.grants = [] ∧ s.chip.isDrop n = true ∧ s.chip.dev? n r = some d ∧ d.iface? i = some x ∧
    d.configured = true ∧ p ≤ 15 ∧ kindAccepts k x d = true ∧ (coveredIfs k i d).any (fun j => s.chip.covered n d j) = false ∧ s.chip.bindRoom n =
    true ∧ (f = false ∨ s.chip.svc.bindRules.length < 256) ∧ s.chip.strm? st = none) ∧
  (∃ s : State, ∃ q : ReqId, ∃ e, ∃ n : Port, ∃ r : BitVec 20, ∃ d, ∃ i : Nat, ∃ x, ∃ k : Nat, ∃ p : Nat, Canon s.chip ∧ ForPort s.chip q 0x0801#16 n
    e ∧ s.chip.pond.grants = [] ∧ s.chip.isDrop n = true ∧ s.chip.dev? n r = some d ∧ d.iface? i = some x ∧ d.configured = true ∧ p ≤ 15 ∧
    kindAccepts k x d = true ∧ (coveredIfs k i d).any (fun j => s.chip.covered n d j) = true) ∧
  (∃ s : State, ∃ q : ReqId, ∃ e, ∃ n : Port, ∃ r : BitVec 20, ∃ i : Nat, ∃ b, Canon s.chip ∧ ForPort s.chip q 0x0802#16 n e ∧ s.chip.pond.grants =
    [] ∧ s.chip.isDrop n = true ∧ s.chip.pond.waiters = [] ∧ s.chip.bind? n r i = some b ∧ b.req = none) ∧
  (∃ s : State, ∃ q : ReqId, ∃ e, ∃ n : Port, ∃ k : Nat, Canon s.chip ∧ ForPort s.chip q 0x0803#16 n e ∧ s.chip.pond.grants = [] ∧ s.chip.isDrop n =
    true ∧ k ≤ 4) ∧
  (∃ s : State, ∃ q : ReqId, ∃ e, ∃ id : BitVec 16, ∃ depth : Nat, Canon s.chip ∧ Startable s.chip q Config.opStreamOpen [0, 1] e ∧
    s.chip.pond.grants = [] ∧ s.chip.pond.rebuild = false ∧ id ≠ 0xFFFF#16 ∧ depth ≠ 0 ∧ s.chip.svc.streams.any (fun x => x.id == id) = false ∧
    s.chip.svc.binds.all (fun b => b.pending != some .noStream) = true ∧ s.chip.allocVerdict hSTREAM 1 = rOK ∧ s.chip.queueFits depth = true) ∧
  (∃ s : State, ∃ q : ReqId, ∃ e, ∃ cid : Cid, ∃ g : Byte, ∃ x, Canon s.chip ∧ Startable s.chip q Config.opStreamClose [0, 1] e ∧ s.chip.pond.grants
    = [] ∧ s.chip.pond.waiters = [] ∧ s.chip.strmRef? cid.toNat g = some x ∧ x.door = q.door ∧ s.chip.svc.binds.all (fun b => b.req.isNone) = true) :=
  ⟨⟨(at_ (ask 0x0801#16 1 ((3 : Port)).val ((fields (live.updSvc (fun k => { k with streams := [strm0] })) [(.DROP_STATUS 3, F.DROP_STATUS_STATE,
    rsACTIVE)]).updPort 3 (fun k => { k with mode := .drop, drop := { devs := [dev0] } })))), q0, (entry 0x0801#16 1 ((3 : Port)).val), 3, 0#20,
    dev0, 0, ifHid, kHID, 15, 3#16, 0xFFFF#16, true, strm0, canon (by decide +kernel), forPort (by decide +kernel), by decide +kernel⟩,
  ⟨(at_ (ask 0x0801#16 1 ((3 : Port)).val ((fields live [(.DROP_STATUS 3, F.DROP_STATUS_STATE, rsACTIVE)]).updPort 3 (fun k => { k with mode := .drop, drop := { devs := [dev0] } })))),
    q0, (entry 0x0801#16 1 ((3 : Port)).val), 3, 0#20, dev0, 0, ifHid, kHID, 15, 3#16, true, canon (by decide +kernel), forPort (by decide +kernel),
    by decide +kernel⟩,
  ⟨(at_ (ask 0x0801#16 1 ((3 : Port)).val { (fields live [(.DROP_STATUS 3, F.DROP_STATUS_STATE, rsACTIVE)]).updPort 3 (fun k => { k with mode := .drop, drop := { devs := [dev0] } }) with svc := { streams := [strm0], binds := [{ bind0 with kind := kHID }] }, pond := { ctxs := [(30, { typ := tSERVICE, holder := 3, gen := 1#8, parent := 20, body := .service sbody0 }), (40, { typ := tSTREAM, holder := 97, gen := 1#8, body := .stream 3#16 })] } })),
    q0, (entry 0x0801#16 1 ((3 : Port)).val), 3, 0#20, dev0, 0, ifHid, kHID, 15, canon (by decide +kernel), forPort (by decide +kernel), by
    decide +kernel⟩,
  ⟨(at_ (ask 0x0802#16 1 ((3 : Port)).val { (fields live [(.DROP_STATUS 3, F.DROP_STATUS_STATE, rsACTIVE)]).updPort 3 (fun k => { k with mode := .drop, drop := { devs := [dev0] } }) with svc := { streams := [strm0], binds := [bind0] }, pond := { ctxs := [(30, { typ := tSERVICE, holder := 3, gen := 1#8, parent := 20, body := .service sbody0 }), (40, { typ := tSTREAM, holder := 97, gen := 1#8, body := .stream 3#16 })] } })),
    q0, (entry 0x0802#16 1 ((3 : Port)).val), 3, 0#20, 0, bind0, canon (by decide +kernel), forPort (by decide +kernel), by decide +kernel⟩,
  ⟨(at_ (ask 0x0803#16 1 ((3 : Port)).val { (fields live [(.DROP_STATUS 3, F.DROP_STATUS_STATE, rsACTIVE)]).updPort 3 (fun k => { k with mode := .drop, drop := { devs := [dev0] } }) with svc := { streams := [strm0], binds := [bind0] }, pond := { ctxs := [(30, { typ := tSERVICE, holder := 3, gen := 1#8, parent := 20, body := .service sbody0 }), (40, { typ := tSTREAM, holder := 97, gen := 1#8, body := .stream 3#16 })] } })),
    q0, (entry 0x0803#16 1 ((3 : Port)).val), 3, 4, canon (by decide +kernel), forPort (by decide +kernel), by decide +kernel⟩,
  ⟨(at_ (ask Config.opStreamOpen 0 0 live)), q0, (entry Config.opStreamOpen 0 0), 9#16, 1, canon (by decide +kernel), startAny _ _ (by decide), by
    decide +kernel⟩,
  ⟨(at_ (ask Config.opStreamClose 0 0 ((live.updPond (fun k => { k with ctxs := bulkCtxs })).updSvc (fun k => { k with streams := [strm0] })))), q0,
    (entry Config.opStreamClose 0 0), 40#20, 1#8, strm0, canon (by decide +kernel), startStrm _ _ (by decide), by decide +kernel⟩⟩

/-- The hypotheses of each clause of `Obligations.SvcTraffic` are met. -/
theorem witness_SvcTraffic :
  (∃ s : State, ∃ n : Port, ∃ r : BitVec 20, ∃ d, ∃ x, ∃ m, Canon s.chip ∧ s.chip.pond.grants = [] ∧ s.chip.dev? n r = some d ∧ d.configured = true ∧
    s.chip.svc.rebuilding = false ∧ d.ifaces = [x] ∧ d.matchDue = true ∧ s.chip.covered n d x.num = false ∧ s.chip.bindRoom n = true ∧ kindAccepts
    m.kind x d = true ∧ (coveredIfs m.kind x.num d).any (fun j => s.chip.covered n d j) = false ∧ s.chip.svc.bindRules = [] ∧ s.chip.svc.rules.find?
    (fun y => y.matches n d x) = some m ∧ m.profile < 16 ∧ s.chip.strm? m.stream = none) ∧
  (∃ s : State, ∃ n : Port, ∃ r : BitVec 20, ∃ i : Nat, ∃ b, ∃ rep : List Byte, Canon s.chip ∧ s.chip.pond.grants = [] ∧ s.chip.bound? n r i kHID =
    some b ∧ ((bytesAt rep 0 8).drop 2).all (fun k => k == 1#8) = false) ∧
  (∃ s : State, ∃ n : Port, ∃ r : BitVec 20, ∃ i : Nat, ∃ b, ∃ t, ∃ rep : List Byte, ∃ u, ∃ ch, ∃ x, Canon s.chip ∧ BoundTo s.chip n r i kHID b t ∧
    s.chip.pond.grants = [] ∧ s.chip.openOf b = some x ∧ b.discard = false ∧ ((bytesAt rep 0 8).drop 2).all (fun k => k == 1#8) = false ∧ ((bytesAt
    rep 0 8).drop 2).filter (fun k => k != 0#8 && !(b.prev.drop 2).contains k) = [u] ∧ u.toNat ≤ 0x7F ∧ b.keys.getD (128 * hidLayer ((bytesAt rep 0
    8).headD 0#8) + u.toNat) 0#8 = ch ∧ ch ≠ 0#8 ∧ terminates b.ctl b.term b.lastByte ch = false ∧ x.data.length + 1 < fget b.ctl
    F.SVC_PROF_CTL_MAX_LEN ∧ t.fill + 8 ≤ t.depth) ∧
  (∃ s : State, ∃ n : Port, ∃ r : BitVec 20, ∃ i : Nat, ∃ b, ∃ t, ∃ rep : List Byte, Canon s.chip ∧ BoundTo s.chip n r i kHID b t ∧
    s.chip.pond.grants = [] ∧ ((bytesAt rep 0 8).drop 2).all (fun k => k == 1#8) = true) ∧
  (∃ s : State, ∃ n : Port, ∃ r : BitVec 20, ∃ i : Nat, ∃ b, ∃ t, ∃ ch, ∃ x, Canon s.chip ∧ BoundTo s.chip n r i kCDC b t ∧ s.chip.pond.grants = [] ∧
    s.chip.openOf b = some x ∧ b.discard = false ∧ terminates b.ctl b.term b.lastByte ch = false ∧ x.data.length + 1 < fget b.ctl
    F.SVC_PROF_CTL_MAX_LEN ∧ t.fill + 8 ≤ t.depth) ∧
  (∃ s : State, ∃ n : Port, ∃ r : BitVec 20, ∃ i : Nat, ∃ b, ∃ t, ∃ ch, ∃ x, Canon s.chip ∧ BoundTo s.chip n r i kCDC b t ∧ s.chip.pond.grants = [] ∧
    s.chip.openOf b = some x ∧ b.discard = false ∧ fget b.ctl F.SVC_PROF_CTL_MODE = 0 ∧ terminates b.ctl b.term b.lastByte ch = true ∧ fget b.ctl
    F.SVC_PROF_CTL_TERM_KEEP = 0 ∧ fget b.ctl F.SVC_PROF_CTL_SEQ2 = 0) ∧
  (∃ s : State, ∃ n : Port, ∃ r : BitVec 20, ∃ i : Nat, ∃ b, Canon s.chip ∧ s.chip.pond.grants = [] ∧ s.chip.bound? n r i kCDC = some b) ∧
  (∃ s : State, ∃ n : Port, ∃ r : BitVec 20, ∃ i : Nat, ∃ b, ∃ a : Nat, ∃ k, ∃ o, ∃ d, ∃ x, Canon s.chip ∧ s.chip.pond.grants = [] ∧ s.chip.bound? n
    r i kPRINTER = some b ∧ s.chip.bindOut b = some o ∧ s.chip.dev? n r = some d ∧ s.chip.jobEp d b = some x ∧ x.2.mps ≠ 0 ∧ x.1 ≠ b.cid ∧
    s.chip.epOpen n d x.2 = true ∧ s.chip.sofRuns n = true ∧ s.chip.root n = rsACTIVE ∧ s.chip.svc.streams.find? (fun y => y.id == o.id) = some o ∧
    b.jobLen ≠ 0 ∧ k = min a (min (s.chip.svcBody b).job o.waiting) ∧ 0 < k ∧ k < (s.chip.svcBody b).job) ∧
  (∃ s : State, ∃ n : Port, ∃ r : BitVec 20, ∃ i : Nat, ∃ b, ∃ t, ∃ p : Byte, Canon s.chip ∧ BoundTo s.chip n r i kPRINTER b t ∧ s.chip.pond.grants =
    [] ∧ (s.chip.svcBody b).pstat ≠ p ∧ t.fill + 72 ≤ t.depth ∧ b.pollAt ≤ s.chip.clk.now ∧ s.chip.sofRuns n = true ∧ s.chip.root n = rsACTIVE) ∧
  (∃ s : State, ∃ n : Port, ∃ r : BitVec 20, ∃ i : Nat, ∃ b, ∃ p : Byte, Canon s.chip ∧ s.chip.pond.grants = [] ∧ s.chip.bound? n r i kPRINTER = some
    b ∧ (s.chip.svcBody b).pstat = p) ∧
  (∃ s : State, ∃ n : Port, ∃ r : BitVec 20, ∃ i : Nat, ∃ b, Canon s.chip ∧ s.chip.pond.grants = [] ∧ s.chip.bound? n r i kPRINTER = some b ∧
    s.chip.clk.now < b.pollAt) ∧
  (∃ s : State, ∃ n : Port, ∃ r : BitVec 20, ∃ i : Nat, ∃ b, ∃ t, ∃ l : List Byte, Canon s.chip ∧ BoundTo s.chip n r i kRAW b t ∧ s.chip.pond.grants
    = [] ∧ l.length ≤ s.chip.getPos (.SVC_PROF_CTL b.prof) F.SVC_PROF_CTL_MAX_LEN ∧ l.length ≤ 4096 ∧ t.fill + 64 + l.length ≤ t.depth ∧
    ((s.chip.dev? n r).bind (fun d => s.chip.rawRun n d i)).any (·.2.2) = false) ∧
  (∃ s : State, ∃ n : Port, ∃ r : BitVec 20, ∃ i : Nat, ∃ b, ∃ t, Canon s.chip ∧ BoundTo s.chip n r i kRAW b t ∧ s.chip.pond.grants = [] ∧ t.fill +
    56 ≤ t.depth) ∧
  (∃ s : State, ∃ n : Port, ∃ r : BitVec 20, ∃ i : Nat, ∃ b, ∃ t, ∃ x, Canon s.chip ∧ BoundTo s.chip n r i b.kind b t ∧ s.chip.pond.grants = [] ∧
    s.chip.openOf b = some x ∧ fget b.ctl F.SVC_PROF_CTL_GAP_MS ≠ 0 ∧ fget b.ctl F.SVC_PROF_CTL_MODE ≠ 1 ∧ b.lastData + ms (fget b.ctl
    F.SVC_PROF_CTL_GAP_MS) ≤ s.chip.clk.now) :=
  ⟨⟨(at_ ({ ((fields live [(.DROP_STATUS 3, F.DROP_STATUS_STATE, rsACTIVE)]).updPort 3 (fun k => { k with mode := .drop, drop := { devs := [{ dev0 with ifs := [ifHid], matchDue := true }] } })) with svc := { rules := [rule0] } })),
    3, 0#20, ({ dev0 with ifs := [ifHid], matchDue := true }), ifHid, rule0, canon (by decide +kernel), by decide +kernel⟩,
  ⟨(at_ ({ (fields live [(.DROP_STATUS 3, F.DROP_STATUS_STATE, rsACTIVE)]).updPort 3 (fun k => { k with mode := .drop, drop := { devs := [dev0] } }) with svc := { streams := [strm0], binds := [{ bind0 with ctl := (fset (fset 0#32 F.SVC_PROF_CTL_MAX_LEN 100) F.SVC_PROF_CTL_GAP_MS 5), keys := List.replicate 512 97#8 }] }, pond := { ctxs := [(30, { typ := tSERVICE, holder := 3, gen := 1#8, parent := 20, body := .service sbody0 }), (40, { typ := tSTREAM, holder := 97, gen := 1#8, body := .stream 3#16 })] } })),
    3, 0#20, 0, ({ bind0 with ctl := (fset (fset 0#32 F.SVC_PROF_CTL_MAX_LEN 100) F.SVC_PROF_CTL_GAP_MS 5), keys := List.replicate 512 97#8 }),
    ([0#8, 0#8, 4#8]), canon (by decide +kernel), by decide +kernel⟩,
  ⟨(at_ ({ (fields live [(.DROP_STATUS 3, F.DROP_STATUS_STATE, rsACTIVE)]).updPort 3 (fun k => { k with mode := .drop, drop := { devs := [dev0] } }) with svc := { streams := [{ strm0 with recs := [rec1] }], binds := [{ bind0 with ctl := (fset (fset 0#32 F.SVC_PROF_CTL_MAX_LEN 100) F.SVC_PROF_CTL_GAP_MS 5), keys := List.replicate 512 97#8 }] }, pond := { ctxs := [(30, { typ := tSERVICE, holder := 3, gen := 1#8, parent := 20, body := .service sbody0 }), (40, { typ := tSTREAM, holder := 97, gen := 1#8, body := .stream 3#16 })] } })),
    3, 0#20, 0, ({ bind0 with ctl := (fset (fset 0#32 F.SVC_PROF_CTL_MAX_LEN 100) F.SVC_PROF_CTL_GAP_MS 5), keys := List.replicate 512 97#8 }), ({ strm0 with recs := [rec1] }),
    ([0#8, 0#8, 4#8]), 4#8, 97#8, rec1, canon (by decide +kernel), boundTo (by decide +kernel), by decide +kernel⟩,
  ⟨(at_ ({ (fields live [(.DROP_STATUS 3, F.DROP_STATUS_STATE, rsACTIVE)]).updPort 3 (fun k => { k with mode := .drop, drop := { devs := [dev0] } }) with svc := { streams := [{ strm0 with recs := [rec1] }], binds := [{ bind0 with ctl := (fset (fset 0#32 F.SVC_PROF_CTL_MAX_LEN 100) F.SVC_PROF_CTL_GAP_MS 5), keys := List.replicate 512 97#8 }] }, pond := { ctxs := [(30, { typ := tSERVICE, holder := 3, gen := 1#8, parent := 20, body := .service sbody0 }), (40, { typ := tSTREAM, holder := 97, gen := 1#8, body := .stream 3#16 })] } })),
    3, 0#20, 0, ({ bind0 with ctl := (fset (fset 0#32 F.SVC_PROF_CTL_MAX_LEN 100) F.SVC_PROF_CTL_GAP_MS 5), keys := List.replicate 512 97#8 }), ({ strm0 with recs := [rec1] }),
    ([0#8, 0#8, 1#8, 1#8, 1#8, 1#8, 1#8, 1#8]), canon (by decide +kernel), boundTo (by decide +kernel), by decide +kernel⟩,
  ⟨(at_ ({ (fields live [(.DROP_STATUS 3, F.DROP_STATUS_STATE, rsACTIVE)]).updPort 3 (fun k => { k with mode := .drop, drop := { devs := [dev0] } }) with svc := { streams := [{ strm0 with recs := [rec1] }], binds := [{ bind0 with kind := kCDC, ctl := (fset (fset 0#32 F.SVC_PROF_CTL_MAX_LEN 100) F.SVC_PROF_CTL_GAP_MS 5) }] }, pond := { ctxs := [(30, { typ := tSERVICE, holder := 3, gen := 1#8, parent := 20, body := .service sbody0 }), (40, { typ := tSTREAM, holder := 97, gen := 1#8, body := .stream 3#16 })] } })),
    3, 0#20, 0, ({ bind0 with kind := kCDC, ctl := (fset (fset 0#32 F.SVC_PROF_CTL_MAX_LEN 100) F.SVC_PROF_CTL_GAP_MS 5) }), ({ strm0 with recs := [rec1] }),
    0x41#8, rec1, canon (by decide +kernel), boundTo (by decide +kernel), by decide +kernel⟩,
  ⟨(at_ ({ (fields live [(.DROP_STATUS 3, F.DROP_STATUS_STATE, rsACTIVE)]).updPort 3 (fun k => { k with mode := .drop, drop := { devs := [dev0] } }) with svc := { streams := [{ strm0 with recs := [rec1] }], binds := [{ bind0 with kind := kCDC, ctl := (fset (fset 0#32 F.SVC_PROF_CTL_MAX_LEN 100) F.SVC_PROF_CTL_GAP_MS 5), term := 0x41#32 }] }, pond := { ctxs := [(30, { typ := tSERVICE, holder := 3, gen := 1#8, parent := 20, body := .service sbody0 }), (40, { typ := tSTREAM, holder := 97, gen := 1#8, body := .stream 3#16 })] } })),
    3, 0#20, 0, ({ bind0 with kind := kCDC, ctl := (fset (fset 0#32 F.SVC_PROF_CTL_MAX_LEN 100) F.SVC_PROF_CTL_GAP_MS 5), term := 0x41#32 }), ({ strm0 with recs := [rec1] }),
    0x41#8, rec1, canon (by decide +kernel), boundTo (by decide +kernel), by decide +kernel⟩,
  ⟨(at_ ({ (fields live [(.DROP_STATUS 3, F.DROP_STATUS_STATE, rsACTIVE)]).updPort 3 (fun k => { k with mode := .drop, drop := { devs := [dev0] } }) with svc := { streams := [strm0], binds := [{ bind0 with kind := kCDC }] }, pond := { ctxs := [(30, { typ := tSERVICE, holder := 3, gen := 1#8, parent := 20, body := .service sbody0 }), (40, { typ := tSTREAM, holder := 97, gen := 1#8, body := .stream 3#16 })] } })),
    3, 0#20, 0, ({ bind0 with kind := kCDC }), canon (by decide +kernel), by decide +kernel⟩,
  ⟨(at_ ({ (fields live [(.DROP_STATUS 3, F.DROP_STATUS_STATE, rsACTIVE)]).updPort 3 (fun k => { k with mode := .drop, drop := { devs := [dev0] } }) with svc := { streams := [strm0, { strm0 with id := 4#16, cid := 41, inbound := [[1#8, 2#8, 3#8]] }], binds := [{ bind0 with kind := kPRINTER, out := 4#16, jobLen := 9 }] }, pond := { ctxs := [(20, { typ := tDEV, holder := 3, gen := 1#8 }), (21, { typ := tEP, holder := 3, gen := 1#8, parent := 20, body := .ep { ep0 with ep := 1#8 } }), (30, { typ := tSERVICE, holder := 3, gen := 1#8, parent := 20, body := .service { sbody0 with out := some (41, 1#8), job := 9 } }), (40, { typ := tSTREAM, holder := 97, gen := 1#8, body := .stream 3#16 }), (41, { typ := tSTREAM, holder := 97, gen := 1#8, body := .stream 4#16 })] } })),
    3, 0#20, 0, ({ bind0 with kind := kPRINTER, out := 4#16, jobLen := 9 }), 5, 3, ({ strm0 with id := 4#16, cid := 41, inbound := [[1#8, 2#8, 3#8]] }),
    dev0, (21, { ep0 with ep := 1#8 }), canon (by decide +kernel), by decide +kernel⟩,
  ⟨(at_ ({ (fields live [(.DROP_STATUS 3, F.DROP_STATUS_STATE, rsACTIVE)]).updPort 3 (fun k => { k with mode := .drop, drop := { devs := [dev0] } }) with svc := { streams := [strm0], binds := [{ bind0 with kind := kPRINTER }] }, pond := { ctxs := [(30, { typ := tSERVICE, holder := 3, gen := 1#8, parent := 20, body := .service sbody0 }), (40, { typ := tSTREAM, holder := 97, gen := 1#8, body := .stream 3#16 })] } })),
    3, 0#20, 0, ({ bind0 with kind := kPRINTER }), strm0, 0x18#8, canon (by decide +kernel), boundTo (by decide +kernel), by decide +kernel⟩,
  ⟨(at_ ({ (fields live [(.DROP_STATUS 3, F.DROP_STATUS_STATE, rsACTIVE)]).updPort 3 (fun k => { k with mode := .drop, drop := { devs := [dev0] } }) with svc := { streams := [strm0], binds := [{ bind0 with kind := kPRINTER }] }, pond := { ctxs := [(30, { typ := tSERVICE, holder := 3, gen := 1#8, parent := 20, body := .service sbody0 }), (40, { typ := tSTREAM, holder := 97, gen := 1#8, body := .stream 3#16 })] } })),
    3, 0#20, 0, ({ bind0 with kind := kPRINTER }), 0#8, canon (by decide +kernel), by decide +kernel⟩,
  ⟨(at_ ({ (fields live [(.DROP_STATUS 3, F.DROP_STATUS_STATE, rsACTIVE)]).updPort 3 (fun k => { k with mode := .drop, drop := { devs := [dev0] } }) with svc := { streams := [strm0], binds := [{ bind0 with kind := kPRINTER, pollAt := 10000000000001 }] }, pond := { ctxs := [(30, { typ := tSERVICE, holder := 3, gen := 1#8, parent := 20, body := .service sbody0 }), (40, { typ := tSTREAM, holder := 97, gen := 1#8, body := .stream 3#16 })] } })),
    3, 0#20, 0, ({ bind0 with kind := kPRINTER, pollAt := 10000000000001 }), canon (by decide +kernel), by decide +kernel⟩,
  ⟨(at_ ({ (fields live [(.DROP_STATUS 3, F.DROP_STATUS_STATE, rsACTIVE), (.SVC_PROF_CTL 0, F.SVC_PROF_CTL_MAX_LEN, 3)]).updPort 3 (fun k => { k with mode := .drop, drop := { devs := [dev0] } }) with svc := { streams := [strm0], binds := [{ bind0 with kind := kRAW }] }, pond := { ctxs := [(30, { typ := tSERVICE, holder := 3, gen := 1#8, parent := 20, body := .service sbody0 }), (40, { typ := tSTREAM, holder := 97, gen := 1#8, body := .stream 3#16 })] } })),
    3, 0#20, 0, ({ bind0 with kind := kRAW }), strm0, ([1#8, 2#8, 3#8]), canon (by decide +kernel), boundTo (by decide +kernel), by decide +kernel⟩,
  ⟨(at_ ({ (fields live [(.DROP_STATUS 3, F.DROP_STATUS_STATE, rsACTIVE)]).updPort 3 (fun k => { k with mode := .drop, drop := { devs := [dev0] } }) with svc := { streams := [strm0], binds := [{ bind0 with kind := kRAW }] }, pond := { ctxs := [(30, { typ := tSERVICE, holder := 3, gen := 1#8, parent := 20, body := .service sbody0 }), (40, { typ := tSTREAM, holder := 97, gen := 1#8, body := .stream 3#16 })] } })),
    3, 0#20, 0, ({ bind0 with kind := kRAW }), strm0, canon (by decide +kernel), boundTo (by decide +kernel), by decide +kernel⟩,
  ⟨(at_ ({ (fields live [(.DROP_STATUS 3, F.DROP_STATUS_STATE, rsACTIVE)]).updPort 3 (fun k => { k with mode := .drop, drop := { devs := [dev0] } }) with svc := { streams := [{ strm0 with recs := [rec1] }], binds := [{ bind0 with kind := kHID, ctl := (fset (fset 0#32 F.SVC_PROF_CTL_MAX_LEN 100) F.SVC_PROF_CTL_GAP_MS 5), lastData := 10000000000000 - ms 5 }] }, pond := { ctxs := [(30, { typ := tSERVICE, holder := 3, gen := 1#8, parent := 20, body := .service sbody0 }), (40, { typ := tSTREAM, holder := 97, gen := 1#8, body := .stream 3#16 })] } })),
    3, 0#20, 0, ({ bind0 with kind := kHID, ctl := (fset (fset 0#32 F.SVC_PROF_CTL_MAX_LEN 100) F.SVC_PROF_CTL_GAP_MS 5), lastData := 10000000000000 - ms 5 }),
    ({ strm0 with recs := [rec1] }), rec1, canon (by decide +kernel), boundTo (by decide +kernel), by decide +kernel⟩⟩

/-- The hypotheses of each clause of `Obligations.LineRequests` are met. -/
theorem witness_LineRequests :
  (∃ s : State, ∃ q : ReqId, ∃ n : Port, ∃ e, Canon s.chip ∧ ForPort s.chip q 0x0501#16 n e ∧ s.chip.pond.grants = [] ∧ s.chip.isLine n = true) ∧
  (∃ s : State, ∃ q : ReqId, ∃ n : Port, ∃ e, ∃ nom : BitTiming, ∃ dat : BitTiming, ∃ o : Nat, ∃ tr : Bool, Canon s.chip ∧ ForPort s.chip q 0x0502#16
    n e ∧ s.chip.pond.grants = [] ∧ s.chip.isLine n = true ∧ s.chip.frozen = false ∧ timingOk nom dat o tr = true ∧ ((s.chip.ports[n]).line.sending =
    false ∨ s.chip.lineOff n = true)) ∧
  (∃ s : State, ∃ q : ReqId, ∃ n : Port, ∃ e, ∃ nom : BitTiming, ∃ dat : BitTiming, ∃ o : Nat, ∃ tr : Bool, Canon s.chip ∧ ForPort s.chip q 0x0502#16
    n e ∧ s.chip.pond.grants = [] ∧ s.chip.isLine n = true ∧ s.chip.frozen = false ∧ timingOk nom dat o tr = true ∧ (s.chip.ports[n]).line.sending =
    true ∧ s.chip.lineOff n = false) ∧
  (∃ s : State, ∃ q : ReqId, ∃ n : Port, ∃ e, ∃ nom : BitTiming, ∃ dat : BitTiming, ∃ o : Nat, ∃ tr : Bool, Canon s.chip ∧ ForPort s.chip q 0x0502#16
    n e ∧ s.chip.pond.grants = [] ∧ s.chip.isLine n = true ∧ s.chip.frozen = false ∧ timingOk nom dat o tr = false) ∧
  (∃ s : State, ∃ q : ReqId, ∃ n : Port, ∃ e, Canon s.chip ∧ ForPort s.chip q 0x0503#16 n e ∧ s.chip.pond.grants = [] ∧ s.chip.isLine n = true ∧
    s.chip.frozen = false) ∧
  (∃ s : State, ∃ q : ReqId, ∃ n : Port, ∃ e, ∃ f : CanFrame, ∃ i, Canon s.chip ∧ ForPort s.chip q 0x0504#16 n e ∧ s.chip.pond.grants = [] ∧
    s.chip.isLine n = true ∧ canSendable f = true ∧ (s.chip.ports[n]).line.freeBuf 28 31 = some i) ∧
  (∃ s : State, ∃ q : ReqId, ∃ n : Port, ∃ e, ∃ f : CanFrame, Canon s.chip ∧ ForPort s.chip q 0x0504#16 n e ∧ s.chip.pond.grants = [] ∧ s.chip.isLine
    n = true ∧ canSendable f = true ∧ (s.chip.ports[n]).line.freeBuf 28 31 = none) ∧
  (∃ s : State, ∃ q : ReqId, ∃ n : Port, ∃ e, ∃ i : Fin 32, Canon s.chip ∧ ForPort s.chip q 0x0505#16 n e ∧ s.chip.pond.grants = [] ∧ s.chip.isLine n
    = true ∧ 28 ≤ i.val ∧ (s.chip.ports[n]).line.tx[i] = none) ∧
  (∃ s : State, ∃ q : ReqId, ∃ n : Port, ∃ e, ∃ i : Fin 32, ∃ b, Canon s.chip ∧ ForPort s.chip q 0x0505#16 n e ∧ s.chip.pond.grants = [] ∧
    s.chip.isLine n = true ∧ 28 ≤ i.val ∧ (s.chip.ports[n]).line.tx[i] = some b ∧ b.started = false) ∧
  (∃ s : State, ∃ q : ReqId, ∃ n : Port, ∃ e, ∃ i : Fin 32, ∃ b, Canon s.chip ∧ ForPort s.chip q 0x0505#16 n e ∧ s.chip.pond.grants = [] ∧
    s.chip.isLine n = true ∧ 28 ≤ i.val ∧ (s.chip.ports[n]).line.tx[i] = some b ∧ b.started = true) ∧
  (∃ s : State, ∃ q : ReqId, ∃ n : Port, ∃ e, Canon s.chip ∧ ForPort s.chip q 0x0506#16 n e ∧ s.chip.pond.grants = [] ∧ s.chip.isLine n = true ∧
    (s.chip.ports[n]).line.isolated = false ∧ s.chip.lineOff n = true) ∧
  (∃ s : State, ∃ q : ReqId, ∃ n : Port, ∃ e, Canon s.chip ∧ ForPort s.chip q 0x0506#16 n e ∧ s.chip.pond.grants = [] ∧ s.chip.isLine n = true ∧
    (s.chip.ports[n]).line.isolated = false ∧ s.chip.lineOff n = false) ∧
  (∃ s : State, ∃ q : ReqId, ∃ n : Port, ∃ e, Canon s.chip ∧ ForPort s.chip q 0x0506#16 n e ∧ s.chip.pond.grants = [] ∧ s.chip.isLine n = true ∧
    (s.chip.ports[n]).line.isolated = true) ∧
  (∃ s : State, ∃ q : ReqId, ∃ n : Port, ∃ e, ∃ f : Nat, ∃ k : Nat, Canon s.chip ∧ ForPort s.chip q 0x0507#16 n e ∧ s.chip.pond.grants = [] ∧
    s.chip.isLine n = true ∧ k ≤ 4 ∧ 1 ≤ f ∧ f ≤ 126) ∧
  (∃ s : State, ∃ q : ReqId, ∃ n : Port, ∃ e, Canon s.chip ∧ ForPort s.chip q 0x050C#16 n e ∧ s.chip.pond.grants = [] ∧ s.chip.isLine n = true ∧
    s.chip.frozen = false) :=
  ⟨⟨(at_ (ask 0x0501#16 1 ((2 : Port)).val (((fields live [(.LINE_HOLD 2, F.LINE_HOLD_ABSENT_HOLD, 9)]).updPort 2 (fun k => { k with mode := .line, line := { joined := true, nodes := [node0] } })).updPond
    (fun k => { k with ctxs := [(29, { typ := tNODE, holder := 2, gen := 1#8, body := .node nbody0 }), (31, { typ := tOBJ, holder := 2, gen := 1#8, parent := 29, body := .obj obj0 })] })))),
    q0, 2, (entry 0x0501#16 1 ((2 : Port)).val), canon (by decide +kernel), forPort (by decide +kernel), by decide +kernel⟩,
  ⟨(at_ (ask 0x0502#16 1 ((2 : Port)).val (((fields live [(.LINE_HOLD 2, F.LINE_HOLD_ABSENT_HOLD, 9)]).updPort 2 (fun k => { k with mode := .line, line := { joined := true, nodes := [node0] } })).updPond
    (fun k => { k with ctxs := [(29, { typ := tNODE, holder := 2, gen := 1#8, body := .node nbody0 }), (31, { typ := tOBJ, holder := 2, gen := 1#8, parent := 29, body := .obj obj0 })] })))),
    q0, 2, (entry 0x0502#16 1 ((2 : Port)).val), (⟨1, 60, 19, 10⟩), (⟨1, 12, 7, 5⟩), 20, false, canon (by decide +kernel), forPort (by
    decide +kernel), by decide +kernel⟩,
  ⟨(at_ (ask 0x0502#16 1 ((2 : Port)).val (((fields live [(.LINE_HOLD 2, F.LINE_HOLD_ABSENT_HOLD, 9)]).updPort 2 (fun k => { k with mode := .line, line := { joined := true, nodes := [node0], tx := (Vector.replicate 32 none).set 1 (some { txb0 with started := true }) } })).updPond
    (fun k => { k with ctxs := [(29, { typ := tNODE, holder := 2, gen := 1#8, body := .node nbody0 }), (31, { typ := tOBJ, holder := 2, gen := 1#8, parent := 29, body := .obj obj0 })] })))),
    q0, 2, (entry 0x0502#16 1 ((2 : Port)).val), (⟨1, 60, 19, 10⟩), (⟨1, 12, 7, 5⟩), 20, false, canon (by decide +kernel), forPort (by
    decide +kernel), by decide +kernel⟩,
  ⟨(at_ (ask 0x0502#16 1 ((2 : Port)).val (((fields live [(.LINE_HOLD 2, F.LINE_HOLD_ABSENT_HOLD, 9)]).updPort 2 (fun k => { k with mode := .line, line := { joined := true, nodes := [node0] } })).updPond
    (fun k => { k with ctxs := [(29, { typ := tNODE, holder := 2, gen := 1#8, body := .node nbody0 }), (31, { typ := tOBJ, holder := 2, gen := 1#8, parent := 29, body := .obj obj0 })] })))),
    q0, 2, (entry 0x0502#16 1 ((2 : Port)).val), (⟨1, 60, 19, 10⟩), (⟨1, 12, 7, 5⟩), 128, false, canon (by decide +kernel), forPort (by
    decide +kernel), by decide +kernel⟩,
  ⟨(at_ (ask 0x0503#16 1 ((2 : Port)).val (((fields live [(.LINE_HOLD 2, F.LINE_HOLD_ABSENT_HOLD, 9)]).updPort 2 (fun k => { k with mode := .line, line := { joined := true, nodes := [node0] } })).updPond
    (fun k => { k with ctxs := [(29, { typ := tNODE, holder := 2, gen := 1#8, body := .node nbody0 }), (31, { typ := tOBJ, holder := 2, gen := 1#8, parent := 29, body := .obj obj0 })] })))),
    q0, 2, (entry 0x0503#16 1 ((2 : Port)).val), canon (by decide +kernel), forPort (by decide +kernel), by decide +kernel⟩,
  ⟨(at_ (ask 0x0504#16 1 ((2 : Port)).val (((fields live [(.LINE_HOLD 2, F.LINE_HOLD_ABSENT_HOLD, 9)]).updPort 2 (fun k => { k with mode := .line, line := { joined := true, nodes := [node0] } })).updPond
    (fun k => { k with ctxs := [(29, { typ := tNODE, holder := 2, gen := 1#8, body := .node nbody0 }), (31, { typ := tOBJ, holder := 2, gen := 1#8, parent := 29, body := .obj obj0 })] })))),
    q0, 2, (entry 0x0504#16 1 ((2 : Port)).val), can0, 28, canon (by decide +kernel), forPort (by decide +kernel), by decide +kernel⟩,
  ⟨(at_ (ask 0x0504#16 1 ((2 : Port)).val (((fields live [(.LINE_HOLD 2, F.LINE_HOLD_ABSENT_HOLD, 9)]).updPort 2 (fun k => { k with mode := .line, line := { joined := true, nodes := [node0], tx := Vector.replicate 32 (some txb0) } })).updPond
    (fun k => { k with ctxs := [(29, { typ := tNODE, holder := 2, gen := 1#8, body := .node nbody0 }), (31, { typ := tOBJ, holder := 2, gen := 1#8, parent := 29, body := .obj obj0 })] })))),
    q0, 2, (entry 0x0504#16 1 ((2 : Port)).val), can0, canon (by decide +kernel), forPort (by decide +kernel), by decide +kernel⟩,
  ⟨(at_ (ask 0x0505#16 1 ((2 : Port)).val (((fields live [(.LINE_HOLD 2, F.LINE_HOLD_ABSENT_HOLD, 9)]).updPort 2 (fun k => { k with mode := .line, line := { joined := true, nodes := [node0] } })).updPond
    (fun k => { k with ctxs := [(29, { typ := tNODE, holder := 2, gen := 1#8, body := .node nbody0 }), (31, { typ := tOBJ, holder := 2, gen := 1#8, parent := 29, body := .obj obj0 })] })))),
    q0, 2, (entry 0x0505#16 1 ((2 : Port)).val), 31, canon (by decide +kernel), forPort (by decide +kernel), by decide +kernel⟩,
  ⟨(at_ (ask 0x0505#16 1 ((2 : Port)).val (((fields live [(.LINE_HOLD 2, F.LINE_HOLD_ABSENT_HOLD, 9)]).updPort 2 (fun k => { k with mode := .line, line := { joined := true, nodes := [node0], tx := (Vector.replicate 32 none).set 28 (some { txb0 with use := .host 0 }) } })).updPond
    (fun k => { k with ctxs := [(29, { typ := tNODE, holder := 2, gen := 1#8, body := .node nbody0 }), (31, { typ := tOBJ, holder := 2, gen := 1#8, parent := 29, body := .obj obj0 })] })))),
    q0, 2, (entry 0x0505#16 1 ((2 : Port)).val), 28, ({ txb0 with use := .host 0 }), canon (by decide +kernel), forPort (by decide +kernel), by
    decide +kernel⟩,
  ⟨(at_ (ask 0x0505#16 1 ((2 : Port)).val (((fields live [(.LINE_HOLD 2, F.LINE_HOLD_ABSENT_HOLD, 9)]).updPort 2 (fun k => { k with mode := .line, line := { joined := true, nodes := [node0], tx := (Vector.replicate 32 none).set 28 (some { txb0 with use := .host 0, started := true }) } })).updPond
    (fun k => { k with ctxs := [(29, { typ := tNODE, holder := 2, gen := 1#8, body := .node nbody0 }), (31, { typ := tOBJ, holder := 2, gen := 1#8, parent := 29, body := .obj obj0 })] })))),
    q0, 2, (entry 0x0505#16 1 ((2 : Port)).val), 28, ({ txb0 with use := .host 0, started := true }), canon (by decide +kernel), forPort (by
    decide +kernel), by decide +kernel⟩,
  ⟨(at_ (ask 0x0506#16 1 ((2 : Port)).val (((fields live [(.LINE_HOLD 2, F.LINE_HOLD_ABSENT_HOLD, 9), (.LINE_ERR 2, F.LINE_ERR_STATE,
    leBUSOFF)]).updPort 2 (fun k => { k with mode := .line, line := { joined := true, nodes := [node0] } })).updPond (fun k => { k with ctxs := [(29, { typ := tNODE, holder := 2, gen := 1#8, body := .node nbody0 }), (31, { typ := tOBJ, holder := 2, gen := 1#8, parent := 29, body := .obj obj0 })] })))),
    q0, 2, (entry 0x0506#16 1 ((2 : Port)).val), canon (by decide +kernel), forPort (by decide +kernel), by decide +kernel⟩,
  ⟨(at_ (ask 0x0506#16 1 ((2 : Port)).val (((fields live [(.LINE_HOLD 2, F.LINE_HOLD_ABSENT_HOLD, 9)]).updPort 2 (fun k => { k with mode := .line, line := { joined := true, nodes := [node0] } })).updPond
    (fun k => { k with ctxs := [(29, { typ := tNODE, holder := 2, gen := 1#8, body := .node nbody0 }), (31, { typ := tOBJ, holder := 2, gen := 1#8, parent := 29, body := .obj obj0 })] })))),
    q0, 2, (entry 0x0506#16 1 ((2 : Port)).val), canon (by decide +kernel), forPort (by decide +kernel), by decide +kernel⟩,
  ⟨(at_ (ask 0x0506#16 1 ((2 : Port)).val (((fields live [(.LINE_HOLD 2, F.LINE_HOLD_ABSENT_HOLD, 9)]).updPort 2 (fun k => { k with mode := .line, line := { joined := true, nodes := [node0], isolated := true } })).updPond
    (fun k => { k with ctxs := [(29, { typ := tNODE, holder := 2, gen := 1#8, body := .node nbody0 }), (31, { typ := tOBJ, holder := 2, gen := 1#8, parent := 29, body := .obj obj0 })] })))),
    q0, 2, (entry 0x0506#16 1 ((2 : Port)).val), canon (by decide +kernel), forPort (by decide +kernel), by decide +kernel⟩,
  ⟨(at_ (ask 0x0507#16 1 ((2 : Port)).val (((fields live [(.LINE_HOLD 2, F.LINE_HOLD_ABSENT_HOLD, 9)]).updPort 2 (fun k => { k with mode := .line, line := { joined := true, nodes := [node0] } })).updPond
    (fun k => { k with ctxs := [(29, { typ := tNODE, holder := 2, gen := 1#8, body := .node nbody0 }), (31, { typ := tOBJ, holder := 2, gen := 1#8, parent := 29, body := .obj obj0 })] })))),
    q0, 2, (entry 0x0507#16 1 ((2 : Port)).val), 126, 4, canon (by decide +kernel), forPort (by decide +kernel), by decide +kernel⟩,
  ⟨(at_ (ask 0x050C#16 1 ((2 : Port)).val (((fields live [(.LINE_HOLD 2, F.LINE_HOLD_ABSENT_HOLD, 9)]).updPort 2 (fun k => { k with mode := .line, line := { joined := true, nodes := [node0] } })).updPond
    (fun k => { k with ctxs := [(29, { typ := tNODE, holder := 2, gen := 1#8, body := .node nbody0 }), (31, { typ := tOBJ, holder := 2, gen := 1#8, parent := 29, body := .obj obj0 })] })))),
    q0, 2, (entry 0x050C#16 1 ((2 : Port)).val), canon (by decide +kernel), forPort (by decide +kernel), by decide +kernel⟩⟩

/-- The hypotheses of each clause of `Obligations.LineNodeRequests` are met. -/
theorem witness_LineNodeRequests :
  (∃ s : State, ∃ n : Port, ∃ a, ∃ r, ∃ q : ReqId, ∃ e, ∃ k : Nat, ∃ i, Canon s.chip ∧ ForNode s.chip q 0x0508#16 n a e ∧ s.chip.pond.grants = [] ∧
    s.chip.isLine n = true ∧ s.chip.node? n a = some r ∧ k < 64 ∧ r.out = none ∧ r.queue = [] ∧ (s.chip.ports[n]).line.freeBuf 1 27 = some i) ∧
  (∃ s : State, ∃ n : Port, ∃ a, ∃ r, ∃ q : ReqId, ∃ e, ∃ k : Nat, Canon s.chip ∧ ForNode s.chip q 0x0508#16 n a e ∧ s.chip.pond.grants = [] ∧
    s.chip.isLine n = true ∧ s.chip.node? n a = some r ∧ k < 64 ∧ r.out.isSome = true ∧ r.queue.length = 8) ∧
  (∃ s : State, ∃ n : Port, ∃ a, ∃ r, ∃ q : ReqId, ∃ e, ∃ k : Nat, ∃ v : List Byte, ∃ p : Nat, ∃ i, Canon s.chip ∧ ForNode s.chip q 0x0509#16 n a e ∧
    s.chip.pond.grants = [] ∧ s.chip.isLine n = true ∧ s.chip.node? n a = some r ∧ k < 64 ∧ p < 8 ∧ 1 ≤ v.length ∧ v.length ≤ 40 ∧ r.out = none ∧
    r.queue = [] ∧ (s.chip.ports[n]).line.freeBuf 1 27 = some i) ∧
  (∃ s : State, ∃ n : Port, ∃ a, ∃ r, ∃ q : ReqId, ∃ e, ∃ k : Nat, ∃ x, Canon s.chip ∧ ForNode s.chip q 0x050A#16 n a e ∧ s.chip.pond.grants = [] ∧
    s.chip.isLine n = true ∧ s.chip.node? n a = some r ∧ s.chip.objBody? r k = some x) ∧
  (∃ s : State, ∃ n : Port, ∃ a, ∃ r, ∃ q : ReqId, ∃ e, Canon s.chip ∧ ForNode s.chip q 0x050B#16 n a e ∧ s.chip.pond.grants = [] ∧ s.chip.isLine n =
    true ∧ s.chip.node? n a = some r ∧ s.chip.pond.waiters = [] ∧ s.chip.pond.rebuild = false ∧ (s.chip.ports[n]).line.writeStarted a = false ∧
    (r.out.toList ++ r.queue).all (fun u => u.origin != .door q) = true) ∧
  (∃ s : State, ∃ n : Port, ∃ a : Nat, ∃ r, ∃ u, ∃ q, ∃ e, ∃ w : Bool, ∃ k : Nat, ∃ st : Nat, ∃ v : List Byte, ∃ t, Canon s.chip ∧ s.chip.pond.grants
    = [] ∧ s.chip.isLine n = true ∧ s.chip.node? n a = some r ∧ s.chip.lineServed n = true ∧ ((s.chip.ports[n]).line.checked (if w then 7 else 5)
    a).any (·.answerIs k st (if w then [] else v)) = true ∧ r.out = some u ∧ u.write = w ∧ u.obj = k ∧ u.sentAt = some t ∧ s.chip.lineNow n - t < 8 *
    s.chip.respTicks n ∧ u.origin = .door q ∧ s.chip.entry? q = some e ∧ e.st ≠ .done ∧ (s.chip.doors[q.door]).releasing = none) ∧
  (∃ s : State, ∃ n : Port, ∃ a : Nat, ∃ r, ∃ u, ∃ k : Nat, ∃ v : List Byte, ∃ x, ∃ t, Canon s.chip ∧ s.chip.pond.grants = [] ∧ s.chip.isLine n =
    true ∧ s.chip.node? n a = some r ∧ s.chip.lineServed n = true ∧ ((s.chip.ports[n]).line.checked 5 a).any (·.answerIs k 0 v) = true ∧ r.out = some
    u ∧ u.write = false ∧ u.obj = k ∧ u.sentAt = some t ∧ s.chip.lineNow n - t < 8 * s.chip.respTicks n ∧ s.chip.objBody? r k = some x ∧ x.1 ≠ r.cid) ∧
  (∃ s : State, ∃ n : Port, ∃ a : Nat, ∃ r, ∃ k : Nat, ∃ w : Bool, ∃ st : Nat, ∃ v : List Byte, Canon s.chip ∧ s.chip.pond.grants = [] ∧
    s.chip.isLine n = true ∧ s.chip.node? n a = some r ∧ s.chip.lineServed n = true ∧ ((s.chip.ports[n]).line.checked (if w then 7 else 5) a).any
    (·.answerIs k st (if w then [] else v)) = true ∧ r.out = none) ∧
  (∃ s : State, ∃ n : Port, ∃ a : Nat, ∃ r, ∃ k : Nat, ∃ v : List Byte, ∃ t : BitVec 64, ∃ x, Canon s.chip ∧ s.chip.pond.grants = [] ∧ s.chip.isLine
    n = true ∧ s.chip.node? n a = some r ∧ s.chip.lineServed n = true ∧ ((s.chip.ports[n]).line.checked 8 a).any (·.reportIs k v t) = true ∧
    s.chip.objBody? r k = some x) ∧
  (∃ s : State, ∃ n : Port, ∃ a : Nat, ∃ r, ∃ k : Nat, ∃ v : List Byte, ∃ t : BitVec 64, ∃ x, ∃ st, Canon s.chip ∧ s.chip.pond.grants = [] ∧
    s.chip.isLine n = true ∧ s.chip.node? n a = some r ∧ s.chip.lineServed n = true ∧ ((s.chip.ports[n]).line.checked 8 a).any (·.reportIs k v t) =
    true ∧ s.chip.objBody? r k = some x ∧ (x.2.report = 1 ∨ x.2.report = 2) ∧ s.chip.lineStream n = some st ∧ s.chip.svc.streams.find? (fun y => y.id
    == st.id) = some st ∧ st.fill + 72 + v.length ≤ st.depth) ∧
  (∃ s : State, ∃ n : Port, ∃ a : Nat, ∃ r, Canon s.chip ∧ s.chip.pond.grants = [] ∧ s.chip.isLine n = true ∧ s.chip.node? n a = some r ∧
    s.chip.lineServed n = true ∧ s.chip.pond.waiters = [] ∧ ((s.chip.ports[n]).line.checked 9 a).any (·.serialIs (s.chip.nodeBody r).serial) = true) ∧
  (∃ s : State, ∃ n : Port, ∃ a : Nat, ∃ r, ∃ u, ∃ t, Canon s.chip ∧ s.chip.pond.grants = [] ∧ s.chip.isLine n = true ∧ s.chip.node? n a = some r ∧
    s.chip.lineTimers n = true ∧ r.out = some u ∧ u.sentAt = some t ∧ t + s.chip.respTicks n ≤ s.chip.clk.now) ∧
  (∃ s : State, ∃ n : Port, ∃ a : Nat, ∃ r, ∃ u, ∃ t, Canon s.chip ∧ s.chip.pond.grants = [] ∧ s.chip.isLine n = true ∧ s.chip.node? n a = some r ∧
    s.chip.lineTimers n = true ∧ r.out = some u ∧ u.sentAt = some t ∧ t + 8 * s.chip.respTicks n ≤ s.chip.clk.now ∧ r.queue = []) :=
  ⟨⟨(at_ (ask 0x0508#16 3 (nodeIndex ((2 : Port)).val (9 : Nat)) (((fields live [(.LINE_HOLD 2, F.LINE_HOLD_ABSENT_HOLD, 9)]).updPort 2 (fun k => { k with mode := .line, line := { joined := true, nodes := [node0] } })).updPond
    (fun k => { k with ctxs := [(29, { typ := tNODE, holder := 2, gen := 1#8, body := .node nbody0 }), (31, { typ := tOBJ, holder := 2, gen := 1#8, parent := 29, body := .obj obj0 })] })))),
    2, 9, node0, q0, (entry 0x0508#16 3 (nodeIndex ((2 : Port)).val (9 : Nat))), 63, (1 : Fin 32), canon (by decide +kernel), forNode (by
    decide +kernel), by decide +kernel⟩,
  ⟨(at_ (ask 0x0508#16 3 (nodeIndex ((2 : Port)).val (9 : Nat)) (((fields live [(.LINE_HOLD 2, F.LINE_HOLD_ABSENT_HOLD, 9)]).updPort 2 (fun k => { k with mode := .line, line := { joined := true, nodes := [{ node0 with out := some ulp0, queue := List.replicate 8 ulp0 }] } })).updPond
    (fun k => { k with ctxs := [(29, { typ := tNODE, holder := 2, gen := 1#8, body := .node nbody0 }), (31, { typ := tOBJ, holder := 2, gen := 1#8, parent := 29, body := .obj obj0 })] })))),
    2, 9, ({ node0 with out := some ulp0, queue := List.replicate 8 ulp0 }), q0, (entry 0x0508#16 3 (nodeIndex ((2 : Port)).val (9 : Nat))), 0, canon
    (by decide +kernel), forNode (by decide +kernel), by decide +kernel⟩,
  ⟨(at_ (ask 0x0509#16 3 (nodeIndex ((2 : Port)).val (9 : Nat)) (((fields live [(.LINE_HOLD 2, F.LINE_HOLD_ABSENT_HOLD, 9)]).updPort 2 (fun k => { k with mode := .line, line := { joined := true, nodes := [node0] } })).updPond
    (fun k => { k with ctxs := [(29, { typ := tNODE, holder := 2, gen := 1#8, body := .node nbody0 }), (31, { typ := tOBJ, holder := 2, gen := 1#8, parent := 29, body := .obj obj0 })] })))),
    2, 9, node0, q0, (entry 0x0509#16 3 (nodeIndex ((2 : Port)).val (9 : Nat))), 63, (List.replicate 40 1#8), 7, (1 : Fin 32), canon (by
    decide +kernel), forNode (by decide +kernel), by decide +kernel⟩,
  ⟨(at_ (ask 0x050A#16 3 (nodeIndex ((2 : Port)).val (9 : Nat)) (((fields live [(.LINE_HOLD 2, F.LINE_HOLD_ABSENT_HOLD, 9)]).updPort 2 (fun k => { k with mode := .line, line := { joined := true, nodes := [node0] } })).updPond
    (fun k => { k with ctxs := [(29, { typ := tNODE, holder := 2, gen := 1#8, body := .node nbody0 }), (31, { typ := tOBJ, holder := 2, gen := 1#8, parent := 29, body := .obj obj0 })] })))),
    2, 9, node0, q0, (entry 0x050A#16 3 (nodeIndex ((2 : Port)).val (9 : Nat))), 7, (31, obj0), canon (by decide +kernel), forNode (by
    decide +kernel), by decide +kernel⟩,
  ⟨(at_ (ask 0x050B#16 3 (nodeIndex ((2 : Port)).val (9 : Nat)) (((fields live [(.LINE_HOLD 2, F.LINE_HOLD_ABSENT_HOLD, 9)]).updPort 2 (fun k => { k with mode := .line, line := { joined := true, nodes := [node0] } })).updPond
    (fun k => { k with ctxs := [(29, { typ := tNODE, holder := 2, gen := 1#8, body := .node nbody0 }), (31, { typ := tOBJ, holder := 2, gen := 1#8, parent := 29, body := .obj obj0 })] })))),
    2, 9, node0, q0, (entry 0x050B#16 3 (nodeIndex ((2 : Port)).val (9 : Nat))), canon (by decide +kernel), forNode (by decide +kernel), by
    decide +kernel⟩,
  ⟨(at_ ((((fields live [(.LINE_HOLD 2, F.LINE_HOLD_ABSENT_HOLD, 9)]).updPort 2 (fun k => { k with mode := .line, line := { joined := true, nodes := [{ node0 with out := some { ulp0 with origin := .door q0 } }], ulp := [rxu 5 9 28 [0#8, 1#8, 2#8, 3#8, 4#8]] } })).updPond
    (fun k => { k with ctxs := [(29, { typ := tNODE, holder := 2, gen := 1#8, body := .node nbody0 }), (31, { typ := tOBJ, holder := 2, gen := 1#8, parent := 29, body := .obj obj0 })] })).updDoor
    0 (fun k => { k with path := some .trunk, reqs := [{ entry 0x0508#16 3 265 with st := .executing }] }))), 2, 9, ({ node0 with out := some { ulp0 with origin := .door q0 } }),
    ({ ulp0 with origin := .door q0 }), q0, ({ entry 0x0508#16 3 265 with st := .executing }), false, 7, 0, ([1#8, 2#8, 3#8, 4#8]), 9999999999999,
    canon (by decide +kernel), by decide +kernel⟩,
  ⟨(at_ (((fields live [(.LINE_HOLD 2, F.LINE_HOLD_ABSENT_HOLD, 9)]).updPort 2 (fun k => { k with mode := .line, line := { joined := true, nodes := [{ node0 with out := some ulp0 }], ulp := [rxu 5 9 28 [0#8, 1#8, 2#8, 3#8, 4#8]] } })).updPond
    (fun k => { k with ctxs := [(29, { typ := tNODE, holder := 2, gen := 1#8, body := .node nbody0 }), (31, { typ := tOBJ, holder := 2, gen := 1#8, parent := 29, body := .obj obj0 })] }))),
    2, 9, ({ node0 with out := some ulp0 }), ulp0, 7, ([1#8, 2#8, 3#8, 4#8]), (31, obj0), 9999999999999, canon (by decide +kernel), by
    decide +kernel⟩,
  ⟨(at_ (((fields live [(.LINE_HOLD 2, F.LINE_HOLD_ABSENT_HOLD, 9)]).updPort 2 (fun k => { k with mode := .line, line := { joined := true, nodes := [node0], ulp := [rxu 7 9 28 [2#8]] } })).updPond
    (fun k => { k with ctxs := [(29, { typ := tNODE, holder := 2, gen := 1#8, body := .node nbody0 }), (31, { typ := tOBJ, holder := 2, gen := 1#8, parent := 29, body := .obj obj0 })] }))),
    2, 9, node0, 7, true, 2, ([]), canon (by decide +kernel), by decide +kernel⟩,
  ⟨(at_ (((fields live [(.LINE_HOLD 2, F.LINE_HOLD_ABSENT_HOLD, 9)]).updPort 2 (fun k => { k with mode := .line, line := { joined := true, nodes := [node0], ulp := [rxu 8 9 28 [1#8, 2#8, 3#8, 4#8]] } })).updPond
    (fun k => { k with ctxs := [(29, { typ := tNODE, holder := 2, gen := 1#8, body := .node nbody0 }), (31, { typ := tOBJ, holder := 2, gen := 1#8, parent := 29, body := .obj obj0 })] }))),
    2, 9, node0, 7, ([1#8, 2#8, 3#8, 4#8]), 1599999999#64, (31, obj0), canon (by decide +kernel), by decide +kernel⟩,
  ⟨(at_ (((fields (live.updSvc (fun k => { k with streams := [strm0] })) [(.LINE_HOLD 2, F.LINE_HOLD_ABSENT_HOLD, 9), (.LINE_CTL 2,
    F.LINE_CTL_STREAM_EN, 1), (.LINE_CTL 2, F.LINE_CTL_STREAM, 3)]).updPort 2 (fun k => { k with mode := .line, line := { joined := true, nodes := [node0], ulp := [rxu 8 9 28 [1#8, 2#8, 3#8, 4#8]] } })).updPond
    (fun k => { k with ctxs := [(29, { typ := tNODE, holder := 2, gen := 1#8, body := .node nbody0 }), (31, { typ := tOBJ, holder := 2, gen := 1#8, parent := 29, body := .obj { obj0 with report := 1 } })] }))),
    2, 9, node0, 7, ([1#8, 2#8, 3#8, 4#8]), 1599999999#64, (31, { obj0 with report := 1 }), strm0, canon (by decide +kernel), by decide +kernel⟩,
  ⟨(at_ (((fields live [(.LINE_HOLD 2, F.LINE_HOLD_ABSENT_HOLD, 9)]).updPort 2 (fun k => { k with mode := .line, line := { joined := true, nodes := [node0], ulp := [rxu 9 9 0 (leBytes 8 99)] } })).updPond
    (fun k => { k with ctxs := [(29, { typ := tNODE, holder := 2, gen := 1#8, body := .node nbody0 }), (31, { typ := tOBJ, holder := 2, gen := 1#8, parent := 29, body := .obj obj0 })] }))),
    2, 9, node0, canon (by decide +kernel), by decide +kernel⟩,
  ⟨(at_ (((fields live [(.LINE_HOLD 2, F.LINE_HOLD_ABSENT_HOLD, 9)]).updPort 2 (fun k => { k with mode := .line, line := { joined := true, nodes := [{ node0 with out := some { ulp0 with sentAt := some (10000000000000 - us 25500) } }] } })).updPond
    (fun k => { k with ctxs := [(29, { typ := tNODE, holder := 2, gen := 1#8, body := .node nbody0 }), (31, { typ := tOBJ, holder := 2, gen := 1#8, parent := 29, body := .obj obj0 })] }))),
    2, 9, ({ node0 with out := some { ulp0 with sentAt := some (10000000000000 - us 25500) } }), ({ ulp0 with sentAt := some (10000000000000 - us 25500) }),
    (10000000000000 - us 25500), canon (by decide +kernel), by decide +kernel⟩,
  ⟨(at_ (((fields live [(.LINE_HOLD 2, F.LINE_HOLD_ABSENT_HOLD, 9)]).updPort 2 (fun k => { k with mode := .line, line := { joined := true, nodes := [{ node0 with out := some { ulp0 with sentAt := some (10000000000000 - us 204000) } }] } })).updPond
    (fun k => { k with ctxs := [(29, { typ := tNODE, holder := 2, gen := 1#8, body := .node nbody0 }), (31, { typ := tOBJ, holder := 2, gen := 1#8, parent := 29, body := .obj obj0 })] }))),
    2, 9, ({ node0 with out := some { ulp0 with sentAt := some (10000000000000 - us 204000) } }), ({ ulp0 with sentAt := some (10000000000000 - us 204000) }),
    (10000000000000 - us 204000), canon (by decide +kernel), by decide +kernel⟩⟩

/-- The hypotheses of each clause of `Obligations.LineNodes` are met. -/
theorem witness_LineNodes :
  (∃ s : State, ∃ n : Port, ∃ ser : BitVec 64, ∃ a, Canon s.chip ∧ s.chip.pond.grants = [] ∧ s.chip.lineServed n = true ∧
    ((s.chip.ports[n]).line.checked 1 127).any (·.serialIs ser) = true ∧ s.chip.pond.rebuild = false ∧ s.chip.nodeBySerial n ser = none ∧
    (s.chip.ports[n]).line.freeAddr = some a ∧ s.chip.allocVerdict (hPort n) 1 = rOK) ∧
  (∃ s : State, ∃ n : Port, ∃ ser : BitVec 64, Canon s.chip ∧ s.chip.pond.grants = [] ∧ s.chip.lineServed n = true ∧ ((s.chip.ports[n]).line.checked
    1 127).any (·.serialIs ser) = true ∧ s.chip.pond.rebuild = false ∧ s.chip.nodeBySerial n ser = none ∧ (s.chip.ports[n]).line.freeAddr = none) ∧
  (∃ s : State, ∃ n : Port, ∃ a : Nat, ∃ r, ∃ k : Nat, ∃ es : List (Nat × Nat × Nat × Nat), Canon s.chip ∧ s.chip.pond.grants = [] ∧
    s.chip.lineServed n = true ∧ ((s.chip.ports[n]).line.checked 3 a).any (·.segmentIs 0 0 k es) = true ∧ s.chip.pond.rebuild = false ∧ s.chip.node?
    n a = some r ∧ (s.chip.nodeBody r).nstate = nsANNOUNCING ∧ 1 ≤ k ∧ k ≤ 15 ∧ es.length = k ∧ announceOk es = true ∧ s.chip.allocVerdict (hPort n)
    k = rOK) ∧
  (∃ s : State, ∃ n : Port, ∃ a : Nat, ∃ r, ∃ k : Nat, ∃ es : List (Nat × Nat × Nat × Nat), Canon s.chip ∧ s.chip.pond.grants = [] ∧
    s.chip.lineServed n = true ∧ ((s.chip.ports[n]).line.checked 3 a).any (·.segmentIs 1 0 k es) = true ∧ s.chip.pond.rebuild = false ∧ s.chip.node?
    n a = some r ∧ (s.chip.nodeBody r).nstate = nsANNOUNCING ∧ 15 < k ∧ es.length = 15) ∧
  (∃ s : State, ∃ n : Port, ∃ a : Nat, ∃ r, ∃ t, Canon s.chip ∧ s.chip.pond.grants = [] ∧ s.chip.node? n a = some r ∧ s.chip.lineTimers n = true ∧
    r.annDue = some t ∧ t ≤ s.chip.clk.now ∧ (s.chip.nodeBody r).annTry < 3) ∧
  (∃ s : State, ∃ n : Port, ∃ a : Nat, ∃ r, ∃ t, Canon s.chip ∧ s.chip.pond.grants = [] ∧ s.chip.node? n a = some r ∧ s.chip.lineTimers n = true ∧
    r.annDue = some t ∧ t ≤ s.chip.clk.now ∧ 3 ≤ (s.chip.nodeBody r).annTry ∧ s.chip.pond.waiters = []) ∧
  (∃ s : State, ∃ n : Port, ∃ r, Canon s.chip ∧ s.chip.pond.grants = [] ∧ s.chip.lineTimers n = true ∧ s.chip.bit (.LINE_CTL n) F.LINE_CTL_POLL_EN =
    true ∧ (s.chip.ports[n]).line.nodes = [r] ∧ r.out = none ∧ (s.chip.nodeBody r).nstate ≠ nsSLOW ∧ (s.chip.nodeBody r).nstate ≠ nsABSENT ∧
    (s.chip.ports[n]).line.polledAt + ms (s.chip.pollMs n nsLIVE) ≤ s.chip.clk.now) ∧
  (∃ s : State, ∃ n : Port, ∃ a : Nat, ∃ r, ∃ t, Canon s.chip ∧ s.chip.pond.grants = [] ∧ s.chip.node? n a = some r ∧ s.chip.get (.LINE_HOLD n)
    F.LINE_HOLD_ABSENT_HOLD ≠ 0 ∧ s.chip.lineServed n = true ∧ r.absentAt = some t ∧ t + sec (s.chip.get (.LINE_HOLD n) F.LINE_HOLD_ABSENT_HOLD) ≤
    s.chip.clk.now ∧ s.chip.pond.waiters = []) ∧
  (∃ s : State, ∃ n : Port, ∃ a : Nat, ∃ t, Canon s.chip ∧ s.chip.pond.grants = [] ∧ lookupNat (s.chip.ports[n]).line.quar a = some t ∧ t ≤
    s.chip.clk.now) :=
  ⟨⟨(at_ (((fields live [(.LINE_HOLD 2, F.LINE_HOLD_ABSENT_HOLD, 9)]).updPort 2 (fun k => { k with mode := .line, line := { joined := true, nodes := [node0], ulp := [rxu 1 127 77 (leBytes 8 77)] } })).updPond
    (fun k => { k with ctxs := [(29, { typ := tNODE, holder := 2, gen := 1#8, body := .node nbody0 }), (31, { typ := tOBJ, holder := 2, gen := 1#8, parent := 29, body := .obj obj0 })] }))),
    2, 77#64, 1, canon (by decide +kernel), by decide +kernel⟩,
  ⟨(at_ (((fields live [(.LINE_HOLD 2, F.LINE_HOLD_ABSENT_HOLD, 9)]).updPort 2 (fun k => { k with mode := .line, line := { joined := true, nodes := [node0], ulp := [rxu 1 127 77 (leBytes 8 77)], quar := (List.range 127).map (fun i => (i, 1)) } })).updPond
    (fun k => { k with ctxs := [(29, { typ := tNODE, holder := 2, gen := 1#8, body := .node nbody0 }), (31, { typ := tOBJ, holder := 2, gen := 1#8, parent := 29, body := .obj obj0 })] }))),
    2, 77#64, canon (by decide +kernel), by decide +kernel⟩,
  ⟨(at_ (((fields live [(.LINE_HOLD 2, F.LINE_HOLD_ABSENT_HOLD, 9)]).updPort 2 (fun k => { k with mode := .line, line := { joined := true, nodes := [node0], ulp := [rxu 3 9 0 (0#8 :: 15#8 :: (List.range 15).flatMap (fun i => [BitVec.ofNat 8 i, 0#8, 1#8, 4#8]))] } })).updPond
    (fun k => { k with ctxs := [(29, { typ := tNODE, holder := 2, gen := 1#8, body := .node { nbody0 with nstate := nsANNOUNCING, annTry := 1 } }), (31, { typ := tOBJ, holder := 2, gen := 1#8, parent := 29, body := .obj obj0 })] }))),
    2, 9, node0, 15, ((List.range 15).map (fun i => (i, 0, 1, 4))), canon (by decide +kernel), by decide +kernel⟩,
  ⟨(at_ (((fields live [(.LINE_HOLD 2, F.LINE_HOLD_ABSENT_HOLD, 9)]).updPort 2 (fun k => { k with mode := .line, line := { joined := true, nodes := [node0], ulp := [rxu 3 9 1 (0#8 :: 16#8 :: (List.range 15).flatMap (fun i => [BitVec.ofNat 8 i, 0#8, 1#8, 4#8]))] } })).updPond
    (fun k => { k with ctxs := [(29, { typ := tNODE, holder := 2, gen := 1#8, body := .node { nbody0 with nstate := nsANNOUNCING, annTry := 1 } }), (31, { typ := tOBJ, holder := 2, gen := 1#8, parent := 29, body := .obj obj0 })] }))),
    2, 9, node0, 16, ((List.range 15).map (fun i => (i, 0, 1, 4))), canon (by decide +kernel), by decide +kernel⟩,
  ⟨(at_ (((fields live [(.LINE_HOLD 2, F.LINE_HOLD_ABSENT_HOLD, 9)]).updPort 2 (fun k => { k with mode := .line, line := { joined := true, nodes := [{ node0 with annDue := some 10000000000000 }] } })).updPond
    (fun k => { k with ctxs := [(29, { typ := tNODE, holder := 2, gen := 1#8, body := .node { nbody0 with nstate := nsANNOUNCING, annTry := 2 } }), (31, { typ := tOBJ, holder := 2, gen := 1#8, parent := 29, body := .obj obj0 })] }))),
    2, 9, ({ node0 with annDue := some 10000000000000 }), 10000000000000, canon (by decide +kernel), by decide +kernel⟩,
  ⟨(at_ (((fields live [(.LINE_HOLD 2, F.LINE_HOLD_ABSENT_HOLD, 9)]).updPort 2 (fun k => { k with mode := .line, line := { joined := true, nodes := [{ node0 with annDue := some 10000000000000 }] } })).updPond
    (fun k => { k with ctxs := [(29, { typ := tNODE, holder := 2, gen := 1#8, body := .node { nbody0 with nstate := nsANNOUNCING, annTry := 3 } }), (31, { typ := tOBJ, holder := 2, gen := 1#8, parent := 29, body := .obj obj0 })] }))),
    2, 9, ({ node0 with annDue := some 10000000000000 }), 10000000000000, canon (by decide +kernel), by decide +kernel⟩,
  ⟨(at_ (((fields live [(.LINE_HOLD 2, F.LINE_HOLD_ABSENT_HOLD, 9), (.LINE_CTL 2, F.LINE_CTL_POLL_EN, 1)]).updPort 2 (fun k => { k with mode := .line, line := { joined := true, nodes := [node0] } })).updPond
    (fun k => { k with ctxs := [(29, { typ := tNODE, holder := 2, gen := 1#8, body := .node { nbody0 with pollMs := 0 } }), (31, { typ := tOBJ, holder := 2, gen := 1#8, parent := 29, body := .obj obj0 })] }))),
    2, node0, canon (by decide +kernel), by decide +kernel⟩,
  ⟨(at_ (((fields live [(.LINE_HOLD 2, F.LINE_HOLD_ABSENT_HOLD, 9)]).updPort 2 (fun k => { k with mode := .line, line := { joined := true, nodes := [{ node0 with absentAt := some (10000000000000 - sec 9) }] } })).updPond
    (fun k => { k with ctxs := [(29, { typ := tNODE, holder := 2, gen := 1#8, body := .node { nbody0 with nstate := nsABSENT } }), (31, { typ := tOBJ, holder := 2, gen := 1#8, parent := 29, body := .obj obj0 })] }))),
    2, 9, ({ node0 with absentAt := some (10000000000000 - sec 9) }), (10000000000000 - sec 9), canon (by decide +kernel), by decide +kernel⟩,
  ⟨(at_ (((fields live [(.LINE_HOLD 2, F.LINE_HOLD_ABSENT_HOLD, 9)]).updPort 2 (fun k => { k with mode := .line, line := { joined := true, nodes := [node0], quar := [(5, 10000000000000)] } })).updPond
    (fun k => { k with ctxs := [(29, { typ := tNODE, holder := 2, gen := 1#8, body := .node nbody0 }), (31, { typ := tOBJ, holder := 2, gen := 1#8, parent := 29, body := .obj obj0 })] }))),
    2, 5, 10000000000000, canon (by decide +kernel), by decide +kernel⟩⟩

/-- The hypotheses of each clause of `Obligations.LineWire` are met. -/
theorem witness_LineWire :
  (∃ s : State, ∃ n : Port, ∃ f, Canon s.chip ∧ s.chip.pond.grants = [] ∧ s.chip.isLine n = true ∧ s.chip.lineClock = true ∧
    (s.chip.ports[n]).line.joined = true ∧ s.chip.lineOff n = false ∧ s.chip.filter n f = none) ∧
  (∃ s : State, ∃ n : Port, ∃ f, Canon s.chip ∧ s.chip.pond.grants = [] ∧ s.chip.isLine n = true ∧ s.chip.lineClock = true ∧
    (s.chip.ports[n]).line.joined = true ∧ s.chip.lineOff n = false ∧ s.chip.filter n f = some 1 ∧ (s.chip.ports[n]).line.rxq0.length < 64) ∧
  (∃ s : State, ∃ n : Port, ∃ f, Canon s.chip ∧ s.chip.pond.grants = [] ∧ s.chip.isLine n = true ∧ s.chip.lineClock = true ∧
    (s.chip.ports[n]).line.joined = true ∧ s.chip.lineOff n = false ∧ s.chip.filter n f = some 1 ∧ 64 ≤ (s.chip.ports[n]).line.rxq0.length) ∧
  (∃ s : State, ∃ n : Port, ∃ f, ∃ t, Canon s.chip ∧ s.chip.pond.grants = [] ∧ s.chip.isLine n = true ∧ s.chip.lineClock = true ∧
    (s.chip.ports[n]).line.joined = true ∧ s.chip.lineOff n = false ∧ s.chip.filter n f = some 2 ∧ s.chip.basinUp n = true ∧ s.chip.lineStream n =
    some t ∧ s.chip.svc.streams.find? (fun y => y.id == t.id) = some t ∧ t.fill + 71 + f.data.length ≤ t.depth) ∧
  (∃ s : State, ∃ n : Port, Canon s.chip ∧ s.chip.pond.grants = [] ∧ s.chip.isLine n = true ∧ s.chip.lineClock = true ∧ (s.chip.ports[n]).line.joined
    = true ∧ s.chip.lineOff n = false) ∧
  (∃ s : State, ∃ n : Port, ∃ x, ∃ l, Canon s.chip ∧ s.chip.pond.grants = [] ∧ (s.chip.ports[n]).line.rxq0 = x :: l ∧ s.chip.basinUp n = true ∧
    s.chip.strangerCause n x.frame = none) ∧
  (∃ s : State, ∃ n : Port, ∃ x, ∃ l, ∃ k, Canon s.chip ∧ s.chip.pond.grants = [] ∧ (s.chip.ports[n]).line.rxq0 = x :: l ∧ s.chip.basinUp n = true ∧
    s.chip.strangerCause n x.frame = some k) ∧
  (∃ s : State, ∃ n : Port, ∃ i : Fin 32, ∃ b, Canon s.chip ∧ s.chip.pond.grants = [] ∧ (s.chip.ports[n]).line.tx[i] = some b ∧ s.chip.lineClock =
    true ∧ (s.chip.ports[n]).line.joined = true ∧ s.chip.lineOff n = false ∧ s.chip.bit (.LINE_CTL n) F.LINE_CTL_LISTEN = false ∧
    (s.chip.ports[n]).line.offers i = true) ∧
  (∃ s : State, ∃ n : Port, ∃ i : Fin 32, ∃ b, Canon s.chip ∧ s.chip.pond.grants = [] ∧ (s.chip.ports[n]).line.tx[i] = some b ∧ b.started = true ∧
    b.frame.fdf = true) ∧
  (∃ s : State, ∃ n : Port, ∃ i : Fin 32, ∃ b, ∃ w : TxWire, Canon s.chip ∧ s.chip.pond.grants = [] ∧ (s.chip.ports[n]).line.tx[i] = some b ∧ (w =
    .lostArbitration ∨ w = .error) ∧ b.started = true ∧ b.cancelled = false ∧ (i.val ≠ 0 ∨ (s.chip.ports[n]).line.timeWait = none)) ∧
  (∃ s : State, ∃ n : Port, ∃ b, ∃ w : TxWire, ∃ f, Canon s.chip ∧ s.chip.pond.grants = [] ∧ (s.chip.ports[n]).line.tx[(0 : Fin 32)] = some b ∧ (w =
    .lostArbitration ∨ w = .error) ∧ b.started = true ∧ b.cancelled = false ∧ (s.chip.ports[n]).line.timeWait = some f) ∧
  (∃ s : State, ∃ n : Port, ∃ i : Fin 32, ∃ b, ∃ w : TxWire, Canon s.chip ∧ s.chip.pond.grants = [] ∧ (s.chip.ports[n]).line.tx[i] = some b ∧ (w =
    .lostArbitration ∨ w = .error) ∧ b.started = true ∧ b.cancelled = true ∧ (s.chip.ports[n]).line.txWait = [] ∧ (s.chip.ports[n]).line.timeWait =
    none) ∧
  (∃ s : State, ∃ n : Port, ∃ i : Fin 32, ∃ b, Canon s.chip ∧ s.chip.pond.grants = [] ∧ (s.chip.ports[n]).line.tx[i] = some b ∧ b.started = true ∧
    b.tooLong = false ∧ (s.chip.ports[n]).line.txWait = [] ∧ (s.chip.ports[n]).line.timeWait = none) ∧
  (∃ s : State, ∃ n : Port, ∃ o : CanRole, ∃ x : CanErr, ∃ t, ∃ r, Canon s.chip ∧ s.chip.pond.grants = [] ∧ s.chip.isLine n = true ∧ s.chip.lineClock
    = true ∧ s.chip.lineOff n = false ∧ t = s.chip.get (.LINE_ERR n) F.LINE_ERR_TEC + (if s.chip.bit (.LINE_CTL n) F.LINE_CTL_LISTEN then 0 else
    (errAdds o x).1) ∧ r = s.chip.get (.LINE_ERR n) F.LINE_ERR_REC + (errAdds o x).2) ∧
  (∃ s : State, ∃ n : Port, ∃ b, Canon s.chip ∧ s.chip.pond.grants = [] ∧ s.chip.isLine n = true ∧ s.chip.lineOff n = false ∧
    (s.chip.ports[n]).line.boffDue = true ∧ b = (s.chip.ports[n]).line.busOnAt.any (fun t => s.chip.clk.now < t + sec 1)) ∧
  (∃ s : State, ∃ n : Port, Canon s.chip ∧ s.chip.pond.grants = [] ∧ s.chip.get (.LINE_ERR n) F.LINE_ERR_STATE = leRECOVERING ∧ s.chip.isLine n =
    true ∧ 128 * 11 ≤ s.chip.recoveryBits n) ∧
  (∃ s : State, ∃ n : Port, ∃ f, Canon s.chip ∧ s.chip.pond.grants = [] ∧ s.chip.lineRuns n = true ∧ s.chip.bit (.LINE_CTL n) F.LINE_CTL_TIME_EN =
    true ∧ s.chip.sei.time.toNat % 1600000 = 0 ∧ f = s.chip.ulpFrame n (ulpId 0 0 0 127 0) (leBytes 8 s.chip.sei.time.toNat ++ leBytes 2
    (s.chip.ports[n]).line.tseq.toNat ++ leBytes 1 (bitOf s.chip.timeDegraded))) ∧
  (∃ s : State, ∃ n : Port, ∃ t, ∃ b, Canon s.chip ∧ s.chip.pond.grants = [] ∧ (s.chip.ports[n]).line.timeDue = some t ∧ t ≤ s.chip.clk.now ∧
    (s.chip.ports[n]).line.tx[(0 : Fin 32)] = some b ∧ b.started = false ∧ (s.chip.ports[n]).line.timeWait = none) ∧
  (∃ s : State, ∃ n : Port, ∃ t, ∃ f, Canon s.chip ∧ s.chip.pond.grants = [] ∧ (s.chip.ports[n]).line.timeDue = some t ∧ t ≤ s.chip.clk.now ∧
    (s.chip.ports[n]).line.timeWait = some f) ∧
  (∃ s : State, ∃ n : Port, Canon s.chip ∧ s.chip.pond.grants = [] ∧ s.chip.isLine n = true ∧ (s.chip.ports[n]).line.isolated = false) :=
  ⟨⟨(at_ (((fields live [(.LINE_HOLD 2, F.LINE_HOLD_ABSENT_HOLD, 9)]).updPort 2 (fun k => { k with mode := .line, line := { joined := true, nodes := [node0] } })).updPond
    (fun k => { k with ctxs := [(29, { typ := tNODE, holder := 2, gen := 1#8, body := .node nbody0 }), (31, { typ := tOBJ, holder := 2, gen := 1#8, parent := 29, body := .obj obj0 })] }))),
    2, can0, canon (by decide +kernel), by decide +kernel⟩,
  ⟨(at_ (((fields live [(.LINE_HOLD 2, F.LINE_HOLD_ABSENT_HOLD, 9), (.LINE_FLT_ID 2 31, F.LINE_FLT_ID_ACTION, 1)]).updPort 2 (fun k => { k with mode := .line, line := { joined := true, nodes := [node0], rxq0 := List.replicate 63 { frame := can0, tick := 5#64, cause := 0 } } })).updPond
    (fun k => { k with ctxs := [(29, { typ := tNODE, holder := 2, gen := 1#8, body := .node nbody0 }), (31, { typ := tOBJ, holder := 2, gen := 1#8, parent := 29, body := .obj obj0 })] }))),
    2, can0, canon (by decide +kernel), by decide +kernel⟩,
  ⟨(at_ (((fields live [(.LINE_HOLD 2, F.LINE_HOLD_ABSENT_HOLD, 9), (.LINE_FLT_ID 2 31, F.LINE_FLT_ID_ACTION, 1)]).updPort 2 (fun k => { k with mode := .line, line := { joined := true, nodes := [node0], rxq0 := List.replicate 64 { frame := can0, tick := 5#64, cause := 0 } } })).updPond
    (fun k => { k with ctxs := [(29, { typ := tNODE, holder := 2, gen := 1#8, body := .node nbody0 }), (31, { typ := tOBJ, holder := 2, gen := 1#8, parent := 29, body := .obj obj0 })] }))),
    2, can0, canon (by decide +kernel), by decide +kernel⟩,
  ⟨(at_ (((fields (live.updSvc (fun k => { k with streams := [strm0] })) [(.LINE_HOLD 2, F.LINE_HOLD_ABSENT_HOLD, 9), (.LINE_FLT_ID 2 31,
    F.LINE_FLT_ID_ACTION, 2), (.LINE_CTL 2, F.LINE_CTL_STREAM_EN, 1), (.LINE_CTL 2, F.LINE_CTL_STREAM, 3)]).updPort 2 (fun k => { k with mode := .line, line := { joined := true, nodes := [node0] } })).updPond
    (fun k => { k with ctxs := [(29, { typ := tNODE, holder := 2, gen := 1#8, body := .node nbody0 }), (31, { typ := tOBJ, holder := 2, gen := 1#8, parent := 29, body := .obj obj0 })] }))),
    2, can0, strm0, canon (by decide +kernel), by decide +kernel⟩,
  ⟨(at_ (((fields live [(.LINE_HOLD 2, F.LINE_HOLD_ABSENT_HOLD, 9)]).updPort 2 (fun k => { k with mode := .line, line := { joined := true, nodes := [node0] } })).updPond
    (fun k => { k with ctxs := [(29, { typ := tNODE, holder := 2, gen := 1#8, body := .node nbody0 }), (31, { typ := tOBJ, holder := 2, gen := 1#8, parent := 29, body := .obj obj0 })] }))),
    2, canon (by decide +kernel), by decide +kernel⟩,
  ⟨(at_ (((fields live [(.LINE_HOLD 2, F.LINE_HOLD_ABSENT_HOLD, 9)]).updPort 2 (fun k => { k with mode := .line, line := { joined := true, nodes := [node0], rxq0 := [rx0] } })).updPond
    (fun k => { k with ctxs := [(29, { typ := tNODE, holder := 2, gen := 1#8, body := .node nbody0 }), (31, { typ := tOBJ, holder := 2, gen := 1#8, parent := 29, body := .obj obj0 })] }))),
    2, rx0, ([] : List RxCan), canon (by decide +kernel), by decide +kernel⟩,
  ⟨(at_ (((fields live [(.LINE_HOLD 2, F.LINE_HOLD_ABSENT_HOLD, 9)]).updPort 2 (fun k => { k with mode := .line, line := { joined := true, nodes := [node0], rxq0 := [{ frame := can0, tick := 5#64, cause := 0 }] } })).updPond
    (fun k => { k with ctxs := [(29, { typ := tNODE, holder := 2, gen := 1#8, body := .node nbody0 }), (31, { typ := tOBJ, holder := 2, gen := 1#8, parent := 29, body := .obj obj0 })] }))),
    2, ({ frame := can0, tick := 5#64, cause := 0 } : RxCan), ([] : List RxCan), 2, canon (by decide +kernel), by decide +kernel⟩,
  ⟨(at_ (((fields live [(.LINE_HOLD 2, F.LINE_HOLD_ABSENT_HOLD, 9)]).updPort 2 (fun k => { k with mode := .line, line := { joined := true, nodes := [node0], tx := (Vector.replicate 32 none).set 1 (some txb0) } })).updPond
    (fun k => { k with ctxs := [(29, { typ := tNODE, holder := 2, gen := 1#8, body := .node nbody0 }), (31, { typ := tOBJ, holder := 2, gen := 1#8, parent := 29, body := .obj obj0 })] }))),
    2, 1, txb0, canon (by decide +kernel), by decide +kernel⟩,
  ⟨(at_ (((fields live [(.LINE_HOLD 2, F.LINE_HOLD_ABSENT_HOLD, 9)]).updPort 2 (fun k => { k with mode := .line, line := { joined := true, nodes := [node0], tx := (Vector.replicate 32 none).set 1 (some { txb0 with started := true, frame := { can0 with fdf := true } }) } })).updPond
    (fun k => { k with ctxs := [(29, { typ := tNODE, holder := 2, gen := 1#8, body := .node nbody0 }), (31, { typ := tOBJ, holder := 2, gen := 1#8, parent := 29, body := .obj obj0 })] }))),
    2, 1, ({ txb0 with started := true, frame := { can0 with fdf := true } }), canon (by decide +kernel), by decide +kernel⟩,
  ⟨(at_ (((fields live [(.LINE_HOLD 2, F.LINE_HOLD_ABSENT_HOLD, 9)]).updPort 2 (fun k => { k with mode := .line, line := { joined := true, nodes := [node0], tx := (Vector.replicate 32 none).set 1 (some { txb0 with started := true }) } })).updPond
    (fun k => { k with ctxs := [(29, { typ := tNODE, holder := 2, gen := 1#8, body := .node nbody0 }), (31, { typ := tOBJ, holder := 2, gen := 1#8, parent := 29, body := .obj obj0 })] }))),
    2, 1, ({ txb0 with started := true }), .error, canon (by decide +kernel), by decide +kernel⟩,
  ⟨(at_ (((fields live [(.LINE_HOLD 2, F.LINE_HOLD_ABSENT_HOLD, 9)]).updPort 2 (fun k => { k with mode := .line, line := { joined := true, nodes := [node0], timeWait := some can0, tx := (Vector.replicate 32 none).set 0 (some { txb0 with started := true, use := .time }) } })).updPond
    (fun k => { k with ctxs := [(29, { typ := tNODE, holder := 2, gen := 1#8, body := .node nbody0 }), (31, { typ := tOBJ, holder := 2, gen := 1#8, parent := 29, body := .obj obj0 })] }))),
    2, ({ txb0 with started := true, use := .time }), .error, can0, canon (by decide +kernel), by decide +kernel⟩,
  ⟨(at_ (((fields live [(.LINE_HOLD 2, F.LINE_HOLD_ABSENT_HOLD, 9)]).updPort 2 (fun k => { k with mode := .line, line := { joined := true, nodes := [node0], tx := (Vector.replicate 32 none).set 1 (some { txb0 with started := true, cancelled := true }) } })).updPond
    (fun k => { k with ctxs := [(29, { typ := tNODE, holder := 2, gen := 1#8, body := .node nbody0 }), (31, { typ := tOBJ, holder := 2, gen := 1#8, parent := 29, body := .obj obj0 })] }))),
    2, 1, ({ txb0 with started := true, cancelled := true }), .lostArbitration, canon (by decide +kernel), by decide +kernel⟩,
  ⟨(at_ (((fields live [(.LINE_HOLD 2, F.LINE_HOLD_ABSENT_HOLD, 9)]).updPort 2 (fun k => { k with mode := .line, line := { joined := true, nodes := [node0], tx := (Vector.replicate 32 none).set 31 (some { txb0 with started := true }) } })).updPond
    (fun k => { k with ctxs := [(29, { typ := tNODE, holder := 2, gen := 1#8, body := .node nbody0 }), (31, { typ := tOBJ, holder := 2, gen := 1#8, parent := 29, body := .obj obj0 })] }))),
    2, 31, ({ txb0 with started := true }), canon (by decide +kernel), by decide +kernel⟩,
  ⟨(at_ (((fields live [(.LINE_HOLD 2, F.LINE_HOLD_ABSENT_HOLD, 9), (.LINE_ERR 2, F.LINE_ERR_TEC, 250), (.LINE_ERR 2, F.LINE_ERR_REC, 3)]).updPort 2
    (fun k => { k with mode := .line, line := { joined := true, nodes := [node0] } })).updPond (fun k => { k with ctxs := [(29, { typ := tNODE, holder := 2, gen := 1#8, body := .node nbody0 }), (31, { typ := tOBJ, holder := 2, gen := 1#8, parent := 29, body := .obj obj0 })] }))),
    2, .transmitter, .plain, (at_ (((fields live [(.LINE_HOLD 2, F.LINE_HOLD_ABSENT_HOLD, 9), (.LINE_ERR 2, F.LINE_ERR_TEC, 250), (.LINE_ERR 2,
    F.LINE_ERR_REC, 3)]).updPort 2 (fun k => { k with mode := .line, line := { joined := true, nodes := [node0] } })).updPond (fun k => { k with ctxs := [(29, { typ := tNODE, holder := 2, gen := 1#8, body := .node nbody0 }), (31, { typ := tOBJ, holder := 2, gen := 1#8, parent := 29, body := .obj obj0 })] }))).chip.get
    (.LINE_ERR 2) F.LINE_ERR_TEC + (if (at_ (((fields live [(.LINE_HOLD 2, F.LINE_HOLD_ABSENT_HOLD, 9), (.LINE_ERR 2, F.LINE_ERR_TEC, 250),
    (.LINE_ERR 2, F.LINE_ERR_REC, 3)]).updPort 2 (fun k => { k with mode := .line, line := { joined := true, nodes := [node0] } })).updPond (fun k =>
    { k with ctxs := [(29, { typ := tNODE, holder := 2, gen := 1#8, body := .node nbody0 }), (31, { typ := tOBJ, holder := 2, gen := 1#8, parent := 29, body := .obj obj0 })] }))).chip.bit
    (.LINE_CTL 2) F.LINE_CTL_LISTEN then 0 else (errAdds .transmitter .plain).1), (at_ (((fields live [(.LINE_HOLD 2, F.LINE_HOLD_ABSENT_HOLD, 9),
    (.LINE_ERR 2, F.LINE_ERR_TEC, 250), (.LINE_ERR 2, F.LINE_ERR_REC, 3)]).updPort 2 (fun k => { k with mode := .line, line := { joined := true, nodes := [node0] } })).updPond
    (fun k => { k with ctxs := [(29, { typ := tNODE, holder := 2, gen := 1#8, body := .node nbody0 }), (31, { typ := tOBJ, holder := 2, gen := 1#8, parent := 29, body := .obj obj0 })] }))).chip.get
    (.LINE_ERR 2) F.LINE_ERR_REC + (errAdds .transmitter .plain).2, canon (by decide +kernel), by decide +kernel⟩,
  ⟨(at_ (((fields live [(.LINE_HOLD 2, F.LINE_HOLD_ABSENT_HOLD, 9)]).updPort 2 (fun k => { k with mode := .line, line := { joined := true, nodes := [node0], boffDue := true, busOnAt := some (10000000000000 - sec 1) } })).updPond
    (fun k => { k with ctxs := [(29, { typ := tNODE, holder := 2, gen := 1#8, body := .node nbody0 }), (31, { typ := tOBJ, holder := 2, gen := 1#8, parent := 29, body := .obj obj0 })] }))),
    2, false, canon (by decide +kernel), by decide +kernel⟩,
  ⟨(at_ (((fields live [(.LINE_HOLD 2, F.LINE_HOLD_ABSENT_HOLD, 9), (.LINE_ERR 2, F.LINE_ERR_STATE, leRECOVERING)]).updPort 2 (fun k => { k with mode := .line, line := { joined := true, nodes := [node0] } })).updPond
    (fun k => { k with ctxs := [(29, { typ := tNODE, holder := 2, gen := 1#8, body := .node nbody0 }), (31, { typ := tOBJ, holder := 2, gen := 1#8, parent := 29, body := .obj obj0 })] }))),
    2, canon (by decide +kernel), by decide +kernel⟩,
  ⟨(at_ (((fields live [(.LINE_HOLD 2, F.LINE_HOLD_ABSENT_HOLD, 9), (.LINE_CTL 2, F.LINE_CTL_TIME_EN, 1)]).updPort 2 (fun k => { k with mode := .line, line := { joined := true, nodes := [node0] } })).updPond
    (fun k => { k with ctxs := [(29, { typ := tNODE, holder := 2, gen := 1#8, body := .node nbody0 }), (31, { typ := tOBJ, holder := 2, gen := 1#8, parent := 29, body := .obj obj0 })] }))),
    2, (at_ (((fields live [(.LINE_HOLD 2, F.LINE_HOLD_ABSENT_HOLD, 9), (.LINE_CTL 2, F.LINE_CTL_TIME_EN, 1)]).updPort 2 (fun k => { k with mode := .line, line := { joined := true, nodes := [node0] } })).updPond
    (fun k => { k with ctxs := [(29, { typ := tNODE, holder := 2, gen := 1#8, body := .node nbody0 }), (31, { typ := tOBJ, holder := 2, gen := 1#8, parent := 29, body := .obj obj0 })] }))).chip.ulpFrame
    2 (ulpId 0 0 0 127 0) (leBytes 8 (at_ (((fields live [(.LINE_HOLD 2, F.LINE_HOLD_ABSENT_HOLD, 9), (.LINE_CTL 2, F.LINE_CTL_TIME_EN, 1)]).updPort
    2 (fun k => { k with mode := .line, line := { joined := true, nodes := [node0] } })).updPond (fun k => { k with ctxs := [(29, { typ := tNODE, holder := 2, gen := 1#8, body := .node nbody0 }), (31, { typ := tOBJ, holder := 2, gen := 1#8, parent := 29, body := .obj obj0 })] }))).chip.sei.time.toNat
    ++ leBytes 2 ((at_ (((fields live [(.LINE_HOLD 2, F.LINE_HOLD_ABSENT_HOLD, 9), (.LINE_CTL 2, F.LINE_CTL_TIME_EN, 1)]).updPort 2 (fun k => { k with mode := .line, line := { joined := true, nodes := [node0] } })).updPond
    (fun k => { k with ctxs := [(29, { typ := tNODE, holder := 2, gen := 1#8, body := .node nbody0 }), (31, { typ := tOBJ, holder := 2, gen := 1#8, parent := 29, body := .obj obj0 })] }))).chip.ports[2]).line.tseq.toNat
    ++ leBytes 1 (bitOf (at_ (((fields live [(.LINE_HOLD 2, F.LINE_HOLD_ABSENT_HOLD, 9), (.LINE_CTL 2, F.LINE_CTL_TIME_EN, 1)]).updPort 2 (fun k => { k with mode := .line, line := { joined := true, nodes := [node0] } })).updPond
    (fun k => { k with ctxs := [(29, { typ := tNODE, holder := 2, gen := 1#8, body := .node nbody0 }), (31, { typ := tOBJ, holder := 2, gen := 1#8, parent := 29, body := .obj obj0 })] }))).chip.timeDegraded)),
    canon (by decide +kernel), by decide +kernel⟩,
  ⟨(at_ (((fields live [(.LINE_HOLD 2, F.LINE_HOLD_ABSENT_HOLD, 9)]).updPort 2 (fun k => { k with mode := .line, line := { joined := true, nodes := [node0], timeDue := some 10000000000000, tx := (Vector.replicate 32 none).set 0 (some { txb0 with use := .time }) } })).updPond
    (fun k => { k with ctxs := [(29, { typ := tNODE, holder := 2, gen := 1#8, body := .node nbody0 }), (31, { typ := tOBJ, holder := 2, gen := 1#8, parent := 29, body := .obj obj0 })] }))),
    2, 10000000000000, ({ txb0 with use := .time }), canon (by decide +kernel), by decide +kernel⟩,
  ⟨(at_ (((fields live [(.LINE_HOLD 2, F.LINE_HOLD_ABSENT_HOLD, 9)]).updPort 2 (fun k => { k with mode := .line, line := { joined := true, nodes := [node0], timeDue := some 10000000000000, timeWait := some can0, tx := (Vector.replicate 32 none).set 0 (some { txb0 with started := true }) } })).updPond
    (fun k => { k with ctxs := [(29, { typ := tNODE, holder := 2, gen := 1#8, body := .node nbody0 }), (31, { typ := tOBJ, holder := 2, gen := 1#8, parent := 29, body := .obj obj0 })] }))),
    2, 10000000000000, can0, canon (by decide +kernel), by decide +kernel⟩,
  ⟨(at_ (((fields live [(.LINE_HOLD 2, F.LINE_HOLD_ABSENT_HOLD, 9)]).updPort 2 (fun k => { k with mode := .line, line := { joined := true, nodes := [node0], held := true } })).updPond
    (fun k => { k with ctxs := [(29, { typ := tNODE, holder := 2, gen := 1#8, body := .node nbody0 }), (31, { typ := tOBJ, holder := 2, gen := 1#8, parent := 29, body := .obj obj0 })] }))),
    2, canon (by decide +kernel), by decide +kernel⟩⟩

/-- The hypotheses of each clause of `Obligations.PondRequests` are met. -/
theorem witness_PondRequests :
  (∃ s : State, ∃ q : ReqId, ∃ e, Canon s.chip ∧ Startable s.chip q 0x0601#16 [0, 1] e ∧ s.chip.pond.grants = []) ∧
  (∃ s : State, ∃ q : ReqId, ∃ e, ∃ f : Nat, ∃ k : Nat, Canon s.chip ∧ Startable s.chip q 0x0602#16 [0, 1] e ∧ s.chip.pond.grants = [] ∧ f ≤ 98 ∧ 0 <
    k ∧ k ≤ 99) ∧
  (∃ s : State, ∃ q : ReqId, ∃ e, ∃ h : Fin 99, ∃ v : Nat, ∃ w : Nat, Canon s.chip ∧ Startable s.chip q 0x0603#16 [0, 1] e ∧ s.chip.pond.grants = []
    ∧ ((e.req.tgtKind = 1 ∧ h.val = e.req.tgtIndex) ∨ (e.req.tgtKind = 0 ∧ 96 ≤ w ∧ h.val = w)) ∧ v ≤ pondSize ∧ s.chip.get .POND_QSUM
    F.POND_QSUM_SUM + v < 2 ^ 27) ∧
  (∃ s : State, ∃ q : ReqId, ∃ e, ∃ i : Nat, Canon s.chip ∧ Startable s.chip q 0x0604#16 [0, 1] e ∧ s.chip.pond.grants = [] ∧ i < pondSize) ∧
  (∃ s : State, ∃ q : ReqId, ∃ e, ∃ h : Nat, ∃ t : Nat, ∃ f : Nat, ∃ k : Nat, Canon s.chip ∧ Startable s.chip q 0x0605#16 [0, 1] e ∧
    s.chip.pond.grants = [] ∧ h ≤ 98 ∧ k ≤ 383 ∧ t ≤ 7 ∧ f < pondSize) ∧
  (∃ s : State, ∃ q : ReqId, ∃ e, ∃ i : Nat, Canon s.chip ∧ Startable s.chip q 0x0606#16 [0, 1] e ∧ s.chip.pond.grants = [] ∧ i < pondSize ∧
    (s.chip.ctx i).poisoned = true ∧ s.chip.pond.waiters = [] ∧ s.chip.pFree < pondSize) ∧
  (∃ s : State, ∃ q : ReqId, ∃ e, ∃ i : Nat, Canon s.chip ∧ Startable s.chip q 0x0606#16 [0, 1] e ∧ s.chip.pond.grants = [] ∧ i < pondSize ∧
    (s.chip.ctx i).poisoned = true) ∧
  (∃ s : State, ∃ q : ReqId, ∃ e, Canon s.chip ∧ Startable s.chip q 0x0607#16 [0, 1] e ∧ s.chip.pond.grants = [] ∧ s.chip.frozen = false) ∧
  (∃ s : State, ∃ q : ReqId, ∃ e, ∃ f : Nat, ∃ k : Nat, Canon s.chip ∧ Startable s.chip q 0x0608#16 [0, 1] e ∧ s.chip.pond.grants = [] ∧ f < 512 ∧ k
    ≤ 24) ∧
  (∃ s : State, ∃ q : ReqId, ∃ e, Canon s.chip ∧ Startable s.chip q 0x0609#16 [0, 1] e ∧ s.chip.pond.grants = [] ∧ s.chip.frozen = false) :=
  ⟨⟨(at_ (ask 0x0601#16 0 0 live)), q0, (entry 0x0601#16 0 0), canon (by decide +kernel), start (by decide +kernel), by decide +kernel⟩,
  ⟨(at_ (ask 0x0602#16 0 0 live)), q0, (entry 0x0602#16 0 0), 98, 99, canon (by decide +kernel), start (by decide +kernel), by decide +kernel⟩,
  ⟨(at_ (ask 0x0603#16 0 0 live)), q0, (entry 0x0603#16 0 0), (98 : Fin 99), 1048576, 98, canon (by decide +kernel), start (by decide +kernel), by
    decide +kernel⟩,
  ⟨(at_ (ask 0x0604#16 0 0 (live.updPond (fun k => { k with ctxs := [(5, { typ := tDEV, holder := 3, gen := 1#8 }), (6, { typ := tEP, holder := 3, gen := 1#8, poisoned := true })] })))),
    q0, (entry 0x0604#16 0 0), 1048575, canon (by decide +kernel), start (by decide +kernel), by decide +kernel⟩,
  ⟨(at_ (ask 0x0605#16 0 0 (live.updPond (fun k => { k with ctxs := [(5, { typ := tDEV, holder := 3, gen := 1#8 }), (6, { typ := tEP, holder := 3, gen := 1#8, poisoned := true })] })))),
    q0, (entry 0x0605#16 0 0), 98, 7, 0, 383, canon (by decide +kernel), start (by decide +kernel), by decide +kernel⟩,
  ⟨(at_ (ask 0x0606#16 0 0 (fields (live.updPond (fun k => { k with ctxs := [(5, { typ := tDEV, holder := 3, gen := 1#8 }), (6, { typ := tEP, holder := 3, gen := 1#8, poisoned := true })] }))
    [(.POND_FREE, F.POND_FREE_FREE, 1048570)]))), q0, (entry 0x0606#16 0 0), 6, canon (by decide +kernel), start (by decide +kernel), by
    decide +kernel⟩,
  ⟨(at_ (ask 0x0606#16 0 0 (live.updPond (fun k => { k with ctxs := [(5, { typ := tDEV, holder := 3, gen := 1#8 }), (6, { typ := tEP, holder := 3, gen := 1#8, poisoned := true })] })))),
    q0, (entry 0x0606#16 0 0), 6, canon (by decide +kernel), start (by decide +kernel), by decide +kernel⟩,
  ⟨(at_ (ask 0x0607#16 0 0 live)), q0, (entry 0x0607#16 0 0), canon (by decide +kernel), start (by decide +kernel), by decide +kernel⟩,
  ⟨(at_ (ask 0x0608#16 0 0 live)), q0, (entry 0x0608#16 0 0), 511, 24, canon (by decide +kernel), start (by decide +kernel), by decide +kernel⟩,
  ⟨(at_ (ask 0x0609#16 0 0 live)), q0, (entry 0x0609#16 0 0), canon (by decide +kernel), start (by decide +kernel), by decide +kernel⟩⟩

/-- The hypotheses of each clause of `Obligations.PondService` are met. -/
theorem witness_PondService :
  (∃ s : State, ∃ h : Fin 99, ∃ t : Nat, ∃ k : Nat, Canon s.chip ∧ s.chip.pond.grants = [] ∧ 1 ≤ t ∧ t ≤ 7 ∧ 1 ≤ k ∧ k ≤ 64 ∧ s.chip.pond.rebuild =
    false ∧ s.chip.allocVerdict h k = rOK) ∧
  (∃ s : State, ∃ h : Fin 99, ∃ t : Nat, ∃ k : Nat, Canon s.chip ∧ s.chip.pond.grants = [] ∧ 1 ≤ t ∧ t ≤ 7 ∧ 1 ≤ k ∧ k ≤ 64 ∧ s.chip.pond.rebuild =
    false ∧ s.chip.allocVerdict h k ≠ rOK) ∧
  (∃ s : State, Canon s.chip ∧ s.chip.pond.grants = [] ∧ s.chip.pond.rebuild = true) ∧
  (∃ s : State, ∃ i : Cid, ∃ h : Fin 99, Canon s.chip ∧ s.chip.pond.grants = [] ∧ (s.chip.ctx i.toNat).typ ≠ tFREE ∧ (s.chip.ctx i.toNat).poisoned =
    false ∧ s.chip.pond.waiters = [] ∧ (s.chip.ctx i.toNat).holder = h.val ∧ s.chip.pFree < pondSize) ∧
  (∃ s : State, Canon s.chip ∧ s.chip.pond.grants = [] ∧ s.chip.pond.rebuild = false ∧ s.chip.pond.waiters = [] ∧ s.chip.pond.ctxs.Pairwise (fun a b
    => a.1 < b.1)) ∧
  (∃ s : State, Canon s.chip ∧ s.chip.pond.grants = [] ∧ s.chip.pond.rebuild = true) ∧
  (∃ s : State, ∃ w, Canon s.chip ∧ s.chip.pond.grants = [] ∧ s.chip.pond.refused = [w] ∧ s.chip.clk.now < w.retryAt) ∧
  (∃ s : State, ∃ n : Port, ∃ w, Canon s.chip ∧ s.chip.pond.grants = [] ∧ s.chip.pond.refused = [w] ∧ w.who.port = n ∧ w.retryAt ≤ s.chip.clk.now ∧
    s.chip.pond.rebuild = false ∧ s.chip.allocVerdict w.holder w.size ≠ rOK ∧ s.chip.pond.waiters.any (fun x => x.who = w.who) = false ∧
    s.chip.pond.waiters.length < 1024) ∧
  (∃ s : State, ∃ n : Port, ∃ r, ∃ i, ∃ h, ∃ d, ∃ b, ∃ x, ∃ t, Canon s.chip ∧ s.chip.pond.grants = [] ∧ s.chip.pond.refused = [⟨h, 1, .binding n r i,
    t⟩] ∧ t ≤ s.chip.clk.now ∧ s.chip.pond.rebuild = false ∧ s.chip.pond.waiters = [] ∧ s.chip.allocVerdict h 1 = rOK ∧ s.chip.dev? n r = some d ∧
    s.chip.bind? n r i = some b ∧ b.pending.any (· != .setup) = true ∧ s.chip.bindStreams b = some x ∧ s.chip.hsRuns = true) ∧
  (∃ s : State, Canon s.chip ∧ s.chip.pond.grants = [] ∧ s.chip.bit .POND_SCRUB F.POND_SCRUB_EN = true ∧ s.chip.awake = true ∧ s.chip.dozing = false
    ∧ s.chip.clk.boot ≠ .held ∧ s.chip.pond.scrub < pondSize ∧ ((s.chip.ctx s.chip.pond.scrub).typ = tMARK ∨ (s.chip.ctx s.chip.pond.scrub).typ =
    tFREE) ∧ s.chip.ueWin? s.chip.pond.scrub (s.chip.ueGroup s.chip.pond.scrub) = none) ∧
  (∃ s : State, Canon s.chip ∧ s.chip.pond.grants = []) ∧
  (∃ s : State, Canon s.chip ∧ s.chip.pond.grants = [] ∧ s.chip.pond.rebuild = false) ∧
  (∃ s : State, Canon s.chip ∧ s.chip.pond.grants = [] ∧ s.chip.pond.rebuild = true) ∧
  (∃ s : State, ∃ b, ∃ x, Canon s.chip ∧ s.chip.applyTables b = .ok x ∧ s.chip.pond.grants = [] ∧ s.chip.svc.rebuilding = true ∧ s.chip.hsRuns = true
    ∧ s.chip.pond.rebuild = false ∧ s.chip.svc.tablesBank = some b) :=
  ⟨⟨(at_ live), 98, 7, 64, canon (by decide +kernel), by decide +kernel⟩,
  ⟨(at_ (fields live [(.HOLDER_QUOTA 3, F.HOLDER_QUOTA_QUOTA, 0)])), 3, 1, 1, canon (by decide +kernel), by decide +kernel⟩,
  ⟨(at_ (live.updPond (fun k => { k with rebuild := true }))), canon (by decide +kernel), by decide +kernel⟩,
  ⟨(at_ (fields (live.updPond (fun k => { k with ctxs := [(5, { typ := tDEV, holder := 3, gen := 1#8 }), (6, { typ := tEP, holder := 3, gen := 1#8, poisoned := true })] }))
    [(.POND_FREE, F.POND_FREE_FREE, 1048570)])), 5#20, 3, canon (by decide +kernel), by decide +kernel⟩,
  ⟨(at_ (fields (live.updPond (fun k => { k with ctxs := [(5, { typ := tDEV, holder := 3, gen := 1#8 }), (6, { typ := tEP, holder := 3, gen := 1#8, poisoned := true })] }))
    [(.POND_FREE, F.POND_FREE_FREE, 1048570)])), canon (by decide +kernel), by decide +kernel⟩,
  ⟨(at_ (live.updPond (fun k => { k with rebuild := true }))), canon (by decide +kernel), by decide +kernel⟩,
  ⟨(at_ (live.updPond (fun k => { k with ctxs := [], refused := [⟨3, 1, .device 3 0#20, 10000000000001⟩] }))), (⟨3, 1, .device 3 0#20,
    10000000000001⟩ : Waiter), canon (by decide +kernel), by decide +kernel⟩,
  ⟨(at_ ((fields live [(.HOLDER_QUOTA 3, F.HOLDER_QUOTA_QUOTA, 0)]).updPond (fun k => { k with ctxs := [], refused := [⟨3, 1, .device 3 0#20, 10000000000000⟩] }))),
    3, (⟨3, 1, .device 3 0#20, 10000000000000⟩ : Waiter), canon (by decide +kernel), by decide +kernel⟩,
  ⟨(at_ ({ ((fields live [(.DROP_STATUS 3, F.DROP_STATUS_STATE, rsACTIVE)]).updPort 3 (fun k => { k with mode := .drop, drop := { devs := [dev0] } })) with svc := { streams := [strm0], binds := [{ bind0 with pending := some .pondFull }] }, pond := { refused := [⟨3, 1, .binding 3 0#20 0, 10000000000000⟩] } })),
    3, 0#20, 0, 3, dev0, ({ bind0 with pending := some .pondFull }), ((strm0, none) : Strm × Option Strm), 10000000000000, canon (by decide +kernel),
    by decide +kernel⟩,
  ⟨(at_ ((fields live [(.POND_SCRUB, F.POND_SCRUB_EN, 1)]).updPond (fun k => { k with ctxs := [], scrub := 1048575 }))), canon (by decide +kernel),
    by decide +kernel⟩,
  ⟨(at_ (live.updEng 511 (fun k => { k with cache := [(7, true)] }))), canon (by decide +kernel), by decide +kernel⟩,
  ⟨(at_ live), canon (by decide +kernel), by decide +kernel⟩,
  ⟨(at_ (live.updPond (fun k => { k with ctxs := [(5, { typ := tDEV, holder := 3, gen := 1#8 })], rebuild := true }))), canon (by decide +kernel), by
    decide +kernel⟩,
  ⟨(at_ ({ (live.updFw (fun k => { k with flash := img })) with svc := { rebuilding := true, tablesBank := some 0 } })), 0, (okOf ((at_ ({ (live.updFw (fun k => { k with flash := img })) with svc := { rebuilding := true, tablesBank := some 0 } })).chip.applyTables
    0) (img_apply _ rfl (by decide +kernel))), canon (by decide +kernel), okOf_eq _ (img_apply _ rfl (by decide +kernel)), by decide +kernel⟩⟩

/-- The hypotheses of each clause of `Obligations.AllocatorGivesLowestFree` are met. -/
theorem witness_AllocatorGivesLowestFree :
  (∃ s : State, ∃ h : Fin 99, ∃ t : Nat, ∃ k : Nat, s.chip.pond.ctxs.Pairwise (fun a b => a.1 < b.1) ∧ 1 ≤ t ∧ t ≤ 7 ∧ 1 ≤ k ∧ k ≤ 64 ∧
    s.chip.pond.rebuild = false ∧ s.chip.pond.grants = [] ∧ s.chip.allocVerdict h k = rOK) :=
  ⟨(at_ (live.updPond (fun k => { k with ctxs := [(1, { typ := tDEV, holder := 0, gen := 1#8 })] }))), 98, 7, 64, by decide +kernel⟩

/-- The hypotheses of each clause of `Obligations.SeicheRequests` are met. -/
theorem witness_SeicheRequests :
  (∃ s : State, ∃ q : ReqId, ∃ e, ∃ b : Belt, ∃ d : Nat, ∃ k : Nat, ∃ a : Word, Canon s.chip ∧ Startable s.chip q 0x0701#16 [0] e ∧
    s.chip.pond.grants = [] ∧ s.chip.pond.rebuild = false ∧ s.chip.beltEn b = true ∧ 1 ≤ d ∧ d ≤ 3 ∧ 1 ≤ k ∧ k ≤ 6 ∧ ((k ≤ 3 → a.toNat % 256 < 32)) ∧
    ((k = 3 → 256 ≤ a.toNat)) ∧ s.chip.kindOk k a = true ∧ s.chip.allocVerdict hMARK 1 = rOK) ∧
  (∃ s : State, ∃ q : ReqId, ∃ e, ∃ b : Belt, ∃ d : Nat, ∃ k : Nat, ∃ a : Word, Canon s.chip ∧ Startable s.chip q 0x0701#16 [0] e ∧
    s.chip.pond.grants = [] ∧ s.chip.pond.rebuild = false ∧ s.chip.beltEn b = true ∧ 1 ≤ d ∧ d ≤ 3 ∧ (k = 4 ∨ k = 5) ∧ s.chip.templateStale k a =
    true) ∧
  (∃ s : State, ∃ q : ReqId, ∃ e, ∃ i : Cid, ∃ g : Byte, ∃ m, Canon s.chip ∧ Startable s.chip q 0x0702#16 [0] e ∧ s.chip.pond.grants = [] ∧
    s.chip.pond.waiters = [] ∧ s.chip.mark? i.toNat g = some m ∧ ((s.chip.sei.belts[m.belt]).slots ++ (s.chip.sei.belts[m.belt]).tasks).any (fun x =>
    x.cid == i.toNat && x.hit.isSome) = false ∧ (m.mstate = msPENDING ∨ m.mstate = msARMED) ∧ (s.chip.ctx i.toNat).poisoned = false) ∧
  (∃ s : State, ∃ q : ReqId, ∃ e, ∃ i : Cid, ∃ g : Byte, ∃ m, Canon s.chip ∧ Startable s.chip q 0x0702#16 [0] e ∧ s.chip.pond.grants = [] ∧
    s.chip.mark? i.toNat g = some m ∧ ((s.chip.sei.belts[m.belt]).slots ++ (s.chip.sei.belts[m.belt]).tasks).any (fun x => x.cid == i.toNat &&
    x.hit.isSome) = true) ∧
  (∃ s : State, ∃ q : ReqId, ∃ e, ∃ i : Cid, ∃ g : Byte, ∃ m, Canon s.chip ∧ Startable s.chip q 0x0702#16 [0] e ∧ s.chip.pond.grants = [] ∧
    s.chip.pond.waiters = [] ∧ s.chip.mark? i.toNat g = some m ∧ ((s.chip.sei.belts[m.belt]).slots ++ (s.chip.sei.belts[m.belt]).tasks).any (fun x =>
    x.cid == i.toNat && x.hit.isSome) = false ∧ msFIRED ≤ m.mstate ∧ (s.chip.ctx i.toNat).poisoned = false) ∧
  (∃ s : State, ∃ q : ReqId, ∃ e, ∃ i : Cid, ∃ g : Byte, ∃ m, Canon s.chip ∧ Startable s.chip q 0x0703#16 [0] e ∧ s.chip.pond.grants = [] ∧
    s.chip.mark? i.toNat g = some m) ∧
  (∃ s : State, ∃ q : ReqId, ∃ e, ∃ t : Template, Canon s.chip ∧ Startable s.chip q 0x0704#16 [0] e ∧ s.chip.pond.grants = [] ∧ s.chip.pond.rebuild =
    false ∧ templateOk t = true ∧ s.chip.pond.ctxs.Pairwise (fun a b => a.1 < b.1) ∧ s.chip.allocVerdict hMGMT (templateSize t) = rOK) ∧
  (∃ s : State, ∃ q : ReqId, ∃ e, ∃ i : Cid, ∃ g : Byte, ∃ t, Canon s.chip ∧ Startable s.chip q 0x0705#16 [0] e ∧ s.chip.pond.grants = [] ∧
    s.chip.pond.rebuild = false ∧ s.chip.pond.waiters = [] ∧ s.chip.refOk i.toNat g = true ∧ (s.chip.ctx i.toNat).body = .template t ∧ (s.chip.ctx
    i.toNat).poisoned = false) ∧
  (∃ s : State, ∃ q : ReqId, ∃ e, Canon s.chip ∧ Startable s.chip q 0x0706#16 [0] e ∧ s.chip.pond.grants = []) ∧
  (∃ s : State, ∃ q : ReqId, ∃ e, Canon s.chip ∧ Startable s.chip q 0x0707#16 [0] e ∧ s.chip.pond.grants = [] ∧ s.chip.pond.waiters = []) ∧
  (∃ s : State, ∃ q : ReqId, ∃ e, Canon s.chip ∧ Startable s.chip q 0x0707#16 [0] e ∧ s.chip.pond.grants = []) ∧
  (∃ s : State, ∃ q : ReqId, ∃ e, Canon s.chip ∧ Startable s.chip q 0x0708#16 [0] e ∧ s.chip.pond.grants = []) ∧
  (∃ s : State, ∃ q : ReqId, ∃ e, Canon s.chip ∧ Startable s.chip q 0x0709#16 [0] e ∧ s.chip.pond.grants = []) ∧
  (∃ s : State, ∃ q : ReqId, ∃ e, ∃ k : OutOp, ∃ w : Nat, Canon s.chip ∧ Startable s.chip q 0x070A#16 [0] e ∧ s.chip.pond.grants = [] ∧ (k ≠ .pulse ∨
    (1 ≤ w ∧ w ≤ 16777215))) :=
  ⟨⟨(at_ (ask 0x0701#16 0 0 ((fields live [(.BELT_CTL 15, F.BELT_CTL_EN, 1), (.BELT_STATUS 15, F.BELT_STATUS_POS_VALID, 1)]).updBelt 15 (fun k => { k with pos := 0#48 })))),
    q0, (entry 0x0701#16 0 0), 15, 3, 3, 0x11F#32, canon (by decide +kernel), start (by decide +kernel), by decide +kernel⟩,
  ⟨(at_ (ask 0x0701#16 0 0 ((fields live [(.BELT_CTL 15, F.BELT_CTL_EN, 1), (.BELT_STATUS 15, F.BELT_STATUS_POS_VALID, 1)]).updBelt 15 (fun k => { k with pos := 0#48 })))),
    q0, (entry 0x0701#16 0 0), 15, 1, 4, 0x0020003C#32, canon (by decide +kernel), start (by decide +kernel), by decide +kernel⟩,
  ⟨(at_ (ask 0x0702#16 0 0 (fields (((fields live [(.BELT_CTL 15, F.BELT_CTL_EN, 1), (.BELT_STATUS 15, F.BELT_STATUS_POS_VALID, 1)]).updBelt 15 (fun
    k => { k with pos := 0#48 })).updPond (fun k => { k with ctxs := [(50, { typ := tMARK, holder := 96, gen := 2#8, body := .mark mark0 })] }))
    [(.POND_FREE, F.POND_FREE_FREE, 1048570)]))), q0, (entry 0x0702#16 0 0), 50#20, 2#8, mark0, canon (by decide +kernel), start (by decide +kernel),
    by decide +kernel⟩,
  ⟨(at_ (ask 0x0702#16 0 0 (((fields live [(.BELT_CTL 15, F.BELT_CTL_EN, 1), (.BELT_STATUS 15, F.BELT_STATUS_POS_VALID, 1)]).updBelt 15 (fun k => { k with tasks := [{ cid := 50, gen := 2#8, mark := mark0, hit := some 1599999999#64, delayed := false, acted := false }] })).updPond
    (fun k => { k with ctxs := [(50, { typ := tMARK, holder := 96, gen := 2#8, body := .mark mark0 })] })))), q0, (entry 0x0702#16 0 0), 50#20, 2#8,
    mark0, canon (by decide +kernel), start (by decide +kernel), by decide +kernel⟩,
  ⟨(at_ (ask 0x0702#16 0 0 (fields (((fields live [(.BELT_CTL 15, F.BELT_CTL_EN, 1), (.BELT_STATUS 15, F.BELT_STATUS_POS_VALID, 1)]).updBelt 15 (fun
    k => { k with pos := 0#48 })).updPond (fun k => { k with ctxs := [(50, { typ := tMARK, holder := 96, gen := 2#8, body := .mark { mark0 with mstate := msFIRED } })] }))
    [(.POND_FREE, F.POND_FREE_FREE, 1048570)]))), q0, (entry 0x0702#16 0 0), 50#20, 2#8, ({ mark0 with mstate := msFIRED }), canon (by
    decide +kernel), start (by decide +kernel), by decide +kernel⟩,
  ⟨(at_ (ask 0x0703#16 0 0 (((fields live [(.BELT_CTL 15, F.BELT_CTL_EN, 1), (.BELT_STATUS 15, F.BELT_STATUS_POS_VALID, 1)]).updBelt 15 (fun k => { k with pos := 0#48 })).updPond
    (fun k => { k with ctxs := [(50, { typ := tMARK, holder := 96, gen := 2#8, body := .mark mark0 })] })))), q0, (entry 0x0703#16 0 0), 50#20, 2#8,
    mark0, canon (by decide +kernel), start (by decide +kernel), by decide +kernel⟩,
  ⟨(at_ (ask 0x0704#16 0 0 live)), q0, (entry 0x0704#16 0 0), (.line 2 126 63 7 (List.replicate 40 1#8)), canon (by decide +kernel), start (by
    decide +kernel), by decide +kernel⟩,
  ⟨(at_ (ask 0x0705#16 0 0 (fields (live.updPond (fun k => { k with ctxs := [(60, { typ := tSERVICE, holder := 98, gen := 1#8, body := .template (.line 2 9 7 4 [1#8]) })] }))
    [(.POND_FREE, F.POND_FREE_FREE, 1048570)]))), q0, (entry 0x0705#16 0 0), 60#20, 1#8, (.line 2 9 7 4 [1#8]), canon (by decide +kernel), start (by
    decide +kernel), by decide +kernel⟩,
  ⟨(at_ (ask 0x0706#16 0 0 ((fields live [(.BELT_CTL 15, F.BELT_CTL_EN, 1), (.BELT_STATUS 15, F.BELT_STATUS_POS_VALID, 1)]).updBelt 15 (fun k => { k with pos := 5#48 })))),
    q0, (entry 0x0706#16 0 0), canon (by decide +kernel), start (by decide +kernel), by decide +kernel⟩,
  ⟨(at_ (ask 0x0707#16 0 0 ((fields live [(.BELT_CTL 15, F.BELT_CTL_EN, 1), (.BELT_STATUS 15, F.BELT_STATUS_POS_VALID, 1)]).updBelt 15 (fun k => { k with pos := 5#48 })))),
    q0, (entry 0x0707#16 0 0), canon (by decide +kernel), start (by decide +kernel), by decide +kernel⟩,
  ⟨(at_ (ask 0x0707#16 0 0 ((fields live [(.BELT_CTL 15, F.BELT_CTL_EN, 1), (.BELT_STATUS 15, F.BELT_STATUS_POS_VALID, 1)]).updBelt 15 (fun k => { k with pos := 5#48 })))),
    q0, (entry 0x0707#16 0 0), canon (by decide +kernel), start (by decide +kernel), by decide +kernel⟩,
  ⟨(at_ (ask 0x0708#16 0 0 live)), q0, (entry 0x0708#16 0 0), canon (by decide +kernel), start (by decide +kernel), by decide +kernel⟩,
  ⟨(at_ (ask 0x0709#16 0 0 live)), q0, (entry 0x0709#16 0 0), canon (by decide +kernel), start (by decide +kernel), by decide +kernel⟩,
  ⟨(at_ (ask 0x070A#16 0 0 live)), q0, (entry 0x070A#16 0 0), .pulse, 16777215, canon (by decide +kernel), start (by decide +kernel), by
    decide +kernel⟩⟩

/-- The hypotheses of each clause of `Obligations.Shafts` are met. -/
theorem witness_Shafts :
  (∃ s : State, ∃ b : Belt, ∃ o : Bool, ∃ r, ∃ h, Canon s.chip ∧ s.chip.beltEn b = true ∧ s.chip.seiRuns = true ∧ s.chip.shaftHeld b h = true ∧
    s.chip.edgeCounts b o r = true) ∧
  (∃ s : State, ∃ b : Belt, ∃ o : Bool, ∃ r, ∃ h, ∃ a : Bool, ∃ x, ∃ p, Canon s.chip ∧ s.chip.beltEn b = true ∧ s.chip.seiRuns = true ∧
    s.chip.shaftHeld b h = true ∧ s.chip.edgeCounts b o r = true ∧ s.chip.posValid b = true ∧ (s.chip.sei.belts[b]).slots = [x] ∧ x.hit = none ∧ p =
    (s.chip.sei.belts[b]).pos + (if a != s.chip.bit (.BELT_CTL b) F.BELT_CTL_DIR_INV then 1#48 else -1#48)) ∧
  (∃ s : State, ∃ b : Belt, ∃ o : Bool, ∃ r, ∃ h, Canon s.chip ∧ s.chip.beltEn b = true ∧ (s.chip.edgeCounts b o r = false ∨ s.chip.shaftHeld b h =
    false)) ∧
  (∃ s : State, ∃ b : Belt, Canon s.chip ∧ s.chip.beltEn b = true ∧ s.chip.seiRuns = true) ∧
  (∃ s : State, ∃ b : Belt, ∃ h, Canon s.chip ∧ s.chip.beltEn b = true ∧ s.chip.pond.grants = [] ∧ s.chip.seiRuns = true ∧ s.chip.shaftHeld b h =
    true) ∧
  (∃ s : State, ∃ b : Belt, Canon s.chip ∧ s.chip.beltEn b = true ∧ (s.chip.sei.belts[b]).zDue = some [] ∧ s.chip.bit (.BELT_CTL b) F.BELT_CTL_ZCHK =
    true ∧ (s.chip.sei.belts[b]).zRes = none) ∧
  (∃ s : State, ∃ b : Belt, Canon s.chip ∧ s.chip.beltEn b = true ∧ (s.chip.sei.belts[b]).zDue = some [] ∧ s.chip.bit (.BELT_CTL b) F.BELT_CTL_ZCHK =
    true ∧ (s.chip.sei.belts[b]).zRes = none) ∧
  (∃ s : State, ∃ b : Belt, ∃ r, Canon s.chip ∧ s.chip.beltEn b = true ∧ (s.chip.sei.belts[b]).zDue = some [] ∧ s.chip.bit (.BELT_CTL b)
    F.BELT_CTL_ZCHK = true ∧ (s.chip.sei.belts[b]).zRes = some r ∧ s.chip.get (.BELT_ZCFG b) F.BELT_ZCFG_Z_TOL < (residueDiff (s.chip.getPos
    (.BELT_ZCFG b) F.BELT_ZCFG_Z_PPR) ((s.chip.sei.belts[b]).pos.toInt % (s.chip.getPos (.BELT_ZCFG b) F.BELT_ZCFG_Z_PPR : Nat)).toNat r).natAbs) ∧
  (∃ s : State, ∃ b : Belt, ∃ r, Canon s.chip ∧ s.chip.beltEn b = true ∧ (s.chip.sei.belts[b]).zDue = some [] ∧ s.chip.bit (.BELT_CTL b)
    F.BELT_CTL_ZCHK = true ∧ (s.chip.sei.belts[b]).zRes = some r ∧ s.chip.get (.BELT_ZCFG b) F.BELT_ZCFG_Z_TOL < (residueDiff (s.chip.getPos
    (.BELT_ZCFG b) F.BELT_ZCFG_Z_PPR) ((s.chip.sei.belts[b]).pos.toInt % (s.chip.getPos (.BELT_ZCFG b) F.BELT_ZCFG_Z_PPR : Nat)).toNat r).natAbs) ∧
  (∃ s : State, ∃ b : Belt, ∃ p, ∃ q, ∃ e, Canon s.chip ∧ s.chip.beltEn b = true ∧ (s.chip.sei.belts[b]).zDue = some [(p, q)] ∧ s.chip.entry? q =
    some e ∧ e.st ≠ .done ∧ (s.chip.doors[q.door]).releasing = none) ∧
  (∃ s : State, ∃ b : Belt, ∃ p, ∃ q, ∃ e, Canon s.chip ∧ s.chip.beltEn b = true ∧ (s.chip.sei.belts[b]).zDue = some [(p, q)] ∧ s.chip.entry? q =
    some e ∧ e.st ≠ .done ∧ (s.chip.doors[q.door]).releasing = none) ∧
  (∃ s : State, ∃ b : Belt, ∃ p, ∃ q, ∃ e, Canon s.chip ∧ s.chip.beltEn b = true ∧ (s.chip.sei.belts[b]).zDue = some [(p, q)] ∧ s.chip.entry? q =
    some e ∧ e.st ≠ .done ∧ (s.chip.doors[q.door]).releasing = none) ∧
  (∃ s : State, ∃ b : Belt, ∃ p, ∃ q, ∃ e, Canon s.chip ∧ s.chip.beltEn b = true ∧ (s.chip.sei.belts[b]).zDue = some [(p, q)] ∧ s.chip.entry? q =
    some e ∧ e.st ≠ .done ∧ (s.chip.doors[q.door]).releasing = none) ∧
  (∃ s : State, ∃ b : Belt, Canon s.chip ∧ s.chip.beltEn b = true ∧ (s.chip.sei.belts[b]).started = true ∧ (s.chip.sei.belts[b]).lastEdge + ms
    (s.chip.getPos (.BELT_STOP b) F.BELT_STOP_STOP_MS) ≤ s.chip.clk.now) :=
  ⟨⟨(at_ ((fields live [(.BELT_CTL 15, F.BELT_CTL_EN, 1), (.BELT_STATUS 15, F.BELT_STATUS_POS_VALID, 1), (.BELT_CTL 15, F.BELT_CTL_FILT, 7)]).updBelt
    15 (fun k => { k with pos := 5#48 }))), 15, true, false, 7, canon (by decide +kernel), by decide +kernel⟩,
  ⟨(at_ ((fields live [(.BELT_CTL 15, F.BELT_CTL_EN, 1), (.BELT_STATUS 15, F.BELT_STATUS_POS_VALID, 1)]).updBelt 15 (fun k => { k with pos := 99#48, slots := [{ cid := 50, gen := 2#8, mark := mark0, hit := none, delayed := false, acted := false }] }))),
    15, true, false, 7, true, ({ cid := 50, gen := 2#8, mark := mark0, hit := none, delayed := false, acted := false } : Slot), 100#48, canon (by
    decide +kernel), by decide +kernel⟩,
  ⟨(at_ ((fields live [(.BELT_CTL 15, F.BELT_CTL_EN, 1), (.BELT_STATUS 15, F.BELT_STATUS_POS_VALID, 1), (.BELT_CTL 15, F.BELT_CTL_FILT, 7)]).updBelt
    15 (fun k => { k with pos := 5#48 }))), 15, true, false, 6, canon (by decide +kernel), by decide +kernel⟩,
  ⟨(at_ ((fields live [(.BELT_CTL 15, F.BELT_CTL_EN, 1), (.BELT_STATUS 15, F.BELT_STATUS_POS_VALID, 1)]).updBelt 15 (fun k => { k with pos := 5#48 }))),
    15, canon (by decide +kernel), by decide +kernel⟩,
  ⟨(at_ ((fields live [(.BELT_CTL 15, F.BELT_CTL_EN, 1), (.BELT_STATUS 15, F.BELT_STATUS_POS_VALID, 1), (.BELT_CTL 15, F.BELT_CTL_ZCHK, 1),
    (.BELT_ZCFG 15, F.BELT_ZCFG_Z_PPR, 1000), (.BELT_ZCFG 15, F.BELT_ZCFG_Z_TOL, 14), (.BELT_CTL 15, F.BELT_CTL_FILT, 7)]).updBelt 15 (fun k => { k with pos := 5#48, zPend := [(9#48, q0)] }))),
    15, 7, canon (by decide +kernel), by decide +kernel⟩,
  ⟨(at_ ((fields live [(.BELT_CTL 15, F.BELT_CTL_EN, 1), (.BELT_STATUS 15, F.BELT_STATUS_POS_VALID, 1), (.BELT_CTL 15, F.BELT_CTL_ZCHK, 1),
    (.BELT_ZCFG 15, F.BELT_ZCFG_Z_PPR, 1000), (.BELT_ZCFG 15, F.BELT_ZCFG_Z_TOL, 14)]).updBelt 15 (fun k => { k with pos := 5#48, zDue := some [] }))),
    15, canon (by decide +kernel), by decide +kernel⟩,
  ⟨(at_ ((fields live [(.BELT_CTL 15, F.BELT_CTL_EN, 1), (.BELT_STATUS 15, F.BELT_STATUS_POS_VALID, 1), (.BELT_CTL 15, F.BELT_CTL_ZCHK, 1),
    (.BELT_ZCFG 15, F.BELT_ZCFG_Z_PPR, 1000), (.BELT_ZCFG 15, F.BELT_ZCFG_Z_TOL, 14)]).updBelt 15 (fun k => { k with pos := 5#48, zDue := some [] }))),
    15, canon (by decide +kernel), by decide +kernel⟩,
  ⟨(at_ ((fields live [(.BELT_CTL 15, F.BELT_CTL_EN, 1), (.BELT_STATUS 15, F.BELT_STATUS_POS_VALID, 1), (.BELT_CTL 15, F.BELT_CTL_ZCHK, 1),
    (.BELT_ZCFG 15, F.BELT_ZCFG_Z_PPR, 1000), (.BELT_ZCFG 15, F.BELT_ZCFG_Z_TOL, 14)]).updBelt 15 (fun k => { k with pos := 15#48, zRes := some 0, zDue := some [] }))),
    15, 0, canon (by decide +kernel), by decide +kernel⟩,
  ⟨(at_ ((fields live [(.BELT_CTL 15, F.BELT_CTL_EN, 1), (.BELT_STATUS 15, F.BELT_STATUS_POS_VALID, 1), (.BELT_CTL 15, F.BELT_CTL_ZCHK, 1),
    (.BELT_ZCFG 15, F.BELT_ZCFG_Z_PPR, 1000), (.BELT_ZCFG 15, F.BELT_ZCFG_Z_TOL, 14)]).updBelt 15 (fun k => { k with pos := 15#48, zRes := some 0, zDue := some [] }))),
    15, 0, canon (by decide +kernel), by decide +kernel⟩,
  ⟨(at_ (((fields live [(.BELT_CTL 15, F.BELT_CTL_EN, 1), (.BELT_STATUS 15, F.BELT_STATUS_POS_VALID, 1)]).updBelt 15 (fun k => { k with zDue := some [(9#48, q0)] })).updDoor
    0 (fun k => { k with path := some .trunk, reqs := [{ entry 0x0707#16 0 0 with st := .executing }] }))), 15, 9#48, q0, ({ entry 0x0707#16 0 0 with st := .executing }),
    canon (by decide +kernel), by decide +kernel⟩,
  ⟨(at_ (((fields live [(.BELT_CTL 15, F.BELT_CTL_EN, 1), (.BELT_STATUS 15, F.BELT_STATUS_POS_VALID, 1)]).updBelt 15 (fun k => { k with zDue := some [(9#48, q0)] })).updDoor
    0 (fun k => { k with path := some .trunk, reqs := [{ entry 0x0707#16 0 0 with st := .executing }] }))), 15, 9#48, q0, ({ entry 0x0707#16 0 0 with st := .executing }),
    canon (by decide +kernel), by decide +kernel⟩,
  ⟨(at_ (((fields live [(.BELT_CTL 15, F.BELT_CTL_EN, 1), (.BELT_STATUS 15, F.BELT_STATUS_POS_VALID, 1)]).updBelt 15 (fun k => { k with zDue := some [(9#48, q0)] })).updDoor
    0 (fun k => { k with path := some .trunk, reqs := [{ entry 0x0707#16 0 0 with st := .executing }] }))), 15, 9#48, q0, ({ entry 0x0707#16 0 0 with st := .executing }),
    canon (by decide +kernel), by decide +kernel⟩,
  ⟨(at_ (((fields live [(.BELT_CTL 15, F.BELT_CTL_EN, 1), (.BELT_STATUS 15, F.BELT_STATUS_POS_VALID, 1)]).updBelt 15 (fun k => { k with zDue := some [(9#48, q0)] })).updDoor
    0 (fun k => { k with path := some .trunk, reqs := [{ entry 0x0707#16 0 0 with st := .executing }] }))), 15, 9#48, q0, ({ entry 0x0707#16 0 0 with st := .executing }),
    canon (by decide +kernel), by decide +kernel⟩,
  ⟨(at_ ((fields live [(.BELT_CTL 15, F.BELT_CTL_EN, 1), (.BELT_STATUS 15, F.BELT_STATUS_POS_VALID, 1), (.BELT_STOP 15, F.BELT_STOP_STOP_MS,
    100)]).updBelt 15 (fun k => { k with started := true, lastEdge := 10000000000000 - ms 100 }))), 15, canon (by decide +kernel), by decide +kernel⟩⟩

/-- The hypotheses of each clause of `Obligations.Marks` are met. -/
theorem witness_Marks :
  (∃ s : State, ∃ i : Cid, ∃ g, ∃ m, ∃ k, Canon s.chip ∧ s.chip.pond.grants = [] ∧ s.chip.sei.fresh = [⟨i.toNat, g, k⟩] ∧ s.chip.mark? i.toNat g =
    some m ∧ m.mstate = msPENDING ∧ s.chip.armUp m.belt = true ∧ s.chip.beltEn m.belt = true ∧ s.chip.posValid m.belt = true ∧
    (s.chip.sei.belts[m.belt]).late = []) ∧
  (∃ s : State, ∃ b : Belt, ∃ i, ∃ g, ∃ m, ∃ d, Canon s.chip ∧ s.chip.pond.grants = [] ∧ (s.chip.sei.belts[b]).lastCycle ≠ some
    (s.chip.sei.time.toNat / 1600) ∧ s.chip.sei.time.toNat % 1600 = 0 ∧ s.chip.armUp b = true ∧ s.chip.beltEn b = true ∧ s.chip.posValid b = true ∧
    (s.chip.sei.belts[b]).slots = [] ∧ (s.chip.sei.belts[b]).crossed = [] ∧ s.chip.inReach b = [(d, i, g, m)] ∧ s.chip.mark? i g = some m) ∧
  (∃ s : State, ∃ b : Belt, Canon s.chip ∧ s.chip.pond.grants = [] ∧ (s.chip.sei.belts[b]).lastCycle ≠ some (s.chip.sei.time.toNat / 1600) ∧
    s.chip.sei.time.toNat % 1600 = 0 ∧ s.chip.sei.running = true ∧ (s.chip.basins[b]).inReset = true) ∧
  (∃ s : State, ∃ b : Belt, Canon s.chip ∧ s.chip.pond.grants = [] ∧ (s.chip.sei.belts[b]).lastCycle ≠ some (s.chip.sei.time.toNat / 1600) ∧
    s.chip.sei.time.toNat % 1600 = 0 ∧ s.chip.sei.running = true ∧ (s.chip.basins[b]).inReset = false ∧ s.chip.dozing = true) ∧
  (∃ s : State, ∃ b : Belt, ∃ i : Cid, ∃ x, ∃ t, Canon s.chip ∧ s.chip.pond.grants = [] ∧ (s.chip.sei.belts[b]).slots = [x] ∧ x.cid = i.toNat ∧ x.hit
    = some t ∧ x.acted = false ∧ x.mark.outfall = true) ∧
  (∃ s : State, ∃ b : Belt, ∃ i : Cid, ∃ x, ∃ m, Canon s.chip ∧ s.chip.pond.grants = [] ∧ (s.chip.sei.belts[b]).tasks = [x] ∧ x.cid = i.toNat ∧
    x.hit.isSome = true ∧ x.acted = false ∧ x.mark.outfall = false ∧ (s.chip.basins[b]).inReset = false ∧ s.chip.dozing = false ∧ s.chip.mark? x.cid
    x.gen = some m ∧ m.autoFree = false) ∧
  (∃ s : State, ∃ b : Belt, ∃ i : Cid, ∃ x, ∃ m, ∃ n : Port, ∃ a, ∃ o, ∃ p, ∃ v, ∃ r, Canon s.chip ∧ s.chip.pond.grants = [] ∧
    (s.chip.sei.belts[b]).tasks = [x] ∧ x.cid = i.toNat ∧ x.hit.isSome = true ∧ x.acted = false ∧ (s.chip.basins[b]).inReset = false ∧ s.chip.dozing
    = false ∧ s.chip.mark? x.cid x.gen = some m ∧ m.autoFree = false ∧ x.mark.action = 4 ∧ s.chip.template? x.mark.arg = some (.line n a o p v) ∧
    s.chip.markEpoch 1 n.val x.mark.portEpoch = none ∧ s.chip.markEpoch 3 (nodeIndex n.val a) x.mark.nodeEpoch = none ∧ s.chip.node? n a = some r ∧
    r.out = none ∧ r.queue = []) ∧
  (∃ s : State, ∃ b : Belt, ∃ i : Cid, ∃ x, ∃ m, ∃ n : Port, ∃ d, ∃ g, ∃ ep, ∃ v, Canon s.chip ∧ s.chip.pond.grants = [] ∧
    (s.chip.sei.belts[b]).tasks = [x] ∧ x.cid = i.toNat ∧ x.hit.isSome = true ∧ x.acted = false ∧ (s.chip.basins[b]).inReset = false ∧ s.chip.dozing
    = false ∧ s.chip.mark? x.cid x.gen = some m ∧ m.autoFree = false ∧ x.mark.action = 5 ∧ s.chip.template? x.mark.arg = some (.drop n d g ep v) ∧
    s.chip.markEpoch 1 n.val x.mark.portEpoch = none ∧ s.chip.refOk d.toNat g = true) ∧
  (∃ s : State, ∃ b : Belt, ∃ i : Cid, ∃ x, ∃ m, Canon s.chip ∧ s.chip.pond.grants = [] ∧ s.chip.lateFirst b = some x ∧ x.cid = i.toNat ∧
    s.chip.armUp b = true ∧ s.chip.beltEn b = true ∧ s.chip.posValid b = true ∧ s.chip.mark? x.cid x.gen = some m ∧ m.autoFree = false ∧ m.inWindow
    (s.chip.sei.belts[b]).pos = true ∧ ((s.chip.sei.belts[b]).lateAt ≠ s.chip.sei.time.toNat / 1600 ∨ (s.chip.sei.belts[b]).lateN < 32)) ∧
  (∃ s : State, ∃ b : Belt, ∃ i : Cid, ∃ x, ∃ m, Canon s.chip ∧ s.chip.pond.grants = [] ∧ s.chip.lateFirst b = some x ∧ x.cid = i.toNat ∧
    s.chip.armUp b = true ∧ s.chip.beltEn b = true ∧ s.chip.posValid b = true ∧ s.chip.mark? x.cid x.gen = some m ∧ m.autoFree = false ∧ m.inWindow
    (s.chip.sei.belts[b]).pos = false) :=
  ⟨⟨(at_ ((((fields live [(.BELT_CTL 15, F.BELT_CTL_EN, 1), (.BELT_STATUS 15, F.BELT_STATUS_POS_VALID, 1)]).updBelt 15 (fun k => { k with pos := 0#48 })).updPond
    (fun k => { k with ctxs := [(50, { typ := tMARK, holder := 96, gen := 2#8, body := .mark mark0 })] })).updSei (fun k => { k with fresh := [⟨50, 2#8, some 1⟩] }))),
    50#20, 2#8, mark0, (some 1), canon (by decide +kernel), by decide +kernel⟩,
  ⟨(at_ (((fields live [(.BELT_CTL 15, F.BELT_CTL_EN, 1), (.BELT_STATUS 15, F.BELT_STATUS_POS_VALID, 1)]).updBelt 15 (fun k => { k with pos := 0#48 })).updPond
    (fun k => { k with ctxs := [(50, { typ := tMARK, holder := 96, gen := 2#8, body := .mark mark0 })] }))), 15, 50, 2#8, mark0, 100, canon (by
    decide +kernel), by decide +kernel⟩,
  ⟨(at_ ((((fields live [(.BELT_CTL 15, F.BELT_CTL_EN, 1), (.BELT_STATUS 15, F.BELT_STATUS_POS_VALID, 1)]).updBelt 15 (fun k => { k with slots := [{ cid := 50, gen := 2#8, mark := mark0, hit := none, delayed := false, acted := false }] })).updPond
    (fun k => { k with ctxs := [(50, { typ := tMARK, holder := 96, gen := 2#8, body := .mark mark0 })] })).updBasin 15 (fun k => { k with inReset := true }))),
    15, canon (by decide +kernel), by decide +kernel⟩,
  ⟨(at_ ({ (((fields live [(.BELT_CTL 15, F.BELT_CTL_EN, 1), (.BELT_STATUS 15, F.BELT_STATUS_POS_VALID, 1)]).updBelt 15 (fun k => { k with slots := [{ cid := 50, gen := 2#8, mark := mark0, hit := some 1599999999#64, delayed := false, acted := false }] })).updPond (fun k => { k with ctxs := [(50, { typ := tMARK, holder := 96, gen := 2#8, body := .mark mark0 })] })) with pwr := { st := .run, entry := some ⟨.sleep, 4, none⟩ } })),
    15, canon (by decide +kernel), by decide +kernel⟩,
  ⟨(at_ (((fields live [(.BELT_CTL 15, F.BELT_CTL_EN, 1), (.BELT_STATUS 15, F.BELT_STATUS_POS_VALID, 1)]).updBelt 15 (fun k => { k with slots := [{ cid := 50, gen := 2#8, mark := { mark0 with action := 1 }, hit := some 1599999999#64, delayed := false, acted := false }] })).updPond
    (fun k => { k with ctxs := [(50, { typ := tMARK, holder := 96, gen := 2#8, body := .mark mark0 })] }))), 15, 50#20, ({ cid := 50, gen := 2#8, mark := { mark0 with action := 1 }, hit := some 1599999999#64, delayed := false, acted := false }
    : Slot), 1599999999#64, canon (by decide +kernel), by decide +kernel⟩,
  ⟨(at_ (((fields live [(.BELT_CTL 15, F.BELT_CTL_EN, 1), (.BELT_STATUS 15, F.BELT_STATUS_POS_VALID, 1)]).updBelt 15 (fun k => { k with tasks := [{ cid := 50, gen := 2#8, mark := mark0, hit := some 1599999999#64, delayed := false, acted := false }] })).updPond
    (fun k => { k with ctxs := [(50, { typ := tMARK, holder := 96, gen := 2#8, body := .mark mark0 })] }))), 15, 50#20, ({ cid := 50, gen := 2#8, mark := mark0, hit := some 1599999999#64, delayed := false, acted := false }
    : Slot), mark0, canon (by decide +kernel), by decide +kernel⟩,
  ⟨(at_ ((fields (((fields live [(.BELT_CTL 15, F.BELT_CTL_EN, 1), (.BELT_STATUS 15, F.BELT_STATUS_POS_VALID, 1)]).updBelt 15 (fun k => { k with tasks := [{ cid := 50, gen := 2#8, mark := { mark0 with action := 4, arg := 0x0010003C#32 }, hit := some 1599999999#64, delayed := false, acted := false }] })).updPond
    (fun k => { k with ctxs := [(50, { typ := tMARK, holder := 96, gen := 2#8, body := .mark { mark0 with action := 4, arg := 0x0010003C#32 } }), (60, { typ := tSERVICE, holder := 98, gen := 1#8, body := .template (.line 2 9 7 4 [1#8]) }), (29, { typ := tNODE, holder := 2, gen := 1#8, body := .node nbody0 })] }))
    []).updPort 2 (fun k => { k with mode := .line, line := { joined := true, nodes := [node0] } }))), 15, 50#20, ({ cid := 50, gen := 2#8, mark := { mark0 with action := 4, arg := 0x0010003C#32 }, hit := some 1599999999#64, delayed := false, acted := false }
    : Slot), ({ mark0 with action := 4, arg := 0x0010003C#32 }), 2, 9, 7, 4, ([1#8]), node0, canon (by decide +kernel), by decide +kernel⟩,
  ⟨(at_ (((fields live [(.BELT_CTL 15, F.BELT_CTL_EN, 1), (.BELT_STATUS 15, F.BELT_STATUS_POS_VALID, 1)]).updBelt 15 (fun k => { k with tasks := [{ cid := 50, gen := 2#8, mark := { mark0 with action := 5, arg := 0x0010003C#32 }, hit := some 1599999999#64, delayed := false, acted := false }] })).updPond
    (fun k => { k with ctxs := [(20, { typ := tDEV, holder := 3, gen := 1#8 }), (50, { typ := tMARK, holder := 96, gen := 2#8, body := .mark { mark0 with action := 5, arg := 0x0010003C#32 } }), (60, { typ := tSERVICE, holder := 98, gen := 1#8, body := .template (.drop 3 20#20 1#8 0x02#8 [1#8]) })] }))),
    15, 50#20, ({ cid := 50, gen := 2#8, mark := { mark0 with action := 5, arg := 0x0010003C#32 }, hit := some 1599999999#64, delayed := false, acted := false }
    : Slot), ({ mark0 with action := 5, arg := 0x0010003C#32 }), 3, 20#20, 1#8, 2#8, ([1#8]), canon (by decide +kernel), by decide +kernel⟩,
  ⟨(at_ (((fields live [(.BELT_CTL 15, F.BELT_CTL_EN, 1), (.BELT_STATUS 15, F.BELT_STATUS_POS_VALID, 1)]).updBelt 15 (fun k => { k with pos := 103#48, late := [⟨50, 2#8, 1⟩] })).updPond
    (fun k => { k with ctxs := [(50, { typ := tMARK, holder := 96, gen := 2#8, body := .mark { mark0 with window := 3#16 } })] }))), 15, 50#20, (⟨50,
    2#8, 1⟩ : Late), ({ mark0 with window := 3#16 }), canon (by decide +kernel), by decide +kernel⟩,
  ⟨(at_ (((fields live [(.BELT_CTL 15, F.BELT_CTL_EN, 1), (.BELT_STATUS 15, F.BELT_STATUS_POS_VALID, 1)]).updBelt 15 (fun k => { k with pos := 104#48, late := [⟨50, 2#8, 1⟩] })).updPond
    (fun k => { k with ctxs := [(50, { typ := tMARK, holder := 96, gen := 2#8, body := .mark { mark0 with window := 3#16 } })] }))), 15, 50#20, (⟨50,
    2#8, 1⟩ : Late), ({ mark0 with window := 3#16 }), canon (by decide +kernel), by decide +kernel⟩⟩

/-- The hypotheses of each clause of `Obligations.SeicheIo` are met. -/
theorem witness_SeicheIo :
  (∃ s : State, ∃ o : Io, Canon s.chip ∧ (s.chip.sei.outfalls[o]).pulseEnd ≤ s.chip.sei.time) ∧
  (∃ s : State, ∃ i : Io, ∃ k, Canon s.chip ∧ s.chip.bit (.INLET_CTL i) F.INLET_CTL_EN = true ∧ s.chip.seiRuns = true ∧ s.chip.inletHeld i k = true ∧
    (s.chip.sei.inlets[i]).edges.length < 16 ∧ ((s.chip.basins[s.chip.inBasin i]).inReset = true ∨ s.chip.dozing = true)) ∧
  (∃ s : State, ∃ i : Io, ∃ k, Canon s.chip ∧ s.chip.bit (.INLET_CTL i) F.INLET_CTL_EN = true ∧ s.chip.seiRuns = true ∧ s.chip.inletHeld i k = true ∧
    16 ≤ (s.chip.sei.inlets[i]).edges.length) ∧
  (∃ s : State, ∃ i : Io, ∃ h, ∃ k, Canon s.chip ∧ s.chip.bit (.INLET_CTL i) F.INLET_CTL_EN = true ∧ s.chip.seiRuns = true ∧
    (s.chip.sei.inlets[i]).edges = [] ∧ (s.chip.basins[s.chip.inBasin i]).inReset = false ∧ s.chip.dozing = false ∧ s.chip.inletHeld i k = true ∧ (h
    != s.chip.bit (.INLET_CTL i) F.INLET_CTL_POL) = true) ∧
  (∃ s : State, ∃ i : Io, ∃ h, ∃ k, Canon s.chip ∧ s.chip.bit (.INLET_CTL i) F.INLET_CTL_EN = true ∧ s.chip.seiRuns = true ∧
    (s.chip.sei.inlets[i]).edges = [] ∧ (s.chip.basins[s.chip.inBasin i]).inReset = false ∧ s.chip.dozing = false ∧ s.chip.inletHeld i k = true ∧ (h
    != s.chip.bit (.INLET_CTL i) F.INLET_CTL_POL) = false) ∧
  (∃ s : State, Canon s.chip ∧ s.chip.bit .SEI_CTL F.SEI_CTL_PPS_EN = true ∧ s.chip.seiRuns = true ∧ s.chip.sei.time.toNat % 1600000000 = 0) ∧
  (∃ s : State, Canon s.chip ∧ s.chip.sei.ppsFallAt ≤ s.chip.sei.time) ∧
  (∃ s : State, Canon s.chip ∧ s.chip.pwr.st = .run ∧ max s.chip.sei.calFrom s.chip.pwr.runFrom + sec 1 ≤ s.chip.clk.now ∧ s.chip.sei.running = true) :=
  ⟨⟨(at_ (live.updOutfall 31 (fun k => { k with pulseEnd := 1600000000#64, latch := true }))), 31, canon (by decide +kernel), by decide +kernel⟩,
  ⟨(at_ (((fields live [(.INLET_CTL 31, F.INLET_CTL_EN, 1), (.INLET_CTL 31, F.INLET_CTL_FILT, 3)]).updInlet 31 (fun k => { k with edges := List.replicate 15 { lead := true, tick := 1#64, pos := none, iflags := 0, counted := 0, turns := 0 } })).updBasin
    0 (fun k => { k with inReset := true }))), 31, 480, canon (by decide +kernel), by decide +kernel⟩,
  ⟨(at_ ((fields live [(.INLET_CTL 31, F.INLET_CTL_EN, 1), (.INLET_CTL 31, F.INLET_CTL_FILT, 3)]).updInlet 31 (fun k => { k with edges := List.replicate 16 { lead := true, tick := 1#64, pos := none, iflags := 0, counted := 0, turns := 0 } }))),
    31, 480, canon (by decide +kernel), by decide +kernel⟩,
  ⟨(at_ ((fields live [(.INLET_CTL 31, F.INLET_CTL_EN, 1), (.INLET_CTL 31, F.INLET_CTL_FILT, 3)]).updInlet 31 (fun k => { k with edges := [] }))),
    31, true, 480, canon (by decide +kernel), by decide +kernel⟩,
  ⟨(at_ ((fields live [(.INLET_CTL 31, F.INLET_CTL_EN, 1), (.INLET_CTL 31, F.INLET_CTL_FILT, 3)]).updInlet 31 (fun k => { k with edges := [] }))),
    31, false, 480, canon (by decide +kernel), by decide +kernel⟩,
  ⟨(at_ (fields live [(.SEI_CTL, F.SEI_CTL_PPS_EN, 1)])), canon (by decide +kernel), by decide +kernel⟩,
  ⟨(at_ (live.updSei (fun k => { k with pps := true, ppsFallAt := 1600000000#64 }))), canon (by decide +kernel), by decide +kernel⟩,
  ⟨(at_ live), canon (by decide +kernel), by decide +kernel⟩⟩

/-- The hypotheses of each clause of `Obligations.Attestation` are met. -/
theorem witness_Attestation :
  (∃ s : State, ∃ q : ReqId, ∃ e, Canon s.chip ∧ Startable s.chip q 0x0901#16 [0, 2] e) ∧
  (∃ s : State, ∃ q : ReqId, ∃ e, ∃ k : Nat, Canon s.chip ∧ Startable s.chip q 0x0902#16 [0, 2] e ∧ k ≤ 8) ∧
  (∃ s : State, ∃ q : ReqId, ∃ e, ∃ f : Word, Canon s.chip ∧ Startable s.chip q 0x0903#16 [0, 2] e ∧ s.chip.fw.log.any (fun x => x.seq == f) = true) ∧
  (∃ s : State, ∃ q : ReqId, ∃ e, ∃ f : Word, Canon s.chip ∧ Startable s.chip q 0x0903#16 [0, 2] e ∧ s.chip.fw.log.any (fun x => x.seq == f) = false) ∧
  (∃ s : State, ∃ q : ReqId, ∃ e, ∃ w : Nat, Canon s.chip ∧ Startable s.chip q 0x0904#16 [0, 2] e ∧ w ≤ 1) ∧
  (∃ s : State, ∃ q : ReqId, ∃ e, ∃ a : Nat, ∃ l : List Byte, Canon s.chip ∧ Startable s.chip q 0x0910#16 [0, 2] e ∧ l ≠ [] ∧ l.length ≤ 32 ∧ a % 256
    + l.length ≤ 256 ∧ a < 67108864 ∧ s.chip.staging? = some (bankAt a) ∧ s.chip.fw.xspi = none) ∧
  (∃ s : State, ∃ q : ReqId, ∃ e, ∃ a : Nat, ∃ l : List Byte, Canon s.chip ∧ Startable s.chip q 0x0910#16 [0, 2] e ∧ l ≠ [] ∧ l.length ≤ 32 ∧ a <
    67108864 ∧ s.chip.staging? = some (bankAt a) ∧ s.chip.fw.xspi.isSome = true) ∧
  (∃ s : State, ∃ q : ReqId, ∃ e, ∃ a : Nat, ∃ l : List Byte, Canon s.chip ∧ Startable s.chip q 0x0910#16 [0, 2] e ∧ l ≠ [] ∧ l.length ≤ 32 ∧ a <
    67108864 ∧ s.chip.staging? ≠ some (bankAt a)) ∧
  (∃ s : State, ∃ q : ReqId, ∃ e, ∃ a : Nat, Canon s.chip ∧ Startable s.chip q 0x0911#16 [0, 2] e ∧ a % 65536 = 0 ∧ a < 67108864 ∧ s.chip.staging? =
    some (bankAt a) ∧ s.chip.fw.xspi = none) ∧
  (∃ s : State, ∃ q : ReqId, ∃ e, ∃ a : Nat, Canon s.chip ∧ Startable s.chip q 0x0911#16 [0, 2] e ∧ a % 65536 = 0 ∧ a < 67108864 ∧ s.chip.staging? ≠
    some (bankAt a)) :=
  ⟨⟨(at_ (ask 0x0901#16 0 0 live)), q0, (entry 0x0901#16 0 0), canon (by decide +kernel), start (by decide +kernel)⟩,
  ⟨(at_ (ask 0x0902#16 0 0 (live.updFw (fun k => { k with log := [(⟨7#32, 1, 0, 0, 0#64, 0#64, 0#384⟩ : LogEntry)], logNext := 8#32 })))), q0, (entry
    0x0902#16 0 0), 8, canon (by decide +kernel), start (by decide +kernel), by decide +kernel⟩,
  ⟨(at_ (ask 0x0903#16 0 0 (live.updFw (fun k => { k with log := [(⟨7#32, 1, 0, 0, 0#64, 0#64, 0#384⟩ : LogEntry)], logNext := 8#32 })))), q0, (entry
    0x0903#16 0 0), 7#32, canon (by decide +kernel), start (by decide +kernel), by decide +kernel⟩,
  ⟨(at_ (ask 0x0903#16 0 0 (live.updFw (fun k => { k with log := [(⟨7#32, 1, 0, 0, 0#64, 0#64, 0#384⟩ : LogEntry)], logNext := 8#32 })))), q0, (entry
    0x0903#16 0 0), 8#32, canon (by decide +kernel), start (by decide +kernel), by decide +kernel⟩,
  ⟨(at_ (ask 0x0904#16 0 0 live)), q0, (entry 0x0904#16 0 0), 1, canon (by decide +kernel), start (by decide +kernel), by decide +kernel⟩,
  ⟨(at_ (ask 0x0910#16 0 0 live)), q0, (entry 0x0910#16 0 0), 67108608, (List.replicate 32 1#8), canon (by decide +kernel), start (by
    decide +kernel), by decide +kernel⟩,
  ⟨(at_ (ask 0x0910#16 0 0 (live.updFw (fun k => { k with xspi := some ⟨1, 0, 1, [], none, 0⟩ })))), q0, (entry 0x0910#16 0 0), 67108863, ([0#8]),
    canon (by decide +kernel), start (by decide +kernel), by decide +kernel⟩,
  ⟨(at_ (ask 0x0910#16 0 0 live)), q0, (entry 0x0910#16 0 0), 0, ([0#8]), canon (by decide +kernel), start (by decide +kernel), by decide +kernel⟩,
  ⟨(at_ (ask 0x0911#16 0 0 live)), q0, (entry 0x0911#16 0 0), 67043328, canon (by decide +kernel), start (by decide +kernel), by decide +kernel⟩,
  ⟨(at_ (ask 0x0911#16 0 0 live)), q0, (entry 0x0911#16 0 0), 33488896, canon (by decide +kernel), start (by decide +kernel), by decide +kernel⟩⟩

/-- The hypotheses of each clause of `Obligations.FirmwareSwaps` are met. -/
theorem witness_FirmwareSwaps :
  (∃ s : State, ∃ q : ReqId, ∃ e, ∃ b : Nat, ∃ x, Canon s.chip ∧ Startable s.chip q 0x0920#16 [0, 2] e ∧ (s.chip.header b).bind (fun h => h.comp?
    cpFW) = some x ∧ s.chip.fw.handoff = none ∧ s.chip.fw.roll = none ∧ s.chip.staging? = some b ∧ s.chip.logFull = false) ∧
  (∃ s : State, ∃ q : ReqId, ∃ e, ∃ b : Nat, Canon s.chip ∧ Startable s.chip q 0x0920#16 [0, 2] e ∧ (s.chip.staging? ≠ some b ∨ (s.chip.header
    b).bind (fun h => h.comp? cpFW) = none)) ∧
  (∃ s : State, ∃ h, Canon s.chip ∧ s.chip.fw.handoff = some h ∧ (h.step = 1 ∨ h.step = 2 ∨ (h.step = 3 ∧ s.chip.executingBut h.req = false ∧
    s.chip.logFull = false))) ∧
  (∃ s : State, ∃ h, Canon s.chip ∧ s.chip.fw.handoff = some h ∧ h.step = 4 ∧ s.chip.logFull = false) ∧
  (∃ s : State, ∃ h, ∃ q, ∃ e, ∃ r : StepEnd, Canon s.chip ∧ s.chip.fw.handoff = some h ∧ h.step < 4 ∧ h.req = some q ∧ s.chip.entry? q = some e ∧
    e.st ≠ .done ∧ (s.chip.doors[q.door]).releasing = none ∧ (r = .failed ∨ h.since + handoffBound h.step ≤ s.chip.clk.now)) ∧
  (∃ s : State, ∃ h, ∃ r : StepEnd, Canon s.chip ∧ s.chip.fw.handoff = some h ∧ h.step = 5 ∧ (r = .failed ∨ h.since + handoffBound 5 ≤
    s.chip.clk.now)) ∧
  (∃ s : State, ∃ h, Canon s.chip ∧ s.chip.fw.handoff = some h ∧ h.step = 5 ∧ h.bank ≤ 1 ∧ s.chip.fab.aonq.length < 8) ∧
  (∃ s : State, ∃ q : ReqId, ∃ e, ∃ x, ∃ b : Nat, Canon s.chip ∧ Startable s.chip q 0x0930#16 [0, 2] e ∧ (s.chip.header b).bind (fun h => h.comp?
    cpUCODE) = some x ∧ b = s.chip.get .BOOT_STATUS F.BOOT_STATUS_BANK ∧ s.chip.fw.roll = none ∧ s.chip.fw.handoff = none ∧ x.format =
    s.chip.fw.active.format ∧ s.chip.logFull = false) ∧
  (∃ s : State, ∃ b : Basin, ∃ r, ∃ i, ∃ j, ∃ l, ∃ sp, ∃ k, Canon s.chip ∧ s.chip.fw.roll = some r ∧ (r.basins[b]).complete = false ∧ (basinEngines
    b.val).any (fun x => (s.chip.engines[x]).handing.isSome) = false ∧ (s.chip.basins[b]).inReset = false ∧ s.chip.fw.reloadStaging = false ∧
    s.chip.dozing = false ∧ (s.chip.enginesWith b.val (fun y => y.role != .spare && y.role != .none)).filter (fun x => !(r.basins[b]).done.contains
    x.val) = i :: j :: l ∧ s.chip.spares b.val = sp :: k) ∧
  (∃ s : State, ∃ b : Basin, ∃ r, Canon s.chip ∧ s.chip.fw.roll = some r ∧ (r.basins[b]).complete = false ∧ (basinEngines b.val).any (fun x =>
    (s.chip.engines[x]).handing.isSome) = false ∧ (s.chip.basins[b]).inReset = false ∧ s.chip.fw.reloadStaging = false ∧ s.chip.dozing = false ∧
    (s.chip.enginesWith b.val (fun y => y.role != .spare && y.role != .none)).filter (fun x => !(r.basins[b]).done.contains x.val) = []) ∧
  (∃ s : State, Canon s.chip ∧ s.chip.fw.reloadActive = true) ∧
  (∃ s : State, Canon s.chip ∧ s.chip.fw.reloadActive = false) ∧
  (∃ s : State, ∃ q : ReqId, ∃ e, Canon s.chip ∧ Startable s.chip q 0x0940#16 [0, 2] e ∧ s.chip.fab.aonq.length < 8) ∧
  (∃ s : State, ∃ q : ReqId, ∃ e, ∃ b : Nat, ∃ x, ∃ c₁, Canon s.chip ∧ Startable s.chip q 0x0950#16 [0] e ∧ (Taken s.chip q).applyTables b = .ok (x,
    c₁) ∧ s.chip.pond.grants = [] ∧ s.chip.pond.waiters = [] ∧ s.chip.pond.rebuild = false ∧ b ≤ 1 ∧ s.chip.logFull = false) :=
  ⟨⟨(at_ (ask 0x0920#16 0 0 ((fields live [(.BOOT_STATUS, F.BOOT_STATUS_BANK, 1), (.BOOT_STATUS, F.BOOT_STATUS_UBANK, 1)]).updFw (fun k => { k with flash := img })))),
    q0, (entry 0x0920#16 0 0), 0, imgFw, canon (by decide +kernel), start (by decide +kernel), img_fw _ rfl, by decide +kernel⟩,
  ⟨(at_ (ask 0x0920#16 0 0 live)), q0, (entry 0x0920#16 0 0), 0, canon (by decide +kernel), start (by decide +kernel), by decide +kernel⟩,
  ⟨(at_ (live.updFw (fun k => { k with handoff := some ⟨0, 3, 10000000000000 - handoffBound 1, 5#384, 6#64, none, 0#384, 0#64⟩ }))), (⟨0, 3,
    10000000000000 - handoffBound 1, 5#384, 6#64, none, 0#384, 0#64⟩ : Handoff), canon (by decide +kernel), by decide +kernel⟩,
  ⟨(at_ (live.updFw (fun k => { k with handoff := some ⟨0, 4, 10000000000000 - handoffBound 1, 5#384, 6#64, none, 0#384, 0#64⟩ }))), (⟨0, 4,
    10000000000000 - handoffBound 1, 5#384, 6#64, none, 0#384, 0#64⟩ : Handoff), canon (by decide +kernel), by decide +kernel⟩,
  ⟨(at_ ((live.updFw (fun k => { k with handoff := some ⟨0, 1, 10000000000000 - handoffBound 1, 5#384, 6#64, some q0, 0#384, 0#64⟩ })).updDoor 0 (fun
    k => { k with path := some .trunk, reqs := [{ entry 0x0920#16 0 0 with st := .executing }] }))), (⟨0, 1, 10000000000000 - handoffBound 1, 5#384,
    6#64, some q0, 0#384, 0#64⟩ : Handoff), q0, ({ entry 0x0920#16 0 0 with st := .executing }), .timedOut, canon (by decide +kernel), by
    decide +kernel⟩,
  ⟨(at_ (live.updFw (fun k => { k with handoff := some ⟨0, 5, 10000000000000 - handoffBound 1, 5#384, 6#64, none, 0#384, 0#64⟩ }))), (⟨0, 5,
    10000000000000 - handoffBound 1, 5#384, 6#64, none, 0#384, 0#64⟩ : Handoff), .failed, canon (by decide +kernel), by decide +kernel⟩,
  ⟨(at_ (live.updFw (fun k => { k with handoff := some ⟨0, 5, 10000000000000 - handoffBound 1, 5#384, 6#64, none, 0#384, 0#64⟩ }))), (⟨0, 5,
    10000000000000 - handoffBound 1, 5#384, 6#64, none, 0#384, 0#64⟩ : Handoff), canon (by decide +kernel), by decide +kernel⟩,
  ⟨(at_ (ask 0x0930#16 0 0 (live.updFw (fun k => { k with flash := img, active := { format := 4294967295 } })))), q0, (entry 0x0930#16 0 0),
    imgUcode, ((at_ (ask 0x0930#16 0 0 (live.updFw (fun k => { k with flash := img, active := { format := 4294967295 } })))).chip.get .BOOT_STATUS
    F.BOOT_STATUS_BANK), canon (by decide +kernel), start (by decide +kernel), img_ucode _ rfl, by decide +kernel⟩,
  ⟨(at_ (live.updFw (fun k => { k with roll := some { bank := 0, digest := 1#384, version := 3#64, basins := Vector.replicate 16 { rolled := 0, complete := false, stalled := false, done := (List.range 28) } } }))),
    (0 : Basin), ({ bank := 0, digest := 1#384, version := 3#64, basins := Vector.replicate 16 { rolled := 0, complete := false, stalled := false, done := (List.range 28) } }
    : Roll), 28, 29, ([]), 30, ([31]), canon (by decide +kernel), by decide +kernel⟩,
  ⟨(at_ (live.updFw (fun k => { k with roll := some { bank := 0, digest := 1#384, version := 3#64, basins := Vector.replicate 16 { rolled := 0, complete := false, stalled := false, done := (List.range 512) } } }))),
    (15 : Basin), ({ bank := 0, digest := 1#384, version := 3#64, basins := Vector.replicate 16 { rolled := 0, complete := false, stalled := false, done := (List.range 512) } }
    : Roll), canon (by decide +kernel), by decide +kernel⟩,
  ⟨(at_ (live.updFw (fun k => { k with reloadActive := true }))), canon (by decide +kernel), by decide +kernel⟩,
  ⟨(at_ (live.updFw (fun k => { k with reloadStaging := true }))), canon (by decide +kernel), by decide +kernel⟩,
  ⟨(at_ (ask 0x0940#16 0 0 live)), q0, (entry 0x0940#16 0 0), canon (by decide +kernel), start (by decide +kernel), by decide +kernel⟩,
  let ⟨x, y, h⟩ := okEx tab_ok; ⟨at_ sTab, q0, entry 0x0950#16 0 0, 0, x, y, canon (by decide +kernel), start (by decide +kernel), h, by
    decide +kernel⟩⟩

/-- The hypotheses of each clause of `Obligations.BeadRequests` are met. -/
theorem witness_BeadRequests :
  (∃ s : State, ∃ q : ReqId, ∃ e, ∃ i : Nat, Canon s.chip ∧ Startable s.chip q 0x0A01#16 [0] e ∧ s.chip.bead.session = none ∧ i < 256 ∧
    s.chip.bead.committing i (· == .field) = false) ∧
  (∃ s : State, ∃ q : ReqId, ∃ e, Canon s.chip ∧ Startable s.chip q 0x0A01#16 [0] e ∧ s.chip.bead.session.isSome = true) ∧
  (∃ s : State, ∃ q : ReqId, ∃ e, ∃ i : Nat, ∃ l : List Byte, Canon s.chip ∧ Startable s.chip q 0x0A02#16 [0] e ∧ s.chip.bead.session = none ∧ e.path
    = .svc ∧ beadOpen i = true ∧ s.chip.bead.locked.contains i = false ∧ s.chip.bead.writing i (· == .field) = false ∧ l.length = 32) ∧
  (∃ s : State, ∃ q : ReqId, ∃ e, Canon s.chip ∧ Startable s.chip q 0x0A02#16 [0] e ∧ s.chip.bead.session = none ∧ e.path = .trunk) ∧
  (∃ s : State, ∃ q : ReqId, ∃ e, ∃ i : Nat, ∃ l : List Byte, Canon s.chip ∧ Startable s.chip q 0x0A02#16 [0] e ∧ s.chip.bead.session = none ∧ e.path
    = .svc ∧ i < 256 ∧ l.length = 32 ∧ (beadOpen i = false ∨ s.chip.bead.locked.contains i = true)) ∧
  (∃ s : State, ∃ q : ReqId, ∃ e, Canon s.chip ∧ Startable s.chip q 0x0A03#16 [0] e ∧ s.chip.bead.session = none) ∧
  (∃ s : State, Canon s.chip ∧ s.chip.bead.attestDue = true ∧ s.chip.hsWrites = true ∧ s.chip.bead.session = none ∧ s.chip.bead.hsBusy = false) ∧
  (∃ s : State, Canon s.chip ∧ s.chip.bead.attestDue = true ∧ s.chip.hsWrites = true ∧ s.chip.bead.session.isSome = true) ∧
  (∃ s : State, ∃ x, ∃ l, Canon s.chip ∧ s.chip.bead.snapsDue = x :: l ∧ s.chip.hsWrites = true ∧ s.chip.bead.session.isSome = true ∧
    s.chip.bead.qSnaps.length < 8) ∧
  (∃ s : State, ∃ x, ∃ l, Canon s.chip ∧ s.chip.bead.snapsDue = x :: l ∧ s.chip.hsWrites = true ∧ s.chip.bead.session = none ∧ s.chip.bead.hsBusy =
    false ∧ s.chip.bead.qAttest = none ∧ s.chip.bead.qSnaps = []) ∧
  (∃ s : State, ∃ x, Canon s.chip ∧ s.chip.bead.commit = some x ∧ x.block ≠ 0) ∧
  (∃ s : State, ∃ x, Canon s.chip ∧ s.chip.bead.commit = some x) :=
  ⟨⟨(at_ (ask 0x0A01#16 0 0 live)), q0, (entry 0x0A01#16 0 0), 255, canon (by decide +kernel), start (by decide +kernel), by decide +kernel⟩,
  ⟨(at_ (ask 0x0A01#16 0 0 (live.updBead (fun k => { k with session := some (0, 5) })))), q0, (entry 0x0A01#16 0 0), canon (by decide +kernel), start
    (by decide +kernel), by decide +kernel⟩,
  ⟨(at_ (live.updDoor 0 (fun k => { k with path := some .svc, reqs := [{ entry 0x0A02#16 0 0 with path := .svc }] }))), q0, ({ entry 0x0A02#16 0 0 with path := .svc }),
    64, (List.replicate 32 7#8), canon (by decide +kernel), start (by decide +kernel), by decide +kernel⟩,
  ⟨(at_ (ask 0x0A02#16 0 0 live)), q0, (entry 0x0A02#16 0 0), canon (by decide +kernel), start (by decide +kernel), by decide +kernel⟩,
  ⟨(at_ (live.updDoor 0 (fun k => { k with path := some .svc, reqs := [{ entry 0x0A02#16 0 0 with path := .svc }] }))), q0, ({ entry 0x0A02#16 0 0 with path := .svc }),
    63, (List.replicate 32 7#8), canon (by decide +kernel), start (by decide +kernel), by decide +kernel⟩,
  ⟨(at_ (ask 0x0A03#16 0 0 live)), q0, (entry 0x0A03#16 0 0), canon (by decide +kernel), start (by decide +kernel), by decide +kernel⟩,
  ⟨(at_ (live.updBead (fun k => { k with attestDue := true }))), canon (by decide +kernel), by decide +kernel⟩,
  ⟨(at_ (live.updBead (fun k => { k with attestDue := true, session := some (0, 5) }))), canon (by decide +kernel), by decide +kernel⟩,
  ⟨(at_ ((fields live [(.BEAD_CNT, F.BEAD_CNT_SNAP_SEQ, 65535)]).updBead (fun k => { k with snapsDue := [((live.ev 0x0901 0 0 []) : Event)], session := some (0, 5) }))),
    ((live.ev 0x0901 0 0 []) : Event), ([] : List Event), canon (by decide +kernel), by decide +kernel⟩,
  ⟨(at_ (live.updBead (fun k => { k with snapsDue := [((live.ev 0x0901 0 0 []) : Event)] }))), ((live.ev 0x0901 0 0 []) : Event), ([] : List Event),
    canon (by decide +kernel), by decide +kernel⟩,
  ⟨(at_ ((live.updBead (fun k => { k with commit := some ⟨255, 9#256, .door q0⟩ })).updDoor 0 (fun k => { k with path := some .trunk, reqs := [{ entry 0x0920#16 0 0 with st := .executing }] }))),
    (⟨255, 9#256, .door q0⟩ : BeadCommit), canon (by decide +kernel), by decide +kernel⟩,
  ⟨(at_ (live.updBead (fun k => { k with commit := some ⟨64, 9#256, .field⟩, session := some (0, 5) }))), (⟨64, 9#256, .field⟩ : BeadCommit), canon
    (by decide +kernel), by decide +kernel⟩⟩

/-- The hypotheses of each clause of `Obligations.BeadField` are met. -/
theorem witness_BeadField :
  (∃ s : State, ∃ k : BitVec 64, ∃ n : Nat, Canon s.chip ∧ Config.beadUid.toNat % 2 ^ (min n 64) = k.toNat % 2 ^ (min n 64) ∧ s.chip.field = true ∧
    s.chip.bead.quiet = false) ∧
  (∃ s : State, Canon s.chip ∧ s.chip.field = true) ∧
  (∃ s : State, Canon s.chip ∧ s.chip.field = true) ∧
  (∃ s : State, ∃ m : BeadMode, Canon s.chip ∧ s.chip.hears m = true) ∧
  (∃ s : State, ∃ m : BeadMode, ∃ i : Nat, Canon s.chip ∧ s.chip.hears m = true ∧ i < 256 ∧ s.chip.busyBlock i = false) ∧
  (∃ s : State, ∃ m : BeadMode, ∃ i : Nat, Canon s.chip ∧ s.chip.hears m = true ∧ i < 256 ∧ s.chip.busyBlock i = true) ∧
  (∃ s : State, ∃ m : BeadMode, ∃ i : Nat, Canon s.chip ∧ s.chip.hears m = true ∧ beadOpen i = true ∧ s.chip.bead.locked.contains i = false ∧
    s.chip.bead.writing i (· != .field) = false) ∧
  (∃ s : State, ∃ m : BeadMode, ∃ i : Nat, Canon s.chip ∧ s.chip.hears m = true ∧ i < 256 ∧ beadOpen i = false) ∧
  (∃ s : State, ∃ m : BeadMode, ∃ i : Nat, Canon s.chip ∧ s.chip.hears m = true ∧ beadOpen i = true ∧ s.chip.bead.locked.contains i = false ∧
    s.chip.busyBlock i = false) ∧
  (∃ s : State, ∃ m : BeadMode, ∃ i : Nat, ∃ k : Nat, Canon s.chip ∧ s.chip.hears m = true ∧ 1 ≤ k ∧ k ≤ 8 ∧ i + k ≤ 256 ∧ ((List.range k).map (i +
    ·)).any s.chip.busyBlock = false) ∧
  (∃ s : State, ∃ m : BeadMode, Canon s.chip ∧ s.chip.hears m = true) ∧
  (∃ s : State, ∃ m : BeadMode, ∃ i : Nat, ∃ k : Nat, Canon s.chip ∧ s.chip.hears m = true ∧ 1 ≤ k ∧ i + k ≤ 256) ∧
  (∃ s : State, ∃ m : BeadMode, ∃ d : Nat, Canon s.chip ∧ s.chip.hears m = true ∧ 1 ≤ d ∧ d ≤ 2000 ∧ s.chip.bead.session = none ∧
    s.chip.bead.lastEnd.any (fun t => s.chip.clk.now < t + ms 500) = false) ∧
  (∃ s : State, ∃ m : BeadMode, ∃ d : Nat, Canon s.chip ∧ s.chip.hears m = true ∧ 1 ≤ d ∧ d ≤ 2000 ∧ s.chip.bead.session = none ∧
    s.chip.bead.lastEnd.any (fun t => s.chip.clk.now < t + ms 500) = true) ∧
  (∃ s : State, ∃ m : BeadMode, Canon s.chip ∧ s.chip.hears m = true ∧ s.chip.bead.session.isSome = true) ∧
  (∃ s : State, ∃ m : BeadMode, Canon s.chip ∧ s.chip.hears m = true ∧ s.chip.bead.session = none) ∧
  (∃ s : State, ∃ m : BeadMode, ∃ z, Canon s.chip ∧ s.chip.hears m = true ∧ s.chip.bead.validCopy (fun z => !s.chip.busyRec (attestBase z) 3) = some
    z) ∧
  (∃ s : State, ∃ m : BeadMode, ∃ k : Nat, Canon s.chip ∧ s.chip.hears m = true ∧ 1 ≤ k ∧ k ≤ 8 ∧ s.chip.busyRec (snapBase (k - 1)) 6 = false ∧
    s.chip.bead.whole (snapBase (k - 1)) 6 = true) ∧
  (∃ s : State, ∃ m : BeadMode, Canon s.chip ∧ s.chip.hears m = true) ∧
  (∃ s : State, ∃ x, Canon s.chip ∧ s.chip.bead.session = some x ∧ x.2 ≤ s.chip.clk.now) ∧
  (∃ s : State, Canon s.chip) ∧
  (∃ s : State, Canon s.chip ∧ s.chip.field = false) :=
  ⟨⟨(at_ (fields live [(.BEAD_STATUS, F.BEAD_STATUS_FIELD, 1)])), Config.beadUid, 64, canon (by decide +kernel), rfl, by decide +kernel⟩,
  ⟨(at_ (fields live [(.BEAD_STATUS, F.BEAD_STATUS_FIELD, 1)])), canon (by decide +kernel), by decide +kernel⟩,
  ⟨(at_ (fields live [(.BEAD_STATUS, F.BEAD_STATUS_FIELD, 1)])), canon (by decide +kernel), by decide +kernel⟩,
  ⟨(at_ (fields live [(.BEAD_STATUS, F.BEAD_STATUS_FIELD, 1)])), BeadMode.nonAddressed, canon (by decide +kernel), by decide +kernel⟩,
  ⟨(at_ (fields live [(.BEAD_STATUS, F.BEAD_STATUS_FIELD, 1)])), BeadMode.nonAddressed, 255, canon (by decide +kernel), by decide +kernel⟩,
  ⟨(at_ ((fields live [(.BEAD_STATUS, F.BEAD_STATUS_FIELD, 1)]).updBead (fun k => { k with commit := some ⟨64, 9#256, .hs⟩ }))),
    BeadMode.nonAddressed, 64, canon (by decide +kernel), by decide +kernel⟩,
  ⟨(at_ (fields live [(.BEAD_STATUS, F.BEAD_STATUS_FIELD, 1)])), BeadMode.nonAddressed, 255, canon (by decide +kernel), by decide +kernel⟩,
  ⟨(at_ (fields live [(.BEAD_STATUS, F.BEAD_STATUS_FIELD, 1)])), BeadMode.nonAddressed, 63, canon (by decide +kernel), by decide +kernel⟩,
  ⟨(at_ (fields live [(.BEAD_STATUS, F.BEAD_STATUS_FIELD, 1)])), BeadMode.nonAddressed, 64, canon (by decide +kernel), by decide +kernel⟩,
  ⟨(at_ (fields live [(.BEAD_STATUS, F.BEAD_STATUS_FIELD, 1)])), BeadMode.nonAddressed, 248, 8, canon (by decide +kernel), by decide +kernel⟩,
  ⟨(at_ (fields live [(.BEAD_STATUS, F.BEAD_STATUS_FIELD, 1)])), BeadMode.nonAddressed, canon (by decide +kernel), by decide +kernel⟩,
  ⟨(at_ (fields live [(.BEAD_STATUS, F.BEAD_STATUS_FIELD, 1)])), BeadMode.nonAddressed, 0, 256, canon (by decide +kernel), by decide +kernel⟩,
  ⟨(at_ ((fields live [(.BEAD_STATUS, F.BEAD_STATUS_FIELD, 1)]).updBead (fun k => { k with lastEnd := some (10000000000000 - ms 500) }))),
    BeadMode.nonAddressed, 2000, canon (by decide +kernel), by decide +kernel⟩,
  ⟨(at_ ((fields live [(.BEAD_STATUS, F.BEAD_STATUS_FIELD, 1)]).updBead (fun k => { k with lastEnd := some (10000000000000 + 1 - ms 500) }))),
    BeadMode.nonAddressed, 1, canon (by decide +kernel), by decide +kernel⟩,
  ⟨(at_ ((fields live [(.BEAD_STATUS, F.BEAD_STATUS_FIELD, 1), (.BEAD_STATUS, F.BEAD_STATUS_SESSION, 1)]).updBead (fun k => { k with session := some (0, 5) }))),
    BeadMode.nonAddressed, canon (by decide +kernel), by decide +kernel⟩,
  ⟨(at_ (fields live [(.BEAD_STATUS, F.BEAD_STATUS_FIELD, 1)])), BeadMode.nonAddressed, canon (by decide +kernel), by decide +kernel⟩,
  ⟨(at_ ((fields live [(.BEAD_STATUS, F.BEAD_STATUS_FIELD, 1)]).updBead (fun k => { k with blocks := [(5, 1#256), (6, 1#256)] }))),
    BeadMode.nonAddressed, false, canon (by decide +kernel), by decide +kernel⟩,
  ⟨(at_ (fields live [(.BEAD_STATUS, F.BEAD_STATUS_FIELD, 1)])), BeadMode.nonAddressed, 8, canon (by decide +kernel), by decide +kernel⟩,
  ⟨(at_ (fields live [(.BEAD_STATUS, F.BEAD_STATUS_FIELD, 1)])), BeadMode.nonAddressed, canon (by decide +kernel), by decide +kernel⟩,
  ⟨(at_ ((fields live [(.BEAD_STATUS, F.BEAD_STATUS_FIELD, 1)]).updBead (fun k => { k with session := some (0, 5) }))), ((0, 5) : Nat × Nat), canon
    (by decide +kernel), by decide +kernel⟩,
  ⟨(at_ ((fields live [(.BEAD_STATUS, F.BEAD_STATUS_FIELD, 1), (.BEAD_STATUS, F.BEAD_STATUS_SESSION, 1)]).updBead (fun k => { k with session := some (0, 5) }))),
    canon (by decide +kernel)⟩,
  ⟨(at_ live), canon (by decide +kernel), by decide +kernel⟩⟩

/-- The hypotheses of each clause of `Obligations.RegisterAccesses` are met. -/
theorem witness_RegisterAccesses :
  (∃ s : State, ∃ p : RegPath, ∃ v : Word, ∃ r, Canon s.chip ∧ Writable s.chip p r v ∧ s.chip.pond.grants = [] ∧ plainReg r = true) ∧
  (∃ s : State, ∃ p : RegPath, ∃ r, Canon s.chip ∧ s.chip.pond.grants = [] ∧ s.chip.pathUp p = true ∧ s.chip.guarded r = true ∧ s.chip.unlocked p =
    false) ∧
  (∃ s : State, ∃ p : RegPath, ∃ a : Nat, Canon s.chip ∧ s.chip.pond.grants = [] ∧ s.chip.pathUp p = true ∧ Reg.ofAddr a = none ∧ aliasBit a = none) ∧
  (∃ s : State, ∃ p : RegPath, Canon s.chip ∧ s.chip.pond.grants = [] ∧ s.chip.pathUp p = false) ∧
  (∃ s : State, ∃ p : RegPath, ∃ a : Nat, ∃ r, ∃ b, Canon s.chip ∧ aliasBit a = some (r, b) ∧ s.chip.pond.grants = [] ∧ plainReg r = true ∧ r.accOf b
    = .rw ∧ s.chip.pathUp p = true ∧ (r.cfg && s.chip.frozen) = false) ∧
  (∃ s : State, ∃ p : RegPath, ∃ a : Nat, ∃ r, ∃ b, Canon s.chip ∧ aliasBit a = some (r, b) ∧ s.chip.pond.grants = [] ∧ r.accOf b = .ro ∧
    s.chip.pathUp p = true ∧ (r.cfg && s.chip.frozen) = false) ∧
  (∃ s : State, ∃ p : RegPath, ∃ a : Nat, ∃ r, ∃ b, Canon s.chip ∧ aliasBit a = some (r, b) ∧ s.chip.pond.grants = [] ∧ s.chip.pathUp p = true ∧
    r.cfg = true ∧ s.chip.frozen = true ∧ s.chip.unlocked p = false) ∧
  (∃ s : State, ∃ p : RegPath, ∃ v : Word, ∃ r, Canon s.chip ∧ Writable s.chip p r v ∧ s.chip.pond.grants = [] ∧ r.dom = .compute ∧ r.fields.contains
    seqF = true ∧ r.rwMask = 0#32) ∧
  (∃ s : State, ∃ p : RegPath, ∃ v : Word, Canon s.chip ∧ Writable s.chip p .MBX_CTL v ∧ s.chip.pond.grants = []) ∧
  (∃ s : State, ∃ p : RegPath, ∃ v : Word, Canon s.chip ∧ Writable s.chip p .KEY_UNLOCK v ∧ s.chip.pond.grants = [] ∧ fget v F.KEY_UNLOCK_KEY =
    0xC3A5) ∧
  (∃ s : State, ∃ p : RegPath, ∃ v : Word, Canon s.chip ∧ Writable s.chip p .KEY_UNLOCK v ∧ s.chip.pond.grants = [] ∧ fget v F.KEY_UNLOCK_KEY ≠
    0xC3A5) ∧
  (∃ s : State, ∃ p : RegPath, ∃ t, Canon s.chip ∧ s.chip.pond.grants = [] ∧ s.chip.fab.unlock[p] = some t ∧ t ≤ s.chip.clk.now) ∧
  (∃ s : State, ∃ p : RegPath, ∃ v : Word, ∃ h : Fin 99, Canon s.chip ∧ Writable s.chip p (.HOLDER_QUOTA h) v ∧ s.chip.pond.grants = [] ∧ fget v
    F.HOLDER_QUOTA_QUOTA ≤ pondSize) ∧
  (∃ s : State, ∃ p : RegPath, ∃ v : Word, ∃ n : Port, ∃ w : Fin 3, Canon s.chip ∧ Writable s.chip p (timingReg n w) v ∧ s.chip.pond.grants = [] ∧
    (s.chip.isLine n = false ∨ ((s.chip.ports[n]).line.timing = none ∧ ((s.chip.ports[n]).line.sending = false ∨ s.chip.lineOff n = true)))) ∧
  (∃ s : State, ∃ p : RegPath, ∃ v : Word, ∃ n : Port, ∃ w : Fin 3, Canon s.chip ∧ Writable s.chip p (timingReg n w) v ∧ s.chip.pond.grants = [] ∧
    s.chip.isLine n = true ∧ (s.chip.ports[n]).line.sending = true ∧ s.chip.lineOff n = false) ∧
  (∃ s : State, ∃ p : RegPath, Canon s.chip ∧ s.chip.pond.grants = [] ∧ s.chip.pathUp p = true) ∧
  (∃ s : State, ∃ p : RegPath, Canon s.chip ∧ s.chip.pond.grants = [] ∧ s.chip.pathUp p = true) ∧
  (∃ s : State, ∃ r, ∃ w, ∃ m, ∃ l, Canon s.chip ∧ s.chip.pond.grants = [] ∧ s.chip.fab.aonq = (r, w, m) :: l) ∧
  (∃ s : State, Canon s.chip ∧ s.chip.pond.grants = [] ∧ s.chip.pathUp 2 = true) ∧
  (∃ s : State, ∃ v : Word, ∃ r, Canon s.chip ∧ Writable s.chip 2 r v ∧ s.chip.pond.grants = [] ∧ plainReg r = true) ∧
  (∃ s : State, Canon s.chip ∧ s.chip.pond.grants = [] ∧ s.chip.pathUp 3 = true) ∧
  (∃ s : State, ∃ v : Word, ∃ r, Canon s.chip ∧ Writable s.chip 3 r v ∧ s.chip.pond.grants = [] ∧ plainReg r = true) ∧
  (∃ s : State, ∃ b : Bool, Canon s.chip ∧ s.chip.pond.grants = [] ∧ (s.chip.awake = true ∨ b = false)) ∧
  (∃ s : State, ∃ l, ∃ f, ∃ k, Canon s.chip ∧ s.chip.trunk.delivered.find? (fun x => x.2.typ.toNat == ttREGWIN) = some (l, f) ∧ s.chip.laneOf 3 0 =
    some k ∧ s.chip.pond.grants = [] ∧ s.chip.pathUp 0 = true ∧ f.length.toNat = 12 ∧ leAt f.payload 0 1 = 1 ∧ s.chip.spills = false ∧ s.chip.hasDest
    k = true) ∧
  (∃ s : State, ∃ l, ∃ f, ∃ r, Canon s.chip ∧ s.chip.trunk.delivered.find? (fun x => x.2.typ.toNat == ttREGWIN) = some (l, f) ∧ Writable
    s.chip.active 0 r (BitVec.ofNat 32 (leAt f.payload 8 4)) ∧ s.chip.pond.grants = [] ∧ s.chip.pathUp 0 = true ∧ f.length.toNat = 12 ∧ leAt
    f.payload 0 1 = 2 ∧ leAt f.payload 4 4 = r.addr ∧ plainReg r = true) :=
  ⟨⟨(at_ (key 0 live)), 0, (fset ((at_ (key 0 live)).chip.rd .POND_SCRUB) F.POND_SCRUB_EN 1), .POND_SCRUB, canon (by decide +kernel), writable (by
    decide +kernel), by decide +kernel⟩,
  ⟨(at_ live), 0, .CLK_CTL, canon (by decide +kernel), by decide +kernel⟩,
  ⟨(at_ (key 0 live)), 0, 0x08000001, canon (by decide +kernel), by decide +kernel⟩,
  ⟨(at_ live), 2, canon (by decide +kernel), by decide +kernel⟩,
  ⟨(at_ (key 0 live)), 0, 148898556, ((aliasBit 148898556).get (by decide +kernel)).1, ((aliasBit 148898556).get (by decide +kernel)).2, canon (by
    decide +kernel), (Option.some_get (by decide +kernel)).symm, by decide +kernel⟩,
  ⟨(at_ (key 0 live)), 0, 134217728, ((aliasBit 134217728).get (by decide +kernel)).1, ((aliasBit 134217728).get (by decide +kernel)).2, canon (by
    decide +kernel), (Option.some_get (by decide +kernel)).symm, by decide +kernel⟩,
  ⟨(at_ (fields live [(.CW_STATUS, F.CW_STATUS_FROZEN, 1)])), 0, 148898556, ((aliasBit 148898556).get (by decide +kernel)).1, ((aliasBit
    148898556).get (by decide +kernel)).2, canon (by decide +kernel), (Option.some_get (by decide +kernel)).symm, by decide +kernel⟩,
  ⟨(at_ (key 0 live)), 0, 0#32, .INT_QPTR, canon (by decide +kernel), writable (by decide +kernel), by decide +kernel⟩,
  ⟨(at_ (key 0 live)), 0, 61#32, canon (by decide +kernel), writable (by decide +kernel), by decide +kernel⟩,
  ⟨(at_ live), 1, 0xC3A5#32, canon (by decide +kernel), writable (by decide +kernel), by decide +kernel⟩,
  ⟨(at_ live), 0, 0xC3A4#32, canon (by decide +kernel), writable (by decide +kernel), by decide +kernel⟩,
  ⟨(at_ (live.updFab (fun k => { k with unlock := k.unlock.set 3 (some 10000000000000) }))), 3, 10000000000000, canon (by decide +kernel), by
    decide +kernel⟩,
  ⟨(at_ (key 0 live)), 0, 1048576#32, 98, canon (by decide +kernel), writable (by decide +kernel), by decide +kernel⟩,
  ⟨(at_ (key 0 live)), 0, ((at_ (key 0 live)).chip.rd (.LINE_TDC 95)), 95, (2 : Fin 3), canon (by decide +kernel), writable (by decide +kernel), by
    decide +kernel⟩,
  ⟨(at_ (key 0 (live.updPort 95 (fun k => { k with mode := .line, line := { k.line with tx := Vector.replicate 32 (some { txb0 with started := true }) } })))),
    0, ((at_ (key 0 (live.updPort 95 (fun k => { k with mode := .line, line := { k.line with tx := Vector.replicate 32 (some { txb0 with started := true }) } })))).chip.rd
    (.LINE_NBT 95)), 95, (0 : Fin 3), canon (by decide +kernel), writable (by decide +kernel), by decide +kernel⟩,
  ⟨(at_ ({ live with sei := { time := 0xFFFFFFFF00000001#64 } })), 0, canon (by decide +kernel), by decide +kernel⟩,
  ⟨(at_ (live.updBelt 15 (fun k => { k with pos := 0xFFFF00000001#48 }))), 0, canon (by decide +kernel), by decide +kernel⟩,
  ⟨(at_ (live.updFab (fun k => { k with aonq := [(.BOOT_OVR, 0x10001#32, 0xFFFF#32)] }))), .BOOT_OVR, 0x10001#32, 0xFFFF#32, ([] : List (Reg × Word ×
    Word)), canon (by decide +kernel), by decide +kernel⟩,
  ⟨(at_ ({live with svcPort := { address := 5 }})), canon (by decide +kernel), by decide +kernel⟩,
  ⟨(at_ ({live with svcPort := { address := 5 }})), (fset ((at_ ({live with svcPort := { address := 5 }})).chip.rd .POND_SCRUB) F.POND_SCRUB_EN 1),
    .POND_SCRUB, canon (by decide +kernel), writable (by decide +kernel), by decide +kernel⟩,
  ⟨(at_ (live.updFab (fun k => { k with jtag := true }))), canon (by decide +kernel), by decide +kernel⟩,
  ⟨(at_ (live.updFab (fun k => { k with jtag := true }))), (fset ((at_ (live.updFab (fun k => { k with jtag := true }))).chip.rd .POND_SCRUB)
    F.POND_SCRUB_EN 1), .POND_SCRUB, canon (by decide +kernel), writable (by decide +kernel), by decide +kernel⟩,
  ⟨(at_ live), true, canon (by decide +kernel), by decide +kernel⟩,
  ⟨(at_ (got 0 (frame 5#8 0#16 0#32 (leBytes 4 1 ++ leBytes 4 (Reg.addr .GLB_ID) ++ leBytes 4 0)) live)), (((at_ (got 0 (frame 5#8 0#16 0#32 (leBytes
    4 1 ++ leBytes 4 (Reg.addr .GLB_ID) ++ leBytes 4 0)) live)).chip.trunk.delivered.find? (fun x => x.2.typ.toNat == ttREGWIN)).get (by
    decide +kernel)).1, (((at_ (got 0 (frame 5#8 0#16 0#32 (leBytes 4 1 ++ leBytes 4 (Reg.addr .GLB_ID) ++ leBytes 4 0))
    live)).chip.trunk.delivered.find? (fun x => x.2.typ.toNat == ttREGWIN)).get (by decide +kernel)).2, (((at_ (got 0 (frame 5#8 0#16 0#32 (leBytes 4
    1 ++ leBytes 4 (Reg.addr .GLB_ID) ++ leBytes 4 0)) live)).chip.laneOf 3 0).get (by decide +kernel)), canon (by decide +kernel), (Option.some_get
    (by decide +kernel)).symm, (Option.some_get (by decide +kernel)).symm, by decide +kernel⟩,
  ⟨(at_ (got 0 (frame 5#8 0#16 0#32 (leBytes 4 2 ++ leBytes 4 (Reg.addr .GLB_SCRATCH) ++ leBytes 4 0xFFFFFFFF)) (key 0 live))), (((at_ (got 0 (frame
    5#8 0#16 0#32 (leBytes 4 2 ++ leBytes 4 (Reg.addr .GLB_SCRATCH) ++ leBytes 4 0xFFFFFFFF)) (key 0 live))).chip.trunk.delivered.find? (fun x =>
    x.2.typ.toNat == ttREGWIN)).get (by decide +kernel)).1, (((at_ (got 0 (frame 5#8 0#16 0#32 (leBytes 4 2 ++ leBytes 4 (Reg.addr .GLB_SCRATCH) ++
    leBytes 4 0xFFFFFFFF)) (key 0 live))).chip.trunk.delivered.find? (fun x => x.2.typ.toNat == ttREGWIN)).get (by decide +kernel)).2, .GLB_SCRATCH,
    canon (by decide +kernel), (Option.some_get (by decide +kernel)).symm, writable (by decide +kernel), by decide +kernel⟩⟩

/-- The hypotheses of each clause of `Obligations.RegisterRequests` are met. -/
theorem witness_RegisterRequests :
  (∃ s : State, ∃ q : ReqId, ∃ e, ∃ a : Nat, ∃ k : Nat, ∃ l, ∃ c₁, Canon s.chip ∧ Startable s.chip q 0x0B01#16 [0] e ∧ (Taken s.chip q).readWords k a
    = (l, true, c₁) ∧ s.chip.pond.grants = [] ∧ k ≠ 0 ∧ k ≤ 12) ∧
  (∃ s : State, ∃ q : ReqId, ∃ e, ∃ a : Nat, ∃ k : Nat, ∃ l, ∃ c₁, Canon s.chip ∧ Startable s.chip q 0x0B01#16 [0] e ∧ (Taken s.chip q).readWords k a
    = (l, false, c₁) ∧ s.chip.pond.grants = [] ∧ k ≠ 0 ∧ k ≤ 12) ∧
  (∃ s : State, ∃ q : ReqId, ∃ e, ∃ r, ∃ v, Canon s.chip ∧ Startable s.chip q 0x0B02#16 [0] e ∧ Writable (Taken s.chip q) 1 r v ∧ s.chip.pond.grants
    = [] ∧ plainReg r = true) ∧
  (∃ s : State, ∃ q : ReqId, ∃ e, ∃ r, ∃ m : Word, ∃ v : Word, Canon s.chip ∧ Startable s.chip q 0x0B03#16 [0] e ∧ Writable (Taken s.chip q) 1 r
    (((Taken s.chip q).readWord r &&& ~~~m) ||| (v &&& m)) ∧ s.chip.pond.grants = [] ∧ plainReg r = true) ∧
  (∃ s : State, ∃ q : ReqId, ∃ e, ∃ r, ∃ v : Word, Canon s.chip ∧ Startable s.chip q 0x0B04#16 [0] e ∧ s.chip.pond.grants = [] ∧ plainReg r = true ∧
    (v ^^^ (Taken s.chip q).readWord r) &&& r.rcMask = 0#32) ∧
  (∃ s : State, ∃ q : ReqId, ∃ e, Canon s.chip ∧ Startable s.chip q 0x0B10#16 [0] e ∧ s.chip.pond.grants = []) ∧
  (∃ s : State, ∃ q : ReqId, ∃ e, Canon s.chip ∧ Startable s.chip q 0x0B11#16 [0] e ∧ s.chip.pond.grants = []) ∧
  (∃ s : State, ∃ q : ReqId, ∃ e, Canon s.chip ∧ Startable s.chip q 0x0B12#16 [0] e ∧ s.chip.pond.grants = []) ∧
  (∃ s : State, Canon s.chip ∧ s.chip.pond.grants = [] ∧ s.chip.cwRuns = true ∧ s.chip.sei.time.toNat % 1600000 = 0 ∧ s.chip.fab.pass = none) ∧
  (∃ s : State, Canon s.chip ∧ s.chip.pond.grants = [] ∧ s.chip.fab.pass = some false ∧ s.chip.fl.any (fun l => l.writes.any (fun x => x.1.cfg ||
    (fuseChan? x.1).isSome)) = false) ∧
  (∃ s : State, Canon s.chip ∧ s.chip.pond.grants = [] ∧ s.chip.fab.pass = some true) ∧
  (∃ s : State, Canon s.chip ∧ s.chip.pond.grants = [] ∧ s.chip.bit .CW_CTL F.CW_CTL_PAUSE = true ∧ s.chip.fab.pausedAt + ms (100 * s.chip.getPos
    .CW_CTL F.CW_CTL_PAUSE_MAX) ≤ s.chip.clk.now) ∧
  (∃ s : State, ∃ r, Canon s.chip ∧ s.chip.pond.grants = [] ∧ r.cfg = true ∧ s.chip.cwRuns = false ∧ (plainReg r = true ∨ r.dom = .fuse)) :=
  ⟨⟨(at_ (ask 0x0B01#16 0 0 live)), q0, (entry 0x0B01#16 0 0), 292, 12, ((Taken (at_ (ask 0x0B01#16 0 0 live)).chip q0).readWords 12 292).1, ((Taken
    (at_ (ask 0x0B01#16 0 0 live)).chip q0).readWords 12 292).2.2, canon (by decide +kernel), start (by decide +kernel), Prod.ext rfl (Prod.ext (by
    decide +kernel) rfl), by decide +kernel⟩,
  ⟨(at_ (ask 0x0B01#16 0 0 live)), q0, (entry 0x0B01#16 0 0), 0x0BFFFFFC, 2, ((Taken (at_ (ask 0x0B01#16 0 0 live)).chip q0).readWords 2
    0x0BFFFFFC).1, ((Taken (at_ (ask 0x0B01#16 0 0 live)).chip q0).readWords 2 0x0BFFFFFC).2.2, canon (by decide +kernel), start (by decide +kernel),
    Prod.ext rfl (Prod.ext (by decide +kernel) rfl), by decide +kernel⟩,
  ⟨(at_ (ask 0x0B02#16 0 0 live)), q0, (entry 0x0B02#16 0 0), .POND_SCRUB, (fset ((Taken (at_ (ask 0x0B02#16 0 0 live)).chip q0).rd .POND_SCRUB)
    F.POND_SCRUB_EN 1), canon (by decide +kernel), start (by decide +kernel), writable (by decide +kernel), by decide +kernel⟩,
  ⟨(at_ (ask 0x0B03#16 0 0 live)), q0, (entry 0x0B03#16 0 0), .POND_SCRUB, 0#32, 0xFFFFFFFF#32, canon (by decide +kernel), start (by decide +kernel),
    writable (by decide +kernel), by decide +kernel⟩,
  ⟨(at_ (ask 0x0B04#16 0 0 live)), q0, (entry 0x0B04#16 0 0), .CW_REF, 0xFFFFFFFF#32, canon (by decide +kernel), start (by decide +kernel), by
    decide +kernel⟩,
  ⟨(at_ (ask 0x0B10#16 0 0 live)), q0, (entry 0x0B10#16 0 0), canon (by decide +kernel), start (by decide +kernel), by decide +kernel⟩,
  ⟨(at_ (ask 0x0B11#16 0 0 live)), q0, (entry 0x0B11#16 0 0), canon (by decide +kernel), start (by decide +kernel), by decide +kernel⟩,
  ⟨(at_ (ask 0x0B12#16 0 0 live)), q0, (entry 0x0B12#16 0 0), canon (by decide +kernel), start (by decide +kernel), by decide +kernel⟩,
  ⟨(at_ ((fields live [(.CW_CTL, F.CW_CTL_EN, 1)]).updSei (fun k => { k with time := 1600000#64 }))), canon (by decide +kernel), by decide +kernel⟩,
  ⟨(at_ (live.updFab (fun k => { k with pass := some false }))), canon (by decide +kernel), by decide +kernel⟩,
  ⟨(at_ (live.updFab (fun k => { k with pass := some true }))), canon (by decide +kernel), by decide +kernel⟩,
  ⟨(at_ (fields live [(.CW_CTL, F.CW_CTL_PAUSE, 1), (.CW_CTL, F.CW_CTL_PAUSE_MAX, 15)])), canon (by decide +kernel), by decide +kernel⟩,
  ⟨(at_ live), .POND_SCRUB, canon (by decide +kernel), by decide +kernel⟩⟩

/-- The hypotheses of each clause of `Obligations.ExtendQuoteFlash` are met. -/
theorem witness_ExtendQuoteFlash :
  (∃ s : State, ∃ p : RegPath, ∃ v : Word, Canon s.chip ∧ Writable s.chip p .MEAS_EXT_CTL v ∧ s.chip.pond.grants = [] ∧ fget v F.MEAS_EXT_CTL_GO = 1
    ∧ 5 ≤ fget v F.MEAS_EXT_CTL_INDEX ∧ s.chip.fw.hs = .run ∧ s.chip.logFull = false) ∧
  (∃ s : State, ∃ p : RegPath, ∃ v : Word, Canon s.chip ∧ Writable s.chip p .MEAS_EXT_CTL v ∧ s.chip.pond.grants = [] ∧ p ≠ 1 ∧ fget v
    F.MEAS_EXT_CTL_GO = 1 ∧ fget v F.MEAS_EXT_CTL_INDEX < 5) ∧
  (∃ s : State, ∃ p : RegPath, ∃ v : Word, Canon s.chip ∧ Writable s.chip p .ATT_CTL v ∧ s.chip.pond.grants = [] ∧ fget v F.ATT_CTL_GO = 1 ∧
    s.chip.bit .BOOT_STATUS F.BOOT_STATUS_RECOVERY = true) ∧
  (∃ s : State, ∃ p : RegPath, ∃ v : Word, Canon s.chip ∧ Writable s.chip p .ATT_CTL v ∧ s.chip.pond.grants = [] ∧ fget v F.ATT_CTL_GO = 1 ∧
    s.chip.bit .BOOT_STATUS F.BOOT_STATUS_RECOVERY = false) ∧
  (∃ s : State, ∃ p : RegPath, ∃ k : BitVec 9, ∃ o, Canon s.chip ∧ Writable s.chip p .XSPI_CMD (s.chip.xspiWord xoREAD k.toNat) ∧ s.chip.pond.grants
    = [] ∧ o = ⟨xoREAD, s.chip.get .XSPI_ADDR F.XSPI_ADDR_ADDR, k.toNat, s.chip.xspiBuf.take k.toNat, none, s.chip.clk.now⟩ ∧ s.chip.bit .XSPI_CMD
    F.XSPI_CMD_GO = false ∧ s.chip.fw.xspi = none ∧ s.chip.xspiVerdict o = xeNONE) ∧
  (∃ s : State, ∃ p : RegPath, ∃ k : BitVec 9, ∃ o, Canon s.chip ∧ Writable s.chip p .XSPI_CMD (s.chip.xspiWord xoPROGRAM k.toNat) ∧
    s.chip.pond.grants = [] ∧ o = ⟨xoPROGRAM, s.chip.get .XSPI_ADDR F.XSPI_ADDR_ADDR, k.toNat, s.chip.xspiBuf.take k.toNat, none, s.chip.clk.now⟩ ∧
    s.chip.bit .XSPI_CMD F.XSPI_CMD_GO = false ∧ s.chip.fw.xspi = none ∧ s.chip.xspiVerdict o = xeNONE) ∧
  (∃ s : State, ∃ p : RegPath, ∃ k : BitVec 9, ∃ o, Canon s.chip ∧ Writable s.chip p .XSPI_CMD (s.chip.xspiWord xoPROGRAM k.toNat) ∧
    s.chip.pond.grants = [] ∧ o = ⟨xoPROGRAM, s.chip.get .XSPI_ADDR F.XSPI_ADDR_ADDR, k.toNat, s.chip.xspiBuf.take k.toNat, none, s.chip.clk.now⟩ ∧
    s.chip.bit .XSPI_CMD F.XSPI_CMD_GO = false ∧ s.chip.fw.xspi = none ∧ s.chip.xspiVerdict o ≠ xeNONE) ∧
  (∃ s : State, ∃ p : RegPath, ∃ o, Canon s.chip ∧ Writable s.chip p .XSPI_CMD (s.chip.xspiWord xoERASE (s.chip.get .XSPI_CMD F.XSPI_CMD_LEN)) ∧
    s.chip.pond.grants = [] ∧ o.op = xoERASE ∧ o.addr = s.chip.get .XSPI_ADDR F.XSPI_ADDR_ADDR ∧ o.req = none ∧ s.chip.bit .XSPI_CMD F.XSPI_CMD_GO =
    false ∧ s.chip.fw.xspi = none ∧ s.chip.xspiVerdict o = xeNONE) ∧
  (∃ s : State, ∃ p : RegPath, Canon s.chip ∧ Writable s.chip p .XSPI_CMD (s.chip.xspiWord xoREAD_ID (s.chip.get .XSPI_CMD F.XSPI_CMD_LEN)) ∧
    s.chip.pond.grants = [] ∧ s.chip.bit .XSPI_CMD F.XSPI_CMD_GO = false ∧ s.chip.fw.xspi = none) ∧
  (∃ s : State, ∃ o, ∃ y : Bool, ∃ t, Canon s.chip ∧ s.chip.pond.grants = [] ∧ s.chip.fw.xspi = some o ∧ s.chip.fw.xspiQueue = [] ∧ ((y = true ∧ (t =
    true ↔ o.since + xspiMax o.op < s.chip.clk.now)) ∨ (y = false ∧ t = true ∧ o.since + xspiMax o.op ≤ s.chip.clk.now))) ∧
  (∃ s : State, ∃ o, ∃ q, ∃ e, Canon s.chip ∧ s.chip.pond.grants = [] ∧ s.chip.fw.xspi = some o ∧ s.chip.fw.xspiQueue = [] ∧ o.req = some q ∧
    s.chip.entry? q = some e ∧ e.st ≠ .done ∧ (s.chip.doors[q.door]).releasing = none ∧ s.chip.clk.now ≤ o.since + xspiMax o.op) ∧
  (∃ s : State, ∃ o, Canon s.chip ∧ s.chip.pond.grants = [] ∧ s.chip.fw.xspi = some o ∧ s.chip.clk.now < o.since + xspiMax o.op) :=
  ⟨⟨(at_ (key 0 (live.updFw (fun k => { k with hs := .run })))), 0, (fset (fset ((at_ (key 0 (live.updFw (fun k => { k with hs := .run })))).chip.readWord
    .MEAS_EXT_CTL) F.MEAS_EXT_CTL_INDEX 7) F.MEAS_EXT_CTL_GO 1), canon (by decide +kernel), writable (by decide +kernel), by decide +kernel⟩,
  ⟨(at_ (key 0 live)), 0, (fset (fset ((at_ (key 0 live)).chip.readWord .MEAS_EXT_CTL) F.MEAS_EXT_CTL_INDEX 4) F.MEAS_EXT_CTL_GO 1), canon (by
    decide +kernel), writable (by decide +kernel), by decide +kernel⟩,
  ⟨(at_ (key 0 (fields live [(.BOOT_STATUS, F.BOOT_STATUS_RECOVERY, 1)]))), 0, (fset ((at_ (key 0 (fields live [(.BOOT_STATUS,
    F.BOOT_STATUS_RECOVERY, 1)]))).chip.readWord .ATT_CTL) F.ATT_CTL_GO 1), canon (by decide +kernel), writable (by decide +kernel), by
    decide +kernel⟩,
  ⟨(at_ (key 0 live)), 0, (fset ((at_ (key 0 live)).chip.readWord .ATT_CTL) F.ATT_CTL_GO 1), canon (by decide +kernel), writable (by decide +kernel),
    by decide +kernel⟩,
  ⟨(at_ (fields (key 0 live) [(.XSPI_ADDR, F.XSPI_ADDR_ADDR, 0x3FFFF00)])), 0, 256, (⟨xoREAD, (at_ (fields (key 0 live) [(.XSPI_ADDR,
    F.XSPI_ADDR_ADDR, 0x3FFFF00)])).chip.get .XSPI_ADDR F.XSPI_ADDR_ADDR, 256, (at_ (fields (key 0 live) [(.XSPI_ADDR, F.XSPI_ADDR_ADDR,
    0x3FFFF00)])).chip.xspiBuf.take 256, none, (at_ (fields (key 0 live) [(.XSPI_ADDR, F.XSPI_ADDR_ADDR, 0x3FFFF00)])).chip.clk.now⟩ : XspiOp), canon
    (by decide +kernel), writable (by decide +kernel), by decide +kernel⟩,
  ⟨(at_ (fields (key 0 live) [(.XSPI_ADDR, F.XSPI_ADDR_ADDR, 0x3FFFFFF)])), 0, 1, (⟨xoPROGRAM, (at_ (fields (key 0 live) [(.XSPI_ADDR,
    F.XSPI_ADDR_ADDR, 0x3FFFFFF)])).chip.get .XSPI_ADDR F.XSPI_ADDR_ADDR, 1, (at_ (fields (key 0 live) [(.XSPI_ADDR, F.XSPI_ADDR_ADDR,
    0x3FFFFFF)])).chip.xspiBuf.take 1, none, (at_ (fields (key 0 live) [(.XSPI_ADDR, F.XSPI_ADDR_ADDR, 0x3FFFFFF)])).chip.clk.now⟩ : XspiOp), canon
    (by decide +kernel), writable (by decide +kernel), by decide +kernel⟩,
  ⟨(at_ (fields (key 0 live) [(.XSPI_ADDR, F.XSPI_ADDR_ADDR, 0x1FFFFFF)])), 0, 1, (⟨xoPROGRAM, (at_ (fields (key 0 live) [(.XSPI_ADDR,
    F.XSPI_ADDR_ADDR, 0x1FFFFFF)])).chip.get .XSPI_ADDR F.XSPI_ADDR_ADDR, 1, (at_ (fields (key 0 live) [(.XSPI_ADDR, F.XSPI_ADDR_ADDR,
    0x1FFFFFF)])).chip.xspiBuf.take 1, none, (at_ (fields (key 0 live) [(.XSPI_ADDR, F.XSPI_ADDR_ADDR, 0x1FFFFFF)])).chip.clk.now⟩ : XspiOp), canon
    (by decide +kernel), writable (by decide +kernel), by decide +kernel⟩,
  ⟨(at_ (fields (key 0 live) [(.XSPI_ADDR, F.XSPI_ADDR_ADDR, 0x3FF0000)])), 0, (⟨xoERASE, (at_ (fields (key 0 live) [(.XSPI_ADDR, F.XSPI_ADDR_ADDR,
    0x3FF0000)])).chip.get .XSPI_ADDR F.XSPI_ADDR_ADDR, 0, [], none, 0⟩ : XspiOp), canon (by decide +kernel), writable (by decide +kernel), by
    decide +kernel⟩,
  ⟨(at_ (fields (key 0 live) [(.XSPI_ADDR, F.XSPI_ADDR_ADDR, 0)])), 0, canon (by decide +kernel), writable (by decide +kernel), by decide +kernel⟩,
  ⟨(at_ (live.updFw (fun k => { k with xspi := some ⟨1, 67108608, 256, [], none, 10000000000000 - us 20⟩ }))), (⟨1, 67108608, 256, [], none,
    10000000000000 - us 20⟩ : XspiOp), true, false, canon (by decide +kernel), by decide +kernel⟩,
  ⟨(at_ ((live.updFw (fun k => { k with xspi := some ⟨3, 65536, 0, [], some q0, 10000000000000⟩ })).updDoor 0 (fun k => { k with path := some .trunk, reqs := [{ entry 0x0920#16 0 0 with st := .executing }] }))),
    (⟨3, 65536, 0, [], some q0, 10000000000000⟩ : XspiOp), q0, ({ entry 0x0920#16 0 0 with st := .executing }), canon (by decide +kernel), by
    decide +kernel⟩,
  ⟨(at_ (live.updFw (fun k => { k with xspi := some ⟨2, 65536, 1, [0#8], none, 10000000000000⟩ }))), (⟨2, 65536, 1, [0#8], none, 10000000000000⟩ :
    XspiOp), canon (by decide +kernel), by decide +kernel⟩⟩

/-- The hypotheses of each clause of `Obligations.Integrity` are met. -/
theorem witness_Integrity :
  (∃ s : State, Canon s.chip ∧ s.chip.pond.grants = [] ∧ s.chip.pond.waiters = [] ∧ s.chip.clk.boot ≠ .held) ∧
  (∃ s : State, ∃ q, ∃ r, Canon s.chip ∧ s.chip.pond.grants = [] ∧ s.chip.pond.waiters = [] ∧ s.chip.clk.boot ≠ .held ∧ queueOf q = some r) ∧
  (∃ s : State, ∃ q, ∃ r, Canon s.chip ∧ s.chip.pond.grants = [] ∧ s.chip.pond.waiters = [] ∧ s.chip.clk.boot ≠ .held ∧ queueOf q = some r ∧
    s.chip.ladder? 7 q = none ∧ (s.chip.ladders.filter (fun w => w.ladder == 7)).length < 2) ∧
  (∃ s : State, Canon s.chip ∧ s.chip.pond.grants = [] ∧ s.chip.pond.waiters = [] ∧ s.chip.clk.boot ≠ .held) ∧
  (∃ s : State, ∃ q : Nat, ∃ r, Canon s.chip ∧ s.chip.pond.grants = [] ∧ s.chip.pond.waiters = [] ∧ s.chip.clk.boot ≠ .held ∧ queueOf q = some r ∧
    s.chip.ladder? 7 q = none ∧ (s.chip.ladders.filter (fun w => w.ladder == 7)).length < 2) ∧
  (∃ s : State, ∃ e, ∃ p, ∃ k, ∃ b, Canon s.chip ∧ s.chip.pond.grants = [] ∧ s.chip.pond.waiters = [] ∧ s.chip.engLive e = true ∧ s.chip.taskBudget
    ⟨e, p, k⟩ = some b ∧ b < k ∧ ((s.chip.engines[e]).overruns.filter (fun t => s.chip.clk.now ≤ t + ms 1)).length < 2) ∧
  (∃ s : State, ∃ e, ∃ p, ∃ k, ∃ b, Canon s.chip ∧ s.chip.pond.grants = [] ∧ s.chip.pond.waiters = [] ∧ s.chip.engLive e = true ∧ s.chip.taskBudget
    ⟨e, p, k⟩ = some b ∧ b < k ∧ 2 ≤ ((s.chip.engines[e]).overruns.filter (fun t => s.chip.clk.now ≤ t + ms 1)).length) ∧
  (∃ s : State, ∃ e, ∃ p, ∃ k, ∃ b, Canon s.chip ∧ s.chip.pond.grants = [] ∧ s.chip.pond.waiters = [] ∧ s.chip.engLive e = true ∧ s.chip.taskBudget
    ⟨e, p, k⟩ = some b ∧ 16 * b ≤ k) ∧
  (∃ s : State, ∃ e : Engine, Canon s.chip ∧ s.chip.pond.grants = [] ∧ s.chip.pond.waiters = [] ∧ s.chip.engLive e = true ∧ s.chip.ladder? 2 (e.val /
    32) = none) ∧
  (∃ s : State, ∃ e : Engine, ∃ x, ∃ r, ∃ sp, ∃ k, Canon s.chip ∧ s.chip.pond.grants = [] ∧ s.chip.pond.waiters = [] ∧ s.chip.dozing = false ∧
    (s.chip.basins[(Fin.ofNat 16 (e.val / 32) : Basin)]).inReset = false ∧ (s.chip.engines[e]).handing = some x ∧ (s.chip.engines[e]).role = r ∧ r ≠
    .spare ∧ r ≠ .none ∧ s.chip.spares (e.val / 32) = sp :: k ∧ epochVerdict (s.chip.engines[e]).handEpoch (s.chip.engines[e]).epoch = none) ∧
  (∃ s : State, ∃ e : Engine, ∃ x, ∃ v, Canon s.chip ∧ s.chip.pond.grants = [] ∧ s.chip.pond.waiters = [] ∧ s.chip.dozing = false ∧
    (s.chip.basins[(Fin.ofNat 16 (e.val / 32) : Basin)]).inReset = false ∧ (s.chip.engines[e]).handing = some x ∧ epochVerdict
    (s.chip.engines[e]).handEpoch (s.chip.engines[e]).epoch = some v) ∧
  (∃ s : State, ∃ l : Nat, Canon s.chip ∧ s.chip.pond.grants = [] ∧ s.chip.pond.waiters = [] ∧ (l ≠ 8 ∨ s.chip.fw.hs = .run)) ∧
  (∃ s : State, Canon s.chip ∧ s.chip.pond.grants = [] ∧ s.chip.pond.waiters = [] ∧ s.chip.fw.hs = .run ∧ s.chip.dozing = false ∧ s.chip.ladder? 8 0
    = none) ∧
  (∃ s : State, ∃ w, Canon s.chip ∧ s.chip.pond.grants = [] ∧ s.chip.pond.waiters = [] ∧ s.chip.fw.hs = .run ∧ s.chip.dozing = false ∧ s.chip.ladder?
    8 0 = some w) ∧
  (∃ s : State, ∃ t, Canon s.chip ∧ s.chip.pond.grants = [] ∧ s.chip.pond.waiters = [] ∧ (s.chip.pwr.st = .run ∨ s.chip.pwr.st = .idle) ∧
    s.chip.clk.faultUntil = some t ∧ t ≤ s.chip.clk.now) ∧
  (∃ s : State, ∃ t, Canon s.chip ∧ s.chip.pond.grants = [] ∧ s.chip.pond.waiters = [] ∧ (s.chip.pwr.st = .run ∨ s.chip.pwr.st = .idle) ∧
    s.chip.clk.alertUntil = some t ∧ t ≤ s.chip.clk.now) :=
  ⟨⟨(at_ live), canon (by decide +kernel), by decide +kernel⟩,
  ⟨(at_ (live.updDoor 7 (fun k => { k with path := some .trunk }))), 0x211F, (.cullet 7), canon (by decide +kernel), by decide +kernel⟩,
  ⟨(at_ live), 0x2140, .device, canon (by decide +kernel), by decide +kernel⟩,
  ⟨(at_ live), canon (by decide +kernel), by decide +kernel⟩,
  ⟨(at_ live), 0x2000, .spill, canon (by decide +kernel), by decide +kernel⟩,
  ⟨(at_ (live.updEng 511 (fun k => { k with role := .pool, overruns := [10000000000000 - ms 1, 0] }))), 511, none, (((at_ (live.updEng 511 (fun k =>
    { k with role := .pool, overruns := [10000000000000 - ms 1, 0] }))).chip.taskBudget ⟨511, none, 0⟩).getD 0 + 1), (((at_ (live.updEng 511 (fun k
    => { k with role := .pool, overruns := [10000000000000 - ms 1, 0] }))).chip.taskBudget ⟨511, none, 0⟩).getD 0), canon (by decide +kernel), by
    decide +kernel⟩,
  ⟨(at_ (live.updEng 511 (fun k => { k with role := .pool, overruns := [10000000000000 - ms 1, 10000000000000] }))), 511, none, (((at_ (live.updEng
    511 (fun k => { k with role := .pool, overruns := [10000000000000 - ms 1, 10000000000000] }))).chip.taskBudget ⟨511, none, 0⟩).getD 0 + 1),
    (((at_ (live.updEng 511 (fun k => { k with role := .pool, overruns := [10000000000000 - ms 1, 10000000000000] }))).chip.taskBudget ⟨511, none,
    0⟩).getD 0), canon (by decide +kernel), by decide +kernel⟩,
  ⟨(at_ (live.updEng 511 (fun k => { k with role := .pool }))), 511, none, (16 * ((at_ (live.updEng 511 (fun k => { k with role := .pool }))).chip.taskBudget
    ⟨511, none, 0⟩).getD 0), (((at_ (live.updEng 511 (fun k => { k with role := .pool }))).chip.taskBudget ⟨511, none, 0⟩).getD 0), canon (by
    decide +kernel), by decide +kernel⟩,
  ⟨(at_ live), 31, canon (by decide +kernel), by decide +kernel⟩,
  ⟨(at_ ((live.updEng 0 (fun k => { k with quar := true, handing := some (0, []), role := .pool })).updEng 31 (fun k => { k with role := .spare }))),
    0, ((0, []) : Nat × List Nat), .pool, 30, ([31]), canon (by decide +kernel), by decide +kernel⟩,
  ⟨(at_ (live.updEng 0 (fun k => { k with quar := true, handing := some (0, []), role := .pool, epoch := 3#16, handEpoch := 2#16 }))), 0, ((0, []) :
    Nat × List Nat), rROLE_CHANGED, canon (by decide +kernel), by decide +kernel⟩,
  ⟨(at_ ({ live with ladders := [⟨2, 3, 1, 10000000000001, 0⟩] })), 2, canon (by decide +kernel), by decide +kernel⟩,
  ⟨(at_ live), canon (by decide +kernel), by decide +kernel⟩,
  ⟨(at_ ({ live with ladders := [⟨8, 0, 1, 10000000000001, 0⟩] })), (⟨8, 0, 1, 10000000000001, 0⟩ : LadderWin), canon (by decide +kernel), by
    decide +kernel⟩,
  ⟨(at_ (live.updClk (fun k => { k with faultUntil := some 10000000000000 }))), 10000000000000, canon (by decide +kernel), by decide +kernel⟩,
  ⟨(at_ (live.updClk (fun k => { k with alertUntil := some 10000000000000 }))), 10000000000000, canon (by decide +kernel), by decide +kernel⟩⟩

/-! ### The other statements -/

/-- Hypotheses of `Obligations.EmptyQueueTicks`, and of its clauses. -/
theorem witness_EmptyQueueTicks :
    (∃ s : State, s.pending = [] ∧ s.chip.sei.running = true ∧ s.chip.pwr.st = .run) ∧
    (∃ s : State, s.pending = [] ∧ s.chip.sei.running = true ∧ s.chip.pwr.st = .idle) ∧
    (∃ s : State, s.pending = [] ∧ s.chip.sei.running = false) ∧
    (∃ s : State, s.pending = [] ∧ (∀ x, x ∈ s.chip.clk.cross → x.ack.isSome = true) ∧
      (∀ n : Port, (s.chip.ports[n]).drop.resume = none) ∧ s.chip.pond.grants = [] ∧
      (∀ (d : Door) e, e ∈ (s.chip.doors[d]).reqs → knownOpcode e.req.opcode = true) ∧ (s.chip.doors[q0.door]).reqs ≠ []) :=
  ⟨⟨at_ live, by decide +kernel⟩, ⟨at_ (live.updPwr (fun p => { p with st := .idle })), by decide +kernel⟩,
    ⟨State.reset, by decide +kernel⟩, ⟨at_ (ask 0x0B01#16 0 0 live), by decide +kernel, by decide +kernel, by decide +kernel,
      by decide +kernel, by decide +kernel, by decide +kernel⟩⟩

/-- Hypotheses of `Obligations.StepKeepsCanonical`: a step of an idle part and one of a command. -/
theorem witness_StepKeepsCanonical :
    (∃ s t : State, Canon s.chip ∧ step s = .next t) ∧
    (∃ s t : State, s.pending ≠ [] ∧ Canon s.chip ∧ step s = .next t) :=
  ⟨⟨at_ live, _, canon (by decide +kernel), rfl⟩,
    ⟨{ at_ live with pending := [.shaftEdge 0 true ⟨true, 63⟩ true] }, _, List.cons_ne_nil _ _, canon (by decide +kernel), rfl⟩⟩

/-- Hypotheses of `Obligations.LastingMemories`: a command that is none of the operations, the end of a read, a busy poll, a
program that ends, a commit that ends verified or not with a block it leaves, a block that is locked. -/
theorem witness_LastingMemories :
    (∃ (i : Instr) (s t : State), exec i s = .next t ∧ (∀ d b, i ≠ .xspiOpEnd d b) ∧ i ≠ .beadCommitEnd true ∧
      (∀ m k, i ≠ .lockBlock m k)) ∧
    (∃ (i : Instr) (s t : State) (d : Bool) (b : Byte), exec i s = .next t ∧ i = .xspiOpEnd d b ∧
      (∀ o, s.chip.fw.xspi = some o → o.op ≠ 2 ∧ o.op ≠ 3)) ∧
    (∃ (i : Instr) (s t : State) (b : Byte) (o : XspiOp), exec i s = .next t ∧ i = .xspiOpEnd false b ∧
      s.chip.fw.xspi = some o ∧ s.chip.clk.now < o.since + xspiMax o.op) ∧
    (∃ (i : Instr) (s t : State) (d : Bool) (b : Byte) (o : XspiOp), exec i s = .next t ∧ i = .xspiOpEnd d b ∧
      s.chip.fw.xspi = some o ∧ (5 < o.addr ∨ o.addr + max 65536 (max o.len o.data.length) ≤ 5)) ∧
    (∃ (s t : State), exec (.beadCommitEnd true) s = .next t ∧ s.chip.bead.commit.any (fun x => x.block == 3) = false) ∧
    (∃ (i : Instr) (s t : State) (k : Nat), exec i s = .next t ∧ k ∈ s.chip.bead.locked) :=
  ⟨⟨.ppsRise, State.reset, _, rfl, nofun, nofun, nofun⟩,
    ⟨.xspiOpEnd true 0#8, State.reset, _, true, 0#8, rfl, rfl, nofun⟩,
    ⟨.xspiOpEnd false 0#8, at_ (withXspi 2), _, _, _, rfl, rfl, rfl, by decide +kernel⟩,
    ⟨.xspiOpEnd true 0#8, at_ (withXspi 3), _, _, _, _, rfl, rfl, rfl, by decide +kernel⟩,
    ⟨State.reset, _, rfl, by decide +kernel⟩,
    ⟨.ppsRise, at_ (live.updBead (fun b => { b with locked := [4] })), _, 4, rfl, by decide +kernel⟩⟩

/-- Hypotheses of `Obligations.TimeIsNeverWritten`. -/
theorem witness_TimeIsNeverWritten : ∃ (i : Instr) (s t : State), (∀ k, i ≠ .lowPowerExitComplete k) ∧ exec i s = .next t :=
  ⟨.ppsRise, State.reset, _, nofun, rfl⟩

/-- Hypotheses of the clauses of `Obligations.EventsReachSubscribers`. -/
theorem witness_EventsReachSubscribers :
    (∃ (c : Chip) (e : Event) (d : Door), (c.doors[d]).path.isSome = true ∧ (c.doors[d]).sub.getLsbD (e.code / 256) = true ∧
      (c.doors[d]).evts.length < 4095) ∧
    (∃ (c : Chip) (e : Event) (d : Door), (c.doors[d]).path.isSome = true ∧ (c.doors[d]).sub.getLsbD (e.code / 256) = true ∧
      4095 ≤ (c.doors[d]).evts.length) ∧
    (∃ (c : Chip) (d : Door), (c.doors[d]).path = none) :=
  ⟨⟨held0 .trunk live, live.ev 0x0101 0 0 [], 0, by decide +kernel⟩,
    ⟨(held0 .trunk live).updDoor 0 (fun d => { d with evts := List.replicate 4095 (live.ev 0x0101 0 0 []) }),
      live.ev 0x0101 0 0 [], 0, by decide +kernel⟩,
    ⟨live, 7, by decide +kernel⟩⟩

/-- Hypotheses of the clauses of `Obligations.AllocatorDecidesInOrder`: over the quota, more than is free, granted. -/
theorem witness_AllocatorDecidesInOrder :
    (∃ (s : State) (h : Fin 99) (k : Nat), Canon s.chip ∧ s.chip.pond.grants = [] ∧ s.chip.pond.rebuild = false ∧ k = 64 ∧
      s.chip.quota h < s.chip.used h + k) ∧
    (∃ (s : State) (h : Fin 99) (k : Nat), Canon s.chip ∧ s.chip.pond.grants = [] ∧ s.chip.pond.rebuild = false ∧ k = 1 ∧
      s.chip.used h + k ≤ s.chip.quota h ∧ s.chip.pFree - s.chip.pReserved < k) ∧
    (∃ (s : State) (h : Fin 99) (k : Nat), Canon s.chip ∧ s.chip.pond.grants = [] ∧ s.chip.pond.rebuild = false ∧ k = 64 ∧
      s.chip.used h + k ≤ s.chip.quota h ∧ k ≤ s.chip.pFree - s.chip.pReserved) :=
  ⟨⟨at_ (fields live [(.HOLDER_QUOTA 3, F.HOLDER_QUOTA_QUOTA, 63)]), 3, 64, canon (by decide +kernel), by decide +kernel⟩,
    ⟨at_ (fields live [(.HOLDER_QUOTA 3, F.HOLDER_QUOTA_QUOTA, 1), (.POND_FREE, F.POND_FREE_FREE, 5),
      (.POND_WAIT, F.POND_WAIT_RESERVED, 5)]), 3, 1, canon (by decide +kernel), by decide +kernel⟩,
    ⟨at_ (fields live [(.HOLDER_QUOTA 3, F.HOLDER_QUOTA_QUOTA, 64)]), 3, 64, canon (by decide +kernel), by decide +kernel⟩⟩

/-- A read of an unmapped address in the register window. -/
def rwin0 : RxFrame := frame 5#8 0#16 0#32 ([1#8, 0#8, 0#8, 0#8] ++ leBytes 4 0x0FFFFFFC ++ List.replicate 4 0#8)

/-- Hypotheses of the clauses of `Obligations.UnmappedAccesses`, at an address that no register has. -/
theorem witness_UnmappedAccesses :
    Reg.ofAddr 0x0FFFFFFC = none ∧ aliasBit 0x0FFFFFFC = none ∧
    (∃ s : State, Canon s.chip ∧ s.chip.pond.grants = [] ∧ s.chip.pathUp 0 = true ∧ s.chip.pathUp 2 = true) ∧
    (∃ (s : State) (l : LaneId) (f : RxFrame) (k : LaneId), Canon s.chip ∧ s.chip.pond.grants = [] ∧ s.chip.pathUp 0 = true ∧
      s.chip.trunk.delivered.find? (fun x => x.2.typ.toNat == ttREGWIN) = some (l, f) ∧ f.length.toNat = 12 ∧
      leAt f.payload 4 4 = 0x0FFFFFFC ∧ leAt f.payload 0 1 = 1 ∧ s.chip.spills = false ∧
      s.chip.laneOf 3 0 = some k ∧ s.chip.hasDest k = true) ∧
    (∃ (s : State) (q : ReqId) (e : ReqEntry), Canon s.chip ∧ s.chip.pond.grants = [] ∧ Startable s.chip q 0x0B01#16 [0] e) ∧
    (∃ (s : State) (q : ReqId) (e : ReqEntry), Canon s.chip ∧ s.chip.pond.grants = [] ∧ Startable s.chip q 0x0B02#16 [0] e) ∧
    (∃ (s : State) (q : ReqId) (e : ReqEntry), Canon s.chip ∧ s.chip.pond.grants = [] ∧ Startable s.chip q 0x0B03#16 [0] e) ∧
    (∃ (s : State) (q : ReqId) (e : ReqEntry), Canon s.chip ∧ s.chip.pond.grants = [] ∧ Startable s.chip q 0x0B04#16 [0] e) :=
  ⟨by decide +kernel, by decide +kernel, ⟨at_ ({ live with svcPort := { live.svcPort with address := 1 } }), canon (by decide +kernel), by decide +kernel⟩,
    ⟨at_ (got 0 rwin0 live), 0, rwin0, 1, canon (by decide +kernel), by decide +kernel⟩,
    ⟨at_ (ask 0x0B01#16 0 0 live), q0, entry 0x0B01#16 0 0, canon (by decide +kernel), by decide +kernel, start (by decide +kernel)⟩,
    ⟨at_ (ask 0x0B02#16 0 0 live), q0, entry 0x0B02#16 0 0, canon (by decide +kernel), by decide +kernel, start (by decide +kernel)⟩,
    ⟨at_ (ask 0x0B03#16 0 0 live), q0, entry 0x0B03#16 0 0, canon (by decide +kernel), by decide +kernel, start (by decide +kernel)⟩,
    ⟨at_ (ask 0x0B04#16 0 0 live), q0, entry 0x0B04#16 0 0, canon (by decide +kernel), by decide +kernel, start (by decide +kernel)⟩⟩

/-- Of each frame statement, a command that answers a next state. -/
theorem witness_Frames :
    (∃ s t, exec .vddAonPowerOn s = .next t) ∧ (∃ s t, exec .echoSend s = .next t) ∧
    (∃ s t, exec .entryStepComplete s = .next t) ∧ (∃ s t, exec (.debounceExpiry 5) s = .next t) ∧
    (∃ s t, exec (.lineStatus q0) s = .next t) ∧ (∃ s t, exec .ppsRise s = .next t) ∧
    (∃ s t, exec .aonWriteApply s = .next t) :=
  ⟨⟨State.reset, _, rfl⟩, ⟨State.reset, _, rfl⟩, ⟨State.reset, _, rfl⟩, ⟨State.reset, _, rfl⟩, ⟨State.reset, _, rfl⟩,
    ⟨State.reset, _, rfl⟩, ⟨State.reset, _, rfl⟩⟩

end Sys2Proof.Tests
end

namespace Sys2Proof.Proofs

open Sys2Proof.Machine Sys2Proof.Laws

/-! SUPPORT. Requests served: what taking one and answering it leave, and how an opcode's body becomes an answered run (R135, R136). -/

/-- What taking a request from its ring changes (R135, R330). -/
def frTake : Frame := ⟨[.doors, .reqs, .basins, .pwr], fun r => r == .PWR_STATUS⟩

/-- What an answer changes (R136). -/
def frAnswer : Frame := ⟨[.trunk, .doors, .reqs, .rates], noReg⟩

theorem taken_fr (c : Chip) (q : ReqId) : Fr frTake c (Taken c q) :=
  Chip.active_fr (Chip.setReqSt_fr (Fr.refl _ _) (by decide) (by decide)) (by decide) (by decide) rfl

theorem canon_taken {c : Chip} (h : Canon c) (q : ReqId) : Canon (Taken c q) := (taken_fr c q).canon h

@[simp] theorem taken_pond (c : Chip) (q : ReqId) : (Taken c q).pond = c.pond := (taken_fr c q).kept.pond (by decide)
@[simp] theorem taken_clk (c : Chip) (q : ReqId) : (Taken c q).clk = c.clk := (taken_fr c q).kept.clk (by decide)
@[simp] theorem taken_svc (c : Chip) (q : ReqId) : (Taken c q).svc = c.svc := (taken_fr c q).kept.svc (by decide)
@[simp] theorem taken_engines (c : Chip) (q : ReqId) : (Taken c q).engines = c.engines :=
  (taken_fr c q).kept.engines (by decide)
@[simp] theorem taken_freeCtr (c : Chip) (q : ReqId) : (Taken c q).freeCtr = c.freeCtr :=
  (taken_fr c q).kept.freeCtr (by decide)

@[simp] theorem taken_rd (c : Chip) (q : ReqId) {r : Reg} (h : r ≠ .PWR_STATUS) : (Taken c q).rd r = c.rd r :=
  (taken_fr c q).kept.regs r (by simpa [frTake] using h)
@[simp] theorem taken_get (c : Chip) (q : ReqId) {r : Reg} (f : Field) (h : r ≠ .PWR_STATUS) :
    (Taken c q).get r f = c.get r f := by rw [Chip.get, Chip.get, taken_rd c q h]
@[simp] theorem taken_bit (c : Chip) (q : ReqId) {r : Reg} (f : Field) (h : r ≠ .PWR_STATUS) :
    (Taken c q).bit r f = c.bit r f := by rw [Chip.bit, Chip.bit, taken_get c q f h]

@[simp] theorem taken_frozen (c : Chip) (q : ReqId) : (Taken c q).frozen = c.frozen := taken_bit c q _ (by decide)
@[simp] theorem taken_pFree (c : Chip) (q : ReqId) : (Taken c q).pFree = c.pFree := taken_get c q _ (by decide)
@[simp] theorem taken_pReserved (c : Chip) (q : ReqId) : (Taken c q).pReserved = c.pReserved := taken_get c q _ (by decide)
@[simp] theorem taken_quota (c : Chip) (q : ReqId) (h : Fin 99) : (Taken c q).quota h = c.quota h :=
  taken_get c q _ nofun
@[simp] theorem taken_used (c : Chip) (q : ReqId) (h : Fin 99) : (Taken c q).used h = c.used h := taken_get c q _ nofun
@[simp] theorem taken_overQuota (c : Chip) (q : ReqId) (h : Fin 99) : (Taken c q).overQuota h = c.overQuota h :=
  taken_bit c q _ nofun
@[simp] theorem taken_ctx (c : Chip) (q : ReqId) (i : Nat) : (Taken c q).ctx i = c.ctx i := by simp [Chip.ctx]
@[simp] theorem taken_msWindow (c : Chip) (q : ReqId) : (Taken c q).msWindow = c.msWindow := by simp [Chip.msWindow]
@[simp] theorem taken_listCtx (c : Chip) (q : ReqId) (h t f k : Nat) : (Taken c q).listCtx h t f k = c.listCtx h t f k := by
  simp [Chip.listCtx]

theorem bodyBytes_congr {c d : Chip} (hs : d.svc = c.svc) (hf : d.freeCtr = c.freeCtr) (b : Body) :
    (d.bodyBytes b).1 = (c.bodyBytes b).1 := by
  cases b <;> simp [Chip.bodyBytes, Chip.pageBytes, Chip.freeBytes, hs, hf]

/-- A context's bytes depend on the Pond, the service tables and the free values alone. -/
theorem ctxBytes_congr {c d : Chip} (hp : d.pond = c.pond) (hs : d.svc = c.svc) (hf : d.freeCtr = c.freeCtr) (i : Nat) :
    (d.ctxBytes i).1 = (c.ctxBytes i).1 := by
  have hx : d.ctx i = c.ctx i := by rw [Chip.ctx, Chip.ctx, hp]
  by_cases hq : (c.ctx i).poisoned = true
  · simp [Chip.ctxBytes, Chip.freeBytes, hx, hq, hf]
  · simp [Chip.ctxBytes, hx, hq, bodyBytes_congr hs hf]

@[simp] theorem taken_ctxBytes (c : Chip) (q : ReqId) (i : Nat) : ((Taken c q).ctxBytes i).1 = (c.ctxBytes i).1 :=
  ctxBytes_congr (taken_pond c q) (taken_svc c q) (taken_freeCtr c q) i

theorem answer_fr (c : Chip) (q : ReqId) (result : Nat) (data : List Nat) (n : Nat) :
    Fr frAnswer c (c.answer q result data n) :=
  Chip.answer_fr (Fr.refl _ _) (by decide) (by decide) (by decide) (by decide)

theorem get_of_answer_fr {d c : Chip} (h : Fr frAnswer d c) (r : Reg) (f : Field) : c.get r f = d.get r f := by
  rw [Chip.get, Chip.get, h.kept.regs r rfl]

theorem bit_of_answer_fr {d c : Chip} (h : Fr frAnswer d c) (r : Reg) (f : Field) : c.bit r f = d.bit r f := by
  rw [Chip.bit, Chip.bit, get_of_answer_fr h]

theorem pond_of_answer_fr {d c : Chip} (h : Fr frAnswer d c) : c.pond = d.pond := h.kept.pond (by decide)

/-- Without grants no requester goes on (R157). -/
theorem settle_of_grants_nil {c : Chip} (h : c.pond.grants = []) : c.settle = c := by simp [Chip.settle, h]

/-- An opcode whose body ends in an answer: what the body changes apart from the rings shows in the state that follows. -/
theorem runs_answered {s : State} {i : Instr} {q : ReqId} {op : BitVec 16} {kinds : List Nat} {e : ReqEntry}
    {body : ReqEntry → Chip → Chip} {d : Chip} {f : Frame} {result : Nat} {data : List Nat} {n : Nat} {p : Chip → Prop}
    (hs : Startable s.chip q op kinds e) (hi : exec i s = s.runS (fun c => c.serve q op kinds body))
    (hb : body e (Taken s.chip q) = d.answer q result data n) (hf : Fr f (Taken s.chip q) d) (hq : Part.reqs ∉ f.parts)
    (hg : d.pond.grants = []) (hp : ∀ c, Fr frAnswer d c → p c) :
    Runs i s (fun c => Answered c q e result data ∧ p c) := by
  have ha := answer_fr d q result data n
  have hserve : s.chip.serve q op kinds body = d.answer q result data n := (serve_start hs body).trans hb
  have hsettle : (s.chip.serve q op kinds body).settle = d.answer q result data n := by
    rw [hserve]
    exact settle_of_grants_nil (by rw [pond_of_answer_fr ha, hg])
  refine ⟨{ s with chip := d.answer q result data n }, ?_, rfl, startable_answered hs hf hq result data n, hp _ ha⟩
  rw [hi, State.runS, State.run, hsettle]

/-- An opcode that only reports: its body answers and changes nothing else but values drawn. -/
theorem runs_report {s : State} {i : Instr} {q : ReqId} {op : BitVec 16} {kinds : List Nat} {e : ReqEntry}
    {body : ReqEntry → Chip → Chip} {d : Chip} {result : Nat} {data : List Nat} {n : Nat}
    (hs : Startable s.chip q op kinds e) (hi : exec i s = s.runS (fun c => c.serve q op kinds body))
    (hb : body e (Taken s.chip q) = d.answer q result data n) (hf : Fr ⟨[.free], noReg⟩ (Taken s.chip q) d)
    (hg : s.chip.pond.grants = []) : Runs i s (fun c => Answered c q e result data) := by
  have hpond : d.pond = s.chip.pond := (hf.kept.pond (by decide)).trans (taken_pond _ _)
  obtain ⟨t, ht, hpend, hans, -⟩ :=
    runs_answered hs hi hb hf (by decide) (hpond ▸ hg) (p := fun _ => True) (fun _ _ => trivial)
  exact ⟨t, ht, hpend, hans⟩

end Sys2Proof.Proofs

namespace Sys2Proof.Proofs

open Sys2Proof.Machine Sys2Proof.Laws

/-! SUPPORT. The Pond's operations: contexts, pool events, quotas, grants (R146, R147, R150, R153, R154, R158). -/

/-! ### Contexts -/

theorem lookupNat_insertNat_same {α : Type} (l : List (Nat × α)) (k : Nat) (v : α) :
    lookupNat (insertNat l k v) k = some v := by
  induction l with
  | nil => simp [insertNat, lookupNat]
  | cons x t ih =>
    obtain ⟨j, w⟩ := x
    unfold insertNat
    split
    · next hlt => rw [lookupNat, if_neg (by omega), ih]
    · split <;> simp [lookupNat]

theorem lookupNat_eraseNat_same {α : Type} (l : List (Nat × α)) (k : Nat) : lookupNat (eraseNat l k) k = none := by
  induction l with
  | nil => rfl
  | cons x t ih =>
    obtain ⟨j, w⟩ := x
    unfold eraseNat at ih ⊢
    by_cases hj : j = k
    · simp [hj, ih]
    · simp [hj, lookupNat, ih]

/-- A context reads as stored. -/
@[simp] theorem ctx_setCtx_same (c : Chip) (i : Nat) (x : Ctx) : (c.setCtx i x).ctx i = x := by
  unfold Chip.setCtx Chip.ctx
  by_cases hx : x = {}
  · simp [hx, lookupNat_eraseNat_same]
  · simp [hx, lookupNat_insertNat_same]

@[simp] theorem setCtx_get (c : Chip) (i : Nat) (x : Ctx) (r : Reg) (f : Field) : (c.setCtx i x).get r f = c.get r f := rfl
@[simp] theorem setCtx_grants (c : Chip) (i : Nat) (x : Ctx) : (c.setCtx i x).pond.grants = c.pond.grants := rfl
@[simp] theorem setCtx_waiters (c : Chip) (i : Nat) (x : Ctx) : (c.setCtx i x).pond.waiters = c.pond.waiters := rfl

theorem canon_setCtx {c : Chip} (h : Canon c) (i : Nat) (x : Ctx) : Canon (c.setCtx i x) := ⟨h.regs, h.flash, h.blocks⟩

/-! ### Pool events -/

/-- What pool events change (R158). -/
def frPoolEvents : Frame := ⟨[.doors, .rates, .pond], fun r => r == .POND_STATUS⟩

theorem poolEvents_fr (c : Chip) : Fr frPoolEvents c c.poolEvents :=
  Chip.poolEvents_fr (Fr.refl _ _) (by decide) (by decide) (by decide) rfl

theorem poolEvents_rd (c : Chip) {r : Reg} (h : r ≠ .POND_STATUS) : c.poolEvents.rd r = c.rd r :=
  (poolEvents_fr c).kept.regs r (by simpa [frPoolEvents] using h)

theorem poolEvents_get (c : Chip) {r : Reg} (f : Field) (h : r ≠ .POND_STATUS) : c.poolEvents.get r f = c.get r f := by
  rw [Chip.get, Chip.get, poolEvents_rd c h]

theorem setSt_pond (c : Chip) (r : Reg) (f : Field) (v : Nat) : (c.setSt r f v).pond = c.pond :=
  (Chip.setSt_fr (f := ⟨[], anyReg⟩) (Fr.refl _ _) rfl).kept.pond (by decide)

theorem postRate_pond (c : Chip) (interval src : Nat) (e : Event) : (c.postRate interval src e).pond = c.pond :=
  (Chip.postRate_fr (f := frPost) (Fr.refl _ _) (by decide) (by decide)).kept.pond (by decide)

/-- In the Pond, pool events touch only the arming of POND_LOW. -/
theorem poolEvents_pond (c : Chip) : ∃ b, c.poolEvents.pond = { c.pond with lowArmed := b } := by
  unfold Chip.poolEvents
  extract_lets free low ex was d d'
  have hd : d'.pond = c.pond := by
    unfold d'
    split
    · rw [postRate_pond, setSt_pond]
    · rw [setSt_pond]
  split
  · exact ⟨false, by rw [updPond_pond, postRate_pond, hd]⟩
  · split
    · exact ⟨true, by rw [updPond_pond, hd]⟩
    · exact ⟨c.pond.lowArmed, hd⟩

@[simp] theorem poolEvents_grants (c : Chip) : c.poolEvents.pond.grants = c.pond.grants := by
  obtain ⟨b, hb⟩ := poolEvents_pond c
  rw [hb]

@[simp] theorem poolEvents_ctx (c : Chip) (i : Nat) : c.poolEvents.ctx i = c.ctx i := by
  obtain ⟨b, hb⟩ := poolEvents_pond c
  rw [Chip.ctx, Chip.ctx, hb]

/-- With nobody waiting a freed context stays in the pool (R157). -/
theorem reserveFreed_of_waiters_nil {c : Chip} (h : c.pond.waiters = []) : c.reserveFreed = c := by
  simp [Chip.reserveFreed, Chip.nextWaiter, h]

/-! ### Quotas -/

/-- What the check of a holder's quota changes (R154). -/
def frQuotaCheck : Frame := ⟨[.doors], fun r => r matches .HOLDER_USED _⟩

/-- What OVERCOMMIT's update changes (R153). -/
def frOvercommit : Frame := ⟨[.doors], fun r => r == .POND_STATUS⟩

theorem quotaCheck_fr (c : Chip) (h : Fin 99) (b : Bool) : Fr frQuotaCheck c (c.quotaCheck h b) :=
  Chip.quotaCheck_fr (Fr.refl _ _) (by decide) (fun _ => rfl)

theorem overcommit_fr (c : Chip) : Fr frOvercommit c c.overcommit := Chip.overcommit_fr (Fr.refl _ _) (by decide) rfl

theorem overcommit_rd (c : Chip) {r : Reg} (h : r ≠ .POND_STATUS) : c.overcommit.rd r = c.rd r :=
  (overcommit_fr c).kept.regs r (by simpa [frOvercommit] using h)

theorem post_rd (c : Chip) (e : Event) (r : Reg) : (c.post e).rd r = c.rd r :=
  (Chip.post_fr (f := frPost) (Fr.refl _ _) (by decide)).kept.regs r rfl

/-- Posting leaves OVER_QUOTA as set. -/
theorem overQuota_setB_post {c : Chip} (hc : Canon c) (h : Fin 99) (b : Bool) (e : Event) :
    ((c.setB (.HOLDER_USED h) F.HOLDER_USED_OVER_QUOTA b).post e).overQuota h = b := by
  have hset : (c.setB (.HOLDER_USED h) F.HOLDER_USED_OVER_QUOTA b).get (.HOLDER_USED h) F.HOLDER_USED_OVER_QUOTA = bitOf b % 2 :=
    get_setF_same c hc _ _ _ (by decide)
  rw [Chip.overQuota, Chip.bit, Chip.get, post_rd, ← Chip.get, hset]
  cases b <;> rfl

/-- After a new quota OVER_QUOTA says whether it is at or below USED (R154). -/
theorem overQuota_quotaCheck_new {c : Chip} (hc : Canon c) (h : Fin 99) :
    (c.quotaCheck h true).overQuota h = decide (c.quota h ≤ c.used h) := by
  unfold Chip.quotaCheck
  by_cases hle : c.quota h ≤ c.used h
  · cases ho : c.overQuota h with
    | false => simp [hle, overQuota_setB_post hc]
    | true => simp [hle, Nat.not_lt.2 hle, ho]
  · have hlt : c.used h < c.quota h := Nat.lt_of_not_le hle
    cases ho : c.overQuota h with
    | false => simp [hle, ho]
    | true => simp [hle, hlt, overQuota_setB_post hc]

@[simp] theorem get_setF_other (c : Chip) {r q : Reg} (f g : Field) (v : Nat) (h : q ≠ r) :
    (c.setF r f v).get q g = c.get q g := by rw [Chip.get, Chip.get, rd_setF_other c f v h]

/-- QUOTA and the sum of the quotas as a new quota stores them, before the checks that follow (R153, R154). -/
def quotaStored (c : Chip) (h : Fin 99) (v : Nat) : Chip :=
  (c.setF (.HOLDER_QUOTA h) F.HOLDER_QUOTA_QUOTA v).setF .POND_QSUM F.POND_QSUM_SUM
    (c.get .POND_QSUM F.POND_QSUM_SUM + v - c.quota h)

theorem setQuota_eq (c : Chip) (h : Fin 99) (v : Nat) :
    c.setQuota h v = ((quotaStored c h v).quotaCheck h true).overcommit := rfl

theorem canon_quotaStored {c : Chip} (hc : Canon c) (h : Fin 99) (v : Nat) : Canon (quotaStored c h v) :=
  canon_setF (canon_setF hc _ _ _) _ _ _

theorem quotaStored_quota {c : Chip} (hc : Canon c) (h : Fin 99) {v : Nat} (hv : v ≤ pondSize) :
    (quotaStored c h v).quota h = v := by
  have hlt : v < 2 ^ 21 := lt_of_le_of_lt hv (by decide)
  have hset := get_setF_same c hc (.HOLDER_QUOTA h) F.HOLDER_QUOTA_QUOTA v (by decide)
  simpa [Chip.quota, quotaStored] using hset.trans (Nat.mod_eq_of_lt hlt)

theorem quotaStored_used (c : Chip) (h : Fin 99) (v : Nat) : (quotaStored c h v).used h = c.used h := by
  simp [Chip.used, quotaStored]

theorem quotaStored_sum {c : Chip} (hc : Canon c) (h : Fin 99) {v : Nat}
    (hv : c.get .POND_QSUM F.POND_QSUM_SUM + v < 2 ^ 27) :
    (quotaStored c h v).get .POND_QSUM F.POND_QSUM_SUM = c.get .POND_QSUM F.POND_QSUM_SUM + v - c.quota h := by
  rw [quotaStored, get_setF_same _ (canon_setF hc _ _ _) _ _ _ (by decide)]
  exact Nat.mod_eq_of_lt (lt_of_le_of_lt (Nat.sub_le _ _) hv)

/-- Outside HOLDER_USED and POND_STATUS the checks after a new quota leave the registers as stored. -/
theorem setQuota_get (c : Chip) (h : Fin 99) (v : Nat) {r : Reg} (f : Field) (hu : frQuotaCheck.regs r = false)
    (hr : r ≠ .POND_STATUS) : (c.setQuota h v).get r f = (quotaStored c h v).get r f := by
  rw [Chip.get, Chip.get, setQuota_eq, overcommit_rd _ hr, (quotaCheck_fr _ _ _).kept.regs r hu]

theorem setQuota_quota {c : Chip} (hc : Canon c) (h : Fin 99) {v : Nat} (hv : v ≤ pondSize) : (c.setQuota h v).quota h = v := by
  rw [Chip.quota, setQuota_get c h v _ rfl (by simp), ← Chip.quota, quotaStored_quota hc h hv]

theorem setQuota_sum {c : Chip} (hc : Canon c) (h : Fin 99) {v : Nat} (hv : c.get .POND_QSUM F.POND_QSUM_SUM + v < 2 ^ 27) :
    (c.setQuota h v).get .POND_QSUM F.POND_QSUM_SUM = c.get .POND_QSUM F.POND_QSUM_SUM + v - c.quota h := by
  rw [setQuota_get c h v _ rfl (by simp), quotaStored_sum hc h hv]

theorem setQuota_overQuota {c : Chip} (hc : Canon c) (h : Fin 99) {v : Nat} (hv : v ≤ pondSize) :
    (c.setQuota h v).overQuota h = decide (v ≤ c.used h) := by
  have hover : (c.setQuota h v).overQuota h = ((quotaStored c h v).quotaCheck h true).overQuota h := by
    simp [setQuota_eq, Chip.overQuota, Chip.bit, Chip.get, overcommit_rd]
  rw [hover, overQuota_quotaCheck_new (canon_quotaStored hc h v), quotaStored_quota hc h hv, quotaStored_used]

/-- What a new quota changes (R153, R154). -/
def frSetQuota : Frame := ⟨[.doors], fun r =>
  (r matches .HOLDER_QUOTA _) || (r matches .HOLDER_USED _) || r == .POND_QSUM || r == .POND_STATUS⟩

theorem setQuota_fr (c : Chip) (h : Fin 99) (v : Nat) : Fr frSetQuota c (c.setQuota h v) :=
  Chip.setQuota_fr (Fr.refl _ _) (by decide) (fun _ => rfl) (fun _ => rfl) rfl rfl

/-! ### Configuration registers of the Pond -/

/-- The RW bits of a written word replace those of the old one (R14). -/
theorem fget_merge_mask (w v m : Word) (f : Field) (hf : f.hi < 32) (hm : ∀ i ≤ f.hi, f.lo ≤ i → m.getLsbD i = true) :
    fget ((w &&& ~~~m) ||| (v &&& m)) f = fget v f := by
  unfold fget
  congr 1
  ext i hi
  rw [BitVec.getElem_extractLsb', BitVec.getElem_extractLsb']
  have hbit : m[f.lo + i] = true := by simpa [show f.lo + i < 32 by omega] using hm (f.lo + i) (by omega) (by omega)
  simp [hbit, show f.lo + i < 32 by omega]

/-- A configuration register holds the written word, as the notes of its table make it read (R14). -/
theorem rd_wrRW_same {c : Chip} (hc : Canon c) (r : Reg) (w : Word) :
    (c.wrRW r w).rd r = normWord r ((c.rd r &&& ~~~r.rwMask) ||| (w &&& r.rwMask)) := by
  have hcfg : Canon (c.cfgWritten r) :=
    (Chip.cfgWritten_fr (f := ⟨[.fab], noReg⟩) (Fr.refl _ _) (by decide)).canon hc
  rw [Chip.wrRW, rd_wr_same _ hcfg]

/-- What the write of a configuration register changes (R322). -/
def frWrRW (r : Reg) : Frame := ⟨[.fab], fun x => x == r⟩

theorem wrRW_fr (c : Chip) (r : Reg) (w : Word) : Fr (frWrRW r) c (c.wrRW r w) :=
  Chip.wrRW_fr (Fr.refl _ _) (by simp [frWrRW]) (by simp [frWrRW])

/-- POND_SCRUB.EN reads as written (R14). -/
theorem scrub_en_wrRW {c : Chip} (hc : Canon c) (w : Word) :
    (c.wrRW .POND_SCRUB w).get .POND_SCRUB F.POND_SCRUB_EN = fget w F.POND_SCRUB_EN := by
  rw [Chip.get, rd_wrRW_same hc, normWord, clampF, fget_fset_other _ _ _ _ (by decide) (by decide) (by decide)]
  exact fget_merge_mask _ _ _ _ (by decide) (by decide)

/-- POND_SCRUB.INTERVAL reads as written, at least 100, as its table notes. -/
theorem scrub_interval_wrRW {c : Chip} (hc : Canon c) (w : Word) :
    (c.wrRW .POND_SCRUB w).get .POND_SCRUB F.POND_SCRUB_INTERVAL = max 100 (fget w F.POND_SCRUB_INTERVAL) := by
  have hlt : fget w F.POND_SCRUB_INTERVAL < 2 ^ 16 := BitVec.isLt _
  rw [Chip.get, rd_wrRW_same hc, normWord, clampF, fget_fset_same _ _ _ (by decide),
    fget_merge_mask _ _ _ _ (by decide) (by decide), clampNat]
  simp only [F.POND_SCRUB_INTERVAL] at hlt ⊢
  omega

/-- POND_LOW_MARK reads as written (R14). -/
theorem lowMark_wrRW {c : Chip} (hc : Canon c) (w : Word) :
    (c.wrRW .POND_LOW_MARK w).get .POND_LOW_MARK F.POND_LOW_MARK_LOW_MARK = fget w F.POND_LOW_MARK_LOW_MARK := by
  have hnorm (x : Word) : normWord .POND_LOW_MARK x = x := rfl
  rw [Chip.get, rd_wrRW_same hc, hnorm]
  exact fget_merge_mask _ _ _ _ (by decide) (by decide)

/-! ### Grants -/

/-- In the Pond, writing granted contexts touches only the list of contexts (R147). -/
theorem grantCtxs_pond (c : Chip) (h : Fin 99) (g : Group) (l : List Nat) :
    ∃ xs, (c.grantCtxs h g l).pond = { c.pond with ctxs := xs } := by
  refine List.foldlRecOn (motive := fun d : Chip => ∃ xs, d.pond = { c.pond with ctxs := xs }) l _ ⟨_, rfl⟩ ?_
  rintro d ⟨xs, hd⟩ i -
  exact ⟨_, by rw [Chip.setCtx, updPond_pond, hd]⟩

theorem grantCtxs_get (c : Chip) (h : Fin 99) (g : Group) (l : List Nat) (r : Reg) (f : Field) :
    (c.grantCtxs h g l).get r f = c.get r f := by
  have hfr : Fr ⟨[.pond], noReg⟩ c (c.grantCtxs h g l) := Chip.grantCtxs_fr (Fr.refl _ _) (by decide)
  rw [Chip.get, Chip.get, hfr.kept.regs r rfl]

theorem canon_grantCtxs {c : Chip} (hc : Canon c) (h : Fin 99) (g : Group) (l : List Nat) : Canon (c.grantCtxs h g l) :=
  (Chip.grantCtxs_fr (f := ⟨[.pond], noReg⟩) (Fr.refl _ _) (by decide)).canon hc

/-- Taking contexts leaves the groups granted to waiters. -/
theorem take_grants (c : Chip) (h : Fin 99) (g : Group) (n : Nat) : (c.take h g n).2.pond.grants = c.pond.grants := by
  obtain ⟨xs, hx⟩ := grantCtxs_pond c h g (lowestFree (n + c.pond.ctxs.length) n 0 c.pond.ctxs)
  simp [Chip.take, Chip.setF, hx]

/-- Taking contexts charges their holder (R150). -/
theorem take_used {c : Chip} (hc : Canon c) (h : Fin 99) (g : Group) {n : Nat} (hn : c.used h + n < 2 ^ 21) :
    (c.take h g n).2.used h = c.used h + n := by
  have hset := get_setF_same _ (canon_grantCtxs hc h g (lowestFree (n + c.pond.ctxs.length) n 0 c.pond.ctxs))
    (.HOLDER_USED h) F.HOLDER_USED_USED (c.used h + n) (by decide)
  simpa [Chip.take, Chip.used, poolEvents_get, grantCtxs_get] using hset.trans (Nat.mod_eq_of_lt hn)

/-- USED within the quota fits its field. -/
theorem quota_lt (c : Chip) (h : Fin 99) : c.quota h < 2 ^ 21 := BitVec.isLt _

end Sys2Proof.Proofs

namespace Sys2Proof.Proofs

open Sys2Proof.Machine Sys2Proof.Laws

/-! The allocator (07 R147 to R150): its decision, and POND_ALLOC outside a directory rebuild. -/

/-! ### The decision -/

/-- A holder over its quota is told so, whatever is free (R150). -/
theorem allocVerdict_of_quota_lt {c : Chip} {h : Fin 99} {n : Nat} (hq : c.quota h < c.used h + n) :
    c.allocVerdict h n = rOVER_QUOTA := if_pos hq

theorem allocVerdict_of_free_lt {c : Chip} {h : Fin 99} {n : Nat} (hq : c.used h + n ≤ c.quota h)
    (hf : c.pFree - c.pReserved < n) : c.allocVerdict h n = rPOND_FULL := by
  rw [Chip.allocVerdict, if_neg (by omega), if_pos hf]

theorem allocVerdict_of_room {c : Chip} {h : Fin 99} {n : Nat} (hq : c.used h + n ≤ c.quota h)
    (hf : n ≤ c.pFree - c.pReserved) : c.allocVerdict h n = rOK := by
  rw [Chip.allocVerdict, if_neg (by omega), if_neg (by omega)]

/-! ### A bare request of 1 to 64 contexts of a type -/

/-- Of 1 to 64 contexts the verdict alone decides (R149, R150). -/
theorem alloc_eq_verdict (c : Chip) (h : Fin 99) (g : Group) {n : Nat} (hn : 1 ≤ n ∧ n ≤ 64) :
    c.alloc h g n =
      if c.allocVerdict h n = rOK then (.ok (c.take h g n).1, (c.take h g n).2) else (.error (c.allocVerdict h n), c) := by
  have hsize : ¬(n = 0 ∨ 64 < n) := by omega
  simp [Chip.alloc, hsize]

/-- A refused request leaves everything but the answer (R156). -/
theorem bareAlloc_refused {c : Chip} {h : Fin 99} {t k v : Nat} (ht : 1 ≤ t ∧ t ≤ 7) (hk : 1 ≤ k ∧ k ≤ 64)
    (hv : c.allocVerdict h k = v) (hne : v ≠ rOK) :
    c.bareAlloc h t k = c.updPond (fun p => { p with lastAlloc := (v, []) }) := by
  have harg : ¬(t = 0 ∨ 7 < t ∨ k = 0 ∨ 64 < k) := by omega
  rw [Chip.bareAlloc, if_neg harg, alloc_eq_verdict _ _ _ hk, hv, if_neg hne]

/-- A granted request takes its contexts and answers with their CIDs (R147, R149). -/
theorem bareAlloc_granted {c : Chip} {h : Fin 99} {t k : Nat} (ht : 1 ≤ t ∧ t ≤ 7) (hk : 1 ≤ k ∧ k ≤ 64)
    (hv : c.allocVerdict h k = rOK) :
    c.bareAlloc h t k =
      (c.take h (.of t) k).2.updPond (fun p => { p with lastAlloc := (rOK, (c.take h (.of t) k).1) }) := by
  have harg : ¬(t = 0 ∨ 7 < t ∨ k = 0 ∨ 64 < k) := by omega
  rw [Chip.bareAlloc, if_neg harg, alloc_eq_verdict _ _ _ hk, if_pos hv]

/-- Outside a rebuild POND_ALLOC is the bare request. -/
theorem runs_pondAlloc {s : State} {h : Fin 99} {t k : Nat} {p : Chip → Prop} (hr : s.chip.pond.rebuild = false)
    (hg : (s.chip.bareAlloc h t k).pond.grants = []) (hp : p (s.chip.bareAlloc h t k)) : Runs (.pondAlloc h t k) s p := by
  refine ⟨{ s with chip := s.chip.bareAlloc h t k }, ?_, rfl, hp⟩
  have hexec : exec (.pondAlloc h t k) s = execPondAlloc h t k s := rfl
  simp [hexec, execPondAlloc, State.runS, State.run, hr, settle_of_grants_nil hg]

/-- A refusal keeps every context and USED as they were (R150). -/
theorem runs_pondAlloc_refused {s : State} (hg : s.chip.pond.grants = []) (hr : s.chip.pond.rebuild = false) {h : Fin 99}
    {t k v : Nat} (ht : 1 ≤ t ∧ t ≤ 7) (hk : 1 ≤ k ∧ k ≤ 64) (hv : s.chip.allocVerdict h k = v) (hne : v ≠ rOK) :
    Runs (.pondAlloc h t k) s (fun c =>
      c.pond.lastAlloc = (v, []) ∧ c.pond.ctxs = s.chip.pond.ctxs ∧ c.used h = s.chip.used h) := by
  have heq := bareAlloc_refused ht hk hv hne
  exact runs_pondAlloc hr (heq ▸ hg) (heq ▸ ⟨rfl, rfl, rfl⟩)

/-- A grant charges the holder (R150). -/
theorem runs_pondAlloc_granted {s : State} (hc : Canon s.chip) (hg : s.chip.pond.grants = []) (hr : s.chip.pond.rebuild = false)
    {h : Fin 99} {t k : Nat} (ht : 1 ≤ t ∧ t ≤ 7) (hk : 1 ≤ k ∧ k ≤ 64) (hq : s.chip.used h + k ≤ s.chip.quota h)
    (hv : s.chip.allocVerdict h k = rOK) :
    Runs (.pondAlloc h t k) s (fun c => c.pond.lastAlloc.1 = rOK ∧ c.used h = s.chip.used h + k) := by
  have heq := bareAlloc_granted ht hk hv
  have hgrants := (take_grants s.chip h (.of t) k).trans hg
  have hused := take_used hc h (.of t) (lt_of_le_of_lt hq (quota_lt s.chip h))
  exact runs_pondAlloc hr (heq ▸ hgrants) (heq ▸ ⟨rfl, hused⟩)

/-- Settles O52: each of the three cases fixes the allocator's verdict, and the verdict what POND_ALLOC does. -/
theorem allocatorDecidesInOrder : Obligations.AllocatorDecidesInOrder := by
  intro s hc hg hr h t k ht1 ht7 hk1 hk64
  have ht : 1 ≤ t ∧ t ≤ 7 := ⟨ht1, ht7⟩
  have hk : 1 ≤ k ∧ k ≤ 64 := ⟨hk1, hk64⟩
  refine ⟨fun hover => ?_, fun hquota hshort => ?_, fun hquota hroom => ?_⟩
  · exact runs_pondAlloc_refused hg hr ht hk (allocVerdict_of_quota_lt hover) (by decide)
  · exact runs_pondAlloc_refused hg hr ht hk (allocVerdict_of_free_lt hquota hshort) (by decide)
  · exact runs_pondAlloc_granted hc hg hr ht hk hquota (allocVerdict_of_room hquota hroom)

end Sys2Proof.Proofs

namespace Sys2Proof.Proofs

open Sys2Proof.Machine Sys2Proof.Laws

/-! The door opcodes of the Pond (07, opcodes 0x0601 to 0x0609): what each answers and leaves. -/

/-- What a body may change that leaves the request rings: events, the Pond, the fabric's pass, registers. -/
def frBody : Frame := ⟨[.doors, .rates, .pond, .fab], anyReg⟩

section

variable {s : State} {q : ReqId} {e : ReqEntry}

/-! ### Reports -/

theorem runs_pondStatus (hg : s.chip.pond.grants = []) (hs : Startable s.chip q 0x0601#16 [0, 1] e) :
    Runs (.pondStatus q) s (fun c => Answered c q e rOK
      [s.chip.pFree, s.chip.pReserved, s.chip.get .POND_WAIT F.POND_WAIT_WAITERS,
        s.chip.get .POND_POISONED F.POND_POISONED_COUNT, s.chip.get .POND_QSUM F.POND_QSUM_SUM,
        s.chip.get .POND_STATUS F.POND_STATUS_OVERCOMMIT, (s.chip.rd .POND_CE_COUNT).toNat]) :=
  runs_report hs rfl (d := Taken s.chip q) (n := 28) (by simp) (Fr.refl _ _) hg

/-- QUOTA_READ is cut at holder 98. -/
theorem runs_quotaRead (hg : s.chip.pond.grants = []) (hs : Startable s.chip q 0x0602#16 [0, 1] e) {f k : Nat} (hf : f ≤ 98)
    (hk : 0 < k ∧ k ≤ 99) :
    Runs (.quotaRead q f k) s (fun c => Answered c q e rOK ((((List.finRange 99).drop f).take k).flatMap (fun h =>
      [s.chip.quota h, s.chip.used h, bitOf (s.chip.overQuota h)]))) := by
  have harg : ¬(98 < f ∨ k = 0 ∨ 99 < k) := by omega
  refine runs_report hs rfl (d := Taken s.chip q) (n := 8 * (((List.finRange 99).drop f).take k).length) ?_ (Fr.refl _ _) hg
  simp [if_neg harg]

theorem runs_ctxRead (hg : s.chip.pond.grants = []) (hs : Startable s.chip q 0x0604#16 [0, 1] e) {i : Nat} (hi : i < pondSize) :
    Runs (.ctxRead q i) s (fun c => Answered c q e rOK ((s.chip.ctxBytes i).1.map (·.toNat) ++
      [(s.chip.ctx i).typ, (s.chip.ctx i).holder, bitOf (s.chip.ctx i).poisoned])) := by
  refine runs_report hs rfl (d := ((Taken s.chip q).ctxBytes i).2) (n := 35) ?_
    (Chip.ctxBytes_fr2 (Fr.refl _ _) (by decide)) hg
  simp [Nat.not_le.2 hi]

theorem runs_ctxList (hg : s.chip.pond.grants = []) (hs : Startable s.chip q 0x0605#16 [0, 1] e) {h t f k : Nat} (hh : h ≤ 98)
    (hk : k ≤ 383) (ht : t ≤ 7) (hf : f < pondSize) :
    Runs (.ctxList q h t f k) s (fun c =>
      Answered c q e rOK ((s.chip.listCtx h t f k).1 ++ [(s.chip.listCtx h t f k).2])) := by
  have harg : ¬(98 < h ∨ 383 < k ∨ 7 < t ∨ pondSize ≤ f) := by omega
  refine runs_report hs rfl (d := Taken s.chip q) (n := 4 * (s.chip.listCtx h t f k).1.length + 4) ?_ (Fr.refl _ _) hg
  simp [if_neg harg]

theorem runs_cacheStats (hg : s.chip.pond.grants = []) (hs : Startable s.chip q 0x0608#16 [0, 1] e) {f k : Nat} (hf : f < 512)
    (hk : k ≤ 24) :
    Runs (.cacheStats q f k) s (fun c => Answered c q e rOK ((((List.finRange 512).drop f).take k).flatMap (fun i =>
      [(s.chip.engines[i]).cache.length, (s.chip.engines[i]).spillsShown s.chip.msWindow]))) := by
  have harg : ¬(512 ≤ f ∨ 24 < k) := by omega
  refine runs_report hs rfl (d := Taken s.chip q) (n := 4 * (((List.finRange 512).drop f).take k).length) ?_ (Fr.refl _ _) hg
  simp [if_neg harg]

/-! ### QUOTA_SET -/

/-- The holder that QUOTA_SET names: the port's own, or 96 to 98 (R152). -/
def namesHolder (e : ReqEntry) (w : Nat) (h : Fin 99) : Prop :=
  (e.req.tgtKind = 1 ∧ h.val = e.req.tgtIndex) ∨ (e.req.tgtKind = 0 ∧ 96 ≤ w ∧ h.val = w)

theorem holder_of_namesHolder {w : Nat} {h : Fin 99} (hn : namesHolder e w h) :
    (if e.req.tgtKind = 1 then some (Fin.ofNat 99 e.req.tgtIndex)
      else if 96 ≤ w ∧ w ≤ 98 then some (Fin.ofNat 99 w) else none) = some h := by
  obtain ⟨hkind, hidx⟩ | ⟨hkind, hlo, hidx⟩ := hn
  · simp [hkind, ← hidx]
  · subst hidx
    have hin : 96 ≤ h.val ∧ h.val ≤ 98 := by omega
    simp [hkind, hin]

theorem runs_quotaSet (hc : Canon s.chip) (hg : s.chip.pond.grants = []) (hs : Startable s.chip q 0x0603#16 [0, 1] e)
    {h : Fin 99} {v w : Nat} (hn : namesHolder e w h) (hv : v ≤ pondSize)
    (hsum : s.chip.get .POND_QSUM F.POND_QSUM_SUM + v < 2 ^ 27) :
    Runs (.quotaSet q v w) s (fun c => Answered c q e rOK [s.chip.quota h, s.chip.used h] ∧ c.quota h = v ∧
      c.overQuota h = decide (v ≤ s.chip.used h) ∧
      c.get .POND_QSUM F.POND_QSUM_SUM = s.chip.get .POND_QSUM F.POND_QSUM_SUM + v - s.chip.quota h) := by
  have ht := canon_taken hc q
  have hquota := setQuota_quota ht h hv
  have hover := setQuota_overQuota ht h hv
  have hqsum := setQuota_sum ht h (v := v) (by simpa using hsum)
  simp only [taken_used, taken_quota, taken_get _ _ _ (show Reg.POND_QSUM ≠ .PWR_STATUS from nofun)] at hover hqsum
  refine runs_answered hs rfl (d := (Taken s.chip q).setQuota h v) (n := 8) ?_ (setQuota_fr _ h v) (by decide) ?_ ?_
  · simp only [holder_of_namesHolder hn, if_neg (Nat.not_lt.2 hv), taken_quota, taken_used]
  · rw [(setQuota_fr _ h v).kept.pond (by decide), taken_pond, hg]
  · intro c ha
    exact ⟨(get_of_answer_fr ha _ _).trans hquota, (bit_of_answer_fr ha _ _).trans hover, (get_of_answer_fr ha _ _).trans hqsum⟩

/-! ### POND_UNPOISON -/

/-- The pool with a poisoned CID back as FREE, before the pool events (R164). -/
def unpoisoned (c : Chip) (i : Nat) : Chip :=
  let d := c.setCtx i { gen := (c.ctx i).gen }
  let d := d.setF .POND_POISONED F.POND_POISONED_COUNT (d.get .POND_POISONED F.POND_POISONED_COUNT - 1)
  d.setF .POND_FREE F.POND_FREE_FREE (d.pFree + 1)

theorem unpoisoned_fr (c : Chip) (i : Nat) : Fr frBody c (unpoisoned c i) :=
  Chip.setF_fr (Chip.setF_fr (Chip.setCtx_fr (Fr.refl _ _) (by decide)) rfl) rfl

theorem unpoisoned_pond (c : Chip) (i : Nat) : (unpoisoned c i).pond = (c.setCtx i { gen := (c.ctx i).gen }).pond := rfl

theorem unpoisoned_ctx (c : Chip) (i : Nat) : (unpoisoned c i).ctx i = { gen := (c.ctx i).gen } :=
  ctx_setCtx_same c i { gen := (c.ctx i).gen }

theorem unpoisoned_pFree {c : Chip} (hc : Canon c) (i : Nat) (h : c.pFree < pondSize) :
    (unpoisoned c i).pFree = c.pFree + 1 := by
  have hlt : c.pFree + 1 < 2 ^ 21 := lt_of_le_of_lt h (by decide)
  rw [Chip.pFree, unpoisoned, get_setF_same _ (canon_setF (canon_setCtx hc _ _) _ _ _) _ _ _ (by decide), Chip.pFree,
    get_setF_other _ _ _ _ (by simp), setCtx_get, ← Chip.pFree]
  exact Nat.mod_eq_of_lt hlt

theorem unpoisoned_count {c : Chip} (hc : Canon c) (i : Nat) :
    (unpoisoned c i).get .POND_POISONED F.POND_POISONED_COUNT = c.get .POND_POISONED F.POND_POISONED_COUNT - 1 := by
  have hlt : c.get .POND_POISONED F.POND_POISONED_COUNT < 2 ^ 21 := BitVec.isLt _
  rw [unpoisoned, get_setF_other _ _ _ _ (by simp), get_setF_same _ (canon_setCtx hc _ _) _ _ _ (by decide)]
  exact Nat.mod_eq_of_lt (lt_of_le_of_lt (Nat.sub_le _ _) hlt)

theorem runs_pondUnpoison_pass (hc : Canon s.chip) (hg : s.chip.pond.grants = []) (hs : Startable s.chip q 0x0606#16 [0, 1] e)
    {i : Nat} (hi : i < pondSize) (hp : (s.chip.ctx i).poisoned = true) (hw : s.chip.pond.waiters = [])
    (hf : s.chip.pFree < pondSize) :
    Runs (.pondUnpoison q i true) s (fun c => Answered c q e rOK [] ∧ c.ctx i = { gen := (s.chip.ctx i).gen } ∧
      c.pFree = s.chip.pFree + 1 ∧
      c.get .POND_POISONED F.POND_POISONED_COUNT = s.chip.get .POND_POISONED F.POND_POISONED_COUNT - 1) := by
  have ht := canon_taken hc q
  have hctx := unpoisoned_ctx (Taken s.chip q) i
  have hfree := unpoisoned_pFree ht i (by simpa using hf)
  have hcount := unpoisoned_count ht i
  have hreserve : (unpoisoned (Taken s.chip q) i).reserveFreed = unpoisoned (Taken s.chip q) i :=
    reserveFreed_of_waiters_nil (by rw [unpoisoned_pond, setCtx_waiters, taken_pond, hw])
  have harg : ¬(pondSize ≤ i ∨ (!((Taken s.chip q).ctx i).poisoned) = true) := by simp [hp, hi]
  refine runs_answered hs rfl (d := (unpoisoned (Taken s.chip q) i).poolEvents) (n := 0) (f := frBody) ?_
    (Chip.poolEvents_fr (unpoisoned_fr _ i) (by decide) (by decide) (by decide) rfl) (by decide) ?_ ?_
  · rw [← hreserve]
    exact if_neg harg
  · rw [poolEvents_grants, unpoisoned_pond, setCtx_grants, taken_pond, hg]
  · intro c ha
    refine ⟨?_, ?_, ?_⟩
    · rw [Chip.ctx, pond_of_answer_fr ha, ← Chip.ctx, poolEvents_ctx, hctx, taken_ctx]
    · rw [Chip.pFree, get_of_answer_fr ha, poolEvents_get _ _ (by simp), ← Chip.pFree, hfree, taken_pFree]
    · rw [get_of_answer_fr ha, poolEvents_get _ _ (by simp), hcount, taken_get _ _ _ (by simp)]

/-- A CID that fails a pattern stays poisoned (R164). -/
theorem runs_pondUnpoison_fail (hg : s.chip.pond.grants = []) (hs : Startable s.chip q 0x0606#16 [0, 1] e) {i : Nat}
    (hi : i < pondSize) (hp : (s.chip.ctx i).poisoned = true) :
    Runs (.pondUnpoison q i false) s (fun c => Answered c q e rLOCKED [] ∧ c.pond = s.chip.pond) := by
  refine runs_answered hs rfl (d := Taken s.chip q) (n := 0) ?_ (Fr.refl frNone _) (by decide) (by rw [taken_pond, hg]) ?_
  · simp [hp, Nat.not_le.2 hi]
  · intro c ha
    rw [pond_of_answer_fr ha, taken_pond]

/-! ### SCRUB_SET and LOW_MARK_SET -/

/-- The word of POND_SCRUB that SCRUB_SET writes. -/
def scrubWord (en : Bool) (interval : BitVec 16) : Word :=
  fset (fset 0#32 F.POND_SCRUB_EN (bitOf en)) F.POND_SCRUB_INTERVAL interval.toNat

theorem scrubWord_en (en : Bool) (v : BitVec 16) : fget (scrubWord en v) F.POND_SCRUB_EN = bitOf en := by
  rw [scrubWord, fget_fset_other _ _ _ _ (by decide) (by decide) (by decide), fget_fset_same _ _ _ (by decide)]
  cases en <;> rfl

theorem scrubWord_interval (en : Bool) (v : BitVec 16) : fget (scrubWord en v) F.POND_SCRUB_INTERVAL = v.toNat := by
  rw [scrubWord, fget_fset_same _ _ _ (by decide)]
  exact Nat.mod_eq_of_lt v.isLt

theorem runs_scrubSet (hc : Canon s.chip) (hg : s.chip.pond.grants = []) (hs : Startable s.chip q 0x0607#16 [0, 1] e)
    (hz : s.chip.frozen = false) (b : Bool) (v : BitVec 16) :
    Runs (.scrubSet q b v) s (fun c => Answered c q e rOK [] ∧ c.bit .POND_SCRUB F.POND_SCRUB_EN = b ∧
      c.get .POND_SCRUB F.POND_SCRUB_INTERVAL = max 100 v.toNat) := by
  have ht := canon_taken hc q
  have hen := (scrub_en_wrRW ht (scrubWord b v)).trans (scrubWord_en b v)
  have hint := scrub_interval_wrRW ht (scrubWord b v)
  have hfr := wrRW_fr (Taken s.chip q) .POND_SCRUB (scrubWord b v)
  refine runs_answered hs rfl (d := (Taken s.chip q).wrRW .POND_SCRUB (scrubWord b v)) (n := 0) ?_ hfr (by decide) ?_ ?_
  · simp [hz, scrubWord]
  · rw [hfr.kept.pond (by decide), taken_pond, hg]
  · intro c ha
    refine ⟨?_, ?_⟩
    · rw [bit_of_answer_fr ha, Chip.bit, hen]
      cases b <;> rfl
    · rw [get_of_answer_fr ha, hint, scrubWord_interval]

/-- The field of LOW_MARK_SET's word is its operand. -/
theorem lowMark_setWidth (v : BitVec 21) : fget (v.setWidth 32) F.POND_LOW_MARK_LOW_MARK = v.toNat := by
  have hlt := v.isLt
  simp only [fget, F.POND_LOW_MARK_LOW_MARK, BitVec.extractLsb'_toNat, BitVec.toNat_setWidth, Nat.shiftRight_zero]
  omega

theorem runs_lowMarkSet (hc : Canon s.chip) (hg : s.chip.pond.grants = []) (hs : Startable s.chip q 0x0609#16 [0, 1] e)
    (hz : s.chip.frozen = false) (v : BitVec 21) :
    Runs (.lowMarkSet q v) s (fun c => Answered c q e rOK [] ∧ c.get .POND_LOW_MARK F.POND_LOW_MARK_LOW_MARK = v.toNat) := by
  have hmark := lowMark_wrRW (canon_taken hc q) (v.setWidth 32)
  have hfr : Fr frBody (Taken s.chip q) ((Taken s.chip q).wrRW .POND_LOW_MARK (v.setWidth 32)) :=
    Chip.wrRW_fr (Fr.refl _ _) (by decide) rfl
  refine runs_answered hs rfl (d := ((Taken s.chip q).wrRW .POND_LOW_MARK (v.setWidth 32)).poolEvents) (n := 0) ?_
    (Chip.poolEvents_fr hfr (by decide) (by decide) (by decide) rfl) (by decide) ?_ ?_
  · simp [hz]
  · rw [poolEvents_grants, (wrRW_fr _ _ _).kept.pond (by decide), taken_pond, hg]
  · intro c ha
    rw [get_of_answer_fr ha, poolEvents_get _ _ (by simp), hmark, lowMark_setWidth]

end

/-- Settles O30, opcode by opcode. -/
theorem pondRequests : Obligations.PondRequests := by
  intro s hc hg q e
  refine ⟨?_, ?_, ?_, ?_, ?_, ?_, ?_, ?_, ?_, ?_⟩
  · exact runs_pondStatus hg
  · exact fun f k hs hf hk hk' => runs_quotaRead hg hs hf ⟨hk, hk'⟩
  · exact fun h v w hs hn hv hsum => runs_quotaSet hc hg hs hn hv hsum
  · exact fun i hs hi => runs_ctxRead hg hs hi
  · exact fun h t f k hs hh hk ht hf => runs_ctxList hg hs hh hk ht hf
  · exact fun i hs hi hp hw hf => runs_pondUnpoison_pass hc hg hs hi hp hw hf
  · exact fun i hs hi hp => runs_pondUnpoison_fail hg hs hi hp
  · exact fun b v hs hz => runs_scrubSet hc hg hs hz b v
  · exact fun f k hs hf hk => runs_cacheStats hg hs hf hk
  · exact fun v hs hz => runs_lowMarkSet hc hg hs hz v

end Sys2Proof.Proofs

namespace Sys2Proof.Proofs

open Sys2Proof.Machine Sys2Proof.Laws

/-! SUPPORT. Commands on the register paths (15 R310 to R315, 05 R112, R113): commands whose body may fault, bytes of a layout, a
frame sent on its lane. -/

/-! ### Commands whose body may fault (R15) -/

/-- A body without a fault that grants nothing is what the command does. -/
theorem runs_of_ok {s : State} {i : Instr} {body : Chip → Except Fault Chip} {d : Chip} {p : Chip → Prop}
    (hi : exec i s = s.runES body) (hb : body s.chip = .ok d) (hg : d.pond.grants = []) (hp : p d) : Runs i s p := by
  refine ⟨{ s with chip := d }, ?_, rfl, hp⟩
  rw [hi, State.runES, State.runE, hb]
  simp only [settle_of_grants_nil hg]

/-- A request that may start is taken and executed, where the body may fault. -/
theorem serveE_start {c : Chip} {q : ReqId} {op : BitVec 16} {e : ReqEntry} (hs : Startable c q op [0] e)
    (body : Chip → Except Fault Chip) : c.serveE q op body = body (Taken c q) := by
  have hkind : e.req.tgtKind = 0 := by simpa using hs.kind
  simp [Chip.serveE, hs.ready, hs.epochs, hs.target, hkind, Taken]

/-- A body that may fault and ends in an answer runs as one that cannot. -/
theorem runES_serveE_eq_runS_serve {s : State} {q : ReqId} {op : BitVec 16} {e : ReqEntry} {body : Chip → Except Fault Chip}
    {d : Chip} (hs : Startable s.chip q op [0] e) (hb : body (Taken s.chip q) = .ok d) :
    s.runES (fun c => c.serveE q op body) = s.runS (fun c => c.serve q op [0] (fun _ _ => d)) := by
  simp only [State.runES, State.runE, State.runS, State.run, serveE_start hs, hb, serve_start hs]

/-! ### Bytes of a layout -/

theorem bytesAt_length (l : List Byte) (off n : Nat) : (bytesAt l off n).length = n := by
  simp only [bytesAt, List.length_append, List.length_replicate, List.length_take]
  omega

theorem bytesAt_getElem (l : List Byte) (off n i : Nat) (h : i < (bytesAt l off n).length) :
    (bytesAt l off n)[i] = l[off + i]?.getD 0#8 := by
  have hi : i < n := bytesAt_length l off n ▸ h
  by_cases hl : off + i < l.length
  · have ht : i < ((l.drop off).take n).length := by simp only [List.length_take, List.length_drop]; omega
    simp [bytesAt, List.getElem_append_left ht, hl]
  · have ht : ((l.drop off).take n).length ≤ i := by simp only [List.length_take, List.length_drop]; omega
    simp [bytesAt, List.getElem_append_right ht, hl]

/-- Bytes within a part of a layout are the layout's own. -/
theorem bytesAt_bytesAt (l : List Byte) {base n off k : Nat} (h : off + k ≤ n) :
    bytesAt (bytesAt l base n) off k = bytesAt l (base + off) k := by
  refine List.ext_getElem (by simp only [bytesAt_length]) fun i hi _ => ?_
  rw [bytesAt_length] at hi
  have hin : off + i < (bytesAt l base n).length := by rw [bytesAt_length]; omega
  simp only [bytesAt_getElem, List.getElem?_eq_getElem hin, Option.getD_some, Nat.add_assoc]

theorem leAt_bytesAt (l : List Byte) {base n off k : Nat} (h : off + k ≤ n) :
    leAt (bytesAt l base n) off k = leAt l (base + off) k := by
  rw [leAt, bytesAt_bytesAt l h, leAt]

/-- STATUS, the second byte of a response of the register window (R112), reads as put there. -/
theorem leAt_status (b rest : List Byte) {st : Nat} (h : st < 256) :
    leAt (bytesAt b 0 1 ++ (leBytes 1 st ++ rest)) 1 1 = st := by
  obtain ⟨x, hx⟩ := List.length_eq_one_iff.1 (bytesAt_length b 0 1)
  rw [hx]
  simp [leAt, bytesAt, leBytes, leVal, Nat.mod_eq_of_lt h]

/-! ### A frame on its lane (R107, R114, R115) -/

/-- Taking a SEQ touches only the transmit spaces. -/
theorem takeSeq_trunk (t : Trunk) (cls id : Nat) : ∃ tx, (t.takeSeq cls id).2 = { t with tx := tx } := by
  unfold Trunk.takeSeq
  split
  · exact ⟨_, rfl⟩
  · exact ⟨_, rfl⟩

/-- A frame that goes out heads the lane's transmit history. -/
theorem emit_head (c : Chip) (l : LaneId) (f : TxFrame) :
    ((c.emit l f).trunk.lanes[l]).hist.head?.map (fun h => (h.2.typ, h.2.length, h.2.body)) =
      some (f.typ, f.length, f.body) := by
  rw [Chip.emit, updLane_same]
  rfl

/-- A frame with a lane and a destination goes out on that lane, and the registers stay. -/
theorem sendFrame_on_lane {c : Chip} {typ id flags length : Nat} {epoch : BitVec 16} {body : TxBody} {l : LaneId}
    (hs : c.spills = false) (hl : c.laneOf (ttpClass typ) id = some l) (hd : c.hasDest l = true) :
    (∀ r, (c.sendFrame typ id flags epoch length body).rd r = c.rd r) ∧
      (((c.sendFrame typ id flags epoch length body).trunk.lanes[l]).hist.head?.map
        (fun h => (h.2.typ, h.2.length, h.2.body))) = some (typ, length, body) := by
  obtain ⟨tx, htx⟩ := takeSeq_trunk c.trunk (ttpClass typ) id
  have hs' : (c.updTrunk (fun _ => { c.trunk with tx := tx })).spills = false := hs
  have hl' : (c.updTrunk (fun _ => { c.trunk with tx := tx })).laneOf (ttpClass typ) id = some l := hl
  have hd' : (c.updTrunk (fun _ => { c.trunk with tx := tx })).hasDest l = true := hd
  have hemit : c.sendFrame typ id flags epoch length body =
      (c.updTrunk (fun _ => { c.trunk with tx := tx })).emit l
        { typ := typ, id := id, seq := (c.trunk.takeSeq (ttpClass typ) id).1, epoch := epoch, flags := flags,
          length := length, body := body } := by
    simp [Chip.sendFrame, htx, hs', hl', hd']
  rw [hemit]
  exact ⟨fun _ => rfl, emit_head _ _ _⟩

/-- What the end of the quiet interval changes (R328, R330). -/
def frActive : Frame := ⟨[.basins, .pwr], fun r => r == .PWR_STATUS⟩

theorem active_fr (c : Chip) : Fr frActive c c.active := Chip.active_fr (Fr.refl _ _) (by decide) (by decide) rfl

@[simp] theorem active_trunk (c : Chip) : c.active.trunk = c.trunk := (active_fr c).kept.trunk (by decide)
@[simp] theorem active_pond (c : Chip) : c.active.pond = c.pond := (active_fr c).kept.pond (by decide)
@[simp] theorem active_rd (c : Chip) {r : Reg} (h : r ≠ .PWR_STATUS) : c.active.rd r = c.rd r :=
  (active_fr c).kept.regs r (by simpa [frActive] using h)
@[simp] theorem active_get (c : Chip) {r : Reg} (f : Field) (h : r ≠ .PWR_STATUS) : c.active.get r f = c.get r f := by
  rw [Chip.get, Chip.get, active_rd c h]
@[simp] theorem active_bit (c : Chip) {r : Reg} (f : Field) (h : r ≠ .PWR_STATUS) : c.active.bit r f = c.bit r f := by
  rw [Chip.bit, Chip.bit, active_get c f h]
@[simp] theorem active_bitAt (c : Chip) {r : Reg} (f : Field) (i : Nat) (h : r ≠ .PWR_STATUS) :
    c.active.bitAt r f i = c.bitAt r f i := by rw [Chip.bitAt, Chip.bitAt, active_rd c h]

@[simp] theorem active_spills (c : Chip) : c.active.spills = c.spills := by simp [Chip.spills, Chip.inTarn]
@[simp] theorem active_laneOf (c : Chip) (cls id : Nat) : c.active.laneOf cls id = c.laneOf cls id := by
  simp [Chip.laneOf, Chip.pair, Chip.active?, Chip.up, Chip.inService, Chip.degraded]
@[simp] theorem active_hasDest (c : Chip) (l : LaneId) : c.active.hasDest l = c.hasDest l := by
  simp [Chip.hasDest, Chip.peerMac]

end Sys2Proof.Proofs

namespace Sys2Proof.Proofs

open Sys2Proof.Machine Sys2Proof.Laws

/-! Accesses to an unmapped address (15 R310), path by path. -/

/-- Neither a register (R309) nor a word of the bit region (R313) stands at the address. -/
def Unmapped (a : Nat) : Prop := Reg.ofAddr a = none ∧ aliasBit a = none

section

variable {a : Nat}

/-! ### The fabric -/

theorem fabRead_unmapped (ha : Unmapped a) (c : Chip) : c.fabRead a = (⟨0#32, fsUNMAPPED⟩, c) := by
  simp [Chip.fabRead, ha.1, ha.2]

theorem fabWrite_unmapped (ha : Unmapped a) (c : Chip) (p : RegPath) (win : Bool) (v : Word) :
    c.fabWrite p win a v = .ok (fsUNMAPPED, c) := by
  simp [Chip.fabWrite, ha.1, ha.2]

/-! ### Paths that wait for the answer (R311) -/

theorem fabAnswer_answers (c : Chip) (p : RegPath) (x : FabAnswer) : (c.fabAnswer p x).fab.answers[p] = x := by
  simp [Chip.fabAnswer]

theorem pathRead_unmapped (ha : Unmapped a) {c : Chip} {p : RegPath} (hp : c.pathUp p = true) :
    c.pathRead p a = c.fabAnswer p ⟨0#32, fsUNMAPPED⟩ := by
  simp [Chip.pathRead, hp, fabRead_unmapped ha]

theorem pathWrite_unmapped (ha : Unmapped a) {c : Chip} {p : RegPath} (hp : c.pathUp p = true) (v : Word) :
    c.pathWrite p a v = .ok (c.fabAnswer p ⟨0#32, fsUNMAPPED⟩) := by
  simp [Chip.pathWrite, hp, fabWrite_unmapped ha]

/-- A command that only brings its path the answer "unmapped". -/
theorem runs_path_unmapped {s : State} {i : Instr} {body : Chip → Except Fault Chip} {p : RegPath}
    (hg : s.chip.pond.grants = []) (hi : exec i s = s.runES body)
    (hb : body s.chip = .ok (s.chip.fabAnswer p ⟨0#32, fsUNMAPPED⟩)) :
    Runs i s (fun c => c.fab.answers[p] = ⟨0#32, fsUNMAPPED⟩ ∧ ∀ r, c.rd r = s.chip.rd r) :=
  runs_of_ok hi hb hg ⟨fabAnswer_answers _ _ _, fun _ => rfl⟩

/-! ### The register window (R112, R113) -/

/-- The response to a read or write of an unmapped address (R112): STATUS 0x01, and nothing changed. -/
theorem regwinOp_unmapped (ha : Unmapped a) (c : Chip) {b : List Byte} (hb : leAt b 4 4 = a)
    (hop : leAt b 0 1 = 1 ∨ leAt b 0 1 = 2) : ∃ v : Word, c.regwinOp b =
      .ok (bytesAt b 0 1 ++ leBytes 1 fsUNMAPPED ++ leBytes 2 0 ++ leBytes 4 a ++ leBytes 4 v.toNat, c) := by
  obtain hread | hwrite := hop
  · exact ⟨0#32, by rw [Chip.regwinOp, hread, hb, fabRead_unmapped ha]; rfl⟩
  · exact ⟨BitVec.ofNat 32 (leAt b 8 4), by rw [Chip.regwinOp, hwrite, hb, fabWrite_unmapped ha]; rfl⟩

/-- The part as it serves the first REGWIN frame: taken from the lane, the quiet interval ended. -/
def regwinTaken (c : Chip) : Chip :=
  (c.updTrunk (fun t => { t with delivered := dropFirst (fun y => y.2.typ.toNat == ttREGWIN) t.delivered })).active

theorem regwinTaken_rd (c : Chip) {r : Reg} (h : r ≠ .PWR_STATUS) : (regwinTaken c).rd r = c.rd r := by
  simp [regwinTaken, h]

theorem regwinTaken_grants (c : Chip) : (regwinTaken c).pond.grants = c.pond.grants := by simp [regwinTaken]

theorem sendFrame_pond (c : Chip) (typ id flags length : Nat) (epoch : BitVec 16) (body : TxBody) :
    (c.sendFrame typ id flags epoch length body).pond = c.pond :=
  (Chip.sendFrame_fr (f := ⟨[.trunk], fun r => r == .TRK_SPILL⟩) (Fr.refl _ _) (by decide) rfl).kept.pond (by decide)

/-- A frame of one operation is answered with the frame of its response. -/
theorem exec_regwin_one {s : State} {l : LaneId} {f : RxFrame} {b : List Byte} {d : Chip} (hp : s.chip.pathUp 0 = true)
    (hf : s.chip.trunk.delivered.find? (fun x => x.2.typ.toNat == ttREGWIN) = some (l, f)) (hlen : f.length.toNat = 12)
    (hop : (regwinTaken s.chip).regwinOp (bytesAt f.payload 0 12) = .ok (b, d)) :
    exec .regwinFrameReceive s = s.runES (fun _ => .ok (d.sendFrame ttREGWIN 0 0 0#16 12 (.bytes b))) := by
  have hexec : exec .regwinFrameReceive s = execRegwinFrameReceive s := rfl
  unfold regwinTaken at hop
  simp [hexec, execRegwinFrameReceive, State.runES, State.runE, hp, Chip.takeDelivered, hf, hlen, Chip.regwinOps, hop]

theorem runs_regwin_unmapped (ha : Unmapped a) {s : State} (hg : s.chip.pond.grants = []) {l k : LaneId} {f : RxFrame}
    (hp : s.chip.pathUp 0 = true)
    (hf : s.chip.trunk.delivered.find? (fun x => x.2.typ.toNat == ttREGWIN) = some (l, f)) (hlen : f.length.toNat = 12)
    (haddr : leAt f.payload 4 4 = a) (hop : leAt f.payload 0 1 = 1 ∨ leAt f.payload 0 1 = 2)
    (hs : s.chip.spills = false) (hl : s.chip.laneOf 3 0 = some k) (hd : s.chip.hasDest k = true) :
    Runs .regwinFrameReceive s (fun c => (∀ r, r ≠ .PWR_STATUS → c.rd r = s.chip.rd r) ∧
      ∃ b, (c.trunk.lanes[k]).hist.head?.map (fun h => (h.2.typ, h.2.length, h.2.body)) = some (ttREGWIN, 12, .bytes b) ∧
        leAt b 1 1 = fsUNMAPPED) := by
  obtain ⟨v, hv⟩ := regwinOp_unmapped ha (regwinTaken s.chip) (b := bytesAt f.payload 0 12)
    (by rw [leAt_bytesAt _ (by decide), haddr]) (by rwa [leAt_bytesAt _ (by decide)])
  have hs' : (regwinTaken s.chip).spills = false := (active_spills _).trans hs
  have hl' : (regwinTaken s.chip).laneOf (ttpClass ttREGWIN) 0 = some k := (active_laneOf _ _ _).trans hl
  have hd' : (regwinTaken s.chip).hasDest k = true := (active_hasDest _ _).trans hd
  obtain ⟨hregs, hsent⟩ := sendFrame_on_lane (flags := 0) (length := 12) (epoch := 0#16) (body := .bytes _) hs' hl' hd'
  refine runs_of_ok (exec_regwin_one hp hf hlen hv) rfl ?_ ⟨fun r hr => ?_, _, hsent, ?_⟩
  · rw [sendFrame_pond, regwinTaken_grants, hg]
  · rw [hregs, regwinTaken_rd _ hr]
  · simpa only [List.append_assoc] using leAt_status (bytesAt f.payload 0 12) _ (show fsUNMAPPED < 256 by decide)

/-! ### The 0x0Bxx opcodes (R145, R315) -/

theorem readWords_unmapped (ha : Unmapped a) (c : Chip) {k : Nat} (hk : k ≠ 0) : c.readWords k a = ([], false, c) := by
  obtain ⟨n, rfl⟩ := Nat.exists_eq_succ_of_ne_zero hk
  simp [Chip.readWords, fabRead_unmapped ha, fsUNMAPPED, fsDONE]

theorem fwWord_unmapped (ha : Unmapped a) (c : Chip) (v : Word) : c.fwWord a v = .ok (fsUNMAPPED, c) := by
  simp [Chip.fwWord, fabWrite_unmapped ha, fsUNMAPPED, fsDONE]

theorem writeAnswer_unmapped (ha : Unmapped a) (c : Chip) (q : ReqId) (v : Word) :
    c.writeAnswer q a v = .ok (c.answer q rBAD_ARG [0] 1) := by
  simp [Chip.writeAnswer, fwWord_unmapped ha, regResult, fsUNMAPPED, fsDONE]

/-- The word 0xC3A5 unlocks the path, and touches nothing outside the fabric (R314, R315). -/
theorem keyWrite_key_fr (c : Chip) (p : RegPath) : Fr ⟨[.fab], noReg⟩ c (c.keyWrite p 0xC3A5#32) := by
  have hkey : fget 0xC3A5#32 F.KEY_UNLOCK_KEY = 0xC3A5 := by decide
  rw [Chip.keyWrite, if_pos hkey]
  exact Chip.updFab_fr (Fr.refl _ _) (by decide)

variable {s : State} {q : ReqId} {e : ReqEntry}

theorem runs_regRead_unmapped (ha : Unmapped a) (hg : s.chip.pond.grants = []) (hs : Startable s.chip q 0x0B01#16 [0] e)
    {k : Nat} (hk : k ≠ 0) (hk' : k ≤ 12) : Runs (.regRead q a k) s (fun c => Answered c q e rBAD_ARG [0]) := by
  have harg : ¬(k = 0 ∨ 12 < k) := by omega
  refine runs_report hs rfl (d := Taken s.chip q) (n := 1) ?_ (Fr.refl _ _) hg
  simp [if_neg harg, readWords_unmapped ha _ hk]

/-- A write opcode that touches no more than the fabric before it answers BAD_ARG with no word completed. -/
theorem runs_write_badArg {i : Instr} {op : BitVec 16} {body : Chip → Except Fault Chip} {d : Chip}
    (hg : s.chip.pond.grants = []) (hs : Startable s.chip q op [0] e)
    (hi : exec i s = s.runES (fun c => c.serveE q op body))
    (hb : body (Taken s.chip q) = .ok (d.answer q rBAD_ARG [0] 1)) (hf : Fr ⟨[.fab], noReg⟩ (Taken s.chip q) d) :
    Runs i s (fun c => Answered c q e rBAD_ARG [0] ∧ ∀ r, r ≠ .PWR_STATUS → c.rd r = s.chip.rd r) := by
  refine runs_answered hs (hi.trans (runES_serveE_eq_runS_serve hs hb)) rfl hf (by decide) ?_ fun c hc r hr => ?_
  · rw [hf.kept.pond (by decide), taken_pond, hg]
  · rw [hc.kept.regs r rfl, hf.kept.regs r rfl, taken_rd _ _ hr]

theorem runs_regWrite_unmapped (ha : Unmapped a) (hg : s.chip.pond.grants = []) (hs : Startable s.chip q 0x0B02#16 [0] e)
    (v : Word) : Runs (.regWrite q a [v]) s
      (fun c => Answered c q e rBAD_ARG [0] ∧ ∀ r, r ≠ .PWR_STATUS → c.rd r = s.chip.rd r) := by
  refine runs_write_badArg (d := Taken s.chip q) hg hs rfl ?_ (Fr.refl _ _)
  simp [Chip.writeWords, fwWord_unmapped ha, regResult, fsUNMAPPED, fsDONE]

theorem runs_regModify_unmapped (ha : Unmapped a) (hg : s.chip.pond.grants = []) (hs : Startable s.chip q 0x0B03#16 [0] e)
    (m v : Word) : Runs (.regModify q a m v) s
      (fun c => Answered c q e rBAD_ARG [0] ∧ ∀ r, r ≠ .PWR_STATUS → c.rd r = s.chip.rd r) := by
  refine runs_write_badArg (d := Taken s.chip q) hg hs rfl ?_ (Fr.refl _ _)
  simp [fabRead_unmapped ha, fsUNMAPPED, fsDONE]

theorem runs_regKeyedWrite_unmapped (ha : Unmapped a) (hg : s.chip.pond.grants = [])
    (hs : Startable s.chip q 0x0B04#16 [0] e) (v : Word) : Runs (.regKeyedWrite q a v) s
      (fun c => Answered c q e rBAD_ARG [0] ∧ ∀ r, r ≠ .PWR_STATUS → c.rd r = s.chip.rd r) :=
  runs_write_badArg hg hs rfl (writeAnswer_unmapped ha _ q v) (keyWrite_key_fr _ 1)

end

/-- Settles O53: the fabric answers an unmapped address alike for a read and a write, and each path passes that answer on. -/
theorem unmappedAccesses : Obligations.UnmappedAccesses := by
  intro s _ hg a hreg halias
  have ha : Unmapped a := ⟨hreg, halias⟩
  refine ⟨fabRead_unmapped ha s.chip, ?_, ?_, ?_, ?_, ?_, ?_, ?_⟩
  · exact fun p v hp => runs_path_unmapped (body := fun c => c.pathWrite p a v) hg rfl (pathWrite_unmapped ha hp v)
  · rintro (_ | _) v hp
    · exact runs_path_unmapped (body := fun c => .ok (c.pathRead 2 a)) hg rfl (congrArg Except.ok (pathRead_unmapped ha hp))
    · exact runs_path_unmapped (body := fun c => c.pathWrite 2 a v) hg rfl (pathWrite_unmapped ha hp v)
  · exact fun l f k hp hf hlen haddr hop hs hl hd => runs_regwin_unmapped ha hg hp hf hlen haddr hop hs hl hd
  · exact fun q e k hs hk hk' => runs_regRead_unmapped ha hg hs hk hk'
  · exact fun q e v hs => runs_regWrite_unmapped ha hg hs v
  · exact fun q e m v hs => runs_regModify_unmapped ha hg hs m v
  · exact fun q e v hs => runs_regKeyedWrite_unmapped ha hg hs v

end Sys2Proof.Proofs

namespace Sys2Proof.Proofs

open Sys2Proof.Machine Sys2Proof.Laws

/-! SUPPORT. What every command keeps: everything outside its frame, the canonical forms, the queue. The frame of each operation that
a command's meaning is made of is a law of Laws/Frame*.lean. A group of commands is settled branch by branch: the meaning is taken
apart into its operations, the law of each operation applies, and what is left is that the command's frame names a part or register. -/

/-- A command, where it answers a next state, keeps everything outside its frame, the canonical forms, and the queue. -/
def KeepsFrame (i : Instr) : Prop := ∀ s t, exec i s = .next t → Fr (frameOf i) s.chip t.chip ∧ t.pending = s.pending

theorem mem_parts {f : Frame} {p : Part} (h : f.parts.contains p = true) : p ∈ f.parts := by simpa using h

/-! ### Commands that take a delivered frame -/

theorem takeDelivered_ite_fr {f : Frame} {a c d : Chip} {p : Prop} [Decidable p] {g : LaneId → RxFrame → Bool}
    {y : LaneId × RxFrame} (e : (if p then c.takeDelivered g else none) = some (y, d)) (h : Fr f a c)
    (ht : Part.trunk ∈ f.parts) : Fr f a d := by
  split at e
  · exact Chip.takeDelivered_fr e h ht
  · cases e

theorem frameConsumers_keep :
    (∀ d b, KeepsFrame (.mbxReqReceive d b)) ∧ (∀ x b, KeepsFrame (.streamFrameReceive x b)) ∧ (∀ l, KeepsFrame (.wakeFrameReceive l)) := by
  and_intros <;> intros <;> rintro s t ⟨⟩ <;> refine ⟨?_, rfl⟩
  all_goals repeat' first
    | exact mem_parts rfl | exact rfl | exact fun _ => rfl
    | with_reducible first
      | exact Fr.refl _ _ | assumption | apply Chip.settle_fr | apply Chip.accept_fr | apply Chip.crcInternal_fr | apply Chip.streamIn_fr
      | apply Chip.sendWakeAck_fr | apply Chip.frameErr_fr | apply takeDelivered_ite_fr ‹_›
    | intro _ | dsimp only | split

/-! ### Door records -/

theorem mbxRspSend_keeps (d : Door) : KeepsFrame (.mbxRspSend d) := by
  rintro s t ⟨⟩
  refine ⟨?_, rfl⟩
  dsimp only
  split
  · exact Fr.refl _ _
  · exact Chip.updDoorReqs_fr (Chip.sendFrame_fr (Fr.refl _ _) (mem_parts rfl) rfl) (mem_parts rfl) (mem_parts rfl)

theorem culletRead_keeps (q : ReqId) (w n : Nat) : KeepsFrame (.culletRead q w n) := by
  rintro s t ⟨⟩
  refine ⟨?_, rfl⟩
  dsimp only
  refine Chip.serve_fr (f := frameOf (.culletRead q w n)) (Fr.refl _ _) (fun e c hc => ?_) (mem_parts rfl) (mem_parts rfl)
    (mem_parts rfl) (mem_parts rfl) (mem_parts rfl) (mem_parts rfl) (mem_parts rfl) rfl
  have hans {x : Chip} {r : Nat} {l : List Nat} {k : Nat} (hx : Fr (frameOf (.culletRead q w n)) s.chip x) :
      Fr (frameOf (.culletRead q w n)) s.chip (x.answer q r l k) :=
    Chip.answer_fr hx (mem_parts rfl) (mem_parts rfl) (mem_parts rfl) (mem_parts rfl)
  split
  · exact hans hc
  · apply hans
    split
    · exact Chip.updDoor_fr hc (mem_parts rfl) fun _ => ⟨rfl, rfl, rfl⟩
    · exact hc.cullet (mem_parts rfl) _

/-! ### The service port -/

theorem svcPort_keep : (∀ r, KeepsFrame (.svcStandardRequest r)) ∧ KeepsFrame .svcBusSuspend ∧ KeepsFrame .svcPortRemoteWake ∧
    KeepsFrame .svcHostResumeK := by
  have hset {f : Frame} (hf : Part.svcPort ∈ f.parts) (c : Chip) (p : SvcPort) : Fr f c { c with svcPort := p } :=
    (Fr.refl f c).svcPort hf p
  refine ⟨fun r => ?_, ?_, ?_, ?_⟩ <;> rintro s t ⟨⟩ <;> refine ⟨?_, rfl⟩ <;> dsimp only
  · cases r <;> dsimp only <;> repeat' first | exact hset (mem_parts rfl) _ _ | exact Fr.refl _ _ | split
  · split
    · exact Fr.refl _ _
    · exact hset (mem_parts rfl) _ _
  · split
    · exact hset (mem_parts rfl) _ _
    · exact Fr.refl _ _
  · split
    · exact Fr.refl _ _
    · split
      · exact Chip.post_fr (hset (mem_parts rfl) _ _) (mem_parts rfl)
      · exact hset (mem_parts rfl) _ _

theorem remoteWakeK_keeps (n : Port) : KeepsFrame (.remoteWakeK n) := by
  rintro s t ⟨⟩
  refine ⟨?_, rfl⟩
  repeat' first
    | exact mem_parts rfl | exact rfl | exact fun _ => rfl
    | with_reducible first
      | exact Fr.refl _ _ | assumption | apply Chip.settle_fr | apply Chip.pulse_fr | apply Chip.remoteWake_fr
    | exact fun _ h => h | dsimp only | split

theorem recoveryWindowEnd_keeps (l i : Nat) : KeepsFrame (.recoveryWindowEnd l i) := by
  rintro s t ⟨⟩
  refine ⟨?_, rfl⟩
  have hw (p : Prop) [Decidable p] (w : List LadderWin) :
      Fr (frameOf (.recoveryWindowEnd l i)) s.chip (if p then s.chip else { s.chip with ladders := w }) := by
    split
    · exact Fr.refl _ _
    · exact (Fr.refl _ _).ladders (mem_parts rfl) w
  dsimp only
  split
  · split
    · exact Chip.updFl_fr (hw _ _) (mem_parts rfl)
    · exact hw _ _
  · exact Chip.updPond_fr (hw _ _) (mem_parts rfl)
  · exact hw _ _

/-! ### Bead blocks -/

theorem beadCommitEnd_keeps (v : Bool) : KeepsFrame (.beadCommitEnd v) := by
  rintro s t ⟨⟩
  refine ⟨?_, rfl⟩
  dsimp only
  split
  · exact Fr.refl _ _
  · next x _ =>
    have hput : Fr (frameOf (.beadCommitEnd v)) s.chip (s.chip.updBead fun b => b.putBlock x.block x.data) :=
      (Fr.refl _ _).beadBlocks (mem_parts rfl) _ (mem_parts rfl) rfl (blocksOk_putBlock _ _ _)
    refine Chip.hsNext_fr (Chip.commitAnswer_fr (Chip.updBead_fr ?_ (mem_parts rfl) fun _ => ⟨rfl, rfl⟩) (mem_parts rfl) (mem_parts rfl)
      (mem_parts rfl) (mem_parts rfl) (mem_parts rfl) (mem_parts rfl)) (mem_parts rfl) rfl
    split
    · exact hput
    · exact Chip.post_fr (Fr.refl _ _) (mem_parts rfl)

theorem lockBlock_keeps (m : BeadMode) (b : Nat) : KeepsFrame (.lockBlock m b) := by
  rintro s t ⟨⟩
  refine ⟨?_, rfl⟩
  dsimp only
  refine Chip.asField_fr (f := frameOf (.lockBlock m b)) (Fr.refl _ _) (fun c hc => ?_) (mem_parts rfl)
  have herr (k : Nat) : Fr (frameOf (.lockBlock m b)) s.chip (c.fieldErr k) := Chip.fieldErr_fr hc (mem_parts rfl) rfl
  repeat' split
  · exact herr _
  · exact herr _
  · exact herr _
  · exact herr _
  · exact Chip.toField_fr (hc.beadLocked (mem_parts rfl) _ (mem_parts rfl) rfl) (mem_parts rfl)

/-! ### Register accesses that may fault -/

theorem keepsFrame_of_runE {i : Instr} {g : Chip → Except Fault Chip} (hi : ∀ s, exec i s = s.runE g)
    (h : ∀ c d, g c = .ok d → Fr (frameOf i) c d) : KeepsFrame i := by
  intro s t ht
  rw [hi, State.runE] at ht
  split at ht
  · next d hd =>
    cases ht
    exact ⟨h _ _ hd, rfl⟩
  · cases ht

theorem settle_frWrite {a c : Chip} (h : Fr frWrite a c) : Fr frWrite a c.settle := by
  apply Chip.settle_fr h <;> first | exact mem_parts rfl | exact fun _ => rfl | exact rfl

/-- The same with the granted waiters served, in the frame of a register write. -/
theorem keepsFrame_of_runES {i : Instr} {g : Chip → Except Fault Chip} (hi : ∀ s, exec i s = s.runES g) (hf : frameOf i = frWrite)
    (h : ∀ c d, g c = .ok d → Fr frWrite c d) : KeepsFrame i := by
  refine keepsFrame_of_runE hi fun c d hd => ?_
  split at hd
  · next x hx =>
    cases hd
    exact hf ▸ settle_frWrite (h _ _ hx)
  · cases hd

theorem pathWrite_frWrite {a c d : Chip} {p : RegPath} {x : Nat} {v : Word} (e : c.pathWrite p x v = .ok d) (h : Fr frWrite a c) :
    Fr frWrite a d := by
  apply Chip.pathWrite_fr e h <;> first | exact mem_parts rfl | exact fun _ => rfl

theorem pathRead_frWrite (c : Chip) (p : RegPath) (x : Nat) : Fr frWrite c (c.pathRead p x) :=
  Chip.pathRead_fr (Fr.refl _ _) (mem_parts rfl) (fun _ => rfl) rfl

/-- Taking an opcode's request, and answering it, stay within the frame of a register write. -/
theorem serveE_frWrite {c d : Chip} {q : ReqId} {op : BitVec 16} {g : Chip → Except Fault Chip} (e : c.serveE q op g = .ok d)
    (h : ∀ x y, g x = .ok y → Fr frWrite c x → Fr frWrite c y) : Fr frWrite c d := by
  apply Chip.serveE_fr e (Fr.refl _ _) h <;> first | exact mem_parts rfl | exact rfl

theorem answer_frWrite {a c : Chip} (h : Fr frWrite a c) (q : ReqId) (r : Nat) (l : List Nat) (n : Nat) :
    Fr frWrite a (c.answer q r l n) :=
  Chip.answer_fr h (mem_parts rfl) (mem_parts rfl) (mem_parts rfl) (mem_parts rfl)

theorem writeAnswer_frWrite {a c d : Chip} {q : ReqId} {x : Nat} {v : Word} (e : c.writeAnswer q x v = .ok d)
    (h : Fr frWrite a c) : Fr frWrite a d := by
  apply Chip.writeAnswer_fr e h <;> first | exact mem_parts rfl | exact fun _ => rfl

theorem keepsFrame_of_pathWrite {i : Instr} (p : RegPath) (x : Nat) (v : Chip → Word)
    (hi : ∀ s, exec i s = s.runES fun c => c.pathWrite p x (v c)) (hf : frameOf i = frWrite) : KeepsFrame i :=
  keepsFrame_of_runES hi hf fun _ _ e => pathWrite_frWrite e (Fr.refl _ _)

theorem clockWrites_keep : (∀ p v, KeepsFrame (.bootOkWrite p v)) ∧ (∀ p v, KeepsFrame (.clkCtlPllEn p v)) ∧
    (∀ p v, KeepsFrame (.clkCtlSysSel p v)) ∧ (∀ p v, KeepsFrame (.clkCtlRefEn p v)) := by
  have hw (r : Reg) (p : RegPath) (v : Word) (c d : Chip) (e : c.pathWrite p r.addr v = .ok d) : Fr frWrite c d :=
    pathWrite_frWrite e (Fr.refl _ _)
  exact ⟨fun p v => keepsFrame_of_runE (fun _ => rfl) (hw .BOOT_CTL p v), fun p v => keepsFrame_of_runE (fun _ => rfl) (hw .CLK_CTL p v),
    fun p v => keepsFrame_of_runE (fun _ => rfl) (hw .CLK_CTL p v), fun p v => keepsFrame_of_runE (fun _ => rfl) (hw .CLK_CTL p v)⟩

theorem registerWrites_keep :
    (∀ p v, KeepsFrame (.leaseWrite p v)) ∧ (∀ p v, KeepsFrame (.keyUnlockWrite p v)) ∧
    (∀ p x v, KeepsFrame (.registerWrite p x v)) ∧ (∀ p x v, KeepsFrame (.aliasWrite p x v)) ∧
    (∀ p x v, KeepsFrame (.statusSeqClear p x v)) ∧ (∀ p h v, KeepsFrame (.holderQuotaWrite p h v)) ∧
    (∀ p n w v, KeepsFrame (.lineTimingRegWrite p n w v)) ∧ (∀ p v, KeepsFrame (.measExtGo p v)) ∧
    (∀ p v, KeepsFrame (.attCtlGo p v)) :=
  ⟨fun p v => keepsFrame_of_pathWrite p (Reg.MBX_CTL).addr (fun _ => v) (fun _ => rfl) rfl,
    fun p v => keepsFrame_of_pathWrite p (Reg.KEY_UNLOCK).addr (fun _ => v) (fun _ => rfl) rfl,
    fun p x v => keepsFrame_of_pathWrite p x (fun _ => v) (fun _ => rfl) rfl,
    fun p x v => keepsFrame_of_pathWrite p x (fun _ => v) (fun _ => rfl) rfl,
    fun p x v => keepsFrame_of_pathWrite p x (fun _ => v) (fun _ => rfl) rfl,
    fun p h v => keepsFrame_of_pathWrite p (Reg.HOLDER_QUOTA h).addr (fun _ => v) (fun _ => rfl) rfl,
    fun p n w v => keepsFrame_of_pathWrite p (timingReg n w).addr (fun _ => v) (fun _ => rfl) rfl,
    fun p v => keepsFrame_of_pathWrite p (Reg.MEAS_EXT_CTL).addr (fun _ => v) (fun _ => rfl) rfl,
    fun p v => keepsFrame_of_pathWrite p (Reg.ATT_CTL).addr (fun _ => v) (fun _ => rfl) rfl⟩

theorem xspiCommands_keep :
    (∀ p l, KeepsFrame (.xspiRead p l)) ∧ (∀ p l, KeepsFrame (.xspiProgram p l)) ∧ (∀ p, KeepsFrame (.xspiErase64k p)) ∧
    (∀ p, KeepsFrame (.xspiReadId p)) :=
  ⟨fun p l => keepsFrame_of_pathWrite p (Reg.XSPI_CMD).addr (·.xspiWord xoREAD l.toNat) (fun _ => rfl) rfl,
    fun p l => keepsFrame_of_pathWrite p (Reg.XSPI_CMD).addr (·.xspiWord xoPROGRAM l.toNat) (fun _ => rfl) rfl,
    fun p => keepsFrame_of_pathWrite p (Reg.XSPI_CMD).addr (fun c => c.xspiWord xoERASE (c.get .XSPI_CMD F.XSPI_CMD_LEN))
      (fun _ => rfl) rfl,
    fun p => keepsFrame_of_pathWrite p (Reg.XSPI_CMD).addr (fun c => c.xspiWord xoREAD_ID (c.get .XSPI_CMD F.XSPI_CMD_LEN))
      (fun _ => rfl) rfl⟩

/-- An access that writes or reads by a path. -/
theorem access_frWrite {c d : Chip} {w : Bool} {p : RegPath} {x : Nat} {v : Word}
    (e : (if w then c.pathWrite p x v else .ok (c.pathRead p x)) = .ok d) : Fr frWrite c d := by
  split at e
  · exact pathWrite_frWrite e (Fr.refl _ _)
  · cases e
    exact pathRead_frWrite c p x

theorem pathAccesses_keep :
    (∀ w x v, KeepsFrame (.svcVendorRequest w x v)) ∧ (∀ w x v, KeepsFrame (.jtagRegAccess w x v)) :=
  ⟨fun w x v => keepsFrame_of_runES (g := fun c => if w then c.pathWrite 2 x v else .ok (c.pathRead 2 x)) (fun _ => rfl) rfl
      fun _ _ => access_frWrite,
    fun w x v => keepsFrame_of_runES (g := fun c => if w then c.pathWrite 3 x v else .ok (c.pathRead 3 x)) (fun _ => rfl) rfl
      fun _ _ => access_frWrite⟩

theorem regRead_keeps (q : ReqId) (x n : Nat) : KeepsFrame (.regRead q x n) := by
  rintro s t ⟨⟩
  refine ⟨?_, rfl⟩
  have hwords {c : Chip} (h : Fr (frameOf (.regRead q x n)) s.chip c) :
      Fr (frameOf (.regRead q x n)) s.chip (Chip.readWords n x c).2.2 :=
    Chip.readWords_fr (l := (Chip.readWords n x c).1) (ok := (Chip.readWords n x c).2.1) rfl h (fun _ => rfl) rfl
  repeat' first
    | exact mem_parts rfl | exact rfl | exact fun _ => rfl
    | with_reducible first
      | exact Fr.refl _ _ | assumption | apply Chip.settle_fr | apply Chip.serve_fr | apply Chip.answer_fr | apply hwords
    | intro _ | dsimp only | split

theorem regWrite_keeps (q : ReqId) (x : Nat) (l : List Word) : KeepsFrame (.regWrite q x l) := by
  refine keepsFrame_of_runES (g := fun c => c.serveE q 0x0B02#16 fun c =>
    if l.length = 0 ∨ 10 < l.length then .ok (c.answer q rBAD_ARG)
    else match Chip.writeWords l x c with
      | .error e => .error e
      | .ok (n, st, c) => .ok (c.answer q (regResult st) [n] 1)) (fun _ => rfl) rfl fun c d e => serveE_frWrite e fun y z hz hy => ?_
  split at hz
  · cases hz
    exact answer_frWrite hy _ _ _ _
  · split at hz
    · cases hz
    · next hw =>
      cases hz
      refine answer_frWrite (a := c) ?_ _ _ _ _
      apply Chip.writeWords_fr hw hy <;> first | exact mem_parts rfl | exact fun _ => rfl

theorem regModify_keeps (q : ReqId) (x : Nat) (m v : Word) : KeepsFrame (.regModify q x m v) := by
  refine keepsFrame_of_runES (g := fun c => c.serveE q 0x0B03#16 fun c =>
    if (c.fabRead x).1.status ≠ fsDONE then .ok ((c.fabRead x).2.answer q rBAD_ARG [0] 1)
    else (c.fabRead x).2.writeAnswer q x (((c.fabRead x).1.value &&& ~~~m) ||| (v &&& m))) (fun _ => rfl) rfl
    fun c d e => serveE_frWrite e fun y z hz hy => ?_
  have hread : Fr frWrite c (y.fabRead x).2 := Chip.fabRead_fr2 hy (fun _ => rfl) rfl
  split at hz
  · cases hz
    exact answer_frWrite hread _ _ _ _
  · exact writeAnswer_frWrite hz hread

theorem regKeyedWrite_keeps (q : ReqId) (x : Nat) (v : Word) : KeepsFrame (.regKeyedWrite q x v) := by
  refine keepsFrame_of_runES (g := fun c => c.serveE q 0x0B04#16 fun c => (c.keyWrite 1 0xC3A5#32).writeAnswer q x v) (fun _ => rfl) rfl
    fun c d e => serveE_frWrite e fun y z hz hy => writeAnswer_frWrite hz ?_
  apply Chip.keyWrite_fr hy <;> first | exact mem_parts rfl | exact rfl

theorem regwinFrameReceive_keeps : KeepsFrame .regwinFrameReceive := by
  refine keepsFrame_of_runES (g := fun c =>
    match (if c.pathUp 0 then c.takeDelivered (fun _ f => f.typ.toNat == ttREGWIN) else none) with
    | none => .ok c
    | some ((_, f), c) =>
      match c.active.regwinOps ((List.range (f.length.toNat / 12)).map (fun i => bytesAt f.payload (12 * i) 12)) with
      | .error e => .error e
      | .ok (b, c) => .ok (c.sendFrame ttREGWIN 0 0 0#16 f.length.toNat (.bytes b))) (fun _ => rfl) rfl fun c d e => ?_
  split at e
  · cases e
    exact Fr.refl _ _
  · next ht =>
    split at e
    · cases e
    · next hops =>
      cases e
      have htaken := Chip.active_fr (takeDelivered_ite_fr ht (Fr.refl frWrite c) (mem_parts rfl)) (mem_parts rfl) (mem_parts rfl) rfl
      refine Chip.sendFrame_fr ?_ (mem_parts rfl) rfl
      apply Chip.regwinOps_fr hops htaken <;> first | exact mem_parts rfl | exact fun _ => rfl

/-! ### Supplies, boot, clocks and resets (03, 04) -/

theorem supplies_keep :
    KeepsFrame .vddAonPowerOn ∧ (∀ a, KeepsFrame (.supplyMonitorTrip a)) ∧ (∀ a, KeepsFrame (.supplyRecovered a)) := by
  and_intros <;> intros <;> rintro s t ⟨⟩ <;> refine ⟨?_, rfl⟩
  all_goals repeat' first
    | exact mem_parts rfl | exact rfl | exact fun _ => rfl
    | with_reducible first
      | exact Fr.refl _ _ | assumption | apply Chip.powerOn_fr | apply Chip.updClk_fr | apply Chip.setF_fr
      | apply Chip.deviceReset_fr | apply Chip.dieReset_fr | apply Chip.supplyLow_fr | apply Chip.srdsLost_fr
      | apply Chip.settle_fr | apply Chip.updFl_fr | apply Chip.mirrorCh_fr | apply Chip.post_fr
      | apply Chip.srdsBack_fr | apply Chip.bootWhenReady_fr | apply Fr.each
    | intro _ | dsimp only | split

theorem boot_keep :
    KeepsFrame .porstNLow ∧ (∀ a, KeepsFrame (.porstNRise a)) ∧ (∀ a b, KeepsFrame (.firmwareBoot a b)) ∧
    KeepsFrame .bootWatchdogExpiry := by
  and_intros <;> intros <;> rintro s t ⟨⟩ <;> refine ⟨?_, rfl⟩
  all_goals repeat' first
    | exact mem_parts rfl | exact rfl | exact fun _ => rfl
    | with_reducible first
      | exact Fr.refl _ _ | assumption | apply Chip.updClk_fr | apply Chip.deviceReset_fr | apply Chip.setF_fr
      | apply Chip.bootWhenReady_fr | apply Chip.firmwareBoot_fr | apply Chip.settle_fr | apply Chip.watchdogOvr_fr
    | intro _ | dsimp only | split

theorem referenceClocks_keep :
    (∀ a, KeepsFrame (.pllLock a)) ∧ KeepsFrame .pllLockTimeout ∧ KeepsFrame .refInQualified ∧
    KeepsFrame .refInLost ∧ KeepsFrame .crystalFailure ∧ KeepsFrame .crystalReturn ∧ KeepsFrame .pllRefSlewEnd ∧
    (∀ a, KeepsFrame (.pllUnlock a)) ∧ (∀ a, KeepsFrame (.pllRelock a)) := by
  and_intros <;> intros <;> rintro s t ⟨⟩ <;> refine ⟨?_, rfl⟩
  all_goals repeat' first
    | exact mem_parts rfl | exact rfl | exact fun _ => rfl
    | with_reducible first
      | exact Fr.refl _ _ | assumption | apply Chip.setStBit_fr | apply Chip.updClk_fr | apply Chip.updFw_fr
      | apply Chip.postFault_fr | apply Chip.bootReport_fr | apply Chip.setSt_fr | apply Chip.post_fr
      | apply Chip.settleUncert_fr | apply Chip.refSlew_fr | apply Chip.escalate_fr | apply Chip.bump_fr
      | apply Chip.degXtal_fr | apply Chip.record_fr | apply Chip.pllScope_fr | apply Chip.settle_fr
      | apply Chip.srdsBack_fr | apply Fr.wr
    | intro _ | dsimp only | split

theorem resetScopes_keep :
    (∀ a b, KeepsFrame (.portReset a b)) ∧ (∀ a b c d, KeepsFrame (.basinReset a b c d)) ∧
    (∀ a, KeepsFrame (.headspringReset a)) ∧ (∀ a b, KeepsFrame (.laneReset a b)) ∧
    (∀ a, KeepsFrame (.deviceReset a)) ∧ (∀ a, KeepsFrame (.resetDone a)) := by
  and_intros <;> intros <;> rintro s t ⟨⟩ <;> refine ⟨?_, rfl⟩
  all_goals repeat' first
    | exact mem_parts rfl | exact rfl | exact fun _ => rfl
    | with_reducible first
      | exact Fr.refl _ _ | assumption | apply Chip.askScope_fr | apply Chip.settle_fr | apply Chip.updBasin_fr
      | apply Chip.deviceReset_fr | apply Chip.serve_fr | apply Chip.endScope_fr
    | intro _ | dsimp only | split

/-! ### The trunk (05) -/

theorem trunkReceiving_keep :
    (∀ a b, KeepsFrame (.ttpFrameReceive a b)) ∧ (∀ a, KeepsFrame (.swapReqReceive a)) ∧
    (∀ a, KeepsFrame (.swapAckReceive a)) ∧ (∀ a, KeepsFrame (.echoReplyReceive a)) ∧
    (∀ a, KeepsFrame (.ptpSyncSend a)) ∧ (∀ a, KeepsFrame (.ptpAnnounceSend a)) ∧
    (∀ a b c d, KeepsFrame (.ptpDelayReqReceive a b c d)) ∧ (∀ a b, KeepsFrame (.ptpAnnounceReceive a b)) ∧
    KeepsFrame .echoSend := by
  and_intros <;> intros <;> rintro s t ⟨⟩ <;> refine ⟨?_, rfl⟩
  all_goals repeat' first
    | exact mem_parts rfl | exact rfl | exact fun _ => rfl
    | with_reducible first
      | exact Fr.refl _ _ | assumption | apply Chip.frameErr_fr | apply Chip.frameAsleep_fr
      | apply Chip.frameAwake_fr | apply Chip.takeLane_fr ‹_› | apply Chip.dropSwap_fr | apply Chip.sendLane_fr2
      | apply Chip.sendLane_fr ‹_› | apply Chip.swapRoles_fr | apply Chip.post_fr | apply Chip.swapDone_fr
      | apply Chip.swapDegraded_fr | apply Chip.endSwap_fr | apply Chip.answerOpt_fr | apply Chip.updLane_fr
      | apply Chip.degradeLane_fr | apply Chip.leaveTarn_fr | apply Chip.updTrunk_fr | apply Chip.sendPtp_fr
      | apply Chip.postRate_fr | apply Fr.each
    | intro _ | dsimp only | split

theorem lanes_keep :
    (∀ a, KeepsFrame (.laneUp a)) ∧ (∀ a b, KeepsFrame (.laneLossDeclared a b)) ∧ KeepsFrame .failoverComplete ∧
    (∀ a, KeepsFrame (.laneBackTimer a)) ∧ (∀ a b c, KeepsFrame (.laneDegradedWindow a b c)) ∧
    (∀ a, KeepsFrame (.laneHealthy a)) ∧ KeepsFrame .swapTimerExpiry ∧ (∀ a b, KeepsFrame (.reorderHoldExpiry a b)) := by
  and_intros <;> intros <;> rintro s t ⟨⟩ <;> refine ⟨?_, rfl⟩
  all_goals repeat' first
    | exact mem_parts rfl | exact rfl | exact fun _ => rfl
    | with_reducible first
      | exact Fr.refl _ _ | assumption | apply Chip.laneUp_fr | apply Chip.loseLane_fr | apply Chip.updTrunk_fr
      | apply Chip.emit_fr | apply Chip.updLane_fr | apply Chip.post_fr | apply Chip.sendLane_fr2
      | apply Chip.sendLane_fr ‹_› | apply Chip.swapDegraded_fr | apply Chip.degradeLane_fr | apply Chip.setDegr_fr
      | apply Chip.dropSwap_fr | apply Chip.skipRx_fr | apply Fr.each
    | intro _ | dsimp only | split

theorem trunkSending_keep :
    KeepsFrame .spillReplayEnd ∧ KeepsFrame .noLaneAfterDeep ∧ (∀ a, KeepsFrame (.eventFrameSend a)) ∧
    (∀ a, KeepsFrame (.streamFrameSend a)) ∧ (∀ a, KeepsFrame (.trunkStatus a)) ∧
    (∀ a b c d e, KeepsFrame (.ptpSet a b c d e)) ∧ (∀ a, KeepsFrame (.trunkSwap a)) := by
  and_intros <;> intros <;> rintro s t ⟨⟩ <;> refine ⟨?_, rfl⟩
  all_goals repeat' first
    | exact mem_parts rfl | exact rfl | exact fun _ => rfl
    | with_reducible first
      | exact Fr.refl _ _ | assumption | apply Chip.emit_fr | apply Chip.updTrunk_fr | apply Chip.syncSpill_fr
      | apply Chip.post_fr | apply Chip.postR_fr | apply Chip.enterTarn_fr | apply Chip.take_fr2
      | apply Chip.take_fr ‹_› | apply Chip.sendFrame_fr | apply Chip.updDoor_fr | apply Chip.updDoorReqs_fr
      | apply Chip.sendStrm_fr | apply Chip.reapStreams_fr | apply Chip.serve_fr | apply Chip.answer_fr
      | apply Chip.askSwap_fr | apply Fr.each | apply Fr.wr
    | exact fun _ => ⟨rfl, rfl, rfl⟩ | intro _ | dsimp only | split

/-! ### The doors (06) -/

theorem doorUpkeep_keep :
    (∀ a, KeepsFrame (.leaseExpiry a)) ∧ (∀ a b, KeepsFrame (.rateWindowEnd a b)) ∧
    (∀ a b, KeepsFrame (.svcPortRequest a b)) ∧ KeepsFrame .svcEventPoll := by
  and_intros <;> intros <;> rintro s t ⟨⟩ <;> refine ⟨?_, rfl⟩
  all_goals repeat' first
    | exact mem_parts rfl | exact rfl | exact fun _ => rfl
    | with_reducible first
      | exact Fr.refl _ _ | assumption | apply Chip.release_fr | apply Chip.rateEnd_fr | apply Chip.accept_fr
      | apply Chip.settle_fr | apply Chip.updDoor_fr | apply Chip.updDoorReqs_fr
    | exact fun _ => ⟨rfl, rfl, rfl⟩ | intro _ | dsimp only | split

theorem doorOpcodes_keep :
    (∀ a, KeepsFrame (.identify a)) ∧ (∀ a b c, KeepsFrame (.doorClaim a b c)) ∧ (∀ a, KeepsFrame (.doorRelease a)) ∧
    (∀ a, KeepsFrame (.doorKeepalive a)) ∧ (∀ a b, KeepsFrame (.eventAck a b)) ∧
    (∀ a b c, KeepsFrame (.eventRead a b c)) ∧ (∀ a b, KeepsFrame (.subscribe a b)) ∧
    (∀ a b c d, KeepsFrame (.epochRead a b c d)) ∧ (∀ a b, KeepsFrame (.roleMap a b)) ∧
    (∀ a b c, KeepsFrame (.trunkMode a b c)) ∧ (∀ a, KeepsFrame (.faultStatus a)) ∧
    (∀ a b c, KeepsFrame (.engineRelease a b c)) := by
  and_intros <;> intros <;> rintro s t ⟨⟩ <;> refine ⟨?_, rfl⟩
  all_goals repeat' first
    | exact mem_parts rfl | exact rfl | exact fun _ => rfl
    | with_reducible first
      | exact Fr.refl _ _ | assumption | apply Chip.serve_fr | apply Chip.answer_fr | apply Chip.claim_fr
      | apply Chip.releaseBy_fr | apply Chip.updDoor_fr | apply Chip.updDoorReqs_fr | apply Chip.lostReport_fr
      | apply Chip.take_fr2 | apply Chip.take_fr ‹_› | apply Chip.setB_fr | apply Chip.trkCtl_fr
      | apply Chip.releaseEngine_fr
    | exact fun _ => ⟨rfl, rfl, rfl⟩ | intro _ | dsimp only | split

/-! ### Power states (16) -/

theorem powerStates_keep :
    KeepsFrame .entryStepComplete ∧ (∀ a, KeepsFrame (.quietTimerExpiry a)) ∧ (∀ a, KeepsFrame (.idleWake a)) ∧
    (∀ a b, KeepsFrame (.wakeRequest a b)) ∧ (∀ a, KeepsFrame (.lowPowerExitComplete a)) := by
  and_intros <;> intros <;> rintro s t ⟨⟩ <;> refine ⟨?_, rfl⟩
  all_goals repeat' first
    | exact mem_parts rfl | exact rfl | exact fun _ => rfl
    | with_reducible first
      | exact Fr.refl _ _ | assumption | apply Chip.offStep_fr | apply Chip.entryNext_fr | apply Chip.reachSleep_fr
      | apply Chip.entryDone_fr | apply Chip.retain_fr | apply Chip.updPwr_fr | apply Chip.settle_fr
      | apply Chip.enterIdle_fr | apply Chip.evaluate_fr | apply Chip.updBasin_fr | apply Chip.ungateBasins_fr
      | apply Chip.setF_fr | apply Chip.deviceReset_fr | apply Chip.wakeCross_fr | apply Chip.deepRestart_fr
      | apply Chip.sleepRestart_fr | apply Chip.updFl_fr | apply Chip.updClk_fr | apply Chip.bump_fr
      | apply Chip.active_fr | apply Chip.post_fr | apply Chip.deepLosses_fr | apply Chip.postFault_fr
      | apply Chip.trip_fr | apply Chip.releaseEvents_fr | apply Chip.inDrainAll_fr | apply Chip.inletsAnew_fr
      | apply Chip.powerResume_fr | apply Chip.linesResume_fr | apply Chip.pdResume_fr | apply Chip.trunkBack_fr
      | apply Chip.syncCw_fr | apply Chip.balls_fr | apply Fr.wr | apply Fr.each
    | intro _ | dsimp only | split

theorem powerOpcodes_keep :
    (∀ a, KeepsFrame (.pwrStatus a)) ∧ (∀ a b c d e f g, KeepsFrame (.pwrSet a b c d e f g)) ∧
    (∀ a b, KeepsFrame (.pwrWakeSet a b)) ∧ (∀ a b, KeepsFrame (.pwrEnter a b)) ∧ (∀ a b, KeepsFrame (.pwrOff a b)) := by
  and_intros <;> intros <;> rintro s t ⟨⟩ <;> refine ⟨?_, rfl⟩
  all_goals repeat' first
    | exact mem_parts rfl | exact rfl | exact fun _ => rfl
    | with_reducible first
      | exact Fr.refl _ _ | assumption | apply Chip.serve_fr | apply Chip.answer_fr | apply Chip.setRW_fr
      | apply Chip.aonWrite_fr | apply Chip.updFab_fr | apply Chip.beginEntry_fr | apply Chip.settle_fr
      | apply Chip.updBead_fr | apply Chip.updPwr_fr
    | exact fun _ => ⟨rfl, rfl⟩ | intro _ | dsimp only | split

/-! ### Ports, channels and rails (13) -/

theorem portOpcodes_keep :
    (∀ a b c d, KeepsFrame (.railSet a b c d)) ∧ (∀ a b, KeepsFrame (.railStatus a b)) ∧
    (∀ a b c, KeepsFrame (.portMode a b c)) ∧ (∀ a, KeepsFrame (.modeSequenceEnd a)) ∧
    (∀ a b c d, KeepsFrame (.pinCfgSet a b c d)) ∧ (∀ a b, KeepsFrame (.chSet a b)) ∧
    (∀ a b c d e f, KeepsFrame (.chConfig a b c d e f)) ∧ (∀ a b, KeepsFrame (.chCurve a b)) ∧
    (∀ a, KeepsFrame (.chStatus a)) := by
  and_intros <;> intros <;> rintro s t ⟨⟩ <;> refine ⟨?_, rfl⟩
  all_goals repeat' first
    | exact mem_parts rfl | exact rfl | exact fun _ => rfl
    | with_reducible first
      | exact Fr.refl _ _ | assumption | apply Chip.serve_fr | apply Chip.answer_fr | apply Chip.fuseNow_fr
      | apply Chip.settle_fr | apply Chip.servePort_fr | apply Chip.updPort_fr | apply Chip.bump_fr
      | apply Chip.startMode_fr | apply Chip.answerAfter_fr | apply Chip.endMode_fr | apply Chip.wrRW_fr
      | apply Fr.each
    | intro _ | dsimp only | split

theorem dieCommands_keep :
    (∀ a, KeepsFrame (.chCmdOn a)) ∧ (∀ a, KeepsFrame (.chCmdOff a)) ∧ (∀ a b, KeepsFrame (.chCmdSuspend a b)) ∧
    (∀ a b c, KeepsFrame (.fuseLinkFrame a b c)) ∧ (∀ a b, KeepsFrame (.fuseLinkBadFrame a b)) ∧
    (∀ a, KeepsFrame (.fuseLinkResync a)) := by
  and_intros <;> intros <;> rintro s t ⟨⟩ <;> refine ⟨?_, rfl⟩
  all_goals repeat' first
    | exact mem_parts rfl | exact rfl | exact fun _ => rfl
    | with_reducible first
      | exact Fr.refl _ _ | assumption | apply Chip.fuseNow_fr | apply Chip.settle_fr | apply Chip.suspendCh_fr
      | apply Chip.linkFrame_fr | apply Chip.enterFuseHold_fr | apply Chip.updFl_fr | apply Chip.post_fr
    | intro _ | dsimp only | split

theorem channels_keep :
    (∀ a, KeepsFrame (.inrushComplete a)) ∧ (∀ a b, KeepsFrame (.railSag a b)) ∧
    (∀ a b, KeepsFrame (.railRecover a b)) ∧ (∀ a, KeepsFrame (.holdLimit a)) ∧
    (∀ a, KeepsFrame (.inrushTimeout a)) ∧ (∀ a b, KeepsFrame (.fastTrip a b)) ∧
    (∀ a b c, KeepsFrame (.breakerTrip a b c)) ∧ (∀ a, KeepsFrame (.retryDue a)) ∧
    (∀ a, KeepsFrame (.retryCountReset a)) ∧ (∀ a b, KeepsFrame (.fetFaultDetect a b)) := by
  and_intros <;> intros <;> rintro s t ⟨⟩ <;> refine ⟨?_, rfl⟩
  all_goals repeat' first
    | exact mem_parts rfl | exact rfl | exact fun _ => rfl
    | with_reducible first
      | exact Fr.refl _ _ | assumption | apply Chip.setProfile_fr | apply Chip.powerBack_fr
      | apply Chip.pdChannelOn_fr | apply Chip.settle_fr | apply Chip.enterHold_fr | apply Chip.leaveHold_fr
      | apply Chip.holdTrip_fr | apply Chip.trip_fr | apply Chip.updChan_fr | apply Chip.retry_fr
      | apply Chip.updCh_fr | apply Chip.postFault_fr | apply Fr.each
    | intro _ | dsimp only | split

theorem rails_keep :
    (∀ a, KeepsFrame (.railSenseMismatch a)) ∧ (∀ a b, KeepsFrame (.railDrawWindow a b)) ∧
    (∀ a, KeepsFrame (.shedGraceExpiry a)) ∧ (∀ a, KeepsFrame (.railBlockEnd a)) := by
  and_intros <;> intros <;> rintro s t ⟨⟩ <;> refine ⟨?_, rfl⟩
  all_goals repeat' first
    | exact mem_parts rfl | exact rfl | exact fun _ => rfl
    | with_reducible first
      | exact Fr.refl _ _ | assumption | apply Chip.updRail_fr | apply Chip.record_fr | apply Chip.postFault_fr
      | apply Chip.settle_fr | apply Chip.draw_fr2 ‹_› | apply Chip.draw_fr ‹_› | apply Chip.setF_fr
      | apply Chip.setSt_fr | apply Chip.railPd_fr | apply Chip.post_fr | apply Chip.railWaiters_fr
      | apply Chip.fuseNow_fr | apply Chip.evRailBlocked_fr
    | intro _ | dsimp only | split

/-! ### Power Delivery (14) -/

theorem pdOpcodes_keep :
    (∀ a, KeepsFrame (.pdStatus a)) ∧ (∀ a b c d, KeepsFrame (.pdCapsSet a b c d)) ∧
    (∀ a, KeepsFrame (.pdVconnSwap a)) ∧ (∀ a, KeepsFrame (.pdHardReset a)) ∧ (∀ a b, KeepsFrame (.pdVout a b)) ∧
    (∀ a b, KeepsFrame (.pdCfgSet a b)) := by
  and_intros <;> intros <;> rintro s t ⟨⟩ <;> refine ⟨?_, rfl⟩
  all_goals repeat' first
    | exact mem_parts rfl | exact rfl | exact fun _ => rfl
    | with_reducible first
      | exact Fr.refl _ _ | assumption | apply Chip.servePd_fr | apply Chip.answer_fr | apply Chip.settle_fr
      | apply Chip.wrRW_fr | apply Chip.pdChanged_fr | apply Chip.updPd_fr | apply Chip.pdOwn_fr
      | apply Chip.hardReset_fr | apply Chip.answerOpt_fr | apply Chip.pdTarget_fr | apply Chip.servePort_fr
      | apply Chip.pdRecheck_fr
    | intro _ | dsimp only | split

theorem converter_keep :
    (∀ a, KeepsFrame (.vsafe5vReached a)) ∧ (∀ a b, KeepsFrame (.sourceCapsTimer a b)) ∧
    (∀ a b c d e, KeepsFrame (.pdRequest a b c d e)) ∧ (∀ a, KeepsFrame (.acceptDelayExpiry a)) ∧
    (∀ a b, KeepsFrame (.readVoutPoll a b)) ∧ (∀ a b c, KeepsFrame (.pmbusAlert a b c)) ∧
    (∀ a b, KeepsFrame (.statusWordPoll a b)) ∧ (∀ a b, KeepsFrame (.converterFault a b)) := by
  and_intros <;> intros <;> rintro s t ⟨⟩ <;> refine ⟨?_, rfl⟩
  all_goals repeat' first
    | exact mem_parts rfl | exact rfl | exact fun _ => rfl
    | with_reducible first
      | exact Fr.refl _ _ | assumption | apply Chip.powerBack_fr | apply Chip.updPd_fr | apply Chip.setPd_fr
      | apply Chip.discover_fr | apply Chip.answerOpt_fr | apply Chip.settle_fr | apply Chip.hardReset_fr
      | apply Chip.pdBudget_fr | apply Chip.pdCapsSent_fr | apply Chip.evContractEnd_fr | apply Chip.pdSend_fr
      | apply Chip.pdTarget_fr | apply Chip.setF_fr | apply Chip.pdContract_fr | apply Chip.statusRead_fr
      | apply Chip.convFault_fr | apply Chip.statusFaulty_fr | apply Chip.pmbSend_fr
    | intro _ | dsimp only | split

theorem pdMessages_keep :
    (∀ a b, KeepsFrame (.pdMessage a b)) ∧ (∀ a b, KeepsFrame (.pdEprMode a b)) ∧
    (∀ a, KeepsFrame (.pdNextOpportunity a)) ∧ (∀ a, KeepsFrame (.reducedRequestTimeout a)) ∧
    (∀ a, KeepsFrame (.eprKeepaliveTimeout a)) ∧ (∀ a, KeepsFrame (.ppsRequestTimeout a)) := by
  and_intros <;> intros <;> rintro s t ⟨⟩ <;> refine ⟨?_, rfl⟩
  all_goals repeat' first
    | exact mem_parts rfl | exact rfl | exact fun _ => rfl
    | with_reducible first
      | exact Fr.refl _ _ | assumption | apply Chip.pdCapsSent_fr | apply Chip.pdSend_fr | apply Chip.updPd_fr
      | apply Chip.swapDrop_fr | apply Chip.swapIdle_fr | apply Chip.pdReturn_fr | apply Chip.accept_fr
      | apply Chip.pdOwn_fr | apply Chip.vconn_fr | apply Chip.swapReport_fr | apply Chip.swapOver_fr
      | apply Chip.swapAnswer_fr | apply Chip.settle_fr | apply Chip.setSt_fr | apply Chip.capsOut_fr
      | apply Chip.hardReset_fr | apply Chip.eprEnd_fr | apply Chip.swapSend_fr | apply Chip.discover_fr
      | apply Chip.offerSet_fr
    | intro _ | dsimp only | split

theorem vconnAndHardReset_keep :
    (∀ a b, KeepsFrame (.vconnOvercurrent a b)) ∧ (∀ a b, KeepsFrame (.cableDiscovery a b)) ∧
    (∀ a, KeepsFrame (.vconnSwapReceive a)) ∧ (∀ a, KeepsFrame (.vconnGiveTimeout a)) ∧
    (∀ a, KeepsFrame (.swapRetryWaitExpiry a)) ∧ (∀ a, KeepsFrame (.swapNoAnswer a)) ∧
    (∀ a, KeepsFrame (.hardResetReceive a)) ∧ (∀ a, KeepsFrame (.hardResetRecovery a)) ∧
    (∀ a, KeepsFrame (.errorRecoveryEnd a)) := by
  and_intros <;> intros <;> rintro s t ⟨⟩ <;> refine ⟨?_, rfl⟩
  all_goals repeat' first
    | exact mem_parts rfl | exact rfl | exact fun _ => rfl
    | with_reducible first
      | exact Fr.refl _ _ | assumption | apply Chip.updSt_fr | apply Chip.updPd_fr | apply Chip.postFault_fr
      | apply Chip.settle_fr | apply Chip.answer_fr | apply Chip.discoverSend_fr | apply Chip.pdOwn_fr
      | apply Chip.post_fr | apply Chip.take_fr2 | apply Chip.take_fr ‹_› | apply Chip.pdSend_fr
      | apply Chip.accept_fr | apply Chip.giveVconn_fr | apply Chip.takeVconn_fr | apply Chip.swapOver_fr
      | apply Chip.swapReport_fr | apply Chip.retry_fr | apply Chip.hardReset_fr | apply Chip.swapSend_fr
      | apply Chip.swapDrop_fr | apply Chip.swapIdle_fr | apply Chip.noDiscovery_fr | apply Chip.pdRestart_fr
    | intro _ | dsimp only | split

/-! ### The drops (08, 09) -/

theorem dropOpcodes_keep :
    (∀ a, KeepsFrame (.dropStatus a)) ∧ (∀ a b c, KeepsFrame (.dropEnumerate a b c)) ∧
    (∀ a b, KeepsFrame (.dropReset a b)) ∧ (∀ a, KeepsFrame (.dropSuspend a)) ∧ (∀ a, KeepsFrame (.dropResume a)) ∧
    (∀ a b c, KeepsFrame (.dropTree a b c)) ∧ (∀ a b c d e f g, KeepsFrame (.dropSet a b c d e f g)) ∧
    (∀ a b c d e, KeepsFrame (.dropControl a b c d e)) ∧ (∀ a b c d e, KeepsFrame (.weirSet a b c d e)) ∧
    (∀ a b c d, KeepsFrame (.sofStampOpen a b c d)) ∧ (∀ a, KeepsFrame (.sofStampRead a)) ∧
    (∀ a b c, KeepsFrame (.dropSchedRead a b c)) := by
  and_intros <;> intros <;> rintro s t ⟨⟩ <;> refine ⟨?_, rfl⟩
  all_goals repeat' first
    | exact mem_parts rfl | exact rfl | exact fun _ => rfl
    | with_reducible first
      | exact Fr.refl _ _ | assumption | apply Chip.serveDrop_fr | apply Chip.answer_fr | apply Chip.settle_fr
      | apply Chip.startEnum_fr | apply Chip.dropRefuse_fr | apply Chip.updEnum_fr | apply Chip.enumGroup_fr
      | apply Chip.updDrop_fr | apply Chip.startReset_fr | apply Chip.updDev_fr | apply Chip.nextEnum_fr
      | apply Chip.detach_fr | apply Chip.dropAnswerAll_fr | apply Chip.suspendCh_fr | apply Chip.attachBelow_fr
      | apply Chip.startSuspend_fr | apply Chip.setRoot_fr | apply Chip.answers_fr | apply Chip.startResume_fr
      | apply Chip.take_fr2 | apply Chip.take_fr ‹_› | apply Chip.autoEnum_fr | apply Chip.retry_fr
      | apply Chip.wrRW_fr | apply Chip.setRW_fr | apply Chip.ctlStart_fr
    | intro _ | dsimp only | split

theorem dropAttach_keep :
    (∀ a b, KeepsFrame (.dropPullupSeen a b)) ∧ (∀ a, KeepsFrame (.dropPullupLost a)) ∧
    (∀ a, KeepsFrame (.debounceExpiry a)) ∧ (∀ a b, KeepsFrame (.deviceChirpK a b)) ∧
    (∀ a, KeepsFrame (.rootResetExpiry a)) ∧ (∀ a b, KeepsFrame (.enumRequestComplete a b)) ∧
    (∀ a, KeepsFrame (.enumWaitExpiry a)) ∧ (∀ a, KeepsFrame (.controlStageTimeout a)) ∧
    (∀ a, KeepsFrame (.dropDisconnect a)) ∧ (∀ a b, KeepsFrame (.typecRdSeen a b)) ∧
    (∀ a, KeepsFrame (.typecRdLost a)) := by
  and_intros <;> intros <;> rintro s t ⟨⟩ <;> refine ⟨?_, rfl⟩
  all_goals repeat' first
    | exact mem_parts rfl | exact rfl | exact fun _ => rfl
    | with_reducible first
      | exact Fr.refl _ _ | assumption | apply Chip.updDrop_fr | apply Chip.setRoot_fr | apply Chip.dropIgnore_fr
      | apply Chip.settle_fr | apply Chip.startReset_fr | apply Chip.bump_fr | apply Chip.putDev_fr
      | apply Chip.startEnum_fr | apply Chip.evAttach_fr | apply Chip.active_fr | apply Chip.updEnum_fr
      | apply Chip.enumStep_fr | apply Chip.enumDone_fr | apply Chip.enumRetry_fr | apply Chip.ctlTimeout_fr
      | apply Chip.disconnectRoot_fr | apply Chip.startInrush_fr | apply Chip.vconnRa_fr | apply Chip.updCh_fr
      | apply Chip.pdStop_fr | apply Fr.wr | apply Fr.each
    | intro _ | dsimp only | split

theorem dropTraffic_keep :
    (∀ a, KeepsFrame (.suspendIdleExpiry a)) ∧ (∀ a b, KeepsFrame (.overdrawCheck a b)) ∧
    (∀ a, KeepsFrame (.resumeKDone a)) ∧ (∀ a, KeepsFrame (.resumeRecoveryDone a)) ∧
    (∀ a, KeepsFrame (.microframeBoundary a)) ∧ (∀ a b c d, KeepsFrame (.transactionComplete a b c d)) ∧
    (∀ a b c d, KeepsFrame (.hubStatusPoll a b c d)) ∧ (∀ a b, KeepsFrame (.parisonTimeout a b)) := by
  and_intros <;> intros <;> rintro s t ⟨⟩ <;> refine ⟨?_, rfl⟩
  all_goals repeat' first
    | exact mem_parts rfl | exact rfl | exact fun _ => rfl
    | with_reducible first
      | exact Fr.refl _ _ | assumption | apply Chip.suspended_fr | apply Chip.settle_fr | apply Chip.updDrop_fr
      | apply Chip.record_fr | apply Chip.setF_fr | apply Chip.post_fr | apply Chip.driveK_fr | apply Chip.setRoot_fr
      | apply Chip.resumed_fr | apply Chip.boundary_fr | apply Chip.transact_fr | apply Chip.pollPort_fr
      | apply Chip.detach_fr | apply Chip.attachBelow_fr | apply Chip.nextEnum_fr | apply Chip.evPortStatus_fr
      | apply Chip.updStrm_fr
    | intro _ | dsimp only | split

/-! ### Class services (10) -/

theorem svcOpcodes_keep :
    (∀ a b c d e f g h, KeepsFrame (.svcBind a b c d e f g h)) ∧ (∀ a b c d, KeepsFrame (.svcUnbind a b c d)) ∧
    (∀ a b c, KeepsFrame (.svcList a b c)) ∧ (∀ a b c d e, KeepsFrame (.streamOpen a b c d e)) ∧
    (∀ a b c, KeepsFrame (.streamClose a b c)) ∧ (∀ a b, KeepsFrame (.classMatch a b)) := by
  and_intros <;> intros <;> rintro s t ⟨⟩ <;> refine ⟨?_, rfl⟩
  all_goals repeat' first
    | exact mem_parts rfl | exact rfl | exact fun _ => rfl
    | with_reducible first
      | exact Fr.refl _ _ | assumption | apply Chip.serveSvc_fr | apply Chip.answer_fr | apply Chip.updSvc_fr
      | apply Chip.addBind_fr | apply Chip.updBind_fr | apply Chip.settle_fr | apply Chip.endBind_fr
      | apply Chip.take_fr2 | apply Chip.take_fr ‹_› | apply Chip.serve_fr | apply Chip.alloc_fr2
      | apply Chip.alloc_fr ‹_› | apply Chip.setBody_fr | apply Chip.updTrunk_fr | apply Chip.retryBinds_fr
      | apply Chip.closeStream_fr | apply Chip.classMatch_fr
    | intro _ | dsimp only | split

theorem svcTraffic_keep :
    (∀ a b c, KeepsFrame (.gapMsExpiry a b c)) ∧ (∀ a b c d, KeepsFrame (.hidReport a b c d)) ∧
    (∀ a b c d, KeepsFrame (.cdcBulkIn a b c d)) ∧ (∀ a b c d, KeepsFrame (.serialState a b c d)) ∧
    (∀ a b c d, KeepsFrame (.printerJob a b c d)) ∧ (∀ a b c d, KeepsFrame (.printerStatusPoll a b c d)) ∧
    (∀ a b c d e, KeepsFrame (.rawTransfer a b c d e)) := by
  and_intros <;> intros <;> rintro s t ⟨⟩ <;> refine ⟨?_, rfl⟩
  all_goals repeat' first
    | exact mem_parts rfl | exact rfl | exact fun _ => rfl
    | with_reducible first
      | exact Fr.refl _ _ | assumption | apply Chip.closeBindRec_fr | apply Chip.settle_fr | apply Chip.flagRec_fr
      | apply Chip.postRateR_fr | apply Chip.keyDown_fr | apply Chip.updBind_fr | apply Chip.feed_fr
      | apply Chip.postOwn_fr | apply Chip.jobStart_fr | apply Chip.epMoved_fr | apply Chip.jobMoved_fr
      | apply Chip.printerStatus_fr | apply Chip.putRun_fr | apply Chip.putRec_fr2 | apply Chip.putRec_fr ‹_›
      | apply Chip.take_fr2 | apply Chip.take_fr ‹_› | apply Chip.updSvcBody_fr | apply Fr.each
    | intro _ | dsimp only | split

/-! ### The lines (11) -/

theorem lineOpcodes_keep :
    (∀ a, KeepsFrame (.lineStatus a)) ∧ (∀ a b c d e f, KeepsFrame (.lineTiming a b c d e f)) ∧
    (∀ a b c d, KeepsFrame (.lineFilter a b c d)) ∧ (∀ a b, KeepsFrame (.lineSend a b)) ∧
    (∀ a b, KeepsFrame (.lineCancel a b)) ∧ (∀ a, KeepsFrame (.lineRecover a)) ∧
    (∀ a b c, KeepsFrame (.lineNodes a b c)) ∧ (∀ a b, KeepsFrame (.lineRead a b)) ∧
    (∀ a b c d, KeepsFrame (.lineWrite a b c d)) ∧ (∀ a b c, KeepsFrame (.lineObjCfg a b c)) ∧
    (∀ a, KeepsFrame (.lineNodeRemove a)) ∧ (∀ a b c, KeepsFrame (.linePollSet a b c)) := by
  and_intros <;> intros <;> rintro s t ⟨⟩ <;> refine ⟨?_, rfl⟩
  all_goals repeat' first
    | exact mem_parts rfl | exact rfl | exact fun _ => rfl
    | with_reducible first
      | exact Fr.refl _ _ | assumption | apply Chip.serveLine_fr | apply Chip.answer_fr | apply Chip.settle_fr
      | apply Chip.askTiming_fr | apply Chip.wrRW_fr | apply Chip.updLine_fr | apply Chip.finishHostTx_fr
      | apply Chip.startRecovery_fr | apply Chip.take_fr2 | apply Chip.take_fr ‹_› | apply Chip.serveAddr_fr
      | apply Chip.queueUlp_fr ‹_› | apply Chip.engWrite_fr | apply Chip.removeNode_fr | apply Chip.pollSync_fr
    | intro _ | dsimp only | split

theorem lineReceiving_keep :
    (∀ a b, KeepsFrame (.lineFrameReceive a b)) ∧ (∀ a, KeepsFrame (.rxq0FrameProcess a)) ∧
    (∀ a b, KeepsFrame (.claim a b)) ∧ (∀ a b c d e f, KeepsFrame (.announce a b c d e f)) ∧
    (∀ a b c d e f, KeepsFrame (.objAnswer a b c d e f)) ∧ (∀ a b c d e, KeepsFrame (.report a b c d e)) ∧
    (∀ a b c, KeepsFrame (.nodeRelease a b c)) := by
  and_intros <;> intros <;> rintro s t ⟨⟩ <;> refine ⟨?_, rfl⟩
  all_goals repeat' first
    | exact mem_parts rfl | exact rfl | exact fun _ => rfl
    | with_reducible first
      | exact Fr.refl _ _ | assumption | apply Chip.active_fr | apply Chip.incSat_fr | apply Chip.updLine_fr
      | apply Chip.goodRx_fr | apply Chip.tick_fr | apply Chip.stranger_fr | apply Chip.rxOverrun_fr
      | apply Chip.updBasin_fr | apply Chip.rxForeign_fr | apply Chip.settle_fr | apply Chip.postRate_fr
      | apply Chip.nodeHeard_fr | apply Chip.takeUlp_fr | apply Chip.claimNode_fr | apply Chip.updNode_fr
      | apply Chip.announced_fr | apply Chip.engWrite_fr | apply Chip.writeEnded_fr | apply Chip.nodeAnswered_fr
      | apply Chip.answer_fr | apply Chip.startUlp_fr | apply Chip.post_fr | apply Chip.putRec_fr2
      | apply Chip.putRec_fr ‹_› | apply Chip.removeNode_fr
    | intro _ | dsimp only | split

theorem lineTransmitting_keep :
    (∀ a b c, KeepsFrame (.lineTxComplete a b c)) ∧ (∀ a b c, KeepsFrame (.lineBusError a b c)) ∧
    (∀ a, KeepsFrame (.busOffEntry a)) ∧ (∀ a, KeepsFrame (.lineBusOn a)) := by
  and_intros <;> intros <;> rintro s t ⟨⟩ <;> refine ⟨?_, rfl⟩
  all_goals repeat' first
    | exact mem_parts rfl | exact rfl | exact fun _ => rfl
    | with_reducible first
      | exact Fr.refl _ _ | assumption | apply Chip.active_fr | apply Chip.updLine_fr | apply Chip.setF_fr
      | apply Chip.attemptLost_fr | apply Chip.busError_fr | apply Chip.goodTx_fr | apply Chip.finishTx_fr
      | apply Chip.settle_fr | apply Chip.setCounters_fr | apply Chip.setSt_fr | apply Chip.applyTimingDue_fr
      | apply Chip.updPort_fr | apply Chip.postFault_fr | apply Chip.escalate_fr | apply Chip.startRecovery_fr
      | apply Chip.post_fr | apply Chip.answer_fr | apply Fr.each
    | intro _ | dsimp only | split

theorem lineTimers_keep :
    (∀ a b, KeepsFrame (.announceTimer a b)) ∧ (∀ a b, KeepsFrame (.responseWindowEnd a b)) ∧
    (∀ a b, KeepsFrame (.requestTimeout a b)) ∧ (∀ a, KeepsFrame (.pollTimer a)) ∧
    (∀ a b, KeepsFrame (.absentHoldExpiry a b)) ∧ (∀ a b, KeepsFrame (.quarantineExpiry a b)) ∧
    (∀ a, KeepsFrame (.timeFrameBoundary a)) ∧ (∀ a, KeepsFrame (.timeFrameWithdraw a)) ∧
    (∀ a, KeepsFrame (.lineBusRejoin a)) := by
  and_intros <;> intros <;> rintro s t ⟨⟩ <;> refine ⟨?_, rfl⟩
  all_goals repeat' first
    | exact mem_parts rfl | exact rfl | exact fun _ => rfl
    | with_reducible first
      | exact Fr.refl _ _ | assumption | apply Chip.updNodeBody_fr | apply Chip.updNode_fr | apply Chip.sendAssign_fr
      | apply Chip.removeNode_fr | apply Chip.settle_fr | apply Chip.writeEnded_fr | apply Chip.answerUlps_fr
      | apply Chip.nodeMissed_fr | apply Chip.startUlp_fr | apply Chip.updLine_fr | apply Chip.sendUlp_fr
      | apply Chip.updPort_fr | apply Fr.each
    | intro _ | dsimp only | split

/-! ### The Pond (07) -/

theorem pondOpcodes_keep :
    (∀ a, KeepsFrame (.pondStatus a)) ∧ (∀ a b c, KeepsFrame (.quotaRead a b c)) ∧
    (∀ a b c, KeepsFrame (.quotaSet a b c)) ∧ (∀ a b, KeepsFrame (.ctxRead a b)) ∧
    (∀ a b c d e, KeepsFrame (.ctxList a b c d e)) ∧ (∀ a b c, KeepsFrame (.pondUnpoison a b c)) ∧
    (∀ a b c, KeepsFrame (.scrubSet a b c)) ∧ (∀ a b c, KeepsFrame (.cacheStats a b c)) ∧
    (∀ a b, KeepsFrame (.lowMarkSet a b)) := by
  and_intros <;> intros <;> rintro s t ⟨⟩ <;> refine ⟨?_, rfl⟩
  all_goals repeat' first
    | exact mem_parts rfl | exact rfl | exact fun _ => rfl
    | with_reducible first
      | exact Fr.refl _ _ | assumption | apply Chip.serve_fr | apply Chip.answer_fr | apply Chip.settle_fr
      | apply Chip.take_fr2 | apply Chip.take_fr ‹_› | apply Chip.setQuota_fr | apply Chip.ctxBytes_fr2
      | apply Chip.ctxBytes_fr ‹_› | apply Chip.setCtx_fr | apply Chip.setF_fr | apply Chip.reserveFreed_fr
      | apply Chip.poolEvents_fr | apply Chip.wrRW_fr
    | intro _ | dsimp only | split

theorem allocator_keep :
    (∀ a b c, KeepsFrame (.pondAlloc a b c)) ∧ (∀ a, KeepsFrame (.contextFree a)) ∧
    (∀ a b, KeepsFrame (.bulkFree a b)) ∧ (∀ a, KeepsFrame (.waitListRetry a)) ∧ (∀ a, KeepsFrame (.cacheWriteback a)) := by
  and_intros <;> intros <;> rintro s t ⟨⟩ <;> refine ⟨?_, rfl⟩
  all_goals repeat' first
    | exact mem_parts rfl | exact rfl | exact fun _ => rfl
    | with_reducible first
      | exact Fr.refl _ _ | assumption | apply Chip.updPond_fr | apply Chip.alloc_fr2 | apply Chip.alloc_fr ‹_›
      | apply Chip.bareAlloc_fr | apply Chip.settle_fr | apply Chip.freeCtx_fr | apply Chip.bareBulk_fr
      | apply Chip.refused_fr | apply Chip.waitJoin_fr | apply Chip.updEng_fr | apply Fr.each
    | intro _ | dsimp only | split

theorem pondErrors_keep :
    (∀ a, KeepsFrame (.scrubStep a)) ∧ KeepsFrame .directoryUe ∧ (∀ a, KeepsFrame (.directoryRebuildEnd a)) ∧
    KeepsFrame .serviceTableRebuildEnd := by
  and_intros <;> intros <;> rintro s t ⟨⟩ <;> refine ⟨?_, rfl⟩
  all_goals repeat' first
    | exact mem_parts rfl | exact rfl | exact fun _ => rfl
    | with_reducible first
      | exact Fr.refl _ _ | assumption | apply Chip.updPond_fr | apply Chip.pondCe_fr | apply Chip.pondUe_fr
      | apply Chip.settle_fr | apply Chip.escalate_fr | apply Chip.deviceReset_fr | apply Chip.runHeld_fr
      | apply Chip.serveWaiters_fr | apply Chip.applyTables_fr ‹_› | apply Chip.updSvc_fr
      | apply Chip.classMatchAll_fr | apply Fr.each
    | intro _ | dsimp only | split

/-! ### Seiche (12) -/

theorem seicheOpcodes_keep :
    (∀ a b c d e f g h i j, KeepsFrame (.markCreate a b c d e f g h i j)) ∧ (∀ a, KeepsFrame (.markConsider a)) ∧
    (∀ a b c, KeepsFrame (.markCancel a b c)) ∧ (∀ a b c, KeepsFrame (.markRead a b c)) ∧
    (∀ a b, KeepsFrame (.templateLoad a b)) ∧ (∀ a b c, KeepsFrame (.templateFree a b c)) ∧
    (∀ a b, KeepsFrame (.beltStatus a b)) ∧ (∀ a b c d, KeepsFrame (.beltSetPos a b c d)) ∧
    (∀ a, KeepsFrame (.timeRead a)) ∧ (∀ a, KeepsFrame (.timeAck a)) ∧ (∀ a b c d, KeepsFrame (.outfallSet a b c d)) := by
  and_intros <;> intros <;> rintro s t ⟨⟩ <;> refine ⟨?_, rfl⟩
  all_goals repeat' first
    | exact mem_parts rfl | exact rfl | exact fun _ => rfl
    | with_reducible first
      | exact Fr.refl _ _ | assumption | apply Chip.serveSei_fr | apply Chip.answer_fr | apply Chip.alloc_fr2
      | apply Chip.alloc_fr ‹_› | apply Chip.mstate_fr | apply Chip.setBody_fr | apply Chip.updSei_fr
      | apply Chip.settle_fr | apply Chip.handLate_fr | apply Chip.dropMark_fr | apply Chip.endMark_fr
      | apply Chip.freeCtx_fr | apply Chip.bulkFree_fr | apply Chip.updBelt_fr | apply Chip.setBeltPos_fr
      | apply Chip.settleUncert_fr | apply Chip.setF_fr | apply Chip.degrade_fr | apply Chip.pulse_fr
      | apply Chip.updOutfall_fr | apply Fr.each
    | intro _ | dsimp only | split

theorem shafts_keep :
    (∀ a b c d, KeepsFrame (.shaftEdge a b c d)) ∧ (∀ a, KeepsFrame (.shaftQuadError a)) ∧
    (∀ a, KeepsFrame (.zEdge a)) ∧ (∀ a, KeepsFrame (.beltStopTimeout a)) := by
  and_intros <;> intros <;> rintro s t ⟨⟩ <;> refine ⟨?_, rfl⟩
  all_goals repeat' first
    | exact mem_parts rfl | exact rfl | exact fun _ => rfl
    | with_reducible first
      | exact Fr.refl _ _ | assumption | apply Chip.countEdge_fr | apply Chip.record_fr | apply Chip.postRate_fr
      | apply Chip.setSt_fr | apply Chip.updBelt_fr | apply Chip.settle_fr | apply Chip.stopBelt_fr
      | apply Chip.post_fr
    | intro _ | dsimp only | split

theorem marks_keep :
    (∀ a, KeepsFrame (.armingCycle a)) ∧ (∀ a b, KeepsFrame (.slotMatch a b)) ∧
    (∀ a b, KeepsFrame (.markAction a b)) ∧ (∀ a b, KeepsFrame (.lateAction a b)) ∧
    (∀ a, KeepsFrame (.outfallPulseEnd a)) ∧ (∀ a b, KeepsFrame (.inletEdge a b)) ∧ KeepsFrame .ppsRise ∧
    KeepsFrame .ppsFall ∧ (∀ a, KeepsFrame (.calWindowEnd a)) := by
  and_intros <;> intros <;> rintro s t ⟨⟩ <;> refine ⟨?_, rfl⟩
  all_goals repeat' first
    | exact mem_parts rfl | exact rfl | exact fun _ => rfl
    | with_reducible first
      | exact Fr.refl _ _ | assumption | apply Chip.unloadBelt_fr | apply Chip.armRelease_fr
      | apply Chip.armCrossed_fr | apply Chip.armLoad_fr | apply Chip.updBelt_fr | apply Chip.syncArmed_fr
      | apply Chip.settle_fr | apply Chip.markOutfall_fr | apply Chip.fired_fr | apply Chip.markActs_fr2
      | apply Chip.markActs_fr ‹_› | apply Chip.endMark_fr | apply Chip.expire_fr | apply Chip.record_fr
      | apply Chip.postMark_fr | apply Chip.updOutfall_fr | apply Chip.post_fr | apply Chip.updInlet_fr
      | apply Chip.inDrain_fr | apply Chip.updSei_fr | apply Fr.wr
    | intro _ | dsimp only | split

/-! ### Firmware (04) -/

theorem attestation_keep :
    (∀ a b, KeepsFrame (.quote a b)) ∧ (∀ a b c, KeepsFrame (.logRead a b c)) ∧
    (∀ a b c, KeepsFrame (.logTrim a b c)) ∧ (∀ a b, KeepsFrame (.certRead a b)) ∧
    (∀ a b c, KeepsFrame (.stageWrite a b c)) ∧ (∀ a b, KeepsFrame (.stageErase a b)) := by
  and_intros <;> intros <;> rintro s t ⟨⟩ <;> refine ⟨?_, rfl⟩
  all_goals repeat' first
    | exact mem_parts rfl | exact rfl | exact fun _ => rfl
    | with_reducible first
      | exact Fr.refl _ _ | assumption | apply Chip.serve_fr | apply Chip.answer_fr | apply Chip.take_fr2
      | apply Chip.take_fr ‹_› | apply Chip.logTrim_fr | apply Chip.xspiIssue_fr
    | intro _ | dsimp only | split

theorem handoffs_keep :
    (∀ a b, KeepsFrame (.handoff a b)) ∧ KeepsFrame .handoffStepEnd ∧ (∀ a, KeepsFrame (.handoffStepTimeout a)) ∧
    KeepsFrame .firstRunCheckEnd ∧ (∀ a b c, KeepsFrame (.bootSet a b c)) := by
  and_intros <;> intros <;> rintro s t ⟨⟩ <;> refine ⟨?_, rfl⟩
  all_goals repeat' first
    | exact mem_parts rfl | exact rfl | exact fun _ => rfl
    | with_reducible first
      | exact Fr.refl _ _ | assumption | apply Chip.serve_fr | apply Chip.answer_fr | apply Chip.updFw_fr
      | apply Chip.handoffTo_fr | apply Chip.handoffAbort_fr | apply Chip.hsReturns_fr | apply Chip.handoffSwitch_fr
      | apply Chip.handoffRevert_fr | apply Chip.post_fr | apply Chip.take_fr2 | apply Chip.take_fr ‹_›
      | apply Chip.setSt_fr | apply Chip.bootOvr_fr | apply Chip.answerOpt_fr
    | intro _ | dsimp only | split

theorem microcodeRoll_keep :
    (∀ a b, KeepsFrame (.ucodeRoll a b)) ∧ (∀ a, KeepsFrame (.rollSwapPoint a)) ∧ KeepsFrame .microcodeReloadDone ∧
    (∀ a b, KeepsFrame (.tablesApply a b)) := by
  and_intros <;> intros <;> rintro s t ⟨⟩ <;> refine ⟨?_, rfl⟩
  all_goals repeat' first
    | exact mem_parts rfl | exact rfl | exact fun _ => rfl
    | with_reducible first
      | exact Fr.refl _ _ | assumption | apply Chip.serve_fr | apply Chip.answer_fr | apply Chip.rollStart_fr
      | apply Chip.active_fr | apply Chip.measure_fr | apply Chip.updFw_fr | apply Chip.rollBasinDone_fr
      | apply Chip.rollStall_fr | apply Chip.rollRole_fr | apply Chip.applyTables_fr ‹_› | apply Chip.settle_fr
    | intro _ | dsimp only | split

/-! ### The Bead (18) -/

theorem beadOpcodes_keep :
    (∀ a b, KeepsFrame (.beadRead a b)) ∧ (∀ a b c, KeepsFrame (.beadWrite a b c)) ∧
    (∀ a, KeepsFrame (.beadStatus a)) ∧ KeepsFrame .attestRecordWrite ∧ KeepsFrame .snapshotWrite := by
  and_intros <;> intros <;> rintro s t ⟨⟩ <;> refine ⟨?_, rfl⟩
  all_goals repeat' first
    | exact mem_parts rfl | exact rfl | exact fun _ => rfl
    | with_reducible first
      | exact Fr.refl _ _ | assumption | apply Chip.serveBead_fr | apply Chip.answer_fr | apply Chip.commitAll_fr
      | apply Chip.updBead_fr | apply Chip.hsNext_fr | apply Chip.snapData_fr2 | apply Chip.snapData_fr ‹_›
      | apply Chip.setF_fr | apply Chip.dropSnap_fr
    | exact fun _ => ⟨rfl, rfl⟩ | intro _ | dsimp only | split

theorem beadField_keep :
    (∀ a b c, KeepsFrame (.inventory a b c)) ∧ (∀ a, KeepsFrame (.stayQuiet a)) ∧
    (∀ a b, KeepsFrame (.readSingleBlock a b)) ∧ (∀ a b c, KeepsFrame (.writeSingleBlock a b c)) ∧
    (∀ a b c, KeepsFrame (.readMultipleBlocks a b c)) ∧ (∀ a, KeepsFrame (.select a)) ∧
    (∀ a, KeepsFrame (.resetToReady a)) ∧ (∀ a, KeepsFrame (.getSystemInformation a)) ∧
    (∀ a b c, KeepsFrame (.getBlockSecurityStatus a b c)) ∧ (∀ a b, KeepsFrame (.lockSession a b)) ∧
    (∀ a, KeepsFrame (.unlockSession a)) ∧ (∀ a b, KeepsFrame (.readRecord a b)) ∧
    (∀ a, KeepsFrame (.getBeadStatus a)) ∧ KeepsFrame .beadSessionExpiry ∧ KeepsFrame .beadFieldLoss ∧
    (∀ a, KeepsFrame (.readerFieldPresent a)) := by
  and_intros <;> intros <;> rintro s t ⟨⟩ <;> refine ⟨?_, rfl⟩
  all_goals repeat' first
    | exact mem_parts rfl | exact rfl | exact fun _ => rfl
    | with_reducible first
      | exact Fr.refl _ _ | assumption | apply Chip.toField_fr | apply Chip.updBead_fr | apply Chip.asField_fr
      | apply Chip.fieldErr_fr | apply Chip.commitAll_fr | apply Chip.setSt_fr | apply Chip.post_fr
      | apply Chip.endSession_fr
    | exact fun _ => ⟨rfl, rfl⟩ | intro _ | dsimp only | split

/-! ### Registers (15) and integrity (17) -/

theorem registerAccesses_keep :
    (∀ a, KeepsFrame (.keyUnlockLapse a)) ∧ KeepsFrame .aonWriteApply ∧ (∀ a, KeepsFrame (.seiTimeLoRead a)) ∧
    (∀ a b, KeepsFrame (.beltPosLoRead a b)) ∧ (∀ a b, KeepsFrame (.xspiOpEnd a b)) := by
  and_intros <;> intros <;> rintro s t ⟨⟩ <;> refine ⟨?_, rfl⟩
  all_goals repeat' first
    | exact mem_parts rfl | exact rfl | exact fun _ => rfl
    | with_reducible first
      | exact Fr.refl _ _ | assumption | apply Chip.lock_fr | apply Chip.aonApply_fr | apply Chip.settle_fr
      | apply Chip.pathRead_fr | apply Chip.xspiEnd_fr
    | intro _ | dsimp only | split

theorem clearwater_keep :
    (∀ a b, KeepsFrame (.cwPause a b)) ∧ (∀ a b, KeepsFrame (.cwCommit a b)) ∧ (∀ a, KeepsFrame (.cwStatus a)) ∧
    KeepsFrame .cwPassStart ∧ KeepsFrame .cwPassEnd ∧ KeepsFrame .cwPauseExpiry ∧
    (∀ a, KeepsFrame (.cfgParityFailure a)) ∧ (∀ a, KeepsFrame (.regAccessSessionChange a)) := by
  and_intros <;> intros <;> rintro s t ⟨⟩ <;> refine ⟨?_, rfl⟩
  all_goals repeat' first
    | exact mem_parts rfl | exact rfl | exact fun _ => rfl
    | with_reducible first
      | exact Fr.refl _ _ | assumption | apply Chip.serve_fr | apply Chip.setPause_fr | apply Chip.answer_fr
      | apply Chip.settle_fr | apply Chip.updFab_fr | apply Chip.incSat_fr | apply Chip.cwComplete_fr
      | apply Chip.post_fr | apply Chip.setF_fr | apply Chip.bump_fr | apply Chip.record_fr | apply Chip.postFault_fr
      | apply Chip.regEffect_fr | apply Chip.setB_fr | apply Chip.syncCw_fr | apply Fr.wr
    | intro _ | dsimp only | split

theorem queueAndEngineFaults_keep :
    (∀ a, KeepsFrame (.queuePtrMismatch a)) ∧ (∀ a b, KeepsFrame (.reservoirEccError a b)) ∧
    (∀ a, KeepsFrame (.engineOverrun a)) ∧ (∀ a b, KeepsFrame (.engineHang a b)) ∧
    (∀ a b, KeepsFrame (.engineParity a b)) ∧ (∀ a, KeepsFrame (.engineTakeover a)) ∧ KeepsFrame .lockstepMismatch ∧
    (∀ a, KeepsFrame (.statusBallLowTimeExpiry a)) := by
  and_intros <;> intros <;> rintro s t ⟨⟩ <;> refine ⟨?_, rfl⟩
  all_goals repeat' first
    | exact mem_parts rfl | exact rfl | exact fun _ => rfl
    | with_reducible first
      | exact Fr.refl _ _ | assumption | apply Chip.queueReset_fr | apply Chip.settle_fr | apply Chip.incSat_fr
      | apply Chip.bump_fr | apply Chip.skipItem_fr | apply Chip.post_fr | apply Chip.updFw_fr
      | apply Chip.engineFault_fr | apply Chip.updEng_fr | apply Chip.takeOver_fr | apply Chip.openLadder_fr
      | apply Chip.startScope_fr | apply Chip.closeLadder_fr | apply Chip.escalate_fr | apply Chip.hsDown_fr
      | apply Chip.updClk_fr | apply Chip.balls_fr
    | intro _ | dsimp only | split

end Sys2Proof.Proofs

namespace Sys2Proof.Proofs

open Sys2Proof.Machine Sys2Proof.Laws

/-! The frames of all commands, and the canonical forms along every step. -/

/-- Every command keeps its frame, the canonical forms and the queue. -/
theorem keepsFrame (i : Instr) : KeepsFrame i := by
  cases i
  case vddAonPowerOn | supplyMonitorTrip | supplyRecovered => simp only [supplies_keep]
  case porstNLow | porstNRise | firmwareBoot | bootWatchdogExpiry => simp only [boot_keep]
  case pllLock | pllLockTimeout | refInQualified | refInLost | crystalFailure | crystalReturn | pllRefSlewEnd |
    pllUnlock | pllRelock => simp only [referenceClocks_keep]
  case portReset | basinReset | headspringReset | laneReset | deviceReset | resetDone => simp only [resetScopes_keep]
  case ttpFrameReceive | swapReqReceive | swapAckReceive | echoReplyReceive | ptpSyncSend | ptpAnnounceSend |
    ptpDelayReqReceive | ptpAnnounceReceive | echoSend => simp only [trunkReceiving_keep]
  case laneUp | laneLossDeclared | failoverComplete | laneBackTimer | laneDegradedWindow | laneHealthy |
    swapTimerExpiry | reorderHoldExpiry => simp only [lanes_keep]
  case spillReplayEnd | noLaneAfterDeep | eventFrameSend | streamFrameSend | trunkStatus | ptpSet | trunkSwap =>
    simp only [trunkSending_keep]
  case leaseExpiry | rateWindowEnd | svcPortRequest | svcEventPoll => simp only [doorUpkeep_keep]
  case identify | doorClaim | doorRelease | doorKeepalive | eventAck | eventRead | subscribe | epochRead | roleMap |
    trunkMode | faultStatus | engineRelease => simp only [doorOpcodes_keep]
  case entryStepComplete | quietTimerExpiry | idleWake | wakeRequest | lowPowerExitComplete =>
    simp only [powerStates_keep]
  case pwrStatus | pwrSet | pwrWakeSet | pwrEnter | pwrOff => simp only [powerOpcodes_keep]
  case railSet | railStatus | portMode | modeSequenceEnd | pinCfgSet | chSet | chConfig | chCurve | chStatus =>
    simp only [portOpcodes_keep]
  case chCmdOn | chCmdOff | chCmdSuspend | fuseLinkFrame | fuseLinkBadFrame | fuseLinkResync =>
    simp only [dieCommands_keep]
  case inrushComplete | railSag | railRecover | holdLimit | inrushTimeout | fastTrip | breakerTrip | retryDue |
    retryCountReset | fetFaultDetect => simp only [channels_keep]
  case railSenseMismatch | railDrawWindow | shedGraceExpiry | railBlockEnd => simp only [rails_keep]
  case pdStatus | pdCapsSet | pdVconnSwap | pdHardReset | pdVout | pdCfgSet => simp only [pdOpcodes_keep]
  case vsafe5vReached | sourceCapsTimer | pdRequest | acceptDelayExpiry | readVoutPoll | pmbusAlert | statusWordPoll |
    converterFault => simp only [converter_keep]
  case pdMessage | pdEprMode | pdNextOpportunity | reducedRequestTimeout | eprKeepaliveTimeout | ppsRequestTimeout =>
    simp only [pdMessages_keep]
  case vconnOvercurrent | cableDiscovery | vconnSwapReceive | vconnGiveTimeout | swapRetryWaitExpiry | swapNoAnswer |
    hardResetReceive | hardResetRecovery | errorRecoveryEnd => simp only [vconnAndHardReset_keep]
  case dropStatus | dropEnumerate | dropReset | dropSuspend | dropResume | dropTree | dropSet | dropControl | weirSet
    | sofStampOpen | sofStampRead | dropSchedRead => simp only [dropOpcodes_keep]
  case dropPullupSeen | dropPullupLost | debounceExpiry | deviceChirpK | rootResetExpiry | enumRequestComplete |
    enumWaitExpiry | controlStageTimeout | dropDisconnect | typecRdSeen | typecRdLost => simp only [dropAttach_keep]
  case suspendIdleExpiry | overdrawCheck | resumeKDone | resumeRecoveryDone | microframeBoundary | transactionComplete
    | hubStatusPoll | parisonTimeout => simp only [dropTraffic_keep]
  case svcBind | svcUnbind | svcList | streamOpen | streamClose | classMatch => simp only [svcOpcodes_keep]
  case gapMsExpiry | hidReport | cdcBulkIn | serialState | printerJob | printerStatusPoll | rawTransfer =>
    simp only [svcTraffic_keep]
  case lineStatus | lineTiming | lineFilter | lineSend | lineCancel | lineRecover | lineNodes | lineRead | lineWrite |
    lineObjCfg | lineNodeRemove | linePollSet => simp only [lineOpcodes_keep]
  case lineFrameReceive | rxq0FrameProcess | claim | announce | objAnswer | report | nodeRelease =>
    simp only [lineReceiving_keep]
  case lineTxComplete | lineBusError | busOffEntry | lineBusOn => simp only [lineTransmitting_keep]
  case announceTimer | responseWindowEnd | requestTimeout | pollTimer | absentHoldExpiry | quarantineExpiry |
    timeFrameBoundary | timeFrameWithdraw | lineBusRejoin => simp only [lineTimers_keep]
  case pondStatus | quotaRead | quotaSet | ctxRead | ctxList | pondUnpoison | scrubSet | cacheStats | lowMarkSet =>
    simp only [pondOpcodes_keep]
  case pondAlloc | contextFree | bulkFree | waitListRetry | cacheWriteback => simp only [allocator_keep]
  case scrubStep | directoryUe | directoryRebuildEnd | serviceTableRebuildEnd => simp only [pondErrors_keep]
  case markCreate | markConsider | markCancel | markRead | templateLoad | templateFree | beltStatus | beltSetPos |
    timeRead | timeAck | outfallSet => simp only [seicheOpcodes_keep]
  case shaftEdge | shaftQuadError | zEdge | beltStopTimeout => simp only [shafts_keep]
  case armingCycle | slotMatch | markAction | lateAction | outfallPulseEnd | inletEdge | ppsRise | ppsFall |
    calWindowEnd => simp only [marks_keep]
  case quote | logRead | logTrim | certRead | stageWrite | stageErase => simp only [attestation_keep]
  case handoff | handoffStepEnd | handoffStepTimeout | firstRunCheckEnd | bootSet => simp only [handoffs_keep]
  case ucodeRoll | rollSwapPoint | microcodeReloadDone | tablesApply => simp only [microcodeRoll_keep]
  case beadRead | beadWrite | beadStatus | attestRecordWrite | snapshotWrite => simp only [beadOpcodes_keep]
  case inventory | stayQuiet | readSingleBlock | writeSingleBlock | readMultipleBlocks | select | resetToReady |
    getSystemInformation | getBlockSecurityStatus | lockSession | unlockSession | readRecord | getBeadStatus |
    beadSessionExpiry | beadFieldLoss | readerFieldPresent => simp only [beadField_keep]
  case keyUnlockLapse | aonWriteApply | seiTimeLoRead | beltPosLoRead | xspiOpEnd => simp only [registerAccesses_keep]
  case cwPause | cwCommit | cwStatus | cwPassStart | cwPassEnd | cwPauseExpiry | cfgParityFailure |
    regAccessSessionChange => simp only [clearwater_keep]
  case queuePtrMismatch | reservoirEccError | engineOverrun | engineHang | engineParity | engineTakeover |
    lockstepMismatch | statusBallLowTimeExpiry => simp only [queueAndEngineFaults_keep]
  case mbxReqReceive | streamFrameReceive | wakeFrameReceive => simp only [frameConsumers_keep]
  case mbxRspSend => exact mbxRspSend_keeps _
  case culletRead => exact culletRead_keeps _ _ _
  case svcStandardRequest | svcBusSuspend | svcPortRemoteWake | svcHostResumeK => simp only [svcPort_keep]
  case remoteWakeK => exact remoteWakeK_keeps _
  case recoveryWindowEnd => exact recoveryWindowEnd_keeps _ _
  case beadCommitEnd => exact beadCommitEnd_keeps _
  case lockBlock => exact lockBlock_keeps _ _
  case bootOkWrite | clkCtlPllEn | clkCtlSysSel | clkCtlRefEn => simp only [clockWrites_keep]
  case leaseWrite | keyUnlockWrite | registerWrite | aliasWrite | statusSeqClear | holderQuotaWrite |
    lineTimingRegWrite | measExtGo | attCtlGo => simp only [registerWrites_keep]
  case xspiRead | xspiProgram | xspiErase64k | xspiReadId => simp only [xspiCommands_keep]
  case svcVendorRequest | jtagRegAccess => simp only [pathAccesses_keep]
  case regRead => exact regRead_keeps _ _ _
  case regWrite => exact regWrite_keeps _ _ _
  case regModify => exact regModify_keeps _ _ _ _
  case regKeyedWrite => exact regKeyedWrite_keeps _ _ _
  case regwinFrameReceive => exact regwinFrameReceive_keeps

theorem framed (i : Instr) : Framed i := fun s t h => ⟨(keepsFrame i s t h).1.kept, (keepsFrame i s t h).2⟩

theorem canon_exec {i : Instr} {s t : State} (h : exec i s = .next t) (hc : Canon s.chip) : Canon t.chip :=
  (keepsFrame i s t h).1.canon hc

/-- A tick keeps the canonical forms. -/
theorem canon_tick {c : Chip} (hc : Canon c) : Canon c.tick := by
  have hfr : Fr frWrite c c.tick := by
    apply Chip.tick_fr (Fr.refl _ _) <;> first | exact mem_parts rfl | exact rfl | exact fun _ => rfl
  exact hfr.canon hc

theorem step_nil (c : Chip) : step { chip := c, pending := [] } = .next { chip := c.tick, pending := [] } := rfl

theorem step_cons (c : Chip) (i : Instr) (rest : List Instr) :
    step { chip := c, pending := i :: rest } = exec i { chip := c, pending := rest } := rfl

/-- Settles O48: a step is a tick or the command at the front, and both keep the canonical forms. -/
theorem stepKeepsCanonical : Obligations.StepKeepsCanonical := by
  rintro ⟨c, _ | ⟨i, rest⟩⟩ t hc ht
  · rw [step_nil] at ht
    rw [← Host.Outcome.next.inj ht]
    dsimp only at hc ⊢
    exact canon_tick hc
  · rw [step_cons] at ht
    exact canon_exec ht hc

/-- Settles O45: taking the command at the front is the step's second equation. -/
theorem stepRunsFrontCommand : Obligations.StepRunsFrontCommand := fun i rest s => step_cons s.chip i rest

/-- Settles O47: after reset the register list, the flash and the Bead blocks are empty lists. -/
theorem resetCanonical : Obligations.ResetCanonical := ⟨⟨by decide, by decide, by decide⟩, rfl⟩

/-- Settles O54: the supply, boot, clock, reset and integrity commands keep their frames, as every command does. -/
theorem frameResetIntegrity : Obligations.FrameResetIntegrity := by
  and_intros <;> intros <;> exact framed _

/-- Settles O55: the trunk and door commands keep their frames, as every command does. -/
theorem frameTrunkDoor : Obligations.FrameTrunkDoor := by
  and_intros <;> intros <;> exact framed _

/-- Settles O56: the power, port, channel and rail commands keep their frames, as every command does. -/
theorem framePower : Obligations.FramePower := by
  and_intros <;> intros <;> exact framed _

/-- Settles O57: the Power Delivery and drop commands keep their frames, as every command does. -/
theorem framePdDrop : Obligations.FramePdDrop := by
  and_intros <;> intros <;> exact framed _

/-- Settles O58: the service and line commands keep their frames, as every command does. -/
theorem frameServiceLine : Obligations.FrameServiceLine := by
  and_intros <;> intros <;> exact framed _

/-- Settles O59: the Pond and Seiche commands keep their frames, as every command does. -/
theorem framePondSeiche : Obligations.FramePondSeiche := by
  and_intros <;> intros <;> exact framed _

/-- Settles O60: the firmware, Bead and register commands keep their frames, as every command does. -/
theorem frameFirmwareBeadRegisters : Obligations.FrameFirmwareBeadRegisters := by
  and_intros <;> intros <;> exact framed _

end Sys2Proof.Proofs


namespace Sys2Proof.Proofs

open Sys2Proof.Machine Sys2Proof.Laws

/-! The contexts that a grant gives (07 R147, R149): the lowest-numbered free ones, and what each becomes. -/

/-! ### Reading contexts -/

theorem lookupNat_insertNat_other {α : Type} (l : List (Nat × α)) {k i : Nat} (v : α) (h : i ≠ k) :
    lookupNat (insertNat l k v) i = lookupNat l i := by
  induction l with
  | nil => simp [insertNat, lookupNat, h.symm]
  | cons x t ih =>
    obtain ⟨j, w⟩ := x
    unfold insertNat
    split
    · rw [lookupNat, lookupNat, ih]
    · split
      · next hjk => simp [lookupNat, h.symm, hjk]
      · rw [lookupNat, if_neg h.symm]

theorem lookupNat_eraseNat_other {α : Type} (l : List (Nat × α)) {k i : Nat} (h : i ≠ k) :
    lookupNat (eraseNat l k) i = lookupNat l i := by
  induction l with
  | nil => rfl
  | cons x t ih =>
    obtain ⟨j, w⟩ := x
    unfold eraseNat at ih ⊢
    by_cases hj : j = k
    · simp [hj, ih, lookupNat, h.symm]
    · simp [hj, ih, lookupNat]

/-- Storing a context leaves the others. -/
theorem ctx_setCtx_other (c : Chip) {k i : Nat} (x : Ctx) (h : i ≠ k) : (c.setCtx k x).ctx i = c.ctx i := by
  unfold Chip.setCtx Chip.ctx
  by_cases hx : x = {}
  · simp [hx, lookupNat_eraseNat_other _ h]
  · simp [hx, lookupNat_insertNat_other _ _ h]

theorem lookupNat_of_lt {α : Type} {l : List (Nat × α)} {i : Nat} (h : ∀ x ∈ l, i < x.1) : lookupNat l i = none := by
  induction l with
  | nil => rfl
  | cons x t ih =>
    have hi := h x (by simp)
    rw [lookupNat, if_neg (by omega), ih fun y hy => h y (by simp [hy])]

/-! ### The lowest-numbered free contexts (R149) -/

/-- `r` holds the `n` lowest-numbered contexts from `k` on that are free in the list `l` of contexts. -/
structure LowestFree (l : List (Nat × Ctx)) (k n : Nat) (r : List Nat) : Prop where
  length : r.length = n
  lower : ∀ i ∈ r, k ≤ i
  sorted : r.Pairwise (· < ·)
  free : ∀ i ∈ r, ((lookupNat l i).getD {}).grantable = true
  lowest : ∀ i j, j ∈ r → k ≤ i → i < j → i ∉ r → ((lookupNat l i).getD {}).grantable = false

theorem LowestFree.zero (l : List (Nat × Ctx)) (k : Nat) : LowestFree l k 0 [] := by constructor <;> simp

/-- A free context is the first. -/
theorem LowestFree.cons {l m : List (Nat × Ctx)} {k n : Nat} {r : List Nat} (h : LowestFree m (k + 1) n r)
    (hm : ∀ i, k < i → lookupNat m i = lookupNat l i) (hk : ((lookupNat l k).getD {}).grantable = true) :
    LowestFree l k (n + 1) (k :: r) where
  length := by simp [h.length]
  lower := by
    rintro i (_ | ⟨_, hi⟩)
    · exact le_rfl
    · exact Nat.le_of_succ_le (h.lower i hi)
  sorted := List.pairwise_cons.2 ⟨h.lower, h.sorted⟩
  free := by
    rintro i (_ | ⟨_, hi⟩)
    · exact hk
    · rw [← hm i (h.lower i hi)]
      exact h.free i hi
  lowest := by
    rintro i j (_ | ⟨_, hj⟩) hki hij hi
    · omega
    · obtain ⟨hne, hir⟩ : i ≠ k ∧ i ∉ r := by simpa using hi
      have hlt : k < i := by omega
      rw [← hm i hlt]
      exact h.lowest i j hj hlt hij hir

/-- A context that is not free is passed over. -/
theorem LowestFree.skip {l m : List (Nat × Ctx)} {k n : Nat} {r : List Nat} (h : LowestFree m (k + 1) n r)
    (hm : ∀ i, k < i → lookupNat m i = lookupNat l i) (hk : ((lookupNat l k).getD {}).grantable = false) :
    LowestFree l k n r where
  length := h.length
  lower i hi := Nat.le_of_succ_le (h.lower i hi)
  sorted := h.sorted
  free i hi := by
    rw [← hm i (h.lower i hi)]
    exact h.free i hi
  lowest i j hj hki hij hi := by
    obtain rfl | hlt := Nat.eq_or_lt_of_le hki
    · exact hk
    · rw [← hm i hlt]
      exact h.lowest i j hj hlt hij hi

theorem lowestFree_spec (fuel n k : Nat) (l : List (Nat × Ctx)) (hfuel : n + l.length ≤ fuel)
    (hl : l.Pairwise (fun a b => a.1 < b.1)) (hk : ∀ x ∈ l, k ≤ x.1) : LowestFree l k n (lowestFree fuel n k l) := by
  induction fuel generalizing n k l with
  | zero =>
    obtain rfl : n = 0 := by omega
    exact .zero l k
  | succ fuel ih =>
    unfold lowestFree
    split
    · next hn => exact hn ▸ .zero l k
    · next hn =>
      obtain ⟨n, rfl⟩ := Nat.exists_eq_succ_of_ne_zero hn
      cases l with
      | nil => exact .cons (ih n (k + 1) [] (by simp at hfuel; simpa using hfuel) .nil (by simp)) (fun _ _ => rfl) rfl
      | cons y t =>
        obtain ⟨j, x⟩ := y
        obtain ⟨hjt, ht⟩ := List.pairwise_cons.1 hl
        have hkj : k ≤ j := hk (j, x) (by simp)
        simp only [List.length_cons] at hfuel
        dsimp only
        split
        · next hlt =>
          have hall : ∀ y ∈ (j, x) :: t, k + 1 ≤ y.1 := by
            rintro y (_ | ⟨_, hy⟩)
            · exact hlt
            · exact lt_trans hlt (hjt y hy)
          refine .cons (ih n (k + 1) _ (by simp; omega) hl hall) (fun _ _ => rfl) ?_
          rw [lookupNat_of_lt hall]
          rfl
        · next hlt =>
          obtain rfl : j = k := by omega
          have hm : ∀ i, j < i → lookupNat t i = lookupNat ((j, x) :: t) i := fun i hi => by
            rw [lookupNat, if_neg (by omega)]
          have hx : (lookupNat ((j, x) :: t) j).getD {} = x := by simp [lookupNat]
          split
          · next hg => exact .cons (ih n (j + 1) t (by omega) ht hjt) hm (by rw [hx, hg])
          · next hg => exact .skip (ih (n + 1) (j + 1) t (by omega) ht hjt) hm (by rw [hx]; simpa using hg)

/-! ### What a granted context becomes (R147) -/

/-- A context as granted to a holder in a group whose first CID is `head`. -/
def grantedCtx (h : Fin 99) (g : Group) (head i : Nat) (x : Ctx) : Ctx :=
  { typ := (g.word head i).1, holder := h.val, gen := x.gen + 1, parent := (g.word head i).2, body := .zero, poisoned := false }

theorem ctx_setEach (w : Nat → Ctx → Ctx) {l : List Nat} (hl : l.Nodup) (c : Chip) (i : Nat) :
    (c.each l fun c k => c.setCtx k (w k (c.ctx k))).ctx i = if i ∈ l then w i (c.ctx i) else c.ctx i := by
  induction l generalizing c with
  | nil => rfl
  | cons k t ih =>
    obtain ⟨hk, ht⟩ := List.nodup_cons.1 hl
    have hstep : (c.each (k :: t) fun c k => c.setCtx k (w k (c.ctx k))) =
        (c.setCtx k (w k (c.ctx k))).each t fun c k => c.setCtx k (w k (c.ctx k)) := rfl
    rw [hstep, ih ht]
    by_cases hi : i = k
    · subst hi
      simp [hk]
    · simp [hi, ctx_setCtx_other]

theorem ctx_grantCtxs {l : List Nat} (hl : l.Nodup) (c : Chip) (h : Fin 99) (g : Group) (i : Nat) :
    (c.grantCtxs h g l).ctx i = if i ∈ l then grantedCtx h g (l.headD 0) i (c.ctx i) else c.ctx i :=
  ctx_setEach (grantedCtx h g (l.headD 0)) hl c i

theorem take_ctx {c : Chip} {h : Fin 99} {g : Group} {n : Nat} (hl : (c.take h g n).1.Nodup) (i : Nat) :
    (c.take h g n).2.ctx i =
      if i ∈ (c.take h g n).1 then grantedCtx h g ((c.take h g n).1.headD 0) i (c.ctx i) else c.ctx i := by
  rw [← ctx_grantCtxs hl]
  simp [Chip.take]
  rfl

/-- A group of contexts is taken from the lowest-numbered free ones (R149). -/
theorem take_lowestFree {c : Chip} (hc : c.pond.ctxs.Pairwise fun a b => a.1 < b.1) (h : Fin 99) (g : Group) (n : Nat) :
    LowestFree c.pond.ctxs 0 n (c.take h g n).1 :=
  lowestFree_spec _ n 0 _ le_rfl hc fun _ _ => Nat.zero_le _

/-- Settles O32: the CIDs taken are the lowest free ones, each is granted with its GEN raised, and no other context changes. -/
theorem allocatorGivesLowestFree : Obligations.AllocatorGivesLowestFree := by
  intro s hs h t k ht1 ht7 hk1 hk64 hr hg hv
  have heq := bareAlloc_granted ⟨ht1, ht7⟩ ⟨hk1, hk64⟩ hv
  have hlow := take_lowestFree hs h (.of t) k
  have hctx := take_ctx (h := h) (g := .of t) (List.Pairwise.imp (fun hab => ne_of_lt hab) hlow.sorted)
  refine runs_pondAlloc hr ?_ ⟨_, congrArg (fun c => c.pond.lastAlloc) heq, hlow.length, hlow.sorted, fun i hi => ?_, fun i hi => ?_,
    fun i j hj hij hi => hlow.lowest i j hj (Nat.zero_le _) hij hi⟩
  · rw [heq]
    exact (take_grants s.chip h (.of t) k).trans hg
  · refine ⟨hlow.free i hi, ?_⟩
    have hi' := hctx i
    rw [if_pos hi] at hi'
    rw [heq]
    exact congrArg Ctx.gen hi'
  · have hi' := hctx i
    rw [if_neg hi] at hi'
    rw [heq]
    exact hi'

end Sys2Proof.Proofs

namespace Sys2Proof.Proofs

open Sys2Proof.Machine Sys2Proof.Laws

/-! Events at the doors (06 R137, R139; 16 R336). -/

/-- In Sleep and Deep sleep an event waits for the return to Run: the ring of a door stays as it is (R336). -/
theorem post_evts_of_asleep {c : Chip} (h : c.asleep = true) (e : Event) (d : Door) :
    ((c.post e).doors[d]).evts = (c.doors[d]).evts := by
  simp only [Chip.post, Chip.postR, Fin.getElem_fin, Vector.getElem_mapFinIdx, h, DoorSt.take, if_true]
  split <;> rfl

/-- A part in Sleep whose door 0 is claimed by the trunk and subscribed to every class of event. -/
def sleepingSubscriber : Chip :=
  (State.reset.chip.updPwr (fun p => { p with st := .sleep })).updDoor 0
    (fun x => { x with path := some .trunk, sub := BitVec.allOnes 16 })

/-- Refutes O51: the first clause does not ask that the part be awake. In Sleep the event waits in the door's queue, and the
ring that should end with it is unchanged (`sleepingSubscriber`). -/
theorem not_eventsReachSubscribers : ¬ Obligations.EventsReachSubscribers := by
  unfold Obligations.EventsReachSubscribers
  intro h
  have hring := (h sleepingSubscriber { code := 0 } 0).1
  rw [post_evts_of_asleep rfl] at hring
  have hempty : (sleepingSubscriber.doors[(0 : Door)]).evts = [] := by simp [sleepingSubscriber]; rfl
  obtain ⟨hevts, -⟩ := hring (by simp [sleepingSubscriber]) (by simp [sleepingSubscriber]) (by rw [hempty]; decide)
  simp at hevts

end Sys2Proof.Proofs

namespace Sys2Proof.Proofs

open Sys2Proof.Machine Sys2Proof.Laws

/-! SUPPORT. The frame that keeps named parts and registers and nothing else: what an operation's frame lemma says of them. -/

/-- Every part. -/
def allParts : List Part :=
  [.clk, .fl, .flash, .blocks, .locked, .reqs, .fw, .trunk, .doors, .cullet, .ords, .rates, .svcPort, .pond, .engines, .basins, .ports,
   .chans, .rails, .sei, .svc, .pwr, .bead, .fab, .ladders, .free]

theorem mem_allParts (p : Part) : p ∈ allParts := by
  cases p <;> decide

/-- The frame that keeps these parts and registers. -/
def keeping (ps : List Part) (rs : List Reg) : Frame := ⟨allParts.filter (fun p => p ∉ ps), fun r => r ∉ rs⟩

@[simp] theorem mem_keeping_parts {ps : List Part} {rs : List Reg} {p : Part} : p ∈ (keeping ps rs).parts ↔ p ∉ ps := by
  simp [keeping, mem_allParts]

@[simp] theorem keeping_regs {ps : List Part} {rs : List Reg} {r : Reg} : (keeping ps rs).regs r = decide (r ∉ rs) := rfl

/-! ### Commands that answer a next state -/

/-- What a command's function leaves, it leaves where the command runs. -/
theorem runs_of_run {s : State} {i : Instr} {f : Chip → Chip} {p : Chip → Prop} (h : exec i s = s.run f) (hp : p (f s.chip)) :
    Runs i s p :=
  ⟨_, h, rfl, hp⟩

/-- The same where the Pond settles after the command and has nothing to serve. -/
theorem runs_of_runS {s : State} {i : Instr} {f : Chip → Chip} {p : Chip → Prop} (h : exec i s = s.runS f)
    (hg : (f s.chip).pond.grants = []) (hp : p (f s.chip)) : Runs i s p :=
  runs_of_run (f := fun c => (f c).settle) h (by rwa [settle_of_grants_nil hg])

/-! ### What events and answers keep -/

theorem keeping_of_not_mem {ps : List Part} {rs : List Reg} {p : Part} (h : p ∉ ps) : p ∈ (keeping ps rs).parts :=
  mem_keeping_parts.2 h

/-- An event changes the doors alone. -/
theorem fr_post {ps : List Part} {rs : List Reg} (c : Chip) (e : Event) (h : Part.doors ∉ ps) : Fr (keeping ps rs) c (c.post e) :=
  Chip.post_fr (Fr.refl _ c) (keeping_of_not_mem h)

/-- An event with a rate window changes the doors and the windows alone. -/
theorem fr_postRate {ps : List Part} {rs : List Reg} (c : Chip) (i k : Nat) (e : Event) (p : Option Nat) (n : Nat)
    (h : Part.doors ∉ ps ∧ Part.rates ∉ ps) : Fr (keeping ps rs) c (c.postRate i k e p n) :=
  Chip.postRate_fr (Fr.refl _ c) (keeping_of_not_mem h.1) (keeping_of_not_mem h.2)

/-- An answer changes the doors, their rings, the rate windows and the trunk's receive spaces alone. -/
theorem fr_answer {ps : List Part} {rs : List Reg} (c : Chip) (q : ReqId) (r : Nat) (l : List Nat) (n : Nat)
    (h : (Part.trunk ∉ ps ∧ Part.doors ∉ ps) ∧ Part.reqs ∉ ps ∧ Part.rates ∉ ps) : Fr (keeping ps rs) c (c.answer q r l n) :=
  Chip.answer_fr (Fr.refl _ c) (keeping_of_not_mem h.1.1) (keeping_of_not_mem h.1.2) (keeping_of_not_mem h.2.1)
    (keeping_of_not_mem h.2.2)

end Sys2Proof.Proofs

namespace Sys2Proof.Proofs

open Sys2Proof.Machine Sys2Proof.Laws

/-! SUPPORT. Fields of a register that a status update (R316), a record of an RS bit or a count changes. -/

theorem get_of_rd {c d : Chip} {r : Reg} (h : d.rd r = c.rd r) (f : Field) : d.get r f = c.get r f := by
  rw [Chip.get, Chip.get, h]

theorem bit_of_rd {c d : Chip} {r : Reg} (h : d.rd r = c.rd r) (f : Field) : d.bit r f = c.bit r f := by
  rw [Chip.bit, Chip.bit, get_of_rd h]

theorem rd_bump_other (c : Chip) {r q : Reg} (h : q ≠ r) : (c.bump r).rd q = c.rd q := rd_setF_other c _ _ h

theorem get_setSt_field (c : Chip) (h : Canon c) (r : Reg) (f g : Field) (v : Nat) (hf : Field.fits f) (hg : g.hi < 24)
    (hd : f.hi < g.lo ∨ g.hi < f.lo) : (c.setSt r f v).get r g = c.get r g := by
  unfold Chip.setSt
  split
  · rfl
  · rw [get_bump _ (canon_setF h _ _ _) _ _ hg, get_setF_field c h _ _ _ _ hf (by omega) hd]

theorem bit_setSt_same (c : Chip) (h : Canon c) (r : Reg) (f : Field) (v : Bool) (hf : Field.fits f) (hs : f.hi < 24) :
    (c.setSt r f (bitOf v)).bit r f = v := by
  have hlt : bitOf v < 2 ^ (f.hi + 1 - f.lo) :=
    Nat.lt_of_lt_of_le (by cases v <;> decide : bitOf v < 2 ^ 1) (Nat.pow_le_pow_right (by decide) (by have := hf.1; omega))
  rw [Chip.bit, get_setSt_same c h r f _ hf hs hlt]
  cases v <;> rfl

theorem bit_setSt_one (c : Chip) (h : Canon c) (r : Reg) (f : Field) (hf : Field.fits f) (hs : f.hi < 24) :
    (c.setSt r f 1).bit r f = true := bit_setSt_same c h r f true hf hs

theorem bit_setSt_zero (c : Chip) (h : Canon c) (r : Reg) (f : Field) (hf : Field.fits f) (hs : f.hi < 24) :
    (c.setSt r f 0).bit r f = false := bit_setSt_same c h r f false hf hs

theorem bit_setSt_field (c : Chip) (h : Canon c) (r : Reg) (f g : Field) (v : Nat) (hf : Field.fits f) (hg : g.hi < 24)
    (hd : f.hi < g.lo ∨ g.hi < f.lo) : (c.setSt r f v).bit r g = c.bit r g := by
  rw [Chip.bit, Chip.bit, get_setSt_field c h r f g v hf hg hd]

theorem canon_record {c : Chip} (h : Canon c) (r : Reg) (f : Field) : Canon (c.record r f) := canon_bump (canon_setF h _ _ _) _

theorem rd_record_other (c : Chip) {r q : Reg} (f : Field) (h : q ≠ r) : (c.record r f).rd q = c.rd q := by
  rw [Chip.record, rd_bump_other _ h, rd_setF_other _ _ _ h]

theorem bit_setF_same (c : Chip) (h : Canon c) (r : Reg) (f : Field) (v : Bool) (hf : Field.fits f) :
    (c.setF r f (bitOf v)).bit r f = v := by
  have hlt : bitOf v < 2 ^ (f.hi + 1 - f.lo) :=
    Nat.lt_of_lt_of_le (by cases v <;> decide : bitOf v < 2 ^ 1) (Nat.pow_le_pow_right (by decide) (by have := hf.1; omega))
  rw [Chip.bit, get_setF_same c h r f _ hf, Nat.mod_eq_of_lt hlt]
  cases v <;> rfl

theorem bit_setF_one (c : Chip) (h : Canon c) (r : Reg) (f : Field) (hf : Field.fits f) : (c.setF r f 1).bit r f = true :=
  bit_setF_same c h r f true hf

theorem bit_setF_zero (c : Chip) (h : Canon c) (r : Reg) (f : Field) (hf : Field.fits f) : (c.setF r f 0).bit r f = false :=
  bit_setF_same c h r f false hf

theorem bit_setF_field (c : Chip) (h : Canon c) (r : Reg) (f g : Field) (v : Nat) (hf : Field.fits f) (hg : g.hi < 32)
    (hd : f.hi < g.lo ∨ g.hi < f.lo) : (c.setF r f v).bit r g = c.bit r g := by
  rw [Chip.bit, Chip.bit, get_setF_field c h r f g v hf hg hd]

theorem bit_bump (c : Chip) (h : Canon c) (r : Reg) (g : Field) (hg : g.hi < 24) : (c.bump r).bit r g = c.bit r g := by
  rw [Chip.bit, Chip.bit, get_bump c h r g hg]

/-- A recorded bit reads 1. -/
theorem bit_record_same (c : Chip) (h : Canon c) (r : Reg) (f : Field) (hf : Field.fits f) (hs : f.hi < 24) :
    (c.record r f).bit r f = true := by
  rw [Chip.record, bit_bump _ (canon_setF h _ _ _) r f hs]
  exact bit_setF_same c h r f true hf

theorem get_record_field (c : Chip) (h : Canon c) (r : Reg) (f g : Field) (hf : Field.fits f) (hg : g.hi < 24)
    (hd : f.hi < g.lo ∨ g.hi < f.lo) : (c.record r f).get r g = c.get r g := by
  rw [Chip.record, get_bump _ (canon_setF h _ _ _) r g hg, get_setF_field c h r f g _ hf (by omega) hd]

theorem bit_record_field (c : Chip) (h : Canon c) (r : Reg) (f g : Field) (hf : Field.fits f) (hg : g.hi < 24)
    (hd : f.hi < g.lo ∨ g.hi < f.lo) : (c.record r f).bit r g = c.bit r g := by
  rw [Chip.bit, Chip.bit, get_record_field c h r f g hf hg hd]

theorem canon_incSat {c : Chip} (h : Canon c) (r : Reg) (f : Field) (n : Nat) : Canon (c.incSat r f n) := canon_setF h _ _ _

theorem rd_incSat_other (c : Chip) {r q : Reg} (f : Field) (n : Nat) (h : q ≠ r) : (c.incSat r f n).rd q = c.rd q :=
  rd_setF_other c _ _ h

/-- A saturating counter's next value. -/
theorem get_incSat_same (c : Chip) (h : Canon c) (r : Reg) (f : Field) (n : Nat) (hf : Field.fits f) :
    (c.incSat r f n).get r f = sat (f.hi + 1 - f.lo) (c.get r f + n) := by
  have hpos : 0 < 2 ^ (f.hi + 1 - f.lo) := Nat.two_pow_pos _
  rw [Chip.incSat, get_setF_same c h r f _ hf, Nat.mod_eq_of_lt]
  unfold sat
  omega

end Sys2Proof.Proofs

namespace Sys2Proof.Proofs

open Sys2Proof.Machine Sys2Proof.Laws

/-! SUPPORT. Answers stay answers: what follows an answer and leaves the rings' entries and responses. -/

/-- The door's ring entries and responses read in `d` as in `c`. -/
def SameRing (c d : Chip) (x : Door) : Prop :=
  (d.doors[x]).reqs = (c.doors[x]).reqs ∧ (d.doors[x]).rsps = (c.doors[x]).rsps ∧ (d.doors[x]).rspWait = (c.doors[x]).rspWait

theorem SameRing.of_doors {c d : Chip} (h : d.doors = c.doors) (x : Door) : SameRing c d x := by
  unfold SameRing
  rw [h]
  exact ⟨rfl, rfl, rfl⟩

theorem SameRing.trans {a b c : Chip} {x : Door} (h : SameRing a b x) (k : SameRing b c x) : SameRing a c x :=
  ⟨k.1.trans h.1, k.2.1.trans h.2.1, k.2.2.trans h.2.2⟩

theorem answered_of_sameRing {c d : Chip} {q : ReqId} {e : ReqEntry} {result : Nat} {data : List Nat}
    (h : Answered c q e result data) (hs : SameRing c d q.door) : Answered d q e result data := by
  obtain ⟨hreqs, hrsps, hwait⟩ := hs
  obtain ⟨⟨x, hx, hdone⟩, p, hp, hpart⟩ := h
  refine ⟨⟨x, ?_, hdone⟩, p, ?_, hpart⟩
  · rw [← hx, Chip.entry?, Chip.entry?, hreqs]
  · rwa [hrsps, hwait]

/-- A door that takes an event keeps its entries and responses (R137). -/
theorem take_ring (d : DoorSt) (asleep : Bool) (e : Event) :
    (d.take asleep e).reqs = d.reqs ∧ (d.take asleep e).rsps = d.rsps ∧ (d.take asleep e).rspWait = d.rspWait := by
  unfold DoorSt.take DoorSt.put
  split
  · exact ⟨rfl, rfl, rfl⟩
  · split
    · exact ⟨rfl, rfl, rfl⟩
    · split <;> exact ⟨rfl, rfl, rfl⟩

theorem postR_sameRing (c : Chip) (r : Route) (e : Event) (x : Door) : SameRing c (c.postR r e) x := by
  simp only [SameRing, Chip.postR, Fin.getElem_fin, Vector.getElem_mapFinIdx]
  split
  · exact take_ring _ _ _
  · exact ⟨rfl, rfl, rfl⟩

theorem post_sameRing (c : Chip) (e : Event) (x : Door) : SameRing c (c.post e) x := postR_sameRing c _ e x

theorem postRateR_sameRing (c : Chip) (r : Route) (i k : Nat) (e : Event) (p : Option Nat) (n : Nat) (x : Door) :
    SameRing c (c.postRateR r i k e p n) x := by
  unfold Chip.postRateR
  dsimp only
  split
  · exact (postR_sameRing c r _ x).trans (.of_doors rfl x)
  · exact .of_doors rfl x

/-- A request that executes and whose door is not being released is answered. -/
theorem answer_of_entry {c d : Chip} {q : ReqId} {e : ReqEntry} (he : c.entry? q = some e) (hst : e.st ≠ .done)
    (hrel : (c.doors[q.door]).releasing = none) {f : Frame} (hf : Fr f c d) (hreqs : Part.reqs ∉ f.parts) (result : Nat)
    (data : List Nat) (n : Nat) : Answered (d.answer q result data n) q e result data := by
  obtain ⟨hkept, -, hkeptrel⟩ := hf.kept.reqs hreqs q.door
  refine answer_answered (x := e) ?_ hst (hkeptrel.trans hrel) result data n e rfl
  rw [← he, Chip.entry?, Chip.entry?, hkept]

end Sys2Proof.Proofs
namespace Sys2Proof.Proofs

open Sys2Proof.Machine Sys2Proof.Laws

/-! Inlets, outfall pulses, PPS_OUT and the calibration window (12 R264 to R271). -/

/-- A new event leaves Seiche. -/
theorem post_sei (c : Chip) (e : Event) : (c.post e).sei = c.sei :=
  (fr_post (ps := [.sei]) (rs := []) c e (by simp)).kept.sei (by simp)

theorem updInlet_same (c : Chip) (i : Io) (f : InletSt → InletSt) : (c.updInlet i f).sei.inlets[i] = f c.sei.inlets[i] := by
  simp [Chip.updInlet]

/-- A record of a stream leaves Seiche. -/
theorem putRec_sei (c : Chip) (s : Strm) (src : Nat) (h : RecHdr) (data : List Byte) : (c.putRec s src h data).2.sei = c.sei := by
  refine (Chip.putRec_fr2 (f := keeping [.sei] []) (Fr.refl _ c) ?_ ?_ ?_ ?_ ?_ ?_ ?_).kept.sei ?_ <;> simp

/-- An inlet report is the inlet's last one, and a record where records are wanted (R269). -/
theorem inReport_sei (c : Chip) (i : Io) (r : InReport) :
    (c.inReport i r).sei = (c.updInlet i (fun x => { x with report := some r })).sei := by
  unfold Chip.inReport
  dsimp only
  split
  · rfl
  · split
    · rfl
    · rw [putRec_sei]

/-- A rise opens an object (R267). -/
theorem inTake_rise_sei {c : Chip} {i : Io} {e : InEdge} (he : e.lead = true) :
    ((c.inTake i e).sei.inlets[i]).open_ = some e := by
  simp only [Chip.inTake, he, if_true]
  split <;> simp [-Fin.getElem_fin, inReport_sei, updInlet_same]

/-- A fall reports the object and ends it (R267, R268). -/
theorem inTake_fall_sei {c : Chip} {i : Io} {e : InEdge} (he : e.lead = false) :
    ((c.inTake i e).sei.inlets[i]).open_ = none ∧
      ((c.inTake i e).sei.inlets[i]).report = some (inReportOf (c.sei.inlets[i]).open_ (some e)) := by
  simp [-Fin.getElem_fin, Chip.inTake, he, inReport_sei, updInlet_same]

/-- The edges wait while the basin is in reset or the part sleeps (R266). -/
theorem inDrain_waits {c : Chip} {i : Io} (h : (c.basins[c.inBasin i]).inReset = true ∨ c.dozing = true) : c.inDrain i = c := by
  simp [-Fin.getElem_fin, Chip.inDrain, h]

/-- A single edge is taken at once where the basin runs. -/
theorem inDrain_single {c : Chip} {i : Io} {e : InEdge} (hreset : (c.basins[c.inBasin i]).inReset = false)
    (hdoze : c.dozing = false) (he : (c.sei.inlets[i]).edges = [e]) :
    c.inDrain i = (c.inTake i e).updInlet i (fun x => { x with edges := [] }) := by
  simp [-Fin.getElem_fin, Chip.inDrain, hreset, hdoze, he, Chip.each]

/-- The edge `e` queued at an inlet. -/
def edgeQueued (c : Chip) (i : Io) (e : InEdge) : Chip := c.updInlet i (fun x => { x with edges := x.edges ++ [e] })

theorem edgeQueued_inlet (c : Chip) (i : Io) (e : InEdge) :
    (edgeQueued c i e).sei.inlets[i] = { c.sei.inlets[i] with edges := (c.sei.inlets[i]).edges ++ [e] } :=
  updInlet_same c i _

/-- An edge of an enabled inlet that holds its level is queued and drained, where fewer than 16 wait. -/
theorem exec_inletEdge {s : State} {i : Io} {h l : Bool} {k : Nat} (hen : s.chip.bit (.INLET_CTL i) F.INLET_CTL_EN = true)
    (hruns : s.chip.seiRuns = true) (hheld : s.chip.inletHeld i k = true) (hroom : (s.chip.sei.inlets[i]).edges.length < 16)
    (hl : (h != s.chip.bit (.INLET_CTL i) F.INLET_CTL_POL) = l) :
    exec (.inletEdge i ⟨h, k⟩) s = s.run (fun c => (edgeQueued c i (s.chip.inStamp i l)).inDrain i) := by
  have hexec : exec (.inletEdge i ⟨h, k⟩) s = execInletEdge i ⟨h, k⟩ s := rfl
  simp [-Fin.getElem_fin, hexec, execInletEdge, State.run, hen, hruns, hheld, hroom, hl, edgeQueued]

/-- An edge that comes to an empty queue of a running basin is taken at once. -/
theorem inDrain_edgeQueued {c : Chip} {i : Io} {e : InEdge} (hreset : (c.basins[c.inBasin i]).inReset = false)
    (hdoze : c.dozing = false) (hempty : (c.sei.inlets[i]).edges = []) :
    (edgeQueued c i e).inDrain i = ((edgeQueued c i e).inTake i e).updInlet i (fun x => { x with edges := [] }) :=
  inDrain_single (c := edgeQueued c i e) hreset hdoze (by rw [edgeQueued_inlet, hempty, List.nil_append])

/-- SEI_CAL after a calibration window (R271). -/
theorem fget_calWord (p : BitVec 31) :
    fget (fset (fset 0#32 F.SEI_CAL_CAL_VALID 1) F.SEI_CAL_PERIOD p.toNat) F.SEI_CAL_PERIOD = p.toNat ∧
      fget (fset (fset 0#32 F.SEI_CAL_CAL_VALID 1) F.SEI_CAL_PERIOD p.toNat) F.SEI_CAL_CAL_VALID = 1 := by
  constructor
  · rw [fget_fset_same _ _ _ (by decide)]
    exact Nat.mod_eq_of_lt p.isLt
  · rw [fget_fset_other _ _ _ _ (by decide) (by decide) (by decide)]
    decide

/-- Settles O36: each command's branch, with the edge of an inlet queued and drained as its basin allows. -/
theorem seicheIo : Obligations.SeicheIo := by
  unfold Obligations.SeicheIo
  intro s hcanon
  refine ⟨?_, ?_, ?_, ?_, ?_, ?_, ?_, ?_⟩
  · intro o hdue
    refine ⟨_, rfl, rfl, ?_⟩
    simp [-Fin.getElem_fin, hdue]
  · intro i h k hen hruns hheld hroom hstopped
    refine runs_of_run (exec_inletEdge hen hruns hheld hroom rfl) ?_
    rw [inDrain_waits (c := edgeQueued s.chip i _) hstopped, edgeQueued_inlet]
  · intro i h k hen hruns hheld hfull
    have hexec : exec (.inletEdge i ⟨h, k⟩) s = execInletEdge i ⟨h, k⟩ s := rfl
    refine ⟨_, hexec, rfl, ?_⟩
    simp [-Fin.getElem_fin, hen, hruns, hheld, hfull, post_sei]
  · intro i h k hen hruns hempty hreset hdoze hheld hlead
    refine runs_of_run (exec_inletEdge hen hruns hheld (by simp [-Fin.getElem_fin, hempty]) hlead) ?_
    rw [inDrain_edgeQueued hreset hdoze hempty, updInlet_same]
    exact ⟨rfl, inTake_rise_sei rfl⟩
  · intro i h k hen hruns hempty hreset hdoze hheld htrail
    refine runs_of_run (exec_inletEdge hen hruns hheld (by simp [-Fin.getElem_fin, hempty]) htrail) ?_
    rw [inDrain_edgeQueued hreset hdoze hempty, updInlet_same]
    obtain ⟨hopen, hreport⟩ := inTake_fall_sei (c := edgeQueued s.chip i (s.chip.inStamp i false)) (i := i)
      (e := s.chip.inStamp i false) rfl
    exact ⟨hopen, by rw [hreport, edgeQueued_inlet]⟩
  · intro hen hruns hsecond
    refine ⟨_, rfl, rfl, ?_⟩
    simp [hen, hruns, hsecond]
  · intro hdue
    refine ⟨_, rfl, rfl, ?_⟩
    cases hpps : s.chip.sei.pps <;> simp [hdue, hpps]
  · intro p hst hdue hruns
    have hexec : exec (.calWindowEnd p) s = execCalWindowEnd p s := rfl
    refine ⟨_, hexec, rfl, ?_⟩
    simp [hst, Nat.not_lt.2 hdue, hruns, Chip.get, Chip.bit, rd_wr_same _ hcanon, fget_calWord]

end Sys2Proof.Proofs
namespace Sys2Proof.Proofs

open Sys2Proof.Machine Sys2Proof.Laws

/-! Shafts, Z edges and belt stops (12 R248 to R253). -/

/-! ### What the operations leave -/

/-- What each step of a run over a list leaves, the run leaves. -/
theorem each_keeps {α β : Type} (g : Chip → β) {f : Chip → α → Chip} (h : ∀ c x, g (f c x) = g c) (c : Chip) (l : List α) :
    g (c.each l f) = g c := by
  unfold Chip.each
  induction l generalizing c with
  | nil => rfl
  | cons x l ih => rw [List.foldl_cons, ih, h]

theorem setSt_sei (c : Chip) (r : Reg) (f : Field) (v : Nat) : (c.setSt r f v).sei = c.sei := by
  unfold Chip.setSt
  split <;> rfl

theorem rate_sei (c : Chip) (b : Belt) (fwd : Bool) (es : List (BitVec 64)) : (c.rate b fwd es).sei = c.sei := by
  refine (Chip.rate_fr (f := keeping [.sei] []) (Fr.refl _ c) ?_ ?_).kept.sei ?_ <;> simp

/-- The rate of a belt leaves its status. -/
theorem rate_status (c : Chip) (b : Belt) (fwd : Bool) (es : List (BitVec 64)) :
    (c.rate b fwd es).rd (.BELT_STATUS b) = c.rd (.BELT_STATUS b) := by
  refine (Chip.rate_fr (f := keeping [] [.BELT_STATUS b]) (Fr.refl _ c) ?_ ?_).kept.regs _ ?_ <;> simp

theorem canon_rate {c : Chip} (h : Canon c) (b : Belt) (fwd : Bool) (es : List (BitVec 64)) : Canon (c.rate b fwd es) := by
  refine (Chip.rate_fr (f := keeping [] []) (Fr.refl _ c) ?_ ?_).canon h <;> simp

/-- The jams of a belt leave the belts (R270). -/
theorem jams_belts (c : Chip) (b : Belt) : (c.jams b).sei.belts = c.sei.belts := by
  simp only [Chip.jams]
  refine each_keeps (fun c => c.sei.belts) (fun c i => ?_) c _
  split
  · rfl
  · split
    · exact Eq.trans (b := (c.post _).sei.belts) rfl (congrArg Seiche.belts (post_sei c _))
    · rfl

theorem jams_rd (c : Chip) (b : Belt) (r : Reg) : (c.jams b).rd r = c.rd r := by
  have hfr : Fr (keeping [] [r]) c (c.jams b) := Chip.jams_fr (Fr.refl _ c) (by simp) (by simp)
  exact hfr.kept.regs r (by simp)

/-! ### Edges (R248 to R252) -/

/-- Where a belt stands after a counted edge. -/
def stepped (p : Pos) (fwd : Bool) : Pos := if fwd then p + 1#48 else p - 1#48

theorem stepped_eq (p : Pos) (fwd : Bool) : stepped p fwd = p + (if fwd then 1#48 else -1#48) := by
  cases fwd
  · exact BitVec.sub_eq_add_neg _ _
  · rfl

/-- A belt after a counted edge. -/
def edgeBelt (c : Chip) (b : Belt) (fwd : Bool) : BeltSt :=
  let x := c.sei.belts[b]
  let p := stepped x.pos fwd
  let other : Bool := c.bit (.BELT_STATUS b) F.BELT_STATUS_DIR == fwd
  { (if c.posValid b then x.hitSlots p fwd c.sei.time (c.basins[b]).inReset else x) with
    pos := p, past := x.pastNow c.sei.time, edges := (c.sei.time :: (if x.started && other then [] else x.edges)).take 257
    lastEdge := c.clk.now, started := true, counted := x.counted + 1
    turns := if other && x.counted != 0 then x.turns + 1 else x.turns
    crossed := if c.posValid b then x.crossed ++ [(p, fwd, !c.armUp b)] else x.crossed }

theorem edgeBelt_pos (c : Chip) (b : Belt) (fwd : Bool) : (edgeBelt c b fwd).pos = stepped (c.sei.belts[b]).pos fwd := rfl

theorem edgeBelt_counted (c : Chip) (b : Belt) (fwd : Bool) : (edgeBelt c b fwd).counted = (c.sei.belts[b]).counted + 1 := rfl

theorem edgeBelt_lastEdge (c : Chip) (b : Belt) (fwd : Bool) : (edgeBelt c b fwd).lastEdge = c.clk.now := rfl

/-- With a valid position the slots are matched (R257). -/
theorem edgeBelt_slots {c : Chip} {b : Belt} (h : c.posValid b = true) (fwd : Bool) : (edgeBelt c b fwd).slots =
    ((c.sei.belts[b]).hitSlots (stepped (c.sei.belts[b]).pos fwd) fwd c.sei.time (c.basins[b]).inReset).slots := by
  simp only [edgeBelt, h, if_true]

/-- The chip when an edge has moved the belt. -/
def edgeStep (c : Chip) (b : Belt) (fwd : Bool) : Chip :=
  (if c.posValid b then c.freshCrossed b (stepped (c.sei.belts[b]).pos fwd) fwd (!c.armUp b) else c).updBelt b
    (fun _ => edgeBelt c b fwd)

theorem canon_edgeStep {c : Chip} (h : Canon c) (b : Belt) (fwd : Bool) : Canon (edgeStep c b fwd) := by
  unfold edgeStep
  split <;> exact ⟨h.regs, h.flash, h.blocks⟩

/-- The chip when an edge has moved the belt and DIR is set. -/
def edgeMoved (c : Chip) (b : Belt) (fwd : Bool) : Chip :=
  (edgeStep c b fwd).setSt (.BELT_STATUS b) F.BELT_STATUS_DIR (bitOf !fwd)

/-- An edge that comes while the belt is stopped ends the stop (R252). -/
def unstop (c : Chip) (b : Belt) (p : Pos) : Chip :=
  if c.bit (.BELT_STATUS b) F.BELT_STATUS_STOPPED then
    (c.setSt (.BELT_STATUS b) F.BELT_STATUS_STOPPED 0).post ((c.setSt (.BELT_STATUS b) F.BELT_STATUS_STOPPED 0).evBelt 0x0708 b [0, p.toNat])
  else c

theorem countEdge_eq (c : Chip) (b : Belt) (fwd : Bool) :
    c.countEdge b fwd = (unstop ((edgeMoved c b fwd).rate b fwd (edgeBelt c b fwd).edges) b (stepped (c.sei.belts[b]).pos fwd)).jams b := by
  unfold Chip.countEdge edgeMoved edgeStep edgeBelt unstop
  by_cases h : c.posValid b = true
  · simp only [h]
    rfl
  · simp only [Bool.not_eq_true] at h
    simp only [h]
    rfl

theorem edgeMoved_belts (c : Chip) (b : Belt) (fwd : Bool) : (edgeMoved c b fwd).sei.belts = c.sei.belts.set b (edgeBelt c b fwd) := by
  rw [edgeMoved, setSt_sei, edgeStep]
  split <;> rfl

theorem unstop_sei (c : Chip) (b : Belt) (p : Pos) : (unstop c b p).sei = c.sei := by
  unfold unstop
  split
  · rw [post_sei, setSt_sei]
  · rfl

/-- A counted edge leaves the belt so. -/
theorem countEdge_belt (c : Chip) (b : Belt) (fwd : Bool) : (c.countEdge b fwd).sei.belts[b] = edgeBelt c b fwd := by
  rw [countEdge_eq]
  simp [jams_belts, unstop_sei, rate_sei, edgeMoved_belts]

theorem canon_edgeMoved {c : Chip} (h : Canon c) (b : Belt) (fwd : Bool) : Canon (edgeMoved c b fwd) :=
  canon_setSt (canon_edgeStep h b fwd) _ _ _

/-- DIR after a counted edge (R250). -/
theorem countEdge_dir {c : Chip} (h : Canon c) (b : Belt) (fwd : Bool) :
    (c.countEdge b fwd).bit (.BELT_STATUS b) F.BELT_STATUS_DIR = !fwd := by
  have hmoved := canon_rate (canon_edgeMoved h b fwd) b fwd (edgeBelt c b fwd).edges
  rw [countEdge_eq, bit_of_rd (jams_rd _ _ _)]
  have hdir : ((edgeMoved c b fwd).rate b fwd (edgeBelt c b fwd).edges).bit (.BELT_STATUS b) F.BELT_STATUS_DIR = !fwd := by
    rw [bit_of_rd (rate_status _ _ _ _), edgeMoved]
    exact bit_setSt_same _ (canon_edgeStep h b fwd) _ _ _ (by decide) (by decide)
  unfold unstop
  split
  · rw [bit_of_rd (post_rd _ _ _), bit_setSt_field _ hmoved _ _ _ _ (by decide) (by decide) (by decide), hdir]
  · exact hdir

/-- A counted edge leaves the belt not stopped (R252). -/
theorem countEdge_stopped {c : Chip} (h : Canon c) (b : Belt) (fwd : Bool) :
    (c.countEdge b fwd).bit (.BELT_STATUS b) F.BELT_STATUS_STOPPED = false := by
  have hmoved := canon_rate (canon_edgeMoved h b fwd) b fwd (edgeBelt c b fwd).edges
  rw [countEdge_eq, bit_of_rd (jams_rd _ _ _)]
  unfold unstop
  split
  · rw [bit_of_rd (post_rd _ _ _)]
    exact bit_setSt_same _ hmoved _ _ false (by decide) (by decide)
  · next hstopped => simpa using hstopped

/-! ### Positions and Z edges (R251, R253) -/

theorem expire_sei (c : Chip) (m : MarkBody) (cid : Nat) (gen : Byte) (cause : Nat) : (c.expire m cid gen cause).sei = c.sei := by
  refine (Chip.expire_fr (f := keeping [.sei] []) (Fr.refl _ c) ?_ ?_ ?_ ?_ ?_ ?_ ?_ ?_).kept.sei ?_ <;> simp

theorem expire_status (c : Chip) (m : MarkBody) (cid : Nat) (gen : Byte) (cause : Nat) (b : Belt) :
    (c.expire m cid gen cause).rd (.BELT_STATUS b) = c.rd (.BELT_STATUS b) := by
  refine (Chip.expire_fr (f := keeping [] [.BELT_STATUS b]) (Fr.refl _ c) ?_ ?_ ?_ ?_ ?_ ?_ ?_ ?_).kept.regs _ ?_ <;> simp

theorem canon_unloadBelt {c : Chip} (h : Canon c) (b : Belt) : Canon (c.unloadBelt b) := by
  refine (Chip.unloadBelt_fr (f := keeping [] []) (Fr.refl _ c) ?_ ?_ ?_ ?_).canon h <;> simp

/-- The chip when a position is set, its marks unloaded. -/
def moved (c : Chip) (b : Belt) (p : Pos) : Chip :=
  (c.unloadBelt b).updBelt b (fun x => { x with pos := p, past := x.pastNow (c.unloadBelt b).sei.time, zRes := none })

theorem canon_moved {c : Chip} (h : Canon c) (b : Belt) (p : Pos) : Canon (moved c b p) := by
  have hcanon := canon_unloadBelt h b
  exact ⟨hcanon.regs, hcanon.flash, hcanon.blocks⟩

/-- The chip when a position is set and the marks that it passes are not yet expired. -/
def positioned (c : Chip) (b : Belt) (p : Pos) : Chip := (moved c b p).setSt (.BELT_STATUS b) F.BELT_STATUS_POS_VALID (bitOf true)

theorem setBeltPos_eq (c : Chip) (b : Belt) (p : Pos) :
    ∃ l : List (Nat × Byte × MarkBody), c.setBeltPos b p = (positioned c b p).each l (fun c x => c.expire x.2.2 x.1 x.2.1 4) :=
  ⟨_, rfl⟩

/-- A position set at a belt: the position, no residue, and POS_VALID (R251). -/
theorem setBeltPos_belt {c : Chip} (h : Canon c) (b : Belt) (p : Pos) :
    ((c.setBeltPos b p).sei.belts[b]).pos = p ∧ ((c.setBeltPos b p).sei.belts[b]).zRes = none ∧
      (c.setBeltPos b p).posValid b = true := by
  obtain ⟨l, hl⟩ := setBeltPos_eq c b p
  have hsei : (c.setBeltPos b p).sei = (positioned c b p).sei := by
    rw [hl, each_keeps (fun c => c.sei) (fun c x => expire_sei c _ _ _ _)]
  have hstatus : (c.setBeltPos b p).rd (.BELT_STATUS b) = (positioned c b p).rd (.BELT_STATUS b) := by
    rw [hl, each_keeps (fun c => c.rd (.BELT_STATUS b)) (fun c x => expire_status c _ _ _ _ b)]
  have hvalid : (c.setBeltPos b p).posValid b = true :=
    (bit_of_rd hstatus _).trans (bit_setSt_same _ (canon_moved h b p) _ _ true (by decide) (by decide))
  rw [hsei, positioned, setSt_sei, moved, updBelt_same]
  exact ⟨rfl, rfl, hvalid⟩

/-- What the check at a Z edge can do (R253): nothing, note the residue, or record Z_ERR. -/
theorem zCheck_cases (c : Chip) (b : Belt) :
    c.zCheck b = c ∨ (∃ r, c.zCheck b = c.updBelt b (fun x => { x with zRes := some r })) ∨
      ∃ e, c.zCheck b = (c.record (.BELT_STATUS b) F.BELT_STATUS_Z_ERR).post e := by
  unfold Chip.zCheck
  split
  · exact .inl rfl
  · dsimp only
    split
    · exact .inr (.inl ⟨_, rfl⟩)
    · split
      · exact .inl rfl
      · exact .inr (.inr ⟨_, rfl⟩)

/-- The check at a Z edge leaves the position, what waits for a Z edge, and POS_VALID. -/
theorem zCheck_keeps {c : Chip} (h : Canon c) (b : Belt) :
    ((c.zCheck b).sei.belts[b]).pos = (c.sei.belts[b]).pos ∧ ((c.zCheck b).sei.belts[b]).zDue = (c.sei.belts[b]).zDue ∧
      (c.zCheck b).posValid b = c.posValid b := by
  rcases zCheck_cases c b with hz | ⟨r, hz⟩ | ⟨e, hz⟩
  · rw [hz]
    exact ⟨rfl, rfl, rfl⟩
  · rw [hz, updBelt_same]
    exact ⟨rfl, rfl, rfl⟩
  · rw [hz, post_sei, Chip.posValid, bit_of_rd (post_rd _ _ _), bit_record_field _ h _ _ _ (by decide) (by decide) (by decide)]
    exact ⟨rfl, rfl, rfl⟩

/-- A Z edge of an enabled check with no residue notes one; with a residue that differs too much it records Z_ERR. -/
theorem zCheck_first {c : Chip} {b : Belt} (hon : c.bit (.BELT_CTL b) F.BELT_CTL_ZCHK = true) (hr : (c.sei.belts[b]).zRes = none) :
    c.zCheck b = c.updBelt b (fun x => { x with
      zRes := some ((c.sei.belts[b]).pos.toInt % (c.getPos (.BELT_ZCFG b) F.BELT_ZCFG_Z_PPR : Nat)).toNat }) := by
  simp [-Fin.getElem_fin, Chip.zCheck, hon, hr]

theorem zCheck_differs {c : Chip} {b : Belt} {r : Nat} (hon : c.bit (.BELT_CTL b) F.BELT_CTL_ZCHK = true)
    (hr : (c.sei.belts[b]).zRes = some r)
    (hfar : c.get (.BELT_ZCFG b) F.BELT_ZCFG_Z_TOL < (residueDiff (c.getPos (.BELT_ZCFG b) F.BELT_ZCFG_Z_PPR)
      ((c.sei.belts[b]).pos.toInt % (c.getPos (.BELT_ZCFG b) F.BELT_ZCFG_Z_PPR : Nat)).toNat r).natAbs) :
    ∃ e, c.zCheck b = (c.record (.BELT_STATUS b) F.BELT_STATUS_Z_ERR).post e := by
  unfold Chip.zCheck
  rw [if_neg (by simp [hon])]
  dsimp only
  rw [hr]
  dsimp only
  rw [if_neg (Nat.not_le.2 hfar)]
  exact ⟨_, rfl⟩

/-- The belt when what waited for a Z edge is taken. -/
def zTaken (c : Chip) (b : Belt) : Chip := c.updBelt b (fun x => { x with zDue := none })

theorem zTaken_belt (c : Chip) (b : Belt) : (zTaken c b).sei.belts[b] = { c.sei.belts[b] with zDue := none } := updBelt_same c b _

theorem zTaken_posValid (c : Chip) (b : Belt) : (zTaken c b).posValid b = c.posValid b := rfl

theorem zTaken_sameRing (c : Chip) (b : Belt) (d : Door) : SameRing c (zTaken c b) d := .of_doors (d := zTaken c b) rfl d

theorem canon_zTaken {c : Chip} (h : Canon c) (b : Belt) : Canon (zTaken c b) := ⟨h.regs, h.flash, h.blocks⟩

/-- With nothing to set, a Z edge is checked. -/
theorem zTake_nil {c : Chip} {b : Belt} (h : (c.sei.belts[b]).zDue = some []) : c.zTake b = (zTaken c b).zCheck b := by
  simp [-Fin.getElem_fin, Chip.zTake, h, Chip.each, zTaken]

/-- With one position to set, a Z edge sets it and answers its request before the check. -/
theorem zTake_single {c : Chip} {b : Belt} {p : Pos} {q : ReqId} (h : (c.sei.belts[b]).zDue = some [(p, q)]) :
    c.zTake b = (zTaken ((c.setBeltPos b p).answer q rOK) b).zCheck b := by
  simp [-Fin.getElem_fin, Chip.zTake, h, Chip.each, zTaken]

/-- The check at a Z edge leaves answers. -/
theorem zCheck_sameRing (c : Chip) (b : Belt) (d : Door) : SameRing c (c.zCheck b) d := by
  rcases zCheck_cases c b with hz | ⟨r, hz⟩ | ⟨e, hz⟩
  · rw [hz]
    exact .of_doors rfl d
  · rw [hz]
    exact .of_doors rfl d
  · rw [hz]
    exact (SameRing.of_doors (c := c) rfl d).trans (post_sameRing _ e d)

theorem fr_setBeltPos (c : Chip) (b : Belt) (p : Pos) : Fr (keeping [.reqs] []) c (c.setBeltPos b p) := by
  refine Chip.setBeltPos_fr (Fr.refl _ c) ?_ ?_ ?_ ?_ ?_ ?_ ?_ ?_ ?_ ?_ <;> simp

/-! ### The obligation -/

theorem answer_sei (c : Chip) (q : ReqId) (r : Nat) (l : List Nat) (n : Nat) : (c.answer q r l n).sei = c.sei :=
  (fr_answer (ps := [.sei]) (rs := []) c q r l n (by simp)).kept.sei (by simp)

theorem answer_rd (c : Chip) (q : ReqId) (r : Nat) (l : List Nat) (n : Nat) (x : Reg) : (c.answer q r l n).rd x = c.rd x :=
  (fr_answer (ps := []) (rs := [x]) c q r l n (by simp)).kept.regs x (by simp)

theorem canon_answer {c : Chip} (h : Canon c) (q : ReqId) (r : Nat) (l : List Nat) (n : Nat) : Canon (c.answer q r l n) :=
  (fr_answer (ps := []) (rs := []) c q r l n (by simp)).canon h

theorem answer_posValid (c : Chip) (q : ReqId) (r : Nat) (l : List Nat) (n : Nat) (b : Belt) :
    (c.answer q r l n).posValid b = c.posValid b :=
  bit_of_rd (answer_rd c q r l n _) _

theorem record_sei (c : Chip) (r : Reg) (f : Field) : (c.record r f).sei = c.sei := rfl

/-- An edge that counts moves the belt. -/
theorem exec_shaftEdge {s : State} {b : Belt} {o r a : Bool} {h : Nat} (hen : s.chip.beltEn b = true) (hruns : s.chip.seiRuns = true)
    (hheld : s.chip.shaftHeld b h = true) (hcounts : s.chip.edgeCounts b o r = true) :
    exec (.shaftEdge b o ⟨r, h⟩ a) s = s.run (fun c => c.countEdge b (a != s.chip.bit (.BELT_CTL b) F.BELT_CTL_DIR_INV)) := by
  have hexec : exec (.shaftEdge b o ⟨r, h⟩ a) s = execShaftEdge b o ⟨r, h⟩ a s := rfl
  simp [hexec, execShaftEdge, State.run, hen, hruns, hheld, hcounts]

/-- The chip when a quadrature error is recorded and its event is posted. -/
def quadErrored (c : Chip) (b : Belt) (e : Event) : Chip :=
  (c.record (.BELT_STATUS b) F.BELT_STATUS_QUAD_ERR).postRate (ms 1) b.val e (some 0)

theorem fr_quadErrored (c : Chip) (b : Belt) (e : Event) :
    Fr (keeping [.sei, .pwr] [.BELT_STATUS b]) (c.record (.BELT_STATUS b) F.BELT_STATUS_QUAD_ERR) (quadErrored c b e) :=
  fr_postRate _ _ _ _ _ _ (by simp)

/-- A quadrature error (R249): QUAD_ERR, and in Sleep POS_VALID ends. -/
theorem quadError_belt {c : Chip} (h : Canon c) (b : Belt) (e : Event) {d : Chip}
    (hd : d = if (quadErrored c b e).pwr.st = .sleep then (quadErrored c b e).setSt (.BELT_STATUS b) F.BELT_STATUS_POS_VALID 0
      else quadErrored c b e) :
    d.bit (.BELT_STATUS b) F.BELT_STATUS_QUAD_ERR = true ∧ d.posValid b = (c.posValid b && c.pwr.st != .sleep) ∧
      d.sei.belts[b] = c.sei.belts[b] := by
  have hrec := canon_record h (.BELT_STATUS b) F.BELT_STATUS_QUAD_ERR
  have hcanon : Canon (quadErrored c b e) := (fr_quadErrored c b e).canon hrec
  have hst : (quadErrored c b e).pwr = c.pwr := (fr_quadErrored c b e).kept.pwr (by simp)
  have hsei : (quadErrored c b e).sei = c.sei := (fr_quadErrored c b e).kept.sei (by simp)
  have hrd := (fr_quadErrored c b e).kept.regs (.BELT_STATUS b) (by simp)
  have herr : (quadErrored c b e).bit (.BELT_STATUS b) F.BELT_STATUS_QUAD_ERR = true :=
    (bit_of_rd hrd _).trans (bit_record_same c h _ _ (by decide) (by decide))
  have hvalid : (quadErrored c b e).posValid b = c.posValid b :=
    (bit_of_rd hrd _).trans (bit_record_field c h _ _ _ (by decide) (by decide) (by decide))
  by_cases hsleep : c.pwr.st = .sleep
  · rw [if_pos (by rw [hst, hsleep])] at hd
    subst hd
    refine ⟨?_, ?_, by rw [setSt_sei, hsei]⟩
    · rw [bit_setSt_field _ hcanon _ _ _ _ (by decide) (by decide) (by decide), herr]
    · rw [hsleep, Bool.and_eq_false_imp.2 (by simp)]
      exact bit_setSt_same _ hcanon _ _ false (by decide) (by decide)
  · rw [if_neg (by rwa [hst])] at hd
    subst hd
    exact ⟨herr, by simp [hvalid, hsleep], by rw [hsei]⟩

/-- A stopped belt (R252): STOPPED, no rate and no edges. -/
theorem stopBelt_belt {c : Chip} (h : Canon c) (b : Belt) :
    (c.stopBelt b).bit (.BELT_STATUS b) F.BELT_STATUS_STOPPED = true ∧ (c.stopBelt b).rd (.BELT_RATE b) = 0#32 ∧
      ((c.stopBelt b).sei.belts[b]).edges = [] := by
  have hrate : Canon (c.wr (.BELT_RATE b) 0#32) := canon_wr h _ _
  unfold Chip.stopBelt
  simp only [updBelt_same, updBelt_rd, Chip.bit, updBelt_get]
  refine ⟨bit_setSt_same _ hrate _ _ true (by decide) (by decide), ?_, trivial⟩
  rw [rd_setSt_other _ _ _ (by simp), rd_wr_same c h]

/-- A belt that had no edge for the stop time stops, with an event. -/
theorem exec_beltStopTimeout {s : State} {b : Belt} (hen : s.chip.beltEn b = true) (hstarted : (s.chip.sei.belts[b]).started = true)
    (hdue : (s.chip.sei.belts[b]).lastEdge + ms (s.chip.getPos (.BELT_STOP b) F.BELT_STOP_STOP_MS) ≤ s.chip.clk.now) :
    ∃ e, exec (.beltStopTimeout b) s = s.run (fun _ => (s.chip.stopBelt b).post e) := by
  refine ⟨(s.chip.stopBelt b).evBelt 0x0708 b [1, (s.chip.sei.belts[b]).pos.toNat], ?_⟩
  have hexec : exec (.beltStopTimeout b) s = execBeltStopTimeout b s := rfl
  simp [-Fin.getElem_fin, hexec, execBeltStopTimeout, State.run, hen, hstarted, Nat.not_lt.2 hdue]

/-- Settles O34: an edge by `countEdge_belt`, a position by `setBeltPos_belt`, a Z edge by the cases of its check. -/
theorem shafts : Obligations.Shafts := by
  unfold Obligations.Shafts
  intro s hcanon b hen
  refine ⟨?_, ?_, ?_, ?_, ?_, ?_, ?_, ?_, ?_⟩
  · intro o r h a hruns hheld hcounts
    refine runs_of_run (exec_shaftEdge hen hruns hheld hcounts) ?_
    rw [countEdge_belt, countEdge_dir hcanon, countEdge_stopped hcanon, edgeBelt_pos, edgeBelt_counted, edgeBelt_lastEdge]
    refine ⟨?_, rfl, rfl, ?_, rfl⟩
    · exact stepped_eq _ _
    · cases a <;> cases s.chip.bit (.BELT_CTL b) F.BELT_CTL_DIR_INV <;> rfl
  · intro o r h a x p hruns hheld hcounts hvalid hslots hhit hp
    refine runs_of_run (exec_shaftEdge hen hruns hheld hcounts) ?_
    rw [countEdge_belt, edgeBelt_slots hvalid, stepped_eq, ← hp]
    simp only [BeltSt.hitSlots, hslots, List.map_cons, List.map_nil, hhit]
    by_cases hmatch : x.mark.pos = p
    · by_cases hadmits : x.mark.admits (a != s.chip.bit (.BELT_CTL b) F.BELT_CTL_DIR_INV) = true <;> simp [hmatch, hadmits]
    · simp [hmatch]
  · intro o r h a hnot
    have hexec : exec (.shaftEdge b o ⟨r, h⟩ a) s = execShaftEdge b o ⟨r, h⟩ a s := rfl
    refine runs_of_run hexec ?_
    rcases hnot with hnot | hnot <;> simp [hnot]
  · intro hruns
    have hexec : exec (.shaftQuadError b) s = execShaftQuadError b s := rfl
    refine runs_of_run hexec ?_
    simp only [hen, hruns, Bool.not_true, Bool.or_self, Bool.false_eq_true, if_false]
    obtain ⟨herr, hvalid, hbelt⟩ := quadError_belt hcanon b _ rfl
    exact ⟨herr, hvalid, congrArg BeltSt.pos hbelt⟩
  · intro h hgrants hruns hheld
    have hexec : exec (.zEdge ⟨b, h⟩) s = execZEdge ⟨b, h⟩ s := rfl
    refine runs_of_runS hexec ?_ ?_ <;> simp [-Fin.getElem_fin, hen, hruns, hheld, hgrants]
  · intro hdue hon hres
    rw [zTake_nil hdue, zCheck_first (c := zTaken s.chip b) hon (by rw [zTaken_belt, hres]), updBelt_same, zTaken_belt]
    exact ⟨rfl, rfl⟩
  · intro r hdue hon hres hfar
    obtain ⟨e, he⟩ := zCheck_differs (c := zTaken s.chip b) (r := r) hon (by rw [zTaken_belt, hres]) (by rw [zTaken_belt]; exact hfar)
    rw [zTake_nil hdue, he, bit_of_rd (post_rd _ _ _), post_sei]
    rw [record_sei, zTaken_belt]
    exact ⟨bit_record_same _ (canon_zTaken hcanon b) _ _ (by decide) (by decide), rfl⟩
  · intro p q e hdue hentry hst hrel
    have hset := fr_setBeltPos s.chip b p
    obtain ⟨hpos, -, hvalid⟩ := setBeltPos_belt hcanon b p
    obtain ⟨hcpos, hcdue, hcvalid⟩ := zCheck_keeps (canon_zTaken (canon_answer (hset.canon hcanon) q rOK [] 0) b) b
    rw [zTake_single hdue]
    refine ⟨?_, ?_, ?_, answered_of_sameRing (answer_of_entry hentry hst hrel hset (by simp) rOK [] 0) ?_⟩
    · rw [hcpos, zTaken_belt, answer_sei, hpos]
    · rw [hcvalid, zTaken_posValid, answer_posValid, hvalid]
    · rw [hcdue, zTaken_belt]
    · exact (zTaken_sameRing _ b _).trans (zCheck_sameRing _ b _)
  · intro hstarted hdue
    obtain ⟨e, hexec⟩ := exec_beltStopTimeout hen hstarted hdue
    refine runs_of_run hexec ?_
    rw [bit_of_rd (post_rd _ _ _), post_rd, post_sei]
    exact stopBelt_belt hcanon b

end Sys2Proof.Proofs
namespace Sys2Proof.Proofs

open Sys2Proof.Machine Sys2Proof.Laws

/-! The field's commands and sessions (18 R358 to R366). -/

/-! ### Commits and Headspring's records -/

theorem setSt_bead (c : Chip) (r : Reg) (f : Field) (v : Nat) : (c.setSt r f v).bead = c.bead := by
  unfold Chip.setSt
  split <;> rfl

theorem syncBead_bead (c : Chip) : (c.syncBead).bead = c.bead := by
  rw [Chip.syncBead, setSt_bead, setSt_bead]

/-- COMMIT and QUEUED alone follow the commits. -/
theorem syncBead_bit {c : Chip} (h : Canon c) {g : Field} (hg : g.hi < 24)
    (hc : F.BEAD_STATUS_COMMIT.hi < g.lo ∨ g.hi < F.BEAD_STATUS_COMMIT.lo)
    (hq : F.BEAD_STATUS_QUEUED.hi < g.lo ∨ g.hi < F.BEAD_STATUS_QUEUED.lo) :
    (c.syncBead).bit .BEAD_STATUS g = c.bit .BEAD_STATUS g := by
  rw [Chip.syncBead, bit_setSt_field _ (canon_setSt h _ _ _) _ _ _ _ (by decide) hg hq,
    bit_setSt_field _ h _ _ _ _ (by decide) hg hc]

/-- What commits and Headspring's turn leave of the Bead: the blocks, and what the field and its sessions set. -/
def FieldSide (b d : BeadSt) : Prop :=
  (d.blocks, d.session, d.lastEnd, d.quiet, d.selected, d.answer) = (b.blocks, b.session, b.lastEnd, b.quiet, b.selected, b.answer)

theorem canon_withBead {c : Chip} (h : Canon c) {b : BeadSt} (hb : FieldSide c.bead b) : Canon { c with bead := b } := by
  refine ⟨h.regs, h.flash, ?_⟩
  have hblocks : b.blocks = c.bead.blocks := congrArg Prod.fst hb
  change blocksOk b.blocks = true
  rw [hblocks]
  exact h.blocks

theorem commitAll_eq (c : Chip) (l : List BeadCommit) :
    ∃ b, c.commitAll l = Chip.syncBead { c with bead := b } ∧ FieldSide c.bead b :=
  ⟨_, rfl, rfl⟩

/-- What Headspring's turn changes: Bead state that the field does not set, then COMMIT and QUEUED. -/
theorem hsNext_eq (c : Chip) : ∃ b, c.hsNext = Chip.syncBead { c with bead := b } ∧ FieldSide c.bead b := by
  unfold Chip.hsNext
  dsimp only
  split
  · exact ⟨c.bead, rfl, rfl⟩
  · split
    · exact ⟨_, rfl, rfl⟩
    · exact ⟨_, rfl, rfl⟩
    · exact ⟨c.bead, rfl, rfl⟩

theorem hsNext_fieldSide (c : Chip) : FieldSide c.bead c.hsNext.bead := by
  obtain ⟨b, h, hb⟩ := hsNext_eq c
  rwa [h, syncBead_bead]

/-- Headspring's turn leaves FIELD and SESSION. -/
theorem hsNext_bit {c : Chip} (h : Canon c) {g : Field} (hg : g.hi < 24)
    (hc : F.BEAD_STATUS_COMMIT.hi < g.lo ∨ g.hi < F.BEAD_STATUS_COMMIT.lo)
    (hq : F.BEAD_STATUS_QUEUED.hi < g.lo ∨ g.hi < F.BEAD_STATUS_QUEUED.lo) :
    c.hsNext.bit .BEAD_STATUS g = c.bit .BEAD_STATUS g := by
  obtain ⟨b, hb, hside⟩ := hsNext_eq c
  rw [hb, syncBead_bit (canon_withBead h hside) hg hc hq]
  rfl

/-! ### Sessions (R362) -/

theorem post_bead (c : Chip) (e : Event) : (c.post e).bead = c.bead :=
  (fr_post (ps := [.bead]) (rs := []) c e (by simp)).kept.bead (by simp)

/-- The Bead when a session has ended. -/
def sessionLeft (c : Chip) : BeadSt := { c.bead with session := none, lastEnd := some c.clk.now, lost := none }

/-- The chip when a session has ended, before its events. -/
def sessionEnded (c : Chip) : Chip := Chip.setSt { c with bead := sessionLeft c } .BEAD_STATUS F.BEAD_STATUS_SESSION (bitOf false)

theorem canon_sessionLeft {c : Chip} (h : Canon c) : Canon { c with bead := sessionLeft c } := ⟨h.regs, h.flash, h.blocks⟩

/-- A session ends by SESSION, then events, then Headspring's turn. -/
theorem endSession_some {c : Chip} {x : Nat × Nat} (h : c.bead.session = some x) :
    ∃ d, c.endSession = d.hsNext ∧ Fr (keeping [.bead] [.BEAD_STATUS]) (sessionEnded c) d := by
  obtain ⟨t, u⟩ := x
  unfold Chip.endSession
  rw [h]
  dsimp only
  split
  · exact ⟨_, rfl, fr_post _ _ (by simp)⟩
  · exact ⟨_, rfl, Chip.post_fr (fr_post _ _ (by simp)) (by simp)⟩

/-- What the end of a session leaves of the Bead. -/
theorem endSession_fieldSide {c : Chip} {x : Nat × Nat} (h : c.bead.session = some x) : FieldSide (sessionLeft c) c.endSession.bead := by
  obtain ⟨d, hd, hfr⟩ := endSession_some h
  have hbead : d.bead = sessionLeft c := (hfr.kept.bead (by simp)).trans (setSt_bead _ _ _ _)
  rw [hd, ← hbead]
  exact hsNext_fieldSide d

theorem canon_sessionEnded {c : Chip} (h : Canon c) : Canon (sessionEnded c) := canon_setSt (canon_sessionLeft h) _ _ _

theorem endSession_session {c : Chip} (h : Canon c) {x : Nat × Nat} (hx : c.bead.session = some x) :
    c.endSession.bit .BEAD_STATUS F.BEAD_STATUS_SESSION = false := by
  obtain ⟨d, hd, hfr⟩ := endSession_some hx
  rw [hd, hsNext_bit (hfr.canon (canon_sessionEnded h)) (by decide) (by decide) (by decide),
    bit_of_rd (hfr.kept.regs _ (by simp))]
  exact bit_setSt_same _ (canon_sessionLeft h) _ _ false (by decide) (by decide)

/-- The end of a session leaves FIELD. -/
theorem endSession_field {c : Chip} (h : Canon c) : c.endSession.field = c.field := by
  cases hx : c.bead.session with
  | none => simp [Chip.endSession, hx]
  | some x =>
    obtain ⟨d, hd, hfr⟩ := endSession_some hx
    rw [hd, Chip.field, hsNext_bit (hfr.canon (canon_sessionEnded h)) (by decide) (by decide) (by decide),
      bit_of_rd (hfr.kept.regs _ (by simp))]
    exact bit_setSt_field _ (canon_sessionLeft h) _ _ _ _ (by decide) (by decide) (by decide)

theorem endSession_none {c : Chip} (h : c.bead.session = none) : c.endSession = c := by simp [Chip.endSession, h]

/-- After the end of a session, if any, none runs. -/
theorem endSession_ends (c : Chip) : c.endSession.bead.session = none := by
  cases hx : c.bead.session with
  | none => rw [endSession_none hx, hx]
  | some x => exact congrArg (fun t => t.2.1) (endSession_fieldSide hx)

/-! ### The obligation -/

theorem updBead_field (c : Chip) (f : BeadSt → BeadSt) : (c.updBead f).field = c.field := rfl

theorem toField_field (c : Chip) (a : BeadAnswer) : (c.toField a).field = c.field := rfl

/-- An error answer of the field (R363). -/
theorem fieldErr_bead (c : Chip) (code : Nat) : (c.fieldErr code).bead = { c.bead with answer := .error code } := by
  unfold Chip.fieldErr
  dsimp only
  split <;> rfl

theorem head?_append_tail {α : Type} (l : List α) : l.head?.toList ++ l.tail = l := by
  cases l <;> rfl

theorem lt_of_beadOpen {i : Nat} (h : beadOpen i = true) : i < 256 := by
  unfold beadOpen at h
  simp at h
  exact h.2

/-- Commits join the end of the commits that wait. -/
theorem commitAll_list (c : Chip) (l : List BeadCommit) :
    (c.commitAll l).bead.commit.toList ++ (c.commitAll l).bead.queue = c.bead.commit.toList ++ c.bead.queue ++ l := by
  rw [Chip.commitAll, syncBead_bead]
  exact head?_append_tail _

theorem commitAll_answer (c : Chip) (l : List BeadCommit) : (c.commitAll l).bead.answer = c.bead.answer := by
  rw [Chip.commitAll, syncBead_bead]
  rfl

/-- A command of the field that the tag hears runs its body. -/
theorem runs_heard {s : State} {i : Instr} {m : BeadMode} {f : Chip → Chip} {p : Chip → Prop} (h : exec i s = s.run (fun c => c.asField m f))
    (hm : s.chip.hears m = true) (hp : p (f s.chip)) : Runs i s p := by
  refine runs_of_run h ?_
  simpa only [Chip.asField, hm, if_true] using hp

/-- Settles O40: each command's branch; a session's end by `endSession_fieldSide`. -/
theorem beadField : Obligations.BeadField := by
  unfold Obligations.BeadField
  intro s hcanon m
  refine ⟨?_, ?_, ?_, ?_, ?_, ?_, ?_, ?_, ?_, ?_, ?_, ?_, ?_, ?_, ?_, ?_, ?_, ?_, ?_, ?_, ?_, ?_⟩
  · intro k n hfield hquiet hfits
    refine ⟨_, rfl, rfl, ?_⟩
    simp [hfield, hquiet, hfits, Chip.toField]
  · intro hfield
    refine ⟨_, rfl, rfl, ?_⟩
    simp [hfield, Chip.toField]
  · intro hfield
    refine ⟨_, rfl, rfl, ?_⟩
    simp [hfield, Chip.toField]
  · intro hm
    exact runs_heard rfl hm ⟨rfl, rfl, rfl⟩
  · intro i hm hi hbusy
    refine runs_heard rfl hm ?_
    simp [Nat.not_le.2 hi, hbusy, Chip.toField]
  · intro i hm hi hbusy
    refine runs_heard rfl hm ?_
    simp [Nat.not_le.2 hi, hbusy, Chip.toField, Chip.fieldErr]
    exact get_incSat_same _ hcanon _ _ _ (by decide)
  · intro i v hm hopen hlocked hwriting
    refine runs_heard rfl hm ?_
    simp only [Nat.not_le.2 (lt_of_beadOpen hopen), hopen, hlocked, hwriting, Bool.not_true, Bool.false_eq_true, if_false]
    rw [commitAll_list, commitAll_answer]
    exact ⟨rfl, rfl⟩
  · intro i v hm hi hopen
    refine runs_heard rfl hm ?_
    simp only [Nat.not_le.2 hi, hopen, Bool.not_false, if_true, if_false]
    exact fieldErr_bead _ _
  · intro i hm hopen hlocked hbusy
    refine runs_heard rfl hm ?_
    simp only [Nat.not_le.2 (lt_of_beadOpen hopen), hopen, hlocked, hbusy, Bool.not_true, Bool.false_eq_true, if_false]
    simp [Chip.toField]
  · intro i k hm hlow hhigh hrange hbusy
    refine runs_heard rfl hm ?_
    simp [Nat.not_lt.2 hrange, Nat.not_lt.2 hhigh, Nat.one_le_iff_ne_zero.1 hlow, hbusy, Chip.toField]
  · intro hm
    exact runs_heard rfl hm rfl
  · intro i k hm hlow hrange
    refine runs_heard rfl hm ?_
    simp [Nat.not_lt.2 hrange, Nat.one_le_iff_ne_zero.1 hlow, Chip.toField]
  · intro d hm hlow hhigh hnone hgap
    refine runs_heard rfl hm ?_
    have hsession : Canon (s.chip.updBead (fun b => { b with session := some (s.chip.clk.now, s.chip.clk.now + ms d) })) :=
      ⟨hcanon.regs, hcanon.flash, hcanon.blocks⟩
    simp only [Nat.not_lt.2 hhigh, Nat.one_le_iff_ne_zero.1 hlow, hnone, hgap, Option.isSome_none, Bool.or_self, Bool.false_eq_true,
      false_or, if_false, Chip.toField, updBead_bead, post_bead, setSt_bead, Chip.bit, updBead_get]
    refine ⟨trivial, ?_, trivial⟩
    rw [get_of_rd (post_rd _ _ _)]
    exact bit_setSt_same _ hsession _ _ true (by decide) (by decide)
  · intro d hm hlow hhigh hnone hgap
    refine runs_heard rfl hm ?_
    simp only [Nat.not_lt.2 hhigh, Nat.one_le_iff_ne_zero.1 hlow, hnone, hgap, Option.isSome_none, Bool.false_or,
      false_or, if_false, if_true, fieldErr_bead]
    exact ⟨trivial, trivial⟩
  · intro hm hsome
    refine runs_heard rfl hm ?_
    obtain ⟨x, hx⟩ := Option.isSome_iff_exists.1 hsome
    have hside := endSession_fieldSide hx
    simp only [hx, Option.isNone_some, Bool.false_eq_true, if_false]
    exact ⟨congrArg (fun t => t.2.1) hside, congrArg (fun t => t.2.2.1) hside, endSession_session hcanon hx, rfl⟩
  · intro hm hnone
    refine runs_heard rfl hm ?_
    simp [hnone, Chip.fieldErr, Chip.toField]
  · intro z hm hz
    refine runs_heard rfl hm ?_
    simp [hz, Chip.toField]
  · intro k hm hlow hhigh hbusy hwhole
    refine runs_heard rfl hm ?_
    simp [Nat.not_lt.2 hhigh, Nat.one_le_iff_ne_zero.1 hlow, hbusy, hwhole, Chip.toField]
  · intro hm
    exact runs_heard rfl hm rfl
  · intro x hx hdue
    have hexec : exec .beadSessionExpiry s = execBeadSessionExpiry s := rfl
    refine runs_of_run hexec ?_
    have hside := endSession_fieldSide hx
    simp only [hx, Option.any_some, hdue, decide_true, if_true]
    exact ⟨congrArg (fun t => t.2.1) hside, congrArg (fun t => t.2.2.1) hside⟩
  · refine ⟨_, rfl, rfl, ?_⟩
    refine ⟨?_, ?_, rfl, rfl, rfl⟩
    · rw [toField_field, updBead_field, endSession_field (canon_setSt hcanon _ _ _), Chip.field]
      exact bit_setSt_zero _ hcanon _ _ (by decide) (by decide)
    · exact endSession_ends _
  · intro b hfield
    refine ⟨_, rfl, rfl, ?_⟩
    simp only [hfield, Bool.false_eq_true, if_false]
    refine ⟨?_, rfl, rfl⟩
    rw [toField_field, updBead_field, Chip.field]
    exact bit_setSt_one _ hcanon _ _ (by decide) (by decide)

end Sys2Proof.Proofs

namespace Sys2Proof.Proofs

open Sys2Proof.Machine Sys2Proof.Laws

/-! The Bead opcodes, Headspring's records and commits (18 R359 to R362, R365 to R367). -/

/-! ### Requests that run without the Pond's settling -/

/-- A request that may start runs its opcode's body. -/
theorem runs_served {s : State} {i : Instr} {q : ReqId} {op : BitVec 16} {kinds : List Nat} {e : ReqEntry}
    {body : ReqEntry → Chip → Chip} {p : Chip → Prop} (hs : Startable s.chip q op kinds e)
    (hi : exec i s = s.run (fun c => c.serve q op kinds body)) (hp : p (body e (Taken s.chip q))) : Runs i s p := by
  refine runs_of_run hi ?_
  rwa [serve_start hs body]

@[simp] theorem taken_bead (c : Chip) (q : ReqId) : (Taken c q).bead = c.bead := (taken_fr c q).kept.bead (by decide)

/-- A started request is answered by its own body's answer. -/
theorem answered_taken {c : Chip} {q : ReqId} {op : BitVec 16} {kinds : List Nat} {e : ReqEntry} (hs : Startable c q op kinds e)
    (result : Nat) (data : List Nat) (n : Nat) : Answered ((Taken c q).answer q result data n) q e result data :=
  startable_answered hs (f := ⟨[], noReg⟩) (Fr.refl _ _) (by decide) result data n

theorem answer_bead (c : Chip) (q : ReqId) (result : Nat) (data : List Nat) (n : Nat) : (c.answer q result data n).bead = c.bead :=
  (fr_answer (ps := [.bead]) (rs := []) c q result data n (by simp)).kept.bead (by simp)

/-! ### Blocks -/

/-- A block written reads as written; block 0 is IDENT's. -/
theorem block_putBlock_same (b : BeadSt) {i : Nat} (hi : i ≠ 0) (v : BitVec 256) : (b.putBlock i v).block i = v := by
  unfold BeadSt.block BeadSt.putBlock
  rw [if_neg hi]
  dsimp only
  split
  · next hv => simp [lookupNat_eraseNat_same, hv]
  · simp [lookupNat_insertNat_same]

theorem block_putBlock_other (b : BeadSt) {i j : Nat} (hij : i ≠ j) (v : BitVec 256) : (b.putBlock j v).block i = b.block i := by
  unfold BeadSt.block BeadSt.putBlock
  dsimp only
  split
  · rfl
  · split
    · rw [lookupNat_eraseNat_other _ hij]
    · rw [lookupNat_insertNat_other _ _ hij]

theorem block_of_blocks {b d : BeadSt} (h : d.blocks = b.blocks) (i : Nat) : d.block i = b.block i := by
  rw [BeadSt.block, BeadSt.block, h]

/-! ### Snapshots -/

theorem leBytes_length (n v : Nat) : (leBytes n v).length = n := by
  induction n generalizing v with
  | zero => rfl
  | succ n ih => simp [leBytes, ih]

theorem payloadBytes_length (e : Event) : e.payloadBytes.length = 11 := by
  unfold Event.payloadBytes
  split <;> exact bytesAt_length _ _ _

/-- A snapshot has 168 bytes (R362). -/
theorem snapData_length (c : Chip) (seq : Nat) (e : Event) : (c.snapData seq e).1.length = 168 := by
  simp [Chip.snapData, Chip.eventBytes, Chip.freeBytes, leBytes_length, payloadBytes_length]

/-- The chip when the first snapshot due has its SNAP_SEQ. -/
def snapTaken (c : Chip) (seq : Nat) (e : Event) (t : List Event) : Chip :=
  ((c.snapData seq e).2.updBead (fun b => { b with snapsDue := t })).setF .BEAD_CNT F.BEAD_CNT_SNAP_SEQ ((seq + 1) % 65536)

/-- The chip when the first snapshot due waits for Headspring. -/
def snapQueued (c : Chip) (seq : Nat) (e : Event) (t : List Event) : Chip :=
  (snapTaken c seq e t).updBead (fun b => { b with qSnaps := b.qSnaps ++ [(seq, (c.snapData seq e).1)] })

theorem snapQueued_bead (c : Chip) (seq : Nat) (e : Event) (t : List Event) :
    (snapQueued c seq e t).bead =
      { c.bead with snapsDue := t, qSnaps := c.bead.qSnaps ++ [(seq, (c.snapData seq e).1)] } := rfl

theorem snapQueued_seq {c : Chip} (h : Canon c) (seq : Nat) (e : Event) (t : List Event) :
    (snapQueued c seq e t).get .BEAD_CNT F.BEAD_CNT_SNAP_SEQ = (seq + 1) % 65536 := by
  have hcanon : Canon ((c.snapData seq e).2.updBead (fun b => { b with snapsDue := t })) := ⟨h.regs, h.flash, h.blocks⟩
  refine (get_setF_same _ hcanon _ _ _ (by decide)).trans ?_
  exact Nat.mod_eq_of_lt (Nat.mod_lt _ (by decide))

theorem syncBead_rd (c : Chip) {r : Reg} (h : r ≠ .BEAD_STATUS) : (c.syncBead).rd r = c.rd r := by
  rw [Chip.syncBead, rd_setSt_other _ _ _ h, rd_setSt_other _ _ _ h]

theorem hsNext_rd (c : Chip) {r : Reg} (h : r ≠ .BEAD_STATUS) : c.hsNext.rd r = c.rd r := by
  obtain ⟨b, hb, -⟩ := hsNext_eq c
  rw [hb, syncBead_rd _ h]
  rfl

/-! ### Headspring's turn -/

/-- In a session Headspring's records wait. -/
theorem hsNext_session {c : Chip} (h : c.bead.session.isSome = true) : c.hsNext.bead = c.bead := by
  unfold Chip.hsNext
  simp only [h, Bool.true_or, if_true]
  exact syncBead_bead c

/-- An attestation record is committed first. -/
theorem hsNext_attest {c : Chip} {d : List Byte} (hs : c.bead.session = none) (hb : c.bead.hsBusy = false) (hq : c.bead.qAttest = some d) :
    c.hsNext = (c.updBead (fun b => { b with qAttest := none })).commitAll ((c.bead.attestBlocks d).map (fun x => ⟨x.1, x.2, .hs⟩)) := by
  simp [Chip.hsNext, hs, hb, hq]

/-- Without one, the first snapshot that waits. -/
theorem hsNext_snap {c : Chip} {k : Nat} {d : List Byte} {t : List (Nat × List Byte)} (hs : c.bead.session = none)
    (hb : c.bead.hsBusy = false) (hq : c.bead.qAttest = none) (hl : c.bead.qSnaps = (k, d) :: t) :
    c.hsNext = (c.updBead (fun b => { b with qSnaps := t })).commitAll ((c.bead.snapBlocks k d).map (fun x => ⟨x.1, x.2, .hs⟩)) := by
  simp [Chip.hsNext, hs, hb, hq, hl]

/-- A commit sets COMMIT. -/
theorem commitAll_status {c : Chip} (h : Canon c) {l : List BeadCommit} (hl : l ≠ []) :
    (c.commitAll l).bit .BEAD_STATUS F.BEAD_STATUS_COMMIT = true := by
  obtain ⟨b, hb, hside⟩ := commitAll_eq c l
  have hsome : b.commit.isSome = true := by
    have hbead : (c.commitAll l).bead = b := by rw [hb, syncBead_bead]
    rw [← hbead, Chip.commitAll, syncBead_bead]
    cases l with
    | nil => exact absurd rfl hl
    | cons x t => cases hc : c.bead.commit <;> cases hq : c.bead.queue <;> simp [Chip.updBead, hc, hq]
  have hcanon := canon_withBead h hside
  rw [hb, Chip.syncBead, bit_setSt_field _ (canon_setSt hcanon _ _ _) _ _ _ _ (by decide) (by decide) (by decide)]
  refine (bit_setSt_same _ hcanon _ _ _ (by decide) (by decide)).trans hsome

/-! ### The end of a commit (R359, R366) -/

/-- The answer to a commit's writer changes of the Bead at most the answer to the field. -/
theorem commitAnswer_bead (c : Chip) (w : BeadBy) (ok : Bool) : ∃ a, (c.commitAnswer w ok).bead = { c.bead with answer := a } := by
  unfold Chip.commitAnswer
  cases w with
  | hs => cases ok <;> exact ⟨_, rfl⟩
  | door q => cases ok <;> exact ⟨_, answer_bead _ _ _ _ _⟩
  | field =>
    cases ok <;> simp only [if_true, Bool.false_eq_true, if_false] <;> split <;> exact ⟨_, rfl⟩

/-- The next commit begins. -/
def nextCommit (c : Chip) : Chip := c.updBead (fun b => { b with commit := b.queue.head?, queue := b.queue.tail })

theorem commitDone_blocks (c : Chip) (w : BeadBy) (ok : Bool) :
    (((nextCommit c).commitAnswer w ok).hsNext).bead.blocks = c.bead.blocks := by
  obtain ⟨a, ha⟩ := commitAnswer_bead (nextCommit c) w ok
  have hside : (((nextCommit c).commitAnswer w ok).hsNext).bead.blocks = ((nextCommit c).commitAnswer w ok).bead.blocks :=
    congrArg Prod.fst (hsNext_fieldSide _)
  rw [hside, ha]
  rfl

/-- In a session with no commit waiting none runs afterwards. -/
theorem commitDone_idle {c : Chip} (hq : c.bead.queue = []) (hs : c.bead.session.isSome = true) (w : BeadBy) (ok : Bool) :
    (((nextCommit c).commitAnswer w ok).hsNext).bead.commit = none := by
  obtain ⟨a, ha⟩ := commitAnswer_bead (nextCommit c) w ok
  have hsession : ((nextCommit c).commitAnswer w ok).bead.session.isSome = true := by
    rw [ha]
    exact hs
  rw [hsNext_session hsession, ha]
  simp [nextCommit, Chip.updBead, hq]

theorem hsNext_sameRing (c : Chip) (x : Door) : SameRing c c.hsNext x := by
  obtain ⟨b, hb, -⟩ := hsNext_eq c
  refine .of_doors ?_ x
  rw [hb]
  refine (Chip.syncBead_fr (f := keeping [.doors] []) (Fr.refl _ _) ?_).kept.doors ?_ <;> simp

/-- A door whose commit was verified is answered OK (R359). -/
theorem commitDone_answered {c : Chip} {q : ReqId} {e : ReqEntry} (he : c.entry? q = some e) (hst : e.st ≠ .done)
    (hrel : (c.doors[q.door]).releasing = none) :
    Answered (((nextCommit c).commitAnswer (.door q) true).hsNext) q e rOK [] :=
  answered_of_sameRing (answer_of_entry (d := nextCommit c) he hst hrel (f := ⟨[.bead], noReg⟩)
    (Chip.updBead_fr (Fr.refl _ c) (by decide) fun _ => ⟨rfl, rfl⟩) (by decide) rOK [] 0) (hsNext_sameRing _ _)

/-! ### The obligation -/

/-- Settles O39: the opcodes by `runs_served`, Headspring's records by `hsNext_attest` and `hsNext_snap`, a commit's end by `nextCommit`. -/
theorem beadRequests : Obligations.BeadRequests := by
  unfold Obligations.BeadRequests
  intro s hcanon
  refine ⟨?_, ?_, ?_, ?_, ?_, ?_, ?_, ?_, ?_, ?_, ?_, ?_⟩
  · intro q e i hs hsession hi hfield
    refine runs_served hs rfl ?_
    simp only [taken_bead, hsession, Option.isSome_none, Bool.false_eq_true, if_false, Nat.not_le.2 hi, hfield]
    exact answered_taken hs _ _ _
  · intro q e i hs hsession
    refine runs_served hs rfl ?_
    simp only [taken_bead, hsession, if_true]
    exact answered_taken hs _ _ _
  · intro q e i l hs hsession hpath hopen hlocked hwriting hlen
    have hsvc : e.path ≠ .trunk := by simp [hpath]
    refine runs_served hs rfl ?_
    simp only [taken_bead, hsession, Option.isSome_none, Bool.false_eq_true, if_false, hsvc, Nat.not_le.2 (lt_of_beadOpen hopen), hlen,
      hopen, hlocked, hwriting, ne_eq, not_true_eq_false, or_self, Bool.not_true, Bool.or_self]
    refine ⟨?_, commitAll_status (canon_taken hcanon q) (List.cons_ne_nil _ _)⟩
    rw [commitAll_list, taken_bead]
  · intro q e i l hs hsession hpath
    refine runs_served hs rfl ?_
    simp only [taken_bead, hsession, Option.isSome_none, Bool.false_eq_true, if_false, hpath, if_true]
    exact ⟨answered_taken hs _ _ _, by rw [answer_bead, taken_bead]⟩
  · intro q e i l hs hsession hpath hi hlen hclosed
    have hsvc : e.path ≠ .trunk := by simp [hpath]
    have hrefused : (!beadOpen i || s.chip.bead.locked.contains i) = true := by
      rcases hclosed with h | h
      · rw [h, Bool.not_false, Bool.true_or]
      · rw [h, Bool.or_true]
    refine runs_served hs rfl ?_
    simp only [taken_bead, hsession, Option.isSome_none, Bool.false_eq_true, if_false, hsvc, Nat.not_le.2 hi, hlen, ne_eq,
      not_true_eq_false, or_self, hrefused, if_true]
    exact ⟨answered_taken hs _ _ _, by rw [answer_bead, taken_bead]⟩
  · intro q e hs hsession
    refine runs_served hs rfl ?_
    simp only [taken_bead, hsession, Option.isSome_none, Bool.false_eq_true, if_false]
    rw [taken_rd _ _ (by decide), taken_rd _ _ (by decide)]
    exact answered_taken hs _ _ _
  · intro hdue hwrites hsession hfree
    have hexec : exec .attestRecordWrite s = execAttestRecordWrite s := rfl
    refine runs_of_run hexec ?_
    simp only [hdue, hwrites, hsession, hfree, Bool.not_true, Bool.and_false, Bool.or_self, Bool.false_eq_true, if_false]
    rw [hsNext_attest (c := Chip.updBead _ _) (d := s.chip.attestData) (by exact hsession) (by exact hfree) rfl, commitAll_list]
    refine ⟨?_, rfl⟩
    rw [Chip.commitAll, syncBead_bead]
    rfl
  · intro hdue hwrites hsession
    have hexec : exec .attestRecordWrite s = execAttestRecordWrite s := rfl
    refine runs_of_run hexec ?_
    have hnone : s.chip.bead.session.isNone = false := by simpa using hsession
    simp only [hdue, hwrites, hnone, Bool.not_true, Bool.false_and, Bool.or_self, Bool.false_eq_true, if_false]
    rw [hsNext_session (by exact hsession)]
    exact ⟨rfl, rfl, rfl⟩
  · intro x l hdue hwrites hsession hroom
    have hexec : exec .snapshotWrite s = execSnapshotWrite s := rfl
    have hnone : s.chip.bead.session.isNone = false := by simpa using hsession
    refine runs_of_run hexec ?_
    simp only [hdue, hwrites, hnone, Bool.not_true, Bool.false_and, Bool.or_self, Bool.false_eq_true, if_false]
    rw [if_neg (by exact Nat.not_le.2 hroom)]
    change (snapQueued s.chip _ x l).hsNext.bead.snapsDue = l ∧ (∃ d, (snapQueued s.chip _ x l).hsNext.bead.qSnaps = _ ∧ _) ∧
      (snapQueued s.chip _ x l).hsNext.get _ _ = _
    rw [hsNext_session (by exact hsession), snapQueued_bead, get_of_rd (hsNext_rd _ (by decide)), snapQueued_seq hcanon]
    exact ⟨rfl, ⟨_, rfl, snapData_length _ _ _⟩, rfl⟩
  · intro x l hdue hwrites hsession hfree hattest hsnaps
    have hexec : exec .snapshotWrite s = execSnapshotWrite s := rfl
    refine runs_of_run hexec ?_
    simp only [hdue, hwrites, hfree, Bool.not_true, Bool.and_false, Bool.or_self, Bool.false_eq_true, if_false]
    rw [if_neg (by change ¬ 8 ≤ s.chip.bead.qSnaps.length; simp [hsnaps])]
    change (snapQueued s.chip _ x l).hsNext.bead.snapsDue = l ∧ (snapQueued s.chip _ x l).hsNext.bead.qSnaps = [] ∧
      ∃ d : List Byte, d.length = 168 ∧ (snapQueued s.chip _ x l).hsNext.bead.commit.toList ++ (snapQueued s.chip _ x l).hsNext.bead.queue = _
    rw [hsNext_snap (k := s.chip.get .BEAD_CNT F.BEAD_CNT_SNAP_SEQ) (d := (s.chip.snapData _ x).1) (t := []) (by exact hsession)
      (by exact hfree) (by exact hattest) (by rw [snapQueued_bead, hsnaps]; rfl), commitAll_list]
    refine ⟨?_, ?_, _, snapData_length s.chip _ x, rfl⟩ <;> rw [Chip.commitAll, syncBead_bead] <;> rfl
  · intro x hx hzero
    have hexec : exec (.beadCommitEnd true) s = execBeadCommitEnd true s := rfl
    refine runs_of_run hexec ?_
    simp only [hx, if_true]
    let c := s.chip.updBead (fun b => b.putBlock x.block x.data)
    have hblocks : (((nextCommit c).commitAnswer x.writer true).hsNext).bead.blocks = c.bead.blocks := commitDone_blocks c x.writer true
    refine ⟨(block_of_blocks hblocks _).trans (block_putBlock_same _ hzero _), fun i hi =>
      (block_of_blocks hblocks i).trans (block_putBlock_other _ hi _), ?_⟩
    intro q e hw he hst hrel
    rw [hw]
    exact commitDone_answered (c := c) he hst hrel
  · intro x hx
    have hexec : exec (.beadCommitEnd false) s = execBeadCommitEnd false s := rfl
    refine runs_of_run hexec ?_
    simp only [hx, Bool.false_eq_true, if_false]
    let c := s.chip.post (s.chip.ev 0x0A03 0 0 [x.block, x.writer.code])
    have hbead : c.bead = s.chip.bead := post_bead _ _
    refine ⟨(commitDone_blocks c x.writer false).trans (by rw [hbead]), fun hqueue hsession => ?_⟩
    exact commitDone_idle (c := c) (by rwa [hbead]) (by rwa [hbead]) x.writer false

end Sys2Proof.Proofs

namespace Sys2Proof.Proofs

open Sys2Proof.Machine Sys2Proof.Laws

/-! The measurement and staging opcodes (04 R88 to R94, R97, R104). -/

@[simp] theorem taken_fw (c : Chip) (q : ReqId) : (Taken c q).fw = c.fw := (taken_fr c q).kept.fw (by decide)
@[simp] theorem taken_sei (c : Chip) (q : ReqId) : (Taken c q).sei = c.sei := (taken_fr c q).kept.sei (by decide)

theorem answer_fw (c : Chip) (q : ReqId) (result : Nat) (data : List Nat) (n : Nat) : (c.answer q result data n).fw = c.fw :=
  (fr_answer (ps := [.fw]) (rs := []) c q result data n (by simp)).kept.fw (by simp)

@[simp] theorem taken_staging (c : Chip) (q : ReqId) : (Taken c q).staging? = c.staging? := by
  rw [Chip.staging?, Chip.staging?, taken_get c q _ (by decide), taken_get c q _ (by decide)]

/-- A quote reads the firmware's state, TIME and BOOT_STATUS. -/
theorem taken_quoteOf (c : Chip) (q : ReqId) (m : Vector (BitVec 384) 8) (n : List Byte) :
    (Taken c q).quoteOf m n = c.quoteOf m n := by
  simp [Chip.quoteOf, Chip.quoteCoreOf, Chip.logCount]

theorem taken_measAt (c : Chip) (q : ReqId) (f : Word) : (Taken c q).measAt f = c.measAt f := by
  simp [Chip.measAt]

/-- LOG_TRIM answers on the trimmed log. -/
theorem logTrim_answered {c : Chip} {q : ReqId} {op : BitVec 16} {kinds : List Nat} {e : ReqEntry} (hs : Startable c q op kinds e)
    (f : Word) (b : List Byte) (result : Nat) (data : List Nat) (n : Nat) :
    Answered (((Taken c q).logTrim f b).answer q result data n) q e result data :=
  startable_answered hs (f := keeping [.reqs] []) (Chip.logTrim_fr (Fr.refl _ _) (by simp) (by simp)) (by simp) result data n

/-! ### Staging (R97, R104) -/

/-- The staging bank is not protected. -/
theorem staging_open {c : Chip} {b : Nat} (h : c.staging? = some b) : c.bankProtected b = false := by
  unfold Chip.staging? at h
  dsimp only at h
  split at h
  · next hbank =>
    cases h
    have hother : 1 - c.get .BOOT_STATUS F.BOOT_STATUS_BANK ≠ c.get .BOOT_STATUS F.BOOT_STATUS_BANK := by omega
    simp [Chip.bankProtected, ← hbank, hother]
  · cases h

/-- An operation that the controller accepts begins. -/
theorem xspiIssue_begins {c : Chip} {o : XspiOp} (hfree : c.fw.xspi = none) (hv : c.xspiVerdict o = xeNONE) :
    c.xspiIssue o = (c.setF .XSPI_STATUS F.XSPI_STATUS_BUSY 1).updFw (fun f => { f with xspi := some { o with since := c.clk.now } }) := by
  simp [Chip.xspiIssue, Chip.xspiBegin, hfree, hv]

theorem xspiIssue_busy {c : Chip} (h : Canon c) {o : XspiOp} (hfree : c.fw.xspi = none) (hv : c.xspiVerdict o = xeNONE) :
    (c.xspiIssue o).fw.xspi = some { o with since := c.clk.now } ∧ (c.xspiIssue o).bit .XSPI_STATUS F.XSPI_STATUS_BUSY = true := by
  rw [xspiIssue_begins hfree hv]
  exact ⟨rfl, bit_setF_one c h .XSPI_STATUS F.XSPI_STATUS_BUSY (by decide)⟩

theorem program_accepted {c : Chip} {a : Nat} {l : List Byte} (hne : l ≠ []) (hlen : l.length ≤ 32) (hpage : a % 256 + l.length ≤ 256)
    (ha : a < 67108864) (hs : c.staging? = some (bankAt a)) (r : Option ReqId) :
    c.xspiVerdict { op := xoPROGRAM, addr := a, len := l.length, data := l, req := r } = xeNONE := by
  have hpos : 1 ≤ l.length := List.length_pos_iff.2 hne
  simp [Chip.xspiVerdict, xoPROGRAM, staging_open hs, hpos, Nat.not_lt.2 hpage, Nat.not_le.2 ha]
  omega

theorem erase_accepted {c : Chip} {a : Nat} (hal : a % 65536 = 0) (ha : a < 67108864) (hs : c.staging? = some (bankAt a))
    (r : Option ReqId) : c.xspiVerdict { op := xoERASE, addr := a, len := 0, data := [], req := r } = xeNONE := by
  simp [Chip.xspiVerdict, xoERASE, staging_open hs, hal, Nat.not_le.2 ha]

/-! ### The obligation -/

/-- Settles O37: the opcodes by `runs_served`, staging by `xspiIssue_busy`. -/
theorem attestation : Obligations.Attestation := by
  unfold Obligations.Attestation
  intro s hcanon q e
  refine ⟨?_, ?_, ?_, ?_, ?_, ?_, ?_, ?_, ?_, ?_⟩
  · intro n hs
    refine runs_served hs rfl ?_
    rw [Chip.quoteBytes, Chip.quoteBytes, taken_quoteOf, taken_fw]
    exact answered_taken hs _ _ _
  · intro f k hs hk
    refine runs_served hs rfl ?_
    simp only [Nat.not_lt.2 hk, if_false, taken_fw]
    exact answered_taken hs _ _ _
  · intro f n hs hany
    refine runs_served hs rfl ?_
    simp only [taken_fw, hany, Bool.not_true, Bool.false_eq_true, if_false, taken_quoteOf, taken_measAt, answer_fw]
    refine ⟨logTrim_answered hs _ _ _ _ _, ?_⟩
    simp [Chip.logTrim, Chip.updFw, Chip.updBead, taken_measAt]
  · intro f n hs hany
    refine runs_served hs rfl ?_
    simp only [taken_fw, hany, Bool.not_false, if_true, answer_fw]
    exact ⟨answered_taken hs _ _ _, trivial⟩
  · intro w hs hw
    refine runs_served hs rfl ?_
    simp only [Nat.not_lt.2 hw, if_false]
    exact answered_taken hs _ _ _
  · intro a l hs hne hlen hpage ha hstage hfree
    have hpos : l.isEmpty = false := by simpa using hne
    refine runs_served hs rfl ?_
    simp only [hpos, Bool.false_eq_true, Nat.not_lt.2 hlen, Nat.not_le.2 ha, or_self, if_false, taken_staging, hstage, ne_eq,
      not_true_eq_false]
    have hbusy := xspiIssue_busy (canon_taken hcanon q) (by simpa using hfree)
      (program_accepted hne hlen hpage ha (by simpa using hstage) (some q))
    simpa only [taken_clk] using hbusy
  · intro a l hs hne hlen ha hstage hrun
    have hpos : l.isEmpty = false := by simpa using hne
    refine runs_served hs rfl ?_
    simp only [hpos, Bool.false_eq_true, Nat.not_lt.2 hlen, Nat.not_le.2 ha, or_self, if_false, taken_staging, hstage, ne_eq,
      not_true_eq_false]
    simp [Chip.xspiIssue, hrun, Chip.updFw]
  · intro a l hs hne hlen ha hstage
    have hpos : l.isEmpty = false := by simpa using hne
    refine runs_served hs rfl ?_
    simp only [hpos, Bool.false_eq_true, Nat.not_lt.2 hlen, Nat.not_le.2 ha, or_self, if_false, taken_staging, ne_eq, hstage,
      not_false_eq_true, if_true, answer_fw, taken_fw]
    exact ⟨answered_taken hs _ _ _, trivial⟩
  · intro a hs hal ha hstage hfree
    refine runs_served hs rfl ?_
    simp only [Nat.not_le.2 ha, hal, ne_eq, not_true_eq_false, or_self, if_false, taken_staging, hstage]
    have hbusy := xspiIssue_busy (canon_taken hcanon q) (by simpa using hfree)
      (erase_accepted hal ha (by simpa using hstage) (some q))
    simpa only [taken_clk] using hbusy
  · intro a hs hal ha hstage
    refine runs_served hs rfl ?_
    simp only [Nat.not_le.2 ha, hal, ne_eq, not_true_eq_false, or_self, if_false, taken_staging, hstage, not_false_eq_true, if_true,
      answer_fw, taken_fw]
    exact ⟨answered_taken hs _ _ _, trivial⟩

end Sys2Proof.Proofs

namespace Sys2Proof.Proofs

open Sys2Proof.Machine Sys2Proof.Laws

/-! Marks arm, match and act (12 R254 to R263). -/

/-! ### Contexts of marks -/

theorem ctx_of_pond {c d : Chip} (h : d.pond = c.pond) (i : Nat) : d.ctx i = c.ctx i := by
  rw [Chip.ctx, Chip.ctx, h]

theorem touchBy_pond (c : Chip) (r : Role) (i : Nat) (b : Bool) : (c.touchBy r i b).pond = c.pond :=
  (Chip.touchBy_fr (f := keeping [.pond] []) (Fr.refl _ c) (by simp)).kept.pond (by simp)

theorem setBody_ctx (c : Chip) (i : Nat) (b : Body) : (c.setBody i b).ctx i = { c.ctx i with body := b } := ctx_setCtx_same c i _

theorem setBody_ctx_other (c : Chip) {i j : Nat} (b : Body) (h : i ≠ j) : (c.setBody j b).ctx i = c.ctx i := ctx_setCtx_other c _ h

theorem setBody_grants (c : Chip) (i : Nat) (b : Body) : (c.setBody i b).pond.grants = c.pond.grants := rfl

theorem mark?_of_ctx {c d : Chip} {i : Nat} (h : d.ctx i = c.ctx i) (g : Byte) : d.mark? i g = c.mark? i g := by
  rw [Chip.mark?, Chip.mark?, Chip.refOk, Chip.refOk, h]

theorem mark?_of_pond {c d : Chip} (h : d.pond = c.pond) (i : Nat) (g : Byte) : d.mark? i g = c.mark? i g :=
  mark?_of_ctx (ctx_of_pond h i) g

/-- A mark found is the body of its context. -/
theorem body_of_mark? {c : Chip} {i : Nat} {g : Byte} {m : MarkBody} (h : c.mark? i g = some m) :
    c.refOk i g = true ∧ (c.ctx i).body = .mark m := by
  unfold Chip.mark? at h
  split at h
  · next href =>
    split at h
    · next hbody =>
      cases h
      exact ⟨href, hbody⟩
    · cases h
  · cases h

theorem mark?_of_body {c : Chip} {i : Nat} {g : Byte} {m : MarkBody} (href : c.refOk i g = true) (hb : (c.ctx i).body = .mark m) :
    c.mark? i g = some m := by
  simp [Chip.mark?, href, hb]

theorem setMark_pond (c : Chip) (i : Nat) (m : MarkBody) : (c.setMark i m).pond = (c.setBody i (.mark m)).pond := touchBy_pond _ _ _ _

/-- A mark stored is the mark found. -/
theorem setMark_mark? {c : Chip} {i : Nat} {g : Byte} {m : MarkBody} (h : c.mark? i g = some m) (m' : MarkBody) :
    (c.setMark i m').mark? i g = some m' := by
  have hctx : (c.setMark i m').ctx i = { c.ctx i with body := .mark m' } := (ctx_of_pond (setMark_pond c i m') i).trans (setBody_ctx c i _)
  refine mark?_of_body ?_ (congrArg Ctx.body hctx)
  rw [Chip.refOk, hctx]
  exact (body_of_mark? h).1

theorem setMark_grants (c : Chip) (i : Nat) (m : MarkBody) : (c.setMark i m).pond.grants = c.pond.grants := by rw [setMark_pond]; rfl

/-- What a mark's new state leaves. -/
theorem fr_setMark {ps : List Part} {rs : List Reg} (c : Chip) (i : Nat) (m : MarkBody) (h : Part.pond ∉ ps ∧ Part.engines ∉ ps) :
    Fr (keeping ps rs) c (c.setMark i m) :=
  Chip.setMark_fr (Fr.refl _ c) (keeping_of_not_mem h.1) (keeping_of_not_mem h.2)

theorem fr_mstate {ps : List Part} {rs : List Reg} (c : Chip) (i : Nat) (g : Byte) (st : Nat) (h : Part.pond ∉ ps ∧ Part.engines ∉ ps) :
    Fr (keeping ps rs) c (c.mstate i g st) :=
  Chip.mstate_fr (Fr.refl _ c) (keeping_of_not_mem h.1) (keeping_of_not_mem h.2)

theorem mstate_eq {c : Chip} {i : Nat} {g : Byte} {m : MarkBody} (h : c.mark? i g = some m) (st : Nat) :
    c.mstate i g st = c.setMark i { m with mstate := st } := by
  simp [Chip.mstate, h]

theorem mstate_grants (c : Chip) (i : Nat) (g : Byte) (st : Nat) : (c.mstate i g st).pond.grants = c.pond.grants := by
  unfold Chip.mstate
  split
  · rfl
  · exact setMark_grants _ _ _

/-- A mark that is not freed with its end keeps its context. -/
theorem endMark_eq {c : Chip} {i : Nat} {g : Byte} {m : MarkBody} (h : c.mark? i g = some m) (ha : m.autoFree = false) (st : Nat) :
    c.endMark i g st = c.setMark i { m with mstate := st } := by
  simp [Chip.endMark, h, ha, Chip.when]

/-! ### What a mark's event leaves -/

theorem fr_postMark {ps : List Part} {rs : List Reg} (c : Chip) (m : MarkBody) (e : Event) (r : Option Nat) (h : Part.doors ∉ ps) :
    Fr (keeping ps rs) c (c.postMark m e r) :=
  Chip.postMark_fr (Fr.refl _ c) (keeping_of_not_mem h)

theorem fr_fired {ps : List Part} {rs : List Reg} (c : Chip) (m : MarkBody) (i : Nat) (g : Byte) (t : BitVec 64) (d : Bool) (r : Option Nat)
    (h : Part.doors ∉ ps) : Fr (keeping ps rs) c (c.fired m i g t d r) :=
  Chip.fired_fr (Fr.refl _ c) (keeping_of_not_mem h)

theorem fired_sei (c : Chip) (m : MarkBody) (i : Nat) (g : Byte) (t : BitVec 64) (d : Bool) (r : Option Nat) :
    (c.fired m i g t d r).sei = c.sei :=
  (fr_fired (ps := [.sei]) (rs := []) c m i g t d r (by simp)).kept.sei (by simp)

theorem fired_pond (c : Chip) (m : MarkBody) (i : Nat) (g : Byte) (t : BitVec 64) (d : Bool) (r : Option Nat) :
    (c.fired m i g t d r).pond = c.pond :=
  (fr_fired (ps := [.pond]) (rs := []) c m i g t d r (by simp)).kept.pond (by simp)

theorem postMark_sei (c : Chip) (m : MarkBody) (e : Event) (r : Option Nat) : (c.postMark m e r).sei = c.sei :=
  (fr_postMark (ps := [.sei]) (rs := []) c m e r (by simp)).kept.sei (by simp)

theorem postMark_pond (c : Chip) (m : MarkBody) (e : Event) (r : Option Nat) : (c.postMark m e r).pond = c.pond :=
  (fr_postMark (ps := [.pond]) (rs := []) c m e r (by simp)).kept.pond (by simp)

theorem setMark_sei (c : Chip) (i : Nat) (m : MarkBody) : (c.setMark i m).sei = c.sei :=
  (fr_setMark (ps := [.sei]) (rs := []) c i m (by simp)).kept.sei (by simp)

theorem mstate_sei (c : Chip) (i : Nat) (g : Byte) (st : Nat) : (c.mstate i g st).sei = c.sei :=
  (fr_mstate (ps := [.sei]) (rs := []) c i g st (by simp)).kept.sei (by simp)

/-! ### The nodes of a line -/

theorem find?_updFirst {α : Type} {p : α → Bool} {f : α → α} {l : List α} {x : α} (h : l.find? p = some x) (hf : p (f x) = true) :
    (updFirst p f l).find? p = some (f x) := by
  induction l with
  | nil => cases h
  | cons y t ih =>
    unfold updFirst
    by_cases hy : p y = true
    · have hxy : y = x := by simpa [hy] using h
      subst hxy
      simp [hy, hf]
    · have ht : t.find? p = some x := by simpa [hy] using h
      simp [hy, ih ht]

theorem node?_of_ports {c d : Chip} (h : d.ports = c.ports) (n : Port) (a : Nat) : d.node? n a = c.node? n a := by
  rw [Chip.node?, Chip.node?, h]

theorem updNode_node? {c : Chip} {n : Port} {a : Nat} {r : NodeRt} (h : c.node? n a = some r) {f : NodeRt → NodeRt}
    (hf : (f r).addr = r.addr) : (c.updNode n a f).node? n a = some (f r) := by
  have haddr : (r.addr == a) = true := List.find?_some (p := fun r : NodeRt => r.addr == a) h
  have hfind := find?_updFirst (p := fun r : NodeRt => r.addr == a) (f := f) h (by rw [hf]; exact haddr)
  rw [Chip.node?, Chip.updNode, Chip.updLine, updPort_same]
  exact hfind

/-- A frame for the controller leaves the nodes. -/
theorem sendUlp_node? (c : Chip) (n : Port) (f : CanFrame) (u : TxFor) (a : Nat) : (c.sendUlp n f u).node? n a = c.node? n a := by
  simp only [Chip.node?, Chip.sendUlp, Chip.updLine, Chip.updPort, Fin.getElem_fin, Vector.getElem_set_self]
  split <;> rfl

/-- A node that is free takes the first request that waits. -/
theorem startUlp_node? {c : Chip} {n : Port} {a : Nat} {r : NodeRt} {u : Ulp} {t : List Ulp} (h : c.node? n a = some r)
    (ho : r.out = none) (hq : r.queue = u :: t) : (c.startUlp n a).node? n a = some { r with out := some u, queue := t } := by
  simp only [Chip.startUlp, h, ho, hq]
  rw [sendUlp_node?]
  exact updNode_node? h rfl

/-- The object's write, if any, before a request queues. -/
def ulpMarked (c : Chip) (n : Port) (r : NodeRt) (u : Ulp) : Chip :=
  match u.write, c.objBody? r u.obj with
  | true, some (cid, b) => c.engWrite n cid (.obj { b with writePend := true })
  | _, _ => c

theorem queueUlp_eq {c : Chip} {n : Port} {a : Nat} {r : NodeRt} (h : c.node? n a = some r) (u : Ulp) :
    c.queueUlp n a u = if r.out.isSome && 8 ≤ r.queue.length then none
      else some (((ulpMarked c n r u).updNode n a (fun r => { r with queue := r.queue ++ [u] })).startUlp n a) := by
  unfold Chip.queueUlp
  rw [h]
  rfl

theorem ulpMarked_ports (c : Chip) (n : Port) (r : NodeRt) (u : Ulp) : (ulpMarked c n r u).ports = c.ports := by
  unfold ulpMarked
  split
  · exact (Chip.touchBy_fr (f := keeping [.ports] []) (Fr.refl _ _) (by simp)).kept.ports (by simp)
  · rfl

theorem objBody?_body {c : Chip} {r : NodeRt} {o cid : Nat} {b : ObjBody} (h : c.objBody? r o = some (cid, b)) :
    (c.ctx cid).body = .obj b := by
  unfold Chip.objBody? at h
  split at h
  · cases h
  · split at h
    · next hb =>
      cases h
      exact hb
    · cases h

/-- Of the Pond a request's start changes at most an object's write flag. -/
def MarksKept (c d : Chip) : Prop :=
  d.pond.grants = c.pond.grants ∧ ∀ i g m, c.mark? i g = some m → d.mark? i g = some m

theorem MarksKept.of_pond {c d : Chip} (h : d.pond = c.pond) : MarksKept c d :=
  ⟨congrArg _ h, fun i g _ hm => (mark?_of_pond h i g).trans hm⟩

theorem ulpMarked_marks (c : Chip) (n : Port) (r : NodeRt) (u : Ulp) : MarksKept c (ulpMarked c n r u) := by
  unfold ulpMarked
  split
  · next cid b _ hobj =>
    have hpond := touchBy_pond (c.setBody cid (.obj { b with writePend := true })) (.port n) cid true
    refine ⟨by rw [Chip.engWrite, hpond]; rfl, fun i g m hm => ?_⟩
    have hne : i ≠ cid := by
      rintro rfl
      have hbody := (body_of_mark? hm).2.symm.trans (objBody?_body hobj)
      cases hbody
    rw [← hm]
    exact mark?_of_ctx ((ctx_of_pond hpond i).trans (setBody_ctx_other c _ hne)) g
  · exact .of_pond rfl

theorem queueUlp_marks {c d : Chip} {n : Port} {a : Nat} {u : Ulp} (h : c.queueUlp n a u = some d) : MarksKept c d := by
  cases hn : c.node? n a with
  | none => simp [Chip.queueUlp, hn] at h
  | some r =>
    rw [queueUlp_eq hn] at h
    split at h
    · cases h
    · cases h
      have hpond : ((((ulpMarked c n r u).updNode n a (fun r => { r with queue := r.queue ++ [u] })).startUlp n a)).pond =
          (ulpMarked c n r u).pond := by
        refine (Chip.startUlp_fr (f := keeping [.pond] []) (Chip.updNode_fr (Fr.refl _ _) ?_) ?_).kept.pond ?_ <;> simp
      obtain ⟨hg, hm⟩ := ulpMarked_marks c n r u
      exact ⟨(congrArg Pond.grants hpond).trans hg, fun i g _ h => (mark?_of_pond hpond i g).trans (hm i g _ h)⟩

theorem cullMark_pond (c : Chip) (m : MarkBody) (res : Nat) (v cur : BitVec 16) : (c.cullMark m res v cur).2.pond = c.pond :=
  (Chip.cullMark_fr2 (f := keeping [.pond] []) (Fr.refl _ c) (by simp) (by simp) (by simp)).kept.pond (by simp)

/-- A mark's action leaves the marks. -/
theorem markActs_marks (c : Chip) (m : MarkBody) : MarksKept c (c.markActs m).2 := by
  unfold Chip.markActs
  dsimp only
  split
  · split
    · exact .of_pond (cullMark_pond _ _ _ _ _)
    · split
      · exact .of_pond (cullMark_pond _ _ _ _ _)
      · split
        · exact .of_pond rfl
        · split
          · next hq => exact queueUlp_marks hq
          · exact .of_pond rfl
    · split
      · exact .of_pond (cullMark_pond _ _ _ _ _)
      · split
        · exact .of_pond rfl
        · exact .of_pond (cullMark_pond _ _ _ _ _)
  · exact .of_pond rfl

theorem markActs_sei (c : Chip) (m : MarkBody) : (c.markActs m).2.sei = c.sei := by
  refine (Chip.markActs_fr2 (f := keeping [.sei] []) (Fr.refl _ c) ?_ ?_ ?_ ?_ ?_ ?_).kept.sei ?_ <;> simp

theorem canon_markActs {c : Chip} (h : Canon c) (m : MarkBody) : Canon (c.markActs m).2 := by
  refine (Chip.markActs_fr2 (f := keeping [] []) (Fr.refl _ c) ?_ ?_ ?_ ?_ ?_ ?_).canon h <;> simp

/-! ### The arming cycle -/

/-- An update that changes nothing of the belt changes nothing. -/
theorem updBelt_id (c : Chip) (b : Belt) (f : BeltSt → BeltSt) (h : f c.sei.belts[b] = c.sei.belts[b]) : c.updBelt b f = c := by
  unfold Chip.updBelt
  rw [h]
  have hset : c.sei.belts.set b c.sei.belts[b] = c.sei.belts := Vector.set_getElem_self _
  rw [hset]

/-- With no slot nothing is released. -/
theorem armRelease_nil {c : Chip} {b : Belt} (h : (c.sei.belts[b]).slots = []) : c.armRelease b = c := by
  unfold Chip.armRelease
  simp only [h, List.filter_nil, Chip.each, List.foldl_nil, List.append_nil]
  exact updBelt_id c b _ (by simp only [h, List.filter_nil]; rw [← h])

theorem crossedBy_nil (m : MarkBody) : m.crossedBy [] = none := rfl

/-- With no crossed position no mark is handed over. -/
theorem armCrossed_nil {c : Chip} {b : Belt} (h : (c.sei.belts[b]).crossed = []) : c.armCrossed b = c := by
  simp [-Fin.getElem_fin, Chip.armCrossed, h, crossedBy_nil, Chip.each]

/-- The belt when its one mark in reach is loaded. -/
def loadedBelt (x : BeltSt) (i : Nat) (g : Byte) (m : MarkBody) : BeltSt :=
  { x with slots := [⟨i, g, m, none, false, false, false⟩], passed := [], displaced := [] }

/-- One mark in reach takes a slot and is armed (R257). -/
theorem armLoad_single {c : Chip} {b : Belt} {d : Int} {i : Nat} {g : Byte} {m : MarkBody} (hs : (c.sei.belts[b]).slots = [])
    (hr : c.inReach b = [(d, i, g, m)]) : c.armLoad b = (c.updBelt b (fun x => loadedBelt x i g m)).mstate i g msARMED := by
  have hbelt : ∀ f : BeltSt → BeltSt, (∀ x : BeltSt, x.slots = [] → f x = loadedBelt x i g m) →
      c.updBelt b f = c.updBelt b (fun x => loadedBelt x i g m) := fun f hf => by
    rw [Chip.updBelt, hf _ hs, Chip.updBelt]
  unfold Chip.armLoad
  simp [-Fin.getElem_fin, hr, hs, Chip.each]
  rw [hbelt _ fun x hx => by simp [loadedBelt, hx]]

/-- The end of an arming cycle. -/
def armCycled (c : Chip) (b : Belt) (k : Nat) : Chip :=
  (c.updBelt b (fun x => { x with crossed := [], cyclePos := x.pos, lastCycle := some k })).syncArmed b

theorem syncArmed_sei (c : Chip) (b : Belt) : (c.syncArmed b).sei = c.sei := setSt_sei _ _ _ _

theorem armCycled_belt (c : Chip) (b : Belt) (k : Nat) : (armCycled c b k).sei.belts[b] =
    { c.sei.belts[b] with crossed := [], cyclePos := (c.sei.belts[b]).pos, lastCycle := some k } := by
  rw [armCycled, syncArmed_sei, updBelt_same]

theorem armCycled_pond (c : Chip) (b : Belt) (k : Nat) : (armCycled c b k).pond = c.pond := setSt_pond _ _ _ _

theorem armCycled_armed {c : Chip} (h : Canon c) (b : Belt) (k : Nat) (hn : (c.sei.belts[b]).slots.length < 128) :
    (armCycled c b k).get (.BELT_STATUS b) F.BELT_STATUS_ARMED = (c.sei.belts[b]).slots.length := by
  have hcanon : Canon (c.updBelt b (fun x => { x with crossed := [], cyclePos := x.pos, lastCycle := some k })) :=
    ⟨h.regs, h.flash, h.blocks⟩
  rw [armCycled, Chip.syncArmed, updBelt_same]
  exact get_setSt_same _ hcanon _ _ _ (by decide) (by decide) hn

/-- An unloaded belt keeps the slots that have hit (R257). -/
theorem unloadBelt_belt (c : Chip) (b : Belt) : ((c.unloadBelt b).sei.belts[b]) =
    { c.sei.belts[b] with slots := (c.sei.belts[b]).slots.filter (fun s => s.hit.isSome) } := by
  unfold Chip.unloadBelt
  dsimp only
  rw [syncArmed_sei, each_keeps (fun c => c.sei) (fun c x => mstate_sei c _ _ _), updBelt_same]

theorem unloadBelt_grants (c : Chip) (b : Belt) : (c.unloadBelt b).pond.grants = c.pond.grants := by
  unfold Chip.unloadBelt
  dsimp only
  rw [Chip.syncArmed, setSt_pond, each_keeps (fun c => c.pond.grants) (fun c x => mstate_grants c _ _ _)]
  rfl

/-- What a command's function leaves, its value given. -/
theorem runs_of_run_eq {s : State} {i : Instr} {f : Chip → Chip} {d : Chip} {p : Chip → Prop} (h : exec i s = s.run f)
    (hd : f s.chip = d) (hp : p d) : Runs i s p :=
  runs_of_run h (hd ▸ hp)

/-- What a command's function leaves where the Pond has nothing to serve, its function's value given. -/
theorem runs_of_runS_eq {s : State} {i : Instr} {f : Chip → Chip} {d : Chip} {p : Chip → Prop} (h : exec i s = s.runS f)
    (hd : f s.chip = d) (hg : d.pond.grants = []) (hp : p d) : Runs i s p :=
  runs_of_runS h (hd ▸ hg) (hd ▸ hp)

theorem updBelt_congr {c : Chip} {b : Belt} {f g : BeltSt → BeltSt} (h : f c.sei.belts[b] = g c.sei.belts[b]) :
    c.updBelt b f = c.updBelt b g := by
  rw [Chip.updBelt, h, Chip.updBelt]

/-! ### The action of a mark (R258, R261) -/

/-- The chip when a task's action has been carried out. -/
def actFired (c : Chip) (x : Slot) : Chip :=
  (c.markActs x.mark).2.fired x.mark x.cid x.gen (x.hit.getD 0#64) x.delayed (c.markActs x.mark).1

/-- The chip when the one task of a belt is done. -/
def taskActed (c : Chip) (b : Belt) (x : Slot) : Chip := (actFired c x).updBelt b (fun z => { z with tasks := [] })

theorem taskActed_marks (c : Chip) (b : Belt) (x : Slot) : MarksKept c (taskActed c b x) := by
  have hpond : (taskActed c b x).pond = (c.markActs x.mark).2.pond := fired_pond _ _ _ _ _ _ _
  obtain ⟨hg, hm⟩ := markActs_marks c x.mark
  exact ⟨(congrArg Pond.grants hpond).trans hg, fun i g _ h => (mark?_of_pond hpond i g).trans (hm i g _ h)⟩

theorem taskActed_ports (c : Chip) (b : Belt) (x : Slot) : (taskActed c b x).ports = (c.markActs x.mark).2.ports :=
  (fr_fired (ps := [.ports]) (rs := []) _ _ _ _ _ _ _ (by simp)).kept.ports (by simp)

theorem setMark_ports (c : Chip) (i : Nat) (m : MarkBody) : (c.setMark i m).ports = c.ports :=
  (fr_setMark (ps := [.ports]) (rs := []) c i m (by simp)).kept.ports (by simp)

/-- The one task of a belt acts and its mark has fired. -/
theorem runs_markAction {s : State} {b : Belt} {i : Cid} {x : Slot} {m : MarkBody} {p : Chip → Prop} (hgrants : s.chip.pond.grants = [])
    (htasks : (s.chip.sei.belts[b]).tasks = [x]) (hcid : x.cid = i.toNat) (hhit : x.hit.isSome = true) (hacted : x.acted = false)
    (hout : x.mark.outfall = false) (hreset : (s.chip.basins[b]).inReset = false) (hdoze : s.chip.dozing = false)
    (hmark : s.chip.mark? x.cid x.gen = some m) (hauto : m.autoFree = false)
    (hp : p ((taskActed s.chip b x).setMark x.cid { m with mstate := msFIRED })) : Runs (.markAction b i) s p := by
  have hexec : exec (.markAction b i) s = execMarkAction b i s := rfl
  obtain ⟨hg, hm⟩ := taskActed_marks s.chip b x
  refine runs_of_runS_eq hexec ?_ ((setMark_grants _ _ _).trans (hg.trans hgrants)) hp
  rw [← endMark_eq (hm _ _ _ hmark) hauto]
  have hhere : (x.cid == i.toNat && x.hit.isSome && !x.acted && !x.mark.outfall) = true := by simp [hcid, hhit, hacted, hout]
  have hdone : taskActed s.chip b x = (actFired s.chip x).updBelt b (fun z =>
      { z with tasks := dropFirst (fun x => x.cid == i.toNat && x.hit.isSome && !x.acted && !x.mark.outfall) z.tasks }) := by
    refine updBelt_congr ?_
    rw [actFired, fired_sei, markActs_sei, htasks]
    simp [dropFirst, hhere]
  rw [hdone]
  simp [-Fin.getElem_fin, hreset, hdoze, htasks, hcid, hhit, hacted, hout, List.find?_cons_of_pos, actFired]

/-! ### Late marks (R262) -/

/-- What a late mark's action does before its event. -/
def lateActs (c : Chip) (m : MarkBody) : Option Nat × Chip := if m.outfall then (none, c.markOutfall m c.sei.time) else c.markActs m

theorem lateActs_marks (c : Chip) (m : MarkBody) : MarksKept c (lateActs c m).2 := by
  unfold lateActs
  split
  · exact .of_pond rfl
  · exact markActs_marks c m

theorem lateActs_belts (c : Chip) (m : MarkBody) : (lateActs c m).2.sei.belts = c.sei.belts := by
  unfold lateActs
  split
  · rfl
  · rw [markActs_sei]

theorem canon_lateActs {c : Chip} (h : Canon c) (m : MarkBody) : Canon (lateActs c m).2 := by
  unfold lateActs
  split
  · exact ⟨h.regs, h.flash, h.blocks⟩
  · exact canon_markActs h m

/-- The chip when a late mark has acted and its own event, if any, is posted. -/
def lateFired (c : Chip) (m : MarkBody) (x : Late) : Chip :=
  if m.action = 6 then (lateActs c m).2.fired m x.cid x.gen c.sei.time false (lateActs c m).1 else (lateActs c m).2

theorem lateFired_fr {ps : List Part} {rs : List Reg} (c : Chip) (m : MarkBody) (x : Late) (h : Part.doors ∉ ps) :
    Fr (keeping ps rs) (lateActs c m).2 (lateFired c m x) := by
  unfold lateFired
  split
  · exact fr_fired _ _ _ _ _ _ _ h
  · exact Fr.refl _ _

/-- The chip when the one late mark of a belt has been taken. -/
def lateTaken (c : Chip) (b : Belt) (x : Late) : Chip := c.updBelt b (fun y => y.takeLate x.cid (c.sei.time.toNat / 1600))

/-- The chip when a late mark has acted and is reported. -/
def lateActed (c : Chip) (b : Belt) (m : MarkBody) (x : Late) : Chip :=
  let d := (lateFired (lateTaken c b x) m x).record .SEI_STATUS F.SEI_STATUS_LATE_SEEN
  d.postMark m (d.evMark 0x0702 m x.cid x.gen c.sei.time (c.sei.belts[b]).pos x.cause) (lateActs (lateTaken c b x) m).1

theorem lateActed_fr {ps : List Part} {rs : List Reg} (c : Chip) (b : Belt) (m : MarkBody) (x : Late) (h : Part.doors ∉ ps) :
    Fr (keeping ps rs) ((lateFired (lateTaken c b x) m x).record .SEI_STATUS F.SEI_STATUS_LATE_SEEN) (lateActed c b m x) :=
  fr_postMark _ _ _ _ h

theorem lateActed_marks (c : Chip) (b : Belt) (m : MarkBody) (x : Late) : MarksKept c (lateActed c b m x) := by
  have hpost := (lateActed_fr (ps := [.pond]) (rs := []) c b m x (by simp)).kept.pond (by simp)
  have hfired := (lateFired_fr (ps := [.pond]) (rs := []) (lateTaken c b x) m x (by simp)).kept.pond (by simp)
  have hpond : (lateActed c b m x).pond = (lateActs (lateTaken c b x) m).2.pond := hpost.trans hfired
  obtain ⟨hg, hm⟩ := lateActs_marks (lateTaken c b x) m
  exact ⟨(congrArg Pond.grants hpond).trans hg, fun i g _ h => (mark?_of_pond hpond i g).trans (hm i g _ h)⟩

theorem lateActed_belt (c : Chip) (b : Belt) (m : MarkBody) (x : Late) :
    (lateActed c b m x).sei.belts[b] = (c.sei.belts[b]).takeLate x.cid (c.sei.time.toNat / 1600) := by
  have hpost := (lateActed_fr (ps := [.sei]) (rs := []) c b m x (by simp)).kept.sei (by simp)
  have hfired := (lateFired_fr (ps := [.sei]) (rs := []) (lateTaken c b x) m x (by simp)).kept.sei (by simp)
  rw [hpost, record_sei, hfired, lateActs_belts]
  exact updBelt_same _ _ _

theorem lateActed_seen {c : Chip} (h : Canon c) (b : Belt) (m : MarkBody) (x : Late) :
    (lateActed c b m x).bit .SEI_STATUS F.SEI_STATUS_LATE_SEEN = true := by
  have hpost := (lateActed_fr (ps := []) (rs := [.SEI_STATUS]) c b m x (by simp)).kept.regs .SEI_STATUS (by simp)
  have htaken : Canon (lateTaken c b x) := ⟨h.regs, h.flash, h.blocks⟩
  have hcanon := (lateFired_fr (ps := []) (rs := []) (lateTaken c b x) m x (by simp)).canon (canon_lateActs htaken m)
  rw [bit_of_rd hpost]
  exact bit_record_same _ hcanon _ _ (by decide) (by decide)

/-! ### Clauses -/

theorem handLate_late (c : Chip) (b : Belt) (i : Nat) (g : Byte) (k : Nat) :
    ((c.handLate b i g k).sei.belts[b]).late = (c.sei.belts[b]).late ++ [⟨i, g, k⟩] := by
  rw [Chip.handLate, updBelt_same]

theorem markOutfall_belts (c : Chip) (m : MarkBody) (t : BitVec 64) : (c.markOutfall m t).sei.belts = c.sei.belts := rfl

/-- The chip when a mark has been considered. -/
def considered (c : Chip) (i : Cid) : Chip := c.updSei (fun x => { x with fresh := x.fresh.filter (fun y => y.cid != i.toNat) })

/-- The chip when a mark that is due has been considered: behind the belt's position it is late at once (R256, R260). -/
def consideredLate (c : Chip) (i : Cid) (g : Byte) (m : MarkBody) (k : Option Nat) : Chip :=
  if m.distance (c.sei.belts[m.belt]).pos < 0 then (considered c i).handLate m.belt i.toNat g 3
  else match k with
    | some k => (considered c i).handLate m.belt i.toNat g k
    | none => considered c i

/-- The chip when the slot of a mark has acted. -/
def slotActed (c : Chip) (b : Belt) (i : Cid) : Chip := c.updBelt b (fun y => { y with
  slots := updFirst (fun x => x.cid == i.toNat && x.hit.isSome && !x.acted && x.mark.outfall) (fun z => { z with acted := true }) y.slots })

/-! ### The obligation -/

/-- Settles O35: each command's branch; the marks stay by `markActs_marks`. -/
theorem marks : Obligations.Marks := by
  unfold Obligations.Marks
  intro s hcanon hgrants b
  refine ⟨?_, ?_, ?_, ?_, ?_, ?_, ?_, ?_, ?_, ?_⟩
  · intro i g m k hfresh hmark hpend hup hen hpos hlate
    have hexec : exec (.markConsider i) s = execMarkConsider i s := rfl
    have hgone : (considered s.chip i).sei.fresh = [] := by simp [considered, Chip.updSei, hfresh]
    have hkept : ((considered s.chip i).sei.belts[m.belt]).late = [] := hlate
    refine runs_of_run_eq hexec (d := consideredLate s.chip i g m k) ?_ ?_
    · simp only [hfresh, hmark, hpend, hup, hen, hpos, List.find?_singleton, beq_self_eq_true, if_true, ne_eq, not_true_eq_false,
        if_false, Bool.not_true, Bool.or_self, Bool.false_eq_true]
      rfl
    unfold consideredLate
    by_cases hdist : m.distance (s.chip.sei.belts[m.belt]).pos < 0
    · rw [if_pos hdist, if_pos hdist, handLate_late]
      exact ⟨hgone, congrArg (· ++ _) hkept⟩
    · rw [if_neg hdist, if_neg hdist]
      cases k with
      | none => exact ⟨hgone, hkept⟩
      | some k =>
        dsimp only
        rw [handLate_late]
        exact ⟨hgone, congrArg (· ++ _) hkept⟩
  · intro i g m d hlast hcycle hup hen hpos hslots hcrossed hreach hmark
    have hexec : exec (.armingCycle b) s = execArmingCycle b s := rfl
    obtain ⟨hreset, hdoze, hrun⟩ : (s.chip.basins[b]).inReset = false ∧ s.chip.dozing = false ∧ s.chip.sei.running = true := by
      simpa [-Fin.getElem_fin, Chip.armUp, and_assoc] using hup
    let e := s.chip.updBelt b (fun x => loadedBelt x i g m)
    have he : e.mark? i g = some m := hmark
    have hbelt : (e.mstate i g msARMED).sei.belts[b] = loadedBelt s.chip.sei.belts[b] i g m := by
      rw [mstate_sei]
      exact updBelt_same _ _ _
    have hcanone : Canon (e.mstate i g msARMED) :=
      (fr_mstate (ps := []) (rs := []) e i g msARMED (by simp)).canon ⟨hcanon.regs, hcanon.flash, hcanon.blocks⟩
    refine runs_of_runS_eq hexec (d := armCycled (e.mstate i g msARMED) b (s.chip.sei.time.toNat / 1600)) ?_ ?_ ⟨?_, ?_, ?_, ?_⟩
    · simp [-Fin.getElem_fin, hlast, hcycle, hreset, hdoze, hrun, armRelease_nil hslots, hen, hpos, armCrossed_nil hcrossed,
        armLoad_single hslots hreach]
      rfl
    · rw [armCycled_pond, mstate_grants]
      exact hgrants
    · rw [armCycled_belt, hbelt]
      rfl
    · rw [mark?_of_pond (armCycled_pond _ _ _), mstate_eq he, setMark_mark? he]
      rfl
    · rw [armCycled_armed hcanone, hbelt]
      · rfl
      · rw [hbelt]
        simp [loadedBelt]
    · rw [armCycled_belt]
  · intro hlast hcycle hrun hreset
    have hexec : exec (.armingCycle b) s = execArmingCycle b s := rfl
    refine runs_of_runS_eq hexec (d := s.chip) ?_ hgrants ⟨rfl, rfl⟩
    simp [-Fin.getElem_fin, hreset]
  · intro hlast hcycle hrun hreset hdoze
    have hexec : exec (.armingCycle b) s = execArmingCycle b s := rfl
    refine runs_of_runS_eq hexec (d := s.chip.unloadBelt b) ?_ ((unloadBelt_grants _ _).trans hgrants) ?_
    · simp [-Fin.getElem_fin, hlast, hcycle, hrun, hreset, hdoze]
    · rw [unloadBelt_belt]
      exact ⟨rfl, rfl⟩
  · intro i x t hslots hcid hhit hacted hout
    have hexec : exec (.slotMatch b i) s = execSlotMatch b i s := rfl
    have hhere : (x.cid == i.toNat && x.hit.isSome && !x.acted && x.mark.outfall) = true := by simp [hcid, hhit, hacted, hout]
    have hfind : [x].find? (fun x : Slot => x.cid == i.toNat && x.hit.isSome && !x.acted && x.mark.outfall) = some x :=
      List.find?_cons_of_pos hhere
    refine runs_of_run_eq hexec (d := ((slotActed s.chip b i).markOutfall x.mark t).fired x.mark x.cid x.gen t false none) ?_ ?_
    · simp only [hslots, hfind, hhit, Option.getD_some]
      rfl
    · rw [fired_sei, markOutfall_belts, slotActed, updBelt_same]
      refine ⟨?_, updOutfall_same _ _ _⟩
      simp [-Fin.getElem_fin, hslots, updFirst, hcid, hhit, hacted, hout]
  · intro i x m htasks hcid hhit hacted hout hreset hdoze hmark hauto
    refine runs_markAction hgrants htasks hcid hhit hacted hout hreset hdoze hmark hauto ⟨?_, ?_⟩
    · rw [setMark_sei, taskActed, updBelt_same]
    · exact setMark_mark? ((taskActed_marks s.chip b x).2 _ _ _ hmark) _
  · intro i x m n a o p v r htasks hcid hhit hacted hreset hdoze hmark hauto hact htemp hport hnode hr hfree hempty
    have hout : x.mark.outfall = false := by simp [MarkBody.outfall, hact]
    refine runs_markAction hgrants htasks hcid hhit hacted hout hreset hdoze hmark hauto ?_
    rw [node?_of_ports (setMark_ports _ _ _), node?_of_ports (taskActed_ports _ _ _)]
    simp only [Chip.markActs, hact, true_or, if_true, htemp, hport, hnode, Option.orElse, hr, Option.isNone_some, Bool.false_eq_true,
      if_false, queueUlp_eq hr, hfree, Option.isSome_none, Bool.false_and]
    rw [startUlp_node? (updNode_node? ((node?_of_ports (ulpMarked_ports _ _ _ _) n a).trans hr) rfl) hfree
      (congrArg (· ++ _) hempty)]
    rfl
  · intro i x m n d g ep v htasks hcid hhit hacted hreset hdoze hmark hauto hact htemp hport href
    have hout : x.mark.outfall = false := by simp [MarkBody.outfall, hact]
    refine runs_markAction hgrants htasks hcid hhit hacted hout hreset hdoze hmark hauto ?_
    rw [setMark_ports, taskActed_ports]
    simp only [Chip.markActs, hact, or_true, if_true, htemp, hport, href, Chip.updDrop]
    rw [updPort_same]
  · intro i x m hfirst hcid hup hen hpos hmark hauto hwin hroom
    have hexec : exec (.lateAction b i) s = execLateAction b i s := rfl
    have hne : ¬ x.cid ≠ i.toNat := not_not.2 hcid
    have hfull : ((s.chip.sei.belts[b]).lateAt == s.chip.sei.time.toNat / 1600 && 32 ≤ (s.chip.sei.belts[b]).lateN) = false := by
      rcases hroom with h | h
      · simp [-Fin.getElem_fin, h]
      · simp [-Fin.getElem_fin, Nat.not_le.2 h]
    obtain ⟨hg, hm⟩ := lateActed_marks s.chip b m x
    refine runs_of_runS_eq hexec (d := (lateActed s.chip b m x).setMark x.cid { m with mstate := msFIRED_LATE }) ?_ ?_ ⟨?_, ?_, ?_⟩
    · rw [← endMark_eq (hm _ _ _ hmark) hauto]
      simp only [hup, hen, hpos, hfirst, hne, hmark, hwin, hfull, Bool.not_true, Bool.or_self, Bool.false_eq_true, if_false]
      rfl
    · exact (setMark_grants _ _ _).trans (hg.trans hgrants)
    · rw [setMark_sei, lateActed_belt]
      rfl
    · exact setMark_mark? (hm _ _ _ hmark) _
    · rw [bit_of_rd ((fr_setMark (ps := []) (rs := [.SEI_STATUS]) _ _ _ (by simp)).kept.regs _ (by simp))]
      exact lateActed_seen hcanon b m x
  · intro i x m hfirst hcid hup hen hpos hmark hauto hwin
    have hexec : exec (.lateAction b i) s = execLateAction b i s := rfl
    have hne : ¬ x.cid ≠ i.toNat := not_not.2 hcid
    let e := s.chip.updBelt b (fun y => y.dropLate x.cid)
    let d := e.postMark m (e.evMark 0x0703 m x.cid x.gen e.sei.time m.pos x.cause) none
    have hpond : d.pond = s.chip.pond := postMark_pond _ _ _ _
    have hmarkd : d.mark? x.cid x.gen = some m := (mark?_of_pond hpond _ _).trans hmark
    refine runs_of_runS_eq hexec (d := d.setMark x.cid { m with mstate := msEXPIRED }) ?_ ?_ ⟨?_, ?_⟩
    · rw [← endMark_eq hmarkd hauto]
      simp only [hup, hen, hpos, hfirst, hne, hmark, hwin, Bool.not_true, Bool.or_self, Bool.false_eq_true, if_false,
        Bool.not_false, if_true]
      rfl
    · rw [setMark_grants, hpond]
      exact hgrants
    · rw [setMark_sei, postMark_sei, updBelt_same]
      rfl
    · exact setMark_mark? hmarkd _

end Sys2Proof.Proofs

namespace Sys2Proof.Proofs

open Sys2Proof.Machine Sys2Proof.Laws

/-! SUPPORT. A register's address leads back to it (15 R309). -/

/-- A family's registers stand at its addresses. -/
def Sound (f : RegFam) : Prop := ∀ i < f.n1, ∀ j < f.n2, (f.reg i j).addr = f.base + f.s1 * i + f.s2 * j

theorem regFams_sound : ∀ f ∈ regFams, Sound f := by
  simp only [regFams, List.forall_mem_append, regFams1, regFams2, regFams3, regFams4, List.forall_mem_cons, Sound, List.not_mem_nil,
    false_implies, implies_true, and_true]
  refine ⟨⟨⟨?_, ?_⟩, ?_⟩, ?_⟩
  all_goals
    repeat' apply And.intro
    all_goals
      intro i hi j hj
      simp [Reg.addr, Fin.ofNat, Nat.mod_eq_of_lt hi, Nat.mod_eq_of_lt hj] <;> omega

/-- A family's registers do not overlap. -/
theorem regFams_strides : ∀ f ∈ regFams, 0 < f.s2 ∧ f.s2 * f.n2 ≤ f.s1 := by
  simp [regFams, regFams1, regFams2, regFams3, regFams4]

/-- An address of a family that is one of its registers' is hit. -/
theorem hit_reg (f : RegFam) (hs : 0 < f.s2 ∧ f.s2 * f.n2 ≤ f.s1) {i j : Nat} (hi : i < f.n1) (hj : j < f.n2) :
    f.hit (f.base + f.s1 * i + f.s2 * j) = some (f.reg i j) := by
  obtain ⟨hpos2, hfits⟩ := hs
  have hlt : f.s2 * j < f.s1 := lt_of_lt_of_le (Nat.mul_lt_mul_of_pos_left hj hpos2) hfits
  have hpos : 0 < f.s1 := Nat.zero_lt_of_lt hlt
  have hd : f.base + f.s1 * i + f.s2 * j - f.base = f.s2 * j + f.s1 * i := by omega
  have hdiv : (f.s2 * j + f.s1 * i) / f.s1 = i := by
    rw [Nat.add_mul_div_left _ _ hpos, Nat.div_eq_of_lt hlt, Nat.zero_add]
  have hmod : (f.s2 * j + f.s1 * i) % f.s1 = f.s2 * j := by
    rw [Nat.add_mul_mod_self_left, Nat.mod_eq_of_lt hlt]
  have hle : f.base ≤ f.base + f.s1 * i + f.s2 * j := by omega
  unfold RegFam.hit
  rw [if_pos hle]
  dsimp only
  rw [hd, hdiv, hmod, Nat.mul_div_cancel_left _ hpos2, if_pos ⟨hi, hj, Nat.mul_mod_right _ _⟩]

/-- What a family hits stands at the address. -/
theorem addr_of_hit {f : RegFam} (hf : Sound f) {a : Nat} {r : Reg} (h : f.hit a = some r) : r.addr = a := by
  unfold RegFam.hit at h
  split at h
  · dsimp only at h
    split at h
    · next hbase hd =>
      obtain ⟨hi, hj, hm⟩ := hd
      cases h
      rw [hf _ hi _ hj]
      have h1 := Nat.div_add_mod (a - f.base) f.s1
      have h2 := Nat.div_add_mod ((a - f.base) % f.s1) f.s2
      omega
    · cases h
  · cases h

theorem exists_ofNat {m : Nat} [NeZero m] (n : Fin m) : ∃ i < m, Fin.ofNat m i = n := ⟨n.val, n.isLt, by simp⟩

theorem exists_ofNat_two (n : Fin 2) : ∃ i ≤ 1, Fin.ofNat 2 i = n := ⟨n.val, by omega, by simp⟩

theorem exists_ofNat_pair {m k : Nat} [NeZero m] [NeZero k] (n : Fin m) (l : Fin k) :
    ∃ i < m, ∃ j < k, Fin.ofNat m i = n ∧ Fin.ofNat k j = l :=
  ⟨n.val, n.isLt, l.val, l.isLt, by simp, by simp⟩

/-- Every register belongs to a family. -/
theorem exists_family (r : Reg) : ∃ f, regFams[r.ctorIdx]? = some f ∧ ∃ i < f.n1, ∃ j < f.n2, f.reg i j = r := by
  cases r <;> refine ⟨_, rfl, ?_⟩ <;> simp [-Fin.ofNat_eq_cast, exists_ofNat, exists_ofNat_two, exists_ofNat_pair]

/-- A register is found at its address. -/
theorem ofAddr_addr (r : Reg) : Reg.ofAddr r.addr = some r := by
  obtain ⟨f, hf, i, hi, j, hj, hr⟩ := exists_family r
  have hmem : f ∈ regFams := List.mem_of_getElem? hf
  have haddr : r.addr = f.base + f.s1 * i + f.s2 * j := by rw [← hr, regFams_sound f hmem i hi j hj]
  have hhit : f.hit r.addr = some r := by rw [haddr, hit_reg f (regFams_strides f hmem) hi hj, hr]
  have hall : ∀ g ∈ regFams, ∀ q, g.hit r.addr = some q → q = r := fun g hg q hq => addr_inj (addr_of_hit (regFams_sound g hg) hq)
  unfold Reg.ofAddr
  cases hfound : regFams.findSome? (fun g => g.hit r.addr) with
  | none => exact absurd (List.findSome?_eq_none_iff.1 hfound f hmem) (by simp [hhit])
  | some q =>
    obtain ⟨g, hg, hq⟩ := List.exists_of_findSome?_eq_some hfound
    rw [hall g hg q hq]

end Sys2Proof.Proofs

namespace Sys2Proof.Proofs

open Sys2Proof.Machine Sys2Proof.Laws

/-! SUPPORT. Answers and PD's rechecks leave the frames that the trunk has delivered (05 R122). -/

theorem claimDoor_delivered (c : Chip) (d : Door) (p : Path) (o : BitVec 64) (s : BitVec 16) :
    (c.claimDoor d p o s).trunk.delivered = c.trunk.delivered := by
  have hbump : ∀ c : Chip, (c.bumpDoor d).trunk = c.trunk := fun c =>
    (Chip.bumpDoor_fr (f := keeping [.trunk] []) (Fr.refl _ c) (by simp)).kept.trunk (by simp)
  have hpost : ∀ (c : Chip) r e, (c.postR r e).trunk = c.trunk := fun c r e =>
    (Chip.postR_fr (f := keeping [.trunk] []) (Fr.refl _ c) (by simp)).kept.trunk (by simp)
  unfold Chip.claimDoor
  dsimp only
  split
  · rw [updTrunk_trunk, hpost, hbump]
    rfl
  · rw [hpost, hbump]
    rfl

theorem answerEntry_trunk (c : Chip) (q : ReqId) (e : ReqEntry) (r : Nat) (l : List Nat) (n : Nat) :
    (c.answerEntry q e r l n).trunk = c.trunk :=
  (Chip.answerEntry_fr (f := keeping [.trunk] []) (Fr.refl _ c) (by simp) (by simp)).kept.trunk (by simp)

theorem answerRelease_trunk (c : Chip) (d : Door) (r : Nat) : (c.answerRelease d r).trunk = c.trunk :=
  (Chip.answerRelease_fr (f := keeping [.trunk] []) (Fr.refl _ c) (by simp) (by simp)).kept.trunk (by simp)

/-- A door given up resets its receive space alone. -/
def doorLeft (c : Chip) (d : Door) (cause : Nat) : Chip :=
  let c := c.answerRelease d rOK
  let c := c.updDoor d (fun s =>
    { s with path := none, releasing := none, takeover := none, releaseReq := none, evts := [], sent := 0, lost := none, owner := 0#64,
             sub := 0#16 })
  let c := c.bumpDoor d
  let c := c.postR (.others d) (c.ev 0x0161 4 d [d.val, cause])
  c.updTrunk (fun t => { t with rx := t.rx.filter (fun x => !(x.cls == 0 && x.id == d.val)) })

theorem doorLeft_delivered (c : Chip) (d : Door) (cause : Nat) : (doorLeft c d cause).trunk.delivered = c.trunk.delivered := by
  have hbump : ∀ c : Chip, (c.bumpDoor d).trunk = c.trunk := fun c =>
    (Chip.bumpDoor_fr (f := keeping [.trunk] []) (Fr.refl _ c) (by simp)).kept.trunk (by simp)
  have hpost : ∀ (c : Chip) r e, (c.postR r e).trunk = c.trunk := fun c r e =>
    (Chip.postR_fr (f := keeping [.trunk] []) (Fr.refl _ c) (by simp)).kept.trunk (by simp)
  rw [doorLeft, updTrunk_trunk, hpost, hbump, updDoor_trunk, answerRelease_trunk]

/-- The end of a release leaves what was delivered. -/
theorem finishRelease_delivered (c : Chip) (d : Door) : (c.finishRelease d).trunk.delivered = c.trunk.delivered := by
  unfold Chip.finishRelease
  dsimp only
  split
  · rfl
  · next cause _ =>
    have hleft := doorLeft_delivered c d cause
    split
    · rfl
    · split
      · exact hleft
      · split
        · rw [answerEntry_trunk]
          exact hleft
        · exact hleft
        · split
          · rw [claimDoor_delivered]
            exact hleft
          · rw [answerEntry_trunk, claimDoor_delivered]
            exact hleft

theorem answer_delivered (c : Chip) (q : ReqId) (r : Nat) (l : List Nat) (n : Nat) :
    (c.answer q r l n).trunk.delivered = c.trunk.delivered := by
  have hcull : ∀ (c : Chip) d s r v w i, (c.cullDoor d s r v w i).trunk = c.trunk := fun c d s r v w i =>
    (Chip.cullDoor_fr (f := keeping [.trunk] []) (Fr.refl _ c) (by simp) (by simp)).kept.trunk (by simp)
  unfold Chip.answer
  dsimp only
  split
  · rfl
  · split
    · rfl
    · split
      · rw [finishRelease_delivered, answerRelease_trunk]
      · split
        · rw [finishRelease_delivered, hcull]
          rfl
        · rw [answerEntry_trunk]

theorem answerOpt_delivered (c : Chip) (q : Option ReqId) (r : Nat) : (c.answerOpt q r).trunk.delivered = c.trunk.delivered := by
  unfold Chip.answerOpt
  split
  · rfl
  · exact answer_delivered _ _ _ _ _

theorem swapDrop_delivered (c : Chip) (n : Port) (r : Nat) : (c.swapDrop n r).trunk.delivered = c.trunk.delivered :=
  answerOpt_delivered _ _ _

theorem pdAnswerAll_delivered (c : Chip) (n : Port) (r : Nat) : (c.pdAnswerAll n r).trunk.delivered = c.trunk.delivered := by
  unfold Chip.pdAnswerAll
  dsimp only
  rw [answerOpt_delivered, answerOpt_delivered]
  exact swapDrop_delivered c n r

/-- The converter's part of the end of a PD port. -/
theorem pdLeave_delivered (c : Chip) (n : Port) : (c.pdLeave n).trunk.delivered = c.trunk.delivered := by
  unfold Chip.pdLeave
  dsimp only
  split
  · rfl
  · rw [← pdAnswerAll_delivered c n rROLE_CHANGED]
    have hfr : ∀ d : Chip, Fr (keeping [.trunk] []) d ((if (c.ports[n]).pd.converterOn then (d.pdNoContract n).pdTarget n 500
        else d.pdNoContract n)) := fun d => by
      split
      · exact Chip.pdTarget_fr (Chip.pdNoContract_fr (Fr.refl _ _) (by simp) (by simp)) (by simp) (by simp)
      · exact Chip.pdNoContract_fr (Fr.refl _ _) (by simp) (by simp)
    have hall := Chip.evContractEnd_fr (n_ := n) (cause_ := ceMODE) (Chip.updSt_fr (r := .PD_STATUS n) (f_ := fun w =>
      fset (fset (fset w F.PD_STATUS_CABLE_5A 0) F.PD_STATUS_CABLE_EPR 0) F.PD_STATUS_STATE pdOFF)
      (Chip.updPd_fr (n_ := n) (f_ := fun p => { converterOn := p.converterOn, sent := p.sent, pmb := p.pmb })
        (Chip.vconn_fr (n_ := n) (on_ := false) (hfr (c.pdAnswerAll n rROLE_CHANGED)) (by simp)) (by simp)) (by simp)) (by simp)
    exact congrArg Trunk.delivered (hall.kept.trunk (by simp))

theorem pdEnter_delivered (c : Chip) (n : Port) : (c.pdEnter n).trunk.delivered = c.trunk.delivered :=
  congrArg Trunk.delivered ((Chip.pdEnter_fr (f := keeping [.trunk] []) (Fr.refl _ c) (by simp) (by simp) (by simp)).kept.trunk (by simp))

theorem pdRecheck_delivered (c : Chip) : c.pdRecheck.trunk.delivered = c.trunk.delivered := by
  unfold Chip.pdRecheck
  dsimp only
  rw [each_keeps (fun c => c.trunk.delivered) (fun c n => pdEnter_delivered c n),
    each_keeps (fun c => c.trunk.delivered) (fun c n => pdLeave_delivered c n),
    each_keeps (fun c => c.trunk.delivered) (fun c n => (pdEnter_delivered _ n).trans (pdLeave_delivered c n))]

end Sys2Proof.Proofs

namespace Sys2Proof.Proofs

open Sys2Proof.Machine Sys2Proof.Laws

/-! SUPPORT. Writes over the register fabric (15 R310 to R316): what a write of a register does, path by path. -/

/-! ### The write of a register that a path may write -/

/-- The chip when the path's key, where one guards the register, is used up (R314). -/
def opened (c : Chip) (p : RegPath) (r : Reg) : Chip := if c.guarded r then c.lock p else c

theorem opened_eq (c : Chip) (p : RegPath) (r : Reg) : ∃ f, opened c p r = { c with fab := f } := by
  unfold opened
  split
  · exact ⟨_, rfl⟩
  · exact ⟨c.fab, rfl⟩

theorem canon_opened {c : Chip} (h : Canon c) (p : RegPath) (r : Reg) : Canon (opened c p r) := by
  obtain ⟨f, hf⟩ := opened_eq c p r
  rw [hf]
  exact ⟨h.regs, h.flash, h.blocks⟩

theorem opened_rd (c : Chip) (p : RegPath) (r x : Reg) : (opened c p r).rd x = c.rd x := by
  obtain ⟨f, hf⟩ := opened_eq c p r
  rw [hf]
  rfl

theorem opened_pond (c : Chip) (p : RegPath) (r : Reg) : (opened c p r).pond = c.pond := by
  obtain ⟨f, hf⟩ := opened_eq c p r
  rw [hf]

theorem fabWrite_reg {c : Chip} {p : RegPath} {r : Reg} {v : Word} (hw : Writable c p r v) (win : Bool) :
    c.fabWrite p win r.addr v = .ok (fsDONE, (opened c p r).putReg p win r v) := by
  have hkey : (c.guarded r && !c.unlocked p) = false := by
    cases hg : c.guarded r with
    | false => rfl
    | true => rw [hw.key hg]; rfl
  unfold Chip.fabWrite
  rw [ofAddr_addr]
  simp only [hkey, Bool.false_eq_true, if_false, hw.reserved, ne_eq, not_true_eq_false]
  rfl

theorem fabAnswer_rd (c : Chip) (p : RegPath) (x : FabAnswer) (r : Reg) : (c.fabAnswer p x).rd r = c.rd r := rfl

/-- A write that is let through does what the register's write does, and is answered DONE. -/
theorem runs_pathWrite {s : State} {i : Instr} {p : RegPath} {r : Reg} {v : Word} {d : Chip} {P : Chip → Prop}
    (hi : exec i s = s.runES (fun c => c.pathWrite p r.addr v)) (hw : Writable s.chip p r v)
    (hd : (opened s.chip p r).putReg p (p.val != 1) r v = d) (hg : d.pond.grants = [])
    (hp : P (d.fabAnswer p ⟨0#32, fsDONE⟩)) : Runs i s P := by
  refine runs_of_ok hi ?_ (d := d.fabAnswer p ⟨0#32, fsDONE⟩) hg hp
  rw [Chip.pathWrite, if_pos hw.up, fabWrite_reg hw, ← hd]

/-! ### Registers without a meaning of their own -/

theorem maskOf_of_none {r : Reg} {p : Acc → Bool} (h : r.fields.all (fun f => !p f.acc) = true) : r.maskOf p = 0#32 := by
  unfold Reg.maskOf
  generalize r.fields = l at h
  induction l with
  | nil => rfl
  | cons f t ih =>
    obtain ⟨hf, ht⟩ : p f.acc = false ∧ t.all (fun f => !p f.acc) = true := by simpa using h
    rw [List.foldl_cons, hf]
    exact ih ht

/-- The chip when the RS bits of a status word that matches are cleared (R316). -/
def rsCleared (c : Chip) (r : Reg) (v : Word) : Chip :=
  if r.fields.contains seqF && seqMatch v (c.rd r) then c.wr r (c.rd r &&& ~~~(v &&& r.maskOf (fun a => a == .rs))) else c

theorem canon_rsCleared {c : Chip} (h : Canon c) (r : Reg) (v : Word) : Canon (rsCleared c r v) := by
  unfold rsCleared
  split
  · exact canon_wr h _ _
  · exact h

theorem rsCleared_grants (c : Chip) (r : Reg) (v : Word) : (rsCleared c r v).pond.grants = c.pond.grants := by
  unfold rsCleared
  split <;> rfl

theorem wrRW_grants (c : Chip) (r : Reg) (v : Word) : (c.wrRW r v).pond.grants = c.pond.grants := by
  rw [(wrRW_fr c r v).kept.pond (by simp [frWrRW])]

theorem canon_wrRW {c : Chip} (h : Canon c) (r : Reg) (v : Word) : Canon (c.wrRW r v) := (wrRW_fr c r v).canon h

theorem dom_of_plainReg {r : Reg} (h : plainReg r = true) : r.dom = .compute := by
  unfold plainReg at h
  rw [Bool.and_eq_true, Bool.and_eq_true] at h
  exact eq_of_beq h.1.1

theorem rsMask_of_plainReg {r : Reg} (h : plainReg r = true) : r.maskOf (fun a => a == .rs) = 0#32 := by
  unfold plainReg at h
  rw [Bool.and_eq_true, Bool.and_eq_true] at h
  exact maskOf_of_none h.1.2

theorem putReg_compute {c : Chip} {p : RegPath} {win : Bool} {r : Reg} {v : Word} (h : r.dom = .compute) :
    c.putReg p win r v = c.putCompute p win r v := by
  unfold Chip.putReg
  split
  · rfl
  all_goals simp_all

/-- A plain register is written by its RW bits alone. -/
theorem putReg_plain {c : Chip} {p : RegPath} {win : Bool} {r : Reg} {v : Word} (h : plainReg r = true) :
    c.putReg p win r v = ((rsCleared c r v).wrRW r v).regEffect r (c.rd r) := by
  rw [putReg_compute (dom_of_plainReg h)]
  unfold Chip.putCompute
  split
  case h_14 => rfl
  all_goals exact Bool.noConfusion (show false = true from h)

theorem rsCleared_rd_plain {c : Chip} (hc : Canon c) {r : Reg} (h : plainReg r = true) (v : Word) : (rsCleared c r v).rd r = c.rd r := by
  unfold rsCleared
  split
  · rw [rd_wr_same _ hc, rsMask_of_plainReg h]
    simp only [BitVec.and_zero, BitVec.not_zero, BitVec.and_allOnes]
  · rfl

theorem crossing_of_plainReg {r : Reg} (h : plainReg r = true) : r.crossing = none := by
  revert h
  unfold Reg.crossing
  split <;> intro h
  case h_5 => rfl
  all_goals exact Bool.noConfusion (show false = true from h)

/-- An engine's write of a context keeps the grants. -/
theorem updNodeBody_grants (c : Chip) (n : Port) (r : NodeRt) (f : NodeBody → NodeBody) :
    (c.updNodeBody n r f).pond.grants = c.pond.grants := by
  have hpond : ∀ d : Chip, ∀ r i b, (d.touchBy r i b).pond = d.pond := fun d r i b => touchBy_pond d r i b
  rw [Chip.updNodeBody, Chip.engWrite, hpond]
  rfl

theorem pollSync_grants (c : Chip) (n : Port) : (c.pollSync n).pond.grants = c.pond.grants :=
  each_keeps (fun c => c.pond.grants) (fun c _ => updNodeBody_grants c _ _ _) c _

/-- What a plain register's write keeps, apart from the register: grants and delivered frames. -/
def SideKept (c d : Chip) : Prop := d.pond.grants = c.pond.grants ∧ d.trunk.delivered = c.trunk.delivered

theorem SideKept.of_fr {c d : Chip} {rs : List Reg} (h : Fr (keeping [.pond, .trunk] rs) c d) : SideKept c d :=
  ⟨congrArg Pond.grants (h.kept.pond (by simp)), congrArg Trunk.delivered (h.kept.trunk (by simp))⟩

theorem SideKept.of_eq {c d : Chip} (hp : d.pond = c.pond) (ht : d.trunk = c.trunk) : SideKept c d :=
  ⟨congrArg Pond.grants hp, congrArg Trunk.delivered ht⟩

theorem SideKept.trans {a b c : Chip} (h : SideKept a b) (k : SideKept b c) : SideKept a c := ⟨k.1.trans h.1, k.2.trans h.2⟩

/-- A changed PD setting leaves the registers. -/
theorem pdChanged_keeps (c : Chip) (n : Port) (old : Word) (r : Reg) :
    (c.pdChanged n old).rd r = c.rd r ∧ SideKept c (c.pdChanged n old) := by
  have hfr : Fr (keeping [.pond, .trunk] [r]) c (c.pdChanged n old) := Chip.pdChanged_fr (Fr.refl _ c) (by simp)
  exact ⟨hfr.kept.regs _ (by simp), .of_fr hfr⟩

theorem pollSync_keeps (c : Chip) (n : Port) (r : Reg) : (c.pollSync n).rd r = c.rd r ∧ SideKept c (c.pollSync n) := by
  have hfr : Fr (keeping [.trunk] [r]) c (c.pollSync n) := Chip.pollSync_fr (Fr.refl _ c) (by simp) (by simp)
  exact ⟨hfr.kept.regs _ (by simp), pollSync_grants c n, congrArg Trunk.delivered (hfr.kept.trunk (by simp))⟩

theorem warnBits_keeps (c : Chip) (n : Port) : (c.warnBits n).rd (.LINE_WARN n) = c.rd (.LINE_WARN n) ∧ SideKept c (c.warnBits n) := by
  have hfr : Fr (keeping [.pond, .trunk] [.LINE_WARN n]) c (c.warnBits n) := Chip.warnBits_fr (Fr.refl _ c) (by simp) (by simp)
  exact ⟨hfr.kept.regs _ (by simp), .of_fr hfr⟩

theorem autoEnum_keeps (c : Chip) (n : Port) : (c.autoEnum n).rd (.DROP_CTL n) = c.rd (.DROP_CTL n) ∧ SideKept c (c.autoEnum n) := by
  have hfr : Fr (keeping [.pond, .trunk] [.DROP_CTL n]) c (c.autoEnum n) := Chip.autoEnum_fr (Fr.refl _ c) (by simp) (by simp)
  exact ⟨hfr.kept.regs _ (by simp), .of_fr hfr⟩

theorem pdRecheck_keeps (c : Chip) (n : Port) : c.pdRecheck.rd (.PD_CFG n) = c.rd (.PD_CFG n) ∧ SideKept c c.pdRecheck := by
  have hfr : Fr (keeping [.pond] [.PD_CFG n]) c c.pdRecheck := by
    refine Chip.pdRecheck_fr (Fr.refl _ c) ?_ ?_ ?_ ?_ ?_ ?_ ?_ <;> simp
  exact ⟨hfr.kept.regs _ (by simp), congrArg Pond.grants (hfr.kept.pond (by simp)), pdRecheck_delivered c⟩

/-- The effects of a plain register's write leave the register. -/
theorem regEffect_plain {c : Chip} {r : Reg} (h : plainReg r = true) (old : Word) :
    (c.regEffect r old).rd r = c.rd r ∧ SideKept c (c.regEffect r old) := by
  unfold Chip.regEffect
  rw [crossing_of_plainReg h]
  dsimp only
  unfold Chip.regAct
  split
  case h_27 => exact ⟨rfl, .of_eq rfl rfl⟩
  case h_14 n => exact pollSync_keeps c n _
  case h_18 n => exact warnBits_keeps c n
  case h_21 n =>
    split
    · exact ⟨rfl, .of_eq rfl rfl⟩
    · exact autoEnum_keeps c n
  case h_23 n => exact pdRecheck_keeps c n
  case h_24 n => exact pdChanged_keeps c n _ _
  case h_25 n => exact pdChanged_keeps c n _ _
  case h_26 n => exact pdChanged_keeps c n _ _
  all_goals exact Bool.noConfusion (show false = true from h)

theorem rsCleared_side (c : Chip) (r : Reg) (v : Word) : SideKept c (rsCleared c r v) := by
  unfold rsCleared
  split <;> exact .of_eq rfl rfl

theorem wrRW_side (c : Chip) (r : Reg) (v : Word) : SideKept c (c.wrRW r v) :=
  .of_eq ((wrRW_fr c r v).kept.pond (by simp [frWrRW])) ((wrRW_fr c r v).kept.trunk (by simp [frWrRW]))

/-- A plain register's write stores its RW bits (R14). -/
theorem putReg_plain_written {c : Chip} (hc : Canon c) {r : Reg} (h : plainReg r = true) (p : RegPath) (win : Bool) (v : Word) :
    (c.putReg p win r v).rd r = written c r v ∧ SideKept c (c.putReg p win r v) := by
  obtain ⟨hrd, hside⟩ := regEffect_plain (c := (rsCleared c r v).wrRW r v) h (c.rd r)
  rw [putReg_plain h, hrd, rd_wrRW_same (canon_rsCleared hc r v), rsCleared_rd_plain hc h]
  exact ⟨rfl, ((rsCleared_side c r v).trans (wrRW_side _ r v)).trans hside⟩

/-- What a write of a plain register leaves over each path. -/
theorem runs_pathWrite_plain {s : State} {i : Instr} {p : RegPath} {r : Reg} {v : Word} (hc : Canon s.chip)
    (hg : s.chip.pond.grants = []) (hi : exec i s = s.runES (fun c => c.pathWrite p r.addr v)) (h : plainReg r = true)
    (hw : Writable s.chip p r v) :
    Runs i s (fun c => c.fab.answers[p] = ⟨0#32, fsDONE⟩ ∧ c.rd r = written s.chip r v) := by
  obtain ⟨hrd, hgrants, -⟩ := putReg_plain_written (canon_opened hc p r) h p (p.val != 1) v
  refine runs_pathWrite hi hw rfl ?_ ⟨fabAnswer_answers _ _ _, ?_⟩
  · rw [hgrants, opened_pond, hg]
  · rw [fabAnswer_rd, hrd, written, written, opened_rd]

end Sys2Proof.Proofs

namespace Sys2Proof.Proofs

open Sys2Proof.Machine Sys2Proof.Laws

/-! Accesses of the register fabric by its paths (15 R310 to R316). -/

/-! ### The bit region (R313) -/

/-- Registers stand below the bit region. -/
theorem addr_lt (r : Reg) : r.addr < 0x08000000 := by
  cases r <;> simp only [Reg.addr] <;> omega

theorem ofAddr_of_aliasBit {a : Nat} {x : Reg × Nat} (h : aliasBit a = some x) : Reg.ofAddr a = none := by
  cases hr : Reg.ofAddr a with
  | none => rfl
  | some r =>
    obtain ⟨f, hf, hhit⟩ := List.exists_of_findSome?_eq_some hr
    have haddr := addr_of_hit (regFams_sound f hf) hhit
    have hlt := addr_lt r
    have hlow : ¬ (0x08000000 ≤ a ∧ a < 0x0C000000 ∧ a % 4 = 0) := by omega
    rw [aliasBit, if_neg hlow] at h
    cases h

/-- A write of a bit that the path may write. -/
theorem fabWrite_alias {c : Chip} {a : Nat} {r : Reg} {b : Nat} (ha : aliasBit a = some (r, b)) (hk : r.accOf b ≠ .k)
    (hcfg : (r.cfg && c.frozen) = false) (p : RegPath) (win : Bool) (v : Word) : c.fabWrite p win a v =
      .ok (fsDONE, if r.accOf b = .rw then c.putBit p win r b (v.getLsbD 0) else c) := by
  simp only [Chip.fabWrite, ofAddr_of_aliasBit ha, ha, beq_false_of_ne hk, hcfg, Bool.or_self, Bool.false_and, Bool.false_eq_true,
    if_false, hk, or_false]
  split <;> rfl

theorem fabWrite_alias_refused {c : Chip} {a : Nat} {r : Reg} {b : Nat} (ha : aliasBit a = some (r, b)) (hcfg : r.cfg = true)
    (hfrozen : c.frozen = true) {p : RegPath} (hkey : c.unlocked p = false) (win : Bool) (v : Word) :
    c.fabWrite p win a v = .ok (fsREFUSED, c.keyFault p true) := by
  simp only [Chip.fabWrite, ofAddr_of_aliasBit ha, ha, hcfg, hfrozen, hkey, Bool.and_self, Bool.or_true, Bool.not_false, if_true]

theorem fabWrite_refused {c : Chip} {r : Reg} (hg : c.guarded r = true) {p : RegPath} (hkey : c.unlocked p = false) (win : Bool)
    (v : Word) : c.fabWrite p win r.addr v = .ok (fsREFUSED, c.keyFault p true) := by
  simp only [Chip.fabWrite, ofAddr_addr, hg, hkey, Bool.not_false, Bool.and_self, if_true]

/-- What the fabric answers a path that is up. -/
theorem runs_path {s : State} {i : Instr} {p : RegPath} {a st : Nat} {v : Word} {d : Chip} {P : Chip → Prop}
    (hi : exec i s = s.runES (fun c => c.pathWrite p a v)) (hup : s.chip.pathUp p = true)
    (hw : s.chip.fabWrite p (p.val != 1) a v = .ok (st, d)) (hg : d.pond.grants = []) (hp : P (d.fabAnswer p ⟨0#32, st⟩)) :
    Runs i s P := by
  refine runs_of_ok hi ?_ (d := d.fabAnswer p ⟨0#32, st⟩) hg hp
  rw [Chip.pathWrite, if_pos hup, hw]

/-! ### A refused write (R315) -/

/-- The chip when a refused write is recorded. -/
def keyRecorded (c : Chip) (p : RegPath) (refused : Bool) : Chip :=
  if refused then c.record .KEY_STATUS ⟨4 + p.val, 4 + p.val, .rs⟩ else (c.incSat .KEY_STATUS F.KEY_STATUS_BAD).bump .KEY_STATUS

theorem fr_keyFault {ps : List Part} {rs : List Reg} (c : Chip) (p : RegPath) (b : Bool)
    (h : (Part.clk ∉ ps ∧ Part.doors ∉ ps) ∧ (Part.rates ∉ ps ∧ Part.bead ∉ ps) ∧ Reg.GLB_FAULT ∉ rs) :
    Fr (keeping ps rs) (keyRecorded c p b) (c.keyFault p b) := by
  obtain ⟨⟨hclk, hdoors⟩, ⟨hrates, hbead⟩, hreg⟩ := h
  refine Chip.postRate_fr (Chip.fault_fr (Fr.refl _ _) ?_ ?_ ?_) ?_ ?_ <;> simp [*]

theorem keyFault_rd (c : Chip) (p : RegPath) (b : Bool) {r : Reg} (hk : r ≠ .KEY_STATUS) (hf : r ≠ .GLB_FAULT) :
    (c.keyFault p b).rd r = c.rd r := by
  have hfr := fr_keyFault (ps := []) (rs := [r]) c p b (by simp [hf.symm])
  rw [hfr.kept.regs r (by simp), keyRecorded]
  split
  · exact rd_record_other c _ hk
  · rw [rd_bump_other _ hk, rd_incSat_other _ _ _ hk]

theorem keyFault_grants (c : Chip) (p : RegPath) (b : Bool) : (c.keyFault p b).pond.grants = c.pond.grants := by
  have hfr := fr_keyFault (ps := [.pond]) (rs := []) c p b (by simp)
  rw [hfr.kept.pond (by simp), keyRecorded]
  split <;> rfl

theorem getLsbD_of_bit {c : Chip} {r : Reg} {i : Nat} {a : Acc} (h : c.bit r ⟨i, i, a⟩ = true) :
    (c.rd r).getLsbD i = true := by
  by_contra hfalse
  have hzero : (c.rd r).extractLsb' i (i + 1 - i) = 0#(i + 1 - i) := by
    ext j hj
    have hj0 : j = 0 := by omega
    subst hj0
    simpa using hfalse
  simp [Chip.bit, Chip.get, fget, hzero] at h

theorem keyFault_denied {c : Chip} (h : Canon c) (p : RegPath) : (c.keyFault p true).bitAt .KEY_STATUS F.KEY_STATUS_DENIED p.val = true := by
  have hfr := fr_keyFault (ps := []) (rs := [.KEY_STATUS]) c p true (by simp)
  have hp := p.isLt
  refine getLsbD_of_bit (a := .rs) ?_
  rw [bit_of_rd (hfr.kept.regs _ (by simp))]
  exact bit_record_same _ h _ _ (by constructor <;> simp; omega) (by simp; omega)

theorem keyFault_bad {c : Chip} (h : Canon c) (p : RegPath) : (c.keyFault p false).get .KEY_STATUS F.KEY_STATUS_BAD =
    min 255 (c.get .KEY_STATUS F.KEY_STATUS_BAD + 1) := by
  have hfr := fr_keyFault (ps := []) (rs := [.KEY_STATUS]) c p false (by simp)
  rw [get_of_rd (hfr.kept.regs _ (by simp))]
  refine (get_bump _ (canon_incSat h _ _ _) .KEY_STATUS F.KEY_STATUS_BAD (by decide)).trans ?_
  exact (get_incSat_same c h .KEY_STATUS F.KEY_STATUS_BAD 1 (by decide)).trans (Nat.min_comm _ _)

/-! ### Status registers (R316) -/

theorem putCompute_status {c : Chip} {p : RegPath} {win : Bool} {r : Reg} {v : Word} (hseq : r.fields.contains seqF = true)
    (hrw : (r.rwMask == 0#32) = true) : c.putCompute p win r v = ((rsCleared c r v).wrRW r v).regEffect r (c.rd r) := by
  unfold Chip.putCompute
  split
  case h_14 => rfl
  case h_9 => exact Bool.noConfusion (show false = true from hrw)
  case h_10 => exact Bool.noConfusion (show false = true from hrw)
  case h_11 => exact Bool.noConfusion (show false = true from hrw)
  case h_12 => exact Bool.noConfusion (show false = true from hrw)
  all_goals exact Bool.noConfusion (show false = true from hseq)

theorem normWord_status {r : Reg} (w : Word) (hrw : (r.rwMask == 0#32) = true) : normWord r w = w := by
  unfold normWord
  split
  case h_30 => rfl
  all_goals exact Bool.noConfusion (show false = true from hrw)

theorem crossing_status {r : Reg} (hrw : (r.rwMask == 0#32) = true) : r.crossing = none := by
  revert hrw
  unfold Reg.crossing
  split <;> intro hrw
  case h_5 => rfl
  all_goals exact Bool.noConfusion (show false = true from hrw)

theorem regAct_status {c : Chip} {r : Reg} (hdom : r.dom = .compute) (hrw : (r.rwMask == 0#32) = true) (old : Word) :
    c.regAct r old = c ∨ c.regAct r old = c.balls := by
  unfold Chip.regAct
  split
  case h_1 => exact .inr rfl
  case h_27 => exact .inl rfl
  case h_15 => cases hdom
  case h_16 => cases hdom
  case h_17 => cases hdom
  all_goals exact Bool.noConfusion (show false = true from hrw)

/-- A status register's write clears the RS bits it names where SEQ matches, and does no more (R316). -/
theorem putReg_status {c : Chip} (hc : Canon c) {r : Reg} (hdom : r.dom = .compute) (hseq : r.fields.contains seqF = true)
    (hrw : r.rwMask = 0#32) (p : RegPath) (win : Bool) (v : Word) :
    (c.putReg p win r v).rd r = (if seqMatch v (c.rd r) then c.rd r &&& ~~~(v &&& r.maskOf (fun a => a == .rs)) else c.rd r) ∧
      (c.putReg p win r v).pond.grants = c.pond.grants := by
  have hmask : (r.rwMask == 0#32) = true := beq_iff_eq.2 hrw
  have hkeep : ∀ d : Chip, ∀ old, (d.regEffect r old).rd r = d.rd r ∧ (d.regEffect r old).pond.grants = d.pond.grants := by
    intro d old
    rw [Chip.regEffect, crossing_status hmask]
    dsimp only
    rcases regAct_status (c := d) hdom hmask old with h | h
    · rw [h]
      exact ⟨rfl, rfl⟩
    · have hfr : Fr (keeping [.pond] [r]) d d.balls := Chip.balls_fr (Fr.refl _ d) (by simp)
      rw [h]
      exact ⟨hfr.kept.regs _ (by simp), congrArg Pond.grants (hfr.kept.pond (by simp))⟩
  obtain ⟨hrd, hgrants⟩ := hkeep ((rsCleared c r v).wrRW r v) (c.rd r)
  rw [putReg_compute hdom, putCompute_status hseq hmask, hrd, hgrants, wrRW_grants, rsCleared_grants,
    rd_wrRW_same (canon_rsCleared hc r v), normWord_status _ hmask, hrw]
  refine ⟨?_, rfl⟩
  rw [BitVec.and_zero, BitVec.or_zero, BitVec.not_zero, BitVec.and_allOnes, rsCleared, hseq, Bool.true_and]
  split
  · rw [rd_wr_same _ hc]
  · rfl

/-! ### Bit timing (R228) -/

/-- A field outside a mask does not show under it. -/
theorem fset_and_mask {w m : Word} {f : Field} (h : fmask f &&& m = 0#32) (v : Nat) : fset w f v &&& m = w &&& m := by
  ext i hi
  have hbit : ((fmask f)[i] && m[i]) = false := by
    rw [← BitVec.getElem_and, h]
    simp
  simp only [fset, BitVec.getElem_and, BitVec.getElem_or, BitVec.getElem_not]
  revert hbit
  cases (fmask f)[i] <;> cases m[i] <;> simp

/-- TDC_ON aside, the transmitter's delay setting leaves the timing registers. -/
theorem tdcOn_masked {c : Chip} (h : Canon c) (n : Port) (w : Fin 3) :
    (c.tdcOn n).rd (timingReg n w) &&& (timingReg n w).rwMask = c.rd (timingReg n w) &&& (timingReg n w).rwMask := by
  match w with
  | 0 => rw [Chip.tdcOn, Chip.setB, rd_setF_other _ _ _ (by simp [timingReg])]
  | 1 => rw [Chip.tdcOn, Chip.setB, rd_setF_other _ _ _ (by simp [timingReg])]
  | 2 =>
    have hmask : fmask F.LINE_TDC_TDC_ON &&& (Reg.LINE_TDC n).rwMask = 0#32 := by
      have hfirst : (Reg.LINE_TDC n).rwMask = (Reg.LINE_TDC 0).rwMask := rfl
      rw [hfirst]
      decide
    change ((c.tdcOn n).rd (.LINE_TDC n)) &&& (Reg.LINE_TDC n).rwMask = c.rd (.LINE_TDC n) &&& (Reg.LINE_TDC n).rwMask
    rw [Chip.tdcOn, Chip.setB, Chip.setF, rd_wr_same _ h, fset_and_mask hmask]

theorem tdcOn_grants (c : Chip) (n : Port) : (c.tdcOn n).pond.grants = c.pond.grants := rfl

/-- The bit timing that a write of one of its words asks for. -/
def asked (c : Chip) (n : Port) (w : Fin 3) (v : Word) : TimingSet :=
  match w.val with
  | 0 => { c.timingSet n with nbt := v }
  | 1 => { c.timingSet n with dbt := v }
  | _ => { c.timingSet n with tdc := v }

theorem putReg_timing (c : Chip) (p : RegPath) (win : Bool) (n : Port) (w : Fin 3) (v : Word) : c.putReg p win (timingReg n w) v =
    if c.isLine n then c.askTiming n (asked c n w v) else (c.wrRW (timingReg n w) v).tdcOn n := by
  match w with
  | 0 => rfl
  | 1 => rfl
  | 2 => rfl

theorem asked_get (c : Chip) (n : Port) (w : Fin 3) (v : Word) :
    [(asked c n w v).nbt, (asked c n w v).dbt, (asked c n w v).tdc][w.val]? = some v := by
  match w with
  | 0 => rfl
  | 1 => rfl
  | 2 => rfl

/-- The three words of a bit timing as applied. -/
def timed (c : Chip) (n : Port) (t : TimingSet) : Chip :=
  ((c.wrRW (.LINE_NBT n) t.nbt).wrRW (.LINE_DBT n) t.dbt).wrRW (.LINE_TDC n) t.tdc

theorem wrRW_rd_other (c : Chip) {r x : Reg} (v : Word) (h : x ≠ r) : (c.wrRW r v).rd x = c.rd x :=
  (wrRW_fr c r v).kept.regs x (by simpa [frWrRW] using h)

theorem applyTiming_eq {c : Chip} {n : Port} {t : TimingSet} (hctl : t.ctl = none) (hreqs : t.reqs = []) :
    ∃ f, c.applyTiming n t = ((timed c n t).tdcOn n).updLine n f := by
  unfold Chip.applyTiming
  rw [hctl, hreqs]
  unfold timed
  dsimp only [Chip.each, List.foldl_nil]
  exact ⟨_, rfl⟩

/-- The timing asked for, applied: its word is the one written. -/
theorem timed_asked {c : Chip} (h : Canon c) (n : Port) (w : Fin 3) (v : Word) :
    (timed c n (asked c n w v)).rd (timingReg n w) = written c (timingReg n w) v := by
  match w with
  | 0 =>
    change (timed c n (asked c n 0 v)).rd (.LINE_NBT n) = written c (.LINE_NBT n) v
    rw [timed, wrRW_rd_other _ _ (by simp), wrRW_rd_other _ _ (by simp), rd_wrRW_same h]
    rfl
  | 1 =>
    change (timed c n (asked c n 1 v)).rd (.LINE_DBT n) = written c (.LINE_DBT n) v
    rw [timed, wrRW_rd_other _ _ (by simp), rd_wrRW_same (canon_wrRW h _ _), wrRW_rd_other _ _ (by simp)]
    rfl
  | 2 =>
    change (timed c n (asked c n 2 v)).rd (.LINE_TDC n) = written c (.LINE_TDC n) v
    rw [timed, rd_wrRW_same (canon_wrRW (canon_wrRW h _ _) _ _), wrRW_rd_other _ _ (by simp), wrRW_rd_other _ _ (by simp)]
    rfl

theorem canon_timed {c : Chip} (h : Canon c) (n : Port) (t : TimingSet) : Canon (timed c n t) :=
  canon_wrRW (canon_wrRW (canon_wrRW h _ _) _ _) _ _

theorem timed_grants (c : Chip) (n : Port) (t : TimingSet) : (timed c n t).pond.grants = c.pond.grants := by
  rw [timed, wrRW_grants, wrRW_grants, wrRW_grants]

theorem updLine_line (c : Chip) (n : Port) (f : Line → Line) : ((c.updLine n f).ports[n]).line = f (c.ports[n]).line := by
  rw [Chip.updLine, updPort_same]

theorem updLine_grants (c : Chip) (n : Port) (f : Line → Line) : (c.updLine n f).pond.grants = c.pond.grants := rfl

/-- A write of a timing word of a port that is no line, or of a line with nothing under way. -/
theorem putReg_timing_now {c : Chip} (h : Canon c) {n : Port}
    (hfree : c.isLine n = false ∨ ((c.ports[n]).line.timing = none ∧ ((c.ports[n]).line.sending = false ∨ c.lineOff n = true)))
    (p : RegPath) (win : Bool) (w : Fin 3) (v : Word) :
    (c.putReg p win (timingReg n w) v).rd (timingReg n w) &&& (timingReg n w).rwMask =
        written c (timingReg n w) v &&& (timingReg n w).rwMask ∧
      (c.putReg p win (timingReg n w) v).pond.grants = c.pond.grants := by
  rw [putReg_timing]
  by_cases hline : c.isLine n = true
  · obtain hno | ⟨ht, hidle⟩ := hfree
    · rw [hno] at hline
      cases hline
    have hask : c.askTiming n (asked c n w v) = c.applyTiming n (asked c n w v) := by
      rcases hidle with h | h <;> simp [-Fin.getElem_fin, Chip.askTiming, h]
    have hplain : (asked c n w v).ctl = none ∧ (asked c n w v).reqs = [] := by
      match w with
      | 0 => simp [-Fin.getElem_fin, asked, Chip.timingSet, ht]
      | 1 => simp [-Fin.getElem_fin, asked, Chip.timingSet, ht]
      | 2 => simp [-Fin.getElem_fin, asked, Chip.timingSet, ht]
    obtain ⟨f, hf⟩ := applyTiming_eq (c := c) (n := n) hplain.1 hplain.2
    rw [if_pos hline, hask, hf, updLine_rd, updLine_grants, tdcOn_masked (canon_timed h _ _), timed_asked h, tdcOn_grants, timed_grants]
    exact ⟨rfl, rfl⟩
  · rw [if_neg hline, tdcOn_masked (canon_wrRW h _ _), rd_wrRW_same h, tdcOn_grants, wrRW_grants]
    exact ⟨rfl, rfl⟩

/-! ### The register window (05 R112) -/

theorem ungateBasins_updTrunk (c : Chip) (f : Trunk → Trunk) : (c.updTrunk f).ungateBasins = c.ungateBasins.updTrunk f := by
  unfold Chip.ungateBasins
  by_cases h : c.basins.any (·.gated) = true
  · rw [if_pos h, if_pos (by exact h)]
    rfl
  · rw [if_neg h, if_neg (by exact h)]

/-- The quiet timers restarted (R328). -/
def roused (c : Chip) : Chip :=
  let now := c.clk.now
  c.updPwr (fun p => { p with idleFrom := now, sleepFrom := now, deepFrom := now, sleepExp := false, deepExp := false, hsGated := false })

/-- Idle left (R330). -/
def idleLeft (c : Chip) : Chip :=
  let now := c.clk.now
  ((roused c).updPwr (fun p => { p with st := .run, runFrom := now })).ungateBasins.setF .PWR_STATUS F.PWR_STATUS_STATE 0

theorem active_eq (c : Chip) : c.active = if c.pwr.st = .idle then idleLeft c else roused c := rfl

/-- The end of the quiet interval and what the trunk delivers do not meet. -/
theorem active_updTrunk (c : Chip) (f : Trunk → Trunk) : (c.updTrunk f).active = c.active.updTrunk f := by
  have hleft : idleLeft (c.updTrunk f) = (idleLeft c).updTrunk f :=
    congrArg (fun d : Chip => d.setF .PWR_STATUS F.PWR_STATUS_STATE 0)
      (ungateBasins_updTrunk ((roused c).updPwr (fun p => { p with st := .run, runFrom := c.clk.now })) f)
  rw [active_eq, active_eq, hleft]
  by_cases h : c.pwr.st = .idle
  · rw [if_pos h, if_pos (by exact h)]
  · rw [if_neg h, if_neg (by exact h)]
    rfl

/-- A frame outside the spilled classes leaves the registers and what was delivered. -/
theorem sendFrame_control (c : Chip) {typ : Nat} (h : 2 < ttpClass typ) (id flags length : Nat) (epoch : BitVec 16) (body : TxBody) :
    (∀ r, (c.sendFrame typ id flags epoch length body).rd r = c.rd r) ∧
      (c.sendFrame typ id flags epoch length body).trunk.delivered = c.trunk.delivered := by
  obtain ⟨tx, htx⟩ := takeSeq_trunk c.trunk (ttpClass typ) id
  unfold Chip.sendFrame
  dsimp only
  rw [htx, if_neg (Nat.not_le.2 h)]
  split
  · exact ⟨fun _ => rfl, rfl⟩
  · split
    · exact ⟨fun _ => rfl, rfl⟩
    · split <;> exact ⟨fun _ => rfl, rfl⟩

/-- What is writable stays so whatever the trunk holds. -/
theorem writable_updTrunk {c : Chip} {p : RegPath} {r : Reg} {v : Word} (h : Writable c p r v) (f : Trunk → Trunk) :
    Writable (c.updTrunk f) p r v := ⟨h.up, h.key, h.reserved⟩

/-! ### Clauses -/

theorem readLatch_pond (c : Chip) (r : Reg) : (c.readLatch r).pond = c.pond := by
  unfold Chip.readLatch
  split <;> rfl

theorem fabRead_pond (c : Chip) (a : Nat) : (c.fabRead a).2.pond = c.pond := by
  unfold Chip.fabRead
  split
  · exact readLatch_pond _ _
  · split
    · exact readLatch_pond _ _
    · rfl

theorem pathRead_up {c : Chip} {p : RegPath} (h : c.pathUp p = true) (a : Nat) :
    c.pathRead p a = (c.fabRead a).2.fabAnswer p (c.fabRead a).1 := by
  rw [Chip.pathRead, if_pos h]

theorem clampedLease (w : Word) : fget (normWord .MBX_CTL w) F.MBX_CTL_LEASE = min 60 (fget w F.MBX_CTL_LEASE) := by
  rw [normWord, clampF, fget_fset_same _ _ _ (by decide), clampNat]
  simp only [F.MBX_CTL_LEASE]
  omega

theorem leaseSweep_keeps (c : Chip) : c.leaseSweep.rd .MBX_CTL = c.rd .MBX_CTL ∧ c.leaseSweep.pond = c.pond := by
  have hfr : Fr (keeping [.pond] [.MBX_CTL]) c c.leaseSweep := by
    refine Chip.leaseSweep_fr (Fr.refl _ c) ?_ ?_ ?_ ?_ ?_ <;> simp
  exact ⟨hfr.kept.regs _ (by simp), hfr.kept.pond (by simp)⟩

/-- MBX_CTL's write stores its bits and ends the leases that are past (R131). -/
theorem putReg_lease {c : Chip} (h : Canon c) (p : RegPath) (win : Bool) (v : Word) :
    (c.putReg p win .MBX_CTL v).get .MBX_CTL F.MBX_CTL_LEASE = min 60 (fget v F.MBX_CTL_LEASE) ∧
      (c.putReg p win .MBX_CTL v).pond.grants = c.pond.grants := by
  have hput : c.putReg p win .MBX_CTL v = ((rsCleared c .MBX_CTL v).wrRW .MBX_CTL v).leaseSweep := rfl
  obtain ⟨hrd, hpond⟩ := leaseSweep_keeps ((rsCleared c .MBX_CTL v).wrRW .MBX_CTL v)
  rw [hput, hpond, wrRW_grants, rsCleared_grants, get_of_rd hrd, Chip.get, rd_wrRW_same (canon_rsCleared h _ _), clampedLease,
    fget_merge_mask _ _ _ _ (by decide) (by decide)]
  exact ⟨rfl, rfl⟩

theorem fabAnswer_get (c : Chip) (p : RegPath) (x : FabAnswer) (r : Reg) (f : Field) : (c.fabAnswer p x).get r f = c.get r f := rfl

theorem runs_leaseWrite {s : State} (hc : Canon s.chip) (hg : s.chip.pond.grants = []) {p : RegPath} {v : Word}
    (hw : Writable s.chip p .MBX_CTL v) : Runs (.leaseWrite p v) s (fun c => c.fab.answers[p] = ⟨0#32, fsDONE⟩ ∧
      c.get .MBX_CTL F.MBX_CTL_LEASE = min 60 (fget v F.MBX_CTL_LEASE)) := by
  obtain ⟨hget, hkept⟩ := putReg_lease (canon_opened hc p .MBX_CTL) p (p.val != 1) v
  refine runs_pathWrite (r := .MBX_CTL) rfl hw rfl ?_ ⟨fabAnswer_answers _ _ _, ?_⟩
  · rw [hkept, opened_pond, hg]
  · rw [fabAnswer_get, hget]

theorem runs_holderQuotaWrite {s : State} (hc : Canon s.chip) (hg : s.chip.pond.grants = []) {p : RegPath} {v : Word} (h : Fin 99)
    (hw : Writable s.chip p (.HOLDER_QUOTA h) v) (hle : fget v F.HOLDER_QUOTA_QUOTA ≤ pondSize) :
    Runs (.holderQuotaWrite p h v) s (fun c => c.fab.answers[p] = ⟨0#32, fsDONE⟩ ∧ c.quota h = fget v F.HOLDER_QUOTA_QUOTA) := by
  have hput : ∀ c : Chip, c.putReg p (p.val != 1) (.HOLDER_QUOTA h) v = c.setQuota h (fget v F.HOLDER_QUOTA_QUOTA) := fun c =>
    if_pos hle
  refine runs_pathWrite (r := .HOLDER_QUOTA h) rfl hw (hput _) ?_ ⟨fabAnswer_answers _ _ _, ?_⟩
  · rw [(setQuota_fr _ _ _).kept.pond (by decide), opened_pond, hg]
  · rw [Chip.quota, fabAnswer_get]
    exact setQuota_quota (canon_opened hc p _) h hle

/-- An answer of the fabric to a path that reads, whatever command brings it. -/
theorem runs_pathRead {s : State} {i : Instr} {p : RegPath} {a : Nat} (hi : exec i s = s.runES (fun c => .ok (c.pathRead p a)))
    (hup : s.chip.pathUp p = true) (hg : s.chip.pond.grants = []) : Runs i s (fun c => c.fab.answers[p] = (s.chip.fabRead a).1) := by
  refine runs_of_ok hi (congrArg Except.ok (pathRead_up hup a)) ?_ (fabAnswer_answers _ _ _)
  exact (congrArg Pond.grants (fabRead_pond s.chip a)).trans hg

theorem fabRead_reg (c : Chip) (r : Reg) : c.fabRead r.addr = (⟨c.readWord r, fsDONE⟩, c.readLatch r) := by
  rw [Chip.fabRead, ofAddr_addr]

theorem readWord_of_readable {r : Reg} (h : r.fields.all (fun f => !(f.acc == .wo)) = true) (c : Chip) : c.readWord r = c.liveWord r := by
  rw [Chip.readWord, maskOf_of_none h, BitVec.not_zero, BitVec.and_allOnes]

/-- A read of TIME's low word latches the high one (R245). -/
theorem runs_seiTimeLoRead {s : State} (hc : Canon s.chip) {p : RegPath} (hup : s.chip.pathUp p = true) :
    Runs (.seiTimeLoRead p) s (fun c => c.fab.answers[p] = ⟨s.chip.sei.time.extractLsb' 0 32, fsDONE⟩ ∧
      c.rd .SEI_TIME_HI = s.chip.sei.time.extractLsb' 32 32) := by
  refine runs_of_run_eq (f := fun c => c.pathRead p (Reg.SEI_TIME_LO).addr) rfl (pathRead_up hup _) ?_
  rw [fabRead_reg, readWord_of_readable (by decide)]
  exact ⟨fabAnswer_answers _ _ _, rd_wr_same _ hc _ _⟩

/-- A read of a position's low word latches the high one (R249). -/
theorem runs_beltPosLoRead {s : State} (hc : Canon s.chip) {p : RegPath} (hup : s.chip.pathUp p = true) (b : Belt) :
    Runs (.beltPosLoRead p b) s (fun c => c.fab.answers[p] = ⟨(s.chip.sei.belts[b]).pos.extractLsb' 0 32, fsDONE⟩ ∧
      c.rd (.BELT_POS_HI b) = ((s.chip.sei.belts[b]).pos.extractLsb' 32 16).setWidth 32) := by
  refine runs_of_run_eq (f := fun c => c.pathRead p (Reg.BELT_POS_LO b).addr) rfl (pathRead_up hup _) ?_
  rw [fabRead_reg, readWord_of_readable rfl]
  exact ⟨fabAnswer_answers _ _ _, rd_wr_same _ hc _ _⟩

/-- A write of a bit is a write of its register with that bit replaced (R313). -/
theorem runs_aliasWrite {s : State} (hc : Canon s.chip) (hg : s.chip.pond.grants = []) {p : RegPath} {a : Nat} {r : Reg} {b : Nat}
    {v : Word} (halias : aliasBit a = some (r, b)) (hr : plainReg r = true) (hrw : r.accOf b = .rw) (hup : s.chip.pathUp p = true)
    (hcfg : (r.cfg && s.chip.frozen) = false) : Runs (.aliasWrite p a v) s (fun c => c.fab.answers[p] = ⟨0#32, fsDONE⟩ ∧
      c.rd r = written s.chip r (fset (s.chip.rd r) ⟨b, b, .rw⟩ (bitOf (v.getLsbD 0)))) := by
  have hwrite := fabWrite_alias halias (by simp [hrw]) hcfg p (p.val != 1) v
  rw [if_pos hrw] at hwrite
  have hbase : s.chip.aliasBase r = s.chip.rd r := by
    unfold Chip.aliasBase
    split
    case h_4 => rfl
    all_goals exact Bool.noConfusion (show false = true from hr)
  have hput : s.chip.putBit p (p.val != 1) r b (v.getLsbD 0) =
      s.chip.putReg p (p.val != 1) r (fset (s.chip.rd r) ⟨b, b, .rw⟩ (bitOf (v.getLsbD 0))) := by
    rw [← hbase, Chip.putBit, dom_of_plainReg hr]
  obtain ⟨hrd, hgrants, -⟩ := putReg_plain_written hc hr p (p.val != 1) (fset (s.chip.rd r) ⟨b, b, .rw⟩ (bitOf (v.getLsbD 0)))
  rw [hput] at hwrite
  exact runs_path rfl hup hwrite (hgrants.trans hg) ⟨fabAnswer_answers _ _ _, hrd⟩

/-- The key opens the path for 100 ms (R314). -/
theorem runs_keyUnlock {s : State} (hg : s.chip.pond.grants = []) {p : RegPath} {v : Word} (hw : Writable s.chip p .KEY_UNLOCK v)
    (hkey : fget v F.KEY_UNLOCK_KEY = 0xC3A5) : Runs (.keyUnlockWrite p v) s (fun c => c.fab.answers[p] = ⟨0#32, fsDONE⟩ ∧
      c.fab.unlock[p] = some (s.chip.clk.now + ms 100)) := by
  obtain ⟨f, hf⟩ := opened_eq s.chip p .KEY_UNLOCK
  refine runs_pathWrite (r := .KEY_UNLOCK) rfl hw (if_pos hkey) ?_ ⟨fabAnswer_answers _ _ _, ?_⟩
  · exact (congrArg Pond.grants (opened_pond _ _ _)).trans hg
  · simp [hf, Chip.fabAnswer, Chip.updFab]

/-- Another word shuts it and is counted (R315). -/
theorem runs_keyUnlock_bad {s : State} (hc : Canon s.chip) (hg : s.chip.pond.grants = []) {p : RegPath} {v : Word}
    (hw : Writable s.chip p .KEY_UNLOCK v) (hkey : fget v F.KEY_UNLOCK_KEY ≠ 0xC3A5) :
    Runs (.keyUnlockWrite p v) s (fun c => c.fab.unlock[p] = none ∧
      c.get .KEY_STATUS F.KEY_STATUS_BAD = min 255 (s.chip.get .KEY_STATUS F.KEY_STATUS_BAD + 1)) := by
  have hlocked : Canon ((opened s.chip p .KEY_UNLOCK).lock p) :=
    have h := canon_opened hc p .KEY_UNLOCK
    ⟨h.regs, h.flash, h.blocks⟩
  refine runs_pathWrite (r := .KEY_UNLOCK) rfl hw (if_neg hkey) ?_ ⟨?_, ?_⟩
  · rw [keyFault_grants]
    exact (congrArg Pond.grants (opened_pond _ _ _)).trans hg
  · have hfr := fr_keyFault (ps := [.fab]) (rs := []) ((opened s.chip p .KEY_UNLOCK).lock p) p false (by simp)
    have hfab : (((opened s.chip p .KEY_UNLOCK).lock p).keyFault p false).fab.unlock[p] = none := by
      rw [hfr.kept.fab (by simp)]
      simp [keyRecorded, Chip.lock, Chip.updFab, Chip.incSat, Chip.bump, Chip.setF, Chip.wr]
    exact hfab
  · refine (keyFault_bad hlocked p).trans ?_
    rw [get_of_rd (show ((opened s.chip p .KEY_UNLOCK).lock p).rd .KEY_STATUS = s.chip.rd .KEY_STATUS from opened_rd _ _ _ _)]

/-- A line that sends keeps the new timing for later (R228). -/
theorem runs_timing_later {s : State} (hg : s.chip.pond.grants = []) {p : RegPath} {n : Port} {w : Fin 3} {v : Word}
    (hw : Writable s.chip p (timingReg n w) v) (hline : s.chip.isLine n = true) (hsend : (s.chip.ports[n]).line.sending = true)
    (hoff : s.chip.lineOff n = false) : Runs (.lineTimingRegWrite p n w v) s (fun c => c.fab.answers[p] = ⟨0#32, fsDONE⟩ ∧
      c.regs = s.chip.regs ∧ ∃ t, (c.ports[n]).line.timing = some t ∧ [t.nbt, t.dbt, t.tdc][w.val]? = some v) := by
  obtain ⟨f, hf⟩ := opened_eq s.chip p (timingReg n w)
  have hput : (opened s.chip p (timingReg n w)).putReg p (p.val != 1) (timingReg n w) v =
      (opened s.chip p (timingReg n w)).updLine n
        (fun l => { l with timing := some (asked (opened s.chip p (timingReg n w)) n w v) }) := by
    have hline' : (opened s.chip p (timingReg n w)).isLine n = true := by rw [hf]; exact hline
    have hsend' : ((opened s.chip p (timingReg n w)).ports[n]).line.sending = true := by rw [hf]; exact hsend
    have hoff' : (opened s.chip p (timingReg n w)).lineOff n = false := by rw [hf]; exact hoff
    rw [putReg_timing, if_pos hline', Chip.askTiming, hsend', hoff']
    rfl
  refine runs_pathWrite (r := timingReg n w) rfl hw hput ?_ ⟨fabAnswer_answers _ _ _, ?_, _, ?_, asked_get (opened s.chip p (timingReg n w)) n w v⟩
  · rw [updLine_grants, opened_pond, hg]
  · rw [hf]
    rfl
  · exact congrArg Line.timing (updLine_line (opened s.chip p (timingReg n w)) n
      (fun l => { l with timing := some (asked (opened s.chip p (timingReg n w)) n w v) }))

theorem answer_fab (c : Chip) (q : ReqId) (r : Nat) (l : List Nat) (n : Nat) : (c.answer q r l n).fab = c.fab :=
  (fr_answer (ps := [.fab]) (rs := []) c q r l n (by simp)).kept.fab (by simp)

theorem answer_pond (c : Chip) (q : ReqId) (r : Nat) (l : List Nat) (n : Nat) : (c.answer q r l n).pond = c.pond :=
  (fr_answer (ps := [.pond]) (rs := []) c q r l n (by simp)).kept.pond (by simp)

/-- The first write that waits reaches the always-on domain (R319). -/
theorem aonApply_first {c : Chip} (h : Canon c) {r : Reg} {w m : Word} {l : List (Reg × Word × Word)} (hq : c.fab.aonq = (r, w, m) :: l) :
    c.aonApply.fab.aonq = l ∧ c.aonApply.rd r = normWord r ((c.rd r &&& ~~~m) ||| (w &&& m)) ∧ c.aonApply.pond.grants = c.pond.grants := by
  have hcanon : Canon (c.updFab (fun f => { f with aonq := l })) := ⟨h.regs, h.flash, h.blocks⟩
  unfold Chip.aonApply
  simp only [hq]
  split
  · exact ⟨rfl, rd_wr_same _ hcanon _ _, rfl⟩
  · refine ⟨?_, ?_, ?_⟩
    · rw [each_keeps (fun c => c.fab.aonq) (fun c x => congrArg _ (answer_fab c _ _ _ _))]
      rfl
    · rw [each_keeps (fun c => c.rd r) (fun c x => answer_rd c _ _ _ _ _)]
      exact rd_wr_same _ hcanon _ _
    · rw [each_keeps (fun c => c.pond.grants) (fun c x => congrArg _ (answer_pond c _ _ _ _))]
      rfl

/-- A session over JTAG shows as TEST (R311). -/
theorem runs_session {s : State} (hc : Canon s.chip) {b : Bool} (h : s.chip.awake = true ∨ b = false) :
    Runs (.regAccessSessionChange b) s (fun c => c.fab.jtag = b ∧ c.bit .GLB_STRAP F.GLB_STRAP_TEST = b) := by
  have hexec : exec (.regAccessSessionChange b) s = execRegAccessSessionChange b s := rfl
  let d := (s.chip.updFab (fun f => { f with jtag := b })).setB .GLB_STRAP F.GLB_STRAP_TEST b
  have hset : Canon (s.chip.updFab (fun f => { f with jtag := b })) := ⟨hc.regs, hc.flash, hc.blocks⟩
  have hrd : d.syncCw.rd .GLB_STRAP = d.rd .GLB_STRAP := by
    refine (Chip.syncCw_fr (f := keeping [] [.GLB_STRAP]) (Fr.refl _ d) ?_ ?_).kept.regs _ ?_ <;> simp
  refine runs_of_run_eq hexec (d := d.syncCw) ?_ ⟨?_, ?_⟩
  · have hno : (b && !s.chip.awake) = false := by rcases h with h | h <;> simp [h]
    simp only [hno, Bool.false_eq_true, if_false]
    rfl
  · unfold Chip.syncCw
    dsimp only
    split <;> rfl
  · rw [bit_of_rd hrd]
    exact bit_setF_same _ hset .GLB_STRAP F.GLB_STRAP_TEST b (by decide)

theorem regwinTaken_eq (c : Chip) : regwinTaken c =
    c.active.updTrunk (fun t => { t with delivered := dropFirst (fun y => y.2.typ.toNat == ttREGWIN) t.delivered }) :=
  active_updTrunk c _

theorem regwinTaken_delivered (c : Chip) : (regwinTaken c).trunk.delivered =
    dropFirst (fun x => x.2.typ.toNat == ttREGWIN) c.trunk.delivered := by
  rw [regwinTaken, active_trunk]
  rfl

theorem fabRead_updTrunk (c : Chip) (f : Trunk → Trunk) (a : Nat) : ((c.updTrunk f).fabRead a).1 = (c.fabRead a).1 := by
  unfold Chip.fabRead
  split
  · rfl
  · split <;> rfl

theorem fabRead_trunk (c : Chip) (a : Nat) : (c.fabRead a).2.trunk = c.trunk := by
  have hlatch : ∀ r, (c.readLatch r).trunk = c.trunk := fun r => by
    unfold Chip.readLatch
    split <;> rfl
  unfold Chip.fabRead
  split
  · exact hlatch _
  · split
    · exact hlatch _
    · rfl

theorem regwinOp_read {b : List Byte} (h : leAt b 0 1 = 1) (c : Chip) : c.regwinOp b =
    .ok (bytesAt b 0 1 ++ leBytes 1 (c.fabRead (leAt b 4 4)).1.status ++ leBytes 2 0 ++ leBytes 4 (leAt b 4 4) ++
      leBytes 4 (c.fabRead (leAt b 4 4)).1.value.toNat, (c.fabRead (leAt b 4 4)).2) := by
  rw [Chip.regwinOp, h]
  rfl

/-- The lanes' state is in the trunk and four of its registers. -/
theorem lanes_of_rd {c d : Chip} (ht : d.trunk = c.trunk) (hctl : d.rd .TRK_CTL = c.rd .TRK_CTL) (hst : d.rd .TRK_STATUS = c.rd .TRK_STATUS)
    (hlo : d.rd .TRK_PEER_MAC_LO = c.rd .TRK_PEER_MAC_LO) (hhi : d.rd .TRK_PEER_MAC_HI = c.rd .TRK_PEER_MAC_HI) (cls id : Nat) (l : LaneId) :
    d.spills = c.spills ∧ d.laneOf cls id = c.laneOf cls id ∧ d.hasDest l = c.hasDest l := by
  refine ⟨?_, ?_, ?_⟩
  · rw [Chip.spills, Chip.spills, Chip.inTarn, Chip.inTarn, ht]
  · simp [Chip.laneOf, Chip.pair, Chip.active?, Chip.up, Chip.inService, Chip.degraded, Chip.bit, Chip.get, Chip.bitAt, ht, hctl, hst]
  · simp [Chip.hasDest, Chip.peerMac, Chip.get, ht, hlo, hhi]

theorem fabRead_rd (c : Chip) (a : Nat) {r : Reg} (hh : r ≠ .SEI_TIME_HI) (hp : ∀ b, r ≠ .BELT_POS_HI b) :
    (c.fabRead a).2.rd r = c.rd r := by
  have hlatch : ∀ q, (c.readLatch q).rd r = c.rd r := fun q => by
    unfold Chip.readLatch
    split
    · exact rd_wr_other _ _ hh
    · exact rd_wr_other _ _ (hp _)
    · rfl
  unfold Chip.fabRead
  split
  · exact hlatch _
  · split
    · exact hlatch _
    · rfl

/-- A frame that reads one register is answered with the word (R112). -/
theorem runs_regwin_read {s : State} (hg : s.chip.pond.grants = []) {l k : LaneId} {f : RxFrame} (hup : s.chip.pathUp 0 = true)
    (hf : s.chip.trunk.delivered.find? (fun x => x.2.typ.toNat == ttREGWIN) = some (l, f)) (hlen : f.length.toNat = 12)
    (hop : leAt f.payload 0 1 = 1) (hs : s.chip.spills = false) (hl : s.chip.laneOf 3 0 = some k) (hd : s.chip.hasDest k = true) :
    Runs .regwinFrameReceive s (fun c =>
      c.trunk.delivered = dropFirst (fun x => x.2.typ.toNat == ttREGWIN) s.chip.trunk.delivered ∧
      ((c.trunk.lanes[k]).hist.head?.map (fun h => (h.2.typ, h.2.length, h.2.body)) = some (ttREGWIN, 12,
        .bytes (bytesAt f.payload 0 1 ++ leBytes 1 (s.chip.active.fabRead (leAt f.payload 4 4)).1.status ++ leBytes 2 0 ++
          leBytes 4 (leAt f.payload 4 4) ++
          leBytes 4 (s.chip.active.fabRead (leAt f.payload 4 4)).1.value.toNat)))) := by
  have hread := regwinOp_read (b := bytesAt f.payload 0 12) (by rwa [leAt_bytesAt _ (by decide)]) (regwinTaken s.chip)
  rw [leAt_bytesAt _ (by decide), bytesAt_bytesAt _ (by decide), Nat.zero_add] at hread
  have hvalue : ((regwinTaken s.chip).fabRead (leAt f.payload 4 4)).1 = (s.chip.active.fabRead (leAt f.payload 4 4)).1 := by
    rw [regwinTaken_eq, fabRead_updTrunk]
  have htaken : ((regwinTaken s.chip).fabRead (leAt f.payload 4 4)).2.trunk = (regwinTaken s.chip).trunk := fabRead_trunk _ _
  obtain ⟨hspills, hlane, hdest⟩ := lanes_of_rd htaken (fabRead_rd _ _ (by simp) (by simp)) (fabRead_rd _ _ (by simp) (by simp))
    (fabRead_rd _ _ (by simp) (by simp)) (fabRead_rd _ _ (by simp) (by simp)) 3 0 k
  have hs' := hspills.trans ((active_spills _).trans hs)
  have hl' := hlane.trans ((active_laneOf _ _ _).trans hl)
  have hd' := hdest.trans ((active_hasDest _ _).trans hd)
  obtain ⟨-, hsent⟩ := sendFrame_on_lane (typ := ttREGWIN) (flags := 0) (length := 12) (epoch := 0#16) (body := .bytes _) hs' hl' hd'
  rw [hvalue] at hread
  refine runs_of_ok (exec_regwin_one hup hf hlen hread) rfl ?_ ⟨?_, hsent⟩
  · rw [sendFrame_pond, fabRead_pond, regwinTaken_grants, hg]
  · rw [(sendFrame_control _ (by decide) _ _ _ _ _).2, htaken, regwinTaken_delivered]

/-- A frame that writes one plain register writes it (R112). -/
theorem runs_regwin_write {s : State} (hc : Canon s.chip) (hg : s.chip.pond.grants = []) {l : LaneId} {f : RxFrame} {r : Reg}
    (hup : s.chip.pathUp 0 = true) (hf : s.chip.trunk.delivered.find? (fun x => x.2.typ.toNat == ttREGWIN) = some (l, f))
    (hlen : f.length.toNat = 12) (hop : leAt f.payload 0 1 = 2) (haddr : leAt f.payload 4 4 = r.addr) (hr : plainReg r = true)
    (hw : Writable s.chip.active 0 r (BitVec.ofNat 32 (leAt f.payload 8 4))) :
    Runs .regwinFrameReceive s (fun c =>
      c.trunk.delivered = dropFirst (fun x => x.2.typ.toNat == ttREGWIN) s.chip.trunk.delivered ∧
      c.rd r = written s.chip.active r (BitVec.ofNat 32 (leAt f.payload 8 4))) := by
  have htaken : Canon (regwinTaken s.chip) := by
    rw [regwinTaken_eq]
    have h := (active_fr s.chip).canon hc
    exact ⟨h.regs, h.flash, h.blocks⟩
  have hwrite := fabWrite_reg (c := regwinTaken s.chip) (by rw [regwinTaken_eq]; exact writable_updTrunk hw _) true
  obtain ⟨b, hb⟩ : ∃ b, (regwinTaken s.chip).regwinOp (bytesAt f.payload 0 12) =
      .ok (b, (opened (regwinTaken s.chip) 0 r).putReg 0 true r (BitVec.ofNat 32 (leAt f.payload 8 4))) := by
    rw [Chip.regwinOp, leAt_bytesAt _ (by decide), leAt_bytesAt _ (by decide), leAt_bytesAt _ (by decide), hop, haddr, hwrite]
    exact ⟨_, rfl⟩
  obtain ⟨hrd, hgrants, hdelivered⟩ := putReg_plain_written (canon_opened htaken 0 r) hr 0 true (BitVec.ofNat 32 (leAt f.payload 8 4))
  obtain ⟨hregs, hkept⟩ := sendFrame_control ((opened (regwinTaken s.chip) 0 r).putReg 0 true r (BitVec.ofNat 32 (leAt f.payload 8 4)))
    (typ := ttREGWIN) (by decide) 0 0 12 0#16 (.bytes b)
  have hopened : (opened (regwinTaken s.chip) 0 r).trunk = (regwinTaken s.chip).trunk := by
    obtain ⟨x, hx⟩ := opened_eq (regwinTaken s.chip) 0 r
    rw [hx]
  refine runs_of_ok (exec_regwin_one hup hf hlen hb) rfl ?_ ⟨?_, ?_⟩
  · rw [sendFrame_pond, hgrants, opened_pond, regwinTaken_grants, hg]
  · rw [hkept, hdelivered, hopened, regwinTaken_delivered]
  · rw [hregs, hrd, written, written, opened_rd, regwinTaken_eq]
    rfl

/-- Settles O41: the fabric's answer by path, plain registers by `putReg_plain_written`, the others by their own lemmas. -/
theorem registerAccesses : Obligations.RegisterAccesses := by
  unfold Obligations.RegisterAccesses
  intro s hcanon hgrants p v
  refine ⟨?_, ?_, ?_, ?_, ?_, ?_, ?_, ?_, ?_, ?_, ?_, ?_, ?_, ?_, ?_, ?_, ?_, ?_, ?_, ?_, ?_, ?_, ?_, ?_, ?_⟩
  · intro r hr hw
    exact runs_pathWrite_plain hcanon hgrants rfl hr hw
  · intro r hup hguard hkey
    refine runs_path rfl hup (fabWrite_refused hguard hkey _ v) ((keyFault_grants _ _ _).trans hgrants) ?_
    exact ⟨fabAnswer_answers _ _ _, keyFault_denied hcanon p, fun x hk hf => keyFault_rd s.chip p true hk hf⟩
  · intro a hup hreg halias
    exact runs_path rfl hup (fabWrite_unmapped ⟨hreg, halias⟩ _ _ _ v) hgrants ⟨fabAnswer_answers _ _ _, rfl⟩
  · intro a hup
    refine runs_of_ok (body := fun c => c.pathWrite p a v) rfl (d := s.chip.fabAnswer p ⟨0#32, fsNONE⟩) ?_ hgrants
      ⟨fabAnswer_answers _ _ _, rfl⟩
    simp [Chip.pathWrite, hup]
  · intro a r b halias hr hrw hup hcfg
    exact runs_aliasWrite hcanon hgrants halias hr hrw hup hcfg
  · intro a r b halias hro hup hcfg
    have hnk : r.accOf b ≠ .k := by simp [hro]
    have hwrite := fabWrite_alias halias hnk hcfg p (p.val != 1) v
    rw [if_neg (by simp [hro])] at hwrite
    exact runs_path rfl hup hwrite hgrants ⟨fabAnswer_answers _ _ _, rfl⟩
  · intro a r b halias hup hcfg hfrozen hkey
    refine runs_path rfl hup (fabWrite_alias_refused halias hcfg hfrozen hkey _ v) ((keyFault_grants _ _ _).trans hgrants)
      ⟨fabAnswer_answers _ _ _, keyFault_rd s.chip p true ?_ ?_⟩
    · rintro rfl
      cases hcfg
    · rintro rfl
      cases hcfg
  · intro r hdom hseq hrw hw
    obtain ⟨hrd, hg⟩ := putReg_status (canon_opened hcanon p r) hdom hseq hrw p (p.val != 1) v
    refine runs_pathWrite rfl hw rfl ?_ ⟨fabAnswer_answers _ _ _, ?_⟩
    · rw [hg, opened_pond, hgrants]
    · rw [fabAnswer_rd, hrd, opened_rd]
  · exact fun hw => runs_leaseWrite hcanon hgrants hw
  · exact fun hw hkey => runs_keyUnlock hgrants hw hkey
  · exact fun hw hkey => runs_keyUnlock_bad hcanon hgrants hw hkey
  · intro t ht hdue
    have hexec : exec (.keyUnlockLapse p) s = execKeyUnlockLapse p s := rfl
    refine runs_of_run_eq hexec (d := s.chip.lock p) ?_ ?_
    · simp [-Fin.getElem_fin, ht, hdue]
    · simp [Chip.lock, Chip.updFab]
  · exact fun h hw hle => runs_holderQuotaWrite hcanon hgrants h hw hle
  · intro n w hw hfree
    obtain ⟨f, hf⟩ := opened_eq s.chip p (timingReg n w)
    obtain ⟨hrd, hg⟩ := putReg_timing_now (canon_opened hcanon p (timingReg n w)) (n := n) (by rw [hf]; exact hfree) p (p.val != 1) w v
    refine runs_pathWrite (r := timingReg n w) rfl hw rfl ?_ ⟨fabAnswer_answers _ _ _, ?_⟩
    · rw [hg, opened_pond, hgrants]
    · rw [fabAnswer_rd, hrd, written, written, opened_rd]
  · exact fun n w hw hline hsend hoff => runs_timing_later hgrants hw hline hsend hoff
  · exact fun hup => runs_seiTimeLoRead hcanon hup
  · exact fun b hup => runs_beltPosLoRead hcanon hup b
  · intro r w m l hq
    obtain ⟨hrest, hrd, hg⟩ := aonApply_first hcanon hq
    exact runs_of_runS_eq (f := Chip.aonApply) rfl rfl (hg.trans hgrants) ⟨hrest, hrd⟩
  · exact fun a hup => runs_pathRead rfl hup hgrants
  · exact fun r hr hw => runs_pathWrite_plain hcanon hgrants rfl hr hw
  · exact fun a hup => runs_pathRead rfl hup hgrants
  · exact fun r hr hw => runs_pathWrite_plain hcanon hgrants rfl hr hw
  · exact fun b h => runs_session hcanon h
  · exact fun l f k hup hf hlen hop hs hl hd => runs_regwin_read hgrants hup hf hlen hop hs hl hd
  · exact fun l f r hup hf hlen hop haddr hr hw => runs_regwin_write hcanon hgrants hup hf hlen hop haddr hr hw

end Sys2Proof.Proofs

namespace Sys2Proof.Proofs

open Sys2Proof.Machine Sys2Proof.Laws

/-! SUPPORT. Commands after which the Pond settles, single bits of a register, and what a fault leaves of the clocks' state. -/

/-- The frame of the Pond's settling: what granting a waiter may change. -/
def frSettle : Frame :=
  ⟨[.trunk, .doors, .reqs, .rates, .pond, .engines, .ports, .svc], fun r => match r with
    | .DROP_STATUS _ => true | .HOLDER_USED _ => true | .POND_FREE => true | .POND_STATUS => true | .POND_WAIT => true
    | .SVC_STATUS => true | _ => false⟩

theorem settle_frSettle (c : Chip) : Fr frSettle c c.settle := by
  apply Chip.settle_fr (Fr.refl _ c) <;> first | (intro n; rfl) | decide

/-- What holds of the chip a command leaves, and of every chip that settling may make of it, holds where the command runs. -/
theorem runs_settled {s : State} {i : Instr} {f : Chip → Chip} {p : Chip → Prop} (h : exec i s = s.runS f) (d : Chip)
    (hd : f s.chip = d) (hp : ∀ x, Fr frSettle d x → p x) : Runs i s p :=
  runs_of_run (f := fun c => (f c).settle) h (hp _ (hd ▸ settle_frSettle _))

/-! ### Single bits -/

theorem bitAt_of_rd {c d : Chip} {r : Reg} (h : d.rd r = c.rd r) (f : Field) (i : Nat) : d.bitAt r f i = c.bitAt r f i := by
  rw [Chip.bitAt, Chip.bitAt, h]

theorem fget_bit (w : Word) (i : Nat) (a : Acc) : (fget w ⟨i, i, a⟩ != 0) = w.getLsbD i := by
  cases h : w.getLsbD i <;> simp [fget, BitVec.extractLsb', BitVec.getLsbD, Nat.testBit] at h ⊢ <;> simp_all

/-- A bit of a field is a field of one bit. -/
theorem bitAt_eq_bit (c : Chip) (r : Reg) (f : Field) (i : Nat) (a : Acc) : c.bitAt r f i = c.bit r ⟨f.lo + i, f.lo + i, a⟩ :=
  (fget_bit _ _ a).symm

theorem bitAt_setStBit_same (c : Chip) (h : Canon c) (r : Reg) (f : Field) (i : Nat) (b : Bool) (hi : f.lo + i < 24) :
    (c.setStBit r f i b).bitAt r f i = b := by
  rw [bitAt_eq_bit _ _ _ _ f.acc]
  exact bit_setSt_same c h r _ b ⟨Nat.le_refl _, Nat.lt_trans hi (by decide)⟩ hi

/-! ### Faults -/

/-- A recorded fault's bit reads 1. -/
theorem bitAt_record_same (c : Chip) (h : Canon c) (r : Reg) (f : Field) (i : Nat) (a : Acc) (hi : f.lo + i < 24) :
    (c.record r ⟨f.lo + i, f.lo + i, a⟩).bitAt r f i = true := by
  rw [bitAt_eq_bit _ _ _ _ a]
  exact bit_record_same c h r _ ⟨Nat.le_refl _, Nat.lt_trans hi (by decide)⟩ hi

/-- What the clocks' state holds apart from the levels of the balls FAULT_N and ALERT_N. -/
def clkCore (k : Clk) : Clk :=
  { k with faultLow := false, faultUntil := none, alertLow := false, alertUntil := none }

@[simp] theorem balls_clkCore (c : Chip) : clkCore c.balls.clk = clkCore c.clk := by
  unfold Chip.balls
  split <;> rfl

@[simp] theorem fault_clkCore (c : Chip) (s : FaultSrc) (e : Event) : clkCore (c.fault s e).clk = clkCore c.clk := by
  unfold Chip.fault
  rw [balls_clkCore]
  split
  · exact congrArg clkCore ((Chip.snapDue_fr (f := keeping [.clk] []) (Fr.refl _ _) (by simp)).kept.clk (by simp))
  · rfl

@[simp] theorem postFault_clkCore (c : Chip) (s : FaultSrc) (e : Event) : clkCore (c.postFault s e).clk = clkCore c.clk := by
  rw [Chip.postFault, (fr_post (ps := [.clk]) (rs := []) (c.fault s e) e (by simp)).kept.clk (by simp), fault_clkCore]

theorem bitAt_fault (c : Chip) (h : Canon c) (s : FaultSrc) (e : Event) :
    (c.fault s e).bitAt .GLB_FAULT F.GLB_FAULT_SRC s.bit = true := by
  have hlt : F.GLB_FAULT_SRC.lo + s.bit < 24 := by cases s <;> decide
  have hrec := bitAt_record_same c h .GLB_FAULT F.GLB_FAULT_SRC s.bit .rs hlt
  rw [show F.GLB_FAULT_SRC.lo + s.bit = s.bit from Nat.zero_add _] at hrec
  refine (bitAt_of_rd ?_ _ _).trans hrec
  unfold Chip.fault
  refine ((Chip.balls_fr (f := keeping [] [.GLB_FAULT]) (Fr.refl _ _) (by simp)).kept.regs .GLB_FAULT (by simp)).trans ?_
  split
  · exact (Chip.snapDue_fr (f := keeping [] [.GLB_FAULT]) (Fr.refl _ _) (by simp)).kept.regs .GLB_FAULT (by simp)
  · rfl

/-- A fault's bit of GLB_FAULT reads 1 (R326). -/
theorem bitAt_postFault (c : Chip) (h : Canon c) (s : FaultSrc) (e : Event) :
    (c.postFault s e).bitAt .GLB_FAULT F.GLB_FAULT_SRC s.bit = true :=
  (bitAt_of_rd ((fr_post (ps := []) (rs := [.GLB_FAULT]) (c.fault s e) e (by simp)).kept.regs .GLB_FAULT (by simp)) _ _).trans
    (bitAt_fault c h s e)

/-- A fault takes no bit of GLB_FAULT back. -/
theorem bitAt_fault_keeps (c : Chip) (h : Canon c) (s : FaultSrc) (e : Event) {i : Nat} (hi : i < 24)
    (hb : c.bitAt .GLB_FAULT F.GLB_FAULT_SRC i = true) : (c.fault s e).bitAt .GLB_FAULT F.GLB_FAULT_SRC i = true := by
  by_cases heq : i = s.bit
  · exact heq ▸ bitAt_fault c h s e
  have hlt : s.bit < 24 := by cases s <;> decide
  have hrec : (c.record .GLB_FAULT ⟨s.bit, s.bit, .rs⟩).bitAt .GLB_FAULT F.GLB_FAULT_SRC i = true := by
    rw [bitAt_eq_bit _ _ _ _ .rs] at hb ⊢
    rw [show F.GLB_FAULT_SRC.lo + i = i from Nat.zero_add _] at hb ⊢
    exact (bit_record_field c h _ _ _ ⟨Nat.le_refl _, Nat.lt_trans hlt (by decide)⟩ hi
      (by show s.bit < i ∨ i < s.bit; omega)).trans hb
  refine (bitAt_of_rd ?_ _ _).trans hrec
  unfold Chip.fault
  refine ((Chip.balls_fr (f := keeping [] [.GLB_FAULT]) (Fr.refl _ _) (by simp)).kept.regs .GLB_FAULT (by simp)).trans ?_
  split
  · exact (Chip.snapDue_fr (f := keeping [] [.GLB_FAULT]) (Fr.refl _ _) (by simp)).kept.regs .GLB_FAULT (by simp)
  · rfl

theorem bitAt_postFault_keeps (c : Chip) (h : Canon c) (s : FaultSrc) (e : Event) {i : Nat} (hi : i < 24)
    (hb : c.bitAt .GLB_FAULT F.GLB_FAULT_SRC i = true) : (c.postFault s e).bitAt .GLB_FAULT F.GLB_FAULT_SRC i = true :=
  (bitAt_of_rd ((fr_post (ps := []) (rs := [.GLB_FAULT]) (c.fault s e) e (by simp)).kept.regs .GLB_FAULT (by simp)) _ _).trans
    (bitAt_fault_keeps c h s e hi hb)

theorem canon_postFault {c : Chip} (h : Canon c) (s : FaultSrc) (e : Event) : Canon (c.postFault s e) :=
  (Chip.postFault_fr (f := keeping [] []) (Fr.refl _ c) (by simp) (by simp) (by simp) (by simp)).canon h

theorem canon_updClk {c : Chip} (h : Canon c) (f : Clk → Clk) : Canon (c.updClk f) := ⟨h.regs, h.flash, h.blocks⟩

theorem get_wr_bump (c : Chip) (h : Canon c) (r : Reg) (w : Word) (g : Field) (hg : g.hi < 24) :
    ((c.wr r w).bump r).get r g = fget w g := by
  rw [get_bump _ (canon_wr h _ _) _ _ hg, Chip.get, rd_wr_same c h]

/-- Settling changes none of the registers outside its frame. -/
theorem rd_of_settle {d x : Chip} (h : Fr frSettle d x) {r : Reg} (hr : frSettle.regs r = false) : x.rd r = d.rd r :=
  h.kept.regs r hr

end Sys2Proof.Proofs

namespace Sys2Proof.Proofs

open Sys2Proof.Machine Sys2Proof.Laws

/-! SUPPORT. What a device-scope reset leaves of the registers (03 R67). -/

theorem reg_eq_of_addr {q r : Reg} (h : q.addr = r.addr) : q = r :=
  Option.some.inj ((ofAddr_addr q).symm.trans ((congrArg Reg.ofAddr h).trans (ofAddr_addr r)))

/-- A register that a filter keeps reads as before. -/
theorem regGet_filter_of_pos {p : Reg → Bool} {r : Reg} (hr : p r = true) :
    ∀ l : List (Reg × Word), regGet (l.filter (fun x => p x.1)) r = regGet l r
  | [] => rfl
  | (q, v) :: t => by
    have ih := regGet_filter_of_pos hr t
    by_cases hq : q.addr = r.addr
    · have hqr := reg_eq_of_addr hq
      subst hqr
      simp [hr, regGet]
    · rw [List.filter_cons]
      split <;> simp [regGet, hq, ih]

/-- A register that a filter drops reads its reset value. -/
theorem regGet_filter_of_neg {p : Reg → Bool} {r : Reg} (hr : p r = false) :
    ∀ l : List (Reg × Word), regGet (l.filter (fun x => p x.1)) r = r.resetWord
  | [] => rfl
  | (q, v) :: t => by
    have ih := regGet_filter_of_neg hr t
    rw [List.filter_cons]
    split
    · next hp =>
      have hq : q.addr ≠ r.addr := fun h => by
        rw [reg_eq_of_addr h] at hp
        exact Bool.false_ne_true (hr.symm.trans hp)
      simp [regGet, hq, ih]
    · exact ih

/-- The registers a reset writes itself. -/
def clearedAnew (r : Reg) : Bool := r == .GLB_STRAP || r == .BEAD_STATUS || r == .BEAD_CNT

theorem cleared_rd_filter (c : Chip) {r : Reg} (h : clearedAnew r = false) :
    c.cleared.rd r = regGet (c.regs.filter (fun x => x.1.dom == .aon)) r := by
  simp only [clearedAnew, Bool.or_eq_false_iff, beq_eq_false_iff_ne] at h
  obtain ⟨⟨hstrap, hstat⟩, hcnt⟩ := h
  show regGet c.regsAfterReset r = _
  unfold Chip.regsAfterReset
  rw [regGet_regSet_other _ _ hcnt, regGet_regSet_other _ _ hstat, regGet_regSet_other _ _ hstrap]

/-- A reset keeps the registers of the always-on domain. -/
theorem cleared_rd_aon (c : Chip) {r : Reg} (h : clearedAnew r = false) (hd : r.dom = .aon) : c.cleared.rd r = c.rd r :=
  (cleared_rd_filter c h).trans (regGet_filter_of_pos (p := fun q => q.dom == .aon) (by simp [hd]) _)

/-- A reset brings the other registers to their reset values. -/
theorem cleared_rd_reset (c : Chip) {r : Reg} (h : clearedAnew r = false) (hd : (r.dom == .aon) = false) :
    c.cleared.rd r = r.resetWord :=
  (cleared_rd_filter c h).trans (regGet_filter_of_neg (p := fun q => q.dom == .aon) hd _)

theorem rstCause_last {c : Chip} (h : Canon c) {cause : Nat} (supply : Nat) (hc : cause < 16) :
    (c.rstCause cause supply).get .RST_CAUSE F.RST_CAUSE_LAST = cause := by
  rw [Chip.get, Chip.rstCause, rd_wr_same c h]
  split
  · rw [fget_fset_same _ _ _ (by decide)]
    exact Nat.mod_eq_of_lt hc
  · rw [fget_fset_other _ _ _ _ (by decide) (by decide) (by decide), fget_fset_same _ _ _ (by decide)]
    exact Nat.mod_eq_of_lt hc

/-- RST_CAUSE after a reset names its cause (R67). -/
theorem deviceReset_cause {c : Chip} (h : Canon c) (hin : c.inDeviceReset = false) {cause : Nat} (supply : Nat) (hc : cause < 16) :
    (c.deviceReset cause supply).get .RST_CAUSE F.RST_CAUSE_LAST = cause := by
  have hk : ∀ d : Chip, d.balls.bootWhenReady.rd .RST_CAUSE = d.rd .RST_CAUSE := fun d =>
    ((Chip.bootWhenReady_fr (f := keeping [] [.RST_CAUSE]) (Fr.refl _ d.balls) (by simp) (by simp) (by simp) (by simp) (by simp)
      (by simp) (by simp)).kept.regs .RST_CAUSE (by simp)).trans
    ((Chip.balls_fr (f := keeping [] [.RST_CAUSE]) (Fr.refl _ d) (by simp)).kept.regs .RST_CAUSE (by simp))
  rw [Chip.deviceReset, if_neg (by simp [hin])]
  dsimp only
  rw [Chip.get, hk, updClk_rd, cleared_rd_aon _ rfl rfl]
  exact rstCause_last h supply hc

@[simp] theorem setSt_clk (c : Chip) (r : Reg) (f : Field) (v : Nat) : (c.setSt r f v).clk = c.clk := by
  unfold Chip.setSt
  split <;> rfl

@[simp] theorem setSt_pwr (c : Chip) (r : Reg) (f : Field) (v : Nat) : (c.setSt r f v).pwr = c.pwr := by
  unfold Chip.setSt
  split <;> rfl

end Sys2Proof.Proofs

namespace Sys2Proof.Proofs

open Sys2Proof.Machine Sys2Proof.Laws

/-! The reference clocks and the PLLs (03 R62 to R66). -/

theorem locked_setStBit (c : Chip) (h : Canon c) (g : Pll) (b : Bool) :
    (c.setStBit .CLK_STATUS F.CLK_STATUS_LOCK g.val b).locked g = b :=
  bitAt_setStBit_same c h .CLK_STATUS F.CLK_STATUS_LOCK g.val b (by have := g.isLt; simp only [F.CLK_STATUS_LOCK]; omega)

theorem locked_of_rd {c d : Chip} (h : d.rd .CLK_STATUS = c.rd .CLK_STATUS) (g : Pll) : d.locked g = c.locked g :=
  bitAt_of_rd h _ _

theorem runs_pllLock {s : State} (h : Canon s.chip) {g : Pll} (he : s.chip.pllEn g = true) (hl : s.chip.locked g = false)
    (hw : s.chip.clk.lockBy.isSome = true) : Runs (.pllLock g) s (fun c => c.locked g = true) := by
  have hexec : exec (.pllLock g) s = execPllLock g s := rfl
  refine runs_of_run hexec ?_
  have hn : s.chip.clk.lockBy.isNone = false := by simpa using hw
  simp only [he, hl, hn]
  simp only [Bool.not_true, Bool.or_self, Bool.false_eq_true, if_false]
  split
  · exact (locked_of_rd rfl g).trans (locked_setStBit _ h g true)
  · exact locked_setStBit _ h g true

/-- The chip when the wait for the PLLs has run out, before its fault is posted. -/
def lockMissed (c : Chip) : Chip :=
  let boot : Boot := if c.clk.boot = .firmware then .frcOnly else c.clk.boot
  let hs : HsSt := if c.clk.boot = .firmware then .run else c.fw.hs
  (c.updClk (fun k => { k with lockBy := none, boot := boot })).updFw (fun f => { f with hs := hs })

theorem runs_pllLockTimeout {s : State} (h : Canon s.chip) {t : Nat} (ht : s.chip.clk.lockBy = some t) (hdue : t ≤ s.chip.clk.now)
    (hm : s.chip.get .CLK_CTL F.CLK_CTL_PLL_EN &&& (s.chip.get .CLK_STATUS F.CLK_STATUS_LOCK ^^^ 0x1FF) ≠ 0) :
    Runs .pllLockTimeout s (fun c => c.clk.lockBy = none ∧ c.bitAt .GLB_FAULT F.GLB_FAULT_SRC (FaultSrc.pll).bit = true ∧
      (s.chip.clk.boot = .firmware → c.clk.boot = .frcOnly)) := by
  have hexec : exec .pllLockTimeout s = execPllLockTimeout s := rfl
  have hcan : Canon (lockMissed s.chip) := ⟨h.regs, h.flash, h.blocks⟩
  refine runs_of_run_eq hexec
    (d := let c := (lockMissed s.chip).postFault .pll ((lockMissed s.chip).evUnlock
            (s.chip.get .CLK_CTL F.CLK_CTL_PLL_EN &&& (s.chip.get .CLK_STATUS F.CLK_STATUS_LOCK ^^^ 0x1FF)))
          if s.chip.clk.boot == .firmware then c.bootReport else c)
    (by simp only [ht]; exact if_pos ⟨by simpa using hdue, hm⟩) ?_
  dsimp only
  generalize (lockMissed s.chip).evUnlock _ = e
  have hcore := postFault_clkCore (lockMissed s.chip) .pll e
  have hbit := bitAt_postFault _ hcan .pll e
  have hlock : ((lockMissed s.chip).postFault .pll e).clk.lockBy = none := congrArg Clk.lockBy hcore
  have hboot : s.chip.clk.boot = .firmware → ((lockMissed s.chip).postFault .pll e).clk.boot = .frcOnly := fun hb =>
    (congrArg Clk.boot hcore).trans (if_pos hb)
  split
  · have hf := (Chip.bootReport_fr (f := keeping [.clk] [.GLB_FAULT]) (Fr.refl _ ((lockMissed s.chip).postFault .pll e)) (by simp)).kept
    rw [hf.clk (by simp), bitAt_of_rd (hf.regs .GLB_FAULT (by simp))]
    exact ⟨hlock, hbit, hboot⟩
  · exact ⟨hlock, hbit, hboot⟩

theorem runs_refInQualified {s : State} (h : Canon s.chip) (he : s.chip.bit .CLK_CTL F.CLK_CTL_REF_EN = true)
    (hx : s.chip.bit .CLK_STATUS F.CLK_STATUS_XTAL_OK = true) (hq : s.chip.bit .CLK_STATUS F.CLK_STATUS_REF_QUAL = false) :
    Runs .refInQualified s (fun c => c.bit .CLK_STATUS F.CLK_STATUS_REF_QUAL = true) := by
  have hexec : exec .refInQualified s = execRefInQualified s := rfl
  refine runs_of_run_eq hexec (d := let c := s.chip.setSt .CLK_STATUS F.CLK_STATUS_REF_QUAL 1; c.post (c.ev 0x0201 0 0 []))
    (by simp only [he, hx, hq]; rfl) ?_
  dsimp only
  rw [bit_of_rd ((fr_post (ps := []) (rs := [.CLK_STATUS]) _ _ (by simp)).kept.regs .CLK_STATUS (by simp))]
  exact bit_setSt_one _ h _ _ (by decide) (by decide)

theorem canon_settleUncert {c : Chip} (h : Canon c) : Canon c.settleUncert :=
  (Chip.settleUncert_fr (f := keeping [.clk] []) (Fr.refl _ c) (by decide) (by decide)).canon h

@[simp] theorem settleUncert_rd (c : Chip) {r : Reg} (h : r ≠ .SEI_UNCERT) : c.settleUncert.rd r = c.rd r :=
  (Chip.settleUncert_fr (f := keeping [] [r]) (Fr.refl _ c) (by simp) (by simpa using h.symm)).kept.regs r (by simp)

@[simp] theorem settleUncert_clk (c : Chip) : c.settleUncert.clk = c.clk := rfl

theorem runs_refInLost {s : State} (h : Canon s.chip) (hq : s.chip.bit .CLK_STATUS F.CLK_STATUS_REF_QUAL = true) :
    Runs .refInLost s (fun c => c.bit .CLK_STATUS F.CLK_STATUS_REF_QUAL = false ∧
      (s.chip.bit .CLK_STATUS F.CLK_STATUS_XTAL_OK = false → c.bit .CLK_STATUS F.CLK_STATUS_HOLDOVER = true)) := by
  have hexec : exec .refInLost s = execRefInLost s := rfl
  have hu := canon_settleUncert h
  have hcan := canon_setSt hu .CLK_STATUS F.CLK_STATUS_REF_QUAL 0
  refine runs_of_run_eq hexec
    (d := let c := s.chip.settleUncert.setSt .CLK_STATUS F.CLK_STATUS_REF_QUAL 0
          let c := if c.bit .CLK_STATUS F.CLK_STATUS_XTAL_OK then c.refSlew
            else (c.setSt .CLK_STATUS F.CLK_STATUS_HOLDOVER 1).escalate 0xA 2 0 0x0203
          c.post (c.ev 0x0202 0 0 [])) (by simp only [hq]; rfl) ?_
  dsimp only
  have hpost : ∀ (c : Chip) (e : Event) (f : Field), (c.post e).bit .CLK_STATUS f = c.bit .CLK_STATUS f := fun c e f =>
    bit_of_rd ((fr_post (ps := []) (rs := [.CLK_STATUS]) c e (by simp)).kept.regs .CLK_STATUS (by simp)) f
  rw [hpost, hpost]
  have hqual := bit_setSt_zero _ hu .CLK_STATUS F.CLK_STATUS_REF_QUAL (by decide) (by decide)
  have hxtal : (s.chip.settleUncert.setSt .CLK_STATUS F.CLK_STATUS_REF_QUAL 0).bit .CLK_STATUS F.CLK_STATUS_XTAL_OK =
      s.chip.bit .CLK_STATUS F.CLK_STATUS_XTAL_OK :=
    (bit_setSt_field _ hu _ _ _ _ (by decide) (by decide) (by decide)).trans (bit_of_rd (settleUncert_rd _ (by simp)) _)
  split
  · next hx =>
    refine ⟨(bit_of_rd ?_ _).trans hqual, fun hno => absurd hx (by rw [hxtal, hno]; simp)⟩
    exact (Chip.refSlew_fr (f := keeping [] [.CLK_STATUS]) (Fr.refl _ _) (by simp)).kept.regs .CLK_STATUS (by simp)
  · have hk : ∀ (c : Chip) (f : Field), (c.escalate 0xA 2 0 0x0203).bit .CLK_STATUS f = c.bit .CLK_STATUS f := fun c f =>
      bit_of_rd ((Chip.escalate_fr (f := keeping [] [.CLK_STATUS]) (Fr.refl _ c) (by simp) (by simp) (by simp)).kept.regs
        .CLK_STATUS (by simp)) f
    rw [hk, hk]
    exact ⟨(bit_setSt_field _ hcan _ _ _ _ (by decide) (by decide) (by decide)).trans hqual,
      fun _ => bit_setSt_one _ hcan _ _ (by decide) (by decide)⟩

/-- The deviation of TIME takes no fault back. -/
theorem bitAt_degrade_keeps (c : Chip) (h : Canon c) (xtal deep : Bool) {i : Nat} (hi : i < 24)
    (hb : c.bitAt .GLB_FAULT F.GLB_FAULT_SRC i = true) : (c.degrade xtal deep).bitAt .GLB_FAULT F.GLB_FAULT_SRC i = true := by
  have hu := canon_settleUncert h
  have hub : c.settleUncert.bitAt .GLB_FAULT F.GLB_FAULT_SRC i = true := (bitAt_of_rd (settleUncert_rd c (by simp)) _ _).trans hb
  have hst : ∀ (d : Chip) (w : Word), Canon d → d.bitAt .GLB_FAULT F.GLB_FAULT_SRC i = true →
      Canon (if w = d.rd .SEI_STATUS then d else (d.wr .SEI_STATUS w).bump .SEI_STATUS) ∧
      (if w = d.rd .SEI_STATUS then d else (d.wr .SEI_STATUS w).bump .SEI_STATUS).bitAt .GLB_FAULT F.GLB_FAULT_SRC i = true := by
    intro d w hd hdb
    split
    · exact ⟨hd, hdb⟩
    · exact ⟨canon_bump (canon_wr hd _ _) _, (bitAt_of_rd ((rd_bump_other _ (by simp)).trans (rd_wr_other _ _ (by simp))) _ _).trans hdb⟩
  unfold Chip.degrade
  dsimp only
  obtain ⟨hcan, hbit⟩ := hst _ (fset (fset (fset (c.settleUncert.rd .SEI_STATUS) F.SEI_STATUS_DEG_XTAL (bitOf xtal))
    F.SEI_STATUS_DEG_DEEP (bitOf deep)) F.SEI_STATUS_TIME_DEGRADED (bitOf (xtal || deep))) hu hub
  split
  · exact hbit
  split
  · exact bitAt_postFault_keeps _ hcan _ _ hi hbit
  · exact (bitAt_of_rd ((fr_post (ps := []) (rs := [.GLB_FAULT]) _ _ (by simp)).kept.regs .GLB_FAULT (by simp)) _ _).trans hbit

@[simp] theorem degXtal_rd_clkStatus (c : Chip) (on : Bool) : (c.degXtal on).rd .CLK_STATUS = c.rd .CLK_STATUS :=
  (Chip.degXtal_fr (f := keeping [] [.CLK_STATUS]) (Fr.refl _ c) (by simp) (by simp) (by simp) (by simp) (by simp) (by simp)
    (by simp)).kept.regs .CLK_STATUS (by simp)

@[simp] theorem postFault_rd_clkStatus (c : Chip) (s : FaultSrc) (e : Event) : (c.postFault s e).rd .CLK_STATUS = c.rd .CLK_STATUS :=
  (Chip.postFault_fr (f := keeping [] [.CLK_STATUS]) (Fr.refl _ c) (by simp) (by simp) (by simp) (by simp)).kept.regs
    .CLK_STATUS (by simp)

/-- The chip when the crystal has failed, before its fault is posted. -/
def xtalFailed (c : Chip) : Chip :=
  let c := c.settleUncert
  let hold := bitOf (!c.bit .CLK_STATUS F.CLK_STATUS_REF_QUAL || c.refFree)
  let w := fset (fset (c.rd .CLK_STATUS) F.CLK_STATUS_XTAL_OK 0) F.CLK_STATUS_HOLDOVER hold
  let c := (c.wr .CLK_STATUS w).bump .CLK_STATUS
  c.updClk (fun k => { k with slewing := false })

theorem runs_crystalFailure {s : State} (h : Canon s.chip) (hx : s.chip.bit .CLK_STATUS F.CLK_STATUS_XTAL_OK = true)
    (hdeep : s.chip.pwr.st ≠ .deep) (hoff : s.chip.pwr.st ≠ .off) :
    Runs .crystalFailure s (fun c => c.bit .CLK_STATUS F.CLK_STATUS_XTAL_OK = false ∧
      c.bitAt .GLB_FAULT F.GLB_FAULT_SRC (FaultSrc.xtal).bit = true) := by
  have hexec : exec .crystalFailure s = execCrystalFailure s := rfl
  have hu := canon_settleUncert h
  have hcan : Canon (xtalFailed s.chip) := by
    unfold xtalFailed
    exact canon_updClk (canon_bump (canon_wr hu _ _) _) _
  have hno : ¬((!s.chip.bit .CLK_STATUS F.CLK_STATUS_XTAL_OK) = true ∨ s.chip.pwr.st = .deep ∨ s.chip.pwr.st = .off) := by
    simp [hx, hdeep, hoff]
  refine runs_of_run_eq hexec
    (d := ((xtalFailed s.chip).postFault .xtal ((xtalFailed s.chip).ev 0x0203 0 0 [])).degXtal true) (if_neg hno) ⟨?_, ?_⟩
  · rw [bit_of_rd (degXtal_rd_clkStatus _ _), bit_of_rd (postFault_rd_clkStatus _ _ _)]
    refine (congrArg (· != 0) (get_wr_bump _ hu .CLK_STATUS _ F.CLK_STATUS_XTAL_OK (by decide))).trans ?_
    rw [fget_fset_other _ _ _ _ (by decide) (by decide) (by decide), fget_fset_same _ _ _ (by decide)]
    rfl
  · exact bitAt_degrade_keeps _ (canon_postFault hcan _ _) _ _ (by decide) (bitAt_postFault _ hcan .xtal _)

/-- The chip when the crystal is back, before PLL_REF slews to it. -/
def xtalBack (c : Chip) : Chip :=
  let c := c.settleUncert
  let w := fset (fset (c.rd .CLK_STATUS) F.CLK_STATUS_XTAL_OK 1) F.CLK_STATUS_HOLDOVER (bitOf c.refFree)
  (c.wr .CLK_STATUS w).bump .CLK_STATUS

theorem get_xtalBack {c : Chip} (h : Canon c) (g : Field) (hg : g.hi < 24) : (xtalBack c).get .CLK_STATUS g =
    fget (fset (fset (c.settleUncert.rd .CLK_STATUS) F.CLK_STATUS_XTAL_OK 1) F.CLK_STATUS_HOLDOVER (bitOf c.settleUncert.refFree)) g :=
  get_wr_bump _ (canon_settleUncert h) .CLK_STATUS _ g hg

@[simp] theorem settleUncert_refFree (c : Chip) : c.settleUncert.refFree = c.refFree := by
  rw [Chip.refFree, Chip.refFree, bit_of_rd (settleUncert_rd c (by simp)), bitAt_of_rd (settleUncert_rd c (by simp))]

/-- The crystal's return leaves what PLL_REF follows. -/
theorem refFree_xtalBack {c : Chip} (h : Canon c) : (xtalBack c).refFree = c.refFree := by
  have hctl : (xtalBack c).rd .CLK_CTL = c.rd .CLK_CTL :=
    (rd_bump_other _ (by simp)).trans ((rd_wr_other _ _ (by simp)).trans (settleUncert_rd c (by simp)))
  have hlock : (xtalBack c).bitAt .CLK_STATUS F.CLK_STATUS_LOCK 0 = c.bitAt .CLK_STATUS F.CLK_STATUS_LOCK 0 := by
    rw [bitAt_eq_bit _ _ _ _ .ro, bitAt_eq_bit _ _ _ _ .ro, Chip.bit, get_xtalBack h _ (by decide),
      fget_fset_other _ _ _ _ (by decide) (by decide) (by decide), fget_fset_other _ _ _ _ (by decide) (by decide) (by decide),
      settleUncert_rd c (by simp)]
    rfl
  rw [Chip.refFree, Chip.refFree, bit_of_rd hctl, hlock]

@[simp] theorem degXtal_clkCore (c : Chip) (on : Bool) : clkCore (c.degXtal on).clk = clkCore c.clk := by
  have hst : ∀ (d : Chip) (w : Word), clkCore (if w = d.rd .SEI_STATUS then d else (d.wr .SEI_STATUS w).bump .SEI_STATUS).clk =
      clkCore d.clk := by
    intro d w
    split <;> rfl
  unfold Chip.degXtal Chip.degrade
  dsimp only
  split
  · exact hst _ _
  split
  · rw [postFault_clkCore, hst]
    rfl
  · rw [(fr_post (ps := [.clk]) (rs := []) _ _ (by simp)).kept.clk (by simp), hst]
    rfl

theorem runs_crystalReturn {s : State} (h : Canon s.chip) (hx : s.chip.bit .CLK_STATUS F.CLK_STATUS_XTAL_OK = false) :
    Runs .crystalReturn s (fun c => c.bit .CLK_STATUS F.CLK_STATUS_XTAL_OK = true ∧
      c.bit .CLK_STATUS F.CLK_STATUS_HOLDOVER = s.chip.refFree ∧ c.clk.slewing = (s.chip.clk.slewing || !s.chip.refFree)) := by
  have hexec : exec .crystalReturn s = execCrystalReturn s := rfl
  refine runs_of_run_eq hexec (d := (xtalBack s.chip).refSlew) (by simp only [hx]; rfl) ?_
  have hrd : (xtalBack s.chip).refSlew.rd .CLK_STATUS = (xtalBack s.chip).rd .CLK_STATUS :=
    (Chip.refSlew_fr (f := keeping [] [.CLK_STATUS]) (Fr.refl _ _) (by simp)).kept.regs .CLK_STATUS (by simp)
  rw [bit_of_rd hrd, bit_of_rd hrd]
  refine ⟨?_, ?_, ?_⟩
  · rw [Chip.bit, get_xtalBack h _ (by decide), fget_fset_other _ _ _ _ (by decide) (by decide) (by decide),
      fget_fset_same _ _ _ (by decide)]
    rfl
  · rw [Chip.bit, get_xtalBack h _ (by decide), fget_fset_same _ _ _ (by decide), settleUncert_refFree]
    cases s.chip.refFree <;> rfl
  · rw [Chip.refSlew, refFree_xtalBack h]
    cases s.chip.refFree
    · simp [Chip.updClk]
    · exact (Bool.or_false _).symm

theorem runs_pllRefSlewEnd {s : State} (hw : s.chip.clk.slewing = true) (hx : s.chip.bit .CLK_STATUS F.CLK_STATUS_XTAL_OK = true)
    (hr : s.chip.refFree = false) : Runs .pllRefSlewEnd s (fun c => c.clk.slewing = false) := by
  have hexec : exec .pllRefSlewEnd s = execPllRefSlewEnd s := rfl
  refine runs_of_run_eq hexec (d := (s.chip.updClk (fun k => { k with slewing := false })).degXtal false)
    (if_pos ⟨hw, hx, by rw [hr]; rfl⟩) ?_
  exact congrArg Clk.slewing (degXtal_clkCore _ _)

/-- The chip when a PLL has lost its lock and the fault is posted. -/
def lockLost (c : Chip) (g : Pll) : Chip :=
  let c := (c.setStBit .CLK_STATUS F.CLK_STATUS_LOCK g.val false).record .CLK_STATUS F.CLK_STATUS_UNLOCK_SEEN
  c.postFault .pll (c.evUnlock (2 ^ g.val))

theorem canon_lockLost {c : Chip} (h : Canon c) (g : Pll) : Canon (lockLost c g) :=
  canon_postFault (canon_record (canon_setSt h _ _ _) _ _) _ _

theorem locked_lockLost {c : Chip} (h : Canon c) (g : Pll) : (lockLost c g).locked g = false := by
  refine (locked_of_rd (postFault_rd_clkStatus _ _ _) g).trans ?_
  have hlt : F.CLK_STATUS_UNLOCK_SEEN.hi < F.CLK_STATUS_LOCK.lo + g.val ∧ F.CLK_STATUS_LOCK.lo + g.val < 24 := by
    have := g.isLt
    simp only [F.CLK_STATUS_LOCK, F.CLK_STATUS_UNLOCK_SEEN]
    omega
  refine Eq.trans ?_ (locked_setStBit c h g false)
  rw [Chip.locked, Chip.locked, bitAt_eq_bit _ _ _ _ .ro, bitAt_eq_bit _ _ _ _ .ro]
  exact bit_record_field _ (canon_setSt h _ _ _) _ _ _ (by decide) hlt.2 (Or.inl hlt.1)

theorem unlockSeen_lockLost {c : Chip} (h : Canon c) (g : Pll) : (lockLost c g).bit .CLK_STATUS F.CLK_STATUS_UNLOCK_SEEN = true :=
  (bit_of_rd (postFault_rd_clkStatus _ _ _) _).trans
    (bit_record_same _ (canon_setSt h _ _ _) .CLK_STATUS F.CLK_STATUS_UNLOCK_SEEN (by decide) (by decide))


theorem startScope_rd_clkStatus (c : Chip) (sc : Scope) : (c.startScope sc none false []).rd .CLK_STATUS = c.rd .CLK_STATUS := by
  have hf : Fr (keeping [] [.CLK_STATUS]) c (c.startScope sc none false []) := by
    apply Chip.startScope_fr (Fr.refl _ c) <;> simp
  exact hf.kept.regs .CLK_STATUS (by simp)

theorem srdsLost_rd_clkStatus (c : Chip) (k : Nat) : (c.srdsLost k).rd .CLK_STATUS = c.rd .CLK_STATUS := by
  have hf : Fr (keeping [] [.CLK_STATUS]) c (c.srdsLost k) := by
    apply Chip.srdsLost_fr (Fr.refl _ c) <;> simp
  exact hf.kept.regs .CLK_STATUS (by simp)

theorem each_rd {α : Type} (r : Reg) (g : Chip → α → Chip) (h : ∀ c x, (g c x).rd r = c.rd r) :
    ∀ (l : List α) (c : Chip), (c.each l g).rd r = c.rd r := by
  intro l
  induction l with
  | nil => exact fun c => rfl
  | cons x l ih => exact fun c => (ih _).trans (h c x)

/-- The loss of PLL_HS or of a PLL of ports or lanes leaves CLK_STATUS. -/
theorem pllScope_rd_clkStatus (c : Chip) (g : Pll) (h : 3 ≤ g.val) : (c.pllScope g).rd .CLK_STATUS = c.rd .CLK_STATUS := by
  unfold Chip.pllScope
  split
  · omega
  · omega
  · omega
  · dsimp only
    split
    · rfl
    · exact startScope_rd_clkStatus _ _
  · exact srdsLost_rd_clkStatus c 4
  · exact each_rd _ _ (fun c n => startScope_rd_clkStatus c _) _ c

/-- The loss of PLL_REF changes HOLDOVER alone in CLK_STATUS (R64). -/
theorem pllScope_ref_bit {c : Chip} (h : Canon c) (g : Pll) (hg : g.val = 0) (f : Field) (hf : f.hi < F.CLK_STATUS_HOLDOVER.lo) :
    (c.pllScope g).bit .CLK_STATUS f = c.bit .CLK_STATUS f := by
  have hu : Canon (c.settleUncert.updClk (fun k => { k with slewing := false })) := canon_updClk (canon_settleUncert h) _
  unfold Chip.pllScope
  rw [hg]
  refine (bit_of_rd (degXtal_rd_clkStatus _ _) f).trans ((bit_setSt_field _ hu _ _ _ _ (by decide) ?_ (Or.inr hf)).trans ?_)
  · exact Nat.lt_trans hf (by decide)
  · exact bit_of_rd (settleUncert_rd c (by simp)) f

theorem pllScope_bit {c : Chip} (h : Canon c) (g : Pll) (hg : g.val = 0 ∨ 3 ≤ g.val) (f : Field) (hf : f.hi < F.CLK_STATUS_HOLDOVER.lo) :
    (c.pllScope g).bit .CLK_STATUS f = c.bit .CLK_STATUS f :=
  hg.elim (fun h0 => pllScope_ref_bit h g h0 f hf) (fun h3 => bit_of_rd (pllScope_rd_clkStatus c g h3) f)

theorem pllUnlock_unfolds {s : State} {g : Pll} (hp : s.chip.onPlls = true) (hl : s.chip.locked g = true) :
    (fun c : Chip => if !c.onPlls || !c.locked g then c
      else
        let c := (c.setStBit .CLK_STATUS F.CLK_STATUS_LOCK g.val false).record .CLK_STATUS F.CLK_STATUS_UNLOCK_SEEN
        (c.postFault .pll (c.evUnlock (2 ^ g.val))).pllScope g) s.chip = (lockLost s.chip g).pllScope g := by
  simp only [hp, hl]
  rfl

theorem runs_pllUnlock_seen {s : State} (h : Canon s.chip) {g : Pll} (hp : s.chip.onPlls = true) (hl : s.chip.locked g = true)
    (hg : g.val = 0 ∨ 3 ≤ g.val) :
    Runs (.pllUnlock g) s (fun c => c.locked g = false ∧ c.bit .CLK_STATUS F.CLK_STATUS_UNLOCK_SEEN = true) := by
  have hexec : exec (.pllUnlock g) s = execPllUnlock g s := rfl
  refine runs_settled hexec _ (pllUnlock_unfolds hp hl) fun x hx => ?_
  have hcan := canon_lockLost h g
  have hlt : F.CLK_STATUS_LOCK.lo + g.val < F.CLK_STATUS_HOLDOVER.lo := by
    have := g.isLt
    simp only [F.CLK_STATUS_LOCK, F.CLK_STATUS_HOLDOVER]
    omega
  rw [locked_of_rd (rd_of_settle hx rfl), bit_of_rd (rd_of_settle hx rfl)]
  refine ⟨?_, (pllScope_bit hcan g hg _ (by decide)).trans (unlockSeen_lockLost h g)⟩
  have hlost := locked_lockLost h g
  rw [Chip.locked, bitAt_eq_bit _ _ _ _ .ro] at hlost ⊢
  exact (pllScope_bit hcan g hg _ hlt).trans hlost

theorem inDeviceReset_lockLost {c : Chip} (g : Pll) (h : c.inDeviceReset = false) : (lockLost c g).inDeviceReset = false := by
  have hboot : (lockLost c g).clk.boot = c.clk.boot := (congrArg Clk.boot (postFault_clkCore _ _ _)).trans
    (by simp [Chip.setStBit, Chip.record, Chip.bump, Chip.setF, clkCore])
  have hpwr : (lockLost c g).pwr = c.pwr :=
    ((Chip.postFault_fr (f := keeping [.pwr] []) (Fr.refl _ _) (by simp) (by simp) (by simp) (by simp)).kept.pwr (by simp)).trans
      (by simp [Chip.setStBit, Chip.record, Chip.bump, Chip.setF])
  rwa [Chip.inDeviceReset, hboot, hpwr]

theorem xtalOk_lockLost {c : Chip} (h : Canon c) (g : Pll) :
    (lockLost c g).bit .CLK_STATUS F.CLK_STATUS_XTAL_OK = c.bit .CLK_STATUS F.CLK_STATUS_XTAL_OK := by
  have hlt : F.CLK_STATUS_LOCK.lo + g.val < F.CLK_STATUS_XTAL_OK.lo := by
    have := g.isLt
    simp only [F.CLK_STATUS_LOCK, F.CLK_STATUS_XTAL_OK]
    omega
  refine (bit_of_rd (postFault_rd_clkStatus _ _ _) _).trans ?_
  refine (bit_record_field _ (canon_setSt h _ _ _) _ _ _ (by decide) (by decide) (by decide)).trans ?_
  exact bit_setSt_field c h _ _ _ _ ⟨Nat.le_refl _, Nat.lt_trans hlt (by decide)⟩ (by decide) (Or.inl hlt)

theorem runs_pllUnlock_reset {s : State} (h : Canon s.chip) {g : Pll} (hin : s.chip.inDeviceReset = false)
    (hp : s.chip.onPlls = true) (hl : s.chip.locked g = true) (hg : g.val = 1 ∨ g.val = 2) :
    Runs (.pllUnlock g) s (fun c => c.get .RST_CAUSE F.RST_CAUSE_LAST =
      if s.chip.bit .CLK_STATUS F.CLK_STATUS_XTAL_OK then 5 else 4) := by
  have hexec : exec (.pllUnlock g) s = execPllUnlock g s := rfl
  have hcan := canon_lockLost h g
  have hin' := inDeviceReset_lockLost g hin
  refine runs_settled hexec _ (pllUnlock_unfolds hp hl) fun x hx => ?_
  have hscope : (lockLost s.chip g).pllScope g = if (lockLost s.chip g).bit .CLK_STATUS F.CLK_STATUS_XTAL_OK
      then (lockLost s.chip g).deviceReset 5 0 else ((lockLost s.chip g).escalate 0xA 3 0 0x0203).deviceReset 4 0 := by
    rcases hg with hg | hg <;> simp only [Chip.pllScope, hg]
  rw [get_of_rd (rd_of_settle hx rfl), hscope, xtalOk_lockLost h g]
  split
  · exact deviceReset_cause hcan hin' 0 (by decide)
  · have hf : Fr (keeping [.clk, .pwr] []) (lockLost s.chip g) ((lockLost s.chip g).escalate 0xA 3 0 0x0203) :=
      Chip.escalate_fr (Fr.refl _ _) (by simp) (by simp) (by simp)
    refine deviceReset_cause (hf.canon hcan) ?_ 0 (by decide)
    rwa [Chip.inDeviceReset, hf.kept.clk (by simp), hf.kept.pwr (by simp)]

/-- What a PLL's relock brings beside its LOCK bit (R64, R66). -/
def relocked (c : Chip) (g : Pll) : Chip :=
  match g.val with
  | 0 =>
    let c := c.settleUncert
    (c.setSt .CLK_STATUS F.CLK_STATUS_HOLDOVER (bitOf (!c.bit .CLK_STATUS F.CLK_STATUS_XTAL_OK &&
      !c.bit .CLK_STATUS F.CLK_STATUS_REF_QUAL))).updClk (fun k => { k with slewing := true })
  | 3 => c.updClk (fun k => { k with hsOnFrc := false })
  | 8 => c.srdsBack
  | _ => c

theorem locked_relocked {c : Chip} (h : Canon c) (g : Pll) : (relocked c g).locked g = c.locked g := by
  unfold relocked
  split
  · next hg =>
    refine (locked_of_rd (updClk_rd _ _ _) g).trans ?_
    rw [Chip.locked, Chip.locked, bitAt_eq_bit _ _ _ _ .ro, bitAt_eq_bit _ _ _ _ .ro, hg]
    exact (bit_setSt_field _ (canon_settleUncert h) _ _ _ _ (by decide) (by decide) (by decide)).trans
      (bit_of_rd (settleUncert_rd c (by simp)) _)
  · rfl
  · have hf : Fr (keeping [] [.CLK_STATUS]) c c.srdsBack := by
      apply Chip.srdsBack_fr (Fr.refl _ c) <;> simp
    exact locked_of_rd (hf.kept.regs .CLK_STATUS (by simp)) g
  · rfl

theorem runs_pllRelock {s : State} (h : Canon s.chip) {g : Pll} (hp : s.chip.onPlls = true) (hl : s.chip.locked g = false)
    (he : s.chip.pllEn g = true) : Runs (.pllRelock g) s (fun c => c.locked g = true) := by
  have hexec : exec (.pllRelock g) s = execPllRelock g s := rfl
  refine runs_settled hexec (relocked (s.chip.setStBit .CLK_STATUS F.CLK_STATUS_LOCK g.val true) g)
    (by simp only [hp, hl, he]; rfl) fun x hx => ?_
  rw [locked_of_rd (rd_of_settle hx rfl)]
  exact (locked_relocked (canon_setSt h _ _ _) g).trans (locked_setStBit _ h g true)

/-- Settles O2: each event of the crystal, REF_IN and the PLLs, through what a status update, a fault and a reset leave of
CLK_STATUS. -/
theorem referenceClocks : Obligations.ReferenceClocks := by
  unfold Obligations.ReferenceClocks
  intro s h
  exact ⟨fun g he hl hw => runs_pllLock h he hl hw, fun t ht hd hm => runs_pllLockTimeout h ht hd hm,
    fun he hx hq => runs_refInQualified h he hx hq, fun hq => runs_refInLost h hq, fun hx hd ho => runs_crystalFailure h hx hd ho,
    fun hx => runs_crystalReturn h hx, fun hw hx hr => runs_pllRefSlewEnd hw hx hr,
    fun g hp hl hg => runs_pllUnlock_seen h hp hl hg, fun g hin hp hl hg => runs_pllUnlock_reset h hin hp hl hg,
    fun g hp hl he => runs_pllRelock h hp hl he⟩

end Sys2Proof.Proofs

namespace Sys2Proof.Proofs

open Sys2Proof.Machine Sys2Proof.Laws

/-! Writes of BOOT_CTL and CLK_CTL (03 R63, R65; 04 R84). -/

/-- A write that is let through does what the register's write does, and is answered DONE: commands after which nothing
settles. -/
theorem runs_pathWriteE {s : State} {i : Instr} {p : RegPath} {r : Reg} {v : Word} {P : Chip → Prop}
    (hi : exec i s = s.runE (fun c => c.pathWrite p r.addr v)) (hw : Writable s.chip p r v)
    (hp : P (((opened s.chip p r).putReg p (p.val != 1) r v).fabAnswer p ⟨0#32, fsDONE⟩)) : Runs i s P := by
  refine ⟨{ s with chip := ((opened s.chip p r).putReg p (p.val != 1) r v).fabAnswer p ⟨0#32, fsDONE⟩ }, ?_, rfl, hp⟩
  rw [hi, State.runE, Chip.pathWrite, if_pos hw.up, fabWrite_reg hw]

/-- A field of a register that a write stores whole. -/
theorem get_wrRW_field {c : Chip} (h : Canon c) (r : Reg) (v : Word) (f : Field) (hf : f.hi < 32)
    (hm : ∀ i ≤ f.hi, f.lo ≤ i → r.rwMask.getLsbD i = true) (hn : ∀ w, normWord r w = w) : (c.wrRW r v).get r f = fget v f := by
  rw [Chip.get, rd_wrRW_same h, hn, fget_merge_mask _ _ _ _ hf hm]

/-! ### BOOT_CTL -/

theorem bootOk_bootCtl (c : Chip) : c.bootOk.rd .BOOT_CTL = c.rd .BOOT_CTL :=
  (Chip.bootOk_fr (f := keeping [] [.BOOT_CTL]) (Fr.refl _ c) (by simp) (by simp) (by simp)).kept.regs .BOOT_CTL (by simp)

theorem bootOk_clkCore (c : Chip) : clkCore c.bootOk.clk = { clkCore c.clk with wdt := none, bootFault := false } :=
  balls_clkCore _

theorem runs_bootOkWrite {s : State} (h : Canon s.chip) {p : RegPath} {v : Word} (hw : Writable s.chip p .BOOT_CTL v)
    (hv : v.getLsbD F.BOOT_CTL_BOOT_OK.lo = true) :
    Runs (.bootOkWrite p v) s (fun c => c.fab.answers[p] = ⟨0#32, fsDONE⟩ ∧ c.clk.wdt = none ∧ c.clk.bootFault = false ∧
      c.bit .BOOT_CTL F.BOOT_CTL_BOOT_OK = true) := by
  have hexec : exec (.bootOkWrite p v) s = execBootOkWrite p v s := rfl
  have hget := get_wrRW_field (canon_opened h p .BOOT_CTL) .BOOT_CTL v F.BOOT_CTL_BOOT_OK (by decide) (by decide) (fun w => rfl)
  have hbit : ((opened s.chip p .BOOT_CTL).wrRW .BOOT_CTL v).bit .BOOT_CTL F.BOOT_CTL_BOOT_OK = true := by
    rw [Chip.bit, hget]
    exact (fget_bit v _ _).trans hv
  have hput : (opened s.chip p .BOOT_CTL).putReg p (p.val != 1) .BOOT_CTL v =
      ((opened s.chip p .BOOT_CTL).wrRW .BOOT_CTL v).bootOk := if_pos hbit
  refine runs_pathWriteE hexec hw ?_
  rw [hput]
  have hcore := bootOk_clkCore ((opened s.chip p .BOOT_CTL).wrRW .BOOT_CTL v)
  exact ⟨fabAnswer_answers _ _ _, congrArg Clk.wdt hcore, congrArg Clk.bootFault hcore,
    (bit_of_rd (bootOk_bootCtl _) _).trans hbit⟩

/-! ### CLK_CTL -/

/-- The registers that a write of CLK_CTL acts on. -/
theorem clkCtl_rd (c : Chip) (old : Word) {r : Reg} (hs : r ≠ .CLK_STATUS) (hu : r ≠ .SEI_UNCERT) :
    (c.clkCtl old).rd r = c.rd r := by
  have hf : Fr (keeping [] [r]) c (c.clkCtl old) := by
    apply Chip.clkCtl_fr (Fr.refl _ c) <;> simp [hs.symm, hu.symm]
  exact hf.kept.regs r (by simp)

theorem runs_clkCtl {s : State} {i : Instr} {p : RegPath} {v : Word}
    (hi : exec i s = s.runE (fun c => c.pathWrite p (Reg.CLK_CTL).addr v)) (hw : Writable s.chip p .CLK_CTL v) {P : Chip → Prop}
    (hp : ∀ d : Chip, d.fab.answers[p] = ⟨0#32, fsDONE⟩ →
      (∀ r, r ≠ .CLK_STATUS → r ≠ .SEI_UNCERT → d.rd r = ((opened s.chip p .CLK_CTL).wrRW .CLK_CTL v).rd r) → P d) : Runs i s P := by
  refine runs_pathWriteE hi hw (hp _ (fabAnswer_answers _ _ _) fun r hs hu => ?_)
  exact (fabAnswer_rd _ _ _ _).trans (clkCtl_rd _ _ hs hu)

theorem get_clkCtl_written {c : Chip} (h : Canon c) (p : RegPath) (v : Word) (f : Field) (hf : f.hi < 32)
    (hm : ∀ i ≤ f.hi, f.lo ≤ i → (Reg.CLK_CTL).rwMask.getLsbD i = true) :
    ((opened c p .CLK_CTL).wrRW .CLK_CTL v).get .CLK_CTL f = fget v f :=
  get_wrRW_field (canon_opened h p _) _ _ _ hf hm (fun _ => rfl)

/-- Settles O4: a write that is let through stores its bits, and BOOT_OK and the clock unit act on them. -/
theorem bootAndClockWrites : Obligations.BootAndClockWrites := by
  unfold Obligations.BootAndClockWrites
  intro s h hg p v
  refine ⟨fun hw hv => runs_bootOkWrite h hw hv, fun hw => ?_, fun hw => ?_, fun hw => ?_⟩
  · have hexec : exec (.clkCtlPllEn p v) s = execClkCtlPllEn p v s := rfl
    refine runs_clkCtl hexec hw fun d ha hrd => ⟨ha, ?_, fun r hc hs hu => ?_⟩
    · exact (get_of_rd (hrd _ (by simp) (by simp)) _).trans (get_clkCtl_written h p v _ (by decide) (by decide))
    · exact (hrd r hs hu).trans ((wrRW_rd_other _ v hc).trans (opened_rd _ _ _ _))
  · have hexec : exec (.clkCtlSysSel p v) s = execClkCtlSysSel p v s := rfl
    exact runs_clkCtl hexec hw fun d ha hrd => ⟨ha, (get_of_rd (hrd _ (by simp) (by simp)) _).trans
      (get_clkCtl_written h p v _ (by decide) (by decide))⟩
  · have hexec : exec (.clkCtlRefEn p v) s = execClkCtlRefEn p v s := rfl
    exact runs_clkCtl hexec hw fun d ha hrd => ⟨ha, (get_of_rd (hrd _ (by simp) (by simp)) _).trans
      (get_clkCtl_written h p v _ (by decide) (by decide))⟩

end Sys2Proof.Proofs

namespace Sys2Proof.Proofs

open Sys2Proof.Machine Sys2Proof.Laws

/-! PTP and ECHO on the lanes (05 R118, R123 to R125). -/

/-! ### Frames that go out -/

/-- The frame that goes out heads the lane's transmit history. -/
theorem emit_hist_head (c : Chip) (l : LaneId) (f : TxFrame) :
    ((c.emit l f).trunk.lanes[l]).hist.head? = some (c.clk.now, { f with
      dst := c.destOf l f.typ, tag := (c.trunk.lanes[l]).vlan
      etherType := if f.typ = 0 then 0x88F7#16 else (c.trunk.lanes[l]).etherType }) := by
  rw [Chip.emit, updLane_same]
  rfl

theorem updLane_other (c : Chip) {l k : LaneId} (f : Lane → Lane) (h : k ≠ l) : (c.updLane l f).trunk.lanes[k] = c.trunk.lanes[k] :=
  Vector.getElem_set_ne l.isLt k.isLt (fun he => h (Fin.ext he.symm))

theorem emit_lane_other (c : Chip) {l k : LaneId} (f : TxFrame) (h : k ≠ l) : (c.emit l f).trunk.lanes[k] = c.trunk.lanes[k] := by
  unfold Chip.emit
  exact updLane_other c _ h

theorem sendPtp_hist_head (c : Chip) (l : LaneId) (m : List Byte) :
    ((c.sendPtp l m).trunk.lanes[l]).hist.head?.map (fun h => (h.2.dst, h.2.etherType, h.2.body)) =
      some (ptpMac, 0x88F7#16, .bytes m) := by
  rw [Chip.sendPtp, emit_hist_head]
  rfl

theorem sendPtp_body (c : Chip) (l : LaneId) (m : List Byte) :
    ((c.sendPtp l m).trunk.lanes[l]).hist.head?.map (fun h => h.2.body) = some (.bytes m) := by
  rw [Chip.sendPtp, emit_hist_head]
  rfl

/-- A PTP frame changes its lane's transmit history alone. -/
theorem sendPtp_lane (c : Chip) (l : LaneId) (m : List Byte) :
    ∃ h, (c.sendPtp l m).trunk.lanes[l] = { c.trunk.lanes[l] with hist := h } := by
  rw [Chip.sendPtp, Chip.emit, updLane_same]
  exact ⟨_, rfl⟩

/-- The chip when SYNC and FOLLOW_UP have gone out on a lane (R123). -/
def syncSent (c : Chip) (l : LaneId) : Chip :=
  let t := c.sei.time + BitVec.ofNat 64 (c.get (.PTP_LAT l) F.PTP_LAT_TX_ADJ)
  let seq := (c.trunk.lanes[l]).syncSeq
  ((c.updTrunk (fun x => { x with ptpPaused := false })).sendPtp l
    (ptpMsg pkSYNC c.ptpDomain l 0x0200 0 seq c.syncLog (List.replicate 10 0#8))).sendPtp l
    (ptpMsg pkFOLLOW_UP c.ptpDomain l 0 (ptpRest t) seq c.syncLog (ptpStamp t))

theorem syncSent_syncSeq (c : Chip) (l : LaneId) : ((syncSent c l).trunk.lanes[l]).syncSeq = (c.trunk.lanes[l]).syncSeq := by
  obtain ⟨h1, heq1⟩ := sendPtp_lane (c.updTrunk (fun x => { x with ptpPaused := false })) l
    (ptpMsg pkSYNC c.ptpDomain l 0x0200 0 (c.trunk.lanes[l]).syncSeq c.syncLog (List.replicate 10 0#8))
  unfold syncSent
  dsimp only
  obtain ⟨h2, heq2⟩ := sendPtp_lane ((c.updTrunk (fun x => { x with ptpPaused := false })).sendPtp l
    (ptpMsg pkSYNC c.ptpDomain l 0x0200 0 (c.trunk.lanes[l]).syncSeq c.syncLog (List.replicate 10 0#8))) l
    (ptpMsg pkFOLLOW_UP c.ptpDomain l 0 (ptpRest (c.sei.time + BitVec.ofNat 64 (c.get (.PTP_LAT l) F.PTP_LAT_TX_ADJ)))
      (c.trunk.lanes[l]).syncSeq c.syncLog (ptpStamp (c.sei.time + BitVec.ofNat 64 (c.get (.PTP_LAT l) F.PTP_LAT_TX_ADJ))))
  rw [heq2, heq1]
  rfl

theorem runs_ptpSyncSend {s : State} {l : LaneId} (hon : s.chip.ptpOn l = true)
    (hdue : s.chip.ptpDue (s.chip.trunk.lanes[l]).syncAt s.chip.syncSpan = true) :
    Runs (.ptpSyncSend l) s (fun c =>
    (c.trunk.lanes[l]).syncSeq = (s.chip.trunk.lanes[l]).syncSeq + 1 ∧ c.trunk.ptpPaused = false ∧
    (c.trunk.lanes[l]).syncAt = some s.chip.clk.now ∧
      (c.trunk.lanes[l]).hist.head?.map (fun h => (h.2.dst, h.2.etherType, h.2.body)) =
      some (ptpMac, 0x88F7#16, .bytes (ptpMsg pkFOLLOW_UP s.chip.ptpDomain l 0
        (ptpRest (s.chip.sei.time + BitVec.ofNat 64 (s.chip.get (.PTP_LAT l) F.PTP_LAT_TX_ADJ))) (s.chip.trunk.lanes[l]).syncSeq s.chip.syncLog
        (ptpStamp (s.chip.sei.time + BitVec.ofNat 64 (s.chip.get (.PTP_LAT l) F.PTP_LAT_TX_ADJ)))))) := by
  have hexec : exec (.ptpSyncSend l) s = execPtpSyncSend l s := rfl
  refine runs_of_run_eq hexec
    (d := (syncSent s.chip l).updLane l (fun x => { x with syncSeq := x.syncSeq + 1, syncAt := some s.chip.clk.now }))
    (by simp only [hon, hdue]; rfl) ?_
  rw [updLane_same]
  refine ⟨?_, rfl, rfl, sendPtp_hist_head _ _ _⟩
  show ((syncSent s.chip l).trunk.lanes[l]).syncSeq + 1 = _
  rw [syncSent_syncSeq]

theorem runs_ptpAnnounceSend {s : State} {l : LaneId} (hon : s.chip.ptpOn l = true) (hp : s.chip.trunk.ptpPaused = false)
    (hdue : s.chip.ptpDue (s.chip.trunk.lanes[l]).annAt (sec 1 * 2 ^ s.chip.get .PTP_CTL F.PTP_CTL_ANN_LOG) = true) :
    Runs (.ptpAnnounceSend l) s (fun c =>
    (c.trunk.lanes[l]).annSeq = (s.chip.trunk.lanes[l]).annSeq + 1 ∧
    (c.trunk.lanes[l]).annAt = some s.chip.clk.now ∧ (c.trunk.lanes[l]).hist.head?.map (fun h => h.2.body) =
      some (.bytes (ptpMsg pkANNOUNCE s.chip.ptpDomain l s.chip.announceFlags 0 (s.chip.trunk.lanes[l]).annSeq
        (s.chip.get .PTP_CTL F.PTP_CTL_ANN_LOG) (announceBody (s.chip.get .PTP_CTL F.PTP_CTL_PRIORITY1))))) := by
  have hexec : exec (.ptpAnnounceSend l) s = execPtpAnnounceSend l s := rfl
  generalize hm : ptpMsg pkANNOUNCE s.chip.ptpDomain l s.chip.announceFlags 0 (s.chip.trunk.lanes[l]).annSeq
    (s.chip.get .PTP_CTL F.PTP_CTL_ANN_LOG) (announceBody (s.chip.get .PTP_CTL F.PTP_CTL_PRIORITY1)) = m
  refine runs_of_run_eq hexec
    (d := (s.chip.sendPtp l m).updLane l (fun x => { x with annSeq := x.annSeq + 1, annAt := some s.chip.clk.now }))
    (by simp only [hon, hp, hdue, hm]; rfl) ?_
  obtain ⟨h, heq⟩ := sendPtp_lane s.chip l m
  rw [updLane_same]
  refine ⟨?_, rfl, sendPtp_body _ _ _⟩
  show ((s.chip.sendPtp l m).trunk.lanes[l]).annSeq + 1 = _
  rw [heq]

/-- The lane's count of DELAY_REQ in the running second (R124). -/
def delayCounted (c : Chip) (l : LaneId) : Chip :=
  if (c.trunk.lanes[l]).delayFrom + sec 1 ≤ c.clk.now then
    c.updLane l (fun x => { x with delayFrom := c.clk.now, delayReqs := 0 })
  else c

theorem delayCounted_eq (c : Chip) (l : LaneId) : ∃ f, delayCounted c l = c.updTrunk f := by
  unfold delayCounted
  split
  · exact ⟨fun _ => { c.trunk with lanes := c.trunk.lanes.set l { c.trunk.lanes[l] with delayFrom := c.clk.now, delayReqs := 0 } }, rfl⟩
  · exact ⟨id, rfl⟩

theorem delayCounted_room {c : Chip} {l : LaneId}
    (h : (c.trunk.lanes[l]).delayReqs < 1024 ∨ (c.trunk.lanes[l]).delayFrom + sec 1 ≤ c.clk.now) :
    ((delayCounted c l).trunk.lanes[l]).delayReqs < 1024 := by
  unfold delayCounted
  split
  · rw [updLane_same]
    exact Nat.zero_lt_succ _
  · next hno => exact h.resolve_right hno

/-- The moment a DELAY_REQ arrived on a lane (R124). -/
def rxTime (c : Chip) (l : LaneId) : BitVec 64 := c.sei.time - BitVec.ofNat 64 (c.get (.PTP_LAT l) F.PTP_LAT_RX_ADJ)

/-- The message that answers a DELAY_REQ received at `t` (R124). -/
def delayResp (domain : Nat) (t : BitVec 64) (l : LaneId) (req : DelayReq) (seq : BitVec 16) : List Byte :=
  ptpMsg pkDELAY_RESP domain l 0 (req.corr.toNat + ptpRest t) seq Config.delayRespLog.toNat (ptpStamp t ++ beBytes 10 req.port.toNat)

/-- What a counted DELAY_REQ does: it is answered while the second has room, and else dropped. -/
def delayAnswered (c : Chip) (l : LaneId) (req : DelayReq) (seq : BitVec 16) : Chip :=
  if 1024 ≤ (c.trunk.lanes[l]).delayReqs then c.updLane l (fun x => { x with delayDropped := x.delayDropped + 1 })
  else
    let d := c.updLane l (fun x => { x with delayReqs := x.delayReqs + 1 })
    d.sendPtp l (delayResp d.ptpDomain (rxTime c l) l req seq)

theorem runs_ptpDelayReqReceive {s : State} {l : LaneId} {req : DelayReq} {seq : BitVec 16} {dom : Byte}
    (hon : s.chip.ptpOn l = true) (hp : s.chip.trunk.ptpPaused = false) (hdom : dom.toNat = s.chip.ptpDomain)
    (hroom : (s.chip.trunk.lanes[l]).delayReqs < 1024 ∨ (s.chip.trunk.lanes[l]).delayFrom + sec 1 ≤ s.chip.clk.now) :
    Runs (.ptpDelayReqReceive l req seq dom) s (fun c => (c.trunk.lanes[l]).hist.head?.map (fun h => h.2.body) =
      some (.bytes (delayResp s.chip.ptpDomain (rxTime s.chip l) l req seq))) := by
  have hexec : exec (.ptpDelayReqReceive l req seq dom) s = execPtpDelayReqReceive l req seq dom s := rfl
  have hno : ¬(!s.chip.ptpOn l || s.chip.trunk.ptpPaused || dom.toNat != s.chip.ptpDomain) = true := by simp [hon, hp, hdom]
  obtain ⟨f, hf⟩ := delayCounted_eq s.chip l
  refine runs_of_run_eq hexec (d := delayAnswered (delayCounted s.chip l) l req seq)
    (by rw [delayAnswered, delayCounted]; exact if_neg hno) ?_
  rw [delayAnswered, if_neg (Nat.not_le.2 (delayCounted_room hroom)), sendPtp_body, hf]
  rfl

/-! ### Events at a subscribed door -/

/-- A door awake that wants an event and has room takes it at the end of its ring (R137). -/
theorem post_evts {c : Chip} {e : Event} {d : Door} (ha : c.awake = true) (hpath : (c.doors[d]).path.isSome = true)
    (hsub : (c.doors[d]).sub.getLsbD (e.code / 256) = true) (hlen : (c.doors[d]).evts.length < 4095) :
    ∃ f q, ((c.post e).doors[d]).evts = (c.doors[d]).evts ++ [{ e with seq := q, flags := f }] := by
  have hasleep : c.asleep = false := by
    unfold Chip.awake at ha
    unfold Chip.asleep
    revert ha
    cases c.pwr.st <;> decide
  have hn : (c.doors[d]).path.isNone = false := by rwa [Option.isNone_eq_false_iff]
  have htake : (c.post e).doors[d] = (c.doors[d]).put e := by
    have hw : (c.doors[d]).wants e = true := by rw [DoorSt.wants, hpath, hsub]; rfl
    simp only [Fin.getElem_fin] at hw ⊢
    simp only [Chip.post, Chip.postR, Vector.getElem_mapFinIdx, Chip.routed, hw, hasleep, DoorSt.take, if_true,
      Bool.false_eq_true, if_false]
  rw [htake, DoorSt.put, if_neg (by rw [hn]; exact Bool.false_ne_true), if_neg (Nat.not_le.2 hlen)]
  exact ⟨_, _, rfl⟩

theorem runs_ptpAnnounceReceive {s : State} {l : LaneId} {id : BitVec 64} (hup : s.chip.up l = true) (ha : s.chip.awake = true)
    (hid : id ≠ clockIdentity) (hr : s.chip.rates.find? (fun w => w.code == 0x014B && w.src == 0) = none) :
    Runs (.ptpAnnounceReceive l id) s (fun c => ∀ d : Door, (s.chip.doors[d]).path.isSome = true →
      (s.chip.doors[d]).sub.getLsbD 1 = true → (s.chip.doors[d]).evts.length < 4095 →
      ∃ e, (c.doors[d]).evts = (s.chip.doors[d]).evts ++ [e] ∧ e.code = 0x014B ∧ e.payload = [l.val, id.toNat]) := by
  have hexec : exec (.ptpAnnounceReceive l id) s = execPtpAnnounceReceive l id s := rfl
  refine runs_of_run_eq hexec (d := s.chip.postRate (sec 1) 0 (s.chip.evLane 0x014B l [l.val, id.toNat]))
    (if_neg (by simp [hup, ha, hid])) fun d hpath hsub hlen => ?_
  have hrates : s.chip.rates.find? (fun w => w.code == (s.chip.evLane 0x014B l [l.val, id.toNat]).code && w.src == 0) = none := hr
  obtain ⟨f, q, hev⟩ := post_evts (e := s.chip.evLane 0x014B l [l.val, id.toNat]) ha hpath
    (by rw [show (s.chip.evLane 0x014B l [l.val, id.toNat]).code = 0x014B from rfl]; exact hsub) hlen
  refine ⟨{ s.chip.evLane 0x014B l [l.val, id.toNat] with seq := q, flags := f }, ?_, rfl, rfl⟩
  rw [← hev, Chip.postRate, Chip.postRateR]
  simp only [hrates]
  rfl

/-! ### ECHO -/

/-- What one step establishes and the others keep holds after a walk through a list with that step. -/
theorem each_of_mem {α : Type} {g : Chip → α → Chip} {P : Chip → Prop} {x : α} (hset : ∀ c, P (g c x)) (hkeep : ∀ c y, P c → P (g c y)) :
    ∀ (l : List α) (c : Chip), x ∈ l → P (c.each l g) := by
  have hkept : ∀ (l : List α) (c : Chip), P c → P (c.each l g) := by
    intro l
    induction l with
    | nil => exact fun c h => h
    | cons y l ih => exact fun c h => ih _ (hkeep c y h)
  intro l
  induction l with
  | nil => exact fun c h => absurd h (by simp)
  | cons y l ih =>
    intro c h
    rcases List.mem_cons.1 h with rfl | ht
    · exact hkept l _ (hset c)
    · exact ih _ ht

/-- The lane's last frame is a LANE frame. -/
def LaneSent (l : LaneId) (c : Chip) : Prop := (c.trunk.lanes[l]).hist.head?.map (fun h => h.2.typ) = some ttLANE

theorem sendLane_sent (c : Chip) (l : LaneId) (sub lane status : Nat) (q : BitVec 32) (tick : BitVec 64) :
    LaneSent l (c.sendLane l sub lane status q tick).2 := by
  unfold Chip.sendLane LaneSent
  rw [emit_hist_head]
  rfl

theorem sendLane_keeps {c : Chip} {l : LaneId} (k : LaneId) (sub lane status : Nat) (q : BitVec 32) (tick : BitVec 64)
    (h : LaneSent l c) : LaneSent l (c.sendLane k sub lane status q tick).2 := by
  by_cases hk : l = k
  · exact hk ▸ sendLane_sent _ _ _ _ _ _ _
  · obtain ⟨tx, htx⟩ := takeSeq_trunk c.trunk 4 k.val
    unfold Chip.sendLane LaneSent
    rw [emit_lane_other _ _ hk]
    show Option.map _ ((c.trunk.takeSeq 4 k.val).2.lanes[l]).hist.head? = _
    rw [htx]
    exact h

theorem runs_echoSend {s : State} (ha : s.chip.awake = true) (hr : s.chip.sei.running = true)
    (ht : s.chip.sei.time.toNat % 1600000 = 0) :
    Runs .echoSend s (fun c => ∀ l : LaneId, s.chip.up l = true →
      (c.trunk.lanes[l]).hist.head?.map (fun h => h.2.typ) = some ttLANE) := by
  have hexec : exec .echoSend s = execEchoSend s := rfl
  refine runs_of_run_eq hexec (d := s.chip.each ((List.finRange 2).filter (fun l => s.chip.up l))
      (fun c l => (c.sendLane l lfECHO l.val 0 0#32 c.sei.time).2)) (if_neg (by simp [ha, hr, ht])) fun l hup => ?_
  exact each_of_mem (P := LaneSent l) (fun c => sendLane_sent c l _ _ _ _ _) (fun c y h => sendLane_keeps y _ _ _ _ _ h) _ _
    (by simpa using hup)

/-- Settles O6: each PTP message heads the lane's transmit history, and each lane that is up sends ECHO. -/
theorem trunkPtp : Obligations.TrunkPtp := by
  unfold Obligations.TrunkPtp
  intro s
  exact ⟨fun l hon hdue => runs_ptpSyncSend hon hdue, fun l hon hp hdue => runs_ptpAnnounceSend hon hp hdue,
    fun l req seq dom hon hp hd hroom => runs_ptpDelayReqReceive hon hp hd hroom,
    fun l id hup ha hid hr => runs_ptpAnnounceReceive hup ha hid hr, fun ha hr ht => runs_echoSend ha hr ht⟩

end Sys2Proof.Proofs

namespace Sys2Proof.Proofs

open Sys2Proof.Machine Sys2Proof.Laws

/-! SUPPORT. Refutations: a state, a command, and what the model answers. The states are built from a part that has booted; a clause
fails where the chip that the command leaves, computed by the model, fails it. -/

/-- The chip that a command leaves, where it answers a next state. -/
def chipAfter (i : Instr) (s : State) : Option Chip :=
  match exec i s with
  | .next t => some t.chip
  | _ => none

theorem chipAfter_of_next {i : Instr} {s t : State} (h : exec i s = .next t) : chipAfter i s = some t.chip := by
  simp [chipAfter, h]

/-- What a command leaves by a clause is what the model computes. -/
theorem chipAfter_of_runs {i : Instr} {s : State} {p : Chip → Prop} (h : Runs i s p) : ∃ c, chipAfter i s = some c ∧ p c := by
  obtain ⟨t, ht, -, hp⟩ := h
  exact ⟨t.chip, chipAfter_of_next ht, hp⟩

/-- A command does not run so where every chip that it leaves fails a test that the clause asks for. -/
theorem not_runs {i : Instr} {s : State} {p : Chip → Prop} (f : Chip → Bool) (hf : (chipAfter i s).all (fun c => !f c) = true)
    (hp : ∀ c, p c → f c = true) : ¬ Runs i s p := by
  intro h
  obtain ⟨c, hc, hpc⟩ := chipAfter_of_runs h
  simp [hc, hp c hpc] at hf

/-- The part in Run, booted, on its PLLs, TIME running. -/
def bootedChip : Chip :=
  let c : Chip := { State.reset.chip with
    clk := { now := 10000000000000, porst := true, boot := .live, hsOnFrc := false }
    fw := { hs := .run }
    sei := { time := 1600000000#64, running := true } }
  let c := c.setF .CLK_CTL F.CLK_CTL_PLL_EN 0x1FF
  let c := c.setF .CLK_CTL F.CLK_CTL_SYS_SEL 1
  let c := c.setF .CLK_STATUS F.CLK_STATUS_LOCK 0x1FF
  c.setF .CLK_STATUS F.CLK_STATUS_XTAL_OK 1

/-- A pending request of a door's ring, with its ordinal and its opcode. -/
def pendingEntry (ord : Nat) (op : BitVec 16) (kind index : Nat) : ReqEntry :=
  { req := { opcode := op, tag := 7#16, doorEpoch := 0#16, tgtKind := kind, flags := 0#8, tgtIndex := index, tgtEpoch := 0#16,
             args := [] }
    path := .trunk, num := 1, ord := ord, bump := false, st := .pending }

/-- The booted part whose door 0, claimed over the trunk, holds these entries. -/
def askedChip (es : List ReqEntry) : Chip :=
  bootedChip.updDoor 0 (fun d => { d with path := some .trunk, sub := 0xFFFF#16, reqs := es })

/-- A request that may start, from conditions that the kernel can decide. -/
theorem startable_of {c : Chip} {q : ReqId} {op : BitVec 16} {k : List Nat} {e : ReqEntry}
    (h : c.ready q op = some e ∧ c.takeVerdict q e = none ∧ badTarget e.req = false ∧ k.contains e.req.tgtKind = true ∧
      (c.doors[q.door]).releasing = none) : Startable c q op k e := by
  obtain ⟨hready, hepochs, htarget, hkind, hheld⟩ := h
  exact ⟨hready, hepochs, htarget, hkind, hheld⟩

/-- Canonical forms, from conditions that the kernel can decide. -/
theorem canon_of {c : Chip} (h : regsOk c.regs = true ∧ flashOk c.fw.flash = true ∧ blocksOk c.bead.blocks = true) : Canon c := by
  obtain ⟨hregs, hflash, hblocks⟩ := h
  exact ⟨hregs, hflash, hblocks⟩

/-! ### Releases (06 R131) -/

/-- Door 0 holds a DOOR_RELEASE that may start and an entry that executes, named by a takeover left from an earlier release. -/
def staleTakeover : Chip :=
  (askedChip [pendingEntry 5 0x0103#16 0 0, { pendingEntry 9 0x0104#16 0 0 with st := .executing }]).updDoor 0
    (fun d => { d with takeover := some { req := ⟨0, 9⟩, owner := 0#64, sub := 0#16 } })

/-- Refutes O10: its third clause counts the executing entries without the one that a takeover names, and the release sets the
takeover anew. With `staleTakeover` the count is 0, and the release waits for the entry: the door keeps its path. -/
theorem not_doorRequests : ¬ Obligations.DoorRequests := by
  unfold Obligations.DoorRequests
  intro h
  obtain ⟨-, -, hrelease, -⟩ := h { chip := staleTakeover }
  refine not_runs (fun c => (c.doors[(0 : Door)]).path.isNone) ?_ ?_
    (hrelease ⟨0, 5⟩ (pendingEntry 5 0x0103#16 0 0) (startable_of ?_) ?_ ?_)
  · decide +kernel
  · rintro c ⟨hpath, -⟩
    exact Option.isNone_iff_eq_none.2 hpath
  all_goals decide +kernel

/-- `staleTakeover` with a lease that has run out (R130). -/
def staleLease : Chip := staleTakeover.setF .MBX_CTL F.MBX_CTL_LEASE 1

/-- Refutes O9: as for DOOR_RELEASE, its first clause counts the executing entries before the release sets the takeover anew. With
`staleLease` the lease that ends leaves the door its path. -/
theorem not_doorUpkeep : ¬ Obligations.DoorUpkeep := by
  unfold Obligations.DoorUpkeep
  intro h
  obtain ⟨hlease, -⟩ := h { chip := staleLease }
  refine not_runs (fun c => (c.doors[(0 : Door)]).path.isNone) ?_ ?_ (hlease 0 ?_ ?_)
  · decide +kernel
  · rintro c ⟨hpath, -⟩
    exact Option.isNone_iff_eq_none.2 hpath
  all_goals decide +kernel

end Sys2Proof.Proofs

namespace Sys2Proof.Proofs

open Sys2Proof.Machine Sys2Proof.Laws

/-! Integrity (17 R343 to R347, R351, R355, R356). -/

/-! ### Errors of the Reservoir -/

theorem runs_reservoirCe {s : State} {w : ResWhere} (h : Canon s.chip) (hg : s.chip.pond.grants = []) (hb : s.chip.clk.boot ≠ .held) :
    Runs (.reservoirEccError w false) s (fun c =>
      c.get .INT_RES F.INT_RES_CE = min 65535 (s.chip.get .INT_RES F.INT_RES_CE + 1) ∧ ∀ r, r ≠ .INT_RES → c.rd r = s.chip.rd r) := by
  have hexec : exec (.reservoirEccError w false) s = execReservoirEccError w false s := rfl
  refine runs_of_runS_eq hexec (d := s.chip.incSat .INT_RES F.INT_RES_CE) ?_ hg ⟨?_, fun r hr => rd_incSat_other _ _ _ hr⟩
  · rw [if_neg hb]
    rfl
  · exact (get_incSat_same _ h _ _ _ (by decide)).trans (Nat.min_comm _ _)

/-- The chip when an uncorrectable error of the Reservoir is counted (R347). -/
def resUe (c : Chip) : Chip := (c.incSat .INT_RES F.INT_RES_UE).bump .INT_RES

theorem canon_resUe {c : Chip} (h : Canon c) : Canon (resUe c) := canon_bump (canon_incSat h _ _ _) _

theorem get_resUe {c : Chip} (h : Canon c) :
    (resUe c).get .INT_RES F.INT_RES_UE = min 255 (c.get .INT_RES F.INT_RES_UE + 1) :=
  (get_bump _ (canon_incSat h _ _ _) _ _ (by decide)).trans ((get_incSat_same _ h _ _ _ (by decide)).trans (Nat.min_comm _ _))

theorem skipItem_kept (c : Chip) (r : QueueRef) : Kept (keeping [.pond] [.INT_RES]) c (c.skipItem r) := by
  have hf : Fr (keeping [.pond] [.INT_RES]) c (c.skipItem r) := by
    apply Chip.skipItem_fr (Fr.refl _ c) <;> simp
  exact hf.kept

/-- An event changes none of a door's queues but its events. -/
theorem post_cullet (c : Chip) (e : Event) (d : Door) : ((c.post e).doors[d]).cullet = (c.doors[d]).cullet := by
  simp only [Chip.post, Chip.postR, Fin.getElem_fin, Vector.getElem_mapFinIdx]
  split
  · unfold DoorSt.take DoorSt.put
    repeat' split
    all_goals rfl
  · rfl

theorem postFault_cullet (c : Chip) (f : FaultSrc) (e : Event) (d : Door) :
    ((c.postFault f e).doors[d]).cullet = (c.doors[d]).cullet := by
  have hd : (c.fault f e).doors = c.doors :=
    (Chip.fault_fr (f := keeping [.doors, .reqs] []) (Fr.refl _ c) (by simp) (by simp) (by simp)).kept.doors (by simp)
  rw [Chip.postFault, post_cullet, hd]

theorem runs_reservoirBody {s : State} {q : Nat} {r : QueueRef} (h : Canon s.chip) (hg : s.chip.pond.grants = [])
    (hb : s.chip.clk.boot ≠ .held) (hq : queueOf q = some r) :
    Runs (.reservoirEccError (.body q) true) s (fun c =>
      c.get .INT_RES F.INT_RES_UE = min 255 (s.chip.get .INT_RES F.INT_RES_UE + 1) ∧
      (r = .device → c.cullet = s.chip.cullet.drop 1) ∧ (r = .spill → c.trunk.spill = s.chip.trunk.spill.drop 1) ∧
      (∀ d, r = .cullet d → (c.doors[d]).cullet = (s.chip.doors[d]).cullet.drop 1)) := by
  have hexec : exec (.reservoirEccError (.body q) true) s = execReservoirEccError (.body q) true s := rfl
  have hskip := skipItem_kept (resUe s.chip) r
  have hpost (c : Chip) (e : Event) : Kept (keeping [.pond, .cullet, .trunk] [.INT_RES]) c (c.post e) := (fr_post c e (by simp)).kept
  refine runs_of_runS_eq hexec (d := ((resUe s.chip).skipItem r).post ((resUe s.chip).ev 0x0185 0 0 [q, 0])) ?_ ?_ ⟨?_, ?_, ?_, ?_⟩
  · rw [if_neg hb]
    simp only [hq]
    rfl
  · rw [(hpost _ _).pond (by simp), hskip.pond (by simp)]
    exact hg
  · rw [get_of_rd ((hpost _ _).regs .INT_RES (by simp)), get_of_rd (hskip.regs .INT_RES (by simp))]
    exact get_resUe h
  · rintro rfl
    exact (hpost _ _).cullet (by simp)
  · rintro rfl
    rw [(hpost _ _).trunk (by simp)]
    rfl
  · rintro d rfl
    rw [post_cullet]
    show (((resUe s.chip).updDoor d _).doors[d]).cullet = _
    rw [updDoor_same]
    rfl

theorem runs_microcodeReload {s : State} (hg : s.chip.pond.grants = []) (hb : s.chip.clk.boot ≠ .held) :
    Runs (.reservoirEccError (.microcode true) true) s (fun c => c.fw.reloadActive = true) := by
  have hexec : exec (.reservoirEccError (.microcode true) true) s = execReservoirEccError (.microcode true) true s := rfl
  refine runs_of_runS_eq hexec (d := (resUe s.chip).updFw (fun f => { f with reloadActive := true })) ?_ hg rfl
  rw [if_neg hb]
  rfl

/-! ### Queue pointers -/

/-- The chip when the queue's number and the count are noted, the queue emptied and the fault posted (R347). -/
def queueFaulted (c : Chip) (q : Nat) (r : QueueRef) : Chip :=
  let n := c.queueLen r
  let w := fset (fset (c.rd .INT_QPTR) F.INT_QPTR_COUNT (sat 8 (c.get .INT_QPTR F.INT_QPTR_COUNT + 1))) F.INT_QPTR_QUEUE q
  let c := (c.wr .INT_QPTR w).bump .INT_QPTR
  (c.queueEmpty r).postFault .queuePtr (c.ev 0x0180 0 0 [q, n])

theorem queueReset_eq (c : Chip) {q : Nat} {r : QueueRef} (hq : queueOf q = some r) :
    c.queueReset q = (queueFaulted c q r).queueLadder q r := by
  unfold Chip.queueReset
  rw [hq]
  rfl

theorem queueOf_lt {q : Nat} {r : QueueRef} (h : queueOf q = some r) : q < 65536 := by
  by_contra hno
  have hnone : queueOf q = none := by
    unfold queueOf
    rw [if_neg (by omega), if_neg (by omega), if_neg (by omega), if_neg (by omega)]
  rw [hnone] at h
  cases h

theorem queueEmpty_kept (c : Chip) (r : QueueRef) : Kept (keeping [.pond, .ladders] [.INT_RES, .INT_QPTR]) c (c.queueEmpty r) := by
  have hf : Fr (keeping [.pond, .ladders] [.INT_RES, .INT_QPTR]) c (c.queueEmpty r) := by
    apply Chip.queueEmpty_fr (Fr.refl _ c) <;> simp
  exact hf.kept

theorem postFault_kept (c : Chip) (f : FaultSrc) (e : Event) :
    Kept (keeping [.pond, .ladders, .engines, .trunk, .cullet, .pwr, .fw] [.INT_RES, .INT_QPTR]) c (c.postFault f e) :=
  (Chip.postFault_fr (Fr.refl _ c) (by simp) (by simp) (by simp) (by simp)).kept

theorem queueFaulted_rd (c : Chip) (q : Nat) (r : QueueRef) :
    (queueFaulted c q r).rd .INT_RES = c.rd .INT_RES ∧
    ∃ w, w = fset (fset (c.rd .INT_QPTR) F.INT_QPTR_COUNT (sat 8 (c.get .INT_QPTR F.INT_QPTR_COUNT + 1))) F.INT_QPTR_QUEUE q ∧
      (queueFaulted c q r).rd .INT_QPTR = ((c.wr .INT_QPTR w).bump .INT_QPTR).rd .INT_QPTR := by
  refine ⟨?_, _, rfl, ?_⟩
  · exact ((postFault_kept _ _ _).regs .INT_RES (by simp)).trans (((queueEmpty_kept _ _).regs .INT_RES (by simp)).trans
      ((rd_bump_other _ (by simp)).trans (rd_wr_other _ _ (by simp))))
  · exact ((postFault_kept _ _ _).regs .INT_QPTR (by simp)).trans ((queueEmpty_kept _ _).regs .INT_QPTR (by simp))

theorem queueFaulted_ladders (c : Chip) (q : Nat) (r : QueueRef) : (queueFaulted c q r).ladders = c.ladders :=
  ((postFault_kept _ _ _).ladders (by simp)).trans ((queueEmpty_kept _ _).ladders (by simp))

theorem queueFaulted_grants (c : Chip) (q : Nat) (r : QueueRef) : (queueFaulted c q r).pond = c.pond :=
  ((postFault_kept _ _ _).pond (by simp)).trans ((queueEmpty_kept _ _).pond (by simp))

/-- The queue's number and the count of such faults. -/
theorem queueFaulted_qptr {c : Chip} (h : Canon c) {q : Nat} (r : QueueRef) (hq : q < 65536) :
    (queueFaulted c q r).get .INT_QPTR F.INT_QPTR_QUEUE = q ∧
    (queueFaulted c q r).get .INT_QPTR F.INT_QPTR_COUNT = min 255 (c.get .INT_QPTR F.INT_QPTR_COUNT + 1) := by
  obtain ⟨-, w, hw, hrd⟩ := queueFaulted_rd c q r
  have hpos : sat 8 (c.get .INT_QPTR F.INT_QPTR_COUNT + 1) < 2 ^ 8 := by
    unfold sat
    omega
  rw [get_of_rd hrd, get_of_rd hrd, get_wr_bump _ h _ _ _ (by decide), get_wr_bump _ h _ _ _ (by decide), hw]
  rw [fget_fset_same _ _ _ (by decide), fget_fset_other _ _ _ _ (by decide) (by decide) (by decide), fget_fset_same _ _ _ (by decide)]
  exact ⟨Nat.mod_eq_of_lt hq, (Nat.mod_eq_of_lt hpos).trans (Nat.min_comm _ _)⟩

theorem ladder?_none_iff (c : Chip) (l i : Nat) :
    c.ladder? l i = none ↔ ∀ w ∈ c.ladders, (w.ladder == l && w.index == i && decide (c.clk.now < w.ends)) = false := by
  rw [Chip.ladder?, List.find?_eq_none]
  simp only [Bool.not_eq_true]

/-- A ladder just opened is under way at its rung. -/
theorem ladder?_openLadder (c : Chip) (l i rung : Nat) {span : Nat} (code : Nat) (hs : 0 < span) :
    (c.openLadder l i rung span code).ladder? l i = some ⟨l, i, rung, c.clk.now + span, code⟩ := by
  have hold : (c.ladders.filter (fun w => !(w.ladder == l && w.index == i))).find?
      (fun w => w.ladder == l && w.index == i && decide (c.clk.now < w.ends)) = none := by
    rw [List.find?_eq_none]
    intro w hw
    have hne := (List.mem_filter.1 hw).2
    cases hb : (w.ladder == l && w.index == i)
    · simp
    · rw [hb] at hne
      simp at hne
  show List.find? (fun w => w.ladder == l && w.index == i && decide (c.clk.now < w.ends))
    (c.ladders.filter (fun w => !(w.ladder == l && w.index == i)) ++ [⟨l, i, rung, c.clk.now + span, code⟩]) = _
  rw [List.find?_append, hold]
  simp [hs]

/-- The first fault of a queue, with fewer than two others under way, opens its ladder (R347). -/
theorem queueLadder_first {c : Chip} {q : Nat} {r : QueueRef} (hn : c.ladder? 7 q = none)
    (hfew : (c.ladders.filter (fun w => w.ladder == 7)).length < 2) :
    c.queueLadder q r = c.openLadder 7 q 1 (ms 10) 0x0180 := by
  have hcount : ((c.openLadder 7 q 1 (ms 10) 0x0180).ladders.filter (fun w => w.ladder == 7 && decide (c.clk.now < w.ends))).length < 3 := by
    have hsub : ∀ l : List LadderWin, ((l.filter (fun w => !(w.ladder == 7 && w.index == q))).filter
        (fun w => w.ladder == 7 && decide (c.clk.now < w.ends))).length ≤ (l.filter (fun w => w.ladder == 7)).length := by
      intro l
      rw [List.filter_filter]
      refine (List.monotone_filter_right l fun w hw => ?_).length_le
      simp only [Bool.and_eq_true] at hw
      exact hw.1.1
    simp only [Chip.openLadder, List.filter_append, List.length_append]
    have h1 := hsub c.ladders
    have h2 : (([⟨7, q, 1, c.clk.now + ms 10, 0x0180⟩] : List LadderWin).filter
        (fun w => w.ladder == 7 && decide (c.clk.now < w.ends))).length ≤ 1 := List.length_filter_le _ _
    omega
  unfold Chip.queueLadder
  rw [hn]
  exact (if_neg (Nat.not_le.2 hcount)).trans (if_neg (by simp))

theorem lostReport_clkCore (c : Chip) (d : Door) : clkCore (c.lostReport d).clk = clkCore c.clk := by
  unfold Chip.lostReport
  dsimp only
  split
  · rfl
  split
  · rfl
  · rw [fault_clkCore]
    rfl

/-- Emptying a queue changes the clocks' state by the levels of the balls alone. -/
theorem queueEmpty_clkCore (c : Chip) (r : QueueRef) : clkCore (c.queueEmpty r).clk = clkCore c.clk := by
  have hreq : ∀ d, Kept (keeping [.clk] []) c (c.loseRequests d (c.pendingReqs d)) := fun d => by
    have hf : Fr (keeping [.clk] []) c (c.loseRequests d (c.pendingReqs d)) := by
      apply Chip.loseRequests_fr (Fr.refl _ c) <;> simp
    exact hf.kept
  have hev : ∀ d es, clkCore (c.loseEvents d es []).clk = clkCore c.clk := fun d es => by
    unfold Chip.loseEvents
    split
    · exact lostReport_clkCore _ _
    · rfl
  cases r with
  | request d => exact congrArg clkCore ((hreq d).clk (by simp))
  | event d => exact hev d _
  | stream i => rfl
  | spill => rfl
  | response d => rfl
  | cullet d => rfl
  | device => rfl

/-- The chip after the first fault of a queue. -/
def queueNoted (c : Chip) (q : Nat) (r : QueueRef) : Chip := (queueFaulted c q r).openLadder 7 q 1 (ms 10) 0x0180

theorem queueReset_first {c : Chip} {q : Nat} {r : QueueRef} (hq : queueOf q = some r) (hn : c.ladder? 7 q = none)
    (hfew : (c.ladders.filter (fun w => w.ladder == 7)).length < 2) : c.queueReset q = queueNoted c q r := by
  have hlad := queueFaulted_ladders c q r
  have hcore : clkCore (queueFaulted c q r).clk = clkCore c.clk := (postFault_clkCore _ _ _).trans (queueEmpty_clkCore _ r)
  have hnow : (queueFaulted c q r).clk.now = c.clk.now := (congrArg Clk.now hcore :)
  rw [queueReset_eq c hq, queueLadder_first _ (by rwa [hlad])]
  · rfl
  · rw [ladder?_none_iff] at hn ⊢
    rwa [hlad, hnow]

theorem runs_reservoirHeader {s : State} {q : Nat} {r : QueueRef} (h : Canon s.chip) (hg : s.chip.pond.grants = [])
    (hb : s.chip.clk.boot ≠ .held) (hq : queueOf q = some r) (hn : s.chip.ladder? 7 q = none)
    (hfew : (s.chip.ladders.filter (fun w => w.ladder == 7)).length < 2) :
    Runs (.reservoirEccError (.header q) true) s (fun c =>
      c.get .INT_RES F.INT_RES_UE = min 255 (s.chip.get .INT_RES F.INT_RES_UE + 1) ∧ c.get .INT_QPTR F.INT_QPTR_QUEUE = q) := by
  have hexec : exec (.reservoirEccError (.header q) true) s = execReservoirEccError (.header q) true s := rfl
  have hreset : (resUe s.chip).queueReset q = queueNoted (resUe s.chip) q r := queueReset_first hq hn hfew
  refine runs_of_runS_eq hexec (d := queueNoted (resUe s.chip) q r) ?_ ?_ ⟨?_, ?_⟩
  · rw [if_neg hb]
    exact hreset
  · exact (congrArg Pond.grants (queueFaulted_grants _ q r)).trans hg
  · exact (get_of_rd (queueFaulted_rd (resUe s.chip) q r).1 _).trans (get_resUe h)
  · exact (queueFaulted_qptr (canon_resUe h) r (queueOf_lt hq)).1

theorem runs_queuePtrMismatch {s : State} {q : Nat} {r : QueueRef} (h : Canon s.chip) (hg : s.chip.pond.grants = [])
    (hb : s.chip.clk.boot ≠ .held) (hq : queueOf q = some r) (hn : s.chip.ladder? 7 q = none)
    (hfew : (s.chip.ladders.filter (fun w => w.ladder == 7)).length < 2) :
    Runs (.queuePtrMismatch q) s (fun c => c.get .INT_QPTR F.INT_QPTR_QUEUE = q ∧
      c.get .INT_QPTR F.INT_QPTR_COUNT = min 255 (s.chip.get .INT_QPTR F.INT_QPTR_COUNT + 1) ∧
      (c.ladder? 7 q).map (·.rung) = some 1 ∧ (r = .device → c.cullet = []) ∧ (r = .spill → c.trunk.spill = []) ∧
      (∀ d, r = .cullet d → (c.doors[d]).cullet = [])) := by
  have hexec : exec (.queuePtrMismatch q) s = execQueuePtrMismatch q s := rfl
  obtain ⟨hqueue, hcount⟩ := queueFaulted_qptr h r (queueOf_lt hq)
  refine runs_of_runS_eq hexec (d := queueNoted s.chip q r) ?_ ?_ ⟨hqueue, hcount, ?_, ?_, ?_, ?_⟩
  · rw [if_neg hb]
    exact queueReset_first hq hn hfew
  · exact (congrArg Pond.grants (queueFaulted_grants _ q r)).trans hg
  · rw [queueNoted, ladder?_openLadder _ _ _ _ _ (by decide)]
    rfl
  · rintro rfl
    exact (postFault_kept _ _ _).cullet (by simp)
  · rintro rfl
    exact congrArg Trunk.spill ((postFault_kept _ _ _).trunk (by simp))
  · rintro d rfl
    refine (postFault_cullet _ _ _ d).trans ?_
    show ((Chip.updDoor _ d _).doors[d]).cullet = _
    rw [updDoor_same]

/-! ### Engines -/

theorem updEng_same (c : Chip) (e : Engine) (f : EngineSt → EngineSt) : (c.updEng e f).engines[e] = f c.engines[e] :=
  Vector.getElem_set_self e.isLt

theorem updEng_other (c : Chip) {e k : Engine} (f : EngineSt → EngineSt) (h : k ≠ e) : (c.updEng e f).engines[k] = c.engines[k] :=
  Vector.getElem_set_ne e.isLt k.isLt (fun he => h (Fin.ext he.symm))

/-- The engines keep what takes them out of service, their epochs and their roles, and the waiters granted stay. -/
structure EnginesKept (c d : Chip) : Prop where
  quar : ∀ e : Engine, (d.engines[e]).quar = (c.engines[e]).quar
  handing : ∀ e : Engine, (d.engines[e]).handing = (c.engines[e]).handing
  epoch : ∀ e : Engine, (d.engines[e]).epoch = (c.engines[e]).epoch
  grants : d.pond.grants = c.pond.grants

theorem EnginesKept.refl (c : Chip) : EnginesKept c c := ⟨fun _ => rfl, fun _ => rfl, fun _ => rfl, rfl⟩

theorem EnginesKept.trans {a b c : Chip} (h : EnginesKept a b) (k : EnginesKept b c) : EnginesKept a c :=
  ⟨fun e => (k.quar e).trans (h.quar e), fun e => (k.handing e).trans (h.handing e), fun e => (k.epoch e).trans (h.epoch e),
    k.grants.trans h.grants⟩

theorem EnginesKept.of_eq {c d : Chip} (he : d.engines = c.engines) (hp : d.pond = c.pond) : EnginesKept c d := by
  refine ⟨fun e => ?_, fun e => ?_, fun e => ?_, by rw [hp]⟩ <;> rw [he]

theorem EnginesKept.of_fr {c d : Chip} {rs : List Reg} (h : Fr (keeping [.engines, .pond] rs) c d) : EnginesKept c d :=
  .of_eq (h.kept.engines (by simp)) (h.kept.pond (by simp))

theorem EnginesKept.updEng (c : Chip) (e : Engine) {f : EngineSt → EngineSt} (hq : ∀ x, (f x).quar = x.quar)
    (hh : ∀ x, (f x).handing = x.handing) (he : ∀ x, (f x).epoch = x.epoch) : EnginesKept c (c.updEng e f) := by
  have hall : ∀ k : Engine, ((c.updEng e f).engines[k]).quar = (c.engines[k]).quar ∧
      ((c.updEng e f).engines[k]).handing = (c.engines[k]).handing ∧ ((c.updEng e f).engines[k]).epoch = (c.engines[k]).epoch := by
    intro k
    by_cases hk : k = e
    · subst hk
      rw [updEng_same]
      exact ⟨hq _, hh _, he _⟩
    · rw [updEng_other _ _ hk]
      exact ⟨rfl, rfl, rfl⟩
  exact ⟨fun k => (hall k).1, fun k => (hall k).2.1, fun k => (hall k).2.2, rfl⟩

theorem EnginesKept.each {α : Type} {g : Chip → α → Chip} (h : ∀ c x, EnginesKept c (g c x)) :
    ∀ (l : List α) (c : Chip), EnginesKept c (c.each l g) := by
  intro l
  induction l with
  | nil => exact fun c => .refl c
  | cons x l ih => exact fun c => (h c x).trans (ih _)

theorem touch_keeps (x : EngineSt) (w i : Nat) (b : Bool) :
    (x.touch w i b).quar = x.quar ∧ (x.touch w i b).handing = x.handing ∧ (x.touch w i b).epoch = x.epoch := by
  unfold EngineSt.touch
  dsimp only
  repeat' split
  all_goals exact ⟨rfl, rfl, rfl⟩

theorem touchPool_enginesKept (c : Chip) (n : Port) (i : Nat) (b : Bool) : EnginesKept c (c.touchPool n i b) := by
  unfold Chip.touchPool
  split
  · exact .refl c
  · exact .updEng c _ (fun x => (touch_keeps x _ _ _).1) (fun x => (touch_keeps x _ _ _).2.1) (fun x => (touch_keeps x _ _ _).2.2)

theorem basinEngines_flushed (c : Chip) (e : Engine) :
    EnginesKept c (c.updEng e (fun x => { x with cache := [], overruns := [] })) :=
  .updEng c e (fun _ => rfl) (fun _ => rfl) (fun _ => rfl)

theorem updSvcBody_enginesKept (c : Chip) (b : Bind) (f : SvcBody → SvcBody) : EnginesKept c (c.updSvcBody b f) :=
  EnginesKept.trans (b := c.setBody b.cid (.service (f (c.svcBody b))))
    ⟨fun _ => rfl, fun _ => rfl, fun _ => rfl, setBody_grants _ _ _⟩ (touchPool_enginesKept _ _ _ _)

theorem updBasin_enginesKept (c : Chip) (b : Basin) (f : BasinSt → BasinSt) : EnginesKept c (c.updBasin b f) := .of_eq rfl rfl
theorem updDrop_enginesKept (c : Chip) (n : Port) (f : Drop → Drop) : EnginesKept c (c.updDrop n f) := .of_eq rfl rfl
theorem updBelt_enginesKept (c : Chip) (b : Belt) (f : BeltSt → BeltSt) : EnginesKept c (c.updBelt b f) := .of_eq rfl rfl
theorem culletRecs_enginesKept (c : Chip) (k : Nat) (p : Rec → Bool) : EnginesKept c (c.culletRecs k p) := .of_eq rfl rfl
theorem dropPulses_enginesKept (c : Chip) (p : Crossing → Bool) : EnginesKept c (c.dropPulses p) := .of_eq rfl rfl
theorem updClk_enginesKept (c : Chip) (f : Clk → Clk) : EnginesKept c (c.updClk f) := .of_eq rfl rfl

theorem basinDown_enginesKept (c : Chip) (b : Basin) : EnginesKept c (c.basinDown b) := by
  unfold Chip.basinDown
  dsimp only
  refine EnginesKept.trans ?_ (updBasin_enginesKept _ _ _)
  refine EnginesKept.trans ?_ (.each (fun c n => updDrop_enginesKept c n _) _ _)
  refine EnginesKept.trans ?_ (updBelt_enginesKept _ _ _)
  refine EnginesKept.trans ?_ (culletRecs_enginesKept _ _ _)
  refine EnginesKept.trans ?_ (.each (fun c x => updSvcBody_enginesKept c x _) _ _)
  exact EnginesKept.trans (dropPulses_enginesKept _ _) (.each basinEngines_flushed _ _)

theorem answer_enginesKept (c : Chip) (q : ReqId) (r : Nat) (l : List Nat) (n : Nat) : EnginesKept c (c.answer q r l n) :=
  .of_fr (rs := []) (fr_answer c q r l n (by simp))

theorem startBasin_enginesKept (c : Chip) (b : Basin) (l : List Nat) : EnginesKept c (c.startScope (.basin b) none false l) := by
  unfold Chip.startScope
  dsimp only
  split
  · exact updClk_enginesKept _ _
  · exact EnginesKept.trans (updClk_enginesKept _ _) (basinDown_enginesKept _ _)

theorem holdBasin_enginesKept (c : Chip) (b : Basin) : EnginesKept c (c.holdBasin b) := by
  have hset : ∀ (c : Chip) r f v, EnginesKept c (c.setF r f v) := fun c r f v => .of_eq rfl rfl
  have hone : ∀ (c : Chip) (r : RunReset), EnginesKept c
      ((if r.byReg then c.setF .RST_CMD F.RST_CMD_GO 0 else c).each r.waiters (fun c q => c.answer q rTIMEOUT)) := fun c r => by
    refine EnginesKept.trans ?_ (.each (fun c q => answer_enginesKept c q _ _ _) _ _)
    split
    · exact hset _ _ _ _
    · exact .refl _
  have hsetSt : ∀ (c : Chip) r f v, EnginesKept c (c.setSt r f v) := fun c r f v => by
    unfold Chip.setSt
    split
    · exact .refl c
    · exact .of_eq rfl rfl
  unfold Chip.holdBasin
  dsimp only
  refine EnginesKept.trans ?_ (hsetSt _ _ _ _)
  refine EnginesKept.trans ?_ (basinDown_enginesKept _ _)
  exact EnginesKept.trans (updClk_enginesKept _ _) (.each hone _ _)

/-! ### An engine out of service -/

/-- What quarantining leaves of the engine, and of ENG_QUAR (R343, R344). -/
structure Quarantined (c : Chip) (e : Engine) (cause : Nat) (lost : List Nat) (d : Chip) : Prop where
  quar : (d.engines[e]).quar = true
  handing : (d.engines[e]).handing = some (cause, lost)
  epoch : (d.engines[e]).epoch = (c.engines[e]).epoch + 1
  bit : (d.rd (.ENG_QUAR (Fin.ofNat 16 (e.val / 32)))).getLsbD (e.val % 32) = true
  grants : d.pond.grants = c.pond.grants

theorem Quarantined.mono {c d x : Chip} {e : Engine} {cause : Nat} {lost : List Nat} (h : Quarantined c e cause lost d)
    (k : EnginesKept d x) (hr : ∀ b, x.rd (.ENG_QUAR b) = d.rd (.ENG_QUAR b)) : Quarantined c e cause lost x :=
  ⟨(k.quar e).trans h.quar, (k.handing e).trans h.handing, (k.epoch e).trans h.epoch, by rw [hr]; exact h.bit, k.grants.trans h.grants⟩

theorem bumpEngine_engines (c : Chip) (e : Engine) :
    (c.bumpEngine e).engines = (c.updEng e (fun s => { s with epoch := s.epoch + 1 })).engines ∧ (c.bumpEngine e).pond = c.pond :=
  ⟨(fr_post (ps := [.engines]) (rs := []) _ _ (by simp)).kept.engines (by simp),
    (fr_post (ps := [.pond]) (rs := []) _ _ (by simp)).kept.pond (by simp)⟩

theorem getLsbD_or_shift (w : Word) {i : Nat} (h : i < 32) : (w ||| (1#32 <<< i)).getLsbD i = true := by
  simp [h]

/-- The engine taken out of service, before its bit of ENG_QUAR is set. -/
def engineOut (c : Chip) (e : Engine) (cause : Nat) (lost : List Nat) : Chip :=
  let c := c.cullEngine e lost
  let c := c.updEng e (fun x => { x with quar := true, overruns := [], cache := [], handing := some (cause, lost) })
  let c := c.bumpEngine e
  c.updEng e (fun x => { x with handEpoch := x.epoch })

theorem engineOut_engine (c : Chip) (e : Engine) (cause : Nat) (lost : List Nat) :
    (engineOut c e cause lost).engines[e] = { c.engines[e] with
      quar := true, overruns := [], cache := [], handing := some (cause, lost)
      epoch := (c.engines[e]).epoch + 1, handEpoch := (c.engines[e]).epoch + 1 } := by
  unfold engineOut
  dsimp only
  rw [updEng_same, (bumpEngine_engines _ e).1, updEng_same, updEng_same]
  rfl

theorem engineOut_pond (c : Chip) (e : Engine) (cause : Nat) (lost : List Nat) : (engineOut c e cause lost).pond = c.pond :=
  (bumpEngine_engines _ e).2

theorem canon_engineOut {c : Chip} (h : Canon c) (e : Engine) (cause : Nat) (lost : List Nat) : Canon (engineOut c e cause lost) := by
  have hb : Canon (((c.cullEngine e lost).updEng e (fun x =>
      { x with quar := true, overruns := [], cache := [], handing := some (cause, lost) })).bumpEngine e) :=
    (Chip.bumpEngine_fr (f := keeping [] []) (Fr.refl _ _) (by simp) (by simp)).canon ⟨h.regs, h.flash, h.blocks⟩
  exact ⟨hb.regs, hb.flash, hb.blocks⟩

theorem quarantine_quarantined {c : Chip} (h : Canon c) (e : Engine) (cause : Nat) (lost : List Nat) :
    Quarantined c e cause lost (c.quarantine e cause lost) := by
  have hsync : ∀ (d : Chip) (b : Basin), Fr (keeping [.engines, .pond] [.ENG_QUAR b]) d (d.syncBasin b) := fun d b =>
    Chip.syncBasin_fr (Fr.refl _ d) (by simp)
  have hout := engineOut_engine c e cause lost
  have hset : Quarantined c e cause lost ((engineOut c e cause lost).wr (.ENG_QUAR (Fin.ofNat 16 (e.val / 32)))
      ((engineOut c e cause lost).rd (.ENG_QUAR (Fin.ofNat 16 (e.val / 32))) ||| (1#32 <<< (e.val % 32)))) :=
    ⟨congrArg EngineSt.quar hout, congrArg EngineSt.handing hout, congrArg EngineSt.epoch hout, by
      rw [rd_wr_same _ (canon_engineOut h e cause lost)]
      exact getLsbD_or_shift _ (Nat.mod_lt _ (by decide)), congrArg Pond.grants (engineOut_pond c e cause lost)⟩
  exact hset.mono (.of_fr (hsync _ _)) fun b =>
    (Chip.syncBasin_fr (f := keeping [] [.ENG_QUAR b]) (Fr.refl _ _) (by simp)).kept.regs _ (by simp)

/-- A fault of an engine takes it out of service, whatever the basin's ladder does then (R343, R344). -/
theorem engineFault_quarantined {c : Chip} (h : Canon c) (e : Engine) (cause : Nat) (lost : List Nat)
    (hq : (c.engines[e]).quar = false) : Quarantined c e cause lost (c.engineFault e cause lost) := by
  have hopen : ∀ (d : Chip) l i r sp k, EnginesKept d (d.openLadder l i r sp k) := fun _ _ _ _ _ _ => .of_eq rfl rfl
  have hclose : ∀ (d : Chip) l i, EnginesKept d (d.closeLadder l i) := fun _ _ _ => .of_eq rfl rfl
  have hesc : ∀ (d : Chip) l r i k, EnginesKept d (d.escalate l r i k) ∧ ∀ b, (d.escalate l r i k).rd (.ENG_QUAR b) = d.rd (.ENG_QUAR b) :=
    fun d l r i k => ⟨.of_fr (rs := []) (Chip.escalate_fr (Fr.refl _ d) (by simp) (by simp) (by simp)), fun b =>
      (Chip.escalate_fr (f := keeping [] [.ENG_QUAR b]) (Fr.refl _ d) (by simp) (by simp) (by simp)).kept.regs _ (by simp)⟩
  have hstart : ∀ (d : Chip) b l k, (d.startScope (.basin b) none false l).rd (.ENG_QUAR k) = d.rd (.ENG_QUAR k) := fun d b l k => by
    have hf : Fr (keeping [] [.ENG_QUAR k]) d (d.startScope (.basin b) none false l) := by
      apply Chip.startScope_fr (Fr.refl _ d) <;> simp
    exact hf.kept.regs _ (by simp)
  have hhold : ∀ (d : Chip) b k, (d.holdBasin b).rd (.ENG_QUAR k) = d.rd (.ENG_QUAR k) := fun d b k => by
    have hf : Fr (keeping [] [.ENG_QUAR k]) d (d.holdBasin b) := by
      apply Chip.holdBasin_fr (Fr.refl _ d) <;> simp
    exact hf.kept.regs _ (by simp)
  have hquar := quarantine_quarantined h e cause lost
  unfold Chip.engineFault
  rw [if_neg (by simp only [hq]; exact Bool.false_ne_true)]
  dsimp only
  split
  · exact hquar.mono (hopen _ _ _ _ _ _) fun _ => rfl
  · split
    · exact ((hquar.mono (hopen _ _ _ _ _ _) fun _ => rfl).mono (hesc _ _ _ _ _).1 (hesc _ _ _ _ _).2).mono
        (startBasin_enginesKept _ _ _) (hstart _ _ _)
    · exact ((hquar.mono (hclose _ _ _) fun _ => rfl).mono (hesc _ _ _ _ _).1 (hesc _ _ _ _ _).2).mono
        (holdBasin_enginesKept _ _) (hhold _ _)

theorem quar_of_engLive {c : Chip} {e : Engine} (h : c.engLive e = true) : (c.engines[e]).quar = false := by
  unfold Chip.engLive at h
  simpa using (Bool.and_eq_true_iff.1 h).2

/-- The overruns of an engine within 1 ms, this one first. -/
def overrunsNow (c : Chip) (e : Engine) : List Nat :=
  c.clk.now :: (c.engines[e]).overruns.filter (fun t => c.clk.now ≤ t + ms 1)

/-- What an overrun does: the third within 1 ms takes the engine out of service (R343). -/
def overrunTaken (c : Chip) (e : Engine) : Chip :=
  if 3 ≤ (overrunsNow c e).length then c.engineFault e 0 [] else c.updEng e (fun x => { x with overruns := overrunsNow c e })

theorem runs_overrunTaken {s : State} {e : Engine} {p : Option Port} {k b : Nat} {P : Chip → Prop} (hl : s.chip.engLive e = true)
    (hb : s.chip.taskBudget ⟨e, p, k⟩ = some b) (hk : b < k) (hg : (overrunTaken s.chip e).pond.grants = [])
    (hp : P (overrunTaken s.chip e)) : Runs (.engineOverrun ⟨e, p, k⟩) s P := by
  have hexec : exec (.engineOverrun ⟨e, p, k⟩) s = execEngineOverrun ⟨e, p, k⟩ s := rfl
  have hno : ¬(!s.chip.engLive e || (s.chip.taskBudget ⟨e, p, k⟩).all (fun b => decide (k ≤ b))) = true := by simp [hl, hb, hk]
  exact runs_of_runS_eq hexec (d := overrunTaken s.chip e) (if_neg hno) hg hp

theorem runs_engineOverrun_counted {s : State} {e : Engine} {p : Option Port} {k b : Nat} (hg : s.chip.pond.grants = [])
    (hl : s.chip.engLive e = true) (hb : s.chip.taskBudget ⟨e, p, k⟩ = some b) (hk : b < k)
    (hfew : ((s.chip.engines[e]).overruns.filter (fun t => s.chip.clk.now ≤ t + ms 1)).length < 2) :
    Runs (.engineOverrun ⟨e, p, k⟩) s (fun c => (c.engines[e]).quar = false ∧
      (c.engines[e]).overruns.head? = some s.chip.clk.now) := by
  have hlen : ¬3 ≤ (overrunsNow s.chip e).length := by
    rw [overrunsNow, List.length_cons]
    omega
  refine runs_overrunTaken hl hb hk ?_ ?_ <;> rw [overrunTaken, if_neg hlen]
  · exact hg
  · rw [updEng_same]
    exact ⟨quar_of_engLive hl, rfl⟩

theorem runs_engineOverrun_out {s : State} {e : Engine} {p : Option Port} {k b : Nat} (h : Canon s.chip) (hg : s.chip.pond.grants = [])
    (hl : s.chip.engLive e = true) (hb : s.chip.taskBudget ⟨e, p, k⟩ = some b) (hk : b < k)
    (hmany : 2 ≤ ((s.chip.engines[e]).overruns.filter (fun t => s.chip.clk.now ≤ t + ms 1)).length) :
    Runs (.engineOverrun ⟨e, p, k⟩) s (fun c => (c.engines[e]).quar = true ∧ (c.engines[e]).handing = some (0, [])) := by
  have hlen : 3 ≤ (overrunsNow s.chip e).length := by
    rw [overrunsNow, List.length_cons]
    omega
  have hq := engineFault_quarantined h e 0 [] (quar_of_engLive hl)
  refine runs_overrunTaken hl hb hk ?_ ?_ <;> rw [overrunTaken, if_pos hlen]
  · exact hq.grants.trans hg
  · exact ⟨hq.quar, hq.handing⟩

theorem runs_engineHang {s : State} {e : Engine} {l : List Cid} {p : Option Port} {k b : Nat} (h : Canon s.chip)
    (hg : s.chip.pond.grants = []) (hl : s.chip.engLive e = true) (hb : s.chip.taskBudget ⟨e, p, k⟩ = some b) (hk : 16 * b ≤ k) :
    Runs (.engineHang ⟨e, p, k⟩ l) s (fun c => (c.engines[e]).quar = true ∧ (c.engines[e]).handing = some (1, l.map (·.toNat)) ∧
      (c.rd (.ENG_QUAR (Fin.ofNat 16 (e.val / 32)))).getLsbD (e.val % 32) = true) := by
  have hexec : exec (.engineHang ⟨e, p, k⟩ l) s = execEngineHang ⟨e, p, k⟩ l s := rfl
  have hq := engineFault_quarantined h e 1 (l.map (·.toNat)) (quar_of_engLive hl)
  have hyes : (s.chip.engLive e && (s.chip.taskBudget ⟨e, p, k⟩).any (fun b => decide (16 * b ≤ k))) = true := by simp [hl, hb, hk]
  refine runs_of_runS_eq hexec (d := s.chip.engineFault e 1 (l.map (·.toNat))) (by rw [if_pos hyes]) ?_ ?_
  · exact hq.grants.trans hg
  · exact ⟨hq.quar, hq.handing, hq.bit⟩

theorem runs_engineParity {s : State} {e : Engine} {l : List Cid} (h : Canon s.chip) (hg : s.chip.pond.grants = [])
    (hl : s.chip.engLive e = true) :
    Runs (.engineParity e l) s (fun c => (c.engines[e]).quar = true ∧ (c.engines[e]).handing = some (2, l.map (·.toNat)) ∧
      (c.engines[e]).epoch = (s.chip.engines[e]).epoch + 1) := by
  have hexec : exec (.engineParity e l) s = execEngineParity e l s := rfl
  have hq := engineFault_quarantined h e 2 (l.map (·.toNat)) (quar_of_engLive hl)
  have hlive := hl
  unfold Chip.engLive at hlive
  simp only [Bool.and_eq_true, beq_iff_eq] at hlive
  obtain ⟨⟨⟨hboot, hreset⟩, hdoze⟩, -⟩ := hlive
  have hyes : s.chip.clk.boot = .live ∧ (!s.chip.dozing) = true ∧ (!((s.chip.basins[(Fin.ofNat 16 (e.val / 32) : Basin)]).inReset &&
      (s.chip.ladder? 2 (e.val / 32)).isNone)) = true := by
    rw [Bool.not_eq_true'] at hreset
    exact ⟨hboot, hdoze, by rw [hreset]; rfl⟩
  refine runs_of_runS_eq hexec (d := s.chip.engineFault e 2 (l.map (·.toNat))) (by rw [if_pos hyes]) ?_ ?_
  · exact hq.grants.trans hg
  · exact ⟨hq.quar, hq.handing, hq.epoch⟩

/-! ### An engine's successor -/

theorem spares_of_out {c : Chip} {e : Engine} {f : EngineSt → EngineSt} (b : Nat) (hold : ((c.engines[e]).role == .spare) = false)
    (hnew : ((f c.engines[e]).role == .spare) = false) : (c.updEng e f).spares b = c.spares b := by
  unfold Chip.spares Chip.enginesWith
  refine List.filter_congr fun k _ => ?_
  by_cases hk : k = e
  · subst hk
    rw [updEng_same]
    exact (Bool.and_eq_false_imp.2 fun _ => hnew).trans (Bool.and_eq_false_imp.2 fun _ => hold).symm
  · rw [updEng_other _ _ hk]

theorem bumpEngine_other (c : Chip) {e k : Engine} (h : k ≠ e) : (c.bumpEngine e).engines[k] = c.engines[k] := by
  rw [(bumpEngine_engines c e).1, updEng_other _ _ h]

theorem spares_bumpEngine (c : Chip) (e : Engine) (b : Nat) : (c.bumpEngine e).spares b = c.spares b := by
  unfold Chip.spares Chip.enginesWith
  refine List.filter_congr fun k _ => ?_
  rw [(bumpEngine_engines c e).1]
  by_cases hk : k = e
  · subst hk
    rw [updEng_same]
  · rw [updEng_other _ _ hk]

theorem spare_of_spares {c : Chip} {b : Nat} {sp : Engine} {k : List Engine} (h : c.spares b = sp :: k) :
    ((c.engines[sp]).role == .spare) = true := by
  have hm : sp ∈ c.spares b := h ▸ List.mem_cons_self
  exact (Bool.and_eq_true_iff.1 (List.mem_filter.1 hm).2).2

/-- The chip when a spare has taken over the role of an engine of its basin (R343). -/
def succeeded (c : Chip) (e sp : Engine) : Chip :=
  ((c.updEng e (fun x => { x with role := .none, also := [], handing := none })).bumpEngine e).giveRole sp (c.engines[e]).role
    (c.engines[e]).also

theorem succeeded_engines {c : Chip} {e sp : Engine} (h : sp ≠ e) :
    ((succeeded c e sp).engines[sp]).role = (c.engines[e]).role ∧ ((succeeded c e sp).engines[e]).role = .none ∧
      ((succeeded c e sp).engines[e]).handing = none := by
  have hsp : ((succeeded c e sp).engines[sp]).role = (c.engines[e]).role := by
    unfold succeeded Chip.giveRole
    rw [(bumpEngine_engines _ sp).1, updEng_same, updEng_same]
  have he : (succeeded c e sp).engines[e] =
      { c.engines[e] with role := .none, also := [], handing := none, epoch := (c.engines[e]).epoch + 1 } := by
    unfold succeeded Chip.giveRole
    rw [bumpEngine_other _ h.symm, updEng_other _ _ h.symm, (bumpEngine_engines _ e).1, updEng_same, updEng_same]
  exact ⟨hsp, congrArg EngineSt.role he, congrArg EngineSt.handing he⟩

/-- Engines and Pond as in another state. -/
def SameEngines (x d : Chip) : Prop := d.engines = x.engines ∧ d.pond = x.pond

theorem SameEngines.trans {a b c : Chip} (h : SameEngines a b) (k : SameEngines b c) : SameEngines a c :=
  ⟨k.1.trans h.1, k.2.trans h.2⟩

theorem SameEngines.each {α : Type} {g : Chip → α → Chip} (h : ∀ c x, SameEngines c (g c x)) :
    ∀ (l : List α) (c : Chip), SameEngines c (c.each l g) := by
  intro l
  induction l with
  | nil => exact fun c => ⟨rfl, rfl⟩
  | cons x l ih => exact fun c => (h c x).trans (ih _)

theorem post_sameEngines (c : Chip) (e : Event) : SameEngines c (c.post e) := ⟨rfl, rfl⟩

theorem postFault_sameEngines (c : Chip) (f : FaultSrc) (e : Event) : SameEngines c (c.postFault f e) :=
  ⟨(postFault_kept c f e).engines (by simp), (postFault_kept c f e).pond (by simp)⟩

theorem syncBasin_sameEngines (c : Chip) (b : Basin) : SameEngines c (c.syncBasin b) := by
  have hf : Fr (keeping [.engines, .pond] []) c (c.syncBasin b) := Chip.syncBasin_fr (Fr.refl _ c) (by simp)
  exact ⟨hf.kept.engines (by simp), hf.kept.pond (by simp)⟩

theorem succeeded_pond (c : Chip) (e sp : Engine) : (succeeded c e sp).pond = c.pond :=
  (bumpEngine_engines _ sp).2.trans (bumpEngine_engines _ e).2

/-- The engine of a takeover, once its role is given up. -/
def retired (c : Chip) (e : Engine) : Chip :=
  (c.updEng e (fun x => { x with role := .none, also := [], handing := none })).bumpEngine e

theorem retired_spares {c : Chip} {e : Engine} (b : Nat) (hspare : (c.engines[e]).role ≠ .spare) :
    (retired c e).spares b = c.spares b :=
  (spares_bumpEngine _ e b).trans (spares_of_out b (by simpa using hspare) rfl)

/-- A takeover with a spare at hand gives it the role; what is posted then changes no engine. -/
theorem takeOver_sameEngines {c : Chip} {e sp : Engine} {x : Nat × List Nat} {k : List Engine} (hx : (c.engines[e]).handing = some x)
    (hspare : (c.engines[e]).role ≠ .spare) (hnone : (c.engines[e]).role ≠ .none)
    (hsp : c.spares (Fin.ofNat 16 (e.val / 32) : Basin).val = sp :: k)
    (hv : epochVerdict (c.engines[e]).handEpoch (c.engines[e]).epoch = none) :
    SameEngines (succeeded c e sp) (c.takeOver e) := by
  obtain ⟨cause, lost⟩ := x
  have hret : (retired c e).spares (Fin.ofNat 16 (e.val / 32) : Basin).val = sp :: k := (retired_spares _ hspare).trans hsp
  have hgiven : ∀ r, (c.engines[e]).role = r → (retired c e).giveRole sp r (c.engines[e]).also = succeeded c e sp := by
    rintro _ rfl
    rfl
  unfold retired at hret hgiven
  have hfaulted : ∀ {d : Chip} {p : Prop} [Decidable p] {f ev}, SameEngines (succeeded c e sp) d →
      SameEngines (succeeded c e sp) (if p then d.postFault f ev else d) := by
    intro d p _ f ev hd
    split
    · exact hd.trans (postFault_sameEngines d f ev)
    · exact hd
  unfold Chip.takeOver
  rw [hx]
  dsimp only
  rw [hv]
  dsimp only
  refine SameEngines.trans (hfaulted ((SameEngines.trans ?_ (syncBasin_sameEngines _ _)).trans (postFault_sameEngines _ _ _)))
    (.each (fun d y => ?_) _ _)
  · cases hr : (c.engines[e]).role with
    | spare => exact absurd hr hspare
    | none => exact absurd hr hnone
    | _ =>
      simp only [Bool.not_true, Bool.false_eq_true, if_false, if_true, hret, hgiven _ hr]
      exact ⟨rfl, rfl⟩
  · split
    · exact ⟨rfl, rfl⟩
    · exact post_sameEngines _ _

theorem runs_engineTakeover {s : State} {e : Engine} {P : Chip → Prop} (hd : s.chip.dozing = false)
    (hb : (s.chip.basins[(Fin.ofNat 16 (e.val / 32) : Basin)]).inReset = false) (hg : (s.chip.takeOver e).pond.grants = [])
    (hp : P (s.chip.takeOver e)) : Runs (.engineTakeover e) s P := by
  have hexec : exec (.engineTakeover e) s = execEngineTakeover e s := rfl
  exact runs_of_runS_eq hexec (d := s.chip.takeOver e) (by simp only [hb, hd]; rfl) hg hp

theorem runs_takeover_spare {s : State} {e sp : Engine} {x : Nat × List Nat} {k : List Engine} (hg : s.chip.pond.grants = [])
    (hd : s.chip.dozing = false) (hb : (s.chip.basins[(Fin.ofNat 16 (e.val / 32) : Basin)]).inReset = false)
    (hx : (s.chip.engines[e]).handing = some x) (hspare : (s.chip.engines[e]).role ≠ .spare) (hnone : (s.chip.engines[e]).role ≠ .none)
    (hsp : s.chip.spares (e.val / 32) = sp :: k)
    (hv : epochVerdict (s.chip.engines[e]).handEpoch (s.chip.engines[e]).epoch = none) :
    Runs (.engineTakeover e) s (fun c => (c.engines[sp]).role = (s.chip.engines[e]).role ∧ (c.engines[e]).role = .none ∧
      (c.engines[e]).handing = none) := by
  have hbasin : (Fin.ofNat 16 (e.val / 32) : Basin).val = e.val / 32 := by
    have := e.isLt
    simp only [Fin.ofNat]
    omega
  have hne : sp ≠ e := by
    rintro rfl
    exact hspare (eq_of_beq (spare_of_spares hsp))
  obtain ⟨heng, hpond⟩ := takeOver_sameEngines hx hspare hnone (by rw [hbasin]; exact hsp) hv
  refine runs_engineTakeover hd hb ?_ ?_
  · rw [hpond, succeeded_pond, hg]
  · rw [heng]
    exact succeeded_engines hne

theorem cullDev_sameEngines (c : Chip) (k r : Nat) (v w : BitVec 16) (l : List Byte) : SameEngines c (c.cullDev k r v w l) := by
  have hf : Fr (keeping [.engines, .pond] []) c (c.cullDev k r v w l) := by
    apply Chip.cullDev_fr (Fr.refl _ c) <;> simp
  exact ⟨hf.kept.engines (by simp), hf.kept.pond (by simp)⟩

/-- A device cullet queue with room ends with what was culled. -/
theorem cullDev_last {c : Chip} (k r : Nat) (v w : BitVec 16) (l : List Byte) (h : c.cullet.length < 256) :
    (c.cullDev k r v w l).cullet.getLast?.map (·.result) = some r := by
  unfold Chip.cullDev
  rw [if_neg (Nat.not_le.2 h)]
  dsimp only
  rw [(fr_postRate (ps := [.cullet]) (rs := []) _ _ _ _ _ _ (by simp)).kept.cullet (by simp), List.getLast?_concat]
  rfl

theorem runs_takeover_stale {s : State} {e : Engine} {x : Nat × List Nat} {v : Nat} (hg : s.chip.pond.grants = [])
    (hd : s.chip.dozing = false) (hb : (s.chip.basins[(Fin.ofNat 16 (e.val / 32) : Basin)]).inReset = false)
    (hx : (s.chip.engines[e]).handing = some x) (hv : epochVerdict (s.chip.engines[e]).handEpoch (s.chip.engines[e]).epoch = some v) :
    Runs (.engineTakeover e) s (fun c => (c.engines[e]).handing = none ∧ (c.engines[e]).role = (s.chip.engines[e]).role ∧
      (s.chip.cullet.length < 256 → c.cullet.getLast?.map (·.result) = some v)) := by
  obtain ⟨cause, lost⟩ := x
  have htake : s.chip.takeOver e = (s.chip.updEng e (fun x => { x with handing := none })).cullDev 3 v (s.chip.engines[e]).handEpoch
      (s.chip.engines[e]).epoch (leBytes 2 e.val) := by
    unfold Chip.takeOver
    simp only [hx, hv]
  obtain ⟨heng, hpond⟩ := cullDev_sameEngines (s.chip.updEng e (fun x => { x with handing := none })) 3 v
    (s.chip.engines[e]).handEpoch (s.chip.engines[e]).epoch (leBytes 2 e.val)
  refine runs_engineTakeover hd hb ?_ ?_ <;> rw [htake]
  · rw [hpond]
    exact hg
  · rw [heng, updEng_same]
    exact ⟨rfl, rfl, fun hlen => cullDev_last _ _ _ _ _ hlen⟩

/-! ### Ladders, the lockstep pair and the balls -/

/-- The ladders left when a window ends. -/
def windowsLeft (c : Chip) (l i : Nat) : Chip :=
  if l = 8 ∧ c.fw.hs ≠ .run then c
  else { c with ladders := c.ladders.filter (fun w => !(w.ladder == l && w.index == i && decide (w.ends ≤ c.clk.now))) }

theorem runs_recoveryWindowEnd {s : State} {l i : Nat} (h : l ≠ 8 ∨ s.chip.fw.hs = .run) :
    Runs (.recoveryWindowEnd l i) s (fun c => ∀ w ∈ c.ladders, w.ladder = l → w.index = i → s.chip.clk.now < w.ends) := by
  have hexec : exec (.recoveryWindowEnd l i) s = execRecoveryWindowEnd l i s := rfl
  have hleft : ∀ d : Chip, d.ladders = (windowsLeft s.chip l i).ladders →
      ∀ w ∈ d.ladders, w.ladder = l → w.index = i → s.chip.clk.now < w.ends := by
    intro d hd w hw hl hi
    have hno : ¬(l = 8 ∧ s.chip.fw.hs ≠ .run) := fun hc => h.elim (fun h8 => h8 hc.1) (fun hr => hc.2 hr)
    rw [hd, windowsLeft, if_neg hno] at hw
    have hp := (List.mem_filter.1 hw).2
    rw [hl, hi] at hp
    simpa using hp
  refine runs_of_run_eq hexec rfl (hleft _ ?_)
  dsimp only
  split
  · split <;> rfl
  · rfl
  · rfl

/-- A ball whose low time is over shows its level (R356). -/
theorem balls_faultLow {c : Chip} (hp : c.pwr.st = .run ∨ c.pwr.st = .idle) (hu : c.clk.faultUntil = none) :
    c.balls.clk.faultLow = c.faultOn := by
  rw [Chip.balls, if_pos hp]
  cases c.faultOn <;> simp [hu]

theorem balls_alertLow {c : Chip} (hp : c.pwr.st = .run ∨ c.pwr.st = .idle) (hu : c.clk.alertUntil = none) :
    c.balls.clk.alertLow = c.alertOn := by
  rw [Chip.balls, if_pos hp]
  cases c.alertOn <;> simp [hu]

theorem runs_statusBall_fault {s : State} {t : Nat} (hp : s.chip.pwr.st = .run ∨ s.chip.pwr.st = .idle)
    (ht : s.chip.clk.faultUntil = some t) (hdue : t ≤ s.chip.clk.now) :
    Runs (.statusBallLowTimeExpiry false) s (fun c => c.clk.faultLow = s.chip.faultOn) := by
  have hexec : exec (.statusBallLowTimeExpiry false) s = execStatusBallLowTimeExpiry false s := rfl
  refine runs_of_run_eq hexec rfl (balls_faultLow hp ?_)
  simp [Chip.updClk, ht, hdue]

theorem runs_statusBall_alert {s : State} {t : Nat} (hp : s.chip.pwr.st = .run ∨ s.chip.pwr.st = .idle)
    (ht : s.chip.clk.alertUntil = some t) (hdue : t ≤ s.chip.clk.now) :
    Runs (.statusBallLowTimeExpiry true) s (fun c => c.clk.alertLow = s.chip.alertOn) := by
  have hexec : exec (.statusBallLowTimeExpiry true) s = execStatusBallLowTimeExpiry true s := rfl
  refine runs_of_run_eq hexec rfl (balls_alertLow hp ?_)
  simp [Chip.updClk, ht, hdue]

theorem hsDown_resets (c : Chip) : c.hsDown.clk.resets = c.clk.resets ∧ c.hsDown.clk.now = c.clk.now := by
  have hcore : clkCore c.hsDown.clk = clkCore c.clk := by
    have hm : ∀ (d : Chip) i k t v w, (d.measure i k t v w).clk = d.clk := fun d i k t v w => by
      have hf : Fr (keeping [.clk] []) d (d.measure i k t v w) := by
        apply Chip.measure_fr (Fr.refl _ d) <;> simp
      exact hf.kept.clk (by simp)
    unfold Chip.hsDown
    dsimp only
    split
    · rfl
    split
    · exact postFault_clkCore _ _ _
    · exact (postFault_clkCore _ _ _).trans (congrArg clkCore (hm _ _ _ _ _ _))
  exact ⟨(congrArg Clk.resets hcore :), (congrArg Clk.now hcore :)⟩

/-- An update of the first match that leaves the test as it was leaves whether a match stands. -/
theorem any_updFirst {α : Type} (p : α → Bool) (f : α → α) (h : ∀ x, p (f x) = p x) :
    ∀ l : List α, (updFirst p f l).any p = l.any p
  | [] => rfl
  | x :: t => by
    rw [updFirst]
    split
    · rw [List.any_cons, List.any_cons, h]
    · rw [List.any_cons, List.any_cons, any_updFirst p f h t]

/-- A reset of Headspring is under way once asked for. -/
theorem startHeadspring_runs (c : Chip) :
    (c.startScope .headspring none false []).clk.resets.any (fun r => r.sc == .headspring) = true ∧
      (c.startScope .headspring none false []).clk.now = c.clk.now := by
  unfold Chip.startScope
  dsimp only
  split
  · next h =>
    refine ⟨?_, rfl⟩
    show (updFirst _ _ c.clk.resets).any _ = true
    rw [any_updFirst]
    · exact h
    · exact fun _ => rfl
  · obtain ⟨hres, hnow⟩ := hsDown_resets (c.updClk (fun k => { k with resets := k.resets ++ [⟨.headspring, [], false, []⟩] }))
    refine ⟨?_, hnow⟩
    rw [Option.toList_none, hres]
    simp

theorem startHeadspring_ladders (c : Chip) : (c.startScope .headspring none false []).ladders = c.ladders := by
  have hf : Fr (keeping [.ladders] []) c (c.startScope .headspring none false []) := by
    apply Chip.startScope_fr (Fr.refl _ c) <;> simp
  exact hf.kept.ladders (by simp)

theorem ladder?_congr {c d : Chip} (hl : d.ladders = c.ladders) (hn : d.clk.now = c.clk.now) (l i : Nat) :
    d.ladder? l i = c.ladder? l i := by
  rw [Chip.ladder?, Chip.ladder?, hl, hn]

theorem runs_lockstep_first {s : State} (hr : s.chip.fw.hs = .run) (hd : s.chip.dozing = false) (hn : s.chip.ladder? 8 0 = none) :
    Runs .lockstepMismatch s (fun c => c.clk.resets.any (fun r => r.sc == .headspring) = true ∧ (c.ladder? 8 0).isSome = true) := by
  have hexec : exec .lockstepMismatch s = execLockstepMismatch s := rfl
  have hno : ¬(s.chip.fw.hs ≠ .run ∨ s.chip.dozing = true) := by simp [hr, hd]
  refine runs_settled hexec (((s.chip.openLadder 8 0 1 (sec 1) 0x0187).post (s.chip.ev 0x0187 0 0
    [bitOf s.chip.fw.pairB, 0])).startScope .headspring none false []) (by rw [if_neg hno]; simp only [hn]) fun x hx => ?_
  generalize s.chip.ev 0x0187 0 0 [bitOf s.chip.fw.pairB, 0] = e at hx
  obtain ⟨hres, hnow⟩ := startHeadspring_runs ((s.chip.openLadder 8 0 1 (sec 1) 0x0187).post e)
  rw [hx.kept.clk (by decide), ladder?_congr (hx.kept.ladders (by decide)) (congrArg Clk.now (hx.kept.clk (by decide))),
    ladder?_congr (startHeadspring_ladders _) hnow]
  have hpost : ((s.chip.openLadder 8 0 1 (sec 1) 0x0187).post e).ladder? 8 0 = (s.chip.openLadder 8 0 1 (sec 1) 0x0187).ladder? 8 0 :=
    ladder?_congr rfl rfl 8 0
  exact ⟨hres, by rw [hpost, ladder?_openLadder _ _ _ _ _ (by decide)]; rfl⟩

theorem runs_lockstep_again {s : State} {w : LadderWin} (hr : s.chip.fw.hs = .run) (hd : s.chip.dozing = false)
    (hw : s.chip.ladder? 8 0 = some w) : Runs .lockstepMismatch s (fun c => c.fw.hs = .held) := by
  have hexec : exec .lockstepMismatch s = execLockstepMismatch s := rfl
  have hno : ¬(s.chip.fw.hs ≠ .run ∨ s.chip.dozing = true) := by simp [hr, hd]
  refine runs_settled hexec (((((s.chip.closeLadder 8 0).escalate 8 2 0 0x0187).post
    (((s.chip.closeLadder 8 0).escalate 8 2 0 0x0187).ev 0x0187 0 0 [bitOf s.chip.fw.pairB, 1])).hsDown).updFw
      (fun f => { f with hs := .held })) (by rw [if_neg hno]; simp only [hw]) fun x hx => ?_
  rw [hx.kept.fw (by decide)]
  rfl

/-- Settles O44: the counts of the Reservoir and the queue pointers, an engine taken out of service and its successor, the
recovery windows, the lockstep pair and the balls. -/
theorem integrity : Obligations.Integrity := by
  unfold Obligations.Integrity
  intro s h hg _
  refine ⟨fun w hb => runs_reservoirCe h hg hb, fun q r hb hq => runs_reservoirBody h hg hb hq,
    fun q r hb hq hn hf => runs_reservoirHeader h hg hb hq hn hf, fun hb => runs_microcodeReload hg hb,
    fun q r hb hq hn hf => runs_queuePtrMismatch h hg hb hq hn hf,
    fun e p k b hl hb hk hf => runs_engineOverrun_counted hg hl hb hk hf,
    fun e p k b hl hb hk hm => runs_engineOverrun_out h hg hl hb hk hm,
    fun e l p k b hl hb hk => runs_engineHang h hg hl hb hk, fun e l hl _ => runs_engineParity h hg hl, ?_,
    fun e x v hd hb hx hv => runs_takeover_stale hg hd hb hx hv, fun l i hl => runs_recoveryWindowEnd hl,
    fun hr hd hn => runs_lockstep_first hr hd hn, fun w hr hd hw => runs_lockstep_again hr hd hw,
    fun t hp ht hdue => runs_statusBall_fault hp ht hdue, fun t hp ht hdue => runs_statusBall_alert hp ht hdue⟩
  rintro e x r sp k hd hb hx rfl hspare hnone hsp hv
  exact runs_takeover_spare hg hd hb hx hspare hnone hsp hv

end Sys2Proof.Proofs

namespace Sys2Proof.Proofs

open Sys2Proof.Machine Sys2Proof.Laws

/-! MEAS_EXT_CTL, ATT_CTL and the xSPI controller (04 R87, R88, R96, R104). -/

/-! ### Measurements -/

theorem meas_ctl_index_lt (v : Word) : fget v F.MEAS_EXT_CTL_INDEX < 8 := by
  unfold fget
  exact (v.extractLsb' _ _).isLt

/-- What a log entry keeps of the firmware's state: all but the log. -/
theorem logPut_fw {c : Chip} (h : c.logFull = false) (kind meas detail : Nat) (time version : BitVec 64) (d : BitVec 384) :
    (c.logPut kind meas detail time version d).fw =
      { c.fw with log := c.fw.log ++ [⟨c.fw.logNext, kind, meas, detail, time, version, d⟩], logNext := c.fw.logNext + 1#32 } := by
  unfold Chip.logPut
  rw [if_neg (by rw [h]; exact Bool.false_ne_true)]
  dsimp only
  split
  · exact (fr_post (ps := [.fw]) (rs := []) _ _ (by simp)).kept.fw (by simp)
  · rfl

/-- An extension that is let in, by a register or a request (R88). -/
theorem measExt_fw {c : Chip} {win : Bool} {i : Nat} (h5 : 5 ≤ i) (h8 : i < 8) (hr : c.fw.hs = .run) (hl : c.logFull = false) :
    (c.measExt win i).fw.meas[i]! = sha384 (digestBytes c.fw.meas[i]! ++ digestBytes c.extDigest) ∧
    (c.measExt win i).fw.log.getLast?.map (fun x => (x.kind, x.meas, x.digest)) = some (6, i, c.extDigest) := by
  have hallow : (measAllowed win i && c.fw.hs == .run && !c.logFull) = true := by simp [measAllowed, h5, hr, hl]
  have hkind : extKind i = 6 := by
    unfold extKind
    split <;> omega
  have hext : (c.extend i c.extDigest).logFull = false := hl
  rw [Chip.measExt, if_pos hallow, Chip.measure, if_neg (by rw [hl]; exact Bool.false_ne_true), logPut_fw hext]
  refine ⟨?_, ?_⟩
  · show (measNext c.fw.meas i c.extDigest)[i]! = _
    rw [measNext]
    simp [h8]
  · simp [hkind]

theorem extDigest_of_rd {c d : Chip} (h : ∀ w, d.rd (.MEAS_EXT_DATA w) = c.rd (.MEAS_EXT_DATA w)) : d.extDigest = c.extDigest := by
  simp only [Chip.extDigest, h]

theorem opened_fw (c : Chip) (p : RegPath) (r : Reg) : (opened c p r).fw = c.fw := by
  obtain ⟨f, hf⟩ := opened_eq c p r
  rw [hf]

theorem opened_clk (c : Chip) (p : RegPath) (r : Reg) : (opened c p r).clk = c.clk := by
  obtain ⟨f, hf⟩ := opened_eq c p r
  rw [hf]

theorem measExt_grants (c : Chip) (win : Bool) (i : Nat) : (c.measExt win i).pond = c.pond := by
  have hf : Fr (keeping [.pond] []) c (c.measExt win i) := by
    apply Chip.measExt_fr (Fr.refl _ c) <;> simp
  exact hf.kept.pond (by simp)

/-- The chip when a write of MEAS_EXT_CTL has stored its INDEX. -/
def measIndexed (c : Chip) (p : RegPath) (i : Nat) : Chip :=
  (opened c p .MEAS_EXT_CTL).setF .MEAS_EXT_CTL F.MEAS_EXT_CTL_INDEX i

theorem measIndexed_fw (c : Chip) (p : RegPath) (i : Nat) : (measIndexed c p i).fw = c.fw := opened_fw _ _ _

theorem measIndexed_extDigest (c : Chip) (p : RegPath) (i : Nat) : (measIndexed c p i).extDigest = c.extDigest :=
  extDigest_of_rd fun _ => (rd_setF_other _ _ _ (by simp)).trans (opened_rd _ _ _ _)

theorem runs_measExt_allowed {s : State} {p : RegPath} {v : Word} (hg : s.chip.pond.grants = [])
    (hw : Writable s.chip p .MEAS_EXT_CTL v) (hgo : fget v F.MEAS_EXT_CTL_GO = 1) (h5 : 5 ≤ fget v F.MEAS_EXT_CTL_INDEX)
    (hr : s.chip.fw.hs = .run) (hl : s.chip.logFull = false) :
    Runs (.measExtGo p v) s (fun c => c.fab.answers[p] = ⟨0#32, fsDONE⟩ ∧
      c.fw.meas[fget v F.MEAS_EXT_CTL_INDEX]! =
        sha384 (digestBytes s.chip.fw.meas[fget v F.MEAS_EXT_CTL_INDEX]! ++ digestBytes s.chip.extDigest) ∧
      c.fw.log.getLast?.map (fun x => (x.kind, x.meas, x.digest)) = some (6, fget v F.MEAS_EXT_CTL_INDEX, s.chip.extDigest)) := by
  have hexec : exec (.measExtGo p v) s = execMeasExtGo p v s := rfl
  have hallow : measAllowed (p.val != 1) (fget v F.MEAS_EXT_CTL_INDEX) = true := by simp [measAllowed, h5]
  have hfw := measIndexed_fw s.chip p (fget v F.MEAS_EXT_CTL_INDEX)
  obtain ⟨hmeas, hlog⟩ := measExt_fw (win := p.val != 1) (c := measIndexed s.chip p (fget v F.MEAS_EXT_CTL_INDEX)) h5
    (meas_ctl_index_lt v) (by rw [hfw]; exact hr) (by rw [Chip.logFull, hfw]; exact hl)
  rw [measIndexed_extDigest, hfw] at hmeas
  rw [measIndexed_extDigest] at hlog
  refine runs_pathWrite hexec hw (d := (measIndexed s.chip p (fget v F.MEAS_EXT_CTL_INDEX)).measExt (p.val != 1)
    (fget v F.MEAS_EXT_CTL_INDEX)) ?_ ?_ ⟨fabAnswer_answers _ _ _, hmeas, hlog⟩
  · show Chip.measCtl _ _ _ = _
    rw [Chip.measCtl]
    simp only [hallow, hgo, if_true]
    rfl
  · rw [measExt_grants]
    exact (congrArg Pond.grants (opened_pond _ _ _)).trans hg

theorem runs_measExt_denied {s : State} {p : RegPath} {v : Word} (h : Canon s.chip) (hg : s.chip.pond.grants = []) (hp : p ≠ 1)
    (hw : Writable s.chip p .MEAS_EXT_CTL v) (h5 : fget v F.MEAS_EXT_CTL_INDEX < 5) :
    Runs (.measExtGo p v) s (fun c => c.bit .BOOT_STATUS F.BOOT_STATUS_EXT_DENIED = true ∧ c.fw = s.chip.fw ∧
      c.get .MEAS_EXT_CTL F.MEAS_EXT_CTL_INDEX = s.chip.get .MEAS_EXT_CTL F.MEAS_EXT_CTL_INDEX) := by
  have hexec : exec (.measExtGo p v) s = execMeasExtGo p v s := rfl
  have hwin : (p.val != 1) = true := by
    simpa using fun h1 => hp (Fin.ext h1)
  have hallow : measAllowed (p.val != 1) (fget v F.MEAS_EXT_CTL_INDEX) = false := by simp [measAllowed, hwin, h5]
  refine runs_pathWrite hexec hw (d := (opened s.chip p .MEAS_EXT_CTL).record .BOOT_STATUS F.BOOT_STATUS_EXT_DENIED) ?_ ?_ ⟨?_, ?_, ?_⟩
  · show Chip.measCtl _ _ _ = _
    rw [Chip.measCtl]
    simp only [hallow, Bool.false_eq_true, if_false]
  · exact (congrArg Pond.grants (opened_pond _ _ _)).trans hg
  · exact (bit_of_rd (fabAnswer_rd _ _ _ _) _).trans (bit_record_same _ (canon_opened h _ _) _ _ (by decide) (by decide))
  · exact opened_fw _ _ _
  · exact get_of_rd ((fabAnswer_rd _ _ _ _).trans ((rd_record_other _ _ (by simp)).trans (opened_rd _ _ _ _))) _

/-! ### ATT_CTL -/

theorem quoteRom_of_fw {c d : Chip} (h : d.fw = c.fw) (l : List Byte) : d.quoteRom l = c.quoteRom l := by
  simp only [Chip.quoteRom, h]

/-- The nonce that ATT_NONCE holds. -/
def romNonce (c : Chip) : List Byte := (List.finRange 8).flatMap (fun w => leBytes 4 (c.rd (.ATT_NONCE w)).toNat)

/-- The chip with the boot ROM's quote of that nonce (R87). -/
def romQuoted (c : Chip) : Chip := c.updFw (fun f => { f with attQuote := c.quoteRom (romNonce c) })

theorem romQuoted_quote (c : Chip) (p : RegPath) : (romQuoted (opened c p .ATT_CTL)).fw.attQuote = c.quoteRom (romNonce c) := by
  show (opened c p .ATT_CTL).quoteRom (romNonce (opened c p .ATT_CTL)) = _
  rw [quoteRom_of_fw (opened_fw c p .ATT_CTL)]
  simp only [romNonce, opened_rd]

theorem runs_attCtl_recovery {s : State} {p : RegPath} {v : Word} (h : Canon s.chip) (hg : s.chip.pond.grants = [])
    (hw : Writable s.chip p .ATT_CTL v) (hgo : fget v F.ATT_CTL_GO = 1) (hrec : s.chip.bit .BOOT_STATUS F.BOOT_STATUS_RECOVERY = true) :
    Runs (.attCtlGo p v) s (fun c => c.bit .ATT_CTL F.ATT_CTL_DONE = true ∧ c.bit .ATT_CTL F.ATT_CTL_ERR = false ∧
      c.fw.attQuote = s.chip.quoteRom (romNonce s.chip)) := by
  have hexec : exec (.attCtlGo p v) s = execAttCtlGo p v s := rfl
  have hopen := canon_opened h p .ATT_CTL
  have hcan : Canon (romQuoted (opened s.chip p .ATT_CTL)) := ⟨hopen.regs, hopen.flash, hopen.blocks⟩
  have hrec' : (opened s.chip p .ATT_CTL).bit .BOOT_STATUS F.BOOT_STATUS_RECOVERY = true := (bit_of_rd (opened_rd _ _ _ _) _).trans hrec
  refine runs_pathWrite hexec hw (d := ((romQuoted (opened s.chip p .ATT_CTL)).setF .ATT_CTL F.ATT_CTL_DONE 1).setF .ATT_CTL
    F.ATT_CTL_ERR 0) ?_ ?_ ⟨?_, ?_, romQuoted_quote _ _⟩
  · show Chip.attCtl _ _ = _
    rw [Chip.attCtl, if_neg (by rw [hgo]; decide), if_pos hrec']
    rfl
  · exact (congrArg Pond.grants (opened_pond _ _ _)).trans hg
  · refine (bit_of_rd (fabAnswer_rd _ _ _ _) _).trans
      ((bit_setF_field _ (canon_setF hcan _ _ _) _ _ _ _ (by decide) (by decide) (by decide)).trans ?_)
    exact bit_setF_one _ hcan _ _ (by decide)
  · exact (bit_of_rd (fabAnswer_rd _ _ _ _) _).trans (bit_setF_zero _ (canon_setF hcan _ _ _) _ _ (by decide))

theorem runs_attCtl_error {s : State} {p : RegPath} {v : Word} (h : Canon s.chip) (hg : s.chip.pond.grants = [])
    (hw : Writable s.chip p .ATT_CTL v) (hgo : fget v F.ATT_CTL_GO = 1) (hrec : s.chip.bit .BOOT_STATUS F.BOOT_STATUS_RECOVERY = false) :
    Runs (.attCtlGo p v) s (fun c => c.bit .ATT_CTL F.ATT_CTL_DONE = false ∧ c.bit .ATT_CTL F.ATT_CTL_ERR = true ∧
      c.fw = s.chip.fw) := by
  have hexec : exec (.attCtlGo p v) s = execAttCtlGo p v s := rfl
  have hcan := canon_opened h p .ATT_CTL
  have hrec' : (opened s.chip p .ATT_CTL).bit .BOOT_STATUS F.BOOT_STATUS_RECOVERY = false := (bit_of_rd (opened_rd _ _ _ _) _).trans hrec
  refine runs_pathWrite hexec hw (d := ((opened s.chip p .ATT_CTL).setF .ATT_CTL F.ATT_CTL_ERR 1).setF .ATT_CTL F.ATT_CTL_DONE 0)
    ?_ ?_ ⟨?_, ?_, opened_fw _ _ _⟩
  · show Chip.attCtl _ _ = _
    rw [Chip.attCtl, if_neg (by rw [hgo]; decide), hrec', if_neg Bool.false_ne_true]
  · exact (congrArg Pond.grants (opened_pond _ _ _)).trans hg
  · exact (bit_of_rd (fabAnswer_rd _ _ _ _) _).trans (bit_setF_zero _ (canon_setF hcan _ _ _) _ _ (by decide))
  · refine (bit_of_rd (fabAnswer_rd _ _ _ _) _).trans
      ((bit_setF_field _ (canon_setF hcan _ _ _) _ _ _ _ (by decide) (by decide) (by decide)).trans ?_)
    exact bit_setF_one _ hcan _ _ (by decide)

/-! ### Operations of the xSPI controller begun by XSPI_CMD -/

theorem bankProtected_of_rd {c d : Chip} (h : d.rd .BOOT_STATUS = c.rd .BOOT_STATUS) (b : Nat) :
    d.bankProtected b = c.bankProtected b := by
  simp only [Chip.bankProtected, bit_of_rd h, get_of_rd h]

theorem xspiVerdict_of_rd {c d : Chip} (h : d.rd .BOOT_STATUS = c.rd .BOOT_STATUS) (o : XspiOp) : d.xspiVerdict o = c.xspiVerdict o := by
  simp only [Chip.xspiVerdict, bankProtected_of_rd h]

theorem xspiBuf_of_rd {c d : Chip} (h : ∀ w, d.rd (.XSPI_DATA w) = c.rd (.XSPI_DATA w)) : d.xspiBuf = c.xspiBuf := by
  simp only [Chip.xspiBuf, h]

theorem xspiWord_fields (c : Chip) {op len : Nat} (ho : op < 16) (hl : len < 512) :
    fget (c.xspiWord op len) F.XSPI_CMD_OP = op ∧ fget (c.xspiWord op len) F.XSPI_CMD_LEN = len ∧
      fget (c.xspiWord op len) F.XSPI_CMD_GO = 1 := by
  unfold Chip.xspiWord
  refine ⟨?_, ?_, fget_fset_same _ _ _ (by decide)⟩
  · rw [fget_fset_other _ _ _ _ (by decide) (by decide) (by decide), fget_fset_other _ _ _ _ (by decide) (by decide) (by decide),
      fget_fset_same _ _ _ (by decide)]
    exact Nat.mod_eq_of_lt ho
  · rw [fget_fset_other _ _ _ _ (by decide) (by decide) (by decide), fget_fset_same _ _ _ (by decide)]
    exact Nat.mod_eq_of_lt hl

/-- The chip when a write of XSPI_CMD has stored its fields. -/
def xspiWritten (c : Chip) (p : RegPath) (v : Word) : Chip := (opened c p .XSPI_CMD).wrRW .XSPI_CMD v

/-- The operation that a write of XSPI_CMD asks for. -/
def xspiAsked (c : Chip) (op len : Nat) : XspiOp :=
  { op := op, addr := c.get .XSPI_ADDR F.XSPI_ADDR_ADDR, len := len, data := c.xspiBuf.take len, req := none }

theorem xspiWritten_rd (c : Chip) (p : RegPath) (v : Word) {r : Reg} (h : r ≠ .XSPI_CMD) : (xspiWritten c p v).rd r = c.rd r :=
  (wrRW_rd_other _ v h).trans (opened_rd _ _ _ _)

theorem xspiWritten_kept (c : Chip) (p : RegPath) (v : Word) :
    (xspiWritten c p v).fw = c.fw ∧ (xspiWritten c p v).clk = c.clk ∧ (xspiWritten c p v).pond = c.pond := by
  have hk := (wrRW_fr (opened c p .XSPI_CMD) .XSPI_CMD v).kept
  exact ⟨(hk.fw (by simp [frWrRW])).trans (opened_fw _ _ _), (hk.clk (by simp [frWrRW])).trans (opened_clk _ _ _),
    (hk.pond (by simp [frWrRW])).trans (opened_pond _ _ _)⟩

theorem canon_xspiWritten {c : Chip} (h : Canon c) (p : RegPath) (v : Word) : Canon (xspiWritten c p v) :=
  canon_wrRW (canon_opened h _ _) _ _

theorem xspiWritten_go {c : Chip} (h : Canon c) (p : RegPath) {op len : Nat} (ho : op < 16) (hl : len < 512) :
    (xspiWritten c p (c.xspiWord op len)).bit .XSPI_CMD F.XSPI_CMD_GO = true := by
  rw [Chip.bit, xspiWritten, get_wrRW_field (canon_opened h _ _) _ _ _ (by decide) (by decide) (fun _ => rfl),
    (xspiWord_fields c ho hl).2.2]
  rfl

/-- A write of XSPI_CMD while GO is 0 issues the operation that its fields name (R104). -/
theorem putReg_xspiCmd {c : Chip} (p : RegPath) (win : Bool) {op len : Nat} (ho : op < 16) (hl : len < 512)
    (hgo : c.bit .XSPI_CMD F.XSPI_CMD_GO = false) :
    (opened c p .XSPI_CMD).putReg p win .XSPI_CMD (c.xspiWord op len) =
      (xspiWritten c p (c.xspiWord op len)).xspiIssue (xspiAsked c op len) := by
  obtain ⟨hop, hlen, hset⟩ := xspiWord_fields c ho hl
  have hgo' : (opened c p .XSPI_CMD).bit .XSPI_CMD F.XSPI_CMD_GO = false := (bit_of_rd (opened_rd _ _ _ _) _).trans hgo
  show Chip.xspiCmd _ _ = _
  rw [Chip.xspiCmd, hgo', if_neg Bool.false_ne_true]
  dsimp only
  rw [hset, if_neg (by decide), hop, hlen]
  show (xspiWritten c p _).xspiIssue _ = _
  rw [show (Chip.wrRW _ _ _).get .XSPI_ADDR F.XSPI_ADDR_ADDR = c.get .XSPI_ADDR F.XSPI_ADDR_ADDR from
      get_of_rd (xspiWritten_rd c p _ (by simp)) _,
    show (Chip.wrRW _ _ _).xspiBuf = c.xspiBuf from xspiBuf_of_rd fun w => xspiWritten_rd c p _ (by simp)]
  rfl

/-- Whether an operation is let through does not turn on when it began. -/
theorem xspiVerdict_since (c : Chip) (o : XspiOp) (t : Nat) : c.xspiVerdict { o with since := t } = c.xspiVerdict o := rfl

/-- Of an erase only its address counts. -/
theorem xspiVerdict_erase (c : Chip) {o x : XspiOp} (ho : o.op = xoERASE) (hx : x.op = xoERASE) (h : o.addr = x.addr) :
    c.xspiVerdict o = c.xspiVerdict x := by
  simp only [Chip.xspiVerdict, ho, hx, h]
  rfl

theorem xspiLen_lt (c : Chip) : c.get .XSPI_CMD F.XSPI_CMD_LEN < 512 :=
  ((c.rd .XSPI_CMD).extractLsb' F.XSPI_CMD_LEN.lo (F.XSPI_CMD_LEN.hi + 1 - F.XSPI_CMD_LEN.lo)).isLt

/-- An operation that XSPI_CMD may begin runs, and the controller is busy. -/
theorem runs_xspi_begins {s : State} {i : Instr} {p : RegPath} {op len : Nat} (h : Canon s.chip) (hg : s.chip.pond.grants = [])
    (hi : exec i s = s.runES (fun c => c.pathWrite p (Reg.XSPI_CMD).addr (s.chip.xspiWord op len))) (ho : op < 16) (hl : len < 512)
    (hw : Writable s.chip p .XSPI_CMD (s.chip.xspiWord op len)) (hgo : s.chip.bit .XSPI_CMD F.XSPI_CMD_GO = false)
    (hfree : s.chip.fw.xspi = none) (hv : s.chip.xspiVerdict (xspiAsked s.chip op len) = xeNONE) :
    Runs i s (fun c => c.fab.answers[p] = ⟨0#32, fsDONE⟩ ∧
      c.fw.xspi = some { xspiAsked s.chip op len with since := s.chip.clk.now } ∧
      c.bit .XSPI_STATUS F.XSPI_STATUS_BUSY = true ∧ c.bit .XSPI_CMD F.XSPI_CMD_GO = true) := by
  obtain ⟨hfw, hclk, hpond⟩ := xspiWritten_kept s.chip p (s.chip.xspiWord op len)
  have hfree' : (xspiWritten s.chip p (s.chip.xspiWord op len)).fw.xspi = none := by rw [hfw]; exact hfree
  have hv' : (xspiWritten s.chip p (s.chip.xspiWord op len)).xspiVerdict (xspiAsked s.chip op len) = xeNONE :=
    (xspiVerdict_of_rd (xspiWritten_rd _ _ _ (by simp)) _).trans hv
  obtain ⟨hrun, hbusy⟩ := xspiIssue_busy (canon_xspiWritten h p _) hfree' hv'
  have hbegin := xspiIssue_begins hfree' hv'
  refine runs_pathWrite hi hw (putReg_xspiCmd p _ ho hl hgo) ?_ ⟨fabAnswer_answers _ _ _, ?_, ?_, ?_⟩
  · rw [hbegin]
    exact (congrArg Pond.grants hpond).trans hg
  · rw [hclk] at hrun
    exact hrun
  · exact (bit_of_rd (fabAnswer_rd _ _ _ _) _).trans hbusy
  · rw [bit_of_rd (fabAnswer_rd _ _ _ _), hbegin]
    exact (bit_of_rd (rd_setF_other _ _ _ (by simp)) _).trans (xspiWritten_go h p ho hl)

/-! ### The end of an operation -/

/-- The chip when XSPI_STATUS shows how an operation ended. -/
def xspiNoted (c : Chip) (err : Nat) (fsr : Option Byte) : Chip :=
  let c := (c.setF .XSPI_STATUS F.XSPI_STATUS_ERR err).setF .XSPI_STATUS F.XSPI_STATUS_BUSY 0
  let c := match fsr with
    | none => c
    | some b => c.setF .XSPI_STATUS F.XSPI_STATUS_FSR b.toNat
  c.record .XSPI_STATUS F.XSPI_STATUS_DONE

theorem xspiClose_eq (c : Chip) (o : XspiOp) (err : Nat) (fsr : Option Byte) :
    c.xspiClose o err fsr = match o.req with
      | none => (xspiNoted c err fsr).setF .XSPI_CMD F.XSPI_CMD_GO 0
      | some q => (xspiNoted c err fsr).answer q (if err = xeNONE then rOK else if err = xeTIMEOUT then rTIMEOUT
          else if err = xePROTECTED then rLOCKED else rBAD_ARG) := by
  unfold Chip.xspiClose
  split <;> rfl

theorem canon_xspiNoted {c : Chip} (h : Canon c) (err : Nat) (fsr : Option Byte) : Canon (xspiNoted c err fsr) := by
  have hset := canon_setF (canon_setF h .XSPI_STATUS F.XSPI_STATUS_ERR err) .XSPI_STATUS F.XSPI_STATUS_BUSY 0
  cases fsr with
  | none => exact canon_record hset _ _
  | some b => exact canon_record (canon_setF hset _ _ _) _ _

theorem xspiNoted_rd (c : Chip) (err : Nat) (fsr : Option Byte) {r : Reg} (h : r ≠ .XSPI_STATUS) :
    (xspiNoted c err fsr).rd r = c.rd r := by
  have hset : ((c.setF .XSPI_STATUS F.XSPI_STATUS_ERR err).setF .XSPI_STATUS F.XSPI_STATUS_BUSY 0).rd r = c.rd r :=
    (rd_setF_other _ _ _ h).trans (rd_setF_other _ _ _ h)
  cases fsr with
  | none => exact (rd_record_other _ _ h).trans hset
  | some b => exact (rd_record_other _ _ h).trans ((rd_setF_other _ _ _ h).trans hset)

theorem xspiNoted_done {c : Chip} (h : Canon c) (err : Nat) (fsr : Option Byte) :
    (xspiNoted c err fsr).bit .XSPI_STATUS F.XSPI_STATUS_DONE = true := by
  have hset := canon_setF (canon_setF h .XSPI_STATUS F.XSPI_STATUS_ERR err) .XSPI_STATUS F.XSPI_STATUS_BUSY 0
  cases fsr with
  | none => exact bit_record_same _ hset _ _ (by decide) (by decide)
  | some b => exact bit_record_same _ (canon_setF hset _ _ _) _ _ (by decide) (by decide)

/-- The fields below FSR and DONE, as the first two writes left them. -/
theorem xspiNoted_get {c : Chip} (h : Canon c) (err : Nat) (fsr : Option Byte) (f : Field) (hf : f.hi < F.XSPI_STATUS_FSR.lo)
    (hd : F.XSPI_STATUS_DONE.hi < f.lo ∨ f.hi < F.XSPI_STATUS_DONE.lo) :
    (xspiNoted c err fsr).get .XSPI_STATUS f =
      ((c.setF .XSPI_STATUS F.XSPI_STATUS_ERR err).setF .XSPI_STATUS F.XSPI_STATUS_BUSY 0).get .XSPI_STATUS f := by
  have hset := canon_setF (canon_setF h .XSPI_STATUS F.XSPI_STATUS_ERR err) .XSPI_STATUS F.XSPI_STATUS_BUSY 0
  have hlt : f.hi < 24 := Nat.lt_trans hf (by decide)
  cases fsr with
  | none => exact get_record_field _ hset _ _ _ (by decide) hlt hd
  | some b =>
    exact (get_record_field _ (canon_setF hset _ _ _) _ _ _ (by decide) hlt hd).trans
      (get_setF_field _ hset _ _ _ _ (by decide) (Nat.lt_trans hlt (by decide)) (Or.inr hf))

theorem xspiNoted_err {c : Chip} (h : Canon c) {err : Nat} (he : err < 4) (fsr : Option Byte) :
    (xspiNoted c err fsr).get .XSPI_STATUS F.XSPI_STATUS_ERR = err := by
  rw [xspiNoted_get h _ _ _ (by decide) (by decide),
    get_setF_field _ (canon_setF h _ _ _) _ _ _ _ (by decide) (by decide) (by decide), get_setF_same _ h _ _ _ (by decide)]
  exact Nat.mod_eq_of_lt he

theorem xspiNoted_busy {c : Chip} (h : Canon c) (err : Nat) (fsr : Option Byte) :
    (xspiNoted c err fsr).bit .XSPI_STATUS F.XSPI_STATUS_BUSY = false := by
  rw [Chip.bit, xspiNoted_get h _ _ _ (by decide) (by decide)]
  exact bit_setF_zero _ (canon_setF h _ _ _) _ _ (by decide)

theorem xspiNoted_fsr {c : Chip} (h : Canon c) (err : Nat) (b : Byte) :
    (xspiNoted c err (some b)).get .XSPI_STATUS F.XSPI_STATUS_FSR = b.toNat := by
  have hset := canon_setF (canon_setF h .XSPI_STATUS F.XSPI_STATUS_ERR err) .XSPI_STATUS F.XSPI_STATUS_BUSY 0
  refine (get_record_field _ (canon_setF hset _ _ _) _ _ _ (by decide) (by decide) (by decide)).trans ?_
  rw [get_setF_same _ hset _ _ _ (by decide)]
  exact Nat.mod_eq_of_lt b.isLt

theorem xspiNoted_kept (c : Chip) (err : Nat) (fsr : Option Byte) :
    (xspiNoted c err fsr).fw = c.fw ∧ (xspiNoted c err fsr).pond = c.pond ∧ (xspiNoted c err fsr).doors = c.doors := by
  cases fsr <;> exact ⟨rfl, rfl, rfl⟩

theorem xspiNoted_fr {a c : Chip} (h : Fr (keeping [.pond, .doors, .reqs] []) a c) (err : Nat) (b : Byte) :
    Fr (keeping [.pond, .doors, .reqs] []) a (xspiNoted c err (some b)) := by
  unfold xspiNoted
  refine Chip.record_fr (Chip.setF_fr (Chip.setF_fr (Chip.setF_fr h ?_) ?_) ?_) ?_ <;> simp

theorem xspiVerdict_lt (c : Chip) (o : XspiOp) : c.xspiVerdict o < 4 := by
  have hite : ∀ {p : Prop} [Decidable p] {a b : Nat}, a < 4 → b < 4 → (if p then a else b) < 4 := by
    intro p _ a b ha hb
    split
    · exact ha
    · exact hb
  have hprot : ∀ {p q : Prop} [Decidable p] [Decidable q], (if p then xeBAD_ARG else if q then xePROTECTED else xeNONE) < 4 :=
    hite (by decide) (hite (by decide) (by decide))
  unfold Chip.xspiVerdict
  dsimp only
  split
  · exact hite (by decide) (by decide)
  · exact hprot
  · exact hprot
  · decide
  · decide

theorem runs_xspi_refused {s : State} {p : RegPath} {k : BitVec 9} (h : Canon s.chip) (hg : s.chip.pond.grants = [])
    (hw : Writable s.chip p .XSPI_CMD (s.chip.xspiWord xoPROGRAM k.toNat)) (hgo : s.chip.bit .XSPI_CMD F.XSPI_CMD_GO = false)
    (hfree : s.chip.fw.xspi = none) (hv : s.chip.xspiVerdict (xspiAsked s.chip xoPROGRAM k.toNat) ≠ xeNONE) :
    Runs (.xspiProgram p k) s (fun c => c.fw = s.chip.fw ∧
      c.get .XSPI_STATUS F.XSPI_STATUS_ERR = s.chip.xspiVerdict (xspiAsked s.chip xoPROGRAM k.toNat) ∧
      c.bit .XSPI_STATUS F.XSPI_STATUS_DONE = true ∧ c.bit .XSPI_CMD F.XSPI_CMD_GO = false) := by
  have hexec : exec (.xspiProgram p k) s = s.runES (fun c => c.pathWrite p (Reg.XSPI_CMD).addr (s.chip.xspiWord xoPROGRAM k.toNat)) := rfl
  obtain ⟨hfw, -, hpond⟩ := xspiWritten_kept s.chip p (s.chip.xspiWord xoPROGRAM k.toNat)
  have hcan := canon_xspiWritten h p (s.chip.xspiWord xoPROGRAM k.toNat)
  have hverdict : (xspiWritten s.chip p (s.chip.xspiWord xoPROGRAM k.toNat)).xspiVerdict (xspiAsked s.chip xoPROGRAM k.toNat) =
      s.chip.xspiVerdict (xspiAsked s.chip xoPROGRAM k.toNat) := xspiVerdict_of_rd (xspiWritten_rd _ _ _ (by simp)) _
  obtain ⟨hnfw, hnpond, -⟩ := xspiNoted_kept (xspiWritten s.chip p (s.chip.xspiWord xoPROGRAM k.toNat))
    (s.chip.xspiVerdict (xspiAsked s.chip xoPROGRAM k.toNat)) none
  have hissue : (xspiWritten s.chip p (s.chip.xspiWord xoPROGRAM k.toNat)).xspiIssue (xspiAsked s.chip xoPROGRAM k.toNat) =
      (xspiNoted (xspiWritten s.chip p (s.chip.xspiWord xoPROGRAM k.toNat)) (s.chip.xspiVerdict (xspiAsked s.chip xoPROGRAM k.toNat))
        none).setF .XSPI_CMD F.XSPI_CMD_GO 0 := by
    rw [Chip.xspiIssue, hfw, hfree, if_neg (by simp), Chip.xspiBegin, hverdict]
    dsimp only
    rw [if_pos hv, xspiClose_eq]
    rfl
  refine runs_pathWrite hexec hw ((putReg_xspiCmd p _ (by decide) k.isLt hgo).trans hissue) ?_ ⟨?_, ?_, ?_, ?_⟩
  · exact (congrArg Pond.grants (hnpond.trans hpond)).trans hg
  · exact hnfw.trans hfw
  · exact (get_of_rd (rd_setF_other _ _ _ (by simp)) _).trans (xspiNoted_err hcan (xspiVerdict_lt _ _) none)
  · exact (bit_of_rd (rd_setF_other _ _ _ (by simp)) _).trans (xspiNoted_done hcan _ none)
  · exact bit_setF_zero _ (canon_xspiNoted hcan _ _) _ _ (by decide)

/-- What the end of an operation does to the flash and the buffer, before XSPI_STATUS shows it (R104). -/
def xspiEnded (c : Chip) (o : XspiOp) (late : Bool) : Chip :=
  let c := c.updFw (fun f => { f with xspi := none })
  if late then c.xspiCut o else c.xspiDo o

theorem xspiEnded_kept (c : Chip) (o : XspiOp) (late : Bool) :
    Fr (keeping [.pond, .doors, .reqs] []) c (xspiEnded c o late) := by
  have hf : Fr (keeping [.pond, .doors, .reqs] []) c (c.updFw (fun f => { f with xspi := none })) :=
    (Fr.refl _ c).fw (by simp) _ rfl
  unfold xspiEnded
  dsimp only
  split
  · apply Chip.xspiCut_fr hf <;> simp
  · apply Chip.xspiDo_fr hf <;> simp

/-- Nothing runs and nothing waits once the only operation has ended. -/
theorem xspiEnded_idle {c : Chip} (o : XspiOp) (late : Bool) (hq : c.fw.xspiQueue = []) :
    (xspiEnded c o late).fw.xspi = none ∧ (xspiEnded c o late).fw.xspiQueue = [] := by
  unfold xspiEnded Chip.xspiCut Chip.xspiDo
  dsimp only
  split <;> split
  all_goals exact ⟨rfl, hq⟩

theorem xspiClose_kept (c : Chip) (o : XspiOp) (err : Nat) (fsr : Option Byte) :
    Kept (keeping [.fw, .flash, .pond] []) c (c.xspiClose o err fsr) := by
  have hf : Fr (keeping [.fw, .flash, .pond] []) c (c.xspiClose o err fsr) := by
    apply Chip.xspiClose_fr (Fr.refl _ c) <;> simp
  exact hf.kept

theorem xspiClose_rd (c : Chip) (o : XspiOp) (err : Nat) (fsr : Option Byte) {r : Reg} (h : r ≠ .XSPI_CMD) :
    (c.xspiClose o err fsr).rd r = (xspiNoted c err fsr).rd r := by
  rw [xspiClose_eq]
  split
  · exact rd_setF_other _ _ _ h
  · exact (fr_answer (ps := []) (rs := [r]) _ _ _ _ _ (by simp)).kept.regs r (by simp)

theorem xspiNext_idle {c : Chip} (h : c.fw.xspiQueue = []) : c.xspiNext = c := by
  rw [Chip.xspiNext, h]
  rfl

/-- An operation that ends in time, or when its time is over (R104, R96). -/
theorem xspiEnd_ends {c : Chip} {o : XspiOp} {ready late : Bool} {b : Byte} (ho : c.fw.xspi = some o) (hq : c.fw.xspiQueue = [])
    (ht : (ready = true ∧ (late = true ↔ o.since + xspiMax o.op < c.clk.now)) ∨
      (ready = false ∧ late = true ∧ o.since + xspiMax o.op ≤ c.clk.now)) :
    c.xspiEnd ready b = (xspiEnded c o late).xspiClose o (if late then xeTIMEOUT else xeNONE) (some b) := by
  have hlate : (if ready then decide (o.since + xspiMax o.op < c.clk.now) else decide (o.since + xspiMax o.op ≤ c.clk.now)) = late := by
    rcases ht with ⟨rfl, ht⟩ | ⟨rfl, rfl, ht⟩
    · rw [if_pos rfl]
      cases late <;> simpa using ht
    · simpa using ht
  have hgo : (!ready && !late) = false := by
    rcases ht with ⟨rfl, -⟩ | ⟨rfl, rfl, -⟩ <;> rfl
  have hidle : ((xspiEnded c o late).xspiClose o (if late then xeTIMEOUT else xeNONE) (some b)).fw.xspiQueue = [] := by
    rw [(xspiClose_kept _ _ _ _).fw (by simp)]
    exact (xspiEnded_idle o late hq).2
  unfold Chip.xspiEnd
  simp only [ho, hlate, hgo]
  rw [if_neg Bool.false_ne_true]
  exact xspiNext_idle hidle

/-! ### The buffer -/

theorem leVal_lt : ∀ l : List Byte, leVal l < 256 ^ l.length
  | [] => by simp [leVal]
  | b :: t => by
    have ih := leVal_lt t
    have hb := b.isLt
    rw [leVal, List.length_cons, pow_succ]
    omega

theorem leBytes_leVal : ∀ l : List Byte, leBytes l.length (leVal l) = l
  | [] => rfl
  | b :: t => by
    have hb := b.isLt
    have hdiv : (b.toNat + 256 * leVal t) / 256 = leVal t := by omega
    rw [List.length_cons, leVal, leBytes, hdiv, leBytes_leVal t]
    congr 1
    apply BitVec.eq_of_toNat_eq
    rw [BitVec.toNat_ofNat]
    omega

/-- A word of four bytes gives them back. -/
theorem leBytes_word {l : List Byte} {k : Nat} (h : k + 4 ≤ l.length) :
    leBytes 4 (BitVec.ofNat 32 (leAt l k 4)).toNat = (l.drop k).take 4 := by
  have hlen : ((l.drop k).take 4).length = 4 := by
    rw [List.length_take, List.length_drop]
    omega
  have hbytes : bytesAt l k 4 = (l.drop k).take 4 := by simp [bytesAt, hlen]
  have hlt := leVal_lt ((l.drop k).take 4)
  rw [hlen, show 256 ^ 4 = 2 ^ 32 from rfl] at hlt
  rw [leAt, hbytes, BitVec.toNat_ofNat, Nat.mod_eq_of_lt hlt]
  have hback := leBytes_leVal ((l.drop k).take 4)
  rwa [hlen] at hback

theorem flatMap_chunks (l : List Byte) : ∀ n, (List.range n).flatMap (fun i => (l.drop (4 * i)).take 4) = l.take (4 * n)
  | 0 => by simp
  | n + 1 => by
    rw [List.range_succ, List.flatMap_append, flatMap_chunks l n, Nat.mul_succ, List.take_add]
    simp

/-- Words written into distinct registers of the buffer read back. -/
theorem each_wr_data (v : Fin 64 → Word) : ∀ (l : List (Fin 64)) (c : Chip), Canon c → l.Nodup →
    ∀ w, (c.each l (fun c w => c.wr (.XSPI_DATA w) (v w))).rd (.XSPI_DATA w) = if w ∈ l then v w else c.rd (.XSPI_DATA w) := by
  intro l
  induction l with
  | nil => exact fun c _ _ w => by simp [Chip.each]
  | cons x l ih =>
    intro c hc hn w
    obtain ⟨hx, hl⟩ := List.nodup_cons.1 hn
    refine (ih _ (canon_wr hc _ _) hl w).trans ?_
    by_cases hw : w = x
    · subst hw
      rw [if_neg hx, rd_wr_same _ hc, if_pos List.mem_cons_self]
    · rw [rd_wr_other _ _ (by simpa using hw)]
      simp [hw]

theorem xspiBuf_length (c : Chip) : c.xspiBuf.length = 256 := by
  rw [Chip.xspiBuf, List.length_flatMap]
  simp [leBytes_length]

/-- The buffer begins with the bytes put there. -/
theorem xspiPut_buf {c : Chip} (h : Canon c) {l : List Byte} (hl : l.length ≤ 256) : (c.xspiPut l).xspiBuf.take l.length = l := by
  have hlen : (l ++ c.xspiBuf.drop l.length).length = 256 := by
    rw [List.length_append, List.length_drop, xspiBuf_length]
    omega
  have hword : ∀ w : Fin 64, leBytes 4 ((c.xspiPut l).rd (.XSPI_DATA w)).toNat = ((l ++ c.xspiBuf.drop l.length).drop (4 * w.val)).take 4 := by
    intro w
    unfold Chip.xspiPut
    dsimp only
    rw [each_wr_data _ _ c h (List.nodup_finRange 64), if_pos (List.mem_finRange w)]
    exact leBytes_word (by rw [hlen]; omega)
  have hbuf : (c.xspiPut l).xspiBuf = l ++ c.xspiBuf.drop l.length := by
    rw [Chip.xspiBuf]
    simp only [hword]
    calc (List.finRange 64).flatMap (fun w => ((l ++ c.xspiBuf.drop l.length).drop (4 * w.val)).take 4)
        = ((List.finRange 64).map Fin.val).flatMap (fun i => ((l ++ c.xspiBuf.drop l.length).drop (4 * i)).take 4) :=
          (List.flatMap_map _ _ _).symm
      _ = (l ++ c.xspiBuf.drop l.length).take (4 * 64) := by rw [List.map_coe_finRange_eq_range, flatMap_chunks]
      _ = l ++ c.xspiBuf.drop l.length := List.take_of_length_le (by rw [hlen])
  rw [hbuf, List.take_left]

/-! ### Answers of ended operations -/

theorem xspiEnded_read {c : Chip} (h : Canon c) {o : XspiOp} (hop : o.op = xoREAD) (hl : o.len ≤ 256) :
    (xspiEnded c o false).xspiBuf.take o.len = c.flashBytes o.addr o.len := by
  have hlen : ((c.updFw (fun f => { f with xspi := none })).flashBytes o.addr o.len).length = o.len := by simp [Chip.flashBytes]
  have hput := xspiPut_buf (c := c.updFw (fun f => { f with xspi := none })) ⟨h.regs, h.flash, h.blocks⟩ (hlen.le.trans hl)
  rw [hlen] at hput
  unfold xspiEnded Chip.xspiDo
  simp only [hop]
  exact hput

theorem runs_xspiOpEnd {s : State} {o : XspiOp} {y t : Bool} {b : Byte} (h : Canon s.chip) (hg : s.chip.pond.grants = [])
    (ho : s.chip.fw.xspi = some o) (hq : s.chip.fw.xspiQueue = [])
    (ht : (y = true ∧ (t = true ↔ o.since + xspiMax o.op < s.chip.clk.now)) ∨
      (y = false ∧ t = true ∧ o.since + xspiMax o.op ≤ s.chip.clk.now)) :
    Runs (.xspiOpEnd y b) s (fun c => c.fw.xspi = none ∧ c.bit .XSPI_STATUS F.XSPI_STATUS_BUSY = false ∧
      c.bit .XSPI_STATUS F.XSPI_STATUS_DONE = true ∧ c.get .XSPI_STATUS F.XSPI_STATUS_FSR = b.toNat ∧
      c.get .XSPI_STATUS F.XSPI_STATUS_ERR = (if t then xeTIMEOUT else xeNONE) ∧
      (t = false → o.op = xoREAD → o.len ≤ 256 → c.xspiBuf.take o.len = s.chip.flashBytes o.addr o.len) ∧
      (t = false → o.op = xoPROGRAM → c.fw.flash = flashProgram s.chip.fw.flash o.addr o.data) ∧
      (t = false → o.op = xoERASE → c.fw.flash = flashErase s.chip.fw.flash o.addr) ∧
      (t = false → o.op = xoREAD_ID → c.rd (.XSPI_DATA 0) = Config.jedecId) ∧
      (o.req = none → c.bit .XSPI_CMD F.XSPI_CMD_GO = false)) := by
  have hexec : exec (.xspiOpEnd y b) s = execXspiOpEnd y b s := rfl
  have hfr := xspiEnded_kept s.chip o t
  have hcan := hfr.canon h
  have hclose := xspiClose_kept (xspiEnded s.chip o t) o (if t then xeTIMEOUT else xeNONE) (some b)
  have hstat := xspiClose_rd (xspiEnded s.chip o t) o (if t then xeTIMEOUT else xeNONE) (some b) (r := .XSPI_STATUS) (by simp)
  have hdata : ∀ w, ((xspiEnded s.chip o t).xspiClose o (if t then xeTIMEOUT else xeNONE) (some b)).rd (.XSPI_DATA w) =
      (xspiEnded s.chip o t).rd (.XSPI_DATA w) := fun w =>
    (xspiClose_rd _ o _ _ (by simp)).trans (xspiNoted_rd _ _ _ (by simp))
  refine runs_of_runS_eq hexec (xspiEnd_ends ho hq ht) ?_ ⟨?_, ?_, ?_, ?_, ?_, ?_, ?_, ?_, ?_, ?_⟩
  · rw [hclose.pond (by simp), hfr.kept.pond (by simp), hg]
  · rw [hclose.fw (by simp)]
    exact (xspiEnded_idle o t hq).1
  · rw [bit_of_rd hstat, xspiNoted_busy hcan]
  · rw [bit_of_rd hstat, xspiNoted_done hcan]
  · rw [get_of_rd hstat, xspiNoted_fsr hcan]
  · rw [get_of_rd hstat, xspiNoted_err hcan (by cases t <;> decide)]
  · rintro rfl hop hl
    rw [xspiBuf_of_rd hdata, xspiEnded_read h hop hl]
  · rintro rfl hop
    rw [hclose.fw (by simp)]
    simp only [xspiEnded, Chip.xspiDo, hop]
    rfl
  · rintro rfl hop
    rw [hclose.fw (by simp)]
    simp only [xspiEnded, Chip.xspiDo, hop]
    rfl
  · rintro rfl hop
    rw [hdata]
    simp only [xspiEnded, Chip.xspiDo, hop]
    exact rd_wr_same (s.chip.updFw (fun f => { f with xspi := none })) ⟨h.regs, h.flash, h.blocks⟩ _ _
  · intro hreq
    rw [xspiClose_eq, hreq]
    exact bit_setF_zero _ (canon_xspiNoted hcan _ _) _ _ (by decide)

theorem runs_xspi_answered {s : State} {o : XspiOp} {b : Byte} {q : ReqId} {e : ReqEntry} (hg : s.chip.pond.grants = [])
    (ho : s.chip.fw.xspi = some o) (hq : s.chip.fw.xspiQueue = []) (hreq : o.req = some q) (he : s.chip.entry? q = some e)
    (hst : e.st ≠ .done) (hrel : (s.chip.doors[q.door]).releasing = none) (ht : s.chip.clk.now ≤ o.since + xspiMax o.op) :
    Runs (.xspiOpEnd true b) s (fun c => Answered c q e rOK []) := by
  have hexec : exec (.xspiOpEnd true b) s = execXspiOpEnd true b s := rfl
  have hfr := xspiEnded_kept s.chip o false
  have hend := xspiEnd_ends (b := b) (ready := true) (late := false) ho hq (Or.inl ⟨rfl, by simpa using ht⟩)
  have hclose := xspiClose_kept (xspiEnded s.chip o false) o xeNONE (some b)
  refine runs_of_runS_eq hexec hend ?_ ?_
  · exact (congrArg Pond.grants (hclose.pond (by simp))).trans ((congrArg Pond.grants (hfr.kept.pond (by simp))).trans hg)
  · have hreqs := xspiNoted_fr hfr xeNONE b
    rw [xspiClose_eq, hreq]
    exact answer_of_entry he hst hrel hreqs (by simp) _ _ _

theorem runs_xspi_waits {s : State} {o : XspiOp} {b : Byte} (h : Canon s.chip) (hg : s.chip.pond.grants = [])
    (ho : s.chip.fw.xspi = some o) (ht : s.chip.clk.now < o.since + xspiMax o.op) :
    Runs (.xspiOpEnd false b) s (fun c => c.fw = s.chip.fw ∧ c.get .XSPI_STATUS F.XSPI_STATUS_FSR = b.toNat ∧
      c.bit .XSPI_STATUS F.XSPI_STATUS_BUSY = s.chip.bit .XSPI_STATUS F.XSPI_STATUS_BUSY) := by
  have hexec : exec (.xspiOpEnd false b) s = execXspiOpEnd false b s := rfl
  have hlate : decide (o.since + xspiMax o.op ≤ s.chip.clk.now) = false := decide_eq_false (Nat.not_le.2 ht)
  refine runs_of_runS_eq hexec (d := s.chip.setF .XSPI_STATUS F.XSPI_STATUS_FSR b.toNat) ?_ hg ⟨rfl, ?_, ?_⟩
  · unfold Chip.xspiEnd
    simp only [ho, Bool.false_eq_true, if_false, hlate]
    rfl
  · rw [get_setF_same _ h _ _ _ (by decide)]
    exact Nat.mod_eq_of_lt b.isLt
  · exact bit_setF_field _ h _ _ _ _ (by decide) (by decide) (by decide)

/-- Settles O43: the extension and the ROM's quote by the registers' writes, an operation of the controller begun by XSPI_CMD, and
its end with what it leaves in the flash, the buffer and XSPI_STATUS. -/
theorem extendQuoteFlash : Obligations.ExtendQuoteFlash := by
  unfold Obligations.ExtendQuoteFlash
  intro s h hg p
  refine ⟨fun v hw hgo h5 hr hl => runs_measExt_allowed hg hw hgo h5 hr hl, fun v hp hw _ h5 => runs_measExt_denied h hg hp hw h5,
    fun v hw hgo hrec => runs_attCtl_recovery h hg hw hgo hrec, fun v hw hgo hrec => runs_attCtl_error h hg hw hgo hrec, ?_, ?_, ?_,
    ?_, ?_, fun o y t b ho hq ht => runs_xspiOpEnd h hg ho hq ht,
    fun o b q e ho hq hreq he hst hrel ht => runs_xspi_answered hg ho hq hreq he hst hrel ht,
    fun o b ho ht => runs_xspi_waits h hg ho ht⟩
  · rintro k o rfl hw hgo hfree hv
    exact runs_xspi_begins h hg rfl (by decide) k.isLt hw hgo hfree ((xspiVerdict_since _ _ _).symm.trans hv)
  · rintro k o rfl hw hgo hfree hv
    obtain ⟨t, ht, hp, ha, hx, hb, -⟩ := runs_xspi_begins (i := .xspiProgram p k) h hg rfl (by decide) k.isLt hw hgo hfree
      ((xspiVerdict_since _ _ _).symm.trans hv)
    exact ⟨t, ht, hp, ha, hx, hb⟩
  · rintro k o rfl hw hgo hfree hv
    obtain ⟨t, ht, hp, hfw, he, hd, hc⟩ := runs_xspi_refused h hg hw hgo hfree (fun hn => hv ((xspiVerdict_since _ _ _).trans hn))
    exact ⟨t, ht, hp, hfw, he.trans (xspiVerdict_since _ _ _).symm, hd, hc⟩
  · intro o hop haddr hreq hw hgo hfree hv
    have hverdict : s.chip.xspiVerdict (xspiAsked s.chip xoERASE (s.chip.get .XSPI_CMD F.XSPI_CMD_LEN)) = xeNONE :=
      (xspiVerdict_erase s.chip (o := xspiAsked s.chip xoERASE (s.chip.get .XSPI_CMD F.XSPI_CMD_LEN)) rfl hop haddr.symm).trans hv
    obtain ⟨t, ht, hp, ha, hx, hb, -⟩ := runs_xspi_begins (i := .xspiErase64k p) h hg rfl (by decide) (xspiLen_lt _) hw hgo hfree hverdict
    exact ⟨t, ht, hp, ha, by rw [hx, hop, haddr, hreq]; rfl, hb⟩
  · intro hw hgo hfree
    obtain ⟨t, ht, hp, ha, hx, hb, -⟩ := runs_xspi_begins (i := .xspiReadId p) h hg rfl (by decide) (xspiLen_lt _) hw hgo hfree rfl
    exact ⟨t, ht, hp, ha, by rw [hx]; rfl, hb⟩

end Sys2Proof.Proofs

namespace Sys2Proof.Proofs

open Sys2Proof.Machine Sys2Proof.Laws

/-! Power states: the quiet timers, the entry step by step, wake requests and the return to Run (16 R328, R330, R333 to R338). -/

/-! ### Settling leaves the power state -/

theorem pwr_of_settle {d x : Chip} (h : Fr frSettle d x) : x.pwr = d.pwr := h.kept.pwr (by decide)

/-- What holds of the power state and of a chosen register holds where the command runs. -/
theorem runs_power {s : State} {i : Instr} {f : Chip → Chip} {p : Chip → Prop} (h : exec i s = s.runS f) {d : Chip}
    (hd : f s.chip = d) (hp : ∀ x : Chip, x.pwr = d.pwr → (∀ r, frSettle.regs r = false → x.rd r = d.rd r) → p x) : Runs i s p :=
  runs_settled h d hd fun x hx => hp x (pwr_of_settle hx) fun _ hr => rd_of_settle hx hr

/-! ### Entry steps -/

theorem entryNext_goes {c : Chip} {e : Entry} (h : c.refuser true e.req = none) (stage step : Nat) :
    c.entryNext e stage step = c.updPwr (fun p => { p with entry := some { e with step := step } }) := by
  rw [Chip.entryNext, h]

/-- A step of an entry to Sleep or Deep sleep does what its stage asks (R333). -/
theorem entryStep_unfolds {s : State} {e : Entry} {d : Chip} {p : Chip → Prop} (he : s.chip.pwr.entry = some e)
    (ht : e.target ≠ .off)
    (hd : (match e.step with
      | 2 => if s.chip.quieted then s.chip.entryNext e 1 3 else s.chip
      | 3 => s.chip.entryNext e 2 4
      | 4 => if e.target = .deep then s.chip.reachSleep.entryNext e 3 5 else s.chip.reachSleep.entryDone
      | 5 => s.chip.retain.entryNext e 4 6
      | _ => (s.chip.updPwr (fun p => { p with st := .deep })).entryDone) = d)
    (hp : ∀ x : Chip, x.pwr = d.pwr → (∀ r, frSettle.regs r = false → x.rd r = d.rd r) → p x) : Runs .entryStepComplete s p := by
  have hexec : exec .entryStepComplete s = execEntryStepComplete s := rfl
  refine runs_power hexec (d := d) ?_ hp
  simp only [he, if_neg ht]
  exact hd

theorem runs_entryStep_quiet {s : State} {e : Entry} (he : s.chip.pwr.entry = some e) (ht : e.target ≠ .off) (hs : e.step = 2)
    (hq : s.chip.quieted = true) (hr : s.chip.refuser true e.req = none) :
    Runs .entryStepComplete s (fun c => c.pwr.entry = some { e with step := 3 }) := by
  refine entryStep_unfolds he ht (d := s.chip.entryNext e 1 3) (by simp only [hs, hq, if_true]) fun x hx _ => ?_
  rw [hx, entryNext_goes hr]
  rfl

theorem runs_entryStep_check {s : State} {e : Entry} (he : s.chip.pwr.entry = some e) (ht : e.target ≠ .off) (hs : e.step = 3)
    (hr : s.chip.refuser true e.req = none) :
    Runs .entryStepComplete s (fun c => c.pwr.entry = some { e with step := 4 }) := by
  refine entryStep_unfolds he ht (d := s.chip.entryNext e 2 4) (by simp only [hs]) fun x hx _ => ?_
  rw [hx, entryNext_goes hr]
  rfl

theorem runs_entryStep_sleep {s : State} {e : Entry} (he : s.chip.pwr.entry = some e) (ht : e.target = .sleep) (hs : e.step = 4) :
    Runs .entryStepComplete s (fun c => c.pwr.st = .sleep ∧ c.pwr.entry = none) := by
  refine entryStep_unfolds he (by rw [ht]; decide) (d := s.chip.reachSleep.entryDone) ?_ fun x hx _ => ?_
  · simp only [hs]
    exact if_neg (by rw [ht]; decide)
  · rw [hx]
    exact ⟨rfl, rfl⟩

theorem runs_entryStep_deep {s : State} {e : Entry} (he : s.chip.pwr.entry = some e) (ht : e.target ≠ .off) (hs : e.step = 6) :
    Runs .entryStepComplete s (fun c => c.pwr.st = .deep ∧ c.pwr.entry = none) := by
  refine entryStep_unfolds he ht (d := (s.chip.updPwr (fun p => { p with st := .deep })).entryDone) (by simp only [hs]) fun x hx _ => ?_
  rw [hx]
  exact ⟨rfl, rfl⟩

/-! ### Entry to Off -/

theorem offStep_unfolds {s : State} {e : Entry} {d : Chip} {p : Chip → Prop} (he : s.chip.pwr.entry = some e)
    (ht : e.target = .off) (hd : s.chip.offStep e = d)
    (hp : ∀ x, Fr frSettle d x → p x) : Runs .entryStepComplete s p := by
  have hexec : exec .entryStepComplete s = execEntryStepComplete s := rfl
  refine runs_settled hexec d ?_ hp
  simp only [he, if_pos ht]
  exact hd

theorem runs_offStep_answers {s : State} {e : Entry} (he : s.chip.pwr.entry = some e) (ht : e.target = .off) (hs : e.step = 1)
    (hq : e.req.all (fun q => (s.chip.entry? q).isNone) = true ∨ s.chip.pwr.quietedAt + ms 20 ≤ s.chip.clk.now) :
    Runs .entryStepComplete s (fun c => c.pwr.entry = some { e with step := 2 }) := by
  have hgo : (e.req.any (fun q => (s.chip.entry? q).isSome) && !decide (s.chip.pwr.quietedAt + ms 20 ≤ s.chip.clk.now)) = false := by
    rcases hq with hq | hq
    · cases hreq : e.req with
      | none => rfl
      | some q =>
        rw [hreq] at hq
        have hn : s.chip.entry? q = none := by simpa using hq
        simp [hn]
    · simp [hq]
  refine offStep_unfolds he ht (d := s.chip.offNext e) ?_ fun x hx => ?_
  · simp only [Chip.offStep, hs, hgo, Bool.false_eq_true, if_false]
  · rw [pwr_of_settle hx]
    show some { e with step := e.step + 1 } = _
    rw [hs]

theorem runs_offStep_bead {s : State} {e : Entry} (he : s.chip.pwr.entry = some e) (ht : e.target = .off) (hs : e.step = 2)
    (hq : (s.chip.bead.attestDue = false ∧ s.chip.bead.hsBusy = false) ∨ s.chip.pwr.quietedAt + ms 20 ≤ s.chip.clk.now) :
    Runs .entryStepComplete s (fun c => c.pwr.entry = some { e with step := 3 }) := by
  have hgo : ((s.chip.bead.attestDue || (s.chip.bead.hsBusy && s.chip.bead.session.isNone)) &&
      !decide (s.chip.pwr.quietedAt + ms 20 ≤ s.chip.clk.now)) = false := by
    rcases hq with ⟨ha, hb⟩ | hq
    · simp [ha, hb]
    · simp [hq]
  refine offStep_unfolds he ht (d := s.chip.offNext e) ?_ fun x hx => ?_
  · simp only [Chip.offStep, hs, hgo, Bool.false_eq_true, if_false]
  · rw [pwr_of_settle hx]
    show some { e with step := e.step + 1 } = _
    rw [hs]

/-- The chip with both lanes down, before it reaches Off. -/
def lanesDown (c : Chip) : Chip := ((c.setUp 0 false).setUp 1 false).syncTrunk

theorem lanesDown_pwr (c : Chip) : (lanesDown c).pwr = c.pwr :=
  (setSt_pwr _ _ _ _).trans ((setSt_pwr _ _ _ _).trans (setSt_pwr _ _ _ _))

theorem reachOff_stays {c : Chip} (h : c.pwr.wake = none) : c.reachOff =
    (c.cleared.updPwr (fun p => { p with st := .off })).updClk (fun k => { k with faultLow := false, alertLow := false }) := by
  unfold Chip.reachOff
  dsimp only
  rw [h]
  rfl

theorem runs_offStep_off {s : State} {e : Entry} (he : s.chip.pwr.entry = some e) (ht : e.target = .off) (hs : e.step = 4)
    (hw : s.chip.pwr.wake = none) :
    Runs .entryStepComplete s (fun c => c.pwr.st = .off ∧ c.clk.faultLow = false ∧ c.up 0 = false ∧ c.up 1 = false) := by
  have hoff := reachOff_stays (c := lanesDown s.chip) (by rw [lanesDown_pwr]; exact hw)
  refine offStep_unfolds he ht (d := (lanesDown s.chip).reachOff) ?_ fun x hx => ?_
  · simp only [Chip.offStep, hs]
    rfl
  · have hup : ∀ l, x.up l = (Reg.TRK_STATUS).resetWord.getLsbD (F.TRK_STATUS_UP_TA.lo + l.val) := fun l => by
      refine (bitAt_of_rd (rd_of_settle hx rfl) _ _).trans ?_
      rw [hoff]
      exact congrArg (fun w : Word => w.getLsbD (F.TRK_STATUS_UP_TA.lo + l.val)) (cleared_rd_reset (lanesDown s.chip) rfl rfl)
    rw [pwr_of_settle hx, hx.kept.clk (by decide), hup, hup, hoff]
    exact ⟨rfl, rfl, by decide, by decide⟩

/-! ### The channels go off on the way to Off -/

theorem dieHears_of {c x : Chip} (hclk : x.clk = c.clk) {d : Die} (hhold : (x.fl[d]).hold = (c.fl[d]).hold)
    (hreset : (x.fl[d]).inReset = (c.fl[d]).inReset) (hbad : (x.fl[d]).badTo = (c.fl[d]).badTo) : x.dieHears d = c.dieHears d := by
  simp only [Chip.dieHears, Chip.dieUp, Chip.noPll, hclk, hhold, hreset, hbad]

theorem updFl_same (c : Chip) (d : Die) (f : FLink → FLink) : (c.updFl d f).fl[d] = f c.fl[d] := Vector.getElem_set_self d.isLt

theorem updFl_other (c : Chip) {d k : Die} (f : FLink → FLink) (h : k ≠ d) : (c.updFl d f).fl[k] = c.fl[k] :=
  Vector.getElem_set_ne d.isLt k.isLt (fun he => h (Fin.ext he.symm))

theorem updChan_other (c : Chip) {n k : Port} (f : Chan → Chan) (h : k ≠ n) : (c.updChan n f).chans[k] = c.chans[k] :=
  Vector.getElem_set_ne n.isLt k.isLt (fun he => h (Fin.ext he.symm))

theorem updCh_phase (c : Chip) (n : Port) (f : Chan → Chan) :
    ((c.updCh n f).chans[n]).phase = (f c.chans[n]).phase ∧ ∀ k, k ≠ n → (c.updCh n f).chans[k] = c.chans[k] := by
  refine ⟨?_, fun k hk => updChan_other _ _ hk⟩
  unfold Chip.updCh
  rw [updChan_same]
  dsimp only
  split <;> rfl

theorem powerLost_chans (c : Chip) (n : Port) (t : Option Nat) : (c.powerLost n t).chans = c.chans := by
  have hf : Fr (keeping [.chans] []) c (c.powerLost n t) := by
    apply Chip.powerLost_fr (Fr.refl _ c) <;> simp
  exact hf.kept.chans (by simp)

theorem pdStop_chans (c : Chip) (n : Port) (k : Nat) : (c.pdStop n k).chans = c.chans := by
  have hf : Fr (keeping [.chans] []) c (c.pdStop n k) := by
    apply Chip.pdStop_fr (Fr.refl _ c) <;> simp
  exact hf.kept.chans (by simp)

/-- What switching a channel off leaves of its own record. -/
def chanOff (now : Nat) (x : Chan) : Chan :=
  { x with phase := .off, retryAt := none, retryWaits := false, onSince := none, offAt := some now }

theorem chOff_chans {c : Chip} {n : Port} (h : (c.chans[n]).phase ≠ .off) :
    (c.chOff n).chans = ((c.updChan n (fun x => { x with onWaits := false })).updCh n (chanOff c.clk.now)).chans := by
  unfold Chip.chOff
  dsimp only
  rw [if_neg h]
  refine (pdStop_chans _ _ _).trans ((powerLost_chans _ _ _).trans ?_)
  rfl

/-- A channel switched off is off, and the others stay as they are. -/
theorem chOff_phase (c : Chip) (n : Port) :
    ((c.chOff n).chans[n]).phase = .off ∧ ∀ k, k ≠ n → (c.chOff n).chans[k] = c.chans[k] := by
  by_cases hoff : (c.chans[n]).phase = .off
  · have hstays : c.chOff n = c.updChan n (fun x => { x with onWaits := false }) := if_pos hoff
    rw [hstays, updChan_same]
    exact ⟨hoff, fun k hk => updChan_other _ _ hk⟩
  · rw [chOff_chans hoff]
    obtain ⟨hsame, hother⟩ := updCh_phase (c.updChan n (fun x => { x with onWaits := false })) n (chanOff c.clk.now)
    exact ⟨hsame, fun k hk => (hother k hk).trans (updChan_other _ _ hk)⟩

theorem pendFell_phase (c : Chip) (n k : Port) : ((c.pendFell n).chans[k]).phase = (c.chans[k]).phase := by
  show ((c.updChan n (fun x => { x with seq := x.seq + 2 })).chans[k]).phase = _
  by_cases h : k = n
  · subst h
    rw [updChan_same]
  · rw [updChan_other _ _ h]

theorem each_pendFell_phase (k : Port) : ∀ (l : List Port) (c : Chip), ((c.each l Chip.pendFell).chans[k]).phase = (c.chans[k]).phase
  | [], _ => rfl
  | n :: t, c => (each_pendFell_phase k t _).trans (pendFell_phase c n k)

/-- The links of the dies are as they were, whatever readings they keep. -/
def SameLinks (c x : Chip) : Prop := x.clk = c.clk ∧ ∀ d : Die, (x.fl[d]).hold = (c.fl[d]).hold ∧ (x.fl[d]).inReset = (c.fl[d]).inReset ∧
  (x.fl[d]).badTo = (c.fl[d]).badTo ∧ (x.fl[d]).writes = (c.fl[d]).writes

theorem SameLinks.dieFree {c x : Chip} (h : SameLinks c x) {d : Die} (hc : DieFree c d) : DieFree x d := by
  obtain ⟨hhold, hreset, hbad, hwrites⟩ := h.2 d
  rw [DieFree, dieHears_of h.1 hhold hreset hbad, hwrites]
  exact hc

theorem SameLinks.trans {a b c : Chip} (h : SameLinks a b) (h' : SameLinks b c) : SameLinks a c :=
  ⟨h'.1.trans h.1, fun d => by
    obtain ⟨h1, h2, h3, h4⟩ := h.2 d
    obtain ⟨k1, k2, k3, k4⟩ := h'.2 d
    exact ⟨k1.trans h1, k2.trans h2, k3.trans h3, k4.trans h4⟩⟩

theorem sameLinks_of_fr {c x : Chip} (hf : Fr (keeping [.clk, .fl] []) c x) : SameLinks c x :=
  ⟨hf.kept.clk (by simp), fun d => by rw [hf.kept.fl (by simp)]; exact ⟨rfl, rfl, rfl, rfl⟩⟩

theorem keepStale_sameLinks (c : Chip) (r : Reg) : SameLinks c (c.keepStale r) := by
  unfold Chip.keepStale
  dsimp only
  split
  · exact ⟨rfl, fun _ => ⟨rfl, rfl, rfl, rfl⟩⟩
  · refine ⟨rfl, fun d => ?_⟩
    by_cases h : d = regDie r
    · subst h
      rw [updFl_same]
      exact ⟨rfl, rfl, rfl, rfl⟩
    · rw [updFl_other _ _ h]
      exact ⟨rfl, rfl, rfl, rfl⟩

/-- The write of CMD = OFF applied at the die. -/
def cmdOff (c : Chip) (n : Port) : Chip := ((c.keepStale (.CH_CMD n)).wr (.CH_CMD n) 0#32).chOff n

theorem applyFuse_cmdOff (c : Chip) (n : Port) : c.applyFuse (.CH_CMD n) 0#32 allBits = cmdOff c n := by
  have hw : (c.rd (.CH_CMD n) &&& ~~~allBits) ||| (0#32 &&& allBits) = 0#32 := by simp [allBits]
  unfold Chip.applyFuse
  rw [hw]
  exact if_pos (Or.inl rfl)

theorem keepStale_chans (c : Chip) (r : Reg) : (c.keepStale r).chans = c.chans := by
  have hf : Fr (keeping [.chans] []) c (c.keepStale r) := by
    apply Chip.keepStale_fr (Fr.refl _ c)
    simp
  exact hf.kept.chans (by simp)

/-- What the die has left of the write: it is taken before it is applied. -/
def fuseTaken (c : Chip) (d : Die) : Chip := c.updFl d (fun l => { l with writes := [] })

theorem fuseWrite_hears (c : Chip) (r : Reg) (v m : Word) (d : Die) : (c.fuseWrite r v m).dieHears d = c.dieHears d := by
  unfold Chip.fuseWrite
  by_cases h : d = regDie r
  · apply dieHears_of
    · rfl
    all_goals rw [h, updFl_same]
  · apply dieHears_of
    · rfl
    all_goals rw [updFl_other _ _ h]

theorem fuseWrite_writes {c : Chip} {r : Reg} (h : (c.fl[regDie r]).writes = []) (v m : Word) :
    ((c.fuseWrite r v m).fl[regDie r]).writes = [(r, v, m)] := by
  rw [Chip.fuseWrite, updFl_same, h]
  rfl

/-- A die that hears takes the one write that waits, and applies it. -/
theorem fuseTake_one {c : Chip} {d : Die} {r : Reg} {v m : Word} (hup : c.dieUp d = true) (hw : (c.fl[d]).writes = [(r, v, m)]) :
    ∃ l, c.fuseTake d 1 = ((fuseTaken c d).applyFuse r v m).each l Chip.pendFell := by
  have hdrop : c.updFl d (fun l => { l with writes := l.writes.drop 1 }) = fuseTaken c d := by
    simp only [fuseTaken, Chip.updFl, hw, List.drop_one, List.tail_cons]
  rw [Chip.fuseTake, if_pos hup]
  dsimp only
  rw [hdrop, hw]
  exact ⟨_, rfl⟩

/-- The write of CMD = OFF goes to a die that hears, and is applied there at once. -/
theorem fuseNow_cmdOff {c : Chip} {n : Port} (h : DieFree c (fuseDie n)) : ∃ l, c.fuseNow (.CH_CMD n) 0#32 =
    (cmdOff (fuseTaken (c.fuseWrite (.CH_CMD n) 0#32 allBits) (regDie (.CH_CMD n))) n).each l Chip.pendFell := by
  obtain ⟨hhears, hempty⟩ : DieFree c (regDie (.CH_CMD n)) := h
  have hhears' := (fuseWrite_hears c (.CH_CMD n) 0#32 allBits (regDie (.CH_CMD n))).trans hhears
  have hw := fuseWrite_writes hempty 0#32 allBits
  have hup : (c.fuseWrite (.CH_CMD n) 0#32 allBits).dieUp (regDie (.CH_CMD n)) = true := by
    rw [Chip.dieHears, Bool.and_eq_true] at hhears'
    exact hhears'.1
  obtain ⟨l, htake⟩ := fuseTake_one hup hw
  refine ⟨l, ?_⟩
  unfold Chip.fuseNow
  dsimp only
  rw [if_pos hhears', hw]
  exact htake.trans (by rw [applyFuse_cmdOff])

/-- The link is as it was before the write once the write is taken. -/
theorem fuseTaken_sameLinks {c : Chip} {r : Reg} (h : (c.fl[regDie r]).writes = []) (v m : Word) :
    SameLinks c (fuseTaken (c.fuseWrite r v m) (regDie r)) := by
  refine ⟨rfl, fun d => ?_⟩
  unfold fuseTaken Chip.fuseWrite
  by_cases hd : d = regDie r
  · subst hd
    rw [updFl_same, updFl_same]
    exact ⟨rfl, rfl, rfl, h.symm⟩
  · rw [updFl_other _ _ hd, updFl_other _ _ hd]
    exact ⟨rfl, rfl, rfl, rfl⟩

theorem cmdOff_phase (c : Chip) (n : Port) :
    ((cmdOff c n).chans[n]).phase = .off ∧ ∀ k, k ≠ n → (cmdOff c n).chans[k] = c.chans[k] := by
  obtain ⟨hsame, hother⟩ := chOff_phase ((c.keepStale (.CH_CMD n)).wr (.CH_CMD n) 0#32) n
  have hk : ((c.keepStale (.CH_CMD n)).wr (.CH_CMD n) 0#32).chans = c.chans := keepStale_chans c _
  exact ⟨hsame, fun k hkn => by rw [cmdOff, hother k hkn, hk]⟩

theorem cmdOff_sameLinks (c : Chip) (n : Port) : SameLinks c (cmdOff c n) :=
  (keepStale_sameLinks c _).trans (sameLinks_of_fr (by
    unfold cmdOff
    apply Chip.chOff_fr (Fr.wr (Fr.refl _ _) (by simp) _)
    · simp
    all_goals simp))

theorem each_pendFell_sameLinks (l : List Port) (c : Chip) : SameLinks c (c.each l Chip.pendFell) :=
  sameLinks_of_fr (Fr.each (Fr.refl _ _) fun _ _ h => by apply Chip.pendFell_fr h <;> simp)

/-- CMD = OFF switches its channel off, leaves the others and the links of the dies. -/
theorem fuseNow_off {c : Chip} {n : Port} (h : DieFree c (fuseDie n)) : SameLinks c (c.fuseNow (.CH_CMD n) 0#32) ∧
    ((c.fuseNow (.CH_CMD n) 0#32).chans[n]).phase = .off ∧
    ∀ k, k ≠ n → ((c.fuseNow (.CH_CMD n) 0#32).chans[k]).phase = (c.chans[k]).phase := by
  obtain ⟨l, heq⟩ := fuseNow_cmdOff h
  obtain ⟨hsame, hother⟩ := cmdOff_phase (fuseTaken (c.fuseWrite (.CH_CMD n) 0#32 allBits) (regDie (.CH_CMD n))) n
  rw [heq]
  refine ⟨(fuseTaken_sameLinks (r := .CH_CMD n) h.2 _ _).trans ((cmdOff_sameLinks _ n).trans (each_pendFell_sameLinks l _)), ?_, fun k hk => ?_⟩
  · rw [each_pendFell_phase, hsame]
  · rw [each_pendFell_phase, hother k hk]
    rfl

/-- After the round of CMD = OFF every channel of the round is off. -/
theorem each_fuseNow_off (k : Port) : ∀ (l : List Port) (c : Chip), (∀ d, DieFree c d) → (k ∈ l ∨ (c.chans[k]).phase = .off) →
    ((c.each l (fun c n => c.fuseNow (.CH_CMD n) 0#32)).chans[k]).phase = .off
  | [], _, _, hk => hk.resolve_left (List.not_mem_nil)
  | n :: t, c, h, hk => by
    obtain ⟨hlinks, hsame, hother⟩ := fuseNow_off (h (fuseDie n))
    refine each_fuseNow_off k t _ (fun d => hlinks.dieFree (h d)) ?_
    by_cases hkn : k = n
    · exact Or.inr (hkn ▸ hsame)
    · refine hk.imp (fun hm => (List.mem_cons.1 hm).resolve_left hkn) (fun hp => ?_)
      rw [hother k hkn, hp]

theorem offNext_chans (c : Chip) (e : Entry) : (c.offNext e).chans = c.chans := rfl

theorem runs_offStep_channels {s : State} {e : Entry} (he : s.chip.pwr.entry = some e) (ht : e.target = .off) (hs : e.step = 3)
    (hd : ∀ d, DieFree s.chip d) :
    Runs .entryStepComplete s (fun c => c.pwr.entry = some { e with step := 4 } ∧ ∀ n : Port, (c.chans[n]).phase = .off) := by
  refine offStep_unfolds he ht
    (d := (s.chip.each (List.finRange 96) (fun c n => c.fuseNow (.CH_CMD n) 0#32)).offNext e) ?_ fun x hx => ⟨?_, fun n => ?_⟩
  · simp only [Chip.offStep, hs]
  · rw [pwr_of_settle hx]
    show some { e with step := e.step + 1 } = _
    rw [hs]
  · rw [hx.kept.chans (by decide)]
    exact (congrArg (fun v : Vector Chan 96 => (v[n]).phase) (offNext_chans _ e)).trans
      (each_fuseNow_off n _ _ hd (Or.inl (List.mem_finRange n)))

end Sys2Proof.Proofs

namespace Sys2Proof.Proofs

open Sys2Proof.Machine Sys2Proof.Laws

/-! Refutations of functional statements (06, 13). -/

/-- The entry of an answered request is done. -/
theorem entry_done_of_answered {c : Chip} {q : ReqId} {e : ReqEntry} {result : Nat} {data : List Nat}
    (h : Answered c q e result data) : (c.entry? q).any (fun x => x.st == .done) = true := by
  obtain ⟨⟨x, hx, hdone⟩, -⟩ := h
  simp [hx, hdone]

/-- A request on a port, from conditions that the kernel can decide. -/
theorem forPort_of {c : Chip} {q : ReqId} {op : BitVec 16} {n : Port} {e : ReqEntry}
    (h : (c.ready q op = some e ∧ c.takeVerdict q e = none ∧ badTarget e.req = false ∧ [1].contains e.req.tgtKind = true ∧
      (c.doors[q.door]).releasing = none) ∧ e.req.tgtIndex = n.val) : ForPort c q op n e := by
  obtain ⟨hcan, hport⟩ := h
  exact ⟨startable_of hcan, hport⟩

/-! ### Modes and answers during a directory rebuild (06 R151, 17 R354) -/

/-- A directory rebuild runs, and a detach of port 0 waits for it; door 0 holds a PORT_MODE of that port. -/
def detachHeld : Chip :=
  (askedChip [pendingEntry 5 opPORT_MODE 1 0]).updPond (fun p => { p with rebuild := true, held := [.leave 0 0#20] })

/-- Refutes O14: its third clause does not ask that no directory rebuild runs. With `detachHeld` the answer of PORT_MODE waits behind
the detach, and the request stays in execution. -/
theorem not_portRequests : ¬ Obligations.PortRequests := by
  unfold Obligations.PortRequests
  intro h
  obtain ⟨-, -, hmode, -⟩ := h { chip := detachHeld } (canon_of (by decide +kernel)) (by decide +kernel)
  refine not_runs (fun c => (c.entry? ⟨0, 5⟩).any (fun x => x.st == .done)) ?_ ?_
    (hmode ⟨0, 5⟩ 0 (pendingEntry 5 opPORT_MODE 1 0) 0 .off (forPort_of ?_) ?_ ?_ ?_)
  · decide +kernel
  · rintro c ⟨hanswered, -⟩
    exact entry_done_of_answered hanswered
  all_goals decide +kernel

end Sys2Proof.Proofs

namespace Sys2Proof.Proofs

open Sys2Proof.Machine Sys2Proof.Laws

/-! Aborted entries, the quiet timers, wakes and the return to Run (16 R329 to R338). -/

/-! ### What traffic leaves of the power state -/

/-- The entry stays; and outside Idle, which activity ends (R330), so do the state, its exit and PWR_STATUS. -/
def PwrHeld (c d : Chip) : Prop := d.pwr.entry = c.pwr.entry ∧ (c.pwr.st ≠ .idle →
  d.pwr.st = c.pwr.st ∧ d.pwr.exiting = c.pwr.exiting ∧ d.pwr.retained = c.pwr.retained ∧ d.rd .PWR_STATUS = c.rd .PWR_STATUS)

theorem PwrHeld.refl (c : Chip) : PwrHeld c c := ⟨rfl, fun _ => ⟨rfl, rfl, rfl, rfl⟩⟩

theorem PwrHeld.trans {a b c : Chip} (h : PwrHeld a b) (h' : PwrHeld b c) : PwrHeld a c := by
  refine ⟨h'.1.trans h.1, fun ha => ?_⟩
  obtain ⟨hst, hex, hret, hrd⟩ := h.2 ha
  obtain ⟨hst', hex', hret', hrd'⟩ := h'.2 (by rw [hst]; exact ha)
  exact ⟨hst'.trans hst, hex'.trans hex, hret'.trans hret, hrd'.trans hrd⟩

theorem PwrHeld.of_fr {c d : Chip} (hf : Fr (keeping [.pwr] [.PWR_STATUS]) c d) : PwrHeld c d := by
  have hp := hf.kept.pwr (by simp)
  exact ⟨by rw [hp], fun _ => ⟨by rw [hp], by rw [hp], by rw [hp], hf.kept.regs .PWR_STATUS (by simp)⟩⟩

theorem PwrHeld.each {α : Type} {g : Chip → α → Chip} (hg : ∀ c x, PwrHeld c (g c x)) : ∀ (l : List α) (c : Chip), PwrHeld c (c.each l g)
  | [], c => PwrHeld.refl c
  | x :: t, c => (hg c x).trans (PwrHeld.each hg t _)

theorem active_held (c : Chip) : PwrHeld c c.active := by
  rw [active_eq]
  split
  · next hidle =>
    have hf : Fr (keeping [.pwr] []) ((roused c).updPwr (fun p => { p with st := .run, runFrom := c.clk.now })) (idleLeft c) := by
      apply Chip.setF_fr (Chip.ungateBasins_fr (Fr.refl _ _) ?_) <;> simp
    exact ⟨(congrArg Pwr.entry (hf.kept.pwr (by simp))).trans rfl, fun h => absurd hidle h⟩
  · exact ⟨rfl, fun _ => ⟨rfl, rfl, rfl, rfl⟩⟩

theorem putRec_held (c : Chip) (s : Strm) (src : Nat) (hdr : RecHdr) (data : List Byte) : PwrHeld c (c.putRec s src hdr data).2 := by
  unfold Chip.putRec
  dsimp only
  split
  · exact PwrHeld.of_fr (by apply Chip.evOverrun_fr (Chip.updStrm_fr (Fr.refl _ _) ?_) <;> simp)
  · exact PwrHeld.trans (PwrHeld.of_fr (by apply Chip.touchPool_fr (Chip.updStrm_fr (Fr.refl _ _) ?_) <;> simp)) (active_held _)

theorem inReport_held (c : Chip) (i : Io) (r : InReport) : PwrHeld c (c.inReport i r) := by
  unfold Chip.inReport
  dsimp only
  split
  · exact PwrHeld.refl c
  · split
    · exact PwrHeld.refl c
    · exact PwrHeld.trans (PwrHeld.refl c) (putRec_held _ _ _ _ _)

theorem inTake_held (c : Chip) (i : Io) (e : InEdge) : PwrHeld c (c.inTake i e) := by
  unfold Chip.inTake
  dsimp only
  split
  · split
    · exact PwrHeld.trans (PwrHeld.refl c) (inReport_held _ _ _)
    · exact PwrHeld.refl c
  · exact PwrHeld.trans (PwrHeld.refl c) (inReport_held _ _ _)

theorem inDrain_held (c : Chip) (i : Io) : PwrHeld c (c.inDrain i) := by
  unfold Chip.inDrain
  split
  · exact PwrHeld.refl c
  · exact (PwrHeld.each (fun c e => inTake_held c i e) _ c).trans (PwrHeld.refl _)

theorem inDrainAll_held (c : Chip) : PwrHeld c c.inDrainAll := PwrHeld.each inDrain_held _ c

theorem inletsAnew_held (c : Chip) : PwrHeld c c.inletsAnew := by
  refine PwrHeld.each (fun c i => ?_) _ c
  dsimp only
  split
  · exact PwrHeld.trans (PwrHeld.refl c) (inReport_held _ _ _)
  · exact PwrHeld.refl c

theorem linesResume_held (c : Chip) : PwrHeld c c.linesResume := by
  unfold Chip.linesResume
  dsimp only
  refine PwrHeld.trans (b := c.updPwr (fun p => { p with linesFrom := c.clk.now + (1600000 - c.sei.time.toNat % 1600000) }))
    ⟨rfl, fun _ => ⟨rfl, rfl, rfl, rfl⟩⟩ (PwrHeld.each (fun c n => ?_) _ _)
  exact PwrHeld.of_fr (by apply Chip.updLine_fr (Chip.updPort_fr (Fr.refl _ _) ?_) <;> simp)

theorem linesBack_held (c : Chip) : PwrHeld c (c.linesResume.pdResume) :=
  (linesResume_held c).trans (PwrHeld.of_fr (by apply Chip.pdResume_fr (Fr.refl _ _); simp))

/-! ### An aborted entry -/

/-- The entry given up, before what it held back goes on. -/
def entryGone (c : Chip) (e : Entry) (k : Nat × Nat) (stage : Nat) : Chip :=
  ((c.refused k stage e.target).updPwr (fun p => { p with entry := none })).updClk (fun k => { k with levels := [] })

/-- An entry given up before the doze lets the world go on at once (R334). -/
theorem abortEntry_early (c : Chip) (e : Entry) (k : Nat × Nat) {stage : Nat} (h : stage < 3) : c.abortEntry e k stage =
    ((((entryGone c e k stage).inDrainAll.linesResume.pdResume.powerResume).updPwr (fun p => { p with wake := none })).syncCw).active :=
  if_neg (Nat.not_le.2 h)

theorem abortEntry_entry (c : Chip) (e : Entry) (k : Nat × Nat) {stage : Nat} (h : stage < 3) :
    (c.abortEntry e k stage).pwr.entry = none := by
  have hpower : ∀ d : Chip, PwrHeld d (d.powerResume.updPwr (fun p => { p with wake := none })).syncCw := fun d => by
    refine PwrHeld.trans (PwrHeld.of_fr (d := d.powerResume) ?_) (PwrHeld.trans
      (b := d.powerResume.updPwr (fun p => { p with wake := none })) ⟨rfl, fun _ => ⟨rfl, rfl, rfl, rfl⟩⟩ (PwrHeld.of_fr ?_))
    · apply Chip.powerResume_fr (Fr.refl _ _); simp
    · apply Chip.syncCw_fr (Fr.refl _ _) <;> simp
  rw [abortEntry_early c e k h]
  exact (((inDrainAll_held _).trans ((linesBack_held _).trans ((hpower _).trans (active_held _)))).1).trans rfl

/-- PWR_REFUSE names the kind and the stage of the refusal. -/
theorem refused_refuse {c : Chip} (hc : Canon c) (k : Nat × Nat) {stage : Nat} (h : stage < 4) (t : PState) :
    (c.refused k stage t).get .PWR_REFUSE F.PWR_REFUSE_KIND = k.1 % 16 ∧
      (c.refused k stage t).get .PWR_REFUSE F.PWR_REFUSE_STAGE = stage := by
  set w : Word := fset (fset 0#32 F.PWR_REFUSE_COUNT (sat 16 (c.get .PWR_REFUSE F.PWR_REFUSE_COUNT + 1))) F.PWR_REFUSE_KIND k.1 with hw
  set v : Word := fset (fset w F.PWR_REFUSE_STAGE stage) F.PWR_REFUSE_INDEX k.2 with hv
  have hrd : (c.refused k stage t).rd .PWR_REFUSE = v :=
    ((fr_postRate (ps := []) (rs := [.PWR_REFUSE]) (c.wr .PWR_REFUSE v) (sec 1) 0 _ _ _ (by simp)).kept.regs .PWR_REFUSE (by simp)).trans
      (rd_wr_same c hc _ _)
  refine ⟨?_, ?_⟩
  · rw [Chip.get, hrd, hv, fget_fset_other _ _ _ _ (by decide) (by decide) (by decide),
      fget_fset_other _ _ _ _ (by decide) (by decide) (by decide), hw]
    exact fget_fset_same _ _ _ (by decide)
  · rw [Chip.get, hrd, hv, fget_fset_other _ _ _ _ (by decide) (by decide) (by decide), fget_fset_same _ _ _ (by decide)]
    exact Nat.mod_eq_of_lt (Nat.lt_of_lt_of_le h (by decide))

/-- Once refused, the entry given up leaves PWR_REFUSE. -/
theorem abortEntry_rd (c : Chip) (e : Entry) (k : Nat × Nat) {stage : Nat} (h : stage < 3) :
    (c.abortEntry e k stage).rd .PWR_REFUSE = (c.refused k stage e.target).rd .PWR_REFUSE := by
  have hlines : ∀ d : Chip, Fr (keeping [] [.PWR_REFUSE]) d d.linesResume.pdResume.powerResume := fun d => by
    apply Chip.powerResume_fr (Chip.pdResume_fr (Chip.linesResume_fr (Fr.refl _ d) ?_ ?_) ?_) <;> simp
  have hdrain : ∀ d : Chip, Fr (keeping [] [.PWR_REFUSE]) d d.inDrainAll := fun d => by
    apply Chip.inDrainAll_fr (Fr.refl _ d) <;> simp
  have hend : ∀ d : Chip, Fr (keeping [] [.PWR_REFUSE]) d (d.updPwr (fun p => { p with wake := none })).syncCw.active := fun d => by
    apply Chip.active_fr (Chip.syncCw_fr (Chip.updPwr_fr (Fr.refl _ d) ?_) ?_ ?_) <;> simp
  rw [abortEntry_early c e k h]
  refine ((hend (entryGone c e k stage).inDrainAll.linesResume.pdResume.powerResume).kept.regs .PWR_REFUSE (by simp)).trans ?_
  refine ((hlines (entryGone c e k stage).inDrainAll).kept.regs .PWR_REFUSE (by simp)).trans ?_
  exact (hdrain (entryGone c e k stage)).kept.regs .PWR_REFUSE (by simp)

theorem runs_entryStep_refused {s : State} {e : Entry} {k : Nat × Nat} (he : s.chip.pwr.entry = some e) (ht : e.target ≠ .off)
    (hs : e.step = 3) (hr : s.chip.refuser true e.req = some k) (hc : Canon s.chip) :
    Runs .entryStepComplete s (fun c => c.pwr.entry = none ∧ c.get .PWR_REFUSE F.PWR_REFUSE_KIND = k.1 % 16 ∧
      c.get .PWR_REFUSE F.PWR_REFUSE_STAGE = 2) := by
  have habort : s.chip.entryNext e 2 4 = s.chip.abortEntry e k 2 := by rw [Chip.entryNext, hr]
  refine entryStep_unfolds he ht (d := s.chip.abortEntry e k 2) (by simp only [hs]; exact habort) fun x hx hrd => ?_
  rw [hx, Chip.get, Chip.get, hrd .PWR_REFUSE rfl, abortEntry_rd _ _ _ (by decide)]
  exact ⟨abortEntry_entry _ _ _ (by decide), refused_refuse hc k (by decide) _⟩

/-! ### The quiet timers -/

theorem runs_quiet_idle {s : State} (hawake : s.chip.awake = true) (hentry : s.chip.pwr.entry = none)
    (hmax : 1 ≤ s.chip.get .PWR_CTL F.PWR_CTL_STATE_MAX) (hfw : s.chip.fwQuiet = true)
    (hdue : s.chip.pwr.idleFrom + us (s.chip.getPos .PWR_TIMER_0 F.PWR_TIMER_0_IDLE_US) ≤ s.chip.clk.now) (hc : Canon s.chip) :
    Runs (.quietTimerExpiry 0) s (fun c => c.pwr.st = .idle ∧ c.pwr.hsGated = true ∧
      c.get .PWR_STATUS F.PWR_STATUS_STATE = 1) := by
  have hexec : exec (.quietTimerExpiry 0) s = execQuietTimerExpiry 0 s := rfl
  set d : Chip := (s.chip.updPwr (fun p => { p with st := .idle, hsGated := true })).setF .PWR_STATUS F.PWR_STATUS_STATE 1 with hd
  have hf : Fr (keeping [.pwr] [.PWR_STATUS]) d d.gateBasins := by
    apply Chip.gateBasins_fr (Fr.refl _ _)
    simp
  refine runs_power hexec (d := d.gateBasins) ?_ fun x hx hrd => ?_
  · simp only [hawake, hentry, hmax, hfw, hdue, Option.isNone_none, decide_true, Bool.and_true, if_true]
    rfl
  · rw [hx, Chip.get, hrd .PWR_STATUS rfl, hf.kept.pwr (by simp), hf.kept.regs .PWR_STATUS (by simp)]
    have hstate : d.get .PWR_STATUS F.PWR_STATUS_STATE = 1 % 2 ^ 4 := get_setF_same _ ⟨hc.regs, hc.flash, hc.blocks⟩ _ _ _ (by decide)
    exact ⟨rfl, rfl, hstate⟩

theorem runs_quiet_sleep {s : State} (hawake : s.chip.awake = true) (hexp : s.chip.pwr.sleepExp = false)
    (hauto : s.chip.bit .PWR_CTL F.PWR_CTL_AUTO = false)
    (hdue : s.chip.pwr.sleepFrom + sec (s.chip.getPos .PWR_TIMER_0 F.PWR_TIMER_0_SLEEP_S) ≤ s.chip.clk.now) :
    Runs (.quietTimerExpiry 1) s (fun c => c.pwr.sleepExp = true ∧ c.pwr.entry = s.chip.pwr.entry) := by
  have hexec : exec (.quietTimerExpiry 1) s = execQuietTimerExpiry 1 s := rfl
  have hstays : (s.chip.updPwr (fun p => { p with sleepExp := true })).evaluate = s.chip.updPwr (fun p => { p with sleepExp := true }) := by
    have hauto' : (s.chip.updPwr (fun p => { p with sleepExp := true })).bit .PWR_CTL F.PWR_CTL_AUTO = false := hauto
    rw [Chip.evaluate, hauto']
    rfl
  refine runs_power hexec (d := s.chip.updPwr (fun p => { p with sleepExp := true })) ?_ fun x hx _ => ?_
  · simp only [hawake, hexp, hdue, decide_true, Bool.not_false, Bool.and_true, if_true]
    exact hstays
  · rw [hx]
    exact ⟨rfl, rfl⟩

theorem entryQuiet_pwr (c : Chip) (target : PState) (req : Option ReqId) : (c.entryQuiet target req).pwr =
    { c.pwr with entry := some ⟨target, 2, req⟩, quietedAt := c.clk.now, wake := none } := by
  have hf : Fr (keeping [.pwr] []) (c.updPwr (fun p => { p with entry := some ⟨target, 2, req⟩, quietedAt := c.clk.now, wake := none }))
      (c.entryQuiet target req) := by
    unfold Chip.entryQuiet
    dsimp only
    refine Chip.syncCw_fr (Chip.updTrunk_fr (Fr.each (Fr.each (Fr.refl _ _) fun d n h => ?_) fun d n h => ?_) ?_) ?_ ?_
    · apply Chip.startSuspend_fr (Chip.updDrop_fr h ?_) <;> simp
    · apply Chip.withdrawTime_fr h
      simp
    all_goals simp
  exact hf.kept.pwr (by simp)

theorem runs_quiet_deep {s : State} (hawake : s.chip.awake = true) (hexp : s.chip.pwr.deepExp = false)
    (hauto : s.chip.bit .PWR_CTL F.PWR_CTL_AUTO = true) (hentry : s.chip.pwr.entry = none) (hexit : s.chip.pwr.exiting = false)
    (htarget : (s.chip.updPwr (fun p => { p with deepExp := true })).pwrTarget = some .deep)
    (hrefuse : (s.chip.updPwr (fun p => { p with deepExp := true })).refuser false none = none)
    (hdue : s.chip.pwr.deepFrom + sec (s.chip.getPos .PWR_TIMER_1 F.PWR_TIMER_1_DEEP_S) ≤ s.chip.clk.now) :
    Runs (.quietTimerExpiry 2) s (fun c => c.pwr.deepExp = true ∧ c.pwr.entry = some ⟨.deep, 2, none⟩) := by
  have hexec : exec (.quietTimerExpiry 2) s = execQuietTimerExpiry 2 s := rfl
  set d : Chip := s.chip.updPwr (fun p => { p with deepExp := true }) with hd
  have hst : s.chip.pwr.st = .run ∨ s.chip.pwr.st = .idle := by
    simpa [Chip.awake] using hawake
  have hgo : d.evaluate = d.entryQuiet .deep none := by
    have hauto' : d.bit .PWR_CTL F.PWR_CTL_AUTO = true := hauto
    have hentry' : d.pwr.entry = none := hentry
    have hexit' : d.pwr.exiting = false := hexit
    have hcode : d.pwr.st.code < PState.deep.code := by
      show s.chip.pwr.st.code < _
      rcases hst with h | h <;> rw [h] <;> decide
    have hsleep : d.pwr.st ≠ .sleep := by
      show s.chip.pwr.st ≠ _
      rcases hst with h | h <;> rw [h] <;> decide
    rw [Chip.evaluate, hauto', hentry', hexit', htarget]
    simp only [Option.isSome_none, Bool.not_true, Bool.or_false, Bool.false_eq_true, if_false, if_pos hcode]
    rw [Chip.beginEntry, if_neg hsleep, hrefuse]
    rfl
  refine runs_power hexec (d := d.entryQuiet .deep none) ?_ fun x hx _ => ?_
  · simp only [hawake, hexp, hdue, decide_true, Bool.not_false, Bool.true_or, Bool.and_true, if_true]
    exact hgo
  · rw [hx, entryQuiet_pwr]
    exact ⟨rfl, rfl⟩

/-! ### Idle left -/

theorem runs_idleWake_basin {s : State} (b : Basin) : Runs (.idleWake (some b)) s (fun c => (c.basins[b]).gated = false) := by
  have hexec : exec (.idleWake (some b)) s = execIdleWake (some b) s := rfl
  refine runs_of_run_eq hexec (d := s.chip.updBasin b (fun x => { x with gated := false })) rfl ?_
  exact congrArg BasinSt.gated (Vector.getElem_set_self b.isLt)

theorem runs_idleWake_run {s : State} (hc : Canon s.chip) (hst : s.chip.pwr.st = .idle) :
    Runs (.idleWake none) s (fun c => c.pwr.st = .run ∧ c.pwr.hsGated = false ∧ c.get .PWR_STATUS F.PWR_STATUS_STATE = 0) := by
  have hexec : exec (.idleWake none) s = execIdleWake none s := rfl
  set d : Chip := s.chip.updPwr (fun p => { p with st := .run, hsGated := false, idleFrom := s.chip.clk.now, runFrom := s.chip.clk.now })
    with hd
  have hf : Fr (keeping [.pwr] []) d (d.ungateBasins.setF .PWR_STATUS F.PWR_STATUS_STATE 0) := by
    apply Chip.setF_fr (Chip.ungateBasins_fr (Fr.refl _ _) ?_) <;> simp
  refine runs_of_run_eq hexec (d := d.ungateBasins.setF .PWR_STATUS F.PWR_STATUS_STATE 0) (if_pos hst) ?_
  have hcd : Canon d.ungateBasins := (Chip.ungateBasins_fr (f := keeping [] []) (Fr.refl _ d) (by simp)).canon ⟨hc.regs, hc.flash, hc.blocks⟩
  rw [hf.kept.pwr (by simp), get_setF_same _ hcd _ _ _ (by decide)]
  exact ⟨rfl, rfl, rfl⟩

/-! ### Wake requests -/

theorem wakeReq_first {c : Chip} {src idx : Nat} (hw : c.pwr.wake = none) (ha : c.asleep = true) (he : c.pwr.entry = none)
    (hx : c.pwr.exiting = false) :
    c.wakeReq src idx = (c.updPwr (fun p => { p with wake := some (src, idx), wakeFrom := c.clk.now, exiting := true })).wr .PWR_WAKE_CAUSE
      (fset (fset 0#32 F.PWR_WAKE_CAUSE_INDEX idx) F.PWR_WAKE_CAUSE_SOURCE src) := by
  unfold Chip.wakeReq
  simp [hw, ha, he, hx, Chip.updPwr]

/-- A wake that crosses and finds the device asleep is the first one (R337). -/
theorem wakeCross_first {c : Chip} {src idx : Nat} (ha : c.asleep = true) (hlevel : c.clk.levels.contains (wakeNum src idx) = false)
    (hbusy : c.clk.cross.any (fun x => x.block == cbAON && x.num == wakeNum src idx && x.busy c.clk.now) = false) :
    ∃ k, c.wakeCross src idx = (c.updClk (fun _ => k)).wakeReq src idx := by
  unfold Chip.wakeCross
  dsimp only
  rw [if_neg (by simp [ha])]
  split
  · rw [if_neg (by rw [hlevel]; decide)]
    exact ⟨_, rfl⟩
  · rw [Chip.pulse, if_neg (by rw [hbusy]; decide)]
    exact ⟨_, rfl⟩

theorem runs_wake_first {s : State} {w : Fin 10} {i : WakeInput} (hc : Canon s.chip) (hon : s.chip.wakeOn w.val i.index = true)
    (hq : s.chip.wakeQualifies w.val i.index i.held = true) (ha : s.chip.asleep = true) (he : s.chip.pwr.entry = none)
    (hw : s.chip.pwr.wake = none) (hx : s.chip.pwr.exiting = false)
    (hlevel : s.chip.clk.levels.contains (wakeNum w.val i.index) = false)
    (hbusy : s.chip.clk.cross.any (fun x => x.block == cbAON && x.num == wakeNum w.val i.index && x.busy s.chip.clk.now) = false) :
    Runs (.wakeRequest w i) s (fun c => c.pwr.wake = some (w.val, i.index) ∧ c.pwr.exiting = true ∧
      c.get .PWR_WAKE_CAUSE F.PWR_WAKE_CAUSE_SOURCE = w.val) := by
  have hexec : exec (.wakeRequest w i) s = execWakeRequest w i s := rfl
  obtain ⟨k, hcross⟩ := wakeCross_first ha hlevel hbusy
  have hoff : s.chip.pwr.st ≠ .off := by
    intro h
    simp [Chip.asleep, h] at ha
  have hfirst := wakeReq_first (c := s.chip.updClk (fun _ => k)) (src := w.val) (idx := i.index) hw ha he hx
  refine runs_power hexec (d := (s.chip.updClk (fun _ => k)).wakeReq w.val i.index) ?_ fun x hxp hrd => ?_
  · rw [if_neg (by simp [hon, hq]), if_neg hoff]
    exact hcross
  · have hcause := (hrd .PWR_WAKE_CAUSE rfl).trans ((congrArg (fun d : Chip => d.rd .PWR_WAKE_CAUSE) hfirst).trans
      (rd_wr_same _ (by exact ⟨hc.regs, hc.flash, hc.blocks⟩) _ _))
    rw [hxp, Chip.get, hcause, hfirst, fget_fset_same _ _ _ (by decide)]
    exact ⟨rfl, rfl, Nat.mod_eq_of_lt (Nat.lt_trans w.isLt (by decide))⟩

theorem runs_wake_overrun {s : State} {w : Fin 10} {i : WakeInput} (hc : Canon s.chip) (hon : s.chip.wakeOn w.val i.index = true)
    (hheld : i.held = true) (ha : s.chip.asleep = true) (hasync : s.chip.wakeAsync w.val i.index = false)
    (hbusy : s.chip.clk.cross.any (fun x => x.block == cbAON && x.num == wakeNum w.val i.index && x.busy s.chip.clk.now) = true) :
    Runs (.wakeRequest w i) s (fun c => (c.rd .CDC_OVR).getLsbD cbAON = true ∧ c.pwr = s.chip.pwr) := by
  have hexec : exec (.wakeRequest w i) s = execWakeRequest w i s := rfl
  have hoff : s.chip.pwr.st ≠ .off := by
    intro h
    simp [Chip.asleep, h] at ha
  have hpost : Fr (keeping [.pwr] [.CDC_OVR]) (s.chip.record .CDC_OVR ⟨cbAON, cbAON, .rs⟩) (s.chip.cdcOverrun cbAON (wakeNum w.val i.index)) := by
    apply Chip.postFault_fr (Fr.refl _ _) <;> simp
  have hover : s.chip.wakeCross w.val i.index = s.chip.cdcOverrun cbAON (wakeNum w.val i.index) := by
    rw [Chip.wakeCross, if_neg (by simp [ha]), if_neg (by rw [hasync]; decide), Chip.pulse, if_pos hbusy]
  refine runs_power hexec (d := s.chip.cdcOverrun cbAON (wakeNum w.val i.index)) ?_ fun x hxp hrd => ?_
  · rw [if_neg (by simp [hon, Chip.wakeQualifies, hheld]), if_neg hoff]
    exact hover
  · rw [hxp, hrd .CDC_OVR rfl, hpost.kept.pwr (by simp), hpost.kept.regs .CDC_OVR (by simp)]
    exact ⟨bitAt_record_same s.chip hc .CDC_OVR ⟨cbAON, cbAON, .rs⟩ 0 .rs (by decide), rfl⟩

/-- A device reset ends in Run. -/
theorem deviceReset_st {c : Chip} (hin : c.inDeviceReset = false) (cause supply : Nat) : (c.deviceReset cause supply).pwr.st = .run := by
  have hk : ∀ d : Chip, d.balls.bootWhenReady.pwr = d.pwr := fun d => by
    have hf : Fr (keeping [.pwr] []) d d.balls.bootWhenReady := by
      apply Chip.bootWhenReady_fr (Chip.balls_fr (Fr.refl _ d) ?_) <;> simp
    exact hf.kept.pwr (by simp)
  rw [Chip.deviceReset, if_neg (by simp [hin])]
  dsimp only
  rw [hk]
  rfl

theorem runs_wake_off {s : State} {w : Fin 10} {i : WakeInput} (hc : Canon s.chip) (hon : s.chip.wakeOn w.val i.index = true)
    (hq : s.chip.wakeQualifies w.val i.index i.held = true) (hst : s.chip.pwr.st = .off) :
    Runs (.wakeRequest w i) s (fun c => c.pwr.st = .run ∧ c.get .RST_CAUSE F.RST_CAUSE_LAST = 6) := by
  have hexec : exec (.wakeRequest w i) s = execWakeRequest w i s := rfl
  set d : Chip := s.chip.wr .PWR_WAKE_CAUSE (fset (fset 0#32 F.PWR_WAKE_CAUSE_INDEX i.index) F.PWR_WAKE_CAUSE_SOURCE w.val) with hd
  have hin : d.inDeviceReset = false := by
    have h : d.pwr.st = .off := hst
    simp [Chip.inDeviceReset, h]
  refine runs_power hexec (d := d.deviceReset 6 0) ?_ fun x hxp hrd => ?_
  · rw [if_neg (by simp [hon, hq]), if_pos hst]
  · rw [hxp, Chip.get, hrd .RST_CAUSE rfl]
    exact ⟨deviceReset_st hin _ _, deviceReset_cause (canon_wr hc _ _) hin 0 (by decide)⟩

/-! ### The return to Run -/

/-- Back in Run, with the clocks of the state that ends (R338). -/
def exitRun (c : Chip) (slow : Nat) : Chip :=
  let p := c.pwr
  let deep : Bool := p.st == .deep
  let c := if deep then c.deepRestart slow else c.sleepRestart
  let c := if p.retained then c.each c.freeDies (fun c d => c.updFl d (fun l => { l with hold := false, badTo := 0, badFrom := 0, age := 0 }))
    else c
  let now := c.clk.now
  let c := c.updPwr (fun p =>
    { p with st := .run, runFrom := now, wake := none, exiting := false, retained := false, tripsDue := [] })
  c.updClk (fun k => { k with levels := [] })

/-- PWR_STATUS tells the state and the one before it. -/
def exitNoted (c : Chip) (slow : Nat) : Chip :=
  let w := fset (fset ((exitRun c slow).rd .PWR_STATUS) F.PWR_STATUS_LAST c.pwr.st.code) F.PWR_STATUS_STATE 0
  ((exitRun c slow).wr .PWR_STATUS w).bump .PWR_STATUS

/-- The event of the return. -/
def exitTold (c : Chip) (p : Pwr) : Chip :=
  let src := p.wake.getD (0, 0)
  c.post (c.ev 0x0209 0 0 [p.st.code, (c.sei.time - p.enteredAt).toNat, src.1, src.2])

/-- The losses of a deep sleep and the trips it held back. -/
def exitLosses (c : Chip) (slow : Nat) (p : Pwr) (deep : Bool) : Chip :=
  let c := if deep then c.deepLosses slow else c
  (c.each p.tripsDue (fun c e => c.postFault .trip (c.tripEvent deep e))).releaseEvents

/-- What was held back goes on. -/
def exitResumed (c : Chip) (p : Pwr) (deep : Bool) : Chip :=
  let c := c.inDrainAll
  let c := (if deep then c.inletsAnew else c).powerResume
  ((c.linesResume.pdResume.trunkBack p.retained).syncCw).balls

theorem exitLosses_held (c : Chip) (slow : Nat) (p : Pwr) (deep : Bool) : PwrHeld c (exitLosses c slow p deep) := by
  have hdeep : ∀ d : Chip, PwrHeld d (if deep then d.deepLosses slow else d) := fun d => by
    split
    · exact PwrHeld.of_fr (by apply Chip.deepLosses_fr (Fr.refl _ d) <;> simp)
    · exact PwrHeld.refl d
  refine (hdeep c).trans (PwrHeld.of_fr ?_)
  apply Chip.releaseEvents_fr (Fr.each (Fr.refl _ _) fun d e h => ?_)
  · simp
  · apply Chip.postFault_fr h <;> simp

theorem exitResumed_held (c : Chip) (p : Pwr) (deep : Bool) : PwrHeld c (exitResumed c p deep) := by
  have hdeep : ∀ d : Chip, PwrHeld d (if deep then d.inletsAnew else d) := fun d => by
    split
    · exact inletsAnew_held d
    · exact PwrHeld.refl d
  have hback : ∀ d : Chip, PwrHeld d ((d.trunkBack p.retained).syncCw).balls := fun d => PwrHeld.of_fr (by
    refine Chip.balls_fr (Chip.syncCw_fr (Chip.trunkBack_fr (Fr.refl _ d) ?_ ?_ ?_ ?_ ?_ ?_ ?_ ?_ ?_) ?_ ?_) ?_ <;> simp)
  have hpower : ∀ d : Chip, PwrHeld d d.powerResume := fun d => PwrHeld.of_fr (by apply Chip.powerResume_fr (Fr.refl _ d); simp)
  exact (inDrainAll_held c).trans ((hdeep _).trans ((hpower _).trans ((linesBack_held _).trans (hback _))))

theorem canon_exitRun {c : Chip} (hc : Canon c) (slow : Nat) : Canon (exitRun c slow) := by
  have hclock : Fr (keeping [] []) c (if (c.pwr.st == .deep) = true then c.deepRestart slow else c.sleepRestart) := by
    split
    · apply Chip.deepRestart_fr (Fr.refl _ c) <;> simp
    · apply Chip.sleepRestart_fr (Fr.refl _ c) ; simp
  have hdies : ∀ d : Chip, Fr (keeping [] []) d (if c.pwr.retained then
      d.each d.freeDies (fun c d => c.updFl d (fun l => { l with hold := false, badTo := 0, badFrom := 0, age := 0 })) else d) := fun d => by
    split
    · exact Fr.each (Fr.refl _ d) fun _ _ h => Chip.updFl_fr h (by simp)
    · exact Fr.refl _ d
  have hcanon := (hdies _).canon (hclock.canon hc)
  exact ⟨hcanon.regs, hcanon.flash, hcanon.blocks⟩

theorem exitNoted_status {c : Chip} (hc : Canon c) (slow : Nat) :
    (exitNoted c slow).get .PWR_STATUS F.PWR_STATUS_STATE = 0 ∧ (exitNoted c slow).get .PWR_STATUS F.PWR_STATUS_LAST = c.pwr.st.code := by
  have hcode : c.pwr.st.code < 8 := by
    cases c.pwr.st <;> decide
  rw [exitNoted, get_wr_bump _ (canon_exitRun hc slow) _ _ _ (by decide), get_wr_bump _ (canon_exitRun hc slow) _ _ _ (by decide),
    fget_fset_same _ _ _ (by decide), fget_fset_other _ _ _ _ (by decide) (by decide) (by decide), fget_fset_same _ _ _ (by decide)]
  exact ⟨rfl, Nat.mod_eq_of_lt (Nat.lt_of_lt_of_le hcode (by decide))⟩

theorem runs_lowPowerExit {s : State} (hc : Canon s.chip) (slow : Nat) (ha : s.chip.asleep = true) (hx : s.chip.pwr.exiting = true) :
    Runs (.lowPowerExitComplete slow) s (fun c => c.pwr.st = .run ∧ c.pwr.exiting = false ∧ c.pwr.retained = false ∧
      c.get .PWR_STATUS F.PWR_STATUS_STATE = 0 ∧ c.get .PWR_STATUS F.PWR_STATUS_LAST = s.chip.pwr.st.code) := by
  have hexec : exec (.lowPowerExitComplete slow) s = execLowPowerExitComplete slow s := rfl
  set n : Chip := exitNoted s.chip slow with hn
  set deep : Bool := s.chip.pwr.st == .deep with hdeep
  set d : Chip := exitResumed (exitLosses (exitTold n.active s.chip.pwr) slow s.chip.pwr deep) s.chip.pwr deep with hd
  have hheld : PwrHeld n d := (active_held n).trans ((PwrHeld.of_fr (fr_post _ _ (by simp))).trans ((exitLosses_held _ _ _ _).trans (exitResumed_held _ _ _)))
  have hrun : n.pwr.st = .run := rfl
  obtain ⟨hst, hex, hret, hrd⟩ := hheld.2 (by rw [hrun]; decide)
  obtain ⟨hstate, hlast⟩ := exitNoted_status hc slow
  refine runs_power hexec (d := d) ?_ fun x hxp hxr => ?_
  · rw [if_neg (by simp [ha, hx])]
    rfl
  · rw [hxp, hst, hex, hret, Chip.get, Chip.get, hxr .PWR_STATUS rfl, hrd]
    exact ⟨rfl, rfl, rfl, hstate, hlast⟩

/-- Settles O12: clause by clause, the settling after each command leaving the power state. -/
theorem powerStates : Obligations.PowerStates := by
  intro s hc _
  exact ⟨fun _ he ht hs hq hr => runs_entryStep_quiet he ht hs hq hr,
    fun _ he ht hs hr => runs_entryStep_check he ht hs hr,
    fun _ _ he ht hs hr => runs_entryStep_refused he ht hs hr hc,
    fun _ he ht hs => runs_entryStep_sleep he ht hs,
    fun _ he ht hs => runs_entryStep_deep he ht hs,
    fun _ he ht hs hq => runs_offStep_answers he ht hs hq,
    fun _ he ht hs hq => runs_offStep_bead he ht hs hq,
    fun _ he ht hs hd => runs_offStep_channels he ht hs hd,
    fun _ he ht hs hw => runs_offStep_off he ht hs hw,
    fun ha he hm hf hd => runs_quiet_idle ha he hm hf hd hc,
    fun ha he hauto hd => runs_quiet_sleep ha he hauto hd,
    fun ha he hauto hn hx ht hr hd => runs_quiet_deep ha he hauto hn hx ht hr hd,
    runs_idleWake_basin,
    runs_idleWake_run hc,
    fun _ _ hon hq ha he hw hx hl hb => runs_wake_first hc hon hq ha he hw hx hl hb,
    fun _ _ hon hh ha has hb => runs_wake_overrun hc hon hh ha has hb,
    fun _ _ hon hq hst => runs_wake_off hc hon hq hst,
    fun slow ha hx => runs_lowPowerExit hc slow ha hx⟩

end Sys2Proof.Proofs

namespace Sys2Proof.Proofs

open Sys2Proof.Machine Sys2Proof.Laws

/-! Rails: readings that differ, draw and budget, shedding and blocks (13 R276, R277, R287, R288; 17 R353). -/

theorem canon_updRail {c : Chip} (h : Canon c) (j : RailId) (f : Rail → Rail) : Canon (c.updRail j f) := ⟨h.regs, h.flash, h.blocks⟩

theorem rails_of_settle {d x : Chip} (h : Fr frSettle d x) : x.rails = d.rails := h.kept.rails (by decide)

/-- A mismatch of the readings is recorded and faults (R353). -/
theorem runs_railSenseMismatch {s : State} (hc : Canon s.chip) {j : RailId} {t : Nat} (hen : s.chip.railEn j = true)
    (hfrom : (s.chip.rails[j]).differFrom = some t) (hdue : t + ms 10 ≤ s.chip.clk.now) (htold : (s.chip.rails[j]).differTold = false) :
    Runs (.railSenseMismatch j) s (fun c => c.bit (.RAIL_STATUS j) F.RAIL_STATUS_MISMATCH = true ∧
      c.bitAt .GLB_FAULT F.GLB_FAULT_SRC (FaultSrc.rail).bit = true) := by
  have hexec : exec (.railSenseMismatch j) s = execRailSenseMismatch j s := rfl
  have hany : (s.chip.rails[j]).differFrom.any (fun u => u + ms 10 ≤ s.chip.clk.now) = true := by
    rw [hfrom, Option.any_some]
    exact decide_eq_true hdue
  set c₁ : Chip := (s.chip.updRail j (fun r => { r with differTold := true })).record (.RAIL_STATUS j) F.RAIL_STATUS_MISMATCH with hc₁
  set ev : Event := c₁.ev 0x0221 8 j.val [c₁.get (.RAIL_MEAS j) F.RAIL_MEAS_V_FD0, c₁.get (.RAIL_MEAS j) F.RAIL_MEAS_V_FD1] with hev
  have hcanon : Canon c₁ := canon_record (canon_updRail hc _ _) _ _
  have hf : Fr (keeping [] [.RAIL_STATUS j]) c₁ (c₁.postFault .rail ev) := by
    apply Chip.postFault_fr (Fr.refl _ _) <;> simp
  refine runs_settled hexec (c₁.postFault .rail ev) ?_ fun x hx => ⟨?_, ?_⟩
  · rw [if_neg (by rw [hen, htold, hany]; decide)]
  · rw [bit_of_rd (rd_of_settle hx rfl), bit_of_rd (hf.kept.regs (.RAIL_STATUS j) (by simp))]
    exact bit_record_same _ (canon_updRail hc _ _) _ _ (by decide) (by decide)
  · rw [bitAt_of_rd (rd_of_settle hx rfl)]
    exact bitAt_postFault c₁ hcanon _ _

/-! ### The draw -/

/-- The draw of the window, in the rail and in RAIL_STATUS. -/
def railDrawn (c : Chip) (j : RailId) (draw : BitVec 16) : Chip :=
  (c.updRail j (fun r => { r with draw := draw, sum := 0, sumAt := c.clk.now, windowFrom := c.clk.now })).setF (.RAIL_STATUS j)
    F.RAIL_STATUS_DRAW draw.toNat

/-- And whether it is over the budget. -/
def railJudged (c : Chip) (j : RailId) (draw : BitVec 16) : Chip :=
  ((railDrawn c j draw).updRail j (fun r => { r with overB := (railDrawn c j draw).overBudget j })).setSt (.RAIL_STATUS j)
    F.RAIL_STATUS_OVER (bitOf ((railDrawn c j draw).overBudget j))

/-- The next grace runs from now (R288). -/
def graceAnew (c : Chip) (j : RailId) : Chip :=
  c.updRail j (fun r => { r with graceAt := some (c.clk.now + ms (100 * c.getPos (.RAIL_BUDGET j) F.RAIL_BUDGET_SHED_GRACE)) })

/-- A rail that goes over its budget faults, and its contracts are reduced (R287). -/
def railOver (c : Chip) (j : RailId) (draw budget : Nat) : Chip :=
  ((graceAnew c j).postFault .rail ((graceAnew c j).ev 0x0220 8 j.val [1, draw, budget])).railPd j true

def graceEnds (c : Chip) (j : RailId) : Chip := c.updRail j (fun r => { r with graceAt := none })

/-- A rail below its budget gives back what the excess took (R288). -/
def railBelow (c : Chip) (j : RailId) (was : Bool) (draw budget : Nat) : Chip :=
  (if was then ((graceEnds c j).post ((graceEnds c j).ev 0x0220 8 j.val [0, draw, budget])).railPd j false else graceEnds c j).railWaiters j

/-- What the judgement of the draw sets off. -/
def railActs (c : Chip) (j : RailId) (was ov : Bool) (draw budget : Nat) : Chip :=
  if ov then if was then c else railOver c j draw budget else railBelow c j was draw budget

/-- The draw of the rail and RAIL_STATUS stay. -/
def DrawKept (j : RailId) (c x : Chip) : Prop :=
  (x.rails[j]).draw = (c.rails[j]).draw ∧ x.rd (.RAIL_STATUS j) = c.rd (.RAIL_STATUS j)

theorem drawKept_of_fr {j : RailId} {c d x : Chip} (hd : DrawKept j c d) (hf : Fr (keeping [.rails] [.RAIL_STATUS j]) d x) :
    DrawKept j c x :=
  ⟨by rw [hf.kept.rails (by simp), hd.1], (hf.kept.regs (.RAIL_STATUS j) (by simp)).trans hd.2⟩

theorem graceAnew_keeps (c : Chip) (j : RailId) : DrawKept j c (graceAnew c j) :=
  ⟨by rw [graceAnew, updRail_same], rfl⟩

theorem graceEnds_keeps (c : Chip) (j : RailId) : DrawKept j c (graceEnds c j) :=
  ⟨by rw [graceEnds, updRail_same], rfl⟩

theorem railActs_keeps (c : Chip) (j : RailId) (was ov : Bool) (draw budget : Nat) : DrawKept j c (railActs c j was ov draw budget) := by
  have hover : DrawKept j c (railOver c j draw budget) := drawKept_of_fr (graceAnew_keeps c j) (by
    unfold railOver
    apply Chip.railPd_fr (Chip.postFault_fr (Fr.refl _ _) ?_ ?_ ?_ ?_) <;> simp)
  have hbelow : DrawKept j c (railBelow c j was draw budget) := drawKept_of_fr (graceEnds_keeps c j) (by
    unfold railBelow
    refine Chip.railWaiters_fr ?_ ?_ ?_ ?_
    · split
      · apply Chip.railPd_fr (Chip.post_fr (Fr.refl _ _) ?_) <;> simp
      · exact Fr.refl _ _
    all_goals simp)
  unfold railActs
  split
  · split
    · exact ⟨rfl, rfl⟩
    · exact hover
  · exact hbelow

theorem railDrawn_over (c : Chip) (j : RailId) (draw : BitVec 16) : (railDrawn c j draw).overBudget j =
    (c.get (.RAIL_BUDGET j) F.RAIL_BUDGET_BUDGET != 0xFFFF && decide (c.get (.RAIL_BUDGET j) F.RAIL_BUDGET_BUDGET < draw.toNat)) := by
  have hbudget : (railDrawn c j draw).get (.RAIL_BUDGET j) F.RAIL_BUDGET_BUDGET = c.get (.RAIL_BUDGET j) F.RAIL_BUDGET_BUDGET :=
    get_of_rd (rd_setF_other _ _ _ (by simp)) _
  have hdraw : (railDrawn c j draw).rails[j].draw = draw :=
    congrArg Rail.draw (updRail_same c j (fun r => { r with draw := draw, sum := 0, sumAt := c.clk.now, windowFrom := c.clk.now }))
  unfold Chip.overBudget
  rw [hbudget, hdraw]

theorem railJudged_tells {c : Chip} (hc : Canon c) (j : RailId) (draw : BitVec 16) :
    ((railJudged c j draw).rails[j]).draw = draw ∧ (railJudged c j draw).get (.RAIL_STATUS j) F.RAIL_STATUS_DRAW = draw.toNat ∧
      (railJudged c j draw).bit (.RAIL_STATUS j) F.RAIL_STATUS_OVER = (railDrawn c j draw).overBudget j := by
  have hcanon : Canon (railDrawn c j draw) := canon_setF (canon_updRail hc _ _) _ _ _
  have hrails : ∀ (d : Chip) r f v, (d.setSt r f v).rails = d.rails := fun d r f v => by
    unfold Chip.setSt
    split <;> rfl
  refine ⟨?_, ?_, ?_⟩
  · rw [railJudged, hrails, updRail_same]
    exact congrArg Rail.draw (updRail_same c j (fun r => { r with draw := draw, sum := 0, sumAt := c.clk.now, windowFrom := c.clk.now }))
  · rw [railJudged, get_setSt_field _ (canon_updRail hcanon _ _) _ _ _ _ (by decide) (by decide) (by decide)]
    exact (get_setF_same _ (canon_updRail hc _ _) _ _ _ (by decide)).trans (Nat.mod_eq_of_lt draw.isLt)
  · exact bit_setSt_same _ (canon_updRail hcanon _ _) _ _ _ (by decide) (by decide)

theorem runs_railDrawWindow {s : State} (hc : Canon s.chip) {j : RailId} {draw : BitVec 16}
    (hdue : (s.chip.rails[j]).windowFrom + ms 1 ≤ s.chip.clk.now) (hdraw : draw = s.chip.railDraw j) :
    Runs (.railDrawWindow j draw) s (fun c => (c.rails[j]).draw = draw ∧ c.get (.RAIL_STATUS j) F.RAIL_STATUS_DRAW = draw.toNat ∧
      c.bit (.RAIL_STATUS j) F.RAIL_STATUS_OVER = (s.chip.get (.RAIL_BUDGET j) F.RAIL_BUDGET_BUDGET != 0xFFFF &&
        decide (s.chip.get (.RAIL_BUDGET j) F.RAIL_BUDGET_BUDGET < draw.toNat))) := by
  have hexec : exec (.railDrawWindow j draw) s = execRailDrawWindow j draw s := rfl
  have hno : ¬ (s.chip.clk.now < (s.chip.rails[j]).windowFrom + ms 1 ∨ draw ≠ s.chip.railDraw j) := by
    rintro (h | h)
    · exact Nat.not_lt.2 hdue h
    · exact h hdraw
  obtain ⟨htold, hreg, hover⟩ := railJudged_tells hc j draw
  set d : Chip := railActs (railJudged s.chip j draw) j ((railDrawn s.chip j draw).rails[j]).overB ((railDrawn s.chip j draw).overBudget j)
    draw.toNat ((railDrawn s.chip j draw).get (.RAIL_BUDGET j) F.RAIL_BUDGET_BUDGET) with hd
  obtain ⟨hkeep, hrd⟩ := railActs_keeps (railJudged s.chip j draw) j ((railDrawn s.chip j draw).rails[j]).overB
    ((railDrawn s.chip j draw).overBudget j) draw.toNat ((railDrawn s.chip j draw).get (.RAIL_BUDGET j) F.RAIL_BUDGET_BUDGET)
  refine runs_settled hexec d ?_ fun x hx => ?_
  · rw [if_neg hno]
    rfl
  · have hxrd : x.rd (.RAIL_STATUS j) = (railJudged s.chip j draw).rd (.RAIL_STATUS j) := (rd_of_settle hx rfl).trans hrd
    rw [get_of_rd hxrd, bit_of_rd hxrd, rails_of_settle hx, hkeep, htold, hreg, hover, railDrawn_over]
    exact ⟨rfl, rfl, rfl⟩

/-! ### Shedding and blocks -/

theorem runs_shedGraceExpiry {s : State} {j : RailId} {t : Nat} {n : Port} (hgrace : (s.chip.rails[j]).graceAt = some t)
    (hdue : t ≤ s.chip.clk.now) (hpick : s.chip.shedPick j = some n) (hdie : DieFree s.chip (fuseDie n)) :
    Runs (.shedGraceExpiry j) s (fun c => (c.chans[n]).phase = .off ∧ (c.rails[j]).graceAt =
      some (s.chip.clk.now + ms (100 * s.chip.getPos (.RAIL_BUDGET j) F.RAIL_BUDGET_SHED_GRACE))) := by
  have hexec : exec (.shedGraceExpiry j) s = execShedGraceExpiry j s := rfl
  set g : Chip := graceAnew s.chip j with hg
  set ev : Event := g.evCh 0x0304 n [j.val, s.chip.get (.CH_CFG n) F.CH_CFG_PRIO, (g.rails[j]).draw.toNat,
    g.get (.RAIL_BUDGET j) F.RAIL_BUDGET_BUDGET] with hev
  obtain ⟨-, hoff, -⟩ := fuseNow_off (c := g) hdie
  have hrails : Fr (keeping [.rails] []) g (g.fuseNow (.CH_CMD n) 0#32) := by
    apply Chip.fuseNow_fr (Fr.refl _ _) <;> simp
  have hpost := fr_post (ps := [.rails, .chans]) (rs := []) (g.fuseNow (.CH_CMD n) 0#32) ev (by simp)
  refine runs_settled hexec ((g.fuseNow (.CH_CMD n) 0#32).post ev) ?_ fun x hx => ⟨?_, ?_⟩
  · simp only [hgrace, hpick, Option.any_some, hdue, decide_true, Bool.not_true, Bool.false_eq_true, if_false]
    rfl
  · rw [hx.kept.chans (by decide), hpost.kept.chans (by simp)]
    exact hoff
  · rw [rails_of_settle hx, hpost.kept.rails (by simp), hrails.kept.rails (by simp), hg, graceAnew, updRail_same]

theorem runs_railBlockEnd {s : State} {j : RailId} {t : Nat} (hblocked : (s.chip.rails[j]).blocked = some t) (hdue : t ≤ s.chip.clk.now) :
    Runs (.railBlockEnd j) s (fun c => (c.rails[j]).blocked = none) := by
  have hexec : exec (.railBlockEnd j) s = execRailBlockEnd j s := rfl
  set b : Chip := s.chip.updRail j (fun r => { r with blocked := none }) with hb
  have hf : Fr (keeping [.rails] []) b ((b.evRailBlocked j false).railWaiters j) := by
    apply Chip.railWaiters_fr (Chip.evRailBlocked_fr (Fr.refl _ b) ?_) <;> simp
  refine runs_settled hexec ((b.evRailBlocked j false).railWaiters j) ?_ fun x hx => ?_
  · simp only [hblocked, Option.any_some, hdue, decide_true, if_true]
    rfl
  · rw [rails_of_settle hx, hf.kept.rails (by simp), hb, updRail_same]

/-- Settles O17: each command by what its rail, RAIL_STATUS and the shed channel keep through the rest of it. -/
theorem rails : Obligations.Rails := by
  intro s hc _
  exact ⟨fun _ _ hen hfrom hdue htold => runs_railSenseMismatch hc hen hfrom hdue htold,
    fun _ _ hdue hdraw => runs_railDrawWindow hc hdue hdraw,
    fun _ _ _ hgrace hdue hpick hdie => runs_shedGraceExpiry hgrace hdue hpick hdie,
    fun _ _ hblocked hdue => runs_railBlockEnd hblocked hdue⟩

end Sys2Proof.Proofs

namespace Sys2Proof.Proofs

open Sys2Proof.Machine Sys2Proof.Laws

/-! Granting and freeing contexts of the Pond, for an order of the directory of any kind (07 R147 to R150, R159). -/

/-! ### A granted group -/

/-- The allocator finds as many contexts as asked (R149). -/
theorem lowestFree_length : ∀ (fuel n k : Nat) (l : List (Nat × Ctx)), n + l.length ≤ fuel → (lowestFree fuel n k l).length = n
  | 0, n, _, l, h => by simp only [lowestFree, List.length_nil]; omega
  | fuel + 1, n, k, l, h => by
    unfold lowestFree
    split
    · next hn => simp [hn]
    · next hn =>
      split
      · simp only [List.length_cons]
        rw [lowestFree_length fuel (n - 1) (k + 1) [] (by simp only [List.length_nil]; omega)]
        omega
      · next j x t =>
        simp only [List.length_cons] at h
        split
        · simp only [List.length_cons]
          rw [lowestFree_length fuel (n - 1) (k + 1) ((j, x) :: t) (by simp only [List.length_cons]; omega)]
          omega
        · split
          · simp only [List.length_cons]
            rw [lowestFree_length fuel (n - 1) (j + 1) t (by omega)]
            omega
          · exact lowestFree_length fuel n (j + 1) t (by omega)

theorem take_length (c : Chip) (h : Fin 99) (g : Group) (n : Nat) : (c.take h g n).1.length = n := lowestFree_length _ _ _ _ le_rfl

theorem each_setCtx_mem (w : Nat → Ctx → Ctx) {i : Nat} : ∀ (l : List Nat) (c : Chip), i ∈ l ∨ (∃ x, c.ctx i = w i x) →
    ∃ x, (c.each l fun c k => c.setCtx k (w k (c.ctx k))).ctx i = w i x
  | [], _, h => h.resolve_left List.not_mem_nil
  | k :: t, c, h => by
    refine each_setCtx_mem w t (c.setCtx k (w k (c.ctx k))) ?_
    by_cases hik : i = k
    · subst hik
      exact Or.inr ⟨_, ctx_setCtx_same _ _ _⟩
    · rw [ctx_setCtx_other _ _ hik]
      exact h.imp_left fun hm => (List.mem_cons.1 hm).resolve_left hik

/-- Every context taken is granted. -/
theorem take_granted {c : Chip} {h : Fin 99} {g : Group} {n i : Nat} (hi : i ∈ (c.take h g n).1) :
    ∃ x, (c.take h g n).2.ctx i = grantedCtx h g ((c.take h g n).1.headD 0) i x := by
  have hpool : (c.take h g n).2.ctx i = (c.grantCtxs h g (c.take h g n).1).ctx i := (poolEvents_ctx _ _).trans rfl
  rw [hpool]
  exact each_setCtx_mem (grantedCtx h g ((c.take h g n).1.headD 0)) _ c (Or.inl hi)

theorem take_pFree {c : Chip} (hc : Canon c) (h : Fin 99) (g : Group) (n : Nat) : (c.take h g n).2.pFree = c.pFree - n := by
  have hlt : c.pFree - n < 2 ^ 21 := lt_of_le_of_lt (Nat.sub_le _ _) (BitVec.isLt _)
  have hset := get_setF_same _ (canon_setF (canon_grantCtxs hc h g (lowestFree (n + c.pond.ctxs.length) n 0 c.pond.ctxs)) (.HOLDER_USED h)
    F.HOLDER_USED_USED (c.used h + n)) .POND_FREE F.POND_FREE_FREE (c.pFree - n) (by decide)
  simpa [Chip.take, Chip.pFree, Chip.used, poolEvents_get, grantCtxs_get] using hset.trans (Nat.mod_eq_of_lt hlt)

/-- A context of a granted group of one type reads as granted (R147). -/
theorem take_typ {c : Chip} {h : Fin 99} {t n i : Nat} (hi : i ∈ (c.take h (.of t) n).1) :
    ((c.take h (.of t) n).2.ctx i).typ = t ∧ ((c.take h (.of t) n).2.ctx i).holder = h.val ∧ ((c.take h (.of t) n).2.ctx i).body = .zero := by
  obtain ⟨x, hx⟩ := take_granted hi
  rw [hx]
  exact ⟨rfl, rfl, rfl⟩

theorem used_lt_of_verdict {c : Chip} {h : Fin 99} {n : Nat} (hv : c.allocVerdict h n = rOK) : c.used h + n < 2 ^ 21 := by
  have hq := quota_lt c h
  by_contra hlt
  exact absurd ((allocVerdict_of_quota_lt (by omega)).symm.trans hv) (by decide)

/-! ### A freed context -/

theorem evict_fr (c : Chip) (i : Nat) (x : Ctx) : Fr ⟨[.engines], noReg⟩ c (c.evict i x) := Chip.evict_fr (Fr.refl _ _) (by decide)

/-- A context given back, before the registers count it. -/
def emptied (c : Chip) (i : Nat) : Chip := (c.evict i (c.ctx i)).setCtx i { gen := (c.ctx i).gen }

/-- The registers count it (R150). -/
def countedBack (c : Chip) (h : Fin 99) (i : Nat) : Chip :=
  let d := (emptied c i).setF (.HOLDER_USED h) F.HOLDER_USED_USED ((emptied c i).used h - 1)
  d.setF .POND_FREE F.POND_FREE_FREE (d.pFree + 1)

theorem emptied_pond (c : Chip) (i : Nat) : (emptied c i).pond = (c.setCtx i { gen := (c.ctx i).gen }).pond := by
  simp only [emptied, Chip.setCtx, updPond_pond, (evict_fr c i (c.ctx i)).kept.pond (by decide)]

theorem emptied_get (c : Chip) (i : Nat) (r : Reg) (f : Field) : (emptied c i).get r f = c.get r f := by
  rw [Chip.get, Chip.get]
  exact congrArg (fun w => fget w f) ((evict_fr c i (c.ctx i)).kept.regs r rfl)

theorem canon_emptied {c : Chip} (hc : Canon c) (i : Nat) : Canon (emptied c i) :=
  canon_setCtx ((evict_fr c i (c.ctx i)).canon hc) _ _

theorem countedBack_pond (c : Chip) (h : Fin 99) (i : Nat) : (countedBack c h i).pond = (c.setCtx i { gen := (c.ctx i).gen }).pond :=
  emptied_pond c i

theorem freeCtx_stays {c : Chip} {i : Nat} (h : (c.ctx i).typ = tFREE ∨ (c.ctx i).poisoned = true) : c.freeCtx i = c := if_pos h

/-- With nobody waiting a context in use goes back to the pool. -/
theorem freeCtx_eq {c : Chip} {i : Nat} (ht : (c.ctx i).typ ≠ tFREE) (hp : (c.ctx i).poisoned = false) (hw : c.pond.waiters = []) :
    c.freeCtx i = ((countedBack c (Fin.ofNat 99 (c.ctx i).holder) i).quotaCheck (Fin.ofNat 99 (c.ctx i).holder) false).poolEvents := by
  have hno : ¬ ((c.ctx i).typ = tFREE ∨ (c.ctx i).poisoned = true) := by
    rw [hp]
    simpa using ht
  have hwait : ((countedBack c (Fin.ofNat 99 (c.ctx i).holder) i).quotaCheck (Fin.ofNat 99 (c.ctx i).holder) false).pond.waiters = [] := by
    rw [(quotaCheck_fr _ _ _).kept.pond (by decide), countedBack_pond, setCtx_waiters, hw]
  unfold Chip.freeCtx
  dsimp only
  rw [if_neg hno]
  exact congrArg Chip.poolEvents (reserveFreed_of_waiters_nil hwait)

theorem freeCtx_pond {c : Chip} {i : Nat} (ht : (c.ctx i).typ ≠ tFREE) (hp : (c.ctx i).poisoned = false) (hw : c.pond.waiters = []) :
    ∃ b, (c.freeCtx i).pond = { (c.setCtx i { gen := (c.ctx i).gen }).pond with lowArmed := b } := by
  obtain ⟨b, hb⟩ := poolEvents_pond ((countedBack c (Fin.ofNat 99 (c.ctx i).holder) i).quotaCheck (Fin.ofNat 99 (c.ctx i).holder) false)
  refine ⟨b, ?_⟩
  rw [freeCtx_eq ht hp hw, hb, (quotaCheck_fr _ _ _).kept.pond (by decide), countedBack_pond]

theorem ctx_of_ctxs {c d : Chip} (h : d.pond.ctxs = c.pond.ctxs) (i : Nat) : d.ctx i = c.ctx i := by rw [Chip.ctx, Chip.ctx, h]

theorem freeCtx_ctx_same {c : Chip} {i : Nat} (ht : (c.ctx i).typ ≠ tFREE) (hp : (c.ctx i).poisoned = false) (hw : c.pond.waiters = []) :
    (c.freeCtx i).ctx i = { gen := (c.ctx i).gen } := by
  obtain ⟨b, hb⟩ := freeCtx_pond ht hp hw
  exact (ctx_of_ctxs (c := c.setCtx i { gen := (c.ctx i).gen }) (by rw [hb]) i).trans (ctx_setCtx_same _ _ _)

theorem freeCtx_ctx_other {c : Chip} {i j : Nat} (hw : c.pond.waiters = []) (h : j ≠ i) : (c.freeCtx i).ctx j = c.ctx j := by
  by_cases hs : (c.ctx i).typ = tFREE ∨ (c.ctx i).poisoned = true
  · rw [freeCtx_stays hs]
  · obtain ⟨ht, hp⟩ := not_or.1 hs
    obtain ⟨b, hb⟩ := freeCtx_pond ht (by simpa using hp) hw
    exact (ctx_of_ctxs (c := c.setCtx i { gen := (c.ctx i).gen }) (by rw [hb]) j).trans (ctx_setCtx_other _ _ h)

/-- Freeing leaves who waits and what is granted. -/
theorem freeCtx_lists {c : Chip} (i : Nat) (hw : c.pond.waiters = []) :
    (c.freeCtx i).pond.waiters = [] ∧ (c.freeCtx i).pond.grants = c.pond.grants ∧ (c.freeCtx i).pond.rebuild = c.pond.rebuild := by
  by_cases hs : (c.ctx i).typ = tFREE ∨ (c.ctx i).poisoned = true
  · rw [freeCtx_stays hs]
    exact ⟨hw, rfl, rfl⟩
  · obtain ⟨ht, hp⟩ := not_or.1 hs
    obtain ⟨b, hb⟩ := freeCtx_pond ht (by simpa using hp) hw
    rw [hb]
    exact ⟨hw, rfl, rfl⟩

/-- A check of the quota leaves what the holder uses (R154). -/
theorem quotaCheck_used {c : Chip} (hc : Canon c) (h : Fin 99) (b : Bool) : (c.quotaCheck h b).used h = c.used h := by
  have hset : ∀ (v : Bool) (e : Event), ((c.setB (.HOLDER_USED h) F.HOLDER_USED_OVER_QUOTA v).post e).used h = c.used h := fun v e =>
    (get_of_rd (post_rd _ e _) _).trans (get_setF_field c hc _ _ _ _ (by decide) (by decide) (by decide))
  unfold Chip.quotaCheck
  dsimp only
  split
  · exact hset _ _
  · split
    · exact hset _ _
    · rfl

theorem countedBack_used {c : Chip} (hc : Canon c) (h : Fin 99) (i : Nat) : (countedBack c h i).used h = c.used h - 1 := by
  have hlt : c.used h - 1 < 2 ^ 21 := lt_of_le_of_lt (Nat.sub_le _ _) (BitVec.isLt _)
  have hset := get_setF_same _ (canon_emptied hc i) (.HOLDER_USED h) F.HOLDER_USED_USED ((emptied c i).used h - 1) (by decide)
  have hused : (emptied c i).used h = c.used h := emptied_get c i _ _
  rw [hused] at hset
  refine (get_setF_other _ _ _ _ (by simp)).trans ?_
  rw [hused]
  exact hset.trans (Nat.mod_eq_of_lt hlt)

theorem countedBack_pFree {c : Chip} (hc : Canon c) (h : Fin 99) (i : Nat) (hf : c.pFree < pondSize) :
    (countedBack c h i).pFree = c.pFree + 1 := by
  have hlt : c.pFree + 1 < 2 ^ 21 := lt_of_le_of_lt hf (by decide)
  have hset := get_setF_same _ (canon_setF (canon_emptied hc i) (.HOLDER_USED h) F.HOLDER_USED_USED ((emptied c i).used h - 1))
    .POND_FREE F.POND_FREE_FREE (c.pFree + 1) (by decide)
  have hfree : ((emptied c i).setF (.HOLDER_USED h) F.HOLDER_USED_USED ((emptied c i).used h - 1)).pFree = c.pFree :=
    (get_setF_other _ _ _ _ (by simp)).trans (emptied_get c i _ _)
  unfold countedBack
  dsimp only
  rw [hfree]
  exact hset.trans (Nat.mod_eq_of_lt hlt)

theorem canon_countedBack {c : Chip} (hc : Canon c) (h : Fin 99) (i : Nat) : Canon (countedBack c h i) :=
  canon_setF (canon_setF (canon_emptied hc i) _ _ _) _ _ _

/-- A freed context is charged no longer, and is free again (R150, R159). -/
theorem freeCtx_counts {c : Chip} (hc : Canon c) {i : Nat} {h : Fin 99} (ht : (c.ctx i).typ ≠ tFREE) (hp : (c.ctx i).poisoned = false)
    (hw : c.pond.waiters = []) (hh : (c.ctx i).holder = h.val) (hf : c.pFree < pondSize) :
    (c.freeCtx i).used h = c.used h - 1 ∧ (c.freeCtx i).pFree = c.pFree + 1 := by
  have hfin : Fin.ofNat 99 (c.ctx i).holder = h := by
    rw [hh]
    exact Fin.ext (Nat.mod_eq_of_lt h.isLt)
  rw [freeCtx_eq ht hp hw, hfin]
  constructor
  · exact (poolEvents_get _ _ (by simp)).trans ((quotaCheck_used (canon_countedBack hc h i) h false).trans (countedBack_used hc h i))
  · exact (poolEvents_get _ _ (by simp)).trans ((get_of_rd ((quotaCheck_fr _ h false).kept.regs .POND_FREE rfl) _).trans
      (countedBack_pFree hc h i hf))

/-- Freeing several contexts leaves who waits and what is granted. -/
theorem each_freeCtx_lists : ∀ (l : List Nat) (c : Chip), c.pond.waiters = [] →
    (c.each l Chip.freeCtx).pond.waiters = [] ∧ (c.each l Chip.freeCtx).pond.grants = c.pond.grants
  | [], _, hw => ⟨hw, rfl⟩
  | i :: t, c, hw => by
    obtain ⟨hw', hg, -⟩ := freeCtx_lists i hw
    obtain ⟨hw'', hg'⟩ := each_freeCtx_lists t (c.freeCtx i) hw'
    exact ⟨hw'', hg'.trans hg⟩

/-- A context as freed: one that is in use and not poisoned keeps its GEN alone (R159). -/
def freedCtx (x : Ctx) : Ctx := if x.typ ≠ tFREE ∧ x.poisoned = false then { gen := x.gen } else x

theorem freedCtx_freedCtx (x : Ctx) : freedCtx (freedCtx x) = freedCtx x := by
  unfold freedCtx
  split
  · rfl
  · rfl

theorem freeCtx_ctx (c : Chip) (hw : c.pond.waiters = []) (i : Nat) : (c.freeCtx i).ctx i = freedCtx (c.ctx i) := by
  by_cases h : (c.ctx i).typ ≠ tFREE ∧ (c.ctx i).poisoned = false
  · rw [freedCtx, if_pos h, freeCtx_ctx_same h.1 h.2 hw]
  · rw [freedCtx, if_neg h, freeCtx_stays (by by_contra hno; exact h (by simpa using hno))]

theorem each_freeCtx_ctx (j : Nat) : ∀ (l : List Nat) (c : Chip), c.pond.waiters = [] →
    (c.each l Chip.freeCtx).ctx j = if j ∈ l then freedCtx (c.ctx j) else c.ctx j
  | [], _, _ => rfl
  | i :: t, c, hw => by
    have hstep : (c.each (i :: t) Chip.freeCtx) = (c.freeCtx i).each t Chip.freeCtx := rfl
    rw [hstep, each_freeCtx_ctx j t _ (freeCtx_lists i hw).1]
    by_cases hij : j = i
    · subst hij
      rw [freeCtx_ctx c hw, freedCtx_freedCtx, if_pos List.mem_cons_self]
      exact ite_self _
    · rw [freeCtx_ctx_other hw hij]
      simp [hij]

end Sys2Proof.Proofs

namespace Sys2Proof.Proofs

open Sys2Proof.Machine Sys2Proof.Laws

/-! The Seiche opcodes (12 R245, R247, R251, R253 to R257, R259, R264, R265, R272). -/

section
variable {s : State} {q : ReqId} {e : ReqEntry}

/-! ### Seiche's opcodes -/

theorem runS_congr {f g : Chip → Chip} (h : f s.chip = g s.chip) : s.runS f = s.runS g := by
  unfold State.runS
  exact congrArg (fun x => Host.Outcome.next { s with chip := Chip.settle x }) h

/-- An opcode that allocates runs while the directory is not rebuilt (R161). -/
theorem serveSei_alloc {c : Chip} (hr : c.pond.rebuild = false) (op : BitVec 16) (body : Chip → Chip) :
    c.serveSei q op true body = c.serve q op [0] (fun _ c => body c) := by
  rw [Chip.serveSei, hr]
  rfl

theorem taken_allocVerdict (c : Chip) (h : Fin 99) (n : Nat) : (Taken c q).allocVerdict h n = c.allocVerdict h n := by
  simp [Chip.allocVerdict]

theorem taken_refOk (c : Chip) (i : Nat) (g : Byte) : (Taken c q).refOk i g = c.refOk i g := by simp [Chip.refOk]

theorem taken_mark? (c : Chip) (i : Nat) (g : Byte) : (Taken c q).mark? i g = c.mark? i g := mark?_of_pond (taken_pond c q) i g

theorem finOf_val {n : Nat} [NeZero n] (x : Fin n) : Fin.ofNat n x.val = x := Fin.ext (Nat.mod_eq_of_lt x.isLt)

/-! ### MARK_CREATE -/

theorem kindOk_of_taken (c : Chip) (k : Nat) (a : Word) : (Taken c q).kindOk k a = c.kindOk k a := by
  simp [Chip.kindOk, Chip.template?, Chip.refOk]

/-- A template that suits the action is a live one. -/
theorem fresh_of_kindOk {c : Chip} {k : Nat} {a : Word} (h : c.kindOk k a = true) : c.templateStale k a = false := by
  by_cases hk : k = 4 ∨ k = 5
  · have hsome : (c.template? a).isSome = true := by
      rcases hk with rfl | rfl
      · cases ht : c.template? a with
        | none => simp [Chip.kindOk, ht] at h
        | some _ => rfl
      · cases ht : c.template? a with
        | none => simp [Chip.kindOk, ht] at h
        | some _ => rfl
    have href : c.refOk (a.extractLsb' 0 20).toNat (a.extractLsb' 20 8) = true := by
      by_contra hno
      rw [Chip.template?, if_neg hno] at hsome
      exact absurd hsome (by decide)
    rw [Chip.templateStale, href]
    exact Bool.and_false _
  · obtain ⟨h4, h5⟩ := not_or.1 hk
    simp [Chip.templateStale, h4, h5]

/-- The mark in its granted context, told to Seiche. -/
def markMade (c : Chip) (i : Nat) (m : MarkBody) : Chip :=
  (c.setBody i (.mark m)).updSei (fun x => { x with fresh := x.fresh ++ [{ cid := i, gen := (c.ctx i).gen }] })

theorem markMade_mark {c : Chip} {i : Nat} (ht : (c.ctx i).typ = tMARK) (m : MarkBody) :
    (markMade c i m).mark? i (c.ctx i).gen = some m := by
  have hctx : (markMade c i m).ctx i = { c.ctx i with body := .mark m } := setBody_ctx _ _ _
  refine mark?_of_body ?_ (by rw [hctx])
  rw [Chip.refOk, hctx]
  simp [ht, tMARK, tFREE]

theorem markMade_fr {a c : Chip} {f : Frame} (h : Fr f a c) (hp : Part.pond ∈ f.parts) (hs : Part.sei ∈ f.parts) (i : Nat) (m : MarkBody) :
    Fr f a (markMade c i m) := Chip.updSei_fr (Chip.setBody_fr h hp) hs

/-- The arguments of a mark that may be created (R254). -/
theorem markArgs_ok {c : Chip} {b : Belt} {d k : Nat} {a : Word} (hen : c.beltEn b = true) (hd : 1 ≤ d ∧ d ≤ 3) (hk : 1 ≤ k ∧ k ≤ 6)
    (hout : k ≤ 3 → a.toNat % 256 < 32) (hpulse : k = 3 → 256 ≤ a.toNat) :
    ¬ (16 ≤ b.val ∨ (!c.beltEn (Fin.ofNat 16 b.val)) = true ∨ d = 0 ∨ 3 < d ∨ k = 0 ∨ 6 < k ∨
      ((1 ≤ k && k ≤ 3) = true ∧ 32 ≤ a.toNat % 256) ∨ (k = 3 ∧ a.toNat / 256 = 0)) := by
  have hb := b.isLt
  simp only [finOf_val, hen, Bool.and_eq_true, decide_eq_true_eq, Bool.not_true, Bool.false_eq_true, false_or]
  omega

theorem runs_markCreate (hg : s.chip.pond.grants = []) {b : Belt} {p : Pos} {d k : Nat} {f : Byte} {w : BitVec 16} {a : Word}
    {pe ne : BitVec 16} (hs : Startable s.chip q 0x0701#16 [0] e) (hr : s.chip.pond.rebuild = false) (hen : s.chip.beltEn b = true)
    (hd : 1 ≤ d ∧ d ≤ 3) (hk : 1 ≤ k ∧ k ≤ 6) (hout : k ≤ 3 → a.toNat % 256 < 32) (hpulse : k = 3 → 256 ≤ a.toNat)
    (hkind : s.chip.kindOk k a = true) (hv : s.chip.allocVerdict hMARK 1 = rOK) :
    Runs (.markCreate q b.val p d k f w a pe ne) s (fun c => ∃ i g, Answered c q e rOK [i, g.toNat] ∧
      c.mark? i g = some { pos := p, belt := b, dir := d, action := k, mstate := msPENDING, mflags := f &&& 3#8, window := w,
                           arg := a, portEpoch := pe, nodeEpoch := ne, door := q.door } ∧ ⟨i, g, none⟩ ∈ c.sei.fresh) := by
  obtain ⟨i, hi⟩ := List.length_eq_one_iff.1 (take_length (Taken s.chip q) hMARK (.of tMARK) 1)
  set m : MarkBody := { pos := p, belt := b, dir := d, action := k, mstate := msPENDING, mflags := f &&& 3#8, window := w, arg := a,
                        portEpoch := pe, nodeEpoch := ne, door := q.door } with hm
  have hexec : exec (.markCreate q b.val p d k f w a pe ne) s = execMarkCreate q b.val p d k f w a pe ne s := rfl
  obtain ⟨t, ht⟩ : ∃ t, (Taken s.chip q).take hMARK (.of tMARK) 1 = t := ⟨_, rfl⟩
  obtain ⟨htyp, -, -⟩ := take_typ (c := Taken s.chip q) (h := hMARK) (t := tMARK) (n := 1) (i := i) (by rw [hi]; exact List.mem_singleton.2 rfl)
  rw [ht] at htyp
  have hfr : Fr (keeping [.reqs] []) (Taken s.chip q) t.2 := by
    rw [← ht]
    apply Chip.take_fr2 (Fr.refl _ _) <;> simp
  have hgrants : t.2.pond.grants = [] := by rw [← ht, take_grants, taken_pond, hg]
  have hgood := markArgs_ok ((taken_bit s.chip q F.BELT_CTL_EN (r := .BELT_CTL b) (by simp)).trans hen) hd hk hout hpulse
  have halloc : (Taken s.chip q).alloc hMARK (.of tMARK) 1 = (.ok [i], t.2) := by
    rw [alloc_eq_verdict _ _ _ (by decide), taken_allocVerdict, if_pos hv, hi, ht]
  have hrun : Runs (.markCreate q b.val p d k f w a pe ne) s (fun c => Answered c q e rOK [i, (t.2.ctx i).gen.toNat] ∧
      (c.mark? i (t.2.ctx i).gen = some m ∧ ⟨i, (t.2.ctx i).gen, none⟩ ∈ c.sei.fresh)) := by
    refine runs_answered (d := markMade t.2 i m) (f := keeping [.reqs] []) (n := 4) hs
      (hexec.trans (runS_congr (serveSei_alloc hr _ _))) ?_ ?_ ?_ ?_ fun c hc => ?_
    · dsimp only
      rw [if_neg hgood, fresh_of_kindOk ((kindOk_of_taken _ _ _).trans hkind), kindOk_of_taken, hkind, halloc]
      simp only [finOf_val]
      rfl
    · exact markMade_fr hfr (by simp) (by simp) i m
    · simp
    · exact hgrants
    · rw [mark?_of_pond (pond_of_answer_fr hc), hc.kept.sei (by decide)]
      exact ⟨markMade_mark htyp m, List.mem_append_right _ (List.mem_singleton.2 rfl)⟩
  obtain ⟨u, hu, hpend, hans, hmark, hfresh⟩ := hrun
  exact ⟨u, hu, hpend, i, _, hans, hmark, hfresh⟩

/-- A template that is gone refuses the mark (R256). -/
theorem runs_markCreate_stale (hg : s.chip.pond.grants = []) {b : Belt} {p : Pos} {d k : Nat} {f : Byte} {w : BitVec 16} {a : Word}
    {pe ne : BitVec 16} (hs : Startable s.chip q 0x0701#16 [0] e) (hr : s.chip.pond.rebuild = false) (hen : s.chip.beltEn b = true)
    (hd : 1 ≤ d ∧ d ≤ 3) (hk : k = 4 ∨ k = 5) (hstale : s.chip.templateStale k a = true) :
    Runs (.markCreate q b.val p d k f w a pe ne) s (fun c => Answered c q e rROLE_CHANGED [] ∧ c.pond = s.chip.pond) := by
  have hexec : exec (.markCreate q b.val p d k f w a pe ne) s = execMarkCreate q b.val p d k f w a pe ne s := rfl
  have hgood := markArgs_ok (a := a) (k := k) ((taken_bit s.chip q F.BELT_CTL_EN (r := .BELT_CTL b) (by simp)).trans hen) hd
    ⟨by omega, by omega⟩ (fun h => by omega) (fun h => by omega)
  have hstale' : (Taken s.chip q).templateStale k a = true := by
    rw [Chip.templateStale, taken_refOk]
    exact hstale
  refine runs_answered (d := Taken s.chip q) (f := keeping [.reqs] []) (n := 0) hs
    (hexec.trans (runS_congr (serveSei_alloc hr _ _))) ?_ (Fr.refl _ _) (by simp) (by rw [taken_pond, hg]) fun c hc => ?_
  · dsimp only
    rw [if_neg hgood, hstale', if_pos rfl]
  · rw [pond_of_answer_fr hc, taken_pond]

/-! ### MARK_CANCEL and MARK_READ -/

/-- Whether the mark's slot or task has been hit. -/
def markHit (c : Chip) (b : Belt) (i : Nat) : Bool :=
  ((c.sei.belts[b]).slots ++ (c.sei.belts[b]).tasks).any (fun x => x.cid == i && x.hit.isSome)

theorem taken_markHit (c : Chip) (b : Belt) (i : Nat) : markHit (Taken c q) b i = markHit c b i := by
  rw [markHit, markHit, taken_sei]

theorem runs_markCancel_hit (hg : s.chip.pond.grants = []) {i : Cid} {g : Byte} {m : MarkBody}
    (hs : Startable s.chip q 0x0702#16 [0] e) (hm : s.chip.mark? i.toNat g = some m) (hhit : markHit s.chip m.belt i.toNat = true) :
    Runs (.markCancel q i g) s (fun c => Answered c q e rOK [msFIRED] ∧ c.mark? i.toNat g = some m) := by
  have hexec : exec (.markCancel q i g) s = execMarkCancel q i g s := rfl
  refine runs_answered (d := Taken s.chip q) (f := keeping [.reqs] []) (n := 1) hs hexec ?_ (Fr.refl _ _) (by simp)
    (by rw [taken_pond, hg]) fun c hc => ?_
  · simp only [taken_mark?, hm]
    exact if_pos ((taken_markHit _ _ _).trans hhit)
  · rw [mark?_of_pond (pond_of_answer_fr hc), taken_mark?, hm]

/-- The mark taken out of its belt and ended. -/
def cancelled (c : Chip) (m : MarkBody) (i : Nat) (g : Byte) : Chip := (c.dropMark m.belt i).endMark i g msCANCELLED

theorem dropMark_pond (c : Chip) (b : Belt) (i : Nat) : (c.dropMark b i).pond = c.pond := by
  have hf : Fr (keeping [.pond] []) c (c.dropMark b i) := by
    apply Chip.dropMark_fr (Fr.refl _ c) <;> simp
  exact hf.kept.pond (by simp)

theorem endMark_autoFree {c : Chip} {i : Nat} {g : Byte} {m : MarkBody} (hm : c.mark? i g = some m) (ha : m.autoFree = true) (st : Nat) :
    c.endMark i g st = (c.setMark i { m with mstate := st }).freeCtx i := by
  rw [Chip.endMark, hm]
  exact if_pos ha

theorem setMark_ctx (c : Chip) (i : Nat) (m : MarkBody) : (c.setMark i m).ctx i = { c.ctx i with body := .mark m } :=
  (ctx_of_pond (setMark_pond c i m) i).trans (setBody_ctx _ _ _)

theorem mark?_of_free {c : Chip} {i : Nat} {g : Byte} (h : (c.ctx i).typ = tFREE) : c.mark? i g = none := by
  rw [Chip.mark?, if_neg (by simp [Chip.refOk, h])]

/-- An ended mark is given back where it frees itself, and keeps its outcome otherwise (R263). -/
theorem endMark_mark {c : Chip} {i : Nat} {g : Byte} {m : MarkBody} (hm : c.mark? i g = some m) (hp : (c.ctx i).poisoned = false)
    (hw : c.pond.waiters = []) (st : Nat) :
    (c.endMark i g st).mark? i g = (if m.autoFree then none else some { m with mstate := st }) ∧
      (c.endMark i g st).pond.grants = c.pond.grants := by
  obtain ⟨href, -⟩ := body_of_mark? hm
  have hw' : (c.setMark i { m with mstate := st }).pond.waiters = [] := by rw [setMark_pond]; exact hw
  cases ha : m.autoFree with
  | false =>
    rw [endMark_eq hm ha]
    exact ⟨setMark_mark? hm _, setMark_grants _ _ _⟩
  | true =>
    have hp' : ((c.setMark i { m with mstate := st }).ctx i).poisoned = false := by rw [setMark_ctx]; exact hp
    have ht' : ((c.setMark i { m with mstate := st }).ctx i).typ ≠ tFREE := by
      rw [setMark_ctx]
      simp only [Chip.refOk, Bool.and_eq_true, bne_iff_ne] at href
      exact href.1
    rw [endMark_autoFree hm ha]
    refine ⟨mark?_of_free ?_, ?_⟩
    · rw [freeCtx_ctx_same ht' hp' hw']
      rfl
    · rw [(freeCtx_lists i hw').2.1, setMark_grants]

theorem endMark_sei (c : Chip) (i : Nat) (g : Byte) (st : Nat) : (c.endMark i g st).sei = c.sei := by
  have hf : Fr (keeping [.sei] []) c (c.endMark i g st) := by
    apply Chip.endMark_fr (Fr.refl _ c) <;> simp
  exact hf.kept.sei (by simp)

theorem dropMark_slots (c : Chip) (b : Belt) (i : Nat) :
    ((c.dropMark b i).sei.belts[b]).slots = (c.sei.belts[b]).slots.filter (fun s => s.cid != i || s.hit.isSome) := by
  unfold Chip.dropMark
  dsimp only
  rw [syncArmed_sei]
  exact congrArg BeltSt.slots (updBelt_same c b (fun x =>
    { x with slots := x.slots.filter (fun s => s.cid != i || s.hit.isSome), late := x.late.filter (fun y => y.cid != i) }))

theorem runs_markCancel (hg : s.chip.pond.grants = []) (hw : s.chip.pond.waiters = []) {i : Cid} {g : Byte} {m : MarkBody}
    (hs : Startable s.chip q 0x0702#16 [0] e) (hm : s.chip.mark? i.toNat g = some m) (hhit : markHit s.chip m.belt i.toNat = false)
    (hst : m.mstate = msPENDING ∨ m.mstate = msARMED) (hp : (s.chip.ctx i.toNat).poisoned = false) :
    Runs (.markCancel q i g) s (fun c => Answered c q e rOK [msCANCELLED] ∧
      c.mark? i.toNat g = (if m.autoFree then none else some { m with mstate := msCANCELLED }) ∧
      (c.sei.belts[m.belt]).slots.all (fun x => x.cid != i.toNat || x.hit.isSome) = true) := by
  have hexec : exec (.markCancel q i g) s = execMarkCancel q i g s := rfl
  have hpond := dropMark_pond (Taken s.chip q) m.belt i.toNat
  rw [taken_pond] at hpond
  obtain ⟨hmark, hgrants⟩ := endMark_mark (c := (Taken s.chip q).dropMark m.belt i.toNat) ((mark?_of_pond hpond _ _).trans hm)
    (by rw [ctx_of_pond hpond]; exact hp) (by rw [hpond, hw]) msCANCELLED
  refine runs_answered (d := cancelled (Taken s.chip q) m i.toNat g) (f := keeping [.reqs] []) (n := 1) hs hexec ?_ ?_ (by simp)
    (hgrants.trans (by rw [hpond, hg])) fun c hc => ⟨?_, ?_⟩
  · simp only [taken_mark?, hm]
    refine (if_neg ?_).trans (if_pos hst)
    exact fun h => Bool.false_ne_true (((taken_markHit s.chip m.belt i.toNat).trans hhit).symm.trans h)
  · refine Chip.endMark_fr (Chip.dropMark_fr (Fr.refl _ _) ?_ ?_) ?_ ?_ ?_ ?_ ?_ ?_ ?_ ?_ <;> simp
  · rw [mark?_of_pond (pond_of_answer_fr hc)]
    exact hmark
  · rw [hc.kept.sei (by decide), cancelled, endMark_sei, dropMark_slots]
    exact List.all_eq_true.2 fun x hx => (List.mem_filter.1 hx).2

theorem runs_markCancel_ended (hg : s.chip.pond.grants = []) (hw : s.chip.pond.waiters = []) {i : Cid} {g : Byte} {m : MarkBody}
    (hs : Startable s.chip q 0x0702#16 [0] e) (hm : s.chip.mark? i.toNat g = some m) (hhit : markHit s.chip m.belt i.toNat = false)
    (hst : msFIRED ≤ m.mstate) (hp : (s.chip.ctx i.toNat).poisoned = false) :
    Runs (.markCancel q i g) s (fun c => Answered c q e rOK [m.mstate] ∧ (c.ctx i.toNat).typ = tFREE) := by
  have hexec : exec (.markCancel q i g) s = execMarkCancel q i g s := rfl
  obtain ⟨href, -⟩ := body_of_mark? hm
  simp only [Chip.refOk, Bool.and_eq_true, bne_iff_ne] at href
  have hw' : (Taken s.chip q).pond.waiters = [] := by rw [taken_pond, hw]
  have hno : ¬ (m.mstate = msPENDING ∨ m.mstate = msARMED) := by
    simp only [msFIRED, msPENDING, msARMED] at *
    omega
  refine runs_answered (d := (Taken s.chip q).freeCtx i.toNat) (f := keeping [.reqs] []) (n := 1) hs hexec ?_ ?_ (by simp)
    ((freeCtx_lists _ hw').2.1.trans (by rw [taken_pond, hg])) fun c hc => ?_
  · simp only [taken_mark?, hm]
    refine (if_neg ?_).trans (if_neg hno)
    exact fun h => Bool.false_ne_true (((taken_markHit s.chip m.belt i.toNat).trans hhit).symm.trans h)
  · apply Chip.freeCtx_fr (Fr.refl _ _) <;> simp
  · rw [ctx_of_pond (pond_of_answer_fr hc), freeCtx_ctx_same (by rw [taken_ctx]; exact href.1) (by rw [taken_ctx]; exact hp) hw']
    rfl

theorem runs_markRead {i : Cid} {g : Byte} {m : MarkBody} (hs : Startable s.chip q 0x0703#16 [0] e)
    (hm : s.chip.mark? i.toNat g = some m) :
    Runs (.markRead q i g) s (fun c => Answered c q e rOK (m.layout.map (·.toNat) ++
      [(BitVec.ofInt 48 (m.distance (s.chip.sei.belts[m.belt]).pos)).toNat])) := by
  have hexec : exec (.markRead q i g) s = execMarkRead q i g s := rfl
  refine runs_served hs hexec ?_
  simp only [taken_mark?, hm, taken_sei]
  exact answered_taken hs _ _ _

/-! ### Templates -/

theorem templateSize_le {t : Template} (h : templateOk t = true) : 1 ≤ templateSize t ∧ templateSize t ≤ 64 := by
  cases t with
  | line a b c d v =>
    simp only [templateOk, Bool.and_eq_true, decide_eq_true_eq] at h
    obtain ⟨-, hlen⟩ := h
    simp only [templateSize]
    omega
  | drop a b c d v =>
    simp only [templateOk, Bool.and_eq_true, decide_eq_true_eq] at h
    obtain ⟨-, hlen⟩ := h
    simp only [templateSize]
    omega

/-- The template in the first context of its group, which the others name. -/
def templateMade (c : Chip) (i : Nat) (rest : List Nat) (t : Template) : Chip :=
  (c.setBody i (.template t)).each rest (fun c r => c.setBody r (.more i))

theorem each_more_ctx {i j : Nat} : ∀ (l : List Nat) (c : Chip), j ∉ l → (c.each l (fun c r => c.setBody r (.more i))).ctx j = c.ctx j
  | [], _, _ => rfl
  | k :: t, c, h => (each_more_ctx t (c.setBody k (.more i)) (List.not_mem_of_not_mem_cons h)).trans
    (setBody_ctx_other _ _ (List.ne_of_not_mem_cons h))

theorem templateMade_ctx {c : Chip} {i : Nat} {rest : List Nat} (h : i ∉ rest) (t : Template) :
    (templateMade c i rest t).ctx i = { c.ctx i with body := .template t } :=
  (each_more_ctx rest _ h).trans (setBody_ctx _ _ _)

theorem templateMade_grants (c : Chip) (i : Nat) (rest : List Nat) (t : Template) :
    (templateMade c i rest t).pond.grants = c.pond.grants := by
  have hsteps : ∀ (l : List Nat) (d : Chip), (d.each l (fun c r => c.setBody r (.more i))).pond.grants = d.pond.grants := by
    intro l
    induction l with
    | nil => exact fun _ => rfl
    | cons k t ih => exact fun d => (ih _).trans (setBody_grants _ _ _)
  exact (hsteps rest _).trans (setBody_grants _ _ _)

theorem templateMade_fr {a c : Chip} {f : Frame} (h : Fr f a c) (hp : Part.pond ∈ f.parts) (i : Nat) (rest : List Nat) (t : Template) :
    Fr f a (templateMade c i rest t) := Fr.each (Chip.setBody_fr h hp) fun _ _ h => Chip.setBody_fr h hp

theorem runs_templateLoad (hc : Canon s.chip) (hg : s.chip.pond.grants = []) {t : Template} (hs : Startable s.chip q 0x0704#16 [0] e)
    (hr : s.chip.pond.rebuild = false) (hok : templateOk t = true) (hsorted : s.chip.pond.ctxs.Pairwise (fun a b => a.1 < b.1))
    (hv : s.chip.allocVerdict hMGMT (templateSize t) = rOK) :
    Runs (.templateLoad q t) s (fun c => ∃ i g, Answered c q e rOK [i, g.toNat] ∧ (c.ctx i).body = .template t ∧
      c.refOk i g = true ∧ c.used hMGMT = s.chip.used hMGMT + templateSize t) := by
  have hexec : exec (.templateLoad q t) s = execTemplateLoad q t s := rfl
  have hn := templateSize_le hok
  obtain ⟨u, hu⟩ : ∃ u, (Taken s.chip q).take hMGMT (.of tSERVICE) (templateSize t) = u := ⟨_, rfl⟩
  have hlow := take_lowestFree (c := Taken s.chip q) (by rw [taken_pond]; exact hsorted) hMGMT (.of tSERVICE) (templateSize t)
  have hlen := take_length (Taken s.chip q) hMGMT (.of tSERVICE) (templateSize t)
  have hused := take_used (canon_taken hc q) hMGMT (.of tSERVICE) (n := templateSize t) (by rw [taken_used]; exact used_lt_of_verdict hv)
  rw [hu] at hlow hlen hused
  obtain ⟨i, rest, hcids⟩ : ∃ i rest, u.1 = i :: rest := List.exists_cons_of_length_pos (by omega)
  have hnodup : i ∉ rest := fun hm => by
    have hlt := hlow.sorted
    rw [hcids, List.pairwise_cons] at hlt
    exact Nat.lt_irrefl _ (hlt.1 i hm)
  obtain ⟨htyp, -, -⟩ := take_typ (c := Taken s.chip q) (h := hMGMT) (t := tSERVICE) (n := templateSize t) (i := i)
    (by rw [hu, hcids]; exact List.mem_cons_self)
  rw [hu] at htyp
  have hfr : Fr (keeping [.reqs] []) (Taken s.chip q) u.2 := by
    rw [← hu]
    apply Chip.take_fr2 (Fr.refl _ _) <;> simp
  have hgrants : u.2.pond.grants = [] := by rw [← hu, take_grants, taken_pond, hg]
  have halloc : (Taken s.chip q).alloc hMGMT (.of tSERVICE) (templateSize t) = (.ok (i :: rest), u.2) := by
    rw [alloc_eq_verdict _ _ _ hn, taken_allocVerdict, if_pos hv, hu, hcids]
  have hctx := templateMade_ctx (c := u.2) hnodup t
  have hrun : Runs (.templateLoad q t) s (fun c => Answered c q e rOK [i, ((templateMade u.2 i rest t).ctx i).gen.toNat] ∧
      ((c.ctx i).body = .template t ∧ c.refOk i ((templateMade u.2 i rest t).ctx i).gen = true ∧
        c.used hMGMT = s.chip.used hMGMT + templateSize t)) := by
    refine runs_answered (d := templateMade u.2 i rest t) (f := keeping [.reqs] []) (n := 4) hs
      (hexec.trans (runS_congr (serveSei_alloc hr _ _))) ?_ (templateMade_fr hfr (by simp) i rest t) (by simp)
      ((templateMade_grants _ _ _ _).trans hgrants) fun c hc => ⟨?_, ?_, ?_⟩
    · simp only [hok, halloc, Bool.not_true, Bool.false_eq_true, if_false]
      rfl
    · rw [ctx_of_pond (pond_of_answer_fr hc), hctx]
    · rw [Chip.refOk, ctx_of_pond (pond_of_answer_fr hc), hctx]
      simp [htyp, tSERVICE, tFREE]
    · have hreg : Fr (keeping [] [.HOLDER_USED hMGMT]) u.2 (templateMade u.2 i rest t) := templateMade_fr (Fr.refl _ _) (by simp) i rest t
      rw [Chip.used, get_of_rd (hc.kept.regs _ rfl), get_of_rd (hreg.kept.regs (.HOLDER_USED hMGMT) (by simp))]
      exact hused.trans (by rw [taken_used])
  obtain ⟨v, hv, hpend, hans, hbody, href, hused⟩ := hrun
  exact ⟨v, hv, hpend, i, _, hans, hbody, href, hused⟩

theorem lookupNat_mem {α : Type} {l : List (Nat × α)} {i : Nat} {x : α} (h : lookupNat l i = some x) : (i, x) ∈ l := by
  induction l with
  | nil => simp [lookupNat] at h
  | cons y t ih =>
    obtain ⟨j, v⟩ := y
    unfold lookupNat at h
    split at h
    · next hji =>
      simp only [Option.some.injEq] at h
      rw [hji, h]
      exact List.mem_cons_self
    · exact List.mem_cons_of_mem _ (ih h)

/-- A context in use that the test picks is among those freed (R159). -/
theorem mem_cidsWhere {c : Chip} {i : Nat} {p : Nat → Ctx → Bool} (ht : (c.ctx i).typ ≠ tFREE) (hp : (c.ctx i).poisoned = false)
    (h : p i (c.ctx i) = true) : i ∈ c.cidsWhere p := by
  cases hl : lookupNat c.pond.ctxs i with
  | none =>
    exact absurd (by rw [Chip.ctx, hl]; rfl) ht
  | some x =>
    have hx : c.ctx i = x := by rw [Chip.ctx, hl]; rfl
    rw [hx] at ht hp h
    exact List.mem_map.2 ⟨(i, x), List.mem_filter.2 ⟨lookupNat_mem hl, by simp [ht, hp, h]⟩, rfl⟩

theorem runs_templateFree (hg : s.chip.pond.grants = []) {i : Cid} {g : Byte} {t : Template} (hs : Startable s.chip q 0x0705#16 [0] e)
    (hr : s.chip.pond.rebuild = false) (hw : s.chip.pond.waiters = []) (href : s.chip.refOk i.toNat g = true)
    (hb : (s.chip.ctx i.toNat).body = .template t) (hp : (s.chip.ctx i.toNat).poisoned = false) :
    Runs (.templateFree q i g) s (fun c => Answered c q e rOK [] ∧ (c.ctx i.toNat).typ = tFREE) := by
  have hexec : exec (.templateFree q i g) s = execTemplateFree q i g s := rfl
  have hw' : (Taken s.chip q).pond.waiters = [] := by rw [taken_pond, hw]
  set p : Nat → Ctx → Bool := fun k x => k == i.toNat || x.body = .more i.toNat with hpdef
  set l := (Taken s.chip q).cidsWhere p with hl
  have ht : ((Taken s.chip q).ctx i.toNat).typ ≠ tFREE := by
    rw [taken_ctx]
    simp only [Chip.refOk, Bool.and_eq_true, bne_iff_ne] at href
    exact href.1
  have hp' : ((Taken s.chip q).ctx i.toNat).poisoned = false := by rw [taken_ctx, hp]
  have hmem : i.toNat ∈ l := mem_cidsWhere ht hp' (by simp [hpdef])
  refine runs_answered (d := (Taken s.chip q).each l Chip.freeCtx) (f := keeping [.reqs] []) (n := 0) hs
    (hexec.trans (runS_congr (serveSei_alloc hr _ _))) ?_ ?_ (by simp) ?_ fun c hc => ?_
  · simp only [taken_refOk, href, taken_ctx, hb, Bool.and_true, if_true]
    have hbulk : (Taken s.chip q).bulkFree p = (Taken s.chip q).each l Chip.freeCtx := by
      rw [Chip.bulkFree, taken_pond, hr]
      rfl
    exact congrArg (fun d : Chip => d.answer q rOK) hbulk
  · exact Fr.each (Fr.refl _ _) fun _ _ h => by apply Chip.freeCtx_fr h <;> simp
  · exact ((each_freeCtx_lists l _ hw').2).trans (by rw [taken_pond, hg])
  · rw [ctx_of_pond (pond_of_answer_fr hc), each_freeCtx_ctx _ _ _ hw', if_pos hmem, freedCtx, if_pos ⟨ht, hp'⟩]
    rfl

/-! ### Belts, TIME and outfalls -/

theorem runs_beltStatus {b : Belt} (hs : Startable s.chip q 0x0706#16 [0] e) :
    Runs (.beltStatus q b.val) s (fun c => Answered c q e rOK
      [(s.chip.sei.belts[b]).pos.toNat, (s.chip.rd (.BELT_RATE b)).toNat, (s.chip.rd (.BELT_STATUS b)).toNat,
        ((s.chip.beltMarks b).filter (fun x => x.2.2.mstate == msPENDING)).length]) := by
  have hexec : exec (.beltStatus q b.val) s = execBeltStatus q b.val s := rfl
  have hmarks : (Taken s.chip q).beltMarks b = s.chip.beltMarks b := by rw [Chip.beltMarks, Chip.beltMarks, taken_pond]
  refine runs_served hs hexec ?_
  rw [if_neg (Nat.not_le.2 b.isLt)]
  simp only [finOf_val, taken_sei, hmarks]
  rw [taken_rd _ _ (by simp), taken_rd _ _ (by simp)]
  exact answered_taken hs _ _ _

theorem runs_beltSetPos_z {b : Belt} {p : Pos} (hs : Startable s.chip q 0x0707#16 [0] e) :
    Runs (.beltSetPos q b.val p 1) s (fun c => (c.sei.belts[b]).zPend = (s.chip.sei.belts[b]).zPend ++ [(p, q)] ∧
      (c.sei.belts[b]).pos = (s.chip.sei.belts[b]).pos) := by
  have hexec : exec (.beltSetPos q b.val p 1) s = execBeltSetPos q b.val p 1 s := rfl
  have hgood : ¬ (16 ≤ b.val ∨ 1 < 1) := by
    have hb := b.isLt
    omega
  have hserve : s.chip.serveSei q 0x0707#16 false (fun c =>
      let b' : Belt := Fin.ofNat 16 b.val
      if 16 ≤ b.val ∨ 1 < 1 then c.answer q rBAD_ARG
      else if 1 = 1 then c.updBelt b' (fun x => { x with zPend := x.zPend ++ [(p, q)] })
      else (c.setBeltPos b' p).answer q rOK) = (Taken s.chip q).updBelt b (fun x => { x with zPend := x.zPend ++ [(p, q)] }) := by
    refine (serve_start hs _).trans ?_
    dsimp only
    rw [if_neg hgood, if_pos rfl, finOf_val]
    rfl
  refine runs_settled hexec _ hserve fun x hx => ?_
  rw [hx.kept.sei (by decide), updBelt_same, taken_sei]
  exact ⟨rfl, rfl⟩

theorem runs_timeRead (hs : Startable s.chip q 0x0708#16 [0] e) : Runs (.timeRead q) s (fun c => Answered c q e rOK
    [s.chip.sei.time.toNat, (s.chip.rd .SEI_STATUS).toNat, s.chip.uncert]) := by
  have hexec : exec (.timeRead q) s = execTimeRead q s := rfl
  have huncert : (Taken s.chip q).uncert = s.chip.uncert := by simp [Chip.uncert]
  refine runs_served hs hexec ?_
  rw [huncert, taken_sei, taken_rd _ _ (by simp)]
  exact answered_taken hs _ _ _

theorem runs_outfallSet {o : Io} {k : OutOp} {w : Nat} (hs : Startable s.chip q 0x070A#16 [0] e)
    (hk : k ≠ .pulse ∨ (1 ≤ w ∧ w ≤ 16777215)) :
    Runs (.outfallSet q o.val k w) s (fun c => Answered c q e rOK [s.chip.sei.time.toNat] ∧
      c.sei.outfalls[o] = (s.chip.sei.outfalls[o]).act s.chip.sei.time k w) := by
  have hexec : exec (.outfallSet q o.val k w) s = execOutfallSet q o.val k w s := rfl
  have hgood : ¬ (32 ≤ o.val ∨ (k = .pulse ∧ (w = 0 ∨ 16777215 < w))) := by
    have ho := o.isLt
    rintro (h | ⟨hp, hw⟩)
    · omega
    · rcases hk with hk | hk
      · exact hk hp
      · omega
  set d : Chip := (Taken s.chip q).updOutfall o (fun x => x.act s.chip.sei.time k w) with hd
  have hans : Answered (d.answer q rOK [s.chip.sei.time.toNat] 8) q e rOK [s.chip.sei.time.toNat] :=
    startable_answered hs (f := keeping [.reqs] []) (Chip.updOutfall_fr (Fr.refl _ _) (by simp)) (by simp) _ _ _
  refine runs_served hs hexec ?_
  dsimp only
  rw [if_neg hgood, finOf_val, taken_sei]
  refine ⟨hans, ?_⟩
  rw [(answer_fr _ _ _ _ _).kept.sei (by decide), updOutfall_same, taken_sei]

/-! ### BELT_SET_POS at once -/

theorem setMark_waiters (c : Chip) (i : Nat) (m : MarkBody) : (c.setMark i m).pond.waiters = c.pond.waiters := by
  rw [setMark_pond]
  rfl

theorem mstate_waiters (c : Chip) (i : Nat) (g : Byte) (st : Nat) : (c.mstate i g st).pond.waiters = c.pond.waiters := by
  unfold Chip.mstate
  split
  · rfl
  · exact setMark_waiters _ _ _

theorem unloadBelt_waiters (c : Chip) (b : Belt) : (c.unloadBelt b).pond.waiters = c.pond.waiters := by
  unfold Chip.unloadBelt
  dsimp only
  rw [Chip.syncArmed, setSt_pond, each_keeps (fun c => c.pond.waiters) (fun c x => mstate_waiters c _ _ _)]
  rfl

/-- An ended mark leaves who waits and what is granted. -/
theorem endMark_lists {c : Chip} (hw : c.pond.waiters = []) (i : Nat) (g : Byte) (st : Nat) :
    (c.endMark i g st).pond.waiters = [] ∧ (c.endMark i g st).pond.grants = c.pond.grants := by
  unfold Chip.endMark
  split
  · exact ⟨hw, rfl⟩
  · next m _ =>
    have hw' : (c.setMark i { m with mstate := st }).pond.waiters = [] := (setMark_waiters _ _ _).trans hw
    unfold Chip.when
    split
    · obtain ⟨hwait, hg, -⟩ := freeCtx_lists i hw'
      exact ⟨hwait, hg.trans (setMark_grants _ _ _)⟩
    · exact ⟨hw', setMark_grants _ _ _⟩

theorem expire_lists {c : Chip} (hw : c.pond.waiters = []) (m : MarkBody) (i : Nat) (g : Byte) (k : Nat) :
    (c.expire m i g k).pond.waiters = [] ∧ (c.expire m i g k).pond.grants = c.pond.grants := by
  have hpond := postMark_pond c m (c.evMark 0x0703 m i g c.sei.time m.pos k) none
  obtain ⟨hwait, hg⟩ := endMark_lists (c := c.postMark m (c.evMark 0x0703 m i g c.sei.time m.pos k) none) (by rw [hpond]; exact hw)
    i g msEXPIRED
  exact ⟨hwait, hg.trans (by rw [hpond])⟩

theorem each_expire_grants (k : Nat) : ∀ (l : List (Nat × Byte × MarkBody)) (c : Chip), c.pond.waiters = [] →
    (c.each l (fun c x => c.expire x.2.2 x.1 x.2.1 k)).pond.grants = c.pond.grants
  | [], _, _ => rfl
  | x :: t, c, hw => by
    obtain ⟨hwait, hg⟩ := expire_lists hw x.2.2 x.1 x.2.1 k
    exact (each_expire_grants k t _ hwait).trans hg

theorem moved_lists (c : Chip) (b : Belt) (p : Pos) :
    (positioned c b p).pond.grants = c.pond.grants ∧ (positioned c b p).pond.waiters = c.pond.waiters := by
  rw [positioned, setSt_pond]
  exact ⟨unloadBelt_grants c b, unloadBelt_waiters c b⟩

theorem setBeltPos_grants {c : Chip} (hw : c.pond.waiters = []) (b : Belt) (p : Pos) :
    (c.setBeltPos b p).pond.grants = c.pond.grants := by
  obtain ⟨l, hl⟩ := setBeltPos_eq c b p
  obtain ⟨hg, hwait⟩ := moved_lists c b p
  rw [hl, each_expire_grants 4 l _ (hwait.trans hw), hg]

theorem runs_beltSetPos (hc : Canon s.chip) (hg : s.chip.pond.grants = []) (hw : s.chip.pond.waiters = []) {b : Belt} {p : Pos}
    (hs : Startable s.chip q 0x0707#16 [0] e) :
    Runs (.beltSetPos q b.val p 0) s (fun c => Answered c q e rOK [] ∧ (c.sei.belts[b]).pos = p ∧ c.posValid b = true ∧
      (c.sei.belts[b]).zRes = none) := by
  have hexec : exec (.beltSetPos q b.val p 0) s = execBeltSetPos q b.val p 0 s := rfl
  have hgood : ¬ (16 ≤ b.val ∨ 1 < 0) := by
    have hb := b.isLt
    omega
  obtain ⟨hpos, hz, hvalid⟩ := setBeltPos_belt (canon_taken hc q) b p
  refine runs_answered (d := (Taken s.chip q).setBeltPos b p) (f := keeping [.reqs] []) (n := 0) hs hexec ?_ ?_ (by simp)
    ((setBeltPos_grants (by rw [taken_pond, hw]) b p).trans (by rw [taken_pond, hg])) fun c hc => ⟨?_, ?_, ?_⟩
  · dsimp only
    rw [if_neg hgood, if_neg (by decide), finOf_val]
  · apply Chip.setBeltPos_fr (Fr.refl _ _) <;> simp
  · rw [hc.kept.sei (by decide), hpos]
  · rw [Chip.posValid, bit_of_rd (hc.kept.regs _ rfl)]
    exact hvalid
  · rw [hc.kept.sei (by decide), hz]

/-! ### TIME_ACK -/

/-- A bound just set to zero is zero (R247). -/
theorem uncert_of_zero {c : Chip} (hfrom : c.sei.uncertFrom = c.clk.now) (hu : c.get .SEI_UNCERT F.SEI_UNCERT_UNCERT = 0) :
    c.uncert = 0 := by
  have hdiv : ∀ k, (0 + ((c.clk.now - c.sei.uncertFrom) * k + 999999) / 1000000) = 0 := fun k => by
    rw [hfrom, Nat.sub_self, Nat.zero_mul]
  unfold Chip.uncert
  rw [hu]
  dsimp only
  split
  · rw [hdiv]
    rfl
  · rfl

/-- SEI_STATUS with its degradations. -/
def degradedWord (c : Chip) (xtal deep : Bool) : Word :=
  fset (fset (fset (c.rd .SEI_STATUS) F.SEI_STATUS_DEG_XTAL (bitOf xtal)) F.SEI_STATUS_DEG_DEEP (bitOf deep)) F.SEI_STATUS_TIME_DEGRADED
    (bitOf (xtal || deep))

def degradedChip (c : Chip) (xtal deep : Bool) : Chip :=
  if degradedWord c xtal deep = c.rd .SEI_STATUS then c else (c.wr .SEI_STATUS (degradedWord c xtal deep)).bump .SEI_STATUS

theorem degradedChip_get {c : Chip} (hc : Canon c) (xtal deep : Bool) {f : Field} (hf : f.hi < 24) :
    (degradedChip c xtal deep).get .SEI_STATUS f = fget (degradedWord c xtal deep) f := by
  unfold degradedChip
  split
  · next h => rw [h, Chip.get]
  · exact get_wr_bump c hc _ _ _ hf

theorem degradedChip_kept (c : Chip) (xtal deep : Bool) : (degradedChip c xtal deep).sei = c.sei ∧
    (degradedChip c xtal deep).clk = c.clk ∧ (degradedChip c xtal deep).rd .SEI_UNCERT = c.rd .SEI_UNCERT := by
  unfold degradedChip
  split
  · exact ⟨rfl, rfl, rfl⟩
  · exact ⟨rfl, rfl, (rd_bump_other _ (by simp)).trans (rd_wr_other _ _ (by simp))⟩

/-- Degrading settles the bound and writes SEI_STATUS; what it tells leaves both. -/
theorem degrade_told (c : Chip) (xtal deep : Bool) :
    (c.degrade xtal deep).sei = c.settleUncert.sei ∧ (c.degrade xtal deep).clk.now = c.clk.now ∧
      (c.degrade xtal deep).rd .SEI_UNCERT = c.settleUncert.rd .SEI_UNCERT ∧
      (c.degrade xtal deep).rd .SEI_STATUS = (degradedChip c.settleUncert xtal deep).rd .SEI_STATUS := by
  obtain ⟨hsei, hclk, hrd⟩ := degradedChip_kept c.settleUncert xtal deep
  obtain ⟨e, heq⟩ : ∃ e, c.degrade xtal deep = if c.settleUncert.timeDegraded = (xtal || deep) then degradedChip c.settleUncert xtal deep
      else if xtal || deep then (degradedChip c.settleUncert xtal deep).postFault .time e
      else (degradedChip c.settleUncert xtal deep).post e := ⟨_, rfl⟩
  rw [heq]
  split
  · exact ⟨hsei, by rw [hclk]; rfl, hrd, rfl⟩
  · split
    · have hf : Fr (keeping [.sei] [.SEI_UNCERT, .SEI_STATUS]) (degradedChip c.settleUncert xtal deep)
          ((degradedChip c.settleUncert xtal deep).postFault .time e) := by
        apply Chip.postFault_fr (Fr.refl _ _) <;> simp
      exact ⟨(hf.kept.sei (by simp)).trans hsei, (congrArg Clk.now (postFault_clkCore _ .time e) :).trans (by rw [hclk]; rfl),
        (hf.kept.regs .SEI_UNCERT (by simp)).trans hrd, hf.kept.regs .SEI_STATUS (by simp)⟩
    · have hf := fr_post (ps := [.sei, .clk]) (rs := [.SEI_UNCERT, .SEI_STATUS]) (degradedChip c.settleUncert xtal deep) e (by simp)
      exact ⟨(hf.kept.sei (by simp)).trans hsei, by rw [hf.kept.clk (by simp), hclk]; rfl,
        (hf.kept.regs .SEI_UNCERT (by simp)).trans hrd, hf.kept.regs .SEI_STATUS (by simp)⟩

/-- The bound acknowledged: none is left (R247). -/
def uncertCleared (c : Chip) : Chip := c.settleUncert.setF .SEI_UNCERT F.SEI_UNCERT_UNCERT 0

theorem settleUncert_uncert {c : Chip} (hc : Canon c) : c.settleUncert.get .SEI_UNCERT F.SEI_UNCERT_UNCERT = c.uncert % 2 ^ 32 :=
  get_setF_same c hc _ _ _ (by decide)

theorem runs_timeAck (hc : Canon s.chip) (hs : Startable s.chip q 0x0709#16 [0] e) :
    Runs (.timeAck q) s (fun c => Answered c q e rOK [] ∧ c.bit .SEI_STATUS F.SEI_STATUS_DEG_DEEP = false ∧
      c.timeDegraded = s.chip.bit .SEI_STATUS F.SEI_STATUS_DEG_XTAL ∧ c.uncert = 0) := by
  have hexec : exec (.timeAck q) s = execTimeAck q s := rfl
  set u := uncertCleared (Taken s.chip q) with hu
  have hcu : Canon u := canon_setF (canon_settleUncert (canon_taken hc q)) _ _ _
  have hxtal : u.bit .SEI_STATUS F.SEI_STATUS_DEG_XTAL = s.chip.bit .SEI_STATUS F.SEI_STATUS_DEG_XTAL :=
    (bit_of_rd ((rd_setF_other _ _ _ (by simp)).trans (settleUncert_rd _ (by simp))) _).trans (taken_bit _ _ _ (by simp))
  have hzero : u.uncert = 0 := uncert_of_zero rfl (get_setF_same _ (canon_settleUncert (canon_taken hc q)) _ _ _ (by decide))
  set x := s.chip.bit .SEI_STATUS F.SEI_STATUS_DEG_XTAL with hx
  obtain ⟨hsei, hnow, hrd, hst⟩ := degrade_told u x false
  have hans : Answered ((u.degrade x false).answer q rOK) q e rOK [] := by
    refine startable_answered hs (f := keeping [.reqs] []) ?_ (by simp) _ _ _
    refine Chip.degrade_fr (Chip.setF_fr (Chip.settleUncert_fr (Fr.refl _ _) ?_ ?_) ?_) ?_ ?_ ?_ ?_ ?_ ?_ ?_ <;> simp
  have hkept := (answer_fr (u.degrade x false) q rOK [] 0).kept
  have hst' := (hkept.regs .SEI_STATUS rfl).trans hst
  have hget : ∀ f : Field, f.hi < 24 → ((u.degrade x false).answer q rOK).get .SEI_STATUS f = fget (degradedWord u.settleUncert x false) f :=
    fun f hf => (get_of_rd hst' f).trans (degradedChip_get (canon_settleUncert hcu) x false hf)
  refine runs_of_run_eq hexec (d := (u.degrade x false).answer q rOK)
    ((serve_start hs _).trans (congrArg (fun b => (u.degrade b false).answer q rOK) hxtal)) ⟨hans, ?_, ?_, uncert_of_zero ?_ ?_⟩
  · rw [Chip.bit, hget _ (by decide), degradedWord, fget_fset_other _ _ _ _ (by decide) (by decide) (by decide),
      fget_fset_same _ _ _ (by decide)]
    rfl
  · rw [Chip.timeDegraded, Chip.bit, hget _ (by decide), degradedWord, fget_fset_same _ _ _ (by decide)]
    cases x <;> rfl
  · rw [hkept.sei (by decide), hkept.clk (by decide), hsei, hnow]
    rfl
  · rw [get_of_rd ((hkept.regs .SEI_UNCERT rfl).trans hrd), settleUncert_uncert hcu, hzero]
    rfl

/-- Settles O33: opcode by opcode, each on the chip that has taken the request. -/
theorem seicheRequests : Obligations.SeicheRequests := by
  intro s hc hg q e
  exact ⟨fun _ _ _ _ _ _ _ _ _ hs hr hen h1 h3 k1 k6 ho hp hk hv => runs_markCreate hg hs hr hen ⟨h1, h3⟩ ⟨k1, k6⟩ ho hp hk hv,
    fun _ _ _ _ _ _ _ _ _ hs hr hen h1 h3 hk hst => runs_markCreate_stale hg hs hr hen ⟨h1, h3⟩ hk hst,
    fun _ _ _ hs hw hm hh hst hp => runs_markCancel hg hw hs hm hh hst hp,
    fun _ _ _ hs hm hh => runs_markCancel_hit hg hs hm hh,
    fun _ _ _ hs hw hm hh hst hp => runs_markCancel_ended hg hw hs hm hh hst hp,
    fun _ _ _ hs hm => runs_markRead hs hm,
    fun _ hs hr hok hsort hv => runs_templateLoad hc hg hs hr hok hsort hv,
    fun _ _ _ hs hr hw href hb hp => runs_templateFree hg hs hr hw href hb hp,
    fun _ hs => runs_beltStatus hs,
    fun _ _ hs hw => runs_beltSetPos hc hg hw hs,
    fun _ _ hs => runs_beltSetPos_z hs,
    runs_timeRead,
    runs_timeAck hc,
    fun _ _ _ hs hk => runs_outfallSet hs hk⟩

end

end Sys2Proof.Proofs

namespace Sys2Proof.Proofs

open Sys2Proof.Machine Sys2Proof.Laws

/-! ### Answers to several requests at once (06 R131, R136) -/

/-- The ring of an answered request, or what waits for it, holds a part with the data. -/
theorem part_of_answered {c : Chip} {q : ReqId} {e : ReqEntry} {result : Nat} {data : List Nat}
    (h : Answered c q e result data) :
    ((c.doors[q.door]).rsps ++ (c.doors[q.door]).rspWait).any (fun p => p.result == result && p.data == data) = true := by
  obtain ⟨-, p, hp, -, -, hresult, hdata⟩ := h
  exact List.any_eq_true.2 ⟨p, hp, by simp [hresult, hdata]⟩

/-- Door 1 is being released while request ⟨1, 9⟩ executes there, and a takeover names request ⟨0, 5⟩ of door 0. -/
def takenOver (c : Chip) : Chip :=
  c.updDoor 1 (fun d => { d with
    path := some .trunk, releasing := some 0, takeover := some { req := ⟨0, 5⟩, owner := 0#64, sub := 0#16 },
    reqs := [{ pendingEntry 9 0x0502#16 1 0 with st := .executing }] })

/-- Port 0 is a line with a timing that waits for request ⟨1, 9⟩, and door 0 holds a LINE_TIMING. -/
def timingTakenOver : Chip :=
  takenOver (((askedChip [pendingEntry 5 0x0502#16 1 0]).updPort 0 (fun p => { p with mode := .line })).updLine 0
    (fun l => { l with timing := some { nbt := 0, dbt := 0, tdc := 0, reqs := [⟨1, 9⟩] } }))

/-- A bit timing of 160 cycles. -/
def someTiming : BitTiming := ⟨5, 23, 8, 8⟩

/-- Refutes O26: its second clause lets other requests wait for a timing. In `timingTakenOver` the answer to the first of them ends
the release of door 1, whose takeover answers the LINE_TIMING with data of its own. -/
theorem not_lineRequests : ¬ Obligations.LineRequests := by
  unfold Obligations.LineRequests
  intro h
  obtain ⟨-, htiming, -⟩ := h { chip := timingTakenOver } (canon_of (by decide +kernel)) (by decide +kernel) ⟨0, 5⟩ 0
    (pendingEntry 5 0x0502#16 1 0) (by decide +kernel)
  refine not_runs (fun c => ((c.doors[(0 : Door)]).rsps ++ (c.doors[(0 : Door)]).rspWait).any
    (fun p => p.result == rOK && p.data == [])) ?_ ?_
    (htiming someTiming someTiming 0 false false (forPort_of ?_) ?_ ?_ ?_)
  · decide +kernel
  · rintro c ⟨hanswered, -⟩
    exact part_of_answered hanswered
  · decide +kernel
  · decide +kernel
  · decide +kernel
  · exact .inl (by decide +kernel)

end Sys2Proof.Proofs

namespace Sys2Proof.Proofs

open Sys2Proof.Machine Sys2Proof.Laws

/-! The power opcodes (16 R330 to R333, R335, R338). -/

/-! ### Settings -/

theorem setRW_fr' {ps : List Part} {rs : List Reg} (c : Chip) (r : Reg) (f : Field) (v : Nat) (hp : Part.fab ∉ ps) (hr : r ∉ rs) :
    Fr (keeping ps rs) c (c.setRW r f v) := by
  apply Chip.setRW_fr (Fr.refl _ c)
  · exact keeping_of_not_mem hp
  · simpa using hr

theorem canon_setRW {c : Chip} (h : Canon c) (r : Reg) (f : Field) (v : Nat) : Canon (c.setRW r f v) :=
  (setRW_fr' (ps := []) (rs := []) c r f v (by simp) (by simp)).canon h

theorem setRW_rd_other (c : Chip) {r q : Reg} (f : Field) (v : Nat) (h : q ≠ r) : (c.setRW r f v).rd q = c.rd q :=
  (setRW_fr' (ps := []) (rs := [q]) c r f v (by simp) (by simpa using h.symm)).kept.regs q (by simp)

theorem setRW_rd_same {c : Chip} (h : Canon c) (r : Reg) (f : Field) (v : Nat) :
    (c.setRW r f v).rd r = normWord r (fset (c.rd r) f v) :=
  rd_wr_same _ ((Chip.cfgWritten_fr (f := ⟨[.fab], noReg⟩) (Fr.refl _ _) (by decide)).canon h) _ _

theorem fget_pos1_same {f : Field} (hf : Field.fits f) (w : Word) : fget (pos1 f w) f = max 1 (fget w f) := by
  have hwide : 1 < 2 ^ (f.hi + 1 - f.lo) := Nat.one_lt_two_pow (by have := hf.1; omega)
  unfold pos1
  split
  · next h =>
    rw [fget_fset_same _ _ _ hf, h, Nat.mod_eq_of_lt hwide]
    rfl
  · omega

theorem fget_pos1_other {f g : Field} (hf : Field.fits f) (hg : g.hi < 32) (hd : f.hi < g.lo ∨ g.hi < f.lo) (w : Word) :
    fget (pos1 f w) g = fget w g := by
  unfold pos1
  split
  · exact fget_fset_other _ _ _ _ hf hg hd
  · rfl

theorem timer0_idle (w : Word) : fget (normWord .PWR_TIMER_0 w) F.PWR_TIMER_0_IDLE_US = max 1 (fget w F.PWR_TIMER_0_IDLE_US) :=
  (fget_pos1_same (by decide) _).trans (by rw [fget_pos1_other (by decide) (by decide) (by decide)])

theorem timer0_sleep (w : Word) : fget (normWord .PWR_TIMER_0 w) F.PWR_TIMER_0_SLEEP_S = max 1 (fget w F.PWR_TIMER_0_SLEEP_S) :=
  (fget_pos1_other (by decide) (by decide) (by decide) _).trans (fget_pos1_same (by decide) _)

/-- PWR_SET's fields one after the other. -/
def pwrWritten (c : Chip) (l : BitVec 24) (m : BitVec 2) (a : Bool) (i sl d : BitVec 16) : Chip :=
  let c := c.setRW .PWR_LTR F.PWR_LTR_LTR l.toNat
  let c := (c.setRW .PWR_CTL F.PWR_CTL_STATE_MAX m.toNat).setRW .PWR_CTL F.PWR_CTL_AUTO (bitOf a)
  let c := c.setRW .PWR_TIMER_0 F.PWR_TIMER_0_IDLE_US i.toNat
  let c := c.setRW .PWR_TIMER_0 F.PWR_TIMER_0_SLEEP_S sl.toNat
  c.setRW .PWR_TIMER_1 F.PWR_TIMER_1_DEEP_S d.toNat

section
variable {c : Chip} (hc : Canon c) (l : BitVec 24) (m : BitVec 2) (a : Bool) (i sl d : BitVec 16)
include hc

theorem pwrWritten_ltr : (pwrWritten c l m a i sl d).get .PWR_LTR F.PWR_LTR_LTR = l.toNat := by
  have hrd : (pwrWritten c l m a i sl d).rd .PWR_LTR = fset (c.rd .PWR_LTR) F.PWR_LTR_LTR l.toNat := by
    unfold pwrWritten
    dsimp only
    rw [setRW_rd_other _ _ _ (by simp), setRW_rd_other _ _ _ (by simp), setRW_rd_other _ _ _ (by simp), setRW_rd_other _ _ _ (by simp),
      setRW_rd_other _ _ _ (by simp), setRW_rd_same hc]
    rfl
  rw [Chip.get, hrd, fget_fset_same _ _ _ (by decide)]
  exact Nat.mod_eq_of_lt l.isLt

theorem pwrWritten_ctl : (pwrWritten c l m a i sl d).get .PWR_CTL F.PWR_CTL_STATE_MAX = m.toNat ∧
    (pwrWritten c l m a i sl d).bit .PWR_CTL F.PWR_CTL_AUTO = a := by
  have hl := canon_setRW hc .PWR_LTR F.PWR_LTR_LTR l.toNat
  have hrd : (pwrWritten c l m a i sl d).rd .PWR_CTL = fset (fset (c.rd .PWR_CTL) F.PWR_CTL_STATE_MAX m.toNat) F.PWR_CTL_AUTO (bitOf a) := by
    unfold pwrWritten
    dsimp only
    rw [setRW_rd_other _ _ _ (by simp), setRW_rd_other _ _ _ (by simp), setRW_rd_other _ _ _ (by simp),
      setRW_rd_same (canon_setRW hl _ _ _), setRW_rd_same hl, setRW_rd_other _ _ _ (by simp)]
    rfl
  constructor
  · rw [Chip.get, hrd, fget_fset_other _ _ _ _ (by decide) (by decide) (by decide), fget_fset_same _ _ _ (by decide)]
    exact Nat.mod_eq_of_lt m.isLt
  · rw [Chip.bit, Chip.get, hrd, fget_fset_same _ _ _ (by decide)]
    cases a <;> rfl

theorem pwrWritten_timers : (pwrWritten c l m a i sl d).get .PWR_TIMER_0 F.PWR_TIMER_0_IDLE_US = max 1 i.toNat ∧
    (pwrWritten c l m a i sl d).get .PWR_TIMER_0 F.PWR_TIMER_0_SLEEP_S = max 1 sl.toNat ∧
    (pwrWritten c l m a i sl d).get .PWR_TIMER_1 F.PWR_TIMER_1_DEEP_S = max 1 d.toNat := by
  have h3 : Canon (((c.setRW .PWR_LTR F.PWR_LTR_LTR l.toNat).setRW .PWR_CTL F.PWR_CTL_STATE_MAX m.toNat).setRW .PWR_CTL F.PWR_CTL_AUTO
    (bitOf a)) := canon_setRW (canon_setRW (canon_setRW hc _ _ _) _ _ _) _ _ _
  have h4 := canon_setRW h3 .PWR_TIMER_0 F.PWR_TIMER_0_IDLE_US i.toNat
  have hrd : (pwrWritten c l m a i sl d).rd .PWR_TIMER_0 = normWord .PWR_TIMER_0 (fset (normWord .PWR_TIMER_0
      (fset (c.rd .PWR_TIMER_0) F.PWR_TIMER_0_IDLE_US i.toNat)) F.PWR_TIMER_0_SLEEP_S sl.toNat) := by
    unfold pwrWritten
    dsimp only
    rw [setRW_rd_other _ _ _ (by simp), setRW_rd_same h4, setRW_rd_same h3, setRW_rd_other _ _ _ (by simp),
      setRW_rd_other _ _ _ (by simp), setRW_rd_other _ _ _ (by simp)]
  have hmod : ∀ v : BitVec 16, v.toNat % 2 ^ 16 = v.toNat := fun v => Nat.mod_eq_of_lt v.isLt
  refine ⟨?_, ?_, ?_⟩
  · rw [Chip.get, hrd, timer0_idle, fget_fset_other _ _ _ _ (by decide) (by decide) (by decide), timer0_idle,
      fget_fset_same _ _ _ (by decide)]
    exact (congrArg (fun n => max 1 (max 1 n)) (hmod i)).trans (by omega)
  · rw [Chip.get, hrd, timer0_sleep, fget_fset_same _ _ _ (by decide)]
    exact congrArg (max 1) (hmod sl)
  · rw [Chip.get]
    unfold pwrWritten
    dsimp only
    rw [setRW_rd_same (canon_setRW h4 _ _ _)]
    refine (fget_pos1_same (by decide) _).trans ?_
    rw [fget_fset_same _ _ _ (by decide)]
    exact congrArg (max 1) (hmod d)

end

theorem pwrWritten_fr {ps : List Part} (c : Chip) (l : BitVec 24) (m : BitVec 2) (a : Bool) (i sl d : BitVec 16) (hp : Part.fab ∉ ps) :
    Fr (keeping ps []) c (pwrWritten c l m a i sl d) := by
  have hfab := keeping_of_not_mem (rs := []) hp
  refine Chip.setRW_fr (Chip.setRW_fr (Chip.setRW_fr (Chip.setRW_fr (Chip.setRW_fr (Chip.setRW_fr (Fr.refl _ c) hfab ?_) hfab ?_) hfab ?_)
    hfab ?_) hfab ?_) hfab ?_ <;> simp

section
variable {s : State} {q : ReqId} {e : ReqEntry}

theorem runs_pwrSet (hc : Canon s.chip) {l : BitVec 24} {m : BitVec 2} {a : Bool} {i sl d : BitVec 16}
    (hs : Startable s.chip q 0x0202#16 [0] e) (hf : s.chip.frozen = false) :
    Runs (.pwrSet q l m a i sl d) s (fun c => Answered c q e rOK [s.chip.get .PWR_LTR F.PWR_LTR_LTR,
        s.chip.get .PWR_CTL F.PWR_CTL_STATE_MAX, s.chip.get .PWR_CTL F.PWR_CTL_AUTO,
        s.chip.get .PWR_TIMER_0 F.PWR_TIMER_0_IDLE_US, s.chip.get .PWR_TIMER_0 F.PWR_TIMER_0_SLEEP_S,
        s.chip.get .PWR_TIMER_1 F.PWR_TIMER_1_DEEP_S] ∧
      c.get .PWR_LTR F.PWR_LTR_LTR = l.toNat ∧ c.get .PWR_CTL F.PWR_CTL_STATE_MAX = m.toNat ∧
      c.bit .PWR_CTL F.PWR_CTL_AUTO = a ∧ c.get .PWR_TIMER_0 F.PWR_TIMER_0_IDLE_US = max 1 i.toNat ∧
      c.get .PWR_TIMER_0 F.PWR_TIMER_0_SLEEP_S = max 1 sl.toNat ∧ c.get .PWR_TIMER_1 F.PWR_TIMER_1_DEEP_S = max 1 d.toNat) := by
  have hexec : exec (.pwrSet q l m a i sl d) s = execPwrSet q l m a i sl d s := rfl
  have hct := canon_taken hc q
  set w := pwrWritten (Taken s.chip q) l m a i sl d with hw
  obtain ⟨hmax, hauto⟩ := pwrWritten_ctl hct l m a i sl d
  obtain ⟨hidle, hsleep, hdeep⟩ := pwrWritten_timers hct l m a i sl d
  have hrd : ∀ data n r, (w.answer q rOK data n).rd r = w.rd r := fun data n r => (answer_fr w q rOK data n).kept.regs r rfl
  refine runs_served hs hexec ?_
  rw [taken_frozen, hf, if_neg (by decide), taken_get _ _ _ (by simp), taken_get _ _ _ (by simp), taken_get _ _ _ (by simp),
    taken_get _ _ _ (by simp), taken_get _ _ _ (by simp), taken_get _ _ _ (by simp)]
  refine ⟨startable_answered hs (f := keeping [.reqs] []) (pwrWritten_fr _ _ _ _ _ _ _ (by simp)) (by simp) _ _ _,
    (get_of_rd (hrd _ _ _) _).trans (pwrWritten_ltr hct l m a i sl d), (get_of_rd (hrd _ _ _) _).trans hmax,
    (bit_of_rd (hrd _ _ _) _).trans hauto, (get_of_rd (hrd _ _ _) _).trans hidle, (get_of_rd (hrd _ _ _) _).trans hsleep,
    (get_of_rd (hrd _ _ _) _).trans hdeep⟩

theorem runs_pwrSet_frozen {l : BitVec 24} {m : BitVec 2} {a : Bool} {i sl d : BitVec 16}
    (hs : Startable s.chip q 0x0202#16 [0] e) (hf : s.chip.frozen = true) :
    Runs (.pwrSet q l m a i sl d) s (fun c => Answered c q e rLOCKED [] ∧ c.rd .PWR_LTR = s.chip.rd .PWR_LTR) := by
  have hexec : exec (.pwrSet q l m a i sl d) s = execPwrSet q l m a i sl d s := rfl
  refine runs_served hs hexec ?_
  rw [taken_frozen, hf, if_pos rfl]
  exact ⟨answered_taken hs _ _ _, ((answer_fr _ _ _ _ _).kept.regs .PWR_LTR rfl).trans (taken_rd _ _ (by simp))⟩

theorem runs_pwrStatus (hs : Startable s.chip q 0x0201#16 [0] e) : Runs (.pwrStatus q) s (fun c => Answered c q e rOK
    ([Reg.PWR_STATUS, .PWR_REFUSE, .PWR_WAKE_CAUSE, .PWR_LTR].map (fun r => ((Taken s.chip q).readWord r).toNat))) := by
  have hexec : exec (.pwrStatus q) s = execPwrStatus q s := rfl
  exact runs_served hs hexec (answered_taken hs _ _ _)

/-! ### Wakes -/

theorem taken_fab (c : Chip) (q : ReqId) : (Taken c q).fab = c.fab := (taken_fr c q).kept.fab (by decide)

theorem runs_pwrWakeSet {w : Word} (hs : Startable s.chip q 0x0203#16 [0] e) (hroom : s.chip.fab.aonq.length < 8) :
    Runs (.pwrWakeSet q w) s (fun c => c.fab.wakeSets = s.chip.fab.wakeSets ++ [(q, s.chip.rd .PWR_WAKE_EN)] ∧
      c.fab.aonq = s.chip.fab.aonq ++ [(.PWR_WAKE_EN, w, Reg.rwMask .PWR_WAKE_EN)]) := by
  have hexec : exec (.pwrWakeSet q w) s = execPwrWakeSet q w s := rfl
  have hno : ¬ 8 ≤ (Taken s.chip q).fab.aonq.length := by
    rw [taken_fab]
    omega
  refine runs_served hs hexec ?_
  rw [Chip.aonWrite, if_neg hno, taken_rd _ _ (by simp)]
  show (Taken s.chip q).fab.wakeSets ++ _ = _ ∧ (Taken s.chip q).fab.aonq ++ _ = _
  rw [taken_fab]
  exact ⟨rfl, rfl⟩

/-! ### Entry -/

theorem taken_entry (c : Chip) (q : ReqId) : (Taken c q).pwr.entry = c.pwr.entry := by
  have hf : Fr (keeping [.pwr] [.PWR_STATUS]) c (c.setReqSt q .executing) := by
    apply Chip.setReqSt_fr (Fr.refl _ c) <;> simp
  exact ((PwrHeld.of_fr hf).trans (active_held _)).1

/-- Activity ends Idle alone (R330). -/
theorem taken_st {c : Chip} (q : ReqId) (h : c.pwr.st ≠ .sleep) : (Taken c q).pwr.st ≠ .sleep := by
  have hst : (c.setReqSt q .executing).pwr = c.pwr := by
    have hf : Fr (keeping [.pwr] []) c (c.setReqSt q .executing) := by
      apply Chip.setReqSt_fr (Fr.refl _ c) <;> simp
    exact hf.kept.pwr (by simp)
  by_cases hidle : c.pwr.st = .idle
  · have hleft : Fr (keeping [.pwr] []) ((roused (c.setReqSt q .executing)).updPwr (fun p => { p with st := .run, runFrom := (c.setReqSt q .executing).clk.now }))
        (idleLeft (c.setReqSt q .executing)) := by
      apply Chip.setF_fr (Chip.ungateBasins_fr (Fr.refl _ _) ?_) <;> simp
    rw [Taken, active_eq, if_pos (by rw [hst]; exact hidle), hleft.kept.pwr (by simp)]
    exact nofun
  · rw [Taken, active_eq, if_neg (by rw [hst]; exact hidle)]
    show (c.setReqSt q .executing).pwr.st ≠ .sleep
    rw [hst]
    exact h

/-- PWR_ENTER's checks pass: the entry begins. -/
theorem pwrEnter_begins {k : Nat} {d : Chip} {p : Chip → Prop} (hs : Startable s.chip q 0x0204#16 [0] e) (hk : k = 2 ∨ k = 3)
    (hmax : k ≤ s.chip.get .PWR_CTL F.PWR_CTL_STATE_MAX) (hentry : s.chip.pwr.entry = none)
    (hd : (Taken s.chip q).beginEntry (if k = 3 then .deep else .sleep) (some q) = d) (hg : d.pond.grants = []) (hp : p d) :
    Runs (.pwrEnter q k) s p := by
  have hexec : exec (.pwrEnter q k) s = execPwrEnter q k s := rfl
  have hgood : ¬ ((k ≠ 2 ∧ k ≠ 3) ∨ (Taken s.chip q).get .PWR_CTL F.PWR_CTL_STATE_MAX < k) := by
    rw [taken_get _ _ _ (by simp)]
    omega
  refine runs_of_runS_eq hexec (d := d) ((serve_start hs _).trans ?_) hg hp
  have hnone : ¬ (Taken s.chip q).pwr.entry.isSome = true := by
    rw [taken_entry, hentry]
    decide
  exact (if_neg hgood).trans ((if_neg hnone).trans hd)

theorem runs_pwrEnter (hg : s.chip.pond.grants = []) {k : Nat} (hs : Startable s.chip q 0x0204#16 [0] e) (hk : k = 2 ∨ k = 3)
    (hmax : k ≤ s.chip.get .PWR_CTL F.PWR_CTL_STATE_MAX) (hentry : s.chip.pwr.entry = none) (hst : s.chip.pwr.st ≠ .sleep)
    (hrefuse : (Taken s.chip q).refuser false (some q) = none) :
    Runs (.pwrEnter q k) s (fun c => Answered c q e rOK [] ∧ c.pwr.entry = some ⟨if k = 3 then .deep else .sleep, 2, some q⟩) := by
  set t : PState := if k = 3 then .deep else .sleep with ht
  set a := (Taken s.chip q).answer q rOK with ha
  have hquiet : ∀ d : Chip, Fr (keeping [.doors, .pond] []) d (d.entryQuiet t (some q)) := fun d => by
    apply Chip.entryQuiet_fr (Fr.refl _ d) <;> simp
  refine pwrEnter_begins hs hk hmax hentry (d := a.entryQuiet t (some q)) ?_ ?_ ⟨?_, ?_⟩
  · rw [Chip.beginEntry, if_neg (taken_st q hst), hrefuse]
    rfl
  · rw [(hquiet a).kept.pond (by simp), pond_of_answer_fr (answer_fr _ _ _ _ _), taken_pond, hg]
  · exact answered_of_sameRing (answered_taken hs _ _ _) (.of_doors ((hquiet a).kept.doors (by simp)) _)
  · rw [entryQuiet_pwr]

theorem runs_pwrEnter_refused (hg : s.chip.pond.grants = []) {k : Nat} {x : Nat × Nat} (hs : Startable s.chip q 0x0204#16 [0] e)
    (hk : k = 2 ∨ k = 3) (hmax : k ≤ s.chip.get .PWR_CTL F.PWR_CTL_STATE_MAX) (hentry : s.chip.pwr.entry = none)
    (hst : s.chip.pwr.st ≠ .sleep) (hrefuse : (Taken s.chip q).refuser false (some q) = some x) :
    Runs (.pwrEnter q k) s (fun c => Answered c q e rLOCKED [x.1, x.2] ∧ c.pwr.entry = none) := by
  set t : PState := if k = 3 then .deep else .sleep with ht
  set u := (Taken s.chip q).updPwr (fun p => if t = .deep then { p with deepFrom := (Taken s.chip q).clk.now, deepExp := false }
    else { p with sleepFrom := (Taken s.chip q).clk.now, sleepExp := false }) with hu
  have hrefused : Fr (keeping [.reqs, .pond, .pwr] []) u (u.refused x 0 t) := by
    apply Chip.refused_fr (Fr.refl _ u) <;> simp
  have hans := (answer_fr (u.refused x 0 t) q rLOCKED [x.1, x.2] 2).kept
  refine pwrEnter_begins hs hk hmax hentry (d := (u.refused x 0 t).answer q rLOCKED [x.1, x.2] 2) ?_ ?_ ⟨?_, ?_⟩
  · rw [Chip.beginEntry, if_neg (taken_st q hst), hrefuse]
    rfl
  · rw [hans.pond (by decide), hrefused.kept.pond (by simp)]
    show (Taken s.chip q).pond.grants = []
    rw [taken_pond, hg]
  · refine startable_answered hs (f := keeping [.reqs] []) ?_ (by simp) _ _ _
    apply Chip.refused_fr (Chip.updPwr_fr (Fr.refl _ _) ?_) <;> simp
  · have hkeep : u.pwr.entry = (Taken s.chip q).pwr.entry := by
      show (if t = .deep then _ else _ : Pwr).entry = _
      split <;> rfl
    rw [hans.pwr (by decide), hrefused.kept.pwr (by simp), hkeep, taken_entry, hentry]

/-! ### Off -/

/-- The entry to Off begun, its request answered. -/
def offBegun (c : Chip) (q : ReqId) : Chip :=
  let c := (c.answer q rOK).updBead (fun b => { b with attestDue := true })
  let now := c.clk.now
  c.updPwr (fun p => { p with entry := some ⟨.off, 1, some q⟩, quietedAt := now, wake := none })

theorem offBegun_doors (c : Chip) (q : ReqId) : (offBegun c q).doors = (c.answer q rOK).doors := rfl

theorem offBegun_chans (c : Chip) (q : ReqId) : (offBegun c q).chans = (c.answer q rOK).chans := rfl

theorem offBegun_quietedAt (c : Chip) (q : ReqId) : (offBegun c q).pwr.quietedAt = (c.answer q rOK).clk.now := rfl

theorem taken_chans (c : Chip) (q : ReqId) : (Taken c q).chans = c.chans := (taken_fr c q).kept.chans (by decide)

theorem runs_pwrOff (hg : s.chip.pond.grants = []) (hs : Startable s.chip q 0x0205#16 [0] e) (hhand : s.chip.fw.handoff = none)
    (hroll : s.chip.fw.roll = none) (hentry : s.chip.pwr.entry = none) :
    Runs (.pwrOff q 0x0FF0#16) s (fun c => Answered c q e rOK [] ∧ c.bead.attestDue = true ∧
      c.pwr.entry = some ⟨.off, 1, some q⟩ ∧ c.pwr.quietedAt = s.chip.clk.now ∧ c.chans = s.chip.chans) := by
  have hexec : exec (.pwrOff q 0x0FF0#16) s = execPwrOff q 0x0FF0#16 s := rfl
  have hans := (answer_fr (Taken s.chip q) q rOK [] 0).kept
  refine runs_of_runS_eq hexec (d := offBegun (Taken s.chip q) q) ((serve_start hs _).trans ?_) ?_ ⟨?_, rfl, rfl, ?_, ?_⟩
  · dsimp only
    rw [if_neg (by decide)]
    refine (if_neg ?_).trans rfl
    show ¬ ((Taken s.chip q).fw.handoff.isSome || (Taken s.chip q).fw.roll.isSome || (Taken s.chip q).pwr.entry.isSome) = true
    rw [taken_fw, taken_entry, hhand, hroll, hentry]
    decide
  · show ((Taken s.chip q).answer q rOK).pond.grants = []
    rw [hans.pond (by decide), taken_pond, hg]
  · exact answered_of_sameRing (answered_taken hs rOK [] 0) (.of_doors (offBegun_doors _ _) _)
  · rw [offBegun_quietedAt, hans.clk (by decide), taken_clk]
  · rw [offBegun_chans, hans.chans (by decide), taken_chans]

theorem runs_pwrOff_badArg (hg : s.chip.pond.grants = []) {k : BitVec 16} (hs : Startable s.chip q 0x0205#16 [0] e) (hk : k ≠ 0x0FF0#16) :
    Runs (.pwrOff q k) s (fun c => Answered c q e rBAD_ARG [] ∧ c.pwr.entry = s.chip.pwr.entry) := by
  have hexec : exec (.pwrOff q k) s = execPwrOff q k s := rfl
  refine runs_answered (d := Taken s.chip q) (f := keeping [.reqs] []) (n := 0) hs hexec (if_pos hk) (Fr.refl _ _) (by simp)
    (by rw [taken_pond, hg]) fun c hc => ?_
  rw [hc.kept.pwr (by decide), taken_entry]

end

/-- Settles O13: opcode by opcode, each on the chip that has taken the request. -/
theorem powerRequests : Obligations.PowerRequests := by
  intro s hc hg
  exact ⟨fun _ _ hs => runs_pwrStatus hs, fun _ _ _ _ _ _ _ _ hs hf => runs_pwrSet hc hs hf,
    fun _ _ _ _ _ _ _ _ hs hf => runs_pwrSet_frozen hs hf, fun _ _ _ hs hroom => runs_pwrWakeSet hs hroom,
    fun _ _ _ hs hk hmax he hst hr => runs_pwrEnter hg hs hk hmax he hst hr,
    fun _ _ _ _ hs hk hmax he hst hr => runs_pwrEnter_refused hg hs hk hmax he hst hr,
    fun _ _ hs hh hr he => runs_pwrOff hg hs hh hr he, fun _ _ _ hs hk => runs_pwrOff_badArg hg hs hk⟩

end Sys2Proof.Proofs

namespace Sys2Proof.Proofs

open Sys2Proof.Machine Sys2Proof.Laws

/-! SUPPORT. What is answered stays answered: through further answers, released doors, pool traffic and the bindings' work. -/

/-- A done entry stays done, and no response of its door is lost. -/
def AnsKept (x : ReqId) (c d : Chip) : Prop :=
  (∀ e, c.entry? x = some e → e.st = .done → ∃ e', d.entry? x = some e' ∧ e'.st = .done) ∧
  ∀ p ∈ (c.doors[x.door]).rsps ++ (c.doors[x.door]).rspWait, p ∈ (d.doors[x.door]).rsps ++ (d.doors[x.door]).rspWait

section
variable {x : ReqId} {a b c d : Chip}

theorem AnsKept.refl (x : ReqId) (c : Chip) : AnsKept x c c := ⟨fun e he hd => ⟨e, he, hd⟩, fun _ hp => hp⟩

theorem AnsKept.trans (h : AnsKept x a b) (k : AnsKept x b c) : AnsKept x a c := by
  refine ⟨fun e he hd => ?_, fun p hp => k.2 p (h.2 p hp)⟩
  obtain ⟨e', he', hd'⟩ := h.1 e he hd
  exact k.1 e' he' hd'

theorem AnsKept.of_sameRing (h : SameRing c d x.door) : AnsKept x c d := by
  obtain ⟨hreqs, hrsps, hwait⟩ := h
  refine ⟨fun e he hd => ⟨e, ?_, hd⟩, fun p hp => ?_⟩
  · rw [← he, Chip.entry?, Chip.entry?, hreqs]
  · rwa [hrsps, hwait]

theorem AnsKept.of_doors (h : d.doors = c.doors) : AnsKept x c d := .of_sameRing (.of_doors h x.door)

theorem AnsKept.after (h : b.doors = c.doors) (k : AnsKept x b d) : AnsKept x c d := (AnsKept.of_doors h).trans k

theorem AnsKept.of_fr (h : Fr (keeping [.doors] []) c d) : AnsKept x c d := .of_doors (h.kept.doors (by simp))

theorem AnsKept.each {α : Type} {g : Chip → α → Chip} (hg : ∀ c y, AnsKept x c (g c y)) : ∀ (l : List α) (c : Chip), AnsKept x c (c.each l g)
  | [], c => .refl x c
  | y :: t, c => (hg c y).trans (AnsKept.each hg t _)

theorem AnsKept.answered (h : AnsKept x c d) {e : ReqEntry} {result : Nat} {data : List Nat} (ha : Answered c x e result data) :
    Answered d x e result data := by
  obtain ⟨⟨y, hy, hdone⟩, p, hp, hpart⟩ := ha
  exact ⟨h.1 y hy hdone, p, h.2 p hp, hpart⟩

/-! ### Doors -/

theorem ansKept_updDoor (c : Chip) (k : Door) {f : DoorSt → DoorSt}
    (hf : (f c.doors[k]).reqs = (c.doors[k]).reqs ∧ (f c.doors[k]).rsps = (c.doors[k]).rsps ∧ (f c.doors[k]).rspWait = (c.doors[k]).rspWait) :
    AnsKept x c (c.updDoor k f) := by
  refine .of_sameRing ?_
  unfold SameRing Chip.updDoor
  by_cases hk : x.door = k
  · subst hk
    simpa using hf
  · have hother : (c.doors.set k (f c.doors[k]))[x.door] = c.doors[x.door] :=
      Vector.getElem_set_ne k.isLt x.door.isLt (fun h => hk (Fin.ext h.symm))
    rw [hother]
    exact ⟨rfl, rfl, rfl⟩

theorem postR_ansKept (c : Chip) (r : Route) (e : Event) : AnsKept x c (c.postR r e) := .of_sameRing (postR_sameRing c r e _)

theorem post_ansKept (c : Chip) (e : Event) : AnsKept x c (c.post e) := postR_ansKept c _ e

theorem postOwn_ansKept (c : Chip) (k : Option Door) (e : Event) : AnsKept x c (c.postOwn k e) := postR_ansKept c _ e

theorem postRateR_ansKept (c : Chip) (r : Route) (i k : Nat) (e : Event) (p : Option Nat) (n : Nat) :
    AnsKept x c (c.postRateR r i k e p n) := .of_sameRing (postRateR_sameRing c r i k e p n _)

theorem bumpDoor_ansKept (c : Chip) (k : Door) : AnsKept x c (c.bumpDoor k) :=
  (ansKept_updDoor c k ⟨rfl, rfl, rfl⟩).trans (postR_ansKept _ _ _)

theorem cullDoor_ansKept (c : Chip) (k : Door) (source result : Nat) (v cur : BitVec 16) (item : List Byte) :
    AnsKept x c (c.cullDoor k source result v cur item) := by
  unfold Chip.cullDoor
  dsimp only
  split
  · exact ansKept_updDoor c k ⟨rfl, rfl, rfl⟩
  · split
    · exact (ansKept_updDoor c k ⟨rfl, rfl, rfl⟩).trans (postRateR_ansKept _ _ _ _ _ _ _)
    · exact ansKept_updDoor c k ⟨rfl, rfl, rfl⟩

theorem push_keeps (s : DoorSt) (ps : List RspPart) : (s.push ps).reqs = s.reqs ∧
    ∀ p ∈ s.rsps ++ s.rspWait, p ∈ (s.push ps).rsps ++ (s.push ps).rspWait := by
  refine ⟨rfl, fun p hp => ?_⟩
  unfold DoorSt.push
  dsimp only
  rw [List.append_assoc, List.take_append_drop]
  rcases List.mem_append.1 hp with h | h
  · exact List.mem_append_left _ h
  · exact List.mem_append_right _ (List.mem_append_left _ h)

theorem find?_updFirst_done {l : List ReqEntry} {o k : Nat} {e : ReqEntry} (h : l.find? (fun e => e.ord == o) = some e)
    (hd : e.st = .done) : ∃ e', (updFirst (fun e : ReqEntry => e.ord == k) (fun e => { e with st := .done }) l).find? (fun e => e.ord == o) =
      some e' ∧ e'.st = .done := by
  induction l with
  | nil => simp at h
  | cons y t ih =>
    have hpos : ∀ (z : ReqEntry) (u : List ReqEntry), (z.ord == o) = true → (z :: u).find? (fun e => e.ord == o) = some z :=
      fun z u hz => List.find?_cons_of_pos (p := fun e : ReqEntry => e.ord == o) hz
    have hneg : ∀ (z : ReqEntry) (u : List ReqEntry), ¬ (z.ord == o) = true → (z :: u).find? (fun e => e.ord == o) =
        u.find? (fun e => e.ord == o) := fun z u hz => List.find?_cons_of_neg (p := fun e : ReqEntry => e.ord == o) hz
    unfold updFirst
    by_cases hy : (y.ord == o) = true
    · rw [hpos y t hy] at h
      obtain rfl := Option.some.inj h
      split
      · exact ⟨{ y with st := .done }, hpos { y with st := .done } t hy, rfl⟩
      · exact ⟨y, hpos _ _ hy, hd⟩
    · rw [hneg y t hy] at h
      split
      · exact ⟨e, (hneg { y with st := .done } t hy).trans h, hd⟩
      · obtain ⟨e', he', hd'⟩ := ih h
        exact ⟨e', (hneg y _ hy).trans he', hd'⟩

theorem updDoor_other (c : Chip) {k j : Door} (f : DoorSt → DoorSt) (h : j ≠ k) : (c.updDoor k f).doors[j] = c.doors[j] :=
  Vector.getElem_set_ne k.isLt j.isLt (fun he => h (Fin.ext he.symm))

/-- A door that keeps its done entries and its responses keeps its answers. -/
theorem ansKept_updDoor_of (c : Chip) (k : Door) {f : DoorSt → DoorSt}
    (hdone : ∀ (o : Nat) (e : ReqEntry), (c.doors[k]).reqs.find? (fun e => e.ord == o) = some e → e.st = .done →
      ∃ e', (f c.doors[k]).reqs.find? (fun e => e.ord == o) = some e' ∧ e'.st = .done)
    (hrsp : ∀ p ∈ (c.doors[k]).rsps ++ (c.doors[k]).rspWait, p ∈ (f c.doors[k]).rsps ++ (f c.doors[k]).rspWait) :
    AnsKept x c (c.updDoor k f) := by
  obtain ⟨j, o⟩ := x
  by_cases hk : j = k
  · subst hk
    refine ⟨fun e he hd => ?_, fun p hp => ?_⟩
    · unfold Chip.entry? at he ⊢
      rw [updDoor_same]
      exact hdone o e he hd
    · rw [updDoor_same]
      exact hrsp p hp
  · exact .of_sameRing (by rw [SameRing, updDoor_other _ _ hk]; exact ⟨rfl, rfl, rfl⟩)

theorem setDone_ansKept (c : Chip) (q : ReqId) : AnsKept x c (c.setReqSt q .done) :=
  ansKept_updDoor_of c q.door (fun _ _ he hd => find?_updFirst_done he hd) fun _ hp => hp

theorem answerEntry_ansKept (c : Chip) (q : ReqId) (e : ReqEntry) (result : Nat) (data : List Nat) (n : Nat) :
    AnsKept x c (c.answerEntry q e result data n) :=
  (setDone_ansKept c q).trans (ansKept_updDoor_of _ q.door (fun _ e he hd => ⟨e, he, hd⟩) fun p hp => (push_keeps _ _).2 p hp)

theorem answerRelease_ansKept (c : Chip) (k : Door) (result : Nat) : AnsKept x c (c.answerRelease k result) := by
  unfold Chip.answerRelease
  split
  · exact .refl x c
  · dsimp only
    split
    · exact ansKept_updDoor c k ⟨rfl, rfl, rfl⟩
    · exact (answerEntry_ansKept c _ _ _ _ _).trans (ansKept_updDoor _ k ⟨rfl, rfl, rfl⟩)

theorem claimDoor_ansKept (c : Chip) (k : Door) (p : Path) (owner : BitVec 64) (sub : BitVec 16) : AnsKept x c (c.claimDoor k p owner sub) := by
  have hclaim : ∀ e : Event, AnsKept x c (((c.updDoor k (fun s => { s with
      path := some p, owner := owner, sub := sub, leaseFrom := c.clk.now, releasing := none, takeover := none, releaseReq := none
      evts := [], sent := 0, evtSeq := 0#32, lost := none, lostCount := 0, gapNext := false, reqNum := 0 })).bumpDoor k).postR (.except k) e) :=
    fun e => (ansKept_updDoor c k ⟨rfl, rfl, rfl⟩).trans ((bumpDoor_ansKept _ k).trans (postR_ansKept _ _ e))
  unfold Chip.claimDoor
  dsimp only
  split
  · exact (hclaim _).trans (.of_doors rfl)
  · exact hclaim _

/-- The door freed, before a takeover claims it (R131). -/
def doorFreed (c : Chip) (k : Door) (cause : Nat) : Chip :=
  let c := c.answerRelease k rOK
  let c := c.updDoor k (fun s =>
    { s with path := none, releasing := none, takeover := none, releaseReq := none, evts := [], sent := 0, lost := none, owner := 0#64,
             sub := 0#16 })
  let c := c.bumpDoor k
  let c := c.postR (.others k) (c.ev 0x0161 4 k [k.val, cause])
  c.updTrunk (fun t => { t with rx := t.rx.filter (fun x => !(x.cls == 0 && x.id == k.val)) })

theorem doorFreed_ansKept (c : Chip) (k : Door) (cause : Nat) : AnsKept x c (doorFreed c k cause) :=
  (answerRelease_ansKept c k rOK).trans ((ansKept_updDoor _ k ⟨rfl, rfl, rfl⟩).trans ((bumpDoor_ansKept _ k).trans
    ((postR_ansKept _ _ _).trans (.of_doors rfl))))

/-- The forced claim that waited for the release is answered, and claims the door where no bar stands (R131). -/
def takeoverEnd (c : Chip) (k : Door) (t : Takeover) : Chip :=
  match c.claimBar .svc k, c.entry? t.req with
  | some h, some e => c.answerEntry t.req { e with num := 0 } rLOCKED [h.val] 1
  | some _, none => c
  | none, e =>
    let c := c.claimDoor k .svc t.owner t.sub
    match e with
    | none => c
    | some e => c.answerEntry t.req { e with num := 0 } rOK [(c.doors[k].epoch).toNat, c.get .MBX_CTL F.MBX_CTL_LEASE] 3

theorem takeoverEnd_ansKept (c : Chip) (k : Door) (t : Takeover) : AnsKept x c (takeoverEnd c k t) := by
  unfold takeoverEnd
  split
  · exact answerEntry_ansKept _ _ _ _ _ _
  · exact .refl _ _
  · dsimp only
    split
    · exact claimDoor_ansKept _ _ _ _ _
    · exact (claimDoor_ansKept _ _ _ _ _).trans (answerEntry_ansKept _ _ _ _ _ _)

theorem finishRelease_cases (c : Chip) (k : Door) : c.finishRelease k = c ∨ ∃ cause, c.finishRelease k = doorFreed c k cause ∨
    ∃ t, c.finishRelease k = takeoverEnd (doorFreed c k cause) k t := by
  unfold Chip.finishRelease
  dsimp only
  split
  · exact .inl rfl
  · next cause _ =>
    split
    · exact .inl rfl
    · refine .inr ⟨cause, ?_⟩
      split
      · exact .inl rfl
      · next t _ => exact .inr ⟨t, rfl⟩

theorem finishRelease_ansKept (c : Chip) (k : Door) : AnsKept x c (c.finishRelease k) := by
  obtain h | ⟨cause, h | ⟨t, h⟩⟩ := finishRelease_cases c k <;> rw [h]
  · exact .refl x c
  · exact doorFreed_ansKept c k cause
  · exact (doorFreed_ansKept c k cause).trans (takeoverEnd_ansKept _ k t)

/-- An entry that goes with its door's release was not done. -/
theorem dropEntry_ansKept (c : Chip) {q : ReqId} {e : ReqEntry} (he : c.entry? q = some e) (hst : e.st ≠ .done) :
    AnsKept x c (c.updDoor q.door (fun s => { s with reqs := s.reqs.filter (fun y => y.ord != q.ord) })) := by
  refine ansKept_updDoor_of c q.door (fun o e' he' hd => ⟨e', ?_, hd⟩) fun _ hp => hp
  have hord : o ≠ q.ord := by
    rintro rfl
    exact hst (Option.some.inj (he'.symm.trans he) ▸ hd)
  rw [List.find?_filter, ← he']
  congr 1
  funext y
  by_cases hy : y.ord = o
  · simp [hy, hord]
  · simp [hy]

/-- Answering a request leaves every answer. -/
theorem answer_ansKept (c : Chip) (q : ReqId) (result : Nat) (data : List Nat) (n : Nat) : AnsKept x c (c.answer q result data n) := by
  unfold Chip.answer
  split
  · exact .refl x c
  · next e he =>
    dsimp only
    split
    · exact .refl x c
    · next hst =>
      split
      · exact (answerRelease_ansKept c _ _).trans (finishRelease_ansKept _ _)
      · split
        · exact (dropEntry_ansKept c he hst).trans ((cullDoor_ansKept _ _ _ _ _ _ _).trans (finishRelease_ansKept _ _))
        · exact answerEntry_ansKept _ _ _ _ _ _

theorem answerOpt_ansKept (c : Chip) (q : Option ReqId) (result : Nat) (data : List Nat) (n : Nat) :
    AnsKept x c (c.answerOpt q result data n) := by
  unfold Chip.answerOpt
  split
  · exact .refl x c
  · exact answer_ansKept _ _ _ _ _

/-! ### The pool -/

/-- The pool's exhaustion told where it is new (R151). -/
def exhaustedTold (c : Chip) (ex was : Bool) : Chip :=
  let c := c.setSt .POND_STATUS F.POND_STATUS_EXHAUSTED (bitOf ex)
  if ex && !was then
    c.postRate (ms 1) 0 (c.ev 0x0601 0 0 [c.pond.waiters.length, (c.pond.waiters.head?.map (·.size)).getD 0])
  else c

/-- The low mark told, or armed again (R151). -/
def lowTold (c : Chip) (free low : Nat) : Chip :=
  if c.pond.lowArmed && free < low then
    (c.postRate (ms 1) 0 (c.ev 0x0602 0 0 [free, low])).updPond (fun p => { p with lowArmed := false })
  else if !c.pond.lowArmed && 2 * low < free then c.updPond (fun p => { p with lowArmed := true })
  else c

theorem exhaustedTold_ansKept (c : Chip) (ex was : Bool) : AnsKept x c (exhaustedTold c ex was) := by
  have hst : AnsKept x c (c.setSt .POND_STATUS F.POND_STATUS_EXHAUSTED (bitOf ex)) := .of_fr (by
    apply Chip.setSt_fr (Fr.refl _ c); simp)
  unfold exhaustedTold
  dsimp only
  split
  · exact hst.trans (postRateR_ansKept _ _ _ _ _ _ _)
  · exact hst

theorem lowTold_ansKept (c : Chip) (free low : Nat) : AnsKept x c (lowTold c free low) := by
  unfold lowTold
  split
  · exact (postRateR_ansKept _ _ _ _ _ _ _).trans (.of_doors rfl)
  · split
    · exact .of_doors rfl
    · exact .refl x c

theorem poolEvents_ansKept (c : Chip) : AnsKept x c c.poolEvents :=
  (exhaustedTold_ansKept c _ _).trans (lowTold_ansKept _ _ _)

theorem take_ansKept (c : Chip) (h : Fin 99) (g : Group) (n : Nat) : AnsKept x c (c.take h g n).2 := by
  have hgrant : ∀ l, AnsKept x c (c.grantCtxs h g l) := fun l => .of_fr (by apply Chip.grantCtxs_fr (Fr.refl _ c); simp)
  exact (hgrant _).trans (AnsKept.after (by rfl) (poolEvents_ansKept _))

theorem alloc_ansKept (c : Chip) (h : Fin 99) (g : Group) (n : Nat) : AnsKept x c (c.alloc h g n).2 := by
  unfold Chip.alloc
  extract_lets v
  split
  · exact take_ansKept c h g n
  · exact .refl x c

theorem syncWaiters_ansKept (c : Chip) : AnsKept x c c.syncWaiters := .of_fr (by apply Chip.syncWaiters_fr (Fr.refl _ c) <;> simp)

/-- The next waiter granted from the reserve (R157). -/
def waiterGranted (c : Chip) (w : Waiter) : Chip :=
  let c := c.setF .POND_WAIT F.POND_WAIT_RESERVED (c.pReserved - w.size)
  let (cids, c) := c.take w.holder (c.waitGroup w.who) w.size
  let c := c.updPond (fun p => { p with waiters := p.waiters.filter (fun x => x.who ≠ w.who), grants := p.grants ++ [(w, cids)] })
  c.syncWaiters

theorem waiterGranted_ansKept (c : Chip) (w : Waiter) : AnsKept x c (waiterGranted c w) :=
  AnsKept.after (b := c.setF .POND_WAIT F.POND_WAIT_RESERVED (c.pReserved - w.size)) rfl
    ((take_ansKept _ _ _ _).trans (AnsKept.after (by rfl) (syncWaiters_ansKept _)))

theorem serveWaiters_ansKept : ∀ (n : Nat) (c : Chip), AnsKept x c (Chip.serveWaiters n c)
  | 0, c => poolEvents_ansKept c
  | n + 1, c => by
    unfold Chip.serveWaiters
    split
    · exact AnsKept.after (by rfl) (poolEvents_ansKept _)
    · next w _ =>
      split
      · exact poolEvents_ansKept c
      · exact (waiterGranted_ansKept c w).trans (serveWaiters_ansKept n _)

theorem quotaCheck_ansKept (c : Chip) (h : Fin 99) (b : Bool) : AnsKept x c (c.quotaCheck h b) := by
  unfold Chip.quotaCheck
  dsimp only
  split
  · exact AnsKept.after (by rfl) (post_ansKept _ _)
  · split
    · exact AnsKept.after (by rfl) (post_ansKept _ _)
    · exact .refl x c

theorem reserveFreed_ansKept (c : Chip) : AnsKept x c c.reserveFreed := by
  unfold Chip.reserveFreed
  split
  · exact .refl x c
  · dsimp only
    split
    · exact AnsKept.after (by rfl) (serveWaiters_ansKept _ _)
    · exact serveWaiters_ansKept _ _

theorem freeCtx_ansKept (c : Chip) (i : Nat) : AnsKept x c (c.freeCtx i) := by
  have hempty : ∀ h, AnsKept x c (countedBack c h i) := fun h => .of_fr (by
    unfold countedBack emptied
    refine Chip.setF_fr (Chip.setF_fr (Chip.setCtx_fr (Chip.evict_fr (Fr.refl _ c) ?_) ?_) ?_) ?_ <;> simp)
  unfold Chip.freeCtx
  dsimp only
  split
  · exact .refl x c
  · exact (hempty _).trans ((quotaCheck_ansKept _ _ _).trans ((reserveFreed_ansKept _).trans (poolEvents_ansKept _)))

theorem waitJoin_ansKept (c : Chip) (w : Waiter) : AnsKept x c (c.waitJoin w) := by
  unfold Chip.waitJoin
  dsimp only
  split
  · exact .refl x c
  · split
    · exact AnsKept.after (by rfl) (syncWaiters_ansKept _)
    · exact AnsKept.after (by rfl) (post_ansKept _ _)

theorem dropWaiters_ansKept (c : Chip) (gone : Waiting → Bool) : AnsKept x c (c.dropWaiters gone) := by
  unfold Chip.dropWaiters
  dsimp only
  split
  · exact AnsKept.after (by rfl) ((syncWaiters_ansKept _).trans (serveWaiters_ansKept _ _))
  · exact .refl x c

/-! ### Bindings -/

theorem syncSvc_ansKept (c : Chip) : AnsKept x c c.syncSvc := .of_fr (by apply Chip.syncSvc_fr (Fr.refl _ c); simp)

theorem pendBind_ansKept (c : Chip) (b : Bind) (p : PendCause) : AnsKept x c (c.pendBind b p) :=
  AnsKept.after (by rfl) ((postOwn_ansKept _ _ _).trans (syncSvc_ansKept _))

theorem bindDone_ansKept (c : Chip) (b : Bind) (d : Dev) : AnsKept x c (c.bindDone b d) := by
  have heps : ∀ (c : Chip) p f, AnsKept x c (c.updEps b.port d.cid p f) := fun c p f => .of_fr (by
    apply Chip.updEps_fr (Fr.refl _ c) <;> simp)
  exact AnsKept.after (by rfl) ((heps _ _ _).trans ((postOwn_ansKept _ _ _).trans ((answerOpt_ansKept _ _ _ _ _).trans
    (syncSvc_ansKept _))))

theorem bindNext_ansKept (c : Chip) (b : Bind) (d : Dev) : AnsKept x c (c.bindNext b d) := by
  unfold Chip.bindNext
  split
  · exact bindDone_ansKept _ _ _
  · exact .of_doors rfl

theorem bindIn_ansKept (c : Chip) (b : Bind) (d : Dev) (i : Nat) (s : Strm) (o : Option Strm) : AnsKept x c (c.bindIn b d i s o) :=
  AnsKept.after (by rfl) ((bindNext_ansKept _ _ _).trans (syncSvc_ansKept _))

theorem putRec_ansKept (c : Chip) (s : Strm) (src : Nat) (hdr : RecHdr) (data : List Byte) : AnsKept x c (c.putRec s src hdr data).2 := by
  have hactive : ∀ d : Chip, AnsKept x d d.active := fun d => .of_fr (by apply Chip.active_fr (Fr.refl _ d) <;> simp)
  have htouch : ∀ d : Chip, AnsKept x d (d.touchPool s.port s.cid true) := fun d => .of_fr (by
    apply Chip.touchPool_fr (Fr.refl _ d); simp)
  unfold Chip.putRec
  dsimp only
  split
  · exact AnsKept.after (by rfl) (postRateR_ansKept _ _ _ _ _ _ _)
  · exact AnsKept.after (by rfl) ((htouch _).trans (hactive _))

/-- A printer record put into its stream, and its number counted where it fitted (R213). -/
def printerPut (c : Chip) (b : Bind) (s : Strm) (h : RecHdr) (data : List Byte) : Chip :=
  let r := c.putRec s (parisonSrc b.port b.route) h data
  if r.1 then r.2.updSvcBody b (fun x => { x with rseq := x.rseq + 1 }) else r.2

theorem printerPut_ansKept (c : Chip) (b : Bind) (s : Strm) (h : RecHdr) (data : List Byte) : AnsKept x c (printerPut c b s h data) := by
  have hput := putRec_ansKept (x := x) c s (parisonSrc b.port b.route) h data
  unfold printerPut
  dsimp only
  split
  · exact hput.trans (.of_fr (by apply Chip.updSvcBody_fr (Fr.refl _ _) <;> simp))
  · exact hput

theorem printerRec_ansKept (c : Chip) (b : Bind) (event : Nat) (id : List Byte) : AnsKept x c (c.printerRec b event id) := by
  unfold Chip.printerRec
  split
  · exact .refl x c
  · exact printerPut_ansKept c b _ _ _

theorem abortJob_ansKept (c : Chip) (b : Bind) : AnsKept x c (c.abortJob b) := by
  unfold Chip.abortJob
  split
  · dsimp only
    split
    · exact printerRec_ansKept c b 4 []
    · exact (printerRec_ansKept c b 4 []).trans (.of_doors rfl)
  · exact .refl x c

/-- The unbound service's place given back: its event, and the reply that waits (R206, R218). -/
theorem unboundTold_ansKept (c : Chip) (b : Bind) (tell : Prop) [Decidable tell] (k : Option Door) (e : Event) (cause : Nat) :
    AnsKept x c (((if tell then c.postOwn k e else c).bindReply b cause).syncSvc) := by
  have htold : AnsKept x c (if tell then c.postOwn k e else c) := by
    split
    · exact postOwn_ansKept _ _ _
    · exact .refl _ _
  exact htold.trans ((answerOpt_ansKept _ _ _ _ _).trans (syncSvc_ansKept _))

theorem bindDropped_ansKept (c : Chip) (b : Bind) : AnsKept x c (((c.dropCtls b).freeCtx b.cid).updSvc
    (fun v => { v with binds := v.binds.filter (fun x => !Bind.is b.port b.route b.iface x) })) :=
  AnsKept.after (by rfl) ((freeCtx_ansKept _ b.cid).trans (.of_doors rfl))

theorem endBind_ansKept (c : Chip) (b : Bind) (cause : Nat) : AnsKept x c (c.endBind b cause) := by
  have heps : ∀ (c : Chip) i p f, AnsKept x c (c.updEps b.port i p f) := fun c i p f => .of_fr (by
    apply Chip.updEps_fr (Fr.refl _ c) <;> simp)
  unfold Chip.endBind
  split
  · exact (bindDropped_ansKept c b).trans (unboundTold_ansKept _ _ _ _ _ _)
  · exact AnsKept.after (by rfl) ((dropWaiters_ansKept _ _).trans (syncSvc_ansKept _))
  · extract_lets a1 a2 ifs a3 a4 a5 a6
    have h1 : AnsKept x c a1 := abortJob_ansKept c b
    have h2 : AnsKept x a1 a2 := .of_doors rfl
    exact h1.trans (h2.trans ((heps _ _ _ _).trans ((bindDropped_ansKept a3 b).trans ((postOwn_ansKept _ _ _).trans (syncSvc_ansKept _)))))

theorem tryBind_ansKept (c : Chip) (b : Bind) : AnsKept x c (c.tryBind b) := by
  unfold Chip.tryBind
  split
  · exact endBind_ansKept _ _ _
  · split
    · exact pendBind_ansKept _ _ _
    · split
      · exact (waitJoin_ansKept _ _).trans (pendBind_ansKept _ _ _)
      · next d _ _ _ _ _ _ =>
        have halloc := alloc_ansKept (x := x) c (hPort b.port) (.of tSERVICE d.cid) 1
        split
        · next heq =>
          rw [heq] at halloc
          exact halloc.trans (bindIn_ansKept _ _ _ _ _ _)
        · next heq =>
          rw [heq] at halloc
          exact halloc
        · next heq =>
          rw [heq] at halloc
          exact halloc.trans ((waitJoin_ansKept _ _).trans (pendBind_ansKept _ _ _))

theorem retryBinds_ansKept (c : Chip) (p : Bind → Bool) : AnsKept x c (c.retryBinds p) := AnsKept.each tryBind_ansKept _ c

theorem hsReturns_ansKept (c : Chip) : AnsKept x c c.hsReturns :=
  (AnsKept.each (fun c k => ansKept_updDoor c k ⟨rfl, rfl, rfl⟩) _ c).trans (retryBinds_ansKept _ _)

end

end Sys2Proof.Proofs

namespace Sys2Proof.Proofs

open Sys2Proof.Machine Sys2Proof.Laws

/-! Punty handoffs, microcode rolls, the boot bank and the service tables (04 R97 to R103, 10 R219, 17 R343). -/

section
variable {s : State} {q : ReqId} {e : ReqEntry}

theorem flashBytes_of_fw {c d : Chip} (h : d.fw = c.fw) (a n : Nat) : d.flashBytes a n = c.flashBytes a n := by
  rw [Chip.flashBytes, h, Chip.flashBytes]

theorem taken_header (c : Chip) (q : ReqId) (b : Nat) : (Taken c q).header b = c.header b := by
  simp only [Chip.header, flashBytes_of_fw (taken_fw c q)]

theorem taken_compBytes (c : Chip) (q : ReqId) (b : Nat) (x : CompEnt) : (Taken c q).compBytes b x = c.compBytes b x :=
  flashBytes_of_fw (taken_fw c q) _ _

theorem taken_logFull (c : Chip) (q : ReqId) : (Taken c q).logFull = c.logFull := by simp [Chip.logFull]

theorem hsReturns_fw (c : Chip) : c.hsReturns.fw = c.fw := by
  have hf : Fr (keeping [.fw] []) c c.hsReturns := by apply Chip.hsReturns_fr (Fr.refl _ c) <;> simp
  exact hf.kept.fw (by simp)

theorem postFault_fw (c : Chip) (x : FaultSrc) (ev : Event) : (c.postFault x ev).fw = c.fw := by
  have hf : Fr (keeping [.fw] []) c (c.postFault x ev) := by apply Chip.postFault_fr (Fr.refl _ c) <;> simp
  exact hf.kept.fw (by simp)

theorem answerOpt_fw (c : Chip) (q : Option ReqId) (r : Nat) (l : List Nat) (n : Nat) : (c.answerOpt q r l n).fw = c.fw := by
  have hf : Fr (keeping [.fw] []) c (c.answerOpt q r l n) := by apply Chip.answerOpt_fr (Fr.refl _ c) <;> simp
  exact hf.kept.fw (by simp)

theorem measure_fw {c : Chip} (h : c.logFull = false) (i kind : Nat) (time version : BitVec 64) (d : BitVec 384) :
    (c.measure i kind time version d).fw =
      { c.fw with meas := measNext c.fw.meas i d, log := c.fw.log ++ [⟨c.fw.logNext, kind, i, 0, time, version, d⟩]
                  logNext := c.fw.logNext + 1#32 } := by
  have hext : (c.extend i d).logFull = false := h
  rw [Chip.measure, if_neg (by rw [h]; exact Bool.false_ne_true), logPut_fw hext]
  rfl

theorem measNext_self (m : Vector (BitVec 384) 8) {i : Nat} (h : i < 8) (d : BitVec 384) :
    (measNext m i d)[i]! = sha384 (digestBytes m[i]! ++ digestBytes d) := by
  rw [measNext]
  simp [h]

/-- What a measurement keeps of the handoff's state, logged or not. -/
theorem measure_pair (c : Chip) (i kind : Nat) (time version : BitVec 64) (d : BitVec 384) :
    (c.measure i kind time version d).fw.handoff = c.fw.handoff ∧ (c.measure i kind time version d).fw.pairB = c.fw.pairB ∧
    (c.measure i kind time version d).fw.fwDigest = c.fw.fwDigest ∧ (c.measure i kind time version d).fw.fwVersion = c.fw.fwVersion := by
  cases h : c.logFull
  · rw [measure_fw h]
    exact ⟨rfl, rfl, rfl, rfl⟩
  · rw [Chip.measure, if_pos h]
    exact ⟨rfl, rfl, rfl, rfl⟩

/-! ### Handoffs (R99, R100) -/

/-- The chip with its handoff ended. -/
def unhanded (c : Chip) : Chip := c.updFw (fun f => { f with handoff := none })

theorem unhanded_fr {ps : List Part} (c : Chip) (h : Part.fw ∉ ps) : Fr (keeping ps []) c (unhanded c) :=
  Chip.updFw_fr (Fr.refl _ c) (keeping_of_not_mem h) fun _ => rfl

theorem runs_handoff {b : Nat} {x : CompEnt} (hs : Startable s.chip q 0x0920#16 [0, 2] e) (hh : s.chip.fw.handoff = none)
    (hr : s.chip.fw.roll = none) (hb : s.chip.staging? = some b) (hx : (s.chip.header b).bind (fun h => h.comp? cpFW) = some x)
    (hl : s.chip.logFull = false) :
    Runs (.handoff q b) s (fun c => c.fw.handoff = some ⟨b, 1, s.chip.clk.now, sha384 (s.chip.compBytes b x), x.version, some q,
      s.chip.fw.fwDigest, s.chip.fw.fwVersion⟩) := by
  have hexec : exec (.handoff q b) s = execHandoff q b s := rfl
  refine runs_served hs hexec ?_
  simp [taken_header, taken_compBytes, taken_logFull, hh, hr, hb, hx, hl, Chip.updFw]

theorem runs_handoff_refused {b : Nat} (hs : Startable s.chip q 0x0920#16 [0, 2] e)
    (h : s.chip.staging? ≠ some b ∨ (s.chip.header b).bind (fun h => h.comp? cpFW) = none) :
    Runs (.handoff q b) s (fun c => Answered c q e rBAD_ARG [] ∧ c.fw = s.chip.fw) := by
  have hexec : exec (.handoff q b) s = execHandoff q b s := rfl
  have hans : Answered ((Taken s.chip q).answer q rBAD_ARG) q e rBAD_ARG [] ∧ ((Taken s.chip q).answer q rBAD_ARG).fw = s.chip.fw :=
    ⟨answered_taken hs _ _ _, (answer_fw _ _ _ _ _).trans (taken_fw _ _)⟩
  refine runs_served hs hexec ?_
  simp only [taken_staging, taken_header]
  by_cases hb : s.chip.staging? = some b
  · rw [if_neg (fun hn => hn hb), h.resolve_left (fun hn => hn hb)]
    exact hans
  · rw [if_pos hb]
    exact hans

theorem runs_handoffStepEnd {h : Handoff} (hh : s.chip.fw.handoff = some h) (hstep : h.step = 1 ∨ h.step = 2 ∨
    (h.step = 3 ∧ s.chip.executingBut h.req = false ∧ s.chip.logFull = false)) :
    Runs .handoffStepEnd s (fun c => c.fw.handoff = some { h with step := h.step + 1, since := s.chip.clk.now }) := by
  have hexec : exec .handoffStepEnd s = execHandoffStepEnd s := rfl
  refine runs_of_run hexec ?_
  rw [hh]
  obtain h1 | h2 | ⟨h3, hexe, hl⟩ := hstep
  · simp only [h1]
    rfl
  · simp only [h2]
    rfl
  · simp only [h3, hexe, hl]
    rfl

theorem runs_handoffSwitch {h : Handoff} (hh : s.chip.fw.handoff = some h) (h4 : h.step = 4) (hl : s.chip.logFull = false) :
    Runs .handoffStepEnd s (fun c => c.fw.handoff = some { h with step := 5, since := s.chip.clk.now } ∧
      c.fw.pairB = !s.chip.fw.pairB ∧ c.fw.fwDigest = h.digest ∧ c.fw.fwVersion = h.version ∧
      c.fw.meas[1]! = sha384 (digestBytes s.chip.fw.meas[1]! ++ digestBytes h.digest) ∧
      c.fw.log.getLast?.map (fun x => (x.kind, x.meas, x.digest)) = some (2, 1, h.digest)) := by
  have hexec : exec .handoffStepEnd s = execHandoffStepEnd s := rfl
  have hclk : ∀ c : Chip, (c.measure 1 2 c.sei.time h.version h.digest).clk = c.clk := fun c => by
    have hf : Fr (keeping [.clk] []) c (c.measure 1 2 c.sei.time h.version h.digest) := by apply Chip.measure_fr (Fr.refl _ c) <;> simp
    exact hf.kept.clk (by simp)
  refine runs_of_run_eq (d := s.chip.handoffSwitch h) hexec ?_ ?_
  · rw [hh]
    simp only [h4]
  · rw [Chip.handoffSwitch, if_neg (by rw [hl]; exact Bool.false_ne_true)]
    dsimp only
    rw [hsReturns_fw]
    simp only [Chip.handoffTo, Chip.updFw, measure_fw hl, hclk, measNext_self _ (show 1 < 8 by decide)]
    simp

theorem handoffAbort_fw (c : Chip) (h : Handoff) (r : Nat) : (c.handoffAbort h r).fw = { c.fw with handoff := none } := by
  rw [Chip.handoffAbort, answerOpt_fw, postFault_fw]
  rfl

theorem handoffAbort_answered {c : Chip} {h : Handoff} (hq : h.req = some q) (he : c.entry? q = some e) (hst : e.st ≠ .done)
    (hrel : (c.doors[q.door]).releasing = none) (r : Nat) : Answered (c.handoffAbort h r) q e r [] := by
  have hf : Fr (keeping [.reqs] []) c ((unhanded c).postFault .handoff ((unhanded c).ev 0x0903 0 0 [h.step, r])) := by
    apply Chip.postFault_fr (unhanded_fr c (by simp)) <;> simp
  rw [Chip.handoffAbort, hq, Chip.answerOpt]
  exact answer_of_entry he hst hrel hf (by simp) r [] 0

/-- The result a step that ended early answers with (R99, R100). -/
theorem stepEnd_due {r : StepEnd} {t n : Nat} (h : r = .failed ∨ t ≤ n) : (!(r == .failed || decide (t ≤ n))) = false := by
  rcases h with rfl | h
  · simp
  · simp [h]

theorem runs_handoffAborted {h : Handoff} {r : StepEnd} (hh : s.chip.fw.handoff = some h) (hstep : h.step < 4) (hq : h.req = some q)
    (he : s.chip.entry? q = some e) (hst : e.st ≠ .done) (hrel : (s.chip.doors[q.door]).releasing = none)
    (hdue : r = .failed ∨ h.since + handoffBound h.step ≤ s.chip.clk.now) :
    Runs (.handoffStepTimeout r) s (fun c => c.fw.handoff = none ∧ c.fw.pairB = s.chip.fw.pairB ∧
      Answered c q e (if r = .failed then rBAD_ARG else rTIMEOUT) []) := by
  have hexec : exec (.handoffStepTimeout r) s = execHandoffStepTimeout r s := rfl
  have hans := handoffAbort_answered hq he hst hrel (if r = .failed then rBAD_ARG else rTIMEOUT)
  have hne4 : h.step ≠ 4 := by omega
  have hne5 : h.step ≠ 5 := by omega
  refine runs_of_run hexec ?_
  rw [hh]
  simp only [stepEnd_due hdue, hne4, hne5, decide_false, Bool.or_self, Bool.false_eq_true, if_false]
  split
  · rw [hsReturns_fw, handoffAbort_fw]
    exact ⟨rfl, rfl, (hsReturns_ansKept _).answered hans⟩
  · rw [handoffAbort_fw]
    exact ⟨rfl, rfl, hans⟩

theorem runs_handoffReverted {h : Handoff} {r : StepEnd} (hh : s.chip.fw.handoff = some h) (h5 : h.step = 5)
    (hdue : r = .failed ∨ h.since + handoffBound 5 ≤ s.chip.clk.now) :
    Runs (.handoffStepTimeout r) s (fun c => c.fw.handoff = none ∧ c.fw.pairB = !s.chip.fw.pairB ∧
      c.fw.fwDigest = h.oldDigest ∧ c.fw.fwVersion = h.oldVersion) := by
  have hexec : exec (.handoffStepTimeout r) s = execHandoffStepTimeout r s := rfl
  refine runs_of_run hexec ?_
  rw [hh]
  simp only [h5, stepEnd_due hdue, show (5 = 4) = False by decide, decide_false, Bool.or_self, Bool.false_eq_true, if_false, if_true]
  unfold Chip.handoffRevert
  extract_lets a b
  rw [hsReturns_fw, answerOpt_fw, postFault_fw]
  obtain ⟨hhand, hpair, hdig, hver⟩ := measure_pair (s.chip.updFw (fun f =>
    { f with handoff := none, pairB := !f.pairB, fwDigest := h.oldDigest, fwVersion := h.oldVersion })) 1 3 s.chip.sei.time h.oldVersion
    h.oldDigest
  exact ⟨hhand, hpair, hdig, hver⟩

/-! ### The boot bank (R81, R102) -/

/-- BOOT_OVR's word for a bank. -/
def bootWord (bank : Nat) (once : Bool) : Word :=
  fset (fset (fset 0#32 F.BOOT_OVR_BANK bank) F.BOOT_OVR_ONCE (bitOf once)) F.BOOT_OVR_VALID 1

theorem bootWord_fields {bank : Nat} (h : bank ≤ 1) (once : Bool) : fget (bootWord bank once) F.BOOT_OVR_BANK = bank ∧
    fget (bootWord bank once) F.BOOT_OVR_VALID = 1 ∧ fget (bootWord bank once) F.BOOT_OVR_ONCE = bitOf once := by
  obtain rfl | rfl : bank = 0 ∨ bank = 1 := by omega
  all_goals cases once <;> decide

theorem bootOvr_eq {c : Chip} (h : c.fab.aonq.length < 8) (bank : Nat) (once : Bool) :
    c.bootOvr bank once = c.updFab (fun f => { f with aonq := f.aonq ++ [(.BOOT_OVR, bootWord bank once, Reg.rwMask .BOOT_OVR)] }) := by
  have hn : ¬ 8 ≤ c.fab.aonq.length := by omega
  rw [Chip.bootOvr, Chip.aonWrite, if_neg hn]
  rfl

theorem runs_bootSet {b o : Bool} (hs : Startable s.chip q 0x0940#16 [0, 2] e) (hroom : s.chip.fab.aonq.length < 8) :
    Runs (.bootSet q b o) s (fun c => Answered c q e rOK [] ∧
      ∃ v, c.fab.aonq = s.chip.fab.aonq ++ [(.BOOT_OVR, v, Reg.rwMask .BOOT_OVR)] ∧ fget v F.BOOT_OVR_BANK = bitOf b ∧
        fget v F.BOOT_OVR_VALID = 1 ∧ fget v F.BOOT_OVR_ONCE = bitOf o) := by
  have hexec : exec (.bootSet q b o) s = execBootSet q b o s := rfl
  have hfab : (Taken s.chip q).fab = s.chip.fab := taken_fab _ _
  have hq : Fr (keeping [.reqs] []) (Taken s.chip q) ((Taken s.chip q).updFab (fun f =>
      { f with aonq := f.aonq ++ [(.BOOT_OVR, bootWord (bitOf b) o, Reg.rwMask .BOOT_OVR)] })) := by
    apply Chip.updFab_fr (Fr.refl _ _); simp
  have hkeep := fr_answer (ps := [.fab]) (rs := []) ((Taken s.chip q).updFab (fun f =>
      { f with aonq := f.aonq ++ [(.BOOT_OVR, bootWord (bitOf b) o, Reg.rwMask .BOOT_OVR)] })) q rOK [] 0 (by simp)
  refine runs_served hs hexec ?_
  rw [bootOvr_eq (by rw [hfab]; exact hroom)]
  refine ⟨startable_answered hs hq (by simp) _ _ _, bootWord (bitOf b) o, ?_, bootWord_fields (by cases b <;> decide) o⟩
  rw [hkeep.kept.fab (by simp), ← hfab]
  rfl

/-- The chip when the first run's check let the new firmware stay (R100). -/
def firstRunKept (c : Chip) (h : Handoff) : Chip :=
  let c := unhanded c
  let c := c.post (c.ev 0x0902 0 0 (h.version.toNat :: ((digestBytes h.digest).take 3).map (·.toNat)))
  c.setSt .BOOT_STATUS F.BOOT_STATUS_BANK h.bank

theorem firstRunKept_fr (c : Chip) (h : Handoff) : Fr (keeping [.fab] []) c (firstRunKept c h) := by
  apply Chip.setSt_fr (Chip.post_fr (unhanded_fr c (by simp)) _) <;> simp

theorem runs_firstRunCheckEnd {h : Handoff} (hcanon : Canon s.chip) (hh : s.chip.fw.handoff = some h) (h5 : h.step = 5) (hbank : h.bank ≤ 1)
    (hroom : s.chip.fab.aonq.length < 8) :
    Runs .firstRunCheckEnd s (fun c => c.fw.handoff = none ∧ c.get .BOOT_STATUS F.BOOT_STATUS_BANK = h.bank ∧
      ∃ v, c.fab.aonq = s.chip.fab.aonq ++ [(.BOOT_OVR, v, Reg.rwMask .BOOT_OVR)] ∧ fget v F.BOOT_OVR_BANK = h.bank ∧
        fget v F.BOOT_OVR_VALID = 1 ∧ fget v F.BOOT_OVR_ONCE = 0) := by
  have hexec : exec .firstRunCheckEnd s = execFirstRunCheckEnd s := rfl
  have hfab : (firstRunKept s.chip h).fab = s.chip.fab := (firstRunKept_fr _ _).kept.fab (by simp)
  have hkeep : ∀ d : Chip, Fr (keeping [.fab, .fw] [.BOOT_STATUS]) d (d.answerOpt h.req rOK) := fun d => by
    apply Chip.answerOpt_fr (Fr.refl _ d) <;> simp
  have hpost : ∀ ev, Canon ((unhanded s.chip).post ev) := fun ev =>
    (fr_post (ps := []) (rs := []) _ _ (by simp)).canon ((unhanded_fr (ps := []) s.chip (by simp)).canon hcanon)
  have hbank' : (firstRunKept s.chip h).get .BOOT_STATUS F.BOOT_STATUS_BANK = h.bank := by
    rw [firstRunKept, get_setSt_same _ (hpost _) _ _ _ (by decide) (by decide)]
    exact Nat.lt_of_le_of_lt hbank (by decide)
  refine runs_of_run_eq (d := ((firstRunKept s.chip h).updFab (fun f =>
    { f with aonq := f.aonq ++ [(.BOOT_OVR, bootWord h.bank false, Reg.rwMask .BOOT_OVR)] })).answerOpt h.req rOK) hexec ?_ ⟨?_, ?_, ?_⟩
  · rw [hh]
    simp only [h5, ne_eq, not_true_eq_false, if_false]
    rw [← bootOvr_eq (by rw [hfab]; exact hroom)]
    rfl
  · rw [answerOpt_fw]
    have hfw : (firstRunKept s.chip h).fw = { s.chip.fw with handoff := none } := by
      have hf : Fr (keeping [.fw] []) (unhanded s.chip) (firstRunKept s.chip h) := by
        apply Chip.setSt_fr (Chip.post_fr (Fr.refl _ _) _) <;> simp
      exact hf.kept.fw (by simp)
    exact (congrArg Fw.handoff hfw :)
  · rw [Chip.get, (hkeep _).kept.regs .BOOT_STATUS (by simp)]
    exact hbank'
  · refine ⟨bootWord h.bank false, ?_, bootWord_fields hbank false⟩
    rw [(hkeep _).kept.fab (by simp), ← hfab]
    rfl

/-! ### Microcode rolls (R101) -/

theorem logPut_roll (c : Chip) (kind meas detail : Nat) (time version : BitVec 64) (d : BitVec 384) :
    (c.logPut kind meas detail time version d).fw.roll = c.fw.roll := by
  cases h : c.logFull
  · rw [logPut_fw h]
  · rw [Chip.logPut, if_pos h]

/-- What starting a roll keeps of the firmware's state: the measurements, and the roll's bank, digest and version. -/
def RollKept (c d : Chip) : Prop :=
  d.fw.meas = c.fw.meas ∧ d.fw.roll.map (fun r => (r.bank, r.digest, r.version)) = c.fw.roll.map (fun r => (r.bank, r.digest, r.version))

theorem rollStall_rollKept (c : Chip) (b : Basin) : RollKept c (c.rollStall b) := by
  unfold Chip.rollStall
  split
  · exact ⟨rfl, rfl⟩
  · next r hr =>
    rw [RollKept, postFault_fw]
    exact ⟨rfl, by rw [hr]; rfl⟩

theorem rollStart_rollKept (c : Chip) : RollKept c c.rollStart := by
  have hone : ∀ (c : Chip) (b : Basin), RollKept c (let wait : Bool := c.fw.roll.any (fun r => !(r.basins[b]).complete)
      if wait && (c.spares b.val).isEmpty && !(c.basins[b]).inReset then c.rollStall b else c) := fun c b => by
    extract_lets
    split
    · exact rollStall_rollKept c b
    · exact ⟨rfl, rfl⟩
  have hall : ∀ (l : List Basin) (c : Chip), RollKept c (c.each l (fun c b =>
      let wait : Bool := c.fw.roll.any (fun r => !(r.basins[b]).complete)
      if wait && (c.spares b.val).isEmpty && !(c.basins[b]).inReset then c.rollStall b else c)) := by
    intro l
    induction l with
    | nil => exact fun c => ⟨rfl, rfl⟩
    | cons b l ih => exact fun c => ⟨(ih _).1.trans (hone c b).1, (ih _).2.trans (hone c b).2⟩
  exact hall _ c

/-- The chip with the component measured and the roll begun (R101). -/
def rollBegun (c : Chip) (b : Nat) (x : CompEnt) : Chip :=
  let code := c.compBytes b x
  let d := sha384 code
  let c := c.measure 2 4 c.sei.time x.version d
  (c.updFw (fun f => { f with roll := some (rollOf b d x.version), staging := ⟨code, x.version, x.format, d⟩ })).rollStart

theorem rollBegun_fr (c : Chip) (b : Nat) (x : CompEnt) : Fr (keeping [.reqs] []) c (rollBegun c b x) := by
  have hm : Fr (keeping [.reqs] []) c (c.measure 2 4 c.sei.time x.version (sha384 (c.compBytes b x))) := by
    apply Chip.measure_fr (Fr.refl _ c) <;> simp
  refine Chip.rollStart_fr (Chip.updFw_fr hm (by simp) (fun _ => rfl)) ?_ ?_ ?_ ?_ ?_ <;> simp

theorem rollBegun_fw {c : Chip} (hl : c.logFull = false) (b : Nat) (x : CompEnt) :
    (rollBegun c b x).fw.roll.map (fun r => (r.bank, r.digest, r.version)) = some (b, sha384 (c.compBytes b x), x.version) ∧
    (rollBegun c b x).fw.meas[2]! = sha384 (digestBytes c.fw.meas[2]! ++ digestBytes (sha384 (c.compBytes b x))) := by
  obtain ⟨hmeas, hroll⟩ := rollStart_rollKept ((c.measure 2 4 c.sei.time x.version (sha384 (c.compBytes b x))).updFw (fun f =>
    { f with roll := some (rollOf b (sha384 (c.compBytes b x)) x.version)
             staging := ⟨c.compBytes b x, x.version, x.format, sha384 (c.compBytes b x)⟩ }))
  refine ⟨hroll, ?_⟩
  rw [← measNext_self _ (show 2 < 8 by decide)]
  refine congrArg (·[2]!) (hmeas.trans ?_)
  show (c.measure 2 4 c.sei.time x.version (sha384 (c.compBytes b x))).fw.meas = _
  rw [measure_fw hl]

theorem runs_ucodeRoll {x : CompEnt} {b : Nat} (hs : Startable s.chip q 0x0930#16 [0, 2] e)
    (hb : b = s.chip.get .BOOT_STATUS F.BOOT_STATUS_BANK) (hr : s.chip.fw.roll = none) (hh : s.chip.fw.handoff = none)
    (hx : (s.chip.header b).bind (fun h => h.comp? cpUCODE) = some x) (hf : x.format = s.chip.fw.active.format)
    (hl : s.chip.logFull = false) :
    Runs (.ucodeRoll q b) s (fun c => Answered c q e rOK [] ∧
      c.fw.roll.map (fun r => (r.bank, r.digest, r.version)) = some (b, sha384 (s.chip.compBytes b x), x.version) ∧
      c.fw.meas[2]! = sha384 (digestBytes s.chip.fw.meas[2]! ++ digestBytes (sha384 (s.chip.compBytes b x)))) := by
  have hexec : exec (.ucodeRoll q b) s = execUcodeRoll q b s := rfl
  obtain ⟨hroll, hmeas⟩ := rollBegun_fw ((taken_logFull s.chip q).trans hl) b x
  rw [taken_compBytes, taken_fw] at hmeas
  rw [taken_compBytes] at hroll
  have hbody : Answered ((rollBegun (Taken s.chip q) b x).answer q rOK) q e rOK [] :=
    startable_answered hs (rollBegun_fr _ _ _) (by simp) _ _ _
  refine runs_served hs hexec ?_
  simp only [taken_get s.chip q _ (show Reg.BOOT_STATUS ≠ .PWR_STATUS by decide), ← hb, taken_fw, hr, hh, taken_header, hx, taken_logFull, hl, Option.isSome_none, Bool.false_eq_true, if_false]
  rw [if_neg (fun h => h rfl), if_neg (fun h => h hf)]
  rw [← answer_fw (rollBegun (Taken s.chip q) b x) q rOK [] 0] at hroll hmeas
  exact ⟨hbody, hroll, hmeas⟩

/-- What loading microcode leaves of an engine: its role and its epoch. -/
theorem loadEngines_engine (c : Chip) (l : List Engine) (h : Half) (x : Engine) :
    ((c.loadEngines l h).engines[x]).role = (c.engines[x]).role ∧ ((c.loadEngines l h).engines[x]).epoch = (c.engines[x]).epoch := by
  unfold Chip.loadEngines
  induction l generalizing c with
  | nil => exact ⟨rfl, rfl⟩
  | cons y l ih =>
    obtain ⟨hrole, hepoch⟩ := ih (c.updEng y (fun z => { z with ucode := some h.digest }))
    have hstep : ((c.updEng y (fun z => { z with ucode := some h.digest })).engines[x]).role = (c.engines[x]).role ∧
        ((c.updEng y (fun z => { z with ucode := some h.digest })).engines[x]).epoch = (c.engines[x]).epoch := by
      by_cases hx : x = y
      · subst hx
        rw [updEng_same]
        exact ⟨rfl, rfl⟩
      · rw [updEng_other _ _ hx]
        exact ⟨rfl, rfl⟩
    exact ⟨hrole.trans hstep.1, hepoch.trans hstep.2⟩

/-- Engine `x` made the spare, its epoch raised, and its role given to `sp` (R101). -/
def roleMoved (c : Chip) (x sp : Engine) : Chip :=
  let r := (c.engines[x]).role
  let also := (c.engines[x]).also
  let c := (c.updEng x (fun x => { x with role := .spare, also := [], cache := [] })).bumpEngine x
  (c.giveRole sp r also).loadEngines [sp, x] c.fw.staging

theorem roleMoved_engines (c : Chip) {x sp : Engine} (h : sp ≠ x) :
    ((roleMoved c x sp).engines[sp]).role = (c.engines[x]).role ∧ ((roleMoved c x sp).engines[x]).role = .spare ∧
    ((roleMoved c x sp).engines[x]).epoch = (c.engines[x]).epoch + 1 := by
  unfold roleMoved
  extract_lets r also d
  have hd : (d.engines[x]).role = .spare ∧ (d.engines[x]).epoch = (c.engines[x]).epoch + 1 := by
    rw [(bumpEngine_engines _ _).1, updEng_same, updEng_same]
    exact ⟨rfl, rfl⟩
  have hgive : (d.giveRole sp r also).engines = ((d.updEng sp (fun y => { y with role := r, also := also })).updEng sp
      (fun y => { y with epoch := y.epoch + 1 })).engines := (bumpEngine_engines _ _).1
  obtain ⟨hsp, -⟩ := loadEngines_engine (d.giveRole sp r also) [sp, x] d.fw.staging sp
  obtain ⟨hx, hxe⟩ := loadEngines_engine (d.giveRole sp r also) [sp, x] d.fw.staging x
  refine ⟨hsp.trans ?_, hx.trans ?_, hxe.trans ?_⟩
  · rw [hgive, updEng_same, updEng_same]
  · rw [hgive, updEng_other _ _ h.symm, updEng_other _ _ h.symm]
    exact hd.1
  · rw [hgive, updEng_other _ _ h.symm, updEng_other _ _ h.symm]
    exact hd.2

theorem roleMoved_fw (c : Chip) (x sp : Engine) : (roleMoved c x sp).fw = c.fw := by
  have hf : Fr (keeping [.fw] []) c (roleMoved c x sp) := by
    refine Chip.loadEngines_fr (Chip.giveRole_fr (Chip.bumpEngine_fr (Chip.updEng_fr (Fr.refl _ c) ?_) ?_ ?_) ?_ ?_) ?_ <;> simp
  exact hf.kept.fw (by simp)

/-- The roll goes on in a basin that is neither complete nor at rest (R101). -/
structure RollGoes (c : Chip) (b : Basin) (r : Roll) : Prop where
  roll : c.fw.roll = some r
  open_ : (r.basins[b]).complete = false
  still : (basinEngines b.val).any (fun x => (c.engines[x]).handing.isSome) = false
  inReset : (c.basins[b]).inReset = false
  reload : c.fw.reloadStaging = false
  dozing : c.dozing = false

theorem runs_rollSwapPoint {b : Basin} {r : Roll} {d : Chip} {p : Chip → Prop} (h : RollGoes s.chip b r)
    (hd : (match (s.chip.enginesWith b.val (fun y => y.role != .spare && y.role != .none)).filter
        (fun x => !(r.basins[b]).done.contains x.val), s.chip.spares b.val with
      | [], _ => s.chip.rollBasinDone b (r.basins[b]).rolled
      | _ :: _, [] => if (r.basins[b]).stalled then s.chip else s.chip.rollStall b
      | [e], sp :: _ => (s.chip.rollRole b e sp).rollBasinDone b ((r.basins[b]).rolled + 1)
      | e :: _, sp :: _ => s.chip.rollRole b e sp) = d) (hp : p d) : Runs (.rollSwapPoint b) s p := by
  have hexec : exec (.rollSwapPoint b) s = execRollSwapPoint b s := rfl
  refine runs_of_run_eq (d := d) hexec ?_ hp
  rw [h.roll]
  simp only [h.open_, h.still, h.inReset, h.reload, h.dozing, Bool.or_self, Bool.false_eq_true, if_false]
  exact hd

theorem spare_ne {c : Chip} {b : Nat} {l k : List Engine} {i j sp : Engine} {p : Engine → Bool}
    (hi : (c.enginesWith b (fun y => y.role != .spare && y.role != .none)).filter p = i :: j :: l) (hsp : c.spares b = sp :: k) : sp ≠ i := by
  have hmi : i ∈ (c.enginesWith b (fun y => y.role != .spare && y.role != .none)).filter p := by rw [hi]; simp
  have hms : sp ∈ c.spares b := by rw [hsp]; simp
  rintro rfl
  simp only [Chip.spares, Chip.enginesWith, List.mem_filter, Bool.and_eq_true, beq_iff_eq, bne_iff_ne, ne_eq] at hmi hms
  exact hmi.1.2.2.1 hms.2.2

theorem runs_rollRole {b : Basin} {r : Roll} {i j sp : Engine} {l k : List Engine} (h : RollGoes s.chip b r)
    (htodo : (s.chip.enginesWith b.val (fun y => y.role != .spare && y.role != .none)).filter
      (fun x => !(r.basins[b]).done.contains x.val) = i :: j :: l) (hsp : s.chip.spares b.val = sp :: k) :
    Runs (.rollSwapPoint b) s (fun c => (c.engines[sp]).role = (s.chip.engines[i]).role ∧ (c.engines[i]).role = .spare ∧
      (c.engines[i]).epoch = (s.chip.engines[i]).epoch + 1 ∧ c.fw.ucodeVersion = r.version ∧
      c.fw.roll.map (fun r => ((r.basins[b]).rolled, (r.basins[b]).complete)) = some ((r.basins[b]).rolled + 1, false)) := by
  obtain ⟨hrole, hspare, hepoch⟩ := roleMoved_engines s.chip (spare_ne htodo hsp)
  refine runs_rollSwapPoint (d := s.chip.rollRole b i sp) h (by rw [htodo, hsp]) ⟨hrole, hspare, hepoch, ?_, ?_⟩
  · show ((roleMoved s.chip i sp).fw.roll.map (·.version)).getD _ = _
    rw [roleMoved_fw, h.roll]
    rfl
  · show ((roleMoved s.chip i sp).fw.roll.map _).map _ = _
    rw [roleMoved_fw, h.roll]
    simpa using h.open_

/-- Where a roll has a basin complete, its end leaves no roll that has not. -/
theorem rollEnd_complete {c : Chip} {b : Basin} (h : c.fw.roll.all (fun r => (r.basins[b]).complete) = true) :
    c.rollEnd.fw.roll.all (fun r => (r.basins[b]).complete) = true := by
  have hset : ∀ (c : Chip) r f v, (c.setSt r f v).fw = c.fw := fun c r f v => by
    unfold Chip.setSt
    split <;> rfl
  unfold Chip.rollEnd
  split
  · exact h
  · split
    · dsimp only
      rw [hset]
      rfl
    · exact h

theorem rollBasinDone_complete (c : Chip) (b : Basin) (n : Nat) :
    (c.rollBasinDone b n).fw.roll.all (fun r => (r.basins[b]).complete) = true := by
  unfold Chip.rollBasinDone
  split
  · next h => rw [h]; rfl
  · next r h =>
    extract_lets x a d f
    have ha : a.fw.roll = some { r with basins := r.basins.set b x } := rfl
    have hf : (f.post (f.ev 0x0905 0 b.val [b.val, r.version.toNat])).fw.roll = a.fw.roll := by
      have hd : Fr (keeping [.fw] []) a d := by apply Chip.loadEngines_fr (Fr.refl _ a); simp
      have hpost := fr_post (ps := [.fw]) (rs := []) f (f.ev 0x0905 0 b.val [b.val, r.version.toNat]) (by simp)
      rw [hpost.kept.fw (by simp), ← hd.kept.fw (by simp)]
      exact logPut_roll _ _ _ _ _ _ _
    refine rollEnd_complete ?_
    rw [hf, ha]
    simp [x]

theorem runs_rollBasinDone {b : Basin} {r : Roll} (h : RollGoes s.chip b r)
    (htodo : (s.chip.enginesWith b.val (fun y => y.role != .spare && y.role != .none)).filter
      (fun x => !(r.basins[b]).done.contains x.val) = []) :
    Runs (.rollSwapPoint b) s (fun c => c.fw.roll.all (fun r => (r.basins[b]).complete) = true) := by
  refine runs_rollSwapPoint (d := s.chip.rollBasinDone b (r.basins[b]).rolled) h (by rw [htodo]) ?_
  exact rollBasinDone_complete _ _ _

/-! ### The service tables (R219) -/

/-- Neither waiters nor grants. -/
def NoneWait (c : Chip) : Prop := c.pond.waiters = [] ∧ c.pond.grants = []

theorem take_noneWait {c : Chip} (hw : NoneWait c) (h : Fin 99) (g : Group) (n : Nat) : NoneWait (c.take h g n).2 := by
  obtain ⟨xs, hx⟩ := grantCtxs_pond c h g (lowestFree (n + c.pond.ctxs.length) n 0 c.pond.ctxs)
  refine ⟨?_, (take_grants c h g n).trans hw.2⟩
  unfold Chip.take
  extract_lets cids c' d d'
  obtain ⟨b, hb⟩ := poolEvents_pond d'
  rw [hb]
  show c'.pond.waiters = []
  rw [hx]
  exact hw.1

theorem allocMany_noneWait {h : Fin 99} {g : Group} : ∀ (fuel n : Nat) (got : List Nat) (c : Chip), NoneWait c →
    NoneWait (Chip.allocMany fuel h g n got c).2
  | 0, _, _, _, hw => hw
  | fuel + 1, n, got, c, hw => by
    have halloc : NoneWait (c.alloc h g (min 64 n)).2 := by
      unfold Chip.alloc
      extract_lets v
      split
      · exact take_noneWait hw _ _ _
      · exact hw
    unfold Chip.allocMany
    split
    · exact hw
    · split
      · next heq => exact allocMany_noneWait fuel _ _ _ (heq ▸ halloc :)
      · next heq => exact (heq ▸ halloc :)

theorem each_setBody_noneWait {α : Type} (i : α → Nat) (b : α → Body) : ∀ (l : List α) (c : Chip), NoneWait c →
    NoneWait (c.each l (fun c x => c.setBody (i x) (b x)))
  | [], _, hw => hw
  | _ :: t, _, hw => each_setBody_noneWait i b t _ ⟨hw.1, (setBody_grants _ _ _).trans hw.2⟩

theorem putTables_noneWait {c d : Chip} {bank : Nat} {rules : List MatchRule} {maps : List (Nat × List Byte)}
    (h : c.putTables bank rules maps = .ok d) (hw : NoneWait c) : NoneWait d := by
  unfold Chip.putTables at h
  extract_lets pages at h
  split at h
  · exact absurd h (by simp)
  · next cids c' heq =>
    have hc' : NoneWait c' := (congrArg (fun r => NoneWait r.2) heq : _ = _) ▸ allocMany_noneWait _ _ _ _ hw
    extract_lets old kept c1 c2 at h
    obtain rfl := Except.ok.inj h
    obtain ⟨hwait, hgrants⟩ : NoneWait c1 :=
      each_setBody_noneWait (fun x : Nat × Nat => x.1) (fun x => .page x.2) (cids.zip pages) c' hc'
    obtain ⟨hwait', hgrants'⟩ := each_freeCtx_lists old c2 hwait
    exact ⟨hwait', hgrants'.trans hgrants⟩

theorem applyTables_noneWait {c d : Chip} {bank : Nat} {x : CompEnt} (h : c.applyTables bank = .ok (x, d)) (hw : NoneWait c) :
    NoneWait d := by
  unfold Chip.applyTables at h
  split at h
  · exact absurd h (by simp)
  · split at h
    · exact absurd h (by simp)
    · split at h
      · exact absurd h (by simp)
      · next hput =>
        obtain ⟨-, rfl⟩ := Prod.mk.inj (Except.ok.inj h)
        obtain ⟨hwait, hgrants⟩ := putTables_noneWait hput hw
        exact ⟨hwait, hgrants⟩

theorem applyTables_fw {c d : Chip} {bank : Nat} {x : CompEnt} (h : c.applyTables bank = .ok (x, d)) :
    d.fw = { c.fw with tablesVersion := x.version } := by
  unfold Chip.applyTables at h
  split at h
  · exact absurd h (by simp)
  · split at h
    · exact absurd h (by simp)
    · split at h
      · exact absurd h (by simp)
      · next c' hput =>
        have hf : Fr (keeping [.fw] []) c c' := by apply Chip.putTables_fr hput (Fr.refl _ c) <;> simp
        obtain ⟨rfl, rfl⟩ := Prod.mk.inj (Except.ok.inj h)
        show Fw.mk .. = _
        rw [← hf.kept.fw (by simp)]

/-- The tables measured after they are in place (R88). -/
def tablesMeasured (c : Chip) (b : Nat) (x : CompEnt) : Chip :=
  c.measure 4 9 c.sei.time x.version (sha384 (c.compBytes b x))

theorem tablesMeasured_fr (c : Chip) (b : Nat) (x : CompEnt) : Fr (keeping [.reqs, .pond, .svc] []) c (tablesMeasured c b x) := by
  apply Chip.measure_fr (Fr.refl _ c) <;> simp

theorem tablesMeasured_fw {c d : Chip} {b : Nat} {x : CompEnt} (hl : c.logFull = false) (h : c.applyTables b = .ok (x, d)) :
    (tablesMeasured d b x).fw.tablesVersion = x.version ∧
    (tablesMeasured d b x).fw.meas[4]! = sha384 (digestBytes c.fw.meas[4]! ++ digestBytes (sha384 (c.compBytes b x))) := by
  have hfw := applyTables_fw h
  have hfull : d.logFull = false := by rw [Chip.logFull, hfw]; exact hl
  have hbytes : d.compBytes b x = c.compBytes b x := by simp only [Chip.compBytes, Chip.flashBytes, hfw]
  rw [tablesMeasured, measure_fw hfull, hbytes]
  refine ⟨by rw [hfw], ?_⟩
  dsimp only
  rw [measNext_self _ (by decide), hfw]

/-- What TABLES_APPLY does where it is taken. -/
def tablesBody (q : ReqId) (bank : Nat) (c : Chip) : Chip :=
  if 1 < bank then c.answer q rBAD_ARG
  else if c.logFull then c.answer q rLOCKED
  else match c.applyTables bank with
    | .error v => c.answer q v
    | .ok (x, c) => (tablesMeasured c bank x).answer q rOK

theorem tablesBody_eq {c d : Chip} {b : Nat} {x : CompEnt} (hb : b ≤ 1) (hl : c.logFull = false) (h : c.applyTables b = .ok (x, d)) :
    tablesBody q b c = (tablesMeasured d b x).answer q rOK := by
  rw [tablesBody, if_neg (Nat.not_lt.2 hb), hl, if_neg Bool.false_ne_true, h]

theorem execTablesApply_body (s : State) (q : ReqId) (b : Nat) : execTablesApply q b s =
    s.runS (fun c => if c.pond.rebuild then c else c.serve q 0x0950#16 [0] (fun _ => tablesBody q b)) := by
  unfold execTablesApply tablesBody tablesMeasured
  rfl

theorem execTablesApply_eq {b : Nat} {x : CompEnt} {d : Chip} (hs : Startable s.chip q 0x0950#16 [0] e)
    (hr : s.chip.pond.rebuild = false) (hb : b ≤ 1) (hl : s.chip.logFull = false) (h : (Taken s.chip q).applyTables b = .ok (x, d)) :
    execTablesApply q b s = s.runS (fun _ => (tablesMeasured d b x).answer q rOK) := by
  have hbody : tablesBody q b (Taken s.chip q) = (tablesMeasured d b x).answer q rOK := tablesBody_eq hb ((taken_logFull s.chip q).trans hl) h
  have hserve : s.chip.serve q 0x0950#16 [0] (fun _ => tablesBody q b) = tablesBody q b (Taken s.chip q) := serve_start hs _
  rw [execTablesApply_body]
  refine runS_congr ?_
  rw [hr, if_neg Bool.false_ne_true, hserve, hbody]

theorem runs_tablesApply {b : Nat} {x : CompEnt} {c₁ : Chip} (hs : Startable s.chip q 0x0950#16 [0] e) (hg : s.chip.pond.grants = [])
    (hw : s.chip.pond.waiters = []) (hr : s.chip.pond.rebuild = false) (hb : b ≤ 1) (hl : s.chip.logFull = false)
    (h : (Taken s.chip q).applyTables b = .ok (x, c₁)) :
    Runs (.tablesApply q b) s (fun c => Answered c q e rOK [] ∧ c.svc.rules = c₁.svc.rules ∧ c.svc.keymaps = c₁.svc.keymaps ∧
      c.fw.tablesVersion = x.version ∧
      c.fw.meas[4]! = sha384 (digestBytes s.chip.fw.meas[4]! ++ digestBytes (sha384 (s.chip.compBytes b x)))) := by
  have hexec : exec (.tablesApply q b) s = execTablesApply q b s := rfl
  obtain ⟨hver, hmeas⟩ := tablesMeasured_fw ((taken_logFull s.chip q).trans hl) h
  rw [taken_fw, taken_compBytes] at hmeas
  have hnone : NoneWait c₁ := applyTables_noneWait h (by simpa [NoneWait] using ⟨hw, hg⟩)
  have hm := tablesMeasured_fr c₁ b x
  have hreqs : Fr (keeping [.reqs] []) (Taken s.chip q) (tablesMeasured c₁ b x) := by
    refine Chip.measure_fr ?_ ?_ ?_ ?_
    · apply Chip.applyTables_fr h (Fr.refl _ _) <;> simp
    all_goals simp
  have hans := fr_answer (ps := [.svc, .fw]) (rs := []) (tablesMeasured c₁ b x) q rOK [] 0 (by simp)
  have hsvc : ((tablesMeasured c₁ b x).answer q rOK).svc = c₁.svc := (hans.kept.svc (by simp)).trans (hm.kept.svc (by simp))
  have hfw : ((tablesMeasured c₁ b x).answer q rOK).fw = (tablesMeasured c₁ b x).fw := hans.kept.fw (by simp)
  refine runs_of_runS (hexec.trans (execTablesApply_eq hs hr hb hl h)) ?_ ⟨startable_answered hs hreqs (by simp) _ _ _, ?_, ?_, ?_, ?_⟩
  · rw [pond_of_answer_fr (answer_fr _ q rOK [] 0), hm.kept.pond (by simp)]
    exact hnone.2
  · rw [hsvc]
  · rw [hsvc]
  · rw [hfw, hver]
  · rw [hfw, hmeas]

theorem runs_microcodeReloadDone {f : Fw} (h : (if s.chip.fw.reloadActive then { s.chip.fw with reloadActive := false }
    else { s.chip.fw with reloadStaging := false }) = f) : Runs .microcodeReloadDone s (fun c => c.fw = f) := by
  have hexec : exec .microcodeReloadDone s = execMicrocodeReloadDone s := rfl
  exact runs_of_run hexec h

end

/-- Settles O38: handoffs by the functions that end them (`hsReturns_ansKept` keeps the answer), rolls by `RollGoes`, the tables by the
chip that `applyTables` leaves. -/
theorem firmwareSwaps : Obligations.FirmwareSwaps := by
  unfold Obligations.FirmwareSwaps
  intro s hcanon
  refine ⟨?_, ?_, ?_, ?_, ?_, ?_, ?_, ?_, ?_, ?_, ?_, ?_, ?_, ?_⟩
  · exact fun q e b x hs hh hr hb hx hl => runs_handoff hs hh hr hb hx hl
  · exact fun q e b hs h => runs_handoff_refused hs h
  · exact fun h hh hstep => runs_handoffStepEnd hh hstep
  · exact fun h hh h4 hl => runs_handoffSwitch hh h4 hl
  · exact fun h q e r hh hstep hq he hst hrel hdue => runs_handoffAborted hh hstep hq he hst hrel hdue
  · exact fun h r hh h5 hdue => runs_handoffReverted hh h5 hdue
  · exact fun h hh h5 hbank hroom => runs_firstRunCheckEnd hcanon hh h5 hbank hroom
  · exact fun q e x b hs hb hr hh hx hf hl => runs_ucodeRoll hs hb hr hh hx hf hl
  · exact fun b r i j l sp k hr ho hm hres hrel hdoze htodo hsp => runs_rollRole ⟨hr, ho, hm, hres, hrel, hdoze⟩ htodo hsp
  · exact fun b r hr ho hm hres hrel hdoze htodo => runs_rollBasinDone ⟨hr, ho, hm, hres, hrel, hdoze⟩ htodo
  · exact fun h => runs_microcodeReloadDone (by rw [if_pos h])
  · exact fun h => runs_microcodeReloadDone (by rw [if_neg (by rw [h]; exact Bool.false_ne_true)])
  · exact fun q e b o hs hroom => runs_bootSet hs hroom
  · exact fun q e b x c₁ hs hg hw hr hb hl h => runs_tablesApply hs hg hw hr hb hl h

end Sys2Proof.Proofs

namespace Sys2Proof.Proofs

open Sys2Proof.Machine Sys2Proof.Laws

/-! SUPPORT. Requests under way, and what ending a binding leaves. -/

/-! ### Frames in a row -/

theorem kept_trans {f : Frame} {a b c : Chip} (h : Kept f a b) (k : Kept f b c) : Kept f a c where
  regs r n := (k.regs r n).trans (h.regs r n)
  reqs n d := ⟨(k.reqs n d).1.trans (h.reqs n d).1, (k.reqs n d).2.1.trans (h.reqs n d).2.1, (k.reqs n d).2.2.trans (h.reqs n d).2.2⟩
  clk n := (k.clk n).trans (h.clk n)
  fl n := (k.fl n).trans (h.fl n)
  fw n := (k.fw n).trans (h.fw n)
  flash n := (k.flash n).trans (h.flash n)
  trunk n := (k.trunk n).trans (h.trunk n)
  doors n := (k.doors n).trans (h.doors n)
  cullet n := (k.cullet n).trans (h.cullet n)
  culletLost n := (k.culletLost n).trans (h.culletLost n)
  nextOrd n := (k.nextOrd n).trans (h.nextOrd n)
  rates n := (k.rates n).trans (h.rates n)
  svcPort n := (k.svcPort n).trans (h.svcPort n)
  pond n := (k.pond n).trans (h.pond n)
  engines n := (k.engines n).trans (h.engines n)
  basins n := (k.basins n).trans (h.basins n)
  ports n := (k.ports n).trans (h.ports n)
  chans n := (k.chans n).trans (h.chans n)
  rails n := (k.rails n).trans (h.rails n)
  sei n := (k.sei n).trans (h.sei n)
  svc n := (k.svc n).trans (h.svc n)
  pwr n := (k.pwr n).trans (h.pwr n)
  bead n := (k.bead n).trans (h.bead n)
  blocks n := (k.blocks n).trans (h.blocks n)
  locked n := (k.locked n).trans (h.locked n)
  fab n := (k.fab n).trans (h.fab n)
  ladders n := (k.ladders n).trans (h.ladders n)
  freeCtr n := (k.freeCtr n).trans (h.freeCtr n)

theorem fr_trans {f : Frame} {a b c : Chip} (h : Fr f a b) (k : Fr f b c) : Fr f a c := ⟨kept_trans h.kept k.kept, fun x => k.canon (h.canon x)⟩

/-! ### Requests under way -/

/-- The request of ring entry `q` executes, and its door is not being released. -/
structure Executes (c : Chip) (q : ReqId) (e : ReqEntry) : Prop where
  entry : ∃ x, c.entry? q = some x ∧ x.st ≠ .done ∧ x.req = e.req
  held : (c.doors[q.door]).releasing = none

section
variable {c d : Chip} {q : ReqId} {e : ReqEntry}

theorem Executes.of_fr {f : Frame} (h : Executes c q e) (hf : Fr f c d) (hq : Part.reqs ∉ f.parts) : Executes d q e := by
  obtain ⟨hkept, -, hrel⟩ := hf.kept.reqs hq q.door
  obtain ⟨x, hx, hst, hreq⟩ := h.entry
  exact ⟨⟨x, by rw [← hx, Chip.entry?, Chip.entry?, hkept], hst, hreq⟩, hrel.trans h.held⟩

theorem executes_taken {op : BitVec 16} {kinds : List Nat} (h : Startable c q op kinds e) : Executes (Taken c q) q e := by
  have hact : Fr (keeping [.reqs] []) (c.setReqSt q .executing) (Taken c q) := by
    apply Chip.active_fr (Fr.refl _ _) <;> simp
  exact Executes.of_fr ⟨⟨_, entry_setReqSt c q .executing e (ready_entry h.ready).1, by simp, rfl⟩,
    (setReqSt_releasing ..).trans h.held⟩ hact (by simp)

theorem Executes.answered (h : Executes c q e) (result : Nat) (data : List Nat) (n : Nat) :
    Answered (c.answer q result data n) q e result data := by
  obtain ⟨x, hx, hst, hreq⟩ := h.entry
  exact answer_answered hx hst h.held result data n e hreq

/-- The answer of a request under way changes its door alone. -/
theorem Executes.answer_fr (h : Executes c q e) (result : Nat) (data : List Nat) (n : Nat) :
    Fr (keeping [.trunk, .rates] []) c (c.answer q result data n) := by
  obtain ⟨x, hx, hst, -⟩ := h.entry
  have hans : c.answer q result data n = c.answerEntry q x result data n := by
    unfold Chip.answer
    rw [hx]
    simp only [h.held, Option.isSome_none, Bool.false_and, Bool.false_eq_true, if_false, if_neg hst]
  rw [hans]
  apply Chip.answerEntry_fr (Fr.refl _ c) <;> simp

end

/-- A request on a drop's port runs its opcode's body (R205). -/
theorem serveSvc_start {c : Chip} {q : ReqId} {op : BitVec 16} {n : Port} {e : ReqEntry} (h : ForPort c q op n e) (hd : c.isDrop n = true)
    (body : Port → Chip → Chip) : c.serveSvc q op body = body n (Taken c q) := by
  have hport : Fin.ofNat 96 e.req.tgtIndex = n := by rw [h.port]; exact finOf_val n
  have hdrop : (Taken c q).isDrop n = true := by
    rw [← hd, Chip.isDrop, Chip.isDrop, (taken_fr c q).kept.ports (by decide)]
  have hbody : c.serveSvc q op body = (if (Taken c q).isDrop (Fin.ofNat 96 e.req.tgtIndex) then
      body (Fin.ofNat 96 e.req.tgtIndex) (Taken c q) else (Taken c q).answer q rBAD_ARG) := serve_start h.can _
  rw [hbody, hport, hdrop, if_pos rfl]

/-! ### The pool -/

/-- The pool keeps who waits, what is granted, and of each context all but its body. -/
structure PoolKept (c d : Chip) : Prop where
  waiters : d.pond.waiters = c.pond.waiters
  grants : d.pond.grants = c.pond.grants
  typ : ∀ i, (d.ctx i).typ = (c.ctx i).typ
  holder : ∀ i, (d.ctx i).holder = (c.ctx i).holder
  poisoned : ∀ i, (d.ctx i).poisoned = (c.ctx i).poisoned

section
variable {a b c d : Chip}

theorem PoolKept.refl (c : Chip) : PoolKept c c := ⟨rfl, rfl, fun _ => rfl, fun _ => rfl, fun _ => rfl⟩

theorem PoolKept.trans (h : PoolKept a b) (k : PoolKept b c) : PoolKept a c :=
  ⟨k.waiters.trans h.waiters, k.grants.trans h.grants, fun i => (k.typ i).trans (h.typ i), fun i => (k.holder i).trans (h.holder i),
    fun i => (k.poisoned i).trans (h.poisoned i)⟩

theorem PoolKept.of_pond (h : d.pond = c.pond) : PoolKept c d := by
  have hctx : ∀ i, d.ctx i = c.ctx i := fun i => ctx_of_ctxs (by rw [h]) i
  exact ⟨by rw [h], by rw [h], fun i => by rw [hctx], fun i => by rw [hctx], fun i => by rw [hctx]⟩

theorem PoolKept.of_fr (h : Fr (keeping [.pond] []) c d) : PoolKept c d := .of_pond (h.kept.pond (by simp))

/-- A step that leaves the Pond goes before the rest. -/
theorem PoolKept.after (h : b.pond = c.pond) (k : PoolKept b d) : PoolKept c d := (PoolKept.of_pond h).trans k

theorem PoolKept.each {α : Type} {g : Chip → α → Chip} (hg : ∀ c x, PoolKept c (g c x)) : ∀ (l : List α) (c : Chip), PoolKept c (c.each l g)
  | [], c => .refl c
  | x :: t, c => (hg c x).trans (PoolKept.each hg t _)

theorem PoolKept.noneWait (h : PoolKept c d) (hw : NoneWait c) : NoneWait d := ⟨h.waiters.trans hw.1, h.grants.trans hw.2⟩

theorem setBody_poolKept (c : Chip) (i : Nat) (x : Body) : PoolKept c (c.setBody i x) := by
  have hctx : ∀ k, (c.setBody i x).ctx k = { c.ctx k with body := ((c.setBody i x).ctx k).body } := fun k => by
    by_cases hk : k = i
    · subst hk
      rw [setBody_ctx]
    · rw [setBody_ctx_other c x hk]
  exact ⟨rfl, rfl, fun k => by rw [hctx], fun k => by rw [hctx], fun k => by rw [hctx]⟩

theorem touchBy_poolKept (c : Chip) (r : Role) (i : Nat) (x : Bool) : PoolKept c (c.touchBy r i x) := .of_fr (by
  apply Chip.touchBy_fr (Fr.refl _ c); simp)

theorem updEps_poolKept (c : Chip) (n : Port) (i : Nat) (p : EpBody → Bool) (f : EpBody → EpBody) : PoolKept c (c.updEps n i p f) :=
  PoolKept.each (fun c _ => (setBody_poolKept c _ _).trans (touchBy_poolKept _ _ _ _)) _ c

theorem updSvcBody_poolKept (c : Chip) (b : Bind) (f : SvcBody → SvcBody) : PoolKept c (c.updSvcBody b f) := by
  have htouch : ∀ d : Chip, PoolKept d (d.touchPool b.port b.cid true) := fun d => .of_fr (by
    apply Chip.touchPool_fr (Fr.refl _ d); simp)
  exact (setBody_poolKept c b.cid _).trans (htouch _)

theorem abortJob_poolKept (c : Chip) (b : Bind) : PoolKept c (c.abortJob b) := by
  have hput : ∀ (c : Chip) (s : Strm) (h : RecHdr) (l : List Byte), PoolKept c (printerPut c b s h l) := fun c s h l => by
    have hrec : PoolKept c (c.putRec s (parisonSrc b.port b.route) h l).2 := .of_fr (by apply Chip.putRec_fr2 (Fr.refl _ c) <;> simp)
    unfold printerPut
    dsimp only
    split
    · exact hrec.trans (updSvcBody_poolKept _ _ _)
    · exact hrec
  have hprinter : ∀ (c : Chip) k l, PoolKept c (c.printerRec b k l) := fun c k l => by
    unfold Chip.printerRec
    split
    · exact .refl c
    · exact hput c _ _ _
  unfold Chip.abortJob
  split
  · dsimp only
    split
    · exact hprinter c 4 []
    · exact (hprinter c 4 []).trans (.of_pond rfl)
  · exact .refl c

end

/-! ### A binding ended without a request (R218) -/

/-- The binding's requests dropped, its context freed and its entry removed. -/
def bindDropped (c : Chip) (b : Bind) : Chip :=
  ((c.dropCtls b).freeCtx b.cid).updSvc (fun v => { v with binds := v.binds.filter (fun x => !Bind.is b.port b.route b.iface x) })

section
variable {a c : Chip} {b : Bind}

theorem bindDropped_fr {ps : List Part} (hps : ((Part.ports ∉ ps ∧ Part.doors ∉ ps) ∧ Part.rates ∉ ps ∧ Part.pond ∉ ps) ∧
    Part.engines ∉ ps ∧ Part.svc ∉ ps) (h : Fr (keeping ps []) a c) : Fr (keeping ps []) a (bindDropped c b) := by
  obtain ⟨⟨⟨hports, hdoors⟩, hrates, hpond⟩, hengines, hsvc⟩ := hps
  refine Chip.updSvc_fr (Chip.freeCtx_fr (Chip.dropCtls_fr h ?_) ?_ ?_ ?_ ?_ ?_ ?_ ?_ ?_) ?_ <;> simp [*]

theorem bindDropped_binds (c : Chip) (b : Bind) : (bindDropped c b).svc.binds = c.svc.binds.filter (fun x => !Bind.is b.port b.route b.iface x) := by
  have hfr : Fr (keeping [.svc] []) c ((c.dropCtls b).freeCtx b.cid) := by
    refine Chip.freeCtx_fr (Chip.dropCtls_fr (Fr.refl _ c) ?_) ?_ ?_ ?_ ?_ ?_ ?_ ?_ ?_ <;> simp
  rw [← hfr.kept.svc (by simp)]
  rfl

theorem bindDropped_noneWait (h : NoneWait c) (b : Bind) : NoneWait (bindDropped c b) := by
  obtain ⟨hwait, hgrants, -⟩ := freeCtx_lists (c := c.dropCtls b) b.cid h.1
  exact ⟨hwait, hgrants.trans h.2⟩

/-- The binding's context is free afterwards, if it is not poisoned. -/
theorem bindDropped_typ (h : c.pond.waiters = []) (hp : (c.ctx b.cid).poisoned = false) : ((bindDropped c b).ctx b.cid).typ = tFREE := by
  have hctx : (bindDropped c b).ctx b.cid = freedCtx (c.ctx b.cid) := freeCtx_ctx (c.dropCtls b) h b.cid
  rw [hctx, freedCtx]
  split
  · rfl
  · next hno => exact not_not.1 fun ht => hno ⟨ht, hp⟩

/-- A binding's end told where there is something to tell, with no request to answer. -/
theorem endTold_fr {f : Frame} (hreq : b.req = none) (p : Prop) [Decidable p] (k : Option Door) (e : Event) (cause : Nat)
    (hdoors : Part.doors ∈ f.parts) (hreg : f.regs .SVC_STATUS = true) (h : Fr f a c) :
    Fr f a ((if p then c.postOwn k e else c).bindReply b cause).syncSvc := by
  rw [Chip.bindReply, hreq, Chip.answerOpt]
  split
  · exact Chip.syncSvc_fr (Chip.postOwn_fr h hdoors) hreg
  · exact Chip.syncSvc_fr h hreg

/-- The binding's job and records ended and its endpoints released, before it is dropped. -/
def bindQuiet (c : Chip) (b : Bind) : Chip :=
  let c := c.abortJob b
  let c := c.culletRecs pfDETACH (fun r => r.owner == b.key)
  let ifs := c.ifsOf b
  c.updEps b.port (c.ctx b.cid).parent (fun e => ifs.contains e.iface && e.stream.isSome) (fun e => { e with stream := none })

theorem bindQuiet_fr (h : Fr (keeping [.reqs, .trunk] []) a c) (b : Bind) : Fr (keeping [.reqs, .trunk] []) a (bindQuiet c b) := by
  have hjob : Fr (keeping [.reqs, .trunk] []) a (c.abortJob b) := by apply Chip.abortJob_fr h <;> simp
  have hrecs : Fr (keeping [.reqs, .trunk] []) a ((c.abortJob b).culletRecs pfDETACH (fun r => r.owner == b.key)) :=
    Chip.culletRecs_fr hjob (by simp)
  unfold bindQuiet
  exact Chip.updEps_fr hrecs (by simp) (by simp)

theorem bindQuiet_poolKept (c : Chip) (b : Bind) : PoolKept c (bindQuiet c b) := by
  have hrecs : PoolKept (c.abortJob b) ((c.abortJob b).culletRecs pfDETACH (fun r => r.owner == b.key)) := .of_pond rfl
  unfold bindQuiet
  exact (abortJob_poolKept c b).trans (hrecs.trans (updEps_poolKept _ _ _ _ _))

theorem printerPut_binds (c : Chip) (b : Bind) (s : Strm) (h : RecHdr) (l : List Byte) : (printerPut c b s h l).svc.binds = c.svc.binds := by
  have hput : (c.putRec s (parisonSrc b.port b.route) h l).2.svc.binds = c.svc.binds := by
    have hover : ∀ (d : Chip) n, (d.evOverrun s 0 n).svc = d.svc := fun d n => by
      have hf : Fr (keeping [.svc] []) d (d.evOverrun s 0 n) := by apply Chip.evOverrun_fr (Fr.refl _ d) <;> simp
      exact hf.kept.svc (by simp)
    have hact : ∀ d : Chip, ((d.touchPool s.port s.cid true).active).svc = d.svc := fun d => by
      have hf : Fr (keeping [.svc] []) d ((d.touchPool s.port s.cid true).active) := by
        refine Chip.active_fr (Chip.touchPool_fr (Fr.refl _ d) ?_) ?_ ?_ ?_ <;> simp
      exact hf.kept.svc (by simp)
    unfold Chip.putRec
    extract_lets r
    split
    · exact (congrArg SvcState.binds (hover _ _)).trans rfl
    · exact (congrArg SvcState.binds (hact _)).trans rfl
  unfold printerPut
  dsimp only
  split
  · have hbody : ∀ (d : Chip) f, Fr (keeping [.svc] []) d (d.updSvcBody b f) := fun d f => by
      apply Chip.updSvcBody_fr (Fr.refl _ d) <;> simp
    exact (congrArg SvcState.binds ((hbody _ _).kept.svc (by simp))).trans hput
  · exact hput

theorem abortJob_binds (c : Chip) (b : Bind) : (c.abortJob b).svc.binds = c.svc.binds := by
  have hrec : (c.printerRec b 4 []).svc.binds = c.svc.binds := by
    unfold Chip.printerRec
    split
    · rfl
    · exact printerPut_binds c b _ _ _
  unfold Chip.abortJob
  split
  · dsimp only
    split
    · exact hrec
    · exact hrec
  · rfl

theorem bindQuiet_binds (c : Chip) (b : Bind) : (bindQuiet c b).svc.binds = c.svc.binds := by
  have heps : ∀ (d : Chip) i p f, Fr (keeping [.svc] []) d (d.updEps b.port i p f) := fun d i p f => by
    apply Chip.updEps_fr (Fr.refl _ d) <;> simp
  exact (congrArg SvcState.binds ((heps _ _ _ _).kept.svc (by simp))).trans (abortJob_binds c b)

/-- A binding's end by what pends (R218). -/
theorem endBind_eq (c : Chip) (b : Bind) (cause : Nat) : c.endBind b cause =
    match b.pending with
    | some .setup => ((if cause = ubSETUP then (bindDropped c b).postOwn b.door ((bindDropped c b).evSvc 0x0802 b.port b.route [b.iface, cause])
        else bindDropped c b).bindReply b cause).syncSvc
    | some _ => ((c.updSvc (fun v => { v with binds := v.binds.filter (fun x => !Bind.is b.port b.route b.iface x) })).dropWaiters
        (fun w => w == .binding b.port b.route b.iface)).syncSvc
    | none => ((bindDropped (bindQuiet c b) b).postOwn b.door
        ((bindDropped (bindQuiet c b) b).evSvc 0x0802 b.port b.route [b.iface, cause])).syncSvc := rfl

theorem endBind_fr (hreq : b.req = none) (cause : Nat) (h : Fr (keeping [.reqs, .trunk] []) a c) :
    Fr (keeping [.reqs, .trunk] []) a (c.endBind b cause) := by
  rw [endBind_eq]
  split
  · exact endTold_fr hreq _ _ _ _ (by simp) (by simp) (bindDropped_fr (by simp) h)
  · refine Chip.syncSvc_fr (Chip.dropWaiters_fr (Chip.updSvc_fr h ?_) ?_ ?_ ?_ ?_ ?_ ?_ ?_) ?_ <;> simp
  · refine Chip.syncSvc_fr (Chip.postOwn_fr (bindDropped_fr (by simp) (bindQuiet_fr h b)) ?_) ?_ <;> simp

theorem endBind_binds (hreq : b.req = none) (c : Chip) (cause : Nat) :
    (c.endBind b cause).svc.binds = c.svc.binds.filter (fun x => !Bind.is b.port b.route b.iface x) := by
  rw [endBind_eq]
  split
  · rw [(endTold_fr (f := keeping [.svc] []) hreq _ _ _ _ (by simp) (by simp) (Fr.refl _ (bindDropped c b))).kept.svc (by simp), bindDropped_binds]
  · have hfr : ∀ d : Chip, Fr (keeping [.svc] []) d ((d.dropWaiters (fun w => w == .binding b.port b.route b.iface)).syncSvc) := fun d => by
      refine Chip.syncSvc_fr (Chip.dropWaiters_fr (Fr.refl _ d) ?_ ?_ ?_ ?_ ?_ ?_ ?_) ?_ <;> simp
    rw [(hfr _).kept.svc (by simp)]
    rfl
  · have hfr : ∀ (d : Chip) k e, Fr (keeping [.svc] []) d ((d.postOwn k e).syncSvc) := fun d k e => by
      refine Chip.syncSvc_fr (Chip.postOwn_fr (Fr.refl _ d) ?_) ?_ <;> simp
    rw [(hfr _ _ _).kept.svc (by simp), bindDropped_binds, bindQuiet_binds]

theorem dropWaiters_noneWait (h : NoneWait c) (p : Waiting → Bool) : NoneWait (c.dropWaiters p) := by
  have hserved : ∀ (n : Nat) (d : Chip), NoneWait d → NoneWait (Chip.serveWaiters n d) := by
    intro n d hd
    have hpool : ∀ x : Chip, NoneWait x → NoneWait x.poolEvents := fun x hx => by
      obtain ⟨y, hy⟩ := poolEvents_pond x
      rw [NoneWait, hy]
      exact hx
    cases n with
    | zero => exact hpool d hd
    | succ n =>
      have hnone : d.nextWaiter = none := by rw [Chip.nextWaiter, hd.1]; rfl
      rw [Chip.serveWaiters, hnone]
      exact hpool _ hd
  have hsync : ∀ d : Chip, NoneWait d → NoneWait d.syncWaiters := fun d hd => by
    have hf : Fr (keeping [.pond] []) d d.syncWaiters := by apply Chip.syncWaiters_fr (Fr.refl _ d) <;> simp
    rw [NoneWait, hf.kept.pond (by simp)]
    exact hd
  unfold Chip.dropWaiters
  split
  · refine hserved _ _ (hsync _ ⟨?_, h.2⟩)
    show c.pond.waiters.filter _ = []
    rw [h.1]
    rfl
  · exact h

theorem endBind_noneWait (hw : NoneWait c) (hreq : b.req = none) (cause : Nat) : NoneWait (c.endBind b cause) := by
  have hsync : ∀ d : Chip, NoneWait d → NoneWait d.syncSvc := fun d hd =>
    (PoolKept.of_fr (by apply Chip.syncSvc_fr (Fr.refl _ d); simp)).noneWait hd
  have hpost : ∀ (d : Chip) k e, NoneWait d → NoneWait (d.postOwn k e) := fun d k e hd =>
    (PoolKept.of_fr (by apply Chip.postOwn_fr (Fr.refl _ d); simp)).noneWait hd
  rw [endBind_eq]
  split
  · exact (PoolKept.of_fr (endTold_fr hreq _ _ _ _ (by simp) (by simp) (Fr.refl _ _))).noneWait (bindDropped_noneWait hw b)
  · exact hsync _ (dropWaiters_noneWait (by exact hw) _)
  · exact hsync _ (hpost _ _ _ (bindDropped_noneWait ((bindQuiet_poolKept c b).noneWait hw) b))

/-- The context of a service that ran is free when its binding has ended. -/
theorem endBind_typ (hw : c.pond.waiters = []) (hp : (c.ctx b.cid).poisoned = false) (hpend : b.pending = none) (cause : Nat) :
    ((c.endBind b cause).ctx b.cid).typ = tFREE := by
  have hq := bindQuiet_poolKept c b
  have htold : ∀ (d : Chip) k e, PoolKept d (d.postOwn k e).syncSvc := fun d k e => .of_fr (by
    refine Chip.syncSvc_fr (Chip.postOwn_fr (Fr.refl _ d) ?_) ?_ <;> simp)
  rw [endBind_eq, hpend]
  exact ((htold _ _ _).typ _).trans (bindDropped_typ (hq.waiters.trans hw) ((hq.poisoned _).trans hp))

end

end Sys2Proof.Proofs

namespace Sys2Proof.Proofs

open Sys2Proof.Machine Sys2Proof.Laws

/-- A node at address 1 with no request in flight but the one that door request ⟨1, 9⟩ queued. -/
def askedNode : NodeRt :=
  { addr := 1, cid := 0, gen := 0, annDue := none, part := none, out := none,
    queue := [{ write := false, obj := 0, value := [], prio := 3, origin := .door ⟨1, 9⟩, sentAt := none, late := false }],
    absentAt := none, restart := false }

/-- Port 0 is a line with `askedNode`, and door 0 holds a LINE_NODE_REMOVE of it. -/
def nodeTakenOver : Chip :=
  takenOver (((askedChip [pendingEntry 5 0x050B#16 3 (nodeIndex 0 1)]).updPort 0 (fun p => { p with mode := .line })).updLine 0
    (fun l => { l with nodes := [askedNode] }))

/-- A request on a node, from conditions that the kernel can decide. -/
theorem forNode_of {c : Chip} {q : ReqId} {op : BitVec 16} {n : Port} {a : Nat} {e : ReqEntry}
    (h : (c.ready q op = some e ∧ c.takeVerdict q e = none ∧ badTarget e.req = false ∧ [3].contains e.req.tgtKind = true ∧
      (c.doors[q.door]).releasing = none) ∧ nodePort e.req.tgtIndex = n.val ∧ nodeAddr e.req.tgtIndex = a) :
    ForNode c q op n a e := by
  obtain ⟨hcan, hport, haddr⟩ := h
  exact ⟨startable_of hcan, hport, haddr⟩

/-- Refutes O27: its fifth clause lets requests of other doors wait for the node. In `nodeTakenOver` the answer to one of them ends
the release of door 1, whose takeover answers the LINE_NODE_REMOVE with data of its own. -/
theorem not_lineNodeRequests : ¬ Obligations.LineNodeRequests := by
  unfold Obligations.LineNodeRequests
  intro h
  obtain ⟨-, -, -, -, hremove, -⟩ := h { chip := nodeTakenOver } (canon_of (by decide +kernel)) (by decide +kernel) 0 1 askedNode
    (by decide +kernel) (by decide +kernel)
  refine not_runs (fun c => ((c.doors[(0 : Door)]).rsps ++ (c.doors[(0 : Door)]).rspWait).any
    (fun p => p.result == rOK && p.data == [])) ?_ ?_
    (hremove ⟨0, 5⟩ (pendingEntry 5 0x050B#16 3 (nodeIndex 0 1)) (forNode_of ?_) ?_ ?_ ?_ ?_)
  · decide +kernel
  · rintro c ⟨hanswered, -⟩
    exact part_of_answered hanswered
  all_goals decide +kernel

end Sys2Proof.Proofs

namespace Sys2Proof.Proofs

open Sys2Proof.Machine Sys2Proof.Laws

/-! The service opcodes, and streams opened and closed (05 R114, 07 R147, 10 R205 to R209, R220). -/

section
variable {s : State} {q : ReqId} {e : ReqEntry}

@[simp] theorem taken_ports (c : Chip) (q : ReqId) : (Taken c q).ports = c.ports := (taken_fr c q).kept.ports (by decide)

/-- A service opcode on a drop's port, where nothing waits afterwards. -/
theorem runs_servedSvc {op : BitVec 16} {n : Port} {i : Instr} {body : Port → Chip → Chip} {p : Chip → Prop} (h : ForPort s.chip q op n e)
    (hd : s.chip.isDrop n = true) (hi : exec i s = s.runS (fun c => c.serveSvc q op body)) (d : Chip)
    (hb : body n (Taken s.chip q) = d) (hg : d.pond.grants = []) (hp : p d) : Runs i s p := by
  refine runs_of_runS_eq hi (d := d) ?_ hg hp
  rw [serveSvc_start h hd body, hb]

/-! ### SVC_LIST and SVC_UNBIND -/

theorem runs_svcList {n : Port} {f k : Nat} (hg : s.chip.pond.grants = []) (h : ForPort s.chip q 0x0803#16 n e) (hd : s.chip.isDrop n = true)
    (hk : k ≤ 4) : Runs (.svcList q f k) s (fun c => Answered c q e rOK ((((s.chip.svc.binds.filter (fun b => b.port == n)).drop f).take k).flatMap
      (fun b => [b.route.toNat, b.iface, b.kind, b.profile, b.stream.toNat, b.out.toNat,
        if b.pending.isSome then 0 else (s.chip.svcBody b).state, if b.pending.isSome then 0 else (s.chip.svcBody b).rseq.toNat]))) := by
  have hexec : exec (.svcList q f k) s = execSvcList q f k s := rfl
  have hbody : ∀ b, (Taken s.chip q).svcBody b = s.chip.svcBody b := fun b => by simp [Chip.svcBody]
  refine runs_servedSvc h hd hexec ((Taken s.chip q).answer q rOK ((((s.chip.svc.binds.filter (fun b => b.port == n)).drop f).take k).flatMap
      (fun b => [b.route.toNat, b.iface, b.kind, b.profile, b.stream.toNat, b.out.toNat,
        if b.pending.isSome then 0 else (s.chip.svcBody b).state, if b.pending.isSome then 0 else (s.chip.svcBody b).rseq.toNat]))
      (16 * (((s.chip.svc.binds.filter (fun b => b.port == n)).drop f).take k).length)) ?_ ?_ (answered_taken h.can _ _ _)
  · rw [if_neg (Nat.not_lt.2 hk)]
    simp only [taken_svc, hbody]
  · rw [pond_of_answer_fr (answer_fr _ _ _ _ _), taken_pond]
    exact hg

theorem runs_svcUnbind {n : Port} {r : BitVec 20} {i : Nat} {b : Bind} {f : Bool} (hg : s.chip.pond.grants = [])
    (h : ForPort s.chip q 0x0802#16 n e) (hd : s.chip.isDrop n = true) (hw : s.chip.pond.waiters = [])
    (hb : s.chip.bind? n r i = some b) (hreq : b.req = none) :
    Runs (.svcUnbind q r i f) s (fun c => Answered c q e rOK [] ∧ c.bind? n r i = none ∧
      (b.pending = none → (s.chip.ctx b.cid).poisoned = false → (c.ctx b.cid).typ = tFREE)) := by
  have hexec : exec (.svcUnbind q r i f) s = execSvcUnbind q r i f s := rfl
  obtain ⟨c', hc'⟩ : ∃ c', (if f then (Taken s.chip q).updSvc (fun v => { v with bindRules := v.bindRules.filter (fun x =>
    !(x.port == n && x.route == r && x.iface == i)) }) else Taken s.chip q) = c' := ⟨_, rfl⟩
  have hkept : Fr (keeping [.reqs] []) (Taken s.chip q) c' ∧ c'.pond = s.chip.pond ∧ c'.svc.binds = s.chip.svc.binds := by
    rw [← hc']
    split
    · refine ⟨?_, taken_pond _ _, (rfl : _ = (Taken s.chip q).svc.binds).trans (congrArg SvcState.binds (taken_svc s.chip q))⟩
      apply Chip.updSvc_fr (Fr.refl _ _)
      simp
    · exact ⟨Fr.refl _ _, taken_pond _ _, congrArg SvcState.binds (taken_svc s.chip q)⟩
  obtain ⟨hfr, hpond, hbinds⟩ := hkept
  have hb' : c'.bind? n r i = some b := by rw [← hb, Chip.bind?, Chip.bind?, hbinds]
  have hnone : NoneWait c' := by rw [NoneWait, hpond]; exact ⟨hw, hg⟩
  have hexe : Executes (c'.endBind b ubUNBIND) q e := by
    have hend : Fr _ c' (c'.endBind b ubUNBIND) := endBind_fr hreq _ (Fr.refl _ c')
    exact ((executes_taken h.can).of_fr hfr (by simp)).of_fr hend (by simp)
  have hans := answer_fr (c'.endBind b ubUNBIND) q rOK [] 0
  have his : ∀ x, Bind.is n r i x = Bind.is b.port b.route b.iface x := fun x => by
    have hbis : Bind.is n r i b = true := List.find?_some hb
    simp only [Bind.is, Bool.and_eq_true, beq_iff_eq] at hbis
    obtain ⟨⟨hp, hr⟩, hi⟩ := hbis
    rw [hp, hr, hi]
  refine runs_servedSvc h hd hexec ((c'.endBind b ubUNBIND).answer q rOK) ?_ ?_ ?_
  · dsimp only
    rw [hc', hb']
  · rw [pond_of_answer_fr hans]
    exact (endBind_noneWait hnone hreq _).2
  · refine ⟨hexe.answered _ _ _, ?_, fun hpend hp => ?_⟩
    · rw [Chip.bind?, hans.kept.svc (by decide), endBind_binds hreq, List.find?_eq_none]
      intro x hx
      rw [his]
      simpa using (List.mem_filter.1 hx).2
    · rw [ctx_of_ctxs (c := c'.endBind b ubUNBIND) (by rw [pond_of_answer_fr hans])]
      refine endBind_typ hnone.1 ?_ hpend _
      rw [ctx_of_ctxs (c := s.chip) (by rw [hpond])]
      exact hp

/-! ### Streams -/

/-- Bindings ended one after another: none of them is left, and nothing waits. -/
theorem each_endBind {cause : Nat} : ∀ (l : List Bind) (c : Chip), (∀ b ∈ l, b.req = none) → NoneWait c →
    Fr (keeping [.reqs, .trunk] []) c (c.each l (fun c b => c.endBind b cause)) ∧ NoneWait (c.each l (fun c b => c.endBind b cause)) ∧
    ∀ x ∈ (c.each l (fun c b => c.endBind b cause)).svc.binds, x ∈ c.svc.binds ∧ ∀ b ∈ l, Bind.is b.port b.route b.iface x = false
  | [], c, _, hw => ⟨Fr.refl _ c, hw, fun x hx => ⟨hx, fun _ hb => absurd hb List.not_mem_nil⟩⟩
  | b :: t, c, hreq, hw => by
    have hb : b.req = none := hreq b List.mem_cons_self
    obtain ⟨hfr, hnone, hbinds⟩ := each_endBind (cause := cause) t (c.endBind b cause) (fun x hx => hreq x (List.mem_cons_of_mem _ hx))
      (endBind_noneWait hw hb cause)
    refine ⟨fr_trans (endBind_fr hb cause (Fr.refl _ c)) hfr, hnone, fun x hx => ?_⟩
    obtain ⟨hmem, hall⟩ := hbinds x hx
    rw [endBind_binds hb] at hmem
    obtain ⟨hmem, his⟩ := List.mem_filter.1 hmem
    exact ⟨hmem, List.forall_mem_cons.2 ⟨by simpa using his, hall⟩⟩

/-- A stream closed whose bindings no request waits for (R220). -/
theorem closeStream_closed {c : Chip} (hw : NoneWait c) (hreq : ∀ b ∈ c.svc.binds, b.req = none) (x : Strm) :
    (Executes c q e → Executes (c.closeStream x true) q e) ∧ (c.closeStream x true).pond.grants = [] ∧
    (c.closeStream x true).trunk.rx = c.trunk.rx.filter (fun y => !(y.cls == 2 && y.id == x.id)) ∧
    (c.closeStream x true).svc.binds.all (fun b => !(b.stream == x.id || b.out == x.id)) = true := by
  obtain ⟨hfr, hnone, hbinds⟩ := each_endBind (cause := ubSTREAM) (c.svc.binds.filter (fun b => b.stream == x.id || b.out == x.id)) c
    (fun b hb => hreq b (List.mem_filter.1 hb).1) hw
  unfold Chip.closeStream
  extract_lets a a1 a2 a3
  have ha : a = c.each (c.svc.binds.filter (fun b => b.stream == x.id || b.out == x.id)) (fun c b => c.endBind b ubSTREAM) := rfl
  rw [← ha] at hfr hnone hbinds
  have ha3 : a3 = a2.freeCtx x.cid := if_pos rfl
  have hfree : Fr (keeping [.reqs, .trunk, .svc] []) a2 (a2.freeCtx x.cid) := by apply Chip.freeCtx_fr (Fr.refl _ a2) <;> simp
  obtain ⟨-, hgrants, -⟩ := freeCtx_lists (c := a2) x.cid hnone.1
  have hsvc : (a2.freeCtx x.cid).svc = a2.svc := hfree.kept.svc (by simp)
  have htrunk : a.trunk = c.trunk := hfr.kept.trunk (by simp)
  rw [ha3]
  refine ⟨fun he => ?_, hgrants.trans hnone.2, (congrArg Trunk.rx (hfree.kept.trunk (by simp))).trans ?_, ?_⟩
  · have hreap : Fr (keeping [.reqs] []) (a2.freeCtx x.cid) (a2.freeCtx x.cid).reapStreams := Chip.updSvc_fr (Fr.refl _ _) (by simp)
    have hpre : Fr (keeping [.reqs] []) a a2 := Chip.updStrm_fr (Chip.updTrunk_fr (Fr.refl _ a) (by simp)) (by simp)
    exact (((he.of_fr hfr (by simp)).of_fr hpre (by simp)).of_fr hfree (by simp)).of_fr hreap (by simp)
  · show a.trunk.rx.filter _ = _
    rw [htrunk]
  · show (a2.freeCtx x.cid).svc.binds.all _ = true
    rw [hsvc, List.all_eq_true]
    intro y hy
    obtain ⟨hmem, hall⟩ := hbinds y hy
    by_contra hno
    rw [Bool.not_eq_true, Bool.not_eq_false'] at hno
    have his := hall y (List.mem_filter.2 ⟨hmem, hno⟩)
    simp [Bind.is] at his

theorem taken_strmRef? (c : Chip) (q : ReqId) (i : Nat) (g : Byte) : (Taken c q).strmRef? i g = c.strmRef? i g := by
  simp [Chip.strmRef?, Chip.refOk]

theorem runs_streamClose {cid : Cid} {g : Byte} {x : Strm} (hg : s.chip.pond.grants = []) (hs : Startable s.chip q Config.opStreamClose [0, 1] e)
    (hw : s.chip.pond.waiters = []) (hx : s.chip.strmRef? cid.toNat g = some x) (hd : x.door = q.door)
    (hreq : s.chip.svc.binds.all (fun b => b.req.isNone) = true) :
    Runs (.streamClose q cid g) s (fun c => Answered c q e rOK [] ∧
      c.trunk.rx = s.chip.trunk.rx.filter (fun y => !(y.cls == 2 && y.id == x.id)) ∧
      c.svc.binds.all (fun b => !(b.stream == x.id || b.out == x.id)) = true) := by
  have hexec : exec (.streamClose q cid g) s = execStreamClose q cid g s := rfl
  have hnone : NoneWait (Taken s.chip q) := by rw [NoneWait, taken_pond]; exact ⟨hw, hg⟩
  have hidle : ∀ b ∈ (Taken s.chip q).svc.binds, b.req = none := fun b hb => by
    rw [taken_svc] at hb
    simpa using List.all_eq_true.1 hreq b hb
  obtain ⟨hkeep, hgrants, hrx, hbinds⟩ := closeStream_closed hnone hidle x
  have hexe := hkeep (executes_taken hs)
  have hans := hexe.answer_fr rOK [] 0
  have hfr := answer_fr ((Taken s.chip q).closeStream x true) q rOK [] 0
  refine runs_of_runS_eq (d := ((Taken s.chip q).closeStream x true).answer q rOK) hexec ?_ ?_ ⟨hexe.answered _ _ _, ?_, ?_⟩
  · refine (serve_start hs _).trans ?_
    show (match (Taken s.chip q).strmRef? cid.toNat g with
      | none => _
      | some x => _) = _
    rw [taken_strmRef?, hx]
    exact if_pos hd
  · rw [pond_of_answer_fr hfr]
    exact hgrants
  · rw [hans.kept.trunk (by simp), hrx, (taken_fr s.chip q).kept.trunk (by decide)]
  · rw [hfr.kept.svc (by decide)]
    exact hbinds

/-- The stream that an open makes (R147). -/
def newStream (id : BitVec 16) (cid : Nat) (gen : Byte) (door : Door) (port : Port) (depth weight : Nat) : Strm :=
  { id := id, cid := cid, gen := gen, door := door, port := port, depth := depth, weight := max 1 weight, recs := [],
    weir := false, inbound := [], received := 0, credit := 0#32, overrun := 0, closed := false }

/-- The chip with the stream's context written and its receive space open. -/
def streamMade (c : Chip) (id : BitVec 16) (cid : Nat) (door : Door) (port : Port) (depth weight : Nat) : Chip :=
  let c := c.setBody cid (.stream id)
  let c := c.updSvc (fun v => { v with streams := v.streams ++ [newStream id cid (c.ctx cid).gen door port depth weight] })
  c.updTrunk (fun t => { t with rx := t.rx ++ [{ cls := 2, id := id.toNat, last := none, buf := [] }] })

theorem retryBinds_none {c : Chip} {p : Bind → Bool} (h : ∀ b ∈ c.svc.binds, p b = false) : c.retryBinds p = c := by
  have hnil : c.svc.binds.filter (fun b => b.pending.isSome && p b) = [] := List.filter_eq_nil_iff.2 fun b hb => by
    rw [h b hb, Bool.and_false]
    exact Bool.false_ne_true
  rw [Chip.retryBinds, hnil]
  rfl

/-- What a stream's opening does where it is taken. -/
def streamOpenBody (q : ReqId) (id : BitVec 16) (port : Port) (depth weight : Nat) (c : Chip) : Chip :=
  if id = 0xFFFF#16 ∨ depth = 0 then c.answer q rBAD_ARG
  else if (c.strm? id).isSome then c.answer q rLOCKED
  else if c.svc.streams.any (fun x => x.id == id) || !c.queueFits depth then c.answer q rWAIT
  else
    match c.alloc hSTREAM (.of tSTREAM) 1 with
    | (.ok (cid :: _), c) =>
      ((streamMade c id cid q.door port depth weight).retryBinds (fun b => b.pending == some .noStream && (b.stream == id || b.out == id))).answer q
        rOK [cid, ((c.setBody cid (.stream id)).ctx cid).gen.toNat] 4
    | (.ok [], c) => c.answer q rPOND_FULL
    | (.error v, c) => c.answer q v

theorem execStreamOpen_body (s : State) (q : ReqId) (id : BitVec 16) (port : Port) (depth w : Nat) : execStreamOpen q id port depth w s =
    s.runS (fun c => if c.pond.rebuild then c else c.serve q Config.opStreamOpen [0, 1] (fun _ => streamOpenBody q id port depth w)) := by
  unfold execStreamOpen streamOpenBody streamMade newStream
  rfl

theorem strm?_none {c : Chip} {id : BitVec 16} (h : c.svc.streams.any (fun x => x.id == id) = false) : c.strm? id = none := by
  refine List.find?_eq_none.2 fun y hy => ?_
  have hne := List.any_eq_false.1 h y hy
  simp only [Bool.and_eq_true, not_and]
  exact fun hyes => absurd hyes hne

theorem streamOpenBody_eq {c d : Chip} {id : BitVec 16} {port : Port} {depth w cid : Nat} (hid : id ≠ 0xFFFF#16) (hdepth : depth ≠ 0)
    (hno : c.svc.streams.any (fun x => x.id == id) = false) (hfits : c.queueFits depth = true)
    (halloc : c.alloc hSTREAM (.of tSTREAM) 1 = (.ok [cid], d)) (hbinds : ∀ b ∈ d.svc.binds, b.pending ≠ some .noStream) :
    streamOpenBody q id port depth w c = (streamMade d id cid q.door port depth w).answer q rOK
      [cid, ((d.setBody cid (.stream id)).ctx cid).gen.toNat] 4 := by
  have hretry := retryBinds_none (c := streamMade d id cid q.door port depth w)
    (p := fun b => b.pending == some .noStream && (b.stream == id || b.out == id)) fun b hb => by simp [hbinds b hb]
  rw [streamOpenBody, if_neg (by simp [hid, hdepth]), strm?_none hno, hno, hfits, halloc]
  exact congrArg (fun c => Chip.answer c q rOK _ 4) hretry

theorem runs_streamOpen {id : BitVec 16} {port : Port} {depth w : Nat} (hg : s.chip.pond.grants = [])
    (hs : Startable s.chip q Config.opStreamOpen [0, 1] e) (hr : s.chip.pond.rebuild = false) (hid : id ≠ 0xFFFF#16) (hdepth : depth ≠ 0)
    (hno : s.chip.svc.streams.any (fun x => x.id == id) = false)
    (hbinds : s.chip.svc.binds.all (fun b => b.pending != some .noStream) = true) (hv : s.chip.allocVerdict hSTREAM 1 = rOK)
    (hfits : s.chip.queueFits depth = true) :
    Runs (.streamOpen q id port depth w) s (fun c => ∃ x, c.strm? id = some x ∧
      (x.door, x.port, x.depth, x.recs, x.received) = (q.door, port, depth, [], 0) ∧
      Answered c q e rOK [x.cid, x.gen.toNat] ∧ (c.ctx x.cid).typ = tSTREAM ∧
      c.trunk.rx = s.chip.trunk.rx ++ [{ cls := 2, id := id.toNat, last := none, buf := [] }]) := by
  have hexec : exec (.streamOpen q id port depth w) s = execStreamOpen q id port depth w s := rfl
  rw [execStreamOpen_body] at hexec
  obtain ⟨t, ht⟩ : ∃ t, (Taken s.chip q).take hSTREAM (.of tSTREAM) 1 = t := ⟨_, rfl⟩
  obtain ⟨cid, hcid⟩ : ∃ cid, t.1 = [cid] := List.length_eq_one_iff.1 (ht ▸ take_length _ _ _ _)
  have hfr : Fr (keeping [.reqs, .trunk, .svc] []) (Taken s.chip q) t.2 := by
    rw [← ht]
    apply Chip.take_fr2 (Fr.refl _ _) <;> simp
  have htyp : (t.2.ctx cid).typ = tSTREAM := by
    have hmem : cid ∈ ((Taken s.chip q).take hSTREAM (.of tSTREAM) 1).1 := by rw [ht, hcid]; simp
    exact ht ▸ (take_typ hmem).1
  have hsvc : t.2.svc = s.chip.svc := (hfr.kept.svc (by simp)).trans (taken_svc _ _)
  have hmade : Fr (keeping [.reqs] []) t.2 (streamMade t.2 id cid q.door port depth w) := by
    unfold streamMade
    refine Chip.updTrunk_fr (Chip.updSvc_fr (Chip.setBody_fr (Fr.refl _ t.2) ?_) ?_) ?_ <;> simp
  have hexe := ((executes_taken hs).of_fr hfr (by simp)).of_fr hmade (by simp)
  obtain ⟨gen, hgen⟩ : ∃ gen, ((t.2.setBody cid (.stream id)).ctx cid).gen = gen := ⟨_, rfl⟩
  have hans := hexe.answer_fr rOK [cid, gen.toNat] 4
  have hall := answer_fr (streamMade t.2 id cid q.door port depth w) q rOK [cid, gen.toNat] 4
  have hstreams : (streamMade t.2 id cid q.door port depth w).svc.streams = s.chip.svc.streams ++ [newStream id cid gen q.door port depth w] := by
    rw [← hgen, ← hsvc]
    rfl
  refine runs_of_runS_eq (d := (streamMade t.2 id cid q.door port depth w).answer q rOK [cid, gen.toNat] 4) hexec ?_ ?_
    ⟨newStream id cid gen q.door port depth w, ?_, rfl, hexe.answered _ _ _, ?_, ?_⟩
  · have halloc : (Taken s.chip q).alloc hSTREAM (.of tSTREAM) 1 = (.ok [cid], t.2) := by
      rw [alloc_eq_verdict _ _ _ (by decide), taken_allocVerdict, if_pos hv, ht, hcid]
    have hbody : streamOpenBody q id port depth w (Taken s.chip q) = (streamMade t.2 id cid q.door port depth w).answer q rOK [cid, gen.toNat] 4 := by
      rw [streamOpenBody_eq hid hdepth (by simpa using hno) (by simpa [Chip.queueFits] using hfits) halloc, hgen]
      intro b hb
      rw [hsvc] at hb
      simpa using List.all_eq_true.1 hbinds b hb
    rw [hr, if_neg Bool.false_ne_true]
    exact (serve_start hs _).trans hbody
  · rw [pond_of_answer_fr hall]
    show t.2.pond.grants = []
    rw [← ht, take_grants, taken_pond]
    exact hg
  · rw [Chip.strm?, hall.kept.svc (by decide), hstreams, List.find?_append, show s.chip.svc.streams.find? _ = none from strm?_none hno]
    simp [newStream]
  · rw [ctx_of_ctxs (c := t.2.setBody cid (.stream id)) (by rw [pond_of_answer_fr hall]; rfl)]
    exact ((setBody_poolKept _ _ _).typ _).trans htyp
  · rw [hans.kept.trunk (by simp)]
    show t.2.trunk.rx ++ _ = _
    rw [hfr.kept.trunk (by simp), (taken_fr s.chip q).kept.trunk (by decide)]

/-! ### SVC_BIND -/

/-- What SVC_BIND asks for: an interface of a configured device on the drop that the kind fits, and that no binding covers (R205). -/
structure Bindable (c : Chip) (n : Port) (r : BitVec 20) (d : Dev) (i : Nat) (x : IfDesc) (k p : Nat) : Prop where
  dev : c.dev? n r = some d
  iface : d.iface? i = some x
  configured : d.configured = true
  profile : p ≤ 15
  kind : kindAccepts k x d = true

/-- What SVC_BIND does with an interface that it may bind. -/
def svcBindBody (q : ReqId) (n : Port) (r : BitVec 20) (d : Dev) (i k p : Nat) (st o : BitVec 16) (f : Bool) (c : Chip) : Chip :=
  let rule : BindRule := { port := n, route := r, iface := i, kind := k, profile := p, stream := st, out := o, door := some q.door }
  let rules := c.svc.bindRules.filter (fun x => !(x.port == n && x.route == r && x.iface == i))
  if (coveredIfs k i d).any (fun j => c.covered n d j) then c.answer q rLOCKED
  else if !c.bindRoom n || (f && 256 ≤ rules.length) then c.answer q rBAD_ARG
  else
    let c := if f then c.updSvc (fun v => { v with bindRules := rules ++ [rule] }) else c
    let c := c.addBind (newBind n r i k p st o (some q.door))
    match c.bind? n r i with
    | none => c.answer q rBAD_ARG
    | some b =>
      match b.pending with
      | none => c.answer q rOK [b.cid, b.gen.toNat] 4
      | some .setup => c.updBind b (fun x => { x with req := some q })
      | some p => c.answer q p.result [p.code] 1

theorem taken_dev? (c : Chip) (q : ReqId) (n : Port) (r : BitVec 20) : (Taken c q).dev? n r = c.dev? n r := by simp [Chip.dev?]

theorem runs_svcBind {n : Port} {r : BitVec 20} {d : Dev} {i k p : Nat} {x : IfDesc} {st o : BitVec 16} {f : Bool} {g : Chip → Prop}
    (h : ForPort s.chip q 0x0801#16 n e) (hd : s.chip.isDrop n = true) (hb : Bindable s.chip n r d i x k p)
    (hg : (svcBindBody q n r d i k p st o f (Taken s.chip q)).pond.grants = []) (hp : g (svcBindBody q n r d i k p st o f (Taken s.chip q))) :
    Runs (.svcBind q r i k p st o f) s g := by
  have hexec : exec (.svcBind q r i k p st o f) s = execSvcBind q r i k p st o f s := rfl
  refine runs_servedSvc h hd hexec (svcBindBody q n r d i k p st o f (Taken s.chip q)) ?_ hg hp
  have hok : (!d.configured || decide (15 < p)) = false := by simp [hb.configured, hb.profile]
  rw [taken_dev?, hb.dev]
  dsimp only
  rw [hb.iface]
  dsimp only
  rw [hok, if_neg Bool.false_ne_true, hb.kind, Bool.not_true, if_neg Bool.false_ne_true]
  rfl

theorem runs_svcBind_covered {n : Port} {r : BitVec 20} {d : Dev} {i k p : Nat} {x : IfDesc} {st o : BitVec 16} {f : Bool}
    (hg : s.chip.pond.grants = []) (h : ForPort s.chip q 0x0801#16 n e) (hd : s.chip.isDrop n = true) (hb : Bindable s.chip n r d i x k p)
    (hcov : (coveredIfs k i d).any (fun j => s.chip.covered n d j) = true) :
    Runs (.svcBind q r i k p st o f) s (fun c => Answered c q e rLOCKED [] ∧ c.svc = s.chip.svc) := by
  have hbody : svcBindBody q n r d i k p st o f (Taken s.chip q) = (Taken s.chip q).answer q rLOCKED :=
    if_pos (by simpa [Chip.covered] using hcov)
  have hans := answer_fr (Taken s.chip q) q rLOCKED [] 0
  refine runs_svcBind h hd hb ?_ ?_ <;> rw [hbody]
  · rw [pond_of_answer_fr hans, taken_pond]
    exact hg
  · exact ⟨answered_taken h.can _ _ _, (hans.kept.svc (by decide)).trans (taken_svc _ _)⟩

/-- No binding has the interface that none covers. -/
theorem bind?_none {c : Chip} {n : Port} {r : BitVec 20} {d : Dev} {i k : Nat} (hd : c.dev? n r = some d)
    (hcov : (coveredIfs k i d).any (fun j => c.covered n d j) = false) : ∀ b ∈ c.svc.binds, Bind.is n r i b = false := by
  have hself : ∀ k i, i ∈ coveredIfs k i d := fun k i => by
    unfold coveredIfs
    split <;> simp
  have hroute : d.route = r := by simpa using List.find?_some hd
  have hno := List.any_eq_false.1 hcov i (hself k i)
  intro b hb
  by_contra hyes
  refine hno (List.any_eq_true.2 ⟨b, hb, ?_⟩)
  simp only [Bool.not_eq_false, Bind.is, Bool.and_eq_true, beq_iff_eq] at hyes
  obtain ⟨⟨hp, hr⟩, hi⟩ := hyes
  simpa [hp, hr, hroute, hi] using hself b.kind i

theorem updFirst_append_of_none {α : Type} {p : α → Bool} {f : α → α} {x : α} (hx : p x = true) : ∀ {l : List α}, (∀ y ∈ l, p y = false) →
    updFirst p f (l ++ [x]) = l ++ [f x]
  | [], _ => by simp [updFirst, hx]
  | y :: t, h => by
    rw [List.cons_append, updFirst, h y List.mem_cons_self, if_neg Bool.false_ne_true,
      updFirst_append_of_none hx fun z hz => h z (List.mem_cons_of_mem _ hz)]
    rfl

/-- The bindings are the old ones, none of which has the interface, and a last one. -/
def LastBind (c : Chip) (l : List Bind) (b : Bind) : Prop := c.svc.binds = l ++ [b]

theorem LastBind.bind? {c : Chip} {l : List Bind} {b : Bind} {n : Port} {r : BitVec 20} {i : Nat} (h : LastBind c l b)
    (hl : ∀ y ∈ l, Bind.is n r i y = false) (hb : Bind.is n r i b = true) : c.bind? n r i = some b := by
  rw [Chip.bind?, h, List.find?_append, List.find?_eq_none.2 fun y hy => by rw [hl y hy]; exact Bool.false_ne_true]
  simp [hb]

theorem LastBind.updBind {c : Chip} {l : List Bind} {b b' : Bind} {f : Bind → Bind} (h : LastBind c l b)
    (hl : ∀ y ∈ l, Bind.is b'.port b'.route b'.iface y = false) (hb : Bind.is b'.port b'.route b'.iface b = true) :
    LastBind (c.updBind b' f) l (f b) := by
  show updFirst _ f c.svc.binds = _
  rw [h]
  exact updFirst_append_of_none hb hl

theorem LastBind.of_svc {c d : Chip} {l : List Bind} {b : Bind} (h : LastBind c l b) (hd : d.svc = c.svc) : LastBind d l b := by
  rw [LastBind, hd]
  exact h

/-- The answer to SVC_BIND by what its binding has become. -/
def bindAnswer (q : ReqId) (n : Port) (r : BitVec 20) (i : Nat) (c : Chip) : Chip :=
  match c.bind? n r i with
  | none => c.answer q rBAD_ARG
  | some b =>
    match b.pending with
    | none => c.answer q rOK [b.cid, b.gen.toNat] 4
    | some .setup => c.updBind b (fun x => { x with req := some q })
    | some p => c.answer q p.result [p.code] 1

/-- The chip with SVC_BIND's binding at the end of the list, not yet tried. -/
structure BindAdded (c a : Chip) (n : Port) (r : BitVec 20) (d : Dev) (b : Bind) : Prop where
  kept : Fr (keeping [.reqs, .pond, .ports] []) c a
  last : LastBind a c.svc.binds b
  streams : a.svc.streams = c.svc.streams
  dev : a.dev? n r = some d
  verdict : ∀ h m, a.allocVerdict h m = c.allocVerdict h m

/-- An interface that no binding covers is bound, and the request answered by the binding. -/
theorem svcBindBody_bound {c : Chip} {n : Port} {r : BitVec 20} {d : Dev} {i k p : Nat} {st o : BitVec 16} {f : Bool} (hd : c.dev? n r = some d)
    (hcov : (coveredIfs k i d).any (fun j => c.covered n d j) = false) (hroom : c.bindRoom n = true)
    (hf : f = false ∨ c.svc.bindRules.length < 256) :
    ∃ a, BindAdded c a n r d (newBind n r i k p st o (some q.door)) ∧
      svcBindBody q n r d i k p st o f c = bindAnswer q n r i (a.tryBind (newBind n r i k p st o (some q.door))) := by
  obtain ⟨rules, hrules⟩ : ∃ l, c.svc.bindRules.filter (fun x => !(x.port == n && x.route == r && x.iface == i)) = l := ⟨_, rfl⟩
  have hle : rules.length ≤ c.svc.bindRules.length := hrules ▸ List.length_filter_le _ _
  have hfull : (!c.bindRoom n || (f && decide (256 ≤ rules.length))) = false := by
    rcases hf with hf | hf
    · simp [hroom, hf]
    · have hlt : ¬ 256 ≤ rules.length := by omega
      simp [hroom, hlt]
  obtain ⟨a, ha⟩ : ∃ a, (if f then c.updSvc (fun v => { v with bindRules := rules ++
    [{ port := n, route := r, iface := i, kind := k, profile := p, stream := st, out := o, door := some q.door }] }) else c) = a := ⟨_, rfl⟩
  have hsvc : a.svc.binds = c.svc.binds ∧ a.svc.streams = c.svc.streams ∧ (∀ h m, a.allocVerdict h m = c.allocVerdict h m) ∧
      Fr (keeping [.reqs, .pond, .ports] []) c a := by
    rw [← ha]
    split
    · exact ⟨rfl, rfl, fun _ _ => rfl, Chip.updSvc_fr (Fr.refl _ c) (by simp)⟩
    · exact ⟨rfl, rfl, fun _ _ => rfl, Fr.refl _ c⟩
  obtain ⟨hbinds, hstreams, hverdict, hfr⟩ := hsvc
  have hadded : Fr (keeping [.reqs, .pond, .ports] []) c (a.updSvc (fun v => { v with binds := v.binds ++ [newBind n r i k p st o (some q.door)] })) :=
    Chip.updSvc_fr hfr (by simp)
  refine ⟨_, ⟨hadded, ?_, hstreams, ?_, hverdict⟩, ?_⟩
  · show a.svc.binds ++ _ = _
    rw [hbinds]
  · rw [Chip.dev?, hadded.kept.ports (by simp)]
    exact hd
  · rw [svcBindBody, hcov, if_neg Bool.false_ne_true]
    dsimp only
    rw [hrules, hfull, if_neg Bool.false_ne_true, ha]
    rfl

theorem bindStreams_none {c : Chip} {b : Bind} (h : c.strm? b.stream = none) : c.bindStreams b = none := by rw [Chip.bindStreams, h]

theorem pendBind_last {c : Chip} {l : List Bind} {b b' : Bind} (h : LastBind c l b) (hl : ∀ y ∈ l, Bind.is b'.port b'.route b'.iface y = false)
    (hb : Bind.is b'.port b'.route b'.iface b = true) (p : PendCause) : LastBind (c.pendBind b' p) l { b with pending := some p } := by
  have hfr : ∀ (d : Chip) k e, Fr (keeping [.svc] []) d (d.postOwn k e).syncSvc := fun d k e => by
    refine Chip.syncSvc_fr (Chip.postOwn_fr (Fr.refl _ d) ?_) ?_ <;> simp
  exact (h.updBind hl hb).of_svc ((hfr _ _ _).kept.svc (by simp))

theorem newBind_is (n : Port) (r : BitVec 20) (i k p : Nat) (st o : BitVec 16) (door : Option Door) :
    Bind.is n r i (newBind n r i k p st o door) = true := by simp [Bind.is, newBind]

theorem runs_svcBind_noStream {n : Port} {r : BitVec 20} {d : Dev} {i k p : Nat} {x : IfDesc} {st o : BitVec 16} {f : Bool}
    (hg : s.chip.pond.grants = []) (h : ForPort s.chip q 0x0801#16 n e) (hd : s.chip.isDrop n = true) (hb : Bindable s.chip n r d i x k p)
    (hcov : (coveredIfs k i d).any (fun j => s.chip.covered n d j) = false) (hroom : s.chip.bindRoom n = true)
    (hf : f = false ∨ s.chip.svc.bindRules.length < 256) (hst : s.chip.strm? st = none) :
    Runs (.svcBind q r i k p st o f) s (fun c => Answered c q e rWAIT [2] ∧
      (c.bind? n r i).map (·.pending) = some (some .noStream)) := by
  obtain ⟨a, hadd, hbody⟩ := svcBindBody_bound (q := q) (p := p) (st := st) (o := o) (c := Taken s.chip q) ((taken_dev? _ _ _ _).trans hb.dev)
    (by simpa [Chip.covered] using hcov) (by simpa [Chip.bindRoom] using hroom) (by simpa using hf)
  have hnone : ∀ y ∈ (Taken s.chip q).svc.binds, Bind.is n r i y = false := by rw [taken_svc]; exact bind?_none hb.dev hcov
  obtain ⟨b, hbe⟩ : ∃ b, newBind n r i k p st o (some q.door) = b := ⟨_, rfl⟩
  obtain ⟨hport, hroute, hiface, hstream, his⟩ : b.port = n ∧ b.route = r ∧ b.iface = i ∧ b.stream = st ∧ Bind.is n r i b = true :=
    hbe ▸ ⟨rfl, rfl, rfl, rfl, newBind_is ..⟩
  rw [hbe] at hadd hbody
  have htry : a.tryBind b = a.pendBind b .noStream := by
    have hno : a.bindStreams b = none := bindStreams_none (by rw [Chip.strm?, hadd.streams, taken_svc, hstream]; exact hst)
    rw [Chip.tryBind, hport, hroute, hadd.dev]
    dsimp only
    rw [hno]
  have hpend := pendBind_last (b' := b) hadd.last (by rw [hport, hroute, hiface]; exact hnone) (by rw [hport, hroute, hiface]; exact his) .noStream
  have hbind := hpend.bind? hnone his
  have hend : Fr (keeping [.reqs, .pond] []) a (a.pendBind b .noStream) := by apply Chip.pendBind_fr (Fr.refl _ _) <;> simp
  have hexe := ((executes_taken h.can).of_fr hadd.kept (by simp)).of_fr hend (by simp)
  have hans := answer_fr (a.pendBind b .noStream) q rWAIT [2] 1
  have hfin : bindAnswer q n r i (a.tryBind b) = (a.pendBind b .noStream).answer q rWAIT [2] 1 := by
    rw [htry, bindAnswer, hbind]
    rfl
  refine runs_svcBind h hd hb ?_ ?_ <;> rw [hbody, hfin]
  · rw [pond_of_answer_fr hans, hend.kept.pond (by simp), hadd.kept.kept.pond (by simp), taken_pond]
    exact hg
  · refine ⟨hexe.answered _ _ _, ?_⟩
    rw [Chip.bind?, hans.kept.svc (by decide)]
    exact congrArg (Option.map (·.pending)) hbind

/-- The binding with its context and its setup requests, before they run (R206). -/
def bindOpen (c : Chip) (b : Bind) (d : Dev) (cid : Nat) (x : Strm) (o : Option Strm) : Bind × Chip :=
  let body : SvcBody :=
    { kind := b.kind, state := 1, iface := b.iface, profile := b.profile, stream := (x.cid, x.gen),
      out := o.map (fun x => (x.cid, x.gen)), fill := 0, keymap := 0, pstat := 0#8, rseq := 0#32, job := 0 }
  let c := c.setBody cid (.service body)
  let b := { b with pending := some .setup, cid := cid, gen := (c.ctx cid).gen, setup := c.setupReqs b d }
  (b, c.updBind b (fun _ => b))

theorem bindIn_eq (c : Chip) (b : Bind) (d : Dev) (cid : Nat) (x : Strm) (o : Option Strm) :
    c.bindIn b d cid x o = ((bindOpen c b d cid x o).2.bindNext (bindOpen c b d cid x o).1 d).syncSvc := rfl

theorem bindOpen_kept (c : Chip) (b : Bind) (d : Dev) (cid : Nat) (x : Strm) (o : Option Strm) :
    PoolKept c (bindOpen c b d cid x o).2 ∧ Fr (keeping [.reqs, .ports] []) c (bindOpen c b d cid x o).2 := by
  refine ⟨(setBody_poolKept c cid _).trans (.of_pond rfl), ?_⟩
  unfold bindOpen
  refine Chip.updBind_fr (Chip.setBody_fr (Fr.refl _ c) ?_) ?_ <;> simp

theorem bindOpen_last {c : Chip} {l : List Bind} {b : Bind} (h : LastBind c l b) (hl : ∀ y ∈ l, Bind.is b.port b.route b.iface y = false)
    (d : Dev) (cid : Nat) (x : Strm) (o : Option Strm) : LastBind (bindOpen c b d cid x o).2 l (bindOpen c b d cid x o).1 :=
  LastBind.updBind (f := fun _ => (bindOpen c b d cid x o).1) (b' := (bindOpen c b d cid x o).1) (c := c.setBody cid _) h hl (by simp [Bind.is, bindOpen])

/-- The last steps of a binding that completes, with no request to answer (R206). -/
theorem bindDone_last {c : Chip} {l : List Bind} {b : Bind} (h : LastBind c l b) (hl : ∀ y ∈ l, Bind.is b.port b.route b.iface y = false)
    (hreq : b.req = none) (d : Dev) :
    LastBind (c.bindDone b d) l { b with pending := none, req := none, pollAt := c.clk.now + ms 100 } ∧ PoolKept c (c.bindDone b d) ∧
    Fr (keeping [.reqs, .ports] []) c (c.bindDone b d) := by
  unfold Chip.bindDone
  extract_lets body a ifs a1 a2
  rw [hreq, Chip.answerOpt]
  have ha : LastBind a l { b with pending := none, req := none, pollAt := c.clk.now + ms 100 } := h.updBind hl (by simp [Bind.is])
  have hsvc : Fr (keeping [.reqs, .ports, .svc] []) a a2.syncSvc := by
    refine Chip.syncSvc_fr (Chip.postOwn_fr (Chip.updEps_fr (Fr.refl _ a) ?_ ?_) ?_) ?_ <;> simp
  have htold : PoolKept a1 a2.syncSvc := .of_fr (by refine Chip.syncSvc_fr (Chip.postOwn_fr (Fr.refl _ a1) ?_) ?_ <;> simp)
  refine ⟨ha.of_svc (hsvc.kept.svc (by simp)), PoolKept.after (b := a) (by rfl) ((updEps_poolKept _ _ _ _ _).trans htold), ?_⟩
  refine Chip.syncSvc_fr (Chip.postOwn_fr (Chip.updEps_fr (Chip.updBind_fr (Fr.refl _ c) ?_) ?_ ?_) ?_) ?_ <;> simp

theorem syncSvc_kept (c : Chip) : Fr (keeping [.reqs, .ports, .pond, .svc] []) c c.syncSvc := by
  apply Chip.syncSvc_fr (Fr.refl _ c)
  simp

/-- A raw binding completes at once. -/
theorem bindIn_raw {c : Chip} {l : List Bind} {b : Bind} (h : LastBind c l b) (hl : ∀ y ∈ l, Bind.is b.port b.route b.iface y = false)
    (hreq : b.req = none) (hk : b.kind = kRAW) (d : Dev) (cid : Nat) (x : Strm) (o : Option Strm) :
    (∃ g su t, LastBind (c.bindIn b d cid x o) l { b with pending := none, req := none, cid := cid, gen := g, setup := su, pollAt := t }) ∧
    PoolKept c (c.bindIn b d cid x o) ∧ (∀ q e, Executes c q e → Executes (c.bindIn b d cid x o) q e) := by
  obtain ⟨hpool, hfr⟩ := bindOpen_kept c b d cid x o
  have hlast := bindOpen_last h hl d cid x o
  have hnil : (bindOpen c b d cid x o).1.setup = [] := by
    show (c.setBody cid _).setupReqs b d = []
    simp [Chip.setupReqs, hk, kRAW, kHID, kCDC, kPRINTER]
  have hnext : (bindOpen c b d cid x o).2.bindNext (bindOpen c b d cid x o).1 d = (bindOpen c b d cid x o).2.bindDone (bindOpen c b d cid x o).1 d := by
    rw [Chip.bindNext, hnil]
  obtain ⟨hdone, hdpool, hdfr⟩ := bindDone_last hlast hl hreq d
  have hsync := syncSvc_kept ((bindOpen c b d cid x o).2.bindDone (bindOpen c b d cid x o).1 d)
  rw [bindIn_eq, hnext]
  exact ⟨⟨_, _, _, hdone.of_svc (hsync.kept.svc (by simp))⟩, hpool.trans (hdpool.trans (.of_pond (hsync.kept.pond (by simp)))),
    fun q e he => ((he.of_fr hfr (by simp)).of_fr hdfr (by simp)).of_fr hsync (by simp)⟩

theorem updDrop_drop (c : Chip) (n : Port) (f : Drop → Drop) : ((c.updDrop n f).ports[n]).drop = f (c.ports[n]).drop := by
  rw [Chip.updDrop, updPort_same]

theorem svcCtl_ctls (c : Chip) (b : Bind) (by_ : CtlBy) (setup out : List Byte) :
    ∃ y, ((c.svcCtl b by_ setup out).ports[b.port]).drop.ctls = (c.ports[b.port]).drop.ctls ++ [y] ∧ (y.route, y.by_) = (b.route, by_) :=
  ⟨{ route := b.route, by_ := by_, setup := setup, out := out, span := ms 500, deadline := c.clk.now + ms 500
     epoch := some (c.ports[b.port]).epoch }, congrArg Drop.ctls (updDrop_drop c b.port _), rfl⟩

/-- A binding of another kind waits for its setup requests. -/
theorem bindIn_setup {c : Chip} {l : List Bind} {b : Bind} (h : LastBind c l b) (hl : ∀ y ∈ l, Bind.is b.port b.route b.iface y = false)
    (hk : b.kind = kHID ∨ b.kind = kCDC ∨ b.kind = kPRINTER) (d : Dev) (cid : Nat) (x : Strm) (o : Option Strm) :
    (∃ g su, LastBind (c.bindIn b d cid x o) l { b with pending := some .setup, cid := cid, gen := g, setup := su }) ∧
    PoolKept c (c.bindIn b d cid x o) ∧ (∃ y, ((c.bindIn b d cid x o).ports[b.port]).drop.ctls = (c.ports[b.port]).drop.ctls ++ [y] ∧
      (y.route, y.by_) = (b.route, .setup b.iface)) := by
  obtain ⟨hpool, hfr⟩ := bindOpen_kept c b d cid x o
  have hlast := bindOpen_last h hl d cid x o
  obtain ⟨y, t, hcons⟩ : ∃ y t, (bindOpen c b d cid x o).1.setup = y :: t := by
    have hsome : ∃ y t, (c.setBody cid (.service { kind := b.kind, state := 1, iface := b.iface, profile := b.profile, stream := (x.cid, x.gen), out := o.map (fun x => (x.cid, x.gen)), fill := 0, keymap := 0, pstat := 0#8, rseq := 0#32, job := 0 })).setupReqs b d = y :: t := by
      rcases hk with hk | hk | hk <;> simp [Chip.setupReqs, hk, kHID, kCDC, kPRINTER]
    exact hsome
  obtain ⟨m, hm⟩ : ∃ m, (bindOpen c b d cid x o).2.updBind (bindOpen c b d cid x o).1 (fun y => { y with setup := t }) = m := ⟨_, rfl⟩
  have hmlast : LastBind m l { (bindOpen c b d cid x o).1 with setup := t } := hm ▸ hlast.updBind hl (by simp [Bind.is, bindOpen])
  have hmports : m.ports = c.ports := by rw [← hm]; exact hfr.kept.ports (by simp)
  have hnext : (bindOpen c b d cid x o).2.bindNext (bindOpen c b d cid x o).1 d =
      m.svcCtl (bindOpen c b d cid x o).1 (.setup b.iface) y.1 y.2 := by
    rw [Chip.bindNext, hcons, ← hm]
    rfl
  have hsync := syncSvc_kept (m.svcCtl (bindOpen c b d cid x o).1 (.setup b.iface) y.1 y.2)
  rw [bindIn_eq, hnext]
  refine ⟨⟨_, _, (hmlast.of_svc rfl).of_svc (hsync.kept.svc (by simp))⟩, hpool.trans ?_, ?_⟩
  · refine PoolKept.trans (b := m.svcCtl (bindOpen c b d cid x o).1 (.setup b.iface) y.1 y.2) (.of_pond ?_) (.of_pond (hsync.kept.pond (by simp)))
    rw [← hm]
    rfl
  · rw [hsync.kept.ports (by simp), ← hmports]
    exact svcCtl_ctls m (bindOpen c b d cid x o).1 _ _ _

/-- A binding whose streams are open gets its context (R206). -/
theorem tryBind_in {a : Chip} {b : Bind} {d : Dev} {x : Strm} {o : Option Strm} (hd : a.dev? b.port b.route = some d)
    (hst : a.bindStreams b = some (x, o)) (hr : a.pond.rebuild = false) (hv : a.allocVerdict (hPort b.port) 1 = rOK) :
    ∃ cid, a.tryBind b = (a.take (hPort b.port) (.of tSERVICE d.cid) 1).2.bindIn b d cid x o ∧
      cid ∈ (a.take (hPort b.port) (.of tSERVICE d.cid) 1).1 := by
  obtain ⟨cid, hcid⟩ : ∃ cid, (a.take (hPort b.port) (.of tSERVICE d.cid) 1).1 = [cid] := List.length_eq_one_iff.1 (take_length _ _ _ _)
  refine ⟨cid, ?_, by rw [hcid]; simp⟩
  rw [Chip.tryBind, hd]
  dsimp only
  rw [hst]
  dsimp only
  rw [hr, if_neg Bool.false_ne_true, alloc_eq_verdict _ _ _ (by decide), if_pos hv, hcid]

theorem bindStreams_some {c : Chip} {b : Bind} {t : Strm} (hst : c.strm? b.stream = some t) (ho : b.out = 0xFFFF#16 ∨ (c.strm? b.out).isSome = true) :
    ∃ x o, c.bindStreams b = some (x, o) := by
  rw [Chip.bindStreams, hst]
  dsimp only
  split
  · exact ⟨_, _, rfl⟩
  · next hne =>
    obtain ⟨y, hy⟩ := Option.isSome_iff_exists.1 (ho.resolve_left hne)
    exact ⟨t, some y, by rw [hy]; rfl⟩

theorem kinds_of_accepts {k : Nat} {x : IfDesc} {d : Dev} (h : kindAccepts k x d = true) (hk : k ≠ kRAW) : k = kHID ∨ k = kCDC ∨ k = kPRINTER := by
  unfold kindAccepts at h
  split at h
  · exact .inl rfl
  · exact .inr (.inl rfl)
  · exact .inr (.inr rfl)
  · exact absurd rfl hk
  · exact absurd h Bool.false_ne_true

theorem take_typ_of {c : Chip} {h : Fin 99} {p n i : Nat} {t : Nat} (hi : i ∈ (c.take h (.of t p) n).1) :
    ((c.take h (.of t p) n).2.ctx i).typ = t ∧ ((c.take h (.of t p) n).2.ctx i).holder = h.val := by
  obtain ⟨x, hx⟩ := take_granted hi
  rw [hx]
  exact ⟨rfl, rfl⟩

theorem runs_svcBind_in {n : Port} {r : BitVec 20} {d : Dev} {i k p : Nat} {x : IfDesc} {st o : BitVec 16} {f : Bool} {t : Strm}
    (hg : s.chip.pond.grants = []) (h : ForPort s.chip q 0x0801#16 n e) (hd : s.chip.isDrop n = true) (hb : Bindable s.chip n r d i x k p)
    (hcov : (coveredIfs k i d).any (fun j => s.chip.covered n d j) = false) (hroom : s.chip.bindRoom n = true)
    (hf : f = false ∨ s.chip.svc.bindRules.length < 256) (hst : s.chip.strm? st = some t)
    (ho : o = 0xFFFF#16 ∨ (s.chip.strm? o).isSome = true) (hr : s.chip.pond.rebuild = false) (hv : s.chip.allocVerdict (hPort n) 1 = rOK) :
    Runs (.svcBind q r i k p st o f) s (fun c => ∃ b, c.bind? n r i = some b ∧
      (b.kind, b.profile, b.stream, b.door) = (k, p, st, some q.door) ∧
      (c.ctx b.cid).typ = tSERVICE ∧ (c.ctx b.cid).holder = n.val ∧
      (k = kRAW → b.pending = none ∧ Answered c q e rOK [b.cid, b.gen.toNat]) ∧
      (k ≠ kRAW → (b.pending, b.req) = (some .setup, some q) ∧
        ∃ y, (c.ports[n]).drop.ctls = (s.chip.ports[n]).drop.ctls ++ [y] ∧ (y.route, y.by_) = (r, .setup i))) := by
  obtain ⟨a, hadd, hbody⟩ := svcBindBody_bound (q := q) (p := p) (st := st) (o := o) (c := Taken s.chip q) ((taken_dev? _ _ _ _).trans hb.dev)
    (by simpa [Chip.covered] using hcov) (by simpa [Chip.bindRoom] using hroom) (by simpa using hf)
  have hnone : ∀ y ∈ (Taken s.chip q).svc.binds, Bind.is n r i y = false := by rw [taken_svc]; exact bind?_none hb.dev hcov
  obtain ⟨b, hbe⟩ : ∃ b, newBind n r i k p st o (some q.door) = b := ⟨_, rfl⟩
  rw [hbe] at hadd hbody
  obtain ⟨hfields, hout, hreq, his⟩ : (b.port, b.route, b.iface, b.kind, b.profile, b.stream, b.door) = (n, r, i, k, p, st, some q.door) ∧ b.out = o ∧
      b.req = none ∧ Bind.is n r i b = true := hbe ▸ ⟨rfl, rfl, rfl, newBind_is ..⟩
  simp only [Prod.mk.injEq] at hfields
  obtain ⟨hport, hroute, hiface, hkind, hprofile, hstream, hdoor⟩ := hfields
  have hstrm : ∀ id, a.strm? id = s.chip.strm? id := fun id => by rw [Chip.strm?, hadd.streams, taken_svc, Chip.strm?]
  have hpond : a.pond = s.chip.pond := (hadd.kept.kept.pond (by simp)).trans (taken_pond _ _)
  obtain ⟨y, z, hyz⟩ := bindStreams_some (c := a) (b := b) (by rw [hstrm, hstream]; exact hst) (by rw [hstrm, hout]; exact ho)
  obtain ⟨cid, htry, hcid⟩ := tryBind_in (by rw [hport, hroute]; exact hadd.dev) hyz (by rw [hpond]; exact hr)
    (by rw [hport, hadd.verdict, taken_allocVerdict]; exact hv)
  obtain ⟨htyp, hholder⟩ := take_typ_of hcid
  have hgrants : (a.take (hPort b.port) (.of tSERVICE d.cid) 1).2.pond.grants = [] := by rw [take_grants, hpond]; exact hg
  have hfr : Fr (keeping [.reqs, .svc, .ports] []) a (a.take (hPort b.port) (.of tSERVICE d.cid) 1).2 := by
    apply Chip.take_fr2 (Fr.refl _ a) <;> simp
  obtain ⟨t, ht⟩ : ∃ t, (a.take (hPort b.port) (.of tSERVICE d.cid) 1).2 = t := ⟨_, rfl⟩
  rw [ht] at htry htyp hholder hgrants hfr
  have hlast : LastBind t (Taken s.chip q).svc.binds b := hadd.last.of_svc (hfr.kept.svc (by simp))
  have hnone' : ∀ y ∈ (Taken s.chip q).svc.binds, Bind.is b.port b.route b.iface y = false := by rw [hport, hroute, hiface]; exact hnone
  have hexe := ((executes_taken h.can).of_fr hadd.kept (by simp)).of_fr hfr (by simp)
  have hhold : (hPort b.port).val = n.val := by rw [hport]; exact Nat.mod_eq_of_lt (Nat.lt_trans n.isLt (by decide))
  have hports : t.ports = s.chip.ports := (hfr.kept.ports (by simp)).trans ((hadd.kept.kept.ports (by simp)).trans (taken_ports _ _))
  by_cases hraw : k = kRAW
  · obtain ⟨⟨g, su, m, hin⟩, hpool, hkeep⟩ := bindIn_raw hlast hnone' hreq (hkind.trans hraw) d cid y z
    have hbind := hin.bind? hnone (n := n) (r := r) (i := i) (by simpa [Bind.is] using his)
    have hans := answer_fr (t.bindIn b d cid y z) q rOK [cid, g.toNat] 4
    have hfin : bindAnswer q n r i (a.tryBind b) = (t.bindIn b d cid y z).answer q rOK [cid, g.toNat] 4 := by
      rw [htry, bindAnswer, hbind]
    have hctx : ((t.bindIn b d cid y z).answer q rOK [cid, g.toNat] 4).ctx cid = (t.bindIn b d cid y z).ctx cid :=
      ctx_of_ctxs (by rw [pond_of_answer_fr hans]) cid
    refine runs_svcBind h hd hb ?_ ?_ <;> rw [hbody, hfin]
    · rw [pond_of_answer_fr hans, hpool.grants, hgrants]
    · refine ⟨{ b with pending := none, req := none, cid := cid, gen := g, setup := su, pollAt := m }, ?_, ?_, ?_, ?_, fun _ => ⟨?_, ?_⟩,
        fun hno => absurd hraw hno⟩
      · rw [Chip.bind?, hans.kept.svc (by decide)]
        exact hbind
      · simp [hkind, hprofile, hstream, hdoor]
      · exact (congrArg Ctx.typ hctx).trans ((hpool.typ cid).trans htyp)
      · exact (congrArg Ctx.holder hctx).trans ((hpool.holder cid).trans (hholder.trans hhold))
      · rfl
      · exact (hkeep q e hexe).answered _ _ _
  · obtain ⟨⟨g, su, hin⟩, hpool, w, hctls, hw⟩ := bindIn_setup hlast hnone' (by rw [hkind]; exact kinds_of_accepts hb.kind hraw) d cid y z
    have hbind := hin.bind? hnone (n := n) (r := r) (i := i) (by simpa [Bind.is] using his)
    obtain ⟨b', hb'⟩ : ∃ b', ({ b with pending := some .setup, cid := cid, gen := g, setup := su } : Bind) = b' := ⟨_, rfl⟩
    have hfin : bindAnswer q n r i (a.tryBind b) = (t.bindIn b d cid y z).updBind b' (fun x => { x with req := some q }) := by
      rw [htry, bindAnswer, hbind, ← hb']
    have hupd := hin.updBind (b' := b') (f := fun x => { x with req := some q }) (by rw [← hb']; exact hnone') (by rw [← hb']; simp [Bind.is])
    refine runs_svcBind h hd hb ?_ ?_ <;> rw [hbody, hfin]
    · exact hpool.grants.trans hgrants
    · refine ⟨_, hupd.bind? hnone (n := n) (r := r) (i := i) (by simpa [Bind.is] using his), ?_, ?_, ?_, fun hyes => absurd hyes hraw, fun _ => ⟨rfl, w, ?_, ?_⟩⟩
      · simp [hkind, hprofile, hstream, hdoor]
      · exact (hpool.typ cid).trans htyp
      · exact (hpool.holder cid).trans (hholder.trans hhold)
      · subst hport
        rw [← hports]
        exact hctls
      · rw [hw, hroute, hiface]

end

/-- Settles O24: SVC_BIND by the binding at the end of the list (`LastBind`), ends by `endBind_binds` and `endBind_typ`, streams by
`streamOpenBody_eq` and `closeStream_closed`. -/
theorem svcRequests : Obligations.SvcRequests := by
  unfold Obligations.SvcRequests
  intro s _ hg q e
  refine ⟨?_, ?_, ?_, ?_, ?_, ?_, ?_⟩
  · exact fun n r d i x k p st o f t h hd hdev hi hc hp hk hcov hroom hf hst ho hr hv =>
      runs_svcBind_in hg h hd ⟨hdev, hi, hc, hp, hk⟩ hcov hroom hf hst ho hr hv
  · exact fun n r d i x k p st o f h hd hdev hi hc hp hk hcov hroom hf hst =>
      runs_svcBind_noStream hg h hd ⟨hdev, hi, hc, hp, hk⟩ hcov hroom hf hst
  · exact fun n r d i x k p st o f h hd hdev hi hc hp hk hcov => runs_svcBind_covered hg h hd ⟨hdev, hi, hc, hp, hk⟩ hcov
  · exact fun n r i b f h hd hw hb hreq => runs_svcUnbind hg h hd hw hb hreq
  · exact fun n f k h hd hk => runs_svcList hg h hd hk
  · exact fun id port depth w hs hr hid hdepth hno hbinds hv hfits => runs_streamOpen hg hs hr hid hdepth hno hbinds hv hfits
  · exact fun cid g x hs hw hx hd hreq => runs_streamClose hg hs hw hx hd hreq

end Sys2Proof.Proofs

namespace Sys2Proof.Proofs

open Sys2Proof.Machine Sys2Proof.Laws

/-! Identity, roles, the trunk mode and the integrity opcodes (01 R28, 05 R115, 17 R348). -/

section
variable {s : State} {q : ReqId} {e : ReqEntry}

theorem runs_identify (hs : Startable s.chip q 0x0101#16 [0, 4] e) : Runs (.identify q) s (fun c => Answered c q e rOK
    [Config.serial.toNat, 0x9600, Config.gradeCode, s.chip.fw.fwVersion.toNat, s.chip.fw.ucodeVersion.toNat]) := by
  have hexec : exec (.identify q) s = execIdentify q s := rfl
  refine runs_served hs hexec ?_
  rw [taken_fw]
  exact answered_taken hs _ _ _

theorem runs_roleMap {b : Nat} (hs : Startable s.chip q 0x010A#16 [0, 4] e) (hb : b < 16) : Runs (.roleMap q b) s (fun c => Answered c q e rOK
    ((basinEngines b).flatMap (fun x => [x.val, (s.chip.engines[x]).mapCode]))) := by
  have hexec : exec (.roleMap q b) s = execRoleMap q b s := rfl
  refine runs_served hs hexec ?_
  rw [if_neg (Nat.not_le.2 hb), taken_engines]
  exact answered_taken hs _ _ _

/-! ### TRUNK_MODE -/

theorem taken_laneEn (c : Chip) (q : ReqId) (l : LaneId) : (Taken c q).laneEn l = c.laneEn l := by
  rw [Chip.laneEn, Chip.laneEn, Chip.bitAt, Chip.bitAt, taken_rd c q (by decide)]

theorem runs_trunkMode_refused {p t : Bool} (hs : Startable s.chip q 0x0141#16 [0, 4] e) (hl : s.chip.laneEn 0 = false ∨ s.chip.laneEn 1 = false) :
    Runs (.trunkMode q p t) s (fun c => Answered c q e rBAD_ARG [] ∧ c.rd .TRK_CTL = s.chip.rd .TRK_CTL) := by
  have hexec : exec (.trunkMode q p t) s = execTrunkMode q p t s := rfl
  refine runs_served hs hexec ?_
  rw [if_pos (by rcases hl with hl | hl <;> simp [taken_laneEn, hl])]
  refine ⟨answered_taken hs _ _ _, ?_⟩
  rw [(answer_fr (Taken s.chip q) q rBAD_ARG [] 0).kept.regs .TRK_CTL rfl, taken_rd _ _ (by decide)]

/-- TRK_CTL with its mode and its preferred lane written. -/
def modeWritten (c : Chip) (p t : Bool) : Chip := (c.setB .TRK_CTL F.TRK_CTL_MODE p).setB .TRK_CTL F.TRK_CTL_PREF_ACTIVE t

theorem modeWritten_laneEn {c : Chip} (h : Canon c) (p t : Bool) (l : LaneId) : (modeWritten c p t).laneEn l = c.laneEn l := by
  have hl := l.isLt
  rw [Chip.laneEn, Chip.laneEn, bitAt_eq_bit _ _ _ _ .rw, bitAt_eq_bit _ _ _ _ .rw]
  exact (bit_setF_field _ (canon_setF h _ _ _) _ _ _ _ (by decide) (by simp only [F.TRK_CTL_LANE_EN_TA]; omega)
    (by simp only [F.TRK_CTL_LANE_EN_TA, F.TRK_CTL_PREF_ACTIVE]; omega)).trans
    (bit_setF_field _ h _ _ _ _ (by decide) (by simp only [F.TRK_CTL_LANE_EN_TA]; omega)
      (by simp only [F.TRK_CTL_LANE_EN_TA, F.TRK_CTL_MODE]; omega))

/-- With both lanes enabled before and after, the mode's change opens and loses no lane. -/
theorem trkCtl_kept {c : Chip} {old : Word} (hold : ∀ l : LaneId, old.getLsbD (F.TRK_CTL_LANE_EN_TA.lo + l.val) = true) (hen : ∀ l, c.laneEn l = true) :
    (c.trkCtl old).rd .TRK_CTL = c.rd .TRK_CTL ∧ (c.trunk.swap = none → Fr (keeping [.reqs] []) c (c.trkCtl old)) := by
  unfold Chip.trkCtl
  extract_lets was freed pref c1 c2 toPair released c3 c4
  have hfreed : freed = [] := List.filter_eq_nil_iff.2 fun l _ => by simp [was, hold l]
  have hlost : (List.finRange 2).filter (fun l => !c1.laneEn l && was l) = [] := by
    have hc1 : c1 = c := if_pos (by rw [hfreed]; rfl)
    exact List.filter_eq_nil_iff.2 fun l _ => by simp [hc1, hen l]
  have hc2 : c2 = c := by
    show c1.each _ _ = c
    rw [hlost]
    exact if_pos (by rw [hfreed]; rfl)
  have h3 : Fr (keeping [.reqs, .trunk] [.TRK_CTL]) c c3 := by
    rw [← hc2]
    unfold c3
    split
    · apply Chip.setActive_fr (Fr.refl _ _)
      simp
    · exact Fr.refl _ _
  have h4 : Fr (keeping [] [.TRK_CTL]) c3 c4 ∧ (c.trunk.swap = none → c4 = c3) := by
    unfold c4
    split
    · refine ⟨by apply Chip.dropSwap_fr (Fr.refl _ c3) <;> simp, fun hs => ?_⟩
      rw [Chip.dropSwap, h3.kept.trunk (by simp), hs]
    · exact ⟨Fr.refl _ _, fun _ => rfl⟩
  have hend : Fr (keeping [.reqs] [.TRK_CTL]) c4 c4.syncTrunk.swapDegraded := by
    refine Chip.swapDegraded_fr (Chip.syncTrunk_fr (Fr.refl _ c4) ?_) ?_ ?_ <;> simp
  refine ⟨?_, fun hs => ?_⟩
  · rw [hend.kept.regs .TRK_CTL (by simp), h4.1.kept.regs .TRK_CTL (by simp), h3.kept.regs .TRK_CTL (by simp)]
  · rw [h4.2 hs]
    refine Chip.swapDegraded_fr (Chip.syncTrunk_fr ?_ ?_) ?_ ?_
    · rw [← hc2]
      unfold c3
      split
      · apply Chip.setActive_fr (Fr.refl _ _)
        simp
      · exact Fr.refl _ _
    all_goals simp

theorem runs_trunkMode {p t : Bool} (hcanon : Canon s.chip) (hs : Startable s.chip q 0x0141#16 [0, 4] e) (h0 : s.chip.laneEn 0 = true)
    (h1 : s.chip.laneEn 1 = true) :
    Runs (.trunkMode q p t) s (fun c => c.pair = p ∧ c.bit .TRK_CTL F.TRK_CTL_PREF_ACTIVE = t ∧
      (s.chip.trunk.swap = none → Answered c q e rOK [])) := by
  have hexec : exec (.trunkMode q p t) s = execTrunkMode q p t s := rfl
  have hc := canon_taken hcanon q
  have hen : ∀ l, (Taken s.chip q).laneEn l = true := fun l => by
    rw [taken_laneEn]
    match l with
    | 0 => exact h0
    | 1 => exact h1
  obtain ⟨hrd, hfr⟩ := trkCtl_kept (c := modeWritten (Taken s.chip q) p t) (old := (Taken s.chip q).rd .TRK_CTL) hen
    (fun l => (modeWritten_laneEn hc p t l).trans (hen l))
  obtain ⟨d, hd⟩ : ∃ d, (modeWritten (Taken s.chip q) p t).trkCtl ((Taken s.chip q).rd .TRK_CTL) = d := ⟨_, rfl⟩
  rw [hd] at hrd hfr
  have hans : (d.answer q rOK).rd .TRK_CTL = (modeWritten (Taken s.chip q) p t).rd .TRK_CTL :=
    ((answer_fr d q rOK [] 0).kept.regs .TRK_CTL rfl).trans hrd
  refine runs_of_run_eq (d := d.answer q rOK) hexec ?_ ⟨?_, ?_, fun hswap => ?_⟩
  · refine (serve_start hs _).trans ?_
    refine (if_neg ?_).trans (congrArg (fun d => d.answer q rOK) hd)
    have h0' := hen 0
    have h1' := hen 1
    simp only [Taken] at h0' h1'
    simp [h0', h1']
  · rw [Chip.pair, bit_of_rd hans]
    exact (bit_setF_field _ (canon_setF hc _ _ _) _ _ _ _ (by decide) (by decide) (by decide)).trans (bit_setF_same _ hc _ _ _ (by decide))
  · rw [bit_of_rd hans]
    exact bit_setF_same _ (canon_setF hc _ _ _) _ _ _ (by decide)
  · have htrunk : (Taken s.chip q).trunk = s.chip.trunk := (taken_fr s.chip q).kept.trunk (by decide)
    have hwritten : Fr (keeping [.reqs] []) (Taken s.chip q) (modeWritten (Taken s.chip q) p t) := by
      refine Chip.setB_fr (Chip.setB_fr (Fr.refl _ _) ?_) ?_ <;> simp
    exact (((executes_taken hs).of_fr hwritten (by simp)).of_fr (hfr (by rw [← htrunk] at hswap; exact hswap)) (by simp)).answered _ _ _

/-! ### FAULT_STATUS and ENGINE_RELEASE -/

theorem runs_faultStatus (hs : Startable s.chip q 0x0180#16 [0] e) : Runs (.faultStatus q) s (fun c => Answered c q e rOK
    ((([.GLB_FAULT, .ESC_LAST, .INT_QPTR, .INT_RES, .INT_CRC] : List Reg) ++
      (List.finRange 16).flatMap (fun b => [Reg.ENG_QUAR b, Reg.ENG_BASIN b])).map (fun r => (s.chip.readWord r).toNat))) := by
  have hexec : exec (.faultStatus q) s = execFaultStatus q s := rfl
  have hread : ∀ r ∈ (([.GLB_FAULT, .ESC_LAST, .INT_QPTR, .INT_RES, .INT_CRC] : List Reg) ++
      (List.finRange 16).flatMap (fun b => [Reg.ENG_QUAR b, Reg.ENG_BASIN b])), (Taken s.chip q).readWord r = s.chip.readWord r := by
    intro r hr
    have hlive : (Taken s.chip q).liveWord r = s.chip.liveWord r := by
      simp only [List.mem_append, List.mem_cons, List.not_mem_nil, or_false, List.mem_flatMap] at hr
      obtain (rfl | rfl | rfl | rfl | rfl) | ⟨b, -, rfl | rfl⟩ := hr
      all_goals exact taken_rd _ _ nofun
    rw [Chip.readWord, hlive, Chip.readWord]
  refine runs_served hs hexec ?_
  dsimp only
  rw [List.map_congr_left (fun r hr => congrArg BitVec.toNat (hread r hr))]
  exact answered_taken hs _ _ _

/-- What ENGINE_RELEASE does for an engine that is there. -/
theorem runs_engineRelease_of {x : Engine} {pass : Bool} {d : Chip} {p : Chip → Prop} (hs : Startable s.chip q 0x0181#16 [0] e)
    (hq : (s.chip.engines[x]).quar = true)
    (hd : (if pass = false then (Taken s.chip q).answer q rLOCKED else ((Taken s.chip q).releaseEngine x).answer q rOK) = d) (hp : p d) :
    Runs (.engineRelease q x.val pass) s p := by
  have hexec : exec (.engineRelease q x.val pass) s = execEngineRelease q x.val pass s := rfl
  refine runs_of_run_eq (d := d) hexec ((serve_start hs _).trans ?_) hp
  have hthere : ¬ (512 ≤ x.val ∨ (!((Taken s.chip q).engines[x]).quar) = true) := by
    rw [taken_engines, hq]
    simp
  simp only [finOf_val]
  refine (if_neg hthere).trans (Eq.trans ?_ hd)
  cases pass <;> rfl

theorem runs_engineRelease_failed {x : Engine} (hs : Startable s.chip q 0x0181#16 [0] e) (hq : (s.chip.engines[x]).quar = true) :
    Runs (.engineRelease q x.val false) s (fun c => Answered c q e rLOCKED [] ∧ c.engines = s.chip.engines) := by
  exact runs_engineRelease_of hs hq (if_pos rfl)
    ⟨answered_taken hs _ _ _, ((answer_fr _ _ _ _ _).kept.engines (by decide)).trans (taken_engines _ _)⟩

/-- The engine back among the spares, before its bit of ENG_QUAR goes. -/
def engineFreed (c : Chip) (x : Engine) : Chip :=
  (c.takeOver x).updEng x (fun y => { y with role := .spare, also := [], quar := false, overruns := [] })

theorem canon_engineFreed {c : Chip} (h : Canon c) (x : Engine) : Canon (engineFreed c x) := by
  have hf : Fr (keeping [] []) c (engineFreed c x) := by
    refine Chip.updEng_fr (Chip.takeOver_fr (Fr.refl _ c) ?_ ?_ ?_ ?_ ?_ ?_ ?_ ?_) ?_ <;> simp
  exact hf.canon h

theorem getLsbD_and_not_shift (w : Word) {i : Nat} (h : i < 32) : (w &&& ~~~(1#32 <<< i)).getLsbD i = false := by
  simp [h]

/-- What settles the basin's counts and tells of a released engine leaves its engines and ENG_QUAR. -/
theorem releaseTold_fr (c : Chip) (b k : Basin) (ev : Event) : Fr (keeping [.engines] [.ENG_QUAR k]) c ((c.syncBasin b).post ev) := by
  refine Chip.post_fr (Chip.syncBasin_fr (Fr.refl _ c) ?_) ?_ <;> simp

theorem releaseEngine_released {c : Chip} (h : Canon c) (x : Engine) :
    ((c.releaseEngine x).engines[x]).quar = false ∧ ((c.releaseEngine x).engines[x]).role = .spare ∧
    ((c.releaseEngine x).rd (.ENG_QUAR (Fin.ofNat 16 (x.val / 32)))).getLsbD (x.val % 32) = false := by
  have htold : ∀ (d : Chip) ev, Fr _ d ((d.syncBasin (Fin.ofNat 16 (x.val / 32))).post ev) := fun d ev =>
    releaseTold_fr d _ (Fin.ofNat 16 (x.val / 32)) ev
  have hengine : (c.releaseEngine x).engines[x] =
      { (c.takeOver x).engines[x] with role := .spare, also := [], quar := false, overruns := [] } := by
    have hkept : (c.releaseEngine x).engines = (engineFreed c x).engines := (htold _ _).kept.engines (by simp)
    rw [hkept]
    exact updEng_same _ _ _
  have hrd : (c.releaseEngine x).rd (.ENG_QUAR (Fin.ofNat 16 (x.val / 32))) =
      (engineFreed c x).rd (.ENG_QUAR (Fin.ofNat 16 (x.val / 32))) &&& ~~~(1#32 <<< (x.val % 32)) :=
    ((htold _ _).kept.regs _ (by simp)).trans (rd_wr_same _ (canon_engineFreed h x) _ _)
  rw [hengine, hrd]
  exact ⟨rfl, rfl, getLsbD_and_not_shift _ (Nat.mod_lt _ (by decide))⟩

theorem runs_engineRelease {x : Engine} (hcanon : Canon s.chip) (hs : Startable s.chip q 0x0181#16 [0] e) (hq : (s.chip.engines[x]).quar = true) :
    Runs (.engineRelease q x.val true) s (fun c => Answered c q e rOK [] ∧ (c.engines[x]).quar = false ∧
      (c.engines[x]).role = .spare ∧ (c.rd (.ENG_QUAR (Fin.ofNat 16 (x.val / 32)))).getLsbD (x.val % 32) = false) := by
  have hreqs : Fr (keeping [.reqs] []) (Taken s.chip q) ((Taken s.chip q).releaseEngine x) := by
    apply Chip.releaseEngine_fr (Fr.refl _ _) <;> simp
  have hans := answer_fr ((Taken s.chip q).releaseEngine x) q rOK [] 0
  refine runs_engineRelease_of hs hq (if_neg (by decide)) ?_
  rw [hans.kept.engines (by decide), hans.kept.regs _ rfl]
  exact ⟨((executes_taken hs).of_fr hreqs (by simp)).answered _ _ _, releaseEngine_released (canon_taken hcanon q) x⟩

end

/-- Settles O11: the trunk's mode by `trkCtl_kept`, an engine's release by `releaseEngine_released`. -/
theorem doorInformation : Obligations.DoorInformation := by
  unfold Obligations.DoorInformation
  intro s hcanon
  refine ⟨?_, ?_, ?_, ?_, ?_, ?_⟩
  · exact fun q e hs => runs_identify hs
  · exact fun q e b hs hb => runs_roleMap hs hb
  · exact fun q e p t hs h0 h1 => runs_trunkMode hcanon hs h0 h1
  · exact fun q e p t hs hl => runs_trunkMode_refused hs hl
  · exact fun q e hs => runs_faultStatus hs
  · exact fun q e x hs hq => ⟨runs_engineRelease hcanon hs hq, runs_engineRelease_failed hs hq⟩

end Sys2Proof.Proofs

namespace Sys2Proof.Proofs

open Sys2Proof.Machine Sys2Proof.Laws

/-! Nodes come and go on a line, and their timers run (11 R237, R240 to R243). -/

section
variable {s : State} {n : Port}

theorem takeUlp_nodes (c : Chip) (n : Port) (kind src : Nat) : ((c.takeUlp n kind src).ports[n]).line.nodes = (c.ports[n]).line.nodes := by
  rw [Chip.takeUlp, updLine_line]

theorem node?_of_nodes {c d : Chip} {n : Port} (h : (d.ports[n]).line.nodes = (c.ports[n]).line.nodes) (a : Nat) : d.node? n a = c.node? n a := by
  rw [Chip.node?, Chip.node?, h]

theorem nodeBody_of_ctx {c d : Chip} {r : NodeRt} (h : d.ctx r.cid = c.ctx r.cid) : d.nodeBody r = c.nodeBody r := by
  rw [Chip.nodeBody, Chip.nodeBody, h]

theorem engWrite_nodeBody (c : Chip) (n : Port) (r : NodeRt) (b : NodeBody) : (c.engWrite n r.cid (.node b)).nodeBody r = b := by
  have hctx : (c.engWrite n r.cid (.node b)).ctx r.cid = { c.ctx r.cid with body := .node b } :=
    (ctx_of_ctxs (by rw [Chip.engWrite, touchBy_pond]) _).trans (setBody_ctx _ _ _)
  rw [Chip.nodeBody, hctx]

theorem updNodeBody_nodeBody (c : Chip) (n : Port) (r : NodeRt) (f : NodeBody → NodeBody) : (c.updNodeBody n r f).nodeBody r = f (c.nodeBody r) :=
  engWrite_nodeBody c n r _

theorem engWrite_kept (c : Chip) (n : Port) (i : Nat) (b : Body) : PoolKept c (c.engWrite n i b) ∧ (c.engWrite n i b).ports = c.ports := by
  have hf : Fr (keeping [.ports] []) c (c.engWrite n i b) := by apply Chip.engWrite_fr (Fr.refl _ c) <;> simp
  exact ⟨(setBody_poolKept c i b).trans (touchBy_poolKept _ _ _ _), hf.kept.ports (by simp)⟩

/-! ### Claims (R240) -/

theorem sendUlp_kept (c : Chip) (n : Port) (f : CanFrame) (u : TxFor) : (c.sendUlp n f u).pond = c.pond := rfl

theorem sendUlp_epochs (c : Chip) (n : Port) (f : CanFrame) (u : TxFor) : ((c.sendUlp n f u).ports[n]).nodeEpochs = (c.ports[n]).nodeEpochs := by
  rw [Chip.sendUlp, Chip.updLine, updPort_same]

theorem bumpNode_epochs (p : PortSt) (a : Nat) : (lookupNat (p.bumpNode a).nodeEpochs a).getD 0#16 = (lookupNat p.nodeEpochs a).getD 0#16 + 1 := by
  unfold PortSt.bumpNode
  extract_lets v
  dsimp only
  split
  · next h => rw [lookupNat_eraseNat_same]; exact h.symm
  · rw [lookupNat_insertNat_same]
    rfl

theorem epochOf_node (c : Chip) (n : Port) {a : Nat} (ha : a < 128) :
    c.epochOf 3 (nodeIndex n.val a) = (lookupNat (c.ports[n]).nodeEpochs a).getD 0#16 := by
  have hport : nodePort (nodeIndex n.val a) = n.val := by unfold nodePort nodeIndex; omega
  have haddr : nodeAddr (nodeIndex n.val a) = a := by unfold nodeAddr nodeIndex; omega
  simp only [Chip.epochOf, hport, haddr, n.isLt, dif_pos, Fin.getElem_fin]

theorem freeAddr_spec {l : Line} {a : Nat} (h : l.freeAddr = some a) : a < 128 ∧ ∀ r ∈ l.nodes, (r.addr == a) = false := by
  have hmem := List.mem_of_find?_eq_some h
  have hp := List.find?_some h
  simp only [List.mem_map, List.mem_range] at hmem
  simp only [Bool.and_eq_true, Bool.not_eq_true', List.any_eq_false] at hp
  obtain ⟨k, hk, rfl⟩ := hmem
  exact ⟨by omega, fun r hr => by simpa using hp.1 r hr⟩

/-- What an assignment leaves (R240). -/
structure Assigned (c d : Chip) (n : Port) (a : Nat) (serial tick : BitVec 64) : Prop where
  node : ∃ r, d.node? n a = some r ∧ (d.nodeBody r).serial = serial ∧ (d.nodeBody r).lastRx = tick ∧ (d.nodeBody r).nstate = nsANNOUNCING ∧
    (d.nodeBody r).addr = a
  epoch : d.epochOf 3 (nodeIndex n.val a) = c.epochOf 3 (nodeIndex n.val a) + 1
  grants : d.pond.grants = c.pond.grants

/-- A node as assigned. -/
def newNode (a cid : Nat) (gen : Byte) (restart : Bool) : NodeRt :=
  { addr := a, cid := cid, gen := gen, annDue := none, part := none, out := none, queue := [], absentAt := none, restart := restart }

/-- The body of a node as assigned. -/
def newNodeBody (serial : BitVec 64) (a pollMs : Nat) (tick : BitVec 64) : NodeBody :=
  { serial := serial, addr := a, nstate := nsANNOUNCING, objCnt := 0, run := 0, missed := 0, annTry := 1, pollMs := pollMs, lastRx := tick }

/-- The node listed at its address, its epoch raised. -/
def nodeListed (c : Chip) (n : Port) (a cid : Nat) (restart : Bool) : Chip :=
  (c.updLine n (fun l => { l with
    quar := eraseNat l.quar a, nodes := l.nodes ++ [newNode a cid (c.ctx cid).gen restart] })).bumpNode n a

theorem bumpNode_ports (c : Chip) (n : Port) (a : Nat) : ((c.bumpNode n a).ports[n]) = (c.ports[n]).bumpNode a := by
  have hpost : (c.bumpNode n a).ports = (c.updPort n (fun p => p.bumpNode a)).ports :=
    (fr_post (ps := [.ports]) (rs := []) _ _ (by simp)).kept.ports (by simp)
  rw [hpost, updPort_same]

theorem bumpNode_pond (c : Chip) (n : Port) (a : Nat) : (c.bumpNode n a).pond = c.pond :=
  (fr_post (ps := [.pond]) (rs := []) _ _ (by simp)).kept.pond (by simp)

theorem nodeListed_node? {c : Chip} {a : Nat} (hno : ∀ r ∈ (c.ports[n]).line.nodes, (r.addr == a) = false) (cid : Nat) (restart : Bool) :
    (nodeListed c n a cid restart).node? n a = some (newNode a cid (c.ctx cid).gen restart) := by
  have hline : ((nodeListed c n a cid restart).ports[n]).line.nodes = (c.ports[n]).line.nodes ++ [newNode a cid (c.ctx cid).gen restart] := by
    rw [nodeListed, bumpNode_ports]
    exact congrArg Line.nodes (updLine_line c n _)
  rw [Chip.node?, hline, List.find?_append, List.find?_eq_none.2 fun r hr => by rw [hno r hr]; exact Bool.false_ne_true]
  simp [newNode]

theorem nodeListed_epoch (c : Chip) {a : Nat} (ha : a < 128) (cid : Nat) (restart : Bool) :
    (nodeListed c n a cid restart).epochOf 3 (nodeIndex n.val a) = c.epochOf 3 (nodeIndex n.val a) + 1 := by
  rw [epochOf_node _ _ ha, epochOf_node _ _ ha, nodeListed, bumpNode_ports, bumpNode_epochs, Chip.updLine, updPort_same]

theorem assignNode_assigned {c : Chip} {a : Nat} {serial tick : BitVec 64} (ha : a < 128) (hno : ∀ r ∈ (c.ports[n]).line.nodes, (r.addr == a) = false)
    (hv : c.allocVerdict (hPort n) 1 = rOK) (restart : Bool) : Assigned c (c.assignNode n serial a tick restart) n a serial tick := by
  obtain ⟨t, ht⟩ : ∃ t, c.take (hPort n) (.of tNODE) 1 = t := ⟨_, rfl⟩
  obtain ⟨cid, hcid⟩ : ∃ cid, t.1 = [cid] := List.length_eq_one_iff.1 (ht ▸ take_length _ _ _ _)
  have hports : t.2.ports = c.ports := by
    have hf : Fr (keeping [.ports] []) c t.2 := by rw [← ht]; apply Chip.take_fr2 (Fr.refl _ c) <;> simp
    exact hf.kept.ports (by simp)
  have hgrants : t.2.pond.grants = c.pond.grants := by rw [← ht]; exact take_grants _ _ _ _
  obtain ⟨w, hw⟩ : ∃ w, t.2.engWrite n cid (.node (newNodeBody serial a (t.2.pollMs n nsANNOUNCING) tick)) = w := ⟨_, rfl⟩
  have heq : c.assignNode n serial a tick restart = (nodeListed w n a cid restart).sendAssign n serial a := by
    rw [Chip.assignNode, alloc_eq_verdict _ _ _ (by decide), if_pos hv, ht, hcid, ← hw]
    rfl
  obtain ⟨hpool, hwports⟩ := engWrite_kept t.2 n cid (.node (newNodeBody serial a (t.2.pollMs n nsANNOUNCING) tick))
  rw [hw] at hpool hwports
  have hwc : w.ports = c.ports := hwports.trans hports
  have hbody : ((nodeListed w n a cid restart).sendAssign n serial a).nodeBody (newNode a cid (w.ctx cid).gen restart) =
      newNodeBody serial a (t.2.pollMs n nsANNOUNCING) tick := by
    have hsame : w.nodeBody (newNode a cid (w.ctx cid).gen restart) = newNodeBody serial a (t.2.pollMs n nsANNOUNCING) tick :=
      hw ▸ engWrite_nodeBody t.2 n (newNode a cid (w.ctx cid).gen restart) _
    rw [← hsame]
    exact nodeBody_of_ctx (ctx_of_ctxs (by rw [Chip.sendAssign, sendUlp_kept, nodeListed, bumpNode_pond]; rfl) _)
  rw [heq]
  refine ⟨⟨newNode a cid (w.ctx cid).gen restart, ?_, ?_, ?_, ?_, ?_⟩, ?_, ?_⟩
  · rw [Chip.sendAssign, sendUlp_node?]
    exact nodeListed_node? (by rw [hwc]; exact hno) cid restart
  · rw [hbody]; rfl
  · rw [hbody]; rfl
  · rw [hbody]; rfl
  · rw [hbody]; rfl
  · rw [epochOf_node _ _ ha, Chip.sendAssign, sendUlp_epochs, ← epochOf_node _ _ ha, nodeListed_epoch _ ha, epochOf_node _ _ ha,
      epochOf_node _ _ ha, hwc]
  · rw [Chip.sendAssign, sendUlp_kept, nodeListed, bumpNode_pond]
    exact hpool.grants.trans hgrants

theorem checked_of_any {p : RxCan → Bool} {l : Line} {k a : Nat} (h : (l.checked k a).any p = true) :
    ∃ x, l.checked k a = some x ∧ p x = true := by
  cases hx : l.checked k a with
  | none => rw [hx] at h; cases h
  | some x => rw [hx] at h; exact ⟨x, rfl, h⟩

/-- What a claim's frame does where the line is served (R240). -/
theorem runs_claim {ser : BitVec 64} {x : RxCan} {p : Chip → Prop} (hs : s.chip.lineServed n = true)
    (hx : (s.chip.ports[n]).line.checked 1 127 = some x) (hser : x.serialIs ser = true) (hr : s.chip.pond.rebuild = false) {d : Chip}
    (hd : (s.chip.takeUlp n 1 127).claimNode n ser x.tick = d) (hg : d.pond.grants = []) (hp : p d) : Runs (.claim n ser) s p := by
  have hexec : exec (.claim n ser) s = execClaim n ser s := rfl
  refine runs_of_runS_eq (d := d) hexec ?_ hg hp
  rw [hx]
  dsimp only
  rw [hs, hr, hser]
  exact hd

theorem claimNode_new {c : Chip} {ser tick : BitVec 64} (h : c.nodeBySerial n ser = none) : c.claimNode n ser tick =
    (c.ports[n]).line.freeAddr.elim (c.post (c.evClaimRefused n ser rBAD_ARG)) (fun a => c.assignNode n ser a tick false) := by
  rw [Chip.claimNode, h]
  cases (c.ports[n]).line.freeAddr <;> rfl

theorem takeUlp_nodeBySerial (c : Chip) (k a : Nat) (ser : BitVec 64) : (c.takeUlp n k a).nodeBySerial n ser = c.nodeBySerial n ser := by
  rw [Chip.nodeBySerial, takeUlp_nodes]
  rfl

theorem takeUlp_freeAddr (c : Chip) (k a : Nat) : ((c.takeUlp n k a).ports[n]).line.freeAddr = (c.ports[n]).line.freeAddr := by
  rw [Chip.takeUlp, updLine_line]
  rfl

theorem takeUlp_epochOf (c : Chip) (k b : Nat) {a : Nat} (ha : a < 128) :
    (c.takeUlp n k b).epochOf 3 (nodeIndex n.val a) = c.epochOf 3 (nodeIndex n.val a) := by
  rw [epochOf_node _ _ ha, epochOf_node _ _ ha, Chip.takeUlp, Chip.updLine, updPort_same]

theorem runs_claim_assigned {ser : BitVec 64} {a : Nat} (hg : s.chip.pond.grants = []) (hs : s.chip.lineServed n = true)
    (hx : ((s.chip.ports[n]).line.checked 1 127).any (·.serialIs ser) = true) (hr : s.chip.pond.rebuild = false)
    (hno : s.chip.nodeBySerial n ser = none) (ha : (s.chip.ports[n]).line.freeAddr = some a) (hv : s.chip.allocVerdict (hPort n) 1 = rOK) :
    Runs (.claim n ser) s (fun c => ∃ r, c.node? n a = some r ∧ (c.nodeBody r).serial = ser ∧
      (∀ x, (s.chip.ports[n]).line.checked 1 127 = some x → (c.nodeBody r).lastRx = x.tick) ∧
      (c.nodeBody r).nstate = nsANNOUNCING ∧ (c.nodeBody r).addr = a ∧
      c.epochOf 3 (nodeIndex n.val a) = s.chip.epochOf 3 (nodeIndex n.val a) + 1) := by
  obtain ⟨x, hx, hser⟩ := checked_of_any hx
  obtain ⟨hlt, hfree⟩ := freeAddr_spec ha
  obtain ⟨⟨r, hnode, hserial, htick, hstate, haddr⟩, hepoch, hgrants⟩ := assignNode_assigned (c := s.chip.takeUlp n 1 127) (n := n) (serial := ser)
    (tick := x.tick) hlt (by rw [takeUlp_nodes]; exact hfree) hv false
  refine runs_claim hs hx hser hr (d := (s.chip.takeUlp n 1 127).assignNode n ser a x.tick false) ?_ (hgrants.trans hg)
    ⟨r, hnode, hserial, fun y hy => ?_, hstate, haddr, ?_⟩
  · rw [claimNode_new (by rw [takeUlp_nodeBySerial]; exact hno), takeUlp_freeAddr, ha]
    rfl
  · rw [hx] at hy
    obtain rfl := Option.some.inj hy
    exact htick
  · rw [hepoch, takeUlp_epochOf _ _ _ hlt]

theorem runs_claim_refused {ser : BitVec 64} (hg : s.chip.pond.grants = []) (hs : s.chip.lineServed n = true)
    (hx : ((s.chip.ports[n]).line.checked 1 127).any (·.serialIs ser) = true) (hr : s.chip.pond.rebuild = false)
    (hno : s.chip.nodeBySerial n ser = none) (ha : (s.chip.ports[n]).line.freeAddr = none) :
    Runs (.claim n ser) s (fun c => (c.ports[n]).line.nodes = (s.chip.ports[n]).line.nodes) := by
  obtain ⟨x, hx, hser⟩ := checked_of_any hx
  have hpost := fr_post (ps := [.ports, .pond]) (rs := []) (s.chip.takeUlp n 1 127) ((s.chip.takeUlp n 1 127).evClaimRefused n ser rBAD_ARG) (by simp)
  refine runs_claim hs hx hser hr (d := (s.chip.takeUlp n 1 127).post ((s.chip.takeUlp n 1 127).evClaimRefused n ser rBAD_ARG)) ?_ ?_ ?_
  · rw [claimNode_new (by rw [takeUlp_nodeBySerial]; exact hno), takeUlp_freeAddr, ha]
    rfl
  · rw [hpost.kept.pond (by simp)]
    exact hg
  · rw [hpost.kept.ports (by simp)]
    exact takeUlp_nodes _ _ _ _

/-! ### Announcements (R241) -/

theorem takeUlp_node? (c : Chip) (k b a : Nat) : (c.takeUlp n k b).node? n a = c.node? n a := node?_of_nodes (takeUlp_nodes c n k b) a

/-- The objects announced, written into their contexts. -/
theorem each_engWrite_kept {α : Type} (i : α → Nat) (b : α → Body) : ∀ (l : List α) (c : Chip),
    PoolKept c (c.each l (fun c x => c.engWrite n (i x) (b x))) ∧ (c.each l (fun c x => c.engWrite n (i x) (b x))).ports = c.ports
  | [], c => ⟨.refl c, rfl⟩
  | x :: t, c => by
    obtain ⟨hpool, hports⟩ := engWrite_kept c n (i x) (b x)
    obtain ⟨hpool', hports'⟩ := each_engWrite_kept i b t (c.engWrite n (i x) (b x))
    exact ⟨hpool.trans hpool', hports'.trans hports⟩

/-- What an announcement of all its objects leaves (R241). -/
theorem announced_live {c : Chip} {a : Nat} {r : NodeRt} {es : List (Nat × Nat × Nat × Nat)} (hr : c.node? n a = some r) (hk : 1 ≤ es.length ∧ es.length ≤ 64)
    (hv : c.allocVerdict (hPort n) es.length = rOK) : ((c.announced n r es).nodeBody r).nstate = nsLIVE ∧ ((c.announced n r es).nodeBody r).objCnt = es.length ∧
    ((c.announced n r es).node? n a).map (fun r => (r.annDue, r.part)) = some (none, none) ∧ (c.announced n r es).pond.grants = c.pond.grants := by
  obtain ⟨t, ht⟩ : ∃ t, c.take (hPort n) (.of tOBJ r.cid) es.length = t := ⟨_, rfl⟩
  have hports : t.2.ports = c.ports := by
    have hf : Fr (keeping [.ports] []) c t.2 := by rw [← ht]; apply Chip.take_fr2 (Fr.refl _ c) <;> simp
    exact hf.kept.ports (by simp)
  have hgrants : t.2.pond.grants = c.pond.grants := by rw [← ht]; exact take_grants _ _ _ _
  have haddr : r.addr = a := by simpa using List.find?_some hr
  obtain ⟨w, hw⟩ : ∃ w, t.2.each (es.zip t.1) (fun c p => c.engWrite n p.2 (.obj (objAnnounced p.1))) = w := ⟨_, rfl⟩
  obtain ⟨hpool, hwports⟩ := each_engWrite_kept (n := n) (fun p : (Nat × Nat × Nat × Nat) × Nat => p.2) (fun p => .obj (objAnnounced p.1)) (es.zip t.1) t.2
  rw [hw] at hpool hwports
  obtain ⟨u, hu⟩ : ∃ u, w.updNodeBody n r (fun b => { b with nstate := nsLIVE, objCnt := es.length, run := 0, missed := 0, pollMs := w.pollMs n nsLIVE }) = u :=
    ⟨_, rfl⟩
  obtain ⟨hupool, huports⟩ := engWrite_kept w n r.cid (.node { w.nodeBody r with nstate := nsLIVE, objCnt := es.length, run := 0, missed := 0, pollMs := w.pollMs n nsLIVE })
  have hunode : u.node? n a = some r := by
    rw [← hr]
    exact node?_of_ports (by rw [← hu]; exact huports.trans (hwports.trans hports)) n a
  obtain ⟨v, hve⟩ : ∃ v, u.updNode n r.addr (fun r => { r with annDue := none, part := none }) = v := ⟨_, rfl⟩
  have heq : c.announced n r es = v.post (v.evNode 0x0501 n r.addr [r.addr, (v.nodeBody r).serial.toNat, es.length]) := by
    rw [Chip.announced, alloc_eq_verdict _ _ _ hk, if_pos hv, ht, ← hve, ← hu, ← hw]
  have hpost := fr_post (ps := [.ports, .pond]) (rs := []) v (v.evNode 0x0501 n r.addr [r.addr, (v.nodeBody r).serial.toNat, es.length]) (by simp)
  have hbody : (c.announced n r es).nodeBody r = { w.nodeBody r with nstate := nsLIVE, objCnt := es.length, run := 0, missed := 0, pollMs := w.pollMs n nsLIVE } := by
    rw [← updNodeBody_nodeBody w n r (fun b => { b with nstate := nsLIVE, objCnt := es.length, run := 0, missed := 0, pollMs := w.pollMs n nsLIVE }), hu, heq]
    exact nodeBody_of_ctx (ctx_of_ctxs (by rw [hpost.kept.pond (by simp), ← hve]; rfl) _)
  refine ⟨by rw [hbody], by rw [hbody], ?_, ?_⟩
  · rw [heq, node?_of_ports (hpost.kept.ports (by simp)), ← hve, haddr, updNode_node? hunode rfl]
    rfl
  · rw [heq, hpost.kept.pond (by simp), ← hve]
    show u.pond.grants = _
    rw [← hu]
    exact hupool.grants.trans (hpool.grants.trans hgrants)

/-- An announcement that is served: its segment, the node's state and the count of its entries fit. -/
theorem runs_announce {a k : Nat} {r : NodeRt} {es : List (Nat × Nat × Nat × Nat)} {seg : Nat} {d : Chip} {p : Chip → Prop}
    (hs : s.chip.lineServed n = true) (hx : ((s.chip.ports[n]).line.checked 3 a).any (·.segmentIs seg 0 k es) = true)
    (hr : s.chip.pond.rebuild = false) (hn : s.chip.node? n a = some r) (hst : (s.chip.nodeBody r).nstate = nsANNOUNCING) (hlen : es.length = min 15 k)
    (hseg : (seg = 0 ∧ k ≤ 15) ∨ (seg = 1 ∧ 15 < k))
    (hd : (if k ≤ 15 then (if announceOk es then (s.chip.takeUlp n 3 a).announced n r es
        else (s.chip.takeUlp n 3 a).updNode n a (fun r => { r with part := none }))
      else (s.chip.takeUlp n 3 a).updNode n a (fun r => { r with part := some (k, es) })) = d) (hg : d.pond.grants = []) (hp : p d) :
    Runs (.announce n a seg 0 k es) s p := by
  have hexec : exec (.announce n a seg 0 k es) s = execAnnounce n a seg 0 k es s := rfl
  have hnode : (s.chip.takeUlp n 3 a).node? n a = some r := (takeUlp_node? _ _ _ _).trans hn
  have hbody : ((s.chip.takeUlp n 3 a).nodeBody r).nstate = nsANNOUNCING := hst
  refine runs_of_runS_eq (d := d) hexec ?_ hg hp
  rw [hs, hr, hx]
  simp only [Bool.not_true, Bool.or_self, Bool.false_eq_true, if_false, hnode, hbody, ne_eq, not_true_eq_false]
  rw [← hd]
  obtain ⟨rfl, hk⟩ | ⟨rfl, hk⟩ := hseg
  · simp [hlen, hk]
  · have hmin : min 15 k = 15 := by omega
    have hne : ¬ 15 = k := by omega
    simp [hmin, hlen, hne, Nat.not_le.2 hk]

theorem runs_announce_last {a k : Nat} {r : NodeRt} {es : List (Nat × Nat × Nat × Nat)} (hg : s.chip.pond.grants = []) (hs : s.chip.lineServed n = true)
    (hx : ((s.chip.ports[n]).line.checked 3 a).any (·.segmentIs 0 0 k es) = true) (hr : s.chip.pond.rebuild = false) (hn : s.chip.node? n a = some r)
    (hst : (s.chip.nodeBody r).nstate = nsANNOUNCING) (h1 : 1 ≤ k) (h15 : k ≤ 15) (hlen : es.length = k) (hok : announceOk es = true)
    (hv : s.chip.allocVerdict (hPort n) k = rOK) :
    Runs (.announce n a 0 0 k es) s (fun c => (c.nodeBody r).nstate = nsLIVE ∧ (c.nodeBody r).objCnt = k ∧
      (c.node? n a).map (fun r => (r.annDue, r.part)) = some (none, none)) := by
  obtain ⟨hstate, hcnt, hnode, hgrants⟩ := announced_live (n := n) (es := es) ((takeUlp_node? s.chip 3 a a).trans hn) (by omega) (by rw [hlen]; exact hv)
  refine runs_announce hs hx hr hn hst (by omega) (.inl ⟨rfl, h15⟩) (by rw [if_pos h15, if_pos hok]) (hgrants.trans hg) ⟨hstate, ?_, hnode⟩
  rw [hcnt, hlen]

theorem runs_announce_part {a k : Nat} {r : NodeRt} {es : List (Nat × Nat × Nat × Nat)} (hg : s.chip.pond.grants = []) (hs : s.chip.lineServed n = true)
    (hx : ((s.chip.ports[n]).line.checked 3 a).any (·.segmentIs 1 0 k es) = true) (hr : s.chip.pond.rebuild = false) (hn : s.chip.node? n a = some r)
    (hst : (s.chip.nodeBody r).nstate = nsANNOUNCING) (h15 : 15 < k) (hlen : es.length = 15) :
    Runs (.announce n a 1 0 k es) s (fun c => (c.node? n a).map (·.part) = some (some (k, es))) := by
  refine runs_announce hs hx hr hn hst (by omega) (.inr ⟨rfl, h15⟩) (if_neg (Nat.not_le.2 h15)) hg ?_
  rw [updNode_node? ((takeUlp_node? s.chip 3 a a).trans hn) rfl]
  rfl

theorem annDue_any {r : NodeRt} {t now : Nat} (h : r.annDue = some t) (ht : t ≤ now) : r.annDue.any (· ≤ now) = true := by
  rw [h, Option.any_some]
  exact decide_eq_true ht

theorem runs_announceTimer {a t : Nat} {r : NodeRt} {d : Chip} {p : Chip → Prop} (hn : s.chip.node? n a = some r) (hl : s.chip.lineTimers n = true)
    (hr : r.annDue = some t) (ht : t ≤ s.chip.clk.now)
    (hd : (if (s.chip.nodeBody r).annTry < 3 then
        ((s.chip.updNodeBody n r (fun b => { b with annTry := b.annTry + 1 })).updNode n a (fun r => { r with annDue := none })).sendAssign n
          (s.chip.nodeBody r).serial a
      else s.chip.removeNode n a remANNOUNCE false none) = d) (hg : d.pond.grants = []) (hp : p d) : Runs (.announceTimer n a) s p := by
  have hexec : exec (.announceTimer n a) s = execAnnounceTimer n a s := rfl
  refine runs_of_runS_eq (d := d) hexec ?_ hg hp
  rw [hn]
  dsimp only
  rw [hl, annDue_any hr ht]
  exact hd

theorem runs_announceTimer_again {a t : Nat} {r : NodeRt} (hg : s.chip.pond.grants = []) (hn : s.chip.node? n a = some r) (hl : s.chip.lineTimers n = true)
    (hr : r.annDue = some t) (ht : t ≤ s.chip.clk.now) (htry : (s.chip.nodeBody r).annTry < 3) :
    Runs (.announceTimer n a) s (fun c => (c.nodeBody r).annTry = (s.chip.nodeBody r).annTry + 1 ∧
      (c.node? n a).map (·.annDue) = some none) := by
  obtain ⟨hpool, hports⟩ := engWrite_kept s.chip n r.cid (.node { s.chip.nodeBody r with annTry := (s.chip.nodeBody r).annTry + 1 })
  obtain ⟨w, hw⟩ : ∃ w, s.chip.updNodeBody n r (fun b => { b with annTry := b.annTry + 1 }) = w := ⟨_, rfl⟩
  have hwn : w.node? n a = some r := by
    rw [← hn]
    exact node?_of_ports (by rw [← hw]; exact hports) n a
  refine runs_announceTimer hn hl hr ht (d := (w.updNode n a (fun r => { r with annDue := none })).sendAssign n (s.chip.nodeBody r).serial a)
    (by rw [if_pos htry, hw]) ?_ ⟨?_, ?_⟩
  · show w.pond.grants = []
    rw [← hw]
    exact hpool.grants.trans hg
  · have hbody : ((w.updNode n a (fun r => { r with annDue := none })).sendAssign n (s.chip.nodeBody r).serial a).nodeBody r = w.nodeBody r :=
      nodeBody_of_ctx rfl
    rw [hbody, ← hw, updNodeBody_nodeBody]
  · rw [Chip.sendAssign, sendUlp_node?, updNode_node? hwn rfl]
    rfl

/-! ### Removals (R243) -/

theorem bulkFree_noneWait {c : Chip} (h : NoneWait c) (p : Nat → Ctx → Bool) : NoneWait (c.bulkFree p) := by
  unfold Chip.bulkFree
  split
  · exact h
  · obtain ⟨hwait, hgrants⟩ := each_freeCtx_lists (c.cidsWhere p) c h.1
    exact ⟨hwait, hgrants.trans h.2⟩

theorem freeCtx_noneWait {c : Chip} (h : NoneWait c) (i : Nat) : NoneWait (c.freeCtx i) := by
  obtain ⟨hwait, hgrants, -⟩ := freeCtx_lists i h.1
  exact ⟨hwait, hgrants.trans h.2⟩

theorem answerUlps_pond (c : Chip) (us : List Ulp) (res : Nat) : (c.answerUlps us res).pond = c.pond := by
  have hf : Fr (keeping [.pond] []) c (c.answerUlps us res) := by apply Chip.answerUlps_fr (Fr.refl _ c) <;> simp
  exact hf.kept.pond (by simp)

/-- The node's requests answered, its frames cancelled and its release sent, before its contexts go. -/
def nodeQuiet (c : Chip) (n : Port) (a cause : Nat) (own : Bool) (r : NodeRt) : Chip :=
  let serial := (c.nodeBody r).serial
  let c := c.bumpNode n a
  let c := c.answerUlps (r.out.toList ++ r.queue) rROLE_CHANGED
  let c := c.updLine n (fun l => (l.cancelNode a).refill)
  if own then c else c.sendUlp n (c.ulpFrame n (ulpId 1 9 0 a 0) (leBytes 8 serial.toNat ++ leBytes 1 cause)) (.release a)

theorem nodeQuiet_pond (c : Chip) (a cause : Nat) (own : Bool) (r : NodeRt) : (nodeQuiet c n a cause own r).pond = c.pond := by
  have hpond : ((c.bumpNode n a).answerUlps (r.out.toList ++ r.queue) rROLE_CHANGED).pond = c.pond :=
    (answerUlps_pond _ _ _).trans (bumpNode_pond c n a)
  unfold nodeQuiet
  dsimp only
  split
  · exact hpond
  · exact hpond

/-- The node's contexts freed, and its entry gone. -/
def nodeGone (c : Chip) (n : Port) (a : Nat) (r : NodeRt) (hold : Nat) (late : List (Nat × Nat × Option ReqId)) : Chip :=
  ((c.bulkFree (fun _ x => x.typ == tOBJ && x.parent == r.cid)).freeCtx r.cid).updLine n (fun l =>
    { l with nodes := l.nodes.filter (fun x => x.addr != a)
             quar := insertNat l.quar a (((c.bulkFree (fun _ x => x.typ == tOBJ && x.parent == r.cid)).freeCtx r.cid).clk.now + hold)
             lateRem := late })

theorem nodeGone_gone {c : Chip} (hw : NoneWait c) (a : Nat) (r : NodeRt) (hold : Nat) (late : List (Nat × Nat × Option ReqId)) :
    (nodeGone c n a r hold late).node? n a = none ∧ NoneWait (nodeGone c n a r hold late) := by
  refine ⟨?_, freeCtx_noneWait (bulkFree_noneWait hw _) _⟩
  rw [Chip.node?, nodeGone, updLine_line, List.find?_eq_none]
  intro x hx
  simpa using (List.mem_filter.1 hx).2

/-- A node removed is listed no more, and nothing is granted. -/
theorem removeNode_removed {c : Chip} (hw : NoneWait c) (a cause : Nat) (own : Bool) (req : Option ReqId) :
    (c.removeNode n a cause own req).node? n a = none ∧ (c.removeNode n a cause own req).pond.grants = [] := by
  unfold Chip.removeNode
  split
  · next h => exact ⟨h, hw.2⟩
  · next r h =>
    extract_lets serial c1 c2 late c3 c4 c5 c6 hold c7
    have hpond : c4.pond = c.pond := nodeQuiet_pond c a cause own r
    have hquiet : NoneWait c4 := by unfold NoneWait; rw [hpond]; exact hw
    obtain ⟨hnone, hwait⟩ : c7.node? n a = none ∧ NoneWait c7 := nodeGone_gone hquiet a r hold _
    split
    · exact ⟨hnone, hwait.2⟩
    · have hev : Fr (keeping [.ports, .pond] []) c7 (c7.evRemoved n a cause false) := by
        apply Chip.evRemoved_fr (Fr.refl _ c7); simp
      have hf : Fr (keeping [.ports, .pond] []) c7 ((c7.evRemoved n a cause false).answerOpt req rOK) := by
        apply Chip.answerOpt_fr hev
        all_goals simp
      refine ⟨(node?_of_ports (hf.kept.ports (by simp)) n a).trans hnone, ?_⟩
      rw [hf.kept.pond (by simp)]
      exact hwait.2

theorem runs_announceTimer_gone {a t : Nat} {r : NodeRt} (hw : NoneWait s.chip) (hn : s.chip.node? n a = some r) (hl : s.chip.lineTimers n = true)
    (hr : r.annDue = some t) (ht : t ≤ s.chip.clk.now) (htry : 3 ≤ (s.chip.nodeBody r).annTry) :
    Runs (.announceTimer n a) s (fun c => c.node? n a = none) := by
  obtain ⟨hnone, hgrants⟩ := removeNode_removed (n := n) hw a remANNOUNCE false none
  exact runs_announceTimer hn hl hr ht (if_neg (Nat.not_lt.2 htry)) hgrants hnone

theorem runs_absentHoldExpiry {a t : Nat} {r : NodeRt} (hw : NoneWait s.chip) (hn : s.chip.node? n a = some r)
    (hhold : s.chip.get (.LINE_HOLD n) F.LINE_HOLD_ABSENT_HOLD ≠ 0) (hs : s.chip.lineServed n = true) (hr : r.absentAt = some t)
    (ht : t + sec (s.chip.get (.LINE_HOLD n) F.LINE_HOLD_ABSENT_HOLD) ≤ s.chip.clk.now) :
    Runs (.absentHoldExpiry n a) s (fun c => c.node? n a = none) := by
  obtain ⟨hnone, hgrants⟩ := removeNode_removed (n := n) hw a remABSENT false none
  have hexec : exec (.absentHoldExpiry n a) s = execAbsentHoldExpiry n a s := rfl
  refine runs_of_runS_eq hexec ?_ hgrants hnone
  rw [hn]
  dsimp only
  exact if_pos ⟨hhold, hs, by rw [hr, Option.any_some]; exact decide_eq_true ht⟩

/-! ### Polls and quarantines (R241, R243) -/

theorem sendUlp_polls (c : Chip) (f : CanFrame) (u : TxFor) :
    ((c.sendUlp n f u).ports[n]).line.polls = (c.ports[n]).line.polls := by
  rw [Chip.sendUlp, updLine_line]
  split <;> rfl

theorem updNode_polls (c : Chip) (a : Nat) (f : NodeRt → NodeRt) :
    ((c.updNode n a f).ports[n]).line.polls = (c.ports[n]).line.polls := by
  rw [Chip.updNode, updLine_line]

theorem runs_pollTimer {r : NodeRt} (hg : s.chip.pond.grants = []) (hl : s.chip.lineTimers n = true)
    (hen : s.chip.bit (.LINE_CTL n) F.LINE_CTL_POLL_EN = true) (hn : (s.chip.ports[n]).line.nodes = [r]) (hout : r.out = none)
    (hslow : (s.chip.nodeBody r).nstate ≠ nsSLOW) (habs : (s.chip.nodeBody r).nstate ≠ nsABSENT)
    (ht : (s.chip.ports[n]).line.polledAt + ms (s.chip.pollMs n nsLIVE) ≤ s.chip.clk.now) :
    Runs (.pollTimer n) s (fun c => (c.ports[n]).line.polls = (s.chip.ports[n]).line.polls + 1 ∧
      (c.node? n r.addr).bind (·.out) = some ⟨false, 0, [], 3, .poll, none, false⟩) := by
  obtain ⟨w, hw⟩ : ∃ w, s.chip.updLine n (fun l => { l with polls := l.polls + 1, polledAt := s.chip.clk.now }) = w := ⟨_, rfl⟩
  have hline : (w.ports[n]).line = { (s.chip.ports[n]).line with polls := (s.chip.ports[n]).line.polls + 1, polledAt := s.chip.clk.now } := by
    rw [← hw, updLine_line]
  have hbody : w.nodeBody r = s.chip.nodeBody r := by rw [← hw]; exact nodeBody_of_ctx rfl
  have hnode : w.node? n r.addr = some r := by
    rw [Chip.node?, hline, hn]
    simp
  obtain ⟨v, hv⟩ : ∃ v, w.updNode n r.addr (fun r => { r with out := some ⟨false, 0, [], 3, .poll, none, false⟩ }) = v := ⟨_, rfl⟩
  obtain ⟨f, hf⟩ : ∃ f, w.ulpReqFrame n r.addr ⟨false, 0, [], 3, .poll, none, false⟩ = f := ⟨_, rfl⟩
  have hexec : exec (.pollTimer n) s = execPollTimer n s := rfl
  refine runs_of_runS_eq (d := v.sendUlp n f (.ulp r.addr)) hexec ?_ ?_ ⟨?_, ?_⟩
  · dsimp only
    rw [hl, hen, if_neg (by simpa using ht), hw]
    simp only [hline, hn, Chip.each, List.foldl_cons, List.foldl_nil, hbody, hout, hv, hf]
    simp [hslow, habs]
  · show v.pond.grants = []
    rw [← hv, ← hw]
    exact hg
  · rw [sendUlp_polls, ← hv, updNode_polls, hline]
  · rw [sendUlp_node?, ← hv, updNode_node? hnode rfl]
    rfl

theorem runs_quarantineExpiry {a t : Nat} (hg : s.chip.pond.grants = []) (hq : lookupNat (s.chip.ports[n]).line.quar a = some t)
    (ht : t ≤ s.chip.clk.now) :
    Runs (.quarantineExpiry n a) s (fun c => lookupNat (c.ports[n]).line.quar a = none) := by
  have hexec : exec (.quarantineExpiry n a) s = execQuarantineExpiry n a s := rfl
  refine runs_of_runS_eq (d := s.chip.updLine n (fun l => { l with quar := eraseNat l.quar a })) hexec ?_ hg ?_
  · rw [hq, Option.any_some]
    exact if_pos (decide_eq_true ht)
  · rw [updLine_line]
    exact lookupNat_eraseNat_same _ _

end

/-- Settles O28: the waiter list is empty where a node is removed, so nothing is granted and the
settling leaves the line; each other clause changes the node's record or the line's alone. -/
theorem lineNodes : Obligations.LineNodes := by
  unfold Obligations.LineNodes
  intro s _ hg n
  refine ⟨fun ser a hs hx hr hn ha hv => runs_claim_assigned hg hs hx hr hn ha hv, fun ser hs hx hr hn ha => runs_claim_refused hg hs hx hr hn ha,
    fun a r k es hs hx hr hn hst h1 h15 hlen hok hv => runs_announce_last hg hs hx hr hn hst h1 h15 hlen hok hv,
    fun a r k es hs hx hr hn hst h15 hlen => runs_announce_part hg hs hx hr hn hst h15 hlen,
    fun a r t hn hl hr ht htry => runs_announceTimer_again hg hn hl hr ht htry,
    fun a r t hn hl hr ht htry hw => runs_announceTimer_gone ⟨hw, hg⟩ hn hl hr ht htry,
    fun r hl hen hn hout hslow habs ht => runs_pollTimer hg hl hen hn hout hslow habs ht,
    fun a r t hn hhold hs hr ht hw => runs_absentHoldExpiry ⟨hw, hg⟩ hn hhold hs hr ht,
    fun a t hq ht => runs_quarantineExpiry hg hq ht⟩

end Sys2Proof.Proofs

namespace Sys2Proof.Proofs

open Sys2Proof.Machine Sys2Proof.Laws

/-! The fuse link: frames, bad frames and the handshake that ends a hold (01 R17 to R19; 13). -/

section

variable {s : State} {c : Chip} {d : Die}

/-! ### What the die samples (R16) -/

theorem regulate_sampled (c : Chip) (n k : Port) :
    ((c.regulate n).chans[k]).vOut = (c.chans[k]).vOut ∧ ((c.regulate n).chans[k]).cur = (c.chans[k]).cur := by
  unfold Chip.regulate
  dsimp only
  split
  · by_cases h : k = n
    · subst h
      rw [updChan_same]
      exact ⟨rfl, rfl⟩
    · rw [updChan_other _ _ h]
      exact ⟨rfl, rfl⟩
  · exact ⟨rfl, rfl⟩

theorem each_regulate_sampled (k : Port) : ∀ (l : List Port) (c : Chip),
    ((c.each l Chip.regulate).chans[k]).vOut = (c.chans[k]).vOut ∧ ((c.each l Chip.regulate).chans[k]).cur = (c.chans[k]).cur
  | [], _ => ⟨rfl, rfl⟩
  | n :: t, c => by
    obtain ⟨hv, hi⟩ := each_regulate_sampled k t (c.regulate n)
    obtain ⟨hv', hi'⟩ := regulate_sampled c n k
    exact ⟨hv.trans hv', hi.trans hi'⟩

/-- One channel's sample: its breaker runs to now first. -/
def sampleCh (c : Chip) (x : ChSample) : Chip := (c.breakerRun x.ch).updChan x.ch (fun y => { y with vOut := x.vOut, cur := x.cur })

theorem sampleCh_same (c : Chip) (x : ChSample) :
    ((sampleCh c x).chans[x.ch]).vOut = x.vOut ∧ ((sampleCh c x).chans[x.ch]).cur = x.cur := by
  rw [sampleCh, updChan_same]
  exact ⟨rfl, rfl⟩

theorem sampleCh_other (c : Chip) (x : ChSample) {k : Port} (h : k ≠ x.ch) : (sampleCh c x).chans[k] = c.chans[k] := by
  rw [sampleCh, updChan_other _ _ h]
  unfold Chip.breakerRun
  dsimp only
  split
  · rw [updChan_other _ _ h]
  · rfl

/-- The last sample of a channel stays. -/
theorem each_sampleCh {x : ChSample} (l : List ChSample) (c : Chip) (h : (l.filter (fun y => y.ch == x.ch)).getLast? = some x) :
    ((c.each l sampleCh).chans[x.ch]).vOut = x.vOut ∧ ((c.each l sampleCh).chans[x.ch]).cur = x.cur := by
  induction l using List.reverseRecOn with
  | nil => exact absurd h (by simp)
  | append_singleton l y ih =>
    have heach : c.each (l ++ [y]) sampleCh = sampleCh (c.each l sampleCh) y := by
      simp only [Chip.each, List.foldl_append, List.foldl_cons, List.foldl_nil]
    rw [heach]
    by_cases hy : y.ch = x.ch
    · have hyx : y = x := by simpa [hy] using h
      rw [hyx]
      exact sampleCh_same _ x
    · rw [sampleCh_other _ _ (Ne.symm hy)]
      exact ih (by simpa [hy] using h)

theorem dieSample_sampled {xs : List ChSample} {rs : List (RailId × BitVec 16)} {x : ChSample} (h : Sampled d xs x) :
    ((c.dieSample d xs rs).chans[x.ch]).vOut = x.vOut ∧ ((c.dieSample d xs rs).chans[x.ch]).cur = x.cur := by
  have hlast : ((xs.filter (fun y => fuseDie y.ch == d)).filter (fun y => y.ch == x.ch)).getLast? = some x := by
    have hsame : (xs.filter (fun y => fuseDie y.ch == d)).filter (fun y => y.ch == x.ch) = xs.filter (fun y => y.ch == x.ch) := by
      rw [List.filter_filter]
      refine List.filter_congr fun y _ => ?_
      by_cases hy : y.ch = x.ch
      · simp [hy, h.die]
      · simp [hy]
    rw [hsame]
    exact h.last
  unfold Chip.dieSample
  extract_lets now c1 c2
  obtain ⟨hv, hi⟩ := each_regulate_sampled x.ch (dieChans d) c2
  obtain ⟨hv', hi'⟩ := each_sampleCh _ c1 hlast
  exact ⟨hv.trans hv', hi.trans hi'⟩

theorem dieSample_kept (c : Chip) (d : Die) (xs : List ChSample) (rs : List (RailId × BitVec 16)) :
    Fr (keeping [.fl, .ports, .pond, .clk, .pwr] []) c (c.dieSample d xs rs) := by
  apply Chip.dieSample_fr (Fr.refl _ c) <;> simp

/-! ### What the mirror shows -/

theorem mirrorCh_meas {c : Chip} (h : Canon c) (n : Port) :
    (c.mirrorCh n).rd (.CH_MEAS n) = fset (fset 0#32 F.CH_MEAS_V_OUT (c.chans[n]).vOut.toNat) F.CH_MEAS_I (c.chans[n]).cur.toNat :=
  rd_wr_same _ (canon_wr h _ _) _ _

theorem mirrorCh_other (c : Chip) {n k : Port} (h : k ≠ n) : (c.mirrorCh n).rd (.CH_MEAS k) = c.rd (.CH_MEAS k) := by
  rw [Chip.mirrorCh, rd_wr_other _ _ (by simpa using h), rd_wr_other _ _ (by simp)]

theorem canon_mirrorCh {c : Chip} (h : Canon c) (n : Port) : Canon (c.mirrorCh n) := canon_wr (canon_wr h _ _) _ _

theorem each_mirrorCh_meas (k : Port) : ∀ (l : List Port) (c : Chip), Canon c →
    (k ∈ l ∨ c.rd (.CH_MEAS k) = fset (fset 0#32 F.CH_MEAS_V_OUT (c.chans[k]).vOut.toNat) F.CH_MEAS_I (c.chans[k]).cur.toNat) →
    (c.each l Chip.mirrorCh).rd (.CH_MEAS k) = fset (fset 0#32 F.CH_MEAS_V_OUT (c.chans[k]).vOut.toNat) F.CH_MEAS_I (c.chans[k]).cur.toNat
  | [], _, _, hk => hk.resolve_left List.not_mem_nil
  | n :: t, c, h, hk => by
    refine each_mirrorCh_meas k t (c.mirrorCh n) (canon_mirrorCh h n) ?_
    by_cases hkn : k = n
    · subst hkn
      exact .inr (mirrorCh_meas h k)
    · refine hk.imp (fun hm => (List.mem_cons.1 hm).resolve_left hkn) (fun hr => ?_)
      rw [mirrorCh_other _ hkn, hr]
      rfl

/-- The mirror of a die: the link has nothing stale, and the parts a mirror does not show stay. -/
theorem mirrorDie_kept (c : Chip) (d : Die) (n : Port) :
    Fr (keeping [.chans, .ports, .pond, .clk, .pwr] [.CH_SUSP n]) c (c.mirrorDie d) := by
  apply Chip.mirrorDie_fr (Fr.refl _ c) <;> simp

theorem mirrorDie_fl (c : Chip) (d : Die) : (c.mirrorDie d).fl = (c.updFl d (fun l => { l with stale := [] })).fl := by
  have hrun : Fr (keeping [.fl] []) c c.railsRun := by apply Chip.railsRun_fr (Fr.refl _ c); simp
  have hupd : (c.railsRun.updFl d (fun l => { l with stale := [] })).fl = (c.updFl d (fun l => { l with stale := [] })).fl := by
    simp only [Chip.updFl, hrun.kept.fl (by simp)]
  unfold Chip.mirrorDie
  extract_lets c1 c2
  have hf : Fr (keeping [.fl] []) c1 (c2.each (List.finRange 8) (fun c j => (c.mirrorRail d j).railDiffer j)) := by
    refine Fr.each (Fr.each (Fr.refl _ c1) fun _ _ h => ?_) fun _ _ h => ?_
    · apply Chip.mirrorCh_fr h <;> simp
    · apply Chip.railDiffer_fr (Chip.mirrorRail_fr h ?_ ?_) <;> simp
  exact (hf.kept.fl (by simp)).trans hupd

theorem mirrorDie_meas {c : Chip} (h : Canon c) {k : Port} (hk : fuseDie k = d) :
    (c.mirrorDie d).get (.CH_MEAS k) F.CH_MEAS_V_OUT = (c.chans[k]).vOut.toNat ∧
      (c.mirrorDie d).get (.CH_MEAS k) F.CH_MEAS_I = (c.chans[k]).cur.toNat := by
  have hmem : k ∈ dieChans d := List.mem_filter.2 ⟨List.mem_finRange k, by simpa using hk⟩
  have hrun : Fr (keeping [.chans] []) c c.railsRun := by apply Chip.railsRun_fr (Fr.refl _ c); simp
  have hcanon : Canon (c.railsRun.updFl d (fun l => { l with stale := [] })) :=
    ⟨(hrun.canon h).regs, (hrun.canon h).flash, (hrun.canon h).blocks⟩
  have hrd : (c.mirrorDie d).rd (.CH_MEAS k) =
      fset (fset 0#32 F.CH_MEAS_V_OUT (c.chans[k]).vOut.toNat) F.CH_MEAS_I (c.chans[k]).cur.toNat := by
    unfold Chip.mirrorDie
    extract_lets c1 c2
    have hf : Fr (keeping [] [.CH_MEAS k]) c2 (c2.each (List.finRange 8) (fun c j => (c.mirrorRail d j).railDiffer j)) :=
      Fr.each (Fr.refl _ c2) fun _ _ h => by apply Chip.railDiffer_fr (Chip.mirrorRail_fr h ?_ ?_) <;> simp
    have hch : c1.chans = c.chans := hrun.kept.chans (by simp)
    rw [hf.kept.regs (.CH_MEAS k) (by simp), each_mirrorCh_meas k (dieChans d) c1 hcanon (.inl hmem), hch]
  have hv := (c.chans[k]).vOut.isLt
  have hi := (c.chans[k]).cur.isLt
  rw [Chip.get, Chip.get, hrd]
  refine ⟨?_, ?_⟩
  · rw [fget_fset_other _ _ _ _ (by decide) (by decide) (by decide), fget_fset_same _ _ _ (by decide)]
    exact Nat.mod_eq_of_lt hv
  · rw [fget_fset_same _ _ _ (by decide)]
    exact Nat.mod_eq_of_lt hi

/-! ### A frame each way -/

/-- The link's counts after a frame, by what failed its CRC. -/
def linkTold (c : Chip) (d : Die) (toBad fromBad : Bool) : Chip :=
  c.updFl d (fun l =>
    { l with badTo := if toBad then l.badTo + 1 else 0, badFrom := if fromBad then l.badFrom + 1 else 0
             age := if fromBad then l.age + 1 else 0 })

theorem modesGo_none (h : (dieChans d).any c.modeWaits = false) : c.modesGo d = c := by
  have hnil : (dieChans d).filter c.modeWaits = [] :=
    List.filter_eq_nil_iff.2 fun n hn hw => Bool.false_ne_true (h.symm.trans (List.any_eq_true.2 ⟨n, hn, hw⟩))
  rw [Chip.modesGo, hnil]
  rfl

theorem modeWaits_of_ports {x : Chip} (h : x.ports = c.ports) : x.modeWaits = c.modeWaits := by
  funext n
  rw [Chip.modeWaits, Chip.modeWaits, h]

theorem dieUp_not_inReset (h : c.dieUp d = true) : (c.fl[d]).inReset = false := by
  unfold Chip.dieUp at h
  revert h
  cases (c.fl[d]).inReset <;> simp

/-- A frame to a die that is up: the writes it carries, its sample, and the mirror where it came back good. -/
theorem linkFrame_up {tb fb : Bool} {xs : List ChSample} {rs : List (RailId × BitVec 16)} {w : Chip} (hup : c.dieUp d = true)
    (hm : (dieChans d).any c.modeWaits = false)
    (hw : (if tb then linkTold c d tb fb else (linkTold c d tb fb).fuseTake d 64) = w) (hports : w.ports = c.ports) :
    c.linkFrame d tb fb xs rs = if fb then w.dieSample d xs rs else (w.dieSample d xs rs).mirrorDie d := by
  have hsample : (w.dieSample d xs rs).ports = c.ports := ((dieSample_kept w d xs rs).kept.ports (by simp)).trans hports
  have hmirror : ((w.dieSample d xs rs).mirrorDie d).ports = c.ports :=
    ((mirrorDie_kept _ d 0).kept.ports (by simp)).trans hsample
  unfold Chip.linkFrame
  rw [dieUp_not_inReset hup, hup]
  simp only [Bool.false_eq_true, if_false, Bool.not_true]
  show Chip.modesGo (if fb then Chip.dieSample (if tb then linkTold c d tb fb else (linkTold c d tb fb).fuseTake d 64) d xs rs
    else (Chip.dieSample (if tb then linkTold c d tb fb else (linkTold c d tb fb).fuseTake d 64) d xs rs).mirrorDie d) d = _
  rw [hw]
  refine modesGo_none ?_
  split
  · rw [modeWaits_of_ports hsample]; exact hm
  · rw [modeWaits_of_ports hmirror]; exact hm

theorem linkFrame_down {tb fb : Bool} {xs : List ChSample} {rs : List (RailId × BitVec 16)} (hup : c.dieUp d = false)
    (hr : (c.fl[d]).inReset = false) : c.linkFrame d tb fb xs rs = c.dieSample d xs rs := by
  unfold Chip.linkFrame
  rw [hr, hup]
  rfl

theorem fuseTake_empty (h : (c.fl[d]).writes = []) (k : Nat) : c.fuseTake d k = if c.dieUp d then fuseTaken c d else c := by
  unfold Chip.fuseTake
  split
  · simp only [fuseTaken, Chip.updFl, h, List.take_nil, List.drop_nil, List.filterMap_nil, List.dedup_nil, List.filter_nil, Chip.each, List.foldl_nil]
  · rfl

theorem dieUp_of_linkTold (tb fb : Bool) : (linkTold c d tb fb).dieUp d = c.dieUp d := by
  unfold Chip.dieUp linkTold
  rw [updFl_same]
  rfl

theorem each_regs {α : Type} {f : Chip → α → Chip} (h : ∀ c x, (f c x).regs = c.regs) : ∀ (l : List α) (c : Chip), (c.each l f).regs = c.regs
  | [], _ => rfl
  | x :: t, c => (each_regs h t (f c x)).trans (h c x)

theorem dieSample_regs (c : Chip) (d : Die) (xs : List ChSample) (rs : List (RailId × BitVec 16)) : (c.dieSample d xs rs).regs = c.regs := by
  unfold Chip.dieSample
  extract_lets now c1 c2
  have hreg : ∀ (c : Chip) n, (c.regulate n).regs = c.regs := fun c n => by unfold Chip.regulate; dsimp only; split <;> rfl
  have hrun : ∀ (c : Chip) n, (c.breakerRun n).regs = c.regs := fun c n => by unfold Chip.breakerRun; dsimp only; split <;> rfl
  calc (c2.each (dieChans d) Chip.regulate).regs = c2.regs := each_regs hreg _ _
    _ = c1.regs := each_regs (f := sampleCh) (fun c x => hrun c x.ch) _ _
    _ = c.regs := by
      simp only [c1]
      refine each_regs (fun c x => ?_) _ _
      rfl

/-- What a frame that takes no write leaves of the link of a die, and of what the die samples. -/
structure FrameCounted (c : Chip) (d : Die) (tb fb : Bool) (xs : List ChSample) (x : Chip) : Prop where
  badTo : (x.fl[d]).badTo = (if tb then (c.fl[d]).badTo + 1 else 0)
  badFrom : (x.fl[d]).badFrom = (if fb then (c.fl[d]).badFrom + 1 else 0)
  age : (x.fl[d]).age = (if fb then (c.fl[d]).age + 1 else 0)
  hold : (x.fl[d]).hold = false
  writes : (x.fl[d]).writes = []
  pond : x.pond = c.pond
  canon : Canon x
  sampled : ∀ y, Sampled d xs y → (x.chans[y.ch]).vOut = y.vOut ∧ (x.chans[y.ch]).cur = y.cur
  regs : fb = true → x.regs = c.regs
  meas : fb = false → ∀ y, Sampled d xs y → x.get (.CH_MEAS y.ch) F.CH_MEAS_V_OUT = y.vOut.toNat ∧ x.get (.CH_MEAS y.ch) F.CH_MEAS_I = y.cur.toNat

/-- The link of a die after the frame's counts and its writes. -/
def countedLink (l : FLink) (tb fb : Bool) : FLink :=
  { l with badTo := if tb then l.badTo + 1 else 0, badFrom := if fb then l.badFrom + 1 else 0, age := if fb then l.age + 1 else 0, writes := [] }

theorem linkTold_link {tb fb : Bool} (hw : (c.fl[d]).writes = []) : (linkTold c d tb fb).fl[d] = countedLink c.fl[d] tb fb := by
  rw [linkTold, updFl_same, countedLink, ← hw]

theorem dieUp_not_hold (h : c.dieUp d = true) : (c.fl[d]).hold = false := by
  unfold Chip.dieUp at h
  revert h
  cases (c.fl[d]).hold <;> simp

/-- The sample and the mirror of a frame whose writes are done. -/
theorem frameCounted {tb fb : Bool} {xs : List ChSample} {rs : List (RailId × BitVec 16)} {w : Chip} (hup : c.dieUp d = true) (hcanon : Canon w)
    (hpond : w.pond = c.pond) (hregs : fb = true → w.regs = c.regs) (hlink : w.fl[d] = countedLink c.fl[d] tb fb) :
    FrameCounted c d tb fb xs (if fb then w.dieSample d xs rs else (w.dieSample d xs rs).mirrorDie d) := by
  have hf := dieSample_kept w d xs rs
  have hfl : (w.dieSample d xs rs).fl[d] = countedLink c.fl[d] tb fb := by rw [hf.kept.fl (by simp), hlink]
  have hp : (w.dieSample d xs rs).pond = c.pond := (hf.kept.pond (by simp)).trans hpond
  have hhold := dieUp_not_hold hup
  cases fb with
  | true =>
    rw [if_pos rfl]
    refine ⟨?_, ?_, ?_, ?_, ?_, hp, hf.canon hcanon, fun x hx => dieSample_sampled hx,
      fun h => (dieSample_regs w d xs rs).trans (hregs h), fun h => absurd h (by decide)⟩
    all_goals rw [hfl, countedLink]
    exact hhold
  | false =>
    rw [if_neg (by decide)]
    have hk := mirrorDie_kept (w.dieSample d xs rs) d 0
    have hfl' : ((w.dieSample d xs rs).mirrorDie d).fl[d] = { countedLink c.fl[d] tb false with stale := [] } := by
      rw [mirrorDie_fl, updFl_same, hfl]
    have hm : Fr (keeping [] []) (w.dieSample d xs rs) ((w.dieSample d xs rs).mirrorDie d) := by
      apply Chip.mirrorDie_fr (Fr.refl _ _) <;> simp
    refine ⟨?_, ?_, ?_, ?_, ?_, (hk.kept.pond (by simp)).trans hp, hm.canon (hf.canon hcanon), fun x hx => ?_, fun h => absurd h (by decide),
      fun _ x hx => ?_⟩
    · rw [hfl', countedLink]
    · rw [hfl', countedLink]
    · rw [hfl', countedLink]
    · rw [hfl', countedLink]
      exact hhold
    · rw [hfl', countedLink]
    · rw [hk.kept.chans (by simp)]
      exact dieSample_sampled hx
    · obtain ⟨hv, hi⟩ := dieSample_sampled (c := w) (rs := rs) hx
      rw [← hv, ← hi]
      exact mirrorDie_meas (hf.canon hcanon) hx.die

/-- A frame to a die that is up and takes no write. -/
theorem linkFrame_counted {tb fb : Bool} {xs : List ChSample} {rs : List (RailId × BitVec 16)} (hc : Canon c) (hup : c.dieUp d = true)
    (hm : (dieChans d).any c.modeWaits = false) (hw : (c.fl[d]).writes = []) : FrameCounted c d tb fb xs (c.linkFrame d tb fb xs rs) := by
  have hlink := linkTold_link (tb := tb) (fb := fb) hw
  have hempty : ((linkTold c d tb fb).fl[d]).writes = [] := by rw [hlink, countedLink]
  have htake : (linkTold c d tb fb).fuseTake d 64 = fuseTaken (linkTold c d tb fb) d := by
    rw [fuseTake_empty hempty, dieUp_of_linkTold, hup, if_pos rfl]
  cases tb with
  | true =>
    rw [linkFrame_up (w := linkTold c d true fb) hup hm (if_pos rfl) rfl]
    exact frameCounted hup ⟨hc.regs, hc.flash, hc.blocks⟩ rfl (fun _ => rfl) hlink
  | false =>
    rw [linkFrame_up (w := fuseTaken (linkTold c d false fb) d) hup hm (by rw [← htake]; rfl) rfl]
    refine frameCounted hup ⟨hc.regs, hc.flash, hc.blocks⟩ rfl (fun _ => rfl) ?_
    rw [fuseTaken, updFl_same, hlink, countedLink]

theorem runs_fuseLinkFrame {xs : List ChSample} {rs : List (RailId × BitVec 16)} (hc : Canon s.chip) (hg : s.chip.pond.grants = [])
    (hfree : DieFree s.chip d) (hm : (dieChans d).any s.chip.modeWaits = false) :
    Runs (.fuseLinkFrame d xs rs) s (fun c => (c.fl[d]).badTo = 0 ∧ (c.fl[d]).badFrom = 0 ∧ (c.fl[d]).age = 0 ∧
      (c.fl[d]).writes = [] ∧ ∀ x, Sampled d xs x → (c.chans[x.ch]).vOut = x.vOut ∧ (c.chans[x.ch]).cur = x.cur ∧
        c.get (.CH_MEAS x.ch) F.CH_MEAS_V_OUT = x.vOut.toNat ∧ c.get (.CH_MEAS x.ch) F.CH_MEAS_I = x.cur.toNat) := by
  obtain ⟨hhears, hw⟩ := hfree
  rw [Chip.dieHears, Bool.and_eq_true] at hhears
  have hexec : exec (.fuseLinkFrame d xs rs) s = execFuseLinkFrame d xs rs s := rfl
  have hx := linkFrame_counted (tb := false) (fb := false) (xs := xs) (rs := rs) hc hhears.1 hm hw
  refine runs_of_runS_eq hexec rfl ((congrArg Pond.grants hx.pond).trans hg) ⟨hx.badTo, hx.badFrom, hx.age, hx.writes, fun y hy => ?_⟩
  obtain ⟨hv, hi⟩ := hx.sampled y hy
  exact ⟨hv, hi, hx.meas rfl y hy⟩

theorem runs_fuseLinkFrame_down {xs : List ChSample} {rs : List (RailId × BitVec 16)} {d' : Chip} {i : Instr} {p : Chip → Prop}
    (hg : s.chip.pond.grants = []) (hi : ∃ f : Chip → Chip, exec i s = s.runS f ∧ f s.chip = s.chip.dieSample d xs rs)
    (hd : s.chip.dieSample d xs rs = d') (hp : d'.fl = s.chip.fl → d'.regs = s.chip.regs →
      (∀ x, Sampled d xs x → (d'.chans[x.ch]).vOut = x.vOut ∧ (d'.chans[x.ch]).cur = x.cur) → p d') : Runs i s p := by
  obtain ⟨f, hexec, hf⟩ := hi
  have hk := dieSample_kept s.chip d xs rs
  refine runs_of_runS_eq hexec (hf.trans hd) ?_ ?_
  · rw [← hd, hk.kept.pond (by simp), hg]
  · exact hp (by rw [← hd, hk.kept.fl (by simp)]) (by rw [← hd, dieSample_regs]) (fun x hx => by rw [← hd]; exact dieSample_sampled hx)

/-! ### A write of CH_SUSP taken -/

theorem applyFuse_susp (c : Chip) (n : Port) (v : Word) :
    c.applyFuse (.CH_SUSP n) v allBits = (c.keepStale (.CH_SUSP n)).wrRW (.CH_SUSP n) v := by
  have hw : (c.rd (.CH_SUSP n) &&& ~~~allBits) ||| (v &&& allBits) = v := by
    have hand : v &&& allBits = v := BitVec.and_allOnes
    rw [hand]
    simp [allBits]
  unfold Chip.applyFuse
  rw [hw]

theorem fuseTake_single {r : Reg} {v m : Word} (hup : c.dieUp d = true) (hw : (c.fl[d]).writes = [(r, v, m)]) :
    ∃ l, c.fuseTake d 64 = ((fuseTaken c d).applyFuse r v m).each l Chip.pendFell := by
  have hdrop : c.updFl d (fun l => { l with writes := l.writes.drop 64 }) = fuseTaken c d := by
    simp only [fuseTaken, Chip.updFl, hw, List.drop_succ_cons, List.drop_nil]
  rw [Chip.fuseTake, if_pos hup]
  dsimp only
  rw [hdrop, hw]
  exact ⟨_, rfl⟩

/-- The frame's writes taken: one of CH_SUSP, which the die stores. -/
theorem fuseTake_susp {n : Port} {v : Word} (hc : Canon c) (hup : c.dieUp d = true) (hw : (c.fl[d]).writes = [(.CH_SUSP n, v, allBits)]) {w : Chip}
    (he : c.fuseTake d 64 = w) : w.ports = c.ports ∧ w.pond = c.pond ∧ (w.fl[d]).writes = [] ∧ w.rd (.CH_SUSP n) = written c (.CH_SUSP n) v := by
  obtain ⟨l, htake⟩ := fuseTake_single hup hw
  rw [applyFuse_susp] at htake
  obtain ⟨x, hx⟩ : ∃ x, (fuseTaken c d).keepStale (.CH_SUSP n) = x := ⟨_, rfl⟩
  have hlinks := keepStale_sameLinks (fuseTaken c d) (.CH_SUSP n)
  have hkeep : Fr (keeping [.ports, .pond] [.CH_SUSP n]) (fuseTaken c d) x := by
    rw [← hx]
    apply Chip.keepStale_fr (Fr.refl _ _)
    simp
  have hcanon : Canon x := hkeep.canon ⟨hc.regs, hc.flash, hc.blocks⟩
  have hrw : Fr (keeping [.ports, .pond, .fl] []) x (x.wrRW (.CH_SUSP n) v) := by
    apply Chip.wrRW_fr (Fr.refl _ x) <;> simp
  have hfell : Fr (keeping [.ports, .pond, .fl] [.CH_SUSP n]) (x.wrRW (.CH_SUSP n) v) ((x.wrRW (.CH_SUSP n) v).each l Chip.pendFell) :=
    Fr.each (Fr.refl _ _) fun _ _ h => by apply Chip.pendFell_fr h <;> simp
  rw [← he, htake, hx]
  refine ⟨?_, ?_, ?_, ?_⟩
  · exact (hfell.kept.ports (by simp)).trans ((hrw.kept.ports (by simp)).trans (hkeep.kept.ports (by simp)))
  · exact (hfell.kept.pond (by simp)).trans ((hrw.kept.pond (by simp)).trans (hkeep.kept.pond (by simp)))
  · rw [hfell.kept.fl (by simp), hrw.kept.fl (by simp), ← hx, (hlinks.2 d).2.2.2, fuseTaken, updFl_same]
  · rw [hfell.kept.regs (.CH_SUSP n) (by simp), rd_wrRW_same hcanon, hkeep.kept.regs (.CH_SUSP n) (by simp)]
    rfl

theorem runs_fuseLinkFrame_susp {xs : List ChSample} {rs : List (RailId × BitVec 16)} {n : Port} {v : Word} (hc : Canon s.chip)
    (hg : s.chip.pond.grants = []) (hhears : s.chip.dieHears d = true) (hm : (dieChans d).any s.chip.modeWaits = false)
    (hw : (s.chip.fl[d]).writes = [(.CH_SUSP n, v, allBits)]) :
    Runs (.fuseLinkFrame d xs rs) s (fun c => (c.fl[d]).writes = [] ∧ c.rd (.CH_SUSP n) = written s.chip (.CH_SUSP n) v) := by
  rw [Chip.dieHears, Bool.and_eq_true] at hhears
  have hexec : exec (.fuseLinkFrame d xs rs) s = execFuseLinkFrame d xs rs s := rfl
  obtain ⟨w, hwe⟩ : ∃ w, (linkTold s.chip d false false).fuseTake d 64 = w := ⟨_, rfl⟩
  have htold : ((linkTold s.chip d false false).fl[d]).writes = [(.CH_SUSP n, v, allBits)] := by
    rw [linkTold, updFl_same]
    exact hw
  obtain ⟨hports, hpond, hwrites, hrd⟩ := fuseTake_susp (c := linkTold s.chip d false false) ⟨hc.regs, hc.flash, hc.blocks⟩ ((dieUp_of_linkTold false false).trans hhears.1) htold hwe
  have hf : Fr (keeping [.fl, .pond] [.CH_SUSP n]) w (w.dieSample d xs rs) := by apply Chip.dieSample_fr (Fr.refl _ w) <;> simp
  have hk := mirrorDie_kept (w.dieSample d xs rs) d n
  refine runs_of_runS_eq (d := (w.dieSample d xs rs).mirrorDie d) hexec (linkFrame_up hhears.1 hm (by rw [← hwe]; rfl) hports) ?_ ⟨?_, ?_⟩
  · rw [hk.kept.pond (by simp), hf.kept.pond (by simp), hpond]
    exact hg
  · rw [mirrorDie_fl, updFl_same, hf.kept.fl (by simp)]
    exact hwrites
  · rw [hk.kept.regs (.CH_SUSP n) (by simp), hf.kept.regs (.CH_SUSP n) (by simp), hrd]
    rfl

/-! ### Bad frames and the hold (R18, R19) -/

theorem runs_fuseLinkBadFrame {o : BadLinkFrame} (hc : Canon s.chip) (hg : s.chip.pond.grants = []) (hup : s.chip.dieUp d = true)
    (hw : (s.chip.fl[d]).writes = []) (hm : (dieChans d).any s.chip.modeWaits = false) (hto : o.toBad = true → (s.chip.fl[d]).badTo < 7)
    (hfrom : o.fromBad = true → (s.chip.fl[d]).badFrom < 7) :
    Runs (.fuseLinkBadFrame d o) s (fun c =>
      (c.fl[d]).badTo = (if o.toBad then (s.chip.fl[d]).badTo + 1 else 0) ∧
      (c.fl[d]).badFrom = (if o.fromBad then (s.chip.fl[d]).badFrom + 1 else 0) ∧
      (c.fl[d]).age = (if o.fromBad then (s.chip.fl[d]).age + 1 else 0) ∧ (c.fl[d]).hold = false ∧ (c.fl[d]).writes = [] ∧
      (∀ x, Sampled d o.chs x → (c.chans[x.ch]).vOut = x.vOut ∧ (c.chans[x.ch]).cur = x.cur) ∧
      (o.fromBad = true → c.regs = s.chip.regs)) := by
  have hexec : exec (.fuseLinkBadFrame d o) s = execFuseLinkBadFrame d o s := rfl
  have hx := linkFrame_counted (tb := o.toBad) (fb := o.fromBad) (xs := o.chs) (rs := o.rails) hc hup hm hw
  refine runs_of_runS_eq hexec (if_pos ?_) ((congrArg Pond.grants hx.pond).trans hg)
    ⟨hx.badTo, hx.badFrom, hx.age, hx.hold, hx.writes, hx.sampled, hx.regs⟩
  have hb : (if o.toBad then (s.chip.fl[d]).badTo + 1 else 0) < 8 := by split <;> [have := hto ‹_›; skip] <;> omega
  have hb' : (if o.fromBad then (s.chip.fl[d]).badFrom + 1 else 0) < 8 := by split <;> [have := hfrom ‹_›; skip] <;> omega
  rw [hx.badTo, hx.badFrom, decide_eq_true hb, decide_eq_true hb']
  rfl

/-- A die enters its hold with its counts at 0 and a fault told. -/
theorem enterFuseHold_holds (hc : Canon c) : ((c.enterFuseHold d).fl[d]).hold = true ∧ ((c.enterFuseHold d).fl[d]).badTo = 0 ∧
    ((c.enterFuseHold d).fl[d]).badFrom = 0 ∧ ((c.enterFuseHold d).fl[d]).writes = (c.fl[d]).writes ∧ (c.enterFuseHold d).pond = c.pond ∧
    (c.enterFuseHold d).bitAt .GLB_FAULT F.GLB_FAULT_SRC (FaultSrc.fuseLink).bit = true := by
  unfold Chip.enterFuseHold
  extract_lets l inWindow rung c1 c2
  have hcanon : Canon c1 := ⟨hc.regs, hc.flash, hc.blocks⟩
  have hfault : Fr (keeping [.fl, .pond] []) c1 c2 := by apply Chip.postFault_fr (Fr.refl _ c1) <;> simp
  have hbit : c2.bitAt .GLB_FAULT F.GLB_FAULT_SRC (FaultSrc.fuseLink).bit = true := bitAt_postFault c1 hcanon _ _
  obtain ⟨x, hx⟩ : ∃ x, (if rung = 2 then c2.escalate 3 2 d.val 0x0183 else if rung = 3 then c2.escalate 3 3 d.val 0x0183 else c2) = x := ⟨_, rfl⟩
  have hf : Fr (keeping [.fl, .pond] [.GLB_FAULT]) c2 x := by
    rw [← hx]
    have hesc : ∀ k, Fr (keeping [.fl, .pond] [.GLB_FAULT]) c2 (c2.escalate 3 k d.val 0x0183) := fun k => by
      apply Chip.escalate_fr (Fr.refl _ c2) <;> simp
    split
    · exact hesc 2
    · split
      · exact hesc 3
      · exact Fr.refl _ _
  have hfl : x.fl[d] = { c.fl[d] with badTo := 0, badFrom := 0, hold := true, rung := rung, window := none } := by
    rw [hf.kept.fl (by simp), hfault.kept.fl (by simp)]
    exact updFl_same _ _ _
  rw [hx]
  refine ⟨by rw [hfl], by rw [hfl], by rw [hfl], by rw [hfl], ?_, ?_⟩
  · rw [hf.kept.pond (by simp), hfault.kept.pond (by simp)]
    rfl
  · rw [bitAt_of_rd (hf.kept.regs .GLB_FAULT (by simp))]
    exact hbit

theorem runs_fuseLinkBadFrame_hold {o : BadLinkFrame} (hc : Canon s.chip) (hg : s.chip.pond.grants = []) (hup : s.chip.dieUp d = true)
    (hw : (s.chip.fl[d]).writes = []) (hm : (dieChans d).any s.chip.modeWaits = false)
    (hbad : (o.toBad = true ∧ 7 ≤ (s.chip.fl[d]).badTo) ∨ (o.fromBad = true ∧ 7 ≤ (s.chip.fl[d]).badFrom)) :
    Runs (.fuseLinkBadFrame d o) s (fun c => (c.fl[d]).hold = true ∧ (c.fl[d]).badTo = 0 ∧ (c.fl[d]).badFrom = 0 ∧
      (c.fl[d]).writes = [] ∧ c.bitAt .GLB_FAULT F.GLB_FAULT_SRC (FaultSrc.fuseLink).bit = true) := by
  have hexec : exec (.fuseLinkBadFrame d o) s = execFuseLinkBadFrame d o s := rfl
  have hx := linkFrame_counted (tb := o.toBad) (fb := o.fromBad) (xs := o.chs) (rs := o.rails) hc hup hm hw
  obtain ⟨hhold, hto, hfrom, hwrites, hpond, hbit⟩ := enterFuseHold_holds (d := d) hx.canon
  refine runs_of_runS_eq hexec (if_neg ?_) (by rw [hpond, hx.pond, hg]) ⟨hhold, hto, hfrom, hwrites.trans hx.writes, hbit⟩
  rw [hx.badTo, hx.badFrom, hx.hold, Bool.or_false, Bool.and_eq_true, decide_eq_true_eq, decide_eq_true_eq]
  obtain ⟨ho, h7⟩ | ⟨ho, h7⟩ := hbad
  · rw [ho, if_pos rfl]
    omega
  · rw [ho, if_pos rfl]
    omega

/-! ### The handshake -/

theorem runs_fuseLinkResync (hg : s.chip.pond.grants = []) (hh : (s.chip.fl[d]).hold = true) (hr : (s.chip.fl[d]).inReset = false)
    (hrung : (s.chip.fl[d]).rung ≠ 4) (hret : s.chip.pwr.retained = false) :
    Runs (.fuseLinkResync d) s (fun c => (c.fl[d]).hold = false ∧ (c.fl[d]).badTo = 0 ∧ (c.fl[d]).badFrom = 0 ∧
      (c.fl[d]).age = 0 ∧ (c.fl[d]).writes = (s.chip.fl[d]).writes) := by
  obtain ⟨w, hw⟩ : ∃ w, s.chip.updFl d (fun l => { l with hold := false, badTo := 0, badFrom := 0, age := 0, window := some (s.chip.clk.now + ms 10) }) = w :=
    ⟨_, rfl⟩
  obtain ⟨x, hx⟩ : ∃ x, w.post (w.evFuseHold d false false) = x := ⟨_, rfl⟩
  have h1 := fr_post (ps := [.fl, .pond]) (rs := []) w (w.evFuseHold d false false) (by simp)
  have h2 := fr_post (ps := [.fl, .pond]) (rs := []) x (x.ev 0x0208 0 d.val [3, d.val]) (by simp)
  have hfl : (x.post (x.ev 0x0208 0 d.val [3, d.val])).fl[d] =
      { s.chip.fl[d] with hold := false, badTo := 0, badFrom := 0, age := 0, window := some (s.chip.clk.now + ms 10) } := by
    rw [h2.kept.fl (by simp), ← hx, h1.kept.fl (by simp), ← hw, updFl_same]
  have hexec : exec (.fuseLinkResync d) s = execFuseLinkResync d s := rfl
  refine runs_of_runS_eq (d := x.post (x.ev 0x0208 0 d.val [3, d.val])) hexec ?_ ?_ ?_
  · rw [← hx, ← hw]
    refine if_neg ?_
    rw [hh, hr, hret]
    simpa using hrung
  · rw [h2.kept.pond (by simp), ← hx, h1.kept.pond (by simp), ← hw]
    exact hg
  · rw [hfl]
    exact ⟨rfl, rfl, rfl, rfl, rfl⟩

theorem runs_fuseLinkResync_none (hg : s.chip.pond.grants = [])
    (h : (s.chip.fl[d]).hold = false ∨ (s.chip.fl[d]).inReset = true ∨ (s.chip.fl[d]).rung = 4 ∨ s.chip.pwr.retained = true) :
    Runs (.fuseLinkResync d) s (fun c => c = s.chip) := by
  have hexec : exec (.fuseLinkResync d) s = execFuseLinkResync d s := rfl
  refine runs_of_runS_eq hexec (if_pos ?_) hg rfl
  obtain h | h | h | h := h <;> rw [h] <;> simp

end

/-- Settles O15: a frame of a die that is up is the link's counts, its writes, the sample and the mirror;
the counts stay below 8 or the hold begins, and the handshake ends it. -/
theorem fuseLink : Obligations.FuseLink := by
  unfold Obligations.FuseLink
  intro s hc hg
  refine ⟨fun d xs rs hf hm => runs_fuseLinkFrame hc hg hf hm, fun d xs rs n v hh hm _ hw => runs_fuseLinkFrame_susp hc hg hh hm hw,
    fun d xs rs hup hr => ?_, fun d xs rs hr => ?_, fun d o hup hw hm hto hfrom => runs_fuseLinkBadFrame hc hg hup hw hm hto hfrom,
    fun d o hup hw hm hb => runs_fuseLinkBadFrame_hold hc hg hup hw hm hb, fun d o hup hr hh => ?_,
    fun d hh hr hrung hret => runs_fuseLinkResync hg hh hr hrung hret, fun d h => runs_fuseLinkResync_none hg h⟩
  · have hexec : exec (.fuseLinkFrame d xs rs) s = execFuseLinkFrame d xs rs s := rfl
    exact runs_fuseLinkFrame_down (rs := rs) hg ⟨_, hexec, linkFrame_down hup hr⟩ rfl fun h1 h2 h3 => ⟨h1, h2, h3⟩
  · have hexec : exec (.fuseLinkFrame d xs rs) s = execFuseLinkFrame d xs rs s := rfl
    exact runs_of_runS_eq hexec (if_pos hr) hg rfl
  · have hexec : exec (.fuseLinkBadFrame d o) s = execFuseLinkBadFrame d o s := rfl
    refine runs_fuseLinkFrame_down (rs := o.rails) hg ⟨_, hexec, ?_⟩ rfl fun h1 h2 h3 => ⟨h1, h2, h3⟩
    have hfl : ((s.chip.dieSample d o.chs o.rails).fl[d]).hold = true := by
      rw [(dieSample_kept s.chip d o.chs o.rails).kept.fl (by simp), hh]
    dsimp only
    rw [linkFrame_down hup hr, hfl, Bool.or_true, if_pos rfl]

end Sys2Proof.Proofs

namespace Sys2Proof.Proofs

open Sys2Proof.Machine Sys2Proof.Laws

/-- Port 0 is not enabled for Power Delivery, its policy engine still runs, and a PD_VOUT of door 1 waits for it. Door 0 holds this
entry. -/
def voutTakenOver (e : ReqEntry) : Chip :=
  takenOver (((askedChip [e]).setF (.PD_STATUS 0) F.PD_STATUS_STATE pdREADY).updPort 0
    (fun p => { p with pd := { p.pd with voutReq := some ⟨1, 9⟩ } }))

/-- Refutes O18: its last clause lets requests of other doors wait for the policy engine. In `voutTakenOver` the answer to one of them
ends the release of door 1, whose takeover answers the PD_CFG_SET with data of its own. -/
theorem not_pdRequests : ¬ Obligations.PdRequests := by
  unfold Obligations.PdRequests
  intro h
  obtain ⟨-, -, -, -, -, -, -, -, hcfg⟩ := h { chip := voutTakenOver (pendingEntry 5 0x0315#16 1 0) } (canon_of (by decide +kernel))
    (by decide +kernel) ⟨0, 5⟩ 0 (pendingEntry 5 0x0315#16 1 0)
  refine not_runs (fun c => ((c.doors[(0 : Door)]).rsps ++ (c.doors[(0 : Door)]).rspWait).any
    (fun p => p.result == rOK && p.data == [0])) ?_ ?_ (hcfg 0 (forPort_of ?_) ?_ ?_ ?_ ?_)
  · decide +kernel
  · rintro c ⟨hanswered, -⟩
    exact part_of_answered (hanswered (by unfold PdFree; decide +kernel))
  · decide +kernel
  · decide +kernel
  · decide +kernel
  · decide +kernel
  · exact .inl (by decide +kernel)

/-- Refutes O42: its third clause, for a write of a PD_CFG, lets requests of other doors wait for the policy engine. In
`voutTakenOver` the answer to one of them ends the release of door 1, whose takeover answers the REG_WRITE with data of its own. -/
theorem not_registerRequests : ¬ Obligations.RegisterRequests := by
  unfold Obligations.RegisterRequests
  intro h
  obtain ⟨-, -, hwrite, -⟩ := h { chip := voutTakenOver (pendingEntry 5 0x0B02#16 0 0) } (canon_of (by decide +kernel))
    (by decide +kernel) ⟨0, 5⟩ (pendingEntry 5 0x0B02#16 0 0)
  refine not_runs (fun c => ((c.doors[(0 : Door)]).rsps ++ (c.doors[(0 : Door)]).rspWait).any
    (fun p => p.result == rOK && p.data == [1])) ?_ ?_ (hwrite (.PD_CFG 0) 0 (startable_of ?_) ?_ ⟨?_, fun _ => ?_, ?_⟩)
  · decide +kernel
  · rintro c ⟨hanswered, -⟩
    exact part_of_answered (hanswered (.inr (by unfold PdFree; decide +kernel)))
  · decide +kernel
  · decide +kernel
  · decide +kernel
  · rename_i hguarded
    exact absurd hguarded (by decide +kernel)
  · decide +kernel

end Sys2Proof.Proofs

namespace Sys2Proof.Proofs

open Sys2Proof.Machine Sys2Proof.Laws

/-! Channels: commands at a die, inrush, holds, trips and retries (01 R17; 08 R177; 13 R278 to R285). -/

section

variable {s : State} {c : Chip} {n : Port}

/-! ### The core of a channel -/

/-- A channel without its regulation, the marks of a running hold and its SEQ. -/
def chanCore (x : Chan) : Chan := { x with seq := 0#8, limit := 0, holdFrom := 0, holdCause := none, vMax := none }

/-- The cores of the channels stay. -/
def SameCores (c x : Chip) : Prop := ∀ k : Port, chanCore (x.chans[k]) = chanCore (c.chans[k])

theorem SameCores.refl (c : Chip) : SameCores c c := fun _ => rfl

theorem SameCores.trans {a b c : Chip} (h : SameCores a b) (h' : SameCores b c) : SameCores a c := fun k => (h' k).trans (h k)

/-- What does not look at the regulation, the marks of a hold or SEQ is the same of two channels of one core. -/
theorem of_core {α : Type} (g : Chan → α) (hg : ∀ x, g (chanCore x) = g x) {x y : Chan} (h : chanCore x = chanCore y) : g x = g y :=
  (hg x).symm.trans ((congrArg g h).trans (hg y))

theorem SameCores.phase {a b : Chip} (h : SameCores a b) (k : Port) : (b.chans[k]).phase = (a.chans[k]).phase :=
  of_core Chan.phase (fun _ => rfl) (h k)

theorem sameCores_of_chans {a b : Chip} (h : b.chans = a.chans) : SameCores a b := fun k => by rw [h]

theorem updChan_sameCores (c : Chip) (n : Port) (f : Chan → Chan) (h : chanCore (f c.chans[n]) = chanCore c.chans[n]) :
    SameCores c (c.updChan n f) := fun k => by
  by_cases hk : k = n
  · subst hk
    rw [updChan_same]
    exact h
  · rw [updChan_other _ _ hk]

theorem regulate_sameCores (c : Chip) (n : Port) : SameCores c (c.regulate n) := by
  unfold Chip.regulate
  dsimp only
  split
  · exact updChan_sameCores _ _ _ rfl
  · exact .refl c

theorem holdBegins_sameCores (c : Chip) (n : Port) : SameCores c (c.holdBegins n) := updChan_sameCores _ _ _ rfl

theorem each_sameCores {α : Type} {f : Chip → α → Chip} (h : ∀ c x, SameCores c (f c x)) : ∀ (l : List α) (c : Chip), SameCores c (c.each l f)
  | [], c => .refl c
  | x :: t, c => (h c x).trans (each_sameCores h t (f c x))

theorem tripExplains_sameCores (c : Chip) (n : Port) : SameCores c (c.tripExplains n) :=
  each_sameCores (fun c m => updChan_sameCores c m _ rfl) _ _

theorem pendFell_sameCores (c : Chip) (n : Port) : SameCores c (c.pendFell n) :=
  (updChan_sameCores c n (fun x => { x with seq := x.seq + 2 }) rfl).trans (sameCores_of_chans rfl)

theorem updCh_core (c : Chip) (n : Port) (f : Chan → Chan) : chanCore ((c.updCh n f).chans[n]) = chanCore (f c.chans[n]) := by
  unfold Chip.updCh
  rw [updChan_same]
  dsimp only
  split <;> rfl

theorem updCh_other (c : Chip) {n k : Port} (f : Chan → Chan) (h : k ≠ n) : (c.updCh n f).chans[k] = c.chans[k] :=
  updChan_other _ _ h

theorem sameCores_of_fr {c x : Chip} (h : Fr (keeping [.chans] []) c x) : SameCores c x :=
  sameCores_of_chans (h.kept.chans (by simp))

/-! ### Inrush and the command ON (R278, R279) -/

/-- A channel that begins its inrush, or waits in a hold for its rail. -/
def inrushChan (uv : Bool) (now : Nat) (x : Chan) : Chan :=
  { x with phase := if uv then .hold else .inrush, inrushFrom := now, inrushUsed := 0, holdUsed := 0, vMax := none
           retryAt := none, retryWaits := false, offAt := none, onWaits := false }

theorem startInrush_core (c : Chip) (n : Port) :
    chanCore ((c.startInrush n).chans[n]) = chanCore (inrushChan (c.railUv (fuseDie n) (c.railOf n)) c.clk.now c.chans[n]) := by
  unfold Chip.startInrush
  extract_lets uv now c1 c2
  have hin : SameCores (c2.regulate n) ((c2.regulate n).pdInrush n) :=
    sameCores_of_fr (by apply Chip.pdInrush_fr (Fr.refl _ _); simp)
  have hhold : SameCores c1 c2 := by
    simp only [c2]
    split
    · exact holdBegins_sameCores _ _
    · exact .refl _
  exact ((hhold.trans (regulate_sameCores c2 n)).trans hin n).trans (updCh_core c n (inrushChan uv now))

/-- The channel's admission reads the same: its registers but CH_CMD, the rails, the ports and the time stay. -/
structure SameAdmission (c x : Chip) : Prop where
  rd : ∀ r, (∀ k, r ≠ .CH_CMD k) → x.rd r = c.rd r
  rails : x.rails = c.rails
  ports : x.ports = c.ports
  clk : x.clk = c.clk

theorem SameAdmission.typeC {c x : Chip} (h : SameAdmission c x) (n : Port) : x.typeC n = c.typeC n := by
  unfold Chip.typeC
  rw [h.ports, bit_of_rd (h.rd _ (by simp)), get_of_rd (h.rd _ (by simp))]

theorem SameAdmission.railOf {c x : Chip} (h : SameAdmission c x) (n : Port) : x.railOf n = c.railOf n := by
  unfold Chip.railOf
  rw [get_of_rd (h.rd _ (by simp))]

theorem SameAdmission.chReady {c x : Chip} (h : SameAdmission c x) (n : Port) : x.chReady n = c.chReady n := by
  unfold Chip.chReady Chip.railEn
  rw [h.railOf, bit_of_rd (h.rd _ (by simp)), get_of_rd (h.rd _ (by simp))]

theorem SameAdmission.inrushOk {c x : Chip} (h : SameAdmission c x) (n : Port) : x.inrushOk n = c.inrushOk n := by
  unfold Chip.inrushOk Chip.overBudget Chip.railBlocked
  rw [h.chReady, h.railOf, h.rails, get_of_rd (h.rd _ (by simp))]

theorem SameAdmission.railUv {c x : Chip} (h : SameAdmission c x) (d : Die) (j : RailId) : x.railUv d j = c.railUv d j := by
  unfold Chip.railUv Chip.railV Chip.uvHold
  rw [h.rails, get_of_rd (h.rd _ (by simp))]

/-- A channel that a command ON starts from: a trip's retries begin again (R285). -/
def onFrom (c : Chip) (n : Port) : Chip :=
  if (c.chans[n]).phase = .tripped then c.updCh n (fun x => { x with retries := 0 }) else c

theorem onFrom_same (c : Chip) (n : Port) : SameAdmission c (onFrom c n) ∧ ((onFrom c n).chans[n]).phase = (c.chans[n]).phase ∧ (onFrom c n).pond = c.pond := by
  unfold onFrom
  split
  · exact ⟨⟨fun _ _ => rfl, rfl, rfl, rfl⟩, (of_core Chan.phase (fun _ => rfl) (updCh_core c n (fun x => { x with retries := 0 }))).trans rfl, rfl⟩
  · exact ⟨⟨fun _ _ => rfl, rfl, rfl, rfl⟩, rfl, rfl⟩

def armedChan (x : Chan) : Chan := { x with phase := .armed, retryAt := none, retryWaits := false }

theorem chOn_of_ready (hr : c.chReady n = true) (hp : (c.chans[n]).phase = .off ∨ (c.chans[n]).phase = .tripped) :
    c.chOn n = if c.typeC n then (onFrom c n).updCh n armedChan
      else if c.inrushOk n then (onFrom c n).startInrush n
      else (onFrom c n).updChan n (fun x => { x with onWaits := true, retryAt := none, retryWaits := false }) := by
  obtain ⟨hsame, -, -⟩ := onFrom_same c n
  unfold Chip.chOn
  rw [if_pos ⟨hr, hp⟩, ← hsame.typeC, ← hsame.inrushOk]
  rfl

/-! ### A command at a die that hears -/

/-- The write of a command applied at the die. -/
def cmdAt (c : Chip) (n : Port) (v : Word) : Chip :=
  ((fuseTaken (c.fuseWrite (.CH_CMD n) v allBits) (regDie (.CH_CMD n))).keepStale (.CH_CMD n)).wr (.CH_CMD n) v

theorem keepStale_regs (c : Chip) (r : Reg) : (c.keepStale r).regs = c.regs := by
  unfold Chip.keepStale
  dsimp only
  split <;> rfl

theorem cmdAt_same (c : Chip) (n : Port) (v : Word) : SameAdmission c (cmdAt c n v) ∧ (cmdAt c n v).chans = c.chans ∧ (cmdAt c n v).pond = c.pond := by
  obtain ⟨x, hx⟩ : ∃ x, fuseTaken (c.fuseWrite (.CH_CMD n) v allBits) (regDie (.CH_CMD n)) = x := ⟨_, rfl⟩
  have hregs : (x.keepStale (.CH_CMD n)).regs = c.regs := by rw [keepStale_regs, ← hx]; rfl
  have hk : Fr (keeping [.rails, .ports, .clk, .chans, .pond] []) x (x.keepStale (.CH_CMD n)) := by
    apply Chip.keepStale_fr (Fr.refl _ x); simp
  have hw : cmdAt c n v = (x.keepStale (.CH_CMD n)).wr (.CH_CMD n) v := by rw [cmdAt, hx]
  rw [hw]
  refine ⟨⟨fun r hr => ?_, (hk.kept.rails (by simp)).trans (by rw [← hx]; rfl), (hk.kept.ports (by simp)).trans (by rw [← hx]; rfl),
    (hk.kept.clk (by simp)).trans (by rw [← hx]; rfl)⟩, (hk.kept.chans (by simp)).trans (by rw [← hx]; rfl),
    (hk.kept.pond (by simp)).trans (by rw [← hx]; rfl)⟩
  rw [rd_wr_other _ _ (hr n), Chip.rd, hregs]
  rfl

theorem canon_keepStale {c : Chip} (h : Canon c) (r : Reg) : Canon (c.keepStale r) := by
  have hf : Fr (keeping [] []) c (c.keepStale r) := by apply Chip.keepStale_fr (Fr.refl _ c); simp
  exact hf.canon h

theorem cmdAt_rd (hc : Canon c) (n : Port) (v : Word) : (cmdAt c n v).rd (.CH_CMD n) = v :=
  rd_wr_same _ (canon_keepStale (c := fuseTaken (c.fuseWrite (.CH_CMD n) v allBits) (regDie (.CH_CMD n))) ⟨hc.regs, hc.flash, hc.blocks⟩ _) _ _

/-- A write goes to a die that hears, and is applied there at once. -/
theorem fuseNow_free {r : Reg} {w : Word} (h : DieFree c (regDie r)) : ∃ l, c.fuseNow r w =
    ((fuseTaken (c.fuseWrite r w allBits) (regDie r)).applyFuse r w allBits).each l Chip.pendFell := by
  obtain ⟨hhears, hempty⟩ := h
  have hhears' := (fuseWrite_hears c r w allBits (regDie r)).trans hhears
  have hw := fuseWrite_writes hempty w allBits
  have hup : (c.fuseWrite r w allBits).dieUp (regDie r) = true := by
    rw [Chip.dieHears, Bool.and_eq_true] at hhears'
    exact hhears'.1
  obtain ⟨l, htake⟩ := fuseTake_one hup hw
  refine ⟨l, ?_⟩
  unfold Chip.fuseNow
  dsimp only
  rw [if_pos hhears', hw]
  exact htake

/-- CMD = ON at the die, where the channel is off or tripped. -/
theorem fuseNow_on (h : DieFree c (fuseDie n)) (hp : (c.chans[n]).phase = .off ∨ (c.chans[n]).phase = .tripped) :
    ∃ l, c.fuseNow (.CH_CMD n) 1#32 = ((cmdAt c n 1#32).chOn n).each l Chip.pendFell := by
  obtain ⟨l, heq⟩ := fuseNow_free (r := .CH_CMD n) (w := 1#32) h
  refine ⟨l, heq.trans ?_⟩
  have hph : ((fuseTaken (c.fuseWrite (.CH_CMD n) 1#32 allBits) (regDie (.CH_CMD n))).keepStale (.CH_CMD n)).chans = c.chans := by
    rw [keepStale_chans]
    rfl
  have hw : ((fuseTaken (c.fuseWrite (.CH_CMD n) 1#32 allBits) (regDie (.CH_CMD n))).rd (.CH_CMD n) &&& ~~~allBits) ||| (1#32 &&& allBits) = 1#32 := by
    simp [allBits]
  have hne : ((((fuseTaken (c.fuseWrite (.CH_CMD n) 1#32 allBits) (regDie (.CH_CMD n))).keepStale (.CH_CMD n)).chans)[n]).phase ≠ .suspend := by
    rw [hph]
    obtain h | h := hp <;> rw [h] <;> decide
  congr 1
  unfold Chip.applyFuse
  rw [hw]
  exact (if_pos (Or.inl rfl)).trans (if_neg hne)

/-- What the round of falls of a command keeps. -/
theorem each_pendFell_same (l : List Port) (c : Chip) : SameCores c (c.each l Chip.pendFell) ∧
    (c.each l Chip.pendFell).rd (.CH_CMD n) = c.rd (.CH_CMD n) ∧ (c.each l Chip.pendFell).pond = c.pond := by
  have hf : Fr (keeping [.pond] [.CH_CMD n]) c (c.each l Chip.pendFell) :=
    Fr.each (Fr.refl _ _) fun _ _ h => by apply Chip.pendFell_fr h <;> simp
  exact ⟨each_sameCores pendFell_sameCores l c, hf.kept.regs (.CH_CMD n) (by simp), hf.kept.pond (by simp)⟩

/-- A command ON at a die that hears: what the channel is after it. -/
theorem runs_chCmdOn {d : Chip} {p : Chip → Prop} (hc : Canon s.chip) (hg : s.chip.pond.grants = []) (hfree : DieFree s.chip (fuseDie n))
    (hp : (s.chip.chans[n]).phase = .off ∨ (s.chip.chans[n]).phase = .tripped) (hd : (cmdAt s.chip n 1#32).chOn n = d)
    (hprop : ∀ x : Chip, chanCore (x.chans[n]) = chanCore (d.chans[n]) → x.rd (.CH_CMD n) = 1#32 → p x) :
    Runs (.chCmdOn n) s p := by
  obtain ⟨l, heq⟩ := fuseNow_on hfree hp
  obtain ⟨-, -, hpond⟩ := cmdAt_same s.chip n 1#32
  have hon : Fr (keeping [.pond] [.CH_CMD n]) (cmdAt s.chip n 1#32) d := by
    rw [← hd]
    apply Chip.chOn_fr (Fr.refl _ _) <;> simp
  obtain ⟨hcore, hrd, hpond'⟩ := each_pendFell_same (n := n) l d
  have hup : s.chip.dieUp (fuseDie n) = true := by
    have hh := hfree.1
    rw [Chip.dieHears, Bool.and_eq_true] at hh
    exact hh.1
  have hexec : exec (.chCmdOn n) s = execChCmdOn n s := rfl
  refine runs_of_runS_eq (d := d.each l Chip.pendFell) hexec ?_ ?_ (hprop _ (hcore n) ?_)
  · rw [if_pos hup, heq, hd]
  · rw [hpond', hon.kept.pond (by simp), hpond, hg]
  · rw [hrd, hon.kept.regs (.CH_CMD n) (by simp), cmdAt_rd hc]

theorem runs_chCmdOn_inrush (hc : Canon s.chip) (hg : s.chip.pond.grants = []) (hfree : DieFree s.chip (fuseDie n))
    (hok : s.chip.inrushOk n = true) (ht : s.chip.typeC n = false)
    (hp : (s.chip.chans[n]).phase = .off ∨ (s.chip.chans[n]).phase = .tripped) :
    Runs (.chCmdOn n) s (fun c => (c.chans[n]).phase = (if s.chip.railUv (fuseDie n) (s.chip.railOf n) then .hold else .inrush) ∧
      (c.chans[n]).inrushFrom = s.chip.clk.now ∧ c.rd (.CH_CMD n) = 1#32) := by
  obtain ⟨hsame, hchans, -⟩ := cmdAt_same s.chip n 1#32
  obtain ⟨hfrom, -, -⟩ := onFrom_same (cmdAt s.chip n 1#32) n
  have hready : s.chip.chReady n = true := by
    unfold Chip.inrushOk at hok
    simp only [Bool.and_eq_true] at hok
    exact hok.1.1
  have hon : (cmdAt s.chip n 1#32).chOn n = (onFrom (cmdAt s.chip n 1#32) n).startInrush n := by
    rw [chOn_of_ready (by rw [hsame.chReady, hready]) (by rw [hchans]; exact hp), hsame.typeC, ht, hsame.inrushOk, hok]
    rfl
  refine runs_chCmdOn hc hg hfree hp hon fun x hx hrd => ?_
  have hcore := hx.trans (startInrush_core _ _)
  rw [hfrom.railUv, hfrom.railOf, hfrom.clk, hsame.railUv, hsame.railOf, hsame.clk] at hcore
  exact ⟨of_core Chan.phase (fun _ => rfl) hcore, of_core Chan.inrushFrom (fun _ => rfl) hcore, hrd⟩

theorem runs_chCmdOn_armed (hc : Canon s.chip) (hg : s.chip.pond.grants = []) (hfree : DieFree s.chip (fuseDie n))
    (hready : s.chip.chReady n = true) (ht : s.chip.typeC n = true)
    (hp : (s.chip.chans[n]).phase = .off ∨ (s.chip.chans[n]).phase = .tripped) :
    Runs (.chCmdOn n) s (fun c => (c.chans[n]).phase = .armed ∧ c.rd (.CH_CMD n) = 1#32) := by
  obtain ⟨hsame, hchans, -⟩ := cmdAt_same s.chip n 1#32
  have hon : (cmdAt s.chip n 1#32).chOn n = (onFrom (cmdAt s.chip n 1#32) n).updCh n armedChan := by
    rw [chOn_of_ready (by rw [hsame.chReady, hready]) (by rw [hchans]; exact hp), hsame.typeC, ht, if_pos rfl]
  refine runs_chCmdOn hc hg hfree hp hon fun x hx hrd => ⟨?_, hrd⟩
  exact of_core Chan.phase (fun _ => rfl) (hx.trans (updCh_core _ _ _))

theorem runs_chCmdOn_waits (hc : Canon s.chip) (hg : s.chip.pond.grants = []) (hfree : DieFree s.chip (fuseDie n))
    (hready : s.chip.chReady n = true) (hok : s.chip.inrushOk n = false) (ht : s.chip.typeC n = false)
    (hp : (s.chip.chans[n]).phase = .off ∨ (s.chip.chans[n]).phase = .tripped) :
    Runs (.chCmdOn n) s (fun c => (c.chans[n]).phase = (s.chip.chans[n]).phase ∧ (c.chans[n]).onWaits = true) := by
  obtain ⟨hsame, hchans, -⟩ := cmdAt_same s.chip n 1#32
  obtain ⟨-, hphase, -⟩ := onFrom_same (cmdAt s.chip n 1#32) n
  have hon : (cmdAt s.chip n 1#32).chOn n =
      (onFrom (cmdAt s.chip n 1#32) n).updChan n (fun x => { x with onWaits := true, retryAt := none, retryWaits := false }) := by
    rw [chOn_of_ready (by rw [hsame.chReady, hready]) (by rw [hchans]; exact hp), hsame.typeC, ht, hsame.inrushOk, hok]
    rfl
  refine runs_chCmdOn hc hg hfree hp hon fun x hx _ => ?_
  rw [updChan_same] at hx
  refine ⟨(of_core Chan.phase (fun _ => rfl) hx).trans ?_, of_core Chan.onWaits (fun _ => rfl) hx⟩
  rw [← hchans]
  exact hphase

/-! ### The command OFF, and a die that does not hear -/

theorem chans_of_settle {d x : Chip} (h : Fr frSettle d x) : x.chans = d.chans := h.kept.chans (by decide)

theorem runs_chCmdOff (hc : Canon s.chip) (hfree : DieFree s.chip (fuseDie n)) :
    Runs (.chCmdOff n) s (fun c => (c.chans[n]).phase = .off ∧ c.rd (.CH_CMD n) = 0#32) := by
  obtain ⟨l, heq⟩ := fuseNow_cmdOff hfree
  obtain ⟨w, hw⟩ : ∃ w, cmdOff (fuseTaken (s.chip.fuseWrite (.CH_CMD n) 0#32 allBits) (regDie (.CH_CMD n))) n = w := ⟨_, rfl⟩
  obtain ⟨hcore, hrd, -⟩ := each_pendFell_same (n := n) l w
  have hcmd : w.rd (.CH_CMD n) = 0#32 := by
    have hf : Fr (keeping [] [.CH_CMD n]) (cmdAt s.chip n 0#32) w := by
      rw [← hw]
      unfold cmdOff
      apply Chip.chOff_fr (Fr.refl _ _) <;> simp
    rw [hf.kept.regs (.CH_CMD n) (by simp), cmdAt_rd hc]
  have hup : s.chip.dieUp (fuseDie n) = true := by
    have hh := hfree.1
    rw [Chip.dieHears, Bool.and_eq_true] at hh
    exact hh.1
  have hexec : exec (.chCmdOff n) s = execChCmdOff n s := rfl
  refine runs_settled hexec (w.each l Chip.pendFell) ?_ fun x hx => ⟨?_, ?_⟩
  · rw [if_pos hup, heq, hw]
  · rw [chans_of_settle hx, hcore.phase, ← hw]
    exact (cmdOff_phase _ n).1
  · rw [rd_of_settle hx rfl, hrd, hcmd]

theorem fuseNow_deaf {r : Reg} (h : (c.fl[regDie r]).badTo ≠ 0) (w : Word) : c.fuseNow r w = c.fuseWrite r w allBits := by
  have hhears : (c.fuseWrite r w allBits).dieHears (regDie r) = false := by
    rw [fuseWrite_hears, Chip.dieHears]
    simp only [Bool.and_eq_false_iff]
    exact .inr (by simpa using h)
  unfold Chip.fuseNow
  dsimp only
  rw [hhears]
  rfl

/-- A command to a die that does not hear waits in the link. -/
theorem runs_cmd_deaf {i : Instr} {w : Word} {f : Chip → Chip} (hexec : exec i s = s.runS f)
    (hf : f s.chip = s.chip.fuseNow (.CH_CMD n) w) (hbad : (s.chip.fl[fuseDie n]).badTo ≠ 0) :
    Runs i s (fun c => c.chans = s.chip.chans ∧
      (c.fl[fuseDie n]).writes = (s.chip.fl[fuseDie n]).writes ++ [(.CH_CMD n, w, allBits)]) := by
  refine runs_settled hexec (s.chip.fuseWrite (.CH_CMD n) w allBits) (hf.trans (fuseNow_deaf (r := .CH_CMD n) hbad w)) fun x hx => ⟨?_, ?_⟩
  · exact (chans_of_settle hx).trans rfl
  · have hfl : x.fl = (s.chip.fuseWrite (.CH_CMD n) w allBits).fl := hx.kept.fl (by decide)
    rw [hfl]
    exact congrArg FLink.writes (updFl_same s.chip (fuseDie n) (fun l => { l with writes := l.writes ++ [(.CH_CMD n, w, allBits)] }))

/-! ### SUSPEND and its end (R177) -/

theorem setProfile_core (c : Chip) (n : Port) (p : Phase) : chanCore ((c.setProfile n p).chans[n]) =
    chanCore { c.chans[n] with phase := p, timers := [], timersAt := c.clk.now, onSince := if p = .on then some c.clk.now else none } :=
  updCh_core c n _

/-- A channel brought to the profile of ON or SUSPEND, where it is not in it. -/
def profiled (c : Chip) (n : Port) (p : Phase) : Chip := if (c.chans[n]).phase = p then c else c.setProfile n p

theorem profiled_phase (c : Chip) (n : Port) (p : Phase) : ((profiled c n p).chans[n]).phase = p := by
  unfold profiled
  split
  · next h => exact h
  · exact (of_core Chan.phase (fun _ => rfl) (setProfile_core c n p)).trans rfl

theorem canon_profiled (hc : Canon c) (n : Port) (p : Phase) : Canon (profiled c n p) := by
  unfold profiled
  split
  · exact hc
  · exact ⟨hc.regs, hc.flash, hc.blocks⟩

theorem suspendCh_free (hc : Canon c) {b : Bool} (hfree : DieFree c (fuseDie n)) (hp : (c.chans[n]).phase = .on ∨ (c.chans[n]).phase = .suspend) :
    ((c.suspendCh n b).chans[n]).phase = (if b then .suspend else .on) ∧ (c.suspendCh n b).rd (.CH_CMD n) = (if b then 2#32 else 1#32) := by
  obtain ⟨hhears, hw⟩ := hfree
  have hpend : c.chPending n = false := by
    rw [Chip.chPending, hw]
    rfl
  have heq : c.suspendCh n b =
      (profiled (c.keepStale (.CH_CMD n)) n (if b then .suspend else .on)).wr (.CH_CMD n) (if b then 2#32 else 1#32) := by
    unfold Chip.suspendCh profiled
    dsimp only
    rw [if_neg (by obtain h | h := hp <;> rw [h] <;> decide), hhears, hpend, if_pos (by rfl), keepStale_chans]
  rw [heq]
  exact ⟨profiled_phase _ n _, rd_wr_same _ (canon_profiled (canon_keepStale hc _) n _) _ _⟩

theorem runs_chCmdSuspend (hc : Canon s.chip) {b : Bool} (hd : s.chip.isDrop n = true) (hr : s.chip.root n = if b then rsSUSPENDED else rsRESUMING)
    (hfree : DieFree s.chip (fuseDie n)) (hp : (s.chip.chans[n]).phase = .on ∨ (s.chip.chans[n]).phase = .suspend) :
    Runs (.chCmdSuspend n b) s (fun c => (c.chans[n]).phase = (if b then .suspend else .on) ∧ c.rd (.CH_CMD n) = (if b then 2#32 else 1#32)) := by
  obtain ⟨hphase, hrd⟩ := suspendCh_free hc (b := b) hfree hp
  have hexec : exec (.chCmdSuspend n b) s = execChCmdSuspend n b s := rfl
  refine runs_settled hexec (s.chip.suspendCh n b) (if_pos ⟨hd, hr⟩) fun x hx => ⟨?_, ?_⟩
  · rw [chans_of_settle hx, hphase]
  · rw [rd_of_settle hx rfl, hrd]

theorem runs_chCmdSuspend_none (hg : s.chip.pond.grants = []) {b : Bool}
    (h : s.chip.isDrop n = false ∨ s.chip.root n ≠ (if b then rsSUSPENDED else rsRESUMING)) :
    Runs (.chCmdSuspend n b) s (fun c => c = s.chip) := by
  have hexec : exec (.chCmdSuspend n b) s = execChCmdSuspend n b s := rfl
  refine runs_of_runS_eq hexec (if_neg ?_) hg rfl
  rintro ⟨hd, hr⟩
  obtain h | h := h
  · exact Bool.false_ne_true (h.symm.trans hd)
  · exact h hr

/-! ### Inrush complete, holds and their end (R279, R283) -/

theorem runs_inrushComplete (hp : (s.chip.chans[n]).phase = .inrush)
    (hv : s.chip.railV (fuseDie n) (s.chip.railOf n) ≤ (s.chip.chans[n]).vOut.toNat + 30) :
    Runs (.inrushComplete n) s (fun c => (c.chans[n]).phase = .on ∧ (c.chans[n]).onSince = some s.chip.clk.now) := by
  obtain ⟨w, hw⟩ : ∃ w, s.chip.setProfile n .on = w := ⟨_, rfl⟩
  have hf : Fr (keeping [.chans] []) w ((w.powerBack n).pdChannelOn n) := by
    apply Chip.pdChannelOn_fr (Chip.powerBack_fr (Fr.refl _ w) ?_ ?_) <;> simp
  have hexec : exec (.inrushComplete n) s = execInrushComplete n s := rfl
  refine runs_settled hexec ((w.powerBack n).pdChannelOn n) ?_ fun x hx => ?_
  · rw [← hw]
    refine if_neg ?_
    simp only [hp, decide_eq_true hv]
    decide
  · have hcore := setProfile_core s.chip n .on
    rw [hw] at hcore
    rw [chans_of_settle hx, hf.kept.chans (by simp)]
    exact ⟨of_core Chan.phase (fun _ => rfl) hcore, of_core Chan.onSince (fun _ => rfl) hcore⟩

theorem enterHold_phase (c : Chip) (n : Port) : ((c.enterHold n).chans[n]).phase = .hold ∧
    ∀ k, k ≠ n → ((c.enterHold n).chans[k]).phase = (c.chans[k]).phase := by
  unfold Chip.enterHold
  extract_lets now c1
  have hcore : SameCores c1 ((c1.holdBegins n).regulate n) := (holdBegins_sameCores c1 n).trans (regulate_sameCores _ n)
  refine ⟨(hcore.phase n).trans (of_core Chan.phase (fun _ => rfl) (updCh_core c n _)), fun k hk => (hcore.phase k).trans ?_⟩
  simp only [c1]
  rw [updCh_other _ _ hk]

theorem leaveHold_phase (c : Chip) (n : Port) : ((c.leaveHold n).chans[n]).phase = .inrush ∧
    ∀ k, k ≠ n → ((c.leaveHold n).chans[k]).phase = (c.chans[k]).phase := by
  unfold Chip.leaveHold
  extract_lets now x h c1
  have hpost : ∀ e, SameCores c1 ((c1.regulate n).post e) := fun e =>
    (regulate_sameCores c1 n).trans (sameCores_of_chans ((fr_post (ps := [.chans]) (rs := []) _ e (by simp)).kept.chans (by simp)))
  refine ⟨((hpost _).phase n).trans (of_core Chan.phase (fun _ => rfl) (updCh_core c n _)), fun k hk => ((hpost _).phase k).trans ?_⟩
  simp only [c1]
  rw [updCh_other _ _ hk]

/-- A round over channels that takes each from one phase to another: a channel of the round is in the other phase after it. -/
theorem each_moves {f : Chip → Port → Chip} {p q : Phase} (hpq : p ≠ q)
    (hf : ∀ c m, ((f c m).chans[m]).phase = q ∧ ∀ k, k ≠ m → ((f c m).chans[k]).phase = (c.chans[k]).phase) (n : Port) :
    ∀ (l : List Port) (c : Chip), (c.chans[n]).phase = q ∨ (n ∈ l ∧ (c.chans[n]).phase = p) →
      ((c.each l (fun c m => if (c.chans[m]).phase = p then f c m else c)).chans[n]).phase = q
  | [], _, h => h.resolve_right fun h => List.not_mem_nil h.1
  | m :: t, c, h => by
    refine each_moves hpq hf n t _ ?_
    obtain ⟨hsame, hother⟩ := hf c m
    dsimp only
    by_cases hm : (c.chans[m]).phase = p
    · rw [if_pos hm]
      by_cases hn : n = m
      · subst hn
        exact .inl hsame
      · rw [hother n hn]
        exact h.imp id fun h => ⟨(List.mem_cons.1 h.1).resolve_left hn, h.2⟩
    · rw [if_neg hm]
      refine h.imp id fun h => ⟨(List.mem_cons.1 h.1).resolve_left ?_, h.2⟩
      rintro rfl
      exact hm h.2

theorem mem_railChans {j : RailId} {d : Die} (hj : c.railOf n = j) (hd : fuseDie n = d) : n ∈ (c.railChans j).filter (fun n => fuseDie n == d) :=
  List.mem_filter.2 ⟨List.mem_filter.2 ⟨List.mem_finRange n, by simpa using hj⟩, by simpa using hd⟩

theorem runs_railSag {d : Die} {j : RailId} (hu : s.chip.railUv d j = true) :
    Runs (.railSag d j) s (fun c => ∀ n, s.chip.railOf n = j → fuseDie n = d →
      (s.chip.chans[n]).phase = .inrush → (c.chans[n]).phase = .hold) := by
  have hexec : exec (.railSag d j) s = execRailSag d j s := rfl
  refine runs_settled hexec (s.chip.each ((s.chip.railChans j).filter (fun n => fuseDie n == d))
    (fun c n => if (c.chans[n]).phase = .inrush then c.enterHold n else c)) (by rw [hu]; rfl) fun x hx n hj hd hp => ?_
  rw [chans_of_settle hx]
  exact each_moves (by decide) enterHold_phase n _ _ (.inr ⟨mem_railChans hj hd, hp⟩)

theorem runs_railRecover {d : Die} {j : RailId} {t : Nat} (hb : (if d = 0 then (s.chip.rails[j]).back0 else (s.chip.rails[j]).back1) = some t)
    (ht : t + us 50 ≤ s.chip.clk.now) :
    Runs (.railRecover d j) s (fun c => ∀ n, s.chip.railOf n = j → fuseDie n = d →
      (s.chip.chans[n]).phase = .hold → (c.chans[n]).phase = .inrush) := by
  have hexec : exec (.railRecover d j) s = execRailRecover d j s := rfl
  refine runs_settled hexec (s.chip.each ((s.chip.railChans j).filter (fun n => fuseDie n == d))
    (fun c n => if (c.chans[n]).phase = .hold then c.leaveHold n else c)) ?_ fun x hx n hj hd hp => ?_
  · dsimp only
    rw [hb, Option.any_some, decide_eq_true ht]
    rfl
  · rw [chans_of_settle hx]
    exact each_moves (by decide) leaveHold_phase n _ _ (.inr ⟨mem_railChans hj hd, hp⟩)

/-! ### Trips (R280 to R285) -/

/-- A channel that trips: its cause, the point of a breaker's trip, and its retry's moment. -/
def trippedChan (now retryAt cause point : Nat) (x : Chan) : Chan :=
  { x with
    phase := .tripped, cause := cause, point := if cause = caBREAKER then point else x.point
    heldBy := if cause = caHOLD then x.heldByNow else x.heldBy
    trips := now :: x.trips.filter (fun a => now ≤ a + us 20), onSince := none, offAt := some now
    retryAt := some retryAt, retryWaits := false, vMax := none }

theorem trip_core (c : Chip) (n : Port) (cause point peak : Nat) : ∃ t, chanCore ((c.trip n cause point peak).chans[n]) =
    chanCore (trippedChan c.clk.now t cause point c.chans[n]) := by
  unfold Chip.trip
  extract_lets now delay c1 c2 x c3 c4
  have htold : Fr (keeping [.chans] []) c2 c3 := by apply Chip.postTrip_fr (Fr.refl _ c2) <;> simp
  have hlost : (c4.pdStop n ceTRIP).chans = c2.chans := (pdStop_chans _ _ _).trans ((powerLost_chans _ _ _).trans (htold.kept.chans (by simp)))
  exact ⟨now + delay, (((tripExplains_sameCores c1 n).trans (sameCores_of_chans hlost)) n).trans
    (updCh_core c n (trippedChan now (now + delay) cause point))⟩

theorem trip_tells (c : Chip) (n : Port) (cause point peak : Nat) : ((c.trip n cause point peak).chans[n]).phase = .tripped ∧
    ((c.trip n cause point peak).chans[n]).cause = cause ∧
    (cause = caBREAKER → ((c.trip n cause point peak).chans[n]).point = point) := by
  obtain ⟨t, h⟩ := trip_core c n cause point peak
  refine ⟨of_core Chan.phase (fun _ => rfl) h, of_core Chan.cause (fun _ => rfl) h, fun hb => (of_core Chan.point (fun _ => rfl) h).trans ?_⟩
  exact if_pos hb

theorem runs_imp {i : Instr} {p q : Chip → Prop} (h : Runs i s p) (hpq : ∀ x, p x → q x) : Runs i s q := by
  obtain ⟨t, ht, hpend, hp⟩ := h
  exact ⟨t, ht, hpend, hpq _ hp⟩

theorem runs_trip {i : Instr} {f : Chip → Chip} {cause point peak : Nat} (hexec : exec i s = s.runS f) (hf : f s.chip = s.chip.trip n cause point peak) :
    Runs i s (fun c => (c.chans[n]).phase = .tripped ∧ (c.chans[n]).cause = cause ∧ (cause = caBREAKER → (c.chans[n]).point = point)) :=
  runs_settled hexec _ hf fun x hx => by
    rw [chans_of_settle hx]
    exact trip_tells s.chip n cause point peak

theorem runs_holdLimit (hp : (s.chip.chans[n]).phase = .hold)
    (ht : ms 10 < (s.chip.chans[n]).holdUsed + (s.chip.clk.now - (s.chip.chans[n]).holdFrom)) :
    Runs (.holdLimit n) s (fun c => (c.chans[n]).phase = .tripped ∧ (c.chans[n]).cause = caHOLD) := by
  have hexec : exec (.holdLimit n) s = execHoldLimit n s := rfl
  obtain ⟨w, hw⟩ : ∃ w, s.chip.trip n caHOLD 0 (s.chip.chans[n]).cur.toNat = w := ⟨_, rfl⟩
  obtain ⟨hphase, hcause, -⟩ := trip_tells s.chip n caHOLD 0 (s.chip.chans[n]).cur.toNat
  have hf : Fr (keeping [.chans] []) w (s.chip.holdTrip n) := by
    unfold Chip.holdTrip
    dsimp only
    rw [hw]
    have hrail : ∀ (d : Chip) j g, Fr (keeping [.chans] []) w d → Fr (keeping [.chans] []) w (d.updRail j g) := fun d j g h => by
      apply Chip.updRail_fr h; simp
    have hesc : ∀ (d : Chip) a b i e, Fr (keeping [.chans] []) w d → Fr (keeping [.chans] []) w (d.escalate a b i e) := fun d a b i e h => by
      apply Chip.escalate_fr h <;> simp
    split
    · apply Chip.evRailBlocked_fr (hrail _ _ _ (hesc _ _ _ _ _ (hrail _ _ _ (Fr.refl _ w)))); simp
    · exact hesc _ _ _ _ _ (hrail _ _ _ (Fr.refl _ w))
  refine runs_settled hexec (s.chip.holdTrip n) (if_pos ⟨hp, ht⟩) fun x hx => ?_
  rw [chans_of_settle hx, hf.kept.chans (by simp), ← hw]
  exact ⟨hphase, hcause⟩

theorem runs_inrushTimeout (hp : (s.chip.chans[n]).phase = .inrush)
    (ht : ms (clampNat 1 200 (s.chip.get (.CH_INRUSH n) F.CH_INRUSH_INRUSH_MAX)) ≤
      (s.chip.chans[n]).inrushUsed + (s.chip.clk.now - (s.chip.chans[n]).inrushFrom)) :
    Runs (.inrushTimeout n) s (fun c => (c.chans[n]).phase = .tripped ∧ (c.chans[n]).cause = caTIMEOUT) := by
  have hexec : exec (.inrushTimeout n) s = execInrushTimeout n s := rfl
  exact runs_imp (runs_trip hexec (if_pos ⟨hp, ht⟩)) fun _ h => ⟨h.1, h.2.1⟩

theorem runs_fastTrip {k : BitVec 16} (hk : s.chip.tripAtCur n ≤ k.toNat) (hp : (s.chip.chans[n]).phase = .inrush ∨ (s.chip.chans[n]).phase = .hold ∨
      (s.chip.chans[n]).phase = .on ∨ (s.chip.chans[n]).phase = .suspend) :
    Runs (.fastTrip n k) s (fun c => (c.chans[n]).phase = .tripped ∧ (c.chans[n]).cause = caSHORT) := by
  have hexec : exec (.fastTrip n k) s = execFastTrip n k s := rfl
  refine runs_imp (runs_trip (cause := caSHORT) (point := 0) (peak := k.toNat) hexec ?_) fun _ h => ⟨h.1, h.2.1⟩
  rw [if_neg (Nat.not_lt.2 hk)]
  obtain h | h | h | h := hp <;> rw [h]

theorem runs_breakerTrip {p : Fin 8} {k : BitVec 16} (hp : (s.chip.chans[n]).phase = .on ∨ (s.chip.chans[n]).phase = .suspend)
    (hm : s.chip.get (.CH_CURVE n p) F.CH_CURVE_M ≠ 0) (ht : us (100 * s.chip.getPos (.CH_CURVE n p) F.CH_CURVE_T) ≤ s.chip.pointTimer n p) :
    Runs (.breakerTrip n p k) s (fun c => (c.chans[n]).phase = .tripped ∧ (c.chans[n]).cause = caBREAKER ∧ (c.chans[n]).point = p.val) := by
  have hexec : exec (.breakerTrip n p k) s = execBreakerTrip n p k s := rfl
  exact runs_imp (runs_trip hexec (if_pos ⟨hp, hm, ht⟩)) fun _ ⟨hph, hcause, hpoint⟩ => ⟨hph, hcause, hpoint rfl⟩

/-- A retry starts the inrush again, and counts (R285). -/
theorem retry_core (c : Chip) (n : Port) : chanCore ((c.retry n).chans[n]) =
    chanCore (inrushChan (c.railUv (fuseDie n) (c.railOf n)) c.clk.now { c.chans[n] with retries := min 15 ((c.chans[n]).retries + 1) }) := by
  unfold Chip.retry
  extract_lets x c1 c2
  have hpost := fr_post (ps := [.rails, .ports, .clk, .chans]) (rs := []) c1 (c1.evCh 0x0303 n [x.retries + 1, x.cause]) (by simp)
  have hrails : c2.railUv (fuseDie n) (c2.railOf n) = c.railUv (fuseDie n) (c.railOf n) := by
    have hrd : ∀ r, c2.rd r = c.rd r := fun r =>
      (fr_post (ps := []) (rs := [r]) c1 (c1.evCh 0x0303 n [x.retries + 1, x.cause]) (by simp)).kept.regs r (by simp)
    have hsame : SameAdmission c c2 := ⟨fun r _ => hrd r, hpost.kept.rails (by simp), hpost.kept.ports (by simp), hpost.kept.clk (by simp)⟩
    rw [hsame.railUv, hsame.railOf]
  have hclk : c2.clk = c.clk := hpost.kept.clk (by simp)
  have hcore : chanCore (c2.chans[n]) = chanCore { c.chans[n] with retries := min 15 ((c.chans[n]).retries + 1) } := by
    rw [show c2.chans = c1.chans from hpost.kept.chans (by simp)]
    exact updCh_core c n _
  refine (startInrush_core c2 n).trans ?_
  rw [hrails, hclk]
  exact of_core (fun y => chanCore (inrushChan (c.railUv (fuseDie n) (c.railOf n)) c.clk.now y)) (fun _ => rfl) hcore

theorem runs_retryDue {t : Nat} (hp : (s.chip.chans[n]).phase = .tripped) (hr : (s.chip.chans[n]).retryAt = some t) (ht : t ≤ s.chip.clk.now)
    (hm : s.chip.mayRetry n = true) (hup : s.chip.dieUp (fuseDie n) = true) (hok : s.chip.inrushOk n = true)
    (huv : s.chip.railUv (fuseDie n) (s.chip.railOf n) = false) :
    Runs (.retryDue n) s (fun c => (c.chans[n]).phase = .inrush ∧ (c.chans[n]).retries = min 15 ((s.chip.chans[n]).retries + 1)) := by
  have hexec : exec (.retryDue n) s = execRetryDue n s := rfl
  refine runs_settled hexec (s.chip.retry n) ?_ fun x hx => ?_
  · dsimp only
    rw [hr, Option.any_some, decide_eq_true ht, hm, hup, hok, if_neg (by rw [hp]; decide)]
    rfl
  · have hcore := retry_core s.chip n
    rw [huv] at hcore
    rw [chans_of_settle hx]
    exact ⟨of_core Chan.phase (fun _ => rfl) hcore, of_core Chan.retries (fun _ => rfl) hcore⟩

theorem runs_retryCountReset {t : Nat} (hp : (s.chip.chans[n]).phase = .on) (hs : (s.chip.chans[n]).onSince = some t) (ht : t + sec 60 ≤ s.chip.clk.now) :
    Runs (.retryCountReset n) s (fun c => (c.chans[n]).retries = 0 ∧ (c.chans[n]).phase = .on) := by
  have hexec : exec (.retryCountReset n) s = execRetryCountReset n s := rfl
  have hcore := updCh_core s.chip n (fun x => { x with retries := 0 })
  have hdue : (s.chip.chans[n]).onSince.any (fun t => t + sec 60 ≤ s.chip.clk.now) = true := by
    rw [hs, Option.any_some]
    exact decide_eq_true ht
  refine runs_settled hexec (s.chip.updCh n (fun x => { x with retries := 0 })) (if_pos ⟨hp, hdue⟩) fun x hx => ?_
  rw [chans_of_settle hx]
  exact ⟨(of_core Chan.retries (fun _ => rfl) hcore).trans rfl, (of_core Chan.phase (fun _ => rfl) hcore).trans hp⟩

theorem runs_fetFaultDetect (hc : Canon s.chip) {k : BitVec 16} {t : Nat}
    (hp : (s.chip.chans[n]).phase = .off ∨ (s.chip.chans[n]).phase = .tripped ∨ (s.chip.chans[n]).phase = .armed) (h5 : 5 ≤ k.toNat)
    (hk : 2 * s.chip.getPos (.CH_LIMIT n) F.CH_LIMIT_I_NOM ≤ 100 * k.toNat) (ho : (s.chip.chans[n]).offAt = some t)
    (ht : t + ms 11 ≤ s.chip.clk.now) :
    Runs (.fetFaultDetect n k) s (fun c => (c.chans[n]).fetFault = true ∧
      c.bitAt .GLB_FAULT F.GLB_FAULT_SRC (FaultSrc.fet).bit = true) := by
  have hexec : exec (.fetFaultDetect n k) s = execFetFaultDetect n k s := rfl
  obtain ⟨w, hw⟩ : ∃ w, s.chip.updChan n (fun x => { x with fetFault := true, seq := x.seq + 1, offAt := none }) = w := ⟨_, rfl⟩
  have hcanon : Canon w := by rw [← hw]; exact ⟨hc.regs, hc.flash, hc.blocks⟩
  have hf : Fr (keeping [.chans] []) w (w.postFault .fet (w.evCh 0x0305 n [k.toNat])) := by
    apply Chip.postFault_fr (Fr.refl _ w) <;> simp
  refine runs_settled hexec (w.postFault .fet (w.evCh 0x0305 n [k.toNat])) ?_ fun x hx => ⟨?_, ?_⟩
  · rw [← hw]
    refine if_pos ⟨hp, ?_, ?_⟩
    · rw [decide_eq_true h5, decide_eq_true hk]
      rfl
    · rw [ho, Option.any_some]
      exact decide_eq_true ht
  · rw [chans_of_settle hx, hf.kept.chans (by simp), ← hw, updChan_same]
  · rw [bitAt_of_rd (rd_of_settle hx rfl)]
    exact bitAt_postFault w hcanon _ _

end

/-- Settles O16: a command at a die that hears is applied there, and each event of a channel moves the channel's
core as the state table says; what follows on its port leaves the channel. -/
theorem channels : Obligations.Channels := by
  unfold Obligations.Channels
  intro s hc hg
  refine ⟨fun n hf hok ht hp => runs_chCmdOn_inrush hc hg hf hok ht hp, fun n hf hr ht hp => runs_chCmdOn_armed hc hg hf hr ht hp,
    fun n hf hr hok ht hp => runs_chCmdOn_waits hc hg hf hr hok ht hp, fun n hf => runs_chCmdOff hc hf, fun n hup hb => ?_, fun n hup => ?_,
    fun n hd hr hf hp => runs_chCmdSuspend hc (b := true) hd hr hf hp, fun n hd hr hf hp => runs_chCmdSuspend hc (b := false) hd hr hf hp,
    fun n b h => runs_chCmdSuspend_none hg h, fun n hp hv => runs_inrushComplete hp hv, fun d j hu => runs_railSag hu,
    fun d j t hb ht => runs_railRecover hb ht, fun n hp ht => runs_holdLimit hp ht, fun n hp ht => runs_inrushTimeout hp ht,
    fun n k hk hp => runs_fastTrip hk hp, fun n p k hp hm ht => runs_breakerTrip hp hm ht,
    fun n t hp hr ht hm hup hok huv => runs_retryDue hp hr ht hm hup hok huv, fun n t hp hs ht => runs_retryCountReset hp hs ht,
    fun n k t hp h5 hk ho ht => runs_fetFaultDetect hc hp h5 hk ho ht⟩
  · have hon : exec (.chCmdOn n) s = execChCmdOn n s := rfl
    have hoff : exec (.chCmdOff n) s = execChCmdOff n s := rfl
    exact ⟨runs_cmd_deaf hon (if_pos hup) hb, runs_cmd_deaf hoff (if_pos hup) hb⟩
  · have hon : exec (.chCmdOn n) s = execChCmdOn n s := rfl
    have hoff : exec (.chCmdOff n) s = execChCmdOff n s := rfl
    have hdown : ¬ s.chip.dieUp (fuseDie n) = true := by rw [hup]; decide
    exact ⟨runs_of_runS_eq hon (if_neg hdown) hg rfl, runs_of_runS_eq hoff (if_neg hdown) hg rfl⟩

end Sys2Proof.Proofs

namespace Sys2Proof.Proofs

open Sys2Proof.Machine Sys2Proof.Laws

/-! The reset scopes: a request starts the reset of its scope, and RESET_DONE ends it (03 R67 to R70). -/

section

variable {s : State} {c : Chip}

/-! ### The clocks but for what the balls show -/

/-- The clocks stay, but for the levels of the balls. -/
def CoreKept (c x : Chip) : Prop := clkCore x.clk = clkCore c.clk

theorem CoreKept.of_fr {c x : Chip} (h : Fr (keeping [.clk] []) c x) : CoreKept c x := congrArg clkCore (h.kept.clk (by simp))

theorem CoreKept.trans {a b c : Chip} (h : CoreKept a b) (h' : CoreKept b c) : CoreKept a c := Eq.trans (b := clkCore b.clk) h' h

theorem CoreKept.now {c x : Chip} (h : CoreKept c x) : x.clk.now = c.clk.now := by
  have h' := congrArg Clk.now h
  exact h'

theorem enterTarn_core (c : Chip) (k : Nat) : CoreKept c (c.enterTarn k) := by
  unfold Chip.enterTarn
  split
  · rfl
  · extract_lets c1 entry wait c2 c3 c4 c5
    have h1 : Fr (keeping [.clk] []) c c1 := by apply Chip.dropSwap_fr (Fr.refl _ c) <;> simp
    have h2 : Fr (keeping [.clk] []) c c5 := by
      refine Chip.syncTrunk_fr (Chip.record_fr (Fr.each (Chip.setF_fr (Chip.updTrunk_fr h1 ?_) ?_) fun _ _ h => ?_) ?_) ?_
      · simp
      · simp
      · apply Chip.spillFrame_fr h <;> simp
      · simp
      · simp
    exact (CoreKept.of_fr h2).trans (postFault_clkCore c5 _ _)

theorem loseLane_core (c : Chip) (l : LaneId) (k : Nat) (t : Option Nat) : CoreKept c (c.loseLane l k t) := by
  unfold Chip.loseLane
  split
  · rfl
  · extract_lets o c1 c2 c3 again c4
    have h1 : Fr (keeping [.clk] []) c c1 := by
      apply Chip.updLane_fr (Chip.setUp_fr (Fr.refl _ c) ?_) <;> simp
    have h3 : Fr (keeping [.clk] []) c2 c3 := by apply Chip.dropSwap_fr (Fr.refl _ c2) <;> simp
    have hc3 : CoreKept c c3 := ((CoreKept.of_fr h1).trans (postFault_clkCore c1 _ _)).trans (CoreKept.of_fr h3)
    have htail : ∀ d : Chip, CoreKept c d → CoreKept c d.syncTrunk := fun d h =>
      h.trans (CoreKept.of_fr (by apply Chip.syncTrunk_fr (Fr.refl _ d); simp))
    split
    · exact htail c3 hc3
    · split
      · exact hc3.trans (CoreKept.of_fr (by apply Chip.failOver_fr (Fr.refl _ c3) <;> simp))
      · split
        · exact htail _ hc3
        · have h4 : CoreKept c c4 := by
            simp only [c4]
            split
            · exact htail c3 hc3
            · split
              · exact hc3.trans (enterTarn_core c3 _)
              · split
                · exact (hc3.trans (CoreKept.of_fr (by apply Chip.escalate_fr (Fr.refl _ c3) <;> simp))).trans (enterTarn_core _ _)
                · exact hc3.trans (enterTarn_core c3 _)
          split
          · exact h4.trans (CoreKept.of_fr (by apply Chip.respill_fr (Fr.refl _ c4) <;> simp))
          · exact h4

/-! ### What keeps the running resets -/

/-- The running resets stay. -/
def ResetsKept (c x : Chip) : Prop := x.clk.resets = c.clk.resets

theorem resets_of_fr {c x : Chip} (h : Fr (keeping [.clk] []) c x) : ResetsKept c x := congrArg Clk.resets (h.kept.clk (by simp))

theorem ResetsKept.trans {a b c : Chip} (h : ResetsKept a b) (h' : ResetsKept b c) : ResetsKept a c := Eq.trans (b := b.clk.resets) h' h

theorem dropPulses_resets (c : Chip) (p : Crossing → Bool) : ResetsKept c (c.dropPulses p) := rfl

theorem postFault_resets (c : Chip) (x : FaultSrc) (e : Event) : ResetsKept c (c.postFault x e) := by
  have h := congrArg Clk.resets (postFault_clkCore c x e)
  exact h

theorem each_resets {α : Type} {f : Chip → α → Chip} (h : ∀ c x, ResetsKept c (f c x)) : ∀ (l : List α) (c : Chip), ResetsKept c (c.each l f)
  | [], _ => rfl
  | x :: t, c => (h c x).trans (each_resets h t (f c x))

theorem portReset_resets (c : Chip) (n : Port) : ResetsKept c (c.portReset n) := by
  unfold Chip.portReset
  extract_lets c1 c2 c3
  have h12 : ResetsKept c c2 := rfl
  have h3 : Fr (keeping [.clk] []) c2 c3 := by
    simp only [c3]
    split
    · exact Fr.refl _ _
    · apply Chip.resetDrop_fr (Fr.refl _ _) <;> simp
    · apply Chip.resetLine_fr (Fr.refl _ _) <;> simp
  have h4 : Fr (keeping [.clk] []) c2 (c3.bumpPort n) := by apply Chip.bumpPort_fr h3 <;> simp
  exact h12.trans (resets_of_fr h4)

theorem basinDown_resets (c : Chip) (b : Basin) : ResetsKept c (c.basinDown b) := by
  unfold Chip.basinDown
  extract_lets c1 c2 ps c3 c4 c5 c6
  have hengines : ResetsKept c1 c2 := each_resets (fun c e => resets_of_fr (by apply Chip.updEng_fr (Fr.refl _ c); simp)) _ c1
  have hbinds : ResetsKept c2 c3 := each_resets (fun c b => resets_of_fr (by apply Chip.updSvcBody_fr (Fr.refl _ c) <;> simp)) _ c2
  have hrecs : ResetsKept c3 c4 := resets_of_fr (by apply Chip.culletRecs_fr (Fr.refl _ c3); simp)
  have hbelt : ResetsKept c4 c5 := resets_of_fr (by apply Chip.updBelt_fr (Fr.refl _ c4); simp)
  have hdrops : ResetsKept c5 c6 := each_resets (fun c n => resets_of_fr (by apply Chip.updDrop_fr (Fr.refl _ c); simp)) _ c5
  have hbasin : ResetsKept c6 (c6.updBasin b (fun x => { x with inReset := true, gated := false })) :=
    resets_of_fr (by apply Chip.updBasin_fr (Fr.refl _ c6); simp)
  exact (dropPulses_resets c _).trans (hengines.trans (hbinds.trans (hrecs.trans (hbelt.trans (hdrops.trans hbasin)))))

theorem loseLane_resets (c : Chip) (l : LaneId) (k : Nat) (t : Option Nat) : ResetsKept c (c.loseLane l k t) := by
  have h := congrArg Clk.resets (loseLane_core c l k t)
  exact h

theorem resetLane_resets (c : Chip) (l : LaneId) (t : Option Nat) : ResetsKept c (c.resetLane l t) := by
  unfold Chip.resetLane
  extract_lets c1 c2 et fec
  have h : ResetsKept c1 c2 := resets_of_fr (by apply Chip.setDegr_fr (Fr.wr (Fr.refl _ c1) (by simp) _); simp)
  exact (loseLane_resets c l 1 t).trans h

theorem takeOver_resets (c : Chip) (e : Engine) : ResetsKept c (c.takeOver e) := by
  unfold Chip.takeOver
  split
  · rfl
  · next cause lost hh =>
    extract_lets cur
    split
    · exact resets_of_fr (by apply Chip.cullDev_fr (Chip.updEng_fr (Fr.refl _ c) ?_) <;> simp)
    next b r also code drops own figs had inService c1 c2 x hv =>
      have h2 : Fr (keeping [.clk] []) c c2 := by
        have h1 : Fr (keeping [.clk] []) c c1 := by apply Chip.updEng_fr (Fr.refl _ c); simp
        simp only [c2]
        split
        · apply Chip.bumpEngine_fr h1 <;> simp
        · exact h1
      split
      next succ c3 heq =>
        have h3 : Fr (keeping [.clk] []) c c3 := by
          have hsnd : _ = c3 := congrArg Prod.snd heq
          rw [← hsnd]
          split
          · exact h2
          · split
            · apply Chip.giveRole_fr h2 <;> simp
            · apply Chip.rehome_fr2 h2 <;> simp
        extract_lets c4 c5 c6
        have h4 : Fr (keeping [.clk] []) c c4 := by apply Chip.syncBasin_fr h3; simp
        have h6 : ResetsKept c c6 := by
          simp only [c6]
          split
          · exact ((resets_of_fr h4).trans (postFault_resets c4 _ _)).trans (postFault_resets c5 _ _)
          · exact (resets_of_fr h4).trans (postFault_resets c4 _ _)
        refine h6.trans (each_resets (fun d x => ?_) _ c6)
        dsimp only
        split
        · rfl
        · exact resets_of_fr (fr_post d _ (by simp))

theorem basinBack_resets (c : Chip) (b : Basin) : ResetsKept c (c.basinBack b) := by
  unfold Chip.basinBack
  extract_lets rolls was half c1 c2 c3 c4 c5 c6
  have h2 : Fr (keeping [.clk] []) c1 c2 := by
    simp only [c2]
    split
    · apply Chip.loadEngines_fr (Fr.refl _ c1); simp
    · exact Fr.refl _ _
  have h5 : Fr (keeping [.clk] []) c1 c5 := by
    refine Fr.each (Chip.closeLadder_fr (Chip.setSt_fr h2 ?_) ?_) fun _ _ h => ?_
    · simp
    · simp
    · apply Chip.rxDrain_fr h <;> simp
  have h6 : ResetsKept c5 c6 := each_resets (fun d e => by
    split
    · exact takeOver_resets d e
    · rfl) _ c5
  have h7 : Fr (keeping [.clk] []) c6 ((c6.rollByReset b).inDrainAll) := by
    refine Chip.inDrainAll_fr (Chip.rollByReset_fr (Fr.refl _ c6) ?_ ?_ ?_ ?_ ?_) ?_ ?_ ?_ ?_ ?_ ?_ ?_ ?_ <;> simp
  have h1 : ResetsKept c c1 := resets_of_fr (by apply Chip.updBasin_fr (Fr.refl _ c); simp)
  exact h1.trans ((resets_of_fr h5).trans (h6.trans (resets_of_fr h7)))

/-! ### A scope's reset starts (R67 to R69) -/

/-- The reset of a scope runs, and answers this request when it ends. -/
def Resetting (sc : Scope) (q : Option ReqId) (c : Chip) : Prop :=
  c.clk.resets.any (fun r => r.sc == sc && q.all (fun q => r.waiters.contains q)) = true

theorem resetting_of_kept {c x : Chip} {sc : Scope} {q : Option ReqId} (h : ResetsKept c x) (hc : Resetting sc q c) : Resetting sc q x := by
  unfold Resetting
  rw [h]
  exact hc

theorem any_updFirst_new {α : Type} {p g : α → Bool} {f : α → α} (hg : ∀ x, p x = true → g (f x) = true) :
    ∀ l : List α, l.any p = true → (updFirst p f l).any g = true
  | [], h => h
  | x :: t, h => by
    rw [updFirst]
    split
    · next hp => rw [List.any_cons, hg x hp, Bool.true_or]
    · next hp =>
      rw [List.any_cons, Bool.eq_false_iff.2 hp, Bool.false_or] at h
      rw [List.any_cons, any_updFirst_new hg t h, Bool.or_true]

theorem startScope_resetting (c : Chip) (sc : Scope) (q : Option ReqId) (byReg : Bool) (bad : List Nat) :
    Resetting sc q (c.startScope sc q byReg bad) := by
  unfold Chip.startScope
  extract_lets running add c1
  split
  · next h =>
    refine any_updFirst_new (fun r hr => ?_) c.clk.resets h
    cases q with
    | none => simpa [add] using hr
    | some q => simpa [add] using hr
  · have h1 : Resetting sc q c1 := by
      show (c.clk.resets ++ [(⟨sc, q.toList, byReg, bad⟩ : RunReset)]).any _ = true
      rw [List.any_append]
      cases q <;> simp
    split
    · exact resetting_of_kept (portReset_resets c1 _) h1
    · exact resetting_of_kept (basinDown_resets c1 _) h1
    · exact resetting_of_kept (hsDown_resets c1).1 h1
    · exact resetting_of_kept ((resetLane_resets c1 _ none).trans rfl) h1

theorem resetting_of_settle {c x : Chip} {sc : Scope} {q : Option ReqId} (h : Fr frSettle c x) (hc : Resetting sc q c) : Resetting sc q x :=
  resetting_of_kept (congrArg Clk.resets (h.kept.clk (by decide))) hc

theorem any_of_resetting {sc : Scope} (h : Resetting sc none c) : c.clk.resets.any (fun r => r.sc == sc) = true := by
  simpa only [Resetting, Option.all_none, Bool.and_true] using h

theorem askScope_served {q : ReqId} {e : ReqEntry} (sc : Scope) (bad : List Nat) (h : Startable c q (Config.opReset (scopeCode sc)) [0, 1, 2, 3, 4] e) :
    Resetting sc (some q) (c.askScope sc (some q) bad) := by
  rw [Chip.askScope, serve_start h]
  exact startScope_resetting _ sc (some q) false bad

/-- A scope asked for runs. -/
theorem runs_asked {i : Instr} {f : Chip → Chip} {sc : Scope} {q : Option ReqId} (hexec : exec i s = s.runS f) (h : Resetting sc q (f s.chip)) :
    Runs i s (Resetting sc q) :=
  runs_settled hexec _ rfl fun _ hx => resetting_of_settle hx h

theorem runs_basinReset {b : Basin} {q : Option ReqId} {bad : List Cid} {ok : Bool} (h : Resetting (.basin b) q (s.chip.askScope (.basin b) q (bad.map (·.toNat)))) :
    Runs (.basinReset b q bad ok) s (Resetting (.basin b) q) := by
  have hexec : exec (.basinReset b q bad ok) s = execBasinReset b q bad ok s := rfl
  refine runs_asked hexec ?_
  dsimp only
  split
  · exact h
  · exact resetting_of_kept rfl h

/-! ### RESET_DONE (R70) -/

theorem endScope_ended {sc : Scope} (hr : c.pond.rebuild = false) (hs : c.clk.resets.any (fun r => r.sc == sc) = true) :
    (c.endScope sc).clk.resets.any (fun r => r.sc == sc) = false := by
  unfold Chip.endScope
  split
  · next hnone =>
    obtain ⟨r, hmem, hp⟩ := List.any_eq_true.1 hs
    exact absurd (by rw [hr, hp]; rfl) (List.find?_eq_none.1 hnone r hmem)
  · next r hfind =>
    extract_lets c1 held c2 c3 c4
    have h1 : c1.clk.resets.any (fun r => r.sc == sc) = false := by
      show (c.clk.resets.filter (fun x => x.sc != sc)).any (fun r => r.sc == sc) = false
      rw [List.any_filter]
      simp
    have hpost : ∀ (d : Chip) e, ResetsKept d (d.post e) := fun d e => resets_of_fr (fr_post d e (by simp))
    have h2 : ResetsKept c1 c2 := by
      simp only [c2]
      split
      · rfl
      · exact (basinBack_resets c1 _).trans (hpost _ _)
      · exact (resets_of_fr (by apply Chip.hsBack_fr (Fr.refl _ c1) <;> simp)).trans (hpost _ _)
      · exact (show ResetsKept c1 (c1.updLane _ _) from rfl).trans (hpost _ _)
    have h3 : ResetsKept c2 c3 := by
      simp only [c3]
      split <;> rfl
    have h4 : ResetsKept c4 (c4.each r.waiters (fun c q => c.answer q rOK)) :=
      each_resets (fun d q => resets_of_fr (fr_answer d q _ _ _ (by simp))) _ c4
    have hall : ResetsKept c1 (c4.each r.waiters (fun c q => c.answer q rOK)) := h2.trans (h3.trans ((hpost c3 _).trans h4))
    rw [show (c4.each r.waiters (fun c q => c.answer q rOK)).clk.resets = c1.clk.resets from hall]
    exact h1

theorem runs_resetDone {sc : Scope} (hr : s.chip.pond.rebuild = false) (hm : s.chip.mayEnd sc = true)
    (hs : s.chip.clk.resets.any (fun r => r.sc == sc) = true) :
    Runs (.resetDone sc) s (fun c => c.clk.resets.any (fun r => r.sc == sc) = false) := by
  have hexec : exec (.resetDone sc) s = execResetDone sc s := rfl
  refine runs_settled hexec (s.chip.endScope sc) (if_pos hm) fun x hx => ?_
  rw [show x.clk = (s.chip.endScope sc).clk from hx.kept.clk (by decide)]
  exact endScope_ended hr hs

end

/-- Settles O3: asking for a scope's reset leaves it running, with the request among those it answers, since what
starts a reset keeps the running ones; and RESET_DONE takes it off the list. -/
theorem resetScopes : Obligations.ResetScopes := by
  unfold Obligations.ResetScopes
  intro s
  refine ⟨fun n => ?_, fun n q e h => ?_, fun b bad ok => ?_, fun b q e bad ok h => runs_basinReset (askScope_served _ _ h), ?_, fun q e h => ?_,
    fun l => ?_, fun l q e h => ?_, fun sc hr hm hs => runs_resetDone hr hm hs⟩
  · exact runs_imp (runs_asked (i := .portReset n none) (f := fun c => c.askScope (.port n) none []) rfl (startScope_resetting s.chip (.port n) none false [])) fun _ h => any_of_resetting h
  · exact runs_asked (i := .portReset n (some q)) (f := fun c => c.askScope (.port n) (some q) []) rfl (askScope_served (.port n) [] h)
  · exact runs_imp (runs_basinReset (startScope_resetting s.chip (.basin b) none false _)) fun _ h => any_of_resetting h
  · exact runs_imp (runs_asked (i := .headspringReset none) (f := fun c => c.askScope .headspring none []) rfl (startScope_resetting s.chip .headspring none false [])) fun _ h => any_of_resetting h
  · exact runs_asked (i := .headspringReset (some q)) (f := fun c => c.askScope .headspring (some q) []) rfl (askScope_served .headspring [] h)
  · exact runs_imp (runs_asked (i := .laneReset l none) (f := fun c => c.askScope (.lane l) none []) rfl (startScope_resetting s.chip (.lane l) none false [])) fun _ h => any_of_resetting h
  · exact runs_asked (i := .laneReset l (some q)) (f := fun c => c.askScope (.lane l) (some q) []) rfl (askScope_served (.lane l) [] h)

end Sys2Proof.Proofs

namespace Sys2Proof.Proofs

open Sys2Proof.Machine Sys2Proof.Laws

/-! Power-on, the supplies, PORST_N, the boot and its watchdog, and a device-scope reset
(03 R53, R59, R60, R65, R67, R70; 04 R81, R84). -/

section

variable {s : State} {c : Chip}

/-! ### Registers across a reset (R67) -/

theorem powerOn_rd {r : Reg} (hs : r ≠ .BEAD_STATUS) (hc : r ≠ .BEAD_CNT) : c.powerOn.rd r = r.resetWord :=
  regGet_filter_of_neg (p := fun q => q == .BEAD_STATUS || q == .BEAD_CNT) (by simp [hs, hc]) c.regsAfterReset

/-! ### What keeps the tripped supplies and PORST_N -/

/-- The tripped supplies and the level of PORST_N stay. -/
def SuppliesKept (c x : Chip) : Prop := x.clk.trips = c.clk.trips ∧ x.clk.porst = c.clk.porst

theorem SuppliesKept.refl (c : Chip) : SuppliesKept c c := ⟨rfl, rfl⟩

theorem SuppliesKept.trans {a b c : Chip} (h : SuppliesKept a b) (h' : SuppliesKept b c) : SuppliesKept a c :=
  ⟨h'.1.trans h.1, h'.2.trans h.2⟩

theorem supplies_of_clk {c x : Chip} (h : x.clk = c.clk) : SuppliesKept c x := ⟨congrArg Clk.trips h, congrArg Clk.porst h⟩

theorem supplies_of_core {c x : Chip} (h : clkCore x.clk = clkCore c.clk) : SuppliesKept c x := by
  have ht := congrArg Clk.trips h
  have hp := congrArg Clk.porst h
  exact ⟨ht, hp⟩

theorem supplies_of_fr {c x : Chip} (h : Fr (keeping [.clk] []) c x) : SuppliesKept c x := supplies_of_clk (h.kept.clk (by simp))

theorem bootFault_supplies (c : Chip) : SuppliesKept c c.bootFault := supplies_of_core (fault_clkCore _ _ _)

theorem bootRecovery_supplies (c : Chip) : SuppliesKept c c.bootRecovery := by
  unfold Chip.bootRecovery
  extract_lets c1 c2
  have h1 : SuppliesKept c c1 := supplies_of_fr (by apply Chip.bootSt_fr (Fr.refl _ c); simp)
  have h2 : SuppliesKept c1 c2 := ⟨rfl, rfl⟩
  exact h1.trans (h2.trans (bootFault_supplies c2))

theorem each_supplies {α : Type} {f : Chip → α → Chip} (h : ∀ c x, SuppliesKept c (f c x)) : ∀ (l : List α) (c : Chip), SuppliesKept c (c.each l f)
  | [], c => .refl c
  | x :: t, c => (h c x).trans (each_supplies h t (f c x))

theorem fetchComp_supplies (c : Chip) (b : Nat) (h : ImgHead) (k : Nat) : SuppliesKept c (c.fetchComp b h k) := by
  unfold Chip.fetchComp
  split
  · exact .refl c
  · extract_lets code d c1 c2
    have h1 : SuppliesKept c c1 := supplies_of_fr (by apply Chip.measure_fr (Fr.refl _ c) <;> simp)
    have h2 : SuppliesKept c1 c2 := by
      simp only [c2]
      split
      · exact .refl c1
      · have hst : Fr (keeping [.clk] []) c1 (c1.bootSt F.BOOT_STATUS_DIG_MISMATCH (c1.get .BOOT_STATUS F.BOOT_STATUS_DIG_MISMATCH ||| 2 ^ (k - 1))) := by
          apply Chip.bootSt_fr (Fr.refl _ c1); simp
        exact (supplies_of_fr hst).trans (supplies_of_core (fault_clkCore _ _ _))
    exact h1.trans (h2.trans ⟨rfl, rfl⟩)

theorem bootImage_supplies (c : Chip) (b : Nat) (h : ImgHead) : SuppliesKept c (c.bootImage b h) := by
  unfold Chip.bootImage
  extract_lets c1 sig c2 c3 c4 c5 now
  have h1 : Fr (keeping [.clk] []) c c2 := by
    refine Chip.bootSt_fr (Chip.bootSt_fr (Chip.bootSt_fr (Fr.refl _ c) ?_) ?_) ?_ <;> simp
  have h3 : SuppliesKept c2 c3 := by
    simp only [c3]
    split
    · exact bootFault_supplies c2
    · exact .refl c2
  have h4 : SuppliesKept c3 c4 := each_supplies (fun c t => fetchComp_supplies c b h t) _ c3
  have h5 : SuppliesKept c4 c5 := ⟨rfl, rfl⟩
  exact (supplies_of_fr h1).trans (h3.trans (h4.trans (h5.trans ⟨rfl, rfl⟩)))

theorem bootRom_supplies (c : Chip) : SuppliesKept c c.bootRom := by
  unfold Chip.bootRom
  extract_lets c1 c2 ovr strap bank c3 c4
  have h2 : SuppliesKept c c2 := (show SuppliesKept c c1 from ⟨rfl, rfl⟩).trans (supplies_of_fr (by
    apply Chip.measure_fr (Fr.refl _ c1) <;> simp))
  have h3 : SuppliesKept c2 c3 := by
    simp only [c3]
    split
    · exact ⟨rfl, rfl⟩
    · exact .refl c2
  have h4 : SuppliesKept c3 c4 :=
    (supplies_of_fr (by apply Chip.bootSt_fr (Fr.refl _ c3); simp)).trans (bootFault_supplies _)
  split
  · exact h2.trans (bootRecovery_supplies c2)
  · split
    · exact h2.trans ((show SuppliesKept c2 _ from ⟨rfl, rfl⟩).trans (bootRecovery_supplies _))
    · split
      · exact h2.trans (h3.trans (bootImage_supplies c3 _ _))
      · split
        · exact h2.trans (h3.trans (h4.trans (bootImage_supplies c4 _ _)))
        · exact h2.trans (h3.trans (h4.trans (bootRecovery_supplies c4)))

theorem bootWhenReady_supplies (c : Chip) : SuppliesKept c c.bootWhenReady := by
  unfold Chip.bootWhenReady
  split
  · exact (bootRom_supplies c).trans (supplies_of_core (balls_clkCore _))
  · exact .refl c

theorem endLane_supplies (c : Chip) (l : LaneId) : SuppliesKept c (c.endScope (.lane l)) := by
  unfold Chip.endScope
  split
  · exact .refl c
  · next r h =>
    extract_lets c1 held c2 c3 c4
    have hpost : ∀ (d : Chip) e, SuppliesKept d (d.post e) := fun d e => supplies_of_fr (fr_post d e (by simp))
    have h2 : SuppliesKept c1 c2 := (show SuppliesKept c1 (c1.updLane l (fun x => { x with held := held })) from ⟨rfl, rfl⟩).trans (hpost _ _)
    have h3 : SuppliesKept c2 c3 := by
      simp only [c3]
      split <;> exact ⟨rfl, rfl⟩
    have h4 : SuppliesKept c3 c4 := hpost c3 _
    have h5 : SuppliesKept c4 (c4.each r.waiters (fun c q => c.answer q rOK)) :=
      each_supplies (fun d q => supplies_of_fr (fr_answer d q _ _ _ (by simp))) _ c4
    exact (show SuppliesKept c c1 from ⟨rfl, rfl⟩).trans (h2.trans (h3.trans (h4.trans h5)))

theorem srdsBack_supplies (c : Chip) : SuppliesKept c c.srdsBack := by
  unfold Chip.srdsBack
  split
  · exact .refl c
  · exact (endLane_supplies c 0).trans ((endLane_supplies _ 1).trans ⟨rfl, rfl⟩)

theorem supplyLow_supplies (c : Chip) (v : Supply) (b : Bool) : SuppliesKept c (c.supplyLow v b) :=
  supplies_of_core (postFault_clkCore _ _ _)

theorem supplies_of_settle {c x : Chip} (h : Fr frSettle c x) : SuppliesKept c x := supplies_of_clk (h.kept.clk (by decide))

/-! ### The device reset (R67, R70) -/

theorem deviceReset_running (h : c.inDeviceReset = true) (k v : Nat) : c.deviceReset k v = c := if_pos h

/-- A device reset out of reset: RST_CAUSE and the supplies tell of it, and the boot waits for PORST_N and the supplies. -/
theorem deviceReset_starts (h : c.inDeviceReset = false) (k v : Nat) :
    (c.deviceReset k v).rd .RST_CAUSE = (c.rstCause k v).rd .RST_CAUSE ∧ SuppliesKept c (c.deviceReset k v) ∧
      ((c.clk.porst = false ∨ c.clk.trips ≠ []) → (c.deviceReset k v).clk.boot = .held) := by
  obtain ⟨w, hw⟩ : ∃ w, ((c.rstCause k v).cleared.updClk (fun x => { x with bootFault := k == 2 || k == 4 || k == 5 })).balls = w := ⟨_, rfl⟩
  have heq : c.deviceReset k v = w.bootWhenReady := by
    rw [← hw]
    exact if_neg (by rw [h]; decide)
  have hballs : Fr (keeping [] [.RST_CAUSE]) ((c.rstCause k v).cleared.updClk (fun x => { x with bootFault := k == 2 || k == 4 || k == 5 })) w := by
    rw [← hw]
    apply Chip.balls_fr (Fr.refl _ _); simp
  have hboot : Fr (keeping [] [.RST_CAUSE]) w w.bootWhenReady := by apply Chip.bootWhenReady_fr (Fr.refl _ w) <;> simp
  have hcore : clkCore w.clk = clkCore ((c.rstCause k v).cleared.updClk (fun x => { x with bootFault := k == 2 || k == 4 || k == 5 })).clk := by
    rw [← hw]
    exact balls_clkCore _
  have hsup : SuppliesKept c w := (show SuppliesKept c ((c.rstCause k v).cleared.updClk (fun x => { x with bootFault := k == 2 || k == 4 || k == 5 }))
    from ⟨rfl, rfl⟩).trans (supplies_of_core hcore)
  have hheld : w.clk.boot = .held := by
    have hb := congrArg Clk.boot hcore
    exact hb
  rw [heq]
  refine ⟨?_, hsup.trans (bootWhenReady_supplies w), fun hn => ?_⟩
  · rw [hboot.kept.regs .RST_CAUSE (by simp), hballs.kept.regs .RST_CAUSE (by simp)]
    exact cleared_rd_aon _ rfl rfl
  · have hwait : w.bootWhenReady = w := if_neg fun hr => hn.elim (fun hp => by rw [← hsup.2, hr.2.1] at hp; cases hp) (fun ht => ht (hsup.1 ▸ hr.2.2))
    rw [hwait, hheld]

theorem rstCause_supply (hc : Canon c) (k : Nat) {v : Nat} (hv : 0 < v) (hlt : v < 256) : (c.rstCause k v).get .RST_CAUSE F.RST_CAUSE_SUPPLY = v := by
  unfold Chip.rstCause
  extract_lets w w1
  rw [Chip.get, rd_wr_same _ hc, if_neg (by omega), fget_fset_same _ _ _ (by decide)]
  exact Nat.mod_eq_of_lt hlt

theorem supplyCode_lt (v : Supply) : 0 < supplyCode v ∧ supplyCode v < 256 := by cases v <;> decide

/-! ### Power-on, supplies and PORST_N -/

theorem runs_supplyMonitorTrip {v : Supply} (hc : Canon s.chip) (ht : s.chip.clk.trips.contains v = false) (hp : s.chip.pwr.st ≠ .off)
    (hv : supplyHolds v = true) (hb : s.chip.clk.boot ≠ .held) :
    Runs (.supplyMonitorTrip v) s (fun c => c.clk.boot = .held ∧ c.clk.trips = s.chip.clk.trips ++ [v] ∧
      c.get .RST_CAUSE F.RST_CAUSE_SUPPLY = supplyCode v ∧ c.get .RST_CAUSE F.RST_CAUSE_LAST = 2) := by
  obtain ⟨w, hw⟩ : ∃ w, s.chip.updClk (fun k => { k with trips := k.trips ++ [v] }) = w := ⟨_, rfl⟩
  have hcanon : Canon w := by rw [← hw]; exact ⟨hc.regs, hc.flash, hc.blocks⟩
  have hboot : w.clk.boot ≠ .held := by rw [← hw]; exact hb
  have htrips : w.clk.trips = s.chip.clk.trips ++ [v] := by rw [← hw]; rfl
  have hin : w.inDeviceReset = false := by
    unfold Chip.inDeviceReset
    rw [beq_eq_false_iff_ne.2 hboot, Bool.false_and]
  obtain ⟨hrd, hsup, hheld⟩ := deviceReset_starts hin 2 (supplyCode v)
  obtain ⟨hpos, hlt⟩ := supplyCode_lt v
  have hexec : exec (.supplyMonitorTrip v) s = execSupplyMonitorTrip v s := rfl
  refine runs_settled hexec (w.deviceReset 2 (supplyCode v)) ?_ fun x hx => ?_
  · rw [ht, if_neg (by decide)]
    dsimp only
    rw [hw, if_neg (by rw [← hw]; exact hp), if_pos hv, if_neg hboot]
  · have hclk : x.clk = (w.deviceReset 2 (supplyCode v)).clk := hx.kept.clk (by decide)
    refine ⟨?_, ?_, ?_, ?_⟩
    · rw [hclk, hheld (.inr (by rw [htrips]; simp))]
    · rw [hclk, hsup.1, htrips]
    · rw [get_of_rd (rd_of_settle hx rfl), get_of_rd hrd, rstCause_supply hcanon 2 hpos hlt]
    · rw [get_of_rd (rd_of_settle hx rfl), deviceReset_cause hcanon hin _ (by decide)]

/-- A supply that is back: what follows leaves the list of those that are not. -/
theorem runs_supplyRecovered {v : Supply} (ht : s.chip.clk.trips.contains v = true) :
    Runs (.supplyRecovered v) s (fun c => c.clk.trips = s.chip.clk.trips.filter (· != v)) := by
  obtain ⟨w, hw⟩ : ∃ w, s.chip.updClk (fun k => { k with trips := k.trips.filter (· != v) }) = w := ⟨_, rfl⟩
  have htrips : w.clk.trips = s.chip.clk.trips.filter (· != v) := by rw [← hw]; rfl
  have hdone : ∀ d x : Chip, SuppliesKept w d → Fr frSettle d x → x.clk.trips = s.chip.clk.trips.filter (· != v) :=
    fun d x h hx => by rw [(supplies_of_settle hx).1, h.1, htrips]
  have hexec : exec (.supplyRecovered v) s = execSupplyRecovered v s := rfl
  refine runs_settled hexec _ rfl fun x hx => hdone _ x ?_ hx
  rw [ht, if_neg (by decide)]
  dsimp only
  rw [hw]
  split
  · split <;> exact ⟨rfl, rfl⟩
  · refine SuppliesKept.trans ?_ (bootWhenReady_supplies _)
    split
    · exact .refl w
    · split
      · next d hd =>
        refine supplies_of_fr (Chip.post_fr (Fr.each (Chip.updFl_fr (Fr.refl _ w) ?_) fun _ _ h => ?_) ?_)
        · simp
        · apply Chip.mirrorCh_fr h <;> simp
        · simp
      · exact (srdsBack_supplies w).trans (supplyLow_supplies _ _ _)

theorem runs_porstNLow (hc : Canon s.chip) (hp : s.chip.clk.porst = true) :
    Runs .porstNLow s (fun c => c.clk.boot = .held ∧ c.clk.porst = false ∧
      (s.chip.inDeviceReset = false → c.get .RST_CAUSE F.RST_CAUSE_LAST = 1) ∧
      (s.chip.inDeviceReset = true → c.rd .RST_CAUSE = s.chip.rd .RST_CAUSE)) := by
  obtain ⟨w, hw⟩ : ∃ w, s.chip.updClk (fun k => { k with porst := false }) = w := ⟨_, rfl⟩
  have hcanon : Canon w := by rw [← hw]; exact ⟨hc.regs, hc.flash, hc.blocks⟩
  have hsame : w.inDeviceReset = s.chip.inDeviceReset := by rw [← hw]; rfl
  have hlow : w.clk.porst = false := by rw [← hw]; rfl
  have hexec : exec .porstNLow s = execPorstNLow s := rfl
  refine runs_of_run_eq (d := w.deviceReset 1 0) hexec (by rw [hp, if_pos rfl, hw]) ?_
  cases hin : s.chip.inDeviceReset with
  | true =>
    have hheld : w.clk.boot = .held := by
      rw [hin] at hsame
      unfold Chip.inDeviceReset at hsame
      rw [Bool.and_eq_true] at hsame
      exact eq_of_beq hsame.1
    rw [deviceReset_running (hsame.trans hin)]
    exact ⟨hheld, hlow, fun h => absurd h (by decide), fun _ => by rw [← hw]; rfl⟩
  | false =>
    obtain ⟨-, hsup, hheld⟩ := deviceReset_starts (hsame.trans hin) 1 0
    exact ⟨hheld (.inl hlow), hsup.2.trans hlow, fun _ => deviceReset_cause hcanon (hsame.trans hin) _ (by decide), fun h => absurd h (by decide)⟩

theorem runs_porstNRise (hc : Canon s.chip) {straps : BitVec 4} (hp : s.chip.clk.porst = false) :
    Runs (.porstNRise straps) s (fun c => c.clk.porst = true ∧ c.get .GLB_STRAP F.GLB_STRAP_STRAP = straps.toNat) := by
  obtain ⟨w, hw⟩ : ∃ w, s.chip.updClk (fun k => { k with porst := true }) = w := ⟨_, rfl⟩
  obtain ⟨y, hy⟩ : ∃ y, w.setF .GLB_STRAP F.GLB_STRAP_STRAP straps.toNat = y := ⟨_, rfl⟩
  have hcanon : Canon w := by rw [← hw]; exact ⟨hc.regs, hc.flash, hc.blocks⟩
  have hboot : Fr (keeping [] [.GLB_STRAP]) y y.bootWhenReady := by apply Chip.bootWhenReady_fr (Fr.refl _ y) <;> simp
  have hexec : exec (.porstNRise straps) s = execPorstNRise straps s := rfl
  refine runs_of_run_eq (d := y.bootWhenReady) hexec (by rw [hp, if_neg (by decide), ← hy, ← hw]) ⟨?_, ?_⟩
  · rw [(bootWhenReady_supplies y).2, ← hy, ← hw]
    rfl
  · rw [get_of_rd (hboot.kept.regs .GLB_STRAP (by simp)), ← hy, get_setF_same w hcanon _ _ _ (by decide)]
    exact Nat.mod_eq_of_lt straps.isLt

/-! ### Requests of a device-scope reset (R70, R84) -/

theorem runs_bootWatchdogExpiry (hc : Canon s.chip) (hin : s.chip.inDeviceReset = false) {t : Nat} (hw : s.chip.clk.wdt = some t)
    (ht : t ≤ s.chip.clk.now) : Runs .bootWatchdogExpiry s (fun c => c.get .RST_CAUSE F.RST_CAUSE_LAST = 4) := by
  have hf : Fr (keeping [.clk, .pwr] []) s.chip s.chip.watchdogOvr := by apply Chip.watchdogOvr_fr (Fr.refl _ _); simp
  have hin' : s.chip.watchdogOvr.inDeviceReset = false := by
    rw [← hin]
    unfold Chip.inDeviceReset
    rw [hf.kept.clk (by simp), hf.kept.pwr (by simp)]
  have hexec : exec .bootWatchdogExpiry s = execBootWatchdogExpiry s := rfl
  refine runs_of_run_eq hexec (if_pos ?_) (deviceReset_cause (hf.canon hc) hin' 0 (by decide))
  rw [hw, Option.any_some]
  exact decide_eq_true ht

/-- Taking a request leaves the power state Off. -/
theorem taken_off (q : ReqId) (h : c.pwr.st = .off) : (Taken c q).pwr.st = .off := by
  have hf : Fr (keeping [.pwr] []) c (c.setReqSt q .executing) := by
    apply Chip.setReqSt_fr (Fr.refl _ c) <;> simp
  have hst : (c.setReqSt q .executing).pwr.st = .off := by rw [hf.kept.pwr (by simp), h]
  rw [Taken, active_eq, if_neg (by rw [hst]; decide)]
  exact hst

theorem taken_notReset (hin : c.inDeviceReset = false) (q : ReqId) : (Taken c q).inDeviceReset = false := by
  have hclk : (Taken c q).clk = c.clk := (taken_fr c q).kept.clk (by decide)
  unfold Chip.inDeviceReset at hin ⊢
  rw [hclk]
  rw [Bool.and_eq_false_iff] at hin ⊢
  refine hin.imp id fun h => ?_
  have hoff : c.pwr.st = .off := by simpa using h
  rw [taken_off q hoff]
  rfl

theorem runs_deviceReset (hc : Canon s.chip) (hin : s.chip.inDeviceReset = false) :
    Runs (.deviceReset none) s (fun c => c.get .RST_CAUSE F.RST_CAUSE_LAST = 4) := by
  have hexec : exec (.deviceReset none) s = execDeviceReset none s := rfl
  exact runs_of_run_eq hexec rfl (deviceReset_cause hc hin 0 (by decide))

theorem runs_deviceReset_asked (hc : Canon s.chip) (hin : s.chip.inDeviceReset = false) {q : ReqId} {e : ReqEntry}
    (hs : Startable s.chip q (Config.opReset 5) [0, 1, 2, 3, 4] e) :
    Runs (.deviceReset (some q)) s (fun c => c.get .RST_CAUSE F.RST_CAUSE_LAST = 3) := by
  have hexec : exec (.deviceReset (some q)) s = execDeviceReset (some q) s := rfl
  refine runs_served hs hexec ?_
  exact deviceReset_cause (canon_taken hc q) (taken_notReset hin q) 0 (by decide)

theorem runs_deviceReset_absorbed (hin : s.chip.inDeviceReset = true) : Runs (.deviceReset none) s (fun c => c = s.chip) := by
  have hexec : exec (.deviceReset none) s = execDeviceReset none s := rfl
  exact runs_of_run_eq hexec (deviceReset_running hin 4 0) rfl

/-! ### The firmware's boot (R81) -/

/-- The PLLs asked for, what locked, and Headspring running. -/
def bootedHs (c : Chip) (locks : BitVec 9) : Chip :=
  (((c.fwWrite (Reg.CLK_CTL).addr (fset (c.rd .CLK_CTL) F.CLK_CTL_PLL_EN 0x1FF)).setSt .CLK_STATUS F.CLK_STATUS_LOCK locks.toNat).updClk
    (fun k => { k with lockBy := none })).updFw (fun f => { f with hs := .run })

theorem firmwareBoot_frc {locks : BitVec 9} (h : locks ≠ 0x1FF#9) (cfg : Option ConfigImage) : ∃ e : Event, c.firmwareBoot locks cfg =
    (((bootedHs c locks).updClk (fun k => { k with boot := .frcOnly })).postFault .pll e).bootReport := by
  have hne : locks.toNat ≠ 0x1FF := fun he => h (BitVec.eq_of_toNat_eq he)
  exact ⟨_, if_pos hne⟩

theorem runs_firmwareBoot_frc {locks : BitVec 9} {cfg : Option ConfigImage} (hb : s.chip.clk.boot = .firmware) (h : locks ≠ 0x1FF#9) :
    Runs (.firmwareBoot locks cfg) s (fun c => c.clk.boot = .frcOnly ∧ c.fw.hs = .run) := by
  obtain ⟨e, heq⟩ := firmwareBoot_frc (c := s.chip) h cfg
  obtain ⟨w, hw⟩ : ∃ w, (bootedHs s.chip locks).updClk (fun k => { k with boot := .frcOnly }) = w := ⟨_, rfl⟩
  have hfault : Fr (keeping [.fw] []) w (w.postFault .pll e) := by apply Chip.postFault_fr (Fr.refl _ w) <;> simp
  have hreport : Fr (keeping [.fw, .clk] []) (w.postFault .pll e) (w.postFault .pll e).bootReport := by
    apply Chip.bootReport_fr (Fr.refl _ _); simp
  have hboot : (w.postFault .pll e).clk.boot = w.clk.boot := by
    have hb := congrArg Clk.boot (postFault_clkCore w .pll e)
    exact hb
  have hexec : exec (.firmwareBoot locks cfg) s = execFirmwareBoot locks cfg s := rfl
  refine runs_settled hexec (w.postFault .pll e).bootReport (by rw [if_pos hb, heq, hw]) fun x hx => ⟨?_, ?_⟩
  · rw [hx.kept.clk (by decide), hreport.kept.clk (by simp), hboot, ← hw]
    rfl
  · rw [hx.kept.fw (by decide), hreport.kept.fw (by simp), hfault.kept.fw (by simp), ← hw]
    rfl

/-- TRK_CTL as the boot writes it: both lanes enabled. -/
def lanesOn (c : Chip) : Word := fset (fset (c.rd .TRK_CTL) F.TRK_CTL_LANE_EN_TA 1) F.TRK_CTL_LANE_EN_TB 1

/-- The boot with every PLL locked ends with the write of TRK_CTL on a chip whose Seiche runs. -/
theorem firmwareBoot_live (c : Chip) (cfg : Option ConfigImage) : ∃ w : Chip, w.sei.running = true ∧ Fr (keeping [] []) c w ∧
    c.firmwareBoot 0x1FF#9 cfg = (w.fwWrite (Reg.TRK_CTL).addr (lanesOn w)).bootReport := by
  have hwrite : ∀ (d : Chip) a v, Fr (keeping [] []) c d → Fr (keeping [] []) c (d.fwWrite a v) := fun d a v h => by
    apply Chip.fwWrite_fr h <;> simp
  unfold Chip.firmwareBoot
  extract_lets c1 c2 c3
  have h2 : Fr (keeping [] []) c c2 := by
    refine Chip.updClk_fr (Chip.setSt_fr (hwrite c _ _ (Fr.refl _ c)) ?_) ?_ <;> simp
  have h3 : Fr (keeping [] []) c c3 := by apply Chip.updFw_fr h2 <;> simp
  split
  · next h => exact absurd rfl h
  · next c4 c5 c6 c7 c8 now c9 lanes c10 h =>
    have h5 : Fr (keeping [] []) c c5 := by apply Chip.updClk_fr (hwrite c3 _ _ h3); simp
    have h7 : Fr (keeping [] []) c c7 := by apply Chip.applyConfig_fr (Chip.loadEngines_fr h5 ?_) <;> simp
    have h8 : Fr (keeping [] []) c c8 := by
      simp only [c8]
      split
      · next heq => apply Chip.applyTables_fr heq h7 <;> simp
      · exact h7
    exact ⟨c9, rfl, by apply Chip.updSei_fr h8; simp, rfl⟩

/-- What a write of TRK_CTL by the firmware stores and sets off. -/
theorem fwWrite_trkCtl (c : Chip) (v : Word) : ∃ w, w = (v &&& ~~~(Reg.TRK_CTL).rcMask) ||| (c.readWord .TRK_CTL &&& (Reg.TRK_CTL).rcMask) ∧
    c.fwWrite (Reg.TRK_CTL).addr v = (c.wrRW .TRK_CTL w).regEffect .TRK_CTL (c.rd .TRK_CTL) := by
  refine ⟨_, rfl, ?_⟩
  unfold Chip.fwWrite
  rw [ofAddr_addr]
  rfl

theorem trkEffect_fr (c : Chip) (old : Word) : Fr (keeping [.sei] [.TRK_CTL]) c (c.regEffect .TRK_CTL old) := by
  unfold Chip.regEffect
  show Fr _ c (if c.blockStopped cbTRUNK then c.pulse cbTRUNK 0 (.write .TRK_CTL old) none id else c.trkCtl old)
  split
  · apply Chip.pulse_fr (Fr.refl _ c) (fun _ h => h) <;> simp
  · apply Chip.trkCtl_fr (Fr.refl _ c) <;> simp

theorem runs_firmwareBoot_live {cfg : Option ConfigImage} (hb : s.chip.clk.boot = .firmware) :
    Runs (.firmwareBoot 0x1FF#9 cfg) s (fun c => c.sei.running = true) := by
  obtain ⟨w, hrun, -, hlive⟩ := firmwareBoot_live s.chip cfg
  obtain ⟨v, -, hwrite⟩ := fwWrite_trkCtl w (lanesOn w)
  obtain ⟨y, hy⟩ : ∃ y, (w.wrRW .TRK_CTL v).regEffect .TRK_CTL (w.rd .TRK_CTL) = y := ⟨_, rfl⟩
  have hrw : Fr (keeping [.sei] []) w (w.wrRW .TRK_CTL v) := by apply Chip.wrRW_fr (Fr.refl _ w) <;> simp
  have hreport : Fr (keeping [.sei] []) y y.bootReport := by apply Chip.bootReport_fr (Fr.refl _ _); simp
  have hexec : exec (.firmwareBoot 0x1FF#9 cfg) s = execFirmwareBoot 0x1FF#9 cfg s := rfl
  refine runs_settled hexec y.bootReport (by rw [if_pos hb, hlive, hwrite, hy]) fun x hx => ?_
  rw [hx.kept.sei (by decide), hreport.kept.sei (by simp), ← hy, (trkEffect_fr _ _).kept.sei (by simp), hrw.kept.sei (by simp), hrun]

theorem fget_kept (v x m : Word) (f : Field) (hf : f.hi < 32) (hm : ∀ i ≤ f.hi, f.lo ≤ i → (~~~m).getLsbD i = true) :
    fget ((v &&& ~~~m) ||| (x &&& m)) f = fget v f := by
  have h := fget_merge_mask x v (~~~m) f hf hm
  rwa [BitVec.not_not, BitVec.or_comm] at h

theorem lanesOn_on (c : Chip) : fget (lanesOn c) F.TRK_CTL_LANE_EN_TA = 1 ∧ fget (lanesOn c) F.TRK_CTL_LANE_EN_TB = 1 := by
  unfold lanesOn
  rw [fget_fset_other _ _ _ _ (by decide) (by decide) (by decide), fget_fset_same _ _ _ (by decide), fget_fset_same _ _ _ (by decide)]
  exact ⟨rfl, rfl⟩

theorem runs_firmwareBoot_lanes (hc : Canon s.chip) (hb : s.chip.clk.boot = .firmware) :
    Runs (.firmwareBoot 0x1FF#9 none) s (fun c =>
      c.bit .TRK_CTL F.TRK_CTL_LANE_EN_TA = true ∧ c.bit .TRK_CTL F.TRK_CTL_LANE_EN_TB = true) := by
  obtain ⟨w, -, hf, hlive⟩ := firmwareBoot_live s.chip none
  have hcanon : Canon w := hf.canon hc
  obtain ⟨v, hv, hwrite⟩ := fwWrite_trkCtl w (lanesOn w)
  obtain ⟨y, hy⟩ : ∃ y, (w.wrRW .TRK_CTL v).regEffect .TRK_CTL (w.rd .TRK_CTL) = y := ⟨_, rfl⟩
  have hreport : Fr (keeping [] [.TRK_CTL]) y y.bootReport := by apply Chip.bootReport_fr (Fr.refl _ _); simp
  have hrd : y.bootReport.rd .TRK_CTL = (w.wrRW .TRK_CTL v).rd .TRK_CTL := by
    rw [hreport.kept.regs .TRK_CTL (by simp), ← hy]
    exact (trkEffect_fr _ _).kept.regs .TRK_CTL (by simp)
  obtain ⟨ha, hbb⟩ := lanesOn_on w
  have hta : (w.wrRW .TRK_CTL v).get .TRK_CTL F.TRK_CTL_LANE_EN_TA = 1 := by
    rw [get_wrRW_field hcanon _ _ _ (by decide) (by decide) (fun _ => rfl), hv, fget_kept _ _ _ _ (by decide) (by decide), ha]
  have htb : (w.wrRW .TRK_CTL v).get .TRK_CTL F.TRK_CTL_LANE_EN_TB = 1 := by
    rw [get_wrRW_field hcanon _ _ _ (by decide) (by decide) (fun _ => rfl), hv, fget_kept _ _ _ _ (by decide) (by decide), hbb]
  have hexec : exec (.firmwareBoot 0x1FF#9 none) s = execFirmwareBoot 0x1FF#9 none s := rfl
  refine runs_settled hexec y.bootReport (by rw [if_pos hb, hlive, hwrite, hy]) fun x hx => ⟨?_, ?_⟩
  · rw [bit_of_rd (rd_of_settle hx rfl), bit_of_rd hrd, Chip.bit, hta]
    rfl
  · rw [bit_of_rd (rd_of_settle hx rfl), bit_of_rd hrd, Chip.bit, htb]
    rfl

end

/-- Settles O1: a reset leaves the always-on registers and the supplies, the boot waits for both, and the firmware's
boot ends with Seiche running and both lanes enabled. -/
theorem supplyAndBoot : Obligations.SupplyAndBoot := by
  unfold Obligations.SupplyAndBoot
  intro s hc
  refine ⟨?_, fun v ht hp hv hb => runs_supplyMonitorTrip hc ht hp hv hb, fun v ht => runs_supplyRecovered ht, fun hp => runs_porstNLow hc hp,
    fun straps hp => runs_porstNRise hc hp, fun locks cfg hb hl => runs_firmwareBoot_frc hb hl, fun cfg hb => runs_firmwareBoot_live hb,
    fun hb => runs_firmwareBoot_lanes hc hb, fun hin => ⟨fun t hw ht => runs_bootWatchdogExpiry hc hin hw ht, runs_deviceReset hc hin,
    fun q e hs => runs_deviceReset_asked hc hin hs⟩, fun hin => runs_deviceReset_absorbed hin⟩
  have hexec : exec .vddAonPowerOn s = execVddAonPowerOn s := rfl
  exact runs_of_run_eq hexec rfl ⟨rfl, rfl, rfl, fun r hs hc => powerOn_rd hs hc⟩

end Sys2Proof.Proofs

namespace Sys2Proof.Proofs

open Sys2Proof.Machine Sys2Proof.Laws

/-! Frames sent, and the trunk's door opcodes (05 R112, R115, R119, R123, R127; 06 R136 to R138). -/

section

variable {s : State} {c : Chip} {q : ReqId} {e : ReqEntry}

/-! ### The spill replayed (R127) -/

/-- The trunk once the spill is sent. -/
def spillGone (c : Chip) : Chip :=
  c.updTrunk (fun t => { t with spill := [], gaps := [], replay := none, island := none, spillClosed := false })

theorem runs_spillReplayEnd {l : LaneId} (hr : s.chip.trunk.replay = some l) (ha : s.chip.awake = true) (hd : s.chip.hasDest l = true) :
    Runs .spillReplayEnd s (fun c => c.trunk.spill = [] ∧ c.trunk.gaps = [] ∧ c.trunk.replay = none) := by
  have hdone : ∀ d : Chip, ∀ x, Fr (keeping [.trunk] []) (spillGone d) x → x.trunk.spill = [] ∧ x.trunk.gaps = [] ∧ x.trunk.replay = none :=
    fun d x h => by rw [h.kept.trunk (by simp)]; exact ⟨rfl, rfl, rfl⟩
  have hexec : exec .spillReplayEnd s = execSpillReplayEnd s := rfl
  refine runs_of_run_eq hexec rfl ?_
  rw [hr]
  dsimp only
  rw [ha, hd, if_neg (by decide)]
  refine hdone (s.chip.each s.chip.trunk.spill (fun c f => c.emit l { f with flags := f.flags ||| tfREPLAY })) _ ?_
  have hgaps : Fr (keeping [.trunk] []) (spillGone (s.chip.each s.chip.trunk.spill (fun c f => c.emit l { f with flags := f.flags ||| tfREPLAY })))
      ((spillGone (s.chip.each s.chip.trunk.spill (fun c f => c.emit l { f with flags := f.flags ||| tfREPLAY }))).syncSpill.each s.chip.trunk.gaps
        (fun c g => c.post (c.ev 0x0148 0 0 [g.cls, g.id, g.first.toNat, g.last.toNat]))) :=
    Fr.each (by apply Chip.syncSpill_fr (Fr.refl _ _); simp) fun _ _ h => by apply Chip.post_fr h; simp
  split
  · exact Fr.each hgaps fun _ _ h => by apply Chip.postR_fr h; simp
  · exact hgaps

/-! ### Events and responses (R136 to R138) -/

theorem sendFrame_kept (c : Chip) (t i k : Nat) (p : BitVec 16) (n : Nat) (b : TxBody) :
    Fr (keeping [.doors, .svc, .reqs] []) c (c.sendFrame t i k p n b) := by
  apply Chip.sendFrame_fr (Fr.refl _ c) <;> simp

theorem runs_eventFrameSend {d : Door} (hp : (s.chip.doors[d]).path = some .trunk) (hs : (s.chip.doors[d]).sent < (s.chip.doors[d]).evts.length)
    (hc : s.chip.canSend 1 d.val = true) :
    Runs (.eventFrameSend d) s (fun c => (c.doors[d]).evts = (s.chip.doors[d]).evts ∧
      (c.doors[d]).sent = min ((s.chip.doors[d]).sent + 32) (s.chip.doors[d]).evts.length) := by
  have hexec : exec (.eventFrameSend d) s = execEventFrameSend d s := rfl
  obtain ⟨es, hes⟩ : ∃ es, (((s.chip.doors[d]).evts.drop (s.chip.doors[d]).sent).take 32) = es := ⟨_, rfl⟩
  have hlen : es.length = min 32 ((s.chip.doors[d]).evts.length - (s.chip.doors[d]).sent) := by
    rw [← hes, List.length_take, List.length_drop]
  have hne : es.isEmpty = false := by
    rw [List.isEmpty_eq_false_iff, ← List.length_pos_iff]
    omega
  obtain ⟨w, hw⟩ : ∃ w, s.chip.sendFrame ttEVENT d.val 0 (s.chip.doors[d]).epoch (32 * es.length) (.events es) = w := ⟨_, rfl⟩
  have hdoors : w.doors = s.chip.doors := by rw [← hw]; exact (sendFrame_kept _ _ _ _ _ _ _).kept.doors (by simp)
  refine runs_of_run_eq (d := w.updDoor d (fun x => { x with sent := x.sent + es.length })) hexec ?_ ?_
  · dsimp only
    rw [hes, if_neg (by rw [hp, hne, hc]; simp), hw]
  · rw [updDoor_same, hdoors]
    refine ⟨rfl, ?_⟩
    show (s.chip.doors[d]).sent + es.length = _
    omega

theorem runs_mbxRspSend {d : Door} (hne : oneResponse (s.chip.payloadMax / 64) ((s.chip.doors[d]).rsps.filter (fun p => p.path == .trunk)) ≠ [])
    (hc : s.chip.canSend 0 d.val = true) (hst : s.chip.doorStall = false) :
    Runs (.mbxRspSend d) s (fun c => c.doors[d] = (s.chip.doors[d]).sendParts
      (oneResponse (s.chip.payloadMax / 64) ((s.chip.doors[d]).rsps.filter (fun p => p.path == .trunk)))) := by
  have hexec : exec (.mbxRspSend d) s = execMbxRspSend d s := rfl
  refine runs_of_run_eq hexec rfl ?_
  dsimp only
  rw [if_neg (by rw [hc, hst, List.isEmpty_eq_false_iff.2 hne]; simp), updDoor_same, (sendFrame_kept _ _ _ _ _ _ _).kept.doors (by simp)]

/-! ### Streams (R120, R123) -/

/-- The first stream of an ID. -/
def strmAt (c : Chip) (id : BitVec 16) : Option Strm := c.svc.streams.find? (fun x => x.id == id)

theorem updFirst_find?_map {α β : Type} {p q : α → Bool} {f : α → α} {g : α → β} (hp : ∀ x, p (f x) = p x) (hg : ∀ x, g (f x) = g x) :
    ∀ l : List α, ((updFirst q f l).find? p).map g = (l.find? p).map g
  | [] => rfl
  | x :: t => by
    rw [updFirst]
    split
    · rw [List.find?_cons, List.find?_cons, hp]
      split
      · exact congrArg some (hg x)
      · rfl
    · rw [List.find?_cons, List.find?_cons]
      split
      · rfl
      · exact updFirst_find?_map hp hg t

/-- What a turn of the round robin leaves of a stream: its credit, and whether it is closed. -/
def strmCore (c : Chip) (id : BitVec 16) : Option (Word × Bool) := (strmAt c id).map (fun x => (x.credit, x.closed))

theorem updStrm_core (c : Chip) (id j : BitVec 16) {f : Strm → Strm} (hid : ∀ x, (f x).id = x.id)
    (hf : ∀ x, ((f x).credit, (f x).closed) = (x.credit, x.closed)) : strmCore (c.updStrm j f) id = strmCore c id :=
  updFirst_find?_map (p := fun x : Strm => x.id == id) (fun x => by rw [hid]) hf c.svc.streams

theorem updStrm_at {id : BitVec 16} {f : Strm → Strm} {x : Strm} (h : strmAt c id = some x) (hid : (f x).id = id) :
    strmAt (c.updStrm id f) id = some (f x) :=
  find?_updFirst (p := fun x : Strm => x.id == id) h (by rw [hid]; exact beq_self_eq_true _)

theorem strmAt_id {id : BitVec 16} {x : Strm} (h : strmAt c id = some x) : x.id = id := by simpa using List.find?_some h

theorem takeTurn_core (c : Chip) (l : LaneId) (id j : BitVec 16) (k : Nat) : strmCore (c.takeTurn l j k) id = strmCore c id := by
  have heach : ∀ (xs : List ((BitVec 16 × Nat) × Nat)) (i : Nat) (c : Chip),
      strmCore (c.each xs (fun c x => c.updStrm x.1.1 (fun s => { s with deficit := s.deficit + (if x.2 ≤ i then k else k - 1) * x.1.2 }))) id =
        strmCore c id := fun xs i => by
    induction xs with
    | nil => exact fun c => rfl
    | cons x t ih => exact fun c => (ih _).trans (updStrm_core c id x.1.1 (fun _ => rfl) fun _ => rfl)
  exact heach _ _ c

theorem takeTurn_rd (c : Chip) (l : LaneId) (j : BitVec 16) (k : Nat) (r : Reg) : (c.takeTurn l j k).rd r = c.rd r := by
  have hf : Fr (keeping [] [r]) c (c.takeTurn l j k) := by apply Chip.takeTurn_fr (Fr.refl _ c) <;> simp
  exact hf.kept.regs r (by simp)

theorem recNeed_of_rd {x : Chip} (h : x.rd .TRK_CTL = c.rd .TRK_CTL) (st : Strm) : x.recNeed st = c.recNeed st := by
  unfold Chip.recNeed Chip.payloadMax
  rw [bit_of_rd h]

theorem strmCore_of_svc {x : Chip} (h : x.svc = c.svc) (id : BitVec 16) : strmCore x id = strmCore c id := by
  unfold strmCore strmAt
  rw [h]

/-- The credit that a stream with nothing to send is given (R123). -/
theorem sendCredit_core {st : Strm} (h : strmCore c st.id = some (st.credit, st.closed)) : strmCore (c.sendCredit st) st.id =
    some (if st.creditDue then st.creditNow else st.credit, st.closed) := by
  unfold Chip.sendCredit
  extract_lets w c1 c2
  split
  · next hdue => rw [h, if_neg (by simpa using hdue)]
  · next hdue =>
    have hsvc : c2.svc = c.svc := ((sendFrame_kept _ _ _ _ _ _ _).kept.svc (by simp)).trans ((active_fr c).kept.svc (by decide))
    have hcore : strmCore c2 st.id = some (st.credit, st.closed) := (strmCore_of_svc hsvc _).trans h
    obtain ⟨x, hx, hpair⟩ := Option.map_eq_some_iff.1 hcore
    obtain ⟨-, hclosed⟩ := Prod.mk.inj hpair
    have hid : x.id = st.id := strmAt_id hx
    have hat : strmAt (c2.updStrm st.id (fun x => { x with credit := w })) st.id = some { x with credit := w } := updStrm_at hx hid
    rw [strmCore, hat, if_pos (by simpa using hdue)]
    show some (w, x.closed) = _
    rw [hclosed]

theorem sendRecs_core {st : Strm} (rs : List Rec) (h : strmCore c st.id = some (st.credit, st.closed)) :
    strmCore (c.sendRecs st rs).active st.id = some (st.credit, st.closed) := by
  have hf : Fr (keeping [.svc] []) c (c.sendRecs st rs) := by apply Chip.sendRecs_fr (Fr.refl _ c) <;> simp
  rw [strmCore_of_svc (((active_fr _).kept.svc (by decide)).trans (hf.kept.svc (by simp))), h]

/-- The turn that a stream with something to send takes first. -/
def turnTaken (c : Chip) (id : BitVec 16) : Option (LaneId × Nat) → Chip
  | none => c
  | some (l, k) => c.takeTurn l id k

theorem turnTaken_core (c : Chip) (id : BitVec 16) (turn : Option (LaneId × Nat)) : strmCore (turnTaken c id turn) id = strmCore c id ∧
    (turnTaken c id turn).rd .TRK_CTL = c.rd .TRK_CTL := by
  cases turn with
  | none => exact ⟨rfl, rfl⟩
  | some t => exact ⟨takeTurn_core _ _ _ _ _, takeTurn_rd _ _ _ _ _⟩

theorem sendStrm_eq (c : Chip) (st : Strm) (turn : Option (LaneId × Nat)) : ∃ g : Strm → Nat, c.sendStrm st turn =
    (if (turnTaken c st.id turn).recNeed st = 0 then (turnTaken c st.id turn).sendCredit st
      else ((turnTaken c st.id turn).sendRecs st (takeClosed c.payloadMax 0 st.recs).1).active).updStrm st.id
      (fun x => Strm.weirNext { x with recs := (takeClosed c.payloadMax 0 st.recs).2, deficit := g x }) := by
  obtain _ | ⟨l, k⟩ := turn <;> exact ⟨_, rfl⟩

theorem weirNext_kept (x : Strm) : x.weirNext.id = x.id ∧ (x.weirNext.recs, x.weirNext.credit, x.weirNext.closed) = (x.recs, x.credit, x.closed) := by
  unfold Strm.weirNext
  split
  · exact ⟨rfl, rfl⟩
  · split <;> exact ⟨rfl, rfl⟩

/-- A stream's turn: its closed records leave it, or its credit goes out. -/
theorem sendStrm_sent {st : Strm} (turn : Option (LaneId × Nat)) (hs : strmAt c st.id = some st) :
    (strmAt (c.sendStrm st turn) st.id).map (fun x => (x.recs, x.credit, x.closed)) =
      some ((takeClosed c.payloadMax 0 st.recs).2, if c.recNeed st = 0 ∧ st.creditDue = true then st.creditNow else st.credit, st.closed) := by
  obtain ⟨g, heq⟩ := sendStrm_eq c st turn
  obtain ⟨hturn, hrd⟩ := turnTaken_core c st.id turn
  obtain ⟨y, hy⟩ : ∃ y, turnTaken c st.id turn = y := ⟨_, rfl⟩
  have hcore : strmCore y st.id = some (st.credit, st.closed) := by
    rw [← hy, hturn, strmCore, hs]
    rfl
  have hneed : y.recNeed st = c.recNeed st := by rw [← hy]; exact recNeed_of_rd hrd st
  obtain ⟨z, hz⟩ : ∃ z, (if y.recNeed st = 0 then y.sendCredit st else (y.sendRecs st (takeClosed c.payloadMax 0 st.recs).1).active) = z := ⟨_, rfl⟩
  have hzcore : strmCore z st.id = some (if c.recNeed st = 0 ∧ st.creditDue = true then st.creditNow else st.credit, st.closed) := by
    rw [← hz, ← hneed]
    by_cases h0 : y.recNeed st = 0
    · rw [if_pos h0, sendCredit_core hcore]
      simp only [h0, true_and]
    · rw [if_neg h0, sendRecs_core _ hcore, if_neg fun h => h0 h.1]
  obtain ⟨x, hx, hpair⟩ := Option.map_eq_some_iff.1 hzcore
  have hxid : x.id = st.id := strmAt_id hx
  obtain ⟨hid, hkept⟩ := weirNext_kept { x with recs := (takeClosed c.payloadMax 0 st.recs).2, deficit := g x }
  have hat := updStrm_at (f := fun x => Strm.weirNext { x with recs := (takeClosed c.payloadMax 0 st.recs).2, deficit := g x }) hx
    (hid.trans hxid)
  obtain ⟨hcredit, hclosed⟩ := Prod.mk.inj hpair
  rw [heq, hy, hz, hat, Option.map_some, hkept, hcredit, hclosed]

theorem reapStreams_at {id : BitVec 16} {x : Strm} (h : strmAt c id = some x) (ho : x.closed = false) : strmAt c.reapStreams id = some x := by
  show (c.svc.streams.filter (fun x => !(x.closed && x.recs.isEmpty))).find? (fun x => x.id == id) = some x
  have hfirst : ∀ l : List Strm, l.find? (fun x => x.id == id) = some x →
      (l.filter (fun x => !(x.closed && x.recs.isEmpty))).find? (fun x => x.id == id) = some x := fun l => by
    induction l with
    | nil => exact fun h => h
    | cons y t ih =>
      intro hl
      by_cases hy : (y.id == id) = true
      · have hyx : y = x := by simpa [hy] using hl
        subst hyx
        rw [List.filter_cons_of_pos (by rw [ho]; rfl), List.find?_cons, hy]
      · have ht := ih (by simpa [hy] using hl)
        rw [List.filter_cons]
        split
        · simpa [hy] using ht
        · exact ht
  exact hfirst _ h

theorem runs_streamFrameSend {id : BitVec 16} {st : Strm} (hs : s.chip.svc.streams.find? (fun x => x.id == id) = some st) (ho : st.closed = false)
    (hc : s.chip.canSend 2 id.toNat = true) (hturn : s.chip.strmNeed st = 0 ∨ (s.chip.strmTurn id).isSome = true) :
    Runs (.streamFrameSend id) s (fun c => (c.svc.streams.find? (fun x => x.id == id)).map (fun x => (x.recs, x.credit)) =
      some ((takeClosed s.chip.payloadMax 0 st.recs).2,
        if s.chip.recNeed st = 0 ∧ st.creditDue = true then st.creditNow else st.credit)) := by
  have hid : st.id = id := strmAt_id hs
  subst hid
  have hexec : exec (.streamFrameSend st.id) s = execStreamFrameSend st.id s := rfl
  obtain ⟨turn, ht⟩ : ∃ turn, (if s.chip.strmNeed st = 0 then some none else s.chip.strmTurn st.id) = some turn := by
    split
    · exact ⟨none, rfl⟩
    · next h => exact Option.isSome_iff_exists.1 (hturn.resolve_left h)
  obtain ⟨x, hx, hfin⟩ := Option.map_eq_some_iff.1 (sendStrm_sent turn hs)
  obtain ⟨hrecs, hrest⟩ := Prod.mk.inj hfin
  obtain ⟨hcredit, hclosed⟩ := Prod.mk.inj hrest
  refine runs_of_run_eq (d := (s.chip.sendStrm st turn).reapStreams) hexec ?_ ?_
  · rw [hs]
    dsimp only
    rw [hc, if_neg (by decide), ht]
  · have hat := reapStreams_at hx (hclosed.trans ho)
    rw [show (s.chip.sendStrm st turn).reapStreams.svc.streams.find? (fun x => x.id == st.id) = some x from hat, Option.map_some, hrecs, hcredit]

/-! ### The trunk's door opcodes -/

theorem runs_trunkStatus (hs : Startable s.chip q 0x0140#16 [0, 4] e) :
    Runs (.trunkStatus q) s (fun c => Answered c q e rOK [(s.chip.rd .TRK_STATUS).toNat, (s.chip.rd .TRK_SPILL).toNat,
      (s.chip.rd (.TRK_ERR 0)).toNat, (s.chip.rd (.TRK_ERR 1)).toNat, (s.chip.trunk.lanes[(0 : LaneId)]).rtt,
      (s.chip.trunk.lanes[(1 : LaneId)]).rtt]) := by
  have hexec : exec (.trunkStatus q) s = execTrunkStatus q s := rfl
  have htrunk : (Taken s.chip q).trunk = s.chip.trunk := (taken_fr s.chip q).kept.trunk (by decide)
  refine runs_served hs hexec ?_
  rw [taken_rd _ _ (by decide), taken_rd _ _ (by decide), taken_rd _ _ (by decide), taken_rd _ _ (by decide), htrunk]
  exact answered_taken hs _ _ _

/-- PTP_CTL with PTP_SET's fields. -/
def ptpWritten (w : Word) (dom sy an pr : Nat) : Word :=
  fset (fset (fset (fset w F.PTP_CTL_DOMAIN dom) F.PTP_CTL_SYNC_LOG sy) F.PTP_CTL_ANN_LOG an) F.PTP_CTL_PRIORITY1 pr

theorem ptpWritten_fields (w : Word) {dom sy an pr : Nat} (hd : dom < 256) (hy : sy < 16) (ha : an ≤ 3) (hp : pr ≤ 255) :
    fget (ptpWritten w dom sy an pr) F.PTP_CTL_DOMAIN = dom ∧ fget (ptpWritten w dom sy an pr) F.PTP_CTL_SYNC_LOG = sy ∧
    fget (ptpWritten w dom sy an pr) F.PTP_CTL_ANN_LOG = an ∧ fget (ptpWritten w dom sy an pr) F.PTP_CTL_PRIORITY1 = pr ∧
    fget (ptpWritten w dom sy an pr) F.PTP_CTL_PTP_EN = fget w F.PTP_CTL_PTP_EN := by
  have hother : ∀ (x : Word) (f g : Field) (v : Nat), Field.fits f → g.hi < 32 → f.hi < g.lo ∨ g.hi < f.lo → fget (fset x f v) g = fget x g :=
    fun x f g v hf hg hd => fget_fset_other x f g v hf hg hd
  unfold ptpWritten
  refine ⟨?_, ?_, ?_, ?_, ?_⟩
  · rw [hother _ _ _ _ (by decide) (by decide) (by decide), hother _ _ _ _ (by decide) (by decide) (by decide),
      hother _ _ _ _ (by decide) (by decide) (by decide), fget_fset_same _ _ _ (by decide)]
    exact Nat.mod_eq_of_lt hd
  · rw [hother _ _ _ _ (by decide) (by decide) (by decide), hother _ _ _ _ (by decide) (by decide) (by decide), fget_fset_same _ _ _ (by decide)]
    exact Nat.mod_eq_of_lt hy
  · rw [hother _ _ _ _ (by decide) (by decide) (by decide), fget_fset_same _ _ _ (by decide)]
    exact Nat.mod_eq_of_lt (Nat.lt_of_le_of_lt ha (by decide))
  · rw [fget_fset_same _ _ _ (by decide)]
    exact Nat.mod_eq_of_lt (Nat.lt_succ_of_le hp)
  · rw [hother _ _ _ _ (by decide) (by decide) (by decide), hother _ _ _ _ (by decide) (by decide) (by decide),
      hother _ _ _ _ (by decide) (by decide) (by decide), hother _ _ _ _ (by decide) (by decide) (by decide)]

theorem runs_ptpSet (hc : Canon s.chip) {dom : Byte} {sy : Int} {an pr : Nat} (hs : Startable s.chip q 0x0143#16 [0, 4] e) (hlo : -4 ≤ sy) (hhi : sy ≤ 0)
    (ha : an ≤ 3) (hp : pr ≤ 255) :
    Runs (.ptpSet q dom sy an pr) s (fun c => Answered c q e rOK [] ∧
      c.get .PTP_CTL F.PTP_CTL_DOMAIN = dom.toNat ∧ c.get .PTP_CTL F.PTP_CTL_SYNC_LOG = (sy + 16).toNat % 16 ∧
      c.get .PTP_CTL F.PTP_CTL_ANN_LOG = an ∧ c.get .PTP_CTL F.PTP_CTL_PRIORITY1 = pr ∧
      c.get .PTP_CTL F.PTP_CTL_PTP_EN = s.chip.get .PTP_CTL F.PTP_CTL_PTP_EN) := by
  have hexec : exec (.ptpSet q dom sy an pr) s = execPtpSet q dom sy an pr s := rfl
  obtain ⟨w, hw⟩ : ∃ w, (Taken s.chip q).wr .PTP_CTL (ptpWritten ((Taken s.chip q).rd .PTP_CTL) dom.toNat ((sy + 16).toNat % 16) an pr) = w := ⟨_, rfl⟩
  have hrd : (w.answer q rOK).rd .PTP_CTL = ptpWritten ((Taken s.chip q).rd .PTP_CTL) dom.toNat ((sy + 16).toNat % 16) an pr := by
    rw [(answer_fr w q rOK [] 0).kept.regs .PTP_CTL rfl, ← hw]
    exact rd_wr_same _ (canon_taken hc q) _ _
  obtain ⟨hdom, hsync, hann, hprio, hen⟩ := ptpWritten_fields ((Taken s.chip q).rd .PTP_CTL) dom.isLt
    (Nat.mod_lt (sy + 16).toNat (by decide : 0 < 16)) ha hp
  refine runs_of_run_eq (d := w.answer q rOK) hexec ?_ ⟨?_, ?_⟩
  · rw [serve_start hs, if_neg (by omega), ← hw]
    rfl
  · exact ((executes_taken hs).of_fr (show Fr (keeping [.doors, .reqs] []) (Taken s.chip q) w by rw [← hw]; exact Fr.wr (Fr.refl _ _) (by simp) _)
      (by simp)).answered _ _ _
  · rw [Chip.get, Chip.get, Chip.get, Chip.get, Chip.get, hrd, hdom, hsync, hann, hprio, hen, taken_rd _ _ (by decide)]
    exact ⟨rfl, rfl, rfl, rfl, rfl⟩

theorem taken_swapOk (c : Chip) (q : ReqId) : (Taken c q).swapOk = c.swapOk := by
  have htrunk : (Taken c q).trunk = c.trunk := (taken_fr c q).kept.trunk (by decide)
  have hup : ∀ l, (Taken c q).up l = c.up l := fun l => by
    unfold Chip.up
    rw [bitAt_of_rd (taken_rd c q (by decide))]
  unfold Chip.swapOk Chip.inService Chip.pair Chip.inTarn
  rw [htrunk, hup, hup, bit_of_rd (taken_rd c q (by decide))]

theorem setSt_trunk (c : Chip) (r : Reg) (f : Field) (v : Nat) : (c.setSt r f v).trunk = c.trunk := by
  unfold Chip.setSt
  split <;> rfl

/-- A swap asked for: its frame goes out, and it is pending (R119). -/
theorem askSwap_eq (c : Chip) (q : Option ReqId) : ∃ f : BitVec 32 × Chip, f = c.sendLane c.active? lfSWAP_REQ (otherLane c.active?).val 0 0#32 0#64 ∧
    c.askSwap q = (f.2.updTrunk (fun t => { t with swap := some ⟨otherLane c.active?, f.1, f.2.clk.now + ms 1, q⟩ })).setSt .TRK_STATUS
      F.TRK_STATUS_SWAP_PEND 1 :=
  ⟨_, rfl, rfl⟩

theorem runs_trunkSwap (hc : Canon s.chip) (hs : Startable s.chip q 0x0142#16 [0, 4] e) (hok : s.chip.swapOk = true) (hw : s.chip.trunk.swap = none) :
    Runs (.trunkSwap q) s (fun c => c.bit .TRK_STATUS F.TRK_STATUS_SWAP_PEND = true ∧
      c.trunk.swap.map (fun w => (w.lane, w.req)) = some (otherLane s.chip.active?, some q)) := by
  have hexec : exec (.trunkSwap q) s = execTrunkSwap q s := rfl
  have htrunk : (Taken s.chip q).trunk = s.chip.trunk := (taken_fr s.chip q).kept.trunk (by decide)
  have hact : (Taken s.chip q).active? = s.chip.active? := by
    unfold Chip.active?
    rw [bit_of_rd (taken_rd _ _ (by decide))]
  refine runs_served hs hexec ?_
  rw [taken_swapOk, hok, htrunk, hw, if_neg (by decide), if_neg (by decide)]
  obtain ⟨f, hf, heq⟩ := askSwap_eq (Taken s.chip q) (some q)
  have hfr : Fr (keeping [] []) (Taken s.chip q) f.2 := by
    rw [hf]
    apply Chip.sendLane_fr2 (Fr.refl _ _); simp
  have hcanon : Canon (f.2.updTrunk (fun t => { t with swap := some ⟨otherLane (Taken s.chip q).active?, f.1, f.2.clk.now + ms 1, some q⟩ })) :=
    ⟨(hfr.canon (canon_taken hc q)).regs, (hfr.canon (canon_taken hc q)).flash, (hfr.canon (canon_taken hc q)).blocks⟩
  rw [heq]
  refine ⟨bit_setSt_one _ hcanon _ _ (by decide) (by decide), ?_⟩
  rw [setSt_trunk, ← hact]
  rfl

theorem runs_trunkSwap_refused {r : Nat} (hs : Startable s.chip q 0x0142#16 [0, 4] e)
    (hr : (s.chip.swapOk = true ∧ s.chip.trunk.swap.isSome = true ∧ r = rWAIT) ∨ (s.chip.swapOk = false ∧ r = rBAD_ARG)) :
    Runs (.trunkSwap q) s (fun c => Answered c q e r []) := by
  have hexec : exec (.trunkSwap q) s = execTrunkSwap q s := rfl
  have htrunk : (Taken s.chip q).trunk = s.chip.trunk := (taken_fr s.chip q).kept.trunk (by decide)
  refine runs_served hs hexec ?_
  rw [taken_swapOk, htrunk]
  obtain ⟨hok, hw, rfl⟩ | ⟨hok, rfl⟩ := hr
  · rw [hok, hw, if_neg (by decide), if_pos rfl]
    exact answered_taken hs _ _ _
  · rw [hok, if_pos (by decide)]
    exact answered_taken hs _ _ _

end

/-- Settles O8: a frame sent leaves the doors and the streams, and each command then drops from them what it sent. -/
theorem trunkSending : Obligations.TrunkSending := by
  unfold Obligations.TrunkSending
  intro s hc
  refine ⟨fun l hr ha hd => runs_spillReplayEnd hr ha hd, fun d hp hs hsend => runs_eventFrameSend hp hs hsend,
    fun d hne hsend hst => runs_mbxRspSend hne hsend hst, fun id st hs ho hsend ht => runs_streamFrameSend hs ho hsend ht,
    fun q e hs => runs_trunkStatus hs, fun q e dom sy an pr hs hlo hhi ha hp => runs_ptpSet hc hs hlo hhi ha hp,
    fun q e hs hok hw => runs_trunkSwap hc hs hok hw, fun q e hs hok hw => runs_trunkSwap_refused hs (.inl ⟨hok, hw, rfl⟩),
    fun q e hs hok => runs_trunkSwap_refused hs (.inr ⟨hok, rfl⟩)⟩

end Sys2Proof.Proofs

namespace Sys2Proof.Proofs

open Sys2Proof.Machine Sys2Proof.Laws

/-! Frames received on the trunk: delivered or counted, then consumed (05 R107, R111, R114, R115, R118, R119, R121, R122; 06 R133). -/

section

variable {s : State} {c : Chip} {l : LaneId} {f : RxFrame}

/-! ### What a lane's sending leaves of the trunk -/

/-- The frames delivered, the receive spaces and the lanes' destinations and round-trip times stay. -/
structure RxKept (c x : Chip) : Prop where
  delivered : x.trunk.delivered = c.trunk.delivered
  rx : x.trunk.rx = c.trunk.rx
  swapped : x.trunk.swapped = c.trunk.swapped
  dest : ∀ k : LaneId, (x.trunk.lanes[k]).dest = (c.trunk.lanes[k]).dest
  rtt : ∀ k : LaneId, (x.trunk.lanes[k]).rtt = (c.trunk.lanes[k]).rtt

theorem RxKept.refl (c : Chip) : RxKept c c := ⟨rfl, rfl, rfl, fun _ => rfl, fun _ => rfl⟩

theorem RxKept.trans {a b c : Chip} (h : RxKept a b) (h' : RxKept b c) : RxKept a c :=
  ⟨h'.delivered.trans h.delivered, h'.rx.trans h.rx, h'.swapped.trans h.swapped, fun k => (h'.dest k).trans (h.dest k), fun k => (h'.rtt k).trans (h.rtt k)⟩

theorem rxKept_of_trunk {c x : Chip} (h : x.trunk = c.trunk) : RxKept c x := by
  refine ⟨?_, ?_, ?_, fun k => ?_, fun k => ?_⟩ <;> rw [h]

theorem updLane_rxKept (c : Chip) (l : LaneId) (g : Lane → Lane) (h : ∀ x, (g x).dest = x.dest ∧ (g x).rtt = x.rtt) : RxKept c (c.updLane l g) := by
  refine ⟨rfl, rfl, rfl, fun k => ?_, fun k => ?_⟩
  all_goals
    by_cases hk : k = l
    · subst hk
      rw [updLane_same]
      first | exact (h _).1 | exact (h _).2
    · rw [updLane_other _ _ hk]

theorem each_rxKept {α : Type} {g : Chip → α → Chip} (h : ∀ c x, RxKept c (g c x)) : ∀ (l : List α) (c : Chip), RxKept c (c.each l g)
  | [], c => .refl c
  | x :: t, c => (h c x).trans (each_rxKept h t (g c x))

theorem emit_rxKept (c : Chip) (l : LaneId) (f : TxFrame) : RxKept c (c.emit l f) := by
  unfold Chip.emit
  exact updLane_rxKept _ _ _ fun _ => ⟨rfl, rfl⟩

theorem sendLane_rxKept (c : Chip) (l : LaneId) (a b k : Nat) (q : BitVec 32) (t : BitVec 64) : RxKept c (c.sendLane l a b k q t).2 := by
  obtain ⟨tx, htx⟩ := takeSeq_trunk c.trunk 4 l.val
  have hseq : RxKept c (c.updTrunk (fun _ => (c.trunk.takeSeq 4 l.val).2)) := by
    rw [htx]
    exact ⟨rfl, rfl, rfl, fun _ => rfl, fun _ => rfl⟩
  exact hseq.trans (emit_rxKept _ _ _)

theorem flushWaiting_rxKept (c : Chip) (l : LaneId) : RxKept c (c.flushWaiting l) := by
  unfold Chip.flushWaiting
  split
  · exact (each_rxKept (fun c f => emit_rxKept c l f) _ c).trans (updLane_rxKept _ _ _ fun _ => ⟨rfl, rfl⟩)
  · exact .refl c

theorem learn_learns (c : Chip) (l : LaneId) (f : RxFrame) : (c.learn l f).trunk.delivered = c.trunk.delivered ∧
    (c.learn l f).trunk.rx = c.trunk.rx ∧ (c.learn l f).trunk.swapped = c.trunk.swapped ∧ ((c.learn l f).trunk.lanes[l]).dest = some f.src := by
  have h := flushWaiting_rxKept (c.updLane l (fun x => { x with dest := some f.src })) l
  refine ⟨h.delivered, h.rx, h.swapped, (h.dest l).trans ?_⟩
  rw [updLane_same]

theorem offActive_of {x : Chip} (hr : ∀ r, r ≠ .PWR_STATUS → x.rd r = c.rd r) (hs : x.trunk.swapped = c.trunk.swapped) (hc : x.clk = c.clk) (l : LaneId) :
    x.offActive l = c.offActive l := by
  unfold Chip.offActive Chip.pair Chip.active? Chip.up
  rw [hs, hc, bit_of_rd (hr .TRK_CTL (by decide)), bit_of_rd (hr .TRK_STATUS (by decide)), get_of_rd (hr .TRK_CFG2 (by decide)),
    bitAt_of_rd (hr .TRK_STATUS (by decide))]

theorem learn_offActive (c : Chip) (l k : LaneId) (f : RxFrame) : (c.learn l f).offActive k = c.offActive k ∧ (c.learn l f).active.offActive k = c.offActive k := by
  obtain ⟨-, -, hs, -⟩ := learn_learns c l f
  have hf : ∀ r, Fr (keeping [.clk] [r]) c (c.learn l f) := fun r => by apply Chip.learn_fr (Fr.refl _ c); simp
  have ha := active_fr (c.learn l f)
  have hclk : (c.learn l f).clk = c.clk := (hf .TRK_CTL).kept.clk (by simp)
  exact ⟨offActive_of (fun r _ => (hf r).kept.regs r (by simp)) hs hclk k,
    offActive_of (fun r hr => (ha.kept.regs r (by simpa [frActive] using hr)).trans ((hf r).kept.regs r (by simp))) ((congrArg Trunk.swapped (ha.kept.trunk (by decide))).trans hs)
      ((ha.kept.clk (by decide)).trans hclk) k⟩

/-! ### A frame received (R107, R111, R114) -/

/-- A frame that passes the checks of the wire. -/
structure FrameSound (c : Chip) (l : LaneId) (f : RxFrame) : Prop where
  up : c.up l = true
  awake : c.awake = true
  fcs : f.fcsOk = true
  us : f.toUs = true
  crc : f.crcOk = true
  ver : f.ver = 1#8
  etherType : f.etherType = (c.trunk.lanes[l]).etherType
  notPtp : f.etherType ≠ 0x88F7#16
  short : f.length.toNat ≤ c.payloadMax
  whole : f.length.toNat ≤ f.payload.length
  fits : rxFits f l = true

theorem awake_st (h : c.awake = true) : c.pwr.st ≠ .sleep := by
  unfold Chip.awake at h
  intro hs
  rw [hs] at h
  exact absurd h (by decide)

theorem receive_awake {p : Chip → Prop} {d : Chip} (hup : s.chip.up l = true) (ha : s.chip.awake = true) (hn : f.etherType ≠ 0x88F7#16)
    (hd : s.chip.frameAwake l f = d) (hp : p d) : Runs (.ttpFrameReceive l f) s p := by
  have hexec : exec (.ttpFrameReceive l f) s = execTtpFrameReceive l f s := rfl
  refine runs_of_run_eq hexec ?_ hp
  rw [hup, if_neg (by decide), beq_eq_false_iff_ne.2 hn, if_neg (by decide), if_neg (awake_st ha), if_pos ha, hd]

/-- What an awake block does with a frame that passes. -/
theorem frameAwake_sound (h : FrameSound c l f) (hlo : f.typ.toNat ≠ 0) (hhi : f.typ.toNat ≤ ttWAKE) : c.frameAwake l f =
    (let d := if f.typ.toNat = ttMBX_REQ || f.typ.toNat = ttSTREAM || f.typ.toNat = ttREGWIN then (c.learn l f).active else c.learn l f
    if f.typ.toNat = ttLANE then d.deliver [(l, f)]
    else if d.offActive l then d.frameErr l
    else if f.typ.toNat = ttWAKE then d.deliver [(l, f)]
    else d.takeFrame l f) := by
  have hlong : ¬ (ttWAKE < f.typ.toNat) := Nat.not_lt.2 hhi
  have hwire : (!f.fcsOk || !f.toUs || f.etherType != (c.trunk.lanes[l]).etherType || f.ver != 1#8 || f.typ.toNat = 0 || ttWAKE < f.typ.toNat) =
      false := by
    rw [h.fcs, h.us, ← h.etherType, h.ver]
    simp [hlo, hlong]
  have hlen : (decide (c.payloadMax < f.length.toNat) || decide (f.payload.length < f.length.toNat)) = false := by
    simp [h.short, h.whole]
  unfold Chip.frameAwake
  dsimp only
  rw [hwire, hlen, h.crc, h.fits]
  rfl

/-- A LANE frame, and a WAKE frame on the active lane, are delivered (R107, R118, R119, R133). -/
theorem runs_receive_lane (h : FrameSound s.chip l f) (ht : f.typ = 6#8 ∨ f.typ = 7#8) (hoff : f.typ = 7#8 → s.chip.offActive l = false) :
    Runs (.ttpFrameReceive l f) s (fun c => c.trunk.delivered = s.chip.trunk.delivered ++ [(l, f)] ∧ (c.trunk.lanes[l]).dest = some f.src) := by
  obtain ⟨hdel, -, -, hdest⟩ := learn_learns s.chip l f
  have heq : s.chip.frameAwake l f = (s.chip.learn l f).deliver [(l, f)] := by
    obtain ht | ht := ht
    · have htyp : f.typ.toNat = 6 := by rw [ht]; rfl
      rw [frameAwake_sound h (by omega) (by rw [htyp]; decide), htyp]
      rfl
    · have htyp : f.typ.toNat = 7 := by rw [ht]; rfl
      rw [frameAwake_sound h (by omega) (by rw [htyp]; decide), htyp]
      show (if (s.chip.learn l f).offActive l then _ else _) = _
      rw [(learn_offActive s.chip l l f).1, hoff ht]
      rfl
  refine receive_awake h.up h.awake h.notPtp heq ⟨?_, hdest⟩
  show (s.chip.learn l f).trunk.delivered ++ [(l, f)] = _
  rw [hdel]

theorem serial_next (x : BitVec 32) : serial x (x - 1#32) = .ahead ∧ (x - (x - 1#32)).toNat = 1 := by
  have h : x - (x - 1#32) = 1#32 := sub_sub_cancel x 1#32
  unfold serial
  rw [h]
  exact ⟨rfl, rfl⟩

/-- The next frame of a space with nothing held is delivered, and its SEQ is the space's last (R111). -/
theorem takeFrame_next {x : RxSpace} (hx : c.trunk.rx.find? (fun y => y.cls == (rxSpace f).1 && y.id == (rxSpace f).2) = some x)
    (hl : x.last = some (f.seq - 1#32)) (hb : x.buf = []) (hg : rxGap f = false) :
    (c.takeFrame l f).trunk.delivered = c.trunk.delivered ++ [(l, f)] ∧
    ((c.takeFrame l f).trunk.rx.find? (fun y => y.cls == (rxSpace f).1 && y.id == (rxSpace f).2)).map (·.last) = some (some f.seq) := by
  obtain ⟨hahead, hone⟩ := serial_next f.seq
  obtain ⟨w, hw⟩ : ∃ w, (c.updRx (rxSpace f).1 (rxSpace f).2 (fun x => { x with last := some f.seq })).deliver [(l, f)] = w := ⟨_, rfl⟩
  have hp := List.find?_some hx
  have hfind : w.trunk.rx.find? (fun y => y.cls == (rxSpace f).1 && y.id == (rxSpace f).2) = some { x with last := some f.seq } := by
    rw [← hw]
    exact find?_updFirst (p := fun y : RxSpace => y.cls == (rxSpace f).1 && y.id == (rxSpace f).2) (f := fun x => { x with last := some f.seq }) hx hp
  have heq : c.takeFrame l f = w.drainRx (rxSpace f).1 (rxSpace f).2 := by
    unfold Chip.takeFrame
    dsimp only
    rw [hx]
    dsimp only
    rw [hl]
    dsimp only
    rw [hahead, hone, hg, ← hw]
    rfl
  have hdrain : w.drainRx (rxSpace f).1 (rxSpace f).2 =
      (w.updRx (rxSpace f).1 (rxSpace f).2 (fun x => { x with last := some f.seq, buf := [] })).deliver [] := by
    unfold Chip.drainRx
    rw [hfind]
    dsimp only
    rw [hb]
    rfl
  have hlast : (w.updRx (rxSpace f).1 (rxSpace f).2 (fun x => { x with last := some f.seq, buf := [] })).trunk.rx.find?
      (fun y => y.cls == (rxSpace f).1 && y.id == (rxSpace f).2) = some { x with last := some f.seq, buf := [] } :=
    find?_updFirst (p := fun y : RxSpace => y.cls == (rxSpace f).1 && y.id == (rxSpace f).2)
      (f := fun x => { x with last := some f.seq, buf := [] }) (x := { x with last := some f.seq }) hfind hp
  rw [heq, hdrain]
  refine ⟨?_, ?_⟩
  · show w.trunk.delivered ++ [] = _
    rw [List.append_nil, ← hw]
    rfl
  · exact (congrArg (Option.map (·.last)) hlast).trans rfl

theorem runs_receive_next {x : RxSpace} (h : FrameSound s.chip l f) (ht : f.typ = 1#8 ∨ f.typ = 4#8 ∨ f.typ = 5#8) (hoff : s.chip.offActive l = false)
    (hg : rxGap f = false) (hx : s.chip.trunk.rx.find? (fun y => y.cls == (rxSpace f).1 && y.id == (rxSpace f).2) = some x)
    (hl : x.last = some (f.seq - 1#32)) (hb : x.buf = []) :
    Runs (.ttpFrameReceive l f) s (fun c => c.trunk.delivered = s.chip.trunk.delivered ++ [(l, f)] ∧
      (c.trunk.rx.find? (fun y => y.cls == (rxSpace f).1 && y.id == (rxSpace f).2)).map (·.last) = some (some f.seq)) := by
  obtain ⟨hdel, hrx, -, -⟩ := learn_learns s.chip l f
  have htrunk : (s.chip.learn l f).active.trunk = (s.chip.learn l f).trunk := (active_fr _).kept.trunk (by decide)
  have htyp : f.typ.toNat = 1 ∨ f.typ.toNat = 4 ∨ f.typ.toNat = 5 := ht.imp (fun h => by rw [h]; rfl) (.imp (fun h => by rw [h]; rfl) fun h => by rw [h]; rfl)
  have heq : s.chip.frameAwake l f = (s.chip.learn l f).active.takeFrame l f := by
    rw [frameAwake_sound h (by omega) (by unfold ttWAKE; omega)]
    have hact : (s.chip.learn l f).active.offActive l = false := (learn_offActive s.chip l l f).2.trans hoff
    obtain htyp | htyp | htyp := htyp <;>
    · rw [htyp]
      show (if (s.chip.learn l f).active.offActive l then _ else _) = _
      rw [hact]
      rfl
  obtain ⟨hd, hlast⟩ := takeFrame_next (c := (s.chip.learn l f).active) (l := l) (by rw [htrunk, hrx]; exact hx) hl hb hg
  refine receive_awake h.up h.awake h.notPtp heq ⟨?_, hlast⟩
  rw [hd, htrunk, hdel]

theorem runs_receive_bad (hc : Canon s.chip) (hup : s.chip.up l = true) (ha : s.chip.awake = true) (hf : f.fcsOk = false) (hn : f.etherType ≠ 0x88F7#16) :
    Runs (.ttpFrameReceive l f) s (fun c => c.trunk.delivered = s.chip.trunk.delivered ∧
      c.get (.TRK_ERR l) F.TRK_ERR_FRAME_ERR = sat 16 (s.chip.get (.TRK_ERR l) F.TRK_ERR_FRAME_ERR + 1)) := by
  have heq : s.chip.frameAwake l f = s.chip.frameErr l := by
    unfold Chip.frameAwake
    dsimp only
    rw [hf]
    rfl
  refine receive_awake hup ha hn heq ⟨rfl, ?_⟩
  unfold Chip.frameErr Chip.incSat
  rw [get_setF_same _ hc _ _ _ (by decide)]
  refine Nat.mod_eq_of_lt ?_
  have hle : sat 16 (s.chip.get (.TRK_ERR l) F.TRK_ERR_FRAME_ERR + 1) ≤ 2 ^ 16 - 1 := Nat.min_le_right _ _
  exact Nat.lt_of_le_of_lt hle (by decide)

/-! ### The consumers of delivered frames -/

/-- Taking a delivered frame changes the frames delivered alone. -/
theorem takeDelivered_taken {p : LaneId → RxFrame → Bool} {x : LaneId × RxFrame} {c₁ : Chip} (h : c.takeDelivered p = some (x, c₁)) :
    ∃ ds, c₁ = c.updTrunk (fun t => { t with delivered := ds }) := by
  unfold Chip.takeDelivered at h
  split at h
  · cases h
  · exact ⟨_, (congrArg Prod.snd (Option.some.inj h)).symm⟩

theorem takeLane_taken {k : Nat} {x : LaneId × RxFrame} {c₁ : Chip} (h : c.takeLane l k = some (x, c₁)) :
    ∃ ds, c₁ = c.updTrunk (fun t => { t with delivered := ds }) := by
  unfold Chip.takeLane at h
  split at h
  · exact takeDelivered_taken h
  · cases h

/-! ### A request of the trunk accepted (R133) -/

theorem dropWaiters_none (p : Waiting → Bool) (hw : c.pond.waiters = []) (hr : c.pond.refused = []) : c.dropWaiters p = c := by
  unfold Chip.dropWaiters
  rw [hw, hr]
  rfl

theorem updDoor_epochs {d : Door} {g : DoorSt → DoorSt} (hg : (g c.doors[d]).epoch = (c.doors[d]).epoch) (j : Door) :
    ((c.updDoor d g).doors[j]).epoch = (c.doors[j]).epoch := by
  by_cases hj : j = d
  · rw [hj, updDoor_same, hg]
  · rw [updDoor_other c g hj]

theorem epochOf_updDoor {d : Door} {g : DoorSt → DoorSt} (hg : (g c.doors[d]).epoch = (c.doors[d]).epoch) (k i : Nat) :
    (c.updDoor d g).epochOf k i = c.epochOf k i := by
  unfold Chip.epochOf
  split
  · rfl
  · rfl
  · rfl
  · split
    next h => exact updDoor_epochs hg ⟨i, h⟩
    next => rfl
  · rfl

theorem checkEpochs_updDoor {d : Door} {g : DoorSt → DoorSt} (hg : (g c.doors[d]).epoch = (c.doors[d]).epoch) (r : Request) (v : Option (BitVec 16)) (b : Bool) :
    (c.updDoor d g).checkEpochs d r v b = c.checkEpochs d r v b := by
  unfold Chip.checkEpochs Chip.tgtEpoch
  rw [updDoor_epochs hg, epochOf_updDoor hg]

theorem modeChange_of {x : Chip} (hp : x.ports = c.ports) (hr : ∀ n, x.rd (.PIN_CFG n) = c.rd (.PIN_CFG n)) (r : Request) : x.modeChange? r = c.modeChange? r := by
  have hw : ∀ n m, x.wiringOk n m = c.wiringOk n m := fun n m => by
    unfold Chip.wiringOk
    rw [get_of_rd (hr n)]
  unfold Chip.modeChange?
  simp only [hw, hp]

/-- What a request queued at a door shows. -/
def Queued (d : Door) (r : Request) (c x : Chip) : Prop :=
  x.trunk = c.trunk ∧ x.pond = c.pond ∧ x.nextOrd = c.nextOrd + 1 ∧
  ∃ e, (x.doors[d]).reqs = (c.doors[d]).reqs ++ [e] ∧ e.req = r ∧ e.st = .pending ∧ e.ord = c.nextOrd

/-- What a request that asks for a mode of a port adds: the sequence, and the port's new epoch. -/
def modeAsked (q : ReqId) (c : Chip) : Option (Port × PMode × Nat) → Chip
  | none => c
  | some (n, m, ch) =>
    ((c.updPort n (fun p => { p with seqs := p.seqs ++ [⟨m, ch, some q, false, none, false⟩] })).bumpPort n).dropWaiters (fun w => w.port == n)

theorem modeAsked_kept (q : ReqId) {m : Option (Port × PMode × Nat)} (h : m = none ∨ (c.pond.waiters = [] ∧ c.pond.refused = [])) :
    (modeAsked q c m).trunk = c.trunk ∧ (modeAsked q c m).pond = c.pond ∧ (modeAsked q c m).nextOrd = c.nextOrd ∧
    ∀ d : Door, ((modeAsked q c m).doors[d]).reqs = (c.doors[d]).reqs := by
  cases m with
  | none => exact ⟨rfl, rfl, rfl, fun _ => rfl⟩
  | some x =>
    obtain ⟨n, m, ch⟩ := x
    obtain ⟨hw, hr⟩ := h.resolve_left (by simp)
    obtain ⟨w, hwdef⟩ : ∃ w, c.updPort n (fun p => { p with seqs := p.seqs ++ [⟨m, ch, some q, false, none, false⟩] }) = w := ⟨_, rfl⟩
    have hb : Fr (keeping [.trunk, .pond, .ords, .reqs] []) w (w.bumpPort n) := by apply Chip.bumpPort_fr (Fr.refl _ w) <;> simp
    have hpond : (w.bumpPort n).pond = c.pond := (hb.kept.pond (by simp)).trans (by rw [← hwdef]; rfl)
    have heq : modeAsked q c (some (n, m, ch)) = w.bumpPort n := by
      unfold modeAsked
      dsimp only
      rw [hwdef]
      exact dropWaiters_none _ (by rw [hpond]; exact hw) (by rw [hpond]; exact hr)
    rw [heq]
    refine ⟨(hb.kept.trunk (by simp)).trans ?_, hpond, (hb.kept.nextOrd (by simp)).trans ?_, fun d => (hb.kept.reqs (by simp) d).1.trans ?_⟩ <;>
    · rw [← hwdef]
      rfl

/-- A request at the end of a door's queue. -/
def queueEntry (c : Chip) (d : Door) (e : ReqEntry) : Chip :=
  { c.updDoor d (fun s => { s with reqs := s.reqs ++ [e], reqNum := e.num }) with nextOrd := e.ord + 1 }

/-- A request of the holding path, with room in the queue and current epochs, waits at the end of the queue. -/
theorem accept_queued {d : Door} {r : Request} {v : Option (BitVec 16)} (hpath : (c.doors[d]).path = some .trunk) (hrel : (c.doors[d]).releasing = none)
    (hlen : (c.doors[d]).reqs.length < 256) (hop : r.opcode ≠ opDOOR_CLAIM) (hep : c.checkEpochs d r v true = none)
    (hm : c.modeChange? r = none ∨ (c.pond.waiters = [] ∧ c.pond.refused = [])) : Queued d r c (c.accept d .trunk r v) := by
  obtain ⟨c1, hc1⟩ : ∃ x, c.updDoor d (fun s => { s with leaseFrom := c.clk.now }) = x := ⟨_, rfl⟩
  have hreqs : (c1.doors[d]).reqs = (c.doors[d]).reqs := by
    rw [← hc1, updDoor_same]
  have hep1 : c1.checkEpochs d r v true = none := by
    rw [← hc1, checkEpochs_updDoor rfl, hep]
  obtain ⟨c2, hc2⟩ : ∃ x, c1.active = x := ⟨_, rfl⟩
  have hact : Fr frActive c1 c2 := hc2 ▸ active_fr c1
  have hmode : c2.modeChange? r = c.modeChange? r := by
    rw [modeChange_of (hact.kept.ports (by decide)) (fun n => hact.kept.regs _ rfl), ← hc1]
    rfl
  have hdoors : c2.doors = c1.doors := hact.kept.doors (by decide)
  have hbase : c2.trunk = c.trunk ∧ c2.pond = c.pond ∧ c2.nextOrd = c.nextOrd := by
    rw [hact.kept.trunk (by decide), hact.kept.pond (by decide), hact.kept.nextOrd (by decide), ← hc1]
    exact ⟨rfl, rfl, rfl⟩
  have hdoor : (c2.doors[d]).reqs = (c.doors[d]).reqs := by rw [hdoors, hreqs]
  have hclaim : decide (r.opcode = opDOOR_CLAIM) = false := decide_eq_false hop
  have heq : ∃ e : ReqEntry, (e.req = r ∧ e.st = .pending ∧ e.ord = c.nextOrd) ∧
      c.accept d .trunk r v = modeAsked ⟨d, c.nextOrd⟩ (queueEntry c2 d e) (c.modeChange? r) := by
    unfold Chip.accept
    dsimp only
    rw [hpath, hrel, if_neg (by simp), if_neg (Nat.not_le.2 hlen), if_neg hop]
    rw [show ((some Path.trunk == some Path.trunk) && (none : Option Nat).isNone) = true from rfl, if_pos rfl, hc1, hep1]
    rw [hc2, hmode, hbase.2.2]
    simp only [hop, not_false_eq_true, true_or, if_true]
    refine ⟨⟨r, .trunk, (c.doors[d]).reqNum + 1, c.nextOrd, (c.modeChange? r).isSome, .pending⟩, ⟨rfl, rfl, rfl⟩, ?_⟩
    cases c.modeChange? r <;> rfl
  obtain ⟨e, ⟨he, hst, hord⟩, heq⟩ := heq
  obtain ⟨hk₁, hk₂, hk₃, hk₄⟩ := modeAsked_kept (c := queueEntry c2 d e) ⟨d, c.nextOrd⟩ (m := c.modeChange? r)
    (hm.imp_right fun h => (congrArg (fun p : Pond => p.waiters = [] ∧ p.refused = []) hbase.2.1).mpr h)
  rw [heq]
  refine ⟨hk₁.trans hbase.1, hk₂.trans hbase.2.1, hk₃.trans (congrArg (· + 1) hord), e, (hk₄ d).trans ?_, he, hst, hord⟩
  have hsame := congrArg DoorSt.reqs (updDoor_same c2 d (fun s => { s with reqs := s.reqs ++ [e], reqNum := e.num }))
  exact hsame.trans (congrArg (· ++ [e]) hdoor)

theorem runs_mbxReq {d : Door} {m : LaneId} {c₁ : Chip} (ha : s.chip.awake = true)
    (ht : s.chip.takeDelivered (fun _ f => f.typ.toNat == ttMBX_REQ && f.id.toNat == d.val) = some ((m, f), c₁))
    (hpath : (s.chip.doors[d]).path = some .trunk) (hrel : (s.chip.doors[d]).releasing = none) (hlen : (s.chip.doors[d]).reqs.length < 256)
    (hop : (parseRequest f.payload).opcode ≠ opDOOR_CLAIM) (hep : s.chip.checkEpochs d (parseRequest f.payload) (some f.epoch) true = none)
    (hg : s.chip.pond.grants = []) (hm : s.chip.modeChange? (parseRequest f.payload) = none ∨ (s.chip.pond.waiters = [] ∧ s.chip.pond.refused = [])) :
    Runs (.mbxReqReceive d true) s (fun c => c.trunk.delivered = c₁.trunk.delivered ∧ c.nextOrd = s.chip.nextOrd + 1 ∧
      ∃ e, (c.doors[d]).reqs = (s.chip.doors[d]).reqs ++ [e] ∧ e.req = parseRequest f.payload ∧ e.st = .pending ∧ e.ord = s.chip.nextOrd) := by
  obtain ⟨ds, hds⟩ := takeDelivered_taken ht
  subst hds
  obtain ⟨htrunk, hpond, hord, e, hq, he⟩ := accept_queued (c := s.chip.updTrunk (fun t => { t with delivered := ds })) (v := some f.epoch)
    hpath hrel hlen hop hep hm
  have hexec : exec (.mbxReqReceive d true) s = execMbxReqReceive d true s := rfl
  refine runs_of_runS_eq hexec ?_ (d := (s.chip.updTrunk (fun t => { t with delivered := ds })).accept d .trunk (parseRequest f.payload) (some f.epoch))
    (by rw [hpond]; exact hg) ⟨by rw [htrunk], hord, e, hq, he⟩
  rw [if_pos ha, ht]
  rfl

/-! ### A stream frame consumed (R121) -/

theorem strm?_of_find {id : BitVec 16} {st : Strm} (h : strmAt c id = some st) (hc : st.closed = false) : c.strm? id = some st := by
  unfold strmAt at h
  unfold Chip.strm?
  generalize c.svc.streams = l at h ⊢
  induction l with
  | nil => cases h
  | cons x t ih =>
    rw [List.find?_cons] at h ⊢
    cases hx : x.id == id with
    | false =>
      rw [hx] at h
      exact ih h
    | true =>
      rw [hx] at h
      cases h
      rw [hc]
      rfl

theorem streamIn_arrives {st : Strm} (hst : strmAt c st.id = some st) (he : f.epoch = (c.ports[st.port]).epoch)
    (hs : serial (BitVec.ofNat 32 (st.received + f.length.toNat)) st.credit ≠ .ahead) : (c.streamIn st f).trunk = c.trunk ∧
    strmAt (c.streamIn st f) st.id = some (Strm.arrive { st with received := st.received + f.length.toNat } (f.payload.take f.length.toNat)) := by
  have heq : c.streamIn st f = (c.updStrm st.id (fun x => Strm.arrive { x with received := x.received + f.length.toNat } (f.payload.take f.length.toNat))).active := by
    unfold Chip.streamIn
    dsimp only
    rw [if_neg (not_not_intro he), if_neg (by simpa using hs)]
  have ha := active_fr (c.updStrm st.id (fun x => Strm.arrive { x with received := x.received + f.length.toNat } (f.payload.take f.length.toNat)))
  rw [heq]
  refine ⟨ha.kept.trunk (by decide), ?_⟩
  unfold strmAt
  rw [ha.kept.svc (by decide)]
  refine updStrm_at hst ?_
  unfold Strm.arrive
  split <;> rfl

theorem runs_streamFrame {id : BitVec 16} {m : LaneId} {c₁ : Chip} {st : Strm} (ha : s.chip.awake = true) (hta : s.chip.inTarn = false)
    (hstop : s.chip.strmStopped id = false) (ht : s.chip.takeDelivered (fun _ f => f.typ.toNat == ttSTREAM && f.id == id) = some ((m, f), c₁))
    (hst : strmAt s.chip id = some st) (hcl : st.closed = false) (he : f.epoch = (s.chip.ports[st.port]).epoch)
    (hs : serial (BitVec.ofNat 32 (st.received + f.length.toNat)) st.credit ≠ .ahead) :
    Runs (.streamFrameReceive id true) s (fun c => c.trunk.delivered = c₁.trunk.delivered ∧
      strmAt c id = some (Strm.arrive { st with received := st.received + f.length.toNat } (f.payload.take f.length.toNat))) := by
  obtain ⟨ds, hds⟩ := takeDelivered_taken ht
  subst hds
  have hid := strmAt_id hst
  subst hid
  obtain ⟨htrunk, hat⟩ := streamIn_arrives (c := s.chip.updTrunk (fun t => { t with delivered := ds })) (f := f) hst he hs
  have hexec : exec (.streamFrameReceive st.id true) s = execStreamFrameReceive st.id true s := rfl
  refine runs_of_run_eq hexec ?_ (d := (s.chip.updTrunk (fun t => { t with delivered := ds })).streamIn st f) ⟨by rw [htrunk], hat⟩
  have hfind : (s.chip.updTrunk (fun t => { t with delivered := ds })).strm? st.id = some st := strm?_of_find hst hcl
  rw [ha, hta, hstop, if_pos (by rfl), ht]
  dsimp only
  rw [hfind]
  rfl

/-! ### Swaps of the active lane (R119) -/

/-- A field of TRK_STATUS other than `g`, below SEQ. -/
def ApartFrom (g f : Field) : Prop := f.hi < 24 ∧ (g.hi < f.lo ∨ f.hi < g.lo)

/-- The register file is canonical and the fields of TRK_STATUS other than `g` stay. -/
def StatusKept (g : Field) (c x : Chip) : Prop := Canon x ∧ ∀ f, ApartFrom g f → x.bit .TRK_STATUS f = c.bit .TRK_STATUS f

theorem setActive_active (hc : Canon c) (l : LaneId) : (c.setActive l).active? = l ∧ StatusKept F.TRK_STATUS_ACTIVE c (c.setActive l) := by
  refine ⟨?_, canon_setSt hc _ _ _, fun f hf => bit_setSt_field c hc _ _ f _ (by decide) hf.1 hf.2⟩
  unfold Chip.active? Chip.setActive
  match l with
  | 0 => exact if_neg fun h => absurd (h.symm.trans (bit_setSt_zero c hc .TRK_STATUS F.TRK_STATUS_ACTIVE (by decide) (by decide))) (by decide)
  | 1 => exact if_pos (bit_setSt_one c hc _ _ (by decide) (by decide))

theorem swapRoles_active (hc : Canon c) (l : LaneId) : (c.swapRoles l).active? = l ∧ StatusKept F.TRK_STATUS_ACTIVE c (c.swapRoles l) := by
  unfold Chip.swapRoles
  dsimp only
  split
  · exact setActive_active hc l
  · exact setActive_active (c := c.updTrunk _) ⟨hc.regs, hc.flash, hc.blocks⟩ l

theorem endSwap_status (hc : Canon c) : c.endSwap.bit .TRK_STATUS F.TRK_STATUS_SWAP_PEND = false ∧ StatusKept F.TRK_STATUS_SWAP_PEND c c.endSwap := by
  have hcu : Canon (c.updTrunk (fun t => { t with swap := none })) := ⟨hc.regs, hc.flash, hc.blocks⟩
  exact ⟨bit_setSt_zero _ hcu _ _ (by decide) (by decide), canon_setSt hcu _ _ _, fun f hf => bit_setSt_field _ hcu _ _ f _ (by decide) hf.1 hf.2⟩

theorem degraded_eq_bit (c : Chip) (l : LaneId) : c.degraded l = c.bit .TRK_STATUS ⟨10 + l.val, 10 + l.val, .ro⟩ := bitAt_eq_bit _ _ _ _ _

theorem degraded_apart (l : LaneId) : ApartFrom F.TRK_STATUS_ACTIVE ⟨10 + l.val, 10 + l.val, .ro⟩ ∧ ApartFrom F.TRK_STATUS_SWAP_PEND ⟨10 + l.val, 10 + l.val, .ro⟩ := by
  have hl := l.isLt
  refine ⟨⟨?_, .inl ?_⟩, ?_, .inl ?_⟩ <;> simp only [F.TRK_STATUS_ACTIVE, F.TRK_STATUS_SWAP_PEND] <;> omega

theorem swapDegraded_healthy (h : c.degraded c.active? = false) : c.swapDegraded = c := by
  unfold Chip.swapDegraded
  rw [h, Bool.and_false]
  rfl

theorem status_of_rd {x : Chip} (h : x.rd .TRK_STATUS = c.rd .TRK_STATUS) : x.active? = c.active? ∧ (∀ l, x.degraded l = c.degraded l) ∧
    ∀ f, x.bit .TRK_STATUS f = c.bit .TRK_STATUS f :=
  ⟨by unfold Chip.active?; rw [bit_of_rd h], fun _ => bitAt_of_rd h _ _, fun f => bit_of_rd h f⟩

theorem swapRoles_degraded (hc : Canon c) (l k : LaneId) : (c.swapRoles l).degraded k = c.degraded k := by
  rw [degraded_eq_bit, degraded_eq_bit, (swapRoles_active hc l).2.2 _ (degraded_apart k).1]

/-- A swap this side asked for ends, where one is pending. -/
theorem dropSwap_status (hc : Canon c) {w : SwapPend} (h : c.trunk.swap = some w) :
    c.dropSwap.bit .TRK_STATUS F.TRK_STATUS_SWAP_PEND = false ∧ StatusKept F.TRK_STATUS_SWAP_PEND c c.dropSwap := by
  obtain ⟨hp, hcan, hk⟩ := endSwap_status hc
  have heq : c.dropSwap = c.endSwap.answerOpt w.req rTIMEOUT := by
    unfold Chip.dropSwap
    rw [h]
  have hf : Fr (keeping [] [.TRK_STATUS]) c.endSwap (c.endSwap.answerOpt w.req rTIMEOUT) := by apply Chip.answerOpt_fr (Fr.refl _ _) <;> simp
  obtain ⟨-, -, hst⟩ := status_of_rd (hf.kept.regs .TRK_STATUS (by simp))
  rw [heq]
  exact ⟨(hst _).trans hp, hf.canon hcan, fun f h => (hst f).trans (hk f h)⟩

/-- What a swap request agreed to leaves: the lane asked for is active, and no swap of this side is pending. -/
theorem runs_swapReq {m : LaneId} {c₁ : Chip} (hc : Canon s.chip) (ht : s.chip.takeLane l lfSWAP_REQ = some ((m, f), c₁)) (hup : s.chip.up l = true)
    (hv : s.chip.swapVerdict (leAt f.payload 1 1) = 0) (hd : s.chip.degraded (Fin.ofNat 2 (leAt f.payload 1 1)) = false) :
    Runs (.swapReqReceive l) s (fun c => c.active? = Fin.ofNat 2 (leAt f.payload 1 1) ∧
      c.bit .TRK_STATUS F.TRK_STATUS_SWAP_PEND = (s.chip.bit .TRK_STATUS F.TRK_STATUS_SWAP_PEND && s.chip.trunk.swap.isNone)) := by
  obtain ⟨ds, hds⟩ := takeLane_taken ht
  obtain ⟨k, hk⟩ : ∃ k : LaneId, Fin.ofNat 2 (leAt f.payload 1 1) = k := ⟨_, rfl⟩
  have hc1 : Canon c₁ := by
    rw [hds]
    exact ⟨hc.regs, hc.flash, hc.blocks⟩
  have hsame : c₁.inTarn = s.chip.inTarn ∧ c₁.up l = s.chip.up l ∧ c₁.swapVerdict (leAt f.payload 1 1) = s.chip.swapVerdict (leAt f.payload 1 1) ∧
      c₁.trunk.swap = s.chip.trunk.swap ∧ c₁.rd .TRK_STATUS = s.chip.rd .TRK_STATUS := by
    rw [hds]
    exact ⟨rfl, rfl, rfl, rfl, rfl⟩
  obtain ⟨hst, hsu, hsv, hss, hsr⟩ := hsame
  have htarn : s.chip.inTarn = false := by
    unfold Chip.swapVerdict at hv
    split at hv
    · cases hv
    · split at hv
      · cases hv
      next h => exact (show s.chip.trunk.failover = none ∧ s.chip.inTarn = false by simpa using h).2
  obtain ⟨w, hw⟩ : ∃ w, (if (0 : Nat) = 0 ∧ c₁.trunk.swap.isSome then c₁.dropSwap else c₁) = w := ⟨_, rfl⟩
  have hwst : Canon w ∧ w.bit .TRK_STATUS F.TRK_STATUS_SWAP_PEND = (s.chip.bit .TRK_STATUS F.TRK_STATUS_SWAP_PEND && s.chip.trunk.swap.isNone) ∧
      ∀ j, w.degraded j = s.chip.degraded j := by
    obtain ⟨-, hdg, hbt⟩ := status_of_rd hsr
    rw [← hw, ← hss]
    cases h : c₁.trunk.swap with
    | none => exact ⟨hc1, (hbt _).trans (Bool.and_true _).symm, hdg⟩
    | some x =>
      obtain ⟨hp, hcan, hkept⟩ := dropSwap_status hc1 h
      exact ⟨hcan, hp.trans (Bool.and_false _).symm, fun j => by
        rw [if_pos ⟨rfl, rfl⟩, degraded_eq_bit, hkept _ (degraded_apart j).2, ← degraded_eq_bit, hdg]⟩
  obtain ⟨hwc, hwp, hwd⟩ := hwst
  obtain ⟨x, hx⟩ : ∃ x, (w.sendLane l lfSWAP_ACK l.val 0 f.seq 0#64).2 = x := ⟨_, rfl⟩
  have hxf : Fr (keeping [] [.TRK_STATUS]) w x := hx ▸ by apply Chip.sendLane_fr2 (Fr.refl _ w); simp
  obtain ⟨-, hxd, hxb⟩ := status_of_rd (hxf.kept.regs .TRK_STATUS (by simp))
  have hxc : Canon x := hxf.canon hwc
  obtain ⟨hya, hyc, hyk⟩ := swapRoles_active hxc k
  obtain ⟨z, hz⟩ : ∃ z, (if s.chip.trunk.swap.isSome then (x.swapRoles k).post ((x.swapRoles k).evLane 0x0144 k [leAt f.payload 1 1]) else (x.swapRoles k).swapDone 0) = z :=
    ⟨_, rfl⟩
  have hzf : z.rd .TRK_STATUS = (x.swapRoles k).rd .TRK_STATUS := by
    rw [← hz]
    split <;> exact (fr_post (ps := []) (rs := [.TRK_STATUS]) (x.swapRoles k) _ (by simp)).kept.regs .TRK_STATUS (by simp)
  obtain ⟨hza, hzd, hzb⟩ := status_of_rd hzf
  have hdeg : z.degraded z.active? = false := by rw [hzd, hza, hya, swapRoles_degraded hxc, hxd, hwd, ← hk, hd]
  have hexec : exec (.swapReqReceive l) s = execSwapReqReceive l s := rfl
  refine runs_of_run_eq hexec (d := z) ?_ ⟨hza.trans (hya.trans hk.symm), ?_⟩
  · rw [ht]
    dsimp only
    rw [hst, htarn, hsu, hup, hsv, hv, if_neg (by decide), if_neg (by simp), hw, hx, hk, hss, hz, swapDegraded_healthy hdeg]
  · rw [hzb, hyk _ ⟨by decide, by decide⟩, hxb, hwp]

/-- What the answer to a swap request leaves: the swap is over, and an agreed one moved the active lane. -/
theorem runs_swapAck {m : LaneId} {c₁ : Chip} {w : SwapPend} (hc : Canon s.chip) (ht : s.chip.takeLane l lfSWAP_ACK = some ((m, f), c₁))
    (hw : s.chip.trunk.swap = some w) (hseq : leAt f.payload 4 4 = w.seq.toNat) (hd : leAt f.payload 2 1 ≠ 0 ∨ s.chip.degraded w.lane = false) :
    Runs (.swapAckReceive l) s (fun c => c.bit .TRK_STATUS F.TRK_STATUS_SWAP_PEND = false ∧
      c.active? = if leAt f.payload 2 1 = 0 then w.lane else s.chip.active?) := by
  obtain ⟨ds, hds⟩ := takeLane_taken ht
  obtain ⟨st, hst⟩ : ∃ n, leAt f.payload 2 1 = n := ⟨_, rfl⟩
  have hc1 : Canon c₁ := by
    rw [hds]
    exact ⟨hc.regs, hc.flash, hc.blocks⟩
  have hswap : c₁.trunk.swap = some w := by rw [hds]; exact hw
  obtain ⟨h1a, h1d, -⟩ := status_of_rd (c := s.chip) (x := c₁) (by rw [hds]; rfl)
  obtain ⟨h2p, h2c, h2k⟩ := endSwap_status hc1
  have h2a : c₁.endSwap.active? = s.chip.active? := by
    rw [← h1a]
    unfold Chip.active?
    rw [h2k _ ⟨by decide, by decide⟩]
  have h2d : ∀ k, c₁.endSwap.degraded k = s.chip.degraded k := fun k => by
    rw [degraded_eq_bit, h2k _ (degraded_apart k).2, ← degraded_eq_bit, h1d]
  obtain ⟨x, hx⟩ : ∃ x, (if st = 0 then c₁.endSwap.swapRoles w.lane else c₁.endSwap) = x := ⟨_, rfl⟩
  have hxs : x.bit .TRK_STATUS F.TRK_STATUS_SWAP_PEND = false ∧ x.active? = (if st = 0 then w.lane else s.chip.active?) ∧ ∀ k, x.degraded k = s.chip.degraded k := by
    rw [← hx]
    split
    · obtain ⟨ha, hcan, hk⟩ := swapRoles_active h2c w.lane
      exact ⟨(hk _ ⟨by decide, by decide⟩).trans h2p, ha, fun k => (swapRoles_degraded h2c _ k).trans (h2d k)⟩
    · exact ⟨h2p, h2a, h2d⟩
  obtain ⟨hxp, hxa, hxd⟩ := hxs
  obtain ⟨z, hz⟩ : ∃ z, (x.swapDone st).answerOpt w.req (if st = 0 then rOK else rBAD_ARG) = z := ⟨_, rfl⟩
  have hzf : Fr (keeping [] [.TRK_STATUS]) x z := by
    rw [← hz]
    apply Chip.answerOpt_fr (fr_post x _ (by simp)) <;> simp
  obtain ⟨hza, hzd, hzb⟩ := status_of_rd (hzf.kept.regs .TRK_STATUS (by simp))
  have hdeg : (if st = 0 then z.swapDegraded else z) = z := by
    split
    next h => exact swapDegraded_healthy (by rw [hzd, hza, hxd, hxa, if_pos h]; exact hd.resolve_left (fun hn => hn (hst.trans h)))
    next => rfl
  have hexec : exec (.swapAckReceive l) s = execSwapAckReceive l s := rfl
  refine runs_of_run_eq hexec (d := z) ?_ ⟨(hzb _).trans hxp, hst ▸ hza.trans hxa⟩
  rw [ht]
  dsimp only
  rw [hswap]
  dsimp only
  rw [if_neg (not_not_intro hseq), hst, hx, hz, hdeg]

/-! ### An ECHO reply, and the end of Tarn (R118, R115) -/

theorem syncTrunk_trunk (c : Chip) : c.syncTrunk.trunk = c.trunk := setSt_trunk _ _ _ _

theorem sendLane_tarn (c : Chip) (l : LaneId) (a b k : Nat) (q : BitVec 32) (t : BitVec 64) : (c.sendLane l a b k q t).2.trunk.tarn = c.trunk.tarn := by
  obtain ⟨tx, htx⟩ := takeSeq_trunk c.trunk 4 l.val
  have htarn : ((c.trunk.takeSeq 4 l.val).2).tarn = c.trunk.tarn := by rw [htx]
  exact htarn

theorem leaveTarn_left (c : Chip) (l : LaneId) : (c.leaveTarn l).inTarn = false ∧ RxKept c (c.leaveTarn l) := by
  unfold Chip.leaveTarn
  split
  next h => exact ⟨by rw [Chip.inTarn, h]; rfl, .refl c⟩
  next x h =>
    extract_lets now o back c1 c2 c3 c4 c5
    have h1 : c1.trunk.tarn = none ∧ RxKept c c1 := ⟨rfl, rfl, rfl, rfl, fun _ => rfl, fun _ => rfl⟩
    have h2 : c2.trunk.tarn = none ∧ RxKept c1 c2 := ⟨h1.1, updLane_rxKept _ _ _ fun _ => ⟨rfl, rfl⟩⟩
    have h3 : c3.trunk.tarn = none ∧ RxKept c2 c3 := by
      unfold c3
      split
      · exact ⟨h2.1, updLane_rxKept _ _ _ fun _ => ⟨rfl, rfl⟩⟩
      · exact ⟨h2.1, .refl _⟩
    have h4 : c4.trunk.tarn = none ∧ RxKept c3 c4 := ⟨(sendLane_tarn _ _ _ _ _ _ _).trans h3.1, sendLane_rxKept _ _ _ _ _ _ _⟩
    have h5 : c5.trunk = c4.trunk := by
      unfold c5
      split
      · exact setSt_trunk _ _ _ _
      · rfl
    have h6 : ((c5.post (c5.evLane 0x0141 l [l.val])).syncTrunk).trunk = c4.trunk :=
      (syncTrunk_trunk _).trans (((fr_post (ps := [.trunk]) (rs := []) c5 _ (by simp)).kept.trunk (by simp)).trans h5)
    refine ⟨?_, h1.2.trans (h2.2.trans (h3.2.trans (h4.2.trans (rxKept_of_trunk h6))))⟩
    rw [Chip.inTarn, h6, h4.1]
    rfl

theorem runs_echoReply {m : LaneId} {c₁ : Chip} (ht : s.chip.takeLane l lfECHO_REPLY = some ((m, f), c₁))
    (hw : (s.chip.sei.time - BitVec.ofNat 64 (leAt f.payload 8 8)).toNat ≤ s.chip.get .TRK_CFG2 F.TRK_CFG2_LAT_WARN) :
    Runs (.echoReplyReceive l) s (fun c => (c.trunk.lanes[l]).rtt = (s.chip.sei.time - BitVec.ofNat 64 (leAt f.payload 8 8)).toNat ∧
      (s.chip.up l = true → c.inTarn = false)) := by
  obtain ⟨ds, hds⟩ := takeLane_taken ht
  obtain ⟨n, hn⟩ : ∃ n, (s.chip.sei.time - BitVec.ofNat 64 (leAt f.payload 8 8)).toNat = n := ⟨_, rfl⟩
  obtain ⟨w, hwdef⟩ : ∃ w, c₁.updLane l (fun x => { x with rtt := n }) = w := ⟨_, rfl⟩
  have hws : (w.trunk.lanes[l]).rtt = n ∧ w.get .TRK_CFG2 F.TRK_CFG2_LAT_WARN = s.chip.get .TRK_CFG2 F.TRK_CFG2_LAT_WARN ∧ w.up l = s.chip.up l ∧
      c₁.sei = s.chip.sei := by
    rw [← hwdef, hds]
    exact ⟨by rw [updLane_same], rfl, rfl, rfl⟩
  obtain ⟨hrtt, hcfg, hup, hsei⟩ := hws
  have hexec : exec (.echoReplyReceive l) s = execEchoReplyReceive l s := rfl
  rw [hn] at hw ⊢
  refine runs_of_run_eq hexec (d := if w.inTarn && w.up l then w.leaveTarn l else w) ?_ ?_
  · rw [ht]
    dsimp only
    rw [hsei, hn, hwdef, hcfg, if_neg (Nat.not_lt.2 hw)]
  · obtain ⟨hleft, hkept⟩ := leaveTarn_left w l
    split
    next h => exact ⟨(hkept.rtt l).trans hrtt, fun _ => hleft⟩
    next h => exact ⟨hrtt, fun hu => by simpa [hup, hu] using h⟩

/-! ### A WAKE frame (R336) -/

theorem runs_wakeFrame {m : LaneId} {c₁ : Chip} (ha : s.chip.awake = true)
    (ht : s.chip.takeDelivered (fun x f => x == l && f.typ.toNat == ttWAKE) = some ((m, f), c₁)) (hk : s.chip.wakeKey f = true) :
    Runs (.wakeFrameReceive l) s (fun c => c.trunk.delivered = c₁.trunk.delivered ∧
      (s.chip.hasDest l = true → (c.trunk.lanes[l]).hist.head?.map (fun h => (h.2.typ, h.2.flags)) = some (ttWAKE, tfACK)) ∧
      (s.chip.hasDest l = false → ∃ f, (c.trunk.lanes[l]).waiting = (s.chip.trunk.lanes[l]).waiting ++ [f] ∧
        f.typ = ttWAKE ∧ f.flags = tfACK)) := by
  obtain ⟨ds, hds⟩ := takeDelivered_taken ht
  have hsame : c₁.wakeKey f = s.chip.wakeKey f ∧ c₁.hasDest l = s.chip.hasDest l ∧ c₁.trunk.lanes[l] = s.chip.trunk.lanes[l] := by
    rw [hds]
    exact ⟨rfl, rfl, rfl⟩
  obtain ⟨hkey, hdest, hlane⟩ := hsame
  have hexec : exec (.wakeFrameReceive l) s = execWakeFrameReceive l s := rfl
  refine runs_of_run_eq hexec (d := c₁.sendWakeAck l) ?_ ?_
  · rw [if_pos ha, ht]
    dsimp only
    rw [hkey, hk]
    rfl
  · unfold Chip.sendWakeAck
    dsimp only
    rw [hdest, ← hlane]
    split
    next h =>
      refine ⟨(emit_rxKept _ _ _).delivered, fun _ => ?_, fun hn => absurd (h.symm.trans hn) (by decide)⟩
      rw [emit_hist_head]
      rfl
    next h => exact ⟨rfl, fun hn => absurd hn h, fun _ => ⟨_, by rw [updLane_same], rfl, rfl⟩⟩

end

/-- Settles O5: a frame that passes is delivered or counted, and each consumer takes the first delivered frame of its kind and acts on it. -/
theorem trunkReceiving : Obligations.TrunkReceiving := by
  unfold Obligations.TrunkReceiving
  intro s hc
  refine ⟨?_, ?_, fun l f hup ha hf hn => runs_receive_bad hc hup ha hf hn, ?_, ?_, ?_, ?_, ?_, ?_⟩
  · exact fun l f h1 h2 h3 h4 h5 h6 h7 h8 h9 h10 ht hfit hoff => runs_receive_lane ⟨h1, h2, h3, h4, h5, h6, h7, h8, h9, h10, hfit⟩ ht hoff
  · exact fun l f x h1 h2 h3 h4 h5 h6 h7 h8 h9 h10 ht hfit hoff hg hx hl hb =>
      runs_receive_next ⟨h1, h2, h3, h4, h5, h6, h7, h8, h9, h10, hfit⟩ ht hoff hg hx hl hb
  · exact fun d m f c₁ ha ht hp hr hl ho he hg hm => runs_mbxReq ha ht hp hr hl ho he hg hm
  · exact fun id m f c₁ st ha htn hs ht hst hcl he hcr => runs_streamFrame ha htn hs ht hst hcl he hcr
  · exact fun l m f c₁ ht hup hv hd => runs_swapReq hc ht hup hv hd
  · exact fun l m f c₁ w ht hw hs hd => runs_swapAck hc ht hw hs hd
  · exact fun l m f c₁ ht hw => runs_echoReply ht hw
  · exact fun l m f c₁ ha ht hk => runs_wakeFrame ha ht hk

end Sys2Proof.Proofs

namespace Sys2Proof.Proofs

open Sys2Proof.Machine Sys2Proof.Laws

/-! Lanes up, lost, degraded and healthy, failover, the swap's timer and the reorder hold (05 R108, R109, R114 to R119; 16 R336). -/

section

variable {s : State} {c : Chip} {l : LaneId}

/-! ### The UP and DEGR bits of TRK_STATUS -/

/-- The UP bit of a lane in TRK_STATUS. -/
def upField (l : LaneId) : Field := ⟨2 + l.val, 2 + l.val, .ro⟩

/-- The DEGR bit of a lane in TRK_STATUS. -/
def degrField (l : LaneId) : Field := ⟨10 + l.val, 10 + l.val, .ro⟩

theorem up_eq_bit (c : Chip) (l : LaneId) : c.up l = c.bit .TRK_STATUS (upField l) := bitAt_eq_bit _ _ _ _ _

/-- The register file stays canonical, and no lane comes up or goes down, degrades or heals. -/
structure LinksKept (c x : Chip) : Prop where
  canon : Canon x
  up : ∀ k, x.up k = c.up k
  degraded : ∀ k, x.degraded k = c.degraded k

theorem LinksKept.refl (hc : Canon c) : LinksKept c c := ⟨hc, fun _ => rfl, fun _ => rfl⟩

theorem LinksKept.trans {a b d : Chip} (h : LinksKept a b) (h' : LinksKept b d) : LinksKept a d :=
  ⟨h'.canon, fun k => (h'.up k).trans (h.up k), fun k => (h'.degraded k).trans (h.degraded k)⟩

theorem links_of_rd {x : Chip} (hx : Canon x) (h : x.rd .TRK_STATUS = c.rd .TRK_STATUS) : LinksKept c x :=
  ⟨hx, fun _ => bitAt_of_rd h _ _, fun _ => bitAt_of_rd h _ _⟩

theorem links_of_fr {x : Chip} (hc : Canon c) (h : Fr (keeping [] [.TRK_STATUS]) c x) : LinksKept c x :=
  links_of_rd (h.canon hc) (h.kept.regs .TRK_STATUS (by simp))

/-- A field of TRK_STATUS that holds neither UP nor DEGR bits. -/
def OffLinks (g : Field) : Prop := g.hi < 2 ∨ (3 < g.lo ∧ g.hi < 10) ∨ 11 < g.lo

theorem links_of_bits {g : Field} {x : Chip} (hg : OffLinks g) (hx : Canon x) (h : ∀ f, ApartFrom g f → x.bit .TRK_STATUS f = c.bit .TRK_STATUS f) :
    LinksKept c x := by
  have hupF : ∀ k : LaneId, ApartFrom g (upField k) := fun k => by
    have := k.isLt
    unfold OffLinks at hg
    unfold ApartFrom upField
    simp only
    omega
  have hdegrF : ∀ k : LaneId, ApartFrom g (degrField k) := fun k => by
    have := k.isLt
    unfold OffLinks at hg
    unfold ApartFrom degrField
    simp only
    omega
  refine ⟨hx, fun k => ?_, fun k => ?_⟩
  · rw [up_eq_bit, up_eq_bit, h _ (hupF k)]
  · rw [degraded_eq_bit, degraded_eq_bit]
    exact h _ (hdegrF k)

theorem setSt_links (hc : Canon c) {g : Field} (hf : Field.fits g) (hg : OffLinks g) (v : Nat) : LinksKept c (c.setSt .TRK_STATUS g v) :=
  links_of_bits hg (canon_setSt hc _ _ _) fun f h => bit_setSt_field c hc _ _ f v hf h.1 h.2

theorem record_links (hc : Canon c) {g : Field} (hf : Field.fits g) (hg : OffLinks g) : LinksKept c (c.record .TRK_STATUS g) :=
  links_of_bits hg (canon_record hc _ _) fun f h => bit_record_field c hc _ _ f hf h.1 h.2

theorem syncTrunk_links (hc : Canon c) : LinksKept c c.syncTrunk := setSt_links hc (by decide) (.inr (.inr (by decide))) _

theorem setActive_links (hc : Canon c) (l : LaneId) : LinksKept c (c.setActive l) := setSt_links hc (by decide) (.inr (.inl (by decide))) _

theorem endSwap_links (hc : Canon c) : LinksKept c c.endSwap :=
  have hcan : Canon (c.updTrunk (fun t => { t with swap := none })) := ⟨hc.regs, hc.flash, hc.blocks⟩
  have hset := setSt_links hcan (g := F.TRK_STATUS_SWAP_PEND) (by decide) (.inr (.inl (by decide))) 0
  ⟨hset.canon, hset.up, hset.degraded⟩

theorem dropSwap_links (hc : Canon c) : LinksKept c c.dropSwap := by
  unfold Chip.dropSwap
  split
  · exact .refl hc
  · exact (endSwap_links hc).trans (links_of_fr (endSwap_links hc).canon (by apply Chip.answerOpt_fr (Fr.refl _ _) <;> simp))

theorem askSwap_links (hc : Canon c) (q : Option ReqId) : LinksKept c (c.askSwap q) := by
  obtain ⟨f, hf, heq⟩ := askSwap_eq c q
  obtain ⟨d, hd⟩ : ∃ d, f.2.updTrunk (fun t => { t with swap := some ⟨otherLane c.active?, f.1, f.2.clk.now + ms 1, q⟩ }) = d := ⟨_, rfl⟩
  have h1 : LinksKept c f.2 := links_of_fr hc (by
    rw [hf]
    apply Chip.sendLane_fr2 (Fr.refl _ c)
    simp)
  have h2 : LinksKept f.2 d := hd ▸ links_of_rd ⟨h1.canon.regs, h1.canon.flash, h1.canon.blocks⟩ rfl
  rw [heq, hd]
  exact (h1.trans h2).trans (setSt_links h2.canon (by decide) (.inr (.inl (by decide))) _)

theorem swapDegraded_links (hc : Canon c) : LinksKept c c.swapDegraded := by
  unfold Chip.swapDegraded
  split
  · exact askSwap_links hc none
  · exact .refl hc

theorem postFault_links (hc : Canon c) (src : FaultSrc) (e : Event) : LinksKept c (c.postFault src e) :=
  links_of_fr hc (by apply Chip.postFault_fr (Fr.refl _ c) <;> simp)

theorem each_links {α : Type} {g : Chip → α → Chip} (h : ∀ c x, Canon c → LinksKept c (g c x)) : ∀ (l : List α) {c : Chip}, Canon c → LinksKept c (c.each l g)
  | [], _, hc => .refl hc
  | x :: t, c, hc => (h c x hc).trans (each_links h t (h c x hc).canon)

theorem enterTarn_links (hc : Canon c) (k : Nat) : LinksKept c (c.enterTarn k) := by
  unfold Chip.enterTarn
  split
  · exact .refl hc
  · extract_lets c1 entry wait c2 c3 c4 c5
    have h1 : LinksKept c c1 := dropSwap_links hc
    have h2 : LinksKept c1 c4 := links_of_fr h1.canon (by
      refine Fr.each (Chip.setF_fr (Chip.updTrunk_fr (Fr.refl _ c1) ?_) ?_) fun _ _ h => ?_
      · simp
      · simp
      · apply Chip.spillFrame_fr h <;> simp)
    have h3 : LinksKept c4 (c4.record .TRK_STATUS F.TRK_STATUS_TARN_SEEN) := record_links h2.canon (by decide) (.inl (by decide))
    have h5 : LinksKept c c5 := ((h1.trans h2).trans h3).trans (syncTrunk_links h3.canon)
    exact h5.trans (postFault_links h5.canon _ _)

theorem failOver_links (hc : Canon c) (l o : LaneId) : LinksKept c (c.failOver l o) := by
  unfold Chip.failOver
  extract_lets now c1 c2 c3 c4
  have h3 : LinksKept c c3 := links_of_fr hc (by
    unfold c3
    apply Chip.moveWaiting_fr
    · apply Chip.sendLane_fr2
      · exact Chip.updLane_fr (Chip.updTrunk_fr (Fr.refl _ c) (by simp)) (by simp)
      · simp
    · simp)
  have h4 : LinksKept c3 c4 := by
    unfold c4
    split
    · exact setActive_links h3.canon o
    · exact .refl h3.canon
  have h5 : LinksKept c4 (c4.record .TRK_STATUS F.TRK_STATUS_FAILOVER_SEEN) := record_links h4.canon (by decide) (.inl (by decide))
  exact ((h3.trans h4).trans h5).trans (syncTrunk_links h5.canon)

/-- A lane's UP bit reads as set, and the other lane's stays. -/
theorem setUp_sets (hc : Canon c) (l : LaneId) (b : Bool) : Canon (c.setUp l b) ∧ (c.setUp l b).up l = b ∧
    (c.setUp l b).up (otherLane l) = c.up (otherLane l) := by
  refine ⟨canon_setSt hc _ _ _, bitAt_setStBit_same c hc _ _ _ b (by have := l.isLt; simp only [F.TRK_STATUS_UP_TA]; omega), ?_⟩
  rw [up_eq_bit, up_eq_bit]
  refine bit_setSt_field c hc _ _ _ _ ?_ ?_ ?_ <;> match l with
    | 0 => decide
    | 1 => decide

theorem setDegr_sets (hc : Canon c) (l : LaneId) (b : Bool) : Canon (c.setDegr l b) ∧ (c.setDegr l b).degraded l = b :=
  ⟨canon_setSt hc _ _ _, bitAt_setStBit_same c hc _ _ _ b (by have := l.isLt; simp only [F.TRK_STATUS_DEGR_TA]; omega)⟩

/-! ### Lanes up and lost -/

theorem runs_laneUp (hc : Canon s.chip) (hu : s.chip.up l = false) (he : s.chip.laneEn l = true) (hh : (s.chip.trunk.lanes[l]).held = false)
    (hp : s.chip.noPll = false) (hd : s.chip.pwr.st ≠ .deep) (ho : s.chip.pwr.st ≠ .off) :
    Runs (.laneUp l) s (fun c => c.up l = true ∧ c.up (otherLane l) = s.chip.up (otherLane l)) := by
  have hexec : exec (.laneUp l) s = execLaneUp l s := rfl
  refine runs_of_run_eq hexec (d := s.chip.laneUp l) ?_ ?_
  · rw [hu, he, hh, hp, beq_eq_false_iff_ne.2 hd, beq_eq_false_iff_ne.2 ho]
    rfl
  · obtain ⟨hcan, hl, hother⟩ := setUp_sets hc l true
    unfold Chip.laneUp
    extract_lets o now x
    have hx : LinksKept (s.chip.setUp l true) x := links_of_rd ⟨hcan.regs, hcan.flash, hcan.blocks⟩ rfl
    split
    · have h := syncTrunk_links hx.canon
      have hend := (hx.trans h).trans (swapDegraded_links h.canon)
      exact ⟨(hend.up l).trans hl, (hend.up _).trans hother⟩
    next y z _ =>
      have hz : LinksKept x z := links_of_rd ⟨hx.canon.regs, hx.canon.flash, hx.canon.blocks⟩ rfl
      have hend := (hx.trans hz).trans (syncTrunk_links hz.canon)
      exact ⟨(hend.up l).trans hl, (hend.up _).trans hother⟩

/-- A lost lane is down, and nothing that follows its loss brings the other up or down. -/
theorem loseLane_down (hc : Canon c) (hu : c.up l = true) (k : Nat) (t : Option Nat) :
    (c.loseLane l k t).up l = false ∧ (c.loseLane l k t).up (otherLane l) = c.up (otherLane l) := by
  obtain ⟨hcan, hl, hother⟩ := setUp_sets hc l false
  suffices h : LinksKept (c.setUp l false) (c.loseLane l k t) from ⟨(h.up l).trans hl, (h.up _).trans hother⟩
  unfold Chip.loseLane
  rw [hu, if_neg (by decide)]
  extract_lets o c1 c2 c3 again c4
  have h1 : LinksKept (c.setUp l false) c1 := links_of_rd ⟨hcan.regs, hcan.flash, hcan.blocks⟩ rfl
  have h2 : LinksKept c1 c2 := postFault_links h1.canon _ _
  have h3 : LinksKept (c.setUp l false) c3 := (h1.trans h2).trans (dropSwap_links h2.canon)
  split
  · exact h3.trans (syncTrunk_links h3.canon)
  split
  · exact h3.trans (failOver_links h3.canon _ _)
  split
  · have h : LinksKept c3 (c3.updTrunk (fun t => { t with failover := none, lossAt := none })) :=
      links_of_rd ⟨h3.canon.regs, h3.canon.flash, h3.canon.blocks⟩ rfl
    exact (h3.trans h).trans (syncTrunk_links h.canon)
  · have h4 : LinksKept c3 c4 := by
      unfold c4
      split
      · exact syncTrunk_links h3.canon
      split
      · exact enterTarn_links h3.canon _
      split
      · have h : LinksKept c3 (c3.escalate 1 2 l.val 0x0140) := links_of_fr h3.canon (by apply Chip.escalate_fr (Fr.refl _ c3) <;> simp)
        exact h.trans (enterTarn_links h.canon _)
      · exact enterTarn_links h3.canon _
    have h := h3.trans h4
    split
    · exact h.trans (links_of_fr h.canon (by apply Chip.respill_fr (Fr.refl _ c4) <;> simp))
    · exact h

theorem runs_laneLoss (hc : Canon s.chip) (hu : s.chip.up l = true) (k : LossCause) :
    Runs (.laneLossDeclared l k) s (fun c => c.up l = false ∧ c.up (otherLane l) = s.chip.up (otherLane l)) :=
by
  have hexec : exec (.laneLossDeclared l k) s = execLaneLossDeclared l k s := rfl
  exact runs_of_run hexec (loseLane_down hc hu _ _)

/-! ### Failover's end, and a lane back (R114, R115) -/

theorem emit_failover (c : Chip) (l : LaneId) (f : TxFrame) : (c.emit l f).trunk.failover = c.trunk.failover := rfl

theorem each_trunkKept {α β : Type} {π : Trunk → β} {g : Chip → α → Chip} (h : ∀ c x, π (g c x).trunk = π c.trunk) :
    ∀ (l : List α) (c : Chip), π (c.each l g).trunk = π c.trunk
  | [], _ => rfl
  | x :: t, c => (each_trunkKept (π := π) h t (g c x)).trans (h c x)

theorem histCleared (c : Chip) (l : LaneId) (e : Chip → Event) (h : c.trunk.failover = none) :
    let d := c.updLane l (fun x => { x with hist := [] })
    (d.post (e d)).trunk.failover = none ∧ ((d.post (e d)).trunk.lanes[l]).hist = [] := by
  intro d
  have hpost : (d.post (e d)).trunk = d.trunk := (fr_post (ps := [.trunk]) (rs := []) d _ (by simp)).kept.trunk (by simp)
  rw [hpost]
  refine ⟨h, ?_⟩
  unfold d
  rw [updLane_same]

theorem runs_failoverComplete {a : Nat} (hf : s.chip.trunk.failover = some (l, a)) (hu : s.chip.up (otherLane l) = true) :
    Runs .failoverComplete s (fun c => c.trunk.failover = none ∧ (c.trunk.lanes[l]).hist = []) := by
  have hexec : exec .failoverComplete s = execFailoverComplete s := rfl
  refine runs_of_run hexec ?_
  dsimp only
  rw [hf]
  dsimp only
  split
  next h => exact absurd (Bool.not_eq_true' _ ▸ h : s.chip.up (otherLane l) = false) (by rw [hu]; decide)
  next =>
    refine histCleared _ l (fun d => d.evLane 0x0142 l [l.val, d.clk.now - a]) ?_
    split
    · exact (each_trunkKept (π := Trunk.failover) (fun c f => emit_failover c (otherLane l) f) _ _).trans rfl
    · rfl

theorem updLane_backAt {g : Lane → Lane} (h : ∀ x, (g x).backAt = x.backAt) (c : Chip) (l k : LaneId) :
    ((c.updLane l g).trunk.lanes[k]).backAt = (c.trunk.lanes[k]).backAt := by
  by_cases hk : k = l
  · rw [hk, updLane_same, h]
  · rw [updLane_other _ _ hk]

theorem emit_backAt (c : Chip) (l k : LaneId) (f : TxFrame) : ((c.emit l f).trunk.lanes[k]).backAt = (c.trunk.lanes[k]).backAt := by
  unfold Chip.emit
  refine updLane_backAt ?_ c l k
  exact fun _ => rfl

theorem sendLane_backAt (c : Chip) (j k : LaneId) (a b n : Nat) (q : BitVec 32) (t : BitVec 64) :
    (((c.sendLane j a b n q t).2).trunk.lanes[k]).backAt = (c.trunk.lanes[k]).backAt := by
  obtain ⟨tx, htx⟩ := takeSeq_trunk c.trunk 4 j.val
  have hseq : (((c.updTrunk (fun _ => (c.trunk.takeSeq 4 j.val).2)).trunk.lanes[k])).backAt = (c.trunk.lanes[k]).backAt := by
    rw [htx]
    rfl
  exact (emit_backAt _ j k _).trans hseq

theorem askSwap_backAt (c : Chip) (q : Option ReqId) (k : LaneId) : ((c.askSwap q).trunk.lanes[k]).backAt = (c.trunk.lanes[k]).backAt := by
  obtain ⟨f, hf, heq⟩ := askSwap_eq c q
  rw [heq, setSt_trunk]
  have h : (f.2.trunk.lanes[k]).backAt = (c.trunk.lanes[k]).backAt := by
    rw [hf]
    exact sendLane_backAt c _ k _ _ _ _ _
  exact h

theorem swapDegraded_backAt (c : Chip) (k : LaneId) : ((c.swapDegraded).trunk.lanes[k]).backAt = (c.trunk.lanes[k]).backAt := by
  unfold Chip.swapDegraded
  split
  · exact askSwap_backAt c none k
  · rfl

theorem runs_laneBackTimer {t : Nat} (ha : s.chip.awake = true) (hn : s.chip.inTarn = false) (hb : (s.chip.trunk.lanes[l]).backAt = some t)
    (ht : t ≤ s.chip.clk.now) : Runs (.laneBackTimer l) s (fun c => (c.trunk.lanes[l]).backAt = none) := by
  have hexec : exec (.laneBackTimer l) s = execLaneBackTimer l s := rfl
  refine runs_of_run hexec ?_
  rw [ha, hn, hb, if_pos (by simpa using ht)]
  extract_lets c1 c2
  have h1 : (c1.trunk.lanes[l]).backAt = none := by
    unfold c1
    rw [updLane_same]
  have h2 : (c2.trunk.lanes[l]).backAt = (c1.trunk.lanes[l]).backAt :=
    each_trunkKept (π := fun t => (t.lanes[l]).backAt) (fun c x => sendLane_backAt c x l _ _ _ _ _) _ c1
  have hpost : (c2.post (c2.evLane 0x0141 l [l.val])).trunk = c2.trunk := (fr_post (ps := [.trunk]) (rs := []) c2 _ (by simp)).kept.trunk (by simp)
  rw [swapDegraded_backAt, hpost, h2, h1]

/-! ### Lanes degraded and healthy (R117) -/

theorem degradeLane_degrades (hc : Canon c) (l : LaneId) (k : Nat) : (c.degradeLane l k).degraded l = true := by
  obtain ⟨hcan, hset⟩ := setDegr_sets hc l true
  unfold Chip.degradeLane
  extract_lets now was x
  have hx : LinksKept (c.setDegr l true) x := links_of_rd ⟨hcan.regs, hcan.flash, hcan.blocks⟩ rfl
  have hy : LinksKept x (if was then x else x.postFault .lane (x.evLane 0x0145 l [l.val, k])) := by
    split
    · exact .refl hx.canon
    · exact postFault_links hx.canon _ _
  exact (((hx.trans hy).trans (swapDegraded_links hy.canon)).degraded l).trans hset

theorem runs_laneDegraded {n : Nat} {e : Bool} (hc : Canon s.chip) (hu : s.chip.up l = true) (ha : s.chip.awake = true)
    (h : 16 ≤ ((s.chip.trunk.lanes[l]).crcAt.filter (fun t => t + n ≤ s.chip.clk.now ∧ s.chip.clk.now < t + n + ms 1)).length ∨ e = true) :
    Runs (.laneDegradedWindow l n e) s (fun c => c.degraded l = true) := by
  have hexec : exec (.laneDegradedWindow l n e) s = execLaneDegradedWindow l n e s := rfl
  refine runs_of_run hexec ?_
  rw [hu, ha, if_neg (by decide)]
  split
  · exact degradeLane_degrades hc l 0
  next hn =>
    rw [if_pos (h.resolve_left hn)]
    exact degradeLane_degrades hc l 1

theorem runs_laneHealthy {t : Nat} (hc : Canon s.chip) (hh : (s.chip.trunk.lanes[l]).healthyAt = some t) (ht : t ≤ s.chip.clk.now) :
    Runs (.laneHealthy l) s (fun c => c.degraded l = false ∧ (c.trunk.lanes[l]).healthyAt = none) := by
  obtain ⟨-, hset⟩ := setDegr_sets hc l false
  have hexec : exec (.laneHealthy l) s = execLaneHealthy l s := rfl
  refine runs_of_run hexec ?_
  rw [hh, if_pos (by simpa using ht)]
  exact ⟨hset, by rw [updLane_same]⟩

/-! ### The swap's timer, the reorder hold, and no lane after Deep sleep -/

theorem runs_swapTimer {w : SwapPend} (hc : Canon s.chip) (hw : s.chip.trunk.swap = some w) (hd : w.deadline ≤ s.chip.clk.now) :
    Runs .swapTimerExpiry s (fun c => c.bit .TRK_STATUS F.TRK_STATUS_SWAP_PEND = false ∧ c.active? = s.chip.active?) := by
  obtain ⟨hp, hcan, hkept⟩ := dropSwap_status hc hw
  have hexec : exec .swapTimerExpiry s = execSwapTimerExpiry s := rfl
  refine runs_of_run hexec ?_
  rw [hw]
  dsimp only
  rw [if_neg (Nat.not_lt.2 hd)]
  have hrd := (fr_post (ps := []) (rs := [.TRK_STATUS]) s.chip.dropSwap (s.chip.dropSwap.evLane 0x014C w.lane [w.lane.val]) (by simp)).kept.regs .TRK_STATUS (by simp)
  obtain ⟨ha, -, hb⟩ := status_of_rd hrd
  refine ⟨(hb _).trans hp, ha.trans ?_⟩
  unfold Chip.active?
  rw [hkept _ ⟨by decide, by decide⟩]

theorem runFrom_next {x : Nat × LaneId × RxFrame} {q : BitVec 32} (h : x.2.2.seq = q + 1#32) (t : List (Nat × LaneId × RxFrame)) :
    ∃ more, (runFrom q (x :: t)).1 = x.2 :: more := by
  unfold runFrom
  rw [if_pos h]
  exact ⟨_, rfl⟩

theorem drainRx_delivers {k n : Nat} {x : RxSpace} {q : BitVec 32} {y : Nat × LaneId × RxFrame} {r : List (Nat × LaneId × RxFrame)}
    (hx : c.trunk.rx.find? (fun x => x.cls == k && x.id == n) = some x) (hl : x.last = some q) (hb : x.buf = y :: r) (hq : y.2.2.seq = q + 1#32) :
    ∃ more, (c.drainRx k n).trunk.delivered = c.trunk.delivered ++ y.2 :: more := by
  obtain ⟨more, hmore⟩ := runFrom_next hq r
  unfold Chip.drainRx
  rw [hx]
  dsimp only
  rw [hl]
  dsimp only
  rw [hb]
  exact ⟨more, congrArg (c.trunk.delivered ++ ·) hmore⟩

theorem skipRx_delivers {k n : Nat} {x : RxSpace} {z : BitVec 32} {y : Nat × LaneId × RxFrame} {r : List (Nat × LaneId × RxFrame)}
    (hx : c.trunk.rx.find? (fun x => x.cls == k && x.id == n) = some x) (hl : x.last = some z) (hb : x.buf = y :: r) :
    ∃ more, (c.skipRx k n).trunk.delivered = c.trunk.delivered ++ y.2 :: more := by
  obtain ⟨w, hw⟩ : ∃ w, (c.updRx k n (fun x => { x with last := some (y.2.2.seq - 1#32) })).seqGap k n (z + 1#32) = w := ⟨_, rfl⟩
  have htrunk : w.trunk = (c.updRx k n (fun x => { x with last := some (y.2.2.seq - 1#32) })).trunk := by
    have hf : Fr (keeping [.trunk] []) (c.updRx k n (fun x => { x with last := some (y.2.2.seq - 1#32) })) w :=
      hw ▸ (by apply Chip.seqGap_fr (Fr.refl _ _) <;> simp)
    exact hf.kept.trunk (by simp)
  have hfind : w.trunk.rx.find? (fun x => x.cls == k && x.id == n) = some { x with last := some (y.2.2.seq - 1#32) } := by
    rw [htrunk]
    have hp : (x.cls == k && x.id == n) = true := List.find?_some (p := fun x : RxSpace => x.cls == k && x.id == n) hx
    exact find?_updFirst (p := fun x : RxSpace => x.cls == k && x.id == n) (x := x) (f := fun x => { x with last := some (y.2.2.seq - 1#32) }) hx
      hp
  have hskip : c.skipRx k n = w.drainRx k n := by
    unfold Chip.skipRx
    rw [hx]
    dsimp only
    rw [hl, hb, ← hw]
  obtain ⟨more, hmore⟩ := drainRx_delivers hfind rfl hb (BitVec.sub_add_cancel _ _).symm
  rw [hskip]
  have hdel : w.trunk.delivered = c.trunk.delivered := by
    rw [htrunk]
    rfl
  exact ⟨more, hmore.trans (by rw [hdel])⟩

theorem runs_reorderHold {k : Nat} {id : BitVec 16} {x : RxSpace} {t : Nat} {z : BitVec 32} {y : Nat × LaneId × RxFrame} {r : List (Nat × LaneId × RxFrame)}
    (hx : s.chip.trunk.rx.find? (fun x => x.cls == k && x.id == id.toNat) = some x) (ho : x.oldest = some t)
    (ht : t + us (s.chip.get .TRK_CFG2 F.TRK_CFG2_REORDER_HOLD) ≤ s.chip.clk.now) (hl : x.last = some z) (hb : x.buf = y :: r) :
    Runs (.reorderHoldExpiry k id) s (fun c => ∃ more, c.trunk.delivered = s.chip.trunk.delivered ++ y.2 :: more) := by
  have hexec : exec (.reorderHoldExpiry k id) s = execReorderHoldExpiry k id s := rfl
  refine runs_of_run_eq hexec (d := s.chip.skipRx k id.toNat) ?_ (skipRx_delivers hx hl hb)
  dsimp only
  rw [hx]
  dsimp only
  rw [ho, if_pos (by simpa using ht)]

theorem spillFrame_tarn (c : Chip) (f : TxFrame) : (c.spillFrame f).trunk.tarn = c.trunk.tarn := by
  unfold Chip.spillFrame
  split <;> rfl

theorem enterTarn_in (c : Chip) (k : Nat) : (c.enterTarn k).inTarn = true := by
  unfold Chip.enterTarn
  split
  next h => exact h
  · extract_lets c1 entry wait c2 c3 c4 c5
    have h4 : c4.trunk.tarn = some ⟨entry, k⟩ := (each_trunkKept (π := Trunk.tarn) spillFrame_tarn wait c3).trans rfl
    have h5 : c5.trunk = c4.trunk := syncTrunk_trunk _
    have hpost : (c5.postFault .tarn (c5.ev 0x0146 0 0 [k])).trunk = c5.trunk := by
      have hf : Fr (keeping [.trunk] []) c5 (c5.postFault .tarn (c5.ev 0x0146 0 0 [k])) := by apply Chip.postFault_fr (Fr.refl _ c5) <;> simp
      exact hf.kept.trunk (by simp)
    rw [Chip.inTarn, hpost, h5, h4]
    rfl

theorem runs_noLaneAfterDeep {t : Nat} (hb : s.chip.trunk.laneBy = some t) (ht : t ≤ s.chip.clk.now) (h0 : s.chip.up 0 = false) (h1 : s.chip.up 1 = false) :
    Runs .noLaneAfterDeep s (fun c => c.inTarn = true) := by
  have hexec : exec .noLaneAfterDeep s = execNoLaneAfterDeep s := rfl
  refine runs_of_run hexec ?_
  rw [hb, h0, h1, if_pos (by simpa using ht)]
  exact enterTarn_in _ 6

end

/-- Settles O7: lanes come up, go down, degrade and heal one at a time, and failover, swap, reorder hold and Deep sleep's end leave what their rules say. -/
theorem trunkLanes : Obligations.TrunkLanes := by
  unfold Obligations.TrunkLanes
  intro s hc
  refine ⟨?_, fun l k hu => runs_laneLoss hc hu k, fun l a hf hu => runs_failoverComplete hf hu, fun l t ha hn hb ht => runs_laneBackTimer ha hn hb ht,
    fun l n e hu ha h => runs_laneDegraded hc hu ha h, fun l t hh ht => runs_laneHealthy hc hh ht, fun w hw hd => runs_swapTimer hc hw hd,
    fun k id x t z y r hx ho ht hl hb => runs_reorderHold hx ho ht hl hb, fun t hb ht h0 h1 => runs_noLaneAfterDeep hb ht h0 h1⟩
  exact fun l hu he hh hp hd ho => runs_laneUp hc hu he hh hp hd ho

end Sys2Proof.Proofs

namespace Sys2Proof.Proofs

open Sys2Proof.Machine Sys2Proof.Laws

/-! What the devices of a drop send becomes records of their services (09 R190, R201; 10 R207, R210 to R218). -/

section

variable {s : State} {c x : Chip} {b : Bind} {y : SvcBody} {t : Strm}

/-! ### A binding with its stream -/

/-- A binding, the body of its context and its stream, with nothing of the Pond to serve. -/
structure ServedAt (c : Chip) (b : Bind) (y : SvcBody) (t : Strm) : Prop where
  grants : c.pond.grants = []
  bind : c.bind? b.port b.route b.iface = some b
  body : c.svcBody b = y
  strm : c.strmRef? y.stream.1 y.stream.2 = some t
  first : strmAt c b.stream = some t

/-- The part of a binding that its traffic leaves. -/
def bindCore (b : Bind) : Port × BitVec 20 × Nat × Nat × Nat × BitVec 16 × Nat := (b.port, b.route, b.iface, b.kind, b.profile, b.stream, b.cid)

theorem core_key {b b' : Bind} (h : bindCore b' = bindCore b) : b'.key = b.key ∧ b'.stream = b.stream := by
  simp only [bindCore, Prod.mk.injEq] at h
  obtain ⟨hport, hroute, hiface, -, -, hstream, -⟩ := h
  exact ⟨by rw [Bind.key, Bind.key, hport, hroute, hiface], hstream⟩

theorem svcBody_of_core {b' : Bind} (h : bindCore b' = bindCore b) : c.svcBody b' = c.svcBody b := by
  simp only [bindCore, Prod.mk.injEq] at h
  obtain ⟨-, -, hi, hk, hp, -, hc⟩ := h
  unfold Chip.svcBody
  rw [hi, hk, hp, hc]

theorem updBind_of_core {b' : Bind} (h : bindCore b' = bindCore b) (f : Bind → Bind) : c.updBind b' f = c.updBind b f := by
  simp only [bindCore, Prod.mk.injEq] at h
  obtain ⟨hport, hroute, hiface, -⟩ := h
  rw [Chip.updBind, Chip.updBind, hport, hroute, hiface]

theorem updSvcBody_of_core {b' : Bind} (h : bindCore b' = bindCore b) (f : SvcBody → SvcBody) : c.updSvcBody b' f = c.updSvcBody b f := by
  have hbody := svcBody_of_core (c := c) h
  simp only [bindCore, Prod.mk.injEq] at h
  obtain ⟨hport, -, -, -, -, -, hcid⟩ := h
  rw [Chip.updSvcBody, Chip.updSvcBody, hbody, hport, hcid]

theorem svcBody_of_ctx (h : x.ctx b.cid = c.ctx b.cid) : x.svcBody b = c.svcBody b := by
  unfold Chip.svcBody
  rw [h]

theorem strmRef?_of (hs : x.svc.streams = c.svc.streams) (hr : ∀ i g, x.refOk i g = c.refOk i g) (i : Nat) (g : Byte) : x.strmRef? i g = c.strmRef? i g := by
  unfold Chip.strmRef?
  simp only [hs, hr]

theorem refOk_of_ctx (h : ∀ i, x.ctx i = c.ctx i) (i : Nat) (g : Byte) : x.refOk i g = c.refOk i g := by
  rw [Chip.refOk, Chip.refOk, h]

theorem setBody_refOk (c : Chip) (j : Nat) (z : Body) (i : Nat) (g : Byte) : (c.setBody j z).refOk i g = c.refOk i g := by
  unfold Chip.refOk
  by_cases h : i = j
  · subst h
    rw [setBody_ctx]
  · rw [setBody_ctx_other c z h]

theorem ServedAt.of_kept (h : ServedAt c b y t) (hs : x.svc = c.svc) (hp : x.pond = c.pond) : ServedAt x b y t := by
  have hctx : ∀ i, x.ctx i = c.ctx i := ctx_of_ctxs (by rw [hp])
  refine ⟨by rw [hp]; exact h.grants, ?_, (svcBody_of_ctx (hctx _)).trans h.body,
    (strmRef?_of (by rw [hs]) (refOk_of_ctx hctx) _ _).trans h.strm, ?_⟩
  · rw [Chip.bind?, hs]
    exact h.bind
  · rw [strmAt, hs]
    exact h.first

theorem ServedAt.of_fr (h : ServedAt c b y t) (hf : Fr (keeping [.svc, .pond] []) c x) : ServedAt x b y t :=
  h.of_kept (hf.kept.svc (by simp)) (hf.kept.pond (by simp))

/-- What a write of the binding itself leaves. -/
theorem ServedAt.updBind (h : ServedAt c b y t) {b₀ : Bind} {f : Bind → Bind} (hb : bindCore b₀ = bindCore b) (hf : bindCore (f b) = bindCore b) :
    ServedAt (c.updBind b₀ f) (f b) y t := by
  rw [updBind_of_core hb]
  have hcore := hf
  simp only [bindCore, Prod.mk.injEq] at hcore
  obtain ⟨hport, hroute, hiface, -, -, hstream, -⟩ := hcore
  refine ⟨h.grants, ?_, (svcBody_of_core hf).trans h.body, h.strm, ?_⟩
  · rw [hport, hroute, hiface]
    exact find?_updFirst (p := Bind.is b.port b.route b.iface) h.bind (by simp [Bind.is, hport, hroute, hiface])
  · rw [hstream]
    exact h.first

/-- What a write of the service's context leaves. -/
theorem ServedAt.updSvcBody (h : ServedAt c b y t) {b₀ : Bind} {f : SvcBody → SvcBody} (hb : bindCore b₀ = bindCore b) (hf : (f y).stream = y.stream) :
    ServedAt (c.updSvcBody b₀ f) b (f y) t := by
  rw [updSvcBody_of_core hb]
  obtain ⟨w, hw⟩ : ∃ w, c.setBody b.cid (.service (f (c.svcBody b))) = w := ⟨_, rfl⟩
  have hset : ServedAt w b (f y) t := by
    rw [← hw]
    refine ⟨h.grants, h.bind, ?_, ?_, h.first⟩
    · rw [h.body]
      unfold Chip.svcBody
      rw [setBody_ctx]
    · rw [hf]
      exact (strmRef?_of (c := c) (x := c.setBody _ _) rfl (setBody_refOk c _ _) _ _).trans h.strm
  unfold Chip.updSvcBody
  rw [hw]
  exact hset.of_fr (by apply Chip.touchPool_fr (Fr.refl _ w); simp)

/-- The first element of two lists' searches changes in both alike. -/
theorem find?_updFirst_both {α : Type} {p q : α → Bool} {f : α → α} {x : α} : ∀ {l : List α}, l.find? p = some x → l.find? q = some x → p (f x) = true →
    (updFirst q f l).find? p = some (f x)
  | [], h, _, _ => by cases h
  | a :: l, hp, hq, hf => by
    have hpx := List.find?_some hp
    have hqx := List.find?_some hq
    rw [updFirst]
    split
    next ha =>
      have hax : a = x := by simpa [ha] using hq
      rw [List.find?_cons, hax, hf]
    next ha =>
      have hpa : p a = false := by
        by_contra hn
        have hax : a = x := by simpa [Bool.eq_true_of_not_eq_false hn] using hp
        exact ha (hax ▸ hqx)
      rw [List.find?_cons, hpa] at hp ⊢
      rw [List.find?_cons, Bool.eq_false_of_not_eq_true ha] at hq
      exact find?_updFirst_both hp hq hf

/-- A stream's identity. -/
def strmIdent (t : Strm) : BitVec 16 × Nat × Byte × Bool := (t.id, t.cid, t.gen, t.closed)

/-- What a write of the stream leaves. -/
theorem ServedAt.updStrm (h : ServedAt c b y t) {f : Strm → Strm} (hf : strmIdent (f t) = strmIdent t) : ServedAt (c.updStrm b.stream f) b y (f t) := by
  simp only [strmIdent, Prod.mk.injEq] at hf
  obtain ⟨hid, hcid, hgen, hclosed⟩ := hf
  have hself := List.find?_some h.strm
  refine ⟨h.grants, h.bind, h.body, ?_, updStrm_at h.first (hid.trans (strmAt_id h.first))⟩
  refine find?_updFirst_both (q := fun x : Strm => x.id == b.stream) h.strm h.first ?_
  rw [hcid, hgen, hclosed]
  exact hself

theorem weirNext_ident (t : Strm) : strmIdent t.weirNext = strmIdent t ∧ t.weirNext.recs = t.recs ∧ t.weirNext.depth = t.depth := by
  unfold Strm.weirNext
  split
  · exact ⟨rfl, rfl, rfl⟩
  split <;> exact ⟨rfl, rfl, rfl⟩

/-- A stream with other records. -/
def withRecs (t : Strm) (l : List Rec) : Strm := Strm.weirNext { t with recs := l }

@[simp] theorem withRecs_recs (t : Strm) (l : List Rec) : (withRecs t l).recs = l := (weirNext_ident _).2.1

@[simp] theorem withRecs_ident (t : Strm) (l : List Rec) : strmIdent (withRecs t l) = strmIdent t := (weirNext_ident _).1

theorem ServedAt.updRec (h : ServedAt c b y t) {id : BitVec 16} (hid : id = b.stream) (g : Rec → Rec) (k : Nat × Nat × Nat) :
    ServedAt (c.updRec id k g) b y (withRecs t (updFirst (Rec.isOpenOf k) g t.recs)) := by
  rw [hid]
  exact h.updStrm (f := fun t => withRecs t (updFirst (Rec.isOpenOf k) g t.recs)) (withRecs_ident _ _)

theorem recsOf_eq (h : ServedAt c b y t) : recsOf c b.stream = t.recs := by
  have hfirst := h.first
  unfold strmAt at hfirst
  rw [recsOf, hfirst]
  rfl

theorem bindStream_eq (h : ServedAt c b y t) : c.bindStream b = some t := by
  rw [Chip.bindStream, h.body]
  exact h.strm

theorem openOf_eq (h : ServedAt c b y t) : c.openOf b = t.recs.find? (Rec.isOpenOf b.key) := by
  rw [Chip.openOf, bindStream_eq h]
  rfl

theorem again_eq (h : ServedAt c b y t) {b' : Bind} (hb : bindCore b' = bindCore b) : c.again b' = b := by
  simp only [bindCore, Prod.mk.injEq] at hb
  obtain ⟨hport, hroute, hiface, -⟩ := hb
  rw [Chip.again, hport, hroute, hiface, h.bind]
  rfl

theorem active_served (h : ServedAt c b y t) : ServedAt c.active b y t := h.of_fr (Chip.active_fr (Fr.refl _ c) (by simp) (by simp) (by simp))

/-! ### The bindings that BoundTo names -/

theorem bound?_bind {n : Port} {r : BitVec 20} {i k : Nat} (h : c.bound? n r i k = some b) : c.bind? n r i = some b ∧ b.port = n ∧ b.route = r ∧
    b.iface = i ∧ c.basinUp n = true := by
  obtain ⟨hb, hf⟩ := Option.filter_eq_some_iff.1 h
  have his := List.find?_some hb
  simp only [Bind.is, Bool.and_eq_true, beq_iff_eq] at his hf
  exact ⟨hb, his.1.1, his.1.2, his.2, hf.2⟩

theorem servedAt_of {n : Port} {r : BitVec 20} {i k : Nat} (hg : c.pond.grants = []) (h : BoundTo c n r i k b t) :
    ServedAt c b (c.svcBody b) t := by
  obtain ⟨hb, hport, hroute, hiface, -⟩ := bound?_bind h.bound
  exact ⟨hg, by rw [hport, hroute, hiface]; exact hb, rfl, h.strm, h.first⟩

/-! ### HID, CDC and time-out records (R210 to R214) -/

theorem runs_hidRollover {n : Port} {r : BitVec 20} {i : Nat} {rep : List Byte} (hg : s.chip.pond.grants = []) (h : BoundTo s.chip n r i kHID b t)
    (hall : ((bytesAt rep 0 8).drop 2).all (fun k => k == 1#8) = true) :
    Runs (.hidReport n r i rep) s (fun c => recsOf c b.stream = updFirst (Rec.isOpenOf b.key)
      (fun x => { x with hdr := { x.hdr with rflags := x.hdr.rflags ||| rfROLLOVER } }) t.recs) := by
  have hf := (servedAt_of hg h).updRec rfl (fun x => { x with hdr := { x.hdr with rflags := x.hdr.rflags ||| rfROLLOVER } }) b.key
  have hp := hf.of_fr (x := (s.chip.flagRec b rfROLLOVER).postRateR (.owner b.door) (sec 1) (n.val + 128 * r.toNat + 134217728 * i)
    ((s.chip.flagRec b rfROLLOVER).evSvc 0x0805 n r [i])) (by apply Chip.postRateR_fr (Fr.refl _ _) <;> simp)
  have hexec : exec (.hidReport n r i rep) s = execHidReport n r i rep s := rfl
  refine runs_of_runS_eq hexec ?_ hp.grants ((recsOf_eq hp).trans (withRecs_recs _ _))
  dsimp only
  rw [h.bound]
  dsimp only
  rw [hall]
  rfl

theorem runs_serialState {n : Port} {r : BitVec 20} {i : Nat} (hg : s.chip.pond.grants = []) (st : BitVec 16) (h : s.chip.bound? n r i kCDC = some b) :
    Runs (.serialState n r i st) s (fun c => c = s.chip.postOwn b.door (s.chip.evSvc 0x0804 n r [st.toNat])) := by
  have hf : Fr (keeping [.pond] []) s.chip (s.chip.postOwn b.door (s.chip.evSvc 0x0804 n r [st.toNat])) := Chip.postOwn_fr (Fr.refl _ _) (by simp)
  have hexec : exec (.serialState n r i st) s = execSerialState n r i st s := rfl
  refine runs_of_runS_eq hexec ?_ (by rw [hf.kept.pond (by simp)]; exact hg) rfl
  rw [h]

theorem closeBindRec_served (h : ServedAt c b y t) {b₀ : Bind} (hb : bindCore b₀ = bindCore b) (fl : Nat) (dis : Bool) :
    ∃ b' y', bindCore b' = bindCore b ∧ ServedAt (c.closeBindRec b₀ fl dis) b' y' (withRecs t (updFirst (Rec.isOpenOf b.key)
      (fun r => { r with st := .closed, hdr := { r.hdr with rflags := r.hdr.rflags ||| fl } }) t.recs)) := by
  obtain ⟨hkey, hstream⟩ := core_key hb
  have h1 : ServedAt (c.closeRec b₀.stream b₀.key fl) b y _ := h.updRec hstream _ b₀.key
  have h2 := h1.updBind (f := fun x => { x with discard := dis, lastByte := none }) hb rfl
  have h3 := h2.updSvcBody (b₀ := b₀) (f := fun x => { x with state := if dis then 3 else 1, fill := 0 }) hb rfl
  rw [← hkey]
  refine ⟨_, _, ?_, active_served h3⟩
  rfl

theorem runs_gapMs {n : Port} {r : BitVec 20} {i : Nat} {z : Rec} (hg : s.chip.pond.grants = []) (h : BoundTo s.chip n r i b.kind b t)
    (ho : s.chip.openOf b = some z) (hgap : fget b.ctl F.SVC_PROF_CTL_GAP_MS ≠ 0) (hm : fget b.ctl F.SVC_PROF_CTL_MODE ≠ 1)
    (hl : b.lastData + ms (fget b.ctl F.SVC_PROF_CTL_GAP_MS) ≤ s.chip.clk.now) :
    Runs (.gapMsExpiry n r i) s (fun c => recsOf c b.stream = updFirst (Rec.isOpenOf b.key)
      (fun x => { x with st := .closed, hdr := { x.hdr with rflags := x.hdr.rflags ||| rfNO_TERM } }) t.recs) := by
  obtain ⟨hbind, -, -, -, hup⟩ := bound?_bind h.bound
  obtain ⟨b', y', hcore, hend⟩ := closeBindRec_served (servedAt_of hg h) rfl rfNO_TERM false
  have hstream : b'.stream = b.stream := congrArg (fun k => k.2.2.2.2.2.1) hcore
  have hexec : exec (.gapMsExpiry n r i) s = execGapMsExpiry n r i s := rfl
  refine runs_of_runS_eq hexec ?_ hend.grants ?_
  · dsimp only
    rw [hbind]
    dsimp only
    rw [if_neg]
    rw [hup, ho]
    simp only [not_or]
    exact ⟨by simp, by simp, hgap, hm, Nat.not_lt.2 hl⟩
  · rw [← hstream, recsOf_eq hend, withRecs_recs]

/-! ### A byte fed to an open record (R210, R211) -/

theorem openOf_of_core {b' : Bind} (h : bindCore b' = bindCore b) : c.openOf b' = c.openOf b := by
  rw [Chip.openOf, Chip.openOf, Chip.bindStream, Chip.bindStream, svcBody_of_core h, (core_key h).1]

theorem size_le_foldl {z : Rec} : ∀ {l : List Rec} (n : Nat), z ∈ l → n + z.size ≤ l.foldl (fun a r => a + r.size) n
  | [], _, h => by cases h
  | a :: l, n, h => by
    have hmono : ∀ (l : List Rec) (n : Nat), n ≤ l.foldl (fun a r => a + r.size) n := fun l => by
      induction l with
      | nil => exact fun n => Nat.le_refl n
      | cons a l ih => exact fun n => Nat.le_trans (Nat.le_add_right _ _) (ih _)
    rw [List.foldl_cons]
    rcases List.mem_cons.1 h with rfl | h
    · exact hmono l _
    · have := size_le_foldl (n + a.size) h
      omega

/-- One byte more makes a record at most 8 bytes of its stream's buffer longer. -/
theorem grown_fits {z : Rec} {ch : Byte} (hz : z ∈ t.recs) (hf : t.fill + 8 ≤ t.depth) :
    ¬ t.depth < t.fill - z.size + Rec.size { z with data := z.data ++ [ch] } := by
  have hle : 0 + z.size ≤ t.fill := size_le_foldl 0 hz
  have hgrow : Rec.size { z with data := z.data ++ [ch] } ≤ z.size + 8 := by
    simp only [Rec.size, List.length_append, List.length_singleton]
    omega
  omega

theorem appendRec_served (h : ServedAt c b y t) {z : Rec} (ho : t.recs.find? (Rec.isOpenOf b.key) = some z) {ch : Byte} (hf : t.fill + 8 ≤ t.depth) :
    ∃ y', ServedAt (c.appendRec b (fun l => l ++ [ch])) b y' (withRecs t (updFirst (Rec.isOpenOf b.key) (fun _ => { z with data := z.data ++ [ch] }) t.recs)) := by
  have h1 := h.updRec (strmAt_id h.first) (fun _ => { z with data := z.data ++ [ch] }) b.key
  have heq : c.appendRec b (fun l => l ++ [ch]) =
      (c.updRec t.id b.key (fun _ => { z with data := z.data ++ [ch] })).updSvcBody b (fun x => { x with fill := (z.data ++ [ch]).length }) := by
    unfold Chip.appendRec
    rw [bindStream_eq h, openOf_eq h, ho]
    dsimp only
    rw [if_neg (grown_fits (List.mem_of_find?_eq_some ho) hf)]
  rw [heq]
  exact ⟨_, h1.updSvcBody (f := fun x => { x with fill := (z.data ++ [ch]).length }) rfl rfl⟩

/-- A byte that ends no record goes to the end of the open one. -/
theorem feed_appends (h : ServedAt c b y t) {z : Rec} {ch : Byte} (ho : t.recs.find? (Rec.isOpenOf b.key) = some z) (hd : b.discard = false)
    (ht : terminates b.ctl b.term b.lastByte ch = false) (hl : z.data.length + 1 < fget b.ctl F.SVC_PROF_CTL_MAX_LEN) (hf : t.fill + 8 ≤ t.depth) :
    ∃ b' y', bindCore b' = bindCore b ∧ ServedAt (c.feed b ch) b' y'
      (withRecs t (updFirst (Rec.isOpenOf b.key) (fun _ => { z with data := z.data ++ [ch] }) t.recs)) := by
  obtain ⟨b1, hb1⟩ : ∃ b1, { b with lastData := c.clk.now } = b1 := ⟨_, rfl⟩
  have hcore : bindCore b1 = bindCore b := by rw [← hb1]; rfl
  have hkey := (core_key hcore).1
  obtain ⟨w, hw⟩ : ∃ w, c.updBind b (fun x => { x with lastData := c.clk.now }) = w := ⟨_, rfl⟩
  have h1 : ServedAt w b1 y t := by
    rw [← hw, ← hb1]
    exact h.updBind (f := fun x => { x with lastData := c.clk.now }) rfl rfl
  obtain ⟨y2, h2⟩ := appendRec_served (ch := ch) h1 (hkey ▸ ho) hf
  have h3 := h2.updBind (f := fun x => { x with lastByte := some ch }) rfl rfl
  have hopen1 : w.openOf b = some z := (openOf_of_core hcore).symm.trans ((openOf_eq h1).trans (hkey ▸ ho))
  have hopen3 := (openOf_of_core (b := { b1 with lastByte := some ch }) (b' := b1) rfl).trans (openOf_eq h3)
  have hp : Rec.isOpenOf b.key { z with data := z.data ++ [ch] } = true := List.find?_some (p := Rec.isOpenOf b.key) (a := z) ho
  have hfind := find?_updFirst (p := Rec.isOpenOf b1.key) (f := fun _ => { z with data := z.data ++ [ch] }) (hkey ▸ ho) (hkey ▸ hp)
  have hopen3 : _ = some { z with data := z.data ++ [ch] } := hopen3.trans ((congrArg (List.find? (Rec.isOpenOf b1.key)) (withRecs_recs _ _)).trans hfind)
  have hctl : b1.ctl = b.ctl ∧ b1.term = b.term ∧ b1.lastByte = b.lastByte := by rw [← hb1]; exact ⟨rfl, rfl, rfl⟩
  obtain ⟨hctl, hterm, hlast⟩ := hctl
  have hkeep : (if (w.openOf b).isNone then w.openBindRec b else w) = w := if_neg (by rw [hopen1]; exact Bool.false_ne_true)
  have heq : c.feed b ch = (w.appendRec b1 (fun l => l ++ [ch])).updBind b1
      (fun x => { x with lastByte := some ch }) := by
    unfold Chip.feed
    dsimp only
    rw [again_eq h rfl, hd, if_neg (by decide), hw, hkeep, hopen1, if_neg (by simp), again_eq h1 hcore.symm, hctl, hterm, hlast, ht,
      if_neg (by simp), hopen3]
    dsimp only
    rw [if_pos]
    rw [List.length_append, List.length_singleton]
    omega
  rw [heq, ← hkey]
  refine ⟨_, _, ?_, h3⟩
  rw [← hcore]
  rfl

theorem updFirst_open {z : Rec} {l : List Byte} {k : Nat × Nat × Nat} (ho : t.recs.find? (Rec.isOpenOf k) = some z) :
    ((withRecs t (updFirst (Rec.isOpenOf k) (fun _ => { z with data := l }) t.recs)).recs.find? (Rec.isOpenOf k)).map (·.data) = some l := by
  have hp : Rec.isOpenOf k { z with data := l } = true := List.find?_some (p := Rec.isOpenOf k) (a := z) ho
  rw [withRecs_recs, find?_updFirst (p := Rec.isOpenOf k) (f := fun _ => { z with data := l }) ho hp]
  rfl

theorem runs_cdcByte {n : Port} {r : BitVec 20} {i : Nat} {ch : Byte} {z : Rec} (hg : s.chip.pond.grants = []) (h : BoundTo s.chip n r i kCDC b t)
    (ho : s.chip.openOf b = some z) (hd : b.discard = false) (ht : terminates b.ctl b.term b.lastByte ch = false)
    (hl : z.data.length + 1 < fget b.ctl F.SVC_PROF_CTL_MAX_LEN) (hf : t.fill + 8 ≤ t.depth) :
    Runs (.cdcBulkIn n r i [ch]) s (fun c => (c.openOf b).map (·.data) = some (z.data ++ [ch])) := by
  have hs := servedAt_of hg h
  rw [openOf_eq hs] at ho
  obtain ⟨b', y', hcore, hend⟩ := feed_appends hs ho hd ht hl hf
  have hexec : exec (.cdcBulkIn n r i [ch]) s = execCdcBulkIn n r i [ch] s := rfl
  refine runs_of_runS_eq hexec (d := s.chip.feed b ch) ?_ hend.grants ?_
  · rw [h.bound]
    rfl
  · rw [← openOf_of_core hcore, openOf_eq hend, (core_key hcore).1]
    exact updFirst_open ho

theorem runs_cdcEnd {n : Port} {r : BitVec 20} {i : Nat} {ch : Byte} {z : Rec} (hg : s.chip.pond.grants = []) (h : BoundTo s.chip n r i kCDC b t)
    (ho : s.chip.openOf b = some z) (hd : b.discard = false) (hm : fget b.ctl F.SVC_PROF_CTL_MODE = 0) (ht : terminates b.ctl b.term b.lastByte ch = true)
    (hk : fget b.ctl F.SVC_PROF_CTL_TERM_KEEP = 0) (hq : fget b.ctl F.SVC_PROF_CTL_SEQ2 = 0) :
    Runs (.cdcBulkIn n r i [ch]) s (fun c => recsOf c b.stream = updFirst (Rec.isOpenOf b.key) (fun x => { x with st := .closed }) t.recs) := by
  have hs := servedAt_of hg h
  obtain ⟨b1, hb1⟩ : ∃ b1, { b with lastData := s.chip.clk.now } = b1 := ⟨_, rfl⟩
  have hcore : bindCore b1 = bindCore b := by rw [← hb1]; rfl
  obtain ⟨hkey, hstream⟩ := core_key hcore
  obtain ⟨w, hw⟩ : ∃ w, s.chip.updBind b (fun x => { x with lastData := s.chip.clk.now }) = w := ⟨_, rfl⟩
  have h1 : ServedAt w b1 (s.chip.svcBody b) t := by
    rw [← hw, ← hb1]
    exact hs.updBind (f := fun x => { x with lastData := s.chip.clk.now }) rfl rfl
  have hopen : w.openOf b1 = some z := by rw [openOf_eq h1, hkey, ← openOf_eq hs, ho]
  have hopenb : w.openOf b = some z := (openOf_of_core hcore).symm.trans hopen
  obtain ⟨b', y', hcore', hend⟩ := closeBindRec_served h1 rfl 0 false
  have hctl : b1.ctl = b.ctl ∧ b1.term = b.term ∧ b1.lastByte = b.lastByte := by rw [← hb1]; exact ⟨rfl, rfl, rfl⟩
  obtain ⟨hctl, hterm, hlast⟩ := hctl
  have hkeep : (if (w.openOf b).isNone then w.openBindRec b else w) = w := if_neg (by rw [hopenb]; exact Bool.false_ne_true)
  have heq : s.chip.feed b ch = w.closeBindRec b1 0 false := by
    unfold Chip.feed
    dsimp only
    rw [again_eq hs rfl, hd, if_neg (by decide), hw, hkeep, hopenb, if_neg (by simp),
      again_eq h1 hcore.symm, hctl, hterm, hlast, ht, hm, hk, hq, if_pos ⟨rfl, rfl⟩]
    simp only [Nat.reduceBEq, Bool.false_eq_true, if_false]
    rw [hopen]
    rfl
  have hexec : exec (.cdcBulkIn n r i [ch]) s = execCdcBulkIn n r i [ch] s := rfl
  refine runs_of_runS_eq hexec (d := w.closeBindRec b1 0 false) ?_ hend.grants ?_
  · rw [h.bound, ← heq]
    rfl
  · rw [← hstream, ← (core_key hcore').2, recsOf_eq hend, withRecs_recs, hkey]
    simp only [Nat.or_zero]

theorem runs_hidByte {n : Port} {r : BitVec 20} {i : Nat} {rep : List Byte} {u ch : Byte} {z : Rec} (hg : s.chip.pond.grants = [])
    (h : BoundTo s.chip n r i kHID b t) (ho : s.chip.openOf b = some z) (hd : b.discard = false)
    (hall : ((bytesAt rep 0 8).drop 2).all (fun k => k == 1#8) = false)
    (hdown : ((bytesAt rep 0 8).drop 2).filter (fun k => k != 0#8 && !(b.prev.drop 2).contains k) = [u]) (hu : u.toNat ≤ 0x7F)
    (hch : b.keys.getD (128 * hidLayer ((bytesAt rep 0 8).headD 0#8) + u.toNat) 0#8 = ch) (hne : ch ≠ 0#8)
    (ht : terminates b.ctl b.term b.lastByte ch = false) (hl : z.data.length + 1 < fget b.ctl F.SVC_PROF_CTL_MAX_LEN) (hf : t.fill + 8 ≤ t.depth) :
    Runs (.hidReport n r i rep) s (fun c => (c.openOf b).map (·.data) = some (z.data ++ [ch])) := by
  have hs := servedAt_of hg h
  have hopen := ho
  rw [openOf_eq hs] at ho
  obtain ⟨b', y', hcore, hfed⟩ := feed_appends hs ho hd ht hl hf
  have hend := hfed.updBind (b₀ := b) (f := fun x => { x with prev := bytesAt rep 0 8 }) hcore.symm rfl
  have hcore2 : bindCore { b' with prev := bytesAt rep 0 8 } = bindCore b := hcore
  have hkeep : (if !b.discard && (s.chip.openOf b).isNone then s.chip.openBindRec b else s.chip) = s.chip := if_neg (by rw [hopen]; simp)
  have hkeyDown : s.chip.keyDown b (hidLayer ((bytesAt rep 0 8).headD 0#8)) u = s.chip.feed b ch := by
    unfold Chip.keyDown
    dsimp only
    rw [again_eq hs rfl, hkeep, again_eq hs rfl, if_pos hu, hch, if_neg hne]
  have hexec : exec (.hidReport n r i rep) s = execHidReport n r i rep s := rfl
  refine runs_of_runS_eq hexec (d := (s.chip.feed b ch).updBind b (fun x => { x with prev := bytesAt rep 0 8 })) ?_ hend.grants ?_
  · rw [h.bound]
    dsimp only
    rw [hall, hdown, ← hkeyDown]
    rfl
  · rw [← openOf_of_core hcore2, openOf_eq hend, (core_key hcore2).1]
    exact updFirst_open ho

/-! ### Records put whole: printer status and raw transfers (R215 to R218) -/

theorem putRec_served (h : ServedAt c b y t) (src : Nat) (hdr : RecHdr) (l : List Byte) (fl : Nat)
    (hf : t.fill + Rec.size { st := .closed, flags := fl, src := src, hdr := hdr, data := l, openedAt := c.clk.now, owner := (0, 0, 0), raw := false } ≤ t.depth) :
    (c.putRec t src hdr l fl).1 = true ∧ ServedAt (c.putRec t src hdr l fl).2 b y (withRecs t (t.recs ++
      [{ st := .closed, flags := fl, src := src, hdr := hdr, data := l, openedAt := c.clk.now, owner := (0, 0, 0), raw := false }])) := by
  unfold Chip.putRec
  dsimp only
  rw [if_neg (Nat.not_lt.2 hf), strmAt_id h.first]
  have h1 := h.updStrm (f := fun t => withRecs t (t.recs ++
    [{ st := .closed, flags := fl, src := src, hdr := hdr, data := l, openedAt := c.clk.now, owner := (0, 0, 0), raw := false }])) (withRecs_ident _ _)
  exact ⟨rfl, active_served (h1.of_fr (by apply Chip.touchPool_fr (Fr.refl _ _); simp))⟩

theorem printerRec_served (h : ServedAt c b y t) {b₀ : Bind} (hb : bindCore b₀ = bindCore b) (hf : t.fill + 72 ≤ t.depth) :
    ∃ z y', ServedAt (c.printerRec b₀ 3 []) b y' (withRecs t (t.recs ++ [z])) ∧ y'.pstat = y.pstat ∧ z.st = .closed ∧ z.hdr.kind = kPRINTER ∧
      z.data = printerData (if b₀.jobLen = 0 then 0 else b₀.jobId) b₀.jobAcked y.pstat.toNat 3 [] := by
  obtain ⟨l, hl⟩ : ∃ l, printerData (if b₀.jobLen = 0 then 0 else b₀.jobId) b₀.jobAcked y.pstat.toNat 3 [] = l := ⟨_, rfl⟩
  have hlen : l.length = 16 := by simp [← hl, printerData, leBytes_length]
  obtain ⟨hdr, hhdr⟩ : ∃ hdr, c.recHdr b₀.port c.sei.time kPRINTER 0 b₀.iface b₀.route.toNat (bindRef b₀.cid b₀.gen) = hdr := ⟨_, rfl⟩
  obtain ⟨hput, hput2⟩ := putRec_served h (parisonSrc b₀.port b₀.route) hdr l 0 (by
    simp only [Rec.size, hlen]
    exact hf)
  have heq : c.printerRec b₀ 3 [] = (c.putRec t (parisonSrc b₀.port b₀.route) hdr l).2.updSvcBody b₀ (fun x => { x with rseq := x.rseq + 1 }) := by
    have hjob : (if (b₀.jobLen != 0) = true then b₀.jobId else 0) = if b₀.jobLen = 0 then 0 else b₀.jobId := by
      by_cases hj : b₀.jobLen = 0 <;> simp [hj]
    unfold Chip.printerRec
    rw [Chip.bindStream, svcBody_of_core hb, h.body, h.strm]
    dsimp only
    rw [hjob, hl, hhdr, hput]
    rfl
  rw [heq]
  refine ⟨_, _, hput2.updSvcBody (f := fun x => { x with rseq := x.rseq + 1 }) hb rfl, rfl, rfl, ?_, hl.symm⟩
  rw [← hhdr]
  rfl

theorem runs_printerStatus {n : Port} {r : BitVec 20} {i : Nat} {p : Byte} (hg : s.chip.pond.grants = []) (h : BoundTo s.chip n r i kPRINTER b t)
    (hp : (s.chip.svcBody b).pstat ≠ p) (hf : t.fill + 72 ≤ t.depth) (hd : b.pollAt ≤ s.chip.clk.now) (hs : s.chip.sofRuns n = true)
    (hr : s.chip.root n = rsACTIVE) :
    Runs (.printerStatusPoll n r i p) s (fun c => (c.svcBody b).pstat = p ∧
      ∃ x, recsOf c b.stream = t.recs ++ [x] ∧ x.st = .closed ∧ x.hdr.kind = kPRINTER ∧
        x.data = printerData (if b.jobLen = 0 then 0 else b.jobId) b.jobAcked p.toNat 3 []) := by
  have hserved := servedAt_of hg h
  have h1 := hserved.updBind (f := fun x => { x with pollAt := s.chip.clk.now + ms 100 }) rfl rfl
  have h2 := h1.updSvcBody (b₀ := b) (f := fun x => { x with pstat := p }) rfl rfl
  obtain ⟨z, y', hend, hpst, hst, hkind, hdata⟩ := printerRec_served (b₀ := b) h2 rfl hf
  have hexec : exec (.printerStatusPoll n r i p) s = execPrinterStatusPoll n r i p s := rfl
  refine runs_of_runS_eq hexec ?_ hend.grants ⟨(congrArg SvcBody.pstat hend.body).trans hpst, z, (recsOf_eq hend).trans (withRecs_recs _ _), hst, hkind, hdata⟩
  rw [h.bound]
  dsimp only
  rw [if_neg (by rw [hs, hr]; simpa using hd)]
  exact if_neg hp

theorem runs_printerSame {n : Port} {r : BitVec 20} {i : Nat} {p : Byte} (hg : s.chip.pond.grants = []) (h : s.chip.bound? n r i kPRINTER = some b)
    (hp : (s.chip.svcBody b).pstat = p) :
    Runs (.printerStatusPoll n r i p) s (fun c => c.svc.streams = s.chip.svc.streams ∧ c.svcBody b = s.chip.svcBody b) := by
  have hexec : exec (.printerStatusPoll n r i p) s = execPrinterStatusPoll n r i p s := rfl
  have hsame : (s.chip.updBind b (fun x => { x with pollAt := s.chip.clk.now + ms 100 })).printerStatus b p =
      s.chip.updBind b (fun x => { x with pollAt := s.chip.clk.now + ms 100 }) := if_pos hp
  refine runs_of_runS_eq hexec (d := if s.chip.clk.now < b.pollAt ∨ !s.chip.sofRuns n ∨ s.chip.root n ≠ rsACTIVE then s.chip
    else s.chip.updBind b (fun x => { x with pollAt := s.chip.clk.now + ms 100 })) ?_ ?_ ?_
  · rw [h]
    dsimp only
    rw [hsame]
  · split <;> exact hg
  · split <;> exact ⟨rfl, rfl⟩

theorem runs_printerEarly {n : Port} {r : BitVec 20} {i : Nat} (p : Byte) (hg : s.chip.pond.grants = []) (h : s.chip.bound? n r i kPRINTER = some b)
    (hd : s.chip.clk.now < b.pollAt) : Runs (.printerStatusPoll n r i p) s (fun c => c = s.chip) := by
  have hexec : exec (.printerStatusPoll n r i p) s = execPrinterStatusPoll n r i p s := rfl
  refine runs_of_runS_eq hexec (d := s.chip) ?_ hg rfl
  rw [h]
  exact if_pos (.inl hd)

/-- The chip when the end of a transfer has been taken from its run. -/
def endTaken (c : Chip) (n : Port) : Option (EpRun × XferStamp × Bool) → Chip
  | none => c
  | some r => c.putRun n { r.1 with ended := r.1.ended.tail }

theorem endTaken_served (h : ServedAt c b y t) (n : Port) (run : Option (EpRun × XferStamp × Bool)) : ServedAt (endTaken c n run) b y t := by
  cases run with
  | none => exact h
  | some r => exact h.of_kept rfl rfl

/-- The header of a raw transfer's record (R217, R218). -/
def rawHdr (c : Chip) (n : Port) (i : Nat) (r : BitVec 20) (b : Bind) (st : XferStamp) : RecHdr :=
  let h := (c.recHdr n st.time kRAW 0 i r.toNat (bindRef b.cid b.gen)).stamped st.pos
  { h with rflags := if st.degraded then 8 else 0 }

theorem rawHdr_fields (c : Chip) (n : Port) (i : Nat) (r : BitVec 20) (b : Bind) (st : XferStamp) :
    (rawHdr c n i r b st).kind = kRAW ∧ (rawHdr c n i r b st).time = st.time := by
  unfold rawHdr RecHdr.stamped
  dsimp only
  split <;> exact ⟨rfl, rfl⟩

/-- The record of a raw transfer is put at the end of its stream. -/
theorem runs_raw {n : Port} {r : BitVec 20} {i : Nat} {l l' : List Byte} {e : Bool} {fl : Nat} {run : Option (EpRun × XferStamp × Bool)}
    (hg : s.chip.pond.grants = []) (h : BoundTo s.chip n r i kRAW b t) (hrun : (s.chip.dev? n r).bind (fun d => s.chip.rawRun n d i) = run)
    (herr : (e || run.any (·.2.2)) = e) (hl : l' = if e then [] else l) (hfl : fl = if e then pfISO_ERR else 0)
    (hmax : e = false → l.length ≤ s.chip.getPos (.SVC_PROF_CTL b.prof) F.SVC_PROF_CTL_MAX_LEN ∧ l.length ≤ 4096)
    (hf : t.fill + 56 + (l'.length + 7) / 8 * 8 ≤ t.depth) :
    Runs (.rawTransfer n r i l e) s (fun c => (c.svcBody b).rseq = (s.chip.svcBody b).rseq + 1 ∧
      ∃ x, recsOf c b.stream = t.recs ++ [x] ∧ x.st = .closed ∧ x.flags = fl ∧ x.hdr.kind = kRAW ∧ x.data = l' ∧
        x.hdr.time = (run.map (·.2.1.time)).getD s.chip.sei.time) := by
  obtain ⟨st, hst⟩ : ∃ st, (run.map (·.2.1)).getD s.chip.stampNow = st := ⟨_, rfl⟩
  have htime : st.time = (run.map (·.2.1.time)).getD s.chip.sei.time := by
    rw [← hst]
    cases run <;> rfl
  have hdata : ∀ iso : Bool, (if e then [] else if iso then l.take 4096 else l.take (s.chip.getPos (.SVC_PROF_CTL b.prof) F.SVC_PROF_CTL_MAX_LEN)) = l' :=
    fun iso => by
    rw [hl]
    cases e with
    | true => rfl
    | false =>
      obtain ⟨h1, h2⟩ := hmax rfl
      cases iso
      · exact List.take_of_length_le h1
      · exact List.take_of_length_le h2
  obtain ⟨w, hw⟩ : ∃ w, endTaken s.chip n run = w := ⟨_, rfl⟩
  have hserved := servedAt_of hg h
  have hws : ServedAt w b (s.chip.svcBody b) t := hw ▸ endTaken_served hserved n run
  obtain ⟨hkind, hat⟩ := rawHdr_fields w n i r b st
  obtain ⟨hput, hput2⟩ := putRec_served hws (parisonSrc n r) (rawHdr w n i r b st) l' fl (by
    simp only [Rec.size, Bool.false_eq_true, if_false]
    omega)
  have hend := hput2.updSvcBody (b₀ := b) (f := fun x => { x with rseq := x.rseq + 1 }) rfl rfl
  have hexec : exec (.rawTransfer n r i l e) s = execRawTransfer n r i l e s := rfl
  refine runs_of_runS_eq hexec (d := (w.putRec t (parisonSrc n r) (rawHdr w n i r b st) l' fl).2.updSvcBody b (fun x => { x with rseq := x.rseq + 1 })) ?_
    hend.grants ⟨congrArg SvcBody.rseq hend.body, _, (recsOf_eq hend).trans (withRecs_recs _ _), rfl, rfl, hkind, rfl, hat.trans htime⟩
  rw [h.bound]
  dsimp only
  rw [bindStream_eq hserved]
  dsimp only
  rw [hrun, hst, herr, hdata, ← hfl, ← hw]
  rw [← hw] at hput
  cases run <;> exact if_pos hput

/-! ### Printer jobs (R215) -/

/-- The service tables, the grants and every context but one stay. -/
structure OffCtx (i : Nat) (c x : Chip) : Prop where
  svc : x.svc = c.svc
  grants : x.pond.grants = c.pond.grants
  refOk : ∀ j g, x.refOk j g = c.refOk j g
  ctx : ∀ j, j ≠ i → x.ctx j = c.ctx j

theorem OffCtx.of_fr {i : Nat} {w : Chip} (h : OffCtx i c x) (hf : Fr (keeping [.svc, .pond] []) x w) : OffCtx i c w := by
  have hp := hf.kept.pond (by simp)
  have hctx : ∀ j, w.ctx j = x.ctx j := ctx_of_ctxs (by rw [hp])
  exact ⟨(hf.kept.svc (by simp)).trans h.svc, by rw [hp, h.grants], fun j g => (refOk_of_ctx hctx j g).trans (h.refOk j g), fun j hj => (hctx j).trans (h.ctx j hj)⟩

theorem engWrite_offCtx (c : Chip) (n : Port) (i : Nat) (z : Body) : OffCtx i c (c.engWrite n i z) := by
  have hset : OffCtx i c (c.setBody i z) := ⟨rfl, rfl, setBody_refOk c i z, fun j hj => setBody_ctx_other c z hj⟩
  exact hset.of_fr (by apply Chip.touchBy_fr (Fr.refl _ _); simp)

theorem epMoved_offCtx (c : Chip) (n : Port) (d : Dev) (z : Nat × EpBody) (k : Nat) (flip : Bool) : OffCtx z.1 c (c.epMoved n d z k flip false) := by
  unfold Chip.epMoved
  extract_lets e c1 c2 r c3 c4
  have h1 : OffCtx z.1 c c1 := engWrite_offCtx c n z.1 _
  have h2 : OffCtx z.1 c c2 := by
    unfold c2
    split
    · exact h1.of_fr (by apply Chip.evSlow_fr (Fr.refl _ _); simp)
    · exact h1
  have h3 : OffCtx z.1 c c3 := ⟨h2.svc, h2.grants, h2.refOk, h2.ctx⟩
  have h4 : c4 = c3 := if_neg Bool.false_ne_true
  rw [h4]
  split
  · exact h3
  · exact h3.of_fr (Chip.active_fr (Fr.refl _ c3) (by simp) (by simp) (by simp))

theorem jobMoved_moves {o : Strm} {k : Nat} (hg : c.pond.grants = []) (hb : c.bind? b.port b.route b.iface = some b) (ho : c.bindOut b = some o)
    (hs : strmAt c o.id = some o) (hj : b.jobLen ≠ 0) (hk : 0 < k) (hlt : k < (c.svcBody b).job) (hw : k ≤ o.waiting) :
    (c.jobMoved b k).pond.grants = [] ∧ ((c.jobMoved b k).svcBody b).job = (c.svcBody b).job - k ∧
    (strmAt (c.jobMoved b k) o.id).map (·.inbound) = some (eatBytes k o.inbound) ∧
    ((c.jobMoved b k).bind? b.port b.route b.iface).map (fun x => (x.jobLen, x.jobAcked)) = some (b.jobLen, b.jobAcked + k) := by
  obtain ⟨b', hb'⟩ : ∃ b', { b with jobAcked := b.jobAcked + k } = b' := ⟨_, rfl⟩
  have hcore : bindCore b' = bindCore b := by rw [← hb']; rfl
  obtain ⟨w, hwd⟩ : ∃ w, (c.updStrm o.id (fun s => { s with inbound := eatBytes k s.inbound })).updBind b' (fun _ => b') = w := ⟨_, rfl⟩
  obtain ⟨v, hv⟩ : ∃ v, w.updSvcBody b' (fun x => { x with job := (c.svcBody b).job - k }) = v := ⟨_, rfl⟩
  have heq : c.jobMoved b k = v.active := by
    have hmin : min k (min (c.svcBody b).job o.waiting) = k := by omega
    unfold Chip.jobMoved
    rw [ho]
    dsimp only
    rw [hmin, if_neg (by omega), hb', hwd, hv, if_neg (Nat.ne_of_lt hlt)]
  have hact := active_fr v
  have hvf : Fr (keeping [.svc] []) w v := hv ▸ (by apply Chip.updSvcBody_fr (Fr.refl _ w) <;> simp)
  have hsvc : v.active.svc = w.svc := (hact.kept.svc (by decide)).trans (hvf.kept.svc (by simp))
  have hpond : v.active.pond = v.pond := hact.kept.pond (by decide)
  have hgrants : v.active.pond.grants = [] := by
    rw [hpond, ← hv, (updSvcBody_poolKept w b' _).grants, ← hwd]
    exact hg
  have hbody : v.active.svcBody b = { w.svcBody b' with job := (c.svcBody b).job - k } := by
    rw [svcBody_of_ctx (ctx_of_ctxs (c := v) (by rw [hpond]) _), ← svcBody_of_core hcore, ← hv]
    have htouch : ∀ d : Chip, (d.touchPool b'.port b'.cid true).pond = d.pond := fun d => by
      have hf : Fr (keeping [.pond] []) d (d.touchPool b'.port b'.cid true) := by
        apply Chip.touchPool_fr (Fr.refl _ d)
        simp
      exact hf.kept.pond (by simp)
    have hctx := ctx_of_ctxs (congrArg Pond.ctxs (htouch (w.setBody b'.cid (.service { w.svcBody b' with job := (c.svcBody b).job - k })))) b'.cid
    rw [setBody_ctx] at hctx
    unfold Chip.updSvcBody
    rw [Chip.svcBody, hctx]
  rw [heq]
  refine ⟨hgrants, by rw [hbody], ?_, ?_⟩
  · rw [strmAt, hsvc, ← hwd]
    exact congrArg (Option.map (·.inbound)) (updStrm_at (f := fun s => { s with inbound := eatBytes k s.inbound }) hs rfl)
  · rw [Chip.bind?, hsvc, ← hwd, updBind_of_core hcore]
    have hself : Bind.is b.port b.route b.iface b' = true := by
      rw [← hb']
      simp [Bind.is]
    refine (congrArg (Option.map _) (find?_updFirst (p := Bind.is b.port b.route b.iface) hb hself)).trans ?_
    rw [← hb']
    rfl

theorem runs_printerJob {n : Port} {r : BitVec 20} {i a k : Nat} {o : Strm} {d : Dev} {z : Nat × EpBody} (hg : s.chip.pond.grants = [])
    (h : s.chip.bound? n r i kPRINTER = some b) (ho : s.chip.bindOut b = some o) (hd : s.chip.dev? n r = some d) (hz : s.chip.jobEp d b = some z)
    (hm : z.2.mps ≠ 0) (hc : z.1 ≠ b.cid) (he : s.chip.epOpen n d z.2 = true) (hs : s.chip.sofRuns n = true) (hr : s.chip.root n = rsACTIVE)
    (hst : strmAt s.chip o.id = some o) (hj : b.jobLen ≠ 0) (hk : k = min a (min (s.chip.svcBody b).job o.waiting)) (hpos : 0 < k)
    (hlt : k < (s.chip.svcBody b).job) :
    Runs (.printerJob n r i a) s (fun c => (c.svcBody b).job = (s.chip.svcBody b).job - k ∧
      (strmAt c o.id).map (·.inbound) = some (eatBytes k o.inbound) ∧
      (c.bind? n r i).map (fun x => (x.jobLen, x.jobAcked)) = some (b.jobLen, b.jobAcked + k)) := by
  obtain ⟨hbind, hport, hroute, hiface, -⟩ := bound?_bind h
  subst hport hroute hiface
  obtain ⟨w, hw⟩ : ∃ w, s.chip.epMoved b.port d z k ((k + z.2.mps - 1) / z.2.mps % 2 == 1) false = w := ⟨_, rfl⟩
  have hoff : OffCtx z.1 s.chip w := hw ▸ epMoved_offCtx ..
  have hbody : w.svcBody b = s.chip.svcBody b := svcBody_of_ctx (hoff.ctx b.cid hc.symm)
  have hwo : w.bindOut b = some o := by
    rw [← ho, Chip.bindOut, Chip.bindOut, hbody]
    exact congrArg (Option.bind _) (funext fun r => strmRef?_of (by rw [hoff.svc]) hoff.refOk _ _)
  obtain ⟨hgrants, hjob, hin, hacked⟩ := jobMoved_moves (c := w) (hoff.grants.trans hg) (by rw [Chip.bind?, hoff.svc]; exact hbind) hwo
    (by rw [strmAt, hoff.svc]; exact hst) hj hpos (by rw [hbody]; exact hlt) (by omega)
  have hstart : s.chip.jobStart b = s.chip := by
    unfold Chip.jobStart
    rw [ho]
    exact if_pos (.inl hj)
  have hagain : s.chip.again b = b := by
    rw [Chip.again, hbind]
    rfl
  have hexec : exec (.printerJob b.port b.route b.iface a) s = execPrinterJob b.port b.route b.iface a s := rfl
  refine runs_of_runS_eq hexec (d := w.jobMoved b k) ?_ hgrants ⟨hjob.trans (by rw [hbody]), hin, hacked⟩
  rw [h, hd]
  dsimp only
  rw [hstart, hagain, hz, ho]
  dsimp only
  rw [← hk, if_neg (by rw [hs, hr, he]; simp [hj, hm]; omega), beq_false_of_ne (Nat.ne_of_lt hlt), hw]

/-! ### A device matched (R207) -/

theorem runs_classMatch {n : Port} {r : BitVec 20} {d : Dev} {x : IfDesc} {m : MatchRule} (hg : s.chip.pond.grants = []) (hd : s.chip.dev? n r = some d)
    (hc : d.configured = true) (hr : s.chip.svc.rebuilding = false) (hi : d.ifaces = [x]) (hm : d.matchDue = true)
    (hcov : s.chip.covered n d x.num = false) (hroom : s.chip.bindRoom n = true) (hk : kindAccepts m.kind x d = true)
    (hcovs : (coveredIfs m.kind x.num d).any (fun j => s.chip.covered n d j) = false) (hrules : s.chip.svc.bindRules = [])
    (hfind : s.chip.svc.rules.find? (fun y => y.matches n d x) = some m) (hp : m.profile < 16) (hst : s.chip.strm? m.stream = none) :
    Runs (.classMatch n r) s (fun c => (c.bind? n r x.num).map (fun b => (b.kind, b.profile, b.stream, b.out, b.pending)) =
      some (m.kind, m.profile, m.stream, m.out, some (if s.chip.hsRuns then .noStream else .headspring))) := by
  have hroute : d.route = r := by simpa using List.find?_some hd
  obtain ⟨b, hb⟩ : ∃ b, newBind n d.route x.num m.kind m.profile m.stream m.out none = b := ⟨_, rfl⟩
  obtain ⟨w, hw⟩ : ∃ w, s.chip.updDev n r (fun d => { d with matchDue := false }) = w := ⟨_, rfl⟩
  have hws : w.svc = s.chip.svc ∧ w.pond = s.chip.pond ∧ w.hsRuns = s.chip.hsRuns := by
    rw [← hw]
    exact ⟨rfl, rfl, rfl⟩
  obtain ⟨hsvc, hpond, hhs⟩ := hws
  have hnone : ∀ y ∈ w.svc.binds, Bind.is n r x.num y = false := by
    rw [hsvc]
    exact bind?_none hd hcovs
  have hruled : ∀ j, w.ruled n d j = none := fun j => by
    rw [Chip.ruled, hsvc, hrules]
    rfl
  have hmatch : (w.matchFor n d x).filter (fun b => !(coveredIfs b.kind x.num d).any (fun j => w.covered n d j)) = some b := by
    have hcovw : ∀ j, w.covered n d j = s.chip.covered n d j := fun j => by rw [Chip.covered, Chip.covered, hsvc]
    have hfor : w.matchFor n d x = some b := by
      unfold Chip.matchFor
      rw [hruled]
      dsimp only
      rw [hsvc, hfind, Option.filter_some, if_pos (by simp [hk, hp, hruled])]
      exact congrArg some hb
    have hkind : b.kind = m.kind := by
      rw [← hb]
      rfl
    rw [hfor, Option.filter_some, if_pos]
    simp only [hkind, hcovw, hcovs]
    rfl
  obtain ⟨v, hv⟩ : ∃ v, w.updSvc (fun v => { v with binds := v.binds ++ [b] }) = v := ⟨_, rfl⟩
  have hlast : LastBind v w.svc.binds b := by
    rw [← hv]
    rfl
  obtain ⟨his, hbp, hbr, hbi, hbs⟩ : Bind.is n r x.num b = true ∧ b.port = n ∧ b.route = r ∧ b.iface = x.num ∧ b.stream = m.stream := by
    rw [← hb, ← hroute]
    exact ⟨newBind_is .., rfl, rfl, rfl, rfl⟩
  have hpend : ∀ p, LastBind (v.pendBind b p) w.svc.binds { b with pending := some p } := pendBind_last hlast (by rw [hbp, hbr, hbi]; exact hnone)
    (by rw [hbp, hbr, hbi]; exact his)
  have hadd : w.addBind b = v.pendBind b .noStream := by
    obtain ⟨d', hd'⟩ : ∃ d', v.dev? b.port b.route = some d' := by
      rw [hbp, hbr, ← hv, ← hw]
      refine ⟨{ d with matchDue := false }, ?_⟩
      rw [Chip.dev?, updSvc_ports, Chip.updDev, updDrop_same]
      exact find?_updFirst (p := fun d : Dev => d.route == r) hd (by simp [hroute])
    have hno : v.bindStreams b = none := bindStreams_none (by
      have hstreams : v.svc.streams = s.chip.svc.streams := by
        rw [← hv, ← hsvc]
        rfl
      rw [hbs, Chip.strm?, hstreams]
      exact hst)
    rw [Chip.addBind, hv, Chip.tryBind, hd']
    dsimp only
    rw [hno]
  obtain ⟨p, hpe⟩ : ∃ p, (if s.chip.hsRuns then PendCause.noStream else .headspring) = p := ⟨_, rfl⟩
  have heq : s.chip.classMatch n r = v.pendBind b p := by
    have hcovw : w.covered n d x.num = false := by rw [Chip.covered, hsvc]; exact hcov
    have hroomw : w.bindRoom n = true := by rw [Chip.bindRoom, hsvc]; exact hroom
    unfold Chip.classMatch
    rw [hd]
    dsimp only
    rw [hc, hm, hr, if_neg (by decide), hi, hw]
    simp only [List.filter_cons, List.filter_nil]
    rw [Chip.ruled, hrules]
    simp only [List.find?_nil, Option.isSome_none, Option.isNone_none, Bool.false_eq_true, if_false, if_true, List.nil_append]
    show (if w.covered n d x.num || !w.bindRoom n then w else _) = _
    rw [hcovw, hroomw, if_neg (by decide), hmatch]
    dsimp only
    rw [hhs, hadd, hv, ← hpe]
    split <;> rfl
  have hfr : Fr (keeping [.pond] []) v (v.pendBind b p) := by
    refine Chip.syncSvc_fr (Chip.postOwn_fr (Chip.updBind_fr (Fr.refl _ v) ?_) ?_) ?_ <;> simp
  have hexec : exec (.classMatch n r) s = execClassMatch n r s := rfl
  refine runs_of_runS_eq hexec heq ?_ ?_
  · rw [hfr.kept.pond (by simp), ← hv]
    exact (congrArg Pond.grants hpond).trans hg
  · rw [(hpend p).bind? hnone his, hpe, ← hb]
    rfl

/-! ### The keys of a report (R212) -/

/-- Where a binding is. -/
def bindPlace (b : Bind) : Port × BitVec 20 × Nat := (b.port, b.route, b.iface)

/-- The grants stay, and the bindings stay where they are. -/
def BindsKept (c x : Chip) : Prop := x.pond.grants = c.pond.grants ∧ x.svc.binds.map bindPlace = c.svc.binds.map bindPlace

theorem BindsKept.refl (c : Chip) : BindsKept c c := ⟨rfl, rfl⟩

theorem BindsKept.trans {a b d : Chip} (h : BindsKept a b) (h' : BindsKept b d) : BindsKept a d := ⟨h'.1.trans h.1, h'.2.trans h.2⟩

theorem bindsKept_of_fr {a : Chip} (hf : Fr (keeping [.svc, .pond] []) c a) : BindsKept c a := by
  rw [BindsKept, hf.kept.pond (by simp), hf.kept.svc (by simp)]
  exact ⟨rfl, rfl⟩

theorem map_updFirst_place {p : Bind → Bool} {f : Bind → Bind} (hf : ∀ z, bindPlace (f z) = bindPlace z) : ∀ l : List Bind,
    (updFirst p f l).map bindPlace = l.map bindPlace
  | [] => rfl
  | z :: l => by
    rw [updFirst]
    split
    · rw [List.map_cons, List.map_cons, hf]
    · rw [List.map_cons, List.map_cons, map_updFirst_place hf l]

theorem updBind_bindsKept (c : Chip) (b : Bind) {f : Bind → Bind} (hf : ∀ z, bindPlace (f z) = bindPlace z) : BindsKept c (c.updBind b f) :=
  ⟨rfl, map_updFirst_place hf _⟩

/-- A write of a binding in its place, after a step that keeps the bindings. -/
theorem BindsKept.updBind (h : BindsKept c x) (b : Bind) {f : Bind → Bind} (hf : ∀ z, bindPlace (f z) = bindPlace z) : BindsKept c (x.updBind b f) :=
  h.trans (updBind_bindsKept x b hf)

theorem updSvcBody_bindsKept (c : Chip) (b : Bind) (f : SvcBody → SvcBody) : BindsKept c (c.updSvcBody b f) := by
  have hf : Fr (keeping [.svc] []) c (c.updSvcBody b f) := by apply Chip.updSvcBody_fr (Fr.refl _ c) <;> simp
  exact ⟨(updSvcBody_poolKept c b f).grants, by rw [hf.kept.svc (by simp)]⟩

theorem BindsKept.updSvcBody (h : BindsKept c x) (b : Bind) (f : SvcBody → SvcBody) : BindsKept c (x.updSvcBody b f) := h.trans (updSvcBody_bindsKept x b f)

theorem active_bindsKept (c : Chip) : BindsKept c c.active := bindsKept_of_fr (Chip.active_fr (Fr.refl _ c) (by simp) (by simp) (by simp))

theorem evOverrun_bindsKept (c : Chip) (t : Strm) (k n : Nat) : BindsKept c (c.evOverrun t k n) :=
  bindsKept_of_fr (by apply Chip.evOverrun_fr (Fr.refl _ c) <;> simp)

theorem updStrm_bindsKept (c : Chip) (id : BitVec 16) (f : Strm → Strm) : BindsKept c (c.updStrm id f) := ⟨rfl, rfl⟩

theorem closeRec_bindsKept (c : Chip) (id : BitVec 16) (k : Nat × Nat × Nat) (fl : Nat) : BindsKept c (c.closeRec id k fl) := ⟨rfl, rfl⟩

theorem flagRec_bindsKept (c : Chip) (b : Bind) (fl : Nat) : BindsKept c (c.flagRec b fl) := ⟨rfl, rfl⟩

theorem updRec_bindsKept (c : Chip) (id : BitVec 16) (k : Nat × Nat × Nat) (f : Rec → Rec) : BindsKept c (c.updRec id k f) := ⟨rfl, rfl⟩

theorem culletRecs_bindsKept (c : Chip) (k : Nat) (p : Rec → Bool) : BindsKept c (c.culletRecs k p) := ⟨rfl, rfl⟩

theorem openRec_bindsKept (c : Chip) (t : Strm) (src : Nat) (k : Nat × Nat × Nat) (hdr : RecHdr) (l : List Byte) :
    BindsKept c (c.openRec t src k hdr l).2 := by
  unfold Chip.openRec
  dsimp only
  split
  · exact (updStrm_bindsKept _ _ _).trans (evOverrun_bindsKept _ _ _ _)
  · exact (updStrm_bindsKept _ _ _).trans (bindsKept_of_fr (by apply Chip.touchPool_fr (Fr.refl _ _); simp))

theorem openBindRec_bindsKept (c : Chip) (b : Bind) : BindsKept c (c.openBindRec b) := by
  unfold Chip.openBindRec
  split
  · exact .refl c
  · dsimp only
    have h := openRec_bindsKept c ‹_› (parisonSrc b.port b.route) b.key (c.recHdr b.port c.sei.time b.kind 0 b.iface b.route.toNat (bindRef b.cid b.gen)) []
    split
    · refine .trans (.updSvcBody (.updBind h b ?_) _ _) (active_bindsKept _)
      exact fun _ => rfl
    · exact h

theorem closeBindRec_bindsKept (c : Chip) (b : Bind) (k : Nat) (dis : Bool) : BindsKept c (c.closeBindRec b k dis) := by
  unfold Chip.closeBindRec
  extract_lets c1 c2
  have h1 : BindsKept c c1 := closeRec_bindsKept c _ _ _
  have h2 : BindsKept c c2 := h1.updBind b fun _ => rfl
  exact (h2.updSvcBody _ _).trans (active_bindsKept _)

theorem appendRec_bindsKept (c : Chip) (b : Bind) (f : List Byte → List Byte) : BindsKept c (c.appendRec b f) := by
  unfold Chip.appendRec
  split
  · dsimp only
    split
    · exact (((culletRecs_bindsKept c _ _).trans (updStrm_bindsKept _ _ _)).trans (evOverrun_bindsKept _ _ _ _)).trans (updSvcBody_bindsKept _ _ _)
    · exact (updRec_bindsKept c _ _ _).trans (updSvcBody_bindsKept _ _ _)
  · exact .refl c

theorem feed_bindsKept (c : Chip) (b : Bind) (ch : Byte) : BindsKept c (c.feed b ch) := by
  unfold Chip.feed
  extract_lets b1 c1 c2 b2 mode max_ keep pair c3 c4
  have h1 : BindsKept c c1 := updBind_bindsKept c b1 fun _ => rfl
  have h2 : BindsKept c c2 := by
    unfold c2
    split
    · exact h1.trans (openBindRec_bindsKept _ _)
    · exact h1
  split
  · split
    · refine .updSvcBody (.updBind h1 _ ?_) _ _
      exact fun _ => rfl
    · exact .updBind h1 _ fun _ => rfl
  split
  · exact h2
  split
  · have h3 : BindsKept c c3 := by
      unfold c3
      split
      · exact h2.trans (appendRec_bindsKept _ _ _)
      split
      · exact h2.trans (appendRec_bindsKept _ _ _)
      · exact h2
    split
    · exact h3.trans (closeBindRec_bindsKept _ _ _ _)
    · exact h3
  · have h4 : BindsKept c c4 := .updBind (h2.trans (appendRec_bindsKept _ _ _)) _ fun _ => rfl
    split
    · exact h4
    split
    · exact h4
    split
    · exact h4.trans (closeBindRec_bindsKept _ _ _ _)
    · exact h4.trans (closeBindRec_bindsKept _ _ _ _)

theorem keyDown_bindsKept (c : Chip) (b : Bind) (k : Nat) (u : Byte) : BindsKept c (c.keyDown b k u) := by
  unfold Chip.keyDown
  extract_lets b1 c1 b2 ch c2
  have h1 : BindsKept c c1 := by
    unfold c1
    split
    · exact openBindRec_bindsKept c _
    · exact .refl c
  split
  · have h2 : BindsKept c c2 := .updBind h1 _ fun _ => rfl
    exact h2.trans (flagRec_bindsKept _ _ _)
  · exact h1.trans (feed_bindsKept _ _ _)

theorem each_bindsKept {α : Type} {g : Chip → α → Chip} (h : ∀ c x, BindsKept c (g c x)) : ∀ (l : List α) (c : Chip), BindsKept c (c.each l g)
  | [], c => .refl c
  | x :: l, c => (h c x).trans (each_bindsKept h l (g c x))

theorem find?_of_place {l l' : List Bind} {n : Port} {r : BitVec 20} {i : Nat} : l'.map bindPlace = l.map bindPlace → (l.find? (Bind.is n r i)).isSome = true →
    ∃ z, l'.find? (Bind.is n r i) = some z ∧ bindPlace z = (n, r, i) := by
  intro hm hs
  have his : ∀ z : Bind, Bind.is n r i z = (bindPlace z == (n, r, i)) := fun z => by
    rw [Bind.is, Bool.and_assoc]
    rfl
  obtain ⟨z, hz, hp⟩ := List.find?_isSome.1 hs
  have hplace : (n, r, i) ∈ l'.map bindPlace := by
    rw [hm]
    exact List.mem_map.2 ⟨z, hz, by simpa [his] using hp⟩
  obtain ⟨z', hz', hp'⟩ := List.mem_map.1 hplace
  have hsome : (l'.find? (Bind.is n r i)).isSome = true := List.find?_isSome.2 ⟨z', hz', by
    rw [his, hp']
    exact beq_self_eq_true _⟩
  obtain ⟨z'', hfind⟩ := Option.isSome_iff_exists.1 hsome
  exact ⟨z'', hfind, by simpa [his] using List.find?_some hfind⟩

theorem runs_hidPrev {n : Port} {r : BitVec 20} {i : Nat} {rep : List Byte} (hg : s.chip.pond.grants = []) (h : s.chip.bound? n r i kHID = some b)
    (hall : ((bytesAt rep 0 8).drop 2).all (fun k => k == 1#8) = false) :
    Runs (.hidReport n r i rep) s (fun c => (c.bind? n r i).map (·.prev) = some (bytesAt rep 0 8)) := by
  obtain ⟨hbind, hport, hroute, hiface, -⟩ := bound?_bind h
  obtain ⟨w, hw⟩ : ∃ w, s.chip.each (((bytesAt rep 0 8).drop 2).filter (fun k => k != 0#8 && !(b.prev.drop 2).contains k))
    (fun c k => c.keyDown b (hidLayer ((bytesAt rep 0 8).headD 0#8)) k) = w := ⟨_, rfl⟩
  obtain ⟨hgw, hbw⟩ : BindsKept s.chip w := hw ▸ each_bindsKept (fun c k => keyDown_bindsKept c b _ k) _ _
  obtain ⟨z, hz, hplace⟩ := find?_of_place hbw (by rw [show s.chip.svc.binds.find? (Bind.is n r i) = some b from hbind]; rfl)
  have hexec : exec (.hidReport n r i rep) s = execHidReport n r i rep s := rfl
  refine runs_of_runS_eq hexec (d := w.updBind b (fun x => { x with prev := bytesAt rep 0 8 })) ?_ (hgw.trans hg) ?_
  · rw [h]
    dsimp only
    rw [hall, ← hw]
    rfl
  · have hself : Bind.is n r i { z with prev := bytesAt rep 0 8 } = true := List.find?_some (p := Bind.is n r i) (a := z) hz
    rw [Chip.bind?, Chip.updBind, hport, hroute, hiface]
    exact (congrArg (Option.map _) (find?_updFirst (p := Bind.is n r i) (f := fun x => { x with prev := bytesAt rep 0 8 }) hz hself)).trans rfl

end

/-- Settles O25: what the devices of a drop send becomes records of the services bound to them. -/
theorem svcTraffic : Obligations.SvcTraffic := by
  unfold Obligations.SvcTraffic
  intro s hc hg n r i b t
  refine ⟨?_, ?_, ?_, ?_, ?_, ?_, ?_, ?_, ?_, ?_, ?_, ?_, ?_, ?_⟩
  · exact fun d x m hd hcf hr hi hm hcov hroom hk hcovs hrules hfind hp hst => runs_classMatch hg hd hcf hr hi hm hcov hroom hk hcovs hrules hfind hp hst
  · exact fun rep h hall => runs_hidPrev hg h hall
  · exact fun rep u ch x h ho hd hall hdown hu hch hne ht hl hf => runs_hidByte hg h ho hd hall hdown hu hch hne ht hl hf
  · exact fun rep h hall => runs_hidRollover hg h hall
  · exact fun ch x h ho hd ht hl hf => runs_cdcByte hg h ho hd ht hl hf
  · exact fun ch x h ho hd hm ht hk hq => runs_cdcEnd hg h ho hd hm ht hk hq
  · exact fun st h => runs_serialState hg st h
  · exact fun a k o d x h ho hd hz hm hcid he hs hr hst hj hk hpos hlt => runs_printerJob hg h ho hd hz hm hcid he hs hr hst hj hk hpos hlt
  · exact fun p h hp hf hd hs hr => runs_printerStatus hg h hp hf hd hs hr
  · exact fun p h hp => runs_printerSame hg h hp
  · exact fun p h hd => runs_printerEarly p hg h hd
  · intro l h hmax hlen hf hrun
    exact runs_raw hg h rfl hrun rfl rfl (fun _ => ⟨hmax, hlen⟩) (by omega)
  · intro l h hf
    refine runs_imp (runs_raw hg h rfl (Bool.true_or _) rfl rfl (fun he => by cases he) (by simpa using hf)) ?_
    rintro c ⟨-, x, hrec, -, hfl, -, hdata, -⟩
    exact ⟨x, hrec, hfl, hdata⟩
  · exact fun x h ho hgap hm hl => runs_gapMs hg h ho hgap hm hl

end Sys2Proof.Proofs

namespace Sys2Proof.Proofs

open Sys2Proof.Machine Sys2Proof.Laws

/-! The CAN controller of a line: what it receives and sends, its error counts, bus-off and TIME frames (11 R222, R223, R228 to R235, R244). -/

section

variable {s : State} {c x : Chip} {n : Port}

/-! ### The error counters (R234) -/

/-- What the error counters' steps may change. -/
def frErr : Frame := ⟨[.doors, .ports], fun r => r matches .LINE_ERR _⟩

/-- The port but for the arming of its line's warnings. -/
def WarnedAt (n : Port) (c x : Chip) : Prop := ∃ a b, x.ports[n] = { c.ports[n] with line := { (c.ports[n]).line with warnA := a, warnB := b } }

theorem WarnedAt.refl (n : Port) (c : Chip) : WarnedAt n c c := ⟨_, _, rfl⟩

theorem WarnedAt.trans {a b d : Chip} (h : WarnedAt n a b) (h' : WarnedAt n b d) : WarnedAt n a d := by
  obtain ⟨p, q, hb⟩ := h
  obtain ⟨p', q', hd⟩ := h'
  exact ⟨p', q', by rw [hd, hb]⟩

theorem warnedAt_of_ports (h : x.ports = c.ports) : WarnedAt n c x := ⟨_, _, by rw [h]⟩

theorem warnedAt_updLine {g h : Line → Bool} : WarnedAt n c (c.updLine n (fun l => { l with warnA := g l, warnB := h l })) :=
  ⟨g (c.ports[n]).line, h (c.ports[n]).line, by rw [Chip.updLine, updPort_same]⟩

/-- What a step on the error counters of a line leaves. -/
structure Counted (n : Port) (c x : Chip) (tec rec_ st : Nat) : Prop where
  canon : Canon x
  tec : x.get (.LINE_ERR n) F.LINE_ERR_TEC = tec
  rec_ : x.get (.LINE_ERR n) F.LINE_ERR_REC = rec_
  state : x.get (.LINE_ERR n) F.LINE_ERR_STATE = st
  kept : Fr frErr c x
  line : WarnedAt n c x

theorem counted_self (hc : Canon c) : Counted n c c (c.get (.LINE_ERR n) F.LINE_ERR_TEC) (c.get (.LINE_ERR n) F.LINE_ERR_REC)
    (c.get (.LINE_ERR n) F.LINE_ERR_STATE) := ⟨hc, rfl, rfl, rfl, Fr.refl _ c, .refl n c⟩

theorem Counted.trans {a b d : Chip} {t r u t' r' u' : Nat} (h : Counted n a b t r u) (h' : Counted n b d t' r' u') : Counted n a d t' r' u' :=
  ⟨h'.canon, h'.tec, h'.rec_, h'.state, fr_trans h.kept h'.kept, h.line.trans h'.line⟩

/-- A further step on the doors or on the warnings alone. -/
theorem Counted.andThen {w : Chip} {t r u : Nat} (h : Counted n c x t r u) (hr : ∀ q, w.rd q = x.rd q) (hf : Fr frErr x w) (hw : WarnedAt n x w) :
    Counted n c w t r u :=
  ⟨hf.canon h.canon, (get_of_rd (hr _) _).trans h.tec, (get_of_rd (hr _) _).trans h.rec_, (get_of_rd (hr _) _).trans h.state, fr_trans h.kept hf,
    h.line.trans hw⟩

theorem Counted.post {t r u : Nat} (h : Counted n c x t r u) (e : Event) : Counted n c (x.post e) t r u := by
  have hf : Fr (keeping [.ports] []) x (x.post e) := fr_post x e (by simp)
  refine h.andThen (fun q => (fr_post (ps := []) (rs := [q]) x e (by simp)).kept.regs q (by simp)) (Chip.post_fr (Fr.refl _ x) (by decide)) ?_
  exact warnedAt_of_ports (hf.kept.ports (by simp))

/-- A status field of LINE_ERR apart from the counters and the state. -/
theorem Counted.setWarn {t r u : Nat} (h : Counted n c x t r u) {g : Field} (hg : g = F.LINE_ERR_WARN_A ∨ g = F.LINE_ERR_WARN_B) (v : Nat) :
    Counted n c (x.setSt (.LINE_ERR n) g v) t r u := by
  have hfield : ∀ f, f = F.LINE_ERR_TEC ∨ f = F.LINE_ERR_REC ∨ f = F.LINE_ERR_STATE →
      (x.setSt (.LINE_ERR n) g v).get (.LINE_ERR n) f = x.get (.LINE_ERR n) f := by
    rintro f (rfl | rfl | rfl) <;> obtain rfl | rfl := hg <;> exact get_setSt_field x h.canon _ _ _ v (by decide) (by decide) (by decide)
  have hf : Fr frErr x (x.setSt (.LINE_ERR n) g v) := Chip.setSt_fr (Fr.refl _ x) rfl
  exact ⟨canon_setSt h.canon _ _ _, (hfield _ (.inl rfl)).trans h.tec, (hfield _ (.inr (.inl rfl))).trans h.rec_, (hfield _ (.inr (.inr rfl))).trans h.state,
    fr_trans h.kept hf, h.line.trans (warnedAt_of_ports ((Chip.setSt_fr (f := ⟨[], fun _ => true⟩) (Fr.refl _ x) rfl).kept.ports (by decide)))⟩

/-- The state field written. -/
theorem Counted.setState {t r u : Nat} (h : Counted n c x t r u) {v : Nat} (hv : v < 4) :
    Counted n c (x.setSt (.LINE_ERR n) F.LINE_ERR_STATE v) t r v := by
  have hf : Fr frErr x (x.setSt (.LINE_ERR n) F.LINE_ERR_STATE v) := Chip.setSt_fr (Fr.refl _ x) rfl
  exact ⟨canon_setSt h.canon _ _ _, (get_setSt_field x h.canon _ _ _ v (by decide) (by decide) (by decide)).trans h.tec,
    (get_setSt_field x h.canon _ _ _ v (by decide) (by decide) (by decide)).trans h.rec_,
    get_setSt_same x h.canon _ _ v (by decide) (by decide) hv, fr_trans h.kept hf,
    h.line.trans (warnedAt_of_ports ((Chip.setSt_fr (f := ⟨[], fun _ => true⟩) (Fr.refl _ x) rfl).kept.ports (by decide)))⟩

theorem setCounters_counted (hc : Canon c) {tec rec_ : Nat} (ht : tec < 256) (hr : rec_ < 256) :
    Counted n c (c.setCounters n tec rec_) tec rec_ (c.get (.LINE_ERR n) F.LINE_ERR_STATE) := by
  unfold Chip.setCounters
  extract_lets t r a b l postA postB c1 c2 c3 c4
  have h1 : Counted n c c1 tec rec_ (c.get (.LINE_ERR n) F.LINE_ERR_STATE) := by
    have hcan := canon_setF hc (.LINE_ERR n) F.LINE_ERR_TEC tec
    refine ⟨canon_setF hcan _ _ _, ?_, ?_, ?_, ?_, warnedAt_of_ports rfl⟩
    · rw [get_setF_field _ hcan _ _ _ _ (by decide) (by decide) (by decide), get_setF_same c hc _ _ _ (by decide)]
      exact Nat.mod_eq_of_lt ht
    · rw [get_setF_same _ hcan _ _ _ (by decide)]
      exact Nat.mod_eq_of_lt hr
    · rw [get_setF_field _ hcan _ _ _ _ (by decide) (by decide) (by decide), get_setF_field c hc _ _ _ _ (by decide) (by decide) (by decide)]
    · exact Chip.setF_fr (Chip.setF_fr (Fr.refl _ c) rfl) rfl
  have h2 : Counted n c c2 tec rec_ (c.get (.LINE_ERR n) F.LINE_ERR_STATE) :=
    h1.andThen (fun _ => rfl) (Chip.updLine_fr (Fr.refl _ c1) (by decide)) warnedAt_updLine
  have h3 : Counted n c c3 tec rec_ (c.get (.LINE_ERR n) F.LINE_ERR_STATE) := by
    unfold c3 Chip.warnBits
    extract_lets tec' rec' a' b' onA onB w v
    have hw : Counted n c w tec rec_ _ := h2.setWarn (.inl rfl) _
    have hv : Counted n c v tec rec_ _ := hw.setWarn (.inr rfl) _
    exact hv.andThen (fun _ => rfl) (Chip.updLine_fr (Fr.refl _ v) (by decide)) warnedAt_updLine
  have h4 : Counted n c c4 tec rec_ (c.get (.LINE_ERR n) F.LINE_ERR_STATE) := by
    unfold c4
    split
    · exact h3.post _
    · exact h3
  split
  · exact h4.post _
  · exact h4

/-- Counters written outside bus-off leave the state that they call for. -/
theorem countErrors_counted (hc : Canon c) {tec rec_ : Nat} (ht : tec < 256) (hr : rec_ < 256) (hoff : c.lineOff n = false) :
    Counted n c (c.countErrors n tec rec_) tec rec_ (if 128 ≤ tec ∨ 128 ≤ rec_ then lePASSIVE else leACTIVE) := by
  have h := setCounters_counted (n := n) hc ht hr
  have hst : c.get (.LINE_ERR n) F.LINE_ERR_STATE < 2 := Nat.lt_of_not_le (of_decide_eq_false hoff)
  unfold Chip.countErrors
  extract_lets w passive was v
  have hpass : passive = decide (128 ≤ tec ∨ 128 ≤ rec_) := (Bool.decide_or _ _).symm
  have hwas : was = (c.get (.LINE_ERR n) F.LINE_ERR_STATE == lePASSIVE) := congrArg (· == lePASSIVE) h.state
  split
  next heq =>
    have heq := beq_iff_eq.1 heq
    rw [hpass, hwas] at heq
    have hstate : c.get (.LINE_ERR n) F.LINE_ERR_STATE = if 128 ≤ tec ∨ 128 ≤ rec_ then lePASSIVE else leACTIVE := by
      by_cases hp : 128 ≤ tec ∨ 128 ≤ rec_
      · rw [if_pos hp]
        simpa [hp] using heq.symm
      · rw [if_neg hp]
        have hne : c.get (.LINE_ERR n) F.LINE_ERR_STATE ≠ 1 := by simpa [hp, lePASSIVE] using heq.symm
        simp only [leACTIVE]
        omega
    rw [← hstate]
    exact h
  next =>
    have hv : Counted n c v tec rec_ (if passive then lePASSIVE else leACTIVE) := h.setState (by split <;> decide)
    have hif : (if passive then lePASSIVE else leACTIVE) = if 128 ≤ tec ∨ 128 ≤ rec_ then lePASSIVE else leACTIVE := by
      rw [hpass]
      simp only [decide_eq_true_eq]
    rw [← hif]
    exact hv.post _

/-! ### A frame received (R222, R229, R230) -/

/-- What the good frame itself may change before it is filtered. -/
def frHeard : Frame := ⟨[.doors, .ports, .free, .basins, .pwr], fun r => (r matches .LINE_ERR _) || (r matches .PWR_STATUS)⟩

/-- The register file is canonical, and little but the line's error counts has changed. -/
structure Heard (n : Port) (c x : Chip) : Prop where
  canon : Canon x
  kept : Fr frHeard c x
  line : WarnedAt n c x
  up : ∀ m, x.basinUp m = c.basinUp m

theorem Heard.trans {a b d : Chip} (h : Heard n a b) (h' : Heard n b d) : Heard n a d :=
  ⟨h'.canon, fr_trans h.kept h'.kept, h.line.trans h'.line, fun m => (h'.up m).trans (h.up m)⟩

theorem errCount_lt (c : Chip) (n : Port) : c.get (.LINE_ERR n) F.LINE_ERR_TEC < 256 ∧ c.get (.LINE_ERR n) F.LINE_ERR_REC < 256 :=
  ⟨(BitVec.extractLsb' _ _ _).isLt, (BitVec.extractLsb' _ _ _).isLt⟩

theorem basinUp_of_fr (h : Fr (keeping [.clk, .basins, .pwr] []) c x) (m : Port) : x.basinUp m = c.basinUp m := by
  unfold Chip.basinUp Chip.dozing Chip.asleep
  rw [h.kept.clk (by simp), h.kept.basins (by simp), h.kept.pwr (by simp)]

theorem ungateBasins_inReset (c : Chip) (b : Basin) : (c.ungateBasins.basins[b]).inReset = (c.basins[b]).inReset := by
  unfold Chip.ungateBasins
  split
  · simp
  · rfl

theorem active_basinUp (c : Chip) (m : Port) : c.active.basinUp m = c.basinUp m := by
  rw [active_eq]
  split
  next h =>
    have hb : ((idleLeft c).basins[basinOf m]).inReset = (c.basins[basinOf m]).inReset := ungateBasins_inReset _ _
    have hf : Fr (keeping [.pwr, .clk] []) ((roused c).updPwr (fun p => { p with st := .run, runFrom := c.clk.now })) (idleLeft c) :=
      Chip.setF_fr (Chip.ungateBasins_fr (Fr.refl _ _) (by simp)) (by simp)
    unfold Chip.basinUp Chip.dozing Chip.asleep
    rw [hb, hf.kept.pwr (by simp), hf.kept.clk (by simp), h]
    rfl
  · rfl

theorem active_heard (hc : Canon c) (n : Port) : Heard n c c.active := by
  have hf : Fr frHeard c c.active := Chip.active_fr (Fr.refl _ c) (by decide) (by decide) rfl
  exact ⟨hf.canon hc, hf, warnedAt_of_ports ((active_fr c).kept.ports (by decide)), active_basinUp c⟩

theorem countErrors_heard (hc : Canon c) {t r : Nat} (ht : t < 256) (hr : r < 256) (ho : c.lineOff n = false) : Heard n c (c.countErrors n t r) := by
  have h := countErrors_counted hc ht hr ho
  exact ⟨h.canon, by apply Chip.countErrors_fr (Fr.refl _ c) <;> simp [frHeard], h.line,
    basinUp_of_fr (by apply Chip.countErrors_fr (Fr.refl _ c) <;> simp)⟩

theorem goodRx_heard (hc : Canon c) (ho : c.lineOff n = false) : Heard n c (c.goodRx n) := by
  obtain ⟨ht, hr⟩ := errCount_lt c n
  unfold Chip.goodRx
  extract_lets t r
  split
  · exact ⟨hc, Fr.refl _ c, .refl n c, fun _ => rfl⟩
  split
  · exact countErrors_heard hc ht (Nat.lt_of_le_of_lt (Nat.sub_le _ _) hr) ho
  · have hdraw : Heard n c c.draw.2 := ⟨⟨hc.regs, hc.flash, hc.blocks⟩, Chip.draw_fr2 (Fr.refl _ c) (by decide), .refl n c, fun _ => rfl⟩
    refine hdraw.trans (countErrors_heard hdraw.canon ht ?_ ho)
    have := Nat.mod_lt c.draw.1.toNat (show 0 < 9 by decide)
    omega

/-- The line is on its bus and hears. -/
structure Hears (c : Chip) (n : Port) : Prop where
  line : c.isLine n = true
  clock : c.lineClock = true
  joined : (c.ports[n]).line.joined = true
  on : c.lineOff n = false

/-- The chip when a good frame has been counted, before it is filtered. -/
def heard (c : Chip) (n : Port) (f : CanFrame) : Chip := (if c.pollAnswer n f then c else c.active).goodRx n

theorem lineOff_active (c : Chip) (n : Port) : c.active.lineOff n = c.lineOff n := by
  rw [Chip.lineOff, Chip.lineOff, active_get c _ (by simp)]

theorem heard_heard (hc : Canon c) (ho : c.lineOff n = false) (f : CanFrame) : Heard n c (heard c n f) := by
  unfold heard
  split
  · exact goodRx_heard hc ho
  · exact (active_heard hc n).trans (goodRx_heard (active_heard hc n).canon ((lineOff_active c n).trans ho))

theorem Heard.rd (h : Heard n c x) {r : Reg} (hr : frHeard.regs r = false) : x.rd r = c.rd r := h.kept.kept.regs r hr

theorem heard_filter (h : Heard n c x) (f : CanFrame) : x.filter n f = c.filter n f := by
  have ha : x.filterAction n f = c.filterAction n f := by
    funext k
    unfold Chip.filterAction
    rw [h.rd rfl, h.rd rfl]
  rw [Chip.filter, Chip.filter, ha]

/-- The frame as the filter passes it on. -/
def rxOf (c : Chip) (f : CanFrame) (g : Nat) : RxCan :=
  ⟨f, c.sei.time - BitVec.ofNat 64 g, 0, c.allPos (c.sei.time - BitVec.ofNat 64 g)⟩

theorem WarnedAt.lineFields (h : WarnedAt n c x) : (x.ports[n]).line.rxq0 = (c.ports[n]).line.rxq0 ∧ (x.ports[n]).line.ulp = (c.ports[n]).line.ulp := by
  obtain ⟨a, b, h⟩ := h
  rw [h]
  exact ⟨rfl, rfl⟩

/-- What a frame that goes to queue 1 or to the line's stream leaves. -/
structure QueuesKept (n : Port) (c x : Chip) : Prop where
  canon : Canon x
  rxq0 : (x.ports[n]).line.rxq0 = (c.ports[n]).line.rxq0
  ulp : (x.ports[n]).line.ulp = (c.ports[n]).line.ulp
  strangers : x.get (.LINE_CNT n) F.LINE_CNT_STRANGERS = c.get (.LINE_CNT n) F.LINE_CNT_STRANGERS
  pond : x.pond = c.pond

theorem QueuesKept.of_fr (hc : Canon c) (h : Fr (keeping [.ports, .pond] [.LINE_CNT n]) c x) : QueuesKept n c x := by
  have hp := h.kept.ports (by simp)
  exact ⟨h.canon hc, by rw [hp], by rw [hp], get_of_rd (h.kept.regs _ (by simp)) _, h.kept.pond (by simp)⟩

theorem QueuesKept.trans {a b d : Chip} (h : QueuesKept n a b) (h' : QueuesKept n b d) : QueuesKept n a d :=
  ⟨h'.canon, h'.rxq0.trans h.rxq0, h'.ulp.trans h.ulp, h'.strangers.trans h.strangers, h'.pond.trans h.pond⟩

theorem rxOverrun_one (hc : Canon c) (n : Port) : QueuesKept n c (c.rxOverrun n 1) := by
  have hinc : QueuesKept n c (c.incSat (.LINE_CNT n) F.LINE_CNT_RXQ1_OVR) :=
    ⟨canon_incSat hc _ _ _, rfl, rfl, get_setF_field c hc _ _ _ _ (by decide) (by decide) (by decide), rfl⟩
  exact hinc.trans (.of_fr hinc.canon (fr_postRate _ _ _ _ _ _ (by simp)))

theorem rxForeign_kept (hc : Canon c) (n : Port) (z : RxCan) : QueuesKept n c (c.rxForeign n z) := by
  unfold Chip.rxForeign
  split
  · exact .of_fr hc (by apply Chip.rxRecord_fr (Fr.refl _ c) <;> simp)
  split
  · exact rxOverrun_one hc n
  · refine ⟨⟨hc.regs, hc.flash, hc.blocks⟩, ?_, ?_, rfl, rfl⟩ <;> rw [updLine_same]

/-- A frame from none of the line's nodes is counted (R230). -/
theorem stranger_counted (hc : Canon c) (n : Port) (z : RxCan) (k : Nat) : ((c.stranger n z k).ports[n]).line.rxq0 = (c.ports[n]).line.rxq0 ∧
    ((c.stranger n z k).ports[n]).line.ulp = (c.ports[n]).line.ulp ∧
    (c.stranger n z k).get (.LINE_CNT n) F.LINE_CNT_STRANGERS = sat 16 (c.get (.LINE_CNT n) F.LINE_CNT_STRANGERS + 1) ∧
    (c.stranger n z k).pond = c.pond := by
  unfold Chip.stranger
  extract_lets c1 c2
  have hc1 : Canon c1 := canon_incSat hc _ _ _
  have h2 : QueuesKept n c1 c2 := by
    unfold c2
    split
    · exact rxForeign_kept hc1 n _
    · exact .of_fr hc1 (Fr.refl _ c1)
  have h3 : QueuesKept n c1 (c2.postRate (sec 1) n.val (c2.ev 0x050A 1 n.val [k, z.frame.id.toNat, 1]) (some 2)) :=
    h2.trans (.of_fr h2.canon (fr_postRate _ _ _ _ _ _ (by simp)))
  exact ⟨h3.rxq0, h3.ulp, h3.strangers.trans (get_incSat_same c hc _ _ 1 (by decide)), h3.pond⟩

/-- Where the filter's action sends a good frame, with `w` the chip that has counted it. -/
def filtered (c w : Chip) (n : Port) (z : RxCan) : Option Nat → Chip
  | none => w.stranger n z 1
  | some 1 =>
    if 64 ≤ (c.ports[n]).line.rxq0.length then w.rxOverrun n 0
    else (w.updLine n (fun l => { l with rxq0 := l.rxq0 ++ [z] })).updBasin (basinOf n) (fun b => { b with gated := false })
  | some 2 => w.rxForeign n z
  | some _ => w

theorem rxOf_heard {w : Chip} (h : Heard n c w) (f : CanFrame) (g : Nat) :
    (⟨f, c.sei.time - BitVec.ofNat 64 g, 0, w.allPos (c.sei.time - BitVec.ofNat 64 g)⟩ : RxCan) = rxOf c f g := by
  unfold rxOf Chip.allPos Chip.beltPos
  rw [h.kept.kept.sei (by decide)]

theorem runs_lineFrame {f : CanFrame} {g : Nat} {p : Chip → Prop} (hc : Canon s.chip) (h : Hears s.chip n)
    (hd : ∀ w, Heard n s.chip w → (filtered s.chip w n (rxOf s.chip f g) (s.chip.filter n f)).pond.grants = [] ∧
      p (filtered s.chip w n (rxOf s.chip f g) (s.chip.filter n f))) : Runs (.lineFrameReceive n ⟨f, false, g⟩) s p := by
  have hw := heard_heard hc h.on f
  obtain ⟨hgr, hp⟩ := hd _ hw
  have hexec : exec (.lineFrameReceive n ⟨f, false, g⟩) s = execLineFrameReceive n ⟨f, false, g⟩ s := rfl
  refine runs_of_runS_eq hexec ?_ hgr hp
  dsimp only
  rw [h.line, h.clock, h.joined, h.on, if_neg (by decide), if_neg (by decide)]
  obtain ⟨w, hwe⟩ : ∃ w, (if s.chip.pollAnswer n f then s.chip else s.chip.active).goodRx n = w := ⟨_, rfl⟩
  have hwh : heard s.chip n f = w := hwe
  rw [hwe, hwh, rxOf_heard (hwh ▸ hw), heard_filter (hwh ▸ hw)]
  generalize s.chip.filter n f = a
  rcases a with _ | _ | _ | _ | a <;> rfl

theorem Heard.pond (h : Heard n c x) : x.pond = c.pond := h.kept.kept.pond (by decide)

theorem runs_lineFrame_none {f : CanFrame} {g : Nat} (hc : Canon s.chip) (hg : s.chip.pond.grants = []) (h : Hears s.chip n) (hf : s.chip.filter n f = none) :
    Runs (.lineFrameReceive n ⟨f, false, g⟩) s (fun c => (c.ports[n]).line.rxq0 = (s.chip.ports[n]).line.rxq0 ∧
      c.get (.LINE_CNT n) F.LINE_CNT_STRANGERS = sat 16 (s.chip.get (.LINE_CNT n) F.LINE_CNT_STRANGERS + 1)) := by
  refine runs_lineFrame hc h fun w hw => ?_
  obtain ⟨hq, -, hs, hp⟩ := stranger_counted hw.canon n (rxOf s.chip f g) 1
  rw [hf]
  exact ⟨by rw [filtered, hp, hw.pond]; exact hg, hq.trans hw.line.lineFields.1, hs.trans (by rw [get_of_rd (hw.rd rfl)])⟩

theorem runs_lineFrame_queued {f : CanFrame} {g : Nat} (hc : Canon s.chip) (hg : s.chip.pond.grants = []) (h : Hears s.chip n)
    (hf : s.chip.filter n f = some 1) (hl : (s.chip.ports[n]).line.rxq0.length < 64) :
    Runs (.lineFrameReceive n ⟨f, false, g⟩) s (fun c => (c.ports[n]).line.rxq0 = (s.chip.ports[n]).line.rxq0 ++ [rxOf s.chip f g]) := by
  refine runs_lineFrame hc h fun w hw => ?_
  rw [hf, filtered, if_neg (Nat.not_le.2 hl)]
  refine ⟨(congrArg Pond.grants hw.pond).trans hg, ?_⟩
  rw [← hw.line.lineFields.1]
  exact congrArg Line.rxq0 (updLine_line w n (fun l => { l with rxq0 := l.rxq0 ++ [rxOf s.chip f g] }))

theorem runs_lineFrame_full {f : CanFrame} {g : Nat} (hc : Canon s.chip) (hg : s.chip.pond.grants = []) (h : Hears s.chip n)
    (hf : s.chip.filter n f = some 1) (hl : 64 ≤ (s.chip.ports[n]).line.rxq0.length) :
    Runs (.lineFrameReceive n ⟨f, false, g⟩) s (fun c => (c.ports[n]).line.rxq0 = (s.chip.ports[n]).line.rxq0 ∧
      c.get (.LINE_CNT n) F.LINE_CNT_RXQ0_OVR = sat 8 (s.chip.get (.LINE_CNT n) F.LINE_CNT_RXQ0_OVR + 1)) := by
  refine runs_lineFrame hc h fun w hw => ?_
  have hpost : Fr (keeping [.ports, .pond] [.LINE_CNT n]) (w.incSat (.LINE_CNT n) F.LINE_CNT_RXQ0_OVR) (w.rxOverrun n 0) :=
    fr_postRate _ _ _ _ _ _ (by simp)
  rw [hf, filtered, if_pos hl]
  refine ⟨?_, ?_, ?_⟩
  · rw [hpost.kept.pond (by simp)]
    exact (congrArg Pond.grants hw.pond).trans hg
  · rw [hpost.kept.ports (by simp)]
    exact hw.line.lineFields.1
  · rw [get_of_rd (hpost.kept.regs _ (by simp)), get_incSat_same w hw.canon _ _ 1 (by decide), get_of_rd (hw.rd rfl)]
    rfl

theorem runs_lineFrame_stream {f : CanFrame} {g : Nat} {t : Strm} (hc : Canon s.chip) (hg : s.chip.pond.grants = []) (h : Hears s.chip n)
    (hf : s.chip.filter n f = some 2) (hup : s.chip.basinUp n = true) (ht : s.chip.lineStream n = some t) (hst : strmAt s.chip t.id = some t)
    (hfit : t.fill + 71 + f.data.length ≤ t.depth) :
    Runs (.lineFrameReceive n ⟨f, false, g⟩) s (fun c => ∃ y, recsOf c t.id = t.recs ++ [y] ∧ y.hdr.kind = 6 ∧
      y.hdr.time = s.chip.sei.time - BitVec.ofNat 64 g ∧ y.data = canRawData f 0) := by
  refine runs_lineFrame hc h fun w hw => ?_
  have hsvc : w.svc = s.chip.svc := hw.kept.kept.svc (by decide)
  have hstream : w.lineStream n = some t := by
    rw [← ht, Chip.lineStream, Chip.lineStream, bit_of_rd (hw.rd rfl), get_of_rd (hw.rd rfl), Chip.strm?, Chip.strm?, hsvc]
  obtain ⟨z, hz⟩ : ∃ z, rxOf s.chip f g = z := ⟨_, rfl⟩
  obtain ⟨hdr, hhdr⟩ : ∃ hdr, (w.recHdr n z.tick 6 (if z.cause = 0 then 0 else 32) 0 0 0).stamped z.pos = hdr := ⟨_, rfl⟩
  have hfields : hdr.kind = 6 ∧ hdr.time = z.tick := by
    rw [← hhdr, RecHdr.stamped]
    split <;> exact ⟨rfl, rfl⟩
  have hzf : z.frame = f ∧ z.cause = 0 ∧ z.tick = s.chip.sei.time - BitVec.ofNat 64 g := by rw [← hz]; exact ⟨rfl, rfl, rfl⟩
  obtain ⟨hzframe, hzcause, hztick⟩ := hzf
  have hlen : (canRawData f 0).length = 8 + f.data.length := by
    simp only [canRawData, List.length_append, leBytes_length]
  obtain ⟨r, hr⟩ : ∃ r : Rec, { st := .closed, flags := 0, src := n.val, hdr := hdr, data := canRawData f 0, openedAt := w.clk.now, owner := (0, 0, 0), raw := false } = r :=
    ⟨_, rfl⟩
  obtain ⟨v, hv⟩ : ∃ v, w.updStrm t.id (fun s => Strm.weirNext { s with recs := s.recs ++ [r] }) = v := ⟨_, rfl⟩
  have heq : w.rxForeign n z = (v.touchPool t.port t.cid true).active := by
    have hroom : ¬ t.depth < t.fill + r.size := by
      rw [← hr]
      simp only [Rec.size, hlen, Bool.false_eq_true, if_false]
      omega
    unfold Chip.rxForeign Chip.rxRecord
    rw [hw.up, hup, if_pos rfl, hstream]
    dsimp only
    rw [hhdr, hzframe, hzcause]
    unfold Chip.putRec
    dsimp only
    rw [hr, if_neg hroom, hv]
  have hfr : Fr (keeping [.pond, .svc] []) v (v.touchPool t.port t.cid true).active :=
    Chip.active_fr (Chip.touchPool_fr (Fr.refl _ v) (by simp)) (by simp) (by simp) (by simp)
  rw [hf, filtered, hz, heq]
  refine ⟨?_, r, ?_, ?_, ?_, ?_⟩
  · rw [hfr.kept.pond (by simp), ← hv]
    exact (congrArg Pond.grants hw.pond).trans hg
  · have hat : strmAt v t.id = some (withRecs t (t.recs ++ [r])) := by
      rw [← hv]
      have hwat : strmAt w t.id = some t := by rw [strmAt, hsvc]; exact hst
      exact updStrm_at (f := fun s => Strm.weirNext { s with recs := s.recs ++ [r] }) hwat (congrArg (·.1) (withRecs_ident t (t.recs ++ [r])))
    unfold strmAt at hat
    rw [recsOf, hfr.kept.svc (by simp), hat]
    exact withRecs_recs _ _
  · rw [← hr]; exact hfields.1
  · rw [← hr]; exact hfields.2.trans hztick
  · rw [← hr]

theorem runs_lineException {f : CanFrame} {g : Nat} (hc : Canon s.chip) (hg : s.chip.pond.grants = []) (h : Hears s.chip n) :
    Runs (.lineFrameReceive n ⟨f, true, g⟩) s (fun c => (c.ports[n]).line.rxq0 = (s.chip.ports[n]).line.rxq0 ∧
      (c.ports[n]).line.joined = false ∧
      c.get (.LINE_CNT n) F.LINE_CNT_STRANGERS = sat 16 (s.chip.get (.LINE_CNT n) F.LINE_CNT_STRANGERS + 1)) := by
  have hact := active_heard hc n
  have hexec : exec (.lineFrameReceive n ⟨f, true, g⟩) s = execLineFrameReceive n ⟨f, true, g⟩ s := rfl
  refine runs_of_runS_eq hexec (d := (s.chip.active.incSat (.LINE_CNT n) F.LINE_CNT_STRANGERS).updLine n (fun l => { l with joined := false })) ?_
    ((congrArg Pond.grants hact.pond).trans hg) ⟨?_, ?_, ?_⟩
  · dsimp only
    rw [h.line, h.clock, h.joined, h.on]
    rfl
  · rw [updLine_same]
    exact hact.line.lineFields.1
  · rw [updLine_same]
  · refine (get_incSat_same _ hact.canon _ _ 1 (by decide)).trans ?_
    rw [get_of_rd (hact.rd rfl)]
    rfl

/-! ### Queue 0 processed (R231, R240) -/

theorem nodeBody_of_pond {r : NodeRt} (h : x.pond = c.pond) : x.nodeBody r = c.nodeBody r := by
  unfold Chip.nodeBody
  rw [ctx_of_ctxs (c := c) (d := x) (by rw [h])]

theorem updNodeBody_ports (c : Chip) (n : Port) (r : NodeRt) (f : NodeBody → NodeBody) : (c.updNodeBody n r f).ports = c.ports :=
  (engWrite_kept c n _ _).2

theorem updNodeBody_body (c : Chip) (n : Port) (r : NodeRt) (f : NodeBody → NodeBody) : (c.updNodeBody n r f).nodeBody r = f (c.nodeBody r) :=
  engWrite_nodeBody c n r _

/-- A node heard: its context's LASTRX, and little else. -/
structure NodeHeard (n : Port) (a : Nat) (tick : BitVec 64) (c x : Chip) : Prop where
  rxq0 : (x.ports[n]).line.rxq0 = (c.ports[n]).line.rxq0
  ulp : (x.ports[n]).line.ulp = (c.ports[n]).line.ulp
  grants : x.pond.grants = c.pond.grants
  last : ∀ r, c.node? n a = some r → (x.nodeBody r).lastRx = tick

theorem setNodeState_heard {a st code : Nat} {b : Bool} {r : NodeRt} (h : c.node? n a = some r) :
    NodeHeard n a (c.nodeBody r).lastRx c (c.setNodeState n a st code b) := by
  unfold Chip.setNodeState
  rw [h]
  dsimp only
  generalize hf : (fun b : NodeBody => { b with nstate := st, run := 0, pollMs := c.pollMs n st }) = f
  have hbody : ((c.updNodeBody n r f).nodeBody r).lastRx = (c.nodeBody r).lastRx := by rw [updNodeBody_body, ← hf]
  have hline : ∀ (d : Chip) (g : NodeRt → NodeRt), ((d.updNode n a g).ports[n]).line.rxq0 = (d.ports[n]).line.rxq0 ∧
      ((d.updNode n a g).ports[n]).line.ulp = (d.ports[n]).line.ulp := fun d g => by
    rw [Chip.updNode, updLine_same]
    exact ⟨rfl, rfl⟩
  have key : ∀ (g : NodeRt → NodeRt) (e : Event), NodeHeard n a (c.nodeBody r).lastRx c (((c.updNodeBody n r f).updNode n a g).post e) := fun g e => by
    obtain ⟨d, hd⟩ : ∃ d, (c.updNodeBody n r f).updNode n a g = d := ⟨_, rfl⟩
    have hp : Fr (keeping [.ports, .pond] []) d (d.post e) := fr_post d _ (by simp)
    have hdb : (d.nodeBody r).lastRx = (c.nodeBody r).lastRx := by
      rw [← hd]
      exact (congrArg NodeBody.lastRx (nodeBody_of_pond rfl)).trans hbody
    rw [hd]
    refine ⟨?_, ?_, ?_, fun r' hr' => ?_⟩
    · rw [hp.kept.ports (by simp), ← hd, (hline _ _).1, updNodeBody_ports]
    · rw [hp.kept.ports (by simp), ← hd, (hline _ _).2, updNodeBody_ports]
    · rw [hp.kept.pond (by simp), ← hd]
      exact updNodeBody_grants _ _ _ _
    · cases h.symm.trans hr'
      rw [nodeBody_of_pond (hp.kept.pond (by simp)), hdb]
  exact key _ _

theorem nodeHeard_heard (c : Chip) (n : Port) (a : Nat) (tick : BitVec 64) : NodeHeard n a tick c (c.nodeHeard n a tick) := by
  unfold Chip.nodeHeard
  split
  next h => exact ⟨rfl, rfl, rfl, fun r hr => by rw [h] at hr; cases hr⟩
  next r h =>
    extract_lets st c1 c2
    have hports : c1.ports = c.ports := updNodeBody_ports _ _ _ _
    have hlast : (c1.nodeBody r).lastRx = tick := by
      unfold c1
      rw [updNodeBody_body]
    have hgrants : c1.pond.grants = c.pond.grants := updNodeBody_grants _ _ _ _
    split
    · obtain ⟨hq, hu, hg, hl⟩ := setNodeState_heard (st := nsLIVE) (code := 0x0504) (b := false) ((node?_of_ports hports n a).trans h)
      refine ⟨?_, ?_, (updNodeBody_grants _ _ _ _).trans (hg.trans hgrants), fun r' hr' => ?_⟩
      · rw [updNodeBody_ports, hq, hports]
      · rw [updNodeBody_ports, hu, hports]
      · cases h.symm.trans hr'
        rw [updNodeBody_body]
        exact (hl r ((node?_of_ports hports n a).trans h)).trans hlast
    · refine ⟨by rw [hports], by rw [hports], hgrants, fun r' hr' => ?_⟩
      cases h.symm.trans hr'
      exact hlast

/-- A frame taken from queue 0, and the event for one of the tool's. -/
def rxTaken (c : Chip) (n : Port) (x : RxCan) (l : List RxCan) : Chip :=
  let c := c.updLine n (fun k => { k with rxq0 := l })
  if x.frame.ide && x.frame.fdf && ulpSrc x.frame.id == 0 then c.postRate (sec 1) n.val (c.ev 0x050D 1 n.val [x.frame.id.toNat]) else c

theorem rxTaken_kept (c : Chip) (n : Port) (z : RxCan) (l : List RxCan) : Fr (keeping [.pond] [.LINE_CNT n]) c (rxTaken c n z l) ∧
    (rxTaken c n z l).ports = (c.updLine n (fun k => { k with rxq0 := l })).ports := by
  have h : Fr (keeping [.pond] [.LINE_CNT n]) c (c.updLine n (fun k => { k with rxq0 := l })) := Chip.updLine_fr (Fr.refl _ c) (by simp)
  unfold rxTaken
  dsimp only
  split
  · exact ⟨Chip.postRate_fr h (by simp) (by simp), (fr_postRate (ps := [.ports]) (rs := []) _ _ _ _ _ _ (by simp)).kept.ports (by simp)⟩
  · exact ⟨h, rfl⟩

theorem rxTaken_cause (c : Chip) (n : Port) (z : RxCan) (l : List RxCan) (f : CanFrame) : (rxTaken c n z l).strangerCause n f = c.strangerCause n f := by
  obtain ⟨hf, hports⟩ := rxTaken_kept c n z l
  have hbody : ∀ r, (rxTaken c n z l).nodeBody r = c.nodeBody r := fun r => nodeBody_of_pond (hf.kept.pond (by simp))
  have hline : ((rxTaken c n z l).ports[n]).line.quar = (c.ports[n]).line.quar ∧ ((rxTaken c n z l).ports[n]).line.nodes = (c.ports[n]).line.nodes := by
    rw [hports, updLine_same]
    exact ⟨rfl, rfl⟩
  unfold Chip.strangerCause Chip.node?
  simp only [hline, hbody]

theorem runs_rxq0 {z : RxCan} {l : List RxCan} {d : Chip} {p : Chip → Prop} (hq : (s.chip.ports[n]).line.rxq0 = z :: l) (hup : s.chip.basinUp n = true)
    (hd : (s.chip.strangerCause n z.frame).elim (((rxTaken s.chip n z l).nodeHeard n (ulpSrc z.frame.id) z.tick).updLine n (fun k => { k with ulp := k.ulp ++ [z] }))
      ((rxTaken s.chip n z l).stranger n z) = d) (hg : d.pond.grants = []) (hp : p d) : Runs (.rxq0FrameProcess n) s p := by
  have hexec : exec (.rxq0FrameProcess n) s = execRxq0FrameProcess n s := rfl
  refine runs_of_runS_eq hexec ?_ hg hp
  dsimp only
  rw [hq, ← hd]
  dsimp only
  rw [hup, if_neg (by decide)]
  have hcause := rxTaken_cause s.chip n z l z.frame
  unfold rxTaken at hcause ⊢
  dsimp only at hcause ⊢
  rw [hcause]
  cases s.chip.strangerCause n z.frame <;> rfl

theorem runs_rxq0_known {z : RxCan} {l : List RxCan} (hg : s.chip.pond.grants = []) (hq : (s.chip.ports[n]).line.rxq0 = z :: l) (hup : s.chip.basinUp n = true)
    (hs : s.chip.strangerCause n z.frame = none) :
    Runs (.rxq0FrameProcess n) s (fun c => (c.ports[n]).line.rxq0 = l ∧ (c.ports[n]).line.ulp = (s.chip.ports[n]).line.ulp ++ [z] ∧
      ∀ r, s.chip.node? n (ulpSrc z.frame.id) = some r → (c.nodeBody r).lastRx = z.tick) := by
  obtain ⟨hf, hports⟩ := rxTaken_kept s.chip n z l
  obtain ⟨hrx, hulp, hgr, hlast⟩ := nodeHeard_heard (rxTaken s.chip n z l) n (ulpSrc z.frame.id) z.tick
  rw [hports, updLine_same] at hrx hulp
  refine runs_rxq0 hq hup (d := ((rxTaken s.chip n z l).nodeHeard n (ulpSrc z.frame.id) z.tick).updLine n (fun k => { k with ulp := k.ulp ++ [z] }))
    (by rw [hs]; rfl) (hgr.trans (by rw [hf.kept.pond (by simp)]; exact hg)) ⟨?_, ?_, fun r hr => ?_⟩
  · rw [updLine_same]
    exact hrx
  · rw [updLine_same]
    exact congrArg (· ++ [z]) hulp
  · refine (congrArg NodeBody.lastRx (nodeBody_of_pond rfl)).trans (hlast r ?_)
    rw [← hr, Chip.node?, Chip.node?, hports, updLine_same]

theorem runs_rxq0_stranger {z : RxCan} {l : List RxCan} {k : Nat} (hc : Canon s.chip) (hg : s.chip.pond.grants = [])
    (hq : (s.chip.ports[n]).line.rxq0 = z :: l) (hup : s.chip.basinUp n = true) (hs : s.chip.strangerCause n z.frame = some k) :
    Runs (.rxq0FrameProcess n) s (fun c => (c.ports[n]).line.rxq0 = l ∧ (c.ports[n]).line.ulp = (s.chip.ports[n]).line.ulp ∧
      c.get (.LINE_CNT n) F.LINE_CNT_STRANGERS = sat 16 (s.chip.get (.LINE_CNT n) F.LINE_CNT_STRANGERS + 1)) := by
  obtain ⟨hf, hports⟩ := rxTaken_kept s.chip n z l
  obtain ⟨hrx, hulp, hcnt, hpond⟩ := stranger_counted (hf.canon hc) n z k
  rw [hports, updLine_same] at hrx hulp
  refine runs_rxq0 hq hup (d := (rxTaken s.chip n z l).stranger n z k) (by rw [hs]; rfl) ?_ ⟨hrx, hulp, ?_⟩
  · rw [hpond, hf.kept.pond (by simp)]
    exact hg
  · rw [hcnt, get_of_rd (hf.kept.regs _ (by simp))]

/-! ### The transmit buffers (R232, R233, R244) -/

/-- What a line holds of its buffers and of its hold off the bus. -/
def lineTx (l : Line) : Vector (Option TxBuf) 32 × List (Nat × Nat) × List (CanFrame × TxFor) × Option CanFrame × Bool × Bool × Bool :=
  (l.tx, l.lastTx, l.txWait, l.timeWait, l.held, l.isolated, l.boffDue)

/-- The buffers of the line stay. -/
def TxKept (n : Port) (c x : Chip) : Prop := lineTx (x.ports[n]).line = lineTx (c.ports[n]).line

theorem TxKept.trans {a b d : Chip} (h : TxKept n a b) (h' : TxKept n b d) : TxKept n a d := Eq.trans h' h

theorem txKept_of_ports (h : x.ports = c.ports) : TxKept n c x := by rw [TxKept, h]

theorem txKept_updLine {f : Line → Line} (h : ∀ l, lineTx (f l) = lineTx l) : TxKept n c (c.updLine n f) := by
  rw [TxKept, updLine_same]
  exact h _

theorem txKept_updNode (a : Nat) (f : NodeRt → NodeRt) : TxKept n c (c.updNode n a f) := txKept_updLine fun _ => rfl

theorem each_txKept {α : Type} {g : Chip → α → Chip} (h : ∀ c x, (g c x).ports = c.ports) (l : List α) : TxKept n c (c.each l g) :=
  txKept_of_ports (each_keeps Chip.ports h c l)

theorem answer_ports (c : Chip) (q : ReqId) (r : Nat) (l : List Nat) (k : Nat) : (c.answer q r l k).ports = c.ports :=
  (fr_answer (ps := [.ports]) (rs := []) c q r l k (by simp)).kept.ports (by simp)

theorem wrRW_ports (c : Chip) (r : Reg) (v : Word) : (c.wrRW r v).ports = c.ports := by
  unfold Chip.wrRW Chip.cfgWritten
  split <;> rfl

theorem setB_ports (c : Chip) (r : Reg) (f : Field) (b : Bool) : (c.setB r f b).ports = c.ports := rfl

theorem tdcOn_ports (c : Chip) (n : Port) : (c.tdcOn n).ports = c.ports := setB_ports _ _ _ _

theorem timingCtl_ports (c : Chip) (n : Port) (t : TimingSet) : (match t.ctl with
    | some (triple, brs) => (c.setB (.LINE_CTL n) F.LINE_CTL_TRIPLE triple).setB (.LINE_CTL n) F.LINE_CTL_BRS brs
    | none => c).ports = c.ports := by
  split
  · rw [setB_ports, setB_ports]
  · rfl

theorem applyTiming_txKept (c : Chip) (t : TimingSet) : TxKept n c (c.applyTiming n t) := by
  unfold Chip.applyTiming
  extract_lets now bits c1 c2 c3 c4 c5
  have h1 : c1.ports = c.ports := wrRW_ports _ _ _
  have h2 : c2.ports = c1.ports := wrRW_ports _ _ _
  have h3 : c3.ports = c2.ports := wrRW_ports _ _ _
  have h4 : c4.ports = c3.ports := timingCtl_ports c3 n t
  have htdc : (c4.tdcOn n).ports = c4.ports := tdcOn_ports c4 n
  have h5 : TxKept n (c4.tdcOn n) c5 := txKept_updLine fun _ => rfl
  have hall : TxKept n c (c4.tdcOn n) := txKept_of_ports (by rw [htdc, h4, h3, h2, h1])
  exact (hall.trans h5).trans (each_txKept (fun c q => answer_ports c q _ _ _) _)

theorem applyTimingDue_txKept (c : Chip) (n : Port) : TxKept n c (c.applyTimingDue n) := by
  unfold Chip.applyTimingDue
  split
  · rfl
  split
  · rfl
  · exact applyTiming_txKept c _

theorem releaseTxd_txKept (c : Chip) (n : Port) : TxKept n c (c.releaseTxd n) := by
  unfold Chip.releaseTxd
  extract_lets p
  split
  · have h : ((((c.updPort n (fun p => { p with txd := false })).fixEdge n).ports[n])).line = (c.ports[n]).line := by
      unfold Chip.fixEdge
      dsimp only
      rw [updPort_same]
      show ((c.updPort n (fun p => { p with txd := false })).ports[n]).line = _
      rw [updPort_same]
    rw [TxKept, h]
  · rfl

/-- What the end of a frame leaves to its buffer, before the next frames are fetched. -/
def txEnded (i : Fin 32) (st : Nat) (b : TxBuf) (l : Line) : Line :=
  match b.use with
  | .host _ => { l.setBuf i none with lastTx := insertNat l.lastTx i.val st }
  | _ => l.setBuf i none

theorem finishHostTx_line (c : Chip) (n : Port) (i : Fin 32) (st : Nat) (err : Bool) (b : TxBuf) :
    (c.finishHostTx n i st err b).ports = (c.updLine n (txEnded i st b)).ports := by
  unfold Chip.finishHostTx txEnded
  cases b.use with
  | host d => exact (Chip.postOwn_fr (f := keeping [.ports] []) (Fr.refl _ _) (by simp)).kept.ports (by simp)
  | _ => rfl

theorem evRemoved_ports (c : Chip) (n : Port) (a k : Nat) (late : Bool) (q : Option ReqId) : ((c.evRemoved n a k late).answerOpt q rOK).ports = c.ports := by
  have h1 : (c.evRemoved n a k late).ports = c.ports := (fr_post (ps := [.ports]) (rs := []) c _ (by simp)).kept.ports (by simp)
  have h2 : Fr (keeping [.ports] []) (c.evRemoved n a k late) ((c.evRemoved n a k late).answerOpt q rOK) := by
    apply Chip.answerOpt_fr (Fr.refl _ _) <;> simp
  exact (h2.kept.ports (by simp)).trans h1

/-- A frame ended: its buffer is free, and what waits goes into the free buffers. -/
theorem finishTx_line (c : Chip) (n : Port) (i : Fin 32) (st : Nat) (err : Bool) (b : TxBuf) :
    ∃ l, lineTx l = lineTx (txEnded i st b (c.ports[n]).line) ∧ lineTx ((c.finishTx n i st err b).ports[n]).line = lineTx l.refill.nextTime := by
  have key : ∀ d, TxKept n (c.finishHostTx n i st err b) d → ∃ l, lineTx l = lineTx (txEnded i st b (c.ports[n]).line) ∧
      lineTx ((((d.updLine n (fun l => l.refill.nextTime)).applyTimingDue n).releaseTxd n).ports[n]).line = lineTx l.refill.nextTime := fun d hd => by
    have hk : TxKept n (d.updLine n (fun l => l.refill.nextTime)) (((d.updLine n (fun l => l.refill.nextTime)).applyTimingDue n).releaseTxd n) :=
      (applyTimingDue_txKept _ n).trans (releaseTxd_txKept _ n)
    refine ⟨(d.ports[n]).line, Eq.trans hd ?_, Eq.trans hk ?_⟩
    · rw [finishHostTx_line, updLine_same]
    · rw [updLine_same]
  unfold Chip.finishTx
  refine key _ ?_
  split
  · refine .trans (txKept_updLine ?_) (each_txKept ?_ _)
    · exact fun _ => rfl
    · exact fun c x => answer_ports c x.2 _ _ _
  · split
    · rfl
    · exact txKept_updNode _ _
  · dsimp only
    split
    · split
      · refine .trans (txKept_updLine ?_) (txKept_of_ports (evRemoved_ports _ _ _ _ _ _))
        exact fun _ => rfl
      · rfl
    · split
      · exact txKept_updNode _ _
      · rfl
  · rfl

theorem refill_none {l : Line} (hw : l.txWait = []) (ht : l.timeWait = none) : l.refill.nextTime = l := by
  rw [Line.refill, hw, List.foldl_nil, Line.nextTime, ht]

/-- Buffer 0 stays free while no TIME frame waits: the frames that wait go to buffers 1 to 27. -/
theorem refill_zero {l : Line} (h0 : l.tx[(0 : Fin 32)] = none) (ht : l.timeWait = none) : (l.refill.nextTime).tx[(0 : Fin 32)] = none ∧
    (l.refill.nextTime).timeWait = none ∧ (l.refill.nextTime).held = l.held ∧ (l.refill.nextTime).isolated = l.isolated ∧
    (l.refill.nextTime).boffDue = l.boffDue := by
  have hone : ∀ l : Line, l.tx[(0 : Fin 32)] = none → (l.refillOne).tx[(0 : Fin 32)] = none ∧ (l.refillOne).timeWait = l.timeWait ∧
      (l.refillOne).held = l.held ∧ (l.refillOne).isolated = l.isolated ∧ (l.refillOne).boffDue = l.boffDue := fun l h => by
    unfold Line.refillOne
    split
    · exact ⟨h, rfl, rfl, rfl, rfl⟩
    · split
      next i hi =>
        have hlo := List.mem_of_find?_eq_some hi
        have hpos : 1 ≤ i.val := by
          have := (List.mem_filter.1 hlo).2
          simp only [Bool.and_eq_true, decide_eq_true_eq] at this
          exact this.1
        refine ⟨?_, rfl, rfl, rfl, rfl⟩
        exact (Vector.getElem_set_ne i.isLt (by decide) (by show i.val ≠ 0; omega)).trans h
      next => exact ⟨h, rfl, rfl, rfl, rfl⟩
  have hall : ∀ (w : List (CanFrame × TxFor)) (l : Line), l.tx[(0 : Fin 32)] = none →
      (w.foldl (fun l _ => l.refillOne) l).tx[(0 : Fin 32)] = none ∧ (w.foldl (fun l _ => l.refillOne) l).timeWait = l.timeWait ∧
      (w.foldl (fun l _ => l.refillOne) l).held = l.held ∧ (w.foldl (fun l _ => l.refillOne) l).isolated = l.isolated ∧
      (w.foldl (fun l _ => l.refillOne) l).boffDue = l.boffDue := fun w => by
    induction w with
    | nil => exact fun l h => ⟨h, rfl, rfl, rfl, rfl⟩
    | cons a w ih =>
      intro l h
      obtain ⟨h1, h2, h3, h4, h5⟩ := hone l h
      obtain ⟨k1, k2, k3, k4, k5⟩ := ih l.refillOne h1
      exact ⟨k1, k2.trans h2, k3.trans h3, k4.trans h4, k5.trans h5⟩
  obtain ⟨h1, h2, h3, h4, h5⟩ := hall l.txWait l h0
  have hnext : l.refill.nextTime = l.refill := by
    rw [Line.nextTime, show l.refill.timeWait = none from h2.trans ht]
  rw [hnext]
  exact ⟨h1, h2.trans ht, h3, h4, h5⟩

/-- An attempt that got no further: the frame stays in its buffer, or its cancelling is told. -/
theorem attemptLost_line (c : Chip) (n : Port) (i : Fin 32) (b : TxBuf) (err : Bool) (hb : b.cancelled = false) :
    lineTx ((c.attemptLost n i b err).ports[n]).line = lineTx (((c.ports[n]).line.setBuf i (some { b with started := false })).nextTime) := by
  unfold Chip.attemptLost
  rw [if_neg (by rw [hb]; exact Bool.false_ne_true)]
  refine Eq.trans (applyTimingDue_txKept (c.updLine n (fun l => (l.setBuf i (some { b with started := false })).nextTime)) n) ?_
  rw [updLine_same]

theorem setBuf_tx (l : Line) (i : Fin 32) (b : Option TxBuf) : (l.setBuf i b).tx[i] = b := Vector.getElem_set_self _

theorem setBuf_tx_other (l : Line) {i j : Fin 32} (b : Option TxBuf) (h : i ≠ j) : (l.setBuf i b).tx[j] = l.tx[j] :=
  Vector.getElem_set_ne i.isLt j.isLt fun he => h (Fin.ext he)

/-- The TIME frame that waits goes to buffer 0 alone. -/
theorem nextTime_tx {l : Line} {i : Fin 32} (h : i.val ≠ 0 ∨ l.timeWait = none) : l.nextTime.tx[i] = l.tx[i] := by
  unfold Line.nextTime
  split
  next hw =>
    split
    · rfl
    · refine setBuf_tx_other l _ fun he => ?_
      rcases h with h | h
      · exact h (congrArg Fin.val he).symm
      · cases h.symm.trans hw
  · rfl

theorem lineTx_tx {l k : Line} (h : lineTx l = lineTx k) : l.tx = k.tx ∧ l.lastTx = k.lastTx ∧ l.txWait = k.txWait ∧ l.timeWait = k.timeWait ∧
    l.held = k.held ∧ l.isolated = k.isolated ∧ l.boffDue = k.boffDue := by
  simpa [lineTx] using h

theorem attemptLost_pond (c : Chip) (n : Port) (i : Fin 32) (b : TxBuf) (err : Bool) : (c.attemptLost n i b err).pond = c.pond := by
  have hf : Fr (keeping [.pond] []) c (c.attemptLost n i b err) := by apply Chip.attemptLost_fr (Fr.refl _ c) <;> simp
  exact hf.kept.pond (by simp)

/-- The lost attempt of a started frame, by either of its two causes. -/
theorem lost_exec {i : Fin 32} {b : TxBuf} {w : TxWire} (ht : (s.chip.ports[n]).line.tx[i] = some b) (hw : w = .lostArbitration ∨ w = .error)
    (hs : b.started = true) (hg : s.chip.pond.grants = []) {p : Chip → Prop} (hp : ∀ err, p (s.chip.attemptLost n i b err)) :
    Runs (.lineTxComplete n i w) s p := by
  have hexec : exec (.lineTxComplete n i w) s = execLineTxComplete n i w s := rfl
  rcases hw with rfl | rfl
  · refine runs_of_runS_eq hexec (d := s.chip.attemptLost n i b false) ?_ (by rw [attemptLost_pond]; exact hg) (hp false)
    dsimp only
    rw [ht]
    exact if_pos hs
  · refine runs_of_runS_eq hexec (d := s.chip.attemptLost n i b true) ?_ (by rw [attemptLost_pond]; exact hg) (hp true)
    dsimp only
    rw [ht]
    exact if_pos hs

theorem runs_lost {i : Fin 32} {b : TxBuf} {w : TxWire} (hg : s.chip.pond.grants = []) (ht : (s.chip.ports[n]).line.tx[i] = some b)
    (hw : w = .lostArbitration ∨ w = .error) (hs : b.started = true) (hc : b.cancelled = false)
    (h0 : i.val ≠ 0 ∨ (s.chip.ports[n]).line.timeWait = none) :
    Runs (.lineTxComplete n i w) s (fun c => (c.ports[n]).line.tx[i] = some { b with started := false }) := by
  refine lost_exec ht hw hs hg fun err => ?_
  obtain ⟨htx, -⟩ := lineTx_tx (attemptLost_line s.chip n i b err hc)
  rw [htx, nextTime_tx (l := (s.chip.ports[n]).line.setBuf i (some { b with started := false })) h0, setBuf_tx]

theorem runs_lostTime {b : TxBuf} {w : TxWire} {f : CanFrame} (hg : s.chip.pond.grants = []) (ht : (s.chip.ports[n]).line.tx[(0 : Fin 32)] = some b)
    (hw : w = .lostArbitration ∨ w = .error) (hs : b.started = true) (hc : b.cancelled = false) (hf : (s.chip.ports[n]).line.timeWait = some f) :
    Runs (.lineTxComplete n 0 w) s (fun c => (c.ports[n]).line.timeWait = none ∧ (c.ports[n]).line.tx[(0 : Fin 32)] =
      some { frame := f, use := .time, started := false, cancelled := false, sof := 0#64 }) := by
  refine lost_exec ht hw hs hg fun err => ?_
  obtain ⟨htx, -, -, htw, -⟩ := lineTx_tx (attemptLost_line s.chip n 0 b err hc)
  have hnext : ((s.chip.ports[n]).line.setBuf 0 (some { b with started := false })).nextTime =
      { ((s.chip.ports[n]).line.setBuf 0 (some { b with started := false })).setBuf 0
        (some { frame := f, use := .time, started := false, cancelled := false, sof := 0#64 }) with timeWait := none } := by
    unfold Line.nextTime
    rw [show ((s.chip.ports[n]).line.setBuf 0 (some { b with started := false })).timeWait = some f from hf, setBuf_tx]
    rfl
  rw [htx, htw, hnext]
  exact ⟨rfl, setBuf_tx _ _ _⟩

theorem txEnded_fields (i : Fin 32) (st : Nat) (b : TxBuf) (l : Line) : (txEnded i st b l).tx[i] = none ∧ (txEnded i st b l).txWait = l.txWait ∧
    (txEnded i st b l).timeWait = l.timeWait ∧ ∀ d, b.use = .host d → lookupNat (txEnded i st b l).lastTx i.val = some st := by
  unfold txEnded
  cases b.use with
  | host d => exact ⟨setBuf_tx _ _ _, rfl, rfl, fun _ _ => lookupNat_insertNat_same _ _ _⟩
  | _ => exact ⟨setBuf_tx _ _ _, rfl, rfl, fun _ h => by cases h⟩

theorem txEnded_others (i : Fin 32) (st : Nat) (b : TxBuf) (l : Line) (hi : i ≠ 0) : (txEnded i st b l).tx[(0 : Fin 32)] = l.tx[(0 : Fin 32)] ∧
    (txEnded i st b l).timeWait = l.timeWait ∧ (txEnded i st b l).held = l.held ∧ (txEnded i st b l).isolated = l.isolated ∧
    (txEnded i st b l).boffDue = l.boffDue := by
  unfold txEnded
  cases b.use <;> exact ⟨setBuf_tx_other _ _ hi, rfl, rfl, rfl, rfl⟩

theorem finishTx_ends {i : Fin 32} {st : Nat} {err : Bool} {b : TxBuf} (hw : (c.ports[n]).line.txWait = []) (ht : (c.ports[n]).line.timeWait = none) :
    ((c.finishTx n i st err b).ports[n]).line.tx[i] = none ∧
    ∀ d, b.use = .host d → lookupNat ((c.finishTx n i st err b).ports[n]).line.lastTx i.val = some st := by
  obtain ⟨l, hl, hend⟩ := finishTx_line c n i st err b
  obtain ⟨htx, hlast, hwait, htime, -⟩ := lineTx_tx hl
  obtain ⟨f1, f2, f3, f4⟩ := txEnded_fields i st b (c.ports[n]).line
  rw [refill_none (hwait.trans (f2.trans hw)) (htime.trans (f3.trans ht))] at hend
  obtain ⟨htx', hlast', -⟩ := lineTx_tx hend
  rw [htx', hlast', htx, hlast]
  exact ⟨f1, f4⟩

theorem runs_lostCancelled {i : Fin 32} {b : TxBuf} {w : TxWire} (hg : s.chip.pond.grants = []) (ht : (s.chip.ports[n]).line.tx[i] = some b)
    (hw : w = .lostArbitration ∨ w = .error) (hs : b.started = true) (hc : b.cancelled = true) (hwait : (s.chip.ports[n]).line.txWait = [])
    (htime : (s.chip.ports[n]).line.timeWait = none) :
    Runs (.lineTxComplete n i w) s (fun c => (c.ports[n]).line.tx[i] = none ∧
      ∀ d, b.use = .host d → lookupNat (c.ports[n]).line.lastTx i.val = some txCANCELLED) := by
  refine lost_exec ht hw hs hg fun err => ?_
  unfold Chip.attemptLost
  rw [if_pos hc]
  exact finishTx_ends hwait htime

theorem timeFrame_active (c : Chip) (n : Port) (t : BitVec 64) (f : CanFrame) : c.active.timeFrame n t f = c.timeFrame n t f := by
  unfold Chip.timeFrame Chip.ulpFrame
  rw [active_bit c _ (by simp)]

/-- A frame's start on the wire (R222, R232, R244). -/
theorem runs_txStarted {i : Fin 32} {b : TxBuf} (hg : s.chip.pond.grants = []) (ht : (s.chip.ports[n]).line.tx[i] = some b) (hclk : s.chip.lineClock = true)
    (hj : (s.chip.ports[n]).line.joined = true) (ho : s.chip.lineOff n = false) (hl : s.chip.bit (.LINE_CTL n) F.LINE_CTL_LISTEN = false)
    (hoff : (s.chip.ports[n]).line.offers i = true) :
    Runs (.lineTxComplete n i .started) s (fun c => (c.ports[n]).line.tx[i] = some { b with
      frame := if b.use = .time then s.chip.timeFrame n s.chip.sei.time b.frame else b.frame, started := true,
      sof := s.chip.sei.time, esi := b.frame.fdf && s.chip.get (.LINE_ERR n) F.LINE_ERR_STATE == lePASSIVE, tooLong := false }) := by
  have hact := active_fr s.chip
  obtain ⟨w, hw⟩ : ∃ w, (if s.chip.quietTx n b then s.chip else s.chip.active) = w := ⟨_, rfl⟩
  have hws : w.sei = s.chip.sei ∧ w.pond = s.chip.pond ∧ w.get (.LINE_ERR n) F.LINE_ERR_STATE = s.chip.get (.LINE_ERR n) F.LINE_ERR_STATE ∧
      w.timeFrame n s.chip.sei.time b.frame = s.chip.timeFrame n s.chip.sei.time b.frame := by
    rw [← hw]
    split
    · exact ⟨rfl, rfl, rfl, rfl⟩
    · exact ⟨hact.kept.sei (by decide), active_pond _, active_get _ _ (by simp), timeFrame_active _ _ _ _⟩
  obtain ⟨hsei, hpond, hst, htf⟩ := hws
  obtain ⟨f, hf⟩ : ∃ f, (if b.use = .time then s.chip.timeFrame n s.chip.sei.time b.frame else b.frame) = f := ⟨_, rfl⟩
  have hframe : (match b.use with
      | .time => w.timeFrame n w.sei.time b.frame
      | _ => b.frame) = f := by
    rw [← hf, hsei, htf]
    cases b.use <;> rfl
  obtain ⟨e, he⟩ : ∃ e, (b.frame.fdf && s.chip.get (.LINE_ERR n) F.LINE_ERR_STATE == lePASSIVE) = e := ⟨_, rfl⟩
  have hexec : exec (.lineTxComplete n i .started) s = execLineTxComplete n i .started s := rfl
  rw [hf, he]
  refine runs_of_runS_eq hexec (d := w.updLine n (fun l =>
      { l.setBuf i (some { b with frame := f, started := true, sof := s.chip.sei.time, esi := e, tooLong := false }) with
        timeDue := if b.use = .time then none else l.timeDue })) ?_ ((congrArg Pond.grants hpond).trans hg) ?_
  · dsimp only
    rw [ht]
    dsimp only
    rw [hclk, hj, ho, hl, hoff, if_neg (by decide), hw, ← he, ← hst, ← hsei, ← hframe] <;> rfl
  · rw [updLine_same]
    exact setBuf_tx _ _ _

/-- The measured loop delay (R222). -/
theorem runs_loopDelay {i : Fin 32} {b : TxBuf} {d : Nat} (hc : Canon s.chip) (hg : s.chip.pond.grants = []) (ht : (s.chip.ports[n]).line.tx[i] = some b)
    (hs : b.started = true) (hf : b.frame.fdf = true) :
    Runs (.lineTxComplete n i (.loopDelay d)) s (fun c => c.get (.LINE_TDC n) F.LINE_TDC_TDCV = min 127 ((d + 19) / 20) ∧
      (c.ports[n]).line.tx[i] = some { b with tooLong := decide (127 < (d + 19) / 20) }) := by
  have hexec : exec (.lineTxComplete n i (.loopDelay d)) s = execLineTxComplete n i (.loopDelay d) s := rfl
  refine runs_of_runS_eq hexec (d := (s.chip.setF (.LINE_TDC n) F.LINE_TDC_TDCV (min 127 ((d + 19) / 20))).updLine n (fun l =>
    l.setBuf i (some { b with tooLong := decide (127 < (d + 19) / 20) }))) ?_ hg ⟨?_, ?_⟩
  · dsimp only
    rw [ht]
    dsimp only
    exact if_pos (by rw [hs, hf]; rfl)
  · refine (get_setF_same s.chip hc _ _ _ (by decide)).trans (Nat.mod_eq_of_lt ?_)
    exact Nat.lt_of_le_of_lt (Nat.min_le_left _ _) (by decide)
  · rw [updLine_same]
    exact setBuf_tx _ _ _

/-! ### A frame sent (R233, R234) -/

theorem countErrors_any (hc : Canon c) {tec rec_ : Nat} (ht : tec < 256) (hr : rec_ < 256) : ∃ st, Counted n c (c.countErrors n tec rec_) tec rec_ st := by
  have h := setCounters_counted (n := n) hc ht hr
  unfold Chip.countErrors
  extract_lets w passive was v
  split
  · exact ⟨_, h⟩
  · have hv : Counted n c v tec rec_ (if passive then lePASSIVE else leACTIVE) := h.setState (by split <;> decide)
    exact ⟨_, hv.post _⟩

theorem goodTx_counted (hc : Canon c) (n : Port) : ∃ st, Counted n c (c.goodTx n) (c.get (.LINE_ERR n) F.LINE_ERR_TEC - 1)
    (c.get (.LINE_ERR n) F.LINE_ERR_REC) st := by
  obtain ⟨ht, hr⟩ := errCount_lt c n
  unfold Chip.goodTx
  extract_lets t
  split
  next h =>
    have h0 : c.get (.LINE_ERR n) F.LINE_ERR_TEC = 0 := h
    refine ⟨c.get (.LINE_ERR n) F.LINE_ERR_STATE, ?_⟩
    have hs := counted_self (n := n) hc
    rw [h0] at hs ⊢
    exact hs
  · exact countErrors_any hc (Nat.lt_of_le_of_lt (Nat.sub_le _ _) ht) hr

theorem runs_txCompleted {i : Fin 32} {b : TxBuf} (hc : Canon s.chip) (hg : s.chip.pond.grants = []) (ht : (s.chip.ports[n]).line.tx[i] = some b)
    (hs : b.started = true) (hl : b.tooLong = false) (hwait : (s.chip.ports[n]).line.txWait = []) (htime : (s.chip.ports[n]).line.timeWait = none) :
    Runs (.lineTxComplete n i .completed) s (fun c => (c.ports[n]).line.tx[i] = none ∧
      c.get (.LINE_ERR n) F.LINE_ERR_TEC = s.chip.get (.LINE_ERR n) F.LINE_ERR_TEC - 1 ∧
      ∀ d, b.use = .host d → lookupNat (c.ports[n]).line.lastTx i.val = some (if b.cancelled then txLATE else txDONE)) := by
  obtain ⟨w, hw⟩ : ∃ w, (if s.chip.quietTx n b then s.chip else s.chip.active) = w := ⟨_, rfl⟩
  have hwf : Fr (keeping [.ports, .pond] [.LINE_ERR n]) s.chip w := by
    rw [← hw]
    split
    · exact Fr.refl _ _
    · exact Chip.active_fr (Fr.refl _ _) (by simp) (by simp) (by simp)
  obtain ⟨st, hcnt⟩ := goodTx_counted (hwf.canon hc) n
  obtain ⟨wa, wb, hline⟩ := hcnt.line
  obtain ⟨k, hk⟩ : ∃ k, (if b.cancelled then txLATE else txDONE) = k := ⟨_, rfl⟩
  have hfin : Fr (keeping [.pond] [.LINE_ERR n]) (w.goodTx n) ((w.goodTx n).finishTx n i k false b) := by
    apply Chip.finishTx_fr (Fr.refl _ _) <;> simp
  obtain ⟨hnone, hlast⟩ := finishTx_ends (c := w.goodTx n) (n := n) (i := i) (st := k) (err := false) (b := b)
    (by rw [hline, hwf.kept.ports (by simp)]; exact hwait) (by rw [hline, hwf.kept.ports (by simp)]; exact htime)
  have hexec : exec (.lineTxComplete n i .completed) s = execLineTxComplete n i .completed s := rfl
  rw [hk]
  refine runs_of_runS_eq hexec (d := (w.goodTx n).finishTx n i k false b) ?_ ?_ ⟨hnone, ?_, hlast⟩
  · dsimp only
    rw [ht]
    dsimp only
    rw [if_neg (by rw [hs]; decide), if_neg (by rw [hl]; decide), hw, hk]
  · rw [hfin.kept.pond (by simp), hcnt.kept.kept.pond (by decide), hwf.kept.pond (by simp)]
    exact hg
  · rw [get_of_rd (hfin.kept.regs _ (by simp)), hcnt.tec, get_of_rd (hwf.kept.regs _ (by simp))]

/-! ### Errors, bus-off and the way back (R234, R235) -/

theorem runs_busError {o : CanRole} {e : CanErr} {t r : Nat} (hc : Canon s.chip) (hg : s.chip.pond.grants = []) (hl : s.chip.isLine n = true)
    (hclk : s.chip.lineClock = true) (ho : s.chip.lineOff n = false)
    (ht : t = s.chip.get (.LINE_ERR n) F.LINE_ERR_TEC + (if s.chip.bit (.LINE_CTL n) F.LINE_CTL_LISTEN then 0 else (errAdds o e).1))
    (hr : r = s.chip.get (.LINE_ERR n) F.LINE_ERR_REC + (errAdds o e).2) :
    Runs (.lineBusError n o e) s (fun c => c.get (.LINE_ERR n) F.LINE_ERR_TEC = min 255 t ∧ c.get (.LINE_ERR n) F.LINE_ERR_REC = min 255 r ∧
      (c.ports[n]).line.boffDue = ((s.chip.ports[n]).line.boffDue || decide (255 < t)) ∧
      c.get (.LINE_ERR n) F.LINE_ERR_STATE = (if 128 ≤ t ∨ 128 ≤ r then lePASSIVE else leACTIVE)) := by
  have hcnt := countErrors_counted (n := n) (tec := min 255 t) (rec_ := min 255 r) hc (by omega) (by omega) ho
  obtain ⟨w, hw⟩ : ∃ w, s.chip.countErrors n (min 255 t) (min 255 r) = w := ⟨_, rfl⟩
  rw [hw] at hcnt
  have hst : (if 128 ≤ min 255 t ∨ 128 ≤ min 255 r then lePASSIVE else leACTIVE) = if 128 ≤ t ∨ 128 ≤ r then lePASSIVE else leACTIVE := by
    have hiff : (128 ≤ min 255 t ∨ 128 ≤ min 255 r) ↔ (128 ≤ t ∨ 128 ≤ r) := by omega
    simp only [hiff]
  obtain ⟨wa, wb, hline⟩ := hcnt.line
  have hboff : (w.ports[n]).line.boffDue = (s.chip.ports[n]).line.boffDue := by rw [hline]
  have hexec : exec (.lineBusError n o e) s = execLineBusError n o e s := rfl
  refine runs_of_runS_eq hexec (d := if 255 < t then w.updLine n (fun l => { l with boffDue := true }) else w) ?_ ?_ ?_
  · rw [hl, hclk, ho, if_neg (by decide)]
    unfold Chip.busError
    dsimp only
    rw [← ht, ← hr, hw]
  · have hpond : w.pond.grants = [] := by
      rw [hcnt.kept.kept.pond (by decide)]
      exact hg
    split <;> exact hpond
  · split
    next h =>
      refine ⟨hcnt.tec, hcnt.rec_, ?_, hcnt.state.trans hst⟩
      rw [updLine_same, decide_eq_true h, Bool.or_true]
    next h =>
      refine ⟨hcnt.tec, hcnt.rec_, ?_, hcnt.state.trans hst⟩
      rw [hboff, decide_eq_false h, Bool.or_false]

theorem runs_busOn (hc : Canon s.chip) (hg : s.chip.pond.grants = []) (hst : s.chip.get (.LINE_ERR n) F.LINE_ERR_STATE = leRECOVERING)
    (hl : s.chip.isLine n = true) (hr : 128 * 11 ≤ s.chip.recoveryBits n) :
    Runs (.lineBusOn n) s (fun c => c.get (.LINE_ERR n) F.LINE_ERR_STATE = leACTIVE ∧ c.get (.LINE_ERR n) F.LINE_ERR_TEC = 0 ∧
      c.get (.LINE_ERR n) F.LINE_ERR_REC = 0 ∧ (c.ports[n]).line.busOnAt = some s.chip.clk.now ∧ (c.ports[n]).line.recoverReqs = []) := by
  obtain ⟨w, hw⟩ : ∃ w, (s.chip.setCounters n 0 0).setSt (.LINE_ERR n) F.LINE_ERR_STATE leACTIVE = w := ⟨_, rfl⟩
  have hcnt : Counted n s.chip w 0 0 leACTIVE := hw ▸ (setCounters_counted hc (by decide) (by decide)).setState (by decide)
  obtain ⟨v, hv⟩ : ∃ v, w.post (w.ev 0x0509 1 n.val [(w.clk.now - (s.chip.ports[n]).line.recFrom) / 1600]) = v := ⟨_, rfl⟩
  have hcv : Counted n s.chip v 0 0 leACTIVE := hv ▸ hcnt.post _
  have hnow : v.clk.now = s.chip.clk.now := by rw [hcv.kept.kept.clk (by decide)]
  obtain ⟨u, hu⟩ : ∃ u, v.updLine n (fun l =>
    { l.shift (v.clk.now - l.offAt) with busOnAt := some v.clk.now, fromHeld := l.held, held := false, recoverReqs := [] }) = u := ⟨_, rfl⟩
  have heach : Fr (keeping [.ports, .pond] [.LINE_ERR n]) u (u.each (s.chip.ports[n]).line.recoverReqs (fun c q => c.answer q rOK)) :=
    Fr.each (Fr.refl _ u) fun c q h => by apply Chip.answer_fr h <;> simp
  have hexec : exec (.lineBusOn n) s = execLineBusOn n s := rfl
  refine runs_of_runS_eq hexec (d := u.each (s.chip.ports[n]).line.recoverReqs (fun c q => c.answer q rOK)) ?_ ?_ ?_
  · rw [if_neg]
    · dsimp only
      rw [hw, hv, hu]
    · rw [hst, hl]
      simpa using hr
  · rw [heach.kept.pond (by simp), ← hu]
    exact (congrArg Pond.grants (hcv.kept.kept.pond (by decide))).trans hg
  · have hreg : ∀ f, (u.each (s.chip.ports[n]).line.recoverReqs (fun c q => c.answer q rOK)).get (.LINE_ERR n) f = v.get (.LINE_ERR n) f := fun f => by
      rw [get_of_rd (heach.kept.regs _ (by simp)), ← hu]
      rfl
    rw [hreg, hreg, hreg, hcv.state, hcv.tec, hcv.rec_, heach.kept.ports (by simp), ← hu, updLine_same, ← hnow]
    exact ⟨rfl, rfl, rfl, rfl, rfl⟩

/-! ### TIME frames, and the line rejoined (R228, R244) -/

theorem runs_timeBoundary {f : CanFrame} (hg : s.chip.pond.grants = []) (hr : s.chip.lineRuns n = true)
    (he : s.chip.bit (.LINE_CTL n) F.LINE_CTL_TIME_EN = true) (ht : s.chip.sei.time.toNat % 1600000 = 0)
    (hf : f = s.chip.ulpFrame n (ulpId 0 0 0 127 0) (leBytes 8 s.chip.sei.time.toNat ++ leBytes 2 (s.chip.ports[n]).line.tseq.toNat ++
      leBytes 1 (bitOf s.chip.timeDegraded))) :
    Runs (.timeFrameBoundary n) s (fun c => (c.ports[n]).line.tseq = (s.chip.ports[n]).line.tseq + 1 ∧
      (c.ports[n]).line.timeDue = some (s.chip.clk.now + us 500) ∧
      if ((s.chip.ports[n]).line.tx[(0 : Fin 32)]).any (·.started) = true then
        (c.ports[n]).line.tx[(0 : Fin 32)] = (s.chip.ports[n]).line.tx[(0 : Fin 32)] ∧ (c.ports[n]).line.timeWait = some f
      else (c.ports[n]).line.timeWait = none ∧ (c.ports[n]).line.tx[(0 : Fin 32)] = some ⟨f, .time, false, false, 0#64, false, false⟩) := by
  obtain ⟨l, hl⟩ : ∃ l, { (s.chip.ports[n]).line with
    timeWait := some f, tseq := (s.chip.ports[n]).line.tseq + 1, timeDue := some (s.chip.clk.now + us 500) } = l := ⟨_, rfl⟩
  have hls : l.tseq = (s.chip.ports[n]).line.tseq + 1 ∧ l.timeDue = some (s.chip.clk.now + us 500) ∧ l.timeWait = some f ∧
      l.tx = (s.chip.ports[n]).line.tx := by
    rw [← hl]
    exact ⟨rfl, rfl, rfl, rfl⟩
  obtain ⟨hseq, hdue, hwait, htx⟩ := hls
  have hexec : exec (.timeFrameBoundary n) s = execTimeFrameBoundary n s := rfl
  refine runs_of_runS_eq hexec (d := s.chip.updLine n (fun _ => l.nextTime)) ?_ hg ?_
  · rw [hr, he, ht, if_neg (by decide)]
    dsimp only
    rw [← hf]
    unfold Chip.updLine Chip.updPort
    rw [← hl]
  · rw [updLine_same, ← htx]
    unfold Line.nextTime
    rw [hwait]
    dsimp only
    split
    · exact ⟨hseq, hdue, rfl, hwait⟩
    · exact ⟨hseq, hdue, rfl, setBuf_tx _ _ _⟩

theorem runs_timeWithdrawn {t : Nat} (hg : s.chip.pond.grants = []) (hd : (s.chip.ports[n]).line.timeDue = some t) (ht : t ≤ s.chip.clk.now)
    (hw : (s.chip.ports[n]).line.timeWait = none) :
    Runs (.timeFrameWithdraw n) s (fun c => (c.ports[n]).line.tx[(0 : Fin 32)] = none ∧ (c.ports[n]).line.timeDue = none) := by
  have hexec : exec (.timeFrameWithdraw n) s = execTimeFrameWithdraw n s := rfl
  refine runs_of_runS_eq hexec (d := s.chip.updLine n (fun l => { l.setBuf 0 none with timeDue := none })) ?_ hg ?_
  · dsimp only
    rw [hd, hw, if_neg (by simpa using ht), if_neg (by decide)]
  · rw [updLine_same]
    exact ⟨setBuf_tx _ _ _, rfl⟩

theorem runs_timeWaitWithdrawn {t : Nat} {f : CanFrame} (hg : s.chip.pond.grants = []) (hd : (s.chip.ports[n]).line.timeDue = some t)
    (ht : t ≤ s.chip.clk.now) (hw : (s.chip.ports[n]).line.timeWait = some f) :
    Runs (.timeFrameWithdraw n) s (fun c => (c.ports[n]).line.timeWait = none ∧ (c.ports[n]).line.timeDue = none ∧
      (c.ports[n]).line.tx = (s.chip.ports[n]).line.tx) := by
  have hexec : exec (.timeFrameWithdraw n) s = execTimeFrameWithdraw n s := rfl
  refine runs_of_runS_eq hexec (d := s.chip.updLine n (fun l => { l with timeWait := none, timeDue := none })) ?_ hg ?_
  · dsimp only
    rw [hd, hw, if_neg (by simpa using ht)]
    exact if_pos (by rfl)
  · rw [updLine_same]
    exact ⟨rfl, rfl, rfl⟩

theorem runs_busRejoin (hg : s.chip.pond.grants = []) (hl : s.chip.isLine n = true) (hi : (s.chip.ports[n]).line.isolated = false) :
    Runs (.lineBusRejoin n) s (fun c => (c.ports[n]).line.joined = true ∧ (c.ports[n]).txd = true) := by
  have hexec : exec (.lineBusRejoin n) s = execLineBusRejoin n s := rfl
  refine runs_of_runS_eq hexec (d := (s.chip.updLine n (fun l => { l with joined := true })).updPort n (fun p => { p with txd := true })) ?_ hg ?_
  · rw [hl, hi]
    rfl
  · rw [updPort_same]
    refine ⟨?_, rfl⟩
    show ((s.chip.updLine n (fun l => { l with joined := true })).ports[n]).line.joined = true
    rw [updLine_same]

/-! ### Bus-off (R235) -/

/-- The line's BOFF_AUTO stays, which the timing registers' write leaves alone. -/
def AutoKept (n : Port) (c x : Chip) : Prop := Canon c → Canon x ∧ x.bit (.LINE_CTL n) F.LINE_CTL_BOFF_AUTO = c.bit (.LINE_CTL n) F.LINE_CTL_BOFF_AUTO

variable {x y : Chip}

theorem AutoKept.trans (h : AutoKept n c x) (k : AutoKept n x y) : AutoKept n c y := fun hc =>
  ⟨(k (h hc).1).1, ((k (h hc).1).2).trans (h hc).2⟩

theorem autoKept_of_fr {p : List Part} (h : Fr (keeping p [.LINE_CTL n]) c x) : AutoKept n c x := fun hc =>
  ⟨h.canon hc, bit_of_rd (h.kept.regs (.LINE_CTL n) (by simp)) _⟩

theorem setB_autoKept (c : Chip) (n : Port) {f : Field} (b : Bool) (hf : Field.fits f) (ho : f.hi < F.LINE_CTL_BOFF_AUTO.lo ∨ F.LINE_CTL_BOFF_AUTO.hi < f.lo) :
    AutoKept n c (c.setB (.LINE_CTL n) f b) := fun hc =>
  ⟨canon_setF hc _ _ _, bit_setF_field c hc _ _ _ _ hf (by decide) ho⟩

theorem applyTiming_autoKept (c : Chip) (n : Port) (t : TimingSet) : AutoKept n c (c.applyTiming n t) := by
  unfold Chip.applyTiming
  extract_lets now bits c1 c2 c3 c4 c5
  have h3 : Fr (keeping [] [.LINE_CTL n]) c c3 := by
    refine Chip.wrRW_fr (Chip.wrRW_fr (Chip.wrRW_fr (Fr.refl _ c) ?_ ?_) ?_ ?_) ?_ ?_ <;> simp
  have h4 : AutoKept n c3 c4 := by
    rcases hctl : t.ctl with _ | ⟨triple, brs⟩
    · have he : c4 = c3 := by simp only [c4, hctl]
      rw [he]
      exact autoKept_of_fr (p := []) (Fr.refl _ _)
    · have he : c4 = (c3.setB (.LINE_CTL n) F.LINE_CTL_TRIPLE triple).setB (.LINE_CTL n) F.LINE_CTL_BRS brs := by simp only [c4, hctl]
      rw [he]
      exact .trans (setB_autoKept _ _ _ (by decide) (by decide)) (setB_autoKept _ _ _ (by decide) (by decide))
  have h5 : Fr (keeping [] [.LINE_CTL n]) c4 (c5.each t.reqs (fun c q => c.answer q rOK)) := by
    refine Fr.each ?_ (fun c q hq => ?_)
    · apply Chip.updLine_fr (Chip.tdcOn_fr (Fr.refl _ _) ?_) <;> simp
    · apply Chip.answer_fr hq <;> simp
  exact ((autoKept_of_fr h3).trans h4).trans (autoKept_of_fr h5)

theorem applyTimingDue_autoKept (c : Chip) (n : Port) : AutoKept n c (c.applyTimingDue n) := by
  unfold Chip.applyTimingDue
  split
  · exact autoKept_of_fr (p := []) (Fr.refl _ _)
  split
  · exact autoKept_of_fr (p := []) (Fr.refl _ _)
  · exact applyTiming_autoKept _ _ _

theorem finishTx_apart (c : Chip) (n : Port) (i : Fin 32) (st : Nat) (err : Bool) (b : TxBuf) : ∃ d, Fr (keeping [] [.LINE_CTL n]) c d ∧
    c.finishTx n i st err b = ((d.updLine n (fun l => l.refill.nextTime)).applyTimingDue n).releaseTxd n := by
  unfold Chip.finishTx
  refine ⟨_, ?_, rfl⟩
  have hf : Fr (keeping [] [.LINE_CTL n]) c (c.finishHostTx n i st err b) := by apply Chip.finishHostTx_fr (Fr.refl _ c) <;> simp
  split
  · refine Fr.each (Chip.updLine_fr hf (by simp)) fun d x hd => ?_
    apply Chip.answer_fr hd <;> simp
  · split
    · exact hf
    · exact Chip.updNode_fr hf (by simp)
  · dsimp only
    split
    · split
      · apply Chip.answerOpt_fr (Chip.evRemoved_fr (Chip.updLine_fr hf (by simp)) (by simp)) <;> simp
      · exact hf
    · split
      · exact Chip.updNode_fr hf (by simp)
      · exact hf
  · exact hf

theorem attemptLost_autoKept (c : Chip) (n : Port) (i : Fin 32) (b : TxBuf) (err : Bool) : AutoKept n c (c.attemptLost n i b err) := by
  unfold Chip.attemptLost
  split
  · obtain ⟨d, hd, he⟩ := finishTx_apart c n i txCANCELLED err b
    have hl : Fr (keeping [] [.LINE_CTL n]) c (d.updLine n (fun l => l.refill.nextTime)) := Chip.updLine_fr hd (by simp)
    have hr : Fr (keeping [] [.LINE_CTL n]) ((d.updLine n (fun l => l.refill.nextTime)).applyTimingDue n)
        (((d.updLine n (fun l => l.refill.nextTime)).applyTimingDue n).releaseTxd n) := by
      apply Chip.releaseTxd_fr (Fr.refl _ _) <;> simp
    rw [he]
    exact ((autoKept_of_fr hl).trans (applyTimingDue_autoKept _ _)).trans (autoKept_of_fr hr)
  · have hl : Fr (keeping [] [.LINE_CTL n]) c (c.updLine n (fun l => (l.setBuf i (some { b with started := false })).nextTime)) :=
      Chip.updLine_fr (Fr.refl _ c) (by simp)
    exact (autoKept_of_fr hl).trans (applyTimingDue_autoKept _ _)

/-- What bus-off leaves to the buffers of the line: no TIME frame waits, and what was settled stays. -/
structure Swept (n : Port) (c x : Chip) : Prop where
  canon : Canon x
  auto : x.bit (.LINE_CTL n) F.LINE_CTL_BOFF_AUTO = c.bit (.LINE_CTL n) F.LINE_CTL_BOFF_AUTO
  err : x.rd (.LINE_ERR n) = c.rd (.LINE_ERR n)
  pond : x.pond = c.pond
  noTime : (x.ports[n]).line.tx[(0 : Fin 32)] = none
  noWait : (x.ports[n]).line.timeWait = none
  held : (x.ports[n]).line.held = (c.ports[n]).line.held
  isolated : (x.ports[n]).line.isolated = (c.ports[n]).line.isolated
  boffDue : (x.ports[n]).line.boffDue = (c.ports[n]).line.boffDue

theorem Swept.trans (h : Swept n c x) (k : Swept n x y) : Swept n c y :=
  ⟨k.canon, k.auto.trans h.auto, k.err.trans h.err, k.pond.trans h.pond, k.noTime, k.noWait, k.held.trans h.held,
    k.isolated.trans h.isolated, k.boffDue.trans h.boffDue⟩

theorem swept_self (hc : Canon c) (h0 : (c.ports[n]).line.tx[(0 : Fin 32)] = none) (ht : (c.ports[n]).line.timeWait = none) : Swept n c c :=
  ⟨hc, rfl, rfl, rfl, h0, ht, rfl, rfl, rfl⟩

theorem applyTimingDue_swept (hc : Canon c) (h0 : (c.ports[n]).line.tx[(0 : Fin 32)] = none) (ht : (c.ports[n]).line.timeWait = none) :
    Swept n c (c.applyTimingDue n) := by
  obtain ⟨htx, -, -, htime, hheld, his, hboff⟩ := lineTx_tx (applyTimingDue_txKept c n)
  obtain ⟨hcan, hauto⟩ := applyTimingDue_autoKept c n hc
  have hf : Fr (keeping [.pond] [.LINE_ERR n]) c (c.applyTimingDue n) := by apply Chip.applyTimingDue_fr (Fr.refl _ c) <;> simp
  exact ⟨hcan, hauto, hf.kept.regs _ (by simp), hf.kept.pond (by simp), (congrArg (·[(0 : Fin 32)]) htx).trans h0, htime.trans ht, hheld, his, hboff⟩

theorem attemptLost_settled {i : Fin 32} {b : TxBuf} {err : Bool} (hi : i.val ≠ 0) (h0 : (c.ports[n]).line.tx[(0 : Fin 32)] = none)
    (ht : (c.ports[n]).line.timeWait = none) :
    let l := ((c.attemptLost n i b err).ports[n]).line
    l.tx[(0 : Fin 32)] = none ∧ l.timeWait = none ∧ l.held = (c.ports[n]).line.held ∧ l.isolated = (c.ports[n]).line.isolated ∧
      l.boffDue = (c.ports[n]).line.boffDue := by
  have hne : i ≠ 0 := fun he => hi (congrArg Fin.val he)
  cases hb : b.cancelled with
  | false =>
    obtain ⟨htx, -, -, htime, hheld, his, hboff⟩ := lineTx_tx (attemptLost_line c n i b err hb)
    have hnext : ((c.ports[n]).line.setBuf i (some { b with started := false })).nextTime = (c.ports[n]).line.setBuf i (some { b with started := false }) := by
      rw [Line.nextTime, show ((c.ports[n]).line.setBuf i (some { b with started := false })).timeWait = none from ht]
    rw [hnext] at htx htime hheld his hboff
    exact ⟨(congrArg (·[(0 : Fin 32)]) htx).trans ((setBuf_tx_other _ _ hne).trans h0), htime.trans ht, hheld, his, hboff⟩
  | true =>
    obtain ⟨l, hl, hend⟩ := finishTx_line c n i txCANCELLED err b
    have he : c.attemptLost n i b err = c.finishTx n i txCANCELLED err b := by
      unfold Chip.attemptLost
      rw [if_pos hb]
    rw [he]
    obtain ⟨htx, -, -, htime, hheld, his, hboff⟩ := lineTx_tx hl
    obtain ⟨ktx, -, -, ktime, kheld, kis, kboff⟩ := lineTx_tx hend
    obtain ⟨e1, e2, e3, e4, e5⟩ := txEnded_others i txCANCELLED b (c.ports[n]).line hne
    obtain ⟨r1, r2, r3, r4, r5⟩ := refill_zero (l := l) ((congrArg (·[(0 : Fin 32)]) htx).trans (e1.trans h0)) (htime.trans (e2.trans ht))
    exact ⟨(congrArg (·[(0 : Fin 32)]) ktx).trans r1, ktime.trans r2, kheld.trans (r3.trans (hheld.trans e3)),
      kis.trans (r4.trans (his.trans e4)), kboff.trans (r5.trans (hboff.trans e5))⟩

theorem attemptLost_swept {i : Fin 32} {b : TxBuf} {err : Bool} (hc : Canon c) (hi : i.val ≠ 0) (h0 : (c.ports[n]).line.tx[(0 : Fin 32)] = none)
    (ht : (c.ports[n]).line.timeWait = none) : Swept n c (c.attemptLost n i b err) := by
  obtain ⟨k0, kt, kh, ki, kb⟩ := attemptLost_settled (b := b) (err := err) hi h0 ht
  obtain ⟨hcan, hauto⟩ := attemptLost_autoKept c n i b err hc
  have hf : Fr (keeping [.pond] [.LINE_ERR n]) c (c.attemptLost n i b err) := by apply Chip.attemptLost_fr (Fr.refl _ c) <;> simp
  exact ⟨hcan, hauto, hf.kept.regs _ (by simp), hf.kept.pond (by simp), k0, kt, kh, ki, kb⟩

/-- The attempt of a buffer that is under way is lost. -/
def lossAt (n : Port) (c : Chip) (i : Fin 32) : Chip :=
  ((c.ports[n]).line.tx[i]).elim c (fun b => if b.started then c.attemptLost n i b true else c)

theorem lossAt_swept (hc : Canon c) (h0 : (c.ports[n]).line.tx[(0 : Fin 32)] = none) (ht : (c.ports[n]).line.timeWait = none) (i : Fin 32) :
    Swept n c (lossAt n c i) := by
  unfold lossAt
  cases hb : (c.ports[n]).line.tx[i] with
  | none => exact swept_self hc h0 ht
  | some b =>
    have hi : i.val ≠ 0 := fun he => by
      have : i = 0 := Fin.ext he
      rw [this] at hb
      cases h0.symm.trans hb
    rw [Option.elim_some]
    split
    · exact attemptLost_swept hc hi h0 ht
    · exact swept_self hc h0 ht

theorem each_lossAt_swept : ∀ (l : List (Fin 32)) {c : Chip}, Canon c → (c.ports[n]).line.tx[(0 : Fin 32)] = none →
    (c.ports[n]).line.timeWait = none → Swept n c (c.each l (lossAt n))
  | [], _, hc, h0, ht => swept_self hc h0 ht
  | i :: l, _, hc, h0, ht => by
    have h := lossAt_swept (n := n) hc h0 ht i
    exact h.trans (each_lossAt_swept l h.canon h.noTime h.noWait)

/-- The line goes off its bus: TEC 255, no TIME frame, and held or isolated where it failed again soon. -/
def offTaken (n : Port) (held isolated : Bool) (c : Chip) : Chip :=
  (((c.updLine n (fun l => { l.setBuf 0 none with timeDue := none, timeWait := none, boffDue := false })).setCounters n 0xFF
    (c.get (.LINE_ERR n) F.LINE_ERR_REC)).setSt (.LINE_ERR n) F.LINE_ERR_STATE leBUSOFF).updLine n
    (fun l => { l with offAt := c.clk.now, held := held, isolated := isolated })

/-- The attempts under way are lost and the timing settings that wait apply. -/
def offSwept (n : Port) (c : Chip) : Chip := (c.each (List.finRange 32) (lossAt n)).applyTimingDue n

/-- Bus-off told, and its recovery ladder. -/
def offTold (n : Port) (held isolated : Bool) (c : Chip) : Chip :=
  let c := if isolated then c.updPort n (fun p => { p with txd := true, stbLow := false }) else c
  let c := c.postFault .line (c.ev 0x0508 1 n.val [bitOf held + 2 * bitOf isolated])
  if isolated then c.escalate 9 3 n.val 0x0508 else if held then c.escalate 9 2 n.val 0x0508 else c

theorem offTaken_state (hc : Canon c) (held isolated : Bool) :
    Canon (offTaken n held isolated c) ∧ (offTaken n held isolated c).get (.LINE_ERR n) F.LINE_ERR_TEC = 255 ∧
    (offTaken n held isolated c).get (.LINE_ERR n) F.LINE_ERR_REC = c.get (.LINE_ERR n) F.LINE_ERR_REC ∧
    (offTaken n held isolated c).get (.LINE_ERR n) F.LINE_ERR_STATE = leBUSOFF ∧
    (offTaken n held isolated c).bit (.LINE_CTL n) F.LINE_CTL_BOFF_AUTO = c.bit (.LINE_CTL n) F.LINE_CTL_BOFF_AUTO ∧
    (offTaken n held isolated c).pond = c.pond := by
  obtain ⟨w, hw⟩ : ∃ w, c.updLine n (fun l => { l.setBuf 0 none with timeDue := none, timeWait := none, boffDue := false }) = w := ⟨_, rfl⟩
  have hwc : Canon w := hw ▸ ⟨hc.regs, hc.flash, hc.blocks⟩
  have hwr : ∀ q, w.rd q = c.rd q := fun q => hw ▸ rfl
  have hwp : w.pond = c.pond := hw ▸ rfl
  have hcnt := (setCounters_counted (n := n) hwc (tec := 0xFF) (rec_ := c.get (.LINE_ERR n) F.LINE_ERR_REC) (by decide) (errCount_lt c n).2).setState
    (v := leBUSOFF) (by decide)
  unfold offTaken
  rw [hw]
  refine ⟨⟨hcnt.canon.regs, hcnt.canon.flash, hcnt.canon.blocks⟩, hcnt.tec, hcnt.rec_, hcnt.state, ?_, (hcnt.kept.kept.pond (by decide)).trans hwp⟩
  exact (bit_of_rd (hcnt.kept.kept.regs (.LINE_CTL n) (by rfl)) _).trans (bit_of_rd (hwr _) _)

theorem offTaken_line (hc : Canon c) (held isolated : Bool) :
    let l := ((offTaken n held isolated c).ports[n]).line
    l.tx[(0 : Fin 32)] = none ∧ l.timeWait = none ∧ l.held = held ∧ l.isolated = isolated ∧ l.boffDue = false := by
  have hcnt := (setCounters_counted (n := n) (c := c.updLine n (fun l => { l.setBuf 0 none with timeDue := none, timeWait := none, boffDue := false }))
    ⟨hc.regs, hc.flash, hc.blocks⟩ (tec := 0xFF) (rec_ := c.get (.LINE_ERR n) F.LINE_ERR_REC) (by decide) (errCount_lt c n).2).setState
    (v := leBUSOFF) (by decide)
  obtain ⟨a, b, hline⟩ := hcnt.line
  unfold offTaken
  dsimp only
  rw [updLine_same, hline, updLine_same]
  exact ⟨setBuf_tx _ _ _, rfl, rfl, rfl, rfl⟩

theorem offSwept_swept (hc : Canon c) (h0 : (c.ports[n]).line.tx[(0 : Fin 32)] = none) (ht : (c.ports[n]).line.timeWait = none) :
    Swept n c (offSwept n c) := by
  have h := each_lossAt_swept (n := n) (List.finRange 32) hc h0 ht
  exact h.trans (applyTimingDue_swept h.canon h.noTime h.noWait)

theorem offTold_fr (n : Port) (held isolated : Bool) (c : Chip) : Fr (keeping [.pond] [.LINE_ERR n, .LINE_CTL n]) c (offTold n held isolated c) := by
  unfold offTold
  extract_lets u v
  have hu : Fr (keeping [.pond] [.LINE_ERR n, .LINE_CTL n]) c u := by
    unfold u
    split
    · exact Chip.updPort_fr (Fr.refl _ c) (by simp)
    · exact Fr.refl _ c
  have hv : Fr (keeping [.pond] [.LINE_ERR n, .LINE_CTL n]) c v := by
    apply Chip.postFault_fr hu <;> simp
  split
  · apply Chip.escalate_fr hv <;> simp
  split
  · apply Chip.escalate_fr hv <;> simp
  · exact hv

theorem line_of_ports (h : x.ports = c.ports) (n : Port) : (x.ports[n]).line = (c.ports[n]).line := by
  rw [h]

theorem offTold_line (n : Port) (held isolated : Bool) (c : Chip) : ((offTold n held isolated c).ports[n]).line = (c.ports[n]).line := by
  unfold offTold
  extract_lets u v
  have hu : (u.ports[n]).line = (c.ports[n]).line := by
    unfold u
    split
    · rw [updPort_same]
    · rfl
  have hv : Fr (keeping [.ports] []) u v := by
    apply Chip.postFault_fr (Fr.refl _ u) <;> simp
  have hesc : ∀ r, Fr (keeping [.ports] []) u (v.escalate 9 r n.val 0x0508) := fun r => by
    apply Chip.escalate_fr hv <;> simp
  clear_value v u
  split
  · exact (line_of_ports ((hesc 3).kept.ports (by simp)) n).trans hu
  split
  · exact (line_of_ports ((hesc 2).kept.ports (by simp)) n).trans hu
  · exact (line_of_ports (hv.kept.ports (by simp)) n).trans hu

theorem startRecovery_state (hc : Canon c) (n : Port) :
    (c.startRecovery n).get (.LINE_ERR n) F.LINE_ERR_STATE = leRECOVERING ∧
    (c.startRecovery n).get (.LINE_ERR n) F.LINE_ERR_TEC = c.get (.LINE_ERR n) F.LINE_ERR_TEC ∧
    (c.startRecovery n).get (.LINE_ERR n) F.LINE_ERR_REC = c.get (.LINE_ERR n) F.LINE_ERR_REC ∧
    lineTx ((c.startRecovery n).ports[n]).line = lineTx (c.ports[n]).line := by
  unfold Chip.startRecovery
  refine ⟨get_setSt_same c hc _ _ _ (by decide) (by decide) (by decide), get_setSt_field c hc _ _ _ _ (by decide) (by decide) (by decide),
    get_setSt_field c hc _ _ _ _ (by decide) (by decide) (by decide), ?_⟩
  rw [updLine_same, (Chip.setSt_fr (f := keeping [.ports] []) (Fr.refl _ c) rfl).kept.ports (by simp)]
  rfl

theorem runs_busOff {b : Bool} (hc : Canon s.chip) (hg : s.chip.pond.grants = []) (hl : s.chip.isLine n = true) (ho : s.chip.lineOff n = false)
    (hd : (s.chip.ports[n]).line.boffDue = true) (hb : b = (s.chip.ports[n]).line.busOnAt.any (fun t => s.chip.clk.now < t + sec 1)) :
    Runs (.busOffEntry n) s (fun c => c.get (.LINE_ERR n) F.LINE_ERR_TEC = 255 ∧ (c.ports[n]).line.boffDue = false ∧
      c.get (.LINE_ERR n) F.LINE_ERR_REC = s.chip.get (.LINE_ERR n) F.LINE_ERR_REC ∧ (c.ports[n]).line.tx[(0 : Fin 32)] = none ∧
      (c.ports[n]).line.held = (b && !(s.chip.ports[n]).line.fromHeld) ∧ (c.ports[n]).line.isolated = (b && (s.chip.ports[n]).line.fromHeld) ∧
      c.get (.LINE_ERR n) F.LINE_ERR_STATE = (if s.chip.bit (.LINE_CTL n) F.LINE_CTL_BOFF_AUTO && !b then leRECOVERING else leBUSOFF)) := by
  obtain ⟨held, hheld⟩ : ∃ x, (b && !(s.chip.ports[n]).line.fromHeld) = x := ⟨_, rfl⟩
  obtain ⟨iso, hiso⟩ : ∃ x, (b && (s.chip.ports[n]).line.fromHeld) = x := ⟨_, rfl⟩
  rw [hheld, hiso]
  obtain ⟨hu, htec, hrec, hstate, hauto, hpond⟩ := offTaken_state (n := n) hc held iso
  obtain ⟨h0, ht, kh, ki, kb⟩ := offTaken_line (n := n) hc held iso
  obtain ⟨u, hue⟩ : ∃ u, offTaken n held iso s.chip = u := ⟨_, rfl⟩
  rw [hue] at hu htec hrec hstate hauto hpond h0 ht kh ki kb
  have hsw := offSwept_swept hu h0 ht
  obtain ⟨v, hv⟩ : ∃ v, offSwept n u = v := ⟨_, rfl⟩
  rw [hv] at hsw
  have htf := offTold_fr n held iso v
  have htl := offTold_line n held iso v
  obtain ⟨w, hw⟩ : ∃ w, offTold n held iso v = w := ⟨_, rfl⟩
  rw [hw] at htf htl
  have hreg : ∀ f, w.get (.LINE_ERR n) f = u.get (.LINE_ERR n) f := fun f =>
    (get_of_rd (htf.kept.regs _ (by simp)) f).trans (get_of_rd hsw.err f)
  have hwauto : w.bit (.LINE_CTL n) F.LINE_CTL_BOFF_AUTO = s.chip.bit (.LINE_CTL n) F.LINE_CTL_BOFF_AUTO :=
    (bit_of_rd (htf.kept.regs _ (by simp)) _).trans (hsw.auto.trans hauto)
  have hgw : w.pond.grants = [] := by
    rw [htf.kept.pond (by simp), hsw.pond, hpond]
    exact hg
  have hexec : exec (.busOffEntry n) s = execBusOffEntry n s := rfl
  have hsoon : (!held && !iso) = !b := by
    rw [← hheld, ← hiso]
    cases b <;> cases (s.chip.ports[n]).line.fromHeld <;> rfl
  refine runs_of_runS_eq hexec (d := if w.bit (.LINE_CTL n) F.LINE_CTL_BOFF_AUTO && !b then w.startRecovery n else w) ?_ ?_ ?_
  · rw [hl, ho, hd, if_neg (by decide), ← hsoon, ← Bool.and_assoc]
    extract_lets l soon isolated holds now c1 c2 c3 c4 c5 c6 c7
    have eh : holds = held := hheld ▸ hb ▸ rfl
    have ei : isolated = iso := hiso ▸ hb ▸ rfl
    have e3 : c3 = u := by
      rw [← hue, ← eh, ← ei]
      rfl
    have e4 : c4 = offSwept n c3 := congrArg (fun f => (c3.each (List.finRange 32) f).applyTimingDue n)
      (funext fun d => funext fun i => by
        unfold lossAt
        cases (d.ports[n]).line.tx[i] <;> rfl)
    have e7 : c7 = w := by
      rw [← hw, ← hv, ← e3, ← e4, ← eh, ← ei]
      rfl
    rw [e7, eh, ei]
  · split
    · exact (congrArg Pond.grants ((Chip.startRecovery_fr (f := keeping [.pond] []) (Fr.refl _ w) (by simp) (by simp)).kept.pond (by simp))).trans hgw
    · exact hgw
  · rw [hwauto]
    have hline : lineTx (w.ports[n]).line = lineTx (v.ports[n]).line := congrArg lineTx htl
    have hfin : ∀ x : Chip, lineTx (x.ports[n]).line = lineTx (w.ports[n]).line → (x.ports[n]).line.boffDue = false ∧
        (x.ports[n]).line.tx[(0 : Fin 32)] = none ∧ (x.ports[n]).line.held = held ∧ (x.ports[n]).line.isolated = iso := fun x hx => by
      obtain ⟨htx, -, -, -, hhe, his, hbo⟩ := lineTx_tx (hx.trans hline)
      exact ⟨hbo.trans (hsw.boffDue.trans kb), (congrArg (·[(0 : Fin 32)]) htx).trans hsw.noTime, hhe.trans (hsw.held.trans kh),
        his.trans (hsw.isolated.trans ki)⟩
    split
    · obtain ⟨s1, s2, s3, s4⟩ := startRecovery_state (htf.canon hsw.canon) n
      obtain ⟨f1, f2, f3, f4⟩ := hfin _ s4
      exact ⟨s2.trans ((hreg _).trans htec), f1, s3.trans ((hreg _).trans hrec), f2, f3, f4, s1⟩
    · obtain ⟨f1, f2, f3, f4⟩ := hfin w rfl
      exact ⟨(hreg _).trans htec, f1, (hreg _).trans hrec, f2, f3, f4, (hreg _).trans hstate⟩

end

/-! ### The obligation -/

/-- Settles O29: what the line's CAN controller does with a frame received or sent, an error, bus-off and the way back, one lemma each. -/
theorem lineWire : Obligations.LineWire := by
  unfold Obligations.LineWire
  intro s hc hg n
  exact ⟨fun f g h1 h2 h3 h4 hf => runs_lineFrame_none hc hg ⟨h1, h2, h3, h4⟩ hf,
    fun f g h1 h2 h3 h4 hf hl => runs_lineFrame_queued hc hg ⟨h1, h2, h3, h4⟩ hf hl,
    fun f g h1 h2 h3 h4 hf hl => runs_lineFrame_full hc hg ⟨h1, h2, h3, h4⟩ hf hl,
    fun f g t h1 h2 h3 h4 hf hup ht hs hfit => runs_lineFrame_stream hc hg ⟨h1, h2, h3, h4⟩ hf hup ht hs hfit,
    fun f g h1 h2 h3 h4 => runs_lineException hc hg ⟨h1, h2, h3, h4⟩,
    fun x l hq hup hs => runs_rxq0_known hg hq hup hs,
    fun x l k hq hup hs => runs_rxq0_stranger hc hg hq hup hs,
    fun i b ht hclk hj ho hl hoff => runs_txStarted hg ht hclk hj ho hl hoff,
    fun i b d ht hs hf => runs_loopDelay hc hg ht hs hf,
    fun i b w ht hw hs hb hi => runs_lost hg ht hw hs hb hi,
    fun b w f ht hw hs hb hf => runs_lostTime hg ht hw hs hb hf,
    fun i b w ht hw hs hb hwait htime => runs_lostCancelled hg ht hw hs hb hwait htime,
    fun i b ht hs hl hwait htime => runs_txCompleted hc hg ht hs hl hwait htime,
    fun o x t r hl hclk ho ht hr => runs_busError hc hg hl hclk ho ht hr,
    fun b hl ho hd hb => runs_busOff hc hg hl ho hd hb,
    fun hst hl hr => runs_busOn hc hg hst hl hr,
    fun f hr he ht hf => runs_timeBoundary hg hr he ht hf,
    fun t b hd ht hb hs hw => runs_timeWithdrawn hg hd ht hw,
    fun t f hd ht hw => runs_timeWaitWithdrawn hg hd ht hw,
    fun hl hi => runs_busRejoin hg hl hi⟩

end Sys2Proof.Proofs

namespace Sys2Proof.Proofs

open Sys2Proof.Machine Sys2Proof.Laws

/-! SUPPORT. The policy engine of a port: what its messages, its states and its hard resets leave (14). -/

section

variable {c x : Chip} {n : Port}

/-! ### Fields of a status register -/

theorem get_updSt (h : Canon c) (r : Reg) (f : Word → Word) (g : Field) (hg : g.hi < 24) : (c.updSt r f).get r g = fget (f (c.rd r)) g := by
  unfold Chip.updSt
  extract_lets w
  split
  next he => rw [show f (c.rd r) = c.rd r from he, Chip.get]
  next => exact get_wr_bump c h r _ g hg

theorem canon_updSt (h : Canon c) (r : Reg) (f : Word → Word) : Canon (c.updSt r f) :=
  (Chip.updSt_fr (f := keeping [] []) (Fr.refl _ c) (by simp)).canon h

theorem canon_updPd (h : Canon c) (n : Port) (f : Pd → Pd) : Canon (c.updPd n f) := ⟨h.regs, h.flash, h.blocks⟩

theorem fields_apart {f g : Field} {w : Word} {v : Nat} (hf : Field.fits f) (hg : g.hi < 32) (ha : f.hi < g.lo ∨ g.hi < f.lo) :
    fget (fset w f v) g = fget w g := fget_fset_other w f g v hf hg ha

/-- PD_STATUS is all that changes of the registers, and no part of the chip changes. -/
theorem setSt_kept (c : Chip) (r : Reg) (f : Field) (v : Nat) : Fr (keeping allParts []) c (c.setSt r f v) :=
  Chip.setSt_fr (Fr.refl _ c) (by simp)

theorem setPd_ports (c : Chip) (n : Port) (st : Nat) : (c.setPd n st).ports = c.ports := (setSt_kept c _ _ _).kept.ports (by decide)

theorem updSt_ports (c : Chip) (r : Reg) (f : Word → Word) : (c.updSt r f).ports = c.ports :=
  (Chip.updSt_fr (f := keeping [.ports] []) (Fr.refl _ c) (by simp)).kept.ports (by simp)

theorem setSt_ports (c : Chip) (r : Reg) (f : Field) (v : Nat) : (c.setSt r f v).ports = c.ports := (setSt_kept c r f v).kept.ports (by decide)

theorem pd_of_ports (h : x.ports = c.ports) (n : Port) : (x.ports[n]).pd = (c.ports[n]).pd := by
  rw [h]

theorem pdSt_setPd (h : Canon c) (n : Port) {st : Nat} (hs : st < 16) : (c.setPd n st).pdSt n = st :=
  get_setSt_same c h _ _ _ (by decide) (by decide) hs

theorem setPd_bit (h : Canon c) (n : Port) (st : Nat) {g : Field} (hg : g.hi < 24) (ha : 3 < g.lo) :
    (c.setPd n st).bit (.PD_STATUS n) g = c.bit (.PD_STATUS n) g :=
  bit_setSt_field c h _ _ _ _ (by decide) hg (.inl ha)

theorem canon_setPd (h : Canon c) (n : Port) (st : Nat) : Canon (c.setPd n st) := canon_setSt h _ _ _

/-- A step that leaves PD_STATUS leaves the state it shows. -/
theorem pdSt_of_rd (h : x.rd (.PD_STATUS n) = c.rd (.PD_STATUS n)) : x.pdSt n = c.pdSt n := get_of_rd h _

theorem pdSt_setSt (h : Canon c) (n : Port) {f : Field} (v : Nat) (hf : Field.fits f) (ha : 3 < f.lo) :
    (c.setSt (.PD_STATUS n) f v).pdSt n = c.pdSt n :=
  get_setSt_field c h _ _ _ _ hf (by decide) (.inr ha)

/-! ### Messages sent -/

theorem pdSend_sent (c : Chip) (n : Port) (m : PdOut) : ((c.pdSend n m).ports[n]).pd.sent = m := by
  unfold Chip.pdSend
  rw [updPd_same]

theorem pdOffer_of (hs : x.rd (.PD_STATUS n) = c.rd (.PD_STATUS n)) (hc : x.rd (.PD_CAPS n) = c.rd (.PD_CAPS n))
    (hl : x.rd (.PD_LIMIT n) = c.rd (.PD_LIMIT n)) (b : Bool) : x.pdOffer n b = c.pdOffer n b := by
  have hcur : ∀ v, x.pdCurrent n b v = c.pdCurrent n b v := fun v => by
    unfold Chip.pdCurrent
    simp only [get_of_rd hl, bit_of_rd hs]
  have hobj : x.pdObjects n b = c.pdObjects n b := by
    unfold Chip.pdObjects
    simp only [get_of_rd hc, bit_of_rd hs, hc]
  unfold Chip.pdOffer
  simp only [hcur, hobj]

theorem pdWords_of (hs : x.rd (.PD_STATUS n) = c.rd (.PD_STATUS n)) (hc : x.rd (.PD_CAPS n) = c.rd (.PD_CAPS n))
    (hl : x.rd (.PD_LIMIT n) = c.rd (.PD_LIMIT n)) (b : Bool) : x.pdWords n b = c.pdWords n b := by
  have hpdo : x.pdo n = c.pdo n := by
    funext o
    unfold Chip.pdo
    simp only [get_of_rd hc]
  unfold Chip.pdWords
  simp only [pdOffer_of hs hc hl, hpdo]

theorem capsMsg_of (hs : x.rd (.PD_STATUS n) = c.rd (.PD_STATUS n)) (hc : x.rd (.PD_CAPS n) = c.rd (.PD_CAPS n))
    (hl : x.rd (.PD_LIMIT n) = c.rd (.PD_LIMIT n)) : capsMsg x n = capsMsg c n := by
  unfold capsMsg
  rw [pdWords_of hs hc hl, bit_of_rd hs]
  unfold Chip.pdReduced
  rw [bit_of_rd hs]

theorem pdCapsSent_kept (c : Chip) (n : Port) : Fr (keeping [.pond, .clk] [.PD_STATUS n, .PD_CAPS n, .PD_LIMIT n, .PD_VOUT n]) c (c.pdCapsSent n) := by
  apply Chip.pdCapsSent_fr (Fr.refl _ c) <;> simp

/-- The capabilities go out, and nothing else of the policy engine moves. -/
theorem pdCapsSent_pd (c : Chip) (n : Port) : ((c.pdCapsSent n).ports[n]).pd =
    { ((c.pdSend n (capsMsg c n)).ports[n]).pd with capsDue := false } := by
  unfold Chip.pdCapsSent
  extract_lets w d e
  refine (pd_of_ports ((fr_post (ps := [.ports]) (rs := []) e _ (by simp)).kept.ports (by simp)) n).trans ?_
  exact (updPd_same d n _).trans rfl

/-! ### VCONN swaps and the cable -/

theorem swapRuns_st (h : Canon c) (n : Port) : (c.swapRuns n).pdSt n = pdVCONN_SWAP := by
  unfold Chip.swapRuns
  extract_lets st
  split
  next he => exact he
  next => exact pdSt_setPd (canon_updPd h _ _) n (by decide)

/-- A swap under way keeps all of the policy engine but the state to which it returns. -/
theorem swapRuns_pd (c : Chip) (n : Port) : ∃ k, ((c.swapRuns n).ports[n]).pd = { (c.ports[n]).pd with swapFrom := k } := by
  unfold Chip.swapRuns
  extract_lets st
  split
  · exact ⟨_, rfl⟩
  · refine ⟨st, ?_⟩
    exact (pd_of_ports (setPd_ports _ n _) n).trans (updPd_same c n _)

theorem swapRuns_kept (c : Chip) (n : Port) : Fr (keeping [.pond, .clk] [.PD_CAPS n, .PD_LIMIT n]) c (c.swapRuns n) := by
  apply Chip.swapRuns_fr (Fr.refl _ c) <;> simp

theorem swapSend_state (h : Canon c) (n : Port) : (c.swapSend n).pdSt n = pdVCONN_SWAP ∧ ((c.swapSend n).ports[n]).pd.swap = .sent ∧
    ((c.swapSend n).ports[n]).pd.sent = .vconnSwap ∧ ((c.swapSend n).ports[n]).pd.swapWanted = false ∧
    ((c.swapSend n).ports[n]).pd.swapTries = (c.ports[n]).pd.swapTries := by
  unfold Chip.swapSend
  extract_lets d
  obtain ⟨k, hk⟩ := swapRuns_pd d n
  rw [hk, updPd_same]
  refine ⟨swapRuns_st (canon_updPd (canon_updPd h _ _) _ _) n, rfl, pdSend_sent c n _, rfl, ?_⟩
  unfold Chip.pdSend
  rw [updPd_same]

theorem discover_st (h : Canon c) (n : Port) : (c.discover n).pdSt n =
    if c.needsCable n && !(c.ports[n]).pd.discovering && (c.ports[n]).pd.swap == .idle && !c.vconnSrc n then pdVCONN_SWAP else c.pdSt n := by
  unfold Chip.discover
  extract_lets p
  cases hn : (c.needsCable n && !(c.ports[n]).pd.discovering && (c.ports[n]).pd.swap == .idle)
  · rfl
  · unfold Chip.vconnSrc
    cases hv : c.bit (.PD_STATUS n) F.PD_STATUS_VCONN_SRC
    · exact (swapSend_state (canon_updPd h _ _) n).1
    · rfl

theorem discover_kept (c : Chip) (n : Port) : Fr (keeping [.pond, .clk] [.PD_CAPS n, .PD_LIMIT n]) c (c.discover n) := by
  apply Chip.discover_fr (Fr.refl _ c) <;> simp

/-! ### Hard resets (R306) -/

/-- The fault bit and the state of PD_STATUS stay through the loss of a contract; so does GLB_FAULT. -/
structure Downed (n : Port) (c x : Chip) : Prop where
  canon : Canon x
  fault : x.bit (.PD_STATUS n) F.PD_STATUS_CONV_FAULT = c.bit (.PD_STATUS n) F.PD_STATUS_CONV_FAULT
  glb : x.rd .GLB_FAULT = c.rd .GLB_FAULT

variable {y : Chip}

theorem Downed.trans (h : Downed n c x) (k : Downed n x y) : Downed n c y := ⟨k.canon, k.fault.trans h.fault, k.glb.trans h.glb⟩

theorem downed_of_fr {ps : List Part} {rs : List Reg} (hc : Canon c) (h : Fr (keeping ps rs) c x) (hs : Reg.PD_STATUS n ∈ rs) (hg : Reg.GLB_FAULT ∈ rs) :
    Downed n c x :=
  ⟨h.canon hc, bit_of_rd (h.kept.regs _ (by simpa using hs)) _, h.kept.regs _ (by simpa using hg)⟩

theorem setSt_downed (hc : Canon c) (n : Port) {f : Field} (v : Nat) (hf : Field.fits f)
    (ha : f.hi < F.PD_STATUS_CONV_FAULT.lo ∨ F.PD_STATUS_CONV_FAULT.hi < f.lo) : Downed n c (c.setSt (.PD_STATUS n) f v) :=
  ⟨canon_setSt hc _ _ _, bit_setSt_field c hc _ _ _ _ hf (by decide) ha, rd_setSt_other c _ _ (by simp)⟩

theorem pdConvOff_downed (hc : Canon c) (n : Port) : Downed n c (c.pdConvOff n) := by
  unfold Chip.pdConvOff
  extract_lets d e
  have he : Downed n c e := downed_of_fr (ps := []) (rs := [.PD_STATUS n, .GLB_FAULT]) hc (by
    apply Chip.updPd_fr (Chip.pmbSend_fr (Chip.pdAim_fr (Fr.refl _ c) ?_ ?_) ?_) <;> simp) (by simp) (by simp)
  exact he.trans (setSt_downed he.canon n _ (by decide) (by decide))

theorem pdNoContract_downed (hc : Canon c) (n : Port) : Downed n c (c.pdNoContract n) := by
  unfold Chip.pdNoContract
  extract_lets d
  have hd : Canon d := canon_updPd hc _ _
  refine ⟨canon_updSt hd _ _, ?_, (Chip.updSt_fr (f := keeping [] [.GLB_FAULT]) (Fr.refl _ d) (by simp)).kept.regs .GLB_FAULT (by simp)⟩
  unfold Chip.bit
  rw [get_updSt hd _ _ _ (by decide), fields_apart (by decide) (by decide) (by decide), fields_apart (by decide) (by decide) (by decide),
    fields_apart (by decide) (by decide) (by decide), fields_apart (by decide) (by decide) (by decide), fields_apart (by decide) (by decide) (by decide)]
  rfl

theorem pdDown_downed (hc : Canon c) (n : Port) : Downed n c (c.pdDown n) := by
  unfold Chip.pdDown
  extract_lets d e q g k
  have hd : Downed n c d := pdConvOff_downed hc n
  have hg : Fr (keeping [] [.PD_STATUS n, .GLB_FAULT]) d g := by
    apply Chip.answerOpt_fr (Chip.updPd_fr (Chip.swapDrop_fr (Fr.refl _ d) ?_ ?_ ?_ ?_ ?_) ?_) <;> simp
  have hdg := hd.trans (downed_of_fr hd.canon hg (by simp) (by simp))
  have hk := hdg.trans (pdNoContract_downed hdg.canon n)
  have hl : Fr (keeping [] [.PD_STATUS n, .GLB_FAULT]) k (k.powerLost n none) := by
    apply Chip.powerLost_fr (Fr.refl _ k) <;> simp
  exact hk.trans (downed_of_fr hk.canon hl (by simp) (by simp))

theorem post_downed (hc : Canon c) (n : Port) (e : Event) : Downed n c (c.post e) :=
  downed_of_fr (ps := []) (rs := [.PD_STATUS n, .GLB_FAULT]) hc (fr_post c e (by simp)) (by simp) (by simp)

theorem updPd_downed (hc : Canon c) (n : Port) (f : Pd → Pd) : Downed n c (c.updPd n f) := ⟨canon_updPd hc n f, rfl, rfl⟩

theorem setPd_downed (hc : Canon c) (n : Port) (st : Nat) : Downed n c (c.setPd n st) := setSt_downed hc n _ (by decide) (by decide)

theorem errorRecovery_downed (hc : Canon c) (n : Port) (k : Nat) : Downed n c (c.errorRecovery n k) ∧
    (c.errorRecovery n k).pdSt n = pdERROR_RECOVERY := by
  unfold Chip.errorRecovery
  extract_lets d e g
  have hd : Downed n c d := post_downed hc n _
  have he := hd.trans (pdDown_downed hd.canon n)
  have hg : Downed n c g := he.trans (updPd_downed he.canon n _)
  exact ⟨hg.trans (setPd_downed hg.canon n _), pdSt_setPd hg.canon n (by decide)⟩

theorem hardReset_downed (hc : Canon c) (n : Port) (sent : Bool) (k : Nat) : Downed n c (c.hardReset n sent k) ∧
    (c.hardReset n sent k).pdSt n = afterHardReset c n := by
  unfold Chip.hardReset afterHardReset
  extract_lets now recent d out e1 e2 e3 e4 e5 e6
  have hd : Downed n c d := updPd_downed hc n _
  have hlen : recent.length = ((c.ports[n]).pd.hardResets.filter (fun t => c.clk.now < t + sec 10)).length + 1 := List.length_append
  split
  next h3 =>
    obtain ⟨hx, hst⟩ := errorRecovery_downed hd.canon n ceHARD_RESET
    rw [if_pos (by omega)]
    exact ⟨hd.trans hx, hst⟩
  next h3 =>
    rw [if_neg (by omega)]
    have h1 : Downed n c e1 := by
      unfold e1
      split
      · exact hd.trans (updPd_downed hd.canon n _)
      · exact hd
    have h2 : Downed n e1 e2 := ⟨canon_record h1.canon _ _, bit_record_field e1 h1.canon _ _ _ (by decide) (by decide) (by decide),
      rd_record_other e1 _ (by simp)⟩
    have h3 : Downed n e1 e3 := h2.trans (post_downed h2.canon n _)
    have h4 : Downed n e1 e4 := h3.trans (post_downed h3.canon n _)
    have h5 : Downed n e1 e5 := h4.trans (pdDown_downed h4.canon n)
    have h7 : Downed n c e6 := h1.trans (h5.trans (updPd_downed h5.canon n _))
    exact ⟨h7.trans (setPd_downed h7.canon n _), pdSt_setPd h7.canon n (by decide)⟩

/-- What a hard reset shows once the Pond has settled. -/
theorem runs_hardReset {s : State} {i : Instr} {f : Chip → Chip} {sent : Bool} {k : Nat} (hc : Canon s.chip) (h : exec i s = s.runS f)
    (hf : f s.chip = s.chip.hardReset n sent k) : Runs i s (fun c => c.pdSt n = afterHardReset s.chip n) := by
  refine runs_settled h _ hf fun w hw => ?_
  rw [pdSt_of_rd (rd_of_settle hw rfl)]
  exact (hardReset_downed hc n sent k).2

/-! ### Converter faults (R295) -/

/-- A fault of the converter is shown and leads to a hard reset, the second in a row to error recovery. -/
theorem convFault_tells (hc : Canon c) (n : Port) (hst : c.pdSt n ≠ pdOFF) (st k : Nat) :
    (c.convFault n st k).bit (.PD_STATUS n) F.PD_STATUS_CONV_FAULT = true ∧
    (c.convFault n st k).bitAt .GLB_FAULT F.GLB_FAULT_SRC (FaultSrc.pd).bit = true ∧
    (c.convFault n st k).pdSt n = if 2 ≤ (c.ports[n]).pd.convFaults + 1 then pdERROR_RECOVERY else afterHardReset c n := by
  have hbus : c.pdBus n = true := by
    unfold Chip.pdBus
    rw [bne_iff_ne.2 hst, Bool.true_or]
  unfold Chip.convFault
  rw [hbus, if_neg (by decide)]
  extract_lets d e j g
  have hd : Canon d := canon_record hc _ _
  have hdbit : d.bit (.PD_STATUS n) F.PD_STATUS_CONV_FAULT = true := bit_record_same c hc _ _ (by decide) (by decide)
  have hdst : d.pdSt n = c.pdSt n := get_record_field c hc _ _ _ (by decide) (by decide) (by decide)
  have he : Fr (keeping [.ports] [.PD_STATUS n]) d e := by apply Chip.postFault_fr (Fr.refl _ d) <;> simp
  have hports : e.ports = c.ports := he.kept.ports (by simp)
  have hclk : clkCore e.clk = clkCore d.clk := postFault_clkCore d .pd _
  have hnow : e.clk.now = c.clk.now := by
    have h := congrArg Clk.now hclk
    exact h
  have hg : Canon g := canon_updPd (he.canon hd) _ _
  have hgbit : g.bit (.PD_STATUS n) F.PD_STATUS_CONV_FAULT = true := (bit_of_rd (he.kept.regs _ (by simp)) _).trans hdbit
  have hgst : g.pdSt n = c.pdSt n := (pdSt_of_rd (he.kept.regs _ (by simp))).trans hdst
  have hglb : g.bitAt .GLB_FAULT F.GLB_FAULT_SRC (FaultSrc.pd).bit = true := bitAt_postFault d hd .pd _
  have hj : j = (c.ports[n]).pd.convFaults + 1 := by
    unfold j
    rw [hports]
  have hafter : afterHardReset g n = afterHardReset c n := by
    unfold afterHardReset
    rw [show g.clk.now = c.clk.now from hnow, show (g.ports[n]).pd.hardResets = (c.ports[n]).pd.hardResets by
      unfold g
      rw [updPd_same, hports]]
  rw [if_neg (by rw [hgst]; exact hst), hj]
  split
  · obtain ⟨hx, hs⟩ := errorRecovery_downed hg n ceCONVERTER
    exact ⟨hx.fault.trans hgbit, (bitAt_of_rd hx.glb _ _).trans hglb, hs⟩
  · obtain ⟨hx, hs⟩ := hardReset_downed hg n true hcCONVERTER
    exact ⟨hx.fault.trans hgbit, (bitAt_of_rd hx.glb _ _).trans hglb, hs.trans hafter⟩

theorem statusFaulty_tells (hc : Canon c) (n : Port) (hst : c.pdSt n ≠ pdOFF) (w : BitVec 16) :
    (c.statusFaulty n w).bit (.PD_STATUS n) F.PD_STATUS_CONV_FAULT = true ∧
    (c.statusFaulty n w).bitAt .GLB_FAULT F.GLB_FAULT_SRC (FaultSrc.pd).bit = true ∧
    (c.statusFaulty n w).pdSt n = if 2 ≤ (c.ports[n]).pd.convFaults + 1 then pdERROR_RECOVERY else afterHardReset c n := by
  have hbus : c.pdBus n = true := by
    unfold Chip.pdBus
    rw [bne_iff_ne.2 hst, Bool.true_or]
  unfold Chip.statusFaulty
  rw [if_pos hbus]
  obtain ⟨h1, h2, h3⟩ := convFault_tells (c := c.pmbSend n [.clearFaults]) (canon_updPd hc _ _) n hst w.toNat 1
  refine ⟨h1, h2, h3.trans ?_⟩
  unfold afterHardReset Chip.pmbSend
  rw [updPd_same]
  rfl

end

end Sys2Proof.Proofs

namespace Sys2Proof.Proofs

open Sys2Proof.Machine Sys2Proof.Laws

/-! Contracts: capabilities, requests, transitions and the converter (14 R293 to R304). -/

section

variable {s : State} {n : Port}

/-- A live policy engine with no fault serves its converter's bus unless its state is OFF. -/
theorem pdBus_of_st {c : Chip} (h : c.pdSt n ≠ pdOFF) : c.pdBus n = true := by
  unfold Chip.pdBus
  rw [bne_iff_ne.2 h, Bool.true_or]

theorem pdLive_awake {c : Chip} (h : c.pdLive n = true) : c.dozing = false := by
  obtain ⟨-, h⟩ := Bool.and_eq_true_iff.1 h
  simpa using h

theorem any_due {t now : Nat} {o : Option Nat} (h : o = some t) (ht : t ≤ now) : o.any (· ≤ now) = true := by
  rw [h]
  exact decide_eq_true ht

/-! ### vSafe5V and the capabilities (R300, R301) -/

theorem powerBack_kept (c : Chip) (n : Port) : Fr (keeping [.pond, .clk] [.PD_STATUS n, .PD_CFG n, .PD_CAPS n, .PD_LIMIT n]) c (c.powerBack n) := by
  apply Chip.powerBack_fr (Fr.refl _ c) <;> simp

theorem powerBack_pd (c : Chip) (n : Port) : ((c.powerBack n).ports[n]).pd = (c.ports[n]).pd := by
  unfold Chip.powerBack
  split
  · rfl
  split
  · exact pd_of_ports (setSt_ports c _ _ _) n
  · unfold Chip.dropIgnore Chip.updDrop
    rw [updPort_same]

theorem runs_vsafe5v (hc : Canon s.chip) (hg : s.chip.pond.grants = []) (hlive : s.chip.pdLive n = true) (hst : s.chip.pdSt n = pdWAIT_VBUS)
    (hon : (s.chip.ports[n]).pd.converterOn = true) (hr : (s.chip.ports[n]).pd.reached = true) :
    Runs (.vsafe5vReached n) s (fun c => c.pdSt n = if s.chip.pdDirect n then pdDIRECT else
      if s.chip.needsCable n && !(s.chip.ports[n]).pd.discovering && (s.chip.ports[n]).pd.swap == .idle && !s.chip.vconnSrc n then
        pdVCONN_SWAP else pdSEND_CAPS) := by
  have hk := powerBack_kept s.chip n
  obtain ⟨w, hw⟩ : ∃ w, (s.chip.powerBack n).updPd n (fun p => { p with hrReq := none, sends := 0, until_ := some ((s.chip.powerBack n).clk.now + ms 20) }) = w :=
    ⟨_, rfl⟩
  have hwc : Canon w := hw ▸ canon_updPd (hk.canon hc) _ _
  have hwr : ∀ q, w.rd q = (s.chip.powerBack n).rd q := fun q => hw ▸ rfl
  have hwp : w.pond = s.chip.pond := hw ▸ hk.kept.pond (by simp)
  have hstat : w.rd (.PD_STATUS n) = s.chip.rd (.PD_STATUS n) := (hwr _).trans (hk.kept.regs _ (by simp))
  have hdir : w.pdDirect n = s.chip.pdDirect n := by
    unfold Chip.pdDirect
    rw [get_of_rd ((hwr _).trans (hk.kept.regs (.PD_CFG n) (by simp)))]
  have hpd : (w.ports[n]).pd.cableKnown = (s.chip.ports[n]).pd.cableKnown ∧ (w.ports[n]).pd.discovering = (s.chip.ports[n]).pd.discovering ∧
      (w.ports[n]).pd.swap = (s.chip.ports[n]).pd.swap := by
    rw [← hw, updPd_same, powerBack_pd]
    exact ⟨rfl, rfl, rfl⟩
  obtain ⟨hknown, hdisc, hswap⟩ := hpd
  have hset : ∀ st, (w.setPd n st).ports = w.ports := setPd_ports w n
  obtain ⟨v, hv⟩ : ∃ v, w.setPd n pdSEND_CAPS = v := ⟨_, rfl⟩
  have hvp : v.ports = w.ports := hv ▸ setPd_ports w n _
  have hvc : Canon v := hv ▸ canon_setPd hwc n _
  have hneeds : v.needsCable n = s.chip.needsCable n := by
    have hrd : ∀ q : Reg, q ≠ .PD_STATUS n → v.rd q = w.rd q := fun q hq => hv ▸ rd_setSt_other w _ _ hq
    unfold Chip.needsCable
    rw [pd_of_ports hvp, hknown, get_of_rd ((hrd (.PD_LIMIT n) (by simp)).trans ((hwr _).trans (hk.kept.regs _ (by simp)))),
      get_of_rd ((hrd (.PD_CAPS n) (by simp)).trans ((hwr _).trans (hk.kept.regs _ (by simp))))]
  have hvconn : v.vconnSrc n = s.chip.vconnSrc n := by
    unfold Chip.vconnSrc
    rw [← hv, setPd_bit hwc n _ (by decide) (by decide), bit_of_rd hstat]
  obtain ⟨d, hd⟩ : ∃ d, (if w.pdDirect n then w.setPd n pdDIRECT else v.discover n) = d := ⟨_, rfl⟩
  have hdst : d.pdSt n = if s.chip.pdDirect n then pdDIRECT else
      if s.chip.needsCable n && !(s.chip.ports[n]).pd.discovering && (s.chip.ports[n]).pd.swap == .idle && !s.chip.vconnSrc n then
        pdVCONN_SWAP else pdSEND_CAPS := by
    rw [← hd, hdir]
    split
    · exact pdSt_setPd hwc n (by decide)
    · rw [discover_st hvc, hneeds, hvconn, pd_of_ports hvp, hdisc, hswap, ← hv, pdSt_setPd hwc n (by decide)]
  have hdp : d.pond = s.chip.pond := by
    rw [← hd, ← hwp]
    split
    · exact (setSt_kept w _ _ _).kept.pond (by decide)
    · rw [(discover_kept v n).kept.pond (by simp), ← hv]
      exact (setSt_kept w _ _ _).kept.pond (by decide)
  have ha : Fr (keeping [.pond] [.PD_STATUS n]) d (d.answerOpt (s.chip.ports[n]).pd.hrReq rOK) := by
    apply Chip.answerOpt_fr (Fr.refl _ d) <;> simp
  have hexec : exec (.vsafe5vReached n) s = execVsafe5vReached n s := rfl
  refine runs_of_runS_eq hexec (d := d.answerOpt (s.chip.ports[n]).pd.hrReq rOK) ?_ ?_ ?_
  · dsimp only
    rw [hlive, hst, hon, hr, if_neg (by decide), ← hd, ← hv, ← hw]
  · rw [ha.kept.pond (by simp), hdp]
    exact hg
  · rw [pdSt_of_rd (ha.kept.regs _ (by simp))]
    exact hdst

/-- The budget shows as REDUCED alone. -/
theorem pdBudget_kept (c : Chip) (n : Port) : Fr (keeping [.pond, .clk, .ports] [.PD_CAPS n, .PD_LIMIT n]) c (c.pdBudget n) := by
  exact Chip.pdBudget_fr (Fr.refl _ c) (by simp)

theorem pdBudget_st {c : Chip} (h : Canon c) (n : Port) : Canon (c.pdBudget n) ∧ (c.pdBudget n).pdSt n = c.pdSt n :=
  ⟨canon_setSt h _ _ _, pdSt_setSt h n _ (by decide) (by decide)⟩

/-- The capabilities of the source timer have gone out. -/
def capsSent (n : Port) (good : Bool) (c : Chip) : Chip :=
  ((c.pdBudget n).pdCapsSent n).updPd n (fun p => { p with
    sends := (c.ports[n]).pd.sends + 1, capsAck := good, until_ := some (c.clk.now + (if good then senderResponse else ms 150)) })

theorem capsSent_state {c : Chip} (h : Canon c) (n : Port) (good : Bool) : Canon (capsSent n good c) ∧ (capsSent n good c).pdSt n = c.pdSt n ∧
    (capsSent n good c).pond = c.pond ∧ ((capsSent n good c).ports[n]).pd.sent = capsMsg (capsSent n good c) n ∧
    ((capsSent n good c).ports[n]).pd.capsAck = good ∧ ((capsSent n good c).ports[n]).pd.sends = (c.ports[n]).pd.sends + 1 ∧
    ((capsSent n good c).ports[n]).pd.until_ = some (c.clk.now + (if good then senderResponse else ms 150)) := by
  obtain ⟨hbc, hbst⟩ := pdBudget_st h n
  have hb := pdBudget_kept c n
  have hk := pdCapsSent_kept (c.pdBudget n) n
  have hmsg : capsMsg (capsSent n good c) n = capsMsg (c.pdBudget n) n :=
    capsMsg_of (x := capsSent n good c) (hk.kept.regs (.PD_STATUS n) (by simp)) (hk.kept.regs (.PD_CAPS n) (by simp)) (hk.kept.regs (.PD_LIMIT n) (by simp))
  refine ⟨canon_updPd (hk.canon hbc) _ _, (pdSt_of_rd (hk.kept.regs (.PD_STATUS n) (by simp))).trans hbst,
    (hk.kept.pond (by simp)).trans (hb.kept.pond (by simp)), ?_⟩
  rw [hmsg]
  unfold capsSent
  rw [updPd_same, pdCapsSent_pd]
  exact ⟨pdSend_sent _ n _, rfl, rfl, rfl⟩

/-- After the last capabilities without an answer the port has no PD partner. -/
def capsEnded (n : Port) (c : Chip) : Chip := ((c.updPd n (fun p => { p with until_ := none })).setPd n pdNO_PD).evContractEnd n ceNO_PD

theorem runs_sourceCaps {t : Nat} {good : Bool} {d : Chip} {p : Chip → Prop} (hlive : s.chip.pdLive n = true) (hst : s.chip.pdSt n = pdSEND_CAPS)
    (ht : (s.chip.ports[n]).pd.until_ = some t) (hle : t ≤ s.chip.clk.now) (ha : (s.chip.ports[n]).pd.capsAck = false)
    (hd : (if !good && 50 ≤ (s.chip.ports[n]).pd.sends + 1 then capsEnded n (capsSent n good s.chip) else capsSent n good s.chip) = d)
    (hg : d.pond.grants = []) (hp : p d) : Runs (.sourceCapsTimer n good) s p := by
  have hexec : exec (.sourceCapsTimer n good) s = execSourceCapsTimer n good s := rfl
  refine runs_of_runS_eq hexec ?_ hg hp
  dsimp only
  have hnow : ((s.chip.pdBudget n).pdCapsSent n).clk = s.chip.clk :=
    ((pdCapsSent_kept _ n).kept.clk (by simp)).trans ((pdBudget_kept s.chip n).kept.clk (by simp))
  rw [hlive, hst, any_due ht hle, ha, if_neg (by decide), if_neg (by decide), ← hd, hnow]
  rfl

theorem runs_capsTaken {t : Nat} (hc : Canon s.chip) (hg : s.chip.pond.grants = []) (hlive : s.chip.pdLive n = true) (hst : s.chip.pdSt n = pdSEND_CAPS)
    (ht : (s.chip.ports[n]).pd.until_ = some t) (hle : t ≤ s.chip.clk.now) (ha : (s.chip.ports[n]).pd.capsAck = false) :
    Runs (.sourceCapsTimer n true) s (fun c => (c.ports[n]).pd.sent = capsMsg c n ∧ (c.ports[n]).pd.capsAck = true ∧
      (c.ports[n]).pd.until_ = some (s.chip.clk.now + senderResponse) ∧ (c.ports[n]).pd.sends = (s.chip.ports[n]).pd.sends + 1 ∧
      c.pdSt n = pdSEND_CAPS) := by
  obtain ⟨-, hs, hp, h1, h2, h3, h4⟩ := capsSent_state hc n true
  refine runs_sourceCaps hlive hst ht hle ha (d := capsSent n true s.chip) rfl ?_ ⟨h1, h2, h4, h3, hs.trans hst⟩
  rw [hp]
  exact hg

theorem runs_capsLost {t : Nat} (hc : Canon s.chip) (hg : s.chip.pond.grants = []) (hlive : s.chip.pdLive n = true) (hst : s.chip.pdSt n = pdSEND_CAPS)
    (ht : (s.chip.ports[n]).pd.until_ = some t) (hle : t ≤ s.chip.clk.now) (ha : (s.chip.ports[n]).pd.capsAck = false) :
    Runs (.sourceCapsTimer n false) s (fun c => (c.ports[n]).pd.sends = (s.chip.ports[n]).pd.sends + 1 ∧
      c.pdSt n = (if 50 ≤ (s.chip.ports[n]).pd.sends + 1 then pdNO_PD else pdSEND_CAPS)) := by
  obtain ⟨hk, hs, hp, -, -, h3, -⟩ := capsSent_state hc n false
  obtain ⟨w, hw⟩ : ∃ w, capsSent n false s.chip = w := ⟨_, rfl⟩
  rw [hw] at hk hs hp h3
  by_cases h50 : 50 ≤ (s.chip.ports[n]).pd.sends + 1
  · have hpost : Fr (keeping [.pond, .ports] [.PD_STATUS n]) ((w.updPd n (fun p => { p with until_ := none })).setPd n pdNO_PD) (capsEnded n w) :=
      fr_post _ _ (by simp)
    have hset := setSt_kept (w.updPd n (fun p => { p with until_ := none })) (.PD_STATUS n) F.PD_STATUS_STATE pdNO_PD
    refine runs_sourceCaps hlive hst ht hle ha (d := capsEnded n w) ?_ ?_ ⟨?_, ?_⟩
    · rw [hw, if_pos (by simpa using h50)]
    · rw [hpost.kept.pond (by simp)]
      exact (congrArg Pond.grants ((hset.kept.pond (by decide)).trans hp)).trans hg
    · refine (congrArg Pd.sends ((pd_of_ports (hpost.kept.ports (by simp)) n).trans ((pd_of_ports (setPd_ports _ n _) n).trans (updPd_same w n _)))).trans ?_
      exact h3
    · rw [pdSt_of_rd (hpost.kept.regs _ (by simp)), pdSt_setPd (canon_updPd hk _ _) n (by decide), if_pos h50]
  · refine runs_sourceCaps hlive hst ht hle ha (d := w) ?_ ?_ ⟨h3, ?_⟩
    · rw [hw, if_neg (by simpa using h50)]
    · rw [hp]
      exact hg
    · rw [hs, hst, if_neg h50]

theorem runs_capsUnanswered {t : Nat} {b : Bool} (hc : Canon s.chip) (hlive : s.chip.pdLive n = true) (hst : s.chip.pdSt n = pdSEND_CAPS)
    (ht : (s.chip.ports[n]).pd.until_ = some t) (hle : t ≤ s.chip.clk.now) (ha : (s.chip.ports[n]).pd.capsAck = true) :
    Runs (.sourceCapsTimer n b) s (fun c => c.pdSt n = afterHardReset s.chip n) := by
  have hexec : exec (.sourceCapsTimer n b) s = execSourceCapsTimer n b s := rfl
  refine runs_hardReset hc hexec (sent := true) (k := hcNO_REQUEST) ?_
  dsimp only
  rw [hlive, hst, any_due ht hle, ha, if_neg (by decide), if_pos rfl]

/-! ### Requests (R301) -/

theorem runs_requestTaken {o i v : Nat} {b : Bool} (hc : Canon s.chip) (hg : s.chip.pond.grants = []) (hlive : s.chip.pdLive n = true)
    (hst : s.chip.pdSt n = pdSEND_CAPS ∨ s.chip.pdSt n = pdNO_PD ∨ s.chip.pdSt n = pdREADY)
    (hd : (s.chip.ports[n]).pd.discovering = false) (hr : (s.chip.ports[n]).pd.request = none) :
    Runs (.pdRequest n o i v b) s (fun c => c.pdSt n = pdNEGOTIATING ∧ (c.ports[n]).pd.request = some ⟨o, i, v, b, s.chip.pdSt n⟩) := by
  have hexec : exec (.pdRequest n o i v b) s = execPdRequest n o i v b s := rfl
  obtain ⟨w, hw⟩ : ∃ w, s.chip.updPd n (fun p => { p with request := some ⟨o, i, v, b, s.chip.pdSt n⟩ }) = w := ⟨_, rfl⟩
  have hwc : Canon w := hw ▸ canon_updPd hc _ _
  refine runs_of_runS_eq hexec (d := w.setPd n pdNEGOTIATING) ?_ ?_ ⟨pdSt_setPd hwc n (by decide), ?_⟩
  · dsimp only
    rw [hlive, hd, hr, ← hw]
    rcases hst with h | h | h <;> rw [h] <;> rfl
  · rw [Chip.setPd, (setSt_kept w _ _ _).kept.pond (by decide), ← hw]
    exact hg
  · rw [setPd_ports, ← hw, updPd_same]

theorem runs_requestWaits {o i v : Nat} {b : Bool} (hg : s.chip.pond.grants = []) (hlive : s.chip.pdLive n = true)
    (hst : s.chip.pdSt n = pdTRANSITION ∨ s.chip.pdSt n = pdVCONN_SWAP) :
    Runs (.pdRequest n o i v b) s (fun c => c.pdSt n = s.chip.pdSt n ∧ (c.ports[n]).pd.sent = .wait) := by
  have hexec : exec (.pdRequest n o i v b) s = execPdRequest n o i v b s := rfl
  refine runs_of_runS_eq hexec (d := s.chip.pdSend n .wait) ?_ hg ⟨rfl, pdSend_sent _ n _⟩
  dsimp only
  rw [hlive]
  rcases hst with h | h <;> rw [h] <;> rfl

theorem pdDecide_accepts {c : Chip} (hc : Canon c) (hlive : c.pdLive n = true) {r : PdRequest} {k : Contract} (hr : (c.ports[n]).pd.request = some r)
    (hk : c.requested n r.obj r.cur r.mv r.epr = some k) : (c.pdDecide n).pdSt n = pdTRANSITION ∧ ((c.pdDecide n).ports[n]).pd.accepted = some k ∧
      ((c.pdDecide n).ports[n]).pd.sent = .accept ∧ ((c.pdDecide n).ports[n]).pd.request = none := by
  unfold Chip.pdDecide
  rw [hr]
  dsimp only
  rw [hlive, if_neg (by decide), hk]
  dsimp only
  refine ⟨pdSt_setPd (canon_updPd (canon_updPd hc _ _) _ _) n (by decide), ?_⟩
  rw [setPd_ports, updPd_same]
  exact ⟨rfl, pdSend_sent c n _, rfl⟩

theorem pdDecide_rejects {c : Chip} (hc : Canon c) (hlive : c.pdLive n = true) {r : PdRequest} (hr : (c.ports[n]).pd.request = some r)
    (hf : r.found ≤ pdDIRECT) (hk : c.requested n r.obj r.cur r.mv r.epr = none) : (c.pdDecide n).pdSt n = r.found ∧
      ((c.pdDecide n).ports[n]).pd.sent = .reject ∧ ((c.pdDecide n).ports[n]).pd.contract = (c.ports[n]).pd.contract ∧
      ((c.pdDecide n).ports[n]).pd.request = none := by
  unfold Chip.pdDecide
  rw [hr]
  dsimp only
  rw [hlive, if_neg (by decide), hk]
  unfold Chip.pdReturn Chip.pdOwnEnd Chip.pdSend
  dsimp only
  refine ⟨pdSt_setPd (canon_updPd (canon_updPd (canon_updPd hc _ _) _ _) _ _) n (Nat.lt_of_le_of_lt hf (by decide)), ?_⟩
  rw [setPd_ports, updPd_same, updPd_same, updPd_same]
  exact ⟨rfl, rfl, rfl⟩

/-! ### Transitions (R294, R302) -/

theorem runs_acceptDelay {t : Nat} {k : Contract} (hc : Canon s.chip) (hg : s.chip.pond.grants = []) (hlive : s.chip.pdLive n = true)
    (hst : s.chip.pdSt n = pdTRANSITION) (ht : (s.chip.ports[n]).pd.until_ = some t) (hle : t ≤ s.chip.clk.now)
    (hk : (s.chip.ports[n]).pd.accepted = some k) :
    Runs (.acceptDelayExpiry n) s (fun c => c.get (.PD_VOUT n) F.PD_VOUT_TARGET = k.mv10 % 65536 ∧ (c.ports[n]).pd.until_ = none ∧
      c.pdSt n = pdTRANSITION) := by
  have hexec : exec (.acceptDelayExpiry n) s = execAcceptDelayExpiry n s := rfl
  obtain ⟨w, hw⟩ : ∃ w, s.chip.updPd n (fun p => { p with until_ := none }) = w := ⟨_, rfl⟩
  have hwc : Canon w := hw ▸ canon_updPd hc _ _
  refine runs_of_runS_eq hexec (d := w.pdTarget n k.mv10) ?_ ?_ ⟨get_setF_same w hwc _ _ _ (by decide), ?_, ?_⟩
  · dsimp only
    rw [hlive, hst, any_due ht hle, if_neg (by decide), hk, hw]
  · rw [← hw]
    exact hg
  · unfold Chip.pdTarget Chip.pmbSend Chip.pdAim
    dsimp only
    rw [updPd_same, updPd_same]
    show (w.ports[n]).pd.until_ = none
    rw [← hw, updPd_same]
  · refine (pdSt_of_rd (x := w.pdTarget n k.mv10) (c := w) (rd_setF_other w _ _ (by simp))).trans ?_
    rw [← hw]
    exact hst

/-- A contract made is in force, and the measured voltage stays. -/
theorem pdContract_state {c : Chip} (hc : Canon c) (n : Port) (k : Contract) : (c.pdContract n k).pdSt n = pdREADY ∧
    ((c.pdContract n k).ports[n]).pd.contract = some k ∧ (c.pdContract n k).pond = c.pond ∧ (c.pdContract n k).rd (.PD_VOUT n) = c.rd (.PD_VOUT n) := by
  have hf : Fr (keeping [.pond] [.PD_VOUT n]) c (c.pdContract n k) := by apply Chip.pdContract_fr (Fr.refl _ c) <;> simp
  refine ⟨?_, ?_, hf.kept.pond (by simp), hf.kept.regs _ (by simp)⟩
  · unfold Chip.pdContract
    extract_lets d now e u v
    have hu : Canon u := canon_updSt (canon_updPd (canon_updPd hc _ _) _ _) _ _
    exact (pdSt_of_rd ((fr_post (ps := []) (rs := [.PD_STATUS n]) v _ (by simp)).kept.regs _ (by simp))).trans (pdSt_setPd hu n (by decide))
  · unfold Chip.pdContract
    extract_lets d now e u v
    refine congrArg Pd.contract ((pd_of_ports ((fr_post (ps := [.ports]) (rs := []) v _ (by simp)).kept.ports (by simp)) n).trans
      ((pd_of_ports (setPd_ports u n _) n).trans ((pd_of_ports (updSt_ports e _ _) n).trans (updPd_same d n _))))

theorem runs_readVout {v : BitVec 16} {k : Contract} (hc : Canon s.chip) (hg : s.chip.pond.grants = []) (hlive : s.chip.pdLive n = true)
    (hdue : (s.chip.ports[n]).pd.readDue s.chip.clk.now = true) (hr : (s.chip.ports[n]).pd.reached = false)
    (hin : (s.chip.ports[n]).pd.inBand = true) (hst : s.chip.pdSt n = pdTRANSITION) (hu : (s.chip.ports[n]).pd.until_ = none)
    (hk : (s.chip.ports[n]).pd.accepted = some k) (ht : s.chip.get (.PD_VOUT n) F.PD_VOUT_TARGET ≠ 0)
    (hb : inBand (k.kind == pkPPS) (s.chip.get (.PD_VOUT n) F.PD_VOUT_TARGET) v.toNat = true) :
    Runs (.readVoutPoll n v) s (fun c => c.get (.PD_VOUT n) F.PD_VOUT_MEASURED = v.toNat ∧ c.pdSt n = pdREADY ∧
      (c.ports[n]).pd.contract = some k) := by
  obtain ⟨w, hw⟩ : ∃ w, s.chip.setF (.PD_VOUT n) F.PD_VOUT_MEASURED v.toNat = w := ⟨_, rfl⟩
  have hwc : Canon w := hw ▸ canon_setF hc _ _ _
  have hwt : w.get (.PD_VOUT n) F.PD_VOUT_TARGET = s.chip.get (.PD_VOUT n) F.PD_VOUT_TARGET :=
    hw ▸ get_setF_field s.chip hc _ _ _ _ (by decide) (by decide) (by decide)
  have hws : w.pdSt n = pdTRANSITION := hw ▸ (pdSt_of_rd (rd_setF_other s.chip _ _ (by simp))).trans hst
  have hbus : s.chip.pdBus n = true := pdBus_of_st (by rw [hst]; decide)
  have hpps : (((s.chip.ports[n]).pd.accepted.orElse (fun _ => (s.chip.ports[n]).pd.contract)).map (·.kind) == some pkPPS) = (k.kind == pkPPS) := by
    rw [hk]
    rfl
  have hok : (w.get (.PD_VOUT n) F.PD_VOUT_TARGET != 0 && inBand (k.kind == pkPPS) (w.get (.PD_VOUT n) F.PD_VOUT_TARGET) v.toNat) = true := by
    rw [hwt, bne_iff_ne.2 ht, hb]
    rfl
  obtain ⟨f, hf⟩ : ∃ f : Pd → Pd, f = fun p : Pd => { p with
          inBand := true, readAt := some w.clk.now, noAcks := 0, reached := p.reached || false || (true && p.inBand),
          until_ := if false && w.pdSt n == pdHARD_RESET && p.until_.isNone then some (w.clk.now + ms 700) else p.until_ } := ⟨_, rfl⟩
  obtain ⟨h1, h2, h3, h4⟩ := pdContract_state (canon_updPd hwc n f) n k
  have hexec : exec (.readVoutPoll n v) s = execReadVoutPoll n v s := rfl
  refine runs_of_runS_eq hexec (d := (w.updPd n f).pdContract n k) ?_ ?_ ⟨?_, h1, h2⟩
  · dsimp only
    have hdown : ((w.get (.PD_VOUT n) F.PD_VOUT_TARGET == 0) && decide (v.toNat < 80)) = false := by
      rw [beq_eq_false_iff_ne.2 (by rw [hwt]; exact ht), Bool.false_and]
    rw [hbus, pdLive_awake hlive, hdue, if_neg (by decide), hw, hpps, hok, hdown, hr, hin, if_neg (by decide), hu, hk]
    have hcond : (w.updPd n f).pdSt n = pdTRANSITION ∧ (none : Option Nat).isNone = true := ⟨hws, rfl⟩
    subst hf
    exact if_pos hcond
  · rw [h3, ← hw]
    exact hg
  · rw [get_of_rd h4, updPd_get, ← hw]
    exact (get_setF_same s.chip hc _ _ _ (by decide)).trans (Nat.mod_eq_of_lt v.isLt)

/-! ### The converter (R293, R295) -/

theorem runs_pmbusAlert {m : Fin 2} {w : BitVec 16} (hc : Canon s.chip) (hm : s.chip.pdMaster n = m.val) (hw : statusFault w = true)
    (hst : s.chip.pdSt n ≠ pdOFF) :
    Runs (.pmbusAlert m n w) s (fun c => c.bit (.PD_STATUS n) F.PD_STATUS_CONV_FAULT = true ∧
      c.pdSt n = (if 2 ≤ (s.chip.ports[n]).pd.convFaults + 1 then pdERROR_RECOVERY else afterHardReset s.chip n)) := by
  have hexec : exec (.pmbusAlert m n w) s = execPmbusAlert m n w s := rfl
  refine runs_settled hexec ((s.chip.updPd n (fun p => { p with noAcks := 0 })).statusFaulty n w) ?_ fun x hx => ?_
  · rw [if_pos hm, Chip.statusRead, if_pos hw]
  · obtain ⟨h1, -, h3⟩ := statusFaulty_tells (c := s.chip.updPd n (fun p => { p with noAcks := 0 })) (canon_updPd hc _ _) n hst w
    rw [bit_of_rd (rd_of_settle hx rfl), pdSt_of_rd (rd_of_settle hx rfl)]
    refine ⟨h1, h3.trans ?_⟩
    unfold afterHardReset
    rw [updPd_same]
    rfl

theorem runs_statusWordPoll {w : BitVec 16} (hc : Canon s.chip) (hw : statusFault w = true) (hst : s.chip.pdSt n ≠ pdOFF)
    (hat : (s.chip.ports[n]).pd.statusAt.all (fun t => t + ms 100 ≤ s.chip.clk.now) = true) :
    Runs (.statusWordPoll n w) s (fun c => c.bit (.PD_STATUS n) F.PD_STATUS_CONV_FAULT = true) := by
  have hexec : exec (.statusWordPoll n w) s = execStatusWordPoll n w s := rfl
  obtain ⟨v, hv⟩ : ∃ v, (s.chip.updPd n (fun p => { p with statusAt := some s.chip.clk.now })).updPd n (fun p => { p with noAcks := 0 }) = v := ⟨_, rfl⟩
  have hvc : Canon v := hv ▸ canon_updPd (canon_updPd hc _ _) _ _
  have hvst : v.pdSt n ≠ pdOFF := hv ▸ hst
  refine runs_settled hexec (v.statusFaulty n w) ?_ fun x hx => ?_
  · rw [if_pos hat, Chip.statusRead, if_pos hw, hv]
  · rw [bit_of_rd (rd_of_settle hx rfl)]
    exact (statusFaulty_tells hvc n hvst w).1

theorem runs_noAck (hg : s.chip.pond.grants = []) (hst : s.chip.pdSt n ≠ pdOFF) (hk : (s.chip.ports[n]).pd.noAcks < 2) :
    Runs (.converterFault n .noAck) s (fun c => c.rd (.PD_STATUS n) = s.chip.rd (.PD_STATUS n) ∧
      (c.ports[n]).pd.noAcks = (s.chip.ports[n]).pd.noAcks + 1) := by
  have hexec : exec (.converterFault n .noAck) s = execConverterFault n .noAck s := rfl
  refine runs_of_runS_eq hexec (d := s.chip.updPd n (fun p => { p with noAcks := (s.chip.ports[n]).pd.noAcks + 1 })) ?_ hg ⟨rfl, ?_⟩
  · rw [pdBus_of_st hst, if_neg (by decide)]
    exact if_neg (by omega)
  · rw [updPd_same]

/-- A fault of the converter shows in PD_STATUS and in GLB_FAULT. -/
def Shows (n : Port) (c : Chip) : Prop := c.bit (.PD_STATUS n) F.PD_STATUS_CONV_FAULT = true ∧ c.bitAt .GLB_FAULT F.GLB_FAULT_SRC (FaultSrc.pd).bit = true

theorem shows_settled {c x : Chip} (h : Shows n c) (hx : Fr frSettle c x) : Shows n x :=
  ⟨(bit_of_rd (rd_of_settle hx rfl) _).trans h.1, (bitAt_of_rd (rd_of_settle hx rfl) _ _).trans h.2⟩

theorem shows_convFault {c : Chip} (hc : Canon c) (hst : c.pdSt n ≠ pdOFF) (st k : Nat) : Shows n (c.convFault n st k) := by
  obtain ⟨h1, h2, -⟩ := convFault_tells hc n hst st k
  exact ⟨h1, h2⟩

theorem runs_converterFault {f : ConvFault} (hc : Canon s.chip) (hst : s.chip.pdSt n ≠ pdOFF)
    (hf : (f = .noAck ∧ 2 ≤ (s.chip.ports[n]).pd.noAcks) ∨ f = .busTimeout ∨ f = .voutMode ∨ (∃ w, f = .status w ∧ statusFault w = true)) :
    Runs (.converterFault n f) s (fun c => c.bit (.PD_STATUS n) F.PD_STATUS_CONV_FAULT = true ∧
      c.bitAt .GLB_FAULT F.GLB_FAULT_SRC (FaultSrc.pd).bit = true) := by
  have hbus : (!s.chip.pdBus n) = false := by rw [pdBus_of_st hst]; rfl
  have hexec : exec (.converterFault n f) s = execConverterFault n f s := rfl
  have key : ∀ d, Shows n d → _ := fun d hd x (hx : Fr frSettle d x) => shows_settled hd hx
  rcases hf with ⟨rfl, hk⟩ | rfl | rfl | ⟨w, rfl, hw⟩
  · refine runs_settled hexec ((s.chip.updPd n (fun p => { p with noAcks := (s.chip.ports[n]).pd.noAcks + 1 })).convFault n 0 0) ?_ (key _ ?_)
    · rw [hbus, if_neg (by decide)]
      exact if_pos (by omega)
    · exact shows_convFault (canon_updPd hc _ _) hst 0 0
  · refine runs_settled hexec ((s.chip.pmbSend n [.nineClocks]).convFault n 0 2) ?_ (key _ ?_)
    · rw [hbus, if_neg (by decide)]
    · exact shows_convFault (canon_updPd hc _ _) hst 0 2
  · refine runs_settled hexec (s.chip.convFault n 0 3) ?_ (key _ ?_)
    · rw [hbus, if_neg (by decide)]
    · exact shows_convFault hc hst 0 3
  · refine runs_settled hexec (s.chip.statusFaulty n w) ?_ (key _ ?_)
    · rw [hbus, if_neg (by decide)]
      exact if_pos hw
    · obtain ⟨h1, h2, -⟩ := statusFaulty_tells hc n hst w
      exact ⟨h1, h2⟩

end

/-- Settles O19: what each command of the policy engine and its converter leaves, one lemma each. -/
theorem pdContracts : Obligations.PdContracts := by
  unfold Obligations.PdContracts
  intro s hc hg n hlive
  exact ⟨fun hst hon hr => runs_vsafe5v hc hg hlive hst hon hr,
    fun t hst ht hle ha => ⟨runs_capsTaken hc hg hlive hst ht hle ha, runs_capsLost hc hg hlive hst ht hle ha⟩,
    fun t b hst ht hle ha => runs_capsUnanswered hc hlive hst ht hle ha,
    fun o i v x hst hd hr => runs_requestTaken hc hg hlive hst hd hr,
    fun r k hr hk => pdDecide_accepts hc hlive hr hk,
    fun r hr hf hk => pdDecide_rejects hc hlive hr hf hk,
    fun o i v x hst => runs_requestWaits hg hlive hst,
    fun t k hst ht hle hk => runs_acceptDelay hc hg hlive hst ht hle hk,
    fun v k hdue hr hin hst hu hk ht hb => runs_readVout hc hg hlive hdue hr hin hst hu hk ht hb,
    fun m w hm hw hst => runs_pmbusAlert hc hm hw hst,
    fun w hw hst hat => runs_statusWordPoll hc hw hst hat,
    fun hst hk => runs_noAck hg hst hk,
    fun f hst hf => runs_converterFault hc hst hf⟩

end Sys2Proof.Proofs

namespace Sys2Proof.Proofs

open Sys2Proof.Machine Sys2Proof.Laws

/-! Messages, reduced capabilities, EPR, VCONN and hard resets (14 R292, R297 to R306). -/

section

variable {s : State} {c x : Chip} {n : Port}

/-! ### What the steps of a swap leave of the policy engine -/

theorem answerOpt_ports (c : Chip) (q : Option ReqId) (r : Nat) (l : List Nat) (k : Nat) : (c.answerOpt q r l k).ports = c.ports := by
  cases q with
  | none => rfl
  | some q => exact answer_ports c q r l k

theorem swapDrop_pd (c : Chip) (n : Port) (r : Nat) : ((c.swapDrop n r).ports[n]).pd =
    { (c.ports[n]).pd with swap := .idle, swapWanted := false, swapUntil := none, swapReq := none } :=
  (pd_of_ports (answerOpt_ports _ _ r _ _) n).trans (updPd_same c n _)

theorem swapDrop_kept (c : Chip) (n : Port) (r : Nat) : Fr (keeping [.pond, .clk] [.PD_STATUS n]) c (c.swapDrop n r) := by
  apply Chip.swapDrop_fr (Fr.refl _ c) <;> simp

theorem swapIdle_pd (c : Chip) (n : Port) : ((c.swapIdle n).ports[n]).pd = { (c.ports[n]).pd with swap := .idle, swapUntil := none, ngFrom := none } := by
  unfold Chip.swapIdle
  extract_lets d
  have hd : (d.ports[n]).pd = { (c.ports[n]).pd with swap := .idle, swapUntil := none, ngFrom := none } := by
    unfold d Chip.pdOwnEnd
    rw [updPd_same, updPd_same]
  split
  · exact (pd_of_ports (setPd_ports d n _) n).trans hd
  · exact hd

/-- Outside a swap's state the registers stay. -/
theorem swapIdle_rd (h : c.pdSt n ≠ pdVCONN_SWAP) (q : Reg) : (c.swapIdle n).rd q = c.rd q := by
  unfold Chip.swapIdle
  extract_lets d
  have hd : d.pdSt n ≠ pdVCONN_SWAP := h
  rw [if_neg hd]
  rfl

theorem swapIdle_kept (c : Chip) (n : Port) : Fr (keeping [.pond, .clk] []) c (c.swapIdle n) := by
  apply Chip.swapIdle_fr (Fr.refl _ c) <;> simp

theorem pdReturn_pd (c : Chip) (n : Port) (r : PdRequest) : ∃ u, ((c.pdReturn n r).ports[n]).pd =
    { (c.ports[n]).pd with request := none, capsAck := false, until_ := u } :=
  ⟨_, (pd_of_ports (setPd_ports _ n _) n).trans (updPd_same c n _)⟩

theorem pdReturn_kept (c : Chip) (n : Port) (r : PdRequest) : Fr (keeping [.pond, .clk] []) c (c.pdReturn n r) := by
  apply Chip.pdReturn_fr (Fr.refl _ c) <;> simp

/-- An operation of the port's own notes its beginning alone. -/
theorem pdOwn_pd (c : Chip) (n : Port) : ∃ k, ((c.pdOwn n).ports[n]).pd = { (c.ports[n]).pd with ngFrom := k } := by
  unfold Chip.pdOwn
  rw [updPd_same]
  split
  · exact ⟨_, rfl⟩
  · exact ⟨(c.ports[n]).pd.ngFrom, rfl⟩

theorem pdSend_pd (c : Chip) (n : Port) (m : PdOut) : ∃ i j, ((c.pdSend n m).ports[n]).pd = { (c.ports[n]).pd with sent := m, msgId := i, cableMsgId := j } :=
  ⟨_, _, updPd_same c n _⟩

theorem discover_rd (h : c.vconnSrc n = true) (q : Reg) : (c.discover n).rd q = c.rd q := by
  unfold Chip.discover
  extract_lets p
  split
  · have hsrc : c.bit (.PD_STATUS n) F.PD_STATUS_VCONN_SRC = true := h
    rw [if_pos hsrc]
    rfl
  · rfl

/-- Capabilities out: the message as PD_STATUS stands. -/
theorem capsOut_sent (c : Chip) (n : Port) : ((c.capsOut n).ports[n]).pd.sent = capsMsg c n ∧ ((c.capsOut n).ports[n]).pd.capsDue = false := by
  unfold Chip.capsOut
  extract_lets d bad
  rw [updPd_same]
  have hd : (d.ports[n]).pd = { ((c.pdSend n (capsMsg c n)).ports[n]).pd with capsDue := false } := pdCapsSent_pd c n
  rw [hd]
  exact ⟨pdSend_sent c n _, rfl⟩

theorem capsOut_kept (c : Chip) (n : Port) : Fr (keeping [.pond, .clk] [.PD_STATUS n, .PD_CAPS n, .PD_LIMIT n, .PD_VOUT n]) c (c.capsOut n) := by
  unfold Chip.capsOut
  exact Chip.updPd_fr (pdCapsSent_kept c n) (by simp)

theorem pdWords_capsOut (c : Chip) (n : Port) (b : Bool) : (c.capsOut n).pdWords n b = c.pdWords n b :=
  pdWords_of ((capsOut_kept c n).kept.regs _ (by simp)) ((capsOut_kept c n).kept.regs _ (by simp)) ((capsOut_kept c n).kept.regs _ (by simp)) b

/-! ### Messages (R297) -/

theorem message_taken (hlive : c.pdLive n = true) (hst : c.pdSt n = pdREADY) : ¬ (!c.pdLive n ∨ c.pdSt n = pdOFF ∨ c.pdSt n = pdWAIT_VBUS ∨
    c.pdSt n = pdDIRECT ∨ c.pdSt n = pdHARD_RESET ∨ c.pdSt n = pdERROR_RECOVERY) := by
  rw [hlive, hst]
  decide

theorem runs_sent {m : PdMsg} {o : PdOut} (hg : s.chip.pond.grants = []) {f : Chip → Chip}
    (hexec : exec (.pdMessage n m) s = s.runS f) (he : f s.chip = s.chip.pdSend n o) : Runs (.pdMessage n m) s (fun c => (c.ports[n]).pd.sent = o) :=
  runs_of_runS_eq hexec he hg (pdSend_sent _ n o)

theorem runs_getSourceCap (hg : s.chip.pond.grants = []) (hlive : s.chip.pdLive n = true) (hst : s.chip.pdSt n = pdREADY) :
    Runs (.pdMessage n .getSourceCap) s (fun c => (c.ports[n]).pd.sent = capsMsg s.chip n ∧ (c.ports[n]).pd.capsDue = false) := by
  have hexec : exec (.pdMessage n .getSourceCap) s = execPdMessage n .getSourceCap s := rfl
  refine runs_of_runS_eq hexec (if_neg (message_taken hlive hst)) ?_ ?_
  · rw [(pdCapsSent_kept s.chip n).kept.pond (by simp)]
    exact hg
  · rw [pdCapsSent_pd]
    exact ⟨pdSend_sent _ n _, rfl⟩

theorem runs_keepAlive (hg : s.chip.pond.grants = []) (hlive : s.chip.pdLive n = true) (hst : s.chip.pdSt n = pdREADY)
    (he : s.chip.bit (.PD_STATUS n) F.PD_STATUS_EPR_MODE = true) :
    Runs (.pdMessage n .eprKeepAlive) s (fun c => (c.ports[n]).pd.sent = .eprKeepAliveAck ∧ (c.ports[n]).pd.keepAliveBy = some (s.chip.clk.now + ms 900)) := by
  have hexec : exec (.pdMessage n .eprKeepAlive) s = execPdMessage n .eprKeepAlive s := rfl
  refine runs_of_runS_eq hexec (Eq.trans (if_neg (message_taken hlive hst)) (if_pos he)) hg ?_
  rw [updPd_same]
  exact ⟨pdSend_sent _ n _, rfl⟩

/-- A request that waits returns the engine to its state. -/
def requestDropped (n : Port) (c : Chip) : Chip := ((c.ports[n]).pd.request).elim c (c.pdReturn n)

theorem requestDropped_swap (c : Chip) (n : Port) : ((requestDropped n c).ports[n]).pd.swap = (c.ports[n]).pd.swap := by
  unfold requestDropped
  cases (c.ports[n]).pd.request with
  | none => rfl
  | some r =>
    obtain ⟨u, hu⟩ := pdReturn_pd c n r
    have h := congrArg Pd.swap hu
    exact h

theorem requestDropped_pond (c : Chip) (n : Port) : (requestDropped n c).pond = c.pond := by
  unfold requestDropped
  cases (c.ports[n]).pd.request with
  | none => rfl
  | some r => exact (pdReturn_kept c n r).kept.pond (by simp)

theorem runs_softReset (hg : s.chip.pond.grants = []) (hlive : s.chip.pdLive n = true) (hst : s.chip.pdSt n = pdREADY) :
    Runs (.pdMessage n .softReset) s (fun c => (c.ports[n]).pd.sent = .accept ∧ (c.ports[n]).pd.capsDue = true ∧ (c.ports[n]).pd.swap = .idle) := by
  have hexec : exec (.pdMessage n .softReset) s = execPdMessage n .softReset s := rfl
  obtain ⟨w, hw⟩ : ∃ w, (s.chip.swapDrop n rTIMEOUT).swapIdle n = w := ⟨_, rfl⟩
  obtain ⟨d, hd⟩ : ∃ d, ((requestDropped n w).updPd n (fun p => { p with capsDue := true, discovering := false, msgId := 0 })).pdSend n .accept = d := ⟨_, rfl⟩
  have hdpd : (d.ports[n]).pd.sent = .accept ∧ (d.ports[n]).pd.capsDue = true ∧ (d.ports[n]).pd.swap = .idle := by
    obtain ⟨i, j, hij⟩ := pdSend_pd ((requestDropped n w).updPd n (fun p => { p with capsDue := true, discovering := false, msgId := 0 })) n .accept
    rw [← hd, hij, updPd_same]
    refine ⟨rfl, rfl, (requestDropped_swap w n).trans ?_⟩
    rw [← hw, swapIdle_pd]
  have hdpond : d.pond = s.chip.pond := by
    rw [← hd]
    refine (requestDropped_pond w n).trans ?_
    rw [← hw, (swapIdle_kept _ n).kept.pond (by simp), (swapDrop_kept _ n _).kept.pond (by simp)]
  obtain ⟨k, hk⟩ := pdOwn_pd d n
  refine runs_of_runS_eq hexec (d := d.pdOwn n) (Eq.trans (if_neg (message_taken hlive hst)) ?_) ((congrArg Pond.grants hdpond).trans hg) ?_
  · dsimp only
    rw [hw, ← hd]
    unfold requestDropped
    cases (w.ports[n]).pd.request <;> rfl
  · rw [hk]
    exact hdpd

/-! ### EPR mode (R299) -/

theorem epr_taken (hlive : c.pdLive n = true) (hdir : c.pdDirect n = false) (ht : pdTalks (c.pdSt n) = true) :
    ¬ (!c.pdLive n ∨ c.pdDirect n ∨ !pdTalks (c.pdSt n)) := by
  rw [hlive, hdir, ht]
  decide

theorem runs_eprEntered (hc : Canon s.chip) (hg : s.chip.pond.grants = []) (hlive : s.chip.pdLive n = true) (hst : s.chip.pdSt n = pdREADY)
    (hdir : s.chip.pdDirect n = false) (he : s.chip.get (.PD_CAPS n) F.PD_CAPS_EPR ≠ 0) (hcable : s.chip.bit (.PD_STATUS n) F.PD_STATUS_CABLE_EPR = true)
    (hred : s.chip.pdReduced n = false) :
    Runs (.pdEprMode n true) s (fun c => c.bit (.PD_STATUS n) F.PD_STATUS_EPR_MODE = true ∧ (c.ports[n]).pd.sent = .eprSourceCaps (c.pdWords n false)) := by
  have hexec : exec (.pdEprMode n true) s = execPdEprMode n true s := rfl
  have htalk : pdTalks (s.chip.pdSt n) = true := by rw [hst]; rfl
  obtain ⟨u, hu⟩ : ∃ u, s.chip.pdSend n .eprEntered = u := ⟨_, rfl⟩
  have huc : Canon u := hu ▸ canon_updPd hc _ _
  have hured : u.pdReduced n = false := hu ▸ hred
  obtain ⟨w, hw⟩ : ∃ w, (u.setSt (.PD_STATUS n) F.PD_STATUS_EPR_MODE 1).updPd n (fun p => { p with
      keepAliveBy := some ((u.setSt (.PD_STATUS n) F.PD_STATUS_EPR_MODE 1).clk.now + ms 900) }) = w := ⟨_, rfl⟩
  have hwepr : w.bit (.PD_STATUS n) F.PD_STATUS_EPR_MODE = true := hw ▸ bit_setSt_one u huc _ _ (by decide) (by decide)
  have hwred : w.pdReduced n = false := hw ▸ (bit_setSt_field u huc _ _ _ _ (by decide) (by decide) (by decide)).trans hured
  have hk := capsOut_kept w n
  refine runs_of_runS_eq hexec (d := w.capsOut n) ?_ ?_ ⟨?_, ?_⟩
  · refine (if_neg (epr_taken hlive hdir htalk)).trans ((if_pos rfl).trans ((if_pos ⟨hst, he, hcable, by rw [hred]; rfl⟩).trans ?_))
    dsimp only
    rw [hu, hw]
  · rw [hk.kept.pond (by simp), ← hw]
    exact (congrArg Pond.grants ((setSt_kept u _ _ _).kept.pond (by decide))).trans (hu ▸ hg)
  · rw [bit_of_rd (hk.kept.regs _ (by simp))]
    exact hwepr
  · rw [(capsOut_sent w n).1, pdWords_capsOut]
    unfold capsMsg
    rw [hwepr, hwred]
    rfl

theorem runs_eprFailed (hg : s.chip.pond.grants = []) (hlive : s.chip.pdLive n = true) (ht : pdTalks (s.chip.pdSt n) = true)
    (hdir : s.chip.pdDirect n = false) (hno : s.chip.pdSt n ≠ pdREADY ∨ s.chip.bit (.PD_STATUS n) F.PD_STATUS_CABLE_EPR = false) :
    Runs (.pdEprMode n true) s (fun c => (c.ports[n]).pd.sent = .eprFailed (!s.chip.bit (.PD_STATUS n) F.PD_STATUS_CABLE_EPR) ∧
      c.bit (.PD_STATUS n) F.PD_STATUS_EPR_MODE = s.chip.bit (.PD_STATUS n) F.PD_STATUS_EPR_MODE) := by
  have hexec : exec (.pdEprMode n true) s = execPdEprMode n true s := rfl
  refine runs_of_runS_eq hexec (d := s.chip.pdSend n (.eprFailed (!s.chip.bit (.PD_STATUS n) F.PD_STATUS_CABLE_EPR))) ?_ hg ⟨pdSend_sent _ n _, rfl⟩
  refine (if_neg (epr_taken hlive hdir ht)).trans ((if_pos rfl).trans (if_neg ?_))
  rintro ⟨h1, -, h2, -⟩
  rcases hno with h | h
  · exact h h1
  · rw [h] at h2
    exact absurd h2 (by decide)

theorem canon_eprEnd (h : Canon c) (n : Port) : Canon (c.eprEnd n) := by
  unfold Chip.eprEnd
  exact canon_updPd (canon_setSt h _ _ _) _ _

theorem eprEnd_state (h : Canon c) (n : Port) : Canon (c.eprEnd n) ∧ (c.eprEnd n).bit (.PD_STATUS n) F.PD_STATUS_EPR_MODE = false ∧
    (c.eprEnd n).pdSt n = c.pdSt n ∧ (c.eprEnd n).pond = c.pond :=
  ⟨canon_eprEnd h n, bit_setSt_zero c h _ _ (by decide) (by decide), pdSt_setSt h n _ (by decide) (by decide),
    (setSt_kept c _ _ _).kept.pond (by decide)⟩

theorem runs_eprLeft (hc : Canon s.chip) (hg : s.chip.pond.grants = []) (hlive : s.chip.pdLive n = true) (hst : s.chip.pdSt n = pdREADY)
    (hdir : s.chip.pdDirect n = false) (he : s.chip.bit (.PD_STATUS n) F.PD_STATUS_EPR_MODE = true) (hk : s.chip.eprContract n = false) :
    Runs (.pdEprMode n false) s (fun c => c.bit (.PD_STATUS n) F.PD_STATUS_EPR_MODE = false ∧ c.pdSt n = pdREADY) := by
  have hexec : exec (.pdEprMode n false) s = execPdEprMode n false s := rfl
  obtain ⟨-, h1, h2, h3⟩ := eprEnd_state hc n
  have hkept := capsOut_kept (s.chip.eprEnd n) n
  refine runs_of_runS_eq hexec (d := (s.chip.eprEnd n).capsOut n) ?_ ?_ ⟨?_, ?_⟩
  · dsimp only
    rw [hlive, hdir, hst, he, hk]
    rfl
  · rw [hkept.kept.pond (by simp), h3]
    exact hg
  · rw [bit_of_rd (hkept.kept.regs _ (by simp)), h1]
  · rw [pdSt_of_rd (hkept.kept.regs _ (by simp)), h2, hst]

theorem runs_eprContractLeft (hc : Canon s.chip) (hlive : s.chip.pdLive n = true) (hst : s.chip.pdSt n = pdREADY)
    (hdir : s.chip.pdDirect n = false) (he : s.chip.bit (.PD_STATUS n) F.PD_STATUS_EPR_MODE = true) (hk : s.chip.eprContract n = true) :
    Runs (.pdEprMode n false) s (fun c => c.pdSt n = afterHardReset s.chip n) := by
  have hexec : exec (.pdEprMode n false) s = execPdEprMode n false s := rfl
  refine runs_hardReset hc hexec (sent := true) (k := hcEPR_EXIT) ?_
  dsimp only
  rw [hlive, hdir, hst, he, hk]
  rfl

/-! ### The next opportunity (R296, R298) -/

/-- PD_STATUS without its contract. -/
def contractHidden (n : Port) (b : Bool) (c : Chip) : Chip :=
  if b then c.updSt (.PD_STATUS n) (fun w => fset (fset (fset w F.PD_STATUS_CUR 0) F.PD_STATUS_OBJ_POS 0) F.PD_STATUS_KIND 0) else c

theorem contractHidden_keeps (hc : Canon c) (b : Bool) : (contractHidden n b c).pond = c.pond ∧
    (contractHidden n b c).bit (.PD_STATUS n) F.PD_STATUS_EPR_MODE = c.bit (.PD_STATUS n) F.PD_STATUS_EPR_MODE ∧
    (contractHidden n b c).ports = c.ports := by
  cases b with
  | false => exact ⟨rfl, rfl, rfl⟩
  | true =>
    unfold contractHidden
    rw [if_pos rfl]
    refine ⟨(Chip.updSt_fr (f := keeping [.pond] []) (Fr.refl _ c) (by simp)).kept.pond (by simp), ?_, updSt_ports c _ _⟩
    unfold Chip.bit
    rw [get_updSt hc _ _ _ (by decide), fields_apart (by decide) (by decide) (by decide), fields_apart (by decide) (by decide) (by decide),
      fields_apart (by decide) (by decide) (by decide)]
    rfl

/-- Over budget the reduced capabilities are offered, or EPR mode is left first (R300). -/
theorem offerSet_reduces (hc : Canon c) (hover : (c.rails[c.railOf n]).overB = true) : (c.offerSet n).pond = c.pond ∧
    (c.offerSet n).bit (.PD_STATUS n) F.PD_STATUS_EPR_MODE = false ∧
    (c.bit (.PD_STATUS n) F.PD_STATUS_EPR_MODE = false → (c.offerSet n).pdReduced n = true ∧
      ((c.offerSet n).ports[n]).pd.sent = .sourceCaps ((c.offerSet n).pdWords n true)) ∧
    (c.bit (.PD_STATUS n) F.PD_STATUS_EPR_MODE = true → ((c.offerSet n).ports[n]).pd.sent = .eprExit ∧ ((c.offerSet n).ports[n]).pd.capsDue = true) := by
  unfold Chip.offerSet
  rw [hover]
  cases he : c.bit (.PD_STATUS n) F.PD_STATUS_EPR_MODE with
  | false =>
    rw [if_neg (by decide)]
    have hb := pdBudget_kept c n
    have hk := capsOut_kept (c.pdBudget n) n
    have hred : (c.pdBudget n).pdReduced n = true := by
      unfold Chip.pdBudget
      rw [hover]
      exact bit_setSt_one c hc _ _ (by decide) (by decide)
    have hepr : (c.pdBudget n).bit (.PD_STATUS n) F.PD_STATUS_EPR_MODE = false :=
      (bit_setSt_field c hc _ _ _ _ (by decide) (by decide) (by decide)).trans he
    have hout : ((c.pdBudget n).capsOut n).bit (.PD_STATUS n) F.PD_STATUS_EPR_MODE = false ∧ ((c.pdBudget n).capsOut n).pdReduced n = true :=
      ⟨(bit_of_rd (hk.kept.regs _ (by simp)) _).trans hepr, (bit_of_rd (hk.kept.regs _ (by simp)) _).trans hred⟩
    refine ⟨(hk.kept.pond (by simp)).trans (hb.kept.pond (by simp)), hout.1, fun _ => ⟨hout.2, ?_⟩, fun h => by cases h⟩
    rw [(capsOut_sent _ n).1, pdWords_capsOut]
    unfold capsMsg
    rw [hepr, hred]
    rfl
  | true =>
    rw [if_pos (by decide)]
    extract_lets epr d
    obtain ⟨hec, h1, -, h3⟩ := eprEnd_state hc n
    have hd : (d.ports[n]).pd.sent = .eprExit ∧ (d.ports[n]).pd.capsDue = true := by
      unfold d
      rw [updPd_same]
      exact ⟨pdSend_sent _ n _, rfl⟩
    have hdc : Canon d := canon_updPd (canon_updPd hec _ _) _ _
    have hdp : d.pond = c.pond := h3
    have hde : d.bit (.PD_STATUS n) F.PD_STATUS_EPR_MODE = false := h1
    clear_value d epr
    obtain ⟨k1, k2, k3⟩ := contractHidden_keeps hdc epr
    refine ⟨k1.trans hdp, k2.trans hde, (fun h => by cases h), fun _ => ?_⟩
    rw [← pd_of_ports k3 n] at hd
    exact hd

theorem runs_opportunity {t : Nat} {d : Chip} {p : Chip → Prop} (hlive : s.chip.pdLive n = true) (hst : s.chip.pdSt n = pdREADY)
    (hsw : (s.chip.ports[n]).pd.swap = .idle) (hdisc : (s.chip.ports[n]).pd.discovering = false)
    (hw : ((s.chip.ports[n]).pd.swapWanted || s.chip.needsCable n || s.chip.capsWanted n) = true)
    (hng : (s.chip.ports[n]).pd.ngFrom = some t) (ht : t + ms 16 ≤ s.chip.clk.now)
    (hd : (if (s.chip.ports[n]).pd.swapWanted then s.chip.swapSend n else if s.chip.needsCable n then s.chip.discover n else s.chip.offerSet n) = d)
    (hg : d.pond.grants = []) (hp : p d) : Runs (.pdNextOpportunity n) s p := by
  have hexec : exec (.pdNextOpportunity n) s = execPdNextOpportunity n s := rfl
  refine runs_of_runS_eq hexec ?_ hg hp
  dsimp only
  rw [hlive, hst, hsw, hdisc, if_neg (by decide), hw, if_neg (by decide), hng, ← hd]
  exact if_neg (Nat.not_lt.2 ht)

theorem runs_offered {t : Nat} (hc : Canon s.chip) (hg : s.chip.pond.grants = []) (hlive : s.chip.pdLive n = true) (hst : s.chip.pdSt n = pdREADY)
    (hrun : s.chip.pdRunning n = false) (hng : (s.chip.ports[n]).pd.ngFrom = some t) (ht : t + ms 16 ≤ s.chip.clk.now)
    (hcable : s.chip.needsCable n = false) (hover : (s.chip.rails[s.chip.railOf n]).overB = true) (hred : s.chip.pdReduced n = false) :
    Runs (.pdNextOpportunity n) s (fun c => c.bit (.PD_STATUS n) F.PD_STATUS_EPR_MODE = false ∧
      (s.chip.bit (.PD_STATUS n) F.PD_STATUS_EPR_MODE = false → c.pdReduced n = true ∧ (c.ports[n]).pd.sent = .sourceCaps (c.pdWords n true)) ∧
      (s.chip.bit (.PD_STATUS n) F.PD_STATUS_EPR_MODE = true → (c.ports[n]).pd.sent = .eprExit ∧ (c.ports[n]).pd.capsDue = true)) := by
  have hidle : (s.chip.ports[n]).pd.swap = .idle ∧ (s.chip.ports[n]).pd.swapWanted = false ∧ (s.chip.ports[n]).pd.discovering = false := by
    unfold Chip.pdRunning at hrun
    simp only [Bool.or_eq_false_iff, bne_eq_false_iff_eq] at hrun
    obtain ⟨⟨⟨-, h1⟩, h2⟩, h3⟩ := hrun
    exact ⟨h1, h2, h3⟩
  obtain ⟨hsw, hwant, hdisc⟩ := hidle
  have hcaps : s.chip.capsWanted n = true := by
    unfold Chip.capsWanted
    rw [hover, hred]
    rfl
  obtain ⟨hp, h1, h2, h3⟩ := offerSet_reduces hc hover
  refine runs_opportunity hlive hst hsw hdisc (by rw [hcaps, Bool.or_true]) hng ht (d := s.chip.offerSet n) ?_ ((congrArg Pond.grants hp).trans hg) ⟨h1, h2, h3⟩
  rw [hwant, hcable]
  rfl

theorem swapSend_pond (c : Chip) (n : Port) : (c.swapSend n).pond = c.pond :=
  (Chip.swapSend_fr (f := keeping [.pond] []) (Fr.refl _ c) (by simp) (by simp)).kept.pond (by simp)

theorem runs_swapDue {t : Nat} (hc : Canon s.chip) (hg : s.chip.pond.grants = []) (hlive : s.chip.pdLive n = true) (hst : s.chip.pdSt n = pdREADY)
    (hsw : (s.chip.ports[n]).pd.swap = .idle) (hdisc : (s.chip.ports[n]).pd.discovering = false) (hwant : (s.chip.ports[n]).pd.swapWanted = true)
    (hng : (s.chip.ports[n]).pd.ngFrom = some t) (ht : t + ms 16 ≤ s.chip.clk.now) :
    Runs (.pdNextOpportunity n) s (fun c => c.pdSt n = pdVCONN_SWAP ∧ (c.ports[n]).pd.swap = .sent ∧ (c.ports[n]).pd.sent = .vconnSwap ∧
      (c.ports[n]).pd.swapWanted = false) := by
  obtain ⟨h1, h2, h3, h4, -⟩ := swapSend_state hc n
  refine runs_opportunity hlive hst hsw hdisc (by rw [hwant]; rfl) hng ht (d := s.chip.swapSend n) ?_ ((congrArg Pond.grants (swapSend_pond _ n)).trans hg)
    ⟨h1, h2, h3, h4⟩
  rw [if_pos hwant]

/-! ### Timeouts that reset (R300, R301, R305) -/

theorem runs_reducedTimeout {t : Nat} {k : Contract} (hc : Canon s.chip) (hlive : s.chip.pdLive n = true) (hst : s.chip.pdSt n = pdREADY)
    (ha : (s.chip.ports[n]).pd.answerBy = some t) (ht : t ≤ s.chip.clk.now) (hk : (s.chip.ports[n]).pd.contract = some k)
    (ho : k.offered (s.chip.pdOffer n (s.chip.pdReduced n)) = false) :
    Runs (.reducedRequestTimeout n) s (fun c => c.pdSt n = afterHardReset s.chip n) := by
  have hexec : exec (.reducedRequestTimeout n) s = execReducedRequestTimeout n s := rfl
  obtain ⟨w, hw⟩ : ∃ w, s.chip.updPd n (fun p => { p with answerBy := none }) = w := ⟨_, rfl⟩
  have hafter : afterHardReset w n = afterHardReset s.chip n := by
    unfold afterHardReset
    rw [← hw, updPd_same]
    rfl
  have hbad : (s.chip.ports[n]).pd.contract.any (fun k => !k.offered (w.pdOffer n (w.pdReduced n))) = true := by
    have hoff : w.pdOffer n (w.pdReduced n) = s.chip.pdOffer n (s.chip.pdReduced n) := hw ▸ rfl
    rw [hk, Option.any_some, hoff, ho]
    rfl
  refine runs_settled hexec (w.hardReset n true hcREDUCED) ?_ fun x hx => ?_
  · dsimp only
    rw [hlive, hst, any_due ha ht, if_neg (by decide), hw, if_pos hbad]
  · rw [pdSt_of_rd (rd_of_settle hx rfl), ← hafter]
    exact (hardReset_downed (hw ▸ canon_updPd hc _ _) n true hcREDUCED).2

theorem runs_keepAliveTimeout {t : Nat} (hc : Canon s.chip) (hlive : s.chip.pdLive n = true) (he : s.chip.bit (.PD_STATUS n) F.PD_STATUS_EPR_MODE = true)
    (ha : (s.chip.ports[n]).pd.keepAliveBy = some t) (ht : t ≤ s.chip.clk.now) :
    Runs (.eprKeepaliveTimeout n) s (fun c => c.pdSt n = afterHardReset s.chip n) := by
  have hexec : exec (.eprKeepaliveTimeout n) s = execEprKeepaliveTimeout n s := rfl
  exact runs_hardReset hc hexec (sent := true) (k := hcKEEPALIVE) (if_pos ⟨hlive, he, any_due ha ht⟩)

theorem runs_ppsTimeout {t : Nat} (hc : Canon s.chip) (hlive : s.chip.pdLive n = true) (ha : (s.chip.ports[n]).pd.ppsBy = some t)
    (ht : t ≤ s.chip.clk.now) : Runs (.ppsRequestTimeout n) s (fun c => c.pdSt n = afterHardReset s.chip n) := by
  have hexec : exec (.ppsRequestTimeout n) s = execPpsRequestTimeout n s := rfl
  exact runs_hardReset hc hexec (sent := true) (k := hcPPS) (if_pos ⟨hlive, any_due ha ht⟩)

theorem runs_giveTimeout {t : Nat} (hc : Canon s.chip) (hlive : s.chip.pdLive n = true) (hsw : (s.chip.ports[n]).pd.swap = .giving)
    (ha : (s.chip.ports[n]).pd.swapUntil = some t) (ht : t ≤ s.chip.clk.now) :
    Runs (.vconnGiveTimeout n) s (fun c => c.pdSt n = afterHardReset s.chip n) := by
  have hexec : exec (.vconnGiveTimeout n) s = execVconnGiveTimeout n s := rfl
  exact runs_hardReset hc hexec (sent := true) (k := hcVCONN) (if_pos ⟨hlive, hsw, any_due ha ht⟩)

theorem runs_resetReceived (hc : Canon s.chip) (hlive : s.chip.pdLive n = true) (hst : s.chip.pdSt n = pdREADY ∨ s.chip.pdSt n = pdTRANSITION) :
    Runs (.hardResetReceive n) s (fun c => c.pdSt n = afterHardReset s.chip n) := by
  have hexec : exec (.hardResetReceive n) s = execHardResetReceive n s := rfl
  refine runs_hardReset hc hexec (sent := false) (k := hcRECEIVED) ?_
  dsimp only
  rw [hlive]
  rcases hst with h | h <;> rw [h] <;> rfl

/-! ### VCONN (R298, R305) -/

theorem runs_vconnOvercurrent {m : Nat} (hc : Canon s.chip) (hg : s.chip.pond.grants = []) (hlive : s.chip.pdLive n = true)
    (hv : s.chip.vconnSrc n = true) (hm : 45 < m) :
    Runs (.vconnOvercurrent n m) s (fun c => c.vconnSrc n = false ∧ (c.ports[n]).pd.cableKnown = false ∧
      c.bitAt .GLB_FAULT F.GLB_FAULT_SRC (FaultSrc.pd).bit = true) := by
  have hexec : exec (.vconnOvercurrent n m) s = execVconnOvercurrent n m s := rfl
  obtain ⟨w, hw⟩ : ∃ w, s.chip.updSt (.PD_STATUS n) (fun w =>
      fset (fset (fset w F.PD_STATUS_VCONN_SRC 0) F.PD_STATUS_CABLE_5A 0) F.PD_STATUS_CABLE_EPR 0) = w := ⟨_, rfl⟩
  obtain ⟨u, hu⟩ : ∃ u, w.updPd n (fun p => { p with cableKnown := false, discovering := false, capsDue := p.capsDue || w.pdSt n == pdREADY }) = u := ⟨_, rfl⟩
  have hwc : Canon w := hw ▸ canon_updSt hc _ _
  have huc : Canon u := hu ▸ canon_updPd hwc _ _
  have hsrc : u.vconnSrc n = false := by
    have hget : w.get (.PD_STATUS n) F.PD_STATUS_VCONN_SRC = 0 := by
      rw [← hw, get_updSt hc _ _ _ (by decide), fields_apart (by decide) (by decide) (by decide), fields_apart (by decide) (by decide) (by decide),
        fget_fset_same _ _ _ (by decide)]
      rfl
    rw [← hu]
    show (w.get (.PD_STATUS n) F.PD_STATUS_VCONN_SRC != 0) = false
    rw [hget]
    rfl
  have hwp : w.pond = s.chip.pond := hw ▸ (Chip.updSt_fr (f := keeping [.pond] []) (Fr.refl _ _) (by simp)).kept.pond (by simp)
  have hf : Fr (keeping [.ports, .pond] [.PD_STATUS n]) u (u.postFault .pd (u.evPd 0x0317 n [m])) := by
    apply Chip.postFault_fr (Fr.refl _ u) <;> simp
  have hon : (s.chip.isPd n && s.chip.isDrop n) = true := (Bool.and_eq_true_iff.1 hlive).1
  refine runs_of_runS_eq hexec (d := u.postFault .pd (u.evPd 0x0317 n [m])) ?_ ?_ ⟨?_, ?_, bitAt_postFault u huc .pd _⟩
  · rw [hon, hv, if_neg (by simpa using hm)]
    dsimp only
    rw [hw, hu]
  · rw [hf.kept.pond (by simp), ← hu]
    exact (congrArg Pond.grants hwp).trans hg
  · exact (bit_of_rd (hf.kept.regs _ (by simp)) _).trans hsrc
  · rw [hf.kept.ports (by simp), ← hu, updPd_same]

theorem runs_cableFound {a : Bool × Bool} (hc : Canon s.chip) (hg : s.chip.pond.grants = []) (hlive : s.chip.pdLive n = true)
    (hd : (s.chip.ports[n]).pd.discovering = true) (hv : s.chip.vconnSrc n = true) :
    Runs (.cableDiscovery n (some a)) s (fun c => c.bit (.PD_STATUS n) F.PD_STATUS_CABLE_5A = a.1 ∧
      c.bit (.PD_STATUS n) F.PD_STATUS_CABLE_EPR = a.2 ∧ (c.ports[n]).pd.cableKnown = true) := by
  have hexec : exec (.cableDiscovery n (some a)) s = execCableDiscovery n (some a) s := rfl
  obtain ⟨w, hw⟩ : ∃ w, s.chip.updSt (.PD_STATUS n) (fun w =>
      fset (fset w F.PD_STATUS_CABLE_5A (bitOf a.1)) F.PD_STATUS_CABLE_EPR (bitOf a.2)) = w := ⟨_, rfl⟩
  have h5 : w.bit (.PD_STATUS n) F.PD_STATUS_CABLE_5A = a.1 := by
    unfold Chip.bit
    rw [← hw, get_updSt hc _ _ _ (by decide), fields_apart (by decide) (by decide) (by decide), fget_fset_same _ _ _ (by decide)]
    cases a.1 <;> rfl
  have hepr : w.bit (.PD_STATUS n) F.PD_STATUS_CABLE_EPR = a.2 := by
    unfold Chip.bit
    rw [← hw, get_updSt hc _ _ _ (by decide), fget_fset_same _ _ _ (by decide)]
    cases a.2 <;> rfl
  have hwp : w.pond = s.chip.pond := hw ▸ (Chip.updSt_fr (f := keeping [.pond] []) (Fr.refl _ _) (by simp)).kept.pond (by simp)
  obtain ⟨u, hu⟩ : ∃ u, w.updPd n (fun p => { p with cableKnown := true, discovering := false, capsDue := p.capsDue || w.pdSt n == pdREADY, ngFrom := none }) = u :=
    ⟨_, rfl⟩
  obtain ⟨v, hvv⟩ : ∃ v, (if u.pdSt n = pdREADY then u.pdOwn n else u) = v := ⟨_, rfl⟩
  have huk : (u.ports[n]).pd.cableKnown = true := by
    rw [← hu, updPd_same]
  have hvs : v.rd (.PD_STATUS n) = w.rd (.PD_STATUS n) ∧ v.pond = w.pond ∧ (v.ports[n]).pd.cableKnown = true := by
    obtain ⟨k, hk⟩ := pdOwn_pd u n
    rw [← hvv]
    split
    · exact ⟨hu ▸ rfl, hu ▸ rfl, (congrArg Pd.cableKnown hk).trans huk⟩
    · exact ⟨hu ▸ rfl, hu ▸ rfl, huk⟩
  obtain ⟨hvr, hvp, hvk⟩ := hvs
  have hf : Fr (keeping [.ports, .pond] [.PD_STATUS n]) v (v.post (v.evPd 0x0316 n [if a.1 then 100 else 60, bitOf a.2])) := fr_post _ _ (by simp)
  have hrd := (hf.kept.regs (.PD_STATUS n) (by simp)).trans hvr
  refine runs_of_runS_eq hexec (d := v.post (v.evPd 0x0316 n [if a.1 then 100 else 60, bitOf a.2])) ?_ ?_ ⟨?_, ?_, ?_⟩
  · dsimp only
    rw [hlive, hd, hv, if_neg (by decide), if_neg (by simp)]
    subst hvv hu hw
    rfl
  · rw [hf.kept.pond (by simp), hvp, hwp]
    exact hg
  · rw [bit_of_rd hrd, h5]
  · rw [bit_of_rd hrd, hepr]
  · rw [hf.kept.ports (by simp)]
    exact hvk

/-- Before a swap of the partner's is taken, one of the port's own that waits is reported. -/
def swapMet (n : Port) (c : Chip) : Chip :=
  ((if (c.ports[n]).pd.swapWanted then c.swapReport n soSATISFIED else c).updPd n
    (fun p => { p with swapByUs := false, swapTries := 0, swapWanted := false })).pdSend n .accept

theorem swapMet_kept (c : Chip) (n : Port) : Fr (keeping [.pond, .clk] [.PD_STATUS n]) c (swapMet n c) := by
  have h : Fr (keeping [.pond, .clk] [.PD_STATUS n]) c (if (c.ports[n]).pd.swapWanted then c.swapReport n soSATISFIED else c) := by
    split
    · apply Chip.swapReport_fr (Fr.refl _ c) <;> simp
    · exact Fr.refl _ c
  unfold swapMet
  exact Chip.updPd_fr (Chip.updPd_fr h (by simp)) (by simp)

theorem runs_swapReceived {d : Chip} {p : Chip → Prop} (hlive : s.chip.pdLive n = true) (hst : s.chip.pdSt n = pdREADY)
    (hdir : s.chip.pdDirect n = false) (hsw : (s.chip.ports[n]).pd.swap = .idle)
    (hd : (if (swapMet n s.chip).vconnSrc n then (swapMet n s.chip).giveVconn n else ((swapMet n s.chip).takeVconn n).swapOver n) = d)
    (hg : d.pond.grants = []) (hp : p d) : Runs (.vconnSwapReceive n) s p := by
  have hexec : exec (.vconnSwapReceive n) s = execVconnSwapReceive n s := rfl
  refine runs_of_runS_eq hexec ?_ hg hp
  dsimp only
  rw [hlive, hdir, hst, if_neg (by decide), hsw, ← hd]
  exact if_neg (by decide)

theorem runs_vconnGiven (hc : Canon s.chip) (hg : s.chip.pond.grants = []) (hlive : s.chip.pdLive n = true) (hst : s.chip.pdSt n = pdREADY)
    (hdir : s.chip.pdDirect n = false) (hsw : (s.chip.ports[n]).pd.swap = .idle) (hv : s.chip.vconnSrc n = true) :
    Runs (.vconnSwapReceive n) s (fun c => (c.ports[n]).pd.swap = .giving ∧ c.pdSt n = pdVCONN_SWAP ∧ (c.ports[n]).pd.sent = .accept) := by
  have hk := swapMet_kept s.chip n
  obtain ⟨w, hw⟩ : ∃ w, swapMet n s.chip = w := ⟨_, rfl⟩
  have hsent : (w.ports[n]).pd.sent = .accept := hw ▸ pdSend_sent _ n _
  rw [hw] at hk
  have hwv : w.vconnSrc n = true := (bit_of_rd (hk.kept.regs _ (by simp)) _).trans hv
  obtain ⟨u, hu⟩ : ∃ u, w.updPd n (fun p => { p with swap := .giving, discovering := false, swapUntil := some (w.clk.now + ms 150) }) = u := ⟨_, rfl⟩
  have huc : Canon u := hu ▸ canon_updPd (hk.canon hc) _ _
  obtain ⟨k, hpd⟩ := swapRuns_pd u n
  refine runs_swapReceived hlive hst hdir hsw (d := u.swapRuns n) ?_ ?_ ?_
  · rw [hw, if_pos hwv, Chip.giveVconn, hu]
  · rw [(swapRuns_kept u n).kept.pond (by simp), ← hu]
    exact (congrArg Pond.grants (hk.kept.pond (by simp))).trans hg
  · rw [hpd, ← hu, updPd_same, hu]
    exact ⟨rfl, swapRuns_st huc n, hsent⟩

theorem swapOver_rd (h : c.pdSt n ≠ pdVCONN_SWAP) (hv : c.vconnSrc n = true) (q : Reg) : (c.swapOver n).rd q = c.rd q := by
  unfold Chip.swapOver
  extract_lets d
  have hd : ∀ q, d.rd q = c.rd q := swapIdle_rd h
  split
  · split
    · exact hd q
    · exact (discover_rd ((bit_of_rd (hd _) _).trans hv) q).trans (hd q)
  · exact hd q

theorem runs_vconnTaken (hc : Canon s.chip) (hg : s.chip.pond.grants = []) (hlive : s.chip.pdLive n = true) (hst : s.chip.pdSt n = pdREADY)
    (hdir : s.chip.pdDirect n = false) (hsw : (s.chip.ports[n]).pd.swap = .idle) (hv : s.chip.vconnSrc n = false) :
    Runs (.vconnSwapReceive n) s (fun c => c.vconnSrc n = true ∧ c.pdSt n = pdREADY) := by
  have hk := swapMet_kept s.chip n
  obtain ⟨w, hw⟩ : ∃ w, swapMet n s.chip = w := ⟨_, rfl⟩
  rw [hw] at hk
  have hwv : w.vconnSrc n = false := (bit_of_rd (hk.kept.regs _ (by simp)) _).trans hv
  have hwc : Canon w := hk.canon hc
  have hon : (w.takeVconn n).vconnSrc n = true := bit_setSt_one w hwc _ _ (by decide) (by decide)
  have hready : (w.takeVconn n).pdSt n = pdREADY :=
    (pdSt_setSt hwc n _ (by decide) (by decide)).trans ((pdSt_of_rd (hk.kept.regs _ (by simp))).trans hst)
  have hrd := swapOver_rd (c := w.takeVconn n) (n := n) (by rw [hready]; decide) hon
  have hf : Fr (keeping [.pond] []) (w.takeVconn n) ((w.takeVconn n).swapOver n) := by apply Chip.swapOver_fr (Fr.refl _ _) <;> simp
  refine runs_swapReceived hlive hst hdir hsw (d := (w.takeVconn n).swapOver n) ?_ ?_ ⟨(bit_of_rd (hrd _) _).trans hon, (pdSt_of_rd (hrd _)).trans hready⟩
  · rw [hw, hwv, if_neg (by decide)]
  · rw [hf.kept.pond (by simp)]
    exact (congrArg Pond.grants (((setSt_kept w _ _ _).kept.pond (by decide)).trans (hk.kept.pond (by simp)))).trans hg

theorem runs_swapRetried {t : Nat} (hc : Canon s.chip) (hg : s.chip.pond.grants = []) (hlive : s.chip.pdLive n = true)
    (hsw : (s.chip.ports[n]).pd.swap = .retry) (ha : (s.chip.ports[n]).pd.swapUntil = some t) (ht : t ≤ s.chip.clk.now) :
    Runs (.swapRetryWaitExpiry n) s (fun c => (c.ports[n]).pd.swap = .sent ∧ (c.ports[n]).pd.sent = .vconnSwap ∧
      (c.ports[n]).pd.swapTries = (s.chip.ports[n]).pd.swapTries + 1) := by
  obtain ⟨w, hw⟩ : ∃ w, s.chip.updPd n (fun p => { p with swapTries := p.swapTries + 1 }) = w := ⟨_, rfl⟩
  obtain ⟨-, h2, h3, -, h5⟩ := swapSend_state (c := w) (hw ▸ canon_updPd hc _ _) n
  have hexec : exec (.swapRetryWaitExpiry n) s = execSwapRetryWaitExpiry n s := rfl
  refine runs_of_runS_eq hexec (d := w.swapSend n) ?_ ?_ ⟨h2, h3, h5.trans ?_⟩
  · dsimp only
    rw [if_pos ⟨hlive, hsw, any_due ha ht⟩, hw]
  · rw [swapSend_pond, ← hw]
    exact hg
  · rw [← hw, updPd_same]

theorem runs_swapUnanswered {t : Nat} (hg : s.chip.pond.grants = []) (hlive : s.chip.pdLive n = true)
    (hsw : (s.chip.ports[n]).pd.swap = .sent) (ha : (s.chip.ports[n]).pd.swapUntil = some t) (ht : t ≤ s.chip.clk.now) :
    Runs (.swapNoAnswer n) s (fun c => (c.ports[n]).pd.swap = .idle ∧ (c.ports[n]).pd.sent = .softReset) := by
  have hexec : exec (.swapNoAnswer n) s = execSwapNoAnswer n s := rfl
  obtain ⟨w, hw⟩ : ∃ w, (s.chip.updPd n (fun p => { p with msgId := 0 })).pdSend n .softReset = w := ⟨_, rfl⟩
  obtain ⟨v, hv⟩ : ∃ v, (w.swapDrop n rTIMEOUT).swapIdle n = v := ⟨_, rfl⟩
  have hvpd : (v.ports[n]).pd.swap = .idle ∧ (v.ports[n]).pd.sent = .softReset := by
    rw [← hv, swapIdle_pd, swapDrop_pd, ← hw]
    exact ⟨rfl, pdSend_sent _ n _⟩
  have hvp : v.pond = s.chip.pond := by
    rw [← hv, (swapIdle_kept _ n).kept.pond (by simp), (swapDrop_kept _ n _).kept.pond (by simp), ← hw]
    rfl
  refine runs_of_runS_eq hexec (d := v.noDiscovery n) ?_ ?_ ?_
  · dsimp only
    rw [if_pos ⟨hlive, hsw, any_due ha ht⟩, hw, hv]
  · unfold Chip.noDiscovery
    split
    · exact (congrArg Pond.grants hvp).trans hg
    · exact (congrArg Pond.grants hvp).trans hg
  · unfold Chip.noDiscovery
    split
    · exact hvpd
    · rw [updPd_same]
      exact hvpd

/-! ### The way back from a reset (R306) -/

theorem vconnRa_state (hc : Canon c) (n : Port) : (c.vconnRa n).pdSt n = c.pdSt n ∧ (c.vconnRa n).ports = c.ports := by
  unfold Chip.vconnRa
  split
  · exact ⟨pdSt_setSt hc n _ (by decide) (by decide), setSt_ports c _ _ _⟩
  · exact ⟨rfl, rfl⟩

theorem pdConvOn_state (c : Chip) (n : Port) : (c.pdConvOn n).pdSt n = c.pdSt n ∧ ((c.pdConvOn n).ports[n]).pd.until_ = (c.ports[n]).pd.until_ ∧
    ((c.pdConvOn n).ports[n]).pd.rpOff = (c.ports[n]).pd.rpOff := by
  have hrd : (c.pdConvOn n).rd (.PD_STATUS n) = c.rd (.PD_STATUS n) :=
    (Chip.pdConvOn_fr (f := keeping [] [.PD_STATUS n]) (Fr.refl _ c) (by simp) (by simp)).kept.regs _ (by simp)
  have hpd : ∀ c : Chip, ((c.pdTarget n 500).ports[n]).pd.until_ = (c.ports[n]).pd.until_ ∧ ((c.pdTarget n 500).ports[n]).pd.rpOff = (c.ports[n]).pd.rpOff :=
    fun c => by
      unfold Chip.pdTarget Chip.pmbSend Chip.pdAim
      dsimp only
      rw [updPd_same, updPd_same]
      exact ⟨rfl, rfl⟩
  have hsend : ∀ (c : Chip) l, ((c.pmbSend n l).ports[n]).pd.until_ = (c.ports[n]).pd.until_ ∧ ((c.pmbSend n l).ports[n]).pd.rpOff = (c.ports[n]).pd.rpOff :=
    fun c l => by
      unfold Chip.pmbSend
      rw [updPd_same]
      exact ⟨rfl, rfl⟩
  refine ⟨pdSt_of_rd hrd, ?_⟩
  unfold Chip.pdConvOn
  rw [updPd_same]
  exact ⟨(hpd _).1.trans ((hsend _ _).1.trans (hsend _ _).1), (hpd _).2.trans ((hsend _ _).2.trans (hsend _ _).2)⟩

theorem pdRestart_state (hc : Canon c) (n : Port) : (c.pdRestart n).pdSt n = pdWAIT_VBUS ∧ ((c.pdRestart n).ports[n]).pd.until_ = none ∧
    ((c.pdRestart n).ports[n]).pd.rpOff = false := by
  unfold Chip.pdRestart
  extract_lets d e
  have hd : Canon d := canon_updPd hc _ _
  have he : e.pdSt n = pdWAIT_VBUS := pdSt_setPd hd n (by decide)
  have hu : (e.ports[n]).pd.until_ = none ∧ (e.ports[n]).pd.rpOff = false := by
    rw [show e.ports = d.ports from setPd_ports d n _]
    unfold d
    rw [updPd_same]
    exact ⟨rfl, rfl⟩
  have hon : Canon (e.pdConvOn n) :=
    (Chip.pdConvOn_fr (f := keeping [] []) (Fr.refl _ e) (by simp) (by simp)).canon (canon_setPd hd n _)
  obtain ⟨k1, k2, k3⟩ := pdConvOn_state e n
  obtain ⟨j1, j2⟩ := vconnRa_state hon n
  clear_value e
  split
  · have hpd := pd_of_ports j2 n
    exact ⟨j1.trans (k1.trans he), (congrArg Pd.until_ hpd).trans (k2.trans hu.1), (congrArg Pd.rpOff hpd).trans (k3.trans hu.2)⟩
  · exact ⟨he, hu⟩

theorem pdRestart_pond (c : Chip) (n : Port) : (c.pdRestart n).pond = c.pond := by
  have hf : Fr (keeping [.pond] []) c (c.pdRestart n) := by apply Chip.pdRestart_fr (Fr.refl _ c) <;> simp
  exact hf.kept.pond (by simp)

theorem runs_resetRecovered {t : Nat} (hc : Canon s.chip) (hg : s.chip.pond.grants = []) (hst : s.chip.pdSt n = pdHARD_RESET)
    (hu : (s.chip.ports[n]).pd.until_ = some t) (ht : t ≤ s.chip.clk.now) :
    Runs (.hardResetRecovery n) s (fun c => c.pdSt n = pdWAIT_VBUS ∧ (c.ports[n]).pd.until_ = none) := by
  obtain ⟨h1, h2, -⟩ := pdRestart_state hc n
  have hexec : exec (.hardResetRecovery n) s = execHardResetRecovery n s := rfl
  exact runs_of_runS_eq hexec (if_pos ⟨hst, any_due hu ht⟩) ((congrArg Pond.grants (pdRestart_pond _ n)).trans hg) ⟨h1, h2⟩

theorem runs_errorRecovered {t : Nat} (hc : Canon s.chip) (hg : s.chip.pond.grants = []) (hst : s.chip.pdSt n = pdERROR_RECOVERY)
    (hu : (s.chip.ports[n]).pd.until_ = some t) (ht : t ≤ s.chip.clk.now) :
    Runs (.errorRecoveryEnd n) s (fun c => c.pdSt n = pdWAIT_VBUS ∧ (c.ports[n]).pd.rpOff = false) := by
  obtain ⟨h1, -, h3⟩ := pdRestart_state hc n
  have hexec : exec (.errorRecoveryEnd n) s = execErrorRecoveryEnd n s := rfl
  exact runs_of_runS_eq hexec (if_pos ⟨hst, any_due hu ht⟩) ((congrArg Pond.grants (pdRestart_pond _ n)).trans hg) ⟨h1, h3⟩

end

/-- Settles O20: what each message, timeout and reset leaves of the policy engine, one lemma each. -/
theorem pdMessages : Obligations.PdMessages := by
  unfold Obligations.PdMessages
  intro s hc hg n hlive
  have hexec : ∀ m, exec (.pdMessage n m) s = execPdMessage n m s := fun _ => rfl
  refine ⟨fun hst => ⟨runs_getSourceCap hg hlive hst, runs_sent hg (hexec _) (if_neg (message_taken hlive hst)),
      runs_sent hg (hexec _) (if_neg (message_taken hlive hst)), runs_sent hg (hexec _) (if_neg (message_taken hlive hst)),
      runs_sent hg (hexec _) (if_neg (message_taken hlive hst)), runs_keepAlive hg hlive hst,
      runs_sent hg (hexec _) (if_neg (message_taken hlive hst)), runs_softReset hg hlive hst⟩, ?_⟩
  exact ⟨fun hst hdir he hcable hred => runs_eprEntered hc hg hlive hst hdir he hcable hred,
    fun ht hdir hno => runs_eprFailed hg hlive ht hdir hno,
    fun hst hdir he hk => runs_eprLeft hc hg hlive hst hdir he hk,
    fun hst hdir he hk => runs_eprContractLeft hc hlive hst hdir he hk,
    fun t hst hrun hng ht hcable hover hred => runs_offered hc hg hlive hst hrun hng ht hcable hover hred,
    fun t hst hsw hdisc hwant hng ht => runs_swapDue hc hg hlive hst hsw hdisc hwant hng ht,
    fun t k hst ha ht hk ho => runs_reducedTimeout hc hlive hst ha ht hk ho,
    fun t he ha ht => runs_keepAliveTimeout hc hlive he ha ht,
    fun t ha ht => runs_ppsTimeout hc hlive ha ht,
    fun m hv hm => runs_vconnOvercurrent hc hg hlive hv hm,
    fun a hd hv => runs_cableFound hc hg hlive hd hv,
    fun hst hdir hsw hv => runs_vconnGiven hc hg hlive hst hdir hsw hv,
    fun hst hdir hsw hv => runs_vconnTaken hc hg hlive hst hdir hsw hv,
    fun t hsw ha ht => runs_giveTimeout hc hlive hsw ha ht,
    fun t hsw ha ht => runs_swapRetried hc hg hlive hsw ha ht,
    fun t hsw ha ht => runs_swapUnanswered hg hlive hsw ha ht,
    fun hst => runs_resetReceived hc hlive hst,
    fun t hst hu ht => runs_resetRecovered hc hg hst hu ht,
    fun t hst hu ht => runs_errorRecovered hc hg hst hu ht⟩

end Sys2Proof.Proofs

namespace Sys2Proof.Proofs

open Sys2Proof.Machine Sys2Proof.Laws

/-! SUPPORT. The bus of a drop: its state in DROP_STATUS, what the end of a binding leaves of it, and a tree that leaves (08 R166 to R182). -/

section

variable {c x y : Chip} {n : Port}

/-! ### DROP_STATUS -/

theorem drop_of_ports (h : x.ports = c.ports) (n : Port) : (x.ports[n]).drop = (c.ports[n]).drop := by
  rw [h]

theorem isDrop_of_ports (h : x.ports = c.ports) (n : Port) : x.isDrop n = c.isDrop n := by
  rw [Chip.isDrop, Chip.isDrop, h]

theorem canon_updDrop (h : Canon c) (n : Port) (f : Drop → Drop) : Canon (c.updDrop n f) := ⟨h.regs, h.flash, h.blocks⟩

theorem root_of_rd (h : x.rd (.DROP_STATUS n) = c.rd (.DROP_STATUS n)) : x.root n = c.root n := get_of_rd h _

theorem root_setRoot (h : Canon c) (n : Port) {st : Nat} (hs : st < 16) : (c.setRoot n st).root n = st :=
  get_setSt_same c h _ _ _ (by decide) (by decide) hs

theorem setRoot_ports (c : Chip) (n : Port) (st : Nat) : (c.setRoot n st).ports = c.ports := setSt_ports c _ _ _

theorem setRoot_get (h : Canon c) (n : Port) (st : Nat) {g : Field} (hg : g.hi < 24) (ha : 3 < g.lo) :
    (c.setRoot n st).get (.DROP_STATUS n) g = c.get (.DROP_STATUS n) g :=
  get_setSt_field c h _ _ _ _ (by decide) hg (.inl ha)

theorem setRoot_pond (c : Chip) (n : Port) (st : Nat) : (c.setRoot n st).pond = c.pond := setSt_pond c _ _ _

/-! ### What the end of a binding leaves of a drop (R218) -/

/-- The drop but for its control transfers. -/
def CtlsAside (n : Port) (c x : Chip) : Prop := ∃ l, (x.ports[n]).drop = { (c.ports[n]).drop with ctls := l }

theorem CtlsAside.of_ports (h : x.ports = c.ports) : CtlsAside n c x := ⟨_, drop_of_ports h n⟩

theorem CtlsAside.trans (h : CtlsAside n c x) (k : CtlsAside n x y) : CtlsAside n c y := by
  obtain ⟨l, hl⟩ := h
  obtain ⟨m, hm⟩ := k
  exact ⟨m, by rw [hm, hl]⟩

theorem CtlsAside.each {α : Type} {g : Chip → α → Chip} (h : ∀ c a, CtlsAside n c (g c a)) : ∀ (l : List α) (c : Chip), CtlsAside n c (c.each l g)
  | [], _ => .of_ports rfl
  | a :: l, c => (h c a).trans (CtlsAside.each h l _)

theorem CtlsAside.devs (h : CtlsAside n c x) : (x.ports[n]).drop.devs = (c.ports[n]).drop.devs := by
  obtain ⟨l, hl⟩ := h
  rw [hl]

theorem updDrop_other (c : Chip) {n m : Port} (f : Drop → Drop) (h : n ≠ m) : (c.updDrop n f).ports[m] = c.ports[m] := updPort_other c _ h

theorem dropCtls_ctlsAside (c : Chip) (b : Bind) : CtlsAside n c (c.dropCtls b) := by
  unfold Chip.dropCtls
  by_cases h : b.port = n
  · subst h
    exact ⟨_, updDrop_same c b.port _⟩
  · refine ⟨(c.ports[n]).drop.ctls, ?_⟩
    rw [updDrop_other c _ h]

theorem bindDropped_ctlsAside (c : Chip) (b : Bind) : CtlsAside n c (bindDropped c b) := by
  have hf : Fr (keeping [.ports] []) (c.dropCtls b) (bindDropped c b) := by
    refine Chip.updSvc_fr (Chip.freeCtx_fr (Fr.refl _ _) ?_ ?_ ?_ ?_ ?_ ?_ ?_ ?_) ?_ <;> simp
  exact (dropCtls_ctlsAside c b).trans (.of_ports (hf.kept.ports (by simp)))

theorem bindQuiet_ports (c : Chip) (b : Bind) : (bindQuiet c b).ports = c.ports := by
  have hf : Fr (keeping [.ports] []) c (bindQuiet c b) := by
    unfold bindQuiet
    refine Chip.updEps_fr (Chip.culletRecs_fr (Chip.abortJob_fr (Fr.refl _ c) ?_ ?_ ?_ ?_ ?_ ?_ ?_ ?_) ?_) ?_ ?_ <;> simp
  exact hf.kept.ports (by simp)

/-- What is told of a binding's end reaches neither the ports nor the Pond. -/
theorem bindTold_kept (c : Chip) (b : Bind) (p : Prop) [Decidable p] (k : Option Door) (e : Event) (cause : Nat) :
    Fr (keeping [.ports, .pond] []) c (((if p then c.postOwn k e else c).bindReply b cause).syncSvc) := by
  have h : Fr (keeping [.ports, .pond] []) c (if p then c.postOwn k e else c) := by
    split
    · exact Chip.postOwn_fr (Fr.refl _ c) (by simp)
    · exact Fr.refl _ c
  refine Chip.syncSvc_fr (Chip.answerOpt_fr h ?_ ?_ ?_ ?_) ?_ <;> simp

theorem bindOver_kept (c : Chip) (k : Option Door) (e : Event) : Fr (keeping [.ports, .pond] []) c ((c.postOwn k e).syncSvc) := by
  refine Chip.syncSvc_fr (Chip.postOwn_fr (Fr.refl _ c) ?_) ?_ <;> simp

theorem endBind_ctlsAside (c : Chip) (b : Bind) (cause : Nat) : CtlsAside n c (c.endBind b cause) := by
  rw [endBind_eq]
  split
  · exact (bindDropped_ctlsAside c b).trans (.of_ports ((bindTold_kept _ b _ _ _ cause).kept.ports (by simp)))
  · have hf : Fr (keeping [.ports] []) c (((c.updSvc (fun v => { v with binds := v.binds.filter (fun x => !Bind.is b.port b.route b.iface x) })).dropWaiters
        (fun w => w == .binding b.port b.route b.iface)).syncSvc) := by
      refine Chip.syncSvc_fr (Chip.dropWaiters_fr (Chip.updSvc_fr (Fr.refl _ c) ?_) ?_ ?_ ?_ ?_ ?_ ?_ ?_) ?_ <;> simp
    exact .of_ports (hf.kept.ports (by simp))
  · have hq : CtlsAside n c (bindQuiet c b) := .of_ports (bindQuiet_ports c b)
    exact (hq.trans (bindDropped_ctlsAside _ b)).trans (.of_ports ((bindOver_kept _ _ _).kept.ports (by simp)))

theorem endBinds_ctlsAside (c : Chip) (p : Bind → Bool) (cause : Nat) : CtlsAside n c (c.endBinds p cause) :=
  CtlsAside.each (fun c b => endBind_ctlsAside c b cause) _ c

/-! ### Where nothing waits for a context -/

theorem noneWait_of_pond (hw : NoneWait c) (h : x.pond = c.pond) : NoneWait x := (PoolKept.of_pond h).noneWait hw

theorem noneWait_each {α : Type} {g : Chip → α → Chip} (hg : ∀ c a, NoneWait c → NoneWait (g c a)) : ∀ (l : List α) {c : Chip}, NoneWait c → NoneWait (c.each l g)
  | [], _, h => h
  | a :: l, _, h => noneWait_each hg l (hg _ a h)

theorem endBind_keepsNoneWait (hw : NoneWait c) (b : Bind) (cause : Nat) : NoneWait (c.endBind b cause) := by
  rw [endBind_eq]
  split
  · exact noneWait_of_pond (bindDropped_noneWait hw b) ((bindTold_kept _ b _ _ _ cause).kept.pond (by simp))
  · have hs : ∀ d : Chip, d.syncSvc.pond = d.pond := fun d =>
      (Chip.syncSvc_fr (f := keeping [.pond] []) (Fr.refl _ d) (by simp)).kept.pond (by simp)
    exact noneWait_of_pond (dropWaiters_noneWait (by exact hw) _) (hs _)
  · exact noneWait_of_pond (bindDropped_noneWait ((bindQuiet_poolKept c b).noneWait hw) b) ((bindOver_kept _ _ _).kept.pond (by simp))

theorem dropGrants_noneWait (hw : NoneWait c) (p : Waiting → Bool) : NoneWait (c.dropGrants p) := by
  unfold Chip.dropGrants
  extract_lets mine d
  have hmine : mine = [] := by
    unfold mine
    rw [hw.2]
    rfl
  rw [hmine]
  have hnone : c.pond.grants.filter (fun g => !p g.1.who) = [] := by
    rw [hw.2]
    rfl
  exact ⟨hw.1, hnone⟩

theorem treeLeaves_noneWait (hw : NoneWait c) (n : Port) (r : BitVec 20) : NoneWait (c.treeLeaves n r) :=
  dropGrants_noneWait (dropWaiters_noneWait hw _) _

theorem afterFree_noneWait (hw : NoneWait c) (r : PondReq) {now : Chip → Chip} (h : NoneWait (now c)) : NoneWait (c.afterFree r now) := by
  unfold Chip.afterFree
  split
  · exact hw
  · exact h

/-! ### A tree that leaves (R170, R171) -/

theorem setSched_drop (c : Chip) (n : Port) (l : List Sched) : ((c.setSched n l).ports[n]).drop = { (c.ports[n]).drop with sched := l } := by
  unfold Chip.setSched
  extract_lets d e
  exact (drop_of_ports (c := d) rfl n).trans (updDrop_same c n _)

/-- A tree that leaves leaves no waiter behind and takes its devices; what it frees, answers and posts changes no other device. -/
theorem detach_left (hw : NoneWait c) (n : Port) (r : BitVec 20) (cause : Nat) : NoneWait (c.detach n r cause) ∧
    ((c.detach n r cause).ports[n]).drop.devs = (c.ports[n]).drop.devs.filter (fun d => !routeUnder r d.route) := by
  unfold Chip.detach
  extract_lets d gone runs ctls open_ enums recs c1 c2 moved c3 c4 c5 c6 c7 c8 c9 c10
  have h1 : (c1.ports[n]).drop.devs = (c.ports[n]).drop.devs.filter (fun d => !routeUnder r d.route) := by
    unfold c1
    rw [updDrop_same]
  have h2 : Fr (keeping [.pond] []) c c2 := by
    refine Chip.setSched_fr (Chip.updDrop_fr (Fr.refl _ c) ?_) ?_ ?_ <;> simp
  have h2d : (c2.ports[n]).drop.devs = (c1.ports[n]).drop.devs := by
    unfold c2
    rw [setSched_drop]
  have h3 : Fr (keeping [.ports, .pond] []) c2 c3 := Fr.each (Fr.refl _ _) fun d x hd => Chip.post_fr hd (by simp)
  have h4 : Fr (keeping [.ports, .pond] []) c3 c4 := Fr.each (Fr.refl _ _) fun d x hd => by
    apply Chip.answerOpt_fr (Chip.post_fr hd ?_) <;> simp
  have h6 : Fr (keeping [.ports, .pond] []) c4 c6 := by
    refine Chip.culletRecs_fr (Chip.answers_fr (Fr.refl _ c4) ?_ ?_ ?_ ?_) ?_ <;> simp
  have h26 := fr_trans (fr_trans h3 h4) h6
  have h7 : CtlsAside n c6 c7 := endBinds_ctlsAside c6 _ _
  have h9 : Fr (keeping [.ports] []) c7 c9 := by
    refine Chip.syncTree_fr (Chip.bulkFree_fr (Fr.refl _ c7) ?_ ?_ ?_ ?_ ?_ ?_ ?_ ?_) ?_ <;> simp
  have h10 : Fr (keeping [.ports] []) c9 c10 := by
    refine Chip.afterFree_fr (Fr.refl _ c9) (fun d hd => ?_) (by simp)
    apply Chip.treeLeaves_fr hd <;> simp
  have hpost : (c10.treePost n 0x0402 [r.toNat, gone.length, recs]).ports = c10.ports := by
    refine (Chip.treePost_fr (f := keeping [.ports] []) (Fr.refl _ c10) ?_ ?_).kept.ports ?_ <;> simp
  have w6 : NoneWait c6 := noneWait_of_pond (noneWait_of_pond hw (h2.kept.pond (by simp))) (h26.kept.pond (by simp))
  have w7 : NoneWait c7 := noneWait_each (fun d b hd => endBind_keepsNoneWait hd b _) _ w6
  have hsync : ∀ d : Chip, (d.syncTree n).pond = d.pond := fun d =>
    (Chip.syncTree_fr (f := keeping [.pond] []) (Fr.refl _ d) (by simp)).kept.pond (by simp)
  have w9 : NoneWait c9 := noneWait_of_pond (bulkFree_noneWait w7 _) (hsync _)
  have w10 : NoneWait c10 := afterFree_noneWait w9 _ (treeLeaves_noneWait w9 n r)
  refine ⟨afterFree_noneWait w10 _ (noneWait_of_pond w10 ((fr_post (ps := [.pond]) (rs := []) c10 _ (by simp)).kept.pond (by simp))), ?_⟩
  rw [hpost, h10.kept.ports (by simp), h9.kept.ports (by simp), h7.devs, h26.kept.ports (by simp), h2d, h1]

theorem detach_kept (c : Chip) (n : Port) (r : BitVec 20) (cause : Nat) : Fr (keeping [.chans, .clk, .fl, .sei] [.PD_STATUS n, .DROP_CTL n, .DROP_SUSP n]) c (c.detach n r cause) := by
  apply Chip.detach_fr (Fr.refl _ c) <;> simp

theorem routeUnder_root (r : BitVec 20) : routeUnder 0#20 r = true := by
  have hd : routeDepth 0#20 = 0 := by decide
  rw [routeUnder, hd]
  simp [Nat.mod_one]

/-- The whole tree gone, no device is left (R171). -/
theorem detach_none (hw : NoneWait c) (n : Port) (cause : Nat) : ((c.detach n 0#20 cause).ports[n]).drop.devs = [] := by
  rw [(detach_left hw n 0#20 cause).2]
  simp [routeUnder_root]

/-! ### Requests on a drop's port -/

theorem serveDrop_start {q : ReqId} {op : BitVec 16} {e : ReqEntry} (h : ForPort c q op n e) (hd : c.isDrop n = true)
    (body : Port → Chip → Chip) : c.serveDrop q op body = body n (Taken c q) := serveSvc_start h hd body

theorem runs_servedDrop {s : State} {q : ReqId} {e : ReqEntry} {op : BitVec 16} {i : Instr} {body : Port → Chip → Chip} {p : Chip → Prop}
    (h : ForPort s.chip q op n e) (hd : s.chip.isDrop n = true) (hi : exec i s = s.runS (fun c => c.serveDrop q op body)) (d : Chip)
    (hb : body n (Taken s.chip q) = d) (hg : d.pond.grants = []) (hp : p d) : Runs i s p :=
  runs_servedSvc h hd hi d hb hg hp

end

end Sys2Proof.Proofs

namespace Sys2Proof.Proofs

open Sys2Proof.Machine Sys2Proof.Laws

/-! Attach, reset, enumeration and removal on a drop (08 R166 to R175; 13 R278). -/

section

variable {s : State} {c x : Chip} {n : Port}

/-! ### Attach and reset (R166, R167) -/

theorem startReset_state (hc : Canon c) (n : Port) : (c.startReset n).root n = rsRESETTING ∧
    ((c.startReset n).ports[n]).drop.until_ = some (c.clk.now + ms 50) ∧ ((c.startReset n).ports[n]).drop.devs = (c.ports[n]).drop.devs ∧
    (c.startReset n).pond = c.pond := by
  unfold Chip.startReset
  extract_lets hs al d
  have hd : (d.ports[n]).drop.until_ = some (c.clk.now + ms 50) ∧ (d.ports[n]).drop.devs = (c.ports[n]).drop.devs := by
    unfold d
    rw [updDrop_same]
    exact ⟨rfl, rfl⟩
  refine ⟨root_setRoot (canon_updDrop hc _ _) n (by decide), ?_, ?_, setRoot_pond d n _⟩
  · rw [setRoot_ports]
    exact hd.1
  · rw [setRoot_ports]
    exact hd.2

theorem runs_pullupSeen {b : Bool} (hc : Canon s.chip) (hg : s.chip.pond.grants = []) (hdrop : s.chip.isDrop n = true) (hup : s.chip.basinUp n = true)
    (hdet : s.chip.detaching n = false) (hr : s.chip.root n = rsDISCONNECTED) :
    Runs (.dropPullupSeen n b) s (fun c => c.root n = rsDEBOUNCE ∧ (c.ports[n]).drop.pullup = some b ∧
      (c.ports[n]).drop.until_ = some (s.chip.clk.now + ms 100)) := by
  have hexec : exec (.dropPullupSeen n b) s = execDropPullupSeen n b s := rfl
  obtain ⟨w, hw⟩ : ∃ w, s.chip.updDrop n (fun d => { d with pullup := some b, until_ := some (s.chip.clk.now + ms 100) }) = w := ⟨_, rfl⟩
  have hwc : Canon w := hw ▸ canon_updDrop hc _ _
  refine runs_of_runS_eq hexec (d := w.setRoot n rsDEBOUNCE) ?_ ?_ ⟨root_setRoot hwc n (by decide), ?_⟩
  · rw [hdrop, hup, hdet, if_neg (by decide), if_pos hr, hw]
  · rw [setRoot_pond, ← hw]
    exact hg
  · rw [setRoot_ports, ← hw, updDrop_same]
    exact ⟨rfl, rfl⟩

theorem runs_pullupLost (hc : Canon s.chip) (hg : s.chip.pond.grants = []) (hdrop : s.chip.isDrop n = true) (hup : s.chip.basinUp n = true)
    (hr : s.chip.root n = rsDEBOUNCE) :
    Runs (.dropPullupLost n) s (fun c => c.root n = rsDISCONNECTED ∧ (c.ports[n]).drop.pullup = none) := by
  have hexec : exec (.dropPullupLost n) s = execDropPullupLost n s := rfl
  obtain ⟨w, hw⟩ : ∃ w, s.chip.updDrop n (fun d => { d with pullup := none, until_ := none }) = w := ⟨_, rfl⟩
  have hwc : Canon w := hw ▸ canon_updDrop hc _ _
  refine runs_of_runS_eq hexec (d := w.setRoot n rsDISCONNECTED) ?_ ?_ ⟨root_setRoot hwc n (by decide), ?_⟩
  · rw [hdrop, hup, if_neg (by decide), if_pos hr, hw]
  · rw [setRoot_pond, ← hw]
    exact hg
  · rw [setRoot_ports, ← hw, updDrop_same]

theorem runs_debounced (hc : Canon s.chip) (hg : s.chip.pond.grants = []) (hdrop : s.chip.isDrop n = true) (hup : s.chip.basinUp n = true)
    (hr : s.chip.root n = rsDEBOUNCE) (hdue : s.chip.dropDue n = true) :
    Runs (.debounceExpiry n) s (fun c => c.root n = rsRESETTING ∧ (c.ports[n]).drop.until_ = some (s.chip.clk.now + ms 50)) := by
  have hexec : exec (.debounceExpiry n) s = execDebounceExpiry n s := rfl
  obtain ⟨h1, h2, -, h4⟩ := startReset_state hc n
  exact runs_of_runS_eq hexec (if_pos ⟨hdrop, hup, hr, hdue⟩) ((congrArg Pond.grants h4).trans hg) ⟨h1, h2⟩

theorem runs_chirp {k : Nat} (hg : s.chip.pond.grants = []) (hdrop : s.chip.isDrop n = true) (hr : s.chip.root n = rsRESETTING)
    (hp : (s.chip.ports[n]).drop.pullup = some true) (hh : (s.chip.ports[n]).drop.hsOk = true) (hk : k ≤ 7000) :
    Runs (.deviceChirpK n k) s (fun c => (c.ports[n]).drop.chirped = true ∧ c.root n = rsRESETTING) := by
  have hexec : exec (.deviceChirpK n k) s = execDeviceChirpK n k s := rfl
  refine runs_of_runS_eq hexec (d := s.chip.updDrop n (fun d => { d with chirped := true })) ?_ hg ⟨?_, hr⟩
  · dsimp only
    rw [hdrop, if_neg (by decide), if_neg (by rw [hr]; decide), if_pos ⟨hp, hh, hk⟩]
  · rw [updDrop_same]

/-- An enumeration of the root device starts at step 1, and the speed stays. -/
theorem startEnum_root (hc : Canon c) (n : Port) (sel wait attempt : Nat) (q : Option ReqId) :
    (c.startEnum n 0#20 sel wait attempt q).root n = rsENUMERATING ∧
    (c.startEnum n 0#20 sel wait attempt q).rootSpeed n = c.rootSpeed n ∧
    ((c.startEnum n 0#20 sel wait attempt q).ports[n]).drop.enum.map (fun x => (x.route, x.step, x.configSel, x.req)) = some (0#20, 1, sel, q) ∧
    (c.startEnum n 0#20 sel wait attempt q).pond = c.pond := by
  unfold Chip.startEnum
  extract_lets speed e d1 d2
  have hd : Canon d2 := canon_updDrop (canon_updDrop hc _ _) _ _
  rw [if_pos (by rfl)]
  refine ⟨root_setRoot hd n (by decide), setRoot_get hd n _ (by decide) (by decide), ?_, setRoot_pond d2 n _⟩
  rw [setRoot_ports]
  unfold d2
  rw [updDrop_same]
  rfl

theorem startEnum_below {r : BitVec 20} (hr : r ≠ 0#20) (c : Chip) (n : Port) (sel wait attempt : Nat) (q : Option ReqId) :
    ((c.startEnum n r sel wait attempt q).ports[n]).drop.enum.map (fun x => (x.route, x.step, x.configSel, x.req)) = some (r, 1, sel, q) ∧
    (c.startEnum n r sel wait attempt q).pond = c.pond ∧ ∀ q', (c.startEnum n r sel wait attempt q).rd q' = c.rd q' := by
  unfold Chip.startEnum
  extract_lets speed e d1 d2
  rw [if_neg hr]
  refine ⟨?_, rfl, fun _ => rfl⟩
  unfold d2
  rw [updDrop_same]
  rfl

/-- The speed and the state of a root port whose reset is over. -/
def speedShown (n : Port) (speed : Nat) (c : Chip) : Chip :=
  (c.wr (.DROP_STATUS n) (fset (fset (c.rd (.DROP_STATUS n)) F.DROP_STATUS_SPEED speed) F.DROP_STATUS_STATE rsDEFAULT)).bump (.DROP_STATUS n)

theorem speedShown_state (hc : Canon c) (n : Port) {speed : Nat} (hs : speed < 4) : Canon (speedShown n speed c) ∧
    (speedShown n speed c).root n = rsDEFAULT ∧ (speedShown n speed c).rootSpeed n = speed ∧
    (speedShown n speed c).rd (.DROP_CTL n) = c.rd (.DROP_CTL n) := by
  refine ⟨canon_bump (canon_wr hc _ _) _, ?_, ?_, (rd_bump_other (r := .DROP_STATUS n) _ (by simp)).trans (rd_wr_other c _ (by simp))⟩
  · refine (get_wr_bump c hc _ _ _ (by decide)).trans ((fget_fset_same _ _ _ (by decide)).trans ?_)
    rfl
  · refine (get_wr_bump c hc _ _ _ (by decide)).trans ((fget_fset_other _ _ _ _ (by decide) (by decide) (by decide)).trans
      ((fget_fset_same _ _ _ (by decide)).trans ?_))
    exact Nat.mod_eq_of_lt hs

/-- The root port's reset is over: its recovery runs, its speed shows, and the device is noted (R167). -/
def resetOver (n : Port) (speed : Nat) (waits : Bool) (c : Chip) : Chip :=
  (speedShown n speed (c.updDrop n (fun d => { d with until_ := some (c.clk.now + ms 10) }))).putDev n (newDev 0#20 speed waits)

theorem resetOver_state (hc : Canon c) (n : Port) {speed : Nat} (waits : Bool) (hs : speed < 4) : Canon (resetOver n speed waits c) ∧
    (resetOver n speed waits c).root n = rsDEFAULT ∧ (resetOver n speed waits c).rootSpeed n = speed ∧
    ((resetOver n speed waits c).ports[n]).drop.enum = (c.ports[n]).drop.enum ∧ (resetOver n speed waits c).pond = c.pond := by
  obtain ⟨h1, h2, h3, -⟩ := speedShown_state (canon_updDrop hc n (fun d => { d with until_ := some (c.clk.now + ms 10) })) n hs
  refine ⟨?_, h2, h3, ?_, rfl⟩
  · unfold resetOver
    exact canon_updDrop h1 _ _
  unfold resetOver Chip.putDev
  rw [updDrop_same]
  show ((c.updDrop n (fun d => { d with until_ := some (c.clk.now + ms 10) })).ports[n]).drop.enum = _
  rw [updDrop_same]

/-- What follows a root port's reset: the device is enumerated, or told. -/
def resetEnd (n : Port) (speed : Nat) (auto : Bool) (c : Chip) : Chip :=
  if auto then (resetOver n speed (!auto && true) c).startEnum n 0#20 ((resetOver n speed (!auto && true) c).configSel n) (ms 10) 0 none
  else (resetOver n speed (!auto && true) c).evAttach n 0#20 speed rOK

theorem resetEnd_state (hc : Canon c) (n : Port) {speed : Nat} (auto : Bool) (hs : speed < 4) (he : (c.ports[n]).drop.enum = none) :
    (resetEnd n speed auto c).root n = (if auto then rsENUMERATING else rsDEFAULT) ∧ (resetEnd n speed auto c).rootSpeed n = speed ∧
    ((resetEnd n speed auto c).ports[n]).drop.enum.isSome = auto ∧ (resetEnd n speed auto c).pond = c.pond := by
  obtain ⟨h1, h2, h3, h4, h5⟩ := resetOver_state hc n (!auto && true) hs
  unfold resetEnd
  cases auto with
  | true =>
    obtain ⟨k1, k2, k3, k4⟩ := startEnum_root h1 n ((resetOver n speed (!true && true) c).configSel n) (ms 10) 0 none
    refine ⟨k1, k2.trans h3, ?_, k4.trans h5⟩
    rw [if_pos rfl, ← Option.isSome_map, k3]
    rfl
  | false =>
    have hp : Fr (keeping [.ports, .pond] [.DROP_STATUS n]) (resetOver n speed (!false && true) c)
        ((resetOver n speed (!false && true) c).evAttach n 0#20 speed rOK) := fr_post _ _ (by simp)
    rw [if_neg (by decide)]
    refine ⟨(root_of_rd (hp.kept.regs _ (by simp))).trans h2, (get_of_rd (hp.kept.regs _ (by simp)) _).trans h3, ?_, (hp.kept.pond (by simp)).trans h5⟩
    rw [hp.kept.ports (by simp), h4, he]
    rfl

theorem runs_rootReset (hc : Canon s.chip) (hg : s.chip.pond.grants = []) (hdrop : s.chip.isDrop n = true) (hr : s.chip.root n = rsRESETTING)
    (hdue : s.chip.dropDue n = true) (he : (s.chip.ports[n]).drop.enum = none) :
    Runs (.rootResetExpiry n) s (fun c =>
      c.root n = (if s.chip.bit (.DROP_CTL n) F.DROP_CTL_AUTO_ENUM then rsENUMERATING else rsDEFAULT) ∧
      c.rootSpeed n = (if (s.chip.ports[n]).drop.chirped then spHS else if (s.chip.ports[n]).drop.pullup = some true then spFS else spLS) ∧
      (c.ports[n]).drop.enum.isSome = s.chip.bit (.DROP_CTL n) F.DROP_CTL_AUTO_ENUM) := by
  obtain ⟨sp, hsp⟩ : ∃ sp, (if (s.chip.ports[n]).drop.chirped then spHS else if (s.chip.ports[n]).drop.pullup = some true then spFS else spLS) = sp := ⟨_, rfl⟩
  have hlt : sp < 4 := by
    rw [← hsp]
    split
    · decide
    · split <;> decide
  obtain ⟨w, hw⟩ : ∃ w, s.chip.updDrop n (fun d => { d with until_ := some (s.chip.clk.now + ms 10) }) = w := ⟨_, rfl⟩
  have hauto : (speedShown n sp w).bit (.DROP_CTL n) F.DROP_CTL_AUTO_ENUM = s.chip.bit (.DROP_CTL n) F.DROP_CTL_AUTO_ENUM := by
    rw [bit_of_rd (speedShown_state (hw ▸ canon_updDrop hc _ _) n hlt).2.2.2, ← hw]
    rfl
  obtain ⟨h1, h2, h3, h4⟩ := resetEnd_state hc n (s.chip.bit (.DROP_CTL n) F.DROP_CTL_AUTO_ENUM) hlt he
  have hexec : exec (.rootResetExpiry n) s = execRootResetExpiry n s := rfl
  rw [hsp]
  refine runs_of_runS_eq hexec (d := resetEnd n sp (s.chip.bit (.DROP_CTL n) F.DROP_CTL_AUTO_ENUM) s.chip) ?_ ((congrArg Pond.grants h4).trans hg) ⟨h1, h2, h3⟩
  dsimp only
  rw [hdrop, hdue, if_neg (by rw [hr]; decide), hsp, he, ← hauto, ← hw]
  rfl

/-! ### Enumeration (R168, R169) -/

theorem enumLive_enum {e : Enum} (h : c.enumLive n = some e) : (c.ports[n]).drop.enum = some e := by
  unfold Chip.enumLive at h
  split at h
  · exact h
  · cases h

theorem updEnum_enum {e : Enum} (h : (c.ports[n]).drop.enum = some e) (f : Enum → Enum) : ((c.updEnum n f).ports[n]).drop.enum = some (f e) := by
  unfold Chip.updEnum
  rw [updDrop_same]
  show (c.ports[n]).drop.enum.map f = _
  rw [h]
  rfl

/-- A request of an enumeration completes: its answer is taken at the step where it stands. -/
theorem runs_enumAnswered {e f : Enum} {a : EnumResult} (hg : s.chip.pond.grants = []) (h : s.chip.enumLive n = some e) (hw : e.waitUntil = none)
    (hs : e.step ≠ 4) {g : Enum → Enum} (hf : ∀ c : Chip, c.enumStep n { e with waitUntil := none, since := s.chip.clk.now } a = c.updEnum n g)
    (hgf : g { e with waitUntil := none, since := s.chip.clk.now } = f) :
    Runs (.enumRequestComplete n a) s (fun c => (c.ports[n]).drop.enum = some f) := by
  have hexec : exec (.enumRequestComplete n a) s = execEnumRequestComplete n a s := rfl
  obtain ⟨w, hwe⟩ : ∃ w, s.chip.active.updEnum n (fun _ => { e with waitUntil := none, since := s.chip.clk.now }) = w := ⟨_, rfl⟩
  have hact : (s.chip.active.ports[n]).drop.enum = some e := by
    rw [(active_fr s.chip).kept.ports (by decide)]
    exact enumLive_enum h
  have hwen : (w.ports[n]).drop.enum = some { e with waitUntil := none, since := s.chip.clk.now } := hwe ▸ updEnum_enum hact _
  refine runs_of_runS_eq hexec (d := w.enumStep n { e with waitUntil := none, since := s.chip.clk.now } a) ?_ ?_ ?_
  · dsimp only
    rw [h]
    dsimp only
    rw [hw, if_neg (by simpa using hs), hwe]
  · rw [hf w, ← hwe]
    exact (congrArg Pond.grants (active_pond s.chip)).trans hg
  · rw [hf w, ← hgf]
    exact updEnum_enum hwen g

theorem runs_enumWaited {e : Enum} {t : Nat} (hg : s.chip.pond.grants = []) (h : s.chip.enumLive n = some e) (hw : e.waitUntil = some t)
    (ht : t ≤ s.chip.clk.now) (h9 : e.step ≠ 9) :
    Runs (.enumWaitExpiry n) s (fun c => (c.ports[n]).drop.enum = some { e with waitUntil := none, since := s.chip.clk.now }) := by
  have hexec : exec (.enumWaitExpiry n) s = execEnumWaitExpiry n s := rfl
  refine runs_of_runS_eq hexec (d := s.chip.updEnum n (fun _ => { e with waitUntil := none, since := s.chip.clk.now })) ?_ hg
    (updEnum_enum (enumLive_enum h) _)
  dsimp only
  rw [h]
  dsimp only
  rw [any_due hw ht, if_neg (by decide), if_neg h9]

theorem runs_controlTimeout {k : Ctl} {q : ReqId} (hg : s.chip.pond.grants = []) (hdrop : s.chip.isDrop n = true) (he : s.chip.enumLive n = none)
    (hr : s.chip.root n = rsACTIVE) (hk : (s.chip.ports[n]).drop.ctls = [k]) (hq : k.by_ = .door q) (hd : k.deadline ≤ s.chip.clk.now)
    (ha : k.added = []) : Runs (.controlStageTimeout n) s (fun c => (c.ports[n]).drop.ctls = []) := by
  have hexec : exec (.controlStageTimeout n) s = execControlStageTimeout n s := rfl
  have hans := fr_answer (ps := [.ports, .pond]) (rs := []) (s.chip.popCtl n k) q rTIMEOUT [] 0 (by simp)
  refine runs_of_runS_eq hexec (d := (s.chip.popCtl n k).answer q rTIMEOUT) ?_ ?_ ?_
  · dsimp only
    rw [he]
    dsimp only
    rw [hdrop, hr, if_pos (by decide), hk, List.filter_cons_of_pos (by simpa using hd)]
    show s.chip.ctlTimeout n k = _
    unfold Chip.ctlTimeout Chip.ctlLost
    rw [ha, hq]
    rfl
  · rw [hans.kept.pond (by simp)]
    exact hg
  · rw [hans.kept.ports (by simp)]
    unfold Chip.popCtl
    rw [updDrop_same]
    show (s.chip.ports[n]).drop.ctls.filter _ = []
    rw [hk]
    simp [Ctl.same]

/-! ### Removal (R170, R171) -/

theorem dropAnswerAll_pond (c : Chip) (n : Port) (r : Nat) : (c.dropAnswerAll n r).pond = c.pond := by
  have hf : Fr (keeping [.pond] []) c (c.dropAnswerAll n r) := by apply Chip.dropAnswerAll_fr (Fr.refl _ c) <;> simp
  exact hf.kept.pond (by simp)

theorem disconnectRoot_kept (c : Chip) (n : Port) : Fr (keeping [.chans] []) c (c.disconnectRoot n) := by
  apply Chip.disconnectRoot_fr (Fr.refl _ c) <;> simp

theorem disconnectRoot_state (hc : Canon c) (hw : NoneWait c) (n : Port) : (c.disconnectRoot n).root n = rsDISCONNECTED ∧
    ((c.disconnectRoot n).ports[n]).drop.pullup = none ∧ (c.disconnectRoot n).rootSpeed n = spNONE ∧ NoneWait (c.disconnectRoot n) := by
  unfold Chip.disconnectRoot
  extract_lets c1 c2 c3 c4
  have h1 : Canon c1 := (detach_kept c n 0#20 ubDETACH).canon hc
  have h2 : Canon c2 := (Chip.dropAnswerAll_fr (f := keeping [] []) (Fr.refl _ c1) (by simp) (by simp) (by simp) (by simp) (by simp)).canon h1
  have h3 : Canon c3 := canon_setSt h2 _ _ _
  have h4 : Canon c4 := canon_updDrop h3 _ _
  have w2 : NoneWait c2 := noneWait_of_pond (detach_left hw n 0#20 ubDETACH).1 (dropAnswerAll_pond c1 n _)
  refine ⟨root_setRoot h4 n (by decide), ?_, ?_, noneWait_of_pond w2 ((setRoot_pond c4 n _).trans (setSt_pond c2 _ _ _))⟩
  · rw [setRoot_ports]
    unfold c4
    rw [updDrop_same]
  · exact (setRoot_get h4 n _ (by decide) (by decide)).trans (get_setSt_same c2 h2 _ _ _ (by decide) (by decide) (by decide))

theorem runs_disconnected (hc : Canon s.chip) (hg : s.chip.pond.grants = []) (hdrop : s.chip.isDrop n = true) (hup : s.chip.basinUp n = true)
    (hw : s.chip.pond.waiters = []) (hlo : rsDEBOUNCE ≤ s.chip.root n) (hhi : s.chip.root n ≤ rsRECOVERY) :
    Runs (.dropDisconnect n) s (fun c => c.root n = rsDISCONNECTED ∧ (c.ports[n]).drop.pullup = none ∧ c.rootSpeed n = spNONE) := by
  have hexec : exec (.dropDisconnect n) s = execDropDisconnect n s := rfl
  obtain ⟨h1, h2, h3, h4⟩ := disconnectRoot_state hc ⟨hw, hg⟩ n
  refine runs_of_runS_eq hexec (d := s.chip.disconnectRoot n) ?_ h4.2 ⟨h1, h2, h3⟩
  dsimp only
  rw [hdrop, hup, if_neg (by decide)]
  exact if_pos (.inl ⟨hlo, hhi⟩)

/-! ### Type-C (R175, R278) -/

theorem isPd_of_regs (h : x.regs = c.regs) (n : Port) : x.isPd n = c.isPd n := by
  have hrd : x.rd = c.rd := by
    funext q
    rw [Chip.rd, Chip.rd, h]
  have hget : x.get = c.get := by
    funext q f
    rw [Chip.get, Chip.get, hrd]
  unfold Chip.isPd Chip.pdEnabled Chip.pdWired Chip.pdMaster Chip.bit
  rw [hget]

theorem startInrush_kept (c : Chip) (n : Port) : Fr (keeping [.ports, .pond] []) c (c.startInrush n) :=
  Chip.startInrush_fr (Fr.refl _ c) (by simp) (by simp)

theorem regulate_kept (c : Chip) (n : Port) : Fr (keeping [.ports] []) c (c.regulate n) ∧ (c.regulate n).regs = c.regs := by
  unfold Chip.regulate
  dsimp only
  split
  · exact ⟨Chip.updChan_fr (Fr.refl _ c) (by simp), rfl⟩
  · exact ⟨Fr.refl _ c, rfl⟩

/-- A partner whose cable needs VCONN is given it as the inrush starts. -/
theorem startInrush_vconn (hc : Canon c) (hpd : c.isPd n = true) (hdrop : c.isDrop n = true) (hra : (c.ports[n]).drop.ra = true) :
    (c.startInrush n).vconnSrc n = true := by
  unfold Chip.startInrush
  extract_lets uv now c1 c2
  have h2 : c2.ports = c.ports ∧ c2.regs = c.regs ∧ Canon c2 := by
    unfold c2
    split
    · exact ⟨rfl, rfl, hc.regs, hc.flash, hc.blocks⟩
    · exact ⟨rfl, rfl, hc.regs, hc.flash, hc.blocks⟩
  obtain ⟨h2p, h2r, h2c⟩ := h2
  obtain ⟨hf, hr⟩ := regulate_kept c2 n
  have hports := (hf.kept.ports (by simp)).trans h2p
  unfold Chip.pdInrush Chip.vconnRa
  rw [if_pos ⟨(isPd_of_regs (hr.trans h2r) n).trans hpd, (isDrop_of_ports hports n).trans hdrop, by rw [drop_of_ports hports]; exact hra⟩]
  exact bit_setSt_one _ (hf.canon h2c) _ _ (by decide) (by decide)

theorem runs_rdSeen {a : RdSeen} (hc : Canon s.chip) (hg : s.chip.pond.grants = []) (hdrop : s.chip.isDrop n = true) (ht : s.chip.typeC n = true)
    (hp : (s.chip.chans[n]).phase = .armed) (hi : s.chip.inrushOk n = true) (hd : s.chip.dieUp (fuseDie n) = true)
    (hu : s.chip.railUv (fuseDie n) (s.chip.railOf n) = false) :
    Runs (.typecRdSeen n a) s (fun c => (c.chans[n]).phase = .inrush ∧ (c.ports[n]).drop.rd = some a.onCc2 ∧ (c.ports[n]).drop.ra = a.ra ∧
      (s.chip.isPd n = true → a.ra = true → c.vconnSrc n = true ∧ c.vconnBall n = some (!a.onCc2))) := by
  have hexec : exec (.typecRdSeen n a) s = execTypecRdSeen n a s := rfl
  obtain ⟨w, hw⟩ : ∃ w, s.chip.updDrop n (fun d => { d with rd := some a.onCc2, ra := a.ra }) = w := ⟨_, rfl⟩
  have hwc : Canon w := hw ▸ canon_updDrop hc _ _
  have hwd : (w.ports[n]).drop.rd = some a.onCc2 ∧ (w.ports[n]).drop.ra = a.ra := by
    rw [← hw, updDrop_same]
    exact ⟨rfl, rfl⟩
  have hk := startInrush_kept w n
  have hcond : (w.chans[n]).phase = .armed ∧ w.inrushOk n = true ∧ w.dieUp (fuseDie n) = true := hw ▸ ⟨hp, hi, hd⟩
  have hwdrop : w.isDrop n = true := by
    rw [← hw, Chip.isDrop, Chip.updDrop, updPort_same]
    exact hdrop
  have hwuv : w.railUv (fuseDie n) (w.railOf n) = false := hw ▸ hu
  refine runs_of_runS_eq hexec (d := w.startInrush n) ?_ ?_ ⟨?_, ?_, ?_, fun hpd hra => ?_⟩
  · dsimp only
    rw [ht, hp, if_neg (by decide), hw]
    exact if_pos hcond
  · rw [hk.kept.pond (by simp), ← hw]
    exact hg
  · have h := congrArg Chan.phase (startInrush_core w n)
    rw [hwuv] at h
    exact h
  · rw [drop_of_ports (hk.kept.ports (by simp))]
    exact hwd.1
  · rw [drop_of_ports (hk.kept.ports (by simp))]
    exact hwd.2
  · have hsrc := startInrush_vconn hwc (n := n) (hw ▸ hpd) hwdrop (hwd.2.trans hra)
    refine ⟨hsrc, ?_⟩
    have hbit : (w.startInrush n).bit (.PD_STATUS n) F.PD_STATUS_VCONN_SRC = true := hsrc
    unfold Chip.vconnBall
    rw [if_pos hbit, drop_of_ports (hk.kept.ports (by simp)), hwd.1]
    rfl

theorem runs_rdLost (ht : s.chip.typeC n = true) (hrd : (s.chip.ports[n]).drop.rd.isSome = true) (hp : (s.chip.chans[n]).phase = .on) :
    Runs (.typecRdLost n) s (fun c => (c.chans[n]).phase = .armed) := by
  have hexec : exec (.typecRdLost n) s = execTypecRdLost n s := rfl
  obtain ⟨w, hw⟩ : ∃ w, (s.chip.updDrop n (fun d => { d with rd := none, ra := false })).updCh n
      (fun x => { x with phase := .armed, onSince := none, offAt := some (s.chip.updDrop n (fun d => { d with rd := none, ra := false })).clk.now }) = w := ⟨_, rfl⟩
  have hwp : (w.chans[n]).phase = .armed := by
    rw [← hw]
    exact (updCh_phase _ n _).1
  obtain ⟨v, hv⟩ : ∃ v, (if (rsDEBOUNCE ≤ w.root n ∧ w.root n ≤ rsRECOVERY) ∨ w.root n = rsERROR then w.disconnectRoot n else w) = v := ⟨_, rfl⟩
  have hvp : v.chans = w.chans := by
    rw [← hv]
    split
    · exact (disconnectRoot_kept w n).kept.chans (by simp)
    · rfl
  refine runs_settled hexec (v.pdStop n ceDETACH) ?_ fun y hy => ?_
  · have hsome : (s.chip.ports[n]).drop.rd.isNone = false := by
      rw [← Option.not_isSome, hrd]
      rfl
    dsimp only
    rw [ht, hsome, if_neg (by decide), hp, ← hv, ← hw]
    rfl
  · rw [hy.kept.chans (by decide), pdStop_chans, hvp]
    exact hwp

end

/-- Settles O22: what happens on a drop's bus, one lemma each. -/
theorem dropAttach : Obligations.DropAttach := by
  unfold Obligations.DropAttach
  intro s hc hg n hdrop
  refine ⟨fun b hup hdet hr => runs_pullupSeen hc hg hdrop hup hdet hr, fun hup hr => runs_pullupLost hc hg hdrop hup hr,
    fun hup hr hdue => runs_debounced hc hg hdrop hup hr hdue, fun k hr hp hh hk => runs_chirp hg hdrop hr hp hh hk,
    fun hr hdue he => runs_rootReset hc hg hdrop hr hdue he, fun x k g h hw hs => ?_, fun x k h hw hs => ?_,
    fun x t h hw ht h9 => runs_enumWaited hg h hw ht h9, fun k q he hr hk hq hd ha => runs_controlTimeout hg hdrop he hr hk hq hd ha,
    fun hup hw hlo hhi => runs_disconnected hc hg hdrop hup hw hlo hhi, fun a ht hp hi hd hu => runs_rdSeen hc hg hdrop ht hp hi hd hu,
    fun ht hrd hp => runs_rdLost ht hrd hp⟩
  · refine runs_enumAnswered hg h hw (by rw [hs]; decide) (g := fun e => { e with step := 2, mps0 := k, isHub := g == 9#8 }) (fun c => ?_) (by rw [hw])
    unfold Chip.enumStep
    dsimp only
    rw [hs]
    rfl
  · refine runs_enumAnswered hg h hw (by rw [hs]; decide) (g := fun e => { e with step := 3 }) (fun c => ?_) (by rw [hw])
    unfold Chip.enumStep
    dsimp only
    rw [hs]
    rfl

end Sys2Proof.Proofs

namespace Sys2Proof.Proofs

open Sys2Proof.Machine Sys2Proof.Laws

/-! SUPPORT. The microframe a drop last marked: only the boundary of a microframe sets it (09 R186). -/

section

variable {c x y : Chip} {n : Port}

/-- The microframe last marked on a drop is the same. -/
def MarkKept (n : Port) (c x : Chip) : Prop := (x.ports[n]).drop.lastM = (c.ports[n]).drop.lastM

theorem MarkKept.refl (c : Chip) : MarkKept n c c := rfl

theorem MarkKept.trans (h : MarkKept n c x) (k : MarkKept n x y) : MarkKept n c y := Eq.trans k h

theorem MarkKept.of_ports (h : x.ports = c.ports) : MarkKept n c x := congrArg Drop.lastM (drop_of_ports h n)

theorem MarkKept.of_fr (h : Fr (keeping [.ports] []) c x) : MarkKept n c x := .of_ports (h.kept.ports (by simp))

theorem MarkKept.each {α : Type} {g : Chip → α → Chip} (h : ∀ c a, MarkKept n c (g c a)) : ∀ (l : List α) (c : Chip), MarkKept n c (c.each l g)
  | [], _ => .refl _
  | a :: l, c => (h c a).trans (MarkKept.each h l _)

theorem CtlsAside.mark (h : CtlsAside n c x) : MarkKept n c x := by
  obtain ⟨l, hl⟩ := h
  rw [MarkKept, hl]

theorem updDrop_mark (c : Chip) (m : Port) {f : Drop → Drop} (hf : ∀ d, (f d).lastM = d.lastM) : MarkKept n c (c.updDrop m f) := by
  unfold MarkKept
  by_cases h : m = n
  · subst h
    rw [updDrop_same, hf]
  · rw [updDrop_other c f h]

theorem setRoot_mark (c : Chip) (m : Port) (st : Nat) : MarkKept n c (c.setRoot m st) := .of_ports (setRoot_ports c m st)

theorem freeCtx_mark (c : Chip) (i : Nat) : MarkKept n c (c.freeCtx i) := .of_fr (by apply Chip.freeCtx_fr (Fr.refl _ c) <;> simp)

theorem eachFree_mark (c : Chip) (l : List Nat) : MarkKept n c (c.each l Chip.freeCtx) := MarkKept.each freeCtx_mark l c

theorem pendBind_mark (c : Chip) (b : Bind) (p : PendCause) : MarkKept n c (c.pendBind b p) :=
  .of_fr (by apply Chip.pendBind_fr (Fr.refl _ c) <;> simp)

/-! ### Bindings (R205 to R209) -/

theorem bindNext_mark (c : Chip) (b : Bind) (d : Dev) : MarkKept n c (c.bindNext b d) := by
  unfold Chip.bindNext Chip.svcCtl
  split
  · exact .of_fr (by apply Chip.bindDone_fr (Fr.refl _ c) <;> simp)
  · exact (MarkKept.of_ports (by rfl)).trans (updDrop_mark _ _ (by intro; rfl))

theorem bindIn_mark (c : Chip) (b : Bind) (d : Dev) (i : Nat) (s : Strm) (o : Option Strm) : MarkKept n c (c.bindIn b d i s o) := by
  unfold Chip.bindIn
  extract_lets body u gen b'
  have h1 : MarkKept n c (u.updBind b' (fun _ => b')) := .of_ports (by rfl)
  exact (h1.trans (bindNext_mark _ _ _)).trans (.of_fr (by apply Chip.syncSvc_fr (Fr.refl _ _); simp))

theorem bindGranted_mark (c : Chip) (m : Port) (r : BitVec 20) (i cid : Nat) : MarkKept n c (c.bindGranted m r i cid) := by
  unfold Chip.bindGranted
  split
  · split
    · exact (freeCtx_mark _ _).trans (pendBind_mark _ _ _)
    · split
      · exact bindIn_mark _ _ _ _ _ _
      · exact (freeCtx_mark _ _).trans (pendBind_mark _ _ _)
  · exact freeCtx_mark _ _

theorem setupEnd_mark (c : Chip) (m : Port) (d : Dev) (i : Nat) (inp : Option (List Byte)) : MarkKept n c (c.setupEnd m d i inp) := by
  unfold Chip.setupEnd
  split
  · exact .refl _
  · exact (endBind_ctlsAside _ _ _).mark
  · next b l _ =>
    refine MarkKept.trans (x := if b.kind = kPRINTER then c.printerRec b 5 (l.drop 2) else c) ?_ (bindNext_mark _ _ _)
    split
    · exact .of_fr (by apply Chip.printerRec_fr (Fr.refl _ c) <;> simp)
    · exact .refl _

/-! ### Enumeration (R167 to R171) -/

theorem updDev_mark (c : Chip) (m : Port) (r : BitVec 20) (f : Dev → Dev) : MarkKept n c (c.updDev m r f) := by
  unfold Chip.updDev
  exact updDrop_mark _ _ (by intro; rfl)

theorem updEnum_mark (c : Chip) (m : Port) (f : Enum → Enum) : MarkKept n c (c.updEnum m f) := by
  unfold Chip.updEnum
  exact updDrop_mark _ _ (by intro; rfl)

theorem startEnum_mark (c : Chip) (m : Port) (r : BitVec 20) (sel wait k : Nat) (q : Option ReqId) :
    MarkKept n c (c.startEnum m r sel wait k q) := by
  unfold Chip.startEnum
  extract_lets speed e u v
  have h : MarkKept n c v := (updDev_mark _ _ _ _).trans (updDrop_mark _ _ (by intro; rfl))
  split
  · exact h.trans (setRoot_mark _ _ _)
  · exact h

theorem nextEnum_mark (c : Chip) (m : Port) : MarkKept n c (c.nextEnum m) := by
  unfold Chip.nextEnum
  dsimp only
  split
  · split
    · exact (updDrop_mark _ _ (by intro; rfl)).trans (startEnum_mark _ _ _ _ _ _ _)
    · exact .refl _
  · exact .refl _

theorem enumGranted_mark (c : Chip) (m : Port) (e : Enum) (cids : List Nat) : MarkKept n c (c.enumGranted m e cids) := by
  unfold Chip.enumGranted
  split
  · exact .refl _
  · next dev rest =>
    extract_lets u1 u2 eps u3 u4 gen u5 u6
    have h1 : MarkKept n c u1 := .of_fr (by apply Chip.dropWaiters_fr (Fr.refl _ c) <;> simp)
    have h2 : MarkKept n u1 u2 := .of_ports (by rfl)
    have h3 : MarkKept n u2 u3 := MarkKept.each (fun _ _ => .of_ports (by rfl)) _ _
    have h4 : MarkKept n u3 u4 :=
      MarkKept.each (fun d _ => .of_fr (by apply Chip.touchBy_fr (Fr.refl _ d); simp)) _ _
    have h6 : MarkKept n u4 u6 := (updEnum_mark _ _ _).trans (updDev_mark _ _ _ _)
    have h : MarkKept n c u6 := h1.trans (h2.trans (h3.trans (h4.trans h6)))
    split
    · exact h.trans (setRoot_mark _ _ _)
    · exact h

theorem enumRefused_mark (c : Chip) (m : Port) (e : Enum) (size v : Nat) : MarkKept n c (c.enumRefused m e size v) := by
  unfold Chip.enumRefused
  extract_lets u1 u2
  have h : MarkKept n c u2 := .of_fr (by
    refine Chip.answerOpt_fr (Chip.evAttach_fr (Chip.waitJoin_fr (Fr.refl _ c) ?_ ?_ ?_ ?_) ?_) ?_ ?_ ?_ ?_ <;> simp)
  split
  · exact h.trans ((updEnum_mark _ _ _).trans (setRoot_mark _ _ _))
  · exact h.trans ((updDrop_mark _ _ (by intro; rfl)).trans ((updDev_mark _ _ _ _).trans (nextEnum_mark _ _)))

theorem enumGroup_mark (c : Chip) (m : Port) (e : Enum) : MarkKept n c (c.enumGroup m e) := by
  unfold Chip.enumGroup
  extract_lets need mine held u g
  have h : MarkKept n c u := .of_ports (by rfl)
  split
  · exact h.trans ((eachFree_mark _ _).trans (enumGranted_mark _ _ _ _))
  · split
    · exact h.trans ((MarkKept.of_ports (by rfl)).trans (updEnum_mark _ _ _))
    · have halloc : MarkKept n u (u.alloc (hPort m) g (need - held.length)).2 := .of_fr (by apply Chip.alloc_fr2 (Fr.refl _ u) <;> simp)
      split
      · next cids w heq =>
        rw [heq] at halloc
        exact h.trans (halloc.trans (enumGranted_mark _ _ _ _))
      · next v w heq =>
        rw [heq] at halloc
        exact h.trans (halloc.trans ((MarkKept.of_ports (by rfl)).trans (enumRefused_mark _ _ _ _ _)))

theorem settle_mark (c : Chip) : MarkKept n c c.settle := by
  unfold Chip.settle
  split
  · exact .refl _
  · refine MarkKept.each (fun c _ => ?_) _ c
    unfold Chip.settleOnce
    refine MarkKept.each (fun c g => ?_) _ c
    split
    · exact (MarkKept.of_ports (by rfl)).trans (bindGranted_mark _ _ _ _ _)
    · split
      · split
        · exact enumGroup_mark _ _ _
        · exact .refl _
      · split
        · exact (updDev_mark _ _ _ _).trans ((updDrop_mark _ _ (by intro; rfl)).trans (nextEnum_mark _ _))
        · exact .refl _

/-! ### Transfers (R190, R191, R201) -/

theorem ctlTimeout_mark (c : Chip) (m : Port) (k : Ctl) : MarkKept n c (c.ctlTimeout m k) := by
  have hlost : ∀ d : Chip, MarkKept n d (d.ctlLost m k) := fun d => by
    unfold Chip.ctlLost Chip.ttCleared Chip.putTt
    split
    · exact .of_fr (by apply Chip.answer_fr (Fr.refl _ d) <;> simp)
    · split
      · exact .refl _
      · exact setupEnd_mark _ _ _ _ _
    · exact .refl _
    · exact updDrop_mark _ _ (by intro; rfl)
  unfold Chip.ctlTimeout Chip.popCtl
  exact ((updDrop_mark _ _ (by intro; rfl)).trans (eachFree_mark _ _)).trans (hlost _)

theorem cullDev_mark (c : Chip) (k r : Nat) (v w : BitVec 16) (l : List Byte) : MarkKept n c (c.cullDev k r v w l) :=
  .of_fr (by apply Chip.cullDev_fr (Fr.refl _ c) <;> simp)

theorem engWrite_mark (c : Chip) (m : Port) (i : Nat) (b : Body) : MarkKept n c (c.engWrite m i b) :=
  .of_fr (by apply Chip.engWrite_fr (Fr.refl _ c) <;> simp)

theorem putRun_mark (c : Chip) (m : Port) (r : EpRun) : MarkKept n c (c.putRun m r) := by
  unfold Chip.putRun
  exact updDrop_mark _ _ (by intro; rfl)

theorem xferEnds_mark (c : Chip) (m : Port) (d : Dev) (b : EpBody) (bad : Bool) : MarkKept n c (c.xferEnds m d b bad) := by
  unfold Chip.xferEnds
  exact putRun_mark _ _ _

theorem splitFailed_mark (c : Chip) (m : Port) (d : Dev) (b : EpBody) (err : Nat) : MarkKept n c (c.splitFailed m d b err) := by
  unfold Chip.splitFailed
  split
  · exact .refl _
  · extract_lets u1 t async fresh u2 u3
    have h1 : MarkKept n c u1 := .of_fr (by apply Chip.incSat_fr (Fr.refl _ c); simp)
    have h2 : MarkKept n u1 u2 := updDrop_mark _ _ (by intro; rfl)
    have h3 : MarkKept n u2 u3 := by
      unfold u3
      split
      · exact updDrop_mark _ _ (by intro; rfl)
      · exact .refl _
    have h : MarkKept n c u3 := h1.trans (h2.trans h3)
    split
    · exact h.trans (.of_fr (by refine Chip.post_fr (Chip.bump_fr (Fr.refl _ u3) ?_) ?_ <;> simp))
    · exact h

theorem epFailed_mark (c : Chip) (m : Port) (d : Dev) (b : EpBody) (err : Nat) : MarkKept n c (c.epFailed m d b err) := by
  unfold Chip.epFailed
  extract_lets u1 u2 r
  have h1 : MarkKept n c u1 := .of_fr (by apply Chip.incSat_fr (Fr.refl _ c); simp)
  have h : MarkKept n c u2 := h1.trans (splitFailed_mark _ _ _ _ _)
  split
  · exact h.trans (xferEnds_mark _ _ _ _ _)
  · split
    · exact h.trans (putRun_mark _ _ _)
    · exact h.trans ((putRun_mark _ _ _).trans (.of_fr (by apply Chip.evAborted_fr (Fr.refl _ _); simp)))

end

end Sys2Proof.Proofs

namespace Sys2Proof.Proofs

open Sys2Proof.Machine Sys2Proof.Laws

/-! Suspend and resume of a drop, microframes, transactions and hubs (08 R174 to R182; 09 R186 to R203). -/

section

variable {s : State} {c x : Chip} {n : Port}

/-! ### The channel of a suspended drop (R177) -/

/-- A die whose link is free takes SUSPEND and ON at once. -/
theorem suspendCh_eq (sus : Bool) (hd : DieFree c (fuseDie n)) (hp : (c.chans[n]).phase = if sus then .on else .suspend) :
    c.suspendCh n sus = ((c.keepStale (.CH_CMD n)).setProfile n (if sus then .suspend else .on)).wr (.CH_CMD n) (if sus then 2#32 else 1#32) := by
  obtain ⟨hhears, hwrites⟩ := hd
  have hfree : (c.dieHears (fuseDie n) && !c.chPending n) = true := by
    unfold Chip.chPending
    rw [hhears, hwrites]
    rfl
  have hlive : ¬ ((c.chans[n]).phase ≠ .on ∧ (c.chans[n]).phase ≠ .suspend) := by
    rw [hp]
    cases sus <;> decide
  have hmoves : (c.chans[n]).phase ≠ (if sus then .suspend else .on) := by
    rw [hp]
    cases sus <;> decide
  unfold Chip.suspendCh
  exact (if_neg hlive).trans ((if_pos hfree).trans (congrArg (fun d : Chip => d.wr (.CH_CMD n) (if sus then 2#32 else 1#32)) (if_neg hmoves)))

theorem setProfile_phase (c : Chip) (n : Port) (p : Phase) : ((c.setProfile n p).chans[n]).phase = p := by
  unfold Chip.setProfile
  exact (updCh_phase c n _).1

theorem suspendCh_phase (sus : Bool) (hd : DieFree c (fuseDie n)) (hp : (c.chans[n]).phase = if sus then .on else .suspend) :
    ((c.suspendCh n sus).chans[n]).phase = if sus then .suspend else .on := by
  rw [suspendCh_eq sus hd hp, wr_chans]
  exact setProfile_phase _ n _

theorem suspendCh_kept (c : Chip) (n : Port) (b : Bool) : Fr (keeping [.ports, .pond, .clk, .svc] [.DROP_STATUS n, .DROP_CTL n]) c (c.suspendCh n b) := by
  apply Chip.suspendCh_fr (Fr.refl _ c) <;> simp

theorem devsSuspended_kept (c : Chip) (n : Port) (b : Bool) : Fr (keeping [.ports, .clk, .chans, .svc] [.DROP_STATUS n, .DROP_CTL n]) c (c.devsSuspended n b) := by
  apply Chip.devsSuspended_fr (Fr.refl _ c) <;> simp

theorem engWrite_poolKept (c : Chip) (n : Port) (i : Nat) (b : Body) : PoolKept c (c.engWrite n i b) :=
  (setBody_poolKept c i b).trans (touchBy_poolKept _ _ _ _)

theorem devsSuspended_poolKept (c : Chip) (n : Port) (b : Bool) : PoolKept c (c.devsSuspended n b) := by
  refine PoolKept.each (fun d a => ?_) _ c
  unfold Chip.updDevBody
  split
  · exact .refl d
  · exact engWrite_poolKept d n _ _

theorem answers_kept (c : Chip) (qs : List ReqId) (r : Nat) : Fr (keeping [.ports, .pond, .clk, .chans, .svc] [.DROP_STATUS n, .DROP_CTL n]) c (c.answers qs r) := by
  apply Chip.answers_fr (Fr.refl _ c) <;> simp

/-! ### Suspend (R178, R181) -/

theorem runs_suspended (hc : Canon s.chip) (hg : s.chip.pond.grants = []) (hdrop : s.chip.isDrop n = true) (hr : s.chip.root n = rsSUSPENDING)
    (hdue : s.chip.dropDue n = true) (hl : (s.chip.ports[n]).drop.resumeLater = []) :
    Runs (.suspendIdleExpiry n) s (fun c => c.root n = rsSUSPENDED ∧ (c.ports[n]).drop.suspendReqs = [] ∧
      (c.ports[n]).drop.overdrawAt = some (s.chip.clk.now + ms 10) ∧
      (DieFree s.chip (fuseDie n) → (s.chip.chans[n]).phase = .on → (c.chans[n]).phase = .suspend)) := by
  have hexec : exec (.suspendIdleExpiry n) s = execSuspendIdleExpiry n s := rfl
  have h1 := suspendCh_kept s.chip n true
  obtain ⟨u, hu⟩ : ∃ u, s.chip.suspendCh n true = u := ⟨_, rfl⟩
  have hphase : DieFree s.chip (fuseDie n) → (s.chip.chans[n]).phase = .on → (u.chans[n]).phase = .suspend := fun hd hp =>
    hu ▸ suspendCh_phase true hd hp
  rw [hu] at h1
  have h2 := devsSuspended_kept u n true
  have hpool := devsSuspended_poolKept u n true
  obtain ⟨v, hv⟩ : ∃ v, u.devsSuspended n true = v := ⟨_, rfl⟩
  rw [hv] at h2 hpool
  have hvclk : v.clk = s.chip.clk := (h2.kept.clk (by simp)).trans (h1.kept.clk (by simp))
  obtain ⟨w, hw⟩ : ∃ w, v.updDrop n (fun d => { d with suspendReqs := [], resumeLater := [], until_ := none, overdrawAt := some (v.clk.now + ms 10) }) = w := ⟨_, rfl⟩
  have hwc : Canon w := hw ▸ canon_updDrop (h2.canon (h1.canon hc)) _ _
  have hwd : (w.ports[n]).drop.suspendReqs = [] ∧ (w.ports[n]).drop.overdrawAt = some (s.chip.clk.now + ms 10) := by
    rw [← hw, updDrop_same, hvclk]
    exact ⟨rfl, rfl⟩
  obtain ⟨d, hd⟩ : ∃ d, (w.setRoot n rsSUSPENDED).post ((w.setRoot n rsSUSPENDED).ev 0x0406 1 n.val
      [((s.chip.ports[n]).drop.devs.filter (·.configured)).length]) = d := ⟨_, rfl⟩
  have hdk : Fr (keeping [.ports, .pond, .chans] [.DROP_STATUS n]) (w.setRoot n rsSUSPENDED) d := hd ▸ fr_post _ _ (by simp)
  have hak := answers_kept (n := n) d (s.chip.ports[n]).drop.suspendReqs rOK
  have hset := setSt_kept w (.DROP_STATUS n) F.DROP_STATUS_STATE rsSUSPENDED
  refine runs_of_runS_eq hexec (d := d.answers (s.chip.ports[n]).drop.suspendReqs rOK) ?_ ?_ ⟨?_, ?_, ?_, fun hdf hp => ?_⟩
  · refine (if_pos ⟨hdrop, hr, hdue⟩).trans ?_
    unfold Chip.suspended
    dsimp only
    rw [hl, hu, hv, hw, hd]
    rfl
  · rw [hak.kept.pond (by simp), hdk.kept.pond (by simp), setRoot_pond, ← hw]
    exact hpool.grants.trans ((congrArg Pond.grants (h1.kept.pond (by simp))).trans hg)
  · rw [root_of_rd (hak.kept.regs _ (by simp)), root_of_rd (hdk.kept.regs _ (by simp)), root_setRoot hwc n (by decide)]
  · rw [hak.kept.ports (by simp), hdk.kept.ports (by simp), setRoot_ports]
    exact hwd.1
  · rw [hak.kept.ports (by simp), hdk.kept.ports (by simp), setRoot_ports]
    exact hwd.2
  · have hch : (d.answers (s.chip.ports[n]).drop.suspendReqs rOK).chans = u.chans := by
      rw [hak.kept.chans (by simp), hdk.kept.chans (by simp), Chip.setRoot, hset.kept.chans (by decide), ← hw]
      exact h2.kept.chans (by simp)
    rw [hch]
    exact hphase hdf hp

theorem runs_overdraw {a : BitVec 12} {t : Nat} (hc : Canon s.chip) (hg : s.chip.pond.grants = []) (hdrop : s.chip.isDrop n = true)
    (hr : s.chip.root n = rsSUSPENDED) (ho : (s.chip.ports[n]).drop.overdrawAt = some t) (ht : t ≤ s.chip.clk.now)
    (hb : s.chip.get (.DROP_SUSP n) F.DROP_SUSP_SUSP_BUDGET < a.toNat) :
    Runs (.overdrawCheck n a) s (fun c => c.bit (.DROP_STATUS n) F.DROP_STATUS_OVERDRAW_SEEN = true ∧
      c.get (.DROP_SUSP n) F.DROP_SUSP_MEASURED = a.toNat ∧ (c.ports[n]).drop.overdrawAt = none) := by
  have hexec : exec (.overdrawCheck n a) s = execOverdrawCheck n a s := rfl
  obtain ⟨u, hu⟩ : ∃ u, s.chip.updDrop n (fun d => { d with overdrawAt := none }) = u := ⟨_, rfl⟩
  have huc : Canon u := hu ▸ canon_updDrop hc _ _
  obtain ⟨w, hw⟩ : ∃ w, u.record (.DROP_STATUS n) F.DROP_STATUS_OVERDRAW_SEEN = w := ⟨_, rfl⟩
  have hwc : Canon w := hw ▸ canon_record huc _ _
  have hbit : w.bit (.DROP_STATUS n) F.DROP_STATUS_OVERDRAW_SEEN = true := hw ▸ bit_record_same u huc _ _ (by decide) (by decide)
  obtain ⟨v, hv⟩ : ∃ v, w.setF (.DROP_SUSP n) F.DROP_SUSP_MEASURED a.toNat = v := ⟨_, rfl⟩
  have hk : ∀ e, Fr (keeping [.ports, .pond] [.DROP_STATUS n, .DROP_SUSP n]) v (v.post e) := fun e => fr_post v e (by simp)
  refine runs_of_runS_eq hexec (d := v.post (v.ev 0x0409 1 n.val [a.toNat, s.chip.get (.DROP_SUSP n) F.DROP_SUSP_SUSP_BUDGET])) ?_ ?_ ⟨?_, ?_, ?_⟩
  · dsimp only
    rw [hdrop, hr, any_due ho ht, if_neg (by decide), if_pos hb, hu, hw, hv]
  · rw [(hk _).kept.pond (by simp), ← hv, ← hw, ← hu]
    exact hg
  · rw [bit_of_rd ((hk _).kept.regs _ (by simp)), ← hv]
    exact (bit_of_rd (rd_setF_other w _ _ (by simp)) _).trans hbit
  · rw [get_of_rd ((hk _).kept.regs _ (by simp)), ← hv]
    exact (get_setF_same w hwc _ _ _ (by decide)).trans (Nat.mod_eq_of_lt a.isLt)
  · rw [(hk _).kept.ports (by simp), ← hv, ← hw]
    show (u.ports[n]).drop.overdrawAt = none
    rw [← hu, updDrop_same]

/-! ### Remote wake and resume (R179, R180) -/

theorem evRemoteWake_state (hc : Canon c) (n : Port) (b : Bool) : Canon (c.evRemoteWake n b) ∧
    (c.evRemoteWake n b).bit (.DROP_STATUS n) F.DROP_STATUS_WAKE_SEEN = true ∧ (c.evRemoteWake n b).root n = c.root n ∧
    (c.evRemoteWake n b).pond = c.pond ∧ (c.evRemoteWake n b).ports = c.ports ∧ (c.evRemoteWake n b).clk = c.clk := by
  unfold Chip.evRemoteWake
  extract_lets d
  have hd : Canon d := canon_record hc _ _
  have hk : ∀ e, Fr (keeping [.ports, .pond, .clk] [.DROP_STATUS n]) d (d.post e) := fun e => fr_post d e (by simp)
  refine ⟨(hk _).canon hd, ?_, ?_, (hk _).kept.pond (by simp), (hk _).kept.ports (by simp), (hk _).kept.clk (by simp)⟩
  · rw [bit_of_rd ((hk _).kept.regs _ (by simp))]
    exact bit_record_same c hc _ _ (by decide) (by decide)
  · rw [root_of_rd ((hk _).kept.regs _ (by simp))]
    exact get_record_field c hc _ _ _ (by decide) (by decide) (by decide)

theorem runs_remoteWake (hc : Canon s.chip) (hg : s.chip.pond.grants = []) (hdrop : s.chip.isDrop n = true) (hr : s.chip.root n = rsSUSPENDED)
    (hz : s.chip.dozing = false) (he : s.chip.bit (.DROP_CTL n) F.DROP_CTL_RWAKE_EN = true) (hn : (s.chip.ports[n]).drop.resume = none) :
    Runs (.remoteWakeK n) s (fun c => c.bit (.DROP_STATUS n) F.DROP_STATUS_WAKE_SEEN = true ∧
      (c.ports[n]).drop.resume.map (fun r => (r.remote, r.on, r.driveAt)) = some (true, false, s.chip.clk.now + us 5)) := by
  have hexec : exec (.remoteWakeK n) s = execRemoteWakeK n s := rfl
  obtain ⟨-, h1, -, h2, -, h4⟩ := evRemoteWake_state hc n false
  refine runs_of_runS_eq hexec (d := (s.chip.evRemoteWake n false).startResume n [] true false) ?_ ((congrArg Pond.grants h2).trans hg) ⟨h1, ?_⟩
  · rw [hdrop, hz, if_neg (by decide), if_neg (by decide)]
    unfold Chip.remoteWake
    dsimp only
    rw [hdrop, he, hr, hn]
    rfl
  · unfold Chip.startResume
    dsimp only
    rw [updDrop_same, h4]
    rfl

theorem runs_remoteWakeIgnored (hc : Canon s.chip) (hg : s.chip.pond.grants = []) (hdrop : s.chip.isDrop n = true) (hr : s.chip.root n = rsSUSPENDED)
    (hz : s.chip.dozing = false) (he : s.chip.bit (.DROP_CTL n) F.DROP_CTL_RWAKE_EN = false) :
    Runs (.remoteWakeK n) s (fun c => c.root n = rsSUSPENDED ∧ c.bit (.DROP_STATUS n) F.DROP_STATUS_WAKE_SEEN = true) := by
  have hexec : exec (.remoteWakeK n) s = execRemoteWakeK n s := rfl
  obtain ⟨-, h1, h3, h2, -, -⟩ := evRemoteWake_state hc n true
  refine runs_of_runS_eq hexec (d := s.chip.evRemoteWake n true) ?_ ((congrArg Pond.grants h2).trans hg) ⟨h3.trans hr, h1⟩
  rw [hdrop, hz, if_neg (by decide), if_neg (by decide)]
  unfold Chip.remoteWake
  dsimp only
  rw [hdrop, he, hr]
  rfl

theorem driveK_drives (hc : Canon c) {r : Resume} (h : (c.ports[n]).drop.resume = some r) (hon : r.on = false) (ht : r.driveAt ≤ c.clk.now) :
    (c.driveK n).root n = rsRESUMING ∧ ((c.driveK n).ports[n]).drop.resume = some { r with on := true } ∧
    (DieFree c (fuseDie n) → (c.chans[n]).phase = .suspend → ((c.driveK n).chans[n]).phase = .on) := by
  have hk := suspendCh_kept c n false
  have hset : ∀ d : Chip, (d.setRoot n rsRESUMING).chans = d.chans := fun d => (setSt_kept d _ _ _).kept.chans (by decide)
  have he : c.driveK n = ((c.suspendCh n false).updDrop n (fun d => { d with resume := some { r with on := true } })).setRoot n rsRESUMING := by
    unfold Chip.driveK
    rw [h]
    dsimp only
    rw [hon]
    exact if_neg (by simpa using ht)
  rw [he]
  refine ⟨root_setRoot (canon_updDrop (hk.canon hc) _ _) n (by decide), ?_, fun hd hp => ?_⟩
  · rw [setRoot_ports, updDrop_same]
  · rw [hset]
    exact suspendCh_phase false hd hp

theorem driveK_kept (c : Chip) (n : Port) : Fr (keeping [.pond, .clk] []) c (c.driveK n) := by
  apply Chip.driveK_fr (Fr.refl _ c) <;> simp

theorem runs_resumeKDone (hc : Canon s.chip) (hg : s.chip.pond.grants = []) (hdrop : s.chip.isDrop n = true) (hr : s.chip.root n = rsRESUMING)
    (hdue : s.chip.dropDue n = true) :
    Runs (.resumeKDone n) s (fun c => c.root n = rsRECOVERY ∧ (c.ports[n]).drop.until_ = some (s.chip.clk.now + ms 10)) := by
  have hexec : exec (.resumeKDone n) s = execResumeKDone n s := rfl
  have hk := driveK_kept s.chip n
  obtain ⟨u, hu⟩ : ∃ u, s.chip.driveK n = u := ⟨_, rfl⟩
  rw [hu] at hk
  refine runs_of_runS_eq hexec (d := (u.updDrop n (fun d => { d with until_ := some (s.chip.clk.now + ms 10) })).setRoot n rsRECOVERY) ?_ ?_
    ⟨root_setRoot (canon_updDrop (hk.canon hc) _ _) n (by decide), ?_⟩
  · refine (if_pos ⟨hdrop, hr, hdue⟩).trans ?_
    rw [hu]
  · rw [setRoot_pond]
    exact (congrArg Pond.grants (hk.kept.pond (by simp))).trans hg
  · rw [setRoot_ports, updDrop_same]

/-- Nothing waits to be enumerated. -/
theorem nextEnum_none (h : (c.ports[n]).drop.enumQ = []) : c.nextEnum n = c := by
  unfold Chip.nextEnum
  dsimp only
  rw [h]
  cases (c.ports[n]).drop.enum <;> rfl

theorem runs_resumed (hc : Canon s.chip) (hg : s.chip.pond.grants = []) (hdrop : s.chip.isDrop n = true) (hr : s.chip.root n = rsRECOVERY)
    (hdue : s.chip.dropDue n = true) (hl : (s.chip.ports[n]).drop.suspendLater = []) (hq : (s.chip.ports[n]).drop.enumQ = []) :
    Runs (.resumeRecoveryDone n) s (fun c => c.root n = rsACTIVE ∧ (c.ports[n]).drop.resume = none) := by
  have hexec : exec (.resumeRecoveryDone n) s = execResumeRecoveryDone n s := rfl
  obtain ⟨r, hr0⟩ : ∃ r : Resume, (s.chip.ports[n]).drop.resume.getD { host := [], remote := false, power := false, driveAt := 0 } = r := ⟨_, rfl⟩
  have h2 := devsSuspended_kept s.chip n false
  have hpool := devsSuspended_poolKept s.chip n false
  obtain ⟨v, hv⟩ : ∃ v, s.chip.devsSuspended n false = v := ⟨_, rfl⟩
  rw [hv] at h2 hpool
  obtain ⟨w, hw⟩ : ∃ w, v.updDrop n (fun d => { d with resume := none, until_ := none, resumeLater := [], byPower := false
                                                       ctls := d.ctls.map (fun k => { k with deadline := v.clk.now + k.span }) }) = w := ⟨_, rfl⟩
  have hwd : (w.ports[n]).drop.resume = none ∧ (w.ports[n]).drop.enumQ = [] := by
    rw [← hw, updDrop_same]
    refine ⟨rfl, ?_⟩
    show (v.ports[n]).drop.enumQ = []
    rw [h2.kept.ports (by simp)]
    exact hq
  obtain ⟨e, he⟩ : ∃ e, (if (!r.host.isEmpty && r.remote) = true then
      { (w.ev 0x0407 1 n.val [bitOf (!r.host.isEmpty) + 2 * bitOf r.remote + 4 * bitOf r.power]) with
        flags := (w.ev 0x0407 1 n.val [bitOf (!r.host.isEmpty) + 2 * bitOf r.remote + 4 * bitOf r.power]).flags ||| 2 }
      else w.ev 0x0407 1 n.val [bitOf (!r.host.isEmpty) + 2 * bitOf r.remote + 4 * bitOf r.power]) = e := ⟨_, rfl⟩
  have hpost : Fr (keeping [.ports, .pond] []) w (w.post e) := fr_post w e (by simp)
  have hwc : Canon (w.post e) := hpost.canon (hw ▸ canon_updDrop (h2.canon hc) _ _)
  obtain ⟨d, hd⟩ : ∃ d, ((w.post e).setRoot n rsACTIVE).answers (r.host ++ (s.chip.ports[n]).drop.resumeLater) rOK = d := ⟨_, rfl⟩
  have hak := answers_kept (n := n) ((w.post e).setRoot n rsACTIVE) (r.host ++ (s.chip.ports[n]).drop.resumeLater) rOK
  rw [hd] at hak
  have hports : d.ports = w.ports := (hak.kept.ports (by simp)).trans ((setRoot_ports _ n _).trans (hpost.kept.ports (by simp)))
  have hnext : d.nextEnum n = d := nextEnum_none (by rw [hports]; exact hwd.2)
  refine runs_of_runS_eq hexec (d := d) ?_ ?_ ⟨?_, ?_⟩
  · refine (if_pos ⟨hdrop, hr, hdue⟩).trans ?_
    unfold Chip.resumed
    dsimp only
    rw [hr0, hl, hv, hw, he, hd, hnext]
    rfl
  · rw [hak.kept.pond (by simp), setRoot_pond, hpost.kept.pond (by simp), ← hw]
    exact hpool.grants.trans hg
  · rw [root_of_rd (hak.kept.regs _ (by simp)), root_setRoot hwc n (by decide)]
  · rw [hports]
    exact hwd.1

/-! ### A bulk transaction (R187, R190, R192) -/

theorem touchBy_ttHere (c : Chip) (r : Role) (i : Nat) (b : Bool) (d : Dev) : (c.touchBy r i b).ttHere n d = c.ttHere n d := by
  unfold Chip.touchBy
  split <;> rfl

theorem splitMark_whole (c : Chip) (d : Dev) (b : EpBody) : c.splitMark n d b .whole = c := by
  unfold Chip.splitMark
  dsimp only

/-- An endpoint's context after a packet of so many bytes. -/
def movedBody (b : EpBody) (len : Nat) : EpBody :=
  { b with toggle := !b.toggle, bytes := b.bytes + len, slow := b.slow && len == 0, slowRun := if len = 0 then b.slowRun else 0 }

theorem epMoved_body (c : Chip) (d : Dev) (x : Nat × EpBody) (len : Nat) (ends : Bool) :
    ((c.epMoved n d x len true ends).ctx x.1).body = .ep (movedBody x.2 len) ∧ (c.epMoved n d x len true ends).pond.grants = c.pond.grants := by
  obtain ⟨u, hu⟩ : ∃ u, c.engWrite n x.1 (.ep (movedBody x.2 len)) = u := ⟨_, rfl⟩
  have hf : Fr (keeping [.pond] []) u (c.epMoved n d x len true ends) := by
    unfold Chip.epMoved
    extract_lets b u1 u2 r u3 u4
    have h1 : u1 = u := hu
    rw [← h1]
    have h2 : Fr (keeping [.pond] []) u1 u2 := by
      unfold u2
      split
      · exact Chip.evSlow_fr (Fr.refl _ u1) (by simp)
      · exact Fr.refl _ u1
    have h4 : Fr (keeping [.pond] []) u1 u4 := by
      unfold u4
      split
      · refine Chip.xferEnds_fr (Chip.putRun_fr h2 ?_) ?_ <;> simp
      · exact Chip.putRun_fr h2 (by simp)
    split
    · exact h4
    · apply Chip.active_fr h4 <;> simp
  have hpond := hf.kept.pond (by simp)
  have hctx : u.ctx x.1 = { c.ctx x.1 with body := .ep (movedBody x.2 len) } := by
    rw [← hu]
    exact (ctx_of_ctxs (by rw [Chip.engWrite, touchBy_pond]) _).trans (setBody_ctx _ _ _)
  refine ⟨?_, ?_⟩
  · rw [ctx_of_ctxs (congrArg Pond.ctxs hpond), hctx]
  · rw [congrArg Pond.grants hpond, ← hu]
    exact (engWrite_poolKept c n _ _).grants

/-- A packet with the expected toggle from an IN endpoint moves it. -/
theorem dataTransaction_in (c : Chip) (d : Dev) (x : Nat × EpBody) (l : List Byte) (hin : x.2.ep.getLsbD 7 = true) (hx : x.2.xfer = 2) :
    ∃ (w : Chip) (ends : Bool), w.pond = c.pond ∧ c.dataTransaction n d x 1 0 (.ack l (togglePid x.2.toggle)) = w.epMoved n d x l.length true ends := by
  obtain ⟨u, hu⟩ : ∃ u, c.splitOk n d = u := ⟨_, rfl⟩
  have hk : Fr (keeping [.pond] []) c u := hu ▸ Chip.splitOk_fr (Fr.refl _ c) (by simp)
  have hping : u.pinging n d x.2 = false := by
    unfold Chip.pinging
    rw [hin]
    rfl
  refine ⟨u.wired n (togglePid x.2.toggle) l.length, (u.wired n (togglePid x.2.toggle) l.length).inEnds n d x.2 l.length, (Fr.kept hk).pond (by simp), ?_⟩
  unfold Chip.dataTransaction
  dsimp only
  rw [hu, hx, hin, hping, if_neg (by decide), if_neg (by decide), if_pos rfl, if_neg (by simp)]

theorem runs_bulkMoved {r : BitVec 20} {p : Byte} {d : Dev} {x : Nat × EpBody} {l : List Byte} {t : BulkTurn} (hg : s.chip.pond.grants = [])
    (hrun : s.chip.sofRuns n = true) (hr : s.chip.root n = rsACTIVE) (hs : (s.chip.ports[n]).drop.slot = some (s.chip.slotNow n))
    (ht : s.chip.nextTurn n = some (r, p, .bulk t)) (hd : s.chip.dev? n r = some d) (htt : s.chip.ttHere n d = none)
    (hx : s.chip.ep? d.cid p = some x) (hin : p.getLsbD 7 = true) (hep : x.2.ep = p) (hb : x.2.xfer = 2) :
    Runs (.transactionComplete n r p (.ack l (togglePid x.2.toggle))) s (fun c => (c.ctx x.1).body = .ep (movedBody x.2 l.length)) := by
  have hexec : exec (.transactionComplete n r p (.ack l (togglePid x.2.toggle))) s =
    execTransactionComplete n r p (.ack l (togglePid x.2.toggle)) s := rfl
  have hopen : s.chip.wireOpen n = true := by
    unfold Chip.wireOpen
    dsimp only
    rw [hr, hrun, hs]
    simp [rsSUSPENDING, rsACTIVE]
  obtain ⟨u, hu⟩ : ∃ u, (s.chip.touchBy (.port n) d.cid false).touchBy (.port n) x.1 false = u := ⟨_, rfl⟩
  have hut : u.ttHere n d = none := by rw [← hu, touchBy_ttHere, touchBy_ttHere, htt]
  have hup : u.pond = s.chip.pond := by rw [← hu, touchBy_pond, touchBy_pond]
  have hstep : u.splitStep n d x.2 (.ack l (togglePid x.2.toggle)) = .whole := by
    unfold Chip.splitStep
    exact if_pos (by rw [hut]; rfl)
  have hres : u.splitResult n d x.2 (.ack l (togglePid x.2.toggle)) = .ack l (togglePid x.2.toggle) := by
    unfold Chip.splitResult
    exact if_pos (by rw [hut]; rfl)
  obtain ⟨v, hv⟩ : ∃ v, u.putRun n { (u.ports[n]).drop.run d.route x.2.ep with lastAt := some u.microframe } = v := ⟨_, rfl⟩
  have hvp : v.pond = u.pond := by rw [← hv]; rfl
  obtain ⟨w, ends, hw, hdata⟩ := dataTransaction_in (n := n) v d x l (hep ▸ hin) hb
  obtain ⟨hbody, hgr⟩ := epMoved_body (n := n) w d x l.length ends
  have hturn : ∀ (y : Chip) (k : Option Nat), (y.bulkTurn n t x.2 k).pond = y.pond := fun y k =>
    (Chip.bulkTurn_fr (f := keeping [.pond] []) (Fr.refl _ y) (by simp)).kept.pond (by simp)
  refine runs_of_runS_eq hexec (d := (w.epMoved n d x l.length true ends).bulkTurn n t x.2 (u.bytesOf n d x.2 (.ack l (togglePid x.2.toggle)))) ?_ ?_ ?_
  · rw [hopen, if_neg (by decide), ht, hd]
    dsimp only
    rw [if_neg (by simp), hx]
    dsimp only
    unfold Chip.transact
    dsimp only
    rw [hu, hstep, hres, splitMark_whole, if_neg (show ¬ SplitStep.whole = .part by decide), hv, ← hdata]
    rfl
  · rw [hturn, hgr, hw, hvp, hup]
    exact hg
  · rw [ctx_of_ctxs (congrArg Pond.ctxs (hturn _ _))]
    exact hbody

/-! ### The boundary of a microframe (R186, R193, R198) -/

theorem takeStamp_state (c : Chip) (t : Nat) : ∃ f, c.takeStamp t = c.updSei f ∧ (f c.sei).stampTime = BitVec.ofNat 64 t := by
  unfold Chip.takeStamp
  split
  · next h => exact ⟨id, rfl, h.1⟩
  · exact ⟨_, rfl, rfl⟩

theorem sofRuns_updDrop (c : Chip) (n : Port) (f : Drop → Drop) : (c.updDrop n f).sofRuns n = c.sofRuns n := by
  have hd : (c.updDrop n f).isDrop n = c.isDrop n := by
    unfold Chip.isDrop Chip.updDrop
    rw [updPort_same]
  unfold Chip.sofRuns
  rw [hd]
  rfl

theorem sendSof_mark (c : Chip) (m : Port) (t : Nat) : MarkKept n c (c.sendSof m t) := by
  unfold Chip.sendSof
  dsimp only
  split
  · exact (updDrop_mark c m (by intro; rfl)).trans (.of_ports (wr_ports _ _ _))
  · exact .refl _

/-- The start of a frame on an aligned high-speed drop: the frame number and the microframe of TIME. -/
theorem sendSof_frame (hc : Canon c) (t : Nat) (hs : c.rootSpeed n = spHS) (ha : (c.ports[n]).drop.aligned = true) :
    (c.sendSof n t).get (.DROP_FRAME n) F.DROP_FRAME_FRAME = t / 1600000 % 2048 ∧
    (c.sendSof n t).get (.DROP_FRAME n) F.DROP_FRAME_UFRAME = t / 200000 % 8 := by
  unfold Chip.sendSof
  dsimp only
  rw [hs, ha, beq_self_eq_true, Bool.true_or, if_pos rfl, if_pos rfl, if_pos rfl]
  constructor
  · rw [Chip.get, rd_wr_same _ (canon_updDrop hc _ _), fget_fset_other _ _ _ _ (by decide) (by decide) (by decide),
      fget_fset_other _ _ _ _ (by decide) (by decide) (by decide), fget_fset_same _ _ _ (by decide)]
    exact Nat.mod_eq_of_lt (Nat.mod_lt _ (by decide))
  · rw [Chip.get, rd_wr_same _ (canon_updDrop hc _ _), fget_fset_other _ _ _ _ (by decide) (by decide) (by decide),
      fget_fset_same _ _ _ (by decide)]
    exact Nat.mod_eq_of_lt (Nat.mod_lt _ (by decide))

theorem sendStamps_mark (c : Chip) (m : Port) (k : Nat) : MarkKept n c (c.sendStamps m k) := by
  unfold Chip.sendStamps
  refine MarkKept.each (fun d t => ?_) _ c
  split
  · exact (updDrop_mark d m (by intro; rfl)).trans (cullDev_mark _ _ _ _ _ _)
  · exact .of_fr (by apply Chip.putRec_fr2 (Fr.refl _ d) <;> simp)

theorem nakRound_mark (c : Chip) (m : Port) : MarkKept n c (c.nakRound m) := by
  have hslow : ∀ (d : Chip) (r : BitVec 20) (e : Byte) (b : Bool), MarkKept n d (d.evSlow m r e b) := fun d r e b =>
    .of_fr (by apply Chip.evSlow_fr (Fr.refl _ d); simp)
  unfold Chip.nakRound
  refine MarkKept.trans (MarkKept.each (fun d a => MarkKept.each (fun d e => ?_) _ d) _ c) (updDrop_mark _ m (by intro; rfl))
  dsimp only
  split
  · split
    · exact (engWrite_mark _ _ _ _).trans (hslow _ _ _ _)
    · exact engWrite_mark _ _ _ _
  · split
    · exact engWrite_mark _ _ _ _
    · exact .refl _

theorem applyWeirs_mark (c : Chip) (m : Port) : MarkKept n c (c.applyWeirs m) := by
  unfold Chip.applyWeirs
  refine MarkKept.trans (updDrop_mark c m (by intro; rfl)) (MarkKept.each (fun d w => ?_) _ _)
  dsimp only
  split
  · exact cullDev_mark _ _ _ _ _ _
  · split
    · exact engWrite_mark _ _ _ _
    · exact cullDev_mark _ _ _ _ _ _
  · exact cullDev_mark _ _ _ _ _ _

theorem cullOuts_mark (c : Chip) (m : Port) : MarkKept n c (c.cullOuts m) := by
  unfold Chip.cullOuts
  refine MarkKept.trans (MarkKept.trans (updDrop_mark c m (by intro; rfl)) (MarkKept.each (fun d o => ?_) _ _)) (MarkKept.each (fun d k => ?_) _ _)
  · split <;> exact cullDev_mark _ _ _ _ _ _
  · split
    · exact (cullDev_mark _ _ _ _ _ _).trans (ctlTimeout_mark _ _ _)
    · exact .refl _

theorem splitRound_mark (c : Chip) (m : Port) (k : Nat) : MarkKept n c (c.splitRound m k) := by
  unfold Chip.splitRound
  refine MarkKept.trans (updDrop_mark c m (by intro; rfl)) (MarkKept.each (fun d o => ?_) _ _)
  split
  · exact .refl _
  · split
    · exact .refl _
    · exact epFailed_mark _ _ _ _ _

theorem slotOpened_mark (c : Chip) (m : Port) (k : Nat) : MarkKept n c ((c.isoRound m).openSlot m k) := by
  have hiso : MarkKept n c (c.isoRound m) := by
    unfold Chip.isoRound
    refine MarkKept.each (fun d r => ?_) _ c
    split
    · exact .refl _
    · split
      · exact .refl _
      · exact xferEnds_mark _ _ _ _ _
  refine hiso.trans ?_
  unfold Chip.openSlot
  split
  · exact updDrop_mark _ m (by intro; rfl)
  · exact updDrop_mark _ m (by intro; rfl)

/-- The rounds after the start of a frame. -/
def boundaryRounds (c : Chip) (n : Port) (m : Nat) : Chip :=
  ((((((c.latchOffset n).sendStamps n m).nakRound n).applyWeirs n).cullOuts n).splitRound n m)

theorem latchOffset_mark (c : Chip) (m : Port) : MarkKept n c (c.latchOffset m) := by
  unfold Chip.latchOffset
  exact updDrop_mark c m (by intro; rfl)

theorem boundaryRounds_mark (c : Chip) (m : Port) (k : Nat) : MarkKept n c (boundaryRounds c m k) :=
  (((((latchOffset_mark c m).trans (sendStamps_mark _ _ _)).trans (nakRound_mark _ _)).trans (applyWeirs_mark _ _)).trans
    (cullOuts_mark _ _)).trans (splitRound_mark _ _ _)

theorem boundaryRounds_kept (c : Chip) (m : Port) (k : Nat) : Fr (keeping [.sei] [.DROP_FRAME n]) c (boundaryRounds c m k) := by
  have h1 : Fr (keeping [.sei] [.DROP_FRAME n]) c (c.latchOffset m) := Chip.latchOffset_fr (Fr.refl _ c) (by simp)
  have h2 : Fr (keeping [.sei] [.DROP_FRAME n]) c ((c.latchOffset m).sendStamps m k) := by apply Chip.sendStamps_fr h1 <;> simp
  have h3 : Fr (keeping [.sei] [.DROP_FRAME n]) c (((c.latchOffset m).sendStamps m k).nakRound m) := by apply Chip.nakRound_fr h2 <;> simp
  have h4 : Fr (keeping [.sei] [.DROP_FRAME n]) c ((((c.latchOffset m).sendStamps m k).nakRound m).applyWeirs m) := by
    apply Chip.applyWeirs_fr h3 <;> simp
  have h5 : Fr (keeping [.sei] [.DROP_FRAME n]) c (((((c.latchOffset m).sendStamps m k).nakRound m).applyWeirs m).cullOuts m) := by
    apply Chip.cullOuts_fr h4 <;> simp
  unfold boundaryRounds
  apply Chip.splitRound_fr h5 <;> simp

/-- The drop has marked the microframe and taken its stamp. -/
def boundaryMarked (c : Chip) (n : Port) (t : Nat) : Chip := (c.takeStamp t).updDrop n (fun d => { d with lastM := some (t / 200000) })

theorem boundary_cases (c : Chip) (n : Port) (t : Nat) : ∃ k,
    c.boundary n t = boundaryRounds (if (boundaryMarked c n t).sofRuns n then (boundaryMarked c n t).sendSof n t else boundaryMarked c n t) n (t / 200000) ∨
    c.boundary n t = ((boundaryRounds (if (boundaryMarked c n t).sofRuns n then (boundaryMarked c n t).sendSof n t else boundaryMarked c n t) n
      (t / 200000)).isoRound n).openSlot n k := by
  unfold Chip.boundary boundaryRounds boundaryMarked
  dsimp only
  split
  · exact ⟨_, .inr rfl⟩
  · exact ⟨0, .inl rfl⟩

theorem slotOpened_kept (c : Chip) (m : Port) (k : Nat) : Fr (keeping [.sei] [.DROP_FRAME n]) c ((c.isoRound m).openSlot m k) := by
  have h : Fr (keeping [.sei] [.DROP_FRAME n]) c (c.isoRound m) := Chip.isoRound_fr (Fr.refl _ c) (by simp)
  exact Chip.openSlot_fr h (by simp)

/-- What the boundary leaves of the chip that marked the microframe and sent the start of a frame. -/
theorem boundary_kept (c : Chip) (n : Port) (t : Nat) : ∃ u, (if (boundaryMarked c n t).sofRuns n then (boundaryMarked c n t).sendSof n t else boundaryMarked c n t) = u ∧
    MarkKept n u (c.boundary n t) ∧ Fr (keeping [.sei] [.DROP_FRAME n]) u (c.boundary n t) := by
  refine ⟨_, rfl, ?_⟩
  obtain ⟨k, h | h⟩ := boundary_cases c n t
  · rw [h]
    exact ⟨boundaryRounds_mark _ _ _, boundaryRounds_kept _ _ _⟩
  · rw [h]
    exact ⟨(boundaryRounds_mark _ _ _).trans (slotOpened_mark _ _ _), fr_trans (boundaryRounds_kept _ _ _) (slotOpened_kept _ _ _)⟩

theorem boundaryMarked_state (hc : Canon c) (t : Nat) : Canon (boundaryMarked c n t) ∧
    (boundaryMarked c n t).sei.stampTime = BitVec.ofNat 64 t ∧ ((boundaryMarked c n t).ports[n]).drop = { (c.ports[n]).drop with lastM := some (t / 200000) } ∧
    (boundaryMarked c n t).sofRuns n = c.sofRuns n ∧ (boundaryMarked c n t).rootSpeed n = c.rootSpeed n := by
  obtain ⟨f, hf, ht⟩ := takeStamp_state c t
  unfold boundaryMarked
  rw [hf]
  refine ⟨⟨hc.regs, hc.flash, hc.blocks⟩, ht, ?_, ?_, rfl⟩
  · rw [updDrop_same]
    rfl
  · rw [sofRuns_updDrop]
    rfl

theorem sendSof_sei (c : Chip) (m : Port) (t : Nat) : (c.sendSof m t).sei = c.sei := by
  have h : Fr (keeping [.sei] []) c (c.sendSof m t) := by apply Chip.sendSof_fr (Fr.refl _ c) <;> simp
  exact h.kept.sei (by simp)

theorem runs_of_settle_eq {i : Instr} {f : Chip → Chip} {d : Chip} {p : Chip → Prop} (h : exec i s = s.runS f) (hd : f s.chip = d)
    (hp : p d.settle) : Runs i s p :=
  runs_of_run (f := fun c => (f c).settle) h (hd ▸ hp)

theorem runs_microframe (hc : Canon s.chip) (hdrop : s.chip.isDrop n = true) (hrun : s.chip.sei.running = true) (hz : s.chip.dozing = false)
    (hm : (s.chip.ports[n]).drop.lastM ≠ some (s.chip.sei.time.toNat / 200000)) :
    Runs (.microframeBoundary n) s (fun c => (c.ports[n]).drop.lastM = some (s.chip.sei.time.toNat / 200000) ∧
      c.sei.stampTime = BitVec.ofNat 64 (s.chip.sei.time.toNat / 200000 * 200000) ∧
      (s.chip.sofRuns n = true → s.chip.rootSpeed n = spHS → (s.chip.ports[n]).drop.aligned = true →
        c.get (.DROP_FRAME n) F.DROP_FRAME_FRAME = s.chip.sei.time.toNat / 200000 * 200000 / 1600000 % 2048 ∧
        c.get (.DROP_FRAME n) F.DROP_FRAME_UFRAME = s.chip.sei.time.toNat / 200000 % 8)) := by
  have hexec : exec (.microframeBoundary n) s = execMicroframeBoundary n s := rfl
  obtain ⟨k, hk⟩ : ∃ k, s.chip.sei.time.toNat / 200000 = k := ⟨_, rfl⟩
  rw [hk] at hm
  have hdiv : k * 200000 / 200000 = k := Nat.mul_div_cancel k (by decide)
  obtain ⟨hvc, hvt, hvd, hvr, hvs⟩ := boundaryMarked_state (n := n) hc (k * 200000)
  obtain ⟨u, hu, hmark, hkept⟩ := boundary_kept s.chip n (k * 200000)
  obtain ⟨v, hv⟩ : ∃ v, boundaryMarked s.chip n (k * 200000) = v := ⟨_, rfl⟩
  rw [hv] at hvc hvt hvd hvr hvs hu
  rw [hdiv] at hvd
  have hlast : (u.ports[n]).drop.lastM = some k := by
    have hvl : (v.ports[n]).drop.lastM = some k := by rw [hvd]
    rw [← hu]
    split
    · exact Eq.trans (sendSof_mark v n _) hvl
    · exact hvl
  have hstamp : u.sei.stampTime = BitVec.ofNat 64 (k * 200000) := by
    rw [← hu]
    split
    · rw [sendSof_sei, hvt]
    · exact hvt
  have hset := settle_frSettle (s.chip.boundary n (k * 200000))
  have hrd : ((s.chip.boundary n (k * 200000)).settle).rd (.DROP_FRAME n) = u.rd (.DROP_FRAME n) :=
    (hset.kept.regs _ rfl).trans (hkept.kept.regs _ (by simp))
  rw [hk]
  refine runs_of_settle_eq hexec (d := s.chip.boundary n (k * 200000)) ?_ ⟨?_, ?_, fun hr hs ha => ?_⟩
  · dsimp only
    rw [hk]
    refine if_neg ?_
    rw [hdrop, hrun, hz]
    simpa using hm
  · exact Eq.trans (hmark.trans (settle_mark _)) hlast
  · rw [hset.kept.sei (by decide), hkept.kept.sei (by simp), hstamp]
  · have hua : (v.ports[n]).drop.aligned = true := by
      rw [hvd]
      exact ha
    obtain ⟨h1, h2⟩ := sendSof_frame hvc (k * 200000) (hvs.trans hs) hua
    rw [if_pos (hvr.trans hr)] at hu
    rw [get_of_rd hrd, get_of_rd hrd, ← hu]
    exact ⟨h1, h2.trans (congrArg (· % 8) hdiv)⟩

/-! ### Hubs (R174, R191) -/

/-- A poll of a hub's port keeps the devices' routes. -/
theorem pollPort_route (h : BitVec 20) (p : Nat) (r : BitVec 20) : ((c.pollPort n h p).dev? n r).map (·.route) = (c.dev? n r).map (·.route) := by
  unfold Chip.pollPort Chip.updDev Chip.dev?
  rw [updDrop_same]
  exact updFirst_find?_map (by intro; rfl) (by intro; rfl) _

theorem putDev_dev (c : Chip) (n : Port) (d : Dev) : (c.putDev n d).dev? n d.route = some d := by
  unfold Chip.putDev Chip.dev?
  rw [updDrop_same]
  show (((c.ports[n]).drop.devs.filter (fun y => y.route != d.route)) ++ [d]).find? (fun y => y.route == d.route) = some d
  rw [List.find?_append, List.find?_eq_none.2 (fun y hy => ?_)]
  · simp
  · have := (List.mem_filter.1 hy).2
    simpa using this

/-- A hub's port is polled on a bus that runs. -/
theorem hubPoll_open {v : Dev} {p : Nat} (hrun : c.sofRuns n = true) (hr : c.root n = rsACTIVE) (hv : v.configured = true) (hp0 : p ≠ 0)
    (hp : p ≤ v.hubPorts) (hopen : v.pollOpen c.frameMs p = true) :
    ¬ (!c.sofRuns n || c.root n != rsACTIVE || !v.configured || p == 0 || v.hubPorts < p || !v.pollOpen c.frameMs p) = true := by
  rw [hrun, hr, hv, hopen, beq_eq_false_iff_ne.2 hp0, decide_eq_false (Nat.not_lt.2 hp)]
  decide

theorem evPortStatus_kept (c : Chip) (n : Port) (r : BitVec 20) (a b : Nat) : (c.evPortStatus n r a b).pond.grants = c.pond.grants ∧
    (c.evPortStatus n r a b).rd (.DROP_STATUS n) = c.rd (.DROP_STATUS n) := by
  unfold Chip.evPortStatus Chip.treePost Chip.afterFree
  split
  · exact ⟨rfl, rfl⟩
  · have hk := fr_post (ps := [.pond]) (rs := [.DROP_STATUS n]) c (c.ev 0x0405 1 n.val [r.toNat, a, b]) (by simp)
    exact ⟨congrArg Pond.grants (hk.kept.pond (by simp)), hk.kept.regs _ (by simp)⟩

theorem runs_hubOverCurrent {h : BitVec 20} {v : Dev} {p : Nat} (hc : Canon s.chip) (hg : s.chip.pond.grants = []) (hh : s.chip.dev? n h = some v)
    (hrun : s.chip.sofRuns n = true) (hr : s.chip.root n = rsACTIVE) (hv : v.configured = true) (hp0 : p ≠ 0) (hp : p ≤ v.hubPorts)
    (hopen : v.pollOpen s.chip.frameMs p = true) :
    Runs (.hubStatusPoll n h p (some .overCurrent)) s (fun c => c.bit (.DROP_STATUS n) F.DROP_STATUS_OC_SEEN = true) := by
  have hexec : exec (.hubStatusPoll n h p (some .overCurrent)) s = execHubStatusPoll n h p (some .overCurrent) s := rfl
  obtain ⟨u, hu⟩ : ∃ u, s.chip.pollPort n h p = u := ⟨_, rfl⟩
  have huc : Canon u := hu ▸ ⟨hc.regs, hc.flash, hc.blocks⟩
  obtain ⟨w, hw⟩ : ∃ w, u.record (.DROP_STATUS n) F.DROP_STATUS_OC_SEEN = w := ⟨_, rfl⟩
  obtain ⟨hpond, hrd⟩ := evPortStatus_kept w n (routeChild h p) 1 0
  refine runs_of_runS_eq hexec (d := w.evPortStatus n (routeChild h p) 1 0) ?_ ?_ ?_
  · dsimp only
    rw [hh]
    dsimp only
    rw [if_neg (hubPoll_open hrun hr hv hp0 hp hopen), hu, hw]
  · rw [hpond, ← hw, ← hu]
    exact hg
  · rw [bit_of_rd hrd, ← hw]
    exact bit_record_same u huc _ _ (by decide) (by decide)

theorem runs_hubConnect {h : BitVec 20} {v : Dev} {p : Nat} {f g : Bool} (hg : s.chip.pond.grants = []) (hh : s.chip.dev? n h = some v)
    (hrun : s.chip.sofRuns n = true) (hr : s.chip.root n = rsACTIVE) (hv : v.configured = true) (hp0 : p ≠ 0) (hp : p ≤ v.hubPorts)
    (hopen : v.pollOpen s.chip.frameMs p = true) (hnone : s.chip.dev? n (routeChild h p) = none) (hq : (s.chip.ports[n]).drop.enumQ = [])
    (ha : s.chip.bit (.DROP_CTL n) F.DROP_CTL_AUTO_ENUM = false) :
    Runs (.hubStatusPoll n h p (some (.connect f g))) s (fun c => (c.dev? n (routeChild h p)).map (fun d => (d.speed, d.waits)) =
      some (if g then spHS else if f then spFS else spLS, true)) := by
  have hexec : exec (.hubStatusPoll n h p (some (.connect f g))) s = execHubStatusPoll n h p (some (.connect f g)) s := rfl
  obtain ⟨u, hu⟩ : ∃ u, s.chip.pollPort n h p = u := ⟨_, rfl⟩
  have hunone : (u.dev? n (routeChild h p)).isSome = false := by
    have hmap := pollPort_route (c := s.chip) (n := n) h p (routeChild h p)
    rw [hu, hnone] at hmap
    simpa using hmap
  obtain ⟨w, hw⟩ : ∃ w, u.putDev n (newDev (routeChild h p) (if g then spHS else if f then spFS else spLS) true) = w := ⟨_, rfl⟩
  have hwd : w.dev? n (routeChild h p) = some (newDev (routeChild h p) (if g then spHS else if f then spFS else spLS) true) := hw ▸ putDev_dev _ _ _
  have hwq : (w.ports[n]).drop.enumQ = [] := by
    rw [← hw, ← hu]
    unfold Chip.putDev Chip.pollPort Chip.updDev
    rw [updDrop_same, updDrop_same]
    exact hq
  have hk : Fr (keeping [.ports, .pond] []) w (w.evAttach n (routeChild h p) (if g then spHS else if f then spFS else spLS) rOK) :=
    Chip.evAttach_fr (Fr.refl _ w) (by simp)
  have hauto : u.bit (.DROP_CTL n) F.DROP_CTL_AUTO_ENUM = false := hu ▸ ha
  refine runs_of_runS_eq hexec (d := w.evAttach n (routeChild h p) (if g then spHS else if f then spFS else spLS) rOK) ?_ ?_ ?_
  · dsimp only
    rw [hh]
    dsimp only
    rw [if_neg (hubPoll_open hrun hr hv hp0 hp hopen), hu, hunone, if_neg (by decide)]
    unfold Chip.attachBelow
    dsimp only
    rw [hauto, Bool.not_false, hw, if_neg (by decide)]
    exact nextEnum_none (by rw [hk.kept.ports (by simp)]; exact hwq)
  · rw [hk.kept.pond (by simp), ← hw, ← hu]
    exact hg
  · have hdev : (w.evAttach n (routeChild h p) (if g then spHS else if f then spFS else spLS) rOK).dev? n (routeChild h p) = w.dev? n (routeChild h p) := by
      unfold Chip.dev?
      rw [hk.kept.ports (by simp)]
    rw [hdev, hwd]
    rfl


/-! ### Records that stay open too long (R203) -/

theorem runs_parison {k i : Nat} {t : Strm} {r : Rec} (hg : s.chip.pond.grants = []) (ht : s.chip.svc.streams.find? (fun t => t.id.toNat == k) = some t)
    (hr : t.recs[i]? = some r) (ho : r.st = .opened)
    (hlate : r.openedAt + ms (s.chip.getPos (.DROP_PARISON (Fin.ofNat 96 (r.src % 128))) F.DROP_PARISON_PARISON_MAX) < s.chip.clk.now) :
    Runs (.parisonTimeout k i) s (fun c => (c.svc.streams.find? (fun t => t.id.toNat == k)).map (·.recs) =
      some (t.recs.set i { r with st := .cullet, flags := r.flags ||| pfTIMEOUT })) := by
  have hexec : exec (.parisonTimeout k i) s = execParisonTimeout k i s := rfl
  have hid : t.id.toNat = k := by simpa using List.find?_some ht
  have hpred : (fun y : Strm => y.id == t.id) = (fun y => y.id.toNat == k) := by
    funext y
    rw [← hid, Bool.eq_iff_iff, beq_iff_eq, beq_iff_eq, BitVec.toNat_inj]
  obtain ⟨w, hw⟩ : ∃ w, s.chip.updStrm t.id (fun y => { y with recs := t.recs.set i { r with st := .cullet, flags := r.flags ||| pfTIMEOUT } }) = w := ⟨_, rfl⟩
  have hws : w.svc.streams.find? (fun t => t.id.toNat == k) = some { t with recs := t.recs.set i { r with st := .cullet, flags := r.flags ||| pfTIMEOUT } } := by
    rw [← hw]
    show (updFirst (fun y => y.id == t.id) _ s.chip.svc.streams).find? _ = _
    rw [hpred]
    exact find?_updFirst ht (by simpa using hid)
  have hk : ∀ e, Fr (keeping [.svc, .pond] []) w (w.post e) := fun e => fr_post w e (by simp)
  refine runs_of_runS_eq hexec (d := w.post (w.ev 0x0411 1 (Fin.ofNat 96 (r.src % 128)).val [k, (Fin.ofNat 96 (r.src % 128)).val])) ?_ ?_ ?_
  · dsimp only
    rw [ht]
    dsimp only
    rw [hr]
    dsimp only
    rw [if_pos ⟨ho, hlate⟩, hw]
  · rw [(hk _).kept.pond (by simp), ← hw]
    exact hg
  · rw [(hk _).kept.svc (by simp), hws]
    rfl

end

/-- Settles O23: suspend and resume by the channel's state, the boundary of a microframe by what its rounds keep (`MarkKept`), a bulk packet
by `epMoved_body`, hubs by their polls. -/
theorem dropTraffic : Obligations.DropTraffic := by
  unfold Obligations.DropTraffic
  intro s hc hg n hdrop
  exact ⟨fun hr hdue hl => runs_suspended hc hg hdrop hr hdue hl,
    fun a t hr ho ht hb => runs_overdraw hc hg hdrop hr ho ht hb,
    fun hr hz he hn => runs_remoteWake hc hg hdrop hr hz he hn,
    fun r h hon ht => driveK_drives hc h hon ht,
    fun hr hz he => runs_remoteWakeIgnored hc hg hdrop hr hz he,
    fun hr hdue => runs_resumeKDone hc hg hdrop hr hdue,
    fun hr hdue hl hq => runs_resumed hc hg hdrop hr hdue hl hq,
    fun hrun hz hm => runs_microframe hc hdrop hrun hz hm,
    fun r p d x b t hrun hr hs ht hd htt hx hin hep hb => runs_bulkMoved hg hrun hr hs ht hd htt hx hin hep hb,
    fun h v p f g hh hrun hr hv hp0 hp hopen hnone hq ha => runs_hubConnect hg hh hrun hr hv hp0 hp hopen hnone hq ha,
    fun h v p hh hrun hr hv hp0 hp hopen => runs_hubOverCurrent hc hg hh hrun hr hv hp0 hp hopen,
    fun k i t r ht hr ho hlate => runs_parison hg ht hr ho hlate⟩

end Sys2Proof.Proofs

namespace Sys2Proof.Proofs

open Sys2Proof.Machine Sys2Proof.Laws

/-! The opcodes of a drop (08, 09; R166 to R200). -/

section

variable {s : State} {c x : Chip} {n : Port} {q : ReqId} {e : ReqEntry}

/-! ### What a taken request sees -/

theorem taken_root (c : Chip) (q : ReqId) (n : Port) : (Taken c q).root n = c.root n := root_of_rd (taken_rd c q nofun)

theorem taken_drop (c : Chip) (q : ReqId) (n : Port) : ((Taken c q).ports[n]).drop = (c.ports[n]).drop := drop_of_ports (taken_ports c q) n

theorem taken_devState (c : Chip) (q : ReqId) (d : Dev) : (Taken c q).devState d = c.devState d := by simp [Chip.devState, Chip.devBody?]

theorem taken_stampBytes (c : Chip) (q : ReqId) (n : Port) : (Taken c q).stampBytes n = c.stampBytes n := by simp [Chip.stampBytes]

theorem taken_ep? (c : Chip) (q : ReqId) (i : Nat) (p : Byte) : (Taken c q).ep? i p = c.ep? i p := by simp [Chip.ep?, Chip.epsOf]

theorem answer_drop (c : Chip) (q : ReqId) (r : Nat) (l : List Nat) (k : Nat) (n : Port) : ((c.answer q r l k).ports[n]).drop = (c.ports[n]).drop :=
  drop_of_ports ((fr_answer (ps := [.ports]) (rs := []) c q r l k (by simp)).kept.ports (by simp)) n

theorem answer_root (c : Chip) (q : ReqId) (r : Nat) (l : List Nat) (k : Nat) (n : Port) : (c.answer q r l k).root n = c.root n :=
  root_of_rd ((fr_answer (ps := []) (rs := [.DROP_STATUS n]) c q r l k (by simp)).kept.regs _ (by simp))

/-- A request whose body changes the drop and answers. -/
theorem runs_dropAnswered {op : BitVec 16} {i : Instr} {body : Port → Chip → Chip} {p : Chip → Prop} {r k : Nat} {l : List Nat}
    (hg : s.chip.pond.grants = []) (h : ForPort s.chip q op n e) (hd : s.chip.isDrop n = true)
    (hi : exec i s = s.runS (fun c => c.serveDrop q op body)) (f : Drop → Drop)
    (hb : body n (Taken s.chip q) = ((Taken s.chip q).updDrop n f).answer q r l k)
    (hp : ∀ x, Answered x q e r l → (x.ports[n]).drop = f (s.chip.ports[n]).drop → x.root n = s.chip.root n → p x) : Runs i s p := by
  have hf : Fr (keeping [.reqs] []) (Taken s.chip q) ((Taken s.chip q).updDrop n f) := Chip.updDrop_fr (Fr.refl _ _) (by simp)
  refine runs_servedDrop h hd hi _ hb ?_ (hp _ (startable_answered h.can hf (by simp) r l k) ?_ ?_)
  · rw [(fr_answer (ps := [.pond]) (rs := []) _ q r l k (by simp)).kept.pond (by simp), updDrop_pond, taken_pond]
    exact hg
  · rw [answer_drop, updDrop_same, taken_drop]
  · rw [answer_root]
    exact taken_root s.chip q n

/-- A request whose body answers at once. -/
theorem runs_dropTold {op : BitVec 16} {i : Instr} {body : Port → Chip → Chip} {p : Chip → Prop} {r k : Nat} {l : List Nat}
    (hg : s.chip.pond.grants = []) (h : ForPort s.chip q op n e) (hd : s.chip.isDrop n = true)
    (hi : exec i s = s.runS (fun c => c.serveDrop q op body)) (hb : body n (Taken s.chip q) = (Taken s.chip q).answer q r l k)
    (hp : ∀ x, Answered x q e r l → (x.ports[n]).drop = (s.chip.ports[n]).drop → x.root n = s.chip.root n → p x) : Runs i s p := by
  refine runs_servedDrop h hd hi _ hb ?_ (hp _ (answered_taken h.can r l k) ?_ ?_)
  · rw [(fr_answer (ps := [.pond]) (rs := []) _ q r l k (by simp)).kept.pond (by simp), taken_pond]
    exact hg
  · rw [answer_drop, taken_drop]
  · rw [answer_root, taken_root]

/-! ### DROP_STATUS, DROP_TREE, DROP_SCHED_READ, SOF_STAMP_READ (R166, R170, R187, R200) -/

theorem runs_dropStatus (hg : s.chip.pond.grants = []) (hd : s.chip.isDrop n = true) (h : ForPort s.chip q 0x0401#16 n e) :
    Runs (.dropStatus q) s (fun c => Answered c q e rOK
      ([(s.chip.rd (.DROP_STATUS n)).toNat, (s.chip.rd (.DROP_SUSP n)).toNat] ++
        (s.chip.pond.waiters.findIdx? (fun w => w.who.port == n)).toList)) := by
  have hexec : exec (.dropStatus q) s = execDropStatus q s := rfl
  cases hw : s.chip.pond.waiters.findIdx? (fun w => w.who.port == n) with
  | none =>
    refine runs_dropTold hg h hd hexec (k := 8) ?_ fun x hx _ _ => hx
    dsimp only
    rw [taken_pond, hw, taken_rd _ _ (r := .DROP_STATUS n) nofun, taken_rd _ _ (r := .DROP_SUSP n) nofun]
    rfl
  | some k =>
    refine runs_dropTold hg h hd hexec (k := 10) ?_ fun x hx _ _ => hx
    dsimp only
    rw [taken_pond, hw, taken_rd _ _ (r := .DROP_STATUS n) nofun, taken_rd _ _ (r := .DROP_SUSP n) nofun]
    rfl

theorem runs_dropTree {f k : Nat} (hg : s.chip.pond.grants = []) (hd : s.chip.isDrop n = true) (h : ForPort s.chip q 0x0406#16 n e) (hk : k ≤ 8) :
    Runs (.dropTree q f k) s (fun c => Answered c q e rOK ((((s.chip.ports[n]).drop.devs.drop f).take k).flatMap (fun d =>
      [d.route.toNat, d.addr, d.speed, d.vid.toNat, d.pid.toNat, d.cid, d.gen.toNat, s.chip.devState d]))) := by
  have hexec : exec (.dropTree q f k) s = execDropTree q f k s := rfl
  refine runs_dropTold hg h hd hexec (k := 16 * (((s.chip.ports[n]).drop.devs.drop f).take k).length) ?_ fun x hx _ _ => hx
  simp only [taken_drop, taken_devState]
  exact if_neg (Nat.not_lt.2 hk)

theorem runs_dropSchedRead {f k : Nat} (hg : s.chip.pond.grants = []) (hd : s.chip.isDrop n = true) (h : ForPort s.chip q 0x040C#16 n e) (hk : k ≤ 8) :
    Runs (.dropSchedRead q f k) s (fun c => Answered c q e rOK ((((s.chip.ports[n]).drop.sched.drop f).take k).flatMap (fun x =>
      [x.route.toNat, x.ep.toNat, Nat.log2 (if x.tt.isSome then x.period / 8 else x.period), x.phase, x.cost]))) := by
  have hexec : exec (.dropSchedRead q f k) s = execDropSchedRead q f k s := rfl
  refine runs_dropTold hg h hd hexec (k := 12 * (((s.chip.ports[n]).drop.sched.drop f).take k).length) ?_ fun x hx _ _ => hx
  simp only [taken_drop]
  exact if_neg (Nat.not_lt.2 hk)

theorem runs_sofStampRead (hg : s.chip.pond.grants = []) (hd : s.chip.isDrop n = true) (h : ForPort s.chip q 0x040B#16 n e) :
    Runs (.sofStampRead q) s (fun c => Answered c q e rOK ((s.chip.stampBytes n).map (·.toNat))) := by
  have hexec : exec (.sofStampRead q) s = execSofStampRead q s := rfl
  refine runs_dropTold hg h hd hexec (k := 112) ?_ fun x hx _ _ => hx
  rw [taken_stampBytes]

/-! ### SOF_STAMP_OPEN and WEIR_SET (R192, R200) -/

theorem runs_sofStampOpen {i : Cid} {g : Byte} {v : Nat} {st : Strm} (hg : s.chip.pond.grants = []) (hd : s.chip.isDrop n = true)
    (h : ForPort s.chip q 0x040A#16 n e) (hst : s.chip.strmRef? i.toNat g = some st) (hdoor : st.door = q.door) (hv : v ≤ 65536) :
    Runs (.sofStampOpen q i g v) s (fun c => Answered c q e rOK [] ∧ ⟨i.toNat, g, if v = 0 then 8 else v⟩ ∈ (c.ports[n]).drop.stamps) := by
  have hexec : exec (.sofStampOpen q i g v) s = execSofStampOpen q i g v s := rfl
  refine runs_dropAnswered hg h hd hexec (r := rOK) (l := []) (k := 0)
    (fun d => { d with stamps := d.stamps.filter (fun x => !(x.cid == i.toNat && x.gen == g)) ++ [⟨i.toNat, g, if v = 0 then 8 else v⟩] }) ?_
    fun x hx hdrop _ => ⟨hx, ?_⟩
  · dsimp only
    rw [taken_strmRef?, hst]
    exact if_neg (by simp [hdoor, hv])
  · rw [hdrop]
    simp

theorem runs_weirSet {r : BitVec 20} {d : Dev} {p b w : Byte} {x : Nat × EpBody} (hg : s.chip.pond.grants = []) (hd : s.chip.isDrop n = true)
    (h : ForPort s.chip q 0x0409#16 n e) (hdev : s.chip.dev? n r = some d) (hx : s.chip.ep? d.cid p = some x) (hb : b ≠ 0#8) (hw : w ≠ 0#8) :
    Runs (.weirSet q r p b w) s (fun c => Answered c q e rOK [x.2.nakBudget, x.2.weight] ∧
      (c.ports[n]).drop.weirs = (s.chip.ports[n]).drop.weirs ++
        [{ epoch := (s.chip.ports[n]).epoch, cid := x.1, gen := (s.chip.ctx x.1).gen, budget := b.toNat, weight := w.toNat }]) := by
  have hexec : exec (.weirSet q r p b w) s = execWeirSet q r p b w s := rfl
  refine runs_dropAnswered hg h hd hexec (r := rOK) (l := [x.2.nakBudget, x.2.weight]) (k := 2) (fun d => { d with weirs := d.weirs ++
    [{ epoch := (s.chip.ports[n]).epoch, cid := x.1, gen := (s.chip.ctx x.1).gen, budget := b.toNat, weight := w.toNat }] }) ?_
    fun y hy hdrop _ => ⟨hy, ?_⟩
  · dsimp only
    rw [taken_dev?, hdev, Option.bind_some, taken_ep?, hx]
    dsimp only
    rw [if_neg (by simp [hb, hw]), taken_ctx, taken_ports]
  · rw [hdrop]

/-! ### DROP_SUSPEND and DROP_RESUME (R178, R179) -/

theorem runs_dropSuspend (hc : Canon s.chip) (hg : s.chip.pond.grants = []) (hd : s.chip.isDrop n = true) (h : ForPort s.chip q 0x0404#16 n e)
    (hr : s.chip.root n = rsACTIVE) : Runs (.dropSuspend q) s (fun c => c.root n = rsSUSPENDING ∧
      (c.ports[n]).drop.suspendReqs = (s.chip.ports[n]).drop.suspendReqs ++ [q]) := by
  have hexec : exec (.dropSuspend q) s = execDropSuspend q s := rfl
  refine runs_servedDrop h hd hexec (((Taken s.chip q).updDrop n (fun d => { d with suspendReqs := d.suspendReqs ++ [q] })).startSuspend n) ?_ ?_ ⟨?_, ?_⟩
  · dsimp only
    rw [taken_root]
    exact if_pos hr
  · unfold Chip.startSuspend
    rw [setRoot_pond]
    exact (congrArg Pond.grants (taken_pond s.chip q)).trans hg
  · exact root_setRoot (canon_updDrop (canon_updDrop (canon_taken hc q) _ _) _ _) n (by decide)
  · unfold Chip.startSuspend
    dsimp only
    rw [setRoot_ports, updDrop_same, updDrop_same, taken_drop]

theorem runs_dropSuspend_suspended (hg : s.chip.pond.grants = []) (hd : s.chip.isDrop n = true) (h : ForPort s.chip q 0x0404#16 n e)
    (hr : s.chip.root n = rsSUSPENDED) (hn : (s.chip.ports[n]).drop.resume = none) : Runs (.dropSuspend q) s (fun c => Answered c q e rOK []) := by
  have hexec : exec (.dropSuspend q) s = execDropSuspend q s := rfl
  refine runs_dropTold hg h hd hexec (r := rOK) (l := []) (k := 0) ?_ fun x hx _ _ => hx
  dsimp only
  rw [taken_root, taken_drop, hr, hn]
  rfl

theorem runs_dropResume (hg : s.chip.pond.grants = []) (hd : s.chip.isDrop n = true) (h : ForPort s.chip q 0x0405#16 n e)
    (hr : s.chip.root n = rsSUSPENDED) (hn : (s.chip.ports[n]).drop.resume = none) :
    Runs (.dropResume q) s (fun c => (c.ports[n]).drop.resume.map (fun r => (r.host, r.on, r.driveAt)) =
      some ([q], false, s.chip.clk.now + us 5)) := by
  have hexec : exec (.dropResume q) s = execDropResume q s := rfl
  refine runs_servedDrop h hd hexec ((Taken s.chip q).startResume n [q] false false) ?_ ((congrArg Pond.grants (taken_pond s.chip q)).trans hg) ?_
  · dsimp only
    rw [taken_root, taken_drop, hr, hn]
    rfl
  · unfold Chip.startResume
    dsimp only
    rw [updDrop_same, taken_clk]
    rfl

theorem runs_dropResume_active (hg : s.chip.pond.grants = []) (hd : s.chip.isDrop n = true) (h : ForPort s.chip q 0x0405#16 n e)
    (hr : s.chip.root n = rsACTIVE) : Runs (.dropResume q) s (fun c => Answered c q e rOK []) := by
  have hexec : exec (.dropResume q) s = execDropResume q s := rfl
  refine runs_dropTold hg h hd hexec (r := rOK) (l := []) (k := 0) ?_ fun x hx _ _ => hx
  dsimp only
  rw [taken_root]
  exact if_pos hr

theorem runs_dropResume_recovery (hg : s.chip.pond.grants = []) (hd : s.chip.isDrop n = true) (h : ForPort s.chip q 0x0405#16 n e)
    (hr : s.chip.root n = rsRECOVERY) : Runs (.dropResume q) s (fun c => Answered c q e rBAD_ARG [] ∧ c.root n = rsRECOVERY) := by
  have hexec : exec (.dropResume q) s = execDropResume q s := rfl
  refine runs_dropAnswered hg h hd hexec (r := rBAD_ARG) (l := []) (k := 0) (fun d => { d with diag := d.diag + 1 }) ?_
    fun x hx _ hroot => ⟨hx, hroot.trans hr⟩
  dsimp only
  rw [taken_root, hr, if_neg (by decide), if_neg (by decide), if_neg (by simp [rsRECOVERY, rsSUSPENDED]), if_neg (by decide)]
  rfl

/-! ### DROP_ENUMERATE and DROP_RESET (R167, R169 to R171) -/

theorem runs_dropEnumerate_root {k : BitVec 4} (hc : Canon s.chip) (hg : s.chip.pond.grants = []) (hd : s.chip.isDrop n = true)
    (h : ForPort s.chip q 0x0402#16 n e) (hr : s.chip.root n = rsDEFAULT) (hn : (s.chip.ports[n]).drop.enum = none) :
    Runs (.dropEnumerate q 0#20 k) s (fun c => c.root n = rsENUMERATING ∧
      (c.ports[n]).drop.enum.map (fun x => (x.route, x.step, x.configSel, x.req)) = some (0#20, 1, k.toNat, some q)) := by
  have hexec : exec (.dropEnumerate q 0#20 k) s = execDropEnumerate q 0#20 k s := rfl
  obtain ⟨hroot, -, henum, hpond⟩ := startEnum_root (canon_taken hc q) n k.toNat ((Taken s.chip q).recoveryLeft n) 0 (some q)
  refine runs_servedDrop h hd hexec ((Taken s.chip q).startEnum n 0#20 k.toNat ((Taken s.chip q).recoveryLeft n) 0 (some q)) ?_ ?_ ⟨hroot, henum⟩
  · dsimp only
    rw [if_pos (by rfl), taken_root, if_pos hr, taken_drop, hn]
  · rw [hpond, taken_pond]
    exact hg

/-- A queue of one is served at once on a bus at work. -/
theorem nextEnum_one {r : BitVec 20} {k : Nat} {v : Option ReqId} (he : (c.ports[n]).drop.enum = none) (hq : (c.ports[n]).drop.enumQ = [(r, k, v)])
    (hr : c.root n = rsACTIVE) : c.nextEnum n = (c.updDrop n (fun d => { d with enumQ := [] })).startEnum n r k (ms 10) 0 v := by
  unfold Chip.nextEnum
  dsimp only
  rw [he, hq]
  exact if_pos hr

theorem runs_dropEnumerate_below {r : BitVec 20} {d : Dev} {k : BitVec 4} (hg : s.chip.pond.grants = []) (hd : s.chip.isDrop n = true)
    (h : ForPort s.chip q 0x0402#16 n e) (hne : r ≠ 0#20) (hdev : s.chip.dev? n r = some d) (hw : d.waits = true) (hr : s.chip.root n = rsACTIVE)
    (hn : (s.chip.ports[n]).drop.enum = none) (hq : (s.chip.ports[n]).drop.enumQ = []) :
    Runs (.dropEnumerate q r k) s (fun c => (c.ports[n]).drop.enum.map (fun x => (x.route, x.step, x.configSel, x.req)) =
      some (r, 1, k.toNat, some q)) := by
  have hexec : exec (.dropEnumerate q r k) s = execDropEnumerate q r k s := rfl
  obtain ⟨u, hu⟩ : ∃ u, ((Taken s.chip q).updDev n r (fun d => { d with waits := false })).updDrop n (fun d =>
    { d with enumQ := d.enumQ ++ [(r, k.toNat, some q)] }) = u := ⟨_, rfl⟩
  have hud : (u.ports[n]).drop.enum = none ∧ (u.ports[n]).drop.enumQ = [(r, k.toNat, some q)] := by
    rw [← hu]
    unfold Chip.updDev
    rw [updDrop_same, updDrop_same, taken_drop]
    refine ⟨hn, ?_⟩
    dsimp only
    rw [hq]
    rfl
  have hur : u.root n = rsACTIVE := by
    rw [← hu]
    exact (taken_root s.chip q n).trans hr
  have hup : u.pond.grants = [] := by
    rw [← hu]
    exact (congrArg Pond.grants (taken_pond s.chip q)).trans hg
  obtain ⟨henum, hpond, -⟩ := startEnum_below hne (u.updDrop n (fun d => { d with enumQ := [] })) n k.toNat (ms 10) 0 (some q)
  refine runs_servedDrop h hd hexec (u.nextEnum n) ?_ ?_ ?_
  · dsimp only
    rw [if_neg hne, taken_dev?, hdev, Option.any_some, hw, if_pos rfl, hu]
  · rw [nextEnum_one hud.1 hud.2 hur, hpond]
    exact hup
  · rw [nextEnum_one hud.1 hud.2 hur]
    exact henum

theorem runs_dropEnumerate_refused {k : BitVec 4} (hg : s.chip.pond.grants = []) (hd : s.chip.isDrop n = true)
    (h : ForPort s.chip q 0x0402#16 n e) (hr : s.chip.root n = rsACTIVE) :
    Runs (.dropEnumerate q 0#20 k) s (fun c => Answered c q e rBAD_ARG [] ∧ c.root n = rsACTIVE) := by
  have hexec : exec (.dropEnumerate q 0#20 k) s = execDropEnumerate q 0#20 k s := rfl
  refine runs_dropAnswered hg h hd hexec (r := rBAD_ARG) (l := []) (k := 0) (fun d => { d with diag := d.diag + 1 }) ?_
    fun x hx _ hroot => ⟨hx, hroot.trans hr⟩
  dsimp only
  rw [if_pos (by rfl), taken_root, hr, if_neg (by decide), if_neg (by decide)]
  rfl

theorem dropAnswerAll_devs (c : Chip) (n : Port) (r : Nat) : ((c.dropAnswerAll n r).ports[n]).drop.devs = (c.ports[n]).drop.devs := by
  unfold Chip.dropAnswerAll
  dsimp only
  rw [drop_of_ports ((answers_kept (n := n) _ _ _).kept.ports (by simp)), updDrop_same]

theorem runs_dropReset (hc : Canon s.chip) (hg : s.chip.pond.grants = []) (hd : s.chip.isDrop n = true) (h : ForPort s.chip q 0x0403#16 n e)
    (hw : s.chip.pond.waiters = []) (hb : s.chip.pond.rebuild = false) (hr : s.chip.root n = rsACTIVE) :
    Runs (.dropReset q 0#20) s (fun c => c.root n = rsRESETTING ∧ (c.ports[n]).drop.devs.all (fun d => d.route != 0#20) = true) := by
  have hexec : exec (.dropReset q 0#20) s = execDropReset q 0#20 s := rfl
  have hnone : NoneWait (Taken s.chip q) := noneWait_of_pond ⟨hw, hg⟩ (taken_pond s.chip q)
  have hdevs := detach_none hnone n ubDETACH
  have hleft := (detach_left hnone n 0#20 ubDETACH).1
  have hk : Canon ((Taken s.chip q).detach n 0#20 ubDETACH) := (detach_kept _ n 0#20 ubDETACH).canon (canon_taken hc q)
  obtain ⟨u, hu⟩ : ∃ u, (Taken s.chip q).detach n 0#20 ubDETACH = u := ⟨_, rfl⟩
  rw [hu] at hdevs hleft hk
  obtain ⟨v, hv⟩ : ∃ v, (u.dropAnswerAll n rTIMEOUT).updDrop n (fun d => { d with byPower := false, overdrawAt := none }) = v := ⟨_, rfl⟩
  have hkv : Fr (keeping [] []) u v := by
    rw [← hv]
    refine Chip.updDrop_fr (Chip.dropAnswerAll_fr (Fr.refl _ u) ?_ ?_ ?_ ?_ ?_) ?_ <;> simp
  have hvd : (v.ports[n]).drop.devs = [] := by
    rw [← hv, updDrop_same]
    exact (dropAnswerAll_devs u n rTIMEOUT).trans hdevs
  have hvp : v.pond = u.pond := by
    rw [← hv]
    exact dropAnswerAll_pond u n rTIMEOUT
  obtain ⟨hroot, -, hsd, hsp⟩ := startReset_state (hkv.canon hk) n
  refine runs_of_runS_eq hexec (d := (v.startReset n).answer q rOK) ?_ ?_ ⟨?_, ?_⟩
  · refine (if_neg (by rw [hb]; decide)).trans ((serveDrop_start h hd _).trans ?_)
    dsimp only
    rw [if_pos (by rfl), taken_root, hr, if_neg (by decide), if_pos (by decide), hu, if_neg (by decide), hv]
  · rw [(fr_answer (ps := [.pond]) (rs := []) _ q _ _ _ (by simp)).kept.pond (by simp), hsp, hvp]
    exact hleft.2
  · rw [answer_root]
    exact hroot
  · rw [answer_drop, hsd, hvd]
    rfl

/-! ### DROP_SET (R166, R197) -/

/-- DROP_CTL stores its fields as they are written, but a SPEED_MAX with no meaning as 0. -/
theorem normWord_dropCtl (n : Port) (w : Word) : (∀ f : Field, f.hi < 32 → F.DROP_CTL_SPEED_MAX.hi < f.lo ∨ f.hi < F.DROP_CTL_SPEED_MAX.lo →
    fget (normWord (.DROP_CTL n) w) f = fget w f) ∧
    fget (normWord (.DROP_CTL n) w) F.DROP_CTL_SPEED_MAX = if fget w F.DROP_CTL_SPEED_MAX < 2 then fget w F.DROP_CTL_SPEED_MAX else 0 := by
  have he : normWord (.DROP_CTL n) w = if 2 ≤ fget w F.DROP_CTL_SPEED_MAX then fset w F.DROP_CTL_SPEED_MAX 0 else w := rfl
  rw [he]
  by_cases hm : 2 ≤ fget w F.DROP_CTL_SPEED_MAX
  · rw [if_pos hm, if_neg (Nat.not_lt.2 hm)]
    exact ⟨fun f hf ho => fget_fset_other _ _ _ _ (by decide) hf ho, fget_fset_same _ _ _ (by decide)⟩
  · rw [if_neg hm, if_pos (Nat.not_le.1 hm)]
    exact ⟨fun f _ _ => rfl, rfl⟩

/-- The word that DROP_SET writes into DROP_CTL. -/
def dropSetWord (x : Word) (a w : Bool) (m r : BitVec 2) (g : BitVec 4) : Word :=
  fset (fset (fset (fset (fset x F.DROP_CTL_AUTO_ENUM (bitOf a)) F.DROP_CTL_RWAKE_EN (bitOf w)) F.DROP_CTL_SPEED_MAX m.toNat)
    F.DROP_CTL_CONFIG_SEL g.toNat) F.DROP_CTL_ENUM_RETRY r.toNat

theorem dropSetWord_fields (x : Word) (a w : Bool) (m r : BitVec 2) (g : BitVec 4) :
    fget (dropSetWord x a w m r g) F.DROP_CTL_AUTO_ENUM = bitOf a ∧ fget (dropSetWord x a w m r g) F.DROP_CTL_RWAKE_EN = bitOf w ∧
    fget (dropSetWord x a w m r g) F.DROP_CTL_SPEED_MAX = m.toNat ∧ fget (dropSetWord x a w m r g) F.DROP_CTL_CONFIG_SEL = g.toNat ∧
    fget (dropSetWord x a w m r g) F.DROP_CTL_ENUM_RETRY = r.toNat := by
  have hother : ∀ (y : Word) (f h : Field) (v : Nat), Field.fits f → h.hi < 32 → (f.hi < h.lo ∨ h.hi < f.lo) → fget (fset y f v) h = fget y h :=
    fun y f h v => fget_fset_other y f h v
  unfold dropSetWord
  refine ⟨?_, ?_, ?_, ?_, ?_⟩
  · rw [hother _ _ _ _ (by decide) (by decide) (by decide), hother _ _ _ _ (by decide) (by decide) (by decide),
      hother _ _ _ _ (by decide) (by decide) (by decide), hother _ _ _ _ (by decide) (by decide) (by decide), fget_fset_same _ _ _ (by decide)]
    cases a <;> rfl
  · rw [hother _ _ _ _ (by decide) (by decide) (by decide), hother _ _ _ _ (by decide) (by decide) (by decide),
      hother _ _ _ _ (by decide) (by decide) (by decide), fget_fset_same _ _ _ (by decide)]
    cases w <;> rfl
  · rw [hother _ _ _ _ (by decide) (by decide) (by decide), hother _ _ _ _ (by decide) (by decide) (by decide), fget_fset_same _ _ _ (by decide)]
    exact Nat.mod_eq_of_lt m.isLt
  · rw [hother _ _ _ _ (by decide) (by decide) (by decide), fget_fset_same _ _ _ (by decide)]
    exact Nat.mod_eq_of_lt g.isLt
  · rw [fget_fset_same _ _ _ (by decide)]
    exact Nat.mod_eq_of_lt r.isLt

theorem bit_of_get {r : Reg} {f : Field} {b : Bool} (h : c.get r f = bitOf b) : c.bit r f = b := by
  rw [Chip.bit, h]
  cases b <;> rfl

theorem dropCtl_mask (n : Port) : (Reg.DROP_CTL n).rwMask = (Reg.DROP_CTL 0).rwMask := rfl

/-- DROP_SET's write of DROP_CTL leaves its fields so. -/
theorem dropSet_ctl (hc : Canon c) (n : Port) (x : Word) (a w : Bool) (m r : BitVec 2) (g : BitVec 4) :
    (c.wrRW (.DROP_CTL n) (dropSetWord x a w m r g)).bit (.DROP_CTL n) F.DROP_CTL_AUTO_ENUM = a ∧
    (c.wrRW (.DROP_CTL n) (dropSetWord x a w m r g)).bit (.DROP_CTL n) F.DROP_CTL_RWAKE_EN = w ∧
    (c.wrRW (.DROP_CTL n) (dropSetWord x a w m r g)).get (.DROP_CTL n) F.DROP_CTL_SPEED_MAX = (if m.toNat < 2 then m.toNat else 0) ∧
    (c.wrRW (.DROP_CTL n) (dropSetWord x a w m r g)).get (.DROP_CTL n) F.DROP_CTL_CONFIG_SEL = g.toNat ∧
    (c.wrRW (.DROP_CTL n) (dropSetWord x a w m r g)).get (.DROP_CTL n) F.DROP_CTL_ENUM_RETRY = r.toNat := by
  obtain ⟨ha, hw, hm, hg, hr⟩ := dropSetWord_fields x a w m r g
  obtain ⟨hother, hspeed⟩ := normWord_dropCtl n ((c.rd (.DROP_CTL n) &&& ~~~(Reg.DROP_CTL n).rwMask) ||| (dropSetWord x a w m r g &&& (Reg.DROP_CTL n).rwMask))
  have hget : ∀ f, (c.wrRW (.DROP_CTL n) (dropSetWord x a w m r g)).get (.DROP_CTL n) f = fget (normWord (.DROP_CTL n)
      ((c.rd (.DROP_CTL n) &&& ~~~(Reg.DROP_CTL n).rwMask) ||| (dropSetWord x a w m r g &&& (Reg.DROP_CTL n).rwMask))) f := fun f => by
    rw [Chip.get, rd_wrRW_same hc]
  refine ⟨bit_of_get ?_, bit_of_get ?_, ?_, ?_, ?_⟩
  · rw [hget, hother _ (by decide) (by decide), fget_merge_mask _ _ _ _ (by decide) (by rw [dropCtl_mask]; decide), ha]
  · rw [hget, hother _ (by decide) (by decide), fget_merge_mask _ _ _ _ (by decide) (by rw [dropCtl_mask]; decide), hw]
  · rw [hget, hspeed, fget_merge_mask _ _ _ _ (by decide) (by rw [dropCtl_mask]; decide), hm]
  · rw [hget, hother _ (by decide) (by decide), fget_merge_mask _ _ _ _ (by decide) (by rw [dropCtl_mask]; decide), hg]
  · rw [hget, hother _ (by decide) (by decide), fget_merge_mask _ _ _ _ (by decide) (by rw [dropCtl_mask]; decide), hr]

/-- A drop that begins to enumerate by itself keeps its settings and its doors. -/
theorem autoEnum_kept (c : Chip) (n : Port) : Fr (keeping [.doors, .pond] [.DROP_CTL n, .DROP_SUSP n]) c (c.autoEnum n) := by
  apply Chip.autoEnum_fr (Fr.refl _ c) <;> simp

theorem runs_dropSet {a w : Bool} {m r : BitVec 2} {g : BitVec 4} {b : BitVec 12} (hc : Canon s.chip) (hg : s.chip.pond.grants = [])
    (hd : s.chip.isDrop n = true) (h : ForPort s.chip q 0x0407#16 n e) (hf : s.chip.frozen = false) :
    Runs (.dropSet q a w m g r b) s (fun c =>
      Answered c q e rOK [(s.chip.rd (.DROP_CTL n)).toNat, s.chip.get (.DROP_SUSP n) F.DROP_SUSP_SUSP_BUDGET] ∧
      c.bit (.DROP_CTL n) F.DROP_CTL_AUTO_ENUM = a ∧ c.bit (.DROP_CTL n) F.DROP_CTL_RWAKE_EN = w ∧
      c.get (.DROP_CTL n) F.DROP_CTL_SPEED_MAX = (if m.toNat < 2 then m.toNat else 0) ∧
      c.get (.DROP_CTL n) F.DROP_CTL_CONFIG_SEL = g.toNat ∧ c.get (.DROP_CTL n) F.DROP_CTL_ENUM_RETRY = r.toNat ∧
      c.get (.DROP_SUSP n) F.DROP_SUSP_SUSP_BUDGET = b.toNat) := by
  have hexec : exec (.dropSet q a w m g r b) s = execDropSet q a w m g r b s := rfl
  have hctl := dropSet_ctl (canon_taken hc q) n (s.chip.rd (.DROP_CTL n)) a w m r g
  obtain ⟨u, hu⟩ : ∃ u, (Taken s.chip q).wrRW (.DROP_CTL n) (dropSetWord (s.chip.rd (.DROP_CTL n)) a w m r g) = u := ⟨_, rfl⟩
  rw [hu] at hctl
  have hk1 : Fr (keeping [.reqs, .pond] []) (Taken s.chip q) u := hu ▸ Chip.wrRW_fr (Fr.refl _ _) (by simp) (by simp)
  have huc : Canon u := hk1.canon (canon_taken hc q)
  obtain ⟨v, hv⟩ : ∃ v, u.setRW (.DROP_SUSP n) F.DROP_SUSP_SUSP_BUDGET b.toNat = v := ⟨_, rfl⟩
  have hk2 : Fr (keeping [.reqs, .pond] [.DROP_CTL n]) u v := hv ▸ setRW_fr' _ _ _ _ (by simp) (by simp)
  have hk2' : Fr (keeping [.reqs, .pond] []) u v := hv ▸ setRW_fr' _ _ _ _ (by simp) (by simp)
  have hbudget : v.get (.DROP_SUSP n) F.DROP_SUSP_SUSP_BUDGET = b.toNat := by
    rw [Chip.get, ← hv, setRW_rd_same huc]
    exact (fget_fset_same _ _ _ (by decide)).trans (Nat.mod_eq_of_lt b.isLt)
  have hans : Answered (v.answer q rOK [(s.chip.rd (.DROP_CTL n)).toNat, s.chip.get (.DROP_SUSP n) F.DROP_SUSP_SUSP_BUDGET] 6) q e rOK
      [(s.chip.rd (.DROP_CTL n)).toNat, s.chip.get (.DROP_SUSP n) F.DROP_SUSP_SUSP_BUDGET] :=
    startable_answered h.can (fr_trans hk1 hk2') (by simp) _ _ _
  obtain ⟨y, hy⟩ : ∃ y, v.answer q rOK [(s.chip.rd (.DROP_CTL n)).toNat, s.chip.get (.DROP_SUSP n) F.DROP_SUSP_SUSP_BUDGET] 6 = y := ⟨_, rfl⟩
  have hk3 : Fr (keeping [.pond] [.DROP_CTL n, .DROP_SUSP n]) v y := hy ▸ fr_answer _ _ _ _ _ (by simp)
  rw [hy] at hans
  have hauto := autoEnum_kept y n
  obtain ⟨z, hz⟩ : ∃ z, (if (Taken s.chip q).bit (.DROP_CTL n) F.DROP_CTL_AUTO_ENUM then y else y.autoEnum n) = z := ⟨_, rfl⟩
  have hk4 : Fr (keeping [.doors, .pond] [.DROP_CTL n, .DROP_SUSP n]) y z := by
    rw [← hz]
    split
    · exact Fr.refl _ y
    · exact hauto
  have hrd : z.rd (.DROP_CTL n) = u.rd (.DROP_CTL n) :=
    (hk4.kept.regs _ (by simp)).trans ((hk3.kept.regs _ (by simp)).trans (hk2.kept.regs _ (by simp)))
  have hrs : z.rd (.DROP_SUSP n) = v.rd (.DROP_SUSP n) := (hk4.kept.regs _ (by simp)).trans (hk3.kept.regs _ (by simp))
  obtain ⟨ha, hw, hm, hcs, hr⟩ := hctl
  refine runs_servedDrop h hd hexec z ?_ ?_ ⟨(AnsKept.of_doors (hk4.kept.doors (by simp))).answered hans, (bit_of_rd hrd _).trans ha,
    (bit_of_rd hrd _).trans hw, (get_of_rd hrd _).trans hm, (get_of_rd hrd _).trans hcs, (get_of_rd hrd _).trans hr, (get_of_rd hrs _).trans hbudget⟩
  · dsimp only
    rw [taken_frozen, hf, if_neg (by decide), ← hz, ← hy, ← hv, ← hu, taken_rd _ _ (r := .DROP_CTL n) nofun, taken_get _ _ (r := .DROP_SUSP n) _ nofun]
    rfl
  · rw [hk4.kept.pond (by simp), hk3.kept.pond (by simp), hk2.kept.pond (by simp), hk1.kept.pond (by simp), taken_pond]
    exact hg

/-! ### DROP_CONTROL (R197) -/

theorem ctlArgs_ok {d : Dev} {u o : List Byte} (hcfg : d.configured = true) (hu : u.length = 8) (ho : o.length ≤ 32) :
    ¬ (!d.configured || u.length != 8 || 32 < o.length) = true := by
  simp [hcfg, hu, ho]

theorem runs_dropControl {r : BitVec 20} {d : Dev} {u o : List Byte} {t : Nat} (hg : s.chip.pond.grants = []) (hd : s.chip.isDrop n = true)
    (h : ForPort s.chip q 0x0408#16 n e) (hdev : s.chip.dev? n r = some d) (hcfg : d.configured = true) (hu : u.length = 8) (ho : o.length ≤ 32)
    (hok : refusedCtl d.hub u = none) (hres : (resyncOf u).sets = false) :
    Runs (.dropControl q r u t o) s (fun c => (c.ports[n]).drop.ctls = (s.chip.ports[n]).drop.ctls ++
      [{ route := r, by_ := .door q, setup := u, out := o, span := ms t, deadline := s.chip.clk.now + ms t }]) := by
  have hexec : exec (.dropControl q r u t o) s = execDropControl q r u t o s := rfl
  obtain ⟨w, hw⟩ : ∃ w, (Taken s.chip q).updDrop n (fun x => { x with runs := x.runs.map (fun y =>
    if y.route = r ∧ y.ep.toNat % 16 = 0 then { y with stopped := false } else y) }) = w := ⟨_, rfl⟩
  have hwk : w.clk = s.chip.clk ∧ w.pond = s.chip.pond := by
    rw [← hw]
    exact ⟨taken_clk s.chip q, taken_pond s.chip q⟩
  refine runs_of_runS_eq hexec (d := w.pushCtl n { route := r, by_ := .door q, setup := u, out := o, span := ms t, deadline := s.chip.clk.now + ms t })
    ?_ ((congrArg Pond.grants hwk.2).trans hg) ?_
  · refine (if_neg (by rw [hres]; simp)).trans ((serveDrop_start h hd _).trans ?_)
    dsimp only
    rw [taken_dev?, hdev]
    dsimp only
    rw [if_neg (ctlArgs_ok hcfg hu ho), hok]
    dsimp only
    rw [hw]
    unfold Chip.ctlStart
    dsimp only
    rw [hres, if_neg (by decide), hwk.1]
  · unfold Chip.pushCtl
    rw [updDrop_same, ← hw, updDrop_same, taken_drop]

theorem runs_dropControl_refused {r : BitVec 20} {d : Dev} {u o : List Byte} {t v : Nat} (hg : s.chip.pond.grants = []) (hd : s.chip.isDrop n = true)
    (h : ForPort s.chip q 0x0408#16 n e) (hdev : s.chip.dev? n r = some d) (hcfg : d.configured = true) (hu : u.length = 8) (ho : o.length ≤ 32)
    (hno : refusedCtl d.hub u = some v) (hb : s.chip.pond.rebuild = false) :
    Runs (.dropControl q r u t o) s (fun c => Answered c q e v [] ∧ (c.ports[n]).drop.ctls = (s.chip.ports[n]).drop.ctls) := by
  have hexec : exec (.dropControl q r u t o) s = execDropControl q r u t o s := rfl
  refine runs_of_runS_eq hexec (d := (Taken s.chip q).answer q v) ?_ ?_ ⟨answered_taken h.can v [] 0, ?_⟩
  · refine (if_neg (by rw [hb]; simp)).trans ((serveDrop_start h hd _).trans ?_)
    dsimp only
    rw [taken_dev?, hdev]
    dsimp only
    rw [if_neg (ctlArgs_ok hcfg hu ho), hno]
  · rw [(fr_answer (ps := [.pond]) (rs := []) _ q _ _ _ (by simp)).kept.pond (by simp), taken_pond]
    exact hg
  · rw [answer_drop, taken_drop]

end

/-- Settles O21: each opcode is served on the taken request (`runs_dropAnswered`); DROP_RESET by what a tree that leaves leaves behind,
DROP_SET by the fields of the word it writes. -/
theorem dropRequests : Obligations.DropRequests := by
  unfold Obligations.DropRequests
  intro s hc hg q n e hd
  exact ⟨fun h => runs_dropStatus hg hd h,
    fun k h hr hn => runs_dropEnumerate_root hc hg hd h hr hn,
    fun r d k h hne hdev hw hr hn hq => runs_dropEnumerate_below hg hd h hne hdev hw hr hn hq,
    fun k h hr => runs_dropEnumerate_refused hg hd h hr,
    fun h hw hb hr => runs_dropReset hc hg hd h hw hb hr,
    fun h hr => runs_dropSuspend hc hg hd h hr,
    fun h hr hn => runs_dropSuspend_suspended hg hd h hr hn,
    fun h hr hn => runs_dropResume hg hd h hr hn,
    fun h hr => runs_dropResume_active hg hd h hr,
    fun h hr => runs_dropResume_recovery hg hd h hr,
    fun f k h hk => runs_dropTree hg hd h hk,
    fun a w m g r b h hf => runs_dropSet hc hg hd h hf,
    fun r d u t o h hdev hcfg hu ho hok hres => runs_dropControl hg hd h hdev hcfg hu ho hok hres,
    fun r d u t o v h hdev hcfg hu ho hno hb => runs_dropControl_refused hg hd h hdev hcfg hu ho hno hb,
    fun r d p b w x h hdev hx hb hw => runs_weirSet hg hd h hdev hx hb hw,
    fun i g v st h hst hdoor hv => runs_sofStampOpen hg hd h hst hdoor hv,
    fun h => runs_sofStampRead hg hd h,
    fun f k h hk => runs_dropSchedRead hg hd h hk⟩

end Sys2Proof.Proofs

namespace Sys2Proof.Proofs

open Sys2Proof.Machine Sys2Proof.Laws

/-! One tick with no command waiting (12 R246; log entry 2). -/

section

variable {c x y : Chip}

/-! ### What keeps the counts -/

/-- TIME, whether it runs, and elapsed time. -/
def ClockKept (c x : Chip) : Prop := x.sei.time = c.sei.time ∧ x.sei.running = c.sei.running ∧ x.clk.now = c.clk.now

theorem ClockKept.refl (c : Chip) : ClockKept c c := ⟨rfl, rfl, rfl⟩

theorem ClockKept.trans (h : ClockKept c x) (k : ClockKept x y) : ClockKept c y :=
  ⟨k.1.trans h.1, k.2.1.trans h.2.1, k.2.2.trans h.2.2⟩

theorem ClockKept.of_eq (hs : x.sei = c.sei) (hn : x.clk.now = c.clk.now) : ClockKept c x := ⟨by rw [hs], by rw [hs], hn⟩

theorem ClockKept.of_fr (h : Fr (keeping [.sei, .clk] []) c x) : ClockKept c x := .of_eq (h.kept.sei (by simp)) (congrArg Clk.now (h.kept.clk (by simp)))

/-- The balls alone of the clocks' part. -/
theorem ClockKept.of_core (h : Fr (keeping [.sei] []) c x) (k : CoreKept c x) : ClockKept c x := .of_eq (h.kept.sei (by simp)) k.now

theorem ClockKept.each {α : Type} {g : Chip → α → Chip} (h : ∀ c a, ClockKept c (g c a)) : ∀ (l : List α) (c : Chip), ClockKept c (c.each l g)
  | [], _ => .refl _
  | a :: l, c => (h c a).trans (ClockKept.each h l _)

theorem updBelt_clock (c : Chip) (b : Belt) (f : BeltSt → BeltSt) : ClockKept c (c.updBelt b f) := ⟨rfl, rfl, rfl⟩

theorem setSt_clock (c : Chip) (r : Reg) (f : Field) (v : Nat) : ClockKept c (c.setSt r f v) :=
  .of_fr (by apply Chip.setSt_fr (Fr.refl _ c); simp)

theorem updClk_clock (c : Chip) {f : Clk → Clk} (h : ∀ k, (f k).now = k.now) : ClockKept c (c.updClk f) := ⟨rfl, rfl, h _⟩

theorem balls_clock (c : Chip) : ClockKept c c.balls :=
  .of_core (by apply Chip.balls_fr (Fr.refl _ c); simp) (balls_clkCore c)

/-! ### Belts (R248 to R253) -/

theorem unloadBelt_clock (c : Chip) (b : Belt) : ClockKept c (c.unloadBelt b) := by
  unfold Chip.unloadBelt
  extract_lets out u
  have h : ClockKept c u := updBelt_clock _ _ _
  have hm : ClockKept u (u.each out (fun c s => c.mstate s.cid s.gen msPENDING)) :=
    ClockKept.each (fun d s => .of_fr (by apply Chip.mstate_fr (Fr.refl _ d) <;> simp)) _ _
  exact (h.trans hm).trans (.of_fr (by apply Chip.syncArmed_fr (Fr.refl _ _); simp))

theorem stopBelt_clock (c : Chip) (b : Belt) : ClockKept c (c.stopBelt b) := by
  unfold Chip.stopBelt
  have h : ClockKept c (c.wr (.BELT_RATE b) 0#32) := ⟨rfl, rfl, rfl⟩
  exact (h.trans (setSt_clock _ _ _ _)).trans (updBelt_clock _ _ _)

theorem beltCtl_clock (c : Chip) (b : Belt) (old : Word) : ClockKept c (c.beltCtl b old) := by
  unfold Chip.beltCtl
  extract_lets en was u v
  have hu : ClockKept c u := by
    unfold u
    split
    · exact (stopBelt_clock c b).trans (unloadBelt_clock _ b)
    · exact .refl _
  have hv : ClockKept u v := by
    unfold v
    split
    · exact updBelt_clock _ _ _
    · exact .refl _
  split
  · exact (hu.trans hv).trans (updBelt_clock _ _ _)
  · exact hu.trans hv

theorem setBeltPos_clock (c : Chip) (b : Belt) (p : Pos) : ClockKept c (c.setBeltPos b p) := by
  unfold Chip.setBeltPos
  extract_lets old u now v w late gone
  have hv : ClockKept c v := (unloadBelt_clock c b).trans (updBelt_clock _ _ _)
  have hw : ClockKept v w := setSt_clock v _ _ _
  exact (hv.trans hw).trans (ClockKept.each (fun d a => .of_fr (by apply Chip.expire_fr (Fr.refl _ d) <;> simp)) _ _)

theorem answer_clock (c : Chip) (q : ReqId) (r : Nat) : ClockKept c (c.answer q r) := .of_fr (fr_answer c q r [] 0 (by simp))

theorem zTake_clock (c : Chip) (b : Belt) : ClockKept c (c.zTake b) := by
  unfold Chip.zTake
  extract_lets ps u
  have hu : ClockKept c u := ClockKept.each (fun d (p : Pos × ReqId) => (setBeltPos_clock d b p.1).trans (answer_clock _ _ _)) _ _
  have hz : ∀ d : Chip, ClockKept d (d.zCheck b) := fun d => by
    rcases zCheck_cases d b with h | ⟨r, h⟩ | ⟨e, h⟩
    · rw [h]
      exact .refl _
    · rw [h]
      exact updBelt_clock _ _ _
    · rw [h]
      exact .of_fr (by refine Chip.post_fr (Chip.record_fr (Fr.refl _ d) ?_) ?_ <;> simp)
  exact (hu.trans (updBelt_clock u b _)).trans (hz _)

theorem zTakeAll_clock (c : Chip) : ClockKept c c.zTakeAll ∧ c.zTakeAll.pwr = c.pwr := by
  have h : Fr (keeping [.pwr] []) c c.zTakeAll := by apply Chip.zTakeAll_fr (Fr.refl _ c) <;> simp
  exact ⟨ClockKept.each zTake_clock _ c, h.kept.pwr (by simp)⟩

/-! ### What a written register starts (R71, R73) -/

theorem refSlew_clock (c : Chip) : ClockKept c c.refSlew := by
  unfold Chip.refSlew
  split
  · exact .refl _
  · exact updClk_clock c (by intro; rfl)

theorem settleUncert_clock (c : Chip) : ClockKept c c.settleUncert := ⟨rfl, rfl, rfl⟩

theorem clkCtl_clock (c : Chip) (old : Word) : ClockKept c (c.clkCtl old) := by
  unfold Chip.clkCtl
  extract_lets en lock newly u now v frc w z
  have hv : ClockKept u v := by
    unfold v
    split
    · exact updClk_clock u (by intro; rfl)
    · exact .refl _
  have hw : ClockKept c w := ((setSt_clock c _ _ _).trans hv).trans (updClk_clock v (by intro; rfl))
  split
  · exact hw
  · have hz : ClockKept c z := hw.trans (setSt_clock w _ _ _)
    split
    · exact hz.trans (refSlew_clock z)
    · exact (hz.trans (settleUncert_clock z)).trans (setSt_clock _ _ _ _)

theorem trkCtl_core (c : Chip) (old : Word) : CoreKept c (c.trkCtl old) := by
  unfold Chip.trkCtl
  extract_lets was freed pref u v toPair released w z
  have hu : CoreKept c u := by
    unfold u
    split
    · exact rfl
    · exact .of_fr (by apply Chip.openRegwin_fr (Fr.refl _ c); simp)
  have hlost : ∀ (l : List LaneId) (d : Chip), CoreKept d (d.each l (fun c l => c.loseLane l 0 none)) := fun l => by
    induction l with
    | nil => exact fun d => rfl
    | cons a l ih => exact fun d => (loseLane_core d a 0 none).trans (ih _)
  have hw : CoreKept v w := by
    unfold w
    split
    · exact .of_fr (by apply Chip.setActive_fr (Fr.refl _ v); simp)
    · exact rfl
  have hz : CoreKept w z := by
    unfold z
    split
    · exact .of_fr (by apply Chip.dropSwap_fr (Fr.refl _ w) <;> simp)
    · exact rfl
  exact (((hu.trans (hlost _ _)).trans hw).trans hz).trans
    (.of_fr (by refine Chip.swapDegraded_fr (Chip.syncTrunk_fr (Fr.refl _ z) ?_) ?_ ?_ <;> simp))

theorem bootOk_clock (c : Chip) : ClockKept c c.bootOk := by
  unfold Chip.bootOk
  extract_lets u v
  have h : ClockKept c (v.updBead (fun b => { b with attestDue := true })) := ⟨rfl, rfl, rfl⟩
  exact h.trans (balls_clock _)

theorem regAct_clock (c : Chip) (r : Reg) (old : Word) : ClockKept c (c.regAct r old) := by
  cases r
  case GLB_FAULT => exact balls_clock c
  case GLB_FAULT_EN => exact balls_clock c
  case GLB_ALERT_EN => exact balls_clock c
  case BOOT_CTL =>
    unfold Chip.regAct
    dsimp only
    split
    · exact bootOk_clock c
    · exact .refl _
  case MBX_CTL => exact .of_fr (by apply Chip.leaseSweep_fr (Fr.refl _ c) <;> simp)
  case CLK_CTL => exact clkCtl_clock c old
  case TRK_CTL => exact .of_core (by apply Chip.trkCtl_fr (Fr.refl _ c) <;> simp) (trkCtl_core c old)
  case TRK_PEER_MAC_LO => exact .of_fr (by refine Chip.flushWaiting_fr (Chip.flushWaiting_fr (Fr.refl _ c) ?_) ?_ <;> simp)
  case TRK_PEER_MAC_HI => exact .of_fr (by refine Chip.flushWaiting_fr (Chip.flushWaiting_fr (Fr.refl _ c) ?_) ?_ <;> simp)
  case BELT_CTL b => exact beltCtl_clock c b old
  case INLET_CTL i =>
    unfold Chip.regAct Chip.inletCtl
    dsimp only
    split
    · exact ⟨rfl, rfl, rfl⟩
    · exact .refl _
  case LINE_CTL n => exact .of_fr (by apply Chip.tdcOn_fr (Fr.refl _ c); simp)
  case LINE_DBT n => exact .of_fr (by apply Chip.tdcOn_fr (Fr.refl _ c); simp)
  case LINE_POLL n => exact .of_fr (by apply Chip.pollSync_fr (Fr.refl _ c) <;> simp)
  case CH_SENSE n => exact .of_fr (by apply Chip.clampSync_fr (Fr.refl _ c); simp)
  case CH_INRUSH n => exact .of_fr (by apply Chip.clampSync_fr (Fr.refl _ c); simp)
  case CH_LIMIT n => exact .of_fr (by apply Chip.clampSync_fr (Fr.refl _ c); simp)
  case LINE_WARN n => exact .of_fr (by apply Chip.warnBits_fr (Fr.refl _ c) <;> simp)
  case POND_LOW_MARK => exact .of_fr (by apply Chip.poolEvents_fr (Fr.refl _ c) <;> simp)
  case CW_CTL => exact .of_fr (by apply Chip.cwCtl_fr (Fr.refl _ c) <;> simp)
  case DROP_CTL n =>
    unfold Chip.regAct
    dsimp only
    split
    · exact .refl _
    · exact .of_fr (by apply Chip.autoEnum_fr (Fr.refl _ c) <;> simp)
  case PIN_CFG n => exact .of_fr (by apply Chip.pdRecheck_fr (Fr.refl _ c) <;> simp)
  case PD_CFG n => exact .of_fr (by apply Chip.pdRecheck_fr (Fr.refl _ c) <;> simp)
  case PD_CAPS n => exact .of_fr (by apply Chip.pdChanged_fr (Fr.refl _ c); simp)
  case PD_LIMIT n => exact .of_fr (by apply Chip.pdChanged_fr (Fr.refl _ c); simp)
  case PD_TIMING n => exact .of_fr (by apply Chip.pdChanged_fr (Fr.refl _ c); simp)
  all_goals exact .refl _

theorem carried_clock (c : Chip) (k : Carried) : ClockKept c (c.carried k) := by
  cases k with
  | wake src i => exact .of_fr (by apply Chip.wakeReq_fr (Fr.refl _ c) <;> simp)
  | write r old => exact regAct_clock c r old
  | remoteWake n => exact .of_fr (by apply Chip.remoteWake_fr (Fr.refl _ c) <;> simp)

theorem deliverDue_clock (c : Chip) : ClockKept c c.deliverDue := by
  unfold Chip.deliverDue Chip.deliverHeld
  dsimp only
  split
  · refine ClockKept.trans (x := c.updClk (fun k => { k with cross := k.cross.filter (fun x => !(x.ack.isNone && !c.blockStopped x.block)) }))
      ⟨rfl, rfl, rfl⟩ (ClockKept.each (fun d (k : Crossing) => carried_clock d k.item) _ _)
  · exact .refl _

/-! ### The tick -/

/-- The chip after the counts of the tick. -/
def ticked (c : Chip) : Chip :=
  ((if c.sampleEnds then c.zTakeAll else c).updClk (fun k => { k with now := (if c.sampleEnds then c.zTakeAll else c).clk.now + 1 })).updSei
    (fun x => x.step (if c.sampleEnds then c.zTakeAll else c).pwr.st)

/-- Basins are gated in Idle, and requests of no opcode refused. -/
def tickServed (c : Chip) : Chip :=
  (if c.pwr.st = .idle then c.gateBasins else c).each (List.finRange 8) (fun c d => c.each (c.doors[d]).reqs (fun c e => c.refuseUnknown ⟨d, e.ord⟩))

theorem tick_eq (c : Chip) : c.tick = (tickServed (ticked c).deliverDue.driveDue.pdDecideAll).svcResponses.settle := rfl

theorem tickServed_clock (c : Chip) : ClockKept c (tickServed c) := by
  unfold tickServed
  have h : ClockKept c (if c.pwr.st = .idle then c.gateBasins else c) := by
    split
    · exact .of_fr (by apply Chip.gateBasins_fr (Fr.refl _ c); simp)
    · exact .refl _
  exact h.trans (ClockKept.each (fun d k => ClockKept.each (fun d e => .of_fr (by apply Chip.refuseUnknown_fr (Fr.refl _ d) <;> simp)) _ d) _ _)

theorem tick_clock (c : Chip) : ClockKept (ticked c) c.tick := by
  rw [tick_eq]
  have h1 := deliverDue_clock (ticked c)
  have h2 : ∀ d : Chip, ClockKept d d.driveDue := fun d => .of_fr (by apply Chip.driveDue_fr (Fr.refl _ d) <;> simp)
  have h3 : ∀ d : Chip, ClockKept d d.pdDecideAll := fun d => .of_fr (by apply Chip.pdDecideAll_fr (Fr.refl _ d) <;> simp)
  have h4 : ∀ d : Chip, ClockKept d d.svcResponses.settle := fun d => .of_fr (by
    refine Chip.settle_fr (Chip.svcResponses_fr (Fr.refl _ d) ?_ ?_) ?_ ?_ ?_ ?_ ?_ ?_ ?_ ?_ ?_ ?_ ?_ ?_ ?_ ?_ <;> simp)
  exact (((h1.trans (h2 _)).trans (h3 _)).trans (tickServed_clock _)).trans (h4 _)

theorem ticked_counts (c : Chip) : (ticked c).clk.now = c.clk.now + 1 ∧
    (c.sei.running = true → c.pwr.st = .run ∨ c.pwr.st = .idle → (ticked c).sei.time = c.sei.time + 1) ∧
    (c.sei.running = false → (ticked c).sei.time = c.sei.time) := by
  obtain ⟨w, hw⟩ : ∃ w, (if c.sampleEnds then c.zTakeAll else c) = w := ⟨_, rfl⟩
  have hz : ClockKept c w ∧ w.pwr = c.pwr := by
    rw [← hw]
    split
    · exact zTakeAll_clock c
    · exact ⟨.refl _, rfl⟩
  obtain ⟨⟨htime, hrun, hnow⟩, hpwr⟩ := hz
  unfold ticked
  rw [hw]
  refine ⟨congrArg (· + 1) hnow, fun hr hst => ?_, fun hr => ?_⟩
  · rw [← htime]
    show (w.sei.step w.pwr.st).time = _
    unfold Seiche.step
    rw [hrun, hr, hpwr]
    rcases hst with h | h <;> rw [h]
  · rw [← htime]
    show (w.sei.step w.pwr.st).time = _
    unfold Seiche.step
    rw [hrun, hr]

/-! ### A tick with nothing else to do -/

theorem each_idle {α : Type} {g : Chip → α → Chip} : ∀ {l : List α}, (∀ a ∈ l, g c a = c) → c.each l g = c
  | [], _ => rfl
  | a :: l, h => by
    have ha := h a List.mem_cons_self
    have hl : c.each l g = c := each_idle fun b hb => h b (List.mem_cons_of_mem a hb)
    show (g c a).each l g = c
    rw [ha]
    exact hl

theorem each_empty {α : Type} {g : Chip → α → Chip} {l : List α} (h : l = []) : c.each l g = c := by
  rw [h]
  rfl

theorem zTakeAll_idle (h : ∀ b : Belt, (c.sei.belts[b]).zDue = none) : c.zTakeAll = c :=
  each_empty (List.filter_eq_nil_iff.2 fun b _ => by rw [h b]; decide)

theorem deliverDue_idle (h : ∀ x, x ∈ c.clk.cross → x.ack.isSome = true) : c.deliverDue = c := by
  unfold Chip.deliverDue
  refine if_neg ?_
  rw [List.any_eq_true]
  rintro ⟨x, hx, hnone⟩
  have := h x hx
  cases hack : x.ack <;> simp_all

theorem driveDue_idle (h : ∀ n : Port, (c.ports[n]).drop.resume = none) : c.driveDue = c :=
  each_empty (List.filter_eq_nil_iff.2 fun n _ => by rw [h n]; simp)

theorem pdDecideAll_idle (h : ∀ n : Port, (c.ports[n]).pd.request = none) : c.pdDecideAll = c :=
  each_empty (List.filter_eq_nil_iff.2 fun n _ => by rw [h n]; decide)

theorem refuseUnknown_known (h : ∀ (d : Door) e, e ∈ (c.doors[d]).reqs → knownOpcode e.req.opcode = true) (q : ReqId) : c.refuseUnknown q = c := by
  unfold Chip.refuseUnknown
  split
  · rfl
  · next e he => exact if_pos (.inl (h q.door e (List.mem_of_find?_eq_some he)))

/-- The parts that the end of a tick leaves. -/
def RestKept (c x : Chip) : Prop := x.regs = c.regs ∧ x.fw = c.fw ∧ x.pond = c.pond ∧ x.bead = c.bead

theorem RestKept.refl (c : Chip) : RestKept c c := ⟨rfl, rfl, rfl, rfl⟩

theorem RestKept.each {α : Type} {g : Chip → α → Chip} (h : ∀ c a, RestKept c (g c a)) : ∀ (l : List α) (c : Chip), RestKept c (c.each l g)
  | [], _ => .refl _
  | a :: l, c => by
    obtain ⟨h1, h2, h3, h4⟩ := h c a
    obtain ⟨k1, k2, k3, k4⟩ := RestKept.each h l (g c a)
    exact ⟨k1.trans h1, k2.trans h2, k3.trans h3, k4.trans h4⟩

theorem svcResponses_rest (c : Chip) : RestKept c c.svcResponses := by
  unfold Chip.svcResponses
  split
  · refine RestKept.each (fun d k => ?_) _ c
    split
    · exact .refl _
    · exact ⟨rfl, rfl, rfl, rfl⟩
  · exact .refl _

theorem gateBasins_rest (c : Chip) : RestKept c c.gateBasins ∧ c.gateBasins.doors = c.doors := by
  have h : Fr (keeping [.doors] []) c c.gateBasins := by apply Chip.gateBasins_fr (Fr.refl _ c); simp
  refine ⟨?_, h.kept.doors (by simp)⟩
  unfold Chip.gateBasins
  refine RestKept.each (fun d b => ?_) _ c
  dsimp only
  split
  · exact .refl _
  · exact ⟨rfl, rfl, rfl, rfl⟩

/-- Where every request under way is one of the manual's, a tick serves nothing. -/
theorem tickServed_rest (h : ∀ (d : Door) e, e ∈ (c.doors[d]).reqs → knownOpcode e.req.opcode = true) : RestKept c (tickServed c) := by
  unfold tickServed
  obtain ⟨w, hw⟩ : ∃ w, (if c.pwr.st = .idle then c.gateBasins else c) = w := ⟨_, rfl⟩
  have hrest : RestKept c w ∧ w.doors = c.doors := by
    rw [← hw]
    split
    · exact gateBasins_rest c
    · exact ⟨.refl _, rfl⟩
  have hknown : ∀ (d : Door) e, e ∈ (w.doors[d]).reqs → knownOpcode e.req.opcode = true := by
    rw [hrest.2]
    exact h
  have hserved : w.each (List.finRange 8) (fun c d => c.each (c.doors[d]).reqs (fun c e => c.refuseUnknown ⟨d, e.ord⟩)) = w :=
    each_idle (g := fun c (d : Door) => c.each (c.doors[d]).reqs (fun c e => c.refuseUnknown ⟨d, e.ord⟩)) fun d _ =>
      each_idle (g := fun c (e : ReqEntry) => c.refuseUnknown ⟨d, e.ord⟩) fun e _ => refuseUnknown_known hknown ⟨d, e.ord⟩
  rw [hw, hserved]
  exact hrest.1

/-- A tick with nothing else to do counts alone. -/
theorem tick_idle (hz : ∀ b : Belt, (c.sei.belts[b]).zDue = none) (hp : ∀ n : Port, (c.ports[n]).pd.request = none)
    (hx : ∀ x, x ∈ c.clk.cross → x.ack.isSome = true) (hr : ∀ n : Port, (c.ports[n]).drop.resume = none) (hg : c.pond.grants = [])
    (hq : ∀ (d : Door) e, e ∈ (c.doors[d]).reqs → knownOpcode e.req.opcode = true) : RestKept c c.tick := by
  obtain ⟨u, hu⟩ : ∃ u, (c.updClk (fun k => { k with now := c.clk.now + 1 })).updSei (fun x => x.step c.pwr.st) = u := ⟨_, rfl⟩
  have hticked : ticked c = u := by
    unfold ticked
    rw [zTakeAll_idle hz, ite_self, hu]
  have hquiet : u.deliverDue.driveDue.pdDecideAll = u := by
    rw [deliverDue_idle (by rw [← hu]; exact hx), driveDue_idle (by rw [← hu]; exact hr), pdDecideAll_idle (by rw [← hu]; exact hp)]
  obtain ⟨h1, h2, h3, h4⟩ := tickServed_rest (c := u) (by rw [← hu]; exact hq)
  obtain ⟨k1, k2, k3, k4⟩ := svcResponses_rest (tickServed u)
  have hpond : (tickServed u).svcResponses.pond = c.pond := k3.trans (h3.trans (by rw [← hu]; rfl))
  rw [tick_eq, hticked, hquiet, settle_of_grants_nil (by rw [hpond]; exact hg)]
  exact ⟨k1.trans (h1.trans (by rw [← hu]; rfl)), k2.trans (h2.trans (by rw [← hu]; rfl)), hpond, k4.trans (h4.trans (by rw [← hu]; rfl))⟩

end

/-- Settles O46: the counts of the tick (`ticked_counts`) stay through the rest of it (`tick_clock`), which does nothing where nothing
is due (`tick_idle`). -/
theorem emptyQueueTicks : Obligations.EmptyQueueTicks := by
  unfold Obligations.EmptyQueueTicks
  intro s hp
  have hstep : step s = .next { s with chip := s.chip.tick } := by
    unfold step
    rw [hp]
  obtain ⟨hnow, htime, hstill⟩ := ticked_counts s.chip
  obtain ⟨ktime, -, know⟩ := tick_clock s.chip
  have hidle := tick_idle (c := s.chip)
  obtain ⟨w, hw⟩ : ∃ w, s.chip.tick = w := ⟨_, rfl⟩
  rw [hw] at hstep ktime know hidle
  exact ⟨{ s with chip := w }, hstep, hp, know.trans hnow, fun hr hst => ktime.trans (htime hr hst), fun hr => ktime.trans (hstill hr), hidle⟩

end Sys2Proof.Proofs

namespace Sys2Proof.Proofs

open Sys2Proof.Machine Sys2Proof.Laws

/-! SUPPORT. Whether the directory and the service tables are being rebuilt: what the Pond's requests and the services do keeps it (R162, R354). -/

section

variable {c x y : Chip}

/-- Whether the directory and the tables are being rebuilt. -/
def RebuildKept (c x : Chip) : Prop := x.pond.rebuild = c.pond.rebuild ∧ x.svc.rebuilding = c.svc.rebuilding

theorem RebuildKept.refl (c : Chip) : RebuildKept c c := ⟨rfl, rfl⟩

theorem RebuildKept.trans (h : RebuildKept c x) (k : RebuildKept x y) : RebuildKept c y := ⟨k.1.trans h.1, k.2.trans h.2⟩

theorem RebuildKept.of_eq (hp : x.pond.rebuild = c.pond.rebuild) (hs : x.svc.rebuilding = c.svc.rebuilding) : RebuildKept c x := ⟨hp, hs⟩

theorem RebuildKept.of_fr (h : Fr (keeping [.pond, .svc] []) c x) : RebuildKept c x := ⟨by rw [h.kept.pond (by simp)], by rw [h.kept.svc (by simp)]⟩

theorem RebuildKept.each {α : Type} {g : Chip → α → Chip} (h : ∀ c a, RebuildKept c (g c a)) : ∀ (l : List α) (c : Chip), RebuildKept c (c.each l g)
  | [], _ => .refl _
  | a :: l, c => (h c a).trans (RebuildKept.each h l _)

/-! ### The allocator (R147 to R157) -/

theorem poolEvents_rebuild (c : Chip) : RebuildKept c c.poolEvents := by
  obtain ⟨b, hb⟩ := poolEvents_pond c
  have hs : Fr (keeping [.svc] []) c c.poolEvents := by apply Chip.poolEvents_fr (Fr.refl _ c) <;> simp
  exact ⟨by rw [hb], by rw [hs.kept.svc (by simp)]⟩

theorem grantCtxs_rebuild (c : Chip) (h : Fin 99) (g : Group) (l : List Nat) : RebuildKept c (c.grantCtxs h g l) :=
  RebuildKept.each (fun _ _ => .of_eq (by rfl) (by rfl)) _ c

theorem take_rebuild (c : Chip) (h : Fin 99) (g : Group) (n : Nat) : RebuildKept c (c.take h g n).2 := by
  unfold Chip.take
  extract_lets cids u v w
  have hu : RebuildKept c u := grantCtxs_rebuild c h g cids
  have hw : RebuildKept u w := .of_eq (by rfl) (by rfl)
  exact (hu.trans hw).trans (poolEvents_rebuild w)

theorem alloc_rebuild (c : Chip) (h : Fin 99) (g : Group) (n : Nat) : RebuildKept c (c.alloc h g n).2 := by
  unfold Chip.alloc
  dsimp only
  split
  · exact .refl _
  · split
    · exact take_rebuild c h g n
    · exact .refl _

theorem syncWaiters_rebuild (c : Chip) : RebuildKept c c.syncWaiters := .of_fr (by apply Chip.syncWaiters_fr (Fr.refl _ c) <;> simp)

theorem waiterGranted_rebuild (c : Chip) (w : Waiter) : RebuildKept c (waiterGranted c w) := by
  have htake := take_rebuild (c.setF .POND_WAIT F.POND_WAIT_RESERVED (c.pReserved - w.size)) w.holder
    ((c.setF .POND_WAIT F.POND_WAIT_RESERVED (c.pReserved - w.size)).waitGroup w.who) w.size
  refine RebuildKept.trans ?_ (syncWaiters_rebuild _)
  exact ((RebuildKept.of_eq (by rfl) (by rfl)).trans htake).trans (.of_eq (by rfl) (by rfl))

theorem serveWaiters_rebuild : ∀ (n : Nat) (c : Chip), RebuildKept c (Chip.serveWaiters n c)
  | 0, c => poolEvents_rebuild c
  | n + 1, c => by
    unfold Chip.serveWaiters
    split
    · exact (RebuildKept.of_eq (by rfl) (by rfl)).trans (poolEvents_rebuild _)
    · next w _ =>
      split
      · exact poolEvents_rebuild c
      · exact (waiterGranted_rebuild c w).trans (serveWaiters_rebuild n _)

theorem freeCtx_rebuild (c : Chip) (i : Nat) : RebuildKept c (c.freeCtx i) := by
  unfold Chip.freeCtx
  extract_lets x h u v w z
  split
  · exact .refl _
  · have hu : RebuildKept c u := by
      have hev : RebuildKept c (c.evict i x) := .of_fr (by apply Chip.evict_fr (Fr.refl _ c); simp)
      exact hev.trans (.of_eq (by rfl) (by rfl))
    have hz : RebuildKept c z := (hu.trans (y := w) (.of_eq (by rfl) (by rfl))).trans (.of_fr (by apply Chip.quotaCheck_fr (Fr.refl _ w) <;> simp))
    refine RebuildKept.trans (x := z.reserveFreed) (hz.trans ?_) (poolEvents_rebuild _)
    unfold Chip.reserveFreed
    split
    · exact .refl _
    · refine RebuildKept.trans ?_ (serveWaiters_rebuild _ _)
      split <;> exact .of_eq (by rfl) (by rfl)

theorem eachFree_rebuild (c : Chip) (l : List Nat) : RebuildKept c (c.each l Chip.freeCtx) := RebuildKept.each freeCtx_rebuild l c

theorem bulkFree_rebuild (c : Chip) (p : Nat → Ctx → Bool) : RebuildKept c (c.bulkFree p) := by
  unfold Chip.bulkFree
  split
  · exact .of_eq (by rfl) (by rfl)
  · exact eachFree_rebuild c _

theorem bareAlloc_rebuild (c : Chip) (h : Fin 99) (t k : Nat) : RebuildKept c (c.bareAlloc h t k) := by
  unfold Chip.bareAlloc
  split
  · exact .of_eq (by rfl) (by rfl)
  · have ha := alloc_rebuild c h (.of t) k
    split
    · next l w heq =>
      rw [heq] at ha
      exact ha.trans (.of_eq (by rfl) (by rfl))
    · next v w heq =>
      rw [heq] at ha
      exact ha.trans (.of_eq (by rfl) (by rfl))

theorem waitJoin_rebuild (c : Chip) (w : Waiter) : RebuildKept c (c.waitJoin w) := by
  have hpost : ∀ (d : Chip) e, RebuildKept d (d.post e) := fun d e => .of_fr (fr_post d e (by simp))
  unfold Chip.waitJoin
  split
  · exact .refl _
  · split
    · exact (RebuildKept.of_eq (by rfl) (by rfl)).trans (syncWaiters_rebuild _)
    · exact (RebuildKept.of_eq (by rfl) (by rfl)).trans (hpost _ _)

theorem dropWaiters_rebuild (c : Chip) (gone : Waiting → Bool) : RebuildKept c (c.dropWaiters gone) := by
  unfold Chip.dropWaiters
  split
  · exact ((RebuildKept.of_eq (by rfl) (by rfl)).trans (syncWaiters_rebuild _)).trans (serveWaiters_rebuild _ _)
  · exact .refl _

theorem dropGrants_rebuild (c : Chip) (p : Waiting → Bool) : RebuildKept c (c.dropGrants p) := by
  unfold Chip.dropGrants
  exact (RebuildKept.of_eq (by rfl) (by rfl)).trans (RebuildKept.each (fun d (g : Waiter × List Nat) => eachFree_rebuild d g.2) _ _)

theorem treeLeaves_rebuild (c : Chip) (n : Port) (r : BitVec 20) : RebuildKept c (c.treeLeaves n r) :=
  (dropWaiters_rebuild _ _).trans (dropGrants_rebuild _ _)

theorem afterFree_rebuild (c : Chip) (r : PondReq) {now : Chip → Chip} (h : RebuildKept c (now c)) : RebuildKept c (c.afterFree r now) := by
  unfold Chip.afterFree
  split
  · exact .of_eq (by rfl) (by rfl)
  · exact h

/-! ### Services (R205 to R220) -/

theorem engWrite_rebuild (c : Chip) (n : Port) (i : Nat) (b : Body) : RebuildKept c (c.engWrite n i b) := by
  unfold Chip.engWrite
  have h : RebuildKept c (c.setBody i b) := .of_eq (by rfl) (by rfl)
  exact h.trans (.of_fr (by apply Chip.touchBy_fr (Fr.refl _ _); simp))

theorem updEps_rebuild (c : Chip) (n : Port) (i : Nat) (p : EpBody → Bool) (f : EpBody → EpBody) : RebuildKept c (c.updEps n i p f) :=
  RebuildKept.each (fun d _ => engWrite_rebuild d n _ _) _ c

theorem updSvcBody_rebuild (c : Chip) (b : Bind) (f : SvcBody → SvcBody) : RebuildKept c (c.updSvcBody b f) := by
  unfold Chip.updSvcBody
  have h : RebuildKept c (c.setBody b.cid (.service (f (c.svcBody b)))) := .of_eq (by rfl) (by rfl)
  exact h.trans (.of_fr (by apply Chip.touchPool_fr (Fr.refl _ _); simp))

theorem streams_rebuild (c : Chip) (i : BitVec 16) (f : Strm → Strm) : RebuildKept c (c.updStrm i f) := ⟨rfl, rfl⟩

theorem evOverrun_rebuild (c : Chip) (s : Strm) (k b : Nat) : RebuildKept c (c.evOverrun s k b) :=
  .of_fr (by apply Chip.evOverrun_fr (Fr.refl _ c) <;> simp)

theorem touched_rebuild (c : Chip) (n : Port) (i : Nat) (b : Bool) : RebuildKept c (c.touchPool n i b).active :=
  .of_fr (by refine Chip.active_fr (Chip.touchPool_fr (Fr.refl _ c) ?_) ?_ ?_ ?_ <;> simp)

theorem putRec_rebuild (c : Chip) (s : Strm) (src : Nat) (h : RecHdr) (l : List Byte) : RebuildKept c (c.putRec s src h l).2 := by
  unfold Chip.putRec
  dsimp only
  split
  · exact (streams_rebuild _ _ _).trans (evOverrun_rebuild _ _ _ _)
  · exact (streams_rebuild _ _ _).trans (touched_rebuild _ _ _ _)

theorem printerRec_rebuild (c : Chip) (b : Bind) (k : Nat) (l : List Byte) : RebuildKept c (c.printerRec b k l) := by
  unfold Chip.printerRec
  split
  · exact .refl _
  · next s hs =>
    extract_lets body inJob data h r
    have hr : RebuildKept c r.2 := putRec_rebuild c s _ h data
    split
    · exact hr.trans (updSvcBody_rebuild _ _ _)
    · exact hr

theorem abortJob_rebuild (c : Chip) (b : Bind) : RebuildKept c (c.abortJob b) := by
  unfold Chip.abortJob
  split
  · dsimp only
    split
    · exact printerRec_rebuild c b 4 []
    · exact (printerRec_rebuild c b 4 []).trans (.of_eq (by rfl) (by rfl))
  · exact .refl _

theorem bindDropped_rebuild (c : Chip) (b : Bind) : RebuildKept c (bindDropped c b) := by
  have h : RebuildKept c (c.dropCtls b) := .of_fr (Chip.dropCtls_fr (Fr.refl _ c) (by simp))
  unfold bindDropped
  exact (h.trans (freeCtx_rebuild _ _)).trans (.of_eq (by rfl) (by rfl))

theorem bindQuiet_rebuild (c : Chip) (b : Bind) : RebuildKept c (bindQuiet c b) := by
  unfold bindQuiet
  exact ((abortJob_rebuild c b).trans (.of_eq (by rfl) (by rfl))).trans (updEps_rebuild _ _ _ _ _)

theorem syncSvc_rebuild (c : Chip) : RebuildKept c c.syncSvc := .of_fr (by apply Chip.syncSvc_fr (Fr.refl _ c); simp)

theorem endBind_rebuild (c : Chip) (b : Bind) (cause : Nat) : RebuildKept c (c.endBind b cause) := by
  rw [endBind_eq]
  split
  · refine (bindDropped_rebuild c b).trans ?_
    have h : ∀ (d : Chip) (p : Prop) [Decidable p] k e, RebuildKept d (((if p then d.postOwn k e else d).bindReply b cause).syncSvc) := fun d p _ k e => by
      have hp : RebuildKept d (if p then d.postOwn k e else d) := by
        split
        · exact .of_fr (Chip.postOwn_fr (Fr.refl _ d) (by simp))
        · exact .refl _
      exact (hp.trans (.of_fr (by unfold Chip.bindReply; apply Chip.answerOpt_fr (Fr.refl _ _) <;> simp))).trans (syncSvc_rebuild _)
    exact h _ _ _ _
  · exact ((RebuildKept.of_eq (by rfl) (by rfl)).trans (dropWaiters_rebuild _ _)).trans (syncSvc_rebuild _)
  · have h : ∀ (d : Chip) k e, RebuildKept d (d.postOwn k e) := fun d k e => .of_fr (Chip.postOwn_fr (Fr.refl _ d) (by simp))
    exact (((bindQuiet_rebuild c b).trans (bindDropped_rebuild _ b)).trans (h _ _ _)).trans (syncSvc_rebuild _)

theorem endBinds_rebuild (c : Chip) (p : Bind → Bool) (cause : Nat) : RebuildKept c (c.endBinds p cause) :=
  RebuildKept.each (fun d b => endBind_rebuild d b cause) _ c

theorem pendBind_rebuild (c : Chip) (b : Bind) (p : PendCause) : RebuildKept c (c.pendBind b p) := by
  have h : ∀ (d : Chip) k e, RebuildKept d (d.postOwn k e) := fun d k e => .of_fr (Chip.postOwn_fr (Fr.refl _ d) (by simp))
  unfold Chip.pendBind
  exact ((RebuildKept.of_eq (by rfl) (by rfl)).trans (h _ _ _)).trans (syncSvc_rebuild _)

theorem bindDone_rebuild (c : Chip) (b : Bind) (d : Dev) : RebuildKept c (c.bindDone b d) := by
  unfold Chip.bindDone
  extract_lets body u ifs v w
  have hu : RebuildKept c u := .of_eq (by rfl) (by rfl)
  have hv : RebuildKept u v := updEps_rebuild _ _ _ _ _
  have hw : RebuildKept v w := .of_fr (Chip.postOwn_fr (Fr.refl _ v) (by simp))
  exact ((hu.trans hv).trans hw).trans ((RebuildKept.of_fr (by apply Chip.answerOpt_fr (Fr.refl _ w) <;> simp)).trans (syncSvc_rebuild _))

theorem bindIn_rebuild (c : Chip) (b : Bind) (d : Dev) (i : Nat) (s : Strm) (o : Option Strm) : RebuildKept c (c.bindIn b d i s o) := by
  rw [bindIn_eq]
  have h : RebuildKept c (bindOpen c b d i s o).2 := .of_eq (by rfl) (by rfl)
  refine (h.trans ?_).trans (syncSvc_rebuild _)
  unfold Chip.bindNext
  split
  · exact bindDone_rebuild _ _ _
  · exact .of_eq (by rfl) (by rfl)

theorem tryBind_rebuild (c : Chip) (b : Bind) : RebuildKept c (c.tryBind b) := by
  unfold Chip.tryBind
  split
  · exact endBind_rebuild _ _ _
  · next d _ =>
    split
    · exact pendBind_rebuild _ _ _
    · split
      · exact (waitJoin_rebuild _ _).trans (pendBind_rebuild _ _ _)
      · have ha := alloc_rebuild c (hPort b.port) (.of tSERVICE d.cid) 1
        split
        · next w heq =>
          rw [heq] at ha
          exact ha.trans (bindIn_rebuild _ _ _ _ _ _)
        · next w heq =>
          rw [heq] at ha
          exact ha
        · next v w heq =>
          rw [heq] at ha
          exact (ha.trans (waitJoin_rebuild _ _)).trans (pendBind_rebuild _ _ _)

theorem bindAgain_rebuild (c : Chip) (b : Bind) : RebuildKept c (c.bindAgain b) := by
  unfold Chip.bindAgain
  split
  · exact tryBind_rebuild _ _
  · exact pendBind_rebuild _ _ _

theorem classMatchAll_rebuild (c : Chip) : RebuildKept c c.classMatchAll := by
  unfold Chip.classMatchAll
  refine RebuildKept.each (fun d n => RebuildKept.each (fun d r => ?_) _ d) _ c
  unfold Chip.classMatch Chip.addBind
  split
  · exact .refl _
  · split
    · exact .refl _
    · refine RebuildKept.trans (RebuildKept.of_fr (Chip.updDev_fr (Fr.refl _ d) (by simp))) (RebuildKept.each (fun d i => ?_) _ _)
      split
      · exact .refl _
      · split
        · exact .refl _
        · split
          · exact (RebuildKept.of_eq (by rfl) (by rfl)).trans (tryBind_rebuild _ _)
          · exact (RebuildKept.of_eq (by rfl) (by rfl)).trans (pendBind_rebuild _ _ _)

/-! ### Grants served (R157) -/

theorem bindGranted_rebuild (c : Chip) (m : Port) (r : BitVec 20) (i cid : Nat) : RebuildKept c (c.bindGranted m r i cid) := by
  unfold Chip.bindGranted
  split
  · split
    · exact (freeCtx_rebuild _ _).trans (pendBind_rebuild _ _ _)
    · split
      · exact bindIn_rebuild _ _ _ _ _ _
      · exact (freeCtx_rebuild _ _).trans (pendBind_rebuild _ _ _)
  · exact freeCtx_rebuild _ _

theorem updDrop_rebuild (c : Chip) (n : Port) (f : Drop → Drop) : RebuildKept c (c.updDrop n f) := .of_eq (by rfl) (by rfl)

theorem setRoot_rebuild (c : Chip) (n : Port) (st : Nat) : RebuildKept c (c.setRoot n st) := .of_fr (by apply Chip.setRoot_fr (Fr.refl _ c); simp)

theorem nextEnum_rebuild (c : Chip) (n : Port) : RebuildKept c (c.nextEnum n) := .of_fr (by apply Chip.nextEnum_fr (Fr.refl _ c) <;> simp)

theorem enumGranted_rebuild (c : Chip) (m : Port) (e : Enum) (cids : List Nat) : RebuildKept c (c.enumGranted m e cids) := by
  unfold Chip.enumGranted
  split
  · exact .refl _
  · next dev rest =>
    extract_lets u1 u2 eps u3 u4 gen u5 u6
    have h1 : RebuildKept c u1 := dropWaiters_rebuild _ _
    have h2 : RebuildKept u1 u2 := .of_eq (by rfl) (by rfl)
    have h3 : RebuildKept u2 u3 := RebuildKept.each (fun _ _ => .of_eq (by rfl) (by rfl)) _ _
    have h4 : RebuildKept u3 u4 := RebuildKept.each (fun d _ => .of_fr (by apply Chip.touchBy_fr (Fr.refl _ d); simp)) _ _
    have h6 : RebuildKept u4 u6 := .of_eq (by rfl) (by rfl)
    have h : RebuildKept c u6 := h1.trans (h2.trans (h3.trans (h4.trans h6)))
    split
    · exact h.trans (setRoot_rebuild _ _ _)
    · exact h

theorem enumRefused_rebuild (c : Chip) (m : Port) (e : Enum) (size v : Nat) : RebuildKept c (c.enumRefused m e size v) := by
  unfold Chip.enumRefused
  extract_lets u1 u2
  have h1 : RebuildKept c u1 := waitJoin_rebuild _ _
  have h2 : RebuildKept u1 u2 := .of_fr (by refine Chip.answerOpt_fr (Chip.evAttach_fr (Fr.refl _ u1) ?_) ?_ ?_ ?_ ?_ <;> simp)
  split
  · exact ((h1.trans h2).trans (.of_eq (by rfl) (by rfl))).trans (setRoot_rebuild _ _ _)
  · exact ((h1.trans h2).trans (.of_eq (by rfl) (by rfl))).trans (nextEnum_rebuild _ _)

theorem enumGroup_rebuild (c : Chip) (m : Port) (e : Enum) : RebuildKept c (c.enumGroup m e) := by
  unfold Chip.enumGroup
  extract_lets need mine held u g
  have h : RebuildKept c u := .of_eq (by rfl) (by rfl)
  split
  · exact h.trans ((eachFree_rebuild _ _).trans (enumGranted_rebuild _ _ _ _))
  · split
    · exact h.trans (.of_eq (by rfl) (by rfl))
    · have halloc := alloc_rebuild u (hPort m) g (need - held.length)
      split
      · next cids w heq =>
        rw [heq] at halloc
        exact h.trans (halloc.trans (enumGranted_rebuild _ _ _ _))
      · next v w heq =>
        rw [heq] at halloc
        exact h.trans (halloc.trans ((RebuildKept.of_eq (by rfl) (by rfl)).trans (enumRefused_rebuild _ _ _ _ _)))

theorem settle_rebuild (c : Chip) : RebuildKept c c.settle := by
  unfold Chip.settle
  split
  · exact .refl _
  · refine RebuildKept.each (fun c _ => ?_) _ c
    unfold Chip.settleOnce
    refine RebuildKept.each (fun c g => ?_) _ c
    split
    · exact (RebuildKept.of_eq (by rfl) (by rfl)).trans (bindGranted_rebuild _ _ _ _ _)
    · split
      · split
        · exact enumGroup_rebuild _ _ _
        · exact .refl _
      · split
        · exact (RebuildKept.of_eq (by rfl) (by rfl)).trans (nextEnum_rebuild _ _)
        · exact .refl _

/-- A request held while the directory was rebuilt (R162). -/
theorem runHeld_rebuild (c : Chip) (r : PondReq) : RebuildKept c (c.runHeld r) := by
  cases r with
  | alloc h t k => exact bareAlloc_rebuild c h t k
  | bulk h t => exact bulkFree_rebuild c _
  | free l => exact eachFree_rebuild c l
  | group n r =>
    unfold Chip.runHeld
    dsimp only
    split
    · split
      · exact enumGroup_rebuild _ _ _
      · exact .refl _
    · exact .refl _
  | leave n r => exact treeLeaves_rebuild c n r
  | post k a i l => exact .of_fr (fr_post c _ (by simp))
  | answer q r => exact .of_fr (fr_answer c q r [] 0 (by simp))

/-! ### A tree that leaves, a port reset (R70, R171) -/

theorem detach_rebuild (c : Chip) (n : Port) (r : BitVec 20) (cause : Nat) : RebuildKept c (c.detach n r cause) := by
  unfold Chip.detach
  extract_lets d gone runs ctls open_ enums recs c1 c2 moved c3 c4 c5 c6 c7 c8 c9 c10
  have h2 : Fr (keeping [.pond, .svc] []) c c2 := by
    refine Chip.setSched_fr (Chip.updDrop_fr (Fr.refl _ c) ?_) ?_ ?_ <;> simp
  have h3 : Fr (keeping [.pond, .svc] []) c2 c3 := Fr.each (Fr.refl _ _) fun d x hd => Chip.post_fr hd (by simp)
  have h4 : Fr (keeping [.pond, .svc] []) c3 c4 := Fr.each (Fr.refl _ _) fun d x hd => by
    apply Chip.answerOpt_fr (Chip.post_fr hd ?_) <;> simp
  have h5 : Fr (keeping [.pond, .svc] []) c4 c5 := by apply Chip.answers_fr (Fr.refl _ c4) <;> simp
  have k5 : RebuildKept c c5 := ((RebuildKept.of_fr h2).trans (.of_fr h3)).trans ((RebuildKept.of_fr h4).trans (.of_fr h5))
  have k7 : RebuildKept c5 c7 := (RebuildKept.of_eq (by rfl) (by rfl)).trans (endBinds_rebuild c6 _ _)
  have k9 : RebuildKept c7 c9 := (bulkFree_rebuild c7 _).trans (.of_fr (by apply Chip.syncTree_fr (Fr.refl _ _); simp))
  have k10 : RebuildKept c9 c10 := afterFree_rebuild c9 _ (treeLeaves_rebuild _ _ _)
  exact (((k5.trans k7).trans k9).trans k10).trans (afterFree_rebuild c10 _ (.of_fr (fr_post c10 _ (by simp))))

theorem wrBump_rebuild (c : Chip) (r : Reg) (w : BitVec 32) : RebuildKept c ((c.wr r w).bump r) := ⟨rfl, rfl⟩

theorem leaveDrop_rebuild (c : Chip) (n : Port) (cause : Nat) : RebuildKept c (c.leaveDrop n cause) := by
  unfold Chip.leaveDrop
  extract_lets d qs u1 u2 u3 u4 u5 u6 mine u7 u8 u9 w
  have h2 : Fr (keeping [.pond, .svc] []) c u2 := by
    refine Chip.dropAnswerAll_fr (Chip.answers_fr (Fr.refl _ c) ?_ ?_ ?_ ?_) ?_ ?_ ?_ ?_ ?_ <;> simp
  have h4 : RebuildKept u2 u4 := (RebuildKept.of_eq (by rfl) (by rfl)).trans (endBinds_rebuild u3 _ _)
  have h6 : RebuildKept u4 u6 := (bulkFree_rebuild u4 _).trans (.of_fr (by apply Chip.dropSuspend_fr (Fr.refl _ _) <;> simp))
  have h7 : RebuildKept u6 u7 := (dropWaiters_rebuild u6 _).trans (dropGrants_rebuild _ _)
  have h9 : RebuildKept u7 u9 := .of_fr (by refine Chip.setSched_fr (Chip.updDrop_fr (Fr.refl _ u7) ?_) ?_ ?_ <;> simp)
  have h : RebuildKept c u9 := (((RebuildKept.of_fr h2).trans h4).trans (h6.trans h7)).trans h9
  split
  · exact h
  · exact h.trans (wrBump_rebuild _ _ _)

theorem resetDrop_rebuild (c : Chip) (n : Port) : RebuildKept c (c.resetDrop n) := by
  unfold Chip.resetDrop
  extract_lets pull v w
  have hv : RebuildKept c v := (leaveDrop_rebuild c n ubDETACH).trans (.of_fr (by apply Chip.suspendCh_fr (Fr.refl _ _) <;> simp))
  have hw : RebuildKept c w := hv.trans (updDrop_rebuild v n _)
  split
  · exact hw.trans (.of_fr (by apply Chip.startReset_fr (Fr.refl _ w) <;> simp))
  · exact hw.trans (setRoot_rebuild _ _ _)

theorem portReset_rebuild (c : Chip) (n : Port) : RebuildKept c (c.portReset n) := by
  unfold Chip.portReset
  extract_lets u1 u2 u3
  have h2 : RebuildKept c u2 := .of_eq (by rfl) (by rfl)
  have h3 : RebuildKept u2 u3 := by
    unfold u3
    split
    · exact .refl _
    · exact resetDrop_rebuild u2 n
    · exact .of_fr (by apply Chip.resetLine_fr (Fr.refl _ u2) <;> simp)
  exact (h2.trans h3).trans (.of_fr (by apply Chip.bumpPort_fr (Fr.refl _ u3) <;> simp))

theorem basinDown_rebuild (c : Chip) (b : Basin) : RebuildKept c (c.basinDown b) := by
  unfold Chip.basinDown
  extract_lets u1 u2 ps u3 u4 u5 u6
  have h2 : RebuildKept c u2 := (RebuildKept.of_eq (by rfl) (by rfl)).trans (RebuildKept.each (fun _ _ => .of_eq (by rfl) (by rfl)) _ u1)
  have h3 : RebuildKept u2 u3 := RebuildKept.each (fun d b => updSvcBody_rebuild d b _) _ u2
  have h5 : RebuildKept u3 u5 := .of_eq (by rfl) (by rfl)
  have h6 : RebuildKept u5 u6 := RebuildKept.each (fun _ _ => .of_eq (by rfl) (by rfl)) _ u5
  exact ((h2.trans h3).trans (h5.trans h6)).trans (.of_eq (by rfl) (by rfl))

theorem startScope_rebuild (c : Chip) (sc : Scope) (q : Option ReqId) (r : Bool) (l : List Nat) : RebuildKept c (c.startScope sc q r l) := by
  unfold Chip.startScope
  dsimp only
  split
  · exact .of_eq (by rfl) (by rfl)
  · refine RebuildKept.trans (x := c.updClk (fun k => { k with resets := k.resets ++ [⟨sc, q.toList, r, l⟩] })) ⟨rfl, rfl⟩ ?_
    split
    · exact portReset_rebuild _ _
    · exact basinDown_rebuild _ _
    · exact .of_fr (by apply Chip.hsDown_fr (Fr.refl _ _) <;> simp)
    · exact .of_fr (by refine Chip.updLane_fr (Chip.resetLane_fr (Fr.refl _ _) ?_ ?_ ?_ ?_ ?_ ?_ ?_ ?_ ?_ ?_ ?_) ?_ <;> simp)

end

end Sys2Proof.Proofs

namespace Sys2Proof.Proofs

open Sys2Proof.Machine Sys2Proof.Laws

/-! The Pond's service (07 R147 to R163; 17 R354): the allocator, the wait list, the scrubber and the directory. -/

section

variable {s : State} {c x : Chip} {n : Port}

/-! ### The allocator (R147, R149, R150) -/

theorem runs_pondGranted {h : Fin 99} {t k : Nat} (hc : Canon s.chip) (hg : s.chip.pond.grants = []) (ht : 1 ≤ t ∧ t ≤ 7) (hk : 1 ≤ k ∧ k ≤ 64)
    (hr : s.chip.pond.rebuild = false) (hv : s.chip.allocVerdict h k = rOK) :
    Runs (.pondAlloc h t k) s (fun c => ∃ l, c.pond.lastAlloc = (rOK, l) ∧ l.length = k ∧
      (∀ i ∈ l, (c.ctx i).typ = t ∧ (c.ctx i).holder = h.val ∧ (c.ctx i).body = .zero) ∧
      c.used h = s.chip.used h + k ∧ c.pFree = s.chip.pFree - k) := by
  have heq := bareAlloc_granted ht hk hv
  have hgrants := (take_grants s.chip h (.of t) k).trans hg
  have hused := take_used hc h (.of t) (used_lt_of_verdict hv)
  have hfree := take_pFree hc h (.of t) k
  have htyp := fun i (hi : i ∈ (s.chip.take h (.of t) k).1) => take_typ hi
  have hlen := take_length s.chip h (.of t) k
  obtain ⟨p, hp⟩ : ∃ p, s.chip.take h (.of t) k = p := ⟨_, rfl⟩
  rw [hp] at heq hgrants hused hfree htyp hlen
  refine runs_pondAlloc hr (heq ▸ hgrants) ?_
  rw [heq]
  exact ⟨p.1, rfl, hlen, htyp, hused, hfree⟩

theorem runs_pondRefused {h : Fin 99} {t k : Nat} (hg : s.chip.pond.grants = []) (ht : 1 ≤ t ∧ t ≤ 7) (hk : 1 ≤ k ∧ k ≤ 64)
    (hr : s.chip.pond.rebuild = false) (hv : s.chip.allocVerdict h k ≠ rOK) :
    Runs (.pondAlloc h t k) s (fun c => c.pond = { s.chip.pond with lastAlloc := (s.chip.allocVerdict h k, []) } ∧ c.regs = s.chip.regs) := by
  have heq := bareAlloc_refused ht hk rfl hv
  exact runs_pondAlloc hr (heq ▸ hg) (heq ▸ ⟨rfl, rfl⟩)

theorem runs_pondAllocHeld {h : Fin 99} {t k : Nat} (hg : s.chip.pond.grants = []) (hr : s.chip.pond.rebuild = true) :
    Runs (.pondAlloc h t k) s (fun c => c.pond = { s.chip.pond with held := s.chip.pond.held ++ [.alloc h t k] }) := by
  have hexec : exec (.pondAlloc h t k) s = execPondAlloc h t k s := rfl
  exact runs_of_runS_eq hexec (d := s.chip.updPond (fun p => { p with held := p.held ++ [.alloc h t k] })) (if_pos hr) hg rfl

/-! ### Contexts given back (R151, R157) -/

theorem runs_contextFree {i : Cid} {h : Fin 99} (hc : Canon s.chip) (hg : s.chip.pond.grants = []) (ht : (s.chip.ctx i.toNat).typ ≠ tFREE)
    (hp : (s.chip.ctx i.toNat).poisoned = false) (hw : s.chip.pond.waiters = []) (hh : (s.chip.ctx i.toNat).holder = h.val)
    (hf : s.chip.pFree < pondSize) : Runs (.contextFree i) s (fun c => c.ctx i.toNat = { gen := (s.chip.ctx i.toNat).gen } ∧
      c.used h = s.chip.used h - 1 ∧ c.pFree = s.chip.pFree + 1) := by
  have hexec : exec (.contextFree i) s = execContextFree i s := rfl
  exact runs_of_runS hexec ((freeCtx_lists _ hw).2.1.trans hg) ⟨freeCtx_ctx_same ht hp hw, freeCtx_counts hc ht hp hw hh hf⟩

theorem lookupNat_of_mem {α : Type} : ∀ {l : List (Nat × α)} {i : Nat} {v : α}, l.Pairwise (fun a b => a.1 < b.1) → (i, v) ∈ l → lookupNat l i = some v
  | [], _, _, _, h => by cases h
  | (j, w) :: t, i, v, hs, h => by
    obtain ⟨hlt, ht⟩ := List.pairwise_cons.1 hs
    unfold lookupNat
    rcases List.mem_cons.1 h with heq | hmem
    · cases heq
      exact if_pos rfl
    · have hne : j ≠ i := Nat.ne_of_lt (hlt _ hmem)
      rw [if_neg hne]
      exact lookupNat_of_mem ht hmem

/-- Of a directory in order, a CID is listed where its context is in use, not poisoned, and meets the condition. -/
theorem mem_cidsWhere_iff (hs : c.pond.ctxs.Pairwise (fun a b => a.1 < b.1)) {p : Nat → Ctx → Bool} {i : Nat} :
    i ∈ c.cidsWhere p ↔ (c.ctx i).typ ≠ tFREE ∧ (c.ctx i).poisoned = false ∧ p i (c.ctx i) = true := by
  constructor
  · intro h
    unfold Chip.cidsWhere at h
    obtain ⟨⟨j, v⟩, hj, rfl⟩ := List.mem_map.1 h
    obtain ⟨hmem, hcond⟩ := List.mem_filter.1 hj
    have hctx : c.ctx j = v := by rw [Chip.ctx, lookupNat_of_mem hs hmem, Option.getD_some]
    simp only [Bool.and_eq_true, bne_iff_ne, Bool.not_eq_true'] at hcond
    rw [hctx]
    exact ⟨hcond.1.1, hcond.1.2, hcond.2⟩
  · rintro ⟨ht, hp, h⟩
    exact mem_cidsWhere ht hp h

theorem runs_bulkFree {h : Fin 99} {t : Nat} (hg : s.chip.pond.grants = []) (hr : s.chip.pond.rebuild = false) (hw : s.chip.pond.waiters = [])
    (hs : s.chip.pond.ctxs.Pairwise (fun a b => a.1 < b.1)) :
    Runs (.bulkFree h t) s (fun c => ∀ i, c.ctx i =
      if (s.chip.ctx i).typ ≠ tFREE ∧ (s.chip.ctx i).poisoned = false ∧ (s.chip.ctx i).holder = h.val ∧
        (t = 0 ∨ (s.chip.ctx i).typ = t) then { gen := (s.chip.ctx i).gen } else s.chip.ctx i) := by
  have hexec : exec (.bulkFree h t) s = execBulkFree h t s := rfl
  obtain ⟨l, hl⟩ : ∃ l, s.chip.cidsWhere (fun _ x => x.holder == h.val && (t == 0 || x.typ == t)) = l := ⟨_, rfl⟩
  have hmem : ∀ i, i ∈ l ↔ (s.chip.ctx i).typ ≠ tFREE ∧ (s.chip.ctx i).poisoned = false ∧ (s.chip.ctx i).holder = h.val ∧
      (t = 0 ∨ (s.chip.ctx i).typ = t) := fun i => by
    rw [← hl, mem_cidsWhere_iff hs]
    simp
  refine runs_of_runS_eq hexec (d := s.chip.each l Chip.freeCtx) ?_ ((each_freeCtx_lists l s.chip hw).2.trans hg) fun i => ?_
  · refine (if_neg (by rw [hr]; decide)).trans ?_
    unfold Chip.bareBulk Chip.bulkFree
    rw [if_neg (by rw [hr]; decide), hl]
  · rw [each_freeCtx_ctx i l s.chip hw]
    by_cases hi : i ∈ l
    · obtain ⟨h1, h2, h3⟩ := (hmem i).1 hi
      rw [if_pos hi, if_pos ⟨h1, h2, h3⟩, freedCtx, if_pos ⟨h1, h2⟩]
    · rw [if_neg hi, if_neg fun hno => hi ((hmem i).2 hno)]

theorem runs_bulkFreeHeld {h : Fin 99} {t : Nat} (hg : s.chip.pond.grants = []) (hr : s.chip.pond.rebuild = true) :
    Runs (.bulkFree h t) s (fun c => c.pond = { s.chip.pond with held := s.chip.pond.held ++ [.bulk h t] }) := by
  have hexec : exec (.bulkFree h t) s = execBulkFree h t s := rfl
  exact runs_of_runS_eq hexec (d := s.chip.updPond (fun p => { p with held := p.held ++ [.bulk h t] })) (if_pos hr) hg rfl

/-! ### The wait list (R157) -/

theorem runs_retryEarly {w : Waiter} (hg : s.chip.pond.grants = []) (hw : s.chip.pond.refused = [w]) (ht : s.chip.clk.now < w.retryAt) :
    Runs (.waitListRetry n) s (fun c => c.pond = s.chip.pond) := by
  have hexec : exec (.waitListRetry n) s = execWaitListRetry n s := rfl
  refine runs_of_runS_eq hexec (d := s.chip) ?_ hg rfl
  rw [hw, List.filter_cons_of_neg (by simp [Nat.not_le.2 ht])]
  rfl

/-- What a due retry runs on: the one refused requester of the port. -/
theorem refused_due {w : Waiter} {t : Nat} (hp : w.who.port = n) (ht : w.retryAt ≤ t) :
    [w].filter (fun w => w.who.port == n && w.retryAt ≤ t) = [w] := by
  rw [List.filter_cons_of_pos (by simp [hp, ht])]
  rfl

theorem alloc_error {h : Fin 99} {k : Nat} (hv : c.allocVerdict h k ≠ rOK) (g : Group) : ∃ v, c.alloc h g k = (.error v, c) := by
  unfold Chip.alloc
  dsimp only
  by_cases hk : k = 0 ∨ 64 < k
  · rw [if_pos hk]
    exact ⟨_, rfl⟩
  · rw [if_neg hk, if_neg hv]
    exact ⟨_, rfl⟩

theorem runs_retryRefused {w : Waiter} (hg : s.chip.pond.grants = []) (hw : s.chip.pond.refused = [w]) (hp : w.who.port = n)
    (ht : w.retryAt ≤ s.chip.clk.now) (hr : s.chip.pond.rebuild = false) (hv : s.chip.allocVerdict w.holder w.size ≠ rOK)
    (hno : s.chip.pond.waiters.any (fun x => x.who = w.who) = false) (hroom : s.chip.pond.waiters.length < 1024) :
    Runs (.waitListRetry n) s (fun c => c.pond.waiters = s.chip.pond.waiters ++ [w] ∧ c.pond.refused = []) := by
  have hexec : exec (.waitListRetry n) s = execWaitListRetry n s := rfl
  obtain ⟨v, halloc⟩ := alloc_error hv (s.chip.waitGroup w.who)
  obtain ⟨u, hu⟩ : ∃ u, s.chip.updPond (fun p => { p with waiters := p.waiters ++ [w], refused := p.refused.filter (fun x => x.who ≠ w.who) }) = u := ⟨_, rfl⟩
  have hjoin : s.chip.waitJoin w = u.syncWaiters := by
    unfold Chip.waitJoin
    rw [hno, if_neg (by decide), if_pos hroom, hu]
  have hpond : u.syncWaiters.pond = u.pond := (Chip.syncWaiters_fr (f := keeping [.pond] []) (Fr.refl _ u) (by simp) (by simp)).kept.pond (by simp)
  refine runs_of_runS_eq hexec (d := u.syncWaiters) ?_ ?_ ?_
  · rw [hw, refused_due hp ht]
    show (if s.chip.pond.rebuild then s.chip else _) = _
    rw [hr, if_neg (by decide), halloc]
    exact hjoin
  · rw [hpond, ← hu]
    exact hg
  · rw [hpond, ← hu]
    refine ⟨rfl, ?_⟩
    show s.chip.pond.refused.filter _ = []
    rw [hw]
    simp

/-! ### A refused binding that a retry grants (R157, R206) -/

/-- Who waits, what is granted and what is refused are the same. -/
structure WaitingKept (c x : Chip) : Prop where
  waiters : x.pond.waiters = c.pond.waiters
  grants : x.pond.grants = c.pond.grants
  refused : x.pond.refused = c.pond.refused

theorem WaitingKept.refl (c : Chip) : WaitingKept c c := ⟨rfl, rfl, rfl⟩

theorem WaitingKept.trans {x y : Chip} (h : WaitingKept c x) (k : WaitingKept x y) : WaitingKept c y :=
  ⟨k.waiters.trans h.waiters, k.grants.trans h.grants, k.refused.trans h.refused⟩

theorem WaitingKept.of_fr (h : Fr (keeping [.pond] []) c x) : WaitingKept c x :=
  ⟨by rw [h.kept.pond (by simp)], by rw [h.kept.pond (by simp)], by rw [h.kept.pond (by simp)]⟩

theorem WaitingKept.each {α : Type} {g : Chip → α → Chip} (h : ∀ c a, WaitingKept c (g c a)) : ∀ (l : List α) (c : Chip), WaitingKept c (c.each l g)
  | [], _ => .refl _
  | a :: l, c => (h c a).trans (WaitingKept.each h l _)

theorem take_waiting (c : Chip) (h : Fin 99) (g : Group) (k : Nat) : WaitingKept c (c.take h g k).2 := by
  unfold Chip.take
  extract_lets l u v w
  obtain ⟨y, hy⟩ := grantCtxs_pond c h g l
  obtain ⟨b, hb⟩ := poolEvents_pond w
  have hu : w.pond = u.pond := rfl
  rw [hu, hy] at hb
  exact ⟨by rw [hb], by rw [hb], by rw [hb]⟩

theorem updEps_waiting (c : Chip) (n : Port) (i : Nat) (p : EpBody → Bool) (f : EpBody → EpBody) : WaitingKept c (c.updEps n i p f) := by
  have htouch : ∀ (d : Chip) (k : Role) j b, WaitingKept d (d.touchBy k j b) := fun d k j b => .of_fr (by apply Chip.touchBy_fr (Fr.refl _ d); simp)
  have hbody : ∀ (d : Chip) j b, WaitingKept d (d.setBody j b) := fun d j b => ⟨rfl, rfl, rfl⟩
  exact WaitingKept.each (fun d e => (hbody d _ _).trans (htouch _ _ _ _)) _ c

theorem bindDone_waiting (c : Chip) (b : Bind) (d : Dev) : WaitingKept c (c.bindDone b d) := by
  unfold Chip.bindDone
  extract_lets body u ifs v w
  have hu : WaitingKept c u := ⟨rfl, rfl, rfl⟩
  have hv : WaitingKept u v := updEps_waiting u _ _ _ _
  have hw : Fr (keeping [.pond] []) v (w.answerOpt b.req rOK [b.cid, b.gen.toNat] 4).syncSvc := by
    refine Chip.syncSvc_fr (Chip.answerOpt_fr (Chip.postOwn_fr (Fr.refl _ v) ?_) ?_ ?_ ?_ ?_) ?_ <;> simp
  exact (hu.trans hv).trans (.of_fr hw)

theorem bindNext_waiting (c : Chip) (b : Bind) (d : Dev) : WaitingKept c (c.bindNext b d) := by
  unfold Chip.bindNext
  split
  · exact bindDone_waiting c b d
  · exact ⟨rfl, rfl, rfl⟩

theorem bindIn_waiting (c : Chip) (b : Bind) (d : Dev) (i : Nat) (y : Strm) (o : Option Strm) : WaitingKept c (c.bindIn b d i y o) := by
  have hopen : WaitingKept c (bindOpen c b d i y o).2 := ⟨rfl, rfl, rfl⟩
  rw [bindIn_eq]
  exact (hopen.trans (bindNext_waiting _ _ _)).trans (.of_fr (by apply Chip.syncSvc_fr (Fr.refl _ _); simp))

theorem bind?_of_svc (h : x.svc = c.svc) (n : Port) (r : BitVec 20) (i : Nat) : x.bind? n r i = c.bind? n r i := by
  rw [Chip.bind?, h]
  rfl

theorem bindStreams_of_svc (h : x.svc = c.svc) (b : Bind) : x.bindStreams b = c.bindStreams b := by
  simp only [Chip.bindStreams, Chip.strm?, h]

theorem dev?_of_ports (h : x.ports = c.ports) (n : Port) (r : BitVec 20) : x.dev? n r = c.dev? n r := by
  rw [Chip.dev?, h]
  rfl

theorem hsRuns_of_kept (hf : x.fw = c.fw) (hp : x.pwr = c.pwr) : x.hsRuns = c.hsRuns := by
  unfold Chip.hsRuns Chip.hsPresent
  rw [hf, hp]

theorem bind_place {r : BitVec 20} {i : Nat} {b : Bind} (h : c.bind? n r i = some b) : b.port = n ∧ b.route = r ∧ b.iface = i := by
  simpa [Bind.is, and_assoc] using List.find?_some h

theorem updBind_bind? {b y z : Bind} {f : Bind → Bind} (h : c.bind? b.port b.route b.iface = some y) (hz : f y = z)
    (hplace : Bind.is b.port b.route b.iface z = true) : (c.updBind b f).bind? b.port b.route b.iface = some z := by
  subst hz
  exact find?_updFirst h hplace

theorem bindDone_bind? {b y : Bind} (h : c.bind? b.port b.route b.iface = some y) (d : Dev) :
    ((c.bindDone b d).bind? b.port b.route b.iface).map (·.pending) = some none := by
  have hplace := List.find?_some h
  unfold Chip.bindDone
  extract_lets body u ifs v w
  have hu := updBind_bind? (f := fun z => { z with pending := none, req := none, pollAt := c.clk.now + ms 100 }) h rfl hplace
  have hw : Fr (keeping [.svc] []) u (w.answerOpt b.req rOK [b.cid, b.gen.toNat] 4).syncSvc := by
    refine Chip.syncSvc_fr (Chip.answerOpt_fr (Chip.postOwn_fr (Chip.updEps_fr (Fr.refl _ u) ?_ ?_) ?_) ?_ ?_ ?_ ?_) ?_ <;> simp
  rw [bind?_of_svc (hw.kept.svc (by simp)), hu]
  rfl

theorem setupReqs_nil_iff (c : Chip) (b : Bind) (d : Dev) : c.setupReqs b d = [] ↔ ¬ (b.kind = kHID ∨ b.kind = kCDC ∨ b.kind = kPRINTER) := by
  unfold Chip.setupReqs
  split_ifs <;> simp_all

/-- A binding whose device wants no setup is bound at once; another awaits the end of its setup (R206). -/
theorem bindIn_pending {b : Bind} (h : c.bind? b.port b.route b.iface = some b) (d : Dev) (i : Nat) (y : Strm) (o : Option Strm) :
    ((c.bindIn b d i y o).bind? b.port b.route b.iface).map (·.pending) =
      some (if b.kind = kHID ∨ b.kind = kCDC ∨ b.kind = kPRINTER then some .setup else none) := by
  obtain ⟨v, hv⟩ : ∃ v, bindOpen c b d i y o = v := ⟨_, rfl⟩
  have hplace : Bind.is b.port b.route b.iface v.1 = true := by
    rw [← hv]
    simp [Bind.is, bindOpen]
  have hopen : v.2.bind? v.1.port v.1.route v.1.iface = some v.1 := by
    rw [← hv]
    exact updBind_bind? (c := c.setBody i _) h rfl (hv ▸ hplace)
  have hsetup : v.1.setup = [] ↔ ¬ (b.kind = kHID ∨ b.kind = kCDC ∨ b.kind = kPRINTER) := by
    rw [← hv]
    exact setupReqs_nil_iff _ b d
  have hpend : v.1.pending = some .setup := by
    rw [← hv]
    rfl
  have hsame : v.1.port = b.port ∧ v.1.route = b.route ∧ v.1.iface = b.iface := by
    rw [← hv]
    exact ⟨rfl, rfl, rfl⟩
  obtain ⟨hport, hroute, hiface⟩ := hsame
  have hsync : ∀ z : Chip, z.syncSvc.svc = z.svc := fun z => (syncSvc_kept z).kept.svc (by simp)
  rw [bindIn_eq, hv, bind?_of_svc (hsync _), Chip.bindNext, ← hport, ← hroute, ← hiface]
  cases hs : v.1.setup with
  | nil =>
    rw [if_neg (hsetup.1 hs)]
    exact bindDone_bind? hopen d
  | cons p t =>
    rw [if_pos (by_contra fun hno => by
      have hnil := hsetup.2 hno
      rw [hs] at hnil
      cases hnil)]
    have hnext := updBind_bind? (f := fun z => { z with setup := t }) hopen rfl (by simp [Bind.is])
    refine (congrArg (Option.map Bind.pending) hnext).trans ?_
    exact congrArg some hpend

theorem settleOnce_binding {w : Waiter} {l : List Nat} {r : BitVec 20} {i : Nat} (hg : c.pond.grants = [(w, l)]) (hw : w.who = .binding n r i) :
    c.settleOnce = (c.updPond (fun p => { p with grants := [] })).bindGranted n r i (l.headD 0) := by
  obtain ⟨h, k, who, t⟩ := w
  subst hw
  have hdrop : c.updPond (fun p => { p with grants := p.grants.filter (fun z => z.1.who != .binding n r i) }) =
      c.updPond (fun p => { p with grants := [] }) := by
    simp [Chip.updPond, hg]
  unfold Chip.settleOnce
  rw [hg, ← hdrop]
  rfl

theorem bindGranted_bound {r : BitVec 20} {i : Nat} {d : Dev} {b : Bind} {y : Strm × Option Strm} (hdev : c.dev? n r = some d)
    (hb : c.bind? n r i = some b) (hp : b.pending.any (· != .setup) = true) (hy : c.bindStreams b = some y) (hh : c.hsRuns = true) (cid : Nat) :
    c.bindGranted n r i cid = c.bindIn b d cid y.1 y.2 := by
  have hfilter : (c.bind? n r i).filter (fun b => b.pending.any (· != .setup)) = some b := by
    rw [hb]
    exact if_pos hp
  unfold Chip.bindGranted
  rw [hfilter, hdev]
  dsimp only
  rw [hh, if_neg (by decide), hy]

theorem settle_one (hr : c.pond.rebuild = false) (hw : c.pond.waiters = []) (hg : c.pond.grants ≠ []) {d : Chip} (hd : c.settleOnce = d)
    (hnone : d.pond.grants = []) : c.settle = d := by
  unfold Chip.settle
  rw [hr, hw, if_neg (by simpa using hg)]
  show c.settleOnce.settleOnce = d
  rw [hd, Chip.settleOnce, hnone]
  rfl

theorem runs_retryGranted {r : BitVec 20} {i t : Nat} {h : Fin 99} {d : Dev} {b : Bind} {y : Strm × Option Strm} (hg : s.chip.pond.grants = [])
    (href : s.chip.pond.refused = [⟨h, 1, .binding n r i, t⟩]) (ht : t ≤ s.chip.clk.now) (hr : s.chip.pond.rebuild = false)
    (hw : s.chip.pond.waiters = []) (hv : s.chip.allocVerdict h 1 = rOK) (hdev : s.chip.dev? n r = some d) (hb : s.chip.bind? n r i = some b)
    (hp : b.pending.any (· != .setup) = true) (hy : s.chip.bindStreams b = some y) (hh : s.chip.hsRuns = true) :
    Runs (.waitListRetry n) s (fun c => c.pond.refused = [] ∧ (c.bind? n r i).map (·.pending) =
      some (if b.kind = kHID ∨ b.kind = kCDC ∨ b.kind = kPRINTER then some .setup else none)) := by
  have hexec : exec (.waitListRetry n) s = execWaitListRetry n s := rfl
  obtain ⟨g, hgroup⟩ : ∃ g, s.chip.waitGroup (.binding n r i) = g := ⟨_, rfl⟩
  obtain ⟨v, htake⟩ : ∃ v, s.chip.take h g 1 = v := ⟨_, rfl⟩
  have halloc : s.chip.alloc h g 1 = (.ok v.1, v.2) := by rw [alloc_eq_verdict _ _ _ (by decide), if_pos hv, htake]
  have hwait : WaitingKept s.chip v.2 := htake ▸ take_waiting _ _ _ _
  have hoff : v.2.pond.rebuild = false := htake ▸ (take_rebuild _ _ _ _).1.trans hr
  have hfr : Fr (keeping [.svc, .ports, .pwr, .fw] []) s.chip v.2 := htake ▸ (by apply Chip.take_fr2 (Fr.refl _ s.chip) <;> simp)
  obtain ⟨u, hu⟩ : ∃ u, v.2.updPond (fun p => { p with grants := [], refused := [] }) = u := ⟨_, rfl⟩
  have hsvc : u.svc = s.chip.svc := hu ▸ hfr.kept.svc (by simp)
  have hports : u.ports = s.chip.ports := hu ▸ hfr.kept.ports (by simp)
  have hruns : u.hsRuns = s.chip.hsRuns := hsRuns_of_kept (hu ▸ hfr.kept.fw (by simp)) (hu ▸ hfr.kept.pwr (by simp))
  have hbind : u.bind? n r i = some b := (bind?_of_svc hsvc n r i).trans hb
  have hgranted := bindGranted_bound ((dev?_of_ports hports n r).trans hdev) hbind hp ((bindStreams_of_svc hsvc b).trans hy) (hruns.trans hh) (v.1.headD 0)
  have hend : WaitingKept u (u.bindIn b d (v.1.headD 0) y.1 y.2) := bindIn_waiting _ _ _ _ _ _
  obtain ⟨hport, hroute, hiface⟩ := bind_place hb
  have hpending : ((u.bindIn b d (v.1.headD 0) y.1 y.2).bind? n r i).map (·.pending) =
      some (if b.kind = kHID ∨ b.kind = kCDC ∨ b.kind = kPRINTER then some .setup else none) := by
    subst hport hroute hiface
    exact bindIn_pending hbind d _ _ _
  obtain ⟨x, hx⟩ : ∃ x, v.2.updPond (fun p => { p with refused := p.refused.filter (fun z => z.who ≠ .binding n r i),
                                                        grants := p.grants ++ [(⟨h, 1, .binding n r i, t⟩, v.1)] }) = x := ⟨_, rfl⟩
  have hxg : x.pond.grants = [(⟨h, 1, .binding n r i, t⟩, v.1)] := by
    rw [← hx]
    show v.2.pond.grants ++ _ = _
    rw [hwait.grants, hg]
    rfl
  have honce : x.settleOnce = u.bindIn b d (v.1.headD 0) y.1 y.2 := by
    have hxu : x.updPond (fun p => { p with grants := [] }) = u := by
      rw [← hx, ← hu]
      simp [Chip.updPond, hwait.refused, href]
    rw [settleOnce_binding hxg rfl, hxu, hgranted]
  have hnone : u.pond.grants = [] ∧ u.pond.refused = [] := by
    rw [← hu]
    exact ⟨rfl, rfl⟩
  refine runs_of_settle_eq hexec (d := x) ?_ ?_
  · rw [href, refused_due (w := ⟨h, 1, .binding n r i, t⟩) (n := n) rfl ht]
    show (if s.chip.pond.rebuild then s.chip else _) = _
    rw [hr, if_neg (by decide), hgroup, halloc]
    exact hx
  · have hquiet : x.pond.rebuild = false ∧ x.pond.waiters = [] := by
      rw [← hx]
      exact ⟨hoff, hwait.waiters.trans hw⟩
    rw [settle_one hquiet.1 hquiet.2 (by rw [hxg]; simp) honce (hend.grants.trans hnone.1)]
    exact ⟨hend.refused.trans hnone.2, hpending⟩

/-! ### The scrubber (R159, R161, R163) -/

theorem runs_scrub {e : EccErr} {d : Chip} {p : Chip → Prop} (hen : s.chip.bit .POND_SCRUB F.POND_SCRUB_EN = true) (ha : s.chip.awake = true)
    (hz : s.chip.dozing = false) (hb : s.chip.clk.boot ≠ .held) (hd : (match e with
      | .none => s.chip.updPond (fun p => { p with scrub := (s.chip.pond.scrub + 1) % pondSize })
      | .single w => (s.chip.updPond (fun p => { p with scrub := (s.chip.pond.scrub + 1) % pondSize })).pondCe s.chip.pond.scrub w
      | .double _ => (s.chip.updPond (fun p => { p with scrub := (s.chip.pond.scrub + 1) % pondSize })).pondUe s.chip.pond.scrub) = d)
    (hg : d.pond.grants = []) (hp : p d) : Runs (.scrubStep e) s p := by
  have hexec : exec (.scrubStep e) s = execScrubStep e s := rfl
  refine runs_of_runS_eq hexec ((if_neg ?_).trans hd) hg hp
  rw [hen, ha, hz, beq_eq_false_iff_ne.2 hb]
  decide

theorem pondCe_state (hc : Canon c) (i w : Nat) : (c.pondCe i w).pond = c.pond ∧
    ((c.pondCe i w).rd .POND_CE_COUNT).toNat = sat 32 ((c.rd .POND_CE_COUNT).toNat + 1) ∧
    (c.pondCe i w).bit .POND_STATUS F.POND_STATUS_CE_SEEN = true ∧ (c.pondCe i w).bitAt .GLB_FAULT F.GLB_FAULT_SRC 8 = true := by
  unfold Chip.pondCe
  extract_lets u v e
  have hu : Canon u := canon_wr hc _ _
  have hv : Canon v := canon_record hu _ _
  have h1 : Fr (keeping [.pond] [.POND_CE_COUNT, .POND_STATUS]) v (v.fault .pondCe e) := by apply Chip.fault_fr (Fr.refl _ v) <;> simp
  have h2 : Fr (keeping [.pond] [.POND_CE_COUNT, .POND_STATUS, .GLB_FAULT]) (v.fault .pondCe e) ((v.fault .pondCe e).postRate (sec 1) 0 e) := by
    apply Chip.postRate_fr (Fr.refl _ _) <;> simp
  refine ⟨?_, ?_, ?_, ?_⟩
  · rw [h2.kept.pond (by simp), h1.kept.pond (by simp)]
    rfl
  · rw [h2.kept.regs _ (by simp), h1.kept.regs _ (by simp), rd_record_other u _ (by simp), rd_wr_same c hc, BitVec.toNat_ofNat]
    exact Nat.mod_eq_of_lt (Nat.lt_of_le_of_lt (Nat.min_le_right _ _) (by decide))
  · rw [bit_of_rd (h2.kept.regs _ (by simp)), bit_of_rd (h1.kept.regs _ (by simp))]
    exact bit_record_same u hu _ _ (by decide) (by decide)
  · rw [bitAt_of_rd (h2.kept.regs _ (by simp))]
    exact bitAt_fault v hv .pondCe e

/-- A context in no use or a mark's leaves nothing of its structure to take down. -/
theorem ueAct_light {i : Nat} {v : Ctx} (h : v.typ = tMARK ∨ v.typ = tFREE) : (c.ueAct i v).pond = c.pond ∧ (c.ueAct i v).regs = c.regs := by
  have hact : c.ueAct i v = c.ueMark i v ∨ c.ueAct i v = c := by
    unfold Chip.ueAct
    rcases h with h | h
    · have hk : ueAction v.typ v.holder = 2 := by
        rw [h]
        rfl
      rw [hk]
      exact .inl rfl
    · have hk : ueAction v.typ v.holder = 6 := by
        rw [h]
        rfl
      rw [hk]
      exact .inr rfl
  rcases hact with h | h
  · rw [h]
    unfold Chip.ueMark
    split <;> exact ⟨rfl, rfl⟩
  · rw [h]
    exact ⟨rfl, rfl⟩

/-- The Pond but for whether the low mark is armed. -/
def PondNear (c x : Chip) : Prop := ∃ b, x.pond = { c.pond with lowArmed := b }

theorem PondNear.of_pond (h : x.pond = c.pond) : PondNear c x := ⟨c.pond.lowArmed, h⟩

theorem PondNear.ctx (h : PondNear c x) (i : Nat) : x.ctx i = c.ctx i := by
  obtain ⟨b, hb⟩ := h
  exact ctx_of_ctxs (by rw [hb]) i

/-- A context as it is poisoned (R163). -/
def poisoned (c : Chip) (i : Nat) : Chip := (c.evict i (c.ctx i)).setCtx i { typ := tFREE, holder := 0xFF, gen := (c.ctx i).gen, poisoned := true }

theorem poison_state (hc : Canon c) (i : Nat) : Canon (c.poison i) ∧ PondNear (poisoned c i) (c.poison i) := by
  have hp : Canon (poisoned c i) := by
    obtain ⟨h1, h2, h3⟩ := (evict_fr c i (c.ctx i)).canon hc
    exact ⟨h1, h2, h3⟩
  unfold Chip.poison
  extract_lets v u w z h
  have hu : u = poisoned c i := rfl
  have hw : Canon w := canon_setF (hu ▸ hp) _ _ _
  split
  · obtain ⟨y, hy⟩ : ∃ y, (if z.pFree < z.pReserved then z.setF .POND_WAIT F.POND_WAIT_RESERVED z.pFree else z) = y := ⟨_, rfl⟩
    have hz : Canon y ∧ y.pond = (poisoned c i).pond := by
      rw [← hy]
      split
      · exact ⟨canon_setF (canon_setF hw _ _ _) _ _ _, rfl⟩
      · exact ⟨canon_setF hw _ _ _, rfl⟩
    have hpool : Fr (keeping [] []) y y.poolEvents := by apply Chip.poolEvents_fr (Fr.refl _ y) <;> simp
    obtain ⟨b, hb⟩ := poolEvents_pond y
    rw [hy]
    exact ⟨hpool.canon hz.1, b, by rw [hb, hz.2]⟩
  · exact ⟨(quotaCheck_fr _ _ _).canon (canon_setF hw _ _ _), .of_pond ((quotaCheck_fr _ _ _).kept.pond (by decide))⟩

/-- An uncorrectable context told: POND_ERR_CID, UE_SEEN and the fault (R163). -/
def ueTold (c : Chip) (i typ : Nat) (r : Route) (e : Event) : Chip :=
  (((((c.setF .POND_ERR_CID F.POND_ERR_CID_TYPE typ).setF .POND_ERR_CID F.POND_ERR_CID_CID i).bump .POND_ERR_CID).record .POND_STATUS
    F.POND_STATUS_UE_SEEN).fault .pondUe e).postR r e

theorem ueTold_state (hc : Canon c) {i : Nat} (hi : i < pondSize) (typ : Nat) (r : Route) (e : Event) :
    (ueTold c i typ r e).pond = c.pond ∧ (ueTold c i typ r e).get .POND_ERR_CID F.POND_ERR_CID_CID = i ∧
    (ueTold c i typ r e).bit .POND_STATUS F.POND_STATUS_UE_SEEN = true ∧ (ueTold c i typ r e).bitAt .GLB_FAULT F.GLB_FAULT_SRC 7 = true := by
  obtain ⟨u, hu⟩ : ∃ u, ((c.setF .POND_ERR_CID F.POND_ERR_CID_TYPE typ).setF .POND_ERR_CID F.POND_ERR_CID_CID i).bump .POND_ERR_CID = u := ⟨_, rfl⟩
  have htyp : Canon (c.setF .POND_ERR_CID F.POND_ERR_CID_TYPE typ) := canon_setF hc _ _ _
  have huc : Canon u := hu ▸ canon_bump (canon_setF htyp _ _ _) _
  have hcid : u.get .POND_ERR_CID F.POND_ERR_CID_CID = i := by
    rw [← hu, get_bump _ (canon_setF htyp _ _ _) _ _ (by decide), get_setF_same _ htyp _ _ _ (by decide)]
    exact Nat.mod_eq_of_lt hi
  obtain ⟨v, hv⟩ : ∃ v, u.record .POND_STATUS F.POND_STATUS_UE_SEEN = v := ⟨_, rfl⟩
  have hvc : Canon v := hv ▸ canon_record huc _ _
  have h1 : Fr (keeping [.pond] [.POND_ERR_CID, .POND_STATUS]) v (v.fault .pondUe e) := by apply Chip.fault_fr (Fr.refl _ v) <;> simp
  have h2 : Fr (keeping [.pond] [.POND_ERR_CID, .POND_STATUS, .GLB_FAULT]) (v.fault .pondUe e) ((v.fault .pondUe e).postR r e) :=
    Chip.postR_fr (Fr.refl _ _) (by simp)
  unfold ueTold
  rw [hu, hv]
  refine ⟨?_, ?_, ?_, ?_⟩
  · rw [h2.kept.pond (by simp), h1.kept.pond (by simp), ← hv, ← hu]
    rfl
  · rw [get_of_rd (h2.kept.regs _ (by simp)), get_of_rd (h1.kept.regs _ (by simp)), ← hv, get_of_rd (rd_record_other u _ (by simp)), hcid]
  · rw [bit_of_rd (h2.kept.regs _ (by simp)), bit_of_rd (h1.kept.regs _ (by simp)), ← hv]
    exact bit_record_same u huc _ _ (by decide) (by decide)
  · rw [bitAt_of_rd (h2.kept.regs _ (by simp))]
    exact bitAt_fault v hvc .pondUe e

/-- The first error of a context that nothing hangs on. -/
theorem pondUe_fresh {i : Nat} (hp : (c.ctx i).poisoned = false) (hw : c.ueWin? i (c.ueGroup i) = none) : ∃ (r : Route) (e : Event) (f : Pond → List UeWin),
    c.pondUe i = ((ueTold (c.poison i) i (c.ctx i).typ r e).updPond (fun p => { p with ueOpen := f p })).ueAct i (c.ctx i) := by
  unfold Chip.pondUe
  dsimp only
  rw [hp, hw, if_neg (by decide)]
  exact ⟨_, _, _, rfl⟩

theorem pondUe_state {i : Nat} (hc : Canon c) (hi : i < pondSize) (ht : (c.ctx i).typ = tMARK ∨ (c.ctx i).typ = tFREE)
    (hw : c.ueWin? i (c.ueGroup i) = none) : (c.pondUe i).pond.grants = c.pond.grants ∧ ((c.pondUe i).ctx i).poisoned = true ∧
      (c.pondUe i).pond.scrub = c.pond.scrub ∧ ((c.ctx i).poisoned = false →
        (c.pondUe i).get .POND_ERR_CID F.POND_ERR_CID_CID = i ∧ (c.pondUe i).bit .POND_STATUS F.POND_STATUS_UE_SEEN = true ∧
        (c.pondUe i).bitAt .GLB_FAULT F.GLB_FAULT_SRC 7 = true) := by
  cases hp : (c.ctx i).poisoned with
  | true =>
    have hstay : c.pondUe i = c := by
      unfold Chip.pondUe
      dsimp only
      rw [hp, hw]
      rfl
    rw [hstay]
    exact ⟨rfl, hp, rfl, fun h => by cases h⟩
  | false =>
    obtain ⟨r, e, f, hue⟩ := pondUe_fresh hp hw
    obtain ⟨hcan, hnear⟩ := poison_state hc i
    obtain ⟨htold, hcid, hseen, hfault⟩ := ueTold_state hcan hi (c.ctx i).typ r e
    obtain ⟨w, hw⟩ : ∃ w, ueTold (c.poison i) i (c.ctx i).typ r e = w := ⟨_, rfl⟩
    rw [hw] at hue htold hcid hseen hfault
    obtain ⟨hpond, hregs⟩ := ueAct_light (c := w.updPond (fun p => { p with ueOpen := f p })) (i := i) ht
    have hrd : ∀ q, (c.pondUe i).rd q = w.rd q := fun q => by
      rw [hue, Chip.rd, hregs]
      rfl
    have hctx : (c.pondUe i).ctx i = (poisoned c i).ctx i := by
      rw [← hnear.ctx i]
      exact ctx_of_ctxs (by rw [hue, hpond, ← htold]; rfl) i
    obtain ⟨b, hb⟩ := hnear
    have hall : (c.pondUe i).pond.grants = c.pond.grants ∧ (c.pondUe i).pond.scrub = c.pond.scrub := by
      have hev : (c.evict i (c.ctx i)).pond = c.pond := (evict_fr c i (c.ctx i)).kept.pond (by decide)
      rw [hue, hpond]
      show w.pond.grants = _ ∧ w.pond.scrub = _
      rw [htold, hb]
      have hgrants := congrArg Pond.grants hev
      have hscrub := congrArg Pond.scrub hev
      exact ⟨hgrants, hscrub⟩
    refine ⟨hall.1, ?_, hall.2, fun _ => ⟨(get_of_rd (hrd _) _).trans hcid, (bit_of_rd (hrd _) _).trans hseen, (bitAt_of_rd (hrd _) _ _).trans hfault⟩⟩
    rw [hctx, poisoned, ctx_setCtx_same]

theorem runs_scrubStep {e : EccErr} (hc : Canon s.chip) (hg : s.chip.pond.grants = []) (hen : s.chip.bit .POND_SCRUB F.POND_SCRUB_EN = true)
    (ha : s.chip.awake = true) (hz : s.chip.dozing = false) (hb : s.chip.clk.boot ≠ .held) (hi : s.chip.pond.scrub < pondSize)
    (ht : (s.chip.ctx s.chip.pond.scrub).typ = tMARK ∨ (s.chip.ctx s.chip.pond.scrub).typ = tFREE)
    (hw : s.chip.ueWin? s.chip.pond.scrub (s.chip.ueGroup s.chip.pond.scrub) = none) :
    Runs (.scrubStep e) s (fun c => c.pond.scrub = (s.chip.pond.scrub + 1) % pondSize ∧
      (∀ w, e = .single w → (c.rd .POND_CE_COUNT).toNat = sat 32 ((s.chip.rd .POND_CE_COUNT).toNat + 1) ∧
        c.bit .POND_STATUS F.POND_STATUS_CE_SEEN = true ∧ c.bitAt .GLB_FAULT F.GLB_FAULT_SRC 8 = true) ∧
      (∀ w, e = .double w → (c.ctx s.chip.pond.scrub).poisoned = true ∧
        ((s.chip.ctx s.chip.pond.scrub).poisoned = false →
          c.get .POND_ERR_CID F.POND_ERR_CID_CID = s.chip.pond.scrub ∧ c.bit .POND_STATUS F.POND_STATUS_UE_SEEN = true ∧
          c.bitAt .GLB_FAULT F.GLB_FAULT_SRC 7 = true))) := by
  obtain ⟨u, hu⟩ : ∃ u, s.chip.updPond (fun p => { p with scrub := (s.chip.pond.scrub + 1) % pondSize }) = u := ⟨_, rfl⟩
  have huc : Canon u := hu ▸ ⟨hc.regs, hc.flash, hc.blocks⟩
  have hug : u.pond.grants = [] := by
    rw [← hu]
    exact hg
  have hus : u.pond.scrub = (s.chip.pond.scrub + 1) % pondSize := by rw [← hu]; rfl
  cases e with
  | none => exact runs_scrub hen ha hz hb hu hug ⟨hus, (fun w h => by cases h), fun w h => by cases h⟩
  | single w =>
    obtain ⟨hpond, hcount, hseen, hfault⟩ := pondCe_state huc s.chip.pond.scrub w
    refine runs_scrub hen ha hz hb (congrArg (fun d : Chip => d.pondCe s.chip.pond.scrub w) hu) ?_ ⟨?_, fun v _ => ⟨hcount.trans ?_, hseen, hfault⟩, fun v h => by cases h⟩
    · rw [hpond]
      exact hug
    · rw [hpond]
      exact hus
    · rw [← hu]
      rfl
  | double w =>
    have hctx : u.ctx s.chip.pond.scrub = s.chip.ctx s.chip.pond.scrub := by rw [← hu]; rfl
    obtain ⟨hgr, hpois, hscrub, hnew⟩ := pondUe_state huc hi (by rw [hctx]; exact ht) (by rw [← hu]; exact hw)
    refine runs_scrub hen ha hz hb (congrArg (fun d : Chip => d.pondUe s.chip.pond.scrub) hu) (hgr.trans hug) ⟨hscrub.trans hus, (fun v h => by cases h), fun v _ => ⟨hpois, fun h => hnew ?_⟩⟩
    rw [hctx]
    exact h

/-! ### Caches (R159) -/

theorem runs_writeback (e : Engine) : Runs (.cacheWriteback e) s (fun c => (c.engines[e]).cache = (s.chip.engines[e]).cache.map (fun x => (x.1, false))) := by
  have hexec : exec (.cacheWriteback e) s = execCacheWriteback e s := rfl
  exact runs_of_run hexec (by rw [updEng_same])

/-! ### The directory (R162, R163, R354) -/

theorem runs_directoryUe (hg : s.chip.pond.grants = []) (hr : s.chip.pond.rebuild = false) :
    Runs .directoryUe s (fun c => c.pond = { s.chip.pond with rebuild := true }) := by
  have hexec : exec .directoryUe s = execDirectoryUe s := rfl
  exact runs_of_runS_eq hexec (d := s.chip.updPond (fun p => { p with rebuild := true })) (if_neg (by rw [hr]; decide)) hg rfl

theorem closeStream_rebuild (c : Chip) (s : Strm) (free : Bool) : RebuildKept c (c.closeStream s free) := by
  unfold Chip.closeStream
  extract_lets u1 u2 u3 u4
  have h1 : RebuildKept c u1 := endBinds_rebuild c _ _
  have h3 : RebuildKept u1 u3 := ⟨rfl, rfl⟩
  have h4 : RebuildKept u3 u4 := by
    unfold u4
    split
    · exact freeCtx_rebuild u3 _
    · exact .refl _
  exact (h1.trans h3).trans (h4.trans ⟨rfl, rfl⟩)

theorem removeNode_rebuild (c : Chip) (n : Port) (a cause : Nat) (own : Bool) (req : Option ReqId) : RebuildKept c (c.removeNode n a cause own req) := by
  unfold Chip.removeNode
  split
  · exact .refl _
  · next r _ =>
    extract_lets serial u1 u2 late u3 u4 u5 u6 hold u7
    have h2 : Fr (keeping [.pond, .svc] []) c u2 := by refine Chip.answerUlps_fr (Chip.bumpNode_fr (Fr.refl _ c) ?_ ?_) ?_ ?_ ?_ ?_ <;> simp
    have h4 : RebuildKept u2 u4 := by
      unfold u4
      split
      · exact ⟨rfl, rfl⟩
      · exact .of_fr (by refine Chip.sendUlp_fr (Chip.updLine_fr (Fr.refl _ u2) ?_) ?_ <;> simp)
    have h6 : RebuildKept u4 u6 := (bulkFree_rebuild u4 _).trans (freeCtx_rebuild u5 _)
    have h7 : RebuildKept c u7 := ((RebuildKept.of_fr h2).trans h4).trans (h6.trans ⟨rfl, rfl⟩)
    split
    · exact h7
    · exact h7.trans (.of_fr (by refine Chip.answerOpt_fr (Chip.evRemoved_fr (Fr.refl _ u7) ?_) ?_ ?_ ?_ ?_ <;> simp))

theorem ueDevice_rebuild (c : Chip) (n : Port) (dev : Nat) : RebuildKept c (c.ueDevice n dev) := by
  unfold Chip.ueDevice
  split
  · exact .refl _
  · next r _ =>
    extract_lets speed u
    have hu : RebuildKept c u := detach_rebuild c n r _
    split
    · exact hu.trans (.of_fr (by apply Chip.startReset_fr (Fr.refl _ u) <;> simp))
    · exact (hu.trans (.of_fr (by apply Chip.attachBelow_fr (Fr.refl _ u) <;> simp))).trans (nextEnum_rebuild _ n)

theorem ueService_rebuild (c : Chip) (i : Nat) : RebuildKept c (c.ueService i) := by
  unfold Chip.ueService
  extract_lets u v
  have hu : RebuildKept c u := endBinds_rebuild c _ _
  have hv : RebuildKept u v := RebuildKept.each (fun d b => (RebuildKept.of_fr (Chip.dropCtls_fr (Fr.refl _ d) (by simp))).trans (bindAgain_rebuild _ _)) _ u
  have h : RebuildKept c v := hu.trans hv
  have hdrop : ∀ f : Pond → List (Waiter × List Nat), RebuildKept c (v.updPond (fun p => { p with grants := f p })) := fun _ => h.trans ⟨rfl, rfl⟩
  clear_value v
  split
  · split
    · dsimp only
      split
      · exact (hdrop _).trans (bindAgain_rebuild _ _)
      · exact hdrop _
    · exact h
  · exact h

theorem uePage_rebuild (c : Chip) (i : Nat) (b : Body) : (c.uePage i b).pond.rebuild = c.pond.rebuild := by
  unfold Chip.uePage
  split
  · rfl
  · split <;> rfl
  · rfl

theorem ueAct_rebuild (c : Chip) (i : Nat) (v : Ctx) : (c.ueAct i v).pond.rebuild = c.pond.rebuild := by
  unfold Chip.ueAct
  split
  · exact (ueDevice_rebuild c _ _).1
  · split
    · exact (removeNode_rebuild c _ _ _ _ _).1
    · rfl
  · split
    · exact (closeStream_rebuild c _ _).1
    · rfl
  · unfold Chip.ueMark
    split <;> rfl
  · exact (ueService_rebuild c i).1
  · exact uePage_rebuild c i _
  · rfl

theorem ueSecond_rebuild (c : Chip) (w : UeWin) : RebuildKept c (c.ueSecond w) := by
  have h : ∀ k, RebuildKept c (c.escalate 5 2 k 0x0607) := fun k => .of_fr (by apply Chip.escalate_fr (Fr.refl _ c) <;> simp)
  unfold Chip.ueSecond
  split
  · exact h 0
  · exact (h _).trans (startScope_rebuild _ _ _ _ _)

theorem poison_rebuild (c : Chip) (i : Nat) : RebuildKept c (c.poison i) := by
  unfold Chip.poison
  extract_lets x u w z h
  have hev : RebuildKept c (c.evict i x) := .of_fr (by apply Chip.evict_fr (Fr.refl _ c); simp)
  have hw : RebuildKept c w := hev.trans ⟨rfl, rfl⟩
  have hquota : ∀ (d : Chip) k, RebuildKept d (d.quotaCheck k false) := fun d _ => .of_fr (by apply Chip.quotaCheck_fr (Fr.refl _ d) <;> simp)
  have hset : ∀ (d : Chip) r f v, RebuildKept d (d.setF r f v) := fun d r f v => ⟨rfl, rfl⟩
  split
  · refine RebuildKept.trans ?_ (poolEvents_rebuild _)
    split
    · exact (hw.trans (hset _ _ _ _)).trans (hset _ _ _ _)
    · exact hw.trans (hset _ _ _ _)
  · exact (hw.trans (hset _ _ _ _)).trans (hquota _ _)

theorem pondUe_rebuild (c : Chip) (i : Nat) : (c.pondUe i).pond.rebuild = c.pond.rebuild := by
  unfold Chip.pondUe
  extract_lets x g w now route e u1 u2 u3 u4 u5
  clear_value w
  split
  · split
    · rfl
    · exact (ueSecond_rebuild _ _).1
  · have h1 : RebuildKept c u1 := poison_rebuild c i
    have h4 : RebuildKept u1 u4 := ⟨rfl, rfl⟩
    have h5 : RebuildKept u4 u5 := .of_fr (by refine Chip.postR_fr (Chip.fault_fr (Fr.refl _ u4) ?_ ?_ ?_) ?_ <;> simp)
    have h : RebuildKept c u5 := (h1.trans h4).trans h5
    split
    · exact (ueSecond_rebuild _ _).1.trans h.1
    · exact (ueAct_rebuild _ i x).trans h.1

theorem runs_directoryRebuildEnd {l : List Cid} (hr : s.chip.pond.rebuild = true) :
    Runs (.directoryRebuildEnd l) s (fun c => c.pond.rebuild = false) := by
  have hexec : exec (.directoryRebuildEnd l) s = execDirectoryRebuildEnd l s := rfl
  obtain ⟨u, hu⟩ : ∃ u, s.chip.updPond (fun p => { p with rebuild := false, held := [] }) = u := ⟨_, rfl⟩
  have hoff : u.pond.rebuild = false := by
    rw [← hu]
    rfl
  obtain ⟨v, hv⟩ : ∃ v, u.each l (fun c x => c.pondUe x.toNat) = v := ⟨_, rfl⟩
  have hvoff : v.pond.rebuild = u.pond.rebuild := hv ▸ each_keeps (fun d => d.pond.rebuild) (fun d a => pondUe_rebuild d a.toNat) u l
  obtain ⟨w, hw⟩ : ∃ w, v.each s.chip.pond.held Chip.runHeld = w := ⟨_, rfl⟩
  have hwk : RebuildKept v w := hw ▸ RebuildKept.each runHeld_rebuild _ v
  refine runs_of_settle_eq hexec (d := Chip.serveWaiters (w.pond.waiters.length + 1) w) ?_ ?_
  · refine (if_neg (by rw [hr]; decide)).trans ?_
    rw [hu]
    dsimp only
    rw [hv, hw]
  · exact (settle_rebuild _).1.trans ((serveWaiters_rebuild _ w).1.trans (hwk.1.trans (hvoff.trans hoff)))

theorem runs_serviceTableRebuildEnd {b : Nat} {v : CompEnt × Chip} (hr : s.chip.svc.rebuilding = true) (hh : s.chip.hsRuns = true)
    (hp : s.chip.pond.rebuild = false) (hb : s.chip.svc.tablesBank = some b) (hv : s.chip.applyTables b = .ok v) :
    Runs .serviceTableRebuildEnd s (fun c => c.svc.rebuilding = false) := by
  have hexec : exec .serviceTableRebuildEnd s = execServiceTableRebuildEnd s := rfl
  obtain ⟨k, u⟩ := v
  refine runs_of_settle_eq hexec (d := (u.updSvc (fun v => { v with rebuilding := false })).classMatchAll) ?_ ?_
  · simp only [hr, hh, hp, hb, hv, Bool.not_false, Bool.and_self]
  · exact (settle_rebuild _).2.trans (classMatchAll_rebuild _).2

end

/-- Settles O31: an allocation takes effect or leaves its refusal (`runs_pondGranted`, `runs_pondRefused`), a retry joins the wait list or
binds what it is granted (`runs_retryGranted`), the scrubber poisons what it cannot correct (`runs_scrubStep`), and the ends of the rebuilds
leave nothing being rebuilt (`pondUe_rebuild`, `runHeld_rebuild`, `settle_rebuild`). -/
theorem pondService : Obligations.PondService := by
  unfold Obligations.PondService
  intro s hc hg
  refine ⟨?_, ?_, ?_, ?_, ?_, ?_, ?_, ?_, ?_, ?_, ?_, ?_, ?_, ?_⟩
  · intro h t k ht1 ht7 hk1 hk64 hr hv
    exact runs_pondGranted hc hg ⟨ht1, ht7⟩ ⟨hk1, hk64⟩ hr hv
  · intro h t k ht1 ht7 hk1 hk64 hr hv
    exact runs_pondRefused hg ⟨ht1, ht7⟩ ⟨hk1, hk64⟩ hr hv
  · intro h t k hr
    exact runs_pondAllocHeld hg hr
  · intro i h ht hp hw hh hf
    exact runs_contextFree hc hg ht hp hw hh hf
  · intro h t hr hw hs
    exact runs_bulkFree hg hr hw hs
  · intro h t hr
    exact runs_bulkFreeHeld hg hr
  · intro n w hw ht
    exact runs_retryEarly hg hw ht
  · intro n w hw hp ht hr hv hno hroom
    exact runs_retryRefused hg hw hp ht hr hv hno hroom
  · intro n r i h d b y t href ht hr hw hv hdev hb hp hy hh
    exact runs_retryGranted hg href ht hr hw hv hdev hb hp hy hh
  · intro e hen ha hz hb hi ht hw
    exact runs_scrubStep hc hg hen ha hz hb hi ht hw
  · exact runs_writeback
  · exact runs_directoryUe hg
  · intro l hr
    exact runs_directoryRebuildEnd hr
  · intro b v hr hh hp hb hv
    exact runs_serviceTableRebuildEnd hr hh hp hb hv

end Sys2Proof.Proofs
